-- ==== Sys2Proof/Word.lean ====
section
/-! DEFINITION. The words of the PQT-96: bytes, the numbered items of 00_scope.md R4, the enumerations of the spec that
commands and state share, and the plain records that a command carries. -/

namespace Sys2Proof

/-- One byte of a frame, a value or a record (00_scope.md R10). -/
abbrev Byte := BitVec 8

/-- A lane: 0 to 95 = L0–L95, 96 to 99 = K0–K3 (R4; 2000h + n and 2060h + k are contiguous, 03_lanes.md R86). -/
abbrev LaneId := Fin 100
/-- A port P0–P95 (R4). -/
abbrev PortId := Fin 96
/-- A cluster C0–C23 (R4). -/
abbrev ClusterId := Fin 24
/-- A region G0–G7 (R4). -/
abbrev RegionId := Fin 8
/-- A synthesizer S0–S7 (R4). -/
abbrev SynthId := Fin 8
/-- A synthesizer pair 0–3 (R7). -/
abbrev PairId := Fin 4
/-- A time base TB0–TB7 (R4). -/
abbrev TbId := Fin 8
/-- A reference slot SL0–SL7 (R4). -/
abbrev SlotId := Fin 8
/-- A compare CP0–CP31 (09_time_bases.md R238). -/
abbrev CompareId := Fin 32
/-- A firefly output FF0–FF15 (R4). -/
abbrev FireflyId := Fin 16
/-- A capture input EV0–EV15 (R4). -/
abbrev CaptureId := Fin 16
/-- A hub engine E0–E15 (R4). -/
abbrev EngineId := Fin 16
/-- A session SN0–SN7 (R4). -/
abbrev SessionId := Fin 8
/-- An occupancy monitor OM0–OM15 (17_engines_and_counters.md R444). -/
abbrev MonitorId := Fin 16
/-- A sensor bank: 0 to 3 = D0–D3, 4 = H (13_calibration.md R342). -/
abbrev BankId := Fin 5
/-- A table code of 05_forwarding.md R142: 0 forwarding database, 1 VLAN, 2 classifier, 3 stream, 4 contracts, 5 port sets. -/
abbrev TableId := Fin 6

/-- The roles of 16_object_dictionary.md R407, lowest first. -/
inductive Role where
  | observe | operate | own | service
deriving DecidableEq, Repr

/-- The number of a role in F000h.03 (R428). -/
def Role.code : Role → Nat
  | .observe => 0
  | .operate => 1
  | .own => 2
  | .service => 3

/-- The role of a number; numbers above 3 read as the lowest role. -/
def Role.ofCode : Nat → Role
  | 1 => .operate
  | 2 => .own
  | 3 => .service
  | _ => .observe

/-- Which lock a lane loses (03_lanes.md R86). -/
inductive LockKind where
  | cdr | block
deriving DecidableEq, Repr

/-- How a frame's tail turns out at the ingress port edge (05_forwarding.md R136). -/
inductive TailKind where
  | good | fcsError | oversize | macsecFail | cut
deriving DecidableEq, Repr

/-- How the write of a link identity record ends (04_ports_and_modules.md R108). -/
inductive RecordWriteEnd where
  | verified | mismatch | protectedModule | moduleRemoved
deriving DecidableEq, Repr, Inhabited

/-- What a scrub read of a table entry finds (05_forwarding.md R146). -/
inductive ScrubFinding where
  | clean | single | uncorrectable | blockMismatch
deriving DecidableEq, Repr

/-- What the ECC of a buffer cell shows (07_buffers_and_queues.md R183, R184). -/
inductive EccFinding where
  | clean | single | uncorrectable
deriving DecidableEq, Repr

/-- What a probe reaches: of an engine a register, a word of its local memory, a word of the memory that all engines share, or a breakpoint; and,
to read, the words of C050h (17_engines_and_counters.md R431; 18_security_debug_states.md R465). -/
inductive ProbeTarget where
  | register | local_ | shared | breakpoint | certificate | fuses
deriving DecidableEq, Repr

/-- The place of a held cell in a region's slice (07_buffers_and_queues.md R184): on the ingress side, where the copies of a frame share it, or on
the egress side. -/
structure HeldPlace where
  egress : Bool
  port : Nat
  serial : Nat
  variant : Nat
  index : Nat
deriving DecidableEq, Repr

/-- A frame start at a port edge (10_timestamping_and_links.md R261, R264): the phases in ps that the serving detector has measured since the last
one, one for each port-edge period, and the place of the first destination-address bit in the word. -/
structure StartEdge where
  phases : List Nat := []
  bit : Nat := 0
  /-- The phases of the detector that measures alongside it, while one does (R265). -/
  beside : List Nat := []
deriving DecidableEq, Repr

/-- What the header and the check of an arriving Keacon frame say (14_twin_pair.md R352): its class, class sequence, payload length and sender, and
whether its FCS is good. Content that takes several frames names its first one and how many there were. -/
structure KeaconHead where
  cls : Nat
  sequence : Nat
  sender : Nat := 0
  length : Nat := 0
  fcsOk : Bool := true
  frames : Nat := 1
deriving DecidableEq, Repr

/-- What the mirror sends over the link: to the shadow a commit or an image with its epoch; back to the lead the epoch of a commit applied or refused, or
that a frame of class 3 was lost (14_twin_pair.md R350, R351, R364 to R366). -/
inductive MirrorMessage where
  | commit (image : Bool) (epoch : Nat) (values : List (Nat × Nat × List Byte))
  | applied (epoch : Nat)
  | refused (epoch : Nat)
  | lost
deriving DecidableEq, Repr

/-- The Keacon class that carries it: 3 mirror, 2 control (R351). -/
def MirrorMessage.cls : MirrorMessage → Nat
  | .commit .. => 3
  | .applied _ | .refused _ | .lost => 2

/-- What a Keacon frame of classes 2 to 4 brings (14_twin_pair.md R351, R364, R372, R374). -/
inductive KeaconContent where
  | mirror (message : MirrorMessage)
  | cover (ports vid priority untag : Nat) (payload : List Byte)
  | coverNotice (p : PortId)
  | uncoverNotice (p : PortId)
  | uncoverAck (p : PortId)
deriving DecidableEq, Repr

/-- A Keacon frame that waits for an earlier one of its class (14_twin_pair.md R350). -/
structure KeaconHeld where
  cls : Nat
  head : KeaconHead
  content : KeaconContent
deriving DecidableEq, Repr

/-- How the header of an arriving cell checks (06_cyclic_fabric.md R169, R170). -/
inductive HeaderCheck where
  | clean | corrected | uncorrectable
deriving DecidableEq, Repr

/-- The levels of A010h.07 (15_faults.md R403): what a fence command names. -/
inductive FenceLevel where
  | port | timestampUnit | detector | bank | engine | cluster | region
deriving DecidableEq, Repr

/-- Which rail or domain a supply monitor watches (20_pins_and_electrical.md R488, R491). -/
inductive SupplyRail where
  | portDie (d : Fin 4) | region (g : Fin 8) | hub | safety
deriving DecidableEq, Repr

/-- The values adapted in stage 4 (03_lanes.md R75, R501). -/
structure AdaptRecord where
  /-- The figure of merit found at each of the 16 CTLE settings of the sweep. -/
  sweep : List Nat := []
  /-- The kept setting reached the threshold within 10 ms: no sweep was run. -/
  keptReaches : Bool := false
  /-- Gain code, 0 to 255. -/
  gain : Nat := 0
  /-- The 12 DFE taps, tap 1 first. -/
  taps : List Int := []
  /-- The transmit coefficients c(−3) to c(1) as exchanged. -/
  tx : List Int := []
deriving DecidableEq, Repr

/-- A detection a detector outside the model's own units makes (15_faults.md R381). -/
structure Detection where
  /-- Fault source number. -/
  source : Nat
  /-- Item-specific detail byte of R390. -/
  detail : Nat := 0
deriving DecidableEq, Repr

/-- How a message of a host has arrived (16_object_dictionary.md R410): on Subrimi and raw Ethernet the port, the VID, and the source and destination
addresses of its frame (of Subrimi the source MAC and the IPv6 destination address); on CAN FD the node ID and the function of its identifier. -/
structure Arrival where
  port : Nat := 0
  vid : Nat := 0
  source : Nat := 0
  destination : Nat := 0
  function : Nat := 0
deriving DecidableEq, Repr

/-- Where the answer to a message goes: its transport, the host's transport address, and how the message came (16_object_dictionary.md R410, R428). -/
structure Route where
  transport : Nat := 1
  peer : List Byte := []
  arrival : Arrival := {}
deriving DecidableEq, Repr

/-- The header fields of a request that the server checks before its kind (16_object_dictionary.md R413, 18 R463). -/
structure Request where
  /-- The session the request names. -/
  session : SessionId
  /-- Request ID (R413). -/
  rid : Nat := 0
  /-- Sequence number of the trailer (R463). -/
  seq : Nat := 0
  /-- Whether the HMAC of the trailer verifies (log entry 6). -/
  macOk : Bool := true
  /-- How it has arrived (R410). -/
  arrival : Arrival := {}
deriving DecidableEq, Repr

/-- The findings of a start that are not the block's own state (19_start_up.md R473 to R479). -/
structure StartRun where
  /-- The TWIN_ID strap (R359). -/
  twinId : Nat := 0
  /-- How many of the steps of R475 or R476 the start carries out within this command; it then stands in the next one. -/
  reached : Nat := 10
  /-- Whether the hub PLL locks (step 3). -/
  hubPll : Bool := true
  /-- OSC_SEL: LOCAL_OSC runs at 25 MHz, otherwise at 10 MHz (R493, step 3). -/
  oscSelect : Bool := false
  /-- A failing BIST of PD8: its fault source (step 4). -/
  bistHub : Option Nat := none
  /-- Whether the base image's signature verifies (step 5). -/
  baseSigned : Bool := true
  /-- Version words of the base image: firmware version, layout version, security version. -/
  fwVersion : Nat := 0
  /-- Dictionary layout version. -/
  layout : Nat := 0
  /-- Security version of the base image (R457). -/
  baseSecurity : Nat := 0
  /-- Owner slots 1 to 3: whether present, whether the signature verifies, and the security version. -/
  owners : List (Bool × Bool × Nat) := []
  /-- Reading of the reference resistor in mΩ (R335). -/
  resistor : Nat := 2000000
  /-- Bit g: the supply of PDg comes into range within 2.0 ms (R479). -/
  suppliesUp : Nat := 255
  /-- Fault sources of the region BIST failures of step 7 (R479). -/
  bistRegions : List Nat := []
  /-- Measured delays of the time lines for the first calibration round (step 10; 13 R340). -/
  lineDelays : List Nat := []
  /-- Whether the check of each stored dictionary image, slot A and slot B, matches (R482). -/
  imageAOk : Bool := true
  imageBOk : Bool := true
deriving DecidableEq, Repr, Inhabited

/-- A Sync received on a slave port: its domain's time base, its origin and receipt referred to the reference plane, and its correctionField, in 2^-16
ns (10_timestamping_and_links.md R268). -/
structure SyncTimes where
  tb : TbId
  t1 : Int
  t2 : Int
  correction : Int
deriving DecidableEq, Repr

/-- The four times of a link-delay exchange, each referred to the reference plane, in 2^-16 ns: a delay request–response, or a peer delay (10
R268). -/
structure Exchange where
  peer : Bool
  t1 : Int
  t2 : Int
  t3 : Int
  t4 : Int
  /-- The Sync whose offset the exchange's delay gives, on a slave port that has received one. -/
  sync : Option SyncTimes := none
deriving DecidableEq, Repr

/-- The level of a pad. -/
inductive PinLevel where
  | low | high | highImpedance
deriving DecidableEq, Repr

/-- The opposite level. -/
def PinLevel.other : PinLevel → PinLevel
  | .low => .high | .high => .low | .highImpedance => .highImpedance

end Sys2Proof
end

