-- ==== Sys2Proof/Syntax.lean ====
section
/-! DEFINITION. The commands of the block: one constructor per row of spec/opcode_table.json, in the table's order. An
operand of a finite kind is a `Fin`; a measured value is a number. Rows that are a host's write carry the writer's role. -/

namespace Sys2Proof

/-- A command: one step of the PQT-96 (spec/opcode_table.json). -/
inductive Instr where
  -- 03_lanes.md
  | signalDetected (l : LaneId)
  | cdrLock (l : LaneId)
  | polarityTryExpiry (l : LaneId)
  | blockLock (l : LaneId) (order : Fin 4) (deskewPs : Nat)
  | adaptComplete (l : LaneId) (fom : BitVec 8) (rec : AdaptRecord)
  | syntonyIntervalEnd (l : LaneId) (offsetPpt : Int) (fill : Fin 33)
  | elasticFillLimit (l : LaneId)
  | rateMatchSwitch (l : LaneId)
  | syntonisedSwitch (l : LaneId)
  | trainingTimeout (l : LaneId)
  | backoffExpiry (l : LaneId)
  | retryNow (role : Role) (l : LaneId)
  | signalLoss (l : LaneId)
  | laneLockLoss (l : LaneId) (kind : LockKind)
  | reDeskewComplete (p : PortId) (deskewPs : Nat)
  | lanePllLockLoss (c : ClusterId)
  | lanePllRelock (c : ClusterId) (signals : BitVec 4)
  | reAdapt (role : Role) (l : LaneId)
  | fomMeasurement (l : LaneId) (h a : Nat)
  | quietTransmit (role : Role) (l : LaneId) (mode : Fin 3)
  | quietReceive (role : Role) (l : LaneId) (on : Bool)
  | testModeSet (role : Role) (l : LaneId) (code : Fin 5)
  | testModeClear (role : Role) (l : LaneId)
  | errorInjectionOne (role : Role) (l : LaneId)
  | errorInjectionRate (role : Role) (l : LaneId) (exponent : Nat)
  | injectedError (l : LaneId)
  | checkerSync (l : LaneId) (bits : List Bool)
  | checkerSyncLoss (l : LaneId) (bits errors : Nat)
  -- 04_ports_and_modules.md
  | moduleInsert (p : PortId)
  | moduleRemove (p : PortId)
  | rereadModule (role : Role) (p : PortId)
  | moduleIdentityRead (p : PortId) (page : List Byte) (modes : BitVec 7) (record : List Byte)
  | moduleReadyTimeout (p : PortId)
  | linkIdentityRecordWrite (role : Role) (p : PortId) (bytes : List Byte) (outcome : RecordWriteEnd)
  | diagnosticsPoll (p : PortId) (values : List Int)
  | modResetRelease (c : ClusterId)
  | statisticsClear (role : Role) (p : PortId) (coincident : List (Fin 16))
  -- 05_forwarding.md
  | frameArrival (p : PortId) (edge : StartEdge)
  | lookupWindowComplete (p : PortId) (window : List Byte) (unreadable : List (TableId × Nat))
  | cellFill (p : PortId) (payload : List Byte)
  | frameTail (p : PortId) (kind : TailKind) (payload : List Byte)
  | learnInsert
  | ageingStep
  | overlayFold (t : TableId)
  | drainTable (role : Role) (t : TableId)
  | drainComplete (t : TableId)
  | tableScrub (c : ClusterId) (t : TableId) (position : Nat) (finding : ScrubFinding)
  | scarabRestore (c : ClusterId) (t : TableId) (position : Nat)
  | frerResetTimeout (f : Fin 4096)
  | streamGateListActivation (g : Fin 256)
  | streamGateIntervalEnd (g : Fin 256)
  | hubFrameSend (ring : Fin 64) (kind : Fin 4) (destination : Nat) (untag : Nat) (priority : Fin 8) (queue : Fin 32)
      (payload : List Byte) (tag : BitVec 8) (insert : Fin 4) (passed : Int) (ingress : Option PortId)
  -- 06_cyclic_fabric.md
  | fabricSlot (slot : Fin 8)
  | cellArrival (stage2 : Bool) (from_ to_ : RegionId) (header : HeaderCheck) (payloadOk : Bool)
  | holeTimeout (dst src : RegionId) (contracted : Bool)
  | alignmentMark (g : RegionId) (offsetPs : Int)
  | resyncClear (m src : RegionId)
  | cutThroughHoldRelease (g : RegionId)
  | epochClose (dst : RegionId)
  | creditRestore (g : RegionId)
  -- 07_buffers_and_queues.md
  | egressSelection (p : PortId) (edge : StartEdge)
  | releaseInstant (p : PortId) (edge : StartEdge)
  | egressUnderrun (p : PortId)
  | ageSweep (g : RegionId)
  | gateListActivation (p : PortId)
  | gateIntervalEnd (p : PortId)
  | queueFlush (p : PortId) (q : Fin 32)
  | bufferScrub (g : RegionId) (bank : Fin 16) (held : Option HeldPlace) (finding : EccFinding)
  -- 09_time_bases.md and 11_references_and_holdover.md
  | measuredOffsetWrite (tb : TbId) (offset : Int)
  | steeringOffsetWrite (tb : TbId) (host : Option Role) (ppt : Int)
  | step (role : Role) (tb : TbId) (amount : Int)
  | stepEdge (tb : TbId)
  | set (host : Option Role) (tb : TbId) (seconds nanoseconds fraction : Nat)
  | setEdge (tb : TbId)
  | compareArm (role : Role) (c : CompareId)
  | compareDisarm (role : Role) (c : CompareId)
  | compareFire (c : CompareId)
  | fireflyGridInstant (f : FireflyId)
  | realignImmediate (role : Role) (f : FireflyId)
  | realignSlewed (role : Role) (f : FireflyId)
  | slewComplete (f : FireflyId)
  | captureEdge (e : CaptureId) (rising : Bool) (heldNs : Nat) (agePs : Nat)
  | captureRingRead (rq : Request)
  | resetRing (role : Role)
  -- 10_timestamping_and_links.md
  | timeLineMarker (line : Fin 32) (arrival : Option Int)
  | timeLineMessage (line : Fin 32)
  | delayResult (p : PortId) (exchange : Exchange)
  | acceptPresentDelay (role : Role) (p : PortId)
  | acceptProposal (role : Role) (p : PortId)
  | calibrateAsymmetry (role : Role) (p : PortId)
  | abortCalibration (role : Role) (p : PortId)
  | asymmetryCalibrationEnd (p : PortId)
  | detectorComparison (c : ClusterId) (j : Fin 4) (own spare : List Nat)
  | detectorCalibrationDone (c : ClusterId) (j : Fin 5) (offset gain : BitVec 10)
  | laneCalibrationMeasure (l : LaneId) (rxHundredths txHundredths : Nat) (trims : List (BitVec 10)) (biases : List Byte)
  | detectorHandback (c : ClusterId) (j : Fin 4) (own spare : List Nat)
  -- 11_references_and_holdover.md
  | slotGuardExpiry (s : SlotId)
  | disputeEnd (a b : SlotId)
  | candidateGuardExpiry (s : SlotId) (tb : TbId)
  | phaseAccept (role : Role) (tb : TbId) (s : SlotId)
  | pinInputLoss (s : SlotId)
  | esmcReceive (p : PortId) (ssm : BitVec 4) (essm : Option (BitVec 8))
  | esmcTimeout (s : SlotId)
  | esmcSend
  | frequencyLock
  -- 12_synthesis.md
  | synthLock (k : SynthId) (cycles peak : Nat) (last : Int)
  | synthLockLoss (k : SynthId) (errors : List Int)
  | backupReady (n : PairId) (cycles peak : Nat)
  | backupAlignmentLoss (n : PairId) (phase : Int)
  | swap (role : Role) (n : PairId)
  | syncInEdge (period : Fin 5)
  -- 13_calibration.md
  | calibrationPeriodExpiry (resistor : Nat) (lineDelays : List Nat)
  | temperatureTrigger (d : BankId) (resistor : Nat) (lineDelays : List Nat)
  | calibrateNow (role : Role) (resistor : Nat) (lineDelays : List Nat)
  | calibrationRoundEnd
  | fireflyVernierApply (f : FireflyId)
  | sensorChannelCalibration (d : BankId) (channel : Fin 7) (reading : Int)
  -- 14_twin_pair.md
  | keaconHandshake (k : Fin 4) (serial : BitVec 64) (twinId : Nat) (fwVersion layout : Nat) (twinLead : Bool)
      (twinFenced : Nat) (twinTb0 : Nat) (covers : List Nat)
  | cricketSend
  | cricketReceive (k : Fin 4) (head : KeaconHead) (payload : List Byte) (received : List Int)
  | cricketTimeout
  | twinWaitExpiry
  | handover (role : Role)
  | holdoverTakeover
  | yieldReceive
  | twinHoldInChange (asserted : Bool)
  | sharedOutputEnable
  | holdMismatch
  | keaconReorderTimeout (cls : Fin 6)
  | mirrorFrameReceive (head : KeaconHead) (message : MirrorMessage)
  | resync (role : Role)
  | resyncComplete
  | coverNoticeReceive (head : KeaconHead) (p : PortId)
  | coverFrameReceive (head : KeaconHead) (ports : BitVec 96) (vid priority untag : Nat) (payload : List Byte)
  | coverFrameTimeout
  | uncoverNoticeReceive (head : KeaconHead) (p : PortId)
  | uncoverAckReceive (head : KeaconHead) (p : PortId)
  | releaseCover (role : Role) (p : PortId)
  -- 15_faults.md
  | faultDetection (detections : List Detection) (run : StartRun)
  | selfFault (source : Fin 8)
  | maskEnd (level : FenceLevel) (item : Nat)
  | consequenceWindowClose
  | clearFirstFault (role : Role)
  | faultRecordsRead (rq : Request)
  | acknowledge (role : Role)
  | errNMinimumExpiry
  | hostFence (role : Role) (level : FenceLevel) (item : Nat)
  | fenceRelease (role : Role) (level : FenceLevel) (item : Nat) (supplyUp : Bool)
  -- 20_pins_and_electrical.md
  | supplyOutOfRange (rail : SupplyRail)
  | temperatureThreshold (d : BankId) (critical : Bool)
  | timingBankSupplyLoss (lost : Bool)
  -- 16_object_dictionary.md and 18_security_debug_states.md
  | openRequest (transport : Fin 7) (role : Role) (credential : Nat) (peer : List Byte) (arrival : Arrival)
  | openConfirm (sn : SessionId) (signatureOk : Bool) (arrival : Arrival)
  | close (rq : Request)
  | keepalive (rq : Request)
  | read (rq : Request) (index : BitVec 16) (sub : BitVec 8) (offset : Nat)
  | writeAndHold (rq : Request) (group : Fin 4) (index : BitVec 16) (sub : BitVec 8) (offset : Nat) (first last : Bool)
      (bytes : List Byte) (unwrapOk : Bool)
  | writeAndCommit (rq : Request) (index : BitVec 16) (sub : BitVec 8) (offset : Nat) (first last : Bool)
      (bytes : List Byte) (unwrapOk : Bool)
  | commit (rq : Request) (group : Fin 4)
  | abortGroup (rq : Request) (group : Fin 4)
  | claim (rq : Request) (first last : BitVec 16)
  | release (rq : Request) (first last : BitVec 16)
  | commitPoint
  | registerWrite (index : BitVec 16) (sub : BitVec 8) (bytes : List Byte)
  | sessionTimeout (sn : SessionId)
  | transportLost (transport : Fin 7)
  | snapshotTimeout (sn : SessionId)
  | relayedRequest (route : Route) (message : List Byte) (reply : Option (List Byte))
  | spiSendRequest (message : List Byte) (macOk unwrapOk : Bool) (reply : Option (List Byte))
  | spiTakeResponse
  | spiPoll
  | spiWordRead (index : BitVec 16) (sub : BitVec 8) (high : Bool)
  -- 17_engines_and_counters.md
  | watchdogRestart (e : EngineId)
  | watchdogExpiry (e : EngineId)
  | engineTrap (e : EngineId) (thread : Fin 4) (cause address : BitVec 32)
  | threadTimerExpiry (e : EngineId) (thread : Fin 4)
  | imageLoadComplete (e : EngineId) (digestOk : Bool)
  | epochBoundary (elapsed : List (Nat × Nat))
  | counterWrap (bit : Fin 672)
  | monitorSample (m : MonitorId)
  | clearCounters (role : Role)
  | overflowMapClear (role : Role) (mask : BitVec 768) (wrapping : List (Fin 672))
  -- 18_security_debug_states.md
  | toProvisioned (sn : SessionId) (confirmation : BitVec 32) (digest0 digest1 : List Byte)
  | toDeployed (sn : SessionId) (confirmation : BitVec 32)
  | toDecommissioned (sn : SessionId) (confirmation : BitVec 32)
  | revokeOwnerSlot (sn : SessionId) (confirmation : BitVec 32)
  | pendingCommandLapse
  | fuseBurnComplete (run : StartRun)
  | raiseBaseFloor (role : Role)
  | raiseOwnerFloor (role : Role)
  | debugChallengeRead (sn : SessionId)
  | debugResponse (sn : SessionId) (slot : Nat) (verifies : Bool)
  | challengeLapse
  | grantExpiry
  | endGrant (role : Role)
  | closeOpen (role : Role)
  | probeHalt (e : EngineId) (threads : BitVec 4) (halt : Bool)
  | probeIntrusiveAccess (e : EngineId) (address : BitVec 32) (value : BitVec 32) (target : ProbeTarget)
  | probeNonintrusiveAccess (e : EngineId) (address : BitVec 32) (target : ProbeTarget)
  -- 19_start_up.md
  | powerUp (run : StartRun)
  | resetNAssert
  | resetNRelease (run : StartRun)
  | regionSupplyTimeout (g : RegionId) (run : StartRun)
  | startCommand (role : Role) (run : StartRun)
  | startStepTimeout
  | startRetry (run : StartRun)
  | settleTimeExpiry
  | releaseHold (role : Role)
  | holdLimitExpiry
  | imageSave (role : Role) (readBackOk : Bool)
  | imageErase (role : Role)
  -- the rows at the table's end
  | stallLimitExpiry (crossing : Fin 33)
  | frequencyOffsetMeasurement (s : SlotId) (phases : List Int)
  | referencePinEdge (pin : Fin 6) (agePs : Nat)
  | slotOffsetTimeout (s : SlotId) (tb : TbId)
  | dictionaryPortWrite (thread : Fin 64) (index : BitVec 16) (sub : BitVec 8) (bytes : List Byte)
  | hubChannelFrameBoundary (g : RegionId) (taken : List (Fin 64 × Nat))
  | powerRemoval
deriving DecidableEq, Repr

end Sys2Proof
end

