-- ==== Sys2Proof/Decode.lean ====
section
/-! DEFINITION. What the block has in a decoder's place: the table of commands gives no row any bits (every row of spec/opcode_table.json has an
empty list of fields), so no word spells a command. -/

namespace Sys2Proof

/-- The command that a word of the opcode table spells: none, since the table gives no row bits (log entry 26). -/
def decodeTableWord (_nbits _w : Nat) : Option Instr := none

end Sys2Proof
end

