-- ==== Sys2Proof/Config.lean ====
section
/-! DEFINITION. What the spec leaves open: constants without a body, so that no proof can lean on a value. Each is named in
the assumption log. -/

namespace Sys2Proof.Config

/-- Byte `i` of the `n`-th random number the security block draws: challenges and nonces (18 R461, R466; log entry 5). -/
opaque randomByte (n i : Nat) : Byte

/-- Byte `i` of the ephemeral key, nonce and signature with which the device answers an open request of a session at an instant (18 R461; log
entry 6). -/
opaque handshakeByte (session instant i : Nat) : Byte

/-- Byte `i` of a link identity record on a module removed during the write of it (04 R108; log entry 5). -/
opaque tornRecordByte (port instant i : Nat) : Byte

/-! What an association value as written to 2300h + p says: the manual gives the value no layout (04 R95, R98; log entry 5). -/

/-- The secure channel: 0 the transmit channel, 1 to 4 a receive channel. -/
opaque associationChannel (value : List Byte) : Fin 5
/-- The association number AN. -/
opaque associationNumber (value : List Byte) : Fin 4
/-- The cipher suite: 0 GCM-AES-128, 1 GCM-AES-256, 2 GCM-AES-XPN-128, 3 GCM-AES-XPN-256. -/
opaque associationSuite (value : List Byte) : Fin 4
/-- The confidentiality offset: 0, 1 and 2 for 0, 30 and 50 bytes. -/
opaque associationOffset (value : List Byte) : Fin 3

/-- The keystream byte `i` and byte `i` of the integrity check value of a frame that a port protects under an association and a packet number
(04 R95, R97; log entry 6). -/
opaque keystreamByte (port an packet i : Nat) : Byte
opaque icvByte (port an packet : Nat) (frame : List Byte) (i : Nat) : Byte

/-- The remaining fixed delay from the point of one-step insertion to the PCS boundary, MACsec apart, in ps by port mode: the manual names it
and gives no value (04 R97; log entry 101). -/
opaque insertionDelayPs (mode : Nat) : Nat

/-- Codewords corrected, and not correctable, on a port since an instant by another one (04 R100; log entry 5). -/
opaque fecCorrected (port since instant : Nat) : Nat
opaque fecUncorrectable (port since instant : Nat) : Nat

/-- Byte `i` of the trailer the device computes over a message: a keyed hash (18 R463; log entry 6). -/
opaque trailerByte (session seq i : Nat) : Byte

/-- Whether a cell of a frame copy lies in the buffer bank a fence takes out: the manual does not say in which bank a cell is
drawn. `draw` counts the fences (02 R33; log entry 5). -/
opaque cellInBank (draw port number index : Nat) : Bool

/-- The bucket, of 256, of the duplicate-discard window in which a pair, source and sequence number are kept: the manual gives no
hash (05 R130; log entry 5). -/
opaque dupBucket (pair source sequence : Nat) : Fin 256

/-- The vernier code a calibration round finds for a firefly output or capture input: a measurement inside the part
(13 R336; log entry 5). -/
opaque padVernier (item round : Nat) : Fin 1024

/-- The code a calibration finds for a trim that has no entry, by its place in State.analog (13 R336; log entry 5). -/
opaque analogTrim (item round : Nat) : Fin 1024

/-- A factory trim of the fuse store, by its place in State.analog (13 R335; 18 R455; log entry 5). -/
opaque factoryTrim (item : Nat) : Fin 1024

/-- How far a fuse burn had come when the device stopped: 0 nothing blown, 1 an owner slot partly, 2 every digest or revocation fuse, 3 the
lifecycle group partly (18 R454; log entry 5). -/
opaque burnCut (challenge : Nat) : Fin 4

/-- The parity bit of the IEEE 1344 extension over the data bits before it: the manual does not name it (09 R248; log entry 45). -/
opaque irigParity (bits : List Bool) : Bool

/-- Bit `i` of the SSPRQ pattern, and whether the last `n` received bits follow it: IEEE 802.3 defines it and the manual does not repeat it
(03 R82; log entry 100). -/
opaque ssprqBit (i : Nat) : Bool
opaque ssprqFollows (n : Nat) (bits : List Bool) : Bool

/-- Whether the IEEE 802.3 clause of a port mode uses transmit coefficient c(k − 3): the manual names the clauses and does not repeat them (03
R501; log entry 100). -/
opaque clauseUses (mode k : Nat) : Bool

/-- By how much the gain (tap 0) or a DFE tap of an up lane moves in one adaptation step: 0 down, 1 not, 2 up (03 R76; log entry 5). -/
opaque adaptStep (lane instant tap : Nat) : Fin 3

/-- The bits and the errors that a checker in sync since an instant has counted by another one (03 R83; log entry 5). -/
opaque checkerBits (lane since instant : Nat) : Nat
opaque checkerErrors (lane since instant : Nat) : Nat

/-- The SHA-384 digest of an owner key that a lifecycle command in a message burns (18 R453, R456; log entry 6). -/
opaque keyDigest (key : List Byte) : List Byte

/-- Whether the signature of a value verifies: a credential record under the owner key, a response over a challenge (18 R462, R466; log entry
6). -/
opaque signatureOk (key : List Byte) (challenge : Nat) (value : List Byte) : Bool

/-- Whether the entry at a position of a region's duplicate-discard window reads with an uncorrectable error at an instant: no row of the table
brings such an error about (05 R147; log entry 103). -/
opaque windowUnreadable (region position instant : Nat) : Bool

/-- How many words with a single-bit error the reads of a frame's cells at an instant correct (07 R183; log entry 103). -/
opaque wordsCorrected (region serial instant : Nat) : Nat

/-- The bank cell group that the fault record of a buffer bank names: the manual does not say which groups a bank has (15 R390; log entry 118). -/
opaque bankCellGroup (bank instant : Nat) : Byte

/-- The SECDED check bits over the other bits of a cell header: the manual does not give the code (06 R158; log entry 103). -/
opaque headerCheck (bits : Nat) : Fin 1024

/-! What a command carried by the `n`-th commit finds in the world, where the same command's own row has an operand for it (log entry 5). -/

/-- The findings of a warm start begun by a commit (19 R472). -/
opaque messageRun (n : Nat) : StartRun
/-- The reference resistor as a calibration begun by a commit reads it, mΩ (13 R335). -/
opaque messageResistor (n : Nat) : Nat
/-- The time-line delays that the calibration measures (13 R340). -/
opaque messageDelays (n : Nat) : List Nat
/-- How the write of a link identity record ends (04 R108). -/
opaque messageRecordEnd (n : Nat) : RecordWriteEnd
/-- Whether a saved dictionary image reads back (19 R482). -/
opaque messageReadBack (n : Nat) : Bool
/-- Whether the supply of a released region is in range (15 R399). -/
opaque messageSupplyUp (n : Nat) : Bool

/-- The residual of a synthesizer's own conditioner loop at a hub ns, ppt (12 R332). -/
opaque loopResidual (k now : Nat) : Int
/-- A word of an engine's registers or memories as its own firmware has left it at a hub ns (17 R431; 18 R465). -/
opaque engineWord (now engine address : Nat) : BitVec 32
/-- Cause and address kept of a write that traps at the dictionary port (17 R433). -/
opaque portTrapCause (index sub : Nat) : BitVec 32
opaque portTrapAddress (index sub : Nat) : BitVec 32
/-- Where the divider of a clock output stands when the core starts, in core periods (12 R328). -/
opaque dividerStart (c : Nat) : Nat

end Sys2Proof.Config
end

