-- ==== Sys2Proof/Machine/Dictionary.lean ====
section
/-! DEFINITION. The object dictionary's index map and its entries (16_object_dictionary.md R405, R408, R426), as the chapters'
tables give them: type, access, default, warm-start behaviour, range and role of a write. -/

namespace Sys2Proof.Machine

/-- The types of R405; I8 is used by no entry. -/
inductive OdType where
  | bool | u8 | u16 | u32 | u64 | i16 | i32 | i64 | time80 | shortTime | string | domain | array
deriving DecidableEq, Repr

/-- The access modes of 00_scope.md R11; `roW1c` is read-only but for its write-one-to-clear bits. -/
inductive OdAccess where
  | ro | rw | wo | rc | roW1c
deriving DecidableEq, Repr

/-- One row of an object's table: the subindices `lo` to `hi` with one meaning. -/
structure OdEntry where
  lo : Nat
  hi : Nat
  ty : OdType
  acc : OdAccess
  dflt : Int := 0
  /-- Kept on warm start. -/
  kept : Bool := false
  /-- Least and greatest value a write may carry. -/
  least : Int := 0
  most : Int := 0
  /-- The higher role the Meaning names for a write; `observe` = the range's own (R408). -/
  role : Role := .observe
deriving DecidableEq, Repr

/-- An object of R426: `count` indices from `first` with the same subentries. -/
structure OdObject where
  first : Nat
  count : Nat
  entries : List OdEntry
deriving DecidableEq, Repr

/-- The size in bytes of a value of a type; 0 for the types without a fixed size (R405). -/
def OdType.size : OdType → Nat
  | .bool => 1 | .u8 => 1 | .u16 => 2 | .u32 => 4 | .u64 => 8
  | .i16 => 2 | .i32 => 4 | .i64 => 8 | .time80 => 10 | .shortTime => 8
  | .string => 0 | .domain => 0 | .array => 0

/-- Whether a number of the type is in two's complement. -/
def OdType.signed : OdType → Bool
  | .i16 => true | .i32 => true | .i64 => true
  | _ => false

/-- Whether a value of the type is a byte string rather than a number. -/
def OdType.isBlob : OdType → Bool
  | .string => true | .domain => true | .array => true
  | _ => false

/-- Subentries of 1000h (16_object_dictionary.md). -/
def od1000 : List OdEntry := [
  ⟨0x01, 0x01, .string, .ro, 0, true, 0, 0, .observe⟩, -- device type
  ⟨0x02, 0x02, .u64, .ro, 0, true, 0, 0, .observe⟩, -- serial number
  ⟨0x03, 0x03, .array, .ro, 0, true, 0, 0, .observe⟩, -- die revisions
  ⟨0x04, 0x04, .u32, .ro, 0, true, 0, 0, .observe⟩, -- firmware version
  ⟨0x05, 0x05, .u16, .ro, 0, true, 0, 0, .observe⟩, -- layout version
  ⟨0x06, 0x06, .u64, .ro, 0, true, 0, 0, .observe⟩, -- management MAC address
  ⟨0x07, 0x07, .string, .rw, 0, true, 0, 0, .observe⟩, -- device name
  ⟨0x08, 0x08, .u8, .ro, 0, false, 0, 0, .observe⟩, -- run state
  ⟨0x09, 0x09, .u8, .ro, 0, true, 0, 0, .observe⟩, -- TWIN_ID
  ⟨0x0A, 0x0A, .u64, .ro, 0, false, 0, 0, .observe⟩ -- time since start
]
/-- Subentries of 2000h (03_lanes.md). -/
def od2000 : List OdEntry := [
  ⟨0x01, 0x01, .u8, .ro, 0, true, 0, 0, .observe⟩, -- lane rate
  ⟨0x02, 0x02, .u8, .ro, 0, false, 0, 0, .observe⟩, -- stage
  ⟨0x03, 0x03, .u32, .roW1c, 0, false, 0, 0, .observe⟩, -- lane status
  ⟨0x04, 0x04, .u8, .rw, 0, true, 0, 1, .observe⟩, -- clocking request
  ⟨0x05, 0x05, .u16, .rw, 500, true, 50, 5000, .observe⟩, -- training timeout
  ⟨0x06, 0x06, .u16, .rw, 1000, true, 100, 10000, .observe⟩, -- backoff base
  ⟨0x07, 0x07, .u32, .rw, 32000, true, 0, 600000, .observe⟩, -- backoff limit
  ⟨0x08, 0x08, .u32, .rw, 1000, true, 20, 20000, .observe⟩, -- syntony window
  ⟨0x09, 0x09, .u16, .rw, 100, true, 10, 400, .observe⟩, -- syntony interval
  ⟨0x0A, 0x0A, .i32, .ro, 0, false, 0, 0, .observe⟩, -- measured offset
  ⟨0x0B, 0x0B, .u8, .rw, 0, true, 0, 2, .observe⟩, -- receive polarity
  ⟨0x0C, 0x0C, .bool, .rw, 0, true, 0, 1, .observe⟩, -- transmit polarity
  ⟨0x0D, 0x0D, .bool, .rw, 0, true, 0, 1, .observe⟩, -- transmit lane order reversed
  ⟨0x0E, 0x0E, .u8, .ro, 0, false, 0, 0, .observe⟩, -- detected receive order
  ⟨0x0F, 0x0F, .u8, .ro, 0, false, 0, 0, .observe⟩, -- figure of merit
  ⟨0x10, 0x10, .u8, .rw, 64, true, 0, 255, .observe⟩, -- adapt threshold NRZ
  ⟨0x11, 0x11, .u8, .rw, 24, true, 0, 255, .observe⟩, -- adapt threshold PAM4
  ⟨0x12, 0x12, .u8, .rw, 16, true, 0, 64, .observe⟩, -- warning offset
  ⟨0x13, 0x13, .domain, .ro, 0, true, 0, 0, .observe⟩, -- kept adaptation
  ⟨0x14, 0x14, .u8, .ro, 0, false, 0, 0, .observe⟩, -- CTLE setting
  ⟨0x15, 0x15, .bool, .wo, 0, false, 0, 1, .observe⟩, -- re-adapt
  ⟨0x16, 0x16, .u8, .rw, 0, true, 0, 2, .observe⟩, -- quiet transmit
  ⟨0x17, 0x17, .bool, .rw, 0, true, 0, 1, .observe⟩, -- quiet receive
  ⟨0x18, 0x18, .u8, .rw, 0, false, 0, 4, .observe⟩, -- test mode
  ⟨0x19, 0x19, .u8, .rw, 5, false, 0, 10, .observe⟩, -- generator pattern
  ⟨0x1A, 0x1A, .u8, .rw, 5, false, 0, 10, .observe⟩, -- checker pattern
  ⟨0x1B, 0x1B, .u64, .rw, 0, false, 0, 18446744073709551615, .observe⟩, -- user pattern
  ⟨0x1C, 0x1C, .u64, .ro, 0, false, 0, 0, .observe⟩, -- checker bits
  ⟨0x1D, 0x1D, .u64, .ro, 0, false, 0, 0, .observe⟩, -- checker errors
  ⟨0x1E, 0x1E, .u8, .rw, 0, false, 0, 2, .observe⟩, -- error injection
  ⟨0x1F, 0x1F, .u8, .rw, 16, false, 8, 40, .observe⟩, -- injection exponent
  ⟨0x20, 0x20, .u8, .rw, 0, false, 0, 1, .observe⟩, -- injection target
  ⟨0x21, 0x21, .u32, .ro, 0, false, 0, 0, .observe⟩, -- lock-loss count
  ⟨0x22, 0x22, .u16, .ro, 0, false, 0, 0, .observe⟩, -- retry count
  ⟨0x23, 0x23, .u32, .ro, 0, false, 0, 0, .observe⟩, -- next retry in
  ⟨0x24, 0x24, .bool, .wo, 0, false, 0, 1, .observe⟩, -- retry now
  ⟨0x25, 0x25, .u16, .rw, 0, true, 0, 5000, .observe⟩ -- spreading
]
/-- Subentries of 2100h (04_ports_and_modules.md). -/
def od2100 : List OdEntry := [
  ⟨0x01, 0x01, .u8, .rw, 0, true, 0, 6, .observe⟩, -- port mode
  ⟨0x02, 0x02, .u8, .rw, 0, true, 0, 2, .observe⟩, -- FEC mode
  ⟨0x03, 0x03, .u8, .ro, 0, false, 0, 0, .observe⟩, -- link state
  ⟨0x04, 0x04, .bool, .rw, 0, true, 0, 1, .observe⟩, -- link training
  ⟨0x05, 0x05, .bool, .rw, 1, true, 0, 1, .observe⟩, -- 1000BASE-X auto-negotiation
  ⟨0x06, 0x06, .u16, .rw, 1522, true, 64, 16384, .observe⟩, -- maximum frame
  ⟨0x07, 0x07, .bool, .rw, 0, true, 0, 1, .observe⟩, -- MACsec enable
  ⟨0x08, 0x08, .u8, .rw, 0, true, 0, 3, .observe⟩, -- cage type
  ⟨0x0B, 0x0B, .u32, .ro, 0, false, 0, 0, .observe⟩, -- receive fixed delay
  ⟨0x0C, 0x0C, .u32, .ro, 0, false, 0, 0, .observe⟩, -- transmit fixed delay
  ⟨0x0E, 0x0E, .u8, .ro, 0, false, 0, 0, .observe⟩, -- module state
  ⟨0x0F, 0x0F, .domain, .rw, 0, true, 0, 0, .service⟩, -- link identity record
  ⟨0x10, 0x10, .u8, .ro, 0, false, 0, 0, .observe⟩, -- record status
  ⟨0x11, 0x11, .domain, .ro, 0, false, 0, 0, .observe⟩, -- module identity
  ⟨0x12, 0x12, .u16, .rw, 1000, true, 100, 60000, .observe⟩, -- diagnostics interval
  ⟨0x13, 0x13, .bool, .wo, 0, false, 0, 1, .observe⟩, -- reread module
  ⟨0x14, 0x14, .bool, .rw, 0, true, 0, 1, .service⟩ -- mismatch override
]
/-- Subentries of 2200h (04_ports_and_modules.md). -/
def od2200 : List OdEntry := [
  ⟨0x01, 0x01, .u64, .ro, 0, false, 0, 0, .observe⟩, -- octets received
  ⟨0x02, 0x02, .u64, .ro, 0, false, 0, 0, .observe⟩, -- frames received
  ⟨0x03, 0x03, .u64, .ro, 0, false, 0, 0, .observe⟩, -- FCS errors
  ⟨0x04, 0x04, .u64, .ro, 0, false, 0, 0, .observe⟩, -- undersize
  ⟨0x05, 0x05, .u64, .ro, 0, false, 0, 0, .observe⟩, -- oversize
  ⟨0x06, 0x06, .u64, .ro, 0, false, 0, 0, .observe⟩, -- MAC control discarded
  ⟨0x07, 0x07, .u64, .ro, 0, false, 0, 0, .observe⟩, -- octets transmitted
  ⟨0x08, 0x08, .u64, .ro, 0, false, 0, 0, .observe⟩, -- frames transmitted
  ⟨0x09, 0x09, .u64, .ro, 0, false, 0, 0, .observe⟩, -- bad-tail frames transmitted
  ⟨0x0A, 0x0A, .u64, .ro, 0, false, 0, 0, .observe⟩, -- FEC corrected
  ⟨0x0B, 0x0B, .u64, .ro, 0, false, 0, 0, .observe⟩, -- FEC uncorrectable
  ⟨0x0C, 0x0C, .u64, .ro, 0, false, 0, 0, .observe⟩, -- MACsec dropped
  ⟨0x0D, 0x0D, .u64, .ro, 0, false, 0, 0, .observe⟩, -- MACsec validated
  ⟨0x0E, 0x0E, .u64, .ro, 0, false, 0, 0, .observe⟩, -- MACsec protected
  ⟨0x0F, 0x0F, .bool, .wo, 0, false, 0, 1, .observe⟩, -- clear
  ⟨0x10, 0x10, .u64, .ro, 0, false, 0, 0, .observe⟩ -- link-down count
]
/-- Subentries of 2300h (04_ports_and_modules.md R95, 16 R426). -/
def od2300 : List OdEntry := [
  ⟨0x01, 0x01, .domain, .wo, 0, false, 0, 0, .observe⟩ -- MACsec association
]
/-- Subentries of 2400h (10_timestamping_and_links.md). -/
def od2400 : List OdEntry := [
  ⟨0x01, 0x01, .u8, .ro, 0, false, 0, 0, .observe⟩, -- timing state
  ⟨0x02, 0x02, .u16, .roW1c, 0, false, 0, 0, .observe⟩, -- timing status
  ⟨0x03, 0x03, .u8, .rw, 0, true, 0, 1, .observe⟩, -- asymmetry source
  ⟨0x04, 0x04, .i32, .rw, 0, true, (-1000000000), 1000000000, .observe⟩, -- host asymmetry
  ⟨0x05, 0x05, .i32, .ro, 0, true, 0, 0, .observe⟩, -- asymmetry in force
  ⟨0x06, 0x06, .u32, .rw, 0, true, 0, 1000000, .observe⟩, -- board and module receive delay
  ⟨0x07, 0x07, .u32, .rw, 0, true, 0, 1000000, .observe⟩, -- board and module transmit delay
  ⟨0x08, 0x08, .u32, .ro, 0, false, 0, 0, .observe⟩, -- internal receive delay
  ⟨0x09, 0x09, .u32, .ro, 0, false, 0, 0, .observe⟩, -- internal transmit delay
  ⟨0x0A, 0x0A, .u32, .ro, 0, false, 0, 0, .observe⟩, -- mean path delay
  ⟨0x0B, 0x0B, .u32, .ro, 0, false, 0, 0, .observe⟩, -- incoming delay
  ⟨0x0C, 0x0C, .u32, .ro, 0, false, 0, 0, .observe⟩, -- outgoing delay
  ⟨0x0D, 0x0D, .u32, .ro, 0, true, 0, 4294967295, .observe⟩, -- baseline
  ⟨0x0E, 0x0E, .u32, .rw, 1000, true, 50, 1000000, .observe⟩, -- step threshold
  ⟨0x0F, 0x0F, .u32, .rw, 200, true, 1, 10000, .observe⟩, -- tracking rate
  ⟨0x10, 0x10, .u8, .wo, 0, false, 1, 4, .own⟩, -- timing command
  ⟨0x11, 0x11, .u16, .rw, 60, true, 10, 3600, .observe⟩, -- calibration time
  ⟨0x12, 0x12, .u8, .rw, 0, true, 0, 7, .observe⟩, -- calibration time base
  ⟨0x13, 0x13, .i32, .ro, 0, false, 0, 0, .observe⟩, -- proposed asymmetry
  ⟨0x14, 0x14, .u32, .ro, 0, false, 0, 0, .observe⟩, -- proposal uncertainty
  ⟨0x15, 0x15, .u32, .ro, 0, false, 0, 0, .observe⟩, -- out-of-range results
  ⟨0x16, 0x16, .u32, .ro, 0, false, 0, 0, .observe⟩, -- insertion refused
  ⟨0x17, 0x17, .u32, .ro, 0, true, 0, 0, .observe⟩, -- delay steps
  ⟨0x18, 0x18, .i32, .ro, 0, true, 0, 0, .observe⟩ -- last step
]
/-- Subentries of 2500h (10_timestamping_and_links.md). -/
def od2500 : List OdEntry := [
  ⟨0x01, 0x01, .u8, .ro, 255, false, 0, 0, .observe⟩, -- spare assignment
  ⟨0x02, 0x02, .i16, .ro, 0, false, 0, 0, .observe⟩, -- handover difference
  ⟨0x03, 0x03, .u32, .ro, 0, false, 0, 0, .observe⟩, -- handovers
  ⟨0x04, 0x04, .u8, .ro, 0, false, 0, 0, .observe⟩, -- replica status
  ⟨0x05, 0x05, .u16, .rc, 0, false, 0, 0, .observe⟩ -- replica peak correction
]
/-- Subentries of 3000h (05_forwarding.md). -/
def od3000 : List OdEntry := [
  ⟨0x01, 0x01, .u32, .rw, 300, true, 10, 1000000, .observe⟩, -- ageing time
  ⟨0x02, 0x02, .u64, .ro, 0, false, 0, 0, .observe⟩, -- learn failures
  ⟨0x03, 0x03, .u64, .ro, 0, false, 0, 0, .observe⟩, -- station moves
  ⟨0x04, 0x04, .u64, .ro, 0, false, 0, 0, .observe⟩, -- learn messages dropped
  ⟨0x05, 0x05, .u64, .ro, 0, false, 0, 0, .observe⟩, -- static violations
  ⟨0x06, 0x06, .u32, .rw, 1000, true, 100, 60000, .observe⟩, -- scrub period
  ⟨0x07, 0x07, .u64, .ro, 0, false, 0, 0, .observe⟩, -- scarab corrected
  ⟨0x08, 0x08, .u64, .ro, 0, false, 0, 0, .observe⟩, -- scarab uncorrectable
  ⟨0x09, 0x09, .u32, .ro, 0, false, 0, 0, .observe⟩, -- database occupancy
  ⟨0x0A, 0x0A, .u16, .rw, 400, true, 10, 1000, .observe⟩, -- entry forget time
  ⟨0x0B, 0x0B, .u64, .ro, 0, false, 0, 0, .observe⟩ -- window evictions
]
/-- Subentries of 3001h (05_forwarding.md). -/
def od3001 : List OdEntry := [
  ⟨0x01, 0x06, .u16, .ro, 0, true, 0, 0, .observe⟩, -- generations
  ⟨0x10, 0x10, .u8, .wo, 0, false, 0, 5, .observe⟩, -- drain table
  ⟨0x11, 0x11, .u16, .ro, 0, false, 0, 0, .observe⟩, -- drain target
  ⟨0x12, 0x12, .u8, .ro, 0, false, 0, 0, .observe⟩ -- drain status
]
/-- Subentries of 3010h (05_forwarding.md). -/
def od3010 : List OdEntry := [
  ⟨0x01, 0x01, .domain, .rw, 0, false, 0, 0, .observe⟩ -- forwarding database
]
/-- Subentries of 3020h (05_forwarding.md). -/
def od3020 : List OdEntry := [
  ⟨0x01, 0x01, .domain, .rw, 0, true, 0, 0, .observe⟩ -- VLAN table
]
/-- Subentries of 3030h (05_forwarding.md). -/
def od3030 : List OdEntry := [
  ⟨0x01, 0x01, .domain, .rw, 0, true, 0, 0, .observe⟩ -- classifier
]
/-- Subentries of 3040h (05_forwarding.md). -/
def od3040 : List OdEntry := [
  ⟨0x01, 0x01, .domain, .rw, 0, true, 0, 0, .observe⟩ -- stream table
]
/-- Subentries of 3050h (05_forwarding.md). -/
def od3050 : List OdEntry := [
  ⟨0x01, 0x01, .domain, .rw, 0, true, 0, 0, .observe⟩ -- port sets
]
/-- Subentries of 3060h (05_forwarding.md). -/
def od3060 : List OdEntry := [
  ⟨0x01, 0x01, .domain, .ro, 0, false, 0, 0, .observe⟩ -- duplicate window
]
/-- Subentries of 3070h (05_forwarding.md). -/
def od3070 : List OdEntry := [
  ⟨0x01, 0x01, .domain, .rw, 0, true, 0, 0, .observe⟩ -- FRER functions
]
/-- Subentries of 3080h (05_forwarding.md). -/
def od3080 : List OdEntry := [
  ⟨0x01, 0x01, .domain, .rw, 0, true, 0, 0, .observe⟩ -- stream gates
]
/-- Subentries of 3100h (05_forwarding.md). -/
def od3100 : List OdEntry := [
  ⟨0x01, 0x01, .u16, .rw, 1, true, 1, 4094, .observe⟩, -- PVID
  ⟨0x02, 0x02, .u8, .rw, 0, true, 0, 2, .observe⟩, -- acceptable frames
  ⟨0x03, 0x03, .u8, .rw, 0, true, 0, 7, .observe⟩, -- default priority
  ⟨0x04, 0x04, .bool, .rw, 1, true, 0, 1, .observe⟩, -- ingress filtering
  ⟨0x05, 0x05, .bool, .rw, 1, true, 0, 1, .observe⟩, -- learning
  ⟨0x06, 0x06, .bool, .rw, 1, true, 0, 1, .observe⟩, -- cut-through
  ⟨0x07, 0x07, .u8, .rw, 0, true, 0, 48, .observe⟩, -- redundancy pair
  ⟨0x08, 0x08, .u8, .rw, 0, true, 0, 1, .observe⟩, -- redundancy mode
  ⟨0x09, 0x09, .u64, .ro, 0, false, 0, 0, .observe⟩, -- egress underruns
  ⟨0x0A, 0x0A, .u64, .ro, 0, false, 0, 0, .observe⟩, -- bad-tail discarded
  ⟨0x0B, 0x0B, .u64, .ro, 0, false, 0, 0, .observe⟩, -- VLAN discards
  ⟨0x0C, 0x0C, .u64, .ro, 0, false, 0, 0, .observe⟩, -- filter discards
  ⟨0x0D, 0x0D, .u64, .ro, 0, false, 0, 0, .observe⟩, -- duplicates discarded
  ⟨0x0F, 0x0F, .u8, .rw, 2, true, 0, 2, .observe⟩ -- port state
]
/-- Subentries of 3800h (06_cyclic_fabric.md). -/
def od3800 : List OdEntry := [
  ⟨0x01, 0x01, .u32, .ro, 0, false, 0, 0, .observe⟩, -- cycle number
  ⟨0x02, 0x02, .u8, .ro, 0, false, 0, 0, .observe⟩, -- alignment status
  ⟨0x03, 0x03, .i16, .ro, 0, false, 0, 0, .observe⟩, -- alignment offset
  ⟨0x04, 0x04, .u32, .ro, 0, false, 0, 0, .observe⟩, -- realignments
  ⟨0x05, 0x05, .u16, .rw, 10, true, 1, 1000, .observe⟩, -- hole timeout
  ⟨0x06, 0x06, .u64, .ro, 0, false, 0, 0, .observe⟩, -- reorder discards
  ⟨0x07, 0x07, .u64, .ro, 0, false, 0, 0, .observe⟩, -- void cells
  ⟨0x08, 0x08, .u64, .ro, 0, false, 0, 0, .observe⟩, -- lost cells
  ⟨0x09, 0x09, .u64, .ro, 0, false, 0, 0, .observe⟩, -- contracted fabric overflows
  ⟨0x0A, 0x0A, .u64, .ro, 0, false, 0, 0, .observe⟩, -- fence-discarded cells
  ⟨0x0B, 0x0B, .u64, .ro, 0, false, 0, 0, .observe⟩, -- late cells
  ⟨0x0C, 0x0C, .u64, .ro, 0, false, 0, 0, .observe⟩, -- dropped headers
  ⟨0x0D, 0x0D, .u32, .ro, 0, false, 0, 0, .observe⟩ -- epoch closures
]
/-- Subentries of 3810h (06_cyclic_fabric.md). -/
def od3810 : List OdEntry := [
  ⟨0x01, 0x01, .u64, .ro, 0, false, 0, 0, .observe⟩, -- stage one fenced
  ⟨0x02, 0x02, .u64, .ro, 0, false, 0, 0, .observe⟩, -- stage one realign
  ⟨0x03, 0x03, .u64, .ro, 0, false, 0, 0, .observe⟩, -- stage one blocked
  ⟨0x04, 0x04, .u64, .ro, 0, false, 0, 0, .observe⟩, -- stage one contracted
  ⟨0x05, 0x05, .u64, .ro, 0, false, 0, 0, .observe⟩, -- stage one best-effort
  ⟨0x06, 0x06, .u64, .ro, 0, false, 0, 0, .observe⟩, -- stage one starved
  ⟨0x07, 0x07, .u64, .ro, 0, false, 0, 0, .observe⟩, -- stage one empty
  ⟨0x08, 0x08, .u64, .ro, 0, false, 0, 0, .observe⟩, -- stage two fenced
  ⟨0x09, 0x09, .u64, .ro, 0, false, 0, 0, .observe⟩, -- stage two realign
  ⟨0x0A, 0x0A, .u64, .ro, 0, false, 0, 0, .observe⟩, -- stage two blocked
  ⟨0x0B, 0x0B, .u64, .ro, 0, false, 0, 0, .observe⟩, -- stage two contracted
  ⟨0x0C, 0x0C, .u64, .ro, 0, false, 0, 0, .observe⟩, -- stage two best-effort
  ⟨0x0D, 0x0D, .u64, .ro, 0, false, 0, 0, .observe⟩ -- stage two empty
]
/-- Subentries of 4000h (07_buffers_and_queues.md). -/
def od4000 : List OdEntry := [
  ⟨0x01, 0x01, .u32, .ro, 49152, false, 0, 0, .observe⟩, -- free cells
  ⟨0x02, 0x02, .u32, .rw, 8192, true, 0, 4294967295, .observe⟩, -- ingress pool
  ⟨0x03, 0x03, .u32, .rw, 4096, true, 0, 4294967295, .observe⟩, -- contracted reserve
  ⟨0x04, 0x04, .u32, .rw, 1024, true, 0, 4294967295, .observe⟩, -- control reserve
  ⟨0x05, 0x05, .u32, .rw, 35840, true, 0, 4294967295, .observe⟩, -- shared pool
  ⟨0x06, 0x06, .u32, .rw, 100000, true, 1000, 500000, .observe⟩, -- ingress mayfly limit
  ⟨0x07, 0x07, .u32, .rw, 10000000, true, 1000, 4294967295, .observe⟩, -- host mayfly limit
  ⟨0x08, 0x08, .u32, .rw, 28672, true, 0, 4294967295, .observe⟩, -- shared watermark threshold
  ⟨0x09, 0x09, .u16, .roW1c, 0, false, 0, 0, .observe⟩, -- pool status
  ⟨0x0A, 0x0A, .u32, .rc, 0, false, 0, 0, .observe⟩, -- pool crossing count
  ⟨0x0B, 0x0B, .u64, .ro, 0, false, 0, 0, .observe⟩, -- exhaustion discards
  ⟨0x0C, 0x0C, .u64, .ro, 0, false, 0, 0, .observe⟩, -- ECC corrected
  ⟨0x0D, 0x0D, .u64, .ro, 0, false, 0, 0, .observe⟩, -- ECC uncorrectable
  ⟨0x0E, 0x0E, .u16, .ro, 0, false, 0, 0, .observe⟩, -- fenced banks
  ⟨0x0F, 0x0F, .u64, .ro, 0, false, 0, 0, .observe⟩, -- ingress aged discards
  ⟨0x10, 0x10, .u32, .rw, 1024, true, 0, 49152, .observe⟩, -- shared watermark hysteresis
  ⟨0x11, 0x11, .u32, .ro, 0, false, 0, 0, .observe⟩ -- host queue occupancy
]
/-- Subentries of 4010h (07_buffers_and_queues.md). -/
def od4010 : List OdEntry := [
  ⟨0x01, 0x01, .u64, .rw, 247132686368, true, 0, 18446744073709551615, .observe⟩, -- priority map
  ⟨0x02, 0x02, .bool, .rw, 0, true, 0, 1, .observe⟩, -- flush on link-down
  ⟨0x03, 0x03, .domain, .rw, 0, true, 0, 0, .observe⟩, -- administrative gate list
  ⟨0x04, 0x04, .domain, .ro, 0, false, 0, 0, .observe⟩, -- operational gate list
  ⟨0x05, 0x05, .bool, .ro, 0, false, 0, 0, .observe⟩, -- gate change pending
  ⟨0x06, 0x06, .u64, .ro, 0, false, 0, 0, .observe⟩, -- gate overruns
  ⟨0x07, 0x07, .u64, .ro, 0, false, 0, 0, .observe⟩ -- lost at link-down
]
/-- Subentries of 4080h (07_buffers_and_queues.md). -/
def od4080 : List OdEntry := [
  ⟨0x01, 0x01, .u32, .rw, 100, true, 10, 10000, .observe⟩ -- buffer scrub period
]
/-- Subentries of 4100h (07_buffers_and_queues.md). -/
def od4100 : List OdEntry := [
  ⟨0x01, 0x01, .u32, .ro, 0, false, 0, 0, .observe⟩, -- occupancy
  ⟨0x02, 0x02, .u32, .ro, 0, false, 0, 0, .observe⟩, -- frames
  ⟨0x03, 0x03, .u32, .rw, 4096, true, 0, 49152, .observe⟩, -- maximum depth
  ⟨0x04, 0x04, .u32, .rw, 10000000, true, 1000, 4294967295, .observe⟩, -- mayfly limit
  ⟨0x05, 0x05, .u32, .rw, 3072, true, 1, 49152, .observe⟩, -- watermark threshold
  ⟨0x06, 0x06, .u32, .rw, 64, true, 0, 49152, .observe⟩, -- watermark hysteresis
  ⟨0x07, 0x07, .u16, .roW1c, 32, false, 0, 0, .observe⟩, -- queue status
  ⟨0x08, 0x08, .u32, .rc, 0, false, 0, 0, .observe⟩, -- crossing count
  ⟨0x09, 0x09, .u64, .ro, 0, false, 0, 0, .observe⟩, -- aged discards
  ⟨0x0A, 0x0A, .u64, .ro, 0, false, 0, 0, .observe⟩, -- deadline discards
  ⟨0x0B, 0x0B, .u64, .ro, 0, false, 0, 0, .observe⟩, -- tail drops
  ⟨0x0C, 0x0C, .u64, .ro, 0, false, 0, 0, .observe⟩, -- flush discards
  ⟨0x0D, 0x0D, .u8, .rw, 0, true, 0, 255, .observe⟩, -- scheduler weight
  ⟨0x0E, 0x0E, .bool, .wo, 0, false, 0, 1, .observe⟩, -- flush
  ⟨0x0F, 0x0F, .u32, .rc, 0, false, 0, 0, .observe⟩ -- peak occupancy
]
/-- Subentries of 5000h (08_contracted_delivery.md). -/
def od5000 : List OdEntry := [
  ⟨0x01, 0x01, .u32, .rw, 1000000, true, 1000, 1000000000, .observe⟩, -- contract cycle
  ⟨0x02, 0x02, .u16, .ro, 0, false, 0, 0, .observe⟩, -- admitted contracts
  ⟨0x03, 0x03, .u16, .ro, 0, false, 0, 0, .observe⟩, -- last refusal contract
  ⟨0x04, 0x04, .u8, .ro, 0, false, 0, 0, .observe⟩, -- last refusal reason
  ⟨0x05, 0x05, .domain, .ro, 0, false, 0, 0, .observe⟩, -- breach records
  ⟨0x06, 0x06, .u32, .rc, 0, false, 0, 0, .observe⟩, -- breach records lost
  ⟨0x07, 0x07, .u64, .ro, 0, false, 0, 0, .observe⟩, -- breach total
  ⟨0x08, 0x08, .u32, .ro, 25600, false, 0, 0, .observe⟩ -- calendar granule
]
/-- Subentries of 5010h (08_contracted_delivery.md). -/
def od5010 : List OdEntry := [
  ⟨0x01, 0x01, .domain, .rw, 0, true, 0, 0, .observe⟩ -- flow contracts
]
/-- Subentries of 5020h (08_contracted_delivery.md). -/
def od5020 : List OdEntry := [
  ⟨0x01, 0x01, .domain, .ro, 0, false, 0, 0, .observe⟩ -- contract statistics
]
/-- Subentries of 6000h (09_time_bases.md). -/
def od6000 : List OdEntry := [
  ⟨0x01, 0x01, .u8, .rw, 0, true, 0, 255, .observe⟩, -- domain number
  ⟨0x02, 0x02, .u8, .rw, 0, true, 0, 15, .observe⟩, -- major sdoId
  ⟨0x03, 0x03, .bool, .rw, 1, true, 0, 1, .observe⟩, -- binding enable
  ⟨0x04, 0x04, .u16, .roW1c, 1, false, 0, 0, .observe⟩, -- time base status
  ⟨0x05, 0x05, .time80, .ro, 0, true, 0, 0, .observe⟩, -- time now
  ⟨0x06, 0x06, .u16, .ro, 0, true, 0, 0, .observe⟩, -- time now fraction
  ⟨0x07, 0x07, .shortTime, .ro, 0, true, 0, 0, .observe⟩, -- short time now
  ⟨0x08, 0x08, .u8, .ro, 0, true, 0, 0, .observe⟩, -- step epoch
  ⟨0x09, 0x09, .time80, .wo, 0, false, 0, 1208925819614629174706175, .own⟩, -- set time
  ⟨0x0A, 0x0A, .u16, .wo, 0, false, 0, 65535, .observe⟩, -- set fraction
  ⟨0x0B, 0x0B, .i64, .wo, 0, false, (-65536000000000000), 65536000000000000, .own⟩, -- step
  ⟨0x0C, 0x0C, .u32, .rw, 100, true, 1, 1000000, .observe⟩, -- step threshold
  ⟨0x0D, 0x0D, .bool, .rw, 1, true, 0, 1, .observe⟩, -- firmware may set
  ⟨0x0E, 0x0E, .i32, .ro, 0, true, 0, 0, .observe⟩, -- rate in force
  ⟨0x0F, 0x0F, .i32, .rw, 0, true, (-100000000), 100000000, .observe⟩, -- steering offset
  ⟨0x10, 0x10, .i16, .rw, 37, true, (-32768), 32767, .observe⟩, -- UTC offset
  ⟨0x11, 0x11, .u8, .rw, 0, true, 0, 2, .observe⟩, -- leap pending
  ⟨0x12, 0x12, .i64, .rw, 0, false, (-9223372036854775808), 9223372036854775807, .observe⟩, -- measured offset
  ⟨0x13, 0x13, .u32, .ro, 0, true, 0, 0, .observe⟩ -- steps accepted
]
/-- Subentries of 6100h (09_time_bases.md). -/
def od6100 : List OdEntry := [
  ⟨0x01, 0x01, .u8, .rw, 0, true, 0, 7, .observe⟩, -- time base
  ⟨0x02, 0x02, .shortTime, .rw, 0, true, 0, 18446744073709551615, .observe⟩, -- anchor
  ⟨0x03, 0x03, .u64, .rw, 1000000000, true, 1000, 1000000000000, .observe⟩, -- interval
  ⟨0x04, 0x04, .u32, .rw, 1, true, 1, 1000000, .observe⟩, -- instances per interval
  ⟨0x05, 0x05, .u32, .rw, 1, true, 0, 4294967295, .observe⟩, -- repetitions
  ⟨0x06, 0x06, .u32, .rw, 0, true, 0, 4294967295, .observe⟩, -- actions
  ⟨0x07, 0x07, .bool, .rw, 0, true, 0, 1, .observe⟩, -- require lock
  ⟨0x08, 0x08, .u8, .rw, 0, true, 0, 1, .observe⟩, -- arm
  ⟨0x09, 0x09, .shortTime, .ro, 0, true, 0, 0, .observe⟩, -- next target
  ⟨0x0A, 0x0A, .u64, .ro, 0, true, 0, 0, .observe⟩, -- fired
  ⟨0x0B, 0x0B, .u64, .ro, 0, true, 0, 0, .observe⟩, -- skipped
  ⟨0x0C, 0x0C, .u64, .ro, 0, true, 0, 0, .observe⟩, -- suppressed
  ⟨0x0D, 0x0D, .u8, .rw, 0, true, 0, 63, .observe⟩ -- engine thread
]
/-- Subentries of 6200h (09_time_bases.md). -/
def od6200 : List OdEntry := [
  ⟨0x01, 0x01, .u8, .rw, 0, true, 0, 5, .observe⟩, -- mode
  ⟨0x02, 0x02, .u8, .rw, 0, true, 0, 7, .observe⟩, -- time base
  ⟨0x03, 0x03, .u64, .rw, 1000000000, true, 20, 1000000000000, .observe⟩, -- interval
  ⟨0x04, 0x04, .u32, .rw, 1, true, 1, 1000000, .observe⟩, -- instances per interval
  ⟨0x05, 0x05, .i64, .rw, 0, true, (-9223372036854775808), 9223372036854775807, .observe⟩, -- offset
  ⟨0x06, 0x06, .u32, .rw, 1000000, true, 0, 4294967295, .observe⟩, -- width
  ⟨0x07, 0x07, .bool, .rw, 0, true, 0, 1, .observe⟩, -- polarity
  ⟨0x08, 0x08, .u8, .rw, 0, true, 0, 2, .observe⟩, -- park level
  ⟨0x09, 0x09, .bool, .rw, 0, true, 0, 1, .observe⟩, -- static level
  ⟨0x0A, 0x0A, .u8, .rw, 4, true, 0, 7, .observe⟩, -- IRIG coded expression
  ⟨0x0B, 0x0B, .u8, .rw, 0, true, 0, 1, .observe⟩, -- IRIG time scale
  ⟨0x0C, 0x0C, .i16, .rw, 0, true, (-720), 840, .observe⟩, -- local offset
  ⟨0x0D, 0x0D, .bool, .rw, 1, true, 0, 1, .observe⟩, -- IEEE 1344 extension
  ⟨0x0E, 0x0E, .i64, .ro, 0, true, 0, 0, .observe⟩, -- alignment error
  ⟨0x0F, 0x0F, .u8, .wo, 0, false, 1, 2, .observe⟩, -- realign
  ⟨0x10, 0x10, .u32, .rw, 1000, true, 1, 1000000, .observe⟩, -- slew rate
  ⟨0x11, 0x11, .u8, .ro, 0, true, 0, 0, .observe⟩ -- output state
]
/-- Subentries of 6300h (09_time_bases.md). -/
def od6300 : List OdEntry := [
  ⟨0x01, 0x01, .bool, .rw, 0, true, 0, 1, .observe⟩, -- enable
  ⟨0x02, 0x02, .u8, .rw, 1, true, 1, 3, .observe⟩, -- edge
  ⟨0x03, 0x03, .u8, .rw, 0, true, 0, 7, .observe⟩, -- time base
  ⟨0x04, 0x04, .u16, .rw, 0, true, 0, 1000, .observe⟩, -- filter
  ⟨0x05, 0x05, .u16, .rw, 1, true, 1, 65535, .observe⟩, -- prescale
  ⟨0x06, 0x06, .i32, .rw, 0, true, (-1000000), 1000000, .observe⟩, -- input delay
  ⟨0x07, 0x07, .u64, .ro, 0, true, 0, 0, .observe⟩, -- captures
  ⟨0x08, 0x08, .u64, .ro, 0, true, 0, 0, .observe⟩ -- overruns
]
/-- Subentries of 6380h (09_time_bases.md). -/
def od6380 : List OdEntry := [
  ⟨0x01, 0x01, .domain, .rc, 0, false, 0, 0, .observe⟩, -- records
  ⟨0x02, 0x02, .u16, .ro, 0, false, 0, 0, .observe⟩, -- unread records
  ⟨0x03, 0x03, .u32, .ro, 0, false, 0, 0, .observe⟩, -- rewind marks
  ⟨0x04, 0x04, .u64, .ro, 0, false, 0, 0, .observe⟩, -- records lost
  ⟨0x05, 0x05, .bool, .wo, 0, false, 0, 1, .observe⟩ -- reset ring
]
/-- Subentries of 7000h (11_references_and_holdover.md). -/
def od7000 : List OdEntry := [
  ⟨0x01, 0x01, .u8, .rw, 0, true, 0, 31, .observe⟩, -- source
  ⟨0x02, 0x02, .u32, .rw, 10000000, true, 1, 156250000, .observe⟩, -- nominal frequency
  ⟨0x03, 0x03, .u8, .rw, 10, true, 1, 255, .observe⟩, -- priority
  ⟨0x04, 0x04, .u8, .rw, 0, true, 0, 1, .observe⟩, -- QL mode
  ⟨0x05, 0x05, .u8, .rw, 15, true, 0, 15, .observe⟩, -- host QL
  ⟨0x06, 0x06, .u8, .ro, 0, false, 0, 0, .observe⟩, -- QL in force
  ⟨0x07, 0x07, .u8, .ro, 0, false, 0, 0, .observe⟩, -- slot state
  ⟨0x08, 0x08, .u16, .roW1c, 0, false, 0, 0, .observe⟩, -- slot status
  ⟨0x09, 0x09, .i32, .ro, 0, false, 0, 0, .observe⟩, -- frequency offset
  ⟨0x0A, 0x0A, .u32, .rw, 10000, true, 100, 600000, .observe⟩, -- guard time
  ⟨0x0B, 0x0B, .u32, .rw, 9200, true, 100, 50000, .observe⟩, -- frequency window
  ⟨0x0C, 0x0C, .i32, .rw, 0, true, (-1000000), 1000000, .observe⟩, -- input delay
  ⟨0x0D, 0x0D, .u8, .rw, 255, true, 0, 255, .observe⟩, -- pulse time base
  ⟨0x0E, 0x0E, .bool, .rw, 0, true, 0, 1, .observe⟩, -- lockout
  ⟨0x0F, 0x0F, .u32, .rw, 4177461247, true, 0, 4294967295, .observe⟩ -- host time quality
]
/-- Subentries of 7010h (11_references_and_holdover.md). -/
def od7010 : List OdEntry := [
  ⟨0x01, 0x01, .u8, .ro, 255, false, 0, 0, .observe⟩, -- selected slot
  ⟨0x02, 0x02, .u8, .ro, 1, false, 0, 0, .observe⟩, -- selector state
  ⟨0x03, 0x03, .bool, .rw, 1, true, 0, 1, .observe⟩, -- revertive
  ⟨0x04, 0x04, .u8, .rw, 255, true, 0, 255, .observe⟩, -- force slot
  ⟨0x05, 0x05, .u32, .rw, 50, true, 1, 10000, .observe⟩, -- dispute limit
  ⟨0x06, 0x06, .u32, .rw, 1000, true, 10, 1000000, .observe⟩, -- frequency slew limit
  ⟨0x07, 0x07, .u16, .rw, 300, true, 1, 3600, .observe⟩, -- holdover averaging time
  ⟨0x08, 0x08, .i32, .ro, 0, true, 0, 0, .observe⟩, -- holdover value
  ⟨0x09, 0x09, .bool, .ro, 0, true, 0, 0, .observe⟩, -- holdover ready
  ⟨0x0A, 0x0A, .u8, .rw, 7, true, 0, 15, .observe⟩, -- holdover QL
  ⟨0x0B, 0x0B, .u8, .ro, 7, false, 0, 0, .observe⟩, -- QL sent
  ⟨0x0C, 0x0C, .u32, .ro, 0, false, 0, 0, .observe⟩, -- switches
  ⟨0x0D, 0x0D, .i32, .rw, 0, true, (-10000000), 10000000, .observe⟩ -- free-run trim
]
/-- Subentries of 7020h (11_references_and_holdover.md). -/
def od7020 : List OdEntry := [
  ⟨0x01, 0x01, .u32, .rw, 1000, true, 1, 1000000, .observe⟩, -- slope limit
  ⟨0x02, 0x02, .u32, .rw, 2000, true, 100, 100000, .observe⟩, -- lock window
  ⟨0x03, 0x03, .u8, .rw, 4, true, 1, 255, .observe⟩, -- lock hold count
  ⟨0x04, 0x04, .u8, .ro, 255, false, 0, 0, .observe⟩, -- selected slot
  ⟨0x05, 0x05, .bool, .rw, 1, true, 0, 1, .observe⟩, -- revertive
  ⟨0x06, 0x06, .u8, .rw, 255, true, 0, 255, .observe⟩, -- force slot
  ⟨0x07, 0x07, .u16, .rw, 16, true, 1, 1000, .observe⟩, -- frequency estimate window
  ⟨0x08, 0x08, .i32, .ro, 0, false, 0, 0, .observe⟩, -- frequency estimate
  ⟨0x09, 0x09, .u16, .rw, 300, true, 1, 3600, .observe⟩, -- holdover averaging time
  ⟨0x0A, 0x0A, .i32, .ro, 0, true, 0, 0, .observe⟩, -- holdover steering
  ⟨0x0B, 0x0B, .u8, .wo, 0, false, 0, 7, .own⟩, -- phase accept
  ⟨0x0C, 0x0C, .u32, .ro, 0, false, 0, 0, .observe⟩, -- switches
  ⟨0x10, 0x17, .u8, .ro, 0, false, 0, 0, .observe⟩, -- slot candidacy
  ⟨0x18, 0x1F, .i64, .ro, 0, false, 0, 0, .observe⟩, -- slot offset
  ⟨0x20, 0x27, .u32, .ro, 4294967295, false, 0, 0, .observe⟩ -- slot quality
]
/-- Subentries of 7030h (11_references_and_holdover.md). -/
def od7030 : List OdEntry := [
  ⟨0x01, 0x10, .u8, .rw, 255, true, 0, 255, .observe⟩ -- line port
]
/-- Subentries of 7040h (12_synthesis.md). -/
def od7040 : List OdEntry := [
  ⟨0x01, 0x01, .u8, .ro, 1, true, 0, 0, .observe⟩, -- role
  ⟨0x02, 0x02, .u16, .roW1c, 0, false, 0, 0, .observe⟩, -- synthesizer status
  ⟨0x03, 0x03, .u8, .rw, 1, true, 0, 2, .observe⟩, -- reference mode
  ⟨0x04, 0x04, .i16, .ro, 0, false, 0, 0, .observe⟩, -- phase error
  ⟨0x05, 0x05, .u32, .ro, 0, false, 0, 0, .observe⟩, -- lock losses
  ⟨0x06, 0x06, .i32, .ro, 0, false, 0, 0, .observe⟩ -- conditioner offset
]
/-- Subentries of 7048h (12_synthesis.md). -/
def od7048 : List OdEntry := [
  ⟨0x01, 0x01, .u16, .rw, 3000, true, 100, 10000, .observe⟩, -- loop bandwidth
  ⟨0x02, 0x02, .u8, .rw, 10, true, 1, 100, .observe⟩, -- lock window
  ⟨0x03, 0x03, .u16, .rw, 4096, true, 256, 65535, .observe⟩, -- lock count
  ⟨0x04, 0x04, .u16, .rw, 100, true, 1, 1000, .observe⟩ -- loss window
]
/-- Subentries of 7050h (12_synthesis.md). -/
def od7050 : List OdEntry := [
  ⟨0x01, 0x01, .u32, .ro, 0, true, 0, 0, .observe⟩, -- change-overs
  ⟨0x02, 0x02, .bool, .wo, 0, false, 0, 1, .observe⟩, -- swap
  ⟨0x03, 0x03, .u8, .ro, 0, true, 0, 0, .observe⟩, -- working member
  ⟨0x04, 0x04, .time80, .ro, 0, true, 0, 0, .observe⟩ -- last change-over
]
/-- Subentries of 7060h (12_synthesis.md). -/
def od7060 : List OdEntry := [
  ⟨0x01, 0x01, .u8, .rw, 0, true, 0, 5, .observe⟩, -- format
  ⟨0x02, 0x02, .u8, .rw, 8, true, 0, 11, .observe⟩, -- source
  ⟨0x03, 0x03, .u32, .rw, 32, true, 4, 5000000, .observe⟩, -- divider
  ⟨0x04, 0x04, .u8, .rw, 0, true, 0, 2, .observe⟩, -- sync mode
  ⟨0x05, 0x05, .u8, .rw, 2, true, 0, 2, .observe⟩, -- park level
  ⟨0x06, 0x06, .u32, .rw, 0, true, 0, 4999999, .observe⟩, -- phase offset
  ⟨0x07, 0x07, .u8, .ro, 0, false, 0, 0, .observe⟩ -- output state
]
/-- Subentries of 7070h (12_synthesis.md). -/
def od7070 : List OdEntry := [
  ⟨0x01, 0x01, .u32, .ro, 0, false, 0, 0, .observe⟩, -- accepted edges
  ⟨0x02, 0x02, .time80, .ro, 0, false, 0, 0, .observe⟩, -- last edge
  ⟨0x03, 0x03, .u32, .ro, 0, false, 0, 0, .observe⟩ -- ignored edges
]
/-- Subentries of 8000h (13_calibration.md). -/
def od8000 : List OdEntry := [
  ⟨0x01, 0x01, .u32, .rw, 3600, true, 60, 86400, .observe⟩, -- calibration period
  ⟨0x02, 0x02, .u16, .rw, 40, true, 5, 200, .observe⟩, -- temperature trigger
  ⟨0x03, 0x03, .bool, .wo, 0, false, 0, 1, .observe⟩, -- calibrate now
  ⟨0x04, 0x04, .u32, .ro, 0, false, 0, 0, .observe⟩, -- resistor reading
  ⟨0x05, 0x05, .u8, .ro, 0, false, 0, 0, .observe⟩, -- resistor status
  ⟨0x06, 0x06, .u32, .ro, 0, false, 0, 0, .observe⟩, -- rounds completed
  ⟨0x07, 0x07, .time80, .ro, 0, false, 0, 0, .observe⟩, -- last round
  ⟨0x08, 0x08, .domain, .ro, 0, true, 0, 0, .observe⟩ -- time-line delays
]
/-- Subentries of 8100h (13_calibration.md). -/
def od8100 : List OdEntry := [
  ⟨0x01, 0x01, .u16, .ro, 512, true, 0, 0, .observe⟩, -- receive termination trim
  ⟨0x02, 0x02, .u16, .ro, 512, true, 0, 0, .observe⟩, -- transmit termination trim
  ⟨0x03, 0x03, .u16, .ro, 512, true, 0, 0, .observe⟩, -- swing trim
  ⟨0x04, 0x04, .domain, .ro, 0, true, 0, 0, .observe⟩, -- bias trims
  ⟨0x05, 0x05, .u16, .ro, 512, true, 0, 0, .observe⟩, -- receive vernier
  ⟨0x06, 0x06, .u16, .ro, 512, true, 0, 0, .observe⟩, -- transmit vernier
  ⟨0x07, 0x07, .u32, .ro, 0, true, 0, 0, .observe⟩, -- receive target
  ⟨0x08, 0x08, .u32, .ro, 0, true, 0, 0, .observe⟩, -- transmit target
  ⟨0x09, 0x09, .time80, .ro, 0, false, 0, 0, .observe⟩, -- last calibration
  ⟨0x0A, 0x0A, .u16, .roW1c, 8, false, 0, 0, .observe⟩ -- calibration status
]
/-- Subentries of 8200h (13_calibration.md). -/
def od8200 : List OdEntry := [
  ⟨0x01, 0x04, .i16, .ro, 0, false, 0, 0, .observe⟩, -- temperature
  ⟨0x05, 0x06, .u16, .ro, 0, false, 0, 0, .observe⟩, -- supply
  ⟨0x07, 0x07, .u8, .ro, 255, false, 0, 0, .observe⟩, -- spare assignment
  ⟨0x08, 0x08, .u8, .ro, 63, false, 0, 0, .observe⟩ -- stale channels
]
/-- Subentries of 9000h (14_twin_pair.md). -/
def od9000 : List OdEntry := [
  ⟨0x01, 0x01, .u8, .ro, 3, false, 0, 0, .observe⟩, -- role
  ⟨0x02, 0x02, .u32, .roW1c, 0, false, 0, 0, .observe⟩, -- twin status
  ⟨0x03, 0x03, .bool, .wo, 0, false, 0, 1, .observe⟩, -- handover
  ⟨0x04, 0x04, .u16, .rw, 30, true, 20, 1000, .observe⟩, -- cricket timeout
  ⟨0x05, 0x05, .u16, .rw, 2000, true, 100, 60000, .observe⟩, -- twin wait
  ⟨0x06, 0x06, .bool, .rw, 1, true, 0, 1, .observe⟩, -- holdover takeover
  ⟨0x07, 0x07, .u16, .rw, 10, true, 1, 3600, .observe⟩, -- holdover takeover delay
  ⟨0x08, 0x08, .u32, .rw, 0, true, 0, 4294967295, .observe⟩, -- shared outputs
  ⟨0x09, 0x09, .i16, .rw, 0, true, (-10000), 10000, .observe⟩, -- trace asymmetry
  ⟨0x0A, 0x0A, .u32, .rw, 2000, true, 100, 1000000, .observe⟩, -- twin time limit
  ⟨0x0B, 0x0B, .u8, .ro, 0, false, 0, 0, .observe⟩, -- Keacon lanes usable
  ⟨0x0C, 0x0C, .u8, .ro, 0, false, 0, 0, .observe⟩, -- mirror state
  ⟨0x0D, 0x0D, .u32, .ro, 0, false, 0, 0, .observe⟩, -- mirror epoch
  ⟨0x0E, 0x0E, .u32, .ro, 0, false, 0, 0, .observe⟩, -- mirror epoch acknowledged
  ⟨0x0F, 0x0F, .u32, .ro, 0, false, 0, 0, .observe⟩, -- divergent items
  ⟨0x10, 0x10, .bool, .wo, 0, false, 0, 1, .observe⟩, -- resync
  ⟨0x11, 0x11, .u32, .ro, 0, true, 0, 0, .observe⟩, -- takeovers
  ⟨0x12, 0x12, .u64, .ro, 0, false, 0, 0, .observe⟩, -- crickets missed
  ⟨0x13, 0x13, .domain, .ro, 0, false, 0, 0, .observe⟩, -- twin identity
  ⟨0x14, 0x14, .u64, .ro, 0, false, 0, 0, .observe⟩ -- cover discards
]
/-- Subentries of 9020h (14_twin_pair.md). -/
def od9020 : List OdEntry := [
  ⟨0x01, 0x08, .i64, .ro, 0, false, 0, 0, .observe⟩ -- twin offset
]
/-- Subentries of 9100h (14_twin_pair.md). -/
def od9100 : List OdEntry := [
  ⟨0x01, 0x01, .u8, .rw, 255, true, 0, 255, .observe⟩, -- partner port
  ⟨0x02, 0x02, .bool, .rw, 0, true, 0, 1, .observe⟩, -- standby
  ⟨0x03, 0x03, .u8, .ro, 0, false, 0, 0, .observe⟩, -- cover state
  ⟨0x04, 0x04, .u64, .ro, 0, false, 0, 0, .observe⟩, -- cover frames sent
  ⟨0x05, 0x05, .u64, .ro, 0, false, 0, 0, .observe⟩, -- cover frames transmitted
  ⟨0x06, 0x06, .bool, .wo, 0, false, 0, 1, .own⟩ -- release cover
]
/-- Subentries of A000h (15_faults.md). -/
def odA000 : List OdEntry := [
  ⟨0x01, 0x01, .domain, .ro, 0, true, 0, 0, .observe⟩, -- first fault
  ⟨0x02, 0x02, .bool, .wo, 0, false, 0, 1, .observe⟩, -- clear first fault
  ⟨0x03, 0x03, .domain, .rc, 0, true, 0, 0, .observe⟩, -- fault records
  ⟨0x04, 0x04, .u16, .ro, 0, true, 0, 0, .observe⟩, -- unread records
  ⟨0x05, 0x05, .u32, .ro, 0, true, 0, 0, .observe⟩, -- records lost
  ⟨0x06, 0x06, .bool, .wo, 0, false, 0, 1, .observe⟩, -- acknowledge
  ⟨0x07, 0x07, .u16, .roW1c, 0, false, 0, 0, .observe⟩, -- collector status
  ⟨0x08, 0x08, .u32, .rw, 10000, true, 1, 1000000, .observe⟩, -- ERR_N minimum
  ⟨0x09, 0x09, .u8, .rw, 0, true, 0, 63, .observe⟩, -- fault thread
  ⟨0x0A, 0x0A, .u64, .ro, 0, true, 0, 0, .observe⟩, -- masked detections
  ⟨0x0B, 0x0B, .u64, .ro, 0, true, 0, 0, .observe⟩ -- consequential records
]
/-- Subentries of A010h (15_faults.md). -/
def odA010 : List OdEntry := [
  ⟨0x01, 0x01, .u8, .ro, 0, true, 0, 0, .observe⟩, -- fenced regions
  ⟨0x02, 0x02, .u32, .ro, 0, true, 0, 0, .observe⟩, -- fenced clusters
  ⟨0x03, 0x03, .domain, .ro, 0, true, 0, 0, .observe⟩, -- fenced ports
  ⟨0x04, 0x04, .domain, .ro, 0, true, 0, 0, .observe⟩, -- fenced banks
  ⟨0x05, 0x05, .u16, .ro, 0, true, 0, 0, .observe⟩, -- fenced engines
  ⟨0x06, 0x06, .domain, .ro, 0, true, 0, 0, .observe⟩, -- fenced units of timing
  ⟨0x07, 0x07, .domain, .wo, 0, false, 0, 0, .own⟩, -- fence command
  ⟨0x08, 0x08, .u8, .ro, 0, false, 0, 0, .observe⟩ -- last fence refusal
]
/-- Subentries of A0F0h (15_faults.md). -/
def odA0F0 : List OdEntry := [
  ⟨0x01, 0x01, .domain, .ro, 0, true, 0, 0, .observe⟩ -- safe-state record
]
/-- Subentries of A100h (15_faults.md). -/
def odA100 : List OdEntry := [
  ⟨0x01, 0x01, .domain, .rw, 0, true, 0, 0, .observe⟩ -- source settings
]
/-- Subentries of A180h (15_faults.md). -/
def odA180 : List OdEntry := [
  ⟨0x01, 0x01, .domain, .ro, 0, true, 0, 0, .observe⟩ -- source counts
]
/-- Subentries of B000h (17_engines_and_counters.md). -/
def odB000 : List OdEntry := [
  ⟨0x01, 0x01, .u8, .rw, 0, true, 0, 3, .observe⟩, -- image
  ⟨0x02, 0x02, .u8, .ro, 1, false, 0, 0, .observe⟩, -- engine state
  ⟨0x03, 0x03, .u8, .rw, 0, true, 0, 255, .observe⟩, -- thread priority
  ⟨0x04, 0x04, .u16, .rw, 100, true, 1, 1000, .observe⟩, -- watchdog timeout
  ⟨0x05, 0x05, .u32, .ro, 0, false, 0, 0, .observe⟩, -- events dropped
  ⟨0x06, 0x06, .u32, .ro, 0, false, 0, 0, .observe⟩, -- local ECC corrected
  ⟨0x07, 0x07, .domain, .ro, 0, false, 0, 0, .observe⟩, -- last trap
  ⟨0x08, 0x08, .u32, .ro, 0, false, 0, 0, .observe⟩, -- block resets
  ⟨0x09, 0x09, .u8, .ro, 255, false, 0, 0, .observe⟩ -- substitute
]
/-- Subentries of B010h (17_engines_and_counters.md). -/
def odB010 : List OdEntry := [
  ⟨0x01, 0x05, .u64, .ro, 0, false, 0, 0, .observe⟩, -- level 1
  ⟨0x06, 0x08, .u64, .ro, 0, false, 0, 0, .observe⟩, -- halted by cause
  ⟨0x09, 0x0C, .u64, .ro, 0, false, 0, 0, .observe⟩, -- issued by thread
  ⟨0x0D, 0x10, .u64, .ro, 0, false, 0, 0, .observe⟩, -- stalled by cause
  ⟨0x11, 0x12, .u64, .ro, 0, false, 0, 0, .observe⟩ -- idle by cause
]
/-- Subentries of B080h (17_engines_and_counters.md). -/
def odB080 : List OdEntry := [
  ⟨0x01, 0x01, .u32, .rw, 1000, true, 100, 10000000, .observe⟩, -- sample period
  ⟨0x02, 0x02, .u32, .ro, 0, false, 0, 0, .observe⟩, -- sample epoch
  ⟨0x03, 0x03, .time80, .ro, 0, false, 0, 0, .observe⟩, -- sample time
  ⟨0x04, 0x04, .bool, .ro, 0, false, 0, 0, .observe⟩, -- reprogram pending
  ⟨0x05, 0x05, .u8, .rw, 255, true, 0, 255, .observe⟩, -- overflow thread
  ⟨0x06, 0x06, .domain, .roW1c, 0, false, 0, 0, .observe⟩, -- overflow map
  ⟨0x07, 0x07, .bool, .wo, 0, false, 0, 1, .observe⟩, -- clear counters
  ⟨0x08, 0x08, .u32, .ro, 0, false, 0, 0, .observe⟩ -- overflows
]
/-- Subentries of B100h (02_levels_and_islands.md). -/
def odB100 : List OdEntry := [
  ⟨0x01, 0x01, .u8, .ro, 0, true, 0, 0, .observe⟩, -- home region
  ⟨0x02, 0x02, .u8, .rw, 1, true, 0, 1, .observe⟩, -- ring class
  ⟨0x03, 0x03, .u8, .rw, 0, true, 0, 63, .observe⟩, -- thread binding
  ⟨0x04, 0x04, .u16, .rw, 32, true, 8, 256, .observe⟩, -- to-hub data area
  ⟨0x05, 0x05, .u16, .rw, 32, true, 8, 256, .observe⟩, -- from-hub data area
  ⟨0x06, 0x06, .u8, .ro, 0, false, 0, 0, .observe⟩, -- carrying region
  ⟨0x07, 0x07, .u64, .ro, 0, false, 0, 0, .observe⟩ -- fence-lost frames
]
/-- Subentries of C000h (18_security_debug_states.md). -/
def odC000 : List OdEntry := [
  ⟨0x01, 0x01, .u8, .ro, 0, true, 0, 0, .observe⟩, -- lifecycle state
  ⟨0x02, 0x02, .u8, .wo, 0, false, 1, 4, .own⟩, -- lifecycle command
  ⟨0x03, 0x03, .u32, .wo, 0, false, 0, 4294967295, .observe⟩, -- confirmation
  ⟨0x04, 0x04, .u8, .ro, 0, false, 0, 0, .observe⟩, -- command pending
  ⟨0x05, 0x05, .u8, .ro, 0, true, 0, 0, .observe⟩, -- active owner slot
  ⟨0x06, 0x06, .bool, .rw, 1, true, 0, 1, .observe⟩, -- anonymous observe
  ⟨0x07, 0x07, .u8, .rw, 1, true, 0, 2, .observe⟩ -- SPI role without credential
]
/-- Subentries of C010h (18_security_debug_states.md). -/
def odC010 : List OdEntry := [
  ⟨0x01, 0x01, .domain, .rw, 0, true, 0, 0, .observe⟩, -- owner key 0
  ⟨0x02, 0x02, .domain, .rw, 0, true, 0, 0, .observe⟩ -- owner key 1
]
/-- Subentries of C020h (18_security_debug_states.md). -/
def odC020 : List OdEntry := [
  ⟨0x01, 0x10, .domain, .rw, 0, true, 0, 0, .own⟩ -- credentials
]
/-- Subentries of C030h (18_security_debug_states.md). -/
def odC030 : List OdEntry := [
  ⟨0x01, 0x01, .u32, .ro, 0, true, 0, 0, .observe⟩, -- base image version
  ⟨0x02, 0x02, .u16, .ro, 0, true, 0, 0, .observe⟩, -- base security version
  ⟨0x03, 0x03, .u8, .ro, 0, true, 0, 0, .observe⟩, -- base rollback floor
  ⟨0x04, 0x04, .u8, .ro, 0, true, 0, 0, .observe⟩, -- owner rollback floor
  ⟨0x05, 0x05, .u8, .wo, 0, false, 1, 2, .own⟩, -- raise rollback floor
  ⟨0x06, 0x06, .u32, .ro, 0, true, 0, 0, .observe⟩, -- authentication failures
  ⟨0x07, 0x07, .domain, .ro, 0, false, 0, 0, .observe⟩ -- image status
]
/-- Subentries of C040h (18_security_debug_states.md). -/
def odC040 : List OdEntry := [
  ⟨0x01, 0x01, .u8, .ro, 2, false, 0, 0, .observe⟩, -- debug state
  ⟨0x02, 0x02, .domain, .ro, 0, false, 0, 0, .observe⟩, -- challenge
  ⟨0x03, 0x03, .domain, .wo, 0, false, 0, 0, .observe⟩, -- response
  ⟨0x04, 0x04, .u32, .rw, 3600, true, 60, 86400, .observe⟩, -- grant time
  ⟨0x05, 0x05, .u32, .ro, 0, false, 0, 0, .observe⟩, -- grant remaining
  ⟨0x06, 0x06, .u8, .wo, 0, false, 1, 2, .observe⟩, -- debug command
  ⟨0x07, 0x07, .u16, .ro, 0, false, 0, 0, .observe⟩, -- halted engines
  ⟨0x08, 0x08, .u16, .rw, 0, true, 0, 65535, .observe⟩, -- halt at boot
  ⟨0x09, 0x09, .u8, .ro, 0, false, 0, 0, .observe⟩ -- responses held
]
/-- Subentries of C050h (18_security_debug_states.md). -/
def odC050 : List OdEntry := [
  ⟨0x01, 0x01, .domain, .ro, 0, true, 0, 0, .observe⟩, -- device certificate
  ⟨0x02, 0x02, .domain, .ro, 0, true, 0, 0, .observe⟩ -- fuse summary
]
/-- Subentries of D000h (19_start_up.md). -/
def odD000 : List OdEntry := [
  ⟨0x01, 0x01, .u8, .wo, 0, false, 1, 1, .own⟩, -- start command
  ⟨0x02, 0x02, .u8, .ro, 0, true, 0, 0, .observe⟩, -- last start type
  ⟨0x03, 0x03, .u8, .ro, 0, true, 0, 0, .observe⟩, -- warm start failures
  ⟨0x04, 0x04, .u8, .ro, 0, true, 0, 0, .observe⟩, -- cold start failures
  ⟨0x05, 0x05, .u16, .rw, 60, true, 1, 3600, .observe⟩, -- settle time
  ⟨0x06, 0x06, .domain, .ro, 0, true, 0, 0, .observe⟩, -- last failure
  ⟨0x07, 0x07, .bool, .rw, 0, true, 0, 1, .observe⟩, -- configuration hold
  ⟨0x08, 0x08, .u32, .rw, 60000, true, 1000, 600000, .observe⟩, -- hold limit
  ⟨0x09, 0x09, .bool, .wo, 0, false, 0, 1, .observe⟩, -- release hold
  ⟨0x0A, 0x0A, .u8, .ro, 0, false, 0, 0, .observe⟩, -- start step
  ⟨0x0B, 0x0B, .u32, .ro, 0, true, 0, 0, .observe⟩, -- start duration
  ⟨0x10, 0x10, .u8, .wo, 0, false, 1, 2, .own⟩, -- image command
  ⟨0x11, 0x11, .u8, .ro, 0, true, 0, 0, .observe⟩, -- image status
  ⟨0x12, 0x12, .u32, .ro, 0, true, 0, 0, .observe⟩, -- image sequence
  ⟨0x13, 0x13, .u32, .ro, 0, true, 0, 0, .observe⟩, -- image refusal
  ⟨0x14, 0x14, .bool, .rw, 1, true, 0, 1, .observe⟩ -- restore on cold start
]
/-- Subentries of E000h (17_engines_and_counters.md). -/
def odE000 : List OdEntry := [
  ⟨0x01, 0x01, .u8, .rw, 0, true, 0, 9, .observe⟩, -- source
  ⟨0x02, 0x02, .u16, .rw, 0, true, 0, 65535, .observe⟩, -- item
  ⟨0x03, 0x03, .u32, .rw, 1, true, 1, 16777216, .observe⟩, -- threshold
  ⟨0x04, 0x04, .u8, .rw, 255, true, 0, 255, .observe⟩, -- event thread
  ⟨0x05, 0x05, .u64, .ro, 0, false, 0, 0, .observe⟩, -- samples at or above
  ⟨0x06, 0x06, .u64, .ro, 0, false, 0, 0, .observe⟩, -- crossings
  ⟨0x07, 0x07, .bool, .ro, 0, false, 0, 0, .observe⟩, -- live
  ⟨0x08, 0x08, .u32, .ro, 0, false, 0, 0, .observe⟩ -- present value
]
/-- Subentries of E100h (02_levels_and_islands.md). -/
def odE100 : List OdEntry := [
  ⟨0x01, 0x01, .u32, .rw, 100, true, 10, 10000, .observe⟩, -- stall limit
  ⟨0x02, 0x02, .u64, .ro, 0, false, 0, 0, .observe⟩, -- flushed packets
  ⟨0x03, 0x03, .u64, .ro, 0, false, 0, 0, .observe⟩, -- fence-discarded packets
  ⟨0x04, 0x04, .u32, .ro, 0, false, 0, 0, .observe⟩ -- last stalled crossing
]
/-- Subentries of F000h (16_object_dictionary.md). -/
def odF000 : List OdEntry := [
  ⟨0x01, 0x01, .u8, .ro, 0, false, 0, 0, .observe⟩, -- session state
  ⟨0x02, 0x02, .u8, .ro, 0, false, 0, 0, .observe⟩, -- transport
  ⟨0x03, 0x03, .u8, .ro, 0, false, 0, 0, .observe⟩, -- role
  ⟨0x04, 0x04, .domain, .ro, 0, false, 0, 0, .observe⟩, -- claims
  ⟨0x05, 0x05, .u32, .ro, 0, false, 0, 0, .observe⟩, -- staged bytes
  ⟨0x06, 0x06, .u8, .rw, 0, false, 0, 255, .observe⟩, -- subscriptions
  ⟨0x07, 0x07, .u32, .ro, 0, false, 0, 0, .observe⟩, -- requests
  ⟨0x08, 0x08, .u32, .ro, 0, false, 0, 0, .observe⟩, -- refusals
  ⟨0x09, 0x09, .u32, .ro, 0, false, 0, 0, .observe⟩, -- notices dropped
  ⟨0x0A, 0x0A, .domain, .ro, 0, false, 0, 0, .observe⟩ -- peer
]
/-- Subentries of F010h (16_object_dictionary.md). -/
def odF010 : List OdEntry := [
  ⟨0x01, 0x01, .u16, .rw, 30, true, 1, 3600, .observe⟩, -- session timeout
  ⟨0x02, 0x02, .u8, .rw, 63, true, 1, 63, .observe⟩, -- transports enabled
  ⟨0x03, 0x03, .domain, .rw, 0, true, 0, 0, .observe⟩, -- management ports
  ⟨0x04, 0x04, .u16, .rw, 17810, true, 1024, 65535, .observe⟩, -- UDP port
  ⟨0x05, 0x05, .domain, .rw, 0, true, 0, 0, .observe⟩, -- IPv6 address
  ⟨0x06, 0x06, .u8, .rw, 64, true, 8, 128, .observe⟩, -- IPv6 prefix length
  ⟨0x07, 0x07, .u8, .rw, 16, true, 1, 127, .observe⟩, -- CAN FD node ID, port 0
  ⟨0x08, 0x08, .u8, .rw, 17, true, 1, 127, .observe⟩, -- CAN FD node ID, port 1
  ⟨0x09, 0x09, .u16, .rw, 500, true, 125, 1000, .observe⟩, -- CAN FD nominal bit rate
  ⟨0x0A, 0x0A, .u16, .rw, 2000, true, 1000, 8000, .observe⟩, -- CAN FD data bit rate
  ⟨0x0B, 0x0B, .u16, .rw, 1000, true, 10, 10000, .observe⟩ -- notice rate limit
]
/-- Subentries of F020h (16_object_dictionary.md). -/
def odF020 : List OdEntry := [
  ⟨0x01, 0x01, .u32, .ro, 0, true, 0, 0, .observe⟩, -- commit sequence
  ⟨0x02, 0x02, .u8, .ro, 255, true, 0, 0, .observe⟩, -- last commit session
  ⟨0x03, 0x03, .time80, .ro, 0, true, 0, 0, .observe⟩, -- last commit time
  ⟨0x04, 0x04, .u32, .ro, 0, true, 0, 0, .observe⟩ -- refused commits
]

/-- The objects of R426 in rising order of index. -/
def objects : List OdObject := [
  { first := 0x1000, count := 1, entries := od1000 },
  { first := 0x2000, count := 100, entries := od2000 },
  { first := 0x2100, count := 96, entries := od2100 },
  { first := 0x2200, count := 96, entries := od2200 },
  { first := 0x2300, count := 96, entries := od2300 },
  { first := 0x2400, count := 96, entries := od2400 },
  { first := 0x2500, count := 24, entries := od2500 },
  { first := 0x3000, count := 1, entries := od3000 },
  { first := 0x3001, count := 1, entries := od3001 },
  { first := 0x3010, count := 1, entries := od3010 },
  { first := 0x3020, count := 1, entries := od3020 },
  { first := 0x3030, count := 1, entries := od3030 },
  { first := 0x3040, count := 1, entries := od3040 },
  { first := 0x3050, count := 1, entries := od3050 },
  { first := 0x3060, count := 1, entries := od3060 },
  { first := 0x3070, count := 1, entries := od3070 },
  { first := 0x3080, count := 1, entries := od3080 },
  { first := 0x3100, count := 96, entries := od3100 },
  { first := 0x3800, count := 1, entries := od3800 },
  { first := 0x3810, count := 8, entries := od3810 },
  { first := 0x4000, count := 8, entries := od4000 },
  { first := 0x4010, count := 96, entries := od4010 },
  { first := 0x4080, count := 1, entries := od4080 },
  { first := 0x4100, count := 3072, entries := od4100 },
  { first := 0x5000, count := 1, entries := od5000 },
  { first := 0x5010, count := 1, entries := od5010 },
  { first := 0x5020, count := 1, entries := od5020 },
  { first := 0x6000, count := 8, entries := od6000 },
  { first := 0x6100, count := 32, entries := od6100 },
  { first := 0x6200, count := 16, entries := od6200 },
  { first := 0x6300, count := 16, entries := od6300 },
  { first := 0x6380, count := 1, entries := od6380 },
  { first := 0x7000, count := 8, entries := od7000 },
  { first := 0x7010, count := 1, entries := od7010 },
  { first := 0x7020, count := 8, entries := od7020 },
  { first := 0x7030, count := 1, entries := od7030 },
  { first := 0x7040, count := 8, entries := od7040 },
  { first := 0x7048, count := 1, entries := od7048 },
  { first := 0x7050, count := 4, entries := od7050 },
  { first := 0x7060, count := 16, entries := od7060 },
  { first := 0x7070, count := 1, entries := od7070 },
  { first := 0x8000, count := 1, entries := od8000 },
  { first := 0x8100, count := 100, entries := od8100 },
  { first := 0x8200, count := 5, entries := od8200 },
  { first := 0x9000, count := 1, entries := od9000 },
  { first := 0x9020, count := 1, entries := od9020 },
  { first := 0x9100, count := 96, entries := od9100 },
  { first := 0xA000, count := 1, entries := odA000 },
  { first := 0xA010, count := 1, entries := odA010 },
  { first := 0xA0F0, count := 1, entries := odA0F0 },
  { first := 0xA100, count := 1, entries := odA100 },
  { first := 0xA180, count := 1, entries := odA180 },
  { first := 0xB000, count := 16, entries := odB000 },
  { first := 0xB010, count := 16, entries := odB010 },
  { first := 0xB080, count := 1, entries := odB080 },
  { first := 0xB100, count := 64, entries := odB100 },
  { first := 0xC000, count := 1, entries := odC000 },
  { first := 0xC010, count := 1, entries := odC010 },
  { first := 0xC020, count := 1, entries := odC020 },
  { first := 0xC030, count := 1, entries := odC030 },
  { first := 0xC040, count := 1, entries := odC040 },
  { first := 0xC050, count := 1, entries := odC050 },
  { first := 0xD000, count := 1, entries := odD000 },
  { first := 0xE000, count := 16, entries := odE000 },
  { first := 0xE100, count := 1, entries := odE100 },
  { first := 0xF000, count := 8, entries := odF000 },
  { first := 0xF010, count := 1, entries := odF010 },
  { first := 0xF020, count := 1, entries := odF020 }
]

/-- The object that holds an index (R426); none: the request is refused with code 01h. -/
def findObject (idx : Nat) : Option OdObject :=
  objects.find? (fun o => decide (o.first ≤ idx ∧ idx < o.first + o.count))

/-- The entry of a subindex among an object's (R426); none: code 02h. -/
def findEntry (idx sub : Nat) : Option OdEntry :=
  match findObject idx with
  | none => none
  | some o => o.entries.find? (fun e => decide (e.lo ≤ sub ∧ sub ≤ e.hi))

/-- The number of an item among its object's: lane, port, queue and so on. -/
def itemOf (idx : Nat) : Nat :=
  match findObject idx with
  | none => 0
  | some o => idx - o.first

/-- Defaults that the manual gives per item: lane rate of twin lanes (2000h.01), ring defaults (02 R59's table), queue depths
(07 R204), domain number and binding of TB1–TB7 (09 R253), slot priority (11 R311), synthesizer role, working member and
dividers (12 R332, R333). -/
def itemDefault (idx sub : Nat) (d : Int) : Int :=
  if 0x2060 ≤ idx ∧ idx < 0x2064 ∧ sub = 0x01 then 4
  else if 0x4100 ≤ idx ∧ idx < 0x4D00 then
    let q := (idx - 0x4100) % 32
    if 24 ≤ q ∧ q < 30 then (if sub = 0x03 then 512 else if sub = 0x05 then 384 else d)
    else if 30 ≤ q then (if sub = 0x03 then 256 else if sub = 0x05 then 192 else d)
    else d
  else if 0x6001 ≤ idx ∧ idx < 0x6008 then
    (if sub = 0x01 then (idx - 0x6000 : Nat) else if sub = 0x03 then 0 else d)
  else if 0x7000 ≤ idx ∧ idx < 0x7008 ∧ sub = 0x03 then 10 * ((idx - 0x7000 : Nat) + 1)
  else if 0x7040 ≤ idx ∧ idx < 0x7048 ∧ sub = 0x01 ∧ idx % 2 = 1 then 2
  else if 0x7050 ≤ idx ∧ idx < 0x7054 ∧ sub = 0x03 then 2 * (idx - 0x7050 : Nat)
  else if 0x7068 ≤ idx ∧ idx < 0x7070 ∧ sub = 0x03 then 500
  else if 0xB100 ≤ idx ∧ idx < 0xB140 then
    let i := idx - 0xB100
    if sub = 0x01 then (i / 8 : Nat)
    else if sub = 0x06 then (i / 8 : Nat)
    else if sub = 0x02 then (if i % 8 = 0 then 1 else 0)
    else if sub = 0x03 then (i : Nat)
    else d
  else d

/-- The default of a numeric entry; 0 for a key that names none. -/
def regDefault (key : Nat) : Int :=
  match findEntry (key / 256) (key % 256) with
  | none => 0
  | some e => itemDefault (key / 256) (key % 256) e.dflt

/-- The default of a byte-string entry: the device type (R427) and the management ports (R428); else empty. -/
def blobDefault (key : Nat) : List Byte :=
  if key = 0x100001 then [0x50, 0x51, 0x54, 0x2D, 0x39, 0x36]
  else if key = 0x100003 then List.replicate 5 0
  else if key = 0xF01003 then List.replicate 12 0xFF
  else []

/-- Whether an entry keeps its value over a warm start; keys that name no entry keep theirs. -/
def keptOnWarm (key : Nat) : Bool :=
  match findEntry (key / 256) (key % 256) with
  | none => true
  | some e => e.kept

/-- The role the range of an index needs for a write (R408). -/
def writeRole (idx : Nat) : Role :=
  if idx < 0x2000 then .own
  else if idx < 0xC000 then .operate
  else if 0xE000 ≤ idx ∧ idx < 0xF000 then .operate
  else .own

/-- The bits of an RO/W1C entry that a write of 1 clears: the sticky bits of the status layouts. -/
def w1cMask (idx sub : Nat) : Nat :=
  if 0x2000 ≤ idx ∧ idx < 0x2064 ∧ sub = 0x03 then 0xFC0000
  else if 0x2400 ≤ idx ∧ idx < 0x2460 ∧ sub = 0x02 then 0x0F00
  else if 0x4000 ≤ idx ∧ idx < 0x4008 ∧ sub = 0x09 then 0x2
  else if 0x4100 ≤ idx ∧ idx < 0x4D00 ∧ sub = 0x07 then 0x1E
  else if 0x6000 ≤ idx ∧ idx < 0x6008 ∧ sub = 0x04 then 0x180
  else if 0x7000 ≤ idx ∧ idx < 0x7008 ∧ sub = 0x08 then 0x3C
  else if 0x7040 ≤ idx ∧ idx < 0x7048 ∧ sub = 0x02 then 0x30
  else if 0x8100 ≤ idx ∧ idx < 0x8164 ∧ sub = 0x0A then 0x70
  else if idx = 0x9000 ∧ sub = 0x02 then 0xFE00
  else if idx = 0xA000 ∧ sub = 0x07 then 0xE0
  else 0

end Sys2Proof.Machine
end

