-- ==== Sys2Proof/Machine/Sparse.lean ====
section
/-! DEFINITION. The one form in which the state keeps numbered items: a list of (key, value) pairs, keys strictly rising and
no value equal to the default, so that equal contents are equal data. An unlisted key reads the default. -/

namespace Sys2Proof.Machine

/-- Numbered items: the listed ones in rising order; every other reads the default of its use. -/
abbrev Sparse (α : Type) := List (Nat × α)

/-- The value at a key; the default `d` where the key is not listed. -/
def Sparse.get {α : Type} (d : α) : Sparse α → Nat → α
  | [], _ => d
  | (k, v) :: r, n => if k = n then v else Sparse.get d r n

/-- Put a value at a key, keeping the order of keys. -/
def Sparse.put {α : Type} : Sparse α → Nat → α → Sparse α
  | [], n, v => [(n, v)]
  | (k, w) :: r, n, v =>
    if k = n then (n, v) :: r
    else if n < k then (n, v) :: (k, w) :: r
    else (k, w) :: Sparse.put r n v

/-- Drop a key. -/
def Sparse.drop {α : Type} (m : Sparse α) (n : Nat) : Sparse α := m.filter (fun e => e.1 != n)

/-- Write a value at a key: writing the default drops the entry. -/
def Sparse.set {α : Type} [DecidableEq α] (d : α) (m : Sparse α) (n : Nat) (v : α) : Sparse α :=
  if v = d then Sparse.drop m n else Sparse.put m n v

/-- Every listed item made anew by `f` from its key and value; what becomes the default is listed no more. -/
def Sparse.remap {α : Type} [DecidableEq α] (d : α) (f : Nat → α → α) (m : Sparse α) : Sparse α :=
  m.foldl (fun a e => Sparse.set d a e.1 (f e.1 e.2)) []

/-- Keys rise strictly. -/
def Sparse.rising {α : Type} : Sparse α → Bool
  | [] => true
  | [_] => true
  | (a, _) :: (b, w) :: r => decide (a < b) && Sparse.rising ((b, w) :: r)

/-- The canonical form: keys strictly rising, and no entry equal to the default. -/
def Sparse.wf {α : Type} [DecidableEq α] (d : α) (m : Sparse α) : Bool :=
  Sparse.rising m && m.all (fun e => decide (e.2 ≠ d))

end Sys2Proof.Machine
end

