-- ==== Sys2Proof/Machine/State.lean ====
section
/-! DEFINITION. The state of the PQT-96 as plain data, and the state after reset. Every entry of the object dictionary is a
register of `regs` (a number) or `blobs` (a byte string) under its index and subindex; everything else the spec gives the part
is a field of its own. A `Sparse` field lists the items that differ from the item's default. -/

namespace Sys2Proof.Machine

/-- A dictionary value: index, subindex and bytes, most significant first (16_object_dictionary.md R405). -/
structure OdValue where
  index : Nat
  sub : Nat
  bytes : List Byte := []
deriving DecidableEq, Repr

/-- A breach record (08_contracted_delivery.md R220). -/
structure Breach where
  contract : Nat
  code : Nat
  region : Nat
  time : Nat
  detail : Int
deriving DecidableEq, Repr

/-- The settings a monitor runs with (17_engines_and_counters.md R444). -/
structure MonitorSet where
  source : Nat := 0
  item : Nat := 0
  threshold : Nat := 1
  thread : Nat := 255
deriving DecidableEq, Repr

/-- A cover frame waiting toward the twin (14_twin_pair.md R372). -/
structure CoverFrame where
  ports : Nat
  vid : Nat
  priority : Nat
  untag : Nat
  payload : List Byte
  /-- When it came to the buffer, hub ns (R373). -/
  since : Nat := 0
deriving DecidableEq, Repr

/-- A Keacon frame put on a twin lane: its class, its bytes, and the hub ns at which the last of them has left (14_twin_pair.md R350 to R352). -/
structure KeaconSent where
  cls : Nat
  bytes : List Byte
  until_ : Nat
deriving DecidableEq, Repr

/-- A commit as mirrored: epoch and values (14_twin_pair.md R364); an image holds every mirrored entry that is not at its default (R365). -/
structure MirrorCommit where
  epoch : Nat
  values : List OdValue
  image : Bool := false
deriving DecidableEq, Repr

/-- A stored dictionary image (19_start_up.md R482). -/
structure StoredImage where
  sequence : Nat
  layout : Nat
  values : List OdValue
deriving DecidableEq, Repr

/-- A kept response (16_object_dictionary.md R414). -/
structure Response where
  rid : Nat
  status : Nat
  detail : Nat
  data : List Byte
  flags : Nat := 3
deriving DecidableEq, Repr

/-- A frame of the server on its way out (16_object_dictionary.md R410): its transport, the port and VID of a management frame, and the frame: of CAN FD
the identifier and the 64 bytes, of the twin relay the message. -/
structure OutFrame where
  transport : Nat
  port : Nat := 0
  vid : Nat := 0
  frame : List Byte
deriving DecidableEq, Repr

/-! ## Lanes and ports -/

/-- What a lane holds beside its dictionary entries (03_lanes.md). -/
structure LaneX where
  /-- An attempt has begun and not ended: the training timer keeps its count (R65). Reset: no attempt. -/
  attempt : Bool := false
  /-- The training timer runs (R63, R65, R78). Reset: stopped. -/
  timerRuns : Bool := false
  /-- The lane waits in stage 1 for its cluster's lane PLL (R63). Reset: no. -/
  pllWait : Bool := false
  /-- Since when signal has been absent, hub ns (R70); none while present or never seen. Reset: none. -/
  absentSince : Option Nat := none
  /-- The polarity of the present lock try: true = inverted (R66). Reset: normal. -/
  tryInverted : Bool := false
  /-- Polarity found: 0 = not detected, 1 = normal, 2 = inverted (R66); read in 2000h.0B. Reset 0. -/
  polarity : Nat := 0
  /-- Fill of the 32-entry receive elastic buffer (R71, R72). Reset: DESIGN CHOICE 16, log entry 4. -/
  fill : Nat := 16
  /-- A change of clocking mode waits for the next idle: 0 none, 1 to rate-matched, 2 to syntonised (R71, R72). Reset 0. -/
  modeChange : Nat := 0
  /-- A syntony retry measures (R72). Reset: no. -/
  retryRuns : Bool := false
  /-- A syntony interval spans a change-over and is to be discarded (R85, R324). Reset: no. -/
  discardInterval : Bool := false
  /-- This lane's loss took a bonded port down and its retraining has not ended (R79, R80). Reset: no. -/
  lone : Bool := false
  /-- When the next retry is due, hub ns, shown in 2000h.23 (R69); none when none is scheduled. Reset: none. -/
  retryAt : Option Nat := none
  /-- The pattern checker is in sync, and since when, hub ns (R83). Reset: no. -/
  checkerSync : Bool := false
  syncSince : Nat := 0
  /-- Live gain and the 12 DFE taps, tap 1 first, and when they last moved, hub ns (R75, R76). Reset: mid-range DESIGN CHOICE, log entry 100. -/
  gain : Nat := 128
  taps : List Int := [0, 0, 0, 0, 0, 0, 0, 0, 0, 0, 0, 0]
  adaptedAt : Nat := 0
  /-- Transmit coefficients c(−3) to c(1) that an exchange has set; empty: the preset of the port mode (R68, R75). Reset: preset. -/
  tx : List Int := []
deriving DecidableEq, Repr

/-- A security association of a SecY (04_ports_and_modules.md R95). -/
structure Association where
  /-- 0 GCM-AES-128, 1 GCM-AES-256, 2 GCM-AES-XPN-128, 3 GCM-AES-XPN-256. -/
  suite : Nat := 0
  /-- Confidentiality offset: 0, 30 or 50 bytes. -/
  offset : Nat := 0
deriving DecidableEq, Repr

/-- What a port holds beside its dictionary entries: link, module and MACsec (03_lanes.md, 04_ports_and_modules.md). -/
structure PortX where
  /-- A re-deskew of the bonded port runs (R80). Reset: no. -/
  reDeskew : Bool := false
  /-- The bonded port is down because one of its lanes retrains: it comes up after a re-deskew (R79, R80). Reset: no. -/
  bondWait : Bool := false
  /-- Receive deskew of FEC lane 0 in ps, as handed to the timestamp unit (R80, R262). Reset 0 DESIGN CHOICE, log entry 4. -/
  deskewPs : Nat := 0
  /-- A module is in the cage (R102). Reset: absent. -/
  modulePresent : Bool := false
  /-- The modes the module declares, bit m = mode m (R102). Reset 0. -/
  moduleModes : Nat := 0
  /-- The module's TX_DISABLE is asserted (R102, R483). Reset: asserted. -/
  txDisable : Bool := true
  /-- The accepted record's asymmetry, when flag bit 0 is set (R107, R267). Reset: none. -/
  recordAsymmetry : Option Int := none
  /-- The last polled diagnostics: temperature, supply, bias, transmit and receive power (R103). Reset: none polled. -/
  diagnostics : List Int := []
  /-- A diagnostics poll that waits behind an identity read on its bus (R103). Reset: none. -/
  waitingPoll : Option (List Int) := none
  /-- The next transmit packet number of the SecY (R98). Reset 0 DESIGN CHOICE, log entry 4. -/
  packetNumber : Nat := 0
  /-- The rekey event for the association in force has been raised (R98). Reset: no. -/
  rekeyRaised : Bool := false
  /-- The associations installed, key 4 × channel + AN: channel 0 transmits, 1 to 4 receive (R95). Reset: none. -/
  associations : Sparse (Option Association) := []
  /-- A transmit association is installed (R95, R98), and the AN of the one in force. Reset: none, 0. -/
  association : Bool := false
  transmitAn : Nat := 0
  /-- The association in force is of an XPN suite (R98). Reset: no. -/
  xpn : Bool := false
  /-- Since when the port, up with RS-FEC, counts codewords, hub ns (R100). Reset: not counting. -/
  fecSince : Option Nat := none
  /-- Clause 37 auto-negotiation has run on the present link (R92). Reset: no. -/
  negotiated : Bool := false
  /-- A module was removed during a record write: its record is undefined (R108). Reset: no. -/
  torn : Bool := false
  /-- Packet numbers beyond the suite's last are exhausted: frames are dropped (R98). Reset: no. -/
  exhausted : Bool := false
deriving DecidableEq, Repr

/-- What a port's timing holds beside its dictionary entries (10_timestamping_and_links.md). -/
structure TimingX where
  /-- The last mean path delays, newest first, at most 8 (R273). Reset: none. -/
  results : List Int := []
  /-- How many results since link up, counted to 8 (R273). Reset 0. -/
  count : Nat := 0
  /-- The causes that stand: bit 1 no baseline, 2 delay step, 3 detector, 4 vernier, 5 replica (R276, R277). Reset 0. -/
  causes : Nat := 0
  /-- An asymmetry calibration runs (R279). Reset: no. -/
  calibrating : Bool := false
  /-- s when the calibration started (R273). Reset 0. -/
  s0 : Int := 0
  /-- Apparent offsets recorded by the calibration, ps (R279). Reset: none. -/
  offsets : List Int := []
  /-- The port was verified when its calibration began (R279). Reset: no. -/
  wasVerified : Bool := false
  /-- The hub ns of the last result since link up (R273). Reset: none. -/
  lastResult : Option Nat := none
  /-- The elastic buffer's part of the receive delay as the port went down, ps, held while the lane's values are stale (13 R343). Reset 0. -/
  heldBuffer : Nat := 0
deriving DecidableEq, Repr

/-- An access to the modules of a cluster that waits or runs on its I2C bus: an identity read of the position selected, or the write of a link
identity record at a position, with how it ends (04_ports_and_modules.md R103, R104, R108). -/
inductive BusAccess where
  | read (position : Nat)
  | write (p : Nat) (bytes : List Byte) (outcome : RecordWriteEnd)
deriving DecidableEq, Repr

/-! ## Frames -/

/-- The result descriptor of 05_forwarding.md R132. -/
structure Descriptor where
  kind : Nat := 0
  destination : Nat := 0
  untag : Nat := 0
  ingress : Nat := 0
  vid : Nat := 0
  priority : Nat := 0
  queue : Nat := 0
  queueSet : Bool := false
  contracted : Bool := false
  contract : Nat := 0
  streamValid : Bool := false
  stream : Nat := 0
  frer : Nat := 0
  frerFunction : Nat := 0
  cutThrough : Bool := false
  timing : Bool := false
  /-- The six generations, in the table codes' order (R143). -/
  gens : List Nat := []
  /-- Destination and untagged maps of a multi-destination frame, carried in the sideband (R133). -/
  portMap : Nat := 0
  untagMap : Nat := 0
  /-- The FRER sequence number drawn at lookup (R124), carried beside the descriptor; the MODEL's own place for it. -/
  frerSeq : Nat := 0
  /-- A timestamp insertion asked for by the hub's frame: 0 none, 1 Sync, 2 Pdelay_Resp, 3 transparent clock (10 R269). -/
  insert : Nat := 0
  /-- The ingress timestamp a hub frame passes with its insertion request, 2^-16 ns (10 R269). -/
  passed : Int := 0
  /-- The ingress port of a frame that asks for an insertion, whose incoming delay is added; 127: none (10 R269). -/
  insertPort : Nat := 127
  /-- The receive timestamp record that stands in front of a frame in a ring (10 R271); the MODEL's own place for it. -/
  record : List Byte := []
  /-- The tag of a hub frame's timestamp request, 0 = none (10 R271). -/
  stampTag : Nat := 0
deriving DecidableEq, Repr

/-- The contract tag of 08_contracted_delivery.md R210, with its instants reckoned from the entry time. -/
structure Tag where
  deadline : Int := 0
  release : Int := 0
  occurrence : Nat := 0
deriving DecidableEq, Repr

/-- A cell of the fabric with its header (06_cyclic_fabric.md R158) and payload. -/
structure Cell where
  desc : Option Descriptor := none
  tag : Option Tag := none
  first : Bool := false
  last : Bool := false
  badTail : Bool := false
  void : Bool := false
  contracted : Bool := false
  source : Nat := 0
  destination : Nat := 0
  via : Nat := 0
  epoch : Nat := 0
  sequence : Nat := 0
  port : Nat := 0
  number : Nat := 0
  fillCycle : Nat := 0
  /-- The pool the cell was drawn from in the region that holds it (07 R179): 0 ingress, 1 contracted, 2 control, 3 shared, 4 none. -/
  pool : Nat := 4
  /-- Position of the cell in its frame, 0 first; the MODEL's own, beside the stream sequence of R159. -/
  index : Nat := 0
  /-- The frame's count at its port without wrap: the MODEL's own identity of the frame, where the header carries it modulo 512. -/
  serial : Nat := 0
  /-- Which copy of the frame: 0 the frame itself, 1 the ring's copy of classifier action 5 (05 R131), 2 the cover copy of a
  multi-destination frame (14 R372). -/
  variant : Nat := 0
  /-- The contract of a contracted cell: what an intermediate names in a breach (R161); the MODEL's own place for it. -/
  contract : Nat := 0
  /-- The frame's descriptor beside every cell, where the header carries it in the first alone: the MODEL's own, for a copy whose first
  cell is lost (06 R165). -/
  owner : Option Descriptor := none
  /-- No pool held a free cell for it at its destination (07 R181). -/
  unplaced : Bool := false
  /-- The frame's entry time as its record in the slice holds it (07 R196). -/
  entry : Int := 0
  /-- The cell's place holds an uncorrectable error that its reader will find (07 R183, R184). -/
  spoilt : Bool := false
  /-- Cycle number at which the cell arrived at its destination region (R166, 07 R196). -/
  arrival : Nat := 0
  /-- The cell came late (R166), or was in flight over an adjusted cycle or a step and is not judged. -/
  late : Bool := false
  unjudged : Bool := false
  /-- The cell was in flight while a stream epoch changed (08 R219 code 10). -/
  epochChanged : Bool := false
  creditReturn : Nat := 0
  backlog : Nat := 0
  resync : Bool := false
  valid : Bool := true
  payload : List Byte := []
deriving DecidableEq, Repr

/-- A frame being received at a port: its lookup, its cells so far (05_forwarding.md R110, R135; 10 R261). -/
structure RxFrame where
  /-- Receive timestamps on TB0–TB7, 2^-16 ns, corrected to the reference plane (R261, R262). -/
  stamps : List Int := []
  /-- The TB0 stamp before correction: the instant of the frame's first bit at the port edge, 2^-16 ns (R261, 08 R208). -/
  raw : Int := 0
  /-- Step epochs of the stamps (R236). -/
  epochs : List Nat := []
  /-- Flags of R272 at arrival: bit 3 unverified, bit 2 rate-matched. -/
  flags : Nat := 0
  /-- The frame count of the port, modulo 512 (R158). -/
  number : Nat := 0
  /-- The frame count of the port without wrap: the MODEL's own identity of the frame. -/
  serial : Nat := 0
  /-- The first 128 bytes (R111). -/
  window : List Byte := []
  /-- The bytes received, of an Echo Request to the device (16 R410). -/
  echo : List Byte := []
  /-- Result of the lookup: none before stage 8. -/
  desc : Option Descriptor := none
  /-- Lookup or a pool has discarded the frame: later cells are dropped. -/
  discarded : Bool := false
  /-- It has passed the port's maximum frame: it is counted and closed (04 R93, 05 R136). -/
  oversize : Bool := false
  /-- The stream whose filter judges the frame's length (R123). -/
  stream : Option Nat := none
  /-- Where a length that turns out too long demotes the frame: its descriptor as a best-effort frame (08 R209). -/
  ifDemoted : Option Descriptor := none
  /-- Cells filled so far. -/
  cells : Nat := 0
  /-- Bytes received so far. -/
  bytes : Nat := 0
  /-- Longest length of the contract and of the stream, 0 = no limit (R208, R123). -/
  maxLength : Nat := 0
  maxSdu : Nat := 0
  /-- Deadline, release instant and occurrence of a contracted frame, TB0 2^-16 ns (R209, R210, R214). -/
  due : Option (Int × Int × Nat) := none
  /-- Cells held until the tail, of a PRP-pair ingress frame (R130, R135). -/
  heldCells : List Cell := []
  /-- A learn message is due at a good tail: FID, address (R127). -/
  learn : Option (Nat × Nat) := none
  /-- Entry time: TB0 in 2^-16 ns at the start of the fabric cycle of the first fill (R196). -/
  entry : Int := 0
  /-- A second host-ring copy of classifier action 5 (R131). -/
  copyRing : Option Nat := none
  /-- Destination ports of a multi-destination frame that the twin covers (14 R372). -/
  coverMap : Nat := 0
  /-- Ages against the ingress mayfly limit from here on; false before the first fill (R196). -/
  filled : Bool := false
  /-- The contract whose frame this is, for a tail that makes it out of contract (R208). -/
  contract : Option Nat := none
  /-- A stream epoch changed while the frame was in flight (08 R219 code 10). -/
  epochChanged : Bool := false
  /-- MACsec was on at the frame's first byte, and a receive association was installed then (04 R98). -/
  secured : Bool := false
  associated : Bool := false
deriving DecidableEq, Repr

/-- How a frame ends on the line: with its end of frame, with an /E/ block in its place, or with /V/ before /T/ (05_forwarding.md R137). -/
inductive LineEnd where
  | plain | errorBlock | errorCharacter
deriving DecidableEq, Repr

/-- A frame on the line: its bytes and how it ends (05_forwarding.md R137). -/
structure LineFrame where
  bytes : List Byte := []
  ends : LineEnd := .plain
deriving DecidableEq, Repr

/-- A frame copy in an egress queue or a host queue (07_buffers_and_queues.md R185, R186). -/
structure Copy where
  port : Nat := 0
  number : Nat := 0
  /-- The frame's count at its port without wrap, as in its cells. -/
  serial : Nat := 0
  /-- Which copy of the frame, as in its cells. -/
  variant : Nat := 0
  /-- By how much the held copy came ready after its release instant, 2^-16 ns, at most 0 when in time (R219 code 6); none while not ready. -/
  lateBy : Option Int := none
  desc : Descriptor := {}
  /-- Cells arrived, in order. -/
  cells : List Cell := []
  /-- The last cell is in. -/
  complete : Bool := false
  /-- The tail is bad, a cell is void or lost, or a cell found no free cell (R136, R165, R181). -/
  bad : Bool := false
  /-- A late cell: the copy waits for its tail (R166). -/
  waitTail : Bool := false
  /-- Entry time, TB0 in 2^-16 ns (R196). -/
  entry : Int := 0
  /-- Deadline and release instants, TB0 in 2^-16 ns (R197, R210, R214). -/
  deadline : Option Int := none
  release : Option Int := none
  /-- Transmission has started. -/
  started : Bool := false
  /-- A stream epoch changed while the copy was in flight (R219 code 10). -/
  epochChanged : Bool := false
  /-- A bound-breach event has been raised for this copy (R219). -/
  breached : Bool := false
  /-- The TB0 step skipped the copy's window (R193, R219 code 7). -/
  stepped : Bool := false
  /-- Raw transmit timestamps on TB0–TB7 of the frame's start, 2^-16 ns (10 R261). -/
  depart : List Int := []
  departEpochs : List Nat := []
  /-- The thread bound to the ring when the frame was placed in it (02 R53). -/
  thread : Nat := 0
  /-- What the SecY makes of the frame: 0 bypassed, 1 protected, 2 dropped (04 R98). -/
  secy : Nat := 0
  /-- Association number, packet number and confidentiality offset of a protected frame (04 R95, R98). -/
  protect : Nat × Nat × Nat := (0, 0, 0)
deriving DecidableEq, Repr

/-- An egress queue's frames beside its dictionary entries (07_buffers_and_queues.md R186). -/
structure QueueX where
  /-- Copies, head first. Reset: empty. -/
  copies : List Copy := []
  /-- Deficit of the deficit round robin (R192). Reset 0. -/
  deficit : Nat := 0
  /-- A flush is requested for the next frame boundary (R201). Reset: no. -/
  flush : Bool := false
deriving DecidableEq, Repr

/-- A gate control list: base time in TB0 ns, cycle time in ns, and entries. An egress list's entry is a mask and an interval;
a stream gate's is a state in bit 0 with the internal priority (8 = none) above it, and an interval (07 R189, 05 R123). -/
structure GateList where
  base : Int := 0
  cycle : Nat := 0
  entries : List (Nat × Nat) := []
deriving DecidableEq, Repr

/-- A port's egress side (07_buffers_and_queues.md R189 to R199). -/
structure EgressX where
  /-- The operational list: base ns, cycle ns, entries (mask, interval ns); none = all gates open (R189). Reset: none. -/
  operational : Option GateList := none
  /-- The pending administrative list (R189). Reset: none. -/
  pending : Option GateList := none
  /-- The TB0 instant in ns at which the pending list becomes operational (R189). Reset 0. -/
  pendingAt : Int := 0
  /-- Position in the operational list. Reset 0. -/
  position : Nat := 0
  /-- The queue whose head is in transmission; 32 = none. Reset: none. -/
  sending : Nat := 32
  /-- Where deficit round robin goes on (R192). Reset 0. -/
  robin : Nat := 0
  /-- A new operational list took effect while a frame was in transmission (R189, R193). Reset: no. -/
  listChanged : Bool := false
deriving DecidableEq, Repr

/-- One region's fabric interface, pools and host queue (06_cyclic_fabric.md, 07_buffers_and_queues.md). -/
structure RegionX where
  /-- Cells used of each pool: ingress, contracted, control, shared (R178). Reset 0 each. -/
  used : List Nat := [0, 0, 0, 0]
  /-- Cells withdrawn by the scarab, by pool (R184). Reset 0 each. -/
  withdrawn : List Nat := [0, 0, 0, 0]
  /-- Cells that a fenced bank took out of the shared pool and out of the ingress pool, by bank (R182). Reset: none. -/
  bankTaken : Sparse (Nat × Nat) := []
  /-- From which hub ns on the scarab has read every cell of a released bank, by bank: its cells then return (R184; 15 R399). Reset: none. -/
  bankReturn : Sparse (Option Nat) := []
  /-- When each bank met its uncorrectable errors of the last second, hub ns (R184). Reset: none. -/
  bankErrors : Sparse (List Nat) := []
  /-- Stage-one contracted queue (R160). Reset: empty. -/
  contracted : List Cell := []
  /-- Stage-one best-effort queues by destination region (R160). Reset: empty. -/
  bestEffort : Sparse (List Cell) := []
  /-- The last destination served best effort, last_d (R160). Reset 0 DESIGN CHOICE, log entry 4. -/
  lastD : Nat := 0
  /-- Best-effort credits spent at (m, d), key 8m + d; 2 at hand when unlisted (R162). Reset: all at hand. -/
  spent : Sparse Nat := []
  /-- Next sequence of each outgoing stream, key 2d + class (R159). Reset 0. -/
  nextSeq : Sparse Nat := []
  /-- Epoch of every outgoing stream of the region (R173). Reset 0. -/
  epoch : Nat := 0
  /-- Credits owed to source g, bit d (R162). Reset 0. -/
  owed : Sparse Nat := []
  /-- Intermediate: sources to which resync is set, bit g (R170). Reset 0. -/
  resyncTo : Nat := 0
  /-- Source: intermediates that have resync set toward this region, bit m (R170). Reset 0. -/
  resyncFrom : Nat := 0
  /-- Intermediate: fabric queues, key 2d + class (R153). Reset: empty. -/
  fabricQ : Sparse (List Cell) := []
  /-- Destination: next expected sequence of stream 2src + class (R164). Reset 0. -/
  expected : Sparse Nat := []
  /-- Destination: current epoch of the streams from source g (R173). Reset 0. -/
  inEpoch : Sparse Nat := []
  /-- Destination: cells held in the window of stream 2src + class (R164). Reset: empty. -/
  window : Sparse (List Cell) := []
  /-- Destination: cells of the next epoch (R173). Reset: empty. -/
  nextWindow : Sparse (List Cell) := []
  /-- Destination: the old epoch of source g is still open after a fence notice, bit g (R173). Reset 0. -/
  closing : Nat := 0
  /-- Cut-through of best-effort copies is held (R167). Reset: no. -/
  ctHold : Bool := false
  /-- By how much the region's cycles start late, ps; beyond ±400 it adjusts its cycles (R155). Reset 0. -/
  offset : Int := 0
  /-- Regions just unfenced and not yet aligned, bit g (R174). Reset 0. -/
  restoreWait : Nat := 0
  /-- When each link end met its void cells and dropped headers of the last ms, hub ns, key the bit of its fault source (R170). Reset: none. -/
  linkErrors : Sparse (List Nat) := []
  /-- Destination: the last frame of each port, variant and class whose first cell was released, its serial plus 1; key 8 × port + 2 × variant
  + class, a hub frame's port 96 + source; the MODEL's own, for a copy whose first cell is lost (R165). Reset 0. -/
  opened : Sparse Nat := []
  /-- Frames for rings carried by the region (R186). Reset: empty. -/
  hostQueue : List Copy := []
  /-- Destination: cells for the region that were lost on the way, for the copies they belong to; the MODEL's own (R165, R173; 08 R219). Reset:
  none. -/
  lost : List Cell := []
  /-- Beats that stand in the hub channel's crossing from the hub since its last frame boundary (02 R40, R43). Reset 0. -/
  hubDown : Nat := 0
  /-- Ring served last on the hub channel toward the hub, and from it, by class (R52). Reset 0 DESIGN CHOICE, log entry 4. -/
  lastRing : List Nat := [0, 0]
  lastRingDown : List Nat := [0, 0]
  /-- The frame that the hub channel carries toward the hub: it stands in the channel's crossings (R52, R54). Reset: none. -/
  hubUp : Option Copy := none
  /-- Duplicate-discard window: bucket × 4 + way ↦ entry of 96 bits (R130). Reset: empty. -/
  dupWindow : Sparse Nat := []
deriving DecidableEq, Repr

/-- A stream gate (05_forwarding.md R123): the administrative list waiting and the operational one. Reset: none. -/
structure GateX where
  pending : Option GateList := none
  operational : Option GateList := none
  position : Nat := 0
deriving DecidableEq, Repr

/-- A FRER function (05_forwarding.md R124): kind 1 generation, 2 recovery. -/
structure FrerX where
  kind : Nat := 0
  history : Nat := 32
  timeoutMs : Nat := 1000
  /-- Next sequence number to generate. -/
  counter : Nat := 0
  /-- Recovery: the highest sequence seen, none after a reset, and the seen bits below it. -/
  recent : Option Nat := none
  seen : Nat := 0
  passed : Nat := 0
  discarded : Nat := 0
deriving DecidableEq, Repr

/-- A contract's running state beside its table entry (08_contracted_delivery.md R208, R220, R224). -/
structure ContractX where
  /-- Cycle number and occurrence of the last frame, and its count (R208). -/
  cycle : Int := -1
  occurrence : Nat := 0
  count : Nat := 0
  conforming : Nat := 0
  outOfContract : Nat := 0
  breaches : Nat := 0
  /-- Admitted against pending gate lists of these ports (R216). -/
  awaiting : List Nat := []
deriving DecidableEq, Repr

/-! ## Time -/

/-- A step or set that has taken effect, for what carries an instant before it (09_time_bases.md R252). -/
structure Jump where
  /-- The hub ns of its edge. -/
  at_ : Nat
  /-- By how much the value rose, 2^-16 ns. -/
  by_ : Int
  /-- The step epoch before it. -/
  epoch : Nat
  /-- The time base counted as set before it. -/
  wasSet : Bool
deriving DecidableEq, Repr

/-- What the time lines have told of a step or set that waits for its edge: its commit point in hub ns, the lines whose replicas have been told, and
when the last of them was (09_time_bases.md R234, R235; 10_timestamping_and_links.md R259). -/
structure Announcement where
  since : Nat := 0
  told : Nat := 0
  last : Nat := 0
deriving DecidableEq, Repr

/-- A time base (09_time_bases.md). -/
structure TbX where
  /-- The count in 2^-48 ns since TIME80 zero (R225, R229). Reset 0. -/
  count : Nat := 0
  /-- It counts (R228). Reset: stopped, in COLD-START. -/
  running : Bool := false
  /-- The syntony term in ppt (R225). Reset 0 DESIGN CHOICE, log entry 4. -/
  syntony : Int := 0
  /-- Steering offset in force, ppt (R301, R304). Reset 0. -/
  steering : Int := 0
  /-- A pending step, 2^-16 ns (R234). Reset: none. -/
  pendingStep : Option Int := none
  /-- A pending set: value in 2^-16 ns and the reference instant, hub ns (R235). Reset: none. -/
  pendingSet : Option (Nat × Nat) := none
  /-- Commit point and announcement of the pending step, and of the pending set (R234, R235; 10 R259). Reset: at 0, told to none. -/
  stepNews : Announcement := {}
  setNews : Announcement := {}
  /-- The last four steps and sets that took effect, newest first (R252). Reset: none. -/
  jumps : List Jump := []
  /-- Consecutive measured offsets inside and outside the lock window (R302). Reset 0. -/
  inside : Nat := 0
  outside : Nat := 0
  /-- The pulling state follows a change of slot (R307). Reset: no. -/
  switching : Bool := false
  /-- The chosen slot's offsets within the estimate window: hub ns and offset, newest first (R301). Reset: none. -/
  offsets : List (Nat × Int) := []
  /-- Changes of the steering offset in force: hub ns and ppt, newest first (R304). Reset: none. -/
  steerLog : List (Nat × Int) := []
deriving DecidableEq, Repr

/-- A compare's running state (09_time_bases.md R238, R239). -/
structure CompareX where
  /-- 0 idle, 1 armed, 2 done, 3 cancelled; read in 6100h.08. Reset 0. -/
  state : Nat := 0
  /-- Index of the next instance. Reset 0. -/
  index : Nat := 0
deriving DecidableEq, Repr

/-- A pulse of a firefly output: active from `start` to `stop`, in 2^-16 ns of its time base, less the output's alignment error where it stands on
the output's grid (09_time_bases.md R242, R243). -/
structure Pulse where
  tb : Nat
  start : Int
  stop : Int
  gridded : Bool
deriving DecidableEq, Repr

/-- A clock output's wave, in core periods of 200 ps since reset (12_synthesis.md R328 to R330). -/
structure ClockX where
  /-- From this rising edge on, every period is that of the divider in force. Reset: free, log entry 112. -/
  rise : Nat := 0
  divider : Nat := 0
  /-- The period just before `rise`, after a change of divider; 0 = none (R329). -/
  first : Nat := 0
  /-- What went before: a rising edge, its period, and the instant after which it rises no more (R329, R330). -/
  oldRise : Nat := 0
  oldDivider : Nat := 0
  cut : Nat := 0
  /-- The rising edge at which the output, running, leaves its park level (R329). Reset 0. -/
  since : Nat := 0
  /-- A changed source acts at this rising edge; until then the one before it does (R329). Reset: no change. -/
  sourceAt : Nat := 0
  oldSource : Nat := 0
deriving DecidableEq, Repr

/-- A firefly output's running state (09_time_bases.md R243 to R247). -/
structure FireflyX where
  /-- A set has stopped the output: only a realign restarts it (R244). Reset: no. -/
  stoppedBySet : Bool := false
  /-- It waits on an unset time base (R246). Reset: no. -/
  waitsUnset : Bool := false
  /-- It waits for its first grid instant after a realign or an enabling commit: 1 with e = 0, 2 with the e it holds (R245). Reset 0. -/
  realignWait : Nat := 0
  /-- Last active edge, hub ns (R245). Reset: none. -/
  lastEdge : Option Nat := none
  /-- Its pulses that run or are to come (R242, R248, R252). Reset: none. -/
  pulses : List Pulse := []
  /-- Since when e moves toward 0 from its value in 6200h.0E, hub ns (R245). Reset: it does not. -/
  slewSince : Option Nat := none
  /-- Working and shadow vernier codes (13 R336, R341). Reset 512 and none. -/
  vernier : Nat := 512
  vernierShadow : Option Nat := none
deriving DecidableEq, Repr

/-- A capture input's running state (09_time_bases.md R249). -/
structure CaptureX where
  /-- Selected edges counted toward the prescale. Reset 0. -/
  edges : Nat := 0
  /-- Last captured edge, hub ps. Reset: none. -/
  last : Option Int := none
  /-- Working and shadow vernier codes of the input (13 R336, R337). Reset 512 DESIGN CHOICE, log entry 4, and none. -/
  vernier : Nat := 512
  vernierShadow : Option Nat := none
deriving DecidableEq, Repr

/-- A record of the capture ring (09_time_bases.md R250): the hub cycle in which it was taken, its source, flags, step epoch and full time in
2^-16 ns. -/
structure CaptureRecord where
  at_ : Nat
  source : Nat
  flags : Nat
  epoch : Nat
  time : Nat
deriving DecidableEq, Repr

/-- A reference slot's running state (11_references_and_holdover.md). -/
structure SlotX where
  /-- Quality of the last ESMC information PDU, 0 = failed (R293). Reset 0. -/
  esmc : Nat := 0
  /-- Pin input present (R290). Reset: no. -/
  pinPresent : Bool := false
  /-- Slots this one is in dispute with, bit n (R308). Reset 0. -/
  disputes : Nat := 0
  /-- Time bases for which offsets of this slot arrive at least once every 2 s, bit n (R295). Reset 0. -/
  fresh : Nat := 0
  /-- Time bases that have not jumped since an offset of this slot was measured against them, bit n (R306; 09 R252). Reset 0. -/
  seen : Nat := 0
  /-- The frequency offset has been measured since the input came (R291). Reset: no. -/
  measured : Bool := false
  /-- Slots over which a third slot has cleared the dispute on this one, bit n (R308). Reset 0. -/
  cleared : Nat := 0
deriving DecidableEq, Repr

/-- An announced step or set: the instant of its edge in 2^-48 ns of the time base, by how much the value rises in 2^-16 ns, and the step epoch after
it (10_timestamping_and_links.md R259). -/
structure ReplicaJump where
  edge : Nat
  by_ : Int
  epoch : Nat
deriving DecidableEq, Repr

/-- A replica's own count of one time base (10_timestamping_and_links.md R255, R256, R259). -/
structure ReplicaTb where
  /-- The count in 2^-48 ns. -/
  count : Nat := 0
  /-- Its fine phase, ps. -/
  fine : Int := 0
  /-- The rate in force of the time base, and the frequency of the die's synthesizer pair that it is reckoned against, ppt, as last told. -/
  rate : Int := 0
  against : Int := 0
  /-- Its step epoch. -/
  epoch : Nat := 0
  /-- A jump that its next island clock edge at or after the edge's instant takes. -/
  jump : Option ReplicaJump := none
deriving DecidableEq, Repr

/-- A replica of the time bases: clusters 0–23, regions at 24 + g (10_timestamping_and_links.md R255 to R258). -/
structure ReplicaX where
  /-- 0 not running, 1 tracking, 2 fault. Reset 0. -/
  status : Nat := 0
  /-- Its counts, of TB0 to TB7 in a cluster and of TB0 in a region; one that is absent has not been loaded (R255, R258). Reset: none. -/
  copies : Sparse (Option ReplicaTb) := []
  /-- The time base whose value the next message carries (R256). Reset 0. -/
  turn : Nat := 0
  /-- The last marker: the time base of its message, and by how many ps the replica was behind it (R256). Reset: none. -/
  marker : Option (Nat × Int) := none
  /-- When the hub sent that marker, hub ns. Reset 0. -/
  markerAt : Nat := 0
  /-- How far the island clock is into its period, in parts of 4 × 10^12 (R255). Reset 0. -/
  phase : Nat := 0
  /-- Consecutive markers missed (R258). Reset 0. -/
  missed : Nat := 0
  /-- The next marker sets the fine phases directly, after a change-over (12 R324). Reset: no. -/
  rephase : Bool := false
  /-- Delay of the time line in ps and a new value waiting for the next marker (13 R340). Reset 0. -/
  delay : Nat := 0
  newDelay : Option Nat := none
deriving DecidableEq, Repr

/-- The replica's count of time base `k`, where it has been loaded. -/
def ReplicaX.copy (r : ReplicaX) (k : Nat) : Option ReplicaTb := Sparse.get none r.copies k

/-- A phase detector, key 5c + j (10_timestamping_and_links.md R264, R265). -/
structure DetectorX where
  /-- It is being calibrated or measures alongside (R265): 0 idle, 1 comparing (t0), 2 calibrating (t3), 3 alongside (t4). Reset 0. -/
  phase : Nat := 0
  /-- Failed comparisons at t4 (R265). Reset 0. -/
  failures : Nat := 0
  /-- Offset and gain trims, 10 bits each (13 R336). Reset 512 DESIGN CHOICE, log entry 4. -/
  offset : Nat := 512
  gain : Nat := 512
  /-- Shadow of the two (13 R337). Reset: none. -/
  shadow : Option (Nat × Nat) := none
  /-- A change-over has fallen into the measurement in progress, which is discarded and repeated (12 R324; 13 R345). Reset: no. -/
  spanned : Bool := false
  /-- Phases added toward the average in progress, their sum in ps, and the latest average (R264). Reset 0 DESIGN CHOICE, log entry 109. -/
  taken : Nat := 0
  sum : Nat := 0
  latest : Nat := 0
deriving DecidableEq, Repr

/-- A lane's trims in the shadow registers (13_calibration.md R337). -/
structure TrimX where
  /-- Shadow of the signal group: receive and transmit termination, swing, then the three biases. Reset: none. -/
  signal : Option (List Nat) := none
  /-- Shadow of the timing group: receive and transmit vernier codes, receive and transmit residuals in hundredths of a ps. Reset: none. -/
  timing : Option (Nat × Nat × Int × Int) := none
  /-- The targets are fixed: receive and transmit, hundredths of a ps (R339). Reset: none. -/
  targets : Option (Nat × Nat) := none
  /-- Receive and transmit path delay with the working codes, hundredths of a ps (R339, 10 R262). Reset 0 DESIGN CHOICE, log entry 4. -/
  delays : Int × Int := (0, 0)
  /-- A change-over has fallen into the measurement in progress of a twin lane (12 R324; 13 R345). Reset: no. -/
  spanned : Bool := false
deriving DecidableEq, Repr

/-! ## Twin, faults, server, engines, security, start -/

/-- The twin pair beside its dictionary entries (14_twin_pair.md). -/
structure TwinX where
  /-- Levels: TWIN_HOLD_IN filtered, TWIN_HOLD_OUT. Reset deasserted. -/
  holdIn : Bool := false
  holdOut : Bool := false
  /-- TWIN_HOLD_OUT has been asserted for 2 µs (R361). Reset: no. -/
  heldLong : Bool := false
  /-- The handshake has completed (R348). Reset: no. -/
  linkUp : Bool := false
  /-- Both devices report one TWIN_ID (R349). Reset: no. -/
  idConflict : Bool := false
  /-- Crickets arrive (R354). Reset: no. -/
  cricketOk : Bool := false
  /-- Number of the next cricket (R353). Reset 0. -/
  cricketNumber : Nat := 0
  /-- The last cricket sent: its first 80 bytes, number to departures, and its Keacon frames, one for each usable lane in ascending order (R352,
  R353). Reset: none. -/
  cricketOut : List Byte := []
  cricketFrames : List (List Byte) := []
  /-- The twin's role, run state, fenced regions, flags, as its last cricket tells (R353). Reset 0. -/
  twinRole : Nat := 0
  twinRun : Nat := 0
  twinFenced : Nat := 0
  twinFlags : Nat := 0
  /-- Crickets received on each lane since it entered stage 6, counted to 1,024 (R369). Reset 0. -/
  crickets : List Nat := [0, 0, 0, 0]
  /-- Per lane: the number of the last cricket received, and how many have been counted as missed since (R354). Reset: none. -/
  lastCricket : Sparse (Option Nat) := []
  missed : Sparse Nat := []
  /-- Per lane: when its last valid cricket came, or it became usable, hub ns (R354). Reset 0. -/
  lastAt : Sparse Nat := []
  /-- Per lane: own receive time minus the twin's departure time by time base, of the last 1,024 crickets, newest first (R353). Reset: none. -/
  recentDiffs : Sparse (List (List Int)) := []
  /-- Own and twin incoming differences by time base, per lane (R353, R368). Reset: none. -/
  ownDiff : Sparse (List Int) := []
  twinDiff : Sparse (List Int) := []
  /-- When the comparison was last valid, hub ns (R370). Reset: none. -/
  validAt : Option Nat := none
  /-- Changes committed while the link was down, which a resync will overwrite (R367). Reset 0. -/
  localCommits : Nat := 0
  /-- Refused mirrored commits awaiting a retry, oldest first (R366). Reset: none. -/
  refusedMirror : List MirrorCommit := []
  /-- Commits waiting to go to the shadow: epoch and values (R364, R365). Reset: none. -/
  mirrorOut : List MirrorCommit := []
  /-- Bytes of the first of them that have been sent, and the epoch of the last image (R352, R365). Reset 0. -/
  mirrorSent : Nat := 0
  imageEpoch : Nat := 0
  /-- Epochs that the shadow has refused and not applied since (R366). Reset: none. -/
  refusedAway : List Nat := []
  /-- Class sequences expected, and of the next frame sent, key class; and the frames held for an earlier one (R350, R352). Reset 0. -/
  classSeq : Sparse Nat := []
  sendSeq : Sparse Nat := []
  held : List KeaconHeld := []
  /-- Requests that wait to be relayed on class 5 (R351; 16 R411). Reset: none. -/
  relayWaiting : List (List Byte) := []
  /-- Frames on each lane that have not left it; per lane the class of 3 to 5 that is served, less 3, and by 8 × lane + class what each may still send
  (R350, R351). Reset: none, 0 and 0. -/
  laneOut : Sparse (List KeaconSent) := []
  turns : Sparse Nat := []
  deficits : Sparse Nat := []
  /-- Cover frames waiting toward the twin: port mask, VID, priority, untag, bytes (R372, R373). Reset: empty. -/
  coverBuffer : List CoverFrame := []
  /-- The cover frames last sent (R372); the MODEL's view of the link. Reset: none. -/
  coverOut : List CoverFrame := []
  /-- Mirror was incompatible at the handshake (R349). Reset: no. -/
  incompatible : Bool := false
  /-- Acknowledgements and notices waiting on class 2: code, and the port, epoch or states it names (R366, R372, R374). Reset: none. -/
  controlOut : List (Nat × Nat) := []
  /-- The Keacon frame of the last request relayed to the twin on class 5 (16 R411); the MODEL's view of the link. Reset: none. -/
  relayOut : List Byte := []
deriving DecidableEq, Repr

/-- A message of a detector waiting in its crossing (15_faults.md R381). -/
structure Message where
  source : Nat
  detail : Nat := 0
deriving DecidableEq, Repr

/-- A fault record (15_faults.md R390). -/
structure Record where
  source : Nat
  severity : Nat := 0
  level : Nat := 0
  /-- The flag byte. -/
  flags : Nat := 0
  cause : Nat := 65535
  epoch : Nat := 0
  detail : Nat := 0
  /-- SHORTTIME of TB0. -/
  time : Nat := 0
deriving DecidableEq, Repr

/-- A fence, block reset or change-over act with its consequence window (15_faults.md R393). -/
structure Act where
  cause : Nat
  /-- Regions touched, bit g. -/
  regions : Nat := 0
  /-- The item acted on: level and number. -/
  level : FenceLevel := .region
  item : Nat := 0
  /-- A change-over has no item of its own. -/
  changeOver : Bool := false
  /-- The hub ns of the act (12 R327), and that by which it completes and its window closes (R385, R393). -/
  opened : Nat := 0
  closes : Nat := 0
deriving DecidableEq, Repr

/-- A session (16_object_dictionary.md R409 to R422, 18 R461 to R463). -/
structure SessionX where
  claims : List (Nat × Nat) := []
  /-- Held values: group, index, subindex, bytes (R418). -/
  held : List (Nat × OdValue) := []
  /-- An open DOMAIN transfer: group (4 = write-and-commit), index, subindex, bytes so far (R419). -/
  transfer : Option (Nat × OdValue) := none
  /-- The snapshot of a DOMAIN read: index, subindex, bytes (R420). -/
  snapshot : Option OdValue := none
  /-- The commit of this session waits: its group (4 = write-and-commit). -/
  waiting : Option Nat := none
  /-- Kept responses: request ID, status, detail, data; newest first, at most 16 (R414). -/
  responses : List Response := []
  /-- Accepted trailer sequence numbers, newest first, at most 16 (R463). -/
  accepted : List Nat := []
  /-- Responses and notices waiting to be taken on the SPI target (R412): of SN0 alone. -/
  outbox : List (List Byte) := []
  notices : List (List Byte) := []
  noticeSeq : Nat := 0
  /-- Notices sent in the present second and when it began (R422). -/
  noticeCount : Nat := 0
  noticeSince : Nat := 0
  /-- Latched high half of the last low-half read (R99, R442). -/
  latch : Nat := 0
  /-- The credential slot, FFh = none (R461). -/
  credential : Nat := 255
  /-- Role asked for at the first open request (R461). -/
  asked : Nat := 0
  /-- The session holds a session key (R461). -/
  keyed : Bool := false
  /-- Keepalive instant: hub ns of the last request (R409). -/
  lastRequest : Nat := 0
  /-- Where the last request came from, to which notices go (R410). Reset: the SPI target. -/
  route : Route := {}
deriving DecidableEq, Repr

/-- An accepted commit that waits for its turn (16_object_dictionary.md R418). -/
structure PendingCommit where
  /-- Session, 255 = firmware, 254 = dictionary image, 253 = mirror. -/
  session : Nat
  rid : Nat := 0
  values : List OdValue := []
  /-- The epoch of a commit of the mirror; none for one that is tried again (14 R364, R366). -/
  epoch : Option Nat := none
  /-- The hub cycle in which a host's commit arrived (16 R425). -/
  arrived : Nat := 0
  /-- The role that its session held when it closed (16 R425). -/
  role : Option Role := none
  /-- Where its response goes (16 R410). -/
  route : Route := {}
deriving DecidableEq, Repr

/-- An engine (17_engines_and_counters.md). -/
structure EngineX where
  /-- Threads halted by debug, bit t (18 R468). Reset 0. -/
  halted : Nat := 0
  /-- Waits at its entry point under Hb (18 R465). Reset: no. -/
  atEntry : Bool := false
  /-- Event queues of the four threads, oldest first, 8 bytes each as (type, data) (R432). Reset: empty. -/
  events : Sparse (List (Nat × Nat)) := []
  /-- The watchdog was restarted at, hub ns (R433). Reset 0. -/
  watchdogAt : Nat := 0
  /-- How much of the watchdog's time had passed when debug halted the engine, ns (R433). Reset 0. -/
  watchdogRan : Nat := 0
  /-- Threads in their trap handler, bit t (R385). Reset 0. -/
  trapped : Nat := 0
  /-- Engine registers a probe has written, by address (18 R465). Reset: none. -/
  registers : Sparse Nat := []
  /-- Words of the engine's own 512 KiB of memory a probe has written, by address (R431; 18 R465). Reset 0. -/
  memory : Sparse Nat := []
  /-- Breakpoints set by the probe (18 R465). Reset: none. -/
  breakpoints : List Nat := []
  /-- Image the engine runs (R434): the committed image once loaded. Reset 0. -/
  running : Nat := 0
deriving DecidableEq, Repr

/-- A frame that an engine thread has written toward the fabric, and the thread (02_levels_and_islands.md R53, R55). -/
structure HubFrame where
  thread : Nat
  desc : Descriptor
  payload : List Byte
deriving DecidableEq, Repr

/-- A host ring (02_levels_and_islands.md R51 to R55): frames placed in its data areas. -/
structure RingX where
  /-- Frames in the to-hub data area, each with the thread that was bound when it was placed (R53). Reset: empty. -/
  toHub : List Copy := []
  /-- Frames in the from-hub data area (R55). Reset: empty. -/
  fromHub : List HubFrame := []
  /-- The frame of a thread that stalls on a full from-hub data area (R55). Reset: none. -/
  writing : Option HubFrame := none
  /-- A rebinding waits for the ring's next frame boundary: carrying region (R54). Reset: none. -/
  rebind : Option Nat := none
  /-- A thread binding that waits for the ring's next frame boundary toward the hub, and from it (R53). Reset: none. -/
  bindWait : Option Nat := none
  bindWaitDown : Option Nat := none
  /-- The thread now bound toward the hub, and from it (R53, R437); none = B100h.03 as it stands. Reset: none. -/
  bound : Option Nat := none
  boundDown : Option Nat := none
deriving DecidableEq, Repr

/-- A crossing FIFO (02_levels_and_islands.md R38 to R49), by its number: 0–23 of a cluster, 24–31 of a region, 32 of the hub side
(R47). -/
structure CrossingX where
  /-- The consumer holds a packet open (R41). Reset: no. -/
  openPacket : Bool := false
  /-- The producer is in discard mode (R47). Reset: no. -/
  discard : Bool := false
  /-- A flush waits for the open packet to end (R44, R49). Reset: no. -/
  flushing : Bool := false
deriving DecidableEq, Repr

/-- Lifecycle, keys and debug beside their dictionary entries (18_security_debug_states.md). -/
structure SecurityX where
  /-- Fuses blown in each lifecycle group, 0 to 8 (R451). Reset: none, BLANK, log entry 3. -/
  groups : List Nat := [0, 0, 0]
  /-- Owner slot digests and their burn states: 0 empty, 1 valid, 2 partial, 3 revoked (R453, R455). Reset: empty. -/
  slot0 : List Byte := []
  slot1 : List Byte := []
  slot0State : Nat := 0
  slot1State : Nat := 0
  /-- The device seed is blown (R453). Reset: no. -/
  seedBlown : Bool := false
  /-- An accepted lifecycle command whose burn runs: its code and the digests to burn (R454). Reset: none. -/
  burning : Option (Nat × List Byte × List Byte) := none
  /-- The pending two-session command: code, credential of the first session (R453). Reset: none. -/
  pendingBy : Option (Nat × Nat) := none
  /-- The challenge number: its 32 bytes are Config.randomByte applied to it; the MODEL's own counter (R466). Reset 0 DESIGN CHOICE, log entry 5. -/
  challenge : Nat := 0
  /-- The challenge has been read (R466). Reset: no. -/
  challengeRead : Bool := false
  /-- The held response: credential and session (R466). Reset: none. -/
  heldResponse : Option (Nat × Nat) := none
  /-- Credentials that signed the grant, and when it ends, hub ns (R466). Reset: none. -/
  grantBy : List Nat := []
  grantUntil : Nat := 0
deriving DecidableEq, Repr

/-- The start sequencer beside its dictionary entries (19_start_up.md). -/
structure StartX where
  /-- Since when the last start runs or ran, hub ns (R427 1000h.0A, R478). Reset 0. -/
  since : Nat := 0
  /-- The device is powered, including PD9 (R472). Reset: yes. -/
  powered : Bool := true
  /-- RESET_N is low (R472). Reset: no. -/
  inReset : Bool := false
  /-- The configuration hold lasts (R480). Reset: no. -/
  holding : Bool := false
  /-- The hold limit has passed while a commit waits: the hold ends at its commit point (R484). Reset: no. -/
  holdOver : Bool := false
  /-- A failed start waits 10 ms for START_RETRY: its type (R477). Reset: none. -/
  retry : Option Nat := none
  /-- The last start completed and the settle time has not passed (R473). Reset: no. -/
  settling : Bool := false
  /-- The dictionary server runs (R423). Reset: no. -/
  server : Bool := false
  /-- SAFE was entered for FS1185 or FS1191 (server cannot run) or FS1188 (R423, R469): the source; none otherwise. Reset: none. -/
  safeCause : Option Nat := none
  /-- When SAFE was entered, while its twin lanes still transmit (15 R396). Reset: none. -/
  safeAt : Option Nat := none
  /-- Dictionary image slots A and B: sequence, layout version, valid, values (R482). Reset: erased. -/
  imageA : Option StoredImage := none
  imageB : Option StoredImage := none
  /-- The fabric sequencer runs (R25). Reset: no. -/
  fabric : Bool := false
  /-- The findings of the running start that its later steps use. Reset: none. -/
  run : Option StartRun := none
  /-- OSC_SEL as sampled: LOCAL_OSC runs at 25 MHz (20 R493). Reset: no. -/
  osc25 : Bool := false
  /-- VDDO_T is lost: the timing I/O bank is at high impedance (20 R491). Reset: no. -/
  timingBankLost : Bool := false
deriving DecidableEq, Repr

/-- The state of the PQT-96. -/
structure State where
  /-- The MODEL's hub clock: ns since reset, one per idle step (log entry 2). Reset 0. -/
  now : Nat := 0
  /-- The dictionary's numeric entries by key index × 256 + subindex (11 R11, 16 R426); defaults in Dictionary. Reset: defaults. -/
  regs : Sparse Int := []
  /-- The dictionary's byte-string entries by key (R405). Reset: empty. -/
  blobs : Sparse (List Byte) := []
  /-- The status code of R421 with which the last host command that is no message was answered; the MODEL's own. Reset 0. -/
  lastStatus : Nat := 0
  /-- Detail of that answer. Reset 0. -/
  lastDetail : Nat := 0
  /-- What the SPI target returned in its last transaction (16 R412). Reset: nothing. -/
  spiOut : List Byte := []
  /-- Frames of the server that leave with the next hub cycle, oldest first (16 R410). Reset: none. -/
  outgoing : List OutFrame := []
  lanes : Sparse LaneX := []
  ports : Sparse PortX := []
  timing : Sparse TimingX := []
  egress : Sparse EgressX := []
  queues : Sparse QueueX := []
  regions : Sparse RegionX := []
  /-- Frame being received at each port (05 R111). Reset: none. -/
  rx : Sparse (Option RxFrame) := []
  /-- Frame counts of the ports; 127 for the hub. A cell's header carries the count modulo 512 (06 R158). Reset 0. -/
  frameCount : Sparse Nat := []
  /-- Clusters whose lane PLL is unlocked, bit c (03 R63). Reset 0. -/
  pllLost : Nat := 0
  /-- MOD_RESET_N_c asserted, bit c (04 R104). Reset: all asserted, by the board pulls. -/
  modReset : Nat := 16777215
  /-- The accesses that wait or run on each cluster's bus, in order: the position of the first is selected (04 R103, R104). Reset: none. -/
  busQueue : Sparse (List BusAccess) := []
  /-- The four-lane cluster waits 10 µs with MOD_RESET_N_c asserted, bit c (R104). Reset 0. -/
  modResetWait : Nat := 0
  /-- Forwarding database master copy: bucket × 4 + way ↦ 96-bit entry (05 R125, R126). Reset: empty. -/
  fdb : Sparse Nat := []
  /-- VLAN table: VID ↦ 256-bit entry (R116). Reset: all invalid. -/
  vlan : Sparse Nat := []
  /-- Classifier: index ↦ key value, mask and action as one 576-bit entry (R117 to R120). Reset: none valid. -/
  classifier : Sparse Nat := []
  /-- Stream table: bucket × 4 + way ↦ 128-bit entry (R122). Reset: empty. -/
  streams : Sparse Nat := []
  /-- Flow contracts: index ↦ 256-bit entry (08 R205). Reset: none valid. -/
  contracts : Sparse Nat := []
  /-- Port sets: index ↦ 96-bit map (05 R129). Reset: empty. -/
  portSets : Sparse Nat := []
  /-- Entries or blocks marked invalid in a copy: cluster, table, position; a block is position + 2^20 (R146). Reset: none. -/
  invalid : List (Nat × Nat × Nat) := []
  /-- Tables whose overlay is being folded, bit t (R138). Reset 0. -/
  folding : Nat := 0
  /-- Pending drains: table ↦ target (R142). Reset: none. -/
  drains : Sparse (Option Nat) := []
  /-- The table of the last drain, for 3001h.11 and .12. Reset: none. -/
  lastDrain : Option Nat := none
  /-- Learn messages waiting for the hub: FID, address, port (R127). Reset: none. -/
  learns : List (Nat × Nat × Nat) := []
  /-- Learn messages taken in the present µs and when it began (R127). Reset 0. -/
  learnRate : Nat × Nat := (0, 0)
  gates : Sparse GateX := []
  frer : Sparse FrerX := []
  contractX : Sparse ContractX := []
  /-- Breach records: contract, code, region, SHORTTIME, detail; oldest first (08 R220). Reset: none. -/
  breaches : List Breach := []
  /-- Contracted copies, by port, serial and destination region, that lost a cell at a full intermediate queue: their one breach has been
  raised (08 R219). Reset: none. -/
  overflowed : List (Nat × Nat × Nat) := []
  /-- Cells on the channel groups: key 128 × stage + 16 × from + to, oldest first (06 R168). Reset: none. -/
  flights : Sparse (List Cell) := []
  crossings : Sparse CrossingX := []
  /-- The last frame each port has sent, as it stood on the line; the MODEL's view of the line (04 R98, 10 R269). Reset: none. -/
  wire : Sparse LineFrame := []
  /-- SYNC_IN: the last accepted edge, in core periods of 200 ps since reset (12 R330). Reset: none. -/
  syncEdge : Option Nat := none
  /-- Outputs in sync mode 2 that an accepted edge has started, bit c (12 R330). Reset 0. -/
  clockStarted : Nat := 0
  clocks : Sparse ClockX := []
  tbs : Sparse TbX := []
  compares : Sparse CompareX := []
  fireflies : Sparse FireflyX := []
  captures : Sparse CaptureX := []
  /-- Capture ring: unread records in the order in which they were taken (09 R250). Reset: empty. -/
  ring : List CaptureRecord := []
  /-- Sequence of the next record, modulo 256, and the pending rewind count (R250, R251). Reset 0. -/
  ringSeq : Nat := 0
  rewind : Nat := 0
  replicas : Sparse ReplicaX := []
  detectors : Sparse DetectorX := []
  /-- The firmware's statistics of PTP messages it does not support: unicast negotiation, G.8275.2, security option (10 R281). Reset 0. -/
  ptpDiscarded : List Nat := [0, 0, 0]
  slots : Sparse SlotX := []
  /-- The frequency selector's pulling follows a change of slot (11 R307). Reset: no. -/
  freqSwitching : Bool := false
  /-- The frequency of the synthesizer pairs against the hub PLL, ppt (11 R300, R303). Reset 0. -/
  frequency : Int := 0
  /-- The hub ns up to which a pull has moved it, and since when it has stayed within 100 ppt of the chosen slot (11 R300). Reset 0, none. -/
  freqMovedAt : Nat := 0
  freqNear : Option Nat := none
  /-- The frequency selector has a kept holdover value (11 R303). Reset: no. -/
  freqHeld : Bool := false
  /-- Pair 0's frequency while the frequency selector has been locked: from which hub ns on it had which value in ppt, none while not locked; newest
  first (11 R303). Reset: none. -/
  freqLog : List (Nat × Option Int) := []
  /-- ESMC PDUs sent last: port, QL, event flag (11 R294). Reset: none. -/
  esmcOut : List (Nat × Nat × Bool) := []
  /-- Trims without an entry (13 R336): lane-PLL bias of cluster c at c, conditioner and MDLL bias of synthesizer k at 32 + k and 48 + k,
  offset and gain of channel j of sensor bank d at 64 + 16 d + j and 72 + 16 d + j. Reset 0 DESIGN CHOICE, log entry 4. -/
  analog : Sparse Nat := []
  /-- Shadows of those trims, by place (13 R337). Reset: none. -/
  analogShadow : Sparse (Option Nat) := []
  /-- A calibration round runs, one is due after it, cluster calibrations waiting by lane (13 R344, R345). Reset: none. -/
  roundRuns : Bool := false
  roundDue : Option (Nat × List Nat) := none
  trims : Sparse TrimX := []
  twin : TwinX := {}
  /-- Messages waiting in the crossings to the safety island, in order of arrival (15 R381). Reset: none. -/
  messages : List Message := []
  /-- Fault source settings that differ from their defaults (15 R383). Reset: R380. -/
  settings : Sparse Nat := []
  /-- Source counts that are not 0, by source number (15 R381). Reset 0. -/
  sourceCounts : Sparse Nat := []
  /-- Fault log: unread records kept with read ones, oldest first, and how many are read (15 R391). Reset: empty. -/
  log : List Record := []
  logRead : Nat := 0
  /-- The first-fault register (15 R389). Reset: empty. -/
  firstFault : Option Record := none
  /-- The safe-state record (15 R395). Reset: none. -/
  safeRecord : Option (Record × Option Record) := none
  /-- Fences that stand: level and item, each once (15 R388). Reset: none. -/
  fences : List (FenceLevel × Nat) := []
  /-- Items whose detectors are masked (15 R392). Reset: none. -/
  masks : List (FenceLevel × Nat) := []
  /-- Open consequence windows, earliest first (15 R393). Reset: none. -/
  windows : List Act := []
  /-- ERR_N and SAFE_N asserted (15 R397, R398). Reset: ERR_N asserted, SAFE_N deasserted (19 R475 step 1). -/
  errN : Bool := true
  safeN : Bool := false
  /-- The ERR_N minimum time has not passed since it was asserted (15 R397). Reset: asserted just now. -/
  errNHold : Bool := true
  /-- Domains switched on, bit k = PDk (00 R2, 01 R16, 19 R475). Reset: PD9 alone. -/
  domains : Nat := 512
  sessions : Sparse SessionX := []
  commits : List PendingCommit := []
  engines : Sparse EngineX := []
  rings : Sparse RingX := []
  /-- Running values of the performance counters by dictionary key; `regs` holds the sample bank (17 R439, R440). Reset 0. -/
  perf : Sparse Nat := []
  /-- Overflow map, bit k of R450 (17). Reset 0. -/
  overflow : Nat := 0
  /-- A clear of the counters and monitors to be reprogrammed wait for the boundary (17 R443). Reset: none. -/
  clearPending : Bool := false
  /-- Regions whose counters are to be sampled, and cleared, at their next cycle start, bit g (17 R440, R443). Reset: none. -/
  regionSample : Nat := 0
  regionClear : Nat := 0
  /-- The last epoch boundary, hub ns (17 R440, R445). Reset: the start. -/
  epochAt : Nat := 0
  monitorPending : Nat := 0
  /-- Settings the monitors run with: source, item, threshold, thread (17 R443, R444). Reset: off. -/
  monitors : Sparse MonitorSet := []
  /-- Monitors whose next sample is the first after reprogramming, bit m (17 R444). Reset: all. -/
  monitorFirst : Nat := 65535
  security : SecurityX := {}
  start : StartX := {}
  /-- How many bank fences have drawn the free choice of Config.cellInBank; the MODEL's own counter. Reset 0 DESIGN CHOICE, log entry 5. -/
  bankDraws : Nat := 0
  /-- Words of the 8 MiB of memory that the engines share, by address: ring, calendar and firmware area in this order (17 R431; 01 R16). The rings
  and calendars have their own fields. Reset 0. -/
  shared : Sparse Nat := []
  /-- Commands that wait, first in first out. Reset: empty. -/
  pending : List Instr := []
deriving DecidableEq, Repr

/-- The reasons a command could stop the machine. The block has no such stop: the constructor is raised by no meaning. -/
inductive Fault where
  /-- Raised by no command: every command of the PQT-96 leads to a next state (safe: nothing is claimed of it). -/
  | machineStopped
deriving DecidableEq, Repr

/-- The reasons a command could be refused. -/
inductive Refusal where
  /-- Answered by an arm of `exec` for a command that has no meaning yet (safe: nothing is claimed of it). -/
  | notModelled (mnemonic : String)
deriving DecidableEq, Repr

/-- The PQT-96 right after reset: t0 of the cold start (19_start_up.md R475 step 1), every register at its default. -/
def State.reset : State := {}

end Sys2Proof.Machine
end

