-- ==== Sys2Proof/Machine/Ops.lean ====
section
/-! DEFINITION. The named operations every command is built from: dictionary registers and byte strings, saturating counters,
the numbered items, run state and fences as predicates, raising a fault, sending an event to a thread and a notice to the
sessions. -/

namespace Sys2Proof.Machine

/-! ## Dictionary registers -/

/-- The key under which an entry is kept. -/
abbrev key (idx sub : Nat) : Nat := idx * 256 + sub

/-- The value of a numeric entry; its default where nothing else was written (00_scope.md R11). -/
def State.reg (s : State) (idx sub : Nat) : Int := Sparse.get (regDefault (key idx sub)) s.regs (key idx sub)

/-- A numeric entry as a natural number. -/
def State.nat (s : State) (idx sub : Nat) : Nat := (s.reg idx sub).toNat

/-- A BOOL entry, or any entry that is not 0. -/
def State.flag (s : State) (idx sub : Nat) : Bool := decide (s.reg idx sub ≠ 0)

/-- Write a numeric entry. -/
def State.setReg (s : State) (idx sub : Nat) (v : Int) : State :=
  { s with regs := Sparse.set (regDefault (key idx sub)) s.regs (key idx sub) v }

/-- Write a numeric entry that is a natural number. -/
def State.setNat (s : State) (idx sub v : Nat) : State := s.setReg idx sub (v : Int)

/-- A BOOL as a number. -/
def ofBool (b : Bool) : Nat := if b then 1 else 0

/-- Bit `b` of a status entry. -/
def State.bit (s : State) (idx sub b : Nat) : Bool := (s.nat idx sub).testBit b

/-- Write bit `b` of a number. -/
def setBit (v b : Nat) (on : Bool) : Nat :=
  if v.testBit b = on then v else if on then v + 2 ^ b else v - 2 ^ b

/-- Write bit `b` of a status entry: a live bit follows its condition, a sticky bit is set (00_scope.md R13). -/
def State.putBit (s : State) (idx sub b : Nat) (on : Bool) : State := s.setNat idx sub (setBit (s.nat idx sub) b on)

/-- A field of `n` bits from bit `b` of a number. -/
def field (v b n : Nat) : Nat := v / 2 ^ b % 2 ^ n

/-- Replace a field of `n` bits from bit `b`. -/
def putField (v b n x : Nat) : Nat := v - field v b n * 2 ^ b + x % 2 ^ n * 2 ^ b

/-- Add to a counter that saturates at all-ones of its width (00_scope.md R12). -/
def State.addSat (s : State) (idx sub width n : Nat) : State :=
  s.setNat idx sub (min (s.nat idx sub + n) (2 ^ width - 1))

/-- Count one event in a 64-bit saturating counter. -/
def State.inc64 (s : State) (idx sub : Nat) : State := s.addSat idx sub 64 1

/-- Count one event in a 32-bit saturating counter. -/
def State.inc32 (s : State) (idx sub : Nat) : State := s.addSat idx sub 32 1

/-- Count one event in a 16-bit saturating counter. -/
def State.inc16 (s : State) (idx sub : Nat) : State := s.addSat idx sub 16 1

/-- The value of a byte-string entry. -/
def State.blob (s : State) (idx sub : Nat) : List Byte := Sparse.get (blobDefault (key idx sub)) s.blobs (key idx sub)

/-- Write a byte-string entry. -/
def State.setBlob (s : State) (idx sub : Nat) (v : List Byte) : State :=
  { s with blobs := Sparse.set (blobDefault (key idx sub)) s.blobs (key idx sub) v }

/-! ## Numbered items -/

/-- Lane `n` beside its entries. -/
def State.lane (s : State) (n : Nat) : LaneX := Sparse.get {} s.lanes n
def State.setLane (s : State) (n : Nat) (x : LaneX) : State := { s with lanes := Sparse.set {} s.lanes n x }
/-- Port `p` beside its entries. -/
def State.port (s : State) (p : Nat) : PortX := Sparse.get {} s.ports p
def State.setPort (s : State) (p : Nat) (x : PortX) : State := { s with ports := Sparse.set {} s.ports p x }
/-- Timing of port `p`. -/
def State.tim (s : State) (p : Nat) : TimingX := Sparse.get {} s.timing p
def State.setTim (s : State) (p : Nat) (x : TimingX) : State := { s with timing := Sparse.set {} s.timing p x }
/-- Egress side of port `p`. -/
def State.eg (s : State) (p : Nat) : EgressX := Sparse.get {} s.egress p
def State.setEg (s : State) (p : Nat) (x : EgressX) : State := { s with egress := Sparse.set {} s.egress p x }
/-- Egress queue `q` of port `p`. -/
def State.queue (s : State) (p q : Nat) : QueueX := Sparse.get {} s.queues (32 * p + q)
def State.setQueue (s : State) (p q : Nat) (x : QueueX) : State :=
  { s with queues := Sparse.set {} s.queues (32 * p + q) x }
/-- Region `g`. -/
def State.region (s : State) (g : Nat) : RegionX := Sparse.get {} s.regions g
def State.setRegion (s : State) (g : Nat) (x : RegionX) : State := { s with regions := Sparse.set {} s.regions g x }
/-- The frame being received at port `p`. -/
def State.rxAt (s : State) (p : Nat) : Option RxFrame := Sparse.get none s.rx p
def State.setRx (s : State) (p : Nat) (x : Option RxFrame) : State := { s with rx := Sparse.set none s.rx p x }
/-- Time base `k`. -/
def State.tb (s : State) (k : Nat) : TbX := Sparse.get {} s.tbs k
def State.setTb (s : State) (k : Nat) (x : TbX) : State := { s with tbs := Sparse.set {} s.tbs k x }
/-- Compare `c`. -/
def State.compare (s : State) (c : Nat) : CompareX := Sparse.get {} s.compares c
def State.setCompare (s : State) (c : Nat) (x : CompareX) : State := { s with compares := Sparse.set {} s.compares c x }
/-- Firefly output `f`. -/
def State.clock (s : State) (c : Nat) : ClockX := Sparse.get {} s.clocks c
def State.setClock (s : State) (c : Nat) (x : ClockX) : State := { s with clocks := Sparse.set {} s.clocks c x }
def State.firefly (s : State) (f : Nat) : FireflyX := Sparse.get {} s.fireflies f
def State.setFirefly (s : State) (f : Nat) (x : FireflyX) : State := { s with fireflies := Sparse.set {} s.fireflies f x }
/-- Capture input `e`. -/
def State.capture (s : State) (e : Nat) : CaptureX := Sparse.get {} s.captures e
def State.setCapture (s : State) (e : Nat) (x : CaptureX) : State := { s with captures := Sparse.set {} s.captures e x }
/-- Replica of cluster `c`, or of region `g` at 24 + g. -/
def State.replica (s : State) (c : Nat) : ReplicaX := Sparse.get {} s.replicas c
def State.setReplica (s : State) (c : Nat) (x : ReplicaX) : State := { s with replicas := Sparse.set {} s.replicas c x }
/-- Detector 5c + j. -/
def State.detector (s : State) (d : Nat) : DetectorX := Sparse.get {} s.detectors d
def State.setDetector (s : State) (d : Nat) (x : DetectorX) : State := { s with detectors := Sparse.set {} s.detectors d x }
/-- Reference slot `n`. -/
def State.slot (s : State) (n : Nat) : SlotX := Sparse.get {} s.slots n
def State.setSlot (s : State) (n : Nat) (x : SlotX) : State := { s with slots := Sparse.set {} s.slots n x }
/-- Trims of lane `n`. -/
def State.trim (s : State) (n : Nat) : TrimX := Sparse.get {} s.trims n
def State.setTrim (s : State) (n : Nat) (x : TrimX) : State := { s with trims := Sparse.set {} s.trims n x }
/-- Engine `e`. -/
def State.engine (s : State) (e : Nat) : EngineX := Sparse.get {} s.engines e
def State.setEngine (s : State) (e : Nat) (x : EngineX) : State := { s with engines := Sparse.set {} s.engines e x }
/-- Ring `i`. -/
def State.ringX (s : State) (i : Nat) : RingX := Sparse.get {} s.rings i
def State.setRingX (s : State) (i : Nat) (x : RingX) : State := { s with rings := Sparse.set {} s.rings i x }
/-- Session `n`. -/
def State.session (s : State) (n : Nat) : SessionX := Sparse.get {} s.sessions n
def State.setSession (s : State) (n : Nat) (x : SessionX) : State := { s with sessions := Sparse.set {} s.sessions n x }
/-- Contract `i` beside its table entry. -/
def State.contractAt (s : State) (i : Nat) : ContractX := Sparse.get {} s.contractX i
def State.setContractAt (s : State) (i : Nat) (x : ContractX) : State :=
  { s with contractX := Sparse.set {} s.contractX i x }
/-- Crossing `x`. -/
def State.crossing (s : State) (i : Nat) : CrossingX := Sparse.get {} s.crossings i
def State.setCrossing (s : State) (i : Nat) (x : CrossingX) : State := { s with crossings := Sparse.set {} s.crossings i x }

/-! ## Run state, domains and fences -/

/-- 1000h.08: 0 COLD-START, 1 WARM-START, 2 RUN, 3 DEGRADED, 4 SAFE (16 R427). -/
def State.runState (s : State) : Nat := s.nat 0x1000 0x08

/-- In SAFE. -/
def State.isSafe (s : State) : Bool := s.runState == 4

/-- In RUN or DEGRADED. -/
def State.isUp (s : State) : Bool := s.runState == 2 || s.runState == 3

/-- A fence of this very item stands (15 R388). -/
def State.hasFence (s : State) (l : FenceLevel) (i : Nat) : Bool := s.fences.contains (l, i)

/-- The region is fenced (01 R26). -/
def State.regionFenced (s : State) (g : Nat) : Bool := s.hasFence .region g

/-- The cluster is fenced itself or lies in a fenced region (02 R34). -/
def State.clusterFenced (s : State) (c : Nat) : Bool := s.hasFence .cluster c || s.regionFenced (c / 3)

/-- The port is fenced itself or lies in a fenced cluster or region (02 R33). -/
def State.portFenced (s : State) (p : Nat) : Bool := s.hasFence .port p || s.clusterFenced (p / 4)

/-- The timestamp unit of the port is fenced, or its cluster or region is. -/
def State.stampFenced (s : State) (p : Nat) : Bool := s.hasFence .timestampUnit p || s.clusterFenced (p / 4)

/-- Detector 5c + j is fenced, or its cluster or region is. -/
def State.detectorFenced (s : State) (d : Nat) : Bool := s.hasFence .detector d || s.clusterFenced (d / 5)

/-- Buffer bank 16g + j is fenced, or its region is. -/
def State.bankFenced (s : State) (b : Nat) : Bool := s.hasFence .bank b || s.regionFenced (b / 16)

/-- The engine is fenced. -/
def State.engineFenced (s : State) (e : Nat) : Bool := s.hasFence .engine e

/-- The cluster an item of a level lies in; 24 where it lies in none. -/
def clusterOf : FenceLevel → Nat → Nat
  | .port, p => p / 4
  | .timestampUnit, p => p / 4
  | .detector, d => d / 5
  | .cluster, c => c
  | _, _ => 24

/-- The region an item of a level lies in; 8 where it lies in none. -/
def regionOf : FenceLevel → Nat → Nat
  | .port, p => p / 12
  | .timestampUnit, p => p / 12
  | .detector, d => d / 15
  | .bank, b => b / 16
  | .engine, _ => 8
  | .cluster, c => c / 3
  | .region, g => g

/-- The code of a level in A010h.07 (15 R403). -/
def levelCode : FenceLevel → Nat
  | .port => 0 | .timestampUnit => 1 | .detector => 2 | .bank => 3 | .engine => 4 | .cluster => 5 | .region => 6

/-- The level of a code of A010h.07. -/
def levelOf : Nat → Option FenceLevel
  | 0 => some .port | 1 => some .timestampUnit | 2 => some .detector | 3 => some .bank | 4 => some .engine
  | 5 => some .cluster | 6 => some .region | _ => none

/-- How many items a level has. -/
def levelItems : FenceLevel → Nat
  | .port => 96 | .timestampUnit => 96 | .detector => 120 | .bank => 128 | .engine => 16 | .cluster => 24 | .region => 8

/-! ## Raising a fault -/

/-- Count a detection in A180h.01; each count saturates at all-ones of 32 bits (15 R381, R403). -/
def State.countSource (s : State) (src : Nat) : State :=
  { s with sourceCounts := Sparse.set 0 s.sourceCounts src (min (Sparse.get 0 s.sourceCounts src + 1) (2 ^ 32 - 1)) }

/-- A detector's detection: it is counted, and its message goes to the collector unless one of the source is pending; in SAFE
it is ignored (15 R381, R402). -/
def State.raise (s : State) (src detail : Nat) : State :=
  if s.isSafe then s
  else
    let s' := s.countSource src
    if s.messages.any (fun m => m.source == src) then s' else { s' with messages := s.messages ++ [⟨src, detail⟩] }

/-! ## Events to threads -/

/-- Put an event into the queue of thread `t` of engine `e`; a full queue of 64 drops it and counts it (17 R432). -/
def State.queueEvent (s : State) (e t type data : Nat) : State :=
  let x := s.engine e
  let q := Sparse.get [] x.events t
  if q.length < 64 then s.setEngine e { x with events := Sparse.set [] x.events t (q ++ [(type, data)]) }
  else s.inc32 (0xB000 + e) 0x05

/-- Send an event to the thread of code engine × 4 + thread. A fenced engine's substitute takes it; without one, and during a
block reset, it is discarded and counted (17 R432, R436, R437). Event types: 0 frame in a ring, 1 compare fire, 2 timestamp
record, 3 fault interrupt, 4 counter overflow, 5 monitor crossing, 6 thread timer, 7 rekey (04 R98). -/
def State.sendEvent (s : State) (thread type data : Nat) : State :=
  if 64 ≤ thread then s
  else
    let e := thread / 4
    let t := thread % 4
    let st := s.nat (0xB000 + e) 0x02
    if st = 5 then
      let sub := s.nat (0xB000 + e) 0x09
      if sub < 16 then s.queueEvent sub t type data else s.inc32 (0xB000 + e) 0x05
    else if st = 4 then s.inc32 (0xB000 + e) 0x05
    else s.queueEvent e t type data

/-! ## Bytes -/

/-- The `n` bytes of a number, most significant first (00_scope.md R10). -/
def toBytes : Nat → Nat → List Byte
  | 0, _ => []
  | n + 1, v => BitVec.ofNat 8 (v / 256 ^ n) :: toBytes n v

/-- The number of a list of bytes, most significant first. -/
def ofBytes (l : List Byte) : Nat := l.foldl (fun a b => a * 256 + b.toNat) 0

/-- `n` bytes of a list from offset `o`. -/
def slice (l : List Byte) (o n : Nat) : List Byte := (l.drop o).take n

/-- Byte `o` of a list; 0 beyond its end. -/
def byteAt (l : List Byte) (o : Nat) : Nat := (l.getD o 0).toNat

/-- The number in `n` bytes from offset `o`. -/
def numAt (l : List Byte) (o n : Nat) : Nat := ofBytes (slice l o n)

/-- Two's complement in `width` bits. -/
def wrapInt (width : Nat) (v : Int) : Nat := (v % (2 ^ width : Nat)).toNat

/-- The signed reading of a number of `width` bits. -/
def signed (width v : Nat) : Int := if v < 2 ^ (width - 1) then (v : Int) else (v : Int) - (2 ^ width : Nat)

/-- The numbers from 0 below `n`: the items of a family. -/
abbrev items (n : Nat) : List Nat := List.range n

/-! ## Notices -/

/-- The header of a message (16 R413). -/
def header (type session flags rid len idx sub group offset : Nat) : List Byte :=
  [1, BitVec.ofNat 8 type, BitVec.ofNat 8 session, BitVec.ofNat 8 flags] ++ toBytes 2 rid ++ toBytes 2 len ++ toBytes 2 idx ++
    [BitVec.ofNat 8 sub, BitVec.ofNat 8 group] ++ toBytes 4 offset

/-- The internet checksum of some bytes: the complement of the ones' complement sum of their 16-bit words (RFC 1071). -/
def internetSum (b : List Byte) : Nat :=
  let n := (items ((b.length + 1) / 2)).foldl (fun a i => a + byteAt b (2 * i) * 256 + byteAt b (2 * i + 1)) 0
  let fold := fun (x : Nat) => x % 65536 + x / 65536
  65535 - fold (fold (fold n))

/-- An IPv6 packet of one upper-layer message, whose checksum stands at `at_` (RFC 8200; PRESUMED, log entry 128). -/
def ipv6Packet (source destination next : Nat) (upper : List Byte) (at_ : Nat) : List Byte :=
  let ends := toBytes 16 source ++ toBytes 16 destination
  let sum := internetSum (ends ++ toBytes 4 upper.length ++ toBytes 4 next ++ upper)
  let sum := if next = 17 ∧ sum = 0 then 65535 else sum
  [0x60, 0, 0, 0] ++ toBytes 2 upper.length ++ [BitVec.ofNat 8 next, 0xFF] ++ ends ++
    upper.take at_ ++ toBytes 2 sum ++ upper.drop (at_ + 2)

/-- An Ethernet frame of the device without its FCS, padded to 60 bytes (16 R410). -/
def ethernetFrame (destination source type : Nat) (payload : List Byte) : List Byte :=
  let b := toBytes 6 destination ++ toBytes 6 source ++ toBytes 2 type ++ payload
  b ++ List.replicate (60 - b.length) 0

/-- The management MAC address (16 R427). -/
def State.managementMac (s : State) : Nat := s.nat 0x1000 0x06 % 2 ^ 48

/-- A message on its way to a host (16 R410): on CAN FD one frame of 64 bytes behind its identifier, node ID and function 1 = response or 2 = notice; on
Subrimi UDP over IPv6 back to the source; on raw Ethernet EtherType 88B6h to the source MAC address; to the twin the message itself. -/
def State.carriage (s : State) (route : Route) (message : List Byte) : OutFrame :=
  let a := route.arrival
  let frame :=
    if route.transport = 2 ∨ route.transport = 3 then
      toBytes 2 (s.nat 0xF010 (0x05 + route.transport) * 16 + (if byteAt message 1 = 0x0C then 2 else 1)) ++
        message ++ List.replicate (64 - message.length) 0
    else if route.transport = 4 then
      let udp := toBytes 2 (s.nat 0xF010 0x04) ++ toBytes 2 (numAt route.peer 16 2) ++ toBytes 2 (8 + message.length) ++ [0, 0] ++ message
      ethernetFrame a.source s.managementMac 0x86DD (ipv6Packet a.destination (numAt route.peer 0 16) 17 udp 6)
    else if route.transport = 5 then ethernetFrame (numAt route.peer 0 6) s.managementMac 0x88B6 message
    else message
  { transport := route.transport, port := a.port, vid := a.vid, frame := frame }

/-- The server sends a message: the SPI target holds it until it is taken, another transport sends it with the next hub cycle (16 R410, R412). -/
def State.sendTo (s : State) (route : Route) (message : List Byte) : State :=
  if route.transport = 0 then s
  else if route.transport = 1 then s.setSession 0 { s.session 0 with outbox := (s.session 0).outbox ++ [message] }
  else { s with outgoing := s.outgoing ++ [s.carriage route message] }

/-- Send a notice to one session, within F010h.0B notices per second; SN0 holds it for the SPI target, another session's is sent
(16 R412, R422). -/
def State.noticeTo (s : State) (n : Nat) (payload : List Byte) : State :=
  let x := s.session n
  let fresh := decide (x.noticeSince + 1000000000 ≤ s.now)
  let sent := if fresh then 0 else x.noticeCount
  if sent < s.nat 0xF010 0x0B then
    let m := header 0x0C n 3 x.noticeSeq payload.length 0 0 0xFF 0 ++ payload ++ List.replicate 16 0
    (if n = 0 then s else s.sendTo x.route m).setSession n { x with
      notices := if n = 0 then x.notices ++ [m] else x.notices
      noticeSeq := (x.noticeSeq + 1) % 65536
      noticeCount := sent + 1
      noticeSince := if fresh then s.now else x.noticeSince }
  else s.inc32 (0xF000 + n) 0x09

/-- Send a notice of a class to every open session that subscribes to it (16 R422). -/
def State.notice (s : State) (cls : Nat) (payload : List Byte) : State :=
  (items 8).foldl (fun a n =>
    if a.nat (0xF000 + n) 0x01 = 2 ∧ (a.nat (0xF000 + n) 0x06).testBit cls then a.noticeTo n payload else a) s

/-- The state notice: run state and twin role (16 R422 bit 2). -/
def State.stateNotice (s : State) : State :=
  s.notice 2 [BitVec.ofNat 8 s.runState, BitVec.ofNat 8 (s.nat 0x9000 0x01)]

/-- Change the run state, with its notice. -/
def State.setRunState (s : State) (r : Nat) : State :=
  if s.runState = r then s else (s.setNat 0x1000 0x08 r).stateNotice

/-! ## Host writes that are commands of their own -/

/-- Answer a host's command with a status code and detail of R421. -/
def State.answer (s : State) (code detail : Nat) : State := { s with lastStatus := code, lastDetail := detail }

/-- Whether a role is enough for another. -/
def roleCovers (have_ need : Role) : Bool := decide (need.code ≤ have_.code)

end Sys2Proof.Machine
end

