-- ==== Sys2Proof/Machine/Counters.lean ====
section
/-! DEFINITION. Performance counters (17_engines_and_counters.md R439 to R441, R450): 48 bits, wrapping, with an overflow map. -/

namespace Sys2Proof.Machine

/-- The dictionary key of the counter of an overflow map bit (R450). -/
def counterKey (bit : Nat) : Nat :=
  if bit < 512 then key (0xB010 + bit / 32) (bit % 32 + 1)
  else if bit < 640 then key (0x3810 + (bit - 512) / 16) ((bit - 512) % 16 + 1)
  else key (0xE000 + (bit - 640) / 2) (5 + (bit - 640) % 2)

/-- The overflow map bit of a counter's key (R450). -/
def counterBit (k : Nat) : Nat :=
  let idx := k / 256
  let sub := k % 256
  if idx / 16 = 0xB01 then 32 * (idx - 0xB010) + (sub - 1)
  else if idx / 16 = 0x381 then 512 + 16 * (idx - 0x3810) + (sub - 1)
  else 640 + 2 * (idx - 0xE000) + (sub - 5)

/-- The wraps of a counter: overflow bit, overflow count, and the event to the overflow thread (R441). -/
def State.wrapped (s : State) (bit : Nat) : State :=
  let s := { s with overflow := setBit s.overflow bit true }.inc32 0xB080 0x08
  s.sendEvent (s.nat 0xB080 0x05) 4 bit

/-- Add `n` events to a performance counter, modulo 2^48 (R439, R441). -/
def State.perfAdd (s : State) (idx sub n : Nat) : State :=
  let v := Sparse.get 0 s.perf (key idx sub) + n
  let s := { s with perf := Sparse.set 0 s.perf (key idx sub) (v % 2 ^ 48) }
  if v < 2 ^ 48 then s else s.wrapped (counterBit (key idx sub))

/-- The sample bank takes the counters of region `g`, and a clear that waits for it zeroes them (R440, R443). -/
def State.sampleRegion (s : State) (g : Nat) : State :=
  let s := (items 13).foldl (fun a k => a.setNat (0x3810 + g) (k + 1) (Sparse.get 0 a.perf (key (0x3810 + g) (k + 1)))) s
  { s with
    regionSample := setBit s.regionSample g false
    regionClear := setBit s.regionClear g false
    perf := if s.regionClear.testBit g then s.perf.filter (fun x => x.1 / 256 != 0x3810 + g) else s.perf }

/-- A cycle of region `g` starts: what the sample epoch left due at it is done (R440, R443). -/
def State.beginCycle (s : State) (g : Nat) : State :=
  if s.regionSample.testBit g ∧ !s.regionFenced g then s.sampleRegion g else s

end Sys2Proof.Machine
end

