-- ==== Sys2Proof/Machine/Clock.lean ====
section
/-! DEFINITION. Reading and moving the time bases (09_time_bases.md R225 to R236), the hub clock, and the capture ring (R250,
R251). -/

namespace Sys2Proof.Machine

/-- The value of a time base in 2^-16 ns since TIME80 zero (R229). -/
def State.tbNow (s : State) (k : Nat) : Nat := (s.tb k).count / 2 ^ 32

/-- The value of TB0 in whole ns: the instants of gates, deadlines and ages (06 R154). -/
def State.tb0Ns (s : State) : Nat := s.tbNow 0 / 65536

/-- SHORTTIME: the value modulo 2^64 (R230). -/
def State.shortTime (s : State) (k : Nat) : Nat := s.tbNow k % 2 ^ 64

/-- The TIME80 of a value: seconds in bits 79:32, nanoseconds in bits 31:0 (R229). -/
def time80 (t : Nat) : Nat :=
  let ns := t / 65536
  (ns / 1000000000 % 2 ^ 48) * 2 ^ 32 + ns % 1000000000

/-- Signed difference of two SHORTTIMEs, in 64 bits (R231). -/
def shortDiff (a b : Nat) : Int := signed 64 (wrapInt 64 ((a : Int) - (b : Int)))

/-- servo_state of R254: 0 unset, 1 free-running, 2 locked, 3 pulling, 4 holdover. -/
def State.servo (s : State) (k : Nat) : Nat := field (s.nat (0x6000 + k) 0x04) 1 3

/-- The time base was set since the cold start (R254). -/
def State.tbSet (s : State) (k : Nat) : Bool := s.bit (0x6000 + k) 0x04 4

/-- Move a servo state, with the time notice on a change (R254, 16 R422). -/
def State.setServo (s : State) (k v : Nat) : State :=
  if s.servo k = v then s
  else (s.setNat (0x6000 + k) 0x04 (putField (s.nat (0x6000 + k) 0x04) 1 3 v)).notice 3
    [BitVec.ofNat 8 k, BitVec.ofNat 8 v]

/-- Locked or pulling: the time base follows a reference (R241, R250). -/
def State.tbFollows (s : State) (k : Nat) : Bool := s.servo k == 2 || s.servo k == 3

/-- The rate in force in ppt: syntony term plus steering offset, limited to ±1,000 ppm (R225). -/
def State.rate (s : State) (k : Nat) : Int :=
  max (-1000000000) (min 1000000000 ((s.tb k).syntony + (s.tb k).steering))

/-- 6000h.04 as read: step_pending and running follow the time base (R254). -/
def State.tbStatus (s : State) (k : Nat) : Nat :=
  let x := s.tb k
  setBit (setBit (s.nat (0x6000 + k) 0x04) 5 (x.pendingStep.isSome || x.pendingSet.isSome)) 0 x.running

/-- Steering offset in force, with the record of its changes (R301, R304). -/
def State.setSteering (s : State) (k : Nat) (ppt : Int) : State :=
  if (s.tb k).steering = ppt then s
  else
    let x := s.tb k
    s.setTb k { x with steering := ppt, steerLog := (s.now, ppt) :: (if x.steerLog.isEmpty then [(0, x.steering)] else x.steerLog) }

/-- What one hub clock cycle adds to a time base, in 2^-48 ns (R225). -/
def State.tbStep (s : State) (k : Nat) : Nat := (2 ^ 48 + s.rate k * 2 ^ 48 / 10 ^ 12).toNat

/-- What a conditioner realises against the hub PLL, ppt: the frequency of the pairs and the residual of its own loop, of at most 10 ppt in
holdover, within ±200 ppm (11 R305; 12 R316, R332). -/
def State.conditioned (s : State) (k : Nat) : Int :=
  let r := Config.loopResidual k s.now
  max (-200000000) (min 200000000 (s.frequency + if s.nat 0x7010 0x02 = 4 then max (-10) (min 10 r) else r))

/-- Edges of a line's island clock in 4 ns: of 1.0 GHz in a cluster, 1.25 GHz in a region (10 R255). -/
def islandEdges (line : Nat) : Nat := if line < 24 then 4 else 5

/-- The frequency of the synthesizer pair of a line's die against the hub PLL, ppt: its working member's (10 R255). -/
def State.islandOffset (s : State) (line : Nat) : Int :=
  s.conditioned (s.nat (0x7050 + (if line < 24 then line / 6 else (line - 24) / 2)) 0x03)

/-- The period of a time base against an island clock of `q` edges in 4 ns, in 2^-48 ns (10 R255). -/
def ReplicaTb.period (c : ReplicaTb) (q : Nat) : Nat := (2 ^ 50 * (10 ^ 12 + c.rate) / (q * (10 ^ 12 + c.against))).toNat

/-- One island clock edge: the count goes on, and takes an announced jump whose instant it has reached, epoch and value together (10 R255, R259). -/
def ReplicaTb.tick (q : Nat) (c : ReplicaTb) : ReplicaTb :=
  let count := c.count + c.period q
  match c.jump with
  | some j => if j.edge ≤ count then { c with count := ((count : Int) + j.by_ * 2 ^ 32).toNat, epoch := j.epoch, jump := none } else { c with count := count }
  | none => { c with count := count }
def ReplicaTb.ticks (q : Nat) : Nat → ReplicaTb → ReplicaTb
  | 0, c => c
  | n + 1, c => ReplicaTb.ticks q n (c.tick q)

/-- A hub ns passes for a replica whose island clock runs `f` ppt fast: its clock edges, and the counts of the time bases that run (10 R255). -/
def ReplicaX.tick (q : Nat) (f : Int) (runs : Nat → Bool) (r : ReplicaX) : ReplicaX :=
  if r.copies.isEmpty then r
  else
    let p := r.phase + q * (10 ^ 12 + f).toNat
    { r with
      phase := p % (4 * 10 ^ 12)
      copies := r.copies.remap none (fun k c => if runs k then c.map (ReplicaTb.ticks q (p / (4 * 10 ^ 12))) else c) }

/-- A replica that has been told of it is to take a jump of time base `k` (10 R259). -/
def ReplicaX.await (r : ReplicaX) (k : Nat) (j : ReplicaJump) : ReplicaX :=
  { r with copies := r.copies.remap none (fun i c => if i = k then c.map (fun x => { x with jump := some j }) else c) }

/-- The fine time of a replica's count: the count plus its fine phase, 2^-16 ns (10 R257). -/
def ReplicaTb.now (c : ReplicaTb) : Int := ((c.count : Int) + c.fine * 2 ^ 48 / 1000) / 2 ^ 32

/-- Time base `k` and its epoch as cluster `c` reads them: its replica's; what has not been loaded reads as the hub's (10 R255, R261; log
entry 60). -/
def State.clusterNow (s : State) (c k : Nat) : Int := (((s.replica c).copy k).map ReplicaTb.now).getD (s.tbNow k)
def State.clusterEpoch (s : State) (c k : Nat) : Nat := (((s.replica c).copy k).map (·.epoch)).getD (s.nat (0x6000 + k) 0x08)

/-- One hub clock cycle of 1 ns: every running time base counts, and so does every replica of it (R225; 10 R255; log entry 2). -/
def State.tick (s : State) : State :=
  let runs := fun (k : Nat) => (s.tb k).running
  let s := { s with now := s.now + 1, replicas := s.replicas.remap {} (fun line r => r.tick (islandEdges line) (s.islandOffset line) runs) }
  (items 8).foldl (fun a k => if (a.tb k).running then a.setTb k { a.tb k with count := (a.tb k).count + a.tbStep k } else a) s

/-- An instant of a time base, in 2^-16 ns, has been reached or lies in the present hub cycle (R240). -/
def State.reached (s : State) (k target : Nat) : Bool := decide (shortDiff target (s.shortTime k) < 65536)

/-- The last step or set of a time base whose edge came after an instant in hub ps: the value, epoch and set flag before it (R252). -/
def State.jumpAfter (s : State) (k : Nat) (ps : Int) : Int × Nat × Bool :=
  ((s.tb k).jumps.takeWhile (fun j => decide (ps < (j.at_ : Int) * 1000))).foldl (fun a j => (a.1 + j.by_, j.epoch, j.wasSet))
    (0, s.nat (0x6000 + k) 0x08, s.tbSet k)

/-- The value of a time base moves by a step or a set (R234, R235). -/
def State.jumpTb (s : State) (k : Nat) (d : Int) : State :=
  let x := s.tb k
  let j : Jump := ⟨s.now, d, s.nat (0x6000 + k) 0x08, s.tbSet k⟩
  s.setTb k { x with count := ((x.count : Int) + d * 2 ^ 32).toNat, jumps := (j :: x.jumps).take 4 }

/-- Stop every time base: a pending step or set is dropped (R228). -/
def State.stopTimeBases (s : State) : State :=
  (items 8).foldl (fun a k => a.setTb k { a.tb k with running := false, pendingStep := none, pendingSet := none }) s

/-! ## The firefly outputs in time (R243 to R247) -/

/-- An alignment error that has moved toward 0 for so many ns at a rate in ps/s (R245). -/
def slewed (e : Int) (psPerS ns : Nat) : Int :=
  let m : Int := ((psPerS * ns * 65536 / 10 ^ 12 : Nat) : Int)
  if 0 ≤ e then max 0 (e - m) else min 0 (e + m)

/-- The alignment error e of an output now: 6200h.0E as read (R243, R245). -/
def State.alignError (s : State) (f : Nat) : Int :=
  let e := s.reg (0x6200 + f) 0x0E
  match (s.firefly f).slewSince with
  | none => e
  | some t => slewed e (s.nat (0x6200 + f) 0x10) (s.now - t)

/-- Write e as it stands; the slew goes on from there, or ends (R244, R245). -/
def State.settleSlew (s : State) (f : Nat) (goesOn : Bool) : State :=
  let x := s.firefly f
  (s.setReg (0x6200 + f) 0x0E (s.alignError f)).setFirefly f { x with slewSince := if goesOn then x.slewSince.map (fun _ => s.now) else none }

/-- The time on which a pulse of an output is placed, 2^-16 ns: its time base, less e for one on the grid (R242, R243). -/
def State.pulseTime (s : State) (f : Nat) (q : Pulse) : Int := (s.tbNow q.tb : Int) - (if q.gridded then s.alignError f else 0)

/-- A pulse is at its active level now. -/
def State.pulseOn (s : State) (f : Nat) (q : Pulse) : Bool := decide (q.start ≤ s.pulseTime f q ∧ s.pulseTime f q < q.stop)

/-- The output is at its active level: within one of its pulses (R242, R252). -/
def State.fireflyActive (s : State) (f : Nat) : Bool := (s.firefly f).pulses.any (s.pulseOn f)

/-- The hub ns of an edge that lies so far back on a time base (R245). -/
def State.edgeInstant (s : State) (k : Nat) (ago : Int) : Nat :=
  s.now - (ago.toNat * 10 ^ 12 / ((10 ^ 12 + s.rate k).toNat * 65536))

/-- Pulses that have ended are dropped, and the last active edge is noted; with `cut`, those still to come are dropped as well. -/
def State.settlePulses (s : State) (f : Nat) (cut : Bool) : State :=
  let x := s.firefly f
  let begun := x.pulses.filter (fun q => decide (q.start ≤ s.pulseTime f q))
  let last := begun.foldl (fun m q => max m (s.edgeInstant q.tb (s.pulseTime f q - q.start))) 0
  s.setFirefly f { x with
    lastEdge := if begun.isEmpty then x.lastEdge else some (max last (x.lastEdge.getD 0))
    pulses := x.pulses.filter (fun q => decide (s.pulseTime f q < q.stop) && !(cut && decide (s.pulseTime f q < q.start))) }

/-- The output drives no pulse any more (R244, R247). -/
def State.endPulses (s : State) (f : Nat) : State :=
  let s := (s.settleSlew f false).settlePulses f true
  s.setFirefly f { s.firefly f with pulses := [] }

/-! ## The capture ring -/

/-- The flag byte of a record (R250). -/
def State.recordFlags (s : State) (k : Nat) (edge late suppressed unset : Bool) : Nat :=
  32 * k + 16 * ofBool edge + 8 * ofBool late + 4 * ofBool (!s.tbFollows k) + 2 * ofBool suppressed + ofBool unset

/-- Put a record in the order of taking; those of one hub cycle stand in ascending order of source (R250). -/
def insertRecord (r : CaptureRecord) : List CaptureRecord → List CaptureRecord
  | [] => [r]
  | q :: l => if r.at_ < q.at_ ∨ (r.at_ = q.at_ ∧ r.source < q.source) then r :: q :: l else q :: insertRecord r l

/-- A record enters the ring; when 4,096 are unread the oldest is overwritten and counted (R250, R251). -/
def State.ringPush (s : State) (r : CaptureRecord) : State :=
  let l := insertRecord r s.ring
  let s := { s with ringSeq := (s.ringSeq + 1) % 256 }
  if l.length ≤ 4096 then { s with ring := l }
  else ({ s with ring := l.drop 1, rewind := min (s.rewind + 1) (2 ^ 32 - 1) }).inc64 0x6380 0x04

/-- A record of time base `k` at the value `t`, taken in the present cycle (R250). -/
def State.takeRecord (s : State) (source k t : Nat) (late suppressed : Bool) : State :=
  s.ringPush ⟨s.now, source, s.recordFlags k false late suppressed (!s.tbSet k), s.nat (0x6000 + k) 0x08, t⟩

/-- The 16 bytes of a record with its sequence (R250). -/
def CaptureRecord.bytes (r : CaptureRecord) (sequence : Nat) : List Byte :=
  toBytes 6 (time80 r.time / 2 ^ 32) ++ toBytes 4 (time80 r.time % 2 ^ 32) ++ toBytes 2 (r.time % 65536) ++
    [BitVec.ofNat 8 r.source, BitVec.ofNat 8 r.flags, BitVec.ofNat 8 r.epoch, BitVec.ofNat 8 sequence]

/-- The sequence of the oldest unread record, or of the next one when none is unread (R250, R251). -/
def State.oldestSequence (s : State) : Nat := (s.ringSeq + 256 * 16 - s.ring.length) % 256

/-- The unread records as they read (R250). -/
def State.ringBytes (s : State) : List (List Byte) := s.ring.mapIdx (fun i r => r.bytes ((s.oldestSequence + i) % 256))

/-- The rewind mark before the next record (R251). -/
def State.rewindMark (s : State) : List Byte :=
  toBytes 4 s.rewind ++ List.replicate 8 0 ++ [0xFF, 0, 0, BitVec.ofNat 8 s.oldestSequence]

/-- A read of 6380h.01 (records) of at most `n` records: the mark first when overwrites are pending, then the unread records in
order; what is returned is consumed (R250, R251, 16 R420). -/
def State.readRing (s : State) (n : Nat) : List Byte × State :=
  if s.rewind = 0 then ((s.ringBytes.take n).flatten, { s with ring := s.ring.drop n })
  else (s.rewindMark ++ (s.ringBytes.take (n - 1)).flatten,
    ({ s with ring := s.ring.drop (n - 1), rewind := 0 }).inc32 0x6380 0x03)

/-- A warm start empties the ring: its unread records count as overwritten (R251). -/
def State.overwriteRing (s : State) : State :=
  let n := s.ring.length
  ({ s with ring := [], rewind := min (s.rewind + n) (2 ^ 32 - 1) }).addSat 0x6380 0x04 64 n

end Sys2Proof.Machine
end

