-- ==== Sys2Proof/Machine/Gates.lean ====
section
/-! DEFINITION. Gate control lists on TB0 (07_buffers_and_queues.md R189 to R191, R193): reading a list's bytes, the interval in
force at an instant, and how long a gate stays open. -/

namespace Sys2Proof.Machine

/-- A span of a cycle in which one entry is in force: from, until (ns within the cycle), and its value. -/
abbrev Span := Nat × Nat × Nat

/-- The spans of entries from an offset: an interval is cut short at the cycle end, and the last entry's state lasts until it
(R189). -/
def spansFrom (cycle : Nat) : List (Nat × Nat) → Nat → List Span
  | [], _ => []
  | [(m, _)], o => if o < cycle then [(o, cycle, m)] else []
  | (m, d) :: e :: r, o =>
    if o + d < cycle then (o, o + d, m) :: spansFrom cycle (e :: r) (o + d)
    else if o < cycle then [(o, cycle, m)] else []

/-- The spans of a list's cycle. -/
def GateList.spans (l : GateList) : List Span := spansFrom l.cycle l.entries 0

/-- Where in its cycle the list stands at an instant in ns. -/
def GateList.offsetAt (l : GateList) (t : Int) : Nat := if l.cycle = 0 then 0 else ((t - l.base) % (l.cycle : Int)).toNat

/-- The number of the entry in force at an instant (R189). -/
def GateList.positionAt (l : GateList) (t : Int) : Nat :=
  let o := l.offsetAt t
  (l.spans.takeWhile (fun sp => decide (sp.2.1 ≤ o))).length

/-- The value of the entry at a position; the last entry's beyond the end. -/
def GateList.valueAt (l : GateList) (position : Nat) : Nat :=
  match l.entries[position]? with
  | some e => e.1
  | none => (l.entries.getLast?.map (·.1)).getD 0

/-- The first instant base + N × cycle at or after `t`, for whole N (R189). N is any integer, so that a list whose base time lies ahead starts before it
(DEDUCED, log entry 119). -/
def GateList.startAfter (l : GateList) (t : Int) : Int :=
  if l.cycle = 0 then t else l.base + -(-(t - l.base) / (l.cycle : Int)) * (l.cycle : Int)

/-- How long from offset `o` of the cycle until a span whose value fails `ok` begins, over at most one whole cycle; none when no
span fails it. -/
def GateList.lasts (l : GateList) (o : Nat) (ok : Nat → Bool) : Option Nat :=
  let sp := l.spans
  let here := sp.filter (fun x => decide (o < x.2.1))
  let later := (sp.filter (fun x => decide (x.1 ≤ o))).map (fun x => (x.1 + l.cycle, x.2.1 + l.cycle, x.2.2))
  ((here ++ later).find? (fun x => !ok x.2.2)).map (fun x => x.1 - o)

/-- Bits 24 to 29 of a gate mask: some contracted queue is open (R190). -/
def anyContracted (mask : Nat) : Bool := decide (field mask 24 6 ≠ 0)

/-- The gate mask in force at a port: all gates open without an operational list (R189). -/
def State.gateMask (s : State) (p : Nat) : Nat :=
  match (s.eg p).operational with
  | none => 2 ^ 32 - 1
  | some l => l.valueAt (s.eg p).position

/-- Whether the gate of queue `q` is open now. -/
def State.gateOpen (s : State) (p q : Nat) : Bool := (s.gateMask p).testBit q

/-- Whether the port is in a protected window now (R190). -/
def State.inProtected (s : State) (p : Nat) : Bool :=
  match (s.eg p).operational with
  | none => false
  | some _ => anyContracted (s.gateMask p)

/-- How long queue `q` may transmit from now, in ns: until its own gate closes and, outside Q24–Q29, until the next protected
window begins; none = without limit (R190). -/
def State.openTime (s : State) (p q : Nat) : Option Nat :=
  match (s.eg p).operational with
  | none => none
  | some l =>
    let o := l.offsetAt s.tb0Ns
    if 24 ≤ q ∧ q < 30 then l.lasts o (fun m => m.testBit q)
    else l.lasts o (fun m => m.testBit q && !anyContracted m)

/-- The list of 4010h.03 as written: base TIME80, cycle time, count, then gate mask and interval of each entry (R204). -/
def parseGateList (b : List Byte) : GateList :=
  { base := (numAt b 0 6 : Int) * 1000000000 + numAt b 6 4
    cycle := numAt b 10 4
    entries := (items (numAt b 14 2)).map (fun i => (numAt b (16 + 8 * i) 4, numAt b (20 + 8 * i) 4)) }

/-- The bytes of a list in the layout of 4010h.03 and 4010h.04. -/
def gateListBytes (l : GateList) : List Byte :=
  toBytes 6 (l.base.toNat / 1000000000) ++ toBytes 4 (l.base.toNat % 1000000000) ++ toBytes 4 l.cycle ++
    toBytes 2 l.entries.length ++ (l.entries.map (fun e => toBytes 4 e.1 ++ toBytes 4 e.2)).flatten

/-- Whether the bytes are a list the entry accepts: empty, or 1 to 128 entries with intervals of 8 ns to 1 s, a cycle of 1 µs to
1 s and a whole TIME80 (R189, 09 R229). -/
def gateListOk (b : List Byte) : Bool :=
  b.isEmpty ||
  (decide (16 ≤ b.length) && decide (1 ≤ numAt b 14 2 ∧ numAt b 14 2 ≤ 128) && decide (b.length = 16 + 8 * numAt b 14 2) &&
    decide (numAt b 6 4 < 1000000000) && decide (1000 ≤ numAt b 10 4 ∧ numAt b 10 4 ≤ 1000000000) &&
    (parseGateList b).entries.all (fun e => decide (8 ≤ e.2 ∧ e.2 ≤ 1000000000)))

/-- Where the windows of queue `q` end within the cycle: an open span with a closed one after it, the first one's after the last. -/
def GateList.windowEnds (l : GateList) (q : Nat) : List Nat :=
  let sp := l.spans
  (sp.zip (sp.drop 1 ++ sp.take 1)).filterMap (fun x => if x.1.2.2.testBit q && !x.2.2.2.testBit q then some x.1.2.1 else none)

/-- Whether a window of queue `q`, what is left of it at `t0` or all of it, lies between two instants of TB0: its end does (R193). -/
def GateList.skips (l : GateList) (q : Nat) (t0 t1 : Int) : Bool :=
  if t1 ≤ t0 then false
  else if (l.cycle : Int) ≤ t1 - t0 then !(l.windowEnds q).isEmpty
  else
    let o := l.offsetAt t0
    let n := (t1 - t0).toNat
    (l.windowEnds q).any (fun e => decide (o < e ∧ e ≤ o + n) || decide (e + l.cycle ≤ o + n))

/-- An accepted step of TB0 from `t0` to the present value: every operational list takes its position from the new TB0, and a
contracted copy whose window was skipped is marked (R193). -/
def State.gatesFollowStep (s : State) (t0 : Int) : State :=
  (items 96).foldl (fun a p =>
    match (a.eg p).operational with
    | none => a
    | some l =>
      let a := a.setEg p { a.eg p with position := l.positionAt s.tb0Ns }
      (items 6).foldl (fun b i =>
        let q := 24 + i
        let x := b.queue p q
        if x.copies.isEmpty || !l.skips q t0 s.tb0Ns then b
        else b.setQueue p q { x with copies := x.copies.map (fun c => if c.started then c else { c with stepped := true }) }) a) s

end Sys2Proof.Machine
end

