-- ==== Sys2Proof/Machine/Operands.lean ====
section
/-! DEFINITION. What commands carry and tables hold, read field by field: cyclic redundancy checks (04 R106, 05 R122), the headers
of a frame (05 R114), the classifier's key (R119), and the table entries (R116, R120, R122, R126, R205). -/

namespace Sys2Proof.Machine

/-! ## Cyclic redundancy checks -/

/-- One bit of a reflected CRC with a reflected polynomial. -/
def crcBit (poly c : Nat) : Nat := if c % 2 = 1 then (c / 2) ^^^ poly else c / 2

/-- One byte of a reflected CRC. -/
def crcByte (poly c : Nat) (b : Byte) : Nat :=
  crcBit poly (crcBit poly (crcBit poly (crcBit poly (crcBit poly (crcBit poly (crcBit poly (crcBit poly (c ^^^ b.toNat))))))))

/-- A CRC with initial value and final XOR all ones, input and output reflected. -/
def crcOf (poly : Nat) (l : List Byte) : Nat := l.foldl (crcByte poly) 0xFFFFFFFF ^^^ 0xFFFFFFFF

/-- CRC-32: polynomial 04C11DB7h, reflected EDB88320h (04 R106). -/
def crc32 (l : List Byte) : Nat := crcOf 0xEDB88320 l

/-- CRC-32C: polynomial 1EDC6F41h, reflected 82F63B78h (05 R122). -/
def crc32c (l : List Byte) : Nat := crcOf 0x82F63B78 l

/-- The four FCS bytes of a frame, first bit of the CRC first (IEEE 802.3: PRESUMED, log entry 12). -/
def fcsBytes (l : List Byte) : List Byte := (toBytes 4 (crc32 l)).reverse

/-! ## The headers of a frame (05 R114) -/

/-- What the parser finds. Positions are byte offsets from the destination address. -/
structure Head where
  da : Nat := 0
  sa : Nat := 0
  tagged : Bool := false
  tagVid : Nat := 0
  pcp : Nat := 0
  dei : Nat := 0
  /-- The EtherType after the tags, and where it stands. -/
  ethertype : Nat := 0
  typeAt : Nat := 12
  /-- HSR tag: sequence number and path. -/
  hsr : Option (Nat × Nat) := none
  /-- R-TAG: sequence number, and where the tag stands. -/
  rtag : Option (Nat × Nat) := none
  /-- PTP: message type, domain number, majorSdoId, and where its header stands. -/
  ptp : Option (Nat × Nat × Nat × Nat) := none
  ipVersion : Nat := 0
  protocol : Nat := 0
  dscp : Nat := 0
  ipDestination : Nat := 0
  /-- The whole IPv6 destination address. -/
  ip6Destination : Nat := 0
  l4Source : Nat := 0
  l4Destination : Nat := 0
  /-- Where the UDP header stands. -/
  udpAt : Option Nat := none
deriving DecidableEq, Repr

/-- The C-tag, where it lies in the window. -/
def parseTag (w : List Byte) (h : Head) : Head :=
  if numAt w 12 2 = 0x8100 ∧ 18 ≤ w.length then
    let tci := numAt w 14 2
    { h with tagged := true, tagVid := tci % 4096, pcp := tci / 8192, dei := tci / 4096 % 2, typeAt := 16 }
  else h

/-- A second C-tag or an S-tag after the first tag: never a VID. -/
def parseSecondTag (w : List Byte) (h : Head) : Head :=
  let e := numAt w h.typeAt 2
  if h.tagged ∧ (e = 0x8100 ∨ e = 0x88A8) ∧ h.typeAt + 6 ≤ w.length then { h with typeAt := h.typeAt + 4 } else h

/-- The HSR tag: path and size, then the sequence number (IEC 62439-3). -/
def parseHsr (w : List Byte) (h : Head) : Head :=
  if numAt w h.typeAt 2 = 0x892F ∧ h.typeAt + 8 ≤ w.length then
    { h with hsr := some (numAt w (h.typeAt + 4) 2, numAt w (h.typeAt + 2) 2 / 4096), typeAt := h.typeAt + 6 }
  else h

/-- The R-TAG: two reserved bytes, then the sequence number (IEEE 802.1CB). -/
def parseRtag (w : List Byte) (h : Head) : Head :=
  if numAt w h.typeAt 2 = 0xF1C1 ∧ h.typeAt + 8 ≤ w.length then
    { h with rtag := some (numAt w (h.typeAt + 4) 2, h.typeAt), typeAt := h.typeAt + 6 }
  else h

/-- The PTP header of 34 bytes at an offset (IEEE 1588). -/
def parsePtp (w : List Byte) (o : Nat) (h : Head) : Head :=
  if o + 34 ≤ w.length then { h with ptp := some (byteAt w o % 16, byteAt w (o + 4), byteAt w o / 16, o) } else h

/-- UDP or TCP ports at an offset; PTP behind UDP destination port 319 or 320. -/
def parseL4 (w : List Byte) (o : Nat) (h : Head) : Head :=
  if h.protocol = 17 ∧ o + 8 ≤ w.length then
    let h := { h with l4Source := numAt w o 2, l4Destination := numAt w (o + 2) 2, udpAt := some o }
    if numAt w (o + 2) 2 = 319 ∨ numAt w (o + 2) 2 = 320 then parsePtp w (o + 8) h else h
  else if h.protocol = 6 ∧ o + 20 ≤ w.length then { h with l4Source := numAt w o 2, l4Destination := numAt w (o + 2) 2 }
  else h

/-- IPv4 or IPv6: the first header only. -/
def parseIp (w : List Byte) (h : Head) : Head :=
  let o := h.typeAt + 2
  if h.ethertype = 0x0800 ∧ o + 4 * (byteAt w o % 16) ≤ w.length ∧ 5 ≤ byteAt w o % 16 then
    let g := { h with
      ipVersion := 1
      protocol := byteAt w (o + 9)
      dscp := byteAt w (o + 1) / 4
      ipDestination := numAt w (o + 16) 4 }
    if numAt w (o + 6) 2 % 8192 = 0 then parseL4 w (o + 4 * (byteAt w o % 16)) g else g
  else if h.ethertype = 0x86DD ∧ o + 40 ≤ w.length then
    parseL4 w (o + 40) { h with
      ipVersion := 2
      protocol := byteAt w (o + 6)
      dscp := numAt w o 2 / 64 % 64
      ipDestination := numAt w (o + 36) 4
      ip6Destination := numAt w (o + 24) 16 }
  else h

/-- The parser over a lookup window: a header not wholly inside it is absent (R114). -/
def parseHead (w : List Byte) : Head :=
  let h : Head := { da := numAt w 0 6, sa := numAt w 6 6 }
  let h := parseRtag w (parseHsr w (parseSecondTag w (parseTag w h)))
  let h := { h with ethertype := numAt w h.typeAt 2 }
  if h.ethertype = 0x88F7 then parsePtp w (h.typeAt + 2) h else parseIp w h

/-- A group address. -/
def isGroup (address : Nat) : Bool := (address / 2 ^ 40).testBit 0

/-- The broadcast address. -/
def broadcast : Nat := 2 ^ 48 - 1

/-- The classifier's key (R119). -/
def classifierKey (ingress vid pcp : Nat) (h : Head) : Nat :=
  ingress * 2 ^ 249 + ofBool h.tagged * 2 ^ 248 + vid * 2 ^ 236 + pcp * 2 ^ 233 + h.ethertype * 2 ^ 217 + h.da * 2 ^ 169 +
    h.sa * 2 ^ 121 + h.ipVersion * 2 ^ 119 + h.protocol * 2 ^ 111 + h.dscp * 2 ^ 105 + h.l4Source * 2 ^ 89 +
    h.l4Destination * 2 ^ 73 + (h.ptp.map (fun p => p.1 * 2 ^ 69 + p.2.1 * 2 ^ 61)).getD 0 + h.ipDestination * 2 ^ 29

/-- Entry `e` of the classifier (value, mask, action: 576 bits) is valid and matches a key (R117, R120). -/
def classifierMatch (key e : Nat) : Bool :=
  e.testBit 63 && (((key ^^^ field e 320 256) &&& field e 64 256) == 0)

/-! ## Keys and places in the hashed tables -/

/-- The forwarding database's key in 8 bytes (R125). -/
def fdbKey (fid mac : Nat) : List Byte := toBytes 8 (fid * 2 ^ 48 + mac)

/-- The two buckets of a forwarding database key (R125). -/
def fdbBuckets (fid mac : Nat) : Nat × Nat := (crc32 (fdbKey fid mac) % 32768, crc32c (fdbKey fid mac) % 32768)

/-- The stream table's key in 8 bytes: type, VID, address (R122). -/
def streamKey (type vid mac : Nat) : List Byte := toBytes 8 (type * 2 ^ 60 + vid * 2 ^ 48 + mac)

/-- The two buckets of a stream key (R122). -/
def streamBuckets (type vid mac : Nat) : Nat × Nat := (crc32 (streamKey type vid mac) % 4096, crc32c (streamKey type vid mac) % 4096)

/-- The eight positions a key may have, bucket × 4 + way. -/
def waysOf (b : Nat × Nat) : List Nat := [4 * b.1, 4 * b.1 + 1, 4 * b.1 + 2, 4 * b.1 + 3, 4 * b.2, 4 * b.2 + 1, 4 * b.2 + 2, 4 * b.2 + 3]

/-- Key of a forwarding database entry: FID and address (R126). -/
def fdbEntryKey (e : Nat) : Nat × Nat := (field e 76 12, field e 28 48)

/-- The entry is valid and of this key. -/
def fdbEntryIs (fid mac e : Nat) : Bool := e.testBit 95 && field e 76 12 == fid && field e 28 48 == mac

/-- The stream entry is valid and of this key (R122). -/
def streamEntryIs (type vid mac e : Nat) : Bool :=
  e.testBit 127 && field e 125 2 == type && field e 113 12 == vid && field e 65 48 == mac

/-- Where a forwarding database key stands. -/
def State.fdbFind (s : State) (fid mac : Nat) : Option Nat :=
  (waysOf (fdbBuckets fid mac)).find? (fun i => fdbEntryIs fid mac (Sparse.get 0 s.fdb i))

/-- Where a stream key stands. -/
def State.streamFind (s : State) (type vid mac : Nat) : Option Nat :=
  (waysOf (streamBuckets type vid mac)).find? (fun i => streamEntryIs type vid mac (Sparse.get 0 s.streams i))

/-! ## Flow contracts (08 R205) -/

/-- A contract entry read field by field. -/
structure Contract where
  valid : Bool
  held : Bool
  cutThrough : Bool
  demote : Bool
  ingress : Nat
  toSet : Bool
  destination : Nat
  queue : Nat
  occurrences : Nat
  windowOffset : Nat
  windowLength : Nat
  maxFrames : Nat
  maxLength : Nat
  bound : Nat
  releaseOffset : Nat
  state : Nat
  computedBound : Nat
deriving DecidableEq, Repr

/-- The fields of an entry. -/
def contractOf (e : Nat) : Contract where
  valid := e.testBit 255
  held := e.testBit 254
  cutThrough := e.testBit 253
  demote := e.testBit 252
  ingress := field e 245 7
  toSet := e.testBit 244
  destination := field e 234 10
  queue := field e 231 3
  occurrences := field e 219 12
  windowOffset := field e 189 30
  windowLength := field e 169 20
  maxFrames := field e 161 8
  maxLength := field e 146 15
  bound := field e 126 20
  releaseOffset := field e 106 20
  state := field e 104 2
  computedBound := field e 84 20

/-- The table entry of contract `i`. -/
def State.contractEntry (s : State) (i : Nat) : Nat := Sparse.get 0 s.contracts i

/-- Put the state field of a contract. -/
def State.putContractState (s : State) (i st : Nat) : State :=
  { s with contracts := Sparse.set 0 s.contracts i (putField (s.contractEntry i) 104 2 st) }

/-! ## Port modes (04 R89, 03 R60) -/

/-- Rate of a port mode in Mb/s. -/
def modeRate : Nat → Nat
  | 1 => 1000 | 2 => 10000 | 3 => 25000 | 4 => 50000 | 5 => 100000 | 6 => 200000 | _ => 0

/-- Lanes of a port mode. -/
def modeLanes : Nat → Nat
  | 0 => 0 | 5 => 2 | 6 => 4 | _ => 1

/-- Lane rate code of a port mode. -/
def modeLaneCode : Nat → Nat
  | 0 => 0 | 1 => 1 | 2 => 2 | 3 => 3 | _ => 4

/-- Period of the port edge clock in fs of a lane rate code (R60): 8 ns, 6.206… ns, 2.482… ns, 2.409… ns. -/
def edgeFs : Nat → Nat
  | 1 => 8000000 | 2 => 6206061 | 3 => 2482424 | 4 => 2409412 | _ => 0

/-- The mode of port `p`. -/
def State.mode (s : State) (p : Nat) : Nat := s.nat (0x2100 + p) 0x01

/-- The rate of port `p` in Mb/s. -/
def State.portRate (s : State) (p : Nat) : Nat := modeRate (s.mode p)

/-- Nanoseconds to units of 2^-16 ns. -/
abbrev nsUnits (n : Nat) : Int := (n : Int) * 65536

/-- Picoseconds to units of 2^-16 ns, toward −∞ (log entry 10). -/
def psUnits (v : Int) : Int := v * 65536 / 1000

end Sys2Proof.Machine
end

