-- ==== Sys2Proof/Machine/LinkTiming.lean ====
section
/-! DEFINITION. The timing state of a port: the causes that make it unverified, its state and status (10 R273 to R279, R286),
and the asymmetry in force (R267, R268). -/

namespace Sys2Proof.Machine

/-- The link is up and syntonised (2100h.03 = 1). -/
def State.portSynt (s : State) (p : Nat) : Bool := s.nat (0x2100 + p) 0x03 == 1

/-- The link is up, syntonised or rate-matched. -/
def State.portUp (s : State) (p : Nat) : Bool := s.nat (0x2100 + p) 0x03 == 1 || s.nat (0x2100 + p) 0x03 == 2

/-- The port's timing is verified: state 2 (R276). -/
def State.portVerified (s : State) (p : Nat) : Bool := s.nat (0x2400 + p) 0x01 == 2

/-- Cause codes of R286 as bits: 1 no baseline, 2 delay step, 3 detector, 4 vernier, 5 replica. -/
def hasCause (causes c : Nat) : Bool := causes.testBit c

/-- The cause that the cause field shows: delay step, no baseline, replica, detector, vernier (R277). -/
def shownCause (causes : Nat) : Nat :=
  if hasCause causes 2 then 2 else if hasCause causes 1 then 1 else if hasCause causes 5 then 5
  else if hasCause causes 3 then 3 else if hasCause causes 4 then 4 else 0

/-- The causes that stand through state 0: no baseline and delay step (R275). -/
def keptCauses (causes : Nat) : Nat := setBit 0 1 (hasCause causes 1) + setBit 0 2 (hasCause causes 2)

/-- The lane that a port's receive timestamps rest on: the one that carries FEC lane 0 (03 R67). -/
def State.timingLane (s : State) (p : Nat) : Nat := if 5 ≤ s.mode p then p + s.nat (0x2000 + p) 0x0E else p

/-- The lane on which a port transmits FEC lane 0 (03 R67, R88). -/
def State.sendingLane (s : State) (p : Nat) : Nat :=
  if s.flag (0x2000 + p) 0x0D ∧ 5 ≤ s.mode p then p + (modeLanes (s.mode p) - 1) else p

/-- The detector that now serves a lane: the spare while it is assigned to it (R264, R265). -/
def State.servingDetector (s : State) (l : Nat) : Nat :=
  if s.nat (0x2500 + l / 4) 0x01 = l % 4 then 5 * (l / 4) + 4 else 5 * (l / 4) + l % 4

/-- The lane has no detector that serves it: its own is fenced and the spare serves another or is fenced (02 R33, R284). -/
def State.detectorMissing (s : State) (l : Nat) : Bool := s.detectorFenced (s.servingDetector l)

/-- A port's timing has no detector: of the lane that its receive timestamps rest on, or of the one that its transmit timestamps do; or its timestamp
unit is fenced (R276; 02 R33). -/
def State.stampMissing (s : State) (p : Nat) : Bool :=
  s.detectorMissing (s.timingLane p) || s.detectorMissing (s.sendingLane p) || s.stampFenced p

/-- A port's internal delays are stale: those of a lane that they rest on (13 R343). -/
def State.delaysStale (s : State) (p : Nat) : Bool :=
  s.bit (0x8100 + s.timingLane p) 0x0A 3 || s.bit (0x8100 + s.sendingLane p) 0x0A 3

/-- Write the timing state and the status bits that follow it (R276, R286). -/
def State.putTiming (s : State) (p st causes : Nat) : State :=
  let w := s.nat (0x2400 + p) 0x02
  let shown := if st = 0 then shownCause (keptCauses causes) else shownCause causes
  let w := putField w 4 4 shown
  let w := setBit (setBit w 0 (st == 3 || st == 4)) 2 (st == 4)
  let s := (s.setNat (0x2400 + p) 0x01 st).setNat (0x2400 + p) 0x02 w
  s.setTim p { s.tim p with causes := causes }

/-- A port that has become unverified: its sticky bit and its timing-unverified source (R276). -/
def State.noteUnverified (s : State) (p : Nat) : State := (s.putBit (0x2400 + p) 0x02 10 true).raise (6 * p + 3) 0

/-- Enter state 3: sticky bit and, once at entry, the timing-unverified source of the port (R276). -/
def State.enterUnverified (s : State) (p causes : Nat) : State :=
  let was := s.nat (0x2400 + p) 0x01
  let s := s.putTiming p 3 causes
  if was = 3 ∨ was = 4 then s else s.noteUnverified p

/-- The causes of a port change during its calibration: one that arises ends what was verified, and with the last of them gone a port with a
baseline will be verified again when the calibration ends (R276, R277, R279). -/
def State.calibratingCauses (s : State) (p causes : Nat) : State :=
  let s := s.putTiming p 4 causes
  let x := s.tim p
  if causes ≠ 0 then
    if x.wasVerified then (s.setTim p { x with wasVerified := false }).noteUnverified p else s
  else s.setTim p { x with wasVerified := x.wasVerified || s.flag (0x2400 + p) 0x0D }

/-- Set the causes of a port that is timing, and judge its state: unverified while a cause stands; verified again when the last
cause that clears on its own has cleared and a baseline exists, otherwise unverified for want of a baseline (R276, R277). -/
def State.setCauses (s : State) (p causes : Nat) : State :=
  let st := s.nat (0x2400 + p) 0x01
  if st = 0 then s.putTiming p 0 causes
  else if st = 4 then s.calibratingCauses p causes
  else if causes ≠ 0 then s.enterUnverified p causes
  else if st = 3 then (if s.flag (0x2400 + p) 0x0D then s.putTiming p 2 0 else s.putTiming p 3 (2 ^ 1))
  else s.putTiming p st 0

/-- Add or remove one cause (R276, R277). -/
def State.putCause (s : State) (p c : Nat) (on : Bool) : State := s.setCauses p (setBit (s.tim p).causes c on)

/-- End a calibration without a proposal: the port is again what its causes make it (R279). -/
def State.abandonAsymmetry (s : State) (p : Nat) : State :=
  let x := s.tim p
  if !x.calibrating then s
  else
    let s := s.setTim p { x with calibrating := false, offsets := [] }
    let s := s.putBit (0x2400 + p) 0x02 1 false
    if s.nat (0x2400 + p) 0x01 ≠ 4 then s
    else if x.causes ≠ 0 then s.putTiming p 3 x.causes
    else if x.wasVerified then s.putTiming p 2 0
    else s.putTiming p 3 (2 ^ 1)

/-- A port that goes down, becomes rate-matched or is fenced is not timing; what stands of its causes is kept (R275). -/
def State.timingOff (s : State) (p : Nat) : State :=
  let s := s.abandonAsymmetry p
  let s := s.setTim p { s.tim p with results := [], count := 0, lastResult := none }
  s.putTiming p 0 (keptCauses (s.tim p).causes)

/-- A port that comes up syntonised: acquiring, or unverified with the causes that stand; replica, detector and vernier are judged
anew (R275, R276; 13 R343). -/
def State.timingOn (s : State) (p : Nat) : State :=
  let s := s.setTim p { s.tim p with results := [], count := 0, lastResult := none }
  let c := keptCauses (s.tim p).causes
  let c := setBit c 5 ((s.replica (p / 4)).status == 2)
  let c := setBit (setBit c 3 (s.stampMissing p)) 4 (s.delaysStale p)
  if c = 0 then s.putTiming p 1 0 else s.enterUnverified p c

/-- Insert into a rising list. -/
def insertSorted (v : Int) : List Int → List Int
  | [] => [v]
  | a :: r => if v ≤ a then v :: a :: r else a :: insertSorted v r

/-- The median of 8 results, the mean of the middle two (R273; the half is rounded down, log entry 10). -/
def median8 (l : List Int) : Int :=
  let q := l.foldl (fun a v => insertSorted v a) []
  (q.getD 3 0 + q.getD 4 0) / 2

/-- s of R273: it exists once 8 results have arrived since link up. -/
def State.delayS (s : State) (p : Nat) : Option Int :=
  let x := s.tim p
  if x.count < 8 then none else some (median8 x.results)

/-- The asymmetry in force: the accepted record's under source 0, else the host's (R267). -/
def State.asymmetry (s : State) (p : Nat) : Int :=
  if s.nat (0x2400 + p) 0x03 = 0 then
    match (s.port p).recordAsymmetry with
    | some a => a
    | none => s.reg (0x2400 + p) 0x04
  else s.reg (0x2400 + p) 0x04

/-- The mean path delay m of an exchange, ps (R268; rounded toward minus infinity, log entry 10). -/
def meanPath (x : Exchange) : Int :=
  (if x.peer then (x.t4 - x.t1) - (x.t3 - x.t2) else (x.t2 - x.t1) + (x.t4 - x.t3)) * 1000 / 131072

/-- The port's IEEE 1588 delayAsymmetry, ps: −α / 2 (R268). -/
def State.delayAsymmetry (s : State) (p : Nat) : Int := -(s.asymmetry p / 2)

/-- Incoming and outgoing delay of R268. -/
def State.splitDelay (s : State) (p : Nat) (m : Int) : Int × Int :=
  (m + s.delayAsymmetry p, m - s.delayAsymmetry p)

/-- The offset that a Sync received on a slave port gives, in 2^-16 ns: (t2 − t1) − incoming delay, less its correctionField (R268). -/
def State.syncOffset (s : State) (p : Nat) (m t1 t2 correction : Int) : Int := (t2 - t1) - psUnits (s.splitDelay p m).1 - correction

/-- Judge a delay step: count it, show it, sticky bit, and cause delay step (R273). -/
def State.delayStep (s : State) (p : Nat) (d : Int) : State :=
  ((s.inc32 (0x2400 + p) 0x17).setReg (0x2400 + p) 0x18 (max (-2147483648) (min 2147483647 d))).putBit (0x2400 + p) 0x02 11 true

/-! ## Delays between the reference plane and the PCS boundary -/

/-- RS-FEC receive and transmit delay in ps by port mode and FEC mode (04 R94). -/
def rsFecDelay (mode fec : Nat) : Nat × Nat :=
  if mode = 3 ∧ fec = 1 then (260000, 25000) else if mode = 4 then (150000, 20000) else if mode = 5 then (120000, 20000)
  else if mode = 6 then (95000, 20000) else (0, 0)

/-- MACsec receive and transmit delay in ps by lane rate code (04 R94). -/
def macsecPs : Nat → Nat × Nat
  | 1 => (192000, 160000) | 2 => (148950, 124120) | 3 => (59580, 49650) | 4 => (57830, 48190) | _ => (0, 0)

/-- RS-FEC of port `p`. -/
def State.rsFec (s : State) (p : Nat) : Nat × Nat := rsFecDelay (s.mode p) (s.nat (0x2100 + p) 0x02)

/-- 2100h.0B and .0C as read: RS-FEC plus MACsec (04 R94, R109). -/
def State.fixedDelay (s : State) (p : Nat) : Nat × Nat :=
  let m := if s.flag (0x2100 + p) 0x07 then macsecPs (modeLaneCode (s.mode p)) else (0, 0)
  ((s.rsFec p).1 + m.1, (s.rsFec p).2 + m.2)

/-- The elastic buffer's part of the receive delay, ps: live while syntonised, held while the lane's values are stale (R262; 13 R343). -/
def State.bufferDelay (s : State) (p : Nat) : Nat :=
  let l := s.timingLane p
  if s.portSynt p then (s.lane l).fill * edgeFs (modeLaneCode (s.mode p)) / 1000
  else if s.bit (0x8100 + l) 0x0A 3 then (s.tim p).heldBuffer else 0

/-- What a port's elastic buffer adds is kept as it stands (13 R343). -/
def State.holdBuffer (s : State) (p : Nat) : State := s.setTim p { s.tim p with heldBuffer := s.bufferDelay p }

/-- 2400h.08 as read: verniers and path, elastic buffer while syntonised, deskew of a bonded port, RS-FEC (R262, R263). -/
def State.internalRx (s : State) (p : Nat) : Int :=
  let l := s.timingLane p
  (s.trim l).delays.1 / 100 + (s.bufferDelay p : Int) +
    (if 5 ≤ s.mode p then ((s.port p).deskewPs : Int) else 0) + ((s.rsFec p).1 : Int)

/-- 2400h.09 as read (R262). -/
def State.internalTx (s : State) (p : Nat) : Int := (s.trim (s.sendingLane p)).delays.2 / 100 + ((s.rsFec p).2 : Int)

/-- A detector takes phases: each 256 of them make a measurement, and the latest is used (R264). -/
def DetectorX.measure (x : DetectorX) (phases : List Nat) : DetectorX :=
  phases.foldl (fun a v =>
    if a.taken = 255 then { a with latest := (a.sum + v) / 256, sum := 0, taken := 0 } else { a with sum := a.sum + v, taken := a.taken + 1 }) x

/-- A detector is connected to the lane that another has served: its averages begin anew, and until the first is complete the other's latest stands
(R264, R265; DESIGN CHOICE, log entry 109). -/
def DetectorX.connect (x other : DetectorX) : DetectorX := { x with taken := 0, sum := 0, latest := other.latest }

/-- A bit time of a port mode is 1,000 / rate ns, in 2^-16 ns times the bits counted (R261; log entry 109). -/
def bitUnits (mode bit : Nat) : Int := ((bit * 65536000 / modeRate mode : Nat) : Int)

/-- The detector that measures alongside the one that serves a lane: the spare before it takes over, the lane's own before it is handed back (R265). -/
def State.besideDetector (s : State) (l : Nat) : Option Nat :=
  let own := 5 * (l / 4) + l % 4
  match (s.detector own).phase with
  | 1 => some (5 * (l / 4) + 4)
  | 3 => some own
  | _ => none

/-- What a detector has measured is taken in. -/
def State.takePhases (s : State) (d : Nat) (phases : List Nat) : State := s.setDetector d ((s.detector d).measure phases)

/-- A frame start at a port on lane `l`: what the detector that serves the lane has measured is taken in, and what one alongside has, and the start
lies behind the replica's tick by the latest measurement and the place of its first bit, in 2^-16 ns (R261, R264). -/
def State.frameStart (s : State) (p l : Nat) (edge : StartEdge) : Int × State :=
  let s := match s.besideDetector l with
    | some d => s.takePhases d edge.beside
    | none => s
  let d := s.servingDetector l
  let s := s.takePhases d edge.phases
  (psUnits (s.detector d).latest + bitUnits (s.mode p) edge.bit, s)

/-- A raw receive timestamp referred to the reference plane, 2^-16 ns (R262). -/
def State.referReceive (s : State) (p : Nat) (raw : Int) : Int := raw - psUnits (s.internalRx p + s.reg (0x2400 + p) 0x06)

/-- A raw transmit timestamp referred to the reference plane (R262). -/
def State.referTransmit (s : State) (p : Nat) (raw : Int) : Int := raw + psUnits (s.internalTx p + s.reg (0x2400 + p) 0x07)

/-- The flags of a timestamp record of port `p` on time base `k` (R272); between a change-over and the next marker it is unverified (12
R324). -/
def State.stampFlags (s : State) (p k : Nat) (transmit : Bool) : Nat :=
  32 * k + 16 * ofBool transmit + 8 * ofBool (!s.portVerified p || (s.replica (p / 4)).rephase) + 4 * ofBool (s.nat (0x2100 + p) 0x03 == 2) +
    2 * ofBool (s.servo k == 4) + ofBool (!s.tbSet k)

/-- A timestamp record of 16 bytes (R272). -/
def stampRecord (t p flags epoch tag : Nat) : List Byte :=
  toBytes 6 (time80 t / 2 ^ 32) ++ toBytes 4 (time80 t % 2 ^ 32) ++ toBytes 2 (t % 65536) ++
    [BitVec.ofNat 8 p, BitVec.ofNat 8 flags, BitVec.ofNat 8 epoch, BitVec.ofNat 8 tag]

end Sys2Proof.Machine
end

