-- ==== Sys2Proof/Machine/Selection.lean ====
section
/-! DEFINITION. Reference slots and the nine selectors (11_references_and_holdover.md): qualification, quality, disputes,
candidacy, choice, pulling and holdover, judged together whenever something they rest on changes. -/

namespace Sys2Proof.Machine

/-! ## Slots -/

/-- The port of a slot's line, when its source is a line that names one (R288, R289). -/
def State.slotPort (s : State) (n : Nat) : Option Nat :=
  let src := s.nat (0x7000 + n) 0x01
  if 16 ≤ src ∧ src < 32 then
    let p := s.nat 0x7030 (src - 16 + 1)
    if p < 96 then some p else none
  else none

/-- The slot's source is a pin (R288). -/
def State.slotPin (s : State) (n : Nat) : Bool :=
  let src := s.nat (0x7000 + n) 0x01
  1 ≤ src && src ≤ 6

/-- The input is present: a pin with edges, or a line whose port is up and syntonised and whose recovered clock neither a lane that
is to leave syntonised mode disqualifies (03 R71) nor a fence: of the port, of its timestamp unit, or of the detector that its lane is
left without (R289, R290; 02 R33, log entry 19). -/
def State.slotInput (s : State) (n : Nat) : Bool :=
  if s.slotPin n then (s.slot n).pinPresent
  else match s.slotPort n with
    | some p => s.portSynt p && !s.portFenced p && !s.stampMissing p &&
        (items (modeLanes (s.mode p))).all (fun i => (s.lane (p + i)).modeChange != 1)
    | none => false

/-- The quality in force: the host's for pins and in QL mode 1, else what ESMC brought (R293). -/
def State.slotQl (s : State) (n : Nat) : Nat :=
  if s.slotPin n ∨ s.nat (0x7000 + n) 0x04 = 1 then s.nat (0x7000 + n) 0x05 else (s.slot n).esmc

/-- The conditions of R291 for frequency hold now. -/
def State.slotFit (s : State) (n : Nat) : Bool :=
  s.slotInput n && s.bit (0x7000 + n) 0x08 1 && !(s.slotQl n == 0 || s.slotQl n == 15) && !s.flag (0x7000 + n) 0x0E

/-- Qualified for frequency, disputed or not (R291, R308). -/
def State.slotQualified (s : State) (n : Nat) : Bool :=
  s.nat (0x7000 + n) 0x07 == 3 || s.nat (0x7000 + n) 0x07 == 4

/-- Frequency offsets of two slots differ by more than the dispute limit (R308). -/
def State.slotsDiffer (s : State) (a b : Nat) : Bool :=
  decide ((s.nat 0x7010 0x05 * 1000 : Int) < (s.reg (0x7000 + a) 0x09 - s.reg (0x7000 + b) 0x09).natAbs)

/-- Rank of a slot for frequency: quality, priority, number (R297). -/
def State.freqRank (s : State) (n : Nat) : Nat := (s.slotQl n * 256 + s.nat (0x7000 + n) 0x03) * 8 + n

/-- Equal quality and equal priority (R308). -/
def State.slotsLevel (s : State) (a b : Nat) : Bool := s.freqRank a / 8 == s.freqRank b / 8

/-- Whether the offset lies in the frequency window is judged, at a measurement and when the window has been written; leaving it is kept (R291,
R292, R312). -/
def State.judgeWindow (s : State) (n : Nat) : State :=
  let i := 0x7000 + n
  let within := (s.slot n).measured && decide ((s.reg i 0x09).natAbs ≤ s.nat i 0x0B * 1000)
  (if s.bit i 0x08 1 && !within then s.putBit i 0x08 3 true else s).putBit i 0x08 1 within

/-- A slot whose conditions fail loses its qualification at once; one whose conditions hold again starts its guard time (R291,
R292). Its source is raised whatever took the line, the loss of a lane PLL too: 03 R63 names the cluster's lanes and ports (DEDUCED, log entry 119). -/
def State.judgeSlot (s : State) (n : Nat) : State :=
  let i := 0x7000 + n
  let was := s.bit i 0x08 0
  let present := s.slotInput n
  let s := s.putBit i 0x08 0 present
  let s := if was && !present then ((s.putBit i 0x08 2 true).putBit i 0x08 1 false).setSlot n { s.slot n with measured := false } else s
  let ql := s.slotQl n
  let s := if (ql = 0 ∨ ql = 15) ∧ ¬ (s.nat i 0x06 = 0 ∨ s.nat i 0x06 = 15) then s.putBit i 0x08 4 true else s
  let s := s.setNat i 0x06 ql
  let st := s.nat i 0x07
  let lost := s.slotQualified n && !s.slotFit n
  let s := s.setNat i 0x07 (if s.nat i 0x01 = 0 then 0 else if !s.slotFit n then 1 else if st = 3 ∨ st = 4 then st else 2)
  if lost then s.raise (1168 + n) 0 else s

/-- Disputes begin between level, qualified slots that differ, and end when one is no longer qualified or they are no longer
level; agreement ends them by its own command (R308). -/
def State.judgeDispute (s : State) (a b : Nat) : State :=
  let stood := (s.slot a).disputes.testBit b
  let may := s.slotQualified a && s.slotQualified b && s.slotsLevel a b
  let on := may && (stood || s.slotsDiffer a b)
  if on = stood then s
  else
    let s := s.setSlot a { s.slot a with disputes := setBit (s.slot a).disputes b on }
    let s := s.setSlot b { s.slot b with disputes := setBit (s.slot b).disputes a on }
    if on then (s.putBit (0x7000 + a) 0x08 5 true).putBit (0x7000 + b) 0x08 5 true else s

/-- The best-ranked of some slots. -/
def bestOf (rank : Nat → Nat) : List Nat → Option Nat
  | [] => none
  | a :: r => match bestOf rank r with
    | none => some a
    | some b => if rank a ≤ rank b then some a else some b

/-- The third slot of a dispute between `a` and `b`: qualified and in no dispute (R308). -/
def State.thirdSlot (s : State) (a b : Nat) : Option Nat :=
  bestOf s.freqRank ((items 8).filter (fun c => c ≠ a && c ≠ b && s.slotQualified c && (s.slot c).disputes == 0))

/-- A dispute of `n` with `m`, neither of them current, is cleared on `n`: exactly one of the pair agrees with the third slot, and
it is `n` (R308). -/
def State.clearedOn (s : State) (n m : Nat) : Bool :=
  match s.thirdSlot n m with
  | none => false
  | some c => !s.slotsDiffer n c && s.slotsDiffer m c

/-- Slots `n` is in dispute with. -/
def State.opponents (s : State) (n : Nat) : List Nat := (items 8).filter (fun m => (s.slot n).disputes.testBit m)

/-- The slot is free to be ranked: current, or every dispute of it is cleared on it and none is with the current slot (R308,
R310). -/
def State.slotClear (s : State) (n : Nat) : Bool :=
  let cur := s.nat 0x7010 0x01
  n == cur || (s.opponents n).all (fun m => m ≠ cur && s.clearedOn n m)

/-- On which slot each dispute is cleared: while the slot is not current as the third slot has it, then as it was when the slot was chosen (R308). -/
def State.noteCleared (s : State) (n : Nat) : State :=
  let cur := s.nat 0x7010 0x01
  let x := s.slot n
  s.setSlot n { x with cleared := (items 8).foldl (fun v m => setBit v m (x.disputes.testBit m &&
    (if n = cur then x.cleared.testBit m else m != cur && s.clearedOn n m))) 0 }

/-- A dispute of which neither slot is current nor cleared stands; its better rank (R308). -/
def State.blockRank (s : State) : Option Nat :=
  let cur := s.nat 0x7010 0x01
  let open_ := (items 8).filter (fun n => n ≠ cur && (s.opponents n).any (fun m => m ≠ cur && !s.clearedOn n m && !s.clearedOn m n))
  (bestOf s.freqRank open_).map s.freqRank

/-- The slots the frequency selector may use (R297, R308). -/
def State.freqUsable (s : State) : List Nat :=
  (items 8).filter (fun n => s.slotQualified n && s.slotClear n &&
    match s.blockRank with
    | none => true
    | some r => decide (s.freqRank n < r))

/-- The choice of R297: forced; the best when revertive, when the present slot is lost or during a switch; else the present
one. -/
def chooseSlot (usable : List Nat) (rank : Nat → Nat) (current force : Nat) (revertive switching : Bool) : Option Nat :=
  if force < 8 then (if usable.contains force then some force else none)
  else if !revertive && !switching && usable.contains current then some current
  else bestOf rank usable

/-! ## Means -/

/-- Sum of value × time and of time over a span, from a record of changes newest first. -/
def weighted : List (Nat × Int) → Nat → Nat → Int × Nat
  | [], _, _ => (0, 0)
  | (t, v) :: r, lo, hi =>
    if hi ≤ lo then (0, 0)
    else
      let a := max t lo
      if a < hi then
        let w := weighted r lo a
        (w.1 + v * ((hi - a : Nat) : Int), w.2 + (hi - a))
      else weighted r lo hi

/-- Sum of value × time and of time over the newest `left` ns of a record's locked time before an instant (R303). -/
def lockedSpan : List (Nat × Option Int) → Nat → Nat → Int × Nat
  | [], _, _ => (0, 0)
  | (t, v) :: r, hi, left =>
    match v with
    | some v =>
      let d := min left (hi - t)
      let w := lockedSpan r (min hi t) (left - d)
      (w.1 + v * (d : Int), w.2 + d)
    | none => lockedSpan r (min hi t) left

/-- The time-weighted mean over a span; `d` where nothing is recorded. -/
def meanOver (log : List (Nat × Int)) (lo hi : Nat) (d : Int) : Int :=
  let w := weighted log lo hi
  if w.2 = 0 then d else w.1 / (w.2 : Int)

/-- Least-squares slope of offsets in 2^-16 ns over ns, in ppt; 0 without two instants (R301). -/
def slopePpt (l : List (Nat × Int)) : Int :=
  let n : Int := l.length
  let sx := l.foldl (fun a e => a + (e.1 : Int)) 0
  let sy := l.foldl (fun a e => a + e.2) 0
  let sxx := l.foldl (fun a e => a + (e.1 : Int) * e.1) 0
  let sxy := l.foldl (fun a e => a + (e.1 : Int) * e.2) 0
  let den := n * sxx - sx * sx
  if den = 0 then 0 else (n * sxy - sx * sy) * 10 ^ 12 / (den * 65536)

/-! ## The frequency selector -/

/-- The member that the syntony term is measured against: the working member of pair 0 while it is locked, else that of the lowest pair whose
working member is locked (12 R324, R326). -/
def State.syntonyMember (s : State) : Nat :=
  let working := fun (n : Nat) => s.nat (0x7050 + n) 0x03
  (((items 4).map working).find? (fun k => s.bit (0x7040 + k) 0x02 1)).getD (working 0)

/-- The syntony term of every time base is measured (R225). -/
def State.measureSyntony (s : State) : State :=
  let v := s.conditioned s.syntonyMember
  (items 8).foldl (fun a k => a.setTb k { a.tb k with syntony := v }) s

/-- The pairs take a frequency, which the syntony terms follow (R225, R303). -/
def State.setFrequency (s : State) (ppt : Int) : State := { s with frequency := ppt }.measureSyntony

/-- The frequency moves toward a new reference at no more than the slew limit, and how long it has stayed within 100 ppt of it is kept (R300). -/
def State.pull (s : State) (target : Int) : State :=
  let limit := s.nat 0x7010 0x06
  let most : Int := ((limit * (s.now - s.freqMovedAt) / 1000000000 : Nat) : Int)
  let d := target - s.frequency
  let far := decide (most < d.natAbs)
  let s := s.setFrequency (s.frequency + max (-most) (min most d))
  let near := decide ((target - s.frequency).natAbs < 100)
  { s with
    freqMovedAt := if far then s.freqMovedAt + most.toNat * 1000000000 / limit else s.now
    freqNear := if near then some (s.freqNear.getD s.now) else none }

/-- Entry to holdover: the mean over the averaging time that ends 2 s before, of what there is from 10 s on; less than that
leaves the last holdover value, or after a cold start the free-run trim (R303). -/
def State.freqHoldover (s : State) : State :=
  let avg := s.nat 0x7010 0x07 * 1000000000
  let behind := (lockedSpan s.freqLog s.now avg).2
  let w := lockedSpan s.freqLog (s.now - 2000000000) avg
  let s := { s with freqSwitching := false }
  let s := (s.setNat 0x7010 0x01 0xFF).setNat 0x7010 0x02 4
  if avg ≤ behind ∨ 10000000000 ≤ behind then
    let v := if w.2 = 0 then s.frequency else w.1 / (w.2 : Int)
    let s := (s.setReg 0x7010 0x08 v).setNat 0x7010 0x09 (ofBool (decide (avg ≤ behind)))
    { s with freqHeld := true, freqLog := [] }.setFrequency v
  else
    let s := { s with freqLog := [] }
    s.setFrequency (if s.freqHeld then s.reg 0x7010 0x08 else s.reg 0x7010 0x0D)

/-- The QL to be sent on ports other than the source port (R294). -/
def State.qlToSend (s : State) : Nat :=
  let st := s.nat 0x7010 0x02
  if (st = 2 ∨ st = 3) ∧ s.nat 0x7010 0x01 < 8 then s.slotQl (s.nat 0x7010 0x01) else s.nat 0x7010 0x0A

/-- The frequency selector makes its choice (R297, R298, R307). -/
def State.freqSelect (s : State) : State :=
  let cur := s.nat 0x7010 0x01
  let st := s.nat 0x7010 0x02
  let s := match chooseSlot s.freqUsable s.freqRank cur (s.nat 0x7010 0x04) (s.flag 0x7010 0x03) s.freqSwitching with
    | none => if st = 2 ∨ st = 3 then s.freqHoldover else s
    | some n =>
      if n = cur then s
      else
        let s := ((s.setNat 0x7010 0x01 n).setNat 0x7010 0x02 3).inc32 0x7010 0x0C
        { s with freqSwitching := true, freqLog := if st = 2 then (s.now, none) :: s.freqLog else s.freqLog, freqMovedAt := s.now, freqNear := none }
  s.setNat 0x7010 0x0B s.qlToSend

/-- Some dispute of slot `n` is not cleared on it: on the chosen slot as it was at the choice, on any other as the third slot has it (R308). -/
def State.disputeOpen (s : State) (n : Nat) : Bool :=
  let cur := s.nat 0x7010 0x01
  (s.opponents n).any (fun m => if n = cur then !(s.slot n).cleared.testBit m else m == cur || !s.clearedOn n m)

/-- Show the disputes: state 4 where one is not cleared (R308). -/
def State.showDispute (s : State) (n : Nat) : State :=
  if s.slotQualified n then s.setNat (0x7000 + n) 0x07 (if s.disputeOpen n then 4 else 3) else s

/-! ## The time selectors -/

/-- The step threshold of a time base in 2^-16 ns (R233). -/
def State.threshold (s : State) (k : Nat) : Nat := s.nat (0x6000 + k) 0x0C * 65536

/-- 7020h.(10h + slot): 0 none, 1 qualifying, 2 candidate, 3 held, 4 exempt candidate (R314). -/
def State.candidacy (s : State) (k n : Nat) : Nat := s.nat (0x7020 + k) (0x10 + n)

/-- The slot is a 1 Hz pin for this time base (R295). -/
def State.pulseSlot (s : State) (k n : Nat) : Bool :=
  s.slotPin n && s.nat (0x7000 + n) 0x02 == 1 && s.nat (0x7000 + n) 0x0D == k

/-- The time quality of a slot for a time base: the firmware's key for a port slot, the host's for a pin (R296). -/
def State.timeQuality (s : State) (k n : Nat) : Nat :=
  if s.slotPin n then s.nat (0x7000 + n) 0x0F else s.nat (0x7020 + k) (0x20 + n)

/-- The conditions of R295 hold now. A quality key other than all-ones is the firmware's report of an accepted master (log entry
11). No slot steers a time base without an enabled binding (09 R226). -/
def State.candidateFit (s : State) (k n : Nat) : Bool :=
  !s.flag (0x7000 + n) 0x0E && s.flag (0x6000 + k) 0x03 &&
  (if s.slotPin n then s.pulseSlot k n && (s.slot n).pinPresent && s.tbSet k
  else match s.slotPort n with
    | none => false
    | some p => s.portSynt p && s.portVerified p && (s.slot n).fresh.testBit k &&
        decide (s.nat (0x7020 + k) (0x20 + n) ≠ 0xFFFFFFFF))

/-- A slot whose conditions fail is no candidate; one whose conditions hold again starts its guard time (R295). -/
def State.judgeCandidate (s : State) (k n : Nat) : State :=
  let c := s.candidacy k n
  if s.candidateFit k n then (if c = 0 then s.setNat (0x7020 + k) (0x10 + n) 1 else s)
  else if c = 0 then s else s.setNat (0x7020 + k) (0x10 + n) 0

/-- The candidates a time selector may use (R297, R306). -/
def State.timeUsable (s : State) (k : Nat) : List Nat :=
  (items 8).filter (fun n => s.candidacy k n == 2 || s.candidacy k n == 4)

/-- Rank of a slot for time: quality key, priority, number (R297). -/
def State.timeRank (s : State) (k n : Nat) : Nat := (s.timeQuality k n * 256 + s.nat (0x7000 + n) 0x03) * 8 + n

/-- y of R301 from the offsets kept: the steering offset in force minus their slope. -/
def State.estimate (s : State) (k : Nat) : Int := (s.tb k).steering - slopePpt (s.tb k).offsets

/-- The steering offset in force while the selector has a slot: the written value within the slope limit about y (R301). -/
def clampSteering (written y limit : Int) : Int := min (max written (y - limit)) (y + limit)

/-- Apply the written steering offset under R301, with the y that 7020h.08 shows. -/
def State.applySteering (s : State) (k : Nat) : State :=
  let w := s.reg (0x6000 + k) 0x0F
  if s.tbFollows k then s.setSteering k (clampSteering w (s.reg (0x7020 + k) 0x08) (s.nat (0x7020 + k) 0x01))
  else if s.servo k = 4 then s
  else s.setSteering k w

/-- Entry of a time selector to holdover: the steering offset is fixed at its mean (R304). -/
def State.timeHoldover (s : State) (k : Nat) : State :=
  let avg := s.nat (0x7020 + k) 0x09 * 1000000000
  let hi := s.now - 2000000000
  let v := meanOver (s.tb k).steerLog (hi - avg) hi (s.tb k).steering
  let s := (s.setNat (0x7020 + k) 0x04 0xFF).setReg (0x7020 + k) 0x0A v
  let s := s.setTb k { s.tb k with inside := 0, outside := 0, switching := false, offsets := [] }
  (s.setSteering k v).setServo k 4

/-- The slot's offset lies beyond the step threshold, as measured since the time base last jumped (R306; 09 R252). -/
def State.offsetBeyond (s : State) (k n : Nat) : Bool :=
  (s.slot n).seen.testBit k && decide (s.threshold k < (s.reg (0x7020 + k) (0x18 + n)).natAbs)

/-- The choice among the candidates: one that would be chosen and lies beyond the threshold, not exempt, is held, and the choice goes on (R297,
R306). -/
def State.chooseTime (s : State) (k : Nat) : Nat → State × Option Nat
  | 0 => (s, none)
  | m + 1 =>
    match chooseSlot (s.timeUsable k) (s.timeRank k) (s.nat (0x7020 + k) 0x04) (s.nat (0x7020 + k) 0x06) (s.flag (0x7020 + k) 0x05)
        (s.tb k).switching with
    | none => (s, none)
    | some n =>
      if s.candidacy k n = 2 ∧ s.offsetBeyond k n then (s.setNat (0x7020 + k) (0x10 + n) 3).chooseTime k m else (s, some n)

/-- A time selector makes its choice (R297, R298, R307), and the steering written is in force within the slope limit (R301); an unset time base
chooses nothing (R299). -/
def State.timeSelect (s : State) (k : Nat) : State :=
  let st := s.servo k
  let cur := s.nat (0x7020 + k) 0x04
  if st = 0 then s
  else
    let (s, chosen) := s.chooseTime k 9
    match chosen with
    | none => if st = 2 ∨ st = 3 then s.timeHoldover k else s
    | some n =>
      if n = cur then s
      else
        let s := (s.setNat (0x7020 + k) 0x04 n).inc32 (0x7020 + k) 0x0C
        let s := s.setTb k { s.tb k with inside := 0, outside := 0, switching := true, offsets := [] }
        ((s.setReg (0x7020 + k) 0x08 (s.tb k).steering).setServo k 3).applySteering k

/-- An asymmetry calibration ends when its time base no longer follows a reference (10 R279). -/
def State.judgeAsymmetry (s : State) (p : Nat) : State :=
  if (s.tim p).calibrating && !s.tbFollows (s.nat (0x2400 + p) 0x12) then s.abandonAsymmetry p else s

/-- Judge every slot, dispute and selector against the state as it now stands: a new choice takes effect in the cycle in which it
is made (R292, R297, R308). -/
def State.refsUpdate (s : State) : State :=
  let s := (items 8).foldl (fun a n => a.judgeSlot n) s
  let s := (items 8).foldl (fun a n => (items n).foldl (fun b m => b.judgeDispute m n) a) s
  let s := ((items 8).foldl State.noteCleared s).freqSelect
  let s := (items 8).foldl (fun a n => a.showDispute n) s
  let s := (items 8).foldl (fun a k => ((items 8).foldl (fun b n => b.judgeCandidate k n) a).timeSelect k) s
  (items 96).foldl (fun a p => a.judgeAsymmetry p) s

/-- An offset of the chosen slot, which stays usable, enters the estimate y, and the steering in force follows it (R301). -/
def State.feedEstimate (s : State) (k n : Nat) (offset : Int) : State :=
  if s.nat (0x7020 + k) 0x04 ≠ n ∨ !s.tbFollows k ∨ !(s.timeUsable k).contains n then s
  else
    let lo := s.now - s.nat (0x7020 + k) 0x07 * 1000000000
    let s := s.setTb k { s.tb k with offsets := ((s.now, offset) :: (s.tb k).offsets).filter (fun e => decide (lo ≤ e.1)) }
    (s.setReg (0x7020 + k) 0x08 (s.estimate k)).applySteering k

/-- An offset of a slot against a time base has arrived: freshness, the holds of R306 and the estimate of R301. An exemption ends at the first
offset within the threshold; a chosen slot beyond it is held; a held slot within it is a candidate at once. -/
def State.slotOffsetSeen (s : State) (k n : Nat) (offset : Int) : State :=
  let s := s.setReg (0x7020 + k) (0x18 + n) offset
  let s := s.setSlot n { s.slot n with fresh := setBit (s.slot n).fresh k true, seen := setBit (s.slot n).seen k true }
  let within := decide (offset.natAbs ≤ s.threshold k)
  let c := s.candidacy k n
  let s := if (c = 3 ∨ c = 4) ∧ within then s.setNat (0x7020 + k) (0x10 + n) 2
    else if c = 2 ∧ ¬ within ∧ s.nat (0x7020 + k) 0x04 = n then s.setNat (0x7020 + k) (0x10 + n) 3
    else s
  s.feedEstimate k n offset

end Sys2Proof.Machine
end

