-- ==== Sys2Proof/Machine/Access.lean ====
section
/-! DEFINITION. What a host's write passes before it acts: the server serves, the role is enough, and the entry is not a mirrored
one on a shadow in step (16 R408, R421, R423, R424; 14 R363). -/

namespace Sys2Proof.Machine

/-- The entries that the lead mirrors to the shadow (14 R363). The arming of a compare is an act at a time of its own device's time base and none of its
settings (DESIGN CHOICE, log entry 124). -/
def mirrored (idx sub : Nat) : Bool :=
  if idx = 0x3000 then sub == 0x01 || sub == 0x06 || sub == 0x0A
  else if 0x3010 ≤ idx ∧ idx < 0x3060 then true
  else if 0x3070 ≤ idx ∧ idx < 0x3160 then
    match findEntry idx sub with
    | some e => e.acc == .rw
    | none => false
  else if 0x4000 ≤ idx ∧ idx < 0x5000 then
    match findEntry idx sub with
    | some e => e.acc == .rw
    | none => false
  else if idx = 0x5000 then sub == 0x01
  else if idx = 0x5010 then true
  else if 0x6000 ≤ idx ∧ idx < 0x6008 then
    sub == 0x01 || sub == 0x02 || sub == 0x03 || sub == 0x0C || sub == 0x10 || sub == 0x11
  else if 0x6100 ≤ idx ∧ idx < 0x6310 then
    match findEntry idx sub with
    | some e => e.acc == .rw && !(decide (idx < 0x6120) && sub == 0x08)
    | none => false
  else if idx = 0xA100 then true
  else if idx = 0xD000 then sub == 0x05 || sub == 0x07 || sub == 0x08 || sub == 0x14
  else false

/-- A shadow whose mirror is in step (16 R424). -/
def State.shadowInStep (s : State) : Bool := s.nat 0x9000 0x01 == 2 && s.nat 0x9000 0x0C == 2

/-- The server serves host writes: it runs, and the device is not in SAFE (16 R423). -/
def State.served (s : State) : Bool := s.start.server && !s.isSafe

/-- A host's write to an entry: the status and detail with which it is refused before its value is looked at, if it is. -/
def State.writeBar (s : State) (role need : Role) (idx sub : Nat) : Option (Nat × Nat) :=
  if !s.served then some (0x14, s.runState)
  else if !roleCovers role need then some (0x04, 0)
  else if mirrored idx sub && s.shadowInStep then some (0x04, 1)
  else none

/-- The role that a write to an entry needs: the range's own or the higher one its Meaning names (16 R408). -/
def needRole (idx sub : Nat) : Role :=
  match findEntry idx sub with
  | none => writeRole idx
  | some e => if (writeRole idx).code < e.role.code then e.role else writeRole idx

/-- A host's write that is a command of its own: refused with a status and no effect, or it acts and is answered. -/
def State.hostWrite (s : State) (role : Role) (idx sub : Nat) (act : State → State) : State :=
  match s.writeBar role (needRole idx sub) idx sub with
  | some (c, d) => s.answer c d
  | none => act s

/-- The act of a host's write succeeds. -/
def State.done (s : State) : State := s.answer 0 0

/-- The act is refused by a rule at commit (16 R421 code 09h). -/
def State.ruleRefused (s : State) (reason : Nat) : State := s.answer 0x09 reason

/-- The value is out of range (16 R421 code 08h). -/
def State.outOfRange (s : State) (sub : Nat) : State := s.answer 0x08 sub

end Sys2Proof.Machine
end

