-- ==== Sys2Proof/Machine/References.lean ====
section
/-! DEFINITION. The commands of reference selection and holdover (11_references_and_holdover.md). -/

namespace Sys2Proof.Machine

open Host (Outcome)

/-- The quality code of an ESMC message: the pair of SSM and enhanced SSM must match a row of R293; anything else is DNU. -/
def qualityOf (ssm : Nat) (essm : Option Nat) : Nat :=
  match essm with
  | some 0x21 => if ssm = 0x2 then 1 else 15
  | some 0x20 => if ssm = 0x2 then 2 else 15
  | some 0x23 => if ssm = 0x2 then 3 else 15
  | some 0x22 => if ssm = 0xB then 7 else 15
  | some 0xFF => plain ssm
  | some _ => 15
  | none => plain ssm
where
  /-- The rows whose enhanced column reads "FFh, or no TLV". -/
  plain (ssm : Nat) : Nat :=
    if ssm = 0x2 then 4 else if ssm = 0x4 then 5 else if ssm = 0x8 then 6 else if ssm = 0xB then 8 else 15

/-- SLOT_GUARD_EXPIRY: the conditions of R291 have held for the guard time: the slot is qualified for frequency. -/
def execSlotGuardExpiry (n : SlotId) (s : State) : Outcome State Fault Refusal :=
  .next (if s.nat (0x7000 + n) 0x07 = 2 ∧ s.slotFit n then (s.setNat (0x7000 + n) 0x07 3).refsUpdate else s)

/-- DISPUTE_END: two disputed slots have agreed within the limit for the guard time (R308). -/
def execDisputeEnd (a b : SlotId) (s : State) : Outcome State Fault Refusal :=
  .next (
    if (s.slot a).disputes.testBit b ∧ s.slotsDiffer a b = false then
      let s := s.setSlot a { s.slot a with disputes := setBit (s.slot a).disputes b false }
      let s := s.setSlot b { s.slot b with disputes := setBit (s.slot b).disputes a false }
      s.refsUpdate
    else s)

/-- The conditions of R295 have held for the guard time: a candidate, or held when its offset is then beyond the step threshold (R306); an unset time
base has no offset to judge (R299; log entry 29). -/
def State.guardOver (s : State) (k n : Nat) : State :=
  (s.setNat (0x7020 + k) (0x10 + n) (if s.tbSet k && s.offsetBeyond k n then 3 else 2)).refsUpdate

/-- PHASE_ACCEPT: a held slot becomes an exempt candidate at once; refused for a slot that is not held (R306, R310). -/
def execPhaseAccept (role : Role) (tb : TbId) (n : SlotId) (s : State) : Outcome State Fault Refusal :=
  .next (s.hostWrite role (0x7020 + tb) 0x0B fun s =>
    if s.candidacy tb n = 3 then ((s.setNat (0x7020 + tb) (0x10 + n) 4).refsUpdate).done else s.ruleRefused 0)

/-- PIN_INPUT_LOSS: no edge for 3 nominal periods, or 1.5 s at 1 Hz (R290, R292). -/
def execPinInputLoss (n : SlotId) (s : State) : Outcome State Fault Refusal :=
  .next (if s.slotPin n then (s.setSlot n { s.slot n with pinPresent := false }).refsUpdate else s)

/-- ESMC_RECEIVE: the quality of every slot whose line carries the port (R293). -/
def execEsmcReceive (p : PortId) (ssm : BitVec 4) (essm : Option (BitVec 8)) (s : State) : Outcome State Fault Refusal :=
  .next (
    if !s.portUp p then s
    else
      let ql := qualityOf ssm.toNat (essm.map (·.toNat))
      ((items 8).foldl (fun a n =>
        if a.slotPort n = some p.val then a.setSlot n { a.slot n with esmc := ql } else a) s).refsUpdate)

/-- ESMC_TIMEOUT: no information PDU for 5 s: the quality is failed (R293). -/
def execEsmcTimeout (n : SlotId) (s : State) : Outcome State Fault Refusal :=
  .next (if (s.slotPort n).isSome then (s.setSlot n { s.slot n with esmc := 0 }).refsUpdate else s)

/-- The QL a port sends: DNU where its line feeds the selected frequency slot (R294). -/
def State.portQl (s : State) (p : Nat) : Nat :=
  let sel := s.nat 0x7010 0x01
  if sel < 8 ∧ s.slotPort sel = some p then 15 else s.nat 0x7010 0x0B

/-- ESMC_SEND: one information PDU on every port that is up; it is an event PDU where the QL has changed (R294). -/
def execEsmcSend (s : State) : Outcome State Fault Refusal :=
  .next { s with esmcOut := ((items 96).filter (fun p => s.portUp p)).map (fun p =>
    (p, s.portQl p, s.esmcOut.any (fun e => e.1 == p && e.2.1 != s.portQl p))) }

/-- FREQUENCY_LOCK: the difference has stayed below 100 ppt for 1 s: the selector is locked, and pair 0's frequency is averaged from here on (R300,
R303). -/
def execFrequencyLock (s : State) : Outcome State Fault Refusal :=
  .next (
    let sel := s.nat 0x7010 0x01
    let stayed : Bool := match s.freqNear with
      | none => false
      | some t => decide (t + 1000000000 ≤ s.now)
    if s.nat 0x7010 0x02 = 3 ∧ sel < 8 ∧ stayed then
      let s := { s with freqSwitching := false, freqLog := (s.now, some (s.tb 0).syntony) :: s.freqLog }
      (s.setNat 0x7010 0x02 2).refsUpdate
    else s)

/-- The frequency of the pairs follows an offset of the chosen slot: while pulling within the slew limit, while locked at once, and then it enters
the record that holdover averages (R300, R303). -/
def State.followSlot (s : State) (n : Nat) (v : Int) : State :=
  if s.nat 0x7010 0x01 ≠ n then s
  else if s.nat 0x7010 0x02 = 3 then s.pull v
  else if s.nat 0x7010 0x02 = 2 then
    let s := s.setFrequency v
    { s with freqLog := (s.now, some (s.tb 0).syntony) :: s.freqLog }
  else s

/-- FREQUENCY_OFFSET_MEASUREMENT: 1,000 phases of a slot against the hub PLL, in 2^-16 ns and 1 ms apart, oldest first: their slope is its offset,
with its window and what rests on it (R288, R291, R300, R303). -/
def execFrequencyOffsetMeasurement (n : SlotId) (phases : List Int) (s : State) : Outcome State Fault Refusal :=
  .next (
    let i := 0x7000 + n.val
    if !s.slotInput n ∨ phases.length ≠ 1000 then s
    else
      let v := max (-2147483648) (min 2147483647 (slopePpt (phases.mapIdx (fun j x => (1000000 * j, x)))))
      let s := (s.setReg i 0x09 v).setSlot n { s.slot n with measured := true }
      ((s.judgeWindow n).refsUpdate).followSlot n v)

/-- The phase of a time base within its second at an instant so many ps ago, less a delay, in whole ps from half a second before to half a second
after (R290; a step or set since then left out). -/
def State.pulsePhase (s : State) (k agePs : Nat) (delayPs : Int) : Int :=
  let (jump, _, _) := s.jumpAfter k ((s.now : Int) * 1000 - agePs)
  let age := (agePs : Int) * (10 ^ 12 + s.rate k) / 10 ^ 12
  let v := (((s.tbNow k : Int) - jump) * 1000 / 65536 - age - delayPs + 500000000000) % 1000000000000
  v - 500000000000

/-- REFERENCE_PIN_EDGE: an edge of REFIN so many ps ago: the input is present, and a 1 Hz pin measures its phase, less the input delay, against
its time base (R288, R290). -/
def execReferencePinEdge (pin : Fin 6) (agePs : Nat) (s : State) : Outcome State Fault Refusal :=
  .next ((items 8).foldl (fun a n =>
    if a.nat (0x7000 + n) 0x01 ≠ pin.val + 1 then a
    else
      let a := a.setSlot n { a.slot n with pinPresent := true }
      let k := a.nat (0x7000 + n) 0x0D
      if a.nat (0x7000 + n) 0x02 = 1 ∧ k < 8 then
        a.slotOffsetSeen k n (psUnits (a.pulsePhase k agePs (a.reg (0x7000 + n) 0x0C)))
      else a) s).refsUpdate

/-- SLOT_OFFSET_TIMEOUT: no offset of the time base against the slot for 2 s (R295). -/
def execSlotOffsetTimeout (n : SlotId) (tb : TbId) (s : State) : Outcome State Fault Refusal :=
  .next ((s.setSlot n { s.slot n with fresh := setBit (s.slot n).fresh tb false }).refsUpdate)

end Sys2Proof.Machine
end

