-- ==== Sys2Proof/Machine/Cells.lean ====
section
/-! DEFINITION. A fabric cell as bits: the result descriptor (05_forwarding.md R132), the contract tag (08_contracted_delivery.md R210) and the
header in the sideband of its two beats (06_cyclic_fabric.md R158). -/

namespace Sys2Proof.Machine

/-- The 224 bits of a result descriptor (05 R132). -/
def Descriptor.bits (d : Descriptor) : Nat :=
  d.kind % 4 * 2 ^ 222 + d.destination % 4096 * 2 ^ 210 + d.untag % 4096 * 2 ^ 198 + d.ingress % 128 * 2 ^ 191 + d.vid % 4096 * 2 ^ 179 +
    d.priority % 8 * 2 ^ 176 + d.queue % 32 * 2 ^ 171 + ofBool d.queueSet * 2 ^ 170 + ofBool d.contracted * 2 ^ 169 +
    d.contract % 16384 * 2 ^ 155 + ofBool d.streamValid * 2 ^ 154 + d.stream % 16384 * 2 ^ 140 + d.frer % 4 * 2 ^ 138 +
    d.frerFunction % 4096 * 2 ^ 126 + ofBool d.cutThrough * 2 ^ 125 + ofBool d.timing * 2 ^ 124 +
    (items 6).foldl (fun n t => n + d.gens.getD t 0 % 65536 * 2 ^ (80 - 16 * t)) 0

/-- The 8 bytes of a contract tag (08 R210). -/
def Tag.bytes (t : Tag) : List Byte :=
  toBytes 8 (t.deadline.toNat % 2 ^ 20 * 2 ^ 44 + t.release.toNat % 2 ^ 20 * 2 ^ 24 + t.occurrence % 4096 * 2 ^ 12)

/-- What a cell carries: the contract tag in front of the first cell of a contracted frame, then the frame's bytes (08 R210). -/
def Cell.content (x : Cell) : List Byte := (x.tag.map Tag.bytes).getD [] ++ x.payload

/-- Payload bytes minus 1; 255 in every cell but the last; the tag counts (06 R158, 08 R210). -/
def Cell.lastBytes (x : Cell) : Nat := if x.last then (x.content.length - 1) % 256 else 255

/-- CRC-32 of the 256 payload bytes (06 R158). -/
def Cell.payloadCrc (x : Cell) : Nat := crc32 ((x.content ++ List.replicate 256 0).take 256)

/-- Bits 351:10 of the header (06 R158). The descriptor stands in the first cell alone; an idle cell carries only credit_return, backlog and
resync. -/
def Cell.headerFields (x : Cell) : Nat :=
  let common := x.creditReturn % 256 * 2 ^ 19 + x.backlog % 16 * 2 ^ 15 + ofBool x.resync * 2 ^ 14
  if !x.valid then common
  else
    ((x.desc.map Descriptor.bits).getD 0) * 2 ^ 128 + x.payloadCrc % 2 ^ 32 * 2 ^ 96 + 2 ^ 95 + ofBool x.first * 2 ^ 94 + ofBool x.last * 2 ^ 93 +
      ofBool x.badTail * 2 ^ 92 + ofBool x.void * 2 ^ 91 + ofBool x.contracted * 2 ^ 90 + x.source % 8 * 2 ^ 87 + x.destination % 8 * 2 ^ 84 +
      x.via % 8 * 2 ^ 81 + x.epoch % 4 * 2 ^ 79 + x.sequence % 4096 * 2 ^ 67 + x.lastBytes * 2 ^ 59 + x.port % 128 * 2 ^ 52 +
      x.number % 512 * 2 ^ 43 + x.fillCycle % 65536 * 2 ^ 27 + common

/-- The 352 bits of a cell header: its fields and their SECDED check bits (06 R158). -/
def Cell.header (x : Cell) : Nat := x.headerFields + (Config.headerCheck x.headerFields).val

end Sys2Proof.Machine
end

