-- ==== Sys2Proof/Machine/Flags.lean ====
section
/-! DEFINITION. Live and sticky bits that several commands share: watermarks (07 R194, R195) and the status views of queues and
pools. -/

namespace Sys2Proof.Machine

/-- The watermark rule on the status in (i, st), with its crossing count in (i, cnt), for region `g`: the live bit sets at the
threshold and clears below threshold minus hysteresis; each rise sets the sticky bit, counts, and raises the event (R194). -/
def State.watermark (s : State) (i st cnt occupancy threshold hysteresis g : Nat) : State :=
  if !s.bit i st 0 && decide (threshold ≤ occupancy) then
    (((s.putBit i st 0 true).putBit i st 1 true).inc32 i cnt).raise (768 + 32 * g + 16) 0
  else if s.bit i st 0 && decide (occupancy + hysteresis < threshold) then s.putBit i st 0 false
  else s

/-- Index of queue `q` of port `p` in the dictionary (R204). -/
abbrev queueIndex (p q : Nat) : Nat := 0x4100 + 32 * p + q

/-- Cells of a queue: every port copy counts its cells (R180). -/
def QueueX.occupancy (x : QueueX) : Nat := x.copies.foldl (fun n c => n + c.cells.length) 0

/-- After a change of a queue: occupancy, copies held, peak and watermark follow it (R194, R204). -/
def State.judgeQueue (s : State) (p q : Nat) : State :=
  let i := queueIndex p q
  let x := s.queue p q
  let n := x.occupancy
  let s := ((s.setNat i 0x01 n).setNat i 0x02 x.copies.length).setNat i 0x0F (max (s.nat i 0x0F) n)
  s.watermark i 0x07 0x08 n (s.nat i 0x05) (s.nat i 0x06) (p / 12)

/-- Queue status as read: held and gate_open follow the port (R195). -/
def State.queueStatus (s : State) (p q : Nat) : Nat :=
  let up := s.nat (0x2100 + p) 0x03 == 1 || s.nat (0x2100 + p) 0x03 == 2
  setBit (setBit (s.nat (queueIndex p q) 0x07) 5 (s.gateOpen p q)) 6 (!up && !(s.queue p q).copies.isEmpty)

end Sys2Proof.Machine
end

