-- ==== Sys2Proof/Machine/Buffers.lean ====
section
/-! DEFINITION. Buffer slices, pools and egress queues (07_buffers_and_queues.md R178 to R188, R196 to R201), the fabric cycle's
number (06 R154), and bound breaches (08 R219, R220). -/

namespace Sys2Proof.Machine

/-! ## The fabric cycle on TB0 -/

/-- The cycle number: TB0 in units of 12.8 ns (06 R154). -/
def State.cycleNumber (s : State) : Nat := s.tbNow 0 * 10 / 8388608

/-- The start of a cycle, TB0 in 2^-16 ns. -/
def cycleStart (n : Nat) : Nat := n * 8388608 / 10

/-- The cycle number within the current second: 3800h.01 as read. -/
def State.cycleInSecond (s : State) : Nat := s.cycleNumber % 78125000

/-- The fabric runs (01 R25). -/
def State.fabricRuns (s : State) : Bool := s.start.fabric && (s.tb 0).running

/-! ## Pools -/

/-- Size of pool `k` of region `g` (R178). -/
def State.poolSize (s : State) (g k : Nat) : Nat := s.nat (0x4000 + g) (2 + k)

/-- Entry `k` of a list of four. -/
def listAdd (l : List Nat) (k n : Nat) : List Nat := l.set k (l.getD k 0 + n)

/-- Free cells of pool `k`. -/
def State.poolFree (s : State) (g k : Nat) : Nat :=
  s.poolSize g k - ((s.region g).used.getD k 0 + (s.region g).withdrawn.getD k 0)

/-- Free cells of the slice: 4000h.01 as read. -/
def State.freeCells (s : State) (g : Nat) : Nat := s.poolFree g 0 + s.poolFree g 1 + s.poolFree g 2 + s.poolFree g 3

/-- The shared pool's watermark follows its occupancy (R194). -/
def State.judgePool (s : State) (g : Nat) : State :=
  let i := 0x4000 + g
  s.watermark i 0x09 0x0A ((s.region g).used.getD 3 0) (s.nat i 0x08) (s.nat i 0x10) g

/-- Change how many cells of pool `k` are used. -/
def State.usePool (s : State) (g k n : Nat) : State :=
  let r := s.region g
  let s := s.setRegion g { r with used := r.used.set k n }
  if k = 3 then s.judgePool g else s

/-- Draw one cell from the first pool of a list that has one free (R179). -/
def State.drawCell (s : State) (g : Nat) : List Nat → Option (Nat × State)
  | [] => none
  | k :: r => if 0 < s.poolFree g k then some (k, s.usePool g k ((s.region g).used.getD k 0 + 1)) else s.drawCell g r

/-- Return a cell to the pool it was drawn from (R179). -/
def State.returnCell (s : State) (g k : Nat) : State :=
  if k < 4 then s.usePool g k ((s.region g).used.getD k 0 - 1) else s

/-- The pools of an ingress cell (R179). -/
def ingressPools (contracted : Bool) : List Nat := if contracted then [1, 0] else [0]

/-- The pools of an egress cell bound for queue `q`; 32 = the host queue (R179). -/
def egressPools (q : Nat) : List Nat :=
  if 24 ≤ q ∧ q < 30 then [1, 3] else if 30 ≤ q then [2, 3] else [3]

/-! ## Copies -/

/-- The bytes held of a copy, without the FCS once it is complete. -/
def Copy.body (c : Copy) : List Byte :=
  let all := (c.cells.map (·.payload)).flatten
  if c.complete then all.take (all.length - 4) else all

/-- How many of the copy's cells lie in places with an uncorrectable error that no reader has met yet (R183). -/
def Copy.spoiltCells (c : Copy) : Nat := (c.cells.filter (·.spoilt)).length

/-- The copy with its errors counted. -/
def Copy.counted (c : Copy) : Copy := { c with cells := c.cells.map (fun x => { x with spoilt := false }) }

/-- The cells of frame `serial` are read from the slice of region `g`: words with a single-bit error are corrected and counted (R183). -/
def State.readWords (s : State) (g serial : Nat) : State := s.addSat (0x4000 + g) 0x0C 64 (Config.wordsCorrected g serial s.now)

/-- Two copies made of one region copy of a frame. -/
def Copy.sameFrame (a b : Copy) : Bool := a.port == b.port && a.serial == b.serial && a.variant == b.variant

/-- The errors in the cells of a copy have been read: each is counted once, whichever copy of the region's slice reads it (R183). -/
def State.countSpoilt (s : State) (g : Nat) (c : Copy) : State :=
  if c.spoiltCells = 0 then s
  else
    let clean := fun (d : Copy) => if d.sameFrame c then d.counted else d
    let r := s.region g
    let s := s.setRegion g { r with hostQueue := r.hostQueue.map clean }
    let s := { s with queues := s.queues.remap {} (fun k q => if k / 384 = g then { q with copies := q.copies.map clean } else q) }
    s.addSat (0x4000 + g) 0x0D 64 c.spoiltCells

/-- A cell belongs to a copy. -/
def Copy.holds (c : Copy) (x : Cell) : Bool := c.port == x.port && c.serial == x.serial && c.variant == x.variant

/-- Some copy that uses the cells of `c` is still held in region `g` (R180). -/
def State.copyHeld (s : State) (g : Nat) (c : Copy) : Bool :=
  s.queues.any (fun e => e.1 / 384 == g && e.2.copies.any c.sameFrame) || (s.region g).hostQueue.any c.sameFrame

/-- The cells of a copy that has left return to their pools when the last copy using them has left (R180). -/
def State.releaseCells (s : State) (g : Nat) (c : Copy) : State :=
  if s.copyHeld g c then s else c.cells.foldl (fun a x => a.returnCell g x.pool) s

/-- Take out of a queue the copies that a test names. -/
def State.removeCopies (s : State) (p q : Nat) (f : Copy → Bool) : State :=
  let x := s.queue p q
  let gone := x.copies.filter f
  if gone.isEmpty then s
  else
    let s := s.setQueue p q { x with copies := x.copies.filter (fun c => !f c) }
    (gone.foldl (fun a c => a.releaseCells (p / 12) c) s).judgeQueue p q

/-- Host queue occupancy: 4000h.11 as read. -/
def State.hostOccupancy (s : State) (g : Nat) : Nat := (s.region g).hostQueue.foldl (fun n c => n + c.cells.length) 0

/-- Take out of the host queue of a region the copies that a test names. -/
def State.removeHostCopies (s : State) (g : Nat) (f : Copy → Bool) : State :=
  let r := s.region g
  let gone := r.hostQueue.filter f
  if gone.isEmpty then s
  else gone.foldl (fun a c => a.releaseCells g c) (s.setRegion g { r with hostQueue := r.hostQueue.filter (fun c => !f c) })

/-- The queue of a port that a descriptor's copy joins: the contract's, the descriptor's, or the priority map's (R186, R187). -/
def State.queueOf (s : State) (p : Nat) (d : Descriptor) : Nat :=
  if d.queueSet then d.queue else field (s.nat (0x4010 + p) 0x01) (5 * d.priority) 5

/-! ## Bound breaches -/

/-- Where a new breach record goes: behind those of earlier instants, and by region and contract among those of its own (08 R220). -/
def insertBreach (b : Breach) (l : List Breach) : List Breach :=
  let after := fun (x : Breach) => x.time == b.time && decide (b.region < x.region ∨ (b.region = x.region ∧ b.contract < x.contract))
  let n := (l.reverse.takeWhile after).length
  l.take (l.length - n) ++ b :: l.drop (l.length - n)

/-- Append a breach record; a full ring of 256 loses its oldest (08 R220). -/
def State.breachRecord (s : State) (contract code g : Nat) (detail : Int) : State :=
  let b : Breach := { contract := contract, code := code, region := g, time := s.shortTime 0, detail := detail }
  let s := s.inc64 0x5000 0x07
  if s.breaches.length < 256 then { s with breaches := insertBreach b s.breaches }
  else ({ s with breaches := insertBreach b (s.breaches.drop 1) }).inc32 0x5000 0x06

/-- A bound-breach event of codes 1 to 11: record, contract's count, and the region's source (08 R219). -/
def State.breach (s : State) (g contract code : Nat) (detail : Int) : State :=
  let s := s.breachRecord contract code g detail
  let x := s.contractAt contract
  (s.setContractAt contract { x with breaches := min (x.breaches + 1) (2 ^ 64 - 1) }).raise (768 + 32 * g + 17) 0

/-- Contract `i` is suspended: a fence's own record covers what it loses (08 R221). -/
def State.suspended (s : State) (i : Nat) : Bool := field (s.contractEntry i) 104 2 == 2

/-- The region that the copy's cells come from. -/
def Copy.source (c : Copy) : Nat := (c.cells.head?.map (·.source)).getD 0

/-- A fence that suspends its contract has cut the copy off: it is incomplete, and its streams are about to be closed (06 R171; 08 R221). -/
def State.cutOff (s : State) (g : Nat) (c : Copy) : Bool :=
  !c.complete && (s.region g).closing.testBit c.source && s.suspended c.desc.contract

/-- A breach of a contracted copy: at most one event per copy, and none once an intermediate has raised it; code 10 in place of 1, 5 and 6 for a copy
in flight over a change of epoch; none of a copy whose frame came in bad, or that a suspending fence cuts off (08 R219, R221). Detail is in 2^-16
ns. -/
def State.copyBreach (s : State) (g : Nat) (c : Copy) (code : Nat) (detail : Int) : State :=
  if !c.desc.contracted || c.breached || s.overflowed.contains (c.port, c.serial, g) || s.cutOff g c then s
  else
    let code' := if c.epochChanged && (code == 1 || code == 5 || code == 6) then 10 else code
    s.breach g c.desc.contract code' (if code = 1 ∨ code = 6 then detail / 65536 else 0)

/-! ## Ends of copies -/

/-- A queued copy of port `p`, queue `q` turns out bad or incomplete: not started, it is discarded whole and counted in 3100h.0A; started,
it is marked and ended bad at the port (05 R136, R137), and counted there too when it has lost a cell (06 R165), once. -/
def State.badCopy (s : State) (p q : Nat) (c : Copy) (lost : Bool) : State :=
  if c.started then
    let x := s.queue p q
    let s := s.setQueue p q { x with copies := x.copies.map (fun d => if d.sameFrame c then { d with bad := true, breached := true } else d) }
    if lost && !c.bad then s.inc64 (0x3100 + p) 0x0A else s
  else (s.removeCopies p q c.sameFrame).inc64 (0x3100 + p) 0x0A

/-- The port and queue of a key of `queues`. -/
def queuePlace (k : Nat) : Nat × Nat := (k / 32, k % 32)

/-- Every port copy in region `g` that a test names is handled as bad, or as having lost a cell, with the breach code (0 = none) of a contracted
one; a frame for a ring is discarded. -/
def State.badCopies (s : State) (g : Nat) (f : Copy → Bool) (lost : Bool) (code : Copy → Nat) : State :=
  let s := s.queues.foldl (fun a e =>
    if e.1 / 384 = g then
      (e.2.copies.filter f).foldl (fun b c =>
        let b := if code c = 0 then b else b.copyBreach g c (code c) 0
        let pq := queuePlace e.1
        b.badCopy pq.1 pq.2 c lost) a
    else a) s
  s.removeHostCopies g f

/-! ## Ports going down -/

/-- The frame in transmission at a port that goes down is lost (R199). -/
def State.loseSending (s : State) (p : Nat) : State :=
  let e := s.eg p
  if e.sending < 32 then
    let q := e.sending
    ((s.setEg p { e with sending := 32 }).removeCopies p q (·.started)).inc64 (0x4010 + p) 0x07
  else s

/-- Discard every copy of a queue that has not started, counted in the queue's .0C (R201). -/
def State.flushQueue (s : State) (p q : Nat) : State :=
  let n := ((s.queue p q).copies.filter (fun c => !c.started)).length
  if n = 0 then s else (s.removeCopies p q (fun c => !c.started)).addSat (queueIndex p q) 0x0C 64 n

/-- A port goes down: the frame in transmission is lost; its queues are kept, or flushed when 4010h.02 is 1 (R199). -/
def State.queuesDown (s : State) (p : Nat) : State :=
  let s := s.loseSending p
  if s.flag (0x4010 + p) 0x02 then (items 32).foldl (fun a q => a.flushQueue p q) s else s

/-- After an accepted step of TB0: a contracted copy whose window the step skipped raises its one breach event, code 7 (R193, 08 R219). -/
def State.reportStepped (s : State) : State :=
  s.queues.foldl (fun a e =>
    let pq := queuePlace e.1
    let hit := fun (c : Copy) => c.stepped && !c.breached && !c.started && c.desc.contracted
    let n := (e.2.copies.filter hit)
    if n.isEmpty then a
    else
      let a := n.foldl (fun b c => b.copyBreach (pq.1 / 12) c 7 0) a
      let x := a.queue pq.1 pq.2
      a.setQueue pq.1 pq.2 { x with copies := x.copies.map (fun c => if hit c then { c with breached := true } else c) }) s

end Sys2Proof.Machine
end

