-- ==== Sys2Proof/Machine/Contracts.lean ====
section
/-! DEFINITION. Flow contracts (08_contracted_delivery.md): windows and policing (R206, R208), the worst delay D (R212 to R214), the
calendars and admission (R215 to R218), suspension (R221). Lengths of time are in hundredths of a ns, exact for every port rate. -/

namespace Sys2Proof.Machine

/-! ## Rows of the delay table -/

/-- Port-edge period by lane rate code, hundredths of a ns as R212 takes it (R57). -/
def edgePeriod : Nat → Nat
  | 1 => 800 | 2 => 621 | 3 => 248 | 4 => 241 | _ => 0

/-- Receive crossing of a port by lane rate code (02 R57). -/
def receiveCrossing : Nat → Nat
  | 1 => 1200 | 2 => 1021 | 3 => 649 | 4 => 641 | _ => 0

/-- Transmit crossing of a port by lane rate code (02 R57). -/
def transmitCrossing : Nat → Nat
  | 1 => 3300 | 2 => 2583 | 3 => 1093 | 4 => 1064 | _ => 0

/-- MACsec receive and transmit delay by lane rate code (04 R94). -/
def macsecDelay : Nat → Nat × Nat
  | 1 => (19200, 16000) | 2 => (14895, 12412) | 3 => (5958, 4965) | 4 => (5783, 4819) | _ => (0, 0)

/-- Start alignment, row 16, by lane rate code. -/
def startAlignment : Nat → Nat
  | 1 => 1600 | 2 => 640 | 3 => 256 | 4 => 500 | _ => 0

/-- Spread of a held contract's start by lane rate code (R214). -/
def heldSpread : Nat → Nat
  | 1 => 5560 | 2 => 3883 | 3 => 2009 | 4 => 2224 | _ => 0

/-- Time of `n` bytes at a rate in Mb/s. -/
def byteTime (n rate : Nat) : Nat := if rate = 0 then 0 else n * 800000 / rate

/-- Start threshold of R135 in cells by rate. -/
def startThreshold (rate : Nat) : Nat :=
  if rate ≤ 25000 then 1 else if rate ≤ 50000 then 2 else if rate ≤ 100000 then 3 else 6

/-- The lane rate code of a port. -/
def State.laneCode (s : State) (p : Nat) : Nat := modeLaneCode (s.mode p)

/-- Row 1 (R212, R213). -/
def State.row1 (s : State) (i e len : Nat) (cut : Bool) : Nat :=
  let r := s.portRate i
  if cut then
    max (byteTime (min len (248 + 256 * (startThreshold (s.portRate e) - 1))) r) (byteTime (min len 128) r + 4000)
  else byteTime len r

/-- Rows 12 to 16: the egress lead (R214). -/
def State.egressLead (s : State) (e : Nat) : Nat :=
  let k := s.laneCode e
  640 + 480 + transmitCrossing k + (4 * edgePeriod k + if s.flag (0x2100 + e) 0x07 then (macsecDelay k).2 else 0) + startAlignment k

/-- D for one egress port (R212). -/
def State.delayD (s : State) (i e len : Nat) (cut : Bool) : Nat :=
  let k := s.laneCode i
  s.row1 i e len cut + (4 * edgePeriod k + if s.flag (0x2100 + i) 0x07 then (macsecDelay k).1 else 0) + receiveCrossing k +
    (420 + 320 + 1280 + 1400 + 1280 + 1440 + 1400 + 640) + s.egressLead e

/-! ## Ports, windows and intervals -/

/-- Ports of a 96-bit map. -/
def portsOf (map : Nat) : List Nat := (items 96).filter (fun p => map.testBit p)

/-- The egress ports of a contract. -/
def State.egressPorts (s : State) (c : Contract) : List Nat :=
  if c.toSet then portsOf (Sparse.get 0 s.portSets c.destination) else [c.destination]

/-- The greatest of a list. -/
def maxOf (l : List Nat) : Nat := l.foldl max 0

/-- The contract cycle C in ns (R206). -/
def State.contractCycle (s : State) : Nat := s.nat 0x5000 0x01

/-- Start of occurrence i's window within the contract cycle, ns (R206). -/
def State.windowStart (s : State) (c : Contract) (i : Nat) : Nat :=
  (c.windowOffset + i * s.contractCycle / c.occurrences) % s.contractCycle

/-- The granule q of the calendars (R215). -/
def State.granule (s : State) : Nat := (s.contractCycle * 100 + 65536 * 1280 - 1) / (65536 * 1280) * 1280

/-- Ceiling of a quotient. -/
def ceilDiv (a b : Nat) : Nat := (a + b - 1) / b

/-- An interval of the cycle, rounded outward to granules; one that passes the cycle's end goes on at its start (R215). -/
def State.granules (s : State) (lo hi : Nat) : List (Nat × Nat) :=
  let q := s.granule
  let c := s.contractCycle * 100
  let n := hi - lo
  let lo := lo % c
  let hi := lo + n
  if c ≤ n then [(0, ceilDiv c q)]
  else if hi ≤ c then [(lo / q, ceilDiv hi q)]
  else [(lo / q, ceilDiv c q), (0, ceilDiv (hi - c) q)]

/-- Two lists of granule intervals overlap. -/
def overlaps (a b : List (Nat × Nat)) : Bool := a.any (fun x => b.any (fun y => decide (x.1 < y.2 ∧ y.1 < x.2)))

/-- The worst D and the worst T_e over a contract's egress ports (R212, R214). -/
def State.worstD (s : State) (c : Contract) : Nat :=
  maxOf ((s.egressPorts c).map (fun e => s.delayD c.ingress e c.maxLength c.cutThrough))
def State.worstTe (s : State) (c : Contract) : Nat :=
  maxOf ((s.egressPorts c).map (fun e => byteTime (c.maxLength + 20) (s.portRate e)))
def State.worstSpread (s : State) (c : Contract) : Nat := maxOf ((s.egressPorts c).map (fun e => heldSpread (s.laneCode e)))

/-- B: the bound admission computes (R214, R216). -/
def State.boundB (s : State) (c : Contract) : Nat :=
  if c.held then c.releaseOffset * 100 + s.worstSpread c else s.worstD c + (c.maxFrames - 1) * s.worstTe c

/-- F of occurrence i (R216). -/
def State.spanF (s : State) (c : Contract) (i : Nat) : List (Nat × Nat) :=
  let a := s.windowStart c i * 100
  s.granules a (a + c.windowLength * 100 + byteTime (c.maxFrames * c.maxLength) (s.portRate c.ingress) + 8000)

/-- X of occurrence i as an interval before rounding (R216). -/
def State.rangeX (s : State) (c : Contract) (i : Nat) : Nat × Nat :=
  let a := s.windowStart c i * 100
  if c.held then (a + c.releaseOffset * 100, a + c.releaseOffset * 100 + s.worstSpread c + s.worstTe c)
  else (a, a + c.windowLength * 100 + s.worstD c + c.maxFrames * s.worstTe c)

/-- All F, and all X, of a contract in granules: what it marks in the calendars (R215). -/
def State.allF (s : State) (c : Contract) : List (Nat × Nat) := ((items c.occurrences).map (fun i => s.spanF c i)).flatten
def State.allX (s : State) (c : Contract) : List (Nat × Nat) :=
  ((items c.occurrences).map (fun i => s.granules (s.rangeX c i).1 (s.rangeX c i).2)).flatten

/-- Regions of a contract's egress ports. -/
def State.egressRegions (s : State) (c : Contract) : List Nat :=
  (items 8).filter (fun g => (s.egressPorts c).any (fun e => e / 12 == g))

/-- The path of a contract: ingress region and egress regions (R211). -/
def State.onPath (s : State) (c : Contract) (g : Nat) : Bool := c.ingress / 12 == g || (s.egressRegions c).contains g

/-- Cells of one frame of the contract (R210). -/
def Contract.cells (c : Contract) : Nat := ceilDiv (c.maxLength + 8) 256

/-- A gate list keeps queue `q` open throughout an interval of the contract cycle; its cycle must divide C (R216). -/
def State.listKeepsOpen (s : State) (l : GateList) (q lo hi : Nat) : Bool :=
  if l.cycle = 0 ∨ s.contractCycle % l.cycle ≠ 0 then false
  else
    let cyc := l.cycle * 100
    let o := (((lo : Int) - l.base * 100) % (cyc : Int)).toNat
    let shut := l.spans.filter (fun x => !x.2.2.testBit q)
    if cyc ≤ hi - lo then shut.isEmpty
    else !shut.any (fun x => decide (x.1 * 100 < o + (hi - lo) ∧ o < x.2.1 * 100) ||
      decide (x.1 * 100 + cyc < o + (hi - lo) ∧ o < x.2.1 * 100 + cyc))

/-- A gate list of a port keeps the contract's queue open throughout X of occurrence i. -/
def State.gateCovers (s : State) (c : Contract) (i : Nat) (l : Option GateList) : Bool :=
  match l with
  | none => false
  | some l => s.listKeepsOpen l (24 + c.queue) (s.rangeX c i).1 (s.rangeX c i).2

/-! ## Admission -/

/-- Field ranges, R213 and R215's limit on port sets; held takes one frame per window (R216 reason 1). -/
def State.contractFieldsOk (s : State) (c : Contract) : Bool :=
  decide (c.ingress < 96) && (c.toSet || decide (c.destination < 96)) && decide (c.queue < 6) && decide (1 ≤ c.occurrences) &&
  decide (c.windowOffset < s.contractCycle) && decide (c.windowLength ≤ 1000000) && decide (1 ≤ c.maxFrames) &&
  decide (64 ≤ c.maxLength ∧ c.maxLength ≤ 16384) && decide (100 ≤ c.bound ∧ c.bound ≤ 1000000) &&
  (if c.held then decide (1 ≤ c.releaseOffset ∧ c.releaseOffset ≤ 1000000) && decide (c.maxFrames = 1)
   else decide (c.releaseOffset = 0)) &&
  decide (0 < s.portRate c.ingress) && !(s.egressPorts c).isEmpty && (s.egressPorts c).all (fun e => decide (0 < s.portRate e)) &&
  (!c.toSet || decide (s.portRate c.ingress ≤ 25000)) &&
  (!c.cutThrough || (s.flag (0x3100 + c.ingress) 0x06 && s.nat (0x3100 + c.ingress) 0x07 == 0 &&
    (s.egressPorts c).all (fun e => decide (s.portRate e ≤ s.portRate c.ingress))))

/-- The sum of the reserve that a list of contracts needs in region `g` (R216 reason 9). -/
def State.reserveNeed (s : State) (g : Nat) (l : List Nat) : Nat :=
  l.foldl (fun n i =>
    let c := contractOf (s.contractEntry i)
    if s.onPath c g then n + c.maxFrames * c.cells else n) 0

/-- Occurrence i against the calendars of the contracts `os`: 0, or the refusal reason, in the order of R216. -/
def State.occurrenceFault (s : State) (c : Contract) (os : List Contract) (i : Nat) : Nat :=
  let f := s.spanF c i
  let x := s.granules (s.rangeX c i).1 (s.rangeX c i).2
  if os.any (fun o => o.ingress / 12 == c.ingress / 12 && overlaps f (s.allF o)) then 4
  else if os.any (fun o => (s.egressRegions c).any (fun g => (s.egressRegions o).contains g) && overlaps f (s.allF o)) then 5
  else ((s.egressPorts c).findSome? (fun e =>
    if os.any (fun o => (s.egressPorts o).contains e && overlaps x (s.allX o)) then some 6
    else if s.gateCovers c i (s.eg e).operational || s.gateCovers c i (s.eg e).pending then none
    else some 7)).getD 0

/-- The egress ports whose pending list is needed to keep the contract's queue open (R216). -/
def State.waitsFor (s : State) (c : Contract) : List Nat := (s.egressPorts c).filter (fun e => !(items c.occurrences).all (fun i => s.gateCovers c i (s.eg e).operational))

/-- Admission of contract `i` against the calendars of the contracts `others`: 0, or the refusal reason of R217. -/
def State.admission (s : State) (i : Nat) (others : List Nat) : Nat :=
  let c := contractOf (s.contractEntry i)
  if !s.contractFieldsOk c then 1
  else if c.held ∧ c.releaseOffset * 100 < c.windowLength * 100 + s.worstD c then 3
  else if c.bound * 100 < s.boundB c then 2
  else
    let os := others.map (fun j => contractOf (s.contractEntry j))
    let fault := ((items c.occurrences).find? (fun i => s.occurrenceFault c os i != 0)).map (s.occurrenceFault c os)
    if fault.isSome then fault.getD 0
    else if (s.egressPorts c).any (fun e => decide (s.nat (queueIndex e (24 + c.queue)) 0x03 < c.maxFrames * c.cells)) then 8
    else if (items 8).any (fun g => s.onPath c g && decide (s.poolSize g 1 < s.reserveNeed g (i :: others))) then 9
    else 0

/-- The contract keeps intervals in the calendars: admitted, suspended, or waiting for a list (R216, R221). -/
def State.reserved (s : State) (i : Nat) : Bool :=
  let e := s.contractEntry i
  e.testBit 255 && (field e 104 2 != 0 || !(s.contractAt i).awaiting.isEmpty)

/-- The contracts that keep intervals. -/
def State.reservedList (s : State) : List Nat := (s.contracts.map (·.1)).filter s.reserved

/-- Put the outcome of an admission into the entry: computed bound in whole ns, rounded up (log entry 10), and state 1, or 0 while a
pending list is awaited; a suspended contract stays suspended (R216, R221). -/
def State.admitOne (s : State) (i : Nat) : State :=
  let c := contractOf (s.contractEntry i)
  let waits := s.waitsFor c
  let shut := (items 8).any (fun g => s.onPath c g && s.regionFenced g)
  let st := if !waits.isEmpty then 0 else if shut then 2 else 1
  let e := putField (putField (s.contractEntry i) 84 20 (ceilDiv (s.boundB c) 100)) 104 2 st
  let s := { s with contracts := Sparse.set 0 s.contracts i e }
  s.setContractAt i { s.contractAt i with awaiting := waits }

/-- Admit a rising list of changed contracts in order, each against those already reserved; the first that fails names itself and its
reason (R217). -/
def State.admitAll (s : State) : List Nat → List Nat → State × Option (Nat × Nat)
  | [], _ => (s, none)
  | i :: r, others =>
    let why := s.admission i others
    if why = 0 then (s.admitOne i).admitAll r (i :: others) else (s, some (i, why))

/-- Contracts in state 1: 5000h.02 as read. -/
def State.admittedCount (s : State) : Nat :=
  (s.contracts.filter (fun e => e.2.testBit 255 && field e.2 104 2 == 1)).length

/-- A change of what admitted contracts rest on re-runs their admission: the first that would fail (R218). -/
def State.readmit (s : State) (uses : Contract → Bool) : Option Nat :=
  let l := s.reservedList
  l.find? (fun i => uses (contractOf (s.contractEntry i)) && s.admission i (l.filter (· ≠ i)) != 0)

/-! ## Policing -/

/-- Whole contract cycles since TB0's epoch shifted by the window offset, and the position in the present one, 2^-16 ns (R208). -/
def State.cyclePosition (s : State) (c : Contract) (t : Int) : Int × Nat :=
  let x := t - nsUnits c.windowOffset
  (x / nsUnits s.contractCycle, (x % nsUnits s.contractCycle).toNat)

/-- i of R208: the largest occurrence whose start is not after x. -/
def State.occurrenceOf (s : State) (c : Contract) (x : Nat) : Nat :=
  min (c.occurrences - 1) (((x / 65536 + 1) * c.occurrences + s.contractCycle - 1) / s.contractCycle - 1)

/-- Whether a frame that starts at `t` is in its window, within length (where known) and within count (R208 up to stage 6). -/
def State.policed (s : State) (i : Nat) (t : Int) (length : Option Nat) : Bool :=
  let c := contractOf (s.contractEntry i)
  let (cyc, x) := s.cyclePosition c t
  let o := s.occurrenceOf c x
  let k := s.contractAt i
  let n := if k.cycle = cyc ∧ k.occurrence = o then k.count else 0
  decide (x - o * s.contractCycle / c.occurrences * 65536 ≤ c.windowLength * 65536) &&
    (match length with
     | none => true
     | some l => decide (l ≤ c.maxLength)) &&
    decide (n < c.maxFrames)

/-- Count a conforming frame in its occurrence (R208). -/
def State.countConforming (s : State) (i : Nat) (t : Int) : State :=
  let c := contractOf (s.contractEntry i)
  let (cyc, x) := s.cyclePosition c t
  let o := s.occurrenceOf c x
  let k := s.contractAt i
  let n := if k.cycle = cyc ∧ k.occurrence = o then k.count else 0
  s.setContractAt i { k with cycle := cyc, occurrence := o, count := n + 1, conforming := min (k.conforming + 1) (2 ^ 64 - 1) }

/-- Count an out-of-contract frame (R209). -/
def State.countOutOfContract (s : State) (i : Nat) : State :=
  let k := s.contractAt i
  s.setContractAt i { k with outOfContract := min (k.outOfContract + 1) (2 ^ 64 - 1) }

/-- Deadline, release instant (0 = prompt) and occurrence of a conforming frame that starts at `t`, TB0 2^-16 ns (R210). -/
def State.dueOf (s : State) (i : Nat) (t : Int) : Int × Int × Nat :=
  let c := contractOf (s.contractEntry i)
  let (cyc, x) := s.cyclePosition c t
  let o := s.occurrenceOf c x
  let start := cyc * nsUnits s.contractCycle + nsUnits c.windowOffset + nsUnits (o * s.contractCycle / c.occurrences)
  let lead := maxOf ((s.egressPorts c).map s.egressLead)
  let edge := maxOf ((s.egressPorts c).map (fun e => edgePeriod (s.laneCode e)))
  let d := t + nsUnits c.computedBound - psUnits (10 * (lead : Int))
  let e := start + nsUnits c.releaseOffset - psUnits (10 * ((640 + 4 * edge : Nat) : Int))
  (d, if c.held then e else 0, o)

/-! ## Suspension -/

/-- Suspend the admitted contracts with a region on their path that is now fenced: state 2 and one record with code 0 (R221). -/
def State.suspendContracts (s : State) (g : Nat) : State :=
  (s.contracts.map (·.1)).foldl (fun a i =>
    let c := contractOf (a.contractEntry i)
    if c.valid && c.state == 1 && a.onPath c g then (a.putContractState i 2).breachRecord i 0 g 0 else a) s

/-- The ports of region `g` have not returned to forwarding: it is fenced, or one of its ports awaits the twin's uncover (01 R28; 14
R374). -/
def State.regionOut (s : State) (g : Nat) : Bool :=
  s.regionFenced g || (items 12).any (fun i => s.nat (0x9100 + (12 * g + i)) 0x03 == 4)

/-- Resume the suspended contracts whose path has no fenced region left (R221). -/
def State.resumeContracts (s : State) : State :=
  (s.contracts.map (·.1)).foldl (fun a i =>
    let c := contractOf (a.contractEntry i)
    if c.valid && c.state == 2 && !(items 8).any (fun g => a.onPath c g && a.regionOut g) then a.putContractState i 1 else a) s

/-- A pending list of port `p` has become operational: the contracts that waited for it alone take state 1 (R216). -/
def State.activateContracts (s : State) (p : Nat) : State :=
  (s.contracts.map (·.1)).foldl (fun a i =>
    let k := a.contractAt i
    if k.awaiting.contains p then
      let left := k.awaiting.filter (· ≠ p)
      let a := a.setContractAt i { k with awaiting := left }
      if left.isEmpty then
        let c := contractOf (a.contractEntry i)
        a.putContractState i (if (items 8).any (fun g => a.onPath c g && a.regionOut g) then 2 else 1)
      else a
    else a) s

end Sys2Proof.Machine
end

