-- ==== Sys2Proof/Machine/Crossings.lean ====
section
/-! DEFINITION. Crossing FIFOs (02_levels_and_islands.md R38 to R50): depths and credits, discard mode, packets held open, flushes,
and the crossing that carries a fault message to the safety island. A crossing has the number of CrossingX. -/

namespace Sys2Proof.Machine

/-- The crossings whose throughput matters (R43). -/
inductive CrossingKind where
  | portEdge | clusterRegion | cell | hubChannel | safety
deriving DecidableEq, Repr

/-- Depth of a crossing in entries (R43). -/
def CrossingKind.depth : CrossingKind → Nat
  | .portEdge => 16
  | .clusterRegion => 16
  | .cell => 16
  | .hubChannel => 32
  | .safety => 8

/-- Bits of an entry of a crossing; of a port edge's by its rate in Gb/s (R43). -/
def CrossingKind.entryBits (gbps : Nat) : CrossingKind → Nat
  | .portEdge => if gbps ≤ 25 then 128 else if gbps ≤ 50 then 256 else if gbps ≤ 100 then 512 else 1024
  | .clusterRegion => 512
  | .cell => 1024
  | .hubChannel => 1024
  | .safety => 64

/-- Entries that so many bytes take in a crossing. -/
def CrossingKind.entries (k : CrossingKind) (gbps bytes : Nat) : Nat := (8 * bytes + k.entryBits gbps - 1) / k.entryBits gbps

/-- Packets that a crossing of cells holds: a cell of 256 bytes is two beats (R42, R43). -/
def cellCrossingCells : Nat := CrossingKind.cell.depth / CrossingKind.cell.entries 0 256

/-! ## Channel groups: three cell crossings in series -/

/-- The key of a channel group and stage: 0 = stage one, 1 = stage two. -/
abbrev flightKey (stage from_ to_ : Nat) : Nat := 128 * stage + 16 * from_ + to_

/-- Cells on the way. -/
def State.flight (s : State) (stage a b : Nat) : List Cell := Sparse.get [] s.flights (flightKey stage a b)
def State.setFlight (s : State) (stage a b : Nat) (l : List Cell) : State :=
  { s with flights := Sparse.set [] s.flights (flightKey stage a b) l }

/-- The producer holds a credit for a cell toward a region: cells go on as far as they can, so the first of the three crossings (region
to link end, link end to link end, link end to region) is full only when all three are (R40, R43; log entry 99). Within one region there
is no crossing. -/
def State.crossingCredit (s : State) (stage a b : Nat) : Bool :=
  a == b || decide ((s.flight stage a b).length < 3 * cellCrossingCells)

/-! ## Flushes (R44, R49) -/

/-- Count packets dropped in discard mode (R47). -/
def State.countDiscarded (s : State) (n : Nat) : State := s.addSat 0xE100 0x03 64 n

/-- Discard the complete cells that a channel group's far end has not begun; how many (R44). An idle cell is no packet. -/
def State.flushFlight (s : State) (stage a b : Nat) : Nat × State :=
  (((s.flight stage a b).filter (·.valid)).length, s.setFlight stage a b [])

/-- Every cell crossing of region `g` is flushed (R44). -/
def State.flushCells (s : State) (g : Nat) : State :=
  (items 8).foldl (fun a f => [(0, f, g), (1, f, g), (0, g, f), (1, g, f)].foldl (fun b k =>
    let (n, t) := b.flushFlight k.1 k.2.1 k.2.2
    if n = 0 then t else t.addSat 0xE100 0x02 64 n) a) s

/-- A flush of crossing `x` takes effect: what the consumer has not begun is discarded, the credits and the mode are as after a reset
(R44, R40). -/
def State.completeFlush (s : State) (x : Nat) : State :=
  (if 24 ≤ x ∧ x < 32 then s.flushCells (x - 24) else s).setCrossing x {}

/-- A flush request to crossing `x`: at once at a packet boundary; a packet held open is completed first (R44, R49). -/
def State.flushCrossing (s : State) (x : Nat) : State :=
  if (s.crossing x).openPacket then s.setCrossing x { s.crossing x with flushing := true } else s.completeFlush x

/-- The packet that the consumer of crossing `x` held open ends: its next entry has come, or a fence has closed it; a flush that waited
takes effect (R41, R48, R49). -/
def State.closePacket (s : State) (x : Nat) : State :=
  let c := s.crossing x
  if c.flushing then s.completeFlush x
  else if c.openPacket then s.setCrossing x { c with openPacket := false } else s

/-- The island of crossing `x` is fenced: its open packet is closed, a waiting flush completes, and the producers are in discard mode
(R47, R48, R49). -/
def State.shutCrossing (s : State) (x : Nat) : State := (s.closePacket x).setCrossing x { discard := true }

/-! ## Messages to the safety island -/

/-- The crossing that carries a source's message: its cluster's, its region's, or the hub side's (R42; 15 R381; log entry 99). -/
def crossingOfSource (n : Nat) : Nat :=
  if n < 576 then n / 24 else if n < 768 then (n - 576) / 8 else if n < 1024 then 24 + (n - 768) / 32 else 32

/-- The messages that the crossings hold, 8 in each, and those whose producers wait for a credit (R40, R43). -/
def splitMessages (l : List Message) : List Message × List Message :=
  l.foldl (fun (a : List Message × List Message) m =>
    if (a.1.filter (fun o => crossingOfSource o.source == crossingOfSource m.source)).length < CrossingKind.safety.depth then
      (a.1 ++ [m], a.2)
    else (a.1, a.2 ++ [m])) ([], [])

end Sys2Proof.Machine
end

