-- ==== Sys2Proof/Machine/Lookup.lean ====
section
/-! DEFINITION. The lookup pipeline of a frame (05_forwarding.md R110 to R134, 08 R207 to R210, 14 R371, R372): VLAN, classifier,
stream, address, contract and sequence, resolution and the result descriptor. -/

namespace Sys2Proof.Machine

/-! ## What the stages find -/

/-- Where a frame goes (R131). -/
inductive Dest where
  | discard
  | ring (r : Nat)
  | port (p : Nat)
  /-- Ports of a map, and the port set it came from. -/
  | ports (map : Nat) (set : Option Nat)
deriving DecidableEq, Repr

/-- An entry of a table copy that is marked invalid in cluster `c` (R146, R147). -/
def State.marked (s : State) (c t position : Nat) : Bool :=
  s.invalid.any (fun e => e.1 == c && e.2.1 == t && (e.2.2 == position || e.2.2 == 2 ^ 20 + position / 256))

/-- The port state of R131: a standby port is discarding except while it covers (14 R371). -/
def State.portState (s : State) (p : Nat) : Nat :=
  if s.flag (0x9100 + p) 0x02 ∧ s.nat (0x9100 + p) 0x03 ≠ 3 then 0 else s.nat (0x3100 + p) 0x0F

/-- The assigned VID (R115). -/
def State.assignVid (s : State) (p : Nat) (h : Head) : Nat :=
  if h.tagged ∧ h.tagVid ≠ 0 then h.tagVid else s.nat (0x3100 + p) 0x01

/-- Frames the port's acceptable-frames setting turns away (R115, R150). A priority-tagged frame, whose C-tag has VID 0, counts with the untagged ones
under both settings, as R150 groups it in code 2: under 'tagged only' it is turned away (DEDUCED, log entry 119). -/
def State.unacceptable (s : State) (p : Nat) (h : Head) : Bool :=
  let tagged := h.tagged && h.tagVid != 0
  match s.nat (0x3100 + p) 0x02 with
  | 1 => !tagged
  | 2 => tagged
  | _ => false

/-- Result of stage 2: none = go on; a discard that counts in the given subindex of 3100h + p, or in none (0). A frame that the
acceptable-frames setting turns away is counted in no entry: R115 counts its two discards alone (DEDUCED, log entry 55). -/
def State.vlanStage (s : State) (p vid : Nat) (h : Head) : Option Nat :=
  let e := Sparse.get 0 s.vlan vid
  if s.unacceptable p h ∨ vid = 4095 then some 0
  else if s.marked (p / 4) 1 vid then some 0x0C
  else if !e.testBit 255 then some 0x0B
  else if s.flag (0x3100 + p) 0x04 ∧ !(field e 96 96).testBit p then some 0x0B
  else none

/-- The classifier's action for a frame; none = no match (R117). -/
def State.classify (s : State) (key : Nat) : Option Nat :=
  (s.classifier.find? (fun e => classifierMatch key e.2)).map (fun e => field e.2 0 64)

/-- A valid classifier entry of the cluster's copy is marked invalid: the ternary search reads it (R147). -/
def State.classifierMarked (s : State) (c : Nat) : Bool :=
  s.classifier.any (fun e => e.2.testBit 63 && s.marked c 2 e.1)

/-- A way that the stream lookup of a frame reads is marked invalid in the cluster's copy: of the position that a classifier action names alone; else
of the two buckets of its destination address and, where that finds no stream, of its source address (R121, R147). -/
def State.streamMarked (s : State) (c : Nat) (action : Option Nat) (vid : Nat) (h : Head) : Bool :=
  let ways := fun (kind mac : Nat) => (waysOf (streamBuckets kind vid mac)).any (s.marked c 3)
  match action.filter (fun a => a.testBit 34) with
  | some a => s.marked c 3 (field a 20 14)
  | none => ways 0 h.da || ((s.streamFind 0 vid h.da).isNone && ways 1 h.sa)

/-- The stream handle, in the order of R121. A classifier action's handle is taken as it stands: one that names no valid entry leaves the frame
without a stream, and the later steps are not tried (DEDUCED, log entry 104). -/
def State.streamHandle (s : State) (action : Option Nat) (vid : Nat) (h : Head) : Option Nat :=
  match action with
  | some a =>
    if a.testBit 34 then some (field a 20 14)
    else (s.streamFind 0 vid h.da).orElse (fun _ => s.streamFind 1 vid h.sa)
  | none => (s.streamFind 0 vid h.da).orElse (fun _ => s.streamFind 1 vid h.sa)

/-- The state and internal priority of a stream gate: open without a list (log entry 13); the value of the interval in force otherwise
(R123). -/
def State.streamGate (s : State) (g : Nat) : Bool × Nat :=
  let x := Sparse.get {} s.gates g
  match x.operational with
  | none => (true, 8)
  | some l =>
    let v := l.valueAt x.position
    (v.testBit 0, v / 2)

/-- Set the blocked bit of a stream (R123). -/
def State.blockStream (s : State) (i : Nat) : State :=
  let e := Sparse.get 0 s.streams i
  if e.testBit 34 then { s with streams := Sparse.set 0 s.streams i (setBit e 33 true) } else s

/-- The link-local address of the PQT-96: FE80::/64 with the modified EUI-64 of 1000h.06 (16 R410). -/
def State.linkLocal (s : State) : Nat :=
  let mac := s.managementMac
  0xFE80 * 2 ^ 112 + (mac / 2 ^ 24 ^^^ 0x020000) * 2 ^ 40 + 0xFFFE * 2 ^ 24 + mac % 2 ^ 24

/-- An IPv6 address that the PQT-96 holds (16 R410). -/
def State.ownAddress (s : State) (a : Nat) : Bool :=
  a == s.linkLocal || (!(s.blob 0xF010 0x05).isEmpty && a == ofBytes (s.blob 0xF010 0x05))

/-- Port `p` accepts Subrimi and raw management (16 R410, R428). -/
def State.managementPort (s : State) (p : Nat) : Bool := decide (p < 96) && (ofBytes (s.blob 0xF010 0x03)).testBit p

/-- Where the ICMPv6 message of an IPv6 packet stands, in a frame of a management port (16 R410). -/
def icmpAt (h : Head) : Option Nat :=
  if h.ethertype = 0x86DD ∧ h.ipVersion = 2 ∧ h.protocol = 58 then some (h.typeAt + 42) else none

/-- An Echo Request to an address of the device (16 R410). -/
def State.isEcho (s : State) (w : List Byte) : Bool :=
  let h := parseHead w
  match icmpAt h with
  | some o => byteAt w o == 128 && s.ownAddress h.ip6Destination
  | none => false

/-- The device's answers on IPv6 (16 R410): a Neighbor Advertisement to a Neighbor Solicitation for one of its addresses, an Echo Reply to an Echo
Request; nothing else. They leave the port they came in at, as the server's frames do (the forms of RFC 4861 and RFC 4443:
PRESUMED, log entry 128). -/
def State.answerIpv6 (s : State) (p : Nat) (f : RxFrame) : State :=
  let w := f.window
  let h := parseHead w
  match icmpAt h with
  | none => s
  | some o =>
    let source := numAt w (o - 32) 16
    let target := numAt w (o + 8) 16
    let vid := if h.tagVid = 0 then s.nat (0x3100 + p) 0x01 else h.tagVid
    let out := fun (frame : List Byte) => { s with outgoing := s.outgoing ++ [({ transport := 5, port := p, vid := vid, frame := frame } : OutFrame)] }
    if !s.start.server ∨ !s.bit 0xF010 0x02 3 ∨ !s.managementPort p then s
    else if byteAt w o = 135 ∧ s.ownAddress target then
      let back := if source = 0 then 0xFF02 * 2 ^ 112 + 1 else source
      let flags := if source = 0 then 0x20 else 0x60
      let icmp := [136, 0, 0, 0, BitVec.ofNat 8 flags, 0, 0, 0] ++ toBytes 16 target ++ [2, 1] ++ toBytes 6 s.managementMac
      out (ethernetFrame (if source = 0 then 0x333300000001 else h.sa) s.managementMac 0x86DD (ipv6Packet target back 58 icmp 2))
    else if s.isEcho w then
      let icmp := slice f.echo o (numAt w (o - 36) 2)
      out (ethernetFrame h.sa s.managementMac 0x86DD (ipv6Packet h.ip6Destination source 58 ([129, 0, 0, 0] ++ icmp.drop 4) 2))
    else s

/-- The built-in rules (R118): the ring of a frame that no classifier entry matches. A Subrimi frame addressed to the PQT-96 is UDP over IPv6 to
one of its addresses and the port of F010h.04 (16 R410); the rule names no port setting, so one that arrives at a port outside F010h.03 goes to
the ring too (DEDUCED, log entry 104). -/
def State.builtIn (s : State) (p : Nat) (h : Head) : Option Nat :=
  let g := p / 12
  if h.ptp.isSome then some (8 * g)
  else if h.da / 16 = 0x0180C200000 then some (8 * g + 1)
  else if h.ethertype = 0x88B6 then some (8 * g + 1)
  else if h.ipVersion = 2 ∧ h.protocol = 17 ∧ h.l4Destination = s.nat 0xF010 0x04 ∧ s.ownAddress h.ip6Destination then some (8 * g + 1)
  else none

/-- The forwarding map of a flood or a port set: members of the VLAN, not the ingress port, forwarding (R131). -/
def State.restrict (s : State) (p vlan map : Nat) : Nat :=
  (items 96).foldl (fun m q =>
    if map.testBit q && (field vlan 96 96).testBit q && q != p && s.portState q == 2 then m + 2 ^ q else m) 0

/-- Outcomes 4 and 5: address hit or miss, only for an ingress port in forwarding (R131). -/
def State.addressDest (s : State) (p vlan da : Nat) (hit : Option Nat) : Dest :=
  if s.portState p ≠ 2 then .discard
  else match hit with
    | some e =>
      match field e 88 2 with
      | 0 => .port (field e 16 12)
      | 1 =>
        let k := field e 16 12
        .ports (s.restrict p vlan (Sparse.get 0 s.portSets k)) (some k)
      | 2 => .discard
      | _ => .ring (field e 16 12)
    | none =>
      let flood := if da = broadcast then true else if isGroup da then vlan.testBit 252 else vlan.testBit 253
      if flood then .ports (s.restrict p vlan (2 ^ 96 - 1)) none else .discard

/-- The destination before discards of step 1 (R131 steps 2 to 5). -/
def State.resolve (s : State) (p vlan : Nat) (h : Head) (action : Option Nat) (hit : Option Nat) : Dest :=
  match action with
  | some a =>
    match field a 60 3 with
    | 1 => .discard
    | 2 => .ring (field a 48 12)
    | 3 => .port (field a 48 12)
    | 4 =>
      let k := field a 48 12
      .ports (s.restrict p vlan (Sparse.get 0 s.portSets k)) (some k)
    | _ => s.addressDest p vlan h.da hit
  | none =>
    match s.builtIn p h with
    | some r => .ring r
    | none => s.addressDest p vlan h.da hit

/-- A port set that a resolution reads is marked invalid (R147). -/
def State.setMarked (s : State) (c : Nat) : Dest → Bool
  | .ports _ (some k) => s.marked c 5 k
  | _ => false

/-- The twin covers the port: frames for it go to the cover channel (14 R372, R374). -/
def State.coveredPort (s : State) (p : Nat) : Bool := s.nat (0x9100 + p) 0x03 == 2 || s.nat (0x9100 + p) 0x03 == 4

/-- The six generations of the tables (R143). -/
def State.generations (s : State) : List Nat := (items 6).map (fun t => s.nat 0x3001 (1 + t))

/-- Count a discard of the ingress port in subindex `sub` of its forwarding entry; 0 = not counted. -/
def State.countDiscard (s : State) (p sub : Nat) : State := if sub = 0 then s else s.inc64 (0x3100 + p) sub

/-- The time base whose enabled binding a PTP header matches (09 R226). -/
def State.boundTb (s : State) (domain sdo : Nat) : Option Nat :=
  (items 8).find? (fun k => s.flag (0x6000 + k) 0x03 && s.nat (0x6000 + k) 0x01 == domain && s.nat (0x6000 + k) 0x02 == sdo)

/-! ## The descriptor -/

/-- The destination fields of a descriptor (R132, R133, 14 R372). -/
def State.aim (s : State) (vlan : Nat) (d : Descriptor) : Dest → Descriptor × Nat
  | .discard => (d, 0)
  | .ring r => ({ d with kind := 3, destination := r }, 0)
  | .port p =>
    if s.coveredPort p then
      ({ d with kind := 3, destination := 127, portMap := 2 ^ p, untagMap := field vlan 0 96, contracted := false, queueSet := false }, 0)
    else ({ d with kind := 0, destination := p, untag := ofBool (vlan.testBit p) }, 0)
  | .ports map _ =>
    let cover := (portsOf map).foldl (fun m p => if s.coveredPort p then m + 2 ^ p else m) 0
    ({ d with kind := 1, portMap := map - cover, untagMap := field vlan 0 96 }, cover)

/-- Eligibility for cut-through (R134); the ports' rates are judged at the egress. -/
def State.cutThroughOk (s : State) (p : Nat) (action : Option Nat) (d : Dest) : Bool :=
  s.flag (0x3100 + p) 0x06 &&
    (match d with
     | .ring _ => false
     | _ => true) &&
    !((action.map (fun a => a.testBit 35)).getD false) && !(s.nat (0x3100 + p) 0x07 != 0 && s.nat (0x3100 + p) 0x08 == 0)

/-- Draw the next number of a FRER generation function (R124). -/
def State.drawFrer (s : State) (f : Nat) : Nat × State :=
  let x := Sparse.get {} s.frer f
  (x.counter, { s with frer := Sparse.set {} s.frer f { x with counter := (x.counter + 1) % 65536 } })

/-- A contract's destination is the resolved one (08 R208). -/
def destMatches (c : Contract) : Dest → Bool
  | .port p => !c.toSet && c.destination == p
  | .ports _ (some k) => c.toSet && c.destination == k
  | _ => false

/-- The learning check and the source's effect on the database: the new state, whether to discard, and the learn due at a good tail
(R126, R127, R147). A station move asks for the conditions of learning too, and an entry whose destination is not a port counts as one on a
different port (DEDUCED, log entry 104). -/
def State.sourceStage (s : State) (p vid vlan : Nat) (h : Head) (noLearn : Bool) : State × Bool × Option (Nat × Nat) :=
  let fid := field vlan 240 12
  let may := vlan.testBit 254 && s.flag (0x3100 + p) 0x05 && decide (1 ≤ s.portState p) && !noLearn && vid != 4095
  match s.fdbFind fid h.sa with
  | none =>
    let unread := (waysOf (fdbBuckets fid h.sa)).any (fun i => s.marked (p / 4) 0 i)
    (s, false, if may && !unread then some (fid, h.sa) else none)
  | some i =>
    let e := Sparse.get 0 s.fdb i
    if s.marked (p / 4) 0 i then (s, false, none)
    else
      let here := field e 88 2 == 0 && field e 16 12 == p
      if e.testBit 94 then (if here then s else s.inc64 0x3000 0x05, e.testBit 90, none)
      else
        let s := { s with fdb := Sparse.set 0 s.fdb i (putField e 91 3 0) }
        (s, e.testBit 90, if !here && may then some (fid, h.sa) else none)

/-- The frame is discarded in lookup. -/
def RxFrame.drop (f : RxFrame) : RxFrame := { f with discarded := true }

/-- The frame goes to no egress port of this device: to a ring, or to the twin (R131; 14 R372). -/
def State.leavesHere (s : State) : Dest → Bool
  | .ring _ => true
  | .port q => s.coveredPort q
  | _ => false

/-- Stages 6 to 8 for a frame that no earlier stage discards: contract and sequence, resolution, descriptor (R131 to R134, 08 R208 to
R210). A frame whose address discards it still goes to the ring of a classifier action 5. -/
def State.finish (s : State) (p vid vlan pcp : Nat) (h : Head) (f : RxFrame) (action hit stream : Option Nat)
    (ipv : Nat) (known : Option Nat) : State × RxFrame :=
  let se := (stream.map (fun i => Sparse.get 0 s.streams i)).getD 0
  let found := s.resolve p vlan h action hit
  let index := field se 50 14
  let under := stream.isSome && se.testBit 64
  let c := contractOf (s.contractEntry index)
  if s.setMarked (p / 4) found then (s.countDiscard p 0x0C, f.drop)
  else if under && s.marked (p / 4) 4 index then (s.breach (p / 12) index 9 0, f.drop)
  else
    let conform := under && c.valid && (c.state == 1 || c.state == 2) && s.policed index f.raw known && destMatches c found
    let s := if conform then s.countConforming index f.raw else if under then s.countOutOfContract index else s
    let a := action.getD 0
    let copy := if (a / 2 ^ 60) % 8 = 5 then some (field a 48 12) else none
    let dest := if found = .discard then (copy.map Dest.ring).getD .discard else found
    if under && !conform && !c.demote then (s.countDiscard p 0x0C, f.drop)
    else if dest = .discard then (s, f.drop)
    else
      let dbPriority := (hit.map (fun e => if e.testBit 15 then field e 12 3 else 8)).getD 8
      let priority := if ipv < 8 then ipv else if a.testBit 47 then field a 44 3 else if dbPriority < 8 then dbPriority else pcp
      let frer := if stream.isSome && !s.leavesHere dest then field se 22 2 else 0
      let fun_ := field se 10 12
      let (seq, s) := if frer = 1 then s.drawFrer fun_ else (0, s)
      let timing := a.testBit 37
      let tb := (h.ptp.bind (fun x => s.boundTb x.2.1 x.2.2.1)).getD 8
      let base := fun (conform : Bool) => ({
        ingress := p
        vid := vid
        priority := priority
        queue := if conform then 24 + c.queue else field a 38 5
        queueSet := conform || (a.testBit 43 && !under)
        contracted := conform
        contract := if conform then index else 0
        streamValid := stream.isSome
        stream := stream.getD 0
        frer := frer
        frerFunction := if frer = 0 then 0 else fun_
        cutThrough := if conform then c.cutThrough else s.cutThroughOk p action dest
        timing := timing
        gens := s.generations
        frerSeq := seq
        insert := if timing && decide (tb < 8) && (h.ptp.map (·.1)) == some 0 then 3 else 0
        passed := f.stamps.getD tb 0
        insertPort := p
        record := stampRecord (f.stamps.getD (tb % 8) 0).toNat p (s.stampFlags p (tb % 8) false) (f.epochs.getD (tb % 8) 0) 0 } : Descriptor)
      let (d, cover) := s.aim vlan (base conform) dest
      (s, { f with
        desc := some d
        coverMap := cover
        copyRing := if found = .discard then none else copy
        due := if conform && !s.leavesHere dest then some (s.dueOf index f.raw) else none
        contract := if conform then some index else none
        maxLength := if conform then c.maxLength else 0
        ifDemoted := if conform && c.demote then some (s.aim vlan (base false) dest).1 else none })

/-- The whole lookup of a frame whose window is complete (R110 to R134). `f` holds its stamps. -/
def State.lookup (s : State) (p : Nat) (f : RxFrame) (w : List Byte) : State × RxFrame :=
  let h := parseHead w
  let f := { f with window := w }
  let known := if w.length < 128 then some w.length else none
  if numAt w 12 2 = 0x8808 then (s.inc64 (0x2200 + p) 0x06, f.drop)
  else
    let vid := s.assignVid p h
    let vlan := Sparse.get 0 s.vlan vid
    let pcp := if h.tagged then h.pcp else s.nat (0x3100 + p) 0x03
    match s.vlanStage p vid h with
    | some sub => (s.countDiscard p sub, f.drop)
    | none =>
      if s.portState p = 0 then (s, f.drop)
      else if s.classifierMarked (p / 4) then (s.countDiscard p 0x0C, f.drop)
      else
        let action := s.classify (classifierKey p vid pcp h)
        let stream := (s.streamHandle action vid h).filter (fun i => (Sparse.get 0 s.streams i).testBit 127)
        let se := (stream.map (fun i => Sparse.get 0 s.streams i)).getD 0
        let marked := s.streamMarked (p / 4) action vid h
        let gate := if stream.isSome && se.testBit 32 then s.streamGate (field se 24 8) else (true, 8)
        let limit := if stream.isSome && !marked then field se 35 15 else 0
        let long := match known with
          | some n => limit != 0 && decide (limit < n)
          | none => false
        let hit := (s.fdbFind (field vlan 240 12) h.da).filter (fun i => !s.marked (p / 4) 0 i)
        let (s1, bad, learn) := s.sourceStage p vid vlan h ((action.map (fun a => a.testBit 36)).getD false)
        let s1 := if long then s1.blockStream (stream.getD 0) else s1
        let f := { f with learn := learn, stream := stream, maxSdu := limit }
        if marked || (stream.isSome && se.testBit 33) || !gate.1 || long then (s1.countDiscard p 0x0C, f.drop)
        else if bad then (s1, f.drop)
        else s1.finish p vid vlan pcp h f action (hit.map (fun i => Sparse.get 0 s1.fdb i)) stream gate.2 known

end Sys2Proof.Machine
end

