-- ==== Sys2Proof/Machine/Ingress.lean ====
section
/-! DEFINITION. Cells of a frame being received, from the port edge to the stage-one queues (05_forwarding.md R133, R135, R136, R130;
06 R160, R171; 07 R179, R181; 08 R210), and the ends of frames cut short. -/

namespace Sys2Proof.Machine

/-! ## Cells into the stage-one queues -/

/-- The copies a frame makes in the fabric: variant, destination region and descriptor (R131, R133; 14 R372). -/
def State.fabricCopies (s : State) (g : Nat) (f : RxFrame) : List (Nat × Nat × Descriptor) :=
  match f.desc with
  | none => []
  | some d =>
    let ringRegion := fun r => if r = 127 then g else s.nat (0xB100 + r) 0x06
    let main := match d.kind with
      | 0 => [(0, d.destination / 12, d)]
      | 3 => [(0, ringRegion d.destination, d)]
      | _ => ((items 8).filter (fun r => field d.portMap (12 * r) 12 != 0)).map (fun r =>
          (0, r, { d with kind := 2, destination := field d.portMap (12 * r) 12, untag := field d.untagMap (12 * r) 12 }))
    let copy := match f.copyRing with
      | some r => [(1, s.nat (0xB100 + r) 0x06,
          { d with kind := 3, destination := r, contracted := false, cutThrough := false, queueSet := false, frer := 0 })]
      | none => []
    let cover := if f.coverMap = 0 then []
      else
        let e := { d with kind := 3, destination := 127, portMap := f.coverMap, contracted := false, cutThrough := false }
        [(2, g, { e with queueSet := false, frer := 0 })]
    main ++ copy ++ cover

/-- Two waiting cells share one place of the ingress slice. -/
def Cell.samePlace (x y : Cell) : Bool := y.port == x.port && y.serial == x.serial && y.index == x.index

/-- A cell of the frame still waits for stage one in region `g`, so its place in the slice is still held. -/
def State.ingressHeld (s : State) (g : Nat) (x : Cell) : Bool :=
  let r := s.region g
  r.contracted.any x.samePlace || r.bestEffort.any (fun e => e.2.any x.samePlace)

/-- The place of a cell has been read with an uncorrectable error: whatever else is sent from it is void too (07 R183). -/
def State.voidPlace (s : State) (g : Nat) (x : Cell) : State :=
  let hit := fun (y : Cell) => if x.samePlace y then { y with void := true, spoilt := false } else y
  let r := s.region g
  s.setRegion g { r with contracted := r.contracted.map hit, bestEffort := r.bestEffort.remap [] (fun _ => List.map hit) }

/-- The place of a cell that has left the stage-one queues is free again when no other copy of it waits (R179). -/
def State.returnIngress (s : State) (g : Nat) (x : Cell) : State := if s.ingressHeld g x then s else s.returnCell g x.pool

/-- A cell is lost on its way to a region that is not fenced, which will find the hole it leaves (06 R165, R170, R171). -/
def State.noteLost (s : State) (x : Cell) : State :=
  if !x.valid || s.regionFenced x.destination then s
  else s.setRegion x.destination { s.region x.destination with lost := (s.region x.destination).lost ++ [x] }

/-- Put a cell into the region's stage-one queue: contracted in one queue, best effort by destination; a cell for a fenced region is
discarded and counted (06 R160, R171). A contracted cell goes on as it fills, and gates and release instants act at its egress queue alone, as 07
R190, R192 and 08 R214 have it; 01 R22, which speaks of a release from the ingress at a gate's instant, is read so (DEDUCED, log entry 105). -/
def State.offerCell (s : State) (g : Nat) (x : Cell) : State :=
  if s.regionFenced x.destination then s.inc64 0x3800 0x0A
  else
    let r := s.region g
    if x.contracted then s.setRegion g { r with contracted := r.contracted ++ [x] }
    else s.setRegion g { r with bestEffort := Sparse.set [] r.bestEffort x.destination (Sparse.get [] r.bestEffort x.destination ++ [x]) }

/-- One filled cell of a frame becomes a cell of each of its fabric copies. -/
def State.offerAll (s : State) (g : Nat) (f : RxFrame) (x : Cell) : State :=
  (s.fabricCopies g f).foldl (fun a c =>
    a.offerCell g { x with
      desc := if x.first then some c.2.2 else none
      tag := if x.first && c.2.2.contracted then x.tag else none
      contracted := c.2.2.contracted
      contract := c.2.2.contract
      owner := some c.2.2
      destination := c.2.1
      variant := c.1 }) s |>.returnIngress g x

/-- The contract tag of a first cell: whole ns from the entry time, a deadline rounded down and a release up (08 R210; log entry 10). -/
def tagOf (entry : Int) (due : Int × Int × Nat) : Tag where
  deadline := max 0 (min 1048575 ((due.1 - entry) / 65536))
  release := if due.2.1 = 0 then 0 else max 1 (min 1048575 (-((entry - due.2.1) / 65536)))
  occurrence := due.2.2

/-! ## Frames cut short -/

/-- The port edge or the region closes the frame with a bad tail: the cell that says so holds no place of the slice (R136). What comes
later is dropped. -/
def State.closeBad (s : State) (p : Nat) (f : RxFrame) (payload : List Byte) (pool : Nat) : State × RxFrame :=
  let entry := if f.filled then f.entry else cycleStart s.cycleNumber
  let x : Cell := {
    first := f.cells == 0
    last := true
    badTail := true
    source := p / 12
    port := p
    number := f.number
    serial := f.serial
    index := f.cells
    fillCycle := s.cycleNumber % 65536
    entry := entry
    pool := pool
    payload := payload
    epochChanged := f.epochChanged
    tag := f.due.map (tagOf entry) }
  (s.offerAll (p / 12) f x, { f with discarded := true, cells := f.cells + 1 })

/-- A frame whose way has been found and which is not discarded is closed bad, so that each egress port counts it; cells held for its tail are given
back, and nothing of it has gone out. Any other frame is dropped (R136). -/
def State.abortRx (s : State) (p : Nat) : State :=
  match s.rxAt p with
  | none => s
  | some f =>
    let s := s.setRx p none
    if f.discarded ∨ f.desc.isNone then s
    else if f.heldCells.isEmpty then (s.closeBad p f [] 4).1
    else
      let s := f.heldCells.foldl (fun a x => a.returnCell (p / 12) x.pool) s
      (s.closeBad p { f with heldCells := [], cells := 0 } [] 4).1

/-! ## PRP and HSR (R130) -/

/-- The port's redundancy pair; 0 = none. -/
def State.pairOf (s : State) (p : Nat) : Nat := s.nat (0x3100 + p) 0x07

/-- The port is in a pair of the given mode: 0 PRP, 1 HSR. -/
def State.inPair (s : State) (p mode : Nat) : Bool := s.pairOf p != 0 && s.nat (0x3100 + p) 0x08 == mode

/-- The LAN bit of a port: bit 24 for the lower-numbered port of the pair, bit 23 for the other (log entry 14). -/
def State.lanBit (s : State) (p : Nat) : Nat :=
  if (items p).any (fun q => s.pairOf q == s.pairOf p) then 23 else 24

/-- The window entry's fields: valid, pair, source, sequence (R130). -/
def windowEntryIs (pair source sequence e : Nat) : Bool :=
  e.testBit 95 && field e 89 6 == pair && field e 41 48 == source && field e 25 16 == sequence

/-- Whether an entry arrived within the entry forget time, ms (R130). -/
def State.windowFresh (s : State) (e : Nat) : Bool :=
  decide ((s.now / 1000000 % 2 ^ 23 + 2 ^ 23 - field e 0 23) % 2 ^ 23 ≤ s.nat 0x3000 0x0A)

/-- Entry `i` of the duplicate-discard window of region `g` as a lookup reads it: absent where it is unreadable (R147). -/
def State.windowEntry (s : State) (g i : Nat) : Nat :=
  if Config.windowUnreadable g i s.now then 0 else Sparse.get 0 (s.region g).dupWindow i

/-- Check a frame of a pair against the region's window: true when it is a duplicate to discard: a copy from the other port within the forget
time, or any copy once both ports have brought one (log entry 14). A first copy is entered; a bucket without an invalid entry loses its oldest,
counted in 3000h.0B (R130). -/
def State.duplicate (s : State) (p source sequence : Nat) : Bool × State :=
  let g := p / 12
  let pair := s.pairOf p
  let r := s.region g
  let b := (Config.dupBucket pair source sequence).val
  let ways := [4 * b, 4 * b + 1, 4 * b + 2, 4 * b + 3]
  let at_ := fun i => s.windowEntry g i
  let lan := s.lanBit p
  match ways.find? (fun i => windowEntryIs pair source sequence (at_ i) && s.windowFresh (at_ i)) with
  | some i =>
    if (at_ i).testBit lan then ((at_ i).testBit (47 - lan), s)
    else (true, s.setRegion g { r with dupWindow := Sparse.set 0 r.dupWindow i (setBit (at_ i) lan true) })
  | none =>
    let fresh := 2 ^ 95 + pair * 2 ^ 89 + source * 2 ^ 41 + sequence * 2 ^ 25 + 2 ^ lan + s.now / 1000000 % 2 ^ 23
    let age := fun i => (s.now / 1000000 % 2 ^ 23 + 2 ^ 23 - field (at_ i) 0 23) % 2 ^ 23
    let place := (ways.find? (fun i => windowEntryIs pair source sequence (at_ i))).orElse (fun _ => ways.find? (fun i => !(at_ i).testBit 95))
    let oldest := ways.foldl (fun o i => if age o < age i then i else o) (4 * b)
    let s := if place.isNone then s.inc64 0x3000 0x0B else s
    (false, s.setRegion g { r with dupWindow := Sparse.set 0 r.dupWindow (place.getD oldest) fresh })

/-- The sequence number of a PRP trailer: the suffix 88FBh stands in the last 2 bytes before the FCS, the number 4 bytes before it
(R114, IEC 62439-3). -/
def prpSequence (bytes : List Byte) : Option Nat :=
  let n := bytes.length
  if 10 ≤ n ∧ numAt bytes (n - 6) 2 = 0x88FB then some (numAt bytes (n - 10) 2) else none

/-! ## Filling cells -/

/-- Give the frame's next cell a place in the slice and offer it. `last` closes the frame, `bad` marks its tail. A first cell without a
place discards the frame; a later one closes it bad (07 R181). -/
def State.fillCell (s : State) (p : Nat) (f : RxFrame) (payload : List Byte) (last bad : Bool) : State × RxFrame :=
  let g := p / 12
  let contracted := (f.desc.map (·.contracted)).getD false
  let s0 := s
  match s.drawCell g (ingressPools contracted) with
  | none =>
    let s := s0.inc64 (0x4000 + g) 0x0B
    let s := match f.contract with
      | some i => s.breach g i 8 0
      | none => s
    if f.cells = 0 then (s, f.drop)
    else if f.heldCells.isEmpty then s.closeBad p f [] 4
    else (f.heldCells.foldl (fun a x => a.returnCell g x.pool) s, { f.drop with heldCells := [] })
  | some (k, s) =>
    let f := if f.filled then f else { f with filled := true, entry := cycleStart s.cycleNumber }
    let x : Cell := {
      first := f.cells == 0
      last := last
      badTail := last && bad
      source := g
      port := p
      number := f.number
      serial := f.serial
      index := f.cells
      fillCycle := s.cycleNumber % 65536
      entry := f.entry
      pool := k
      payload := payload
      epochChanged := f.epochChanged
      tag := f.due.map (tagOf f.entry) }
    let f := { f with cells := f.cells + 1 }
    if s.inPair p 0 && !last then (s, { f with heldCells := f.heldCells ++ [x] })
    else if s.inPair p 0 then
      let all := f.heldCells ++ [x]
      let back := fun (s : State) => all.foldl (fun a y => a.returnCell g y.pool) s
      if bad then (back s, { f.drop with heldCells := [] })
      else
        let sequence := prpSequence ((all.map (·.payload)).flatten)
        let (dup, s) := match sequence with
          | some n => s.duplicate p (parseHead f.window).sa n
          | none => (false, s)
        if dup then (back (s.inc64 (0x3100 + p) 0x0D), { f.drop with heldCells := [] })
        else (all.foldl (fun a y => a.offerAll g f y) s, { f with heldCells := [] })
    else if s.inPair p 1 && x.first then
      match (parseHead f.window).hsr with
      | some (n, _) =>
        let (dup, s) := s.duplicate p (parseHead f.window).sa n
        if dup then ((s.inc64 (0x3100 + p) 0x0D).returnCell g k, f.drop) else (s.offerAll g f x, f)
      | none => (s.offerAll g f x, f)
    else (s.offerAll g f x, f)

/-- Nothing of the frame has left the port edge. -/
def RxFrame.whole (f : RxFrame) : Bool := f.cells == 0 || !f.heldCells.isEmpty

/-- A frame taken for conforming turns out to be out of its contract (08 R208, R209). -/
def State.uncontract (s : State) (f : RxFrame) : State :=
  match f.contract with
  | some i =>
    let t := s.countOutOfContract i
    t.setContractAt i { t.contractAt i with conforming := (t.contractAt i).conforming - 1 }
  | none => s

/-- The contract's limit: the frame is counted out of contract; demoted where nothing of it has moved on, else it is to be closed bad, a filter
discard where its contract discards (08 R208, R209). -/
def State.passedContract (s : State) (p : Nat) (f : RxFrame) : State × RxFrame × Bool :=
  let s := s.uncontract f
  let g := { f with maxLength := 0, contract := none, ifDemoted := none }
  match f.ifDemoted with
  | some d => if f.whole then (s, { g with desc := some d, due := none }, false) else (s, g, true)
  | none => (s.inc64 (0x3100 + p) 0x0C, g, true)

/-- The port's maximum frame: counted once; a frame whose way has not been found is dropped (04 R93). -/
def State.judgeMaximum (s : State) (p : Nat) (f : RxFrame) : State × RxFrame × Bool :=
  if !f.oversize && decide (s.nat (0x2100 + p) 0x06 < f.bytes) then
    (s.inc64 (0x2200 + p) 0x05, { (if f.desc.isNone then f.drop else f) with oversize := true }, true)
  else (s, f, false)

/-- The stream's max_sdu: a filter discard, and the stream may be blocked (R123, R136). -/
def State.judgeSdu (s : State) (p : Nat) (f : RxFrame) : State × RxFrame × Bool :=
  if f.maxSdu ≠ 0 ∧ f.maxSdu < f.bytes then
    let s := (f.stream.map s.blockStream).getD s
    (if f.discarded then s else s.inc64 (0x3100 + p) 0x0C, { f with maxSdu := 0 }, true)
  else (s, f, false)

/-- The frame's length so far against the port's maximum frame, its stream's max_sdu and its contract's max_length, each of which acts: what is
counted, what becomes of the frame, and whether it is to be closed bad now (04 R93; R123, R136; 08 R208). -/
def State.judgeLength (s : State) (p : Nat) (f : RxFrame) : State × RxFrame × Bool :=
  let (s, f, above) := s.judgeMaximum p f
  let (s, f, long) := s.judgeSdu p f
  if f.maxLength ≠ 0 ∧ f.maxLength < f.bytes ∧ !f.discarded then
    if above || long then (s.uncontract f, { f with maxLength := 0, contract := none, ifDemoted := none }, true) else s.passedContract p f
  else (s, f, above || long)

/-- A receive association is installed (04 R95). -/
def State.receives (s : State) (p : Nat) : Bool := (s.port p).associations.any (fun e => decide (4 ≤ e.1) && e.2.isSome)

/-- MACsec was on at the frame's first byte and no receive association was installed: it has none (04 R95, R98, R100). -/
def RxFrame.unassociated (f : RxFrame) : Bool := f.secured && !f.associated

/-- Good frames in the port's statistics (04 R100). -/
def State.countGood (s : State) (p : Nat) (f : RxFrame) : State :=
  let s := (s.addSat (0x2200 + p) 0x01 64 f.bytes).inc64 (0x2200 + p) 0x02
  if f.secured then s.inc64 (0x2200 + p) 0x0D else s

/-- The values of a commit write or delete a key of the forwarding database (R128). -/
def writesKey (values : List OdValue) (fid mac : Nat) : Bool :=
  values.any (fun v => v.index == 0x3010 &&
    (items (v.bytes.length / 13)).any (fun i => fdbEntryKey (numAt v.bytes (13 * i + 1) 12) == (fid, mac)))

/-- The accepted commit that waits for its commit point: a host's, in front; those behind it, and the device's own, are judged at their turn
(16 R418). -/
def State.acceptedCommit (s : State) : Option PendingCommit := s.commits.head?.filter (fun c => decide (c.session < 8))

/-- Keys that an accepted commit writes or deletes: a learn for one of them is discarded (R128). -/
def State.commitWritesKey (s : State) (fid mac : Nat) : Bool := s.acceptedCommit.any (fun c => writesKey c.values fid mac)

/-- A learn message reaches the hub's queue: at most 8 per µs, beyond that dropped and counted (R127); one for a key that an accepted commit
writes or deletes is discarded (R128). -/
def State.learnMessage (s : State) (fid mac p : Nat) : State :=
  let fresh := decide (s.learnRate.2 + 1000 ≤ s.now)
  let n := if fresh then 0 else s.learnRate.1
  if n < 8 then
    { s with
      learns := if s.commitWritesKey fid mac then s.learns else s.learns ++ [(fid, mac, p)]
      learnRate := (n + 1, if fresh then s.now else s.learnRate.2) }
  else s.inc64 0x3000 0x04

end Sys2Proof.Machine
end

