-- ==== Sys2Proof/Machine/Forwarding.lean ====
section
/-! DEFINITION. The commands of the forwarding pipeline and its tables (05_forwarding.md): a frame's arrival, lookup, cells and tail,
learning and ageing, folding and draining, the scarab, stream gates, and frames from the hub. -/

namespace Sys2Proof.Machine

open Host

/-- FRAME_ARRIVAL: the first bit of a frame crosses the PCS boundary of an up port; it is stamped on every time
base by its cluster's replicas, and takes the associations in force (R110, 04 R98, 10 R260 to R263). -/
def execFrameArrival (p : PortId) (edge : StartEdge) (s : State) : Outcome State Fault Refusal :=
  if !s.portUp p || s.portFenced p || (s.rxAt p).isSome || s.isSafe then .next s
  else
    let (behind, s) := s.frameStart p (s.timingLane p) edge
    let c := p.val / 4
    let raw := fun k => s.clusterNow c k + behind
    let n := Sparse.get 0 s.frameCount p
    let f : RxFrame := {
      stamps := (items 8).map (fun k => s.referReceive p (raw k))
      epochs := (items 8).map (s.clusterEpoch c)
      flags := s.stampFlags p 0 false % 32
      raw := raw 0
      secured := s.flag (0x2100 + p) 0x07
      associated := s.receives p
      number := n % 512
      serial := n }
    .next ({ s with frameCount := Sparse.set 0 s.frameCount p (n + 1) }.setRx p (some f))

/-- LOOKUP_WINDOW_COMPLETE: the frame's first 128 bytes, or the whole of a shorter frame, run the pipeline; no lookup is started for a
frame shorter than 64 bytes (R110, R111). `unreadable` names the entries of its cluster's copies that this lookup reads with an uncorrectable error:
they act as marked ones do (R147). -/
def execLookupWindowComplete (p : PortId) (window : List Byte) (unreadable : List (TableId × Nat)) (s : State) : Outcome State Fault Refusal :=
  match s.rxAt p with
  | some f =>
    if f.desc.isSome || f.discarded || f.cells != 0 || decide (window.length < 64) then .next s
    else
      let met := unreadable.map (fun e => (p.val / 4, e.1.val, e.2))
      let (t, f) := ({ s with invalid := s.invalid ++ met }).lookup p f (window.take 128)
      .next ({ t with invalid := s.invalid }.setRx p (some f))
  | none => .next s

/-- The bytes of an Echo Request to the device are kept for its answer (16 R410). -/
def State.keepEcho (s : State) (f : RxFrame) (payload : List Byte) : RxFrame :=
  if s.isEcho f.window then { f with echo := f.echo ++ payload } else f

/-- CELL_FILL: a cell of the frame fills and is offered to the fabric (R135, 07 R179, R181); a frame that passes a length limit is closed bad,
at the maximum frame plus 1 byte where it passes that (R136). -/
def execCellFill (p : PortId) (payload : List Byte) (s : State) : Outcome State Fault Refusal :=
  let s := s.closePacket (p.val / 4)
  match s.rxAt p with
  | none => .next s
  | some f =>
    let room := s.nat (0x2100 + p) 0x06 + 1 - f.bytes
    let (s, f, close) := s.judgeLength p (s.keepEcho { f with bytes := f.bytes + payload.length } payload)
    if f.discarded || f.desc.isNone then .next (s.setRx p (some f))
    else if close then
      let (s, f) := s.fillCell p f (payload.take room) true true
      .next (s.setRx p (some { f.drop with learn := none }))
    else
      let (s, f) := s.fillCell p f payload false false
      .next (s.setRx p (some f))

/-- Count a frame in its port's statistics at its tail: one that passed the maximum frame is counted already, and a short one with a bad FCS is counted
as short alone (04 R93, R95, R100; DESIGN CHOICE, log entry 120). -/
def State.countTail (s : State) (p : Nat) (f : RxFrame) (kind : TailKind) : State :=
  if f.oversize then s
  else match kind with
    | .good =>
      if f.bytes < 64 then s.inc64 (0x2200 + p) 0x04
      else if f.unassociated then s.inc64 (0x2200 + p) 0x0C
      else s.countGood p f
    | .fcsError => if f.bytes < 64 then s.inc64 (0x2200 + p) 0x04 else s.inc64 (0x2200 + p) 0x03
    | .oversize => s.inc64 (0x2200 + p) 0x05
    | .macsecFail => s.inc64 (0x2200 + p) 0x0C
    | .cut => s

/-- FRAME_TAIL: the frame's tail reaches the port edge; a bad tail is marked on the last cell, which ends at the maximum frame plus 1 byte where the
frame passes that; an IPv6 request to the device is answered (R136, R127, 04 R93, R100, 16 R410). -/
def execFrameTail (p : PortId) (kind : TailKind) (payload : List Byte) (s : State) : Outcome State Fault Refusal :=
  let s := s.closePacket (p.val / 4)
  match s.rxAt p with
  | none => .next s
  | some f =>
    let room := s.nat (0x2100 + p) 0x06 + 1 - f.bytes
    let (s, f, close) := (s.setRx p none).judgeLength p (s.keepEcho { f with bytes := f.bytes + payload.length } payload)
    let good := decide (kind = TailKind.good) && decide (64 ≤ f.bytes) && !f.oversize && !f.unassociated
    let s := s.countTail p f kind
    let s := if good && !close then
        match f.learn with
        | some (fid, mac) => s.learnMessage fid mac p
        | none => s
      else s
    let s := if good && !close then s.answerIpv6 p f else s
    if f.discarded || f.desc.isNone then .next s
    else .next (s.fillCell p f (payload.take room) true (!good || close)).1

/-! ## Learning and ageing -/

/-- Where an insert of a forwarding database key may go: a free way, or after moving residents to their other bucket, at most 16 in
all (R125). With `n` moves left the resident in way n mod 4 of the first bucket moves, a static one too (DESIGN CHOICE, log entry 9). Answers the
new table, or none. -/
def fdbRoom (fdb : Sparse Nat) : Nat → Nat × Nat → Nat → Option (Sparse Nat)
  | 0, b, e => match (waysOf b).find? (fun i => !(Sparse.get 0 fdb i).testBit 95) with
    | some i => some (Sparse.set 0 fdb i e)
    | none => none
  | n + 1, b, e => match (waysOf b).find? (fun i => !(Sparse.get 0 fdb i).testBit 95) with
    | some i => some (Sparse.set 0 fdb i e)
    | none =>
      let i := 4 * b.1 + n % 4
      let old := Sparse.get 0 fdb i
      let ob := fdbBuckets (fdbEntryKey old).1 (fdbEntryKey old).2
      fdbRoom (Sparse.set 0 fdb i e) n (if ob.1 = b.1 then (ob.2, ob.2) else (ob.1, ob.1)) old

/-- Insert or replace an entry of the forwarding database; none = table full (R125). -/
def State.fdbInsert (s : State) (e : Nat) : Option State :=
  let k := fdbEntryKey e
  match s.fdbFind k.1 k.2 with
  | some i => some { s with fdb := Sparse.set 0 s.fdb i e }
  | none => (fdbRoom s.fdb 16 (fdbBuckets k.1 k.2) e).map (fun t => { s with fdb := t })

/-- Valid entries of the forwarding database: 3000h.09 as read. -/
def State.fdbOccupancy (s : State) : Nat := s.fdb.length

/-- LEARN_INSERT: the hub takes the oldest learn message: a new dynamic entry, a station move, or nothing (R127, R128). -/
def execLearnInsert (s : State) : Outcome State Fault Refusal :=
  match s.learns with
  | [] => .next s
  | (fid, mac, p) :: r =>
    let s := { s with learns := r }
    if s.commitWritesKey fid mac then .next s
    else
      match s.fdbFind fid mac with
      | some i =>
        let e := Sparse.get 0 s.fdb i
        if e.testBit 94 ∨ (field e 88 2 = 0 ∧ field e 16 12 = p) then .next s
        else
          let e := putField (putField (putField e 91 3 0) 88 2 0) 16 12 p
          .next ({ s with fdb := Sparse.set 0 s.fdb i e }.inc64 0x3000 0x03)
      | none =>
        let e := 2 ^ 95 + fid * 2 ^ 76 + mac * 2 ^ 28 + p * 2 ^ 16
        match s.fdbInsert e with
        | some s => .next s
        | none => .next (s.inc64 0x3000 0x02)

/-- AGEING_STEP: a quarter of the ageing time has passed; every dynamic entry ages, and leaves at 5 (R127). -/
def execAgeingStep (s : State) : Outcome State Fault Refusal :=
  .next { s with fdb := s.fdb.filterMap (fun e =>
    if e.2.testBit 94 then some e
    else if 4 ≤ field e.2 91 3 then none
    else some (e.1, putField e.2 91 3 (field e.2 91 3 + 1))) }

/-! ## Overlays, drains and the scarab -/

/-- OVERLAY_FOLD: the overlay of a table has been folded into it; no lookup result changes (R138). -/
def execOverlayFold (t : TableId) (s : State) : Outcome State Fault Refusal :=
  .next { s with folding := setBit s.folding t false }

/-- The generation of table `t` in force. -/
def State.generation (s : State) (t : Nat) : Nat := s.nat 0x3001 (1 + t)

/-- Generation a is older than generation b (R141). -/
def olderGeneration (a b : Nat) : Bool := decide (32768 ≤ (a + 65536 - b) % 65536)

/-- A frame being received leaves drain accounting when it is discarded, and when all its copies go to fenced regions (R142; 06 R172). -/
def State.rxCounts (s : State) (p : Nat) (f : RxFrame) : Bool :=
  !f.discarded && (s.fabricCopies (p / 12) f).any (fun c => !s.regionFenced c.2.1)

/-- The generations of table `t` of every frame still in the PQT-96: being received, in the stage-one queues, in flight, in fabric
queues and windows, in egress and host queues, on a hub channel; cells for a fenced region no longer count (R142, R143; 06 R172). -/
def State.heldGenerations (s : State) (t : Nat) : List Nat :=
  let ofDesc := fun (d : Descriptor) => [d.gens.getD t 0]
  let ofCells := fun (l : List Cell) => ((l.filter (fun x => !s.regionFenced x.destination)).filterMap (·.desc)).flatMap ofDesc
  let rx := s.rx.flatMap (fun e => match e.2 with
    | some f => if s.rxCounts e.1 f then (f.desc.map ofDesc).getD [] else []
    | none => [])
  let reg := s.regions.flatMap (fun e =>
    ofCells e.2.contracted ++ e.2.bestEffort.flatMap (fun q => ofCells q.2) ++ e.2.fabricQ.flatMap (fun q => ofCells q.2) ++
      e.2.window.flatMap (fun q => ofCells q.2) ++ e.2.nextWindow.flatMap (fun q => ofCells q.2) ++
      (e.2.hostQueue ++ e.2.hubUp.toList).flatMap (fun c => ofDesc c.desc))
  let queues := s.queues.flatMap (fun e => e.2.copies.flatMap (fun c => ofDesc c.desc))
  rx ++ reg ++ s.flights.flatMap (fun e => ofCells e.2) ++ queues

/-- The index of a table's DOMAIN entry (R149, 08 R224). -/
def tableIndex : Nat → Nat
  | 0 => 0x3010 | 1 => 0x3020 | 2 => 0x3030 | 3 => 0x3040 | 4 => 0x5010 | _ => 0x3050

/-- A value of table `t`. -/
def ofTable (t : Nat) (v : OdValue) : Bool := v.sub == 1 && v.index == tableIndex t

/-- The accepted commit that waits for its commit point writes table `t`: 1, else 0 (R142). -/
def State.waitingWrites (s : State) (t : Nat) : Nat := ofBool (s.acceptedCommit.any (fun c => c.values.any (ofTable t)))

/-- DRAIN_TABLE: a host starts a drain; its target is the generation once every slice has the latest accepted commit. Drains of several tables may be
pending; target and status show the one started last (R142; DESIGN CHOICE, log entry 120). -/
def execDrainTable (role : Role) (t : TableId) (s : State) : Outcome State Fault Refusal :=
  .next (s.hostWrite role 0x3001 0x10 fun s =>
    let target := (s.generation t + s.waitingWrites t) % 65536
    let s := { s with drains := Sparse.set none s.drains t (some target), lastDrain := some t }
    ((s.setNat 0x3001 0x11 target).setNat 0x3001 0x12 1).done)

/-- DRAIN_COMPLETE: no frame of a generation older than the drain's target remains (R142). -/
def execDrainComplete (t : TableId) (s : State) : Outcome State Fault Refusal :=
  match Sparse.get none s.drains t with
  | none => .next s
  | some target =>
    if (s.heldGenerations t).any (fun g => olderGeneration g target) then .next s
    else if olderGeneration (s.generation t) target && s.waitingWrites t != 0 then .next s
    else
      let s := { s with drains := Sparse.set none s.drains t none }
      .next (if s.lastDrain = some t.val then s.setNat 0x3001 0x12 2 else s)

/-- TABLE_SCRUB: the scarab reads an entry, or compares a block (position / 256), of cluster c's copy of a table (R145, R146). -/
def execTableScrub (c : ClusterId) (t : TableId) (position : Nat) (finding : ScrubFinding) (s : State) :
    Outcome State Fault Refusal :=
  match finding with
  | .clean => .next s
  | .single => .next (s.inc64 0x3000 0x07)
  | .uncorrectable =>
    .next ({ s with invalid := s.invalid ++ [(c.val, t.val, position)] }.inc64 0x3000 0x08 |>.raise (576 + 8 * c + 1) t)
  | .blockMismatch =>
    .next ({ s with invalid := s.invalid ++ [(c.val, t.val, 2 ^ 20 + position)] }.inc64 0x3000 0x08 |>.raise (576 + 8 * c + 1) t)

/-! ## FRER and stream gates -/

/-- FRER_RESET_TIMEOUT: no frame for the function's reset timeout: its recovery starts anew (R124). -/
def execFrerResetTimeout (f : Fin 4096) (s : State) : Outcome State Fault Refusal :=
  let x := Sparse.get {} s.frer f
  if x.kind = 2 then .next { s with frer := Sparse.set {} s.frer f { x with recent := none, seen := 0 } } else .next s

/-- STREAM_GATE_LIST_ACTIVATION: the administrative list replaces the operational one at its first cycle start (R123). -/
def execStreamGateListActivation (g : Fin 256) (s : State) : Outcome State Fault Refusal :=
  let x := Sparse.get {} s.gates g
  match x.pending with
  | none => .next s
  | some l =>
    if (s.tb 0).running && decide (l.base ≤ s.tb0Ns) then
      .next { s with gates := Sparse.set {} s.gates g { pending := none, operational := some l, position := l.positionAt s.tb0Ns } }
    else .next s

/-- STREAM_GATE_INTERVAL_END: the gate takes the interval in force (R123). -/
def execStreamGateIntervalEnd (g : Fin 256) (s : State) : Outcome State Fault Refusal :=
  let x := Sparse.get {} s.gates g
  match x.operational with
  | none => .next s
  | some l => .next { s with gates := Sparse.set {} s.gates g { x with position := l.positionAt s.tb0Ns } }

/-! ## Frames from the hub -/

/-- The cells of a payload, 256 bytes each. -/
def cellsOf : Nat → List Byte → List (List Byte)
  | 0, _ => []
  | n + 1, l => if l.length ≤ 256 then [l] else l.take 256 :: cellsOf n (l.drop 256)

/-- A frame of the hub enters region `g` through its hub channel: cells drawn from the ingress pool, generations of the master copy
(R133, R207, 06 R159, 01 R21). The PQT-96 sends no MAC Control frame: one from the hub is dropped, counted nowhere (04 R93; DESIGN CHOICE, log
entry 55). -/
def State.hubFrame (s : State) (g : Nat) (d : Descriptor) (payload : List Byte) : State :=
  if numAt payload 12 2 = 0x8808 then s
  else
    let n := Sparse.get 0 s.frameCount 127
    let s := { s with frameCount := Sparse.set 0 s.frameCount 127 (n + 1) }
    let f : RxFrame := {
      number := n % 512
      serial := n
      entry := cycleStart s.cycleNumber
      desc := some { d with ingress := 127, gens := s.generations } }
    let parts := cellsOf 65 payload
    if parts.length = 0 then s
    else
      let count := parts.length
      let step := fun (a : State × Bool) (i : Nat) =>
        if a.2 then a
        else match a.1.drawCell g [0] with
          | none =>
            let s := a.1.inc64 (0x4000 + g) 0x0B
            if i = 0 then (s, true)
            else (s.offerAll g f { last := true, badTail := true, source := g, port := 127, number := n % 512, serial := n, index := i,
                                   fillCycle := s.cycleNumber % 65536, entry := f.entry }, true)
          | some (k, s) =>
            (s.offerAll g f { first := i == 0, last := i + 1 == count, source := g, port := 127, number := n % 512, serial := n, index := i, pool := k,
                              fillCycle := s.cycleNumber % 65536, entry := f.entry, payload := parts.getD i [] }, false)
      ((items count).foldl step (s, false)).1

end Sys2Proof.Machine
end

