-- ==== Sys2Proof/Machine/Assembly.lean ====
section
/-! DEFINITION. Frame assembly at the destination region: cells released by the reorder stage become copies in egress and host queues
(06 R164 to R166, 07 R179 to R188, 05 R124, R136, 08 R219). -/

namespace Sys2Proof.Machine

/-! ## FRER recovery (05 R124) -/

/-- The vector recovery algorithm: whether a sequence number is new, and the function's state after it. -/
def FrerX.take (x : FrerX) (n : Nat) : Bool × FrerX :=
  match x.recent with
  | none => (true, { x with recent := some n, seen := 1, passed := min (x.passed + 1) (2 ^ 64 - 1) })
  | some r =>
    let d := signed 16 ((n + 65536 - r) % 65536)
    if (x.history : Int) ≤ d ∨ d ≤ -(x.history : Int) then (false, { x with discarded := min (x.discarded + 1) (2 ^ 64 - 1) })
    else if 0 < d then
      (true, { x with recent := some n, seen := x.seen * 2 ^ d.toNat % 2 ^ x.history + 1, passed := min (x.passed + 1) (2 ^ 64 - 1) })
    else if x.seen.testBit (-d).toNat then (false, { x with discarded := min (x.discarded + 1) (2 ^ 64 - 1) })
    else (true, { x with seen := setBit x.seen (-d).toNat true, passed := min (x.passed + 1) (2 ^ 64 - 1) })

/-- The frame's first cell passes its recovery function, or is a later copy to discard; a void cell shows no sequence number. -/
def State.frerPasses (s : State) (d : Descriptor) (x : Cell) : Bool × State :=
  if d.frer < 2 || x.void then (true, s)
  else
    match (parseHead (x.payload.take 128)).rtag with
    | none => (true, s)
    | some (n, _) =>
      let (ok, y) := (Sparse.get {} s.frer d.frerFunction : FrerX).take n
      (ok, { s with frer := Sparse.set {} s.frer d.frerFunction y })

/-! ## Copies -/

/-- Whether a best-effort or contracted copy may be cut through at port `p`: eligible, and the port no faster than the ingress (05 R134). -/
def State.eligible (s : State) (p : Nat) (c : Copy) : Bool :=
  c.desc.cutThrough && decide (c.desc.ingress < 96) && decide (s.portRate p ≤ s.portRate c.desc.ingress) && !c.waitTail

/-- The copy's cells are enough to start: the tail is in, or it is eligible and meets its start threshold (05 R135). -/
def State.enough (s : State) (p : Nat) (c : Copy) : Bool :=
  c.complete || (s.eligible p c && decide (startThreshold (s.portRate p) ≤ c.cells.length) &&
    (c.desc.contracted || !(s.region (p / 12)).ctHold))

/-- A held copy that now has enough to start: by how much it is after its release instant (08 R219 code 6). -/
def State.noteReady (s : State) (p : Nat) (c : Copy) : Copy :=
  match c.release with
  | none => c
  | some e => if c.lateBy.isNone && s.enough p c then { c with lateBy := some ((s.tbNow 0 : Int) - e) } else c

/-- A copy as its first cell makes it (07 R196, 08 R210). -/
def copyOf (x : Cell) (d : Descriptor) : Copy :=
  let entry := (cycleStart (x.arrival - (x.arrival + 65536 - x.fillCycle) % 65536) : Int)
  { port := x.port
    number := x.number
    serial := x.serial
    variant := x.variant
    desc := d
    cells := [x]
    complete := x.last
    waitTail := x.late
    entry := entry
    deadline := x.tag.map (fun t => entry + t.deadline * 65536)
    release := x.tag.bind (fun t => if t.release = 0 then none else some (entry + t.release * 65536))
    epochChanged := x.epochChanged }

/-- Put a copy at the end of an egress queue (R186). -/
def State.enqueue (s : State) (p q : Nat) (c : Copy) : State :=
  let x := s.queue p q
  (s.setQueue p q { x with copies := x.copies ++ [s.noteReady p c] }).judgeQueue p q

/-- Why a copy is turned away at the queue's input: 1 lost at link-down, 2 tail drop; 0 = admitted (R188, R199, 02 R34). -/
def State.turnedAway (s : State) (p q : Nat) : Nat :=
  if s.portFenced p ∨ (!s.portUp p ∧ s.flag (0x4010 + p) 0x02) then 1
  else if s.nat (queueIndex p q) 0x03 ≤ (s.queue p q).occupancy then 2 else 0

/-- Admit one port copy of a frame to its queue, or refuse it (R188, R199). -/
def State.admitCopy (s : State) (p : Nat) (c : Copy) : State :=
  let q := s.queueOf p c.desc
  match s.turnedAway p q with
  | 0 => s.enqueue p q c
  | 1 => s.inc64 (0x4010 + p) 0x07
  | _ => ((s.inc64 (queueIndex p q) 0x0B).putBit (queueIndex p q) 0x07 3 true).copyBreach (p / 12) c 3 0

/-- The ports of a copy: its own, or those of a region copy's mask with their untag bits (05 R132, R133). -/
def copyPorts (g : Nat) (d : Descriptor) : List (Nat × Descriptor) :=
  if d.kind = 0 then [(d.destination, d)]
  else if d.kind = 2 then
    ((items 12).filter (fun j => d.destination.testBit j)).map (fun j => (12 * g + j, { d with untag := ofBool (d.untag.testBit j) }))
  else []

/-- The pools of an arriving cell of a copy, by the queue it is bound for (07 R179). -/
def State.poolsOf (s : State) (g : Nat) (d : Descriptor) : List Nat :=
  if d.kind = 3 then egressPools 32
  else match copyPorts g d with
    | (p, e) :: _ => egressPools (s.queueOf p e)
    | [] => [3]

/-- An arriving cell is written into the buffer slice of region `g` at once (R164, 07 R179); one that finds no free cell is counted and handled
when it is released (07 R181). -/
def State.placeCell (s : State) (g : Nat) (x : Cell) : Cell × State :=
  match s.drawCell g (s.poolsOf g (x.owner.getD {})) with
  | some (k, s) => ({ x with pool := k }, s)
  | none => ({ x with pool := 4, unplaced := true }, s.inc64 (0x4000 + g) 0x0B)

/-- The breach code of a lost or void cell of a copy at region `g`: none when a fence that suspends its contract lost it (06 R171; 08 R219,
R221). -/
def State.lossCode (s : State) (g source contract : Nat) : Nat :=
  if (s.region g).closing.testBit source && s.suspended contract then 0 else 5

/-- The breach code of a copy that loses a cell. -/
def State.copyLossCode (s : State) (g : Nat) (c : Copy) : Nat := s.lossCode g c.source c.desc.contract

/-- The breach code of a copy whose cell `x` is bad, void, out of place or without a place: of several the lowest; none where the frame itself
came in bad (08 R219). -/
def State.cellCode (s : State) (g : Nat) (x : Cell) (misplaced : Bool) : Nat :=
  if x.badTail then 0 else if x.void || misplaced then s.lossCode g x.source x.contract else if x.unplaced then 8 else 0

/-- The copies of cell `x` for the ports of region `g` are discarded before they are queued, each counted in 3100h.0A (05 R136, R165). -/
def State.loseCopies (s : State) (g : Nat) (x : Cell) (d : Descriptor) (code : Nat) : State :=
  (copyPorts g d).foldl (fun a pd =>
    (if code = 0 then a else a.copyBreach g { copyOf x d with desc := pd.2 } code 0).inc64 (0x3100 + pd.1) 0x0A) s

/-- The first cell of a copy of a frame is released in region `g` (R186, R188, 05 R124, 07 R180, R181). -/
def State.firstCell (s : State) (g : Nat) (x : Cell) (d : Descriptor) : State :=
  let (pass, s) := s.frerPasses d x
  let c := copyOf x d
  let spoilt := x.void || x.badTail || x.unplaced
  if !pass || (spoilt && d.kind = 3) then s.returnCell g x.pool
  else if d.kind = 3 then s.setRegion g { s.region g with hostQueue := (s.region g).hostQueue ++ [c] }
  else if spoilt then (s.loseCopies g x d (s.cellCode g x false)).returnCell g x.pool
  else
    let s := (copyPorts g d).foldl (fun a pd => a.admitCopy pd.1 { c with desc := pd.2 }) s
    if s.copyHeld g c then s else s.returnCell g x.pool

/-- Add a later cell to every copy of its frame (R188). -/
def State.appendCell (s : State) (g : Nat) (x : Cell) : State :=
  let grow := fun (c : Copy) => { c with
    cells := c.cells ++ [x]
    complete := x.last
    waitTail := c.waitTail || x.late
    epochChanged := c.epochChanged || x.epochChanged }
  let s := s.queues.foldl (fun a e =>
    if e.1 / 384 = g ∧ e.2.copies.any (fun c => c.holds x) then
      let pq := queuePlace e.1
      let q := a.queue pq.1 pq.2
      (a.setQueue pq.1 pq.2 { q with copies := q.copies.map (fun c =>
        if c.holds x then a.noteReady pq.1 (grow c) else c) }).judgeQueue pq.1 pq.2
    else a) s
  let r := s.region g
  s.setRegion g { r with hostQueue := r.hostQueue.map (fun c => if c.holds x then grow c else c) }

/-- Any copy of the frame the cell belongs to. -/
def State.heldFrame (s : State) (g : Nat) (x : Cell) : Option Copy :=
  match s.queues.findSome? (fun e => if e.1 / 384 = g then e.2.copies.find? (fun c => c.holds x) else none) with
  | some c => some c
  | none => (s.region g).hostQueue.find? (fun c => c.holds x)

/-- The key of RegionX.opened of a cell's port, variant and class. -/
def Cell.openKey (x : Cell) : Nat := 8 * (if x.port < 96 then x.port else 96 + x.source) + 2 * x.variant + ofBool x.contracted

/-- The first cell of the frame of `x` has been released, or its loss has been handled. -/
def State.markOpened (s : State) (g : Nat) (x : Cell) : State :=
  s.setRegion g { s.region g with opened := Sparse.set 0 (s.region g).opened x.openKey (x.serial + 1) }

/-- A later cell whose frame has no copy here: it is discarded; where its first cell has never come, the copy has lost it, once (R165; 08 R219). -/
def State.headless (s : State) (g : Nat) (x : Cell) : State :=
  let s := s.returnCell g x.pool
  if Sparse.get 0 (s.region g).opened x.openKey = x.serial + 1 then s
  else match x.owner with
    | some d => (s.markOpened g x).loseCopies g x d (s.cellCode g x true)
    | none => s

/-- A later cell of a frame copy is released: its copies grow; a missing or void cell, one that found no place, or a bad tail, makes them bad
(05 R136, 06 R165, 07 R181). -/
def State.laterCell (s : State) (g : Nat) (x : Cell) : State :=
  match s.heldFrame g x with
  | none => s.headless g x
  | some c =>
    let misplaced := decide (x.index ≠ c.cells.length)
    if misplaced || x.void || x.unplaced || x.badTail then
      let code := s.cellCode g x misplaced
      (s.returnCell g x.pool).badCopies g (fun d => d.holds x) (misplaced || x.void || x.unplaced) (fun _ => code)
    else s.appendCell g x

/-- A cell for region `g` that has been lost on the way is declared lost there: its copy is one whose tail is bad, also where none of it has come
(R165; 08 R211, R219 codes 5 and 10). -/
def State.loseCell (s : State) (g : Nat) (x : Cell) : State := s.laterCell g { x with void := true, pool := 4 }

/-- A copy that is still incomplete when a newer frame of its port begins has lost its last cell (06 R165; log entry 15). Frames from the hub are
in order from each region. -/
def Copy.orphanOf (x : Cell) (c : Copy) : Bool :=
  !c.complete && c.port == x.port && c.variant == x.variant && c.serial != x.serial && c.desc.contracted == x.contracted &&
    (decide (x.port < 96) || (c.cells.head?.map (·.source)) == some x.source)

/-- A cell released by the reorder stage enters frame assembly (R164). A placeholder of a frame discarded for age is passed over. -/
def State.assemble (s : State) (g : Nat) (x : Cell) : State :=
  if x.first then
    let s := (s.badCopies g (Copy.orphanOf x) true (fun c => s.copyLossCode g c)).markOpened g x
    match x.desc with
    | some d => if x.valid then s.firstCell g x d else s
    | none => s
  else if x.valid then s.laterCell g x
  else s

end Sys2Proof.Machine
end

