-- ==== Sys2Proof/Machine/Fabric.lean ====
section
/-! DEFINITION. The cyclic fabric (06_cyclic_fabric.md): slots, credits, arrivals, reorder, alignment, epochs. -/

namespace Sys2Proof.Machine

open Host

/-! ## Channel groups -/

/-- Region `m` counts as fenced for region `g`'s slots: fenced, or one of the two just unfenced and not yet aligned (R160, R174). -/
def State.shut (s : State) (g m : Nat) : Bool :=
  s.regionFenced m || (s.region g).restoreWait.testBit m || (s.region g).restoreWait.testBit g

/-- The fault source of the link end of region `g` toward region `f`; none within one region (15 R380). -/
def linkSource (g f : Nat) : Option Nat :=
  if g = f then none
  else if g / 2 = f / 2 then some (768 + 32 * g + 24)
  else some (768 + 32 * g + 21 + (if f / 2 < g / 2 then f / 2 else f / 2 - 1))

/-- A void cell or dropped header at the end of region `g` toward `f`: more than 16 within 1 ms raise its fault, and are gathered anew (R170). -/
def State.linkError (s : State) (g f : Nat) : State :=
  match linkSource g f with
  | none => s
  | some src =>
    let k := src - (768 + 32 * g)
    let r := s.region g
    let recent := (Sparse.get [] r.linkErrors k).filter (fun t => decide (s.now < t + 1000000))
    if recent.length < 16 then s.setRegion g { r with linkErrors := Sparse.set [] r.linkErrors k (recent ++ [s.now]) }
    else (s.setRegion g { r with linkErrors := Sparse.set [] r.linkErrors k [] }).raise src 0

/-! ## Slots -/

/-- The destination that best effort serves next toward `m`: round-robin after last_d, waiting and with credit; no credit stands for a region just
unfenced (R160, R162, R170, R174). -/
def RegionX.nextBest (r : RegionX) (m : Nat) : Option Nat :=
  if r.resyncFrom.testBit m then none
  else ((items 8).map (fun i => (r.lastD + 1 + i) % 8)).find? (fun d =>
    !(Sparse.get [] r.bestEffort d).isEmpty && !r.restoreWait.testBit d && decide (Sparse.get 0 r.spent (8 * m + d) < 2))

/-- Stamp a cell as it leaves stage one of region `g` toward `m`: source, via, epoch and sequence of its stream (R159); one read with an
uncorrectable error leaves void. It is counted in 4000h.0D where its words are read and not in 3800h.07, which counts what a receiver's payload_crc
finds (R169; 07 R183; DEDUCED, log entry 119). -/
def State.sendStageOne (s : State) (g m : Nat) (x : Cell) : State :=
  let r := s.region g
  let k := 2 * x.destination + ofBool x.contracted
  let n := Sparse.get 0 r.nextSeq k
  let y := { x with
    void := x.void || x.spoilt
    spoilt := false
    source := g
    via := m
    epoch := r.epoch
    sequence := n
    creditReturn := Sparse.get 0 r.owed m
    resync := r.resyncTo.testBit m }
  let s := s.setRegion g { r with
    nextSeq := Sparse.set 0 r.nextSeq k ((n + 1) % 4096)
    owed := Sparse.set 0 r.owed m 0 }
  let s := s.readWords g x.serial
  let s := if x.spoilt then (s.inc64 (0x4000 + g) 0x0D).voidPlace g x else s
  (s.setFlight 0 g m (s.flight 0 g m ++ [y])).returnIngress g x

/-- An idle cell toward `m`: it carries the credits and the resync owed (R158, R160). -/
def State.sendIdle (s : State) (g m : Nat) : State :=
  let r := s.region g
  let x : Cell := { valid := false, source := g, via := m, creditReturn := Sparse.get 0 r.owed m, resync := r.resyncTo.testBit m }
  let s := s.setRegion g { r with owed := Sparse.set 0 r.owed m 0 }
  s.setFlight 0 g m (s.flight 0 g m ++ [x])

/-- The region adjusts its cycle: its start lies more than 0.4 ns from TB0's (R155). -/
def RegionX.adjusts (r : RegionX) : Bool := decide (400 < r.offset ∨ r.offset < -400)

/-- Slot 7 of a region that must move earlier has 1 region clock and carries no cell (R155). -/
def RegionX.shortens (r : RegionX) (sl : Nat) : Bool := sl == 7 && decide (400 < r.offset)

/-- Stage one of region `g` in slot `sl` (R160, R176). -/
def State.stageOne (s : State) (sl g : Nat) : State :=
  if s.regionFenced g then s
  else
    let m := (g + sl) % 8
    let r := s.region g
    let c := 0x3810 + g
    if s.shut g m then s.perfAdd c 1 1
    else if r.shortens sl then s.perfAdd c 2 1
    else if !s.crossingCredit 0 g m then s.perfAdd c 3 1
    else match r.contracted with
      | x :: rest => ((s.setRegion g { r with contracted := rest }).sendStageOne g m x).perfAdd c 4 1
      | [] =>
        match r.nextBest m with
        | some d =>
          match Sparse.get [] r.bestEffort d with
          | x :: rest =>
            ((s.setRegion g { r with
                bestEffort := Sparse.set [] r.bestEffort d rest
                spent := Sparse.set 0 r.spent (8 * m + d) (Sparse.get 0 r.spent (8 * m + d) + 1)
                lastD := d }).sendStageOne g m x).perfAdd c 5 1
          | [] => s
        | none =>
          if r.bestEffort.isEmpty then (s.sendIdle g m).perfAdd c 7 1 else (s.sendIdle g m).perfAdd c 6 1

/-- Best effort left at intermediate `m` for `d`, as the backlog field says it, 0 to 15 (R158, R163). -/
def RegionX.backlogOf (r : RegionX) (d : Nat) : Nat := min 15 (Sparse.get [] r.fabricQ (2 * d)).length

/-- Stage two of intermediate region `m` in slot `sl` (R163, R171, R176). -/
def State.stageTwo (s : State) (sl m : Nat) : State :=
  if s.regionFenced m then s
  else
    let d := (m + sl) % 8
    let r := s.region m
    let c := 0x3810 + m
    let qc := Sparse.get [] r.fabricQ (2 * d + 1)
    let qb := Sparse.get [] r.fabricQ (2 * d)
    if s.regionFenced d then
      let s := match qc, qb with
        | _ :: rest, _ => (s.setRegion m { r with fabricQ := Sparse.set [] r.fabricQ (2 * d + 1) rest }).inc64 0x3800 0x0A
        | [], _ :: rest => (s.setRegion m { r with fabricQ := Sparse.set [] r.fabricQ (2 * d) rest }).inc64 0x3800 0x0A
        | [], [] => s
      s.perfAdd c 8 1
    else if s.shut m d then s.perfAdd c 8 1
    else if r.shortens sl then s.perfAdd c 9 1
    else if !s.crossingCredit 1 m d then s.perfAdd c 0x0A 1
    else match qc, qb with
      | x :: rest, _ =>
        let r := { r with fabricQ := Sparse.set [] r.fabricQ (2 * d + 1) rest }
        ((s.setRegion m r).setFlight 1 m d (s.flight 1 m d ++ [{ x with backlog := r.backlogOf d }])).perfAdd c 0x0B 1
      | [], x :: rest =>
        let r := { r with
          fabricQ := Sparse.set [] r.fabricQ (2 * d) rest
          owed := Sparse.set 0 r.owed x.source (setBit (Sparse.get 0 r.owed x.source) d true) }
        ((s.setRegion m r).setFlight 1 m d (s.flight 1 m d ++ [{ x with backlog := r.backlogOf d }])).perfAdd c 0x0C 1
      | [], [] => (s.setFlight 1 m d (s.flight 1 m d ++ [{ valid := false, source := m, via := m, backlog := r.backlogOf d }])).perfAdd c 0x0D 1

/-! ## Alignment -/

/-- Cells in flight anywhere in the fabric are not judged for lateness: an adjusted cycle or a step crosses them (R166). -/
def State.unjudgeFlights (s : State) : State :=
  let mark := fun (l : List Cell) => l.map (fun x => { x with unjudged := true })
  { s with
    flights := s.flights.remap [] (fun _ => mark)
    regions := s.regions.remap {} (fun _ r => { r with
      fabricQ := r.fabricQ.remap [] (fun _ => mark)
      contracted := mark r.contracted
      bestEffort := r.bestEffort.remap [] (fun _ => mark) }) }

/-- The cycle of region `g` ends adjusted: it has moved by 0.8 ns toward TB0 (R155). -/
def State.adjustCycle (s : State) (g : Nat) : State :=
  let r := s.region g
  if s.regionFenced g || !r.adjusts then s
  else ((s.setRegion g { r with offset := if 0 < r.offset then r.offset - 800 else r.offset + 800 }).addSat 0x3800 0x04 32 1).unjudgeFlights

/-- The least offset of a cycle start from a grid of 12.8 ns, ps (R155, R156). -/
def wrapOffset (ps : Int) : Int := (ps + 6400) % 12800 - 6400

/-- A mark shows region `g` how late its cycles start (R155); 3800h.03 shows the last one measured (log entry 16). -/
def State.takeOffset (s : State) (g : Nat) (ps : Int) : State :=
  (s.setReg 0x3800 0x03 (wrapOffset ps)).setRegion g { s.region g with offset := wrapOffset ps }

/-- An accepted step of TB0 by `ps`: the extra mark shows every region the offset that the step leaves, which it takes away in the shorter
direction; what is in flight is not judged (R156, R166). -/
def State.fabricFollowsStep (s : State) (ps : Int) : State :=
  if !s.fabricRuns then s
  else ((items 8).foldl (fun a g => if a.regionFenced g then a else a.takeOffset g ((a.region g).offset + ps)) s).unjudgeFlights

/-- Some running region realigns: 3800h.02 (R155, R177; log entry 16). -/
def State.realigning (s : State) : Bool := (items 8).any (fun g => !s.regionFenced g && (s.region g).adjusts)

/-- 3800h.02 as read: 0 not running, 1 aligned, 2 realigning (R177). -/
def State.alignmentStatus (s : State) : Nat := if !s.fabricRuns then 0 else if s.realigning then 2 else 1

/-- ALIGNMENT_MARK: region `g` measures by how much its cycles start late; beyond ±0.4 ns it adjusts its cycles until it is aligned (R155). -/
def execAlignmentMark (g : RegionId) (offsetPs : Int) (s : State) : Outcome State Fault Refusal :=
  .next (if !s.fabricRuns ∨ s.regionFenced g then s else s.takeOffset g offsetPs)

/-- FABRIC_SLOT: every region sends in both stages toward the regions of the slot; slot 7 ends the cycle, which a realigning region adjusts
(R151 to R163, R176). The fabric runs whenever TB0 runs (01 R25). -/
def execFabricSlot (slot : Fin 8) (s : State) : Outcome State Fault Refusal :=
  if !s.fabricRuns then .next s
  else
    let s := if slot = 0 then (items 8).foldl State.beginCycle s else s
    let s := (items 8).foldl (fun a g => a.stageOne slot g) s
    let s := (items 8).foldl (fun a m => a.stageTwo slot m) s
    .next (if slot = 7 then (items 8).foldl State.adjustCycle s else s)

/-! ## Arrivals -/

/-- The credits and the resync that a stage-one cell from `f` brings to region `g` (R162, R170). -/
def State.takeCredits (s : State) (g f : Nat) (x : Cell) : State :=
  let r := s.region g
  let back := fun sp => (items 8).foldl (fun m d =>
    if x.creditReturn.testBit d then Sparse.set 0 m (8 * f + d) (Sparse.get 0 m (8 * f + d) - 1) else m) sp
  let r := { r with spent := back r.spent }
  let r := if x.resync then { r with resyncFrom := setBit r.resyncFrom f true }
    else if r.resyncFrom.testBit f then { r with
      resyncFrom := setBit r.resyncFrom f false
      spent := (items 8).foldl (fun m d => Sparse.set 0 m (8 * f + d) 0) r.spent }
    else r
  s.setRegion g r

/-- A cell of stage one enters the fabric queue of its destination at intermediate `m`; a contracted cell at a full queue is discarded
with a breach (R153, R161). -/
def State.intoFabricQueue (s : State) (m : Nat) (x : Cell) : State :=
  let r := s.region m
  let k := 2 * x.destination + ofBool x.contracted
  let q := Sparse.get [] r.fabricQ k
  if x.contracted ∧ 8 ≤ q.length then
    let s := s.inc64 0x3800 0x09
    if s.overflowed.contains (x.port, x.serial, x.destination) then s
    else { s with overflowed := (x.port, x.serial, x.destination) :: s.overflowed }.breach m x.contract 4 0
  else s.setRegion m { r with fabricQ := Sparse.set [] r.fabricQ k (q ++ [x]) }

/-- Release the expected cell of a stream and its consecutive successors (R164). -/
def State.releaseRun (s : State) (g k : Nat) : Nat → State
  | 0 => s
  | n + 1 =>
    let r := s.region g
    let e := Sparse.get 0 r.expected k
    let w := Sparse.get [] r.window k
    match w.find? (fun x => x.sequence == e) with
    | none => s
    | some x =>
      let s := s.setRegion g { r with
        expected := Sparse.set 0 r.expected k ((e + 1) % 4096)
        window := Sparse.set [] r.window k (w.filter (fun y => y.sequence != e)) }
      (s.assemble g x).releaseRun g k n

/-- Whether a cell came late: arrival cycle minus fill cycle, signed 16 bits, above 5 (R166). -/
def lateCell (arrival fill : Nat) : Bool := decide (5 < signed 16 ((arrival + 65536 - fill % 65536) % 65536))

/-- A copy of the cell's frame that has not started waits for its tail (R166). -/
def State.waitTails (s : State) (g : Nat) (x : Cell) : State :=
  { s with queues := s.queues.remap {} (fun k e =>
      if k / 384 = g then { e with copies := e.copies.map (fun c => if c.holds x && !c.started then { c with waitTail := true } else c) }
      else e) }

/-- A cell of stage two arrives at its destination region: backlog, lateness, epoch, window (R164, R166, R167, R173). -/
def State.intoReorder (s : State) (g : Nat) (x : Cell) : State :=
  let s := if 1 < x.backlog then s.setRegion g { s.region g with ctHold := true } else s
  let now := s.cycleNumber
  let late := !x.unjudged && lateCell now x.fillCycle
  let x := { x with arrival := now, late := late }
  let s := if late then (s.inc64 0x3800 0x0B).waitTails g x else s
  let k := 2 * x.source + ofBool x.contracted
  let r := s.region g
  let cur := Sparse.get 0 r.inEpoch x.source
  if x.epoch = cur then
    let ahead := (x.sequence + 4096 - Sparse.get 0 r.expected k) % 4096
    if 2048 ≤ ahead then s.inc64 0x3800 0x06
    else if 63 < ahead then ((s.inc64 0x3800 0x06).raise (768 + 32 * g + 18) 0).noteLost x
    else
      let (x, s) := s.placeCell g x
      let r := s.region g
      (s.setRegion g { r with window := Sparse.set [] r.window k (Sparse.get [] r.window k ++ [x]) }).releaseRun g k 64
  else if x.epoch = (cur + 1) % 4 then
    if 63 < x.sequence then ((s.inc64 0x3800 0x06).raise (768 + 32 * g + 18) 0).noteLost x
    else
      let (x, s) := s.placeCell g x
      let r := s.region g
      s.setRegion g { r with nextWindow := Sparse.set [] r.nextWindow k (Sparse.get [] r.nextWindow k ++ [x]) }
  else s.inc64 0x3800 0x06

/-- CELL_ARRIVAL: the oldest cell on a channel group arrives; its header and payload are checked, and it goes on (R169, R170, R153,
R164). -/
def execCellArrival (stage2 : Bool) (from_ to_ : RegionId) (header : HeaderCheck) (payloadOk : Bool) (s : State) :
    Outcome State Fault Refusal :=
  let st := ofBool stage2
  match s.flight st from_ to_ with
  | [] => .next s
  | x :: rest =>
    let s := (s.setFlight st from_ to_ rest).closePacket (24 + to_.val)
    if s.regionFenced to_ then .next s
    else if header = .uncorrectable then
      let s := (s.inc64 0x3800 0x0C).linkError to_ from_
      let s := (match linkSource to_ from_ with
        | some src => s.raise src 0
        | none => s).noteLost x
      .next (if stage2 then s else s.setRegion to_ { s.region to_ with resyncTo := setBit (s.region to_).resyncTo from_ true })
    else
      let s := if stage2 then s else s.takeCredits to_ from_ x
      if !x.valid then .next s
      else
        let corrupt := !payloadOk && !x.void
        let s := if corrupt then (s.inc64 0x3800 0x07).linkError to_ from_ else s
        let x := if corrupt then { x with void := true } else x
        .next (if stage2 then s.intoReorder to_ x else s.intoFabricQueue to_ x)

/-- The cells of a stream that were lost on the way under a test of epoch and sequence are declared lost (R165, R173). -/
def State.declareLost (s : State) (g k : Nat) (f : Cell → Bool) : State :=
  let mine := fun (x : Cell) => 2 * x.source + ofBool x.contracted == k && f x
  let r := s.region g
  (r.lost.filter mine).foldl (fun a x => a.loseCell g x) (s.setRegion g { r with lost := r.lost.filter (fun x => !mine x) })

/-- HOLE_TIMEOUT: the expected cell of a stream is declared lost, its copy is one whose tail is bad, and release goes on past it (R165). -/
def execHoleTimeout (dst src : RegionId) (contracted : Bool) (s : State) : Outcome State Fault Refusal :=
  let k := 2 * src.val + ofBool contracted
  let r := s.region dst
  let e := Sparse.get 0 r.expected k
  if (Sparse.get [] r.window k).isEmpty then .next s
  else
    let cur := Sparse.get 0 r.inEpoch src
    let s := (s.inc64 0x3800 0x08).declareLost dst k (fun x => x.epoch == cur && x.sequence == e)
    .next ((s.setRegion dst { s.region dst with expected := Sparse.set 0 r.expected k ((e + 1) % 4096) }).releaseRun dst k 64)

/-- RESYNC_CLEAR: intermediate `m` holds no best-effort cell from `src` and 4 cycles have passed: it clears resync toward it (R170). -/
def execResyncClear (m src : RegionId) (s : State) : Outcome State Fault Refusal :=
  let r := s.region m
  if (items 8).any (fun d => (Sparse.get [] r.fabricQ (2 * d)).any (fun x => x.source == src.val)) then .next s
  else .next (s.setRegion m { r with resyncTo := setBit r.resyncTo src false })

/-- CUT_THROUGH_HOLD_RELEASE: every backlog report to region `g` for 8 cycles has been 1 or less (R167). -/
def execCutThroughHoldRelease (g : RegionId) (s : State) : Outcome State Fault Refusal :=
  .next (s.setRegion g { s.region g with ctHold := false })

/-! ## Epochs and credits after fences -/

/-- The cells held in the window of stream `k`, in order of sequence. -/
def RegionX.inSequence (r : RegionX) (k : Nat) : List Cell :=
  (items 64).flatMap (fun i => (Sparse.get [] r.window k).filter (fun x => x.sequence == (Sparse.get 0 r.expected k + i) % 4096))

/-- Close the old epoch of the streams from source `f` at destination `g`: what is held behind holes is released past them, copies still
missing cells are handled as having lost them, and the next epoch becomes current (R165, R171, R173). -/
def State.closeEpoch (s : State) (g f : Nat) : State :=
  let r := s.region g
  let held := r.inSequence (2 * f) ++ r.inSequence (2 * f + 1)
  let s := s.setRegion g { r with window := Sparse.set [] (Sparse.set [] r.window (2 * f) []) (2 * f + 1) [] }
  let s := held.foldl (fun a x => a.assemble g x) s
  let old := fun (x : Cell) => x.epoch == Sparse.get 0 r.inEpoch f
  let s := (s.declareLost g (2 * f) old).declareLost g (2 * f + 1) old
  let s := s.badCopies g (fun c => !c.complete && (c.cells.head?.map (·.source)) == some f) true (fun c => s.copyLossCode g c)
  let s := s.addSat 0x3800 0x0D 32 2
  let r := s.region g
  let s := s.setRegion g { r with
    closing := setBit r.closing f false
    inEpoch := Sparse.set 0 r.inEpoch f ((Sparse.get 0 r.inEpoch f + 1) % 4)
    expected := Sparse.set 0 (Sparse.set 0 r.expected (2 * f) 0) (2 * f + 1) 0
    window := Sparse.set [] (Sparse.set [] r.window (2 * f) (Sparse.get [] r.nextWindow (2 * f))) (2 * f + 1)
      (Sparse.get [] r.nextWindow (2 * f + 1))
    nextWindow := Sparse.set [] (Sparse.set [] r.nextWindow (2 * f) []) (2 * f + 1) [] }
  (s.releaseRun g (2 * f) 64).releaseRun g (2 * f + 1) 64

/-- EPOCH_CLOSE: 1 µs after a fence notice, destination `dst` closes the old epoch of every stream that has one open (R171, R173). -/
def execEpochClose (dst : RegionId) (s : State) : Outcome State Fault Refusal :=
  if s.regionFenced dst then .next s
  else .next ((items 8).foldl (fun a f => if (a.region dst).closing.testBit f then a.closeEpoch dst f else a) s)

/-- Region `f` restores 2 credits for each pair that includes region `g`, and uses slots toward it again; what it owed over such a pair is owed no
more (R162, R174). -/
def State.restorePairs (s : State) (g f : Nat) : State :=
  let r := s.region f
  s.setRegion f { r with
    restoreWait := setBit r.restoreWait g false
    owed := if f = g then [] else (r.owed.remap 0 (fun _ v => setBit v g false)).drop g
    spent := r.spent.filter (fun e => !(e.1 / 8 == g || e.1 % 8 == g || f == g)) }

/-- CREDIT_RESTORE: the interface of a region just unfenced is aligned: every region has 2 credits again for each pair that includes
it, and uses slots toward it again (R174). -/
def execCreditRestore (g : RegionId) (s : State) : Outcome State Fault Refusal :=
  .next (if s.regionFenced g || (s.region g).adjusts then s else (items 8).foldl (fun a f => a.restorePairs g f) s)

end Sys2Proof.Machine
end

