-- ==== Sys2Proof/Machine/Patterns.lean ====
section
/-! DEFINITION. The test patterns of a lane (03_lanes.md R82, R83): what the generator sends and what the checker takes for correct. A PAM4
symbol stands for its two Gray-coded bits. -/

namespace Sys2Proof.Machine

/-- The exponents above 0 of a pseudo-random pattern's polynomial, highest first: bit i is the sum of the bits that many places before
it. PRBS13Q and PRBS31Q are the Gray-coded PRBS13 and PRBS31 (R82). -/
def prbsDelays : Nat → Option (List Nat)
  | 0 => some [7, 6]
  | 1 => some [9, 5]
  | 2 => some [13, 12, 2, 1]
  | 3 => some [15, 14]
  | 4 => some [23, 18]
  | 5 => some [31, 28]
  | 6 => some [13, 12, 2, 1]
  | 7 => some [31, 28]
  | _ => none

/-- The two bits of a PAM4 level, and the level of two bits: Gray coding, levels 0 to 3 = 00, 01, 11, 10 (R82). -/
def grayBits (level : Nat) : List Bool :=
  if level = 0 then [false, false] else if level = 1 then [false, true] else if level = 2 then [true, true] else [true, false]
def grayLevel (a b : Bool) : Nat := if a then (if b then 2 else 3) else (if b then 1 else 0)

/-- One period of a pattern that only repeats: the square wave of 8 symbols high and 8 low, or the 64 bits of the user pattern, most
significant first (R82). -/
def patternPeriod (code : Nat) (pam4 : Bool) (user : Nat) : List Bool :=
  if code = 9 then
    let symbol := fun (high : Bool) => if pam4 then grayBits (if high then 3 else 0) else [high]
    (List.replicate 8 (symbol true) ++ List.replicate 8 (symbol false)).flatten
  else (items 64).map (fun i => user.testBit (63 - i))

/-- The next bit of a pseudo-random pattern after the bits in `before`, newest first. -/
def prbsNext (delays : List Nat) (before : List Bool) : Bool := delays.foldl (fun b d => b != before.getD (d - 1) false) false

/-- The first `n` bits of a pseudo-random pattern, newest first, from a register of ones (the start is a DESIGN CHOICE, log entry 100). -/
def prbsBits (delays : List Nat) : Nat → List Bool
  | 0 => []
  | n + 1 =>
    let before := prbsBits delays n
    prbsNext delays (before ++ List.replicate 31 true) :: before

/-- The first `n` bits that a generator sends, in order (R82). SSPRQ is what IEEE 802.3 defines and the spec does not repeat. -/
def generated (code : Nat) (pam4 : Bool) (user n : Nat) : List Bool :=
  match prbsDelays code with
  | some d => (prbsBits d n).reverse
  | none =>
    if code = 8 then (items n).map Config.ssprqBit
    else
      let p := patternPeriod code pam4 user
      (items n).map (fun i => p.getD (i % p.length) false)

/-- The last `n` of the received bits follow a pseudo-random pattern: each is what the bits before it call for, and they are not all 0. -/
def prbsFollows (delays : List Nat) (n : Nat) (bits : List Bool) : Bool :=
  let newest := bits.reverse
  decide (n + delays.headD 0 ≤ bits.length) && (newest.take (delays.headD 0)).any (fun b => b) &&
    (items n).all (fun i => newest.getD i false == prbsNext delays (newest.drop (i + 1)))

/-- The last `n` of the received bits follow a repeating pattern, from any of its places. -/
def periodFollows (p : List Bool) (n : Nat) (bits : List Bool) : Bool :=
  let last := bits.drop (bits.length - n)
  decide (n ≤ bits.length) && (items p.length).any (fun o => (items n).all (fun i => last.getD i false == p.getD ((o + i) % p.length) false))

/-- The last `n` received bits are correct for a checker's pattern (R82, R83). -/
def patternFollows (code : Nat) (pam4 : Bool) (user n : Nat) (bits : List Bool) : Bool :=
  match prbsDelays code with
  | some d => prbsFollows d n bits
  | none => if code = 8 then Config.ssprqFollows n bits else periodFollows (patternPeriod code pam4 user) n bits

end Sys2Proof.Machine
end

