-- ==== Sys2Proof/Machine/LaneTiming.lean ====
section
/-! DEFINITION. The spare detector and the calibration of a lane in service, as other families meet them (10 R265, R266; 13 R337 to
R345): starting a lane, abandoning one, and what a stale or missing measurement does to a port's timing. -/

namespace Sys2Proof.Machine

/-- The ports whose timestamps rest on lane `l`, in either direction. -/
def State.portsOn (s : State) (l : Nat) : List Nat :=
  ((items 4).map (fun i => 4 * (l / 4) + i)).filter (fun p => (s.timingLane p == l || s.sendingLane p == l) && s.mode p != 0)

/-- The detector cause of a port follows its detector and its timestamp unit (10 R276, R277; 02 R33). -/
def State.judgeDetectorCause (s : State) (p : Nat) : State :=
  let c := s.stampMissing p
  if hasCause (s.tim p).causes 3 = c then s else s.putCause p 3 c

/-- The vernier cause of a port follows the stale flags of its lanes (13 R343). -/
def State.judgeVernierCause (s : State) (p : Nat) : State :=
  let c := s.delaysStale p
  if hasCause (s.tim p).causes 4 = c then s else s.putCause p 4 c

/-- The detector causes of the four ports of a cluster. -/
def State.judgeDetectors (s : State) (c : Nat) : State := (items 4).foldl (fun a i => a.judgeDetectorCause (4 * c + i)) s

/-- The measured values of lane `l` hold and carry the stale flag (13 R343). -/
def State.makeStale (s : State) (l : Nat) : State :=
  (s.portsOn l).foldl (fun a p => if a.portSynt p then a.judgeVernierCause p else a) (s.putBit (0x8100 + l) 0x0A 3 true)

/-- The spare of cluster `c`, when free and whole, takes the lowest lane that is up and whose detector is fenced; in a start, in test, and while a
lane recovers from a fence or a re-adapt it takes over nothing (02 R33; 10 R265; 13 R343). -/
def State.assignSpare (s : State) (c : Nat) : State :=
  let up := fun (l : Nat) => s.nat (0x2000 + l) 0x02 == 6 || s.nat (0x2000 + l) 0x02 == 7
  if s.nat (0x2500 + c) 0x01 < 4 ∨ s.detectorFenced (5 * c + 4) ∨ !s.isUp then s
  else match (items 4).find? (fun j => s.hasFence .detector (5 * c + j) && up (4 * c + j)) with
    | some j =>
      let spare := 5 * c + 4
      ((s.setDetector spare ((s.detector spare).connect (s.detector (5 * c + j)))).setNat (0x2500 + c) 0x01 j).inc32 (0x2500 + c) 0x03
    | none => s

/-- The detector is at rest: it measures alongside no other, and what its calibration held is gone. -/
def DetectorX.rest (x : DetectorX) : DetectorX := { x with phase := 0, failures := 0, shadow := none, spanned := false }

/-! ## Lane calibration -/

/-- A detector of cluster `c` is being calibrated, or measures beside the spare. -/
def State.clusterBusy (s : State) (c : Nat) : Bool := (items 5).any (fun j => (s.detector (5 * c + j)).phase != 0)

/-- Lane `l` may be calibrated now: its cluster runs, its lane PLL is locked, its replica is in no fault, its cluster is free, its detector and the spare are whole, the spare serves no other lane, the
resistor reads good, and its port is up with the lane in stage 6 or 7 (R339, R344; 10 R266). -/
def State.canCalibrate (s : State) (l : Nat) : Bool :=
  let c := l / 4
  let st := s.nat (0x2000 + l) 0x02
  decide (l < 96) && s.isUp && s.nat 0x8000 0x05 == 0 && !s.clusterFenced c && !s.pllLost.testBit c && (s.replica c).status != 2 && !s.clusterBusy c && !s.detectorFenced (5 * c + l % 4) &&
    !s.detectorFenced (5 * c + 4) && (decide (4 ≤ s.nat (0x2500 + c) 0x01) || s.nat (0x2500 + c) 0x01 == l % 4) &&
    (st == 6 || st == 7) &&
    (items 4).any (fun i => s.portUp (4 * c + i) && decide (4 * c + i ≤ l ∧ l < 4 * c + i + modeLanes (s.mode (4 * c + i))))

/-- t0 of R265: the spare is connected to the lane and measures beside its detector; a spare that serves the lane since a fence goes on,
and the calibration is at t2 (R265, R339, R347). -/
def State.startLane (s : State) (l : Nat) : State :=
  let d := 5 * (l / 4) + l % 4
  let spare := 5 * (l / 4) + 4
  let fenced := decide (s.nat (0x2500 + l / 4) 0x01 = l % 4)
  let s := if fenced then s else s.setDetector spare ((s.detector spare).connect (s.detector d))
  let s := s.setDetector d { (s.detector d).rest with phase := if fenced then 2 else 1 }
  (s.putBit (0x8100 + l) 0x0A 1 false).putBit (0x8100 + l) 0x0A 0 true

/-- Start the lane of cluster `c` whose turn it is: a lane with stale values or of a port unverified with cause vernier ahead of its
turn, else the lowest that is due (R344). -/
def State.calibrateNext (s : State) (c : Nat) : State :=
  let lanes := (items 4).map (fun i => 4 * c + i)
  let urgent := fun (l : Nat) => s.bit (0x8100 + l) 0x0A 3 || (s.portsOn l).any (fun p => hasCause (s.tim p).causes 4)
  match (lanes.find? (fun l => urgent l && s.canCalibrate l)).orElse
      (fun _ => lanes.find? (fun l => s.bit (0x8100 + l) 0x0A 1 && s.canCalibrate l)) with
  | some l => s.startLane l
  | none => s

/-- The calibration of lane `l` is abandoned: shadows are discarded, the detector goes on with its previous trims, the spare is freed
unless it serves a fence, and the lane is due again (R345, 10 R266). -/
def State.abandonLane (s : State) (l : Nat) : State :=
  if !s.bit (0x8100 + l) 0x0A 0 then s
  else
    let c := l / 4
    let d := 5 * c + l % 4
    let i := 0x8100 + l
    let s := ((s.putBit i 0x0A 0 false).putBit i 0x0A 4 true).putBit i 0x0A 1 true
    let s := s.setTrim l { s.trim l with signal := none, timing := none }
    let s := (s.putBit i 0x0A 2 false).setDetector d (s.detector d).rest
    if s.nat (0x2500 + c) 0x01 = l % 4 ∧ !s.detectorFenced d then s.setNat (0x2500 + c) 0x01 0xFF else s

end Sys2Proof.Machine
end

