-- ==== Sys2Proof/Machine/Codec.lean ====
section
/-! DEFINITION. Values as bytes (16_object_dictionary.md R405) and tables as records (05_forwarding.md R149): what a read, an image and
the mirror carry. -/

namespace Sys2Proof.Machine

/-- The bytes of a numeric value: most significant first, a signed type in two's complement (R405). TIME80 is kept as its 80 bits. -/
def numBytes (ty : OdType) (v : Int) : List Byte := toBytes ty.size (wrapInt (8 * ty.size) v)

/-- The number that bytes of a type spell (R405). -/
def numOf (ty : OdType) (b : List Byte) : Int := if ty.signed then signed (8 * ty.size) (ofBytes b) else (ofBytes b : Nat)

/-! ## Tables -/

/-- The table of a table DOMAIN and the bytes of its entry: forwarding database, VLAN, classifier, stream, port sets, contracts (R149;
08 R224). -/
def entryBytes (idx : Nat) : Nat :=
  if idx = 0x3010 then 12 else if idx = 0x3020 then 32 else if idx = 0x3030 then 72 else if idx = 0x3040 then 16
  else if idx = 0x3050 then 16 else if idx = 0x5010 then 32 else 0

/-- Written by key, so that no index precedes the entry (R149). -/
def keyedTable (idx : Nat) : Bool := idx == 0x3010 || idx == 0x3040

/-- Valid bit of an entry of a table, counted from bit 0; port sets have none (05 R116, R120, R122, R126; 08 R205). -/
def validBit (idx : Nat) : Option Nat :=
  if idx = 0x3010 then some 95 else if idx = 0x3020 then some 255 else if idx = 0x3030 then some 63
  else if idx = 0x3040 then some 127 else if idx = 0x5010 then some 255 else none

/-- The master copy of a table. -/
def State.table (s : State) (idx : Nat) : Sparse Nat :=
  if idx = 0x3010 then s.fdb else if idx = 0x3020 then s.vlan else if idx = 0x3030 then s.classifier
  else if idx = 0x3040 then s.streams else if idx = 0x3050 then s.portSets else if idx = 0x5010 then s.contracts else []

/-- A table's listed entries as records: the entry by key, or index and entry. With `op`, each begins with the operation 01h insert. -/
def tableRecords (idx : Nat) (op : Bool) (t : Sparse Nat) : List Byte :=
  (t.map (fun e => (if op then [0x01#8] else []) ++ (if keyedTable idx then [] else toBytes 2 e.1) ++
    toBytes (entryBytes idx) e.2)).flatten

/-- A FRER function's record: type, history length, reset timeout in ms, frames passed and discarded (R124; the widths are a
DESIGN CHOICE, log entry 18). -/
def frerRecord (f : Nat) (x : FrerX) : List Byte :=
  toBytes 2 f ++ toBytes 1 x.kind ++ toBytes 1 x.history ++ toBytes 4 x.timeoutMs ++ toBytes 8 x.passed ++ toBytes 8 x.discarded

/-- The list that a stream gate shows: the one waiting, else the operational one. -/
def GateX.list (x : GateX) : Option GateList := x.pending.orElse (fun _ => x.operational)

/-- A stream gate's record: its number, then its list in the layout of 4010h.03 (R123; the layout is a DESIGN CHOICE, log entry 18). -/
def gateRecord (g : Nat) (x : GateX) : List Byte :=
  match x.list with
  | some l => toBytes 2 g ++ gateListBytes l
  | none => []

/-- What a read of a table DOMAIN returns: its entries in order, those written by index behind their index (R149; log entry 18). -/
def State.tableBytes (s : State) (idx : Nat) : List Byte :=
  if idx = 0x3070 then (s.frer.map (fun e => frerRecord e.1 e.2)).flatten
  else if idx = 0x3080 then (s.gates.map (fun e => gateRecord e.1 e.2)).flatten
  else tableRecords idx false (s.table idx)

/-- A write of a table DOMAIN that would make the present table out of an empty one (19 R482, 14 R365). -/
def State.tableImage (s : State) (idx : Nat) (only : Nat → Bool) : List Byte :=
  if idx = 0x3070 then (s.frer.map (fun e => 0x01#8 :: frerRecord e.1 e.2)).flatten
  else if idx = 0x3080 then (s.gates.filterMap (fun e =>
    match e.2.list with
    | some _ => some (0x01#8 :: gateRecord e.1 e.2)
    | none => none)).flatten
  else tableRecords idx true ((s.table idx).filter (fun e => only e.2))

/-- The indices whose subindex 01h is a table DOMAIN (R149; 08 R224). -/
def tableIndices : List Nat := [0x3010, 0x3020, 0x3030, 0x3040, 0x3050, 0x3070, 0x3080, 0x5010]

/-- The default setting of a fault source comes from `faultDefault`; the bytes of A100h.01 are the 1,536 settings, two bytes each. -/
def settingsBytes (setting : Nat → Nat) : List Byte := ((items 1536).map (fun n => toBytes 2 (setting n))).flatten

/-- The bytes of an entry as it stands in `regs` or `blobs`. -/
def State.rawBytes (s : State) (idx sub : Nat) : List Byte :=
  match findEntry idx sub with
  | none => []
  | some e => if e.ty.isBlob then s.blob idx sub else numBytes e.ty (s.reg idx sub)

/-- The entries a test names that differ from their default, and the tables it names: an image from which the device's settings can
be made again (19 R482, 14 R365). Of the forwarding database, the static entries (14 R363). -/
def State.imageOf (s : State) (keep : Nat → Nat → Bool) (setting : Nat → Nat) : List OdValue :=
  let here := fun (k : Nat) => keep (k / 256) (k % 256)
  let value := fun (k : Nat) => OdValue.mk (k / 256) (k % 256) (s.rawBytes (k / 256) (k % 256))
  ((s.regs.map (·.1)).filter here).map value ++ ((s.blobs.map (·.1)).filter here).map value ++
    ((tableIndices.filter (fun i => keep i 1)).map (fun i =>
      OdValue.mk i 1 (s.tableImage i (fun e => i != 0x3010 || e.testBit 94)))).filter (fun v => !v.bytes.isEmpty) ++
    (if keep 0xA100 1 && !s.settings.isEmpty then [OdValue.mk 0xA100 1 (settingsBytes setting)] else [])

end Sys2Proof.Machine
end

