-- ==== Sys2Proof/Machine/Keacon.lean ====
section
/-! DEFINITION. Keacon frames (14_twin_pair.md R350 to R352): how one is built, what of an arriving one is taken, and the order of a class. -/

namespace Sys2Proof.Machine

/-- The most bytes of payload (R352). -/
def keaconLimit : Nat := 16480

/-- The header of 8 bytes (R352). -/
def keaconHeader (cls sequence length sender : Nat) : List Byte :=
  toBytes 1 cls ++ [0] ++ toBytes 2 sequence ++ toBytes 2 length ++ [BitVec.ofNat 8 (sender % 2), 0]

/-- The preamble and the start delimiter of IEEE 802.3 (R352; PRESUMED, log entry 127). -/
def preamble : List Byte := List.replicate 7 0x55 ++ [0xD5]

/-- A Keacon frame: preamble and delimiter, header, payload, and the FCS over the latter two (R352). -/
def keaconFrame (cls sequence sender : Nat) (payload : List Byte) : List Byte :=
  let b := keaconHeader cls sequence payload.length sender ++ payload
  preamble ++ b ++ fcsBytes b

/-! ## Payloads: the manual names what they hold and gives no layout (R349, R351, R364, R372, R374; DESIGN CHOICE, log entry 111) -/

/-- A control frame: its code, and the port or epoch it names; code 7 carries 96 cover states. -/
def controlPayload (code value : Nat) : List Byte := BitVec.ofNat 8 code :: (if code = 7 then toBytes 96 value else toBytes 4 value)

/-- A handshake: code 0, serial number, TWIN_ID, firmware version, layout version (R349). -/
def State.handshakePayload (s : State) : List Byte :=
  0 :: (toBytes 8 (s.nat 0x1000 0x02) ++ toBytes 1 (s.nat 0x1000 0x09) ++ toBytes 4 (s.nat 0x1000 0x04) ++ toBytes 2 (s.nat 0x1000 0x05))

/-- A cover frame: destination mask, VID, priority, untag bits, the frame (R372). -/
def CoverFrame.bytes (f : CoverFrame) : List Byte :=
  toBytes 12 f.ports ++ toBytes 2 f.vid ++ toBytes 1 f.priority ++ toBytes 12 f.untag ++ f.payload

/-- A mirrored commit or an image: which it is, its epoch, and each value with its entry and length (R364, R365). -/
def MirrorCommit.bytes (m : MirrorCommit) : List Byte :=
  toBytes 1 (ofBool m.image) ++ toBytes 4 m.epoch ++
    m.values.flatMap (fun v => toBytes 2 v.index ++ toBytes 1 v.sub ++ toBytes 4 v.bytes.length ++ v.bytes)

/-- The sequence of the next frame of a class to be sent, and the state after so many of them (R352). -/
def State.nextKeacon (s : State) (cls n : Nat) : Nat × State :=
  let q := Sparse.get 0 s.twin.sendSeq cls
  (q, { s with twin := { s.twin with sendSeq := Sparse.set 0 s.twin.sendSeq cls ((q + n) % 65536) } })

/-- An arriving frame is one of its class: its header says so, its payload is not too long and its FCS is good. Any other is discarded, and counts as lost when its place is given up
(R350, R352). -/
def goodKeacon (cls : Nat) (h : KeaconHead) : Bool := h.fcsOk && h.cls == cls && decide (h.length ≤ keaconLimit)

/-- How far a frame lies ahead of the one expected of its class (R350). -/
def State.keaconAhead (s : State) (cls sequence : Nat) : Nat := (sequence + 65536 - Sparse.get 0 s.twin.classSeq cls) % 65536

/-- The expected sequence of a class moves on by so many frames. -/
def State.keaconPast (s : State) (cls n : Nat) : State :=
  { s with twin := { s.twin with classSeq := Sparse.set 0 s.twin.classSeq cls ((Sparse.get 0 s.twin.classSeq cls + n) % 65536) } }

/-- A frame within the window of 64 is held until those before it are in (R350). -/
def State.holdKeacon (s : State) (h : KeaconHeld) : State :=
  if s.twin.held.any (fun x => x.cls == h.cls && x.head.sequence == h.head.sequence) then s
  else { s with twin := { s.twin with held := s.twin.held ++ [h] } }

/-- The held frame that is now expected of a class. -/
def State.dueKeacon (s : State) (cls : Nat) : Option KeaconHeld :=
  s.twin.held.find? (fun x => x.cls == cls && x.head.sequence % 65536 == Sparse.get 0 s.twin.classSeq cls)

/-- A hole stands in a class: a later frame of it is held (R350). -/
def State.keaconHole (s : State) (cls : Nat) : Bool := s.twin.held.any (fun x => x.cls == cls)

end Sys2Proof.Machine
end

