-- ==== Sys2Proof/Machine/Sources.lean ====
section
/-! DEFINITION. The fault sources (15_faults.md R380): unit, level, place and default setting of each, and the settings in force
(R383). -/

namespace Sys2Proof.Machine

/-- A setting: severity in bits 15:13, fence in 12:11, and the reaction bits below (R383). -/
abbrev settingOf (severity fence bits : Nat) : Nat := severity * 8192 + fence * 2048 + bits

/-- Reaction bits of R383. -/
abbrev bitInterrupt : Nat := 32
abbrev bitTrap : Nat := 64
abbrev bitErrorPin : Nat := 128
abbrev bitBlockReset : Nat := 256
abbrev bitChipReset : Nat := 512
abbrev bitSafe : Nat := 1024

/-- Interrupt and error pin. -/
abbrev bitsPin : Nat := bitInterrupt + bitErrorPin

/-- The default setting of a port source, by offset. -/
def portSetting (o : Nat) : Nat :=
  if o < 2 then settingOf 2 0 bitInterrupt else if o = 4 then settingOf 4 0 bitsPin else settingOf 3 0 bitInterrupt

/-- The default setting of a cluster source, by offset. -/
def clusterSetting (o : Nat) : Nat :=
  if o = 0 ∨ o = 2 then settingOf 4 0 bitsPin else if o = 1 ∨ o = 5 then settingOf 3 0 bitInterrupt
  else if o = 3 then settingOf 5 0 bitsPin else if o = 4 then settingOf 6 2 bitsPin else 0

/-- The default setting of a region source, by offset. -/
def regionSetting (o : Nat) : Nat :=
  if o < 16 then settingOf 5 1 bitsPin else if o = 16 then settingOf 1 0 bitInterrupt
  else if o = 17 then settingOf 3 0 bitInterrupt else if o = 18 then settingOf 4 0 bitInterrupt
  else if o = 19 then settingOf 4 0 bitsPin else if o < 26 then settingOf 5 0 bitsPin
  else if o = 26 then settingOf 6 3 bitsPin else if o = 27 then settingOf 7 3 bitsPin else 0

/-- The default setting of a hub source, by number. -/
def hubSetting (n : Nat) : Nat :=
  if n = 1184 then settingOf 4 0 bitsPin else if n = 1186 ∨ n = 1187 then settingOf 6 0 (bitChipReset + bitsPin)
  else if n = 1189 then settingOf 3 0 bitInterrupt else if n = 1190 then settingOf 5 0 bitsPin
  else if n = 1192 then settingOf 2 0 bitInterrupt
  else if n = 1185 ∨ n = 1188 ∨ n = 1191 ∨ n = 1193 then settingOf 7 0 bitSafe else 0

/-- The default setting of a twin source, by number. -/
def twinSetting (n : Nat) : Nat :=
  if n = 1200 then settingOf 3 0 bitsPin else if n = 1201 ∨ n = 1203 then settingOf 4 0 bitsPin
  else if n = 1202 then settingOf 5 0 bitsPin else if n = 1204 ∨ n = 1205 then settingOf 3 0 bitInterrupt
  else if n < 1210 then settingOf 2 0 bitInterrupt else 0

/-- The default setting of a source (R380); 0 for a reserved or a firmware source. The eight self-fault sources are
fixed: their settings read severity 7 and SAFE (log entry 65). -/
def defaultSetting (n : Nat) : Nat :=
  if n < 576 then portSetting (n % 6)
  else if n < 768 then clusterSetting ((n - 576) % 8)
  else if n < 1024 then regionSetting ((n - 768) % 32)
  else if n < 1088 then
    let o := (n - 1024) % 16
    if o = 0 then settingOf 2 0 bitInterrupt else if o = 1 then settingOf 6 3 bitsPin
    else if o = 2 then settingOf 3 0 bitInterrupt else 0
  else if n < 1104 then (if n % 2 = 0 then settingOf 4 0 bitsPin else settingOf 3 0 bitInterrupt)
  else if n < 1168 then
    let o := (n - 1104) % 4
    if o = 0 then settingOf 4 0 (bitTrap + bitInterrupt) else if o = 3 then settingOf 4 0 bitInterrupt
    else settingOf 5 0 (bitBlockReset + bitsPin)
  else if n < 1176 then settingOf 2 0 bitInterrupt
  else if n < 1184 then settingOf 4 0 bitsPin
  else if n < 1200 then hubSetting n
  else if n < 1280 then twinSetting n
  else if 1504 ≤ n ∧ n < 1512 then settingOf 7 0 bitSafe else 0

/-- Sources that are never raised (R380). -/
def reservedSource (n : Nat) : Bool :=
  if n < 576 then false
  else if n < 768 then decide (6 ≤ (n - 576) % 8)
  else if n < 1024 then decide (28 ≤ (n - 768) % 32)
  else if n < 1088 then decide (3 ≤ (n - 1024) % 16)
  else if n < 1194 then false
  else if n < 1200 then true
  else if n < 1210 then false
  else if n < 1280 then true
  else decide (1408 ≤ n ∧ n < 1504) || decide (1512 ≤ n)

/-- The unit of a source, the reach of fence 1 (R380, R386). -/
def unitOf (n : Nat) : Option (FenceLevel × Nat) :=
  if n < 576 then
    let p := n / 6
    let o := n % 6
    if o < 3 then some (.port, p) else if o = 4 then some (.detector, 5 * (p / 4) + p % 4) else some (.timestampUnit, p)
  else if n < 768 then (if (n - 576) % 8 = 5 then some (.detector, 5 * ((n - 576) / 8) + 4) else none)
  else if n < 1024 then (if (n - 768) % 32 < 16 then some (.bank, 16 * ((n - 768) / 32) + (n - 768) % 32) else none)
  else if 1104 ≤ n ∧ n < 1168 then some (.engine, (n - 1104) / 4)
  else none

/-- The cluster of a source or of its unit, the reach of fence 2. -/
def clusterOfSource (n : Nat) : Option Nat :=
  if n < 576 then some (n / 24) else if n < 768 then some ((n - 576) / 8) else none

/-- The regions of a source, bit g: its own, or both of its die: the reach of fence 3 (R386). -/
def regionsOfSource (n : Nat) : Nat :=
  if n < 576 then 2 ^ (n / 72) else if n < 768 then 2 ^ ((n - 576) / 24) else if n < 1024 then 2 ^ ((n - 768) / 32)
  else if n < 1088 then 3 * 4 ^ ((n - 1024) / 16) else if n < 1104 then 3 * 4 ^ ((n - 1088) / 4) else 0

/-- The level of a source: 0 unit, 1 cluster, 2 region, 3 die, 4 package, 5 system (R380, 00_scope.md R8). -/
def levelOfSource (n : Nat) : Nat :=
  if (unitOf n).isSome then 0 else if n < 768 then 1 else if n < 1024 then 2 else if n < 1104 then 3
  else if 1200 ≤ n ∧ n < 1280 then 5 else 4

/-- The setting of a source in force (R383). -/
def State.setting (s : State) (n : Nat) : Nat := Sparse.get (defaultSetting n) s.settings n

/-- Write a setting; its reserved bits read 0. -/
def State.setSetting (s : State) (n v : Nat) : State :=
  { s with settings := Sparse.set (defaultSetting n) s.settings n (v / 32 * 32 % 65536) }

/-- The fence field of a setting. -/
def fenceOf (setting : Nat) : Nat := field setting 11 2

/-- A setting that R384 refuses for its source. -/
def settingRefused (n v : Nat) : Bool :=
  let fence := fenceOf v
  let level := levelOfSource n
  decide (1504 ≤ n) ||
  (!reservedSource n &&
    ((fence == 1 && (unitOf n).isNone) || (fence == 2 && decide (2 ≤ level)) ||
     (fence == 3 && decide (4 ≤ level)) ||
     (fence != 0 && (v.testBit 8 || v.testBit 9)) ||
     (v.testBit 8 && level != 1 && !((unitOf n).map (fun u => decide (u.1 = .port ∨ u.1 = .engine))).getD false) ||
     (v.testBit 6 && !(decide (1104 ≤ n ∧ n < 1168)))))

/-- The source lies inside an item: its unit, its cluster or its region is the item or lies in it (R387, R392, R393). -/
def insideItem (l : FenceLevel) (i n : Nat) : Bool :=
  match l with
  | .region => regionsOfSource n == 2 ^ i
  | .cluster => clusterOfSource n == some i
  | .port => unitOf n == some (.port, i)
  | .timestampUnit => unitOf n == some (.timestampUnit, i)
  | .detector => unitOf n == some (.detector, i)
  | .bank => unitOf n == some (.bank, i)
  | .engine => unitOf n == some (.engine, i)

/-- An item of one level lies inside an item of another (R387, R399). -/
def itemInside (l : FenceLevel) (i : Nat) (m : FenceLevel) (j : Nat) : Bool :=
  match m with
  | .region => l != .region && l != .engine && regionOf l i == j
  | .cluster => l != .cluster && clusterOf l i == j
  | _ => false

end Sys2Proof.Machine
end

