-- ==== Sys2Proof/Machine/TwinOps.lean ====
section
/-! DEFINITION. Operations on the twin pair that other families share (14_twin_pair.md): roles, the pins, taking and yielding the lead,
the loss of the link, and the mirror's resync. -/

namespace Sys2Proof.Machine

/-! ## Status and pins -/

/-- The device holds a lead role: 0 or 1 (R355). -/
def State.leads (s : State) : Bool := decide (s.nat 0x9000 0x01 < 2)

/-- TWIN_ID as sampled at the cold start (R359). -/
def State.twinId (s : State) : Nat := s.nat 0x1000 0x09

/-- Shared outputs may be driven now (R361). -/
def State.drivesShared (s : State) : Bool :=
  s.twin.holdOut && s.twin.heldLong && (!s.twin.holdIn || s.twinId == 0) && !s.twin.idConflict

/-- Firefly output `f` and clock output `c` are shared (R355, R377). -/
def State.sharedFirefly (s : State) (f : Nat) : Bool := s.bit 0x9000 0x08 f
def State.sharedClock (s : State) (c : Nat) : Bool := s.bit 0x9000 0x08 (16 + c)

/-- The pad of a firefly output is driven: its I/O supply stands, and a shared one only under R361 (R355; 20 R491); in SAFE it drives its park level
(09 R247); during a cold start the pins are at high impedance (19 R483). -/
def State.drivesFirefly (s : State) (f : Nat) : Bool :=
  (s.isSafe || decide (1 ≤ s.runState)) && !s.start.timingBankLost && (!s.sharedFirefly f || s.drivesShared)

/-- The pad of a clock output is driven; CK8 to CK15 stand in the timing I/O bank (20 R487); in SAFE it drives its park level (12 R331). -/
def State.drivesClock (s : State) (c : Nat) : Bool :=
  decide (1 ≤ s.runState) && (decide (c < 8) || !s.start.timingBankLost) && (!s.sharedClock c || s.drivesShared)

/-- The lanes of the Keacon link that are usable: 9000h.0B (R348). -/
def State.usableLanes (s : State) : List Nat := (items 4).filter (fun k => s.bit 0x9000 0x0B k)

/-- The comparison is valid: every usable lane is syntonised and has received 1,024 crickets since it became so, and pair 0 has a
locked working member (R369). -/
def State.compareValid (s : State) : Bool :=
  s.twin.linkUp && !s.usableLanes.isEmpty && s.twin.cricketOk &&
    s.usableLanes.all (fun k => s.nat (0x2060 + k) 0x02 == 6 && decide (1024 ≤ s.twin.crickets.getD k 0))

/-- A TB0 offset beyond the twin time limit (R369). -/
def State.beyondLimit (s : State) : Bool := decide (psUnits (s.nat 0x9000 0x0A) < (s.reg 0x9020 0x01).natAbs)

/-- While the comparison is valid an offset that has come to lie beyond the limit, of its own or with the limit, is shown and raised (R369). -/
def State.judgeLimit (was s : State) : State :=
  if s.compareValid && s.beyondLimit && !was.beyondLimit then (s.putBit 0x9000 0x02 13 true).raise 1204 0 else s

/-- Some port of this device is covered by the twin, or covers one of the twin's (R379). -/
def State.coversOut (s : State) : Bool := (items 96).any (fun p => s.nat (0x9100 + p) 0x03 == 2 || s.nat (0x9100 + p) 0x03 == 4)
def State.coversIn (s : State) : Bool := (items 96).any (fun p => s.nat (0x9100 + p) 0x03 == 3)

/-- 9000h.02 as read: the sticky bits as kept, the live bits from what they show (R378). -/
def State.twinStatus (s : State) : Nat :=
  field (s.nat 0x9000 0x02) 9 7 * 512 + 128 * ofBool s.twin.holdIn + 64 * ofBool s.twin.holdOut + 32 * ofBool s.coversIn +
    16 * ofBool s.coversOut + 8 * ofBool s.compareValid + 4 * ofBool (s.nat 0x9000 0x0C == 2) + 2 * ofBool s.twin.cricketOk +
    ofBool s.twin.linkUp

/-- Send a control frame on class 2: 1 mirror acknowledgement, 2 mirror refusal, 3 cover notice, 4 uncover notice, 5 uncover acknowledgement, 6 mirror
frame lost, 7 cover states; the port, epoch or states it names (R351). Nothing is sent while the link is down. -/
def State.sendControl (s : State) (code value : Nat) : State :=
  if s.twin.linkUp then { s with twin := { s.twin with controlOut := s.twin.controlOut ++ [(code, value)] } } else s

/-- Cover state of a port that covers nothing: standby, or none (R379). -/
def State.idleCover (s : State) (p : Nat) : Nat := if s.flag (0x9100 + p) 0x02 then 1 else 0

/-! ## Debug halts -/

/-- Every thread halted by debug runs again (18 R468). -/
def State.resumeThreads (s : State) : State :=
  (items 16).foldl (fun a e =>
    let x := a.engine e
    if x.halted = 0 then a
    else
      let a := a.setEngine e { x with halted := 0, watchdogAt := a.now - x.watchdogRan }
      if a.nat (0xB000 + e) 0x02 = 3 then a.setNat (0xB000 + e) 0x02 2 else a) s

/-- A device that takes the lead: halted threads resume and breakpoints are cleared (18 R468). -/
def State.endIntrusion (s : State) : State :=
  (items 16).foldl (fun a e => a.setEngine e { a.engine e with breakpoints := [] }) s.resumeThreads

/-! ## The mirror -/

/-- Write the mirror state (9000h.0C). -/
def State.setMirror (s : State) (m : Nat) : State := s.setNat 0x9000 0x0C m

/-- A resync starts: the lead takes an image of every mirrored entry at its epoch; what waited before is in the image (R365). -/
def State.startResync (s : State) : State :=
  if !s.twin.linkUp || s.twin.incompatible || s.twin.idConflict then s
  else
    let image : MirrorCommit := { epoch := s.nat 0x9000 0x0D, values := s.imageOf mirrored s.setting, image := true }
    { s with twin := { s.twin with
      refusedMirror := [], refusedAway := [], mirrorOut := if s.leads then [image] else [], mirrorSent := 0
      imageEpoch := s.nat 0x9000 0x0D } }.setMirror 1

/-! ## Roles -/

/-- Take a role: TWIN_HOLD_OUT follows it, debug halts end at a lead, and a resync follows while the link is up (R355, R359, R365; 18
R468). -/
def State.setRole (s : State) (r : Nat) : State :=
  if s.nat 0x9000 0x01 = r then s
  else
    let was := s.leads
    let lead := decide (r < 2)
    let s := { s with twin := { s.twin with holdOut := lead, heldLong := lead && was && s.twin.heldLong } }
    let s := (s.setNat 0x9000 0x01 r).stateNotice
    let s := if lead && !was then s.endIntrusion else s
    s.startResync

/-- The offsets of the last valid comparison may be used: it is valid, or was within the last second (R370). -/
def State.recentCompare (s : State) : Bool :=
  s.compareValid || (match s.twin.validAt with
    | some t => decide (s.now ≤ t + 1000000000)
    | none => false)

/-- e of shared outputs that run on their grid takes the last valid twin offset, and they become misaligned (R370). -/
def State.keepCadence (s : State) : State :=
  if !s.recentCompare then s
  else (items 16).foldl (fun a f =>
    let m := a.nat (0x6200 + f) 0x01
    let st := a.nat (0x6200 + f) 0x11
    if a.sharedFirefly f && (m == 2 || m == 4 || m == 5) && (st == 2 || st == 3 || st == 4) then
      let a := (a.settleSlew f false).settlePulses f true
      (a.setReg (0x6200 + f) 0x0E (a.reg 0x9020 (a.nat (0x6200 + f) 0x02 + 1))).setNat (0x6200 + f) 0x11 3
    else a) s

/-- Take the lead from a twin: role, cadence, count and sticky bit (R358, R360, R370). -/
def State.takeLead (s : State) (r : Nat) : State :=
  let s := (s.keepCadence).setRole r
  (s.inc32 0x9000 0x11).putBit 0x9000 0x02 11 true

/-- The table of R360, from the role the device holds; a device out of service takes no lead (R357, R359). -/
def State.holdTable (s : State) : State :=
  if !s.isUp then s
  else if s.leads then (if s.twin.holdIn && s.twinId == 1 then s.setRole 2 else s)
  else if s.nat 0x9000 0x01 = 2 then (if s.twin.holdIn then s else s.takeLead 1)
  else s

/-- The link is down or the cricket is lost, so that R360 applies. -/
def State.twinSilent (s : State) : Bool := !s.twin.linkUp || !s.twin.cricketOk

/-! ## The link -/

/-- The Keacon link goes down: what was on it and waited for it is lost, relayed sessions close with their transport elsewhere, and
R360 applies (R350, R360, R373). -/
def State.twinLinkDown (s : State) : State :=
  if !s.twin.linkUp then s
  else
    let n := s.twin.coverBuffer.length
    let s := { s with twin := { s.twin with
      linkUp := false, cricketOk := false, coverBuffer := [], controlOut := [], mirrorOut := [], classSeq := [], sendSeq := [], held := []
      laneOut := [], turns := [], deficits := [], mirrorSent := 0, refusedAway := [], relayWaiting := []
      crickets := [0, 0, 0, 0] } }
    let s := (s.addSat 0x9000 0x14 64 n).putBit 0x9000 0x02 9 true
    let s := if s.nat 0x9000 0x0C = 4 then s else s.setMirror 0
    s.holdTable

/-- Crickets of lane `k` that have failed to arrive are counted, beyond those counted since the last valid one (R354). -/
def State.countMissed (s : State) (k n : Nat) : State :=
  let s := s.addSat 0x9000 0x12 64 n
  { s with twin := { s.twin with missed := Sparse.set 0 s.twin.missed k (Sparse.get 0 s.twin.missed k + n) } }

/-- The frames in flight on lane `k` are lost: a cover frame is counted, and the lead starts a resync for a mirror frame (R350, R365). -/
def State.loseInFlight (s : State) (k : Nat) : State :=
  let gone := (Sparse.get [] s.twin.laneOut k).filter (fun f => decide (s.now < f.until_))
  let s := { s with twin := { s.twin with laneOut := Sparse.set [] s.twin.laneOut k [] } }
  let s := s.addSat 0x9000 0x14 64 (gone.filter (fun f => f.cls == 4)).length
  if gone.any (fun f => f.cls == 3) && s.leads then s.startResync else s

/-- Lane K`k` is no longer usable: its bit falls, its source is raised, crickets that were due on it are missed, its crickets count anew, what is in
flight on it is lost, and with the last lane the link goes down (R348, R350, R354, R369; 15 R380). -/
def State.twinLaneDown (s : State) (k : Nat) : State :=
  if !s.bit 0x9000 0x0B k then s
  else
    let s := s.countMissed k ((s.now - Sparse.get 0 s.twin.lastAt k) / 10000 - Sparse.get 0 s.twin.missed k)
    let s := (s.putBit 0x9000 0x0B k false).loseInFlight k
    let s := { s with twin := { s.twin with
      crickets := s.twin.crickets.set k 0, ownDiff := Sparse.set [] s.twin.ownDiff k [], twinDiff := Sparse.set [] s.twin.twinDiff k []
      recentDiffs := Sparse.set [] s.twin.recentDiffs k [], lastCricket := Sparse.set none s.twin.lastCricket k none
      missed := Sparse.set 0 s.twin.missed k 0 } }
    let s := s.raise (1206 + k) 0
    if s.usableLanes.isEmpty then s.twinLinkDown else s

/-- The bytes of a cricket before the incoming differences: number, role, run state, fenced regions, flags, mirror epoch, and the departures of
TB0 to TB7 (R353). -/
def State.cricketBytes (s : State) (yields : Bool) : List Byte :=
  let fenced := (items 8).foldl (fun n g => setBit n g (s.regionFenced g)) 0
  let flags := ofBool yields + 2 * ofBool (s.servo 0 == 2) + 4 * ofBool (s.servo 0 == 4) + 8 * ofBool s.twin.holdOut
  toBytes 4 s.twin.cricketNumber ++ toBytes 1 (s.nat 0x9000 0x01) ++ toBytes 1 s.runState ++ toBytes 1 fenced ++ toBytes 1 flags ++
    toBytes 4 (s.nat 0x9000 0x0D) ++ toBytes 4 0 ++ ((items 8).map (fun k => toBytes 8 (s.shortTime k))).flatten

/-- The Keacon frame of a cricket on lane `k`: with that lane's incoming differences (R352, R353). -/
def State.cricketFrame (s : State) (yields : Bool) (sequence k : Nat) : List Byte :=
  let d := Sparse.get [] s.twin.ownDiff k
  keaconFrame 1 sequence s.twinId (s.cricketBytes yields ++ ((items 8).map (fun n => toBytes 4 (wrapInt 32 (d.getD n 0)))).flatten)

/-- Send a cricket on every usable lane (R353, R358). -/
def State.putCricket (s : State) (yields : Bool) : State :=
  let n := s.twin.cricketNumber
  let (q, s) := if s.usableLanes.isEmpty then (0, s) else s.nextKeacon 1 1
  { s with twin := { s.twin with
    cricketNumber := (n + 1) % 2 ^ 32
    cricketOut := if s.usableLanes.isEmpty then s.twin.cricketOut else s.cricketBytes yields
    cricketFrames := if s.usableLanes.isEmpty then s.twin.cricketFrames else s.usableLanes.map (s.cricketFrame yields q) } }

/-- Hand the lead over: the yield cricket goes at once, TWIN_HOLD_OUT falls and the role is shadow (R358). -/
def State.yieldLead (s : State) : State := (s.putCricket true).setRole 2

end Sys2Proof.Machine
end

