-- ==== Sys2Proof/Machine/PortOps.lean ====
section
/-! DEFINITION. Operations on lanes and ports that several families share (03_lanes.md, 04_ports_and_modules.md): stages and status
bits, a port going down and coming up, a lane's restart. Lanes 96 to 99 are K0 to K3. -/

namespace Sys2Proof.Machine

/-- The port that owns lane `n`: a bonded port, or the lane's own when it is not off (04 R89, R90). -/
def State.ownPort (s : State) (n : Nat) : Option Nat :=
  if 96 ≤ n then none
  else if s.mode (4 * (n / 4)) = 6 then some (4 * (n / 4))
  else if s.mode (2 * (n / 2)) = 5 then some (2 * (n / 2))
  else if s.mode n = 0 then none
  else some n

/-- The lanes of port `p` (04 R89). -/
def State.portLanes (s : State) (p : Nat) : List Nat := (items (modeLanes (s.mode p))).map (p + ·)

/-- Index of a lane's entries (R86). -/
abbrev laneIndex (n : Nat) : Nat := 0x2000 + n

/-- The stage of a lane (R64). -/
def State.stage (s : State) (n : Nat) : Nat := s.nat (laneIndex n) 0x02

/-- In training: stages 2 to 5 (R65). -/
def State.training (s : State) (n : Nat) : Bool := decide (2 ≤ s.stage n ∧ s.stage n ≤ 5)

/-- Enter a stage: the live bits syntonised, rate_matched, retry_wait and test follow it (R64, R87). -/
def State.setStage (s : State) (n st : Nat) : State :=
  let i := laneIndex n
  let w := s.nat i 0x03
  let w := setBit (setBit (setBit (setBit w 4 (st == 6)) 5 (st == 7)) 7 (st == 8)) 8 (st == 9)
  (s.setNat i 0x02 st).setNat i 0x03 w

/-- A lane that leaves the up stages is no longer adapted, and its FOM is no longer judged (R87). -/
def State.dropAdapted (s : State) (n : Nat) : State :=
  ((s.putBit (laneIndex n) 0x03 3 false).putBit (laneIndex n) 0x03 6 false)

/-- One event takes away conditions of a lane: the live bits among signal, CDR lock and block lock fall, each sets its sticky bit, and
the event counts once in .21 (R86). -/
def State.loseConditions (s : State) (n : Nat) (signal cdr block : Bool) : State :=
  let i := laneIndex n
  let w := s.nat i 0x03
  let a := signal && w.testBit 0
  let b := cdr && w.testBit 1
  let c := block && w.testBit 2
  let w := setBit (setBit (setBit w 0 (w.testBit 0 && !a)) 1 (w.testBit 1 && !b)) 2 (w.testBit 2 && !c)
  let w := setBit (setBit (setBit w 18 (w.testBit 18 || a)) 19 (w.testBit 19 || b)) 20 (w.testBit 20 || c)
  let s := s.setNat i 0x03 w
  if a || b || c then s.inc32 i 0x21 else s

/-- The live bits fall without a loss: the lane is taken out of service by command (R85, R86). -/
def State.clearLive (s : State) (n : Nat) : State :=
  let i := laneIndex n
  s.setNat i 0x03 (s.nat i 0x03 / 2 ^ 18 * 2 ^ 18)

/-! ## Ports -/

/-- Port `p` runs with RS-FEC (04 R89). -/
def State.runsFec (s : State) (p : Nat) : Bool :=
  decide (4 ≤ s.mode p) || (s.mode p == 3 && s.nat (0x2100 + p) 0x02 == 1)

/-- Codewords corrected (0Ah) or not correctable (0Bh) as read: the count kept, and what the link has added since (04 R100). -/
def State.fecCount (s : State) (p sub : Nat) : Nat :=
  let more := match (s.port p).fecSince with
    | some t => if s.now ≤ t then 0 else if sub = 0x0A then Config.fecCorrected p t s.now else Config.fecUncorrectable p t s.now
    | none => 0
  min (2 ^ 64 - 1) (s.nat (0x2200 + p) sub + more)

/-- The link of port `p` has gone: its codeword counts are kept as they stand (04 R100). -/
def State.fecStop (s : State) (p : Nat) : State :=
  let s := ((s.setNat (0x2200 + p) 0x0A (s.fecCount p 0x0A)).setNat (0x2200 + p) 0x0B (s.fecCount p 0x0B))
  s.setPort p { s.port p with fecSince := none, negotiated := false }

/-- A port goes down or becomes fenced (state 0 or 3): an up port counts the transition; the frames in hand, the queues, the timing
and the references follow, and a calibration that it ends makes room for the next (R79; 04 R109; 07 R199; 10 R275; 11 R292; 13 R344, R345). -/
def State.portDown (s : State) (p st : Nat) : State :=
  let was := s.portUp p
  let s := (s.holdBuffer p).setNat (0x2100 + p) 0x03 st
  let s := s.setPort p { s.port p with reDeskew := false }
  if was then
    let s := ((s.inc64 (0x2200 + p) 0x10).fecStop p).abortRx p
    let s := (s.queuesDown p).timingOff p
    let s := (s.portLanes p).foldl (fun a l => a.abandonLane l) s
    (s.refsUpdate).calibrateNext (p / 4)
  else s

/-- A port comes up syntonised (1) or rate-matched (2): its timing begins when syntonised, its lanes' calibrations that wait begin
(07 R200; 10 R275; 13 R344). -/
def State.portUpAs (s : State) (p st : Nat) : State :=
  let s := s.setNat (0x2100 + p) 0x03 st
  let s := s.setPort p { s.port p with
    bondWait := false
    reDeskew := false
    fecSince := if s.runsFec p then some s.now else none
    negotiated := s.mode p == 1 && s.flag (0x2100 + p) 0x05 }
  let s := if st = 1 then s.timingOn p else s.timingOff p
  (s.refsUpdate).calibrateNext (p / 4)

/-- An up port changes its clocking mode without going down (R71, R72): its timing and recovered clock follow. -/
def State.portMode (s : State) (p st : Nat) : State :=
  if s.nat (0x2100 + p) 0x03 = st then s
  else
    let s := s.setNat (0x2100 + p) 0x03 st
    let s := if st = 1 then s.timingOn p else s.timingOff p
    s.refsUpdate

/-- The link state that a port's lanes give it: syntonised when all are, rate-matched when all carry data, none otherwise (R80). -/
def State.lanesSay (s : State) (p : Nat) : Option Nat :=
  let l := (s.portLanes p).map s.stage
  if l.isEmpty then none else if l.all (· == 6) then some 1 else if l.all (fun x => x == 6 || x == 7) then some 2 else none

/-- Some lane of the port is quieted in either direction: the port is down for forwarding (R78). -/
def State.portQuiet (s : State) (p : Nat) : Bool :=
  (s.portLanes p).any (fun l => s.nat (laneIndex l) 0x16 != 0 || s.flag (laneIndex l) 0x17)

/-- The port is in test: .18 is not 0 on any of its lanes (R81). -/
def State.portTest (s : State) (p : Nat) : Bool := (s.portLanes p).any (fun l => s.nat (laneIndex l) 0x18 != 0)

/-- The port may be up: no fence, no quieting or test, and no uncover awaited from the twin (R78, R81; 02 R33; 14 R374). -/
def State.portMayRun (s : State) (p : Nat) : Bool :=
  !s.portFenced p && !s.portQuiet p && !s.portTest p && s.nat (0x9100 + p) 0x03 != 4 && s.isUp

/-- After a lane of the port has come up or left training: an up port changes its clocking mode; a port that is down comes up, a bonded
one that lost a lane only after its re-deskew (R64, R80). -/
def State.judgePort (s : State) (p : Nat) : State :=
  if !s.portMayRun p then s
  else match s.lanesSay p with
    | none => s
    | some st =>
      if s.portUp p then s.portMode p st
      else if (s.port p).bondWait then s.setPort p { s.port p with reDeskew := true }
      else s.portUpAs p st

/-! ## Lanes -/

/-- Stop a lane's attempt, its timer and what it waits for (R65, R85). -/
def State.endAttempt (s : State) (n : Nat) : State :=
  s.setLane n { s.lane n with
    attempt := false, timerRuns := false, pllWait := false, retryRuns := false, retryAt := none, modeChange := 0, discardInterval := false }

/-- k = 0 (R69). -/
def State.resetRetry (s : State) (n : Nat) : State :=
  (s.setNat (laneIndex n) 0x22 0).setLane n { s.lane n with retryAt := none }

/-- The checker falls out of sync: what it has counted until now is added (R83). -/
def State.dropSync (s : State) (n : Nat) : State :=
  let x := s.lane n
  if !x.checkerSync then s
  else
    ((s.addSat (laneIndex n) 0x1C 64 (Config.checkerBits n x.syncSince s.now)).addSat (laneIndex n) 0x1D 64
      (Config.checkerErrors n x.syncSince s.now)).setLane n { x with checkerSync := false }

/-- The lane enters OFF: transmitter idle, receiver ignored (R64, R85). -/
def State.laneOff (s : State) (n : Nat) : State :=
  let s := if 96 ≤ n then s.twinLaneDown (n - 96) else s.abandonLane n
  (((s.dropSync n).endAttempt n).clearLive n).setStage n 0

/-- A lane may leave OFF: it has a rate, no fence holds it, and the device is in service (R64, R85; 19 R475 step 10). -/
def State.laneMayRun (s : State) (n : Nat) : Bool :=
  s.isUp && s.nat (laneIndex n) 0x01 != 0 &&
    (decide (96 ≤ n) || match s.ownPort n with
      | some p => !s.portFenced p
      | none => false)

/-- The lane leaves OFF for stage 1, or for stage 9 while its port is in test (R64, R81). -/
def State.laneStart (s : State) (n : Nat) : State :=
  if !s.laneMayRun n then s
  else
    let test := match s.ownPort n with
      | some p => s.portTest p
      | none => s.nat (laneIndex n) 0x18 != 0
    let s := s.setLane n { s.lane n with absentSince := none }
    s.setStage n (if test then 9 else 1)


/-- The lane enters stage 2: pending analogue trims are applied, and outside an attempt one begins with the timer at zero; while receive
is quieted the timer does not start (R64, R65, R78; 13 R338). -/
def State.enterStage2 (s : State) (n : Nat) : State :=
  let x := s.lane n
  let s := s.setStage n 2
  let s := s.setLane n { x with
    attempt := true, timerRuns := !s.flag (laneIndex n) 0x17, pllWait := false, retryAt := none,
    tryInverted := if s.nat (laneIndex n) 0x0B = 0 then x.polarity == 2 else s.nat (laneIndex n) 0x0B == 2 }
  let i := 0x8100 + n
  match (s.trim n).signal with
  | some [r, t, w, b0, b1, b2] =>
    let s := ((s.setNat i 0x01 r).setNat i 0x02 t).setNat i 0x03 w
    let s := s.setBlob i 0x04 [BitVec.ofNat 8 b0, BitVec.ofNat 8 b1, BitVec.ofNat 8 b2]
    (s.setTrim n { s.trim n with signal := none }).putBit i 0x0A 2 false
  | _ => s

/-- One lane of a bonded port has lost its lock: only it retrains, and the port waits for its re-deskew (R79, R80). -/
def State.markBond (s : State) (n : Nat) : State :=
  match s.ownPort n with
  | none => s
  | some p =>
    if 5 ≤ s.mode p then (s.setPort p { s.port p with bondWait := true }).setLane n { s.lane n with lone := true } else s

/-- The port of a lane goes down because the lane was lost; an up port raises its link-lost source (R79; 15 R380). -/
def State.lanePortLost (s : State) (n : Nat) : State :=
  if 96 ≤ n then s.twinLaneDown (n - 96)
  else match s.ownPort n with
    | none => s
    | some p =>
      if s.portUp p then ((s.markBond n).portDown p 0).raise (6 * p) (n - p)
      else
        let s := s.markBond n
        s.setPort p { s.port p with reDeskew := false }

/-- The port of a lane goes down by a command: no fault is raised (15 R380 +0). -/
def State.lanePortDown (s : State) (n : Nat) : State :=
  if 96 ≤ n then s.twinLaneDown (n - 96)
  else match s.ownPort n with
    | none => s
    | some p => if s.portUp p then s.portDown p 0 else s

/-- A lane is reconfigured: its port goes down, its attempt is abandoned, it goes to OFF and on to stage 1 with k reset (R85). -/
def State.laneRestart (s : State) (n : Nat) : State := (((s.lanePortDown n).laneOff n).resetRetry n).laneStart n

end Sys2Proof.Machine
end

