-- ==== Sys2Proof/Machine/Lanes.lean ====
section
/-! DEFINITION. The commands of the lanes (03_lanes.md): bring-up, clocking modes, losses, adaptation, quieting, test functions. -/

namespace Sys2Proof.Machine

open Host (Outcome)

/-! ## Shared by the lane commands -/

/-- What feeds the twin lane PLL: synthesizer `k`, the working member of pair 0, or none of them, when it is the hub PLL: with spreading on, through
the spreading modulator, and while pair 0 has no locked working member (R62, R73; 12 R326). -/
def State.twinPllFeed (s : State) : Option Nat :=
  let k := s.nat 0x7050 0x03
  if (items 4).any (fun j => s.flag (laneIndex (96 + j)) 0x25) || !s.bit (0x7040 + k) 0x02 1 then none else some k

/-- Lane `n` may not be syntonised: its clocking request is 1, or it is a twin lane whose PLL the hub PLL feeds (R73; 12 R326). -/
def State.rateOnly (s : State) (n : Nat) : Bool :=
  s.nat (laneIndex n) 0x04 == 1 || (decide (96 ≤ n) && s.twinPllFeed.isNone)

/-- The wait before the k-th consecutive retry in ms: base × 2^(k − 1), at most the limit (R69). -/
def State.backoff (s : State) (n k : Nat) : Nat := min (s.nat (laneIndex n) 0x07) (s.nat (laneIndex n) 0x06 * 2 ^ (k - 1))

/-- Schedule the next retry of lane `n` (R69). -/
def State.scheduleRetry (s : State) (n : Nat) : State :=
  let k := min 65535 (s.nat (laneIndex n) 0x22 + 1)
  (s.setNat (laneIndex n) 0x22 k).setLane n { s.lane n with retryAt := some (s.now + s.backoff n k * 1000000) }

/-- In rate-matched mode idles keep the fill between 4 and 28 entries (R72). -/
def inBuffer (fill : Nat) : Nat := max 4 (min 28 fill)

/-- The lane is up in stage 6 or 7: the timer stops; k returns to 0 when syntonised, and a retry is scheduled when rate-matched for want
of syntony; a spare may take it over, and its port follows (R65, R68, R69, R71; 13 R343). -/
def State.laneUp (s : State) (n st : Nat) : State :=
  let x := s.lane n
  let s := s.setLane n { x with
    attempt := false, timerRuns := false, retryRuns := false, modeChange := 0, retryAt := none, lone := false, discardInterval := false
    fill := if st = 7 then inBuffer x.fill else x.fill }
  let s := s.setStage n st
  let s := if n < 96 then s.assignSpare (n / 4) else s
  let s := if st = 6 then s.resetRetry n else if s.rateOnly n then s else s.scheduleRetry n
  match s.ownPort n with
  | some p => s.judgePort p
  | none => if 96 ≤ n then { s with twin := { s.twin with crickets := s.twin.crickets.set (n - 96) 0 } } else s

/-- The fill of the elastic buffer in syntonised mode lies between 12 and 20 entries (R71, R72). -/
def centred (fill : Nat) : Nat := max 12 (min 20 fill)

/-- A syntonised lane is to change to rate-matched mode at the next idle: its recovered clock is disqualified at once (R71, R85). -/
def State.leaveSyntony (s : State) (n : Nat) : State :=
  if (s.lane n).modeChange = 1 then s else (s.setLane n { s.lane n with modeChange := 1 }).refsUpdate

/-- Syntony is lost under R71: the sticky bit is set, and the lane is to change to rate-matched mode. -/
def State.loseSyntony (s : State) (n : Nat) : State :=
  if (s.lane n).modeChange = 1 then s else (s.putBit (laneIndex n) 0x03 22 true).leaveSyntony n

/-- The cluster's lane PLL is unlocked (R63). -/
def State.pllDown (s : State) (n : Nat) : Bool := n < 96 && s.pllLost.testBit (n / 4)

/-- A rate-matched lane starts its syntony retry; a lane in RETRY_WAIT goes to stage 1 (R69, R72). -/
def State.retry (s : State) (n : Nat) : State :=
  let st := s.stage n
  let s := s.setLane n { s.lane n with retryAt := none }
  if st = 8 then s.setStage n 1
  else if st = 7 ∧ !s.rateOnly n then s.setLane n { s.lane n with retryRuns := true, discardInterval := false }
  else s

/-- A twin lane may not be syntonised any longer: a syntonised one leaves at the next idle, one that measures for it comes up rate-matched, a
retry is given up (R73, R85). -/
def State.rateMatchOnly (s : State) (n : Nat) : State :=
  let st := s.stage n
  if st = 6 then s.leaveSyntony n
  else if st = 5 then s.laneUp n 7
  else if st = 7 then s.setLane n { s.lane n with retryRuns := false, retryAt := none, modeChange := 0 }
  else s

/-- The lane loses signal: in training it returns to stage 1 and the attempt goes on, up it returns to stage 1 and its port goes down
(R79, R85, R86). -/
def State.signalLost (s : State) (n : Nat) : State :=
  let st := s.stage n
  if st = 0 ∨ s.flag (laneIndex n) 0x17 then s
  else
    let s := s.loseConditions n true true true
    let s := if (s.lane n).absentSince.isSome then s else s.setLane n { s.lane n with absentSince := some s.now }
    let s := s.dropSync n
    if st = 6 ∨ st = 7 then
      let s := (s.dropAdapted n).lanePortLost n
      (s.setLane n { s.lane n with retryRuns := false, retryAt := none, modeChange := 0 }).setStage n 1
    else if s.training n then (s.dropAdapted n).setStage n 1
    else s

/-- The lane loses CDR lock or block lock: up or in training it goes to stage 2 (R65, R79, R86). -/
def State.lockLost (s : State) (n : Nat) (kind : LockKind) : State :=
  let st := s.stage n
  if st = 0 ∨ s.flag (laneIndex n) 0x17 then s
  else
    let s := s.loseConditions n false (decide (kind = .cdr)) true
    let s := s.dropSync n
    if st = 6 ∨ st = 7 then
      let s := (s.dropAdapted n).lanePortLost n
      (s.setLane n { s.lane n with retryRuns := false, modeChange := 0 }).enterStage2 n
    else if 3 ≤ st ∧ st ≤ 5 then (s.dropAdapted n).enterStage2 n
    else s

/-! ## Bring-up -/

/-- SIGNAL_DETECTED: signal has been present for 100 µs: stage 1 ends, unless the lane PLL is unlocked; after at least 1 s of absence k
returns to 0 and RETRY_WAIT ends at once (R63, R64, R70); with the lane PLL unlocked it ends in stage 1, where the lane waits for the lock (log entry
119). -/
def execSignalDetected (l : LaneId) (s : State) : Outcome State Fault Refusal :=
  let st := s.stage l
  .next (if st = 0 ∨ s.flag (laneIndex l) 0x17 then s
    else
      let longGone := match (s.lane l).absentSince with
        | some t => decide (t + 1000000000 ≤ s.now)
        | none => false
      let s := (s.putBit (laneIndex l) 0x03 0 true).setLane l { s.lane l with absentSince := none }
      let s := if longGone then s.resetRetry l else s
      if s.pllDown l then (if st = 8 ∧ longGone then (s.setLane l { s.lane l with pllWait := true }).setStage l 1 else s)
      else if st = 1 ∨ (st = 8 ∧ longGone) then s.enterStage2 l
      else s)

/-- CDR_LOCK: stage 2 ends; a quieted receiver raises no lock events (R64, R78). -/
def execCdrLock (l : LaneId) (s : State) : Outcome State Fault Refusal :=
  .next (if s.flag (laneIndex l) 0x17 then s
    else if s.stage l = 2 then (s.putBit (laneIndex l) 0x03 1 true).setStage l 3
    else if s.stage l = 9 then s.putBit (laneIndex l) 0x03 1 true
    else s)

/-- POLARITY_TRY_EXPIRY: 2 ms without lock: the other polarity is tried, unless the host fixed one (R66). -/
def execPolarityTryExpiry (l : LaneId) (s : State) : Outcome State Fault Refusal :=
  .next (if s.stage l = 3 ∧ !s.bit (laneIndex l) 0x03 2 ∧ s.nat (laneIndex l) 0x0B = 0 then
      s.setLane l { s.lane l with tryInverted := !(s.lane l).tryInverted }
    else s)

/-- A lane adapts again at the rate of its kept values, or for the first time (R75, R501). -/
def State.adaptsAgain (s : State) (n : Nat) : Bool :=
  let kept := s.blob (laneIndex n) 0x13
  !kept.isEmpty && byteAt kept 0 == s.nat (laneIndex n) 0x01

/-- The lane enters stage 4: adaptation starts from the kept values, or from mid-range on a first attempt (R75; log entry 100). -/
def State.startAdapt (s : State) (n : Nat) : State :=
  let x := s.lane n
  let kept := s.blob (laneIndex n) 0x13
  if s.adaptsAgain n then
    (s.setNat (laneIndex n) 0x14 (byteAt kept 1)).setLane n { x with
      gain := byteAt kept 2, taps := (slice kept 3 12).map (fun b => signed 8 b.toNat), tx := [] }
  else (s.setNat (laneIndex n) 0x14 8).setLane n { x with gain := 128, taps := List.replicate 12 0, tx := [] }

/-- BLOCK_LOCK: lock, and on a bonded port the lane order and the deskew, are complete: stage 4 (R64, R66, R67). A port that waits for a
re-deskew takes its new deskew at the end of that (R80). -/
def execBlockLock (l : LaneId) (order : Fin 4) (deskewPs : Nat) (s : State) : Outcome State Fault Refusal :=
  .next (if s.flag (laneIndex l) 0x17 then s
    else if s.stage l = 3 ∧ s.bit (laneIndex l) 0x03 1 then
      let x := s.lane l
      let s := s.setLane l { x with polarity := if x.tryInverted then 2 else 1 }
      let s := match s.ownPort l with
        | some p =>
          if 5 ≤ s.mode p ∧ order.val < modeLanes (s.mode p) then
            let s := s.setNat (laneIndex p) 0x0E order
            if (s.port p).bondWait then s else s.setPort p { s.port p with deskewPs := deskewPs }
          else s
        | none => s
      ((s.putBit (laneIndex l) 0x03 2 true).setStage l 4).startAdapt l
    else if s.stage l = 9 then s.putBit (laneIndex l) 0x03 2 true
    else s)

/-- The adapt threshold of a lane: NRZ or PAM4 by its rate (R75). -/
def State.adaptThreshold (s : State) (n : Nat) : Nat :=
  if s.nat (laneIndex n) 0x01 = 4 then s.nat (laneIndex n) 0x11 else s.nat (laneIndex n) 0x10

/-- A signed byte. -/
def signedByte (v : Int) : Byte := BitVec.ofInt 8 v

/-- `n` values of a list, 0 beyond its end. -/
def takePad (l : List Int) (n : Nat) : List Int := (items n).map (fun i => l.getD i 0)

/-- The transmit coefficients c(−3) to c(1) that a port mode's clause uses, the others 0 (R501). -/
def clauseCoefficients (mode : Nat) (tx : List Int) : List Int := (takePad tx 5).mapIdx (fun k v => if Config.clauseUses mode k then v else 0)

/-- How many transmit coefficients a port mode's clause uses (R501). -/
def clauseCount (mode : Nat) : Nat := ((items 5).filter (Config.clauseUses mode)).length

/-- The 24 bytes of the kept adaptation, with the number of transmit coefficients (R501). -/
def adaptBytes (rate ctle count : Nat) (r : AdaptRecord) : List Byte :=
  [BitVec.ofNat 8 rate, BitVec.ofNat 8 ctle, BitVec.ofNat 8 r.gain] ++ (takePad r.taps 12).map signedByte ++
    [BitVec.ofNat 8 count] ++ (takePad r.tx 5).map signedByte ++ [0, 0, 0]

/-- The CTLE setting with the highest figure of merit of a sweep; the lowest of equals (R75; log entry 100). -/
def bestSetting (sweep : List Nat) : Nat := (items 16).foldl (fun b k => if sweep.getD b 0 < sweep.getD k 0 then k else b) 0

/-- The CTLE setting that stage 4 keeps: the kept one where it reached the threshold in time, otherwise the best of the sweep (R75). -/
def State.adaptedCtle (s : State) (n : Nat) (rec : AdaptRecord) : Nat :=
  if s.adaptsAgain n && rec.keptReaches then min 15 (byteAt (s.blob (laneIndex n) 0x13) 1) else bestSetting rec.sweep

/-- IEEE 802.3 link training runs on the lane: 2100h.04 asks for it, and the port mode has a clause for it (04 R92). -/
def State.trainsLink (s : State) (n : Nat) : Bool :=
  match s.ownPort n with
  | some p => s.flag (0x2100 + p) 0x04 && decide (3 ≤ s.mode p)
  | none => false

/-- ADAPT_COMPLETE: the figure of merit has reached the threshold: the values are kept, and the lane goes to stage 5, or up rate-matched
when it may not be syntonised (R64, R73, R75, R501). -/
def execAdaptComplete (l : LaneId) (fom : BitVec 8) (rec : AdaptRecord) (s : State) : Outcome State Fault Refusal :=
  .next (if s.stage l = 4 ∧ s.adaptThreshold l ≤ fom.toNat then
      let i := laneIndex l
      let ctle := s.adaptedCtle l rec
      let trains := s.trainsLink l
      let mode := ((s.ownPort l).map s.mode).getD 0
      let found : AdaptRecord := { rec with gain := min 255 rec.gain, tx := if trains then clauseCoefficients mode rec.tx else [] }
      let s := (s.setNat i 0x0F fom.toNat).setNat i 0x14 ctle
      let s := s.setBlob i 0x13 (adaptBytes (s.nat i 0x01) ctle (if trains then clauseCount mode else 0) found)
      let s := s.setLane l { s.lane l with
        gain := found.gain, taps := takePad found.taps 12, tx := found.tx, adaptedAt := s.now, discardInterval := false }
      let s := s.putBit i 0x03 3 true
      if s.rateOnly l then s.laneUp l 7 else s.setStage l 5
    else s)

/-- SYNTONY_INTERVAL_END: the partner's offset over one interval. In stage 5 the lane comes up syntonised when it is within the window;
syntonised, it stays or is to leave; in a retry it is to become syntonised or the next retry is scheduled. An interval that spans a
change-over is discarded, and a lane that may not be syntonised comes up rate-matched (R64, R71, R72, R73, R85). -/
def execSyntonyIntervalEnd (l : LaneId) (offsetPpt : Int) (fill : Fin 33) (s : State) : Outcome State Fault Refusal :=
  let st := s.stage l
  let x := s.lane l
  .next (if !(st == 5 || st == 6 || (st == 7 && x.retryRuns)) then s
    else if x.discardInterval then s.setLane l { x with discardInterval := false }
    else
      let v := max (-2147483648) (min 2147483647 offsetPpt)
      let s := s.setReg (laneIndex l) 0x0A v
      let within := decide (offsetPpt.natAbs ≤ s.nat (laneIndex l) 0x08 * 1000)
      if st ≠ 6 ∧ s.rateOnly l then s.rateMatchOnly l
      else if st = 5 then (if within then (s.setLane l { x with fill := centred fill }).laneUp l 6 else s)
      else if st = 6 then (if within then s else s.loseSyntony l)
      else if within then s.setLane l { x with retryRuns := false, modeChange := 2, fill := inBuffer fill }
      else (s.setLane l { x with retryRuns := false }).scheduleRetry l)

/-- ELASTIC_FILL_LIMIT: the fill comes within 4 entries of either end (R71). -/
def execElasticFillLimit (l : LaneId) (s : State) : Outcome State Fault Refusal :=
  .next (if s.stage l = 6 then s.loseSyntony l else s)

/-- RATE_MATCH_SWITCH: at the next idle the lane is rate-matched; its port stays up (R71). -/
def execRateMatchSwitch (l : LaneId) (s : State) : Outcome State Fault Refusal :=
  .next (if s.stage l = 6 ∧ (s.lane l).modeChange = 1 then s.laneUp l 7 else s)

/-- SYNTONISED_SWITCH: at the next idle after a passed retry the lane is syntonised, with its fill re-centred (R72). -/
def execSyntonisedSwitch (l : LaneId) (s : State) : Outcome State Fault Refusal :=
  .next (if s.stage l = 7 ∧ (s.lane l).modeChange = 2 ∧ !s.rateOnly l then
      (s.setLane l { s.lane l with fill := centred (s.lane l).fill }).laneUp l 6
    else s)

/-- TRAINING_TIMEOUT: with lock held the lane comes up rate-matched with the settings it has; otherwise it waits for a retry (R68). -/
def execTrainingTimeout (l : LaneId) (s : State) : Outcome State Fault Refusal :=
  let i := laneIndex l
  .next (if (s.lane l).timerRuns ∧ (s.training l ∨ s.stage l = 1) then
      let s := s.putBit i 0x03 21 true
      if s.bit i 0x03 1 ∧ s.bit i 0x03 2 then s.laneUp l 7
      else
        let s := (s.putBit i 0x03 1 false).putBit i 0x03 2 false
        let s := s.setLane l { s.lane l with attempt := false, timerRuns := false, retryRuns := false, modeChange := 0 }
        (s.setStage l 8).scheduleRetry l
    else s)

/-- BACKOFF_EXPIRY: the wait before a retry is over (R69). -/
def execBackoffExpiry (l : LaneId) (s : State) : Outcome State Fault Refusal :=
  .next (if (s.lane l).retryAt.isSome then s.retry l else s)

/-- RETRY_NOW: k returns to 0 and the retry starts at once (R69). -/
def execRetryNow (role : Role) (l : LaneId) (s : State) : Outcome State Fault Refusal :=
  .next (s.hostWrite role (laneIndex l) 0x24 fun s => ((s.resetRetry l).retry l).done)

/-! ## Losses -/

/-- SIGNAL_LOSS: signal is gone (R79, R85, R86). -/
def execSignalLoss (l : LaneId) (s : State) : Outcome State Fault Refusal := .next (s.signalLost l)

/-- LANE_LOCK_LOSS: CDR lock or block lock is gone (R79, R86). -/
def execLaneLockLoss (l : LaneId) (kind : LockKind) (s : State) : Outcome State Fault Refusal := .next (s.lockLost l kind)

/-- RE_DESKEW_COMPLETE: two alignment-marker periods after the retrained lane left stage 5 the port comes up with its new deskew
(R80). -/
def execReDeskewComplete (p : PortId) (deskewPs : Nat) (s : State) : Outcome State Fault Refusal :=
  .next (if (s.port p).reDeskew ∧ s.portMayRun p then
      match s.lanesSay p with
      | some st => (s.setPort p { s.port p with deskewPs := deskewPs }).portUpAs p st
      | none => s.setPort p { s.port p with reDeskew := false }
    else s)

/-- One lane of a cluster whose lane PLL has lost lock: it loses its conditions; in stages 1 to 7 it waits in stage 1, in any other it stays
(R63). -/
def State.pllLane (s : State) (n : Nat) : State :=
  let st := s.stage n
  let s := ((s.loseConditions n true true true).dropAdapted n).dropSync n
  if 1 ≤ st ∧ st ≤ 7 then
    ((s.endAttempt n).setLane n { (s.endAttempt n).lane n with pllWait := true }).setStage n 1
  else s

/-- LANE_PLL_LOCK_LOSS: the four lanes of a cluster lose lock at once: one cluster fault, no lane or port fault (R63). -/
def execLanePllLockLoss (c : ClusterId) (s : State) : Outcome State Fault Refusal :=
  .next (if s.pllLost.testBit c then s
    else
      let s := { s with pllLost := setBit s.pllLost c true }
      let s := s.raise (576 + 8 * c) 0
      let lanes := (items 4).map (fun i => 4 * c.val + i)
      let s := lanes.foldl (fun a p => if a.portUp p then a.portDown p 0 else a) s
      lanes.foldl State.pllLane s)

/-- LANE_PLL_RELOCK: each lane that waits in stage 1, with signal, enters stage 2 and begins a new attempt (R63, R65). -/
def execLanePllRelock (c : ClusterId) (signals : BitVec 4) (s : State) : Outcome State Fault Refusal :=
  .next (if !s.pllLost.testBit c then s
    else
      let s := { s with pllLost := setBit s.pllLost c false }
      (items 4).foldl (fun a i =>
        let n := 4 * c.val + i
        if a.stage n = 1 then
          let a := a.setLane n { a.lane n with pllWait := false }
          if signals.getLsbD i ∧ !a.flag (laneIndex n) 0x17 then (a.putBit (laneIndex n) 0x03 0 true).enterStage2 n else a
        else a) s)

/-! ## Adaptation -/

/-- Return an up lane to stage 4: its port goes down and its measured values are stale (R77; 13 R343). -/
def State.reAdapt (s : State) (n : Nat) : State :=
  if s.stage n = 6 ∨ s.stage n = 7 then
    let s := (((s.lanePortDown n).dropAdapted n).makeStale n).startAdapt n
    (s.setLane n { s.lane n with attempt := true, timerRuns := !s.flag (laneIndex n) 0x17, retryRuns := false, retryAt := none, modeChange := 0 }).setStage
      n 4
  else s

/-- RE_ADAPT: an up lane returns to stage 4; in every other stage the write has no effect (R77). -/
def execReAdapt (role : Role) (l : LaneId) (s : State) : Outcome State Fault Refusal :=
  .next (s.hostWrite role (laneIndex l) 0x15 fun s => (s.reAdapt l).done)

/-- The figure of merit: round(256 × h / A), at most 255, an exact half upward (R74; log entry 100). -/
def figureOfMerit (h a : Nat) : Nat := min 255 ((512 * h + a) / (2 * a))

/-- Gain and DFE taps of an up lane move by at most one code step each, no sooner than 1 ms after they last did; the CTLE setting is frozen
(R76). -/
def State.adaptLive (s : State) (n : Nat) : State :=
  let x := s.lane n
  if s.now < x.adaptedAt + 1000000 then s
  else
    let move := fun (k : Nat) (v : Int) => v + ((Config.adaptStep n s.now k).val : Int) - 1
    s.setLane n { x with
      gain := (max 0 (min 255 (move 0 x.gain))).toNat
      taps := x.taps.mapIdx (fun k v => max (-128) (min 127 (move (k + 1) v)))
      adaptedAt := s.now }

/-- FOM_MEASUREMENT: the figure of merit over 2^20 unit intervals, and the warning level of an up lane (R74, R76). -/
def execFomMeasurement (l : LaneId) (h a : Nat) (s : State) : Outcome State Fault Refusal :=
  let i := laneIndex l
  .next (if a = 0 ∨ s.stage l < 3 then s
    else
      let v := figureOfMerit h a
      let s := s.setNat i 0x0F v
      let t := s.adaptThreshold l
      let s := if s.stage l = 6 ∨ s.stage l = 7 then s.adaptLive l else s
      if !(s.stage l == 6 || s.stage l == 7) then s
      else if v + s.nat i 0x12 < t then (s.putBit i 0x03 6 true).putBit i 0x03 23 true
      else if t ≤ v then s.putBit i 0x03 6 false
      else s)

/-! ## Quieting -/

/-- Quiet or activate a lane's transmitter; the lane stays in its stage, and its port is down while it is quiet (R78). -/
def State.quietTransmit (s : State) (n mode : Nat) : State :=
  let s := s.setNat (laneIndex n) 0x16 mode
  if mode ≠ 0 then s.lanePortDown n
  else match s.ownPort n with
    | some p => s.judgePort p
    | none => s

/-- Quiet or activate a lane's receiver: a quieted lane leaves the up stages, and training too, for stage 1 without any loss; its attempt ends
(R78; for training a DESIGN CHOICE, log entry 100). -/
def State.quietReceive (s : State) (n : Nat) (on : Bool) : State :=
  let s := (if on then s.dropSync n else s).setNat (laneIndex n) 0x17 (ofBool on)
  let st := s.stage n
  if on ∧ 2 ≤ st ∧ st ≤ 7 then
    let s := s.lanePortDown n
    let i := laneIndex n
    let s := ((s.putBit i 0x03 0 false).putBit i 0x03 1 false).putBit i 0x03 2 false
    ((s.endAttempt n).dropAdapted n).setStage n 1
  else s

/-- QUIET_TRANSMIT: 0 active, 1 idle, 2 idle with TX_DISABLE (R78). -/
def execQuietTransmit (role : Role) (l : LaneId) (mode : Fin 3) (s : State) : Outcome State Fault Refusal :=
  .next (s.hostWrite role (laneIndex l) 0x16 fun s => (s.quietTransmit l mode).done)

/-- QUIET_RECEIVE (R78). -/
def execQuietReceive (role : Role) (l : LaneId) (on : Bool) (s : State) : Outcome State Fault Refusal :=
  .next (s.hostWrite role (laneIndex l) 0x17 fun s => (s.quietReceive l on).done)

/-! ## Test functions -/

/-- The lane enters stage 9: training and calibration are abandoned and its values are stale (R81, R85; 13 R343, R345). -/
def State.enterTest (s : State) (n : Nat) : State :=
  if s.stage n = 0 then s
  else
    let s := if 96 ≤ n then s.twinLaneDown (n - 96) else s.abandonLane n
    (((s.endAttempt n).dropAdapted n).makeStale n).setStage n 9

/-- The lanes that share a lane's port; a lane without a port stands alone. -/
def State.sisters (s : State) (n : Nat) : List Nat :=
  match s.ownPort n with
  | some p => s.portLanes p
  | none => [n]

/-- Write the test mode of a lane: its checker's counts are cleared (R83). -/
def State.writeTest (s : State) (n code : Nat) : State :=
  let i := laneIndex n
  (((s.setNat i 0x18 code).setNat i 0x1C 0).setNat i 0x1D 0).setLane n { s.lane n with checkerSync := false }

/-- The lane's port is in test in a state (R81). -/
def State.inTest (s : State) (n : Nat) : Bool := (s.sisters n).any (fun m => s.nat (laneIndex m) 0x18 != 0)

/-- Test modes have been written: with the first value on its port every lane of the port enters stage 9, with the last one gone every lane
returns to stage 1 (R81). -/
def State.judgeTest (s : State) (was : Bool) (n : Nat) : State :=
  let now := s.inTest n
  if now ∧ !was then
    let s := match s.ownPort n with
      | some p => if s.portUp p then s.portDown p 0 else s
      | none => s
    (s.sisters n).foldl State.enterTest s
  else if was ∧ !now then
    (s.sisters n).foldl (fun a m => if a.stage m = 9 then ((a.dropSync m).clearLive m).setStage m 1 else a) s
  else s

/-- Write the test mode of a lane, and judge its port (R81, R83). -/
def State.setTest (s : State) (n code : Nat) : State := (s.writeTest n code).judgeTest (s.inTest n) n

/-- Write the test modes of a commit together: each port is judged once, as the commit leaves it (R81). -/
def State.setTests (s : State) (l : List (Nat × Nat)) : State :=
  let t := l.foldl (fun a v => a.writeTest v.1 v.2) s
  ((l.map (fun v => (t.sisters v.1).headD v.1)).eraseDups).foldl (fun a n => a.judgeTest (s.inTest n) n) t

/-- Code 2 is set on a lane of a bonded port other than the lowest (R81). -/
def State.testRefused (s : State) (n code : Nat) : Bool :=
  code == 2 && match s.ownPort n with
    | some p => decide (5 ≤ s.mode p ∧ p ≠ n)
    | none => false

/-- TEST_MODE_SET (R81). -/
def execTestModeSet (role : Role) (l : LaneId) (code : Fin 5) (s : State) : Outcome State Fault Refusal :=
  .next (s.hostWrite role (laneIndex l) 0x18 fun s =>
    if s.testRefused l code then s.ruleRefused 0 else (s.setTest l code).done)

/-- TEST_MODE_CLEAR (R81). -/
def execTestModeClear (role : Role) (l : LaneId) (s : State) : Outcome State Fault Refusal :=
  .next (s.hostWrite role (laneIndex l) 0x18 fun s => (s.setTest l 0).done)

/-- ERROR_INJECTION_ONE: the next transmitted bit is to be inverted (R84). -/
def execErrorInjectionOne (role : Role) (l : LaneId) (s : State) : Outcome State Fault Refusal :=
  .next (s.hostWrite role (laneIndex l) 0x1E fun s => (s.setNat (laneIndex l) 0x1E 1).done)

/-- ERROR_INJECTION_RATE: one error per 2^k bits, k from 8 to 40 (R84). -/
def execErrorInjectionRate (role : Role) (l : LaneId) (exponent : Nat) (s : State) : Outcome State Fault Refusal :=
  .next (s.hostWrite role (laneIndex l) 0x1E fun s =>
    if exponent < 8 ∨ 40 < exponent then s.outOfRange 0x1F
    else ((s.setNat (laneIndex l) 0x1E 2).setNat (laneIndex l) 0x1F exponent).done)

/-- The lane sends live traffic: up and not quieted, or turned back in a serial near loop (R78, R81, R84). -/
def State.sendsTraffic (s : State) (n : Nat) : Bool :=
  ((s.stage n == 6 || s.stage n == 7) && s.nat (laneIndex n) 0x16 == 0) || (s.stage n == 9 && s.nat (laneIndex n) 0x18 == 1)

/-- The lane's generator sends its pattern: test modes 1 and 4 (R81). -/
def State.sendsPattern (s : State) (n : Nat) : Bool :=
  s.stage n == 9 && (s.nat (laneIndex n) 0x18 == 1 || s.nat (laneIndex n) 0x18 == 4)

/-- The first bits that the lane's generator sends: those of the pattern in .19 at the lane's rate, with the user pattern of .1B (R81, R82). -/
def State.generatorBits (s : State) (n count : Nat) : List Bool :=
  let i := laneIndex n
  if s.sendsPattern n then generated (s.nat i 0x19) (s.nat i 0x01 == 4) (s.nat i 0x1B) count else []

/-- INJECTED_ERROR: an error enters the pattern, or live traffic; a single one ends the injection (R84). -/
def execInjectedError (l : LaneId) (s : State) : Outcome State Fault Refusal :=
  let i := laneIndex l
  let runs := if s.nat i 0x20 = 1 then s.sendsTraffic l else s.sendsPattern l
  .next (if s.nat i 0x1E = 1 ∧ runs then s.setNat i 0x1E 0 else s)

/-- CHECKER_SYNC: 256 consecutive correct bits of the checker's pattern, the last of the bits received (R82, R83). -/
def execCheckerSync (l : LaneId) (bits : List Bool) (s : State) : Outcome State Fault Refusal :=
  let i := laneIndex l
  .next (if s.stage l = 9 ∧ !s.flag i 0x17 ∧ !(s.lane l).checkerSync ∧
      patternFollows (s.nat i 0x1A) (s.nat i 0x01 == 4) (s.nat i 0x1B) 256 bits then
      s.setLane l { s.lane l with checkerSync := true, syncSince := s.now }
    else s)

/-- The checker's counts as read: while it is in sync, with what it has counted since (R83). -/
def State.checkerCount (s : State) (n sub : Nat) : Nat :=
  let x := s.lane n
  let more := if !x.checkerSync then 0
    else if sub = 0x1C then Config.checkerBits n x.syncSince s.now else Config.checkerErrors n x.syncSince s.now
  min (2 ^ 64 - 1) (s.nat (laneIndex n) sub + more)

/-- CHECKER_SYNC_LOSS: more than 64 errors within 1,024 bits; the bits and errors counted while in sync are added (R83). -/
def execCheckerSyncLoss (l : LaneId) (bits errors : Nat) (s : State) : Outcome State Fault Refusal :=
  .next (if (s.lane l).checkerSync then
      ((s.addSat (laneIndex l) 0x1C 64 bits).addSat (laneIndex l) 0x1D 64 errors).setLane l { s.lane l with checkerSync := false }
    else s)

end Sys2Proof.Machine
end

