-- ==== Sys2Proof/Machine/Modules.lean ====
section
/-! DEFINITION. The commands of the modules and of the port statistics (04_ports_and_modules.md R99 to R108), and a port's
reconfiguration (R89 to R91). -/

namespace Sys2Proof.Machine

open Host (Outcome)

/-! ## Reconfiguration -/

/-- The rate code of every lane of a cluster follows the modes of its ports (R89). -/
def State.setLaneRates (s : State) (c : Nat) : State :=
  (items 4).foldl (fun a i =>
    let l := 4 * c + i
    a.setNat (laneIndex l) 0x01 (match a.ownPort l with
      | some p => modeLaneCode (a.mode p)
      | none => 0)) s

/-- The lanes of cluster `c` that a change from one state of the modes to another reconfigures: those of a changed port, before or
after (R91). -/
def changedLanes (was s : State) (ports : List Nat) : List Nat :=
  (items 96).filter (fun l => ports.any (fun p => (was.portLanes p).contains l || (s.portLanes p).contains l))

/-- A port whose mode or FEC has changed goes down as on a link-down (R91). -/
def State.reconfigureDown (s : State) (p : Nat) : State :=
  let s := if s.portUp p then s.portDown p 0 else s
  s.setPort p { s.port p with bondWait := false, reDeskew := false, deskewPs := 0 }

/-- After the modes and FEC of some ports have been written: lane rates follow, and each lane of the ports goes to OFF and on to stage
1 (R85, R91). `was` is the state before. -/
def State.reconfigured (s was : State) (ports : List Nat) : State :=
  let s := ((ports.map (· / 4)).eraseDups).foldl State.setLaneRates s
  (changedLanes was s ports).foldl State.laneRestart s

/-! ## The cage -/

/-- The positions that the cage of position `p` serves: the four of its cluster for a four-lane cage (R101). -/
def State.cagePorts (s : State) (p : Nat) : List Nat :=
  if 2 ≤ s.nat (0x2100 + p) 0x08 then (items 4).map (fun i => 4 * (p / 4) + i) else [p]

/-- Read a state at every position of a cage. -/
def State.eachPosition (s : State) (p : Nat) (f : State → Nat → State) : State := (s.cagePorts p).foldl f s

/-- TX_DISABLE of position `p` as driven: by the module's state, a fence, SAFE, or quieting (R102; 02 R33; 03 R78; 15 R396). -/
def State.txDisabled (s : State) (p : Nat) : Bool :=
  (s.port p).txDisable || s.portFenced p || s.isSafe || s.nat (laneIndex p) 0x16 == 2

/-- The mode that a position carries: its port's, or that of the bonded port that absorbs it (R90). -/
def State.modeAt (s : State) (p : Nat) : Nat := ((s.ownPort p).map s.mode).getD 0

/-- The module declares support for the position's mode; a position that is off asks for none (R102). -/
def State.moduleFits (s : State) (p : Nat) : Bool := s.modeAt p == 0 || (s.port p).moduleModes.testBit (s.modeAt p)

/-- Judge the module at a position whose identity has been read: ready and allowed to transmit, or a mismatch, which holds TX_DISABLE
unless it is overridden; its event is raised at entry (R102; 15 R380). -/
def State.judgeModule (s : State) (p : Nat) : State :=
  let i := 0x2100 + p
  if s.moduleFits p then (s.setNat i 0x0E 2).setPort p { s.port p with txDisable := false }
  else
    let was := s.nat i 0x0E
    let s := (s.setNat i 0x0E 3).setPort p { s.port p with txDisable := !s.flag i 0x14 }
    if was = 3 ∨ s.ownPort p ≠ some p then s else s.raise (6 * p + 1) 0

/-- The mode or the override of a position has changed: a module whose identity is known is judged again (R102). -/
def State.rejudgeModule (s : State) (p : Nat) : State :=
  if s.nat (0x2100 + p) 0x0E = 2 ∨ s.nat (0x2100 + p) 0x0E = 3 then s.judgeModule p else s

/-- The position whose selection line an access to the cage of position `p` uses: the lowest of a four-lane cage (R104). -/
def State.selectPosition (s : State) (p : Nat) : Nat := if 2 ≤ s.nat (0x2100 + p) 0x08 then 4 * (p / 4) else p

/-- The accesses on the bus of cluster `c`, the running one first (R103, R104). -/
def State.busAt (s : State) (c : Nat) : List BusAccess := Sparse.get [] s.busQueue c
def State.setBus (s : State) (c : Nat) (l : List BusAccess) : State := { s with busQueue := Sparse.set [] s.busQueue c l }

/-- The position whose selection line an access uses (R104). -/
def State.accessAt (s : State) : BusAccess → Nat
  | .read n => n
  | .write p _ _ => s.selectPosition p

/-- MOD_SEL_n is asserted: position `n` is the one that its bus serves (R104). The model's pin level: true = asserted, low. -/
def State.modSelected (s : State) (n : Nat) : Bool := (s.busAt (n / 4)).head?.map s.accessAt == some n

/-- Begin an identity read of the module at a cage: it joins the queue of its bus (R101, R104). -/
def State.startRead (s : State) (p : Nat) : State :=
  let c := p / 4
  let n := s.selectPosition p
  let s := if (s.busAt c).contains (.read n) then s else s.setBus c (s.busAt c ++ [.read n])
  s.eachPosition p (fun a q => a.setNat (0x2100 + q) 0x0E 1)

/-- The identity read of a cage has ended, or its module has gone (R104). -/
def State.endRead (s : State) (p : Nat) : State := s.setBus (p / 4) ((s.busAt (p / 4)).filter (fun a => a != .read (s.selectPosition p)))

/-- An access runs on the bus of cluster `c` (R103, R104). -/
def State.busReads (s : State) (c : Nat) : Bool := !(s.busAt c).isEmpty

/-- The polls that waited behind the accesses to the bus of cluster `c` are done (R103). -/
def State.servePolls (s : State) (c : Nat) : State :=
  (items 4).foldl (fun a i =>
    let p := 4 * c + i
    match (a.port p).waitingPoll with
    | some v => a.setPort p { a.port p with waitingPoll := none, diagnostics := v }
    | none => a) s

/-! ## The link identity record -/


/-- Every field of a record lies within its range; a reserved one within it is 0 (R106; DESIGN CHOICE, log entry 120). -/
def recordInRange (r : List Byte) : Bool :=
  decide (byteAt r 3 < 4) && (slice r 4 16).all (fun b => decide (b.toNat < 128)) &&
    decide ((signed 32 (numAt r 24 4)).natAbs ≤ 1000000000) && numAt r 30 2 == 0 && decide (1 ≤ byteAt r 34 ∧ byteAt r 34 ≤ 12) &&
    decide (1 ≤ byteAt r 35 ∧ byteAt r 35 ≤ 31) && decide (numAt r 36 4 ≤ 120000) && (slice r 40 20).all (fun b => b.toNat == 0)

/-- The status of a record as read: 0 no marker, 4 unknown version, 2 CRC error, 3 out of range, 1 accepted (R107; the order of the
checks is a DESIGN CHOICE, log entry 20). -/
def recordStatus (r : List Byte) : Nat :=
  if numAt r 0 2 ≠ 0x474C then 0 else if byteAt r 2 ≠ 1 then 4
  else if r.length ≠ 64 ∨ crc32 (r.take 60) ≠ numAt r 60 4 then 2 else if recordInRange r then 1 else 3

/-- The asymmetry that an accepted record with flag bit 0 supplies, ps (R107). -/
def recordSays (r : List Byte) : Option Int :=
  if recordStatus r = 1 ∧ byteAt r 3 % 2 = 1 then some (signed 32 (numAt r 24 4)) else none

/-- Keep a record as read at a position, with its status and the asymmetry it supplies (R107). The first read of a record that a removal left
undefined reports 0 or 2 (R108). -/
def State.keepRecord (s : State) (p : Nat) (r : List Byte) : State :=
  let i := 0x2100 + p
  let torn := (s.port p).torn && recordStatus r != 0
  ((s.setBlob i 0x0F r).setNat i 0x10 (if torn then 2 else recordStatus r)).setPort p { s.port p with
    recordAsymmetry := if torn then none else recordSays r
    torn := false }

/-- A module has been removed during the write of its record, at an instant: the record is undefined (R108). -/
def State.tearRecord (s : State) (p : Nat) : State :=
  let torn := (items 64).map (Config.tornRecordByte p s.now)
  s.eachPosition p (fun a q => (a.setBlob (0x2100 + q) 0x0F torn).setPort q { a.port q with torn := true })

/-- The 64 bytes have been written and read back, with an end: the write succeeds only on a matching read-back CRC; a protected module refuses it; a
module removed meanwhile fails it and holds an undefined record (R108). A failure other than write-protected, and a cage without a module, answer 09h: a
DESIGN CHOICE, log entry 117; after a read-back that does not match, .0F and .10 stand as they were (DESIGN CHOICE, log entry 120). -/
def State.writeRecord (s : State) (p : Nat) (bytes : List Byte) (outcome : RecordWriteEnd) : State :=
  if !(s.port p).modulePresent then s.ruleRefused 0
  else match outcome with
    | .verified =>
      let t := s.eachPosition p (fun a q => a.keepRecord q bytes)
      if crc32 (bytes.take 60) = numAt bytes 60 4 then t.done else t.ruleRefused 0
    | .mismatch => s.ruleRefused 0
    | .protectedModule => s.answer 0x13 0
    | .moduleRemoved => (s.tearRecord p).ruleRefused 0

/-- The bus of cluster `c` goes on: the record writes at the front of its queue are carried out, up to the next identity read; on a free bus the polls
are done (R103, R104, R108). -/
def State.serveAccesses (s : State) (c : Nat) : List BusAccess → State
  | [] => (s.setBus c []).servePolls c
  | .read n :: l => s.setBus c (.read n :: l)
  | .write p bytes outcome :: l => (s.writeRecord p bytes outcome).serveAccesses c l
def State.serveBus (s : State) (c : Nat) : State := s.serveAccesses c (s.busAt c)

/-- MODULE_INSERT: a module comes into the cage: TX_DISABLE is held asserted, and the identity of a cage with a type is to be read
(R101, R102). -/
def execModuleInsert (p : PortId) (s : State) : Outcome State Fault Refusal :=
  .next (let s := s.eachPosition p (fun a q => a.setPort q { a.port q with modulePresent := true, txDisable := true })
    if s.nat (0x2100 + p) 0x08 = 0 then s else s.startRead p)

/-- MODULE_REMOVE: the module is gone: state absent, TX_DISABLE asserted, nothing waits for it, and its lanes lose signal (R102, R103). -/
def execModuleRemove (p : PortId) (s : State) : Outcome State Fault Refusal :=
  .next (let s := s.eachPosition p (fun a q =>
      ((a.setPort q { a.port q with
        modulePresent := false, txDisable := true, moduleModes := 0, diagnostics := [], waitingPoll := none }).setNat
          (0x2100 + q) 0x0E 0).signalLost q)
    (s.endRead p).serveBus (p / 4))

/-- REREAD_MODULE: identity and record of a present module are to be read again (R101). -/
def execRereadModule (role : Role) (p : PortId) (s : State) : Outcome State Fault Refusal :=
  .next (s.hostWrite role (0x2100 + p) 0x13 fun s =>
    (if (s.port p).modulePresent ∧ s.nat (0x2100 + p) 0x08 ≠ 0 then s.startRead p else s).done)

/-- MODULE_IDENTITY_READ: the read of the position that its bus serves is done: the base page is kept, the record is judged, and the module is judged against the mode (R101, R102,
R104, R107). -/
def execModuleIdentityRead (p : PortId) (page : List Byte) (modes : BitVec 7) (record : List Byte) (s : State) :
    Outcome State Fault Refusal :=
  .next (if s.nat (0x2100 + p) 0x0E = 1 ∧ s.modSelected (s.selectPosition p) then
      let s := s.eachPosition p (fun a q =>
        let a := (a.setBlob (0x2100 + q) 0x11 page).setPort q { a.port q with moduleModes := modes.toNat }
        (a.keepRecord q record).judgeModule q)
      (s.endRead p).serveBus (p / 4)
    else s)

/-- MODULE_READY_TIMEOUT: a CMIS module is not ready within 10 s: unreadable (R101; 15 R380). -/
def execModuleReadyTimeout (p : PortId) (s : State) : Outcome State Fault Refusal :=
  .next (if s.nat (0x2100 + p) 0x0E = 1 ∧ s.modSelected (s.selectPosition p) ∧ s.nat (0x2100 + p) 0x08 = 3 then
      let s := s.eachPosition p (fun a q =>
        let a := a.setNat (0x2100 + q) 0x0E 4
        if a.ownPort q = some q then a.raise (6 * q + 1) 0 else a)
      (s.endRead p).serveBus (p / 4)
    else s)

/-- LINK_IDENTITY_RECORD_WRITE: a record goes to the module; on a busy bus the write waits in the bus's queue, and its answer with it (R103, R104,
R108). -/
def execLinkIdentityRecordWrite (role : Role) (p : PortId) (bytes : List Byte) (outcome : RecordWriteEnd) (s : State) :
    Outcome State Fault Refusal :=
  .next (s.hostWrite role (0x2100 + p) 0x0F fun s =>
    if bytes.length ≠ 64 then s.answer 0x07 64
    else if s.busReads (p / 4) && (s.port p).modulePresent then s.setBus (p / 4) (s.busAt (p / 4) ++ [.write p bytes outcome])
    else s.writeRecord p bytes outcome)

/-! ## Diagnostics, reset, statistics -/

/-- DIAGNOSTICS_POLL: the module's diagnostics are read, behind an identity read on the same bus (R103). -/
def execDiagnosticsPoll (p : PortId) (values : List Int) (s : State) : Outcome State Fault Refusal :=
  .next (if !(s.port p).modulePresent then s
    else if s.busReads (p / 4) then s.setPort p { s.port p with waitingPoll := some values }
    else s.setPort p { s.port p with diagnostics := values })

/-- Every position of cluster `c` carries a four-lane cage (R104). -/
def State.fourLaneCage (s : State) (c : Nat) : Bool := (items 4).all (fun i => decide (2 ≤ s.nat (0x2100 + (4 * c + i)) 0x08))

/-- Assert or release MOD_RESET_N_c. -/
def State.putModReset (s : State) (c : Nat) (on : Bool) : State := { s with modReset := setBit s.modReset c on }

/-- The cage types of a cluster have changed while identity reads wait or run: they begin anew as the new types have them; a position without a type is
read no more (R101, R104). -/
def State.requeueReads (s : State) (c : Nat) : State :=
  let writes := (s.busAt c).filter (fun x => match x with
    | .read _ => false
    | .write _ _ _ => true)
  let s := (items 4).foldl (fun a i =>
    let p := 4 * c + i
    if a.nat (0x2100 + p) 0x0E ≠ 1 then a
    else if a.nat (0x2100 + p) 0x08 = 0 then a.setNat (0x2100 + p) 0x0E 0
    else a.startRead p) (s.setBus c [])
  (s.setBus c (s.busAt c ++ writes)).serveBus c

/-- A commit has changed the cage type of a cluster: to a four-lane type, reset is asserted for 10 µs; away from one, asserted (R104). -/
def State.cageChanged (s : State) (c : Nat) : State :=
  let s := (s.requeueReads c).putModReset c true
  { s with modResetWait := setBit s.modResetWait c (s.fourLaneCage c) }

/-- A cold start runs: every module reset stays asserted until it completes (R104). -/
def State.coldRunning (s : State) : Bool := s.runState == 0

/-- MOD_RESET_RELEASE: the 10 µs are over; a fence of the cluster, and a cold start, go on holding the reset (R104). -/
def execModResetRelease (c : ClusterId) (s : State) : Outcome State Fault Refusal :=
  .next (if s.modResetWait.testBit c then
      let s := { s with modResetWait := setBit s.modResetWait c false }
      if s.fourLaneCage c ∧ !s.clusterFenced c ∧ !s.coldRunning then s.putModReset c false else s
    else s)

/-- STATISTICS_CLEAR: every counter of the port is zeroed; a counter with an event in the same cycle reads 1: number i is that of
subindex i + 1 (R100). -/
def execStatisticsClear (role : Role) (p : PortId) (coincident : List (Fin 16)) (s : State) : Outcome State Fault Refusal :=
  let subs : List Nat := (items 16).map (· + 1)
  .next (s.hostWrite role (0x2200 + p) 0x0F fun s =>
    (subs.foldl (fun a k =>
      if k = 0x0F then a else a.setNat (0x2200 + p) k (ofBool (coincident.any (fun i => i.val + 1 == k)))) s
      |>.setPort p { s.port p with fecSince := (s.port p).fecSince.map (fun _ => s.now) }).done)

end Sys2Proof.Machine
end

