-- ==== Sys2Proof/Machine/Transmit.lean ====
section
/-! DEFINITION. A frame leaving a port: its bytes on the line with tags, one-step insertion and FCS (05 R124, R132, R137; 10 R269, R270),
MACsec (04 R95 to R98), statistics (04 R100) and transmit timestamps (10 R271, R272). -/

namespace Sys2Proof.Machine

/-! ## Tags -/

/-- The C-tag of a departing frame: removed when the VLAN is sent untagged there; otherwise the frame carries its VID and priority. A
hub frame without a VID stays as the engine built it (05 R132, R133; log entry 14). -/
def egressTag (d : Descriptor) (body : List Byte) : List Byte :=
  let h := parseHead (body.take 128)
  if d.untag = 1 then (if h.tagged then body.take 12 ++ body.drop 16 else body)
  else if d.vid = 0 then body
  else
    let tci := d.priority * 8192 + h.dei * 4096 + d.vid
    body.take 12 ++ [0x81, 0x00] ++ toBytes 2 tci ++ body.drop (if h.tagged then 16 else 12)

/-- The R-TAG: inserted behind the C-tag by sequence generation, removed by recovery with removal (05 R122, R124). -/
def egressRtag (d : Descriptor) (body : List Byte) : List Byte :=
  let h := parseHead (body.take 128)
  if d.frer = 1 then
    let o := if h.tagged then 16 else 12
    body.take o ++ [0xF1, 0xC1, 0, 0] ++ toBytes 2 d.frerSeq ++ body.drop o
  else if d.frer = 3 then
    match h.rtag with
    | some (_, o) => body.take o ++ body.drop (o + 6)
    | none => body
  else body

/-! ## One-step insertion -/

/-- Put bytes at an offset. -/
def putBytes (l : List Byte) (o : Nat) (b : List Byte) : List Byte := l.take o ++ b ++ l.drop (o + b.length)

/-- Add to the correctionField of a PTP header at offset `o`. -/
def addCorrection (body : List Byte) (o : Nat) (v : Int) : List Byte :=
  putBytes body (o + 8) (toBytes 8 (wrapInt 64 (signed 64 (numAt body (o + 8) 8) + v)))

/-- The insertion itself, given the departure on the bound time base: raw at the PCS boundary and referred to the reference plane (R269,
R97). -/
def State.insertTime (s : State) (d : Descriptor) (o : Nat) (raw referred : Int) (body : List Byte) : List Byte :=
  match d.insert with
  | 1 =>
    let ns := raw / 65536
    let stamp := toBytes 6 (ns / 1000000000).toNat ++ toBytes 4 (ns % 1000000000).toNat
    addCorrection (putBytes body (o + 34) stamp) o (referred - ns * 65536)
  | 2 => addCorrection body o (referred - d.passed)
  | _ =>
    let incoming := if d.insertPort < 96 then (s.splitDelay d.insertPort ((s.delayS d.insertPort).getD 0)).1 else 0
    addCorrection body o (referred - d.passed + psUnits incoming)

/-- The ones' complement sum of 16-bit words. -/
def wordSum : List Byte → Nat
  | a :: b :: r => a.toNat * 256 + b.toNat + wordSum r
  | [a] => a.toNat * 256
  | [] => 0

/-- Set the last two bytes of a UDP payload so that its ones' complement sum stays what it was (R270). -/
def keepSum (before after : List Byte) (o n : Nat) : List Byte :=
  let old := wordSum (slice before o n)
  let zero := putBytes after (o + n - 2) [0, 0]
  let rest := wordSum (slice zero o n)
  let w := (old + (65535 - rest % 65535)) % 65535
  putBytes after (o + n - 2) (if n % 2 = 0 then toBytes 2 w else toBytes 2 (w % 256 * 256 + w / 256))

/-- One-step insertion with the enclosing checksum kept valid: the bytes, and whether the insertion was refused for want of the two
trailing bytes of a UDP over IPv6 frame (R269, R270). -/
def State.oneStep (s : State) (p : Nat) (c : Copy) (body : List Byte) : List Byte × Bool :=
  let d := c.desc
  if !d.timing ∨ d.insert = 0 then (body, false)
  else
    let h := parseHead (body.take 128)
    match h.ptp with
    | none => (body, false)
    | some (_, domain, sdo, o) =>
      match s.boundTb domain sdo with
      | none => (body, false)
      | some k =>
        let raw := c.depart.getD k 0
        let out := s.insertTime d o raw (s.referTransmit p raw) body
        match h.udpAt with
        | none => (out, false)
        | some u =>
          if h.ipVersion = 1 then (putBytes out (u + 6) [0, 0], false)
          else
            let n := numAt body (u + 4) 2 - 8
            if numAt body (o + 2) 2 + 2 ≤ n then (keepSum body out (u + 8) n, false) else (body, true)

/-! ## The frame on the line -/

/-- Bytes that MACsec adds to a frame: a SecTAG of 8 bytes and an integrity check value of 16 (IEEE 802.1AE: PRESUMED, log entry 101). -/
def macsecBytes : Nat := 24

/-- A frame as the SecY protects it: SecTAG with AN and packet number behind the addresses, the secure data from the confidentiality offset on
encrypted, the integrity check value over all of it (04 R95, R97; IEEE 802.1AE: PRESUMED, log entry 101). -/
def protectFrame (p : Nat) (k : Nat × Nat × Nat) (body : List Byte) : List Byte :=
  let (an, packet, offset) := k
  let data := body.drop 12
  let short := if data.length < 48 then data.length else 0
  let tag := [0x88, 0xE5, BitVec.ofNat 8 (0x0C + an), BitVec.ofNat 8 short] ++ toBytes 4 (packet % 2 ^ 32)
  let secure := data.take offset ++ (data.drop offset).mapIdx (fun i b => b ^^^ Config.keystreamByte p an packet i)
  let all := body.take 12 ++ tag ++ secure
  all ++ (items 16).map (Config.icvByte p an packet all)

/-- The frame as it leaves: tags, insertion, protection, FCS; the complement of the FCS for one that is ended bad (R137; 04 R97). -/
def State.onLine (s : State) (p : Nat) (c : Copy) (bad : Bool) : List Byte × Bool :=
  let (b, refused) := s.oneStep p c (egressRtag c.desc (egressTag c.desc c.body))
  let b := if c.secy = 1 then protectFrame p c.protect b else b
  (b ++ (if bad then (fcsBytes b).map (fun x => ~~~x) else fcsBytes b), refused)

/-- The length of a whole copy on the line of port `p`: its tags, FCS, and what MACsec adds (07 R191). -/
def State.lineLength (s : State) (p : Nat) (c : Copy) : Nat :=
  (egressRtag c.desc (egressTag c.desc c.body)).length + 4 + (if s.flag (0x2100 + p) 0x07 then macsecBytes else 0)

/-- What stands where a frame of port `p` ends (05 R137). -/
def State.lineEnd (s : State) (p : Nat) (bad : Bool) : LineEnd :=
  if !bad then .plain else if s.mode p = 1 then .errorCharacter else .errorBlock

/-- The thread bound to a ring (02 R53). -/
def State.ringThread (s : State) (i : Nat) : Nat := ((s.ringX i).bound).getD (s.nat (0xB100 + i) 0x03)

/-- The last packet number of the association in force (04 R98). -/
def PortX.lastNumber (x : PortX) : Nat := if x.xpn then 2 ^ 64 - 1 else 2 ^ 32 - 1

/-- A departing frame enters the SecY: bypassed, protected under the next packet number, or dropped. A number that reaches the rekey
threshold raises the rekey event; the last number used exhausts the association (04 R95, R98). -/
def State.secyTake (s : State) (p : Nat) : Nat × State :=
  if !s.flag (0x2100 + p) 0x07 then (0, s)
  else
    let x := s.port p
    if !x.association ∨ x.exhausted then (2, s)
    else
      let n := x.packetNumber + 1
      let rekey := !x.rekeyRaised && decide (x.lastNumber + 1 - 2 ^ 24 ≤ n)
      let gone := decide (x.lastNumber ≤ n)
      let s := s.setPort p { x with packetNumber := n, rekeyRaised := x.rekeyRaised || rekey, exhausted := gone }
      let s := if rekey then s.sendEvent (s.ringThread (8 * (p / 12))) 7 p else s
      (1, if gone then s.raise (6 * p + 2) 0 else s)

/-- The association under which port `p` protects a frame now, and the number it has taken: AN, packet number, confidentiality offset (04 R95). -/
def State.protection (s : State) (p : Nat) : Nat × Nat × Nat :=
  let x := s.port p
  (x.transmitAn, x.packetNumber, ((Sparse.get none x.associations x.transmitAn).map (·.offset)).getD 0)

/-- The time in 2^-16 ns from the point of one-step insertion to the PCS boundary: MACsec's transmit delay and what else is fixed (04 R97). -/
def State.insertionDelay (s : State) (p : Nat) : Int :=
  psUnits ((if s.flag (0x2100 + p) 0x07 then (macsecPs (modeLaneCode (s.mode p))).2 else 0) + Config.insertionDelayPs (s.mode p))

/-- A tagged frame's transmit timestamp record goes to the thread of the region's TIME ring, on the time base of the frame's domain or
TB0 (10 R271, R272). The event carries the record. -/
def State.stampEvent (s : State) (p : Nat) (c : Copy) : State :=
  if c.desc.stampTag = 0 then s
  else
    let k := ((parseHead (c.body.take 128)).ptp.bind (fun x => s.boundTb x.2.1 x.2.2.1)).getD 0
    let t := (s.referTransmit p (c.depart.getD k 0)).toNat
    s.sendEvent (s.ringThread (8 * (p / 12))) 2
      (ofBytes (stampRecord t p (s.stampFlags p k true) (c.departEpochs.getD k 0) c.desc.stampTag))

/-- The cells of a frame in transmission have been read: what was corrected is counted, and cells spoilt since it started make every copy that
uses them bad (07 R183). -/
def State.readSent (s : State) (p : Nat) (c : Copy) : State :=
  let g := p / 12
  let s := (s.readWords g c.serial).countSpoilt g c
  if c.bad ∨ c.spoiltCells = 0 then s else s.badCopies g c.sameFrame false (fun _ => 0)

/-- The frame in transmission ends: it is on the line and counted, or was dropped by the SecY (04 R98, R100; 05 R137; 10 R270). A list that became
operational during it counts a gate overrun, whether or not it keeps the frame's gate open (07 R203; DESIGN CHOICE, log entry 120). -/
def State.endFrame (s : State) (p q : Nat) (c : Copy) (cut : Bool) : State :=
  let bad := cut || c.bad || decide (c.spoiltCells ≠ 0)
  let (bytes, refused) := s.onLine p c bad
  let s := (s.readSent p c).removeCopies p q (·.started)
  let e := s.eg p
  let s := s.setEg p { e with sending := 32, listChanged := false }
  let s := if e.listChanged then s.inc64 (0x4010 + p) 0x06 else s
  let s := if refused then s.inc32 (0x2400 + p) 0x16 else s
  if c.secy = 2 then s.inc64 (0x2200 + p) 0x0C
  else
    let s := { s with wire := Sparse.set {} s.wire p { bytes := bytes, ends := s.lineEnd p bad } }
    let s := (s.addSat (0x2200 + p) 0x07 64 bytes.length).inc64 (0x2200 + p) 0x08
    let s := if bad then s.inc64 (0x2200 + p) 0x09 else s
    if c.secy = 1 then s.inc64 (0x2200 + p) 0x0E else s

end Sys2Proof.Machine
end

