-- ==== Sys2Proof/Machine/Queues.lean ====
section
/-! DEFINITION. The egress side of a port and the sweeps of a region (07_buffers_and_queues.md R184, R189 to R201): selection, ageing,
gates, flushing, the buffer scarab. -/

namespace Sys2Proof.Machine

open Host

/-! ## Ageing -/

/-- Why a copy that has not started is to be discarded now: 0 not yet, 1 its mayfly limit, 2 its deadline; whichever passed first (R196,
R197). -/
def State.expired (s : State) (p q : Nat) (c : Copy) : Nat :=
  let now := (s.tbNow 0 : Int)
  let limit := c.entry + nsUnits (s.nat (queueIndex p q) 0x04)
  if c.started then 0
  else match c.deadline with
    | none => if limit < now then 1 else 0
    | some d =>
      if limit < now ∧ limit < d then 1
      else if d < now then 2
      else if limit < now then 1 else 0

/-- A copy is discarded for its age or deadline: counts, sticky bits, and the breach of a missed deadline (R196, R197, 08 R219). -/
def State.countAged (s : State) (p q : Nat) (c : Copy) (why : Nat) : State :=
  let i := queueIndex p q
  if why = 1 then (s.inc64 i 0x09).putBit i 0x07 2 true
  else
    let late := (s.tbNow 0 : Int) - c.deadline.getD 0
    ((s.inc64 i 0x0A).putBit i 0x07 4 true).copyBreach (p / 12) c (if s.portUp p then 1 else 2) (if s.portUp p then late else 0)

/-- Discard a copy for its age or deadline; one that has started stays (R198). -/
def State.ageOut (s : State) (p q : Nat) (c : Copy) (why : Nat) : State :=
  (s.removeCopies p q (fun d => c.sameFrame d && !d.started)).countAged p q c why

/-- Discard the heads of a queue that are past their limits (R192). -/
def State.expireHeads (s : State) (p q : Nat) : Nat → State
  | 0 => s
  | n + 1 =>
    match (s.queue p q).copies with
    | [] => s
    | c :: _ =>
      let why := s.expired p q c
      if why = 0 then s else (s.ageOut p q c why).expireHeads p q n

/-- Discard every expired copy of a queue (R198). -/
def State.expireAll (s : State) (p q : Nat) : State :=
  (s.queue p q).copies.foldl (fun a c =>
    let why := a.expired p q c
    if why = 0 then a else a.ageOut p q c why) s

/-! ## Selection -/

/-- The length of a copy for R190: what goes on the line when it is whole, else the port's maximum frame (R191). -/
def State.fitLength (s : State) (p : Nat) (c : Copy) : Nat :=
  if c.complete then s.lineLength p c else s.nat (0x2100 + p) 0x06

/-- The frame leaves before its gate closes and before the next protected window (R190, R191). -/
def State.fits (s : State) (p q : Nat) (c : Copy) : Bool :=
  match s.openTime p q with
  | none => true
  | some n => decide (byteTime (s.fitLength p c + 20) (s.portRate p) ≤ n * 100)

/-- A head is ready: complete or at its start threshold, and a held one at its release instant (R135, R192, 08 R214). -/
def State.ready (s : State) (p : Nat) (c : Copy) : Bool :=
  s.enough p c && (match c.release with
    | none => true
    | some e => decide (e ≤ (s.tbNow 0 : Int)))

/-- The head of a queue may be sent now: gate open, ready, fitting. -/
def State.sendable (s : State) (p q : Nat) : Bool :=
  match (s.queue p q).copies with
  | [] => false
  | c :: _ => !c.started && s.gateOpen p q && s.ready p c && s.fits p q c

/-- Weight of a queue: 0 = strict (R192). -/
def State.weight (s : State) (p q : Nat) : Nat := s.nat (queueIndex p q) 0x0D

/-- Strict service: Q29 to Q24 first; nothing else in a protected window; then Q30, Q31 and Q23 to Q0 with weight 0 (R192). -/
def State.strictChoice (s : State) (p : Nat) : Option Nat :=
  match [29, 28, 27, 26, 25, 24].find? (fun q => s.sendable p q) with
  | some q => some q
  | none =>
    if s.inProtected p then none
    else ([30, 31] ++ ((items 24).map (fun i => 23 - i)).filter (fun q => s.weight p q == 0)).find? (fun q => s.sendable p q)

/-- One visit of deficit round robin to queue `q`: it gains its quantum, and is chosen when its deficit covers its head (R192). -/
def State.roundRobin (s : State) (p : Nat) : Nat → Nat → Option (Nat × State)
  | 0, _ => none
  | n + 1, q =>
    let x := s.queue p q
    if s.weight p q = 0 ∨ !s.sendable p q then
      let s := if x.copies.isEmpty ∧ x.deficit ≠ 0 then s.setQueue p q { x with deficit := 0 } else s
      s.roundRobin p n ((q + 1) % 24)
    else
      let d := x.deficit + s.weight p q * 256
      let need := (x.copies.head?.map (fun c => s.fitLength p c)).getD 0
      let s := s.setQueue p q { x with deficit := d }
      if need ≤ d then some (q, s.setEg p { s.eg p with robin := q }) else s.roundRobin p n ((q + 1) % 24)

/-- Weighted service: the queue last served goes on while its deficit covers its head, then the others in turn (R192). -/
def State.weightedChoice (s : State) (p : Nat) : Option (Nat × State) :=
  if !(items 24).any (fun q => s.weight p q != 0 && s.sendable p q) then none
  else
    let q := (s.eg p).robin
    let x := s.queue p q
    let need := (x.copies.head?.map (fun c => s.fitLength p c)).getD 0
    if s.weight p q != 0 && s.sendable p q && decide (need ≤ x.deficit) then some (q, s)
    else s.roundRobin p 1600 ((q + 1) % 24)

/-- The item of a time line is fenced: lines 0 to 23 lead to the clusters, 24 to 31 to the regions (10 R256). -/
def State.lineFenced (s : State) (line : Nat) : Bool := if line < 24 then s.clusterFenced line else s.regionFenced (line - 24)

/-- The hub ns of the edge of what is announced: 0.5 µs after the announcement has reached every replica, and 2 µs after its commit point whatever has
become of a line (09 R234, R235; 10 R259; log entry 122). -/
def State.edgeAt (s : State) (a : Announcement) : Nat :=
  if (items 32).all (fun line => s.lineFenced line || a.told.testBit line) then min (a.last + 500) (a.since + 2000) else a.since + 2000

/-- An instant `ahead` of now, in 2^-16 ns, lies at or beyond the edge of what cluster `c` has been told of (10 R284). -/
def State.beyondEdge (s : State) (c : Nat) (a : Announcement) (ahead : Int) : Bool :=
  a.told.testBit c && decide (((s.edgeAt a : Int) - s.now) * 65536 ≤ ahead)

/-- The value and epoch of time base `k` in cluster `c` at an instant `ahead` of now: on the side of a jump, awaited by the replica or announced to it,
at which the instant lies (10 R259, R284). -/
def State.departAt (s : State) (c k : Nat) (ahead : Int) : Int × Nat :=
  let x := s.tb k
  let t := s.clusterNow c k + ahead
  let e := s.clusterEpoch c k
  let (t, e) := match ((s.replica c).copy k).bind (·.jump) with
    | some j => if (j.edge : Int) ≤ t * 2 ^ 32 then (t + j.by_, j.epoch) else (t, e)
    | none => (t, e)
  let (t, e) := match x.pendingStep with
    | some d => if s.beyondEdge c x.stepNews ahead then (t + d, (e + 1) % 256) else (t, e)
    | none => (t, e)
  match x.pendingSet with
  | some (v, ref) => if s.beyondEdge c x.setNews ahead then ((v : Int) + (s.now - ref) * 65536 + ahead, (e + 1) % 256) else (t, e)
  | none => (t, e)

/-- Start the head of a queue: a spoilt cell makes every copy using it bad before it starts; otherwise the frame departs now: timestamps,
SecY, lateness of a held copy (07 R183, 08 R219, 10 R261). `behind` is the start's place after the replica's tick. -/
def State.startHead (s : State) (p q : Nat) (behind : Int) : State :=
  match (s.queue p q).copies with
  | [] => s
  | c :: rest =>
    if c.spoiltCells ≠ 0 then (s.countSpoilt (p / 12) c).badCopies (p / 12) c.sameFrame false (fun _ => 0)
    else
      let late := c.lateBy.getD 0
      let s := if 0 < late then s.copyBreach (p / 12) c 6 late else s
      let (secy, s) := s.secyTake p
      let x := s.queue p q
      let c := { c with
        started := true
        breached := c.breached || decide (0 < late)
        depart := (items 8).map (fun k => (s.departAt (p / 4) k (behind + s.insertionDelay p)).1)
        departEpochs := (items 8).map (fun k => (s.departAt (p / 4) k (behind + s.insertionDelay p)).2)
        secy := secy
        protect := s.protection p }
      let used := if q < 24 ∧ s.weight p q ≠ 0 then x.deficit - s.fitLength p c else x.deficit
      let s := s.setQueue p q { x with copies := c :: rest, deficit := used }
      (s.setEg p { s.eg p with sending := q, listChanged := false }).stampEvent p c

/-- Choose and start a frame at an up, idle port (R192). -/
def State.selectNow (s : State) (p : Nat) (edge : StartEdge) : State :=
  if !s.portUp p ∨ s.portFenced p then s
  else
    let (behind, s) := s.frameStart p (s.sendingLane p) edge
    let s := (items 32).foldl (fun a q => a.expireHeads p q (a.queue p q).copies.length) s
    match s.strictChoice p with
    | some q => s.startHead p q behind
    | none =>
      if s.inProtected p then s
      else match s.weightedChoice p with
        | some (q, s) => s.startHead p q behind
        | none => s

/-- EGRESS_SELECTION: at a frame boundary the frame in transmission, when all of it is in, has left; then the port selects (R192). -/
def execEgressSelection (p : PortId) (edge : StartEdge) (s : State) : Outcome State Fault Refusal :=
  let q := (s.eg p).sending
  if 32 ≤ q then .next (s.selectNow p edge)
  else match (s.queue p q).copies.find? (·.started) with
    | none => .next ((s.setEg p { s.eg p with sending := 32 }).selectNow p edge)
    | some c =>
      if c.bad ∨ c.complete then .next ((s.endFrame p q c false).selectNow p edge)
      else .next s

/-- RELEASE_INSTANT: the port selects again at a held copy's release instant even when it is idle (08 R214). -/
def execReleaseInstant (p : PortId) (edge : StartEdge) (s : State) : Outcome State Fault Refusal :=
  if (s.eg p).sending < 32 then .next s else .next (s.selectNow p edge)

/-- EGRESS_UNDERRUN: the port edge needs a cell of the frame in transmission that is not there: the frame is ended bad (05 R137, 08 R219
code 11). -/
def execEgressUnderrun (p : PortId) (s : State) : Outcome State Fault Refusal :=
  let q := (s.eg p).sending
  if 32 ≤ q then .next s
  else match (s.queue p q).copies.find? (·.started) with
    | none => .next s
    | some c =>
      if c.complete then .next s
      else .next (((s.copyBreach (p / 12) c 11 0).endFrame p q c true).inc64 (0x3100 + p) 0x09)

/-! ## Sweeps -/

/-- Frames that wait at ingress past the ingress mayfly limit, by port and serial (R196). -/
def State.ingressAged (s : State) (g : Nat) : List (Nat × Nat) :=
  let r := s.region g
  let limit := nsUnits (s.nat (0x4000 + g) 0x06)
  let old := fun (x : Cell) => decide (x.entry + limit < (s.tbNow 0 : Int))
  ((r.contracted ++ r.bestEffort.flatMap (·.2)).filter old).map (fun x => (x.port, x.serial)) |>.eraseDups

/-- Discard the waiting cells of a frame at ingress, and what is still to come of it (R196). -/
def State.dropIngress (s : State) (g : Nat) (id : Nat × Nat) : State :=
  let r := s.region g
  let same := fun (x : Cell) => x.port == id.1 && x.serial == id.2
  let gone := (r.contracted ++ r.bestEffort.flatMap (·.2)).filter same
  let s := s.setRegion g { r with
    contracted := r.contracted.filter (fun x => !same x)
    bestEffort := (r.bestEffort.map (fun q => (q.1, q.2.filter (fun x => !same x)))).filter (fun q => !q.2.isEmpty) }
  let first := (gone.map (fun x => (x.index, x.pool))).eraseDups
  let s := first.foldl (fun a x => a.returnCell g x.2) s
  match s.rxAt id.1 with
  | some f => if f.serial = id.2 ∧ id.1 < 96 then s.setRx id.1 (some f.drop) else s
  | none => s

/-- A frame held until its tail (PRP) past the ingress limit is discarded (R196, 05 R135). -/
def State.dropHeldFrame (s : State) (g p : Nat) : State :=
  match s.rxAt p with
  | some f =>
    if f.heldCells.isEmpty ∨ (s.tbNow 0 : Int) ≤ f.entry + nsUnits (s.nat (0x4000 + g) 0x06) then s
    else
      let s := f.heldCells.foldl (fun a x => a.returnCell g x.pool) (s.setRx p (some { f.drop with heldCells := [] }))
      s.inc64 (0x4000 + g) 0x0F
  | none => s

/-- A first cell that waits in reorder is swept: each port whose copy is past its limit or deadline loses it, and with none left only a
placeholder stays (R196 to R198). -/
def State.sweepCell (s : State) (g : Nat) (x : Cell) : Cell × State :=
  match x.desc with
  | none => (x, s)
  | some d =>
    let ports := if x.first && x.valid then copyPorts g d else []
    let queue := fun (pd : Nat × Descriptor) => s.queueOf pd.1 pd.2
    let copy := fun (pd : Nat × Descriptor) => { copyOf x d with desc := pd.2 }
    let past := ports.filter (fun pd => s.expired pd.1 (queue pd) (copy pd) != 0)
    if past.isEmpty then (x, s)
    else
      let s := past.foldl (fun a pd => a.countAged pd.1 (queue pd) (copy pd) (s.expired pd.1 (queue pd) (copy pd))) s
      if past.length = ports.length then ({ x with valid := false, pool := 4 }, s.returnCell g x.pool)
      else
        let mask := past.foldl (fun m pd => setBit m (pd.1 - 12 * g) false) d.destination
        ({ x with desc := some { d with destination := mask } }, s)

/-- The cells of one window are swept in turn. -/
def State.sweepCells (s : State) (g : Nat) (l : List Cell) : List Cell × State :=
  l.foldl (fun a x => let (y, t) := a.2.sweepCell g x; (a.1 ++ [y], t)) ([], s)

/-- Every cell that waits in reorder in region `g` is swept, of the epoch that closes and of the next (R198; 06 R173). -/
def State.sweepWindows (s : State) (g : Nat) : State :=
  let s := (s.region g).window.foldl (fun a w =>
    let (l, a) := a.sweepCells g w.2
    a.setRegion g { a.region g with window := Sparse.set [] (a.region g).window w.1 l }) s
  (s.region g).nextWindow.foldl (fun a w =>
    let (l, a) := a.sweepCells g w.2
    a.setRegion g { a.region g with nextWindow := Sparse.set [] (a.region g).nextWindow w.1 l }) s

/-- AGE_SWEEP: region `g` sweeps every frame record of its slice (R198). -/
def execAgeSweep (g : RegionId) (s : State) : Outcome State Fault Refusal :=
  if s.regionFenced g then .next s
  else
    let s := (s.ingressAged g).foldl (fun a id => (a.dropIngress g id).inc64 (0x4000 + g.val) 0x0F) s
    let s := (items 12).foldl (fun a j => a.dropHeldFrame g (12 * g + j)) s
    let s := (items 384).foldl (fun a k =>
      if (a.queue (12 * g + k / 32) (k % 32)).copies.isEmpty then a else a.expireAll (12 * g + k / 32) (k % 32)) s
    let limit := nsUnits (s.nat (0x4000 + g) 0x07)
    let s := s.removeHostCopies g (fun c => decide (c.entry + limit < (s.tbNow 0 : Int)))
    .next (s.sweepWindows g)

/-! ## Gates -/

/-- GATE_LIST_ACTIVATION: the administrative list becomes operational at its instant; contracts that waited for it are admitted (R189, 08
R216). An empty list opens every gate. -/
def execGateListActivation (p : PortId) (s : State) : Outcome State Fault Refusal :=
  let e := s.eg p
  match e.pending with
  | none => .next s
  | some l =>
    if !(s.tb 0).running ∨ (s.tb0Ns : Int) < e.pendingAt then .next s
    else
      let op := if l.entries.isEmpty then none else some l
      let s := s.setEg p { e with
        operational := op
        pending := none
        position := (op.map (fun l => l.positionAt s.tb0Ns)).getD 0
        listChanged := decide (e.sending < 32) }
      let s := (s.setNat (0x4010 + p) 0x05 0).setBlob (0x4010 + p) 0x04 ((op.map gateListBytes).getD [])
      .next (s.activateContracts p)

/-- GATE_INTERVAL_END: the operational list moves to the interval in force (R189). -/
def execGateIntervalEnd (p : PortId) (s : State) : Outcome State Fault Refusal :=
  match (s.eg p).operational with
  | none => .next s
  | some l => .next (s.setEg p { s.eg p with position := l.positionAt s.tb0Ns })

/-- QUEUE_FLUSH: a flush that a host asked for takes effect at the frame boundary (R201). -/
def execQueueFlush (p : PortId) (q : Fin 32) (s : State) : Outcome State Fault Refusal :=
  if (s.queue p q).flush then .next ((s.setQueue p q { s.queue p q with flush := false }).flushQueue p q) else .next s

/-! ## The buffer scarab -/

/-- An uncorrectable error of a bank: more than 8 within 1 s raise its fault source, and are gathered anew (R184). The record's detail is the bank cell
group (15 R390), which the manual does not number. -/
def State.bankError (s : State) (g bank : Nat) : State :=
  let r := s.region g
  let recent := (Sparse.get [] r.bankErrors bank).filter (fun t => decide (s.now < t + 1000000000))
  if recent.length < 8 then s.setRegion g { r with bankErrors := Sparse.set [] r.bankErrors bank (recent ++ [s.now]) }
  else (s.setRegion g { r with bankErrors := Sparse.set [] r.bankErrors bank [] }).raise (768 + 32 * g + bank) (Config.bankCellGroup (16 * g + bank) s.now).toNat

/-- The cell lies in the place that a scrub names; at ingress the copies of a frame share it. -/
def Cell.inPlace (x : Cell) (h : HeldPlace) : Bool :=
  x.port == h.port && x.serial == h.serial && x.index == h.index && (!h.egress || x.variant == h.variant)

/-- Mark the place of a held cell as spoilt for its reader: stage one and a frame held for its tail at ingress; reorder, the egress queues and
the host queue at egress (R183, R184). -/
def State.spoil (s : State) (g : Nat) (h : HeldPlace) : State :=
  let hit := fun (x : Cell) => if x.inPlace h then { x with spoilt := true } else x
  let copy := fun (c : Copy) => { c with cells := c.cells.map hit }
  let r := s.region g
  if h.egress then
    let s := s.setRegion g { r with
      window := r.window.remap [] (fun _ => List.map hit)
      nextWindow := r.nextWindow.remap [] (fun _ => List.map hit)
      hostQueue := r.hostQueue.map copy }
    { s with queues := s.queues.remap {} (fun k e => if k / 384 = g then { e with copies := e.copies.map copy } else e) }
  else
    let s := s.setRegion g { r with
      contracted := r.contracted.map hit
      bestEffort := r.bestEffort.remap [] (fun _ => List.map hit) }
    match s.rxAt h.port with
    | some f => if h.port / 12 = g then s.setRx h.port (some { f with heldCells := f.heldCells.map hit }) else s
    | none => s

/-- The cells of a released bank that the scarab has now read in full return to the pools from which they left (R182, R184; 15 R399). -/
def State.returnBank (s : State) (g bank : Nat) : State :=
  let r := s.region g
  match Sparse.get none r.bankReturn bank with
  | none => s
  | some due =>
    if s.now < due then s
    else
      let i := 0x4000 + g
      let taken := Sparse.get (0, 0) r.bankTaken bank
      let s := (s.setNat i 0x05 (s.nat i 0x05 + taken.1)).setNat i 0x02 (s.nat i 0x02 + taken.2)
      (s.setRegion g { r with
        bankTaken := Sparse.set (0, 0) r.bankTaken bank (0, 0)
        bankReturn := Sparse.set none r.bankReturn bank none }).judgePool g

/-- BUFFER_SCRUB: the scarab reads a place of a bank, free or held: a single-bit error is corrected; an uncorrectable one withdraws a free
cell (of the shared pool, log entry 17) and is left to the reader of a held one. A released bank that it has read in full gets its cells back (R182 to
R184). -/
def execBufferScrub (g : RegionId) (bank : Fin 16) (held : Option HeldPlace) (finding : EccFinding) (s : State) :
    Outcome State Fault Refusal :=
  if s.bankFenced (16 * g + bank) then .next s
  else
    let s := s.returnBank g bank
    match finding with
    | .clean => .next s
    | .single => .next (s.inc64 (0x4000 + g) 0x0C)
    | .uncorrectable =>
      let s := s.bankError g bank
      match held with
      | some h => .next (s.spoil g h)
      | none =>
        let r := s.region g
        .next ((s.setRegion g { r with withdrawn := listAdd r.withdrawn 3 1 }).inc64 (0x4000 + g) 0x0D)

end Sys2Proof.Machine
end

