-- ==== Sys2Proof/Machine/Rings.lean ====
section
/-! DEFINITION. Host rings and hub channels (02_levels_and_islands.md R51 to R55): which frame a channel carries next, bindings and
carrying regions at frame boundaries. -/

namespace Sys2Proof.Machine

open Host

/-- The region whose hub channel now carries ring `i` (B100h.06). -/
def State.carrier (s : State) (i : Nat) : Nat := s.nat (0xB100 + i) 0x06

/-- Ring `i` is of class TIME (B100h.02). -/
def State.timeRing (s : State) (i : Nat) : Bool := i < 64 && s.nat (0xB100 + i) 0x02 == 1

/-- Bytes of a frame in a ring: its record and itself (10 R271). -/
def Copy.ringBytes (c : Copy) : Nat := c.desc.record.length + c.cells.foldl (fun n x => n + x.payload.length) 0

/-- Bytes of a ring's to-hub data area in use. -/
def RingX.inUse (x : RingX) : Nat := x.toHub.foldl (fun n c => n + c.ringBytes) 0

/-- The to-hub data area has room for a frame (R55); the twin-link controller takes any. -/
def State.ringRoom (s : State) (i : Nat) (c : Copy) : Bool :=
  64 ≤ i || decide ((s.ringX i).inUse + c.ringBytes ≤ s.nat (0xB100 + i) 0x04 * 1024)

/-- At a frame boundary of a ring on channel `g` toward the hub: a waiting rebinding and a waiting thread binding take effect (R53,
R54). -/
def State.ringBoundary (s : State) (g i : Nat) : State :=
  if s.carrier i ≠ g then s
  else
    let x := s.ringX i
    let s := match x.rebind with
      | some r => s.setNat (0xB100 + i) 0x06 r
      | none => s
    s.setRingX i { x with rebind := none, bound := (x.bindWait).orElse (fun _ => x.bound), bindWait := none }

/-! ### PTP messages that the firmware does not support (10 R281; the codes are those of IEEE 1588: PRESUMED, log entry 110) -/

/-- Where the TLVs of a PTP message begin, behind its header, by message type. -/
def tlvStart : Nat → Nat
  | 2 | 3 | 9 | 10 => 54
  | 11 => 64
  | 13 => 48
  | _ => 44

/-- The types of the TLVs from an offset on, before an end. -/
def tlvTypes (m : List Byte) : Nat → Nat → Nat → List Nat
  | 0, _, _ => []
  | n + 1, o, last => if o + 4 ≤ last then numAt m o 2 :: tlvTypes m n (o + 4 + numAt m (o + 2) 2) last else []

/-- The kind of an unsupported PTP message: 0 unicast negotiation, 1 ITU-T G.8275.2, 2 the security option. End-to-end transparent clocks have no
message of their own. -/
def unsupportedPtp (frame : List Byte) : Option Nat :=
  let h := parseHead (frame.take 128)
  match h.ptp with
  | none => none
  | some (type, domain, _, o) =>
    let tlvs := tlvTypes frame 64 (o + tlvStart type) (o + numAt frame (o + 2) 2)
    let flags := byteAt frame (o + 6)
    if flags.testBit 7 || tlvs.contains 0x8009 then some 2
    else if type = 12 ∧ tlvs.any (fun t => decide (4 ≤ t ∧ t ≤ 7)) then some 0
    else if h.udpAt.isSome ∧ flags.testBit 2 ∧ 44 ≤ domain ∧ domain ≤ 63 then some 1
    else none

/-- The firmware discards an unsupported PTP message and counts it (10 R281). -/
def State.countUnsupported (s : State) (c : Copy) : State :=
  match unsupportedPtp c.body with
  | none => s
  | some k => { s with ptpDiscarded := listAdd s.ptpDiscarded k 1 }

/-- Frames read out of a ring by its thread since the last boundary leave the data area; the firmware reads the TIME rings (R51). -/
def State.takeFromRing (s : State) (t : Fin 64 × Nat) : State :=
  let x := s.ringX t.1
  let s := if s.timeRing t.1 then (x.toHub.take t.2).foldl State.countUnsupported s else s
  s.setRingX t.1 { x with toHub := x.toHub.drop t.2 }

/-- The first frame of destination `i` waiting whole in region `g`'s host queue. -/
def State.waiting (s : State) (g i : Nat) : Option Copy :=
  (s.region g).hostQueue.find? (fun c => c.desc.destination == i && c.complete)

/-- The destination served next in a class: round-robin in ascending order after the last one; 127 = the twin-link controller, last
(R52; 14 R372). -/
def State.nextRing (s : State) (g : Nat) (time : Bool) : Option Nat :=
  let last := (s.region g).lastRing.getD (if time then 1 else 0) 0
  let order := ((items 64).map (fun j => (last + 1 + j) % 64)).filter (fun i => s.timeRing i == time)
  (if time then order else order ++ [127]).find? (fun i =>
    match s.waiting g i with
    | some c => s.ringRoom i c
    | none => false)

/-- A cover frame reaches the twin-link controller: discarded when the link is down or 4 MiB are taken (14 R372, R373). -/
def State.toCoverBuffer (s : State) (c : Copy) : State :=
  let payload := c.body
  let used := s.twin.coverBuffer.foldl (fun n f => n + f.payload.length) 0
  if !s.twin.linkUp ∨ 4194304 < used + payload.length then s.inc64 0x9000 0x14
  else
    let f : CoverFrame :=
      { ports := c.desc.portMap
        vid := c.desc.vid
        priority := c.desc.priority
        untag := c.desc.untagMap
        payload := payload
        since := s.now }
    { s with twin := { s.twin with coverBuffer := s.twin.coverBuffer ++ [f] } }

/-- A frame that has come over the channel stands in its ring's data area with the thread bound now, which is told (R53; 17 R432); one for
the twin goes to its controller. -/
def State.placeInRing (s : State) (c : Copy) : State :=
  let i := c.desc.destination
  if i = 127 then s.toCoverBuffer c
  else
    let x := s.ringX i
    let c := { c with cells := c.cells.map (fun y => { y with pool := 4 }), thread := s.ringThread i }
    (s.setRingX i { x with toHub := x.toHub ++ [c] }).sendEvent c.thread 0 i

/-- The frame that the channel of region `g` carries has come through: the channel is at a frame boundary (R52). -/
def State.completeHub (s : State) (g : Nat) : State :=
  match (s.region g).hubUp with
  | none => s
  | some c => (s.setRegion g { s.region g with hubUp := none }).placeInRing c

/-- The channel of region `g` takes its next frame out of the host queue: TIME rings before GENERAL, round-robin within a class (R52). One
read with an uncorrectable error is discarded, and the next is taken (05 R136; 07 R183). -/
def State.takeHub (s : State) (g : Nat) : Nat → State
  | 0 => s
  | n + 1 =>
    let pick := match s.nextRing g true with
      | some i => some (1, i)
      | none => (s.nextRing g false).map (fun i => (0, i))
    match pick with
    | none => s
    | some (cls, i) =>
      match s.waiting g i with
      | none => s
      | some c =>
        let s := ((s.readWords g c.serial).countSpoilt g c).removeHostCopies g (fun d => d.sameFrame c && d.desc.destination == i)
        if c.spoiltCells ≠ 0 then s.takeHub g n
        else
          let r := s.region g
          s.setRegion g { r with
            lastRing := if i < 64 then r.lastRing.set cls i else r.lastRing
            hubUp := some c }

/-- The channel of region `g` begins its next frame, if one waits. -/
def State.beginHub (s : State) (g : Nat) : State := s.takeHub g (s.region g).hostQueue.length

/-! ## From the hub -/

/-- Bytes of a ring's from-hub data area in use. -/
def RingX.inUseDown (x : RingX) : Nat := x.fromHub.foldl (fun n f => n + f.payload.length) 0

/-- The thread bound to a ring in the direction from the hub (R53). -/
def State.ringThreadDown (s : State) (i : Nat) : Nat := ((s.ringX i).boundDown).getD (s.nat (0xB100 + i) 0x03)

/-- The from-hub data area takes a frame when it has room; one larger than the whole area passes through an empty one (R55). -/
def State.ringRoomDown (s : State) (i : Nat) (f : HubFrame) : Bool :=
  (s.ringX i).fromHub.isEmpty || decide ((s.ringX i).inUseDown + f.payload.length ≤ s.nat (0xB100 + i) 0x05 * 1024)

/-- A thread writes a frame into ring `i`: into the data area, or it stalls with the frame until there is room (R55, R40). A stalled thread
writes nothing else. -/
def State.writeRing (s : State) (i : Nat) (f : HubFrame) : State :=
  let x := s.ringX i
  if x.writing.isSome then s
  else if s.ringRoomDown i f then s.setRingX i { x with fromHub := x.fromHub ++ [f] }
  else s.setRingX i { x with writing := some f }

/-- A stalled thread goes on when its frame has room (R55). -/
def State.resumeWriting (s : State) (i : Nat) : State :=
  let x := s.ringX i
  match x.writing with
  | none => s
  | some f => if s.ringRoomDown i f then s.setRingX i { x with fromHub := x.fromHub ++ [f], writing := none } else s

/-- The hub end of region `g`'s channel holds a credit: the beats written since the last frame boundary do not fill the crossing (R40, R43). -/
def State.hubCredit (s : State) (g : Nat) : Bool := decide ((s.region g).hubDown < CrossingKind.hubChannel.depth)

/-- Beats of a frame from the hub (R43). -/
def HubFrame.beats (f : HubFrame) : Nat := CrossingKind.hubChannel.entries 0 f.payload.length

/-- The ring of a class that the channel of region `g` serves next from the hub (R52). -/
def State.nextRingDown (s : State) (g cls : Nat) : Option Nat :=
  let last := (s.region g).lastRingDown.getD cls 0
  ((items 64).map (fun j => (last + 1 + j) % 64)).find? (fun i =>
    s.carrier i == g && s.timeRing i == (cls == 1) && !(s.ringX i).fromHub.isEmpty)

/-- The oldest frame of ring `i` leaves its from-hub data area, which is a frame boundary of the ring: a waiting thread binding takes
effect, and a stalled thread goes on (R53, R55). -/
def State.takeDown (s : State) (g cls i : Nat) : State :=
  let r := s.region g
  let s := s.setRegion g { r with lastRingDown := r.lastRingDown.set cls i }
  let x := s.ringX i
  (s.setRingX i { x with
    fromHub := x.fromHub.drop 1
    boundDown := (x.bindWaitDown).orElse (fun _ => x.boundDown)
    bindWaitDown := none }).resumeWriting i

/-- Beats of a frame that the hub end has begun enter the crossing; the frame goes on as entries are freed (R40, R52). -/
def State.spendHub (s : State) (g n : Nat) : State := s.setRegion g { s.region g with hubDown := (s.region g).hubDown + n }

/-- The channel of region `g` carries one frame from the hub while it holds a credit: TIME rings first; a producer in discard mode keeps its
credits, drops it and counts it (R40, R47, R52). -/
def State.serveDown (s : State) (g : Nat) : State :=
  let pick := match s.nextRingDown g 1 with
    | some i => some (1, i)
    | none => (s.nextRingDown g 0).map (fun i => (0, i))
  match pick with
  | none => s
  | some (cls, i) =>
    match (s.ringX i).fromHub with
    | [] => s
    | f :: _ =>
      if (s.crossing (24 + g)).discard then (s.takeDown g cls i).countDiscarded 1
      else if !s.hubCredit g then s
      else ((s.takeDown g cls i).spendHub g f.beats).hubFrame g f.desc f.payload

/-- The channel of region `g` carries the frames that wait for it from the hub, as long as it holds credits (R52 to R55). -/
def State.serveAllDown (s : State) (g : Nat) : State :=
  let n := (items 64).foldl (fun n i => n + (s.ringX i).fromHub.length + ofBool (s.ringX i).writing.isSome) 0
  (items n).foldl (fun a _ => a.serveDown g) s

/-- HUB_FRAME_SEND: an engine thread sends a frame through a ring: kind, destination, untag, priority and queue are its own; a request
for Q24 to Q29 is refused (R133, 08 R207; 10 R269, R271). `passed` and `ingress` are what it passes with a request for an insertion. A kind above 1 is unicast to a ring. The frame goes into the ring's from-hub
data area, and the channel carries what waits, in its order, while it holds credits (R40, R52 to R55). -/
def execHubFrameSend (ring : Fin 64) (kind : Fin 4) (destination untag : Nat) (priority : Fin 8) (queue : Fin 32)
    (payload : List Byte) (tag : BitVec 8) (insert : Fin 4) (passed : Int) (ingress : Option PortId) (s : State) : Outcome State Fault Refusal :=
  let g := s.carrier ring
  if (24 ≤ queue.val ∧ queue.val < 30) ∨ !s.isUp then .next s
  else
    let d : Descriptor := {
      kind := if kind.val ≤ 1 then kind.val else 3
      destination := if kind.val = 1 then 0 else if kind.val = 0 then destination % 96 else destination % 64
      untag := untag % 2
      priority := priority
      queue := queue
      queueSet := true
      portMap := if kind.val = 1 then destination % 2 ^ 96 else 0
      untagMap := if kind.val = 1 then untag % 2 ^ 96 else 0
      timing := insert.val != 0
      insert := insert
      passed := passed
      insertPort := (ingress.map (·.val)).getD 127
      stampTag := tag.toNat }
    .next ((s.writeRing ring { thread := s.ringThreadDown ring, desc := d, payload := payload }).serveAllDown g)

/-- A frame boundary of region `g`'s channel from the hub: the beats in its crossing have been read and their credits are back, and the frames that
wait go on (R40, R52). No row of the table names it: it comes with the boundary toward the hub (DESIGN CHOICE, log entry 118). -/
def State.hubBoundaryDown (s : State) (g : Nat) : State := (s.setRegion g { s.region g with hubDown := 0 }).serveAllDown g

/-- HUB_CHANNEL_FRAME_BOUNDARY: region `g`'s hub channel is at a frame boundary: the frame it carries toward the hub is placed in its ring,
waiting bindings take effect, an idle channel serves the next frame of the host queue, and the one after it is in progress; from the hub, what
waits goes on (R40, R52 to R55). `taken` says how many frames threads have read out. -/
def execHubChannelFrameBoundary (g : RegionId) (taken : List (Fin 64 × Nat)) (s : State) : Outcome State Fault Refusal :=
  let s := (taken.foldl State.takeFromRing s).closePacket 32
  if s.regionFenced g ∨ s.isSafe then .next s
  else
    let idle := (s.region g).hubUp.isNone
    let s := (items 64).foldl (fun a i => a.ringBoundary g i) (s.completeHub g)
    let s := if idle then (s.beginHub g).completeHub g else s
    .next ((s.beginHub g).hubBoundaryDown g)

end Sys2Proof.Machine
end

