-- ==== Sys2Proof/Machine/Fences.lean ====
section
/-! DEFINITION. Fences and their removal, item by item (01_architecture.md R26, R28; 02 R32 to R35, R47, R48, R54; 06 R171 to R174; 07
R182; 08 R221; 10 R265; 14 R372, R374; 15 R385 to R388, R392, R393, R399; 17 R436, R437). The pc-less block acts at once: what the
spec bounds from above happens within the command (log entry 8). -/

namespace Sys2Proof.Machine

/-! ## Acts, masks, run state -/

/-- The regions of the die of region `g`, bit by bit. -/
def dieMask (g : Nat) : Nat := if g < 8 then 3 * 4 ^ (g / 2) else 0

/-- The act on an item for a cause (15 R393). -/
def actOn (cause : Nat) (l : FenceLevel) (i : Nat) : Act := { cause := cause, regions := dieMask (regionOf l i), level := l, item := i }

/-- Within how many ns a fence, or a block reset, of an item of a level completes (15 R385). -/
def actBound (reset : Bool) : FenceLevel → Nat
  | .region => 20000
  | .cluster => if reset then 20000 else 5000
  | .port => if reset then 10000 else 2000
  | .engine => if reset then 5000 else 2000
  | _ => 2000

/-- Open a consequence window for a fence or a block reset of an item: it closes 2 µs after the act, which takes its whole bound (15 R385, R393; log
entry 118). -/
def State.openWindow (s : State) (cause : Nat) (reset : Bool) (l : FenceLevel) (i : Nat) : State :=
  { s with windows := s.windows ++ [{ actOn cause l i with opened := s.now, closes := s.now + actBound reset l + 2000 }] }

/-- Mask the detectors inside an item (15 R392). -/
def State.mask (s : State) (l : FenceLevel) (i : Nat) : State :=
  if s.masks.contains (l, i) then s else { s with masks := s.masks ++ [(l, i)] }

/-- RUN while no fence stands, DEGRADED while one does (15 R388). -/
def State.judgeRun (s : State) : State :=
  if s.isUp then s.setRunState (if s.fences.isEmpty then 2 else 3) else s

/-- An item that contains this one is fenced. -/
def State.outerFenced (s : State) (l : FenceLevel) (i : Nat) : Bool := s.fences.any (fun f => itemInside l i f.1 f.2)

/-! ## Ports and timestamp units -/

/-- A fenced port: down, lanes idle, out of forwarding and of the references (02 R33). -/
def State.stopPort (s : State) (p : Nat) : State :=
  let s := s.portDown p 3
  let s := s.setPort p { s.port p with bondWait := false, reDeskew := false }
  (s.portLanes p).foldl State.laneOff s

/-- A port whose fence has gone: down, and its lanes start again at stage 1; one that another fence holds stays fenced. -/
def State.startPort (s : State) (p : Nat) : State :=
  if s.portFenced p then s
  else
    let s := s.setNat (0x2100 + p) 0x03 0
    (s.portLanes p).foldl State.laneRestart s

/-- The timestamp unit of a port is fenced or restored: its timing and its references follow (02 R33; log entry 19). -/
def State.judgeStamp (s : State) (p : Nat) : State := ((if s.portSynt p then s.judgeDetectorCause p else s)).refsUpdate

/-! ## Detectors (10 R264 to R266) -/

/-- The calibration that runs in cluster `c` is abandoned: a fence takes the spare (10 R266). -/
def State.abandonCluster (s : State) (c : Nat) : State := (items 4).foldl (fun a i => a.abandonLane (4 * c + i)) s

/-- Detector `d` has just been fenced (02 R33; 10 R264, R266): the spare takes its lane, or, fenced itself, gives up the one it serves. -/
def State.stopDetector (s : State) (d : Nat) : State :=
  let c := d / 5
  let s := s.abandonCluster c
  let s := s.setDetector d (s.detector d).rest
  let s := if d % 5 = 4 then s.setNat (0x2500 + c) 0x01 0xFF else s.assignSpare c
  ((s.judgeDetectors c).refsUpdate).calibrateNext c

/-- The fence of detector `d` has gone: it is to be calibrated while the spare goes on serving its lane; a restored spare takes a lane
that waits (15 R399; 10 R265). -/
def State.startDetector (s : State) (d : Nat) : State :=
  let c := d / 5
  let s := if d % 5 = 4 then s.assignSpare c else s.putBit (0x8100 + 4 * c + d % 5) 0x0A 1 true
  ((s.judgeDetectors c).refsUpdate).calibrateNext c

/-! ## Buffer banks (07 R182) -/

/-- A held cell lies in the bank (Config.cellInBank). -/
def inBank (draw : Nat) (x : Cell) : Bool := x.pool != 4 && Config.cellInBank draw x.port x.serial x.index

/-- A frame held for its tail at port `p` with a cell in a bank just fenced is discarded and counted (02 R33; log entry 102). -/
def State.loseHeld (s : State) (p : Nat) (hit : Cell → Bool) : State :=
  match s.rxAt p with
  | none => s
  | some f =>
    if f.heldCells.any hit then
      let s := f.heldCells.foldl (fun a x => a.returnCell (p / 12) x.pool) (s.setRx p (some { f.drop with heldCells := [] }))
      s.inc64 (0x3100 + p) 0x0A
    else s

/-- A frame in the host queue of region `g` with a cell in a bank just fenced is discarded and counted in its ring, or among the cover frames
(02 R33; log entry 102). -/
def State.loseHosted (s : State) (g : Nat) (hit : Cell → Bool) : State :=
  let gone := (s.region g).hostQueue.filter (fun c => c.cells.any hit)
  gone.foldl (fun a c => if c.desc.destination < 64 then a.inc64 (0xB100 + c.desc.destination) 0x07 else a.inc64 0x9000 0x14)
    (s.removeHostCopies g (fun c => c.cells.any hit))

/-- Bank `b` has just been fenced: its 3,072 cells leave the shared pool, then the ingress pool; frames with a cell in it are
discarded and counted: copies whole, waiting cells as void (02 R33; 07 R182). Cells that an earlier fence took and that have not come back stay
away. -/
def State.stopBank (s : State) (b : Nat) : State :=
  let g := b / 16
  let i := 0x4000 + g
  let away := (Sparse.get none (s.region g).bankReturn (b % 16)).isSome
  let shared := if away then 0 else min 3072 (s.nat i 0x05)
  let rest := if away then 0 else min (3072 - shared) (s.nat i 0x02)
  let s := (s.setNat i 0x05 (s.nat i 0x05 - shared)).setNat i 0x02 (s.nat i 0x02 - rest)
  let r := s.region g
  let hit := inBank s.bankDraws
  let lose := fun (x : Cell) => if hit x then { x with void := true } else x
  let s := s.setRegion g { r with
    bankTaken := if away then r.bankTaken else Sparse.set (0, 0) r.bankTaken (b % 16) (shared, rest)
    bankReturn := Sparse.set none r.bankReturn (b % 16) none
    contracted := r.contracted.map lose
    bestEffort := r.bestEffort.remap [] (fun _ => List.map lose)
    window := r.window.remap [] (fun _ => List.map lose)
    nextWindow := r.nextWindow.remap [] (fun _ => List.map lose) }
  let s := (items 12).foldl (fun a j => a.loseHeld (12 * g + j) hit) (s.loseHosted g hit)
  let s := s.badCopies g (fun c => c.cells.any hit) true (fun c => s.copyLossCode g c)
  ({ s with bankDraws := s.bankDraws + 1 }).judgePool g

/-- The fence of bank `b` has gone: once the scarab has read every cell of it, which it does within each scrub period, its cells return to the pools
they left (07 R182, R184; 15 R399; log entry 118). -/
def State.startBank (s : State) (b : Nat) : State :=
  let g := b / 16
  let r := s.region g
  s.setRegion g { r with bankReturn := Sparse.set none r.bankReturn (b % 16) (some (s.now + s.nat 0x4080 0x01 * 1000000)) }

/-! ## Engines (17 R436, R437) -/

/-- The substitute of engine `e`: the first unfenced engine after it that runs the same image; FFh when none does (R437). -/
def State.substitute (s : State) (e : Nat) : Nat :=
  (((items 15).map (fun j => (e + j + 1) % 16)).find? (fun f =>
    !s.engineFenced f && (s.nat (0xB000 + f) 0x02 == 2 || s.nat (0xB000 + f) 0x02 == 3) &&
      (s.engine f).running == (s.engine e).running)).getD 0xFF

/-- The substitutes of all fenced engines follow a change (R437). -/
def State.judgeSubstitutes (s : State) : State :=
  (items 16).foldl (fun a e => a.setNat (0xB000 + e) 0x09 (if a.engineFenced e then a.substitute e else 0xFF)) s

/-- Reset engine `e`: what its threads waited for is discarded and counted, its data area is zeroed, and it takes a state (15 R385; 17
R435, R436). -/
def State.resetEngine (s : State) (e st : Nat) : State :=
  let x := s.engine e
  let n := x.events.foldl (fun n q => n + q.2.length) 0
  let s := s.addSat (0xB000 + e) 0x05 32 n
  (s.setEngine e { x with halted := 0, atEntry := false, events := [], trapped := 0, registers := [], memory := [], watchdogAt := s.now, watchdogRan := 0 }).setNat
    (0xB000 + e) 0x02 st

/-- Engine `e` has just been fenced (02 R33; 17 R437). -/
def State.stopEngine (s : State) (e : Nat) : State := (s.resetEngine e 5).judgeSubstitutes

/-- The fence of engine `e` has gone: it loads its image again (15 R399; 17 R435). -/
def State.startEngine (s : State) (e : Nat) : State := (s.resetEngine e 1).judgeSubstitutes

/-! ## Clusters (02 R34) -/

/-- The cluster island stops with its four port edges (02 R34, R48; 10 R255, R264). -/
def State.stopCluster (s : State) (c : Nat) : State :=
  let s := s.abandonCluster c
  let s := (items 4).foldl (fun a i => a.stopPort (4 * c + i)) s
  let s := (items 5).foldl (fun a j => a.setDetector (5 * c + j) (a.detector (5 * c + j)).rest) s
  let s := s.setNat (0x2500 + c) 0x01 0xFF
  let s := s.setReplica c { s.replica c with status := 0, missed := 0, copies := [], marker := none, rephase := false }
  let s := { s with invalid := s.invalid.filter (fun e => e.1 != c) }
  s.shutCrossing c

/-- The cluster island runs again: its lanes carry stale values and start at stage 1; a lane whose detector is fenced finds the spare when it is up (15
R399; 13 R343). -/
def State.startCluster (s : State) (c : Nat) : State :=
  if s.clusterFenced c then s
  else
    let s := s.flushCrossing c
    let s := (items 4).foldl (fun a i => a.makeStale (4 * c + i)) s
    (items 4).foldl (fun a i => a.startPort (4 * c + i)) s

/-- MOD_RESET_N_c as a cluster fence and the cage type call for it (04 R104). -/
def State.judgeModReset (s : State) (c : Nat) : State :=
  s.putModReset c (s.hasFence .cluster c || !s.fourLaneCage c || s.modResetWait.testBit c)

/-! ## The fabric at a region's fence (06 R171 to R174) -/

/-- Every old epoch still open at a running destination is closed at once (06 R175). -/
def State.closeOpenEpochs (s : State) : State :=
  (items 8).foldl (fun a d =>
    if a.regionFenced d then a
    else (items 8).foldl (fun b f => if (b.region d).closing.testBit f then b.closeEpoch d f else b) a) s

/-- The first cell of the frame of `x` still waits for stage one, toward the same region. -/
def RegionX.firstWaits (r : RegionX) (x : Cell) : Bool :=
  r.contracted.any (fun y => y.first && y.port == x.port && y.serial == x.serial && y.destination == x.destination)

/-- Mark what is in flight while the stream epochs change (08 R219 code 10): a copy of which some cell has left stage one. -/
def State.markEpochChange (s : State) : State :=
  let cell := fun (x : Cell) => { x with epochChanged := true }
  let copy := fun (c : Copy) => if c.complete then c else { c with epochChanged := true }
  let begun := fun (p : Nat) (f : RxFrame) =>
    decide (f.cells ≠ 0) && !(s.region (p / 12)).contracted.any (fun y => y.first && y.port == p && y.serial == f.serial)
  { s with
    flights := s.flights.remap [] (fun _ => List.map cell)
    queues := s.queues.remap {} (fun _ q => { q with copies := q.copies.map copy })
    rx := s.rx.remap none (fun p x => x.map (fun f => if begun p f then { f with epochChanged := true } else f))
    regions := s.regions.remap {} (fun _ r => { r with
      contracted := r.contracted.map (fun x => if r.firstWaits x then x else cell x)
      fabricQ := r.fabricQ.remap [] (fun _ => List.map cell)
      window := r.window.remap [] (fun _ => List.map cell)
      nextWindow := r.nextWindow.remap [] (fun _ => List.map cell)
      hostQueue := r.hostQueue.map copy }) }

/-- Every source raises the epoch of its streams and starts their sequence at 0; every running destination keeps the old epoch open until
it closes it (06 R173). -/
def State.raiseEpochs (s : State) : State :=
  let s := s.closeOpenEpochs.markEpochChange
  (items 8).foldl (fun a f =>
    let r := a.region f
    a.setRegion f { r with epoch := (r.epoch + 1) % 4, nextSeq := [], closing := if a.regionFenced f then 0 else 255 }) s

/-- Source `f` discards its waiting cells for the fenced region `g`, counting them, and its credits for it (06 R171). -/
def State.dropTowards (s : State) (g f : Nat) : State :=
  if s.regionFenced f then s
  else
    let r := s.region f
    let gone := r.contracted.filter (fun x => x.destination == g) ++ Sparse.get [] r.bestEffort g
    let s := s.setRegion f { r with
      contracted := r.contracted.filter (fun x => x.destination != g)
      bestEffort := Sparse.set [] r.bestEffort g []
      owed := Sparse.set 0 r.owed g 0
      resyncTo := setBit r.resyncTo g false
      resyncFrom := setBit r.resyncFrom g false }
    (gone.foldl (fun a x => a.returnIngress f x) s).addSat 0x3800 0x0A 64 gone.length

/-- Cells on their way into the fenced region's link ends are dropped by their producers, counted (02 R47); within one region there is no crossing.
What they carried for other regions is lost there (06 R171). -/
def State.dropFlights (s : State) (g : Nat) : State :=
  (items 8).foldl (fun a f =>
    [0, 1].foldl (fun b st =>
      let gone := (b.flight st f g).filter (·.valid)
      let b := gone.foldl (fun c x => c.noteLost { x with epochChanged := true }) (b.setFlight st f g [])
      if gone.isEmpty ∨ f = g then b else b.countDiscarded gone.length) a) s

/-- Every cell in the fabric queues of the fenced region is lost to its destination (06 R171). -/
def State.loseTransit (s : State) (g : Nat) : State :=
  ((s.region g).fabricQ.flatMap (·.2)).foldl State.noteLost s

/-- Region `g` loses its content: its slice, its queues, its fabric interface. What a cold start alone brings back stays withdrawn, and
fenced banks stay out of the pools (01 R26; 06 R171; 07 R182, R184). -/
def State.clearRegion (s : State) (g : Nat) : State :=
  let r := s.region g
  let held := (s.queues.filter (fun e => e.1 / 384 == g)).map (·.1)
  let s := { s with queues := s.queues.filter (fun e => e.1 / 384 != g) }
  let s := (items 12).foldl (fun a i => a.setRx (12 * g + i) none) s
  let s := s.setRegion g { withdrawn := r.withdrawn, bankTaken := r.bankTaken, bankReturn := r.bankReturn, epoch := r.epoch }
  (held.foldl (fun a k => a.judgeQueue (k / 32) (k % 32)) s).judgePool g

/-- The buffer and queue counters of region `g` read 0 after its fence (07 R203). -/
def State.zeroRegion (s : State) (g : Nat) : State :=
  let zero := fun (i : Nat) (subs : List Nat) (a : State) => subs.foldl (fun b j => b.setNat i j 0) a
  let s := zero (0x4000 + g) [0x0A, 0x0B, 0x0C, 0x0D, 0x0F] s
  let s := (items 12).foldl (fun a i => zero (0x4010 + 12 * g + i) [0x06, 0x07] a) s
  (items 384).foldl (fun a k => zero (0x4100 + 384 * g + k) [0x08, 0x09, 0x0A, 0x0B, 0x0C, 0x0F] a) s

/-! ## Rings at a region's fence (02 R54) -/

/-- The order in which the regions are tried for the rings of region `g`. -/
def ringOrder (g : Nat) : List Nat := [4, 2, 6, 1, 5, 3, 7].map (fun k => (g + k) % 8)

/-- The rings that the fenced region carries go to the first unfenced region; its channel carries nothing more, so they go at once. The
frame that its hub channel carries is lost and counted in its ring. A ring whose return to another region waits, its home, goes there at its next
boundary all the same (R54; log entry 21). -/
def State.moveRings (s : State) (g : Nat) (carried : Option Copy) : State :=
  let s := match carried with
    | some c => if c.desc.destination < 64 then s.inc64 (0xB100 + c.desc.destination) 0x07 else s
    | none => s
  let s := (items 64).foldl (fun a i =>
    if (a.ringX i).rebind = some g then a.setRingX i { a.ringX i with rebind := none } else a) s
  match (ringOrder g).find? (fun f => !s.regionFenced f) with
  | none => s
  | some f =>
    (items 64).foldl (fun a i =>
      if a.carrier i = g then
        (a.setNat (0xB100 + i) 0x06 f).setRingX i { a.ringX i with rebind := (a.ringX i).rebind.filter (fun h => h != f) }
      else a) s

/-- The rings at home in region `g` return to it at their next frame boundary (R54). -/
def State.returnRings (s : State) (g : Nat) : State :=
  (items 8).foldl (fun a j =>
    let i := 8 * g + j
    if a.carrier i = g then a.setRingX i { a.ringX i with rebind := none } else a.setRingX i { a.ringX i with rebind := some g }) s

/-! ## Covering (14 R372, R374) -/

/-- The device sends a cover notice for each fenced port with a partner; from now on its frames go to the twin. A partner in a fenced region is
not covered, and nothing is while the link is down (R372, R376). -/
def State.coverPorts (s : State) (g : Nat) : State :=
  (items 12).foldl (fun a i =>
    let p := 12 * g + i
    let partner := a.nat (0x9100 + p) 0x01
    if partner < 96 ∧ a.twin.linkUp ∧ !a.twin.idConflict ∧ !a.twin.twinFenced.testBit (partner / 12) then (a.setNat (0x9100 + p) 0x03 2).sendControl 3 partner else a) s

/-- The device asks for its ports back: each covered port awaits the twin's acknowledgement (R374). -/
def State.uncoverPorts (s : State) (g : Nat) : State :=
  (items 12).foldl (fun a i =>
    let p := 12 * g + i
    if a.nat (0x9100 + p) 0x03 = 2 then (a.setNat (0x9100 + p) 0x03 4).sendControl 4 (a.nat (0x9100 + p) 0x01) else a) s

/-- The region's ports have returned to forwarding as far as the twin is concerned: contracts resume, rings go home (08 R221; 02 R54; 14
R374). -/
def State.regionBack (s : State) (g : Nat) : State :=
  if s.regionOut g then s else (s.resumeContracts).returnRings g

/-! ## Regions (01 R26, R28) -/

/-- Region `g` has just been fenced: ports, clocks, channels and domain in one action; the others and the twin are told (R26; 06 R171; 08
R221; 14 R372). -/
def State.stopRegion (s : State) (g : Nat) : State :=
  let carried := (s.region g).hubUp
  let s := (items 3).foldl (fun a i => a.stopCluster (3 * g + i)) s
  let s := s.dropFlights g
  let s := s.raiseEpochs
  let s := (items 8).foldl (fun a f => a.dropTowards g f) s
  let s := (s.loseTransit g).clearRegion g
  let s := s.setReplica (24 + g) { s.replica (24 + g) with status := 0, missed := 0, copies := [], marker := none, rephase := false }
  let s := (s.shutCrossing (24 + g)).moveRings g carried
  let s := (s.coverPorts g).suspendContracts g
  ({ s with domains := setBit s.domains g false }).refsUpdate

/-- The fence of region `g` has gone and its domain is up: the streams begin a new epoch, its credits wait for its alignment, its clusters
start with stale values, covered ports are asked back (R28; 06 R173, R174; 14 R374). -/
def State.startRegion (s : State) (g : Nat) : State :=
  let s := { s with domains := setBit s.domains g true }
  let s := s.zeroRegion g
  let s := (s.flushCrossing (24 + g)).raiseEpochs
  let waits := (items 8).foldl (fun n f => if s.regionFenced f then n else n ||| (s.region f).restoreWait) 0
  let s := (items 8).foldl (fun a f =>
    if a.regionFenced f then a
    else a.setRegion f { a.region f with restoreWait := setBit (if f = g then waits else (a.region f).restoreWait) g true }) s
  let epochs : Sparse Nat := (items 8).foldl (fun m f => Sparse.set 0 m f (s.region f).epoch) []
  let s := s.setRegion g { s.region g with inEpoch := epochs, closing := 0, expected := [] }
  let s := (items 3).foldl (fun a i => a.startCluster (3 * g + i)) s
  (s.uncoverPorts g).regionBack g

/-! ## Any item -/

/-- Cut an item away (02 R32). -/
def State.stopItem (s : State) (l : FenceLevel) (i : Nat) : State :=
  match l with
  | .port => s.stopPort i
  | .timestampUnit => s.judgeStamp i
  | .detector => s.stopDetector i
  | .bank => s.stopBank i
  | .engine => s.stopEngine i
  | .cluster => (s.stopCluster i).judgeModReset i
  | .region => s.stopRegion i

/-- Bring an item back. -/
def State.startItem (s : State) (l : FenceLevel) (i : Nat) : State :=
  match l with
  | .port => s.startPort i
  | .timestampUnit => s.judgeStamp i
  | .detector => s.startDetector i
  | .bank => s.startBank i
  | .engine => s.startEngine i
  | .cluster => (s.startCluster i).judgeModReset i
  | .region => s.startRegion i

/-- Fence an item for a cause (15 R385, R388, R392, R393): it is cut away once; inside a fenced item nothing more is to be cut. A bank
leaves the pools all the same. -/
def State.fenceItem (s : State) (l : FenceLevel) (i cause : Nat) : State :=
  if s.hasFence l i then s
  else
    let outer := s.outerFenced l i
    let s := (({ s with fences := s.fences ++ [(l, i)] }).mask l i).openWindow cause false l i
    (if outer && l != .bank then (if l = .cluster then s.judgeModReset i else s) else s.stopItem l i).judgeRun

/-- Remove a fence (15 R388, R399). -/
def State.releaseItem (s : State) (l : FenceLevel) (i : Nat) : State :=
  (({ s with fences := s.fences.filter (fun f => f != (l, i)) }).startItem l i).judgeRun

/-- Reset a port, an engine or a cluster in place (15 R385, R392, R393); nothing is reset under a fence (R387). -/
def State.blockReset (s : State) (l : FenceLevel) (i cause : Nat) : State :=
  if s.hasFence l i || s.outerFenced l i then s
  else
    let s := (s.mask l i).openWindow cause true l i
    match l with
    | .port =>
      let s := s.portDown i 0
      let s := s.setPort i { s.port i with bondWait := false, reDeskew := false }
      (s.portLanes i).foldl State.laneRestart s
    | .engine => (s.inc32 (0xB000 + i) 0x08).resetEngine i 4
    | .cluster => (s.stopCluster i).startCluster i
    | _ => s

end Sys2Proof.Machine
end

