-- ==== Sys2Proof/Machine/Timestamping.lean ====
section
/-! DEFINITION. The commands of the time lines and of link delay (10_timestamping_and_links.md R255 to R259, R273 to R279): replicas, the
delay tracker, the timing commands and the asymmetry calibration. -/

namespace Sys2Proof.Machine

open Host (Outcome)

/-! ## Replicas -/

/-- The replica source of a line (15 R380). -/
def replicaSource (line : Nat) : Nat := if line < 24 then 576 + 8 * line + 2 else 768 + 32 * (line - 24) + 19

/-- The replica cause of a cluster's timing ports follows its replica; one that is down is judged when it comes up (R258, R275). -/
def State.judgeReplicaCause (s : State) (c : Nat) : State :=
  let bad := (s.replica c).status == 2
  ((items 4).foldl (fun a i =>
    let p := 4 * c + i
    if a.portSynt p && hasCause (a.tim p).causes 5 != bad then a.putCause p 5 bad else a) s).refsUpdate

/-- A replica fails: its source, its ports unverified, and the calibrations that use it abandoned; what it held is to be loaded anew (R258, R284;
13 R345). -/
def State.replicaFault (s : State) (line : Nat) : State :=
  let s := (s.setReplica line { s.replica line with status := 2, missed := 0, copies := [], marker := none, rephase := false }).raise (replicaSource line) 0
  if line < 24 then (s.abandonCluster line).judgeReplicaCause line else s

/-- The time base of a line's next message: TB0 to TB7 in rotation toward a cluster, TB0 toward a region (R256). -/
def nextTurn (line turn : Nat) : Nat := if line < 24 then (turn + 1) % 8 else 0

/-- By how many ps a line's replica of time base `k` is behind the marker: the hub's value plus the line delay, less the replica's own value at the
marker's arrival, which it finds `arrival` ps after the hub's edge (R256). -/
def State.behindMarker (s : State) (line k : Nat) (arrival : Int) : Int :=
  let r := s.replica line
  let own : Int := match r.copy k with
    | some c => (((s.tb k).count : Int) - c.count - (c.period (islandEdges line) * r.phase / (4 * 10 ^ 12) : Nat)) * 1000 / 2 ^ 48 - c.fine
    | none => 0
  own + r.delay - arrival

/-- TIME_LINE_MARKER: a marker of TB0 is due on a line. One that arrives is timestamped by the replica, `arrival` ps after its edge at the hub, after
a new line delay has taken effect; the fourth missed in a row is a fault (R256, R258; 13 R340). -/
def execTimeLineMarker (line : Fin 32) (arrival : Option Int) (s : State) : Outcome State Fault Refusal :=
  let r := s.replica line
  let turn := nextTurn line r.turn
  .next (if s.lineFenced line || s.isSafe then s
    else match arrival with
      | some a =>
        let s := match r.newDelay with
          | some d =>
            let s := s.setReplica line { r with delay := d, newDelay := none }
            s.setBlob 0x8000 0x08 (((items 32).map (fun i => toBytes 4 (s.replica i).delay)).flatten)
          | none => s
        s.setReplica line { s.replica line with missed := 0, turn := turn, marker := some (r.turn, s.behindMarker line r.turn a), markerAt := s.now }
      | none =>
        let s := s.setReplica line { r with missed := min 3 (r.missed + 1), turn := turn, marker := none }
        if r.status = 1 ∧ 3 ≤ r.missed then s.replicaFault line else s)

/-- The largest marker difference since the last read, of a cluster's replica (R287). -/
def State.notePeak (s : State) (line d : Nat) : State :=
  if line < 24 then s.setNat (0x2500 + line) 0x05 (max (s.nat (0x2500 + line) 0x05) (min d 65535)) else s

/-- What every message tells a replica beside a value: the rate of each time base against its die's synthesizer pair (R255, R256). -/
def State.tellReplica (s : State) (line : Nat) (r : ReplicaX) : ReplicaX :=
  { r with copies := r.copies.remap none (fun k c => c.map (fun x => { x with rate := s.rate k, against := s.islandOffset line })) }

/-- A line's message has told of a step or set, when its marker came after the commit point and it is the line's first (R259). -/
def Announcement.tell (a : Announcement) (line markerAt now : Nat) : Announcement :=
  if a.since ≤ markerAt && !a.told.testBit line then { a with told := setBit a.told line true, last := now } else a

/-- A line's message announces the steps and sets that await their edges (R256, R259). -/
def State.announce (s : State) (line : Nat) : State :=
  let at_ := (s.replica line).markerAt
  (items 8).foldl (fun a k =>
    let x := a.tb k
    a.setTb k { x with
      stepNews := if x.pendingStep.isSome then x.stepNews.tell line at_ a.now else x.stepNews
      setNews := if x.pendingSet.isSome then x.setNews.tell line at_ a.now else x.setNews }) s

/-- A replica takes the value of time base `k` from a message: the hub's at the marker, as far as the replica was behind it (R258). -/
def State.loadReplica (s : State) (r : ReplicaX) (k : Nat) (behind : Int) : ReplicaX :=
  { r with copies := Sparse.set none r.copies k (some {
      count := (((s.tb k).count : Int) + behind * 2 ^ 48 / 1000).toNat
      epoch := s.nat (0x6000 + k) 0x08 }) }

/-- The fine phase of a replica's time base `k` moves (R256). -/
def ReplicaX.moveFine (r : ReplicaX) (k : Nat) (d : Int) : ReplicaX :=
  { r with copies := r.copies.remap none (fun j c => if j = k then c.map (fun x => { x with fine := x.fine + d }) else c) }

/-- TIME_LINE_MESSAGE: the message that follows a marker: the value of one time base at the marker, every rate and epoch, and what is announced. A
replica that does not run or is in fault reloads; after a change-over the fine phases take the difference whole; else a difference above 250 ps is a
fault, and a smaller one is removed by at most 2 ps (R256, R258, R259; 12 R324). -/
def execTimeLineMessage (line : Fin 32) (s : State) : Outcome State Fault Refusal :=
  let r := s.replica line
  .next (if s.lineFenced line || s.isSafe then s
    else match r.marker with
      | none => s
      | some (k, d) =>
        let s := s.announce line
        let r := { r with marker := none }
        if r.status = 1 then
          let s := s.notePeak line d.natAbs
          if (r.copy k).isNone then s.setReplica line (s.tellReplica line (s.loadReplica r k d))
          else if r.rephase then
            s.setReplica line (s.tellReplica line ((items 8).foldl (fun a j => a.moveFine j d) { r with rephase := false }))
          else if 250 < d.natAbs then (s.setReplica line r).replicaFault line
          else s.setReplica line (s.tellReplica line (r.moveFine k (max (-2) (min 2 d))))
        else
          let s := s.setReplica line (s.tellReplica line (s.loadReplica { r with status := 1, missed := 0 } k d))
          if line.val < 24 then (s.judgeReplicaCause line).calibrateNext line else s)

/-! ## The delay tracker (R273) -/

/-- Move the baseline toward s by at most the tracking rate times the time since the last result (R273; log entry 10). -/
def State.moveBaseline (s : State) (p : Nat) (m : Int) (sinceNs : Nat) : State :=
  let b := s.reg (0x2400 + p) 0x0D
  let most : Int := ((s.nat (0x2400 + p) 0x0F * sinceNs / 1000000000 : Nat) : Int)
  s.setReg (0x2400 + p) 0x0D (b + max (-most) (min most (m - b)))

/-- The tracker's judgement of s for a port that is up syntonised (R273). -/
def State.track (s : State) (p : Nat) (m : Int) (sinceNs : Nat) : State :=
  let i := 0x2400 + p
  let st := s.nat i 0x01
  let threshold := s.nat i 0x0E
  if (s.tim p).calibrating then
    let d := m - (s.tim p).s0
    if threshold < d.natAbs then (((s.delayStep p d).abandonAsymmetry p).putCause p 2 true).refsUpdate else s
  else if st = 3 then s
  else if !s.flag i 0x0D then (s.putCause p 1 true).refsUpdate
  else
    let d := m - s.reg i 0x0D
    if threshold < d.natAbs then ((s.delayStep p d).putCause p 2 true).refsUpdate
    else
      let s := s.moveBaseline p m sinceNs
      if st = 1 then (s.putTiming p 2 (s.tim p).causes).refsUpdate else s

/-- The tracker takes a mean path delay: out of range, it is counted; while the port is up syntonised it enters the last eight, and from the eighth
on s is judged (R273). -/
def State.takeDelay (s : State) (p : Nat) (m : Int) : State :=
  if m < 0 ∨ 2000000000 < m then (s.inc32 (0x2400 + p) 0x15).putBit (0x2400 + p) 0x02 9 true
  else if !s.portSynt p then s
  else
    let x := s.tim p
    let s := s.setTim p { x with results := (m :: x.results).take 8, count := min 8 (x.count + 1), lastResult := some s.now }
    match s.delayS p with
    | none => s
    | some v => s.track p v (s.now - x.lastResult.getD s.now)

/-- A running calibration of port `p` against time base `k` records an apparent offset, ps (R279). -/
def State.recordApparent (s : State) (p k : Nat) (offset : Int) : State :=
  let x := s.tim p
  if x.calibrating ∧ s.nat (0x2400 + p) 0x12 = k then s.setTim p { x with offsets := x.offsets ++ [offset * 1000 / 65536] } else s

/-- The offset that a Sync gives with a mean path delay in range, under the asymmetry in force: a calibration of the port records it, and while the port is
verified it is the offset of every slot that the port carries (R268, R276, R279). -/
def State.takeSync (s : State) (p : Nat) (m : Int) (y : SyncTimes) : State :=
  let offset := s.syncOffset p m y.t1 y.t2 y.correction
  let s := s.recordApparent p y.tb offset
  if s.portVerified p then
    ((items 8).foldl (fun a n => if a.slotPort n = some p then a.slotOffsetSeen y.tb n offset else a) s).refsUpdate
  else s

/-- DELAY_RESULT: an exchange has been measured, and the firmware passes its mean path delay to the port's tracker; it gives the offset of the Sync
that came with it (R268, R273; DEDUCED, log entry 121). -/
def execDelayResult (p : PortId) (exchange : Exchange) (s : State) : Outcome State Fault Refusal :=
  let m := meanPath exchange
  let s := s.takeDelay p m
  .next (match exchange.sync with
    | some y => if 0 ≤ m ∧ m ≤ 2000000000 then s.takeSync p m y else s
    | none => s)

/-! ## The timing commands (R278) -/

/-- s as a command may use it: the port is up and syntonised and has eight results (R278). -/
def State.presentS (s : State) (p : Nat) : Option Int := if s.portSynt p then s.delayS p else none

/-- Commands 1 and 2: the baseline becomes s, and the port is verified unless a cause that clears on its own stands (R277, R278). -/
def State.acceptBaseline (s : State) (p : Nat) (m : Int) : State :=
  let s := s.setReg (0x2400 + p) 0x0D m
  let c := setBit (setBit (s.tim p).causes 1 false) 2 false
  (if c = 0 then s.putTiming p 2 0 else s.setCauses p c).refsUpdate

/-- ACCEPT_PRESENT_DELAY: command 1 (R278). -/
def execAcceptPresentDelay (role : Role) (p : PortId) (s : State) : Outcome State Fault Refusal :=
  .next (s.hostWrite role (0x2400 + p) 0x10 fun s =>
    match s.presentS p with
    | some m => if (s.tim p).calibrating then s.ruleRefused 0 else (s.acceptBaseline p m).done
    | none => s.ruleRefused 0)

/-- ACCEPT_PROPOSAL: command 2: the proposed asymmetry becomes the host's and is in force (R278). -/
def execAcceptProposal (role : Role) (p : PortId) (s : State) : Outcome State Fault Refusal :=
  .next (s.hostWrite role (0x2400 + p) 0x10 fun s =>
    match s.presentS p with
    | some m =>
      if (s.tim p).calibrating || !s.bit (0x2400 + p) 0x02 1 then s.ruleRefused 0
      else
        let s := (s.setReg (0x2400 + p) 0x04 (s.reg (0x2400 + p) 0x13)).setNat (0x2400 + p) 0x03 1
        ((s.putBit (0x2400 + p) 0x02 1 false).acceptBaseline p m).done
    | none => s.ruleRefused 0)

/-- The calibration time base of a port follows a reference other than the port itself (R279). -/
def State.otherReference (s : State) (p : Nat) : Bool :=
  let k := s.nat (0x2400 + p) 0x12
  s.tbFollows k && s.slotPort (s.nat (0x7020 + k) 0x04) != some p

/-- CALIBRATE_ASYMMETRY: command 3 (R279). -/
def execCalibrateAsymmetry (role : Role) (p : PortId) (s : State) : Outcome State Fault Refusal :=
  .next (s.hostWrite role (0x2400 + p) 0x10 fun s =>
    match s.presentS p with
    | some m =>
      if !s.otherReference p then s.ruleRefused 0
      else
        let x := s.tim p
        let s := s.setTim p { x with
          calibrating := true, s0 := m, offsets := [], wasVerified := if x.calibrating then x.wasVerified else s.portVerified p }
        ((s.putBit (0x2400 + p) 0x02 1 false).putTiming p 4 (s.tim p).causes).refsUpdate.done
    | none => s.ruleRefused 0)

/-- ABORT_CALIBRATION: command 4 (R278, R279). -/
def execAbortCalibration (role : Role) (p : PortId) (s : State) : Outcome State Fault Refusal :=
  .next (s.hostWrite role (0x2400 + p) 0x10 fun s => (s.abandonAsymmetry p).refsUpdate.done)

/-! ## The asymmetry calibration (R279) -/

/-- A quotient rounded to the nearest, halves up. -/
def roundDiv (a : Int) (b : Nat) : Int := (2 * a + b) / (2 * b)

/-- The mean of the recorded offsets, ps. -/
def meanOf (l : List Int) : Int := roundDiv (l.foldl (· + ·) 0) l.length

/-- Twice the standard error of the mean, rounded up, ps: the square root of 4 Σ(x − m̄)² / (n (n − 1)) (R279; log entry 10). -/
def twiceError (l : List Int) : Nat :=
  let n := l.length
  let t := l.foldl (· + ·) 0
  let v := l.foldl (fun a x => a + (((n : Int) * x - t) * ((n : Int) * x - t)).toNat) 0
  let d := n * n * n * (n - 1)
  let q := Nat.sqrt (4 * v / d)
  if q * q * d = 4 * v then q else q + 1

/-- ASYMMETRY_CALIBRATION_END: the calibration time is over: with at least 16 offsets a proposal stands, otherwise it ends as an abandoned
one; the port is again what its causes make it (R279). -/
def execAsymmetryCalibrationEnd (p : PortId) (s : State) : Outcome State Fault Refusal :=
  let l := (s.tim p).offsets
  .next (if !(s.tim p).calibrating then s
    else if l.length < 16 then (s.abandonAsymmetry p).refsUpdate
    else
      let alpha := s.asymmetry p
      let s := (s.abandonAsymmetry p).setReg (0x2400 + p) 0x13 (max (-1000000000) (min 1000000000 (alpha - 2 * meanOf l)))
      ((s.setNat (0x2400 + p) 0x14 (min (2 ^ 32 - 1) (twiceError l + 16))).putBit (0x2400 + p) 0x02 1 true).refsUpdate)

end Sys2Proof.Machine
end

