-- ==== Sys2Proof/Machine/Calibration.lean ====
section
/-! DEFINITION. Calibration rounds (13_calibration.md R335 to R347): the resistor, time lines, pad verniers, sensor channels, and which
lanes are due. -/

namespace Sys2Proof.Machine

open Host (Outcome)

/-- The grade of a resistor reading in mΩ: 0 good within ±2 % of 2.000 kΩ, 2 open or short, 1 otherwise (R335; an open part reads
all-ones and a short 0, log entry 22). -/
def resistorGrade (r : Nat) : Nat :=
  if 1960000 ≤ r ∧ r ≤ 2040000 then 0 else if r = 0 ∨ 2 ^ 32 - 1 ≤ r then 2 else 1

/-- Measure the resistor: reading, status, and the fault of a bad one (R335). -/
def State.measureResistor (s : State) (r : Nat) : State :=
  let s := (s.setNat 0x8000 0x04 (min r (2 ^ 32 - 1))).setNat 0x8000 0x05 (resistorGrade r)
  if resistorGrade r = 0 then s else s.raise 1184 0

/-- The delay of each time line has been measured; it takes effect at the next marker (R340). -/
def State.measureLines (s : State) (delays : List Nat) : State :=
  (items 32).foldl (fun a i =>
    match delays[i]? with
    | some d => a.setReplica i { a.replica i with newDelay := some (min d 20000) }
    | none => a) s

/-- The verniers of the pads have been measured and stand in the shadows (R336, R337). -/
def State.measurePads (s : State) : State :=
  let round := s.nat 0x8000 0x06
  let s := (items 16).foldl (fun a f => a.setFirefly f { a.firefly f with vernierShadow := some (Config.padVernier f round).val }) s
  (items 16).foldl (fun a e => a.setCapture e { a.capture e with vernierShadow := some (Config.padVernier (16 + e) round).val }) s

/-- Each capture input takes its vernier at a hub clock edge at which none of its captures is pending: at once, since none outlasts its command
(R341). A firefly output's waits for its gap. -/
def State.applyCaptures (s : State) : State :=
  (items 16).foldl (fun a e =>
    let x := a.capture e
    a.setCapture e { x with vernier := x.vernierShadow.getD x.vernier, vernierShadow := none }) s

/-- Every lane of an unfenced cluster, and the twin lanes, are due (R344). -/
def State.markDue (s : State) : State :=
  (items 100).foldl (fun a l => if l < 96 ∧ a.clusterFenced (l / 4) then a else a.putBit (0x8100 + l) 0x0A 1 true) s

/-- The resistor is read within a round, as what asks for the next one finds it: when it reads bad, the lanes not yet past their measurement keep
their trims (R345; DESIGN CHOICE, log entry 123). -/
def State.rereadResistor (s : State) (resistor : Nat) : State :=
  let s := s.measureResistor resistor
  if resistorGrade resistor = 0 then s
  else (items 96).foldl (fun a l => if (a.trim l).timing.isNone then a.abandonLane l else a) s

/-- Start a round, or have one begin when the present one ends; a bad resistor calibrates nothing (R335, R344, R345). -/
def State.startRound (s : State) (resistor : Nat) (delays : List Nat) : State :=
  if s.roundRuns then { s.rereadResistor resistor with roundDue := some (resistor, delays) }
  else
    let s := s.measureResistor resistor
    if resistorGrade resistor ≠ 0 then s
    else
      let s := ((({ s with roundRuns := true }).measureLines delays).measurePads.applyCaptures).markDue
      let s := (items 5).foldl (fun a d => a.setNat (0x8200 + d) 0x07 0) s
      (items 24).foldl State.calibrateNext s

/-- CALIBRATION_PERIOD_EXPIRY: the period has passed since the last round began (R344). -/
def execCalibrationPeriodExpiry (resistor : Nat) (lineDelays : List Nat) (s : State) : Outcome State Fault Refusal :=
  .next (if s.isUp then s.startRound resistor lineDelays else s)

/-- TEMPERATURE_TRIGGER: a channel of a die has moved by more than the trigger (R344). -/
def execTemperatureTrigger (_d : BankId) (resistor : Nat) (lineDelays : List Nat) (s : State) : Outcome State Fault Refusal :=
  .next (if s.isUp then s.startRound resistor lineDelays else s)

/-- CALIBRATE_NOW (R344). -/
def execCalibrateNow (role : Role) (resistor : Nat) (lineDelays : List Nat) (s : State) : Outcome State Fault Refusal :=
  .next (s.hostWrite role 0x8000 0x03 fun s => (if s.isUp then s.startRound resistor lineDelays else s).done)

/-- CALIBRATION_ROUND_END: the round is counted and timed; one that waits begins (R344, R345, R346). -/
def execCalibrationRoundEnd (s : State) : Outcome State Fault Refusal :=
  .next (if !s.roundRuns then s
    else
      let s := (({ s with roundRuns := false }).inc32 0x8000 0x06).setNat 0x8000 0x07 (time80 (s.tbNow 0))
      match s.roundDue with
      | some (r, d) => ({ s with roundDue := none }).startRound r d
      | none => s)

/-- FIREFLY_VERNIER_APPLY: the output has a gap before its next edge, and its new vernier is applied (R341). -/
def execFireflyVernierApply (f : FireflyId) (s : State) : Outcome State Fault Refusal :=
  .next (match (s.firefly f).vernierShadow with
    | some v => s.setFirefly f { s.firefly f with vernier := v, vernierShadow := none }
    | none => s)

/-- A measured trim is kept in its shadow (R337). -/
def State.shadowAnalog (s : State) (place : Nat) : State :=
  { s with analogShadow := Sparse.set none s.analogShadow place (some (Config.analogTrim place (s.nat 0x8000 0x06)).val) }

/-- The apply strobe of a unit's trims: every shadow of it becomes the working value (R337). -/
def State.strobeAnalog (s : State) (places : List Nat) : State :=
  places.foldl (fun a p =>
    match Sparse.get none a.analogShadow p with
    | some v => { a with analog := Sparse.set 0 a.analog p v, analogShadow := Sparse.set none a.analogShadow p none }
    | none => a) s

/-- SENSOR_CHANNEL_CALIBRATION: a channel returns from its calibration with its offset and gain. For the six with a reading the spare stood in: the
reading is fresh, and the spare goes on to the next, and is free after the last; channel 6 is the spare itself, calibrated in a round while it is
free (R337, R342, R343; in ascending order, log entry 113). -/
def execSensorChannelCalibration (d : BankId) (channel : Fin 7) (reading : Int) (s : State) : Outcome State Fault Refusal :=
  let i := 0x8200 + d.val
  let place := 64 + 16 * d.val + channel.val
  let v := if channel.val < 4 then max (-32768) (min 32767 reading) else max 0 (min 65535 reading)
  let turn := s.nat i 0x07
  let trimmed := ((s.shadowAnalog place).shadowAnalog (place + 8)).strobeAnalog [place, place + 8]
  .next (if !s.isUp ∨ s.nat 0x8000 0x05 ≠ 0 then s
    else if channel.val = 6 then (if turn = 0xFF ∧ s.roundRuns then trimmed else s)
    else if turn ≠ channel.val then s
    else ((trimmed.setReg i (channel.val + 1) v).setNat i 0x07 (if channel.val < 5 then channel.val + 1 else 0xFF)).setNat i 0x08
      (setBit (s.nat i 0x08) channel.val false))

/-! ## The shadows of a lane (R337 to R339) -/

/-- The codes that bring a path to its target, and the residual in hundredths of a ps: the nearest quarter picosecond, at the nearer
limit outside the range (R339). -/
def vernierFor (code measured target : Nat) : Nat × Int :=
  let want : Int := code + roundDiv ((target : Int) - measured) 25
  let got := max 0 (min 1023 want)
  (got.toNat, (measured : Int) + (got - code) * 25 - target)

/-- The path's target: 128.00 ps above the untrimmed delay, rounded up to a quarter picosecond, hundredths of a ps (R339). -/
def targetFor (code measured : Nat) : Nat := (measured - code * 25 + 12800 + 24) / 25 * 25

/-- A code would fall outside the range (R339). -/
def vernierOut (code measured target : Nat) : Bool :=
  let want : Int := code + roundDiv ((target : Int) - measured) 25
  decide (want < 0 ∨ 1023 < want)

/-- Keep measured analogue trims in the shadow; a move of more than 8 codes is shown and pending (R337, R338). -/
def State.shadowSignal (s : State) (l : Nat) (trims biases : List Nat) : State :=
  if trims.length ≠ 3 ∨ biases.length ≠ 3 then s
  else
    let i := 0x8100 + l
    let old := (items 3).map (fun j => s.nat i (j + 1)) ++ (s.blob i 0x04).map (·.toNat)
    let new := trims ++ biases
    let s := s.setTrim l { s.trim l with signal := some new }
    if (old.zip new).any (fun x => decide (8 < x.1 - x.2 ∨ 8 < x.2 - x.1)) then (s.putBit i 0x0A 5 true).putBit i 0x0A 2 true else s

/-- Keep new vernier codes in the shadow; the first measurement fixes the targets; a limit is shown and raised (R337, R339). -/
def State.shadowTiming (s : State) (l rx tx : Nat) : State :=
  let i := 0x8100 + l
  let cr := s.nat i 0x05
  let ct := s.nat i 0x06
  let (tr, tt) := ((s.trim l).targets).getD (targetFor cr rx, targetFor ct tx)
  let (r, er) := vernierFor cr rx tr
  let (t, et) := vernierFor ct tx tt
  let s := s.setTrim l { s.trim l with targets := some (tr, tt), timing := some (r, t, er, et) }
  if vernierOut cr rx tr || vernierOut ct tx tt then
    let s := s.putBit i 0x0A 6 true
    if l < 96 then s.raise (6 * l + 5) (l % 4) else s
  else s

/-- The timing group is applied: codes, targets, internal delays, the time of it; the values are fresh (R337, R339, R343). -/
def State.applyTiming (s : State) (l : Nat) : State :=
  let i := 0x8100 + l
  match (s.trim l).timing, (s.trim l).targets with
  | some (r, t, er, et), some (tr, tt) =>
    let s := s.setTrim l { s.trim l with timing := none, delays := ((tr : Int) + er, (tt : Int) + et) }
    let s := (s.setNat i 0x05 r).setNat i 0x06 t
    let s := (s.setNat i 0x07 (tr / 100)).setNat i 0x08 (tt / 100)
    let s := s.setNat i 0x09 (time80 (s.tbNow 0))
    let s := ((s.putBit i 0x0A 0 false).putBit i 0x0A 1 false).putBit i 0x0A 3 false
    if l < 96 then ((s.portsOn l).foldl (fun a p => if a.portSynt p then a.judgeVernierCause p else a) s).refsUpdate else s
  | _, _ => s

/-- A measurement that spans a change-over is discarded: the one that repeats it is whole (R345; 12 R324). -/
def State.repeatMeasure (s : State) (d : Nat) : State := s.setDetector d { s.detector d with spanned := false }

/-- LANE_CALIBRATION_MEASURE: the lane's paths and analogue trims have been measured; codes and trims go to the shadow (R338, R339). A
twin lane has no detector: its codes act at once, and it is measured when it is due or its values are stale (R344; log entry 23). -/
def execLaneCalibrationMeasure (l : LaneId) (rxHundredths txHundredths : Nat) (trims : List (BitVec 10)) (biases : List Byte)
    (s : State) : Outcome State Fault Refusal :=
  let measured := fun (s : State) =>
    (s.shadowSignal l (trims.map (·.toNat)) (biases.map (·.toNat))).shadowTiming l rxHundredths txHundredths
  let d := 5 * (l.val / 4) + l.val % 4
  let i := 0x8100 + l.val
  .next (if l.val < 96 then
      (if !s.bit i 0x0A 0 ∨ (s.detector d).phase ≠ 3 then s
      else if (s.detector d).spanned then s.repeatMeasure d
      else measured s)
    else if !(s.bit i 0x0A 1 || s.bit i 0x0A 3 && (s.nat (0x2000 + l) 0x02 == 6 || s.nat (0x2000 + l) 0x02 == 7)) ∨ s.nat 0x8000 0x05 ≠ 0 then s
    else if (s.trim l).spanned then s.setTrim l { s.trim l with spanned := false }
    else (measured s).applyTiming l)

/-- The sum of the differences of 1,024 measurements, ps: 1,024 times what the means of two detectors lie apart; none with another number of them
(10 R265). -/
def sumApart (own spare : List Nat) : Option Int :=
  if own.length = 1024 ∧ spare.length = 1024 then some ((own.sum : Int) - spare.sum) else none

/-- t1 of R265: what the means lie apart is shown, and beyond 20 ps raised as drift; the spare takes the lane (10 R265, R286). -/
def State.compareDetectors (s : State) (c j : Nat) (sum : Int) : State :=
  let d := 5 * c + j
  let l := 4 * c + j
  let s := s.setReg (0x2500 + c) 0x02 (max (-32768) (min 32767 (roundDiv sum 1024)))
  let s := if 20 * 1024 < sum.natAbs then
      let s := s.raise (6 * l + 4) j
      match s.ownPort l with
      | some p => s.putBit (0x2400 + p) 0x02 8 true
      | none => s
    else s
  ((s.setNat (0x2500 + c) 0x01 j).inc32 (0x2500 + c) 0x03).setDetector d { s.detector d with phase := 2 }

/-- DETECTOR_COMPARISON: detector and spare have measured 1,024 times side by side (10 R265); what spans a change-over is repeated (R345). -/
def execDetectorComparison (c : ClusterId) (j : Fin 4) (own spare : List Nat) (s : State) : Outcome State Fault Refusal :=
  .next (match sumApart own spare with
    | some sum =>
      let x := s.detector (5 * c.val + j.val)
      if x.phase ≠ 1 then s else if x.spanned then s.repeatMeasure (5 * c.val + j.val) else s.compareDetectors c j sum
    | none => s)

/-- A detector's measured offset and gain go to its shadow, and its apply strobe makes them the working ones (R337). -/
def DetectorX.keep (x : DetectorX) (offset gain : Nat) : DetectorX := { x with shadow := some (offset, gain) }
def DetectorX.strobe (x : DetectorX) : DetectorX :=
  match x.shadow with
  | some (o, g) => { x with offset := o, gain := g, shadow := none }
  | none => x

/-- DETECTOR_CALIBRATION_DONE: at the end of its calibration a detector's offset and gain trims are applied, and it goes on to measure (10 R265; R337,
R339); one that spans a change-over is repeated (R345). The spare is calibrated while it is free. -/
def execDetectorCalibrationDone (c : ClusterId) (j : Fin 5) (offset gain : BitVec 10) (s : State) : Outcome State Fault Refusal :=
  let d := 5 * c.val + j.val
  let x := s.detector d
  .next (if j.val < 4 then
      (if x.phase = 2 then
        (if x.spanned then s.repeatMeasure d
        else s.setDetector d { ((x.connect (s.detector (5 * c.val + 4))).keep offset.toNat gain.toNat).strobe with phase := 3 })
      else s)
    else if s.nat (0x2500 + c) 0x01 < 4 ∨ s.clusterBusy c ∨ s.detectorFenced d ∨ s.nat 0x8000 0x05 ≠ 0 then s
    else s.setDetector d (x.keep offset.toNat gain.toNat).strobe)

end Sys2Proof.Machine
end

