-- ==== Sys2Proof/Machine/SynthOps.lean ====
section
/-! DEFINITION. Operations on synthesizers, pairs and clock outputs (12_synthesis.md R315 to R331) that several families share. -/

namespace Sys2Proof.Machine

/-! ## Members -/

/-- The working member of pair `n` (R325). -/
def State.working (s : State) (n : Nat) : Nat := s.nat (0x7050 + n) 0x03

/-- The other member of the pair of synthesizer `k`. -/
def otherMember (k : Nat) : Nat := k / 2 * 2 + (1 - k % 2)

/-- The backup member of pair `n`. -/
def State.backup (s : State) (n : Nat) : Nat := otherMember (s.working n)

/-- Synthesizer `k` runs, is locked, is ready (R333). -/
def State.synthRuns (s : State) (k : Nat) : Bool := s.bit (0x7040 + k) 0x02 0
def State.synthLocked (s : State) (k : Nat) : Bool := s.bit (0x7040 + k) 0x02 1
def State.synthReady (s : State) (k : Nat) : Bool := s.bit (0x7040 + k) 0x02 3

/-- Some member of pair `n` is locked (R326). -/
def State.pairLocked (s : State) (n : Nat) : Bool := s.synthLocked (2 * n) || s.synthLocked (2 * n + 1)

/-! ## Clock outputs -/

/-- The source of output `c` in force: a changed one from the next rising edge on (R328, R329). -/
def State.clockSource (s : State) (c : Nat) : Nat :=
  let x := s.clock c
  if 5 * s.now < x.sourceAt then x.oldSource else s.nat (0x7060 + c) 0x02

/-- The synthesizer that feeds output `c`: a named one, or the working member of a pair (R328). -/
def State.clockSynth (s : State) (c : Nat) : Nat :=
  let src := s.clockSource c
  if src < 8 then src else s.working (src - 8)

/-- The output state of output `c`: parked in format 0, in SAFE, without a running core, or while its named synthesizer is unlocked;
waiting for its first edge in sync mode 2; running otherwise (R329, R330, R331). -/
def State.clockState (s : State) (c : Nat) : Nat :=
  let i := 0x7060 + c
  let k := s.clockSynth c
  if s.nat i 0x01 = 0 || s.isSafe || !s.synthRuns k || (decide (s.clockSource c < 8) && !s.synthLocked k) then 0
  else if s.nat i 0x04 = 2 ∧ !s.clockStarted.testBit c then 2
  else 1

/-- The wave is in the high half of a period: an odd divider N stays high for (N + 1) / 2 core periods (R328). -/
def ClockX.high (x : ClockX) (t : Nat) : Bool :=
  if x.rise ≤ t then decide ((t - x.rise) % x.divider < (x.divider + 1) / 2)
  else if x.rise - x.first ≤ t then decide (t - (x.rise - x.first) < (x.first + 1) / 2)
  else
    let into := (t - x.oldRise) % x.oldDivider
    decide (into < (x.oldDivider + 1) / 2 ∧ t ≤ x.cut + into)

/-- The first rising edge after an instant. -/
def ClockX.nextRise (x : ClockX) (t : Nat) : Nat :=
  if x.rise ≤ t then t + x.divider - (t - x.rise) % x.divider
  else if x.rise - x.first ≤ t then x.rise
  else x.rise - x.first

/-- The rising edge and the period that now count: of the divider in force, of the first period after a change, or of what went before. -/
def ClockX.present (x : ClockX) (t : Nat) : Nat × Nat :=
  if x.rise ≤ t then (x.rise, x.divider) else if x.rise - x.first ≤ t then (x.rise - x.first, x.first) else (x.oldRise, x.oldDivider)

/-- From a rising edge on the wave is another: one period `first`, where that is not 0, then the divider. Until then the pulse that is under way ends,
and a parked output waits for it. -/
def ClockX.renew (x : ClockX) (t rise divider first : Nat) : ClockX :=
  let p := x.present t
  { x with rise := rise + first, divider := divider, first := first, oldRise := p.1, oldDivider := p.2, cut := t
           since := if t < x.since then rise else x.since }

/-- A change of divider takes effect at the next rising edge, and a change of phase offset moves that edge by as much; the first period after it is as
long as the longer of the two (R329; the move is made later, never earlier: DESIGN CHOICE, log entry 112). -/
def ClockX.change (x : ClockX) (t divider move : Nat) : ClockX :=
  let old := (x.present t).2
  x.renew t (x.nextRise t + move) divider (if old = divider then 0 else max old divider)

/-- SYNC_IN places the next rising edge (R330). -/
def ClockX.place (x : ClockX) (t rise : Nat) : ClockX := x.renew t rise x.divider 0

/-- Every output state follows what it rests on; one that begins to run leaves its park level at its next rising edge (R329). -/
def State.judgeClocks (s : State) : State :=
  (items 16).foldl (fun a c =>
    let st := a.clockState c
    let a := if st = 1 ∧ a.nat (0x7060 + c) 0x07 ≠ 1 then a.setClock c { a.clock c with since := (a.clock c).nextRise (5 * a.now) } else a
    a.setNat (0x7060 + c) 0x07 st) s

/-- The settings of output `c` have been written, over those of the state `was`: source, divider and phase offset act at its next rising edge while it
runs (R329). -/
def State.clockChanges (was s : State) (c : Nat) : State :=
  let i := 0x7060 + c
  let t := 5 * s.now
  let x := s.clock c
  let n := s.nat i 0x03
  let synced := s.nat i 0x04 != 0 && s.syncEdge.isSome
  let move := if synced then ((s.reg i 0x06 - was.reg i 0x06) % max 1 (n : Int)).toNat else 0
  let x := if was.nat i 0x03 ≠ n ∨ move ≠ 0 then x.change t n move else x
  let x := if was.nat i 0x02 ≠ s.nat i 0x02 ∧ was.clockState c = 1 then { x with sourceAt := x.nextRise t, oldSource := was.clockSource c } else x
  s.setClock c x

/-- The park level of an output (R331). -/
def State.clockPark (s : State) (c : Nat) : PinLevel :=
  match s.nat (0x7060 + c) 0x05 with
  | 0 => .low
  | 1 => .high
  | _ => .highImpedance

/-- The level that an output drives at a core period from now on: its park level until its first rising edge, then its wave; high impedance while its
pad is not driven (R328, R329, R331; 14 R355). -/
def State.clockLevel (s : State) (c t : Nat) : PinLevel :=
  let x := s.clock c
  if !s.drivesClock c then .highImpedance
  else if s.clockState c ≠ 1 ∨ t < x.since then s.clockPark c
  else if x.high t then .high else .low

/-- The complement side of a differential output (R331). -/
def State.clockComplement (s : State) (c t : Nat) : Option PinLevel := if c < 8 then some (s.clockLevel c t).other else none

/-- The cores start: where each divider stands is free (R328). -/
def State.startClocks (s : State) : State :=
  (items 16).foldl (fun a c => a.setClock c { rise := Config.dividerStart c, divider := a.nat (0x7060 + c) 0x03 }) s

/-- An accepted edge of SYNC_IN at a core period: each output in sync mode 1, and one in mode 2 that waits, places its next rising edge 64 core
periods and its phase offset after it (R330). -/
def State.syncOutputs (s : State) (t : Nat) : State :=
  let s := (items 16).foldl (fun a c =>
    let i := 0x7060 + c
    let m := a.nat i 0x04
    if m = 1 ∨ (m = 2 ∧ !a.clockStarted.testBit c) then
      let a := a.setClock c ((a.clock c).place t (t + 64 + a.nat i 0x06))
      { a with clockStarted := if m = 2 then setBit a.clockStarted c true else a.clockStarted }
    else a) s
  s.judgeClocks

/-- The commit of an output's settings: a new sync mode 2 waits again (R330). -/
def State.clockWaits (s : State) (c : Nat) : State := { s with clockStarted := setBit s.clockStarted c false }

/-! ## Change-over -/

/-- A syntony interval of lane `l` that spans the change-over is discarded (R324; 03 R85). -/
def State.discardInterval (s : State) (l : Nat) : State :=
  let st := s.stage l
  if st == 5 || st == 6 || (st == 7 && (s.lane l).retryRuns) then s.setLane l { s.lane l with discardInterval := true } else s

/-- The replica of a line takes its fine phases from the next marker (R324). -/
def State.rephaseReplica (s : State) (line : Nat) : State :=
  if (s.replica line).status = 1 then s.setReplica line { s.replica line with rephase := true } else s

/-- The fabric cycle that a change-over of die `n` costs: its regions count 8 slots of each stage as realign; the others find no credit
toward them and count blocked (R324; 06 R176). -/
def State.changeOverSlots (s : State) (n : Nat) : State :=
  let die := [2 * n, 2 * n + 1].filter (fun g => !s.regionFenced g)
  let s := die.foldl (fun a g => (a.perfAdd (0x3810 + g) 0x02 8).perfAdd (0x3810 + g) 0x09 8) s
  (items 8).foldl (fun a f =>
    if f / 2 = n || a.regionFenced f || die.isEmpty then a
    else (a.perfAdd (0x3810 + f) 0x03 die.length).perfAdd (0x3810 + f) 0x0A die.length) s

/-- A calibration measurement of die `n` that runs spans the change-over, and for pair 0 those of the twin lanes (R324; 13 R345). -/
def State.spanMeasures (s : State) (n : Nat) : State :=
  let s := (items 30).foldl (fun a i =>
    let x := a.detector (30 * n + i)
    if x.phase = 0 then a else a.setDetector (30 * n + i) { x with spanned := true }) s
  if n ≠ 0 then s
  else (items 4).foldl (fun a k =>
    if a.bit (0x8160 + k) 0x0A 1 || a.bit (0x8160 + k) 0x0A 3 then a.setTrim (96 + k) { a.trim (96 + k) with spanned := true } else a) s

/-- Pair `n` changes over to its backup for a cause: the members exchange roles, and the die rides through it; its window closes 2 µs after t4, at most
17 ns from now (R323 to R325; 15 R393). -/
def State.changeOver (s : State) (n cause : Nat) : State :=
  let old := s.working n
  let new := otherMember old
  let s := (s.setNat (0x7040 + old) 0x01 2).setNat (0x7040 + new) 0x01 1
  let s := ((s.setNat (0x7050 + n) 0x03 new).inc32 (0x7050 + n) 0x01).setNat (0x7050 + n) 0x04 (time80 (s.tbNow 0))
  let s := (s.putBit (0x7040 + new) 0x02 3 false).putBit (0x7040 + new) 0x02 2 true
  let s := (s.putBit (0x7040 + old) 0x02 3 false).putBit (0x7040 + old) 0x02 2 (s.synthLocked old)
  let s := s.changeOverSlots n
  let s := (items 6).foldl (fun a i => a.rephaseReplica (6 * n + i)) s
  let s := [2 * n, 2 * n + 1].foldl (fun a g => a.rephaseReplica (24 + g)) s
  let s := (items 24).foldl (fun a i => a.discardInterval (24 * n + i)) s
  let s := if n = 0 then (items 4).foldl (fun a k => a.discardInterval (96 + k)) s else s
  let s := s.spanMeasures n
  let act : Act := { cause := cause, regions := dieMask (2 * n), changeOver := true, item := n, opened := s.now, closes := s.now + 2017 }
  ({ s with windows := s.windows ++ [act] }.measureSyntony).judgeClocks

/-- A swap and the loss of the member that worked, in one cycle, are one change-over, and it counts as a loss (R327). -/
def State.swapWasLoss (s : State) (n cause : Nat) : State :=
  { s with windows := s.windows.map (fun a =>
      if a.changeOver && a.item == n && a.cause == 0xFFFE && a.opened == s.now then { a with cause := cause } else a) }

/-- A commit has written the reference mode of a backup: it leaves lock and relocks, which is no loss (R318). -/
def State.relockBackup (s : State) (k : Nat) : State :=
  (((s.putBit (0x7040 + k) 0x02 1 false).putBit (0x7040 + k) 0x02 2 false).putBit (0x7040 + k) 0x02 3 false).judgeClocks

/-- Pair 0 has no locked working member: the twin lanes run rate-matched (R326; 03 R73). -/
def State.twinLanesRateMatched (s : State) : State :=
  (items 4).foldl (fun a k => a.rateMatchOnly (96 + k)) s

/-- Pair 0 has a locked working member again: rate-matched twin lanes schedule their retry (R326; 03 R69, R72). -/
def State.twinLanesRetry (s : State) : State :=
  (items 4).foldl (fun a k =>
    let l := 96 + k
    if a.stage l = 7 ∧ !a.rateOnly l ∧ (a.lane l).retryAt.isNone ∧ !(a.lane l).retryRuns then a.scheduleRetry l else a) s

end Sys2Proof.Machine
end

