-- ==== Sys2Proof/Machine/Irig.lean ====
section
/-! DEFINITION. The time code of a firefly output in mode 5: IRIG 200 format B in DC level shift (09_time_bases.md R248). The places of the
data bits are those of IRIG 200 and of IEEE 1344, which the manual names (PRESUMED, log entry 45). -/

namespace Sys2Proof.Machine

/-- What a frame shows of its on-time instant (R248). -/
structure IrigTime where
  second : Nat
  minute : Nat
  hour : Nat
  day : Nat
  year : Nat
  daySeconds : Nat
deriving DecidableEq, Repr

/-- Day of the year, from 1, and year of a day counted from 1970-01-01. -/
def dayOfYear (days : Int) : Nat × Nat :=
  let z := (days + 719468).toNat
  let e := z % 146097
  let y := (e - e / 1460 + e / 36524 - e / 146096) / 365
  let d := e - (365 * y + y / 4 - y / 100)
  let year := z / 146097 * 400 + y
  let leap := year % 4 = 0 ∧ (year % 100 ≠ 0 ∨ year % 400 = 0)
  if 306 ≤ d then (d - 305, year + 1) else (d + 60 + (if leap then 1 else 0), year)

/-- The time that a frame shows, from the seconds of its on-time instant, the UTC offset, the leap pending and the local offset in minutes. The
second after the end of a UTC day at which an insertion is pending is second 60; the last one before a deletion is not shown (R248; log entry
45). -/
def irigTime (seconds utcOffset : Int) (leap : Nat) (localMinutes : Int) : IrigTime :=
  let u := seconds - utcOffset
  let inserted := decide (leap = 1 ∧ u % 86400 = 0)
  let v := (if inserted then u - 1 else if leap = 2 ∧ u % 86400 = 86399 then u + 1 else u) + localMinutes * 60
  let t := (v % 86400).toNat
  let (day, year) := dayOfYear (v / 86400)
  { second := if inserted then 60 else t % 60, minute := t / 60 % 60, hour := t / 3600, day := day, year := year
    daySeconds := t + ofBool inserted }

/-- The `n` low bits of a number, least significant first. -/
def lowBits (n v : Nat) : List Bool := (items n).map v.testBit

/-- A two-digit BCD group: units, an index bit, `n` bits of the tens. -/
def bcdGroup (n v : Nat) : List Bool := lowBits 4 (v % 10) ++ [false] ++ lowBits n (v / 10 % 10)

/-- The control functions of the IEEE 1344 extension beside the year: leap second pending and its kind, sign and hours of the time offset, then its
half hour, time quality and parity (R248; log entry 45). -/
def controlBits (leap : Nat) (localMinutes : Int) (locked : Bool) (before : List Bool) : List Bool × List Bool :=
  let m := localMinutes.natAbs
  let first := [decide (leap ≠ 0), decide (leap = 2), false, false, decide (localMinutes < 0)] ++ lowBits 4 (m / 60)
  let second := [decide (30 ≤ m % 60)] ++ List.replicate 4 (!locked)
  (first, second ++ [Config.irigParity (before ++ first ++ second)] ++ [false, false, false])

/-- The 100 slots of a frame: a marker, or a data bit (R248). -/
def irigSlots (t : IrigTime) (expression : Nat) (extended locked : Bool) (leap : Nat) (localMinutes : Int) : List (Option Bool) :=
  let bit := fun (l : List Bool) => l.map some
  let control := extended && [0, 1, 4, 5].contains expression
  let year := decide (4 ≤ expression) || control
  let straight := [0, 3, 4, 7].contains expression
  let toy := lowBits 4 (t.second % 10) ++ [false] ++ lowBits 3 (t.second / 10)
  let minute := bcdGroup 3 t.minute ++ [false]
  let hour := bcdGroup 2 t.hour ++ [false, false]
  let day := bcdGroup 4 t.day
  let hundreds := lowBits 2 (t.day / 100) ++ List.replicate 7 false
  let years := if year then bcdGroup 4 (t.year % 100) else List.replicate 9 false
  let (c1, c2) := if control then controlBits leap localMinutes locked (toy ++ minute ++ hour ++ day ++ hundreds ++ years)
    else (List.replicate 9 false, List.replicate 9 false)
  let sbs := if straight then lowBits 17 t.daySeconds else List.replicate 17 false
  [none] ++ bit toy ++ [none] ++ bit minute ++ [none] ++ bit hour ++ [none] ++ bit day ++ [none] ++ bit hundreds ++ [none] ++ bit years ++
    [none] ++ bit c1 ++ [none] ++ bit c2 ++ [none] ++ bit (sbs.take 9) ++ [none] ++ bit (sbs.drop 9 ++ [false]) ++ [none]

/-- How long a slot is high, in ms (R248). -/
def slotMs : Option Bool → Nat
  | none => 8
  | some true => 5
  | some false => 2

/-- The pulses of the frame whose on-time instant lies at `g`, in 2^-16 ns of the time base less e (R248). The seconds shown are the nearest
ones (log entry 45). -/
def State.irigFrame (s : State) (f : Nat) (g : Int) : List Pulse :=
  let i := 0x6200 + f
  let k := s.nat i 0x02
  let local_ : Int := if s.nat i 0x0B = 1 then s.reg i 0x0C else 0
  let leap := s.nat (0x6000 + k) 0x11
  let seconds := (g + 32768000000000) / 65536000000000
  let t := irigTime seconds (s.reg (0x6000 + k) 0x10) leap local_
  (irigSlots t (s.nat i 0x0A) (s.flag i 0x0D) (s.tbFollows k) leap local_).mapIdx (fun j b =>
    let start := g + nsUnits (j * 10000000)
    { tb := k, start := start, stop := start + nsUnits (slotMs b * 1000000), gridded := true })

end Sys2Proof.Machine
end

