-- ==== Sys2Proof/Machine/TimeBases.lean ====
section
/-! DEFINITION. The commands of the time bases, compares, firefly outputs and captures (09_time_bases.md; steering: 11 R301 to
R304). -/

namespace Sys2Proof.Machine

open Host (Outcome)

/-! ## Compares -/

/-- Offset of instance `i` from the anchor, in 2^-16 ns (R238). -/
def gridOffset (interval k i : Nat) : Nat := i / k * (interval * 65536) + i % k * (interval * 65536) / k

/-- The last instance whose offset is at most `x`. -/
def gridLast (interval k x : Nat) : Nat :=
  let p := interval * 65536
  x / p * k + min (k - 1) (((x % p + 1) * k - 1) / p)

/-- The target of instance `i` of a compare as a SHORTTIME (R238). -/
def State.target (s : State) (c i : Nat) : Nat :=
  (s.nat (0x6100 + c) 0x02 + gridOffset (s.nat (0x6100 + c) 0x03) (s.nat (0x6100 + c) 0x04) i) % 2 ^ 64

/-- The settings of a compare keep its spacing: I / k at least 100 ns, and 1 µs with the engine action (R238). -/
def State.compareOk (s : State) (c : Nat) : Bool :=
  let i := s.nat (0x6100 + c) 0x03
  let k := s.nat (0x6100 + c) 0x04
  decide (100 * k ≤ i) && (!s.bit (0x6100 + c) 0x06 0 || decide (1000 * k ≤ i))

/-- The arm test at the commit point: t_0 lies 1 µs to 129,600 s after the time base's value (R239). -/
def State.armOk (s : State) (c : Nat) : Bool :=
  let d := shortDiff (s.target c 0) (s.shortTime (s.nat (0x6100 + c) 0x01))
  decide (65536000 ≤ d ∧ d ≤ 129600 * 1000000000 * 65536) && s.compareOk c

/-- Arm a compare from its first instance (R239). -/
def State.armCompare (s : State) (c : Nat) : State := s.setCompare c { state := 1, index := 0 }

/-- A pulse of a mode-3 output at a compare's fire at `t`, a full time of the compare's time base `k`; pulses of one time base that overlap merge
(R242, R252). -/
def State.comparePulse (s : State) (f k : Nat) (t : Int) : State :=
  let i := 0x6200 + f
  if s.nat i 0x01 ≠ 3 ∨ s.nat i 0x11 = 0 then s
  else
    let s := s.settlePulses f false
    let x := s.firefly f
    let start := t + s.reg i 0x05
    let stop := start + nsUnits (s.nat i 0x06)
    let meets := fun (q : Pulse) => q.tb == k && decide (q.start ≤ stop ∧ start ≤ q.stop)
    let q : Pulse := {
      tb := k
      start := (x.pulses.filter meets).foldl (fun m q => min m q.start) start
      stop := (x.pulses.filter meets).foldl (fun m q => max m q.stop) stop
      gridded := false }
    s.setFirefly f { x with pulses := x.pulses.filter (fun q => !meets q) ++ [q] }

/-- Eight snapshot records of TB0–TB7 at one hub clock edge (R240). -/
def State.snapshot (s : State) : State :=
  (items 8).foldl (fun a k => a.takeRecord (48 + k) k (s.tbNow k) false false) s

/-- The full time of a SHORTTIME near the present value of a time base. -/
def State.fullTime (s : State) (k t : Nat) : Nat := ((s.tbNow k : Int) + shortDiff t (s.shortTime k)).toNat

/-- One instance of an armed compare comes due: suppressed when lock is required and its time base follows nothing, else fired
with the actions selected. A late instance fires its pulses from the present value (R237, R240, R241; log entry 108). -/
def State.instanceDue (s : State) (c : Nat) (late : Bool) : State :=
  let i := 0x6100 + c
  let k := s.nat i 0x01
  let t := s.fullTime k (s.target c (s.compare c).index)
  let act := s.nat i 0x06
  if s.flag i 0x07 && !s.tbFollows k then
    let s := s.inc64 i 0x0C
    if act.testBit 1 then s.takeRecord (16 + c) k t late true else s
  else
    let s := s.inc64 i 0x0A
    let s := if act.testBit 0 then s.sendEvent (s.nat i 0x0D) 1 c else s
    let s := if act.testBit 1 then s.takeRecord (16 + c) k t late false else s
    let s := if act.testBit 2 then s.snapshot else s
    (items 16).foldl (fun a f => if act.testBit (16 + f) then a.comparePulse f k (if late then max t (s.tbNow k) else t) else a) s

/-- Move on to instance `i`; after all `n` the compare is done (R239). -/
def State.nextInstance (s : State) (c i : Nat) : State :=
  let n := s.nat (0x6100 + c) 0x05
  s.setCompare c { state := if n ≠ 0 ∧ n ≤ i then 2 else 1, index := i }

/-- A forward step: the instances it passes over are handled together, the first fired late, the others skipped (R237). -/
def State.passCompare (s : State) (c k : Nat) : State :=
  let x := s.compare c
  if x.state ≠ 1 ∨ s.nat (0x6100 + c) 0x01 ≠ k then s
  else
    let past := shortDiff (s.shortTime k) (s.target c x.index)
    if past < 0 then s
    else
      let iv := s.nat (0x6100 + c) 0x03
      let kk := s.nat (0x6100 + c) 0x04
      let n := s.nat (0x6100 + c) 0x05
      let last := gridLast iv kk (gridOffset iv kk x.index + past.toNat)
      let last := if n = 0 then last else min last (n - 1)
      ((s.instanceDue c true).addSat (0x6100 + c) 0x0B 64 (last - x.index)).nextInstance c (last + 1)

/-- At a step edge: an instance whose target the old value has reached is judged against it and fires on time (R252). -/
def State.fireReached (s : State) (c k : Nat) : State :=
  let x := s.compare c
  if x.state = 1 ∧ s.nat (0x6100 + c) 0x01 = k ∧ shortDiff (s.target c x.index) (s.shortTime k) ≤ 0 then
    (s.instanceDue c false).nextInstance c (x.index + 1)
  else s

/-- COMPARE_ARM: arms at the commit point, or is refused with code 09h (R239). -/
def execCompareArm (role : Role) (c : CompareId) (s : State) : Outcome State Fault Refusal :=
  .next (s.hostWrite role (0x6100 + c) 0x08 fun s =>
    if s.armOk c then (s.armCompare c).done else s.ruleRefused 0)

/-- COMPARE_DISARM: an armed, done or cancelled compare becomes idle (R253). -/
def execCompareDisarm (role : Role) (c : CompareId) (s : State) : Outcome State Fault Refusal :=
  .next (s.hostWrite role (0x6100 + c) 0x08 fun s => (s.setCompare c {}).done)

/-- COMPARE_FIRE: the time base reaches t_i of an armed compare; before that nothing fires (R240, R241). -/
def execCompareFire (c : CompareId) (s : State) : Outcome State Fault Refusal :=
  let x := s.compare c
  let k := s.nat (0x6100 + c.val) 0x01
  .next (if x.state = 1 ∧ (s.tb k).running ∧ s.reached k (s.target c x.index) then
      (s.instanceDue c false).nextInstance c (x.index + 1)
    else s)

/-! ## Firefly outputs -/

/-- Modes with a grid: 2, 4 and 5 (R242). -/
def gridMode (m : Nat) : Bool := m == 2 || m == 4 || m == 5

/-- Output state of R253: 0 parked, 1 waiting, 2 aligned, 3 misaligned, 4 realigning, 5 driving without a grid. -/
def State.fireflyState (s : State) (f : Nat) : Nat := s.nat (0x6200 + f) 0x11

/-- An accepted step adds to e of every output with a grid on the time base, except one that waits on an unset time base, which
now aligns (R244, R246). -/
def State.stepFirefly (s : State) (k : Nat) (d : Int) (f : Nat) : State :=
  let i := 0x6200 + f
  if !gridMode (s.nat i 0x01) ∨ s.nat i 0x02 ≠ k ∨ s.isSafe then s
  else
    let x := s.firefly f
    if x.waitsUnset then (s.setFirefly f { x with waitsUnset := false, realignWait := 1 }).setReg i 0x0E 0
    else
      let s := s.settleSlew f true
      let s := s.setReg i 0x0E (s.reg i 0x0E + d)
      if s.fireflyState f = 2 then s.setNat i 0x11 3 else s

/-- A set stops every output with a grid on the time base until a realign command; one that waits on an unset time base aligns
(R244, R246). -/
def State.setStopsFirefly (s : State) (k f : Nat) : State :=
  let i := 0x6200 + f
  if !gridMode (s.nat i 0x01) ∨ s.nat i 0x02 ≠ k ∨ s.isSafe then s
  else
    let x := s.firefly f
    if x.waitsUnset then (s.setFirefly f { x with waitsUnset := false, realignWait := 1 }).setReg i 0x0E 0
    else
      let s := s.endPulses f
      (s.setFirefly f { s.firefly f with stoppedBySet := true, realignWait := 0 }).setNat i 0x11 1

/-- Put an output into its mode, as a commit that enables or changes it does: off parks it, modes 1 and 3 drive, and modes 2, 4
and 5 align as by command 1 or wait on an unset time base (R242, R245, R246). -/
def State.enableFirefly (s : State) (f : Nat) (fresh : Bool) : State :=
  let i := 0x6200 + f
  let m := s.nat i 0x01
  if !gridMode m then
    let s := s.endPulses f
    (s.setFirefly f { s.firefly f with realignWait := 0, waitsUnset := false, stoppedBySet := false }).setNat i 0x11 (if m = 0 then 0 else 5)
  else if !s.tbSet (s.nat i 0x02) then
    let s := s.endPulses f
    (s.setFirefly f { s.firefly f with realignWait := 0, waitsUnset := true, stoppedBySet := false }).setNat i 0x11 1
  else
    let s := if fresh then s.endPulses f else (s.settleSlew f false).settlePulses f true
    let s := s.setFirefly f { s.firefly f with stoppedBySet := false, waitsUnset := false, realignWait := 1 }
    if fresh ∨ s.fireflyState f = 0 then s.setNat i 0x11 1 else s

/-- At least half a period has passed since the last active edge (R245). -/
def State.halfPeriodOver (s : State) (f : Nat) : Bool :=
  match (s.firefly f).lastEdge with
  | none => true
  | some t => decide (s.nat (0x6200 + f) 0x03 ≤ 2 * s.nat (0x6200 + f) 0x04 * (s.now - t))

/-- A whole number of ns lies on the grid of an interval with `k` instances: it is congruent to floor(j I / k) for some j (R243). -/
def onGrid (interval k : Nat) (n : Int) : Bool :=
  let r := (n % (interval : Int)).toNat
  let j := (r * k + interval - 1) / interval
  decide (j < k ∧ j * interval / k = r)

/-- The grid instant that lies in the present hub cycle for an alignment error `e`, as a value of the time base less e, in 2^-16 ns (R243). -/
def State.gridInstant (s : State) (f : Nat) (e : Int) : Option Int :=
  let i := 0x6200 + f
  let k := s.nat i 0x02
  let offset := s.reg i 0x05
  let x : Int := ((s.tb k).count : Int) - (e + offset) * 2 ^ 32
  let first := -((-x) / 2 ^ 48)
  (([first, first + 1].filter (fun n => decide (n * 2 ^ 48 < x + s.tbStep k) && onGrid (s.nat i 0x03) (s.nat i 0x04) n)).head?).map
    (fun n => n * 65536 + offset)

/-- An active edge now, at the grid instant `g`: one pulse of the set width, or a frame of the time code in mode 5 (R242, R248). -/
def State.activeEdge (s : State) (f : Nat) (g : Int) : State :=
  let i := 0x6200 + f
  let s := s.settlePulses f false
  let x := s.firefly f
  if x.pulses.any (fun q => q.start == g) then s
  else
    let new := if s.nat i 0x01 = 5 then s.irigFrame f g
      else [{ tb := s.nat i 0x02, start := g, stop := g + nsUnits (s.nat i 0x06), gridded := true }]
    s.setFirefly f { x with lastEdge := some s.now, pulses := x.pulses ++ new, realignWait := 0 }

/-- An output that restarts does so with an error of its own, and what it drove has ended. -/
def State.restartGrid (s : State) (f : Nat) (e : Int) (st : Nat) : State :=
  let s := s.endPulses f
  ((s.setReg (0x6200 + f) 0x0E e).setNat (0x6200 + f) 0x11 st).setFirefly f
    { s.firefly f with slewSince := if st = 4 then some s.now else none }

/-- FIREFLY_GRID_INSTANT: where an instant of the output's grid lies in the present cycle, an active edge. An output that waits for alignment
takes the first instant with e = 0 at least half a period after its last edge and is then aligned; one restarted by a slewed realign starts with
its e and slews; a parked, set-stopped or unset-waiting output emits none (R243 to R247). -/
def execFireflyGridInstant (f : FireflyId) (s : State) : Outcome State Fault Refusal :=
  let i := 0x6200 + f.val
  let x := s.firefly f
  .next (
    if !gridMode (s.nat i 0x01) ∨ s.fireflyState f = 0 ∨ s.isSafe ∨ !(s.tb (s.nat i 0x02)).running ∨ x.waitsUnset ∨ x.stoppedBySet then s
    else
      let e := if x.realignWait = 1 then 0 else s.alignError f
      match s.gridInstant f e with
      | none => s
      | some g =>
        if x.realignWait = 0 then s.activeEdge f g
        else
          let s := s.settlePulses f false
          if !s.halfPeriodOver f then s
          else (s.restartGrid f e (if e = 0 then 2 else 4)).activeEdge f g)

/-- REALIGN_IMMEDIATE: no active edge until the first instant with e = 0 at least half a period after the last; ignored while the
output waits on an unset time base (R245, R246, R252). -/
def execRealignImmediate (role : Role) (f : FireflyId) (s : State) : Outcome State Fault Refusal :=
  .next (s.hostWrite role (0x6200 + f) 0x0F fun s =>
    if !gridMode (s.nat (0x6200 + f) 0x01) ∨ (s.firefly f).waitsUnset then s.done
    else
      let s := (s.settleSlew f false).settlePulses f true
      (s.setFirefly f { s.firefly f with stoppedBySet := false, realignWait := 1 }).done)

/-- REALIGN_SLEWED: e moves toward 0 at the slew rate; an output that a set has stopped restarts first (R245). -/
def execRealignSlewed (role : Role) (f : FireflyId) (s : State) : Outcome State Fault Refusal :=
  .next (s.hostWrite role (0x6200 + f) 0x0F fun s =>
    let x := s.firefly f
    if !gridMode (s.nat (0x6200 + f) 0x01) ∨ x.waitsUnset then s.done
    else if x.stoppedBySet then (s.setFirefly f { x with stoppedBySet := false, realignWait := 2 }).done
    else if s.alignError f = 0 then s.done
    else
      let s := s.settleSlew f false
      ((s.setFirefly f { s.firefly f with realignWait := 0, slewSince := some s.now }).setNat (0x6200 + f) 0x11 4).done)

/-- SLEW_COMPLETE: e has reached 0 and the output is aligned (R245). -/
def execSlewComplete (f : FireflyId) (s : State) : Outcome State Fault Refusal :=
  .next (if s.fireflyState f = 4 ∧ (s.firefly f).realignWait = 0 ∧ s.alignError f = 0 then
      (s.settleSlew f false).setNat (0x6200 + f) 0x11 2
    else s)

/-! ## What an output drives (R242, R247) -/

/-- The park level of an output (R247). -/
def State.parkLevel (s : State) (f : Nat) : PinLevel :=
  match s.nat (0x6200 + f) 0x08 with
  | 0 => .low
  | 1 => .high
  | _ => .highImpedance

/-- The level an output drives: its park level while parked or waiting, the static level in mode 1, else its pulses at its polarity; high
impedance while its pad is not driven (R242, R247; 14 R355; log entry 108). -/
def State.fireflyPin (s : State) (f : Nat) : PinLevel :=
  let i := 0x6200 + f
  if !s.drivesFirefly f then .highImpedance
  else if s.isSafe ∨ s.fireflyState f ≤ 1 then s.parkLevel f
  else if (if s.nat i 0x01 = 1 then s.flag i 0x09 else s.fireflyActive f != s.flag i 0x07) then .high
  else .low

/-! ## Steps and sets -/

/-- Record an accepted step or set: epoch, count and sticky bit (R236, R254). -/
def State.epochStep (s : State) (k : Nat) : State :=
  let i := 0x6000 + k
  ((s.setNat i 0x08 ((s.nat i 0x08 + 1) % 256)).inc32 i 0x13).putBit i 0x04 8 true

/-- A port whose calibration runs against the time base abandons it at an accepted step (10 R279). -/
def State.stepAbandons (s : State) (k : Nat) : State :=
  (items 96).foldl (fun a p => if (a.tim p).calibrating ∧ a.nat (0x2400 + p) 0x12 = k then a.abandonAsymmetry p else a) s

/-- STEP: a host's request of a step, refused beyond ±1,000 s, while a step is pending, or when it would bring the time base
before the epoch (R234). -/
def execStep (role : Role) (tb : TbId) (amount : Int) (s : State) : Outcome State Fault Refusal :=
  .next (s.hostWrite role (0x6000 + tb) 0x0B fun s =>
    if amount < -65536000000000000 ∨ 65536000000000000 < amount then s.outOfRange 0x0B
    else if (s.tb tb).pendingStep.isSome then s.ruleRefused 0
    else if (s.tbNow tb : Int) + amount < 0 then s.ruleRefused 0
    else (s.setTb tb { s.tb tb with pendingStep := some amount, stepNews := { since := s.now } }).done)

/-- The edge of what is pending may fall (R234, R235). -/
def State.edgeDue (s : State) (k : Nat) (a : Announcement) : Bool := (s.tb k).running && decide (s.edgeAt a ≤ s.now)

/-- The replicas that have been told of a jump are to take it at their own next clock edge, with the new epoch (10 R259). -/
def State.jumpReplicas (s : State) (k : Nat) (d : Int) (a : Announcement) : State :=
  let j : ReplicaJump := ⟨(s.tb k).count, d, (s.nat (0x6000 + k) 0x08 + 1) % 256⟩
  { s with replicas := s.replicas.remap {} (fun line r => if a.told.testBit line then r.await k j else r) }

/-- No slot's offset has been measured against a time base since it jumped (11 R306; R252). -/
def State.unseeOffsets (s : State) (k : Nat) : State :=
  (items 8).foldl (fun a n => a.setSlot n { a.slot n with seen := setBit (a.slot n).seen k false }) s

/-- STEP_EDGE: the pending step takes effect at its edge: value, epoch, replicas, compares, firefly outputs and, for
TB0, the gates (R234, R236, R237, R244, R252; 07 R193; 10 R259). -/
def execStepEdge (tb : TbId) (s : State) : Outcome State Fault Refusal :=
  .next (match (s.tb tb).pendingStep with
    | none => s
    | some d =>
      if !s.edgeDue tb (s.tb tb).stepNews then s
      else
        let t0 := s.tb0Ns
        let s := if tb = 0 then s.fabricFollowsStep (d * 1000 / 65536) else s
        let s := (items 32).foldl (fun a c => a.fireReached c tb) s
        let s := (items 16).foldl (fun a f => a.settlePulses f false) s
        let s := ((s.jumpReplicas tb d (s.tb tb).stepNews).jumpTb tb d).unseeOffsets tb
        let s := (s.setTb tb { s.tb tb with pendingStep := none }).epochStep tb
        let s := if 0 < d then (items 32).foldl (fun a c => a.passCompare c tb) s else s
        let s := (items 16).foldl (fun a f => a.stepFirefly tb d f) s
        let s := s.stepAbandons tb
        if tb = 0 then (s.gatesFollowStep t0).reportStepped else s)

/-- A set is asked for: the value that the time base has at a reference instant (R235). -/
def State.setRequest (s : State) (k seconds nanoseconds fraction reference : Nat) : State :=
  if 2 ^ 48 ≤ seconds ∨ 1000000000 ≤ nanoseconds then s.outOfRange 0x09
  else if 65536 ≤ fraction then s.outOfRange 0x0A
  else (s.setTb k { s.tb k with
    pendingSet := some ((seconds * 1000000000 + nanoseconds) * 65536 + fraction, reference), setNews := { since := s.now } }).done

/-- The firmware may set the time base: it is unset and its "firmware may set" entry is 1 (R235). -/
def State.firmwareMaySet (s : State) (k : Nat) : Bool := !s.tbSet k && s.flag (0x6000 + k) 0x0D

/-- SET_EDGE: the time base takes the written value plus the interval since its reference instant, counts as set and runs free;
its armed compares are cancelled and its outputs with a grid stop (R235, R244, R298). -/
def execSetEdge (tb : TbId) (s : State) : Outcome State Fault Refusal :=
  .next (match (s.tb tb).pendingSet with
    | none => s
    | some (v, ref) =>
      if !s.edgeDue tb (s.tb tb).setNews then s
      else
        let t0 := s.tb0Ns
        let value := v + (s.now - ref) * 65536
        let d : Int := (value : Int) - s.tbNow tb
        let s := if tb = 0 then s.fabricFollowsStep (d * 1000 / 65536) else s
        let s := (items 16).foldl (fun a f => a.settlePulses f false) s
        let s := ((s.jumpReplicas tb d (s.tb tb).setNews).jumpTb tb d).unseeOffsets tb
        let s := s.setTb tb { s.tb tb with
          count := value * 2 ^ 32, pendingSet := none, inside := 0, outside := 0, switching := false }
        let s := (s.epochStep tb).putBit (0x6000 + tb) 0x04 4 true
        let s := ((s.setNat (0x7020 + tb) 0x04 0xFF).setServo tb 1).applySteering tb
        let s := (items 32).foldl (fun a c =>
          if (a.compare c).state = 1 ∧ a.nat (0x6100 + c) 0x01 = tb.val then a.setCompare c { a.compare c with state := 3 } else a) s
        let s := (items 16).foldl (fun a f => a.setStopsFirefly tb f) s
        let s := s.stepAbandons tb
        (if tb = 0 then (s.gatesFollowStep t0).reportStepped else s).refsUpdate)

/-! ## Measured offsets and steering -/

/-- The threshold test of a measured offset: live and sticky bits, and one detection when the live bit sets (R233). -/
def State.thresholdTest (s : State) (k : Nat) (offset : Int) : State :=
  let i := 0x6000 + k
  let beyond := decide (s.threshold k < offset.natAbs)
  let was := s.bit i 0x04 6
  let s := s.putBit i 0x04 6 beyond
  let s := if beyond then s.putBit i 0x04 7 true else s
  if beyond && !was then s.raise (1176 + k) 0 else s

/-- Count consecutive offsets inside and outside the lock window, and lock or fall back to pulling (11 R302). -/
def State.lockCount (s : State) (k : Nat) (offset : Int) : State :=
  let inside := decide (offset.natAbs * 1000 ≤ s.nat (0x7020 + k) 0x02 * 65536)
  let x := s.tb k
  let x := if inside then { x with inside := x.inside + 1, outside := 0 } else { x with inside := 0, outside := x.outside + 1 }
  let hold := s.nat (0x7020 + k) 0x03
  if s.servo k = 3 ∧ hold ≤ x.inside then
    (s.setTb k { x with inside := 0, outside := 0, switching := false }).setServo k 2
  else if s.servo k = 2 ∧ hold ≤ x.outside then (s.setTb k { x with inside := 0, outside := 0 }).setServo k 3
  else s.setTb k x

/-- MEASURED_OFFSET_WRITE: the firmware's offset of a time base against its reference: the threshold, the chosen slot's hold, the
frequency estimate and the lock count; a time base without an enabled binding is not steered by it (R226, R233; 11 R301, R302, R306). -/
def execMeasuredOffsetWrite (tb : TbId) (offset : Int) (s : State) : Outcome State Fault Refusal :=
  .next (
    let s := (s.setReg (0x6000 + tb) 0x12 offset).thresholdTest tb offset
    let sel := s.nat (0x7020 + tb) 0x04
    if 8 ≤ sel ∨ !s.flag (0x6000 + tb.val) 0x03 then s
    else
      let s := (s.slotOffsetSeen tb sel offset).refsUpdate
      if s.nat (0x7020 + tb) 0x04 ≠ sel ∨ !s.tbFollows tb then s else s.lockCount tb offset)

/-- STEERING_OFFSET_WRITE: in holdover the firmware's writes are ignored and a host's, with OWN, replaces the held value; else the
value is in force, within the slope limit while the selector has a slot (11 R301, R304). Without an enabled binding only a host steers
(R226). -/
def execSteeringOffsetWrite (tb : TbId) (host : Option Role) (ppt : Int) (s : State) : Outcome State Fault Refusal :=
  let i := 0x6000 + tb.val
  let act : State → State := fun s =>
    if ppt < -100000000 ∨ 100000000 < ppt then s.outOfRange 0x0F
    else if s.servo tb = 4 then
      match host with
      | none => s.done
      | some r =>
        if roleCovers r .own then (((s.setReg i 0x0F ppt).setReg (0x7020 + tb) 0x0A ppt).setSteering tb ppt).done
        else s.answer 0x04 0
    else ((s.setReg i 0x0F ppt).applySteering tb).done
  .next (match host with
    | some role => s.hostWrite role i 0x0F act
    | none =>
      if !s.served then s.answer 0x14 s.runState
      else if !s.flag i 0x03 then s.answer 0x04 0
      else act s)

/-! ## Captures -/

/-- CAPTURE_EDGE: an edge of a capture input. It is selected, filtered and prescaled; an edge within 200 ns of the last captured one
is an overrun, any other a capture and a record of the time base at the edge less the input delay. An edge before a step or set takes the value and
the epoch of its own side (R249, R250, R252). -/
def execCaptureEdge (e : CaptureId) (rising : Bool) (heldNs agePs : Nat) (s : State) : Outcome State Fault Refusal :=
  let i := 0x6300 + e.val
  let k := s.nat i 0x03
  .next (
    if !s.flag i 0x01 ∨ s.isSafe ∨ !(s.tb k).running then s
    else if !(s.nat i 0x02).testBit (if rising then 0 else 1) ∨ heldNs < s.nat i 0x04 then s
    else
      let x := s.capture e
      if x.edges + 1 < s.nat i 0x05 then s.setCapture e { x with edges := x.edges + 1 }
      else
        let ps : Int := (s.now : Int) * 1000 - agePs
        let close := match x.last with
          | none => false
          | some t => decide (ps < t + 200000)
        if close then (s.setCapture e { x with edges := 0 }).inc64 i 0x08
        else
          let (jump, epoch, set_) := s.jumpAfter k ps
          let age := (agePs : Int) * (10 ^ 12 + s.rate k) * 65536 / 10 ^ 15
          let t := (s.tbNow k : Int) - jump - age - s.reg i 0x06 * 65536 / 1000
          ((s.setCapture e { x with edges := 0, last := some ps }).inc64 i 0x07).ringPush
            ⟨(ps / 1000).toNat, e, s.recordFlags k rising false false (!set_), epoch, t.toNat⟩)

/-- RESET_RING: the ring is emptied and the pending rewind count cleared; nothing is counted as lost (R251). -/
def execResetRing (role : Role) (s : State) : Outcome State Fault Refusal :=
  .next (s.hostWrite role 0x6380 0x05 fun s => { s with ring := [], rewind := 0 }.done)

end Sys2Proof.Machine
end

