-- ==== Sys2Proof/Machine/Tables.lean ====
section
/-! DEFINITION. What a write of a table DOMAIN does: operation records over the six tables of the lookup, the FRER functions and the
stream gates (05_forwarding.md R116 to R129, R138, R139, R143, R149; 08_contracted_delivery.md R205, R224). -/

namespace Sys2Proof.Machine

/-- A value's refusal: a status code and detail of 16 R421. -/
abbrev Refused := Option (Nat × Nat)

/-- Clear the bits of a mask. -/
def clearBits (v mask : Nat) : Nat := v - (v &&& mask)

/-- Clear a field of `n` bits from bit `b`: reserved bits read 0, whatever is written (00_scope.md R13). -/
def zeroField (v b n : Nat) : Nat := putField v b n 0

/-! ## What an entry accepts -/

/-- A destination by its kind: port, port set, ring; any other kind takes none. -/
def placeOk (port set ring : Bool) (d : Nat) : Bool :=
  if port then decide (d < 96) else if set then decide (d < 1024) else if ring then decide (d < 64) else true

/-- A forwarding database entry as accepted: its destination in range; the age and the reserved bits are the device's (R126). -/
def fdbEntryIn (e : Nat) : Option Nat :=
  let t := field e 88 2
  if placeOk (t == 0) (t == 1) (t == 3) (field e 16 12) then some (zeroField (zeroField e 91 3) 0 12) else none

/-- A VLAN entry as accepted (R116). -/
def vlanEntryIn (e : Nat) : Option Nat := some (zeroField e 192 48)

/-- A classifier entry as accepted: the mask's reserved bits 0, the value's discarded, an action of 0 to 5 with its target in range, no contracted queue (R119,
R120). -/
def classifierEntryIn (e : Nat) : Option Nat :=
  let a := field e 60 3
  let q := field e 38 5
  if field e 64 29 = 0 ∧ a < 6 ∧ placeOk (a == 3) (a == 4) (a == 2 || a == 5) (field e 48 12) ∧ !(decide (24 ≤ q ∧ q < 30)) then
    some (zeroField (zeroField e 0 20) 320 29)
  else none

/-- A stream entry as accepted (R122). -/
def streamEntryIn (e : Nat) : Option Nat :=
  let sdu := field e 35 15
  if field e 125 2 ≠ 2 ∧ (sdu = 0 ∨ 64 ≤ sdu ∧ sdu ≤ 16384) then some (zeroField e 0 10) else none

/-- A port set as accepted: its upper bits are reserved (R129). -/
def portSetIn (e : Nat) : Option Nat := some (e % 2 ^ 96)

/-- A contract as accepted; its state, computed bound and reserved bits are the device's. The ranges of its fields are judged by admission, as reason 1
of R216: an entry written with valid 0 is no contract in force and is kept as written (08 R205, R216; DESIGN CHOICE, log entry 120). -/
def contractIn (e : Nat) : Option Nat := some (zeroField (zeroField e 84 22) 0 84)

/-- How many entries a table written by index has. -/
def tableSize (idx : Nat) : Nat :=
  if idx = 0x3020 then 4096 else if idx = 0x3030 then 8192 else if idx = 0x3050 then 1024 else if idx = 0x5010 then 16384
  else if idx = 0x3070 then 4096 else if idx = 0x3080 then 256 else 0

/-! ## One operation record -/

/-- Insert into or replace in the stream table by key; a resident keeps its position, a new key takes a free way of its two buckets, moving
residents as the forwarding database does (R122, R125; log entry 9). Writing 1 to blocked clears it. -/
def streamRoom (t : Sparse Nat) : Nat → Nat × Nat → Nat → Option (Sparse Nat)
  | 0, b, e => match (waysOf b).find? (fun i => !(Sparse.get 0 t i).testBit 127) with
    | some i => some (Sparse.set 0 t i e)
    | none => none
  | n + 1, b, e => match (waysOf b).find? (fun i => !(Sparse.get 0 t i).testBit 127) with
    | some i => some (Sparse.set 0 t i e)
    | none =>
      let i := 4 * b.1 + n % 4
      let old := Sparse.get 0 t i
      let ob := streamBuckets (field old 125 2) (field old 113 12) (field old 65 48)
      streamRoom (Sparse.set 0 t i e) n (if ob.1 = b.1 then (ob.2, ob.2) else (ob.1, ob.1)) old

/-- Where the key of a stream entry stands, valid entries only. -/
def State.streamPlace (s : State) (e : Nat) : Option Nat :=
  (waysOf (streamBuckets (field e 125 2) (field e 113 12) (field e 65 48))).find? (fun i =>
    let o := Sparse.get 0 s.streams i
    o.testBit 127 && field o 65 62 == field e 65 62)

/-- Insert or replace a stream entry. -/
def State.streamInsert (s : State) (e : Nat) : Option State :=
  match s.streamPlace e with
  | some i =>
    let old := Sparse.get 0 s.streams i
    let e := setBit e 33 (old.testBit 33 && !e.testBit 33)
    some { s with streams := Sparse.set 0 s.streams i e }
  | none =>
    let e := setBit e 33 false
    (streamRoom s.streams 16 (streamBuckets (field e 125 2) (field e 113 12) (field e 65 48)) e).map
      (fun t => { s with streams := t })

/-- Delete the key of an entry from a table written by key; a key that is not there changes nothing. -/
def State.keyDelete (s : State) (idx e : Nat) : State :=
  if idx = 0x3010 then
    match s.fdbFind (fdbEntryKey e).1 (fdbEntryKey e).2 with
    | some i => { s with fdb := Sparse.set 0 s.fdb i 0 }
    | none => s
  else
    match s.streamPlace e with
    | some i => { s with streams := Sparse.set 0 s.streams i 0 }
    | none => s

/-- Replace an entry of a table written by index; a contract out of force has no state and no bound (08 R205). -/
def State.indexWrite (s : State) (idx i e : Nat) : State :=
  if idx = 0x3020 then { s with vlan := Sparse.set 0 s.vlan i e }
  else if idx = 0x3030 then { s with classifier := Sparse.set 0 s.classifier i e }
  else if idx = 0x3050 then { s with portSets := Sparse.set 0 s.portSets i e }
  else if idx = 0x5010 then { s with contracts := Sparse.set 0 s.contracts i (putField e 84 22 (if e.testBit 255 then field (s.contractEntry i) 84 22 else 0)) }
  else s

/-- A table entry's acceptance, by its table. -/
def entryIn (idx e : Nat) : Option Nat :=
  if idx = 0x3010 then fdbEntryIn e else if idx = 0x3020 then vlanEntryIn e else if idx = 0x3030 then classifierEntryIn e
  else if idx = 0x3040 then streamEntryIn e else if idx = 0x3050 then portSetIn e else contractIn e

/-- The table code of a table DOMAIN (R142). -/
def tableCode (idx : Nat) : Nat :=
  if idx = 0x3010 then 0 else if idx = 0x3020 then 1 else if idx = 0x3030 then 2 else if idx = 0x3040 then 3
  else if idx = 0x5010 then 4 else if idx = 0x3050 then 5 else 6

/-- Apply one record of a table of R138: operation 1 inserts or replaces, 2 deletes; an insert by key whose valid bit is 0 leaves no entry, one
by index is kept as written (R149; 08 R205). -/
def State.applyRecord (s : State) (idx : Nat) (r : List Byte) : State × Refused :=
  let op := byteAt r 0
  let keyed := keyedTable idx
  let i := if keyed then 0 else numAt r 1 2
  let e := numAt r (if keyed then 1 else 3) (entryBytes idx)
  if op ≠ 1 ∧ op ≠ 2 then (s, some (0x08, 1))
  else if !keyed && decide (tableSize idx ≤ i) then (s, some (0x08, 1))
  else if op = 2 then (if keyed then s.keyDelete idx e else s.indexWrite idx i 0, none)
  else match entryIn idx e with
    | none => (s, some (0x08, 1))
    | some e =>
      let valid := match validBit idx with
        | some b => e.testBit b
        | none => true
      if !keyed then (s.indexWrite idx i e, none)
      else if !valid then (s.keyDelete idx e, none)
      else
        match (if idx = 0x3010 then s.fdbInsert e else s.streamInsert e) with
        | some s => (s, none)
        | none => (s, some (0x0A, tableCode idx))

/-- Apply one record of the FRER functions: operation, index, type, history length, reset timeout; the counters are the device's (R124; log
entry 18). -/
def State.applyFrer (s : State) (r : List Byte) : State × Refused :=
  let f := numAt r 1 2
  let kind := byteAt r 3
  let history := byteAt r 4
  let timeout := numAt r 5 4
  if 4096 ≤ f then (s, some (0x08, 1))
  else if byteAt r 0 = 2 then ({ s with frer := Sparse.set {} s.frer f {} }, none)
  else if byteAt r 0 ≠ 1 ∨ 2 < kind ∨ history < 2 ∨ 32 < history ∨ timeout < 1 ∨ 65535 < timeout then (s, some (0x08, 1))
  else
    let x := Sparse.get {} s.frer f
    let y : FrerX := if x.kind = kind then { x with history := history, timeoutMs := timeout }
      else { kind := kind, history := history, timeoutMs := timeout }
    ({ s with frer := Sparse.set {} s.frer f y }, none)

/-- Whether bytes are a stream gate's list: up to 64 entries of 1 ns to 1 s with an internal priority of 0 to 7 or none, a cycle of 1 µs to
1 s and a whole TIME80 (R123, 09 R229). -/
def streamListOk (b : List Byte) : Bool :=
  decide (16 ≤ b.length) && decide (1 ≤ numAt b 14 2 ∧ numAt b 14 2 ≤ 64) && decide (b.length = 16 + 8 * numAt b 14 2) &&
    decide (numAt b 6 4 < 1000000000) && decide (1000 ≤ numAt b 10 4 ∧ numAt b 10 4 ≤ 1000000000) &&
    (parseGateList b).entries.all (fun e => decide (1 ≤ e.2 ∧ e.2 ≤ 1000000000) && decide (e.1 / 2 ≤ 8))

/-- Apply one record of the stream gates: operation, index and, to insert, the list, which waits for its base time (R123). -/
def State.applyGate (s : State) (r : List Byte) : State × Refused :=
  let g := numAt r 1 2
  let b := r.drop 3
  if 256 ≤ g then (s, some (0x08, 1))
  else if byteAt r 0 = 2 then ({ s with gates := Sparse.set {} s.gates g {} }, none)
  else if byteAt r 0 ≠ 1 || !streamListOk b then (s, some (0x08, 1))
  else ({ s with gates := Sparse.set {} s.gates g { Sparse.get {} s.gates g with pending := some (parseGateList b) } }, none)

/-! ## A whole value -/

/-- Cut a value into records of `n` bytes; none when bytes are left over. -/
def cutRecords (n : Nat) : Nat → List Byte → Option (List (List Byte))
  | _, [] => some []
  | 0, _ => none
  | k + 1, l => if l.length < n then none else (cutRecords n k (l.drop n)).map (fun r => l.take n :: r)

/-- The length of the stream gate record that begins a value. -/
def gateRecordLength (l : List Byte) : Nat := if byteAt l 0 = 2 then 3 else 19 + 8 * numAt l 17 2

/-- Cut a value of 3080h.01 into its records. -/
def cutGates : Nat → List Byte → Option (List (List Byte))
  | _, [] => some []
  | 0, _ => none
  | k + 1, l =>
    let n := gateRecordLength l
    if l.length < n then none else (cutGates k (l.drop n)).map (fun r => l.take n :: r)

/-- The operation records of a value of a table DOMAIN. -/
def recordsOf (idx : Nat) (b : List Byte) : Option (List (List Byte)) :=
  if idx = 0x3080 then cutGates b.length b
  else cutRecords (if idx = 0x3070 then 25 else 1 + (if keyedTable idx then 0 else 2) + entryBytes idx) b.length b

/-- How many items some values hold: the records of a table, one for any other entry (14 R366, R367). -/
def valueItems (values : List OdValue) : Nat :=
  values.foldl (fun n v => n + (if v.sub = 1 && tableIndices.contains v.index then ((recordsOf v.index v.bytes).getD []).length else 1)) 0

/-- Apply the records of a value in order, up to the first refusal. -/
def State.applyRecords (idx : Nat) : State → List (List Byte) → State × Refused
  | s, [] => (s, none)
  | s, r :: l =>
    let (s, f) := if idx = 0x3070 then s.applyFrer r else if idx = 0x3080 then s.applyGate r else s.applyRecord idx r
    match f with
    | some f => (s, some f)
    | none => State.applyRecords idx s l

/-- Some port is up (R139). -/
def State.somePortUp (s : State) : Bool := (items 96).any s.portUp

/-- The table's next generation would lead the oldest one held by 32,767 or more (R143). -/
def State.generationShut (s : State) (t : Nat) : Bool :=
  (s.heldGenerations t).any (fun g => decide (32767 ≤ (s.generation t + 1 + 65536 - g) % 65536))

/-- The key of an entry of a table written by key; of any other table its index. -/
def entryKey (idx : Nat) (e : Nat × Nat) : Nat :=
  if idx = 0x3010 then field e.2 28 60 else if idx = 0x3040 then field e.2 65 62 else e.1

/-- How many entries of a table differ between two states: those that `t` holds anew or otherwise, and those whose key it no longer holds; where a
resident of a table written by key stands is no change (R138, R139). -/
def tableChanges (s t : State) (idx : Nat) : Nat :=
  let a := s.table idx
  let b := t.table idx
  let same := fun (x y : Nat × Nat) => x.2 == y.2 && entryKey idx x == entryKey idx y
  (b.filter (fun y => !a.any (same y))).length + (a.filter (fun x => !b.any (fun y => entryKey idx x == entryKey idx y))).length

/-- A commit of so many operation records changes more than 1,024 entries of a table (R138, R139). -/
def largeChange (s t : State) (idx : Nat) (b : List Byte) : Bool :=
  decide (1024 < ((recordsOf idx b).getD []).length) && decide (1024 < tableChanges s t idx)

/-- What bars a commit to a table when it is judged: more than 1,024 changed entries while a port is up (09h), or the generation window (0Bh); `c` is
the state it would leave (R139, R143). -/
def State.tableBar (s c : State) (idx sub : Nat) (b : List Byte) : Refused :=
  if sub = 1 ∧ tableCode idx < 6 then
    if largeChange s c idx b ∧ s.somePortUp then some (0x09, 0)
    else if s.generationShut (tableCode idx) then some (0x0B, tableCode idx)
    else none
  else none

/-- Apply a value of a table DOMAIN: refused whole for bytes that are no records (08h), and as its records are (R138, R149). -/
def State.applyTable (s : State) (idx : Nat) (b : List Byte) : State × Refused :=
  match recordsOf idx b with
  | none => (s, some (0x08, 1))
  | some l => State.applyRecords idx s l

/-- Put a number into a rising list without repeats. -/
def insertNat (n : Nat) : List Nat → List Nat
  | [] => [n]
  | m :: l => if n < m then n :: m :: l else if n = m then m :: l else m :: insertNat n l

/-- The contracts that a value of 5010h.01 writes, rising. -/
def contractsNamed (b : List Byte) : List Nat :=
  ((recordsOf 0x5010 b).getD []).foldr (fun r l => insertNat (numAt r 1 2) l) []

/-! ## The scarab's restore (R144, R146) -/

/-- Some commit that waits changes what an entry, or a block (position + 2^20), of table `t` holds. -/
def State.entryPending (s : State) (t position : Nat) : Bool :=
  let idx := tableIndex t
  let here := fun (x : Sparse Nat) => x.filter (fun e => if position < 2 ^ 20 then e.1 == position else e.1 / 256 == position - 2 ^ 20)
  s.commits.any (fun c => (c.values.filter (ofTable t)).any (fun v => here ((s.applyTable idx v.bytes).1.table idx) != here (s.table idx)))

/-- SCARAB_RESTORE: an entry or block (position + 2^20) marked invalid is written again from the master copy; one that has a commit pending waits for
it (R144, R146). -/
def execScarabRestore (c : ClusterId) (t : TableId) (position : Nat) (s : State) : Host.Outcome State Fault Refusal :=
  if s.entryPending t position then .next s
  else .next { s with invalid := s.invalid.filter (fun e => !decide (e = (c.val, t.val, position))) }

/-! ## Rules over whole tables -/

/-- Frames reach a classifier-only stream through redirections to ports of region `g` alone, and there is one (R120, R121). -/
def State.redirectedTo (s : State) (handle g : Nat) : Bool :=
  let uses := (s.classifier.map (·.2)).filter (fun e => e.testBit 63 && e.testBit 34 && field e 20 14 == handle)
  !uses.isEmpty && uses.all (fun e => field e 60 3 == 3 && decide (field e 48 12 / 12 = g))

/-- A stream with recovery must be unicast to a port of its function's region (R124): by its contract, by the entry of its own address in the VLAN
it names, or by the classifier entries that name it; what the tables do not show is refused (log entry 24). -/
def State.streamRecoveryOk (s : State) (handle e : Nat) : Bool :=
  let k := field e 22 2
  if !e.testBit 127 ∨ k < 2 then true
  else
    let g := field e 10 12 / 512
    if e.testBit 64 then
      let c := contractOf (s.contractEntry (field e 50 14))
      c.valid && !c.toSet && decide (c.destination / 12 = g)
    else if field e 125 2 = 3 then s.redirectedTo handle g
    else if field e 125 2 = 1 then false
    else
      let fid := field (Sparse.get 0 s.vlan (field e 113 12)) 240 12
      match s.fdbFind fid (field e 65 48) with
      | none => false
      | some i =>
        let f := Sparse.get 0 s.fdb i
        field f 88 2 == 0 && decide (field f 16 12 / 12 = g)

end Sys2Proof.Machine
end

