-- ==== Sys2Proof/Machine/Validate.lean ====
section
/-! DEFINITION. What a commit accepts (16_object_dictionary.md R405, R418, R421): the values an entry takes, and the rules that judge a
value against the state as the whole commit would leave it. -/

namespace Sys2Proof.Machine

/-! ## One value -/

/-- Why a commit is refused: status code, detail, and for an admission the contract and its reason (16 R421; 08 R217). -/
structure Verdict where
  code : Nat
  detail : Nat := 0
  contract : Option (Nat × Nat) := none
deriving DecidableEq, Repr

/-- Refused by a rule without a reason of its own (R421 code 09h). -/
abbrev ruleBroken : Option Verdict := some { code := 0x09 }

/-- Reserved bits of a number are not stored (00_scope.md R13). -/
def withoutReserved (idx sub : Nat) (v : Int) : Int :=
  if 0x6100 ≤ idx ∧ idx < 0x6120 ∧ sub = 0x06 then (putField v.toNat 3 13 0 : Nat)
  else if 0xB000 ≤ idx ∧ idx < 0xB010 ∧ sub = 0x03 then (v.toNat % 16 : Nat)
  else if 0xF000 ≤ idx ∧ idx < 0xF008 ∧ sub = 0x06 then (v.toNat % 16 : Nat)
  else if 0x4010 ≤ idx ∧ idx < 0x4070 ∧ sub = 0x01 then (v.toNat % 2 ^ 40 : Nat)
  else v

/-- The nominal frequencies of a pin slot in Hz (11 R290). -/
def pinFrequencies : List Nat :=
  [1, 1000, 8000, 1544000, 2048000, 5000000, 10000000, 25000000, 125000000, 156250000]

/-- Values that an entry's Meaning lists one by one (11 R311, R313, R314; 14 R379; 17 R449; 16 R428; 08 R206). -/
def listed (idx sub n : Nat) : Bool :=
  if 0x7000 ≤ idx ∧ idx < 0x7008 ∧ sub = 0x01 then decide (n ≤ 6 ∨ 16 ≤ n ∧ n ≤ 31)
  else if 0x7000 ≤ idx ∧ idx < 0x7008 ∧ sub = 0x02 then pinFrequencies.contains n
  else if 0x7000 ≤ idx ∧ idx < 0x7008 ∧ sub = 0x0D then decide (n < 8 ∨ n = 255)
  else if (0x7000 ≤ idx ∧ idx < 0x7008 ∧ sub = 0x05) ∨ (idx = 0x7010 ∧ sub = 0x0A) then decide (n ≤ 8 ∨ n = 15)
  else if idx = 0x7010 ∧ sub = 0x04 then decide (n < 8 ∨ n = 255)
  else if 0x7020 ≤ idx ∧ idx < 0x7028 ∧ sub = 0x06 then decide (n < 8 ∨ n = 255)
  else if idx = 0x7030 then decide (n < 96 ∨ n = 255)
  else if 0x9100 ≤ idx ∧ idx < 0x9160 ∧ sub = 0x01 then decide (n < 96 ∨ n = 255)
  else if idx = 0xB080 ∧ sub = 0x05 then decide (n < 64 ∨ n = 255)
  else if 0xE000 ≤ idx ∧ idx < 0xE010 ∧ sub = 0x04 then decide (n < 64 ∨ n = 255)
  else if idx = 0xF010 ∧ sub = 0x02 then decide (n % 2 = 1)
  else if idx = 0xF010 ∧ sub = 0x09 then [125, 250, 500, 1000].contains n
  else if idx = 0xF010 ∧ sub = 0x0A then [1000, 2000, 4000, 5000, 8000].contains n
  else if idx = 0x5000 ∧ sub = 0x01 then decide (1000000000 % n = 0)
  else true

/-- The length that a DOMAIN of fixed content takes, by its entry, and whether it may be empty instead (04 R106; 15 R383, R403; 16 R428; 17
R450; 18 R462, R466, R471; log entry 28). -/
def domainLength (idx sub : Nat) : Option (Nat × Bool) :=
  if idx = 0xA100 then some (3072, false) else if idx = 0xA010 ∧ sub = 0x07 then some (4, false)
  else if idx = 0xB080 then some (96, false) else if idx = 0xC010 then some (96, true)
  else if idx = 0xC020 then some (196, true) else if idx = 0xC040 then some (97, false)
  else if idx = 0xF010 ∧ sub = 0x03 then some (12, false) else if idx = 0xF010 then some (16, true)
  else if 0x2100 ≤ idx ∧ idx < 0x2160 then some (64, false)
  else none

/-- A character a STRING takes (R405). -/
def plainChar (b : Byte) : Bool := decide (0x20 ≤ b.toNat ∧ b.toNat ≤ 0x7E)

/-- A value of the right length that the entry does not accept (R405): code 08h with the subindex. A write of an RO/W1C number takes any value and
acts on its W1C bits alone (R406). -/
def valueRange (idx sub : Nat) (e : OdEntry) (b : List Byte) : Refused :=
  let bad : Refused := some (0x08, sub)
  match e.ty with
  | .string => if b.all plainChar then none else bad
  | .domain => if sub != 3 || idx < 0x4010 || 0x4070 ≤ idx || gateListOk b then none else bad
  | .array => none
  | .time80 => if numAt b 6 4 < 1000000000 then none else bad
  | ty =>
    let v := numOf ty b
    if e.acc == .roW1c then none
    else if v < e.least ∨ e.most < v ∨ !listed idx sub v.toNat then bad else none

/-- The length an entry's type takes at a write: the expected length where it does not match (R405 code 07h). -/
def lengthFault (e : OdEntry) (idx sub n : Nat) : Option Nat :=
  match e.ty with
  | .string => if n ≤ 64 then none else some 64
  | .domain =>
    match domainLength idx sub with
    | some (k, empty) => if n = k ∨ (empty ∧ n = 0) then none else some k
    | none => if n ≤ 2097152 then none else some 2097152
  | .array => none
  | ty => if n = ty.size then none else some ty.size

/-! ## Entries that act -/

/-- Entries that are RW but act at their commit rather than being stored: quieting, test mode and injection of a lane, the arm of a
compare, a time base's steering and measured offsets, the link identity record of a module (03 R78, R81, R84; 04 R108; 09 R233, R239; 11
R304). -/
def actsAtCommit (idx sub : Nat) : Bool :=
  if 0x2000 ≤ idx ∧ idx < 0x2064 then sub == 0x16 || sub == 0x17 || sub == 0x18
  else if 0x2100 ≤ idx ∧ idx < 0x2160 then sub == 0x0F
  else if 0x6000 ≤ idx ∧ idx < 0x6008 then sub == 0x0F || sub == 0x12
  else if 0x6100 ≤ idx ∧ idx < 0x6120 then sub == 0x08
  else false

/-- A value that is a command at its commit, not stored content. -/
def isCommand (idx sub : Nat) : Bool :=
  if 0x2300 ≤ idx ∧ idx < 0x2360 then false
  else match findEntry idx sub with
    | none => false
    | some e => e.acc == .wo || e.acc == .roW1c || actsAtCommit idx sub

/-! ## Rules against the state a commit would leave -/

/-- The ports that a port absorbs in a mode (04 R89, R90). -/
def absorbed (p mode : Nat) : List Nat :=
  if mode = 5 then [p + 1] else if mode = 6 then [p + 1, p + 2, p + 3] else []

/-- Port modes of a cluster that R90 allows: bonded modes on their first ports, and no port in service whose lane another absorbs. -/
def State.modesOk (s : State) (c : Nat) : Bool :=
  (items 4).all (fun i =>
    let p := 4 * c + i
    let m := s.mode p
    (m != 5 || i % 2 == 0) && (m != 6 || i == 0) && (absorbed p m).all (fun q => s.mode q == 0))

/-- The FEC that a mode allows (04 R109). -/
def fecOk (mode fec : Nat) : Bool :=
  if mode = 0 then true else if mode ≤ 2 then fec == 0 else if mode = 3 then fec ≤ 1 else fec == 2

/-- Cage types of a cluster: a four-lane type stands on all four positions (04 R101). -/
def State.cagesOk (s : State) (c : Nat) : Bool :=
  let t := (items 4).map (fun i => s.nat (0x2100 + (4 * c + i)) 0x08)
  t.all (fun x => x < 2) || t.all (fun x => x == t.getD 0 0)

/-- Patterns that a PAM4 lane, and an NRZ lane, does not take; a lane without a rate takes any, and a change of mode does not judge them again (03 R82;
DESIGN CHOICE, log entry 120). -/
def patternOk (rate pattern : Nat) : Bool :=
  if rate = 0 then true else if rate = 4 then pattern != 2 && pattern != 10 else !(decide (6 ≤ pattern ∧ pattern ≤ 8))

/-- Each redundancy pair is held by no port or by two of one region (05 R130). -/
def State.pairsOk (s : State) (pair : Nat) : Bool :=
  if pair = 0 then true
  else match (items 96).filter (fun p => s.nat (0x3100 + p) 0x07 == pair) with
    | [] => true
    | [a, b] => a / 12 == b / 12
    | _ => false

/-- The pools of region `g` sum to the cells of its unfenced banks (07 R178, R182). -/
def State.poolsOk (s : State) (g : Nat) : Bool :=
  let banks := (items 16).filter (fun j => !s.hasFence .bank (16 * g + j))
  s.nat (0x4000 + g) 0x02 + s.nat (0x4000 + g) 0x03 + s.nat (0x4000 + g) 0x04 + s.nat (0x4000 + g) 0x05 == 3072 * banks.length

/-- No two enabled time bases share a binding (09 R226). -/
def State.bindingsOk (s : State) : Bool :=
  (items 8).all (fun a => (items a).all (fun b =>
    !s.flag (0x6000 + a) 0x03 || !s.flag (0x6000 + b) 0x03 || s.nat (0x6000 + a) 0x01 != s.nat (0x6000 + b) 0x01 ||
      s.nat (0x6000 + a) 0x02 != s.nat (0x6000 + b) 0x02))

/-- The limits of a firefly output's mode (09 R242, R253). -/
def State.fireflyOk (s : State) (f : Nat) : Bool :=
  let i := 0x6200 + f
  let m := s.nat i 0x01
  let iv := s.nat i 0x03
  let k := s.nat i 0x04
  let w := s.nat i 0x06
  let off := s.reg i 0x05
  (if m = 3 then decide (0 ≤ off ∧ off ≤ 65536000000000 ∧ 5 ≤ w ∧ w ≤ 1000000000)
   else decide (-((iv : Int) * 65536) ≤ off ∧ off ≤ (iv : Int) * 65536)) &&
  (if m = 2 then decide (100 * k ≤ iv ∧ 5 ≤ w ∧ (w + 5) * k ≤ iv)
   else if m = 4 then decide (20 * k ≤ iv ∧ 5 ≤ w ∧ (w + 5) * k ≤ iv)
   else if m = 5 then decide (iv = 1000000000 ∧ k = 1)
   else true)

/-- The port of slot `n`'s line; FFh without one. -/
def State.linePort (s : State) (n : Nat) : Nat :=
  let src := s.nat (0x7000 + n) 0x01
  if 16 ≤ src then s.nat 0x7030 (src - 15) else 255

/-- No two slots share a source, or a port through two lines (11 R288). -/
def State.slotsOk (s : State) : Bool :=
  (items 8).all (fun a => (items a).all (fun b =>
    let x := s.nat (0x7000 + a) 0x01
    (x == 0 || x != s.nat (0x7000 + b) 0x01) && (s.linePort a == 255 || s.linePort a != s.linePort b)))

/-- A clock output's format, divider and phase offset lie in its column (12 R328, R331, R332): the format's highest frequency bounds the
divider from below. -/
def State.clockFault (s : State) (c : Nat) : Option Nat :=
  let i := 0x7060 + c
  let f := s.nat i 0x01
  let n := s.nat i 0x03
  if (c < 8 ∧ f = 5) ∨ (8 ≤ c ∧ 1 ≤ f ∧ f ≤ 4) then some 0x01
  else if n < 20 ∧ (8 ≤ c ∨ f = 2 ∨ f = 5) then some 0x03
  else if n ≤ s.nat i 0x06 then some 0x06
  else none

/-- KiB of all ring data areas: at most 6 MiB (02 R55). -/
def State.ringAreas (s : State) : Nat :=
  (items 64).foldl (fun n i => n + s.nat (0xB100 + i) 0x04 + s.nat (0xB100 + i) 0x05) 0

/-- A thread of engine `e` is named by a binding (17 R434). -/
def State.engineNamed (s : State) (e : Nat) : Bool :=
  (items 64).any (fun i => s.nat (0xB100 + i) 0x03 / 4 == e) || (items 32).any (fun c => s.nat (0x6100 + c) 0x0D / 4 == e) ||
    s.nat 0xA000 0x09 / 4 == e || s.nat 0xB080 0x05 / 4 == e || (items 16).any (fun m => s.nat (0xE000 + m) 0x04 / 4 == e)

/-- BLANK, PROVISIONED, DEPLOYED, DECOMMISSIONED (18 R451). -/
def State.lifecycle (s : State) : Nat := s.nat 0xC000 0x01

/-- The debug state as kept: 0 CLOSED, 1 AUTHENTICATED, 2 OPEN (18 R466, R471). -/
def State.debugState (s : State) : Nat := s.nat 0xC040 0x01

/-- The lifecycle forbids an engine an owner application (18 R452, R458). -/
def State.imageForbidden (s : State) (image : Nat) : Bool :=
  image != 0 && (s.lifecycle == 3 || (s.lifecycle == 0 && s.debugState != 2))

/-- The items of a monitor's source (17 R444). -/
def monitorItems (source : Nat) : Nat :=
  if source = 0 then 65536 else if source = 1 then 3072 else if source = 2 ∨ source = 3 then 8 else if source ≤ 6 then 64
  else if source ≤ 8 then 1 else 64

/-- The settings of a value of A100h.01 that it changes, and R384 refuses (15 R384). -/
def State.settingsBad (s : State) (b : List Byte) : Bool :=
  (items 1536).any (fun n =>
    let v := numAt b (2 * n) 2 / 32 * 32
    v != s.setting n && settingRefused n v)

/-- What of a contract uses the item that an entry sets (08 R218). -/
def State.usesItem (s : State) (idx sub : Nat) (c : Contract) : Bool :=
  let port := fun (p : Nat) => c.ingress == p || (s.egressPorts c).contains p
  if 0x2100 ≤ idx ∧ idx < 0x2160 then (sub == 0x01 || sub == 0x02 || sub == 0x07) && port (idx - 0x2100)
  else if 0x3100 ≤ idx ∧ idx < 0x3160 then (sub == 0x06 || sub == 0x07) && port (idx - 0x3100)
  else if 0x4010 ≤ idx ∧ idx < 0x4070 then sub == 0x03 && (s.egressPorts c).contains (idx - 0x4010)
  else if 0x4100 ≤ idx ∧ idx < 0x4D00 then
    sub == 0x03 && (idx - 0x4100) % 32 == 24 + c.queue && (s.egressPorts c).contains ((idx - 0x4100) / 32)
  else if 0x4000 ≤ idx ∧ idx < 0x4008 then decide (2 ≤ sub ∧ sub ≤ 5) && s.onPath c (idx - 0x4000)
  else if idx = 0x3050 then c.toSet
  else false

/-- The rules of the chapters on lanes and ports. -/
def State.ruleLink (s cand : State) (service : Bool) (idx sub : Nat) : Option Verdict :=
  if idx < 0x2064 then
    let n := idx - 0x2000
    if sub = 0x07 ∨ sub = 0x06 then (if cand.nat idx 0x07 < cand.nat idx 0x06 then some ⟨0x08, 0x07, none⟩ else none)
    else if sub = 0x09 ∨ sub = 0x05 then (if cand.nat idx 0x05 ≤ cand.nat idx 0x09 then some ⟨0x08, 0x09, none⟩ else none)
    else if sub = 0x19 ∨ sub = 0x1A then (if patternOk (cand.nat idx 0x01) (cand.nat idx sub) then none else ruleBroken)
    else if sub = 0x20 then (if cand.nat idx 0x20 = 1 ∧ !service then some ⟨0x04, 0, none⟩ else none)
    else if sub = 0x25 then
      if n < 96 then (if cand.nat idx 0x25 = 0 then none else ruleBroken)
      else if (items 4).all (fun k => cand.nat (0x2060 + k) 0x25 == cand.nat idx 0x25) then none
      else ruleBroken
    else none
  else
    let p := idx - 0x2100
    if sub = 0x01 then
      if s.lifecycle = 3 then some ⟨0x14, s.runState, none⟩
      else if cand.modesOk (p / 4) && fecOk (cand.mode p) (cand.nat idx 0x02) then none
      else ruleBroken
    else if sub = 0x02 then (if fecOk (cand.mode p) (cand.nat idx 0x02) then none else ruleBroken)
    else if sub = 0x08 then (if cand.cagesOk (p / 4) then none else ruleBroken)
    else none

/-- The rules of the chapters on forwarding, buffers and contracts. -/
def State.ruleFrames (s cand : State) (idx sub : Nat) : Option Verdict :=
  if idx = 0x3040 then
    if cand.streams.all (fun e => decide (Sparse.get 0 s.streams e.1 = e.2) || cand.streamRecoveryOk e.1 e.2) then none else ruleBroken
  else if 0x3100 ≤ idx ∧ idx < 0x3160 ∧ sub = 0x07 then
    if cand.pairsOk (cand.nat idx 0x07) && cand.pairsOk (s.nat idx 0x07) then none else ruleBroken
  else if 0x4000 ≤ idx ∧ idx < 0x4008 then
    if 2 ≤ sub ∧ sub ≤ 5 then (if cand.poolsOk (idx - 0x4000) then none else ruleBroken)
    else if cand.nat idx 0x08 < cand.nat idx 0x10 then some ⟨0x08, 0x10, none⟩
    else none
  else if 0x4010 ≤ idx ∧ idx < 0x4070 ∧ sub = 0x01 then
    if (items 8).all (fun k => decide (field (cand.nat idx 0x01) (5 * k) 5 ≤ 23)) then none else ruleBroken
  else if 0x4100 ≤ idx ∧ idx < 0x4D00 then
    if sub = 0x0D then (if (idx - 0x4100) % 32 < 24 then none else ruleBroken)
    else if (sub = 0x05 ∨ sub = 0x06) ∧ cand.nat idx 0x05 < cand.nat idx 0x06 then some ⟨0x08, 0x06, none⟩
    else none
  else if idx = 0x5000 ∧ sub = 0x01 then
    if cand.nat idx 0x01 ≠ s.nat idx 0x01 ∧ s.contracts.any (fun e => e.2.testBit 255) then ruleBroken else none
  else none

/-- The rules of the chapters on time, references and synthesis. -/
def State.ruleTime (s cand : State) (idx sub : Nat) : Option Verdict :=
  if 0x6000 ≤ idx ∧ idx < 0x6008 then
    if sub = 0x01 ∨ sub = 0x02 ∨ sub = 0x03 then (if cand.bindingsOk then none else ruleBroken) else none
  else if 0x6100 ≤ idx ∧ idx < 0x6120 then
    (if cand.compareOk (idx - 0x6100) then none else ruleBroken)
  else if 0x6200 ≤ idx ∧ idx < 0x6210 then
    (if cand.fireflyOk (idx - 0x6200) then none else ruleBroken)
  else if 0x7000 ≤ idx ∧ idx < 0x7008 then
    if sub = 0x01 ∧ !cand.slotsOk then ruleBroken else none
  else if idx = 0x7030 then
    let p := cand.nat idx sub
    if (p ≠ 255 ∧ p / 12 ≠ (sub - 1) / 2) ∨ !cand.slotsOk then ruleBroken else none
  else if 0x7040 ≤ idx ∧ idx < 0x7048 then
    let k := idx - 0x7040
    if s.working (k / 2) = k ∧ cand.nat idx 0x03 ≠ s.nat idx 0x03 then ruleBroken else none
  else if idx = 0x7048 then
    if cand.nat idx 0x04 < cand.nat idx 0x02 then some ⟨0x08, 0x04, none⟩ else none
  else if 0x7060 ≤ idx ∧ idx < 0x7070 then
    (cand.clockFault (idx - 0x7060)).map (fun x => ⟨0x08, x, none⟩)
  else none

/-- The rules of the chapters on faults, engines, security and start-up. -/
def State.ruleHub (s cand : State) (idx sub : Nat) (b : List Byte) : Option Verdict :=
  if idx = 0xA100 then (if s.settingsBad b then ruleBroken else none)
  else if 0xB000 ≤ idx ∧ idx < 0xB010 then
    let e := idx - 0xB000
    if sub = 0x01 ∧ cand.nat idx 0x01 ≠ s.nat idx 0x01 then
      if s.imageForbidden (cand.nat idx 0x01) then some ⟨0x14, s.runState, none⟩
      else if cand.engineNamed e then ruleBroken
      else none
    else none
  else if 0xB100 ≤ idx ∧ idx < 0xB140 then
    if (sub = 0x04 ∨ sub = 0x05) ∧ 6144 < cand.ringAreas then ruleBroken else none
  else if idx = 0xC010 then (if s.lifecycle = 0 then none else some ⟨0x14, s.runState, none⟩)
  else if idx = 0xC020 then (if s.lifecycle = 1 ∨ s.lifecycle = 2 then none else some ⟨0x14, s.runState, none⟩)
  else if idx = 0xC040 ∧ sub = 0x08 then (if s.debugState = 2 then none else some ⟨0x14, s.runState, none⟩)
  else if 0xE000 ≤ idx ∧ idx < 0xE010 ∧ (sub = 0x01 ∨ sub = 0x02) then
    if cand.nat idx 0x02 < monitorItems (cand.nat idx 0x01) then none else some ⟨0x08, 0x02, none⟩
  else none

/-- A rule of the manual that a committed entry breaks, judged on the state the commit would leave (16 R418). -/
def State.ruleOf (s cand : State) (service : Bool) (idx sub : Nat) (b : List Byte) : Option Verdict :=
  if idx < 0x2000 then none
  else if idx < 0x2064 ∨ (0x2100 ≤ idx ∧ idx < 0x2160) then s.ruleLink cand service idx sub
  else if idx < 0x3000 then none
  else if idx < 0x6000 then s.ruleFrames cand idx sub
  else if idx < 0x8000 then s.ruleTime cand idx sub
  else s.ruleHub cand idx sub b

end Sys2Proof.Machine
end

