-- ==== Sys2Proof/Machine/Commit.lean ====
section
/-! DEFINITION. A commit (16_object_dictionary.md R417, R418, R424, R425, R428): the state it would leave, its judgement, and its effect at
the commit point. The commands a commit carries act through a function handed in, so that the mirror and the start use the same commit. -/

namespace Sys2Proof.Machine

/-! ## Who commits -/

/-- The writer of a commit: a session 0 to 7, 253 the mirror, 254 the dictionary image, 255 the firmware. -/
structure Writer where
  who : Nat
  role : Role := .service
deriving DecidableEq, Repr

/-- A host's session. -/
def Writer.isHost (w : Writer) : Bool := decide (w.who < 8)

/-! ## Closing sessions, ending grants -/

/-- Session `n` closes: claims, held values, transfer, snapshot and responses go; a commit already accepted stays, and nobody awaits its
response; it keeps the role it was made with (R409, R425). A request number of 65,536 is nobody's. -/
def State.closeSession (s : State) (n : Nat) : State :=
  let i := 0xF000 + n
  let role := Role.ofCode (s.nat i 0x03)
  let s := s.setSession n {}
  let s := [0x01, 0x02, 0x03, 0x05, 0x06].foldl (fun a k => a.setNat i k 0) s
  let s := (s.setBlob i 0x04 []).setBlob i 0x0A []
  { s with commits := s.commits.map (fun c => if c.session = n then { c with rid := 65536, role := some (c.role.getD role) } else c) }

/-- A debug grant ends: CLOSED, and every thread it halted runs again (18 R466, R468). -/
def State.endGrant (s : State) : State :=
  if s.nat 0xC040 0x01 ≠ 1 then s
  else ({ s with security := { s.security with grantBy := [], grantUntil := 0 } }.setNat 0xC040 0x01 0).resumeThreads

/-! ## The state a commit would leave -/

/-- Values in index order (R418). -/
def insertValue (v : OdValue) : List OdValue → List OdValue
  | [] => [v]
  | w :: l => if key v.index v.sub < key w.index w.sub then v :: w :: l
    else if v.index = w.index ∧ v.sub = w.sub then v :: l
    else w :: insertValue v l

/-- The values of a commit in index order, one for each entry. -/
def inOrder (l : List OdValue) : List OdValue := l.foldl (fun a v => insertValue v a) []

/-- The value a commit carries for an entry. -/
def valueOf (l : List OdValue) (idx sub : Nat) : Option OdValue := l.find? (fun v => v.index == idx && v.sub == sub)

/-- A credential record as kept: reserved flags and the reserved byte read 0 (18 R462; 00 R13). -/
def credentialIn (b : List Byte) : List Byte :=
  b.mapIdx (fun i x => if i = 97 then BitVec.ofNat 8 (x.toNat % 4) else if i = 99 then 0 else x)

/-- Put one value: a table takes its operation records, a gate list waits as the administrative one, the source settings are taken one by
one, every other entry is replaced whole; a command stores nothing (R405, R419). -/
def State.putValue (s : State) (v : OdValue) : State × Refused :=
  match findEntry v.index v.sub with
  | none => (s, some (0x02, 0))
  | some e =>
    match valueRange v.index v.sub e v.bytes with
    | some r => (s, some r)
    | none =>
      if isCommand v.index v.sub then (s, none)
      else if v.sub = 1 && tableIndices.contains v.index then s.applyTable v.index v.bytes
      else if v.index = 0xC020 then (s.setBlob v.index v.sub (credentialIn v.bytes), none)
      else if v.index = 0xA100 then
        ((items 1504).foldl (fun a n =>
          let x := numAt v.bytes (2 * n) 2
          if x / 32 * 32 = a.setting n then a else a.setSetting n x) s, none)
      else if e.ty.isBlob then
        let s := s.setBlob v.index v.sub v.bytes
        if 0x4010 ≤ v.index ∧ v.index < 0x4070 then
          let p := v.index - 0x4010
          (s.setEg p { s.eg p with pending := some (if v.bytes.isEmpty then {} else parseGateList v.bytes) }, none)
        else (s, none)
      else (s.setReg v.index v.sub (withoutReserved v.index v.sub (numOf e.ty v.bytes)), none)

/-- The first refusal among the values put. -/
def State.putAll : State → List OdValue → State × List (Nat × Nat × Nat)
  | s, [] => (s, [])
  | s, v :: l =>
    let (s, f) := s.putValue v
    let (s, fs) := State.putAll s l
    match f with
    | some (c, d) => (s, (key v.index v.sub, c, d) :: fs)
    | none => (s, fs)

/-- The ports whose mode or FEC a commit changes. -/
def portsChanged (was s : State) (l : List OdValue) : List Nat :=
  (items 96).filter (fun p => (l.any (fun v => v.index == 0x2100 + p)) &&
    (was.mode p != s.mode p || was.nat (0x2100 + p) 0x02 != s.nat (0x2100 + p) 0x02))

/-- Contracts that a commit to their table makes valid or changes, or finds valid and not admitted: their state and computed bound are to be
found anew (08 R216, R217). -/
def changedContracts (was s : State) (l : List OdValue) : List Nat :=
  match valueOf l 0x5010 1 with
  | none => []
  | some v =>
    let named := contractsNamed v.bytes
    (s.contracts.map (·.1)).filter (fun i =>
      let a := was.contractEntry i
      let b := s.contractEntry i
      b.testBit 255 && ((named.contains i && putField a 84 22 0 != putField b 84 22 0) || !s.reserved i))

/-- Forget the outcome of an earlier admission. -/
def State.unadmit (s : State) (i : Nat) : State :=
  let s := { s with contracts := Sparse.set 0 s.contracts i (putField (s.contractEntry i) 84 22 0) }
  s.setContractAt i { s.contractAt i with awaiting := [] }

/-- Ports that an undone bonding sets free start in mode 0 with FEC 0, unless the commit gives them one (04 R90). -/
def State.freePorts (was s : State) (l : List OdValue) : State :=
  (items 96).foldl (fun a p =>
    let under := fun (x : State) => (x.ownPort p).any (fun q => q != p)
    if under was && !under s && (valueOf l (0x2100 + p) 0x02).isNone then a.setNat (0x2100 + p) 0x02 0 else a) s

/-- The state with every value put: lane rates follow the port modes, and changed contracts stand as not yet admitted. Answers what could
not be put. -/
def State.candidate (s : State) (l : List OdValue) : State × List (Nat × Nat × Nat) :=
  let (c, bad) := s.putAll l
  let c := State.freePorts s c l
  let c := ((portsChanged s c l).map (· / 4)).eraseDups.foldl State.setLaneRates c
  ((changedContracts s c l).foldl State.unadmit c, bad)

/-- Admission of the contracts a commit changes (08 R216, R217). -/
def State.admitChanged (s : State) (changed : List Nat) : State × Option (Nat × Nat) := s.admitAll changed s.reservedList

/-! ## Judging a commit -/

/-- The compares that a commit arms: by a written 1, or by rewriting the settings of an armed one (09 R239). -/
def State.armsIn (s : State) (l : List OdValue) : List Nat :=
  (items 32).filter (fun c => match valueOf l (0x6100 + c) 0x08 with
    | some v => byteAt v.bytes 0 == 1
    | none => (s.compare c).state == 1 && l.any (fun v => v.index == 0x6100 + c))

/-- The compares that a commit disarms. -/
def disarmsIn (l : List OdValue) : List Nat :=
  (items 32).filter (fun c => match valueOf l (0x6100 + c) 0x08 with
    | some v => byteAt v.bytes 0 == 0
    | none => false)

/-- A value differs from the one in force; a table's records are compared by the table they leave. -/
def State.differs (s c : State) (idx sub : Nat) : Bool :=
  if idx = 0x3070 then s.frer != c.frer
  else if idx = 0x3080 then s.gates != c.gates
  else if sub = 1 && tableIndices.contains idx then s.table idx != c.table idx
  else if idx = 0xA100 then s.settings != c.settings
  else s.rawBytes idx sub != c.rawBytes idx sub

/-- Whether the writer may write the entry at the commit (R408, R424, R425). -/
def State.writerBar (s : State) (w : Writer) (idx sub : Nat) : Option Verdict :=
  if !w.isHost then none
  else if idx ≠ 0xF000 + w.who && !roleCovers w.role (needRole idx sub) then some ⟨0x04, 0, none⟩
  else if mirrored idx sub && s.shadowInStep then some ⟨0x04, 1, none⟩
  else none

/-- A change of something that admitted contracts rest on would break one of them (08 R218). -/
def State.readmitBar (s c : State) (idx sub : Nat) : Option Verdict :=
  if !s.differs c idx sub then none
  else (c.readmit (c.usesItem idx sub)).map (fun i => ⟨0x09, 10, some (i, 10)⟩)

/-- The outcome of a command carried by a commit, tried on the state the commit would leave. -/
def commandBar (cmd : State → OdValue → State) (c : State) (v : OdValue) : Option Verdict :=
  let t := cmd (c.answer 0 0) v
  if t.lastStatus = 0 then none else some ⟨t.lastStatus, t.lastDetail, none⟩

/-- The step entry of a time base. -/
def isStep (idx sub : Nat) : Bool := decide (0x6000 ≤ idx ∧ idx < 0x6008) && sub == 0x0B

/-- A step whose size is judged at the commit's turn: its range, and that none is pending; whether it reaches before the epoch is judged at the
commit point (09 R234). -/
def State.stepBar (s : State) (v : OdValue) : Option Verdict :=
  if 65536000000000000 < (numOf .i64 v.bytes).natAbs then some ⟨0x08, 0x0B, none⟩
  else if (s.tb (v.index - 0x6000)).pendingStep.isSome then ruleBroken
  else none

/-- What one value of a commit fails on: `c` is the state the commit would leave, `bad` what could not be put, `refused` an admission that fails
(R418). -/
def State.judgeValue (s c : State) (bad : List (Nat × Nat × Nat)) (refused : Option (Nat × Nat)) (w : Writer)
    (cmd : State → OdValue → State) (v : OdValue) : Option Verdict :=
  match s.writerBar w v.index v.sub with
  | some f => some f
  | none =>
    match bad.find? (fun b => b.1 == key v.index v.sub) with
    | some b => some ⟨b.2.1, b.2.2, none⟩
    | none =>
      match s.tableBar c v.index v.sub v.bytes with
      | some r => some ⟨r.1, r.2, none⟩
      | none =>
        match s.ruleOf c (decide (w.role = .service)) v.index v.sub v.bytes with
        | some f => some f
        | none =>
          if isStep v.index v.sub then s.stepBar v
          else if isCommand v.index v.sub then commandBar cmd c v
          else if v.index = 0x5010 then refused.map (fun r => ⟨0x09, r.2, some r⟩)
          else s.readmitBar c v.index v.sub

/-- Judge every value of a commit in index order: the first that fails, with its verdict (R418). -/
def State.firstFailing (s : State) (w : Writer) (values : List OdValue) (cmd : State → OdValue → State) : Option (OdValue × Verdict) :=
  let l := inOrder values
  let (c0, bad) := s.candidate l
  let (c, refused) := c0.admitChanged (changedContracts s c0 l)
  l.findSome? (fun v => (s.judgeValue c bad refused w cmd v).map (fun f => (v, f)))

/-- Judge a commit at its turn: the first failure in index order (R418). -/
def State.judgeCommit (s : State) (w : Writer) (values : List OdValue) (cmd : State → OdValue → State) : Option Verdict :=
  (s.firstFailing w values cmd).map (·.2)

/-- What is judged at the commit point, last of all: every arm fits, and no step would bring its time base before the epoch (R418; 09 R234,
R239). -/
def State.instantOk (s : State) (values : List OdValue) : Bool :=
  let l := inOrder values
  (s.armsIn l).all (s.candidate l).1.armOk &&
    l.all (fun v => !isStep v.index v.sub || decide (0 ≤ (s.tbNow (v.index - 0x6000) : Int) + numOf .i64 v.bytes))

/-- Judge a commit whose turn is its commit point. -/
def State.judgeNow (s : State) (w : Writer) (values : List OdValue) (cmd : State → OdValue → State) : Option Verdict :=
  match s.judgeCommit w values cmd with
  | some f => some f
  | none => if s.instantOk values then none else ruleBroken

/-- A refused commit: counted, and a refused admission names its contract and reason (R428; 08 R217, R218). -/
def State.refuseCommit (s : State) (f : Verdict) : State :=
  let s := match f.contract with
    | some (i, why) => (s.setNat 0x5000 0x03 i).setNat 0x5000 0x04 why
    | none => s
  s.inc32 0xF020 0x04

/-! ## The effects of committed values -/

/-- Lanes: a new polarity, order or request restarts the lane; spreading moves the twin lanes to rate-matched, or lets them retry (03 R71,
R73, R85). -/
def State.laneEffects (was s : State) (l : List OdValue) : State :=
  let changed := fun (n sub : Nat) => was.nat (laneIndex n) sub != s.nat (laneIndex n) sub
  let named := (items 100).filter (fun n => l.any (fun v => v.index == laneIndex n))
  let s' := (named.filter (fun n => changed n 0x04 || changed n 0x0B || changed n 0x0C)).foldl State.laneRestart s
  let s' := (named.filter (fun n => changed n 0x0D)).foldl (fun a n => (a.sisters n).foldl State.laneRestart a) s'
  if named.any (fun n => decide (96 ≤ n) && changed n 0x25) then
    if s.flag 0x2060 0x25 then (items 4).foldl (fun a k => a.rateMatchOnly (96 + k)) s'
    else s'.twinLanesRetry
  else s'

/-- Ports: a new mode or FEC takes the port down and restarts its lanes; the cage type moves the module reset; the override and the mode
judge the module again (04 R90, R91, R102, R104). -/
def State.portEffects (was s : State) (l : List OdValue) : State :=
  let ports := portsChanged was s l
  let s := ports.foldl State.reconfigureDown s
  let s := if ports.isEmpty then s else s.reconfigured was ports
  let cages := (items 24).filter (fun c => (items 4).any (fun i =>
    was.nat (0x2100 + (4 * c + i)) 0x08 != s.nat (0x2100 + (4 * c + i)) 0x08))
  let s := cages.foldl (fun a c => if was.fourLaneCage c || a.fourLaneCage c then a.cageChanged c else a) s
  let judged := (items 96).filter (fun p => ports.any (fun q => q / 4 == p / 4) || (valueOf l (0x2100 + p) 0x14).isSome)
  judged.foldl State.rejudgeModule s

/-- A MACsec association has been written: it takes effect at the next frame boundary and counts anew (04 R95, R98; 18 R464). -/
def State.associationEffects (s : State) (l : List OdValue) : State :=
  (l.filter (fun v => decide (0x2300 ≤ v.index ∧ v.index < 0x2360))).foldl (fun a v =>
    let p := v.index - 0x2300
    let x := a.port p
    let channel := (Config.associationChannel v.bytes).val
    let an := (Config.associationNumber v.bytes).val
    let suite := (Config.associationSuite v.bytes).val
    let new : Association := { suite := suite, offset := [0, 30, 50].getD (Config.associationOffset v.bytes).val 0 }
    let x := { x with associations := Sparse.set none x.associations (4 * channel + an) (some new) }
    a.setPort p (if channel = 0 then { x with
        packetNumber := 0, rekeyRaised := false, exhausted := false, association := true, transmitAn := an, xpn := decide (2 ≤ suite) }
      else x)) s

/-- Pools, watermarks and gate lists: levels follow their thresholds; an administrative list becomes operational at its first cycle start at
least 10 µs away (07 R189, R194). -/
def State.bufferEffects (s : State) (l : List OdValue) : State :=
  let s := ((l.filter (fun v => decide (0x4000 ≤ v.index ∧ v.index < 0x4008))).map (·.index)).eraseDups.foldl
    (fun a i => a.judgePool (i - 0x4000)) s
  let s := (l.filter (fun v => decide (0x4100 ≤ v.index ∧ v.index < 0x4D00 ∧ (v.sub = 0x05 ∨ v.sub = 0x06)))).foldl
    (fun a v => a.judgeQueue ((v.index - 0x4100) / 32) ((v.index - 0x4100) % 32)) s
  (l.filter (fun v => decide (0x4010 ≤ v.index ∧ v.index < 0x4070 ∧ v.sub = 0x03))).foldl (fun a v =>
    let p := v.index - 0x4010
    let list := (a.eg p).pending.getD {}
    (a.setEg p { a.eg p with pendingAt := list.startAfter ((a.tb0Ns : Int) + 10000) }).setNat v.index 0x05 1) s

/-- Firefly outputs: a new mode takes hold, a grid output whose time base, interval, count or offset changes realigns, and a slew goes on at the
rate written (09 R245). -/
def State.fireflyEffects (was s : State) (l : List OdValue) : State :=
  (items 16).foldl (fun a f =>
    let i := 0x6200 + f
    if !l.any (fun v => v.index == i) then a
    else
      let fresh := was.nat i 0x01 != a.nat i 0x01
      let moved := [0x02, 0x03, 0x04, 0x05].any (fun k => was.reg i k != a.reg i k)
      let a := if (a.firefly f).slewSince.isSome then
          (a.setReg i 0x0E (was.alignError f)).setFirefly f { a.firefly f with slewSince := some a.now }
        else a
      if fresh then a.enableFirefly f (!(gridMode (was.nat i 0x01)))
      else if (gridMode (a.nat i 0x01) && moved) || a.nat i 0x01 == 1 then a.enableFirefly f false
      else a) s

/-- A slot whose source or line has been given a new meaning loses its qualification and measures anew (11 R292). -/
def State.resetSlot (s : State) (n : Nat) : State :=
  let i := 0x7000 + n
  let was := s.slotQualified n
  let s := s.setSlot n {}
  let s := (items 8).foldl (fun a m => a.setSlot m { a.slot m with disputes := setBit (a.slot m).disputes n false }) s
  let s := ((s.setReg i 0x09 0).putBit i 0x08 1 false).setNat i 0x07 (if s.nat i 0x01 = 0 then 0 else 1)
  let s := (items 8).foldl (fun a k => (a.setNat (0x7020 + k) (0x10 + n) 0).setReg (0x7020 + k) (0x18 + n) 0) s
  if was then s.raise (1168 + n) 0 else s

/-- References: slots whose input changes start anew, a window that changes is judged, and every selector judges again; a slope limit and a free-run
trim act at once (11 R291, R292, R297, R301, R303, R306). -/
def State.slotEffects (was s : State) (l : List OdValue) : State :=
  if !l.any (fun v => decide (0x7000 ≤ v.index ∧ v.index < 0x7040 ∨ (0x6000 ≤ v.index ∧ v.index < 0x6008 ∧ (v.sub = 0x03 ∨ v.sub = 0x0C)))) then s
  else
    let moved := (items 8).filter (fun n =>
      was.nat (0x7000 + n) 0x01 != s.nat (0x7000 + n) 0x01 || was.linePort n != s.linePort n ||
        (s.slotPin n && was.nat (0x7000 + n) 0x02 != s.nat (0x7000 + n) 0x02))
    let windows := (items 8).filter (fun n => was.nat (0x7000 + n) 0x0B != s.nat (0x7000 + n) 0x0B)
    let s := (windows.foldl State.judgeWindow (moved.foldl State.resetSlot s)).refsUpdate
    let s := (items 8).foldl (fun a k => if was.nat (0x7020 + k) 0x01 != a.nat (0x7020 + k) 0x01 && a.tbFollows k then a.applySteering k else a) s
    if was.reg 0x7010 0x0D != s.reg 0x7010 0x0D && (s.nat 0x7010 0x02 == 1 || (s.nat 0x7010 0x02 == 4 && !s.freqHeld)) then
      s.setFrequency (s.reg 0x7010 0x0D)
    else s

/-- Synthesis: a backup whose reference mode changes relocks, outputs follow their settings (12 R318, R329, R330). -/
def State.clockEffects (was s : State) (l : List OdValue) : State :=
  let s := (items 8).foldl (fun a k =>
    if was.nat (0x7040 + k) 0x03 != a.nat (0x7040 + k) 0x03 then a.relockBackup k else a) s
  if !l.any (fun v => decide (0x7060 ≤ v.index ∧ v.index < 0x7070)) then s
  else ((items 16).foldl (fun a c =>
    let a := State.clockChanges was a c
    if was.nat (0x7060 + c) 0x04 != a.nat (0x7060 + c) 0x04 then a.clockWaits c else a) s).judgeClocks

/-- Standby of the ports: 9100h.03 reads 1 while a standby port covers nothing (14 R371, R379). -/
def State.standbyEffects (s : State) (l : List OdValue) : State :=
  (l.filter (fun v => decide (0x9100 ≤ v.index ∧ v.index < 0x9160 ∧ v.sub = 0x02))).foldl (fun a v =>
    let st := a.nat v.index 0x03
    if st ≤ 1 then a.setNat v.index 0x03 (a.nat v.index 0x02) else a) s

/-- Engines, rings and monitors: a new image block-resets and loads its engine, a new binding waits for its ring's frame boundary, a monitor's
settings for the epoch boundary; a new twin time limit is judged at once (02 R53; 14 R369; 17 R434, R443). -/
def State.hubEffects (was s : State) (l : List OdValue) : State :=
  let s := if was.nat 0x9000 0x0A = s.nat 0x9000 0x0A then s else State.judgeLimit was s
  let s := (items 16).foldl (fun a e =>
    if was.nat (0xB000 + e) 0x01 = a.nat (0xB000 + e) 0x01 then a
    else if a.engineFenced e then a
    else (((a.mask .engine e).openWindow 0xFFFE true .engine e).inc32 (0xB000 + e) 0x08).resetEngine e 1) s
  let s := (items 64).foldl (fun a i =>
    let now := a.nat (0xB100 + i) 0x03
    if was.nat (0xB100 + i) 0x03 = now then a
    else
      let x := a.ringX i
      let before := was.nat (0xB100 + i) 0x03
      a.setRingX i { x with
        bindWait := some now
        bindWaitDown := some now
        bound := some ((x.bound).getD before)
        boundDown := some ((x.boundDown).getD before) }) s
  (l.filter (fun v => decide (0xE000 ≤ v.index ∧ v.index < 0xE010))).foldl (fun a v =>
    { a with monitorPending := setBit a.monitorPending (v.index - 0xE000) true }.setNat 0xB080 0x04 1) s

/-- Credentials: sessions opened with a changed record close, and a grant it signed ends (18 R470). -/
def State.credentialEffects (was s : State) : State :=
  (items 16).foldl (fun a k =>
    if was.blob 0xC020 (k + 1) = a.blob 0xC020 (k + 1) then a
    else
      let a := (items 8).foldl (fun b n =>
        if b.nat (0xF000 + n) 0x01 ≠ 0 ∧ (b.session n).credential = k then b.closeSession n else b) a
      if a.security.grantBy.contains k then a.endGrant else a) s

/-- Tables: each one changed takes a new generation, and its overlay is folded unless the commit was too large for one (05 R138, R139,
R141). -/
def State.tableEffects (was s : State) (l : List OdValue) : State :=
  (items 6).foldl (fun a t =>
    let i := tableIndex t
    if was.table i = a.table i then a
    else
      let large := match valueOf l i 1 with
        | some v => largeChange was s i v.bytes
        | none => false
      let a := a.setNat 0x3001 (1 + t) ((a.generation t + 1) % 65536)
      { a with folding := setBit a.folding t !large }) s

/-- The test modes of a commit take effect together (03 R81). -/
def State.testEffects (s : State) (l : List OdValue) : State :=
  s.setTests ((l.filter (fun v => decide (0x2000 ≤ v.index ∧ v.index < 0x2064) && v.sub == 0x18)).map
    (fun v => (v.index - 0x2000, ofBytes v.bytes)))

/-- A compare that a commit writes in the cycle in which it comes due fires with its old settings first (09 R252). -/
def State.fireDue (s : State) (l : List OdValue) : State :=
  ((items 32).filter (fun c => l.any (fun v => v.index == 0x6100 + c))).foldl (fun a c =>
    let x := a.compare c
    let k := a.nat (0x6100 + c) 0x01
    if x.state == 1 && (a.tb k).running && a.reached k (a.target c x.index) then (a.instanceDue c false).nextInstance c (x.index + 1) else a) s

/-- Every compare a commit arms or disarms (09 R239). -/
def State.armEffects (was s : State) (l : List OdValue) : State :=
  let s := (disarmsIn l).foldl (fun a c => a.setCompare c {}) s
  (was.armsIn l).foldl State.armCompare s

/-- Learns that wait for a key which the commit writes are discarded (05 R128). -/
def State.dropLearns (s : State) (l : List OdValue) : State :=
  { s with learns := s.learns.filter (fun k => !writesKey l k.1 k.2.1) }

/-- A change of what contracts in the calendars rest on: their admission has been run again, and its outcome stands (08 R216, R218). -/
def State.readmitChanged (was s : State) (l : List OdValue) : State :=
  s.reservedList.foldl (fun a i =>
    if l.any (fun v => was.differs s v.index v.sub && s.usesItem v.index v.sub (contractOf (s.contractEntry i))) then a.admitOne i else a) s

/-- The state after a commit's values and commands have taken effect together (R418). -/
def State.putCommit (s : State) (values : List OdValue) (cmd : State → OdValue → State) : State :=
  let l := inOrder values
  let (c0, _) := s.candidate l
  let (c, _) := c0.admitChanged (changedContracts s c0 l)
  let c := State.readmitChanged s c l
  let c := (State.tableEffects s c l).dropLearns l
  let c := State.laneEffects s c l
  let c := State.portEffects s c l
  let c := c.associationEffects l
  let c := c.bufferEffects l
  let c := State.fireflyEffects s c l
  let c := State.slotEffects s c l
  let c := State.clockEffects s c l
  let c := c.standbyEffects l
  let c := State.hubEffects s c l
  let c := State.credentialEffects s c
  let c := State.armEffects s c l
  let c := c.testEffects l
  (l.filter (fun v => isCommand v.index v.sub && !(decide (0x6100 ≤ v.index ∧ v.index < 0x6120)))).foldl cmd c

/-- A table of the commit is still being folded from an earlier one (05 R138). -/
def State.foldsStill (s : State) (l : List OdValue) : Bool :=
  l.any (fun v => v.sub == 1 && tableIndices.contains v.index && decide (tableCode v.index < 6) && s.folding.testBit (tableCode v.index))

/-- A record write of the commit waits for the accesses on its cluster's bus (04 R103, R104). -/
def State.busWaits (s : State) (l : List OdValue) : Bool :=
  l.any (fun v => decide (0x2100 ≤ v.index ∧ v.index < 0x2160) && v.sub == 0x0F && s.busReads ((v.index - 0x2100) / 4))

/-- A commit has to wait: behind the commits in turn, or for a fold (R418; 05 R138). -/
def State.mustWait (s : State) (l : List OdValue) : Bool := !s.commits.isEmpty || s.foldsStill l

/-! ## The record of a commit -/

/-- A committed value changes its entry: it clears a bit of an RO/W1C entry, is a command, or differs from what the entry held (R418; log entry
25). `s` is the state before, `c` the state after. -/
def State.touches (s c : State) (v : OdValue) : Bool :=
  match findEntry v.index v.sub with
  | none => false
  | some e =>
    if e.acc == .roW1c then
      let held := if e.ty.isBlob then s.overflow else s.nat v.index v.sub &&& w1cMask v.index v.sub
      (held &&& ofBytes v.bytes) != 0
    else isCommand v.index v.sub || s.differs c v.index v.sub

/-- A commit changes a value (R418). -/
def State.changesBy (s c : State) (l : List OdValue) : Bool := l.any (s.touches c)

/-- A record of the forwarding database as the mirror carries it: one that leaves a static entry as it is, one that takes a static entry away as its
deletion, any other not at all (14 R363). -/
def State.staticRecord (was : State) (r : List Byte) : Option (List Byte) :=
  let e := numAt r 1 12
  let had := match was.fdbFind (fdbEntryKey e).1 (fdbEntryKey e).2 with
    | some i => (Sparse.get 0 was.fdb i).testBit 94
    | none => false
  if byteAt r 0 = 1 ∧ e.testBit 94 then some r else if had then some (0x02 :: r.drop 1) else none

/-- The mirrored values of a commit, made in a state: of the forwarding database the static entries (14 R363). -/
def State.mirroredValues (was : State) (l : List OdValue) : List OdValue :=
  (l.filter (fun v => mirrored v.index v.sub)).filterMap (fun v =>
    if v.index = 0x3010 ∧ v.sub = 1 then
      match ((recordsOf 0x3010 v.bytes).getD []).filterMap was.staticRecord with
      | [] => none
      | records => some { v with bytes := records.flatten }
    else some v)

/-- Commits after the image that wait for the shadow, with one more of epoch `e`: those beyond what it has reported (14 R365). -/
def State.commitsWaiting (s : State) (e : Nat) : Nat :=
  let since := fun (x : Nat) => (signed 32 ((x + 2 ^ 32 - s.twin.imageEpoch) % 2 ^ 32)).toNat
  since e - since (s.nat 0x9000 0x0E)

/-- A commit that changed mirrored content: the lead raises its epoch and sends it, and a resync that has more than 1,024 of them to bring restarts;
while the link is down the changes are counted, which the other device's resync will overwrite (14 R364, R365, R367). -/
def State.mirrorCommit (s was : State) (w : Writer) (l : List OdValue) : State :=
  let m := (was.mirroredValues l).filter (fun v => was.differs s v.index v.sub)
  if w.who = 253 || m.isEmpty then s
  else
    let s := if s.twin.linkUp then s else { s with twin := { s.twin with localCommits := s.twin.localCommits + valueItems m } }
    if !s.leads then s
    else
      let e := (s.nat 0x9000 0x0D + 1) % 2 ^ 32
      let s := s.setNat 0x9000 0x0D e
      if !s.twin.linkUp || s.twin.incompatible || s.twin.idConflict then s
      else if s.nat 0x9000 0x0C = 1 ∧ 1024 < s.commitsWaiting e then s.startResync
      else { s with twin := { s.twin with mirrorOut := s.twin.mirrorOut ++ [{ epoch := e, values := m }] } }

/-- The commit notice to every other session that claims a changed index (16 R422 bit 1). -/
def State.commitNotices (s was : State) (w : Writer) (l : List OdValue) : State :=
  let changed := (l.filter (was.touches s)).map (·.index)
  let first := changed.getD 0 0
  let last := changed.getLast?.getD 0
  let who := if w.isHost then w.who else 0xFF
  (items 8).foldl (fun a n =>
    let x := a.session n
    if n ≠ w.who ∧ a.nat (0xF000 + n) 0x01 = 2 ∧ (a.nat (0xF000 + n) 0x06).testBit 1 ∧
        changed.any (fun i => x.claims.any (fun c => decide (c.1 ≤ i ∧ i ≤ c.2))) then
      a.noticeTo n (toBytes 4 (a.nat 0xF020 0x01) ++ [BitVec.ofNat 8 who] ++ toBytes 2 first ++ toBytes 2 last)
    else a) s

/-- Sequence, committer and time of a commit that changed something (R418, R428). -/
def State.recordCommit (s was : State) (w : Writer) (values : List OdValue) : State :=
  let l := inOrder values
  if !was.changesBy s l then s
  else
    let s := (s.setNat 0xF020 0x01 ((s.nat 0xF020 0x01 + 1) % 2 ^ 32)).setNat 0xF020 0x02 (if w.isHost then w.who else 0xFF)
    let s := s.setNat 0xF020 0x03 (time80 (s.tbNow 0))
    (s.mirrorCommit was w l).commitNotices was w l

/-- The commit point: the values take effect at one instant, and the commit is recorded (R418). -/
def State.commitNow (s : State) (w : Writer) (values : List OdValue) (cmd : State → OdValue → State) : State :=
  let s := s.fireDue values
  (s.putCommit values cmd).recordCommit s w values

/-- A commit that carries no command: of the mirror and of a dictionary image. -/
def noCommand (s : State) (_ : OdValue) : State := s

end Sys2Proof.Machine
end

