-- ==== Sys2Proof/Machine/Collector.lean ====
section
/-! DEFINITION. The fault collector (15_faults.md R381 to R398, R402): one cycle of it, the log, the first-fault register, ERR_N, the
consequence of acts, and entry into SAFE. -/

namespace Sys2Proof.Machine

/-! ## The log and ERR_N -/

/-- The 16 bytes of a record (R390). -/
def Record.bytes (r : Record) : List Byte :=
  toBytes 2 r.source ++ toBytes 1 (r.severity % 8 + 8 * (r.level % 8)) ++ toBytes 1 r.flags ++ toBytes 2 r.cause ++
    toBytes 1 r.epoch ++ toBytes 1 r.detail ++ toBytes 8 r.time

/-- Append a record; a full log overwrites its oldest and counts it (R391). -/
def State.logRecord (s : State) (r : Record) : State :=
  if s.log.length < 512 then { s with log := s.log ++ [r] }
  else (({ s with log := s.log.drop 1 ++ [r], logRead := s.logRead - 1 }).inc32 0xA000 0x05).putBit 0xA000 0x07 7 true

/-- ERR_N is called for: an unacknowledged record with bit 5, SAFE, or a start that has not completed (R397; 19 R483). -/
def State.errNCalled (s : State) : Bool :=
  decide (s.runState < 2) || s.isSafe || s.log.any (fun r => r.flags.testBit 5 && !r.flags.testBit 6)

/-- ERR_N follows what calls for it; once asserted it stays for its minimum time (R397). -/
def State.judgeErrN (s : State) : State :=
  if s.errNCalled then (if s.errN then s else { s with errN := true, errNHold := true })
  else if s.errNHold then s else { s with errN := false }

/-- The part of a record that its cycle fixes: TB0's epoch and SHORTTIME, or time invalid (R390). -/
def State.stampFault (s : State) (r : Record) : Record :=
  { r with
    epoch := s.nat 0x6000 0x08
    time := s.shortTime 0
    flags := setBit r.flags 7 (!(s.tb 0).running) }

/-! ## SAFE (R396) -/

/-- Firefly outputs are parked (09 R247). -/
def State.parkFireflies (s : State) : State := (items 16).foldl (fun a f => (a.endPulses f).setNat (0x6200 + f) 0x11 0) s

/-- Every armed compare is cancelled (09 R228). -/
def State.cancelCompares (s : State) : State :=
  (items 32).foldl (fun a c => if (a.compare c).state = 1 then a.setCompare c { a.compare c with state := 3 } else a) s

/-- Every port lane goes idle with its port down; the twin lanes go on for 20 µs (R396, 14 R358). -/
def State.idleLanes (s : State) : State :=
  let s := (items 96).foldl (fun a p => if a.portFenced p then a else a.stopPort p |>.setNat (0x2100 + p) 0x03 0) s
  (items 96).foldl State.laneOff s

/-- Every engine stops; what its threads waited for is gone (17 R438). -/
def State.stopEngines (s : State) : State :=
  (items 16).foldl (fun a e => (a.setEngine e { a.engine e with events := [], trapped := 0 }).setNat (0xB000 + e) 0x02 0) s

/-- Leave the lead and TWIN_HOLD_OUT (14 R357 to R359). -/
def State.leaveService (s : State) : State :=
  let s := if s.leads then s.yieldLead else s
  { s with twin := { s.twin with holdOut := false, heldLong := false } }

/-- Regions are switched off: their slices and fabric interfaces lose their content (R396 t5). -/
def State.regionsOff (s : State) : State :=
  { s with
    domains := s.domains / 256 * 256
    regions := [], queues := [], flights := [], rx := [], overflowed := [], crossings := [] }

/-- 20 µs after entry of SAFE the twin lanes stop (R396 t4; 14 R358). -/
def State.settleSafe (s : State) : State :=
  match s.start.safeAt with
  | none => s
  | some t =>
    if !s.isSafe ∨ s.now < t + 20000 then s
    else
      let s := { s with start := { s.start with safeAt := none } }
      (items 4).foldl (fun a k => a.laneOff (96 + k)) s

/-- Enter SAFE (R396): pins first, then outputs, lanes, fabric, engines, twin lanes and domains. The record, where there is one, is kept with the
first fault as it stands; `why` is the source after which the server is limited (R395; 16 R423; 18 R469). -/
def State.enterSafe (s : State) (r : Option Record) (why : Option Nat) : State :=
  if s.isSafe then s
  else
    let s := { s with safeRecord := (match r with
      | some r => some (r, s.firstFault)
      | none => s.safeRecord) }
    let s := s.leaveService.setRunState 4
    let s := { s with errN := true, errNHold := s.errNHold || !s.errN, safeN := true, messages := [], masks := [], windows := [] }
    let s := ((s.parkFireflies.cancelCompares).stopTimeBases).judgeClocks
    let s := s.idleLanes
    let s := s.stopEngines.regionsOff
    let s := if why = some 1188 then s.endGrant else s
    let server := why ≠ some 1185 && why ≠ some 1191
    { s with start := { s.start with
        fabric := false, server := server, safeCause := why, run := none, retry := none, holding := false, settling := false
        safeAt := some s.now } }.setNat
      0xD000 0x0A 0

/-! ## Consequential faults (R393) -/

/-- The kinds of source that can be consequential. -/
def consequentialKind (n : Nat) : Bool :=
  if n < 576 then n % 6 == 0 || n % 6 == 3
  else if n < 768 then (n - 576) % 8 == 2 || (n - 576) % 8 == 3
  else if n < 1024 then decide (17 ≤ (n - 768) % 32 ∧ (n - 768) % 32 ≤ 25)
  else (decide (1168 ≤ n ∧ n < 1176)) || n == 1190 || decide (1206 ≤ n ∧ n < 1210)

/-- An act on a whole region, or a change-over: it touches the fabric's paths. -/
def Act.onRegion (a : Act) : Bool := a.changeOver || a.level == .region

/-- A source lies on a die, region or path that an act touches (R393; what a path covers is a DEDUCED reading, log entry 63). -/
def State.touched (s : State) (a : Act) (n : Nat) : Bool :=
  if n < 1024 then
    let o := (n - 768) % 32
    (regionsOfSource n &&& a.regions) != 0 ||
      (decide (768 ≤ n) && a.level != .engine && (o == 17 || o == 18)) ||
      (decide (768 ≤ n) && a.onRegion && decide (20 ≤ o ∧ o ≤ 24)) ||
      (decide (768 ≤ n) && a.level == .engine && !a.changeOver && o == 25)
  else if n < 1176 then
    match s.slotPort (n - 1168) with
    | some p => a.regions.testBit (p / 12)
    | none => false
  else if n = 1190 then a.onRegion || a.level == .engine
  else a.changeOver && a.item == 0

/-- The source lies inside the item acted on; a change-over has none. -/
def Act.holds (a : Act) (n : Nat) : Bool := !a.changeOver && insideItem a.level a.item n

/-- The cause of a consequential detection: that of the earliest open window that makes it one (R393). -/
def State.causeOf (s : State) (n : Nat) : Option Nat :=
  if consequentialKind n then (s.windows.find? (fun a => !a.holds n && s.touched a n)).map (·.cause) else none

/-- A crossing-stall source (R380). -/
def stallKind (n : Nat) : Bool :=
  (decide (576 ≤ n ∧ n < 768) && (n - 576) % 8 == 3) || (decide (768 ≤ n ∧ n < 1024) && (n - 768) % 32 == 20) || n == 1190

/-! ## One cycle -/

/-- A detection taken in a cycle: its record and the setting whose reactions run. -/
structure Taken where
  record : Record
  setting : Nat := 0
  /-- The act of a host that the record stands for (R400). -/
  act : Option Act := none
deriving DecidableEq, Repr

/-- Consequential (R390 flag bit 2). -/
def Taken.consequential (t : Taken) : Bool := t.record.flags.testBit 2

/-- A source is masked: it lies inside a masked item (R392). -/
def State.maskedSource (s : State) (n : Nat) : Bool := s.masks.any (fun m => insideItem m.1 m.2 n)

/-- Take one message: masked, of severity 0 and counted only, or a record (R382, R392, R393). -/
def State.takeOne (s : State) (m : Message) : State × Option Taken :=
  if s.maskedSource m.source then ((s.inc64 0xA000 0x0A).putBit 0xA000 0x07 5 true, none)
  else
    let v := s.setting m.source
    if v / 8192 = 0 then (s, none)
    else
      let cause := s.causeOf m.source
      let r : Record :=
        { source := m.source
          severity := v / 8192
          level := levelOfSource m.source
          flags := if cause.isSome then 4 else 0
          cause := cause.getD 0xFFFF
          detail := m.detail }
      let s := if cause.isSome then (s.inc64 0xA000 0x0B).putBit 0xA000 0x07 6 true else s
      (s, some { record := s.stampFault r, setting := v })

/-- Take every message in turn. -/
def State.takeAll : State → List Message → State × List Taken
  | s, [] => (s, [])
  | s, m :: l =>
    let (s, t) := s.takeOne m
    let (s, ts) := State.takeAll s l
    (s, t.toList ++ ts)

/-- Rank of a record in its cycle: severity, then level, then source (R389); less ranks first. -/
def Taken.rank (t : Taken) : Nat := ((7 - t.record.severity) * 8 + t.record.level) * 2048 + t.record.source

/-- The record is consequential to an act (R390, R393). -/
def Taken.makeConsequential (t : Taken) (cause : Nat) : Taken :=
  { t with record := { t.record with flags := setBit t.record.flags 2 true, cause := cause } }

/-- Insert by rank. -/
def insertTaken (t : Taken) : List Taken → List Taken
  | [] => [t]
  | u :: l => if t.rank < u.rank then t :: u :: l else u :: insertTaken t l

/-- The records of one cycle in rank order. -/
def ranked (l : List Taken) : List Taken := l.foldl (fun a t => insertTaken t a) []

/-- Mark first and co-incident records: only while the first-fault register is empty and some record is not consequential (R389). -/
def State.markFirst (s : State) (l : List Taken) : List Taken × Option Nat :=
  match s.firstFault, l.findIdx? (fun t => !t.consequential) with
  | none, some k => (l.mapIdx (fun i t => { t with record := { t.record with flags := t.record.flags + (if i = k then 1 else 2) } }), some k)
  | _, _ => (l, none)

/-- The items that a setting's fence field names for a source (R386). -/
def fenceTargets (n v : Nat) : List (FenceLevel × Nat) :=
  if fenceOf v = 1 then (unitOf n).toList
  else if fenceOf v = 2 then ((clusterOfSource n).map (fun c => (FenceLevel.cluster, c))).toList
  else if fenceOf v = 3 then ((items 8).filter (fun g => (regionsOfSource n).testBit g)).map (fun g => (FenceLevel.region, g))
  else []

/-- The item that a block reset of a source resets (R385). -/
def resetTarget (n : Nat) : Option (FenceLevel × Nat) :=
  match unitOf n with
  | some (.port, p) => some (.port, p)
  | some (.engine, e) => some (.engine, e)
  | _ => (clusterOfSource n).map (fun c => (FenceLevel.cluster, c))

/-- The fences of a cycle: item and cause, in rank order, without those that lie inside another one of the cycle (R387). -/
def cycleFences (l : List Taken) : List ((FenceLevel × Nat) × Nat) :=
  let all := (l.filter (fun t => !t.consequential)).flatMap (fun t =>
    (fenceTargets t.record.source t.setting).map (fun k => (k, t.record.source)))
  all.filter (fun k => !all.any (fun o => itemInside k.1.1 k.1.2 o.1.1 o.1.2))

/-- The acts that a record's own reactions are (R385, R386, R393). -/
def Taken.acts (t : Taken) : List Act :=
  if t.consequential then [] else t.act.toList ++ (fenceTargets t.record.source t.setting ++ (if t.setting.testBit 8 then (resetTarget t.record.source).toList else [])).map
    (fun k => actOn t.record.source k.1 k.2)

/-- An act of the cycle makes a record of the same cycle consequential: the window runs from the act's own cycle; a stall that meets a fence
of its own island is one too (R393; 02 R49). -/
def State.cycleCause (s : State) (acts : List Act) (t : Taken) : Option Nat :=
  let n := t.record.source
  if t.consequential || t.act.isSome || !consequentialKind n then none
  else (acts.find? (fun a => a.cause != n && ((!a.holds n && s.touched a n) || (stallKind n && a.holds n)))).map (·.cause)

/-- The records of a cycle judged against the acts of the same cycle, in rank order: first those that no act can take away (R393). -/
def State.judgeCycle (s : State) (l : List Taken) : State × List Taken :=
  let sure := (l.filter (fun t => t.act.isSome || !consequentialKind t.record.source)).flatMap Taken.acts
  let (s, out, _) := l.foldl (fun (a : State × List Taken × List Act) t =>
    match s.cycleCause a.2.2 t with
    | some cause => ((a.1.inc64 0xA000 0x0B).putBit 0xA000 0x07 6 true, a.2.1 ++ [t.makeConsequential cause], a.2.2)
    | none => (a.1, a.2.1 ++ [t], a.2.2 ++ t.acts)) (s, [], sure)
  (s, out)

/-- The block resets of a cycle: item and cause, without those inside an item fenced in the cycle or before (R387). -/
def State.cycleResets (s : State) (l : List Taken) : List ((FenceLevel × Nat) × Nat) :=
  let fenced := ((l.filter (fun t => !t.consequential)).flatMap (fun t => fenceTargets t.record.source t.setting)) ++ s.fences
  ((l.filter (fun t => !t.consequential && t.setting.testBit 8)).filterMap (fun t =>
    (resetTarget t.record.source).map (fun k => (k, t.record.source)))).filter (fun k =>
      !fenced.any (fun o => o == k.1 || itemInside k.1.1 k.1.2 o.1 o.2))

/-- Flag bits 3 to 5 of a record as its reactions ran (R390). -/
def flagReactions (fences resets : List ((FenceLevel × Nat) × Nat)) (chip : Bool) (t : Taken) : Taken :=
  let n := t.record.source
  let fence := !t.consequential && (fenceTargets n t.setting).any (fun k => fences.any (fun o => o.1 == k))
  let reset := !t.consequential && ((t.setting.testBit 8 && resets.any (fun o => o.2 == n)) || (chip && t.setting.testBit 9))
  { t with record := { t.record with
    flags := t.record.flags + 8 * ofBool fence + 16 * ofBool reset + 32 * ofBool (t.setting.testBit 7) } }

/-- The interrupt of a record: the fault thread's event and the notice (R385; 16 R422). -/
def State.interrupt (s : State) (t : Taken) : State :=
  if t.setting.testBit 5 then (s.sendEvent (s.nat 0xA000 0x09) 3 t.record.source).notice 0 t.record.bytes else s

/-- The trap of a record: the thread that caused it enters its handler: the thread of the last trap, or the one that the detail names (R385). -/
def State.trapThread (s : State) (t : Taken) : State :=
  let n := t.record.source
  if t.setting.testBit 6 && decide (1104 ≤ n ∧ n < 1168) then
    let e := (n - 1104) / 4
    let thread := if n % 4 = 0 then byteAt (s.blob (0xB000 + e) 0x07) 0 else t.record.detail % 4
    let x := s.engine e
    if s.nat (0xB000 + e) 0x02 = 2 ∨ s.nat (0xB000 + e) 0x02 = 3 then s.setEngine e { x with trapped := setBit x.trapped thread true } else s
  else s

/-- The reactions below SAFE: fences, block resets, traps and interrupts (R385, R387). Answers with the records as flagged. -/
def State.reactions (s : State) (l : List Taken) (starting : Bool) : State × List Taken :=
  let fences := cycleFences l
  let resets := s.cycleResets l
  let l := l.map (flagReactions fences resets (!starting))
  let s := fences.foldl (fun a k => a.fenceItem k.1.1 k.1.2 k.2) s
  let s := ((resets.map (·.1)).eraseDups).foldl (fun a k =>
    a.blockReset k.1 k.2 (((resets.find? (fun r => r.1 == k)).map (·.2)).getD 0xFFFF)) s
  let s := l.foldl State.trapThread s
  (l.foldl State.interrupt s, l)

/-- Write the records of a cycle in their order, the first one into its register (R389). -/
def State.writeRecords (s : State) (l : List Taken) (first : Option Nat) : State :=
  let s := (l.map (·.record)).foldl State.logRecord s
  match first with
  | some k => { s with firstFault := (l[k]?).map (·.record) }
  | none => s

/-- The limited cause of SAFE: the sources after which the server is limited (16 R423; 18 R469). -/
def safeWhy (n : Nat) : Option Nat := if n = 1185 ∨ n = 1188 ∨ n = 1191 then some n else none

/-- The source of a cycle whose chip reset or SAFE reaction fails a running start (19 R474). -/
def failsStart (l : List Taken) : Option Nat :=
  (l.find? (fun t => t.setting.testBit 10 || (t.setting.testBit 9 && !t.consequential))).map (·.record.source)

/-- A record selects SAFE (R387, R393). -/
def selectsSafe (l : List Taken) : Option Taken := l.find? (fun t => t.setting.testBit 10)

/-- A record selects the chip reset (R387, R393). -/
def selectsReset (l : List Taken) : Option Taken := l.find? (fun t => t.setting.testBit 9 && !t.consequential)

/-- One cycle of the collector on every message that the crossings hold and on records a host's fence brings (R381 to R393). Answers the source of a chip
reset that is to follow; during a start, the source of a reaction that fails it (19 R474). -/
def State.collect (s : State) (host : List Taken) : State × Option Nat :=
  if s.isSafe then (s, none)
  else
    let starting := !s.isUp
    let (now, later) := splitMessages s.messages
    let (s, taken) := State.takeAll { s with messages := later } now
    let l := ranked (taken ++ host)
    let safe := !starting && (selectsSafe l).isSome
    let (s, l) := if safe then (s, l) else s.judgeCycle l
    let (l, first) := s.markFirst l
    match (if safe then selectsSafe l else none) with
    | some t =>
      let s := s.writeRecords l first
      (s.enterSafe (some t.record) (safeWhy t.record.source), none)
    | none =>
      let (s, l) := s.reactions l starting
      ((s.writeRecords l first).judgeErrN, if starting then failsStart l else (selectsReset l).map (·.record.source))

/-- Raise the detections of a command: reserved sources and those of the collector itself are not raised by detectors (R380, R394). -/
def State.raiseAll (s : State) (l : List Detection) : State :=
  (l.filter (fun d => decide (d.source < 1504) && !reservedSource d.source)).foldl (fun a d => a.raise d.source d.detail) s

end Sys2Proof.Machine
end

