-- ==== Sys2Proof/Machine/Startup.lean ====
section
/-! DEFINITION. Cold and warm starts (19_start_up.md R472 to R485): the steps of each, failures and their escalation, the configuration hold, and
the dictionary image; power and the reset pin. -/

namespace Sys2Proof.Machine

open Host (Outcome)

/-! ## Fuses (18_security_debug_states.md R451 to R455) -/

/-- The lifecycle state: how many groups are blown, each from 5 of its 8 fuses on (R451). -/
def SecurityX.lifecycle (x : SecurityX) : Nat := (x.groups.filter (fun n => decide (5 ≤ n))).length

/-- The active owner slot: 0 while valid, 1 once slot 0 is revoked, FFh = none (R453). -/
def SecurityX.activeSlot (x : SecurityX) : Nat :=
  if x.slot0State = 1 then 0 else if x.slot0State = 3 ∧ x.slot1State = 1 then 1 else 0xFF

/-- Put lifecycle state and active slot into their entries (R471). -/
def State.showFuses (s : State) : State :=
  (s.setNat 0xC000 0x01 s.security.lifecycle).setNat 0xC000 0x05 s.security.activeSlot

/-- The owner slots and the revocation after a command's fuses have been burned (R453, R454). -/
def SecurityX.burnSlots (x : SecurityX) (code : Nat) (d0 d1 : List Byte) : SecurityX :=
  if code = 1 then
    let x := { x with slot0 := d0, slot0State := 1 }
    if d1.isEmpty then x else { x with slot1 := d1, slot1State := 1 }
  else if code = 3 then
    { x with slot0 := List.replicate 48 0xFF, slot1 := List.replicate 48 0xFF, slot0State := 3, slot1State := 3, seedBlown := true }
  else if code = 4 then { x with slot0State := 3 }
  else x

/-- The lifecycle groups after a command's group has been burned, with so many fuses in its last one (R453, R454). -/
def SecurityX.burnGroups (x : SecurityX) (code last : Nat) : SecurityX :=
  let g := fun (i : Nat) => x.groups.getD i 0
  if code = 1 then { x with groups := [max (g 0) last, g 1, g 2] }
  else if code = 2 then { x with groups := [g 0, max (g 1) last, g 2] }
  else if code = 3 then { x with groups := [8, 8, max (g 2) last] }
  else x

/-- A burn that the device's stop cut short: how far it had come is open; a lifecycle group once begun is completed by the next cold start
(R454). -/
def SecurityX.cutBurn (x : SecurityX) : SecurityX :=
  match x.burning with
  | none => x
  | some (code, d0, d1) =>
    let x := { x with burning := none }
    let far := (Config.burnCut x.challenge).val
    if far = 0 then x
    else if far = 1 then (if code = 1 then { x with slot0 := d0, slot0State := 2 } else x)
    else if far = 2 then x.burnSlots code d0 d1
    else (x.burnSlots code d0 d1).burnGroups code 1

/-- A new challenge: the old one and a held response are gone (R466). -/
def State.newChallenge (s : State) : State :=
  { s with security := { s.security with challenge := s.security.challenge + 1, challengeRead := false, heldResponse := none } }.setNat
    0xC040 0x09 0

/-! ## Authentication (18 R457, R458) -/

/-- The status of an owner slot's image: 0 absent, 1 authenticated, 2 failed, 3 below the floor. Unsigned images pass in BLANK while debug is
OPEN; DECOMMISSIONED takes none (R452, R458). -/
def State.ownerStatus (s : State) (o : Bool × Bool × Nat) : Nat :=
  let blank := s.lifecycle == 0
  if !o.1 then 0
  else if s.lifecycle = 3 then 2
  else if blank && s.debugState != 2 then 2
  else if !blank && (!o.2.1 || s.security.activeSlot == 0xFF) then 2
  else if o.2.2 < s.nat 0xC030 0x04 then 3
  else 1

/-- The three owner slots as found; a slot not named is absent. -/
def ownerSlots (run : StartRun) : List (Bool × Bool × Nat) := (items 3).map (fun i => run.owners.getD i (false, false, 0))

/-- The base image passes: its signature verifies and its security version has reached the floor (R457). -/
def State.basePasses (s : State) (run : StartRun) : Bool := run.baseSigned && decide (s.nat 0xC030 0x03 ≤ run.baseSecurity)

/-- The base image and the owner slots are read and authenticated: versions, status and failures (R457, R458). -/
def State.authenticate (s : State) (run : StartRun) : State :=
  let owners := ownerSlots run
  let base := if !run.baseSigned then 2 else if s.basePasses run then 1 else 3
  let states := owners.map s.ownerStatus
  let bytes := toBytes 2 run.baseSecurity ++ toBytes 1 base ++ toBytes 1 0 ++
    ((owners.zip states).map (fun o => toBytes 2 o.1.2.2 ++ toBytes 1 o.2 ++ toBytes 1 0)).flatten
  let s := (s.setBlob 0xC030 0x07 bytes).addSat 0xC030 0x06 32 ((base :: states).filter (fun x => decide (2 ≤ x))).length
  if base ≠ 1 then s
  else
    let s := (s.setNat 0x1000 0x04 run.fwVersion).setNat 0x1000 0x05 run.layout
    (s.setNat 0xC030 0x01 run.fwVersion).setNat 0xC030 0x02 run.baseSecurity

/-! ## Failure and escalation (R473, R477, R478) -/

/-- A start type is warm (R472). -/
def warmType (t : Nat) : Bool := t == 2 || t == 3

/-- Count a failed start and keep its cause (R477, R478). -/
def State.countFailure (s : State) (step cause source ms : Nat) : State :=
  let t := s.nat 0xD000 0x02
  let s := s.setBlob 0xD000 0x06 (toBytes 1 t ++ toBytes 1 step ++ toBytes 1 cause ++ toBytes 1 0 ++ toBytes 2 source ++
    toBytes 2 (min ms 65535))
  let i := if warmType t then 0x03 else 0x04
  s.setNat 0xD000 i (min 3 (s.nat 0xD000 i + 1))

/-- The running start fails: it waits 10 ms for what follows (R473, R477). -/
def State.failStart (s : State) (cause source : Nat) : State :=
  let t := s.nat 0xD000 0x02
  let s := s.countFailure (s.nat 0xD000 0x0A) cause source ((s.now - s.start.since) / 1000000)
  { s with start := { s.start with run := none, retry := some t, holding := false, holdOver := false } }.setNat 0xD000 0x0A 0

/-- A start runs: one of its steps is going on (R474, R485). -/
def State.startRuns (s : State) : Bool := s.start.run.isSome

/-- A detection or a check that fails the start (R473, R474): cause and source of R478. -/
abbrev StartFault := Option (Nat × Nat)

/-! ## The dictionary image (R482) -/

/-- The entries an image holds: every RW entry kept on a warm start but the owner keys, and the baselines (R482). -/
def inImage (idx sub : Nat) : Bool :=
  match findEntry idx sub with
  | some e => (e.acc == .rw && e.kept && idx != 0xC010) || (decide (0x2400 ≤ idx ∧ idx < 0x2460) && sub == 0x0D)
  | none => false

/-- Entries of an image or a mirrored commit that act when they take effect: quieting of a lane and a time base's steering; the record of a
module is kept as its last copy (03 R78; 04 R108; 11 R301; log entry 64). -/
def imageCommand (s : State) (v : OdValue) : State :=
  let i := v.index
  let b := byteAt v.bytes 0
  if 0x2000 ≤ i ∧ i < 0x2064 then
    let l := if i < 0x2060 then i - 0x2000 else i - 0x2060 + 96
    if v.sub = 0x16 then s.quietTransmit l b else if v.sub = 0x17 then s.quietReceive l (b == 1) else s
  else if 0x2100 ≤ i ∧ i < 0x2160 ∧ v.sub = 0x0F then s.setBlob i 0x0F v.bytes
  else if 0x6000 ≤ i ∧ i < 0x6008 ∧ v.sub = 0x0F then (s.setReg i 0x0F (numOf .i32 v.bytes)).applySteering (i - 0x6000)
  else s

/-- The valid image with the higher sequence: its layout is the device's and its check matches (R482). -/
def State.newestImage (s : State) (aOk bOk : Bool) : Option StoredImage :=
  let ok := fun (x : Option StoredImage) (c : Bool) => x.filter (fun y => c && y.layout == s.nat 0x1000 0x05)
  match ok s.start.imageA aOk, ok s.start.imageB bOk with
  | some a, some b => some (if b.sequence < a.sequence then a else b)
  | some a, none => some a
  | none, b => b

/-- Step 9: the image is restored as one commit, or the device stays on defaults (R482). -/
def State.restoreImage (s : State) (run : StartRun) : State :=
  let w : Writer := { who := 254 }
  match s.newestImage run.imageAOk run.imageBOk with
  | none => s.setNat 0xD000 0x11 (if s.start.imageA.isNone ∧ s.start.imageB.isNone then 0 else 2)
  | some x =>
    let s := s.setNat 0xD000 0x12 x.sequence
    if !s.flag 0xD000 0x14 then s
    else match s.firstFailing w x.values imageCommand with
      | some (v, f) => (s.setNat 0xD000 0x11 3).setNat 0xD000 0x13 (v.index * 65536 + v.sub * 256 + f.code)
      | none => (s.commitNow w x.values imageCommand).setNat 0xD000 0x11 1

/-! ## Steps of a cold start (R475) -/

/-- What outlives a cold start: the hub clock, fuses, flash, the log and its register while PD9 stays powered, the counts of PD9, the pins as they
stand outside, and the commands that wait (R391, R401, R477). -/
def State.coldBase (s : State) : State :=
  let fuses := s.security.cutBurn
  let keep : State := { State.reset with
    now := s.now
    pending := s.pending
    ports := s.ports.remap {} (fun _ x => { modulePresent := x.modulePresent, torn := x.torn })
    errNHold := s.errNHold || !s.errN
    log := s.log, logRead := s.logRead, firstFault := s.firstFault, safeRecord := s.safeRecord
    bankDraws := s.bankDraws
    twin := { State.reset.twin with holdIn := s.twin.holdIn, cricketOut := s.twin.cricketOut, cricketFrames := s.twin.cricketFrames }
    security := { State.reset.security with
      groups := fuses.groups, slot0 := fuses.slot0, slot1 := fuses.slot1
      slot0State := fuses.slot0State, slot1State := fuses.slot1State, seedBlown := fuses.seedBlown
      challenge := fuses.challenge }
    start := { State.reset.start with
      since := s.now, imageA := s.start.imageA, imageB := s.start.imageB, timingBankLost := s.start.timingBankLost } }
  let a := [(0x1000, 0x02), (0x1000, 0x06), (0xC030, 0x03), (0xC030, 0x04), (0xD000, 0x02), (0xD000, 0x03), (0xD000, 0x04)].foldl
    (fun a k => a.setReg k.1 k.2 (s.reg k.1 k.2)) keep
  [(0x1000, 0x03), (0xC050, 0x01), (0xC050, 0x02), (0xD000, 0x06)].foldl (fun a k => a.setBlob k.1 k.2 (s.blob k.1 k.2)) a

/-- Step 2: fuse reload: a group with 1 to 7 fuses blown is completed first; TWIN_ID is sampled (R475; 18 R454). -/
def State.coldFuses (s : State) (run : StartRun) : State :=
  let s := { s with security := { s.security with groups := s.security.groups.map (fun n => if n = 0 then 0 else 8) } }
  let s := (s.showFuses.setNat 0x1000 0x09 (run.twinId % 2)).newChallenge
  s.setNat 0xC040 0x01 (if s.lifecycle = 0 then 2 else 0)

/-- The code that a cold start loads at a place: measured when the resistor reads good, else the factory trim of the fuse store (13 R335). -/
def State.coldCode (s : State) (place : Nat) : Nat :=
  if s.nat 0x8000 0x05 = 0 then (Config.analogTrim place 0).val else (Config.factoryTrim place).val

/-- Step 6: the resistor is measured, hub trims are applied, every synthesizer runs (R475; 12 R315; 13 R335, R336). -/
def State.coldSynthesis (s : State) (run : StartRun) : State :=
  let s := s.measureResistor run.resistor
  let s := { s with analog := (items 8).foldl (fun m k =>
    Sparse.set 0 (Sparse.set 0 m (32 + k) (s.coldCode (32 + k))) (48 + k) (s.coldCode (48 + k))) s.analog }
  ((items 8).foldl (fun a k => (a.putBit (0x7040 + k) 0x02 0 true).putBit (0x7040 + k) 0x02 2 (k % 2 == 0)) s).startClocks

/-- The analogue trims of every lane and lane PLL are measured and applied, or loaded as the factory left them (R475 step 7; 13 R335, R336). -/
def State.coldTrims (s : State) : State :=
  let s := { s with analog := (items 24).foldl (fun m c => Sparse.set 0 m c (s.coldCode c)) s.analog }
  (items 100).foldl (fun a l =>
    let code := fun (j : Nat) => s.coldCode (256 + 8 * l + j)
    let a := (items 3).foldl (fun b j => b.setNat (0x8100 + l) (j + 1) (code j)) a
    a.setBlob (0x8100 + l) 0x04 ((items 3).map (fun j => BitVec.ofNat 8 (code (3 + j))))) s

/-- Step 7: the region domains are switched on in order; one that does not come up, and what fails its BIST, is raised and fenced (R479). -/
def State.coldRegions (s : State) (run : StartRun) : State × StartFault :=
  let up := fun (g : Nat) => run.suppliesUp.testBit g
  let s := (items 8).foldl (fun a g => { a with domains := setBit a.domains g (up g) }) s
  let down := (items 8).filter (fun g => !up g)
  let bist := run.bistRegions.filter (fun n => decide (576 ≤ n ∧ n < 1024) && !reservedSource n)
  let s := (down.map (fun g => 768 + 32 * g + 27) ++ bist).foldl (fun (a : State) n => a.raise n 0) s
  let (s, bad) := s.collect []
  let s := down.foldl (fun (a : State) g => a.fenceItem .region g (768 + 32 * g + 27)) s
  match bad with
  | some n => (s, some (5, n))
  | none => (s.coldTrims, none)

/-- The server and the engines start from what has been authenticated; engines named in C040h.08 wait under Hb (R475 step 8; 18 R465). -/
def State.startServer (s : State) : State :=
  let s := { s with start := { s.start with server := true } }
  (items 16).foldl (fun a e =>
    let hb := a.debugState == 2 && (a.nat 0xC040 0x08).testBit e
    let a := a.setEngine e { a.engine e with atEntry := hb, running := a.nat (0xB000 + e) 0x01 }
    if a.engineFenced e then a else a.setNat (0xB000 + e) 0x02 1) s

/-- LOCAL_OSC in Hz, and what the hub PLL makes of it: 1.0 GHz from either (02 R36; 20 R493). -/
def StartX.oscHz (x : StartX) : Nat := if x.osc25 then 25000000 else 10000000
def StartX.hubHz (x : StartX) : Nat := x.oscHz * (if x.osc25 then 40 else 100)

/-- One step of a cold start, 2 to 9 (R475). At step 3 OSC_SEL is sampled (20 R493). -/
def State.coldStep (s : State) (run : StartRun) (n : Nat) : State × StartFault :=
  if n = 2 then (s.coldFuses run, none)
  else if n = 3 then ({ s with
      domains := setBit s.domains 8 true
      epochAt := s.now
      start := { s.start with osc25 := run.oscSelect } }, if run.hubPll then none else some (4, 0xFFFF))
  else if n = 4 then (s, run.bistHub.map (fun f => (3, f)))
  else if n = 5 then
    let ok := s.basePasses run
    (s.authenticate run, if ok then none else some (2, 0xFFFF))
  else if n = 6 then (s.coldSynthesis run, none)
  else if n = 7 then s.coldRegions run
  else if n = 8 then (s.startServer, none)
  else if n = 9 then (s.restoreImage run, none)
  else (s, none)

/-! ## Steps of a warm start (R476) -/

/-- A warm reset of one numeric entry: kept, reset to its default, or what its status layout says (09 R254; 12 R333; 13 R347; 15 R404).
The debug state is CLOSED where a grant was open, and stands otherwise, OPEN of a blank part too (DESIGN CHOICE, log entry 106: 18 R471 gives the
default "2 in BLANK" and keeps nothing, R466 says CLOSED). -/
def warmValue (s : State) (k : Nat) (v : Int) : Int :=
  let i := k / 256
  let sub := k % 256
  if 0x6000 ≤ i ∧ i < 0x6008 ∧ sub = 0x04 then
    (1 + 8 * ofBool (v.toNat.testBit 4) + 16 * ofBool (v.toNat.testBit 4) + 32 * ofBool (v.toNat.testBit 5) : Nat)
  else if 0x7040 ≤ i ∧ i < 0x7048 ∧ sub = 0x02 then (v.toNat % 16 : Nat)
  else if 0x8100 ≤ i ∧ i < 0x8164 ∧ sub = 0x0A then (8 + 4 * ofBool (v.toNat.testBit 2) : Nat)
  else if i = 0x1000 ∧ sub = 0x08 then v
  else if i = 0xA000 ∧ sub = 0x07 then v
  else if 0x9100 ≤ i ∧ i < 0x9160 ∧ sub = 0x03 then (s.idleCover (i - 0x9100) : Nat)
  else if i = 0xC040 ∧ sub = 0x01 then (if s.debugState = 1 then 0 else v)
  else if keptOnWarm k then v
  else regDefault k

/-- Every dictionary entry at its value after a warm reset (00_scope.md R11). -/
def State.warmEntries (s : State) : State :=
  { s with
    regs := s.regs.foldl (fun m e => Sparse.set (regDefault e.1) m e.1 (warmValue s e.1 e.2)) []
    blobs := s.blobs.foldl (fun m e => if keptOnWarm e.1 then Sparse.set (blobDefault e.1) m e.1 e.2 else m) [] }

/-- Step 1: sessions close, a lead hands over, set time bases and the frequency selector go to holdover (R476; 11 R309; 18 R466, R470). -/
def State.warmBegin (s : State) (type : Nat) (run : StartRun) : State :=
  let s := s.setRunState 1
  let s := (items 8).foldl State.closeSession s
  let s := { s with commits := [] }
  let s := s.leaveService.endGrant
  let s := (items 8).foldl (fun a k => if a.tbSet k && a.servo k != 4 then a.timeHoldover k else a) s
  let s := { s with freqSwitching := false, freqLog := [] }.setFrequency
    (if s.freqHeld then s.reg 0x7010 0x08 else s.reg 0x7010 0x0D)
  let s := ({ s with security := { s.security with pendingBy := none } }.setNat 0xC000 0x04 0).newChallenge
  { s with start := { s.start with since := s.now, run := some run, retry := none, holding := false, holdOver := false, settling := false, server := false } }.setNat
    0xD000 0x02 type

/-- The gate lists a warm start keeps become administrative ones again (07 R202). -/
def State.warmGates (s : State) : State :=
  let s := { s with
    egress := []
    gates := s.gates.remap {} (fun _ x => { pending := x.list }) }
  (items 96).foldl (fun a p =>
    let b := a.blob (0x4010 + p) 0x03
    if b.isEmpty then a
    else
      let list := parseGateList b
      (a.setEg p { a.eg p with pending := some list, pendingAt := list.startAfter ((a.tb0Ns : Int) + 10000) }).setNat (0x4010 + p) 0x05 1) s

/-- Step 2: lanes, islands, pools and queues, the forwarding database, calibration shadows and the capture ring (R476).
The polarity found on a lane goes with it (03 R66; DESIGN CHOICE, log entry 120). -/
def State.warmIslands (s : State) : State :=
  let pending := fun (l : Nat) => s.bit (0x8100 + l) 0x0A 2
  let s := ((items 96).foldl State.holdBuffer s).warmEntries
  let s := { s with
    lanes := [], timing := s.timing.remap {} (fun _ x => { causes := keptCauses x.causes, heldBuffer := x.heldBuffer })
    ports := s.ports.remap {} (fun _ x => if x.modulePresent then { modulePresent := true, recordAsymmetry := x.recordAsymmetry, torn := x.torn } else { torn := x.torn })
    queues := [], rx := [], frameCount := [], overflowed := [], flights := [], crossings := [], pllLost := 0
    regions := s.regions.remap {} (fun _ x => { withdrawn := x.withdrawn, bankTaken := x.bankTaken, bankReturn := x.bankReturn })
    streams := s.streams.remap 0 (fun _ e => setBit e 33 false)
    fdb := [], invalid := [], folding := 0, busQueue := [], drains := [], lastDrain := none, learns := [], learnRate := (0, 0)
    frer := s.frer.remap {} (fun _ x => { x with recent := none, seen := 0 })
    contractX := s.contractX.remap {} (fun _ x => { awaiting := x.awaiting })
    breaches := []
    replicas := s.replicas.remap {} (fun _ x => { delay := x.delay, newDelay := x.newDelay })
    detectors := s.detectors.remap {} (fun _ x => { offset := x.offset, gain := x.gain })
    analogShadow := []
    slots := s.slots.remap {} (fun _ x => { pinPresent := x.pinPresent })
    captures := s.captures.remap {} (fun _ x => { x with vernierShadow := none })
    trims := s.trims.remap {} (fun l x => { x with timing := none, spanned := false, signal := if pending l then x.signal else none })
    fireflies := s.fireflies.remap {} (fun _ x => { x with vernierShadow := none })
    roundRuns := false, roundDue := none
    twin := { State.reset.twin with holdIn := s.twin.holdIn, cricketNumber := s.twin.cricketNumber, cricketOut := s.twin.cricketOut, cricketFrames := s.twin.cricketFrames }
    masks := s.masks.filter (fun m => s.fences.contains m), windows := []
    perf := [], overflow := 0, clearPending := false, regionSample := 0, regionClear := 0, epochAt := s.now, monitorPending := 0, monitorFirst := 65535
    monitors := (items 16).foldl (fun m k => Sparse.set {} m k
      { source := s.nat (0xE000 + k) 0x01, item := s.nat (0xE000 + k) 0x02, threshold := s.nat (0xE000 + k) 0x03, thread := s.nat (0xE000 + k) 0x04 }) [] }
  let s := (items 96).foldl (fun a p => if a.portFenced p then a.setNat (0x2100 + p) 0x03 3 else a) s
  let s := (items 8).foldl (fun a g =>
    let a := a.judgePool g
    if a.regionFenced g then (a.setCrossing (24 + g) { discard := true }).moveRings g none else a) s
  let s := (items 24).foldl (fun a c => if a.clusterFenced c then a.setCrossing c { discard := true } else a) s
  let s := ((s.setNat 0x7010 0x02 4).warmGates).overwriteRing
  s.judgeClocks

/-- Step 3: every engine is block-reset, its detectors masked; a fenced one stays fenced (R476; 15 R392; 17 R436, R438). -/
def State.warmEngines (s : State) : State :=
  let s := (items 16).foldl (fun a e => (a.mask .engine e).resetEngine e (if a.engineFenced e then 5 else 4)) s
  let s := { s with rings := s.rings.remap {} (fun _ x => { toHub := x.toHub, fromHub := x.fromHub }) }
  s.judgeSubstitutes

/-- Step 6: calendars are rebuilt from the kept contracts; one that no longer admits is set to state 0 and reported (08 R222). -/
def State.rebuildCalendars (s : State) : State :=
  (s.reservedList.foldl (fun (a : State × List Nat) i =>
    let why := a.1.admission i a.2
    if why = 0 then (a.1, a.2 ++ [i])
    else
      let b := (a.1.putContractState i 0).setContractAt i { a.1.contractAt i with awaiting := [] }
      ((b.setNat 0x5000 0x03 i).setNat 0x5000 0x04 why, a.2)) (s, [])).1

/-- One step of a warm start, 2 to 6 (R476). -/
def State.warmStep (s : State) (run : StartRun) (n : Nat) : State × StartFault :=
  if n = 2 then (s.warmIslands, none)
  else if n = 3 then (s.warmEngines, none)
  else if n = 4 then
    let ok := s.basePasses run
    (s.authenticate run, if ok then none else some (2, 0xFFFF))
  else if n = 5 then (s.startServer, none)
  else if n = 6 then (s.rebuildCalendars, none)
  else (s, none)

/-! ## Completion (R475 step 10, R476 step 7) -/

/-- TB0 to TB7 start at zero, unset (09 R228). -/
def State.startTimeBases (s : State) : State :=
  (items 8).foldl (fun a k => a.setTb k { a.tb k with count := 0, running := true }) s

/-- A cold start completes: module resets go, and the time bases start (R104, R475). -/
def State.completeCold (s : State) : State :=
  let s := (items 24).foldl (fun a c => a.judgeModReset c) { s with modResetWait := 0 }
  s.startTimeBases

/-- Every module present in a cage with a type is read (04 R101). -/
def State.readModules (s : State) : State :=
  (items 96).foldl (fun a p =>
    if (a.port p).modulePresent ∧ a.nat (0x2100 + p) 0x08 ≠ 0 then a.startRead p else a) s

/-- Completion: fabric, run state, ERR_N, lanes, modules and the first calibration round (R475, R476). The twin role is 3 (14 R356). -/
def State.completeStart (s : State) (run : StartRun) : State :=
  let warm := warmType (s.nat 0xD000 0x02)
  let s := if warm then s else s.completeCold
  let s := { s with start := { s.start with fabric := true, run := none, settling := true } }
  let s := (s.setNat 0xD000 0x0A 0).setNat 0xD000 0x0B (min ((s.now - s.start.since) / 1000000) (2 ^ 32 - 1))
  let s := (s.setRunState (if s.fences.isEmpty then 2 else 3)).judgeErrN
  let s := (items 100).foldl State.laneStart s
  let s := (s.readModules.refsUpdate).judgeClocks
  s.startRound run.resistor run.lineDelays

/-! ## Running the steps -/

/-- The last step before completion: 9 or 6, after which a configuration hold waits (R480). -/
def lastStep (type : Nat) : Nat := if warmType type then 6 else 9

/-- Run the steps from `n` on, up to those that this command carries out; a failure ends the start, a hold interrupts it (R473, R475, R476,
R480). -/
def State.runSteps (s : State) (run : StartRun) (upTo : Nat) : Nat → List Nat → State
  | _, [] => s
  | last, n :: l =>
    let s := s.setNat 0xD000 0x0A n
    if upTo < n then s
    else if last < n then s.completeStart run
    else
      let (s, bad) := if last = 6 then s.warmStep run n else s.coldStep run n
      match bad with
      | some (c, f) => s.failStart c f
      | none =>
        if n = last ∧ s.flag 0xD000 0x07 then { s with start := { s.start with holding := true } }
        else s.runSteps run upTo last l

/-- Begin a cold start of a type: a lead in service hands over; t0 of R475, the collector and the pins at their start values, then its steps (R472,
R475; 14 R357). -/
def State.beginCold (s : State) (type : Nat) (run : StartRun) : State :=
  let s := if s.isUp then s.leaveService else s
  let s := s.coldBase.setNat 0xD000 0x02 type
  { s with start := { s.start with run := some run } }.runSteps run run.reached 9 [2, 3, 4, 5, 6, 7, 8, 9, 10]

/-- Begin a warm start of a type (R472, R476). -/
def State.beginWarm (s : State) (type : Nat) (run : StartRun) : State :=
  (s.warmBegin type run).judgeErrN.runSteps run run.reached 6 [2, 3, 4, 5, 6, 7]

/-- A chip reset or a host's command while the device is in service: a last start that has not settled counts as failed, and a third failure
escalates at once (R473, R477). -/
def State.warmStart (s : State) (type : Nat) (run : StartRun) : State :=
  if !s.isUp then s
  else if !s.start.settling then s.beginWarm type run
  else
    let t := s.nat 0xD000 0x02
    let s := s.countFailure (if warmType t then 7 else 10) 6 0xFFFF (s.nat 0xD000 0x0B)
    if warmType t ∧ s.nat 0xD000 0x03 = 3 then (s.setNat 0xD000 0x03 0).beginCold 4 run
    else if !warmType t ∧ s.nat 0xD000 0x04 = 3 then s.enterSafe none none
    else s.beginWarm type run

/-- A start that stands between its steps goes on; one in a hold or one that waits after a failure does not. -/
def State.continueStart (s : State) : State :=
  match s.start.run with
  | none => s
  | some run =>
    if s.start.holding ∨ s.isUp then s
    else
      let n := s.nat 0xD000 0x0A
      let warm := warmType (s.nat 0xD000 0x02)
      let steps := (if warm then [2, 3, 4, 5, 6, 7] else [2, 3, 4, 5, 6, 7, 8, 9, 10]).filter (fun k => decide (n ≤ k))
      s.runSteps run 10 (if warm then 6 else 9) steps

/-- The configuration hold ends, and the start completes (R480). -/
def State.endHold (s : State) : State :=
  match s.start.run with
  | none => s
  | some run =>
    if !s.start.holding then s
    else
      let last := lastStep (s.nat 0xD000 0x02)
      { s with start := { s.start with holding := false, holdOver := false } }.runSteps run 10 last [last + 1]

/-! ## Reactions that start anew, and what follows a change of fences -/

/-- A refused commit of the mirror is tried again: when it passes now it is applied and acknowledged, and with none left the mirror is in step (14
R366). -/
def State.retryOne (s : State) (values : List OdValue) : State :=
  let w : Writer := { who := 253 }
  match s.judgeNow w values imageCommand with
  | some _ => s
  | none =>
    let t := s.commitNow w values imageCommand
    let (passed, left) := t.twin.refusedMirror.partition (fun m => m.values == values)
    let t := passed.foldl (fun (a : State) (m : MirrorCommit) => a.sendControl 1 m.epoch) { t with twin := { t.twin with refusedMirror := left } }
    if left.isEmpty && t.nat 0x9000 0x0C == 3 then t.setMirror 2 else t

/-- The refused mirrored commits are tried again at a fence change; with the last one the mirror is in step (14 R366). -/
def State.retryMirror (s : State) : State :=
  if s.twin.refusedMirror.isEmpty ∨ s.isSafe then s
  else
    s.twin.refusedMirror.foldl (fun a m =>
      let c : PendingCommit := { session := 253, values := m.values }
      if a.commits.contains c then a
      else if a.mustWait m.values then { a with commits := a.commits ++ [c] }
      else a.retryOne m.values) s

/-- One cycle of the collector with what follows it: a chip reset, which during a start fails it, and the mirror's retry where a fence has
changed (15 R387; R472 type 2, R474; 14 R366). -/
def State.collectorCycle (s : State) (host : List Taken) (run : StartRun) : State :=
  let was := s.fences
  let (s, chip) := s.collect host
  match chip with
  | none => if s.fences = was then s else s.retryMirror
  | some n => if s.isUp then s.warmStart 2 run else if s.startRuns then s.failStart 5 n else s

/-! ## The commands -/

/-- POWER_UP: the PD9 supply comes into range: a cold start of type 0, with the cold count at 0 (R472, R477). -/
def execPowerUp (run : StartRun) (s : State) : Outcome State Fault Refusal :=
  let fresh := decide (s.runState = 0) && s.start.run.isNone && s.start.retry.isNone && !s.start.inReset
  .next (if s.start.powered && !fresh then s
    else ({ s with start := { s.start with powered := true, inReset := false } }.setNat 0xD000 0x04 0).beginCold 0 run)

/-- RESET_N_ASSERT: the device is in reset; a running start is abandoned and not counted (R472, R484). -/
def execResetNAssert (s : State) : Outcome State Fault Refusal :=
  .next (if !s.start.powered then s
    else
      let s := s.coldBase
      { s with start := { s.start with inReset := true } })

/-- RESET_N_RELEASE: after at least 10 µs low a cold start of type 1 begins, with the cold count at 0 (R472, R477, R484). -/
def execResetNRelease (run : StartRun) (s : State) : Outcome State Fault Refusal :=
  .next (if s.start.inReset then (s.setNat 0xD000 0x04 0).beginCold 1 run else s)

/-- The device is powered, out of reset and not in SAFE: its collector works (R475; 15 R381). -/
def State.collects (s : State) : Bool := s.start.powered && !s.start.inReset && !s.isSafe

/-- REGION_SUPPLY_TIMEOUT: a region's supply is not in range within 2.0 ms of its switch closing: its source is raised and it is fenced, and a
start goes on (R479). -/
def execRegionSupplyTimeout (g : RegionId) (run : StartRun) (s : State) : Outcome State Fault Refusal :=
  .next (if !s.collects then s
    else
      let source := 768 + 32 * g.val + 27
      let s := (s.raise source 0).collectorCycle [] run
      if s.isSafe then s else s.fenceItem .region g source)

/-- START_COMMAND: a host begins a warm start of type 3; refused with 14h outside RUN and DEGRADED (R472). -/
def execStartCommand (role : Role) (run : StartRun) (s : State) : Outcome State Fault Refusal :=
  .next (s.hostWrite role 0xD000 0x01 fun s => if s.isUp then s.done.warmStart 3 run else s.answer 0x14 s.runState)

/-- START_STEP_TIMEOUT: the running step passes its limit: the start fails (R473); a hold has a limit of its own (R480). -/
def execStartStepTimeout (s : State) : Outcome State Fault Refusal :=
  .next (if s.startRuns ∧ !s.start.holding then s.failStart 1 0xFFFF else s)

/-- START_RETRY: 10 ms after a failed start: the next warm or cold start, or SAFE after the third failed cold start (R477). -/
def execStartRetry (run : StartRun) (s : State) : Outcome State Fault Refusal :=
  .next (match s.start.retry with
    | none => s
    | some t =>
      if s.isSafe then s
      else if warmType t then
        (if s.nat 0xD000 0x03 < 3 then s.beginWarm 2 run else (s.setNat 0xD000 0x03 0).beginCold 4 run)
      else if s.nat 0xD000 0x04 < 3 then s.beginCold t run
      else s.enterSafe none none)

/-- SETTLE_TIME_EXPIRY: the settle time has passed in RUN or DEGRADED: both counts return to 0 (R477). -/
def execSettleTimeExpiry (s : State) : Outcome State Fault Refusal :=
  .next (if s.isUp ∧ s.start.settling then
      ({ s with start := { s.start with settling := false } }.setNat 0xD000 0x03 0).setNat 0xD000 0x04 0
    else s)

/-- RELEASE_HOLD: a host ends the configuration hold (R480). -/
def execReleaseHold (role : Role) (s : State) : Outcome State Fault Refusal :=
  .next (s.hostWrite role 0xD000 0x09 fun s => s.done.endHold)

/-- HOLD_LIMIT_EXPIRY: the hold ends; where a commit waits, at its commit point (R480, R484). -/
def execHoldLimitExpiry (s : State) : Outcome State Fault Refusal :=
  .next (if !s.start.holding then s
    else if s.commits.isEmpty then s.endHold
    else { s with start := { s.start with holdOver := true } })

/-- The image of the settings in force, at the next sequence (R482). -/
def State.makeImage (s : State) (sequence : Nat) : StoredImage :=
  { sequence := sequence, layout := s.nat 0x1000 0x05, values := s.imageOf inImage s.setting }

/-- IMAGE_SAVE: the image goes to the slot that does not hold the newest valid one; a failed save spoils that slot alone (R482). -/
def execImageSave (role : Role) (readBackOk : Bool) (s : State) : Outcome State Fault Refusal :=
  .next (s.hostWrite role 0xD000 0x10 fun s =>
    let newest := s.newestImage true true
    let n := (((newest.map (·.sequence)).getD 0) + 1) % 2 ^ 32
    let saved := if readBackOk then some (s.makeImage n) else none
    let toB := newest.isSome && newest == s.start.imageA
    let s := { s with start := (if toB then { s.start with imageB := saved } else { s.start with imageA := saved }) }
    if readBackOk then ((s.setNat 0xD000 0x11 4).setNat 0xD000 0x12 n).done else (s.setNat 0xD000 0x11 5).done)

/-- IMAGE_ERASE: both slots are erased (R482). -/
def execImageErase (role : Role) (s : State) : Outcome State Fault Refusal :=
  .next (s.hostWrite role 0xD000 0x10 fun s =>
    ({ s with start := { s.start with imageA := none, imageB := none } }.setNat 0xD000 0x12 0).done)

/-- POWER_REMOVAL: power goes from the device, PD9 with it: log, first-fault register, safe-state record and failure counts are cleared; fuses and
flash stay (15 R391, R395; R477). -/
def execPowerRemoval (s : State) : Outcome State Fault Refusal :=
  .next (let b := s.coldBase
    let b := { b with log := [], logRead := 0, firstFault := none, safeRecord := none, domains := 0, errNHold := true }
    let b := ((b.setNat 0xD000 0x02 0).setNat 0xD000 0x03 0).setNat 0xD000 0x04 0
    { b.setBlob 0xD000 0x06 [] with start := { b.start with powered := false } })

end Sys2Proof.Machine
end

