-- ==== Sys2Proof/Machine/Faults.lean ====
section
/-! DEFINITION. The commands of the fault collector, of fences and of the supplies (15_faults.md R380 to R404; 20_pins_and_electrical.md R491,
R500; 02_levels_and_islands.md R46). -/

namespace Sys2Proof.Machine

open Host (Outcome)

/-- FAULT_DETECTION: one collector cycle takes what detectors have sent: it is counted, ranked and recorded, and reactions run (R381 to R393,
R396). `run` holds the findings of a warm start that a chip reset begins. -/
def execFaultDetection (detections : List Detection) (run : StartRun) (s : State) : Outcome State Fault Refusal :=
  .next (if s.collects then (s.raiseAll detections).collectorCycle [] run else s)

/-- Enter SAFE for a finding of the safe-state logic: without ranking and without a log record (R394, R395). Severity 7 and cause FFFFh are a
DEDUCED reading, log entry 65. -/
def State.selfFault (s : State) (source : Nat) : State :=
  if !s.collects then s
  else s.enterSafe (some (s.stampFault { source := source, severity := 7, level := 4, flags := 1 })) none

/-- SELF_FAULT: FS1504 to FS1511 (R394, R395). -/
def execSelfFault (source : Fin 8) (s : State) : Outcome State Fault Refusal := .next (s.selfFault (1504 + source.val))

/-- MASK_END: two µs after a block reset or a release completes, the detectors inside the item are unmasked; a standing fence keeps its mask
(R392). -/
def execMaskEnd (level : FenceLevel) (item : Nat) (s : State) : Outcome State Fault Refusal :=
  .next (if s.hasFence level item then s else { s with masks := s.masks.filter (fun m => m != (level, item)) })

/-- The window that closes next: that of the act that completes first, of equal ones the one opened first (R393). -/
def firstToClose : List Act → Option Act
  | [] => none
  | a :: l => match firstToClose l with
    | none => some a
    | some b => some (if a.closes ≤ b.closes then a else b)

/-- CONSEQUENCE_WINDOW_CLOSE: 2 µs after an act completes, its window closes; the row names no act, so it is that of the one that completes first
(R385, R393; log entry 118). -/
def execConsequenceWindowClose (s : State) : Outcome State Fault Refusal :=
  .next (match firstToClose s.windows with
    | none => s
    | some a => { s with windows := s.windows.erase a })

/-- CLEAR_FIRST_FAULT: the first-fault register is emptied (R389). -/
def execClearFirstFault (role : Role) (s : State) : Outcome State Fault Refusal :=
  .next (s.hostWrite role 0xA000 0x02 fun s => { s with firstFault := none }.done)

/-- ACKNOWLEDGE: every record taken so far is acknowledged, and ERR_N follows (R397). -/
def execAcknowledge (role : Role) (s : State) : Outcome State Fault Refusal :=
  .next (s.hostWrite role 0xA000 0x06 fun s =>
    ({ s with log := s.log.map (fun (r : Record) => { r with flags := setBit r.flags 6 true }) }.judgeErrN).done)

/-- ERR_N_MINIMUM_EXPIRY: ERR_N may deassert (R397). -/
def execErrNMinimumExpiry (s : State) : Outcome State Fault Refusal := .next { s with errNHold := false }.judgeErrN

/-! ## Fences by a host (R399, R400) -/

/-- The source of an item's own fence reach, which the record of a host fence carries (R400). -/
def hostFenceSource (l : FenceLevel) (i : Nat) : Nat :=
  match l with
  | .port => 6 * i
  | .timestampUnit => 6 * i + 3
  | .detector => if i % 5 = 4 then 576 + 8 * (i / 5) + 5 else 6 * (4 * (i / 5) + i % 5) + 4
  | .bank => 768 + 32 * (i / 16) + i % 16
  | .cluster => 576 + 8 * i
  | .region => 768 + 32 * i + 26
  | .engine => 1104 + 4 * i

/-- The record of a host fence: severity 1, cause FFFEh, fence applied (R390, R400). -/
def State.hostRecord (s : State) (l : FenceLevel) (i : Nat) : Taken :=
  let n := hostFenceSource l i
  { record := s.stampFault { source := n, severity := 1, level := levelOfSource n, flags := 8, cause := 0xFFFE }
    act := some (actOn 0xFFFE l i) }

/-- A stall of the item's own island that waits in its crossing: it meets the fence in the fence's cycle (02 R49). -/
def ownStall (l : FenceLevel) (i : Nat) (m : Message) : Bool := stallKind m.source && insideItem l i m.source

/-- HOST_FENCE: a host with OWN fences an item: its record is written in a cycle of its own, with a stall of the item's own island as consequential, then
the item is cut away (R388, R393, R400; 02 R49). An item that is already fenced stays as it is. -/
def execHostFence (role : Role) (level : FenceLevel) (item : Nat) (s : State) : Outcome State Fault Refusal :=
  .next (s.hostWrite role 0xA010 0x07 fun s =>
    if levelItems level ≤ item then s.outOfRange 0x07
    else if s.hasFence level item then s.done
    else
      let waiting := s.messages.filter (fun m => !ownStall level item m)
      let (t, _) := { s with messages := s.messages.filter (ownStall level item) }.collect [s.hostRecord level item]
      let t := { t with messages := waiting ++ t.messages }.fenceItem level item 0xFFFE
      t.retryMirror.done)

/-- Why a release is refused: 1 not fenced, 3 inside a fenced item, 2 no locked member of the pair of the region's die (R399; 12 R326). -/
def State.releaseBar (s : State) (l : FenceLevel) (i : Nat) : Option Nat :=
  if !s.hasFence l i then some 1
  else if s.outerFenced l i then some 3
  else if l = .region ∧ !s.pairLocked (i / 2) then some 2
  else none

/-- FENCE_RELEASE: a host with OWN removes a fence (R399). Where a region's supply does not come into range, its source is raised and it stays
fenced (19 R479). -/
def execFenceRelease (role : Role) (level : FenceLevel) (item : Nat) (supplyUp : Bool) (s : State) : Outcome State Fault Refusal :=
  .next (match s.writeBar role .own 0xA010 0x07 with
    | some (0x04, d) => (s.setNat 0xA010 0x08 4).answer 0x04 d
    | some (c, d) => s.answer c d
    | none =>
      if levelItems level ≤ item then s.outOfRange 0x07
      else match s.releaseBar level item with
        | some why => (s.setNat 0xA010 0x08 why).ruleRefused why
        | none =>
          if level = .region ∧ !supplyUp then (s.raise (768 + 32 * item + 27) 0).done
          else (s.releaseItem level item).retryMirror.done)

/-! ## Supplies, temperatures, crossings -/

/-- A supply monitor's finding for a region: that of a domain switched off is masked (20 R491). -/
def State.regionSupply (s : State) (g : Nat) : State := if s.domains.testBit g then s.raise (768 + 32 * g + 27) 0 else s

/-- SUPPLY_OUT_OF_RANGE: the source of each domain on the rail is raised; PD9's is a self-fault (20 R491). -/
def execSupplyOutOfRange (rail : SupplyRail) (s : State) : Outcome State Fault Refusal :=
  .next (if !s.collects then s
    else match rail with
      | .portDie d => (s.regionSupply (2 * d.val)).regionSupply (2 * d.val + 1)
      | .region g => s.regionSupply g
      | .hub => if s.domains.testBit 8 then s.raise 1191 0 else s
      | .safety => s.selfFault 1508)

/-- TEMPERATURE_THRESHOLD: a die's warning or critical source is raised (20 R500; R380). -/
def execTemperatureThreshold (d : BankId) (critical : Bool) (s : State) : Outcome State Fault Refusal :=
  .next (if !s.collects then s
    else if d.val < 4 then s.raise (1024 + 16 * d.val + ofBool critical) 0
    else s.raise (1192 + ofBool critical) 0)

/-- TIMING_BANK_SUPPLY_LOSS: VDDO_T is lost and the timing bank goes to high impedance, or it returns (20 R491). -/
def execTimingBankSupplyLoss (lost : Bool) (s : State) : Outcome State Fault Refusal :=
  .next { s with start := { s.start with timingBankLost := lost } }

/-- The crossing-stall source of a crossing (R380; 02 R46). -/
def stallSource (x : Nat) : Nat := if x < 24 then 576 + 8 * x + 3 else if x < 32 then 768 + 32 * (x - 24) + 20 else 1190

/-- The side of a crossing is fenced or off: nothing is consumed there. -/
def State.crossingShut (s : State) (x : Nat) : Bool :=
  if x < 24 then s.clusterFenced x else if x < 32 then s.regionFenced (x - 24) else false

/-- STALL_LIMIT_EXPIRY: a consumer has held a packet open beyond the stall limit: the fault is raised, and E100h.04 names it (02 R46). A fence
has closed the packets of its own island; a stall that meets it is recorded as consequential or masked (02 R48, R49; 15 R392). -/
def execStallLimitExpiry (crossing : Fin 33) (s : State) : Outcome State Fault Refusal :=
  .next (if !s.isUp then s
    else
      let n := stallSource crossing
      let s := if s.crossingShut crossing then s
        else s.setCrossing crossing { s.crossing crossing with openPacket := true }
      (s.setNat 0xE100 0x04 n).raise n crossing.val)

/-! ## The hand-back of a detector (10 R265) -/

/-- The lane's own detector serves again: its timing group is applied, and the spare goes on to what waits. -/
def State.handBack (s : State) (c j : Nat) : State :=
  let d := 5 * c + j
  let s := s.applyTiming (4 * c + j)
  let s := s.setDetector d (s.detector d).rest
  let s := (s.setNat (0x2500 + c) 0x01 0xFF).assignSpare c
  ((s.judgeDetectors c).refsUpdate).calibrateNext c

/-- DETECTOR_HANDBACK: t4 of R265: means within 2 ps hand the lane back; otherwise the detector is calibrated again, and after the third failure
fenced (10 R265); one that spans a change-over is repeated (13 R345). -/
def execDetectorHandback (c : ClusterId) (j : Fin 4) (own spare : List Nat) (s : State) : Outcome State Fault Refusal :=
  let d := 5 * c.val + j.val
  let x := s.detector d
  let sum := sumApart own spare
  .next (if x.phase ≠ 3 ∨ (s.trim (4 * c.val + j.val)).timing.isNone ∨ sum.isNone then s
    else if x.spanned then s.repeatMeasure d
    else if (sum.getD 0).natAbs ≤ 2 * 1024 then s.handBack c j
    else if x.failures < 2 then s.setDetector d { x with phase := 2, failures := x.failures + 1 }
    else
      let source := 6 * (4 * c.val + j.val) + 4
      (s.fenceItem .detector d source).retryMirror)

end Sys2Proof.Machine
end

