-- ==== Sys2Proof/Machine/Synthesis.lean ====
section
/-! DEFINITION. The commands of the synthesizers, their pairs and SYNC_IN (12_synthesis.md R315 to R333). -/

namespace Sys2Proof.Machine

open Host (Outcome)

/-- What follows a change of lock: clock outputs, and the twin lanes that pair 0 feeds (12 R326, R329; 03 R73). -/
def State.afterLock (s : State) (n : Nat) : State :=
  ((if n = 0 ∧ s.synthLocked (s.working 0) then s.twinLanesRetry else s).measureSyntony).judgeClocks

/-- The phase error of the last reference cycle (R332). -/
def State.showError (s : State) (k : Nat) (ps : Int) : State := s.setReg (0x7040 + k) 0x04 (max (-32768) (min 32767 ps))

/-- SYNTH_LOCK: in so many consecutive reference cycles the error was at most the peak: within the lock window for the lock count, the member is
locked (R320). -/
def execSynthLock (k : SynthId) (cycles peak : Nat) (last : Int) (s : State) : Outcome State Fault Refusal :=
  .next (if !s.synthRuns k then s
    else
      let s := s.showError k last
      if s.synthLocked k ∨ cycles < s.nat 0x7048 0x03 ∨ s.nat 0x7048 0x02 < max peak last.natAbs then s
      else (s.judgeClocks.putBit (0x7040 + k) 0x02 1 true).afterLock (k / 2))

/-- A locked member loses lock: its last 8 errors lie outside the loss window, or its conditioner has reached ±200 ppm (R321). -/
def State.losesLock (s : State) (k : Nat) (errors : List Int) : Bool :=
  (8 ≤ errors.length && (errors.reverse.take 8).all (fun e => decide (s.nat 0x7048 0x04 < e.natAbs))) ||
    decide ((s.conditioned k).natAbs = 200000000)

/-- The working member of pair `n` has lost lock with no ready backup: both regions of its die are fenced, and without pair 0 the twin lanes run
rate-matched; the syntony terms are measured against what is left (R326). -/
def State.losePair (s : State) (n cause : Nat) : State :=
  let s := (if n = 0 then s.twinLanesRateMatched else s).measureSyntony
  ((s.fenceItem .region (2 * n) cause).fenceItem .region (2 * n + 1) cause).retryMirror

/-- SYNTH_LOCK_LOSS: errors of a locked member, oldest first: where it loses lock, that is shown, counted and raised; the pair of a working member
changes over, or its die is fenced (R321, R323, R326). -/
def execSynthLockLoss (k : SynthId) (errors : List Int) (s : State) : Outcome State Fault Refusal :=
  .next (if !s.synthLocked k ∨ !s.losesLock k errors then s
    else
      let i := 0x7040 + k.val
      let n := k.val / 2
      let source := 1088 + 2 * k.val
      let s := match errors.getLast? with
        | some e => s.showError k e
        | none => s
      let s := (((s.putBit i 0x02 1 false).putBit i 0x02 4 true).inc32 i 0x05).raise source 0
      if s.working n ≠ k.val then (((s.putBit i 0x02 2 false).putBit i 0x02 3 false).swapWasLoss n source).judgeClocks
      else if s.synthReady (otherMember k) then s.changeOver n source
      else (s.losePair n source).judgeClocks)

/-- BACKUP_READY: in so many reference cycles the backup lay at most the peak from the working member: within ±2 ps it is aligned, and a locked one
after 1,024 cycles is ready; where the working member is out of lock the pair changes over (R322, R323). -/
def execBackupReady (n : PairId) (cycles peak : Nat) (s : State) : Outcome State Fault Refusal :=
  let b := s.backup n
  .next (if !s.synthRuns b ∨ s.synthReady b ∨ 2 < peak then s
    else
      let s := s.putBit (0x7040 + b) 0x02 2 true
      if !s.synthLocked b ∨ cycles < 1024 then s
      else
      let s := s.putBit (0x7040 + b) 0x02 3 true
      if s.synthLocked (s.working n) then s
      else ((s.changeOver n (1088 + 2 * s.working n)).afterLock n))

/-- BACKUP_ALIGNMENT_LOSS: the phase of a backup, ps: outside ±2 ps it is not aligned, and a ready one stops being ready (R322). -/
def execBackupAlignmentLoss (n : PairId) (phase : Int) (s : State) : Outcome State Fault Refusal :=
  let b := s.backup n
  let i := 0x7040 + b
  .next (if phase.natAbs ≤ 2 then s
    else if !s.synthReady b then s.putBit i 0x02 2 false
    else (((s.putBit i 0x02 2 false).putBit i 0x02 3 false).putBit i 0x02 5 true).raise (1088 + 2 * b + 1) 0)

/-- SWAP: a host changes a pair over to its ready backup; refused while the backup is not ready (R323; 15 R393). -/
def execSwap (role : Role) (n : PairId) (s : State) : Outcome State Fault Refusal :=
  .next (s.hostWrite role (0x7050 + n) 0x02 fun s =>
    if s.synthReady (s.backup n) then (s.changeOver n 0xFFFE).done else s.ruleRefused 0)

/-- SYNC_IN_EDGE: a rising edge: less than 1 µs after the last accepted one it is ignored and counted, else it sets the phase of outputs in sync
mode (R330). -/
def execSyncInEdge (period : Fin 5) (s : State) : Outcome State Fault Refusal :=
  let t := 5 * s.now + period.val
  let close := match s.syncEdge with
    | none => false
    | some e => decide (t < e + 5000)
  .next (if s.isSafe ∨ !s.synthRuns (s.working 0) then s
    else if close then s.inc32 0x7070 0x03
    else
      let s := (s.inc32 0x7070 0x01).setNat 0x7070 0x02 (time80 (s.tbNow 0 + period.val * 65536 / 5))
      { s with syncEdge := some t }.syncOutputs t)

end Sys2Proof.Machine
end

