-- ==== Sys2Proof/Machine/Twin.lean ====
section
/-! DEFINITION. The commands of the twin pair (14_twin_pair.md R348 to R379). -/

namespace Sys2Proof.Machine

open Host (Outcome)

/-! ## Crickets (R353, R354, R368, R369) -/

/-- The Keacon frames that a mirrored commit takes: as many as its bytes fill (R352, R364). -/
def MirrorCommit.frames (m : MirrorCommit) : Nat := (m.bytes.length + keaconLimit - 1) / keaconLimit

/-- The frames of classes 2 to 5 that wait. -/
def State.framesWaiting (s : State) : Nat :=
  s.twin.controlOut.length + s.twin.coverBuffer.length + s.twin.relayWaiting.length + s.twin.mirrorOut.foldl (fun n m => n + m.frames) 0

/-- The next payload of a class, and the state without it (R351); a cover frame is counted at its ports (R372). -/
def State.takeFrame (s : State) (cls : Nat) : Option (List Byte × State) :=
  match cls with
  | 2 => match s.twin.controlOut with
    | [] => none
    | (c, v) :: l => some (controlPayload c v, { s with twin := { s.twin with controlOut := l } })
  | 3 => match s.twin.mirrorOut with
    | [] => none
    | m :: l =>
      let left := m.bytes.drop s.twin.mirrorSent
      some (left.take keaconLimit, if left.length ≤ keaconLimit then { s with twin := { s.twin with mirrorOut := l, mirrorSent := 0 } }
        else { s with twin := { s.twin with mirrorSent := s.twin.mirrorSent + keaconLimit } })
  | 4 => match s.twin.coverBuffer with
    | [] => none
    | f :: l =>
      let s := (items 96).foldl (fun b p => if f.ports.testBit p then b.inc64 (0x9100 + p) 0x04 else b) s
      some (f.bytes, { s with twin := { s.twin with coverBuffer := l, coverOut := s.twin.coverOut ++ [f] } })
  | _ => match s.twin.relayWaiting with
    | [] => none
    | m :: l => some (m, { s with twin := { s.twin with relayWaiting := l } })

/-- The hub ns at which the frames on lane `k` have left it (R350). -/
def State.laneFree (s : State) (k : Nat) : Nat := (Sparse.get [] s.twin.laneOut k).foldl (fun n f => max n f.until_) s.now

/-- A Keacon frame goes out whole on lane `k`, behind what is on it, at 50 Gb/s (R348, R350, R352). -/
def State.putOnLane (s : State) (k cls sequence : Nat) (payload : List Byte) : State :=
  let frame := keaconFrame cls sequence s.twinId payload
  let sent : KeaconSent := { cls := cls, bytes := frame, until_ := s.laneFree k + (frame.length * 8 + 49) / 50 }
  { s with twin := { s.twin with laneOut := Sparse.set [] s.twin.laneOut k (Sparse.get [] s.twin.laneOut k ++ [sent]) } }

/-- Send a payload of a class on lane `k` under the next sequence of the class. -/
def State.sendKeacon (s : State) (k cls : Nat) (payload : List Byte) : State :=
  let (q, s) := s.nextKeacon cls 1
  let s := s.putOnLane k cls q payload
  if cls = 5 then { s with twin := { s.twin with relayOut := keaconFrame cls q s.twinId payload } } else s

/-- What a class of 3 to 5 may send more at its turn: its weight in frames of the largest size (R351; the unit: DESIGN CHOICE, log entry 66). -/
def keaconQuantum (cls : Nat) : Nat := (if cls = 3 then 10 else if cls = 4 then 39 else 1) * (keaconLimit + 20)

/-- Deficit round robin of classes 3 to 5 on lane `k`: the class in turn goes on while its deficit covers its next frame, then the others; an idle one
keeps no deficit (R351). -/
def State.serveRobin (k : Nat) : Nat → State → Option State
  | 0, _ => none
  | n + 1, s =>
    let t := Sparse.get 0 s.twin.turns k
    let c := 3 + t
    let have_ := Sparse.get 0 s.twin.deficits (8 * k + c)
    let next := fun (left : Nat) =>
      let t' := (t + 1) % 3
      let d := Sparse.set 0 s.twin.deficits (8 * k + c) left
      let more := if (s.takeFrame (3 + t')).isSome then keaconQuantum (3 + t') else 0
      State.serveRobin k n { s with twin := { s.twin with
        turns := Sparse.set 0 s.twin.turns k t', deficits := Sparse.set 0 d (8 * k + 3 + t') (Sparse.get 0 d (8 * k + 3 + t') + more) } }
    match s.takeFrame c with
    | none => next 0
    | some (payload, s') =>
      let size := payload.length + 20
      if size ≤ have_ then
        some ({ s' with twin := { s'.twin with deficits := Sparse.set 0 s'.twin.deficits (8 * k + c) (have_ - size) } }.sendKeacon k c payload)
      else next have_

/-- The next frame of lane `k`: of class 2, else of classes 3 to 5 (R351); none when nothing waits. -/
def State.serveLane (s : State) (k : Nat) : Option State :=
  match s.takeFrame 2 with
  | some (payload, s) => some (s.sendKeacon k 2 payload)
  | none => State.serveRobin k 4 s

/-- The lanes take the waiting frames in turn, frame by frame, each while it is free within the next 10 µs (R350, R351; log entry 66). -/
def State.serveLanes : Nat → List Nat → State → State
  | 0, _, s => s
  | _, [], s => s
  | n + 1, k :: l, s =>
    if s.now + 10000 ≤ s.laneFree k then State.serveLanes n l s
    else match s.serveLane k with
      | none => s
      | some s => State.serveLanes n (l ++ [k]) s

/-- The lanes are served until the next cricket: what has left them is no longer on them (R350, R351; log entry 66). -/
def State.serveClasses (s : State) : State :=
  if !s.twin.linkUp then s
  else
    let s := { s with twin := { s.twin with
      coverOut := [], laneOut := s.twin.laneOut.remap [] (fun _ l => l.filter (fun f => decide (s.now < f.until_))) } }
    State.serveLanes (s.framesWaiting + 4) s.usableLanes s

/-- CRICKET_SEND: every 10 µs the safety island builds a cricket and sends it on every usable lane (R353). -/
def execCricketSend (s : State) : Outcome State Fault Refusal :=
  .next (if s.collects then (s.putCricket false).serveClasses else s)

/-- Mean over the usable lanes of one time base's incoming differences. -/
def State.laneMean (s : State) (d : Sparse (List Int)) (n : Nat) : Int :=
  let l := s.usableLanes
  (l.foldl (fun a k => a + (Sparse.get [] d k).getD n 0) 0) / (max 1 l.length : Nat)

/-- The offset of a time base from the twin's, 2^-16 ns (R368); rounded down, log entry 10. -/
def State.twinOffset (s : State) (n : Nat) : Int :=
  (s.laneMean s.twin.ownDiff n - s.laneMean s.twin.twinDiff n) / 2 + psUnits (s.reg 0x9000 0x09) / 2

/-- Show the offsets while the comparison is valid; one that goes beyond the limit is shown and raised (R368, R369). -/
def State.compareTwin (s : State) : State :=
  if !s.compareValid then s
  else
    let t := (items 8).foldl (fun a n => a.setReg 0x9020 (n + 1) (a.twinOffset n)) s
    State.judgeLimit s { t with twin := { t.twin with validAt := some t.now } }

/-- The shadow takes the lead on a yield (R358, R370). -/
def State.takeYield (s : State) : State :=
  if s.isUp ∧ s.nat 0x9000 0x01 = 2 ∧ s.twin.linkUp then s.takeLead 1 else s

/-- A valid cricket of lane `k`: those between its number and the last one have failed to arrive (R354). -/
def State.cricketGap (s : State) (k number : Nat) : State :=
  let gap := match Sparse.get none s.twin.lastCricket k with
    | none => 0
    | some last => (number + 2 ^ 32 - last - 1) % 2 ^ 32
  let s := s.countMissed k (gap - Sparse.get 0 s.twin.missed k)
  { s with twin := { s.twin with
    missed := Sparse.set 0 s.twin.missed k 0, lastCricket := Sparse.set none s.twin.lastCricket k (some number) } }

/-- The mean of some differences by time base, rounded down (R353; log entry 10). -/
def meanDiffs (l : List (List Int)) : List Int :=
  (items 8).map (fun n => l.foldl (fun a r => a + r.getD n 0) 0 / (max 1 l.length : Nat))

/-- A port whose partner the twin has fenced as well is not covered (R376). -/
def State.dropCovers (s : State) : State :=
  (items 96).foldl (fun a p =>
    let partner := a.nat (0x9100 + p) 0x01
    if a.nat (0x9100 + p) 0x03 = 2 ∧ partner < 96 ∧ a.twin.twinFenced.testBit (partner / 12) then a.setNat (0x9100 + p) 0x03 (a.idleCover p) else a) s

/-- CRICKET_RECEIVE: a cricket on a lane, received at these times of the own time bases. One that does not check is discarded and counts as missed; a
valid one tells the twin's role, state, flags and epoch, and the differences of this lane (R352 to R354, R358, R366, R368, R369). -/
def execCricketReceive (k : Fin 4) (head : KeaconHead) (payload : List Byte) (received : List Int) (s : State) : Outcome State Fault Refusal :=
  .next (if !s.twin.linkUp ∨ !s.bit 0x9000 0x0B k then s
    else if !goodKeacon 1 head ∨ payload.length ≠ 112 then s.countMissed k 1
    else
      let was := s.twin.twinFenced
      let n := s.twin.crickets.getD k 0
      let departed := fun (i : Nat) => numAt payload (16 + 8 * i) 8
      let row := (items 8).map (fun i => shortDiff (received.getD i 0).toNat (departed i))
      let recent := (row :: Sparse.get [] s.twin.recentDiffs k).take 1024
      let theirs := (items 8).map (fun i => signed 32 (numAt payload (80 + 4 * i) 4))
      let s := s.cricketGap k (numAt payload 0 4)
      let s := { s with twin := { s.twin with
        cricketOk := true, twinRole := byteAt payload 4, twinRun := byteAt payload 5, twinFenced := byteAt payload 6, twinFlags := byteAt payload 7
        crickets := s.twin.crickets.set k (if s.nat (0x2060 + k) 0x02 = 6 then min 1024 (n + 1) else 0)
        recentDiffs := Sparse.set [] s.twin.recentDiffs k recent, lastAt := Sparse.set 0 s.twin.lastAt k s.now
        ownDiff := Sparse.set [] s.twin.ownDiff k (meanDiffs recent), twinDiff := Sparse.set [] s.twin.twinDiff k theirs } }
      let s := if s.leads then s.setNat 0x9000 0x0E (numAt payload 8 4) else s
      let s := s.compareTwin
      let s := if was ≠ s.twin.twinFenced then s.dropCovers.retryMirror else s
      if (byteAt payload 7).testBit 0 then s.takeYield else s)

/-- Crickets expected on each usable lane during the timeout, one in 10 µs, that are not counted yet (R353, R354). -/
def State.missAll (s : State) : State :=
  let n := s.nat 0x9000 0x04 / 10
  s.usableLanes.foldl (fun a k => a.countMissed k (n - Sparse.get 0 a.twin.missed k)) s

/-- CRICKET_TIMEOUT: the cricket is lost: shown, counted and raised, and the table of R360 applies (R354, R360). -/
def execCricketTimeout (s : State) : Outcome State Fault Refusal :=
  .next (if !s.twin.linkUp ∨ !s.twin.cricketOk then s
    else
      let s := s.missAll
      let s := { s with twin := { s.twin with cricketOk := false } }
      ((s.putBit 0x9000 0x02 10 true).raise 1201 0).holdTable)

/-! ## Roles (R356 to R362) -/

/-- TWIN_WAIT_EXPIRY: no link within the twin wait: role 0 (R356; R1). -/
def execTwinWaitExpiry (s : State) : Outcome State Fault Refusal :=
  .next (if s.isUp ∧ s.nat 0x9000 0x01 = 3 ∧ !s.twin.linkUp then (s.setRole 0).raise 1200 0 else s)

/-- HANDOVER: a lead with its twin in RUN and the mirror in step hands over; otherwise the write is refused (R357, R358). -/
def execHandover (role : Role) (s : State) : Outcome State Fault Refusal :=
  .next (s.hostWrite role 0x9000 0x03 fun s =>
    if s.leads ∧ s.twin.linkUp ∧ s.twin.twinRun = 2 ∧ s.nat 0x9000 0x0C = 2 then s.yieldLead.done else s.ruleRefused 0)

/-- HOLDOVER_TAKEOVER: the lead's TB0 has been in holdover for the delay and the twin's locked throughout: handover (R357). -/
def execHoldoverTakeover (s : State) : Outcome State Fault Refusal :=
  .next (if s.isUp ∧ s.leads ∧ s.twin.linkUp ∧ s.flag 0x9000 0x06 ∧ s.servo 0 = 4 ∧ s.twin.twinFlags.testBit 1 then s.yieldLead else s)

/-- YIELD_RECEIVE: the shadow receives a yield cricket and becomes lead (R358). -/
def execYieldReceive (s : State) : Outcome State Fault Refusal := .next s.takeYield

/-- Shared outputs that come to be driven start at their inactive level: a pulse under way is not driven, and a clock waits for its next rising edge
(R358). -/
def State.startShared (was s : State) : State :=
  if was.drivesShared || !s.drivesShared then s
  else
    let s := (items 16).foldl (fun a f =>
      if !a.sharedFirefly f then a
      else
        let a := a.settlePulses f false
        a.setFirefly f { a.firefly f with pulses := (a.firefly f).pulses.filter (fun q => decide (a.pulseTime f q < q.start)) }) s
    (items 16).foldl (fun a c =>
      if a.sharedClock c then a.setClock c { a.clock c with since := max (a.clock c).since ((a.clock c).nextRise (5 * a.now)) } else a) s

/-- TWIN_HOLD_IN_CHANGE: the filtered pin changes; while the link or the cricket is lost the table of R360 applies again (R359, R360). -/
def execTwinHoldInChange (asserted : Bool) (s : State) : Outcome State Fault Refusal :=
  let t := { s with twin := { s.twin with holdIn := asserted } }
  .next (State.startShared s (if t.twinSilent then t.holdTable else t))

/-- SHARED_OUTPUT_ENABLE: TWIN_HOLD_OUT has been asserted for 2 µs: shared outputs may be driven (R361), from the inactive level (R358). -/
def execSharedOutputEnable (s : State) : Outcome State Fault Refusal :=
  .next (if s.twin.holdOut then State.startShared s { s with twin := { s.twin with heldLong := true } } else s)

/-- HOLD_MISMATCH: TWIN_HOLD_IN has disagreed with the cricket's flag for 5 µs: shown and raised; roles stay (R362). -/
def execHoldMismatch (s : State) : Outcome State Fault Refusal :=
  .next (if s.twin.linkUp ∧ s.twin.cricketOk ∧ s.twin.holdIn ≠ s.twin.twinFlags.testBit 3 then
      (s.putBit 0x9000 0x02 14 true).raise 1203 0
    else s)

/-! ## The mirror (R363 to R367) -/

/-- A mirrored commit is applied as a commit of the shadow's own, or refused: the mirror has diverged (R364, R366). -/
def State.takeMirror (s : State) (epoch : Nat) (values : List OdValue) : State :=
  let w : Writer := { who := 253 }
  match s.judgeNow w values imageCommand with
  | none => ((s.commitNow w values imageCommand).setNat 0x9000 0x0D epoch).sendControl 1 epoch
  | some _ =>
    let s := { s with twin := { s.twin with refusedMirror := s.twin.refusedMirror ++ [({ epoch := epoch, values := values } : MirrorCommit)] } }
    let s := ((s.setMirror 3).addSat 0x9000 0x0F 32 (valueItems values)).putBit 0x9000 0x02 12 true
    (s.raise 1205 0).sendControl 2 epoch

/-- A mirrored commit takes its turn: behind those that wait, or now (R364; 16 R418). -/
def State.queueMirror (s : State) (epoch : Nat) (values : List OdValue) : State :=
  if s.mustWait values then { s with commits := s.commits ++ [{ session := 253, values := values, epoch := some epoch }] }
  else s.takeMirror epoch values

/-- The key of an operation record of a table (05 R149). -/
def recordKey (idx : Nat) (r : List Byte) : Nat :=
  if idx = 0x3010 then (fdbEntryKey (numAt r 1 12)).1 * 2 ^ 48 + (fdbEntryKey (numAt r 1 12)).2
  else if idx = 0x3040 then field (numAt r 1 16) 65 62
  else numAt r 1 2

/-- An operation record without what is each device's own: counters, ages, contract states, blocked bits (05 R122, R124, R126; 08 R205). -/
def ownless (idx : Nat) (r : List Byte) : List Byte :=
  if idx = 0x3080 then r
  else if idx = 0x3070 then r.take 9 ++ List.replicate 16 0
  else
    let h := if keyedTable idx then 1 else 3
    let e := (entryIn idx (numAt r h (entryBytes idx))).getD 0
    r.take h ++ toBytes (entryBytes idx) (if idx = 0x3040 then setBit e 33 false else e)

/-- The records that make one table out of another: deletions of what it does not name, and what differs (R365). -/
def recordChanges (idx : Nat) (own theirs : List (List Byte)) : List (List Byte) :=
  let own := own.map (ownless idx)
  let theirs := theirs.map (ownless idx)
  let keys := theirs.map (recordKey idx)
  ((own.filter (fun r => !keys.contains (recordKey idx r))).map (fun r => 0x02#8 :: (if idx = 0x3080 then r.take 3 else r).drop 1)) ++
    theirs.filter (fun r => !own.contains r)

/-- Portions of at most 1,024. -/
def portions : Nat → List (List Byte) → List (List (List Byte))
  | 0, _ => []
  | _, [] => []
  | n + 1, l => l.take 1024 :: portions n (l.drop 1024)

/-- What of the tables of an image differs from this device's, in portions (R365). -/
def State.imageTables (s : State) (values : List OdValue) : List (Nat × List (List (List Byte))) :=
  (tableIndices.filter (fun i => mirrored i 1)).map (fun i =>
    let own := (recordsOf i (s.tableImage i (fun e => i != 0x3010 || e.testBit 94))).getD []
    let theirs := ((valueOf values i 1).map (fun v => (recordsOf i v.bytes).getD [])).getD []
    let l := recordChanges i own theirs
    (i, portions l.length l))

/-- The mirrored entries outside the tables that differ from an image: those it carries, those it leaves at their default, and the settings of the fault
sources (R363, R365). -/
def State.imageEntries (s : State) (values : List OdValue) : List OdValue :=
  let plain := values.filter (fun v => !(v.sub == 1 && tableIndices.contains v.index) && v.index != 0xA100)
  let here := fun (k : Nat) => mirrored (k / 256) (k % 256) && (valueOf plain (k / 256) (k % 256)).isNone
  let dflt := fun (k : Nat) => match findEntry (k / 256) (k % 256) with
    | some e => if e.ty.isBlob then blobDefault k else numBytes e.ty (regDefault k)
    | none => []
  let settings := ((valueOf values 0xA100 1).map (·.bytes)).getD (settingsBytes defaultSetting)
  plain.filter (fun v => s.rawBytes v.index v.sub != v.bytes) ++
    (((s.regs.map (·.1)).filter here) ++ ((s.blobs.map (·.1)).filter here)).map (fun k => OdValue.mk (k / 256) (k % 256) (dflt k)) ++
    (if settingsBytes s.setting = settings then [] else [OdValue.mk 0xA100 1 settings])

/-- The commits by which the shadow comes to an image: only what differs, each with at most 1,024 entries of any one table (R365). -/
def State.imageCommits (s : State) (values : List OdValue) : List (List OdValue) :=
  let tables := s.imageTables values
  let entries := s.imageEntries values
  let n := tables.foldl (fun m t => max m t.2.length) (if entries.isEmpty then 0 else 1)
  (items n).map (fun j =>
    tables.filterMap (fun t => (t.2[j]?).map (fun l => OdValue.mk t.1 1 l.flatten)) ++ (if j = 0 then entries else []))

/-- The shadow takes an image of the lead's entries at an epoch (R365). -/
def State.takeImage (s : State) (epoch : Nat) (values : List OdValue) : State :=
  match s.imageCommits values with
  | [] => (s.setNat 0x9000 0x0D epoch).sendControl 1 epoch
  | l => l.foldl (fun a c => a.queueMirror epoch c) s

/-- A mirrored commit has arrived: the shadow applies it in epoch order, in its turn; during a resync any epoch of the lead's stream (R364 to R366). -/
def State.mirrorArrives (s : State) (image : Bool) (epoch : Nat) (values : List (Nat × Nat × List Byte)) : State :=
  let e := epoch % 2 ^ 32
  let m := s.nat 0x9000 0x0C
  let ahead := decide (0 < signed 32 ((e + 2 ^ 32 - s.nat 0x9000 0x0D) % 2 ^ 32))
  if s.isUp ∧ s.nat 0x9000 0x01 = 2 ∧ (m = 1 ∨ ((m = 2 ∨ m = 3) ∧ ahead)) then
    let l := s.mirroredValues (values.map (fun v => OdValue.mk v.1 v.2.1 v.2.2))
    if image ∧ m = 1 then s.takeImage e l else s.queueMirror e l
  else s

/-- The shadow has applied or refused a commit of the lead's: the mirror is diverged while one stands refused, and in step again with the last one
applied (R366). -/
def State.mirrorAnswered (s : State) (epoch : Nat) (refused : Bool) : State :=
  if !s.leads then s
  else
    let l := s.twin.refusedAway.filter (fun e => e != epoch)
    let l := if refused then l ++ [epoch] else l
    let m := s.nat 0x9000 0x0C
    let s := { s with twin := { s.twin with refusedAway := l } }
    if m = 2 ∨ m = 3 then s.setMirror (if l.isEmpty then 2 else 3) else s

/-- A mirror message has arrived in its order: on the shadow a commit, on the lead the shadow's answer, or that a frame was lost, which starts a resync
(R350, R364 to R366). -/
def State.takeMirrorMessage (s : State) : MirrorMessage → State
  | .commit image epoch values => s.mirrorArrives image epoch values
  | .applied epoch => s.mirrorAnswered (epoch % 2 ^ 32) false
  | .refused epoch => s.mirrorAnswered (epoch % 2 ^ 32) true
  | .lost => if s.leads then s.startResync else s

/-- RESYNC: a host starts a resync (R365). -/
def execResync (role : Role) (s : State) : Outcome State Fault Refusal :=
  .next (s.hostWrite role 0x9000 0x10 fun s => s.startResync.done)

/-- RESYNC_COMPLETE: the shadow has reached the lead's epoch, which the lead knows from its report: in step, unless a refused commit still waits
(R365, R366). -/
def execResyncComplete (s : State) : Outcome State Fault Refusal :=
  .next (if s.nat 0x9000 0x0C ≠ 1 ∨ s.leads ∧ (s.nat 0x9000 0x0E ≠ s.nat 0x9000 0x0D ∨ !s.twin.mirrorOut.isEmpty) then s
    else s.setMirror (if s.twin.refusedMirror.isEmpty ∧ s.twin.refusedAway.isEmpty then 2 else 3))

/-! ## Covering (R371 to R374) -/

/-- A cover notice has arrived: the twin has fenced the partner of port `p`, and standby ends; a port whose own region is fenced does not cover
(R372, R376). -/
def State.coverArrives (s : State) (p : Nat) : State :=
  if !s.regionFenced (p / 12) ∧ s.nat (0x9100 + p) 0x01 < 96 ∧ s.nat (0x9100 + p) 0x03 ≤ 1 then s.setNat (0x9100 + p) 0x03 3 else s

/-- The ports of this device that cover a mask of the twin's (R371, R372). -/
def State.coveringPorts (s : State) (mask : Nat) : List Nat :=
  (items 96).filter (fun p => s.nat (0x9100 + p) 0x03 == 3 && decide (s.nat (0x9100 + p) 0x01 < 96) && mask.testBit (s.nat (0x9100 + p) 0x01))

/-- Gather a mask over this device's ports from one over their partners. -/
def State.ownMask (s : State) (ports : List Nat) (mask : Nat) : Nat :=
  ports.foldl (fun n p => setBit n p (mask.testBit (s.nat (0x9100 + p) 0x01))) 0

/-- A cover frame has arrived: it goes to the partner ports as a frame from the hub, its queue from the priority map (R372); it enters at the first
unfenced region (log entry 67). -/
def State.coverFrameArrives (s : State) (ports vid priority untag : Nat) (payload : List Byte) : State :=
  let own := s.coveringPorts ports
  match (items 8).find? (fun g => !s.regionFenced g) with
  | none => s
  | some g =>
    if own.isEmpty ∨ !s.isUp then s
    else
      let d : Descriptor := {
        kind := 1
        vid := vid % 4096
        priority := priority % 8
        portMap := s.ownMask own ports
        untagMap := s.ownMask own untag }
      own.foldl (fun a p => a.inc64 (0x9100 + p) 0x05) (s.hubFrame g d payload)

/-- COVER_FRAME_TIMEOUT: the oldest cover frame has waited 1 ms and is discarded (R373). -/
def execCoverFrameTimeout (s : State) : Outcome State Fault Refusal :=
  .next (match s.twin.coverBuffer with
    | [] => s
    | _ :: l => { s with twin := { s.twin with coverBuffer := l } }.inc64 0x9000 0x14)

/-- An uncover notice has arrived: the port returns to standby and the twin is told (R374). -/
def State.uncoverArrives (s : State) (p : Nat) : State :=
  let s := if s.nat (0x9100 + p) 0x03 = 3 then s.setNat (0x9100 + p) 0x03 (s.idleCover p) else s
  s.sendControl 5 (s.nat (0x9100 + p) 0x01)

/-- A port that awaited its uncover returns to forwarding (R374; 08 R221; 02 R54). -/
def State.uncover (s : State) (p : Nat) : State :=
  if s.nat (0x9100 + p) 0x03 ≠ 4 then s
  else ((s.setNat (0x9100 + p) 0x03 (s.idleCover p)).judgePort p).regionBack (p / 12)

/-- RELEASE_COVER: a host with OWN returns a port that awaits its uncover without an acknowledgement (R374). -/
def execReleaseCover (role : Role) (p : PortId) (s : State) : Outcome State Fault Refusal :=
  .next (s.hostWrite role (0x9100 + p) 0x06 fun s => (s.uncover p).done)

/-! ## Link up (R348, R349, R356) -/

/-- A lane can carry Keacon frames: in stage 6 or 7 and not in test (R348). -/
def State.laneCarries (s : State) (k : Nat) : Bool :=
  (s.nat (0x2060 + k) 0x02 == 6 || s.nat (0x2060 + k) 0x02 == 7) && s.nat (0x2060 + k) 0x18 == 0

/-- Rank of a TB0 state in the choice of the lead: locked, pulling, holdover, then free-running or unset (R356). -/
def leadRank (servo : Nat) : Nat := if servo = 2 then 0 else if servo = 3 then 1 else if servo = 4 then 2 else 3

/-- How many regions a mask fences. -/
def maskCount (m : Nat) : Nat := ((items 8).filter (fun g => m.testBit g)).length

/-- This device is to lead when neither holds a lead role: fewer fenced regions, the better TB0 state, TWIN_ID 0 (R356). -/
def State.winsLead (s : State) (twinFenced twinTb0 : Nat) : Bool :=
  let own := ((items 8).filter s.regionFenced).length
  let his := maskCount twinFenced
  if own ≠ his then decide (own < his)
  else if leadRank (s.servo 0) ≠ leadRank twinTb0 then decide (leadRank (s.servo 0) < leadRank twinTb0)
  else s.twinId == 0

/-- The roles at link up: a holder stays lead, of two TWIN_ID 0 does, else the choice of R356. -/
def State.arbitrate (s : State) (twinLead : Bool) (twinFenced twinTb0 : Nat) : State :=
  let lead :=
    if s.leads ∧ !twinLead then true
    else if !s.leads ∧ twinLead then false
    else if s.leads then s.twinId == 0
    else s.winsLead twinFenced twinTb0
  s.setRole (if lead then 1 else 2)

/-- The other device's changes while the link was down are counted where they will be overwritten (R367). -/
def State.countOverwritten (s : State) : State :=
  let s := if s.leads then s else s.addSat 0x9000 0x0F 32 s.twin.localCommits
  { s with twin := { s.twin with localCommits := 0 } }

/-- The cover states of a device's ports as a number of 96 bytes (R374). -/
def State.coverStates (s : State) : Nat := ofBytes ((items 96).flatMap (fun p => toBytes 1 (s.nat (0x9100 + p) 0x03)))

/-- At a link up the devices exchange the cover states of all ports, and any pending uncover is completed: a port that covers one that the twin does not
redirect any more is released, and acknowledged where the twin awaits it; a port that awaits its uncover returns where the twin does not cover it any
more, and asks again where it does (R374). -/
def State.completeUncover (s : State) (covers : List Nat) : State :=
  (items 96).foldl (fun a p =>
    let partner := a.nat (0x9100 + p) 0x01
    let theirs := if partner < 96 then covers.getD partner 0 else 0
    match a.nat (0x9100 + p) 0x03 with
    | 3 => if theirs = 2 then a else if theirs = 4 then a.uncoverArrives p else a.setNat (0x9100 + p) 0x03 (a.idleCover p)
    | 4 => if theirs = 3 then a.sendControl 4 partner else a.uncover p
    | _ => a) s

/-- The handshake completes on the first usable lane: the link is up (R349, R356, R365, R367, R374). -/
def State.bringUp (s : State) (twinId layout : Nat) (twinLead : Bool) (twinFenced twinTb0 : Nat) (covers : List Nat) : State :=
  let conflict := twinId == s.twinId
  let differs := layout != s.nat 0x1000 0x05
  let s := { s with twin := { s.twin with linkUp := true, idConflict := conflict, incompatible := differs, cricketOk := true, twinFenced := twinFenced } }
  let s := if conflict then (s.putBit 0x9000 0x02 15 true).raise 1202 0 else s
  let s := if differs then s.setMirror 4 else s
  let s := (s.arbitrate twinLead twinFenced twinTb0).countOverwritten
  if conflict then s else ((if differs then s else s.startResync).sendControl 7 s.coverStates).completeUncover covers

/-- KEACON_HANDSHAKE: control frames exchanged on a newly usable lane: the device's own goes out on it, and on the first one the link comes up (R348,
R349). A handshake stands outside the order of its class, with sequence 0 (DESIGN CHOICE, log entry 111). -/
def execKeaconHandshake (k : Fin 4) (serial : BitVec 64) (twinId : Nat) (fwVersion layout : Nat) (twinLead : Bool) (twinFenced : Nat)
    (twinTb0 : Nat) (covers : List Nat) (s : State) : Outcome State Fault Refusal :=
  .next (if !s.laneCarries k ∨ !s.isUp then s
    else
      let s := s.putBit 0x9000 0x0B k true
      let s := { s with twin := { s.twin with crickets := s.twin.crickets.set k 0, lastAt := Sparse.set 0 s.twin.lastAt k s.now } }
      let s := s.putOnLane k 2 0 s.handshakePayload
      if s.twin.linkUp then s
      else (s.setBlob 0x9000 0x13 (toBytes 8 serial.toNat ++ toBytes 1 (twinId % 2) ++ toBytes 4 fwVersion ++ toBytes 2 layout)).bringUp
        (twinId % 2) layout twinLead (twinFenced % 256) twinTb0 covers)

/-! ## Frames in the order of their class (R350, R352) -/

/-- What a frame in its order does. -/
def State.deliver (s : State) : KeaconContent → State
  | .mirror message => s.takeMirrorMessage message
  | .cover ports vid priority untag payload => s.coverFrameArrives ports vid priority untag payload
  | .coverNotice p => s.coverArrives p
  | .uncoverNotice p => s.uncoverArrives p
  | .uncoverAck p => s.uncover p

/-- The held frames of a class that have become due are delivered, one behind the other (R350). -/
def State.deliverHeld (cls : Nat) : Nat → State → State
  | 0, s => s
  | n + 1, s =>
    match s.dueKeacon cls with
    | none => s
    | some h =>
      let s := { s with twin := { s.twin with held := s.twin.held.filter (fun x => x != h) } }
      State.deliverHeld cls n ((s.keaconPast cls (max 1 h.head.frames)).deliver h.content)

/-- A frame of a class arrives while the link is up: the expected one acts, and those held behind it; one within the window is held; any other, and one
that does not check, is discarded (R350, R352). -/
def State.keaconArrives (s : State) (cls : Nat) (head : KeaconHead) (content : KeaconContent) : State :=
  if !s.twin.linkUp ∨ !goodKeacon cls head then s
  else
    let d := s.keaconAhead cls head.sequence
    if d = 0 then State.deliverHeld cls 64 ((s.keaconPast cls (max 1 head.frames)).deliver content)
    else if d < 64 then s.holdKeacon ⟨cls, head, content⟩
    else s

/-- MIRROR_FRAME_RECEIVE: a mirrored commit of the lead or its image in a resync; on the lead, the shadow's acknowledgement or refusal of one (R350, R364
to R366). -/
def execMirrorFrameReceive (head : KeaconHead) (message : MirrorMessage) (s : State) : Outcome State Fault Refusal :=
  .next (s.keaconArrives message.cls head (.mirror message))

/-- COVER_NOTICE_RECEIVE: the twin has fenced a port's partner (R350, R372, R376). -/
def execCoverNoticeReceive (head : KeaconHead) (p : PortId) (s : State) : Outcome State Fault Refusal :=
  .next (s.keaconArrives 2 head (.coverNotice p))

/-- COVER_FRAME_RECEIVE: a cover frame from the twin (R350, R372). -/
def execCoverFrameReceive (head : KeaconHead) (ports : BitVec 96) (vid priority untag : Nat) (payload : List Byte) (s : State) :
    Outcome State Fault Refusal :=
  .next (s.keaconArrives 4 head (.cover ports.toNat vid priority untag payload))

/-- UNCOVER_NOTICE_RECEIVE: the twin serves a port again (R350, R374). -/
def execUncoverNoticeReceive (head : KeaconHead) (p : PortId) (s : State) : Outcome State Fault Refusal :=
  .next (s.keaconArrives 2 head (.uncoverNotice p))

/-- UNCOVER_ACK_RECEIVE: the twin has let a port go (R350, R374). -/
def execUncoverAckReceive (head : KeaconHead) (p : PortId) (s : State) : Outcome State Fault Refusal :=
  .next (s.keaconArrives 2 head (.uncoverAck p))

/-- What the loss of a frame of a class leads to: a mirror frame starts a resync, for which the lead is told, a cover frame is counted (R350, R365). -/
def State.keaconLost (s : State) (cls : Nat) : State :=
  if cls = 3 then s.startResync.sendControl 6 0 else if cls = 4 then s.inc64 0x9000 0x14 else s

/-- KEACON_REORDER_TIMEOUT: a hole in a class has stood for 20 µs: the missing frame is lost, and those held behind it act (R350). -/
def execKeaconReorderTimeout (cls : Fin 6) (s : State) : Outcome State Fault Refusal :=
  .next (if !s.twin.linkUp ∨ !s.keaconHole cls then s
    else State.deliverHeld cls 64 ((s.keaconPast cls 1).keaconLost cls))

end Sys2Proof.Machine
end

