-- ==== Sys2Proof/Machine/Engines.lean ====
section
/-! DEFINITION. Engines, performance counters and occupancy monitors (17_engines_and_counters.md R432 to R450). -/

namespace Sys2Proof.Machine

open Host (Outcome)

/-! ## Engines -/

/-- The state of an engine (B000h.02). -/
def State.engineState (s : State) (e : Nat) : Nat := s.nat (0xB000 + e) 0x02

/-- WATCHDOG_RESTART: a store of the firmware restarts the watchdog of a running engine (R433). -/
def execWatchdogRestart (e : EngineId) (s : State) : Outcome State Fault Refusal :=
  .next (if s.engineState e = 2 ∨ s.engineState e = 3 then s.setEngine e { s.engine e with watchdogAt := s.now, watchdogRan := 0 } else s)

/-- The watchdog's timeout has passed since the firmware last restarted it (R433). -/
def State.watchdogDue (s : State) (e : Nat) : Bool := decide ((s.engine e).watchdogAt + s.nat (0xB000 + e) 0x04 * 1000000 ≤ s.now)

/-- WATCHDOG_EXPIRY: the watchdog of an engine with no halted thread expires and is raised; during a block reset it is masked (R433, R448). -/
def execWatchdogExpiry (e : EngineId) (s : State) : Outcome State Fault Refusal :=
  .next (if (s.engineState e = 2 ∨ s.engineState e = 4) ∧ (s.engine e).halted = 0 ∧ s.watchdogDue e then
      (s.setEngine e { s.engine e with watchdogAt := s.now }).raise (1104 + 4 * e.val + 2) 0
    else s)

/-- Thread `thread` of engine `e` runs: its engine does, and debug has not halted it (R433, R449; 18 R468). -/
def State.threadRuns (s : State) (e thread : Nat) : Bool :=
  decide (s.engineState e = 2 ∨ s.engineState e = 3) && !(s.engine e).halted.testBit thread

/-- A thread traps: thread, cause and address are kept, and the source is raised (R433). -/
def State.trap (s : State) (e thread : Nat) (cause address : BitVec 32) : State :=
  (s.setBlob (0xB000 + e) 0x07
    (toBytes 1 thread ++ toBytes 3 0 ++ toBytes 4 cause.toNat ++ toBytes 4 address.toNat)).raise (1104 + 4 * e) thread

/-- ENGINE_TRAP: a thread that runs traps (R433). -/
def execEngineTrap (e : EngineId) (thread : Fin 4) (cause address : BitVec 32) (s : State) : Outcome State Fault Refusal :=
  .next (if s.threadRuns e thread then s.trap e thread cause address else s)

/-- THREAD_TIMER_EXPIRY: a timer that the firmware set puts an event into its thread's queue (R432). -/
def execThreadTimerExpiry (e : EngineId) (thread : Fin 4) (s : State) : Outcome State Fault Refusal :=
  .next (if 2 ≤ s.engineState e ∧ s.engineState e ≤ 4 then s.sendEvent (4 * e.val + thread.val) 6 0 else s)

/-- The image an engine is to run passed at the start: the base image always, an owner slot when its status is 1 (R434; 18 R458). -/
def State.imagePassed (s : State) (image : Nat) : Bool := image == 0 || byteAt (s.blob 0xC030 0x07) (4 * image + 2) == 1

/-- IMAGE_LOAD_COMPLETE: an engine that loads or restarts takes its image and its threads start, or wait halted at their entry point under Hb;
an image that fails leaves it stopped (R434, R435, R436; 18 R458, R465). -/
def execImageLoadComplete (e : EngineId) (digestOk : Bool) (s : State) : Outcome State Fault Refusal :=
  .next (if s.start.server ∧ (s.engineState e = 1 ∨ s.engineState e = 4) then
      let image := s.nat (0xB000 + e) 0x01
      let x := s.engine e
      (if digestOk && s.imagePassed image then
        if x.atEntry then (s.setEngine e { x with atEntry := false, running := image, halted := 15 }).setNat (0xB000 + e) 0x02 3
        else (s.setEngine e { x with running := image, watchdogAt := s.now }).setNat (0xB000 + e) 0x02 2
      else s.setNat (0xB000 + e) 0x02 0).judgeSubstitutes
    else s)

/-! ## Performance counters -/

/-- The hub counts: PD8 is on and the device is not in reset (R439). -/
def State.hubCounts (s : State) : Bool := s.start.powered && !s.start.inReset && s.domains.testBit 8

/-- The level-2 categories of an engine's slots and the level-1 category each lies in: halted, issued, stalled, idle (R447). -/
def slotParent (sub : Nat) : Nat :=
  if 6 ≤ sub ∧ sub ≤ 8 then 1 else if 9 ≤ sub ∧ sub ≤ 12 then 2 else if 13 ≤ sub ∧ sub ≤ 16 then 4
  else if 17 ≤ sub ∧ sub ≤ 18 then 5 else 0

/-- The slots that elapsed in one category of an engine: flushed by itself, the others by their level-2 category, each counted in its level-1
category too (R445, R447). -/
def State.countSlots (s : State) (e : Nat × Nat) : State :=
  let idx := 0xB010 + e.1 / 32
  let sub := e.1 % 32 + 1
  if 512 ≤ e.1 then s
  else if sub = 3 then s.perfAdd idx 3 e.2
  else if slotParent sub = 0 then s
  else (s.perfAdd idx sub e.2).perfAdd idx (slotParent sub) e.2

/-- The keys of every performance counter (R439, R450). -/
def counterKeys : List Nat :=
  (items 16).flatMap (fun e => (items 18).map (fun k => key (0xB010 + e) (k + 1))) ++
  (items 8).flatMap (fun g => (items 13).map (fun k => key (0x3810 + g) (k + 1))) ++
  (items 16).flatMap (fun m => [key (0xE000 + m) 0x05, key (0xE000 + m) 0x06])

/-- The sample bank takes the counters of the engines and of the monitors (R440). -/
def State.sampleCounters (s : State) : State :=
  (counterKeys.filter (fun k => k / 256 / 4096 != 3)).foldl (fun a k => a.setNat (k / 256) (k % 256) (Sparse.get 0 a.perf k)) s

/-- The settings of monitor `m` as committed. -/
def State.monitorSet (s : State) (m : Nat) : MonitorSet :=
  { source := s.nat (0xE000 + m) 0x01, item := s.nat (0xE000 + m) 0x02, threshold := s.nat (0xE000 + m) 0x03
    thread := s.nat (0xE000 + m) 0x04 }

/-- A monitor whose settings waited for the boundary takes them (R443). -/
def State.programMonitor (s : State) (m : Nat) : State :=
  if s.monitorPending.testBit m then
    { s with monitors := Sparse.set {} s.monitors m (s.monitorSet m), monitorFirst := setBit s.monitorFirst m true }
  else s

/-- A clear that waited zeroes the counters of engines and monitors; a region's follow at its cycle start (R443). -/
def State.clearPerf (s : State) : State :=
  if s.clearPending then { s with perf := s.perf.filter (fun x => decide (0x3810 ≤ x.1 / 256 ∧ x.1 / 256 < 0x3818)) } else s

/-- What waited for the boundary is applied (R443). -/
def State.applyReprogram (s : State) : State :=
  let s := ((items 16).foldl State.programMonitor s).clearPerf
  { s with monitorPending := 0, clearPending := false }.setNat 0xB080 0x04 0

/-- Each region's counters are due at its next cycle start, and at once where no cycle will start; a pending clear goes with them (R440, R443). -/
def State.sampleRegions (s : State) : State :=
  let s := { s with regionSample := 255, regionClear := if s.clearPending then 255 else s.regionClear }
  (items 8).foldl (fun a g => if a.fabricRuns ∧ !a.regionFenced g then a else a.sampleRegion g) s

/-- The categories of an engine account for each slot since the last boundary: its level-2 categories, and flushed, which has none (R445, R447). -/
def State.accounted (s : State) (elapsed : List (Nat × Nat)) (e : Nat) : Bool :=
  let own := elapsed.filter (fun x => x.1 / 32 == e && (x.1 % 32 == 2 || slotParent (x.1 % 32 + 1) != 0))
  (own.map (·.2)).sum == s.now - s.epochAt

/-- EPOCH_BOUNDARY: every event of the ending epoch is counted, the sample is taken, and pending reprogramming is applied (R440, R443). The
operand gives the slots of each engine in the epoch; one that leaves a slot out or counts one twice is no epoch's (R445). -/
def execEpochBoundary (elapsed : List (Nat × Nat)) (s : State) : Outcome State Fault Refusal :=
  .next (if !s.hubCounts ∨ (items 16).any (fun e => !s.accounted elapsed e) then s
    else
      let s := ((elapsed.foldl State.countSlots s).sampleCounters).sampleRegions
      let s := { s with epochAt := s.now }.setNat 0xB080 0x02 ((s.nat 0xB080 0x02 + 1) % 2 ^ 32)
      (s.setNat 0xB080 0x03 (if (s.tb 0).running then time80 (s.tbNow 0) else 0)).applyReprogram)

/-- A counter that stands at its last value counts one more event, and wraps (R441). -/
def State.counterWraps (s : State) (bit : Nat) : State :=
  let k := counterKey bit
  if counterKeys.contains k ∧ Sparse.get 0 s.perf k = 2 ^ 48 - 1 then s.perfAdd (k / 256) (k % 256) 1 else s

/-- COUNTER_WRAP: the counter of an overflow map bit wraps (R441). -/
def execCounterWrap (bit : Fin 672) (s : State) : Outcome State Fault Refusal := .next (if s.hubCounts then s.counterWraps bit else s)

/-- CLEAR_COUNTERS: every counter is zeroed at the next boundary (R443). -/
def execClearCounters (role : Role) (s : State) : Outcome State Fault Refusal :=
  .next (s.hostWrite role 0xB080 0x07 fun s => ({ s with clearPending := true }.setNat 0xB080 0x04 1).done)

/-- OVERFLOW_MAP_CLEAR: each 1 of the mask clears its bit, but for one whose counter wraps in the same cycle (R441, R448, R450). -/
def execOverflowMapClear (role : Role) (mask : BitVec 768) (wrapping : List (Fin 672)) (s : State) : Outcome State Fault Refusal :=
  .next (s.hostWrite role 0xB080 0x06 fun s =>
    (wrapping.foldl (fun (a : State) (b : Fin 672) => a.counterWraps b.val) { s with overflow := clearBits s.overflow mask.toNat }).done)

/-! ## Monitors -/

/-- The region that holds the item of a monitor's source, if it lies in one (R444). -/
def monitorRegion (x : MonitorSet) : Option Nat :=
  if x.source = 1 then some (x.item / 32 / 12) else if x.source = 2 ∨ x.source = 3 then some x.item
  else if x.source = 5 ∨ x.source = 6 then some (x.item / 8) else none

/-- The occupancy a monitor reads; 0 while the item's region is fenced (R444). -/
def State.monitorValue (s : State) (x : MonitorSet) : Nat :=
  if (monitorRegion x).any s.regionFenced then 0
  else if x.source = 1 then (s.queue (x.item / 32) (x.item % 32)).occupancy
  else if x.source = 2 then (s.region x.item).used.getD 3 0
  else if x.source = 3 then s.hostOccupancy x.item
  else if x.source = 4 then (s.ringX x.item).inUse
  else if x.source = 5 ∨ x.source = 6 then (Sparse.get [] (s.region (x.item / 8)).fabricQ (2 * (x.item % 8) + (x.source - 5))).length
  else if x.source = 7 then s.ring.length
  else if x.source = 8 then s.log.length - s.logRead
  else (Sparse.get [] (s.engine (x.item / 4)).events (x.item % 4)).length

/-- MONITOR_SAMPLE: the monitor samples its source; a sample at or above the threshold is counted, and one that follows a sample below it is a
crossing; the first after reprogramming counts none (R444, R448). -/
def execMonitorSample (m : MonitorId) (s : State) : Outcome State Fault Refusal :=
  let x := Sparse.get {} s.monitors m
  let i := 0xE000 + m.val
  .next (if !s.hubCounts ∨ x.source = 0 then s
    else
      let v := s.monitorValue x
      let was := s.flag i 0x07
      let first := s.monitorFirst.testBit m
      let s := { s with monitorFirst := setBit s.monitorFirst m false }
      let s := (s.setNat i 0x08 (min v (2 ^ 32 - 1))).setNat i 0x07 (ofBool (decide (x.threshold ≤ v)))
      if v < x.threshold then s
      else
        let s := s.perfAdd i 0x05 1
        if was || first then s else (s.perfAdd i 0x06 1).sendEvent x.thread 5 m)

end Sys2Proof.Machine
end

