-- ==== Sys2Proof/Machine/Security.lean ====
section
/-! DEFINITION. Lifecycle, rollback floors, debug grants and the probe (18_security_debug_states.md R451 to R471). -/

namespace Sys2Proof.Machine

open Host (Outcome)

/-! ## Sessions as the security block sees them -/

/-- Session `n` is open. -/
def State.sessionOpen (s : State) (n : Nat) : Bool := s.nat (0xF000 + n) 0x01 == 2

/-- The role of session `n`. -/
def State.sessionRole (s : State) (n : Nat) : Role := Role.ofCode (s.nat (0xF000 + n) 0x03)

/-- In SAFE the debug entries are still served to SN0, but after FS1185, FS1188 and FS1191 (16 R423; 18 R469). -/
def State.debugServed (s : State) (n : Nat) : Bool := s.start.server && (!s.isSafe || (n == 0 && s.start.safeCause.isNone))

/-- The flags of a credential record: bit 0 debug, bit 1 lifecycle (R462). -/
def State.credentialFlags (s : State) (k : Nat) : Nat := if k < 16 then byteAt (s.blob 0xC020 (k + 1)) 97 else 0

/-! ## Lifecycle commands (R452 to R454) -/

/-- The lifecycle commands each state accepts (R452). -/
def lifecycleAccepts (state code : Nat) : Bool :=
  if state = 0 then code == 1 || code == 3 else if state = 1 then code == 2 || code == 3 || code == 4
  else if state = 2 then code == 3 || code == 4 else false

/-- What refuses a lifecycle command of session `n`, if anything: session, run state, role, credential, confirmation, acceptance (R453, R462). -/
def State.lifecycleBar (s : State) (n code confirmation : Nat) (digest0 : List Byte) : Option (Nat × Nat) :=
  if s.start.server ∧ !s.sessionOpen n then some (0x10, 0)
  else if !s.start.server ∨ !s.isUp then some (0x14, s.runState)
  else if !roleCovers (s.sessionRole n) .own then some (0x04, 0)
  else if s.lifecycle ≠ 0 ∧ !(s.credentialFlags (s.session n).credential).testBit 1 then some (0x04, 0)
  else if confirmation ≠ s.nat 0x1000 0x02 % 2 ^ 32 then some (0x09, 0)
  else if !lifecycleAccepts s.lifecycle code ∨ s.security.burning.isSome then some (0x09, 0)
  else if code = 1 ∧ ((s.blob 0xC010 0x01).isEmpty ∨ (s.security.slot0State = 2 ∧ s.security.slot0 ≠ digest0)) then some (0x09, 0)
  else if code = 4 ∧ s.security.slot1State ≠ 1 then some (0x09, 0)
  else none

/-- An accepted lifecycle command: its burn begins (R454). -/
def State.startBurn (s : State) (code : Nat) (digest0 digest1 : List Byte) : State :=
  ({ s with security := { s.security with pendingBy := none, burning := some (code, digest0, digest1) } }.setNat 0xC000 0x04 0).done

/-- A lifecycle command of session `n`: refused, left pending for a second session in DEPLOYED, or accepted (R453). -/
def State.lifecycleCommand (s : State) (n code confirmation : Nat) (digest0 digest1 : List Byte) : State :=
  match s.lifecycleBar n code confirmation digest0 with
  | some (c, d) => s.answer c d
  | none =>
    if s.lifecycle ≠ 2 then s.startBurn code digest0 digest1
    else
      let k := (s.session n).credential
      match s.security.pendingBy with
      | none => ({ s with security := { s.security with pendingBy := some (code, k) } }.setNat 0xC000 0x04 code).done
      | some (c, first) => if c = code ∧ first ≠ k then s.startBurn code digest0 digest1 else s.ruleRefused 0

/-- A digest as the fuse store holds it: 48 bytes (R455). -/
def digestOf (d : List Byte) : List Byte := (d ++ List.replicate 48 0).take 48

/-- TO_PROVISIONED: lifecycle command 1 burns the digests of the owner keys that are set (R453). -/
def execToProvisioned (sn : SessionId) (confirmation : BitVec 32) (digest0 digest1 : List Byte) (s : State) :
    Outcome State Fault Refusal :=
  .next (s.lifecycleCommand sn 1 confirmation.toNat (digestOf digest0)
    (if (s.blob 0xC010 0x02).isEmpty then [] else digestOf digest1))

/-- TO_DEPLOYED: lifecycle command 2 (R453). -/
def execToDeployed (sn : SessionId) (confirmation : BitVec 32) (s : State) : Outcome State Fault Refusal :=
  .next (s.lifecycleCommand sn 2 confirmation.toNat [] [])

/-- TO_DECOMMISSIONED: lifecycle command 3; in DEPLOYED two sessions commit it (R453). -/
def execToDecommissioned (sn : SessionId) (confirmation : BitVec 32) (s : State) : Outcome State Fault Refusal :=
  .next (s.lifecycleCommand sn 3 confirmation.toNat [] [])

/-- REVOKE_OWNER_SLOT: lifecycle command 4 revokes owner slot 0; in DEPLOYED two sessions commit it (R453). -/
def execRevokeOwnerSlot (sn : SessionId) (confirmation : BitVec 32) (s : State) : Outcome State Fault Refusal :=
  .next (s.lifecycleCommand sn 4 confirmation.toNat [] [])

/-- PENDING_COMMAND_LAPSE: a pending two-session command lapses after 60 s (R453). -/
def execPendingCommandLapse (s : State) : Outcome State Fault Refusal :=
  .next ({ s with security := { s.security with pendingBy := none } }.setNat 0xC000 0x04 0)

/-- FUSE_BURN_COMPLETE: the digests, then the lifecycle group, have been burned and read back, and a cold start of type 5 follows (R454; 19
R472). -/
def execFuseBurnComplete (run : StartRun) (s : State) : Outcome State Fault Refusal :=
  .next (match s.security.burning with
    | none => s
    | some (code, d0, d1) =>
      { s with security := (({ s.security with burning := none }).burnSlots code d0 d1).burnGroups code 8 }.beginCold 5 run)

/-! ## Rollback floors (R459) -/

/-- Raise a floor to a version: it never falls, and stays at 64. -/
def State.raiseFloor (s : State) (sub version : Nat) : State := s.setNat 0xC030 sub (max (s.nat 0xC030 sub) (min 64 version))

/-- RAISE_BASE_FLOOR: the base floor rises to the running base image's security version (R459). -/
def execRaiseBaseFloor (role : Role) (s : State) : Outcome State Fault Refusal :=
  .next (s.hostWrite role 0xC030 0x05 fun s => (s.raiseFloor 0x03 (s.nat 0xC030 0x02)).done)

/-- The owner image that runs: of the lowest-numbered engine that runs one (R459). -/
def State.ownerImage (s : State) : Option Nat :=
  ((items 16).find? (fun e => (s.engineState e == 2 || s.engineState e == 3) && (s.engine e).running != 0)).map
    (fun e => (s.engine e).running)

/-- RAISE_OWNER_FLOOR: the owner floor rises to the running owner image's security version; with none running the write is refused (R459). -/
def execRaiseOwnerFloor (role : Role) (s : State) : Outcome State Fault Refusal :=
  .next (s.hostWrite role 0xC030 0x05 fun s =>
    match s.ownerImage with
    | some i => (s.raiseFloor 0x04 (numAt (s.blob 0xC030 0x07) (4 * i) 2)).done
    | none => s.ruleRefused 0)

/-! ## The debug grant (R466) -/

/-- The first read of a challenge starts its 60 s (R466). -/
def State.readChallenge (s : State) : State := { s with security := { s.security with challengeRead := true } }

/-- DEBUG_CHALLENGE_READ: a session reads the challenge (R466, R469). -/
def execDebugChallengeRead (sn : SessionId) (s : State) : Outcome State Fault Refusal :=
  .next (if s.start.server ∧ !s.sessionOpen sn then s.answer 0x10 0
    else if !s.debugServed sn then s.answer 0x14 s.runState
    else s.readChallenge.done)

/-- AUTHENTICATED: the grant runs for the grant time, signed by these credentials, and the challenge is replaced (R466). -/
def State.grantDebug (s : State) (by_ : List Nat) : State :=
  let s := { s with security := { s.security with grantBy := by_, grantUntil := s.now + s.nat 0xC040 0x04 * 1000000000 } }
  ((s.setNat 0xC040 0x01 1).newChallenge).done

/-- A response from session `n` for credential slot `k`: what the lifecycle state asks for (R466, R470). -/
def State.debugRespond (s : State) (n k : Nat) (verifies : Bool) : State :=
  if s.lifecycle = 3 ∨ s.debugState = 2 then s.answer 0x14 s.runState
  else if !s.security.challengeRead then s.ruleRefused 0
  else if s.lifecycle = 0 then
    if k ≠ 255 then s.ruleRefused 0 else if !verifies then s.answer 0x0F 0 else s.grantDebug []
  else if !(s.credentialFlags k).testBit 0 then s.ruleRefused 0
  else if !verifies then s.answer 0x0F 0
  else if s.lifecycle = 1 then s.grantDebug [k]
  else match s.security.heldResponse with
    | none => ({ s with security := { s.security with heldResponse := some (k, n) } }.setNat 0xC040 0x09 1).done
    | some (first, m) => if first = k ∨ (m = n ∧ !s.isSafe) then s.ruleRefused 0 else s.grantDebug [first, k]

/-- DEBUG_RESPONSE: a session of role OWN or SERVICE answers the challenge (R466, R469). -/
def execDebugResponse (sn : SessionId) (slot : Nat) (verifies : Bool) (s : State) : Outcome State Fault Refusal :=
  .next (if s.start.server ∧ !s.sessionOpen sn then s.answer 0x10 0
    else if !s.debugServed sn then s.answer 0x14 s.runState
    else if !roleCovers (s.sessionRole sn) .own then s.answer 0x04 0
    else s.debugRespond sn slot verifies)

/-- CHALLENGE_LAPSE: 60 s after its first read the challenge is replaced, and a held response goes (R466). -/
def execChallengeLapse (s : State) : Outcome State Fault Refusal := .next (if s.security.challengeRead then s.newChallenge else s)

/-- GRANT_EXPIRY: the grant time is over (R466, R468). -/
def execGrantExpiry (s : State) : Outcome State Fault Refusal := .next s.endGrant

/-- A host's debug command, which SN0 may give in SAFE too (R469). -/
def State.debugWrite (s : State) (role : Role) (act : State → State) : State :=
  if !s.debugServed 0 then s.answer 0x14 s.runState
  else if !roleCovers role .own then s.answer 0x04 0
  else act s

/-- END_GRANT: debug command 1 (R466). -/
def execEndGrant (role : Role) (s : State) : Outcome State Fault Refusal := .next (s.debugWrite role fun s => s.endGrant.done)

/-- CLOSE_OPEN: debug command 2 closes OPEN, and ends AUTHENTICATED; what was halted runs again (R466, R468). -/
def execCloseOpen (role : Role) (s : State) : Outcome State Fault Refusal :=
  .next (s.debugWrite role fun s =>
    (if s.debugState = 2 then (s.setNat 0xC040 0x01 0).resumeThreads else s.endGrant).done)

/-! ## The probe (R465, R467, R468) -/

/-- Intrusive access: OPEN in a start, a shadow in RUN and DEGRADED, and every grant in SAFE (R467). -/
def State.intrusive (s : State) : Bool :=
  if s.debugState = 0 then false
  else if s.isSafe then true
  else if s.isUp then s.nat 0x9000 0x01 == 2
  else s.debugState == 2

/-- The threads of engine `e` halted by debug; its watchdog pauses with the first and goes on once none is (R468; 17 R433). -/
def State.haltThreads (s : State) (e threads : Nat) : State :=
  let x := s.engine e
  let x := if x.halted = 0 then { x with watchdogRan := s.now - x.watchdogAt } else x
  let s := s.setEngine e { x with halted := threads, watchdogAt := if threads = 0 then s.now - x.watchdogRan else x.watchdogAt }
  s.setNat (0xB000 + e) 0x02 (if threads = 0 then 2 else 3)

/-- PROBE_HALT: the probe halts threads, or lets them run (R465, R467, R468). -/
def execProbeHalt (e : EngineId) (threads : BitVec 4) (halt : Bool) (s : State) : Outcome State Fault Refusal :=
  .next (if s.intrusive ∧ (s.engineState e = 2 ∨ s.engineState e = 3) then
      let h := (s.engine e).halted
      s.haltThreads e (if halt then h ||| threads.toNat else clearBits h threads.toNat)
    else s)

/-- An address of the shared memory that engines have access to: all but the 896 KiB of the calendars (17 R431; their place behind the ring area
is DEDUCED, log entry 107). -/
def sharedReached (a : Nat) : Bool := decide (a < 6291456 ∨ 7208960 ≤ a ∧ a < 8388608)

/-- PROBE_INTRUSIVE_ACCESS: the probe writes a register or memory word of an engine, which may be one that all engines share, or sets a breakpoint
(R465, R467; 17 R431; 01 R16). -/
def execProbeIntrusiveAccess (e : EngineId) (address value : BitVec 32) (target : ProbeTarget) (s : State) : Outcome State Fault Refusal :=
  .next (if !s.intrusive then s
    else
      let x := s.engine e
      let a := address.toNat
      match target with
      | .breakpoint => s.setEngine e { x with breakpoints := if x.breakpoints.contains a then x.breakpoints else x.breakpoints ++ [a] }
      | .register => s.setEngine e { x with registers := Sparse.set 0 x.registers a value.toNat }
      | .local_ => if a < 524288 then s.setEngine e { x with memory := Sparse.set 0 x.memory a value.toNat } else s
      | .shared => if sharedReached a then { s with shared := Sparse.set 0 s.shared a value.toNat } else s
      | .certificate | .fuses => s)

end Sys2Proof.Machine
end

