-- ==== Sys2Proof/Machine/Command.lean ====
section
/-! DEFINITION. The commands that a commit carries (16_object_dictionary.md R418): a value of a WO, RO/W1C or acting entry does at the commit
point what the command of that entry does. What such a command finds in the world is open (Config, log entry 5). -/

namespace Sys2Proof.Machine

open Host (Outcome)

/-- The state a command leads to. -/
def after (s : State) : Outcome State Fault Refusal → State
  | .next t => t
  | _ => s

/-- Writing 1s to a W1C entry clears those of its sticky bits and nothing else (00 R11; 16 R406). -/
def State.clearSticky (s : State) (idx sub v : Nat) : State :=
  (s.setNat idx sub (clearBits (s.nat idx sub) (v &&& w1cMask idx sub))).done

/-- Commands of lanes, ports and their timing (2000h to 2FFFh). -/
def linkCommand (s : State) (idx sub v : Nat) (b : List Byte) (role : Role) (draw : Nat) : State :=
  if idx < 0x2064 then
    let l : LaneId := Fin.ofNat 100 (idx - 0x2000)
    if sub = 0x15 then after s (execReAdapt role l s)
    else if sub = 0x24 then after s (execRetryNow role l s)
    else if sub = 0x16 then after s (execQuietTransmit role l (Fin.ofNat 3 v) s)
    else if sub = 0x17 then after s (execQuietReceive role l (v == 1) s)
    else if v = 0 then after s (execTestModeClear role l s)
    else after s (execTestModeSet role l (Fin.ofNat 5 v) s)
  else
    let p : PortId := Fin.ofNat 96 (idx % 256)
    if idx < 0x2160 then
      if sub = 0x13 then after s (execRereadModule role p s)
      else s.hostWrite role idx 0x0F fun s => if b.length ≠ 64 then s.answer 0x07 64 else s.writeRecord p b (Config.messageRecordEnd draw)
    else if idx < 0x2260 then after s (execStatisticsClear role p [] s)
    else if v = 1 then after s (execAcceptPresentDelay role p s)
    else if v = 2 then after s (execAcceptProposal role p s)
    else if v = 3 then after s (execCalibrateAsymmetry role p s)
    else after s (execAbortCalibration role p s)

/-- Commands of tables, queues, time bases, outputs and selectors (3000h to 7FFFh). A set takes the fraction of its commit (09 R235). -/
def timeCommand (s : State) (idx sub v : Nat) (b : List Byte) (role : Role) (values : List OdValue) : State :=
  if idx = 0x3001 then after s (execDrainTable role (Fin.ofNat 6 v) s)
  else if idx < 0x5000 then
    let n := idx - 0x4100
    (s.setQueue (n / 32) (n % 32) { s.queue (n / 32) (n % 32) with flush := true }).done
  else if idx < 0x6008 then
    let k : TbId := Fin.ofNat 8 (idx - 0x6000)
    if sub = 0x09 then
      let fraction := ((valueOf values idx 0x0A).map (fun x => ofBytes x.bytes)).getD 0
      s.hostWrite role idx 0x09 fun s => s.setRequest k (numAt b 0 6) (numAt b 6 4) fraction s.now
    else if sub = 0x0B then after s (execStep role k (numOf .i64 b) s)
    else if sub = 0x0F then after s (execSteeringOffsetWrite k (some role) (numOf .i32 b) s)
    else if sub = 0x12 then (after s (execMeasuredOffsetWrite k (numOf .i64 b) s)).done
    else s.done
  else if idx < 0x6120 then s.done
  else if idx < 0x6210 then
    let f : FireflyId := Fin.ofNat 16 (idx - 0x6200)
    if v = 1 then after s (execRealignImmediate role f s) else after s (execRealignSlewed role f s)
  else if idx = 0x6380 then after s (execResetRing role s)
  else if idx < 0x7028 then after s (execPhaseAccept role (Fin.ofNat 8 (idx - 0x7020)) (Fin.ofNat 8 v) s)
  else after s (execSwap role (Fin.ofNat 4 (idx - 0x7050)) s)

/-- A fence command: 01h fences, 02h releases, of a level and an item (15 R403). -/
def fenceCommand (s : State) (b : List Byte) (role : Role) (draw : Nat) : State :=
  match levelOf (byteAt b 1) with
  | none => s.outOfRange 0x07
  | some l =>
    if byteAt b 0 = 1 then after s (execHostFence role l (numAt b 2 2) s)
    else if byteAt b 0 = 2 then after s (execFenceRelease role l (numAt b 2 2) (Config.messageSupplyUp draw) s)
    else s.outOfRange 0x07

/-- A lifecycle command of session `n` with the confirmation of its commit (18 R453). -/
def fuseCommand (s : State) (n v : Nat) (values : List OdValue) : State :=
  let confirmation := ((valueOf values 0xC000 0x03).map (fun x => ofBytes x.bytes)).getD 0
  let digest := fun (sub : Nat) =>
    if (s.blob 0xC010 sub).isEmpty then [] else digestOf (Config.keyDigest (s.blob 0xC010 sub))
  s.lifecycleCommand n v confirmation (digest 1) (digest 2)

/-- Commands of calibration, twin, faults, counters, security and starts (8000h and above). -/
def hubCommand (s : State) (idx sub v : Nat) (b : List Byte) (w : Writer) (values : List OdValue) (draw : Nat) : State :=
  let role := w.role
  if idx = 0x8000 then after s (execCalibrateNow role (Config.messageResistor draw) (Config.messageDelays draw) s)
  else if idx = 0x9000 then (if sub = 0x03 then after s (execHandover role s) else after s (execResync role s))
  else if idx < 0xA000 then after s (execReleaseCover role (Fin.ofNat 96 (idx - 0x9100)) s)
  else if idx = 0xA000 then (if sub = 0x02 then after s (execClearFirstFault role s) else after s (execAcknowledge role s))
  else if idx = 0xA010 then fenceCommand s b role draw
  else if idx = 0xB080 then
    (if sub = 0x06 then after s (execOverflowMapClear role (BitVec.ofNat 768 (ofBytes b)) [] s) else after s (execClearCounters role s))
  else if idx = 0xC000 then (if sub = 0x02 then fuseCommand s w.who v values else s.done)
  else if idx = 0xC030 then (if v = 1 then after s (execRaiseBaseFloor role s) else after s (execRaiseOwnerFloor role s))
  else if idx = 0xC040 then
    if sub = 0x03 then
      let k := byteAt b 0
      s.debugRespond w.who k
        (Config.signatureOk (if k < 16 then s.blob 0xC020 (k + 1) else []) s.security.challenge b)
    else if v = 1 then after s (execEndGrant role s)
    else after s (execCloseOpen role s)
  else if sub = 0x01 then after s (execStartCommand role (Config.messageRun draw) s)
  else if sub = 0x09 then after s (execReleaseHold role s)
  else if v = 1 then after s (execImageSave role (Config.messageReadBack draw) s)
  else after s (execImageErase role s)

/-- The command of a committed value. A BOOL written 0 does nothing. -/
def hostCommand (w : Writer) (values : List OdValue) (s : State) (v : OdValue) : State :=
  match findEntry v.index v.sub with
  | none => s.done
  | some e =>
    let n := ofBytes v.bytes
    let draw := s.nat 0xF020 0x01
    if e.acc == .roW1c && !e.ty.isBlob then s.clearSticky v.index v.sub n
    else if e.ty == .bool && e.acc == .wo && n == 0 then s.done
    else if v.index < 0x3000 then linkCommand s v.index v.sub n v.bytes w.role draw
    else if v.index < 0x8000 then timeCommand s v.index v.sub n v.bytes w.role values
    else hubCommand s v.index v.sub n v.bytes w values draw

end Sys2Proof.Machine
end

