-- ==== Sys2Proof/Machine/Views.lean ====
section
/-! DEFINITION. What a read of a dictionary entry returns (16_object_dictionary.md R405, R406, R420): the stored value, or for a live entry the
value that the rest of the state gives it. -/

namespace Sys2Proof.Machine

open Host (Outcome)

/-! ## Numbers -/

/-- Time left until an instant, in whole units of so many ns, rounded up. -/
def State.left (s : State) (t unit : Nat) : Nat := (t - s.now + unit - 1) / unit

/-- Fenced items of a level as a bit map. -/
def State.fenceMap (s : State) (l : FenceLevel) : Nat := (items (levelItems l)).foldl (fun v i => setBit v i (s.hasFence l i)) 0

/-- Live values of lanes, ports and their timing. -/
def State.viewLink (s : State) (idx sub : Nat) : Option Int :=
  if idx < 0x2064 then
    let x := s.lane (idx - 0x2000)
    if sub = 0x0B then some (if s.nat idx 0x0B = 0 then x.polarity else s.nat idx 0x0B : Nat)
    else if sub = 0x1C ∨ sub = 0x1D then some (s.checkerCount (idx - 0x2000) sub : Nat)
    else if sub = 0x23 then some ((x.retryAt.map (fun t => s.left t 1000000)).getD 0 : Nat)
    else none
  else if idx < 0x2160 then
    if sub = 0x0B then some (s.fixedDelay (idx - 0x2100)).1
    else if sub = 0x0C then some (s.fixedDelay (idx - 0x2100)).2
    else none
  else if 0x2200 ≤ idx ∧ idx < 0x2260 ∧ (sub = 0x0A ∨ sub = 0x0B) then some (s.fecCount (idx - 0x2200) sub : Nat)
  else if 0x2400 ≤ idx ∧ idx < 0x2460 then
    let p := idx - 0x2400
    if sub = 0x02 then
      some (setBit (s.nat idx 0x02) 3 (s.servingDetector (s.timingLane p) % 5 == 4) : Nat)
    else if sub = 0x05 then some (s.asymmetry p)
    else if sub = 0x08 then some (max 0 (s.internalRx p))
    else if sub = 0x09 then some (max 0 (s.internalTx p))
    else
      match s.presentS p with
      | none => if 0x0A ≤ sub ∧ sub ≤ 0x0C then some 0 else none
      | some m =>
        if sub = 0x0A then some m else if sub = 0x0B then some (s.splitDelay p m).1
        else if sub = 0x0C then some (s.splitDelay p m).2 else none
  else if 0x2500 ≤ idx ∧ idx < 0x2518 ∧ sub = 0x04 then some (s.replica (idx - 0x2500)).status
  else none

/-- Live values of tables, fabric, buffers and contracts. -/
def State.viewFrames (s : State) (idx sub : Nat) : Option Int :=
  if idx = 0x3000 ∧ sub = 0x09 then some (s.fdb.filter (fun e => e.2.testBit 95)).length
  else if idx = 0x3800 ∧ sub = 0x01 then some s.cycleInSecond
  else if idx = 0x3800 ∧ sub = 0x02 then some s.alignmentStatus
  else if 0x4000 ≤ idx ∧ idx < 0x4008 then
    let g := idx - 0x4000
    if sub = 0x01 then some (s.freeCells g)
    else if sub = 0x0E then some ((items 16).foldl (fun v j => setBit v j (s.hasFence .bank (16 * g + j))) 0 : Nat)
    else if sub = 0x11 then some (s.hostOccupancy g)
    else none
  else if 0x4100 ≤ idx ∧ idx < 0x4D00 ∧ sub = 0x07 then
    some (s.queueStatus ((idx - 0x4100) / 32) ((idx - 0x4100) % 32))
  else if idx = 0x5000 ∧ sub = 0x02 then
    some (s.contracts.filter (fun e => e.2.testBit 255 && field e.2 104 2 == 1)).length
  else if idx = 0x5000 ∧ sub = 0x08 then some (s.granule * 10 : Nat)
  else none

/-- Live values of time bases, compares and the capture ring. -/
def State.viewTime (s : State) (idx sub : Nat) : Option Int :=
  if 0x6000 ≤ idx ∧ idx < 0x6008 then
    let k := idx - 0x6000
    if sub = 0x04 then some (s.tbStatus k)
    else if sub = 0x05 then some (time80 (s.tbNow k))
    else if sub = 0x0E then some (s.rate k)
    else none
  else if 0x6100 ≤ idx ∧ idx < 0x6120 then
    let c := idx - 0x6100
    if sub = 0x08 then some (s.compare c).state
    else if sub = 0x09 then some (s.target c (s.compare c).index)
    else none
  else if 0x6200 ≤ idx ∧ idx < 0x6210 then (if sub = 0x0E then some (s.alignError (idx - 0x6200)) else none)
  else if idx = 0x6380 ∧ sub = 0x02 then some s.ring.length
  else none

/-- The engines with a thread halted by debug (18 R471). -/
def State.haltedEngines (s : State) : Nat := (items 16).foldl (fun v e => setBit v e (decide ((s.engine e).halted ≠ 0))) 0

/-- Collector status as read (15 R404). -/
def State.collectorStatus (s : State) : Nat :=
  let v := s.nat 0xA000 0x07 / 32 * 32
  let v := setBit v 4 s.firstFault.isSome
  let v := setBit v 3 (s.log.any (fun r => r.flags.testBit 5 && !r.flags.testBit 6))
  let v := setBit v 2 s.errN
  setBit (setBit v 1 (!s.windows.isEmpty)) 0 (!s.fences.isEmpty)

/-- Bytes of staging memory a session uses (16 R418). -/
def SessionX.staged (x : SessionX) : Nat :=
  x.held.foldl (fun n h => n + h.2.bytes.length) 0 + ((x.transfer.map (fun t => t.2.bytes.length)).getD 0) +
    ((x.snapshot.map (fun v => v.bytes.length)).getD 0)

/-- Live values of the hub. -/
def State.viewHub (s : State) (idx sub : Nat) : Option Int :=
  if 0x7000 ≤ idx ∧ idx < 0x7008 ∧ sub = 0x04 then (if s.slotPin (idx - 0x7000) then some 1 else none)
  else if 0x7020 ≤ idx ∧ idx < 0x7028 ∧ 0x20 ≤ sub ∧ sub ≤ 0x27 then some (s.timeQuality (idx - 0x7020) (sub - 0x20))
  else if 0x7040 ≤ idx ∧ idx < 0x7048 ∧ sub = 0x06 then some (if s.synthRuns (idx - 0x7040) then s.conditioned (idx - 0x7040) else 0)
  else if 0x7060 ≤ idx ∧ idx < 0x7070 ∧ sub = 0x07 then some (s.clockState (idx - 0x7060))
  else if idx = 0x9000 ∧ sub = 0x02 then some s.twinStatus
  else if idx = 0xA000 ∧ sub = 0x04 then some (s.log.length - s.logRead : Nat)
  else if idx = 0xA000 ∧ sub = 0x07 then some s.collectorStatus
  else if idx = 0xA010 ∧ sub = 0x01 then some (s.fenceMap .region)
  else if idx = 0xA010 ∧ sub = 0x02 then some (s.fenceMap .cluster)
  else if idx = 0xA010 ∧ sub = 0x05 then some (s.fenceMap .engine)
  else if idx = 0xC040 ∧ sub = 0x05 then some (if s.debugState = 1 then s.left s.security.grantUntil 1000000000 else 0 : Nat)
  else if idx = 0xC040 ∧ sub = 0x07 then some s.haltedEngines
  else if 0xF000 ≤ idx ∧ idx < 0xF008 ∧ sub = 0x05 then some (s.session (idx - 0xF000)).staged
  else none

/-- The number a read returns: live or stored; a WO entry reads 0 where it is read with its object (00 R11). -/
def State.readNum (s : State) (e : OdEntry) (idx sub : Nat) : Int :=
  if e.acc == .wo then 0
  else
    let live : Option Int :=
      if idx = 0x1000 ∧ sub = 0x0A then some (min ((s.now - s.start.since) / 1000000) (2 ^ 64 - 1) : Nat)
      else if idx < 0x2000 then none
      else if idx < 0x3000 then s.viewLink idx sub
      else if idx < 0x6000 then s.viewFrames idx sub
      else if idx < 0x7000 then s.viewTime idx sub
      else s.viewHub idx sub
    live.getD (s.reg idx sub)

/-! ## Byte strings -/

/-- The 16 bytes of a breach record (08 R220). -/
def Breach.bytes (b : Breach) : List Byte :=
  toBytes 2 b.contract ++ toBytes 1 b.code ++ toBytes 1 b.region ++ toBytes 8 b.time ++ toBytes 4 (wrapInt 32 b.detail)

/-- The fuse store as shown: a group or count of n fuses reads n ones; the root key digest is the fused one (18 R455, R471). -/
def State.fuseSummary (s : State) : List Byte :=
  let x := s.security
  let g := fun (i : Nat) => toBytes 1 (2 ^ (x.groups.getD i 0) - 1)
  let shown := fun (l : List Byte) => (l ++ List.replicate 48 0).take 48
  g 0 ++ g 1 ++ g 2 ++ toBytes 1 0 ++ shown (s.blob 0xC050 0x02) ++ shown x.slot0 ++ shown x.slot1 ++
    toBytes 1 (if x.slot0State = 3 then 0xFF else 0) ++ toBytes 8 (2 ^ s.nat 0xC030 0x03 - 1) ++ toBytes 8 (2 ^ s.nat 0xC030 0x04 - 1) ++
    toBytes 1 x.slot0State ++ toBytes 1 x.slot1State

/-- A map of `n` bytes, empty while no bit is set. -/
def mapBytes (n v : Nat) : List Byte := if v = 0 then [] else toBytes n v

/-- The safe-state record: the record, then the first fault as it stood (15 R395). -/
def State.safeBytes (s : State) : List Byte :=
  match s.safeRecord with
  | none => []
  | some (r, f) => r.bytes ++ (match f with
    | some x => x.bytes
    | none => List.replicate 16 0)

/-- Live byte strings. -/
def State.viewBytes (s : State) (idx sub : Nat) : Option (List Byte) :=
  if sub = 1 ∧ tableIndices.contains idx then some (s.tableBytes idx)
  else if idx = 0x3060 then
    some ((items 8).flatMap (fun g => (s.region g).dupWindow.flatMap (fun e => toBytes 12 e.2)))
  else if idx = 0x5000 ∧ sub = 0x05 then some (s.breaches.flatMap Breach.bytes)
  else if idx = 0x5020 then
    some (if s.contractX.isEmpty then []
      else (items 16384).flatMap (fun i =>
        let x := s.contractAt i
        toBytes 8 x.conforming ++ toBytes 8 x.outOfContract ++ toBytes 8 x.breaches))
  else if idx = 0xA000 ∧ sub = 0x01 then some ((s.firstFault.map Record.bytes).getD [])
  else if idx = 0xA010 ∧ sub = 0x03 then some (mapBytes 12 (s.fenceMap .port))
  else if idx = 0xA010 ∧ sub = 0x04 then some (mapBytes 16 (s.fenceMap .bank))
  else if idx = 0xA010 ∧ sub = 0x06 then some (mapBytes 27 (s.fenceMap .timestampUnit + 2 ^ 96 * s.fenceMap .detector))
  else if idx = 0xA0F0 then some s.safeBytes
  else if idx = 0xA100 then some (settingsBytes s.setting)
  else if idx = 0xA180 then
    some (if s.sourceCounts.isEmpty then [] else (items 1536).flatMap (fun n => toBytes 4 (Sparse.get 0 s.sourceCounts n)))
  else if idx = 0xB080 then some (mapBytes 96 s.overflow)
  else if idx = 0xC040 ∧ sub = 0x02 then some ((items 32).map (Config.randomByte s.security.challenge))
  else if idx = 0xC050 ∧ sub = 0x02 then some s.fuseSummary
  else if 0xF000 ≤ idx ∧ idx < 0xF008 ∧ sub = 0x04 then
    some ((s.session (idx - 0xF000)).claims.flatMap (fun c => toBytes 2 c.1 ++ toBytes 2 c.2))
  else none

/-- The bytes a read of an entry returns (R405). -/
def State.readBytes (s : State) (e : OdEntry) (idx sub : Nat) : List Byte :=
  if e.ty.isBlob then (if e.acc == .wo then [] else (s.viewBytes idx sub).getD (s.blob idx sub))
  else numBytes e.ty (s.readNum e idx sub)

/-- What a read does besides: an RC number is cleared; the time now latches its fraction and short time; the challenge's 60 s begin
(R406; 09 R253; 18 R466). -/
def State.readEffect (s : State) (e : OdEntry) (idx sub : Nat) : State :=
  if 0x4100 ≤ idx ∧ idx < 0x4D00 ∧ sub = 0x0F then s.setNat idx sub ((s.queue ((idx - 0x4100) / 32) ((idx - 0x4100) % 32)).occupancy)
  else if e.acc == .rc && !e.ty.isBlob then s.setReg idx sub 0
  else if 0x6000 ≤ idx ∧ idx < 0x6008 ∧ sub = 0x05 then
    let k := idx - 0x6000
    (s.setNat idx 0x06 (s.tbNow k % 65536)).setNat idx 0x07 (s.shortTime k)
  else if idx = 0xC040 ∧ sub = 0x02 then s.readChallenge
  else s

/-- A read of subindex 00h: every subentry but DOMAINs, in order, from one clock edge, a STRING behind its length in one byte; RC ones are cleared
(R405, R406; the length's size: DESIGN CHOICE, log entry 126). -/
def State.readAll (s : State) (idx : Nat) : List Byte × State :=
  match findObject idx with
  | none => ([], s)
  | some o =>
    let subs := o.entries.flatMap (fun e => ((items (e.hi + 1 - e.lo)).map (fun k => (e, e.lo + k))))
    (subs.filter (fun p => p.1.ty != .domain)).foldl (fun a p =>
      let (bytes, t) := a
      let value := t.readBytes p.1 idx p.2
      (bytes ++ (if p.1.ty == .string then toBytes 1 value.length else []) ++ value, t.readEffect p.1 idx p.2)) ([], s)

/-! ## The probe's reads (18_security_debug_states.md R465, R467) -/

/-- The word of engine `e` that the probe finds: what the probe last wrote where all four threads have stood halted, else a free value, for the
firmware's own stores are outside the model (R465; 17 R431). -/
def State.probeWord (s : State) (e a : Nat) (target : ProbeTarget) : Nat :=
  let x := s.engine e
  let free := (Config.engineWord s.now e a).toNat
  match target with
  | .breakpoint => ofBool (x.breakpoints.contains a)
  | .register => if x.halted = 15 then Sparse.get free x.registers a else free
  | .local_ => if x.halted = 15 then Sparse.get free x.memory a else free
  | .certificate => ofBytes ((s.blob 0xC050 0x01).drop a |>.take 4)
  | .fuses => ofBytes (s.fuseSummary.drop a |>.take 4)
  | .shared => if (items 16).all (fun k => (s.engine k).halted == 15) then Sparse.get free s.shared a else free

/-- PROBE_NONINTRUSIVE_ACCESS: outside CLOSED the probe reads a word of an engine's registers or memories, or of C050h, which the answer's detail shows, and changes
nothing (R465, R467). -/
def execProbeNonintrusiveAccess (e : EngineId) (address : BitVec 32) (target : ProbeTarget) (s : State) : Outcome State Fault Refusal :=
  .next (if s.debugState = 0 then s
    else s.answer 0 (s.probeWord e address.toNat target))

end Sys2Proof.Machine
end

