-- ==== Sys2Proof/Machine/Requests.lean ====
section
/-! DEFINITION. Requests of a session (16_object_dictionary.md R411 to R421): how one is received and answered, reads, writes into groups, claims,
and the turn of a commit. -/

namespace Sys2Proof.Machine

/-! ## Responses (R413, R414) -/

/-- What an answer says: status, detail and data (R414). -/
structure Reply where
  status : Nat := 0
  detail : Nat := 0
  data : List Byte := []
  /-- Segment flags: bit 0 first, bit 1 last (R413). -/
  flags : Nat := 3
deriving DecidableEq, Repr

/-- The header fields a response takes over from its request (R413). -/
structure Quest where
  type : Nat
  index : Nat := 0
  sub : Nat := 0
  group : Nat := 0xFF
  offset : Nat := 0
  /-- Where the response goes (R410). -/
  route : Route := {}
deriving DecidableEq, Repr

/-- The message of a response: header, status, detail and data, trailer (R413, R414; 18 R463). -/
def State.responseBytes (s : State) (n rid : Nat) (q : Quest) (r : Reply) : List Byte :=
  let payload := toBytes 1 r.status ++ toBytes 1 0 ++ toBytes 2 r.detail ++ r.data
  let x := s.session n
  let seq := x.accepted.headD 0
  let trailer := if x.keyed then toBytes 4 seq ++ (items 12).map (Config.trailerByte n seq) else List.replicate 16 0
  header (q.type + 128) n r.flags rid payload.length q.index q.sub q.group q.offset ++ payload ++ trailer

/-- Answer a request of session `n`; the last 16 answers are kept (R414), and one that is no success is counted (R428). -/
def State.respond (s : State) (n rid : Nat) (q : Quest) (r : Reply) : State :=
  let s := s.sendTo q.route (s.responseBytes n rid q r)
  let x := s.session n
  let s := s.setSession n { x with responses := ((⟨rid, r.status, r.detail, r.data, r.flags⟩ : Response) :: x.responses).take 16 }
  let s := if r.status = 0 then s else s.inc32 (0xF000 + n) 0x08
  s.answer r.status r.detail

/-- An answer that is not kept: to an open request, of a request that its session cannot answer for, or that failed its check (R413). -/
def State.reply (s : State) (n rid : Nat) (q : Quest) (r : Reply) : State :=
  (s.sendTo q.route (s.responseBytes n rid q r)).answer r.status r.detail

/-- A request turned away with a status. -/
def State.turnAway (s : State) (n rid : Nat) (q : Quest) (status detail : Nat) : State :=
  s.reply n rid q { status := status, detail := detail }

/-! ## Receiving a request -/

/-- Entries SN0 may read in SAFE; those of the security chapter not after FS1188 (R423; 18 R469). -/
def State.safeRead (s : State) (idx : Nat) : Bool :=
  [0x1000, 0xA000, 0xA010, 0xA0F0, 0xA180, 0xD000].contains idx ||
    (s.start.safeCause != some 1188 && [0xC000, 0xC030, 0xC040, 0xC050].contains idx)

/-- What of SN0 is served in SAFE: reads of those entries, the debug response and command, the claim of their index, and what keeps and ends a
session (R423; 18 R466, R469). -/
def State.safeServes (s : State) (n : Nat) (q : Quest) (last : Nat) : Bool :=
  n == 0 && (if q.type = 4 then s.safeRead q.index
    else if q.type = 2 ∨ q.type = 3 then true
    else if s.start.safeCause = some 1188 then false
    else if q.type = 5 then q.index == 0xC040 && (q.sub == 0x03 || q.sub == 0x06)
    else if q.type = 9 ∨ q.type = 10 then q.index == 0xC040 && last == 0xC040
    else false)

/-- Where the answer to a request of session `n` goes, which has arrived so (R410). -/
def State.routeOf (s : State) (n : Nat) (a : Arrival) : Route :=
  if n = 0 then {} else { transport := s.nat (0xF000 + n) 0x02, peer := s.blob (0xF000 + n) 0x0A, arrival := a }

/-- A message is one for the server: on CAN FD a request to the port's node ID; on Subrimi and raw Ethernet one that a management port has received for
an address of the device. In SAFE the port lanes are idle, and the twin lanes carry while the link still stands (R410, R423; 15 R396). -/
def State.arrives (s : State) (r : Route) : Bool :=
  let a := r.arrival
  if r.transport = 2 ∨ r.transport = 3 then a.function == 0 && a.destination == s.nat 0xF010 (0x05 + r.transport)
  else if r.transport = 4 then !s.isSafe && s.managementPort a.port && s.ownAddress a.destination
  else if r.transport = 5 then !s.isSafe && s.managementPort a.port && a.destination == s.managementMac
  else if r.transport = 6 then !s.isSafe || s.twin.linkUp
  else true

/-- A request arrives. Its session is open; with a session key its trailer must verify and its number be new, or one of the last 16, whose kept
response is returned; a request ID of the last 16 answers brings the kept response (R413, R414; 18 R463). Else it is counted and acts. Any of these keeps
the session alive (R409). -/
def State.serve (s : State) (rq : Request) (q : Quest) (last : Nat) (act : Route → State → State × Option Reply) : State :=
  let n := rq.session.val
  let route := s.routeOf n rq.arrival
  let q := { q with route := route }
  if !s.start.server ∨ !s.arrives route then s
  else if !s.sessionOpen n then s.turnAway n rq.rid q (if s.isSafe ∧ n ≠ 0 then 0x14 else 0x10) (if s.isSafe ∧ n ≠ 0 then s.runState else 0)
  else
    let x := s.session n
    let again := x.accepted.contains rq.seq
    if x.keyed && (!rq.macOk || (!again && !(x.accepted.all (fun a => decide (a < rq.seq))))) then
      (s.turnAway n rq.rid q 0x0F 0).inc32 (0xF000 + n) 0x08
    else match x.responses.find? (fun r => r.rid == rq.rid) with
      | some r =>
        let s := s.setSession n { x with lastRequest := s.now, route := route }
        (s.sendTo route (s.responseBytes n rq.rid q ⟨r.status, r.detail, r.data, r.flags⟩)).answer r.status r.detail
      | none =>
        if (x.keyed && again) || s.commits.any (fun c => c.session == n && c.rid == rq.rid) then
          s.setSession n { x with lastRequest := s.now, route := route }
        else
          let s := s.setSession n { x with
            lastRequest := s.now, route := route, accepted := if x.keyed then (rq.seq :: x.accepted).take 16 else x.accepted }
          let s := s.inc32 (0xF000 + n) 0x07
          if s.isSafe && !s.safeServes n q last then s.respond n rq.rid q { status := 0x14, detail := s.runState }
          else match act route s with
            | (s, some r) => s.respond n rq.rid q r
            | (s, none) => s

/-! ## Staging memory (R418) -/

/-- Bytes staged by all sessions. -/
def State.stagedAll (s : State) : Nat := (items 8).foldl (fun n k => n + (s.session k).staged) 0

/-- So many bytes more would exceed 2 MiB of the session or 4 MiB in all. -/
def State.overStaging (s : State) (n extra : Nat) : Bool :=
  decide (2097152 < (s.session n).staged + extra ∨ 4194304 < s.stagedAll + extra)

/-- Refused for staging memory, with the session's free KiB. -/
def State.stagingFull (s : State) (n : Nat) : Reply := { status := 0x0C, detail := (2097152 - (s.session n).staged) / 1024 }

/-! ## Reads (R406, R420) -/

/-- Data bytes of one segment, by the session's transport (R410). -/
def State.segmentSize (s : State) (n : Nat) : Nat :=
  let t := s.nat (0xF000 + n) 0x02
  if t = 2 ∨ t = 3 then 28 else 1024

/-- A DOMAIN at offset 0: its snapshot, and the first segment after the total length; a table's generation is the detail. -/
def State.readStart (s : State) (n idx sub : Nat) (value : List Byte) : State × Reply :=
  let x := s.session n
  let s := s.setSession n { x with snapshot := none }
  if s.overStaging n value.length then (s, s.stagingFull n)
  else
    let room := s.segmentSize n - 4
    let detail := if sub = 1 ∧ tableIndices.contains idx ∧ tableCode idx < 6 then s.generation (tableCode idx) else 0
    let left := if value.length ≤ room then none else some (OdValue.mk idx sub value)
    (s.setSession n { s.session n with snapshot := left },
      { detail := detail, data := toBytes 4 value.length ++ value.take room, flags := if left.isNone then 3 else 1 })

/-- A DOMAIN at a higher offset, from the snapshot; the read that reaches the end frees it. -/
def State.readOn (s : State) (n idx sub offset : Nat) : State × Reply :=
  let x := s.session n
  match x.snapshot with
  | none => (s, { status := 0x11 })
  | some v =>
    if v.index ≠ idx ∨ v.sub ≠ sub then (s, { status := 0x11 })
    else
      let k := s.segmentSize n
      let done := decide (v.bytes.length ≤ offset + k)
      (if done then s.setSession n { x with snapshot := none } else s, { data := slice v.bytes offset k, flags := if done then 2 else 0 })

/-- An RC DOMAIN: as many whole records as fit in one segment, which are consumed (R420; 09 R251; 15 R391). -/
def State.readRecords (s : State) (n idx : Nat) : State × Reply :=
  let k := s.segmentSize n / 16
  if idx = 0x6380 then
    let (b, s) := s.readRing k
    (s, { data := b })
  else
    let l := (s.log.drop s.logRead).take k
    ({ s with logRead := s.logRead + l.length }, { data := l.flatMap Record.bytes })

/-- A read of an entry by session `n` (R406, R408, R420). -/
def State.readEntry (s : State) (n idx sub offset : Nat) : State × Reply :=
  if (findObject idx).isNone then (s, { status := 0x01 })
  else if sub = 0 then
    let (b, s) := s.readAll idx
    (s, { data := b })
  else match findEntry idx sub with
    | none => (s, { status := 0x02 })
    | some e =>
      if e.acc == .wo then (s, { status := 0x03 })
      else if e.ty != .domain then (s.readEffect e idx sub, { data := s.readBytes e idx sub })
      else if e.acc == .rc then s.readRecords n idx
      else if offset = 0 then (s.readEffect e idx sub).readStart n idx sub (s.readBytes e idx sub)
      else s.readOn n idx sub offset

/-! ## Writes into groups (R416, R418, R419) -/

/-- Session `n` has claimed the index. -/
def State.claimed (s : State) (n idx : Nat) : Bool := (s.session n).claims.any (fun c => decide (c.1 ≤ idx ∧ idx ≤ c.2))

/-- What refuses a write before its value is looked at (R408, R416, R421, R424). -/
def State.writeFault (s : State) (n idx sub : Nat) : Option Reply :=
  if (findObject idx).isNone then some { status := 0x01 }
  else if sub = 0 then some { status := 0x03 }
  else match findEntry idx sub with
    | none => some { status := 0x02 }
    | some e =>
      let own := idx == 0xF000 + n
      if e.acc == .ro || e.acc == .rc then some { status := 0x03 }
      else if !own && !roleCovers (s.sessionRole n) (needRole idx sub) then some { status := 0x04 }
      else if mirrored idx sub && s.shadowInStep then some { status := 0x04, detail := 1 }
      else if !own && !s.claimed n idx then some { status := 0x05 }
      else none

/-- A write is turned away: one of a fence release for the role shows its reason (R421; 15 R399). -/
def State.refusedWrite (s : State) (idx sub : Nat) (bytes : List Byte) (r : Reply) : State × Reply :=
  (if idx = 0xA010 ∧ sub = 0x07 ∧ byteAt bytes 0 = 2 ∧ r.status = 0x04 ∧ r.detail = 0 then s.setNat 0xA010 0x08 4 else s, r)

/-- One segment of a DOMAIN in group `g` (4 = write-and-commit): a refusal, nothing yet, or the whole value (R419). -/
def State.takeSegment (s : State) (n g idx sub offset : Nat) (first last : Bool) (bytes : List Byte) :
    State × Except Reply (Option (List Byte)) :=
  let x := s.session n
  let gone := s.setSession n { x with transfer := none }
  let so_far := if first then some [] else
    (x.transfer.filter (fun t => t.1 == g && t.2.index == idx && t.2.sub == sub)).map (fun t => t.2.bytes)
  match so_far with
  | none => (gone, .error { status := 0x11 })
  | some b =>
    if offset ≠ b.length then (gone, .error { status := 0x11, detail := b.length / 1024 })
    else if s.overStaging n bytes.length then (s, .error (s.stagingFull n))
    else
      let all := b ++ bytes
      if !last then (s.setSession n { x with transfer := some (g, ⟨idx, sub, all⟩) }, .ok none)
      else
        let value := all.take (all.length - 4)
        if all.length < 4 ∨ numAt all (all.length - 4) 4 ≠ crc32 value then (gone, .error { status := 0x12 })
        else (gone, .ok (some value))

/-- A written value: of a DOMAIN segment by segment, of another type whole; its length, and for a MACsec association and a credential record what
its key says of it (R405, R419; 18 R462, R464). -/
def State.takeValue (s : State) (n g idx sub offset : Nat) (first last : Bool) (bytes : List Byte) (unwrapOk : Bool) :
    State × Except Reply (Option (List Byte)) :=
  match findEntry idx sub with
  | none => (s, .error { status := 0x02 })
  | some e =>
    let r := if e.ty == .domain then s.takeSegment n g idx sub offset first last bytes else (s, .ok (some bytes))
    match r with
    | (s, .ok (some v)) =>
      match lengthFault e idx sub v.length with
      | some k => (s, .error { status := 0x07, detail := k })
      | none =>
        if 0x2300 ≤ idx ∧ idx < 0x2360 ∧ !unwrapOk then (s, .error { status := 0x0F })
        else if idx = 0xC020 ∧ !unwrapOk ∧ !v.isEmpty then (s, .error { status := 0x09 })
        else (s, .ok (some v))
    | r => r

/-- The group of session `n`, but `g`, that holds an entry. -/
def State.heldIn (s : State) (n g idx sub : Nat) : Option Nat :=
  ((s.session n).held.find? (fun h => h.1 != g && h.2.index == idx && h.2.sub == sub)).map (·.1)

/-- A write-and-hold (R418). -/
def State.hold (s : State) (n g idx sub offset : Nat) (first last : Bool) (bytes : List Byte) (unwrapOk : Bool) : State × Reply :=
  match s.writeFault n idx sub with
  | some r => s.refusedWrite idx sub bytes r
  | none =>
    if (s.session n).waiting = some g then (s, { status := 0x15 })
    else match s.heldIn n g idx sub with
      | some h => (s, { status := 0x0D, detail := h })
      | none =>
        match s.takeValue n g idx sub offset first last bytes unwrapOk with
        | (s, .error r) => (s, r)
        | (s, .ok none) => (s, {})
        | (s, .ok (some v)) =>
          let x := s.session n
          let others := x.held.filter (fun h => !(h.1 == g && h.2.index == idx && h.2.sub == sub))
          let was := x.staged - ({ x with held := others } : SessionX).staged
          if s.overStaging n (v.length - was) then (s, s.stagingFull n)
          else (s.setSession n { x with held := others ++ [(g, ⟨idx, sub, v⟩)] }, {})

/-! ## Claims (R415, R416) -/

/-- A claim of a range. -/
def State.claim (s : State) (n first last : Nat) : State × Reply :=
  let overlaps := fun (c : Nat × Nat) => decide (c.1 ≤ last ∧ first ≤ c.2)
  if !roleCovers (s.sessionRole n) .operate then (s, { status := 0x04 })
  else if last < first then (s, { status := 0x08 })
  else match (items 8).find? (fun m => m != n && (s.session m).claims.any overlaps) with
    | some m => (s, { status := 0x06, detail := m })
    | none =>
      let x := s.session n
      if 8 ≤ x.claims.length then (s, { status := 0x09 })
      else (s.setSession n { x with claims := x.claims ++ [(first, last)] }, {})

/-- A claim without a range: what lies below it and what lies above (R416). -/
def cutClaim (first last : Nat) (c : Nat × Nat) : List (Nat × Nat) :=
  if last < c.1 ∨ c.2 < first then [c]
  else (if c.1 < first then [(c.1, first - 1)] else []) ++ (if last < c.2 then [(last + 1, c.2)] else [])

/-- A release of a range: values held and a transfer outside every claim are discarded, but for the session's own entry (R416, R425). -/
def State.release (s : State) (n first last : Nat) : State × Reply :=
  let x := s.session n
  let cut := x.claims.flatMap (cutClaim first last)
  let stays := fun (i : Nat) => i == 0xF000 + n || cut.any (fun c => decide (c.1 ≤ i ∧ i ≤ c.2))
  if last < first ∨ !x.claims.any (fun c => decide (c.1 ≤ last ∧ first ≤ c.2)) then (s, {})
  else if 8 < cut.length then (s, { status := 0x09 })
  else (s.setSession n { x with
    claims := cut
    held := x.held.filter (fun h => stays h.2.index)
    transfer := x.transfer.filter (fun t => stays t.2.index) }, {})

/-- The abort of a group; of one whose commit waits it is refused (R418). -/
def State.abort (s : State) (n g : Nat) : State × Reply :=
  let x := s.session n
  if x.waiting = some g then (s, { status := 0x15 })
  else (s.setSession n { x with held := x.held.filter (fun h => h.1 != g), transfer := x.transfer.filter (fun t => t.1 != g) }, {})

/-! ## Commits in turn (R417, R418, R425) -/

/-- Entries named as written by firmware (R417; 05 R115; 09 R233, R235, R253; 11 R301, R311; 17 R441; 18 R460). -/
def firmwareWrites (idx sub : Nat) : Bool :=
  (decide (0x6000 ≤ idx ∧ idx < 0x6008) && (sub == 0x09 || sub == 0x0A || sub == 0x0F || sub == 0x12)) ||
  (decide (0x7020 ≤ idx ∧ idx < 0x7028) && decide (0x18 ≤ sub ∧ sub ≤ 0x27)) ||
  (decide (0x2300 ≤ idx ∧ idx < 0x2360) && sub == 0x01) ||
  (decide (0x3100 ≤ idx ∧ idx < 0x3160) && sub == 0x0F) ||
  (idx == 0xB080 && sub == 0x06)

/-- The entries an owner application may write: the settings of the monitors (18 R460). -/
def applicationWrites (idx sub : Nat) : Bool := decide (0xE000 ≤ idx ∧ idx < 0xE010) && decide (1 ≤ sub ∧ sub ≤ 4)

/-- What a firmware write does that acts at its commit: it steers and sets under the firmware's own rules, a set with the instant of the engine's
write; anything else as a host's does (09 R226, R235; 11 R304). -/
def firmwareCommand (w : Writer) (values : List OdValue) (issued : Nat) (s : State) (v : OdValue) : State :=
  let k := v.index - 0x6000
  if 0x6000 ≤ v.index ∧ v.index < 0x6008 ∧ v.sub = 0x0F then after s (execSteeringOffsetWrite (Fin.ofNat 8 k) none (numOf .i32 v.bytes) s)
  else if 0x6000 ≤ v.index ∧ v.index < 0x6008 ∧ v.sub = 0x09 then
    if !s.firmwareMaySet k then s.answer 0x04 0
    else s.setRequest k (numAt v.bytes 0 6) (numAt v.bytes 6 4) (((valueOf values v.index 0x0A).map (fun x => ofBytes x.bytes)).getD 0) issued
  else hostCommand w values s v

/-- A value of a firmware write takes effect: slot offsets and qualities reach their selectors. -/
def State.firmwareOffset (s : State) (v : OdValue) : State :=
  let k := v.index - 0x7020
  (if v.sub < 0x20 then s.slotOffsetSeen k (v.sub - 0x18) (numOf .i64 v.bytes)
    else s.setNat v.index v.sub (ofBytes v.bytes)).refsUpdate

/-- A firmware write takes effect in its turn: slot offsets and qualities reach their selectors, other entries are committed; a refused one is
counted (R417, R428; 11 R295, R296). -/
def State.firmwareNow (s : State) (values : List OdValue) (issued : Nat) : State :=
  let w : Writer := { who := 255 }
  match values with
  | [] => s
  | v :: _ =>
  if 0x7020 ≤ v.index ∧ v.index < 0x7028 then
    (s.firmwareOffset v).recordCommit s w values
  else match s.judgeCommit w values (firmwareCommand w values issued) with
    | some f => (s.refuseCommit f).answer f.code f.detail
    | none => s.commitNow w values (firmwareCommand w values issued)

/-- A firmware write arrives: it takes effect at once, or in its turn behind the commits that wait (R417). -/
def State.firmwareWrite (s : State) (values : List OdValue) : State :=
  if s.mustWait values then { s with commits := s.commits ++ [{ session := 255, values := values, arrived := s.now }] }
  else s.firmwareNow values s.now

/-- A set by the firmware: TIME80 and fraction of its value (09 R235). -/
def setValues (k seconds nanoseconds fraction : Nat) : List OdValue :=
  [⟨0x6000 + k, 0x09, toBytes 6 seconds ++ toBytes 4 nanoseconds⟩, ⟨0x6000 + k, 0x0A, toBytes 2 fraction⟩]

/-- Who commits: the session at its present role, one that has closed since at the role it held (R425). -/
def State.writerOf (s : State) (c : PendingCommit) : Writer := { who := c.session, role := c.role.getD (s.sessionRole c.session) }

/-- The commit's session still waits for its response. -/
def State.awaits (s : State) (c : PendingCommit) : Bool :=
  decide (c.rid < 65536) && s.sessionOpen c.session && (s.session c.session).waiting.isSome

/-- The response to a commit: to a write-and-commit or to the commit of a group. -/
def State.respondCommit (s : State) (c : PendingCommit) (r : Reply) : State :=
  if !s.awaits c then s
  else
    let x := s.session c.session
    let q : Quest := { type := if x.waiting = some 4 then 5 else 7, group := if x.waiting = some 4 then 0xFF else x.waiting.getD 0xFF, route := c.route }
    (s.setSession c.session { x with waiting := none }).respond c.session c.rid q r

/-- The value on which a commit failed was the write of a record during which its module was removed: the record is undefined (04 R108). -/
def State.tornWrite (s : State) (v : OdValue) (f : Verdict) : State :=
  let p := v.index - 0x2100
  if f.code == 0x09 && decide (0x2100 ≤ v.index ∧ v.index < 0x2160) && v.sub == 0x0F && v.bytes.length == 64 && (s.port p).modulePresent &&
      Config.messageRecordEnd (s.nat 0xF020 0x01) == RecordWriteEnd.moduleRemoved then s.tearRecord p
  else s

/-- A commit is refused: its values stay held; a refused fence release shows its reason (R418; 15 R399). -/
def State.refuse (s : State) (c : PendingCommit) (f : Verdict) : State :=
  let w := s.writerOf c
  let failing := s.firstFailing w c.values (hostCommand w c.values)
  let fence := (failing.filter (fun p => p.1.index == 0xA010 && p.1.sub == 0x07 && byteAt p.1.bytes 0 == 2)).isSome
  let s := (match failing with
    | some (v, why) => s.tornWrite v why
    | none => s).refuseCommit f
  let s := if fence ∧ f.code = 0x09 ∧ 1 ≤ f.detail ∧ f.detail ≤ 3 then s.setNat 0xA010 0x08 f.detail
    else if fence ∧ f.code = 0x04 ∧ f.detail = 0 then s.setNat 0xA010 0x08 4 else s
  s.respondCommit c { status := f.code, detail := f.detail }

/-- A commit that no session made takes effect in its turn: of the firmware, of the mirror, or one of the mirror's tried again (R417; 14 R364,
R366). -/
def State.internalNow (s : State) (c : PendingCommit) : State :=
  if c.session = 255 then s.firmwareNow c.values c.arrived
  else match c.epoch with
    | some e => s.takeMirror e c.values
    | none => s.retryOne c.values

/-- Commits take their turn: the first of a host that passes waits for its commit point; one that fails is refused, one of the device's own acts,
when no table of it still folds (R417, R418; 05 R138). -/
def State.takeTurns : Nat → State → State
  | 0, s => s
  | k + 1, s =>
    match s.commits with
    | [] => s
    | c :: rest =>
      let t := { s with commits := rest }
      if 8 ≤ c.session then (if s.foldsStill c.values then s else State.takeTurns k (t.internalNow c))
      else
        let w := s.writerOf c
        match s.judgeCommit w c.values (hostCommand w c.values) with
        | none => s
        | some f => State.takeTurns k (t.refuse c f)

/-- The commits that arrived in the same server cycle from higher session numbers go behind this one (R425). -/
def goesBehind (c x : PendingCommit) : Bool := x.arrived == c.arrived && decide (x.session < 8 ∧ c.session < x.session)

/-- A commit arrives in the queue, before those of the same cycle from higher sessions; at the front, its turn comes at once (R418, R425). -/
def State.enqueueCommit (s : State) (c : PendingCommit) : State :=
  let c := { c with arrived := s.now }
  let earlier := s.commits.takeWhile (fun x => !goesBehind c x)
  let s := { s with commits := earlier ++ c :: s.commits.drop earlier.length }
  if earlier.isEmpty then s.takeTurns 1 else s

/-- Sequence and time of a commit's response (R414). -/
def State.commitData (s : State) : List Byte := toBytes 4 (s.nat 0xF020 0x01) ++ toBytes 8 (s.shortTime 0)

/-- The commit of a group: an empty one succeeds and changes nothing (R418). -/
def State.commitGroup (s : State) (n rid g : Nat) (route : Route) : State × Option Reply :=
  let x := s.session n
  let values := (x.held.filter (fun h => h.1 == g)).map (·.2)
  if x.waiting.isSome then (s, some { status := 0x15 })
  else if values.isEmpty then (s, some { data := s.commitData })
  else ((s.setSession n { x with waiting := some g }).enqueueCommit { session := n, rid := rid, values := values, route := route }, none)

/-- A write-and-commit: a group of its own (R418). -/
def State.writeCommit (s : State) (n rid idx sub offset : Nat) (first last : Bool) (bytes : List Byte) (unwrapOk : Bool)
    (route : Route) : State × Option Reply :=
  match s.writeFault n idx sub with
  | some r =>
    let (s, r) := s.refusedWrite idx sub bytes r
    (s, some r)
  | none =>
    if (s.session n).waiting.isSome then (s, some { status := 0x15 })
    else match s.heldIn n 4 idx sub with
      | some h => (s, some { status := 0x0D, detail := h })
      | none =>
        match s.takeValue n 4 idx sub offset first last bytes unwrapOk with
        | (s, .error r) => (s, some r)
        | (s, .ok none) => (s, some {})
        | (s, .ok (some v)) =>
          ((s.setSession n { s.session n with waiting := some 4 }).enqueueCommit
            { session := n, rid := rid, values := [⟨idx, sub, v⟩], route := route }, none)

/-! ## The commit point (R418, R425, R428) -/

/-- The transports whose settings differ between two states (R428). -/
def State.transportsChanged (was s : State) : List Nat :=
  let num := fun (k : Nat) => was.nat 0xF010 k != s.nat 0xF010 k
  let dif := fun (k : Nat) => was.blob 0xF010 k != s.blob 0xF010 k
  ((items 6).filter (fun b => (was.nat 0xF010 0x02).testBit b != (s.nat 0xF010 0x02).testBit b)).map (· + 1) ++
    (if dif 0x03 then [4, 5] else []) ++ (if num 0x04 || dif 0x05 || num 0x06 then [4] else []) ++
    (if num 0x07 then [2] else []) ++ (if num 0x08 then [3] else []) ++ (if num 0x09 || num 0x0A then [2, 3] else [])

/-- Every session on one of these transports closes (R409, R428). -/
def State.closeTransports (s : State) (l : List Nat) : State :=
  (items 8).foldl (fun a n =>
    if a.nat (0xF000 + n) 0x01 ≠ 0 ∧ l.contains (a.nat (0xF000 + n) 0x02) then a.closeSession n else a) s

/-- The commit in front takes effect as validated, is answered, and sessions of changed transports close; an arm or a step that fails its test
now refuses the commit (R418, R425, R428; 09 R234, R239). -/
def State.commitFront (s : State) (c : PendingCommit) : State :=
  let w := s.writerOf c
  if !s.instantOk c.values then s.refuse c { code := 0x09 }
  else
    let t := s.commitNow w c.values (hostCommand w c.values)
    let t := if t.awaits c then
        let x := t.session c.session
        let t := t.setSession c.session { x with held := x.held.filter (fun h => some h.1 != x.waiting) }
        t.respondCommit c { data := t.commitData }
      else t
    t.closeTransports (State.transportsChanged s t)

end Sys2Proof.Machine
end

