-- ==== Sys2Proof/Machine/Server.lean ====
section
/-! DEFINITION. The rows of the object-dictionary server (16_object_dictionary.md R409 to R425; 18 R461 to R464): opening and closing sessions,
requests, the SPI target, the firmware's port and the commit point. -/

namespace Sys2Proof.Machine

open Host (Outcome)

/-! ## Opening (18 R461) -/

/-- Whether a session may open without a credential, at a role, as SN`n` (18 R452). -/
def State.anonymousOk (s : State) (n : Nat) (role : Role) : Bool :=
  if s.lifecycle = 0 then true
  else if s.lifecycle = 3 then n == 0 && role == .observe
  else (role == .observe && s.flag 0xC000 0x06) || (n == 0 && decide (role.code ≤ s.nat 0xC000 0x07))

/-- The session an open request takes: SN0 for the SPI target, else the lowest free one (R409). -/
def State.freeSession (s : State) (transport : Nat) : Option Nat :=
  if transport = 1 then some 0 else ((items 7).map (· + 1)).find? (fun n => s.nat (0xF000 + n) 0x01 == 0)

/-- A transport reaches the server: it is switched on, and in a start, while no port and no twin lane is up, it is the SPI target or CAN FD (R410,
R423). -/
def State.reaches (s : State) (transport : Nat) : Bool :=
  s.start.server && decide (1 ≤ transport) && (s.isUp || s.isSafe || decide (transport ≤ 3)) &&
    (transport == 1 || s.bit 0xF010 0x02 (transport - 1))

/-- A session's entries and fields as it opens or begins to open; a session that is re-authenticated keeps its claims and held values (R425). -/
def State.openAs (s : State) (n state : Nat) (role : Role) (credential : Nat) (keyed : Bool) (route : Route) : State :=
  let i := 0xF000 + n
  let fresh := s.nat i 0x01 == 0
  let x := if fresh then { outbox := (s.session n).outbox } else s.session n
  let s := s.setSession n { x with
    credential := credential, asked := role.code, keyed := keyed, accepted := [], responses := [], lastRequest := s.now, route := route }
  let s := if fresh then [0x06, 0x07, 0x08, 0x09].foldl (fun a k => a.setNat i k 0) s else s
  (((s.setNat i 0x01 state).setNat i 0x02 route.transport).setNat i 0x03 (if state = 2 then role.code else 0)).setBlob i 0x0A route.peer

/-- The first open request (18 R461). -/
def State.openFirst (s : State) (rid : Nat) (role : Role) (credential : Nat) (route : Route) : State :=
  let transport := route.transport
  let q : Quest := { type := 1, route := route }
  if !s.reaches transport ∨ !s.arrives route then s
  else if s.isSafe ∧ transport ≠ 1 then s.turnAway 0xFF rid q 0x14 s.runState
  else if transport = 6 ∧ !s.twin.linkUp then s.answer 0x10 0
  else match s.freeSession transport with
    | none => s.turnAway 0xFF rid q 0x10 0
    | some n =>
      let data := toBytes 1 n ++ (items 208).map (Config.handshakeByte n s.now)
      if credential = 255 then
        if s.anonymousOk n role then
          (s.openAs n 2 role 255 (decide (1 ≤ role.code)) route).reply n rid q { data := data }
        else s.turnAway n rid q 0x04 0
      else if 16 ≤ credential ∨ (s.blob 0xC020 (credential + 1)).isEmpty ∨ s.lifecycle = 0 ∨ s.lifecycle = 3 then s.turnAway n rid q 0x0F 0
      else
        (s.openAs n 1 role credential false route).reply n rid q { data := data }

/-- The second open request: the host's signature verifies, and the credential permits role and transport (18 R461, R462). -/
def State.openSecond (s : State) (rid n : Nat) (signatureOk : Bool) (arrival : Arrival) : State :=
  let i := 0xF000 + n
  let route := s.routeOf n arrival
  let q : Quest := { type := 1, route := route }
  let x := s.session n
  let record := s.blob 0xC020 (x.credential + 1)
  if !s.start.server ∨ !s.arrives route then s
  else if s.nat i 0x01 ≠ 1 then s.turnAway n rid q 0x10 0
  else if s.isSafe ∧ n ≠ 0 then s.turnAway n rid q 0x14 s.runState
  else if !signatureOk then s.turnAway n rid q 0x0F 0
  else if byteAt record 96 < x.asked ∨ !(byteAt record 98).testBit (s.nat i 0x02 - 1) then s.turnAway n rid q 0x04 0
  else
    let s := s.setSession n { x with keyed := true, lastRequest := s.now, route := route }
    ((s.setNat i 0x01 2).setNat i 0x03 x.asked).reply n rid q { data := toBytes 1 n }

/-- OPEN_REQUEST (18 R461). -/
def execOpenRequest (transport : Fin 7) (role : Role) (credential : Nat) (peer : List Byte) (arrival : Arrival) (s : State) :
    Outcome State Fault Refusal :=
  .next (s.openFirst 0 role credential { transport := transport, peer := peer, arrival := arrival })

/-- OPEN_CONFIRM (18 R461). -/
def execOpenConfirm (sn : SessionId) (signatureOk : Bool) (arrival : Arrival) (s : State) : Outcome State Fault Refusal :=
  .next (s.openSecond 0 sn signatureOk arrival)

/-! ## Requests -/

/-- A close request: answered, then the session closes (R409). -/
def State.requestClose (s : State) (rq : Request) : State :=
  let n := rq.session.val
  let t := s.serve rq { type := 2 } 0 (fun _ s => (s.setNat (0xF000 + n) 0x01 1, some {}))
  if s.sessionOpen n ∧ t.nat (0xF000 + n) 0x01 = 1 then
    let out := (t.session n).outbox
    let t := t.closeSession n
    t.setSession n { t.session n with outbox := out }
  else t

/-- CLOSE (R409). -/
def execClose (rq : Request) (s : State) : Outcome State Fault Refusal := .next (s.requestClose rq)

/-- KEEPALIVE (R409). -/
def State.requestKeepalive (s : State) (rq : Request) : State := s.serve rq { type := 3 } 0 (fun _ s => (s, some {}))
def execKeepalive (rq : Request) (s : State) : Outcome State Fault Refusal := .next (s.requestKeepalive rq)

/-- READ (R406, R420). -/
def State.requestRead (s : State) (rq : Request) (idx sub offset : Nat) : State :=
  s.serve rq { type := 4, index := idx, sub := sub, offset := offset } 0 (fun _ s =>
    let (t, r) := s.readEntry rq.session idx sub offset
    (t, some r))
def execRead (rq : Request) (index : BitVec 16) (sub : BitVec 8) (offset : Nat) (s : State) : Outcome State Fault Refusal :=
  .next (s.requestRead rq index.toNat sub.toNat offset)

/-- WRITE_AND_HOLD (R418, R419). -/
def State.requestHold (s : State) (rq : Request) (g idx sub offset : Nat) (first last : Bool) (bytes : List Byte) (unwrapOk : Bool) : State :=
  s.serve rq { type := 6, index := idx, sub := sub, group := g, offset := offset } 0 (fun _ s =>
    let (t, r) := s.hold rq.session g idx sub offset first last bytes unwrapOk
    (t, some r))
def execWriteAndHold (rq : Request) (group : Fin 4) (index : BitVec 16) (sub : BitVec 8) (offset : Nat) (first last : Bool)
    (bytes : List Byte) (unwrapOk : Bool) (s : State) : Outcome State Fault Refusal :=
  .next (s.requestHold rq group index.toNat sub.toNat offset first last bytes unwrapOk)

/-- WRITE_AND_COMMIT (R418, R419). -/
def State.requestWrite (s : State) (rq : Request) (idx sub offset : Nat) (first last : Bool) (bytes : List Byte) (unwrapOk : Bool) : State :=
  s.serve rq { type := 5, index := idx, sub := sub, offset := offset } 0 (fun route s =>
    s.writeCommit rq.session rq.rid idx sub offset first last bytes unwrapOk route)
def execWriteAndCommit (rq : Request) (index : BitVec 16) (sub : BitVec 8) (offset : Nat) (first last : Bool) (bytes : List Byte)
    (unwrapOk : Bool) (s : State) : Outcome State Fault Refusal :=
  .next (s.requestWrite rq index.toNat sub.toNat offset first last bytes unwrapOk)

/-- COMMIT (R418). -/
def State.requestCommit (s : State) (rq : Request) (g : Nat) : State :=
  s.serve rq { type := 7, group := g } 0 (fun route s => s.commitGroup rq.session rq.rid g route)
def execCommit (rq : Request) (group : Fin 4) (s : State) : Outcome State Fault Refusal := .next (s.requestCommit rq group)

/-- ABORT_GROUP (R418). -/
def State.requestAbort (s : State) (rq : Request) (g : Nat) : State :=
  s.serve rq { type := 8, group := g } 0 (fun _ s =>
    let (t, r) := s.abort rq.session g
    (t, some r))
def execAbortGroup (rq : Request) (group : Fin 4) (s : State) : Outcome State Fault Refusal := .next (s.requestAbort rq group)

/-- CLAIM (R415). -/
def State.requestClaim (s : State) (rq : Request) (first last : Nat) : State :=
  s.serve rq { type := 9, index := first } last (fun _ s =>
    let (t, r) := s.claim rq.session first last
    (t, some r))
def execClaim (rq : Request) (first last : BitVec 16) (s : State) : Outcome State Fault Refusal :=
  .next (s.requestClaim rq first.toNat last.toNat)

/-- RELEASE (R416). -/
def State.requestRelease (s : State) (rq : Request) (first last : Nat) : State :=
  s.serve rq { type := 10, index := first } last (fun _ s =>
    let (t, r) := s.release rq.session first last
    (t, some r))
def execRelease (rq : Request) (first last : BitVec 16) (s : State) : Outcome State Fault Refusal :=
  .next (s.requestRelease rq first.toNat last.toNat)

/-- FAULT_RECORDS_READ: a read of A000h.03 (15 R391). -/
def execFaultRecordsRead (rq : Request) (s : State) : Outcome State Fault Refusal := .next (s.requestRead rq 0xA000 0x03 0)

/-- CAPTURE_RING_READ: a read of 6380h.01 (09 R251). -/
def execCaptureRingRead (rq : Request) (s : State) : Outcome State Fault Refusal := .next (s.requestRead rq 0x6380 0x01 0)

/-! ## Commits -/

/-- COMMIT_POINT: the commit whose turn it is takes effect, and those behind it take their turn; a table that still folds, or a busy bus of a
record write, makes it wait, and a configuration hold that waited for the last commit ends (R418; 05 R139; 04 R104; 19 R484). -/
def execCommitPoint (s : State) : Outcome State Fault Refusal :=
  .next (match s.commits with
    | [] => s
    | c :: rest =>
      if s.foldsStill c.values || s.busWaits c.values then s
      else
        let t := if 8 ≤ c.session then s else ({ s with commits := rest }).commitFront c
        let t := t.takeTurns t.commits.length
        if t.commits.isEmpty ∧ t.start.holdOver then t.endHold else t)

/-- REGISTER_WRITE: a committed value of an entry without a behaviour of its own is stored as a commit of its own, in its turn
(R418). -/
def execRegisterWrite (index : BitVec 16) (sub : BitVec 8) (bytes : List Byte) (s : State) : Outcome State Fault Refusal :=
  let v : OdValue := ⟨index.toNat, sub.toNat, bytes⟩
  let w : Writer := { who := 255 }
  .next (if !s.served then s.answer 0x14 s.runState
    else match findEntry v.index v.sub with
      | none => s.answer (if (findObject v.index).isNone then 0x01 else 0x02) 0
      | some e =>
        if e.acc != .rw || isCommand v.index v.sub then s.answer 0x03 0
        else match lengthFault e v.index v.sub bytes.length with
          | some k => s.answer 0x07 k
          | none =>
            if s.mustWait [v] then { s with commits := s.commits ++ [{ session := 255, values := [v] }] }
            else match s.judgeNow w [v] noCommand with
            | some f => (s.refuseCommit f).answer f.code f.detail
            | none => (s.commitNow w [v] noCommand).done)

/-- The image that engine `e` runs may write the entry: the base image what is named as the firmware's, an owner application the monitors
(R417; 18 R460). -/
def State.imageWrites (s : State) (e idx sub : Nat) : Bool :=
  if (s.engine e).running = 0 then firmwareWrites idx sub else applicationWrites idx sub

/-- DICTIONARY_PORT_WRITE: a running thread writes an entry: at once, or behind the commits that wait; an entry its image may not write traps the
thread, and the cause and address kept are free values (R417, R425; 17 R433; 18 R460). -/
def execDictionaryPortWrite (thread : Fin 64) (index : BitVec 16) (sub : BitVec 8) (bytes : List Byte) (s : State) :
    Outcome State Fault Refusal :=
  let v : OdValue := ⟨index.toNat, sub.toNat, bytes⟩
  let e := thread.val / 4
  .next (if !s.served ∨ !s.threadRuns e (thread.val % 4) then s
    else if !s.imageWrites e v.index v.sub then
      s.trap e (thread.val % 4) (Config.portTrapCause v.index v.sub) (Config.portTrapAddress v.index v.sub)
    else if (findEntry v.index v.sub).all (fun x => (lengthFault x v.index v.sub bytes.length).isSome) then s
    else s.firmwareWrite [v])

/-- SET: a host with OWN, or the firmware while the time base is unset and may be set by it; the value is that of the commit point or of the engine's
write. The firmware's takes its turn among the commits (R417; 09 R235). -/
def execSet (host : Option Role) (tb : TbId) (seconds nanoseconds fraction : Nat) (s : State) : Outcome State Fault Refusal :=
  .next (match host with
    | some role => s.hostWrite role (0x6000 + tb) 0x09 fun s => s.setRequest tb seconds nanoseconds fraction s.now
    | none =>
      if !s.served then s.answer 0x14 s.runState
      else if 2 ^ 48 ≤ seconds ∨ 1000000000 ≤ nanoseconds then s.outOfRange 0x09
      else if 65536 ≤ fraction then s.outOfRange 0x0A
      else s.done.firmwareWrite (setValues tb seconds nanoseconds fraction))

/-- The firmware sets an unset time base from a candidate where it may: to its value less the slot's offset (11 R299; log entry 29). -/
def State.setFromCandidate (s : State) (k n : Nat) : State :=
  if !s.firmwareMaySet k || s.candidacy k n != 2 || (s.tb k).pendingSet.isSome || !s.served then s
  else
    let t := ((s.tbNow k : Int) - s.reg (0x7020 + k) (0x18 + n)).toNat
    s.firmwareWrite (setValues k (t / 65536 / 1000000000) (t / 65536 % 1000000000) (t % 65536))

/-- CANDIDATE_GUARD_EXPIRY: the conditions of 11 R295 have held for the guard time: the slot is a candidate or held, and an unset time base is set from
it where the firmware may (11 R299, R306). -/
def execCandidateGuardExpiry (n : SlotId) (tb : TbId) (s : State) : Outcome State Fault Refusal :=
  .next (if s.candidacy tb n = 1 ∧ s.candidateFit tb n then (s.guardOver tb n).setFromCandidate tb n else s)

/-! ## Sessions that end by themselves -/

/-- No request has arrived from session `n` for the session timeout (R409). -/
def State.sessionSilent (s : State) (n : Nat) : Bool := decide ((s.session n).lastRequest + s.nat 0xF010 0x01 * 1000000000 ≤ s.now)

/-- SESSION_TIMEOUT: no request for the session timeout (R409). -/
def execSessionTimeout (sn : SessionId) (s : State) : Outcome State Fault Refusal :=
  .next (if s.nat (0xF000 + sn) 0x01 = 0 ∨ !s.sessionSilent sn then s else s.closeSession sn)

/-- TRANSPORT_LOST: a CAN FD port in bus-off, or the twin relay while the Keacon link is down; the others are never lost (R409, R410). -/
def execTransportLost (transport : Fin 7) (s : State) : Outcome State Fault Refusal :=
  .next (if transport = 2 ∨ transport = 3 ∨ (transport = 6 ∧ !s.twin.linkUp) then s.closeTransports [transport.val] else s)

/-- SNAPSHOT_TIMEOUT: 1 s without a read of it (R420). -/
def execSnapshotTimeout (sn : SessionId) (s : State) : Outcome State Fault Refusal :=
  .next (s.setSession sn { s.session sn with snapshot := none })

/-! ## Relay and SPI target (R411, R412) -/

/-- The relaying device's own answer to a request flagged for the twin, under the request's header fields (R411, R413, R423). -/
def State.relayAnswer (s : State) (route : Route) (m : List Byte) (status detail : Nat) : State :=
  s.turnAway (byteAt m 2) (numAt m 4 2)
    { type := byteAt m 1, index := numAt m 8 2, sub := byteAt m 10, group := byteAt m 11, offset := numAt m 12 4, route := route } status detail

/-- A request flagged for the twin is passed on unchanged in a Keacon frame of class 5, and the twin's response is passed back to where it came from; while
the link is down it is answered with 10h (R411). -/
def State.relay (s : State) (route : Route) (message : List Byte) (response : Option (List Byte)) : State :=
  if !s.start.server ∨ !s.reaches route.transport ∨ !s.arrives route then s
  else if s.isSafe then s.relayAnswer route message 0x14 s.runState
  else if !s.twin.linkUp then s.relayAnswer route message 0x10 0
  else
    let s := { s with twin := { s.twin with relayWaiting := s.twin.relayWaiting ++ [message] } }.done
    match response with
    | some m => s.sendTo route m
    | none => s

/-- RELAYED_REQUEST: `response` is what the twin's server answers, where it does (R411). -/
def execRelayedRequest (route : Route) (message : List Byte) (response : Option (List Byte)) (s : State) : Outcome State Fault Refusal :=
  .next (s.relay route message response)

/-- SPI_SEND_REQUEST: one request message; one that is no message of R413 is ignored (R412, R413). `macOk` says whether trailer or signature
verifies, `response` is the twin's to a relayed one. -/
def State.spiRequest (s : State) (m : List Byte) (macOk unwrapOk : Bool) (response : Option (List Byte)) : State :=
  let n := numAt m 6 2
  let type := byteAt m 1
  let payload := slice m 16 n
  let flags := byteAt m 3
  let rid := numAt m 4 2
  let rq : Request := { session := 0, rid := rid, seq := numAt m (16 + n) 4, macOk := macOk }
  let idx := numAt m 8 2
  let sub := byteAt m 10
  let g := byteAt m 11
  let offset := numAt m 12 4
  if m.length ≠ n + 32 ∨ 1028 < n ∨ byteAt m 0 ≠ 1 ∨ !s.start.server then s
  else if flags.testBit 2 then s.relay {} m response
  else if type = 1 ∧ byteAt m 2 = 0xFF then s.openFirst rid (Role.ofCode (byteAt payload 0)) (byteAt payload 1) {}
  else if byteAt m 2 ≠ 0 then s.turnAway 0 rid { type := type } 0x10 0
  else if type = 1 then s.openSecond rid 0 macOk {}
  else if type = 2 then s.requestClose rq
  else if type = 3 then s.requestKeepalive rq
  else if type = 4 then s.requestRead rq idx sub offset
  else if type = 5 then s.requestWrite rq idx sub offset (flags.testBit 0) (flags.testBit 1) payload unwrapOk
  else if type = 9 then s.requestClaim rq idx (numAt payload 0 2)
  else if type = 10 then s.requestRelease rq idx (numAt payload 0 2)
  else if 4 ≤ g then s.serve rq { type := type, group := g } 0 (fun _ s => (s, some { status := 0x08 }))
  else if type = 6 then s.requestHold rq g idx sub offset (flags.testBit 0) (flags.testBit 1) payload unwrapOk
  else if type = 7 then s.requestCommit rq g
  else if type = 8 then s.requestAbort rq g
  else s
def execSpiSendRequest (message : List Byte) (macOk unwrapOk : Bool) (response : Option (List Byte)) (s : State) : Outcome State Fault Refusal :=
  .next (s.spiRequest message macOk unwrapOk response)

/-- SPI_TAKE_RESPONSE: the oldest waiting response, else the oldest notice, is taken, and returned behind its length; length 0 when none waits (R412). -/
def execSpiTakeResponse (s : State) : Outcome State Fault Refusal :=
  let x := s.session 0
  let m := (x.outbox ++ x.notices).headD []
  .next (if !s.start.server then s
    else
      let s := { s with spiOut := toBytes 2 m.length ++ m }
      if x.outbox.isEmpty then s.setSession 0 { x with notices := x.notices.drop 1 }
      else s.setSession 0 { x with outbox := x.outbox.drop 1 })

/-- The status byte of the SPI target: bit 0 a response waits, bit 1 a notice (R412, R422). -/
def State.spiStatus (s : State) : Nat :=
  if !s.start.server then 0 else ofBool (!(s.session 0).outbox.isEmpty) + 2 * ofBool (!(s.session 0).notices.isEmpty)

/-- SPI_POLL: the status byte is returned; the model shows it as the detail of its answer too (R412). -/
def execSpiPoll (s : State) : Outcome State Fault Refusal := .next ({ s with spiOut := toBytes 1 s.spiStatus }.answer 0 s.spiStatus)

/-- A word read served as SN0: the low half latches the high half of a U64; the word is the detail of the answer (R412; 04 R99; 17 R442). -/
def State.wordRead (s : State) (idx sub : Nat) (high : Bool) : State :=
  if !s.start.server then s
  else if !s.sessionOpen 0 then s.answer 0x10 0
  else
    let s := (s.setSession 0 { s.session 0 with lastRequest := s.now }).inc32 0xF000 0x07
    let x := s.session 0
    if s.isSafe ∧ !s.safeRead idx then s.answer 0x14 s.runState
    else if (findObject idx).isNone then s.answer 0x01 0
    else match findEntry idx sub with
      | none => s.answer 0x02 0
      | some e =>
        if e.acc == .wo then s.answer 0x03 0
        else if high then s.answer 0 (if e.ty == .u64 then x.latch else 0)
        else
          let b := s.readBytes e idx sub
          let v := if e.ty.isBlob then numAt b 0 4 else ofBytes b
          let t := s.readEffect e idx sub
          (t.setSession 0 { t.session 0 with latch := if e.ty == .u64 then v / 2 ^ 32 else 0 }).answer 0 (v % 2 ^ 32)

/-- SPI_WORD_READ: 4 bytes of value are returned; of a refused read zeros (R412; the latter DESIGN CHOICE, log entry 126). -/
def execSpiWordRead (index : BitVec 16) (sub : BitVec 8) (high : Bool) (s : State) : Outcome State Fault Refusal :=
  let t := s.wordRead index.toNat sub.toNat high
  .next (if !s.start.server then t else { t with spiOut := toBytes 4 (if t.lastStatus = 0 then t.lastDetail else 0) })

/-! ## Frames of the server (R410) -/

/-- A frame of the server leaves: on the twin relay in class 5, while the link is up; a management frame enters the fabric for Q31 of its port, with its
VID, while the device is in service; one of CAN FD is on the bus (R410, R411; 14 R351). Its priority is 7 (DESIGN CHOICE, log entry 126). -/
def State.sendFrame (s : State) (f : OutFrame) : State :=
  if f.transport = 6 then
    if s.twin.linkUp then { s with twin := { s.twin with relayWaiting := s.twin.relayWaiting ++ [f.frame] } } else s
  else if (f.transport = 4 ∨ f.transport = 5) ∧ s.isUp then
    let untag := ofBool ((Sparse.get 0 s.vlan f.vid).testBit f.port)
    s.hubFrame (f.port / 12)
      { kind := 0, destination := f.port, vid := f.vid, priority := 7, queue := 31, queueSet := true, untag := untag } f.frame
  else s

/-- With the hub cycle the server's frames leave, oldest first (R410). -/
def State.sendOutgoing (s : State) : State := s.outgoing.foldl State.sendFrame { s with outgoing := [] }

end Sys2Proof.Machine
end

