-- ==== Sys2Proof/Machine/Dispatch.lean ====
section
/-! DEFINITION. What each command does: one arm per row of spec/opcode_table.json, each a direct call of its meaning. -/

namespace Sys2Proof.Machine

open Host (Outcome)

/-- The effect of a command on everything but the queue of waiting commands. -/
def exec (i : Instr) (s : State) : Host.Outcome State Fault Refusal :=
  match i with
  -- 03_lanes.md
  | .signalDetected l => Sys2Proof.Machine.execSignalDetected l s
  | .cdrLock l => Sys2Proof.Machine.execCdrLock l s
  | .polarityTryExpiry l => Sys2Proof.Machine.execPolarityTryExpiry l s
  | .blockLock l order deskewPs => Sys2Proof.Machine.execBlockLock l order deskewPs s
  | .adaptComplete l fom rec => Sys2Proof.Machine.execAdaptComplete l fom rec s
  | .syntonyIntervalEnd l offsetPpt fill => Sys2Proof.Machine.execSyntonyIntervalEnd l offsetPpt fill s
  | .elasticFillLimit l => Sys2Proof.Machine.execElasticFillLimit l s
  | .rateMatchSwitch l => Sys2Proof.Machine.execRateMatchSwitch l s
  | .syntonisedSwitch l => Sys2Proof.Machine.execSyntonisedSwitch l s
  | .trainingTimeout l => Sys2Proof.Machine.execTrainingTimeout l s
  | .backoffExpiry l => Sys2Proof.Machine.execBackoffExpiry l s
  | .retryNow role l => Sys2Proof.Machine.execRetryNow role l s
  | .signalLoss l => Sys2Proof.Machine.execSignalLoss l s
  | .laneLockLoss l kind => Sys2Proof.Machine.execLaneLockLoss l kind s
  | .reDeskewComplete p deskewPs => Sys2Proof.Machine.execReDeskewComplete p deskewPs s
  | .lanePllLockLoss c => Sys2Proof.Machine.execLanePllLockLoss c s
  | .lanePllRelock c signals => Sys2Proof.Machine.execLanePllRelock c signals s
  | .reAdapt role l => Sys2Proof.Machine.execReAdapt role l s
  | .fomMeasurement l h a => Sys2Proof.Machine.execFomMeasurement l h a s
  | .quietTransmit role l mode => Sys2Proof.Machine.execQuietTransmit role l mode s
  | .quietReceive role l on => Sys2Proof.Machine.execQuietReceive role l on s
  | .testModeSet role l code => Sys2Proof.Machine.execTestModeSet role l code s
  | .testModeClear role l => Sys2Proof.Machine.execTestModeClear role l s
  | .errorInjectionOne role l => Sys2Proof.Machine.execErrorInjectionOne role l s
  | .errorInjectionRate role l exponent => Sys2Proof.Machine.execErrorInjectionRate role l exponent s
  | .injectedError l => Sys2Proof.Machine.execInjectedError l s
  | .checkerSync l bits => Sys2Proof.Machine.execCheckerSync l bits s
  | .checkerSyncLoss l bits errors => Sys2Proof.Machine.execCheckerSyncLoss l bits errors s
  -- 04_ports_and_modules.md
  | .moduleInsert p => Sys2Proof.Machine.execModuleInsert p s
  | .moduleRemove p => Sys2Proof.Machine.execModuleRemove p s
  | .rereadModule role p => Sys2Proof.Machine.execRereadModule role p s
  | .moduleIdentityRead p page modes record => Sys2Proof.Machine.execModuleIdentityRead p page modes record s
  | .moduleReadyTimeout p => Sys2Proof.Machine.execModuleReadyTimeout p s
  | .linkIdentityRecordWrite role p bytes outcome => Sys2Proof.Machine.execLinkIdentityRecordWrite role p bytes outcome s
  | .diagnosticsPoll p values => Sys2Proof.Machine.execDiagnosticsPoll p values s
  | .modResetRelease c => Sys2Proof.Machine.execModResetRelease c s
  | .statisticsClear role p coincident => Sys2Proof.Machine.execStatisticsClear role p coincident s
  -- 05_forwarding.md
  | .frameArrival p edge => Sys2Proof.Machine.execFrameArrival p edge s
  | .lookupWindowComplete p window unreadable => Sys2Proof.Machine.execLookupWindowComplete p window unreadable s
  | .cellFill p payload => Sys2Proof.Machine.execCellFill p payload s
  | .frameTail p kind payload => Sys2Proof.Machine.execFrameTail p kind payload s
  | .learnInsert => Sys2Proof.Machine.execLearnInsert s
  | .ageingStep => Sys2Proof.Machine.execAgeingStep s
  | .overlayFold t => Sys2Proof.Machine.execOverlayFold t s
  | .drainTable role t => Sys2Proof.Machine.execDrainTable role t s
  | .drainComplete t => Sys2Proof.Machine.execDrainComplete t s
  | .tableScrub c t position finding => Sys2Proof.Machine.execTableScrub c t position finding s
  | .scarabRestore c t position => Sys2Proof.Machine.execScarabRestore c t position s
  | .frerResetTimeout f => Sys2Proof.Machine.execFrerResetTimeout f s
  | .streamGateListActivation g => Sys2Proof.Machine.execStreamGateListActivation g s
  | .streamGateIntervalEnd g => Sys2Proof.Machine.execStreamGateIntervalEnd g s
  | .hubFrameSend ring kind destination untag priority queue payload tag insert passed ingress => Sys2Proof.Machine.execHubFrameSend ring kind destination untag priority queue payload tag insert passed ingress s
  -- 06_cyclic_fabric.md
  | .fabricSlot slot => Sys2Proof.Machine.execFabricSlot slot s
  | .cellArrival stage2 from_ to_ header payloadOk => Sys2Proof.Machine.execCellArrival stage2 from_ to_ header payloadOk s
  | .holeTimeout dst src contracted => Sys2Proof.Machine.execHoleTimeout dst src contracted s
  | .alignmentMark g offsetPs => Sys2Proof.Machine.execAlignmentMark g offsetPs s
  | .resyncClear m src => Sys2Proof.Machine.execResyncClear m src s
  | .cutThroughHoldRelease g => Sys2Proof.Machine.execCutThroughHoldRelease g s
  | .epochClose dst => Sys2Proof.Machine.execEpochClose dst s
  | .creditRestore g => Sys2Proof.Machine.execCreditRestore g s
  -- 07_buffers_and_queues.md
  | .egressSelection p edge => Sys2Proof.Machine.execEgressSelection p edge s
  | .releaseInstant p edge => Sys2Proof.Machine.execReleaseInstant p edge s
  | .egressUnderrun p => Sys2Proof.Machine.execEgressUnderrun p s
  | .ageSweep g => Sys2Proof.Machine.execAgeSweep g s
  | .gateListActivation p => Sys2Proof.Machine.execGateListActivation p s
  | .gateIntervalEnd p => Sys2Proof.Machine.execGateIntervalEnd p s
  | .queueFlush p q => Sys2Proof.Machine.execQueueFlush p q s
  | .bufferScrub g bank held finding => Sys2Proof.Machine.execBufferScrub g bank held finding s
  -- 09_time_bases.md and 11_references_and_holdover.md
  | .measuredOffsetWrite tb offset => Sys2Proof.Machine.execMeasuredOffsetWrite tb offset s
  | .steeringOffsetWrite tb host ppt => Sys2Proof.Machine.execSteeringOffsetWrite tb host ppt s
  | .step role tb amount => Sys2Proof.Machine.execStep role tb amount s
  | .stepEdge tb => Sys2Proof.Machine.execStepEdge tb s
  | .set host tb seconds nanoseconds fraction => Sys2Proof.Machine.execSet host tb seconds nanoseconds fraction s
  | .setEdge tb => Sys2Proof.Machine.execSetEdge tb s
  | .compareArm role c => Sys2Proof.Machine.execCompareArm role c s
  | .compareDisarm role c => Sys2Proof.Machine.execCompareDisarm role c s
  | .compareFire c => Sys2Proof.Machine.execCompareFire c s
  | .fireflyGridInstant f => Sys2Proof.Machine.execFireflyGridInstant f s
  | .realignImmediate role f => Sys2Proof.Machine.execRealignImmediate role f s
  | .realignSlewed role f => Sys2Proof.Machine.execRealignSlewed role f s
  | .slewComplete f => Sys2Proof.Machine.execSlewComplete f s
  | .captureEdge e rising heldNs agePs => Sys2Proof.Machine.execCaptureEdge e rising heldNs agePs s
  | .captureRingRead rq => Sys2Proof.Machine.execCaptureRingRead rq s
  | .resetRing role => Sys2Proof.Machine.execResetRing role s
  -- 10_timestamping_and_links.md
  | .timeLineMarker line arrival => Sys2Proof.Machine.execTimeLineMarker line arrival s
  | .timeLineMessage line => Sys2Proof.Machine.execTimeLineMessage line s
  | .delayResult p exchange => Sys2Proof.Machine.execDelayResult p exchange s
  | .acceptPresentDelay role p => Sys2Proof.Machine.execAcceptPresentDelay role p s
  | .acceptProposal role p => Sys2Proof.Machine.execAcceptProposal role p s
  | .calibrateAsymmetry role p => Sys2Proof.Machine.execCalibrateAsymmetry role p s
  | .abortCalibration role p => Sys2Proof.Machine.execAbortCalibration role p s
  | .asymmetryCalibrationEnd p => Sys2Proof.Machine.execAsymmetryCalibrationEnd p s
  | .detectorComparison c j own spare => Sys2Proof.Machine.execDetectorComparison c j own spare s
  | .detectorCalibrationDone c j offset gain => Sys2Proof.Machine.execDetectorCalibrationDone c j offset gain s
  | .laneCalibrationMeasure l rxHundredths txHundredths trims biases => Sys2Proof.Machine.execLaneCalibrationMeasure l rxHundredths txHundredths trims biases s
  | .detectorHandback c j own spare => Sys2Proof.Machine.execDetectorHandback c j own spare s
  -- 11_references_and_holdover.md
  | .slotGuardExpiry slot => Sys2Proof.Machine.execSlotGuardExpiry slot s
  | .disputeEnd a b => Sys2Proof.Machine.execDisputeEnd a b s
  | .candidateGuardExpiry slot tb => Sys2Proof.Machine.execCandidateGuardExpiry slot tb s
  | .phaseAccept role tb slot => Sys2Proof.Machine.execPhaseAccept role tb slot s
  | .pinInputLoss slot => Sys2Proof.Machine.execPinInputLoss slot s
  | .esmcReceive p ssm essm => Sys2Proof.Machine.execEsmcReceive p ssm essm s
  | .esmcTimeout slot => Sys2Proof.Machine.execEsmcTimeout slot s
  | .esmcSend => Sys2Proof.Machine.execEsmcSend s
  | .frequencyLock => Sys2Proof.Machine.execFrequencyLock s
  -- 12_synthesis.md
  | .synthLock k cycles peak last => Sys2Proof.Machine.execSynthLock k cycles peak last s
  | .synthLockLoss k errors => Sys2Proof.Machine.execSynthLockLoss k errors s
  | .backupReady n cycles peak => Sys2Proof.Machine.execBackupReady n cycles peak s
  | .backupAlignmentLoss n phase => Sys2Proof.Machine.execBackupAlignmentLoss n phase s
  | .swap role n => Sys2Proof.Machine.execSwap role n s
  | .syncInEdge period => Sys2Proof.Machine.execSyncInEdge period s
  -- 13_calibration.md
  | .calibrationPeriodExpiry resistor lineDelays => Sys2Proof.Machine.execCalibrationPeriodExpiry resistor lineDelays s
  | .temperatureTrigger d resistor lineDelays => Sys2Proof.Machine.execTemperatureTrigger d resistor lineDelays s
  | .calibrateNow role resistor lineDelays => Sys2Proof.Machine.execCalibrateNow role resistor lineDelays s
  | .calibrationRoundEnd => Sys2Proof.Machine.execCalibrationRoundEnd s
  | .fireflyVernierApply f => Sys2Proof.Machine.execFireflyVernierApply f s
  | .sensorChannelCalibration d channel reading => Sys2Proof.Machine.execSensorChannelCalibration d channel reading s
  -- 14_twin_pair.md
  | .keaconHandshake k serial twinId fwVersion layout twinLead twinFenced twinTb0 covers => Sys2Proof.Machine.execKeaconHandshake k serial twinId fwVersion layout twinLead twinFenced twinTb0 covers s
  | .cricketSend => Sys2Proof.Machine.execCricketSend s
  | .cricketReceive k head payload received => Sys2Proof.Machine.execCricketReceive k head payload received s
  | .cricketTimeout => Sys2Proof.Machine.execCricketTimeout s
  | .twinWaitExpiry => Sys2Proof.Machine.execTwinWaitExpiry s
  | .handover role => Sys2Proof.Machine.execHandover role s
  | .holdoverTakeover => Sys2Proof.Machine.execHoldoverTakeover s
  | .yieldReceive => Sys2Proof.Machine.execYieldReceive s
  | .twinHoldInChange asserted => Sys2Proof.Machine.execTwinHoldInChange asserted s
  | .sharedOutputEnable => Sys2Proof.Machine.execSharedOutputEnable s
  | .holdMismatch => Sys2Proof.Machine.execHoldMismatch s
  | .keaconReorderTimeout cls => Sys2Proof.Machine.execKeaconReorderTimeout cls s
  | .mirrorFrameReceive head message => Sys2Proof.Machine.execMirrorFrameReceive head message s
  | .resync role => Sys2Proof.Machine.execResync role s
  | .resyncComplete => Sys2Proof.Machine.execResyncComplete s
  | .coverNoticeReceive head p => Sys2Proof.Machine.execCoverNoticeReceive head p s
  | .coverFrameReceive head ports vid priority untag payload => Sys2Proof.Machine.execCoverFrameReceive head ports vid priority untag payload s
  | .coverFrameTimeout => Sys2Proof.Machine.execCoverFrameTimeout s
  | .uncoverNoticeReceive head p => Sys2Proof.Machine.execUncoverNoticeReceive head p s
  | .uncoverAckReceive head p => Sys2Proof.Machine.execUncoverAckReceive head p s
  | .releaseCover role p => Sys2Proof.Machine.execReleaseCover role p s
  -- 15_faults.md
  | .faultDetection detections run => Sys2Proof.Machine.execFaultDetection detections run s
  | .selfFault source => Sys2Proof.Machine.execSelfFault source s
  | .maskEnd level item => Sys2Proof.Machine.execMaskEnd level item s
  | .consequenceWindowClose => Sys2Proof.Machine.execConsequenceWindowClose s
  | .clearFirstFault role => Sys2Proof.Machine.execClearFirstFault role s
  | .faultRecordsRead rq => Sys2Proof.Machine.execFaultRecordsRead rq s
  | .acknowledge role => Sys2Proof.Machine.execAcknowledge role s
  | .errNMinimumExpiry => Sys2Proof.Machine.execErrNMinimumExpiry s
  | .hostFence role level item => Sys2Proof.Machine.execHostFence role level item s
  | .fenceRelease role level item supplyUp => Sys2Proof.Machine.execFenceRelease role level item supplyUp s
  -- 20_pins_and_electrical.md
  | .supplyOutOfRange rail => Sys2Proof.Machine.execSupplyOutOfRange rail s
  | .temperatureThreshold d critical => Sys2Proof.Machine.execTemperatureThreshold d critical s
  | .timingBankSupplyLoss lost => Sys2Proof.Machine.execTimingBankSupplyLoss lost s
  -- 16_object_dictionary.md and 18_security_debug_states.md
  | .openRequest transport role credential peer arrival => Sys2Proof.Machine.execOpenRequest transport role credential peer arrival s
  | .openConfirm sn signatureOk arrival => Sys2Proof.Machine.execOpenConfirm sn signatureOk arrival s
  | .close rq => Sys2Proof.Machine.execClose rq s
  | .keepalive rq => Sys2Proof.Machine.execKeepalive rq s
  | .read rq index sub offset => Sys2Proof.Machine.execRead rq index sub offset s
  | .writeAndHold rq group index sub offset first last bytes unwrapOk => Sys2Proof.Machine.execWriteAndHold rq group index sub offset first last bytes unwrapOk s
  | .writeAndCommit rq index sub offset first last bytes unwrapOk => Sys2Proof.Machine.execWriteAndCommit rq index sub offset first last bytes unwrapOk s
  | .commit rq group => Sys2Proof.Machine.execCommit rq group s
  | .abortGroup rq group => Sys2Proof.Machine.execAbortGroup rq group s
  | .claim rq first last => Sys2Proof.Machine.execClaim rq first last s
  | .release rq first last => Sys2Proof.Machine.execRelease rq first last s
  | .commitPoint => Sys2Proof.Machine.execCommitPoint s
  | .registerWrite index sub bytes => Sys2Proof.Machine.execRegisterWrite index sub bytes s
  | .sessionTimeout sn => Sys2Proof.Machine.execSessionTimeout sn s
  | .transportLost transport => Sys2Proof.Machine.execTransportLost transport s
  | .snapshotTimeout sn => Sys2Proof.Machine.execSnapshotTimeout sn s
  | .relayedRequest route message reply => Sys2Proof.Machine.execRelayedRequest route message reply s
  | .spiSendRequest message macOk unwrapOk reply => Sys2Proof.Machine.execSpiSendRequest message macOk unwrapOk reply s
  | .spiTakeResponse => Sys2Proof.Machine.execSpiTakeResponse s
  | .spiPoll => Sys2Proof.Machine.execSpiPoll s
  | .spiWordRead index sub high => Sys2Proof.Machine.execSpiWordRead index sub high s
  -- 17_engines_and_counters.md
  | .watchdogRestart e => Sys2Proof.Machine.execWatchdogRestart e s
  | .watchdogExpiry e => Sys2Proof.Machine.execWatchdogExpiry e s
  | .engineTrap e thread cause address => Sys2Proof.Machine.execEngineTrap e thread cause address s
  | .threadTimerExpiry e thread => Sys2Proof.Machine.execThreadTimerExpiry e thread s
  | .imageLoadComplete e digestOk => Sys2Proof.Machine.execImageLoadComplete e digestOk s
  | .epochBoundary elapsed => Sys2Proof.Machine.execEpochBoundary elapsed s
  | .counterWrap bit => Sys2Proof.Machine.execCounterWrap bit s
  | .monitorSample m => Sys2Proof.Machine.execMonitorSample m s
  | .clearCounters role => Sys2Proof.Machine.execClearCounters role s
  | .overflowMapClear role mask wrapping => Sys2Proof.Machine.execOverflowMapClear role mask wrapping s
  -- 18_security_debug_states.md
  | .toProvisioned sn confirmation digest0 digest1 => Sys2Proof.Machine.execToProvisioned sn confirmation digest0 digest1 s
  | .toDeployed sn confirmation => Sys2Proof.Machine.execToDeployed sn confirmation s
  | .toDecommissioned sn confirmation => Sys2Proof.Machine.execToDecommissioned sn confirmation s
  | .revokeOwnerSlot sn confirmation => Sys2Proof.Machine.execRevokeOwnerSlot sn confirmation s
  | .pendingCommandLapse => Sys2Proof.Machine.execPendingCommandLapse s
  | .fuseBurnComplete run => Sys2Proof.Machine.execFuseBurnComplete run s
  | .raiseBaseFloor role => Sys2Proof.Machine.execRaiseBaseFloor role s
  | .raiseOwnerFloor role => Sys2Proof.Machine.execRaiseOwnerFloor role s
  | .debugChallengeRead sn => Sys2Proof.Machine.execDebugChallengeRead sn s
  | .debugResponse sn slot verifies => Sys2Proof.Machine.execDebugResponse sn slot verifies s
  | .challengeLapse => Sys2Proof.Machine.execChallengeLapse s
  | .grantExpiry => Sys2Proof.Machine.execGrantExpiry s
  | .endGrant role => Sys2Proof.Machine.execEndGrant role s
  | .closeOpen role => Sys2Proof.Machine.execCloseOpen role s
  | .probeHalt e threads halt => Sys2Proof.Machine.execProbeHalt e threads halt s
  | .probeIntrusiveAccess e address value target => Sys2Proof.Machine.execProbeIntrusiveAccess e address value target s
  | .probeNonintrusiveAccess e address target => Sys2Proof.Machine.execProbeNonintrusiveAccess e address target s
  -- 19_start_up.md
  | .powerUp run => Sys2Proof.Machine.execPowerUp run s
  | .resetNAssert => Sys2Proof.Machine.execResetNAssert s
  | .resetNRelease run => Sys2Proof.Machine.execResetNRelease run s
  | .regionSupplyTimeout g run => Sys2Proof.Machine.execRegionSupplyTimeout g run s
  | .startCommand role run => Sys2Proof.Machine.execStartCommand role run s
  | .startStepTimeout => Sys2Proof.Machine.execStartStepTimeout s
  | .startRetry run => Sys2Proof.Machine.execStartRetry run s
  | .settleTimeExpiry => Sys2Proof.Machine.execSettleTimeExpiry s
  | .releaseHold role => Sys2Proof.Machine.execReleaseHold role s
  | .holdLimitExpiry => Sys2Proof.Machine.execHoldLimitExpiry s
  | .imageSave role readBackOk => Sys2Proof.Machine.execImageSave role readBackOk s
  | .imageErase role => Sys2Proof.Machine.execImageErase role s
  -- the rows at the table's end
  | .stallLimitExpiry crossing => Sys2Proof.Machine.execStallLimitExpiry crossing s
  | .frequencyOffsetMeasurement slot phases => Sys2Proof.Machine.execFrequencyOffsetMeasurement slot phases s
  | .referencePinEdge pin agePs => Sys2Proof.Machine.execReferencePinEdge pin agePs s
  | .slotOffsetTimeout slot tb => Sys2Proof.Machine.execSlotOffsetTimeout slot tb s
  | .dictionaryPortWrite thread index sub bytes => Sys2Proof.Machine.execDictionaryPortWrite thread index sub bytes s
  | .hubChannelFrameBoundary g taken => Sys2Proof.Machine.execHubChannelFrameBoundary g taken s
  | .powerRemoval => Sys2Proof.Machine.execPowerRemoval s

end Sys2Proof.Machine
end

