-- ==== Sys2Proof/Machine/Step.lean ====
section
/-! DEFINITION. One step of the block: the command at the front of the queue, or, with none waiting, one cycle of the hub clock. -/

namespace Sys2Proof.Machine

open Host (Outcome)

/-- A cycle of the hub clock with no command: a start that stands between two steps goes on, and every running time base counts (09 R225; 19
R475; log entry 2); the server's frames leave, and in SAFE the twin lanes stop in time (16 R410; 15 R396). -/
def State.idle (s : State) : State := s.continueStart.tick.sendOutgoing.settleSafe

/-- One step: the command in front acts on the state with the queue's rest; with an empty queue the hub clock ticks (log entry 2). -/
def step (s : State) : Host.Outcome State Fault Refusal :=
  match s.pending with
  | [] => .next s.idle
  | c :: rest => exec c { s with pending := rest }

/-- The state with a command put in front of its queue. -/
def State.withFront (s : State) (c : Instr) : State := { s with pending := c :: s.pending }

/-- The state with the command that a word spells put in front of its queue; unchanged where the word spells none (log entry 26). -/
def State.withFetchWord (s : State) (nbits w : Nat) : State :=
  match decodeTableWord nbits w with
  | none => s
  | some c => s.withFront c

end Sys2Proof.Machine
end

