-- ==== Sys2Proof/Safety.lean ====
section
/-! DEFINITION. The terms in which statements speak of the machine: what a command leaves as it was, that it completes, and the
invariants. -/

namespace Sys2Proof.Machine

/-! ## Parts of the state -/

/-- The field `now` as a part. -/
abbrev partNow : Nat := 2 ^ 0
/-- The field `regs` as a part. -/
abbrev partRegs : Nat := 2 ^ 1
/-- The field `blobs` as a part. -/
abbrev partBlobs : Nat := 2 ^ 2
/-- The field `lastStatus` as a part. -/
abbrev partLastStatus : Nat := 2 ^ 3
/-- The field `lastDetail` as a part. -/
abbrev partLastDetail : Nat := 2 ^ 4
/-- The field `spiOut` as a part. -/
abbrev partSpiOut : Nat := 2 ^ 5
/-- The field `outgoing` as a part. -/
abbrev partOutgoing : Nat := 2 ^ 6
/-- The field `lanes` as a part. -/
abbrev partLanes : Nat := 2 ^ 7
/-- The field `ports` as a part. -/
abbrev partPorts : Nat := 2 ^ 8
/-- The field `timing` as a part. -/
abbrev partTiming : Nat := 2 ^ 9
/-- The field `egress` as a part. -/
abbrev partEgress : Nat := 2 ^ 10
/-- The field `queues` as a part. -/
abbrev partQueues : Nat := 2 ^ 11
/-- The field `regions` as a part. -/
abbrev partRegions : Nat := 2 ^ 12
/-- The field `rx` as a part. -/
abbrev partRx : Nat := 2 ^ 13
/-- The field `frameCount` as a part. -/
abbrev partFrameCount : Nat := 2 ^ 14
/-- The field `pllLost` as a part. -/
abbrev partPllLost : Nat := 2 ^ 15
/-- The field `modReset` as a part. -/
abbrev partModReset : Nat := 2 ^ 16
/-- The field `busQueue` as a part. -/
abbrev partBusQueue : Nat := 2 ^ 17
/-- The field `modResetWait` as a part. -/
abbrev partModResetWait : Nat := 2 ^ 18
/-- The field `fdb` as a part. -/
abbrev partFdb : Nat := 2 ^ 19
/-- The field `vlan` as a part. -/
abbrev partVlan : Nat := 2 ^ 20
/-- The field `classifier` as a part. -/
abbrev partClassifier : Nat := 2 ^ 21
/-- The field `streams` as a part. -/
abbrev partStreams : Nat := 2 ^ 22
/-- The field `contracts` as a part. -/
abbrev partContracts : Nat := 2 ^ 23
/-- The field `portSets` as a part. -/
abbrev partPortSets : Nat := 2 ^ 24
/-- The field `invalid` as a part. -/
abbrev partInvalid : Nat := 2 ^ 25
/-- The field `folding` as a part. -/
abbrev partFolding : Nat := 2 ^ 26
/-- The field `drains` as a part. -/
abbrev partDrains : Nat := 2 ^ 27
/-- The field `lastDrain` as a part. -/
abbrev partLastDrain : Nat := 2 ^ 28
/-- The field `learns` as a part. -/
abbrev partLearns : Nat := 2 ^ 29
/-- The field `learnRate` as a part. -/
abbrev partLearnRate : Nat := 2 ^ 30
/-- The field `gates` as a part. -/
abbrev partGates : Nat := 2 ^ 31
/-- The field `frer` as a part. -/
abbrev partFrer : Nat := 2 ^ 32
/-- The field `contractX` as a part. -/
abbrev partContractX : Nat := 2 ^ 33
/-- The field `breaches` as a part. -/
abbrev partBreaches : Nat := 2 ^ 34
/-- The field `overflowed` as a part. -/
abbrev partOverflowed : Nat := 2 ^ 35
/-- The field `flights` as a part. -/
abbrev partFlights : Nat := 2 ^ 36
/-- The field `crossings` as a part. -/
abbrev partCrossings : Nat := 2 ^ 37
/-- The field `wire` as a part. -/
abbrev partWire : Nat := 2 ^ 38
/-- The field `syncEdge` as a part. -/
abbrev partSyncEdge : Nat := 2 ^ 39
/-- The field `clockStarted` as a part. -/
abbrev partClockStarted : Nat := 2 ^ 40
/-- The field `clocks` as a part. -/
abbrev partClocks : Nat := 2 ^ 41
/-- The field `tbs` as a part. -/
abbrev partTbs : Nat := 2 ^ 42
/-- The field `compares` as a part. -/
abbrev partCompares : Nat := 2 ^ 43
/-- The field `fireflies` as a part. -/
abbrev partFireflies : Nat := 2 ^ 44
/-- The field `captures` as a part. -/
abbrev partCaptures : Nat := 2 ^ 45
/-- The field `ring` as a part. -/
abbrev partRing : Nat := 2 ^ 46
/-- The field `ringSeq` as a part. -/
abbrev partRingSeq : Nat := 2 ^ 47
/-- The field `rewind` as a part. -/
abbrev partRewind : Nat := 2 ^ 48
/-- The field `replicas` as a part. -/
abbrev partReplicas : Nat := 2 ^ 49
/-- The field `detectors` as a part. -/
abbrev partDetectors : Nat := 2 ^ 50
/-- The field `ptpDiscarded` as a part. -/
abbrev partPtpDiscarded : Nat := 2 ^ 51
/-- The field `slots` as a part. -/
abbrev partSlots : Nat := 2 ^ 52
/-- The field `freqSwitching` as a part. -/
abbrev partFreqSwitching : Nat := 2 ^ 53
/-- The field `frequency` as a part. -/
abbrev partFrequency : Nat := 2 ^ 54
/-- The field `freqMovedAt` as a part. -/
abbrev partFreqMovedAt : Nat := 2 ^ 55
/-- The field `freqNear` as a part. -/
abbrev partFreqNear : Nat := 2 ^ 56
/-- The field `freqHeld` as a part. -/
abbrev partFreqHeld : Nat := 2 ^ 57
/-- The field `freqLog` as a part. -/
abbrev partFreqLog : Nat := 2 ^ 58
/-- The field `esmcOut` as a part. -/
abbrev partEsmcOut : Nat := 2 ^ 59
/-- The field `analog` as a part. -/
abbrev partAnalog : Nat := 2 ^ 60
/-- The field `analogShadow` as a part. -/
abbrev partAnalogShadow : Nat := 2 ^ 61
/-- The field `roundRuns` as a part. -/
abbrev partRoundRuns : Nat := 2 ^ 62
/-- The field `roundDue` as a part. -/
abbrev partRoundDue : Nat := 2 ^ 63
/-- The field `trims` as a part. -/
abbrev partTrims : Nat := 2 ^ 64
/-- The field `twin` as a part. -/
abbrev partTwin : Nat := 2 ^ 65
/-- The field `messages` as a part. -/
abbrev partMessages : Nat := 2 ^ 66
/-- The field `settings` as a part. -/
abbrev partSettings : Nat := 2 ^ 67
/-- The field `sourceCounts` as a part. -/
abbrev partSourceCounts : Nat := 2 ^ 68
/-- The field `log` as a part. -/
abbrev partLog : Nat := 2 ^ 69
/-- The field `logRead` as a part. -/
abbrev partLogRead : Nat := 2 ^ 70
/-- The field `firstFault` as a part. -/
abbrev partFirstFault : Nat := 2 ^ 71
/-- The field `safeRecord` as a part. -/
abbrev partSafeRecord : Nat := 2 ^ 72
/-- The field `fences` as a part. -/
abbrev partFences : Nat := 2 ^ 73
/-- The field `masks` as a part. -/
abbrev partMasks : Nat := 2 ^ 74
/-- The field `windows` as a part. -/
abbrev partWindows : Nat := 2 ^ 75
/-- The field `errN` as a part. -/
abbrev partErrN : Nat := 2 ^ 76
/-- The field `safeN` as a part. -/
abbrev partSafeN : Nat := 2 ^ 77
/-- The field `errNHold` as a part. -/
abbrev partErrNHold : Nat := 2 ^ 78
/-- The field `domains` as a part. -/
abbrev partDomains : Nat := 2 ^ 79
/-- The field `sessions` as a part. -/
abbrev partSessions : Nat := 2 ^ 80
/-- The field `commits` as a part. -/
abbrev partCommits : Nat := 2 ^ 81
/-- The field `engines` as a part. -/
abbrev partEngines : Nat := 2 ^ 82
/-- The field `rings` as a part. -/
abbrev partRings : Nat := 2 ^ 83
/-- The field `perf` as a part. -/
abbrev partPerf : Nat := 2 ^ 84
/-- The field `overflow` as a part. -/
abbrev partOverflow : Nat := 2 ^ 85
/-- The field `clearPending` as a part. -/
abbrev partClearPending : Nat := 2 ^ 86
/-- The field `regionSample` as a part. -/
abbrev partRegionSample : Nat := 2 ^ 87
/-- The field `regionClear` as a part. -/
abbrev partRegionClear : Nat := 2 ^ 88
/-- The field `epochAt` as a part. -/
abbrev partEpochAt : Nat := 2 ^ 89
/-- The field `monitorPending` as a part. -/
abbrev partMonitorPending : Nat := 2 ^ 90
/-- The field `monitors` as a part. -/
abbrev partMonitors : Nat := 2 ^ 91
/-- The field `monitorFirst` as a part. -/
abbrev partMonitorFirst : Nat := 2 ^ 92
/-- The field `security` as a part. -/
abbrev partSecurity : Nat := 2 ^ 93
/-- The field `start` as a part. -/
abbrev partStart : Nat := 2 ^ 94
/-- The field `bankDraws` as a part. -/
abbrev partBankDraws : Nat := 2 ^ 95
/-- The field `shared` as a part. -/
abbrev partShared : Nat := 2 ^ 96
/-- The field `pending` as a part. -/
abbrev partPending : Nat := 2 ^ 97

/-- `t` differs from `s` at most in the parts of `F`: what is not among them is as it was. -/
structure Only (F : Nat) (s t : State) : Prop where
  now : F.testBit 0 = false → t.now = s.now
  regs : F.testBit 1 = false → t.regs = s.regs
  blobs : F.testBit 2 = false → t.blobs = s.blobs
  lastStatus : F.testBit 3 = false → t.lastStatus = s.lastStatus
  lastDetail : F.testBit 4 = false → t.lastDetail = s.lastDetail
  spiOut : F.testBit 5 = false → t.spiOut = s.spiOut
  outgoing : F.testBit 6 = false → t.outgoing = s.outgoing
  lanes : F.testBit 7 = false → t.lanes = s.lanes
  ports : F.testBit 8 = false → t.ports = s.ports
  timing : F.testBit 9 = false → t.timing = s.timing
  egress : F.testBit 10 = false → t.egress = s.egress
  queues : F.testBit 11 = false → t.queues = s.queues
  regions : F.testBit 12 = false → t.regions = s.regions
  rx : F.testBit 13 = false → t.rx = s.rx
  frameCount : F.testBit 14 = false → t.frameCount = s.frameCount
  pllLost : F.testBit 15 = false → t.pllLost = s.pllLost
  modReset : F.testBit 16 = false → t.modReset = s.modReset
  busQueue : F.testBit 17 = false → t.busQueue = s.busQueue
  modResetWait : F.testBit 18 = false → t.modResetWait = s.modResetWait
  fdb : F.testBit 19 = false → t.fdb = s.fdb
  vlan : F.testBit 20 = false → t.vlan = s.vlan
  classifier : F.testBit 21 = false → t.classifier = s.classifier
  streams : F.testBit 22 = false → t.streams = s.streams
  contracts : F.testBit 23 = false → t.contracts = s.contracts
  portSets : F.testBit 24 = false → t.portSets = s.portSets
  invalid : F.testBit 25 = false → t.invalid = s.invalid
  folding : F.testBit 26 = false → t.folding = s.folding
  drains : F.testBit 27 = false → t.drains = s.drains
  lastDrain : F.testBit 28 = false → t.lastDrain = s.lastDrain
  learns : F.testBit 29 = false → t.learns = s.learns
  learnRate : F.testBit 30 = false → t.learnRate = s.learnRate
  gates : F.testBit 31 = false → t.gates = s.gates
  frer : F.testBit 32 = false → t.frer = s.frer
  contractX : F.testBit 33 = false → t.contractX = s.contractX
  breaches : F.testBit 34 = false → t.breaches = s.breaches
  overflowed : F.testBit 35 = false → t.overflowed = s.overflowed
  flights : F.testBit 36 = false → t.flights = s.flights
  crossings : F.testBit 37 = false → t.crossings = s.crossings
  wire : F.testBit 38 = false → t.wire = s.wire
  syncEdge : F.testBit 39 = false → t.syncEdge = s.syncEdge
  clockStarted : F.testBit 40 = false → t.clockStarted = s.clockStarted
  clocks : F.testBit 41 = false → t.clocks = s.clocks
  tbs : F.testBit 42 = false → t.tbs = s.tbs
  compares : F.testBit 43 = false → t.compares = s.compares
  fireflies : F.testBit 44 = false → t.fireflies = s.fireflies
  captures : F.testBit 45 = false → t.captures = s.captures
  ring : F.testBit 46 = false → t.ring = s.ring
  ringSeq : F.testBit 47 = false → t.ringSeq = s.ringSeq
  rewind : F.testBit 48 = false → t.rewind = s.rewind
  replicas : F.testBit 49 = false → t.replicas = s.replicas
  detectors : F.testBit 50 = false → t.detectors = s.detectors
  ptpDiscarded : F.testBit 51 = false → t.ptpDiscarded = s.ptpDiscarded
  slots : F.testBit 52 = false → t.slots = s.slots
  freqSwitching : F.testBit 53 = false → t.freqSwitching = s.freqSwitching
  frequency : F.testBit 54 = false → t.frequency = s.frequency
  freqMovedAt : F.testBit 55 = false → t.freqMovedAt = s.freqMovedAt
  freqNear : F.testBit 56 = false → t.freqNear = s.freqNear
  freqHeld : F.testBit 57 = false → t.freqHeld = s.freqHeld
  freqLog : F.testBit 58 = false → t.freqLog = s.freqLog
  esmcOut : F.testBit 59 = false → t.esmcOut = s.esmcOut
  analog : F.testBit 60 = false → t.analog = s.analog
  analogShadow : F.testBit 61 = false → t.analogShadow = s.analogShadow
  roundRuns : F.testBit 62 = false → t.roundRuns = s.roundRuns
  roundDue : F.testBit 63 = false → t.roundDue = s.roundDue
  trims : F.testBit 64 = false → t.trims = s.trims
  twin : F.testBit 65 = false → t.twin = s.twin
  messages : F.testBit 66 = false → t.messages = s.messages
  settings : F.testBit 67 = false → t.settings = s.settings
  sourceCounts : F.testBit 68 = false → t.sourceCounts = s.sourceCounts
  log : F.testBit 69 = false → t.log = s.log
  logRead : F.testBit 70 = false → t.logRead = s.logRead
  firstFault : F.testBit 71 = false → t.firstFault = s.firstFault
  safeRecord : F.testBit 72 = false → t.safeRecord = s.safeRecord
  fences : F.testBit 73 = false → t.fences = s.fences
  masks : F.testBit 74 = false → t.masks = s.masks
  windows : F.testBit 75 = false → t.windows = s.windows
  errN : F.testBit 76 = false → t.errN = s.errN
  safeN : F.testBit 77 = false → t.safeN = s.safeN
  errNHold : F.testBit 78 = false → t.errNHold = s.errNHold
  domains : F.testBit 79 = false → t.domains = s.domains
  sessions : F.testBit 80 = false → t.sessions = s.sessions
  commits : F.testBit 81 = false → t.commits = s.commits
  engines : F.testBit 82 = false → t.engines = s.engines
  rings : F.testBit 83 = false → t.rings = s.rings
  perf : F.testBit 84 = false → t.perf = s.perf
  overflow : F.testBit 85 = false → t.overflow = s.overflow
  clearPending : F.testBit 86 = false → t.clearPending = s.clearPending
  regionSample : F.testBit 87 = false → t.regionSample = s.regionSample
  regionClear : F.testBit 88 = false → t.regionClear = s.regionClear
  epochAt : F.testBit 89 = false → t.epochAt = s.epochAt
  monitorPending : F.testBit 90 = false → t.monitorPending = s.monitorPending
  monitors : F.testBit 91 = false → t.monitors = s.monitors
  monitorFirst : F.testBit 92 = false → t.monitorFirst = s.monitorFirst
  security : F.testBit 93 = false → t.security = s.security
  start : F.testBit 94 = false → t.start = s.start
  bankDraws : F.testBit 95 = false → t.bankDraws = s.bankDraws
  shared : F.testBit 96 = false → t.shared = s.shared
  pending : F.testBit 97 = false → t.pending = s.pending

/-- An access to a module bus that writes a record (04 R103, R108). -/
def BusAccess.isWrite : BusAccess → Bool
  | .read _ => false
  | .write _ _ _ => true

/-- A cell but for the mark that no lateness of it is judged (06 R166). -/
def Cell.plain (x : Cell) : Cell := { x with unjudged := false }

/-- Command `c` completes in `s`, in a next state of which `P` holds. -/
def Runs (c : Instr) (s : State) (P : State → Prop) : Prop := ∃ t, exec c s = .next t ∧ P t

/-- Every numeric entry outside `K` reads as before. -/
def SameEntries (K : Nat → Nat → Prop) (s t : State) : Prop := ∀ i j, j < 256 → ¬ K i j → t.reg i j = s.reg i j

/-- A host's write to an entry passes the server's checks: the server serves, the role is enough, and no shadow holds it (16 R408,
R421, R423, R424). -/
def State.admits (s : State) (role : Role) (idx sub : Nat) : Prop := s.writeBar role (needRole idx sub) idx sub = none

/-- A request passes what every request is checked for and acts (16 R410, R413, R414, R423; 18 R463): the server serves, the request reaches
it, its session is open and not in SAFE, its ID is new and no commit of it waits, and with a session key its trailer verifies with a new number. -/
def State.acts (s : State) (rq : Request) : Prop :=
  s.start.server = true ∧ s.arrives (s.routeOf rq.session.val rq.arrival) = true ∧ s.isSafe = false ∧ s.sessionOpen rq.session = true ∧
  (s.session rq.session).responses.find? (fun r => r.rid == rq.rid) = none ∧
  s.commits.any (fun c => c.session == rq.session.val && c.rid == rq.rid) = false ∧
  ((s.session rq.session).keyed = true → rq.macOk = true ∧ (s.session rq.session).accepted.all (fun a => decide (a < rq.seq)) = true)

/-- Every part. -/
def allParts : Nat := 2 ^ 98 - 1

/-- What answers a host. -/
def answerParts : Nat := partLastStatus ||| partLastDetail

/-- What a detection writes. -/
def faultParts : Nat := partMessages ||| partSourceCounts

/-- The frequency selector beside its entries. -/
def frequencyParts : Nat := partFreqSwitching ||| partFrequency ||| partFreqMovedAt ||| partFreqNear ||| partFreqHeld |||
      partFreqLog

/-- What a judgement of the references writes. -/
def referenceParts : Nat := partTiming ||| partTbs ||| partSlots ||| partSessions ||| frequencyParts ||| faultParts

/-- What a change of a port's link writes. -/
def linkParts : Nat := partPorts ||| partDetectors ||| partTwin ||| referenceParts

/-- What the loss of a port's link writes. -/
def linkDownParts : Nat := partEgress ||| partQueues ||| partRegions ||| partRx ||| partFireflies ||| partTrims |||
      partEngines ||| linkParts

/-- What a breach of a contract writes. -/
def breachParts : Nat := partContractX ||| partBreaches ||| faultParts

/-- What the end of a copy writes. -/
def copyParts : Nat := partQueues ||| partRegions ||| breachParts

/-- What a record of the capture ring writes. -/
def ringParts : Nat := partRing ||| partRingSeq ||| partRewind

/-- The parts of the state that a command may write, by name; for a start or a fence, all but those named. -/
def partsOf : Instr → Nat
  | .signalDetected _ => partRegs ||| partBlobs ||| partLanes ||| partTrims
  | .cdrLock _ => partRegs
  | .polarityTryExpiry _ => partLanes
  | .blockLock _ _ _ => partRegs ||| partLanes ||| partPorts
  | .adaptComplete _ _ _ => partRegs ||| partBlobs ||| partOutgoing ||| partLanes ||| linkParts
  | .syntonyIntervalEnd _ _ _ => partRegs ||| partOutgoing ||| partLanes ||| linkParts
  | .elasticFillLimit _ => partRegs ||| partOutgoing ||| partLanes ||| referenceParts
  | .rateMatchSwitch _ => partRegs ||| partOutgoing ||| partLanes ||| linkParts
  | .syntonisedSwitch _ => partRegs ||| partOutgoing ||| partLanes ||| linkParts
  | .trainingTimeout _ => partRegs ||| partOutgoing ||| partLanes ||| linkParts
  | .backoffExpiry _ => partRegs ||| partLanes
  | .retryNow _ _ => partRegs ||| partLanes ||| answerParts
  | .signalLoss _ => partRegs ||| partOutgoing ||| partLanes ||| linkDownParts
  | .laneLockLoss _ _ => partRegs ||| partBlobs ||| partOutgoing ||| partLanes ||| linkDownParts
  | .reDeskewComplete _ _ => partRegs ||| partOutgoing ||| partPorts ||| partDetectors ||| referenceParts
  | .lanePllLockLoss _ => partRegs ||| partOutgoing ||| partLanes ||| partPorts ||| partEgress ||| partQueues |||
      partRegions ||| partRx ||| partPllLost ||| partDetectors ||| partTrims ||| referenceParts
  | .lanePllRelock _ _ => partRegs ||| partBlobs ||| partLanes ||| partPllLost ||| partTrims
  | .reAdapt _ _ => partRegs ||| partOutgoing ||| partLanes ||| linkDownParts ||| answerParts
  | .fomMeasurement _ _ _ => partRegs ||| partLanes
  | .quietTransmit _ _ _ => partRegs ||| partOutgoing ||| linkDownParts ||| answerParts
  | .quietReceive _ _ _ => partRegs ||| partOutgoing ||| partLanes ||| linkDownParts ||| answerParts
  | .testModeSet _ _ _ => partRegs ||| partOutgoing ||| partLanes ||| linkDownParts ||| answerParts
  | .testModeClear _ _ => partRegs ||| partOutgoing ||| partLanes ||| linkDownParts ||| answerParts
  | .errorInjectionOne _ _ => partRegs ||| answerParts
  | .errorInjectionRate _ _ _ => partRegs ||| answerParts
  | .injectedError _ => partRegs
  | .checkerSync _ _ => partLanes
  | .checkerSyncLoss _ _ _ => partRegs ||| partLanes
  | .moduleInsert _ => partRegs ||| partPorts ||| partBusQueue
  | .moduleRemove _ => partRegs ||| partBlobs ||| partOutgoing ||| partLanes ||| partBusQueue ||| linkDownParts |||
      answerParts
  | .rereadModule _ _ => partRegs ||| partBusQueue ||| answerParts
  | .moduleIdentityRead _ _ _ _ => partRegs ||| partBlobs ||| partPorts ||| partBusQueue ||| faultParts |||
      answerParts
  | .moduleReadyTimeout _ => partRegs ||| partBlobs ||| partPorts ||| partBusQueue ||| faultParts ||| answerParts
  | .linkIdentityRecordWrite _ _ _ _ => partRegs ||| partBlobs ||| partPorts ||| partBusQueue ||| answerParts
  | .diagnosticsPoll _ _ => partPorts
  | .modResetRelease _ => partModReset ||| partModResetWait
  | .statisticsClear _ _ _ => partRegs ||| partPorts ||| answerParts
  | .frameArrival _ _ => partRx ||| partFrameCount ||| partDetectors
  | .lookupWindowComplete _ _ _ => partRegs ||| partRx ||| partFdb ||| partStreams ||| partInvalid ||| partFrer |||
      breachParts
  | .cellFill _ _ => partRegs ||| partRegions ||| partRx ||| partStreams ||| partFlights ||| partCrossings |||
      breachParts
  | .frameTail _ _ _ => partRegs ||| partOutgoing ||| partRegions ||| partRx ||| partStreams ||| partLearns |||
      partLearnRate ||| partFlights ||| partCrossings ||| breachParts
  | .learnInsert => partRegs ||| partFdb ||| partLearns
  | .ageingStep => partFdb
  | .overlayFold _ => partFolding
  | .drainTable _ _ => partRegs ||| partDrains ||| partLastDrain ||| answerParts
  | .drainComplete _ => partRegs ||| partDrains
  | .tableScrub _ _ _ _ => partRegs ||| partInvalid ||| faultParts
  | .scarabRestore _ _ _ => partInvalid
  | .frerResetTimeout _ => partFrer
  | .streamGateListActivation _ => partGates
  | .streamGateIntervalEnd _ => partGates
  | .hubFrameSend _ _ _ _ _ _ _ _ _ _ _ => partRegs ||| partRegions ||| partFrameCount ||| partRings ||| faultParts
  | .fabricSlot _ => partRegs ||| partRegions ||| partFlights ||| partEngines ||| partPerf ||| partOverflow |||
      partRegionSample ||| partRegionClear ||| faultParts
  | .cellArrival _ _ _ _ _ => partRegs ||| partFrer ||| partOverflowed ||| partFlights ||| partCrossings ||| copyParts
  | .holeTimeout _ _ _ => partRegs ||| partFrer ||| copyParts
  | .alignmentMark _ _ => partRegs ||| partRegions
  | .resyncClear _ _ => partRegions
  | .cutThroughHoldRelease _ => partRegions
  | .epochClose _ => partRegs ||| partFrer ||| copyParts
  | .creditRestore _ => partRegions
  | .egressSelection _ _ => partRegs ||| partPorts ||| partEgress ||| partWire ||| partDetectors ||| partEngines |||
      copyParts
  | .releaseInstant _ _ => partRegs ||| partPorts ||| partEgress ||| partDetectors ||| partEngines ||| copyParts
  | .egressUnderrun _ => partRegs ||| partEgress ||| partWire ||| copyParts
  | .ageSweep _ => partRegs ||| partRx ||| copyParts
  | .gateListActivation _ => partRegs ||| partBlobs ||| partEgress ||| partContracts ||| partContractX
  | .gateIntervalEnd _ => partEgress
  | .queueFlush _ _ => partRegs ||| partQueues ||| partRegions ||| faultParts
  | .bufferScrub _ _ _ _ => partRegs ||| partQueues ||| partRegions ||| partRx ||| faultParts
  | .measuredOffsetWrite _ _ => partRegs ||| partOutgoing ||| referenceParts
  | .steeringOffsetWrite _ _ _ => partRegs ||| partTbs ||| answerParts
  | .step _ _ _ => partTbs ||| answerParts
  | .stepEdge _ => partRegs ||| partTiming ||| partEgress ||| partFlights ||| partTbs ||| partCompares |||
      partFireflies ||| partReplicas ||| partSlots ||| partEngines ||| ringParts ||| copyParts
  | .set _ _ _ _ _ => allParts - (partNow ||| partPending)
  | .setEdge _ => partRegs ||| partOutgoing ||| partTiming ||| partEgress ||| partFlights ||| partTbs ||| partCompares |||
      partFireflies ||| partReplicas ||| partSlots ||| partSessions ||| copyParts ||| frequencyParts
  | .compareArm _ _ => partCompares ||| answerParts
  | .compareDisarm _ _ => partCompares ||| answerParts
  | .compareFire _ => partRegs ||| partCompares ||| partFireflies ||| partEngines ||| ringParts
  | .fireflyGridInstant _ => partRegs ||| partFireflies
  | .realignImmediate _ _ => partRegs ||| partFireflies ||| answerParts
  | .realignSlewed _ _ => partRegs ||| partFireflies ||| answerParts
  | .slewComplete _ => partRegs ||| partFireflies
  | .captureEdge _ _ _ _ => partRegs ||| partCaptures ||| ringParts
  | .captureRingRead _ => partRegs ||| partOutgoing ||| partLogRead ||| partSessions ||| partSecurity ||| ringParts |||
      answerParts
  | .resetRing _ => partRing ||| partRewind ||| answerParts
  | .timeLineMarker _ _ => partRegs ||| partBlobs ||| partOutgoing ||| partReplicas ||| partDetectors ||| partTrims |||
      referenceParts
  | .timeLineMessage _ => partRegs ||| partOutgoing ||| partReplicas ||| partDetectors ||| partTrims |||
      referenceParts
  | .delayResult _ _ => partRegs ||| partOutgoing ||| referenceParts
  | .acceptPresentDelay _ _ => partRegs ||| partOutgoing ||| referenceParts ||| answerParts
  | .acceptProposal _ _ => partRegs ||| partOutgoing ||| referenceParts ||| answerParts
  | .calibrateAsymmetry _ _ => partRegs ||| partOutgoing ||| referenceParts ||| answerParts
  | .abortCalibration _ _ => partRegs ||| partOutgoing ||| referenceParts ||| answerParts
  | .asymmetryCalibrationEnd _ => partRegs ||| partOutgoing ||| referenceParts
  | .detectorComparison _ _ _ _ => partRegs ||| partDetectors ||| faultParts
  | .detectorCalibrationDone _ _ _ _ => partDetectors
  | .laneCalibrationMeasure _ _ _ _ _ => partRegs ||| partOutgoing ||| partDetectors ||| partTrims ||| referenceParts
  | .detectorHandback _ _ _ _ => allParts - (partNow ||| partSpiOut ||| partFrameCount ||| partPllLost ||| partDrains |||
      partLastDrain ||| partLearnRate ||| partOverflowed ||| partWire ||| partSyncEdge ||| partCaptures |||
      partPtpDiscarded ||| partEsmcOut ||| partAnalog ||| partAnalogShadow ||| partRoundRuns ||| partRoundDue |||
      partLog ||| partLogRead ||| partFirstFault ||| partSafeRecord ||| partErrN ||| partSafeN ||| partErrNHold |||
      partPerf ||| partOverflow ||| partClearPending ||| partRegionSample ||| partRegionClear ||| partEpochAt |||
      partMonitors ||| partMonitorFirst ||| partStart ||| partShared ||| partPending)
  | .slotGuardExpiry _ => partRegs ||| partOutgoing ||| referenceParts
  | .disputeEnd _ _ => partRegs ||| partOutgoing ||| referenceParts
  | .candidateGuardExpiry _ _ => allParts - (partNow ||| partPending)
  | .phaseAccept _ _ _ => partRegs ||| partOutgoing ||| referenceParts ||| answerParts
  | .pinInputLoss _ => partRegs ||| partOutgoing ||| referenceParts
  | .esmcReceive _ _ _ => partRegs ||| partOutgoing ||| referenceParts
  | .esmcTimeout _ => partRegs ||| partOutgoing ||| referenceParts
  | .esmcSend => partEsmcOut
  | .frequencyLock => partRegs ||| partOutgoing ||| referenceParts
  | .synthLock _ _ _ _ => partRegs ||| partLanes ||| partClocks ||| partTbs
  | .synthLockLoss _ _ => allParts - (partNow ||| partSpiOut ||| partFrameCount ||| partPllLost ||| partDrains |||
      partLastDrain ||| partLearnRate ||| partOverflowed ||| partWire ||| partSyncEdge ||| partCaptures |||
      partPtpDiscarded ||| partEsmcOut ||| partAnalog ||| partAnalogShadow ||| partRoundRuns ||| partRoundDue |||
      partLog ||| partLogRead ||| partFirstFault ||| partSafeRecord ||| partErrN ||| partSafeN ||| partErrNHold |||
      partClearPending ||| partRegionSample ||| partRegionClear ||| partEpochAt ||| partMonitors ||| partMonitorFirst |||
      partStart ||| partShared ||| partPending)
  | .backupReady _ _ _ => partRegs ||| partLanes ||| partClocks ||| partTbs ||| partReplicas ||| partDetectors |||
      partTrims ||| partWindows ||| partEngines ||| partPerf ||| partOverflow
  | .backupAlignmentLoss _ _ => partRegs ||| faultParts
  | .swap _ _ => partRegs ||| partLanes ||| partClocks ||| partTbs ||| partReplicas ||| partDetectors ||| partTrims |||
      partWindows ||| partEngines ||| partPerf ||| partOverflow ||| answerParts
  | .syncInEdge _ => partRegs ||| partSyncEdge ||| partClockStarted ||| partClocks
  | .calibrationPeriodExpiry _ _ => partRegs ||| partFireflies ||| partCaptures ||| partReplicas ||| partDetectors |||
      partRoundRuns ||| partTrims ||| faultParts
  | .temperatureTrigger _ _ _ => partRegs ||| partFireflies ||| partCaptures ||| partReplicas ||| partDetectors |||
      partRoundRuns ||| partTrims ||| faultParts
  | .calibrateNow _ _ _ => partRegs ||| partFireflies ||| partCaptures ||| partReplicas ||| partDetectors |||
      partRoundRuns ||| partTrims ||| faultParts ||| answerParts
  | .calibrationRoundEnd => partRegs ||| partFireflies ||| partCaptures ||| partReplicas ||| partDetectors |||
      partRoundRuns ||| partRoundDue ||| partTrims ||| faultParts
  | .fireflyVernierApply _ => partFireflies
  | .sensorChannelCalibration _ _ _ => partRegs ||| partAnalog ||| partAnalogShadow
  | .keaconHandshake _ _ _ _ _ _ _ _ _ => partRegs ||| partBlobs ||| partOutgoing ||| partContracts ||| partEngines |||
      partRings ||| linkParts
  | .cricketSend => partRegs ||| partTwin
  | .cricketReceive _ _ _ _ => allParts - (partNow ||| partSpiOut ||| partFrameCount ||| partPllLost ||| partInvalid |||
      partDrains ||| partLastDrain ||| partLearnRate ||| partBreaches ||| partOverflowed ||| partFlights |||
      partCrossings ||| partWire ||| partSyncEdge ||| partCaptures ||| partReplicas ||| partPtpDiscarded |||
      partEsmcOut ||| partAnalog ||| partAnalogShadow ||| partRoundRuns ||| partRoundDue ||| partLog ||| partLogRead |||
      partFirstFault ||| partSafeRecord ||| partFences ||| partErrN ||| partSafeN ||| partErrNHold ||| partDomains |||
      partPerf ||| partOverflow ||| partClearPending ||| partRegionSample ||| partRegionClear ||| partEpochAt |||
      partMonitors ||| partMonitorFirst ||| partStart ||| partBankDraws ||| partShared ||| partPending)
  | .cricketTimeout => partRegs ||| partOutgoing ||| partFireflies ||| partTwin ||| partSessions ||| partEngines |||
      faultParts
  | .twinWaitExpiry => partRegs ||| partOutgoing ||| partTwin ||| partSessions ||| partEngines ||| faultParts
  | .handover _ => partRegs ||| partOutgoing ||| partTwin ||| partSessions ||| partEngines ||| answerParts
  | .holdoverTakeover => partRegs ||| partOutgoing ||| partTwin ||| partSessions ||| partEngines
  | .yieldReceive => partRegs ||| partOutgoing ||| partFireflies ||| partTwin ||| partSessions ||| partEngines
  | .twinHoldInChange _ => partRegs ||| partOutgoing ||| partClocks ||| partFireflies ||| partTwin ||| partSessions |||
      partEngines
  | .sharedOutputEnable => partClocks ||| partFireflies ||| partTwin
  | .holdMismatch => partRegs ||| faultParts
  | .keaconReorderTimeout _ => allParts - (partNow ||| partSpiOut ||| partPllLost ||| partInvalid ||| partDrains |||
      partLastDrain ||| partLearnRate ||| partBreaches ||| partOverflowed ||| partFlights ||| partCrossings |||
      partWire ||| partSyncEdge ||| partCaptures ||| partReplicas ||| partPtpDiscarded ||| partEsmcOut ||| partAnalog |||
      partAnalogShadow ||| partRoundRuns ||| partRoundDue ||| partLog ||| partLogRead ||| partFirstFault |||
      partSafeRecord ||| partFences ||| partErrN ||| partSafeN ||| partErrNHold ||| partDomains ||| partPerf |||
      partOverflow ||| partClearPending ||| partRegionSample ||| partRegionClear ||| partEpochAt ||| partMonitors |||
      partMonitorFirst ||| partStart ||| partBankDraws ||| partShared ||| partPending)
  | .mirrorFrameReceive _ _ => allParts - (partNow ||| partSpiOut ||| partPllLost ||| partInvalid ||| partDrains |||
      partLastDrain ||| partLearnRate ||| partBreaches ||| partOverflowed ||| partFlights ||| partCrossings |||
      partWire ||| partSyncEdge ||| partCaptures ||| partReplicas ||| partPtpDiscarded ||| partEsmcOut ||| partAnalog |||
      partAnalogShadow ||| partRoundRuns ||| partRoundDue ||| partLog ||| partLogRead ||| partFirstFault |||
      partSafeRecord ||| partFences ||| partErrN ||| partSafeN ||| partErrNHold ||| partDomains ||| partPerf |||
      partOverflow ||| partClearPending ||| partRegionSample ||| partRegionClear ||| partEpochAt ||| partMonitors |||
      partMonitorFirst ||| partStart ||| partBankDraws ||| partShared ||| partPending)
  | .resync _ => partRegs ||| partTwin ||| answerParts
  | .resyncComplete => partRegs
  | .coverNoticeReceive _ _ => allParts - (partNow ||| partSpiOut ||| partPllLost ||| partInvalid ||| partDrains |||
      partLastDrain ||| partLearnRate ||| partBreaches ||| partOverflowed ||| partFlights ||| partCrossings |||
      partWire ||| partSyncEdge ||| partCaptures ||| partReplicas ||| partPtpDiscarded ||| partEsmcOut ||| partAnalog |||
      partAnalogShadow ||| partRoundRuns ||| partRoundDue ||| partLog ||| partLogRead ||| partFirstFault |||
      partSafeRecord ||| partFences ||| partErrN ||| partSafeN ||| partErrNHold ||| partDomains ||| partPerf |||
      partOverflow ||| partClearPending ||| partRegionSample ||| partRegionClear ||| partEpochAt ||| partMonitors |||
      partMonitorFirst ||| partStart ||| partBankDraws ||| partShared ||| partPending)
  | .coverFrameReceive _ _ _ _ _ _ => allParts - (partNow ||| partSpiOut ||| partPllLost ||| partInvalid |||
      partDrains ||| partLastDrain ||| partLearnRate ||| partBreaches ||| partOverflowed ||| partFlights |||
      partCrossings ||| partWire ||| partSyncEdge ||| partCaptures ||| partReplicas ||| partPtpDiscarded |||
      partEsmcOut ||| partAnalog ||| partAnalogShadow ||| partRoundRuns ||| partRoundDue ||| partLog ||| partLogRead |||
      partFirstFault ||| partSafeRecord ||| partFences ||| partErrN ||| partSafeN ||| partErrNHold ||| partDomains |||
      partPerf ||| partOverflow ||| partClearPending ||| partRegionSample ||| partRegionClear ||| partEpochAt |||
      partMonitors ||| partMonitorFirst ||| partStart ||| partBankDraws ||| partShared ||| partPending)
  | .coverFrameTimeout => partRegs ||| partTwin
  | .uncoverNoticeReceive _ _ => allParts - (partNow ||| partSpiOut ||| partPllLost ||| partInvalid ||| partDrains |||
      partLastDrain ||| partLearnRate ||| partBreaches ||| partOverflowed ||| partFlights ||| partCrossings |||
      partWire ||| partSyncEdge ||| partCaptures ||| partReplicas ||| partPtpDiscarded ||| partEsmcOut ||| partAnalog |||
      partAnalogShadow ||| partRoundRuns ||| partRoundDue ||| partLog ||| partLogRead ||| partFirstFault |||
      partSafeRecord ||| partFences ||| partErrN ||| partSafeN ||| partErrNHold ||| partDomains ||| partPerf |||
      partOverflow ||| partClearPending ||| partRegionSample ||| partRegionClear ||| partEpochAt ||| partMonitors |||
      partMonitorFirst ||| partStart ||| partBankDraws ||| partShared ||| partPending)
  | .uncoverAckReceive _ _ => allParts - (partNow ||| partSpiOut ||| partPllLost ||| partInvalid ||| partDrains |||
      partLastDrain ||| partLearnRate ||| partBreaches ||| partOverflowed ||| partFlights ||| partCrossings |||
      partWire ||| partSyncEdge ||| partCaptures ||| partReplicas ||| partPtpDiscarded ||| partEsmcOut ||| partAnalog |||
      partAnalogShadow ||| partRoundRuns ||| partRoundDue ||| partLog ||| partLogRead ||| partFirstFault |||
      partSafeRecord ||| partFences ||| partErrN ||| partSafeN ||| partErrNHold ||| partDomains ||| partPerf |||
      partOverflow ||| partClearPending ||| partRegionSample ||| partRegionClear ||| partEpochAt ||| partMonitors |||
      partMonitorFirst ||| partStart ||| partBankDraws ||| partShared ||| partPending)
  | .releaseCover _ _ => partRegs ||| partOutgoing ||| partPorts ||| partContracts ||| partDetectors ||| partRings |||
      referenceParts ||| answerParts
  | .faultDetection _ _ => allParts - (partNow ||| partPending)
  | .selfFault _ => partRegs ||| partOutgoing ||| partLanes ||| partOverflowed ||| partFlights ||| partCrossings |||
      partClocks ||| partCompares ||| partSafeRecord ||| partMasks ||| partWindows ||| partErrN ||| partSafeN |||
      partErrNHold ||| partDomains ||| partSecurity ||| partStart ||| linkDownParts
  | .maskEnd _ _ => partMasks
  | .consequenceWindowClose => partWindows
  | .clearFirstFault _ => partFirstFault ||| answerParts
  | .faultRecordsRead _ => partRegs ||| partOutgoing ||| partLogRead ||| partSessions ||| partSecurity ||| ringParts |||
      answerParts
  | .acknowledge _ => partLog ||| partErrN ||| partErrNHold ||| answerParts
  | .errNMinimumExpiry => partErrN ||| partErrNHold
  | .hostFence _ _ _ => allParts - (partNow ||| partSpiOut ||| partFrameCount ||| partPllLost ||| partDrains |||
      partLastDrain ||| partLearnRate ||| partWire ||| partSyncEdge ||| partCaptures ||| partPtpDiscarded |||
      partEsmcOut ||| partAnalog ||| partAnalogShadow ||| partRoundRuns ||| partRoundDue ||| partPerf ||| partOverflow |||
      partClearPending ||| partRegionSample ||| partRegionClear ||| partEpochAt ||| partMonitors ||| partMonitorFirst |||
      partShared ||| partPending)
  | .fenceRelease _ _ _ _ => allParts - (partNow ||| partSpiOut ||| partFrameCount ||| partPllLost ||| partInvalid |||
      partDrains ||| partLastDrain ||| partLearnRate ||| partOverflowed ||| partWire ||| partSyncEdge ||| partCaptures |||
      partReplicas ||| partPtpDiscarded ||| partEsmcOut ||| partAnalog ||| partAnalogShadow ||| partRoundRuns |||
      partRoundDue ||| partLog ||| partLogRead ||| partFirstFault ||| partSafeRecord ||| partErrN ||| partSafeN |||
      partErrNHold ||| partPerf ||| partOverflow ||| partClearPending ||| partRegionSample ||| partRegionClear |||
      partEpochAt ||| partMonitors ||| partMonitorFirst ||| partStart ||| partBankDraws ||| partShared |||
      partPending)
  | .supplyOutOfRange _ => partRegs ||| partOutgoing ||| partLanes ||| partOverflowed ||| partFlights |||
      partCrossings ||| partClocks ||| partCompares ||| partSafeRecord ||| partMasks ||| partWindows ||| partErrN |||
      partSafeN ||| partErrNHold ||| partDomains ||| partSecurity ||| partStart ||| linkDownParts
  | .temperatureThreshold _ _ => faultParts
  | .timingBankSupplyLoss _ => partStart
  | .openRequest _ _ _ _ _ => partRegs ||| partBlobs ||| partOutgoing ||| partSessions ||| answerParts
  | .openConfirm _ _ _ => partRegs ||| partOutgoing ||| partSessions ||| answerParts
  | .close _ => partRegs ||| partBlobs ||| partOutgoing ||| partSessions ||| partCommits ||| answerParts
  | .keepalive _ => partRegs ||| partOutgoing ||| partSessions ||| answerParts
  | .read _ _ _ _ => partRegs ||| partOutgoing ||| partLogRead ||| partSessions ||| partSecurity ||| ringParts |||
      answerParts
  | .writeAndHold _ _ _ _ _ _ _ _ _ => partRegs ||| partOutgoing ||| partSessions ||| answerParts
  | .writeAndCommit _ _ _ _ _ _ _ _ => allParts - (partNow ||| partPending)
  | .commit _ _ => allParts - (partNow ||| partPending)
  | .abortGroup _ _ => partRegs ||| partOutgoing ||| partSessions ||| answerParts
  | .claim _ _ _ => partRegs ||| partOutgoing ||| partSessions ||| answerParts
  | .release _ _ _ => partRegs ||| partOutgoing ||| partSessions ||| answerParts
  | .commitPoint => allParts - (partNow ||| partPending)
  | .registerWrite _ _ _ => allParts - (partNow ||| partSpiOut ||| partFrameCount ||| partPllLost ||| partInvalid |||
      partDrains ||| partLastDrain ||| partLearnRate ||| partBreaches ||| partOverflowed ||| partFlights |||
      partCrossings ||| partWire ||| partSyncEdge ||| partCaptures ||| partReplicas ||| partPtpDiscarded |||
      partEsmcOut ||| partAnalog ||| partAnalogShadow ||| partRoundRuns ||| partRoundDue ||| partLog ||| partLogRead |||
      partFirstFault ||| partSafeRecord ||| partFences ||| partErrN ||| partSafeN ||| partErrNHold ||| partDomains |||
      partPerf ||| partOverflow ||| partClearPending ||| partRegionSample ||| partRegionClear ||| partEpochAt |||
      partMonitors ||| partMonitorFirst ||| partStart ||| partBankDraws ||| partShared ||| partPending)
  | .sessionTimeout _ => partRegs ||| partBlobs ||| partSessions ||| partCommits
  | .transportLost _ => partRegs ||| partBlobs ||| partSessions ||| partCommits
  | .snapshotTimeout _ => partSessions
  | .relayedRequest _ _ _ => partOutgoing ||| partTwin ||| partSessions ||| answerParts
  | .spiSendRequest _ _ _ _ => allParts - (partNow ||| partPending)
  | .spiTakeResponse => partSpiOut ||| partSessions
  | .spiPoll => partSpiOut ||| answerParts
  | .spiWordRead _ _ _ => partRegs ||| partSpiOut ||| partSessions ||| partSecurity ||| answerParts
  | .watchdogRestart _ => partEngines
  | .watchdogExpiry _ => partEngines ||| faultParts
  | .engineTrap _ _ _ _ => partBlobs ||| faultParts
  | .threadTimerExpiry _ _ => partRegs ||| partEngines
  | .imageLoadComplete _ _ => partRegs ||| partEngines
  | .epochBoundary _ => partRegs ||| partEngines ||| partPerf ||| partOverflow ||| partClearPending |||
      partRegionSample ||| partRegionClear ||| partEpochAt ||| partMonitorPending ||| partMonitors |||
      partMonitorFirst
  | .counterWrap _ => partRegs ||| partEngines ||| partPerf ||| partOverflow
  | .monitorSample _ => partRegs ||| partEngines ||| partPerf ||| partOverflow ||| partMonitorFirst
  | .clearCounters _ => partRegs ||| partClearPending ||| answerParts
  | .overflowMapClear _ _ _ => partRegs ||| partEngines ||| partPerf ||| partOverflow ||| answerParts
  | .toProvisioned _ _ _ _ => partRegs ||| partSecurity ||| answerParts
  | .toDeployed _ _ => partRegs ||| partSecurity ||| answerParts
  | .toDecommissioned _ _ => partRegs ||| partSecurity ||| answerParts
  | .revokeOwnerSlot _ _ => partRegs ||| partSecurity ||| answerParts
  | .pendingCommandLapse => partRegs ||| partSecurity
  | .fuseBurnComplete _ => allParts - (partNow ||| partPending)
  | .raiseBaseFloor _ => partRegs ||| answerParts
  | .raiseOwnerFloor _ => partRegs ||| answerParts
  | .debugChallengeRead _ => partSecurity ||| answerParts
  | .debugResponse _ _ _ => partRegs ||| partSecurity ||| answerParts
  | .challengeLapse => partRegs ||| partSecurity
  | .grantExpiry => partRegs ||| partEngines ||| partSecurity
  | .endGrant _ => partRegs ||| partEngines ||| partSecurity ||| answerParts
  | .closeOpen _ => partRegs ||| partEngines ||| partSecurity ||| answerParts
  | .probeHalt _ _ _ => partRegs ||| partEngines
  | .probeIntrusiveAccess _ _ _ _ => partEngines ||| partShared
  | .probeNonintrusiveAccess _ _ _ => answerParts
  | .powerUp _ => allParts - (partNow ||| partPending)
  | .resetNAssert => allParts - (partNow ||| partLog ||| partLogRead ||| partFirstFault ||| partSafeRecord |||
      partBankDraws ||| partPending)
  | .resetNRelease _ => allParts - (partNow ||| partPending)
  | .regionSupplyTimeout _ _ => allParts - (partNow ||| partPending)
  | .startCommand _ _ => allParts - (partNow ||| partPending)
  | .startStepTimeout => partRegs ||| partBlobs ||| partStart
  | .startRetry _ => allParts - (partNow ||| partPending)
  | .settleTimeExpiry => partRegs ||| partStart
  | .releaseHold _ => allParts - (partNow ||| partSpiOut ||| partWire ||| partSyncEdge ||| partPtpDiscarded |||
      partEsmcOut ||| partShared ||| partPending)
  | .holdLimitExpiry => allParts - (partNow ||| partSpiOut ||| partWire ||| partSyncEdge ||| partPtpDiscarded |||
      partEsmcOut ||| partShared ||| partPending)
  | .imageSave _ _ => partRegs ||| partStart ||| answerParts
  | .imageErase _ => partRegs ||| partStart ||| answerParts
  | .stallLimitExpiry _ => partRegs ||| partCrossings ||| faultParts
  | .frequencyOffsetMeasurement _ _ => partRegs ||| partOutgoing ||| referenceParts
  | .referencePinEdge _ _ => partRegs ||| partOutgoing ||| referenceParts
  | .slotOffsetTimeout _ _ => partRegs ||| partOutgoing ||| referenceParts
  | .dictionaryPortWrite _ _ _ _ => allParts - (partNow ||| partPending)
  | .hubChannelFrameBoundary _ _ => partRegs ||| partQueues ||| partRegions ||| partFrameCount ||| partFlights |||
      partCrossings ||| partPtpDiscarded ||| partTwin ||| partEngines ||| partRings ||| faultParts
  | .powerRemoval => allParts - (partNow ||| partBankDraws ||| partPending)

/-- The fuses of the lifecycle groups (18 R451): three groups of at most 8 blown fuses. -/
def State.fusesHold (s : State) : Prop := s.security.groups.length = 3 ∧ s.security.groups.all (fun n => decide (n ≤ 8)) = true

/-- The run state agrees with the fences (15 R388): in service, DEGRADED while a fence stands and RUN while none does. -/
def State.runAgrees (s : State) : Prop := s.isUp = true → s.runState = if s.fences.isEmpty then 2 else 3

end Sys2Proof.Machine
end

