-- ==== Sys2Proof/Certificates/Slice0/Obligations.lean ====
section
/-! DEFINITION. The statements about the machine, for the provers. Each command has, in one of them, a completion: hypotheses on the
state and the operands alone under which `exec` answers the next state of the command's own effect, and what that state holds.
Hypotheses that name an item or a field say that the command applies; a write of a host is admitted (`State.admits`). Every statement about an event takes the event's own condition or
time as come (log entry 1), and about a row that is a host's write, that it acts at its commit point (log entry 27). -/

open Sys2Proof Sys2Proof.Machine

/-! ## Lanes (03_lanes.md) -/

/-- The conditions of bring-up (R64, R66, R67): CDR lock ends stage 2, an expired try inverts the polarity tried, lock ends stage 3 with the polarity
found and, on a bonded port, the lane order and, but in a re-deskew, the deskew; the lane starts to adapt.
Completes `exec i s = .next t` for i = cdrLock, polarityTryExpiry, blockLock. -/
def Obligations.LaneLockAdvancesTraining : Prop :=
  (∀ (l : LaneId) (s : State), s.stage l = 2 → s.flag (laneIndex l) 0x17 = false →
    Runs (.cdrLock l) s fun t => t.stage l = 3 ∧ t.bit (laneIndex l) 0x03 1 = true ∧
      SameEntries (fun i j => i = laneIndex l ∧ (j = 0x02 ∨ j = 0x03)) s t ∧ Only partRegs s t) ∧
  (∀ (l : LaneId) (s : State), s.stage l = 3 → s.bit (laneIndex l) 0x03 2 = false → s.nat (laneIndex l) 0x0B = 0 →
    Runs (.polarityTryExpiry l) s fun t => t.lane l = { s.lane l with tryInverted := !(s.lane l).tryInverted } ∧
      (∀ m, m ≠ l.val → t.lane m = s.lane m) ∧ Only partLanes s t) ∧
  (∀ (l : LaneId) (order : Fin 4) (deskewPs : Nat) (s : State), s.stage l = 3 → s.bit (laneIndex l) 0x03 1 = true →
    s.flag (laneIndex l) 0x17 = false →
    Runs (.blockLock l order deskewPs) s fun t => t.stage l = 4 ∧ t.bit (laneIndex l) 0x03 2 = true ∧
      (t.lane l).polarity = (if (s.lane l).tryInverted then 2 else 1) ∧
      (∀ p, s.ownPort l = some p → 5 ≤ s.mode p → order.val < modeLanes (s.mode p) →
        t.nat (laneIndex p) 0x0E = order ∧ ((s.port p).bondWait = false → (t.port p).deskewPs = deskewPs)) ∧
      SameEntries (fun i j => (i = laneIndex l ∧ (j = 0x02 ∨ j = 0x03 ∨ j = 0x14)) ∨ (j = 0x0E ∧ ∃ p, s.ownPort l = some p ∧ i = laneIndex p))
        s t ∧
      Only (partRegs ||| partLanes ||| partPorts) s t)

/-- Stage 1 and stage 4 end (R64, R65, R69, R70, R73, R75, R501): signal starts an attempt with its timer; after a second without signal k returns to
0 and a waiting lane starts too; a figure of merit at the threshold keeps the adaptation, with the kept setting or the best of the sweep, and
ends stage 4, in stage 5 or, where the lane may not be syntonised, up in stage 7. Rests on choices of the model: log entry 100.
Completes `exec i s = .next t` for i = signalDetected, adaptComplete. -/
def Obligations.LaneAttemptBeginsAndAdapts : Prop :=
  (∀ (l : LaneId) (s : State), s.stage l = 1 → s.flag (laneIndex l) 0x17 = false → s.pllDown l = false →
    Runs (.signalDetected l) s fun t => t.stage l = 2 ∧ t.bit (laneIndex l) 0x03 0 = true ∧ (t.lane l).attempt = true ∧
      (t.lane l).timerRuns = true ∧ (t.lane l).absentSince = none) ∧
  (∀ (l : LaneId) (s : State) (since : Nat), (s.lane l).absentSince = some since → s.stage l = 8 →
    s.flag (laneIndex l) 0x17 = false → s.pllDown l = false →
    Runs (.signalDetected l) s fun t =>
      (since + 1000000000 ≤ s.now → t.stage l = 2 ∧ t.nat (laneIndex l) 0x22 = 0 ∧ (t.lane l).retryAt = none) ∧
      (s.now < since + 1000000000 → t.stage l = 8 ∧ t.nat (laneIndex l) 0x22 = s.nat (laneIndex l) 0x22)) ∧
  (∀ (l : LaneId) (fom : BitVec 8) (rec : AdaptRecord) (s : State), s.stage l = 4 → s.adaptThreshold l ≤ fom.toNat →
    Runs (.adaptComplete l fom rec) s fun t => t.stage l = (if s.rateOnly l then 7 else 5) ∧ t.nat (laneIndex l) 0x0F = fom.toNat ∧
      t.nat (laneIndex l) 0x14 = s.adaptedCtle l rec ∧ t.bit (laneIndex l) 0x03 3 = true ∧
      (t.blob (laneIndex l) 0x13).length = 24 ∧ (t.blob (laneIndex l) 0x13).take 1 = [BitVec.ofNat 8 (s.nat (laneIndex l) 0x01)])

/-- The clocking mode of a lane (R64, R69, R71, R72): within the window stage 5 ends up syntonised with a centred buffer and k at 0; a lane that may
not be syntonised ends it rate-matched; a syntonised lane beyond the window, or near an end of its buffer, shows that and leaves at the next
idle; a retry within the window leads to syntony at the next idle, one beyond it to the next retry. Rests on choices of the model: log entry 69.
Completes `exec i s = .next t` for i = syntonyIntervalEnd, elasticFillLimit, rateMatchSwitch, syntonisedSwitch. -/
def Obligations.LaneSyntonyFollowsOffset : Prop :=
  (∀ (l : LaneId) (ppt : Int) (fill : Fin 33) (s : State), s.stage l = 5 → (s.lane l).discardInterval = false → s.rateOnly l = false →
    ppt.natAbs ≤ s.nat (laneIndex l) 0x08 * 1000 → ppt.natAbs < 2147483648 →
    Runs (.syntonyIntervalEnd l ppt fill) s fun t => t.stage l = 6 ∧ t.reg (laneIndex l) 0x0A = ppt ∧
      t.nat (laneIndex l) 0x22 = 0 ∧ (t.lane l).fill = max 12 (min 20 fill.val) ∧ (t.lane l).attempt = false) ∧
  (∀ (l : LaneId) (ppt : Int) (fill : Fin 33) (s : State), s.stage l = 6 → (s.lane l).discardInterval = false →
    s.nat (laneIndex l) 0x08 * 1000 < ppt.natAbs → (s.lane l).modeChange ≠ 1 →
    Runs (.syntonyIntervalEnd l ppt fill) s fun t => t.stage l = 6 ∧ (t.lane l).modeChange = 1 ∧
      t.bit (laneIndex l) 0x03 22 = true) ∧
  (∀ (l : LaneId) (ppt : Int) (fill : Fin 33) (s : State), s.stage l = 7 → (s.lane l).retryRuns = true →
    (s.lane l).discardInterval = false → s.rateOnly l = false →
    Runs (.syntonyIntervalEnd l ppt fill) s fun t => t.stage l = 7 ∧ (t.lane l).retryRuns = false ∧
      (ppt.natAbs ≤ s.nat (laneIndex l) 0x08 * 1000 → (t.lane l).modeChange = 2 ∧ (t.lane l).fill = max 4 (min 28 fill.val)) ∧
      (s.nat (laneIndex l) 0x08 * 1000 < ppt.natAbs → (t.lane l).retryAt =
        some (s.now + s.backoff l (min 65535 (s.nat (laneIndex l) 0x22 + 1)) * 1000000))) ∧
  (∀ (l : LaneId) (s : State), s.stage l = 6 → (s.lane l).modeChange ≠ 1 →
    Runs (.elasticFillLimit l) s fun t => (t.lane l).modeChange = 1 ∧ t.bit (laneIndex l) 0x03 22 = true) ∧
  (∀ (l : LaneId) (s : State), s.stage l = 6 → (s.lane l).modeChange = 1 →
    Runs (.rateMatchSwitch l) s fun t => t.stage l = 7 ∧ (t.lane l).modeChange = 0 ∧ t.bit (laneIndex l) 0x03 5 = true ∧
      t.bit (laneIndex l) 0x03 4 = false) ∧
  (∀ (l : LaneId) (ppt : Int) (fill : Fin 33) (s : State), s.stage l = 5 → (s.lane l).discardInterval = false → s.rateOnly l = true →
    Runs (.syntonyIntervalEnd l ppt fill) s fun t => t.stage l = 7 ∧ (t.lane l).attempt = false) ∧
  (∀ (l : LaneId) (s : State), s.stage l = 7 → (s.lane l).modeChange = 2 → s.rateOnly l = false →
    Runs (.syntonisedSwitch l) s fun t => t.stage l = 6 ∧ (t.lane l).modeChange = 0 ∧ t.nat (laneIndex l) 0x22 = 0 ∧
      (t.lane l).fill = max 12 (min 20 (s.lane l).fill) ∧ t.bit (laneIndex l) 0x03 4 = true)

/-- Timeout and retry (R68, R69): at the timeout a lane with both locks comes up rate-matched, one without waits for the k-th retry, base × 2^(k − 1)
ms later and at most the limit; the wait over, it starts again in stage 1, and a host's write starts it at once with k at 0. Rests on choices of
the model: log entry 68.
Completes `exec i s = .next t` for i = trainingTimeout, backoffExpiry, retryNow. -/
def Obligations.LaneTimeoutAndRetry : Prop :=
  (∀ (l : LaneId) (s : State), (s.lane l).timerRuns = true → (s.training l = true ∨ s.stage l = 1) →
    Runs (.trainingTimeout l) s fun t => t.bit (laneIndex l) 0x03 21 = true ∧ (t.lane l).timerRuns = false ∧
      (s.bit (laneIndex l) 0x03 1 = true → s.bit (laneIndex l) 0x03 2 = true → t.stage l = 7) ∧
      ((s.bit (laneIndex l) 0x03 1 = false ∨ s.bit (laneIndex l) 0x03 2 = false) →
        t.stage l = 8 ∧ t.nat (laneIndex l) 0x22 = min 65535 (s.nat (laneIndex l) 0x22 + 1) ∧
        (t.lane l).retryAt = some (s.now + min (s.nat (laneIndex l) 0x07)
          (s.nat (laneIndex l) 0x06 * 2 ^ (min 65535 (s.nat (laneIndex l) 0x22 + 1) - 1)) * 1000000))) ∧
  (∀ (l : LaneId) (s : State), (s.lane l).retryAt.isSome = true →
    Runs (.backoffExpiry l) s fun t => (t.lane l).retryAt = none ∧ (s.stage l = 8 → t.stage l = 1) ∧
      (s.stage l = 7 → s.rateOnly l = false → t.stage l = 7 ∧ (t.lane l).retryRuns = true) ∧
      SameEntries (fun i j => i = laneIndex l ∧ (j = 0x02 ∨ j = 0x03)) s t ∧ Only (partRegs ||| partLanes) s t) ∧
  (∀ (role : Role) (l : LaneId) (s : State), s.admits role (laneIndex l) 0x24 →
    Runs (.retryNow role l) s fun t => t.lastStatus = 0 ∧ t.nat (laneIndex l) 0x22 = 0 ∧ (t.lane l).retryAt = none ∧
      (s.stage l = 8 → t.stage l = 1) ∧
      SameEntries (fun i j => i = laneIndex l ∧ (j = 0x02 ∨ j = 0x03 ∨ j = 0x22)) s t)

/-- What a lane loses (R65, R79, R85, R86): the live bits of the lost conditions fall and their sticky bits rise; an up lane goes to stage 1 without
signal and to stage 2 without a lock, and so does a lane in training; its adaptation falls. Rests on choices of the model: log entries 68, 70.
Completes `exec i s = .next t` for i = signalLoss, laneLockLoss, lanePllLockLoss, lanePllRelock. -/
def Obligations.LaneLossReturnsStage : Prop :=
  (∀ (l : LaneId) (s : State), 2 ≤ s.stage l → s.stage l ≤ 7 → s.flag (laneIndex l) 0x17 = false →
    Runs (.signalLoss l) s fun t => t.stage l = 1 ∧ (t.lane l).absentSince.isSome = true ∧
      (∀ b, b < 4 → t.bit (laneIndex l) 0x03 b = false) ∧
      (∀ b, b < 3 → s.bit (laneIndex l) 0x03 b = true → t.bit (laneIndex l) 0x03 (18 + b) = true)) ∧
  (∀ (l : LaneId) (kind : LockKind) (s : State), 3 ≤ s.stage l → s.stage l ≤ 7 → s.flag (laneIndex l) 0x17 = false →
    Runs (.laneLockLoss l kind) s fun t => t.stage l = 2 ∧ t.bit (laneIndex l) 0x03 2 = false ∧ t.bit (laneIndex l) 0x03 3 = false ∧
      t.bit (laneIndex l) 0x03 0 = s.bit (laneIndex l) 0x03 0 ∧ (kind = .cdr → t.bit (laneIndex l) 0x03 1 = false) ∧
      (s.bit (laneIndex l) 0x03 2 = true → t.bit (laneIndex l) 0x03 20 = true)) ∧
  (∀ (c : ClusterId) (s : State), s.pllLost.testBit c = false →
    Runs (.lanePllLockLoss c) s fun t => t.pllLost.testBit c = true ∧ (∀ d, d ≠ c.val → t.pllLost.testBit d = s.pllLost.testBit d) ∧
      (∀ i, i < 4 → 1 ≤ s.stage (4 * c + i) → s.stage (4 * c + i) ≤ 7 → t.stage (4 * c + i) = 1 ∧ (t.lane (4 * c + i)).pllWait = true) ∧
      (∀ n, n < 96 → n / 4 ≠ c.val → t.stage n = s.stage n)) ∧
  (∀ (c : ClusterId) (signals : BitVec 4) (s : State), s.pllLost.testBit c = true →
    Runs (.lanePllRelock c signals) s fun t => t.pllLost.testBit c = false ∧
      (∀ i, i < 4 → s.stage (4 * c + i) = 1 → s.flag (laneIndex (4 * c + i)) 0x17 = false →
        (t.lane (4 * c + i)).pllWait = false ∧ t.stage (4 * c + i) = (if signals.getLsbD i then 2 else 1)))

/-- Adaptation and its figure of merit (R74, R76, R77, R80): a re-adaptation takes an up lane back to stage 4 and no other; a measurement shows
round(256 h / A), at most 255, and on an up lane judges the warning level; the re-deskewed port takes its new deskew. Rests on choices of the
model: log entries 69, 70, 100.
Completes `exec i s = .next t` for i = reDeskewComplete, reAdapt, fomMeasurement. -/
def Obligations.LaneAdaptationIsJudged : Prop :=
  (∀ (role : Role) (l : LaneId) (s : State), s.admits role (laneIndex l) 0x15 →
    Runs (.reAdapt role l) s fun t => t.lastStatus = 0 ∧
      t.stage l = (if s.stage l = 6 ∨ s.stage l = 7 then 4 else s.stage l) ∧
      ((s.stage l = 6 ∨ s.stage l = 7) → (t.lane l).attempt = true ∧ t.bit (laneIndex l) 0x03 3 = false) ∧
      (s.stage l ≠ 6 → s.stage l ≠ 7 → Only (partLastStatus ||| partLastDetail) s t)) ∧
  (∀ (l : LaneId) (h a : Nat) (s : State), 0 < a → 3 ≤ s.stage l →
    Runs (.fomMeasurement l h a) s fun t =>
      t.nat (laneIndex l) 0x0F = min 255 ((512 * h + a) / (2 * a)) ∧
      ((s.stage l = 6 ∨ s.stage l = 7) → min 255 ((512 * h + a) / (2 * a)) + s.nat (laneIndex l) 0x12 < s.adaptThreshold l →
        t.bit (laneIndex l) 0x03 6 = true ∧ t.bit (laneIndex l) 0x03 23 = true) ∧
      ((s.stage l = 6 ∨ s.stage l = 7) → s.adaptThreshold l ≤ min 255 ((512 * h + a) / (2 * a)) →
        t.bit (laneIndex l) 0x03 6 = false) ∧
      SameEntries (fun i j => i = laneIndex l ∧ (j = 0x03 ∨ j = 0x0F)) s t ∧ Only (partRegs ||| partLanes) s t ∧
      ((s.stage l ≠ 6 ∧ s.stage l ≠ 7) → Only partRegs s t)) ∧
  (∀ (p : PortId) (deskewPs : Nat) (s : State) (st : Nat), s.lanesSay p = some st → (s.port p).reDeskew = true → s.portMayRun p = true →
    Runs (.reDeskewComplete p deskewPs) s fun t => (t.port p).deskewPs = deskewPs ∧ (t.port p).bondWait = false ∧
      t.nat (0x2100 + p) 0x03 = st)

/-- Quieting (R78): the direction is written; a quieted transmitter leaves the lane in its stage, a quieted receiver takes a lane of stages 2 to 7 to
stage 1 without any loss counted. Rests on choices of the model: log entries 69, 100.
Completes `exec i s = .next t` for i = quietTransmit, quietReceive. -/
def Obligations.LaneQuietingKeepsOrLeavesStage : Prop :=
  (∀ (role : Role) (l : LaneId) (mode : Fin 3) (s : State), s.admits role (laneIndex l) 0x16 →
    Runs (.quietTransmit role l mode) s fun t => t.lastStatus = 0 ∧ t.nat (laneIndex l) 0x16 = mode ∧ t.stage l = s.stage l) ∧
  (∀ (role : Role) (l : LaneId) (on : Bool) (s : State), s.admits role (laneIndex l) 0x17 →
    Runs (.quietReceive role l on) s fun t => t.lastStatus = 0 ∧ t.flag (laneIndex l) 0x17 = on ∧
      t.nat (laneIndex l) 0x21 = s.nat (laneIndex l) 0x21 ∧
      t.stage l = (if on = true ∧ 2 ≤ s.stage l ∧ s.stage l ≤ 7 then 1 else s.stage l))

/-- Test functions of a lane (R81, R83, R84): the mode written, or refused on a bonded port's upper lane, the counts cleared, and every lane of the
port in stage 9 with the first mode and in stage 1 without the last; injection of one error or of a rate from 2^-8 to 2^-40, refused outside it;
a single injected error ends the injection; the checker is in sync after 256 bits of its pattern and counts what it saw while in sync. Rests on
choices of the model: log entry 62.
Completes `exec i s = .next t` for i = testModeSet, testModeClear, errorInjectionOne, errorInjectionRate, injectedError, checkerSync,
checkerSyncLoss. -/
def Obligations.LaneTestFunctions : Prop :=
  (∀ (role : Role) (l : LaneId) (code : Fin 5) (s : State), s.admits role (laneIndex l) 0x18 → s.testRefused l code = false →
    Runs (.testModeSet role l code) s fun t => t.lastStatus = 0 ∧ t.nat (laneIndex l) 0x18 = code ∧
      t.nat (laneIndex l) 0x1C = 0 ∧ t.nat (laneIndex l) 0x1D = 0 ∧ (t.lane l).checkerSync = false ∧
      (s.inTest l = false → code.val ≠ 0 → ∀ m, m ∈ s.sisters l → s.stage m ≠ 0 → t.stage m = 9)) ∧
  (∀ (role : Role) (l : LaneId) (code : Fin 5) (s : State), s.admits role (laneIndex l) 0x18 → s.testRefused l code = true →
    Runs (.testModeSet role l code) s fun t => t.lastStatus = 0x09 ∧ Only (partLastStatus ||| partLastDetail) s t) ∧
  (∀ (role : Role) (l : LaneId) (s : State), s.admits role (laneIndex l) 0x18 →
    Runs (.testModeClear role l) s fun t => t.lastStatus = 0 ∧ t.nat (laneIndex l) 0x18 = 0 ∧
      t.nat (laneIndex l) 0x1C = 0 ∧ t.nat (laneIndex l) 0x1D = 0 ∧
      (s.nat (laneIndex l) 0x18 ≠ 0 → (∀ m, m ∈ s.sisters l → m ≠ l.val → s.nat (laneIndex m) 0x18 = 0) →
        ∀ m, m ∈ s.sisters l → s.stage m = 9 → t.stage m = 1)) ∧
  (∀ (role : Role) (l : LaneId) (s : State), s.admits role (laneIndex l) 0x1E →
    Runs (.errorInjectionOne role l) s fun t => t.lastStatus = 0 ∧ t.nat (laneIndex l) 0x1E = 1 ∧
      SameEntries (fun i j => i = laneIndex l ∧ j = 0x1E) s t) ∧
  (∀ (role : Role) (l : LaneId) (k : Nat) (s : State), s.admits role (laneIndex l) 0x1E →
    Runs (.errorInjectionRate role l k) s fun t =>
      (8 ≤ k → k ≤ 40 → t.lastStatus = 0 ∧ t.nat (laneIndex l) 0x1E = 2 ∧ t.nat (laneIndex l) 0x1F = k) ∧
      ((k < 8 ∨ 40 < k) → t.lastStatus = 0x08 ∧ Only (partLastStatus ||| partLastDetail) s t)) ∧
  (∀ (l : LaneId) (s : State), s.nat (laneIndex l) 0x1E = 1 →
    (if s.nat (laneIndex l) 0x20 = 1 then s.sendsTraffic l else s.sendsPattern l) = true →
    Runs (.injectedError l) s fun t => t.nat (laneIndex l) 0x1E = 0 ∧ SameEntries (fun i j => i = laneIndex l ∧ j = 0x1E) s t) ∧
  (∀ (l : LaneId) (bits : List Bool) (s : State), s.stage l = 9 → s.flag (laneIndex l) 0x17 = false →
    (s.lane l).checkerSync = false →
    patternFollows (s.nat (laneIndex l) 0x1A) (s.nat (laneIndex l) 0x01 == 4) (s.nat (laneIndex l) 0x1B) 256 bits = true →
    Runs (.checkerSync l bits) s fun t => (t.lane l).checkerSync = true ∧ (t.lane l).syncSince = s.now ∧ Only partLanes s t) ∧
  (∀ (l : LaneId) (bits errors : Nat) (s : State), (s.lane l).checkerSync = true →
    Runs (.checkerSyncLoss l bits errors) s fun t => (t.lane l).checkerSync = false ∧
      t.nat (laneIndex l) 0x1C = min (s.nat (laneIndex l) 0x1C + bits) (2 ^ 64 - 1) ∧
      t.nat (laneIndex l) 0x1D = min (s.nat (laneIndex l) 0x1D + errors) (2 ^ 64 - 1) ∧
      SameEntries (fun i j => i = laneIndex l ∧ (j = 0x1C ∨ j = 0x1D)) s t)

/-! ## Modules and statistics (04_ports_and_modules.md) -/

/-- A cage's module comes, goes and is read again (R101, R102): every position of the cage follows, and the read that an insertion into a cage with a
type or a host's write asks for joins the queue of its bus. Rests on choices of the model: log entry 39.
Completes `exec i s = .next t` for i = moduleInsert, moduleRemove, rereadModule. -/
def Obligations.ModuleEventsReachCage : Prop :=
  (∀ (p : PortId) (s : State),
    Runs (.moduleInsert p) s fun t => ∀ q, q ∈ s.cagePorts p → (t.port q).modulePresent = true ∧ (t.port q).txDisable = true ∧
      t.nat (0x2100 + q) 0x0E = (if s.nat (0x2100 + p) 0x08 = 0 then s.nat (0x2100 + q) 0x0E else 1) ∧
      (s.nat (0x2100 + p) 0x08 ≠ 0 → BusAccess.read (s.selectPosition p) ∈ t.busAt (p / 4))) ∧
  (∀ (p : PortId) (s : State),
    Runs (.moduleRemove p) s fun t => ∀ q, q ∈ s.cagePorts p → (t.port q).modulePresent = false ∧ (t.port q).txDisable = true ∧
      (t.port q).moduleModes = 0 ∧ (t.port q).diagnostics = [] ∧ t.nat (0x2100 + q) 0x0E = 0) ∧
  (∀ (role : Role) (p : PortId) (s : State), s.admits role (0x2100 + p) 0x13 → (s.port p).modulePresent = true →
    s.nat (0x2100 + p) 0x08 ≠ 0 →
    Runs (.rereadModule role p) s fun t => t.lastStatus = 0 ∧ (∀ q, q ∈ s.cagePorts p → t.nat (0x2100 + q) 0x0E = 1) ∧
      SameEntries (fun i j => j = 0x0E ∧ 0x2100 ≤ i ∧ i - 0x2100 ∈ s.cagePorts p) s t ∧
      BusAccess.read (s.selectPosition p) ∈ t.busAt (p / 4) ∧ Only (partRegs ||| partBusQueue ||| partLastStatus ||| partLastDetail) s t)

/-- The identity read that its bus serves ends (R101, R102, R104, R107): page, record and its status are kept, and the module is ready where it
declares the mode that the position carries, else a mismatch; a CMIS module not ready in time is unreadable; a poll waits behind an access to its
bus. Rests on choices of the model: log entries 20, 97.
Completes `exec i s = .next t` for i = moduleIdentityRead, moduleReadyTimeout, diagnosticsPoll. -/
def Obligations.ModuleIdentityIsJudged : Prop :=
  (∀ (p : PortId) (page record : List Byte) (modes : BitVec 7) (s : State), s.nat (0x2100 + p) 0x0E = 1 →
    (s.busAt (p / 4)).head? = some (.read (s.selectPosition p)) → (s.busAt (p / 4)).any BusAccess.isWrite = false →
    Runs (.moduleIdentityRead p page modes record) s fun t => ∀ q, q ∈ s.cagePorts p →
      t.blob (0x2100 + q) 0x11 = page ∧ t.blob (0x2100 + q) 0x0F = record ∧ t.nat (0x2100 + q) 0x10 =
        (if (s.port q).torn = true ∧ recordStatus record ≠ 0 then 2 else recordStatus record) ∧
      ((s.port q).torn = false → (t.port q).recordAsymmetry = recordSays record) ∧ (t.port q).torn = false ∧ (t.port q).moduleModes = modes.toNat ∧
      t.nat (0x2100 + q) 0x0E = (if s.modeAt q = 0 ∨ modes.toNat.testBit (s.modeAt q) = true then 2 else 3)) ∧
  (∀ (p : PortId) (s : State), s.nat (0x2100 + p) 0x0E = 1 → s.nat (0x2100 + p) 0x08 = 3 →
    (s.busAt (p / 4)).head? = some (.read (s.selectPosition p)) →
    Runs (.moduleReadyTimeout p) s fun t => ∀ q, q ∈ s.cagePorts p → t.nat (0x2100 + q) 0x0E = 4) ∧
  (∀ (p : PortId) (values : List Int) (s : State), (s.port p).modulePresent = true →
    Runs (.diagnosticsPoll p values) s fun t => Only partPorts s t ∧
      (s.busReads (p / 4) = false → t.port p = { s.port p with diagnostics := values }) ∧
      (s.busReads (p / 4) = true → t.port p = { s.port p with waitingPoll := some values }))

/-- The record write, the module reset and the clear of the statistics (R100, R104, R108): the verified record is kept with its status, a failed
read-back or a module taken out meanwhile is 09h (the model's choice, log entry 117), a protected module 13h, another length 07h, and on a busy
bus the write waits; the reset of a cluster of four-lane cages is released unless it is fenced or a cold start runs; every counter of the port
reads 0, or 1 with an event in the same cycle. Rests on choices of the model: log entry 5.
Completes `exec i s = .next t` for i = linkIdentityRecordWrite, modResetRelease, statisticsClear. -/
def Obligations.RecordWriteResetAndStatistics : Prop :=
  (∀ (role : Role) (p : PortId) (bytes : List Byte) (outcome : RecordWriteEnd) (s : State), s.admits role (0x2100 + p) 0x0F →
    (s.port p).modulePresent = true → s.busReads (p / 4) = false →
    Runs (.linkIdentityRecordWrite role p bytes outcome) s fun t =>
      (bytes.length ≠ 64 → t.lastStatus = 0x07) ∧
      (bytes.length = 64 → outcome = .mismatch → t.lastStatus = 0x09 ∧ Only (partLastStatus ||| partLastDetail) s t) ∧
      (bytes.length = 64 → outcome = .protectedModule → t.lastStatus = 0x13 ∧ Only (partLastStatus ||| partLastDetail) s t) ∧
      (bytes.length = 64 → outcome = .verified → (t.lastStatus = 0 ↔ crc32 (bytes.take 60) = numAt bytes 60 4) ∧
        ∀ q, q ∈ s.cagePorts p → t.blob (0x2100 + q) 0x0F = bytes ∧
          ((s.port q).torn = false → t.nat (0x2100 + q) 0x10 = recordStatus bytes)) ∧
      (bytes.length = 64 → outcome = .moduleRemoved → t.lastStatus = 0x09 ∧ ∀ q, q ∈ s.cagePorts p → (t.port q).torn = true)) ∧
  (∀ (role : Role) (p : PortId) (bytes : List Byte) (outcome : RecordWriteEnd) (s : State), s.admits role (0x2100 + p) 0x0F →
    (s.port p).modulePresent = true → s.busReads (p / 4) = true → bytes.length = 64 →
    Runs (.linkIdentityRecordWrite role p bytes outcome) s fun t => t.busAt (p / 4) = s.busAt (p / 4) ++ [.write p bytes outcome] ∧
      Only partBusQueue s t) ∧
  (∀ (c : ClusterId) (s : State), s.modResetWait.testBit c = true →
    Runs (.modResetRelease c) s fun t => t.modResetWait.testBit c = false ∧
      t.modReset.testBit c = (s.modReset.testBit c && !(s.fourLaneCage c && !s.clusterFenced c && !s.coldRunning)) ∧
      Only (partModReset ||| partModResetWait) s t) ∧
  (∀ (role : Role) (p : PortId) (coincident : List (Fin 16)) (s : State), s.admits role (0x2200 + p) 0x0F →
    Runs (.statisticsClear role p coincident) s fun t => t.lastStatus = 0 ∧
      (∀ i : Fin 16, i.val ≠ 14 → t.nat (0x2200 + p) (i + 1) = (if i ∈ coincident then 1 else 0)) ∧
      SameEntries (fun i j => i = 0x2200 + p ∧ 1 ≤ j ∧ j ≤ 16 ∧ j ≠ 15) s t)

/-! ## Forwarding (05_forwarding.md) -/

/-- A frame comes in (R110, R111; 06 R158; 10 R260, R261): its first bit opens the reception, stamped on the cluster's copy of every time base with
the serving detector's phase, and numbered; a window of 64 bytes or more, seen once, ends in a descriptor or in a discard, an entry read with an
uncorrectable error acting as a marked one does and marking none (R147); a frame whose VID assignment or VLAN stage turns it away is discarded; a
MAC control frame is counted and discarded. Rests on choices of the model: log entries 48, 55, 58, 60, 104.
Completes `exec i s = .next t` for i = frameArrival, lookupWindowComplete. -/
def Obligations.FrameReceptionOpensAndLooksUp : Prop :=
  (∀ (p : PortId) (edge : StartEdge) (s : State), s.portUp p = true → s.portFenced p = false → s.isSafe = false → s.rxAt p = none →
    Runs (.frameArrival p edge) s fun t => (t.rxAt p).map (·.number) = some (Sparse.get 0 s.frameCount p % 512) ∧
      (t.rxAt p).map (·.raw) = some (s.clusterNow (p / 4) 0 + (s.frameStart p (s.timingLane p) edge).1) ∧
      (t.rxAt p).map (·.stamps.length) = some 8 ∧
      (t.rxAt p).map (·.cells) = some 0 ∧ Sparse.get 0 t.frameCount p = Sparse.get 0 s.frameCount p + 1 ∧
      (∀ q, q ≠ p.val → t.rxAt q = s.rxAt q) ∧ Only (partRx ||| partFrameCount ||| partDetectors) s t) ∧
  (∀ (p : PortId) (window : List Byte) (unreadable : List (TableId × Nat)) (s : State) (f : RxFrame), s.rxAt p = some f → f.desc = none → f.discarded = false → f.cells = 0 →
    64 ≤ window.length →
    Runs (.lookupWindowComplete p window unreadable) s fun t => t.invalid = s.invalid ∧ (t.rxAt p).map (·.window) = some (window.take 128) ∧
      (t.rxAt p).map (fun f => f.discarded || f.desc.isSome) = some true ∧
      (∀ k, numAt window 12 2 ≠ 0x8808 →
        ({ s with invalid := s.invalid ++ unreadable.map (fun (e : TableId × Nat) => (p.val / 4, e.1.val, e.2)) }).vlanStage p (s.assignVid p (parseHead (window.take 128))) (parseHead (window.take 128)) = some k →
        (t.rxAt p).map (·.discarded) = some true) ∧
      (numAt window 12 2 = 0x8808 → (t.rxAt p).map (·.discarded) = some true ∧
        t.nat (0x2200 + p) 0x06 = min (s.nat (0x2200 + p) 0x06 + 1) (2 ^ 64 - 1)))

/-- A frame goes on and ends (R100, R135, R136; 07 R179): a filled cell that found a free place counts in its frame; the tail ends the reception, and
a frame that was discarded is counted by how it ended, or as oversize where it passed the maximum frame, in the statistics of its port.
Completes `exec i s = .next t` for i = cellFill, frameTail. -/
def Obligations.FrameCellsAndTail : Prop :=
  (∀ (p : PortId) (payload : List Byte) (s : State) (f : RxFrame), s.rxAt p = some f → ∀ d, f.desc = some d →
    f.discarded = false → f.maxSdu = 0 → f.maxLength = 0 → f.bytes + payload.length ≤ s.nat (0x2100 + p) 0x06 → (s.drawCell (p / 12) (ingressPools d.contracted)).isSome = true →
    Runs (.cellFill p payload) s fun t => (t.rxAt p).map (·.cells) = some (f.cells + 1) ∧
      (t.rxAt p).map (·.bytes) = some (f.bytes + payload.length)) ∧
  (∀ (p : PortId) (kind : TailKind) (payload : List Byte) (s : State) (f : RxFrame), s.rxAt p = some f →
    Runs (.frameTail p kind payload) s fun t => t.rxAt p = none ∧ (∀ q, q ≠ p.val → t.rxAt q = s.rxAt q) ∧
      (f.discarded = true → f.oversize = false → s.nat (0x2100 + p) 0x06 < f.bytes + payload.length →
        t.regions = s.regions ∧ t.nat (0x2200 + p) 0x05 = min (s.nat (0x2200 + p) 0x05 + 1) (2 ^ 64 - 1)) ∧
      (f.discarded = true → f.oversize = false → f.bytes + payload.length ≤ s.nat (0x2100 + p) 0x06 → t.regions = s.regions ∧
        (kind = .cut → t.regs = s.regs) ∧
        ((kind = .good ∨ kind = .fcsError) → f.bytes + payload.length < 64 →
          t.nat (0x2200 + p) 0x04 = min (s.nat (0x2200 + p) 0x04 + 1) (2 ^ 64 - 1)) ∧
        (kind = .good → 64 ≤ f.bytes + payload.length → f.unassociated = false →
          t.nat (0x2200 + p) 0x02 = min (s.nat (0x2200 + p) 0x02 + 1) (2 ^ 64 - 1) ∧
          t.nat (0x2200 + p) 0x01 = min (s.nat (0x2200 + p) 0x01 + (f.bytes + payload.length)) (2 ^ 64 - 1)) ∧
        (kind = .fcsError → 64 ≤ f.bytes + payload.length →
          t.nat (0x2200 + p) 0x03 = min (s.nat (0x2200 + p) 0x03 + 1) (2 ^ 64 - 1)) ∧
        (kind = .oversize → t.nat (0x2200 + p) 0x05 = min (s.nat (0x2200 + p) 0x05 + 1) (2 ^ 64 - 1)) ∧
        (kind = .macsecFail → t.nat (0x2200 + p) 0x0C = min (s.nat (0x2200 + p) 0x0C + 1) (2 ^ 64 - 1))))

/-- Learning and ageing (R127, R128): the oldest message is taken; a known dynamic address that moved points to the new port with age 0 and is
counted, a static one stays, an unknown one takes a free way of its buckets; an ageing step removes the dynamic entries of age 4 and makes the
others one step older. Rests on choices of the model: log entry 9.
Completes `exec i s = .next t` for i = learnInsert, ageingStep. -/
def Obligations.LearningAndAgeing : Prop :=
  (∀ (s : State) (e : Nat × Nat × Nat) (rest : List (Nat × Nat × Nat)), s.learns = e :: rest → s.commitWritesKey e.1 e.2.1 = false →
    Runs .learnInsert s fun t => t.learns = rest ∧
      (∀ i, s.fdbFind e.1 e.2.1 = some i →
        ((Sparse.get 0 s.fdb i).testBit 94 = true → t.fdb = s.fdb ∧ t.regs = s.regs) ∧
        ((Sparse.get 0 s.fdb i).testBit 94 = false → ¬(field (Sparse.get 0 s.fdb i) 88 2 = 0 ∧ field (Sparse.get 0 s.fdb i) 16 12 = e.2.2) →
          field (Sparse.get 0 t.fdb i) 16 12 = e.2.2 % 4096 ∧ field (Sparse.get 0 t.fdb i) 88 2 = 0 ∧ field (Sparse.get 0 t.fdb i) 91 3 = 0 ∧
          t.nat 0x3000 0x03 = min (s.nat 0x3000 0x03 + 1) (2 ^ 64 - 1) ∧
          (∀ k, k ≠ i → Sparse.get 0 t.fdb k = Sparse.get 0 s.fdb k))) ∧
      (s.fdbFind e.1 e.2.1 = none → e.1 < 4096 → e.2.1 < 2 ^ 48 → e.2.2 < 4096 →
        ∀ i, (waysOf (fdbBuckets e.1 e.2.1)).find? (fun i => !(Sparse.get 0 s.fdb i).testBit 95) = some i →
          Sparse.get 0 t.fdb i = 2 ^ 95 + e.1 * 2 ^ 76 + e.2.1 * 2 ^ 28 + e.2.2 * 2 ^ 16)) ∧
  (∀ (s : State), Runs .ageingStep s fun t => Only partFdb s t ∧ ∀ e, e ∈ t.fdb ↔ ∃ v, (e.1, v) ∈ s.fdb ∧
    ((v.testBit 94 = true ∧ e.2 = v) ∨ (v.testBit 94 = false ∧ field v 91 3 < 4 ∧ e.2 = putField v 91 3 (field v 91 3 + 1))))

/-- Overlays, drains and the scarab (R138, R142, R144 to R146): a fold and a restore leave every other table and mark; a drain takes the generation
of the latest accepted commit and is complete once no older one is held; each finding of a scrub is counted, and an unreadable entry is marked; a
restore waits for no commit but one that changes what it restores.
Completes `exec i s = .next t` for i = overlayFold, drainTable, drainComplete, tableScrub, scarabRestore. -/
def Obligations.TableMaintenance : Prop :=
  (∀ (tb : TableId) (s : State), Runs (.overlayFold tb) s fun t => t.folding.testBit tb = false ∧
    (∀ k, k ≠ tb.val → t.folding.testBit k = s.folding.testBit k) ∧ Only partFolding s t) ∧
  (∀ (role : Role) (tb : TableId) (s : State), s.admits role 0x3001 0x10 →
    Runs (.drainTable role tb) s fun t => t.lastStatus = 0 ∧ t.nat 0x3001 0x11 = (s.generation tb + s.waitingWrites tb) % 65536 ∧
      t.nat 0x3001 0x12 = 1 ∧ Sparse.get none t.drains tb = some ((s.generation tb + s.waitingWrites tb) % 65536) ∧ t.lastDrain = some tb.val ∧
      SameEntries (fun i j => i = 0x3001 ∧ (j = 0x11 ∨ j = 0x12)) s t) ∧
  (∀ (tb : TableId) (s : State) (target : Nat), Sparse.get none s.drains tb = some target →
    Runs (.drainComplete tb) s fun t =>
      ((s.heldGenerations tb).any (fun g => olderGeneration g target) = false →
        (olderGeneration (s.generation tb) target = false ∨ s.waitingWrites tb = 0) →
        Sparse.get none t.drains tb = none ∧ (s.lastDrain = some tb.val → t.nat 0x3001 0x12 = 2)) ∧
      ((s.heldGenerations tb).any (fun g => olderGeneration g target) = true → Only 0 s t)) ∧
  (∀ (c : ClusterId) (tb : TableId) (position : Nat) (finding : ScrubFinding) (s : State),
    Runs (.tableScrub c tb position finding) s fun t =>
      (finding = .clean → Only 0 s t) ∧
      (finding = .single → t.nat 0x3000 0x07 = min (s.nat 0x3000 0x07 + 1) (2 ^ 64 - 1) ∧ Only partRegs s t) ∧
      (finding = .uncorrectable → s.marked c tb position = true ∨
        (t.marked c tb position = true ∧ t.nat 0x3000 0x08 = min (s.nat 0x3000 0x08 + 1) (2 ^ 64 - 1))) ∧
      (finding = .uncorrectable ∨ finding = .blockMismatch → s.isSafe = false →
        t.messages.any (fun m => m.source == 576 + 8 * c.val + 1) = true)) ∧
  (∀ (c : ClusterId) (tb : TableId) (position : Nat) (s : State),
    s.entryPending tb position = false →
    Runs (.scarabRestore c tb position) s fun t => (c.val, tb.val, position) ∉ t.invalid ∧
      (∀ e, e ≠ (c.val, tb.val, position) → (e ∈ t.invalid ↔ e ∈ s.invalid)) ∧ Only partInvalid s t)

/-- Sequence recovery, stream gates and frames of the hub (R123, R124, R133): a silent recovery function starts anew; a gate list takes effect once
TB0 has reached its base; a frame of at most one cell, through rings that hold no other and on a channel with a credit, enters the queue of its
port's region; one for a contracted queue is refused. Rests on choices of the model: log entries 13, 14.
Completes `exec i s = .next t` for i = frerResetTimeout, streamGateListActivation, streamGateIntervalEnd, hubFrameSend. -/
def Obligations.StreamFunctionsAndHubFrames : Prop :=
  (∀ (f : Fin 4096) (s : State), (Sparse.get {} s.frer f).kind = 2 →
    Runs (.frerResetTimeout f) s fun t => (Sparse.get {} t.frer f).recent = none ∧ (Sparse.get {} t.frer f).seen = 0 ∧
      (∀ k, k ≠ f.val → Sparse.get ({} : FrerX) t.frer k = Sparse.get {} s.frer k) ∧ Only partFrer s t) ∧
  (∀ (g : Fin 256) (s : State) (l : GateList), (Sparse.get {} s.gates g).pending = some l → (s.tb 0).running = true →
    l.base ≤ s.tb0Ns →
    Runs (.streamGateListActivation g) s fun t => (Sparse.get {} t.gates g).operational = some l ∧
      (Sparse.get {} t.gates g).pending = none ∧ (Sparse.get {} t.gates g).position = l.positionAt s.tb0Ns ∧ Only partGates s t) ∧
  (∀ (g : Fin 256) (s : State) (l : GateList), (Sparse.get {} s.gates g).operational = some l →
    Runs (.streamGateIntervalEnd g) s fun t => Sparse.get {} t.gates g = { Sparse.get {} s.gates g with position := l.positionAt s.tb0Ns } ∧
      Only partGates s t) ∧
  (∀ (ring : Fin 64) (destination untag : Nat) (priority : Fin 8) (queue : Fin 32) (payload : List Byte) (tag : BitVec 8)
      (insert : Fin 4) (passed : Int) (ingress : Option PortId) (s : State), (queue.val < 24 ∨ 30 ≤ queue.val) → s.isUp = true →
    (∀ i, i < 64 → (s.ringX i).fromHub = [] ∧ (s.ringX i).writing = none) → (s.crossing (24 + s.carrier ring)).discard = false →
    payload.length ≤ 256 → numAt payload 12 2 ≠ 0x8808 → destination < 96 → s.hubCredit (s.carrier ring) = true →
    s.regionFenced (destination / 12) = false → (s.drawCell (s.carrier ring) [0]).isSome = true →
    Runs (.hubFrameSend ring 0 destination untag priority queue payload tag insert passed ingress) s fun t =>
      Sparse.get 0 t.frameCount 127 = Sparse.get 0 s.frameCount 127 + 1 ∧
      ((Sparse.get [] (t.region (s.carrier ring)).bestEffort (destination / 12)).getLast?.map
        fun x => (x.first, x.last, x.port, x.number, x.payload)) = some (true, true, 127, Sparse.get 0 s.frameCount 127 % 512, payload)) ∧
  (∀ (ring : Fin 64) (kind : Fin 4) (destination untag : Nat) (priority : Fin 8) (queue : Fin 32) (payload : List Byte) (tag : BitVec 8)
      (insert : Fin 4) (passed : Int) (ingress : Option PortId) (s : State), 24 ≤ queue.val → queue.val < 30 →
    Runs (.hubFrameSend ring kind destination untag priority queue payload tag insert passed ingress) s fun t => t = s)

/-! ## The cyclic fabric (06_cyclic_fabric.md) -/

/-- A slot of the fabric (R155, R159, R160, R176): in slot `slot` region g turns to m = (g + slot) mod 8. Toward a fenced region it sends nothing and
counts a fenced slot; a slot that a shortened cycle removes sends nothing and counts a realign slot; without a credit of the crossing it sends
nothing and counts a blocked slot. Else the first contracted cell goes, before any best effort, stamped with its source, its intermediate and the
next sequence of its stream, and a contracted slot is counted; without one, the first cell of the best-effort destination whose turn it is. The
last slot of a cycle moves a region that realigns by 0.8 ns toward TB0, and counts.
Completes `exec i s = .next t` for i = fabricSlot. -/
def Obligations.FabricSlotSendsContractedFirst : Prop :=
  (∀ (slot : Fin 8) (g m : RegionId) (s : State), s.fabricRuns = true → s.regionFenced g = false → m.val = (g.val + slot.val) % 8 →
    Runs (.fabricSlot slot) s fun t =>
      ((s.shut g m = true ∨ (s.region g).shortens slot = true ∨ s.crossingCredit 0 g m = false) →
        (t.flight 0 g m).map Cell.plain = (s.flight 0 g m).map Cell.plain ∧
        (t.region g).contracted.map Cell.plain = (s.region g).contracted.map Cell.plain ∧
        (s.regionClear.testBit g = false → ∀ k,
          k = (if s.shut g m = true then 1 else if (s.region g).shortens slot = true then 2 else 3) →
          Sparse.get 0 t.perf (key (0x3810 + g) k) = (Sparse.get 0 s.perf (key (0x3810 + g) k) + 1) % 2 ^ 48)) ∧
      (s.shut g m = false → (s.region g).shortens slot = false → s.crossingCredit 0 g m = true →
        (∀ x rest, (s.region g).contracted = x :: rest → x.spoilt = false →
          (t.region g).contracted.map Cell.plain = rest.map Cell.plain ∧
          (t.flight 0 g m).length = (s.flight 0 g m).length + 1 ∧
          (t.flight 0 g m).getLast?.map (fun y => (y.source, y.via, y.sequence, y.payload)) =
            some (g.val, m.val, Sparse.get 0 (s.region g).nextSeq (2 * x.destination + ofBool x.contracted), x.payload) ∧
          (s.regionClear.testBit g = false →
            Sparse.get 0 t.perf (key (0x3810 + g) 4) = (Sparse.get 0 s.perf (key (0x3810 + g) 4) + 1) % 2 ^ 48)) ∧
        ((s.region g).contracted = [] → ∀ d, (s.region g).nextBest m = some d → ∀ x rest,
          Sparse.get [] (s.region g).bestEffort d = x :: rest → x.spoilt = false →
          (t.region g).lastD = d ∧
          (t.flight 0 g m).length = (s.flight 0 g m).length + 1 ∧
          (t.flight 0 g m).getLast?.map (fun y => (y.source, y.via, y.sequence, y.payload)) =
            some (g.val, m.val, Sparse.get 0 (s.region g).nextSeq (2 * x.destination + ofBool x.contracted), x.payload)))) ∧
  (∀ (slot : Fin 8) (g : RegionId) (s : State), s.fabricRuns = true → s.regionFenced g = false → slot.val = 7 →
    (s.region g).adjusts = true →
    Runs (.fabricSlot slot) s fun t =>
      (t.region g).offset = (if 0 < (s.region g).offset then (s.region g).offset - 800 else (s.region g).offset + 800) ∧
      t.nat 0x3800 0x04 = min (s.nat 0x3800 0x04 +
        ((items 8).filter (fun f => !s.regionFenced f && (s.region f).adjusts)).length) (2 ^ 32 - 1))

/-- A cell arrives (R153, R169, R170): it leaves its channel group; a header beyond correction is counted and, at an intermediate, asks its source to
resync; a valid cell at an intermediate joins the queue of its destination and class. Rests on choices of the model: log entry 51.
Completes `exec i s = .next t` for i = cellArrival. -/
def Obligations.FabricCellArrives : Prop :=
  ∀ (stage2 : Bool) (a b : RegionId) (header : HeaderCheck) (payloadOk : Bool) (s : State) (x : Cell) (rest : List Cell),
    s.flight (ofBool stage2) a b = x :: rest → (s.crossing (24 + b)).flushing = false →
    Runs (.cellArrival stage2 a b header payloadOk) s fun t => t.flight (ofBool stage2) a b = rest ∧
      (s.regionFenced b = true → t.regions = s.regions ∧ t.regs = s.regs) ∧
      (s.regionFenced b = false → header = .uncorrectable →
        t.nat 0x3800 0x0C = min (s.nat 0x3800 0x0C + 1) (2 ^ 64 - 1) ∧
        (stage2 = false → (t.region b).resyncTo.testBit a = true)) ∧
      (s.regionFenced b = false → header ≠ .uncorrectable → stage2 = false → x.valid = true → payloadOk = true → x.contracted = false →
        Sparse.get [] (t.region b).fabricQ (2 * x.destination) = Sparse.get [] (s.region b).fabricQ (2 * x.destination) ++ [x])

/-- Holes, resync, cut-through hold and credits (R165, R167, R170, R174): a hole behind which cells wait is counted, and the expected number of its
stream goes past it, and past no more where the cell after it is missing too; resync clears once no best-effort cell of the source is left at the
intermediate, and not before; the hold ends; a region just unfenced, once it is aligned, has all its credits again, and what was owed over its
pairs is owed no more.
Completes `exec i s = .next t` for i = holeTimeout, resyncClear, cutThroughHoldRelease, creditRestore. -/
def Obligations.FabricRecovers : Prop :=
  (∀ (dst src : RegionId) (contracted : Bool) (s : State) (k e : Nat), k = 2 * src.val + ofBool contracted →
    e = Sparse.get 0 (s.region dst).expected k → Sparse.get [] (s.region dst).window k ≠ [] →
    Runs (.holeTimeout dst src contracted) s fun t => t.nat 0x3800 0x08 = min (s.nat 0x3800 0x08 + 1) (2 ^ 64 - 1) ∧
      (∃ n, n ≤ 64 ∧ Sparse.get 0 (t.region dst).expected k = (e + 1 + n) % 4096) ∧
      ((∀ x ∈ Sparse.get [] (s.region dst).window k, x.sequence ≠ (e + 1) % 4096) →
        Sparse.get 0 (t.region dst).expected k = (e + 1) % 4096 ∧
        Sparse.get [] (t.region dst).window k = Sparse.get [] (s.region dst).window k)) ∧
  (∀ (m src : RegionId) (s : State),
    Runs (.resyncClear m src) s fun t =>
      ((∀ d, d < 8 → ∀ x ∈ Sparse.get [] (s.region m).fabricQ (2 * d), x.source ≠ src.val) →
        (t.region m).resyncTo.testBit src = false ∧
        (∀ k, k ≠ src.val → (t.region m).resyncTo.testBit k = (s.region m).resyncTo.testBit k)) ∧
      (∀ d, d < 8 → ∀ x ∈ Sparse.get [] (s.region m).fabricQ (2 * d), x.source = src.val → t = s) ∧
      (∀ k, k ≠ m.val → t.region k = s.region k) ∧ Only partRegions s t) ∧
  (∀ (g : RegionId) (s : State), Runs (.cutThroughHoldRelease g) s fun t => t.region g = { s.region g with ctHold := false } ∧
    (∀ k, k ≠ g.val → t.region k = s.region k) ∧ Only partRegions s t) ∧
  (∀ (g : RegionId) (s : State), s.regionFenced g = false → (s.region g).adjusts = false →
    Runs (.creditRestore g) s fun t => Only partRegions s t ∧
      ∀ f, f < 8 → (t.region f).restoreWait.testBit g = false ∧ Sparse.get 0 (t.region f).owed g = 0 ∧
        (∀ d, d < 8 → Sparse.get 0 (t.region f).spent (8 * g + d) = 0 ∧ Sparse.get 0 (t.region f).spent (8 * d + g) = 0))

/-- Alignment and epochs (R155, R156, R173): a mark shows a region by how much its cycles start late, the least way round the 12.8 ns grid; beyond
±400 ps the fabric realigns; 1 µs after a fence notice every stream with an old epoch open moves to the next one. Rests on choices of the model:
log entries 16, 53.
Completes `exec i s = .next t` for i = alignmentMark, epochClose. -/
def Obligations.FabricAlignsAndChangesEpoch : Prop :=
  (∀ (g : RegionId) (offsetPs : Int) (s : State), s.fabricRuns = true → s.regionFenced g = false →
    Runs (.alignmentMark g offsetPs) s fun t => t.reg 0x3800 0x03 = (t.region g).offset ∧
      -6400 ≤ (t.region g).offset ∧ (t.region g).offset < 6400 ∧ ((t.region g).offset - offsetPs) % 12800 = 0 ∧
      (400 < (t.region g).offset.natAbs → t.alignmentStatus = 2) ∧ (∀ k, k ≠ g.val → t.region k = s.region k) ∧
      SameEntries (fun i j => i = 0x3800 ∧ j = 0x03) s t ∧ Only (partRegs ||| partRegions) s t) ∧
  (∀ (dst : RegionId) (s : State), s.regionFenced dst = false →
    Runs (.epochClose dst) s fun t => ∀ f, f < 8 → (t.region dst).closing.testBit f = false ∧
      Sparse.get 0 (t.region dst).inEpoch f =
        (if (s.region dst).closing.testBit f = true then (Sparse.get 0 (s.region dst).inEpoch f + 1) % 4
         else Sparse.get 0 (s.region dst).inEpoch f))

/-! ## Buffers, queues and egress (07_buffers_and_queues.md) -/

/-- Egress (R192; 04 R100; 05 R137; 08 R214): an idle port whose heads are all within their limits starts the head that strict service names; a whole
frame that ends is put on the line and counted, or was dropped by the SecY and counted there; one whose next cell is missing is ended bad, with
an error character, and counted. Rests on choices of the model: log entries 14, 57, 58, 61.
Completes `exec i s = .next t` for i = egressSelection, releaseInstant, egressUnderrun. -/
def Obligations.EgressSendsAndEnds : Prop :=
  (∀ (p : PortId) (edge : StartEdge) (s : State) (q : Nat), s.strictChoice p = some q → 32 ≤ (s.eg p).sending → s.portUp p = true →
    s.portFenced p = false →
    (∀ k, k < 32 → ((s.queue p k).copies.head?.map (s.expired p k)).getD 0 = 0) →
    ((s.queue p q).copies.head?.map (·.spoiltCells)).getD 1 = 0 →
    Runs (.egressSelection p edge) s (fun t => (t.eg p).sending = q ∧
      (t.queue p q).copies.head?.map (·.started) = some true) ∧
    Runs (.releaseInstant p edge) s (fun t => (t.eg p).sending = q ∧
      (t.queue p q).copies.head?.map (·.started) = some true)) ∧
  (∀ (p : PortId) (edge : StartEdge) (s : State) (c : Copy), (s.queue p (s.eg p).sending).copies.find? (·.started) = some c →
    (s.eg p).sending < 32 → c.bad = false → c.complete = true → c.spoiltCells = 0 →
    Runs (.egressSelection p edge) s fun t =>
      (c.secy ≠ 2 → Sparse.get {} t.wire p = { bytes := (s.onLine p c false).1, ends := .plain } ∧
        t.nat (0x2200 + p) 0x08 = min (s.nat (0x2200 + p) 0x08 + 1) (2 ^ 64 - 1)) ∧
      (c.secy = 2 → t.wire = s.wire ∧ t.nat (0x2200 + p) 0x0C = min (s.nat (0x2200 + p) 0x0C + 1) (2 ^ 64 - 1))) ∧
  (∀ (p : PortId) (s : State) (c : Copy), (s.queue p (s.eg p).sending).copies.find? (·.started) = some c →
    (s.eg p).sending < 32 → c.complete = false →
    Runs (.egressUnderrun p) s fun t => (t.eg p).sending = 32 ∧
      t.nat (0x3100 + p) 0x09 = min (s.nat (0x3100 + p) 0x09 + 1) (2 ^ 64 - 1) ∧
      (c.secy ≠ 2 → t.nat (0x2200 + p) 0x09 = min (s.nat (0x2200 + p) 0x09 + 1) (2 ^ 64 - 1) ∧
        (Sparse.get {} t.wire p).ends = (if s.mode p = 1 then .errorCharacter else .errorBlock)))

/-- Sweeps, gates and flushes (R189, R196, R198, R201): a sweep leaves no cell that waits past the ingress limit, no host frame past its own, and no
unstarted copy of the region's ports past its limit or its deadline; the pending gate list takes effect at its instant and moves at each
interval; a flush leaves only copies in transmission and counts the others. Rests on choices of the model: log entry 52.
Completes `exec i s = .next t` for i = ageSweep, gateListActivation, gateIntervalEnd, queueFlush. -/
def Obligations.QueuesAreSweptGatedAndFlushed : Prop :=
  (∀ (g : RegionId) (s : State), s.regionFenced g = false →
    Runs (.ageSweep g) s fun t =>
      (∀ x ∈ (t.region g).contracted, (s.tbNow 0 : Int) ≤ x.entry + nsUnits (s.nat (0x4000 + g) 0x06)) ∧
      (∀ c ∈ (t.region g).hostQueue, (s.tbNow 0 : Int) ≤ c.entry + nsUnits (s.nat (0x4000 + g) 0x07)) ∧
      (∀ j q, j < 12 → q < 32 → ∀ c ∈ (t.queue (12 * g + j) q).copies, s.expired (12 * g + j) q c = 0)) ∧
  (∀ (p : PortId) (s : State) (l : GateList), (s.eg p).pending = some l → (s.tb 0).running = true → (s.eg p).pendingAt ≤ s.tb0Ns →
    Runs (.gateListActivation p) s fun t => (t.eg p).operational = (if l.entries = [] then none else some l) ∧
      (t.eg p).pending = none ∧ t.nat (0x4010 + p) 0x05 = 0 ∧ (l.entries ≠ [] → (t.eg p).position = l.positionAt s.tb0Ns) ∧
      (∀ k, k ≠ p.val → t.eg k = s.eg k)) ∧
  (∀ (p : PortId) (s : State) (l : GateList), (s.eg p).operational = some l →
    Runs (.gateIntervalEnd p) s fun t => t.eg p = { s.eg p with position := l.positionAt s.tb0Ns } ∧
      (∀ k, k ≠ p.val → t.eg k = s.eg k) ∧ Only partEgress s t) ∧
  (∀ (p : PortId) (q : Fin 32) (s : State), (s.queue p q).flush = true →
    Runs (.queueFlush p q) s fun t => (t.queue p q).flush = false ∧
      (t.queue p q).copies = (s.queue p q).copies.filter (·.started) ∧
      t.nat (queueIndex p q) 0x0C = min (s.nat (queueIndex p q) 0x0C +
        ((s.queue p q).copies.filter (fun c => !c.started)).length) (2 ^ 64 - 1))

/-- The buffer scarab (R182 to R184), on a bank in use: a corrected error is counted; an uncorrectable one in a free cell withdraws it and is
counted, in a held one it is left for the cell's reader; a released bank that has been read in full gives its cells back to the pools they left.
Rests on choices of the model: log entries 17, 118.
Completes `exec i s = .next t` for i = bufferScrub. -/
def Obligations.BufferScrubCountsAndWithdraws : Prop :=
  (∀ (g : RegionId) (bank : Fin 16) (held : Option HeldPlace) (s : State) (due : Nat), s.bankFenced (16 * g + bank) = false →
    Sparse.get none (s.region g).bankReturn bank = some due → due ≤ s.now →
    Runs (.bufferScrub g bank held .clean) s fun t =>
      t.nat (0x4000 + g) 0x05 = s.nat (0x4000 + g) 0x05 + (Sparse.get (0, 0) (s.region g).bankTaken bank).1 ∧
      t.nat (0x4000 + g) 0x02 = s.nat (0x4000 + g) 0x02 + (Sparse.get (0, 0) (s.region g).bankTaken bank).2 ∧
      Sparse.get none (t.region g).bankReturn bank = none) ∧
  (∀ (g : RegionId) (bank : Fin 16) (held : Option HeldPlace) (finding : EccFinding) (s : State),
    s.bankFenced (16 * g + bank) = false → (∀ due, Sparse.get none (s.region g).bankReturn bank = some due → s.now < due) →
    Runs (.bufferScrub g bank held finding) s fun t =>
      (finding = .clean → Only 0 s t) ∧
      (finding = .single → t.nat (0x4000 + g) 0x0C = min (s.nat (0x4000 + g) 0x0C + 1) (2 ^ 64 - 1) ∧
        SameEntries (fun i j => i = 0x4000 + g ∧ j = 0x0C) s t ∧ Only partRegs s t) ∧
      (finding = .uncorrectable → held = none →
        (t.region g).withdrawn = listAdd (s.region g).withdrawn 3 1 ∧
        t.nat (0x4000 + g) 0x0D = min (s.nat (0x4000 + g) 0x0D + 1) (2 ^ 64 - 1)) ∧
      (finding = .uncorrectable → ∀ h, held = some h → t.regs = s.regs ∧
        (h.egress = false → ∀ x ∈ (t.region g).contracted, x.inPlace h = true → x.spoilt = true) ∧
        (h.egress = true → ∀ c ∈ (t.region g).hostQueue, ∀ x ∈ c.cells, x.inPlace h = true → x.spoilt = true) ∧
        (h.egress = true → ∀ p q, p / 12 = g.val → q < 32 → ∀ c ∈ (t.queue p q).copies, ∀ x ∈ c.cells, x.inPlace h = true → x.spoilt = true)))

/-! ## Time bases (09_time_bases.md; 11_references_and_holdover.md for steering) -/

/-- Measured offsets and steering (R233; 11 R301, R304): an offset is shown and judged against the threshold; in holdover the firmware's steering is
ignored and a host's with OWN replaces the value held; on a free-running time base the written value is in force; without an enabled binding only
a host steers (09 R226). Rests on choices of the model: log entry 40.
Completes `exec i s = .next t` for i = measuredOffsetWrite, steeringOffsetWrite. -/
def Obligations.OffsetsJudgedAndSteeringApplied : Prop :=
  (∀ (tb : TbId) (offset : Int) (s : State),
    Runs (.measuredOffsetWrite tb offset) s fun t => t.reg (0x6000 + tb) 0x12 = offset ∧
      t.bit (0x6000 + tb) 0x04 6 = decide (s.nat (0x6000 + tb) 0x0C * 65536 < offset.natAbs) ∧
      t.bit (0x6000 + tb) 0x04 7 = (s.bit (0x6000 + tb) 0x04 7 || decide (s.nat (0x6000 + tb) 0x0C * 65536 < offset.natAbs)) ∧
      (s.nat (0x6000 + tb) 0x0C * 65536 < offset.natAbs → s.bit (0x6000 + tb) 0x04 6 = false → s.isSafe = false →
        t.messages.any (fun m => m.source == 1176 + tb.val) = true) ∧
      ((8 ≤ s.nat (0x7020 + tb) 0x04 ∨ s.flag (0x6000 + tb) 0x03 = false) → t.tbs = s.tbs ∧ t.servo tb = s.servo tb ∧ t.reg (0x7020 + tb) 0x08 = s.reg (0x7020 + tb) 0x08)) ∧
  (∀ (tb : TbId) (ppt : Int) (s : State), s.served = true → s.flag (0x6000 + tb) 0x03 = false →
    Runs (.steeringOffsetWrite tb none ppt) s fun t => t.lastStatus = 0x04 ∧ Only (partLastStatus ||| partLastDetail) s t) ∧
  (∀ (tb : TbId) (ppt : Int) (s : State), s.served = true → s.flag (0x6000 + tb) 0x03 = true → ppt.natAbs ≤ 100000000 →
    Runs (.steeringOffsetWrite tb none ppt) s fun t => t.lastStatus = 0 ∧
      (s.servo tb = 4 → Only (partLastStatus ||| partLastDetail) s t) ∧
      (s.servo tb ≠ 4 → t.reg (0x6000 + tb) 0x0F = ppt ∧ (s.tbFollows tb = false → (t.tb tb).steering = ppt) ∧
        (s.tbFollows tb = true → (t.tb tb).steering = clampSteering ppt (s.reg (0x7020 + tb) 0x08) (s.nat (0x7020 + tb) 0x01)) ∧
        (∀ k, k ≠ tb.val → t.tb k = s.tb k))) ∧
  (∀ (tb : TbId) (role : Role) (ppt : Int) (s : State), s.admits role (0x6000 + tb) 0x0F →
    Runs (.steeringOffsetWrite tb (some role) ppt) s fun t =>
      (100000000 < ppt.natAbs → t.lastStatus = 0x08 ∧ Only (partLastStatus ||| partLastDetail) s t) ∧
      (ppt.natAbs ≤ 100000000 → s.servo tb = 4 → roleCovers role .own = true →
        t.lastStatus = 0 ∧ (t.tb tb).steering = ppt ∧ t.reg (0x7020 + tb) 0x0A = ppt) ∧
      (ppt.natAbs ≤ 100000000 → s.servo tb = 4 → roleCovers role .own = false →
        t.lastStatus = 0x04 ∧ Only (partLastStatus ||| partLastDetail) s t))

/-- A step (R234, R236, R237, R244): accepted within ±1,000 s it waits for its edge, 0.5 µs after its announcement has reached every replica and at
latest 2 µs after its commit point, where it adds to the value of the hub, while each replica told of it is to take it at its own next clock edge
at or after that instant (10 R259), advances the epoch and the count, sets the sticky bit, passes the compares it steps over and adds to e of
every output with a grid on the time base. Rests on choices of the model: log entry 122.
Completes `exec i s = .next t` for i = step, stepEdge. -/
def Obligations.StepMovesTheTimeBase : Prop :=
  (∀ (role : Role) (tb : TbId) (amount : Int) (s : State), s.admits role (0x6000 + tb) 0x0B → (s.tb tb).pendingStep = none →
    Runs (.step role tb amount) s fun t => (∀ k, k ≠ tb.val → t.tb k = s.tb k) ∧ Only (partTbs ||| partLastStatus ||| partLastDetail) s t ∧
      (65536000000000000 < amount.natAbs → t.lastStatus = 0x08 ∧ t.tbs = s.tbs) ∧
      (amount.natAbs ≤ 65536000000000000 → (s.tbNow tb : Int) + amount < 0 → t.lastStatus = 0x09 ∧ t.tbs = s.tbs) ∧
      (amount.natAbs ≤ 65536000000000000 → 0 ≤ (s.tbNow tb : Int) + amount →
        t.lastStatus = 0 ∧ t.tb tb = { s.tb tb with pendingStep := some amount, stepNews := { since := s.now } })) ∧
  (∀ (tb : TbId) (s : State) (d : Int), (s.tb tb).pendingStep = some d → (s.tb tb).running = true →
    s.edgeAt (s.tb tb).stepNews ≤ s.now →
    Runs (.stepEdge tb) s fun t =>
      (t.tb tb).count = (((s.tb tb).count : Int) + d * 2 ^ 32).toNat ∧ (t.tb tb).pendingStep = none ∧ (t.tb tb).running = true ∧
      (t.tb tb).steering = (s.tb tb).steering ∧
      (∀ r, r < 32 → ∀ c, (s.replica r).copy tb = some c → (t.replica r).copy tb = some (if (s.tb tb).stepNews.told.testBit r = true then
        { c with jump := some ⟨(s.tb tb).count, d, (s.nat (0x6000 + tb) 0x08 + 1) % 256⟩ } else c)) ∧
      (∀ k, k ≠ tb.val → t.tb k = s.tb k) ∧
      t.nat (0x6000 + tb) 0x08 = (s.nat (0x6000 + tb) 0x08 + 1) % 256 ∧
      t.nat (0x6000 + tb) 0x13 = min (s.nat (0x6000 + tb) 0x13 + 1) (2 ^ 32 - 1) ∧ t.bit (0x6000 + tb) 0x04 8 = true ∧
      (∀ c, c < 32 → ((s.compare c).state ≠ 1 ∨ s.nat (0x6100 + c) 0x01 ≠ tb.val) → t.compare c = s.compare c) ∧
      (∀ c, c < 32 → (s.compare c).state = 1 → s.nat (0x6100 + c) 0x01 = tb.val → d ≤ 0 →
        0 < shortDiff (s.target c (s.compare c).index) (s.shortTime tb) → t.compare c = s.compare c) ∧
      (∀ c, c < 32 → (s.compare c).state = 1 → s.nat (0x6100 + c) 0x01 = tb.val →
        0 ≤ shortDiff ((((s.tb tb).count : Int) + d * 2 ^ 32).toNat / 2 ^ 32 % 2 ^ 64) (s.target c (s.compare c).index) → 0 < d →
        ((s.nat (0x6100 + c) 0x05 = 0 ∨ (s.compare c).index < s.nat (0x6100 + c) 0x05) → (s.compare c).index < (t.compare c).index) ∧
        (s.nat (0x6100 + c) 0x05 ≠ 0 → s.nat (0x6100 + c) 0x05 ≤ (s.compare c).index → (t.compare c).state = 2)) ∧
      (∀ f, f < 16 → gridMode (s.nat (0x6200 + f) 0x01) = true → s.nat (0x6200 + f) 0x02 = tb.val → s.isSafe = false →
        (s.firefly f).waitsUnset = false → t.reg (0x6200 + f) 0x0E = s.alignError f + d ∧
          (s.nat (0x6200 + f) 0x11 = 2 → t.nat (0x6200 + f) 0x11 = 3)))

/-- A set (R235, R236, R244, R253, R298): within the ranges the value waits for its edge with its reference instant; there the time base takes the
value plus the interval since, counts as set, its armed compares are cancelled and its outputs with a grid stop. The firmware's set waits its
turn behind the commits that wait. Rests on choices of the model: log entries 29, 122.
Completes `exec i s = .next t` for i = set, setEdge. -/
def Obligations.SetEstablishesTheTimeBase : Prop :=
  (∀ (role : Role) (tb : TbId) (sec ns fr : Nat) (s : State), s.admits role (0x6000 + tb) 0x09 →
    Runs (.set (some role) tb sec ns fr) s fun t => Only (partTbs ||| partLastStatus ||| partLastDetail) s t ∧
      ((2 ^ 48 ≤ sec ∨ 1000000000 ≤ ns ∨ 65536 ≤ fr) → t.lastStatus = 0x08 ∧ t.tbs = s.tbs) ∧
      (sec < 2 ^ 48 → ns < 1000000000 → fr < 65536 → t.lastStatus = 0 ∧
        t.tb tb = { s.tb tb with pendingSet := some ((sec * 1000000000 + ns) * 65536 + fr, s.now), setNews := { since := s.now } } ∧
        ∀ k, k ≠ tb.val → t.tb k = s.tb k)) ∧
  (∀ (tb : TbId) (sec ns fr : Nat) (s : State), s.served = true → sec < 2 ^ 48 → ns < 1000000000 → fr < 65536 →
    Runs (.set none tb sec ns fr) s fun t =>
      (s.mustWait (setValues tb sec ns fr) = true → t.tbs = s.tbs ∧
        t.commits = s.commits ++ [{ session := 255, values := setValues tb sec ns fr, arrived := s.now }]) ∧
      (s.mustWait (setValues tb sec ns fr) = false → s.firmwareMaySet tb = false → t.lastStatus = 0x04 ∧ t.tbs = s.tbs) ∧
      (s.mustWait (setValues tb sec ns fr) = false → s.firmwareMaySet tb = true →
        t.lastStatus = 0 ∧ (t.tb tb).pendingSet = some ((sec * 1000000000 + ns) * 65536 + fr, s.now))) ∧
  (∀ (tb : TbId) (s : State) (v : Nat × Nat), (s.tb tb).pendingSet = some v → (s.tb tb).running = true →
    s.edgeAt (s.tb tb).setNews ≤ s.now →
    Runs (.setEdge tb) s fun t => (t.tb tb).count = (v.1 + (s.now - v.2) * 65536) * 2 ^ 32 ∧ (t.tb tb).pendingSet = none ∧
      t.tbSet tb = true ∧ t.servo tb ≠ 0 ∧ t.nat (0x6000 + tb) 0x08 = (s.nat (0x6000 + tb) 0x08 + 1) % 256 ∧
      t.nat (0x6000 + tb) 0x13 = min (s.nat (0x6000 + tb) 0x13 + 1) (2 ^ 32 - 1) ∧ t.bit (0x6000 + tb) 0x04 8 = true ∧
      (∀ k, k < 8 → k ≠ tb.val → (t.tb k).count = (s.tb k).count) ∧
      (∀ c, c < 32 → (s.compare c).state = 1 → s.nat (0x6100 + c) 0x01 = tb.val → (t.compare c).state = 3) ∧
      (∀ f, f < 16 → gridMode (s.nat (0x6200 + f) 0x01) = true → s.nat (0x6200 + f) 0x02 = tb.val → s.isSafe = false →
        (s.firefly f).waitsUnset = false → (t.firefly f).stoppedBySet = true ∧ (t.firefly f).pulses = [] ∧ t.nat (0x6200 + f) 0x11 = 1))

/-- Compares (R238 to R241): arming passes only with the first instance 1 µs to 129,600 s ahead and the spacing kept; disarming makes it idle; a fire
counts or is suppressed, takes its record, and after the last instance the compare is done. Rests on choices of the model: log entry 108.
Completes `exec i s = .next t` for i = compareArm, compareDisarm, compareFire. -/
def Obligations.CompareArmsAndFires : Prop :=
  (∀ (role : Role) (c : CompareId) (s : State), s.admits role (0x6100 + c) 0x08 →
    Runs (.compareArm role c) s (fun t => Only (partCompares ||| partLastStatus ||| partLastDetail) s t ∧
      (s.armOk c = true → t.lastStatus = 0 ∧ t.compare c = { state := 1, index := 0 }) ∧
      (s.armOk c = false → t.lastStatus = 0x09 ∧ t.compares = s.compares) ∧ (∀ k, k ≠ c.val → t.compare k = s.compare k)) ∧
    Runs (.compareDisarm role c) s (fun t => Only (partCompares ||| partLastStatus ||| partLastDetail) s t ∧ t.lastStatus = 0 ∧
      t.compare c = {} ∧ (∀ k, k ≠ c.val → t.compare k = s.compare k))) ∧
  (∀ (c : CompareId) (s : State), (s.compare c).state = 1 → (s.tb (s.nat (0x6100 + c) 0x01)).running = true →
    s.reached (s.nat (0x6100 + c) 0x01) (s.target c (s.compare c).index) = true →
    Runs (.compareFire c) s fun t =>
      t.compare c = { state := if s.nat (0x6100 + c) 0x05 ≠ 0 ∧ s.nat (0x6100 + c) 0x05 ≤ (s.compare c).index + 1 then 2 else 1,
                      index := (s.compare c).index + 1 } ∧
      (∀ k, k ≠ c.val → t.compare k = s.compare k) ∧
      (s.flag (0x6100 + c) 0x07 = true → s.tbFollows (s.nat (0x6100 + c) 0x01) = false →
        t.nat (0x6100 + c) 0x0C = min (s.nat (0x6100 + c) 0x0C + 1) (2 ^ 64 - 1) ∧ t.fireflies = s.fireflies) ∧
      ((s.flag (0x6100 + c) 0x07 = false ∨ s.tbFollows (s.nat (0x6100 + c) 0x01) = true) →
        t.nat (0x6100 + c) 0x0A = min (s.nat (0x6100 + c) 0x0A + 1) (2 ^ 64 - 1)) ∧
      (s.bit (0x6100 + c) 0x06 1 = true → s.bit (0x6100 + c) 0x06 2 = false → s.ring.length < 4096 →
        t.ring.length = s.ring.length + 1 ∧ ∃ r ∈ t.ring, r.source = 16 + c.val ∧ r.at_ = s.now ∧
          r.time = s.fullTime (s.nat (0x6100 + c) 0x01) (s.target c (s.compare c).index)))

/-- Firefly outputs (R242 to R247, R252): a grid instant, where the time base less e and the offset stands at floor(j I / k), is an active edge of
the output's width, once; one that waits for alignment takes the first instant half a period after its last edge and is then aligned; realigning
restarts a stopped output; a slew goes on from e as it stands and at its end e is 0. Rests on choices of the model: log entries 44, 45.
Completes `exec i s = .next t` for i = fireflyGridInstant, realignImmediate, realignSlewed, slewComplete. -/
def Obligations.FireflyFollowsItsGrid : Prop :=
  (∀ (f : FireflyId) (s : State), gridMode (s.nat (0x6200 + f) 0x01) = true → s.nat (0x6200 + f) 0x11 ≠ 0 → s.isSafe = false →
    (s.tb (s.nat (0x6200 + f) 0x02)).running = true → (s.firefly f).waitsUnset = false → (s.firefly f).stoppedBySet = false →
    ∀ g, s.gridInstant f (if (s.firefly f).realignWait = 1 then 0 else s.alignError f) = some g →
    (if (s.firefly f).realignWait = 0 then (s.firefly f).pulses.all (fun q => q.start != g)
     else (s.settlePulses f false).halfPeriodOver f) = true →
    Runs (.fireflyGridInstant f) s fun t =>
      (t.firefly f).lastEdge = some s.now ∧ (t.firefly f).realignWait = 0 ∧
      (s.nat (0x6200 + f) 0x01 ≠ 5 → { tb := s.nat (0x6200 + f) 0x02, start := g, stop := g + nsUnits (s.nat (0x6200 + f) 0x06),
                                       gridded := true } ∈ (t.firefly f).pulses) ∧
      (0 < s.nat (0x6200 + f) 0x03 → (g - s.reg (0x6200 + f) 0x05) % 65536 = 0 ∧ ∃ j, j < s.nat (0x6200 + f) 0x04 ∧
        ((g - s.reg (0x6200 + f) 0x05) / 65536) % (s.nat (0x6200 + f) 0x03 : Int) = ((j * s.nat (0x6200 + f) 0x03 / s.nat (0x6200 + f) 0x04 : Nat) : Int)) ∧
      ((s.firefly f).realignWait = 1 → t.nat (0x6200 + f) 0x11 = 2 ∧ t.reg (0x6200 + f) 0x0E = 0) ∧
      (∀ k, k ≠ f.val → t.firefly k = s.firefly k) ∧ Only (partRegs ||| partFireflies) s t ∧
      SameEntries (fun i j => i = 0x6200 + f.val ∧ (j = 0x0E ∨ j = 0x11)) s t) ∧
  (∀ (role : Role) (f : FireflyId) (s : State), s.admits role (0x6200 + f) 0x0F → gridMode (s.nat (0x6200 + f) 0x01) = true →
    (s.firefly f).waitsUnset = false →
    Runs (.realignImmediate role f) s (fun t => t.lastStatus = 0 ∧
      (t.firefly f).stoppedBySet = false ∧ (t.firefly f).realignWait = 1 ∧ (t.firefly f).slewSince = none ∧
      t.reg (0x6200 + f) 0x0E = s.alignError f ∧ (∀ k, k ≠ f.val → t.firefly k = s.firefly k) ∧
      SameEntries (fun i j => i = 0x6200 + f.val ∧ j = 0x0E) s t ∧
      Only (partRegs ||| partFireflies ||| partLastStatus ||| partLastDetail) s t) ∧
    Runs (.realignSlewed role f) s (fun t => t.lastStatus = 0 ∧ (t.firefly f).stoppedBySet = false ∧
      ((s.firefly f).stoppedBySet = true → (t.firefly f).realignWait = 2) ∧
      ((s.firefly f).stoppedBySet = false → s.alignError f ≠ 0 → t.nat (0x6200 + f) 0x11 = 4 ∧ (t.firefly f).realignWait = 0 ∧
        t.reg (0x6200 + f) 0x0E = s.alignError f ∧ (t.firefly f).slewSince = some s.now) ∧
      SameEntries (fun i j => i = 0x6200 + f.val ∧ (j = 0x0E ∨ j = 0x11)) s t)) ∧
  (∀ (f : FireflyId) (s : State), s.nat (0x6200 + f) 0x11 = 4 → (s.firefly f).realignWait = 0 → s.alignError f = 0 →
    Runs (.slewComplete f) s fun t => t.reg (0x6200 + f) 0x0E = 0 ∧ t.nat (0x6200 + f) 0x11 = 2 ∧ (t.firefly f).slewSince = none ∧
      SameEntries (fun i j => i = 0x6200 + f.val ∧ (j = 0x0E ∨ j = 0x11)) s t ∧ Only (partRegs ||| partFireflies) s t)

/-- Captures and their ring (R249 to R251): an enabled, selected edge that passes filter and prescale is a capture with a record in its place by
time, or within 200 ns of the last an overrun; a full ring drops its oldest record and counts it; a reset empties the ring. Rests on choices of
the model: log entry 1.
Completes `exec i s = .next t` for i = captureEdge, resetRing. -/
def Obligations.CapturesFillTheRing : Prop :=
  (∀ (e : CaptureId) (rising : Bool) (heldNs agePs : Nat) (s : State), s.flag (0x6300 + e) 0x01 = true → s.isSafe = false →
    (s.tb (s.nat (0x6300 + e) 0x03)).running = true → (s.nat (0x6300 + e) 0x02).testBit (if rising then 0 else 1) = true →
    s.nat (0x6300 + e) 0x04 ≤ heldNs →
    Runs (.captureEdge e rising heldNs agePs) s fun t =>
      ((s.capture e).edges + 1 < s.nat (0x6300 + e) 0x05 → t.ring = s.ring ∧
        t.capture e = { s.capture e with edges := (s.capture e).edges + 1 } ∧ Only partCaptures s t) ∧
      (s.nat (0x6300 + e) 0x05 ≤ (s.capture e).edges + 1 →
        ((s.capture e).last = none → (t.capture e).last = some ((s.now : Int) * 1000 - agePs) ∧ (t.capture e).edges = 0 ∧
          t.nat (0x6300 + e) 0x07 = min (s.nat (0x6300 + e) 0x07 + 1) (2 ^ 64 - 1) ∧
          t.ringSeq = (s.ringSeq + 1) % 256 ∧
          (s.ring.length < 4096 → t.ring.length = s.ring.length + 1 ∧ t.rewind = s.rewind ∧
            ∃ r ∈ t.ring, r.source = e.val ∧ r.at_ = (((s.now : Int) * 1000 - agePs) / 1000).toNat) ∧
          (s.ring.length = 4096 → t.ring.length = 4096 ∧ t.rewind = min (s.rewind + 1) (2 ^ 32 - 1) ∧
            t.nat 0x6380 0x04 = min (s.nat 0x6380 0x04 + 1) (2 ^ 64 - 1))) ∧
        (∀ t0, (s.capture e).last = some t0 → (s.now : Int) * 1000 - agePs < t0 + 200000 → t.ring = s.ring ∧
          t.nat (0x6300 + e) 0x08 = min (s.nat (0x6300 + e) 0x08 + 1) (2 ^ 64 - 1)))) ∧
  (∀ (role : Role) (s : State), s.admits role 0x6380 0x05 →
    Runs (.resetRing role) s fun t => t.lastStatus = 0 ∧ t.ring = [] ∧ t.rewind = 0 ∧ t.ringSeq = s.ringSeq ∧
      Only (partRing ||| partRewind ||| partLastStatus ||| partLastDetail) s t)

/-! ## Timestamps and links (10_timestamping_and_links.md) -/

/-- Time lines (R255 to R258; 13 R340): a marker that arrives ends a row of missed ones and takes a new line delay, and the replica's own value is
compared with the hub's plus that delay; the fourth missed in a row is a fault. The message after it loads a copy, moves a running one by at most
2 ps, every one by the whole difference after a change-over, is a fault beyond 250 ps, starts a replica that does not run, and announces a step
whose commit point its marker followed. Rests on choices of the model: log entries 10, 60, 122.
Completes `exec i s = .next t` for i = timeLineMarker, timeLineMessage. -/
def Obligations.ReplicasFollowTheirLines : Prop :=
  (∀ (line : Fin 32) (a : Int) (s : State), s.lineFenced line = false → s.isSafe = false →
    Runs (.timeLineMarker line (some a)) s fun t =>
      (t.replica line).missed = 0 ∧ (t.replica line).newDelay = none ∧
        (t.replica line).delay = ((s.replica line).newDelay).getD (s.replica line).delay ∧
        (t.replica line).marker = some ((s.replica line).turn, t.behindMarker line (s.replica line).turn a) ∧
        (t.replica line).turn = nextTurn line (s.replica line).turn ∧ (t.replica line).copies = (s.replica line).copies ∧
        (∀ k, k ≠ line.val → t.replica k = s.replica k) ∧ Only (partReplicas ||| partBlobs) s t) ∧
  (∀ (line : Fin 32) (s : State), s.lineFenced line = false → s.isSafe = false →
    Runs (.timeLineMarker line none) s fun t => (∀ k, k ≠ line.val → t.replica k = s.replica k) ∧ (t.replica line).marker = none ∧
      (¬((s.replica line).status = 1 ∧ 3 ≤ (s.replica line).missed) →
        t.replica line = { s.replica line with
          missed := min 3 ((s.replica line).missed + 1)
          turn := nextTurn line (s.replica line).turn
          marker := none } ∧ Only partReplicas s t) ∧
      ((s.replica line).status = 1 → 3 ≤ (s.replica line).missed → (t.replica line).status = 2 ∧ (t.replica line).copies = [] ∧
        t.messages.any (fun m => m.source == replicaSource line) = true)) ∧
  (∀ (line : Fin 32) (s : State), s.lineFenced line = false → s.isSafe = false → ∀ k d, (s.replica line).marker = some (k, d) →
    Runs (.timeLineMessage line) s fun t => (∀ j, j ≠ line.val → t.replica j = s.replica j) ∧ (t.replica line).marker = none ∧
      (∀ j, j < 8 → (s.tb j).pendingStep.isSome = true → (s.tb j).stepNews.since ≤ (s.replica line).markerAt →
        (t.tb j).stepNews.told.testBit line = true ∧ (t.tb j).pendingStep = (s.tb j).pendingStep) ∧
      ((s.replica line).status = 1 → line.val < 24 →
        t.nat (0x2500 + line) 0x05 = max (s.nat (0x2500 + line) 0x05) (min d.natAbs 65535)) ∧
      ((s.replica line).status = 1 → ∀ c, (s.replica line).copy k = some c → (s.replica line).rephase = true →
        (t.replica line).rephase = false ∧ (t.replica line).status = 1 ∧
        ((t.replica line).copy k).map (fun x => (x.count, x.fine, x.rate)) = some (c.count, c.fine + d, s.rate k)) ∧
      ((s.replica line).status = 1 → ∀ c, (s.replica line).copy k = some c → (s.replica line).rephase = false → d.natAbs ≤ 250 →
        (t.replica line).status = 1 ∧
        ((t.replica line).copy k).map (fun x => (x.count, x.fine, x.rate)) = some (c.count, c.fine + max (-2) (min 2 d), s.rate k) ∧
        (∀ j, j ≠ k → ∀ e, (s.replica line).copy j = some e →
          ((t.replica line).copy j).map (fun x => (x.count, x.fine, x.rate)) = some (e.count, e.fine, s.rate j))) ∧
      ((s.replica line).status = 1 → ((s.replica line).copy k).isSome = true → (s.replica line).rephase = false → 250 < d.natAbs →
        (t.replica line).status = 2 ∧ t.messages.any (fun m => m.source == replicaSource line) = true) ∧
      (((s.replica line).status ≠ 1 ∨ (s.replica line).copy k = none) → ((s.replica line).status ≠ 1 → (t.replica line).status = 1 ∧ (t.replica line).missed = 0) ∧
        ((t.replica line).copy k).map (fun x => (x.count, x.epoch, x.fine, x.rate)) =
          some ((((s.tb k).count : Int) + d * 2 ^ 48 / 1000).toNat, s.nat (0x6000 + k) 0x08, 0, s.rate k))) ∧
  (∀ (line : Fin 32) (s : State), (s.replica line).marker = none → Runs (.timeLineMessage line) s fun t => t = s)

/-- The delay tracker (R273): a mean path delay out of range is counted and is no result; on a syntonised port a result joins the last eight, and s
is their median, the mean of the middle two; beyond the threshold of a verified port it is a delay step, and within it the baseline moves no
farther than the tracking rate allows. With the Sync that came with the exchange it gives an offset, which a calibration records and the slots of
a verified port take (R268, R276, R279). Rests on choices of the model: log entries 10, 121.
Completes `exec i s = .next t` for i = delayResult. -/
def Obligations.DelayTrackerJudgesResults : Prop :=
  (∀ (p : PortId) (x : Exchange) (s : State), (meanPath x < 0 ∨ 2000000000 < meanPath x) →
    Runs (.delayResult p x) s fun t => t.nat (0x2400 + p) 0x15 = min (s.nat (0x2400 + p) 0x15 + 1) (2 ^ 32 - 1) ∧
      t.bit (0x2400 + p) 0x02 9 = true ∧ SameEntries (fun i j => i = 0x2400 + p.val ∧ (j = 0x02 ∨ j = 0x15)) s t ∧ Only partRegs s t) ∧
  (∀ (p : PortId) (x : Exchange) (y : SyncTimes) (s : State), ∀ m, meanPath x = m → 0 ≤ m → m ≤ 2000000000 → x.sync = some y →
    s.portSynt p = true → (s.tim p).count < 7 →
    Runs (.delayResult p x) s fun t => (t.tim p).results = (m :: (s.tim p).results).take 8 ∧
      ((s.tim p).calibrating = true → s.nat (0x2400 + p) 0x12 = y.tb.val → s.portVerified p = false →
        (t.tim p).offsets = (s.tim p).offsets ++ [s.syncOffset p m y.t1 y.t2 y.correction * 1000 / 65536]) ∧
      (s.portVerified p = true → ∀ n, n < 8 → s.slotPort n = some p.val →
        t.reg (0x7020 + y.tb) (0x18 + n) = s.syncOffset p m y.t1 y.t2 y.correction) ∧
      (s.portVerified p = false → t.regs = s.regs)) ∧
  (∀ (p : PortId) (x : Exchange) (s : State), ∀ m, meanPath x = m → 0 ≤ m → m ≤ 2000000000 → x.sync = none → s.portSynt p = true →
    Runs (.delayResult p x) s fun t => (t.tim p).results = (m :: (s.tim p).results).take 8 ∧
      (t.tim p).count = min 8 ((s.tim p).count + 1) ∧ (t.tim p).lastResult = some s.now ∧ (∀ q, q ≠ p.val → (t.tim q).results = (s.tim q).results) ∧
      ((s.tim p).count < 7 → t.regs = s.regs) ∧
      (7 ≤ (s.tim p).count → s.nat (0x2400 + p) 0x01 = 2 → (s.tim p).calibrating = false → s.flag (0x2400 + p) 0x0D = true →
        (s.nat (0x2400 + p) 0x0E < (median8 ((m :: (s.tim p).results).take 8) - s.reg (0x2400 + p) 0x0D).natAbs →
          t.nat (0x2400 + p) 0x01 = 3 ∧ t.bit (0x2400 + p) 0x02 11 = true ∧
          t.nat (0x2400 + p) 0x17 = min (s.nat (0x2400 + p) 0x17 + 1) (2 ^ 32 - 1) ∧
          t.reg (0x2400 + p) 0x0D = s.reg (0x2400 + p) 0x0D) ∧
        ((median8 ((m :: (s.tim p).results).take 8) - s.reg (0x2400 + p) 0x0D).natAbs ≤ s.nat (0x2400 + p) 0x0E →
          t.nat (0x2400 + p) 0x01 = 2 ∧
          ((t.reg (0x2400 + p) 0x0D - s.reg (0x2400 + p) 0x0D).natAbs ≤ s.nat (0x2400 + p) 0x0F * (s.now - (s.tim p).lastResult.getD s.now) / 1000000000) ∧
          SameEntries (fun i j => i = 0x2400 + p.val ∧ j = 0x0D) s t)))

/-- The timing commands (R277 to R279): 1 and 2 take s as the baseline, 2 with the proposed asymmetry; 3 enters calibration and 4 leaves it; each is
refused with 09h where R278 refuses it; at the end 16 offsets or more leave a proposal and fewer do not. Rests on choices of the model: log
entries 10, 41.
Completes `exec i s = .next t` for i = acceptPresentDelay, acceptProposal, calibrateAsymmetry, abortCalibration, asymmetryCalibrationEnd. -/
def Obligations.TimingCommandsActOnThePort : Prop :=
  (∀ (role : Role) (p : PortId) (s : State), s.admits role (0x2400 + p) 0x10 →
    Runs (.acceptPresentDelay role p) s (fun t =>
      ((s.presentS p = none ∨ (s.tim p).calibrating = true) → t.lastStatus = 0x09 ∧ Only (partLastStatus ||| partLastDetail) s t) ∧
      (∀ m, s.presentS p = some m → (s.tim p).calibrating = false → t.lastStatus = 0 ∧ t.reg (0x2400 + p) 0x0D = m ∧
        ((s.tim p).causes = 0 ∨ (s.tim p).causes = 2 ∨ (s.tim p).causes = 4 → t.nat (0x2400 + p) 0x01 = 2))) ∧
    Runs (.acceptProposal role p) s (fun t =>
      ((s.presentS p = none ∨ (s.tim p).calibrating = true ∨ s.bit (0x2400 + p) 0x02 1 = false) →
        t.lastStatus = 0x09 ∧ Only (partLastStatus ||| partLastDetail) s t) ∧
      (∀ m, s.presentS p = some m → (s.tim p).calibrating = false → s.bit (0x2400 + p) 0x02 1 = true →
        t.lastStatus = 0 ∧ t.reg (0x2400 + p) 0x0D = m ∧ t.reg (0x2400 + p) 0x04 = s.reg (0x2400 + p) 0x13 ∧
        t.nat (0x2400 + p) 0x03 = 1 ∧ t.bit (0x2400 + p) 0x02 1 = false)) ∧
    Runs (.calibrateAsymmetry role p) s (fun t =>
      ((s.presentS p = none ∨ s.otherReference p = false) → t.lastStatus = 0x09 ∧ Only (partLastStatus ||| partLastDetail) s t) ∧
      (∀ m, s.presentS p = some m → s.otherReference p = true → t.lastStatus = 0 ∧ t.bit (0x2400 + p) 0x02 1 = false ∧
        (t.tim p).offsets = [] ∧ (t.tbFollows (s.nat (0x2400 + p) 0x12) = true →
          (t.tim p).calibrating = true ∧ (t.tim p).s0 = m ∧ t.nat (0x2400 + p) 0x01 = 4))) ∧
    Runs (.abortCalibration role p) s (fun t => t.lastStatus = 0 ∧ (t.tim p).calibrating = false ∧
      ((s.tim p).calibrating = true → s.nat (0x2400 + p) 0x01 = 4 → t.nat (0x2400 + p) 0x01 ≠ 4))) ∧
  (∀ (p : PortId) (s : State), (s.tim p).calibrating = true →
    Runs (.asymmetryCalibrationEnd p) s fun t => (t.tim p).calibrating = false ∧
      (16 ≤ (s.tim p).offsets.length → t.bit (0x2400 + p) 0x02 1 = true ∧
        t.reg (0x2400 + p) 0x13 = max (-1000000000) (min 1000000000 (s.asymmetry p - 2 * meanOf (s.tim p).offsets)) ∧
        t.nat (0x2400 + p) 0x14 = min (2 ^ 32 - 1) (twiceError (s.tim p).offsets + 16)) ∧
      ((s.tim p).offsets.length < 16 → t.bit (0x2400 + p) 0x02 1 = false ∧ t.reg (0x2400 + p) 0x13 = s.reg (0x2400 + p) 0x13) ∧
      (s.nat (0x2400 + p) 0x01 = 4 → t.nat (0x2400 + p) 0x01 ≠ 4))

/-- A lane's calibration in service (R265, R266; 13 R338, R339): the spare takes the lane after the comparison, the detector takes its trims, the
measured codes wait in the shadow (a twin lane's act at once), a measurement that spans a change-over is repeated (R345), and means within 2 ps
hand the lane back while the third failure fences the detector. Rests on choices of the model: log entry 23.
Completes `exec i s = .next t` for i = detectorComparison, detectorCalibrationDone, laneCalibrationMeasure, detectorHandback. -/
def Obligations.LaneCalibrationGoesRound : Prop :=
  (∀ (c : ClusterId) (j : Fin 4) (own spare : List Nat) (s : State), (s.detector (5 * c.val + j.val)).phase = 1 →
    (s.detector (5 * c.val + j.val)).spanned = false → ∀ sum, sumApart own spare = some sum →
    Runs (.detectorComparison c j own spare) s fun t => t.nat (0x2500 + c) 0x01 = j ∧
      t.reg (0x2500 + c) 0x02 = max (-32768) (min 32767 (roundDiv sum 1024)) ∧ t.nat (0x2500 + c) 0x03 = min (s.nat (0x2500 + c) 0x03 + 1) (2 ^ 32 - 1) ∧
      (t.detector (5 * c.val + j.val)).phase = 2 ∧ (∀ k, k ≠ 5 * c.val + j.val → t.detector k = s.detector k) ∧
      (20 * 1024 < sum.natAbs → s.isSafe = false → t.messages.any (fun m => m.source == 6 * (4 * c.val + j.val) + 4) = true) ∧
      (sum.natAbs ≤ 20 * 1024 → t.messages = s.messages)) ∧
  (∀ (c : ClusterId) (j : Fin 5) (offset gain : BitVec 10) (s : State),
    (j.val < 4 → (s.detector (5 * c.val + j.val)).phase = 2 ∧ (s.detector (5 * c.val + j.val)).spanned = false) →
    (j.val = 4 → 4 ≤ s.nat (0x2500 + c) 0x01 ∧ s.clusterBusy c = false ∧ s.detectorFenced (5 * c.val + 4) = false ∧ s.nat 0x8000 0x05 = 0) →
    Runs (.detectorCalibrationDone c j offset gain) s fun t => (t.detector (5 * c.val + j.val)).offset = offset.toNat ∧
      (t.detector (5 * c.val + j.val)).gain = gain.toNat ∧ (j.val < 4 → (t.detector (5 * c.val + j.val)).phase = 3) ∧
      (∀ k, k ≠ 5 * c.val + j.val → t.detector k = s.detector k) ∧ Only partDetectors s t) ∧
  (∀ (l : LaneId) (rx tx : Nat) (a b c : BitVec 10) (x y z : Byte) (s : State), l.val < 96 → s.bit (0x8100 + l) 0x0A 0 = true →
    (s.detector (5 * (l.val / 4) + l.val % 4)).phase = 3 → (s.detector (5 * (l.val / 4) + l.val % 4)).spanned = false →
    Runs (.laneCalibrationMeasure l rx tx [a, b, c] [x, y, z]) s fun t => (t.trim l).timing.isSome = true ∧ (t.trim l).targets.isSome = true ∧
      (t.trim l).signal = some [a.toNat, b.toNat, c.toNat, x.toNat, y.toNat, z.toNat] ∧
      t.nat (0x8100 + l) 0x05 = s.nat (0x8100 + l) 0x05 ∧ (∀ k, k ≠ l.val → t.trim k = s.trim k)) ∧
  (∀ (l : LaneId) (rx tx : Nat) (trims : List (BitVec 10)) (biases : List Byte) (s : State), 96 ≤ l.val →
    (s.bit (0x8100 + l) 0x0A 1 = true ∨ (s.bit (0x8100 + l) 0x0A 3 = true ∧ (s.stage l = 6 ∨ s.stage l = 7))) →
    s.nat 0x8000 0x05 = 0 → (s.trim l).spanned = false →
    Runs (.laneCalibrationMeasure l rx tx trims biases) s fun t => (t.trim l).timing = none ∧ t.bit (0x8100 + l) 0x0A 1 = false ∧
      t.nat (0x8100 + l) 0x09 = time80 (s.tbNow 0)) ∧
  (∀ (c : ClusterId) (j : Fin 5) (offset gain : BitVec 10) (s : State), j.val < 4 → (s.detector (5 * c.val + j.val)).phase = 2 →
    (s.detector (5 * c.val + j.val)).spanned = true →
    Runs (.detectorCalibrationDone c j offset gain) s fun t =>
      t.detector (5 * c.val + j.val) = { s.detector (5 * c.val + j.val) with spanned := false } ∧ Only partDetectors s t) ∧
  (∀ (c : ClusterId) (j : Fin 4) (own spare : List Nat) (s : State), (s.detector (5 * c.val + j.val)).phase = 3 →
    (s.detector (5 * c.val + j.val)).spanned = false → (s.trim (4 * c.val + j.val)).timing.isSome = true →
    ∀ sum, sumApart own spare = some sum →
    Runs (.detectorHandback c j own spare) s fun t =>
      (sum.natAbs ≤ 2 * 1024 → (t.detector (5 * c.val + j.val)).phase ≤ 1 ∧ t.nat (0x2500 + c) 0x01 ≠ j) ∧
      (2 * 1024 < sum.natAbs → (s.detector (5 * c.val + j.val)).failures < 2 → t.detector (5 * c.val + j.val) =
        { s.detector (5 * c.val + j.val) with phase := 2, failures := (s.detector (5 * c.val + j.val)).failures + 1 } ∧ Only partDetectors s t) ∧
      (2 * 1024 < sum.natAbs → 2 ≤ (s.detector (5 * c.val + j.val)).failures → t.hasFence .detector (5 * c.val + j.val) = true))

/-! ## References (11_references_and_holdover.md) -/

/-- Slots and candidates qualify and drop out (R290 to R292, R295, R299, R306, R308, R310): the guard times end in qualified and in candidate, or
held beyond the step threshold, and an unset time base that the firmware may set is set from its candidate; an agreed dispute ends; a held slot
is accepted; pins come and go with their edges; an offset missing for 2 s is no longer fresh. Rests on choices of the model: log entries 11, 19,
29, 43.
Completes `exec i s = .next t` for i = slotGuardExpiry, disputeEnd, candidateGuardExpiry, phaseAccept, pinInputLoss, referencePinEdge,
slotOffsetTimeout. -/
def Obligations.SlotsQualifyForReference : Prop :=
  (∀ (n : SlotId) (s : State), s.nat (0x7000 + n) 0x07 = 2 → s.slotFit n = true → s.nat (0x7000 + n) 0x01 ≠ 0 →
    Runs (.slotGuardExpiry n) s fun t => t.nat (0x7000 + n) 0x07 = (if t.disputeOpen n = true then 4 else 3)) ∧
  (∀ (a b : SlotId) (s : State), a ≠ b → (s.slot a).disputes.testBit b = true → s.slotsDiffer a b = false → (s.slot b).disputes.testBit a = true →
    Runs (.disputeEnd a b) s fun t => (t.slot a).disputes.testBit b = false ∧ (t.slot b).disputes.testBit a = false) ∧
  (∀ (n : SlotId) (tb : TbId) (s : State), s.nat (0x7020 + tb) (0x10 + n) = 1 → s.candidateFit tb n = true →
    Runs (.candidateGuardExpiry n tb) s fun t =>
      t.nat (0x7020 + tb) (0x10 + n) =
        (if s.tbSet tb = true ∧ s.offsetBeyond tb n = true then 3 else 2) ∧
      (s.firmwareMaySet tb = true → (s.tb tb).pendingSet = none → s.served = true →
        ∀ v : Nat, (s.tbNow tb : Int) - s.reg (0x7020 + tb) (0x18 + n) = v → v < 65536000000000 * 2 ^ 48 →
        s.mustWait (setValues tb (v / 65536 / 1000000000) (v / 65536 % 1000000000) (v % 65536)) = false →
        (t.tb tb).pendingSet = some (v, s.now))) ∧
  (∀ (role : Role) (tb : TbId) (n : SlotId) (s : State), s.admits role (0x7020 + tb) 0x0B →
    Runs (.phaseAccept role tb n) s fun t =>
      (s.candidacy tb n ≠ 3 → t.lastStatus = 0x09 ∧ Only (partLastStatus ||| partLastDetail) s t) ∧
      (s.candidacy tb n = 3 → t.lastStatus = 0 ∧ t.candidacy tb n = (if t.candidateFit tb n = true then 4 else 0))) ∧
  (∀ (n : SlotId) (s : State), s.slotPin n = true →
    Runs (.pinInputLoss n) s fun t => t.slotInput n = false ∧ t.bit (0x7000 + n) 0x08 0 = false ∧ t.nat (0x7000 + n) 0x07 = 1) ∧
  (∀ (pin : Fin 6) (age : Nat) (s : State),
    Runs (.referencePinEdge pin age) s fun t => ∀ n, n < 8 → s.nat (0x7000 + n) 0x01 = pin.val + 1 →
      t.slotInput n = true ∧ t.bit (0x7000 + n) 0x08 0 = true ∧
      (s.nat (0x7000 + n) 0x02 = 1 → s.nat (0x7000 + n) 0x0D < 8 →
        t.reg (0x7020 + s.nat (0x7000 + n) 0x0D) (0x18 + n) =
          psUnits (s.pulsePhase (s.nat (0x7000 + n) 0x0D) age (s.reg (0x7000 + n) 0x0C)))) ∧
  (∀ (n : SlotId) (tb : TbId) (s : State),
    Runs (.slotOffsetTimeout n tb) s fun t => (t.slot n).fresh.testBit tb = false ∧ (s.slotPin n = false → t.candidacy tb n = 0))

/-- Quality and frequency (R291, R293, R294, R300, R303, R225): a received quality is that of R293's row on every slot whose line carries the port;
information is sent on every port that is up, DNU back to the source; a slot's offset is the slope of its phases, shown with its window, and the
pairs follow that of a slot that is locked to; 1 s within 100 ppt is the lock, while the selection, judged again, stays. Rests on choices of the
model: log entries 42, 112.
Completes `exec i s = .next t` for i = esmcReceive, esmcTimeout, esmcSend, frequencyLock, frequencyOffsetMeasurement. -/
def Obligations.FrequencyFollowsTheSelectedSlot : Prop :=
  (∀ (p : PortId) (ssm : BitVec 4) (essm : Option (BitVec 8)) (s : State), s.portUp p = true →
    Runs (.esmcReceive p ssm essm) s fun t => ∀ n, n < 8 → (t.slot n).esmc =
      (if s.slotPort n = some p.val then qualityOf ssm.toNat (essm.map (·.toNat)) else (s.slot n).esmc)) ∧
  (∀ (n : SlotId) (s : State), (s.slotPort n).isSome = true →
    Runs (.esmcTimeout n) s fun t => (t.slot n).esmc = 0 ∧ (∀ m, m ≠ n.val → (t.slot m).esmc = (s.slot m).esmc) ∧
      (s.nat (0x7000 + n) 0x04 ≠ 1 → t.nat (0x7000 + n) 0x06 = 0)) ∧
  (∀ (s : State), Runs .esmcSend s fun t => Only partEsmcOut s t ∧
    t.esmcOut.map (fun e => (e.1, e.2.1)) = ((items 96).filter (fun p => s.portUp p)).map (fun p => (p, s.portQl p))) ∧
  (∀ (n : SlotId) (phases : List Int) (s : State), s.slotInput n = true → phases.length = 1000 →
    ∀ ppt, max (-2147483648) (min 2147483647 (slopePpt (phases.mapIdx (fun j x => (1000000 * j, x))))) = ppt →
    Runs (.frequencyOffsetMeasurement n phases) s fun t => t.reg (0x7000 + n) 0x09 = ppt ∧
      t.bit (0x7000 + n) 0x08 1 = decide (ppt.natAbs ≤ s.nat (0x7000 + n) 0x0B * 1000) ∧
      (t.nat 0x7010 0x01 = n.val → t.nat 0x7010 0x02 = 2 → t.frequency = ppt ∧
        ∀ k, k < 8 → (t.tb k).syntony = t.conditioned t.syntonyMember) ∧
      (t.nat 0x7010 0x01 = n.val → t.nat 0x7010 0x02 = 3 →
        s.nat 0x7010 0x01 = n.val → s.nat 0x7010 0x02 = 3 →
        t.frequency = s.frequency + max (-((s.nat 0x7010 0x06 * (s.now - s.freqMovedAt) / 1000000000 : Nat) : Int))
          (min ((s.nat 0x7010 0x06 * (s.now - s.freqMovedAt) / 1000000000 : Nat) : Int) (ppt - s.frequency)))) ∧
  (∀ (s u : State), s.nat 0x7010 0x02 = 3 → s.nat 0x7010 0x01 < 8 → ∀ near, s.freqNear = some near → near + 1000000000 ≤ s.now →
    u = ({ s with freqSwitching := false, freqLog := (s.now, some (s.tb 0).syntony) :: s.freqLog }.setNat 0x7010 0x02 2) →
    u.refsUpdate.nat 0x7010 0x01 = s.nat 0x7010 0x01 →
    Runs .frequencyLock s fun t => t = u.refsUpdate ∧ t.nat 0x7010 0x02 = 2 ∧ t.nat 0x7010 0x01 = s.nat 0x7010 0x01 ∧
      (s.now, some (s.tb 0).syntony) ∈ t.freqLog ∧ t.freqSwitching = false) ∧
  (∀ (s : State), (∀ near, s.freqNear = some near → s.now < near + 1000000000) → Runs .frequencyLock s fun t => t = s)

/-! ## Synthesis and calibration (12_synthesis.md, 13_calibration.md) -/

/-- Synthesizers and pairs (R320 to R326, R330): a member that stays within the lock window is locked, and its loss is shown and counted; a working
member that loses lock gives way to a ready backup, else both regions of its die are fenced; a swap exchanges the roles and is refused while the
backup is not ready; an edge of SYNC_IN counts, or is ignored within 1 µs. Rests on choices of the model: log entry 112.
Completes `exec i s = .next t` for i = synthLock, synthLockLoss, backupReady, backupAlignmentLoss, swap, syncInEdge. -/
def Obligations.PairsKeepAWorkingMember : Prop :=
  (∀ (k : SynthId) (cycles peak : Nat) (last : Int) (s : State), s.synthRuns k = true → s.synthLocked k = false →
    Runs (.synthLock k cycles peak last) s fun t => t.reg (0x7040 + k) 0x04 = max (-32768) (min 32767 last) ∧
      t.synthLocked k = decide (s.nat 0x7048 0x03 ≤ cycles ∧ max peak last.natAbs ≤ s.nat 0x7048 0x02) ∧ (∀ m, m < 8 → m ≠ k.val → t.nat (0x7040 + m) 0x02 = s.nat (0x7040 + m) 0x02)) ∧
  (∀ (k : SynthId) (errors : List Int) (s : State), s.synthLocked k = true → s.losesLock k errors = true →
    Runs (.synthLockLoss k errors) s fun t => t.synthLocked k = false ∧ t.bit (0x7040 + k) 0x02 4 = true ∧
      t.nat (0x7040 + k) 0x05 = min (s.nat (0x7040 + k) 0x05 + 1) (2 ^ 32 - 1) ∧
      (s.working (k.val / 2) ≠ k.val → t.synthReady k = false ∧ t.working (k.val / 2) = s.working (k.val / 2)) ∧
      (s.working (k.val / 2) = k.val → s.synthReady (otherMember k) = true → t.working (k.val / 2) = otherMember k ∧ t.fences = s.fences ∧
        t.nat (0x7050 + k.val / 2) 0x01 = min (s.nat (0x7050 + k.val / 2) 0x01 + 1) (2 ^ 32 - 1)) ∧
      (s.working (k.val / 2) = k.val → s.synthReady (otherMember k) = false →
        t.regionFenced (2 * (k.val / 2)) = true ∧ t.regionFenced (2 * (k.val / 2) + 1) = true)) ∧
  (∀ (n : PairId) (cycles peak : Nat) (s : State), s.working n / 2 = n.val → s.synthRuns (s.backup n) = true →
    s.synthLocked (s.backup n) = true → s.synthReady (s.backup n) = false → peak ≤ 2 →
    Runs (.backupReady n cycles peak) s fun t =>
      (cycles < 1024 → t.synthReady (s.backup n) = false ∧ t.bit (0x7040 + s.backup n) 0x02 2 = true ∧ t.working n = s.working n) ∧
      (1024 ≤ cycles → s.synthLocked (s.working n) = true → t.synthReady (s.backup n) = true ∧ t.working n = s.working n) ∧
      (1024 ≤ cycles → s.synthLocked (s.working n) = false → t.working n = s.backup n)) ∧
  (∀ (n : PairId) (phase : Int) (s : State), s.synthReady (s.backup n) = true → 2 < phase.natAbs →
    Runs (.backupAlignmentLoss n phase) s fun t => t.synthReady (s.backup n) = false ∧ t.bit (0x7040 + s.backup n) 0x02 5 = true ∧
      (s.isSafe = false → t.messages.any (fun m => m.source == 1088 + 2 * s.backup n + 1) = true)) ∧
  (∀ (role : Role) (n : PairId) (s : State), s.admits role (0x7050 + n) 0x02 → s.working n / 2 = n.val →
    Runs (.swap role n) s fun t =>
      (s.synthReady (s.backup n) = false → t.lastStatus = 0x09 ∧ Only (partLastStatus ||| partLastDetail) s t) ∧
      (s.synthReady (s.backup n) = true → t.lastStatus = 0 ∧ t.working n = s.backup n ∧ t.backup n = s.working n ∧
        t.nat (0x7040 + s.backup n) 0x01 = 1 ∧ t.nat (0x7040 + s.working n) 0x01 = 2 ∧ t.nat (0x7050 + n) 0x04 = time80 (s.tbNow 0))) ∧
  (∀ (period : Fin 5) (s : State), s.isSafe = false → s.synthRuns (s.working 0) = true →
    Runs (.syncInEdge period) s fun t =>
      (∀ e, s.syncEdge = some e → 5 * s.now + period.val < e + 5000 → t.nat 0x7070 0x03 = min (s.nat 0x7070 0x03 + 1) (2 ^ 32 - 1) ∧
        t.syncEdge = s.syncEdge ∧ Only partRegs s t ∧ SameEntries (fun i j => i = 0x7070 ∧ j = 0x03) s t) ∧
      ((∀ e, s.syncEdge = some e → e + 5000 ≤ 5 * s.now + period.val) → t.syncEdge = some (5 * s.now + period.val) ∧
        t.nat 0x7070 0x02 = time80 (s.tbNow 0 + period.val * 65536 / 5) ∧
        t.nat 0x7070 0x01 = min (s.nat 0x7070 0x01 + 1) (2 ^ 32 - 1) ∧
        ∀ c, c < 16 → s.nat (0x7060 + c) 0x04 = 1 → (t.clock c).rise = 5 * s.now + period.val + 64 + s.nat (0x7060 + c) 0x06))

/-- Calibration rounds (R335, R336, R340 to R346): a trigger in service starts a round, or has one follow the round that runs; the resistor is read
and graded, and with a good one every lane of an unfenced cluster is due; a resistor that then reads bad ends the calibrations not yet past their
measurement; a round's end is counted; an output's new vernier acts in its gap; the sensor channel that the spare serves returns fresh, and the
spare goes on, itself calibrated while it is free. Rests on choices of the model: log entries 5, 22, 113, 123.
Completes `exec i s = .next t` for i = calibrationPeriodExpiry, temperatureTrigger, calibrateNow, calibrationRoundEnd,
fireflyVernierApply, sensorChannelCalibration. -/
def Obligations.CalibrationRoundsRun : Prop :=
  (∀ (d : BankId) (role : Role) (r : Nat) (delays : List Nat) (s : State), s.isUp = true →
    (s.roundRuns = true →
      Runs (.calibrationPeriodExpiry r delays) s (fun t => t.roundDue = some (r, delays) ∧ t.roundRuns = true ∧
        t.nat 0x8000 0x05 = resistorGrade r ∧ (∀ l, l < 96 → resistorGrade r ≠ 0 → (s.trim l).timing = none →
          t.bit (0x8100 + l) 0x0A 0 = false ∧ (s.bit (0x8100 + l) 0x0A 0 = true → t.bit (0x8100 + l) 0x0A 4 = true))) ∧
      Runs (.temperatureTrigger d r delays) s (fun t => t.roundDue = some (r, delays) ∧ t.roundRuns = true ∧
        t.nat 0x8000 0x05 = resistorGrade r)) ∧
    (s.roundRuns = false →
      Runs (.calibrationPeriodExpiry r delays) s (fun t => t.nat 0x8000 0x04 = min r (2 ^ 32 - 1) ∧ t.nat 0x8000 0x05 = resistorGrade r ∧
        (resistorGrade r ≠ 0 → t.roundRuns = false ∧ t.messages.any (fun m => m.source == 1184) = true) ∧
        (resistorGrade r = 0 → t.roundRuns = true ∧ t.messages = s.messages ∧
          (∀ l, l < 96 → s.clusterFenced (l / 4) = false → t.bit (0x8100 + l) 0x0A 1 = true ∨ t.bit (0x8100 + l) 0x0A 0 = true))) ∧
      Runs (.temperatureTrigger d r delays) s (fun t => t.nat 0x8000 0x05 = resistorGrade r ∧ t.roundRuns = decide (resistorGrade r = 0))) ∧
    (s.admits role 0x8000 0x03 → Runs (.calibrateNow role r delays) s fun t => t.lastStatus = 0 ∧
      (s.roundRuns = true → t.roundDue = some (r, delays)) ∧
      (s.roundRuns = false → t.nat 0x8000 0x05 = resistorGrade r ∧ t.roundRuns = decide (resistorGrade r = 0)))) ∧
  (∀ (s : State), s.roundRuns = true →
    Runs .calibrationRoundEnd s fun t => t.nat 0x8000 0x06 = min (s.nat 0x8000 0x06 + 1) (2 ^ 32 - 1) ∧
      t.nat 0x8000 0x07 = time80 (s.tbNow 0) ∧ t.roundDue = none ∧ (s.roundDue = none → t.roundRuns = false)) ∧
  (∀ (f : FireflyId) (s : State) (v : Nat), (s.firefly f).vernierShadow = some v →
    Runs (.fireflyVernierApply f) s fun t => t.firefly f = { s.firefly f with vernier := v, vernierShadow := none } ∧
      (∀ k, k ≠ f.val → t.firefly k = s.firefly k) ∧ Only partFireflies s t) ∧
  (∀ (d : BankId) (ch : Fin 7) (reading : Int) (s : State), s.isUp = true → s.nat 0x8000 0x05 = 0 →
    s.nat (0x8200 + d) 0x07 = ch → ch.val < 6 →
    Runs (.sensorChannelCalibration d ch reading) s fun t => t.nat (0x8200 + d) 0x07 = (if ch.val < 5 then ch.val + 1 else 0xFF) ∧ t.bit (0x8200 + d) 0x08 ch = false ∧
      t.reg (0x8200 + d) (ch.val + 1) = (if ch.val < 4 then max (-32768) (min 32767 reading) else max 0 (min 65535 reading)) ∧
      SameEntries (fun i j => i = 0x8200 + d.val ∧ (j = 0x07 ∨ j = 0x08 ∨ j = ch.val + 1)) s t ∧
      Only (partRegs ||| partAnalog ||| partAnalogShadow) s t) ∧
  (∀ (d : BankId) (reading : Int) (s : State), s.isUp = true → s.nat 0x8000 0x05 = 0 → s.nat (0x8200 + d) 0x07 = 0xFF → s.roundRuns = true →
    Runs (.sensorChannelCalibration d 6 reading) s fun t => Only (partAnalog ||| partAnalogShadow) s t ∧
      Sparse.get 0 t.analog (70 + 16 * d) = (Config.analogTrim (70 + 16 * d) (s.nat 0x8000 0x06)).val)

/-! ## The twin pair (14_twin_pair.md) -/

/-- The link and its lanes (R348, R349, R350, R352, R356): a handshake makes a lane usable and is answered on it with the device's own; the first
brings the link up with the twin's identity and decides the role; a frame that does not check or lies outside the window of its class is
discarded, one ahead is held, and a missing one is passed over at the reorder timeout, counted on class 4 and resynced on class 3, and what was
held behind it acts. Rests on choices of the model: log entries 81, 82, 111.
Completes `exec i s = .next t` for i = keaconHandshake, keaconReorderTimeout. -/
def Obligations.TwinLinkComesUp : Prop :=
  (∀ (k : Fin 4) (serial : BitVec 64) (twinId fw layout : Nat) (lead : Bool) (fenced tb0 : Nat) (covers : List Nat) (s : State),
    s.laneCarries k = true → s.isUp = true →
    Runs (.keaconHandshake k serial twinId fw layout lead fenced tb0 covers) s fun t => t.bit 0x9000 0x0B k = true ∧ t.twin.linkUp = true ∧
      (Sparse.get [] t.twin.laneOut k).getLast?.map (·.bytes) = some (keaconFrame 2 0 s.twinId s.handshakePayload) ∧
      (s.twin.linkUp = true → t.nat 0x9000 0x01 = s.nat 0x9000 0x01) ∧
      (s.twin.linkUp = false → t.twin.cricketOk = true ∧ t.twin.twinFenced = fenced % 256 ∧
        t.twin.idConflict = decide (twinId % 2 = s.twinId) ∧ t.twin.incompatible = decide (layout ≠ s.nat 0x1000 0x05) ∧
        (t.blob 0x9000 0x13).take 8 = toBytes 8 serial.toNat ∧ (s.leads = true → lead = false → t.nat 0x9000 0x01 = 1) ∧
        (s.leads = false → lead = true → t.nat 0x9000 0x01 = 2) ∧
        (t.nat 0x9000 0x01 = 1 ∨ t.nat 0x9000 0x01 = 2) ∧ (layout ≠ s.nat 0x1000 0x05 → t.nat 0x9000 0x0C = 4))) ∧
  (∀ (h : KeaconHead) (m : MirrorMessage) (p : PortId) (ports : BitVec 96) (vid priority untag : Nat) (payload : List Byte) (s : State)
      (x : Instr × Nat × KeaconContent),
    x ∈ [(Instr.mirrorFrameReceive h m, m.cls, KeaconContent.mirror m),
      (Instr.coverNoticeReceive h p, 2, KeaconContent.coverNotice p), (Instr.uncoverNoticeReceive h p, 2, KeaconContent.uncoverNotice p),
      (Instr.uncoverAckReceive h p, 2, KeaconContent.uncoverAck p),
      (Instr.coverFrameReceive h ports vid priority untag payload, 4, KeaconContent.cover ports.toNat vid priority untag payload)] →
    Runs x.1 s fun t =>
      ((s.twin.linkUp = false ∨ h.fcsOk = false ∨ h.cls ≠ x.2.1 ∨ 16480 < h.length ∨ 64 ≤ s.keaconAhead x.2.1 h.sequence) → t = s) ∧
      (s.twin.linkUp = true → h.fcsOk = true → h.cls = x.2.1 → h.length ≤ 16480 → 0 < s.keaconAhead x.2.1 h.sequence → s.keaconAhead x.2.1 h.sequence < 64 →
        t = { s with twin := t.twin } ∧ t.twin.held.any (fun y => y.cls == x.2.1 && y.head.sequence == h.sequence) = true ∧
        Sparse.get 0 t.twin.classSeq x.2.1 = Sparse.get 0 s.twin.classSeq x.2.1)) ∧
  (∀ (cls : Fin 6) (s : State), s.twin.linkUp = true → s.keaconHole cls = false → Runs (.keaconReorderTimeout cls) s fun t => t = s) ∧
  (∀ (p : PortId) (h : KeaconHead) (s : State), s.twin.linkUp = true → s.twin.held = [⟨2, h, .coverNotice p⟩] →
    h.sequence % 65536 = (Sparse.get 0 s.twin.classSeq 2 + 1) % 65536 →
    s.regionFenced (p.val / 12) = false → s.nat (0x9100 + p) 0x01 < 96 → s.nat (0x9100 + p) 0x03 ≤ 1 →
    Runs (.keaconReorderTimeout 2) s fun t => t.twin.held = [] ∧ t.nat (0x9100 + p) 0x03 = 3 ∧
      Sparse.get 0 t.twin.classSeq 2 = (Sparse.get 0 s.twin.classSeq 2 + 1 + max 1 h.frames) % 65536) ∧
  (∀ (cls : Fin 6) (s : State), s.twin.linkUp = true → s.keaconHole cls = true → (s.keaconPast cls 1).dueKeacon cls = none →
    Runs (.keaconReorderTimeout cls) s fun t => Sparse.get 0 t.twin.classSeq cls = (Sparse.get 0 s.twin.classSeq cls + 1) % 65536 ∧
      (cls.val = 3 → s.twin.incompatible = false → s.twin.idConflict = false → t.nat 0x9000 0x0C = 1) ∧
      (cls.val = 4 → t.nat 0x9000 0x14 = min (s.nat 0x9000 0x14 + 1) (2 ^ 64 - 1)) ∧
      (cls.val ≠ 3 → cls.val ≠ 4 → t.regs = s.regs) ∧ Only (partRegs ||| partTwin) s t)

/-- Crickets (R353, R354, R366, R368, R369): each is numbered and says the role and the run state, and of what waits the lanes take control frames
before any other class (R351); one received shows the twin's role, state and fences, its gap to the last is counted, its differences of the time
bases join the last 1,024, and a lead notes the shadow's epoch; one that does not check counts as missed; without one in the timeout the twin is
silent, counted, raised, and R360 applies. Rests on choices of the model: log entries 10, 66, 82.
Completes `exec i s = .next t` for i = cricketSend, cricketReceive, cricketTimeout. -/
def Obligations.CricketsCarryTheTwinState : Prop :=
  (∀ (s : State), s.collects = true →
    Runs .cricketSend s fun t => t.twin.cricketNumber = (s.twin.cricketNumber + 1) % 2 ^ 32 ∧
      (s.usableLanes ≠ [] → t.twin.cricketOut = s.cricketBytes false ∧
        t.twin.cricketFrames = s.usableLanes.map (s.cricketFrame false (Sparse.get 0 s.twin.sendSeq 1))) ∧ t.nat 0x9000 0x01 = s.nat 0x9000 0x01 ∧
      (s.twin.linkUp = true → t.twin.coverOut ++ t.twin.coverBuffer = s.twin.coverBuffer ∧
        ∃ n, n ≤ s.twin.controlOut.length ∧ t.twin.controlOut = s.twin.controlOut.drop n ∧
          Sparse.get 0 t.twin.sendSeq 2 % 65536 = (Sparse.get 0 s.twin.sendSeq 2 + n) % 65536 ∧
          (n < s.twin.controlOut.length → t.twin.coverOut = [] ∧ t.twin.mirrorOut = s.twin.mirrorOut ∧
            t.twin.mirrorSent = s.twin.mirrorSent ∧ t.twin.relayWaiting = s.twin.relayWaiting)) ∧
      (s.twin.linkUp = false → t.twin.coverBuffer = s.twin.coverBuffer ∧ t.twin.controlOut = s.twin.controlOut) ∧
      SameEntries (fun i j => 0x9100 ≤ i ∧ i < 0x9160 ∧ j = 0x04) s t) ∧
  (∀ (k : Fin 4) (head : KeaconHead) (payload : List Byte) (received : List Int) (s : State), s.twin.linkUp = true → s.bit 0x9000 0x0B k = true →
    (goodKeacon 1 head = false ∨ payload.length ≠ 112) →
    Runs (.cricketReceive k head payload received) s fun t => t.nat 0x9000 0x12 = min (s.nat 0x9000 0x12 + 1) (2 ^ 64 - 1) ∧
      Sparse.get 0 t.twin.missed k = Sparse.get 0 s.twin.missed k + 1 ∧ t.twin.cricketOk = s.twin.cricketOk ∧ t.twin.lastCricket = s.twin.lastCricket ∧
      SameEntries (fun i j => i = 0x9000 ∧ j = 0x12) s t ∧ Only (partRegs ||| partTwin) s t) ∧
  (∀ (k : Fin 4) (head : KeaconHead) (payload : List Byte) (received : List Int) (s : State), s.twin.linkUp = true → s.bit 0x9000 0x0B k = true →
    goodKeacon 1 head = true → payload.length = 112 →
    Runs (.cricketReceive k head payload received) s fun t => t.twin.cricketOk = true ∧
      Sparse.get none t.twin.lastCricket k = some (numAt payload 0 4) ∧ Sparse.get 0 t.twin.missed k = 0 ∧
      Sparse.get [] t.twin.recentDiffs k = ((items 8).map (fun i => shortDiff (received.getD i 0).toNat (numAt payload (16 + 8 * i) 8)) ::
        Sparse.get [] s.twin.recentDiffs k).take 1024 ∧
      Sparse.get [] t.twin.ownDiff k = meanDiffs (Sparse.get [] t.twin.recentDiffs k) ∧
      (∀ last, Sparse.get none s.twin.lastCricket k = some last → t.nat 0x9000 0x12 =
        min (s.nat 0x9000 0x12 + ((numAt payload 0 4 + 2 ^ 32 - last - 1) % 2 ^ 32 - Sparse.get 0 s.twin.missed k)) (2 ^ 64 - 1)) ∧
      ((byteAt payload 7).testBit 0 = false ∨ s.nat 0x9000 0x01 ≠ 2 → t.twin.twinRole = byteAt payload 4 ∧ t.twin.twinRun = byteAt payload 5 ∧
        t.twin.twinFenced = byteAt payload 6 ∧
        (s.leads = true → t.nat 0x9000 0x0E = numAt payload 8 4) ∧ t.nat 0x9000 0x01 = s.nat 0x9000 0x01) ∧
      ((byteAt payload 7).testBit 0 = true → s.nat 0x9000 0x01 = 2 → s.isUp = true → t.nat 0x9000 0x01 = 1)) ∧
  (∀ (s : State), s.twin.linkUp = true → s.twin.cricketOk = true →
    Runs .cricketTimeout s fun t => t.twin.cricketOk = false ∧ t.bit 0x9000 0x02 10 = true ∧
      (s.usableLanes ≠ [] → t.nat 0x9000 0x12 =
        min (s.nat 0x9000 0x12 + (s.usableLanes.map (fun k => s.nat 0x9000 0x04 / 10 - Sparse.get 0 s.twin.missed k)).sum) (2 ^ 64 - 1)) ∧
      (s.isSafe = false → t.messages.any (fun m => m.source == 1201) = true) ∧
      (s.isUp = true → s.nat 0x9000 0x01 = 2 → s.twin.holdIn = false → t.nat 0x9000 0x01 = 1) ∧
      (s.isUp = true → s.nat 0x9000 0x01 = 2 → s.twin.holdIn = true → t.nat 0x9000 0x01 = 2))

/-- Roles (R355 to R362): no link within the twin wait leaves the device alone; the lead hands over while its twin runs and the mirror is in step; a
shadow that receives the yield leads; TWIN_HOLD_IN is followed, and mismatch with the cricket's flag is raised; shared outputs drive from their
instant on, from the inactive level. Rests on choices of the model: log entry 81.
Completes `exec i s = .next t` for i = twinWaitExpiry, handover, holdoverTakeover, yieldReceive, twinHoldInChange, sharedOutputEnable,
holdMismatch. -/
def Obligations.RolesAreTakenAndYielded : Prop :=
  (∀ (s : State), s.isUp = true → s.nat 0x9000 0x01 = 3 → s.twin.linkUp = false →
    Runs .twinWaitExpiry s fun t => t.nat 0x9000 0x01 = 0 ∧ t.twin.holdOut = true ∧ t.messages.any (fun m => m.source == 1200) = true) ∧
  (∀ (role : Role) (s : State), s.admits role 0x9000 0x03 →
    Runs (.handover role) s fun t =>
      (s.leads = true → s.twin.linkUp = true → s.twin.twinRun = 2 → s.nat 0x9000 0x0C = 2 →
        t.lastStatus = 0 ∧ t.nat 0x9000 0x01 = 2 ∧ t.twin.holdOut = false) ∧
      ((s.leads = false ∨ s.twin.linkUp = false ∨ s.twin.twinRun ≠ 2 ∨ s.nat 0x9000 0x0C ≠ 2) →
        t.lastStatus = 0x09 ∧ Only (partLastStatus ||| partLastDetail) s t)) ∧
  (∀ (s : State), s.isUp = true → s.leads = true → s.twin.linkUp = true → s.flag 0x9000 0x06 = true → s.servo 0 = 4 →
    s.twin.twinFlags.testBit 1 = true →
    Runs .holdoverTakeover s fun t => t.nat 0x9000 0x01 = 2 ∧ t.twin.holdOut = false) ∧
  (∀ (s : State), s.isUp = true → s.nat 0x9000 0x01 = 2 → s.twin.linkUp = true →
    Runs .yieldReceive s fun t => t.nat 0x9000 0x01 = 1 ∧ t.twin.holdOut = true ∧ t.bit 0x9000 0x02 11 = true ∧
      t.nat 0x9000 0x11 = min (s.nat 0x9000 0x11 + 1) (2 ^ 32 - 1)) ∧
  (∀ (asserted : Bool) (s : State),
    Runs (.twinHoldInChange asserted) s fun t => t.twin.holdIn = asserted ∧
      (s.twinSilent = false → t.nat 0x9000 0x01 = s.nat 0x9000 0x01) ∧
      (asserted = false → s.twinSilent = true → s.isUp = true → s.nat 0x9000 0x01 = 2 → t.nat 0x9000 0x01 = 1)) ∧
  (∀ (s : State), s.twin.holdOut = true →
    Runs .sharedOutputEnable s fun t => t.twin = { s.twin with heldLong := true } ∧ Only (partTwin ||| partFireflies ||| partClocks) s t ∧
      (s.drivesShared = true → Only partTwin s t) ∧
      (s.drivesShared = false → t.drivesShared = true → ∀ f, f < 16 → s.sharedFirefly f = true →
        ∀ q ∈ (t.firefly f).pulses, t.pulseTime f q < q.start)) ∧
  (∀ (s : State), s.twin.linkUp = true → s.twin.cricketOk = true → s.twin.holdIn ≠ s.twin.twinFlags.testBit 3 →
    Runs .holdMismatch s fun t => t.bit 0x9000 0x02 14 = true ∧ (s.isSafe = false → t.messages.any (fun m => m.source == 1203) = true) ∧
      SameEntries (fun i j => i = 0x9000 ∧ j = 0x02) s t)

/-- The mirror and covering (R363 to R366, R371 to R374, R379): a shadow takes a commit of the lead that is ahead of its epoch, or tells the lead
that it refuses it and diverges, of which the lead takes note; a resync begins, and ends once the shadow has the lead's epoch. A cover notice
makes the port cover its partner, an uncover notice returns it and is acknowledged; a port that awaits its uncover returns at the acknowledgement
or at the host's command; cover frames are counted on the ports they leave by, and one that waits 1 ms is discarded and counted. Rests on choices
of the model: log entries 64, 66, 67, 111.
Completes `exec i s = .next t` for i = mirrorFrameReceive, resync, resyncComplete, coverNoticeReceive, coverFrameReceive,
coverFrameTimeout, uncoverNoticeReceive, uncoverAckReceive, releaseCover. -/
def Obligations.TwinMirrorsAndCovers : Prop :=
  (∀ (h : KeaconHead) (image : Bool) (epoch : Nat) (values : List (Nat × Nat × List Byte)) (s u : State),
    s.isUp = true → s.twin.linkUp = true → s.nat 0x9000 0x01 = 2 →
    goodKeacon 3 h = true → s.keaconAhead 3 h.sequence = 0 → s.keaconHole 3 = false → u = s.keaconPast 3 (max 1 h.frames) →
    ∀ l, u.mirroredValues (values.map (fun v => OdValue.mk v.1 v.2.1 v.2.2)) = l →
    (s.nat 0x9000 0x0C = 1 ∨ (s.nat 0x9000 0x0C = 2 ∨ s.nat 0x9000 0x0C = 3) ∧
      0 < signed 32 ((epoch % 2 ^ 32 + 2 ^ 32 - s.nat 0x9000 0x0D) % 2 ^ 32)) →
    Runs (.mirrorFrameReceive h (.commit image epoch values)) s fun t =>
      Sparse.get 0 t.twin.classSeq 3 = (Sparse.get 0 s.twin.classSeq 3 + max 1 h.frames) % 65536 ∧
      (∀ c, (if image = true ∧ s.nat 0x9000 0x0C = 1 then u.imageCommits l else [l]) = [c] → u.mustWait c = false →
        (u.judgeNow { who := 253 } c imageCommand = none →
          t.nat 0x9000 0x0D = epoch % 2 ^ 32 ∧ t.twin.controlOut = s.twin.controlOut ++ [(1, epoch % 2 ^ 32)]) ∧
        (u.judgeNow { who := 253 } c imageCommand ≠ none →
          t.nat 0x9000 0x0C = 3 ∧ t.bit 0x9000 0x02 12 = true ∧ t.messages.any (fun m => m.source == 1205) = true ∧
          t.nat 0x9000 0x0F = min (s.nat 0x9000 0x0F + valueItems c) (2 ^ 32 - 1) ∧
          t.twin.controlOut = s.twin.controlOut ++ [(2, epoch % 2 ^ 32)])) ∧
      ((image = false ∨ s.nat 0x9000 0x0C ≠ 1) → u.mustWait l = true → t.regs = s.regs ∧ t.twin.controlOut = s.twin.controlOut ∧
        t.commits.map (fun x => (x.session, x.values, x.epoch)) =
          s.commits.map (fun x => (x.session, x.values, x.epoch)) ++ [(253, l, some (epoch % 2 ^ 32))]) ∧
      (image = true → s.nat 0x9000 0x0C = 1 → u.imageCommits l = [] →
        t.nat 0x9000 0x0D = epoch % 2 ^ 32 ∧ t.twin.controlOut = s.twin.controlOut ++ [(1, epoch % 2 ^ 32)] ∧
        SameEntries (fun i j => i = 0x9000 ∧ j = 0x0D) s t)) ∧
  (∀ (h : KeaconHead) (epoch : Nat) (m : MirrorMessage) (s : State), s.twin.linkUp = true → s.leads = true → goodKeacon m.cls h = true →
    s.keaconAhead m.cls h.sequence = 0 → s.keaconHole m.cls = false →
    (m = .refused epoch ∨ m = .applied epoch) → (s.nat 0x9000 0x0C = 2 ∨ s.nat 0x9000 0x0C = 3) →
    Runs (.mirrorFrameReceive h m) s fun t => t.twin.refusedAway = s.twin.refusedAway.filter (fun e => e != epoch % 2 ^ 32) ++
        (if m = .refused epoch then [epoch % 2 ^ 32] else []) ∧
      t.nat 0x9000 0x0C = (if t.twin.refusedAway.isEmpty then 2 else 3) ∧ SameEntries (fun i j => i = 0x9000 ∧ j = 0x0C) s t ∧
      Only (partRegs ||| partTwin) s t) ∧
  (∀ (role : Role) (s : State), s.admits role 0x9000 0x10 →
    Runs (.resync role) s fun t => t.lastStatus = 0 ∧
      (s.twin.linkUp = true → s.twin.incompatible = false → s.twin.idConflict = false → t.nat 0x9000 0x0C = 1 ∧ t.twin.refusedMirror = [] ∧
        (s.leads = true → t.twin.mirrorOut.map (·.epoch) = [s.nat 0x9000 0x0D])) ∧
      SameEntries (fun i j => i = 0x9000 ∧ j = 0x0C) s t) ∧
  (∀ (s : State), s.nat 0x9000 0x0C = 1 → (s.leads = true → s.nat 0x9000 0x0E = s.nat 0x9000 0x0D ∧ s.twin.mirrorOut = []) →
    Runs .resyncComplete s fun t => t.nat 0x9000 0x0C = (if s.twin.refusedMirror.isEmpty ∧ s.twin.refusedAway.isEmpty then 2 else 3) ∧
      Only partRegs s t ∧ SameEntries (fun i j => i = 0x9000 ∧ j = 0x0C) s t) ∧
  (∀ (h : KeaconHead) (p : PortId) (s : State), s.twin.linkUp = true → goodKeacon 2 h = true → s.keaconAhead 2 h.sequence = 0 → s.keaconHole 2 = false →
    s.regionFenced (p.val / 12) = false → s.nat (0x9100 + p) 0x01 < 96 → s.nat (0x9100 + p) 0x03 ≤ 1 →
    Runs (.coverNoticeReceive h p) s fun t => t.nat (0x9100 + p) 0x03 = 3 ∧ SameEntries (fun i j => i = 0x9100 + p.val ∧ j = 0x03) s t ∧
      t.twin.controlOut = s.twin.controlOut ∧ Only (partRegs ||| partTwin) s t) ∧
  (∀ (h : KeaconHead) (p : PortId) (s : State), s.twin.linkUp = true → goodKeacon 2 h = true → s.keaconAhead 2 h.sequence = 0 → s.keaconHole 2 = false →
    Runs (.uncoverNoticeReceive h p) s fun t => t.nat (0x9100 + p) 0x03 =
        (if s.nat (0x9100 + p) 0x03 = 3 then (if s.flag (0x9100 + p) 0x02 then 1 else 0) else s.nat (0x9100 + p) 0x03) ∧
      t.twin.controlOut = s.twin.controlOut ++ [(5, s.nat (0x9100 + p) 0x01)] ∧ Only (partRegs ||| partTwin) s t) ∧
  (∀ (h : KeaconHead) (p : PortId) (role : Role) (s : State), s.nat (0x9100 + p) 0x03 = 4 →
    (s.twin.linkUp = true → goodKeacon 2 h = true → s.keaconAhead 2 h.sequence = 0 → s.keaconHole 2 = false →
      Runs (.uncoverAckReceive h p) s (fun t => t.nat (0x9100 + p) 0x03 = if s.flag (0x9100 + p) 0x02 then 1 else 0)) ∧
    (s.admits role (0x9100 + p) 0x06 → Runs (.releaseCover role p) s fun t => t.lastStatus = 0 ∧
      t.nat (0x9100 + p) 0x03 = if s.flag (0x9100 + p) 0x02 then 1 else 0)) ∧
  (∀ (s : State) (f : CoverFrame) (rest : List CoverFrame), s.twin.coverBuffer = f :: rest →
    Runs .coverFrameTimeout s fun t => t.twin.coverBuffer = rest ∧ t.nat 0x9000 0x14 = min (s.nat 0x9000 0x14 + 1) (2 ^ 64 - 1) ∧
      SameEntries (fun i j => i = 0x9000 ∧ j = 0x14) s t) ∧
  (∀ (h : KeaconHead) (ports : BitVec 96) (vid priority untag : Nat) (payload : List Byte) (s : State), s.coveringPorts ports.toNat ≠ [] →
    s.twin.linkUp = true → goodKeacon 4 h = true → s.keaconAhead 4 h.sequence = 0 → s.keaconHole 4 = false →
    s.isUp = true → s.regionFenced 0 = false →
    Runs (.coverFrameReceive h ports vid priority untag payload) s fun t =>
      ∀ p, p < 96 → t.nat (0x9100 + p) 0x05 = (if p ∈ s.coveringPorts ports.toNat then min (s.nat (0x9100 + p) 0x05 + 1) (2 ^ 64 - 1)
        else s.nat (0x9100 + p) 0x05))

/-! ## Faults (15_faults.md; 20_pins_and_electrical.md) -/

/-- A detection (R381, R382, R386, R389, R390, R392, R396): it is counted; masked, or of severity 0, it leaves no record; else its record, with its
severity, is the last of the log and the first fault when the register is empty, its fence stands, and the SAFE reaction enters SAFE. Rests on
choices of the model: log entries 32, 63, 73, 99.
Completes `exec i s = .next t` for i = faultDetection. -/
def Obligations.DetectionIsRecordedAndActs : Prop :=
  ∀ (src detail : Nat) (run : StartRun) (s : State), s.collects = true → s.messages = [] → src < 1504 → reservedSource src = false →
    Runs (.faultDetection [⟨src, detail⟩] run) s fun t =>
      Sparse.get 0 t.sourceCounts src = min (Sparse.get 0 s.sourceCounts src + 1) (2 ^ 32 - 1) ∧
      (s.maskedSource src = true → t.log = s.log ∧ t.nat 0xA000 0x0A = min (s.nat 0xA000 0x0A + 1) (2 ^ 64 - 1) ∧ t.fences = s.fences) ∧
      (s.maskedSource src = false → s.setting src / 8192 = 0 → t.log = s.log ∧ t.fences = s.fences ∧ t.regs = s.regs) ∧
      (s.maskedSource src = false → 1 ≤ s.setting src / 8192 → s.isUp = true → (s.setting src).testBit 9 = false → s.causeOf src = none →
        s.log.length < 512 →
        t.log.length = s.log.length + 1 ∧
        t.log.getLast?.map (fun r => (r.source, r.severity, r.level, r.cause)) =
          some (src, s.setting src / 8192, levelOfSource src, 0xFFFF) ∧
        (s.firstFault = none → t.firstFault.map (·.source) = some src) ∧ (s.firstFault.isSome = true → t.firstFault = s.firstFault) ∧
        ((s.setting src).testBit 10 = true → t.isSafe = true) ∧
        ((s.setting src).testBit 10 = false → t.isSafe = false ∧ ∀ k, k ∈ fenceTargets src (s.setting src) → t.hasFence k.1 k.2 = true))

/-- The safety logic and the supplies (R394 to R396; 02 R46; 20 R491, R500): a self-fault enters SAFE with its record kept and no record in the log;
in SAFE no time base runs and the role is left; a supply or a temperature out of range and a stall are raised as their sources. Rests on choices
of the model: log entries 32, 65, 75.
Completes `exec i s = .next t` for i = selfFault, supplyOutOfRange, temperatureThreshold, timingBankSupplyLoss, stallLimitExpiry. -/
def Obligations.SafetyLogicAndSupplies : Prop :=
  (∀ (k : Fin 8) (s : State), s.collects = true →
    Runs (.selfFault k) s fun t => t.isSafe = true ∧ t.safeRecord.map (·.1.source) = some (1504 + k.val) ∧ t.log = s.log ∧
      t.firstFault = s.firstFault ∧ t.errN = true ∧ t.safeN = true ∧ t.messages = [] ∧ t.twin.holdOut = false ∧ t.leads = false ∧
      (∀ n, n < 8 → (t.tb n).running = false) ∧ (∀ f, f < 16 → t.nat (0x6200 + f) 0x11 = 0) ∧ (∀ e, e < 16 → t.nat (0xB000 + e) 0x02 = 0)) ∧
  (∀ (g : RegionId) (d : Fin 4) (s : State), s.collects = true →
    Runs (.supplyOutOfRange (.region g)) s (fun t =>
      t.messages.any (fun m => m.source == 768 + 32 * g.val + 27) =
        (s.domains.testBit g || s.messages.any (fun m => m.source == 768 + 32 * g.val + 27))) ∧
    Runs (.supplyOutOfRange (.portDie d)) s (fun t => s.domains.testBit (2 * d.val + 1) = true →
      t.messages.any (fun m => m.source == 768 + 32 * (2 * d.val + 1) + 27) = true) ∧
    Runs (.supplyOutOfRange .hub) s (fun t => s.domains.testBit 8 = true → t.messages.any (fun m => m.source == 1191) = true) ∧
    Runs (.supplyOutOfRange .safety) s (fun t => t.isSafe = true ∧ t.safeRecord.map (·.1.source) = some 1508)) ∧
  (∀ (d : BankId) (critical : Bool) (s : State), s.collects = true →
    Runs (.temperatureThreshold d critical) s fun t => t.messages.any (fun m => m.source ==
      (if d.val < 4 then 1024 + 16 * d.val + ofBool critical else 1192 + ofBool critical)) = true ∧ Only (partSourceCounts ||| partMessages) s t) ∧
  (∀ (lost : Bool) (s : State), Runs (.timingBankSupplyLoss lost) s fun t =>
    t = { s with start := { s.start with timingBankLost := lost } }) ∧
  (∀ (x : Fin 33) (s : State), s.crossingShut x = false → s.isUp = true →
    Runs (.stallLimitExpiry x) s fun t => (t.crossing x).openPacket = true ∧ t.nat 0xE100 0x04 = stallSource x ∧
      t.messages.any (fun m => m.source == stallSource x && m.detail == x.val) = true ∧ (∀ k, k ≠ x.val → t.crossing k = s.crossing k) ∧
      SameEntries (fun i j => i = 0xE100 ∧ j = 0x04) s t)

/-- Masks, windows, the log and ERR_N (R389, R392, R393, R397): a mask ends unless its fence stands; the window of the act that completes first
closes; the first-fault register is emptied and the records acknowledged at a host's write; after its minimum ERR_N follows what calls for it.
Rests on choices of the model: log entries 63, 73, 118.
Completes `exec i s = .next t` for i = maskEnd, consequenceWindowClose, clearFirstFault, acknowledge, errNMinimumExpiry. -/
def Obligations.FaultStateIsClearedByName : Prop :=
  (∀ (l : FenceLevel) (i : Nat) (s : State),
    Runs (.maskEnd l i) s fun t => Only partMasks s t ∧ t.masks.contains (l, i) = (s.hasFence l i && s.masks.contains (l, i)) ∧
      (s.masks.filter (fun m => m != (l, i)) = t.masks.filter (fun m => m != (l, i)))) ∧
  (∀ (s : State) (w : Act), firstToClose s.windows = some w →
    Runs .consequenceWindowClose s fun t => w ∈ s.windows ∧ (∀ b ∈ s.windows, w.closes ≤ b.closes) ∧
      t = { s with windows := s.windows.erase w }) ∧
  (∀ (role : Role) (s : State), s.admits role 0xA000 0x02 →
    Runs (.clearFirstFault role) s fun t => t.lastStatus = 0 ∧ t.firstFault = none ∧ t.log = s.log ∧
      Only (partFirstFault ||| partLastStatus ||| partLastDetail) s t) ∧
  (∀ (role : Role) (s : State), s.admits role 0xA000 0x06 →
    Runs (.acknowledge role) s fun t => t.lastStatus = 0 ∧ t.log.all (fun r => r.flags.testBit 6) = true ∧
      t.log.map (fun r => (r.source, r.severity, r.time)) = s.log.map (fun r => (r.source, r.severity, r.time)) ∧
      t.firstFault = s.firstFault ∧ (s.errNHold = false → 2 ≤ s.runState → t.errN = false) ∧ (s.errNHold = true → t.errN = (s.errN || t.errNCalled))) ∧
  (∀ (s : State), Runs .errNMinimumExpiry s fun t => t.errN = s.errNCalled ∧ Only (partErrN ||| partErrNHold) s t)

/-- A host's fence and its release (R388, R399, R400): the fence stands, with its record and the run state DEGRADED; a release takes it away, RUN
once none is left; R399's reasons refuse it and A010h.08 shows them. Rests on choices of the model: log entry 32.
Completes `exec i s = .next t` for i = hostFence, fenceRelease. -/
def Obligations.HostFencesAndReleases : Prop :=
  (∀ (role : Role) (l : FenceLevel) (i : Nat) (s : State), s.admits role 0xA010 0x07 → s.isUp = true →
    Runs (.hostFence role l i) s fun t =>
      (levelItems l ≤ i → t.lastStatus = 0x08 ∧ Only (partLastStatus ||| partLastDetail) s t) ∧
      (i < levelItems l → s.hasFence l i = true → t.lastStatus = 0 ∧ Only (partLastStatus ||| partLastDetail) s t) ∧
      (i < levelItems l → s.hasFence l i = false → t.lastStatus = 0 ∧ t.fences = s.fences ++ [(l, i)] ∧ t.runState = 3 ∧
        t.masks.contains (l, i) = true ∧
        (s.messages.filter (ownStall l i) = [] → s.log.length < 512 → t.log.length = s.log.length + 1 ∧
          t.log.getLast?.map (fun r => (r.source, r.severity, r.cause)) = some (hostFenceSource l i, 1, 0xFFFE)))) ∧
  (∀ (role : Role) (l : FenceLevel) (i : Nat) (s : State), s.writeBar role .own 0xA010 0x07 = none → i < levelItems l → s.isUp = true →
    Runs (.fenceRelease role l i true) s fun t =>
      (∀ why, s.releaseBar l i = some why → t.lastStatus = 0x09 ∧ t.nat 0xA010 0x08 = why ∧ t.fences = s.fences ∧
        SameEntries (fun x y => x = 0xA010 ∧ y = 0x08) s t) ∧
      (s.releaseBar l i = none → t.lastStatus = 0 ∧ t.hasFence l i = false ∧ t.fences = s.fences.filter (fun f => f != (l, i)) ∧
        t.runState = (if (s.fences.filter (fun f => f != (l, i))).isEmpty then 2 else 3)))

/-! ## Engines and counters (17_engines_and_counters.md) -/

/-- Engines (R432 to R437): a restart of the watchdog is timed; its expiry and a trap of a running thread are raised, the trap with thread, cause and
address kept; a timer's event joins its thread's queue, lost and counted when it is full; a load that passes starts the threads, a failed one
leaves the engine stopped. Rests on choices of the model: log entries 72, 84.
Completes `exec i s = .next t` for i = watchdogRestart, watchdogExpiry, engineTrap, threadTimerExpiry, imageLoadComplete. -/
def Obligations.EnginesRunTrapAndLoad : Prop :=
  (∀ (e : EngineId) (s : State), (s.nat (0xB000 + e) 0x02 = 2 ∨ s.nat (0xB000 + e) 0x02 = 3) →
    Runs (.watchdogRestart e) s fun t => t.engine e = { s.engine e with watchdogAt := s.now, watchdogRan := 0 } ∧ (∀ k, k ≠ e.val → t.engine k = s.engine k) ∧
      Only partEngines s t) ∧
  (∀ (e : EngineId) (s : State), (s.nat (0xB000 + e) 0x02 = 2 ∨ s.nat (0xB000 + e) 0x02 = 4) → (s.engine e).halted = 0 → s.isSafe = false → s.watchdogDue e = true →
    Runs (.watchdogExpiry e) s fun t => t.messages.any (fun m => m.source == 1104 + 4 * e.val + 2) = true ∧ t.regs = s.regs) ∧
  (∀ (e : EngineId) (thread : Fin 4) (cause address : BitVec 32) (s : State), s.threadRuns e thread = true →
    Runs (.engineTrap e thread cause address) s fun t =>
      t.blob (0xB000 + e) 0x07 = toBytes 1 thread ++ toBytes 3 0 ++ toBytes 4 cause.toNat ++ toBytes 4 address.toNat ∧
      (s.isSafe = false → t.messages.any (fun m => m.source == 1104 + 4 * e.val) = true) ∧ Only (partBlobs ||| partMessages ||| partSourceCounts) s t) ∧
  (∀ (e : EngineId) (thread : Fin 4) (s : State), s.nat (0xB000 + e) 0x02 = 2 →
    Runs (.threadTimerExpiry e thread) s fun t =>
      ((Sparse.get [] (s.engine e).events thread).length < 64 →
        Sparse.get [] (t.engine e).events thread = Sparse.get [] (s.engine e).events thread ++ [(6, 0)] ∧ Only partEngines s t) ∧
      (64 ≤ (Sparse.get [] (s.engine e).events thread).length → t.engines = s.engines ∧
        t.nat (0xB000 + e) 0x05 = min (s.nat (0xB000 + e) 0x05 + 1) (2 ^ 32 - 1))) ∧
  (∀ (e : EngineId) (digestOk : Bool) (s : State), s.start.server = true → (s.nat (0xB000 + e) 0x02 = 1 ∨ s.nat (0xB000 + e) 0x02 = 4) →
    Runs (.imageLoadComplete e digestOk) s fun t =>
      ((digestOk = false ∨ s.imagePassed (s.nat (0xB000 + e) 0x01) = false) → t.nat (0xB000 + e) 0x02 = 0) ∧
      (digestOk = true → s.imagePassed (s.nat (0xB000 + e) 0x01) = true → (t.engine e).running = s.nat (0xB000 + e) 0x01 ∧
        t.nat (0xB000 + e) 0x02 = (if (s.engine e).atEntry then 3 else 2) ∧ ((s.engine e).atEntry = true → (t.engine e).halted = 15)) ∧
      (∀ k, k ≠ e.val → t.engine k = s.engine k))

/-- Performance counters and monitors (R439 to R444, R450): at an epoch boundary whose slots account for each engine's time the counters of engines
and monitors are sampled, and a region's at its next cycle start or at once where none runs; the epoch is counted, and pending settings and
clears take effect; a wrap sets the overflow bit and is counted; a clear waits for the boundary; a mask of ones clears the map; a sample counts
above its threshold, and as a crossing after one below it. Rests on choices of the model: log entries 83, 84, 115.
Completes `exec i s = .next t` for i = epochBoundary, counterWrap, monitorSample, clearCounters, overflowMapClear. -/
def Obligations.CountersSampleAndWrap : Prop :=
  (∀ (elapsed : List (Nat × Nat)) (s : State), s.hubCounts = true → (∀ e, e < 16 → s.accounted elapsed e = true) →
    Runs (.epochBoundary elapsed) s fun t => t.nat 0xB080 0x02 = (s.nat 0xB080 0x02 + 1) % 2 ^ 32 ∧ t.nat 0xB080 0x04 = 0 ∧
      t.clearPending = false ∧ t.monitorPending = 0 ∧ t.epochAt = s.now ∧
      (s.clearPending = true → ∀ e k, e < 16 → 1 ≤ k → k ≤ 18 → Sparse.get 0 t.perf (key (0xB010 + e) k) = 0) ∧
      (s.clearPending = false → elapsed = [] → t.perf = s.perf ∨ s.regionClear ≠ 0) ∧
      (elapsed = [] → ∀ e k, e < 16 → 1 ≤ k → k ≤ 18 → t.nat (0xB010 + e) k = Sparse.get 0 s.perf (key (0xB010 + e) k)) ∧
      (∀ g, g < 8 → ((s.fabricRuns = false ∨ s.regionFenced g = true) → t.regionSample.testBit g = false ∧
          t.nat (0x3810 + g) 1 = Sparse.get 0 s.perf (key (0x3810 + g) 1)) ∧
        (s.fabricRuns = true → s.regionFenced g = false → t.regionSample.testBit g = true ∧
          t.nat (0x3810 + g) 1 = s.nat (0x3810 + g) 1 ∧ (s.clearPending = true → t.regionClear.testBit g = true))) ∧
      (∀ m, m < 16 → s.monitorPending.testBit m = true → Sparse.get {} t.monitors m = s.monitorSet m ∧ t.monitorFirst.testBit m = true)) ∧
  (∀ (bit : Fin 672) (s : State), s.hubCounts = true → counterKeys.contains (counterKey bit) = true → Sparse.get 0 s.perf (counterKey bit) = 2 ^ 48 - 1 →
    Runs (.counterWrap bit) s fun t => Sparse.get 0 t.perf (counterKey bit) = 0 ∧ t.overflow.testBit (counterBit (counterKey bit)) = true ∧
      t.nat 0xB080 0x08 = min (s.nat 0xB080 0x08 + 1) (2 ^ 32 - 1)) ∧
  (∀ (role : Role) (s : State), s.admits role 0xB080 0x07 →
    Runs (.clearCounters role) s fun t => t.lastStatus = 0 ∧ t.clearPending = true ∧ t.nat 0xB080 0x04 = 1 ∧ t.perf = s.perf) ∧
  (∀ (role : Role) (mask : BitVec 768) (s : State), s.admits role 0xB080 0x06 →
    Runs (.overflowMapClear role mask []) s fun t => t.lastStatus = 0 ∧
      (∀ b, b < 768 → t.overflow.testBit b = (s.overflow.testBit b && !mask.toNat.testBit b)) ∧
      Only (partOverflow ||| partLastStatus ||| partLastDetail) s t) ∧
  (∀ (m : MonitorId) (s : State), s.hubCounts = true → (Sparse.get {} s.monitors m).source ≠ 0 →
    Runs (.monitorSample m) s fun t => t.monitorFirst.testBit m = false ∧
      t.nat (0xE000 + m) 0x08 = min (s.monitorValue (Sparse.get {} s.monitors m)) (2 ^ 32 - 1) ∧
      (s.monitorValue (Sparse.get {} s.monitors m) < (Sparse.get {} s.monitors m).threshold → t.flag (0xE000 + m) 0x07 = false ∧ t.perf = s.perf) ∧
      ((Sparse.get {} s.monitors m).threshold ≤ s.monitorValue (Sparse.get {} s.monitors m) → t.flag (0xE000 + m) 0x07 = true ∧
        Sparse.get 0 t.perf (key (0xE000 + m) 5) = (Sparse.get 0 s.perf (key (0xE000 + m) 5) + 1) % 2 ^ 48 ∧
        Sparse.get 0 t.perf (key (0xE000 + m) 6) = (if s.flag (0xE000 + m) 0x07 = true ∨ s.monitorFirst.testBit m = true then
          Sparse.get 0 s.perf (key (0xE000 + m) 6) else (Sparse.get 0 s.perf (key (0xE000 + m) 6) + 1) % 2 ^ 48)))

/-! ## Security (18_security_debug_states.md) -/

/-- Lifecycle commands and floors (R452 to R454, R459): an accepted command begins its burn, in DEPLOYED only once a second session with another
credential gives it; a refused one changes nothing but the answer; the burn's end blows the group and starts cold; a floor rises to the running
version and never falls. Rests on choices of the model: log entries 6, 85, 86.
Completes `exec i s = .next t` for i = toProvisioned, toDeployed, toDecommissioned, revokeOwnerSlot, pendingCommandLapse,
fuseBurnComplete, raiseBaseFloor, raiseOwnerFloor. -/
def Obligations.LifecycleAdvancesByBurning : Prop :=
  (∀ (sn : SessionId) (conf : BitVec 32) (d0 d1 : List Byte) (s : State),
    (∀ a, s.lifecycleBar sn 1 conf.toNat (digestOf d0) = some a →
      Runs (.toProvisioned sn conf d0 d1) s fun t => t.lastStatus = a.1 ∧ Only (partLastStatus ||| partLastDetail) s t) ∧
    (s.lifecycleBar sn 1 conf.toNat (digestOf d0) = none →
      Runs (.toProvisioned sn conf d0 d1) s fun t => t.lastStatus = 0 ∧
        t.security.burning = some (1, digestOf d0, if (s.blob 0xC010 0x02).isEmpty then [] else digestOf d1) ∧ t.security.groups = s.security.groups) ∧
    (s.lifecycleBar sn 2 conf.toNat [] = none →
      Runs (.toDeployed sn conf) s fun t => t.lastStatus = 0 ∧ t.security.burning = some (2, [], [])) ∧
    (s.lifecycleBar sn 3 conf.toNat [] = none → s.lifecycle ≠ 2 →
      Runs (.toDecommissioned sn conf) s fun t => t.lastStatus = 0 ∧ t.security.burning = some (3, [], [])) ∧
    (s.lifecycleBar sn 4 conf.toNat [] = none → s.lifecycle ≠ 2 →
      Runs (.revokeOwnerSlot sn conf) s fun t => t.lastStatus = 0 ∧ t.security.burning = some (4, [], []))) ∧
  (∀ (sn : SessionId) (conf : BitVec 32) (s : State), s.lifecycleBar sn 4 conf.toNat [] = none → s.lifecycle = 2 →
    Runs (.revokeOwnerSlot sn conf) s fun t =>
      (s.security.pendingBy = none → t.lastStatus = 0 ∧ t.security.burning = s.security.burning ∧ t.nat 0xC000 0x04 = 4 ∧
        t.security.pendingBy = some (4, (s.session sn).credential)) ∧
      (∀ k, s.security.pendingBy = some (4, k) → (k ≠ (s.session sn).credential → t.lastStatus = 0 ∧ t.security.burning = some (4, [], [])) ∧
        (k = (s.session sn).credential → t.lastStatus = 0x09 ∧ t.security = s.security))) ∧
  (∀ (s : State), Runs .pendingCommandLapse s fun t => t.security.pendingBy = none ∧ t.nat 0xC000 0x04 = 0 ∧
    SameEntries (fun i j => i = 0xC000 ∧ j = 0x04) s t ∧ Only (partRegs ||| partSecurity) s t) ∧
  (∀ (run : StartRun) (s : State) (b : Nat × List Byte × List Byte), s.security.burning = some b → s.security.groups.length = 3 →
    s.security.groups.all (fun n => decide (n ≤ 8)) = true →
    Runs (.fuseBurnComplete run) s fun t => t.security.burning = none ∧ t.nat 0xD000 0x02 = 5 ∧
      (b.1 = 1 ∨ b.1 = 2 → t.security.groups.getD (b.1 - 1) 0 = 8) ∧ (b.1 = 3 → t.security.groups = [8, 8, 8]) ∧
      (b.1 = 4 → t.security.slot0State = 3)) ∧
  (∀ (role : Role) (s : State), s.admits role 0xC030 0x05 →
    Runs (.raiseBaseFloor role) s (fun t => t.lastStatus = 0 ∧ t.nat 0xC030 0x03 = max (s.nat 0xC030 0x03) (min 64 (s.nat 0xC030 0x02)) ∧
      SameEntries (fun i j => i = 0xC030 ∧ j = 0x03) s t) ∧
    Runs (.raiseOwnerFloor role) s (fun t => (s.ownerImage = none → t.lastStatus = 0x09 ∧ Only (partLastStatus ||| partLastDetail) s t) ∧
      (∀ i, s.ownerImage = some i → t.lastStatus = 0 ∧
        t.nat 0xC030 0x04 = max (s.nat 0xC030 0x04) (min 64 (numAt (s.blob 0xC030 0x07) (4 * i) 2)))))

/-- Debug grants and the probe (R465 to R469): the first read of the challenge is noted; a response that verifies and is asked for grants
AUTHENTICATED for the grant time with a new challenge; a grant ends at its time, at a host's command and with OPEN's closing; the probe acts on
engines, whose shared memory it writes for all of them, only with intrusive access, and reads outside CLOSED, changing nothing. Rests on choices
of the model: log entries 6, 87, 107, 115.
Completes `exec i s = .next t` for i = debugChallengeRead, debugResponse, challengeLapse, grantExpiry, endGrant, closeOpen, probeHalt,
probeIntrusiveAccess, probeNonintrusiveAccess. -/
def Obligations.DebugGrantsRunAndEnd : Prop :=
  (∀ (sn : SessionId) (s : State), s.sessionOpen sn = true → s.debugServed sn = true →
    Runs (.debugChallengeRead sn) s fun t => t.lastStatus = 0 ∧ t.security = { s.security with challengeRead := true } ∧
      Only (partSecurity ||| partLastStatus ||| partLastDetail) s t) ∧
  (∀ (sn : SessionId) (slot : Nat) (verifies : Bool) (s : State), s.sessionOpen sn = true → s.debugServed sn = true →
    roleCovers (s.sessionRole sn) .own = true → s.security.challengeRead = true → s.lifecycle = 1 → s.debugState ≠ 2 →
    (s.credentialFlags slot).testBit 0 = true →
    Runs (.debugResponse sn slot verifies) s fun t =>
      (verifies = false → t.lastStatus = 0x0F ∧ Only (partLastStatus ||| partLastDetail) s t) ∧
      (verifies = true → t.lastStatus = 0 ∧ t.nat 0xC040 0x01 = 1 ∧ t.security.grantBy = [slot] ∧
        t.security.grantUntil = s.now + s.nat 0xC040 0x04 * 1000000000 ∧ t.security.challenge = s.security.challenge + 1 ∧
        t.security.challengeRead = false)) ∧
  (∀ (s : State), s.security.challengeRead = true →
    Runs .challengeLapse s fun t => t.security = { s.security with challenge := s.security.challenge + 1, challengeRead := false, heldResponse := none } ∧
      t.nat 0xC040 0x09 = 0 ∧ SameEntries (fun i j => i = 0xC040 ∧ j = 0x09) s t) ∧
  (∀ (s : State), s.nat 0xC040 0x01 = 1 →
    Runs .grantExpiry s fun t => t.nat 0xC040 0x01 = 0 ∧ t.security.grantBy = [] ∧ ∀ e, e < 16 → (t.engine e).halted = 0) ∧
  (∀ (role : Role) (s : State), s.debugServed 0 = true → roleCovers role .own = true →
    Runs (.endGrant role) s (fun t => t.lastStatus = 0 ∧ (s.nat 0xC040 0x01 = 1 → t.nat 0xC040 0x01 = 0)) ∧
    Runs (.closeOpen role) s (fun t => t.lastStatus = 0 ∧ (s.nat 0xC040 0x01 = 1 ∨ s.nat 0xC040 0x01 = 2 → t.nat 0xC040 0x01 = 0 ∧
      ∀ e, e < 16 → (t.engine e).halted = 0))) ∧
  (∀ (e : EngineId) (threads : BitVec 4) (halt : Bool) (s : State), s.intrusive = true → (s.nat (0xB000 + e) 0x02 = 2 ∨ s.nat (0xB000 + e) 0x02 = 3) →
    Runs (.probeHalt e threads halt) s fun t => t.nat (0xB000 + e) 0x02 = (if (t.engine e).halted = 0 then 2 else 3) ∧
      (∀ b, b < 4 → (t.engine e).halted.testBit b = (if halt then (s.engine e).halted.testBit b || threads.getLsbD b
        else (s.engine e).halted.testBit b && !threads.getLsbD b)) ∧ (∀ k, k ≠ e.val → t.engine k = s.engine k)) ∧
  (∀ (e : EngineId) (address value : BitVec 32) (s : State), s.intrusive = true →
    Runs (.probeIntrusiveAccess e address value .local_) s (fun t => (address.toNat < 524288 →
      Sparse.get 0 (t.engine e).memory address.toNat = value.toNat) ∧ (524288 ≤ address.toNat → t = s) ∧ Only partEngines s t) ∧
    Runs (.probeIntrusiveAccess e address value .register) s (fun t =>
      Sparse.get 0 (t.engine e).registers address.toNat = value.toNat ∧ (t.engine e).memory = (s.engine e).memory ∧ Only partEngines s t) ∧
    Runs (.probeIntrusiveAccess e address value .shared) s (fun t => (sharedReached address.toNat = true →
      Sparse.get 0 t.shared address.toNat = value.toNat) ∧ (sharedReached address.toNat = false → t = s) ∧ Only partShared s t) ∧
    Runs (.probeIntrusiveAccess e address value .breakpoint) s (fun t => (t.engine e).breakpoints.contains address.toNat = true ∧ Only partEngines s t) ∧
    Runs (.probeIntrusiveAccess e address value .certificate) s (fun t => t = s) ∧ Runs (.probeIntrusiveAccess e address value .fuses) s (fun t => t = s)) ∧
  (∀ (e : EngineId) (address value : BitVec 32) (target : ProbeTarget) (s : State),
    (s.debugState = 0 → Runs (.probeNonintrusiveAccess e address target) s fun t => t = s) ∧
    (s.debugState ≠ 0 → Runs (.probeNonintrusiveAccess e address target) s fun t => Only (partLastStatus ||| partLastDetail) s t ∧ t.lastStatus = 0 ∧
      (target = .breakpoint → t.lastDetail = ofBool ((s.engine e).breakpoints.contains address.toNat)) ∧
      (target = .local_ → (s.engine e).halted = 15 → ∀ v, (address.toNat, v) ∈ (s.engine e).memory → Sparse.rising (s.engine e).memory = true → t.lastDetail = v) ∧
      (target = .certificate → t.lastDetail = ofBytes ((s.blob 0xC050 0x01).drop address.toNat |>.take 4))) ∧
    (s.intrusive = false → Runs (.probeIntrusiveAccess e address value target) s fun t => t = s))

/-! ## Start-up (19_start_up.md) -/

/-- What starts the device (R472, R475, R477, R484; 15 R391): power and the release of RESET_N begin cold starts of types 0 and 1 with the cold count
at 0, and an unhindered one ends in RUN with the time bases running; in reset and without power nothing runs, the log outliving only the first; a
host's command begins a warm start of type 3, and is refused outside RUN and DEGRADED. Rests on choices of the model: log entries 76, 77.
Completes `exec i s = .next t` for i = powerUp, resetNAssert, resetNRelease, startCommand, powerRemoval. -/
def Obligations.StartsBeginByTheirTypes : Prop :=
  (∀ (run : StartRun) (s : State), s.start.powered = false →
    Runs (.powerUp run) s fun t => t.nat 0xD000 0x02 = 0 ∧ t.start.powered = true ∧ t.start.inReset = false ∧ t.sessions = [] ∧
      (run.reached < 2 → t.log = s.log ∧ t.nat 0xD000 0x04 = 0)) ∧
  (∀ (run : StartRun) (s : State), s.start.powered = false → s.nat 0xC030 0x03 ≤ run.baseSecurity → s.start.imageA = none → s.start.imageB = none →
    Runs (.powerUp { run with reached := 10, hubPll := true, bistHub := none, bistRegions := [], baseSigned := true, suppliesUp := 255 }) s fun t =>
      t.runState = 2 ∧ t.start.server = true ∧ t.start.fabric = true ∧ t.start.run = none ∧ t.nat 0xD000 0x0A = 0 ∧
      t.fences = [] ∧ ∀ k, k < 8 → (t.tb k).running = true ∧ (t.tb k).count = 0 ∧ t.servo k = 0) ∧
  (∀ (s : State), s.start.powered = true →
    Runs .resetNAssert s fun t => t.start.inReset = true ∧ t.runState = 0 ∧ t.start.run = none ∧ t.log = s.log ∧ t.firstFault = s.firstFault ∧
      t.nat 0xD000 0x03 = s.nat 0xD000 0x03 ∧ t.nat 0xD000 0x04 = s.nat 0xD000 0x04 ∧ t.fences = [] ∧ t.sessions = [] ∧
      ∀ k, k < 8 → (t.tb k).running = false) ∧
  (∀ (run : StartRun) (s : State), s.start.inReset = true →
    Runs (.resetNRelease run) s fun t => t.nat 0xD000 0x02 = 1 ∧ t.start.inReset = false) ∧
  (∀ (role : Role) (run : StartRun) (s : State), s.admits role 0xD000 0x01 →
    Runs (.startCommand role run) s fun t =>
      (s.isUp = false → t.lastStatus = 0x14 ∧ Only (partLastStatus ||| partLastDetail) s t) ∧
      (s.isUp = true → s.start.settling = false → t.nat 0xD000 0x02 = 3 ∧
        (run.reached < 2 → t.lastStatus = 0 ∧ t.runState = 1 ∧ t.nat 0xD000 0x0A = 2 ∧ t.start.server = false ∧ t.commits = [] ∧
          ∀ n, n < 8 → t.nat (0xF000 + n) 0x01 = 0))) ∧
  (∀ (s : State), Runs .powerRemoval s fun t => t.start.powered = false ∧ t.log = [] ∧ t.firstFault = none ∧ t.safeRecord = none ∧
    t.nat 0xD000 0x03 = 0 ∧ t.nat 0xD000 0x04 = 0 ∧ t.runState = 0 ∧ t.pending = s.pending ∧ t.now = s.now)

/-- How starts fail, hold and settle (R473, R477 to R480, R482): a step past its limit fails the start, counted for its kind; 10 ms later the next
begins: warm before the third failure, then cold, then SAFE; the hold ends by command or limit; after the settle time both counts are 0; an image
is saved beside the newest, which a failed save leaves as it is, and images are erased; a region whose supply stays out of range is fenced, or
the device enters SAFE where the source's reaction says so. Rests on choices of the model: log entries 77, 79.
Completes `exec i s = .next t` for i = regionSupplyTimeout, startStepTimeout, startRetry, settleTimeExpiry, releaseHold, holdLimitExpiry,
imageSave, imageErase. -/
def Obligations.StartsFailRetryAndSettle : Prop :=
  (∀ (s : State), s.startRuns = true → s.start.holding = false →
    Runs .startStepTimeout s fun t => t.start.run = none ∧ t.start.retry = some (s.nat 0xD000 0x02) ∧ t.nat 0xD000 0x0A = 0 ∧
      byteAt (t.blob 0xD000 0x06) 2 = 1 ∧
      (warmType (s.nat 0xD000 0x02) = true → t.nat 0xD000 0x03 = min 3 (s.nat 0xD000 0x03 + 1) ∧ t.nat 0xD000 0x04 = s.nat 0xD000 0x04) ∧
      (warmType (s.nat 0xD000 0x02) = false → t.nat 0xD000 0x04 = min 3 (s.nat 0xD000 0x04 + 1) ∧ t.nat 0xD000 0x03 = s.nat 0xD000 0x03)) ∧
  (∀ (run : StartRun) (s : State) (k : Nat), s.start.retry = some k → s.isSafe = false → run.reached < 2 →
    Runs (.startRetry run) s fun t => t.start.retry = none ∧
      (warmType k = true → s.nat 0xD000 0x03 < 3 → t.nat 0xD000 0x02 = 2 ∧ t.runState = 1) ∧
      (warmType k = true → 3 ≤ s.nat 0xD000 0x03 → t.nat 0xD000 0x02 = 4 ∧ t.nat 0xD000 0x03 = 0 ∧ t.runState = 0) ∧
      (warmType k = false → s.nat 0xD000 0x04 < 3 → t.nat 0xD000 0x02 = k ∧ t.runState = 0) ∧
      (warmType k = false → 3 ≤ s.nat 0xD000 0x04 → t.isSafe = true)) ∧
  (∀ (g : RegionId) (run : StartRun) (s : State) (src : Nat), s.collects = true → src = 768 + 32 * g.val + 27 → s.messages = [] →
    Runs (.regionSupplyTimeout g run) s fun t =>
      (s.isSafe = false → (s.setting src).testBit 10 = false → t.hasFence .region g = true) ∧
      (s.isSafe = false → (s.setting src).testBit 10 = true → s.maskedSource src = false → 1 ≤ s.setting src / 8192 → s.causeOf src = none →
        t.isSafe = true) ∧
      (s.isSafe = true → t.isSafe = true)) ∧
  (∀ (s : State), s.isUp = true → s.start.settling = true →
    Runs .settleTimeExpiry s fun t => t.start.settling = false ∧ t.nat 0xD000 0x03 = 0 ∧ t.nat 0xD000 0x04 = 0 ∧
      SameEntries (fun i j => i = 0xD000 ∧ (j = 0x03 ∨ j = 0x04)) s t ∧ Only (partRegs ||| partStart) s t) ∧
  (∀ (role : Role) (s : State), s.start.holding = true → s.start.run.isSome = true →
    (s.admits role 0xD000 0x09 → Runs (.releaseHold role) s fun t => t.lastStatus = 0 ∧ t.isUp = true ∧ t.start.holding = false ∧ t.start.run = none) ∧
    (s.commits = [] → Runs .holdLimitExpiry s fun t => t.isUp = true ∧ t.start.holding = false ∧ t.start.run = none) ∧
    (s.commits ≠ [] → Runs .holdLimitExpiry s fun t => t = { s with start := { s.start with holdOver := true } })) ∧
  (∀ (role : Role) (s : State), s.admits role 0xD000 0x10 →
    Runs (.imageSave role true) s (fun t => t.lastStatus = 0 ∧ t.nat 0xD000 0x11 = 4 ∧
      t.nat 0xD000 0x12 = (((s.newestImage true true).map (·.sequence)).getD 0 + 1) % 2 ^ 32 ∧
      (∀ x, s.newestImage true true = some x → s.start.imageA = some x →
        t.start.imageB.map (·.sequence) = some (t.nat 0xD000 0x12) ∧ t.start.imageA = s.start.imageA) ∧
      ((∀ x, s.newestImage true true = some x → s.start.imageA ≠ some x) →
        t.start.imageA.map (·.sequence) = some (t.nat 0xD000 0x12) ∧ t.start.imageB = s.start.imageB)) ∧
    Runs (.imageSave role false) s (fun t => t.lastStatus = 0 ∧ t.nat 0xD000 0x11 = 5 ∧ t.nat 0xD000 0x12 = s.nat 0xD000 0x12 ∧
      (t.start.imageA = s.start.imageA ∨ t.start.imageB = s.start.imageB)) ∧
    Runs (.imageErase role) s (fun t => t.lastStatus = 0 ∧ t.start.imageA = none ∧ t.start.imageB = none ∧ t.nat 0xD000 0x12 = 0))

/-! ## The server and the hub channels (16_object_dictionary.md; 02_levels_and_islands.md) -/

/-- Sessions (R409, R411, R420; 18 R461, R462): an open request without a credential opens at once where it may, one with a credential is confirmed
by the second request; a request keeps a session, a close, the timeout and a lost transport end it; a snapshot lapses; a relayed request waits
for the twin link unchanged, and the twin's response goes where the request came from. Rests on choices of the model: log entries 6, 88, 92, 126.
Completes `exec i s = .next t` for i = openRequest, openConfirm, close, keepalive, sessionTimeout, transportLost, snapshotTimeout,
relayedRequest. -/
def Obligations.SessionsOpenAndClose : Prop :=
  (∀ (transport : Fin 7) (role : Role) (credential : Nat) (peer : List Byte) (arrival : Arrival) (s : State) (n : Nat),
    s.freeSession transport = some n →
    s.reaches transport = true → s.arrives { transport := transport, peer := peer, arrival := arrival } = true → s.isSafe = false → (transport.val = 6 → s.twin.linkUp = true) →
    Runs (.openRequest transport role credential peer arrival) s fun t =>
      (credential = 255 → s.anonymousOk n role = true → t.lastStatus = 0 ∧ t.nat (0xF000 + n) 0x01 = 2 ∧ t.nat (0xF000 + n) 0x03 = role.code ∧
        t.nat (0xF000 + n) 0x02 = transport) ∧
      (credential = 255 → s.anonymousOk n role = false → t.lastStatus = 0x04 ∧ t.regs = s.regs) ∧
      (credential < 16 → s.blob 0xC020 (credential + 1) ≠ [] → s.lifecycle = 1 ∨ s.lifecycle = 2 → t.lastStatus = 0 ∧
        t.nat (0xF000 + n) 0x01 = 1 ∧ t.nat (0xF000 + n) 0x03 = 0 ∧ (t.session n).credential = credential)) ∧
  (∀ (sn : SessionId) (signatureOk : Bool) (arrival : Arrival) (s : State), s.start.server = true →
    s.arrives (s.routeOf sn arrival) = true → s.isSafe = false → s.nat (0xF000 + sn) 0x01 = 1 →
    Runs (.openConfirm sn signatureOk arrival) s fun t =>
      (signatureOk = false → t.lastStatus = 0x0F ∧ t.nat (0xF000 + sn) 0x01 = 1) ∧
      (signatureOk = true → (s.session sn).asked ≤ byteAt (s.blob 0xC020 ((s.session sn).credential + 1)) 96 →
        (byteAt (s.blob 0xC020 ((s.session sn).credential + 1)) 98).testBit (s.nat (0xF000 + sn) 0x02 - 1) = true →
        t.lastStatus = 0 ∧ t.nat (0xF000 + sn) 0x01 = 2 ∧ t.nat (0xF000 + sn) 0x03 = (s.session sn).asked ∧ (t.session sn).keyed = true)) ∧
  (∀ (rq : Request) (s : State), s.acts rq →
    Runs (.keepalive rq) s (fun t => t.lastStatus = 0 ∧ t.nat (0xF000 + rq.session) 0x01 = 2 ∧ (t.session rq.session).lastRequest = s.now ∧
      t.nat (0xF000 + rq.session) 0x07 = min (s.nat (0xF000 + rq.session) 0x07 + 1) (2 ^ 32 - 1) ∧
      SameEntries (fun i j => i = 0xF000 + rq.session.val ∧ j = 0x07) s t ∧
      Only (partRegs ||| partSessions ||| partOutgoing ||| partLastStatus ||| partLastDetail) s t) ∧
    Runs (.close rq) s (fun t => t.lastStatus = 0 ∧ t.nat (0xF000 + rq.session) 0x01 = 0 ∧ (t.session rq.session).claims = [] ∧ (t.session rq.session).held = [])) ∧
  (∀ (sn : SessionId) (s : State), s.nat (0xF000 + sn) 0x01 ≠ 0 → (s.session sn).lastRequest + s.nat 0xF010 0x01 * 1000000000 ≤ s.now →
    Runs (.sessionTimeout sn) s fun t => t.nat (0xF000 + sn) 0x01 = 0 ∧ (t.session sn).claims = [] ∧ (t.session sn).held = [] ∧
      ∀ n, n < 8 → n ≠ sn.val → t.nat (0xF000 + n) 0x01 = s.nat (0xF000 + n) 0x01 ∧ t.session n = s.session n) ∧
  (∀ (transport : Fin 7) (s : State), Runs (.transportLost transport) s fun t => ∀ n, n < 8 → t.nat (0xF000 + n) 0x01 =
    (if (transport.val = 2 ∨ transport.val = 3 ∨ (transport.val = 6 ∧ s.twin.linkUp = false)) ∧ s.nat (0xF000 + n) 0x02 = transport.val then 0 else s.nat (0xF000 + n) 0x01)) ∧
  (∀ (sn : SessionId) (s : State), Runs (.snapshotTimeout sn) s fun t => t.session sn = { s.session sn with snapshot := none } ∧
    (∀ n, n ≠ sn.val → t.session n = s.session n) ∧ Only partSessions s t) ∧
  (∀ (route : Route) (message : List Byte) (response : Option (List Byte)) (s : State), s.reaches route.transport = true →
    s.arrives route = true → s.isSafe = false →
    Runs (.relayedRequest route message response) s fun t =>
      (s.twin.linkUp = true → t.lastStatus = 0 ∧ t.twin = { s.twin with relayWaiting := s.twin.relayWaiting ++ [message] } ∧
        (response = none → t.sessions = s.sessions ∧ t.outgoing = s.outgoing) ∧
        (∀ m, response = some m → (route.transport = 1 → (t.session 0).outbox = (s.session 0).outbox ++ [m]) ∧
          (2 ≤ route.transport → t.outgoing = s.outgoing ++ [s.carriage route m]))) ∧
      (s.twin.linkUp = false → t.lastStatus = 0x10 ∧ t.twin = s.twin) ∧
      Only (partTwin ||| partSessions ||| partOutgoing ||| partLastStatus ||| partLastDetail) s t)

/-- Requests (R406, R408, R414 to R420, R421; 09 R251; 15 R391): a read answers with the entry's bytes, 01h or 02h where there is none; a write needs
role and claim, and is held in its group; abort, claim and release act on what the session holds; reading records consumes them. Rests on choices
of the model: log entries 30, 34, 89, 90.
Completes `exec i s = .next t` for i = captureRingRead, faultRecordsRead, read, writeAndHold, abortGroup, claim, release. -/
def Obligations.RequestsReadHoldAndClaim : Prop :=
  (∀ (rq : Request) (index : BitVec 16) (sub : BitVec 8) (s : State), s.acts rq → index.toNat < 0xF000 → sub ≠ 0 →
    Runs (.read rq index sub 0) s fun t =>
      ((findObject index.toNat).isNone = true → t.lastStatus = 0x01) ∧
      ((findObject index.toNat).isSome = true → (findEntry index.toNat sub.toNat).isNone = true → t.lastStatus = 0x02) ∧
      (∀ e, findEntry index.toNat sub.toNat = some e → (e.acc = .wo → t.lastStatus = 0x03) ∧
        (e.acc ≠ .wo → e.ty ≠ .domain → t.lastStatus = 0 ∧
          (t.session rq.session).responses.head?.map (fun r => (r.rid, r.status, r.data)) = some (rq.rid, 0, s.readBytes e index.toNat sub.toNat)))) ∧
  (∀ (rq : Request) (g : Fin 4) (index : BitVec 16) (sub : BitVec 8) (bytes : List Byte) (s : State), s.acts rq →
    (∀ e, findEntry index.toNat sub.toNat = some e → e.ty ≠ .domain ∧ (lengthFault e index.toNat sub.toNat bytes.length).isNone = true) →
    (s.session rq.session).waiting = none → s.heldIn rq.session g index.toNat sub.toNat = none →
    (s.session rq.session).staged + bytes.length ≤ 2097152 → s.stagedAll + bytes.length ≤ 4194304 →
    Runs (.writeAndHold rq g index sub 0 true true bytes true) s fun t =>
      (∀ r, s.writeFault rq.session index.toNat sub.toNat = some r → t.lastStatus = r.status ∧ (t.session rq.session).held = (s.session rq.session).held) ∧
      (s.writeFault rq.session index.toNat sub.toNat = none → t.lastStatus = 0 ∧
        (g.val, OdValue.mk index.toNat sub.toNat bytes) ∈ (t.session rq.session).held)) ∧
  (∀ (rq : Request) (g : Fin 4) (s : State), s.acts rq → (s.session rq.session).waiting ≠ some g.val →
    Runs (.abortGroup rq g) s fun t => t.lastStatus = 0 ∧ (t.session rq.session).held = (s.session rq.session).held.filter (fun h => h.1 != g.val)) ∧
  (∀ (rq : Request) (first last : BitVec 16) (s : State), s.acts rq → roleCovers (s.sessionRole rq.session) .operate = true → first ≤ last →
    Runs (.claim rq first last) s fun t =>
      ((items 8).all (fun m => m == rq.session.val || (s.session m).claims.all (fun c => decide (last.toNat < c.1 ∨ c.2 < first.toNat))) = true →
        (s.session rq.session).claims.length < 8 →
        t.lastStatus = 0 ∧ (t.session rq.session).claims = (s.session rq.session).claims ++ [(first.toNat, last.toNat)]) ∧
      ((items 8).all (fun m => m == rq.session.val || (s.session m).claims.all (fun c => decide (last.toNat < c.1 ∨ c.2 < first.toNat))) = false →
        t.lastStatus = 0x06 ∧ (t.session rq.session).claims = (s.session rq.session).claims)) ∧
  (∀ (rq : Request) (first last : BitVec 16) (s : State), s.acts rq → (s.session rq.session).claims.length ≤ 4 →
    Runs (.release rq first last) s fun t => t.lastStatus = 0 ∧
      (last < first → (t.session rq.session).claims = (s.session rq.session).claims) ∧
      (first ≤ last → ∀ c, c ∈ (t.session rq.session).claims → c.2 < first.toNat ∨ last.toNat < c.1)) ∧
  (∀ (rq : Request) (s : State), s.acts rq → (s.nat (0xF000 + rq.session) 0x02 = 2 ∨ s.nat (0xF000 + rq.session) 0x02 = 3 → False) →
    Runs (.faultRecordsRead rq) s (fun t => t.lastStatus = 0 ∧ t.logRead = s.logRead + min 64 (s.log.length - s.logRead) ∧ t.log = s.log ∧
      (t.session rq.session).responses.head?.map (·.data) = some (((s.log.drop s.logRead).take 64).flatMap Record.bytes)) ∧
    Runs (.captureRingRead rq) s (fun t => t.lastStatus = 0 ∧ t.rewind = 0 ∧
      t.ring = s.ring.drop (if s.rewind = 0 then 64 else 63) ∧
      (s.rewind = 0 → (t.session rq.session).responses.head?.map (·.data) = some ((s.ringBytes.take 64).flatten))))

/-- Commits and the SPI target (R412, R417, R418, R425): a write-and-commit and a group's commit wait with their session for their turn, behind those
of its cycle from lower sessions, and one that is refused answers; at its commit point the values are in force and the sequence is counted; the
firmware writes what is its own, and a thread that writes another entry traps; the target hands out responses, behind their length, before
notices. Rests on choices of the model: log entries 25, 30, 31, 91, 115.
Completes `exec i s = .next t` for i = writeAndCommit, commit, commitPoint, registerWrite, spiSendRequest, spiTakeResponse, spiPoll,
spiWordRead, dictionaryPortWrite. -/
def Obligations.CommitsTakeTheirTurn : Prop :=
  (∀ (rq : Request) (g : Fin 4) (s : State), s.acts rq → (s.session rq.session).waiting = none →
    Runs (.commit rq g) s fun t =>
      ((s.session rq.session).held.filter (fun h => h.1 == g.val) = [] → t.lastStatus = 0 ∧ t.commits = s.commits) ∧
      ((s.session rq.session).held.filter (fun h => h.1 == g.val) ≠ [] → ∀ a b, s.commits = a ++ b → a ≠ [] →
        (∀ x, x ∈ a → ¬(x.arrived = s.now ∧ x.session < 8 ∧ rq.session.val < x.session)) →
        (∀ x, b.head? = some x → x.arrived = s.now ∧ x.session < 8 ∧ rq.session.val < x.session) →
        t.commits = a ++ { session := rq.session, rid := rq.rid, arrived := s.now, route := s.routeOf rq.session rq.arrival
                           values := ((s.session rq.session).held.filter (fun h => h.1 == g.val)).map (·.2) } :: b ∧
          (t.session rq.session).waiting = some g.val)) ∧
  (∀ (rq : Request) (x y : Byte) (s : State), s.acts rq → rq.rid < 65536 → (s.session rq.session).waiting = none → s.commits = [] →
    s.heldIn rq.session 4 0x4110 0x05 = none → s.writeFault rq.session 0x4110 0x05 = none →
    Runs (.writeAndCommit rq 0x4110 0x05 0 true true [0, 0, x, y] true) s fun t =>
      (1 ≤ numAt [x, y] 0 2 → numAt [x, y] 0 2 ≤ 49152 → s.nat 0x4110 0x06 ≤ numAt [x, y] 0 2 →
        t.commits = [{ session := rq.session, rid := rq.rid, values := [⟨0x4110, 0x05, [0, 0, x, y]⟩], arrived := s.now
                       route := s.routeOf rq.session rq.arrival }] ∧ (t.session rq.session).waiting = some 4) ∧
      ((numAt [x, y] 0 2 < 1 ∨ 49152 < numAt [x, y] 0 2 ∨ numAt [x, y] 0 2 < s.nat 0x4110 0x06) →
        t.commits = [] ∧ t.lastStatus = 0x08 ∧ (t.session rq.session).waiting = none ∧ t.nat 0x4110 0x05 = s.nat 0x4110 0x05)) ∧
  (∀ (n : SessionId) (rid : Nat) (s : State), s.start.holdOver = false →
    Runs .commitPoint { s with commits := [{ session := n, rid := rid, values := [⟨0x6000, 0x0C, [0, 0, 0, 9]⟩] }] } fun t => t.commits = [] ∧ t.nat 0x6000 0x0C = 9 ∧
      (s.nat 0x6000 0x0C ≠ 9 → t.nat 0xF020 0x01 = (s.nat 0xF020 0x01 + 1) % 2 ^ 32)) ∧
  (∀ (index : BitVec 16) (sub : BitVec 8) (bytes : List Byte) (s : State) (e : OdEntry), findEntry index.toNat sub.toNat = some e → s.served = true →
    e.acc = .rw → isCommand index.toNat sub.toNat = false → (lengthFault e index.toNat sub.toNat bytes.length).isNone = true →
    Runs (.registerWrite index sub bytes) s fun t =>
      (s.mustWait [⟨index.toNat, sub.toNat, bytes⟩] = true →
        t = { s with commits := s.commits ++ [{ session := 255, values := [⟨index.toNat, sub.toNat, bytes⟩] }] }) ∧
      (s.mustWait [⟨index.toNat, sub.toNat, bytes⟩] = false →
        (∀ f, s.judgeNow { who := 255 } [⟨index.toNat, sub.toNat, bytes⟩] noCommand = some f → t.lastStatus = f.code) ∧
        (s.judgeNow { who := 255 } [⟨index.toNat, sub.toNat, bytes⟩] noCommand = none → t.lastStatus = 0))) ∧
  (∀ (thread : Fin 64) (tb : TbId) (n : SlotId) (bytes : List Byte) (s : State), s.served = true → s.threadRuns (thread / 4) (thread % 4) = true →
    (s.engine (thread / 4)).running = 0 → bytes.length = 8 →
    (s.commits ≠ [] → Runs (.dictionaryPortWrite thread (BitVec.ofNat 16 (0x7020 + tb)) (BitVec.ofNat 8 (0x18 + n)) bytes) s fun t =>
      t = { s with commits := s.commits ++ [{ session := 255, values := [⟨0x7020 + tb, 0x18 + n, bytes⟩], arrived := s.now }] }) ∧
    (s.commits = [] → Runs (.dictionaryPortWrite thread (BitVec.ofNat 16 (0x7020 + tb)) (BitVec.ofNat 8 (0x18 + n)) bytes) s fun t =>
      t.reg (0x7020 + tb) (0x18 + n) = numOf .i64 bytes ∧ (t.slot n).fresh.testBit tb = true)) ∧
  (∀ (thread : Fin 64) (index : BitVec 16) (sub : BitVec 8) (bytes : List Byte) (s : State), s.served = true →
    s.threadRuns (thread / 4) (thread % 4) = true → s.imageWrites (thread / 4) index.toNat sub.toNat = false →
    Runs (.dictionaryPortWrite thread index sub bytes) s fun t => t.regs = s.regs ∧
      (t.blob (0xB000 + thread / 4) 0x07).take 4 = toBytes 1 (thread % 4) ++ toBytes 3 0 ∧
      (s.isSafe = false → t.messages.any (fun m => m.source == 1104 + 4 * (thread / 4)) = true) ∧ Only (partBlobs ||| partMessages ||| partSourceCounts) s t) ∧
  (∀ (s : State), s.start.server = true →
    Runs .spiTakeResponse s (fun t => Only (partSessions ||| partSpiOut) s t ∧
      t.spiOut = toBytes 2 (((s.session 0).outbox ++ (s.session 0).notices).headD []).length ++ ((s.session 0).outbox ++ (s.session 0).notices).headD [] ∧
      (∀ n, n ≠ 0 → t.session n = s.session n) ∧
      ((s.session 0).outbox ≠ [] → t.session 0 = { s.session 0 with outbox := (s.session 0).outbox.drop 1 }) ∧
      ((s.session 0).outbox = [] → t.session 0 = { s.session 0 with notices := (s.session 0).notices.drop 1 })) ∧
    Runs .spiPoll s (fun t => t.lastDetail = (if (s.session 0).outbox = [] then 0 else 1) + (if (s.session 0).notices = [] then 0 else 2) ∧
      t.spiOut = toBytes 1 t.lastDetail ∧ Only (partSpiOut ||| partLastStatus ||| partLastDetail) s t)) ∧
  (∀ (rid seq : Nat) (macOk unwrapOk : Bool) (response : Option (List Byte)) (s : State), s.acts { session := 0, rid := rid, seq := seq, macOk := macOk } → rid < 65536 → seq < 2 ^ 32 →
    Runs (.spiSendRequest (header 3 0 0 rid 0 0 0 0xFF 0 ++ toBytes 4 seq ++ List.replicate 12 0) macOk unwrapOk response) s fun t =>
      t.lastStatus = 0 ∧ (t.session 0).outbox.length = (s.session 0).outbox.length + 1 ∧ (t.session 0).lastRequest = s.now) ∧
  (∀ (s : State), s.start.server = true → s.isSafe = false → s.sessionOpen 0 = true →
    Runs (.spiWordRead 0x1000 0x08 false) s fun t => t.lastStatus = 0 ∧ t.lastDetail = s.runState % 2 ^ 32 ∧
      t.spiOut = toBytes 4 s.runState)

/-- Hub channels (02 R52 to R55): at a frame boundary the frame that the channel carries is placed in its ring, the rings that the channel carries
take a waiting rebinding and a waiting thread binding, and an idle channel carries a whole frame for a TIME ring with room before those of
GENERAL rings; with nothing that waits, the channel's credits from the hub are back. Rests on choices of the model: log entries 21, 59, 99, 118.
Completes `exec i s = .next t` for i = hubChannelFrameBoundary. -/
def Obligations.HubChannelCarriesTimeFirst : Prop :=
  ∀ (g : RegionId) (s : State), s.regionFenced g = false → s.isSafe = false →
    Runs (.hubChannelFrameBoundary g []) s fun t =>
      (∀ i, i < 64 → s.carrier i = g → t.carrier i = ((s.ringX i).rebind).getD g ∧ (t.ringX i).rebind = none ∧ (t.ringX i).bindWait = none) ∧
      (∀ c, (s.region g).hubUp = some c → c.desc.destination < 64 →
        (t.ringX c.desc.destination).toHub.length = (s.ringX c.desc.destination).toHub.length + 1 ∧
        (∀ k, k < 64 → k ≠ c.desc.destination → (t.ringX k).toHub = (s.ringX k).toHub) ∧
        (s.nextRing g true = none → s.nextRing g false = none → (t.region g).hubUp = none)) ∧
      ((s.region g).hubUp = none → ∀ i, s.nextRing g true = some i → ∀ c, s.waiting g i = some c → c.spoiltCells = 0 →
        (t.ringX i).toHub.length = (s.ringX i).toHub.length + 1 ∧ (∀ k, k < 64 → k ≠ i → (t.ringX k).toHub = (s.ringX k).toHub)) ∧
      ((s.region g).hubUp = none → s.nextRing g true = none → ∀ i, s.nextRing g false = some i → i < 64 → ∀ c, s.waiting g i = some c → c.spoiltCells = 0 →
        (t.ringX i).toHub.length = (s.ringX i).toHub.length + 1) ∧
      ((s.region g).hubUp = none → s.nextRing g true = none → s.nextRing g false = none →
        (∀ i, i < 64 → (s.ringX i).fromHub = [] ∧ (s.ringX i).writing = none) →
        t.region g = { s.region g with hubDown := 0 } ∧ (∀ k, k ≠ g.val → t.region k = s.region k) ∧
        ∀ k, k < 64 → (t.ringX k).toHub = (s.ringX k).toHub)

/-! ## The machine as a whole -/

/-- A step takes the command in front: it is exec of that command on the state with the queue's rest. With an empty queue it is a cycle of the hub
clock (log entry 2): where no start stands between two steps, no frame of the server waits and no entry of SAFE goes on, every running time base
adds its step (09 R225), each replica those of its island clock's edges in that cycle (10 R255), and all else stays. The table gives no row bits,
so no word spells a command (log entry 26). -/
def Obligations.StepRunsTheFrontCommand : Prop :=
  (∀ (c : Instr) (s : State), step (s.withFront c) = exec c s ∧ (s.withFront c).pending = c :: s.pending ∧ Only partPending s (s.withFront c)) ∧
  (∀ (s : State), s.pending = [] → s.start.run = none → s.outgoing = [] → s.start.safeAt = none → ∃ t, step s = .next t ∧ t.now = s.now + 1 ∧ Only (partNow ||| partTbs ||| partReplicas) s t ∧
    (∀ r k, ∀ c, (s.replica r).copy k = some c → (t.replica r).copy k = some (if (s.tb k).running then
      ReplicaTb.ticks (islandEdges r) (((s.replica r).phase + islandEdges r * (10 ^ 12 + s.islandOffset r).toNat) / (4 * 10 ^ 12)) c else c)) ∧
    ∀ k, k < 8 → t.tb k = if (s.tb k).running then { s.tb k with count := (s.tb k).count + s.tbStep k } else s.tb k) ∧
  (∀ (s : State) (nbits w : Nat), Sys2Proof.decodeTableWord nbits w = none ∧ s.withFetchWord nbits w = s)

/-- Right after reset (00 R7; 05 R141; 09 R228; 14 R356; 15 R388, R401; 16 R409; 18 R451): COLD-START, role 3 without TWIN_HOLD_OUT, no fence, every
time base unset and stopped at 0, generations 0, S(2n) at work in pair n, no session open and nothing in the queue; the fuses are in order and
the run state agrees with the fences. Rests on choices of the model: log entry 3. -/
def Obligations.ResetIsAColdStart : Prop :=
  State.reset.runState = 0 ∧ State.reset.nat 0x9000 0x01 = 3 ∧ State.reset.twin.holdOut = false ∧ State.reset.fences = [] ∧
  State.reset.pending = [] ∧ State.reset.commits = [] ∧ (∀ i, i < 6 → State.reset.generation i = 0) ∧
  (∀ k, k < 8 → State.reset.servo k = 0 ∧ State.reset.tbSet k = false ∧ (State.reset.tb k).count = 0 ∧ (State.reset.tb k).running = false) ∧
  (∀ n, n < 4 → State.reset.working n = 2 * n) ∧ (∀ n, n < 8 → State.reset.nat (0xF000 + n) 0x01 = 0) ∧
  State.reset.fusesHold ∧ State.reset.runAgrees

/-- Every command completes, from every state, and writes no part of the state but those of `partsOf`: what an instruction leaves unchanged, command
by command. No command writes the queue or the hub clock, so the queue is served first in, first out. -/
def Obligations.EveryCommandKeepsToItsParts : Prop :=
  (∀ (c : Instr) (s : State), Runs c s fun t => Only (partsOf c) s t ∧ t.pending = s.pending ∧ t.now = s.now) ∧
  (∀ (s : State) (c : Instr) (rest : List Instr), s.pending = c :: rest → ∃ t, step s = .next t ∧ t.pending = rest ∧ t.now = s.now)

/-- R451: in every step no fuse of a lifecycle group is restored, a group counts as blown from 5 of its 8 fuses on, and the lifecycle state, the
number of blown groups, never falls. -/
def Obligations.FusesAreNeverRestored : Prop :=
  ∀ (s t : State), s.fusesHold → step s = .next t → t.fusesHold ∧
    (∀ i, i < 3 → s.security.groups.getD i 0 ≤ t.security.groups.getD i 0) ∧
    t.security.lifecycle = ((items 3).filter (fun i => decide (5 ≤ t.security.groups.getD i 0))).length ∧
    s.security.lifecycle ≤ t.security.lifecycle ∧ t.security.lifecycle ≤ 3

/-- R388: after every step that leaves the device in service it is in DEGRADED while at least one fence stands and in RUN while none does, whoever
set it. -/
def Obligations.DegradedWhileAFenceStands : Prop :=
  ∀ (s t : State), s.runAgrees → step s = .next t → t.runAgrees
end

