-- ==== Sys2Proof/Laws/Sparse.lean ====
section
/-! SUPPORT. The laws of the canonical list of numbered items: reading after writing, and that writing keeps the form. -/

namespace Sys2Proof.Machine

theorem Sparse.get_put {α : Type} (d : α) (m : Sparse α) (n : Nat) (v : α) (k : Nat) :
    Sparse.get d (Sparse.put m n v) k = if n = k then v else Sparse.get d m k := by
  induction m with
  | nil => simp [Sparse.put, Sparse.get]
  | cons e r ih =>
    obtain ⟨a, w⟩ := e
    simp only [Sparse.put]
    split
    · subst a; simp only [Sparse.get]; split <;> rfl
    · split
      · simp only [Sparse.get]
      · simp only [Sparse.get, ih]; split <;> split <;> simp_all

theorem Sparse.get_drop {α : Type} (d : α) (m : Sparse α) (n k : Nat) :
    Sparse.get d (Sparse.drop m n) k = if n = k then d else Sparse.get d m k := by
  induction m with
  | nil => simp [Sparse.drop, Sparse.get]
  | cons e r ih =>
    obtain ⟨a, w⟩ := e
    simp only [Sparse.drop, List.filter_cons] at ih ⊢
    split
    · simp only [Sparse.get, ih]; split_ifs <;> simp_all
    · simp only [Sparse.get, ih]; split_ifs <;> simp_all

/-- A read after a write gives the value written at its key and what stood before at every other. -/
theorem Sparse.get_set {α : Type} [DecidableEq α] (d : α) (m : Sparse α) (n : Nat) (v : α) (k : Nat) :
    Sparse.get d (Sparse.set d m n v) k = if n = k then v else Sparse.get d m k := by
  unfold Sparse.set
  split
  · next h => rw [Sparse.get_drop, h]
  · rw [Sparse.get_put]

@[simp] theorem Sparse.get_set_same {α : Type} [DecidableEq α] (d : α) (m : Sparse α) (n : Nat) (v : α) :
    Sparse.get d (Sparse.set d m n v) n = v := by simp [Sparse.get_set]

/-- A write leaves every other key alone, with whatever defaults. -/
theorem Sparse.get_set_ne {α : Type} [DecidableEq α] (d d' : α) (m : Sparse α) {n k : Nat} (v : α) (h : n ≠ k) :
    Sparse.get d' (Sparse.set d m n v) k = Sparse.get d' m k := by
  unfold Sparse.set
  split
  · rw [Sparse.get_drop, if_neg h]
  · rw [Sparse.get_put, if_neg h]

/-- Keys rise strictly, as a pairwise order. -/
theorem Sparse.rising_iff {α : Type} (m : Sparse α) : Sparse.rising m = true ↔ m.Pairwise (fun a b => a.1 < b.1) := by
  induction m with
  | nil => simp [Sparse.rising]
  | cons e r ih =>
    cases r with
    | nil => simp [Sparse.rising]
    | cons f r =>
      simp only [Sparse.rising, Bool.and_eq_true, decide_eq_true_eq, ih, List.pairwise_cons, List.mem_cons]
      constructor
      · rintro ⟨h, h2, h3⟩
        refine ⟨?_, h2, h3⟩
        rintro x (rfl | hx)
        · exact h
        · exact h.trans (h2 x hx)
      · rintro ⟨h, h2, h3⟩
        exact ⟨h f (.inl rfl), h2, h3⟩

theorem Sparse.mem_put {α : Type} (m : Sparse α) (n : Nat) (v : α) (e : Nat × α) (h : e ∈ Sparse.put m n v) :
    e = (n, v) ∨ e ∈ m := by
  induction m with
  | nil => simpa [Sparse.put] using h
  | cons f r ih =>
    obtain ⟨a, w⟩ := f
    simp only [Sparse.put] at h
    split at h
    · simp only [List.mem_cons] at h ⊢; tauto
    · split at h
      · simp only [List.mem_cons] at h ⊢; tauto
      · simp only [List.mem_cons] at h ⊢
        rcases h with h | h
        · exact .inr (.inl h)
        · rcases ih h with h | h
          · exact .inl h
          · exact .inr (.inr h)

theorem Sparse.pairwise_put {α : Type} (m : Sparse α) (n : Nat) (v : α) (h : m.Pairwise (fun a b => a.1 < b.1)) :
    (Sparse.put m n v).Pairwise (fun a b => a.1 < b.1) := by
  induction m with
  | nil => simp [Sparse.put]
  | cons f r ih =>
    obtain ⟨a, w⟩ := f
    have h' := List.pairwise_cons.1 h
    simp only [Sparse.put]
    split
    · next e => subst e; exact List.pairwise_cons.2 ⟨h'.1, h'.2⟩
    · split
      · next l =>
        refine List.pairwise_cons.2 ⟨?_, h⟩
        intro x hx
        rcases List.mem_cons.1 hx with rfl | hx
        · exact l
        · exact l.trans (h'.1 x hx)
      · refine List.pairwise_cons.2 ⟨?_, ih h'.2⟩
        intro x hx
        rcases Sparse.mem_put r n v x hx with rfl | hx
        · show a < n; omega
        · exact h'.1 x hx

theorem Sparse.wf_iff {α : Type} [DecidableEq α] (d : α) (m : Sparse α) :
    Sparse.wf d m = true ↔ m.Pairwise (fun a b => a.1 < b.1) ∧ ∀ e ∈ m, e.2 ≠ d := by
  simp [Sparse.wf, Sparse.rising_iff]

/-- Every write keeps the canonical form. -/
theorem Sparse.wf_set {α : Type} [DecidableEq α] (d : α) (m : Sparse α) (n : Nat) (v : α) (h : Sparse.wf d m = true) :
    Sparse.wf d (Sparse.set d m n v) = true := by
  rw [Sparse.wf_iff] at h ⊢
  unfold Sparse.set
  split
  · exact ⟨h.1.filter _, fun e he => h.2 e (List.mem_filter.1 he).1⟩
  · next hv =>
    refine ⟨Sparse.pairwise_put m n v h.1, fun e he => ?_⟩
    rcases Sparse.mem_put m n v e he with rfl | he
    · exact hv
    · exact h.2 e he

theorem Sparse.wf_remap {α : Type} [DecidableEq α] (d : α) (f : Nat → α → α) (m : Sparse α) :
    Sparse.wf d (Sparse.remap d f m) = true := by
  have : ∀ (l a : Sparse α), Sparse.wf d a = true →
      Sparse.wf d (l.foldl (fun a e => Sparse.set d a e.1 (f e.1 e.2)) a) = true := by
    intro l
    induction l with
    | nil => exact fun a h => h
    | cons e r ih => exact fun a h => ih _ (Sparse.wf_set d a _ _ h)
  exact this m [] rfl

/-- Two lists in canonical form that read alike are equal. -/
theorem Sparse.ext_of_wf {α : Type} [DecidableEq α] (d : α) (m n : Sparse α) (hm : Sparse.wf d m = true)
    (hn : Sparse.wf d n = true) (h : ∀ k, Sparse.get d m k = Sparse.get d n k) : m = n := by
  rw [Sparse.wf_iff] at hm hn
  have low : ∀ (l : Sparse α) (k : Nat), (∀ e ∈ l, k < e.1) → Sparse.get d l k = d := by
    intro l k hl
    induction l with
    | nil => rfl
    | cons e r ih =>
      have : e.1 ≠ k := by have := hl e (by simp); omega
      simp only [Sparse.get, this, if_false]
      exact ih fun x hx => hl x (by simp [hx])
  induction m generalizing n with
  | nil =>
    cases n with
    | nil => rfl
    | cons f r => exact absurd (by simpa [Sparse.get] using (h f.1).symm) (hn.2 f (by simp))
  | cons e m ih =>
    cases n with
    | nil => exact absurd (by simpa [Sparse.get] using h e.1) (hm.2 e (by simp))
    | cons f n =>
      have hm1 := List.pairwise_cons.1 hm.1
      have hn1 := List.pairwise_cons.1 hn.1
      have hk : e.1 = f.1 := by
        rcases Nat.lt_trichotomy e.1 f.1 with hlt | he | hlt
        · have := h e.1
          have h2 : Sparse.get d (f :: n) e.1 = d := low _ _ (by
            intro x hx
            rcases List.mem_cons.1 hx with rfl | hx
            · exact hlt
            · exact hlt.trans (hn1.1 x hx))
          rw [h2] at this
          exact absurd (by simpa [Sparse.get] using this) (hm.2 e (by simp))
        · exact he
        · have := h f.1
          have h2 : Sparse.get d (e :: m) f.1 = d := low _ _ (by
            intro x hx
            rcases List.mem_cons.1 hx with rfl | hx
            · exact hlt
            · exact hlt.trans (hm1.1 x hx))
          rw [h2] at this
          exact absurd (by simpa [Sparse.get] using this.symm) (hn.2 f (by simp))
      have hv : e.2 = f.2 := by
        have := h e.1
        simpa [Sparse.get, hk] using this
      have hef : e = f := Prod.ext hk hv
      subst hef
      congr 1
      refine ih n ⟨hm1.2, fun x hx => hm.2 x (by simp [hx])⟩ ⟨hn1.2, fun x hx => hn.2 x (by simp [hx])⟩ ?_
      intro k
      by_cases hek : e.1 = k
      · subst hek
        rw [low m e.1 hm1.1, low n e.1 hn1.1]
      · simpa [Sparse.get, hek] using h k

end Sys2Proof.Machine
end

