-- ==== Sys2Proof/Laws/State.lean ====
section
/-! SUPPORT. One lemma for each update and each field of the state that the update leaves as it was, so that no later proof unfolds
a record update. -/

namespace Sys2Proof.Machine

variable (s : State)

/-! ## setReg -/
@[simp] theorem State.setReg_now (i j : Nat) (v : Int) : (s.setReg i j v).now = s.now := rfl
@[simp] theorem State.setReg_blobs (i j : Nat) (v : Int) : (s.setReg i j v).blobs = s.blobs := rfl
@[simp] theorem State.setReg_lastStatus (i j : Nat) (v : Int) : (s.setReg i j v).lastStatus = s.lastStatus := rfl
@[simp] theorem State.setReg_lastDetail (i j : Nat) (v : Int) : (s.setReg i j v).lastDetail = s.lastDetail := rfl
@[simp] theorem State.setReg_spiOut (i j : Nat) (v : Int) : (s.setReg i j v).spiOut = s.spiOut := rfl
@[simp] theorem State.setReg_outgoing (i j : Nat) (v : Int) : (s.setReg i j v).outgoing = s.outgoing := rfl
@[simp] theorem State.setReg_lanes (i j : Nat) (v : Int) : (s.setReg i j v).lanes = s.lanes := rfl
@[simp] theorem State.setReg_ports (i j : Nat) (v : Int) : (s.setReg i j v).ports = s.ports := rfl
@[simp] theorem State.setReg_timing (i j : Nat) (v : Int) : (s.setReg i j v).timing = s.timing := rfl
@[simp] theorem State.setReg_egress (i j : Nat) (v : Int) : (s.setReg i j v).egress = s.egress := rfl
@[simp] theorem State.setReg_queues (i j : Nat) (v : Int) : (s.setReg i j v).queues = s.queues := rfl
@[simp] theorem State.setReg_regions (i j : Nat) (v : Int) : (s.setReg i j v).regions = s.regions := rfl
@[simp] theorem State.setReg_rx (i j : Nat) (v : Int) : (s.setReg i j v).rx = s.rx := rfl
@[simp] theorem State.setReg_frameCount (i j : Nat) (v : Int) : (s.setReg i j v).frameCount = s.frameCount := rfl
@[simp] theorem State.setReg_pllLost (i j : Nat) (v : Int) : (s.setReg i j v).pllLost = s.pllLost := rfl
@[simp] theorem State.setReg_modReset (i j : Nat) (v : Int) : (s.setReg i j v).modReset = s.modReset := rfl
@[simp] theorem State.setReg_busQueue (i j : Nat) (v : Int) : (s.setReg i j v).busQueue = s.busQueue := rfl
@[simp] theorem State.setReg_modResetWait (i j : Nat) (v : Int) : (s.setReg i j v).modResetWait = s.modResetWait := rfl
@[simp] theorem State.setReg_fdb (i j : Nat) (v : Int) : (s.setReg i j v).fdb = s.fdb := rfl
@[simp] theorem State.setReg_vlan (i j : Nat) (v : Int) : (s.setReg i j v).vlan = s.vlan := rfl
@[simp] theorem State.setReg_classifier (i j : Nat) (v : Int) : (s.setReg i j v).classifier = s.classifier := rfl
@[simp] theorem State.setReg_streams (i j : Nat) (v : Int) : (s.setReg i j v).streams = s.streams := rfl
@[simp] theorem State.setReg_contracts (i j : Nat) (v : Int) : (s.setReg i j v).contracts = s.contracts := rfl
@[simp] theorem State.setReg_portSets (i j : Nat) (v : Int) : (s.setReg i j v).portSets = s.portSets := rfl
@[simp] theorem State.setReg_invalid (i j : Nat) (v : Int) : (s.setReg i j v).invalid = s.invalid := rfl
@[simp] theorem State.setReg_folding (i j : Nat) (v : Int) : (s.setReg i j v).folding = s.folding := rfl
@[simp] theorem State.setReg_drains (i j : Nat) (v : Int) : (s.setReg i j v).drains = s.drains := rfl
@[simp] theorem State.setReg_lastDrain (i j : Nat) (v : Int) : (s.setReg i j v).lastDrain = s.lastDrain := rfl
@[simp] theorem State.setReg_learns (i j : Nat) (v : Int) : (s.setReg i j v).learns = s.learns := rfl
@[simp] theorem State.setReg_learnRate (i j : Nat) (v : Int) : (s.setReg i j v).learnRate = s.learnRate := rfl
@[simp] theorem State.setReg_gates (i j : Nat) (v : Int) : (s.setReg i j v).gates = s.gates := rfl
@[simp] theorem State.setReg_frer (i j : Nat) (v : Int) : (s.setReg i j v).frer = s.frer := rfl
@[simp] theorem State.setReg_contractX (i j : Nat) (v : Int) : (s.setReg i j v).contractX = s.contractX := rfl
@[simp] theorem State.setReg_breaches (i j : Nat) (v : Int) : (s.setReg i j v).breaches = s.breaches := rfl
@[simp] theorem State.setReg_overflowed (i j : Nat) (v : Int) : (s.setReg i j v).overflowed = s.overflowed := rfl
@[simp] theorem State.setReg_flights (i j : Nat) (v : Int) : (s.setReg i j v).flights = s.flights := rfl
@[simp] theorem State.setReg_crossings (i j : Nat) (v : Int) : (s.setReg i j v).crossings = s.crossings := rfl
@[simp] theorem State.setReg_wire (i j : Nat) (v : Int) : (s.setReg i j v).wire = s.wire := rfl
@[simp] theorem State.setReg_syncEdge (i j : Nat) (v : Int) : (s.setReg i j v).syncEdge = s.syncEdge := rfl
@[simp] theorem State.setReg_clockStarted (i j : Nat) (v : Int) : (s.setReg i j v).clockStarted = s.clockStarted := rfl
@[simp] theorem State.setReg_clocks (i j : Nat) (v : Int) : (s.setReg i j v).clocks = s.clocks := rfl
@[simp] theorem State.setReg_tbs (i j : Nat) (v : Int) : (s.setReg i j v).tbs = s.tbs := rfl
@[simp] theorem State.setReg_compares (i j : Nat) (v : Int) : (s.setReg i j v).compares = s.compares := rfl
@[simp] theorem State.setReg_fireflies (i j : Nat) (v : Int) : (s.setReg i j v).fireflies = s.fireflies := rfl
@[simp] theorem State.setReg_captures (i j : Nat) (v : Int) : (s.setReg i j v).captures = s.captures := rfl
@[simp] theorem State.setReg_ring (i j : Nat) (v : Int) : (s.setReg i j v).ring = s.ring := rfl
@[simp] theorem State.setReg_ringSeq (i j : Nat) (v : Int) : (s.setReg i j v).ringSeq = s.ringSeq := rfl
@[simp] theorem State.setReg_rewind (i j : Nat) (v : Int) : (s.setReg i j v).rewind = s.rewind := rfl
@[simp] theorem State.setReg_replicas (i j : Nat) (v : Int) : (s.setReg i j v).replicas = s.replicas := rfl
@[simp] theorem State.setReg_detectors (i j : Nat) (v : Int) : (s.setReg i j v).detectors = s.detectors := rfl
@[simp] theorem State.setReg_ptpDiscarded (i j : Nat) (v : Int) : (s.setReg i j v).ptpDiscarded = s.ptpDiscarded := rfl
@[simp] theorem State.setReg_slots (i j : Nat) (v : Int) : (s.setReg i j v).slots = s.slots := rfl
@[simp] theorem State.setReg_freqSwitching (i j : Nat) (v : Int) : (s.setReg i j v).freqSwitching = s.freqSwitching := rfl
@[simp] theorem State.setReg_frequency (i j : Nat) (v : Int) : (s.setReg i j v).frequency = s.frequency := rfl
@[simp] theorem State.setReg_freqMovedAt (i j : Nat) (v : Int) : (s.setReg i j v).freqMovedAt = s.freqMovedAt := rfl
@[simp] theorem State.setReg_freqNear (i j : Nat) (v : Int) : (s.setReg i j v).freqNear = s.freqNear := rfl
@[simp] theorem State.setReg_freqHeld (i j : Nat) (v : Int) : (s.setReg i j v).freqHeld = s.freqHeld := rfl
@[simp] theorem State.setReg_freqLog (i j : Nat) (v : Int) : (s.setReg i j v).freqLog = s.freqLog := rfl
@[simp] theorem State.setReg_esmcOut (i j : Nat) (v : Int) : (s.setReg i j v).esmcOut = s.esmcOut := rfl
@[simp] theorem State.setReg_analog (i j : Nat) (v : Int) : (s.setReg i j v).analog = s.analog := rfl
@[simp] theorem State.setReg_analogShadow (i j : Nat) (v : Int) : (s.setReg i j v).analogShadow = s.analogShadow := rfl
@[simp] theorem State.setReg_roundRuns (i j : Nat) (v : Int) : (s.setReg i j v).roundRuns = s.roundRuns := rfl
@[simp] theorem State.setReg_roundDue (i j : Nat) (v : Int) : (s.setReg i j v).roundDue = s.roundDue := rfl
@[simp] theorem State.setReg_trims (i j : Nat) (v : Int) : (s.setReg i j v).trims = s.trims := rfl
@[simp] theorem State.setReg_twin (i j : Nat) (v : Int) : (s.setReg i j v).twin = s.twin := rfl
@[simp] theorem State.setReg_messages (i j : Nat) (v : Int) : (s.setReg i j v).messages = s.messages := rfl
@[simp] theorem State.setReg_settings (i j : Nat) (v : Int) : (s.setReg i j v).settings = s.settings := rfl
@[simp] theorem State.setReg_sourceCounts (i j : Nat) (v : Int) : (s.setReg i j v).sourceCounts = s.sourceCounts := rfl
@[simp] theorem State.setReg_log (i j : Nat) (v : Int) : (s.setReg i j v).log = s.log := rfl
@[simp] theorem State.setReg_logRead (i j : Nat) (v : Int) : (s.setReg i j v).logRead = s.logRead := rfl
@[simp] theorem State.setReg_firstFault (i j : Nat) (v : Int) : (s.setReg i j v).firstFault = s.firstFault := rfl
@[simp] theorem State.setReg_safeRecord (i j : Nat) (v : Int) : (s.setReg i j v).safeRecord = s.safeRecord := rfl
@[simp] theorem State.setReg_fences (i j : Nat) (v : Int) : (s.setReg i j v).fences = s.fences := rfl
@[simp] theorem State.setReg_masks (i j : Nat) (v : Int) : (s.setReg i j v).masks = s.masks := rfl
@[simp] theorem State.setReg_windows (i j : Nat) (v : Int) : (s.setReg i j v).windows = s.windows := rfl
@[simp] theorem State.setReg_errN (i j : Nat) (v : Int) : (s.setReg i j v).errN = s.errN := rfl
@[simp] theorem State.setReg_safeN (i j : Nat) (v : Int) : (s.setReg i j v).safeN = s.safeN := rfl
@[simp] theorem State.setReg_errNHold (i j : Nat) (v : Int) : (s.setReg i j v).errNHold = s.errNHold := rfl
@[simp] theorem State.setReg_domains (i j : Nat) (v : Int) : (s.setReg i j v).domains = s.domains := rfl
@[simp] theorem State.setReg_sessions (i j : Nat) (v : Int) : (s.setReg i j v).sessions = s.sessions := rfl
@[simp] theorem State.setReg_commits (i j : Nat) (v : Int) : (s.setReg i j v).commits = s.commits := rfl
@[simp] theorem State.setReg_engines (i j : Nat) (v : Int) : (s.setReg i j v).engines = s.engines := rfl
@[simp] theorem State.setReg_rings (i j : Nat) (v : Int) : (s.setReg i j v).rings = s.rings := rfl
@[simp] theorem State.setReg_perf (i j : Nat) (v : Int) : (s.setReg i j v).perf = s.perf := rfl
@[simp] theorem State.setReg_overflow (i j : Nat) (v : Int) : (s.setReg i j v).overflow = s.overflow := rfl
@[simp] theorem State.setReg_clearPending (i j : Nat) (v : Int) : (s.setReg i j v).clearPending = s.clearPending := rfl
@[simp] theorem State.setReg_regionSample (i j : Nat) (v : Int) : (s.setReg i j v).regionSample = s.regionSample := rfl
@[simp] theorem State.setReg_regionClear (i j : Nat) (v : Int) : (s.setReg i j v).regionClear = s.regionClear := rfl
@[simp] theorem State.setReg_epochAt (i j : Nat) (v : Int) : (s.setReg i j v).epochAt = s.epochAt := rfl
@[simp] theorem State.setReg_monitorPending (i j : Nat) (v : Int) : (s.setReg i j v).monitorPending = s.monitorPending := rfl
@[simp] theorem State.setReg_monitors (i j : Nat) (v : Int) : (s.setReg i j v).monitors = s.monitors := rfl
@[simp] theorem State.setReg_monitorFirst (i j : Nat) (v : Int) : (s.setReg i j v).monitorFirst = s.monitorFirst := rfl
@[simp] theorem State.setReg_security (i j : Nat) (v : Int) : (s.setReg i j v).security = s.security := rfl
@[simp] theorem State.setReg_start (i j : Nat) (v : Int) : (s.setReg i j v).start = s.start := rfl
@[simp] theorem State.setReg_bankDraws (i j : Nat) (v : Int) : (s.setReg i j v).bankDraws = s.bankDraws := rfl
@[simp] theorem State.setReg_shared (i j : Nat) (v : Int) : (s.setReg i j v).shared = s.shared := rfl
@[simp] theorem State.setReg_pending (i j : Nat) (v : Int) : (s.setReg i j v).pending = s.pending := rfl

/-! ## setBlob -/
@[simp] theorem State.setBlob_now (i j : Nat) (v : List Byte) : (s.setBlob i j v).now = s.now := rfl
@[simp] theorem State.setBlob_regs (i j : Nat) (v : List Byte) : (s.setBlob i j v).regs = s.regs := rfl
@[simp] theorem State.setBlob_lastStatus (i j : Nat) (v : List Byte) : (s.setBlob i j v).lastStatus = s.lastStatus := rfl
@[simp] theorem State.setBlob_lastDetail (i j : Nat) (v : List Byte) : (s.setBlob i j v).lastDetail = s.lastDetail := rfl
@[simp] theorem State.setBlob_spiOut (i j : Nat) (v : List Byte) : (s.setBlob i j v).spiOut = s.spiOut := rfl
@[simp] theorem State.setBlob_outgoing (i j : Nat) (v : List Byte) : (s.setBlob i j v).outgoing = s.outgoing := rfl
@[simp] theorem State.setBlob_lanes (i j : Nat) (v : List Byte) : (s.setBlob i j v).lanes = s.lanes := rfl
@[simp] theorem State.setBlob_ports (i j : Nat) (v : List Byte) : (s.setBlob i j v).ports = s.ports := rfl
@[simp] theorem State.setBlob_timing (i j : Nat) (v : List Byte) : (s.setBlob i j v).timing = s.timing := rfl
@[simp] theorem State.setBlob_egress (i j : Nat) (v : List Byte) : (s.setBlob i j v).egress = s.egress := rfl
@[simp] theorem State.setBlob_queues (i j : Nat) (v : List Byte) : (s.setBlob i j v).queues = s.queues := rfl
@[simp] theorem State.setBlob_regions (i j : Nat) (v : List Byte) : (s.setBlob i j v).regions = s.regions := rfl
@[simp] theorem State.setBlob_rx (i j : Nat) (v : List Byte) : (s.setBlob i j v).rx = s.rx := rfl
@[simp] theorem State.setBlob_frameCount (i j : Nat) (v : List Byte) : (s.setBlob i j v).frameCount = s.frameCount := rfl
@[simp] theorem State.setBlob_pllLost (i j : Nat) (v : List Byte) : (s.setBlob i j v).pllLost = s.pllLost := rfl
@[simp] theorem State.setBlob_modReset (i j : Nat) (v : List Byte) : (s.setBlob i j v).modReset = s.modReset := rfl
@[simp] theorem State.setBlob_busQueue (i j : Nat) (v : List Byte) : (s.setBlob i j v).busQueue = s.busQueue := rfl
@[simp] theorem State.setBlob_modResetWait (i j : Nat) (v : List Byte) : (s.setBlob i j v).modResetWait = s.modResetWait := rfl
@[simp] theorem State.setBlob_fdb (i j : Nat) (v : List Byte) : (s.setBlob i j v).fdb = s.fdb := rfl
@[simp] theorem State.setBlob_vlan (i j : Nat) (v : List Byte) : (s.setBlob i j v).vlan = s.vlan := rfl
@[simp] theorem State.setBlob_classifier (i j : Nat) (v : List Byte) : (s.setBlob i j v).classifier = s.classifier := rfl
@[simp] theorem State.setBlob_streams (i j : Nat) (v : List Byte) : (s.setBlob i j v).streams = s.streams := rfl
@[simp] theorem State.setBlob_contracts (i j : Nat) (v : List Byte) : (s.setBlob i j v).contracts = s.contracts := rfl
@[simp] theorem State.setBlob_portSets (i j : Nat) (v : List Byte) : (s.setBlob i j v).portSets = s.portSets := rfl
@[simp] theorem State.setBlob_invalid (i j : Nat) (v : List Byte) : (s.setBlob i j v).invalid = s.invalid := rfl
@[simp] theorem State.setBlob_folding (i j : Nat) (v : List Byte) : (s.setBlob i j v).folding = s.folding := rfl
@[simp] theorem State.setBlob_drains (i j : Nat) (v : List Byte) : (s.setBlob i j v).drains = s.drains := rfl
@[simp] theorem State.setBlob_lastDrain (i j : Nat) (v : List Byte) : (s.setBlob i j v).lastDrain = s.lastDrain := rfl
@[simp] theorem State.setBlob_learns (i j : Nat) (v : List Byte) : (s.setBlob i j v).learns = s.learns := rfl
@[simp] theorem State.setBlob_learnRate (i j : Nat) (v : List Byte) : (s.setBlob i j v).learnRate = s.learnRate := rfl
@[simp] theorem State.setBlob_gates (i j : Nat) (v : List Byte) : (s.setBlob i j v).gates = s.gates := rfl
@[simp] theorem State.setBlob_frer (i j : Nat) (v : List Byte) : (s.setBlob i j v).frer = s.frer := rfl
@[simp] theorem State.setBlob_contractX (i j : Nat) (v : List Byte) : (s.setBlob i j v).contractX = s.contractX := rfl
@[simp] theorem State.setBlob_breaches (i j : Nat) (v : List Byte) : (s.setBlob i j v).breaches = s.breaches := rfl
@[simp] theorem State.setBlob_overflowed (i j : Nat) (v : List Byte) : (s.setBlob i j v).overflowed = s.overflowed := rfl
@[simp] theorem State.setBlob_flights (i j : Nat) (v : List Byte) : (s.setBlob i j v).flights = s.flights := rfl
@[simp] theorem State.setBlob_crossings (i j : Nat) (v : List Byte) : (s.setBlob i j v).crossings = s.crossings := rfl
@[simp] theorem State.setBlob_wire (i j : Nat) (v : List Byte) : (s.setBlob i j v).wire = s.wire := rfl
@[simp] theorem State.setBlob_syncEdge (i j : Nat) (v : List Byte) : (s.setBlob i j v).syncEdge = s.syncEdge := rfl
@[simp] theorem State.setBlob_clockStarted (i j : Nat) (v : List Byte) : (s.setBlob i j v).clockStarted = s.clockStarted := rfl
@[simp] theorem State.setBlob_clocks (i j : Nat) (v : List Byte) : (s.setBlob i j v).clocks = s.clocks := rfl
@[simp] theorem State.setBlob_tbs (i j : Nat) (v : List Byte) : (s.setBlob i j v).tbs = s.tbs := rfl
@[simp] theorem State.setBlob_compares (i j : Nat) (v : List Byte) : (s.setBlob i j v).compares = s.compares := rfl
@[simp] theorem State.setBlob_fireflies (i j : Nat) (v : List Byte) : (s.setBlob i j v).fireflies = s.fireflies := rfl
@[simp] theorem State.setBlob_captures (i j : Nat) (v : List Byte) : (s.setBlob i j v).captures = s.captures := rfl
@[simp] theorem State.setBlob_ring (i j : Nat) (v : List Byte) : (s.setBlob i j v).ring = s.ring := rfl
@[simp] theorem State.setBlob_ringSeq (i j : Nat) (v : List Byte) : (s.setBlob i j v).ringSeq = s.ringSeq := rfl
@[simp] theorem State.setBlob_rewind (i j : Nat) (v : List Byte) : (s.setBlob i j v).rewind = s.rewind := rfl
@[simp] theorem State.setBlob_replicas (i j : Nat) (v : List Byte) : (s.setBlob i j v).replicas = s.replicas := rfl
@[simp] theorem State.setBlob_detectors (i j : Nat) (v : List Byte) : (s.setBlob i j v).detectors = s.detectors := rfl
@[simp] theorem State.setBlob_ptpDiscarded (i j : Nat) (v : List Byte) : (s.setBlob i j v).ptpDiscarded = s.ptpDiscarded := rfl
@[simp] theorem State.setBlob_slots (i j : Nat) (v : List Byte) : (s.setBlob i j v).slots = s.slots := rfl
@[simp] theorem State.setBlob_freqSwitching (i j : Nat) (v : List Byte) : (s.setBlob i j v).freqSwitching = s.freqSwitching := rfl
@[simp] theorem State.setBlob_frequency (i j : Nat) (v : List Byte) : (s.setBlob i j v).frequency = s.frequency := rfl
@[simp] theorem State.setBlob_freqMovedAt (i j : Nat) (v : List Byte) : (s.setBlob i j v).freqMovedAt = s.freqMovedAt := rfl
@[simp] theorem State.setBlob_freqNear (i j : Nat) (v : List Byte) : (s.setBlob i j v).freqNear = s.freqNear := rfl
@[simp] theorem State.setBlob_freqHeld (i j : Nat) (v : List Byte) : (s.setBlob i j v).freqHeld = s.freqHeld := rfl
@[simp] theorem State.setBlob_freqLog (i j : Nat) (v : List Byte) : (s.setBlob i j v).freqLog = s.freqLog := rfl
@[simp] theorem State.setBlob_esmcOut (i j : Nat) (v : List Byte) : (s.setBlob i j v).esmcOut = s.esmcOut := rfl
@[simp] theorem State.setBlob_analog (i j : Nat) (v : List Byte) : (s.setBlob i j v).analog = s.analog := rfl
@[simp] theorem State.setBlob_analogShadow (i j : Nat) (v : List Byte) : (s.setBlob i j v).analogShadow = s.analogShadow := rfl
@[simp] theorem State.setBlob_roundRuns (i j : Nat) (v : List Byte) : (s.setBlob i j v).roundRuns = s.roundRuns := rfl
@[simp] theorem State.setBlob_roundDue (i j : Nat) (v : List Byte) : (s.setBlob i j v).roundDue = s.roundDue := rfl
@[simp] theorem State.setBlob_trims (i j : Nat) (v : List Byte) : (s.setBlob i j v).trims = s.trims := rfl
@[simp] theorem State.setBlob_twin (i j : Nat) (v : List Byte) : (s.setBlob i j v).twin = s.twin := rfl
@[simp] theorem State.setBlob_messages (i j : Nat) (v : List Byte) : (s.setBlob i j v).messages = s.messages := rfl
@[simp] theorem State.setBlob_settings (i j : Nat) (v : List Byte) : (s.setBlob i j v).settings = s.settings := rfl
@[simp] theorem State.setBlob_sourceCounts (i j : Nat) (v : List Byte) : (s.setBlob i j v).sourceCounts = s.sourceCounts := rfl
@[simp] theorem State.setBlob_log (i j : Nat) (v : List Byte) : (s.setBlob i j v).log = s.log := rfl
@[simp] theorem State.setBlob_logRead (i j : Nat) (v : List Byte) : (s.setBlob i j v).logRead = s.logRead := rfl
@[simp] theorem State.setBlob_firstFault (i j : Nat) (v : List Byte) : (s.setBlob i j v).firstFault = s.firstFault := rfl
@[simp] theorem State.setBlob_safeRecord (i j : Nat) (v : List Byte) : (s.setBlob i j v).safeRecord = s.safeRecord := rfl
@[simp] theorem State.setBlob_fences (i j : Nat) (v : List Byte) : (s.setBlob i j v).fences = s.fences := rfl
@[simp] theorem State.setBlob_masks (i j : Nat) (v : List Byte) : (s.setBlob i j v).masks = s.masks := rfl
@[simp] theorem State.setBlob_windows (i j : Nat) (v : List Byte) : (s.setBlob i j v).windows = s.windows := rfl
@[simp] theorem State.setBlob_errN (i j : Nat) (v : List Byte) : (s.setBlob i j v).errN = s.errN := rfl
@[simp] theorem State.setBlob_safeN (i j : Nat) (v : List Byte) : (s.setBlob i j v).safeN = s.safeN := rfl
@[simp] theorem State.setBlob_errNHold (i j : Nat) (v : List Byte) : (s.setBlob i j v).errNHold = s.errNHold := rfl
@[simp] theorem State.setBlob_domains (i j : Nat) (v : List Byte) : (s.setBlob i j v).domains = s.domains := rfl
@[simp] theorem State.setBlob_sessions (i j : Nat) (v : List Byte) : (s.setBlob i j v).sessions = s.sessions := rfl
@[simp] theorem State.setBlob_commits (i j : Nat) (v : List Byte) : (s.setBlob i j v).commits = s.commits := rfl
@[simp] theorem State.setBlob_engines (i j : Nat) (v : List Byte) : (s.setBlob i j v).engines = s.engines := rfl
@[simp] theorem State.setBlob_rings (i j : Nat) (v : List Byte) : (s.setBlob i j v).rings = s.rings := rfl
@[simp] theorem State.setBlob_perf (i j : Nat) (v : List Byte) : (s.setBlob i j v).perf = s.perf := rfl
@[simp] theorem State.setBlob_overflow (i j : Nat) (v : List Byte) : (s.setBlob i j v).overflow = s.overflow := rfl
@[simp] theorem State.setBlob_clearPending (i j : Nat) (v : List Byte) : (s.setBlob i j v).clearPending = s.clearPending := rfl
@[simp] theorem State.setBlob_regionSample (i j : Nat) (v : List Byte) : (s.setBlob i j v).regionSample = s.regionSample := rfl
@[simp] theorem State.setBlob_regionClear (i j : Nat) (v : List Byte) : (s.setBlob i j v).regionClear = s.regionClear := rfl
@[simp] theorem State.setBlob_epochAt (i j : Nat) (v : List Byte) : (s.setBlob i j v).epochAt = s.epochAt := rfl
@[simp] theorem State.setBlob_monitorPending (i j : Nat) (v : List Byte) : (s.setBlob i j v).monitorPending = s.monitorPending := rfl
@[simp] theorem State.setBlob_monitors (i j : Nat) (v : List Byte) : (s.setBlob i j v).monitors = s.monitors := rfl
@[simp] theorem State.setBlob_monitorFirst (i j : Nat) (v : List Byte) : (s.setBlob i j v).monitorFirst = s.monitorFirst := rfl
@[simp] theorem State.setBlob_security (i j : Nat) (v : List Byte) : (s.setBlob i j v).security = s.security := rfl
@[simp] theorem State.setBlob_start (i j : Nat) (v : List Byte) : (s.setBlob i j v).start = s.start := rfl
@[simp] theorem State.setBlob_bankDraws (i j : Nat) (v : List Byte) : (s.setBlob i j v).bankDraws = s.bankDraws := rfl
@[simp] theorem State.setBlob_shared (i j : Nat) (v : List Byte) : (s.setBlob i j v).shared = s.shared := rfl
@[simp] theorem State.setBlob_pending (i j : Nat) (v : List Byte) : (s.setBlob i j v).pending = s.pending := rfl

/-! ## answer -/
@[simp] theorem State.answer_now (c d : Nat) : (s.answer c d).now = s.now := rfl
@[simp] theorem State.answer_regs (c d : Nat) : (s.answer c d).regs = s.regs := rfl
@[simp] theorem State.answer_blobs (c d : Nat) : (s.answer c d).blobs = s.blobs := rfl
@[simp] theorem State.answer_spiOut (c d : Nat) : (s.answer c d).spiOut = s.spiOut := rfl
@[simp] theorem State.answer_outgoing (c d : Nat) : (s.answer c d).outgoing = s.outgoing := rfl
@[simp] theorem State.answer_lanes (c d : Nat) : (s.answer c d).lanes = s.lanes := rfl
@[simp] theorem State.answer_ports (c d : Nat) : (s.answer c d).ports = s.ports := rfl
@[simp] theorem State.answer_timing (c d : Nat) : (s.answer c d).timing = s.timing := rfl
@[simp] theorem State.answer_egress (c d : Nat) : (s.answer c d).egress = s.egress := rfl
@[simp] theorem State.answer_queues (c d : Nat) : (s.answer c d).queues = s.queues := rfl
@[simp] theorem State.answer_regions (c d : Nat) : (s.answer c d).regions = s.regions := rfl
@[simp] theorem State.answer_rx (c d : Nat) : (s.answer c d).rx = s.rx := rfl
@[simp] theorem State.answer_frameCount (c d : Nat) : (s.answer c d).frameCount = s.frameCount := rfl
@[simp] theorem State.answer_pllLost (c d : Nat) : (s.answer c d).pllLost = s.pllLost := rfl
@[simp] theorem State.answer_modReset (c d : Nat) : (s.answer c d).modReset = s.modReset := rfl
@[simp] theorem State.answer_busQueue (c d : Nat) : (s.answer c d).busQueue = s.busQueue := rfl
@[simp] theorem State.answer_modResetWait (c d : Nat) : (s.answer c d).modResetWait = s.modResetWait := rfl
@[simp] theorem State.answer_fdb (c d : Nat) : (s.answer c d).fdb = s.fdb := rfl
@[simp] theorem State.answer_vlan (c d : Nat) : (s.answer c d).vlan = s.vlan := rfl
@[simp] theorem State.answer_classifier (c d : Nat) : (s.answer c d).classifier = s.classifier := rfl
@[simp] theorem State.answer_streams (c d : Nat) : (s.answer c d).streams = s.streams := rfl
@[simp] theorem State.answer_contracts (c d : Nat) : (s.answer c d).contracts = s.contracts := rfl
@[simp] theorem State.answer_portSets (c d : Nat) : (s.answer c d).portSets = s.portSets := rfl
@[simp] theorem State.answer_invalid (c d : Nat) : (s.answer c d).invalid = s.invalid := rfl
@[simp] theorem State.answer_folding (c d : Nat) : (s.answer c d).folding = s.folding := rfl
@[simp] theorem State.answer_drains (c d : Nat) : (s.answer c d).drains = s.drains := rfl
@[simp] theorem State.answer_lastDrain (c d : Nat) : (s.answer c d).lastDrain = s.lastDrain := rfl
@[simp] theorem State.answer_learns (c d : Nat) : (s.answer c d).learns = s.learns := rfl
@[simp] theorem State.answer_learnRate (c d : Nat) : (s.answer c d).learnRate = s.learnRate := rfl
@[simp] theorem State.answer_gates (c d : Nat) : (s.answer c d).gates = s.gates := rfl
@[simp] theorem State.answer_frer (c d : Nat) : (s.answer c d).frer = s.frer := rfl
@[simp] theorem State.answer_contractX (c d : Nat) : (s.answer c d).contractX = s.contractX := rfl
@[simp] theorem State.answer_breaches (c d : Nat) : (s.answer c d).breaches = s.breaches := rfl
@[simp] theorem State.answer_overflowed (c d : Nat) : (s.answer c d).overflowed = s.overflowed := rfl
@[simp] theorem State.answer_flights (c d : Nat) : (s.answer c d).flights = s.flights := rfl
@[simp] theorem State.answer_crossings (c d : Nat) : (s.answer c d).crossings = s.crossings := rfl
@[simp] theorem State.answer_wire (c d : Nat) : (s.answer c d).wire = s.wire := rfl
@[simp] theorem State.answer_syncEdge (c d : Nat) : (s.answer c d).syncEdge = s.syncEdge := rfl
@[simp] theorem State.answer_clockStarted (c d : Nat) : (s.answer c d).clockStarted = s.clockStarted := rfl
@[simp] theorem State.answer_clocks (c d : Nat) : (s.answer c d).clocks = s.clocks := rfl
@[simp] theorem State.answer_tbs (c d : Nat) : (s.answer c d).tbs = s.tbs := rfl
@[simp] theorem State.answer_compares (c d : Nat) : (s.answer c d).compares = s.compares := rfl
@[simp] theorem State.answer_fireflies (c d : Nat) : (s.answer c d).fireflies = s.fireflies := rfl
@[simp] theorem State.answer_captures (c d : Nat) : (s.answer c d).captures = s.captures := rfl
@[simp] theorem State.answer_ring (c d : Nat) : (s.answer c d).ring = s.ring := rfl
@[simp] theorem State.answer_ringSeq (c d : Nat) : (s.answer c d).ringSeq = s.ringSeq := rfl
@[simp] theorem State.answer_rewind (c d : Nat) : (s.answer c d).rewind = s.rewind := rfl
@[simp] theorem State.answer_replicas (c d : Nat) : (s.answer c d).replicas = s.replicas := rfl
@[simp] theorem State.answer_detectors (c d : Nat) : (s.answer c d).detectors = s.detectors := rfl
@[simp] theorem State.answer_ptpDiscarded (c d : Nat) : (s.answer c d).ptpDiscarded = s.ptpDiscarded := rfl
@[simp] theorem State.answer_slots (c d : Nat) : (s.answer c d).slots = s.slots := rfl
@[simp] theorem State.answer_freqSwitching (c d : Nat) : (s.answer c d).freqSwitching = s.freqSwitching := rfl
@[simp] theorem State.answer_frequency (c d : Nat) : (s.answer c d).frequency = s.frequency := rfl
@[simp] theorem State.answer_freqMovedAt (c d : Nat) : (s.answer c d).freqMovedAt = s.freqMovedAt := rfl
@[simp] theorem State.answer_freqNear (c d : Nat) : (s.answer c d).freqNear = s.freqNear := rfl
@[simp] theorem State.answer_freqHeld (c d : Nat) : (s.answer c d).freqHeld = s.freqHeld := rfl
@[simp] theorem State.answer_freqLog (c d : Nat) : (s.answer c d).freqLog = s.freqLog := rfl
@[simp] theorem State.answer_esmcOut (c d : Nat) : (s.answer c d).esmcOut = s.esmcOut := rfl
@[simp] theorem State.answer_analog (c d : Nat) : (s.answer c d).analog = s.analog := rfl
@[simp] theorem State.answer_analogShadow (c d : Nat) : (s.answer c d).analogShadow = s.analogShadow := rfl
@[simp] theorem State.answer_roundRuns (c d : Nat) : (s.answer c d).roundRuns = s.roundRuns := rfl
@[simp] theorem State.answer_roundDue (c d : Nat) : (s.answer c d).roundDue = s.roundDue := rfl
@[simp] theorem State.answer_trims (c d : Nat) : (s.answer c d).trims = s.trims := rfl
@[simp] theorem State.answer_twin (c d : Nat) : (s.answer c d).twin = s.twin := rfl
@[simp] theorem State.answer_messages (c d : Nat) : (s.answer c d).messages = s.messages := rfl
@[simp] theorem State.answer_settings (c d : Nat) : (s.answer c d).settings = s.settings := rfl
@[simp] theorem State.answer_sourceCounts (c d : Nat) : (s.answer c d).sourceCounts = s.sourceCounts := rfl
@[simp] theorem State.answer_log (c d : Nat) : (s.answer c d).log = s.log := rfl
@[simp] theorem State.answer_logRead (c d : Nat) : (s.answer c d).logRead = s.logRead := rfl
@[simp] theorem State.answer_firstFault (c d : Nat) : (s.answer c d).firstFault = s.firstFault := rfl
@[simp] theorem State.answer_safeRecord (c d : Nat) : (s.answer c d).safeRecord = s.safeRecord := rfl
@[simp] theorem State.answer_fences (c d : Nat) : (s.answer c d).fences = s.fences := rfl
@[simp] theorem State.answer_masks (c d : Nat) : (s.answer c d).masks = s.masks := rfl
@[simp] theorem State.answer_windows (c d : Nat) : (s.answer c d).windows = s.windows := rfl
@[simp] theorem State.answer_errN (c d : Nat) : (s.answer c d).errN = s.errN := rfl
@[simp] theorem State.answer_safeN (c d : Nat) : (s.answer c d).safeN = s.safeN := rfl
@[simp] theorem State.answer_errNHold (c d : Nat) : (s.answer c d).errNHold = s.errNHold := rfl
@[simp] theorem State.answer_domains (c d : Nat) : (s.answer c d).domains = s.domains := rfl
@[simp] theorem State.answer_sessions (c d : Nat) : (s.answer c d).sessions = s.sessions := rfl
@[simp] theorem State.answer_commits (c d : Nat) : (s.answer c d).commits = s.commits := rfl
@[simp] theorem State.answer_engines (c d : Nat) : (s.answer c d).engines = s.engines := rfl
@[simp] theorem State.answer_rings (c d : Nat) : (s.answer c d).rings = s.rings := rfl
@[simp] theorem State.answer_perf (c d : Nat) : (s.answer c d).perf = s.perf := rfl
@[simp] theorem State.answer_overflow (c d : Nat) : (s.answer c d).overflow = s.overflow := rfl
@[simp] theorem State.answer_clearPending (c d : Nat) : (s.answer c d).clearPending = s.clearPending := rfl
@[simp] theorem State.answer_regionSample (c d : Nat) : (s.answer c d).regionSample = s.regionSample := rfl
@[simp] theorem State.answer_regionClear (c d : Nat) : (s.answer c d).regionClear = s.regionClear := rfl
@[simp] theorem State.answer_epochAt (c d : Nat) : (s.answer c d).epochAt = s.epochAt := rfl
@[simp] theorem State.answer_monitorPending (c d : Nat) : (s.answer c d).monitorPending = s.monitorPending := rfl
@[simp] theorem State.answer_monitors (c d : Nat) : (s.answer c d).monitors = s.monitors := rfl
@[simp] theorem State.answer_monitorFirst (c d : Nat) : (s.answer c d).monitorFirst = s.monitorFirst := rfl
@[simp] theorem State.answer_security (c d : Nat) : (s.answer c d).security = s.security := rfl
@[simp] theorem State.answer_start (c d : Nat) : (s.answer c d).start = s.start := rfl
@[simp] theorem State.answer_bankDraws (c d : Nat) : (s.answer c d).bankDraws = s.bankDraws := rfl
@[simp] theorem State.answer_shared (c d : Nat) : (s.answer c d).shared = s.shared := rfl
@[simp] theorem State.answer_pending (c d : Nat) : (s.answer c d).pending = s.pending := rfl

/-! ## countSource -/
@[simp] theorem State.countSource_now (n : Nat) : (s.countSource n).now = s.now := rfl
@[simp] theorem State.countSource_regs (n : Nat) : (s.countSource n).regs = s.regs := rfl
@[simp] theorem State.countSource_blobs (n : Nat) : (s.countSource n).blobs = s.blobs := rfl
@[simp] theorem State.countSource_lastStatus (n : Nat) : (s.countSource n).lastStatus = s.lastStatus := rfl
@[simp] theorem State.countSource_lastDetail (n : Nat) : (s.countSource n).lastDetail = s.lastDetail := rfl
@[simp] theorem State.countSource_spiOut (n : Nat) : (s.countSource n).spiOut = s.spiOut := rfl
@[simp] theorem State.countSource_outgoing (n : Nat) : (s.countSource n).outgoing = s.outgoing := rfl
@[simp] theorem State.countSource_lanes (n : Nat) : (s.countSource n).lanes = s.lanes := rfl
@[simp] theorem State.countSource_ports (n : Nat) : (s.countSource n).ports = s.ports := rfl
@[simp] theorem State.countSource_timing (n : Nat) : (s.countSource n).timing = s.timing := rfl
@[simp] theorem State.countSource_egress (n : Nat) : (s.countSource n).egress = s.egress := rfl
@[simp] theorem State.countSource_queues (n : Nat) : (s.countSource n).queues = s.queues := rfl
@[simp] theorem State.countSource_regions (n : Nat) : (s.countSource n).regions = s.regions := rfl
@[simp] theorem State.countSource_rx (n : Nat) : (s.countSource n).rx = s.rx := rfl
@[simp] theorem State.countSource_frameCount (n : Nat) : (s.countSource n).frameCount = s.frameCount := rfl
@[simp] theorem State.countSource_pllLost (n : Nat) : (s.countSource n).pllLost = s.pllLost := rfl
@[simp] theorem State.countSource_modReset (n : Nat) : (s.countSource n).modReset = s.modReset := rfl
@[simp] theorem State.countSource_busQueue (n : Nat) : (s.countSource n).busQueue = s.busQueue := rfl
@[simp] theorem State.countSource_modResetWait (n : Nat) : (s.countSource n).modResetWait = s.modResetWait := rfl
@[simp] theorem State.countSource_fdb (n : Nat) : (s.countSource n).fdb = s.fdb := rfl
@[simp] theorem State.countSource_vlan (n : Nat) : (s.countSource n).vlan = s.vlan := rfl
@[simp] theorem State.countSource_classifier (n : Nat) : (s.countSource n).classifier = s.classifier := rfl
@[simp] theorem State.countSource_streams (n : Nat) : (s.countSource n).streams = s.streams := rfl
@[simp] theorem State.countSource_contracts (n : Nat) : (s.countSource n).contracts = s.contracts := rfl
@[simp] theorem State.countSource_portSets (n : Nat) : (s.countSource n).portSets = s.portSets := rfl
@[simp] theorem State.countSource_invalid (n : Nat) : (s.countSource n).invalid = s.invalid := rfl
@[simp] theorem State.countSource_folding (n : Nat) : (s.countSource n).folding = s.folding := rfl
@[simp] theorem State.countSource_drains (n : Nat) : (s.countSource n).drains = s.drains := rfl
@[simp] theorem State.countSource_lastDrain (n : Nat) : (s.countSource n).lastDrain = s.lastDrain := rfl
@[simp] theorem State.countSource_learns (n : Nat) : (s.countSource n).learns = s.learns := rfl
@[simp] theorem State.countSource_learnRate (n : Nat) : (s.countSource n).learnRate = s.learnRate := rfl
@[simp] theorem State.countSource_gates (n : Nat) : (s.countSource n).gates = s.gates := rfl
@[simp] theorem State.countSource_frer (n : Nat) : (s.countSource n).frer = s.frer := rfl
@[simp] theorem State.countSource_contractX (n : Nat) : (s.countSource n).contractX = s.contractX := rfl
@[simp] theorem State.countSource_breaches (n : Nat) : (s.countSource n).breaches = s.breaches := rfl
@[simp] theorem State.countSource_overflowed (n : Nat) : (s.countSource n).overflowed = s.overflowed := rfl
@[simp] theorem State.countSource_flights (n : Nat) : (s.countSource n).flights = s.flights := rfl
@[simp] theorem State.countSource_crossings (n : Nat) : (s.countSource n).crossings = s.crossings := rfl
@[simp] theorem State.countSource_wire (n : Nat) : (s.countSource n).wire = s.wire := rfl
@[simp] theorem State.countSource_syncEdge (n : Nat) : (s.countSource n).syncEdge = s.syncEdge := rfl
@[simp] theorem State.countSource_clockStarted (n : Nat) : (s.countSource n).clockStarted = s.clockStarted := rfl
@[simp] theorem State.countSource_clocks (n : Nat) : (s.countSource n).clocks = s.clocks := rfl
@[simp] theorem State.countSource_tbs (n : Nat) : (s.countSource n).tbs = s.tbs := rfl
@[simp] theorem State.countSource_compares (n : Nat) : (s.countSource n).compares = s.compares := rfl
@[simp] theorem State.countSource_fireflies (n : Nat) : (s.countSource n).fireflies = s.fireflies := rfl
@[simp] theorem State.countSource_captures (n : Nat) : (s.countSource n).captures = s.captures := rfl
@[simp] theorem State.countSource_ring (n : Nat) : (s.countSource n).ring = s.ring := rfl
@[simp] theorem State.countSource_ringSeq (n : Nat) : (s.countSource n).ringSeq = s.ringSeq := rfl
@[simp] theorem State.countSource_rewind (n : Nat) : (s.countSource n).rewind = s.rewind := rfl
@[simp] theorem State.countSource_replicas (n : Nat) : (s.countSource n).replicas = s.replicas := rfl
@[simp] theorem State.countSource_detectors (n : Nat) : (s.countSource n).detectors = s.detectors := rfl
@[simp] theorem State.countSource_ptpDiscarded (n : Nat) : (s.countSource n).ptpDiscarded = s.ptpDiscarded := rfl
@[simp] theorem State.countSource_slots (n : Nat) : (s.countSource n).slots = s.slots := rfl
@[simp] theorem State.countSource_freqSwitching (n : Nat) : (s.countSource n).freqSwitching = s.freqSwitching := rfl
@[simp] theorem State.countSource_frequency (n : Nat) : (s.countSource n).frequency = s.frequency := rfl
@[simp] theorem State.countSource_freqMovedAt (n : Nat) : (s.countSource n).freqMovedAt = s.freqMovedAt := rfl
@[simp] theorem State.countSource_freqNear (n : Nat) : (s.countSource n).freqNear = s.freqNear := rfl
@[simp] theorem State.countSource_freqHeld (n : Nat) : (s.countSource n).freqHeld = s.freqHeld := rfl
@[simp] theorem State.countSource_freqLog (n : Nat) : (s.countSource n).freqLog = s.freqLog := rfl
@[simp] theorem State.countSource_esmcOut (n : Nat) : (s.countSource n).esmcOut = s.esmcOut := rfl
@[simp] theorem State.countSource_analog (n : Nat) : (s.countSource n).analog = s.analog := rfl
@[simp] theorem State.countSource_analogShadow (n : Nat) : (s.countSource n).analogShadow = s.analogShadow := rfl
@[simp] theorem State.countSource_roundRuns (n : Nat) : (s.countSource n).roundRuns = s.roundRuns := rfl
@[simp] theorem State.countSource_roundDue (n : Nat) : (s.countSource n).roundDue = s.roundDue := rfl
@[simp] theorem State.countSource_trims (n : Nat) : (s.countSource n).trims = s.trims := rfl
@[simp] theorem State.countSource_twin (n : Nat) : (s.countSource n).twin = s.twin := rfl
@[simp] theorem State.countSource_messages (n : Nat) : (s.countSource n).messages = s.messages := rfl
@[simp] theorem State.countSource_settings (n : Nat) : (s.countSource n).settings = s.settings := rfl
@[simp] theorem State.countSource_log (n : Nat) : (s.countSource n).log = s.log := rfl
@[simp] theorem State.countSource_logRead (n : Nat) : (s.countSource n).logRead = s.logRead := rfl
@[simp] theorem State.countSource_firstFault (n : Nat) : (s.countSource n).firstFault = s.firstFault := rfl
@[simp] theorem State.countSource_safeRecord (n : Nat) : (s.countSource n).safeRecord = s.safeRecord := rfl
@[simp] theorem State.countSource_fences (n : Nat) : (s.countSource n).fences = s.fences := rfl
@[simp] theorem State.countSource_masks (n : Nat) : (s.countSource n).masks = s.masks := rfl
@[simp] theorem State.countSource_windows (n : Nat) : (s.countSource n).windows = s.windows := rfl
@[simp] theorem State.countSource_errN (n : Nat) : (s.countSource n).errN = s.errN := rfl
@[simp] theorem State.countSource_safeN (n : Nat) : (s.countSource n).safeN = s.safeN := rfl
@[simp] theorem State.countSource_errNHold (n : Nat) : (s.countSource n).errNHold = s.errNHold := rfl
@[simp] theorem State.countSource_domains (n : Nat) : (s.countSource n).domains = s.domains := rfl
@[simp] theorem State.countSource_sessions (n : Nat) : (s.countSource n).sessions = s.sessions := rfl
@[simp] theorem State.countSource_commits (n : Nat) : (s.countSource n).commits = s.commits := rfl
@[simp] theorem State.countSource_engines (n : Nat) : (s.countSource n).engines = s.engines := rfl
@[simp] theorem State.countSource_rings (n : Nat) : (s.countSource n).rings = s.rings := rfl
@[simp] theorem State.countSource_perf (n : Nat) : (s.countSource n).perf = s.perf := rfl
@[simp] theorem State.countSource_overflow (n : Nat) : (s.countSource n).overflow = s.overflow := rfl
@[simp] theorem State.countSource_clearPending (n : Nat) : (s.countSource n).clearPending = s.clearPending := rfl
@[simp] theorem State.countSource_regionSample (n : Nat) : (s.countSource n).regionSample = s.regionSample := rfl
@[simp] theorem State.countSource_regionClear (n : Nat) : (s.countSource n).regionClear = s.regionClear := rfl
@[simp] theorem State.countSource_epochAt (n : Nat) : (s.countSource n).epochAt = s.epochAt := rfl
@[simp] theorem State.countSource_monitorPending (n : Nat) : (s.countSource n).monitorPending = s.monitorPending := rfl
@[simp] theorem State.countSource_monitors (n : Nat) : (s.countSource n).monitors = s.monitors := rfl
@[simp] theorem State.countSource_monitorFirst (n : Nat) : (s.countSource n).monitorFirst = s.monitorFirst := rfl
@[simp] theorem State.countSource_security (n : Nat) : (s.countSource n).security = s.security := rfl
@[simp] theorem State.countSource_start (n : Nat) : (s.countSource n).start = s.start := rfl
@[simp] theorem State.countSource_bankDraws (n : Nat) : (s.countSource n).bankDraws = s.bankDraws := rfl
@[simp] theorem State.countSource_shared (n : Nat) : (s.countSource n).shared = s.shared := rfl
@[simp] theorem State.countSource_pending (n : Nat) : (s.countSource n).pending = s.pending := rfl

/-! ## setSetting -/
@[simp] theorem State.setSetting_now (n v : Nat) : (s.setSetting n v).now = s.now := rfl
@[simp] theorem State.setSetting_regs (n v : Nat) : (s.setSetting n v).regs = s.regs := rfl
@[simp] theorem State.setSetting_blobs (n v : Nat) : (s.setSetting n v).blobs = s.blobs := rfl
@[simp] theorem State.setSetting_lastStatus (n v : Nat) : (s.setSetting n v).lastStatus = s.lastStatus := rfl
@[simp] theorem State.setSetting_lastDetail (n v : Nat) : (s.setSetting n v).lastDetail = s.lastDetail := rfl
@[simp] theorem State.setSetting_spiOut (n v : Nat) : (s.setSetting n v).spiOut = s.spiOut := rfl
@[simp] theorem State.setSetting_outgoing (n v : Nat) : (s.setSetting n v).outgoing = s.outgoing := rfl
@[simp] theorem State.setSetting_lanes (n v : Nat) : (s.setSetting n v).lanes = s.lanes := rfl
@[simp] theorem State.setSetting_ports (n v : Nat) : (s.setSetting n v).ports = s.ports := rfl
@[simp] theorem State.setSetting_timing (n v : Nat) : (s.setSetting n v).timing = s.timing := rfl
@[simp] theorem State.setSetting_egress (n v : Nat) : (s.setSetting n v).egress = s.egress := rfl
@[simp] theorem State.setSetting_queues (n v : Nat) : (s.setSetting n v).queues = s.queues := rfl
@[simp] theorem State.setSetting_regions (n v : Nat) : (s.setSetting n v).regions = s.regions := rfl
@[simp] theorem State.setSetting_rx (n v : Nat) : (s.setSetting n v).rx = s.rx := rfl
@[simp] theorem State.setSetting_frameCount (n v : Nat) : (s.setSetting n v).frameCount = s.frameCount := rfl
@[simp] theorem State.setSetting_pllLost (n v : Nat) : (s.setSetting n v).pllLost = s.pllLost := rfl
@[simp] theorem State.setSetting_modReset (n v : Nat) : (s.setSetting n v).modReset = s.modReset := rfl
@[simp] theorem State.setSetting_busQueue (n v : Nat) : (s.setSetting n v).busQueue = s.busQueue := rfl
@[simp] theorem State.setSetting_modResetWait (n v : Nat) : (s.setSetting n v).modResetWait = s.modResetWait := rfl
@[simp] theorem State.setSetting_fdb (n v : Nat) : (s.setSetting n v).fdb = s.fdb := rfl
@[simp] theorem State.setSetting_vlan (n v : Nat) : (s.setSetting n v).vlan = s.vlan := rfl
@[simp] theorem State.setSetting_classifier (n v : Nat) : (s.setSetting n v).classifier = s.classifier := rfl
@[simp] theorem State.setSetting_streams (n v : Nat) : (s.setSetting n v).streams = s.streams := rfl
@[simp] theorem State.setSetting_contracts (n v : Nat) : (s.setSetting n v).contracts = s.contracts := rfl
@[simp] theorem State.setSetting_portSets (n v : Nat) : (s.setSetting n v).portSets = s.portSets := rfl
@[simp] theorem State.setSetting_invalid (n v : Nat) : (s.setSetting n v).invalid = s.invalid := rfl
@[simp] theorem State.setSetting_folding (n v : Nat) : (s.setSetting n v).folding = s.folding := rfl
@[simp] theorem State.setSetting_drains (n v : Nat) : (s.setSetting n v).drains = s.drains := rfl
@[simp] theorem State.setSetting_lastDrain (n v : Nat) : (s.setSetting n v).lastDrain = s.lastDrain := rfl
@[simp] theorem State.setSetting_learns (n v : Nat) : (s.setSetting n v).learns = s.learns := rfl
@[simp] theorem State.setSetting_learnRate (n v : Nat) : (s.setSetting n v).learnRate = s.learnRate := rfl
@[simp] theorem State.setSetting_gates (n v : Nat) : (s.setSetting n v).gates = s.gates := rfl
@[simp] theorem State.setSetting_frer (n v : Nat) : (s.setSetting n v).frer = s.frer := rfl
@[simp] theorem State.setSetting_contractX (n v : Nat) : (s.setSetting n v).contractX = s.contractX := rfl
@[simp] theorem State.setSetting_breaches (n v : Nat) : (s.setSetting n v).breaches = s.breaches := rfl
@[simp] theorem State.setSetting_overflowed (n v : Nat) : (s.setSetting n v).overflowed = s.overflowed := rfl
@[simp] theorem State.setSetting_flights (n v : Nat) : (s.setSetting n v).flights = s.flights := rfl
@[simp] theorem State.setSetting_crossings (n v : Nat) : (s.setSetting n v).crossings = s.crossings := rfl
@[simp] theorem State.setSetting_wire (n v : Nat) : (s.setSetting n v).wire = s.wire := rfl
@[simp] theorem State.setSetting_syncEdge (n v : Nat) : (s.setSetting n v).syncEdge = s.syncEdge := rfl
@[simp] theorem State.setSetting_clockStarted (n v : Nat) : (s.setSetting n v).clockStarted = s.clockStarted := rfl
@[simp] theorem State.setSetting_clocks (n v : Nat) : (s.setSetting n v).clocks = s.clocks := rfl
@[simp] theorem State.setSetting_tbs (n v : Nat) : (s.setSetting n v).tbs = s.tbs := rfl
@[simp] theorem State.setSetting_compares (n v : Nat) : (s.setSetting n v).compares = s.compares := rfl
@[simp] theorem State.setSetting_fireflies (n v : Nat) : (s.setSetting n v).fireflies = s.fireflies := rfl
@[simp] theorem State.setSetting_captures (n v : Nat) : (s.setSetting n v).captures = s.captures := rfl
@[simp] theorem State.setSetting_ring (n v : Nat) : (s.setSetting n v).ring = s.ring := rfl
@[simp] theorem State.setSetting_ringSeq (n v : Nat) : (s.setSetting n v).ringSeq = s.ringSeq := rfl
@[simp] theorem State.setSetting_rewind (n v : Nat) : (s.setSetting n v).rewind = s.rewind := rfl
@[simp] theorem State.setSetting_replicas (n v : Nat) : (s.setSetting n v).replicas = s.replicas := rfl
@[simp] theorem State.setSetting_detectors (n v : Nat) : (s.setSetting n v).detectors = s.detectors := rfl
@[simp] theorem State.setSetting_ptpDiscarded (n v : Nat) : (s.setSetting n v).ptpDiscarded = s.ptpDiscarded := rfl
@[simp] theorem State.setSetting_slots (n v : Nat) : (s.setSetting n v).slots = s.slots := rfl
@[simp] theorem State.setSetting_freqSwitching (n v : Nat) : (s.setSetting n v).freqSwitching = s.freqSwitching := rfl
@[simp] theorem State.setSetting_frequency (n v : Nat) : (s.setSetting n v).frequency = s.frequency := rfl
@[simp] theorem State.setSetting_freqMovedAt (n v : Nat) : (s.setSetting n v).freqMovedAt = s.freqMovedAt := rfl
@[simp] theorem State.setSetting_freqNear (n v : Nat) : (s.setSetting n v).freqNear = s.freqNear := rfl
@[simp] theorem State.setSetting_freqHeld (n v : Nat) : (s.setSetting n v).freqHeld = s.freqHeld := rfl
@[simp] theorem State.setSetting_freqLog (n v : Nat) : (s.setSetting n v).freqLog = s.freqLog := rfl
@[simp] theorem State.setSetting_esmcOut (n v : Nat) : (s.setSetting n v).esmcOut = s.esmcOut := rfl
@[simp] theorem State.setSetting_analog (n v : Nat) : (s.setSetting n v).analog = s.analog := rfl
@[simp] theorem State.setSetting_analogShadow (n v : Nat) : (s.setSetting n v).analogShadow = s.analogShadow := rfl
@[simp] theorem State.setSetting_roundRuns (n v : Nat) : (s.setSetting n v).roundRuns = s.roundRuns := rfl
@[simp] theorem State.setSetting_roundDue (n v : Nat) : (s.setSetting n v).roundDue = s.roundDue := rfl
@[simp] theorem State.setSetting_trims (n v : Nat) : (s.setSetting n v).trims = s.trims := rfl
@[simp] theorem State.setSetting_twin (n v : Nat) : (s.setSetting n v).twin = s.twin := rfl
@[simp] theorem State.setSetting_messages (n v : Nat) : (s.setSetting n v).messages = s.messages := rfl
@[simp] theorem State.setSetting_sourceCounts (n v : Nat) : (s.setSetting n v).sourceCounts = s.sourceCounts := rfl
@[simp] theorem State.setSetting_log (n v : Nat) : (s.setSetting n v).log = s.log := rfl
@[simp] theorem State.setSetting_logRead (n v : Nat) : (s.setSetting n v).logRead = s.logRead := rfl
@[simp] theorem State.setSetting_firstFault (n v : Nat) : (s.setSetting n v).firstFault = s.firstFault := rfl
@[simp] theorem State.setSetting_safeRecord (n v : Nat) : (s.setSetting n v).safeRecord = s.safeRecord := rfl
@[simp] theorem State.setSetting_fences (n v : Nat) : (s.setSetting n v).fences = s.fences := rfl
@[simp] theorem State.setSetting_masks (n v : Nat) : (s.setSetting n v).masks = s.masks := rfl
@[simp] theorem State.setSetting_windows (n v : Nat) : (s.setSetting n v).windows = s.windows := rfl
@[simp] theorem State.setSetting_errN (n v : Nat) : (s.setSetting n v).errN = s.errN := rfl
@[simp] theorem State.setSetting_safeN (n v : Nat) : (s.setSetting n v).safeN = s.safeN := rfl
@[simp] theorem State.setSetting_errNHold (n v : Nat) : (s.setSetting n v).errNHold = s.errNHold := rfl
@[simp] theorem State.setSetting_domains (n v : Nat) : (s.setSetting n v).domains = s.domains := rfl
@[simp] theorem State.setSetting_sessions (n v : Nat) : (s.setSetting n v).sessions = s.sessions := rfl
@[simp] theorem State.setSetting_commits (n v : Nat) : (s.setSetting n v).commits = s.commits := rfl
@[simp] theorem State.setSetting_engines (n v : Nat) : (s.setSetting n v).engines = s.engines := rfl
@[simp] theorem State.setSetting_rings (n v : Nat) : (s.setSetting n v).rings = s.rings := rfl
@[simp] theorem State.setSetting_perf (n v : Nat) : (s.setSetting n v).perf = s.perf := rfl
@[simp] theorem State.setSetting_overflow (n v : Nat) : (s.setSetting n v).overflow = s.overflow := rfl
@[simp] theorem State.setSetting_clearPending (n v : Nat) : (s.setSetting n v).clearPending = s.clearPending := rfl
@[simp] theorem State.setSetting_regionSample (n v : Nat) : (s.setSetting n v).regionSample = s.regionSample := rfl
@[simp] theorem State.setSetting_regionClear (n v : Nat) : (s.setSetting n v).regionClear = s.regionClear := rfl
@[simp] theorem State.setSetting_epochAt (n v : Nat) : (s.setSetting n v).epochAt = s.epochAt := rfl
@[simp] theorem State.setSetting_monitorPending (n v : Nat) : (s.setSetting n v).monitorPending = s.monitorPending := rfl
@[simp] theorem State.setSetting_monitors (n v : Nat) : (s.setSetting n v).monitors = s.monitors := rfl
@[simp] theorem State.setSetting_monitorFirst (n v : Nat) : (s.setSetting n v).monitorFirst = s.monitorFirst := rfl
@[simp] theorem State.setSetting_security (n v : Nat) : (s.setSetting n v).security = s.security := rfl
@[simp] theorem State.setSetting_start (n v : Nat) : (s.setSetting n v).start = s.start := rfl
@[simp] theorem State.setSetting_bankDraws (n v : Nat) : (s.setSetting n v).bankDraws = s.bankDraws := rfl
@[simp] theorem State.setSetting_shared (n v : Nat) : (s.setSetting n v).shared = s.shared := rfl
@[simp] theorem State.setSetting_pending (n v : Nat) : (s.setSetting n v).pending = s.pending := rfl

/-! ## setLane -/
@[simp] theorem State.setLane_now (n : Nat) (x : LaneX) : (s.setLane n x).now = s.now := rfl
@[simp] theorem State.setLane_regs (n : Nat) (x : LaneX) : (s.setLane n x).regs = s.regs := rfl
@[simp] theorem State.setLane_blobs (n : Nat) (x : LaneX) : (s.setLane n x).blobs = s.blobs := rfl
@[simp] theorem State.setLane_lastStatus (n : Nat) (x : LaneX) : (s.setLane n x).lastStatus = s.lastStatus := rfl
@[simp] theorem State.setLane_lastDetail (n : Nat) (x : LaneX) : (s.setLane n x).lastDetail = s.lastDetail := rfl
@[simp] theorem State.setLane_spiOut (n : Nat) (x : LaneX) : (s.setLane n x).spiOut = s.spiOut := rfl
@[simp] theorem State.setLane_outgoing (n : Nat) (x : LaneX) : (s.setLane n x).outgoing = s.outgoing := rfl
@[simp] theorem State.setLane_ports (n : Nat) (x : LaneX) : (s.setLane n x).ports = s.ports := rfl
@[simp] theorem State.setLane_timing (n : Nat) (x : LaneX) : (s.setLane n x).timing = s.timing := rfl
@[simp] theorem State.setLane_egress (n : Nat) (x : LaneX) : (s.setLane n x).egress = s.egress := rfl
@[simp] theorem State.setLane_queues (n : Nat) (x : LaneX) : (s.setLane n x).queues = s.queues := rfl
@[simp] theorem State.setLane_regions (n : Nat) (x : LaneX) : (s.setLane n x).regions = s.regions := rfl
@[simp] theorem State.setLane_rx (n : Nat) (x : LaneX) : (s.setLane n x).rx = s.rx := rfl
@[simp] theorem State.setLane_frameCount (n : Nat) (x : LaneX) : (s.setLane n x).frameCount = s.frameCount := rfl
@[simp] theorem State.setLane_pllLost (n : Nat) (x : LaneX) : (s.setLane n x).pllLost = s.pllLost := rfl
@[simp] theorem State.setLane_modReset (n : Nat) (x : LaneX) : (s.setLane n x).modReset = s.modReset := rfl
@[simp] theorem State.setLane_busQueue (n : Nat) (x : LaneX) : (s.setLane n x).busQueue = s.busQueue := rfl
@[simp] theorem State.setLane_modResetWait (n : Nat) (x : LaneX) : (s.setLane n x).modResetWait = s.modResetWait := rfl
@[simp] theorem State.setLane_fdb (n : Nat) (x : LaneX) : (s.setLane n x).fdb = s.fdb := rfl
@[simp] theorem State.setLane_vlan (n : Nat) (x : LaneX) : (s.setLane n x).vlan = s.vlan := rfl
@[simp] theorem State.setLane_classifier (n : Nat) (x : LaneX) : (s.setLane n x).classifier = s.classifier := rfl
@[simp] theorem State.setLane_streams (n : Nat) (x : LaneX) : (s.setLane n x).streams = s.streams := rfl
@[simp] theorem State.setLane_contracts (n : Nat) (x : LaneX) : (s.setLane n x).contracts = s.contracts := rfl
@[simp] theorem State.setLane_portSets (n : Nat) (x : LaneX) : (s.setLane n x).portSets = s.portSets := rfl
@[simp] theorem State.setLane_invalid (n : Nat) (x : LaneX) : (s.setLane n x).invalid = s.invalid := rfl
@[simp] theorem State.setLane_folding (n : Nat) (x : LaneX) : (s.setLane n x).folding = s.folding := rfl
@[simp] theorem State.setLane_drains (n : Nat) (x : LaneX) : (s.setLane n x).drains = s.drains := rfl
@[simp] theorem State.setLane_lastDrain (n : Nat) (x : LaneX) : (s.setLane n x).lastDrain = s.lastDrain := rfl
@[simp] theorem State.setLane_learns (n : Nat) (x : LaneX) : (s.setLane n x).learns = s.learns := rfl
@[simp] theorem State.setLane_learnRate (n : Nat) (x : LaneX) : (s.setLane n x).learnRate = s.learnRate := rfl
@[simp] theorem State.setLane_gates (n : Nat) (x : LaneX) : (s.setLane n x).gates = s.gates := rfl
@[simp] theorem State.setLane_frer (n : Nat) (x : LaneX) : (s.setLane n x).frer = s.frer := rfl
@[simp] theorem State.setLane_contractX (n : Nat) (x : LaneX) : (s.setLane n x).contractX = s.contractX := rfl
@[simp] theorem State.setLane_breaches (n : Nat) (x : LaneX) : (s.setLane n x).breaches = s.breaches := rfl
@[simp] theorem State.setLane_overflowed (n : Nat) (x : LaneX) : (s.setLane n x).overflowed = s.overflowed := rfl
@[simp] theorem State.setLane_flights (n : Nat) (x : LaneX) : (s.setLane n x).flights = s.flights := rfl
@[simp] theorem State.setLane_crossings (n : Nat) (x : LaneX) : (s.setLane n x).crossings = s.crossings := rfl
@[simp] theorem State.setLane_wire (n : Nat) (x : LaneX) : (s.setLane n x).wire = s.wire := rfl
@[simp] theorem State.setLane_syncEdge (n : Nat) (x : LaneX) : (s.setLane n x).syncEdge = s.syncEdge := rfl
@[simp] theorem State.setLane_clockStarted (n : Nat) (x : LaneX) : (s.setLane n x).clockStarted = s.clockStarted := rfl
@[simp] theorem State.setLane_clocks (n : Nat) (x : LaneX) : (s.setLane n x).clocks = s.clocks := rfl
@[simp] theorem State.setLane_tbs (n : Nat) (x : LaneX) : (s.setLane n x).tbs = s.tbs := rfl
@[simp] theorem State.setLane_compares (n : Nat) (x : LaneX) : (s.setLane n x).compares = s.compares := rfl
@[simp] theorem State.setLane_fireflies (n : Nat) (x : LaneX) : (s.setLane n x).fireflies = s.fireflies := rfl
@[simp] theorem State.setLane_captures (n : Nat) (x : LaneX) : (s.setLane n x).captures = s.captures := rfl
@[simp] theorem State.setLane_ring (n : Nat) (x : LaneX) : (s.setLane n x).ring = s.ring := rfl
@[simp] theorem State.setLane_ringSeq (n : Nat) (x : LaneX) : (s.setLane n x).ringSeq = s.ringSeq := rfl
@[simp] theorem State.setLane_rewind (n : Nat) (x : LaneX) : (s.setLane n x).rewind = s.rewind := rfl
@[simp] theorem State.setLane_replicas (n : Nat) (x : LaneX) : (s.setLane n x).replicas = s.replicas := rfl
@[simp] theorem State.setLane_detectors (n : Nat) (x : LaneX) : (s.setLane n x).detectors = s.detectors := rfl
@[simp] theorem State.setLane_ptpDiscarded (n : Nat) (x : LaneX) : (s.setLane n x).ptpDiscarded = s.ptpDiscarded := rfl
@[simp] theorem State.setLane_slots (n : Nat) (x : LaneX) : (s.setLane n x).slots = s.slots := rfl
@[simp] theorem State.setLane_freqSwitching (n : Nat) (x : LaneX) : (s.setLane n x).freqSwitching = s.freqSwitching := rfl
@[simp] theorem State.setLane_frequency (n : Nat) (x : LaneX) : (s.setLane n x).frequency = s.frequency := rfl
@[simp] theorem State.setLane_freqMovedAt (n : Nat) (x : LaneX) : (s.setLane n x).freqMovedAt = s.freqMovedAt := rfl
@[simp] theorem State.setLane_freqNear (n : Nat) (x : LaneX) : (s.setLane n x).freqNear = s.freqNear := rfl
@[simp] theorem State.setLane_freqHeld (n : Nat) (x : LaneX) : (s.setLane n x).freqHeld = s.freqHeld := rfl
@[simp] theorem State.setLane_freqLog (n : Nat) (x : LaneX) : (s.setLane n x).freqLog = s.freqLog := rfl
@[simp] theorem State.setLane_esmcOut (n : Nat) (x : LaneX) : (s.setLane n x).esmcOut = s.esmcOut := rfl
@[simp] theorem State.setLane_analog (n : Nat) (x : LaneX) : (s.setLane n x).analog = s.analog := rfl
@[simp] theorem State.setLane_analogShadow (n : Nat) (x : LaneX) : (s.setLane n x).analogShadow = s.analogShadow := rfl
@[simp] theorem State.setLane_roundRuns (n : Nat) (x : LaneX) : (s.setLane n x).roundRuns = s.roundRuns := rfl
@[simp] theorem State.setLane_roundDue (n : Nat) (x : LaneX) : (s.setLane n x).roundDue = s.roundDue := rfl
@[simp] theorem State.setLane_trims (n : Nat) (x : LaneX) : (s.setLane n x).trims = s.trims := rfl
@[simp] theorem State.setLane_twin (n : Nat) (x : LaneX) : (s.setLane n x).twin = s.twin := rfl
@[simp] theorem State.setLane_messages (n : Nat) (x : LaneX) : (s.setLane n x).messages = s.messages := rfl
@[simp] theorem State.setLane_settings (n : Nat) (x : LaneX) : (s.setLane n x).settings = s.settings := rfl
@[simp] theorem State.setLane_sourceCounts (n : Nat) (x : LaneX) : (s.setLane n x).sourceCounts = s.sourceCounts := rfl
@[simp] theorem State.setLane_log (n : Nat) (x : LaneX) : (s.setLane n x).log = s.log := rfl
@[simp] theorem State.setLane_logRead (n : Nat) (x : LaneX) : (s.setLane n x).logRead = s.logRead := rfl
@[simp] theorem State.setLane_firstFault (n : Nat) (x : LaneX) : (s.setLane n x).firstFault = s.firstFault := rfl
@[simp] theorem State.setLane_safeRecord (n : Nat) (x : LaneX) : (s.setLane n x).safeRecord = s.safeRecord := rfl
@[simp] theorem State.setLane_fences (n : Nat) (x : LaneX) : (s.setLane n x).fences = s.fences := rfl
@[simp] theorem State.setLane_masks (n : Nat) (x : LaneX) : (s.setLane n x).masks = s.masks := rfl
@[simp] theorem State.setLane_windows (n : Nat) (x : LaneX) : (s.setLane n x).windows = s.windows := rfl
@[simp] theorem State.setLane_errN (n : Nat) (x : LaneX) : (s.setLane n x).errN = s.errN := rfl
@[simp] theorem State.setLane_safeN (n : Nat) (x : LaneX) : (s.setLane n x).safeN = s.safeN := rfl
@[simp] theorem State.setLane_errNHold (n : Nat) (x : LaneX) : (s.setLane n x).errNHold = s.errNHold := rfl
@[simp] theorem State.setLane_domains (n : Nat) (x : LaneX) : (s.setLane n x).domains = s.domains := rfl
@[simp] theorem State.setLane_sessions (n : Nat) (x : LaneX) : (s.setLane n x).sessions = s.sessions := rfl
@[simp] theorem State.setLane_commits (n : Nat) (x : LaneX) : (s.setLane n x).commits = s.commits := rfl
@[simp] theorem State.setLane_engines (n : Nat) (x : LaneX) : (s.setLane n x).engines = s.engines := rfl
@[simp] theorem State.setLane_rings (n : Nat) (x : LaneX) : (s.setLane n x).rings = s.rings := rfl
@[simp] theorem State.setLane_perf (n : Nat) (x : LaneX) : (s.setLane n x).perf = s.perf := rfl
@[simp] theorem State.setLane_overflow (n : Nat) (x : LaneX) : (s.setLane n x).overflow = s.overflow := rfl
@[simp] theorem State.setLane_clearPending (n : Nat) (x : LaneX) : (s.setLane n x).clearPending = s.clearPending := rfl
@[simp] theorem State.setLane_regionSample (n : Nat) (x : LaneX) : (s.setLane n x).regionSample = s.regionSample := rfl
@[simp] theorem State.setLane_regionClear (n : Nat) (x : LaneX) : (s.setLane n x).regionClear = s.regionClear := rfl
@[simp] theorem State.setLane_epochAt (n : Nat) (x : LaneX) : (s.setLane n x).epochAt = s.epochAt := rfl
@[simp] theorem State.setLane_monitorPending (n : Nat) (x : LaneX) : (s.setLane n x).monitorPending = s.monitorPending := rfl
@[simp] theorem State.setLane_monitors (n : Nat) (x : LaneX) : (s.setLane n x).monitors = s.monitors := rfl
@[simp] theorem State.setLane_monitorFirst (n : Nat) (x : LaneX) : (s.setLane n x).monitorFirst = s.monitorFirst := rfl
@[simp] theorem State.setLane_security (n : Nat) (x : LaneX) : (s.setLane n x).security = s.security := rfl
@[simp] theorem State.setLane_start (n : Nat) (x : LaneX) : (s.setLane n x).start = s.start := rfl
@[simp] theorem State.setLane_bankDraws (n : Nat) (x : LaneX) : (s.setLane n x).bankDraws = s.bankDraws := rfl
@[simp] theorem State.setLane_shared (n : Nat) (x : LaneX) : (s.setLane n x).shared = s.shared := rfl
@[simp] theorem State.setLane_pending (n : Nat) (x : LaneX) : (s.setLane n x).pending = s.pending := rfl

/-! ## setPort -/
@[simp] theorem State.setPort_now (n : Nat) (x : PortX) : (s.setPort n x).now = s.now := rfl
@[simp] theorem State.setPort_regs (n : Nat) (x : PortX) : (s.setPort n x).regs = s.regs := rfl
@[simp] theorem State.setPort_blobs (n : Nat) (x : PortX) : (s.setPort n x).blobs = s.blobs := rfl
@[simp] theorem State.setPort_lastStatus (n : Nat) (x : PortX) : (s.setPort n x).lastStatus = s.lastStatus := rfl
@[simp] theorem State.setPort_lastDetail (n : Nat) (x : PortX) : (s.setPort n x).lastDetail = s.lastDetail := rfl
@[simp] theorem State.setPort_spiOut (n : Nat) (x : PortX) : (s.setPort n x).spiOut = s.spiOut := rfl
@[simp] theorem State.setPort_outgoing (n : Nat) (x : PortX) : (s.setPort n x).outgoing = s.outgoing := rfl
@[simp] theorem State.setPort_lanes (n : Nat) (x : PortX) : (s.setPort n x).lanes = s.lanes := rfl
@[simp] theorem State.setPort_timing (n : Nat) (x : PortX) : (s.setPort n x).timing = s.timing := rfl
@[simp] theorem State.setPort_egress (n : Nat) (x : PortX) : (s.setPort n x).egress = s.egress := rfl
@[simp] theorem State.setPort_queues (n : Nat) (x : PortX) : (s.setPort n x).queues = s.queues := rfl
@[simp] theorem State.setPort_regions (n : Nat) (x : PortX) : (s.setPort n x).regions = s.regions := rfl
@[simp] theorem State.setPort_rx (n : Nat) (x : PortX) : (s.setPort n x).rx = s.rx := rfl
@[simp] theorem State.setPort_frameCount (n : Nat) (x : PortX) : (s.setPort n x).frameCount = s.frameCount := rfl
@[simp] theorem State.setPort_pllLost (n : Nat) (x : PortX) : (s.setPort n x).pllLost = s.pllLost := rfl
@[simp] theorem State.setPort_modReset (n : Nat) (x : PortX) : (s.setPort n x).modReset = s.modReset := rfl
@[simp] theorem State.setPort_busQueue (n : Nat) (x : PortX) : (s.setPort n x).busQueue = s.busQueue := rfl
@[simp] theorem State.setPort_modResetWait (n : Nat) (x : PortX) : (s.setPort n x).modResetWait = s.modResetWait := rfl
@[simp] theorem State.setPort_fdb (n : Nat) (x : PortX) : (s.setPort n x).fdb = s.fdb := rfl
@[simp] theorem State.setPort_vlan (n : Nat) (x : PortX) : (s.setPort n x).vlan = s.vlan := rfl
@[simp] theorem State.setPort_classifier (n : Nat) (x : PortX) : (s.setPort n x).classifier = s.classifier := rfl
@[simp] theorem State.setPort_streams (n : Nat) (x : PortX) : (s.setPort n x).streams = s.streams := rfl
@[simp] theorem State.setPort_contracts (n : Nat) (x : PortX) : (s.setPort n x).contracts = s.contracts := rfl
@[simp] theorem State.setPort_portSets (n : Nat) (x : PortX) : (s.setPort n x).portSets = s.portSets := rfl
@[simp] theorem State.setPort_invalid (n : Nat) (x : PortX) : (s.setPort n x).invalid = s.invalid := rfl
@[simp] theorem State.setPort_folding (n : Nat) (x : PortX) : (s.setPort n x).folding = s.folding := rfl
@[simp] theorem State.setPort_drains (n : Nat) (x : PortX) : (s.setPort n x).drains = s.drains := rfl
@[simp] theorem State.setPort_lastDrain (n : Nat) (x : PortX) : (s.setPort n x).lastDrain = s.lastDrain := rfl
@[simp] theorem State.setPort_learns (n : Nat) (x : PortX) : (s.setPort n x).learns = s.learns := rfl
@[simp] theorem State.setPort_learnRate (n : Nat) (x : PortX) : (s.setPort n x).learnRate = s.learnRate := rfl
@[simp] theorem State.setPort_gates (n : Nat) (x : PortX) : (s.setPort n x).gates = s.gates := rfl
@[simp] theorem State.setPort_frer (n : Nat) (x : PortX) : (s.setPort n x).frer = s.frer := rfl
@[simp] theorem State.setPort_contractX (n : Nat) (x : PortX) : (s.setPort n x).contractX = s.contractX := rfl
@[simp] theorem State.setPort_breaches (n : Nat) (x : PortX) : (s.setPort n x).breaches = s.breaches := rfl
@[simp] theorem State.setPort_overflowed (n : Nat) (x : PortX) : (s.setPort n x).overflowed = s.overflowed := rfl
@[simp] theorem State.setPort_flights (n : Nat) (x : PortX) : (s.setPort n x).flights = s.flights := rfl
@[simp] theorem State.setPort_crossings (n : Nat) (x : PortX) : (s.setPort n x).crossings = s.crossings := rfl
@[simp] theorem State.setPort_wire (n : Nat) (x : PortX) : (s.setPort n x).wire = s.wire := rfl
@[simp] theorem State.setPort_syncEdge (n : Nat) (x : PortX) : (s.setPort n x).syncEdge = s.syncEdge := rfl
@[simp] theorem State.setPort_clockStarted (n : Nat) (x : PortX) : (s.setPort n x).clockStarted = s.clockStarted := rfl
@[simp] theorem State.setPort_clocks (n : Nat) (x : PortX) : (s.setPort n x).clocks = s.clocks := rfl
@[simp] theorem State.setPort_tbs (n : Nat) (x : PortX) : (s.setPort n x).tbs = s.tbs := rfl
@[simp] theorem State.setPort_compares (n : Nat) (x : PortX) : (s.setPort n x).compares = s.compares := rfl
@[simp] theorem State.setPort_fireflies (n : Nat) (x : PortX) : (s.setPort n x).fireflies = s.fireflies := rfl
@[simp] theorem State.setPort_captures (n : Nat) (x : PortX) : (s.setPort n x).captures = s.captures := rfl
@[simp] theorem State.setPort_ring (n : Nat) (x : PortX) : (s.setPort n x).ring = s.ring := rfl
@[simp] theorem State.setPort_ringSeq (n : Nat) (x : PortX) : (s.setPort n x).ringSeq = s.ringSeq := rfl
@[simp] theorem State.setPort_rewind (n : Nat) (x : PortX) : (s.setPort n x).rewind = s.rewind := rfl
@[simp] theorem State.setPort_replicas (n : Nat) (x : PortX) : (s.setPort n x).replicas = s.replicas := rfl
@[simp] theorem State.setPort_detectors (n : Nat) (x : PortX) : (s.setPort n x).detectors = s.detectors := rfl
@[simp] theorem State.setPort_ptpDiscarded (n : Nat) (x : PortX) : (s.setPort n x).ptpDiscarded = s.ptpDiscarded := rfl
@[simp] theorem State.setPort_slots (n : Nat) (x : PortX) : (s.setPort n x).slots = s.slots := rfl
@[simp] theorem State.setPort_freqSwitching (n : Nat) (x : PortX) : (s.setPort n x).freqSwitching = s.freqSwitching := rfl
@[simp] theorem State.setPort_frequency (n : Nat) (x : PortX) : (s.setPort n x).frequency = s.frequency := rfl
@[simp] theorem State.setPort_freqMovedAt (n : Nat) (x : PortX) : (s.setPort n x).freqMovedAt = s.freqMovedAt := rfl
@[simp] theorem State.setPort_freqNear (n : Nat) (x : PortX) : (s.setPort n x).freqNear = s.freqNear := rfl
@[simp] theorem State.setPort_freqHeld (n : Nat) (x : PortX) : (s.setPort n x).freqHeld = s.freqHeld := rfl
@[simp] theorem State.setPort_freqLog (n : Nat) (x : PortX) : (s.setPort n x).freqLog = s.freqLog := rfl
@[simp] theorem State.setPort_esmcOut (n : Nat) (x : PortX) : (s.setPort n x).esmcOut = s.esmcOut := rfl
@[simp] theorem State.setPort_analog (n : Nat) (x : PortX) : (s.setPort n x).analog = s.analog := rfl
@[simp] theorem State.setPort_analogShadow (n : Nat) (x : PortX) : (s.setPort n x).analogShadow = s.analogShadow := rfl
@[simp] theorem State.setPort_roundRuns (n : Nat) (x : PortX) : (s.setPort n x).roundRuns = s.roundRuns := rfl
@[simp] theorem State.setPort_roundDue (n : Nat) (x : PortX) : (s.setPort n x).roundDue = s.roundDue := rfl
@[simp] theorem State.setPort_trims (n : Nat) (x : PortX) : (s.setPort n x).trims = s.trims := rfl
@[simp] theorem State.setPort_twin (n : Nat) (x : PortX) : (s.setPort n x).twin = s.twin := rfl
@[simp] theorem State.setPort_messages (n : Nat) (x : PortX) : (s.setPort n x).messages = s.messages := rfl
@[simp] theorem State.setPort_settings (n : Nat) (x : PortX) : (s.setPort n x).settings = s.settings := rfl
@[simp] theorem State.setPort_sourceCounts (n : Nat) (x : PortX) : (s.setPort n x).sourceCounts = s.sourceCounts := rfl
@[simp] theorem State.setPort_log (n : Nat) (x : PortX) : (s.setPort n x).log = s.log := rfl
@[simp] theorem State.setPort_logRead (n : Nat) (x : PortX) : (s.setPort n x).logRead = s.logRead := rfl
@[simp] theorem State.setPort_firstFault (n : Nat) (x : PortX) : (s.setPort n x).firstFault = s.firstFault := rfl
@[simp] theorem State.setPort_safeRecord (n : Nat) (x : PortX) : (s.setPort n x).safeRecord = s.safeRecord := rfl
@[simp] theorem State.setPort_fences (n : Nat) (x : PortX) : (s.setPort n x).fences = s.fences := rfl
@[simp] theorem State.setPort_masks (n : Nat) (x : PortX) : (s.setPort n x).masks = s.masks := rfl
@[simp] theorem State.setPort_windows (n : Nat) (x : PortX) : (s.setPort n x).windows = s.windows := rfl
@[simp] theorem State.setPort_errN (n : Nat) (x : PortX) : (s.setPort n x).errN = s.errN := rfl
@[simp] theorem State.setPort_safeN (n : Nat) (x : PortX) : (s.setPort n x).safeN = s.safeN := rfl
@[simp] theorem State.setPort_errNHold (n : Nat) (x : PortX) : (s.setPort n x).errNHold = s.errNHold := rfl
@[simp] theorem State.setPort_domains (n : Nat) (x : PortX) : (s.setPort n x).domains = s.domains := rfl
@[simp] theorem State.setPort_sessions (n : Nat) (x : PortX) : (s.setPort n x).sessions = s.sessions := rfl
@[simp] theorem State.setPort_commits (n : Nat) (x : PortX) : (s.setPort n x).commits = s.commits := rfl
@[simp] theorem State.setPort_engines (n : Nat) (x : PortX) : (s.setPort n x).engines = s.engines := rfl
@[simp] theorem State.setPort_rings (n : Nat) (x : PortX) : (s.setPort n x).rings = s.rings := rfl
@[simp] theorem State.setPort_perf (n : Nat) (x : PortX) : (s.setPort n x).perf = s.perf := rfl
@[simp] theorem State.setPort_overflow (n : Nat) (x : PortX) : (s.setPort n x).overflow = s.overflow := rfl
@[simp] theorem State.setPort_clearPending (n : Nat) (x : PortX) : (s.setPort n x).clearPending = s.clearPending := rfl
@[simp] theorem State.setPort_regionSample (n : Nat) (x : PortX) : (s.setPort n x).regionSample = s.regionSample := rfl
@[simp] theorem State.setPort_regionClear (n : Nat) (x : PortX) : (s.setPort n x).regionClear = s.regionClear := rfl
@[simp] theorem State.setPort_epochAt (n : Nat) (x : PortX) : (s.setPort n x).epochAt = s.epochAt := rfl
@[simp] theorem State.setPort_monitorPending (n : Nat) (x : PortX) : (s.setPort n x).monitorPending = s.monitorPending := rfl
@[simp] theorem State.setPort_monitors (n : Nat) (x : PortX) : (s.setPort n x).monitors = s.monitors := rfl
@[simp] theorem State.setPort_monitorFirst (n : Nat) (x : PortX) : (s.setPort n x).monitorFirst = s.monitorFirst := rfl
@[simp] theorem State.setPort_security (n : Nat) (x : PortX) : (s.setPort n x).security = s.security := rfl
@[simp] theorem State.setPort_start (n : Nat) (x : PortX) : (s.setPort n x).start = s.start := rfl
@[simp] theorem State.setPort_bankDraws (n : Nat) (x : PortX) : (s.setPort n x).bankDraws = s.bankDraws := rfl
@[simp] theorem State.setPort_shared (n : Nat) (x : PortX) : (s.setPort n x).shared = s.shared := rfl
@[simp] theorem State.setPort_pending (n : Nat) (x : PortX) : (s.setPort n x).pending = s.pending := rfl

/-! ## setTim -/
@[simp] theorem State.setTim_now (n : Nat) (x : TimingX) : (s.setTim n x).now = s.now := rfl
@[simp] theorem State.setTim_regs (n : Nat) (x : TimingX) : (s.setTim n x).regs = s.regs := rfl
@[simp] theorem State.setTim_blobs (n : Nat) (x : TimingX) : (s.setTim n x).blobs = s.blobs := rfl
@[simp] theorem State.setTim_lastStatus (n : Nat) (x : TimingX) : (s.setTim n x).lastStatus = s.lastStatus := rfl
@[simp] theorem State.setTim_lastDetail (n : Nat) (x : TimingX) : (s.setTim n x).lastDetail = s.lastDetail := rfl
@[simp] theorem State.setTim_spiOut (n : Nat) (x : TimingX) : (s.setTim n x).spiOut = s.spiOut := rfl
@[simp] theorem State.setTim_outgoing (n : Nat) (x : TimingX) : (s.setTim n x).outgoing = s.outgoing := rfl
@[simp] theorem State.setTim_lanes (n : Nat) (x : TimingX) : (s.setTim n x).lanes = s.lanes := rfl
@[simp] theorem State.setTim_ports (n : Nat) (x : TimingX) : (s.setTim n x).ports = s.ports := rfl
@[simp] theorem State.setTim_egress (n : Nat) (x : TimingX) : (s.setTim n x).egress = s.egress := rfl
@[simp] theorem State.setTim_queues (n : Nat) (x : TimingX) : (s.setTim n x).queues = s.queues := rfl
@[simp] theorem State.setTim_regions (n : Nat) (x : TimingX) : (s.setTim n x).regions = s.regions := rfl
@[simp] theorem State.setTim_rx (n : Nat) (x : TimingX) : (s.setTim n x).rx = s.rx := rfl
@[simp] theorem State.setTim_frameCount (n : Nat) (x : TimingX) : (s.setTim n x).frameCount = s.frameCount := rfl
@[simp] theorem State.setTim_pllLost (n : Nat) (x : TimingX) : (s.setTim n x).pllLost = s.pllLost := rfl
@[simp] theorem State.setTim_modReset (n : Nat) (x : TimingX) : (s.setTim n x).modReset = s.modReset := rfl
@[simp] theorem State.setTim_busQueue (n : Nat) (x : TimingX) : (s.setTim n x).busQueue = s.busQueue := rfl
@[simp] theorem State.setTim_modResetWait (n : Nat) (x : TimingX) : (s.setTim n x).modResetWait = s.modResetWait := rfl
@[simp] theorem State.setTim_fdb (n : Nat) (x : TimingX) : (s.setTim n x).fdb = s.fdb := rfl
@[simp] theorem State.setTim_vlan (n : Nat) (x : TimingX) : (s.setTim n x).vlan = s.vlan := rfl
@[simp] theorem State.setTim_classifier (n : Nat) (x : TimingX) : (s.setTim n x).classifier = s.classifier := rfl
@[simp] theorem State.setTim_streams (n : Nat) (x : TimingX) : (s.setTim n x).streams = s.streams := rfl
@[simp] theorem State.setTim_contracts (n : Nat) (x : TimingX) : (s.setTim n x).contracts = s.contracts := rfl
@[simp] theorem State.setTim_portSets (n : Nat) (x : TimingX) : (s.setTim n x).portSets = s.portSets := rfl
@[simp] theorem State.setTim_invalid (n : Nat) (x : TimingX) : (s.setTim n x).invalid = s.invalid := rfl
@[simp] theorem State.setTim_folding (n : Nat) (x : TimingX) : (s.setTim n x).folding = s.folding := rfl
@[simp] theorem State.setTim_drains (n : Nat) (x : TimingX) : (s.setTim n x).drains = s.drains := rfl
@[simp] theorem State.setTim_lastDrain (n : Nat) (x : TimingX) : (s.setTim n x).lastDrain = s.lastDrain := rfl
@[simp] theorem State.setTim_learns (n : Nat) (x : TimingX) : (s.setTim n x).learns = s.learns := rfl
@[simp] theorem State.setTim_learnRate (n : Nat) (x : TimingX) : (s.setTim n x).learnRate = s.learnRate := rfl
@[simp] theorem State.setTim_gates (n : Nat) (x : TimingX) : (s.setTim n x).gates = s.gates := rfl
@[simp] theorem State.setTim_frer (n : Nat) (x : TimingX) : (s.setTim n x).frer = s.frer := rfl
@[simp] theorem State.setTim_contractX (n : Nat) (x : TimingX) : (s.setTim n x).contractX = s.contractX := rfl
@[simp] theorem State.setTim_breaches (n : Nat) (x : TimingX) : (s.setTim n x).breaches = s.breaches := rfl
@[simp] theorem State.setTim_overflowed (n : Nat) (x : TimingX) : (s.setTim n x).overflowed = s.overflowed := rfl
@[simp] theorem State.setTim_flights (n : Nat) (x : TimingX) : (s.setTim n x).flights = s.flights := rfl
@[simp] theorem State.setTim_crossings (n : Nat) (x : TimingX) : (s.setTim n x).crossings = s.crossings := rfl
@[simp] theorem State.setTim_wire (n : Nat) (x : TimingX) : (s.setTim n x).wire = s.wire := rfl
@[simp] theorem State.setTim_syncEdge (n : Nat) (x : TimingX) : (s.setTim n x).syncEdge = s.syncEdge := rfl
@[simp] theorem State.setTim_clockStarted (n : Nat) (x : TimingX) : (s.setTim n x).clockStarted = s.clockStarted := rfl
@[simp] theorem State.setTim_clocks (n : Nat) (x : TimingX) : (s.setTim n x).clocks = s.clocks := rfl
@[simp] theorem State.setTim_tbs (n : Nat) (x : TimingX) : (s.setTim n x).tbs = s.tbs := rfl
@[simp] theorem State.setTim_compares (n : Nat) (x : TimingX) : (s.setTim n x).compares = s.compares := rfl
@[simp] theorem State.setTim_fireflies (n : Nat) (x : TimingX) : (s.setTim n x).fireflies = s.fireflies := rfl
@[simp] theorem State.setTim_captures (n : Nat) (x : TimingX) : (s.setTim n x).captures = s.captures := rfl
@[simp] theorem State.setTim_ring (n : Nat) (x : TimingX) : (s.setTim n x).ring = s.ring := rfl
@[simp] theorem State.setTim_ringSeq (n : Nat) (x : TimingX) : (s.setTim n x).ringSeq = s.ringSeq := rfl
@[simp] theorem State.setTim_rewind (n : Nat) (x : TimingX) : (s.setTim n x).rewind = s.rewind := rfl
@[simp] theorem State.setTim_replicas (n : Nat) (x : TimingX) : (s.setTim n x).replicas = s.replicas := rfl
@[simp] theorem State.setTim_detectors (n : Nat) (x : TimingX) : (s.setTim n x).detectors = s.detectors := rfl
@[simp] theorem State.setTim_ptpDiscarded (n : Nat) (x : TimingX) : (s.setTim n x).ptpDiscarded = s.ptpDiscarded := rfl
@[simp] theorem State.setTim_slots (n : Nat) (x : TimingX) : (s.setTim n x).slots = s.slots := rfl
@[simp] theorem State.setTim_freqSwitching (n : Nat) (x : TimingX) : (s.setTim n x).freqSwitching = s.freqSwitching := rfl
@[simp] theorem State.setTim_frequency (n : Nat) (x : TimingX) : (s.setTim n x).frequency = s.frequency := rfl
@[simp] theorem State.setTim_freqMovedAt (n : Nat) (x : TimingX) : (s.setTim n x).freqMovedAt = s.freqMovedAt := rfl
@[simp] theorem State.setTim_freqNear (n : Nat) (x : TimingX) : (s.setTim n x).freqNear = s.freqNear := rfl
@[simp] theorem State.setTim_freqHeld (n : Nat) (x : TimingX) : (s.setTim n x).freqHeld = s.freqHeld := rfl
@[simp] theorem State.setTim_freqLog (n : Nat) (x : TimingX) : (s.setTim n x).freqLog = s.freqLog := rfl
@[simp] theorem State.setTim_esmcOut (n : Nat) (x : TimingX) : (s.setTim n x).esmcOut = s.esmcOut := rfl
@[simp] theorem State.setTim_analog (n : Nat) (x : TimingX) : (s.setTim n x).analog = s.analog := rfl
@[simp] theorem State.setTim_analogShadow (n : Nat) (x : TimingX) : (s.setTim n x).analogShadow = s.analogShadow := rfl
@[simp] theorem State.setTim_roundRuns (n : Nat) (x : TimingX) : (s.setTim n x).roundRuns = s.roundRuns := rfl
@[simp] theorem State.setTim_roundDue (n : Nat) (x : TimingX) : (s.setTim n x).roundDue = s.roundDue := rfl
@[simp] theorem State.setTim_trims (n : Nat) (x : TimingX) : (s.setTim n x).trims = s.trims := rfl
@[simp] theorem State.setTim_twin (n : Nat) (x : TimingX) : (s.setTim n x).twin = s.twin := rfl
@[simp] theorem State.setTim_messages (n : Nat) (x : TimingX) : (s.setTim n x).messages = s.messages := rfl
@[simp] theorem State.setTim_settings (n : Nat) (x : TimingX) : (s.setTim n x).settings = s.settings := rfl
@[simp] theorem State.setTim_sourceCounts (n : Nat) (x : TimingX) : (s.setTim n x).sourceCounts = s.sourceCounts := rfl
@[simp] theorem State.setTim_log (n : Nat) (x : TimingX) : (s.setTim n x).log = s.log := rfl
@[simp] theorem State.setTim_logRead (n : Nat) (x : TimingX) : (s.setTim n x).logRead = s.logRead := rfl
@[simp] theorem State.setTim_firstFault (n : Nat) (x : TimingX) : (s.setTim n x).firstFault = s.firstFault := rfl
@[simp] theorem State.setTim_safeRecord (n : Nat) (x : TimingX) : (s.setTim n x).safeRecord = s.safeRecord := rfl
@[simp] theorem State.setTim_fences (n : Nat) (x : TimingX) : (s.setTim n x).fences = s.fences := rfl
@[simp] theorem State.setTim_masks (n : Nat) (x : TimingX) : (s.setTim n x).masks = s.masks := rfl
@[simp] theorem State.setTim_windows (n : Nat) (x : TimingX) : (s.setTim n x).windows = s.windows := rfl
@[simp] theorem State.setTim_errN (n : Nat) (x : TimingX) : (s.setTim n x).errN = s.errN := rfl
@[simp] theorem State.setTim_safeN (n : Nat) (x : TimingX) : (s.setTim n x).safeN = s.safeN := rfl
@[simp] theorem State.setTim_errNHold (n : Nat) (x : TimingX) : (s.setTim n x).errNHold = s.errNHold := rfl
@[simp] theorem State.setTim_domains (n : Nat) (x : TimingX) : (s.setTim n x).domains = s.domains := rfl
@[simp] theorem State.setTim_sessions (n : Nat) (x : TimingX) : (s.setTim n x).sessions = s.sessions := rfl
@[simp] theorem State.setTim_commits (n : Nat) (x : TimingX) : (s.setTim n x).commits = s.commits := rfl
@[simp] theorem State.setTim_engines (n : Nat) (x : TimingX) : (s.setTim n x).engines = s.engines := rfl
@[simp] theorem State.setTim_rings (n : Nat) (x : TimingX) : (s.setTim n x).rings = s.rings := rfl
@[simp] theorem State.setTim_perf (n : Nat) (x : TimingX) : (s.setTim n x).perf = s.perf := rfl
@[simp] theorem State.setTim_overflow (n : Nat) (x : TimingX) : (s.setTim n x).overflow = s.overflow := rfl
@[simp] theorem State.setTim_clearPending (n : Nat) (x : TimingX) : (s.setTim n x).clearPending = s.clearPending := rfl
@[simp] theorem State.setTim_regionSample (n : Nat) (x : TimingX) : (s.setTim n x).regionSample = s.regionSample := rfl
@[simp] theorem State.setTim_regionClear (n : Nat) (x : TimingX) : (s.setTim n x).regionClear = s.regionClear := rfl
@[simp] theorem State.setTim_epochAt (n : Nat) (x : TimingX) : (s.setTim n x).epochAt = s.epochAt := rfl
@[simp] theorem State.setTim_monitorPending (n : Nat) (x : TimingX) : (s.setTim n x).monitorPending = s.monitorPending := rfl
@[simp] theorem State.setTim_monitors (n : Nat) (x : TimingX) : (s.setTim n x).monitors = s.monitors := rfl
@[simp] theorem State.setTim_monitorFirst (n : Nat) (x : TimingX) : (s.setTim n x).monitorFirst = s.monitorFirst := rfl
@[simp] theorem State.setTim_security (n : Nat) (x : TimingX) : (s.setTim n x).security = s.security := rfl
@[simp] theorem State.setTim_start (n : Nat) (x : TimingX) : (s.setTim n x).start = s.start := rfl
@[simp] theorem State.setTim_bankDraws (n : Nat) (x : TimingX) : (s.setTim n x).bankDraws = s.bankDraws := rfl
@[simp] theorem State.setTim_shared (n : Nat) (x : TimingX) : (s.setTim n x).shared = s.shared := rfl
@[simp] theorem State.setTim_pending (n : Nat) (x : TimingX) : (s.setTim n x).pending = s.pending := rfl

/-! ## setEg -/
@[simp] theorem State.setEg_now (n : Nat) (x : EgressX) : (s.setEg n x).now = s.now := rfl
@[simp] theorem State.setEg_regs (n : Nat) (x : EgressX) : (s.setEg n x).regs = s.regs := rfl
@[simp] theorem State.setEg_blobs (n : Nat) (x : EgressX) : (s.setEg n x).blobs = s.blobs := rfl
@[simp] theorem State.setEg_lastStatus (n : Nat) (x : EgressX) : (s.setEg n x).lastStatus = s.lastStatus := rfl
@[simp] theorem State.setEg_lastDetail (n : Nat) (x : EgressX) : (s.setEg n x).lastDetail = s.lastDetail := rfl
@[simp] theorem State.setEg_spiOut (n : Nat) (x : EgressX) : (s.setEg n x).spiOut = s.spiOut := rfl
@[simp] theorem State.setEg_outgoing (n : Nat) (x : EgressX) : (s.setEg n x).outgoing = s.outgoing := rfl
@[simp] theorem State.setEg_lanes (n : Nat) (x : EgressX) : (s.setEg n x).lanes = s.lanes := rfl
@[simp] theorem State.setEg_ports (n : Nat) (x : EgressX) : (s.setEg n x).ports = s.ports := rfl
@[simp] theorem State.setEg_timing (n : Nat) (x : EgressX) : (s.setEg n x).timing = s.timing := rfl
@[simp] theorem State.setEg_queues (n : Nat) (x : EgressX) : (s.setEg n x).queues = s.queues := rfl
@[simp] theorem State.setEg_regions (n : Nat) (x : EgressX) : (s.setEg n x).regions = s.regions := rfl
@[simp] theorem State.setEg_rx (n : Nat) (x : EgressX) : (s.setEg n x).rx = s.rx := rfl
@[simp] theorem State.setEg_frameCount (n : Nat) (x : EgressX) : (s.setEg n x).frameCount = s.frameCount := rfl
@[simp] theorem State.setEg_pllLost (n : Nat) (x : EgressX) : (s.setEg n x).pllLost = s.pllLost := rfl
@[simp] theorem State.setEg_modReset (n : Nat) (x : EgressX) : (s.setEg n x).modReset = s.modReset := rfl
@[simp] theorem State.setEg_busQueue (n : Nat) (x : EgressX) : (s.setEg n x).busQueue = s.busQueue := rfl
@[simp] theorem State.setEg_modResetWait (n : Nat) (x : EgressX) : (s.setEg n x).modResetWait = s.modResetWait := rfl
@[simp] theorem State.setEg_fdb (n : Nat) (x : EgressX) : (s.setEg n x).fdb = s.fdb := rfl
@[simp] theorem State.setEg_vlan (n : Nat) (x : EgressX) : (s.setEg n x).vlan = s.vlan := rfl
@[simp] theorem State.setEg_classifier (n : Nat) (x : EgressX) : (s.setEg n x).classifier = s.classifier := rfl
@[simp] theorem State.setEg_streams (n : Nat) (x : EgressX) : (s.setEg n x).streams = s.streams := rfl
@[simp] theorem State.setEg_contracts (n : Nat) (x : EgressX) : (s.setEg n x).contracts = s.contracts := rfl
@[simp] theorem State.setEg_portSets (n : Nat) (x : EgressX) : (s.setEg n x).portSets = s.portSets := rfl
@[simp] theorem State.setEg_invalid (n : Nat) (x : EgressX) : (s.setEg n x).invalid = s.invalid := rfl
@[simp] theorem State.setEg_folding (n : Nat) (x : EgressX) : (s.setEg n x).folding = s.folding := rfl
@[simp] theorem State.setEg_drains (n : Nat) (x : EgressX) : (s.setEg n x).drains = s.drains := rfl
@[simp] theorem State.setEg_lastDrain (n : Nat) (x : EgressX) : (s.setEg n x).lastDrain = s.lastDrain := rfl
@[simp] theorem State.setEg_learns (n : Nat) (x : EgressX) : (s.setEg n x).learns = s.learns := rfl
@[simp] theorem State.setEg_learnRate (n : Nat) (x : EgressX) : (s.setEg n x).learnRate = s.learnRate := rfl
@[simp] theorem State.setEg_gates (n : Nat) (x : EgressX) : (s.setEg n x).gates = s.gates := rfl
@[simp] theorem State.setEg_frer (n : Nat) (x : EgressX) : (s.setEg n x).frer = s.frer := rfl
@[simp] theorem State.setEg_contractX (n : Nat) (x : EgressX) : (s.setEg n x).contractX = s.contractX := rfl
@[simp] theorem State.setEg_breaches (n : Nat) (x : EgressX) : (s.setEg n x).breaches = s.breaches := rfl
@[simp] theorem State.setEg_overflowed (n : Nat) (x : EgressX) : (s.setEg n x).overflowed = s.overflowed := rfl
@[simp] theorem State.setEg_flights (n : Nat) (x : EgressX) : (s.setEg n x).flights = s.flights := rfl
@[simp] theorem State.setEg_crossings (n : Nat) (x : EgressX) : (s.setEg n x).crossings = s.crossings := rfl
@[simp] theorem State.setEg_wire (n : Nat) (x : EgressX) : (s.setEg n x).wire = s.wire := rfl
@[simp] theorem State.setEg_syncEdge (n : Nat) (x : EgressX) : (s.setEg n x).syncEdge = s.syncEdge := rfl
@[simp] theorem State.setEg_clockStarted (n : Nat) (x : EgressX) : (s.setEg n x).clockStarted = s.clockStarted := rfl
@[simp] theorem State.setEg_clocks (n : Nat) (x : EgressX) : (s.setEg n x).clocks = s.clocks := rfl
@[simp] theorem State.setEg_tbs (n : Nat) (x : EgressX) : (s.setEg n x).tbs = s.tbs := rfl
@[simp] theorem State.setEg_compares (n : Nat) (x : EgressX) : (s.setEg n x).compares = s.compares := rfl
@[simp] theorem State.setEg_fireflies (n : Nat) (x : EgressX) : (s.setEg n x).fireflies = s.fireflies := rfl
@[simp] theorem State.setEg_captures (n : Nat) (x : EgressX) : (s.setEg n x).captures = s.captures := rfl
@[simp] theorem State.setEg_ring (n : Nat) (x : EgressX) : (s.setEg n x).ring = s.ring := rfl
@[simp] theorem State.setEg_ringSeq (n : Nat) (x : EgressX) : (s.setEg n x).ringSeq = s.ringSeq := rfl
@[simp] theorem State.setEg_rewind (n : Nat) (x : EgressX) : (s.setEg n x).rewind = s.rewind := rfl
@[simp] theorem State.setEg_replicas (n : Nat) (x : EgressX) : (s.setEg n x).replicas = s.replicas := rfl
@[simp] theorem State.setEg_detectors (n : Nat) (x : EgressX) : (s.setEg n x).detectors = s.detectors := rfl
@[simp] theorem State.setEg_ptpDiscarded (n : Nat) (x : EgressX) : (s.setEg n x).ptpDiscarded = s.ptpDiscarded := rfl
@[simp] theorem State.setEg_slots (n : Nat) (x : EgressX) : (s.setEg n x).slots = s.slots := rfl
@[simp] theorem State.setEg_freqSwitching (n : Nat) (x : EgressX) : (s.setEg n x).freqSwitching = s.freqSwitching := rfl
@[simp] theorem State.setEg_frequency (n : Nat) (x : EgressX) : (s.setEg n x).frequency = s.frequency := rfl
@[simp] theorem State.setEg_freqMovedAt (n : Nat) (x : EgressX) : (s.setEg n x).freqMovedAt = s.freqMovedAt := rfl
@[simp] theorem State.setEg_freqNear (n : Nat) (x : EgressX) : (s.setEg n x).freqNear = s.freqNear := rfl
@[simp] theorem State.setEg_freqHeld (n : Nat) (x : EgressX) : (s.setEg n x).freqHeld = s.freqHeld := rfl
@[simp] theorem State.setEg_freqLog (n : Nat) (x : EgressX) : (s.setEg n x).freqLog = s.freqLog := rfl
@[simp] theorem State.setEg_esmcOut (n : Nat) (x : EgressX) : (s.setEg n x).esmcOut = s.esmcOut := rfl
@[simp] theorem State.setEg_analog (n : Nat) (x : EgressX) : (s.setEg n x).analog = s.analog := rfl
@[simp] theorem State.setEg_analogShadow (n : Nat) (x : EgressX) : (s.setEg n x).analogShadow = s.analogShadow := rfl
@[simp] theorem State.setEg_roundRuns (n : Nat) (x : EgressX) : (s.setEg n x).roundRuns = s.roundRuns := rfl
@[simp] theorem State.setEg_roundDue (n : Nat) (x : EgressX) : (s.setEg n x).roundDue = s.roundDue := rfl
@[simp] theorem State.setEg_trims (n : Nat) (x : EgressX) : (s.setEg n x).trims = s.trims := rfl
@[simp] theorem State.setEg_twin (n : Nat) (x : EgressX) : (s.setEg n x).twin = s.twin := rfl
@[simp] theorem State.setEg_messages (n : Nat) (x : EgressX) : (s.setEg n x).messages = s.messages := rfl
@[simp] theorem State.setEg_settings (n : Nat) (x : EgressX) : (s.setEg n x).settings = s.settings := rfl
@[simp] theorem State.setEg_sourceCounts (n : Nat) (x : EgressX) : (s.setEg n x).sourceCounts = s.sourceCounts := rfl
@[simp] theorem State.setEg_log (n : Nat) (x : EgressX) : (s.setEg n x).log = s.log := rfl
@[simp] theorem State.setEg_logRead (n : Nat) (x : EgressX) : (s.setEg n x).logRead = s.logRead := rfl
@[simp] theorem State.setEg_firstFault (n : Nat) (x : EgressX) : (s.setEg n x).firstFault = s.firstFault := rfl
@[simp] theorem State.setEg_safeRecord (n : Nat) (x : EgressX) : (s.setEg n x).safeRecord = s.safeRecord := rfl
@[simp] theorem State.setEg_fences (n : Nat) (x : EgressX) : (s.setEg n x).fences = s.fences := rfl
@[simp] theorem State.setEg_masks (n : Nat) (x : EgressX) : (s.setEg n x).masks = s.masks := rfl
@[simp] theorem State.setEg_windows (n : Nat) (x : EgressX) : (s.setEg n x).windows = s.windows := rfl
@[simp] theorem State.setEg_errN (n : Nat) (x : EgressX) : (s.setEg n x).errN = s.errN := rfl
@[simp] theorem State.setEg_safeN (n : Nat) (x : EgressX) : (s.setEg n x).safeN = s.safeN := rfl
@[simp] theorem State.setEg_errNHold (n : Nat) (x : EgressX) : (s.setEg n x).errNHold = s.errNHold := rfl
@[simp] theorem State.setEg_domains (n : Nat) (x : EgressX) : (s.setEg n x).domains = s.domains := rfl
@[simp] theorem State.setEg_sessions (n : Nat) (x : EgressX) : (s.setEg n x).sessions = s.sessions := rfl
@[simp] theorem State.setEg_commits (n : Nat) (x : EgressX) : (s.setEg n x).commits = s.commits := rfl
@[simp] theorem State.setEg_engines (n : Nat) (x : EgressX) : (s.setEg n x).engines = s.engines := rfl
@[simp] theorem State.setEg_rings (n : Nat) (x : EgressX) : (s.setEg n x).rings = s.rings := rfl
@[simp] theorem State.setEg_perf (n : Nat) (x : EgressX) : (s.setEg n x).perf = s.perf := rfl
@[simp] theorem State.setEg_overflow (n : Nat) (x : EgressX) : (s.setEg n x).overflow = s.overflow := rfl
@[simp] theorem State.setEg_clearPending (n : Nat) (x : EgressX) : (s.setEg n x).clearPending = s.clearPending := rfl
@[simp] theorem State.setEg_regionSample (n : Nat) (x : EgressX) : (s.setEg n x).regionSample = s.regionSample := rfl
@[simp] theorem State.setEg_regionClear (n : Nat) (x : EgressX) : (s.setEg n x).regionClear = s.regionClear := rfl
@[simp] theorem State.setEg_epochAt (n : Nat) (x : EgressX) : (s.setEg n x).epochAt = s.epochAt := rfl
@[simp] theorem State.setEg_monitorPending (n : Nat) (x : EgressX) : (s.setEg n x).monitorPending = s.monitorPending := rfl
@[simp] theorem State.setEg_monitors (n : Nat) (x : EgressX) : (s.setEg n x).monitors = s.monitors := rfl
@[simp] theorem State.setEg_monitorFirst (n : Nat) (x : EgressX) : (s.setEg n x).monitorFirst = s.monitorFirst := rfl
@[simp] theorem State.setEg_security (n : Nat) (x : EgressX) : (s.setEg n x).security = s.security := rfl
@[simp] theorem State.setEg_start (n : Nat) (x : EgressX) : (s.setEg n x).start = s.start := rfl
@[simp] theorem State.setEg_bankDraws (n : Nat) (x : EgressX) : (s.setEg n x).bankDraws = s.bankDraws := rfl
@[simp] theorem State.setEg_shared (n : Nat) (x : EgressX) : (s.setEg n x).shared = s.shared := rfl
@[simp] theorem State.setEg_pending (n : Nat) (x : EgressX) : (s.setEg n x).pending = s.pending := rfl

/-! ## setQueue -/
@[simp] theorem State.setQueue_now (p q : Nat) (x : QueueX) : (s.setQueue p q x).now = s.now := rfl
@[simp] theorem State.setQueue_regs (p q : Nat) (x : QueueX) : (s.setQueue p q x).regs = s.regs := rfl
@[simp] theorem State.setQueue_blobs (p q : Nat) (x : QueueX) : (s.setQueue p q x).blobs = s.blobs := rfl
@[simp] theorem State.setQueue_lastStatus (p q : Nat) (x : QueueX) : (s.setQueue p q x).lastStatus = s.lastStatus := rfl
@[simp] theorem State.setQueue_lastDetail (p q : Nat) (x : QueueX) : (s.setQueue p q x).lastDetail = s.lastDetail := rfl
@[simp] theorem State.setQueue_spiOut (p q : Nat) (x : QueueX) : (s.setQueue p q x).spiOut = s.spiOut := rfl
@[simp] theorem State.setQueue_outgoing (p q : Nat) (x : QueueX) : (s.setQueue p q x).outgoing = s.outgoing := rfl
@[simp] theorem State.setQueue_lanes (p q : Nat) (x : QueueX) : (s.setQueue p q x).lanes = s.lanes := rfl
@[simp] theorem State.setQueue_ports (p q : Nat) (x : QueueX) : (s.setQueue p q x).ports = s.ports := rfl
@[simp] theorem State.setQueue_timing (p q : Nat) (x : QueueX) : (s.setQueue p q x).timing = s.timing := rfl
@[simp] theorem State.setQueue_egress (p q : Nat) (x : QueueX) : (s.setQueue p q x).egress = s.egress := rfl
@[simp] theorem State.setQueue_regions (p q : Nat) (x : QueueX) : (s.setQueue p q x).regions = s.regions := rfl
@[simp] theorem State.setQueue_rx (p q : Nat) (x : QueueX) : (s.setQueue p q x).rx = s.rx := rfl
@[simp] theorem State.setQueue_frameCount (p q : Nat) (x : QueueX) : (s.setQueue p q x).frameCount = s.frameCount := rfl
@[simp] theorem State.setQueue_pllLost (p q : Nat) (x : QueueX) : (s.setQueue p q x).pllLost = s.pllLost := rfl
@[simp] theorem State.setQueue_modReset (p q : Nat) (x : QueueX) : (s.setQueue p q x).modReset = s.modReset := rfl
@[simp] theorem State.setQueue_busQueue (p q : Nat) (x : QueueX) : (s.setQueue p q x).busQueue = s.busQueue := rfl
@[simp] theorem State.setQueue_modResetWait (p q : Nat) (x : QueueX) : (s.setQueue p q x).modResetWait = s.modResetWait := rfl
@[simp] theorem State.setQueue_fdb (p q : Nat) (x : QueueX) : (s.setQueue p q x).fdb = s.fdb := rfl
@[simp] theorem State.setQueue_vlan (p q : Nat) (x : QueueX) : (s.setQueue p q x).vlan = s.vlan := rfl
@[simp] theorem State.setQueue_classifier (p q : Nat) (x : QueueX) : (s.setQueue p q x).classifier = s.classifier := rfl
@[simp] theorem State.setQueue_streams (p q : Nat) (x : QueueX) : (s.setQueue p q x).streams = s.streams := rfl
@[simp] theorem State.setQueue_contracts (p q : Nat) (x : QueueX) : (s.setQueue p q x).contracts = s.contracts := rfl
@[simp] theorem State.setQueue_portSets (p q : Nat) (x : QueueX) : (s.setQueue p q x).portSets = s.portSets := rfl
@[simp] theorem State.setQueue_invalid (p q : Nat) (x : QueueX) : (s.setQueue p q x).invalid = s.invalid := rfl
@[simp] theorem State.setQueue_folding (p q : Nat) (x : QueueX) : (s.setQueue p q x).folding = s.folding := rfl
@[simp] theorem State.setQueue_drains (p q : Nat) (x : QueueX) : (s.setQueue p q x).drains = s.drains := rfl
@[simp] theorem State.setQueue_lastDrain (p q : Nat) (x : QueueX) : (s.setQueue p q x).lastDrain = s.lastDrain := rfl
@[simp] theorem State.setQueue_learns (p q : Nat) (x : QueueX) : (s.setQueue p q x).learns = s.learns := rfl
@[simp] theorem State.setQueue_learnRate (p q : Nat) (x : QueueX) : (s.setQueue p q x).learnRate = s.learnRate := rfl
@[simp] theorem State.setQueue_gates (p q : Nat) (x : QueueX) : (s.setQueue p q x).gates = s.gates := rfl
@[simp] theorem State.setQueue_frer (p q : Nat) (x : QueueX) : (s.setQueue p q x).frer = s.frer := rfl
@[simp] theorem State.setQueue_contractX (p q : Nat) (x : QueueX) : (s.setQueue p q x).contractX = s.contractX := rfl
@[simp] theorem State.setQueue_breaches (p q : Nat) (x : QueueX) : (s.setQueue p q x).breaches = s.breaches := rfl
@[simp] theorem State.setQueue_overflowed (p q : Nat) (x : QueueX) : (s.setQueue p q x).overflowed = s.overflowed := rfl
@[simp] theorem State.setQueue_flights (p q : Nat) (x : QueueX) : (s.setQueue p q x).flights = s.flights := rfl
@[simp] theorem State.setQueue_crossings (p q : Nat) (x : QueueX) : (s.setQueue p q x).crossings = s.crossings := rfl
@[simp] theorem State.setQueue_wire (p q : Nat) (x : QueueX) : (s.setQueue p q x).wire = s.wire := rfl
@[simp] theorem State.setQueue_syncEdge (p q : Nat) (x : QueueX) : (s.setQueue p q x).syncEdge = s.syncEdge := rfl
@[simp] theorem State.setQueue_clockStarted (p q : Nat) (x : QueueX) : (s.setQueue p q x).clockStarted = s.clockStarted := rfl
@[simp] theorem State.setQueue_clocks (p q : Nat) (x : QueueX) : (s.setQueue p q x).clocks = s.clocks := rfl
@[simp] theorem State.setQueue_tbs (p q : Nat) (x : QueueX) : (s.setQueue p q x).tbs = s.tbs := rfl
@[simp] theorem State.setQueue_compares (p q : Nat) (x : QueueX) : (s.setQueue p q x).compares = s.compares := rfl
@[simp] theorem State.setQueue_fireflies (p q : Nat) (x : QueueX) : (s.setQueue p q x).fireflies = s.fireflies := rfl
@[simp] theorem State.setQueue_captures (p q : Nat) (x : QueueX) : (s.setQueue p q x).captures = s.captures := rfl
@[simp] theorem State.setQueue_ring (p q : Nat) (x : QueueX) : (s.setQueue p q x).ring = s.ring := rfl
@[simp] theorem State.setQueue_ringSeq (p q : Nat) (x : QueueX) : (s.setQueue p q x).ringSeq = s.ringSeq := rfl
@[simp] theorem State.setQueue_rewind (p q : Nat) (x : QueueX) : (s.setQueue p q x).rewind = s.rewind := rfl
@[simp] theorem State.setQueue_replicas (p q : Nat) (x : QueueX) : (s.setQueue p q x).replicas = s.replicas := rfl
@[simp] theorem State.setQueue_detectors (p q : Nat) (x : QueueX) : (s.setQueue p q x).detectors = s.detectors := rfl
@[simp] theorem State.setQueue_ptpDiscarded (p q : Nat) (x : QueueX) : (s.setQueue p q x).ptpDiscarded = s.ptpDiscarded := rfl
@[simp] theorem State.setQueue_slots (p q : Nat) (x : QueueX) : (s.setQueue p q x).slots = s.slots := rfl
@[simp] theorem State.setQueue_freqSwitching (p q : Nat) (x : QueueX) : (s.setQueue p q x).freqSwitching = s.freqSwitching := rfl
@[simp] theorem State.setQueue_frequency (p q : Nat) (x : QueueX) : (s.setQueue p q x).frequency = s.frequency := rfl
@[simp] theorem State.setQueue_freqMovedAt (p q : Nat) (x : QueueX) : (s.setQueue p q x).freqMovedAt = s.freqMovedAt := rfl
@[simp] theorem State.setQueue_freqNear (p q : Nat) (x : QueueX) : (s.setQueue p q x).freqNear = s.freqNear := rfl
@[simp] theorem State.setQueue_freqHeld (p q : Nat) (x : QueueX) : (s.setQueue p q x).freqHeld = s.freqHeld := rfl
@[simp] theorem State.setQueue_freqLog (p q : Nat) (x : QueueX) : (s.setQueue p q x).freqLog = s.freqLog := rfl
@[simp] theorem State.setQueue_esmcOut (p q : Nat) (x : QueueX) : (s.setQueue p q x).esmcOut = s.esmcOut := rfl
@[simp] theorem State.setQueue_analog (p q : Nat) (x : QueueX) : (s.setQueue p q x).analog = s.analog := rfl
@[simp] theorem State.setQueue_analogShadow (p q : Nat) (x : QueueX) : (s.setQueue p q x).analogShadow = s.analogShadow := rfl
@[simp] theorem State.setQueue_roundRuns (p q : Nat) (x : QueueX) : (s.setQueue p q x).roundRuns = s.roundRuns := rfl
@[simp] theorem State.setQueue_roundDue (p q : Nat) (x : QueueX) : (s.setQueue p q x).roundDue = s.roundDue := rfl
@[simp] theorem State.setQueue_trims (p q : Nat) (x : QueueX) : (s.setQueue p q x).trims = s.trims := rfl
@[simp] theorem State.setQueue_twin (p q : Nat) (x : QueueX) : (s.setQueue p q x).twin = s.twin := rfl
@[simp] theorem State.setQueue_messages (p q : Nat) (x : QueueX) : (s.setQueue p q x).messages = s.messages := rfl
@[simp] theorem State.setQueue_settings (p q : Nat) (x : QueueX) : (s.setQueue p q x).settings = s.settings := rfl
@[simp] theorem State.setQueue_sourceCounts (p q : Nat) (x : QueueX) : (s.setQueue p q x).sourceCounts = s.sourceCounts := rfl
@[simp] theorem State.setQueue_log (p q : Nat) (x : QueueX) : (s.setQueue p q x).log = s.log := rfl
@[simp] theorem State.setQueue_logRead (p q : Nat) (x : QueueX) : (s.setQueue p q x).logRead = s.logRead := rfl
@[simp] theorem State.setQueue_firstFault (p q : Nat) (x : QueueX) : (s.setQueue p q x).firstFault = s.firstFault := rfl
@[simp] theorem State.setQueue_safeRecord (p q : Nat) (x : QueueX) : (s.setQueue p q x).safeRecord = s.safeRecord := rfl
@[simp] theorem State.setQueue_fences (p q : Nat) (x : QueueX) : (s.setQueue p q x).fences = s.fences := rfl
@[simp] theorem State.setQueue_masks (p q : Nat) (x : QueueX) : (s.setQueue p q x).masks = s.masks := rfl
@[simp] theorem State.setQueue_windows (p q : Nat) (x : QueueX) : (s.setQueue p q x).windows = s.windows := rfl
@[simp] theorem State.setQueue_errN (p q : Nat) (x : QueueX) : (s.setQueue p q x).errN = s.errN := rfl
@[simp] theorem State.setQueue_safeN (p q : Nat) (x : QueueX) : (s.setQueue p q x).safeN = s.safeN := rfl
@[simp] theorem State.setQueue_errNHold (p q : Nat) (x : QueueX) : (s.setQueue p q x).errNHold = s.errNHold := rfl
@[simp] theorem State.setQueue_domains (p q : Nat) (x : QueueX) : (s.setQueue p q x).domains = s.domains := rfl
@[simp] theorem State.setQueue_sessions (p q : Nat) (x : QueueX) : (s.setQueue p q x).sessions = s.sessions := rfl
@[simp] theorem State.setQueue_commits (p q : Nat) (x : QueueX) : (s.setQueue p q x).commits = s.commits := rfl
@[simp] theorem State.setQueue_engines (p q : Nat) (x : QueueX) : (s.setQueue p q x).engines = s.engines := rfl
@[simp] theorem State.setQueue_rings (p q : Nat) (x : QueueX) : (s.setQueue p q x).rings = s.rings := rfl
@[simp] theorem State.setQueue_perf (p q : Nat) (x : QueueX) : (s.setQueue p q x).perf = s.perf := rfl
@[simp] theorem State.setQueue_overflow (p q : Nat) (x : QueueX) : (s.setQueue p q x).overflow = s.overflow := rfl
@[simp] theorem State.setQueue_clearPending (p q : Nat) (x : QueueX) : (s.setQueue p q x).clearPending = s.clearPending := rfl
@[simp] theorem State.setQueue_regionSample (p q : Nat) (x : QueueX) : (s.setQueue p q x).regionSample = s.regionSample := rfl
@[simp] theorem State.setQueue_regionClear (p q : Nat) (x : QueueX) : (s.setQueue p q x).regionClear = s.regionClear := rfl
@[simp] theorem State.setQueue_epochAt (p q : Nat) (x : QueueX) : (s.setQueue p q x).epochAt = s.epochAt := rfl
@[simp] theorem State.setQueue_monitorPending (p q : Nat) (x : QueueX) : (s.setQueue p q x).monitorPending = s.monitorPending := rfl
@[simp] theorem State.setQueue_monitors (p q : Nat) (x : QueueX) : (s.setQueue p q x).monitors = s.monitors := rfl
@[simp] theorem State.setQueue_monitorFirst (p q : Nat) (x : QueueX) : (s.setQueue p q x).monitorFirst = s.monitorFirst := rfl
@[simp] theorem State.setQueue_security (p q : Nat) (x : QueueX) : (s.setQueue p q x).security = s.security := rfl
@[simp] theorem State.setQueue_start (p q : Nat) (x : QueueX) : (s.setQueue p q x).start = s.start := rfl
@[simp] theorem State.setQueue_bankDraws (p q : Nat) (x : QueueX) : (s.setQueue p q x).bankDraws = s.bankDraws := rfl
@[simp] theorem State.setQueue_shared (p q : Nat) (x : QueueX) : (s.setQueue p q x).shared = s.shared := rfl
@[simp] theorem State.setQueue_pending (p q : Nat) (x : QueueX) : (s.setQueue p q x).pending = s.pending := rfl

/-! ## setRegion -/
@[simp] theorem State.setRegion_now (n : Nat) (x : RegionX) : (s.setRegion n x).now = s.now := rfl
@[simp] theorem State.setRegion_regs (n : Nat) (x : RegionX) : (s.setRegion n x).regs = s.regs := rfl
@[simp] theorem State.setRegion_blobs (n : Nat) (x : RegionX) : (s.setRegion n x).blobs = s.blobs := rfl
@[simp] theorem State.setRegion_lastStatus (n : Nat) (x : RegionX) : (s.setRegion n x).lastStatus = s.lastStatus := rfl
@[simp] theorem State.setRegion_lastDetail (n : Nat) (x : RegionX) : (s.setRegion n x).lastDetail = s.lastDetail := rfl
@[simp] theorem State.setRegion_spiOut (n : Nat) (x : RegionX) : (s.setRegion n x).spiOut = s.spiOut := rfl
@[simp] theorem State.setRegion_outgoing (n : Nat) (x : RegionX) : (s.setRegion n x).outgoing = s.outgoing := rfl
@[simp] theorem State.setRegion_lanes (n : Nat) (x : RegionX) : (s.setRegion n x).lanes = s.lanes := rfl
@[simp] theorem State.setRegion_ports (n : Nat) (x : RegionX) : (s.setRegion n x).ports = s.ports := rfl
@[simp] theorem State.setRegion_timing (n : Nat) (x : RegionX) : (s.setRegion n x).timing = s.timing := rfl
@[simp] theorem State.setRegion_egress (n : Nat) (x : RegionX) : (s.setRegion n x).egress = s.egress := rfl
@[simp] theorem State.setRegion_queues (n : Nat) (x : RegionX) : (s.setRegion n x).queues = s.queues := rfl
@[simp] theorem State.setRegion_rx (n : Nat) (x : RegionX) : (s.setRegion n x).rx = s.rx := rfl
@[simp] theorem State.setRegion_frameCount (n : Nat) (x : RegionX) : (s.setRegion n x).frameCount = s.frameCount := rfl
@[simp] theorem State.setRegion_pllLost (n : Nat) (x : RegionX) : (s.setRegion n x).pllLost = s.pllLost := rfl
@[simp] theorem State.setRegion_modReset (n : Nat) (x : RegionX) : (s.setRegion n x).modReset = s.modReset := rfl
@[simp] theorem State.setRegion_busQueue (n : Nat) (x : RegionX) : (s.setRegion n x).busQueue = s.busQueue := rfl
@[simp] theorem State.setRegion_modResetWait (n : Nat) (x : RegionX) : (s.setRegion n x).modResetWait = s.modResetWait := rfl
@[simp] theorem State.setRegion_fdb (n : Nat) (x : RegionX) : (s.setRegion n x).fdb = s.fdb := rfl
@[simp] theorem State.setRegion_vlan (n : Nat) (x : RegionX) : (s.setRegion n x).vlan = s.vlan := rfl
@[simp] theorem State.setRegion_classifier (n : Nat) (x : RegionX) : (s.setRegion n x).classifier = s.classifier := rfl
@[simp] theorem State.setRegion_streams (n : Nat) (x : RegionX) : (s.setRegion n x).streams = s.streams := rfl
@[simp] theorem State.setRegion_contracts (n : Nat) (x : RegionX) : (s.setRegion n x).contracts = s.contracts := rfl
@[simp] theorem State.setRegion_portSets (n : Nat) (x : RegionX) : (s.setRegion n x).portSets = s.portSets := rfl
@[simp] theorem State.setRegion_invalid (n : Nat) (x : RegionX) : (s.setRegion n x).invalid = s.invalid := rfl
@[simp] theorem State.setRegion_folding (n : Nat) (x : RegionX) : (s.setRegion n x).folding = s.folding := rfl
@[simp] theorem State.setRegion_drains (n : Nat) (x : RegionX) : (s.setRegion n x).drains = s.drains := rfl
@[simp] theorem State.setRegion_lastDrain (n : Nat) (x : RegionX) : (s.setRegion n x).lastDrain = s.lastDrain := rfl
@[simp] theorem State.setRegion_learns (n : Nat) (x : RegionX) : (s.setRegion n x).learns = s.learns := rfl
@[simp] theorem State.setRegion_learnRate (n : Nat) (x : RegionX) : (s.setRegion n x).learnRate = s.learnRate := rfl
@[simp] theorem State.setRegion_gates (n : Nat) (x : RegionX) : (s.setRegion n x).gates = s.gates := rfl
@[simp] theorem State.setRegion_frer (n : Nat) (x : RegionX) : (s.setRegion n x).frer = s.frer := rfl
@[simp] theorem State.setRegion_contractX (n : Nat) (x : RegionX) : (s.setRegion n x).contractX = s.contractX := rfl
@[simp] theorem State.setRegion_breaches (n : Nat) (x : RegionX) : (s.setRegion n x).breaches = s.breaches := rfl
@[simp] theorem State.setRegion_overflowed (n : Nat) (x : RegionX) : (s.setRegion n x).overflowed = s.overflowed := rfl
@[simp] theorem State.setRegion_flights (n : Nat) (x : RegionX) : (s.setRegion n x).flights = s.flights := rfl
@[simp] theorem State.setRegion_crossings (n : Nat) (x : RegionX) : (s.setRegion n x).crossings = s.crossings := rfl
@[simp] theorem State.setRegion_wire (n : Nat) (x : RegionX) : (s.setRegion n x).wire = s.wire := rfl
@[simp] theorem State.setRegion_syncEdge (n : Nat) (x : RegionX) : (s.setRegion n x).syncEdge = s.syncEdge := rfl
@[simp] theorem State.setRegion_clockStarted (n : Nat) (x : RegionX) : (s.setRegion n x).clockStarted = s.clockStarted := rfl
@[simp] theorem State.setRegion_clocks (n : Nat) (x : RegionX) : (s.setRegion n x).clocks = s.clocks := rfl
@[simp] theorem State.setRegion_tbs (n : Nat) (x : RegionX) : (s.setRegion n x).tbs = s.tbs := rfl
@[simp] theorem State.setRegion_compares (n : Nat) (x : RegionX) : (s.setRegion n x).compares = s.compares := rfl
@[simp] theorem State.setRegion_fireflies (n : Nat) (x : RegionX) : (s.setRegion n x).fireflies = s.fireflies := rfl
@[simp] theorem State.setRegion_captures (n : Nat) (x : RegionX) : (s.setRegion n x).captures = s.captures := rfl
@[simp] theorem State.setRegion_ring (n : Nat) (x : RegionX) : (s.setRegion n x).ring = s.ring := rfl
@[simp] theorem State.setRegion_ringSeq (n : Nat) (x : RegionX) : (s.setRegion n x).ringSeq = s.ringSeq := rfl
@[simp] theorem State.setRegion_rewind (n : Nat) (x : RegionX) : (s.setRegion n x).rewind = s.rewind := rfl
@[simp] theorem State.setRegion_replicas (n : Nat) (x : RegionX) : (s.setRegion n x).replicas = s.replicas := rfl
@[simp] theorem State.setRegion_detectors (n : Nat) (x : RegionX) : (s.setRegion n x).detectors = s.detectors := rfl
@[simp] theorem State.setRegion_ptpDiscarded (n : Nat) (x : RegionX) : (s.setRegion n x).ptpDiscarded = s.ptpDiscarded := rfl
@[simp] theorem State.setRegion_slots (n : Nat) (x : RegionX) : (s.setRegion n x).slots = s.slots := rfl
@[simp] theorem State.setRegion_freqSwitching (n : Nat) (x : RegionX) : (s.setRegion n x).freqSwitching = s.freqSwitching := rfl
@[simp] theorem State.setRegion_frequency (n : Nat) (x : RegionX) : (s.setRegion n x).frequency = s.frequency := rfl
@[simp] theorem State.setRegion_freqMovedAt (n : Nat) (x : RegionX) : (s.setRegion n x).freqMovedAt = s.freqMovedAt := rfl
@[simp] theorem State.setRegion_freqNear (n : Nat) (x : RegionX) : (s.setRegion n x).freqNear = s.freqNear := rfl
@[simp] theorem State.setRegion_freqHeld (n : Nat) (x : RegionX) : (s.setRegion n x).freqHeld = s.freqHeld := rfl
@[simp] theorem State.setRegion_freqLog (n : Nat) (x : RegionX) : (s.setRegion n x).freqLog = s.freqLog := rfl
@[simp] theorem State.setRegion_esmcOut (n : Nat) (x : RegionX) : (s.setRegion n x).esmcOut = s.esmcOut := rfl
@[simp] theorem State.setRegion_analog (n : Nat) (x : RegionX) : (s.setRegion n x).analog = s.analog := rfl
@[simp] theorem State.setRegion_analogShadow (n : Nat) (x : RegionX) : (s.setRegion n x).analogShadow = s.analogShadow := rfl
@[simp] theorem State.setRegion_roundRuns (n : Nat) (x : RegionX) : (s.setRegion n x).roundRuns = s.roundRuns := rfl
@[simp] theorem State.setRegion_roundDue (n : Nat) (x : RegionX) : (s.setRegion n x).roundDue = s.roundDue := rfl
@[simp] theorem State.setRegion_trims (n : Nat) (x : RegionX) : (s.setRegion n x).trims = s.trims := rfl
@[simp] theorem State.setRegion_twin (n : Nat) (x : RegionX) : (s.setRegion n x).twin = s.twin := rfl
@[simp] theorem State.setRegion_messages (n : Nat) (x : RegionX) : (s.setRegion n x).messages = s.messages := rfl
@[simp] theorem State.setRegion_settings (n : Nat) (x : RegionX) : (s.setRegion n x).settings = s.settings := rfl
@[simp] theorem State.setRegion_sourceCounts (n : Nat) (x : RegionX) : (s.setRegion n x).sourceCounts = s.sourceCounts := rfl
@[simp] theorem State.setRegion_log (n : Nat) (x : RegionX) : (s.setRegion n x).log = s.log := rfl
@[simp] theorem State.setRegion_logRead (n : Nat) (x : RegionX) : (s.setRegion n x).logRead = s.logRead := rfl
@[simp] theorem State.setRegion_firstFault (n : Nat) (x : RegionX) : (s.setRegion n x).firstFault = s.firstFault := rfl
@[simp] theorem State.setRegion_safeRecord (n : Nat) (x : RegionX) : (s.setRegion n x).safeRecord = s.safeRecord := rfl
@[simp] theorem State.setRegion_fences (n : Nat) (x : RegionX) : (s.setRegion n x).fences = s.fences := rfl
@[simp] theorem State.setRegion_masks (n : Nat) (x : RegionX) : (s.setRegion n x).masks = s.masks := rfl
@[simp] theorem State.setRegion_windows (n : Nat) (x : RegionX) : (s.setRegion n x).windows = s.windows := rfl
@[simp] theorem State.setRegion_errN (n : Nat) (x : RegionX) : (s.setRegion n x).errN = s.errN := rfl
@[simp] theorem State.setRegion_safeN (n : Nat) (x : RegionX) : (s.setRegion n x).safeN = s.safeN := rfl
@[simp] theorem State.setRegion_errNHold (n : Nat) (x : RegionX) : (s.setRegion n x).errNHold = s.errNHold := rfl
@[simp] theorem State.setRegion_domains (n : Nat) (x : RegionX) : (s.setRegion n x).domains = s.domains := rfl
@[simp] theorem State.setRegion_sessions (n : Nat) (x : RegionX) : (s.setRegion n x).sessions = s.sessions := rfl
@[simp] theorem State.setRegion_commits (n : Nat) (x : RegionX) : (s.setRegion n x).commits = s.commits := rfl
@[simp] theorem State.setRegion_engines (n : Nat) (x : RegionX) : (s.setRegion n x).engines = s.engines := rfl
@[simp] theorem State.setRegion_rings (n : Nat) (x : RegionX) : (s.setRegion n x).rings = s.rings := rfl
@[simp] theorem State.setRegion_perf (n : Nat) (x : RegionX) : (s.setRegion n x).perf = s.perf := rfl
@[simp] theorem State.setRegion_overflow (n : Nat) (x : RegionX) : (s.setRegion n x).overflow = s.overflow := rfl
@[simp] theorem State.setRegion_clearPending (n : Nat) (x : RegionX) : (s.setRegion n x).clearPending = s.clearPending := rfl
@[simp] theorem State.setRegion_regionSample (n : Nat) (x : RegionX) : (s.setRegion n x).regionSample = s.regionSample := rfl
@[simp] theorem State.setRegion_regionClear (n : Nat) (x : RegionX) : (s.setRegion n x).regionClear = s.regionClear := rfl
@[simp] theorem State.setRegion_epochAt (n : Nat) (x : RegionX) : (s.setRegion n x).epochAt = s.epochAt := rfl
@[simp] theorem State.setRegion_monitorPending (n : Nat) (x : RegionX) : (s.setRegion n x).monitorPending = s.monitorPending := rfl
@[simp] theorem State.setRegion_monitors (n : Nat) (x : RegionX) : (s.setRegion n x).monitors = s.monitors := rfl
@[simp] theorem State.setRegion_monitorFirst (n : Nat) (x : RegionX) : (s.setRegion n x).monitorFirst = s.monitorFirst := rfl
@[simp] theorem State.setRegion_security (n : Nat) (x : RegionX) : (s.setRegion n x).security = s.security := rfl
@[simp] theorem State.setRegion_start (n : Nat) (x : RegionX) : (s.setRegion n x).start = s.start := rfl
@[simp] theorem State.setRegion_bankDraws (n : Nat) (x : RegionX) : (s.setRegion n x).bankDraws = s.bankDraws := rfl
@[simp] theorem State.setRegion_shared (n : Nat) (x : RegionX) : (s.setRegion n x).shared = s.shared := rfl
@[simp] theorem State.setRegion_pending (n : Nat) (x : RegionX) : (s.setRegion n x).pending = s.pending := rfl

/-! ## setRx -/
@[simp] theorem State.setRx_now (n : Nat) (x : Option RxFrame) : (s.setRx n x).now = s.now := rfl
@[simp] theorem State.setRx_regs (n : Nat) (x : Option RxFrame) : (s.setRx n x).regs = s.regs := rfl
@[simp] theorem State.setRx_blobs (n : Nat) (x : Option RxFrame) : (s.setRx n x).blobs = s.blobs := rfl
@[simp] theorem State.setRx_lastStatus (n : Nat) (x : Option RxFrame) : (s.setRx n x).lastStatus = s.lastStatus := rfl
@[simp] theorem State.setRx_lastDetail (n : Nat) (x : Option RxFrame) : (s.setRx n x).lastDetail = s.lastDetail := rfl
@[simp] theorem State.setRx_spiOut (n : Nat) (x : Option RxFrame) : (s.setRx n x).spiOut = s.spiOut := rfl
@[simp] theorem State.setRx_outgoing (n : Nat) (x : Option RxFrame) : (s.setRx n x).outgoing = s.outgoing := rfl
@[simp] theorem State.setRx_lanes (n : Nat) (x : Option RxFrame) : (s.setRx n x).lanes = s.lanes := rfl
@[simp] theorem State.setRx_ports (n : Nat) (x : Option RxFrame) : (s.setRx n x).ports = s.ports := rfl
@[simp] theorem State.setRx_timing (n : Nat) (x : Option RxFrame) : (s.setRx n x).timing = s.timing := rfl
@[simp] theorem State.setRx_egress (n : Nat) (x : Option RxFrame) : (s.setRx n x).egress = s.egress := rfl
@[simp] theorem State.setRx_queues (n : Nat) (x : Option RxFrame) : (s.setRx n x).queues = s.queues := rfl
@[simp] theorem State.setRx_regions (n : Nat) (x : Option RxFrame) : (s.setRx n x).regions = s.regions := rfl
@[simp] theorem State.setRx_frameCount (n : Nat) (x : Option RxFrame) : (s.setRx n x).frameCount = s.frameCount := rfl
@[simp] theorem State.setRx_pllLost (n : Nat) (x : Option RxFrame) : (s.setRx n x).pllLost = s.pllLost := rfl
@[simp] theorem State.setRx_modReset (n : Nat) (x : Option RxFrame) : (s.setRx n x).modReset = s.modReset := rfl
@[simp] theorem State.setRx_busQueue (n : Nat) (x : Option RxFrame) : (s.setRx n x).busQueue = s.busQueue := rfl
@[simp] theorem State.setRx_modResetWait (n : Nat) (x : Option RxFrame) : (s.setRx n x).modResetWait = s.modResetWait := rfl
@[simp] theorem State.setRx_fdb (n : Nat) (x : Option RxFrame) : (s.setRx n x).fdb = s.fdb := rfl
@[simp] theorem State.setRx_vlan (n : Nat) (x : Option RxFrame) : (s.setRx n x).vlan = s.vlan := rfl
@[simp] theorem State.setRx_classifier (n : Nat) (x : Option RxFrame) : (s.setRx n x).classifier = s.classifier := rfl
@[simp] theorem State.setRx_streams (n : Nat) (x : Option RxFrame) : (s.setRx n x).streams = s.streams := rfl
@[simp] theorem State.setRx_contracts (n : Nat) (x : Option RxFrame) : (s.setRx n x).contracts = s.contracts := rfl
@[simp] theorem State.setRx_portSets (n : Nat) (x : Option RxFrame) : (s.setRx n x).portSets = s.portSets := rfl
@[simp] theorem State.setRx_invalid (n : Nat) (x : Option RxFrame) : (s.setRx n x).invalid = s.invalid := rfl
@[simp] theorem State.setRx_folding (n : Nat) (x : Option RxFrame) : (s.setRx n x).folding = s.folding := rfl
@[simp] theorem State.setRx_drains (n : Nat) (x : Option RxFrame) : (s.setRx n x).drains = s.drains := rfl
@[simp] theorem State.setRx_lastDrain (n : Nat) (x : Option RxFrame) : (s.setRx n x).lastDrain = s.lastDrain := rfl
@[simp] theorem State.setRx_learns (n : Nat) (x : Option RxFrame) : (s.setRx n x).learns = s.learns := rfl
@[simp] theorem State.setRx_learnRate (n : Nat) (x : Option RxFrame) : (s.setRx n x).learnRate = s.learnRate := rfl
@[simp] theorem State.setRx_gates (n : Nat) (x : Option RxFrame) : (s.setRx n x).gates = s.gates := rfl
@[simp] theorem State.setRx_frer (n : Nat) (x : Option RxFrame) : (s.setRx n x).frer = s.frer := rfl
@[simp] theorem State.setRx_contractX (n : Nat) (x : Option RxFrame) : (s.setRx n x).contractX = s.contractX := rfl
@[simp] theorem State.setRx_breaches (n : Nat) (x : Option RxFrame) : (s.setRx n x).breaches = s.breaches := rfl
@[simp] theorem State.setRx_overflowed (n : Nat) (x : Option RxFrame) : (s.setRx n x).overflowed = s.overflowed := rfl
@[simp] theorem State.setRx_flights (n : Nat) (x : Option RxFrame) : (s.setRx n x).flights = s.flights := rfl
@[simp] theorem State.setRx_crossings (n : Nat) (x : Option RxFrame) : (s.setRx n x).crossings = s.crossings := rfl
@[simp] theorem State.setRx_wire (n : Nat) (x : Option RxFrame) : (s.setRx n x).wire = s.wire := rfl
@[simp] theorem State.setRx_syncEdge (n : Nat) (x : Option RxFrame) : (s.setRx n x).syncEdge = s.syncEdge := rfl
@[simp] theorem State.setRx_clockStarted (n : Nat) (x : Option RxFrame) : (s.setRx n x).clockStarted = s.clockStarted := rfl
@[simp] theorem State.setRx_clocks (n : Nat) (x : Option RxFrame) : (s.setRx n x).clocks = s.clocks := rfl
@[simp] theorem State.setRx_tbs (n : Nat) (x : Option RxFrame) : (s.setRx n x).tbs = s.tbs := rfl
@[simp] theorem State.setRx_compares (n : Nat) (x : Option RxFrame) : (s.setRx n x).compares = s.compares := rfl
@[simp] theorem State.setRx_fireflies (n : Nat) (x : Option RxFrame) : (s.setRx n x).fireflies = s.fireflies := rfl
@[simp] theorem State.setRx_captures (n : Nat) (x : Option RxFrame) : (s.setRx n x).captures = s.captures := rfl
@[simp] theorem State.setRx_ring (n : Nat) (x : Option RxFrame) : (s.setRx n x).ring = s.ring := rfl
@[simp] theorem State.setRx_ringSeq (n : Nat) (x : Option RxFrame) : (s.setRx n x).ringSeq = s.ringSeq := rfl
@[simp] theorem State.setRx_rewind (n : Nat) (x : Option RxFrame) : (s.setRx n x).rewind = s.rewind := rfl
@[simp] theorem State.setRx_replicas (n : Nat) (x : Option RxFrame) : (s.setRx n x).replicas = s.replicas := rfl
@[simp] theorem State.setRx_detectors (n : Nat) (x : Option RxFrame) : (s.setRx n x).detectors = s.detectors := rfl
@[simp] theorem State.setRx_ptpDiscarded (n : Nat) (x : Option RxFrame) : (s.setRx n x).ptpDiscarded = s.ptpDiscarded := rfl
@[simp] theorem State.setRx_slots (n : Nat) (x : Option RxFrame) : (s.setRx n x).slots = s.slots := rfl
@[simp] theorem State.setRx_freqSwitching (n : Nat) (x : Option RxFrame) : (s.setRx n x).freqSwitching = s.freqSwitching := rfl
@[simp] theorem State.setRx_frequency (n : Nat) (x : Option RxFrame) : (s.setRx n x).frequency = s.frequency := rfl
@[simp] theorem State.setRx_freqMovedAt (n : Nat) (x : Option RxFrame) : (s.setRx n x).freqMovedAt = s.freqMovedAt := rfl
@[simp] theorem State.setRx_freqNear (n : Nat) (x : Option RxFrame) : (s.setRx n x).freqNear = s.freqNear := rfl
@[simp] theorem State.setRx_freqHeld (n : Nat) (x : Option RxFrame) : (s.setRx n x).freqHeld = s.freqHeld := rfl
@[simp] theorem State.setRx_freqLog (n : Nat) (x : Option RxFrame) : (s.setRx n x).freqLog = s.freqLog := rfl
@[simp] theorem State.setRx_esmcOut (n : Nat) (x : Option RxFrame) : (s.setRx n x).esmcOut = s.esmcOut := rfl
@[simp] theorem State.setRx_analog (n : Nat) (x : Option RxFrame) : (s.setRx n x).analog = s.analog := rfl
@[simp] theorem State.setRx_analogShadow (n : Nat) (x : Option RxFrame) : (s.setRx n x).analogShadow = s.analogShadow := rfl
@[simp] theorem State.setRx_roundRuns (n : Nat) (x : Option RxFrame) : (s.setRx n x).roundRuns = s.roundRuns := rfl
@[simp] theorem State.setRx_roundDue (n : Nat) (x : Option RxFrame) : (s.setRx n x).roundDue = s.roundDue := rfl
@[simp] theorem State.setRx_trims (n : Nat) (x : Option RxFrame) : (s.setRx n x).trims = s.trims := rfl
@[simp] theorem State.setRx_twin (n : Nat) (x : Option RxFrame) : (s.setRx n x).twin = s.twin := rfl
@[simp] theorem State.setRx_messages (n : Nat) (x : Option RxFrame) : (s.setRx n x).messages = s.messages := rfl
@[simp] theorem State.setRx_settings (n : Nat) (x : Option RxFrame) : (s.setRx n x).settings = s.settings := rfl
@[simp] theorem State.setRx_sourceCounts (n : Nat) (x : Option RxFrame) : (s.setRx n x).sourceCounts = s.sourceCounts := rfl
@[simp] theorem State.setRx_log (n : Nat) (x : Option RxFrame) : (s.setRx n x).log = s.log := rfl
@[simp] theorem State.setRx_logRead (n : Nat) (x : Option RxFrame) : (s.setRx n x).logRead = s.logRead := rfl
@[simp] theorem State.setRx_firstFault (n : Nat) (x : Option RxFrame) : (s.setRx n x).firstFault = s.firstFault := rfl
@[simp] theorem State.setRx_safeRecord (n : Nat) (x : Option RxFrame) : (s.setRx n x).safeRecord = s.safeRecord := rfl
@[simp] theorem State.setRx_fences (n : Nat) (x : Option RxFrame) : (s.setRx n x).fences = s.fences := rfl
@[simp] theorem State.setRx_masks (n : Nat) (x : Option RxFrame) : (s.setRx n x).masks = s.masks := rfl
@[simp] theorem State.setRx_windows (n : Nat) (x : Option RxFrame) : (s.setRx n x).windows = s.windows := rfl
@[simp] theorem State.setRx_errN (n : Nat) (x : Option RxFrame) : (s.setRx n x).errN = s.errN := rfl
@[simp] theorem State.setRx_safeN (n : Nat) (x : Option RxFrame) : (s.setRx n x).safeN = s.safeN := rfl
@[simp] theorem State.setRx_errNHold (n : Nat) (x : Option RxFrame) : (s.setRx n x).errNHold = s.errNHold := rfl
@[simp] theorem State.setRx_domains (n : Nat) (x : Option RxFrame) : (s.setRx n x).domains = s.domains := rfl
@[simp] theorem State.setRx_sessions (n : Nat) (x : Option RxFrame) : (s.setRx n x).sessions = s.sessions := rfl
@[simp] theorem State.setRx_commits (n : Nat) (x : Option RxFrame) : (s.setRx n x).commits = s.commits := rfl
@[simp] theorem State.setRx_engines (n : Nat) (x : Option RxFrame) : (s.setRx n x).engines = s.engines := rfl
@[simp] theorem State.setRx_rings (n : Nat) (x : Option RxFrame) : (s.setRx n x).rings = s.rings := rfl
@[simp] theorem State.setRx_perf (n : Nat) (x : Option RxFrame) : (s.setRx n x).perf = s.perf := rfl
@[simp] theorem State.setRx_overflow (n : Nat) (x : Option RxFrame) : (s.setRx n x).overflow = s.overflow := rfl
@[simp] theorem State.setRx_clearPending (n : Nat) (x : Option RxFrame) : (s.setRx n x).clearPending = s.clearPending := rfl
@[simp] theorem State.setRx_regionSample (n : Nat) (x : Option RxFrame) : (s.setRx n x).regionSample = s.regionSample := rfl
@[simp] theorem State.setRx_regionClear (n : Nat) (x : Option RxFrame) : (s.setRx n x).regionClear = s.regionClear := rfl
@[simp] theorem State.setRx_epochAt (n : Nat) (x : Option RxFrame) : (s.setRx n x).epochAt = s.epochAt := rfl
@[simp] theorem State.setRx_monitorPending (n : Nat) (x : Option RxFrame) : (s.setRx n x).monitorPending = s.monitorPending := rfl
@[simp] theorem State.setRx_monitors (n : Nat) (x : Option RxFrame) : (s.setRx n x).monitors = s.monitors := rfl
@[simp] theorem State.setRx_monitorFirst (n : Nat) (x : Option RxFrame) : (s.setRx n x).monitorFirst = s.monitorFirst := rfl
@[simp] theorem State.setRx_security (n : Nat) (x : Option RxFrame) : (s.setRx n x).security = s.security := rfl
@[simp] theorem State.setRx_start (n : Nat) (x : Option RxFrame) : (s.setRx n x).start = s.start := rfl
@[simp] theorem State.setRx_bankDraws (n : Nat) (x : Option RxFrame) : (s.setRx n x).bankDraws = s.bankDraws := rfl
@[simp] theorem State.setRx_shared (n : Nat) (x : Option RxFrame) : (s.setRx n x).shared = s.shared := rfl
@[simp] theorem State.setRx_pending (n : Nat) (x : Option RxFrame) : (s.setRx n x).pending = s.pending := rfl

/-! ## setTb -/
@[simp] theorem State.setTb_now (n : Nat) (x : TbX) : (s.setTb n x).now = s.now := rfl
@[simp] theorem State.setTb_regs (n : Nat) (x : TbX) : (s.setTb n x).regs = s.regs := rfl
@[simp] theorem State.setTb_blobs (n : Nat) (x : TbX) : (s.setTb n x).blobs = s.blobs := rfl
@[simp] theorem State.setTb_lastStatus (n : Nat) (x : TbX) : (s.setTb n x).lastStatus = s.lastStatus := rfl
@[simp] theorem State.setTb_lastDetail (n : Nat) (x : TbX) : (s.setTb n x).lastDetail = s.lastDetail := rfl
@[simp] theorem State.setTb_spiOut (n : Nat) (x : TbX) : (s.setTb n x).spiOut = s.spiOut := rfl
@[simp] theorem State.setTb_outgoing (n : Nat) (x : TbX) : (s.setTb n x).outgoing = s.outgoing := rfl
@[simp] theorem State.setTb_lanes (n : Nat) (x : TbX) : (s.setTb n x).lanes = s.lanes := rfl
@[simp] theorem State.setTb_ports (n : Nat) (x : TbX) : (s.setTb n x).ports = s.ports := rfl
@[simp] theorem State.setTb_timing (n : Nat) (x : TbX) : (s.setTb n x).timing = s.timing := rfl
@[simp] theorem State.setTb_egress (n : Nat) (x : TbX) : (s.setTb n x).egress = s.egress := rfl
@[simp] theorem State.setTb_queues (n : Nat) (x : TbX) : (s.setTb n x).queues = s.queues := rfl
@[simp] theorem State.setTb_regions (n : Nat) (x : TbX) : (s.setTb n x).regions = s.regions := rfl
@[simp] theorem State.setTb_rx (n : Nat) (x : TbX) : (s.setTb n x).rx = s.rx := rfl
@[simp] theorem State.setTb_frameCount (n : Nat) (x : TbX) : (s.setTb n x).frameCount = s.frameCount := rfl
@[simp] theorem State.setTb_pllLost (n : Nat) (x : TbX) : (s.setTb n x).pllLost = s.pllLost := rfl
@[simp] theorem State.setTb_modReset (n : Nat) (x : TbX) : (s.setTb n x).modReset = s.modReset := rfl
@[simp] theorem State.setTb_busQueue (n : Nat) (x : TbX) : (s.setTb n x).busQueue = s.busQueue := rfl
@[simp] theorem State.setTb_modResetWait (n : Nat) (x : TbX) : (s.setTb n x).modResetWait = s.modResetWait := rfl
@[simp] theorem State.setTb_fdb (n : Nat) (x : TbX) : (s.setTb n x).fdb = s.fdb := rfl
@[simp] theorem State.setTb_vlan (n : Nat) (x : TbX) : (s.setTb n x).vlan = s.vlan := rfl
@[simp] theorem State.setTb_classifier (n : Nat) (x : TbX) : (s.setTb n x).classifier = s.classifier := rfl
@[simp] theorem State.setTb_streams (n : Nat) (x : TbX) : (s.setTb n x).streams = s.streams := rfl
@[simp] theorem State.setTb_contracts (n : Nat) (x : TbX) : (s.setTb n x).contracts = s.contracts := rfl
@[simp] theorem State.setTb_portSets (n : Nat) (x : TbX) : (s.setTb n x).portSets = s.portSets := rfl
@[simp] theorem State.setTb_invalid (n : Nat) (x : TbX) : (s.setTb n x).invalid = s.invalid := rfl
@[simp] theorem State.setTb_folding (n : Nat) (x : TbX) : (s.setTb n x).folding = s.folding := rfl
@[simp] theorem State.setTb_drains (n : Nat) (x : TbX) : (s.setTb n x).drains = s.drains := rfl
@[simp] theorem State.setTb_lastDrain (n : Nat) (x : TbX) : (s.setTb n x).lastDrain = s.lastDrain := rfl
@[simp] theorem State.setTb_learns (n : Nat) (x : TbX) : (s.setTb n x).learns = s.learns := rfl
@[simp] theorem State.setTb_learnRate (n : Nat) (x : TbX) : (s.setTb n x).learnRate = s.learnRate := rfl
@[simp] theorem State.setTb_gates (n : Nat) (x : TbX) : (s.setTb n x).gates = s.gates := rfl
@[simp] theorem State.setTb_frer (n : Nat) (x : TbX) : (s.setTb n x).frer = s.frer := rfl
@[simp] theorem State.setTb_contractX (n : Nat) (x : TbX) : (s.setTb n x).contractX = s.contractX := rfl
@[simp] theorem State.setTb_breaches (n : Nat) (x : TbX) : (s.setTb n x).breaches = s.breaches := rfl
@[simp] theorem State.setTb_overflowed (n : Nat) (x : TbX) : (s.setTb n x).overflowed = s.overflowed := rfl
@[simp] theorem State.setTb_flights (n : Nat) (x : TbX) : (s.setTb n x).flights = s.flights := rfl
@[simp] theorem State.setTb_crossings (n : Nat) (x : TbX) : (s.setTb n x).crossings = s.crossings := rfl
@[simp] theorem State.setTb_wire (n : Nat) (x : TbX) : (s.setTb n x).wire = s.wire := rfl
@[simp] theorem State.setTb_syncEdge (n : Nat) (x : TbX) : (s.setTb n x).syncEdge = s.syncEdge := rfl
@[simp] theorem State.setTb_clockStarted (n : Nat) (x : TbX) : (s.setTb n x).clockStarted = s.clockStarted := rfl
@[simp] theorem State.setTb_clocks (n : Nat) (x : TbX) : (s.setTb n x).clocks = s.clocks := rfl
@[simp] theorem State.setTb_compares (n : Nat) (x : TbX) : (s.setTb n x).compares = s.compares := rfl
@[simp] theorem State.setTb_fireflies (n : Nat) (x : TbX) : (s.setTb n x).fireflies = s.fireflies := rfl
@[simp] theorem State.setTb_captures (n : Nat) (x : TbX) : (s.setTb n x).captures = s.captures := rfl
@[simp] theorem State.setTb_ring (n : Nat) (x : TbX) : (s.setTb n x).ring = s.ring := rfl
@[simp] theorem State.setTb_ringSeq (n : Nat) (x : TbX) : (s.setTb n x).ringSeq = s.ringSeq := rfl
@[simp] theorem State.setTb_rewind (n : Nat) (x : TbX) : (s.setTb n x).rewind = s.rewind := rfl
@[simp] theorem State.setTb_replicas (n : Nat) (x : TbX) : (s.setTb n x).replicas = s.replicas := rfl
@[simp] theorem State.setTb_detectors (n : Nat) (x : TbX) : (s.setTb n x).detectors = s.detectors := rfl
@[simp] theorem State.setTb_ptpDiscarded (n : Nat) (x : TbX) : (s.setTb n x).ptpDiscarded = s.ptpDiscarded := rfl
@[simp] theorem State.setTb_slots (n : Nat) (x : TbX) : (s.setTb n x).slots = s.slots := rfl
@[simp] theorem State.setTb_freqSwitching (n : Nat) (x : TbX) : (s.setTb n x).freqSwitching = s.freqSwitching := rfl
@[simp] theorem State.setTb_frequency (n : Nat) (x : TbX) : (s.setTb n x).frequency = s.frequency := rfl
@[simp] theorem State.setTb_freqMovedAt (n : Nat) (x : TbX) : (s.setTb n x).freqMovedAt = s.freqMovedAt := rfl
@[simp] theorem State.setTb_freqNear (n : Nat) (x : TbX) : (s.setTb n x).freqNear = s.freqNear := rfl
@[simp] theorem State.setTb_freqHeld (n : Nat) (x : TbX) : (s.setTb n x).freqHeld = s.freqHeld := rfl
@[simp] theorem State.setTb_freqLog (n : Nat) (x : TbX) : (s.setTb n x).freqLog = s.freqLog := rfl
@[simp] theorem State.setTb_esmcOut (n : Nat) (x : TbX) : (s.setTb n x).esmcOut = s.esmcOut := rfl
@[simp] theorem State.setTb_analog (n : Nat) (x : TbX) : (s.setTb n x).analog = s.analog := rfl
@[simp] theorem State.setTb_analogShadow (n : Nat) (x : TbX) : (s.setTb n x).analogShadow = s.analogShadow := rfl
@[simp] theorem State.setTb_roundRuns (n : Nat) (x : TbX) : (s.setTb n x).roundRuns = s.roundRuns := rfl
@[simp] theorem State.setTb_roundDue (n : Nat) (x : TbX) : (s.setTb n x).roundDue = s.roundDue := rfl
@[simp] theorem State.setTb_trims (n : Nat) (x : TbX) : (s.setTb n x).trims = s.trims := rfl
@[simp] theorem State.setTb_twin (n : Nat) (x : TbX) : (s.setTb n x).twin = s.twin := rfl
@[simp] theorem State.setTb_messages (n : Nat) (x : TbX) : (s.setTb n x).messages = s.messages := rfl
@[simp] theorem State.setTb_settings (n : Nat) (x : TbX) : (s.setTb n x).settings = s.settings := rfl
@[simp] theorem State.setTb_sourceCounts (n : Nat) (x : TbX) : (s.setTb n x).sourceCounts = s.sourceCounts := rfl
@[simp] theorem State.setTb_log (n : Nat) (x : TbX) : (s.setTb n x).log = s.log := rfl
@[simp] theorem State.setTb_logRead (n : Nat) (x : TbX) : (s.setTb n x).logRead = s.logRead := rfl
@[simp] theorem State.setTb_firstFault (n : Nat) (x : TbX) : (s.setTb n x).firstFault = s.firstFault := rfl
@[simp] theorem State.setTb_safeRecord (n : Nat) (x : TbX) : (s.setTb n x).safeRecord = s.safeRecord := rfl
@[simp] theorem State.setTb_fences (n : Nat) (x : TbX) : (s.setTb n x).fences = s.fences := rfl
@[simp] theorem State.setTb_masks (n : Nat) (x : TbX) : (s.setTb n x).masks = s.masks := rfl
@[simp] theorem State.setTb_windows (n : Nat) (x : TbX) : (s.setTb n x).windows = s.windows := rfl
@[simp] theorem State.setTb_errN (n : Nat) (x : TbX) : (s.setTb n x).errN = s.errN := rfl
@[simp] theorem State.setTb_safeN (n : Nat) (x : TbX) : (s.setTb n x).safeN = s.safeN := rfl
@[simp] theorem State.setTb_errNHold (n : Nat) (x : TbX) : (s.setTb n x).errNHold = s.errNHold := rfl
@[simp] theorem State.setTb_domains (n : Nat) (x : TbX) : (s.setTb n x).domains = s.domains := rfl
@[simp] theorem State.setTb_sessions (n : Nat) (x : TbX) : (s.setTb n x).sessions = s.sessions := rfl
@[simp] theorem State.setTb_commits (n : Nat) (x : TbX) : (s.setTb n x).commits = s.commits := rfl
@[simp] theorem State.setTb_engines (n : Nat) (x : TbX) : (s.setTb n x).engines = s.engines := rfl
@[simp] theorem State.setTb_rings (n : Nat) (x : TbX) : (s.setTb n x).rings = s.rings := rfl
@[simp] theorem State.setTb_perf (n : Nat) (x : TbX) : (s.setTb n x).perf = s.perf := rfl
@[simp] theorem State.setTb_overflow (n : Nat) (x : TbX) : (s.setTb n x).overflow = s.overflow := rfl
@[simp] theorem State.setTb_clearPending (n : Nat) (x : TbX) : (s.setTb n x).clearPending = s.clearPending := rfl
@[simp] theorem State.setTb_regionSample (n : Nat) (x : TbX) : (s.setTb n x).regionSample = s.regionSample := rfl
@[simp] theorem State.setTb_regionClear (n : Nat) (x : TbX) : (s.setTb n x).regionClear = s.regionClear := rfl
@[simp] theorem State.setTb_epochAt (n : Nat) (x : TbX) : (s.setTb n x).epochAt = s.epochAt := rfl
@[simp] theorem State.setTb_monitorPending (n : Nat) (x : TbX) : (s.setTb n x).monitorPending = s.monitorPending := rfl
@[simp] theorem State.setTb_monitors (n : Nat) (x : TbX) : (s.setTb n x).monitors = s.monitors := rfl
@[simp] theorem State.setTb_monitorFirst (n : Nat) (x : TbX) : (s.setTb n x).monitorFirst = s.monitorFirst := rfl
@[simp] theorem State.setTb_security (n : Nat) (x : TbX) : (s.setTb n x).security = s.security := rfl
@[simp] theorem State.setTb_start (n : Nat) (x : TbX) : (s.setTb n x).start = s.start := rfl
@[simp] theorem State.setTb_bankDraws (n : Nat) (x : TbX) : (s.setTb n x).bankDraws = s.bankDraws := rfl
@[simp] theorem State.setTb_shared (n : Nat) (x : TbX) : (s.setTb n x).shared = s.shared := rfl
@[simp] theorem State.setTb_pending (n : Nat) (x : TbX) : (s.setTb n x).pending = s.pending := rfl

/-! ## setCompare -/
@[simp] theorem State.setCompare_now (n : Nat) (x : CompareX) : (s.setCompare n x).now = s.now := rfl
@[simp] theorem State.setCompare_regs (n : Nat) (x : CompareX) : (s.setCompare n x).regs = s.regs := rfl
@[simp] theorem State.setCompare_blobs (n : Nat) (x : CompareX) : (s.setCompare n x).blobs = s.blobs := rfl
@[simp] theorem State.setCompare_lastStatus (n : Nat) (x : CompareX) : (s.setCompare n x).lastStatus = s.lastStatus := rfl
@[simp] theorem State.setCompare_lastDetail (n : Nat) (x : CompareX) : (s.setCompare n x).lastDetail = s.lastDetail := rfl
@[simp] theorem State.setCompare_spiOut (n : Nat) (x : CompareX) : (s.setCompare n x).spiOut = s.spiOut := rfl
@[simp] theorem State.setCompare_outgoing (n : Nat) (x : CompareX) : (s.setCompare n x).outgoing = s.outgoing := rfl
@[simp] theorem State.setCompare_lanes (n : Nat) (x : CompareX) : (s.setCompare n x).lanes = s.lanes := rfl
@[simp] theorem State.setCompare_ports (n : Nat) (x : CompareX) : (s.setCompare n x).ports = s.ports := rfl
@[simp] theorem State.setCompare_timing (n : Nat) (x : CompareX) : (s.setCompare n x).timing = s.timing := rfl
@[simp] theorem State.setCompare_egress (n : Nat) (x : CompareX) : (s.setCompare n x).egress = s.egress := rfl
@[simp] theorem State.setCompare_queues (n : Nat) (x : CompareX) : (s.setCompare n x).queues = s.queues := rfl
@[simp] theorem State.setCompare_regions (n : Nat) (x : CompareX) : (s.setCompare n x).regions = s.regions := rfl
@[simp] theorem State.setCompare_rx (n : Nat) (x : CompareX) : (s.setCompare n x).rx = s.rx := rfl
@[simp] theorem State.setCompare_frameCount (n : Nat) (x : CompareX) : (s.setCompare n x).frameCount = s.frameCount := rfl
@[simp] theorem State.setCompare_pllLost (n : Nat) (x : CompareX) : (s.setCompare n x).pllLost = s.pllLost := rfl
@[simp] theorem State.setCompare_modReset (n : Nat) (x : CompareX) : (s.setCompare n x).modReset = s.modReset := rfl
@[simp] theorem State.setCompare_busQueue (n : Nat) (x : CompareX) : (s.setCompare n x).busQueue = s.busQueue := rfl
@[simp] theorem State.setCompare_modResetWait (n : Nat) (x : CompareX) : (s.setCompare n x).modResetWait = s.modResetWait := rfl
@[simp] theorem State.setCompare_fdb (n : Nat) (x : CompareX) : (s.setCompare n x).fdb = s.fdb := rfl
@[simp] theorem State.setCompare_vlan (n : Nat) (x : CompareX) : (s.setCompare n x).vlan = s.vlan := rfl
@[simp] theorem State.setCompare_classifier (n : Nat) (x : CompareX) : (s.setCompare n x).classifier = s.classifier := rfl
@[simp] theorem State.setCompare_streams (n : Nat) (x : CompareX) : (s.setCompare n x).streams = s.streams := rfl
@[simp] theorem State.setCompare_contracts (n : Nat) (x : CompareX) : (s.setCompare n x).contracts = s.contracts := rfl
@[simp] theorem State.setCompare_portSets (n : Nat) (x : CompareX) : (s.setCompare n x).portSets = s.portSets := rfl
@[simp] theorem State.setCompare_invalid (n : Nat) (x : CompareX) : (s.setCompare n x).invalid = s.invalid := rfl
@[simp] theorem State.setCompare_folding (n : Nat) (x : CompareX) : (s.setCompare n x).folding = s.folding := rfl
@[simp] theorem State.setCompare_drains (n : Nat) (x : CompareX) : (s.setCompare n x).drains = s.drains := rfl
@[simp] theorem State.setCompare_lastDrain (n : Nat) (x : CompareX) : (s.setCompare n x).lastDrain = s.lastDrain := rfl
@[simp] theorem State.setCompare_learns (n : Nat) (x : CompareX) : (s.setCompare n x).learns = s.learns := rfl
@[simp] theorem State.setCompare_learnRate (n : Nat) (x : CompareX) : (s.setCompare n x).learnRate = s.learnRate := rfl
@[simp] theorem State.setCompare_gates (n : Nat) (x : CompareX) : (s.setCompare n x).gates = s.gates := rfl
@[simp] theorem State.setCompare_frer (n : Nat) (x : CompareX) : (s.setCompare n x).frer = s.frer := rfl
@[simp] theorem State.setCompare_contractX (n : Nat) (x : CompareX) : (s.setCompare n x).contractX = s.contractX := rfl
@[simp] theorem State.setCompare_breaches (n : Nat) (x : CompareX) : (s.setCompare n x).breaches = s.breaches := rfl
@[simp] theorem State.setCompare_overflowed (n : Nat) (x : CompareX) : (s.setCompare n x).overflowed = s.overflowed := rfl
@[simp] theorem State.setCompare_flights (n : Nat) (x : CompareX) : (s.setCompare n x).flights = s.flights := rfl
@[simp] theorem State.setCompare_crossings (n : Nat) (x : CompareX) : (s.setCompare n x).crossings = s.crossings := rfl
@[simp] theorem State.setCompare_wire (n : Nat) (x : CompareX) : (s.setCompare n x).wire = s.wire := rfl
@[simp] theorem State.setCompare_syncEdge (n : Nat) (x : CompareX) : (s.setCompare n x).syncEdge = s.syncEdge := rfl
@[simp] theorem State.setCompare_clockStarted (n : Nat) (x : CompareX) : (s.setCompare n x).clockStarted = s.clockStarted := rfl
@[simp] theorem State.setCompare_clocks (n : Nat) (x : CompareX) : (s.setCompare n x).clocks = s.clocks := rfl
@[simp] theorem State.setCompare_tbs (n : Nat) (x : CompareX) : (s.setCompare n x).tbs = s.tbs := rfl
@[simp] theorem State.setCompare_fireflies (n : Nat) (x : CompareX) : (s.setCompare n x).fireflies = s.fireflies := rfl
@[simp] theorem State.setCompare_captures (n : Nat) (x : CompareX) : (s.setCompare n x).captures = s.captures := rfl
@[simp] theorem State.setCompare_ring (n : Nat) (x : CompareX) : (s.setCompare n x).ring = s.ring := rfl
@[simp] theorem State.setCompare_ringSeq (n : Nat) (x : CompareX) : (s.setCompare n x).ringSeq = s.ringSeq := rfl
@[simp] theorem State.setCompare_rewind (n : Nat) (x : CompareX) : (s.setCompare n x).rewind = s.rewind := rfl
@[simp] theorem State.setCompare_replicas (n : Nat) (x : CompareX) : (s.setCompare n x).replicas = s.replicas := rfl
@[simp] theorem State.setCompare_detectors (n : Nat) (x : CompareX) : (s.setCompare n x).detectors = s.detectors := rfl
@[simp] theorem State.setCompare_ptpDiscarded (n : Nat) (x : CompareX) : (s.setCompare n x).ptpDiscarded = s.ptpDiscarded := rfl
@[simp] theorem State.setCompare_slots (n : Nat) (x : CompareX) : (s.setCompare n x).slots = s.slots := rfl
@[simp] theorem State.setCompare_freqSwitching (n : Nat) (x : CompareX) : (s.setCompare n x).freqSwitching = s.freqSwitching := rfl
@[simp] theorem State.setCompare_frequency (n : Nat) (x : CompareX) : (s.setCompare n x).frequency = s.frequency := rfl
@[simp] theorem State.setCompare_freqMovedAt (n : Nat) (x : CompareX) : (s.setCompare n x).freqMovedAt = s.freqMovedAt := rfl
@[simp] theorem State.setCompare_freqNear (n : Nat) (x : CompareX) : (s.setCompare n x).freqNear = s.freqNear := rfl
@[simp] theorem State.setCompare_freqHeld (n : Nat) (x : CompareX) : (s.setCompare n x).freqHeld = s.freqHeld := rfl
@[simp] theorem State.setCompare_freqLog (n : Nat) (x : CompareX) : (s.setCompare n x).freqLog = s.freqLog := rfl
@[simp] theorem State.setCompare_esmcOut (n : Nat) (x : CompareX) : (s.setCompare n x).esmcOut = s.esmcOut := rfl
@[simp] theorem State.setCompare_analog (n : Nat) (x : CompareX) : (s.setCompare n x).analog = s.analog := rfl
@[simp] theorem State.setCompare_analogShadow (n : Nat) (x : CompareX) : (s.setCompare n x).analogShadow = s.analogShadow := rfl
@[simp] theorem State.setCompare_roundRuns (n : Nat) (x : CompareX) : (s.setCompare n x).roundRuns = s.roundRuns := rfl
@[simp] theorem State.setCompare_roundDue (n : Nat) (x : CompareX) : (s.setCompare n x).roundDue = s.roundDue := rfl
@[simp] theorem State.setCompare_trims (n : Nat) (x : CompareX) : (s.setCompare n x).trims = s.trims := rfl
@[simp] theorem State.setCompare_twin (n : Nat) (x : CompareX) : (s.setCompare n x).twin = s.twin := rfl
@[simp] theorem State.setCompare_messages (n : Nat) (x : CompareX) : (s.setCompare n x).messages = s.messages := rfl
@[simp] theorem State.setCompare_settings (n : Nat) (x : CompareX) : (s.setCompare n x).settings = s.settings := rfl
@[simp] theorem State.setCompare_sourceCounts (n : Nat) (x : CompareX) : (s.setCompare n x).sourceCounts = s.sourceCounts := rfl
@[simp] theorem State.setCompare_log (n : Nat) (x : CompareX) : (s.setCompare n x).log = s.log := rfl
@[simp] theorem State.setCompare_logRead (n : Nat) (x : CompareX) : (s.setCompare n x).logRead = s.logRead := rfl
@[simp] theorem State.setCompare_firstFault (n : Nat) (x : CompareX) : (s.setCompare n x).firstFault = s.firstFault := rfl
@[simp] theorem State.setCompare_safeRecord (n : Nat) (x : CompareX) : (s.setCompare n x).safeRecord = s.safeRecord := rfl
@[simp] theorem State.setCompare_fences (n : Nat) (x : CompareX) : (s.setCompare n x).fences = s.fences := rfl
@[simp] theorem State.setCompare_masks (n : Nat) (x : CompareX) : (s.setCompare n x).masks = s.masks := rfl
@[simp] theorem State.setCompare_windows (n : Nat) (x : CompareX) : (s.setCompare n x).windows = s.windows := rfl
@[simp] theorem State.setCompare_errN (n : Nat) (x : CompareX) : (s.setCompare n x).errN = s.errN := rfl
@[simp] theorem State.setCompare_safeN (n : Nat) (x : CompareX) : (s.setCompare n x).safeN = s.safeN := rfl
@[simp] theorem State.setCompare_errNHold (n : Nat) (x : CompareX) : (s.setCompare n x).errNHold = s.errNHold := rfl
@[simp] theorem State.setCompare_domains (n : Nat) (x : CompareX) : (s.setCompare n x).domains = s.domains := rfl
@[simp] theorem State.setCompare_sessions (n : Nat) (x : CompareX) : (s.setCompare n x).sessions = s.sessions := rfl
@[simp] theorem State.setCompare_commits (n : Nat) (x : CompareX) : (s.setCompare n x).commits = s.commits := rfl
@[simp] theorem State.setCompare_engines (n : Nat) (x : CompareX) : (s.setCompare n x).engines = s.engines := rfl
@[simp] theorem State.setCompare_rings (n : Nat) (x : CompareX) : (s.setCompare n x).rings = s.rings := rfl
@[simp] theorem State.setCompare_perf (n : Nat) (x : CompareX) : (s.setCompare n x).perf = s.perf := rfl
@[simp] theorem State.setCompare_overflow (n : Nat) (x : CompareX) : (s.setCompare n x).overflow = s.overflow := rfl
@[simp] theorem State.setCompare_clearPending (n : Nat) (x : CompareX) : (s.setCompare n x).clearPending = s.clearPending := rfl
@[simp] theorem State.setCompare_regionSample (n : Nat) (x : CompareX) : (s.setCompare n x).regionSample = s.regionSample := rfl
@[simp] theorem State.setCompare_regionClear (n : Nat) (x : CompareX) : (s.setCompare n x).regionClear = s.regionClear := rfl
@[simp] theorem State.setCompare_epochAt (n : Nat) (x : CompareX) : (s.setCompare n x).epochAt = s.epochAt := rfl
@[simp] theorem State.setCompare_monitorPending (n : Nat) (x : CompareX) : (s.setCompare n x).monitorPending = s.monitorPending := rfl
@[simp] theorem State.setCompare_monitors (n : Nat) (x : CompareX) : (s.setCompare n x).monitors = s.monitors := rfl
@[simp] theorem State.setCompare_monitorFirst (n : Nat) (x : CompareX) : (s.setCompare n x).monitorFirst = s.monitorFirst := rfl
@[simp] theorem State.setCompare_security (n : Nat) (x : CompareX) : (s.setCompare n x).security = s.security := rfl
@[simp] theorem State.setCompare_start (n : Nat) (x : CompareX) : (s.setCompare n x).start = s.start := rfl
@[simp] theorem State.setCompare_bankDraws (n : Nat) (x : CompareX) : (s.setCompare n x).bankDraws = s.bankDraws := rfl
@[simp] theorem State.setCompare_shared (n : Nat) (x : CompareX) : (s.setCompare n x).shared = s.shared := rfl
@[simp] theorem State.setCompare_pending (n : Nat) (x : CompareX) : (s.setCompare n x).pending = s.pending := rfl

/-! ## setFirefly -/
@[simp] theorem State.setFirefly_now (n : Nat) (x : FireflyX) : (s.setFirefly n x).now = s.now := rfl
@[simp] theorem State.setFirefly_regs (n : Nat) (x : FireflyX) : (s.setFirefly n x).regs = s.regs := rfl
@[simp] theorem State.setFirefly_blobs (n : Nat) (x : FireflyX) : (s.setFirefly n x).blobs = s.blobs := rfl
@[simp] theorem State.setFirefly_lastStatus (n : Nat) (x : FireflyX) : (s.setFirefly n x).lastStatus = s.lastStatus := rfl
@[simp] theorem State.setFirefly_lastDetail (n : Nat) (x : FireflyX) : (s.setFirefly n x).lastDetail = s.lastDetail := rfl
@[simp] theorem State.setFirefly_spiOut (n : Nat) (x : FireflyX) : (s.setFirefly n x).spiOut = s.spiOut := rfl
@[simp] theorem State.setFirefly_outgoing (n : Nat) (x : FireflyX) : (s.setFirefly n x).outgoing = s.outgoing := rfl
@[simp] theorem State.setFirefly_lanes (n : Nat) (x : FireflyX) : (s.setFirefly n x).lanes = s.lanes := rfl
@[simp] theorem State.setFirefly_ports (n : Nat) (x : FireflyX) : (s.setFirefly n x).ports = s.ports := rfl
@[simp] theorem State.setFirefly_timing (n : Nat) (x : FireflyX) : (s.setFirefly n x).timing = s.timing := rfl
@[simp] theorem State.setFirefly_egress (n : Nat) (x : FireflyX) : (s.setFirefly n x).egress = s.egress := rfl
@[simp] theorem State.setFirefly_queues (n : Nat) (x : FireflyX) : (s.setFirefly n x).queues = s.queues := rfl
@[simp] theorem State.setFirefly_regions (n : Nat) (x : FireflyX) : (s.setFirefly n x).regions = s.regions := rfl
@[simp] theorem State.setFirefly_rx (n : Nat) (x : FireflyX) : (s.setFirefly n x).rx = s.rx := rfl
@[simp] theorem State.setFirefly_frameCount (n : Nat) (x : FireflyX) : (s.setFirefly n x).frameCount = s.frameCount := rfl
@[simp] theorem State.setFirefly_pllLost (n : Nat) (x : FireflyX) : (s.setFirefly n x).pllLost = s.pllLost := rfl
@[simp] theorem State.setFirefly_modReset (n : Nat) (x : FireflyX) : (s.setFirefly n x).modReset = s.modReset := rfl
@[simp] theorem State.setFirefly_busQueue (n : Nat) (x : FireflyX) : (s.setFirefly n x).busQueue = s.busQueue := rfl
@[simp] theorem State.setFirefly_modResetWait (n : Nat) (x : FireflyX) : (s.setFirefly n x).modResetWait = s.modResetWait := rfl
@[simp] theorem State.setFirefly_fdb (n : Nat) (x : FireflyX) : (s.setFirefly n x).fdb = s.fdb := rfl
@[simp] theorem State.setFirefly_vlan (n : Nat) (x : FireflyX) : (s.setFirefly n x).vlan = s.vlan := rfl
@[simp] theorem State.setFirefly_classifier (n : Nat) (x : FireflyX) : (s.setFirefly n x).classifier = s.classifier := rfl
@[simp] theorem State.setFirefly_streams (n : Nat) (x : FireflyX) : (s.setFirefly n x).streams = s.streams := rfl
@[simp] theorem State.setFirefly_contracts (n : Nat) (x : FireflyX) : (s.setFirefly n x).contracts = s.contracts := rfl
@[simp] theorem State.setFirefly_portSets (n : Nat) (x : FireflyX) : (s.setFirefly n x).portSets = s.portSets := rfl
@[simp] theorem State.setFirefly_invalid (n : Nat) (x : FireflyX) : (s.setFirefly n x).invalid = s.invalid := rfl
@[simp] theorem State.setFirefly_folding (n : Nat) (x : FireflyX) : (s.setFirefly n x).folding = s.folding := rfl
@[simp] theorem State.setFirefly_drains (n : Nat) (x : FireflyX) : (s.setFirefly n x).drains = s.drains := rfl
@[simp] theorem State.setFirefly_lastDrain (n : Nat) (x : FireflyX) : (s.setFirefly n x).lastDrain = s.lastDrain := rfl
@[simp] theorem State.setFirefly_learns (n : Nat) (x : FireflyX) : (s.setFirefly n x).learns = s.learns := rfl
@[simp] theorem State.setFirefly_learnRate (n : Nat) (x : FireflyX) : (s.setFirefly n x).learnRate = s.learnRate := rfl
@[simp] theorem State.setFirefly_gates (n : Nat) (x : FireflyX) : (s.setFirefly n x).gates = s.gates := rfl
@[simp] theorem State.setFirefly_frer (n : Nat) (x : FireflyX) : (s.setFirefly n x).frer = s.frer := rfl
@[simp] theorem State.setFirefly_contractX (n : Nat) (x : FireflyX) : (s.setFirefly n x).contractX = s.contractX := rfl
@[simp] theorem State.setFirefly_breaches (n : Nat) (x : FireflyX) : (s.setFirefly n x).breaches = s.breaches := rfl
@[simp] theorem State.setFirefly_overflowed (n : Nat) (x : FireflyX) : (s.setFirefly n x).overflowed = s.overflowed := rfl
@[simp] theorem State.setFirefly_flights (n : Nat) (x : FireflyX) : (s.setFirefly n x).flights = s.flights := rfl
@[simp] theorem State.setFirefly_crossings (n : Nat) (x : FireflyX) : (s.setFirefly n x).crossings = s.crossings := rfl
@[simp] theorem State.setFirefly_wire (n : Nat) (x : FireflyX) : (s.setFirefly n x).wire = s.wire := rfl
@[simp] theorem State.setFirefly_syncEdge (n : Nat) (x : FireflyX) : (s.setFirefly n x).syncEdge = s.syncEdge := rfl
@[simp] theorem State.setFirefly_clockStarted (n : Nat) (x : FireflyX) : (s.setFirefly n x).clockStarted = s.clockStarted := rfl
@[simp] theorem State.setFirefly_clocks (n : Nat) (x : FireflyX) : (s.setFirefly n x).clocks = s.clocks := rfl
@[simp] theorem State.setFirefly_tbs (n : Nat) (x : FireflyX) : (s.setFirefly n x).tbs = s.tbs := rfl
@[simp] theorem State.setFirefly_compares (n : Nat) (x : FireflyX) : (s.setFirefly n x).compares = s.compares := rfl
@[simp] theorem State.setFirefly_captures (n : Nat) (x : FireflyX) : (s.setFirefly n x).captures = s.captures := rfl
@[simp] theorem State.setFirefly_ring (n : Nat) (x : FireflyX) : (s.setFirefly n x).ring = s.ring := rfl
@[simp] theorem State.setFirefly_ringSeq (n : Nat) (x : FireflyX) : (s.setFirefly n x).ringSeq = s.ringSeq := rfl
@[simp] theorem State.setFirefly_rewind (n : Nat) (x : FireflyX) : (s.setFirefly n x).rewind = s.rewind := rfl
@[simp] theorem State.setFirefly_replicas (n : Nat) (x : FireflyX) : (s.setFirefly n x).replicas = s.replicas := rfl
@[simp] theorem State.setFirefly_detectors (n : Nat) (x : FireflyX) : (s.setFirefly n x).detectors = s.detectors := rfl
@[simp] theorem State.setFirefly_ptpDiscarded (n : Nat) (x : FireflyX) : (s.setFirefly n x).ptpDiscarded = s.ptpDiscarded := rfl
@[simp] theorem State.setFirefly_slots (n : Nat) (x : FireflyX) : (s.setFirefly n x).slots = s.slots := rfl
@[simp] theorem State.setFirefly_freqSwitching (n : Nat) (x : FireflyX) : (s.setFirefly n x).freqSwitching = s.freqSwitching := rfl
@[simp] theorem State.setFirefly_frequency (n : Nat) (x : FireflyX) : (s.setFirefly n x).frequency = s.frequency := rfl
@[simp] theorem State.setFirefly_freqMovedAt (n : Nat) (x : FireflyX) : (s.setFirefly n x).freqMovedAt = s.freqMovedAt := rfl
@[simp] theorem State.setFirefly_freqNear (n : Nat) (x : FireflyX) : (s.setFirefly n x).freqNear = s.freqNear := rfl
@[simp] theorem State.setFirefly_freqHeld (n : Nat) (x : FireflyX) : (s.setFirefly n x).freqHeld = s.freqHeld := rfl
@[simp] theorem State.setFirefly_freqLog (n : Nat) (x : FireflyX) : (s.setFirefly n x).freqLog = s.freqLog := rfl
@[simp] theorem State.setFirefly_esmcOut (n : Nat) (x : FireflyX) : (s.setFirefly n x).esmcOut = s.esmcOut := rfl
@[simp] theorem State.setFirefly_analog (n : Nat) (x : FireflyX) : (s.setFirefly n x).analog = s.analog := rfl
@[simp] theorem State.setFirefly_analogShadow (n : Nat) (x : FireflyX) : (s.setFirefly n x).analogShadow = s.analogShadow := rfl
@[simp] theorem State.setFirefly_roundRuns (n : Nat) (x : FireflyX) : (s.setFirefly n x).roundRuns = s.roundRuns := rfl
@[simp] theorem State.setFirefly_roundDue (n : Nat) (x : FireflyX) : (s.setFirefly n x).roundDue = s.roundDue := rfl
@[simp] theorem State.setFirefly_trims (n : Nat) (x : FireflyX) : (s.setFirefly n x).trims = s.trims := rfl
@[simp] theorem State.setFirefly_twin (n : Nat) (x : FireflyX) : (s.setFirefly n x).twin = s.twin := rfl
@[simp] theorem State.setFirefly_messages (n : Nat) (x : FireflyX) : (s.setFirefly n x).messages = s.messages := rfl
@[simp] theorem State.setFirefly_settings (n : Nat) (x : FireflyX) : (s.setFirefly n x).settings = s.settings := rfl
@[simp] theorem State.setFirefly_sourceCounts (n : Nat) (x : FireflyX) : (s.setFirefly n x).sourceCounts = s.sourceCounts := rfl
@[simp] theorem State.setFirefly_log (n : Nat) (x : FireflyX) : (s.setFirefly n x).log = s.log := rfl
@[simp] theorem State.setFirefly_logRead (n : Nat) (x : FireflyX) : (s.setFirefly n x).logRead = s.logRead := rfl
@[simp] theorem State.setFirefly_firstFault (n : Nat) (x : FireflyX) : (s.setFirefly n x).firstFault = s.firstFault := rfl
@[simp] theorem State.setFirefly_safeRecord (n : Nat) (x : FireflyX) : (s.setFirefly n x).safeRecord = s.safeRecord := rfl
@[simp] theorem State.setFirefly_fences (n : Nat) (x : FireflyX) : (s.setFirefly n x).fences = s.fences := rfl
@[simp] theorem State.setFirefly_masks (n : Nat) (x : FireflyX) : (s.setFirefly n x).masks = s.masks := rfl
@[simp] theorem State.setFirefly_windows (n : Nat) (x : FireflyX) : (s.setFirefly n x).windows = s.windows := rfl
@[simp] theorem State.setFirefly_errN (n : Nat) (x : FireflyX) : (s.setFirefly n x).errN = s.errN := rfl
@[simp] theorem State.setFirefly_safeN (n : Nat) (x : FireflyX) : (s.setFirefly n x).safeN = s.safeN := rfl
@[simp] theorem State.setFirefly_errNHold (n : Nat) (x : FireflyX) : (s.setFirefly n x).errNHold = s.errNHold := rfl
@[simp] theorem State.setFirefly_domains (n : Nat) (x : FireflyX) : (s.setFirefly n x).domains = s.domains := rfl
@[simp] theorem State.setFirefly_sessions (n : Nat) (x : FireflyX) : (s.setFirefly n x).sessions = s.sessions := rfl
@[simp] theorem State.setFirefly_commits (n : Nat) (x : FireflyX) : (s.setFirefly n x).commits = s.commits := rfl
@[simp] theorem State.setFirefly_engines (n : Nat) (x : FireflyX) : (s.setFirefly n x).engines = s.engines := rfl
@[simp] theorem State.setFirefly_rings (n : Nat) (x : FireflyX) : (s.setFirefly n x).rings = s.rings := rfl
@[simp] theorem State.setFirefly_perf (n : Nat) (x : FireflyX) : (s.setFirefly n x).perf = s.perf := rfl
@[simp] theorem State.setFirefly_overflow (n : Nat) (x : FireflyX) : (s.setFirefly n x).overflow = s.overflow := rfl
@[simp] theorem State.setFirefly_clearPending (n : Nat) (x : FireflyX) : (s.setFirefly n x).clearPending = s.clearPending := rfl
@[simp] theorem State.setFirefly_regionSample (n : Nat) (x : FireflyX) : (s.setFirefly n x).regionSample = s.regionSample := rfl
@[simp] theorem State.setFirefly_regionClear (n : Nat) (x : FireflyX) : (s.setFirefly n x).regionClear = s.regionClear := rfl
@[simp] theorem State.setFirefly_epochAt (n : Nat) (x : FireflyX) : (s.setFirefly n x).epochAt = s.epochAt := rfl
@[simp] theorem State.setFirefly_monitorPending (n : Nat) (x : FireflyX) : (s.setFirefly n x).monitorPending = s.monitorPending := rfl
@[simp] theorem State.setFirefly_monitors (n : Nat) (x : FireflyX) : (s.setFirefly n x).monitors = s.monitors := rfl
@[simp] theorem State.setFirefly_monitorFirst (n : Nat) (x : FireflyX) : (s.setFirefly n x).monitorFirst = s.monitorFirst := rfl
@[simp] theorem State.setFirefly_security (n : Nat) (x : FireflyX) : (s.setFirefly n x).security = s.security := rfl
@[simp] theorem State.setFirefly_start (n : Nat) (x : FireflyX) : (s.setFirefly n x).start = s.start := rfl
@[simp] theorem State.setFirefly_bankDraws (n : Nat) (x : FireflyX) : (s.setFirefly n x).bankDraws = s.bankDraws := rfl
@[simp] theorem State.setFirefly_shared (n : Nat) (x : FireflyX) : (s.setFirefly n x).shared = s.shared := rfl
@[simp] theorem State.setFirefly_pending (n : Nat) (x : FireflyX) : (s.setFirefly n x).pending = s.pending := rfl

/-! ## setCapture -/
@[simp] theorem State.setCapture_now (n : Nat) (x : CaptureX) : (s.setCapture n x).now = s.now := rfl
@[simp] theorem State.setCapture_regs (n : Nat) (x : CaptureX) : (s.setCapture n x).regs = s.regs := rfl
@[simp] theorem State.setCapture_blobs (n : Nat) (x : CaptureX) : (s.setCapture n x).blobs = s.blobs := rfl
@[simp] theorem State.setCapture_lastStatus (n : Nat) (x : CaptureX) : (s.setCapture n x).lastStatus = s.lastStatus := rfl
@[simp] theorem State.setCapture_lastDetail (n : Nat) (x : CaptureX) : (s.setCapture n x).lastDetail = s.lastDetail := rfl
@[simp] theorem State.setCapture_spiOut (n : Nat) (x : CaptureX) : (s.setCapture n x).spiOut = s.spiOut := rfl
@[simp] theorem State.setCapture_outgoing (n : Nat) (x : CaptureX) : (s.setCapture n x).outgoing = s.outgoing := rfl
@[simp] theorem State.setCapture_lanes (n : Nat) (x : CaptureX) : (s.setCapture n x).lanes = s.lanes := rfl
@[simp] theorem State.setCapture_ports (n : Nat) (x : CaptureX) : (s.setCapture n x).ports = s.ports := rfl
@[simp] theorem State.setCapture_timing (n : Nat) (x : CaptureX) : (s.setCapture n x).timing = s.timing := rfl
@[simp] theorem State.setCapture_egress (n : Nat) (x : CaptureX) : (s.setCapture n x).egress = s.egress := rfl
@[simp] theorem State.setCapture_queues (n : Nat) (x : CaptureX) : (s.setCapture n x).queues = s.queues := rfl
@[simp] theorem State.setCapture_regions (n : Nat) (x : CaptureX) : (s.setCapture n x).regions = s.regions := rfl
@[simp] theorem State.setCapture_rx (n : Nat) (x : CaptureX) : (s.setCapture n x).rx = s.rx := rfl
@[simp] theorem State.setCapture_frameCount (n : Nat) (x : CaptureX) : (s.setCapture n x).frameCount = s.frameCount := rfl
@[simp] theorem State.setCapture_pllLost (n : Nat) (x : CaptureX) : (s.setCapture n x).pllLost = s.pllLost := rfl
@[simp] theorem State.setCapture_modReset (n : Nat) (x : CaptureX) : (s.setCapture n x).modReset = s.modReset := rfl
@[simp] theorem State.setCapture_busQueue (n : Nat) (x : CaptureX) : (s.setCapture n x).busQueue = s.busQueue := rfl
@[simp] theorem State.setCapture_modResetWait (n : Nat) (x : CaptureX) : (s.setCapture n x).modResetWait = s.modResetWait := rfl
@[simp] theorem State.setCapture_fdb (n : Nat) (x : CaptureX) : (s.setCapture n x).fdb = s.fdb := rfl
@[simp] theorem State.setCapture_vlan (n : Nat) (x : CaptureX) : (s.setCapture n x).vlan = s.vlan := rfl
@[simp] theorem State.setCapture_classifier (n : Nat) (x : CaptureX) : (s.setCapture n x).classifier = s.classifier := rfl
@[simp] theorem State.setCapture_streams (n : Nat) (x : CaptureX) : (s.setCapture n x).streams = s.streams := rfl
@[simp] theorem State.setCapture_contracts (n : Nat) (x : CaptureX) : (s.setCapture n x).contracts = s.contracts := rfl
@[simp] theorem State.setCapture_portSets (n : Nat) (x : CaptureX) : (s.setCapture n x).portSets = s.portSets := rfl
@[simp] theorem State.setCapture_invalid (n : Nat) (x : CaptureX) : (s.setCapture n x).invalid = s.invalid := rfl
@[simp] theorem State.setCapture_folding (n : Nat) (x : CaptureX) : (s.setCapture n x).folding = s.folding := rfl
@[simp] theorem State.setCapture_drains (n : Nat) (x : CaptureX) : (s.setCapture n x).drains = s.drains := rfl
@[simp] theorem State.setCapture_lastDrain (n : Nat) (x : CaptureX) : (s.setCapture n x).lastDrain = s.lastDrain := rfl
@[simp] theorem State.setCapture_learns (n : Nat) (x : CaptureX) : (s.setCapture n x).learns = s.learns := rfl
@[simp] theorem State.setCapture_learnRate (n : Nat) (x : CaptureX) : (s.setCapture n x).learnRate = s.learnRate := rfl
@[simp] theorem State.setCapture_gates (n : Nat) (x : CaptureX) : (s.setCapture n x).gates = s.gates := rfl
@[simp] theorem State.setCapture_frer (n : Nat) (x : CaptureX) : (s.setCapture n x).frer = s.frer := rfl
@[simp] theorem State.setCapture_contractX (n : Nat) (x : CaptureX) : (s.setCapture n x).contractX = s.contractX := rfl
@[simp] theorem State.setCapture_breaches (n : Nat) (x : CaptureX) : (s.setCapture n x).breaches = s.breaches := rfl
@[simp] theorem State.setCapture_overflowed (n : Nat) (x : CaptureX) : (s.setCapture n x).overflowed = s.overflowed := rfl
@[simp] theorem State.setCapture_flights (n : Nat) (x : CaptureX) : (s.setCapture n x).flights = s.flights := rfl
@[simp] theorem State.setCapture_crossings (n : Nat) (x : CaptureX) : (s.setCapture n x).crossings = s.crossings := rfl
@[simp] theorem State.setCapture_wire (n : Nat) (x : CaptureX) : (s.setCapture n x).wire = s.wire := rfl
@[simp] theorem State.setCapture_syncEdge (n : Nat) (x : CaptureX) : (s.setCapture n x).syncEdge = s.syncEdge := rfl
@[simp] theorem State.setCapture_clockStarted (n : Nat) (x : CaptureX) : (s.setCapture n x).clockStarted = s.clockStarted := rfl
@[simp] theorem State.setCapture_clocks (n : Nat) (x : CaptureX) : (s.setCapture n x).clocks = s.clocks := rfl
@[simp] theorem State.setCapture_tbs (n : Nat) (x : CaptureX) : (s.setCapture n x).tbs = s.tbs := rfl
@[simp] theorem State.setCapture_compares (n : Nat) (x : CaptureX) : (s.setCapture n x).compares = s.compares := rfl
@[simp] theorem State.setCapture_fireflies (n : Nat) (x : CaptureX) : (s.setCapture n x).fireflies = s.fireflies := rfl
@[simp] theorem State.setCapture_ring (n : Nat) (x : CaptureX) : (s.setCapture n x).ring = s.ring := rfl
@[simp] theorem State.setCapture_ringSeq (n : Nat) (x : CaptureX) : (s.setCapture n x).ringSeq = s.ringSeq := rfl
@[simp] theorem State.setCapture_rewind (n : Nat) (x : CaptureX) : (s.setCapture n x).rewind = s.rewind := rfl
@[simp] theorem State.setCapture_replicas (n : Nat) (x : CaptureX) : (s.setCapture n x).replicas = s.replicas := rfl
@[simp] theorem State.setCapture_detectors (n : Nat) (x : CaptureX) : (s.setCapture n x).detectors = s.detectors := rfl
@[simp] theorem State.setCapture_ptpDiscarded (n : Nat) (x : CaptureX) : (s.setCapture n x).ptpDiscarded = s.ptpDiscarded := rfl
@[simp] theorem State.setCapture_slots (n : Nat) (x : CaptureX) : (s.setCapture n x).slots = s.slots := rfl
@[simp] theorem State.setCapture_freqSwitching (n : Nat) (x : CaptureX) : (s.setCapture n x).freqSwitching = s.freqSwitching := rfl
@[simp] theorem State.setCapture_frequency (n : Nat) (x : CaptureX) : (s.setCapture n x).frequency = s.frequency := rfl
@[simp] theorem State.setCapture_freqMovedAt (n : Nat) (x : CaptureX) : (s.setCapture n x).freqMovedAt = s.freqMovedAt := rfl
@[simp] theorem State.setCapture_freqNear (n : Nat) (x : CaptureX) : (s.setCapture n x).freqNear = s.freqNear := rfl
@[simp] theorem State.setCapture_freqHeld (n : Nat) (x : CaptureX) : (s.setCapture n x).freqHeld = s.freqHeld := rfl
@[simp] theorem State.setCapture_freqLog (n : Nat) (x : CaptureX) : (s.setCapture n x).freqLog = s.freqLog := rfl
@[simp] theorem State.setCapture_esmcOut (n : Nat) (x : CaptureX) : (s.setCapture n x).esmcOut = s.esmcOut := rfl
@[simp] theorem State.setCapture_analog (n : Nat) (x : CaptureX) : (s.setCapture n x).analog = s.analog := rfl
@[simp] theorem State.setCapture_analogShadow (n : Nat) (x : CaptureX) : (s.setCapture n x).analogShadow = s.analogShadow := rfl
@[simp] theorem State.setCapture_roundRuns (n : Nat) (x : CaptureX) : (s.setCapture n x).roundRuns = s.roundRuns := rfl
@[simp] theorem State.setCapture_roundDue (n : Nat) (x : CaptureX) : (s.setCapture n x).roundDue = s.roundDue := rfl
@[simp] theorem State.setCapture_trims (n : Nat) (x : CaptureX) : (s.setCapture n x).trims = s.trims := rfl
@[simp] theorem State.setCapture_twin (n : Nat) (x : CaptureX) : (s.setCapture n x).twin = s.twin := rfl
@[simp] theorem State.setCapture_messages (n : Nat) (x : CaptureX) : (s.setCapture n x).messages = s.messages := rfl
@[simp] theorem State.setCapture_settings (n : Nat) (x : CaptureX) : (s.setCapture n x).settings = s.settings := rfl
@[simp] theorem State.setCapture_sourceCounts (n : Nat) (x : CaptureX) : (s.setCapture n x).sourceCounts = s.sourceCounts := rfl
@[simp] theorem State.setCapture_log (n : Nat) (x : CaptureX) : (s.setCapture n x).log = s.log := rfl
@[simp] theorem State.setCapture_logRead (n : Nat) (x : CaptureX) : (s.setCapture n x).logRead = s.logRead := rfl
@[simp] theorem State.setCapture_firstFault (n : Nat) (x : CaptureX) : (s.setCapture n x).firstFault = s.firstFault := rfl
@[simp] theorem State.setCapture_safeRecord (n : Nat) (x : CaptureX) : (s.setCapture n x).safeRecord = s.safeRecord := rfl
@[simp] theorem State.setCapture_fences (n : Nat) (x : CaptureX) : (s.setCapture n x).fences = s.fences := rfl
@[simp] theorem State.setCapture_masks (n : Nat) (x : CaptureX) : (s.setCapture n x).masks = s.masks := rfl
@[simp] theorem State.setCapture_windows (n : Nat) (x : CaptureX) : (s.setCapture n x).windows = s.windows := rfl
@[simp] theorem State.setCapture_errN (n : Nat) (x : CaptureX) : (s.setCapture n x).errN = s.errN := rfl
@[simp] theorem State.setCapture_safeN (n : Nat) (x : CaptureX) : (s.setCapture n x).safeN = s.safeN := rfl
@[simp] theorem State.setCapture_errNHold (n : Nat) (x : CaptureX) : (s.setCapture n x).errNHold = s.errNHold := rfl
@[simp] theorem State.setCapture_domains (n : Nat) (x : CaptureX) : (s.setCapture n x).domains = s.domains := rfl
@[simp] theorem State.setCapture_sessions (n : Nat) (x : CaptureX) : (s.setCapture n x).sessions = s.sessions := rfl
@[simp] theorem State.setCapture_commits (n : Nat) (x : CaptureX) : (s.setCapture n x).commits = s.commits := rfl
@[simp] theorem State.setCapture_engines (n : Nat) (x : CaptureX) : (s.setCapture n x).engines = s.engines := rfl
@[simp] theorem State.setCapture_rings (n : Nat) (x : CaptureX) : (s.setCapture n x).rings = s.rings := rfl
@[simp] theorem State.setCapture_perf (n : Nat) (x : CaptureX) : (s.setCapture n x).perf = s.perf := rfl
@[simp] theorem State.setCapture_overflow (n : Nat) (x : CaptureX) : (s.setCapture n x).overflow = s.overflow := rfl
@[simp] theorem State.setCapture_clearPending (n : Nat) (x : CaptureX) : (s.setCapture n x).clearPending = s.clearPending := rfl
@[simp] theorem State.setCapture_regionSample (n : Nat) (x : CaptureX) : (s.setCapture n x).regionSample = s.regionSample := rfl
@[simp] theorem State.setCapture_regionClear (n : Nat) (x : CaptureX) : (s.setCapture n x).regionClear = s.regionClear := rfl
@[simp] theorem State.setCapture_epochAt (n : Nat) (x : CaptureX) : (s.setCapture n x).epochAt = s.epochAt := rfl
@[simp] theorem State.setCapture_monitorPending (n : Nat) (x : CaptureX) : (s.setCapture n x).monitorPending = s.monitorPending := rfl
@[simp] theorem State.setCapture_monitors (n : Nat) (x : CaptureX) : (s.setCapture n x).monitors = s.monitors := rfl
@[simp] theorem State.setCapture_monitorFirst (n : Nat) (x : CaptureX) : (s.setCapture n x).monitorFirst = s.monitorFirst := rfl
@[simp] theorem State.setCapture_security (n : Nat) (x : CaptureX) : (s.setCapture n x).security = s.security := rfl
@[simp] theorem State.setCapture_start (n : Nat) (x : CaptureX) : (s.setCapture n x).start = s.start := rfl
@[simp] theorem State.setCapture_bankDraws (n : Nat) (x : CaptureX) : (s.setCapture n x).bankDraws = s.bankDraws := rfl
@[simp] theorem State.setCapture_shared (n : Nat) (x : CaptureX) : (s.setCapture n x).shared = s.shared := rfl
@[simp] theorem State.setCapture_pending (n : Nat) (x : CaptureX) : (s.setCapture n x).pending = s.pending := rfl

/-! ## setReplica -/
@[simp] theorem State.setReplica_now (n : Nat) (x : ReplicaX) : (s.setReplica n x).now = s.now := rfl
@[simp] theorem State.setReplica_regs (n : Nat) (x : ReplicaX) : (s.setReplica n x).regs = s.regs := rfl
@[simp] theorem State.setReplica_blobs (n : Nat) (x : ReplicaX) : (s.setReplica n x).blobs = s.blobs := rfl
@[simp] theorem State.setReplica_lastStatus (n : Nat) (x : ReplicaX) : (s.setReplica n x).lastStatus = s.lastStatus := rfl
@[simp] theorem State.setReplica_lastDetail (n : Nat) (x : ReplicaX) : (s.setReplica n x).lastDetail = s.lastDetail := rfl
@[simp] theorem State.setReplica_spiOut (n : Nat) (x : ReplicaX) : (s.setReplica n x).spiOut = s.spiOut := rfl
@[simp] theorem State.setReplica_outgoing (n : Nat) (x : ReplicaX) : (s.setReplica n x).outgoing = s.outgoing := rfl
@[simp] theorem State.setReplica_lanes (n : Nat) (x : ReplicaX) : (s.setReplica n x).lanes = s.lanes := rfl
@[simp] theorem State.setReplica_ports (n : Nat) (x : ReplicaX) : (s.setReplica n x).ports = s.ports := rfl
@[simp] theorem State.setReplica_timing (n : Nat) (x : ReplicaX) : (s.setReplica n x).timing = s.timing := rfl
@[simp] theorem State.setReplica_egress (n : Nat) (x : ReplicaX) : (s.setReplica n x).egress = s.egress := rfl
@[simp] theorem State.setReplica_queues (n : Nat) (x : ReplicaX) : (s.setReplica n x).queues = s.queues := rfl
@[simp] theorem State.setReplica_regions (n : Nat) (x : ReplicaX) : (s.setReplica n x).regions = s.regions := rfl
@[simp] theorem State.setReplica_rx (n : Nat) (x : ReplicaX) : (s.setReplica n x).rx = s.rx := rfl
@[simp] theorem State.setReplica_frameCount (n : Nat) (x : ReplicaX) : (s.setReplica n x).frameCount = s.frameCount := rfl
@[simp] theorem State.setReplica_pllLost (n : Nat) (x : ReplicaX) : (s.setReplica n x).pllLost = s.pllLost := rfl
@[simp] theorem State.setReplica_modReset (n : Nat) (x : ReplicaX) : (s.setReplica n x).modReset = s.modReset := rfl
@[simp] theorem State.setReplica_busQueue (n : Nat) (x : ReplicaX) : (s.setReplica n x).busQueue = s.busQueue := rfl
@[simp] theorem State.setReplica_modResetWait (n : Nat) (x : ReplicaX) : (s.setReplica n x).modResetWait = s.modResetWait := rfl
@[simp] theorem State.setReplica_fdb (n : Nat) (x : ReplicaX) : (s.setReplica n x).fdb = s.fdb := rfl
@[simp] theorem State.setReplica_vlan (n : Nat) (x : ReplicaX) : (s.setReplica n x).vlan = s.vlan := rfl
@[simp] theorem State.setReplica_classifier (n : Nat) (x : ReplicaX) : (s.setReplica n x).classifier = s.classifier := rfl
@[simp] theorem State.setReplica_streams (n : Nat) (x : ReplicaX) : (s.setReplica n x).streams = s.streams := rfl
@[simp] theorem State.setReplica_contracts (n : Nat) (x : ReplicaX) : (s.setReplica n x).contracts = s.contracts := rfl
@[simp] theorem State.setReplica_portSets (n : Nat) (x : ReplicaX) : (s.setReplica n x).portSets = s.portSets := rfl
@[simp] theorem State.setReplica_invalid (n : Nat) (x : ReplicaX) : (s.setReplica n x).invalid = s.invalid := rfl
@[simp] theorem State.setReplica_folding (n : Nat) (x : ReplicaX) : (s.setReplica n x).folding = s.folding := rfl
@[simp] theorem State.setReplica_drains (n : Nat) (x : ReplicaX) : (s.setReplica n x).drains = s.drains := rfl
@[simp] theorem State.setReplica_lastDrain (n : Nat) (x : ReplicaX) : (s.setReplica n x).lastDrain = s.lastDrain := rfl
@[simp] theorem State.setReplica_learns (n : Nat) (x : ReplicaX) : (s.setReplica n x).learns = s.learns := rfl
@[simp] theorem State.setReplica_learnRate (n : Nat) (x : ReplicaX) : (s.setReplica n x).learnRate = s.learnRate := rfl
@[simp] theorem State.setReplica_gates (n : Nat) (x : ReplicaX) : (s.setReplica n x).gates = s.gates := rfl
@[simp] theorem State.setReplica_frer (n : Nat) (x : ReplicaX) : (s.setReplica n x).frer = s.frer := rfl
@[simp] theorem State.setReplica_contractX (n : Nat) (x : ReplicaX) : (s.setReplica n x).contractX = s.contractX := rfl
@[simp] theorem State.setReplica_breaches (n : Nat) (x : ReplicaX) : (s.setReplica n x).breaches = s.breaches := rfl
@[simp] theorem State.setReplica_overflowed (n : Nat) (x : ReplicaX) : (s.setReplica n x).overflowed = s.overflowed := rfl
@[simp] theorem State.setReplica_flights (n : Nat) (x : ReplicaX) : (s.setReplica n x).flights = s.flights := rfl
@[simp] theorem State.setReplica_crossings (n : Nat) (x : ReplicaX) : (s.setReplica n x).crossings = s.crossings := rfl
@[simp] theorem State.setReplica_wire (n : Nat) (x : ReplicaX) : (s.setReplica n x).wire = s.wire := rfl
@[simp] theorem State.setReplica_syncEdge (n : Nat) (x : ReplicaX) : (s.setReplica n x).syncEdge = s.syncEdge := rfl
@[simp] theorem State.setReplica_clockStarted (n : Nat) (x : ReplicaX) : (s.setReplica n x).clockStarted = s.clockStarted := rfl
@[simp] theorem State.setReplica_clocks (n : Nat) (x : ReplicaX) : (s.setReplica n x).clocks = s.clocks := rfl
@[simp] theorem State.setReplica_tbs (n : Nat) (x : ReplicaX) : (s.setReplica n x).tbs = s.tbs := rfl
@[simp] theorem State.setReplica_compares (n : Nat) (x : ReplicaX) : (s.setReplica n x).compares = s.compares := rfl
@[simp] theorem State.setReplica_fireflies (n : Nat) (x : ReplicaX) : (s.setReplica n x).fireflies = s.fireflies := rfl
@[simp] theorem State.setReplica_captures (n : Nat) (x : ReplicaX) : (s.setReplica n x).captures = s.captures := rfl
@[simp] theorem State.setReplica_ring (n : Nat) (x : ReplicaX) : (s.setReplica n x).ring = s.ring := rfl
@[simp] theorem State.setReplica_ringSeq (n : Nat) (x : ReplicaX) : (s.setReplica n x).ringSeq = s.ringSeq := rfl
@[simp] theorem State.setReplica_rewind (n : Nat) (x : ReplicaX) : (s.setReplica n x).rewind = s.rewind := rfl
@[simp] theorem State.setReplica_detectors (n : Nat) (x : ReplicaX) : (s.setReplica n x).detectors = s.detectors := rfl
@[simp] theorem State.setReplica_ptpDiscarded (n : Nat) (x : ReplicaX) : (s.setReplica n x).ptpDiscarded = s.ptpDiscarded := rfl
@[simp] theorem State.setReplica_slots (n : Nat) (x : ReplicaX) : (s.setReplica n x).slots = s.slots := rfl
@[simp] theorem State.setReplica_freqSwitching (n : Nat) (x : ReplicaX) : (s.setReplica n x).freqSwitching = s.freqSwitching := rfl
@[simp] theorem State.setReplica_frequency (n : Nat) (x : ReplicaX) : (s.setReplica n x).frequency = s.frequency := rfl
@[simp] theorem State.setReplica_freqMovedAt (n : Nat) (x : ReplicaX) : (s.setReplica n x).freqMovedAt = s.freqMovedAt := rfl
@[simp] theorem State.setReplica_freqNear (n : Nat) (x : ReplicaX) : (s.setReplica n x).freqNear = s.freqNear := rfl
@[simp] theorem State.setReplica_freqHeld (n : Nat) (x : ReplicaX) : (s.setReplica n x).freqHeld = s.freqHeld := rfl
@[simp] theorem State.setReplica_freqLog (n : Nat) (x : ReplicaX) : (s.setReplica n x).freqLog = s.freqLog := rfl
@[simp] theorem State.setReplica_esmcOut (n : Nat) (x : ReplicaX) : (s.setReplica n x).esmcOut = s.esmcOut := rfl
@[simp] theorem State.setReplica_analog (n : Nat) (x : ReplicaX) : (s.setReplica n x).analog = s.analog := rfl
@[simp] theorem State.setReplica_analogShadow (n : Nat) (x : ReplicaX) : (s.setReplica n x).analogShadow = s.analogShadow := rfl
@[simp] theorem State.setReplica_roundRuns (n : Nat) (x : ReplicaX) : (s.setReplica n x).roundRuns = s.roundRuns := rfl
@[simp] theorem State.setReplica_roundDue (n : Nat) (x : ReplicaX) : (s.setReplica n x).roundDue = s.roundDue := rfl
@[simp] theorem State.setReplica_trims (n : Nat) (x : ReplicaX) : (s.setReplica n x).trims = s.trims := rfl
@[simp] theorem State.setReplica_twin (n : Nat) (x : ReplicaX) : (s.setReplica n x).twin = s.twin := rfl
@[simp] theorem State.setReplica_messages (n : Nat) (x : ReplicaX) : (s.setReplica n x).messages = s.messages := rfl
@[simp] theorem State.setReplica_settings (n : Nat) (x : ReplicaX) : (s.setReplica n x).settings = s.settings := rfl
@[simp] theorem State.setReplica_sourceCounts (n : Nat) (x : ReplicaX) : (s.setReplica n x).sourceCounts = s.sourceCounts := rfl
@[simp] theorem State.setReplica_log (n : Nat) (x : ReplicaX) : (s.setReplica n x).log = s.log := rfl
@[simp] theorem State.setReplica_logRead (n : Nat) (x : ReplicaX) : (s.setReplica n x).logRead = s.logRead := rfl
@[simp] theorem State.setReplica_firstFault (n : Nat) (x : ReplicaX) : (s.setReplica n x).firstFault = s.firstFault := rfl
@[simp] theorem State.setReplica_safeRecord (n : Nat) (x : ReplicaX) : (s.setReplica n x).safeRecord = s.safeRecord := rfl
@[simp] theorem State.setReplica_fences (n : Nat) (x : ReplicaX) : (s.setReplica n x).fences = s.fences := rfl
@[simp] theorem State.setReplica_masks (n : Nat) (x : ReplicaX) : (s.setReplica n x).masks = s.masks := rfl
@[simp] theorem State.setReplica_windows (n : Nat) (x : ReplicaX) : (s.setReplica n x).windows = s.windows := rfl
@[simp] theorem State.setReplica_errN (n : Nat) (x : ReplicaX) : (s.setReplica n x).errN = s.errN := rfl
@[simp] theorem State.setReplica_safeN (n : Nat) (x : ReplicaX) : (s.setReplica n x).safeN = s.safeN := rfl
@[simp] theorem State.setReplica_errNHold (n : Nat) (x : ReplicaX) : (s.setReplica n x).errNHold = s.errNHold := rfl
@[simp] theorem State.setReplica_domains (n : Nat) (x : ReplicaX) : (s.setReplica n x).domains = s.domains := rfl
@[simp] theorem State.setReplica_sessions (n : Nat) (x : ReplicaX) : (s.setReplica n x).sessions = s.sessions := rfl
@[simp] theorem State.setReplica_commits (n : Nat) (x : ReplicaX) : (s.setReplica n x).commits = s.commits := rfl
@[simp] theorem State.setReplica_engines (n : Nat) (x : ReplicaX) : (s.setReplica n x).engines = s.engines := rfl
@[simp] theorem State.setReplica_rings (n : Nat) (x : ReplicaX) : (s.setReplica n x).rings = s.rings := rfl
@[simp] theorem State.setReplica_perf (n : Nat) (x : ReplicaX) : (s.setReplica n x).perf = s.perf := rfl
@[simp] theorem State.setReplica_overflow (n : Nat) (x : ReplicaX) : (s.setReplica n x).overflow = s.overflow := rfl
@[simp] theorem State.setReplica_clearPending (n : Nat) (x : ReplicaX) : (s.setReplica n x).clearPending = s.clearPending := rfl
@[simp] theorem State.setReplica_regionSample (n : Nat) (x : ReplicaX) : (s.setReplica n x).regionSample = s.regionSample := rfl
@[simp] theorem State.setReplica_regionClear (n : Nat) (x : ReplicaX) : (s.setReplica n x).regionClear = s.regionClear := rfl
@[simp] theorem State.setReplica_epochAt (n : Nat) (x : ReplicaX) : (s.setReplica n x).epochAt = s.epochAt := rfl
@[simp] theorem State.setReplica_monitorPending (n : Nat) (x : ReplicaX) : (s.setReplica n x).monitorPending = s.monitorPending := rfl
@[simp] theorem State.setReplica_monitors (n : Nat) (x : ReplicaX) : (s.setReplica n x).monitors = s.monitors := rfl
@[simp] theorem State.setReplica_monitorFirst (n : Nat) (x : ReplicaX) : (s.setReplica n x).monitorFirst = s.monitorFirst := rfl
@[simp] theorem State.setReplica_security (n : Nat) (x : ReplicaX) : (s.setReplica n x).security = s.security := rfl
@[simp] theorem State.setReplica_start (n : Nat) (x : ReplicaX) : (s.setReplica n x).start = s.start := rfl
@[simp] theorem State.setReplica_bankDraws (n : Nat) (x : ReplicaX) : (s.setReplica n x).bankDraws = s.bankDraws := rfl
@[simp] theorem State.setReplica_shared (n : Nat) (x : ReplicaX) : (s.setReplica n x).shared = s.shared := rfl
@[simp] theorem State.setReplica_pending (n : Nat) (x : ReplicaX) : (s.setReplica n x).pending = s.pending := rfl

/-! ## setDetector -/
@[simp] theorem State.setDetector_now (n : Nat) (x : DetectorX) : (s.setDetector n x).now = s.now := rfl
@[simp] theorem State.setDetector_regs (n : Nat) (x : DetectorX) : (s.setDetector n x).regs = s.regs := rfl
@[simp] theorem State.setDetector_blobs (n : Nat) (x : DetectorX) : (s.setDetector n x).blobs = s.blobs := rfl
@[simp] theorem State.setDetector_lastStatus (n : Nat) (x : DetectorX) : (s.setDetector n x).lastStatus = s.lastStatus := rfl
@[simp] theorem State.setDetector_lastDetail (n : Nat) (x : DetectorX) : (s.setDetector n x).lastDetail = s.lastDetail := rfl
@[simp] theorem State.setDetector_spiOut (n : Nat) (x : DetectorX) : (s.setDetector n x).spiOut = s.spiOut := rfl
@[simp] theorem State.setDetector_outgoing (n : Nat) (x : DetectorX) : (s.setDetector n x).outgoing = s.outgoing := rfl
@[simp] theorem State.setDetector_lanes (n : Nat) (x : DetectorX) : (s.setDetector n x).lanes = s.lanes := rfl
@[simp] theorem State.setDetector_ports (n : Nat) (x : DetectorX) : (s.setDetector n x).ports = s.ports := rfl
@[simp] theorem State.setDetector_timing (n : Nat) (x : DetectorX) : (s.setDetector n x).timing = s.timing := rfl
@[simp] theorem State.setDetector_egress (n : Nat) (x : DetectorX) : (s.setDetector n x).egress = s.egress := rfl
@[simp] theorem State.setDetector_queues (n : Nat) (x : DetectorX) : (s.setDetector n x).queues = s.queues := rfl
@[simp] theorem State.setDetector_regions (n : Nat) (x : DetectorX) : (s.setDetector n x).regions = s.regions := rfl
@[simp] theorem State.setDetector_rx (n : Nat) (x : DetectorX) : (s.setDetector n x).rx = s.rx := rfl
@[simp] theorem State.setDetector_frameCount (n : Nat) (x : DetectorX) : (s.setDetector n x).frameCount = s.frameCount := rfl
@[simp] theorem State.setDetector_pllLost (n : Nat) (x : DetectorX) : (s.setDetector n x).pllLost = s.pllLost := rfl
@[simp] theorem State.setDetector_modReset (n : Nat) (x : DetectorX) : (s.setDetector n x).modReset = s.modReset := rfl
@[simp] theorem State.setDetector_busQueue (n : Nat) (x : DetectorX) : (s.setDetector n x).busQueue = s.busQueue := rfl
@[simp] theorem State.setDetector_modResetWait (n : Nat) (x : DetectorX) : (s.setDetector n x).modResetWait = s.modResetWait := rfl
@[simp] theorem State.setDetector_fdb (n : Nat) (x : DetectorX) : (s.setDetector n x).fdb = s.fdb := rfl
@[simp] theorem State.setDetector_vlan (n : Nat) (x : DetectorX) : (s.setDetector n x).vlan = s.vlan := rfl
@[simp] theorem State.setDetector_classifier (n : Nat) (x : DetectorX) : (s.setDetector n x).classifier = s.classifier := rfl
@[simp] theorem State.setDetector_streams (n : Nat) (x : DetectorX) : (s.setDetector n x).streams = s.streams := rfl
@[simp] theorem State.setDetector_contracts (n : Nat) (x : DetectorX) : (s.setDetector n x).contracts = s.contracts := rfl
@[simp] theorem State.setDetector_portSets (n : Nat) (x : DetectorX) : (s.setDetector n x).portSets = s.portSets := rfl
@[simp] theorem State.setDetector_invalid (n : Nat) (x : DetectorX) : (s.setDetector n x).invalid = s.invalid := rfl
@[simp] theorem State.setDetector_folding (n : Nat) (x : DetectorX) : (s.setDetector n x).folding = s.folding := rfl
@[simp] theorem State.setDetector_drains (n : Nat) (x : DetectorX) : (s.setDetector n x).drains = s.drains := rfl
@[simp] theorem State.setDetector_lastDrain (n : Nat) (x : DetectorX) : (s.setDetector n x).lastDrain = s.lastDrain := rfl
@[simp] theorem State.setDetector_learns (n : Nat) (x : DetectorX) : (s.setDetector n x).learns = s.learns := rfl
@[simp] theorem State.setDetector_learnRate (n : Nat) (x : DetectorX) : (s.setDetector n x).learnRate = s.learnRate := rfl
@[simp] theorem State.setDetector_gates (n : Nat) (x : DetectorX) : (s.setDetector n x).gates = s.gates := rfl
@[simp] theorem State.setDetector_frer (n : Nat) (x : DetectorX) : (s.setDetector n x).frer = s.frer := rfl
@[simp] theorem State.setDetector_contractX (n : Nat) (x : DetectorX) : (s.setDetector n x).contractX = s.contractX := rfl
@[simp] theorem State.setDetector_breaches (n : Nat) (x : DetectorX) : (s.setDetector n x).breaches = s.breaches := rfl
@[simp] theorem State.setDetector_overflowed (n : Nat) (x : DetectorX) : (s.setDetector n x).overflowed = s.overflowed := rfl
@[simp] theorem State.setDetector_flights (n : Nat) (x : DetectorX) : (s.setDetector n x).flights = s.flights := rfl
@[simp] theorem State.setDetector_crossings (n : Nat) (x : DetectorX) : (s.setDetector n x).crossings = s.crossings := rfl
@[simp] theorem State.setDetector_wire (n : Nat) (x : DetectorX) : (s.setDetector n x).wire = s.wire := rfl
@[simp] theorem State.setDetector_syncEdge (n : Nat) (x : DetectorX) : (s.setDetector n x).syncEdge = s.syncEdge := rfl
@[simp] theorem State.setDetector_clockStarted (n : Nat) (x : DetectorX) : (s.setDetector n x).clockStarted = s.clockStarted := rfl
@[simp] theorem State.setDetector_clocks (n : Nat) (x : DetectorX) : (s.setDetector n x).clocks = s.clocks := rfl
@[simp] theorem State.setDetector_tbs (n : Nat) (x : DetectorX) : (s.setDetector n x).tbs = s.tbs := rfl
@[simp] theorem State.setDetector_compares (n : Nat) (x : DetectorX) : (s.setDetector n x).compares = s.compares := rfl
@[simp] theorem State.setDetector_fireflies (n : Nat) (x : DetectorX) : (s.setDetector n x).fireflies = s.fireflies := rfl
@[simp] theorem State.setDetector_captures (n : Nat) (x : DetectorX) : (s.setDetector n x).captures = s.captures := rfl
@[simp] theorem State.setDetector_ring (n : Nat) (x : DetectorX) : (s.setDetector n x).ring = s.ring := rfl
@[simp] theorem State.setDetector_ringSeq (n : Nat) (x : DetectorX) : (s.setDetector n x).ringSeq = s.ringSeq := rfl
@[simp] theorem State.setDetector_rewind (n : Nat) (x : DetectorX) : (s.setDetector n x).rewind = s.rewind := rfl
@[simp] theorem State.setDetector_replicas (n : Nat) (x : DetectorX) : (s.setDetector n x).replicas = s.replicas := rfl
@[simp] theorem State.setDetector_ptpDiscarded (n : Nat) (x : DetectorX) : (s.setDetector n x).ptpDiscarded = s.ptpDiscarded := rfl
@[simp] theorem State.setDetector_slots (n : Nat) (x : DetectorX) : (s.setDetector n x).slots = s.slots := rfl
@[simp] theorem State.setDetector_freqSwitching (n : Nat) (x : DetectorX) : (s.setDetector n x).freqSwitching = s.freqSwitching := rfl
@[simp] theorem State.setDetector_frequency (n : Nat) (x : DetectorX) : (s.setDetector n x).frequency = s.frequency := rfl
@[simp] theorem State.setDetector_freqMovedAt (n : Nat) (x : DetectorX) : (s.setDetector n x).freqMovedAt = s.freqMovedAt := rfl
@[simp] theorem State.setDetector_freqNear (n : Nat) (x : DetectorX) : (s.setDetector n x).freqNear = s.freqNear := rfl
@[simp] theorem State.setDetector_freqHeld (n : Nat) (x : DetectorX) : (s.setDetector n x).freqHeld = s.freqHeld := rfl
@[simp] theorem State.setDetector_freqLog (n : Nat) (x : DetectorX) : (s.setDetector n x).freqLog = s.freqLog := rfl
@[simp] theorem State.setDetector_esmcOut (n : Nat) (x : DetectorX) : (s.setDetector n x).esmcOut = s.esmcOut := rfl
@[simp] theorem State.setDetector_analog (n : Nat) (x : DetectorX) : (s.setDetector n x).analog = s.analog := rfl
@[simp] theorem State.setDetector_analogShadow (n : Nat) (x : DetectorX) : (s.setDetector n x).analogShadow = s.analogShadow := rfl
@[simp] theorem State.setDetector_roundRuns (n : Nat) (x : DetectorX) : (s.setDetector n x).roundRuns = s.roundRuns := rfl
@[simp] theorem State.setDetector_roundDue (n : Nat) (x : DetectorX) : (s.setDetector n x).roundDue = s.roundDue := rfl
@[simp] theorem State.setDetector_trims (n : Nat) (x : DetectorX) : (s.setDetector n x).trims = s.trims := rfl
@[simp] theorem State.setDetector_twin (n : Nat) (x : DetectorX) : (s.setDetector n x).twin = s.twin := rfl
@[simp] theorem State.setDetector_messages (n : Nat) (x : DetectorX) : (s.setDetector n x).messages = s.messages := rfl
@[simp] theorem State.setDetector_settings (n : Nat) (x : DetectorX) : (s.setDetector n x).settings = s.settings := rfl
@[simp] theorem State.setDetector_sourceCounts (n : Nat) (x : DetectorX) : (s.setDetector n x).sourceCounts = s.sourceCounts := rfl
@[simp] theorem State.setDetector_log (n : Nat) (x : DetectorX) : (s.setDetector n x).log = s.log := rfl
@[simp] theorem State.setDetector_logRead (n : Nat) (x : DetectorX) : (s.setDetector n x).logRead = s.logRead := rfl
@[simp] theorem State.setDetector_firstFault (n : Nat) (x : DetectorX) : (s.setDetector n x).firstFault = s.firstFault := rfl
@[simp] theorem State.setDetector_safeRecord (n : Nat) (x : DetectorX) : (s.setDetector n x).safeRecord = s.safeRecord := rfl
@[simp] theorem State.setDetector_fences (n : Nat) (x : DetectorX) : (s.setDetector n x).fences = s.fences := rfl
@[simp] theorem State.setDetector_masks (n : Nat) (x : DetectorX) : (s.setDetector n x).masks = s.masks := rfl
@[simp] theorem State.setDetector_windows (n : Nat) (x : DetectorX) : (s.setDetector n x).windows = s.windows := rfl
@[simp] theorem State.setDetector_errN (n : Nat) (x : DetectorX) : (s.setDetector n x).errN = s.errN := rfl
@[simp] theorem State.setDetector_safeN (n : Nat) (x : DetectorX) : (s.setDetector n x).safeN = s.safeN := rfl
@[simp] theorem State.setDetector_errNHold (n : Nat) (x : DetectorX) : (s.setDetector n x).errNHold = s.errNHold := rfl
@[simp] theorem State.setDetector_domains (n : Nat) (x : DetectorX) : (s.setDetector n x).domains = s.domains := rfl
@[simp] theorem State.setDetector_sessions (n : Nat) (x : DetectorX) : (s.setDetector n x).sessions = s.sessions := rfl
@[simp] theorem State.setDetector_commits (n : Nat) (x : DetectorX) : (s.setDetector n x).commits = s.commits := rfl
@[simp] theorem State.setDetector_engines (n : Nat) (x : DetectorX) : (s.setDetector n x).engines = s.engines := rfl
@[simp] theorem State.setDetector_rings (n : Nat) (x : DetectorX) : (s.setDetector n x).rings = s.rings := rfl
@[simp] theorem State.setDetector_perf (n : Nat) (x : DetectorX) : (s.setDetector n x).perf = s.perf := rfl
@[simp] theorem State.setDetector_overflow (n : Nat) (x : DetectorX) : (s.setDetector n x).overflow = s.overflow := rfl
@[simp] theorem State.setDetector_clearPending (n : Nat) (x : DetectorX) : (s.setDetector n x).clearPending = s.clearPending := rfl
@[simp] theorem State.setDetector_regionSample (n : Nat) (x : DetectorX) : (s.setDetector n x).regionSample = s.regionSample := rfl
@[simp] theorem State.setDetector_regionClear (n : Nat) (x : DetectorX) : (s.setDetector n x).regionClear = s.regionClear := rfl
@[simp] theorem State.setDetector_epochAt (n : Nat) (x : DetectorX) : (s.setDetector n x).epochAt = s.epochAt := rfl
@[simp] theorem State.setDetector_monitorPending (n : Nat) (x : DetectorX) : (s.setDetector n x).monitorPending = s.monitorPending := rfl
@[simp] theorem State.setDetector_monitors (n : Nat) (x : DetectorX) : (s.setDetector n x).monitors = s.monitors := rfl
@[simp] theorem State.setDetector_monitorFirst (n : Nat) (x : DetectorX) : (s.setDetector n x).monitorFirst = s.monitorFirst := rfl
@[simp] theorem State.setDetector_security (n : Nat) (x : DetectorX) : (s.setDetector n x).security = s.security := rfl
@[simp] theorem State.setDetector_start (n : Nat) (x : DetectorX) : (s.setDetector n x).start = s.start := rfl
@[simp] theorem State.setDetector_bankDraws (n : Nat) (x : DetectorX) : (s.setDetector n x).bankDraws = s.bankDraws := rfl
@[simp] theorem State.setDetector_shared (n : Nat) (x : DetectorX) : (s.setDetector n x).shared = s.shared := rfl
@[simp] theorem State.setDetector_pending (n : Nat) (x : DetectorX) : (s.setDetector n x).pending = s.pending := rfl

/-! ## setSlot -/
@[simp] theorem State.setSlot_now (n : Nat) (x : SlotX) : (s.setSlot n x).now = s.now := rfl
@[simp] theorem State.setSlot_regs (n : Nat) (x : SlotX) : (s.setSlot n x).regs = s.regs := rfl
@[simp] theorem State.setSlot_blobs (n : Nat) (x : SlotX) : (s.setSlot n x).blobs = s.blobs := rfl
@[simp] theorem State.setSlot_lastStatus (n : Nat) (x : SlotX) : (s.setSlot n x).lastStatus = s.lastStatus := rfl
@[simp] theorem State.setSlot_lastDetail (n : Nat) (x : SlotX) : (s.setSlot n x).lastDetail = s.lastDetail := rfl
@[simp] theorem State.setSlot_spiOut (n : Nat) (x : SlotX) : (s.setSlot n x).spiOut = s.spiOut := rfl
@[simp] theorem State.setSlot_outgoing (n : Nat) (x : SlotX) : (s.setSlot n x).outgoing = s.outgoing := rfl
@[simp] theorem State.setSlot_lanes (n : Nat) (x : SlotX) : (s.setSlot n x).lanes = s.lanes := rfl
@[simp] theorem State.setSlot_ports (n : Nat) (x : SlotX) : (s.setSlot n x).ports = s.ports := rfl
@[simp] theorem State.setSlot_timing (n : Nat) (x : SlotX) : (s.setSlot n x).timing = s.timing := rfl
@[simp] theorem State.setSlot_egress (n : Nat) (x : SlotX) : (s.setSlot n x).egress = s.egress := rfl
@[simp] theorem State.setSlot_queues (n : Nat) (x : SlotX) : (s.setSlot n x).queues = s.queues := rfl
@[simp] theorem State.setSlot_regions (n : Nat) (x : SlotX) : (s.setSlot n x).regions = s.regions := rfl
@[simp] theorem State.setSlot_rx (n : Nat) (x : SlotX) : (s.setSlot n x).rx = s.rx := rfl
@[simp] theorem State.setSlot_frameCount (n : Nat) (x : SlotX) : (s.setSlot n x).frameCount = s.frameCount := rfl
@[simp] theorem State.setSlot_pllLost (n : Nat) (x : SlotX) : (s.setSlot n x).pllLost = s.pllLost := rfl
@[simp] theorem State.setSlot_modReset (n : Nat) (x : SlotX) : (s.setSlot n x).modReset = s.modReset := rfl
@[simp] theorem State.setSlot_busQueue (n : Nat) (x : SlotX) : (s.setSlot n x).busQueue = s.busQueue := rfl
@[simp] theorem State.setSlot_modResetWait (n : Nat) (x : SlotX) : (s.setSlot n x).modResetWait = s.modResetWait := rfl
@[simp] theorem State.setSlot_fdb (n : Nat) (x : SlotX) : (s.setSlot n x).fdb = s.fdb := rfl
@[simp] theorem State.setSlot_vlan (n : Nat) (x : SlotX) : (s.setSlot n x).vlan = s.vlan := rfl
@[simp] theorem State.setSlot_classifier (n : Nat) (x : SlotX) : (s.setSlot n x).classifier = s.classifier := rfl
@[simp] theorem State.setSlot_streams (n : Nat) (x : SlotX) : (s.setSlot n x).streams = s.streams := rfl
@[simp] theorem State.setSlot_contracts (n : Nat) (x : SlotX) : (s.setSlot n x).contracts = s.contracts := rfl
@[simp] theorem State.setSlot_portSets (n : Nat) (x : SlotX) : (s.setSlot n x).portSets = s.portSets := rfl
@[simp] theorem State.setSlot_invalid (n : Nat) (x : SlotX) : (s.setSlot n x).invalid = s.invalid := rfl
@[simp] theorem State.setSlot_folding (n : Nat) (x : SlotX) : (s.setSlot n x).folding = s.folding := rfl
@[simp] theorem State.setSlot_drains (n : Nat) (x : SlotX) : (s.setSlot n x).drains = s.drains := rfl
@[simp] theorem State.setSlot_lastDrain (n : Nat) (x : SlotX) : (s.setSlot n x).lastDrain = s.lastDrain := rfl
@[simp] theorem State.setSlot_learns (n : Nat) (x : SlotX) : (s.setSlot n x).learns = s.learns := rfl
@[simp] theorem State.setSlot_learnRate (n : Nat) (x : SlotX) : (s.setSlot n x).learnRate = s.learnRate := rfl
@[simp] theorem State.setSlot_gates (n : Nat) (x : SlotX) : (s.setSlot n x).gates = s.gates := rfl
@[simp] theorem State.setSlot_frer (n : Nat) (x : SlotX) : (s.setSlot n x).frer = s.frer := rfl
@[simp] theorem State.setSlot_contractX (n : Nat) (x : SlotX) : (s.setSlot n x).contractX = s.contractX := rfl
@[simp] theorem State.setSlot_breaches (n : Nat) (x : SlotX) : (s.setSlot n x).breaches = s.breaches := rfl
@[simp] theorem State.setSlot_overflowed (n : Nat) (x : SlotX) : (s.setSlot n x).overflowed = s.overflowed := rfl
@[simp] theorem State.setSlot_flights (n : Nat) (x : SlotX) : (s.setSlot n x).flights = s.flights := rfl
@[simp] theorem State.setSlot_crossings (n : Nat) (x : SlotX) : (s.setSlot n x).crossings = s.crossings := rfl
@[simp] theorem State.setSlot_wire (n : Nat) (x : SlotX) : (s.setSlot n x).wire = s.wire := rfl
@[simp] theorem State.setSlot_syncEdge (n : Nat) (x : SlotX) : (s.setSlot n x).syncEdge = s.syncEdge := rfl
@[simp] theorem State.setSlot_clockStarted (n : Nat) (x : SlotX) : (s.setSlot n x).clockStarted = s.clockStarted := rfl
@[simp] theorem State.setSlot_clocks (n : Nat) (x : SlotX) : (s.setSlot n x).clocks = s.clocks := rfl
@[simp] theorem State.setSlot_tbs (n : Nat) (x : SlotX) : (s.setSlot n x).tbs = s.tbs := rfl
@[simp] theorem State.setSlot_compares (n : Nat) (x : SlotX) : (s.setSlot n x).compares = s.compares := rfl
@[simp] theorem State.setSlot_fireflies (n : Nat) (x : SlotX) : (s.setSlot n x).fireflies = s.fireflies := rfl
@[simp] theorem State.setSlot_captures (n : Nat) (x : SlotX) : (s.setSlot n x).captures = s.captures := rfl
@[simp] theorem State.setSlot_ring (n : Nat) (x : SlotX) : (s.setSlot n x).ring = s.ring := rfl
@[simp] theorem State.setSlot_ringSeq (n : Nat) (x : SlotX) : (s.setSlot n x).ringSeq = s.ringSeq := rfl
@[simp] theorem State.setSlot_rewind (n : Nat) (x : SlotX) : (s.setSlot n x).rewind = s.rewind := rfl
@[simp] theorem State.setSlot_replicas (n : Nat) (x : SlotX) : (s.setSlot n x).replicas = s.replicas := rfl
@[simp] theorem State.setSlot_detectors (n : Nat) (x : SlotX) : (s.setSlot n x).detectors = s.detectors := rfl
@[simp] theorem State.setSlot_ptpDiscarded (n : Nat) (x : SlotX) : (s.setSlot n x).ptpDiscarded = s.ptpDiscarded := rfl
@[simp] theorem State.setSlot_freqSwitching (n : Nat) (x : SlotX) : (s.setSlot n x).freqSwitching = s.freqSwitching := rfl
@[simp] theorem State.setSlot_frequency (n : Nat) (x : SlotX) : (s.setSlot n x).frequency = s.frequency := rfl
@[simp] theorem State.setSlot_freqMovedAt (n : Nat) (x : SlotX) : (s.setSlot n x).freqMovedAt = s.freqMovedAt := rfl
@[simp] theorem State.setSlot_freqNear (n : Nat) (x : SlotX) : (s.setSlot n x).freqNear = s.freqNear := rfl
@[simp] theorem State.setSlot_freqHeld (n : Nat) (x : SlotX) : (s.setSlot n x).freqHeld = s.freqHeld := rfl
@[simp] theorem State.setSlot_freqLog (n : Nat) (x : SlotX) : (s.setSlot n x).freqLog = s.freqLog := rfl
@[simp] theorem State.setSlot_esmcOut (n : Nat) (x : SlotX) : (s.setSlot n x).esmcOut = s.esmcOut := rfl
@[simp] theorem State.setSlot_analog (n : Nat) (x : SlotX) : (s.setSlot n x).analog = s.analog := rfl
@[simp] theorem State.setSlot_analogShadow (n : Nat) (x : SlotX) : (s.setSlot n x).analogShadow = s.analogShadow := rfl
@[simp] theorem State.setSlot_roundRuns (n : Nat) (x : SlotX) : (s.setSlot n x).roundRuns = s.roundRuns := rfl
@[simp] theorem State.setSlot_roundDue (n : Nat) (x : SlotX) : (s.setSlot n x).roundDue = s.roundDue := rfl
@[simp] theorem State.setSlot_trims (n : Nat) (x : SlotX) : (s.setSlot n x).trims = s.trims := rfl
@[simp] theorem State.setSlot_twin (n : Nat) (x : SlotX) : (s.setSlot n x).twin = s.twin := rfl
@[simp] theorem State.setSlot_messages (n : Nat) (x : SlotX) : (s.setSlot n x).messages = s.messages := rfl
@[simp] theorem State.setSlot_settings (n : Nat) (x : SlotX) : (s.setSlot n x).settings = s.settings := rfl
@[simp] theorem State.setSlot_sourceCounts (n : Nat) (x : SlotX) : (s.setSlot n x).sourceCounts = s.sourceCounts := rfl
@[simp] theorem State.setSlot_log (n : Nat) (x : SlotX) : (s.setSlot n x).log = s.log := rfl
@[simp] theorem State.setSlot_logRead (n : Nat) (x : SlotX) : (s.setSlot n x).logRead = s.logRead := rfl
@[simp] theorem State.setSlot_firstFault (n : Nat) (x : SlotX) : (s.setSlot n x).firstFault = s.firstFault := rfl
@[simp] theorem State.setSlot_safeRecord (n : Nat) (x : SlotX) : (s.setSlot n x).safeRecord = s.safeRecord := rfl
@[simp] theorem State.setSlot_fences (n : Nat) (x : SlotX) : (s.setSlot n x).fences = s.fences := rfl
@[simp] theorem State.setSlot_masks (n : Nat) (x : SlotX) : (s.setSlot n x).masks = s.masks := rfl
@[simp] theorem State.setSlot_windows (n : Nat) (x : SlotX) : (s.setSlot n x).windows = s.windows := rfl
@[simp] theorem State.setSlot_errN (n : Nat) (x : SlotX) : (s.setSlot n x).errN = s.errN := rfl
@[simp] theorem State.setSlot_safeN (n : Nat) (x : SlotX) : (s.setSlot n x).safeN = s.safeN := rfl
@[simp] theorem State.setSlot_errNHold (n : Nat) (x : SlotX) : (s.setSlot n x).errNHold = s.errNHold := rfl
@[simp] theorem State.setSlot_domains (n : Nat) (x : SlotX) : (s.setSlot n x).domains = s.domains := rfl
@[simp] theorem State.setSlot_sessions (n : Nat) (x : SlotX) : (s.setSlot n x).sessions = s.sessions := rfl
@[simp] theorem State.setSlot_commits (n : Nat) (x : SlotX) : (s.setSlot n x).commits = s.commits := rfl
@[simp] theorem State.setSlot_engines (n : Nat) (x : SlotX) : (s.setSlot n x).engines = s.engines := rfl
@[simp] theorem State.setSlot_rings (n : Nat) (x : SlotX) : (s.setSlot n x).rings = s.rings := rfl
@[simp] theorem State.setSlot_perf (n : Nat) (x : SlotX) : (s.setSlot n x).perf = s.perf := rfl
@[simp] theorem State.setSlot_overflow (n : Nat) (x : SlotX) : (s.setSlot n x).overflow = s.overflow := rfl
@[simp] theorem State.setSlot_clearPending (n : Nat) (x : SlotX) : (s.setSlot n x).clearPending = s.clearPending := rfl
@[simp] theorem State.setSlot_regionSample (n : Nat) (x : SlotX) : (s.setSlot n x).regionSample = s.regionSample := rfl
@[simp] theorem State.setSlot_regionClear (n : Nat) (x : SlotX) : (s.setSlot n x).regionClear = s.regionClear := rfl
@[simp] theorem State.setSlot_epochAt (n : Nat) (x : SlotX) : (s.setSlot n x).epochAt = s.epochAt := rfl
@[simp] theorem State.setSlot_monitorPending (n : Nat) (x : SlotX) : (s.setSlot n x).monitorPending = s.monitorPending := rfl
@[simp] theorem State.setSlot_monitors (n : Nat) (x : SlotX) : (s.setSlot n x).monitors = s.monitors := rfl
@[simp] theorem State.setSlot_monitorFirst (n : Nat) (x : SlotX) : (s.setSlot n x).monitorFirst = s.monitorFirst := rfl
@[simp] theorem State.setSlot_security (n : Nat) (x : SlotX) : (s.setSlot n x).security = s.security := rfl
@[simp] theorem State.setSlot_start (n : Nat) (x : SlotX) : (s.setSlot n x).start = s.start := rfl
@[simp] theorem State.setSlot_bankDraws (n : Nat) (x : SlotX) : (s.setSlot n x).bankDraws = s.bankDraws := rfl
@[simp] theorem State.setSlot_shared (n : Nat) (x : SlotX) : (s.setSlot n x).shared = s.shared := rfl
@[simp] theorem State.setSlot_pending (n : Nat) (x : SlotX) : (s.setSlot n x).pending = s.pending := rfl

/-! ## setTrim -/
@[simp] theorem State.setTrim_now (n : Nat) (x : TrimX) : (s.setTrim n x).now = s.now := rfl
@[simp] theorem State.setTrim_regs (n : Nat) (x : TrimX) : (s.setTrim n x).regs = s.regs := rfl
@[simp] theorem State.setTrim_blobs (n : Nat) (x : TrimX) : (s.setTrim n x).blobs = s.blobs := rfl
@[simp] theorem State.setTrim_lastStatus (n : Nat) (x : TrimX) : (s.setTrim n x).lastStatus = s.lastStatus := rfl
@[simp] theorem State.setTrim_lastDetail (n : Nat) (x : TrimX) : (s.setTrim n x).lastDetail = s.lastDetail := rfl
@[simp] theorem State.setTrim_spiOut (n : Nat) (x : TrimX) : (s.setTrim n x).spiOut = s.spiOut := rfl
@[simp] theorem State.setTrim_outgoing (n : Nat) (x : TrimX) : (s.setTrim n x).outgoing = s.outgoing := rfl
@[simp] theorem State.setTrim_lanes (n : Nat) (x : TrimX) : (s.setTrim n x).lanes = s.lanes := rfl
@[simp] theorem State.setTrim_ports (n : Nat) (x : TrimX) : (s.setTrim n x).ports = s.ports := rfl
@[simp] theorem State.setTrim_timing (n : Nat) (x : TrimX) : (s.setTrim n x).timing = s.timing := rfl
@[simp] theorem State.setTrim_egress (n : Nat) (x : TrimX) : (s.setTrim n x).egress = s.egress := rfl
@[simp] theorem State.setTrim_queues (n : Nat) (x : TrimX) : (s.setTrim n x).queues = s.queues := rfl
@[simp] theorem State.setTrim_regions (n : Nat) (x : TrimX) : (s.setTrim n x).regions = s.regions := rfl
@[simp] theorem State.setTrim_rx (n : Nat) (x : TrimX) : (s.setTrim n x).rx = s.rx := rfl
@[simp] theorem State.setTrim_frameCount (n : Nat) (x : TrimX) : (s.setTrim n x).frameCount = s.frameCount := rfl
@[simp] theorem State.setTrim_pllLost (n : Nat) (x : TrimX) : (s.setTrim n x).pllLost = s.pllLost := rfl
@[simp] theorem State.setTrim_modReset (n : Nat) (x : TrimX) : (s.setTrim n x).modReset = s.modReset := rfl
@[simp] theorem State.setTrim_busQueue (n : Nat) (x : TrimX) : (s.setTrim n x).busQueue = s.busQueue := rfl
@[simp] theorem State.setTrim_modResetWait (n : Nat) (x : TrimX) : (s.setTrim n x).modResetWait = s.modResetWait := rfl
@[simp] theorem State.setTrim_fdb (n : Nat) (x : TrimX) : (s.setTrim n x).fdb = s.fdb := rfl
@[simp] theorem State.setTrim_vlan (n : Nat) (x : TrimX) : (s.setTrim n x).vlan = s.vlan := rfl
@[simp] theorem State.setTrim_classifier (n : Nat) (x : TrimX) : (s.setTrim n x).classifier = s.classifier := rfl
@[simp] theorem State.setTrim_streams (n : Nat) (x : TrimX) : (s.setTrim n x).streams = s.streams := rfl
@[simp] theorem State.setTrim_contracts (n : Nat) (x : TrimX) : (s.setTrim n x).contracts = s.contracts := rfl
@[simp] theorem State.setTrim_portSets (n : Nat) (x : TrimX) : (s.setTrim n x).portSets = s.portSets := rfl
@[simp] theorem State.setTrim_invalid (n : Nat) (x : TrimX) : (s.setTrim n x).invalid = s.invalid := rfl
@[simp] theorem State.setTrim_folding (n : Nat) (x : TrimX) : (s.setTrim n x).folding = s.folding := rfl
@[simp] theorem State.setTrim_drains (n : Nat) (x : TrimX) : (s.setTrim n x).drains = s.drains := rfl
@[simp] theorem State.setTrim_lastDrain (n : Nat) (x : TrimX) : (s.setTrim n x).lastDrain = s.lastDrain := rfl
@[simp] theorem State.setTrim_learns (n : Nat) (x : TrimX) : (s.setTrim n x).learns = s.learns := rfl
@[simp] theorem State.setTrim_learnRate (n : Nat) (x : TrimX) : (s.setTrim n x).learnRate = s.learnRate := rfl
@[simp] theorem State.setTrim_gates (n : Nat) (x : TrimX) : (s.setTrim n x).gates = s.gates := rfl
@[simp] theorem State.setTrim_frer (n : Nat) (x : TrimX) : (s.setTrim n x).frer = s.frer := rfl
@[simp] theorem State.setTrim_contractX (n : Nat) (x : TrimX) : (s.setTrim n x).contractX = s.contractX := rfl
@[simp] theorem State.setTrim_breaches (n : Nat) (x : TrimX) : (s.setTrim n x).breaches = s.breaches := rfl
@[simp] theorem State.setTrim_overflowed (n : Nat) (x : TrimX) : (s.setTrim n x).overflowed = s.overflowed := rfl
@[simp] theorem State.setTrim_flights (n : Nat) (x : TrimX) : (s.setTrim n x).flights = s.flights := rfl
@[simp] theorem State.setTrim_crossings (n : Nat) (x : TrimX) : (s.setTrim n x).crossings = s.crossings := rfl
@[simp] theorem State.setTrim_wire (n : Nat) (x : TrimX) : (s.setTrim n x).wire = s.wire := rfl
@[simp] theorem State.setTrim_syncEdge (n : Nat) (x : TrimX) : (s.setTrim n x).syncEdge = s.syncEdge := rfl
@[simp] theorem State.setTrim_clockStarted (n : Nat) (x : TrimX) : (s.setTrim n x).clockStarted = s.clockStarted := rfl
@[simp] theorem State.setTrim_clocks (n : Nat) (x : TrimX) : (s.setTrim n x).clocks = s.clocks := rfl
@[simp] theorem State.setTrim_tbs (n : Nat) (x : TrimX) : (s.setTrim n x).tbs = s.tbs := rfl
@[simp] theorem State.setTrim_compares (n : Nat) (x : TrimX) : (s.setTrim n x).compares = s.compares := rfl
@[simp] theorem State.setTrim_fireflies (n : Nat) (x : TrimX) : (s.setTrim n x).fireflies = s.fireflies := rfl
@[simp] theorem State.setTrim_captures (n : Nat) (x : TrimX) : (s.setTrim n x).captures = s.captures := rfl
@[simp] theorem State.setTrim_ring (n : Nat) (x : TrimX) : (s.setTrim n x).ring = s.ring := rfl
@[simp] theorem State.setTrim_ringSeq (n : Nat) (x : TrimX) : (s.setTrim n x).ringSeq = s.ringSeq := rfl
@[simp] theorem State.setTrim_rewind (n : Nat) (x : TrimX) : (s.setTrim n x).rewind = s.rewind := rfl
@[simp] theorem State.setTrim_replicas (n : Nat) (x : TrimX) : (s.setTrim n x).replicas = s.replicas := rfl
@[simp] theorem State.setTrim_detectors (n : Nat) (x : TrimX) : (s.setTrim n x).detectors = s.detectors := rfl
@[simp] theorem State.setTrim_ptpDiscarded (n : Nat) (x : TrimX) : (s.setTrim n x).ptpDiscarded = s.ptpDiscarded := rfl
@[simp] theorem State.setTrim_slots (n : Nat) (x : TrimX) : (s.setTrim n x).slots = s.slots := rfl
@[simp] theorem State.setTrim_freqSwitching (n : Nat) (x : TrimX) : (s.setTrim n x).freqSwitching = s.freqSwitching := rfl
@[simp] theorem State.setTrim_frequency (n : Nat) (x : TrimX) : (s.setTrim n x).frequency = s.frequency := rfl
@[simp] theorem State.setTrim_freqMovedAt (n : Nat) (x : TrimX) : (s.setTrim n x).freqMovedAt = s.freqMovedAt := rfl
@[simp] theorem State.setTrim_freqNear (n : Nat) (x : TrimX) : (s.setTrim n x).freqNear = s.freqNear := rfl
@[simp] theorem State.setTrim_freqHeld (n : Nat) (x : TrimX) : (s.setTrim n x).freqHeld = s.freqHeld := rfl
@[simp] theorem State.setTrim_freqLog (n : Nat) (x : TrimX) : (s.setTrim n x).freqLog = s.freqLog := rfl
@[simp] theorem State.setTrim_esmcOut (n : Nat) (x : TrimX) : (s.setTrim n x).esmcOut = s.esmcOut := rfl
@[simp] theorem State.setTrim_analog (n : Nat) (x : TrimX) : (s.setTrim n x).analog = s.analog := rfl
@[simp] theorem State.setTrim_analogShadow (n : Nat) (x : TrimX) : (s.setTrim n x).analogShadow = s.analogShadow := rfl
@[simp] theorem State.setTrim_roundRuns (n : Nat) (x : TrimX) : (s.setTrim n x).roundRuns = s.roundRuns := rfl
@[simp] theorem State.setTrim_roundDue (n : Nat) (x : TrimX) : (s.setTrim n x).roundDue = s.roundDue := rfl
@[simp] theorem State.setTrim_twin (n : Nat) (x : TrimX) : (s.setTrim n x).twin = s.twin := rfl
@[simp] theorem State.setTrim_messages (n : Nat) (x : TrimX) : (s.setTrim n x).messages = s.messages := rfl
@[simp] theorem State.setTrim_settings (n : Nat) (x : TrimX) : (s.setTrim n x).settings = s.settings := rfl
@[simp] theorem State.setTrim_sourceCounts (n : Nat) (x : TrimX) : (s.setTrim n x).sourceCounts = s.sourceCounts := rfl
@[simp] theorem State.setTrim_log (n : Nat) (x : TrimX) : (s.setTrim n x).log = s.log := rfl
@[simp] theorem State.setTrim_logRead (n : Nat) (x : TrimX) : (s.setTrim n x).logRead = s.logRead := rfl
@[simp] theorem State.setTrim_firstFault (n : Nat) (x : TrimX) : (s.setTrim n x).firstFault = s.firstFault := rfl
@[simp] theorem State.setTrim_safeRecord (n : Nat) (x : TrimX) : (s.setTrim n x).safeRecord = s.safeRecord := rfl
@[simp] theorem State.setTrim_fences (n : Nat) (x : TrimX) : (s.setTrim n x).fences = s.fences := rfl
@[simp] theorem State.setTrim_masks (n : Nat) (x : TrimX) : (s.setTrim n x).masks = s.masks := rfl
@[simp] theorem State.setTrim_windows (n : Nat) (x : TrimX) : (s.setTrim n x).windows = s.windows := rfl
@[simp] theorem State.setTrim_errN (n : Nat) (x : TrimX) : (s.setTrim n x).errN = s.errN := rfl
@[simp] theorem State.setTrim_safeN (n : Nat) (x : TrimX) : (s.setTrim n x).safeN = s.safeN := rfl
@[simp] theorem State.setTrim_errNHold (n : Nat) (x : TrimX) : (s.setTrim n x).errNHold = s.errNHold := rfl
@[simp] theorem State.setTrim_domains (n : Nat) (x : TrimX) : (s.setTrim n x).domains = s.domains := rfl
@[simp] theorem State.setTrim_sessions (n : Nat) (x : TrimX) : (s.setTrim n x).sessions = s.sessions := rfl
@[simp] theorem State.setTrim_commits (n : Nat) (x : TrimX) : (s.setTrim n x).commits = s.commits := rfl
@[simp] theorem State.setTrim_engines (n : Nat) (x : TrimX) : (s.setTrim n x).engines = s.engines := rfl
@[simp] theorem State.setTrim_rings (n : Nat) (x : TrimX) : (s.setTrim n x).rings = s.rings := rfl
@[simp] theorem State.setTrim_perf (n : Nat) (x : TrimX) : (s.setTrim n x).perf = s.perf := rfl
@[simp] theorem State.setTrim_overflow (n : Nat) (x : TrimX) : (s.setTrim n x).overflow = s.overflow := rfl
@[simp] theorem State.setTrim_clearPending (n : Nat) (x : TrimX) : (s.setTrim n x).clearPending = s.clearPending := rfl
@[simp] theorem State.setTrim_regionSample (n : Nat) (x : TrimX) : (s.setTrim n x).regionSample = s.regionSample := rfl
@[simp] theorem State.setTrim_regionClear (n : Nat) (x : TrimX) : (s.setTrim n x).regionClear = s.regionClear := rfl
@[simp] theorem State.setTrim_epochAt (n : Nat) (x : TrimX) : (s.setTrim n x).epochAt = s.epochAt := rfl
@[simp] theorem State.setTrim_monitorPending (n : Nat) (x : TrimX) : (s.setTrim n x).monitorPending = s.monitorPending := rfl
@[simp] theorem State.setTrim_monitors (n : Nat) (x : TrimX) : (s.setTrim n x).monitors = s.monitors := rfl
@[simp] theorem State.setTrim_monitorFirst (n : Nat) (x : TrimX) : (s.setTrim n x).monitorFirst = s.monitorFirst := rfl
@[simp] theorem State.setTrim_security (n : Nat) (x : TrimX) : (s.setTrim n x).security = s.security := rfl
@[simp] theorem State.setTrim_start (n : Nat) (x : TrimX) : (s.setTrim n x).start = s.start := rfl
@[simp] theorem State.setTrim_bankDraws (n : Nat) (x : TrimX) : (s.setTrim n x).bankDraws = s.bankDraws := rfl
@[simp] theorem State.setTrim_shared (n : Nat) (x : TrimX) : (s.setTrim n x).shared = s.shared := rfl
@[simp] theorem State.setTrim_pending (n : Nat) (x : TrimX) : (s.setTrim n x).pending = s.pending := rfl

/-! ## setEngine -/
@[simp] theorem State.setEngine_now (n : Nat) (x : EngineX) : (s.setEngine n x).now = s.now := rfl
@[simp] theorem State.setEngine_regs (n : Nat) (x : EngineX) : (s.setEngine n x).regs = s.regs := rfl
@[simp] theorem State.setEngine_blobs (n : Nat) (x : EngineX) : (s.setEngine n x).blobs = s.blobs := rfl
@[simp] theorem State.setEngine_lastStatus (n : Nat) (x : EngineX) : (s.setEngine n x).lastStatus = s.lastStatus := rfl
@[simp] theorem State.setEngine_lastDetail (n : Nat) (x : EngineX) : (s.setEngine n x).lastDetail = s.lastDetail := rfl
@[simp] theorem State.setEngine_spiOut (n : Nat) (x : EngineX) : (s.setEngine n x).spiOut = s.spiOut := rfl
@[simp] theorem State.setEngine_outgoing (n : Nat) (x : EngineX) : (s.setEngine n x).outgoing = s.outgoing := rfl
@[simp] theorem State.setEngine_lanes (n : Nat) (x : EngineX) : (s.setEngine n x).lanes = s.lanes := rfl
@[simp] theorem State.setEngine_ports (n : Nat) (x : EngineX) : (s.setEngine n x).ports = s.ports := rfl
@[simp] theorem State.setEngine_timing (n : Nat) (x : EngineX) : (s.setEngine n x).timing = s.timing := rfl
@[simp] theorem State.setEngine_egress (n : Nat) (x : EngineX) : (s.setEngine n x).egress = s.egress := rfl
@[simp] theorem State.setEngine_queues (n : Nat) (x : EngineX) : (s.setEngine n x).queues = s.queues := rfl
@[simp] theorem State.setEngine_regions (n : Nat) (x : EngineX) : (s.setEngine n x).regions = s.regions := rfl
@[simp] theorem State.setEngine_rx (n : Nat) (x : EngineX) : (s.setEngine n x).rx = s.rx := rfl
@[simp] theorem State.setEngine_frameCount (n : Nat) (x : EngineX) : (s.setEngine n x).frameCount = s.frameCount := rfl
@[simp] theorem State.setEngine_pllLost (n : Nat) (x : EngineX) : (s.setEngine n x).pllLost = s.pllLost := rfl
@[simp] theorem State.setEngine_modReset (n : Nat) (x : EngineX) : (s.setEngine n x).modReset = s.modReset := rfl
@[simp] theorem State.setEngine_busQueue (n : Nat) (x : EngineX) : (s.setEngine n x).busQueue = s.busQueue := rfl
@[simp] theorem State.setEngine_modResetWait (n : Nat) (x : EngineX) : (s.setEngine n x).modResetWait = s.modResetWait := rfl
@[simp] theorem State.setEngine_fdb (n : Nat) (x : EngineX) : (s.setEngine n x).fdb = s.fdb := rfl
@[simp] theorem State.setEngine_vlan (n : Nat) (x : EngineX) : (s.setEngine n x).vlan = s.vlan := rfl
@[simp] theorem State.setEngine_classifier (n : Nat) (x : EngineX) : (s.setEngine n x).classifier = s.classifier := rfl
@[simp] theorem State.setEngine_streams (n : Nat) (x : EngineX) : (s.setEngine n x).streams = s.streams := rfl
@[simp] theorem State.setEngine_contracts (n : Nat) (x : EngineX) : (s.setEngine n x).contracts = s.contracts := rfl
@[simp] theorem State.setEngine_portSets (n : Nat) (x : EngineX) : (s.setEngine n x).portSets = s.portSets := rfl
@[simp] theorem State.setEngine_invalid (n : Nat) (x : EngineX) : (s.setEngine n x).invalid = s.invalid := rfl
@[simp] theorem State.setEngine_folding (n : Nat) (x : EngineX) : (s.setEngine n x).folding = s.folding := rfl
@[simp] theorem State.setEngine_drains (n : Nat) (x : EngineX) : (s.setEngine n x).drains = s.drains := rfl
@[simp] theorem State.setEngine_lastDrain (n : Nat) (x : EngineX) : (s.setEngine n x).lastDrain = s.lastDrain := rfl
@[simp] theorem State.setEngine_learns (n : Nat) (x : EngineX) : (s.setEngine n x).learns = s.learns := rfl
@[simp] theorem State.setEngine_learnRate (n : Nat) (x : EngineX) : (s.setEngine n x).learnRate = s.learnRate := rfl
@[simp] theorem State.setEngine_gates (n : Nat) (x : EngineX) : (s.setEngine n x).gates = s.gates := rfl
@[simp] theorem State.setEngine_frer (n : Nat) (x : EngineX) : (s.setEngine n x).frer = s.frer := rfl
@[simp] theorem State.setEngine_contractX (n : Nat) (x : EngineX) : (s.setEngine n x).contractX = s.contractX := rfl
@[simp] theorem State.setEngine_breaches (n : Nat) (x : EngineX) : (s.setEngine n x).breaches = s.breaches := rfl
@[simp] theorem State.setEngine_overflowed (n : Nat) (x : EngineX) : (s.setEngine n x).overflowed = s.overflowed := rfl
@[simp] theorem State.setEngine_flights (n : Nat) (x : EngineX) : (s.setEngine n x).flights = s.flights := rfl
@[simp] theorem State.setEngine_crossings (n : Nat) (x : EngineX) : (s.setEngine n x).crossings = s.crossings := rfl
@[simp] theorem State.setEngine_wire (n : Nat) (x : EngineX) : (s.setEngine n x).wire = s.wire := rfl
@[simp] theorem State.setEngine_syncEdge (n : Nat) (x : EngineX) : (s.setEngine n x).syncEdge = s.syncEdge := rfl
@[simp] theorem State.setEngine_clockStarted (n : Nat) (x : EngineX) : (s.setEngine n x).clockStarted = s.clockStarted := rfl
@[simp] theorem State.setEngine_clocks (n : Nat) (x : EngineX) : (s.setEngine n x).clocks = s.clocks := rfl
@[simp] theorem State.setEngine_tbs (n : Nat) (x : EngineX) : (s.setEngine n x).tbs = s.tbs := rfl
@[simp] theorem State.setEngine_compares (n : Nat) (x : EngineX) : (s.setEngine n x).compares = s.compares := rfl
@[simp] theorem State.setEngine_fireflies (n : Nat) (x : EngineX) : (s.setEngine n x).fireflies = s.fireflies := rfl
@[simp] theorem State.setEngine_captures (n : Nat) (x : EngineX) : (s.setEngine n x).captures = s.captures := rfl
@[simp] theorem State.setEngine_ring (n : Nat) (x : EngineX) : (s.setEngine n x).ring = s.ring := rfl
@[simp] theorem State.setEngine_ringSeq (n : Nat) (x : EngineX) : (s.setEngine n x).ringSeq = s.ringSeq := rfl
@[simp] theorem State.setEngine_rewind (n : Nat) (x : EngineX) : (s.setEngine n x).rewind = s.rewind := rfl
@[simp] theorem State.setEngine_replicas (n : Nat) (x : EngineX) : (s.setEngine n x).replicas = s.replicas := rfl
@[simp] theorem State.setEngine_detectors (n : Nat) (x : EngineX) : (s.setEngine n x).detectors = s.detectors := rfl
@[simp] theorem State.setEngine_ptpDiscarded (n : Nat) (x : EngineX) : (s.setEngine n x).ptpDiscarded = s.ptpDiscarded := rfl
@[simp] theorem State.setEngine_slots (n : Nat) (x : EngineX) : (s.setEngine n x).slots = s.slots := rfl
@[simp] theorem State.setEngine_freqSwitching (n : Nat) (x : EngineX) : (s.setEngine n x).freqSwitching = s.freqSwitching := rfl
@[simp] theorem State.setEngine_frequency (n : Nat) (x : EngineX) : (s.setEngine n x).frequency = s.frequency := rfl
@[simp] theorem State.setEngine_freqMovedAt (n : Nat) (x : EngineX) : (s.setEngine n x).freqMovedAt = s.freqMovedAt := rfl
@[simp] theorem State.setEngine_freqNear (n : Nat) (x : EngineX) : (s.setEngine n x).freqNear = s.freqNear := rfl
@[simp] theorem State.setEngine_freqHeld (n : Nat) (x : EngineX) : (s.setEngine n x).freqHeld = s.freqHeld := rfl
@[simp] theorem State.setEngine_freqLog (n : Nat) (x : EngineX) : (s.setEngine n x).freqLog = s.freqLog := rfl
@[simp] theorem State.setEngine_esmcOut (n : Nat) (x : EngineX) : (s.setEngine n x).esmcOut = s.esmcOut := rfl
@[simp] theorem State.setEngine_analog (n : Nat) (x : EngineX) : (s.setEngine n x).analog = s.analog := rfl
@[simp] theorem State.setEngine_analogShadow (n : Nat) (x : EngineX) : (s.setEngine n x).analogShadow = s.analogShadow := rfl
@[simp] theorem State.setEngine_roundRuns (n : Nat) (x : EngineX) : (s.setEngine n x).roundRuns = s.roundRuns := rfl
@[simp] theorem State.setEngine_roundDue (n : Nat) (x : EngineX) : (s.setEngine n x).roundDue = s.roundDue := rfl
@[simp] theorem State.setEngine_trims (n : Nat) (x : EngineX) : (s.setEngine n x).trims = s.trims := rfl
@[simp] theorem State.setEngine_twin (n : Nat) (x : EngineX) : (s.setEngine n x).twin = s.twin := rfl
@[simp] theorem State.setEngine_messages (n : Nat) (x : EngineX) : (s.setEngine n x).messages = s.messages := rfl
@[simp] theorem State.setEngine_settings (n : Nat) (x : EngineX) : (s.setEngine n x).settings = s.settings := rfl
@[simp] theorem State.setEngine_sourceCounts (n : Nat) (x : EngineX) : (s.setEngine n x).sourceCounts = s.sourceCounts := rfl
@[simp] theorem State.setEngine_log (n : Nat) (x : EngineX) : (s.setEngine n x).log = s.log := rfl
@[simp] theorem State.setEngine_logRead (n : Nat) (x : EngineX) : (s.setEngine n x).logRead = s.logRead := rfl
@[simp] theorem State.setEngine_firstFault (n : Nat) (x : EngineX) : (s.setEngine n x).firstFault = s.firstFault := rfl
@[simp] theorem State.setEngine_safeRecord (n : Nat) (x : EngineX) : (s.setEngine n x).safeRecord = s.safeRecord := rfl
@[simp] theorem State.setEngine_fences (n : Nat) (x : EngineX) : (s.setEngine n x).fences = s.fences := rfl
@[simp] theorem State.setEngine_masks (n : Nat) (x : EngineX) : (s.setEngine n x).masks = s.masks := rfl
@[simp] theorem State.setEngine_windows (n : Nat) (x : EngineX) : (s.setEngine n x).windows = s.windows := rfl
@[simp] theorem State.setEngine_errN (n : Nat) (x : EngineX) : (s.setEngine n x).errN = s.errN := rfl
@[simp] theorem State.setEngine_safeN (n : Nat) (x : EngineX) : (s.setEngine n x).safeN = s.safeN := rfl
@[simp] theorem State.setEngine_errNHold (n : Nat) (x : EngineX) : (s.setEngine n x).errNHold = s.errNHold := rfl
@[simp] theorem State.setEngine_domains (n : Nat) (x : EngineX) : (s.setEngine n x).domains = s.domains := rfl
@[simp] theorem State.setEngine_sessions (n : Nat) (x : EngineX) : (s.setEngine n x).sessions = s.sessions := rfl
@[simp] theorem State.setEngine_commits (n : Nat) (x : EngineX) : (s.setEngine n x).commits = s.commits := rfl
@[simp] theorem State.setEngine_rings (n : Nat) (x : EngineX) : (s.setEngine n x).rings = s.rings := rfl
@[simp] theorem State.setEngine_perf (n : Nat) (x : EngineX) : (s.setEngine n x).perf = s.perf := rfl
@[simp] theorem State.setEngine_overflow (n : Nat) (x : EngineX) : (s.setEngine n x).overflow = s.overflow := rfl
@[simp] theorem State.setEngine_clearPending (n : Nat) (x : EngineX) : (s.setEngine n x).clearPending = s.clearPending := rfl
@[simp] theorem State.setEngine_regionSample (n : Nat) (x : EngineX) : (s.setEngine n x).regionSample = s.regionSample := rfl
@[simp] theorem State.setEngine_regionClear (n : Nat) (x : EngineX) : (s.setEngine n x).regionClear = s.regionClear := rfl
@[simp] theorem State.setEngine_epochAt (n : Nat) (x : EngineX) : (s.setEngine n x).epochAt = s.epochAt := rfl
@[simp] theorem State.setEngine_monitorPending (n : Nat) (x : EngineX) : (s.setEngine n x).monitorPending = s.monitorPending := rfl
@[simp] theorem State.setEngine_monitors (n : Nat) (x : EngineX) : (s.setEngine n x).monitors = s.monitors := rfl
@[simp] theorem State.setEngine_monitorFirst (n : Nat) (x : EngineX) : (s.setEngine n x).monitorFirst = s.monitorFirst := rfl
@[simp] theorem State.setEngine_security (n : Nat) (x : EngineX) : (s.setEngine n x).security = s.security := rfl
@[simp] theorem State.setEngine_start (n : Nat) (x : EngineX) : (s.setEngine n x).start = s.start := rfl
@[simp] theorem State.setEngine_bankDraws (n : Nat) (x : EngineX) : (s.setEngine n x).bankDraws = s.bankDraws := rfl
@[simp] theorem State.setEngine_shared (n : Nat) (x : EngineX) : (s.setEngine n x).shared = s.shared := rfl
@[simp] theorem State.setEngine_pending (n : Nat) (x : EngineX) : (s.setEngine n x).pending = s.pending := rfl

/-! ## setClock -/
@[simp] theorem State.setClock_now (n : Nat) (x : ClockX) : (s.setClock n x).now = s.now := rfl
@[simp] theorem State.setClock_regs (n : Nat) (x : ClockX) : (s.setClock n x).regs = s.regs := rfl
@[simp] theorem State.setClock_blobs (n : Nat) (x : ClockX) : (s.setClock n x).blobs = s.blobs := rfl
@[simp] theorem State.setClock_lastStatus (n : Nat) (x : ClockX) : (s.setClock n x).lastStatus = s.lastStatus := rfl
@[simp] theorem State.setClock_lastDetail (n : Nat) (x : ClockX) : (s.setClock n x).lastDetail = s.lastDetail := rfl
@[simp] theorem State.setClock_spiOut (n : Nat) (x : ClockX) : (s.setClock n x).spiOut = s.spiOut := rfl
@[simp] theorem State.setClock_outgoing (n : Nat) (x : ClockX) : (s.setClock n x).outgoing = s.outgoing := rfl
@[simp] theorem State.setClock_lanes (n : Nat) (x : ClockX) : (s.setClock n x).lanes = s.lanes := rfl
@[simp] theorem State.setClock_ports (n : Nat) (x : ClockX) : (s.setClock n x).ports = s.ports := rfl
@[simp] theorem State.setClock_timing (n : Nat) (x : ClockX) : (s.setClock n x).timing = s.timing := rfl
@[simp] theorem State.setClock_egress (n : Nat) (x : ClockX) : (s.setClock n x).egress = s.egress := rfl
@[simp] theorem State.setClock_queues (n : Nat) (x : ClockX) : (s.setClock n x).queues = s.queues := rfl
@[simp] theorem State.setClock_regions (n : Nat) (x : ClockX) : (s.setClock n x).regions = s.regions := rfl
@[simp] theorem State.setClock_rx (n : Nat) (x : ClockX) : (s.setClock n x).rx = s.rx := rfl
@[simp] theorem State.setClock_frameCount (n : Nat) (x : ClockX) : (s.setClock n x).frameCount = s.frameCount := rfl
@[simp] theorem State.setClock_pllLost (n : Nat) (x : ClockX) : (s.setClock n x).pllLost = s.pllLost := rfl
@[simp] theorem State.setClock_modReset (n : Nat) (x : ClockX) : (s.setClock n x).modReset = s.modReset := rfl
@[simp] theorem State.setClock_busQueue (n : Nat) (x : ClockX) : (s.setClock n x).busQueue = s.busQueue := rfl
@[simp] theorem State.setClock_modResetWait (n : Nat) (x : ClockX) : (s.setClock n x).modResetWait = s.modResetWait := rfl
@[simp] theorem State.setClock_fdb (n : Nat) (x : ClockX) : (s.setClock n x).fdb = s.fdb := rfl
@[simp] theorem State.setClock_vlan (n : Nat) (x : ClockX) : (s.setClock n x).vlan = s.vlan := rfl
@[simp] theorem State.setClock_classifier (n : Nat) (x : ClockX) : (s.setClock n x).classifier = s.classifier := rfl
@[simp] theorem State.setClock_streams (n : Nat) (x : ClockX) : (s.setClock n x).streams = s.streams := rfl
@[simp] theorem State.setClock_contracts (n : Nat) (x : ClockX) : (s.setClock n x).contracts = s.contracts := rfl
@[simp] theorem State.setClock_portSets (n : Nat) (x : ClockX) : (s.setClock n x).portSets = s.portSets := rfl
@[simp] theorem State.setClock_invalid (n : Nat) (x : ClockX) : (s.setClock n x).invalid = s.invalid := rfl
@[simp] theorem State.setClock_folding (n : Nat) (x : ClockX) : (s.setClock n x).folding = s.folding := rfl
@[simp] theorem State.setClock_drains (n : Nat) (x : ClockX) : (s.setClock n x).drains = s.drains := rfl
@[simp] theorem State.setClock_lastDrain (n : Nat) (x : ClockX) : (s.setClock n x).lastDrain = s.lastDrain := rfl
@[simp] theorem State.setClock_learns (n : Nat) (x : ClockX) : (s.setClock n x).learns = s.learns := rfl
@[simp] theorem State.setClock_learnRate (n : Nat) (x : ClockX) : (s.setClock n x).learnRate = s.learnRate := rfl
@[simp] theorem State.setClock_gates (n : Nat) (x : ClockX) : (s.setClock n x).gates = s.gates := rfl
@[simp] theorem State.setClock_frer (n : Nat) (x : ClockX) : (s.setClock n x).frer = s.frer := rfl
@[simp] theorem State.setClock_contractX (n : Nat) (x : ClockX) : (s.setClock n x).contractX = s.contractX := rfl
@[simp] theorem State.setClock_breaches (n : Nat) (x : ClockX) : (s.setClock n x).breaches = s.breaches := rfl
@[simp] theorem State.setClock_overflowed (n : Nat) (x : ClockX) : (s.setClock n x).overflowed = s.overflowed := rfl
@[simp] theorem State.setClock_flights (n : Nat) (x : ClockX) : (s.setClock n x).flights = s.flights := rfl
@[simp] theorem State.setClock_crossings (n : Nat) (x : ClockX) : (s.setClock n x).crossings = s.crossings := rfl
@[simp] theorem State.setClock_wire (n : Nat) (x : ClockX) : (s.setClock n x).wire = s.wire := rfl
@[simp] theorem State.setClock_syncEdge (n : Nat) (x : ClockX) : (s.setClock n x).syncEdge = s.syncEdge := rfl
@[simp] theorem State.setClock_clockStarted (n : Nat) (x : ClockX) : (s.setClock n x).clockStarted = s.clockStarted := rfl
@[simp] theorem State.setClock_tbs (n : Nat) (x : ClockX) : (s.setClock n x).tbs = s.tbs := rfl
@[simp] theorem State.setClock_compares (n : Nat) (x : ClockX) : (s.setClock n x).compares = s.compares := rfl
@[simp] theorem State.setClock_fireflies (n : Nat) (x : ClockX) : (s.setClock n x).fireflies = s.fireflies := rfl
@[simp] theorem State.setClock_captures (n : Nat) (x : ClockX) : (s.setClock n x).captures = s.captures := rfl
@[simp] theorem State.setClock_ring (n : Nat) (x : ClockX) : (s.setClock n x).ring = s.ring := rfl
@[simp] theorem State.setClock_ringSeq (n : Nat) (x : ClockX) : (s.setClock n x).ringSeq = s.ringSeq := rfl
@[simp] theorem State.setClock_rewind (n : Nat) (x : ClockX) : (s.setClock n x).rewind = s.rewind := rfl
@[simp] theorem State.setClock_replicas (n : Nat) (x : ClockX) : (s.setClock n x).replicas = s.replicas := rfl
@[simp] theorem State.setClock_detectors (n : Nat) (x : ClockX) : (s.setClock n x).detectors = s.detectors := rfl
@[simp] theorem State.setClock_ptpDiscarded (n : Nat) (x : ClockX) : (s.setClock n x).ptpDiscarded = s.ptpDiscarded := rfl
@[simp] theorem State.setClock_slots (n : Nat) (x : ClockX) : (s.setClock n x).slots = s.slots := rfl
@[simp] theorem State.setClock_freqSwitching (n : Nat) (x : ClockX) : (s.setClock n x).freqSwitching = s.freqSwitching := rfl
@[simp] theorem State.setClock_frequency (n : Nat) (x : ClockX) : (s.setClock n x).frequency = s.frequency := rfl
@[simp] theorem State.setClock_freqMovedAt (n : Nat) (x : ClockX) : (s.setClock n x).freqMovedAt = s.freqMovedAt := rfl
@[simp] theorem State.setClock_freqNear (n : Nat) (x : ClockX) : (s.setClock n x).freqNear = s.freqNear := rfl
@[simp] theorem State.setClock_freqHeld (n : Nat) (x : ClockX) : (s.setClock n x).freqHeld = s.freqHeld := rfl
@[simp] theorem State.setClock_freqLog (n : Nat) (x : ClockX) : (s.setClock n x).freqLog = s.freqLog := rfl
@[simp] theorem State.setClock_esmcOut (n : Nat) (x : ClockX) : (s.setClock n x).esmcOut = s.esmcOut := rfl
@[simp] theorem State.setClock_analog (n : Nat) (x : ClockX) : (s.setClock n x).analog = s.analog := rfl
@[simp] theorem State.setClock_analogShadow (n : Nat) (x : ClockX) : (s.setClock n x).analogShadow = s.analogShadow := rfl
@[simp] theorem State.setClock_roundRuns (n : Nat) (x : ClockX) : (s.setClock n x).roundRuns = s.roundRuns := rfl
@[simp] theorem State.setClock_roundDue (n : Nat) (x : ClockX) : (s.setClock n x).roundDue = s.roundDue := rfl
@[simp] theorem State.setClock_trims (n : Nat) (x : ClockX) : (s.setClock n x).trims = s.trims := rfl
@[simp] theorem State.setClock_twin (n : Nat) (x : ClockX) : (s.setClock n x).twin = s.twin := rfl
@[simp] theorem State.setClock_messages (n : Nat) (x : ClockX) : (s.setClock n x).messages = s.messages := rfl
@[simp] theorem State.setClock_settings (n : Nat) (x : ClockX) : (s.setClock n x).settings = s.settings := rfl
@[simp] theorem State.setClock_sourceCounts (n : Nat) (x : ClockX) : (s.setClock n x).sourceCounts = s.sourceCounts := rfl
@[simp] theorem State.setClock_log (n : Nat) (x : ClockX) : (s.setClock n x).log = s.log := rfl
@[simp] theorem State.setClock_logRead (n : Nat) (x : ClockX) : (s.setClock n x).logRead = s.logRead := rfl
@[simp] theorem State.setClock_firstFault (n : Nat) (x : ClockX) : (s.setClock n x).firstFault = s.firstFault := rfl
@[simp] theorem State.setClock_safeRecord (n : Nat) (x : ClockX) : (s.setClock n x).safeRecord = s.safeRecord := rfl
@[simp] theorem State.setClock_fences (n : Nat) (x : ClockX) : (s.setClock n x).fences = s.fences := rfl
@[simp] theorem State.setClock_masks (n : Nat) (x : ClockX) : (s.setClock n x).masks = s.masks := rfl
@[simp] theorem State.setClock_windows (n : Nat) (x : ClockX) : (s.setClock n x).windows = s.windows := rfl
@[simp] theorem State.setClock_errN (n : Nat) (x : ClockX) : (s.setClock n x).errN = s.errN := rfl
@[simp] theorem State.setClock_safeN (n : Nat) (x : ClockX) : (s.setClock n x).safeN = s.safeN := rfl
@[simp] theorem State.setClock_errNHold (n : Nat) (x : ClockX) : (s.setClock n x).errNHold = s.errNHold := rfl
@[simp] theorem State.setClock_domains (n : Nat) (x : ClockX) : (s.setClock n x).domains = s.domains := rfl
@[simp] theorem State.setClock_sessions (n : Nat) (x : ClockX) : (s.setClock n x).sessions = s.sessions := rfl
@[simp] theorem State.setClock_commits (n : Nat) (x : ClockX) : (s.setClock n x).commits = s.commits := rfl
@[simp] theorem State.setClock_engines (n : Nat) (x : ClockX) : (s.setClock n x).engines = s.engines := rfl
@[simp] theorem State.setClock_rings (n : Nat) (x : ClockX) : (s.setClock n x).rings = s.rings := rfl
@[simp] theorem State.setClock_perf (n : Nat) (x : ClockX) : (s.setClock n x).perf = s.perf := rfl
@[simp] theorem State.setClock_overflow (n : Nat) (x : ClockX) : (s.setClock n x).overflow = s.overflow := rfl
@[simp] theorem State.setClock_clearPending (n : Nat) (x : ClockX) : (s.setClock n x).clearPending = s.clearPending := rfl
@[simp] theorem State.setClock_regionSample (n : Nat) (x : ClockX) : (s.setClock n x).regionSample = s.regionSample := rfl
@[simp] theorem State.setClock_regionClear (n : Nat) (x : ClockX) : (s.setClock n x).regionClear = s.regionClear := rfl
@[simp] theorem State.setClock_epochAt (n : Nat) (x : ClockX) : (s.setClock n x).epochAt = s.epochAt := rfl
@[simp] theorem State.setClock_monitorPending (n : Nat) (x : ClockX) : (s.setClock n x).monitorPending = s.monitorPending := rfl
@[simp] theorem State.setClock_monitors (n : Nat) (x : ClockX) : (s.setClock n x).monitors = s.monitors := rfl
@[simp] theorem State.setClock_monitorFirst (n : Nat) (x : ClockX) : (s.setClock n x).monitorFirst = s.monitorFirst := rfl
@[simp] theorem State.setClock_security (n : Nat) (x : ClockX) : (s.setClock n x).security = s.security := rfl
@[simp] theorem State.setClock_start (n : Nat) (x : ClockX) : (s.setClock n x).start = s.start := rfl
@[simp] theorem State.setClock_bankDraws (n : Nat) (x : ClockX) : (s.setClock n x).bankDraws = s.bankDraws := rfl
@[simp] theorem State.setClock_shared (n : Nat) (x : ClockX) : (s.setClock n x).shared = s.shared := rfl
@[simp] theorem State.setClock_pending (n : Nat) (x : ClockX) : (s.setClock n x).pending = s.pending := rfl

/-! ## setRingX -/
@[simp] theorem State.setRingX_now (n : Nat) (x : RingX) : (s.setRingX n x).now = s.now := rfl
@[simp] theorem State.setRingX_regs (n : Nat) (x : RingX) : (s.setRingX n x).regs = s.regs := rfl
@[simp] theorem State.setRingX_blobs (n : Nat) (x : RingX) : (s.setRingX n x).blobs = s.blobs := rfl
@[simp] theorem State.setRingX_lastStatus (n : Nat) (x : RingX) : (s.setRingX n x).lastStatus = s.lastStatus := rfl
@[simp] theorem State.setRingX_lastDetail (n : Nat) (x : RingX) : (s.setRingX n x).lastDetail = s.lastDetail := rfl
@[simp] theorem State.setRingX_spiOut (n : Nat) (x : RingX) : (s.setRingX n x).spiOut = s.spiOut := rfl
@[simp] theorem State.setRingX_outgoing (n : Nat) (x : RingX) : (s.setRingX n x).outgoing = s.outgoing := rfl
@[simp] theorem State.setRingX_lanes (n : Nat) (x : RingX) : (s.setRingX n x).lanes = s.lanes := rfl
@[simp] theorem State.setRingX_ports (n : Nat) (x : RingX) : (s.setRingX n x).ports = s.ports := rfl
@[simp] theorem State.setRingX_timing (n : Nat) (x : RingX) : (s.setRingX n x).timing = s.timing := rfl
@[simp] theorem State.setRingX_egress (n : Nat) (x : RingX) : (s.setRingX n x).egress = s.egress := rfl
@[simp] theorem State.setRingX_queues (n : Nat) (x : RingX) : (s.setRingX n x).queues = s.queues := rfl
@[simp] theorem State.setRingX_regions (n : Nat) (x : RingX) : (s.setRingX n x).regions = s.regions := rfl
@[simp] theorem State.setRingX_rx (n : Nat) (x : RingX) : (s.setRingX n x).rx = s.rx := rfl
@[simp] theorem State.setRingX_frameCount (n : Nat) (x : RingX) : (s.setRingX n x).frameCount = s.frameCount := rfl
@[simp] theorem State.setRingX_pllLost (n : Nat) (x : RingX) : (s.setRingX n x).pllLost = s.pllLost := rfl
@[simp] theorem State.setRingX_modReset (n : Nat) (x : RingX) : (s.setRingX n x).modReset = s.modReset := rfl
@[simp] theorem State.setRingX_busQueue (n : Nat) (x : RingX) : (s.setRingX n x).busQueue = s.busQueue := rfl
@[simp] theorem State.setRingX_modResetWait (n : Nat) (x : RingX) : (s.setRingX n x).modResetWait = s.modResetWait := rfl
@[simp] theorem State.setRingX_fdb (n : Nat) (x : RingX) : (s.setRingX n x).fdb = s.fdb := rfl
@[simp] theorem State.setRingX_vlan (n : Nat) (x : RingX) : (s.setRingX n x).vlan = s.vlan := rfl
@[simp] theorem State.setRingX_classifier (n : Nat) (x : RingX) : (s.setRingX n x).classifier = s.classifier := rfl
@[simp] theorem State.setRingX_streams (n : Nat) (x : RingX) : (s.setRingX n x).streams = s.streams := rfl
@[simp] theorem State.setRingX_contracts (n : Nat) (x : RingX) : (s.setRingX n x).contracts = s.contracts := rfl
@[simp] theorem State.setRingX_portSets (n : Nat) (x : RingX) : (s.setRingX n x).portSets = s.portSets := rfl
@[simp] theorem State.setRingX_invalid (n : Nat) (x : RingX) : (s.setRingX n x).invalid = s.invalid := rfl
@[simp] theorem State.setRingX_folding (n : Nat) (x : RingX) : (s.setRingX n x).folding = s.folding := rfl
@[simp] theorem State.setRingX_drains (n : Nat) (x : RingX) : (s.setRingX n x).drains = s.drains := rfl
@[simp] theorem State.setRingX_lastDrain (n : Nat) (x : RingX) : (s.setRingX n x).lastDrain = s.lastDrain := rfl
@[simp] theorem State.setRingX_learns (n : Nat) (x : RingX) : (s.setRingX n x).learns = s.learns := rfl
@[simp] theorem State.setRingX_learnRate (n : Nat) (x : RingX) : (s.setRingX n x).learnRate = s.learnRate := rfl
@[simp] theorem State.setRingX_gates (n : Nat) (x : RingX) : (s.setRingX n x).gates = s.gates := rfl
@[simp] theorem State.setRingX_frer (n : Nat) (x : RingX) : (s.setRingX n x).frer = s.frer := rfl
@[simp] theorem State.setRingX_contractX (n : Nat) (x : RingX) : (s.setRingX n x).contractX = s.contractX := rfl
@[simp] theorem State.setRingX_breaches (n : Nat) (x : RingX) : (s.setRingX n x).breaches = s.breaches := rfl
@[simp] theorem State.setRingX_overflowed (n : Nat) (x : RingX) : (s.setRingX n x).overflowed = s.overflowed := rfl
@[simp] theorem State.setRingX_flights (n : Nat) (x : RingX) : (s.setRingX n x).flights = s.flights := rfl
@[simp] theorem State.setRingX_crossings (n : Nat) (x : RingX) : (s.setRingX n x).crossings = s.crossings := rfl
@[simp] theorem State.setRingX_wire (n : Nat) (x : RingX) : (s.setRingX n x).wire = s.wire := rfl
@[simp] theorem State.setRingX_syncEdge (n : Nat) (x : RingX) : (s.setRingX n x).syncEdge = s.syncEdge := rfl
@[simp] theorem State.setRingX_clockStarted (n : Nat) (x : RingX) : (s.setRingX n x).clockStarted = s.clockStarted := rfl
@[simp] theorem State.setRingX_clocks (n : Nat) (x : RingX) : (s.setRingX n x).clocks = s.clocks := rfl
@[simp] theorem State.setRingX_tbs (n : Nat) (x : RingX) : (s.setRingX n x).tbs = s.tbs := rfl
@[simp] theorem State.setRingX_compares (n : Nat) (x : RingX) : (s.setRingX n x).compares = s.compares := rfl
@[simp] theorem State.setRingX_fireflies (n : Nat) (x : RingX) : (s.setRingX n x).fireflies = s.fireflies := rfl
@[simp] theorem State.setRingX_captures (n : Nat) (x : RingX) : (s.setRingX n x).captures = s.captures := rfl
@[simp] theorem State.setRingX_ring (n : Nat) (x : RingX) : (s.setRingX n x).ring = s.ring := rfl
@[simp] theorem State.setRingX_ringSeq (n : Nat) (x : RingX) : (s.setRingX n x).ringSeq = s.ringSeq := rfl
@[simp] theorem State.setRingX_rewind (n : Nat) (x : RingX) : (s.setRingX n x).rewind = s.rewind := rfl
@[simp] theorem State.setRingX_replicas (n : Nat) (x : RingX) : (s.setRingX n x).replicas = s.replicas := rfl
@[simp] theorem State.setRingX_detectors (n : Nat) (x : RingX) : (s.setRingX n x).detectors = s.detectors := rfl
@[simp] theorem State.setRingX_ptpDiscarded (n : Nat) (x : RingX) : (s.setRingX n x).ptpDiscarded = s.ptpDiscarded := rfl
@[simp] theorem State.setRingX_slots (n : Nat) (x : RingX) : (s.setRingX n x).slots = s.slots := rfl
@[simp] theorem State.setRingX_freqSwitching (n : Nat) (x : RingX) : (s.setRingX n x).freqSwitching = s.freqSwitching := rfl
@[simp] theorem State.setRingX_frequency (n : Nat) (x : RingX) : (s.setRingX n x).frequency = s.frequency := rfl
@[simp] theorem State.setRingX_freqMovedAt (n : Nat) (x : RingX) : (s.setRingX n x).freqMovedAt = s.freqMovedAt := rfl
@[simp] theorem State.setRingX_freqNear (n : Nat) (x : RingX) : (s.setRingX n x).freqNear = s.freqNear := rfl
@[simp] theorem State.setRingX_freqHeld (n : Nat) (x : RingX) : (s.setRingX n x).freqHeld = s.freqHeld := rfl
@[simp] theorem State.setRingX_freqLog (n : Nat) (x : RingX) : (s.setRingX n x).freqLog = s.freqLog := rfl
@[simp] theorem State.setRingX_esmcOut (n : Nat) (x : RingX) : (s.setRingX n x).esmcOut = s.esmcOut := rfl
@[simp] theorem State.setRingX_analog (n : Nat) (x : RingX) : (s.setRingX n x).analog = s.analog := rfl
@[simp] theorem State.setRingX_analogShadow (n : Nat) (x : RingX) : (s.setRingX n x).analogShadow = s.analogShadow := rfl
@[simp] theorem State.setRingX_roundRuns (n : Nat) (x : RingX) : (s.setRingX n x).roundRuns = s.roundRuns := rfl
@[simp] theorem State.setRingX_roundDue (n : Nat) (x : RingX) : (s.setRingX n x).roundDue = s.roundDue := rfl
@[simp] theorem State.setRingX_trims (n : Nat) (x : RingX) : (s.setRingX n x).trims = s.trims := rfl
@[simp] theorem State.setRingX_twin (n : Nat) (x : RingX) : (s.setRingX n x).twin = s.twin := rfl
@[simp] theorem State.setRingX_messages (n : Nat) (x : RingX) : (s.setRingX n x).messages = s.messages := rfl
@[simp] theorem State.setRingX_settings (n : Nat) (x : RingX) : (s.setRingX n x).settings = s.settings := rfl
@[simp] theorem State.setRingX_sourceCounts (n : Nat) (x : RingX) : (s.setRingX n x).sourceCounts = s.sourceCounts := rfl
@[simp] theorem State.setRingX_log (n : Nat) (x : RingX) : (s.setRingX n x).log = s.log := rfl
@[simp] theorem State.setRingX_logRead (n : Nat) (x : RingX) : (s.setRingX n x).logRead = s.logRead := rfl
@[simp] theorem State.setRingX_firstFault (n : Nat) (x : RingX) : (s.setRingX n x).firstFault = s.firstFault := rfl
@[simp] theorem State.setRingX_safeRecord (n : Nat) (x : RingX) : (s.setRingX n x).safeRecord = s.safeRecord := rfl
@[simp] theorem State.setRingX_fences (n : Nat) (x : RingX) : (s.setRingX n x).fences = s.fences := rfl
@[simp] theorem State.setRingX_masks (n : Nat) (x : RingX) : (s.setRingX n x).masks = s.masks := rfl
@[simp] theorem State.setRingX_windows (n : Nat) (x : RingX) : (s.setRingX n x).windows = s.windows := rfl
@[simp] theorem State.setRingX_errN (n : Nat) (x : RingX) : (s.setRingX n x).errN = s.errN := rfl
@[simp] theorem State.setRingX_safeN (n : Nat) (x : RingX) : (s.setRingX n x).safeN = s.safeN := rfl
@[simp] theorem State.setRingX_errNHold (n : Nat) (x : RingX) : (s.setRingX n x).errNHold = s.errNHold := rfl
@[simp] theorem State.setRingX_domains (n : Nat) (x : RingX) : (s.setRingX n x).domains = s.domains := rfl
@[simp] theorem State.setRingX_sessions (n : Nat) (x : RingX) : (s.setRingX n x).sessions = s.sessions := rfl
@[simp] theorem State.setRingX_commits (n : Nat) (x : RingX) : (s.setRingX n x).commits = s.commits := rfl
@[simp] theorem State.setRingX_engines (n : Nat) (x : RingX) : (s.setRingX n x).engines = s.engines := rfl
@[simp] theorem State.setRingX_perf (n : Nat) (x : RingX) : (s.setRingX n x).perf = s.perf := rfl
@[simp] theorem State.setRingX_overflow (n : Nat) (x : RingX) : (s.setRingX n x).overflow = s.overflow := rfl
@[simp] theorem State.setRingX_clearPending (n : Nat) (x : RingX) : (s.setRingX n x).clearPending = s.clearPending := rfl
@[simp] theorem State.setRingX_regionSample (n : Nat) (x : RingX) : (s.setRingX n x).regionSample = s.regionSample := rfl
@[simp] theorem State.setRingX_regionClear (n : Nat) (x : RingX) : (s.setRingX n x).regionClear = s.regionClear := rfl
@[simp] theorem State.setRingX_epochAt (n : Nat) (x : RingX) : (s.setRingX n x).epochAt = s.epochAt := rfl
@[simp] theorem State.setRingX_monitorPending (n : Nat) (x : RingX) : (s.setRingX n x).monitorPending = s.monitorPending := rfl
@[simp] theorem State.setRingX_monitors (n : Nat) (x : RingX) : (s.setRingX n x).monitors = s.monitors := rfl
@[simp] theorem State.setRingX_monitorFirst (n : Nat) (x : RingX) : (s.setRingX n x).monitorFirst = s.monitorFirst := rfl
@[simp] theorem State.setRingX_security (n : Nat) (x : RingX) : (s.setRingX n x).security = s.security := rfl
@[simp] theorem State.setRingX_start (n : Nat) (x : RingX) : (s.setRingX n x).start = s.start := rfl
@[simp] theorem State.setRingX_bankDraws (n : Nat) (x : RingX) : (s.setRingX n x).bankDraws = s.bankDraws := rfl
@[simp] theorem State.setRingX_shared (n : Nat) (x : RingX) : (s.setRingX n x).shared = s.shared := rfl
@[simp] theorem State.setRingX_pending (n : Nat) (x : RingX) : (s.setRingX n x).pending = s.pending := rfl

/-! ## setSession -/
@[simp] theorem State.setSession_now (n : Nat) (x : SessionX) : (s.setSession n x).now = s.now := rfl
@[simp] theorem State.setSession_regs (n : Nat) (x : SessionX) : (s.setSession n x).regs = s.regs := rfl
@[simp] theorem State.setSession_blobs (n : Nat) (x : SessionX) : (s.setSession n x).blobs = s.blobs := rfl
@[simp] theorem State.setSession_lastStatus (n : Nat) (x : SessionX) : (s.setSession n x).lastStatus = s.lastStatus := rfl
@[simp] theorem State.setSession_lastDetail (n : Nat) (x : SessionX) : (s.setSession n x).lastDetail = s.lastDetail := rfl
@[simp] theorem State.setSession_spiOut (n : Nat) (x : SessionX) : (s.setSession n x).spiOut = s.spiOut := rfl
@[simp] theorem State.setSession_outgoing (n : Nat) (x : SessionX) : (s.setSession n x).outgoing = s.outgoing := rfl
@[simp] theorem State.setSession_lanes (n : Nat) (x : SessionX) : (s.setSession n x).lanes = s.lanes := rfl
@[simp] theorem State.setSession_ports (n : Nat) (x : SessionX) : (s.setSession n x).ports = s.ports := rfl
@[simp] theorem State.setSession_timing (n : Nat) (x : SessionX) : (s.setSession n x).timing = s.timing := rfl
@[simp] theorem State.setSession_egress (n : Nat) (x : SessionX) : (s.setSession n x).egress = s.egress := rfl
@[simp] theorem State.setSession_queues (n : Nat) (x : SessionX) : (s.setSession n x).queues = s.queues := rfl
@[simp] theorem State.setSession_regions (n : Nat) (x : SessionX) : (s.setSession n x).regions = s.regions := rfl
@[simp] theorem State.setSession_rx (n : Nat) (x : SessionX) : (s.setSession n x).rx = s.rx := rfl
@[simp] theorem State.setSession_frameCount (n : Nat) (x : SessionX) : (s.setSession n x).frameCount = s.frameCount := rfl
@[simp] theorem State.setSession_pllLost (n : Nat) (x : SessionX) : (s.setSession n x).pllLost = s.pllLost := rfl
@[simp] theorem State.setSession_modReset (n : Nat) (x : SessionX) : (s.setSession n x).modReset = s.modReset := rfl
@[simp] theorem State.setSession_busQueue (n : Nat) (x : SessionX) : (s.setSession n x).busQueue = s.busQueue := rfl
@[simp] theorem State.setSession_modResetWait (n : Nat) (x : SessionX) : (s.setSession n x).modResetWait = s.modResetWait := rfl
@[simp] theorem State.setSession_fdb (n : Nat) (x : SessionX) : (s.setSession n x).fdb = s.fdb := rfl
@[simp] theorem State.setSession_vlan (n : Nat) (x : SessionX) : (s.setSession n x).vlan = s.vlan := rfl
@[simp] theorem State.setSession_classifier (n : Nat) (x : SessionX) : (s.setSession n x).classifier = s.classifier := rfl
@[simp] theorem State.setSession_streams (n : Nat) (x : SessionX) : (s.setSession n x).streams = s.streams := rfl
@[simp] theorem State.setSession_contracts (n : Nat) (x : SessionX) : (s.setSession n x).contracts = s.contracts := rfl
@[simp] theorem State.setSession_portSets (n : Nat) (x : SessionX) : (s.setSession n x).portSets = s.portSets := rfl
@[simp] theorem State.setSession_invalid (n : Nat) (x : SessionX) : (s.setSession n x).invalid = s.invalid := rfl
@[simp] theorem State.setSession_folding (n : Nat) (x : SessionX) : (s.setSession n x).folding = s.folding := rfl
@[simp] theorem State.setSession_drains (n : Nat) (x : SessionX) : (s.setSession n x).drains = s.drains := rfl
@[simp] theorem State.setSession_lastDrain (n : Nat) (x : SessionX) : (s.setSession n x).lastDrain = s.lastDrain := rfl
@[simp] theorem State.setSession_learns (n : Nat) (x : SessionX) : (s.setSession n x).learns = s.learns := rfl
@[simp] theorem State.setSession_learnRate (n : Nat) (x : SessionX) : (s.setSession n x).learnRate = s.learnRate := rfl
@[simp] theorem State.setSession_gates (n : Nat) (x : SessionX) : (s.setSession n x).gates = s.gates := rfl
@[simp] theorem State.setSession_frer (n : Nat) (x : SessionX) : (s.setSession n x).frer = s.frer := rfl
@[simp] theorem State.setSession_contractX (n : Nat) (x : SessionX) : (s.setSession n x).contractX = s.contractX := rfl
@[simp] theorem State.setSession_breaches (n : Nat) (x : SessionX) : (s.setSession n x).breaches = s.breaches := rfl
@[simp] theorem State.setSession_overflowed (n : Nat) (x : SessionX) : (s.setSession n x).overflowed = s.overflowed := rfl
@[simp] theorem State.setSession_flights (n : Nat) (x : SessionX) : (s.setSession n x).flights = s.flights := rfl
@[simp] theorem State.setSession_crossings (n : Nat) (x : SessionX) : (s.setSession n x).crossings = s.crossings := rfl
@[simp] theorem State.setSession_wire (n : Nat) (x : SessionX) : (s.setSession n x).wire = s.wire := rfl
@[simp] theorem State.setSession_syncEdge (n : Nat) (x : SessionX) : (s.setSession n x).syncEdge = s.syncEdge := rfl
@[simp] theorem State.setSession_clockStarted (n : Nat) (x : SessionX) : (s.setSession n x).clockStarted = s.clockStarted := rfl
@[simp] theorem State.setSession_clocks (n : Nat) (x : SessionX) : (s.setSession n x).clocks = s.clocks := rfl
@[simp] theorem State.setSession_tbs (n : Nat) (x : SessionX) : (s.setSession n x).tbs = s.tbs := rfl
@[simp] theorem State.setSession_compares (n : Nat) (x : SessionX) : (s.setSession n x).compares = s.compares := rfl
@[simp] theorem State.setSession_fireflies (n : Nat) (x : SessionX) : (s.setSession n x).fireflies = s.fireflies := rfl
@[simp] theorem State.setSession_captures (n : Nat) (x : SessionX) : (s.setSession n x).captures = s.captures := rfl
@[simp] theorem State.setSession_ring (n : Nat) (x : SessionX) : (s.setSession n x).ring = s.ring := rfl
@[simp] theorem State.setSession_ringSeq (n : Nat) (x : SessionX) : (s.setSession n x).ringSeq = s.ringSeq := rfl
@[simp] theorem State.setSession_rewind (n : Nat) (x : SessionX) : (s.setSession n x).rewind = s.rewind := rfl
@[simp] theorem State.setSession_replicas (n : Nat) (x : SessionX) : (s.setSession n x).replicas = s.replicas := rfl
@[simp] theorem State.setSession_detectors (n : Nat) (x : SessionX) : (s.setSession n x).detectors = s.detectors := rfl
@[simp] theorem State.setSession_ptpDiscarded (n : Nat) (x : SessionX) : (s.setSession n x).ptpDiscarded = s.ptpDiscarded := rfl
@[simp] theorem State.setSession_slots (n : Nat) (x : SessionX) : (s.setSession n x).slots = s.slots := rfl
@[simp] theorem State.setSession_freqSwitching (n : Nat) (x : SessionX) : (s.setSession n x).freqSwitching = s.freqSwitching := rfl
@[simp] theorem State.setSession_frequency (n : Nat) (x : SessionX) : (s.setSession n x).frequency = s.frequency := rfl
@[simp] theorem State.setSession_freqMovedAt (n : Nat) (x : SessionX) : (s.setSession n x).freqMovedAt = s.freqMovedAt := rfl
@[simp] theorem State.setSession_freqNear (n : Nat) (x : SessionX) : (s.setSession n x).freqNear = s.freqNear := rfl
@[simp] theorem State.setSession_freqHeld (n : Nat) (x : SessionX) : (s.setSession n x).freqHeld = s.freqHeld := rfl
@[simp] theorem State.setSession_freqLog (n : Nat) (x : SessionX) : (s.setSession n x).freqLog = s.freqLog := rfl
@[simp] theorem State.setSession_esmcOut (n : Nat) (x : SessionX) : (s.setSession n x).esmcOut = s.esmcOut := rfl
@[simp] theorem State.setSession_analog (n : Nat) (x : SessionX) : (s.setSession n x).analog = s.analog := rfl
@[simp] theorem State.setSession_analogShadow (n : Nat) (x : SessionX) : (s.setSession n x).analogShadow = s.analogShadow := rfl
@[simp] theorem State.setSession_roundRuns (n : Nat) (x : SessionX) : (s.setSession n x).roundRuns = s.roundRuns := rfl
@[simp] theorem State.setSession_roundDue (n : Nat) (x : SessionX) : (s.setSession n x).roundDue = s.roundDue := rfl
@[simp] theorem State.setSession_trims (n : Nat) (x : SessionX) : (s.setSession n x).trims = s.trims := rfl
@[simp] theorem State.setSession_twin (n : Nat) (x : SessionX) : (s.setSession n x).twin = s.twin := rfl
@[simp] theorem State.setSession_messages (n : Nat) (x : SessionX) : (s.setSession n x).messages = s.messages := rfl
@[simp] theorem State.setSession_settings (n : Nat) (x : SessionX) : (s.setSession n x).settings = s.settings := rfl
@[simp] theorem State.setSession_sourceCounts (n : Nat) (x : SessionX) : (s.setSession n x).sourceCounts = s.sourceCounts := rfl
@[simp] theorem State.setSession_log (n : Nat) (x : SessionX) : (s.setSession n x).log = s.log := rfl
@[simp] theorem State.setSession_logRead (n : Nat) (x : SessionX) : (s.setSession n x).logRead = s.logRead := rfl
@[simp] theorem State.setSession_firstFault (n : Nat) (x : SessionX) : (s.setSession n x).firstFault = s.firstFault := rfl
@[simp] theorem State.setSession_safeRecord (n : Nat) (x : SessionX) : (s.setSession n x).safeRecord = s.safeRecord := rfl
@[simp] theorem State.setSession_fences (n : Nat) (x : SessionX) : (s.setSession n x).fences = s.fences := rfl
@[simp] theorem State.setSession_masks (n : Nat) (x : SessionX) : (s.setSession n x).masks = s.masks := rfl
@[simp] theorem State.setSession_windows (n : Nat) (x : SessionX) : (s.setSession n x).windows = s.windows := rfl
@[simp] theorem State.setSession_errN (n : Nat) (x : SessionX) : (s.setSession n x).errN = s.errN := rfl
@[simp] theorem State.setSession_safeN (n : Nat) (x : SessionX) : (s.setSession n x).safeN = s.safeN := rfl
@[simp] theorem State.setSession_errNHold (n : Nat) (x : SessionX) : (s.setSession n x).errNHold = s.errNHold := rfl
@[simp] theorem State.setSession_domains (n : Nat) (x : SessionX) : (s.setSession n x).domains = s.domains := rfl
@[simp] theorem State.setSession_commits (n : Nat) (x : SessionX) : (s.setSession n x).commits = s.commits := rfl
@[simp] theorem State.setSession_engines (n : Nat) (x : SessionX) : (s.setSession n x).engines = s.engines := rfl
@[simp] theorem State.setSession_rings (n : Nat) (x : SessionX) : (s.setSession n x).rings = s.rings := rfl
@[simp] theorem State.setSession_perf (n : Nat) (x : SessionX) : (s.setSession n x).perf = s.perf := rfl
@[simp] theorem State.setSession_overflow (n : Nat) (x : SessionX) : (s.setSession n x).overflow = s.overflow := rfl
@[simp] theorem State.setSession_clearPending (n : Nat) (x : SessionX) : (s.setSession n x).clearPending = s.clearPending := rfl
@[simp] theorem State.setSession_regionSample (n : Nat) (x : SessionX) : (s.setSession n x).regionSample = s.regionSample := rfl
@[simp] theorem State.setSession_regionClear (n : Nat) (x : SessionX) : (s.setSession n x).regionClear = s.regionClear := rfl
@[simp] theorem State.setSession_epochAt (n : Nat) (x : SessionX) : (s.setSession n x).epochAt = s.epochAt := rfl
@[simp] theorem State.setSession_monitorPending (n : Nat) (x : SessionX) : (s.setSession n x).monitorPending = s.monitorPending := rfl
@[simp] theorem State.setSession_monitors (n : Nat) (x : SessionX) : (s.setSession n x).monitors = s.monitors := rfl
@[simp] theorem State.setSession_monitorFirst (n : Nat) (x : SessionX) : (s.setSession n x).monitorFirst = s.monitorFirst := rfl
@[simp] theorem State.setSession_security (n : Nat) (x : SessionX) : (s.setSession n x).security = s.security := rfl
@[simp] theorem State.setSession_start (n : Nat) (x : SessionX) : (s.setSession n x).start = s.start := rfl
@[simp] theorem State.setSession_bankDraws (n : Nat) (x : SessionX) : (s.setSession n x).bankDraws = s.bankDraws := rfl
@[simp] theorem State.setSession_shared (n : Nat) (x : SessionX) : (s.setSession n x).shared = s.shared := rfl
@[simp] theorem State.setSession_pending (n : Nat) (x : SessionX) : (s.setSession n x).pending = s.pending := rfl

/-! ## setContractAt -/
@[simp] theorem State.setContractAt_now (n : Nat) (x : ContractX) : (s.setContractAt n x).now = s.now := rfl
@[simp] theorem State.setContractAt_regs (n : Nat) (x : ContractX) : (s.setContractAt n x).regs = s.regs := rfl
@[simp] theorem State.setContractAt_blobs (n : Nat) (x : ContractX) : (s.setContractAt n x).blobs = s.blobs := rfl
@[simp] theorem State.setContractAt_lastStatus (n : Nat) (x : ContractX) : (s.setContractAt n x).lastStatus = s.lastStatus := rfl
@[simp] theorem State.setContractAt_lastDetail (n : Nat) (x : ContractX) : (s.setContractAt n x).lastDetail = s.lastDetail := rfl
@[simp] theorem State.setContractAt_spiOut (n : Nat) (x : ContractX) : (s.setContractAt n x).spiOut = s.spiOut := rfl
@[simp] theorem State.setContractAt_outgoing (n : Nat) (x : ContractX) : (s.setContractAt n x).outgoing = s.outgoing := rfl
@[simp] theorem State.setContractAt_lanes (n : Nat) (x : ContractX) : (s.setContractAt n x).lanes = s.lanes := rfl
@[simp] theorem State.setContractAt_ports (n : Nat) (x : ContractX) : (s.setContractAt n x).ports = s.ports := rfl
@[simp] theorem State.setContractAt_timing (n : Nat) (x : ContractX) : (s.setContractAt n x).timing = s.timing := rfl
@[simp] theorem State.setContractAt_egress (n : Nat) (x : ContractX) : (s.setContractAt n x).egress = s.egress := rfl
@[simp] theorem State.setContractAt_queues (n : Nat) (x : ContractX) : (s.setContractAt n x).queues = s.queues := rfl
@[simp] theorem State.setContractAt_regions (n : Nat) (x : ContractX) : (s.setContractAt n x).regions = s.regions := rfl
@[simp] theorem State.setContractAt_rx (n : Nat) (x : ContractX) : (s.setContractAt n x).rx = s.rx := rfl
@[simp] theorem State.setContractAt_frameCount (n : Nat) (x : ContractX) : (s.setContractAt n x).frameCount = s.frameCount := rfl
@[simp] theorem State.setContractAt_pllLost (n : Nat) (x : ContractX) : (s.setContractAt n x).pllLost = s.pllLost := rfl
@[simp] theorem State.setContractAt_modReset (n : Nat) (x : ContractX) : (s.setContractAt n x).modReset = s.modReset := rfl
@[simp] theorem State.setContractAt_busQueue (n : Nat) (x : ContractX) : (s.setContractAt n x).busQueue = s.busQueue := rfl
@[simp] theorem State.setContractAt_modResetWait (n : Nat) (x : ContractX) : (s.setContractAt n x).modResetWait = s.modResetWait := rfl
@[simp] theorem State.setContractAt_fdb (n : Nat) (x : ContractX) : (s.setContractAt n x).fdb = s.fdb := rfl
@[simp] theorem State.setContractAt_vlan (n : Nat) (x : ContractX) : (s.setContractAt n x).vlan = s.vlan := rfl
@[simp] theorem State.setContractAt_classifier (n : Nat) (x : ContractX) : (s.setContractAt n x).classifier = s.classifier := rfl
@[simp] theorem State.setContractAt_streams (n : Nat) (x : ContractX) : (s.setContractAt n x).streams = s.streams := rfl
@[simp] theorem State.setContractAt_contracts (n : Nat) (x : ContractX) : (s.setContractAt n x).contracts = s.contracts := rfl
@[simp] theorem State.setContractAt_portSets (n : Nat) (x : ContractX) : (s.setContractAt n x).portSets = s.portSets := rfl
@[simp] theorem State.setContractAt_invalid (n : Nat) (x : ContractX) : (s.setContractAt n x).invalid = s.invalid := rfl
@[simp] theorem State.setContractAt_folding (n : Nat) (x : ContractX) : (s.setContractAt n x).folding = s.folding := rfl
@[simp] theorem State.setContractAt_drains (n : Nat) (x : ContractX) : (s.setContractAt n x).drains = s.drains := rfl
@[simp] theorem State.setContractAt_lastDrain (n : Nat) (x : ContractX) : (s.setContractAt n x).lastDrain = s.lastDrain := rfl
@[simp] theorem State.setContractAt_learns (n : Nat) (x : ContractX) : (s.setContractAt n x).learns = s.learns := rfl
@[simp] theorem State.setContractAt_learnRate (n : Nat) (x : ContractX) : (s.setContractAt n x).learnRate = s.learnRate := rfl
@[simp] theorem State.setContractAt_gates (n : Nat) (x : ContractX) : (s.setContractAt n x).gates = s.gates := rfl
@[simp] theorem State.setContractAt_frer (n : Nat) (x : ContractX) : (s.setContractAt n x).frer = s.frer := rfl
@[simp] theorem State.setContractAt_breaches (n : Nat) (x : ContractX) : (s.setContractAt n x).breaches = s.breaches := rfl
@[simp] theorem State.setContractAt_overflowed (n : Nat) (x : ContractX) : (s.setContractAt n x).overflowed = s.overflowed := rfl
@[simp] theorem State.setContractAt_flights (n : Nat) (x : ContractX) : (s.setContractAt n x).flights = s.flights := rfl
@[simp] theorem State.setContractAt_crossings (n : Nat) (x : ContractX) : (s.setContractAt n x).crossings = s.crossings := rfl
@[simp] theorem State.setContractAt_wire (n : Nat) (x : ContractX) : (s.setContractAt n x).wire = s.wire := rfl
@[simp] theorem State.setContractAt_syncEdge (n : Nat) (x : ContractX) : (s.setContractAt n x).syncEdge = s.syncEdge := rfl
@[simp] theorem State.setContractAt_clockStarted (n : Nat) (x : ContractX) : (s.setContractAt n x).clockStarted = s.clockStarted := rfl
@[simp] theorem State.setContractAt_clocks (n : Nat) (x : ContractX) : (s.setContractAt n x).clocks = s.clocks := rfl
@[simp] theorem State.setContractAt_tbs (n : Nat) (x : ContractX) : (s.setContractAt n x).tbs = s.tbs := rfl
@[simp] theorem State.setContractAt_compares (n : Nat) (x : ContractX) : (s.setContractAt n x).compares = s.compares := rfl
@[simp] theorem State.setContractAt_fireflies (n : Nat) (x : ContractX) : (s.setContractAt n x).fireflies = s.fireflies := rfl
@[simp] theorem State.setContractAt_captures (n : Nat) (x : ContractX) : (s.setContractAt n x).captures = s.captures := rfl
@[simp] theorem State.setContractAt_ring (n : Nat) (x : ContractX) : (s.setContractAt n x).ring = s.ring := rfl
@[simp] theorem State.setContractAt_ringSeq (n : Nat) (x : ContractX) : (s.setContractAt n x).ringSeq = s.ringSeq := rfl
@[simp] theorem State.setContractAt_rewind (n : Nat) (x : ContractX) : (s.setContractAt n x).rewind = s.rewind := rfl
@[simp] theorem State.setContractAt_replicas (n : Nat) (x : ContractX) : (s.setContractAt n x).replicas = s.replicas := rfl
@[simp] theorem State.setContractAt_detectors (n : Nat) (x : ContractX) : (s.setContractAt n x).detectors = s.detectors := rfl
@[simp] theorem State.setContractAt_ptpDiscarded (n : Nat) (x : ContractX) : (s.setContractAt n x).ptpDiscarded = s.ptpDiscarded := rfl
@[simp] theorem State.setContractAt_slots (n : Nat) (x : ContractX) : (s.setContractAt n x).slots = s.slots := rfl
@[simp] theorem State.setContractAt_freqSwitching (n : Nat) (x : ContractX) : (s.setContractAt n x).freqSwitching = s.freqSwitching := rfl
@[simp] theorem State.setContractAt_frequency (n : Nat) (x : ContractX) : (s.setContractAt n x).frequency = s.frequency := rfl
@[simp] theorem State.setContractAt_freqMovedAt (n : Nat) (x : ContractX) : (s.setContractAt n x).freqMovedAt = s.freqMovedAt := rfl
@[simp] theorem State.setContractAt_freqNear (n : Nat) (x : ContractX) : (s.setContractAt n x).freqNear = s.freqNear := rfl
@[simp] theorem State.setContractAt_freqHeld (n : Nat) (x : ContractX) : (s.setContractAt n x).freqHeld = s.freqHeld := rfl
@[simp] theorem State.setContractAt_freqLog (n : Nat) (x : ContractX) : (s.setContractAt n x).freqLog = s.freqLog := rfl
@[simp] theorem State.setContractAt_esmcOut (n : Nat) (x : ContractX) : (s.setContractAt n x).esmcOut = s.esmcOut := rfl
@[simp] theorem State.setContractAt_analog (n : Nat) (x : ContractX) : (s.setContractAt n x).analog = s.analog := rfl
@[simp] theorem State.setContractAt_analogShadow (n : Nat) (x : ContractX) : (s.setContractAt n x).analogShadow = s.analogShadow := rfl
@[simp] theorem State.setContractAt_roundRuns (n : Nat) (x : ContractX) : (s.setContractAt n x).roundRuns = s.roundRuns := rfl
@[simp] theorem State.setContractAt_roundDue (n : Nat) (x : ContractX) : (s.setContractAt n x).roundDue = s.roundDue := rfl
@[simp] theorem State.setContractAt_trims (n : Nat) (x : ContractX) : (s.setContractAt n x).trims = s.trims := rfl
@[simp] theorem State.setContractAt_twin (n : Nat) (x : ContractX) : (s.setContractAt n x).twin = s.twin := rfl
@[simp] theorem State.setContractAt_messages (n : Nat) (x : ContractX) : (s.setContractAt n x).messages = s.messages := rfl
@[simp] theorem State.setContractAt_settings (n : Nat) (x : ContractX) : (s.setContractAt n x).settings = s.settings := rfl
@[simp] theorem State.setContractAt_sourceCounts (n : Nat) (x : ContractX) : (s.setContractAt n x).sourceCounts = s.sourceCounts := rfl
@[simp] theorem State.setContractAt_log (n : Nat) (x : ContractX) : (s.setContractAt n x).log = s.log := rfl
@[simp] theorem State.setContractAt_logRead (n : Nat) (x : ContractX) : (s.setContractAt n x).logRead = s.logRead := rfl
@[simp] theorem State.setContractAt_firstFault (n : Nat) (x : ContractX) : (s.setContractAt n x).firstFault = s.firstFault := rfl
@[simp] theorem State.setContractAt_safeRecord (n : Nat) (x : ContractX) : (s.setContractAt n x).safeRecord = s.safeRecord := rfl
@[simp] theorem State.setContractAt_fences (n : Nat) (x : ContractX) : (s.setContractAt n x).fences = s.fences := rfl
@[simp] theorem State.setContractAt_masks (n : Nat) (x : ContractX) : (s.setContractAt n x).masks = s.masks := rfl
@[simp] theorem State.setContractAt_windows (n : Nat) (x : ContractX) : (s.setContractAt n x).windows = s.windows := rfl
@[simp] theorem State.setContractAt_errN (n : Nat) (x : ContractX) : (s.setContractAt n x).errN = s.errN := rfl
@[simp] theorem State.setContractAt_safeN (n : Nat) (x : ContractX) : (s.setContractAt n x).safeN = s.safeN := rfl
@[simp] theorem State.setContractAt_errNHold (n : Nat) (x : ContractX) : (s.setContractAt n x).errNHold = s.errNHold := rfl
@[simp] theorem State.setContractAt_domains (n : Nat) (x : ContractX) : (s.setContractAt n x).domains = s.domains := rfl
@[simp] theorem State.setContractAt_sessions (n : Nat) (x : ContractX) : (s.setContractAt n x).sessions = s.sessions := rfl
@[simp] theorem State.setContractAt_commits (n : Nat) (x : ContractX) : (s.setContractAt n x).commits = s.commits := rfl
@[simp] theorem State.setContractAt_engines (n : Nat) (x : ContractX) : (s.setContractAt n x).engines = s.engines := rfl
@[simp] theorem State.setContractAt_rings (n : Nat) (x : ContractX) : (s.setContractAt n x).rings = s.rings := rfl
@[simp] theorem State.setContractAt_perf (n : Nat) (x : ContractX) : (s.setContractAt n x).perf = s.perf := rfl
@[simp] theorem State.setContractAt_overflow (n : Nat) (x : ContractX) : (s.setContractAt n x).overflow = s.overflow := rfl
@[simp] theorem State.setContractAt_clearPending (n : Nat) (x : ContractX) : (s.setContractAt n x).clearPending = s.clearPending := rfl
@[simp] theorem State.setContractAt_regionSample (n : Nat) (x : ContractX) : (s.setContractAt n x).regionSample = s.regionSample := rfl
@[simp] theorem State.setContractAt_regionClear (n : Nat) (x : ContractX) : (s.setContractAt n x).regionClear = s.regionClear := rfl
@[simp] theorem State.setContractAt_epochAt (n : Nat) (x : ContractX) : (s.setContractAt n x).epochAt = s.epochAt := rfl
@[simp] theorem State.setContractAt_monitorPending (n : Nat) (x : ContractX) : (s.setContractAt n x).monitorPending = s.monitorPending := rfl
@[simp] theorem State.setContractAt_monitors (n : Nat) (x : ContractX) : (s.setContractAt n x).monitors = s.monitors := rfl
@[simp] theorem State.setContractAt_monitorFirst (n : Nat) (x : ContractX) : (s.setContractAt n x).monitorFirst = s.monitorFirst := rfl
@[simp] theorem State.setContractAt_security (n : Nat) (x : ContractX) : (s.setContractAt n x).security = s.security := rfl
@[simp] theorem State.setContractAt_start (n : Nat) (x : ContractX) : (s.setContractAt n x).start = s.start := rfl
@[simp] theorem State.setContractAt_bankDraws (n : Nat) (x : ContractX) : (s.setContractAt n x).bankDraws = s.bankDraws := rfl
@[simp] theorem State.setContractAt_shared (n : Nat) (x : ContractX) : (s.setContractAt n x).shared = s.shared := rfl
@[simp] theorem State.setContractAt_pending (n : Nat) (x : ContractX) : (s.setContractAt n x).pending = s.pending := rfl

/-! ## setCrossing -/
@[simp] theorem State.setCrossing_now (n : Nat) (x : CrossingX) : (s.setCrossing n x).now = s.now := rfl
@[simp] theorem State.setCrossing_regs (n : Nat) (x : CrossingX) : (s.setCrossing n x).regs = s.regs := rfl
@[simp] theorem State.setCrossing_blobs (n : Nat) (x : CrossingX) : (s.setCrossing n x).blobs = s.blobs := rfl
@[simp] theorem State.setCrossing_lastStatus (n : Nat) (x : CrossingX) : (s.setCrossing n x).lastStatus = s.lastStatus := rfl
@[simp] theorem State.setCrossing_lastDetail (n : Nat) (x : CrossingX) : (s.setCrossing n x).lastDetail = s.lastDetail := rfl
@[simp] theorem State.setCrossing_spiOut (n : Nat) (x : CrossingX) : (s.setCrossing n x).spiOut = s.spiOut := rfl
@[simp] theorem State.setCrossing_outgoing (n : Nat) (x : CrossingX) : (s.setCrossing n x).outgoing = s.outgoing := rfl
@[simp] theorem State.setCrossing_lanes (n : Nat) (x : CrossingX) : (s.setCrossing n x).lanes = s.lanes := rfl
@[simp] theorem State.setCrossing_ports (n : Nat) (x : CrossingX) : (s.setCrossing n x).ports = s.ports := rfl
@[simp] theorem State.setCrossing_timing (n : Nat) (x : CrossingX) : (s.setCrossing n x).timing = s.timing := rfl
@[simp] theorem State.setCrossing_egress (n : Nat) (x : CrossingX) : (s.setCrossing n x).egress = s.egress := rfl
@[simp] theorem State.setCrossing_queues (n : Nat) (x : CrossingX) : (s.setCrossing n x).queues = s.queues := rfl
@[simp] theorem State.setCrossing_regions (n : Nat) (x : CrossingX) : (s.setCrossing n x).regions = s.regions := rfl
@[simp] theorem State.setCrossing_rx (n : Nat) (x : CrossingX) : (s.setCrossing n x).rx = s.rx := rfl
@[simp] theorem State.setCrossing_frameCount (n : Nat) (x : CrossingX) : (s.setCrossing n x).frameCount = s.frameCount := rfl
@[simp] theorem State.setCrossing_pllLost (n : Nat) (x : CrossingX) : (s.setCrossing n x).pllLost = s.pllLost := rfl
@[simp] theorem State.setCrossing_modReset (n : Nat) (x : CrossingX) : (s.setCrossing n x).modReset = s.modReset := rfl
@[simp] theorem State.setCrossing_busQueue (n : Nat) (x : CrossingX) : (s.setCrossing n x).busQueue = s.busQueue := rfl
@[simp] theorem State.setCrossing_modResetWait (n : Nat) (x : CrossingX) : (s.setCrossing n x).modResetWait = s.modResetWait := rfl
@[simp] theorem State.setCrossing_fdb (n : Nat) (x : CrossingX) : (s.setCrossing n x).fdb = s.fdb := rfl
@[simp] theorem State.setCrossing_vlan (n : Nat) (x : CrossingX) : (s.setCrossing n x).vlan = s.vlan := rfl
@[simp] theorem State.setCrossing_classifier (n : Nat) (x : CrossingX) : (s.setCrossing n x).classifier = s.classifier := rfl
@[simp] theorem State.setCrossing_streams (n : Nat) (x : CrossingX) : (s.setCrossing n x).streams = s.streams := rfl
@[simp] theorem State.setCrossing_contracts (n : Nat) (x : CrossingX) : (s.setCrossing n x).contracts = s.contracts := rfl
@[simp] theorem State.setCrossing_portSets (n : Nat) (x : CrossingX) : (s.setCrossing n x).portSets = s.portSets := rfl
@[simp] theorem State.setCrossing_invalid (n : Nat) (x : CrossingX) : (s.setCrossing n x).invalid = s.invalid := rfl
@[simp] theorem State.setCrossing_folding (n : Nat) (x : CrossingX) : (s.setCrossing n x).folding = s.folding := rfl
@[simp] theorem State.setCrossing_drains (n : Nat) (x : CrossingX) : (s.setCrossing n x).drains = s.drains := rfl
@[simp] theorem State.setCrossing_lastDrain (n : Nat) (x : CrossingX) : (s.setCrossing n x).lastDrain = s.lastDrain := rfl
@[simp] theorem State.setCrossing_learns (n : Nat) (x : CrossingX) : (s.setCrossing n x).learns = s.learns := rfl
@[simp] theorem State.setCrossing_learnRate (n : Nat) (x : CrossingX) : (s.setCrossing n x).learnRate = s.learnRate := rfl
@[simp] theorem State.setCrossing_gates (n : Nat) (x : CrossingX) : (s.setCrossing n x).gates = s.gates := rfl
@[simp] theorem State.setCrossing_frer (n : Nat) (x : CrossingX) : (s.setCrossing n x).frer = s.frer := rfl
@[simp] theorem State.setCrossing_contractX (n : Nat) (x : CrossingX) : (s.setCrossing n x).contractX = s.contractX := rfl
@[simp] theorem State.setCrossing_breaches (n : Nat) (x : CrossingX) : (s.setCrossing n x).breaches = s.breaches := rfl
@[simp] theorem State.setCrossing_overflowed (n : Nat) (x : CrossingX) : (s.setCrossing n x).overflowed = s.overflowed := rfl
@[simp] theorem State.setCrossing_flights (n : Nat) (x : CrossingX) : (s.setCrossing n x).flights = s.flights := rfl
@[simp] theorem State.setCrossing_wire (n : Nat) (x : CrossingX) : (s.setCrossing n x).wire = s.wire := rfl
@[simp] theorem State.setCrossing_syncEdge (n : Nat) (x : CrossingX) : (s.setCrossing n x).syncEdge = s.syncEdge := rfl
@[simp] theorem State.setCrossing_clockStarted (n : Nat) (x : CrossingX) : (s.setCrossing n x).clockStarted = s.clockStarted := rfl
@[simp] theorem State.setCrossing_clocks (n : Nat) (x : CrossingX) : (s.setCrossing n x).clocks = s.clocks := rfl
@[simp] theorem State.setCrossing_tbs (n : Nat) (x : CrossingX) : (s.setCrossing n x).tbs = s.tbs := rfl
@[simp] theorem State.setCrossing_compares (n : Nat) (x : CrossingX) : (s.setCrossing n x).compares = s.compares := rfl
@[simp] theorem State.setCrossing_fireflies (n : Nat) (x : CrossingX) : (s.setCrossing n x).fireflies = s.fireflies := rfl
@[simp] theorem State.setCrossing_captures (n : Nat) (x : CrossingX) : (s.setCrossing n x).captures = s.captures := rfl
@[simp] theorem State.setCrossing_ring (n : Nat) (x : CrossingX) : (s.setCrossing n x).ring = s.ring := rfl
@[simp] theorem State.setCrossing_ringSeq (n : Nat) (x : CrossingX) : (s.setCrossing n x).ringSeq = s.ringSeq := rfl
@[simp] theorem State.setCrossing_rewind (n : Nat) (x : CrossingX) : (s.setCrossing n x).rewind = s.rewind := rfl
@[simp] theorem State.setCrossing_replicas (n : Nat) (x : CrossingX) : (s.setCrossing n x).replicas = s.replicas := rfl
@[simp] theorem State.setCrossing_detectors (n : Nat) (x : CrossingX) : (s.setCrossing n x).detectors = s.detectors := rfl
@[simp] theorem State.setCrossing_ptpDiscarded (n : Nat) (x : CrossingX) : (s.setCrossing n x).ptpDiscarded = s.ptpDiscarded := rfl
@[simp] theorem State.setCrossing_slots (n : Nat) (x : CrossingX) : (s.setCrossing n x).slots = s.slots := rfl
@[simp] theorem State.setCrossing_freqSwitching (n : Nat) (x : CrossingX) : (s.setCrossing n x).freqSwitching = s.freqSwitching := rfl
@[simp] theorem State.setCrossing_frequency (n : Nat) (x : CrossingX) : (s.setCrossing n x).frequency = s.frequency := rfl
@[simp] theorem State.setCrossing_freqMovedAt (n : Nat) (x : CrossingX) : (s.setCrossing n x).freqMovedAt = s.freqMovedAt := rfl
@[simp] theorem State.setCrossing_freqNear (n : Nat) (x : CrossingX) : (s.setCrossing n x).freqNear = s.freqNear := rfl
@[simp] theorem State.setCrossing_freqHeld (n : Nat) (x : CrossingX) : (s.setCrossing n x).freqHeld = s.freqHeld := rfl
@[simp] theorem State.setCrossing_freqLog (n : Nat) (x : CrossingX) : (s.setCrossing n x).freqLog = s.freqLog := rfl
@[simp] theorem State.setCrossing_esmcOut (n : Nat) (x : CrossingX) : (s.setCrossing n x).esmcOut = s.esmcOut := rfl
@[simp] theorem State.setCrossing_analog (n : Nat) (x : CrossingX) : (s.setCrossing n x).analog = s.analog := rfl
@[simp] theorem State.setCrossing_analogShadow (n : Nat) (x : CrossingX) : (s.setCrossing n x).analogShadow = s.analogShadow := rfl
@[simp] theorem State.setCrossing_roundRuns (n : Nat) (x : CrossingX) : (s.setCrossing n x).roundRuns = s.roundRuns := rfl
@[simp] theorem State.setCrossing_roundDue (n : Nat) (x : CrossingX) : (s.setCrossing n x).roundDue = s.roundDue := rfl
@[simp] theorem State.setCrossing_trims (n : Nat) (x : CrossingX) : (s.setCrossing n x).trims = s.trims := rfl
@[simp] theorem State.setCrossing_twin (n : Nat) (x : CrossingX) : (s.setCrossing n x).twin = s.twin := rfl
@[simp] theorem State.setCrossing_messages (n : Nat) (x : CrossingX) : (s.setCrossing n x).messages = s.messages := rfl
@[simp] theorem State.setCrossing_settings (n : Nat) (x : CrossingX) : (s.setCrossing n x).settings = s.settings := rfl
@[simp] theorem State.setCrossing_sourceCounts (n : Nat) (x : CrossingX) : (s.setCrossing n x).sourceCounts = s.sourceCounts := rfl
@[simp] theorem State.setCrossing_log (n : Nat) (x : CrossingX) : (s.setCrossing n x).log = s.log := rfl
@[simp] theorem State.setCrossing_logRead (n : Nat) (x : CrossingX) : (s.setCrossing n x).logRead = s.logRead := rfl
@[simp] theorem State.setCrossing_firstFault (n : Nat) (x : CrossingX) : (s.setCrossing n x).firstFault = s.firstFault := rfl
@[simp] theorem State.setCrossing_safeRecord (n : Nat) (x : CrossingX) : (s.setCrossing n x).safeRecord = s.safeRecord := rfl
@[simp] theorem State.setCrossing_fences (n : Nat) (x : CrossingX) : (s.setCrossing n x).fences = s.fences := rfl
@[simp] theorem State.setCrossing_masks (n : Nat) (x : CrossingX) : (s.setCrossing n x).masks = s.masks := rfl
@[simp] theorem State.setCrossing_windows (n : Nat) (x : CrossingX) : (s.setCrossing n x).windows = s.windows := rfl
@[simp] theorem State.setCrossing_errN (n : Nat) (x : CrossingX) : (s.setCrossing n x).errN = s.errN := rfl
@[simp] theorem State.setCrossing_safeN (n : Nat) (x : CrossingX) : (s.setCrossing n x).safeN = s.safeN := rfl
@[simp] theorem State.setCrossing_errNHold (n : Nat) (x : CrossingX) : (s.setCrossing n x).errNHold = s.errNHold := rfl
@[simp] theorem State.setCrossing_domains (n : Nat) (x : CrossingX) : (s.setCrossing n x).domains = s.domains := rfl
@[simp] theorem State.setCrossing_sessions (n : Nat) (x : CrossingX) : (s.setCrossing n x).sessions = s.sessions := rfl
@[simp] theorem State.setCrossing_commits (n : Nat) (x : CrossingX) : (s.setCrossing n x).commits = s.commits := rfl
@[simp] theorem State.setCrossing_engines (n : Nat) (x : CrossingX) : (s.setCrossing n x).engines = s.engines := rfl
@[simp] theorem State.setCrossing_rings (n : Nat) (x : CrossingX) : (s.setCrossing n x).rings = s.rings := rfl
@[simp] theorem State.setCrossing_perf (n : Nat) (x : CrossingX) : (s.setCrossing n x).perf = s.perf := rfl
@[simp] theorem State.setCrossing_overflow (n : Nat) (x : CrossingX) : (s.setCrossing n x).overflow = s.overflow := rfl
@[simp] theorem State.setCrossing_clearPending (n : Nat) (x : CrossingX) : (s.setCrossing n x).clearPending = s.clearPending := rfl
@[simp] theorem State.setCrossing_regionSample (n : Nat) (x : CrossingX) : (s.setCrossing n x).regionSample = s.regionSample := rfl
@[simp] theorem State.setCrossing_regionClear (n : Nat) (x : CrossingX) : (s.setCrossing n x).regionClear = s.regionClear := rfl
@[simp] theorem State.setCrossing_epochAt (n : Nat) (x : CrossingX) : (s.setCrossing n x).epochAt = s.epochAt := rfl
@[simp] theorem State.setCrossing_monitorPending (n : Nat) (x : CrossingX) : (s.setCrossing n x).monitorPending = s.monitorPending := rfl
@[simp] theorem State.setCrossing_monitors (n : Nat) (x : CrossingX) : (s.setCrossing n x).monitors = s.monitors := rfl
@[simp] theorem State.setCrossing_monitorFirst (n : Nat) (x : CrossingX) : (s.setCrossing n x).monitorFirst = s.monitorFirst := rfl
@[simp] theorem State.setCrossing_security (n : Nat) (x : CrossingX) : (s.setCrossing n x).security = s.security := rfl
@[simp] theorem State.setCrossing_start (n : Nat) (x : CrossingX) : (s.setCrossing n x).start = s.start := rfl
@[simp] theorem State.setCrossing_bankDraws (n : Nat) (x : CrossingX) : (s.setCrossing n x).bankDraws = s.bankDraws := rfl
@[simp] theorem State.setCrossing_shared (n : Nat) (x : CrossingX) : (s.setCrossing n x).shared = s.shared := rfl
@[simp] theorem State.setCrossing_pending (n : Nat) (x : CrossingX) : (s.setCrossing n x).pending = s.pending := rfl

/-! ## The writes that are one `setReg`, and reading back -/

@[simp] theorem State.setNat_eq (i j v : Nat) : s.setNat i j v = s.setReg i j (v : Int) := rfl
@[simp] theorem State.putBit_eq (i j b : Nat) (on : Bool) :
    s.putBit i j b on = s.setReg i j (setBit (s.nat i j) b on : Nat) := rfl
@[simp] theorem State.addSat_eq (i j w n : Nat) :
    s.addSat i j w n = s.setReg i j (min (s.nat i j + n) (2 ^ w - 1) : Nat) := rfl
@[simp] theorem State.inc16_eq (i j : Nat) : s.inc16 i j = s.addSat i j 16 1 := rfl
@[simp] theorem State.inc32_eq (i j : Nat) : s.inc32 i j = s.addSat i j 32 1 := rfl
@[simp] theorem State.inc64_eq (i j : Nat) : s.inc64 i j = s.addSat i j 64 1 := rfl

end Sys2Proof.Machine
end

