-- ==== Sys2Proof/Laws/Registers.lean ====
section
/-! SUPPORT. What each update of a register or of a numbered item makes later reads give. -/

namespace Sys2Proof.Machine

variable (s : State)

@[simp] theorem State.reg_setReg_same (i j : Nat) (v : Int) : (s.setReg i j v).reg i j = v :=
  Sparse.get_set_same _ _ _ _

theorem State.reg_setReg (i j : Nat) (v : Int) (i' j' : Nat) :
    (s.setReg i j v).reg i' j' = if key i j = key i' j' then v else s.reg i' j' := by
  by_cases h : key i j = key i' j'
  · rw [if_pos h]
    unfold State.reg State.setReg
    rw [h]
    exact Sparse.get_set_same _ _ _ _
  · rw [if_neg h]
    exact Sparse.get_set_ne _ _ _ _ h

@[simp] theorem State.nat_setReg_same (i j : Nat) (v : Int) : (s.setReg i j v).nat i j = v.toNat := by simp [State.nat]

theorem State.nat_setReg (i j : Nat) (v : Int) (i' j' : Nat) :
    (s.setReg i j v).nat i' j' = if key i j = key i' j' then v.toNat else s.nat i' j' := by
  simp only [State.nat, State.reg_setReg]; split <;> rfl

theorem State.reg_setReg_ne {i j i' j' : Nat} (v : Int) (h : key i j ≠ key i' j') :
    (s.setReg i j v).reg i' j' = s.reg i' j' := by rw [State.reg_setReg, if_neg h]

theorem State.nat_setReg_ne {i j i' j' : Nat} (v : Int) (h : key i j ≠ key i' j') :
    (s.setReg i j v).nat i' j' = s.nat i' j' := by rw [State.nat_setReg, if_neg h]

/-- Keys of different subindexes of one entry differ, whatever the entry. -/
theorem key_ne_sub {i j j' : Nat} (h : j ≠ j') : key i j ≠ key i j' := by unfold key; omega

/-- Keys of different indexes differ where the subindexes are bytes. -/
theorem key_ne_idx {i i' j j' : Nat} (h : i ≠ i') (hj : j < 256) (hj' : j' < 256) : key i j ≠ key i' j' := by
  unfold key; omega

@[simp] theorem State.blob_setBlob_same (i j : Nat) (v : List Byte) : (s.setBlob i j v).blob i j = v :=
  Sparse.get_set_same _ _ _ _

theorem State.blob_setBlob_ne {i j i' j' : Nat} (v : List Byte) (h : key i j ≠ key i' j') :
    (s.setBlob i j v).blob i' j' = s.blob i' j' := by
  exact Sparse.get_set_ne _ _ _ _ h

theorem State.lane_setLane (n : Nat) (x : LaneX) (k : Nat) :
    (s.setLane n x).lane k = if n = k then x else s.lane k := by
  simp [State.lane, State.setLane, Sparse.get_set]
@[simp] theorem State.lane_setLane_same (n : Nat) (x : LaneX) : (s.setLane n x).lane n = x := by
  simp [State.lane_setLane]
theorem State.port_setPort (n : Nat) (x : PortX) (k : Nat) :
    (s.setPort n x).port k = if n = k then x else s.port k := by
  simp [State.port, State.setPort, Sparse.get_set]
@[simp] theorem State.port_setPort_same (n : Nat) (x : PortX) : (s.setPort n x).port n = x := by
  simp [State.port_setPort]
theorem State.tim_setTim (n : Nat) (x : TimingX) (k : Nat) :
    (s.setTim n x).tim k = if n = k then x else s.tim k := by
  simp [State.tim, State.setTim, Sparse.get_set]
@[simp] theorem State.tim_setTim_same (n : Nat) (x : TimingX) : (s.setTim n x).tim n = x := by
  simp [State.tim_setTim]
theorem State.eg_setEg (n : Nat) (x : EgressX) (k : Nat) :
    (s.setEg n x).eg k = if n = k then x else s.eg k := by
  simp [State.eg, State.setEg, Sparse.get_set]
@[simp] theorem State.eg_setEg_same (n : Nat) (x : EgressX) : (s.setEg n x).eg n = x := by
  simp [State.eg_setEg]
theorem State.region_setRegion (n : Nat) (x : RegionX) (k : Nat) :
    (s.setRegion n x).region k = if n = k then x else s.region k := by
  simp [State.region, State.setRegion, Sparse.get_set]
@[simp] theorem State.region_setRegion_same (n : Nat) (x : RegionX) : (s.setRegion n x).region n = x := by
  simp [State.region_setRegion]
theorem State.rxAt_setRx (n : Nat) (x : Option RxFrame) (k : Nat) :
    (s.setRx n x).rxAt k = if n = k then x else s.rxAt k := by
  simp [State.rxAt, State.setRx, Sparse.get_set]
@[simp] theorem State.rxAt_setRx_same (n : Nat) (x : Option RxFrame) : (s.setRx n x).rxAt n = x := by
  simp [State.rxAt_setRx]
theorem State.tb_setTb (n : Nat) (x : TbX) (k : Nat) :
    (s.setTb n x).tb k = if n = k then x else s.tb k := by
  simp [State.tb, State.setTb, Sparse.get_set]
@[simp] theorem State.tb_setTb_same (n : Nat) (x : TbX) : (s.setTb n x).tb n = x := by
  simp [State.tb_setTb]
theorem State.compare_setCompare (n : Nat) (x : CompareX) (k : Nat) :
    (s.setCompare n x).compare k = if n = k then x else s.compare k := by
  simp [State.compare, State.setCompare, Sparse.get_set]
@[simp] theorem State.compare_setCompare_same (n : Nat) (x : CompareX) : (s.setCompare n x).compare n = x := by
  simp [State.compare_setCompare]
theorem State.firefly_setFirefly (n : Nat) (x : FireflyX) (k : Nat) :
    (s.setFirefly n x).firefly k = if n = k then x else s.firefly k := by
  simp [State.firefly, State.setFirefly, Sparse.get_set]
@[simp] theorem State.firefly_setFirefly_same (n : Nat) (x : FireflyX) : (s.setFirefly n x).firefly n = x := by
  simp [State.firefly_setFirefly]
theorem State.capture_setCapture (n : Nat) (x : CaptureX) (k : Nat) :
    (s.setCapture n x).capture k = if n = k then x else s.capture k := by
  simp [State.capture, State.setCapture, Sparse.get_set]
@[simp] theorem State.capture_setCapture_same (n : Nat) (x : CaptureX) : (s.setCapture n x).capture n = x := by
  simp [State.capture_setCapture]
theorem State.replica_setReplica (n : Nat) (x : ReplicaX) (k : Nat) :
    (s.setReplica n x).replica k = if n = k then x else s.replica k := by
  simp [State.replica, State.setReplica, Sparse.get_set]
@[simp] theorem State.replica_setReplica_same (n : Nat) (x : ReplicaX) : (s.setReplica n x).replica n = x := by
  simp [State.replica_setReplica]
theorem State.detector_setDetector (n : Nat) (x : DetectorX) (k : Nat) :
    (s.setDetector n x).detector k = if n = k then x else s.detector k := by
  simp [State.detector, State.setDetector, Sparse.get_set]
@[simp] theorem State.detector_setDetector_same (n : Nat) (x : DetectorX) : (s.setDetector n x).detector n = x := by
  simp [State.detector_setDetector]
theorem State.slot_setSlot (n : Nat) (x : SlotX) (k : Nat) :
    (s.setSlot n x).slot k = if n = k then x else s.slot k := by
  simp [State.slot, State.setSlot, Sparse.get_set]
@[simp] theorem State.slot_setSlot_same (n : Nat) (x : SlotX) : (s.setSlot n x).slot n = x := by
  simp [State.slot_setSlot]
theorem State.trim_setTrim (n : Nat) (x : TrimX) (k : Nat) :
    (s.setTrim n x).trim k = if n = k then x else s.trim k := by
  simp [State.trim, State.setTrim, Sparse.get_set]
@[simp] theorem State.trim_setTrim_same (n : Nat) (x : TrimX) : (s.setTrim n x).trim n = x := by
  simp [State.trim_setTrim]
theorem State.engine_setEngine (n : Nat) (x : EngineX) (k : Nat) :
    (s.setEngine n x).engine k = if n = k then x else s.engine k := by
  simp [State.engine, State.setEngine, Sparse.get_set]
@[simp] theorem State.engine_setEngine_same (n : Nat) (x : EngineX) : (s.setEngine n x).engine n = x := by
  simp [State.engine_setEngine]
theorem State.ringX_setRingX (n : Nat) (x : RingX) (k : Nat) :
    (s.setRingX n x).ringX k = if n = k then x else s.ringX k := by
  simp [State.ringX, State.setRingX, Sparse.get_set]
@[simp] theorem State.ringX_setRingX_same (n : Nat) (x : RingX) : (s.setRingX n x).ringX n = x := by
  simp [State.ringX_setRingX]
theorem State.session_setSession (n : Nat) (x : SessionX) (k : Nat) :
    (s.setSession n x).session k = if n = k then x else s.session k := by
  simp [State.session, State.setSession, Sparse.get_set]
@[simp] theorem State.session_setSession_same (n : Nat) (x : SessionX) : (s.setSession n x).session n = x := by
  simp [State.session_setSession]
theorem State.contractAt_setContractAt (n : Nat) (x : ContractX) (k : Nat) :
    (s.setContractAt n x).contractAt k = if n = k then x else s.contractAt k := by
  simp [State.contractAt, State.setContractAt, Sparse.get_set]
@[simp] theorem State.contractAt_setContractAt_same (n : Nat) (x : ContractX) : (s.setContractAt n x).contractAt n = x := by
  simp [State.contractAt_setContractAt]
theorem State.crossing_setCrossing (n : Nat) (x : CrossingX) (k : Nat) :
    (s.setCrossing n x).crossing k = if n = k then x else s.crossing k := by
  simp [State.crossing, State.setCrossing, Sparse.get_set]
@[simp] theorem State.crossing_setCrossing_same (n : Nat) (x : CrossingX) : (s.setCrossing n x).crossing n = x := by
  simp [State.crossing_setCrossing]
theorem State.queue_setQueue (p q : Nat) (x : QueueX) (p' q' : Nat) :
    (s.setQueue p q x).queue p' q' = if 32 * p + q = 32 * p' + q' then x else s.queue p' q' := by
  simp [State.queue, State.setQueue, Sparse.get_set]
@[simp] theorem State.queue_setQueue_same (p q : Nat) (x : QueueX) : (s.setQueue p q x).queue p q = x := by
  simp [State.queue_setQueue]

/-! ## Reads that another kind of update leaves alone -/

@[simp] theorem State.lane_setReg (i j : Nat) (v : Int) (k : Nat) : (s.setReg i j v).lane k = s.lane k := rfl
@[simp] theorem State.port_setReg (i j : Nat) (v : Int) (k : Nat) : (s.setReg i j v).port k = s.port k := rfl
@[simp] theorem State.tim_setReg (i j : Nat) (v : Int) (k : Nat) : (s.setReg i j v).tim k = s.tim k := rfl
@[simp] theorem State.eg_setReg (i j : Nat) (v : Int) (k : Nat) : (s.setReg i j v).eg k = s.eg k := rfl
@[simp] theorem State.region_setReg (i j : Nat) (v : Int) (k : Nat) : (s.setReg i j v).region k = s.region k := rfl
@[simp] theorem State.rxAt_setReg (i j : Nat) (v : Int) (k : Nat) : (s.setReg i j v).rxAt k = s.rxAt k := rfl
@[simp] theorem State.tb_setReg (i j : Nat) (v : Int) (k : Nat) : (s.setReg i j v).tb k = s.tb k := rfl
@[simp] theorem State.compare_setReg (i j : Nat) (v : Int) (k : Nat) : (s.setReg i j v).compare k = s.compare k := rfl
@[simp] theorem State.firefly_setReg (i j : Nat) (v : Int) (k : Nat) : (s.setReg i j v).firefly k = s.firefly k := rfl
@[simp] theorem State.capture_setReg (i j : Nat) (v : Int) (k : Nat) : (s.setReg i j v).capture k = s.capture k := rfl
@[simp] theorem State.replica_setReg (i j : Nat) (v : Int) (k : Nat) : (s.setReg i j v).replica k = s.replica k := rfl
@[simp] theorem State.detector_setReg (i j : Nat) (v : Int) (k : Nat) : (s.setReg i j v).detector k = s.detector k := rfl
@[simp] theorem State.slot_setReg (i j : Nat) (v : Int) (k : Nat) : (s.setReg i j v).slot k = s.slot k := rfl
@[simp] theorem State.trim_setReg (i j : Nat) (v : Int) (k : Nat) : (s.setReg i j v).trim k = s.trim k := rfl
@[simp] theorem State.engine_setReg (i j : Nat) (v : Int) (k : Nat) : (s.setReg i j v).engine k = s.engine k := rfl
@[simp] theorem State.ringX_setReg (i j : Nat) (v : Int) (k : Nat) : (s.setReg i j v).ringX k = s.ringX k := rfl
@[simp] theorem State.session_setReg (i j : Nat) (v : Int) (k : Nat) : (s.setReg i j v).session k = s.session k := rfl
@[simp] theorem State.contractAt_setReg (i j : Nat) (v : Int) (k : Nat) : (s.setReg i j v).contractAt k = s.contractAt k := rfl
@[simp] theorem State.crossing_setReg (i j : Nat) (v : Int) (k : Nat) : (s.setReg i j v).crossing k = s.crossing k := rfl
@[simp] theorem State.queue_setReg (i j : Nat) (v : Int) (p q : Nat) : (s.setReg i j v).queue p q = s.queue p q := rfl
@[simp] theorem State.blob_setReg (i j : Nat) (v : Int) (i' j' : Nat) : (s.setReg i j v).blob i' j' = s.blob i' j' := rfl
@[simp] theorem State.lane_setBlob (i j : Nat) (v : List Byte) (k : Nat) : (s.setBlob i j v).lane k = s.lane k := rfl
@[simp] theorem State.port_setBlob (i j : Nat) (v : List Byte) (k : Nat) : (s.setBlob i j v).port k = s.port k := rfl
@[simp] theorem State.tim_setBlob (i j : Nat) (v : List Byte) (k : Nat) : (s.setBlob i j v).tim k = s.tim k := rfl
@[simp] theorem State.eg_setBlob (i j : Nat) (v : List Byte) (k : Nat) : (s.setBlob i j v).eg k = s.eg k := rfl
@[simp] theorem State.region_setBlob (i j : Nat) (v : List Byte) (k : Nat) : (s.setBlob i j v).region k = s.region k := rfl
@[simp] theorem State.rxAt_setBlob (i j : Nat) (v : List Byte) (k : Nat) : (s.setBlob i j v).rxAt k = s.rxAt k := rfl
@[simp] theorem State.tb_setBlob (i j : Nat) (v : List Byte) (k : Nat) : (s.setBlob i j v).tb k = s.tb k := rfl
@[simp] theorem State.compare_setBlob (i j : Nat) (v : List Byte) (k : Nat) : (s.setBlob i j v).compare k = s.compare k := rfl
@[simp] theorem State.firefly_setBlob (i j : Nat) (v : List Byte) (k : Nat) : (s.setBlob i j v).firefly k = s.firefly k := rfl
@[simp] theorem State.capture_setBlob (i j : Nat) (v : List Byte) (k : Nat) : (s.setBlob i j v).capture k = s.capture k := rfl
@[simp] theorem State.replica_setBlob (i j : Nat) (v : List Byte) (k : Nat) : (s.setBlob i j v).replica k = s.replica k := rfl
@[simp] theorem State.detector_setBlob (i j : Nat) (v : List Byte) (k : Nat) : (s.setBlob i j v).detector k = s.detector k := rfl
@[simp] theorem State.slot_setBlob (i j : Nat) (v : List Byte) (k : Nat) : (s.setBlob i j v).slot k = s.slot k := rfl
@[simp] theorem State.trim_setBlob (i j : Nat) (v : List Byte) (k : Nat) : (s.setBlob i j v).trim k = s.trim k := rfl
@[simp] theorem State.engine_setBlob (i j : Nat) (v : List Byte) (k : Nat) : (s.setBlob i j v).engine k = s.engine k := rfl
@[simp] theorem State.ringX_setBlob (i j : Nat) (v : List Byte) (k : Nat) : (s.setBlob i j v).ringX k = s.ringX k := rfl
@[simp] theorem State.session_setBlob (i j : Nat) (v : List Byte) (k : Nat) : (s.setBlob i j v).session k = s.session k := rfl
@[simp] theorem State.contractAt_setBlob (i j : Nat) (v : List Byte) (k : Nat) : (s.setBlob i j v).contractAt k = s.contractAt k := rfl
@[simp] theorem State.crossing_setBlob (i j : Nat) (v : List Byte) (k : Nat) : (s.setBlob i j v).crossing k = s.crossing k := rfl
@[simp] theorem State.queue_setBlob (i j : Nat) (v : List Byte) (p q : Nat) : (s.setBlob i j v).queue p q = s.queue p q := rfl
@[simp] theorem State.reg_setBlob (i j : Nat) (v : List Byte) (i' j' : Nat) : (s.setBlob i j v).reg i' j' = s.reg i' j' := rfl
@[simp] theorem State.nat_setBlob (i j : Nat) (v : List Byte) (i' j' : Nat) : (s.setBlob i j v).nat i' j' = s.nat i' j' := rfl
@[simp] theorem State.flag_setBlob (i j : Nat) (v : List Byte) (i' j' : Nat) : (s.setBlob i j v).flag i' j' = s.flag i' j' := rfl
@[simp] theorem State.lane_answer (c d : Nat) (k : Nat) : (s.answer c d).lane k = s.lane k := rfl
@[simp] theorem State.port_answer (c d : Nat) (k : Nat) : (s.answer c d).port k = s.port k := rfl
@[simp] theorem State.tim_answer (c d : Nat) (k : Nat) : (s.answer c d).tim k = s.tim k := rfl
@[simp] theorem State.eg_answer (c d : Nat) (k : Nat) : (s.answer c d).eg k = s.eg k := rfl
@[simp] theorem State.region_answer (c d : Nat) (k : Nat) : (s.answer c d).region k = s.region k := rfl
@[simp] theorem State.rxAt_answer (c d : Nat) (k : Nat) : (s.answer c d).rxAt k = s.rxAt k := rfl
@[simp] theorem State.tb_answer (c d : Nat) (k : Nat) : (s.answer c d).tb k = s.tb k := rfl
@[simp] theorem State.compare_answer (c d : Nat) (k : Nat) : (s.answer c d).compare k = s.compare k := rfl
@[simp] theorem State.firefly_answer (c d : Nat) (k : Nat) : (s.answer c d).firefly k = s.firefly k := rfl
@[simp] theorem State.capture_answer (c d : Nat) (k : Nat) : (s.answer c d).capture k = s.capture k := rfl
@[simp] theorem State.replica_answer (c d : Nat) (k : Nat) : (s.answer c d).replica k = s.replica k := rfl
@[simp] theorem State.detector_answer (c d : Nat) (k : Nat) : (s.answer c d).detector k = s.detector k := rfl
@[simp] theorem State.slot_answer (c d : Nat) (k : Nat) : (s.answer c d).slot k = s.slot k := rfl
@[simp] theorem State.trim_answer (c d : Nat) (k : Nat) : (s.answer c d).trim k = s.trim k := rfl
@[simp] theorem State.engine_answer (c d : Nat) (k : Nat) : (s.answer c d).engine k = s.engine k := rfl
@[simp] theorem State.ringX_answer (c d : Nat) (k : Nat) : (s.answer c d).ringX k = s.ringX k := rfl
@[simp] theorem State.session_answer (c d : Nat) (k : Nat) : (s.answer c d).session k = s.session k := rfl
@[simp] theorem State.contractAt_answer (c d : Nat) (k : Nat) : (s.answer c d).contractAt k = s.contractAt k := rfl
@[simp] theorem State.crossing_answer (c d : Nat) (k : Nat) : (s.answer c d).crossing k = s.crossing k := rfl
@[simp] theorem State.queue_answer (c d : Nat) (p q : Nat) : (s.answer c d).queue p q = s.queue p q := rfl
@[simp] theorem State.reg_answer (c d : Nat) (i' j' : Nat) : (s.answer c d).reg i' j' = s.reg i' j' := rfl
@[simp] theorem State.nat_answer (c d : Nat) (i' j' : Nat) : (s.answer c d).nat i' j' = s.nat i' j' := rfl
@[simp] theorem State.flag_answer (c d : Nat) (i' j' : Nat) : (s.answer c d).flag i' j' = s.flag i' j' := rfl
@[simp] theorem State.blob_answer (c d : Nat) (i' j' : Nat) : (s.answer c d).blob i' j' = s.blob i' j' := rfl
@[simp] theorem State.lane_countSource (n : Nat) (k : Nat) : (s.countSource n).lane k = s.lane k := rfl
@[simp] theorem State.port_countSource (n : Nat) (k : Nat) : (s.countSource n).port k = s.port k := rfl
@[simp] theorem State.tim_countSource (n : Nat) (k : Nat) : (s.countSource n).tim k = s.tim k := rfl
@[simp] theorem State.eg_countSource (n : Nat) (k : Nat) : (s.countSource n).eg k = s.eg k := rfl
@[simp] theorem State.region_countSource (n : Nat) (k : Nat) : (s.countSource n).region k = s.region k := rfl
@[simp] theorem State.rxAt_countSource (n : Nat) (k : Nat) : (s.countSource n).rxAt k = s.rxAt k := rfl
@[simp] theorem State.tb_countSource (n : Nat) (k : Nat) : (s.countSource n).tb k = s.tb k := rfl
@[simp] theorem State.compare_countSource (n : Nat) (k : Nat) : (s.countSource n).compare k = s.compare k := rfl
@[simp] theorem State.firefly_countSource (n : Nat) (k : Nat) : (s.countSource n).firefly k = s.firefly k := rfl
@[simp] theorem State.capture_countSource (n : Nat) (k : Nat) : (s.countSource n).capture k = s.capture k := rfl
@[simp] theorem State.replica_countSource (n : Nat) (k : Nat) : (s.countSource n).replica k = s.replica k := rfl
@[simp] theorem State.detector_countSource (n : Nat) (k : Nat) : (s.countSource n).detector k = s.detector k := rfl
@[simp] theorem State.slot_countSource (n : Nat) (k : Nat) : (s.countSource n).slot k = s.slot k := rfl
@[simp] theorem State.trim_countSource (n : Nat) (k : Nat) : (s.countSource n).trim k = s.trim k := rfl
@[simp] theorem State.engine_countSource (n : Nat) (k : Nat) : (s.countSource n).engine k = s.engine k := rfl
@[simp] theorem State.ringX_countSource (n : Nat) (k : Nat) : (s.countSource n).ringX k = s.ringX k := rfl
@[simp] theorem State.session_countSource (n : Nat) (k : Nat) : (s.countSource n).session k = s.session k := rfl
@[simp] theorem State.contractAt_countSource (n : Nat) (k : Nat) : (s.countSource n).contractAt k = s.contractAt k := rfl
@[simp] theorem State.crossing_countSource (n : Nat) (k : Nat) : (s.countSource n).crossing k = s.crossing k := rfl
@[simp] theorem State.queue_countSource (n : Nat) (p q : Nat) : (s.countSource n).queue p q = s.queue p q := rfl
@[simp] theorem State.reg_countSource (n : Nat) (i' j' : Nat) : (s.countSource n).reg i' j' = s.reg i' j' := rfl
@[simp] theorem State.nat_countSource (n : Nat) (i' j' : Nat) : (s.countSource n).nat i' j' = s.nat i' j' := rfl
@[simp] theorem State.flag_countSource (n : Nat) (i' j' : Nat) : (s.countSource n).flag i' j' = s.flag i' j' := rfl
@[simp] theorem State.blob_countSource (n : Nat) (i' j' : Nat) : (s.countSource n).blob i' j' = s.blob i' j' := rfl
@[simp] theorem State.reg_setLane (n : Nat) (x : LaneX) (i' j' : Nat) : (s.setLane n x).reg i' j' = s.reg i' j' := rfl
@[simp] theorem State.nat_setLane (n : Nat) (x : LaneX) (i' j' : Nat) : (s.setLane n x).nat i' j' = s.nat i' j' := rfl
@[simp] theorem State.flag_setLane (n : Nat) (x : LaneX) (i' j' : Nat) : (s.setLane n x).flag i' j' = s.flag i' j' := rfl
@[simp] theorem State.blob_setLane (n : Nat) (x : LaneX) (i' j' : Nat) : (s.setLane n x).blob i' j' = s.blob i' j' := rfl
@[simp] theorem State.reg_setPort (n : Nat) (x : PortX) (i' j' : Nat) : (s.setPort n x).reg i' j' = s.reg i' j' := rfl
@[simp] theorem State.nat_setPort (n : Nat) (x : PortX) (i' j' : Nat) : (s.setPort n x).nat i' j' = s.nat i' j' := rfl
@[simp] theorem State.flag_setPort (n : Nat) (x : PortX) (i' j' : Nat) : (s.setPort n x).flag i' j' = s.flag i' j' := rfl
@[simp] theorem State.blob_setPort (n : Nat) (x : PortX) (i' j' : Nat) : (s.setPort n x).blob i' j' = s.blob i' j' := rfl
@[simp] theorem State.reg_setTim (n : Nat) (x : TimingX) (i' j' : Nat) : (s.setTim n x).reg i' j' = s.reg i' j' := rfl
@[simp] theorem State.nat_setTim (n : Nat) (x : TimingX) (i' j' : Nat) : (s.setTim n x).nat i' j' = s.nat i' j' := rfl
@[simp] theorem State.flag_setTim (n : Nat) (x : TimingX) (i' j' : Nat) : (s.setTim n x).flag i' j' = s.flag i' j' := rfl
@[simp] theorem State.blob_setTim (n : Nat) (x : TimingX) (i' j' : Nat) : (s.setTim n x).blob i' j' = s.blob i' j' := rfl
@[simp] theorem State.reg_setEg (n : Nat) (x : EgressX) (i' j' : Nat) : (s.setEg n x).reg i' j' = s.reg i' j' := rfl
@[simp] theorem State.nat_setEg (n : Nat) (x : EgressX) (i' j' : Nat) : (s.setEg n x).nat i' j' = s.nat i' j' := rfl
@[simp] theorem State.flag_setEg (n : Nat) (x : EgressX) (i' j' : Nat) : (s.setEg n x).flag i' j' = s.flag i' j' := rfl
@[simp] theorem State.blob_setEg (n : Nat) (x : EgressX) (i' j' : Nat) : (s.setEg n x).blob i' j' = s.blob i' j' := rfl
@[simp] theorem State.reg_setRegion (n : Nat) (x : RegionX) (i' j' : Nat) : (s.setRegion n x).reg i' j' = s.reg i' j' := rfl
@[simp] theorem State.nat_setRegion (n : Nat) (x : RegionX) (i' j' : Nat) : (s.setRegion n x).nat i' j' = s.nat i' j' := rfl
@[simp] theorem State.flag_setRegion (n : Nat) (x : RegionX) (i' j' : Nat) : (s.setRegion n x).flag i' j' = s.flag i' j' := rfl
@[simp] theorem State.blob_setRegion (n : Nat) (x : RegionX) (i' j' : Nat) : (s.setRegion n x).blob i' j' = s.blob i' j' := rfl
@[simp] theorem State.reg_setRx (n : Nat) (x : Option RxFrame) (i' j' : Nat) : (s.setRx n x).reg i' j' = s.reg i' j' := rfl
@[simp] theorem State.nat_setRx (n : Nat) (x : Option RxFrame) (i' j' : Nat) : (s.setRx n x).nat i' j' = s.nat i' j' := rfl
@[simp] theorem State.flag_setRx (n : Nat) (x : Option RxFrame) (i' j' : Nat) : (s.setRx n x).flag i' j' = s.flag i' j' := rfl
@[simp] theorem State.blob_setRx (n : Nat) (x : Option RxFrame) (i' j' : Nat) : (s.setRx n x).blob i' j' = s.blob i' j' := rfl
@[simp] theorem State.reg_setTb (n : Nat) (x : TbX) (i' j' : Nat) : (s.setTb n x).reg i' j' = s.reg i' j' := rfl
@[simp] theorem State.nat_setTb (n : Nat) (x : TbX) (i' j' : Nat) : (s.setTb n x).nat i' j' = s.nat i' j' := rfl
@[simp] theorem State.flag_setTb (n : Nat) (x : TbX) (i' j' : Nat) : (s.setTb n x).flag i' j' = s.flag i' j' := rfl
@[simp] theorem State.blob_setTb (n : Nat) (x : TbX) (i' j' : Nat) : (s.setTb n x).blob i' j' = s.blob i' j' := rfl
@[simp] theorem State.reg_setCompare (n : Nat) (x : CompareX) (i' j' : Nat) : (s.setCompare n x).reg i' j' = s.reg i' j' := rfl
@[simp] theorem State.nat_setCompare (n : Nat) (x : CompareX) (i' j' : Nat) : (s.setCompare n x).nat i' j' = s.nat i' j' := rfl
@[simp] theorem State.flag_setCompare (n : Nat) (x : CompareX) (i' j' : Nat) : (s.setCompare n x).flag i' j' = s.flag i' j' := rfl
@[simp] theorem State.blob_setCompare (n : Nat) (x : CompareX) (i' j' : Nat) : (s.setCompare n x).blob i' j' = s.blob i' j' := rfl
@[simp] theorem State.reg_setFirefly (n : Nat) (x : FireflyX) (i' j' : Nat) : (s.setFirefly n x).reg i' j' = s.reg i' j' := rfl
@[simp] theorem State.nat_setFirefly (n : Nat) (x : FireflyX) (i' j' : Nat) : (s.setFirefly n x).nat i' j' = s.nat i' j' := rfl
@[simp] theorem State.flag_setFirefly (n : Nat) (x : FireflyX) (i' j' : Nat) : (s.setFirefly n x).flag i' j' = s.flag i' j' := rfl
@[simp] theorem State.blob_setFirefly (n : Nat) (x : FireflyX) (i' j' : Nat) : (s.setFirefly n x).blob i' j' = s.blob i' j' := rfl
@[simp] theorem State.reg_setCapture (n : Nat) (x : CaptureX) (i' j' : Nat) : (s.setCapture n x).reg i' j' = s.reg i' j' := rfl
@[simp] theorem State.nat_setCapture (n : Nat) (x : CaptureX) (i' j' : Nat) : (s.setCapture n x).nat i' j' = s.nat i' j' := rfl
@[simp] theorem State.flag_setCapture (n : Nat) (x : CaptureX) (i' j' : Nat) : (s.setCapture n x).flag i' j' = s.flag i' j' := rfl
@[simp] theorem State.blob_setCapture (n : Nat) (x : CaptureX) (i' j' : Nat) : (s.setCapture n x).blob i' j' = s.blob i' j' := rfl
@[simp] theorem State.reg_setReplica (n : Nat) (x : ReplicaX) (i' j' : Nat) : (s.setReplica n x).reg i' j' = s.reg i' j' := rfl
@[simp] theorem State.nat_setReplica (n : Nat) (x : ReplicaX) (i' j' : Nat) : (s.setReplica n x).nat i' j' = s.nat i' j' := rfl
@[simp] theorem State.flag_setReplica (n : Nat) (x : ReplicaX) (i' j' : Nat) : (s.setReplica n x).flag i' j' = s.flag i' j' := rfl
@[simp] theorem State.blob_setReplica (n : Nat) (x : ReplicaX) (i' j' : Nat) : (s.setReplica n x).blob i' j' = s.blob i' j' := rfl
@[simp] theorem State.reg_setDetector (n : Nat) (x : DetectorX) (i' j' : Nat) : (s.setDetector n x).reg i' j' = s.reg i' j' := rfl
@[simp] theorem State.nat_setDetector (n : Nat) (x : DetectorX) (i' j' : Nat) : (s.setDetector n x).nat i' j' = s.nat i' j' := rfl
@[simp] theorem State.flag_setDetector (n : Nat) (x : DetectorX) (i' j' : Nat) : (s.setDetector n x).flag i' j' = s.flag i' j' := rfl
@[simp] theorem State.blob_setDetector (n : Nat) (x : DetectorX) (i' j' : Nat) : (s.setDetector n x).blob i' j' = s.blob i' j' := rfl
@[simp] theorem State.reg_setSlot (n : Nat) (x : SlotX) (i' j' : Nat) : (s.setSlot n x).reg i' j' = s.reg i' j' := rfl
@[simp] theorem State.nat_setSlot (n : Nat) (x : SlotX) (i' j' : Nat) : (s.setSlot n x).nat i' j' = s.nat i' j' := rfl
@[simp] theorem State.flag_setSlot (n : Nat) (x : SlotX) (i' j' : Nat) : (s.setSlot n x).flag i' j' = s.flag i' j' := rfl
@[simp] theorem State.blob_setSlot (n : Nat) (x : SlotX) (i' j' : Nat) : (s.setSlot n x).blob i' j' = s.blob i' j' := rfl
@[simp] theorem State.reg_setTrim (n : Nat) (x : TrimX) (i' j' : Nat) : (s.setTrim n x).reg i' j' = s.reg i' j' := rfl
@[simp] theorem State.nat_setTrim (n : Nat) (x : TrimX) (i' j' : Nat) : (s.setTrim n x).nat i' j' = s.nat i' j' := rfl
@[simp] theorem State.flag_setTrim (n : Nat) (x : TrimX) (i' j' : Nat) : (s.setTrim n x).flag i' j' = s.flag i' j' := rfl
@[simp] theorem State.blob_setTrim (n : Nat) (x : TrimX) (i' j' : Nat) : (s.setTrim n x).blob i' j' = s.blob i' j' := rfl
@[simp] theorem State.reg_setEngine (n : Nat) (x : EngineX) (i' j' : Nat) : (s.setEngine n x).reg i' j' = s.reg i' j' := rfl
@[simp] theorem State.nat_setEngine (n : Nat) (x : EngineX) (i' j' : Nat) : (s.setEngine n x).nat i' j' = s.nat i' j' := rfl
@[simp] theorem State.flag_setEngine (n : Nat) (x : EngineX) (i' j' : Nat) : (s.setEngine n x).flag i' j' = s.flag i' j' := rfl
@[simp] theorem State.blob_setEngine (n : Nat) (x : EngineX) (i' j' : Nat) : (s.setEngine n x).blob i' j' = s.blob i' j' := rfl
@[simp] theorem State.reg_setRingX (n : Nat) (x : RingX) (i' j' : Nat) : (s.setRingX n x).reg i' j' = s.reg i' j' := rfl
@[simp] theorem State.nat_setRingX (n : Nat) (x : RingX) (i' j' : Nat) : (s.setRingX n x).nat i' j' = s.nat i' j' := rfl
@[simp] theorem State.flag_setRingX (n : Nat) (x : RingX) (i' j' : Nat) : (s.setRingX n x).flag i' j' = s.flag i' j' := rfl
@[simp] theorem State.blob_setRingX (n : Nat) (x : RingX) (i' j' : Nat) : (s.setRingX n x).blob i' j' = s.blob i' j' := rfl
@[simp] theorem State.reg_setSession (n : Nat) (x : SessionX) (i' j' : Nat) : (s.setSession n x).reg i' j' = s.reg i' j' := rfl
@[simp] theorem State.nat_setSession (n : Nat) (x : SessionX) (i' j' : Nat) : (s.setSession n x).nat i' j' = s.nat i' j' := rfl
@[simp] theorem State.flag_setSession (n : Nat) (x : SessionX) (i' j' : Nat) : (s.setSession n x).flag i' j' = s.flag i' j' := rfl
@[simp] theorem State.blob_setSession (n : Nat) (x : SessionX) (i' j' : Nat) : (s.setSession n x).blob i' j' = s.blob i' j' := rfl
@[simp] theorem State.reg_setContractAt (n : Nat) (x : ContractX) (i' j' : Nat) : (s.setContractAt n x).reg i' j' = s.reg i' j' := rfl
@[simp] theorem State.nat_setContractAt (n : Nat) (x : ContractX) (i' j' : Nat) : (s.setContractAt n x).nat i' j' = s.nat i' j' := rfl
@[simp] theorem State.flag_setContractAt (n : Nat) (x : ContractX) (i' j' : Nat) : (s.setContractAt n x).flag i' j' = s.flag i' j' := rfl
@[simp] theorem State.blob_setContractAt (n : Nat) (x : ContractX) (i' j' : Nat) : (s.setContractAt n x).blob i' j' = s.blob i' j' := rfl
@[simp] theorem State.reg_setCrossing (n : Nat) (x : CrossingX) (i' j' : Nat) : (s.setCrossing n x).reg i' j' = s.reg i' j' := rfl
@[simp] theorem State.nat_setCrossing (n : Nat) (x : CrossingX) (i' j' : Nat) : (s.setCrossing n x).nat i' j' = s.nat i' j' := rfl
@[simp] theorem State.flag_setCrossing (n : Nat) (x : CrossingX) (i' j' : Nat) : (s.setCrossing n x).flag i' j' = s.flag i' j' := rfl
@[simp] theorem State.blob_setCrossing (n : Nat) (x : CrossingX) (i' j' : Nat) : (s.setCrossing n x).blob i' j' = s.blob i' j' := rfl
@[simp] theorem State.reg_setQueue (p q : Nat) (x : QueueX) (i' j' : Nat) : (s.setQueue p q x).reg i' j' = s.reg i' j' := rfl
@[simp] theorem State.nat_setQueue (p q : Nat) (x : QueueX) (i' j' : Nat) : (s.setQueue p q x).nat i' j' = s.nat i' j' := rfl
@[simp] theorem State.flag_setQueue (p q : Nat) (x : QueueX) (i' j' : Nat) : (s.setQueue p q x).flag i' j' = s.flag i' j' := rfl
@[simp] theorem State.blob_setQueue (p q : Nat) (x : QueueX) (i' j' : Nat) : (s.setQueue p q x).blob i' j' = s.blob i' j' := rfl

/-! ## The list an item is written into -/

theorem State.setLane_lanes (n : Nat) (x : LaneX) : (s.setLane n x).lanes = Sparse.set {} s.lanes n x := rfl
theorem State.setPort_ports (p : Nat) (x : PortX) : (s.setPort p x).ports = Sparse.set {} s.ports p x := rfl
theorem State.setTim_timing (p : Nat) (x : TimingX) : (s.setTim p x).timing = Sparse.set {} s.timing p x := rfl
theorem State.setEg_egress (p : Nat) (x : EgressX) : (s.setEg p x).egress = Sparse.set {} s.egress p x := rfl
theorem State.setRegion_regions (g : Nat) (x : RegionX) : (s.setRegion g x).regions = Sparse.set {} s.regions g x := rfl
theorem State.setRx_rx (p : Nat) (x : Option RxFrame) : (s.setRx p x).rx = Sparse.set none s.rx p x := rfl
theorem State.setTb_tbs (k : Nat) (x : TbX) : (s.setTb k x).tbs = Sparse.set {} s.tbs k x := rfl
theorem State.setCompare_compares (c : Nat) (x : CompareX) : (s.setCompare c x).compares = Sparse.set {} s.compares c x := rfl
theorem State.setFirefly_fireflies (f : Nat) (x : FireflyX) : (s.setFirefly f x).fireflies = Sparse.set {} s.fireflies f x := rfl
theorem State.setCapture_captures (e : Nat) (x : CaptureX) : (s.setCapture e x).captures = Sparse.set {} s.captures e x := rfl
theorem State.setReplica_replicas (c : Nat) (x : ReplicaX) : (s.setReplica c x).replicas = Sparse.set {} s.replicas c x := rfl
theorem State.setDetector_detectors (d : Nat) (x : DetectorX) : (s.setDetector d x).detectors = Sparse.set {} s.detectors d x := rfl
theorem State.setSlot_slots (n : Nat) (x : SlotX) : (s.setSlot n x).slots = Sparse.set {} s.slots n x := rfl
theorem State.setTrim_trims (n : Nat) (x : TrimX) : (s.setTrim n x).trims = Sparse.set {} s.trims n x := rfl
theorem State.setEngine_engines (e : Nat) (x : EngineX) : (s.setEngine e x).engines = Sparse.set {} s.engines e x := rfl
theorem State.setRingX_rings (i : Nat) (x : RingX) : (s.setRingX i x).rings = Sparse.set {} s.rings i x := rfl
theorem State.setSession_sessions (n : Nat) (x : SessionX) : (s.setSession n x).sessions = Sparse.set {} s.sessions n x := rfl
theorem State.setContractAt_contractX (i : Nat) (x : ContractX) : (s.setContractAt i x).contractX = Sparse.set {} s.contractX i x := rfl
theorem State.setCrossing_crossings (i : Nat) (x : CrossingX) : (s.setCrossing i x).crossings = Sparse.set {} s.crossings i x := rfl
theorem State.setQueue_queues (p q : Nat) (x : QueueX) : (s.setQueue p q x).queues = Sparse.set {} s.queues (32 * p + q) x := rfl

end Sys2Proof.Machine
end

