-- ==== Sys2Proof/Laws/Bits.lean ====
section
/-! SUPPORT. What writing one bit of a status entry, a stage or a counter makes later reads give. -/

namespace Sys2Proof.Machine

/-- Two numbers that differ at most in the lowest bit agree in every higher bit. -/
theorem testBit_of_half {a b k : Nat} (h : a / 2 = b / 2) (hk : k ≠ 0) : a.testBit k = b.testBit k := by
  obtain ⟨k, rfl⟩ := Nat.exists_eq_succ_of_ne_zero hk
  rw [Nat.testBit_succ, Nat.testBit_succ, h]

/-- Writing a bit gives it the value written and leaves every other bit. -/
theorem testBit_setBit (v b : Nat) (on : Bool) (k : Nat) :
    (setBit v b on).testBit k = if k = b then on else v.testBit k := by
  have pos : 0 < 2 ^ b := Nat.pos_of_ne_zero (by simp)
  have split : v = 2 ^ b * (v / 2 ^ b) + v % 2 ^ b := (Nat.div_add_mod v _).symm
  have low : v % 2 ^ b < 2 ^ b := Nat.mod_lt _ pos
  have own : v.testBit b = decide (v / 2 ^ b % 2 = 1) := Nat.testBit_eq_decide_div_mod_eq
  generalize v / 2 ^ b = a at *
  generalize v % 2 ^ b = m at *
  unfold setBit
  split
  · next h => split <;> simp_all
  · next h =>
    have key : ∀ c : Nat, a / 2 = c / 2 → decide (c % 2 = 1) = on →
        (2 ^ b * c + m).testBit k = if k = b then on else v.testBit k := by
      intro c hc ho
      rw [split, Nat.testBit_two_pow_mul_add _ low, Nat.testBit_two_pow_mul_add _ low]
      split
      · next hl => rw [if_neg (by omega)]
      · next hl =>
        split
        · next he => subst he; rw [Nat.sub_self, Nat.testBit_zero]; exact ho
        · next he => exact testBit_of_half hc.symm (by omega)
    rw [own] at h
    cases on with
    | true =>
      have h0 : a % 2 = 0 := by simp at h; omega
      have : v + 2 ^ b = 2 ^ b * (a + 1) + m := by rw [split, Nat.mul_add]; omega
      simp only [if_true]
      rw [this]
      exact key (a + 1) (by omega) (by simp; omega)
    | false =>
      have h1 : a % 2 = 1 := by simpa using h
      have : v - 2 ^ b = 2 ^ b * (a - 1) + m := by
        obtain ⟨d, rfl⟩ : ∃ d, a = d + 1 := ⟨a - 1, by omega⟩
        rw [split, Nat.mul_add]; simp; omega
      simp only [Bool.false_eq_true, if_false]
      rw [this]
      exact key (a - 1) (by omega) (by simp; omega)

/-- Two entries have one key only where index and subindex agree. -/
theorem key_inj {i i' j j' : Nat} (hj : j < 256) (hj' : j' < 256) : key i j = key i' j' ↔ i = i' ∧ j = j' := by
  unfold key; omega

theorem SameEntries.trans {K : Nat → Nat → Prop} {s t u : State} (a : SameEntries K s t) (b : SameEntries K t u) :
    SameEntries K s u := fun i j h k => (b i j h k).trans (a i j h k)

/-- A write to an entry of `K` leaves the others. -/
theorem SameEntries.setReg {K : Nat → Nat → Prop} {s t : State} {i j : Nat} {v : Int} (a : SameEntries K s t) (hj : j < 256)
    (h : K i j) : SameEntries K s (t.setReg i j v) := by
  intro i' j' h' k
  rw [State.reg_setReg_ne]
  · exact a i' j' h' k
  · intro e
    obtain ⟨rfl, rfl⟩ := (key_inj hj h').1 e
    exact k h

/-- What leaves the numeric entries alone. -/
theorem SameEntries.of_regs {K : Nat → Nat → Prop} {s t u : State} (a : SameEntries K s t) (h : u.regs = t.regs) :
    SameEntries K s u := by
  intro i j hj k
  have := a i j hj k
  unfold State.reg at *
  rw [h, this]

theorem SameEntries.refl (K : Nat → Nat → Prop) (s : State) : SameEntries K s s := fun _ _ _ _ => rfl

variable (s : State)

theorem State.bit_setReg (i j : Nat) (v : Int) (i' j' b : Nat) :
    (s.setReg i j v).bit i' j' b = if key i j = key i' j' then v.toNat.testBit b else s.bit i' j' b := by
  unfold State.bit
  rw [State.nat_setReg]
  split <;> rfl

theorem State.flag_setReg (i j : Nat) (v : Int) (i' j' : Nat) :
    (s.setReg i j v).flag i' j' = if key i j = key i' j' then decide (v ≠ 0) else s.flag i' j' := by
  unfold State.flag
  rw [State.reg_setReg]
  split <;> rfl

theorem State.bit_putBit (i j b : Nat) (on : Bool) (i' j' b' : Nat) :
    (s.putBit i j b on).bit i' j' b' = if key i j = key i' j' ∧ b' = b then on else s.bit i' j' b' := by
  unfold State.bit State.putBit State.setNat
  rw [State.nat_setReg]
  by_cases h : key i j = key i' j'
  · have : s.nat i j = s.nat i' j' := by unfold State.nat State.reg; rw [h]
    simp only [h, if_true, Int.toNat_natCast, testBit_setBit, true_and, this]
  · simp [h]

@[simp] theorem State.bit_putBit_same (i j b : Nat) (on : Bool) : (s.putBit i j b on).bit i j b = on := by
  simp only [State.bit_putBit, and_self, if_true]

theorem State.nat_setNat (i j v i' j' : Nat) :
    (s.setNat i j v).nat i' j' = if key i j = key i' j' then v else s.nat i' j' := by
  simp [State.setNat, State.nat_setReg]

theorem State.nat_setNat_same (i j v : Nat) : (s.setNat i j v).nat i j = v := by simp

theorem State.bit_setNat (i j v i' j' b : Nat) :
    (s.setNat i j v).bit i' j' b = if key i j = key i' j' then v.testBit b else s.bit i' j' b := by
  unfold State.bit
  rw [State.nat_setNat]
  split <;> rfl

theorem State.stage_setStage (n st : Nat) : (s.setStage n st).stage n = st := by
  unfold State.setStage State.stage
  rw [State.nat_setNat, if_neg (key_ne_sub (by decide)), State.nat_setNat_same]

/-- After a change of stage the four live bits that follow it read as the stage says and every other bit as before. -/
theorem State.bit_setStage (n st b : Nat) :
    (s.setStage n st).bit (laneIndex n) 0x03 b =
      if b = 8 then st == 9 else if b = 7 then st == 8 else if b = 5 then st == 7 else if b = 4 then st == 6
      else s.bit (laneIndex n) 0x03 b := by
  unfold State.setStage
  simp only [State.bit_setNat, if_true, testBit_setBit]
  rfl

/-- A change of stage writes two entries of its lane. -/
theorem State.reg_setStage (n st i j : Nat) (h : key i j ≠ key (laneIndex n) 0x02) (h' : key i j ≠ key (laneIndex n) 0x03) :
    (s.setStage n st).reg i j = s.reg i j := by
  unfold State.setStage State.setNat
  dsimp only
  rw [State.reg_setReg_ne _ _ (Ne.symm h'), State.reg_setReg_ne _ _ (Ne.symm h)]

end Sys2Proof.Machine
end

