-- ==== Sys2Proof/Laws/Frames/Ops.lean ====
section
/-! SUPPORT. What each operation of Machine/Ops.lean leaves as it was: the frame of every one. -/

set_option linter.unusedTactic false
set_option linter.unreachableTactic false

namespace Sys2Proof.Machine

open Host (Outcome)

theorem State.setReg_only {M : Nat} {origin : State} (s : State) (idx sub : Nat) (v : Int) (frame : Only M origin s) (inMask : 0x2 ||| M = M) : Only M origin (State.setReg s idx sub v) := by
  refine Only.step frame (G := 0x2) ?_ inMask
  unfold State.setReg
  repeat' first
    | with_reducible exact Only.refl _ _
    | with_reducible assumption
    | with_reducible apply Only.ite
    | with_reducible apply Only.foldl
    | with_reducible apply Only.fst_ite
    | with_reducible apply Only.snd_ite
    | decide
    | intro _ _
    | intro _
    | dsimp only
    | split
    | with_reducible apply Only.upd_regs

theorem State.setNat_only {M : Nat} {origin : State} (s : State) (idx sub v : Nat) (frame : Only M origin s) (inMask : 0x2 ||| M = M) : Only M origin (State.setNat s idx sub v) := by
  refine Only.step frame (G := 0x2) ?_ inMask
  unfold State.setNat
  repeat' first
    | with_reducible exact Only.refl _ _
    | with_reducible assumption
    | with_reducible apply Only.ite
    | with_reducible apply Only.foldl
    | with_reducible apply Only.fst_ite
    | with_reducible apply Only.snd_ite
    | with_reducible apply State.setReg_only
    | decide
    | intro _ _
    | intro _
    | dsimp only
    | split

theorem State.putBit_only {M : Nat} {origin : State} (s : State) (idx sub b : Nat) (on : Bool) (frame : Only M origin s) (inMask : 0x2 ||| M = M) : Only M origin (State.putBit s idx sub b on) := by
  refine Only.step frame (G := 0x2) ?_ inMask
  unfold State.putBit
  repeat' first
    | with_reducible exact Only.refl _ _
    | with_reducible assumption
    | with_reducible apply Only.ite
    | with_reducible apply Only.foldl
    | with_reducible apply Only.fst_ite
    | with_reducible apply Only.snd_ite
    | with_reducible apply State.setNat_only
    | decide
    | intro _ _
    | intro _
    | dsimp only
    | split

theorem State.addSat_only {M : Nat} {origin : State} (s : State) (idx sub width n : Nat) (frame : Only M origin s) (inMask : 0x2 ||| M = M) : Only M origin (State.addSat s idx sub width n) := by
  refine Only.step frame (G := 0x2) ?_ inMask
  unfold State.addSat
  repeat' first
    | with_reducible exact Only.refl _ _
    | with_reducible assumption
    | with_reducible apply Only.ite
    | with_reducible apply Only.foldl
    | with_reducible apply Only.fst_ite
    | with_reducible apply Only.snd_ite
    | with_reducible apply State.setNat_only
    | decide
    | intro _ _
    | intro _
    | dsimp only
    | split

theorem State.inc64_only {M : Nat} {origin : State} (s : State) (idx sub : Nat) (frame : Only M origin s) (inMask : 0x2 ||| M = M) : Only M origin (State.inc64 s idx sub) := by
  refine Only.step frame (G := 0x2) ?_ inMask
  unfold State.inc64
  repeat' first
    | with_reducible exact Only.refl _ _
    | with_reducible assumption
    | with_reducible apply Only.ite
    | with_reducible apply Only.foldl
    | with_reducible apply Only.fst_ite
    | with_reducible apply Only.snd_ite
    | with_reducible apply State.addSat_only
    | decide
    | intro _ _
    | intro _
    | dsimp only
    | split

theorem State.inc32_only {M : Nat} {origin : State} (s : State) (idx sub : Nat) (frame : Only M origin s) (inMask : 0x2 ||| M = M) : Only M origin (State.inc32 s idx sub) := by
  refine Only.step frame (G := 0x2) ?_ inMask
  unfold State.inc32
  repeat' first
    | with_reducible exact Only.refl _ _
    | with_reducible assumption
    | with_reducible apply Only.ite
    | with_reducible apply Only.foldl
    | with_reducible apply Only.fst_ite
    | with_reducible apply Only.snd_ite
    | with_reducible apply State.addSat_only
    | decide
    | intro _ _
    | intro _
    | dsimp only
    | split

theorem State.inc16_only {M : Nat} {origin : State} (s : State) (idx sub : Nat) (frame : Only M origin s) (inMask : 0x2 ||| M = M) : Only M origin (State.inc16 s idx sub) := by
  refine Only.step frame (G := 0x2) ?_ inMask
  unfold State.inc16
  repeat' first
    | with_reducible exact Only.refl _ _
    | with_reducible assumption
    | with_reducible apply Only.ite
    | with_reducible apply Only.foldl
    | with_reducible apply Only.fst_ite
    | with_reducible apply Only.snd_ite
    | with_reducible apply State.addSat_only
    | decide
    | intro _ _
    | intro _
    | dsimp only
    | split

theorem State.setBlob_only {M : Nat} {origin : State} (s : State) (idx sub : Nat) (v : List Byte) (frame : Only M origin s) (inMask : 0x4 ||| M = M) : Only M origin (State.setBlob s idx sub v) := by
  refine Only.step frame (G := 0x4) ?_ inMask
  unfold State.setBlob
  repeat' first
    | with_reducible exact Only.refl _ _
    | with_reducible assumption
    | with_reducible apply Only.ite
    | with_reducible apply Only.foldl
    | with_reducible apply Only.fst_ite
    | with_reducible apply Only.snd_ite
    | decide
    | intro _ _
    | intro _
    | dsimp only
    | split
    | with_reducible apply Only.upd_blobs

theorem State.setLane_only {M : Nat} {origin : State} (s : State) (n : Nat) (x : LaneX) (frame : Only M origin s) (inMask : 0x80 ||| M = M) : Only M origin (State.setLane s n x) := by
  refine Only.step frame (G := 0x80) ?_ inMask
  unfold State.setLane
  repeat' first
    | with_reducible exact Only.refl _ _
    | with_reducible assumption
    | with_reducible apply Only.ite
    | with_reducible apply Only.foldl
    | with_reducible apply Only.fst_ite
    | with_reducible apply Only.snd_ite
    | decide
    | intro _ _
    | intro _
    | dsimp only
    | split
    | with_reducible apply Only.upd_lanes

theorem State.setPort_only {M : Nat} {origin : State} (s : State) (p : Nat) (x : PortX) (frame : Only M origin s) (inMask : 0x100 ||| M = M) : Only M origin (State.setPort s p x) := by
  refine Only.step frame (G := 0x100) ?_ inMask
  unfold State.setPort
  repeat' first
    | with_reducible exact Only.refl _ _
    | with_reducible assumption
    | with_reducible apply Only.ite
    | with_reducible apply Only.foldl
    | with_reducible apply Only.fst_ite
    | with_reducible apply Only.snd_ite
    | decide
    | intro _ _
    | intro _
    | dsimp only
    | split
    | with_reducible apply Only.upd_ports

theorem State.setTim_only {M : Nat} {origin : State} (s : State) (p : Nat) (x : TimingX) (frame : Only M origin s) (inMask : 0x200 ||| M = M) : Only M origin (State.setTim s p x) := by
  refine Only.step frame (G := 0x200) ?_ inMask
  unfold State.setTim
  repeat' first
    | with_reducible exact Only.refl _ _
    | with_reducible assumption
    | with_reducible apply Only.ite
    | with_reducible apply Only.foldl
    | with_reducible apply Only.fst_ite
    | with_reducible apply Only.snd_ite
    | decide
    | intro _ _
    | intro _
    | dsimp only
    | split
    | with_reducible apply Only.upd_timing

theorem State.setEg_only {M : Nat} {origin : State} (s : State) (p : Nat) (x : EgressX) (frame : Only M origin s) (inMask : 0x400 ||| M = M) : Only M origin (State.setEg s p x) := by
  refine Only.step frame (G := 0x400) ?_ inMask
  unfold State.setEg
  repeat' first
    | with_reducible exact Only.refl _ _
    | with_reducible assumption
    | with_reducible apply Only.ite
    | with_reducible apply Only.foldl
    | with_reducible apply Only.fst_ite
    | with_reducible apply Only.snd_ite
    | decide
    | intro _ _
    | intro _
    | dsimp only
    | split
    | with_reducible apply Only.upd_egress

theorem State.setQueue_only {M : Nat} {origin : State} (s : State) (p q : Nat) (x : QueueX) (frame : Only M origin s) (inMask : 0x800 ||| M = M) : Only M origin (State.setQueue s p q x) := by
  refine Only.step frame (G := 0x800) ?_ inMask
  unfold State.setQueue
  repeat' first
    | with_reducible exact Only.refl _ _
    | with_reducible assumption
    | with_reducible apply Only.ite
    | with_reducible apply Only.foldl
    | with_reducible apply Only.fst_ite
    | with_reducible apply Only.snd_ite
    | decide
    | intro _ _
    | intro _
    | dsimp only
    | split
    | with_reducible apply Only.upd_queues

theorem State.setRegion_only {M : Nat} {origin : State} (s : State) (g : Nat) (x : RegionX) (frame : Only M origin s) (inMask : 0x1000 ||| M = M) : Only M origin (State.setRegion s g x) := by
  refine Only.step frame (G := 0x1000) ?_ inMask
  unfold State.setRegion
  repeat' first
    | with_reducible exact Only.refl _ _
    | with_reducible assumption
    | with_reducible apply Only.ite
    | with_reducible apply Only.foldl
    | with_reducible apply Only.fst_ite
    | with_reducible apply Only.snd_ite
    | decide
    | intro _ _
    | intro _
    | dsimp only
    | split
    | with_reducible apply Only.upd_regions

theorem State.setRx_only {M : Nat} {origin : State} (s : State) (p : Nat) (x : Option RxFrame) (frame : Only M origin s) (inMask : 0x2000 ||| M = M) : Only M origin (State.setRx s p x) := by
  refine Only.step frame (G := 0x2000) ?_ inMask
  unfold State.setRx
  repeat' first
    | with_reducible exact Only.refl _ _
    | with_reducible assumption
    | with_reducible apply Only.ite
    | with_reducible apply Only.foldl
    | with_reducible apply Only.fst_ite
    | with_reducible apply Only.snd_ite
    | decide
    | intro _ _
    | intro _
    | dsimp only
    | split
    | with_reducible apply Only.upd_rx

theorem State.setTb_only {M : Nat} {origin : State} (s : State) (k : Nat) (x : TbX) (frame : Only M origin s) (inMask : 0x40000000000 ||| M = M) : Only M origin (State.setTb s k x) := by
  refine Only.step frame (G := 0x40000000000) ?_ inMask
  unfold State.setTb
  repeat' first
    | with_reducible exact Only.refl _ _
    | with_reducible assumption
    | with_reducible apply Only.ite
    | with_reducible apply Only.foldl
    | with_reducible apply Only.fst_ite
    | with_reducible apply Only.snd_ite
    | decide
    | intro _ _
    | intro _
    | dsimp only
    | split
    | with_reducible apply Only.upd_tbs

theorem State.setCompare_only {M : Nat} {origin : State} (s : State) (c : Nat) (x : CompareX) (frame : Only M origin s) (inMask : 0x80000000000 ||| M = M) : Only M origin (State.setCompare s c x) := by
  refine Only.step frame (G := 0x80000000000) ?_ inMask
  unfold State.setCompare
  repeat' first
    | with_reducible exact Only.refl _ _
    | with_reducible assumption
    | with_reducible apply Only.ite
    | with_reducible apply Only.foldl
    | with_reducible apply Only.fst_ite
    | with_reducible apply Only.snd_ite
    | decide
    | intro _ _
    | intro _
    | dsimp only
    | split
    | with_reducible apply Only.upd_compares

theorem State.setClock_only {M : Nat} {origin : State} (s : State) (c : Nat) (x : ClockX) (frame : Only M origin s) (inMask : 0x20000000000 ||| M = M) : Only M origin (State.setClock s c x) := by
  refine Only.step frame (G := 0x20000000000) ?_ inMask
  unfold State.setClock
  repeat' first
    | with_reducible exact Only.refl _ _
    | with_reducible assumption
    | with_reducible apply Only.ite
    | with_reducible apply Only.foldl
    | with_reducible apply Only.fst_ite
    | with_reducible apply Only.snd_ite
    | decide
    | intro _ _
    | intro _
    | dsimp only
    | split
    | with_reducible apply Only.upd_clocks

theorem State.setFirefly_only {M : Nat} {origin : State} (s : State) (f : Nat) (x : FireflyX) (frame : Only M origin s) (inMask : 0x100000000000 ||| M = M) : Only M origin (State.setFirefly s f x) := by
  refine Only.step frame (G := 0x100000000000) ?_ inMask
  unfold State.setFirefly
  repeat' first
    | with_reducible exact Only.refl _ _
    | with_reducible assumption
    | with_reducible apply Only.ite
    | with_reducible apply Only.foldl
    | with_reducible apply Only.fst_ite
    | with_reducible apply Only.snd_ite
    | decide
    | intro _ _
    | intro _
    | dsimp only
    | split
    | with_reducible apply Only.upd_fireflies

theorem State.setCapture_only {M : Nat} {origin : State} (s : State) (e : Nat) (x : CaptureX) (frame : Only M origin s) (inMask : 0x200000000000 ||| M = M) : Only M origin (State.setCapture s e x) := by
  refine Only.step frame (G := 0x200000000000) ?_ inMask
  unfold State.setCapture
  repeat' first
    | with_reducible exact Only.refl _ _
    | with_reducible assumption
    | with_reducible apply Only.ite
    | with_reducible apply Only.foldl
    | with_reducible apply Only.fst_ite
    | with_reducible apply Only.snd_ite
    | decide
    | intro _ _
    | intro _
    | dsimp only
    | split
    | with_reducible apply Only.upd_captures

theorem State.setReplica_only {M : Nat} {origin : State} (s : State) (c : Nat) (x : ReplicaX) (frame : Only M origin s) (inMask : 0x2000000000000 ||| M = M) : Only M origin (State.setReplica s c x) := by
  refine Only.step frame (G := 0x2000000000000) ?_ inMask
  unfold State.setReplica
  repeat' first
    | with_reducible exact Only.refl _ _
    | with_reducible assumption
    | with_reducible apply Only.ite
    | with_reducible apply Only.foldl
    | with_reducible apply Only.fst_ite
    | with_reducible apply Only.snd_ite
    | decide
    | intro _ _
    | intro _
    | dsimp only
    | split
    | with_reducible apply Only.upd_replicas

theorem State.setDetector_only {M : Nat} {origin : State} (s : State) (d : Nat) (x : DetectorX) (frame : Only M origin s) (inMask : 0x4000000000000 ||| M = M) : Only M origin (State.setDetector s d x) := by
  refine Only.step frame (G := 0x4000000000000) ?_ inMask
  unfold State.setDetector
  repeat' first
    | with_reducible exact Only.refl _ _
    | with_reducible assumption
    | with_reducible apply Only.ite
    | with_reducible apply Only.foldl
    | with_reducible apply Only.fst_ite
    | with_reducible apply Only.snd_ite
    | decide
    | intro _ _
    | intro _
    | dsimp only
    | split
    | with_reducible apply Only.upd_detectors

theorem State.setSlot_only {M : Nat} {origin : State} (s : State) (n : Nat) (x : SlotX) (frame : Only M origin s) (inMask : 0x10000000000000 ||| M = M) : Only M origin (State.setSlot s n x) := by
  refine Only.step frame (G := 0x10000000000000) ?_ inMask
  unfold State.setSlot
  repeat' first
    | with_reducible exact Only.refl _ _
    | with_reducible assumption
    | with_reducible apply Only.ite
    | with_reducible apply Only.foldl
    | with_reducible apply Only.fst_ite
    | with_reducible apply Only.snd_ite
    | decide
    | intro _ _
    | intro _
    | dsimp only
    | split
    | with_reducible apply Only.upd_slots

theorem State.setTrim_only {M : Nat} {origin : State} (s : State) (n : Nat) (x : TrimX) (frame : Only M origin s) (inMask : 0x10000000000000000 ||| M = M) : Only M origin (State.setTrim s n x) := by
  refine Only.step frame (G := 0x10000000000000000) ?_ inMask
  unfold State.setTrim
  repeat' first
    | with_reducible exact Only.refl _ _
    | with_reducible assumption
    | with_reducible apply Only.ite
    | with_reducible apply Only.foldl
    | with_reducible apply Only.fst_ite
    | with_reducible apply Only.snd_ite
    | decide
    | intro _ _
    | intro _
    | dsimp only
    | split
    | with_reducible apply Only.upd_trims

theorem State.setEngine_only {M : Nat} {origin : State} (s : State) (e : Nat) (x : EngineX) (frame : Only M origin s) (inMask : 0x400000000000000000000 ||| M = M) : Only M origin (State.setEngine s e x) := by
  refine Only.step frame (G := 0x400000000000000000000) ?_ inMask
  unfold State.setEngine
  repeat' first
    | with_reducible exact Only.refl _ _
    | with_reducible assumption
    | with_reducible apply Only.ite
    | with_reducible apply Only.foldl
    | with_reducible apply Only.fst_ite
    | with_reducible apply Only.snd_ite
    | decide
    | intro _ _
    | intro _
    | dsimp only
    | split
    | with_reducible apply Only.upd_engines

theorem State.setRingX_only {M : Nat} {origin : State} (s : State) (i : Nat) (x : RingX) (frame : Only M origin s) (inMask : 0x800000000000000000000 ||| M = M) : Only M origin (State.setRingX s i x) := by
  refine Only.step frame (G := 0x800000000000000000000) ?_ inMask
  unfold State.setRingX
  repeat' first
    | with_reducible exact Only.refl _ _
    | with_reducible assumption
    | with_reducible apply Only.ite
    | with_reducible apply Only.foldl
    | with_reducible apply Only.fst_ite
    | with_reducible apply Only.snd_ite
    | decide
    | intro _ _
    | intro _
    | dsimp only
    | split
    | with_reducible apply Only.upd_rings

theorem State.setSession_only {M : Nat} {origin : State} (s : State) (n : Nat) (x : SessionX) (frame : Only M origin s) (inMask : 0x100000000000000000000 ||| M = M) : Only M origin (State.setSession s n x) := by
  refine Only.step frame (G := 0x100000000000000000000) ?_ inMask
  unfold State.setSession
  repeat' first
    | with_reducible exact Only.refl _ _
    | with_reducible assumption
    | with_reducible apply Only.ite
    | with_reducible apply Only.foldl
    | with_reducible apply Only.fst_ite
    | with_reducible apply Only.snd_ite
    | decide
    | intro _ _
    | intro _
    | dsimp only
    | split
    | with_reducible apply Only.upd_sessions

theorem State.setContractAt_only {M : Nat} {origin : State} (s : State) (i : Nat) (x : ContractX) (frame : Only M origin s) (inMask : 0x200000000 ||| M = M) : Only M origin (State.setContractAt s i x) := by
  refine Only.step frame (G := 0x200000000) ?_ inMask
  unfold State.setContractAt
  repeat' first
    | with_reducible exact Only.refl _ _
    | with_reducible assumption
    | with_reducible apply Only.ite
    | with_reducible apply Only.foldl
    | with_reducible apply Only.fst_ite
    | with_reducible apply Only.snd_ite
    | decide
    | intro _ _
    | intro _
    | dsimp only
    | split
    | with_reducible apply Only.upd_contractX

theorem State.setCrossing_only {M : Nat} {origin : State} (s : State) (i : Nat) (x : CrossingX) (frame : Only M origin s) (inMask : 0x2000000000 ||| M = M) : Only M origin (State.setCrossing s i x) := by
  refine Only.step frame (G := 0x2000000000) ?_ inMask
  unfold State.setCrossing
  repeat' first
    | with_reducible exact Only.refl _ _
    | with_reducible assumption
    | with_reducible apply Only.ite
    | with_reducible apply Only.foldl
    | with_reducible apply Only.fst_ite
    | with_reducible apply Only.snd_ite
    | decide
    | intro _ _
    | intro _
    | dsimp only
    | split
    | with_reducible apply Only.upd_crossings

theorem State.countSource_only {M : Nat} {origin : State} (s : State) (src : Nat) (frame : Only M origin s) (inMask : 0x100000000000000000 ||| M = M) : Only M origin (State.countSource s src) := by
  refine Only.step frame (G := 0x100000000000000000) ?_ inMask
  unfold State.countSource
  repeat' first
    | with_reducible exact Only.refl _ _
    | with_reducible assumption
    | with_reducible apply Only.ite
    | with_reducible apply Only.foldl
    | with_reducible apply Only.fst_ite
    | with_reducible apply Only.snd_ite
    | decide
    | intro _ _
    | intro _
    | dsimp only
    | split
    | with_reducible apply Only.upd_sourceCounts

theorem State.raise_only {M : Nat} {origin : State} (s : State) (src detail : Nat) (frame : Only M origin s) (inMask : 0x140000000000000000 ||| M = M) : Only M origin (State.raise s src detail) := by
  refine Only.step frame (G := 0x140000000000000000) ?_ inMask
  unfold State.raise
  repeat' first
    | with_reducible exact Only.refl _ _
    | with_reducible assumption
    | with_reducible apply Only.ite
    | with_reducible apply Only.foldl
    | with_reducible apply Only.fst_ite
    | with_reducible apply Only.snd_ite
    | with_reducible apply State.countSource_only
    | decide
    | intro _ _
    | intro _
    | dsimp only
    | split
    | with_reducible apply Only.upd_messages

theorem State.queueEvent_only {M : Nat} {origin : State} (s : State) (e t type data : Nat) (frame : Only M origin s) (inMask : 0x400000000000000000002 ||| M = M) : Only M origin (State.queueEvent s e t type data) := by
  refine Only.step frame (G := 0x400000000000000000002) ?_ inMask
  unfold State.queueEvent
  repeat' first
    | with_reducible exact Only.refl _ _
    | with_reducible assumption
    | with_reducible apply Only.ite
    | with_reducible apply Only.foldl
    | with_reducible apply Only.fst_ite
    | with_reducible apply Only.snd_ite
    | with_reducible apply State.setEngine_only
    | with_reducible apply State.inc32_only
    | decide
    | intro _ _
    | intro _
    | dsimp only
    | split

theorem State.sendEvent_only {M : Nat} {origin : State} (s : State) (thread type data : Nat) (frame : Only M origin s) (inMask : 0x400000000000000000002 ||| M = M) : Only M origin (State.sendEvent s thread type data) := by
  refine Only.step frame (G := 0x400000000000000000002) ?_ inMask
  unfold State.sendEvent
  repeat' first
    | with_reducible exact Only.refl _ _
    | with_reducible assumption
    | with_reducible apply Only.ite
    | with_reducible apply Only.foldl
    | with_reducible apply Only.fst_ite
    | with_reducible apply Only.snd_ite
    | with_reducible apply State.queueEvent_only
    | with_reducible apply State.inc32_only
    | decide
    | intro _ _
    | intro _
    | dsimp only
    | split

theorem State.sendTo_only {M : Nat} {origin : State} (s : State) (route : Route) (message : List Byte) (frame : Only M origin s) (inMask : 0x100000000000000000040 ||| M = M) : Only M origin (State.sendTo s route message) := by
  refine Only.step frame (G := 0x100000000000000000040) ?_ inMask
  unfold State.sendTo
  repeat' first
    | with_reducible exact Only.refl _ _
    | with_reducible assumption
    | with_reducible apply Only.ite
    | with_reducible apply Only.foldl
    | with_reducible apply Only.fst_ite
    | with_reducible apply Only.snd_ite
    | with_reducible apply State.setSession_only
    | decide
    | intro _ _
    | intro _
    | dsimp only
    | split
    | with_reducible apply Only.upd_outgoing

theorem State.noticeTo_only {M : Nat} {origin : State} (s : State) (n : Nat) (payload : List Byte) (frame : Only M origin s) (inMask : 0x100000000000000000042 ||| M = M) : Only M origin (State.noticeTo s n payload) := by
  refine Only.step frame (G := 0x100000000000000000042) ?_ inMask
  unfold State.noticeTo
  repeat' first
    | with_reducible exact Only.refl _ _
    | with_reducible assumption
    | with_reducible apply Only.ite
    | with_reducible apply Only.foldl
    | with_reducible apply Only.fst_ite
    | with_reducible apply Only.snd_ite
    | with_reducible apply State.sendTo_only
    | with_reducible apply State.setSession_only
    | with_reducible apply State.inc32_only
    | decide
    | intro _ _
    | intro _
    | dsimp only
    | split

theorem State.notice_only {M : Nat} {origin : State} (s : State) (cls : Nat) (payload : List Byte) (frame : Only M origin s) (inMask : 0x100000000000000000042 ||| M = M) : Only M origin (State.notice s cls payload) := by
  refine Only.step frame (G := 0x100000000000000000042) ?_ inMask
  unfold State.notice
  repeat' first
    | with_reducible exact Only.refl _ _
    | with_reducible assumption
    | with_reducible apply Only.ite
    | with_reducible apply Only.foldl
    | with_reducible apply Only.fst_ite
    | with_reducible apply Only.snd_ite
    | with_reducible apply State.noticeTo_only
    | decide
    | intro _ _
    | intro _
    | dsimp only
    | split

theorem State.stateNotice_only {M : Nat} {origin : State} (s : State) (frame : Only M origin s) (inMask : 0x100000000000000000042 ||| M = M) : Only M origin (State.stateNotice s) := by
  refine Only.step frame (G := 0x100000000000000000042) ?_ inMask
  unfold State.stateNotice
  repeat' first
    | with_reducible exact Only.refl _ _
    | with_reducible assumption
    | with_reducible apply Only.ite
    | with_reducible apply Only.foldl
    | with_reducible apply Only.fst_ite
    | with_reducible apply Only.snd_ite
    | with_reducible apply State.notice_only
    | decide
    | intro _ _
    | intro _
    | dsimp only
    | split

theorem State.setRunState_only {M : Nat} {origin : State} (s : State) (r : Nat) (frame : Only M origin s) (inMask : 0x100000000000000000042 ||| M = M) : Only M origin (State.setRunState s r) := by
  refine Only.step frame (G := 0x100000000000000000042) ?_ inMask
  unfold State.setRunState
  repeat' first
    | with_reducible exact Only.refl _ _
    | with_reducible assumption
    | with_reducible apply Only.ite
    | with_reducible apply Only.foldl
    | with_reducible apply Only.fst_ite
    | with_reducible apply Only.snd_ite
    | with_reducible apply State.setNat_only
    | with_reducible apply State.stateNotice_only
    | decide
    | intro _ _
    | intro _
    | dsimp only
    | split

theorem State.answer_only {M : Nat} {origin : State} (s : State) (code detail : Nat) (frame : Only M origin s) (inMask : 0x18 ||| M = M) : Only M origin (State.answer s code detail) := by
  refine Only.step frame (G := 0x18) ?_ inMask
  unfold State.answer
  repeat' first
    | with_reducible exact Only.refl _ _
    | with_reducible assumption
    | with_reducible apply Only.ite
    | with_reducible apply Only.foldl
    | with_reducible apply Only.fst_ite
    | with_reducible apply Only.snd_ite
    | decide
    | intro _ _
    | intro _
    | dsimp only
    | split
    | with_reducible apply Only.upd_lastStatus_lastDetail

end Sys2Proof.Machine
end

