-- ==== Sys2Proof/Laws/Frames/Clock.lean ====
section
/-! SUPPORT. What each operation of Machine/Clock.lean leaves as it was: the frame of every one. -/

set_option linter.unusedTactic false
set_option linter.unreachableTactic false

namespace Sys2Proof.Machine

open Host (Outcome)

theorem State.setServo_only {M : Nat} {origin : State} (s : State) (k v : Nat) (frame : Only M origin s) (inMask : 0x100000000000000000042 ||| M = M) : Only M origin (State.setServo s k v) := by
  refine Only.step frame (G := 0x100000000000000000042) ?_ inMask
  unfold State.setServo
  repeat' first
    | with_reducible exact Only.refl _ _
    | with_reducible assumption
    | with_reducible apply Only.ite
    | with_reducible apply Only.foldl
    | with_reducible apply Only.fst_ite
    | with_reducible apply Only.snd_ite
    | with_reducible apply State.setNat_only
    | with_reducible apply State.notice_only
    | decide
    | intro _ _
    | intro _
    | dsimp only
    | split

theorem State.setSteering_only {M : Nat} {origin : State} (s : State) (k : Nat) (ppt : Int) (frame : Only M origin s) (inMask : 0x40000000000 ||| M = M) : Only M origin (State.setSteering s k ppt) := by
  refine Only.step frame (G := 0x40000000000) ?_ inMask
  unfold State.setSteering
  repeat' first
    | with_reducible exact Only.refl _ _
    | with_reducible assumption
    | with_reducible apply Only.ite
    | with_reducible apply Only.foldl
    | with_reducible apply Only.fst_ite
    | with_reducible apply Only.snd_ite
    | with_reducible apply State.setTb_only
    | decide
    | intro _ _
    | intro _
    | dsimp only
    | split

theorem State.tick_only {M : Nat} {origin : State} (s : State) (frame : Only M origin s) (inMask : 0x2040000000001 ||| M = M) : Only M origin (State.tick s) := by
  refine Only.step frame (G := 0x2040000000001) ?_ inMask
  unfold State.tick
  repeat' first
    | with_reducible exact Only.refl _ _
    | with_reducible assumption
    | with_reducible apply Only.ite
    | with_reducible apply Only.foldl
    | with_reducible apply Only.fst_ite
    | with_reducible apply Only.snd_ite
    | with_reducible apply State.setTb_only
    | decide
    | intro _ _
    | intro _
    | dsimp only
    | split
    | with_reducible apply Only.upd_now_replicas

theorem State.jumpTb_only {M : Nat} {origin : State} (s : State) (k : Nat) (d : Int) (frame : Only M origin s) (inMask : 0x40000000000 ||| M = M) : Only M origin (State.jumpTb s k d) := by
  refine Only.step frame (G := 0x40000000000) ?_ inMask
  unfold State.jumpTb
  repeat' first
    | with_reducible exact Only.refl _ _
    | with_reducible assumption
    | with_reducible apply Only.ite
    | with_reducible apply Only.foldl
    | with_reducible apply Only.fst_ite
    | with_reducible apply Only.snd_ite
    | with_reducible apply State.setTb_only
    | decide
    | intro _ _
    | intro _
    | dsimp only
    | split

theorem State.stopTimeBases_only {M : Nat} {origin : State} (s : State) (frame : Only M origin s) (inMask : 0x40000000000 ||| M = M) : Only M origin (State.stopTimeBases s) := by
  refine Only.step frame (G := 0x40000000000) ?_ inMask
  unfold State.stopTimeBases
  repeat' first
    | with_reducible exact Only.refl _ _
    | with_reducible assumption
    | with_reducible apply Only.ite
    | with_reducible apply Only.foldl
    | with_reducible apply Only.fst_ite
    | with_reducible apply Only.snd_ite
    | with_reducible apply State.setTb_only
    | decide
    | intro _ _
    | intro _
    | dsimp only
    | split

theorem State.settleSlew_only {M : Nat} {origin : State} (s : State) (f : Nat) (goesOn : Bool) (frame : Only M origin s) (inMask : 0x100000000002 ||| M = M) : Only M origin (State.settleSlew s f goesOn) := by
  refine Only.step frame (G := 0x100000000002) ?_ inMask
  unfold State.settleSlew
  repeat' first
    | with_reducible exact Only.refl _ _
    | with_reducible assumption
    | with_reducible apply Only.ite
    | with_reducible apply Only.foldl
    | with_reducible apply Only.fst_ite
    | with_reducible apply Only.snd_ite
    | with_reducible apply State.setReg_only
    | with_reducible apply State.setFirefly_only
    | decide
    | intro _ _
    | intro _
    | dsimp only
    | split

theorem State.settlePulses_only {M : Nat} {origin : State} (s : State) (f : Nat) (cut : Bool) (frame : Only M origin s) (inMask : 0x100000000000 ||| M = M) : Only M origin (State.settlePulses s f cut) := by
  refine Only.step frame (G := 0x100000000000) ?_ inMask
  unfold State.settlePulses
  repeat' first
    | with_reducible exact Only.refl _ _
    | with_reducible assumption
    | with_reducible apply Only.ite
    | with_reducible apply Only.foldl
    | with_reducible apply Only.fst_ite
    | with_reducible apply Only.snd_ite
    | with_reducible apply State.setFirefly_only
    | decide
    | intro _ _
    | intro _
    | dsimp only
    | split

theorem State.endPulses_only {M : Nat} {origin : State} (s : State) (f : Nat) (frame : Only M origin s) (inMask : 0x100000000002 ||| M = M) : Only M origin (State.endPulses s f) := by
  refine Only.step frame (G := 0x100000000002) ?_ inMask
  unfold State.endPulses
  repeat' first
    | with_reducible exact Only.refl _ _
    | with_reducible assumption
    | with_reducible apply Only.ite
    | with_reducible apply Only.foldl
    | with_reducible apply Only.fst_ite
    | with_reducible apply Only.snd_ite
    | with_reducible apply State.settleSlew_only
    | with_reducible apply State.settlePulses_only
    | with_reducible apply State.setFirefly_only
    | decide
    | intro _ _
    | intro _
    | dsimp only
    | split

theorem State.ringPush_only {M : Nat} {origin : State} (s : State) (r : CaptureRecord) (frame : Only M origin s) (inMask : 0x1c00000000002 ||| M = M) : Only M origin (State.ringPush s r) := by
  refine Only.step frame (G := 0x1c00000000002) ?_ inMask
  unfold State.ringPush
  repeat' first
    | with_reducible exact Only.refl _ _
    | with_reducible assumption
    | with_reducible apply Only.ite
    | with_reducible apply Only.foldl
    | with_reducible apply Only.fst_ite
    | with_reducible apply Only.snd_ite
    | with_reducible apply State.inc64_only
    | decide
    | intro _ _
    | intro _
    | dsimp only
    | split
    | with_reducible apply Only.upd_ring
    | with_reducible apply Only.upd_ring_rewind
    | with_reducible apply Only.upd_ringSeq
    | with_reducible apply Only.upd_ringSeq_ring
    | with_reducible apply Only.upd_ringSeq_ring_rewind

theorem State.takeRecord_only {M : Nat} {origin : State} (s : State) (source k t : Nat) (late suppressed : Bool) (frame : Only M origin s) (inMask : 0x1c00000000002 ||| M = M) : Only M origin (State.takeRecord s source k t late suppressed) := by
  refine Only.step frame (G := 0x1c00000000002) ?_ inMask
  unfold State.takeRecord
  repeat' first
    | with_reducible exact Only.refl _ _
    | with_reducible assumption
    | with_reducible apply Only.ite
    | with_reducible apply Only.foldl
    | with_reducible apply Only.fst_ite
    | with_reducible apply Only.snd_ite
    | with_reducible apply State.ringPush_only
    | decide
    | intro _ _
    | intro _
    | dsimp only
    | split

theorem State.readRing_only {M : Nat} {origin : State} (s : State) (n : Nat) (frame : Only M origin s) (inMask : 0x1400000000002 ||| M = M) : Only M origin (State.readRing s n).2 := by
  refine Only.step frame (G := 0x1400000000002) ?_ inMask
  unfold State.readRing
  repeat' first
    | with_reducible exact Only.refl _ _
    | with_reducible assumption
    | with_reducible apply Only.ite
    | with_reducible apply Only.foldl
    | with_reducible apply Only.fst_ite
    | with_reducible apply Only.snd_ite
    | with_reducible apply State.inc32_only
    | decide
    | intro _ _
    | intro _
    | dsimp only
    | split
    | with_reducible apply Only.upd_ring
    | with_reducible apply Only.upd_ring_rewind

theorem State.overwriteRing_only {M : Nat} {origin : State} (s : State) (frame : Only M origin s) (inMask : 0x1400000000002 ||| M = M) : Only M origin (State.overwriteRing s) := by
  refine Only.step frame (G := 0x1400000000002) ?_ inMask
  unfold State.overwriteRing
  repeat' first
    | with_reducible exact Only.refl _ _
    | with_reducible assumption
    | with_reducible apply Only.ite
    | with_reducible apply Only.foldl
    | with_reducible apply Only.fst_ite
    | with_reducible apply Only.snd_ite
    | with_reducible apply State.addSat_only
    | decide
    | intro _ _
    | intro _
    | dsimp only
    | split
    | with_reducible apply Only.upd_ring_rewind

end Sys2Proof.Machine
end

