-- ==== Sys2Proof/Laws/Frames/Gates.lean ====
section
/-! SUPPORT. What each operation of Machine/Gates.lean leaves as it was: the frame of every one. -/

set_option linter.unusedTactic false
set_option linter.unreachableTactic false

namespace Sys2Proof.Machine

open Host (Outcome)

theorem State.gatesFollowStep_only {M : Nat} {origin : State} (s : State) (t0 : Int) (frame : Only M origin s) (inMask : 0xc00 ||| M = M) : Only M origin (State.gatesFollowStep s t0) := by
  refine Only.step frame (G := 0xc00) ?_ inMask
  unfold State.gatesFollowStep
  repeat' first
    | with_reducible exact Only.refl _ _
    | with_reducible assumption
    | with_reducible apply Only.ite
    | with_reducible apply Only.foldl
    | with_reducible apply Only.fst_ite
    | with_reducible apply Only.snd_ite
    | with_reducible apply State.setEg_only
    | with_reducible apply State.setQueue_only
    | decide
    | intro _ _
    | intro _
    | dsimp only
    | split

end Sys2Proof.Machine
end

