-- ==== Sys2Proof/Laws/Frames/Operands.lean ====
section
/-! SUPPORT. What each operation of Machine/Operands.lean leaves as it was: the frame of every one. -/

set_option linter.unusedTactic false
set_option linter.unreachableTactic false

namespace Sys2Proof.Machine

open Host (Outcome)

theorem State.putContractState_only {M : Nat} {origin : State} (s : State) (i st : Nat) (frame : Only M origin s) (inMask : 0x800000 ||| M = M) : Only M origin (State.putContractState s i st) := by
  refine Only.step frame (G := 0x800000) ?_ inMask
  unfold State.putContractState
  repeat' first
    | with_reducible exact Only.refl _ _
    | with_reducible assumption
    | with_reducible apply Only.ite
    | with_reducible apply Only.foldl
    | with_reducible apply Only.fst_ite
    | with_reducible apply Only.snd_ite
    | decide
    | intro _ _
    | intro _
    | dsimp only
    | split
    | with_reducible apply Only.upd_contracts

end Sys2Proof.Machine
end

