-- ==== Sys2Proof/Laws/Frames/LinkTiming.lean ====
section
/-! SUPPORT. What each operation of Machine/LinkTiming.lean leaves as it was: the frame of every one. -/

set_option linter.unusedTactic false
set_option linter.unreachableTactic false

namespace Sys2Proof.Machine

open Host (Outcome)

theorem State.putTiming_only {M : Nat} {origin : State} (s : State) (p st causes : Nat) (frame : Only M origin s) (inMask : 0x202 ||| M = M) : Only M origin (State.putTiming s p st causes) := by
  refine Only.step frame (G := 0x202) ?_ inMask
  unfold State.putTiming
  repeat' first
    | with_reducible exact Only.refl _ _
    | with_reducible assumption
    | with_reducible apply Only.ite
    | with_reducible apply Only.foldl
    | with_reducible apply Only.fst_ite
    | with_reducible apply Only.snd_ite
    | with_reducible apply State.setNat_only
    | with_reducible apply State.setTim_only
    | decide
    | intro _ _
    | intro _
    | dsimp only
    | split

theorem State.noteUnverified_only {M : Nat} {origin : State} (s : State) (p : Nat) (frame : Only M origin s) (inMask : 0x140000000000000002 ||| M = M) : Only M origin (State.noteUnverified s p) := by
  refine Only.step frame (G := 0x140000000000000002) ?_ inMask
  unfold State.noteUnverified
  repeat' first
    | with_reducible exact Only.refl _ _
    | with_reducible assumption
    | with_reducible apply Only.ite
    | with_reducible apply Only.foldl
    | with_reducible apply Only.fst_ite
    | with_reducible apply Only.snd_ite
    | with_reducible apply State.putBit_only
    | with_reducible apply State.raise_only
    | decide
    | intro _ _
    | intro _
    | dsimp only
    | split

theorem State.enterUnverified_only {M : Nat} {origin : State} (s : State) (p causes : Nat) (frame : Only M origin s) (inMask : 0x140000000000000202 ||| M = M) : Only M origin (State.enterUnverified s p causes) := by
  refine Only.step frame (G := 0x140000000000000202) ?_ inMask
  unfold State.enterUnverified
  repeat' first
    | with_reducible exact Only.refl _ _
    | with_reducible assumption
    | with_reducible apply Only.ite
    | with_reducible apply Only.foldl
    | with_reducible apply Only.fst_ite
    | with_reducible apply Only.snd_ite
    | with_reducible apply State.putTiming_only
    | with_reducible apply State.noteUnverified_only
    | decide
    | intro _ _
    | intro _
    | dsimp only
    | split

theorem State.calibratingCauses_only {M : Nat} {origin : State} (s : State) (p causes : Nat) (frame : Only M origin s) (inMask : 0x140000000000000202 ||| M = M) : Only M origin (State.calibratingCauses s p causes) := by
  refine Only.step frame (G := 0x140000000000000202) ?_ inMask
  unfold State.calibratingCauses
  repeat' first
    | with_reducible exact Only.refl _ _
    | with_reducible assumption
    | with_reducible apply Only.ite
    | with_reducible apply Only.foldl
    | with_reducible apply Only.fst_ite
    | with_reducible apply Only.snd_ite
    | with_reducible apply State.putTiming_only
    | with_reducible apply State.setTim_only
    | with_reducible apply State.noteUnverified_only
    | decide
    | intro _ _
    | intro _
    | dsimp only
    | split

theorem State.setCauses_only {M : Nat} {origin : State} (s : State) (p causes : Nat) (frame : Only M origin s) (inMask : 0x140000000000000202 ||| M = M) : Only M origin (State.setCauses s p causes) := by
  refine Only.step frame (G := 0x140000000000000202) ?_ inMask
  unfold State.setCauses
  repeat' first
    | with_reducible exact Only.refl _ _
    | with_reducible assumption
    | with_reducible apply Only.ite
    | with_reducible apply Only.foldl
    | with_reducible apply Only.fst_ite
    | with_reducible apply Only.snd_ite
    | with_reducible apply State.putTiming_only
    | with_reducible apply State.calibratingCauses_only
    | with_reducible apply State.enterUnverified_only
    | decide
    | intro _ _
    | intro _
    | dsimp only
    | split

theorem State.putCause_only {M : Nat} {origin : State} (s : State) (p c : Nat) (on : Bool) (frame : Only M origin s) (inMask : 0x140000000000000202 ||| M = M) : Only M origin (State.putCause s p c on) := by
  refine Only.step frame (G := 0x140000000000000202) ?_ inMask
  unfold State.putCause
  repeat' first
    | with_reducible exact Only.refl _ _
    | with_reducible assumption
    | with_reducible apply Only.ite
    | with_reducible apply Only.foldl
    | with_reducible apply Only.fst_ite
    | with_reducible apply Only.snd_ite
    | with_reducible apply State.setCauses_only
    | decide
    | intro _ _
    | intro _
    | dsimp only
    | split

theorem State.abandonAsymmetry_only {M : Nat} {origin : State} (s : State) (p : Nat) (frame : Only M origin s) (inMask : 0x202 ||| M = M) : Only M origin (State.abandonAsymmetry s p) := by
  refine Only.step frame (G := 0x202) ?_ inMask
  unfold State.abandonAsymmetry
  repeat' first
    | with_reducible exact Only.refl _ _
    | with_reducible assumption
    | with_reducible apply Only.ite
    | with_reducible apply Only.foldl
    | with_reducible apply Only.fst_ite
    | with_reducible apply Only.snd_ite
    | with_reducible apply State.setTim_only
    | with_reducible apply State.putBit_only
    | with_reducible apply State.putTiming_only
    | decide
    | intro _ _
    | intro _
    | dsimp only
    | split

theorem State.timingOff_only {M : Nat} {origin : State} (s : State) (p : Nat) (frame : Only M origin s) (inMask : 0x202 ||| M = M) : Only M origin (State.timingOff s p) := by
  refine Only.step frame (G := 0x202) ?_ inMask
  unfold State.timingOff
  repeat' first
    | with_reducible exact Only.refl _ _
    | with_reducible assumption
    | with_reducible apply Only.ite
    | with_reducible apply Only.foldl
    | with_reducible apply Only.fst_ite
    | with_reducible apply Only.snd_ite
    | with_reducible apply State.abandonAsymmetry_only
    | with_reducible apply State.setTim_only
    | with_reducible apply State.putTiming_only
    | decide
    | intro _ _
    | intro _
    | dsimp only
    | split

theorem State.timingOn_only {M : Nat} {origin : State} (s : State) (p : Nat) (frame : Only M origin s) (inMask : 0x140000000000000202 ||| M = M) : Only M origin (State.timingOn s p) := by
  refine Only.step frame (G := 0x140000000000000202) ?_ inMask
  unfold State.timingOn
  repeat' first
    | with_reducible exact Only.refl _ _
    | with_reducible assumption
    | with_reducible apply Only.ite
    | with_reducible apply Only.foldl
    | with_reducible apply Only.fst_ite
    | with_reducible apply Only.snd_ite
    | with_reducible apply State.setTim_only
    | with_reducible apply State.putTiming_only
    | with_reducible apply State.enterUnverified_only
    | decide
    | intro _ _
    | intro _
    | dsimp only
    | split

theorem State.delayStep_only {M : Nat} {origin : State} (s : State) (p : Nat) (d : Int) (frame : Only M origin s) (inMask : 0x2 ||| M = M) : Only M origin (State.delayStep s p d) := by
  refine Only.step frame (G := 0x2) ?_ inMask
  unfold State.delayStep
  repeat' first
    | with_reducible exact Only.refl _ _
    | with_reducible assumption
    | with_reducible apply Only.ite
    | with_reducible apply Only.foldl
    | with_reducible apply Only.fst_ite
    | with_reducible apply Only.snd_ite
    | with_reducible apply State.inc32_only
    | with_reducible apply State.setReg_only
    | with_reducible apply State.putBit_only
    | decide
    | intro _ _
    | intro _
    | dsimp only
    | split

theorem State.holdBuffer_only {M : Nat} {origin : State} (s : State) (p : Nat) (frame : Only M origin s) (inMask : 0x200 ||| M = M) : Only M origin (State.holdBuffer s p) := by
  refine Only.step frame (G := 0x200) ?_ inMask
  unfold State.holdBuffer
  repeat' first
    | with_reducible exact Only.refl _ _
    | with_reducible assumption
    | with_reducible apply Only.ite
    | with_reducible apply Only.foldl
    | with_reducible apply Only.fst_ite
    | with_reducible apply Only.snd_ite
    | with_reducible apply State.setTim_only
    | decide
    | intro _ _
    | intro _
    | dsimp only
    | split

theorem State.takePhases_only {M : Nat} {origin : State} (s : State) (d : Nat) (phases : List Nat) (frame : Only M origin s) (inMask : 0x4000000000000 ||| M = M) : Only M origin (State.takePhases s d phases) := by
  refine Only.step frame (G := 0x4000000000000) ?_ inMask
  unfold State.takePhases
  repeat' first
    | with_reducible exact Only.refl _ _
    | with_reducible assumption
    | with_reducible apply Only.ite
    | with_reducible apply Only.foldl
    | with_reducible apply Only.fst_ite
    | with_reducible apply Only.snd_ite
    | with_reducible apply State.setDetector_only
    | decide
    | intro _ _
    | intro _
    | dsimp only
    | split

theorem State.frameStart_only {M : Nat} {origin : State} (s : State) (p l : Nat) (edge : StartEdge) (frame : Only M origin s) (inMask : 0x4000000000000 ||| M = M) : Only M origin (State.frameStart s p l edge).2 := by
  refine Only.step frame (G := 0x4000000000000) ?_ inMask
  unfold State.frameStart
  repeat' first
    | with_reducible exact Only.refl _ _
    | with_reducible assumption
    | with_reducible apply Only.ite
    | with_reducible apply Only.foldl
    | with_reducible apply Only.fst_ite
    | with_reducible apply Only.snd_ite
    | with_reducible apply State.takePhases_only
    | decide
    | intro _ _
    | intro _
    | dsimp only
    | split

end Sys2Proof.Machine
end

