-- ==== Sys2Proof/Laws/Frames/Selection.lean ====
section
/-! SUPPORT. What each operation of Machine/Selection.lean leaves as it was: the frame of every one. -/

set_option linter.unusedTactic false
set_option linter.unreachableTactic false

namespace Sys2Proof.Machine

open Host (Outcome)

theorem State.judgeWindow_only {M : Nat} {origin : State} (s : State) (n : Nat) (frame : Only M origin s) (inMask : 0x2 ||| M = M) : Only M origin (State.judgeWindow s n) := by
  refine Only.step frame (G := 0x2) ?_ inMask
  unfold State.judgeWindow
  repeat' first
    | with_reducible exact Only.refl _ _
    | with_reducible assumption
    | with_reducible apply Only.ite
    | with_reducible apply Only.foldl
    | with_reducible apply Only.fst_ite
    | with_reducible apply Only.snd_ite
    | with_reducible apply State.putBit_only
    | decide
    | intro _ _
    | intro _
    | dsimp only
    | split

theorem State.judgeSlot_only {M : Nat} {origin : State} (s : State) (n : Nat) (frame : Only M origin s) (inMask : 0x140010000000000002 ||| M = M) : Only M origin (State.judgeSlot s n) := by
  refine Only.step frame (G := 0x140010000000000002) ?_ inMask
  unfold State.judgeSlot
  repeat' first
    | with_reducible exact Only.refl _ _
    | with_reducible assumption
    | with_reducible apply Only.ite
    | with_reducible apply Only.foldl
    | with_reducible apply Only.fst_ite
    | with_reducible apply Only.snd_ite
    | with_reducible apply State.putBit_only
    | with_reducible apply State.setSlot_only
    | with_reducible apply State.setNat_only
    | with_reducible apply State.raise_only
    | decide
    | intro _ _
    | intro _
    | dsimp only
    | split

theorem State.judgeDispute_only {M : Nat} {origin : State} (s : State) (a b : Nat) (frame : Only M origin s) (inMask : 0x10000000000002 ||| M = M) : Only M origin (State.judgeDispute s a b) := by
  refine Only.step frame (G := 0x10000000000002) ?_ inMask
  unfold State.judgeDispute
  repeat' first
    | with_reducible exact Only.refl _ _
    | with_reducible assumption
    | with_reducible apply Only.ite
    | with_reducible apply Only.foldl
    | with_reducible apply Only.fst_ite
    | with_reducible apply Only.snd_ite
    | with_reducible apply State.setSlot_only
    | with_reducible apply State.putBit_only
    | decide
    | intro _ _
    | intro _
    | dsimp only
    | split

theorem State.noteCleared_only {M : Nat} {origin : State} (s : State) (n : Nat) (frame : Only M origin s) (inMask : 0x10000000000000 ||| M = M) : Only M origin (State.noteCleared s n) := by
  refine Only.step frame (G := 0x10000000000000) ?_ inMask
  unfold State.noteCleared
  repeat' first
    | with_reducible exact Only.refl _ _
    | with_reducible assumption
    | with_reducible apply Only.ite
    | with_reducible apply Only.foldl
    | with_reducible apply Only.fst_ite
    | with_reducible apply Only.snd_ite
    | with_reducible apply State.setSlot_only
    | decide
    | intro _ _
    | intro _
    | dsimp only
    | split

theorem State.measureSyntony_only {M : Nat} {origin : State} (s : State) (frame : Only M origin s) (inMask : 0x40000000000 ||| M = M) : Only M origin (State.measureSyntony s) := by
  refine Only.step frame (G := 0x40000000000) ?_ inMask
  unfold State.measureSyntony
  repeat' first
    | with_reducible exact Only.refl _ _
    | with_reducible assumption
    | with_reducible apply Only.ite
    | with_reducible apply Only.foldl
    | with_reducible apply Only.fst_ite
    | with_reducible apply Only.snd_ite
    | with_reducible apply State.setTb_only
    | decide
    | intro _ _
    | intro _
    | dsimp only
    | split

theorem State.setFrequency_only {M : Nat} {origin : State} (s : State) (ppt : Int) (frame : Only M origin s) (inMask : 0x40040000000000 ||| M = M) : Only M origin (State.setFrequency s ppt) := by
  refine Only.step frame (G := 0x40040000000000) ?_ inMask
  unfold State.setFrequency
  repeat' first
    | with_reducible exact Only.refl _ _
    | with_reducible assumption
    | with_reducible apply Only.ite
    | with_reducible apply Only.foldl
    | with_reducible apply Only.fst_ite
    | with_reducible apply Only.snd_ite
    | with_reducible apply State.measureSyntony_only
    | decide
    | intro _ _
    | intro _
    | dsimp only
    | split
    | with_reducible apply Only.upd_frequency

theorem State.pull_only {M : Nat} {origin : State} (s : State) (target : Int) (frame : Only M origin s) (inMask : 0x1c0040000000000 ||| M = M) : Only M origin (State.pull s target) := by
  refine Only.step frame (G := 0x1c0040000000000) ?_ inMask
  unfold State.pull
  repeat' first
    | with_reducible exact Only.refl _ _
    | with_reducible assumption
    | with_reducible apply Only.ite
    | with_reducible apply Only.foldl
    | with_reducible apply Only.fst_ite
    | with_reducible apply Only.snd_ite
    | with_reducible apply State.setFrequency_only
    | decide
    | intro _ _
    | intro _
    | dsimp only
    | split
    | with_reducible apply Only.upd_freqMovedAt_freqNear

theorem State.freqHoldover_only {M : Nat} {origin : State} (s : State) (frame : Only M origin s) (inMask : 0x660040000000002 ||| M = M) : Only M origin (State.freqHoldover s) := by
  refine Only.step frame (G := 0x660040000000002) ?_ inMask
  unfold State.freqHoldover
  repeat' first
    | with_reducible exact Only.refl _ _
    | with_reducible assumption
    | with_reducible apply Only.ite
    | with_reducible apply Only.foldl
    | with_reducible apply Only.fst_ite
    | with_reducible apply Only.snd_ite
    | with_reducible apply State.setNat_only
    | with_reducible apply State.setReg_only
    | with_reducible apply State.setFrequency_only
    | decide
    | intro _ _
    | intro _
    | dsimp only
    | split
    | with_reducible apply Only.upd_freqHeld_freqLog
    | with_reducible apply Only.upd_freqLog
    | with_reducible apply Only.upd_freqSwitching

theorem State.freqSelect_only {M : Nat} {origin : State} (s : State) (frame : Only M origin s) (inMask : 0x7e0040000000002 ||| M = M) : Only M origin (State.freqSelect s) := by
  refine Only.step frame (G := 0x7e0040000000002) ?_ inMask
  unfold State.freqSelect
  repeat' first
    | with_reducible exact Only.refl _ _
    | with_reducible assumption
    | with_reducible apply Only.ite
    | with_reducible apply Only.foldl
    | with_reducible apply Only.fst_ite
    | with_reducible apply Only.snd_ite
    | with_reducible apply State.freqHoldover_only
    | with_reducible apply State.setNat_only
    | with_reducible apply State.inc32_only
    | decide
    | intro _ _
    | intro _
    | dsimp only
    | split
    | with_reducible apply Only.upd_freqSwitching_freqLog_and2

theorem State.showDispute_only {M : Nat} {origin : State} (s : State) (n : Nat) (frame : Only M origin s) (inMask : 0x2 ||| M = M) : Only M origin (State.showDispute s n) := by
  refine Only.step frame (G := 0x2) ?_ inMask
  unfold State.showDispute
  repeat' first
    | with_reducible exact Only.refl _ _
    | with_reducible assumption
    | with_reducible apply Only.ite
    | with_reducible apply Only.foldl
    | with_reducible apply Only.fst_ite
    | with_reducible apply Only.snd_ite
    | with_reducible apply State.setNat_only
    | decide
    | intro _ _
    | intro _
    | dsimp only
    | split

theorem State.judgeCandidate_only {M : Nat} {origin : State} (s : State) (k n : Nat) (frame : Only M origin s) (inMask : 0x2 ||| M = M) : Only M origin (State.judgeCandidate s k n) := by
  refine Only.step frame (G := 0x2) ?_ inMask
  unfold State.judgeCandidate
  repeat' first
    | with_reducible exact Only.refl _ _
    | with_reducible assumption
    | with_reducible apply Only.ite
    | with_reducible apply Only.foldl
    | with_reducible apply Only.fst_ite
    | with_reducible apply Only.snd_ite
    | with_reducible apply State.setNat_only
    | decide
    | intro _ _
    | intro _
    | dsimp only
    | split

theorem State.applySteering_only {M : Nat} {origin : State} (s : State) (k : Nat) (frame : Only M origin s) (inMask : 0x40000000000 ||| M = M) : Only M origin (State.applySteering s k) := by
  refine Only.step frame (G := 0x40000000000) ?_ inMask
  unfold State.applySteering
  repeat' first
    | with_reducible exact Only.refl _ _
    | with_reducible assumption
    | with_reducible apply Only.ite
    | with_reducible apply Only.foldl
    | with_reducible apply Only.fst_ite
    | with_reducible apply Only.snd_ite
    | with_reducible apply State.setSteering_only
    | decide
    | intro _ _
    | intro _
    | dsimp only
    | split

theorem State.timeHoldover_only {M : Nat} {origin : State} (s : State) (k : Nat) (frame : Only M origin s) (inMask : 0x100000000040000000042 ||| M = M) : Only M origin (State.timeHoldover s k) := by
  refine Only.step frame (G := 0x100000000040000000042) ?_ inMask
  unfold State.timeHoldover
  repeat' first
    | with_reducible exact Only.refl _ _
    | with_reducible assumption
    | with_reducible apply Only.ite
    | with_reducible apply Only.foldl
    | with_reducible apply Only.fst_ite
    | with_reducible apply Only.snd_ite
    | with_reducible apply State.setNat_only
    | with_reducible apply State.setReg_only
    | with_reducible apply State.setTb_only
    | with_reducible apply State.setSteering_only
    | with_reducible apply State.setServo_only
    | decide
    | intro _ _
    | intro _
    | dsimp only
    | split

theorem State.chooseTime_only {M : Nat} {origin : State} (s : State) (k n : Nat)
    (frame : Only M origin s) (inMask : 0x2 ||| M = M) : Only M origin (State.chooseTime s k n).1 := by
  refine Only.step frame (G := 0x2) ?_ inMask
  clear frame inMask
  induction n generalizing s with
  | zero => exact Only.refl _ _
  | succ n ih =>
    have ih' : ∀ {M : Nat} {origin s : State}, Only M origin s → 0x2 ||| M = M →
        Only M origin (State.chooseTime s k n).1 := fun a b => a.step (ih _) b
    unfold State.chooseTime
    repeat' first
      | with_reducible exact Only.refl _ _
      | with_reducible assumption
      | with_reducible apply Only.ite
      | with_reducible apply Only.foldl
      | with_reducible apply Only.fst_ite
      | with_reducible apply Only.snd_ite
      | with_reducible apply State.setNat_only
      | with_reducible apply ih'
      | decide
      | intro _ _
      | intro _
      | dsimp only
      | split


theorem State.timeSelect_only {M : Nat} {origin : State} (s : State) (k : Nat) (frame : Only M origin s) (inMask : 0x100000000040000000042 ||| M = M) : Only M origin (State.timeSelect s k) := by
  refine Only.step frame (G := 0x100000000040000000042) ?_ inMask
  unfold State.timeSelect
  repeat' first
    | with_reducible exact Only.refl _ _
    | with_reducible assumption
    | with_reducible apply Only.ite
    | with_reducible apply Only.foldl
    | with_reducible apply Only.fst_ite
    | with_reducible apply Only.snd_ite
    | with_reducible apply State.chooseTime_only
    | with_reducible (refine Only.of_fst (by assumption) ?_; apply State.chooseTime_only)
    | with_reducible apply State.timeHoldover_only
    | with_reducible apply State.setNat_only
    | with_reducible apply State.inc32_only
    | with_reducible apply State.setTb_only
    | with_reducible apply State.setReg_only
    | with_reducible apply State.setServo_only
    | with_reducible apply State.applySteering_only
    | decide
    | intro _ _
    | intro _
    | dsimp only
    | split

theorem State.judgeAsymmetry_only {M : Nat} {origin : State} (s : State) (p : Nat) (frame : Only M origin s) (inMask : 0x202 ||| M = M) : Only M origin (State.judgeAsymmetry s p) := by
  refine Only.step frame (G := 0x202) ?_ inMask
  unfold State.judgeAsymmetry
  repeat' first
    | with_reducible exact Only.refl _ _
    | with_reducible assumption
    | with_reducible apply Only.ite
    | with_reducible apply Only.foldl
    | with_reducible apply Only.fst_ite
    | with_reducible apply Only.snd_ite
    | with_reducible apply State.abandonAsymmetry_only
    | decide
    | intro _ _
    | intro _
    | dsimp only
    | split

theorem State.refsUpdate_only {M : Nat} {origin : State} (s : State) (frame : Only M origin s) (inMask : 0x1001407f0040000000242 ||| M = M) : Only M origin (State.refsUpdate s) := by
  refine Only.step frame (G := 0x1001407f0040000000242) ?_ inMask
  unfold State.refsUpdate
  repeat' first
    | with_reducible exact Only.refl _ _
    | with_reducible assumption
    | with_reducible apply Only.ite
    | with_reducible apply Only.foldl
    | with_reducible apply Only.fst_ite
    | with_reducible apply Only.snd_ite
    | with_reducible apply State.judgeSlot_only
    | with_reducible apply State.judgeDispute_only
    | with_reducible apply State.noteCleared_only
    | with_reducible apply State.freqSelect_only
    | with_reducible apply State.showDispute_only
    | with_reducible apply State.judgeCandidate_only
    | with_reducible apply State.timeSelect_only
    | with_reducible apply State.judgeAsymmetry_only
    | decide
    | intro _ _
    | intro _
    | dsimp only
    | split

theorem State.feedEstimate_only {M : Nat} {origin : State} (s : State) (k n : Nat) (offset : Int) (frame : Only M origin s) (inMask : 0x40000000002 ||| M = M) : Only M origin (State.feedEstimate s k n offset) := by
  refine Only.step frame (G := 0x40000000002) ?_ inMask
  unfold State.feedEstimate
  repeat' first
    | with_reducible exact Only.refl _ _
    | with_reducible assumption
    | with_reducible apply Only.ite
    | with_reducible apply Only.foldl
    | with_reducible apply Only.fst_ite
    | with_reducible apply Only.snd_ite
    | with_reducible apply State.setTb_only
    | with_reducible apply State.setReg_only
    | with_reducible apply State.applySteering_only
    | decide
    | intro _ _
    | intro _
    | dsimp only
    | split

theorem State.slotOffsetSeen_only {M : Nat} {origin : State} (s : State) (k n : Nat) (offset : Int) (frame : Only M origin s) (inMask : 0x10040000000002 ||| M = M) : Only M origin (State.slotOffsetSeen s k n offset) := by
  refine Only.step frame (G := 0x10040000000002) ?_ inMask
  unfold State.slotOffsetSeen
  repeat' first
    | with_reducible exact Only.refl _ _
    | with_reducible assumption
    | with_reducible apply Only.ite
    | with_reducible apply Only.foldl
    | with_reducible apply Only.fst_ite
    | with_reducible apply Only.snd_ite
    | with_reducible apply State.setReg_only
    | with_reducible apply State.setSlot_only
    | with_reducible apply State.setNat_only
    | with_reducible apply State.feedEstimate_only
    | decide
    | intro _ _
    | intro _
    | dsimp only
    | split

end Sys2Proof.Machine
end

