-- ==== Sys2Proof/Laws/Frames/Access.lean ====
section
/-! SUPPORT. What each operation of Machine/Access.lean leaves as it was: the frame of every one. -/

set_option linter.unusedTactic false
set_option linter.unreachableTactic false

namespace Sys2Proof.Machine

open Host (Outcome)

theorem State.hostWrite_only {M : Nat} {origin : State} (s : State) (role : Role) (idx sub : Nat) (act : State → State)
    (frame : Only M origin s) (inMask : 0x18 ||| M = M) (h : ∀ a, Only M a (act a)) :
    Only M origin (State.hostWrite s role idx sub act) := by
  unfold State.hostWrite
  split
  · exact State.answer_only _ _ _ frame inMask
  · exact frame.step (h s) (Nat.or_self M)


theorem State.done_only {M : Nat} {origin : State} (s : State) (frame : Only M origin s) (inMask : 0x18 ||| M = M) : Only M origin (State.done s) := by
  refine Only.step frame (G := 0x18) ?_ inMask
  unfold State.done
  repeat' first
    | with_reducible exact Only.refl _ _
    | with_reducible assumption
    | with_reducible apply Only.ite
    | with_reducible apply Only.foldl
    | with_reducible apply Only.fst_ite
    | with_reducible apply Only.snd_ite
    | with_reducible apply State.answer_only
    | decide
    | intro _ _
    | intro _
    | dsimp only
    | split

theorem State.ruleRefused_only {M : Nat} {origin : State} (s : State) (reason : Nat) (frame : Only M origin s) (inMask : 0x18 ||| M = M) : Only M origin (State.ruleRefused s reason) := by
  refine Only.step frame (G := 0x18) ?_ inMask
  unfold State.ruleRefused
  repeat' first
    | with_reducible exact Only.refl _ _
    | with_reducible assumption
    | with_reducible apply Only.ite
    | with_reducible apply Only.foldl
    | with_reducible apply Only.fst_ite
    | with_reducible apply Only.snd_ite
    | with_reducible apply State.answer_only
    | decide
    | intro _ _
    | intro _
    | dsimp only
    | split

theorem State.outOfRange_only {M : Nat} {origin : State} (s : State) (sub : Nat) (frame : Only M origin s) (inMask : 0x18 ||| M = M) : Only M origin (State.outOfRange s sub) := by
  refine Only.step frame (G := 0x18) ?_ inMask
  unfold State.outOfRange
  repeat' first
    | with_reducible exact Only.refl _ _
    | with_reducible assumption
    | with_reducible apply Only.ite
    | with_reducible apply Only.foldl
    | with_reducible apply Only.fst_ite
    | with_reducible apply Only.snd_ite
    | with_reducible apply State.answer_only
    | decide
    | intro _ _
    | intro _
    | dsimp only
    | split

end Sys2Proof.Machine
end

