-- ==== Sys2Proof/Laws/Frames/Flags.lean ====
section
/-! SUPPORT. What each operation of Machine/Flags.lean leaves as it was: the frame of every one. -/

set_option linter.unusedTactic false
set_option linter.unreachableTactic false

namespace Sys2Proof.Machine

open Host (Outcome)

theorem State.watermark_only {M : Nat} {origin : State} (s : State) (i st cnt occupancy threshold hysteresis g : Nat) (frame : Only M origin s) (inMask : 0x140000000000000002 ||| M = M) : Only M origin (State.watermark s i st cnt occupancy threshold hysteresis g) := by
  refine Only.step frame (G := 0x140000000000000002) ?_ inMask
  unfold State.watermark
  repeat' first
    | with_reducible exact Only.refl _ _
    | with_reducible assumption
    | with_reducible apply Only.ite
    | with_reducible apply Only.foldl
    | with_reducible apply Only.fst_ite
    | with_reducible apply Only.snd_ite
    | with_reducible apply State.putBit_only
    | with_reducible apply State.inc32_only
    | with_reducible apply State.raise_only
    | decide
    | intro _ _
    | intro _
    | dsimp only
    | split

theorem State.judgeQueue_only {M : Nat} {origin : State} (s : State) (p q : Nat) (frame : Only M origin s) (inMask : 0x140000000000000002 ||| M = M) : Only M origin (State.judgeQueue s p q) := by
  refine Only.step frame (G := 0x140000000000000002) ?_ inMask
  unfold State.judgeQueue
  repeat' first
    | with_reducible exact Only.refl _ _
    | with_reducible assumption
    | with_reducible apply Only.ite
    | with_reducible apply Only.foldl
    | with_reducible apply Only.fst_ite
    | with_reducible apply Only.snd_ite
    | with_reducible apply State.setNat_only
    | with_reducible apply State.watermark_only
    | decide
    | intro _ _
    | intro _
    | dsimp only
    | split

end Sys2Proof.Machine
end

