-- ==== Sys2Proof/Laws/Frames/Buffers.lean ====
section
/-! SUPPORT. What each operation of Machine/Buffers.lean leaves as it was: the frame of every one. -/

set_option linter.unusedTactic false
set_option linter.unreachableTactic false

namespace Sys2Proof.Machine

open Host (Outcome)

theorem State.judgePool_only {M : Nat} {origin : State} (s : State) (g : Nat) (frame : Only M origin s) (inMask : 0x140000000000000002 ||| M = M) : Only M origin (State.judgePool s g) := by
  refine Only.step frame (G := 0x140000000000000002) ?_ inMask
  unfold State.judgePool
  repeat' first
    | with_reducible exact Only.refl _ _
    | with_reducible assumption
    | with_reducible apply Only.ite
    | with_reducible apply Only.foldl
    | with_reducible apply Only.fst_ite
    | with_reducible apply Only.snd_ite
    | with_reducible apply State.watermark_only
    | decide
    | intro _ _
    | intro _
    | dsimp only
    | split

theorem State.usePool_only {M : Nat} {origin : State} (s : State) (g k n : Nat) (frame : Only M origin s) (inMask : 0x140000000000001002 ||| M = M) : Only M origin (State.usePool s g k n) := by
  refine Only.step frame (G := 0x140000000000001002) ?_ inMask
  unfold State.usePool
  repeat' first
    | with_reducible exact Only.refl _ _
    | with_reducible assumption
    | with_reducible apply Only.ite
    | with_reducible apply Only.foldl
    | with_reducible apply Only.fst_ite
    | with_reducible apply Only.snd_ite
    | with_reducible apply State.setRegion_only
    | with_reducible apply State.judgePool_only
    | decide
    | intro _ _
    | intro _
    | dsimp only
    | split

theorem State.drawCell_only {M : Nat} {origin s : State} {g : Nat} {l : List Nat} {k : Nat} {u : State}
    (frame : Only M origin s) (inMask : 0x140000000000001002 ||| M = M) (h : State.drawCell s g l = some (k, u)) : Only M origin u := by
  induction l with
  | nil => exact nomatch h
  | cons k r ih =>
    unfold State.drawCell at h
    split at h
    · injection h with h; injection h with _ h; subst h; exact State.usePool_only _ _ _ _ frame inMask
    · exact ih h


theorem State.returnCell_only {M : Nat} {origin : State} (s : State) (g k : Nat) (frame : Only M origin s) (inMask : 0x140000000000001002 ||| M = M) : Only M origin (State.returnCell s g k) := by
  refine Only.step frame (G := 0x140000000000001002) ?_ inMask
  unfold State.returnCell
  repeat' first
    | with_reducible exact Only.refl _ _
    | with_reducible assumption
    | with_reducible apply Only.ite
    | with_reducible apply Only.foldl
    | with_reducible apply Only.fst_ite
    | with_reducible apply Only.snd_ite
    | with_reducible apply State.usePool_only
    | decide
    | intro _ _
    | intro _
    | dsimp only
    | split

theorem State.readWords_only {M : Nat} {origin : State} (s : State) (g serial : Nat) (frame : Only M origin s) (inMask : 0x2 ||| M = M) : Only M origin (State.readWords s g serial) := by
  refine Only.step frame (G := 0x2) ?_ inMask
  unfold State.readWords
  repeat' first
    | with_reducible exact Only.refl _ _
    | with_reducible assumption
    | with_reducible apply Only.ite
    | with_reducible apply Only.foldl
    | with_reducible apply Only.fst_ite
    | with_reducible apply Only.snd_ite
    | with_reducible apply State.addSat_only
    | decide
    | intro _ _
    | intro _
    | dsimp only
    | split

theorem State.countSpoilt_only {M : Nat} {origin : State} (s : State) (g : Nat) (c : Copy) (frame : Only M origin s) (inMask : 0x1802 ||| M = M) : Only M origin (State.countSpoilt s g c) := by
  refine Only.step frame (G := 0x1802) ?_ inMask
  unfold State.countSpoilt
  repeat' first
    | with_reducible exact Only.refl _ _
    | with_reducible assumption
    | with_reducible apply Only.ite
    | with_reducible apply Only.foldl
    | with_reducible apply Only.fst_ite
    | with_reducible apply Only.snd_ite
    | with_reducible apply State.setRegion_only
    | with_reducible apply State.addSat_only
    | decide
    | intro _ _
    | intro _
    | dsimp only
    | split
    | with_reducible apply Only.upd_queues

theorem State.releaseCells_only {M : Nat} {origin : State} (s : State) (g : Nat) (c : Copy) (frame : Only M origin s) (inMask : 0x140000000000001002 ||| M = M) : Only M origin (State.releaseCells s g c) := by
  refine Only.step frame (G := 0x140000000000001002) ?_ inMask
  unfold State.releaseCells
  repeat' first
    | with_reducible exact Only.refl _ _
    | with_reducible assumption
    | with_reducible apply Only.ite
    | with_reducible apply Only.foldl
    | with_reducible apply Only.fst_ite
    | with_reducible apply Only.snd_ite
    | with_reducible apply State.returnCell_only
    | decide
    | intro _ _
    | intro _
    | dsimp only
    | split

theorem State.removeCopies_only {M : Nat} {origin : State} (s : State) (p q : Nat) (f : Copy → Bool) (frame : Only M origin s) (inMask : 0x140000000000001802 ||| M = M) : Only M origin (State.removeCopies s p q f) := by
  refine Only.step frame (G := 0x140000000000001802) ?_ inMask
  unfold State.removeCopies
  repeat' first
    | with_reducible exact Only.refl _ _
    | with_reducible assumption
    | with_reducible apply Only.ite
    | with_reducible apply Only.foldl
    | with_reducible apply Only.fst_ite
    | with_reducible apply Only.snd_ite
    | with_reducible apply State.setQueue_only
    | with_reducible apply State.releaseCells_only
    | with_reducible apply State.judgeQueue_only
    | decide
    | intro _ _
    | intro _
    | dsimp only
    | split

theorem State.removeHostCopies_only {M : Nat} {origin : State} (s : State) (g : Nat) (f : Copy → Bool) (frame : Only M origin s) (inMask : 0x140000000000001002 ||| M = M) : Only M origin (State.removeHostCopies s g f) := by
  refine Only.step frame (G := 0x140000000000001002) ?_ inMask
  unfold State.removeHostCopies
  repeat' first
    | with_reducible exact Only.refl _ _
    | with_reducible assumption
    | with_reducible apply Only.ite
    | with_reducible apply Only.foldl
    | with_reducible apply Only.fst_ite
    | with_reducible apply Only.snd_ite
    | with_reducible apply State.releaseCells_only
    | with_reducible apply State.setRegion_only
    | decide
    | intro _ _
    | intro _
    | dsimp only
    | split

theorem State.breachRecord_only {M : Nat} {origin : State} (s : State) (contract code g : Nat) (detail : Int) (frame : Only M origin s) (inMask : 0x400000002 ||| M = M) : Only M origin (State.breachRecord s contract code g detail) := by
  refine Only.step frame (G := 0x400000002) ?_ inMask
  unfold State.breachRecord
  repeat' first
    | with_reducible exact Only.refl _ _
    | with_reducible assumption
    | with_reducible apply Only.ite
    | with_reducible apply Only.foldl
    | with_reducible apply Only.fst_ite
    | with_reducible apply Only.snd_ite
    | with_reducible apply State.inc64_only
    | with_reducible apply State.inc32_only
    | decide
    | intro _ _
    | intro _
    | dsimp only
    | split
    | with_reducible apply Only.upd_breaches

theorem State.breach_only {M : Nat} {origin : State} (s : State) (g contract code : Nat) (detail : Int) (frame : Only M origin s) (inMask : 0x140000000600000002 ||| M = M) : Only M origin (State.breach s g contract code detail) := by
  refine Only.step frame (G := 0x140000000600000002) ?_ inMask
  unfold State.breach
  repeat' first
    | with_reducible exact Only.refl _ _
    | with_reducible assumption
    | with_reducible apply Only.ite
    | with_reducible apply Only.foldl
    | with_reducible apply Only.fst_ite
    | with_reducible apply Only.snd_ite
    | with_reducible apply State.breachRecord_only
    | with_reducible apply State.setContractAt_only
    | with_reducible apply State.raise_only
    | decide
    | intro _ _
    | intro _
    | dsimp only
    | split

theorem State.copyBreach_only {M : Nat} {origin : State} (s : State) (g : Nat) (c : Copy) (code : Nat) (detail : Int) (frame : Only M origin s) (inMask : 0x140000000600000002 ||| M = M) : Only M origin (State.copyBreach s g c code detail) := by
  refine Only.step frame (G := 0x140000000600000002) ?_ inMask
  unfold State.copyBreach
  repeat' first
    | with_reducible exact Only.refl _ _
    | with_reducible assumption
    | with_reducible apply Only.ite
    | with_reducible apply Only.foldl
    | with_reducible apply Only.fst_ite
    | with_reducible apply Only.snd_ite
    | with_reducible apply State.breach_only
    | decide
    | intro _ _
    | intro _
    | dsimp only
    | split

theorem State.badCopy_only {M : Nat} {origin : State} (s : State) (p q : Nat) (c : Copy) (lost : Bool) (frame : Only M origin s) (inMask : 0x140000000000001802 ||| M = M) : Only M origin (State.badCopy s p q c lost) := by
  refine Only.step frame (G := 0x140000000000001802) ?_ inMask
  unfold State.badCopy
  repeat' first
    | with_reducible exact Only.refl _ _
    | with_reducible assumption
    | with_reducible apply Only.ite
    | with_reducible apply Only.foldl
    | with_reducible apply Only.fst_ite
    | with_reducible apply Only.snd_ite
    | with_reducible apply State.setQueue_only
    | with_reducible apply State.inc64_only
    | with_reducible apply State.removeCopies_only
    | decide
    | intro _ _
    | intro _
    | dsimp only
    | split

theorem State.badCopies_only {M : Nat} {origin : State} (s : State) (g : Nat) (f : Copy → Bool) (lost : Bool) (code : Copy → Nat) (frame : Only M origin s) (inMask : 0x140000000600001802 ||| M = M) : Only M origin (State.badCopies s g f lost code) := by
  refine Only.step frame (G := 0x140000000600001802) ?_ inMask
  unfold State.badCopies
  repeat' first
    | with_reducible exact Only.refl _ _
    | with_reducible assumption
    | with_reducible apply Only.ite
    | with_reducible apply Only.foldl
    | with_reducible apply Only.fst_ite
    | with_reducible apply Only.snd_ite
    | with_reducible apply State.copyBreach_only
    | with_reducible apply State.badCopy_only
    | with_reducible apply State.removeHostCopies_only
    | decide
    | intro _ _
    | intro _
    | dsimp only
    | split

theorem State.loseSending_only {M : Nat} {origin : State} (s : State) (p : Nat) (frame : Only M origin s) (inMask : 0x140000000000001c02 ||| M = M) : Only M origin (State.loseSending s p) := by
  refine Only.step frame (G := 0x140000000000001c02) ?_ inMask
  unfold State.loseSending
  repeat' first
    | with_reducible exact Only.refl _ _
    | with_reducible assumption
    | with_reducible apply Only.ite
    | with_reducible apply Only.foldl
    | with_reducible apply Only.fst_ite
    | with_reducible apply Only.snd_ite
    | with_reducible apply State.setEg_only
    | with_reducible apply State.removeCopies_only
    | with_reducible apply State.inc64_only
    | decide
    | intro _ _
    | intro _
    | dsimp only
    | split

theorem State.flushQueue_only {M : Nat} {origin : State} (s : State) (p q : Nat) (frame : Only M origin s) (inMask : 0x140000000000001802 ||| M = M) : Only M origin (State.flushQueue s p q) := by
  refine Only.step frame (G := 0x140000000000001802) ?_ inMask
  unfold State.flushQueue
  repeat' first
    | with_reducible exact Only.refl _ _
    | with_reducible assumption
    | with_reducible apply Only.ite
    | with_reducible apply Only.foldl
    | with_reducible apply Only.fst_ite
    | with_reducible apply Only.snd_ite
    | with_reducible apply State.removeCopies_only
    | with_reducible apply State.addSat_only
    | decide
    | intro _ _
    | intro _
    | dsimp only
    | split

theorem State.queuesDown_only {M : Nat} {origin : State} (s : State) (p : Nat) (frame : Only M origin s) (inMask : 0x140000000000001c02 ||| M = M) : Only M origin (State.queuesDown s p) := by
  refine Only.step frame (G := 0x140000000000001c02) ?_ inMask
  unfold State.queuesDown
  repeat' first
    | with_reducible exact Only.refl _ _
    | with_reducible assumption
    | with_reducible apply Only.ite
    | with_reducible apply Only.foldl
    | with_reducible apply Only.fst_ite
    | with_reducible apply Only.snd_ite
    | with_reducible apply State.loseSending_only
    | with_reducible apply State.flushQueue_only
    | decide
    | intro _ _
    | intro _
    | dsimp only
    | split

theorem State.reportStepped_only {M : Nat} {origin : State} (s : State) (frame : Only M origin s) (inMask : 0x140000000600000802 ||| M = M) : Only M origin (State.reportStepped s) := by
  refine Only.step frame (G := 0x140000000600000802) ?_ inMask
  unfold State.reportStepped
  repeat' first
    | with_reducible exact Only.refl _ _
    | with_reducible assumption
    | with_reducible apply Only.ite
    | with_reducible apply Only.foldl
    | with_reducible apply Only.fst_ite
    | with_reducible apply Only.snd_ite
    | with_reducible apply State.copyBreach_only
    | with_reducible apply State.setQueue_only
    | decide
    | intro _ _
    | intro _
    | dsimp only
    | split

end Sys2Proof.Machine
end

