-- ==== Sys2Proof/Laws/Frames/Contracts.lean ====
section
/-! SUPPORT. What each operation of Machine/Contracts.lean leaves as it was: the frame of every one. -/

set_option linter.unusedTactic false
set_option linter.unreachableTactic false

namespace Sys2Proof.Machine

open Host (Outcome)

theorem State.admitOne_only {M : Nat} {origin : State} (s : State) (i : Nat) (frame : Only M origin s) (inMask : 0x200800000 ||| M = M) : Only M origin (State.admitOne s i) := by
  refine Only.step frame (G := 0x200800000) ?_ inMask
  unfold State.admitOne
  repeat' first
    | with_reducible exact Only.refl _ _
    | with_reducible assumption
    | with_reducible apply Only.ite
    | with_reducible apply Only.foldl
    | with_reducible apply Only.fst_ite
    | with_reducible apply Only.snd_ite
    | with_reducible apply State.setContractAt_only
    | decide
    | intro _ _
    | intro _
    | dsimp only
    | split
    | with_reducible apply Only.upd_contracts

theorem State.admitAll_only {M : Nat} {origin : State} (s : State) (l others : List Nat)
    (frame : Only M origin s) (inMask : 0x200800000 ||| M = M) : Only M origin (State.admitAll s l others).1 := by
  refine Only.step frame (G := 0x200800000) ?_ inMask
  clear frame inMask
  induction l generalizing s others with
  | nil => exact Only.refl _ _
  | cons i r ih =>
    have ih' : ∀ {M : Nat} {origin s : State} {o : List Nat}, Only M origin s → 0x200800000 ||| M = M →
        Only M origin (State.admitAll s r o).1 := fun a b => a.step (ih _ _) b
    unfold State.admitAll
    repeat' first
      | with_reducible exact Only.refl _ _
      | with_reducible assumption
      | with_reducible apply Only.ite
      | with_reducible apply Only.foldl
      | with_reducible apply Only.fst_ite
      | with_reducible apply Only.snd_ite
      | with_reducible apply State.admitOne_only
      | with_reducible apply ih'
      | decide
      | intro _ _
      | intro _
      | dsimp only
      | split


theorem State.countConforming_only {M : Nat} {origin : State} (s : State) (i : Nat) (t : Int) (frame : Only M origin s) (inMask : 0x200000000 ||| M = M) : Only M origin (State.countConforming s i t) := by
  refine Only.step frame (G := 0x200000000) ?_ inMask
  unfold State.countConforming
  repeat' first
    | with_reducible exact Only.refl _ _
    | with_reducible assumption
    | with_reducible apply Only.ite
    | with_reducible apply Only.foldl
    | with_reducible apply Only.fst_ite
    | with_reducible apply Only.snd_ite
    | with_reducible apply State.setContractAt_only
    | decide
    | intro _ _
    | intro _
    | dsimp only
    | split

theorem State.countOutOfContract_only {M : Nat} {origin : State} (s : State) (i : Nat) (frame : Only M origin s) (inMask : 0x200000000 ||| M = M) : Only M origin (State.countOutOfContract s i) := by
  refine Only.step frame (G := 0x200000000) ?_ inMask
  unfold State.countOutOfContract
  repeat' first
    | with_reducible exact Only.refl _ _
    | with_reducible assumption
    | with_reducible apply Only.ite
    | with_reducible apply Only.foldl
    | with_reducible apply Only.fst_ite
    | with_reducible apply Only.snd_ite
    | with_reducible apply State.setContractAt_only
    | decide
    | intro _ _
    | intro _
    | dsimp only
    | split

theorem State.suspendContracts_only {M : Nat} {origin : State} (s : State) (g : Nat) (frame : Only M origin s) (inMask : 0x400800002 ||| M = M) : Only M origin (State.suspendContracts s g) := by
  refine Only.step frame (G := 0x400800002) ?_ inMask
  unfold State.suspendContracts
  repeat' first
    | with_reducible exact Only.refl _ _
    | with_reducible assumption
    | with_reducible apply Only.ite
    | with_reducible apply Only.foldl
    | with_reducible apply Only.fst_ite
    | with_reducible apply Only.snd_ite
    | with_reducible apply State.putContractState_only
    | with_reducible apply State.breachRecord_only
    | decide
    | intro _ _
    | intro _
    | dsimp only
    | split

theorem State.resumeContracts_only {M : Nat} {origin : State} (s : State) (frame : Only M origin s) (inMask : 0x800000 ||| M = M) : Only M origin (State.resumeContracts s) := by
  refine Only.step frame (G := 0x800000) ?_ inMask
  unfold State.resumeContracts
  repeat' first
    | with_reducible exact Only.refl _ _
    | with_reducible assumption
    | with_reducible apply Only.ite
    | with_reducible apply Only.foldl
    | with_reducible apply Only.fst_ite
    | with_reducible apply Only.snd_ite
    | with_reducible apply State.putContractState_only
    | decide
    | intro _ _
    | intro _
    | dsimp only
    | split

theorem State.activateContracts_only {M : Nat} {origin : State} (s : State) (p : Nat) (frame : Only M origin s) (inMask : 0x200800000 ||| M = M) : Only M origin (State.activateContracts s p) := by
  refine Only.step frame (G := 0x200800000) ?_ inMask
  unfold State.activateContracts
  repeat' first
    | with_reducible exact Only.refl _ _
    | with_reducible assumption
    | with_reducible apply Only.ite
    | with_reducible apply Only.foldl
    | with_reducible apply Only.fst_ite
    | with_reducible apply Only.snd_ite
    | with_reducible apply State.setContractAt_only
    | with_reducible apply State.putContractState_only
    | decide
    | intro _ _
    | intro _
    | dsimp only
    | split

end Sys2Proof.Machine
end

