-- ==== Sys2Proof/Laws/Frames/Crossings.lean ====
section
/-! SUPPORT. What each operation of Machine/Crossings.lean leaves as it was: the frame of every one. -/

set_option linter.unusedTactic false
set_option linter.unreachableTactic false

namespace Sys2Proof.Machine

open Host (Outcome)

theorem State.setFlight_only {M : Nat} {origin : State} (s : State) (stage a b : Nat) (l : List Cell) (frame : Only M origin s) (inMask : 0x1000000000 ||| M = M) : Only M origin (State.setFlight s stage a b l) := by
  refine Only.step frame (G := 0x1000000000) ?_ inMask
  unfold State.setFlight
  repeat' first
    | with_reducible exact Only.refl _ _
    | with_reducible assumption
    | with_reducible apply Only.ite
    | with_reducible apply Only.foldl
    | with_reducible apply Only.fst_ite
    | with_reducible apply Only.snd_ite
    | decide
    | intro _ _
    | intro _
    | dsimp only
    | split
    | with_reducible apply Only.upd_flights

theorem State.countDiscarded_only {M : Nat} {origin : State} (s : State) (n : Nat) (frame : Only M origin s) (inMask : 0x2 ||| M = M) : Only M origin (State.countDiscarded s n) := by
  refine Only.step frame (G := 0x2) ?_ inMask
  unfold State.countDiscarded
  repeat' first
    | with_reducible exact Only.refl _ _
    | with_reducible assumption
    | with_reducible apply Only.ite
    | with_reducible apply Only.foldl
    | with_reducible apply Only.fst_ite
    | with_reducible apply Only.snd_ite
    | with_reducible apply State.addSat_only
    | decide
    | intro _ _
    | intro _
    | dsimp only
    | split

theorem State.flushFlight_only {M : Nat} {origin : State} (s : State) (stage a b : Nat) (frame : Only M origin s) (inMask : 0x1000000000 ||| M = M) : Only M origin (State.flushFlight s stage a b).2 := by
  refine Only.step frame (G := 0x1000000000) ?_ inMask
  unfold State.flushFlight
  repeat' first
    | with_reducible exact Only.refl _ _
    | with_reducible assumption
    | with_reducible apply Only.ite
    | with_reducible apply Only.foldl
    | with_reducible apply Only.fst_ite
    | with_reducible apply Only.snd_ite
    | with_reducible apply State.setFlight_only
    | decide
    | intro _ _
    | intro _
    | dsimp only
    | split

theorem State.flushCells_only {M : Nat} {origin : State} (s : State) (g : Nat) (frame : Only M origin s) (inMask : 0x1000000002 ||| M = M) : Only M origin (State.flushCells s g) := by
  refine Only.step frame (G := 0x1000000002) ?_ inMask
  unfold State.flushCells
  repeat' first
    | with_reducible exact Only.refl _ _
    | with_reducible assumption
    | with_reducible apply Only.ite
    | with_reducible apply Only.foldl
    | with_reducible apply Only.fst_ite
    | with_reducible apply Only.snd_ite
    | with_reducible apply State.flushFlight_only
    | with_reducible (refine Only.of_snd (by assumption) ?_; apply State.flushFlight_only)
    | with_reducible apply State.addSat_only
    | decide
    | intro _ _
    | intro _
    | dsimp only
    | split

theorem State.completeFlush_only {M : Nat} {origin : State} (s : State) (x : Nat) (frame : Only M origin s) (inMask : 0x3000000002 ||| M = M) : Only M origin (State.completeFlush s x) := by
  refine Only.step frame (G := 0x3000000002) ?_ inMask
  unfold State.completeFlush
  repeat' first
    | with_reducible exact Only.refl _ _
    | with_reducible assumption
    | with_reducible apply Only.ite
    | with_reducible apply Only.foldl
    | with_reducible apply Only.fst_ite
    | with_reducible apply Only.snd_ite
    | with_reducible apply State.flushCells_only
    | with_reducible apply State.setCrossing_only
    | decide
    | intro _ _
    | intro _
    | dsimp only
    | split

theorem State.flushCrossing_only {M : Nat} {origin : State} (s : State) (x : Nat) (frame : Only M origin s) (inMask : 0x3000000002 ||| M = M) : Only M origin (State.flushCrossing s x) := by
  refine Only.step frame (G := 0x3000000002) ?_ inMask
  unfold State.flushCrossing
  repeat' first
    | with_reducible exact Only.refl _ _
    | with_reducible assumption
    | with_reducible apply Only.ite
    | with_reducible apply Only.foldl
    | with_reducible apply Only.fst_ite
    | with_reducible apply Only.snd_ite
    | with_reducible apply State.setCrossing_only
    | with_reducible apply State.completeFlush_only
    | decide
    | intro _ _
    | intro _
    | dsimp only
    | split

theorem State.closePacket_only {M : Nat} {origin : State} (s : State) (x : Nat) (frame : Only M origin s) (inMask : 0x3000000002 ||| M = M) : Only M origin (State.closePacket s x) := by
  refine Only.step frame (G := 0x3000000002) ?_ inMask
  unfold State.closePacket
  repeat' first
    | with_reducible exact Only.refl _ _
    | with_reducible assumption
    | with_reducible apply Only.ite
    | with_reducible apply Only.foldl
    | with_reducible apply Only.fst_ite
    | with_reducible apply Only.snd_ite
    | with_reducible apply State.completeFlush_only
    | with_reducible apply State.setCrossing_only
    | decide
    | intro _ _
    | intro _
    | dsimp only
    | split

theorem State.shutCrossing_only {M : Nat} {origin : State} (s : State) (x : Nat) (frame : Only M origin s) (inMask : 0x3000000002 ||| M = M) : Only M origin (State.shutCrossing s x) := by
  refine Only.step frame (G := 0x3000000002) ?_ inMask
  unfold State.shutCrossing
  repeat' first
    | with_reducible exact Only.refl _ _
    | with_reducible assumption
    | with_reducible apply Only.ite
    | with_reducible apply Only.foldl
    | with_reducible apply Only.fst_ite
    | with_reducible apply Only.snd_ite
    | with_reducible apply State.closePacket_only
    | with_reducible apply State.setCrossing_only
    | decide
    | intro _ _
    | intro _
    | dsimp only
    | split

end Sys2Proof.Machine
end

