-- ==== Sys2Proof/Laws/Frames/Lookup.lean ====
section
/-! SUPPORT. What each operation of Machine/Lookup.lean leaves as it was: the frame of every one. -/

set_option linter.unusedTactic false
set_option linter.unreachableTactic false

namespace Sys2Proof.Machine

open Host (Outcome)

theorem State.blockStream_only {M : Nat} {origin : State} (s : State) (i : Nat) (frame : Only M origin s) (inMask : 0x400000 ||| M = M) : Only M origin (State.blockStream s i) := by
  refine Only.step frame (G := 0x400000) ?_ inMask
  unfold State.blockStream
  repeat' first
    | with_reducible exact Only.refl _ _
    | with_reducible assumption
    | with_reducible apply Only.ite
    | with_reducible apply Only.foldl
    | with_reducible apply Only.fst_ite
    | with_reducible apply Only.snd_ite
    | decide
    | intro _ _
    | intro _
    | dsimp only
    | split
    | with_reducible apply Only.upd_streams

theorem State.answerIpv6_only {M : Nat} {origin : State} (s : State) (p : Nat) (f : RxFrame) (frame : Only M origin s) (inMask : 0x40 ||| M = M) : Only M origin (State.answerIpv6 s p f) := by
  refine Only.step frame (G := 0x40) ?_ inMask
  unfold State.answerIpv6
  repeat' first
    | with_reducible exact Only.refl _ _
    | with_reducible assumption
    | with_reducible apply Only.ite
    | with_reducible apply Only.foldl
    | with_reducible apply Only.fst_ite
    | with_reducible apply Only.snd_ite
    | decide
    | intro _ _
    | intro _
    | dsimp only
    | split
    | with_reducible apply Only.upd_outgoing

theorem State.countDiscard_only {M : Nat} {origin : State} (s : State) (p sub : Nat) (frame : Only M origin s) (inMask : 0x2 ||| M = M) : Only M origin (State.countDiscard s p sub) := by
  refine Only.step frame (G := 0x2) ?_ inMask
  unfold State.countDiscard
  repeat' first
    | with_reducible exact Only.refl _ _
    | with_reducible assumption
    | with_reducible apply Only.ite
    | with_reducible apply Only.foldl
    | with_reducible apply Only.fst_ite
    | with_reducible apply Only.snd_ite
    | with_reducible apply State.inc64_only
    | decide
    | intro _ _
    | intro _
    | dsimp only
    | split

theorem State.drawFrer_only {M : Nat} {origin : State} (s : State) (f : Nat) (frame : Only M origin s) (inMask : 0x100000000 ||| M = M) : Only M origin (State.drawFrer s f).2 := by
  refine Only.step frame (G := 0x100000000) ?_ inMask
  unfold State.drawFrer
  repeat' first
    | with_reducible exact Only.refl _ _
    | with_reducible assumption
    | with_reducible apply Only.ite
    | with_reducible apply Only.foldl
    | with_reducible apply Only.fst_ite
    | with_reducible apply Only.snd_ite
    | decide
    | intro _ _
    | intro _
    | dsimp only
    | split
    | with_reducible apply Only.upd_frer

theorem State.sourceStage_only {M : Nat} {origin : State} (s : State) (p vid vlan : Nat) (h : Head) (noLearn : Bool) (frame : Only M origin s) (inMask : 0x80002 ||| M = M) : Only M origin (State.sourceStage s p vid vlan h noLearn).1 := by
  refine Only.step frame (G := 0x80002) ?_ inMask
  unfold State.sourceStage
  repeat' first
    | with_reducible exact Only.refl _ _
    | with_reducible assumption
    | with_reducible apply Only.ite
    | with_reducible apply Only.foldl
    | with_reducible apply Only.fst_ite
    | with_reducible apply Only.snd_ite
    | with_reducible apply State.inc64_only
    | decide
    | intro _ _
    | intro _
    | dsimp only
    | split
    | with_reducible apply Only.upd_fdb

theorem State.finish_only {M : Nat} {origin : State} (s : State) (p vid vlan pcp : Nat) (h : Head) (f : RxFrame) (action hit stream : Option Nat) (ipv : Nat) (known : Option Nat) (frame : Only M origin s) (inMask : 0x140000000700000002 ||| M = M) : Only M origin (State.finish s p vid vlan pcp h f action hit stream ipv known).1 := by
  refine Only.step frame (G := 0x140000000700000002) ?_ inMask
  unfold State.finish
  repeat' first
    | with_reducible exact Only.refl _ _
    | with_reducible assumption
    | with_reducible apply Only.ite
    | with_reducible apply Only.foldl
    | with_reducible apply Only.fst_ite
    | with_reducible apply Only.snd_ite
    | with_reducible apply State.countDiscard_only
    | with_reducible apply State.breach_only
    | with_reducible apply State.countConforming_only
    | with_reducible apply State.countOutOfContract_only
    | with_reducible apply State.drawFrer_only
    | with_reducible (refine Only.of_snd (by assumption) ?_; apply State.drawFrer_only)
    | decide
    | intro _ _
    | intro _
    | dsimp only
    | split

theorem State.lookup_only {M : Nat} {origin : State} (s : State) (p : Nat) (f : RxFrame) (w : List Byte) (frame : Only M origin s) (inMask : 0x140000000700480002 ||| M = M) : Only M origin (State.lookup s p f w).1 := by
  refine Only.step frame (G := 0x140000000700480002) ?_ inMask
  unfold State.lookup
  repeat' first
    | with_reducible exact Only.refl _ _
    | with_reducible assumption
    | with_reducible apply Only.ite
    | with_reducible apply Only.foldl
    | with_reducible apply Only.fst_ite
    | with_reducible apply Only.snd_ite
    | with_reducible apply State.inc64_only
    | with_reducible apply State.countDiscard_only
    | with_reducible apply State.sourceStage_only
    | with_reducible (refine Only.of_fst (by assumption) ?_; apply State.sourceStage_only)
    | with_reducible apply State.blockStream_only
    | with_reducible apply State.finish_only
    | with_reducible (refine Only.of_fst (by assumption) ?_; apply State.finish_only)
    | decide
    | intro _ _
    | intro _
    | dsimp only
    | split

end Sys2Proof.Machine
end

