-- ==== Sys2Proof/Laws/Frames/Ingress.lean ====
section
/-! SUPPORT. What each operation of Machine/Ingress.lean leaves as it was: the frame of every one. -/

set_option linter.unusedTactic false
set_option linter.unreachableTactic false

namespace Sys2Proof.Machine

open Host (Outcome)

theorem State.voidPlace_only {M : Nat} {origin : State} (s : State) (g : Nat) (x : Cell) (frame : Only M origin s) (inMask : 0x1000 ||| M = M) : Only M origin (State.voidPlace s g x) := by
  refine Only.step frame (G := 0x1000) ?_ inMask
  unfold State.voidPlace
  repeat' first
    | with_reducible exact Only.refl _ _
    | with_reducible assumption
    | with_reducible apply Only.ite
    | with_reducible apply Only.foldl
    | with_reducible apply Only.fst_ite
    | with_reducible apply Only.snd_ite
    | with_reducible apply State.setRegion_only
    | decide
    | intro _ _
    | intro _
    | dsimp only
    | split

theorem State.returnIngress_only {M : Nat} {origin : State} (s : State) (g : Nat) (x : Cell) (frame : Only M origin s) (inMask : 0x140000000000001002 ||| M = M) : Only M origin (State.returnIngress s g x) := by
  refine Only.step frame (G := 0x140000000000001002) ?_ inMask
  unfold State.returnIngress
  repeat' first
    | with_reducible exact Only.refl _ _
    | with_reducible assumption
    | with_reducible apply Only.ite
    | with_reducible apply Only.foldl
    | with_reducible apply Only.fst_ite
    | with_reducible apply Only.snd_ite
    | with_reducible apply State.returnCell_only
    | decide
    | intro _ _
    | intro _
    | dsimp only
    | split

theorem State.noteLost_only {M : Nat} {origin : State} (s : State) (x : Cell) (frame : Only M origin s) (inMask : 0x1000 ||| M = M) : Only M origin (State.noteLost s x) := by
  refine Only.step frame (G := 0x1000) ?_ inMask
  unfold State.noteLost
  repeat' first
    | with_reducible exact Only.refl _ _
    | with_reducible assumption
    | with_reducible apply Only.ite
    | with_reducible apply Only.foldl
    | with_reducible apply Only.fst_ite
    | with_reducible apply Only.snd_ite
    | with_reducible apply State.setRegion_only
    | decide
    | intro _ _
    | intro _
    | dsimp only
    | split

theorem State.offerCell_only {M : Nat} {origin : State} (s : State) (g : Nat) (x : Cell) (frame : Only M origin s) (inMask : 0x1002 ||| M = M) : Only M origin (State.offerCell s g x) := by
  refine Only.step frame (G := 0x1002) ?_ inMask
  unfold State.offerCell
  repeat' first
    | with_reducible exact Only.refl _ _
    | with_reducible assumption
    | with_reducible apply Only.ite
    | with_reducible apply Only.foldl
    | with_reducible apply Only.fst_ite
    | with_reducible apply Only.snd_ite
    | with_reducible apply State.inc64_only
    | with_reducible apply State.setRegion_only
    | decide
    | intro _ _
    | intro _
    | dsimp only
    | split

theorem State.offerAll_only {M : Nat} {origin : State} (s : State) (g : Nat) (f : RxFrame) (x : Cell) (frame : Only M origin s) (inMask : 0x140000000000001002 ||| M = M) : Only M origin (State.offerAll s g f x) := by
  refine Only.step frame (G := 0x140000000000001002) ?_ inMask
  unfold State.offerAll
  repeat' first
    | with_reducible exact Only.refl _ _
    | with_reducible assumption
    | with_reducible apply Only.ite
    | with_reducible apply Only.foldl
    | with_reducible apply Only.fst_ite
    | with_reducible apply Only.snd_ite
    | with_reducible apply State.offerCell_only
    | with_reducible apply State.returnIngress_only
    | decide
    | intro _ _
    | intro _
    | dsimp only
    | split

theorem State.closeBad_only {M : Nat} {origin : State} (s : State) (p : Nat) (f : RxFrame) (payload : List Byte) (pool : Nat) (frame : Only M origin s) (inMask : 0x140000000000001002 ||| M = M) : Only M origin (State.closeBad s p f payload pool).1 := by
  refine Only.step frame (G := 0x140000000000001002) ?_ inMask
  unfold State.closeBad
  repeat' first
    | with_reducible exact Only.refl _ _
    | with_reducible assumption
    | with_reducible apply Only.ite
    | with_reducible apply Only.foldl
    | with_reducible apply Only.fst_ite
    | with_reducible apply Only.snd_ite
    | with_reducible apply State.offerAll_only
    | decide
    | intro _ _
    | intro _
    | dsimp only
    | split

theorem State.abortRx_only {M : Nat} {origin : State} (s : State) (p : Nat) (frame : Only M origin s) (inMask : 0x140000000000003002 ||| M = M) : Only M origin (State.abortRx s p) := by
  refine Only.step frame (G := 0x140000000000003002) ?_ inMask
  unfold State.abortRx
  repeat' first
    | with_reducible exact Only.refl _ _
    | with_reducible assumption
    | with_reducible apply Only.ite
    | with_reducible apply Only.foldl
    | with_reducible apply Only.fst_ite
    | with_reducible apply Only.snd_ite
    | with_reducible apply State.setRx_only
    | with_reducible apply State.closeBad_only
    | with_reducible (refine Only.of_fst (by assumption) ?_; apply State.closeBad_only)
    | with_reducible apply State.returnCell_only
    | decide
    | intro _ _
    | intro _
    | dsimp only
    | split

theorem State.duplicate_only {M : Nat} {origin : State} (s : State) (p source sequence : Nat) (frame : Only M origin s) (inMask : 0x1002 ||| M = M) : Only M origin (State.duplicate s p source sequence).2 := by
  refine Only.step frame (G := 0x1002) ?_ inMask
  unfold State.duplicate
  repeat' first
    | with_reducible exact Only.refl _ _
    | with_reducible assumption
    | with_reducible apply Only.ite
    | with_reducible apply Only.foldl
    | with_reducible apply Only.fst_ite
    | with_reducible apply Only.snd_ite
    | with_reducible apply State.setRegion_only
    | with_reducible apply State.inc64_only
    | decide
    | intro _ _
    | intro _
    | dsimp only
    | split

theorem State.fillCell_only {M : Nat} {origin : State} (s : State) (p : Nat) (f : RxFrame) (payload : List Byte) (last bad : Bool) (frame : Only M origin s) (inMask : 0x140000000600001002 ||| M = M) : Only M origin (State.fillCell s p f payload last bad).1 := by
  refine Only.step frame (G := 0x140000000600001002) ?_ inMask
  unfold State.fillCell
  repeat' first
    | with_reducible exact Only.refl _ _
    | with_reducible assumption
    | with_reducible apply Only.ite
    | with_reducible apply Only.foldl
    | with_reducible apply Only.fst_ite
    | with_reducible apply Only.snd_ite
    | with_reducible (refine State.drawCell_only (h := by assumption) ?_ ?_)
    | with_reducible apply State.inc64_only
    | with_reducible apply State.breach_only
    | with_reducible apply State.closeBad_only
    | with_reducible (refine Only.of_fst (by assumption) ?_; apply State.closeBad_only)
    | with_reducible apply State.returnCell_only
    | with_reducible apply State.duplicate_only
    | with_reducible (refine Only.of_snd (by assumption) ?_; apply State.duplicate_only)
    | with_reducible apply State.offerAll_only
    | decide
    | intro _ _
    | intro _
    | dsimp only
    | split

theorem State.uncontract_only {M : Nat} {origin : State} (s : State) (f : RxFrame) (frame : Only M origin s) (inMask : 0x200000000 ||| M = M) : Only M origin (State.uncontract s f) := by
  refine Only.step frame (G := 0x200000000) ?_ inMask
  unfold State.uncontract
  repeat' first
    | with_reducible exact Only.refl _ _
    | with_reducible assumption
    | with_reducible apply Only.ite
    | with_reducible apply Only.foldl
    | with_reducible apply Only.fst_ite
    | with_reducible apply Only.snd_ite
    | with_reducible apply State.countOutOfContract_only
    | with_reducible apply State.setContractAt_only
    | decide
    | intro _ _
    | intro _
    | dsimp only
    | split

theorem State.passedContract_only {M : Nat} {origin : State} (s : State) (p : Nat) (f : RxFrame) (frame : Only M origin s) (inMask : 0x200000002 ||| M = M) : Only M origin (State.passedContract s p f).1 := by
  refine Only.step frame (G := 0x200000002) ?_ inMask
  unfold State.passedContract
  repeat' first
    | with_reducible exact Only.refl _ _
    | with_reducible assumption
    | with_reducible apply Only.ite
    | with_reducible apply Only.foldl
    | with_reducible apply Only.fst_ite
    | with_reducible apply Only.snd_ite
    | with_reducible apply State.uncontract_only
    | with_reducible apply State.inc64_only
    | decide
    | intro _ _
    | intro _
    | dsimp only
    | split

theorem State.judgeMaximum_only {M : Nat} {origin : State} (s : State) (p : Nat) (f : RxFrame) (frame : Only M origin s) (inMask : 0x2 ||| M = M) : Only M origin (State.judgeMaximum s p f).1 := by
  refine Only.step frame (G := 0x2) ?_ inMask
  unfold State.judgeMaximum
  repeat' first
    | with_reducible exact Only.refl _ _
    | with_reducible assumption
    | with_reducible apply Only.ite
    | with_reducible apply Only.foldl
    | with_reducible apply Only.fst_ite
    | with_reducible apply Only.snd_ite
    | with_reducible apply State.inc64_only
    | decide
    | intro _ _
    | intro _
    | dsimp only
    | split

theorem State.judgeSdu_only {M : Nat} {origin : State} (s : State) (p : Nat) (f : RxFrame) (frame : Only M origin s) (inMask : 0x400002 ||| M = M) : Only M origin (State.judgeSdu s p f).1 := by
  refine Only.step frame (G := 0x400002) ?_ inMask
  unfold State.judgeSdu
  repeat' first
    | with_reducible exact Only.refl _ _
    | with_reducible assumption
    | with_reducible apply Only.ite
    | with_reducible apply Only.foldl
    | with_reducible apply Only.fst_ite
    | with_reducible apply Only.snd_ite
    | with_reducible apply State.blockStream_only
    | with_reducible apply State.inc64_only
    | with_reducible apply Only.getD
    | decide
    | intro _ _
    | intro _
    | dsimp only
    | split

theorem State.judgeLength_only {M : Nat} {origin : State} (s : State) (p : Nat) (f : RxFrame) (frame : Only M origin s) (inMask : 0x200400002 ||| M = M) : Only M origin (State.judgeLength s p f).1 := by
  refine Only.step frame (G := 0x200400002) ?_ inMask
  unfold State.judgeLength
  repeat' first
    | with_reducible exact Only.refl _ _
    | with_reducible assumption
    | with_reducible apply Only.ite
    | with_reducible apply Only.foldl
    | with_reducible apply Only.fst_ite
    | with_reducible apply Only.snd_ite
    | with_reducible apply State.judgeMaximum_only
    | with_reducible (refine Only.of_fst (by assumption) ?_; apply State.judgeMaximum_only)
    | with_reducible apply State.judgeSdu_only
    | with_reducible (refine Only.of_fst (by assumption) ?_; apply State.judgeSdu_only)
    | with_reducible apply State.uncontract_only
    | with_reducible apply State.passedContract_only
    | with_reducible (refine Only.of_fst (by assumption) ?_; apply State.passedContract_only)
    | with_reducible apply Only.getD
    | decide
    | intro _ _
    | intro _
    | dsimp only
    | split

theorem State.countGood_only {M : Nat} {origin : State} (s : State) (p : Nat) (f : RxFrame) (frame : Only M origin s) (inMask : 0x2 ||| M = M) : Only M origin (State.countGood s p f) := by
  refine Only.step frame (G := 0x2) ?_ inMask
  unfold State.countGood
  repeat' first
    | with_reducible exact Only.refl _ _
    | with_reducible assumption
    | with_reducible apply Only.ite
    | with_reducible apply Only.foldl
    | with_reducible apply Only.fst_ite
    | with_reducible apply Only.snd_ite
    | with_reducible apply State.addSat_only
    | with_reducible apply State.inc64_only
    | decide
    | intro _ _
    | intro _
    | dsimp only
    | split

theorem State.learnMessage_only {M : Nat} {origin : State} (s : State) (fid mac p : Nat) (frame : Only M origin s) (inMask : 0x60000002 ||| M = M) : Only M origin (State.learnMessage s fid mac p) := by
  refine Only.step frame (G := 0x60000002) ?_ inMask
  unfold State.learnMessage
  repeat' first
    | with_reducible exact Only.refl _ _
    | with_reducible assumption
    | with_reducible apply Only.ite
    | with_reducible apply Only.foldl
    | with_reducible apply Only.fst_ite
    | with_reducible apply Only.snd_ite
    | with_reducible apply State.inc64_only
    | decide
    | intro _ _
    | intro _
    | dsimp only
    | split
    | with_reducible apply Only.upd_learns_learnRate

end Sys2Proof.Machine
end

