-- ==== Sys2Proof/Laws/Frames/Forwarding.lean ====
section
/-! SUPPORT. What each operation of Machine/Forwarding.lean leaves as it was: the frame of every one. -/

set_option linter.unusedTactic false
set_option linter.unreachableTactic false

namespace Sys2Proof.Machine

open Host (Outcome)

theorem execFrameArrival_only {M : Nat} {origin : State} (p : PortId) (edge : StartEdge) (s : State) (frame : Only M origin s) (inMask : 0x4000000006000 ||| M = M) : Ends M origin (execFrameArrival p edge s) := by
  refine Ends.step frame (G := 0x4000000006000) ?_ inMask
  unfold execFrameArrival
  repeat' first
    | with_reducible exact Only.refl _ _
    | with_reducible assumption
    | with_reducible apply Only.ite
    | with_reducible apply Only.foldl
    | with_reducible apply Only.fst_ite
    | with_reducible apply Only.snd_ite
    | with_reducible apply State.frameStart_only
    | with_reducible (refine Only.of_snd (by assumption) ?_; apply State.frameStart_only)
    | with_reducible apply State.setRx_only
    | with_reducible apply Ends.next
    | with_reducible apply Ends.ite
    | decide
    | intro _ _
    | intro _
    | dsimp only
    | split
    | with_reducible apply Only.upd_frameCount

theorem execLookupWindowComplete_only {M : Nat} {origin : State} (p : PortId) (window : List Byte) (unreadable : List (TableId × Nat)) (s : State) (frame : Only M origin s) (inMask : 0x140000000702482002 ||| M = M) : Ends M origin (execLookupWindowComplete p window unreadable s) := by
  refine Ends.step frame (G := 0x140000000702482002) ?_ inMask
  unfold execLookupWindowComplete
  repeat' first
    | with_reducible exact Only.refl _ _
    | with_reducible assumption
    | with_reducible apply Only.ite
    | with_reducible apply Only.foldl
    | with_reducible apply Only.fst_ite
    | with_reducible apply Only.snd_ite
    | with_reducible apply State.lookup_only
    | with_reducible (refine Only.of_fst (by assumption) ?_; apply State.lookup_only)
    | with_reducible apply State.setRx_only
    | with_reducible apply Ends.next
    | with_reducible apply Ends.ite
    | decide
    | intro _ _
    | intro _
    | dsimp only
    | split
    | with_reducible apply Only.upd_invalid

theorem execCellFill_only {M : Nat} {origin : State} (p : PortId) (payload : List Byte) (s : State) (frame : Only M origin s) (inMask : 0x140000003600403002 ||| M = M) : Ends M origin (execCellFill p payload s) := by
  refine Ends.step frame (G := 0x140000003600403002) ?_ inMask
  unfold execCellFill
  repeat' first
    | with_reducible exact Only.refl _ _
    | with_reducible assumption
    | with_reducible apply Only.ite
    | with_reducible apply Only.foldl
    | with_reducible apply Only.fst_ite
    | with_reducible apply Only.snd_ite
    | with_reducible apply State.closePacket_only
    | with_reducible apply State.judgeLength_only
    | with_reducible (refine Only.of_fst (by assumption) ?_; apply State.judgeLength_only)
    | with_reducible apply State.setRx_only
    | with_reducible apply State.fillCell_only
    | with_reducible (refine Only.of_fst (by assumption) ?_; apply State.fillCell_only)
    | with_reducible apply Ends.next
    | with_reducible apply Ends.ite
    | decide
    | intro _ _
    | intro _
    | dsimp only
    | split

theorem State.countTail_only {M : Nat} {origin : State} (s : State) (p : Nat) (f : RxFrame) (kind : TailKind) (frame : Only M origin s) (inMask : 0x2 ||| M = M) : Only M origin (State.countTail s p f kind) := by
  refine Only.step frame (G := 0x2) ?_ inMask
  unfold State.countTail
  repeat' first
    | with_reducible exact Only.refl _ _
    | with_reducible assumption
    | with_reducible apply Only.ite
    | with_reducible apply Only.foldl
    | with_reducible apply Only.fst_ite
    | with_reducible apply Only.snd_ite
    | with_reducible apply State.inc64_only
    | with_reducible apply State.countGood_only
    | decide
    | intro _ _
    | intro _
    | dsimp only
    | split

theorem execFrameTail_only {M : Nat} {origin : State} (p : PortId) (kind : TailKind) (payload : List Byte) (s : State) (frame : Only M origin s) (inMask : 0x140000003660403042 ||| M = M) : Ends M origin (execFrameTail p kind payload s) := by
  refine Ends.step frame (G := 0x140000003660403042) ?_ inMask
  unfold execFrameTail
  repeat' first
    | with_reducible exact Only.refl _ _
    | with_reducible assumption
    | with_reducible apply Only.ite
    | with_reducible apply Only.foldl
    | with_reducible apply Only.fst_ite
    | with_reducible apply Only.snd_ite
    | with_reducible apply State.closePacket_only
    | with_reducible apply State.setRx_only
    | with_reducible apply State.judgeLength_only
    | with_reducible (refine Only.of_fst (by assumption) ?_; apply State.judgeLength_only)
    | with_reducible apply State.countTail_only
    | with_reducible apply State.learnMessage_only
    | with_reducible apply State.answerIpv6_only
    | with_reducible apply State.fillCell_only
    | with_reducible (refine Only.of_fst (by assumption) ?_; apply State.fillCell_only)
    | with_reducible apply Ends.next
    | with_reducible apply Ends.ite
    | decide
    | intro _ _
    | intro _
    | dsimp only
    | split

theorem State.fdbInsert_only {M : Nat} {origin : State} {s : State} {e : Nat} (frame : Only M origin s) (inMask : 0x80000 ||| M = M) {u : State} (h : State.fdbInsert s e = some u) : Only M origin u := by
  refine Only.step frame (G := 0x80000) ?_ inMask
  suffices q : OnlyOpt 0x80000 s (State.fdbInsert s e) from q.only u h
  clear h
  unfold State.fdbInsert
  repeat' first
    | with_reducible exact Only.refl _ _
    | with_reducible assumption
    | with_reducible apply Only.ite
    | with_reducible apply Only.foldl
    | with_reducible apply Only.fst_ite
    | with_reducible apply Only.snd_ite
    | with_reducible apply OnlyOpt.some
    | with_reducible apply OnlyOpt.none
    | with_reducible apply OnlyOpt.ite
    | with_reducible apply OnlyOpt.map
    | decide
    | intro _ _
    | intro _
    | dsimp only
    | split
    | with_reducible apply Only.upd_fdb

theorem execLearnInsert_only {M : Nat} {origin : State} (s : State) (frame : Only M origin s) (inMask : 0x20080002 ||| M = M) : Ends M origin (execLearnInsert s) := by
  refine Ends.step frame (G := 0x20080002) ?_ inMask
  unfold execLearnInsert
  repeat' first
    | with_reducible exact Only.refl _ _
    | with_reducible assumption
    | with_reducible apply Only.ite
    | with_reducible apply Only.foldl
    | with_reducible apply Only.fst_ite
    | with_reducible apply Only.snd_ite
    | with_reducible apply State.inc64_only
    | with_reducible (refine State.fdbInsert_only (h := by assumption) ?_ ?_)
    | with_reducible apply Ends.next
    | with_reducible apply Ends.ite
    | decide
    | intro _ _
    | intro _
    | dsimp only
    | split
    | with_reducible apply Only.upd_fdb
    | with_reducible apply Only.upd_learns
    | with_reducible apply Only.upd_learns_fdb

theorem execAgeingStep_only {M : Nat} {origin : State} (s : State) (frame : Only M origin s) (inMask : 0x80000 ||| M = M) : Ends M origin (execAgeingStep s) := by
  refine Ends.step frame (G := 0x80000) ?_ inMask
  unfold execAgeingStep
  repeat' first
    | with_reducible exact Only.refl _ _
    | with_reducible assumption
    | with_reducible apply Only.ite
    | with_reducible apply Only.foldl
    | with_reducible apply Only.fst_ite
    | with_reducible apply Only.snd_ite
    | with_reducible apply Ends.next
    | with_reducible apply Ends.ite
    | decide
    | intro _ _
    | intro _
    | dsimp only
    | split
    | with_reducible apply Only.upd_fdb

theorem execOverlayFold_only {M : Nat} {origin : State} (t : TableId) (s : State) (frame : Only M origin s) (inMask : 0x4000000 ||| M = M) : Ends M origin (execOverlayFold t s) := by
  refine Ends.step frame (G := 0x4000000) ?_ inMask
  unfold execOverlayFold
  repeat' first
    | with_reducible exact Only.refl _ _
    | with_reducible assumption
    | with_reducible apply Only.ite
    | with_reducible apply Only.foldl
    | with_reducible apply Only.fst_ite
    | with_reducible apply Only.snd_ite
    | with_reducible apply Ends.next
    | with_reducible apply Ends.ite
    | decide
    | intro _ _
    | intro _
    | dsimp only
    | split
    | with_reducible apply Only.upd_folding

theorem execDrainTable_only {M : Nat} {origin : State} (role : Role) (t : TableId) (s : State) (frame : Only M origin s) (inMask : 0x1800001a ||| M = M) : Ends M origin (execDrainTable role t s) := by
  refine Ends.step frame (G := 0x1800001a) ?_ inMask
  unfold execDrainTable
  repeat' first
    | with_reducible exact Only.refl _ _
    | with_reducible assumption
    | with_reducible apply Only.ite
    | with_reducible apply Only.foldl
    | with_reducible apply Only.fst_ite
    | with_reducible apply Only.snd_ite
    | with_reducible apply State.hostWrite_only
    | with_reducible apply State.setNat_only
    | with_reducible apply State.done_only
    | with_reducible apply Ends.next
    | with_reducible apply Ends.ite
    | decide
    | intro _ _
    | intro _
    | dsimp only
    | split
    | with_reducible apply Only.upd_drains_lastDrain

theorem execDrainComplete_only {M : Nat} {origin : State} (t : TableId) (s : State) (frame : Only M origin s) (inMask : 0x8000002 ||| M = M) : Ends M origin (execDrainComplete t s) := by
  refine Ends.step frame (G := 0x8000002) ?_ inMask
  unfold execDrainComplete
  repeat' first
    | with_reducible exact Only.refl _ _
    | with_reducible assumption
    | with_reducible apply Only.ite
    | with_reducible apply Only.foldl
    | with_reducible apply Only.fst_ite
    | with_reducible apply Only.snd_ite
    | with_reducible apply State.setNat_only
    | with_reducible apply Ends.next
    | with_reducible apply Ends.ite
    | decide
    | intro _ _
    | intro _
    | dsimp only
    | split
    | with_reducible apply Only.upd_drains

theorem execTableScrub_only {M : Nat} {origin : State} (c : ClusterId) (t : TableId) (position : Nat) (finding : ScrubFinding) (s : State) (frame : Only M origin s) (inMask : 0x140000000002000002 ||| M = M) : Ends M origin (execTableScrub c t position finding s) := by
  refine Ends.step frame (G := 0x140000000002000002) ?_ inMask
  unfold execTableScrub
  repeat' first
    | with_reducible exact Only.refl _ _
    | with_reducible assumption
    | with_reducible apply Only.ite
    | with_reducible apply Only.foldl
    | with_reducible apply Only.fst_ite
    | with_reducible apply Only.snd_ite
    | with_reducible apply State.inc64_only
    | with_reducible apply State.raise_only
    | with_reducible apply Ends.next
    | with_reducible apply Ends.ite
    | decide
    | intro _ _
    | intro _
    | dsimp only
    | split
    | with_reducible apply Only.upd_invalid

theorem execFrerResetTimeout_only {M : Nat} {origin : State} (f : Fin 4096) (s : State) (frame : Only M origin s) (inMask : 0x100000000 ||| M = M) : Ends M origin (execFrerResetTimeout f s) := by
  refine Ends.step frame (G := 0x100000000) ?_ inMask
  unfold execFrerResetTimeout
  repeat' first
    | with_reducible exact Only.refl _ _
    | with_reducible assumption
    | with_reducible apply Only.ite
    | with_reducible apply Only.foldl
    | with_reducible apply Only.fst_ite
    | with_reducible apply Only.snd_ite
    | with_reducible apply Ends.next
    | with_reducible apply Ends.ite
    | decide
    | intro _ _
    | intro _
    | dsimp only
    | split
    | with_reducible apply Only.upd_frer

theorem execStreamGateListActivation_only {M : Nat} {origin : State} (g : Fin 256) (s : State) (frame : Only M origin s) (inMask : 0x80000000 ||| M = M) : Ends M origin (execStreamGateListActivation g s) := by
  refine Ends.step frame (G := 0x80000000) ?_ inMask
  unfold execStreamGateListActivation
  repeat' first
    | with_reducible exact Only.refl _ _
    | with_reducible assumption
    | with_reducible apply Only.ite
    | with_reducible apply Only.foldl
    | with_reducible apply Only.fst_ite
    | with_reducible apply Only.snd_ite
    | with_reducible apply Ends.next
    | with_reducible apply Ends.ite
    | decide
    | intro _ _
    | intro _
    | dsimp only
    | split
    | with_reducible apply Only.upd_gates

theorem execStreamGateIntervalEnd_only {M : Nat} {origin : State} (g : Fin 256) (s : State) (frame : Only M origin s) (inMask : 0x80000000 ||| M = M) : Ends M origin (execStreamGateIntervalEnd g s) := by
  refine Ends.step frame (G := 0x80000000) ?_ inMask
  unfold execStreamGateIntervalEnd
  repeat' first
    | with_reducible exact Only.refl _ _
    | with_reducible assumption
    | with_reducible apply Only.ite
    | with_reducible apply Only.foldl
    | with_reducible apply Only.fst_ite
    | with_reducible apply Only.snd_ite
    | with_reducible apply Ends.next
    | with_reducible apply Ends.ite
    | decide
    | intro _ _
    | intro _
    | dsimp only
    | split
    | with_reducible apply Only.upd_gates

theorem State.hubFrame_only {M : Nat} {origin : State} (s : State) (g : Nat) (d : Descriptor) (payload : List Byte)
    (frame : Only M origin s) (inMask : 0x140000000000005002 ||| M = M) : Only M origin (State.hubFrame s g d payload) := by
  refine Only.step frame (G := 0x140000000000005002) ?_ inMask
  unfold State.hubFrame
  have all : ∀ (f : State × Bool → Nat → State × Bool) (h : ∀ a i, Only 0x140000000000005002 a.1 (f a i).1) (l : List Nat) (a : State × Bool),
      Only 0x140000000000005002 a.1 (l.foldl f a).1 := by
    intro f h l
    induction l with
    | nil => exact fun a => Only.refl _ _
    | cons i l ih => exact fun a => (h a i).step (ih _) (by decide)
  refine Only.ite (Only.refl _ _) ?_
  refine Only.ite (Only.upd_frameCount _ (Only.refl _ _) (by decide)) ?_
  refine Only.step (G := 0x140000000000005002) (Only.upd_frameCount _ (Only.refl _ _) (by decide)) (all _ ?_ _ (_, false)) (by decide)
  intro a i
  split
  · exact Only.refl _ _
  · split
    · split
      · exact State.inc64_only _ _ _ (Only.refl _ _) (by decide)
      · exact State.offerAll_only _ _ _ _ (State.inc64_only _ _ _ (Only.refl _ _) (by decide)) (by decide)
    · next h => exact State.offerAll_only _ _ _ _ (State.drawCell_only (Only.refl _ _) (by decide) h) (by decide)


end Sys2Proof.Machine
end

