-- ==== Sys2Proof/Laws/Frames/Assembly.lean ====
section
/-! SUPPORT. What each operation of Machine/Assembly.lean leaves as it was: the frame of every one. -/

set_option linter.unusedTactic false
set_option linter.unreachableTactic false

namespace Sys2Proof.Machine

open Host (Outcome)

theorem State.frerPasses_only {M : Nat} {origin : State} (s : State) (d : Descriptor) (x : Cell) (frame : Only M origin s) (inMask : 0x100000000 ||| M = M) : Only M origin (State.frerPasses s d x).2 := by
  refine Only.step frame (G := 0x100000000) ?_ inMask
  unfold State.frerPasses
  repeat' first
    | with_reducible exact Only.refl _ _
    | with_reducible assumption
    | with_reducible apply Only.ite
    | with_reducible apply Only.foldl
    | with_reducible apply Only.fst_ite
    | with_reducible apply Only.snd_ite
    | decide
    | intro _ _
    | intro _
    | dsimp only
    | split
    | with_reducible apply Only.upd_frer

theorem State.enqueue_only {M : Nat} {origin : State} (s : State) (p q : Nat) (c : Copy) (frame : Only M origin s) (inMask : 0x140000000000000802 ||| M = M) : Only M origin (State.enqueue s p q c) := by
  refine Only.step frame (G := 0x140000000000000802) ?_ inMask
  unfold State.enqueue
  repeat' first
    | with_reducible exact Only.refl _ _
    | with_reducible assumption
    | with_reducible apply Only.ite
    | with_reducible apply Only.foldl
    | with_reducible apply Only.fst_ite
    | with_reducible apply Only.snd_ite
    | with_reducible apply State.setQueue_only
    | with_reducible apply State.judgeQueue_only
    | decide
    | intro _ _
    | intro _
    | dsimp only
    | split

theorem State.admitCopy_only {M : Nat} {origin : State} (s : State) (p : Nat) (c : Copy) (frame : Only M origin s) (inMask : 0x140000000600000802 ||| M = M) : Only M origin (State.admitCopy s p c) := by
  refine Only.step frame (G := 0x140000000600000802) ?_ inMask
  unfold State.admitCopy
  repeat' first
    | with_reducible exact Only.refl _ _
    | with_reducible assumption
    | with_reducible apply Only.ite
    | with_reducible apply Only.foldl
    | with_reducible apply Only.fst_ite
    | with_reducible apply Only.snd_ite
    | with_reducible apply State.enqueue_only
    | with_reducible apply State.inc64_only
    | with_reducible apply State.putBit_only
    | with_reducible apply State.copyBreach_only
    | decide
    | intro _ _
    | intro _
    | dsimp only
    | split

theorem State.placeCell_only {M : Nat} {origin : State} (s : State) (g : Nat) (x : Cell) (frame : Only M origin s) (inMask : 0x140000000000001002 ||| M = M) : Only M origin (State.placeCell s g x).2 := by
  refine Only.step frame (G := 0x140000000000001002) ?_ inMask
  unfold State.placeCell
  repeat' first
    | with_reducible exact Only.refl _ _
    | with_reducible assumption
    | with_reducible apply Only.ite
    | with_reducible apply Only.foldl
    | with_reducible apply Only.fst_ite
    | with_reducible apply Only.snd_ite
    | with_reducible (refine State.drawCell_only (h := by assumption) ?_ ?_)
    | with_reducible apply State.inc64_only
    | decide
    | intro _ _
    | intro _
    | dsimp only
    | split

theorem State.loseCopies_only {M : Nat} {origin : State} (s : State) (g : Nat) (x : Cell) (d : Descriptor) (code : Nat) (frame : Only M origin s) (inMask : 0x140000000600000002 ||| M = M) : Only M origin (State.loseCopies s g x d code) := by
  refine Only.step frame (G := 0x140000000600000002) ?_ inMask
  unfold State.loseCopies
  repeat' first
    | with_reducible exact Only.refl _ _
    | with_reducible assumption
    | with_reducible apply Only.ite
    | with_reducible apply Only.foldl
    | with_reducible apply Only.fst_ite
    | with_reducible apply Only.snd_ite
    | with_reducible apply State.copyBreach_only
    | with_reducible apply State.inc64_only
    | decide
    | intro _ _
    | intro _
    | dsimp only
    | split

theorem State.firstCell_only {M : Nat} {origin : State} (s : State) (g : Nat) (x : Cell) (d : Descriptor) (frame : Only M origin s) (inMask : 0x140000000700001802 ||| M = M) : Only M origin (State.firstCell s g x d) := by
  refine Only.step frame (G := 0x140000000700001802) ?_ inMask
  unfold State.firstCell
  repeat' first
    | with_reducible exact Only.refl _ _
    | with_reducible assumption
    | with_reducible apply Only.ite
    | with_reducible apply Only.foldl
    | with_reducible apply Only.fst_ite
    | with_reducible apply Only.snd_ite
    | with_reducible apply State.frerPasses_only
    | with_reducible (refine Only.of_snd (by assumption) ?_; apply State.frerPasses_only)
    | with_reducible apply State.returnCell_only
    | with_reducible apply State.setRegion_only
    | with_reducible apply State.loseCopies_only
    | with_reducible apply State.admitCopy_only
    | decide
    | intro _ _
    | intro _
    | dsimp only
    | split

theorem State.appendCell_only {M : Nat} {origin : State} (s : State) (g : Nat) (x : Cell) (frame : Only M origin s) (inMask : 0x140000000000001802 ||| M = M) : Only M origin (State.appendCell s g x) := by
  refine Only.step frame (G := 0x140000000000001802) ?_ inMask
  unfold State.appendCell
  repeat' first
    | with_reducible exact Only.refl _ _
    | with_reducible assumption
    | with_reducible apply Only.ite
    | with_reducible apply Only.foldl
    | with_reducible apply Only.fst_ite
    | with_reducible apply Only.snd_ite
    | with_reducible apply State.setQueue_only
    | with_reducible apply State.judgeQueue_only
    | with_reducible apply State.setRegion_only
    | decide
    | intro _ _
    | intro _
    | dsimp only
    | split

theorem State.markOpened_only {M : Nat} {origin : State} (s : State) (g : Nat) (x : Cell) (frame : Only M origin s) (inMask : 0x1000 ||| M = M) : Only M origin (State.markOpened s g x) := by
  refine Only.step frame (G := 0x1000) ?_ inMask
  unfold State.markOpened
  repeat' first
    | with_reducible exact Only.refl _ _
    | with_reducible assumption
    | with_reducible apply Only.ite
    | with_reducible apply Only.foldl
    | with_reducible apply Only.fst_ite
    | with_reducible apply Only.snd_ite
    | with_reducible apply State.setRegion_only
    | decide
    | intro _ _
    | intro _
    | dsimp only
    | split

theorem State.headless_only {M : Nat} {origin : State} (s : State) (g : Nat) (x : Cell) (frame : Only M origin s) (inMask : 0x140000000600001002 ||| M = M) : Only M origin (State.headless s g x) := by
  refine Only.step frame (G := 0x140000000600001002) ?_ inMask
  unfold State.headless
  repeat' first
    | with_reducible exact Only.refl _ _
    | with_reducible assumption
    | with_reducible apply Only.ite
    | with_reducible apply Only.foldl
    | with_reducible apply Only.fst_ite
    | with_reducible apply Only.snd_ite
    | with_reducible apply State.returnCell_only
    | with_reducible apply State.markOpened_only
    | with_reducible apply State.loseCopies_only
    | decide
    | intro _ _
    | intro _
    | dsimp only
    | split

theorem State.laterCell_only {M : Nat} {origin : State} (s : State) (g : Nat) (x : Cell) (frame : Only M origin s) (inMask : 0x140000000600001802 ||| M = M) : Only M origin (State.laterCell s g x) := by
  refine Only.step frame (G := 0x140000000600001802) ?_ inMask
  unfold State.laterCell
  repeat' first
    | with_reducible exact Only.refl _ _
    | with_reducible assumption
    | with_reducible apply Only.ite
    | with_reducible apply Only.foldl
    | with_reducible apply Only.fst_ite
    | with_reducible apply Only.snd_ite
    | with_reducible apply State.headless_only
    | with_reducible apply State.returnCell_only
    | with_reducible apply State.badCopies_only
    | with_reducible apply State.appendCell_only
    | decide
    | intro _ _
    | intro _
    | dsimp only
    | split

theorem State.loseCell_only {M : Nat} {origin : State} (s : State) (g : Nat) (x : Cell) (frame : Only M origin s) (inMask : 0x140000000600001802 ||| M = M) : Only M origin (State.loseCell s g x) := by
  refine Only.step frame (G := 0x140000000600001802) ?_ inMask
  unfold State.loseCell
  repeat' first
    | with_reducible exact Only.refl _ _
    | with_reducible assumption
    | with_reducible apply Only.ite
    | with_reducible apply Only.foldl
    | with_reducible apply Only.fst_ite
    | with_reducible apply Only.snd_ite
    | with_reducible apply State.laterCell_only
    | decide
    | intro _ _
    | intro _
    | dsimp only
    | split

theorem State.assemble_only {M : Nat} {origin : State} (s : State) (g : Nat) (x : Cell) (frame : Only M origin s) (inMask : 0x140000000700001802 ||| M = M) : Only M origin (State.assemble s g x) := by
  refine Only.step frame (G := 0x140000000700001802) ?_ inMask
  unfold State.assemble
  repeat' first
    | with_reducible exact Only.refl _ _
    | with_reducible assumption
    | with_reducible apply Only.ite
    | with_reducible apply Only.foldl
    | with_reducible apply Only.fst_ite
    | with_reducible apply Only.snd_ite
    | with_reducible apply State.badCopies_only
    | with_reducible apply State.markOpened_only
    | with_reducible apply State.firstCell_only
    | with_reducible apply State.laterCell_only
    | decide
    | intro _ _
    | intro _
    | dsimp only
    | split

end Sys2Proof.Machine
end

