-- ==== Sys2Proof/Laws/Frames/LaneTiming.lean ====
section
/-! SUPPORT. What each operation of Machine/LaneTiming.lean leaves as it was: the frame of every one. -/

set_option linter.unusedTactic false
set_option linter.unreachableTactic false

namespace Sys2Proof.Machine

open Host (Outcome)

theorem State.judgeDetectorCause_only {M : Nat} {origin : State} (s : State) (p : Nat) (frame : Only M origin s) (inMask : 0x140000000000000202 ||| M = M) : Only M origin (State.judgeDetectorCause s p) := by
  refine Only.step frame (G := 0x140000000000000202) ?_ inMask
  unfold State.judgeDetectorCause
  repeat' first
    | with_reducible exact Only.refl _ _
    | with_reducible assumption
    | with_reducible apply Only.ite
    | with_reducible apply Only.foldl
    | with_reducible apply Only.fst_ite
    | with_reducible apply Only.snd_ite
    | with_reducible apply State.putCause_only
    | decide
    | intro _ _
    | intro _
    | dsimp only
    | split

theorem State.judgeVernierCause_only {M : Nat} {origin : State} (s : State) (p : Nat) (frame : Only M origin s) (inMask : 0x140000000000000202 ||| M = M) : Only M origin (State.judgeVernierCause s p) := by
  refine Only.step frame (G := 0x140000000000000202) ?_ inMask
  unfold State.judgeVernierCause
  repeat' first
    | with_reducible exact Only.refl _ _
    | with_reducible assumption
    | with_reducible apply Only.ite
    | with_reducible apply Only.foldl
    | with_reducible apply Only.fst_ite
    | with_reducible apply Only.snd_ite
    | with_reducible apply State.putCause_only
    | decide
    | intro _ _
    | intro _
    | dsimp only
    | split

theorem State.judgeDetectors_only {M : Nat} {origin : State} (s : State) (c : Nat) (frame : Only M origin s) (inMask : 0x140000000000000202 ||| M = M) : Only M origin (State.judgeDetectors s c) := by
  refine Only.step frame (G := 0x140000000000000202) ?_ inMask
  unfold State.judgeDetectors
  repeat' first
    | with_reducible exact Only.refl _ _
    | with_reducible assumption
    | with_reducible apply Only.ite
    | with_reducible apply Only.foldl
    | with_reducible apply Only.fst_ite
    | with_reducible apply Only.snd_ite
    | with_reducible apply State.judgeDetectorCause_only
    | decide
    | intro _ _
    | intro _
    | dsimp only
    | split

theorem State.makeStale_only {M : Nat} {origin : State} (s : State) (l : Nat) (frame : Only M origin s) (inMask : 0x140000000000000202 ||| M = M) : Only M origin (State.makeStale s l) := by
  refine Only.step frame (G := 0x140000000000000202) ?_ inMask
  unfold State.makeStale
  repeat' first
    | with_reducible exact Only.refl _ _
    | with_reducible assumption
    | with_reducible apply Only.ite
    | with_reducible apply Only.foldl
    | with_reducible apply Only.fst_ite
    | with_reducible apply Only.snd_ite
    | with_reducible apply State.judgeVernierCause_only
    | with_reducible apply State.putBit_only
    | decide
    | intro _ _
    | intro _
    | dsimp only
    | split

theorem State.assignSpare_only {M : Nat} {origin : State} (s : State) (c : Nat) (frame : Only M origin s) (inMask : 0x4000000000002 ||| M = M) : Only M origin (State.assignSpare s c) := by
  refine Only.step frame (G := 0x4000000000002) ?_ inMask
  unfold State.assignSpare
  repeat' first
    | with_reducible exact Only.refl _ _
    | with_reducible assumption
    | with_reducible apply Only.ite
    | with_reducible apply Only.foldl
    | with_reducible apply Only.fst_ite
    | with_reducible apply Only.snd_ite
    | with_reducible apply State.setDetector_only
    | with_reducible apply State.setNat_only
    | with_reducible apply State.inc32_only
    | decide
    | intro _ _
    | intro _
    | dsimp only
    | split

theorem State.startLane_only {M : Nat} {origin : State} (s : State) (l : Nat) (frame : Only M origin s) (inMask : 0x4000000000002 ||| M = M) : Only M origin (State.startLane s l) := by
  refine Only.step frame (G := 0x4000000000002) ?_ inMask
  unfold State.startLane
  repeat' first
    | with_reducible exact Only.refl _ _
    | with_reducible assumption
    | with_reducible apply Only.ite
    | with_reducible apply Only.foldl
    | with_reducible apply Only.fst_ite
    | with_reducible apply Only.snd_ite
    | with_reducible apply State.setDetector_only
    | with_reducible apply State.putBit_only
    | decide
    | intro _ _
    | intro _
    | dsimp only
    | split

theorem State.calibrateNext_only {M : Nat} {origin : State} (s : State) (c : Nat) (frame : Only M origin s) (inMask : 0x4000000000002 ||| M = M) : Only M origin (State.calibrateNext s c) := by
  refine Only.step frame (G := 0x4000000000002) ?_ inMask
  unfold State.calibrateNext
  repeat' first
    | with_reducible exact Only.refl _ _
    | with_reducible assumption
    | with_reducible apply Only.ite
    | with_reducible apply Only.foldl
    | with_reducible apply Only.fst_ite
    | with_reducible apply Only.snd_ite
    | with_reducible apply State.startLane_only
    | decide
    | intro _ _
    | intro _
    | dsimp only
    | split

theorem State.abandonLane_only {M : Nat} {origin : State} (s : State) (l : Nat) (frame : Only M origin s) (inMask : 0x10004000000000002 ||| M = M) : Only M origin (State.abandonLane s l) := by
  refine Only.step frame (G := 0x10004000000000002) ?_ inMask
  unfold State.abandonLane
  repeat' first
    | with_reducible exact Only.refl _ _
    | with_reducible assumption
    | with_reducible apply Only.ite
    | with_reducible apply Only.foldl
    | with_reducible apply Only.fst_ite
    | with_reducible apply Only.snd_ite
    | with_reducible apply State.putBit_only
    | with_reducible apply State.setTrim_only
    | with_reducible apply State.setDetector_only
    | with_reducible apply State.setNat_only
    | decide
    | intro _ _
    | intro _
    | dsimp only
    | split

end Sys2Proof.Machine
end

