-- ==== Sys2Proof/Laws/Frames/Keacon.lean ====
section
/-! SUPPORT. What each operation of Machine/Keacon.lean leaves as it was: the frame of every one. -/

set_option linter.unusedTactic false
set_option linter.unreachableTactic false

namespace Sys2Proof.Machine

open Host (Outcome)

theorem State.nextKeacon_only {M : Nat} {origin : State} (s : State) (cls n : Nat) (frame : Only M origin s) (inMask : 0x20000000000000000 ||| M = M) : Only M origin (State.nextKeacon s cls n).2 := by
  refine Only.step frame (G := 0x20000000000000000) ?_ inMask
  unfold State.nextKeacon
  repeat' first
    | with_reducible exact Only.refl _ _
    | with_reducible assumption
    | with_reducible apply Only.ite
    | with_reducible apply Only.foldl
    | with_reducible apply Only.fst_ite
    | with_reducible apply Only.snd_ite
    | decide
    | intro _ _
    | intro _
    | dsimp only
    | split
    | with_reducible apply Only.upd_twin

theorem State.keaconPast_only {M : Nat} {origin : State} (s : State) (cls n : Nat) (frame : Only M origin s) (inMask : 0x20000000000000000 ||| M = M) : Only M origin (State.keaconPast s cls n) := by
  refine Only.step frame (G := 0x20000000000000000) ?_ inMask
  unfold State.keaconPast
  repeat' first
    | with_reducible exact Only.refl _ _
    | with_reducible assumption
    | with_reducible apply Only.ite
    | with_reducible apply Only.foldl
    | with_reducible apply Only.fst_ite
    | with_reducible apply Only.snd_ite
    | decide
    | intro _ _
    | intro _
    | dsimp only
    | split
    | with_reducible apply Only.upd_twin

theorem State.holdKeacon_only {M : Nat} {origin : State} (s : State) (h : KeaconHeld) (frame : Only M origin s) (inMask : 0x20000000000000000 ||| M = M) : Only M origin (State.holdKeacon s h) := by
  refine Only.step frame (G := 0x20000000000000000) ?_ inMask
  unfold State.holdKeacon
  repeat' first
    | with_reducible exact Only.refl _ _
    | with_reducible assumption
    | with_reducible apply Only.ite
    | with_reducible apply Only.foldl
    | with_reducible apply Only.fst_ite
    | with_reducible apply Only.snd_ite
    | decide
    | intro _ _
    | intro _
    | dsimp only
    | split
    | with_reducible apply Only.upd_twin

end Sys2Proof.Machine
end

