-- ==== Sys2Proof/Laws/Frames/Sources.lean ====
section
/-! SUPPORT. What each operation of Machine/Sources.lean leaves as it was: the frame of every one. -/

set_option linter.unusedTactic false
set_option linter.unreachableTactic false

namespace Sys2Proof.Machine

open Host (Outcome)

theorem State.setSetting_only {M : Nat} {origin : State} (s : State) (n v : Nat) (frame : Only M origin s) (inMask : 0x80000000000000000 ||| M = M) : Only M origin (State.setSetting s n v) := by
  refine Only.step frame (G := 0x80000000000000000) ?_ inMask
  unfold State.setSetting
  repeat' first
    | with_reducible exact Only.refl _ _
    | with_reducible assumption
    | with_reducible apply Only.ite
    | with_reducible apply Only.foldl
    | with_reducible apply Only.fst_ite
    | with_reducible apply Only.snd_ite
    | decide
    | intro _ _
    | intro _
    | dsimp only
    | split
    | with_reducible apply Only.upd_settings

end Sys2Proof.Machine
end

