-- ==== Sys2Proof/Laws/Frames/TwinOps.lean ====
section
/-! SUPPORT. What each operation of Machine/TwinOps.lean leaves as it was: the frame of every one. -/

set_option linter.unusedTactic false
set_option linter.unreachableTactic false

namespace Sys2Proof.Machine

open Host (Outcome)

theorem State.judgeLimit_only {M : Nat} {origin : State} (was s : State) (frame : Only M origin s) (inMask : 0x140000000000000002 ||| M = M) : Only M origin (State.judgeLimit was s) := by
  refine Only.step frame (G := 0x140000000000000002) ?_ inMask
  unfold State.judgeLimit
  repeat' first
    | with_reducible exact Only.refl _ _
    | with_reducible assumption
    | with_reducible apply Only.ite
    | with_reducible apply Only.foldl
    | with_reducible apply Only.fst_ite
    | with_reducible apply Only.snd_ite
    | with_reducible apply State.putBit_only
    | with_reducible apply State.raise_only
    | decide
    | intro _ _
    | intro _
    | dsimp only
    | split

theorem State.sendControl_only {M : Nat} {origin : State} (s : State) (code value : Nat) (frame : Only M origin s) (inMask : 0x20000000000000000 ||| M = M) : Only M origin (State.sendControl s code value) := by
  refine Only.step frame (G := 0x20000000000000000) ?_ inMask
  unfold State.sendControl
  repeat' first
    | with_reducible exact Only.refl _ _
    | with_reducible assumption
    | with_reducible apply Only.ite
    | with_reducible apply Only.foldl
    | with_reducible apply Only.fst_ite
    | with_reducible apply Only.snd_ite
    | decide
    | intro _ _
    | intro _
    | dsimp only
    | split
    | with_reducible apply Only.upd_twin

theorem State.resumeThreads_only {M : Nat} {origin : State} (s : State) (frame : Only M origin s) (inMask : 0x400000000000000000002 ||| M = M) : Only M origin (State.resumeThreads s) := by
  refine Only.step frame (G := 0x400000000000000000002) ?_ inMask
  unfold State.resumeThreads
  repeat' first
    | with_reducible exact Only.refl _ _
    | with_reducible assumption
    | with_reducible apply Only.ite
    | with_reducible apply Only.foldl
    | with_reducible apply Only.fst_ite
    | with_reducible apply Only.snd_ite
    | with_reducible apply State.setEngine_only
    | with_reducible apply State.setNat_only
    | decide
    | intro _ _
    | intro _
    | dsimp only
    | split

theorem State.endIntrusion_only {M : Nat} {origin : State} (s : State) (frame : Only M origin s) (inMask : 0x400000000000000000002 ||| M = M) : Only M origin (State.endIntrusion s) := by
  refine Only.step frame (G := 0x400000000000000000002) ?_ inMask
  unfold State.endIntrusion
  repeat' first
    | with_reducible exact Only.refl _ _
    | with_reducible assumption
    | with_reducible apply Only.ite
    | with_reducible apply Only.foldl
    | with_reducible apply Only.fst_ite
    | with_reducible apply Only.snd_ite
    | with_reducible apply State.setEngine_only
    | with_reducible apply State.resumeThreads_only
    | decide
    | intro _ _
    | intro _
    | dsimp only
    | split

theorem State.setMirror_only {M : Nat} {origin : State} (s : State) (m : Nat) (frame : Only M origin s) (inMask : 0x2 ||| M = M) : Only M origin (State.setMirror s m) := by
  refine Only.step frame (G := 0x2) ?_ inMask
  unfold State.setMirror
  repeat' first
    | with_reducible exact Only.refl _ _
    | with_reducible assumption
    | with_reducible apply Only.ite
    | with_reducible apply Only.foldl
    | with_reducible apply Only.fst_ite
    | with_reducible apply Only.snd_ite
    | with_reducible apply State.setNat_only
    | decide
    | intro _ _
    | intro _
    | dsimp only
    | split

theorem State.startResync_only {M : Nat} {origin : State} (s : State) (frame : Only M origin s) (inMask : 0x20000000000000002 ||| M = M) : Only M origin (State.startResync s) := by
  refine Only.step frame (G := 0x20000000000000002) ?_ inMask
  unfold State.startResync
  repeat' first
    | with_reducible exact Only.refl _ _
    | with_reducible assumption
    | with_reducible apply Only.ite
    | with_reducible apply Only.foldl
    | with_reducible apply Only.fst_ite
    | with_reducible apply Only.snd_ite
    | with_reducible apply State.setMirror_only
    | decide
    | intro _ _
    | intro _
    | dsimp only
    | split
    | with_reducible apply Only.upd_twin

theorem State.setRole_only {M : Nat} {origin : State} (s : State) (r : Nat) (frame : Only M origin s) (inMask : 0x500020000000000000042 ||| M = M) : Only M origin (State.setRole s r) := by
  refine Only.step frame (G := 0x500020000000000000042) ?_ inMask
  unfold State.setRole
  repeat' first
    | with_reducible exact Only.refl _ _
    | with_reducible assumption
    | with_reducible apply Only.ite
    | with_reducible apply Only.foldl
    | with_reducible apply Only.fst_ite
    | with_reducible apply Only.snd_ite
    | with_reducible apply State.setNat_only
    | with_reducible apply State.stateNotice_only
    | with_reducible apply State.endIntrusion_only
    | with_reducible apply State.startResync_only
    | decide
    | intro _ _
    | intro _
    | dsimp only
    | split
    | with_reducible apply Only.upd_twin

theorem State.keepCadence_only {M : Nat} {origin : State} (s : State) (frame : Only M origin s) (inMask : 0x100000000002 ||| M = M) : Only M origin (State.keepCadence s) := by
  refine Only.step frame (G := 0x100000000002) ?_ inMask
  unfold State.keepCadence
  repeat' first
    | with_reducible exact Only.refl _ _
    | with_reducible assumption
    | with_reducible apply Only.ite
    | with_reducible apply Only.foldl
    | with_reducible apply Only.fst_ite
    | with_reducible apply Only.snd_ite
    | with_reducible apply State.settleSlew_only
    | with_reducible apply State.settlePulses_only
    | with_reducible apply State.setReg_only
    | with_reducible apply State.setNat_only
    | decide
    | intro _ _
    | intro _
    | dsimp only
    | split

theorem State.takeLead_only {M : Nat} {origin : State} (s : State) (r : Nat) (frame : Only M origin s) (inMask : 0x500020000100000000042 ||| M = M) : Only M origin (State.takeLead s r) := by
  refine Only.step frame (G := 0x500020000100000000042) ?_ inMask
  unfold State.takeLead
  repeat' first
    | with_reducible exact Only.refl _ _
    | with_reducible assumption
    | with_reducible apply Only.ite
    | with_reducible apply Only.foldl
    | with_reducible apply Only.fst_ite
    | with_reducible apply Only.snd_ite
    | with_reducible apply State.keepCadence_only
    | with_reducible apply State.setRole_only
    | with_reducible apply State.inc32_only
    | with_reducible apply State.putBit_only
    | decide
    | intro _ _
    | intro _
    | dsimp only
    | split

theorem State.holdTable_only {M : Nat} {origin : State} (s : State) (frame : Only M origin s) (inMask : 0x500020000100000000042 ||| M = M) : Only M origin (State.holdTable s) := by
  refine Only.step frame (G := 0x500020000100000000042) ?_ inMask
  unfold State.holdTable
  repeat' first
    | with_reducible exact Only.refl _ _
    | with_reducible assumption
    | with_reducible apply Only.ite
    | with_reducible apply Only.foldl
    | with_reducible apply Only.fst_ite
    | with_reducible apply Only.snd_ite
    | with_reducible apply State.setRole_only
    | with_reducible apply State.takeLead_only
    | decide
    | intro _ _
    | intro _
    | dsimp only
    | split

theorem State.twinLinkDown_only {M : Nat} {origin : State} (s : State) (frame : Only M origin s) (inMask : 0x500020000100000000042 ||| M = M) : Only M origin (State.twinLinkDown s) := by
  refine Only.step frame (G := 0x500020000100000000042) ?_ inMask
  unfold State.twinLinkDown
  repeat' first
    | with_reducible exact Only.refl _ _
    | with_reducible assumption
    | with_reducible apply Only.ite
    | with_reducible apply Only.foldl
    | with_reducible apply Only.fst_ite
    | with_reducible apply Only.snd_ite
    | with_reducible apply State.addSat_only
    | with_reducible apply State.putBit_only
    | with_reducible apply State.setMirror_only
    | with_reducible apply State.holdTable_only
    | decide
    | intro _ _
    | intro _
    | dsimp only
    | split
    | with_reducible apply Only.upd_twin

theorem State.countMissed_only {M : Nat} {origin : State} (s : State) (k n : Nat) (frame : Only M origin s) (inMask : 0x20000000000000002 ||| M = M) : Only M origin (State.countMissed s k n) := by
  refine Only.step frame (G := 0x20000000000000002) ?_ inMask
  unfold State.countMissed
  repeat' first
    | with_reducible exact Only.refl _ _
    | with_reducible assumption
    | with_reducible apply Only.ite
    | with_reducible apply Only.foldl
    | with_reducible apply Only.fst_ite
    | with_reducible apply Only.snd_ite
    | with_reducible apply State.addSat_only
    | decide
    | intro _ _
    | intro _
    | dsimp only
    | split
    | with_reducible apply Only.upd_twin

theorem State.loseInFlight_only {M : Nat} {origin : State} (s : State) (k : Nat) (frame : Only M origin s) (inMask : 0x20000000000000002 ||| M = M) : Only M origin (State.loseInFlight s k) := by
  refine Only.step frame (G := 0x20000000000000002) ?_ inMask
  unfold State.loseInFlight
  repeat' first
    | with_reducible exact Only.refl _ _
    | with_reducible assumption
    | with_reducible apply Only.ite
    | with_reducible apply Only.foldl
    | with_reducible apply Only.fst_ite
    | with_reducible apply Only.snd_ite
    | with_reducible apply State.addSat_only
    | with_reducible apply State.startResync_only
    | decide
    | intro _ _
    | intro _
    | dsimp only
    | split
    | with_reducible apply Only.upd_twin

theorem State.twinLaneDown_only {M : Nat} {origin : State} (s : State) (k : Nat) (frame : Only M origin s) (inMask : 0x500160000100000000042 ||| M = M) : Only M origin (State.twinLaneDown s k) := by
  refine Only.step frame (G := 0x500160000100000000042) ?_ inMask
  unfold State.twinLaneDown
  repeat' first
    | with_reducible exact Only.refl _ _
    | with_reducible assumption
    | with_reducible apply Only.ite
    | with_reducible apply Only.foldl
    | with_reducible apply Only.fst_ite
    | with_reducible apply Only.snd_ite
    | with_reducible apply State.countMissed_only
    | with_reducible apply State.putBit_only
    | with_reducible apply State.loseInFlight_only
    | with_reducible apply State.raise_only
    | with_reducible apply State.twinLinkDown_only
    | decide
    | intro _ _
    | intro _
    | dsimp only
    | split
    | with_reducible apply Only.upd_twin

theorem State.putCricket_only {M : Nat} {origin : State} (s : State) (yields : Bool) (frame : Only M origin s) (inMask : 0x20000000000000000 ||| M = M) : Only M origin (State.putCricket s yields) := by
  refine Only.step frame (G := 0x20000000000000000) ?_ inMask
  unfold State.putCricket
  repeat' first
    | with_reducible exact Only.refl _ _
    | with_reducible assumption
    | with_reducible apply Only.ite
    | with_reducible apply Only.foldl
    | with_reducible apply Only.fst_ite
    | with_reducible apply Only.snd_ite
    | with_reducible apply State.nextKeacon_only
    | with_reducible (refine Only.of_snd (by assumption) ?_; apply State.nextKeacon_only)
    | decide
    | intro _ _
    | intro _
    | dsimp only
    | split
    | with_reducible apply Only.upd_twin

theorem State.yieldLead_only {M : Nat} {origin : State} (s : State) (frame : Only M origin s) (inMask : 0x500020000000000000042 ||| M = M) : Only M origin (State.yieldLead s) := by
  refine Only.step frame (G := 0x500020000000000000042) ?_ inMask
  unfold State.yieldLead
  repeat' first
    | with_reducible exact Only.refl _ _
    | with_reducible assumption
    | with_reducible apply Only.ite
    | with_reducible apply Only.foldl
    | with_reducible apply Only.fst_ite
    | with_reducible apply Only.snd_ite
    | with_reducible apply State.putCricket_only
    | with_reducible apply State.setRole_only
    | decide
    | intro _ _
    | intro _
    | dsimp only
    | split

end Sys2Proof.Machine
end

