-- ==== Sys2Proof/Laws/Frames/PortOps.lean ====
section
/-! SUPPORT. What each operation of Machine/PortOps.lean leaves as it was: the frame of every one. -/

set_option linter.unusedTactic false
set_option linter.unreachableTactic false

namespace Sys2Proof.Machine

open Host (Outcome)

theorem State.setStage_only {M : Nat} {origin : State} (s : State) (n st : Nat) (frame : Only M origin s) (inMask : 0x2 ||| M = M) : Only M origin (State.setStage s n st) := by
  refine Only.step frame (G := 0x2) ?_ inMask
  unfold State.setStage
  repeat' first
    | with_reducible exact Only.refl _ _
    | with_reducible assumption
    | with_reducible apply Only.ite
    | with_reducible apply Only.foldl
    | with_reducible apply Only.fst_ite
    | with_reducible apply Only.snd_ite
    | with_reducible apply State.setNat_only
    | decide
    | intro _ _
    | intro _
    | dsimp only
    | split

theorem State.dropAdapted_only {M : Nat} {origin : State} (s : State) (n : Nat) (frame : Only M origin s) (inMask : 0x2 ||| M = M) : Only M origin (State.dropAdapted s n) := by
  refine Only.step frame (G := 0x2) ?_ inMask
  unfold State.dropAdapted
  repeat' first
    | with_reducible exact Only.refl _ _
    | with_reducible assumption
    | with_reducible apply Only.ite
    | with_reducible apply Only.foldl
    | with_reducible apply Only.fst_ite
    | with_reducible apply Only.snd_ite
    | with_reducible apply State.putBit_only
    | decide
    | intro _ _
    | intro _
    | dsimp only
    | split

theorem State.loseConditions_only {M : Nat} {origin : State} (s : State) (n : Nat) (signal cdr block : Bool) (frame : Only M origin s) (inMask : 0x2 ||| M = M) : Only M origin (State.loseConditions s n signal cdr block) := by
  refine Only.step frame (G := 0x2) ?_ inMask
  unfold State.loseConditions
  repeat' first
    | with_reducible exact Only.refl _ _
    | with_reducible assumption
    | with_reducible apply Only.ite
    | with_reducible apply Only.foldl
    | with_reducible apply Only.fst_ite
    | with_reducible apply Only.snd_ite
    | with_reducible apply State.setNat_only
    | with_reducible apply State.inc32_only
    | decide
    | intro _ _
    | intro _
    | dsimp only
    | split

theorem State.clearLive_only {M : Nat} {origin : State} (s : State) (n : Nat) (frame : Only M origin s) (inMask : 0x2 ||| M = M) : Only M origin (State.clearLive s n) := by
  refine Only.step frame (G := 0x2) ?_ inMask
  unfold State.clearLive
  repeat' first
    | with_reducible exact Only.refl _ _
    | with_reducible assumption
    | with_reducible apply Only.ite
    | with_reducible apply Only.foldl
    | with_reducible apply Only.fst_ite
    | with_reducible apply Only.snd_ite
    | with_reducible apply State.setNat_only
    | decide
    | intro _ _
    | intro _
    | dsimp only
    | split

theorem State.fecStop_only {M : Nat} {origin : State} (s : State) (p : Nat) (frame : Only M origin s) (inMask : 0x102 ||| M = M) : Only M origin (State.fecStop s p) := by
  refine Only.step frame (G := 0x102) ?_ inMask
  unfold State.fecStop
  repeat' first
    | with_reducible exact Only.refl _ _
    | with_reducible assumption
    | with_reducible apply Only.ite
    | with_reducible apply Only.foldl
    | with_reducible apply Only.fst_ite
    | with_reducible apply Only.snd_ite
    | with_reducible apply State.setNat_only
    | with_reducible apply State.setPort_only
    | decide
    | intro _ _
    | intro _
    | dsimp only
    | split

theorem State.portDown_only {M : Nat} {origin : State} (s : State) (p st : Nat) (frame : Only M origin s) (inMask : 0x1001507f4040000003f42 ||| M = M) : Only M origin (State.portDown s p st) := by
  refine Only.step frame (G := 0x1001507f4040000003f42) ?_ inMask
  unfold State.portDown
  repeat' first
    | with_reducible exact Only.refl _ _
    | with_reducible assumption
    | with_reducible apply Only.ite
    | with_reducible apply Only.foldl
    | with_reducible apply Only.fst_ite
    | with_reducible apply Only.snd_ite
    | with_reducible apply State.holdBuffer_only
    | with_reducible apply State.setNat_only
    | with_reducible apply State.setPort_only
    | with_reducible apply State.inc64_only
    | with_reducible apply State.fecStop_only
    | with_reducible apply State.abortRx_only
    | with_reducible apply State.queuesDown_only
    | with_reducible apply State.timingOff_only
    | with_reducible apply State.abandonLane_only
    | with_reducible apply State.refsUpdate_only
    | with_reducible apply State.calibrateNext_only
    | decide
    | intro _ _
    | intro _
    | dsimp only
    | split

theorem State.portUpAs_only {M : Nat} {origin : State} (s : State) (p st : Nat) (frame : Only M origin s) (inMask : 0x1001407f4040000000342 ||| M = M) : Only M origin (State.portUpAs s p st) := by
  refine Only.step frame (G := 0x1001407f4040000000342) ?_ inMask
  unfold State.portUpAs
  repeat' first
    | with_reducible exact Only.refl _ _
    | with_reducible assumption
    | with_reducible apply Only.ite
    | with_reducible apply Only.foldl
    | with_reducible apply Only.fst_ite
    | with_reducible apply Only.snd_ite
    | with_reducible apply State.setNat_only
    | with_reducible apply State.setPort_only
    | with_reducible apply State.timingOn_only
    | with_reducible apply State.timingOff_only
    | with_reducible apply State.refsUpdate_only
    | with_reducible apply State.calibrateNext_only
    | decide
    | intro _ _
    | intro _
    | dsimp only
    | split

theorem State.portMode_only {M : Nat} {origin : State} (s : State) (p st : Nat) (frame : Only M origin s) (inMask : 0x1001407f0040000000242 ||| M = M) : Only M origin (State.portMode s p st) := by
  refine Only.step frame (G := 0x1001407f0040000000242) ?_ inMask
  unfold State.portMode
  repeat' first
    | with_reducible exact Only.refl _ _
    | with_reducible assumption
    | with_reducible apply Only.ite
    | with_reducible apply Only.foldl
    | with_reducible apply Only.fst_ite
    | with_reducible apply Only.snd_ite
    | with_reducible apply State.setNat_only
    | with_reducible apply State.timingOn_only
    | with_reducible apply State.timingOff_only
    | with_reducible apply State.refsUpdate_only
    | decide
    | intro _ _
    | intro _
    | dsimp only
    | split

theorem State.judgePort_only {M : Nat} {origin : State} (s : State) (p : Nat) (frame : Only M origin s) (inMask : 0x1001407f4040000000342 ||| M = M) : Only M origin (State.judgePort s p) := by
  refine Only.step frame (G := 0x1001407f4040000000342) ?_ inMask
  unfold State.judgePort
  repeat' first
    | with_reducible exact Only.refl _ _
    | with_reducible assumption
    | with_reducible apply Only.ite
    | with_reducible apply Only.foldl
    | with_reducible apply Only.fst_ite
    | with_reducible apply Only.snd_ite
    | with_reducible apply State.portMode_only
    | with_reducible apply State.setPort_only
    | with_reducible apply State.portUpAs_only
    | decide
    | intro _ _
    | intro _
    | dsimp only
    | split

theorem State.endAttempt_only {M : Nat} {origin : State} (s : State) (n : Nat) (frame : Only M origin s) (inMask : 0x80 ||| M = M) : Only M origin (State.endAttempt s n) := by
  refine Only.step frame (G := 0x80) ?_ inMask
  unfold State.endAttempt
  repeat' first
    | with_reducible exact Only.refl _ _
    | with_reducible assumption
    | with_reducible apply Only.ite
    | with_reducible apply Only.foldl
    | with_reducible apply Only.fst_ite
    | with_reducible apply Only.snd_ite
    | with_reducible apply State.setLane_only
    | decide
    | intro _ _
    | intro _
    | dsimp only
    | split

theorem State.resetRetry_only {M : Nat} {origin : State} (s : State) (n : Nat) (frame : Only M origin s) (inMask : 0x82 ||| M = M) : Only M origin (State.resetRetry s n) := by
  refine Only.step frame (G := 0x82) ?_ inMask
  unfold State.resetRetry
  repeat' first
    | with_reducible exact Only.refl _ _
    | with_reducible assumption
    | with_reducible apply Only.ite
    | with_reducible apply Only.foldl
    | with_reducible apply Only.fst_ite
    | with_reducible apply Only.snd_ite
    | with_reducible apply State.setNat_only
    | with_reducible apply State.setLane_only
    | decide
    | intro _ _
    | intro _
    | dsimp only
    | split

theorem State.dropSync_only {M : Nat} {origin : State} (s : State) (n : Nat) (frame : Only M origin s) (inMask : 0x82 ||| M = M) : Only M origin (State.dropSync s n) := by
  refine Only.step frame (G := 0x82) ?_ inMask
  unfold State.dropSync
  repeat' first
    | with_reducible exact Only.refl _ _
    | with_reducible assumption
    | with_reducible apply Only.ite
    | with_reducible apply Only.foldl
    | with_reducible apply Only.fst_ite
    | with_reducible apply Only.snd_ite
    | with_reducible apply State.addSat_only
    | with_reducible apply State.setLane_only
    | decide
    | intro _ _
    | intro _
    | dsimp only
    | split

theorem State.laneOff_only {M : Nat} {origin : State} (s : State) (n : Nat) (frame : Only M origin s) (inMask : 0x5001700041000000000c2 ||| M = M) : Only M origin (State.laneOff s n) := by
  refine Only.step frame (G := 0x5001700041000000000c2) ?_ inMask
  unfold State.laneOff
  repeat' first
    | with_reducible exact Only.refl _ _
    | with_reducible assumption
    | with_reducible apply Only.ite
    | with_reducible apply Only.foldl
    | with_reducible apply Only.fst_ite
    | with_reducible apply Only.snd_ite
    | with_reducible apply State.twinLaneDown_only
    | with_reducible apply State.abandonLane_only
    | with_reducible apply State.dropSync_only
    | with_reducible apply State.endAttempt_only
    | with_reducible apply State.clearLive_only
    | with_reducible apply State.setStage_only
    | decide
    | intro _ _
    | intro _
    | dsimp only
    | split

theorem State.laneStart_only {M : Nat} {origin : State} (s : State) (n : Nat) (frame : Only M origin s) (inMask : 0x82 ||| M = M) : Only M origin (State.laneStart s n) := by
  refine Only.step frame (G := 0x82) ?_ inMask
  unfold State.laneStart
  repeat' first
    | with_reducible exact Only.refl _ _
    | with_reducible assumption
    | with_reducible apply Only.ite
    | with_reducible apply Only.foldl
    | with_reducible apply Only.fst_ite
    | with_reducible apply Only.snd_ite
    | with_reducible apply State.setLane_only
    | with_reducible apply State.setStage_only
    | decide
    | intro _ _
    | intro _
    | dsimp only
    | split

theorem State.enterStage2_only {M : Nat} {origin : State} (s : State) (n : Nat) (frame : Only M origin s) (inMask : 0x10000000000000086 ||| M = M) : Only M origin (State.enterStage2 s n) := by
  refine Only.step frame (G := 0x10000000000000086) ?_ inMask
  unfold State.enterStage2
  repeat' first
    | with_reducible exact Only.refl _ _
    | with_reducible assumption
    | with_reducible apply Only.ite
    | with_reducible apply Only.foldl
    | with_reducible apply Only.fst_ite
    | with_reducible apply Only.snd_ite
    | with_reducible apply State.setStage_only
    | with_reducible apply State.setLane_only
    | with_reducible apply State.setNat_only
    | with_reducible apply State.setBlob_only
    | with_reducible apply State.setTrim_only
    | with_reducible apply State.putBit_only
    | decide
    | intro _ _
    | intro _
    | dsimp only
    | split

theorem State.markBond_only {M : Nat} {origin : State} (s : State) (n : Nat) (frame : Only M origin s) (inMask : 0x180 ||| M = M) : Only M origin (State.markBond s n) := by
  refine Only.step frame (G := 0x180) ?_ inMask
  unfold State.markBond
  repeat' first
    | with_reducible exact Only.refl _ _
    | with_reducible assumption
    | with_reducible apply Only.ite
    | with_reducible apply Only.foldl
    | with_reducible apply Only.fst_ite
    | with_reducible apply Only.snd_ite
    | with_reducible apply State.setPort_only
    | with_reducible apply State.setLane_only
    | decide
    | intro _ _
    | intro _
    | dsimp only
    | split

theorem State.lanePortLost_only {M : Nat} {origin : State} (s : State) (n : Nat) (frame : Only M origin s) (inMask : 0x5001707f4140000003fc2 ||| M = M) : Only M origin (State.lanePortLost s n) := by
  refine Only.step frame (G := 0x5001707f4140000003fc2) ?_ inMask
  unfold State.lanePortLost
  repeat' first
    | with_reducible exact Only.refl _ _
    | with_reducible assumption
    | with_reducible apply Only.ite
    | with_reducible apply Only.foldl
    | with_reducible apply Only.fst_ite
    | with_reducible apply Only.snd_ite
    | with_reducible apply State.twinLaneDown_only
    | with_reducible apply State.markBond_only
    | with_reducible apply State.portDown_only
    | with_reducible apply State.raise_only
    | with_reducible apply State.setPort_only
    | decide
    | intro _ _
    | intro _
    | dsimp only
    | split

theorem State.lanePortDown_only {M : Nat} {origin : State} (s : State) (n : Nat) (frame : Only M origin s) (inMask : 0x5001707f4140000003f42 ||| M = M) : Only M origin (State.lanePortDown s n) := by
  refine Only.step frame (G := 0x5001707f4140000003f42) ?_ inMask
  unfold State.lanePortDown
  repeat' first
    | with_reducible exact Only.refl _ _
    | with_reducible assumption
    | with_reducible apply Only.ite
    | with_reducible apply Only.foldl
    | with_reducible apply Only.fst_ite
    | with_reducible apply Only.snd_ite
    | with_reducible apply State.twinLaneDown_only
    | with_reducible apply State.portDown_only
    | decide
    | intro _ _
    | intro _
    | dsimp only
    | split

theorem State.laneRestart_only {M : Nat} {origin : State} (s : State) (n : Nat) (frame : Only M origin s) (inMask : 0x5001707f4140000003fc2 ||| M = M) : Only M origin (State.laneRestart s n) := by
  refine Only.step frame (G := 0x5001707f4140000003fc2) ?_ inMask
  unfold State.laneRestart
  repeat' first
    | with_reducible exact Only.refl _ _
    | with_reducible assumption
    | with_reducible apply Only.ite
    | with_reducible apply Only.foldl
    | with_reducible apply Only.fst_ite
    | with_reducible apply Only.snd_ite
    | with_reducible apply State.lanePortDown_only
    | with_reducible apply State.laneOff_only
    | with_reducible apply State.resetRetry_only
    | with_reducible apply State.laneStart_only
    | decide
    | intro _ _
    | intro _
    | dsimp only
    | split

end Sys2Proof.Machine
end

