-- ==== Sys2Proof/Laws/Frames/Lanes.lean ====
section
/-! SUPPORT. What each operation of Machine/Lanes.lean leaves as it was: the frame of every one. -/

set_option linter.unusedTactic false
set_option linter.unreachableTactic false

namespace Sys2Proof.Machine

open Host (Outcome)

theorem State.scheduleRetry_only {M : Nat} {origin : State} (s : State) (n : Nat) (frame : Only M origin s) (inMask : 0x82 ||| M = M) : Only M origin (State.scheduleRetry s n) := by
  refine Only.step frame (G := 0x82) ?_ inMask
  unfold State.scheduleRetry
  repeat' first
    | with_reducible exact Only.refl _ _
    | with_reducible assumption
    | with_reducible apply Only.ite
    | with_reducible apply Only.foldl
    | with_reducible apply Only.fst_ite
    | with_reducible apply Only.snd_ite
    | with_reducible apply State.setNat_only
    | with_reducible apply State.setLane_only
    | decide
    | intro _ _
    | intro _
    | dsimp only
    | split

theorem State.laneUp_only {M : Nat} {origin : State} (s : State) (n st : Nat) (frame : Only M origin s) (inMask : 0x1001607f40400000003c2 ||| M = M) : Only M origin (State.laneUp s n st) := by
  refine Only.step frame (G := 0x1001607f40400000003c2) ?_ inMask
  unfold State.laneUp
  repeat' first
    | with_reducible exact Only.refl _ _
    | with_reducible assumption
    | with_reducible apply Only.ite
    | with_reducible apply Only.foldl
    | with_reducible apply Only.fst_ite
    | with_reducible apply Only.snd_ite
    | with_reducible apply State.setLane_only
    | with_reducible apply State.setStage_only
    | with_reducible apply State.assignSpare_only
    | with_reducible apply State.resetRetry_only
    | with_reducible apply State.scheduleRetry_only
    | with_reducible apply State.judgePort_only
    | decide
    | intro _ _
    | intro _
    | dsimp only
    | split
    | with_reducible apply Only.upd_twin

theorem State.leaveSyntony_only {M : Nat} {origin : State} (s : State) (n : Nat) (frame : Only M origin s) (inMask : 0x1001407f00400000002c2 ||| M = M) : Only M origin (State.leaveSyntony s n) := by
  refine Only.step frame (G := 0x1001407f00400000002c2) ?_ inMask
  unfold State.leaveSyntony
  repeat' first
    | with_reducible exact Only.refl _ _
    | with_reducible assumption
    | with_reducible apply Only.ite
    | with_reducible apply Only.foldl
    | with_reducible apply Only.fst_ite
    | with_reducible apply Only.snd_ite
    | with_reducible apply State.setLane_only
    | with_reducible apply State.refsUpdate_only
    | decide
    | intro _ _
    | intro _
    | dsimp only
    | split

theorem State.loseSyntony_only {M : Nat} {origin : State} (s : State) (n : Nat) (frame : Only M origin s) (inMask : 0x1001407f00400000002c2 ||| M = M) : Only M origin (State.loseSyntony s n) := by
  refine Only.step frame (G := 0x1001407f00400000002c2) ?_ inMask
  unfold State.loseSyntony
  repeat' first
    | with_reducible exact Only.refl _ _
    | with_reducible assumption
    | with_reducible apply Only.ite
    | with_reducible apply Only.foldl
    | with_reducible apply Only.fst_ite
    | with_reducible apply Only.snd_ite
    | with_reducible apply State.putBit_only
    | with_reducible apply State.leaveSyntony_only
    | decide
    | intro _ _
    | intro _
    | dsimp only
    | split

theorem State.retry_only {M : Nat} {origin : State} (s : State) (n : Nat) (frame : Only M origin s) (inMask : 0x82 ||| M = M) : Only M origin (State.retry s n) := by
  refine Only.step frame (G := 0x82) ?_ inMask
  unfold State.retry
  repeat' first
    | with_reducible exact Only.refl _ _
    | with_reducible assumption
    | with_reducible apply Only.ite
    | with_reducible apply Only.foldl
    | with_reducible apply Only.fst_ite
    | with_reducible apply Only.snd_ite
    | with_reducible apply State.setLane_only
    | with_reducible apply State.setStage_only
    | decide
    | intro _ _
    | intro _
    | dsimp only
    | split

theorem State.rateMatchOnly_only {M : Nat} {origin : State} (s : State) (n : Nat) (frame : Only M origin s) (inMask : 0x1001607f40400000003c2 ||| M = M) : Only M origin (State.rateMatchOnly s n) := by
  refine Only.step frame (G := 0x1001607f40400000003c2) ?_ inMask
  unfold State.rateMatchOnly
  repeat' first
    | with_reducible exact Only.refl _ _
    | with_reducible assumption
    | with_reducible apply Only.ite
    | with_reducible apply Only.foldl
    | with_reducible apply Only.fst_ite
    | with_reducible apply Only.snd_ite
    | with_reducible apply State.leaveSyntony_only
    | with_reducible apply State.laneUp_only
    | with_reducible apply State.setLane_only
    | decide
    | intro _ _
    | intro _
    | dsimp only
    | split

theorem State.signalLost_only {M : Nat} {origin : State} (s : State) (n : Nat) (frame : Only M origin s) (inMask : 0x5001707f4140000003fc2 ||| M = M) : Only M origin (State.signalLost s n) := by
  refine Only.step frame (G := 0x5001707f4140000003fc2) ?_ inMask
  unfold State.signalLost
  repeat' first
    | with_reducible exact Only.refl _ _
    | with_reducible assumption
    | with_reducible apply Only.ite
    | with_reducible apply Only.foldl
    | with_reducible apply Only.fst_ite
    | with_reducible apply Only.snd_ite
    | with_reducible apply State.loseConditions_only
    | with_reducible apply State.setLane_only
    | with_reducible apply State.dropSync_only
    | with_reducible apply State.dropAdapted_only
    | with_reducible apply State.lanePortLost_only
    | with_reducible apply State.setStage_only
    | decide
    | intro _ _
    | intro _
    | dsimp only
    | split

theorem State.lockLost_only {M : Nat} {origin : State} (s : State) (n : Nat) (kind : LockKind) (frame : Only M origin s) (inMask : 0x5001707f4140000003fc6 ||| M = M) : Only M origin (State.lockLost s n kind) := by
  refine Only.step frame (G := 0x5001707f4140000003fc6) ?_ inMask
  unfold State.lockLost
  repeat' first
    | with_reducible exact Only.refl _ _
    | with_reducible assumption
    | with_reducible apply Only.ite
    | with_reducible apply Only.foldl
    | with_reducible apply Only.fst_ite
    | with_reducible apply Only.snd_ite
    | with_reducible apply State.loseConditions_only
    | with_reducible apply State.dropSync_only
    | with_reducible apply State.dropAdapted_only
    | with_reducible apply State.lanePortLost_only
    | with_reducible apply State.setLane_only
    | with_reducible apply State.enterStage2_only
    | decide
    | intro _ _
    | intro _
    | dsimp only
    | split

theorem execSignalDetected_only {M : Nat} {origin : State} (l : LaneId) (s : State) (frame : Only M origin s) (inMask : 0x10000000000000086 ||| M = M) : Ends M origin (execSignalDetected l s) := by
  refine Ends.step frame (G := 0x10000000000000086) ?_ inMask
  unfold execSignalDetected
  repeat' first
    | with_reducible exact Only.refl _ _
    | with_reducible assumption
    | with_reducible apply Only.ite
    | with_reducible apply Only.foldl
    | with_reducible apply Only.fst_ite
    | with_reducible apply Only.snd_ite
    | with_reducible apply State.putBit_only
    | with_reducible apply State.setLane_only
    | with_reducible apply State.resetRetry_only
    | with_reducible apply State.setStage_only
    | with_reducible apply State.enterStage2_only
    | with_reducible apply Ends.next
    | with_reducible apply Ends.ite
    | decide
    | intro _ _
    | intro _
    | dsimp only
    | split

theorem execCdrLock_only {M : Nat} {origin : State} (l : LaneId) (s : State) (frame : Only M origin s) (inMask : 0x2 ||| M = M) : Ends M origin (execCdrLock l s) := by
  refine Ends.step frame (G := 0x2) ?_ inMask
  unfold execCdrLock
  repeat' first
    | with_reducible exact Only.refl _ _
    | with_reducible assumption
    | with_reducible apply Only.ite
    | with_reducible apply Only.foldl
    | with_reducible apply Only.fst_ite
    | with_reducible apply Only.snd_ite
    | with_reducible apply State.putBit_only
    | with_reducible apply State.setStage_only
    | with_reducible apply Ends.next
    | with_reducible apply Ends.ite
    | decide
    | intro _ _
    | intro _
    | dsimp only
    | split

theorem execPolarityTryExpiry_only {M : Nat} {origin : State} (l : LaneId) (s : State) (frame : Only M origin s) (inMask : 0x80 ||| M = M) : Ends M origin (execPolarityTryExpiry l s) := by
  refine Ends.step frame (G := 0x80) ?_ inMask
  unfold execPolarityTryExpiry
  repeat' first
    | with_reducible exact Only.refl _ _
    | with_reducible assumption
    | with_reducible apply Only.ite
    | with_reducible apply Only.foldl
    | with_reducible apply Only.fst_ite
    | with_reducible apply Only.snd_ite
    | with_reducible apply State.setLane_only
    | with_reducible apply Ends.next
    | with_reducible apply Ends.ite
    | decide
    | intro _ _
    | intro _
    | dsimp only
    | split

theorem State.startAdapt_only {M : Nat} {origin : State} (s : State) (n : Nat) (frame : Only M origin s) (inMask : 0x82 ||| M = M) : Only M origin (State.startAdapt s n) := by
  refine Only.step frame (G := 0x82) ?_ inMask
  unfold State.startAdapt
  repeat' first
    | with_reducible exact Only.refl _ _
    | with_reducible assumption
    | with_reducible apply Only.ite
    | with_reducible apply Only.foldl
    | with_reducible apply Only.fst_ite
    | with_reducible apply Only.snd_ite
    | with_reducible apply State.setNat_only
    | with_reducible apply State.setLane_only
    | decide
    | intro _ _
    | intro _
    | dsimp only
    | split

theorem execBlockLock_only {M : Nat} {origin : State} (l : LaneId) (order : Fin 4) (deskewPs : Nat) (s : State) (frame : Only M origin s) (inMask : 0x182 ||| M = M) : Ends M origin (execBlockLock l order deskewPs s) := by
  refine Ends.step frame (G := 0x182) ?_ inMask
  unfold execBlockLock
  repeat' first
    | with_reducible exact Only.refl _ _
    | with_reducible assumption
    | with_reducible apply Only.ite
    | with_reducible apply Only.foldl
    | with_reducible apply Only.fst_ite
    | with_reducible apply Only.snd_ite
    | with_reducible apply State.setLane_only
    | with_reducible apply State.setNat_only
    | with_reducible apply State.setPort_only
    | with_reducible apply State.putBit_only
    | with_reducible apply State.setStage_only
    | with_reducible apply State.startAdapt_only
    | with_reducible apply Ends.next
    | with_reducible apply Ends.ite
    | decide
    | intro _ _
    | intro _
    | dsimp only
    | split

theorem execAdaptComplete_only {M : Nat} {origin : State} (l : LaneId) (fom : BitVec 8) (rec : AdaptRecord) (s : State) (frame : Only M origin s) (inMask : 0x1001607f40400000003c6 ||| M = M) : Ends M origin (execAdaptComplete l fom rec s) := by
  refine Ends.step frame (G := 0x1001607f40400000003c6) ?_ inMask
  unfold execAdaptComplete
  repeat' first
    | with_reducible exact Only.refl _ _
    | with_reducible assumption
    | with_reducible apply Only.ite
    | with_reducible apply Only.foldl
    | with_reducible apply Only.fst_ite
    | with_reducible apply Only.snd_ite
    | with_reducible apply State.setNat_only
    | with_reducible apply State.setBlob_only
    | with_reducible apply State.setLane_only
    | with_reducible apply State.putBit_only
    | with_reducible apply State.laneUp_only
    | with_reducible apply State.setStage_only
    | with_reducible apply Ends.next
    | with_reducible apply Ends.ite
    | decide
    | intro _ _
    | intro _
    | dsimp only
    | split

theorem execSyntonyIntervalEnd_only {M : Nat} {origin : State} (l : LaneId) (offsetPpt : Int) (fill : Fin 33) (s : State) (frame : Only M origin s) (inMask : 0x1001607f40400000003c2 ||| M = M) : Ends M origin (execSyntonyIntervalEnd l offsetPpt fill s) := by
  refine Ends.step frame (G := 0x1001607f40400000003c2) ?_ inMask
  unfold execSyntonyIntervalEnd
  repeat' first
    | with_reducible exact Only.refl _ _
    | with_reducible assumption
    | with_reducible apply Only.ite
    | with_reducible apply Only.foldl
    | with_reducible apply Only.fst_ite
    | with_reducible apply Only.snd_ite
    | with_reducible apply State.discardInterval_only
    | with_reducible apply State.setLane_only
    | with_reducible apply State.setReg_only
    | with_reducible apply State.rateMatchOnly_only
    | with_reducible apply State.laneUp_only
    | with_reducible apply State.loseSyntony_only
    | with_reducible apply State.scheduleRetry_only
    | with_reducible apply Ends.next
    | with_reducible apply Ends.ite
    | decide
    | intro _ _
    | intro _
    | dsimp only
    | split

theorem execElasticFillLimit_only {M : Nat} {origin : State} (l : LaneId) (s : State) (frame : Only M origin s) (inMask : 0x1001407f00400000002c2 ||| M = M) : Ends M origin (execElasticFillLimit l s) := by
  refine Ends.step frame (G := 0x1001407f00400000002c2) ?_ inMask
  unfold execElasticFillLimit
  repeat' first
    | with_reducible exact Only.refl _ _
    | with_reducible assumption
    | with_reducible apply Only.ite
    | with_reducible apply Only.foldl
    | with_reducible apply Only.fst_ite
    | with_reducible apply Only.snd_ite
    | with_reducible apply State.loseSyntony_only
    | with_reducible apply Ends.next
    | with_reducible apply Ends.ite
    | decide
    | intro _ _
    | intro _
    | dsimp only
    | split

theorem execRateMatchSwitch_only {M : Nat} {origin : State} (l : LaneId) (s : State) (frame : Only M origin s) (inMask : 0x1001607f40400000003c2 ||| M = M) : Ends M origin (execRateMatchSwitch l s) := by
  refine Ends.step frame (G := 0x1001607f40400000003c2) ?_ inMask
  unfold execRateMatchSwitch
  repeat' first
    | with_reducible exact Only.refl _ _
    | with_reducible assumption
    | with_reducible apply Only.ite
    | with_reducible apply Only.foldl
    | with_reducible apply Only.fst_ite
    | with_reducible apply Only.snd_ite
    | with_reducible apply State.laneUp_only
    | with_reducible apply Ends.next
    | with_reducible apply Ends.ite
    | decide
    | intro _ _
    | intro _
    | dsimp only
    | split

theorem execSyntonisedSwitch_only {M : Nat} {origin : State} (l : LaneId) (s : State) (frame : Only M origin s) (inMask : 0x1001607f40400000003c2 ||| M = M) : Ends M origin (execSyntonisedSwitch l s) := by
  refine Ends.step frame (G := 0x1001607f40400000003c2) ?_ inMask
  unfold execSyntonisedSwitch
  repeat' first
    | with_reducible exact Only.refl _ _
    | with_reducible assumption
    | with_reducible apply Only.ite
    | with_reducible apply Only.foldl
    | with_reducible apply Only.fst_ite
    | with_reducible apply Only.snd_ite
    | with_reducible apply State.setLane_only
    | with_reducible apply State.laneUp_only
    | with_reducible apply Ends.next
    | with_reducible apply Ends.ite
    | decide
    | intro _ _
    | intro _
    | dsimp only
    | split

theorem execTrainingTimeout_only {M : Nat} {origin : State} (l : LaneId) (s : State) (frame : Only M origin s) (inMask : 0x1001607f40400000003c2 ||| M = M) : Ends M origin (execTrainingTimeout l s) := by
  refine Ends.step frame (G := 0x1001607f40400000003c2) ?_ inMask
  unfold execTrainingTimeout
  repeat' first
    | with_reducible exact Only.refl _ _
    | with_reducible assumption
    | with_reducible apply Only.ite
    | with_reducible apply Only.foldl
    | with_reducible apply Only.fst_ite
    | with_reducible apply Only.snd_ite
    | with_reducible apply State.putBit_only
    | with_reducible apply State.laneUp_only
    | with_reducible apply State.setLane_only
    | with_reducible apply State.setStage_only
    | with_reducible apply State.scheduleRetry_only
    | with_reducible apply Ends.next
    | with_reducible apply Ends.ite
    | decide
    | intro _ _
    | intro _
    | dsimp only
    | split

theorem execBackoffExpiry_only {M : Nat} {origin : State} (l : LaneId) (s : State) (frame : Only M origin s) (inMask : 0x82 ||| M = M) : Ends M origin (execBackoffExpiry l s) := by
  refine Ends.step frame (G := 0x82) ?_ inMask
  unfold execBackoffExpiry
  repeat' first
    | with_reducible exact Only.refl _ _
    | with_reducible assumption
    | with_reducible apply Only.ite
    | with_reducible apply Only.foldl
    | with_reducible apply Only.fst_ite
    | with_reducible apply Only.snd_ite
    | with_reducible apply State.retry_only
    | with_reducible apply Ends.next
    | with_reducible apply Ends.ite
    | decide
    | intro _ _
    | intro _
    | dsimp only
    | split

theorem execRetryNow_only {M : Nat} {origin : State} (role : Role) (l : LaneId) (s : State) (frame : Only M origin s) (inMask : 0x9a ||| M = M) : Ends M origin (execRetryNow role l s) := by
  refine Ends.step frame (G := 0x9a) ?_ inMask
  unfold execRetryNow
  repeat' first
    | with_reducible exact Only.refl _ _
    | with_reducible assumption
    | with_reducible apply Only.ite
    | with_reducible apply Only.foldl
    | with_reducible apply Only.fst_ite
    | with_reducible apply Only.snd_ite
    | with_reducible apply State.hostWrite_only
    | with_reducible apply State.resetRetry_only
    | with_reducible apply State.retry_only
    | with_reducible apply State.done_only
    | with_reducible apply Ends.next
    | with_reducible apply Ends.ite
    | decide
    | intro _ _
    | intro _
    | dsimp only
    | split

theorem execSignalLoss_only {M : Nat} {origin : State} (l : LaneId) (s : State) (frame : Only M origin s) (inMask : 0x5001707f4140000003fc2 ||| M = M) : Ends M origin (execSignalLoss l s) := by
  refine Ends.step frame (G := 0x5001707f4140000003fc2) ?_ inMask
  unfold execSignalLoss
  repeat' first
    | with_reducible exact Only.refl _ _
    | with_reducible assumption
    | with_reducible apply Only.ite
    | with_reducible apply Only.foldl
    | with_reducible apply Only.fst_ite
    | with_reducible apply Only.snd_ite
    | with_reducible apply State.signalLost_only
    | with_reducible apply Ends.next
    | with_reducible apply Ends.ite
    | decide
    | intro _ _
    | intro _
    | dsimp only
    | split

theorem execLaneLockLoss_only {M : Nat} {origin : State} (l : LaneId) (kind : LockKind) (s : State) (frame : Only M origin s) (inMask : 0x5001707f4140000003fc6 ||| M = M) : Ends M origin (execLaneLockLoss l kind s) := by
  refine Ends.step frame (G := 0x5001707f4140000003fc6) ?_ inMask
  unfold execLaneLockLoss
  repeat' first
    | with_reducible exact Only.refl _ _
    | with_reducible assumption
    | with_reducible apply Only.ite
    | with_reducible apply Only.foldl
    | with_reducible apply Only.fst_ite
    | with_reducible apply Only.snd_ite
    | with_reducible apply State.lockLost_only
    | with_reducible apply Ends.next
    | with_reducible apply Ends.ite
    | decide
    | intro _ _
    | intro _
    | dsimp only
    | split

theorem execReDeskewComplete_only {M : Nat} {origin : State} (p : PortId) (deskewPs : Nat) (s : State) (frame : Only M origin s) (inMask : 0x1001407f4040000000342 ||| M = M) : Ends M origin (execReDeskewComplete p deskewPs s) := by
  refine Ends.step frame (G := 0x1001407f4040000000342) ?_ inMask
  unfold execReDeskewComplete
  repeat' first
    | with_reducible exact Only.refl _ _
    | with_reducible assumption
    | with_reducible apply Only.ite
    | with_reducible apply Only.foldl
    | with_reducible apply Only.fst_ite
    | with_reducible apply Only.snd_ite
    | with_reducible apply State.setPort_only
    | with_reducible apply State.portUpAs_only
    | with_reducible apply Ends.next
    | with_reducible apply Ends.ite
    | decide
    | intro _ _
    | intro _
    | dsimp only
    | split

theorem State.pllLane_only {M : Nat} {origin : State} (s : State) (n : Nat) (frame : Only M origin s) (inMask : 0x82 ||| M = M) : Only M origin (State.pllLane s n) := by
  refine Only.step frame (G := 0x82) ?_ inMask
  unfold State.pllLane
  repeat' first
    | with_reducible exact Only.refl _ _
    | with_reducible assumption
    | with_reducible apply Only.ite
    | with_reducible apply Only.foldl
    | with_reducible apply Only.fst_ite
    | with_reducible apply Only.snd_ite
    | with_reducible apply State.loseConditions_only
    | with_reducible apply State.dropAdapted_only
    | with_reducible apply State.dropSync_only
    | with_reducible apply State.endAttempt_only
    | with_reducible apply State.setLane_only
    | with_reducible apply State.setStage_only
    | decide
    | intro _ _
    | intro _
    | dsimp only
    | split

theorem execLanePllLockLoss_only {M : Nat} {origin : State} (c : ClusterId) (s : State) (frame : Only M origin s) (inMask : 0x1001507f404000000bfc2 ||| M = M) : Ends M origin (execLanePllLockLoss c s) := by
  refine Ends.step frame (G := 0x1001507f404000000bfc2) ?_ inMask
  unfold execLanePllLockLoss
  repeat' first
    | with_reducible exact Only.refl _ _
    | with_reducible assumption
    | with_reducible apply Only.ite
    | with_reducible apply Only.foldl
    | with_reducible apply Only.fst_ite
    | with_reducible apply Only.snd_ite
    | with_reducible apply State.raise_only
    | with_reducible apply State.portDown_only
    | with_reducible apply State.pllLane_only
    | with_reducible apply Ends.next
    | with_reducible apply Ends.ite
    | decide
    | intro _ _
    | intro _
    | dsimp only
    | split
    | with_reducible apply Only.upd_pllLost

theorem execLanePllRelock_only {M : Nat} {origin : State} (c : ClusterId) (signals : BitVec 4) (s : State) (frame : Only M origin s) (inMask : 0x10000000000008086 ||| M = M) : Ends M origin (execLanePllRelock c signals s) := by
  refine Ends.step frame (G := 0x10000000000008086) ?_ inMask
  unfold execLanePllRelock
  repeat' first
    | with_reducible exact Only.refl _ _
    | with_reducible assumption
    | with_reducible apply Only.ite
    | with_reducible apply Only.foldl
    | with_reducible apply Only.fst_ite
    | with_reducible apply Only.snd_ite
    | with_reducible apply State.setLane_only
    | with_reducible apply State.putBit_only
    | with_reducible apply State.enterStage2_only
    | with_reducible apply Ends.next
    | with_reducible apply Ends.ite
    | decide
    | intro _ _
    | intro _
    | dsimp only
    | split
    | with_reducible apply Only.upd_pllLost

theorem State.reAdapt_only {M : Nat} {origin : State} (s : State) (n : Nat) (frame : Only M origin s) (inMask : 0x5001707f4140000003fc2 ||| M = M) : Only M origin (State.reAdapt s n) := by
  refine Only.step frame (G := 0x5001707f4140000003fc2) ?_ inMask
  unfold State.reAdapt
  repeat' first
    | with_reducible exact Only.refl _ _
    | with_reducible assumption
    | with_reducible apply Only.ite
    | with_reducible apply Only.foldl
    | with_reducible apply Only.fst_ite
    | with_reducible apply Only.snd_ite
    | with_reducible apply State.lanePortDown_only
    | with_reducible apply State.dropAdapted_only
    | with_reducible apply State.makeStale_only
    | with_reducible apply State.startAdapt_only
    | with_reducible apply State.setLane_only
    | with_reducible apply State.setStage_only
    | decide
    | intro _ _
    | intro _
    | dsimp only
    | split

theorem execReAdapt_only {M : Nat} {origin : State} (role : Role) (l : LaneId) (s : State) (frame : Only M origin s) (inMask : 0x5001707f4140000003fda ||| M = M) : Ends M origin (execReAdapt role l s) := by
  refine Ends.step frame (G := 0x5001707f4140000003fda) ?_ inMask
  unfold execReAdapt
  repeat' first
    | with_reducible exact Only.refl _ _
    | with_reducible assumption
    | with_reducible apply Only.ite
    | with_reducible apply Only.foldl
    | with_reducible apply Only.fst_ite
    | with_reducible apply Only.snd_ite
    | with_reducible apply State.hostWrite_only
    | with_reducible apply State.reAdapt_only
    | with_reducible apply State.done_only
    | with_reducible apply Ends.next
    | with_reducible apply Ends.ite
    | decide
    | intro _ _
    | intro _
    | dsimp only
    | split

theorem State.adaptLive_only {M : Nat} {origin : State} (s : State) (n : Nat) (frame : Only M origin s) (inMask : 0x80 ||| M = M) : Only M origin (State.adaptLive s n) := by
  refine Only.step frame (G := 0x80) ?_ inMask
  unfold State.adaptLive
  repeat' first
    | with_reducible exact Only.refl _ _
    | with_reducible assumption
    | with_reducible apply Only.ite
    | with_reducible apply Only.foldl
    | with_reducible apply Only.fst_ite
    | with_reducible apply Only.snd_ite
    | with_reducible apply State.setLane_only
    | decide
    | intro _ _
    | intro _
    | dsimp only
    | split

theorem execFomMeasurement_only {M : Nat} {origin : State} (l : LaneId) (h a : Nat) (s : State) (frame : Only M origin s) (inMask : 0x82 ||| M = M) : Ends M origin (execFomMeasurement l h a s) := by
  refine Ends.step frame (G := 0x82) ?_ inMask
  unfold execFomMeasurement
  repeat' first
    | with_reducible exact Only.refl _ _
    | with_reducible assumption
    | with_reducible apply Only.ite
    | with_reducible apply Only.foldl
    | with_reducible apply Only.fst_ite
    | with_reducible apply Only.snd_ite
    | with_reducible apply State.setNat_only
    | with_reducible apply State.adaptLive_only
    | with_reducible apply State.putBit_only
    | with_reducible apply Ends.next
    | with_reducible apply Ends.ite
    | decide
    | intro _ _
    | intro _
    | dsimp only
    | split

theorem State.quietTransmit_only {M : Nat} {origin : State} (s : State) (n mode : Nat) (frame : Only M origin s) (inMask : 0x5001707f4140000003f42 ||| M = M) : Only M origin (State.quietTransmit s n mode) := by
  refine Only.step frame (G := 0x5001707f4140000003f42) ?_ inMask
  unfold State.quietTransmit
  repeat' first
    | with_reducible exact Only.refl _ _
    | with_reducible assumption
    | with_reducible apply Only.ite
    | with_reducible apply Only.foldl
    | with_reducible apply Only.fst_ite
    | with_reducible apply Only.snd_ite
    | with_reducible apply State.setNat_only
    | with_reducible apply State.lanePortDown_only
    | with_reducible apply State.judgePort_only
    | decide
    | intro _ _
    | intro _
    | dsimp only
    | split

theorem State.quietReceive_only {M : Nat} {origin : State} (s : State) (n : Nat) (on : Bool) (frame : Only M origin s) (inMask : 0x5001707f4140000003fc2 ||| M = M) : Only M origin (State.quietReceive s n on) := by
  refine Only.step frame (G := 0x5001707f4140000003fc2) ?_ inMask
  unfold State.quietReceive
  repeat' first
    | with_reducible exact Only.refl _ _
    | with_reducible assumption
    | with_reducible apply Only.ite
    | with_reducible apply Only.foldl
    | with_reducible apply Only.fst_ite
    | with_reducible apply Only.snd_ite
    | with_reducible apply State.dropSync_only
    | with_reducible apply State.setNat_only
    | with_reducible apply State.lanePortDown_only
    | with_reducible apply State.putBit_only
    | with_reducible apply State.endAttempt_only
    | with_reducible apply State.dropAdapted_only
    | with_reducible apply State.setStage_only
    | decide
    | intro _ _
    | intro _
    | dsimp only
    | split

theorem execQuietTransmit_only {M : Nat} {origin : State} (role : Role) (l : LaneId) (mode : Fin 3) (s : State) (frame : Only M origin s) (inMask : 0x5001707f4140000003f5a ||| M = M) : Ends M origin (execQuietTransmit role l mode s) := by
  refine Ends.step frame (G := 0x5001707f4140000003f5a) ?_ inMask
  unfold execQuietTransmit
  repeat' first
    | with_reducible exact Only.refl _ _
    | with_reducible assumption
    | with_reducible apply Only.ite
    | with_reducible apply Only.foldl
    | with_reducible apply Only.fst_ite
    | with_reducible apply Only.snd_ite
    | with_reducible apply State.hostWrite_only
    | with_reducible apply State.quietTransmit_only
    | with_reducible apply State.done_only
    | with_reducible apply Ends.next
    | with_reducible apply Ends.ite
    | decide
    | intro _ _
    | intro _
    | dsimp only
    | split

theorem execQuietReceive_only {M : Nat} {origin : State} (role : Role) (l : LaneId) (on : Bool) (s : State) (frame : Only M origin s) (inMask : 0x5001707f4140000003fda ||| M = M) : Ends M origin (execQuietReceive role l on s) := by
  refine Ends.step frame (G := 0x5001707f4140000003fda) ?_ inMask
  unfold execQuietReceive
  repeat' first
    | with_reducible exact Only.refl _ _
    | with_reducible assumption
    | with_reducible apply Only.ite
    | with_reducible apply Only.foldl
    | with_reducible apply Only.fst_ite
    | with_reducible apply Only.snd_ite
    | with_reducible apply State.hostWrite_only
    | with_reducible apply State.quietReceive_only
    | with_reducible apply State.done_only
    | with_reducible apply Ends.next
    | with_reducible apply Ends.ite
    | decide
    | intro _ _
    | intro _
    | dsimp only
    | split

theorem State.enterTest_only {M : Nat} {origin : State} (s : State) (n : Nat) (frame : Only M origin s) (inMask : 0x5001700041000000002c2 ||| M = M) : Only M origin (State.enterTest s n) := by
  refine Only.step frame (G := 0x5001700041000000002c2) ?_ inMask
  unfold State.enterTest
  repeat' first
    | with_reducible exact Only.refl _ _
    | with_reducible assumption
    | with_reducible apply Only.ite
    | with_reducible apply Only.foldl
    | with_reducible apply Only.fst_ite
    | with_reducible apply Only.snd_ite
    | with_reducible apply State.twinLaneDown_only
    | with_reducible apply State.abandonLane_only
    | with_reducible apply State.endAttempt_only
    | with_reducible apply State.dropAdapted_only
    | with_reducible apply State.makeStale_only
    | with_reducible apply State.setStage_only
    | decide
    | intro _ _
    | intro _
    | dsimp only
    | split

theorem State.writeTest_only {M : Nat} {origin : State} (s : State) (n code : Nat) (frame : Only M origin s) (inMask : 0x82 ||| M = M) : Only M origin (State.writeTest s n code) := by
  refine Only.step frame (G := 0x82) ?_ inMask
  unfold State.writeTest
  repeat' first
    | with_reducible exact Only.refl _ _
    | with_reducible assumption
    | with_reducible apply Only.ite
    | with_reducible apply Only.foldl
    | with_reducible apply Only.fst_ite
    | with_reducible apply Only.snd_ite
    | with_reducible apply State.setNat_only
    | with_reducible apply State.setLane_only
    | decide
    | intro _ _
    | intro _
    | dsimp only
    | split

theorem State.judgeTest_only {M : Nat} {origin : State} (s : State) (was : Bool) (n : Nat) (frame : Only M origin s) (inMask : 0x5001707f4140000003fc2 ||| M = M) : Only M origin (State.judgeTest s was n) := by
  refine Only.step frame (G := 0x5001707f4140000003fc2) ?_ inMask
  unfold State.judgeTest
  repeat' first
    | with_reducible exact Only.refl _ _
    | with_reducible assumption
    | with_reducible apply Only.ite
    | with_reducible apply Only.foldl
    | with_reducible apply Only.fst_ite
    | with_reducible apply Only.snd_ite
    | with_reducible apply State.portDown_only
    | with_reducible apply State.enterTest_only
    | with_reducible apply State.dropSync_only
    | with_reducible apply State.clearLive_only
    | with_reducible apply State.setStage_only
    | decide
    | intro _ _
    | intro _
    | dsimp only
    | split

theorem State.setTest_only {M : Nat} {origin : State} (s : State) (n code : Nat) (frame : Only M origin s) (inMask : 0x5001707f4140000003fc2 ||| M = M) : Only M origin (State.setTest s n code) := by
  refine Only.step frame (G := 0x5001707f4140000003fc2) ?_ inMask
  unfold State.setTest
  repeat' first
    | with_reducible exact Only.refl _ _
    | with_reducible assumption
    | with_reducible apply Only.ite
    | with_reducible apply Only.foldl
    | with_reducible apply Only.fst_ite
    | with_reducible apply Only.snd_ite
    | with_reducible apply State.writeTest_only
    | with_reducible apply State.judgeTest_only
    | decide
    | intro _ _
    | intro _
    | dsimp only
    | split

theorem State.setTests_only {M : Nat} {origin : State} (s : State) (l : List (Nat × Nat)) (frame : Only M origin s) (inMask : 0x5001707f4140000003fc2 ||| M = M) : Only M origin (State.setTests s l) := by
  refine Only.step frame (G := 0x5001707f4140000003fc2) ?_ inMask
  unfold State.setTests
  repeat' first
    | with_reducible exact Only.refl _ _
    | with_reducible assumption
    | with_reducible apply Only.ite
    | with_reducible apply Only.foldl
    | with_reducible apply Only.fst_ite
    | with_reducible apply Only.snd_ite
    | with_reducible apply State.writeTest_only
    | with_reducible apply State.judgeTest_only
    | decide
    | intro _ _
    | intro _
    | dsimp only
    | split

theorem execTestModeSet_only {M : Nat} {origin : State} (role : Role) (l : LaneId) (code : Fin 5) (s : State) (frame : Only M origin s) (inMask : 0x5001707f4140000003fda ||| M = M) : Ends M origin (execTestModeSet role l code s) := by
  refine Ends.step frame (G := 0x5001707f4140000003fda) ?_ inMask
  unfold execTestModeSet
  repeat' first
    | with_reducible exact Only.refl _ _
    | with_reducible assumption
    | with_reducible apply Only.ite
    | with_reducible apply Only.foldl
    | with_reducible apply Only.fst_ite
    | with_reducible apply Only.snd_ite
    | with_reducible apply State.hostWrite_only
    | with_reducible apply State.ruleRefused_only
    | with_reducible apply State.setTest_only
    | with_reducible apply State.done_only
    | with_reducible apply Ends.next
    | with_reducible apply Ends.ite
    | decide
    | intro _ _
    | intro _
    | dsimp only
    | split

theorem execTestModeClear_only {M : Nat} {origin : State} (role : Role) (l : LaneId) (s : State) (frame : Only M origin s) (inMask : 0x5001707f4140000003fda ||| M = M) : Ends M origin (execTestModeClear role l s) := by
  refine Ends.step frame (G := 0x5001707f4140000003fda) ?_ inMask
  unfold execTestModeClear
  repeat' first
    | with_reducible exact Only.refl _ _
    | with_reducible assumption
    | with_reducible apply Only.ite
    | with_reducible apply Only.foldl
    | with_reducible apply Only.fst_ite
    | with_reducible apply Only.snd_ite
    | with_reducible apply State.hostWrite_only
    | with_reducible apply State.setTest_only
    | with_reducible apply State.done_only
    | with_reducible apply Ends.next
    | with_reducible apply Ends.ite
    | decide
    | intro _ _
    | intro _
    | dsimp only
    | split

theorem execErrorInjectionOne_only {M : Nat} {origin : State} (role : Role) (l : LaneId) (s : State) (frame : Only M origin s) (inMask : 0x1a ||| M = M) : Ends M origin (execErrorInjectionOne role l s) := by
  refine Ends.step frame (G := 0x1a) ?_ inMask
  unfold execErrorInjectionOne
  repeat' first
    | with_reducible exact Only.refl _ _
    | with_reducible assumption
    | with_reducible apply Only.ite
    | with_reducible apply Only.foldl
    | with_reducible apply Only.fst_ite
    | with_reducible apply Only.snd_ite
    | with_reducible apply State.hostWrite_only
    | with_reducible apply State.setNat_only
    | with_reducible apply State.done_only
    | with_reducible apply Ends.next
    | with_reducible apply Ends.ite
    | decide
    | intro _ _
    | intro _
    | dsimp only
    | split

theorem execErrorInjectionRate_only {M : Nat} {origin : State} (role : Role) (l : LaneId) (exponent : Nat) (s : State) (frame : Only M origin s) (inMask : 0x1a ||| M = M) : Ends M origin (execErrorInjectionRate role l exponent s) := by
  refine Ends.step frame (G := 0x1a) ?_ inMask
  unfold execErrorInjectionRate
  repeat' first
    | with_reducible exact Only.refl _ _
    | with_reducible assumption
    | with_reducible apply Only.ite
    | with_reducible apply Only.foldl
    | with_reducible apply Only.fst_ite
    | with_reducible apply Only.snd_ite
    | with_reducible apply State.hostWrite_only
    | with_reducible apply State.outOfRange_only
    | with_reducible apply State.setNat_only
    | with_reducible apply State.done_only
    | with_reducible apply Ends.next
    | with_reducible apply Ends.ite
    | decide
    | intro _ _
    | intro _
    | dsimp only
    | split

theorem execInjectedError_only {M : Nat} {origin : State} (l : LaneId) (s : State) (frame : Only M origin s) (inMask : 0x2 ||| M = M) : Ends M origin (execInjectedError l s) := by
  refine Ends.step frame (G := 0x2) ?_ inMask
  unfold execInjectedError
  repeat' first
    | with_reducible exact Only.refl _ _
    | with_reducible assumption
    | with_reducible apply Only.ite
    | with_reducible apply Only.foldl
    | with_reducible apply Only.fst_ite
    | with_reducible apply Only.snd_ite
    | with_reducible apply State.setNat_only
    | with_reducible apply Ends.next
    | with_reducible apply Ends.ite
    | decide
    | intro _ _
    | intro _
    | dsimp only
    | split

theorem execCheckerSync_only {M : Nat} {origin : State} (l : LaneId) (bits : List Bool) (s : State) (frame : Only M origin s) (inMask : 0x80 ||| M = M) : Ends M origin (execCheckerSync l bits s) := by
  refine Ends.step frame (G := 0x80) ?_ inMask
  unfold execCheckerSync
  repeat' first
    | with_reducible exact Only.refl _ _
    | with_reducible assumption
    | with_reducible apply Only.ite
    | with_reducible apply Only.foldl
    | with_reducible apply Only.fst_ite
    | with_reducible apply Only.snd_ite
    | with_reducible apply State.setLane_only
    | with_reducible apply Ends.next
    | with_reducible apply Ends.ite
    | decide
    | intro _ _
    | intro _
    | dsimp only
    | split

theorem execCheckerSyncLoss_only {M : Nat} {origin : State} (l : LaneId) (bits errors : Nat) (s : State) (frame : Only M origin s) (inMask : 0x82 ||| M = M) : Ends M origin (execCheckerSyncLoss l bits errors s) := by
  refine Ends.step frame (G := 0x82) ?_ inMask
  unfold execCheckerSyncLoss
  repeat' first
    | with_reducible exact Only.refl _ _
    | with_reducible assumption
    | with_reducible apply Only.ite
    | with_reducible apply Only.foldl
    | with_reducible apply Only.fst_ite
    | with_reducible apply Only.snd_ite
    | with_reducible apply State.addSat_only
    | with_reducible apply State.setLane_only
    | with_reducible apply Ends.next
    | with_reducible apply Ends.ite
    | decide
    | intro _ _
    | intro _
    | dsimp only
    | split

end Sys2Proof.Machine
end

