-- ==== Sys2Proof/Laws/Frames/Modules.lean ====
section
/-! SUPPORT. What each operation of Machine/Modules.lean leaves as it was: the frame of every one. -/

set_option linter.unusedTactic false
set_option linter.unreachableTactic false

namespace Sys2Proof.Machine

open Host (Outcome)

theorem State.setLaneRates_only {M : Nat} {origin : State} (s : State) (c : Nat) (frame : Only M origin s) (inMask : 0x2 ||| M = M) : Only M origin (State.setLaneRates s c) := by
  refine Only.step frame (G := 0x2) ?_ inMask
  unfold State.setLaneRates
  repeat' first
    | with_reducible exact Only.refl _ _
    | with_reducible assumption
    | with_reducible apply Only.ite
    | with_reducible apply Only.foldl
    | with_reducible apply Only.fst_ite
    | with_reducible apply Only.snd_ite
    | with_reducible apply State.setNat_only
    | decide
    | intro _ _
    | intro _
    | dsimp only
    | split

theorem State.reconfigureDown_only {M : Nat} {origin : State} (s : State) (p : Nat) (frame : Only M origin s) (inMask : 0x1001507f4040000003f42 ||| M = M) : Only M origin (State.reconfigureDown s p) := by
  refine Only.step frame (G := 0x1001507f4040000003f42) ?_ inMask
  unfold State.reconfigureDown
  repeat' first
    | with_reducible exact Only.refl _ _
    | with_reducible assumption
    | with_reducible apply Only.ite
    | with_reducible apply Only.foldl
    | with_reducible apply Only.fst_ite
    | with_reducible apply Only.snd_ite
    | with_reducible apply State.portDown_only
    | with_reducible apply State.setPort_only
    | decide
    | intro _ _
    | intro _
    | dsimp only
    | split

theorem State.reconfigured_only {M : Nat} {origin : State} (s was : State) (ports : List Nat) (frame : Only M origin s) (inMask : 0x5001707f4140000003fc2 ||| M = M) : Only M origin (State.reconfigured s was ports) := by
  refine Only.step frame (G := 0x5001707f4140000003fc2) ?_ inMask
  unfold State.reconfigured
  repeat' first
    | with_reducible exact Only.refl _ _
    | with_reducible assumption
    | with_reducible apply Only.ite
    | with_reducible apply Only.foldl
    | with_reducible apply Only.fst_ite
    | with_reducible apply Only.snd_ite
    | with_reducible apply State.setLaneRates_only
    | with_reducible apply State.laneRestart_only
    | decide
    | intro _ _
    | intro _
    | dsimp only
    | split

theorem State.eachPosition_only {M : Nat} {origin : State} (s : State) (p : Nat) (f : State → Nat → State)
    (frame : Only M origin s) (h : ∀ a q, Only M a (f a q)) : Only M origin (State.eachPosition s p f) := by
  unfold State.eachPosition
  exact Only.foldl frame h


theorem State.judgeModule_only {M : Nat} {origin : State} (s : State) (p : Nat) (frame : Only M origin s) (inMask : 0x140000000000000102 ||| M = M) : Only M origin (State.judgeModule s p) := by
  refine Only.step frame (G := 0x140000000000000102) ?_ inMask
  unfold State.judgeModule
  repeat' first
    | with_reducible exact Only.refl _ _
    | with_reducible assumption
    | with_reducible apply Only.ite
    | with_reducible apply Only.foldl
    | with_reducible apply Only.fst_ite
    | with_reducible apply Only.snd_ite
    | with_reducible apply State.setNat_only
    | with_reducible apply State.setPort_only
    | with_reducible apply State.raise_only
    | decide
    | intro _ _
    | intro _
    | dsimp only
    | split

theorem State.rejudgeModule_only {M : Nat} {origin : State} (s : State) (p : Nat) (frame : Only M origin s) (inMask : 0x140000000000000102 ||| M = M) : Only M origin (State.rejudgeModule s p) := by
  refine Only.step frame (G := 0x140000000000000102) ?_ inMask
  unfold State.rejudgeModule
  repeat' first
    | with_reducible exact Only.refl _ _
    | with_reducible assumption
    | with_reducible apply Only.ite
    | with_reducible apply Only.foldl
    | with_reducible apply Only.fst_ite
    | with_reducible apply Only.snd_ite
    | with_reducible apply State.judgeModule_only
    | decide
    | intro _ _
    | intro _
    | dsimp only
    | split

theorem State.setBus_only {M : Nat} {origin : State} (s : State) (c : Nat) (l : List BusAccess) (frame : Only M origin s) (inMask : 0x20000 ||| M = M) : Only M origin (State.setBus s c l) := by
  refine Only.step frame (G := 0x20000) ?_ inMask
  unfold State.setBus
  repeat' first
    | with_reducible exact Only.refl _ _
    | with_reducible assumption
    | with_reducible apply Only.ite
    | with_reducible apply Only.foldl
    | with_reducible apply Only.fst_ite
    | with_reducible apply Only.snd_ite
    | decide
    | intro _ _
    | intro _
    | dsimp only
    | split
    | with_reducible apply Only.upd_busQueue

theorem State.startRead_only {M : Nat} {origin : State} (s : State) (p : Nat) (frame : Only M origin s) (inMask : 0x20002 ||| M = M) : Only M origin (State.startRead s p) := by
  refine Only.step frame (G := 0x20002) ?_ inMask
  unfold State.startRead
  repeat' first
    | with_reducible exact Only.refl _ _
    | with_reducible assumption
    | with_reducible apply Only.ite
    | with_reducible apply Only.foldl
    | with_reducible apply Only.fst_ite
    | with_reducible apply Only.snd_ite
    | with_reducible apply State.setBus_only
    | with_reducible apply State.eachPosition_only
    | with_reducible apply State.setNat_only
    | decide
    | intro _ _
    | intro _
    | dsimp only
    | split

theorem State.endRead_only {M : Nat} {origin : State} (s : State) (p : Nat) (frame : Only M origin s) (inMask : 0x20000 ||| M = M) : Only M origin (State.endRead s p) := by
  refine Only.step frame (G := 0x20000) ?_ inMask
  unfold State.endRead
  repeat' first
    | with_reducible exact Only.refl _ _
    | with_reducible assumption
    | with_reducible apply Only.ite
    | with_reducible apply Only.foldl
    | with_reducible apply Only.fst_ite
    | with_reducible apply Only.snd_ite
    | with_reducible apply State.setBus_only
    | decide
    | intro _ _
    | intro _
    | dsimp only
    | split

theorem State.servePolls_only {M : Nat} {origin : State} (s : State) (c : Nat) (frame : Only M origin s) (inMask : 0x100 ||| M = M) : Only M origin (State.servePolls s c) := by
  refine Only.step frame (G := 0x100) ?_ inMask
  unfold State.servePolls
  repeat' first
    | with_reducible exact Only.refl _ _
    | with_reducible assumption
    | with_reducible apply Only.ite
    | with_reducible apply Only.foldl
    | with_reducible apply Only.fst_ite
    | with_reducible apply Only.snd_ite
    | with_reducible apply State.setPort_only
    | decide
    | intro _ _
    | intro _
    | dsimp only
    | split

theorem State.keepRecord_only {M : Nat} {origin : State} (s : State) (p : Nat) (r : List Byte) (frame : Only M origin s) (inMask : 0x106 ||| M = M) : Only M origin (State.keepRecord s p r) := by
  refine Only.step frame (G := 0x106) ?_ inMask
  unfold State.keepRecord
  repeat' first
    | with_reducible exact Only.refl _ _
    | with_reducible assumption
    | with_reducible apply Only.ite
    | with_reducible apply Only.foldl
    | with_reducible apply Only.fst_ite
    | with_reducible apply Only.snd_ite
    | with_reducible apply State.setBlob_only
    | with_reducible apply State.setNat_only
    | with_reducible apply State.setPort_only
    | decide
    | intro _ _
    | intro _
    | dsimp only
    | split

theorem State.tearRecord_only {M : Nat} {origin : State} (s : State) (p : Nat) (frame : Only M origin s) (inMask : 0x104 ||| M = M) : Only M origin (State.tearRecord s p) := by
  refine Only.step frame (G := 0x104) ?_ inMask
  unfold State.tearRecord
  repeat' first
    | with_reducible exact Only.refl _ _
    | with_reducible assumption
    | with_reducible apply Only.ite
    | with_reducible apply Only.foldl
    | with_reducible apply Only.fst_ite
    | with_reducible apply Only.snd_ite
    | with_reducible apply State.eachPosition_only
    | with_reducible apply State.setBlob_only
    | with_reducible apply State.setPort_only
    | decide
    | intro _ _
    | intro _
    | dsimp only
    | split

theorem State.writeRecord_only {M : Nat} {origin : State} (s : State) (p : Nat) (bytes : List Byte) (outcome : RecordWriteEnd) (frame : Only M origin s) (inMask : 0x11e ||| M = M) : Only M origin (State.writeRecord s p bytes outcome) := by
  refine Only.step frame (G := 0x11e) ?_ inMask
  unfold State.writeRecord
  repeat' first
    | with_reducible exact Only.refl _ _
    | with_reducible assumption
    | with_reducible apply Only.ite
    | with_reducible apply Only.foldl
    | with_reducible apply Only.fst_ite
    | with_reducible apply Only.snd_ite
    | with_reducible apply State.ruleRefused_only
    | with_reducible apply State.eachPosition_only
    | with_reducible apply State.keepRecord_only
    | with_reducible apply State.done_only
    | with_reducible apply State.answer_only
    | with_reducible apply State.tearRecord_only
    | decide
    | intro _ _
    | intro _
    | dsimp only
    | split

theorem State.serveAccesses_only {M : Nat} {origin : State} (s : State) (c : Nat) (l : List BusAccess)
    (frame : Only M origin s) (inMask : 0x2011e ||| M = M) : Only M origin (State.serveAccesses s c l) := by
  refine Only.step frame (G := 0x2011e) ?_ inMask
  clear frame inMask
  induction l generalizing s with
  | nil =>
    unfold State.serveAccesses
    exact State.servePolls_only _ _ (State.setBus_only _ _ _ (Only.refl _ _) (by decide)) (by decide)
  | cons x r ih =>
    have ih' : ∀ {M : Nat} {origin s : State}, Only M origin s → 0x2011e ||| M = M →
        Only M origin (State.serveAccesses s c r) := fun a b => a.step (ih _) b
    cases x with
    | read n => exact State.setBus_only _ _ _ (Only.refl _ _) (by decide)
    | write p bytes outcome => exact ih' (State.writeRecord_only _ _ _ _ (Only.refl _ _) (by decide)) (by decide)


theorem State.serveBus_only {M : Nat} {origin : State} (s : State) (c : Nat) (frame : Only M origin s) (inMask : 0x2011e ||| M = M) : Only M origin (State.serveBus s c) := by
  refine Only.step frame (G := 0x2011e) ?_ inMask
  unfold State.serveBus
  repeat' first
    | with_reducible exact Only.refl _ _
    | with_reducible assumption
    | with_reducible apply Only.ite
    | with_reducible apply Only.foldl
    | with_reducible apply Only.fst_ite
    | with_reducible apply Only.snd_ite
    | with_reducible apply State.serveAccesses_only
    | decide
    | intro _ _
    | intro _
    | dsimp only
    | split

theorem execModuleInsert_only {M : Nat} {origin : State} (p : PortId) (s : State) (frame : Only M origin s) (inMask : 0x20102 ||| M = M) : Ends M origin (execModuleInsert p s) := by
  refine Ends.step frame (G := 0x20102) ?_ inMask
  unfold execModuleInsert
  repeat' first
    | with_reducible exact Only.refl _ _
    | with_reducible assumption
    | with_reducible apply Only.ite
    | with_reducible apply Only.foldl
    | with_reducible apply Only.fst_ite
    | with_reducible apply Only.snd_ite
    | with_reducible apply State.eachPosition_only
    | with_reducible apply State.setPort_only
    | with_reducible apply State.startRead_only
    | with_reducible apply Ends.next
    | with_reducible apply Ends.ite
    | decide
    | intro _ _
    | intro _
    | dsimp only
    | split

theorem execModuleRemove_only {M : Nat} {origin : State} (p : PortId) (s : State) (frame : Only M origin s) (inMask : 0x5001707f4140000023fde ||| M = M) : Ends M origin (execModuleRemove p s) := by
  refine Ends.step frame (G := 0x5001707f4140000023fde) ?_ inMask
  unfold execModuleRemove
  repeat' first
    | with_reducible exact Only.refl _ _
    | with_reducible assumption
    | with_reducible apply Only.ite
    | with_reducible apply Only.foldl
    | with_reducible apply Only.fst_ite
    | with_reducible apply Only.snd_ite
    | with_reducible apply State.eachPosition_only
    | with_reducible apply State.setPort_only
    | with_reducible apply State.setNat_only
    | with_reducible apply State.signalLost_only
    | with_reducible apply State.endRead_only
    | with_reducible apply State.serveBus_only
    | with_reducible apply Ends.next
    | with_reducible apply Ends.ite
    | decide
    | intro _ _
    | intro _
    | dsimp only
    | split

theorem execRereadModule_only {M : Nat} {origin : State} (role : Role) (p : PortId) (s : State) (frame : Only M origin s) (inMask : 0x2001a ||| M = M) : Ends M origin (execRereadModule role p s) := by
  refine Ends.step frame (G := 0x2001a) ?_ inMask
  unfold execRereadModule
  repeat' first
    | with_reducible exact Only.refl _ _
    | with_reducible assumption
    | with_reducible apply Only.ite
    | with_reducible apply Only.foldl
    | with_reducible apply Only.fst_ite
    | with_reducible apply Only.snd_ite
    | with_reducible apply State.hostWrite_only
    | with_reducible apply State.startRead_only
    | with_reducible apply State.done_only
    | with_reducible apply Ends.next
    | with_reducible apply Ends.ite
    | decide
    | intro _ _
    | intro _
    | dsimp only
    | split

theorem execModuleIdentityRead_only {M : Nat} {origin : State} (p : PortId) (page : List Byte) (modes : BitVec 7) (record : List Byte) (s : State) (frame : Only M origin s) (inMask : 0x14000000000002011e ||| M = M) : Ends M origin (execModuleIdentityRead p page modes record s) := by
  refine Ends.step frame (G := 0x14000000000002011e) ?_ inMask
  unfold execModuleIdentityRead
  repeat' first
    | with_reducible exact Only.refl _ _
    | with_reducible assumption
    | with_reducible apply Only.ite
    | with_reducible apply Only.foldl
    | with_reducible apply Only.fst_ite
    | with_reducible apply Only.snd_ite
    | with_reducible apply State.eachPosition_only
    | with_reducible apply State.setBlob_only
    | with_reducible apply State.setPort_only
    | with_reducible apply State.keepRecord_only
    | with_reducible apply State.judgeModule_only
    | with_reducible apply State.endRead_only
    | with_reducible apply State.serveBus_only
    | with_reducible apply Ends.next
    | with_reducible apply Ends.ite
    | decide
    | intro _ _
    | intro _
    | dsimp only
    | split

theorem execModuleReadyTimeout_only {M : Nat} {origin : State} (p : PortId) (s : State) (frame : Only M origin s) (inMask : 0x14000000000002011e ||| M = M) : Ends M origin (execModuleReadyTimeout p s) := by
  refine Ends.step frame (G := 0x14000000000002011e) ?_ inMask
  unfold execModuleReadyTimeout
  repeat' first
    | with_reducible exact Only.refl _ _
    | with_reducible assumption
    | with_reducible apply Only.ite
    | with_reducible apply Only.foldl
    | with_reducible apply Only.fst_ite
    | with_reducible apply Only.snd_ite
    | with_reducible apply State.eachPosition_only
    | with_reducible apply State.setNat_only
    | with_reducible apply State.raise_only
    | with_reducible apply State.endRead_only
    | with_reducible apply State.serveBus_only
    | with_reducible apply Ends.next
    | with_reducible apply Ends.ite
    | decide
    | intro _ _
    | intro _
    | dsimp only
    | split

theorem execLinkIdentityRecordWrite_only {M : Nat} {origin : State} (role : Role) (p : PortId) (bytes : List Byte) (outcome : RecordWriteEnd) (s : State) (frame : Only M origin s) (inMask : 0x2011e ||| M = M) : Ends M origin (execLinkIdentityRecordWrite role p bytes outcome s) := by
  refine Ends.step frame (G := 0x2011e) ?_ inMask
  unfold execLinkIdentityRecordWrite
  repeat' first
    | with_reducible exact Only.refl _ _
    | with_reducible assumption
    | with_reducible apply Only.ite
    | with_reducible apply Only.foldl
    | with_reducible apply Only.fst_ite
    | with_reducible apply Only.snd_ite
    | with_reducible apply State.hostWrite_only
    | with_reducible apply State.answer_only
    | with_reducible apply State.setBus_only
    | with_reducible apply State.writeRecord_only
    | with_reducible apply Ends.next
    | with_reducible apply Ends.ite
    | decide
    | intro _ _
    | intro _
    | dsimp only
    | split

theorem execDiagnosticsPoll_only {M : Nat} {origin : State} (p : PortId) (values : List Int) (s : State) (frame : Only M origin s) (inMask : 0x100 ||| M = M) : Ends M origin (execDiagnosticsPoll p values s) := by
  refine Ends.step frame (G := 0x100) ?_ inMask
  unfold execDiagnosticsPoll
  repeat' first
    | with_reducible exact Only.refl _ _
    | with_reducible assumption
    | with_reducible apply Only.ite
    | with_reducible apply Only.foldl
    | with_reducible apply Only.fst_ite
    | with_reducible apply Only.snd_ite
    | with_reducible apply State.setPort_only
    | with_reducible apply Ends.next
    | with_reducible apply Ends.ite
    | decide
    | intro _ _
    | intro _
    | dsimp only
    | split

theorem State.putModReset_only {M : Nat} {origin : State} (s : State) (c : Nat) (on : Bool) (frame : Only M origin s) (inMask : 0x10000 ||| M = M) : Only M origin (State.putModReset s c on) := by
  refine Only.step frame (G := 0x10000) ?_ inMask
  unfold State.putModReset
  repeat' first
    | with_reducible exact Only.refl _ _
    | with_reducible assumption
    | with_reducible apply Only.ite
    | with_reducible apply Only.foldl
    | with_reducible apply Only.fst_ite
    | with_reducible apply Only.snd_ite
    | decide
    | intro _ _
    | intro _
    | dsimp only
    | split
    | with_reducible apply Only.upd_modReset

theorem State.requeueReads_only {M : Nat} {origin : State} (s : State) (c : Nat) (frame : Only M origin s) (inMask : 0x2011e ||| M = M) : Only M origin (State.requeueReads s c) := by
  refine Only.step frame (G := 0x2011e) ?_ inMask
  unfold State.requeueReads
  repeat' first
    | with_reducible exact Only.refl _ _
    | with_reducible assumption
    | with_reducible apply Only.ite
    | with_reducible apply Only.foldl
    | with_reducible apply Only.fst_ite
    | with_reducible apply Only.snd_ite
    | with_reducible apply State.setNat_only
    | with_reducible apply State.startRead_only
    | with_reducible apply State.setBus_only
    | with_reducible apply State.serveBus_only
    | decide
    | intro _ _
    | intro _
    | dsimp only
    | split

theorem State.cageChanged_only {M : Nat} {origin : State} (s : State) (c : Nat) (frame : Only M origin s) (inMask : 0x7011e ||| M = M) : Only M origin (State.cageChanged s c) := by
  refine Only.step frame (G := 0x7011e) ?_ inMask
  unfold State.cageChanged
  repeat' first
    | with_reducible exact Only.refl _ _
    | with_reducible assumption
    | with_reducible apply Only.ite
    | with_reducible apply Only.foldl
    | with_reducible apply Only.fst_ite
    | with_reducible apply Only.snd_ite
    | with_reducible apply State.requeueReads_only
    | with_reducible apply State.putModReset_only
    | decide
    | intro _ _
    | intro _
    | dsimp only
    | split
    | with_reducible apply Only.upd_modResetWait

theorem execModResetRelease_only {M : Nat} {origin : State} (c : ClusterId) (s : State) (frame : Only M origin s) (inMask : 0x50000 ||| M = M) : Ends M origin (execModResetRelease c s) := by
  refine Ends.step frame (G := 0x50000) ?_ inMask
  unfold execModResetRelease
  repeat' first
    | with_reducible exact Only.refl _ _
    | with_reducible assumption
    | with_reducible apply Only.ite
    | with_reducible apply Only.foldl
    | with_reducible apply Only.fst_ite
    | with_reducible apply Only.snd_ite
    | with_reducible apply State.putModReset_only
    | with_reducible apply Ends.next
    | with_reducible apply Ends.ite
    | decide
    | intro _ _
    | intro _
    | dsimp only
    | split
    | with_reducible apply Only.upd_modResetWait

theorem execStatisticsClear_only {M : Nat} {origin : State} (role : Role) (p : PortId) (coincident : List (Fin 16)) (s : State) (frame : Only M origin s) (inMask : 0x11a ||| M = M) : Ends M origin (execStatisticsClear role p coincident s) := by
  refine Ends.step frame (G := 0x11a) ?_ inMask
  unfold execStatisticsClear
  repeat' first
    | with_reducible exact Only.refl _ _
    | with_reducible assumption
    | with_reducible apply Only.ite
    | with_reducible apply Only.foldl
    | with_reducible apply Only.fst_ite
    | with_reducible apply Only.snd_ite
    | with_reducible apply State.hostWrite_only
    | with_reducible apply State.setNat_only
    | with_reducible apply State.setPort_only
    | with_reducible apply State.done_only
    | with_reducible apply Ends.next
    | with_reducible apply Ends.ite
    | decide
    | intro _ _
    | intro _
    | dsimp only
    | split

end Sys2Proof.Machine
end

