-- ==== Sys2Proof/Laws/Frames/Counters.lean ====
section
/-! SUPPORT. What each operation of Machine/Counters.lean leaves as it was: the frame of every one. -/

set_option linter.unusedTactic false
set_option linter.unreachableTactic false

namespace Sys2Proof.Machine

open Host (Outcome)

theorem State.wrapped_only {M : Nat} {origin : State} (s : State) (bit : Nat) (frame : Only M origin s) (inMask : 0x2400000000000000000002 ||| M = M) : Only M origin (State.wrapped s bit) := by
  refine Only.step frame (G := 0x2400000000000000000002) ?_ inMask
  unfold State.wrapped
  repeat' first
    | with_reducible exact Only.refl _ _
    | with_reducible assumption
    | with_reducible apply Only.ite
    | with_reducible apply Only.foldl
    | with_reducible apply Only.fst_ite
    | with_reducible apply Only.snd_ite
    | with_reducible apply State.inc32_only
    | with_reducible apply State.sendEvent_only
    | decide
    | intro _ _
    | intro _
    | dsimp only
    | split
    | with_reducible apply Only.upd_overflow

theorem State.perfAdd_only {M : Nat} {origin : State} (s : State) (idx sub n : Nat) (frame : Only M origin s) (inMask : 0x3400000000000000000002 ||| M = M) : Only M origin (State.perfAdd s idx sub n) := by
  refine Only.step frame (G := 0x3400000000000000000002) ?_ inMask
  unfold State.perfAdd
  repeat' first
    | with_reducible exact Only.refl _ _
    | with_reducible assumption
    | with_reducible apply Only.ite
    | with_reducible apply Only.foldl
    | with_reducible apply Only.fst_ite
    | with_reducible apply Only.snd_ite
    | with_reducible apply State.wrapped_only
    | decide
    | intro _ _
    | intro _
    | dsimp only
    | split
    | with_reducible apply Only.upd_perf

theorem State.sampleRegion_only {M : Nat} {origin : State} (s : State) (g : Nat) (frame : Only M origin s) (inMask : 0x19000000000000000000002 ||| M = M) : Only M origin (State.sampleRegion s g) := by
  refine Only.step frame (G := 0x19000000000000000000002) ?_ inMask
  unfold State.sampleRegion
  repeat' first
    | with_reducible exact Only.refl _ _
    | with_reducible assumption
    | with_reducible apply Only.ite
    | with_reducible apply Only.foldl
    | with_reducible apply Only.fst_ite
    | with_reducible apply Only.snd_ite
    | with_reducible apply State.setNat_only
    | decide
    | intro _ _
    | intro _
    | dsimp only
    | split
    | with_reducible apply Only.upd_regionSample_regionClear_perf

theorem State.beginCycle_only {M : Nat} {origin : State} (s : State) (g : Nat) (frame : Only M origin s) (inMask : 0x19000000000000000000002 ||| M = M) : Only M origin (State.beginCycle s g) := by
  refine Only.step frame (G := 0x19000000000000000000002) ?_ inMask
  unfold State.beginCycle
  repeat' first
    | with_reducible exact Only.refl _ _
    | with_reducible assumption
    | with_reducible apply Only.ite
    | with_reducible apply Only.foldl
    | with_reducible apply Only.fst_ite
    | with_reducible apply Only.snd_ite
    | with_reducible apply State.sampleRegion_only
    | decide
    | intro _ _
    | intro _
    | dsimp only
    | split

end Sys2Proof.Machine
end

