-- ==== Sys2Proof/Laws/Frames/Fabric.lean ====
section
/-! SUPPORT. What each operation of Machine/Fabric.lean leaves as it was: the frame of every one. -/

set_option linter.unusedTactic false
set_option linter.unreachableTactic false

namespace Sys2Proof.Machine

open Host (Outcome)

theorem State.linkError_only {M : Nat} {origin : State} (s : State) (g f : Nat) (frame : Only M origin s) (inMask : 0x140000000000001000 ||| M = M) : Only M origin (State.linkError s g f) := by
  refine Only.step frame (G := 0x140000000000001000) ?_ inMask
  unfold State.linkError
  repeat' first
    | with_reducible exact Only.refl _ _
    | with_reducible assumption
    | with_reducible apply Only.ite
    | with_reducible apply Only.foldl
    | with_reducible apply Only.fst_ite
    | with_reducible apply Only.snd_ite
    | with_reducible apply State.setRegion_only
    | with_reducible apply State.raise_only
    | decide
    | intro _ _
    | intro _
    | dsimp only
    | split

theorem State.sendStageOne_only {M : Nat} {origin : State} (s : State) (g m : Nat) (x : Cell) (frame : Only M origin s) (inMask : 0x140000001000001002 ||| M = M) : Only M origin (State.sendStageOne s g m x) := by
  refine Only.step frame (G := 0x140000001000001002) ?_ inMask
  unfold State.sendStageOne
  repeat' first
    | with_reducible exact Only.refl _ _
    | with_reducible assumption
    | with_reducible apply Only.ite
    | with_reducible apply Only.foldl
    | with_reducible apply Only.fst_ite
    | with_reducible apply Only.snd_ite
    | with_reducible apply State.setRegion_only
    | with_reducible apply State.readWords_only
    | with_reducible apply State.inc64_only
    | with_reducible apply State.voidPlace_only
    | with_reducible apply State.setFlight_only
    | with_reducible apply State.returnIngress_only
    | decide
    | intro _ _
    | intro _
    | dsimp only
    | split

theorem State.sendIdle_only {M : Nat} {origin : State} (s : State) (g m : Nat) (frame : Only M origin s) (inMask : 0x1000001000 ||| M = M) : Only M origin (State.sendIdle s g m) := by
  refine Only.step frame (G := 0x1000001000) ?_ inMask
  unfold State.sendIdle
  repeat' first
    | with_reducible exact Only.refl _ _
    | with_reducible assumption
    | with_reducible apply Only.ite
    | with_reducible apply Only.foldl
    | with_reducible apply Only.fst_ite
    | with_reducible apply Only.snd_ite
    | with_reducible apply State.setRegion_only
    | with_reducible apply State.setFlight_only
    | decide
    | intro _ _
    | intro _
    | dsimp only
    | split

theorem State.stageOne_only {M : Nat} {origin : State} (s : State) (sl g : Nat) (frame : Only M origin s) (inMask : 0x3400140000001000001002 ||| M = M) : Only M origin (State.stageOne s sl g) := by
  refine Only.step frame (G := 0x3400140000001000001002) ?_ inMask
  unfold State.stageOne
  repeat' first
    | with_reducible exact Only.refl _ _
    | with_reducible assumption
    | with_reducible apply Only.ite
    | with_reducible apply Only.foldl
    | with_reducible apply Only.fst_ite
    | with_reducible apply Only.snd_ite
    | with_reducible apply State.perfAdd_only
    | with_reducible apply State.setRegion_only
    | with_reducible apply State.sendStageOne_only
    | with_reducible apply State.sendIdle_only
    | decide
    | intro _ _
    | intro _
    | dsimp only
    | split

theorem State.stageTwo_only {M : Nat} {origin : State} (s : State) (sl m : Nat) (frame : Only M origin s) (inMask : 0x3400000000001000001002 ||| M = M) : Only M origin (State.stageTwo s sl m) := by
  refine Only.step frame (G := 0x3400000000001000001002) ?_ inMask
  unfold State.stageTwo
  repeat' first
    | with_reducible exact Only.refl _ _
    | with_reducible assumption
    | with_reducible apply Only.ite
    | with_reducible apply Only.foldl
    | with_reducible apply Only.fst_ite
    | with_reducible apply Only.snd_ite
    | with_reducible apply State.setRegion_only
    | with_reducible apply State.inc64_only
    | with_reducible apply State.perfAdd_only
    | with_reducible apply State.setFlight_only
    | decide
    | intro _ _
    | intro _
    | dsimp only
    | split

theorem State.unjudgeFlights_only {M : Nat} {origin : State} (s : State) (frame : Only M origin s) (inMask : 0x1000001000 ||| M = M) : Only M origin (State.unjudgeFlights s) := by
  refine Only.step frame (G := 0x1000001000) ?_ inMask
  unfold State.unjudgeFlights
  repeat' first
    | with_reducible exact Only.refl _ _
    | with_reducible assumption
    | with_reducible apply Only.ite
    | with_reducible apply Only.foldl
    | with_reducible apply Only.fst_ite
    | with_reducible apply Only.snd_ite
    | decide
    | intro _ _
    | intro _
    | dsimp only
    | split
    | with_reducible apply Only.upd_flights_regions

theorem State.adjustCycle_only {M : Nat} {origin : State} (s : State) (g : Nat) (frame : Only M origin s) (inMask : 0x1000001002 ||| M = M) : Only M origin (State.adjustCycle s g) := by
  refine Only.step frame (G := 0x1000001002) ?_ inMask
  unfold State.adjustCycle
  repeat' first
    | with_reducible exact Only.refl _ _
    | with_reducible assumption
    | with_reducible apply Only.ite
    | with_reducible apply Only.foldl
    | with_reducible apply Only.fst_ite
    | with_reducible apply Only.snd_ite
    | with_reducible apply State.setRegion_only
    | with_reducible apply State.addSat_only
    | with_reducible apply State.unjudgeFlights_only
    | decide
    | intro _ _
    | intro _
    | dsimp only
    | split

theorem State.takeOffset_only {M : Nat} {origin : State} (s : State) (g : Nat) (ps : Int) (frame : Only M origin s) (inMask : 0x1002 ||| M = M) : Only M origin (State.takeOffset s g ps) := by
  refine Only.step frame (G := 0x1002) ?_ inMask
  unfold State.takeOffset
  repeat' first
    | with_reducible exact Only.refl _ _
    | with_reducible assumption
    | with_reducible apply Only.ite
    | with_reducible apply Only.foldl
    | with_reducible apply Only.fst_ite
    | with_reducible apply Only.snd_ite
    | with_reducible apply State.setReg_only
    | with_reducible apply State.setRegion_only
    | decide
    | intro _ _
    | intro _
    | dsimp only
    | split

theorem State.fabricFollowsStep_only {M : Nat} {origin : State} (s : State) (ps : Int) (frame : Only M origin s) (inMask : 0x1000001002 ||| M = M) : Only M origin (State.fabricFollowsStep s ps) := by
  refine Only.step frame (G := 0x1000001002) ?_ inMask
  unfold State.fabricFollowsStep
  repeat' first
    | with_reducible exact Only.refl _ _
    | with_reducible assumption
    | with_reducible apply Only.ite
    | with_reducible apply Only.foldl
    | with_reducible apply Only.fst_ite
    | with_reducible apply Only.snd_ite
    | with_reducible apply State.takeOffset_only
    | with_reducible apply State.unjudgeFlights_only
    | decide
    | intro _ _
    | intro _
    | dsimp only
    | split

theorem execAlignmentMark_only {M : Nat} {origin : State} (g : RegionId) (offsetPs : Int) (s : State) (frame : Only M origin s) (inMask : 0x1002 ||| M = M) : Ends M origin (execAlignmentMark g offsetPs s) := by
  refine Ends.step frame (G := 0x1002) ?_ inMask
  unfold execAlignmentMark
  repeat' first
    | with_reducible exact Only.refl _ _
    | with_reducible assumption
    | with_reducible apply Only.ite
    | with_reducible apply Only.foldl
    | with_reducible apply Only.fst_ite
    | with_reducible apply Only.snd_ite
    | with_reducible apply State.takeOffset_only
    | with_reducible apply Ends.next
    | with_reducible apply Ends.ite
    | decide
    | intro _ _
    | intro _
    | dsimp only
    | split

theorem execFabricSlot_only {M : Nat} {origin : State} (slot : Fin 8) (s : State) (frame : Only M origin s) (inMask : 0x1b400140000001000001002 ||| M = M) : Ends M origin (execFabricSlot slot s) := by
  refine Ends.step frame (G := 0x1b400140000001000001002) ?_ inMask
  unfold execFabricSlot
  repeat' first
    | with_reducible exact Only.refl _ _
    | with_reducible assumption
    | with_reducible apply Only.ite
    | with_reducible apply Only.foldl
    | with_reducible apply Only.fst_ite
    | with_reducible apply Only.snd_ite
    | with_reducible apply State.beginCycle_only
    | with_reducible apply State.stageOne_only
    | with_reducible apply State.stageTwo_only
    | with_reducible apply State.adjustCycle_only
    | with_reducible apply Ends.next
    | with_reducible apply Ends.ite
    | decide
    | intro _ _
    | intro _
    | dsimp only
    | split

theorem State.takeCredits_only {M : Nat} {origin : State} (s : State) (g f : Nat) (x : Cell) (frame : Only M origin s) (inMask : 0x1000 ||| M = M) : Only M origin (State.takeCredits s g f x) := by
  refine Only.step frame (G := 0x1000) ?_ inMask
  unfold State.takeCredits
  repeat' first
    | with_reducible exact Only.refl _ _
    | with_reducible assumption
    | with_reducible apply Only.ite
    | with_reducible apply Only.foldl
    | with_reducible apply Only.fst_ite
    | with_reducible apply Only.snd_ite
    | with_reducible apply State.setRegion_only
    | decide
    | intro _ _
    | intro _
    | dsimp only
    | split

theorem State.intoFabricQueue_only {M : Nat} {origin : State} (s : State) (m : Nat) (x : Cell) (frame : Only M origin s) (inMask : 0x140000000e00001002 ||| M = M) : Only M origin (State.intoFabricQueue s m x) := by
  refine Only.step frame (G := 0x140000000e00001002) ?_ inMask
  unfold State.intoFabricQueue
  repeat' first
    | with_reducible exact Only.refl _ _
    | with_reducible assumption
    | with_reducible apply Only.ite
    | with_reducible apply Only.foldl
    | with_reducible apply Only.fst_ite
    | with_reducible apply Only.snd_ite
    | with_reducible apply State.inc64_only
    | with_reducible apply State.breach_only
    | with_reducible apply State.setRegion_only
    | decide
    | intro _ _
    | intro _
    | dsimp only
    | split
    | with_reducible apply Only.upd_overflowed

theorem State.releaseRun_only {M : Nat} {origin : State} (s : State) (g k : Nat) (n : Nat)
    (frame : Only M origin s) (inMask : 0x140000000700001802 ||| M = M) : Only M origin (State.releaseRun s g k n) := by
  refine Only.step frame (G := 0x140000000700001802) ?_ inMask
  clear frame inMask
  induction n generalizing s with
  | zero => exact Only.refl _ _
  | succ n ih =>
    have ih' : ∀ {M : Nat} {origin s : State}, Only M origin s → 0x140000000700001802 ||| M = M →
        Only M origin (State.releaseRun s g k n) := fun a b => a.step (ih _) b
    unfold State.releaseRun
    repeat' first
      | with_reducible exact Only.refl _ _
      | with_reducible assumption
      | with_reducible apply Only.ite
      | with_reducible apply Only.foldl
      | with_reducible apply Only.fst_ite
      | with_reducible apply Only.snd_ite
      | with_reducible apply State.setRegion_only
      | with_reducible apply State.assemble_only
      | with_reducible apply ih'
      | decide
      | intro _ _
      | intro _
      | dsimp only
      | split


theorem State.waitTails_only {M : Nat} {origin : State} (s : State) (g : Nat) (x : Cell) (frame : Only M origin s) (inMask : 0x800 ||| M = M) : Only M origin (State.waitTails s g x) := by
  refine Only.step frame (G := 0x800) ?_ inMask
  unfold State.waitTails
  repeat' first
    | with_reducible exact Only.refl _ _
    | with_reducible assumption
    | with_reducible apply Only.ite
    | with_reducible apply Only.foldl
    | with_reducible apply Only.fst_ite
    | with_reducible apply Only.snd_ite
    | decide
    | intro _ _
    | intro _
    | dsimp only
    | split
    | with_reducible apply Only.upd_queues

theorem State.intoReorder_only {M : Nat} {origin : State} (s : State) (g : Nat) (x : Cell) (frame : Only M origin s) (inMask : 0x140000000700001802 ||| M = M) : Only M origin (State.intoReorder s g x) := by
  refine Only.step frame (G := 0x140000000700001802) ?_ inMask
  unfold State.intoReorder
  repeat' first
    | with_reducible exact Only.refl _ _
    | with_reducible assumption
    | with_reducible apply Only.ite
    | with_reducible apply Only.foldl
    | with_reducible apply Only.fst_ite
    | with_reducible apply Only.snd_ite
    | with_reducible apply State.setRegion_only
    | with_reducible apply State.inc64_only
    | with_reducible apply State.waitTails_only
    | with_reducible apply State.raise_only
    | with_reducible apply State.noteLost_only
    | with_reducible apply State.placeCell_only
    | with_reducible (refine Only.of_snd (by assumption) ?_; apply State.placeCell_only)
    | with_reducible apply State.releaseRun_only
    | decide
    | intro _ _
    | intro _
    | dsimp only
    | split

theorem execCellArrival_only {M : Nat} {origin : State} (stage2 : Bool) (from_ to_ : RegionId) (header : HeaderCheck) (payloadOk : Bool) (s : State) (frame : Only M origin s) (inMask : 0x140000003f00001802 ||| M = M) : Ends M origin (execCellArrival stage2 from_ to_ header payloadOk s) := by
  refine Ends.step frame (G := 0x140000003f00001802) ?_ inMask
  unfold execCellArrival
  repeat' first
    | with_reducible exact Only.refl _ _
    | with_reducible assumption
    | with_reducible apply Only.ite
    | with_reducible apply Only.foldl
    | with_reducible apply Only.fst_ite
    | with_reducible apply Only.snd_ite
    | with_reducible apply State.setFlight_only
    | with_reducible apply State.closePacket_only
    | with_reducible apply State.inc64_only
    | with_reducible apply State.linkError_only
    | with_reducible apply State.raise_only
    | with_reducible apply State.noteLost_only
    | with_reducible apply State.setRegion_only
    | with_reducible apply State.takeCredits_only
    | with_reducible apply State.intoReorder_only
    | with_reducible apply State.intoFabricQueue_only
    | with_reducible apply Ends.next
    | with_reducible apply Ends.ite
    | decide
    | intro _ _
    | intro _
    | dsimp only
    | split

theorem State.declareLost_only {M : Nat} {origin : State} (s : State) (g k : Nat) (f : Cell → Bool) (frame : Only M origin s) (inMask : 0x140000000600001802 ||| M = M) : Only M origin (State.declareLost s g k f) := by
  refine Only.step frame (G := 0x140000000600001802) ?_ inMask
  unfold State.declareLost
  repeat' first
    | with_reducible exact Only.refl _ _
    | with_reducible assumption
    | with_reducible apply Only.ite
    | with_reducible apply Only.foldl
    | with_reducible apply Only.fst_ite
    | with_reducible apply Only.snd_ite
    | with_reducible apply State.loseCell_only
    | with_reducible apply State.setRegion_only
    | decide
    | intro _ _
    | intro _
    | dsimp only
    | split

theorem execHoleTimeout_only {M : Nat} {origin : State} (dst src : RegionId) (contracted : Bool) (s : State) (frame : Only M origin s) (inMask : 0x140000000700001802 ||| M = M) : Ends M origin (execHoleTimeout dst src contracted s) := by
  refine Ends.step frame (G := 0x140000000700001802) ?_ inMask
  unfold execHoleTimeout
  repeat' first
    | with_reducible exact Only.refl _ _
    | with_reducible assumption
    | with_reducible apply Only.ite
    | with_reducible apply Only.foldl
    | with_reducible apply Only.fst_ite
    | with_reducible apply Only.snd_ite
    | with_reducible apply State.inc64_only
    | with_reducible apply State.declareLost_only
    | with_reducible apply State.setRegion_only
    | with_reducible apply State.releaseRun_only
    | with_reducible apply Ends.next
    | with_reducible apply Ends.ite
    | decide
    | intro _ _
    | intro _
    | dsimp only
    | split

theorem execResyncClear_only {M : Nat} {origin : State} (m src : RegionId) (s : State) (frame : Only M origin s) (inMask : 0x1000 ||| M = M) : Ends M origin (execResyncClear m src s) := by
  refine Ends.step frame (G := 0x1000) ?_ inMask
  unfold execResyncClear
  repeat' first
    | with_reducible exact Only.refl _ _
    | with_reducible assumption
    | with_reducible apply Only.ite
    | with_reducible apply Only.foldl
    | with_reducible apply Only.fst_ite
    | with_reducible apply Only.snd_ite
    | with_reducible apply State.setRegion_only
    | with_reducible apply Ends.next
    | with_reducible apply Ends.ite
    | decide
    | intro _ _
    | intro _
    | dsimp only
    | split

theorem execCutThroughHoldRelease_only {M : Nat} {origin : State} (g : RegionId) (s : State) (frame : Only M origin s) (inMask : 0x1000 ||| M = M) : Ends M origin (execCutThroughHoldRelease g s) := by
  refine Ends.step frame (G := 0x1000) ?_ inMask
  unfold execCutThroughHoldRelease
  repeat' first
    | with_reducible exact Only.refl _ _
    | with_reducible assumption
    | with_reducible apply Only.ite
    | with_reducible apply Only.foldl
    | with_reducible apply Only.fst_ite
    | with_reducible apply Only.snd_ite
    | with_reducible apply State.setRegion_only
    | with_reducible apply Ends.next
    | with_reducible apply Ends.ite
    | decide
    | intro _ _
    | intro _
    | dsimp only
    | split

theorem State.closeEpoch_only {M : Nat} {origin : State} (s : State) (g f : Nat) (frame : Only M origin s) (inMask : 0x140000000700001802 ||| M = M) : Only M origin (State.closeEpoch s g f) := by
  refine Only.step frame (G := 0x140000000700001802) ?_ inMask
  unfold State.closeEpoch
  repeat' first
    | with_reducible exact Only.refl _ _
    | with_reducible assumption
    | with_reducible apply Only.ite
    | with_reducible apply Only.foldl
    | with_reducible apply Only.fst_ite
    | with_reducible apply Only.snd_ite
    | with_reducible apply State.setRegion_only
    | with_reducible apply State.assemble_only
    | with_reducible apply State.declareLost_only
    | with_reducible apply State.badCopies_only
    | with_reducible apply State.addSat_only
    | with_reducible apply State.releaseRun_only
    | decide
    | intro _ _
    | intro _
    | dsimp only
    | split

theorem execEpochClose_only {M : Nat} {origin : State} (dst : RegionId) (s : State) (frame : Only M origin s) (inMask : 0x140000000700001802 ||| M = M) : Ends M origin (execEpochClose dst s) := by
  refine Ends.step frame (G := 0x140000000700001802) ?_ inMask
  unfold execEpochClose
  repeat' first
    | with_reducible exact Only.refl _ _
    | with_reducible assumption
    | with_reducible apply Only.ite
    | with_reducible apply Only.foldl
    | with_reducible apply Only.fst_ite
    | with_reducible apply Only.snd_ite
    | with_reducible apply State.closeEpoch_only
    | with_reducible apply Ends.next
    | with_reducible apply Ends.ite
    | decide
    | intro _ _
    | intro _
    | dsimp only
    | split

theorem State.restorePairs_only {M : Nat} {origin : State} (s : State) (g f : Nat) (frame : Only M origin s) (inMask : 0x1000 ||| M = M) : Only M origin (State.restorePairs s g f) := by
  refine Only.step frame (G := 0x1000) ?_ inMask
  unfold State.restorePairs
  repeat' first
    | with_reducible exact Only.refl _ _
    | with_reducible assumption
    | with_reducible apply Only.ite
    | with_reducible apply Only.foldl
    | with_reducible apply Only.fst_ite
    | with_reducible apply Only.snd_ite
    | with_reducible apply State.setRegion_only
    | decide
    | intro _ _
    | intro _
    | dsimp only
    | split

theorem execCreditRestore_only {M : Nat} {origin : State} (g : RegionId) (s : State) (frame : Only M origin s) (inMask : 0x1000 ||| M = M) : Ends M origin (execCreditRestore g s) := by
  refine Ends.step frame (G := 0x1000) ?_ inMask
  unfold execCreditRestore
  repeat' first
    | with_reducible exact Only.refl _ _
    | with_reducible assumption
    | with_reducible apply Only.ite
    | with_reducible apply Only.foldl
    | with_reducible apply Only.fst_ite
    | with_reducible apply Only.snd_ite
    | with_reducible apply State.restorePairs_only
    | with_reducible apply Ends.next
    | with_reducible apply Ends.ite
    | decide
    | intro _ _
    | intro _
    | dsimp only
    | split

end Sys2Proof.Machine
end

