-- ==== Sys2Proof/Laws/Frames/Transmit.lean ====
section
/-! SUPPORT. What each operation of Machine/Transmit.lean leaves as it was: the frame of every one. -/

set_option linter.unusedTactic false
set_option linter.unreachableTactic false

namespace Sys2Proof.Machine

open Host (Outcome)

theorem State.secyTake_only {M : Nat} {origin : State} (s : State) (p : Nat) (frame : Only M origin s) (inMask : 0x400140000000000000102 ||| M = M) : Only M origin (State.secyTake s p).2 := by
  refine Only.step frame (G := 0x400140000000000000102) ?_ inMask
  unfold State.secyTake
  repeat' first
    | with_reducible exact Only.refl _ _
    | with_reducible assumption
    | with_reducible apply Only.ite
    | with_reducible apply Only.foldl
    | with_reducible apply Only.fst_ite
    | with_reducible apply Only.snd_ite
    | with_reducible apply State.setPort_only
    | with_reducible apply State.sendEvent_only
    | with_reducible apply State.raise_only
    | decide
    | intro _ _
    | intro _
    | dsimp only
    | split

theorem State.stampEvent_only {M : Nat} {origin : State} (s : State) (p : Nat) (c : Copy) (frame : Only M origin s) (inMask : 0x400000000000000000002 ||| M = M) : Only M origin (State.stampEvent s p c) := by
  refine Only.step frame (G := 0x400000000000000000002) ?_ inMask
  unfold State.stampEvent
  repeat' first
    | with_reducible exact Only.refl _ _
    | with_reducible assumption
    | with_reducible apply Only.ite
    | with_reducible apply Only.foldl
    | with_reducible apply Only.fst_ite
    | with_reducible apply Only.snd_ite
    | with_reducible apply State.sendEvent_only
    | decide
    | intro _ _
    | intro _
    | dsimp only
    | split

theorem State.readSent_only {M : Nat} {origin : State} (s : State) (p : Nat) (c : Copy) (frame : Only M origin s) (inMask : 0x140000000600001802 ||| M = M) : Only M origin (State.readSent s p c) := by
  refine Only.step frame (G := 0x140000000600001802) ?_ inMask
  unfold State.readSent
  repeat' first
    | with_reducible exact Only.refl _ _
    | with_reducible assumption
    | with_reducible apply Only.ite
    | with_reducible apply Only.foldl
    | with_reducible apply Only.fst_ite
    | with_reducible apply Only.snd_ite
    | with_reducible apply State.readWords_only
    | with_reducible apply State.countSpoilt_only
    | with_reducible apply State.badCopies_only
    | decide
    | intro _ _
    | intro _
    | dsimp only
    | split

theorem State.endFrame_only {M : Nat} {origin : State} (s : State) (p q : Nat) (c : Copy) (cut : Bool) (frame : Only M origin s) (inMask : 0x140000004600001c02 ||| M = M) : Only M origin (State.endFrame s p q c cut) := by
  refine Only.step frame (G := 0x140000004600001c02) ?_ inMask
  unfold State.endFrame
  repeat' first
    | with_reducible exact Only.refl _ _
    | with_reducible assumption
    | with_reducible apply Only.ite
    | with_reducible apply Only.foldl
    | with_reducible apply Only.fst_ite
    | with_reducible apply Only.snd_ite
    | with_reducible apply State.readSent_only
    | with_reducible apply State.removeCopies_only
    | with_reducible apply State.setEg_only
    | with_reducible apply State.inc64_only
    | with_reducible apply State.inc32_only
    | with_reducible apply State.addSat_only
    | decide
    | intro _ _
    | intro _
    | dsimp only
    | split
    | with_reducible apply Only.upd_wire

end Sys2Proof.Machine
end

