-- ==== Sys2Proof/Laws/Frames/Queues.lean ====
section
/-! SUPPORT. What each operation of Machine/Queues.lean leaves as it was: the frame of every one. -/

set_option linter.unusedTactic false
set_option linter.unreachableTactic false

namespace Sys2Proof.Machine

open Host (Outcome)

theorem State.countAged_only {M : Nat} {origin : State} (s : State) (p q : Nat) (c : Copy) (why : Nat) (frame : Only M origin s) (inMask : 0x140000000600000002 ||| M = M) : Only M origin (State.countAged s p q c why) := by
  refine Only.step frame (G := 0x140000000600000002) ?_ inMask
  unfold State.countAged
  repeat' first
    | with_reducible exact Only.refl _ _
    | with_reducible assumption
    | with_reducible apply Only.ite
    | with_reducible apply Only.foldl
    | with_reducible apply Only.fst_ite
    | with_reducible apply Only.snd_ite
    | with_reducible apply State.inc64_only
    | with_reducible apply State.putBit_only
    | with_reducible apply State.copyBreach_only
    | decide
    | intro _ _
    | intro _
    | dsimp only
    | split

theorem State.ageOut_only {M : Nat} {origin : State} (s : State) (p q : Nat) (c : Copy) (why : Nat) (frame : Only M origin s) (inMask : 0x140000000600001802 ||| M = M) : Only M origin (State.ageOut s p q c why) := by
  refine Only.step frame (G := 0x140000000600001802) ?_ inMask
  unfold State.ageOut
  repeat' first
    | with_reducible exact Only.refl _ _
    | with_reducible assumption
    | with_reducible apply Only.ite
    | with_reducible apply Only.foldl
    | with_reducible apply Only.fst_ite
    | with_reducible apply Only.snd_ite
    | with_reducible apply State.removeCopies_only
    | with_reducible apply State.countAged_only
    | decide
    | intro _ _
    | intro _
    | dsimp only
    | split

theorem State.expireHeads_only {M : Nat} {origin : State} (s : State) (p q : Nat) (n : Nat)
    (frame : Only M origin s) (inMask : 0x140000000600001802 ||| M = M) : Only M origin (State.expireHeads s p q n) := by
  refine Only.step frame (G := 0x140000000600001802) ?_ inMask
  clear frame inMask
  induction n generalizing s with
  | zero => exact Only.refl _ _
  | succ n ih =>
    have ih' : ∀ {M : Nat} {origin s : State}, Only M origin s → 0x140000000600001802 ||| M = M →
        Only M origin (State.expireHeads s p q n) := fun a b => a.step (ih _) b
    unfold State.expireHeads
    repeat' first
      | with_reducible exact Only.refl _ _
      | with_reducible assumption
      | with_reducible apply Only.ite
      | with_reducible apply Only.foldl
      | with_reducible apply Only.fst_ite
      | with_reducible apply Only.snd_ite
      | with_reducible apply State.ageOut_only
      | with_reducible apply ih'
      | decide
      | intro _ _
      | intro _
      | dsimp only
      | split


theorem State.expireAll_only {M : Nat} {origin : State} (s : State) (p q : Nat) (frame : Only M origin s) (inMask : 0x140000000600001802 ||| M = M) : Only M origin (State.expireAll s p q) := by
  refine Only.step frame (G := 0x140000000600001802) ?_ inMask
  unfold State.expireAll
  repeat' first
    | with_reducible exact Only.refl _ _
    | with_reducible assumption
    | with_reducible apply Only.ite
    | with_reducible apply Only.foldl
    | with_reducible apply Only.fst_ite
    | with_reducible apply Only.snd_ite
    | with_reducible apply State.ageOut_only
    | decide
    | intro _ _
    | intro _
    | dsimp only
    | split

theorem State.roundRobin_only {M : Nat} {origin s : State} {p n q k : Nat} {u : State}
    (frame : Only M origin s) (inMask : 0xc00 ||| M = M) (h : State.roundRobin s p n q = some (k, u)) : Only M origin u := by
  induction n generalizing s q with
  | zero => exact nomatch h
  | succ n ih =>
    unfold State.roundRobin at h
    dsimp only at h
    split at h
    · refine ih ?_ h
      split
      · exact State.setQueue_only _ _ _ _ frame (by rw [← inMask, ← Nat.or_assoc]; rfl)
      · exact frame
    · split at h
      · injection h with h; injection h with _ h; subst h
        exact State.setEg_only _ _ _ (State.setQueue_only _ _ _ _ frame (by rw [← inMask, ← Nat.or_assoc]; rfl))
          (by rw [← inMask, ← Nat.or_assoc]; rfl)
      · exact ih (State.setQueue_only _ _ _ _ frame (by rw [← inMask, ← Nat.or_assoc]; rfl)) h


theorem State.weightedChoice_only {M : Nat} {origin s : State} {p k : Nat} {u : State}
    (frame : Only M origin s) (inMask : 0xc00 ||| M = M) (h : State.weightedChoice s p = some (k, u)) : Only M origin u := by
  unfold State.weightedChoice at h
  dsimp only at h
  split at h
  · exact nomatch h
  · split at h
    · injection h with h; injection h with _ h; exact h ▸ frame
    · exact State.roundRobin_only frame inMask h


theorem State.startHead_only {M : Nat} {origin : State} (s : State) (p q : Nat) (behind : Int) (frame : Only M origin s) (inMask : 0x400140000000600001d02 ||| M = M) : Only M origin (State.startHead s p q behind) := by
  refine Only.step frame (G := 0x400140000000600001d02) ?_ inMask
  unfold State.startHead
  repeat' first
    | with_reducible exact Only.refl _ _
    | with_reducible assumption
    | with_reducible apply Only.ite
    | with_reducible apply Only.foldl
    | with_reducible apply Only.fst_ite
    | with_reducible apply Only.snd_ite
    | with_reducible apply State.countSpoilt_only
    | with_reducible apply State.badCopies_only
    | with_reducible apply State.copyBreach_only
    | with_reducible apply State.secyTake_only
    | with_reducible (refine Only.of_snd (by assumption) ?_; apply State.secyTake_only)
    | with_reducible apply State.setQueue_only
    | with_reducible apply State.setEg_only
    | with_reducible apply State.stampEvent_only
    | decide
    | intro _ _
    | intro _
    | dsimp only
    | split

theorem State.selectNow_only {M : Nat} {origin : State} (s : State) (p : Nat) (edge : StartEdge) (frame : Only M origin s) (inMask : 0x400140004000600001d02 ||| M = M) : Only M origin (State.selectNow s p edge) := by
  refine Only.step frame (G := 0x400140004000600001d02) ?_ inMask
  unfold State.selectNow
  repeat' first
    | with_reducible exact Only.refl _ _
    | with_reducible assumption
    | with_reducible apply Only.ite
    | with_reducible apply Only.foldl
    | with_reducible apply Only.fst_ite
    | with_reducible apply Only.snd_ite
    | with_reducible apply State.frameStart_only
    | with_reducible (refine Only.of_snd (by assumption) ?_; apply State.frameStart_only)
    | with_reducible apply State.expireHeads_only
    | with_reducible apply State.startHead_only
    | with_reducible (refine State.weightedChoice_only (h := by assumption) ?_ ?_)
    | decide
    | intro _ _
    | intro _
    | dsimp only
    | split

theorem execEgressSelection_only {M : Nat} {origin : State} (p : PortId) (edge : StartEdge) (s : State) (frame : Only M origin s) (inMask : 0x400140004004600001d02 ||| M = M) : Ends M origin (execEgressSelection p edge s) := by
  refine Ends.step frame (G := 0x400140004004600001d02) ?_ inMask
  unfold execEgressSelection
  repeat' first
    | with_reducible exact Only.refl _ _
    | with_reducible assumption
    | with_reducible apply Only.ite
    | with_reducible apply Only.foldl
    | with_reducible apply Only.fst_ite
    | with_reducible apply Only.snd_ite
    | with_reducible apply State.selectNow_only
    | with_reducible apply State.setEg_only
    | with_reducible apply State.endFrame_only
    | with_reducible apply Ends.next
    | with_reducible apply Ends.ite
    | decide
    | intro _ _
    | intro _
    | dsimp only
    | split

theorem execReleaseInstant_only {M : Nat} {origin : State} (p : PortId) (edge : StartEdge) (s : State) (frame : Only M origin s) (inMask : 0x400140004000600001d02 ||| M = M) : Ends M origin (execReleaseInstant p edge s) := by
  refine Ends.step frame (G := 0x400140004000600001d02) ?_ inMask
  unfold execReleaseInstant
  repeat' first
    | with_reducible exact Only.refl _ _
    | with_reducible assumption
    | with_reducible apply Only.ite
    | with_reducible apply Only.foldl
    | with_reducible apply Only.fst_ite
    | with_reducible apply Only.snd_ite
    | with_reducible apply State.selectNow_only
    | with_reducible apply Ends.next
    | with_reducible apply Ends.ite
    | decide
    | intro _ _
    | intro _
    | dsimp only
    | split

theorem execEgressUnderrun_only {M : Nat} {origin : State} (p : PortId) (s : State) (frame : Only M origin s) (inMask : 0x140000004600001c02 ||| M = M) : Ends M origin (execEgressUnderrun p s) := by
  refine Ends.step frame (G := 0x140000004600001c02) ?_ inMask
  unfold execEgressUnderrun
  repeat' first
    | with_reducible exact Only.refl _ _
    | with_reducible assumption
    | with_reducible apply Only.ite
    | with_reducible apply Only.foldl
    | with_reducible apply Only.fst_ite
    | with_reducible apply Only.snd_ite
    | with_reducible apply State.copyBreach_only
    | with_reducible apply State.endFrame_only
    | with_reducible apply State.inc64_only
    | with_reducible apply Ends.next
    | with_reducible apply Ends.ite
    | decide
    | intro _ _
    | intro _
    | dsimp only
    | split

theorem State.dropIngress_only {M : Nat} {origin : State} (s : State) (g : Nat) (id : Nat × Nat) (frame : Only M origin s) (inMask : 0x140000000000003002 ||| M = M) : Only M origin (State.dropIngress s g id) := by
  refine Only.step frame (G := 0x140000000000003002) ?_ inMask
  unfold State.dropIngress
  repeat' first
    | with_reducible exact Only.refl _ _
    | with_reducible assumption
    | with_reducible apply Only.ite
    | with_reducible apply Only.foldl
    | with_reducible apply Only.fst_ite
    | with_reducible apply Only.snd_ite
    | with_reducible apply State.setRegion_only
    | with_reducible apply State.returnCell_only
    | with_reducible apply State.setRx_only
    | decide
    | intro _ _
    | intro _
    | dsimp only
    | split

theorem State.dropHeldFrame_only {M : Nat} {origin : State} (s : State) (g p : Nat) (frame : Only M origin s) (inMask : 0x140000000000003002 ||| M = M) : Only M origin (State.dropHeldFrame s g p) := by
  refine Only.step frame (G := 0x140000000000003002) ?_ inMask
  unfold State.dropHeldFrame
  repeat' first
    | with_reducible exact Only.refl _ _
    | with_reducible assumption
    | with_reducible apply Only.ite
    | with_reducible apply Only.foldl
    | with_reducible apply Only.fst_ite
    | with_reducible apply Only.snd_ite
    | with_reducible apply State.returnCell_only
    | with_reducible apply State.setRx_only
    | with_reducible apply State.inc64_only
    | decide
    | intro _ _
    | intro _
    | dsimp only
    | split

theorem State.sweepCell_only {M : Nat} {origin : State} (s : State) (g : Nat) (x : Cell) (frame : Only M origin s) (inMask : 0x140000000600001002 ||| M = M) : Only M origin (State.sweepCell s g x).2 := by
  refine Only.step frame (G := 0x140000000600001002) ?_ inMask
  unfold State.sweepCell
  repeat' first
    | with_reducible exact Only.refl _ _
    | with_reducible assumption
    | with_reducible apply Only.ite
    | with_reducible apply Only.foldl
    | with_reducible apply Only.fst_ite
    | with_reducible apply Only.snd_ite
    | with_reducible apply State.countAged_only
    | with_reducible apply State.returnCell_only
    | decide
    | intro _ _
    | intro _
    | dsimp only
    | split

theorem State.sweepCells_only {M : Nat} {origin : State} (s : State) (g : Nat) (l : List Cell)
    (frame : Only M origin s) (inMask : 0x140000000600001002 ||| M = M) : Only M origin (State.sweepCells s g l).2 := by
  refine Only.step frame (G := 0x140000000600001002) ?_ inMask
  unfold State.sweepCells
  refine List.foldlRecOn (motive := fun (a : List Cell × State) => Only 0x140000000600001002 s a.2) l _ (Only.refl _ _) ?_
  intro a h x _
  exact State.sweepCell_only _ _ _ h (by decide)


theorem State.sweepWindows_only {M : Nat} {origin : State} (s : State) (g : Nat) (frame : Only M origin s) (inMask : 0x140000000600001002 ||| M = M) : Only M origin (State.sweepWindows s g) := by
  refine Only.step frame (G := 0x140000000600001002) ?_ inMask
  unfold State.sweepWindows
  repeat' first
    | with_reducible exact Only.refl _ _
    | with_reducible assumption
    | with_reducible apply Only.ite
    | with_reducible apply Only.foldl
    | with_reducible apply Only.fst_ite
    | with_reducible apply Only.snd_ite
    | with_reducible apply State.sweepCells_only
    | with_reducible (refine Only.of_snd (by assumption) ?_; apply State.sweepCells_only)
    | with_reducible apply State.setRegion_only
    | decide
    | intro _ _
    | intro _
    | dsimp only
    | split

theorem execAgeSweep_only {M : Nat} {origin : State} (g : RegionId) (s : State) (frame : Only M origin s) (inMask : 0x140000000600003802 ||| M = M) : Ends M origin (execAgeSweep g s) := by
  refine Ends.step frame (G := 0x140000000600003802) ?_ inMask
  unfold execAgeSweep
  repeat' first
    | with_reducible exact Only.refl _ _
    | with_reducible assumption
    | with_reducible apply Only.ite
    | with_reducible apply Only.foldl
    | with_reducible apply Only.fst_ite
    | with_reducible apply Only.snd_ite
    | with_reducible apply State.dropIngress_only
    | with_reducible apply State.inc64_only
    | with_reducible apply State.dropHeldFrame_only
    | with_reducible apply State.expireAll_only
    | with_reducible apply State.removeHostCopies_only
    | with_reducible apply State.sweepWindows_only
    | with_reducible apply Ends.next
    | with_reducible apply Ends.ite
    | decide
    | intro _ _
    | intro _
    | dsimp only
    | split

theorem execGateListActivation_only {M : Nat} {origin : State} (p : PortId) (s : State) (frame : Only M origin s) (inMask : 0x200800406 ||| M = M) : Ends M origin (execGateListActivation p s) := by
  refine Ends.step frame (G := 0x200800406) ?_ inMask
  unfold execGateListActivation
  repeat' first
    | with_reducible exact Only.refl _ _
    | with_reducible assumption
    | with_reducible apply Only.ite
    | with_reducible apply Only.foldl
    | with_reducible apply Only.fst_ite
    | with_reducible apply Only.snd_ite
    | with_reducible apply State.setEg_only
    | with_reducible apply State.setNat_only
    | with_reducible apply State.setBlob_only
    | with_reducible apply State.activateContracts_only
    | with_reducible apply Ends.next
    | with_reducible apply Ends.ite
    | decide
    | intro _ _
    | intro _
    | dsimp only
    | split

theorem execGateIntervalEnd_only {M : Nat} {origin : State} (p : PortId) (s : State) (frame : Only M origin s) (inMask : 0x400 ||| M = M) : Ends M origin (execGateIntervalEnd p s) := by
  refine Ends.step frame (G := 0x400) ?_ inMask
  unfold execGateIntervalEnd
  repeat' first
    | with_reducible exact Only.refl _ _
    | with_reducible assumption
    | with_reducible apply Only.ite
    | with_reducible apply Only.foldl
    | with_reducible apply Only.fst_ite
    | with_reducible apply Only.snd_ite
    | with_reducible apply State.setEg_only
    | with_reducible apply Ends.next
    | with_reducible apply Ends.ite
    | decide
    | intro _ _
    | intro _
    | dsimp only
    | split

theorem execQueueFlush_only {M : Nat} {origin : State} (p : PortId) (q : Fin 32) (s : State) (frame : Only M origin s) (inMask : 0x140000000000001802 ||| M = M) : Ends M origin (execQueueFlush p q s) := by
  refine Ends.step frame (G := 0x140000000000001802) ?_ inMask
  unfold execQueueFlush
  repeat' first
    | with_reducible exact Only.refl _ _
    | with_reducible assumption
    | with_reducible apply Only.ite
    | with_reducible apply Only.foldl
    | with_reducible apply Only.fst_ite
    | with_reducible apply Only.snd_ite
    | with_reducible apply State.setQueue_only
    | with_reducible apply State.flushQueue_only
    | with_reducible apply Ends.next
    | with_reducible apply Ends.ite
    | decide
    | intro _ _
    | intro _
    | dsimp only
    | split

theorem State.bankError_only {M : Nat} {origin : State} (s : State) (g bank : Nat) (frame : Only M origin s) (inMask : 0x140000000000001000 ||| M = M) : Only M origin (State.bankError s g bank) := by
  refine Only.step frame (G := 0x140000000000001000) ?_ inMask
  unfold State.bankError
  repeat' first
    | with_reducible exact Only.refl _ _
    | with_reducible assumption
    | with_reducible apply Only.ite
    | with_reducible apply Only.foldl
    | with_reducible apply Only.fst_ite
    | with_reducible apply Only.snd_ite
    | with_reducible apply State.setRegion_only
    | with_reducible apply State.raise_only
    | decide
    | intro _ _
    | intro _
    | dsimp only
    | split

theorem State.spoil_only {M : Nat} {origin : State} (s : State) (g : Nat) (h : HeldPlace) (frame : Only M origin s) (inMask : 0x3800 ||| M = M) : Only M origin (State.spoil s g h) := by
  refine Only.step frame (G := 0x3800) ?_ inMask
  unfold State.spoil
  repeat' first
    | with_reducible exact Only.refl _ _
    | with_reducible assumption
    | with_reducible apply Only.ite
    | with_reducible apply Only.foldl
    | with_reducible apply Only.fst_ite
    | with_reducible apply Only.snd_ite
    | with_reducible apply State.setRegion_only
    | with_reducible apply State.setRx_only
    | decide
    | intro _ _
    | intro _
    | dsimp only
    | split
    | with_reducible apply Only.upd_queues

theorem State.returnBank_only {M : Nat} {origin : State} (s : State) (g bank : Nat) (frame : Only M origin s) (inMask : 0x140000000000001002 ||| M = M) : Only M origin (State.returnBank s g bank) := by
  refine Only.step frame (G := 0x140000000000001002) ?_ inMask
  unfold State.returnBank
  repeat' first
    | with_reducible exact Only.refl _ _
    | with_reducible assumption
    | with_reducible apply Only.ite
    | with_reducible apply Only.foldl
    | with_reducible apply Only.fst_ite
    | with_reducible apply Only.snd_ite
    | with_reducible apply State.setNat_only
    | with_reducible apply State.setRegion_only
    | with_reducible apply State.judgePool_only
    | decide
    | intro _ _
    | intro _
    | dsimp only
    | split

theorem execBufferScrub_only {M : Nat} {origin : State} (g : RegionId) (bank : Fin 16) (held : Option HeldPlace) (finding : EccFinding) (s : State) (frame : Only M origin s) (inMask : 0x140000000000003802 ||| M = M) : Ends M origin (execBufferScrub g bank held finding s) := by
  refine Ends.step frame (G := 0x140000000000003802) ?_ inMask
  unfold execBufferScrub
  repeat' first
    | with_reducible exact Only.refl _ _
    | with_reducible assumption
    | with_reducible apply Only.ite
    | with_reducible apply Only.foldl
    | with_reducible apply Only.fst_ite
    | with_reducible apply Only.snd_ite
    | with_reducible apply State.returnBank_only
    | with_reducible apply State.inc64_only
    | with_reducible apply State.bankError_only
    | with_reducible apply State.spoil_only
    | with_reducible apply State.setRegion_only
    | with_reducible apply Ends.next
    | with_reducible apply Ends.ite
    | decide
    | intro _ _
    | intro _
    | dsimp only
    | split

end Sys2Proof.Machine
end

