-- ==== Sys2Proof/Laws/Frames/Rings.lean ====
section
/-! SUPPORT. What each operation of Machine/Rings.lean leaves as it was: the frame of every one. -/

set_option linter.unusedTactic false
set_option linter.unreachableTactic false

namespace Sys2Proof.Machine

open Host (Outcome)

theorem State.ringBoundary_only {M : Nat} {origin : State} (s : State) (g i : Nat) (frame : Only M origin s) (inMask : 0x800000000000000000002 ||| M = M) : Only M origin (State.ringBoundary s g i) := by
  refine Only.step frame (G := 0x800000000000000000002) ?_ inMask
  unfold State.ringBoundary
  repeat' first
    | with_reducible exact Only.refl _ _
    | with_reducible assumption
    | with_reducible apply Only.ite
    | with_reducible apply Only.foldl
    | with_reducible apply Only.fst_ite
    | with_reducible apply Only.snd_ite
    | with_reducible apply State.setNat_only
    | with_reducible apply State.setRingX_only
    | decide
    | intro _ _
    | intro _
    | dsimp only
    | split

theorem State.countUnsupported_only {M : Nat} {origin : State} (s : State) (c : Copy) (frame : Only M origin s) (inMask : 0x8000000000000 ||| M = M) : Only M origin (State.countUnsupported s c) := by
  refine Only.step frame (G := 0x8000000000000) ?_ inMask
  unfold State.countUnsupported
  repeat' first
    | with_reducible exact Only.refl _ _
    | with_reducible assumption
    | with_reducible apply Only.ite
    | with_reducible apply Only.foldl
    | with_reducible apply Only.fst_ite
    | with_reducible apply Only.snd_ite
    | decide
    | intro _ _
    | intro _
    | dsimp only
    | split
    | with_reducible apply Only.upd_ptpDiscarded

theorem State.takeFromRing_only {M : Nat} {origin : State} (s : State) (t : Fin 64 × Nat) (frame : Only M origin s) (inMask : 0x800000008000000000000 ||| M = M) : Only M origin (State.takeFromRing s t) := by
  refine Only.step frame (G := 0x800000008000000000000) ?_ inMask
  unfold State.takeFromRing
  repeat' first
    | with_reducible exact Only.refl _ _
    | with_reducible assumption
    | with_reducible apply Only.ite
    | with_reducible apply Only.foldl
    | with_reducible apply Only.fst_ite
    | with_reducible apply Only.snd_ite
    | with_reducible apply State.countUnsupported_only
    | with_reducible apply State.setRingX_only
    | decide
    | intro _ _
    | intro _
    | dsimp only
    | split

theorem State.toCoverBuffer_only {M : Nat} {origin : State} (s : State) (c : Copy) (frame : Only M origin s) (inMask : 0x20000000000000002 ||| M = M) : Only M origin (State.toCoverBuffer s c) := by
  refine Only.step frame (G := 0x20000000000000002) ?_ inMask
  unfold State.toCoverBuffer
  repeat' first
    | with_reducible exact Only.refl _ _
    | with_reducible assumption
    | with_reducible apply Only.ite
    | with_reducible apply Only.foldl
    | with_reducible apply Only.fst_ite
    | with_reducible apply Only.snd_ite
    | with_reducible apply State.inc64_only
    | decide
    | intro _ _
    | intro _
    | dsimp only
    | split
    | with_reducible apply Only.upd_twin

theorem State.placeInRing_only {M : Nat} {origin : State} (s : State) (c : Copy) (frame : Only M origin s) (inMask : 0xc00020000000000000002 ||| M = M) : Only M origin (State.placeInRing s c) := by
  refine Only.step frame (G := 0xc00020000000000000002) ?_ inMask
  unfold State.placeInRing
  repeat' first
    | with_reducible exact Only.refl _ _
    | with_reducible assumption
    | with_reducible apply Only.ite
    | with_reducible apply Only.foldl
    | with_reducible apply Only.fst_ite
    | with_reducible apply Only.snd_ite
    | with_reducible apply State.toCoverBuffer_only
    | with_reducible apply State.setRingX_only
    | with_reducible apply State.sendEvent_only
    | decide
    | intro _ _
    | intro _
    | dsimp only
    | split

theorem State.completeHub_only {M : Nat} {origin : State} (s : State) (g : Nat) (frame : Only M origin s) (inMask : 0xc00020000000000001002 ||| M = M) : Only M origin (State.completeHub s g) := by
  refine Only.step frame (G := 0xc00020000000000001002) ?_ inMask
  unfold State.completeHub
  repeat' first
    | with_reducible exact Only.refl _ _
    | with_reducible assumption
    | with_reducible apply Only.ite
    | with_reducible apply Only.foldl
    | with_reducible apply Only.fst_ite
    | with_reducible apply Only.snd_ite
    | with_reducible apply State.setRegion_only
    | with_reducible apply State.placeInRing_only
    | decide
    | intro _ _
    | intro _
    | dsimp only
    | split

theorem State.takeHub_only {M : Nat} {origin : State} (s : State) (g : Nat) (n : Nat)
    (frame : Only M origin s) (inMask : 0x140000000000001802 ||| M = M) : Only M origin (State.takeHub s g n) := by
  refine Only.step frame (G := 0x140000000000001802) ?_ inMask
  clear frame inMask
  induction n generalizing s with
  | zero => exact Only.refl _ _
  | succ n ih =>
    have ih' : ∀ {M : Nat} {origin s : State}, Only M origin s → 0x140000000000001802 ||| M = M →
        Only M origin (State.takeHub s g n) := fun a b => a.step (ih _) b
    unfold State.takeHub
    repeat' first
      | with_reducible exact Only.refl _ _
      | with_reducible assumption
      | with_reducible apply Only.ite
      | with_reducible apply Only.foldl
      | with_reducible apply Only.fst_ite
      | with_reducible apply Only.snd_ite
      | with_reducible apply State.readWords_only
      | with_reducible apply State.countSpoilt_only
      | with_reducible apply State.removeHostCopies_only
      | with_reducible apply State.setRegion_only
      | with_reducible apply ih'
      | decide
      | intro _ _
      | intro _
      | dsimp only
      | split


theorem State.beginHub_only {M : Nat} {origin : State} (s : State) (g : Nat) (frame : Only M origin s) (inMask : 0x140000000000001802 ||| M = M) : Only M origin (State.beginHub s g) := by
  refine Only.step frame (G := 0x140000000000001802) ?_ inMask
  unfold State.beginHub
  repeat' first
    | with_reducible exact Only.refl _ _
    | with_reducible assumption
    | with_reducible apply Only.ite
    | with_reducible apply Only.foldl
    | with_reducible apply Only.fst_ite
    | with_reducible apply Only.snd_ite
    | with_reducible apply State.takeHub_only
    | decide
    | intro _ _
    | intro _
    | dsimp only
    | split

theorem State.writeRing_only {M : Nat} {origin : State} (s : State) (i : Nat) (f : HubFrame) (frame : Only M origin s) (inMask : 0x800000000000000000000 ||| M = M) : Only M origin (State.writeRing s i f) := by
  refine Only.step frame (G := 0x800000000000000000000) ?_ inMask
  unfold State.writeRing
  repeat' first
    | with_reducible exact Only.refl _ _
    | with_reducible assumption
    | with_reducible apply Only.ite
    | with_reducible apply Only.foldl
    | with_reducible apply Only.fst_ite
    | with_reducible apply Only.snd_ite
    | with_reducible apply State.setRingX_only
    | decide
    | intro _ _
    | intro _
    | dsimp only
    | split

theorem State.resumeWriting_only {M : Nat} {origin : State} (s : State) (i : Nat) (frame : Only M origin s) (inMask : 0x800000000000000000000 ||| M = M) : Only M origin (State.resumeWriting s i) := by
  refine Only.step frame (G := 0x800000000000000000000) ?_ inMask
  unfold State.resumeWriting
  repeat' first
    | with_reducible exact Only.refl _ _
    | with_reducible assumption
    | with_reducible apply Only.ite
    | with_reducible apply Only.foldl
    | with_reducible apply Only.fst_ite
    | with_reducible apply Only.snd_ite
    | with_reducible apply State.setRingX_only
    | decide
    | intro _ _
    | intro _
    | dsimp only
    | split

theorem State.takeDown_only {M : Nat} {origin : State} (s : State) (g cls i : Nat) (frame : Only M origin s) (inMask : 0x800000000000000001000 ||| M = M) : Only M origin (State.takeDown s g cls i) := by
  refine Only.step frame (G := 0x800000000000000001000) ?_ inMask
  unfold State.takeDown
  repeat' first
    | with_reducible exact Only.refl _ _
    | with_reducible assumption
    | with_reducible apply Only.ite
    | with_reducible apply Only.foldl
    | with_reducible apply Only.fst_ite
    | with_reducible apply Only.snd_ite
    | with_reducible apply State.setRegion_only
    | with_reducible apply State.setRingX_only
    | with_reducible apply State.resumeWriting_only
    | decide
    | intro _ _
    | intro _
    | dsimp only
    | split

theorem State.spendHub_only {M : Nat} {origin : State} (s : State) (g n : Nat) (frame : Only M origin s) (inMask : 0x1000 ||| M = M) : Only M origin (State.spendHub s g n) := by
  refine Only.step frame (G := 0x1000) ?_ inMask
  unfold State.spendHub
  repeat' first
    | with_reducible exact Only.refl _ _
    | with_reducible assumption
    | with_reducible apply Only.ite
    | with_reducible apply Only.foldl
    | with_reducible apply Only.fst_ite
    | with_reducible apply Only.snd_ite
    | with_reducible apply State.setRegion_only
    | decide
    | intro _ _
    | intro _
    | dsimp only
    | split

theorem State.serveDown_only {M : Nat} {origin : State} (s : State) (g : Nat) (frame : Only M origin s) (inMask : 0x800140000000000005002 ||| M = M) : Only M origin (State.serveDown s g) := by
  refine Only.step frame (G := 0x800140000000000005002) ?_ inMask
  unfold State.serveDown
  repeat' first
    | with_reducible exact Only.refl _ _
    | with_reducible assumption
    | with_reducible apply Only.ite
    | with_reducible apply Only.foldl
    | with_reducible apply Only.fst_ite
    | with_reducible apply Only.snd_ite
    | with_reducible apply State.takeDown_only
    | with_reducible apply State.countDiscarded_only
    | with_reducible apply State.spendHub_only
    | with_reducible apply State.hubFrame_only
    | decide
    | intro _ _
    | intro _
    | dsimp only
    | split

theorem State.serveAllDown_only {M : Nat} {origin : State} (s : State) (g : Nat) (frame : Only M origin s) (inMask : 0x800140000000000005002 ||| M = M) : Only M origin (State.serveAllDown s g) := by
  refine Only.step frame (G := 0x800140000000000005002) ?_ inMask
  unfold State.serveAllDown
  repeat' first
    | with_reducible exact Only.refl _ _
    | with_reducible assumption
    | with_reducible apply Only.ite
    | with_reducible apply Only.foldl
    | with_reducible apply Only.fst_ite
    | with_reducible apply Only.snd_ite
    | with_reducible apply State.serveDown_only
    | decide
    | intro _ _
    | intro _
    | dsimp only
    | split

theorem execHubFrameSend_only {M : Nat} {origin : State} (ring : Fin 64) (kind : Fin 4) (destination untag : Nat) (priority : Fin 8) (queue : Fin 32) (payload : List Byte) (tag : BitVec 8) (insert : Fin 4) (passed : Int) (ingress : Option PortId) (s : State) (frame : Only M origin s) (inMask : 0x800140000000000005002 ||| M = M) : Ends M origin (execHubFrameSend ring kind destination untag priority queue payload tag insert passed ingress s) := by
  refine Ends.step frame (G := 0x800140000000000005002) ?_ inMask
  unfold execHubFrameSend
  repeat' first
    | with_reducible exact Only.refl _ _
    | with_reducible assumption
    | with_reducible apply Only.ite
    | with_reducible apply Only.foldl
    | with_reducible apply Only.fst_ite
    | with_reducible apply Only.snd_ite
    | with_reducible apply State.writeRing_only
    | with_reducible apply State.serveAllDown_only
    | with_reducible apply Ends.next
    | with_reducible apply Ends.ite
    | decide
    | intro _ _
    | intro _
    | dsimp only
    | split

theorem State.hubBoundaryDown_only {M : Nat} {origin : State} (s : State) (g : Nat) (frame : Only M origin s) (inMask : 0x800140000000000005002 ||| M = M) : Only M origin (State.hubBoundaryDown s g) := by
  refine Only.step frame (G := 0x800140000000000005002) ?_ inMask
  unfold State.hubBoundaryDown
  repeat' first
    | with_reducible exact Only.refl _ _
    | with_reducible assumption
    | with_reducible apply Only.ite
    | with_reducible apply Only.foldl
    | with_reducible apply Only.fst_ite
    | with_reducible apply Only.snd_ite
    | with_reducible apply State.setRegion_only
    | with_reducible apply State.serveAllDown_only
    | decide
    | intro _ _
    | intro _
    | dsimp only
    | split

theorem execHubChannelFrameBoundary_only {M : Nat} {origin : State} (g : RegionId) (taken : List (Fin 64 × Nat)) (s : State) (frame : Only M origin s) (inMask : 0xc00160008003000005802 ||| M = M) : Ends M origin (execHubChannelFrameBoundary g taken s) := by
  refine Ends.step frame (G := 0xc00160008003000005802) ?_ inMask
  unfold execHubChannelFrameBoundary
  repeat' first
    | with_reducible exact Only.refl _ _
    | with_reducible assumption
    | with_reducible apply Only.ite
    | with_reducible apply Only.foldl
    | with_reducible apply Only.fst_ite
    | with_reducible apply Only.snd_ite
    | with_reducible apply State.takeFromRing_only
    | with_reducible apply State.closePacket_only
    | with_reducible apply State.ringBoundary_only
    | with_reducible apply State.completeHub_only
    | with_reducible apply State.beginHub_only
    | with_reducible apply State.hubBoundaryDown_only
    | with_reducible apply Ends.next
    | with_reducible apply Ends.ite
    | decide
    | intro _ _
    | intro _
    | dsimp only
    | split

end Sys2Proof.Machine
end

