-- ==== Sys2Proof/Laws/Frames/Fences.lean ====
section
/-! SUPPORT. What each operation of Machine/Fences.lean leaves as it was: the frame of every one. -/

set_option linter.unusedTactic false
set_option linter.unreachableTactic false

namespace Sys2Proof.Machine

open Host (Outcome)

theorem State.openWindow_only {M : Nat} {origin : State} (s : State) (cause : Nat) (reset : Bool) (l : FenceLevel) (i : Nat) (frame : Only M origin s) (inMask : 0x8000000000000000000 ||| M = M) : Only M origin (State.openWindow s cause reset l i) := by
  refine Only.step frame (G := 0x8000000000000000000) ?_ inMask
  unfold State.openWindow
  repeat' first
    | with_reducible exact Only.refl _ _
    | with_reducible assumption
    | with_reducible apply Only.ite
    | with_reducible apply Only.foldl
    | with_reducible apply Only.fst_ite
    | with_reducible apply Only.snd_ite
    | decide
    | intro _ _
    | intro _
    | dsimp only
    | split
    | with_reducible apply Only.upd_windows

theorem State.mask_only {M : Nat} {origin : State} (s : State) (l : FenceLevel) (i : Nat) (frame : Only M origin s) (inMask : 0x4000000000000000000 ||| M = M) : Only M origin (State.mask s l i) := by
  refine Only.step frame (G := 0x4000000000000000000) ?_ inMask
  unfold State.mask
  repeat' first
    | with_reducible exact Only.refl _ _
    | with_reducible assumption
    | with_reducible apply Only.ite
    | with_reducible apply Only.foldl
    | with_reducible apply Only.fst_ite
    | with_reducible apply Only.snd_ite
    | decide
    | intro _ _
    | intro _
    | dsimp only
    | split
    | with_reducible apply Only.upd_masks

theorem State.judgeRun_only {M : Nat} {origin : State} (s : State) (frame : Only M origin s) (inMask : 0x100000000000000000042 ||| M = M) : Only M origin (State.judgeRun s) := by
  refine Only.step frame (G := 0x100000000000000000042) ?_ inMask
  unfold State.judgeRun
  repeat' first
    | with_reducible exact Only.refl _ _
    | with_reducible assumption
    | with_reducible apply Only.ite
    | with_reducible apply Only.foldl
    | with_reducible apply Only.fst_ite
    | with_reducible apply Only.snd_ite
    | with_reducible apply State.setRunState_only
    | decide
    | intro _ _
    | intro _
    | dsimp only
    | split

theorem State.stopPort_only {M : Nat} {origin : State} (s : State) (p : Nat) (frame : Only M origin s) (inMask : 0x5001707f4140000003fc2 ||| M = M) : Only M origin (State.stopPort s p) := by
  refine Only.step frame (G := 0x5001707f4140000003fc2) ?_ inMask
  unfold State.stopPort
  repeat' first
    | with_reducible exact Only.refl _ _
    | with_reducible assumption
    | with_reducible apply Only.ite
    | with_reducible apply Only.foldl
    | with_reducible apply Only.fst_ite
    | with_reducible apply Only.snd_ite
    | with_reducible apply State.portDown_only
    | with_reducible apply State.setPort_only
    | with_reducible apply State.laneOff_only
    | decide
    | intro _ _
    | intro _
    | dsimp only
    | split

theorem State.startPort_only {M : Nat} {origin : State} (s : State) (p : Nat) (frame : Only M origin s) (inMask : 0x5001707f4140000003fc2 ||| M = M) : Only M origin (State.startPort s p) := by
  refine Only.step frame (G := 0x5001707f4140000003fc2) ?_ inMask
  unfold State.startPort
  repeat' first
    | with_reducible exact Only.refl _ _
    | with_reducible assumption
    | with_reducible apply Only.ite
    | with_reducible apply Only.foldl
    | with_reducible apply Only.fst_ite
    | with_reducible apply Only.snd_ite
    | with_reducible apply State.setNat_only
    | with_reducible apply State.laneRestart_only
    | decide
    | intro _ _
    | intro _
    | dsimp only
    | split

theorem State.judgeStamp_only {M : Nat} {origin : State} (s : State) (p : Nat) (frame : Only M origin s) (inMask : 0x1001407f0040000000242 ||| M = M) : Only M origin (State.judgeStamp s p) := by
  refine Only.step frame (G := 0x1001407f0040000000242) ?_ inMask
  unfold State.judgeStamp
  repeat' first
    | with_reducible exact Only.refl _ _
    | with_reducible assumption
    | with_reducible apply Only.ite
    | with_reducible apply Only.foldl
    | with_reducible apply Only.fst_ite
    | with_reducible apply Only.snd_ite
    | with_reducible apply State.judgeDetectorCause_only
    | with_reducible apply State.refsUpdate_only
    | decide
    | intro _ _
    | intro _
    | dsimp only
    | split

theorem State.abandonCluster_only {M : Nat} {origin : State} (s : State) (c : Nat) (frame : Only M origin s) (inMask : 0x10004000000000002 ||| M = M) : Only M origin (State.abandonCluster s c) := by
  refine Only.step frame (G := 0x10004000000000002) ?_ inMask
  unfold State.abandonCluster
  repeat' first
    | with_reducible exact Only.refl _ _
    | with_reducible assumption
    | with_reducible apply Only.ite
    | with_reducible apply Only.foldl
    | with_reducible apply Only.fst_ite
    | with_reducible apply Only.snd_ite
    | with_reducible apply State.abandonLane_only
    | decide
    | intro _ _
    | intro _
    | dsimp only
    | split

theorem State.stopDetector_only {M : Nat} {origin : State} (s : State) (d : Nat) (frame : Only M origin s) (inMask : 0x1001507f4040000000242 ||| M = M) : Only M origin (State.stopDetector s d) := by
  refine Only.step frame (G := 0x1001507f4040000000242) ?_ inMask
  unfold State.stopDetector
  repeat' first
    | with_reducible exact Only.refl _ _
    | with_reducible assumption
    | with_reducible apply Only.ite
    | with_reducible apply Only.foldl
    | with_reducible apply Only.fst_ite
    | with_reducible apply Only.snd_ite
    | with_reducible apply State.abandonCluster_only
    | with_reducible apply State.setDetector_only
    | with_reducible apply State.setNat_only
    | with_reducible apply State.assignSpare_only
    | with_reducible apply State.judgeDetectors_only
    | with_reducible apply State.refsUpdate_only
    | with_reducible apply State.calibrateNext_only
    | decide
    | intro _ _
    | intro _
    | dsimp only
    | split

theorem State.startDetector_only {M : Nat} {origin : State} (s : State) (d : Nat) (frame : Only M origin s) (inMask : 0x1001407f4040000000242 ||| M = M) : Only M origin (State.startDetector s d) := by
  refine Only.step frame (G := 0x1001407f4040000000242) ?_ inMask
  unfold State.startDetector
  repeat' first
    | with_reducible exact Only.refl _ _
    | with_reducible assumption
    | with_reducible apply Only.ite
    | with_reducible apply Only.foldl
    | with_reducible apply Only.fst_ite
    | with_reducible apply Only.snd_ite
    | with_reducible apply State.assignSpare_only
    | with_reducible apply State.putBit_only
    | with_reducible apply State.judgeDetectors_only
    | with_reducible apply State.refsUpdate_only
    | with_reducible apply State.calibrateNext_only
    | decide
    | intro _ _
    | intro _
    | dsimp only
    | split

theorem State.loseHeld_only {M : Nat} {origin : State} (s : State) (p : Nat) (hit : Cell → Bool) (frame : Only M origin s) (inMask : 0x140000000000003002 ||| M = M) : Only M origin (State.loseHeld s p hit) := by
  refine Only.step frame (G := 0x140000000000003002) ?_ inMask
  unfold State.loseHeld
  repeat' first
    | with_reducible exact Only.refl _ _
    | with_reducible assumption
    | with_reducible apply Only.ite
    | with_reducible apply Only.foldl
    | with_reducible apply Only.fst_ite
    | with_reducible apply Only.snd_ite
    | with_reducible apply State.returnCell_only
    | with_reducible apply State.setRx_only
    | with_reducible apply State.inc64_only
    | decide
    | intro _ _
    | intro _
    | dsimp only
    | split

theorem State.loseHosted_only {M : Nat} {origin : State} (s : State) (g : Nat) (hit : Cell → Bool) (frame : Only M origin s) (inMask : 0x140000000000001002 ||| M = M) : Only M origin (State.loseHosted s g hit) := by
  refine Only.step frame (G := 0x140000000000001002) ?_ inMask
  unfold State.loseHosted
  repeat' first
    | with_reducible exact Only.refl _ _
    | with_reducible assumption
    | with_reducible apply Only.ite
    | with_reducible apply Only.foldl
    | with_reducible apply Only.fst_ite
    | with_reducible apply Only.snd_ite
    | with_reducible apply State.inc64_only
    | with_reducible apply State.removeHostCopies_only
    | decide
    | intro _ _
    | intro _
    | dsimp only
    | split

theorem State.stopBank_only {M : Nat} {origin : State} (s : State) (b : Nat) (frame : Only M origin s) (inMask : 0x800000140000000600003802 ||| M = M) : Only M origin (State.stopBank s b) := by
  refine Only.step frame (G := 0x800000140000000600003802) ?_ inMask
  unfold State.stopBank
  repeat' first
    | with_reducible exact Only.refl _ _
    | with_reducible assumption
    | with_reducible apply Only.ite
    | with_reducible apply Only.foldl
    | with_reducible apply Only.fst_ite
    | with_reducible apply Only.snd_ite
    | with_reducible apply State.setNat_only
    | with_reducible apply State.setRegion_only
    | with_reducible apply State.loseHeld_only
    | with_reducible apply State.loseHosted_only
    | with_reducible apply State.badCopies_only
    | with_reducible apply State.judgePool_only
    | decide
    | intro _ _
    | intro _
    | dsimp only
    | split
    | with_reducible apply Only.upd_bankDraws

theorem State.startBank_only {M : Nat} {origin : State} (s : State) (b : Nat) (frame : Only M origin s) (inMask : 0x1000 ||| M = M) : Only M origin (State.startBank s b) := by
  refine Only.step frame (G := 0x1000) ?_ inMask
  unfold State.startBank
  repeat' first
    | with_reducible exact Only.refl _ _
    | with_reducible assumption
    | with_reducible apply Only.ite
    | with_reducible apply Only.foldl
    | with_reducible apply Only.fst_ite
    | with_reducible apply Only.snd_ite
    | with_reducible apply State.setRegion_only
    | decide
    | intro _ _
    | intro _
    | dsimp only
    | split

theorem State.judgeSubstitutes_only {M : Nat} {origin : State} (s : State) (frame : Only M origin s) (inMask : 0x2 ||| M = M) : Only M origin (State.judgeSubstitutes s) := by
  refine Only.step frame (G := 0x2) ?_ inMask
  unfold State.judgeSubstitutes
  repeat' first
    | with_reducible exact Only.refl _ _
    | with_reducible assumption
    | with_reducible apply Only.ite
    | with_reducible apply Only.foldl
    | with_reducible apply Only.fst_ite
    | with_reducible apply Only.snd_ite
    | with_reducible apply State.setNat_only
    | decide
    | intro _ _
    | intro _
    | dsimp only
    | split

theorem State.resetEngine_only {M : Nat} {origin : State} (s : State) (e st : Nat) (frame : Only M origin s) (inMask : 0x400000000000000000002 ||| M = M) : Only M origin (State.resetEngine s e st) := by
  refine Only.step frame (G := 0x400000000000000000002) ?_ inMask
  unfold State.resetEngine
  repeat' first
    | with_reducible exact Only.refl _ _
    | with_reducible assumption
    | with_reducible apply Only.ite
    | with_reducible apply Only.foldl
    | with_reducible apply Only.fst_ite
    | with_reducible apply Only.snd_ite
    | with_reducible apply State.addSat_only
    | with_reducible apply State.setEngine_only
    | with_reducible apply State.setNat_only
    | decide
    | intro _ _
    | intro _
    | dsimp only
    | split

theorem State.stopEngine_only {M : Nat} {origin : State} (s : State) (e : Nat) (frame : Only M origin s) (inMask : 0x400000000000000000002 ||| M = M) : Only M origin (State.stopEngine s e) := by
  refine Only.step frame (G := 0x400000000000000000002) ?_ inMask
  unfold State.stopEngine
  repeat' first
    | with_reducible exact Only.refl _ _
    | with_reducible assumption
    | with_reducible apply Only.ite
    | with_reducible apply Only.foldl
    | with_reducible apply Only.fst_ite
    | with_reducible apply Only.snd_ite
    | with_reducible apply State.resetEngine_only
    | with_reducible apply State.judgeSubstitutes_only
    | decide
    | intro _ _
    | intro _
    | dsimp only
    | split

theorem State.startEngine_only {M : Nat} {origin : State} (s : State) (e : Nat) (frame : Only M origin s) (inMask : 0x400000000000000000002 ||| M = M) : Only M origin (State.startEngine s e) := by
  refine Only.step frame (G := 0x400000000000000000002) ?_ inMask
  unfold State.startEngine
  repeat' first
    | with_reducible exact Only.refl _ _
    | with_reducible assumption
    | with_reducible apply Only.ite
    | with_reducible apply Only.foldl
    | with_reducible apply Only.fst_ite
    | with_reducible apply Only.snd_ite
    | with_reducible apply State.resetEngine_only
    | with_reducible apply State.judgeSubstitutes_only
    | decide
    | intro _ _
    | intro _
    | dsimp only
    | split

theorem State.stopCluster_only {M : Nat} {origin : State} (s : State) (c : Nat) (frame : Only M origin s) (inMask : 0x5001707f6143002003fc2 ||| M = M) : Only M origin (State.stopCluster s c) := by
  refine Only.step frame (G := 0x5001707f6143002003fc2) ?_ inMask
  unfold State.stopCluster
  repeat' first
    | with_reducible exact Only.refl _ _
    | with_reducible assumption
    | with_reducible apply Only.ite
    | with_reducible apply Only.foldl
    | with_reducible apply Only.fst_ite
    | with_reducible apply Only.snd_ite
    | with_reducible apply State.abandonCluster_only
    | with_reducible apply State.stopPort_only
    | with_reducible apply State.setDetector_only
    | with_reducible apply State.setNat_only
    | with_reducible apply State.setReplica_only
    | with_reducible apply State.shutCrossing_only
    | decide
    | intro _ _
    | intro _
    | dsimp only
    | split
    | with_reducible apply Only.upd_invalid

theorem State.startCluster_only {M : Nat} {origin : State} (s : State) (c : Nat) (frame : Only M origin s) (inMask : 0x5001707f4143000003fc2 ||| M = M) : Only M origin (State.startCluster s c) := by
  refine Only.step frame (G := 0x5001707f4143000003fc2) ?_ inMask
  unfold State.startCluster
  repeat' first
    | with_reducible exact Only.refl _ _
    | with_reducible assumption
    | with_reducible apply Only.ite
    | with_reducible apply Only.foldl
    | with_reducible apply Only.fst_ite
    | with_reducible apply Only.snd_ite
    | with_reducible apply State.flushCrossing_only
    | with_reducible apply State.makeStale_only
    | with_reducible apply State.startPort_only
    | decide
    | intro _ _
    | intro _
    | dsimp only
    | split

theorem State.judgeModReset_only {M : Nat} {origin : State} (s : State) (c : Nat) (frame : Only M origin s) (inMask : 0x10000 ||| M = M) : Only M origin (State.judgeModReset s c) := by
  refine Only.step frame (G := 0x10000) ?_ inMask
  unfold State.judgeModReset
  repeat' first
    | with_reducible exact Only.refl _ _
    | with_reducible assumption
    | with_reducible apply Only.ite
    | with_reducible apply Only.foldl
    | with_reducible apply Only.fst_ite
    | with_reducible apply Only.snd_ite
    | with_reducible apply State.putModReset_only
    | decide
    | intro _ _
    | intro _
    | dsimp only
    | split

theorem State.closeOpenEpochs_only {M : Nat} {origin : State} (s : State) (frame : Only M origin s) (inMask : 0x140000000700001802 ||| M = M) : Only M origin (State.closeOpenEpochs s) := by
  refine Only.step frame (G := 0x140000000700001802) ?_ inMask
  unfold State.closeOpenEpochs
  repeat' first
    | with_reducible exact Only.refl _ _
    | with_reducible assumption
    | with_reducible apply Only.ite
    | with_reducible apply Only.foldl
    | with_reducible apply Only.fst_ite
    | with_reducible apply Only.snd_ite
    | with_reducible apply State.closeEpoch_only
    | decide
    | intro _ _
    | intro _
    | dsimp only
    | split

theorem State.markEpochChange_only {M : Nat} {origin : State} (s : State) (frame : Only M origin s) (inMask : 0x1000003800 ||| M = M) : Only M origin (State.markEpochChange s) := by
  refine Only.step frame (G := 0x1000003800) ?_ inMask
  unfold State.markEpochChange
  repeat' first
    | with_reducible exact Only.refl _ _
    | with_reducible assumption
    | with_reducible apply Only.ite
    | with_reducible apply Only.foldl
    | with_reducible apply Only.fst_ite
    | with_reducible apply Only.snd_ite
    | decide
    | intro _ _
    | intro _
    | dsimp only
    | split
    | with_reducible apply Only.upd_flights_queues_and2

theorem State.raiseEpochs_only {M : Nat} {origin : State} (s : State) (frame : Only M origin s) (inMask : 0x140000001700003802 ||| M = M) : Only M origin (State.raiseEpochs s) := by
  refine Only.step frame (G := 0x140000001700003802) ?_ inMask
  unfold State.raiseEpochs
  repeat' first
    | with_reducible exact Only.refl _ _
    | with_reducible assumption
    | with_reducible apply Only.ite
    | with_reducible apply Only.foldl
    | with_reducible apply Only.fst_ite
    | with_reducible apply Only.snd_ite
    | with_reducible apply State.closeOpenEpochs_only
    | with_reducible apply State.markEpochChange_only
    | with_reducible apply State.setRegion_only
    | decide
    | intro _ _
    | intro _
    | dsimp only
    | split

theorem State.dropTowards_only {M : Nat} {origin : State} (s : State) (g f : Nat) (frame : Only M origin s) (inMask : 0x140000000000001002 ||| M = M) : Only M origin (State.dropTowards s g f) := by
  refine Only.step frame (G := 0x140000000000001002) ?_ inMask
  unfold State.dropTowards
  repeat' first
    | with_reducible exact Only.refl _ _
    | with_reducible assumption
    | with_reducible apply Only.ite
    | with_reducible apply Only.foldl
    | with_reducible apply Only.fst_ite
    | with_reducible apply Only.snd_ite
    | with_reducible apply State.setRegion_only
    | with_reducible apply State.returnIngress_only
    | with_reducible apply State.addSat_only
    | decide
    | intro _ _
    | intro _
    | dsimp only
    | split

theorem State.dropFlights_only {M : Nat} {origin : State} (s : State) (g : Nat) (frame : Only M origin s) (inMask : 0x1000001002 ||| M = M) : Only M origin (State.dropFlights s g) := by
  refine Only.step frame (G := 0x1000001002) ?_ inMask
  unfold State.dropFlights
  repeat' first
    | with_reducible exact Only.refl _ _
    | with_reducible assumption
    | with_reducible apply Only.ite
    | with_reducible apply Only.foldl
    | with_reducible apply Only.fst_ite
    | with_reducible apply Only.snd_ite
    | with_reducible apply State.noteLost_only
    | with_reducible apply State.setFlight_only
    | with_reducible apply State.countDiscarded_only
    | decide
    | intro _ _
    | intro _
    | dsimp only
    | split

theorem State.loseTransit_only {M : Nat} {origin : State} (s : State) (g : Nat) (frame : Only M origin s) (inMask : 0x1000 ||| M = M) : Only M origin (State.loseTransit s g) := by
  refine Only.step frame (G := 0x1000) ?_ inMask
  unfold State.loseTransit
  repeat' first
    | with_reducible exact Only.refl _ _
    | with_reducible assumption
    | with_reducible apply Only.ite
    | with_reducible apply Only.foldl
    | with_reducible apply Only.fst_ite
    | with_reducible apply Only.snd_ite
    | with_reducible apply State.noteLost_only
    | decide
    | intro _ _
    | intro _
    | dsimp only
    | split

theorem State.clearRegion_only {M : Nat} {origin : State} (s : State) (g : Nat) (frame : Only M origin s) (inMask : 0x140000000000003802 ||| M = M) : Only M origin (State.clearRegion s g) := by
  refine Only.step frame (G := 0x140000000000003802) ?_ inMask
  unfold State.clearRegion
  repeat' first
    | with_reducible exact Only.refl _ _
    | with_reducible assumption
    | with_reducible apply Only.ite
    | with_reducible apply Only.foldl
    | with_reducible apply Only.fst_ite
    | with_reducible apply Only.snd_ite
    | with_reducible apply State.setRx_only
    | with_reducible apply State.setRegion_only
    | with_reducible apply State.judgeQueue_only
    | with_reducible apply State.judgePool_only
    | decide
    | intro _ _
    | intro _
    | dsimp only
    | split
    | with_reducible apply Only.upd_queues

theorem State.zeroRegion_only {M : Nat} {origin : State} (s : State) (g : Nat) (frame : Only M origin s) (inMask : 0x2 ||| M = M) : Only M origin (State.zeroRegion s g) := by
  refine Only.step frame (G := 0x2) ?_ inMask
  unfold State.zeroRegion
  repeat' first
    | with_reducible exact Only.refl _ _
    | with_reducible assumption
    | with_reducible apply Only.ite
    | with_reducible apply Only.foldl
    | with_reducible apply Only.fst_ite
    | with_reducible apply Only.snd_ite
    | with_reducible apply State.setNat_only
    | decide
    | intro _ _
    | intro _
    | dsimp only
    | split

theorem State.moveRings_only {M : Nat} {origin : State} (s : State) (g : Nat) (carried : Option Copy) (frame : Only M origin s) (inMask : 0x800000000000000000002 ||| M = M) : Only M origin (State.moveRings s g carried) := by
  refine Only.step frame (G := 0x800000000000000000002) ?_ inMask
  unfold State.moveRings
  repeat' first
    | with_reducible exact Only.refl _ _
    | with_reducible assumption
    | with_reducible apply Only.ite
    | with_reducible apply Only.foldl
    | with_reducible apply Only.fst_ite
    | with_reducible apply Only.snd_ite
    | with_reducible apply State.inc64_only
    | with_reducible apply State.setRingX_only
    | with_reducible apply State.setNat_only
    | decide
    | intro _ _
    | intro _
    | dsimp only
    | split

theorem State.returnRings_only {M : Nat} {origin : State} (s : State) (g : Nat) (frame : Only M origin s) (inMask : 0x800000000000000000000 ||| M = M) : Only M origin (State.returnRings s g) := by
  refine Only.step frame (G := 0x800000000000000000000) ?_ inMask
  unfold State.returnRings
  repeat' first
    | with_reducible exact Only.refl _ _
    | with_reducible assumption
    | with_reducible apply Only.ite
    | with_reducible apply Only.foldl
    | with_reducible apply Only.fst_ite
    | with_reducible apply Only.snd_ite
    | with_reducible apply State.setRingX_only
    | decide
    | intro _ _
    | intro _
    | dsimp only
    | split

theorem State.coverPorts_only {M : Nat} {origin : State} (s : State) (g : Nat) (frame : Only M origin s) (inMask : 0x20000000000000002 ||| M = M) : Only M origin (State.coverPorts s g) := by
  refine Only.step frame (G := 0x20000000000000002) ?_ inMask
  unfold State.coverPorts
  repeat' first
    | with_reducible exact Only.refl _ _
    | with_reducible assumption
    | with_reducible apply Only.ite
    | with_reducible apply Only.foldl
    | with_reducible apply Only.fst_ite
    | with_reducible apply Only.snd_ite
    | with_reducible apply State.setNat_only
    | with_reducible apply State.sendControl_only
    | decide
    | intro _ _
    | intro _
    | dsimp only
    | split

theorem State.uncoverPorts_only {M : Nat} {origin : State} (s : State) (g : Nat) (frame : Only M origin s) (inMask : 0x20000000000000002 ||| M = M) : Only M origin (State.uncoverPorts s g) := by
  refine Only.step frame (G := 0x20000000000000002) ?_ inMask
  unfold State.uncoverPorts
  repeat' first
    | with_reducible exact Only.refl _ _
    | with_reducible assumption
    | with_reducible apply Only.ite
    | with_reducible apply Only.foldl
    | with_reducible apply Only.fst_ite
    | with_reducible apply Only.snd_ite
    | with_reducible apply State.setNat_only
    | with_reducible apply State.sendControl_only
    | decide
    | intro _ _
    | intro _
    | dsimp only
    | split

theorem State.regionBack_only {M : Nat} {origin : State} (s : State) (g : Nat) (frame : Only M origin s) (inMask : 0x800000000000000800000 ||| M = M) : Only M origin (State.regionBack s g) := by
  refine Only.step frame (G := 0x800000000000000800000) ?_ inMask
  unfold State.regionBack
  repeat' first
    | with_reducible exact Only.refl _ _
    | with_reducible assumption
    | with_reducible apply Only.ite
    | with_reducible apply Only.foldl
    | with_reducible apply Only.fst_ite
    | with_reducible apply Only.snd_ite
    | with_reducible apply State.resumeContracts_only
    | with_reducible apply State.returnRings_only
    | decide
    | intro _ _
    | intro _
    | dsimp only
    | split

theorem State.stopRegion_only {M : Nat} {origin : State} (s : State) (g : Nat) (frame : Only M origin s) (inMask : 0xd801707f6143702803fc2 ||| M = M) : Only M origin (State.stopRegion s g) := by
  refine Only.step frame (G := 0xd801707f6143702803fc2) ?_ inMask
  unfold State.stopRegion
  repeat' first
    | with_reducible exact Only.refl _ _
    | with_reducible assumption
    | with_reducible apply Only.ite
    | with_reducible apply Only.foldl
    | with_reducible apply Only.fst_ite
    | with_reducible apply Only.snd_ite
    | with_reducible apply State.stopCluster_only
    | with_reducible apply State.dropFlights_only
    | with_reducible apply State.raiseEpochs_only
    | with_reducible apply State.dropTowards_only
    | with_reducible apply State.loseTransit_only
    | with_reducible apply State.clearRegion_only
    | with_reducible apply State.setReplica_only
    | with_reducible apply State.shutCrossing_only
    | with_reducible apply State.moveRings_only
    | with_reducible apply State.coverPorts_only
    | with_reducible apply State.suspendContracts_only
    | with_reducible apply State.refsUpdate_only
    | decide
    | intro _ _
    | intro _
    | dsimp only
    | split
    | with_reducible apply Only.upd_domains

theorem State.startRegion_only {M : Nat} {origin : State} (s : State) (g : Nat) (frame : Only M origin s) (inMask : 0xd801707f4143700803fc2 ||| M = M) : Only M origin (State.startRegion s g) := by
  refine Only.step frame (G := 0xd801707f4143700803fc2) ?_ inMask
  unfold State.startRegion
  repeat' first
    | with_reducible exact Only.refl _ _
    | with_reducible assumption
    | with_reducible apply Only.ite
    | with_reducible apply Only.foldl
    | with_reducible apply Only.fst_ite
    | with_reducible apply Only.snd_ite
    | with_reducible apply State.zeroRegion_only
    | with_reducible apply State.flushCrossing_only
    | with_reducible apply State.raiseEpochs_only
    | with_reducible apply State.setRegion_only
    | with_reducible apply State.startCluster_only
    | with_reducible apply State.uncoverPorts_only
    | with_reducible apply State.regionBack_only
    | decide
    | intro _ _
    | intro _
    | dsimp only
    | split
    | with_reducible apply Only.upd_domains

theorem State.stopItem_only {M : Nat} {origin : State} (s : State) (l : FenceLevel) (i : Nat) (frame : Only M origin s) (inMask : 0x800d801707f6143702813fc2 ||| M = M) : Only M origin (State.stopItem s l i) := by
  refine Only.step frame (G := 0x800d801707f6143702813fc2) ?_ inMask
  unfold State.stopItem
  repeat' first
    | with_reducible exact Only.refl _ _
    | with_reducible assumption
    | with_reducible apply Only.ite
    | with_reducible apply Only.foldl
    | with_reducible apply Only.fst_ite
    | with_reducible apply Only.snd_ite
    | with_reducible apply State.stopPort_only
    | with_reducible apply State.judgeStamp_only
    | with_reducible apply State.stopDetector_only
    | with_reducible apply State.stopBank_only
    | with_reducible apply State.stopEngine_only
    | with_reducible apply State.stopCluster_only
    | with_reducible apply State.judgeModReset_only
    | with_reducible apply State.stopRegion_only
    | decide
    | intro _ _
    | intro _
    | dsimp only
    | split

theorem State.startItem_only {M : Nat} {origin : State} (s : State) (l : FenceLevel) (i : Nat) (frame : Only M origin s) (inMask : 0xd801707f4143700813fc2 ||| M = M) : Only M origin (State.startItem s l i) := by
  refine Only.step frame (G := 0xd801707f4143700813fc2) ?_ inMask
  unfold State.startItem
  repeat' first
    | with_reducible exact Only.refl _ _
    | with_reducible assumption
    | with_reducible apply Only.ite
    | with_reducible apply Only.foldl
    | with_reducible apply Only.fst_ite
    | with_reducible apply Only.snd_ite
    | with_reducible apply State.startPort_only
    | with_reducible apply State.judgeStamp_only
    | with_reducible apply State.startDetector_only
    | with_reducible apply State.startBank_only
    | with_reducible apply State.startEngine_only
    | with_reducible apply State.startCluster_only
    | with_reducible apply State.judgeModReset_only
    | with_reducible apply State.startRegion_only
    | decide
    | intro _ _
    | intro _
    | dsimp only
    | split

theorem State.fenceItem_only {M : Nat} {origin : State} (s : State) (l : FenceLevel) (i cause : Nat) (frame : Only M origin s) (inMask : 0x800d8e1707f6143702813fc2 ||| M = M) : Only M origin (State.fenceItem s l i cause) := by
  refine Only.step frame (G := 0x800d8e1707f6143702813fc2) ?_ inMask
  unfold State.fenceItem
  repeat' first
    | with_reducible exact Only.refl _ _
    | with_reducible assumption
    | with_reducible apply Only.ite
    | with_reducible apply Only.foldl
    | with_reducible apply Only.fst_ite
    | with_reducible apply Only.snd_ite
    | with_reducible apply State.mask_only
    | with_reducible apply State.openWindow_only
    | with_reducible apply State.judgeModReset_only
    | with_reducible apply State.stopItem_only
    | with_reducible apply State.judgeRun_only
    | decide
    | intro _ _
    | intro _
    | dsimp only
    | split
    | with_reducible apply Only.upd_fences

theorem State.releaseItem_only {M : Nat} {origin : State} (s : State) (l : FenceLevel) (i : Nat) (frame : Only M origin s) (inMask : 0xd821707f4143700813fc2 ||| M = M) : Only M origin (State.releaseItem s l i) := by
  refine Only.step frame (G := 0xd821707f4143700813fc2) ?_ inMask
  unfold State.releaseItem
  repeat' first
    | with_reducible exact Only.refl _ _
    | with_reducible assumption
    | with_reducible apply Only.ite
    | with_reducible apply Only.foldl
    | with_reducible apply Only.fst_ite
    | with_reducible apply Only.snd_ite
    | with_reducible apply State.startItem_only
    | with_reducible apply State.judgeRun_only
    | decide
    | intro _ _
    | intro _
    | dsimp only
    | split
    | with_reducible apply Only.upd_fences

theorem State.blockReset_only {M : Nat} {origin : State} (s : State) (l : FenceLevel) (i cause : Nat) (frame : Only M origin s) (inMask : 0x50c1707f6143002003fc2 ||| M = M) : Only M origin (State.blockReset s l i cause) := by
  refine Only.step frame (G := 0x50c1707f6143002003fc2) ?_ inMask
  unfold State.blockReset
  repeat' first
    | with_reducible exact Only.refl _ _
    | with_reducible assumption
    | with_reducible apply Only.ite
    | with_reducible apply Only.foldl
    | with_reducible apply Only.fst_ite
    | with_reducible apply Only.snd_ite
    | with_reducible apply State.mask_only
    | with_reducible apply State.openWindow_only
    | with_reducible apply State.portDown_only
    | with_reducible apply State.setPort_only
    | with_reducible apply State.laneRestart_only
    | with_reducible apply State.inc32_only
    | with_reducible apply State.resetEngine_only
    | with_reducible apply State.stopCluster_only
    | with_reducible apply State.startCluster_only
    | decide
    | intro _ _
    | intro _
    | dsimp only
    | split

end Sys2Proof.Machine
end

