-- ==== Sys2Proof/Laws/Frames/Timestamping.lean ====
section
/-! SUPPORT. What each operation of Machine/Timestamping.lean leaves as it was: the frame of every one. -/

set_option linter.unusedTactic false
set_option linter.unreachableTactic false

namespace Sys2Proof.Machine

open Host (Outcome)

theorem State.judgeReplicaCause_only {M : Nat} {origin : State} (s : State) (c : Nat) (frame : Only M origin s) (inMask : 0x1001407f0040000000242 ||| M = M) : Only M origin (State.judgeReplicaCause s c) := by
  refine Only.step frame (G := 0x1001407f0040000000242) ?_ inMask
  unfold State.judgeReplicaCause
  repeat' first
    | with_reducible exact Only.refl _ _
    | with_reducible assumption
    | with_reducible apply Only.ite
    | with_reducible apply Only.foldl
    | with_reducible apply Only.fst_ite
    | with_reducible apply Only.snd_ite
    | with_reducible apply State.putCause_only
    | with_reducible apply State.refsUpdate_only
    | decide
    | intro _ _
    | intro _
    | dsimp only
    | split

theorem State.replicaFault_only {M : Nat} {origin : State} (s : State) (line : Nat) (frame : Only M origin s) (inMask : 0x1001507f6040000000242 ||| M = M) : Only M origin (State.replicaFault s line) := by
  refine Only.step frame (G := 0x1001507f6040000000242) ?_ inMask
  unfold State.replicaFault
  repeat' first
    | with_reducible exact Only.refl _ _
    | with_reducible assumption
    | with_reducible apply Only.ite
    | with_reducible apply Only.foldl
    | with_reducible apply Only.fst_ite
    | with_reducible apply Only.snd_ite
    | with_reducible apply State.setReplica_only
    | with_reducible apply State.raise_only
    | with_reducible apply State.abandonCluster_only
    | with_reducible apply State.judgeReplicaCause_only
    | decide
    | intro _ _
    | intro _
    | dsimp only
    | split

theorem execTimeLineMarker_only {M : Nat} {origin : State} (line : Fin 32) (arrival : Option Int) (s : State) (frame : Only M origin s) (inMask : 0x1001507f6040000000246 ||| M = M) : Ends M origin (execTimeLineMarker line arrival s) := by
  refine Ends.step frame (G := 0x1001507f6040000000246) ?_ inMask
  unfold execTimeLineMarker
  repeat' first
    | with_reducible exact Only.refl _ _
    | with_reducible assumption
    | with_reducible apply Only.ite
    | with_reducible apply Only.foldl
    | with_reducible apply Only.fst_ite
    | with_reducible apply Only.snd_ite
    | with_reducible apply State.setReplica_only
    | with_reducible apply State.setBlob_only
    | with_reducible apply State.replicaFault_only
    | with_reducible apply Ends.next
    | with_reducible apply Ends.ite
    | decide
    | intro _ _
    | intro _
    | dsimp only
    | split

theorem State.notePeak_only {M : Nat} {origin : State} (s : State) (line d : Nat) (frame : Only M origin s) (inMask : 0x2 ||| M = M) : Only M origin (State.notePeak s line d) := by
  refine Only.step frame (G := 0x2) ?_ inMask
  unfold State.notePeak
  repeat' first
    | with_reducible exact Only.refl _ _
    | with_reducible assumption
    | with_reducible apply Only.ite
    | with_reducible apply Only.foldl
    | with_reducible apply Only.fst_ite
    | with_reducible apply Only.snd_ite
    | with_reducible apply State.setNat_only
    | decide
    | intro _ _
    | intro _
    | dsimp only
    | split

theorem State.announce_only {M : Nat} {origin : State} (s : State) (line : Nat) (frame : Only M origin s) (inMask : 0x40000000000 ||| M = M) : Only M origin (State.announce s line) := by
  refine Only.step frame (G := 0x40000000000) ?_ inMask
  unfold State.announce
  repeat' first
    | with_reducible exact Only.refl _ _
    | with_reducible assumption
    | with_reducible apply Only.ite
    | with_reducible apply Only.foldl
    | with_reducible apply Only.fst_ite
    | with_reducible apply Only.snd_ite
    | with_reducible apply State.setTb_only
    | decide
    | intro _ _
    | intro _
    | dsimp only
    | split

theorem execTimeLineMessage_only {M : Nat} {origin : State} (line : Fin 32) (s : State) (frame : Only M origin s) (inMask : 0x1001507f6040000000242 ||| M = M) : Ends M origin (execTimeLineMessage line s) := by
  refine Ends.step frame (G := 0x1001507f6040000000242) ?_ inMask
  unfold execTimeLineMessage
  repeat' first
    | with_reducible exact Only.refl _ _
    | with_reducible assumption
    | with_reducible apply Only.ite
    | with_reducible apply Only.foldl
    | with_reducible apply Only.fst_ite
    | with_reducible apply Only.snd_ite
    | with_reducible apply State.announce_only
    | with_reducible apply State.notePeak_only
    | with_reducible apply State.setReplica_only
    | with_reducible apply State.replicaFault_only
    | with_reducible apply State.judgeReplicaCause_only
    | with_reducible apply State.calibrateNext_only
    | with_reducible apply Ends.next
    | with_reducible apply Ends.ite
    | decide
    | intro _ _
    | intro _
    | dsimp only
    | split

theorem State.moveBaseline_only {M : Nat} {origin : State} (s : State) (p : Nat) (m : Int) (sinceNs : Nat) (frame : Only M origin s) (inMask : 0x2 ||| M = M) : Only M origin (State.moveBaseline s p m sinceNs) := by
  refine Only.step frame (G := 0x2) ?_ inMask
  unfold State.moveBaseline
  repeat' first
    | with_reducible exact Only.refl _ _
    | with_reducible assumption
    | with_reducible apply Only.ite
    | with_reducible apply Only.foldl
    | with_reducible apply Only.fst_ite
    | with_reducible apply Only.snd_ite
    | with_reducible apply State.setReg_only
    | decide
    | intro _ _
    | intro _
    | dsimp only
    | split

theorem State.track_only {M : Nat} {origin : State} (s : State) (p : Nat) (m : Int) (sinceNs : Nat) (frame : Only M origin s) (inMask : 0x1001407f0040000000242 ||| M = M) : Only M origin (State.track s p m sinceNs) := by
  refine Only.step frame (G := 0x1001407f0040000000242) ?_ inMask
  unfold State.track
  repeat' first
    | with_reducible exact Only.refl _ _
    | with_reducible assumption
    | with_reducible apply Only.ite
    | with_reducible apply Only.foldl
    | with_reducible apply Only.fst_ite
    | with_reducible apply Only.snd_ite
    | with_reducible apply State.delayStep_only
    | with_reducible apply State.abandonAsymmetry_only
    | with_reducible apply State.putCause_only
    | with_reducible apply State.refsUpdate_only
    | with_reducible apply State.moveBaseline_only
    | with_reducible apply State.putTiming_only
    | decide
    | intro _ _
    | intro _
    | dsimp only
    | split

theorem State.takeDelay_only {M : Nat} {origin : State} (s : State) (p : Nat) (m : Int) (frame : Only M origin s) (inMask : 0x1001407f0040000000242 ||| M = M) : Only M origin (State.takeDelay s p m) := by
  refine Only.step frame (G := 0x1001407f0040000000242) ?_ inMask
  unfold State.takeDelay
  repeat' first
    | with_reducible exact Only.refl _ _
    | with_reducible assumption
    | with_reducible apply Only.ite
    | with_reducible apply Only.foldl
    | with_reducible apply Only.fst_ite
    | with_reducible apply Only.snd_ite
    | with_reducible apply State.inc32_only
    | with_reducible apply State.putBit_only
    | with_reducible apply State.setTim_only
    | with_reducible apply State.track_only
    | decide
    | intro _ _
    | intro _
    | dsimp only
    | split

theorem State.recordApparent_only {M : Nat} {origin : State} (s : State) (p k : Nat) (offset : Int) (frame : Only M origin s) (inMask : 0x200 ||| M = M) : Only M origin (State.recordApparent s p k offset) := by
  refine Only.step frame (G := 0x200) ?_ inMask
  unfold State.recordApparent
  repeat' first
    | with_reducible exact Only.refl _ _
    | with_reducible assumption
    | with_reducible apply Only.ite
    | with_reducible apply Only.foldl
    | with_reducible apply Only.fst_ite
    | with_reducible apply Only.snd_ite
    | with_reducible apply State.setTim_only
    | decide
    | intro _ _
    | intro _
    | dsimp only
    | split

theorem State.takeSync_only {M : Nat} {origin : State} (s : State) (p : Nat) (m : Int) (y : SyncTimes) (frame : Only M origin s) (inMask : 0x1001407f0040000000242 ||| M = M) : Only M origin (State.takeSync s p m y) := by
  refine Only.step frame (G := 0x1001407f0040000000242) ?_ inMask
  unfold State.takeSync
  repeat' first
    | with_reducible exact Only.refl _ _
    | with_reducible assumption
    | with_reducible apply Only.ite
    | with_reducible apply Only.foldl
    | with_reducible apply Only.fst_ite
    | with_reducible apply Only.snd_ite
    | with_reducible apply State.recordApparent_only
    | with_reducible apply State.slotOffsetSeen_only
    | with_reducible apply State.refsUpdate_only
    | decide
    | intro _ _
    | intro _
    | dsimp only
    | split

theorem execDelayResult_only {M : Nat} {origin : State} (p : PortId) (exchange : Exchange) (s : State) (frame : Only M origin s) (inMask : 0x1001407f0040000000242 ||| M = M) : Ends M origin (execDelayResult p exchange s) := by
  refine Ends.step frame (G := 0x1001407f0040000000242) ?_ inMask
  unfold execDelayResult
  repeat' first
    | with_reducible exact Only.refl _ _
    | with_reducible assumption
    | with_reducible apply Only.ite
    | with_reducible apply Only.foldl
    | with_reducible apply Only.fst_ite
    | with_reducible apply Only.snd_ite
    | with_reducible apply State.takeDelay_only
    | with_reducible apply State.takeSync_only
    | with_reducible apply Ends.next
    | with_reducible apply Ends.ite
    | decide
    | intro _ _
    | intro _
    | dsimp only
    | split

theorem State.acceptBaseline_only {M : Nat} {origin : State} (s : State) (p : Nat) (m : Int) (frame : Only M origin s) (inMask : 0x1001407f0040000000242 ||| M = M) : Only M origin (State.acceptBaseline s p m) := by
  refine Only.step frame (G := 0x1001407f0040000000242) ?_ inMask
  unfold State.acceptBaseline
  repeat' first
    | with_reducible exact Only.refl _ _
    | with_reducible assumption
    | with_reducible apply Only.ite
    | with_reducible apply Only.foldl
    | with_reducible apply Only.fst_ite
    | with_reducible apply Only.snd_ite
    | with_reducible apply State.setReg_only
    | with_reducible apply State.putTiming_only
    | with_reducible apply State.setCauses_only
    | with_reducible apply State.refsUpdate_only
    | decide
    | intro _ _
    | intro _
    | dsimp only
    | split

theorem execAcceptPresentDelay_only {M : Nat} {origin : State} (role : Role) (p : PortId) (s : State) (frame : Only M origin s) (inMask : 0x1001407f004000000025a ||| M = M) : Ends M origin (execAcceptPresentDelay role p s) := by
  refine Ends.step frame (G := 0x1001407f004000000025a) ?_ inMask
  unfold execAcceptPresentDelay
  repeat' first
    | with_reducible exact Only.refl _ _
    | with_reducible assumption
    | with_reducible apply Only.ite
    | with_reducible apply Only.foldl
    | with_reducible apply Only.fst_ite
    | with_reducible apply Only.snd_ite
    | with_reducible apply State.hostWrite_only
    | with_reducible apply State.ruleRefused_only
    | with_reducible apply State.acceptBaseline_only
    | with_reducible apply State.done_only
    | with_reducible apply Ends.next
    | with_reducible apply Ends.ite
    | decide
    | intro _ _
    | intro _
    | dsimp only
    | split

theorem execAcceptProposal_only {M : Nat} {origin : State} (role : Role) (p : PortId) (s : State) (frame : Only M origin s) (inMask : 0x1001407f004000000025a ||| M = M) : Ends M origin (execAcceptProposal role p s) := by
  refine Ends.step frame (G := 0x1001407f004000000025a) ?_ inMask
  unfold execAcceptProposal
  repeat' first
    | with_reducible exact Only.refl _ _
    | with_reducible assumption
    | with_reducible apply Only.ite
    | with_reducible apply Only.foldl
    | with_reducible apply Only.fst_ite
    | with_reducible apply Only.snd_ite
    | with_reducible apply State.hostWrite_only
    | with_reducible apply State.ruleRefused_only
    | with_reducible apply State.setReg_only
    | with_reducible apply State.setNat_only
    | with_reducible apply State.putBit_only
    | with_reducible apply State.acceptBaseline_only
    | with_reducible apply State.done_only
    | with_reducible apply Ends.next
    | with_reducible apply Ends.ite
    | decide
    | intro _ _
    | intro _
    | dsimp only
    | split

theorem execCalibrateAsymmetry_only {M : Nat} {origin : State} (role : Role) (p : PortId) (s : State) (frame : Only M origin s) (inMask : 0x1001407f004000000025a ||| M = M) : Ends M origin (execCalibrateAsymmetry role p s) := by
  refine Ends.step frame (G := 0x1001407f004000000025a) ?_ inMask
  unfold execCalibrateAsymmetry
  repeat' first
    | with_reducible exact Only.refl _ _
    | with_reducible assumption
    | with_reducible apply Only.ite
    | with_reducible apply Only.foldl
    | with_reducible apply Only.fst_ite
    | with_reducible apply Only.snd_ite
    | with_reducible apply State.hostWrite_only
    | with_reducible apply State.ruleRefused_only
    | with_reducible apply State.setTim_only
    | with_reducible apply State.putBit_only
    | with_reducible apply State.putTiming_only
    | with_reducible apply State.refsUpdate_only
    | with_reducible apply State.done_only
    | with_reducible apply Ends.next
    | with_reducible apply Ends.ite
    | decide
    | intro _ _
    | intro _
    | dsimp only
    | split

theorem execAbortCalibration_only {M : Nat} {origin : State} (role : Role) (p : PortId) (s : State) (frame : Only M origin s) (inMask : 0x1001407f004000000025a ||| M = M) : Ends M origin (execAbortCalibration role p s) := by
  refine Ends.step frame (G := 0x1001407f004000000025a) ?_ inMask
  unfold execAbortCalibration
  repeat' first
    | with_reducible exact Only.refl _ _
    | with_reducible assumption
    | with_reducible apply Only.ite
    | with_reducible apply Only.foldl
    | with_reducible apply Only.fst_ite
    | with_reducible apply Only.snd_ite
    | with_reducible apply State.hostWrite_only
    | with_reducible apply State.abandonAsymmetry_only
    | with_reducible apply State.refsUpdate_only
    | with_reducible apply State.done_only
    | with_reducible apply Ends.next
    | with_reducible apply Ends.ite
    | decide
    | intro _ _
    | intro _
    | dsimp only
    | split

theorem execAsymmetryCalibrationEnd_only {M : Nat} {origin : State} (p : PortId) (s : State) (frame : Only M origin s) (inMask : 0x1001407f0040000000242 ||| M = M) : Ends M origin (execAsymmetryCalibrationEnd p s) := by
  refine Ends.step frame (G := 0x1001407f0040000000242) ?_ inMask
  unfold execAsymmetryCalibrationEnd
  repeat' first
    | with_reducible exact Only.refl _ _
    | with_reducible assumption
    | with_reducible apply Only.ite
    | with_reducible apply Only.foldl
    | with_reducible apply Only.fst_ite
    | with_reducible apply Only.snd_ite
    | with_reducible apply State.abandonAsymmetry_only
    | with_reducible apply State.refsUpdate_only
    | with_reducible apply State.setReg_only
    | with_reducible apply State.setNat_only
    | with_reducible apply State.putBit_only
    | with_reducible apply Ends.next
    | with_reducible apply Ends.ite
    | decide
    | intro _ _
    | intro _
    | dsimp only
    | split

end Sys2Proof.Machine
end

