-- ==== Sys2Proof/Laws/Frames/Calibration.lean ====
section
/-! SUPPORT. What each operation of Machine/Calibration.lean leaves as it was: the frame of every one. -/

set_option linter.unusedTactic false
set_option linter.unreachableTactic false

namespace Sys2Proof.Machine

open Host (Outcome)

theorem State.measureResistor_only {M : Nat} {origin : State} (s : State) (r : Nat) (frame : Only M origin s) (inMask : 0x140000000000000002 ||| M = M) : Only M origin (State.measureResistor s r) := by
  refine Only.step frame (G := 0x140000000000000002) ?_ inMask
  unfold State.measureResistor
  repeat' first
    | with_reducible exact Only.refl _ _
    | with_reducible assumption
    | with_reducible apply Only.ite
    | with_reducible apply Only.foldl
    | with_reducible apply Only.fst_ite
    | with_reducible apply Only.snd_ite
    | with_reducible apply State.setNat_only
    | with_reducible apply State.raise_only
    | decide
    | intro _ _
    | intro _
    | dsimp only
    | split

theorem State.measureLines_only {M : Nat} {origin : State} (s : State) (delays : List Nat) (frame : Only M origin s) (inMask : 0x2000000000000 ||| M = M) : Only M origin (State.measureLines s delays) := by
  refine Only.step frame (G := 0x2000000000000) ?_ inMask
  unfold State.measureLines
  repeat' first
    | with_reducible exact Only.refl _ _
    | with_reducible assumption
    | with_reducible apply Only.ite
    | with_reducible apply Only.foldl
    | with_reducible apply Only.fst_ite
    | with_reducible apply Only.snd_ite
    | with_reducible apply State.setReplica_only
    | decide
    | intro _ _
    | intro _
    | dsimp only
    | split

theorem State.measurePads_only {M : Nat} {origin : State} (s : State) (frame : Only M origin s) (inMask : 0x300000000000 ||| M = M) : Only M origin (State.measurePads s) := by
  refine Only.step frame (G := 0x300000000000) ?_ inMask
  unfold State.measurePads
  repeat' first
    | with_reducible exact Only.refl _ _
    | with_reducible assumption
    | with_reducible apply Only.ite
    | with_reducible apply Only.foldl
    | with_reducible apply Only.fst_ite
    | with_reducible apply Only.snd_ite
    | with_reducible apply State.setFirefly_only
    | with_reducible apply State.setCapture_only
    | decide
    | intro _ _
    | intro _
    | dsimp only
    | split

theorem State.applyCaptures_only {M : Nat} {origin : State} (s : State) (frame : Only M origin s) (inMask : 0x200000000000 ||| M = M) : Only M origin (State.applyCaptures s) := by
  refine Only.step frame (G := 0x200000000000) ?_ inMask
  unfold State.applyCaptures
  repeat' first
    | with_reducible exact Only.refl _ _
    | with_reducible assumption
    | with_reducible apply Only.ite
    | with_reducible apply Only.foldl
    | with_reducible apply Only.fst_ite
    | with_reducible apply Only.snd_ite
    | with_reducible apply State.setCapture_only
    | decide
    | intro _ _
    | intro _
    | dsimp only
    | split

theorem State.markDue_only {M : Nat} {origin : State} (s : State) (frame : Only M origin s) (inMask : 0x2 ||| M = M) : Only M origin (State.markDue s) := by
  refine Only.step frame (G := 0x2) ?_ inMask
  unfold State.markDue
  repeat' first
    | with_reducible exact Only.refl _ _
    | with_reducible assumption
    | with_reducible apply Only.ite
    | with_reducible apply Only.foldl
    | with_reducible apply Only.fst_ite
    | with_reducible apply Only.snd_ite
    | with_reducible apply State.putBit_only
    | decide
    | intro _ _
    | intro _
    | dsimp only
    | split

theorem State.rereadResistor_only {M : Nat} {origin : State} (s : State) (resistor : Nat) (frame : Only M origin s) (inMask : 0x150004000000000002 ||| M = M) : Only M origin (State.rereadResistor s resistor) := by
  refine Only.step frame (G := 0x150004000000000002) ?_ inMask
  unfold State.rereadResistor
  repeat' first
    | with_reducible exact Only.refl _ _
    | with_reducible assumption
    | with_reducible apply Only.ite
    | with_reducible apply Only.foldl
    | with_reducible apply Only.fst_ite
    | with_reducible apply Only.snd_ite
    | with_reducible apply State.measureResistor_only
    | with_reducible apply State.abandonLane_only
    | decide
    | intro _ _
    | intro _
    | dsimp only
    | split

theorem State.startRound_only {M : Nat} {origin : State} (s : State) (resistor : Nat) (delays : List Nat) (frame : Only M origin s) (inMask : 0x15c006300000000002 ||| M = M) : Only M origin (State.startRound s resistor delays) := by
  refine Only.step frame (G := 0x15c006300000000002) ?_ inMask
  unfold State.startRound
  repeat' first
    | with_reducible exact Only.refl _ _
    | with_reducible assumption
    | with_reducible apply Only.ite
    | with_reducible apply Only.foldl
    | with_reducible apply Only.fst_ite
    | with_reducible apply Only.snd_ite
    | with_reducible apply State.rereadResistor_only
    | with_reducible apply State.measureResistor_only
    | with_reducible apply State.measureLines_only
    | with_reducible apply State.measurePads_only
    | with_reducible apply State.applyCaptures_only
    | with_reducible apply State.markDue_only
    | with_reducible apply State.setNat_only
    | with_reducible apply State.calibrateNext_only
    | with_reducible apply Only.upd_roundDue
    | decide
    | intro _ _
    | intro _
    | dsimp only
    | split
    | with_reducible apply Only.upd_roundRuns

theorem execCalibrationPeriodExpiry_only {M : Nat} {origin : State} (resistor : Nat) (lineDelays : List Nat) (s : State) (frame : Only M origin s) (inMask : 0x15c006300000000002 ||| M = M) : Ends M origin (execCalibrationPeriodExpiry resistor lineDelays s) := by
  refine Ends.step frame (G := 0x15c006300000000002) ?_ inMask
  unfold execCalibrationPeriodExpiry
  repeat' first
    | with_reducible exact Only.refl _ _
    | with_reducible assumption
    | with_reducible apply Only.ite
    | with_reducible apply Only.foldl
    | with_reducible apply Only.fst_ite
    | with_reducible apply Only.snd_ite
    | with_reducible apply State.startRound_only
    | with_reducible apply Ends.next
    | with_reducible apply Ends.ite
    | decide
    | intro _ _
    | intro _
    | dsimp only
    | split

theorem execTemperatureTrigger_only {M : Nat} {origin : State} (_d : BankId) (resistor : Nat) (lineDelays : List Nat) (s : State) (frame : Only M origin s) (inMask : 0x15c006300000000002 ||| M = M) : Ends M origin (execTemperatureTrigger _d resistor lineDelays s) := by
  refine Ends.step frame (G := 0x15c006300000000002) ?_ inMask
  unfold execTemperatureTrigger
  repeat' first
    | with_reducible exact Only.refl _ _
    | with_reducible assumption
    | with_reducible apply Only.ite
    | with_reducible apply Only.foldl
    | with_reducible apply Only.fst_ite
    | with_reducible apply Only.snd_ite
    | with_reducible apply State.startRound_only
    | with_reducible apply Ends.next
    | with_reducible apply Ends.ite
    | decide
    | intro _ _
    | intro _
    | dsimp only
    | split

theorem execCalibrateNow_only {M : Nat} {origin : State} (role : Role) (resistor : Nat) (lineDelays : List Nat) (s : State) (frame : Only M origin s) (inMask : 0x15c00630000000001a ||| M = M) : Ends M origin (execCalibrateNow role resistor lineDelays s) := by
  refine Ends.step frame (G := 0x15c00630000000001a) ?_ inMask
  unfold execCalibrateNow
  repeat' first
    | with_reducible exact Only.refl _ _
    | with_reducible assumption
    | with_reducible apply Only.ite
    | with_reducible apply Only.foldl
    | with_reducible apply Only.fst_ite
    | with_reducible apply Only.snd_ite
    | with_reducible apply State.hostWrite_only
    | with_reducible apply State.startRound_only
    | with_reducible apply State.done_only
    | with_reducible apply Ends.next
    | with_reducible apply Ends.ite
    | decide
    | intro _ _
    | intro _
    | dsimp only
    | split

theorem execCalibrationRoundEnd_only {M : Nat} {origin : State} (s : State) (frame : Only M origin s) (inMask : 0x15c006300000000002 ||| M = M) : Ends M origin (execCalibrationRoundEnd s) := by
  refine Ends.step frame (G := 0x15c006300000000002) ?_ inMask
  unfold execCalibrationRoundEnd
  repeat' first
    | with_reducible exact Only.refl _ _
    | with_reducible assumption
    | with_reducible apply Only.ite
    | with_reducible apply Only.foldl
    | with_reducible apply Only.fst_ite
    | with_reducible apply Only.snd_ite
    | with_reducible apply State.inc32_only
    | with_reducible apply State.setNat_only
    | with_reducible apply State.startRound_only
    | with_reducible apply Ends.next
    | with_reducible apply Ends.ite
    | decide
    | intro _ _
    | intro _
    | dsimp only
    | split
    | with_reducible apply Only.upd_roundDue
    | with_reducible apply Only.upd_roundRuns

theorem execFireflyVernierApply_only {M : Nat} {origin : State} (f : FireflyId) (s : State) (frame : Only M origin s) (inMask : 0x100000000000 ||| M = M) : Ends M origin (execFireflyVernierApply f s) := by
  refine Ends.step frame (G := 0x100000000000) ?_ inMask
  unfold execFireflyVernierApply
  repeat' first
    | with_reducible exact Only.refl _ _
    | with_reducible assumption
    | with_reducible apply Only.ite
    | with_reducible apply Only.foldl
    | with_reducible apply Only.fst_ite
    | with_reducible apply Only.snd_ite
    | with_reducible apply State.setFirefly_only
    | with_reducible apply Ends.next
    | with_reducible apply Ends.ite
    | decide
    | intro _ _
    | intro _
    | dsimp only
    | split

theorem State.shadowAnalog_only {M : Nat} {origin : State} (s : State) (place : Nat) (frame : Only M origin s) (inMask : 0x2000000000000000 ||| M = M) : Only M origin (State.shadowAnalog s place) := by
  refine Only.step frame (G := 0x2000000000000000) ?_ inMask
  unfold State.shadowAnalog
  repeat' first
    | with_reducible exact Only.refl _ _
    | with_reducible assumption
    | with_reducible apply Only.ite
    | with_reducible apply Only.foldl
    | with_reducible apply Only.fst_ite
    | with_reducible apply Only.snd_ite
    | decide
    | intro _ _
    | intro _
    | dsimp only
    | split
    | with_reducible apply Only.upd_analogShadow

theorem State.strobeAnalog_only {M : Nat} {origin : State} (s : State) (places : List Nat) (frame : Only M origin s) (inMask : 0x3000000000000000 ||| M = M) : Only M origin (State.strobeAnalog s places) := by
  refine Only.step frame (G := 0x3000000000000000) ?_ inMask
  unfold State.strobeAnalog
  repeat' first
    | with_reducible exact Only.refl _ _
    | with_reducible assumption
    | with_reducible apply Only.ite
    | with_reducible apply Only.foldl
    | with_reducible apply Only.fst_ite
    | with_reducible apply Only.snd_ite
    | decide
    | intro _ _
    | intro _
    | dsimp only
    | split
    | with_reducible apply Only.upd_analog_analogShadow

theorem execSensorChannelCalibration_only {M : Nat} {origin : State} (d : BankId) (channel : Fin 7) (reading : Int) (s : State) (frame : Only M origin s) (inMask : 0x3000000000000002 ||| M = M) : Ends M origin (execSensorChannelCalibration d channel reading s) := by
  refine Ends.step frame (G := 0x3000000000000002) ?_ inMask
  unfold execSensorChannelCalibration
  repeat' first
    | with_reducible exact Only.refl _ _
    | with_reducible assumption
    | with_reducible apply Only.ite
    | with_reducible apply Only.foldl
    | with_reducible apply Only.fst_ite
    | with_reducible apply Only.snd_ite
    | with_reducible apply State.shadowAnalog_only
    | with_reducible apply State.strobeAnalog_only
    | with_reducible apply State.setReg_only
    | with_reducible apply State.setNat_only
    | with_reducible apply Ends.next
    | with_reducible apply Ends.ite
    | decide
    | intro _ _
    | intro _
    | dsimp only
    | split

theorem State.shadowSignal_only {M : Nat} {origin : State} (s : State) (l : Nat) (trims biases : List Nat) (frame : Only M origin s) (inMask : 0x10000000000000002 ||| M = M) : Only M origin (State.shadowSignal s l trims biases) := by
  refine Only.step frame (G := 0x10000000000000002) ?_ inMask
  unfold State.shadowSignal
  repeat' first
    | with_reducible exact Only.refl _ _
    | with_reducible assumption
    | with_reducible apply Only.ite
    | with_reducible apply Only.foldl
    | with_reducible apply Only.fst_ite
    | with_reducible apply Only.snd_ite
    | with_reducible apply State.setTrim_only
    | with_reducible apply State.putBit_only
    | decide
    | intro _ _
    | intro _
    | dsimp only
    | split

theorem State.shadowTiming_only {M : Nat} {origin : State} (s : State) (l rx tx : Nat) (frame : Only M origin s) (inMask : 0x150000000000000002 ||| M = M) : Only M origin (State.shadowTiming s l rx tx) := by
  refine Only.step frame (G := 0x150000000000000002) ?_ inMask
  unfold State.shadowTiming
  repeat' first
    | with_reducible exact Only.refl _ _
    | with_reducible assumption
    | with_reducible apply Only.ite
    | with_reducible apply Only.foldl
    | with_reducible apply Only.fst_ite
    | with_reducible apply Only.snd_ite
    | with_reducible apply State.setTrim_only
    | with_reducible apply State.putBit_only
    | with_reducible apply State.raise_only
    | decide
    | intro _ _
    | intro _
    | dsimp only
    | split

theorem State.applyTiming_only {M : Nat} {origin : State} (s : State) (l : Nat) (frame : Only M origin s) (inMask : 0x1001507f0040000000242 ||| M = M) : Only M origin (State.applyTiming s l) := by
  refine Only.step frame (G := 0x1001507f0040000000242) ?_ inMask
  unfold State.applyTiming
  repeat' first
    | with_reducible exact Only.refl _ _
    | with_reducible assumption
    | with_reducible apply Only.ite
    | with_reducible apply Only.foldl
    | with_reducible apply Only.fst_ite
    | with_reducible apply Only.snd_ite
    | with_reducible apply State.setTrim_only
    | with_reducible apply State.setNat_only
    | with_reducible apply State.putBit_only
    | with_reducible apply State.judgeVernierCause_only
    | with_reducible apply State.refsUpdate_only
    | decide
    | intro _ _
    | intro _
    | dsimp only
    | split

theorem State.repeatMeasure_only {M : Nat} {origin : State} (s : State) (d : Nat) (frame : Only M origin s) (inMask : 0x4000000000000 ||| M = M) : Only M origin (State.repeatMeasure s d) := by
  refine Only.step frame (G := 0x4000000000000) ?_ inMask
  unfold State.repeatMeasure
  repeat' first
    | with_reducible exact Only.refl _ _
    | with_reducible assumption
    | with_reducible apply Only.ite
    | with_reducible apply Only.foldl
    | with_reducible apply Only.fst_ite
    | with_reducible apply Only.snd_ite
    | with_reducible apply State.setDetector_only
    | decide
    | intro _ _
    | intro _
    | dsimp only
    | split

theorem execLaneCalibrationMeasure_only {M : Nat} {origin : State} (l : LaneId) (rxHundredths txHundredths : Nat) (trims : List (BitVec 10)) (biases : List Byte) (s : State) (frame : Only M origin s) (inMask : 0x1001507f4040000000242 ||| M = M) : Ends M origin (execLaneCalibrationMeasure l rxHundredths txHundredths trims biases s) := by
  refine Ends.step frame (G := 0x1001507f4040000000242) ?_ inMask
  unfold execLaneCalibrationMeasure
  repeat' first
    | with_reducible exact Only.refl _ _
    | with_reducible assumption
    | with_reducible apply Only.ite
    | with_reducible apply Only.foldl
    | with_reducible apply Only.fst_ite
    | with_reducible apply Only.snd_ite
    | with_reducible apply State.shadowSignal_only
    | with_reducible apply State.shadowTiming_only
    | with_reducible apply State.repeatMeasure_only
    | with_reducible apply State.setTrim_only
    | with_reducible apply State.applyTiming_only
    | with_reducible apply Ends.next
    | with_reducible apply Ends.ite
    | decide
    | intro _ _
    | intro _
    | dsimp only
    | split

theorem State.compareDetectors_only {M : Nat} {origin : State} (s : State) (c j : Nat) (sum : Int) (frame : Only M origin s) (inMask : 0x140004000000000002 ||| M = M) : Only M origin (State.compareDetectors s c j sum) := by
  refine Only.step frame (G := 0x140004000000000002) ?_ inMask
  unfold State.compareDetectors
  repeat' first
    | with_reducible exact Only.refl _ _
    | with_reducible assumption
    | with_reducible apply Only.ite
    | with_reducible apply Only.foldl
    | with_reducible apply Only.fst_ite
    | with_reducible apply Only.snd_ite
    | with_reducible apply State.setReg_only
    | with_reducible apply State.raise_only
    | with_reducible apply State.putBit_only
    | with_reducible apply State.setNat_only
    | with_reducible apply State.inc32_only
    | with_reducible apply State.setDetector_only
    | decide
    | intro _ _
    | intro _
    | dsimp only
    | split

theorem execDetectorComparison_only {M : Nat} {origin : State} (c : ClusterId) (j : Fin 4) (own spare : List Nat) (s : State) (frame : Only M origin s) (inMask : 0x140004000000000002 ||| M = M) : Ends M origin (execDetectorComparison c j own spare s) := by
  refine Ends.step frame (G := 0x140004000000000002) ?_ inMask
  unfold execDetectorComparison
  repeat' first
    | with_reducible exact Only.refl _ _
    | with_reducible assumption
    | with_reducible apply Only.ite
    | with_reducible apply Only.foldl
    | with_reducible apply Only.fst_ite
    | with_reducible apply Only.snd_ite
    | with_reducible apply State.repeatMeasure_only
    | with_reducible apply State.compareDetectors_only
    | with_reducible apply Ends.next
    | with_reducible apply Ends.ite
    | decide
    | intro _ _
    | intro _
    | dsimp only
    | split

theorem execDetectorCalibrationDone_only {M : Nat} {origin : State} (c : ClusterId) (j : Fin 5) (offset gain : BitVec 10) (s : State) (frame : Only M origin s) (inMask : 0x4000000000000 ||| M = M) : Ends M origin (execDetectorCalibrationDone c j offset gain s) := by
  refine Ends.step frame (G := 0x4000000000000) ?_ inMask
  unfold execDetectorCalibrationDone
  repeat' first
    | with_reducible exact Only.refl _ _
    | with_reducible assumption
    | with_reducible apply Only.ite
    | with_reducible apply Only.foldl
    | with_reducible apply Only.fst_ite
    | with_reducible apply Only.snd_ite
    | with_reducible apply State.repeatMeasure_only
    | with_reducible apply State.setDetector_only
    | with_reducible apply Ends.next
    | with_reducible apply Ends.ite
    | decide
    | intro _ _
    | intro _
    | dsimp only
    | split

end Sys2Proof.Machine
end

