-- ==== Sys2Proof/Laws/Frames/SynthOps.lean ====
section
/-! SUPPORT. What each operation of Machine/SynthOps.lean leaves as it was: the frame of every one. -/

set_option linter.unusedTactic false
set_option linter.unreachableTactic false

namespace Sys2Proof.Machine

open Host (Outcome)

theorem State.judgeClocks_only {M : Nat} {origin : State} (s : State) (frame : Only M origin s) (inMask : 0x20000000002 ||| M = M) : Only M origin (State.judgeClocks s) := by
  refine Only.step frame (G := 0x20000000002) ?_ inMask
  unfold State.judgeClocks
  repeat' first
    | with_reducible exact Only.refl _ _
    | with_reducible assumption
    | with_reducible apply Only.ite
    | with_reducible apply Only.foldl
    | with_reducible apply Only.fst_ite
    | with_reducible apply Only.snd_ite
    | with_reducible apply State.setClock_only
    | with_reducible apply State.setNat_only
    | decide
    | intro _ _
    | intro _
    | dsimp only
    | split

theorem State.clockChanges_only {M : Nat} {origin : State} (was s : State) (c : Nat) (frame : Only M origin s) (inMask : 0x20000000000 ||| M = M) : Only M origin (State.clockChanges was s c) := by
  refine Only.step frame (G := 0x20000000000) ?_ inMask
  unfold State.clockChanges
  repeat' first
    | with_reducible exact Only.refl _ _
    | with_reducible assumption
    | with_reducible apply Only.ite
    | with_reducible apply Only.foldl
    | with_reducible apply Only.fst_ite
    | with_reducible apply Only.snd_ite
    | with_reducible apply State.setClock_only
    | decide
    | intro _ _
    | intro _
    | dsimp only
    | split

theorem State.startClocks_only {M : Nat} {origin : State} (s : State) (frame : Only M origin s) (inMask : 0x20000000000 ||| M = M) : Only M origin (State.startClocks s) := by
  refine Only.step frame (G := 0x20000000000) ?_ inMask
  unfold State.startClocks
  repeat' first
    | with_reducible exact Only.refl _ _
    | with_reducible assumption
    | with_reducible apply Only.ite
    | with_reducible apply Only.foldl
    | with_reducible apply Only.fst_ite
    | with_reducible apply Only.snd_ite
    | with_reducible apply State.setClock_only
    | decide
    | intro _ _
    | intro _
    | dsimp only
    | split

theorem State.syncOutputs_only {M : Nat} {origin : State} (s : State) (t : Nat) (frame : Only M origin s) (inMask : 0x30000000002 ||| M = M) : Only M origin (State.syncOutputs s t) := by
  refine Only.step frame (G := 0x30000000002) ?_ inMask
  unfold State.syncOutputs
  repeat' first
    | with_reducible exact Only.refl _ _
    | with_reducible assumption
    | with_reducible apply Only.ite
    | with_reducible apply Only.foldl
    | with_reducible apply Only.fst_ite
    | with_reducible apply Only.snd_ite
    | with_reducible apply State.setClock_only
    | with_reducible apply State.judgeClocks_only
    | decide
    | intro _ _
    | intro _
    | dsimp only
    | split
    | with_reducible apply Only.upd_clockStarted

theorem State.clockWaits_only {M : Nat} {origin : State} (s : State) (c : Nat) (frame : Only M origin s) (inMask : 0x10000000000 ||| M = M) : Only M origin (State.clockWaits s c) := by
  refine Only.step frame (G := 0x10000000000) ?_ inMask
  unfold State.clockWaits
  repeat' first
    | with_reducible exact Only.refl _ _
    | with_reducible assumption
    | with_reducible apply Only.ite
    | with_reducible apply Only.foldl
    | with_reducible apply Only.fst_ite
    | with_reducible apply Only.snd_ite
    | decide
    | intro _ _
    | intro _
    | dsimp only
    | split
    | with_reducible apply Only.upd_clockStarted

theorem State.discardInterval_only {M : Nat} {origin : State} (s : State) (l : Nat) (frame : Only M origin s) (inMask : 0x80 ||| M = M) : Only M origin (State.discardInterval s l) := by
  refine Only.step frame (G := 0x80) ?_ inMask
  unfold State.discardInterval
  repeat' first
    | with_reducible exact Only.refl _ _
    | with_reducible assumption
    | with_reducible apply Only.ite
    | with_reducible apply Only.foldl
    | with_reducible apply Only.fst_ite
    | with_reducible apply Only.snd_ite
    | with_reducible apply State.setLane_only
    | decide
    | intro _ _
    | intro _
    | dsimp only
    | split

theorem State.rephaseReplica_only {M : Nat} {origin : State} (s : State) (line : Nat) (frame : Only M origin s) (inMask : 0x2000000000000 ||| M = M) : Only M origin (State.rephaseReplica s line) := by
  refine Only.step frame (G := 0x2000000000000) ?_ inMask
  unfold State.rephaseReplica
  repeat' first
    | with_reducible exact Only.refl _ _
    | with_reducible assumption
    | with_reducible apply Only.ite
    | with_reducible apply Only.foldl
    | with_reducible apply Only.fst_ite
    | with_reducible apply Only.snd_ite
    | with_reducible apply State.setReplica_only
    | decide
    | intro _ _
    | intro _
    | dsimp only
    | split

theorem State.changeOverSlots_only {M : Nat} {origin : State} (s : State) (n : Nat) (frame : Only M origin s) (inMask : 0x3400000000000000000002 ||| M = M) : Only M origin (State.changeOverSlots s n) := by
  refine Only.step frame (G := 0x3400000000000000000002) ?_ inMask
  unfold State.changeOverSlots
  repeat' first
    | with_reducible exact Only.refl _ _
    | with_reducible assumption
    | with_reducible apply Only.ite
    | with_reducible apply Only.foldl
    | with_reducible apply Only.fst_ite
    | with_reducible apply Only.snd_ite
    | with_reducible apply State.perfAdd_only
    | decide
    | intro _ _
    | intro _
    | dsimp only
    | split

theorem State.spanMeasures_only {M : Nat} {origin : State} (s : State) (n : Nat) (frame : Only M origin s) (inMask : 0x10004000000000000 ||| M = M) : Only M origin (State.spanMeasures s n) := by
  refine Only.step frame (G := 0x10004000000000000) ?_ inMask
  unfold State.spanMeasures
  repeat' first
    | with_reducible exact Only.refl _ _
    | with_reducible assumption
    | with_reducible apply Only.ite
    | with_reducible apply Only.foldl
    | with_reducible apply Only.fst_ite
    | with_reducible apply Only.snd_ite
    | with_reducible apply State.setDetector_only
    | with_reducible apply State.setTrim_only
    | decide
    | intro _ _
    | intro _
    | dsimp only
    | split

theorem State.changeOver_only {M : Nat} {origin : State} (s : State) (n cause : Nat) (frame : Only M origin s) (inMask : 0x3408010006060000000082 ||| M = M) : Only M origin (State.changeOver s n cause) := by
  refine Only.step frame (G := 0x3408010006060000000082) ?_ inMask
  unfold State.changeOver
  repeat' first
    | with_reducible exact Only.refl _ _
    | with_reducible assumption
    | with_reducible apply Only.ite
    | with_reducible apply Only.foldl
    | with_reducible apply Only.fst_ite
    | with_reducible apply Only.snd_ite
    | with_reducible apply State.setNat_only
    | with_reducible apply State.inc32_only
    | with_reducible apply State.putBit_only
    | with_reducible apply State.changeOverSlots_only
    | with_reducible apply State.rephaseReplica_only
    | with_reducible apply State.discardInterval_only
    | with_reducible apply State.spanMeasures_only
    | with_reducible apply State.measureSyntony_only
    | with_reducible apply State.judgeClocks_only
    | decide
    | intro _ _
    | intro _
    | dsimp only
    | split
    | with_reducible apply Only.upd_windows

theorem State.swapWasLoss_only {M : Nat} {origin : State} (s : State) (n cause : Nat) (frame : Only M origin s) (inMask : 0x3408010006060000000082 ||| M = M) : Only M origin (State.swapWasLoss s n cause) := by
  refine Only.step frame (G := 0x3408010006060000000082) ?_ inMask
  unfold State.swapWasLoss
  repeat' first
    | with_reducible exact Only.refl _ _
    | with_reducible assumption
    | with_reducible apply Only.ite
    | with_reducible apply Only.foldl
    | with_reducible apply Only.fst_ite
    | with_reducible apply Only.snd_ite
    | with_reducible apply State.changeOver_only
    | decide
    | intro _ _
    | intro _
    | dsimp only
    | split
    | with_reducible apply Only.upd_windows

theorem State.relockBackup_only {M : Nat} {origin : State} (s : State) (k : Nat) (frame : Only M origin s) (inMask : 0x20000000002 ||| M = M) : Only M origin (State.relockBackup s k) := by
  refine Only.step frame (G := 0x20000000002) ?_ inMask
  unfold State.relockBackup
  repeat' first
    | with_reducible exact Only.refl _ _
    | with_reducible assumption
    | with_reducible apply Only.ite
    | with_reducible apply Only.foldl
    | with_reducible apply Only.fst_ite
    | with_reducible apply Only.snd_ite
    | with_reducible apply State.putBit_only
    | with_reducible apply State.judgeClocks_only
    | decide
    | intro _ _
    | intro _
    | dsimp only
    | split

theorem State.twinLanesRateMatched_only {M : Nat} {origin : State} (s : State) (frame : Only M origin s) (inMask : 0x1001607f40400000003c2 ||| M = M) : Only M origin (State.twinLanesRateMatched s) := by
  refine Only.step frame (G := 0x1001607f40400000003c2) ?_ inMask
  unfold State.twinLanesRateMatched
  repeat' first
    | with_reducible exact Only.refl _ _
    | with_reducible assumption
    | with_reducible apply Only.ite
    | with_reducible apply Only.foldl
    | with_reducible apply Only.fst_ite
    | with_reducible apply Only.snd_ite
    | with_reducible apply State.rateMatchOnly_only
    | decide
    | intro _ _
    | intro _
    | dsimp only
    | split

theorem State.twinLanesRetry_only {M : Nat} {origin : State} (s : State) (frame : Only M origin s) (inMask : 0x82 ||| M = M) : Only M origin (State.twinLanesRetry s) := by
  refine Only.step frame (G := 0x82) ?_ inMask
  unfold State.twinLanesRetry
  repeat' first
    | with_reducible exact Only.refl _ _
    | with_reducible assumption
    | with_reducible apply Only.ite
    | with_reducible apply Only.foldl
    | with_reducible apply Only.fst_ite
    | with_reducible apply Only.snd_ite
    | with_reducible apply State.scheduleRetry_only
    | decide
    | intro _ _
    | intro _
    | dsimp only
    | split

end Sys2Proof.Machine
end

