-- ==== Sys2Proof/Laws/Frames/TimeBases.lean ====
section
/-! SUPPORT. What each operation of Machine/TimeBases.lean leaves as it was: the frame of every one. -/

set_option linter.unusedTactic false
set_option linter.unreachableTactic false

namespace Sys2Proof.Machine

open Host (Outcome)

theorem State.armCompare_only {M : Nat} {origin : State} (s : State) (c : Nat) (frame : Only M origin s) (inMask : 0x80000000000 ||| M = M) : Only M origin (State.armCompare s c) := by
  refine Only.step frame (G := 0x80000000000) ?_ inMask
  unfold State.armCompare
  repeat' first
    | with_reducible exact Only.refl _ _
    | with_reducible assumption
    | with_reducible apply Only.ite
    | with_reducible apply Only.foldl
    | with_reducible apply Only.fst_ite
    | with_reducible apply Only.snd_ite
    | with_reducible apply State.setCompare_only
    | decide
    | intro _ _
    | intro _
    | dsimp only
    | split

theorem State.comparePulse_only {M : Nat} {origin : State} (s : State) (f k : Nat) (t : Int) (frame : Only M origin s) (inMask : 0x100000000000 ||| M = M) : Only M origin (State.comparePulse s f k t) := by
  refine Only.step frame (G := 0x100000000000) ?_ inMask
  unfold State.comparePulse
  repeat' first
    | with_reducible exact Only.refl _ _
    | with_reducible assumption
    | with_reducible apply Only.ite
    | with_reducible apply Only.foldl
    | with_reducible apply Only.fst_ite
    | with_reducible apply Only.snd_ite
    | with_reducible apply State.settlePulses_only
    | with_reducible apply State.setFirefly_only
    | decide
    | intro _ _
    | intro _
    | dsimp only
    | split

theorem State.snapshot_only {M : Nat} {origin : State} (s : State) (frame : Only M origin s) (inMask : 0x1c00000000002 ||| M = M) : Only M origin (State.snapshot s) := by
  refine Only.step frame (G := 0x1c00000000002) ?_ inMask
  unfold State.snapshot
  repeat' first
    | with_reducible exact Only.refl _ _
    | with_reducible assumption
    | with_reducible apply Only.ite
    | with_reducible apply Only.foldl
    | with_reducible apply Only.fst_ite
    | with_reducible apply Only.snd_ite
    | with_reducible apply State.takeRecord_only
    | decide
    | intro _ _
    | intro _
    | dsimp only
    | split

theorem State.instanceDue_only {M : Nat} {origin : State} (s : State) (c : Nat) (late : Bool) (frame : Only M origin s) (inMask : 0x400000001d00000000002 ||| M = M) : Only M origin (State.instanceDue s c late) := by
  refine Only.step frame (G := 0x400000001d00000000002) ?_ inMask
  unfold State.instanceDue
  repeat' first
    | with_reducible exact Only.refl _ _
    | with_reducible assumption
    | with_reducible apply Only.ite
    | with_reducible apply Only.foldl
    | with_reducible apply Only.fst_ite
    | with_reducible apply Only.snd_ite
    | with_reducible apply State.inc64_only
    | with_reducible apply State.takeRecord_only
    | with_reducible apply State.sendEvent_only
    | with_reducible apply State.snapshot_only
    | with_reducible apply State.comparePulse_only
    | decide
    | intro _ _
    | intro _
    | dsimp only
    | split

theorem State.nextInstance_only {M : Nat} {origin : State} (s : State) (c i : Nat) (frame : Only M origin s) (inMask : 0x80000000000 ||| M = M) : Only M origin (State.nextInstance s c i) := by
  refine Only.step frame (G := 0x80000000000) ?_ inMask
  unfold State.nextInstance
  repeat' first
    | with_reducible exact Only.refl _ _
    | with_reducible assumption
    | with_reducible apply Only.ite
    | with_reducible apply Only.foldl
    | with_reducible apply Only.fst_ite
    | with_reducible apply Only.snd_ite
    | with_reducible apply State.setCompare_only
    | decide
    | intro _ _
    | intro _
    | dsimp only
    | split

theorem State.passCompare_only {M : Nat} {origin : State} (s : State) (c k : Nat) (frame : Only M origin s) (inMask : 0x400000001d80000000002 ||| M = M) : Only M origin (State.passCompare s c k) := by
  refine Only.step frame (G := 0x400000001d80000000002) ?_ inMask
  unfold State.passCompare
  repeat' first
    | with_reducible exact Only.refl _ _
    | with_reducible assumption
    | with_reducible apply Only.ite
    | with_reducible apply Only.foldl
    | with_reducible apply Only.fst_ite
    | with_reducible apply Only.snd_ite
    | with_reducible apply State.instanceDue_only
    | with_reducible apply State.addSat_only
    | with_reducible apply State.nextInstance_only
    | decide
    | intro _ _
    | intro _
    | dsimp only
    | split

theorem State.fireReached_only {M : Nat} {origin : State} (s : State) (c k : Nat) (frame : Only M origin s) (inMask : 0x400000001d80000000002 ||| M = M) : Only M origin (State.fireReached s c k) := by
  refine Only.step frame (G := 0x400000001d80000000002) ?_ inMask
  unfold State.fireReached
  repeat' first
    | with_reducible exact Only.refl _ _
    | with_reducible assumption
    | with_reducible apply Only.ite
    | with_reducible apply Only.foldl
    | with_reducible apply Only.fst_ite
    | with_reducible apply Only.snd_ite
    | with_reducible apply State.instanceDue_only
    | with_reducible apply State.nextInstance_only
    | decide
    | intro _ _
    | intro _
    | dsimp only
    | split

theorem execCompareArm_only {M : Nat} {origin : State} (role : Role) (c : CompareId) (s : State) (frame : Only M origin s) (inMask : 0x80000000018 ||| M = M) : Ends M origin (execCompareArm role c s) := by
  refine Ends.step frame (G := 0x80000000018) ?_ inMask
  unfold execCompareArm
  repeat' first
    | with_reducible exact Only.refl _ _
    | with_reducible assumption
    | with_reducible apply Only.ite
    | with_reducible apply Only.foldl
    | with_reducible apply Only.fst_ite
    | with_reducible apply Only.snd_ite
    | with_reducible apply State.hostWrite_only
    | with_reducible apply State.armCompare_only
    | with_reducible apply State.done_only
    | with_reducible apply State.ruleRefused_only
    | with_reducible apply Ends.next
    | with_reducible apply Ends.ite
    | decide
    | intro _ _
    | intro _
    | dsimp only
    | split

theorem execCompareDisarm_only {M : Nat} {origin : State} (role : Role) (c : CompareId) (s : State) (frame : Only M origin s) (inMask : 0x80000000018 ||| M = M) : Ends M origin (execCompareDisarm role c s) := by
  refine Ends.step frame (G := 0x80000000018) ?_ inMask
  unfold execCompareDisarm
  repeat' first
    | with_reducible exact Only.refl _ _
    | with_reducible assumption
    | with_reducible apply Only.ite
    | with_reducible apply Only.foldl
    | with_reducible apply Only.fst_ite
    | with_reducible apply Only.snd_ite
    | with_reducible apply State.hostWrite_only
    | with_reducible apply State.setCompare_only
    | with_reducible apply State.done_only
    | with_reducible apply Ends.next
    | with_reducible apply Ends.ite
    | decide
    | intro _ _
    | intro _
    | dsimp only
    | split

theorem execCompareFire_only {M : Nat} {origin : State} (c : CompareId) (s : State) (frame : Only M origin s) (inMask : 0x400000001d80000000002 ||| M = M) : Ends M origin (execCompareFire c s) := by
  refine Ends.step frame (G := 0x400000001d80000000002) ?_ inMask
  unfold execCompareFire
  repeat' first
    | with_reducible exact Only.refl _ _
    | with_reducible assumption
    | with_reducible apply Only.ite
    | with_reducible apply Only.foldl
    | with_reducible apply Only.fst_ite
    | with_reducible apply Only.snd_ite
    | with_reducible apply State.instanceDue_only
    | with_reducible apply State.nextInstance_only
    | with_reducible apply Ends.next
    | with_reducible apply Ends.ite
    | decide
    | intro _ _
    | intro _
    | dsimp only
    | split

theorem State.stepFirefly_only {M : Nat} {origin : State} (s : State) (k : Nat) (d : Int) (f : Nat) (frame : Only M origin s) (inMask : 0x100000000002 ||| M = M) : Only M origin (State.stepFirefly s k d f) := by
  refine Only.step frame (G := 0x100000000002) ?_ inMask
  unfold State.stepFirefly
  repeat' first
    | with_reducible exact Only.refl _ _
    | with_reducible assumption
    | with_reducible apply Only.ite
    | with_reducible apply Only.foldl
    | with_reducible apply Only.fst_ite
    | with_reducible apply Only.snd_ite
    | with_reducible apply State.setFirefly_only
    | with_reducible apply State.setReg_only
    | with_reducible apply State.settleSlew_only
    | with_reducible apply State.setNat_only
    | decide
    | intro _ _
    | intro _
    | dsimp only
    | split

theorem State.setStopsFirefly_only {M : Nat} {origin : State} (s : State) (k f : Nat) (frame : Only M origin s) (inMask : 0x100000000002 ||| M = M) : Only M origin (State.setStopsFirefly s k f) := by
  refine Only.step frame (G := 0x100000000002) ?_ inMask
  unfold State.setStopsFirefly
  repeat' first
    | with_reducible exact Only.refl _ _
    | with_reducible assumption
    | with_reducible apply Only.ite
    | with_reducible apply Only.foldl
    | with_reducible apply Only.fst_ite
    | with_reducible apply Only.snd_ite
    | with_reducible apply State.setFirefly_only
    | with_reducible apply State.setReg_only
    | with_reducible apply State.endPulses_only
    | with_reducible apply State.setNat_only
    | decide
    | intro _ _
    | intro _
    | dsimp only
    | split

theorem State.enableFirefly_only {M : Nat} {origin : State} (s : State) (f : Nat) (fresh : Bool) (frame : Only M origin s) (inMask : 0x100000000002 ||| M = M) : Only M origin (State.enableFirefly s f fresh) := by
  refine Only.step frame (G := 0x100000000002) ?_ inMask
  unfold State.enableFirefly
  repeat' first
    | with_reducible exact Only.refl _ _
    | with_reducible assumption
    | with_reducible apply Only.ite
    | with_reducible apply Only.foldl
    | with_reducible apply Only.fst_ite
    | with_reducible apply Only.snd_ite
    | with_reducible apply State.endPulses_only
    | with_reducible apply State.setFirefly_only
    | with_reducible apply State.setNat_only
    | with_reducible apply State.settleSlew_only
    | with_reducible apply State.settlePulses_only
    | decide
    | intro _ _
    | intro _
    | dsimp only
    | split

theorem State.activeEdge_only {M : Nat} {origin : State} (s : State) (f : Nat) (g : Int) (frame : Only M origin s) (inMask : 0x100000000000 ||| M = M) : Only M origin (State.activeEdge s f g) := by
  refine Only.step frame (G := 0x100000000000) ?_ inMask
  unfold State.activeEdge
  repeat' first
    | with_reducible exact Only.refl _ _
    | with_reducible assumption
    | with_reducible apply Only.ite
    | with_reducible apply Only.foldl
    | with_reducible apply Only.fst_ite
    | with_reducible apply Only.snd_ite
    | with_reducible apply State.settlePulses_only
    | with_reducible apply State.setFirefly_only
    | decide
    | intro _ _
    | intro _
    | dsimp only
    | split

theorem State.restartGrid_only {M : Nat} {origin : State} (s : State) (f : Nat) (e : Int) (st : Nat) (frame : Only M origin s) (inMask : 0x100000000002 ||| M = M) : Only M origin (State.restartGrid s f e st) := by
  refine Only.step frame (G := 0x100000000002) ?_ inMask
  unfold State.restartGrid
  repeat' first
    | with_reducible exact Only.refl _ _
    | with_reducible assumption
    | with_reducible apply Only.ite
    | with_reducible apply Only.foldl
    | with_reducible apply Only.fst_ite
    | with_reducible apply Only.snd_ite
    | with_reducible apply State.endPulses_only
    | with_reducible apply State.setReg_only
    | with_reducible apply State.setNat_only
    | with_reducible apply State.setFirefly_only
    | decide
    | intro _ _
    | intro _
    | dsimp only
    | split

theorem execFireflyGridInstant_only {M : Nat} {origin : State} (f : FireflyId) (s : State) (frame : Only M origin s) (inMask : 0x100000000002 ||| M = M) : Ends M origin (execFireflyGridInstant f s) := by
  refine Ends.step frame (G := 0x100000000002) ?_ inMask
  unfold execFireflyGridInstant
  repeat' first
    | with_reducible exact Only.refl _ _
    | with_reducible assumption
    | with_reducible apply Only.ite
    | with_reducible apply Only.foldl
    | with_reducible apply Only.fst_ite
    | with_reducible apply Only.snd_ite
    | with_reducible apply State.activeEdge_only
    | with_reducible apply State.settlePulses_only
    | with_reducible apply State.restartGrid_only
    | with_reducible apply Ends.next
    | with_reducible apply Ends.ite
    | decide
    | intro _ _
    | intro _
    | dsimp only
    | split

theorem execRealignImmediate_only {M : Nat} {origin : State} (role : Role) (f : FireflyId) (s : State) (frame : Only M origin s) (inMask : 0x10000000001a ||| M = M) : Ends M origin (execRealignImmediate role f s) := by
  refine Ends.step frame (G := 0x10000000001a) ?_ inMask
  unfold execRealignImmediate
  repeat' first
    | with_reducible exact Only.refl _ _
    | with_reducible assumption
    | with_reducible apply Only.ite
    | with_reducible apply Only.foldl
    | with_reducible apply Only.fst_ite
    | with_reducible apply Only.snd_ite
    | with_reducible apply State.hostWrite_only
    | with_reducible apply State.done_only
    | with_reducible apply State.settleSlew_only
    | with_reducible apply State.settlePulses_only
    | with_reducible apply State.setFirefly_only
    | with_reducible apply Ends.next
    | with_reducible apply Ends.ite
    | decide
    | intro _ _
    | intro _
    | dsimp only
    | split

theorem execRealignSlewed_only {M : Nat} {origin : State} (role : Role) (f : FireflyId) (s : State) (frame : Only M origin s) (inMask : 0x10000000001a ||| M = M) : Ends M origin (execRealignSlewed role f s) := by
  refine Ends.step frame (G := 0x10000000001a) ?_ inMask
  unfold execRealignSlewed
  repeat' first
    | with_reducible exact Only.refl _ _
    | with_reducible assumption
    | with_reducible apply Only.ite
    | with_reducible apply Only.foldl
    | with_reducible apply Only.fst_ite
    | with_reducible apply Only.snd_ite
    | with_reducible apply State.hostWrite_only
    | with_reducible apply State.done_only
    | with_reducible apply State.setFirefly_only
    | with_reducible apply State.settleSlew_only
    | with_reducible apply State.setNat_only
    | with_reducible apply Ends.next
    | with_reducible apply Ends.ite
    | decide
    | intro _ _
    | intro _
    | dsimp only
    | split

theorem execSlewComplete_only {M : Nat} {origin : State} (f : FireflyId) (s : State) (frame : Only M origin s) (inMask : 0x100000000002 ||| M = M) : Ends M origin (execSlewComplete f s) := by
  refine Ends.step frame (G := 0x100000000002) ?_ inMask
  unfold execSlewComplete
  repeat' first
    | with_reducible exact Only.refl _ _
    | with_reducible assumption
    | with_reducible apply Only.ite
    | with_reducible apply Only.foldl
    | with_reducible apply Only.fst_ite
    | with_reducible apply Only.snd_ite
    | with_reducible apply State.settleSlew_only
    | with_reducible apply State.setNat_only
    | with_reducible apply Ends.next
    | with_reducible apply Ends.ite
    | decide
    | intro _ _
    | intro _
    | dsimp only
    | split

theorem State.epochStep_only {M : Nat} {origin : State} (s : State) (k : Nat) (frame : Only M origin s) (inMask : 0x2 ||| M = M) : Only M origin (State.epochStep s k) := by
  refine Only.step frame (G := 0x2) ?_ inMask
  unfold State.epochStep
  repeat' first
    | with_reducible exact Only.refl _ _
    | with_reducible assumption
    | with_reducible apply Only.ite
    | with_reducible apply Only.foldl
    | with_reducible apply Only.fst_ite
    | with_reducible apply Only.snd_ite
    | with_reducible apply State.setNat_only
    | with_reducible apply State.inc32_only
    | with_reducible apply State.putBit_only
    | decide
    | intro _ _
    | intro _
    | dsimp only
    | split

theorem State.stepAbandons_only {M : Nat} {origin : State} (s : State) (k : Nat) (frame : Only M origin s) (inMask : 0x202 ||| M = M) : Only M origin (State.stepAbandons s k) := by
  refine Only.step frame (G := 0x202) ?_ inMask
  unfold State.stepAbandons
  repeat' first
    | with_reducible exact Only.refl _ _
    | with_reducible assumption
    | with_reducible apply Only.ite
    | with_reducible apply Only.foldl
    | with_reducible apply Only.fst_ite
    | with_reducible apply Only.snd_ite
    | with_reducible apply State.abandonAsymmetry_only
    | decide
    | intro _ _
    | intro _
    | dsimp only
    | split

theorem execStep_only {M : Nat} {origin : State} (role : Role) (tb : TbId) (amount : Int) (s : State) (frame : Only M origin s) (inMask : 0x40000000018 ||| M = M) : Ends M origin (execStep role tb amount s) := by
  refine Ends.step frame (G := 0x40000000018) ?_ inMask
  unfold execStep
  repeat' first
    | with_reducible exact Only.refl _ _
    | with_reducible assumption
    | with_reducible apply Only.ite
    | with_reducible apply Only.foldl
    | with_reducible apply Only.fst_ite
    | with_reducible apply Only.snd_ite
    | with_reducible apply State.hostWrite_only
    | with_reducible apply State.outOfRange_only
    | with_reducible apply State.ruleRefused_only
    | with_reducible apply State.setTb_only
    | with_reducible apply State.done_only
    | with_reducible apply Ends.next
    | with_reducible apply Ends.ite
    | decide
    | intro _ _
    | intro _
    | dsimp only
    | split

theorem State.jumpReplicas_only {M : Nat} {origin : State} (s : State) (k : Nat) (d : Int) (a : Announcement) (frame : Only M origin s) (inMask : 0x2000000000000 ||| M = M) : Only M origin (State.jumpReplicas s k d a) := by
  refine Only.step frame (G := 0x2000000000000) ?_ inMask
  unfold State.jumpReplicas
  repeat' first
    | with_reducible exact Only.refl _ _
    | with_reducible assumption
    | with_reducible apply Only.ite
    | with_reducible apply Only.foldl
    | with_reducible apply Only.fst_ite
    | with_reducible apply Only.snd_ite
    | decide
    | intro _ _
    | intro _
    | dsimp only
    | split
    | with_reducible apply Only.upd_replicas

theorem State.unseeOffsets_only {M : Nat} {origin : State} (s : State) (k : Nat) (frame : Only M origin s) (inMask : 0x10000000000000 ||| M = M) : Only M origin (State.unseeOffsets s k) := by
  refine Only.step frame (G := 0x10000000000000) ?_ inMask
  unfold State.unseeOffsets
  repeat' first
    | with_reducible exact Only.refl _ _
    | with_reducible assumption
    | with_reducible apply Only.ite
    | with_reducible apply Only.foldl
    | with_reducible apply Only.fst_ite
    | with_reducible apply Only.snd_ite
    | with_reducible apply State.setSlot_only
    | decide
    | intro _ _
    | intro _
    | dsimp only
    | split

theorem execStepEdge_only {M : Nat} {origin : State} (tb : TbId) (s : State) (frame : Only M origin s) (inMask : 0x400140013dc1600001e02 ||| M = M) : Ends M origin (execStepEdge tb s) := by
  refine Ends.step frame (G := 0x400140013dc1600001e02) ?_ inMask
  unfold execStepEdge
  repeat' first
    | with_reducible exact Only.refl _ _
    | with_reducible assumption
    | with_reducible apply Only.ite
    | with_reducible apply Only.foldl
    | with_reducible apply Only.fst_ite
    | with_reducible apply Only.snd_ite
    | with_reducible apply State.fabricFollowsStep_only
    | with_reducible apply State.fireReached_only
    | with_reducible apply State.settlePulses_only
    | with_reducible apply State.jumpReplicas_only
    | with_reducible apply State.jumpTb_only
    | with_reducible apply State.unseeOffsets_only
    | with_reducible apply State.setTb_only
    | with_reducible apply State.epochStep_only
    | with_reducible apply State.passCompare_only
    | with_reducible apply State.stepFirefly_only
    | with_reducible apply State.stepAbandons_only
    | with_reducible apply State.gatesFollowStep_only
    | with_reducible apply State.reportStepped_only
    | with_reducible apply Ends.next
    | with_reducible apply Ends.ite
    | decide
    | intro _ _
    | intro _
    | dsimp only
    | split

theorem State.setRequest_only {M : Nat} {origin : State} (s : State) (k seconds nanoseconds fraction reference : Nat) (frame : Only M origin s) (inMask : 0x40000000018 ||| M = M) : Only M origin (State.setRequest s k seconds nanoseconds fraction reference) := by
  refine Only.step frame (G := 0x40000000018) ?_ inMask
  unfold State.setRequest
  repeat' first
    | with_reducible exact Only.refl _ _
    | with_reducible assumption
    | with_reducible apply Only.ite
    | with_reducible apply Only.foldl
    | with_reducible apply Only.fst_ite
    | with_reducible apply Only.snd_ite
    | with_reducible apply State.outOfRange_only
    | with_reducible apply State.setTb_only
    | with_reducible apply State.done_only
    | decide
    | intro _ _
    | intro _
    | dsimp only
    | split

theorem execSetEdge_only {M : Nat} {origin : State} (tb : TbId) (s : State) (frame : Only M origin s) (inMask : 0x1001407f21c1600001e42 ||| M = M) : Ends M origin (execSetEdge tb s) := by
  refine Ends.step frame (G := 0x1001407f21c1600001e42) ?_ inMask
  unfold execSetEdge
  repeat' first
    | with_reducible exact Only.refl _ _
    | with_reducible assumption
    | with_reducible apply Only.ite
    | with_reducible apply Only.foldl
    | with_reducible apply Only.fst_ite
    | with_reducible apply Only.snd_ite
    | with_reducible apply State.fabricFollowsStep_only
    | with_reducible apply State.settlePulses_only
    | with_reducible apply State.jumpReplicas_only
    | with_reducible apply State.jumpTb_only
    | with_reducible apply State.unseeOffsets_only
    | with_reducible apply State.setTb_only
    | with_reducible apply State.epochStep_only
    | with_reducible apply State.putBit_only
    | with_reducible apply State.setNat_only
    | with_reducible apply State.setServo_only
    | with_reducible apply State.applySteering_only
    | with_reducible apply State.setCompare_only
    | with_reducible apply State.setStopsFirefly_only
    | with_reducible apply State.stepAbandons_only
    | with_reducible apply State.gatesFollowStep_only
    | with_reducible apply State.reportStepped_only
    | with_reducible apply State.refsUpdate_only
    | with_reducible apply Ends.next
    | with_reducible apply Ends.ite
    | decide
    | intro _ _
    | intro _
    | dsimp only
    | split

theorem State.thresholdTest_only {M : Nat} {origin : State} (s : State) (k : Nat) (offset : Int) (frame : Only M origin s) (inMask : 0x140000000000000002 ||| M = M) : Only M origin (State.thresholdTest s k offset) := by
  refine Only.step frame (G := 0x140000000000000002) ?_ inMask
  unfold State.thresholdTest
  repeat' first
    | with_reducible exact Only.refl _ _
    | with_reducible assumption
    | with_reducible apply Only.ite
    | with_reducible apply Only.foldl
    | with_reducible apply Only.fst_ite
    | with_reducible apply Only.snd_ite
    | with_reducible apply State.putBit_only
    | with_reducible apply State.raise_only
    | decide
    | intro _ _
    | intro _
    | dsimp only
    | split

theorem State.lockCount_only {M : Nat} {origin : State} (s : State) (k : Nat) (offset : Int) (frame : Only M origin s) (inMask : 0x100000000040000000042 ||| M = M) : Only M origin (State.lockCount s k offset) := by
  refine Only.step frame (G := 0x100000000040000000042) ?_ inMask
  unfold State.lockCount
  repeat' first
    | with_reducible exact Only.refl _ _
    | with_reducible assumption
    | with_reducible apply Only.ite
    | with_reducible apply Only.foldl
    | with_reducible apply Only.fst_ite
    | with_reducible apply Only.snd_ite
    | with_reducible apply State.setTb_only
    | with_reducible apply State.setServo_only
    | decide
    | intro _ _
    | intro _
    | dsimp only
    | split

theorem execMeasuredOffsetWrite_only {M : Nat} {origin : State} (tb : TbId) (offset : Int) (s : State) (frame : Only M origin s) (inMask : 0x1001407f0040000000242 ||| M = M) : Ends M origin (execMeasuredOffsetWrite tb offset s) := by
  refine Ends.step frame (G := 0x1001407f0040000000242) ?_ inMask
  unfold execMeasuredOffsetWrite
  repeat' first
    | with_reducible exact Only.refl _ _
    | with_reducible assumption
    | with_reducible apply Only.ite
    | with_reducible apply Only.foldl
    | with_reducible apply Only.fst_ite
    | with_reducible apply Only.snd_ite
    | with_reducible apply State.setReg_only
    | with_reducible apply State.thresholdTest_only
    | with_reducible apply State.slotOffsetSeen_only
    | with_reducible apply State.refsUpdate_only
    | with_reducible apply State.lockCount_only
    | with_reducible apply Ends.next
    | with_reducible apply Ends.ite
    | decide
    | intro _ _
    | intro _
    | dsimp only
    | split

theorem execSteeringOffsetWrite_only {M : Nat} {origin : State} (tb : TbId) (host : Option Role) (ppt : Int) (s : State) (frame : Only M origin s) (inMask : 0x4000000001a ||| M = M) : Ends M origin (execSteeringOffsetWrite tb host ppt s) := by
  refine Ends.step frame (G := 0x4000000001a) ?_ inMask
  unfold execSteeringOffsetWrite
  repeat' first
    | with_reducible exact Only.refl _ _
    | with_reducible assumption
    | with_reducible apply Only.ite
    | with_reducible apply Only.foldl
    | with_reducible apply Only.fst_ite
    | with_reducible apply Only.snd_ite
    | with_reducible apply State.outOfRange_only
    | with_reducible apply State.done_only
    | with_reducible apply State.setReg_only
    | with_reducible apply State.setSteering_only
    | with_reducible apply State.answer_only
    | with_reducible apply State.applySteering_only
    | with_reducible apply State.hostWrite_only
    | with_reducible apply Ends.next
    | with_reducible apply Ends.ite
    | decide
    | intro _ _
    | intro _
    | dsimp only
    | split

theorem execCaptureEdge_only {M : Nat} {origin : State} (e : CaptureId) (rising : Bool) (heldNs agePs : Nat) (s : State) (frame : Only M origin s) (inMask : 0x1e00000000002 ||| M = M) : Ends M origin (execCaptureEdge e rising heldNs agePs s) := by
  refine Ends.step frame (G := 0x1e00000000002) ?_ inMask
  unfold execCaptureEdge
  repeat' first
    | with_reducible exact Only.refl _ _
    | with_reducible assumption
    | with_reducible apply Only.ite
    | with_reducible apply Only.foldl
    | with_reducible apply Only.fst_ite
    | with_reducible apply Only.snd_ite
    | with_reducible apply State.setCapture_only
    | with_reducible apply State.inc64_only
    | with_reducible apply State.ringPush_only
    | with_reducible apply Ends.next
    | with_reducible apply Ends.ite
    | decide
    | intro _ _
    | intro _
    | dsimp only
    | split

theorem execResetRing_only {M : Nat} {origin : State} (role : Role) (s : State) (frame : Only M origin s) (inMask : 0x1400000000018 ||| M = M) : Ends M origin (execResetRing role s) := by
  refine Ends.step frame (G := 0x1400000000018) ?_ inMask
  unfold execResetRing
  repeat' first
    | with_reducible exact Only.refl _ _
    | with_reducible assumption
    | with_reducible apply Only.ite
    | with_reducible apply Only.foldl
    | with_reducible apply Only.fst_ite
    | with_reducible apply Only.snd_ite
    | with_reducible apply State.hostWrite_only
    | with_reducible apply State.done_only
    | with_reducible apply Ends.next
    | with_reducible apply Ends.ite
    | decide
    | intro _ _
    | intro _
    | dsimp only
    | split
    | with_reducible apply Only.upd_ring_rewind

end Sys2Proof.Machine
end

