-- ==== Sys2Proof/Laws/Frames/References.lean ====
section
/-! SUPPORT. What each operation of Machine/References.lean leaves as it was: the frame of every one. -/

set_option linter.unusedTactic false
set_option linter.unreachableTactic false

namespace Sys2Proof.Machine

open Host (Outcome)

theorem execSlotGuardExpiry_only {M : Nat} {origin : State} (n : SlotId) (s : State) (frame : Only M origin s) (inMask : 0x1001407f0040000000242 ||| M = M) : Ends M origin (execSlotGuardExpiry n s) := by
  refine Ends.step frame (G := 0x1001407f0040000000242) ?_ inMask
  unfold execSlotGuardExpiry
  repeat' first
    | with_reducible exact Only.refl _ _
    | with_reducible assumption
    | with_reducible apply Only.ite
    | with_reducible apply Only.foldl
    | with_reducible apply Only.fst_ite
    | with_reducible apply Only.snd_ite
    | with_reducible apply State.setNat_only
    | with_reducible apply State.refsUpdate_only
    | with_reducible apply Ends.next
    | with_reducible apply Ends.ite
    | decide
    | intro _ _
    | intro _
    | dsimp only
    | split

theorem execDisputeEnd_only {M : Nat} {origin : State} (a b : SlotId) (s : State) (frame : Only M origin s) (inMask : 0x1001407f0040000000242 ||| M = M) : Ends M origin (execDisputeEnd a b s) := by
  refine Ends.step frame (G := 0x1001407f0040000000242) ?_ inMask
  unfold execDisputeEnd
  repeat' first
    | with_reducible exact Only.refl _ _
    | with_reducible assumption
    | with_reducible apply Only.ite
    | with_reducible apply Only.foldl
    | with_reducible apply Only.fst_ite
    | with_reducible apply Only.snd_ite
    | with_reducible apply State.setSlot_only
    | with_reducible apply State.refsUpdate_only
    | with_reducible apply Ends.next
    | with_reducible apply Ends.ite
    | decide
    | intro _ _
    | intro _
    | dsimp only
    | split

theorem State.guardOver_only {M : Nat} {origin : State} (s : State) (k n : Nat) (frame : Only M origin s) (inMask : 0x1001407f0040000000242 ||| M = M) : Only M origin (State.guardOver s k n) := by
  refine Only.step frame (G := 0x1001407f0040000000242) ?_ inMask
  unfold State.guardOver
  repeat' first
    | with_reducible exact Only.refl _ _
    | with_reducible assumption
    | with_reducible apply Only.ite
    | with_reducible apply Only.foldl
    | with_reducible apply Only.fst_ite
    | with_reducible apply Only.snd_ite
    | with_reducible apply State.setNat_only
    | with_reducible apply State.refsUpdate_only
    | decide
    | intro _ _
    | intro _
    | dsimp only
    | split

theorem execPhaseAccept_only {M : Nat} {origin : State} (role : Role) (tb : TbId) (n : SlotId) (s : State) (frame : Only M origin s) (inMask : 0x1001407f004000000025a ||| M = M) : Ends M origin (execPhaseAccept role tb n s) := by
  refine Ends.step frame (G := 0x1001407f004000000025a) ?_ inMask
  unfold execPhaseAccept
  repeat' first
    | with_reducible exact Only.refl _ _
    | with_reducible assumption
    | with_reducible apply Only.ite
    | with_reducible apply Only.foldl
    | with_reducible apply Only.fst_ite
    | with_reducible apply Only.snd_ite
    | with_reducible apply State.hostWrite_only
    | with_reducible apply State.setNat_only
    | with_reducible apply State.refsUpdate_only
    | with_reducible apply State.done_only
    | with_reducible apply State.ruleRefused_only
    | with_reducible apply Ends.next
    | with_reducible apply Ends.ite
    | decide
    | intro _ _
    | intro _
    | dsimp only
    | split

theorem execPinInputLoss_only {M : Nat} {origin : State} (n : SlotId) (s : State) (frame : Only M origin s) (inMask : 0x1001407f0040000000242 ||| M = M) : Ends M origin (execPinInputLoss n s) := by
  refine Ends.step frame (G := 0x1001407f0040000000242) ?_ inMask
  unfold execPinInputLoss
  repeat' first
    | with_reducible exact Only.refl _ _
    | with_reducible assumption
    | with_reducible apply Only.ite
    | with_reducible apply Only.foldl
    | with_reducible apply Only.fst_ite
    | with_reducible apply Only.snd_ite
    | with_reducible apply State.setSlot_only
    | with_reducible apply State.refsUpdate_only
    | with_reducible apply Ends.next
    | with_reducible apply Ends.ite
    | decide
    | intro _ _
    | intro _
    | dsimp only
    | split

theorem execEsmcReceive_only {M : Nat} {origin : State} (p : PortId) (ssm : BitVec 4) (essm : Option (BitVec 8)) (s : State) (frame : Only M origin s) (inMask : 0x1001407f0040000000242 ||| M = M) : Ends M origin (execEsmcReceive p ssm essm s) := by
  refine Ends.step frame (G := 0x1001407f0040000000242) ?_ inMask
  unfold execEsmcReceive
  repeat' first
    | with_reducible exact Only.refl _ _
    | with_reducible assumption
    | with_reducible apply Only.ite
    | with_reducible apply Only.foldl
    | with_reducible apply Only.fst_ite
    | with_reducible apply Only.snd_ite
    | with_reducible apply State.setSlot_only
    | with_reducible apply State.refsUpdate_only
    | with_reducible apply Ends.next
    | with_reducible apply Ends.ite
    | decide
    | intro _ _
    | intro _
    | dsimp only
    | split

theorem execEsmcTimeout_only {M : Nat} {origin : State} (n : SlotId) (s : State) (frame : Only M origin s) (inMask : 0x1001407f0040000000242 ||| M = M) : Ends M origin (execEsmcTimeout n s) := by
  refine Ends.step frame (G := 0x1001407f0040000000242) ?_ inMask
  unfold execEsmcTimeout
  repeat' first
    | with_reducible exact Only.refl _ _
    | with_reducible assumption
    | with_reducible apply Only.ite
    | with_reducible apply Only.foldl
    | with_reducible apply Only.fst_ite
    | with_reducible apply Only.snd_ite
    | with_reducible apply State.setSlot_only
    | with_reducible apply State.refsUpdate_only
    | with_reducible apply Ends.next
    | with_reducible apply Ends.ite
    | decide
    | intro _ _
    | intro _
    | dsimp only
    | split

theorem execEsmcSend_only {M : Nat} {origin : State} (s : State) (frame : Only M origin s) (inMask : 0x800000000000000 ||| M = M) : Ends M origin (execEsmcSend s) := by
  refine Ends.step frame (G := 0x800000000000000) ?_ inMask
  unfold execEsmcSend
  repeat' first
    | with_reducible exact Only.refl _ _
    | with_reducible assumption
    | with_reducible apply Only.ite
    | with_reducible apply Only.foldl
    | with_reducible apply Only.fst_ite
    | with_reducible apply Only.snd_ite
    | with_reducible apply Ends.next
    | with_reducible apply Ends.ite
    | decide
    | intro _ _
    | intro _
    | dsimp only
    | split
    | with_reducible apply Only.upd_esmcOut

theorem execFrequencyLock_only {M : Nat} {origin : State} (s : State) (frame : Only M origin s) (inMask : 0x1001407f0040000000242 ||| M = M) : Ends M origin (execFrequencyLock s) := by
  refine Ends.step frame (G := 0x1001407f0040000000242) ?_ inMask
  unfold execFrequencyLock
  repeat' first
    | with_reducible exact Only.refl _ _
    | with_reducible assumption
    | with_reducible apply Only.ite
    | with_reducible apply Only.foldl
    | with_reducible apply Only.fst_ite
    | with_reducible apply Only.snd_ite
    | with_reducible apply State.setNat_only
    | with_reducible apply State.refsUpdate_only
    | with_reducible apply Ends.next
    | with_reducible apply Ends.ite
    | decide
    | intro _ _
    | intro _
    | dsimp only
    | split
    | with_reducible apply Only.upd_freqSwitching_freqLog

theorem State.followSlot_only {M : Nat} {origin : State} (s : State) (n : Nat) (v : Int) (frame : Only M origin s) (inMask : 0x5c0040000000000 ||| M = M) : Only M origin (State.followSlot s n v) := by
  refine Only.step frame (G := 0x5c0040000000000) ?_ inMask
  unfold State.followSlot
  repeat' first
    | with_reducible exact Only.refl _ _
    | with_reducible assumption
    | with_reducible apply Only.ite
    | with_reducible apply Only.foldl
    | with_reducible apply Only.fst_ite
    | with_reducible apply Only.snd_ite
    | with_reducible apply State.pull_only
    | with_reducible apply State.setFrequency_only
    | decide
    | intro _ _
    | intro _
    | dsimp only
    | split
    | with_reducible apply Only.upd_freqLog

theorem execFrequencyOffsetMeasurement_only {M : Nat} {origin : State} (n : SlotId) (phases : List Int) (s : State) (frame : Only M origin s) (inMask : 0x1001407f0040000000242 ||| M = M) : Ends M origin (execFrequencyOffsetMeasurement n phases s) := by
  refine Ends.step frame (G := 0x1001407f0040000000242) ?_ inMask
  unfold execFrequencyOffsetMeasurement
  repeat' first
    | with_reducible exact Only.refl _ _
    | with_reducible assumption
    | with_reducible apply Only.ite
    | with_reducible apply Only.foldl
    | with_reducible apply Only.fst_ite
    | with_reducible apply Only.snd_ite
    | with_reducible apply State.setReg_only
    | with_reducible apply State.setSlot_only
    | with_reducible apply State.judgeWindow_only
    | with_reducible apply State.refsUpdate_only
    | with_reducible apply State.followSlot_only
    | with_reducible apply Ends.next
    | with_reducible apply Ends.ite
    | decide
    | intro _ _
    | intro _
    | dsimp only
    | split

theorem execReferencePinEdge_only {M : Nat} {origin : State} (pin : Fin 6) (agePs : Nat) (s : State) (frame : Only M origin s) (inMask : 0x1001407f0040000000242 ||| M = M) : Ends M origin (execReferencePinEdge pin agePs s) := by
  refine Ends.step frame (G := 0x1001407f0040000000242) ?_ inMask
  unfold execReferencePinEdge
  repeat' first
    | with_reducible exact Only.refl _ _
    | with_reducible assumption
    | with_reducible apply Only.ite
    | with_reducible apply Only.foldl
    | with_reducible apply Only.fst_ite
    | with_reducible apply Only.snd_ite
    | with_reducible apply State.setSlot_only
    | with_reducible apply State.slotOffsetSeen_only
    | with_reducible apply State.refsUpdate_only
    | with_reducible apply Ends.next
    | with_reducible apply Ends.ite
    | decide
    | intro _ _
    | intro _
    | dsimp only
    | split

theorem execSlotOffsetTimeout_only {M : Nat} {origin : State} (n : SlotId) (tb : TbId) (s : State) (frame : Only M origin s) (inMask : 0x1001407f0040000000242 ||| M = M) : Ends M origin (execSlotOffsetTimeout n tb s) := by
  refine Ends.step frame (G := 0x1001407f0040000000242) ?_ inMask
  unfold execSlotOffsetTimeout
  repeat' first
    | with_reducible exact Only.refl _ _
    | with_reducible assumption
    | with_reducible apply Only.ite
    | with_reducible apply Only.foldl
    | with_reducible apply Only.fst_ite
    | with_reducible apply Only.snd_ite
    | with_reducible apply State.setSlot_only
    | with_reducible apply State.refsUpdate_only
    | with_reducible apply Ends.next
    | with_reducible apply Ends.ite
    | decide
    | intro _ _
    | intro _
    | dsimp only
    | split

end Sys2Proof.Machine
end

