-- ==== Sys2Proof/Laws/Frames/Tables.lean ====
section
/-! SUPPORT. What each operation of Machine/Tables.lean leaves as it was: the frame of every one. -/

set_option linter.unusedTactic false
set_option linter.unreachableTactic false

namespace Sys2Proof.Machine

open Host (Outcome)

theorem State.streamInsert_only {M : Nat} {origin : State} {s : State} {e : Nat} (frame : Only M origin s) (inMask : 0x400000 ||| M = M) {u : State} (h : State.streamInsert s e = some u) : Only M origin u := by
  refine Only.step frame (G := 0x400000) ?_ inMask
  suffices q : OnlyOpt 0x400000 s (State.streamInsert s e) from q.only u h
  clear h
  unfold State.streamInsert
  repeat' first
    | with_reducible exact Only.refl _ _
    | with_reducible assumption
    | with_reducible apply Only.ite
    | with_reducible apply Only.foldl
    | with_reducible apply Only.fst_ite
    | with_reducible apply Only.snd_ite
    | with_reducible apply OnlyOpt.some
    | with_reducible apply OnlyOpt.none
    | with_reducible apply OnlyOpt.ite
    | with_reducible apply OnlyOpt.map
    | decide
    | intro _ _
    | intro _
    | dsimp only
    | split
    | with_reducible apply Only.upd_streams

theorem State.keyDelete_only {M : Nat} {origin : State} (s : State) (idx e : Nat) (frame : Only M origin s) (inMask : 0x480000 ||| M = M) : Only M origin (State.keyDelete s idx e) := by
  refine Only.step frame (G := 0x480000) ?_ inMask
  unfold State.keyDelete
  repeat' first
    | with_reducible exact Only.refl _ _
    | with_reducible assumption
    | with_reducible apply Only.ite
    | with_reducible apply Only.foldl
    | with_reducible apply Only.fst_ite
    | with_reducible apply Only.snd_ite
    | decide
    | intro _ _
    | intro _
    | dsimp only
    | split
    | with_reducible apply Only.upd_fdb
    | with_reducible apply Only.upd_streams

theorem State.indexWrite_only {M : Nat} {origin : State} (s : State) (idx i e : Nat) (frame : Only M origin s) (inMask : 0x1b00000 ||| M = M) : Only M origin (State.indexWrite s idx i e) := by
  refine Only.step frame (G := 0x1b00000) ?_ inMask
  unfold State.indexWrite
  repeat' first
    | with_reducible exact Only.refl _ _
    | with_reducible assumption
    | with_reducible apply Only.ite
    | with_reducible apply Only.foldl
    | with_reducible apply Only.fst_ite
    | with_reducible apply Only.snd_ite
    | decide
    | intro _ _
    | intro _
    | dsimp only
    | split
    | with_reducible apply Only.upd_classifier
    | with_reducible apply Only.upd_contracts
    | with_reducible apply Only.upd_portSets
    | with_reducible apply Only.upd_vlan

theorem State.insertEither_only {M : Nat} {origin s : State} {e : Nat} {c : Prop} [Decidable c] {u : State} (frame : Only M origin s)
    (inMask : 0x1f80000 ||| M = M) (h : (if c then s.fdbInsert e else s.streamInsert e) = some u) : Only M origin u := by
  refine Only.step (G := 0x1f80000) frame ?_ inMask
  split at h
  · exact State.fdbInsert_only (Only.refl _ _) (by decide) h
  · exact State.streamInsert_only (Only.refl _ _) (by decide) h

theorem State.applyRecord_only {M : Nat} {origin : State} (s : State) (idx : Nat) (r : List Byte)
    (frame : Only M origin s) (inMask : 0x1f80000 ||| M = M) : Only M origin (State.applyRecord s idx r).1 := by
  refine Only.step frame (G := 0x1f80000) ?_ inMask
  unfold State.applyRecord
  repeat' first
    | with_reducible exact Only.refl _ _
    | with_reducible assumption
    | with_reducible apply Only.ite
    | with_reducible apply Only.foldl
    | with_reducible apply Only.fst_ite
    | with_reducible apply Only.snd_ite
    | with_reducible apply State.keyDelete_only
    | with_reducible apply State.indexWrite_only
    | with_reducible (refine State.fdbInsert_only (h := by assumption) ?_ ?_)
    | with_reducible (refine State.streamInsert_only (h := by assumption) ?_ ?_)
    | with_reducible (refine State.insertEither_only (h := by assumption) ?_ ?_)
    | decide
    | intro _ _
    | intro _
    | dsimp only
    | split


theorem State.applyFrer_only {M : Nat} {origin : State} (s : State) (r : List Byte) (frame : Only M origin s) (inMask : 0x100000000 ||| M = M) : Only M origin (State.applyFrer s r).1 := by
  refine Only.step frame (G := 0x100000000) ?_ inMask
  unfold State.applyFrer
  repeat' first
    | with_reducible exact Only.refl _ _
    | with_reducible assumption
    | with_reducible apply Only.ite
    | with_reducible apply Only.foldl
    | with_reducible apply Only.fst_ite
    | with_reducible apply Only.snd_ite
    | decide
    | intro _ _
    | intro _
    | dsimp only
    | split
    | with_reducible apply Only.upd_frer

theorem State.applyGate_only {M : Nat} {origin : State} (s : State) (r : List Byte) (frame : Only M origin s) (inMask : 0x80000000 ||| M = M) : Only M origin (State.applyGate s r).1 := by
  refine Only.step frame (G := 0x80000000) ?_ inMask
  unfold State.applyGate
  repeat' first
    | with_reducible exact Only.refl _ _
    | with_reducible assumption
    | with_reducible apply Only.ite
    | with_reducible apply Only.foldl
    | with_reducible apply Only.fst_ite
    | with_reducible apply Only.snd_ite
    | decide
    | intro _ _
    | intro _
    | dsimp only
    | split
    | with_reducible apply Only.upd_gates

theorem State.applyRecords_only {M : Nat} {origin : State} (idx : Nat) (s : State) (l : List (List Byte))
    (frame : Only M origin s) (inMask : 0x181f80000 ||| M = M) : Only M origin (State.applyRecords idx s l).1 := by
  refine Only.step frame (G := 0x181f80000) ?_ inMask
  clear frame inMask
  induction l generalizing s with
  | nil => exact Only.refl _ _
  | cons m l ih =>
    have ih' : ∀ {M : Nat} {origin s : State}, Only M origin s → 0x181f80000 ||| M = M →
        Only M origin (State.applyRecords idx s l).1 := fun a b => a.step (ih _) b
    have first : ∀ {M : Nat} {origin : State}, Only M origin s → 0x181f80000 ||| M = M →
        Only M origin (if idx = 0x3070 then s.applyFrer m else if idx = 0x3080 then s.applyGate m else s.applyRecord idx m).1 := by
      intro M origin a b
      refine a.step (G := 0x181f80000) ?_ b
      split
      · exact State.applyFrer_only _ _ (Only.refl _ _) (by decide)
      · split
        · exact State.applyGate_only _ _ (Only.refl _ _) (by decide)
        · exact State.applyRecord_only _ _ _ (Only.refl _ _) (by decide)
    unfold State.applyRecords
    generalize (if idx = 0x3070 then s.applyFrer m else if idx = 0x3080 then s.applyGate m else s.applyRecord idx m) = x at first ⊢
    obtain ⟨x, f⟩ := x
    dsimp only at first ⊢
    split
    · exact first (Only.refl _ _) (by decide)
    · exact ih' (first (Only.refl _ _) (by decide)) (by decide)


theorem State.applyTable_only {M : Nat} {origin : State} (s : State) (idx : Nat) (b : List Byte) (frame : Only M origin s) (inMask : 0x181f80000 ||| M = M) : Only M origin (State.applyTable s idx b).1 := by
  refine Only.step frame (G := 0x181f80000) ?_ inMask
  unfold State.applyTable
  repeat' first
    | with_reducible exact Only.refl _ _
    | with_reducible assumption
    | with_reducible apply Only.ite
    | with_reducible apply Only.foldl
    | with_reducible apply Only.fst_ite
    | with_reducible apply Only.snd_ite
    | with_reducible apply State.applyRecords_only
    | with_reducible (refine Only.of_fst (by assumption) ?_; apply State.applyRecords_only)
    | decide
    | intro _ _
    | intro _
    | dsimp only
    | split

theorem execScarabRestore_only {M : Nat} {origin : State} (c : ClusterId) (t : TableId) (position : Nat) (s : State) (frame : Only M origin s) (inMask : 0x2000000 ||| M = M) : Ends M origin (execScarabRestore c t position s) := by
  refine Ends.step frame (G := 0x2000000) ?_ inMask
  unfold execScarabRestore
  repeat' first
    | with_reducible exact Only.refl _ _
    | with_reducible assumption
    | with_reducible apply Only.ite
    | with_reducible apply Only.foldl
    | with_reducible apply Only.fst_ite
    | with_reducible apply Only.snd_ite
    | with_reducible apply Ends.next
    | with_reducible apply Ends.ite
    | decide
    | intro _ _
    | intro _
    | dsimp only
    | split
    | with_reducible apply Only.upd_invalid

end Sys2Proof.Machine
end

