-- ==== Sys2Proof/Laws/Frames/Commit.lean ====
section
/-! SUPPORT. What each operation of Machine/Commit.lean leaves as it was: the frame of every one. -/

set_option linter.unusedTactic false
set_option linter.unreachableTactic false

namespace Sys2Proof.Machine

open Host (Outcome)

theorem State.closeSession_only {M : Nat} {origin : State} (s : State) (n : Nat) (frame : Only M origin s) (inMask : 0x300000000000000000006 ||| M = M) : Only M origin (State.closeSession s n) := by
  refine Only.step frame (G := 0x300000000000000000006) ?_ inMask
  unfold State.closeSession
  repeat' first
    | with_reducible exact Only.refl _ _
    | with_reducible assumption
    | with_reducible apply Only.ite
    | with_reducible apply Only.foldl
    | with_reducible apply Only.fst_ite
    | with_reducible apply Only.snd_ite
    | with_reducible apply State.setSession_only
    | with_reducible apply State.setNat_only
    | with_reducible apply State.setBlob_only
    | decide
    | intro _ _
    | intro _
    | dsimp only
    | split
    | with_reducible apply Only.upd_commits

theorem State.endGrant_only {M : Nat} {origin : State} (s : State) (frame : Only M origin s) (inMask : 0x200400000000000000000002 ||| M = M) : Only M origin (State.endGrant s) := by
  refine Only.step frame (G := 0x200400000000000000000002) ?_ inMask
  unfold State.endGrant
  repeat' first
    | with_reducible exact Only.refl _ _
    | with_reducible assumption
    | with_reducible apply Only.ite
    | with_reducible apply Only.foldl
    | with_reducible apply Only.fst_ite
    | with_reducible apply Only.snd_ite
    | with_reducible apply State.setNat_only
    | with_reducible apply State.resumeThreads_only
    | decide
    | intro _ _
    | intro _
    | dsimp only
    | split
    | with_reducible apply Only.upd_security

theorem State.putValue_only {M : Nat} {origin : State} (s : State) (v : OdValue) (frame : Only M origin s) (inMask : 0x80000000181f80406 ||| M = M) : Only M origin (State.putValue s v).1 := by
  refine Only.step frame (G := 0x80000000181f80406) ?_ inMask
  unfold State.putValue
  repeat' first
    | with_reducible exact Only.refl _ _
    | with_reducible assumption
    | with_reducible apply Only.ite
    | with_reducible apply Only.foldl
    | with_reducible apply Only.fst_ite
    | with_reducible apply Only.snd_ite
    | with_reducible apply State.applyTable_only
    | with_reducible (refine Only.of_fst (by assumption) ?_; apply State.applyTable_only)
    | with_reducible apply State.setBlob_only
    | with_reducible apply State.setSetting_only
    | with_reducible apply State.setEg_only
    | with_reducible apply State.setReg_only
    | decide
    | intro _ _
    | intro _
    | dsimp only
    | split

theorem State.putAll_only {M : Nat} {origin : State} (s : State) (l : List OdValue)
    (frame : Only M origin s) (inMask : 0x80000000181f80406 ||| M = M) : Only M origin (State.putAll s l).1 := by
  refine Only.step frame (G := 0x80000000181f80406) ?_ inMask
  clear frame inMask
  induction l generalizing s with
  | nil => exact Only.refl _ _
  | cons m l ih =>
    have ih' : ∀ {M : Nat} {origin s : State}, Only M origin s → 0x80000000181f80406 ||| M = M →
        Only M origin (State.putAll s l).1 := fun a b => a.step (ih _) b
    unfold State.putAll
    repeat' first
      | with_reducible exact Only.refl _ _
      | with_reducible assumption
      | with_reducible apply Only.ite
      | with_reducible apply Only.foldl
      | with_reducible apply Only.fst_ite
      | with_reducible apply Only.snd_ite
      | with_reducible apply State.putValue_only
      | with_reducible (refine Only.of_fst (by assumption) ?_; apply State.putValue_only)
      | with_reducible apply ih'
      | with_reducible (refine Only.of_fst (by assumption) ?_; apply ih')
      | decide
      | intro _ _
      | intro _
      | dsimp only
      | split


theorem State.unadmit_only {M : Nat} {origin : State} (s : State) (i : Nat) (frame : Only M origin s) (inMask : 0x200800000 ||| M = M) : Only M origin (State.unadmit s i) := by
  refine Only.step frame (G := 0x200800000) ?_ inMask
  unfold State.unadmit
  repeat' first
    | with_reducible exact Only.refl _ _
    | with_reducible assumption
    | with_reducible apply Only.ite
    | with_reducible apply Only.foldl
    | with_reducible apply Only.fst_ite
    | with_reducible apply Only.snd_ite
    | with_reducible apply State.setContractAt_only
    | decide
    | intro _ _
    | intro _
    | dsimp only
    | split
    | with_reducible apply Only.upd_contracts

theorem State.freePorts_only {M : Nat} {origin : State} (was s : State) (l : List OdValue) (frame : Only M origin s) (inMask : 0x2 ||| M = M) : Only M origin (State.freePorts was s l) := by
  refine Only.step frame (G := 0x2) ?_ inMask
  unfold State.freePorts
  repeat' first
    | with_reducible exact Only.refl _ _
    | with_reducible assumption
    | with_reducible apply Only.ite
    | with_reducible apply Only.foldl
    | with_reducible apply Only.fst_ite
    | with_reducible apply Only.snd_ite
    | with_reducible apply State.setNat_only
    | decide
    | intro _ _
    | intro _
    | dsimp only
    | split

theorem State.candidate_only {M : Nat} {origin : State} (s : State) (l : List OdValue) (frame : Only M origin s) (inMask : 0x80000000381f80406 ||| M = M) : Only M origin (State.candidate s l).1 := by
  refine Only.step frame (G := 0x80000000381f80406) ?_ inMask
  unfold State.candidate
  repeat' first
    | with_reducible exact Only.refl _ _
    | with_reducible assumption
    | with_reducible apply Only.ite
    | with_reducible apply Only.foldl
    | with_reducible apply Only.fst_ite
    | with_reducible apply Only.snd_ite
    | with_reducible apply State.putAll_only
    | with_reducible (refine Only.of_fst (by assumption) ?_; apply State.putAll_only)
    | with_reducible apply State.freePorts_only
    | with_reducible apply State.setLaneRates_only
    | with_reducible apply State.unadmit_only
    | decide
    | intro _ _
    | intro _
    | dsimp only
    | split

theorem State.admitChanged_only {M : Nat} {origin : State} (s : State) (changed : List Nat) (frame : Only M origin s) (inMask : 0x200800000 ||| M = M) : Only M origin (State.admitChanged s changed).1 := by
  refine Only.step frame (G := 0x200800000) ?_ inMask
  unfold State.admitChanged
  repeat' first
    | with_reducible exact Only.refl _ _
    | with_reducible assumption
    | with_reducible apply Only.ite
    | with_reducible apply Only.foldl
    | with_reducible apply Only.fst_ite
    | with_reducible apply Only.snd_ite
    | with_reducible apply State.admitAll_only
    | with_reducible (refine Only.of_fst (by assumption) ?_; apply State.admitAll_only)
    | decide
    | intro _ _
    | intro _
    | dsimp only
    | split

theorem State.refuseCommit_only {M : Nat} {origin : State} (s : State) (f : Verdict) (frame : Only M origin s) (inMask : 0x2 ||| M = M) : Only M origin (State.refuseCommit s f) := by
  refine Only.step frame (G := 0x2) ?_ inMask
  unfold State.refuseCommit
  repeat' first
    | with_reducible exact Only.refl _ _
    | with_reducible assumption
    | with_reducible apply Only.ite
    | with_reducible apply Only.foldl
    | with_reducible apply Only.fst_ite
    | with_reducible apply Only.snd_ite
    | with_reducible apply State.setNat_only
    | with_reducible apply State.inc32_only
    | decide
    | intro _ _
    | intro _
    | dsimp only
    | split

theorem State.laneEffects_only {M : Nat} {origin : State} (was s : State) (l : List OdValue) (frame : Only M origin s) (inMask : 0x5001707f4140000003fc2 ||| M = M) : Only M origin (State.laneEffects was s l) := by
  refine Only.step frame (G := 0x5001707f4140000003fc2) ?_ inMask
  unfold State.laneEffects
  repeat' first
    | with_reducible exact Only.refl _ _
    | with_reducible assumption
    | with_reducible apply Only.ite
    | with_reducible apply Only.foldl
    | with_reducible apply Only.fst_ite
    | with_reducible apply Only.snd_ite
    | with_reducible apply State.laneRestart_only
    | with_reducible apply State.rateMatchOnly_only
    | with_reducible apply State.twinLanesRetry_only
    | decide
    | intro _ _
    | intro _
    | dsimp only
    | split

theorem State.portEffects_only {M : Nat} {origin : State} (was s : State) (l : List OdValue) (frame : Only M origin s) (inMask : 0x5001707f4140000073fde ||| M = M) : Only M origin (State.portEffects was s l) := by
  refine Only.step frame (G := 0x5001707f4140000073fde) ?_ inMask
  unfold State.portEffects
  repeat' first
    | with_reducible exact Only.refl _ _
    | with_reducible assumption
    | with_reducible apply Only.ite
    | with_reducible apply Only.foldl
    | with_reducible apply Only.fst_ite
    | with_reducible apply Only.snd_ite
    | with_reducible apply State.reconfigureDown_only
    | with_reducible apply State.reconfigured_only
    | with_reducible apply State.cageChanged_only
    | with_reducible apply State.rejudgeModule_only
    | decide
    | intro _ _
    | intro _
    | dsimp only
    | split

theorem State.associationEffects_only {M : Nat} {origin : State} (s : State) (l : List OdValue) (frame : Only M origin s) (inMask : 0x100 ||| M = M) : Only M origin (State.associationEffects s l) := by
  refine Only.step frame (G := 0x100) ?_ inMask
  unfold State.associationEffects
  repeat' first
    | with_reducible exact Only.refl _ _
    | with_reducible assumption
    | with_reducible apply Only.ite
    | with_reducible apply Only.foldl
    | with_reducible apply Only.fst_ite
    | with_reducible apply Only.snd_ite
    | with_reducible apply State.setPort_only
    | decide
    | intro _ _
    | intro _
    | dsimp only
    | split

theorem State.bufferEffects_only {M : Nat} {origin : State} (s : State) (l : List OdValue) (frame : Only M origin s) (inMask : 0x140000000000000402 ||| M = M) : Only M origin (State.bufferEffects s l) := by
  refine Only.step frame (G := 0x140000000000000402) ?_ inMask
  unfold State.bufferEffects
  repeat' first
    | with_reducible exact Only.refl _ _
    | with_reducible assumption
    | with_reducible apply Only.ite
    | with_reducible apply Only.foldl
    | with_reducible apply Only.fst_ite
    | with_reducible apply Only.snd_ite
    | with_reducible apply State.judgePool_only
    | with_reducible apply State.judgeQueue_only
    | with_reducible apply State.setEg_only
    | with_reducible apply State.setNat_only
    | decide
    | intro _ _
    | intro _
    | dsimp only
    | split

theorem State.fireflyEffects_only {M : Nat} {origin : State} (was s : State) (l : List OdValue) (frame : Only M origin s) (inMask : 0x100000000002 ||| M = M) : Only M origin (State.fireflyEffects was s l) := by
  refine Only.step frame (G := 0x100000000002) ?_ inMask
  unfold State.fireflyEffects
  repeat' first
    | with_reducible exact Only.refl _ _
    | with_reducible assumption
    | with_reducible apply Only.ite
    | with_reducible apply Only.foldl
    | with_reducible apply Only.fst_ite
    | with_reducible apply Only.snd_ite
    | with_reducible apply State.setReg_only
    | with_reducible apply State.setFirefly_only
    | with_reducible apply State.enableFirefly_only
    | decide
    | intro _ _
    | intro _
    | dsimp only
    | split

theorem State.resetSlot_only {M : Nat} {origin : State} (s : State) (n : Nat) (frame : Only M origin s) (inMask : 0x140010000000000002 ||| M = M) : Only M origin (State.resetSlot s n) := by
  refine Only.step frame (G := 0x140010000000000002) ?_ inMask
  unfold State.resetSlot
  repeat' first
    | with_reducible exact Only.refl _ _
    | with_reducible assumption
    | with_reducible apply Only.ite
    | with_reducible apply Only.foldl
    | with_reducible apply Only.fst_ite
    | with_reducible apply Only.snd_ite
    | with_reducible apply State.setSlot_only
    | with_reducible apply State.setReg_only
    | with_reducible apply State.putBit_only
    | with_reducible apply State.setNat_only
    | with_reducible apply State.raise_only
    | decide
    | intro _ _
    | intro _
    | dsimp only
    | split

theorem State.slotEffects_only {M : Nat} {origin : State} (was s : State) (l : List OdValue) (frame : Only M origin s) (inMask : 0x1001407f0040000000242 ||| M = M) : Only M origin (State.slotEffects was s l) := by
  refine Only.step frame (G := 0x1001407f0040000000242) ?_ inMask
  unfold State.slotEffects
  repeat' first
    | with_reducible exact Only.refl _ _
    | with_reducible assumption
    | with_reducible apply Only.ite
    | with_reducible apply Only.foldl
    | with_reducible apply Only.fst_ite
    | with_reducible apply Only.snd_ite
    | with_reducible apply State.judgeWindow_only
    | with_reducible apply State.resetSlot_only
    | with_reducible apply State.refsUpdate_only
    | with_reducible apply State.applySteering_only
    | with_reducible apply State.setFrequency_only
    | decide
    | intro _ _
    | intro _
    | dsimp only
    | split

theorem State.clockEffects_only {M : Nat} {origin : State} (was s : State) (l : List OdValue) (frame : Only M origin s) (inMask : 0x30000000002 ||| M = M) : Only M origin (State.clockEffects was s l) := by
  refine Only.step frame (G := 0x30000000002) ?_ inMask
  unfold State.clockEffects
  repeat' first
    | with_reducible exact Only.refl _ _
    | with_reducible assumption
    | with_reducible apply Only.ite
    | with_reducible apply Only.foldl
    | with_reducible apply Only.fst_ite
    | with_reducible apply Only.snd_ite
    | with_reducible apply State.relockBackup_only
    | with_reducible apply State.clockChanges_only
    | with_reducible apply State.clockWaits_only
    | with_reducible apply State.judgeClocks_only
    | decide
    | intro _ _
    | intro _
    | dsimp only
    | split

theorem State.standbyEffects_only {M : Nat} {origin : State} (s : State) (l : List OdValue) (frame : Only M origin s) (inMask : 0x2 ||| M = M) : Only M origin (State.standbyEffects s l) := by
  refine Only.step frame (G := 0x2) ?_ inMask
  unfold State.standbyEffects
  repeat' first
    | with_reducible exact Only.refl _ _
    | with_reducible assumption
    | with_reducible apply Only.ite
    | with_reducible apply Only.foldl
    | with_reducible apply Only.fst_ite
    | with_reducible apply Only.snd_ite
    | with_reducible apply State.setNat_only
    | decide
    | intro _ _
    | intro _
    | dsimp only
    | split

theorem State.hubEffects_only {M : Nat} {origin : State} (was s : State) (l : List OdValue) (frame : Only M origin s) (inMask : 0x40c0c140000000000000002 ||| M = M) : Only M origin (State.hubEffects was s l) := by
  refine Only.step frame (G := 0x40c0c140000000000000002) ?_ inMask
  unfold State.hubEffects
  repeat' first
    | with_reducible exact Only.refl _ _
    | with_reducible assumption
    | with_reducible apply Only.ite
    | with_reducible apply Only.foldl
    | with_reducible apply Only.fst_ite
    | with_reducible apply Only.snd_ite
    | with_reducible apply State.judgeLimit_only
    | with_reducible apply State.mask_only
    | with_reducible apply State.openWindow_only
    | with_reducible apply State.inc32_only
    | with_reducible apply State.resetEngine_only
    | with_reducible apply State.setRingX_only
    | with_reducible apply State.setNat_only
    | decide
    | intro _ _
    | intro _
    | dsimp only
    | split
    | with_reducible apply Only.upd_monitorPending

theorem State.credentialEffects_only {M : Nat} {origin : State} (was s : State) (frame : Only M origin s) (inMask : 0x200700000000000000000006 ||| M = M) : Only M origin (State.credentialEffects was s) := by
  refine Only.step frame (G := 0x200700000000000000000006) ?_ inMask
  unfold State.credentialEffects
  repeat' first
    | with_reducible exact Only.refl _ _
    | with_reducible assumption
    | with_reducible apply Only.ite
    | with_reducible apply Only.foldl
    | with_reducible apply Only.fst_ite
    | with_reducible apply Only.snd_ite
    | with_reducible apply State.closeSession_only
    | with_reducible apply State.endGrant_only
    | decide
    | intro _ _
    | intro _
    | dsimp only
    | split

theorem State.tableEffects_only {M : Nat} {origin : State} (was s : State) (l : List OdValue) (frame : Only M origin s) (inMask : 0x4000002 ||| M = M) : Only M origin (State.tableEffects was s l) := by
  refine Only.step frame (G := 0x4000002) ?_ inMask
  unfold State.tableEffects
  repeat' first
    | with_reducible exact Only.refl _ _
    | with_reducible assumption
    | with_reducible apply Only.ite
    | with_reducible apply Only.foldl
    | with_reducible apply Only.fst_ite
    | with_reducible apply Only.snd_ite
    | with_reducible apply State.setNat_only
    | decide
    | intro _ _
    | intro _
    | dsimp only
    | split
    | with_reducible apply Only.upd_folding

theorem State.testEffects_only {M : Nat} {origin : State} (s : State) (l : List OdValue) (frame : Only M origin s) (inMask : 0x5001707f4140000003fc2 ||| M = M) : Only M origin (State.testEffects s l) := by
  refine Only.step frame (G := 0x5001707f4140000003fc2) ?_ inMask
  unfold State.testEffects
  repeat' first
    | with_reducible exact Only.refl _ _
    | with_reducible assumption
    | with_reducible apply Only.ite
    | with_reducible apply Only.foldl
    | with_reducible apply Only.fst_ite
    | with_reducible apply Only.snd_ite
    | with_reducible apply State.setTests_only
    | decide
    | intro _ _
    | intro _
    | dsimp only
    | split

theorem State.fireDue_only {M : Nat} {origin : State} (s : State) (l : List OdValue) (frame : Only M origin s) (inMask : 0x400000001d80000000002 ||| M = M) : Only M origin (State.fireDue s l) := by
  refine Only.step frame (G := 0x400000001d80000000002) ?_ inMask
  unfold State.fireDue
  repeat' first
    | with_reducible exact Only.refl _ _
    | with_reducible assumption
    | with_reducible apply Only.ite
    | with_reducible apply Only.foldl
    | with_reducible apply Only.fst_ite
    | with_reducible apply Only.snd_ite
    | with_reducible apply State.instanceDue_only
    | with_reducible apply State.nextInstance_only
    | decide
    | intro _ _
    | intro _
    | dsimp only
    | split

theorem State.armEffects_only {M : Nat} {origin : State} (was s : State) (l : List OdValue) (frame : Only M origin s) (inMask : 0x80000000000 ||| M = M) : Only M origin (State.armEffects was s l) := by
  refine Only.step frame (G := 0x80000000000) ?_ inMask
  unfold State.armEffects
  repeat' first
    | with_reducible exact Only.refl _ _
    | with_reducible assumption
    | with_reducible apply Only.ite
    | with_reducible apply Only.foldl
    | with_reducible apply Only.fst_ite
    | with_reducible apply Only.snd_ite
    | with_reducible apply State.setCompare_only
    | with_reducible apply State.armCompare_only
    | decide
    | intro _ _
    | intro _
    | dsimp only
    | split

theorem State.dropLearns_only {M : Nat} {origin : State} (s : State) (l : List OdValue) (frame : Only M origin s) (inMask : 0x20000000 ||| M = M) : Only M origin (State.dropLearns s l) := by
  refine Only.step frame (G := 0x20000000) ?_ inMask
  unfold State.dropLearns
  repeat' first
    | with_reducible exact Only.refl _ _
    | with_reducible assumption
    | with_reducible apply Only.ite
    | with_reducible apply Only.foldl
    | with_reducible apply Only.fst_ite
    | with_reducible apply Only.snd_ite
    | decide
    | intro _ _
    | intro _
    | dsimp only
    | split
    | with_reducible apply Only.upd_learns

theorem State.readmitChanged_only {M : Nat} {origin : State} (was s : State) (l : List OdValue)
    (frame : Only M origin s) (inMask : 0x200800000 ||| M = M) : Only M origin (State.readmitChanged was s l) := by
  refine Only.step frame (G := 0x200800000) ?_ inMask
  unfold State.readmitChanged
  repeat' first
    | with_reducible exact Only.refl _ _
    | with_reducible assumption
    | with_reducible apply Only.ite
    | with_reducible apply Only.foldl
    | with_reducible apply Only.fst_ite
    | with_reducible apply Only.snd_ite
    | with_reducible apply State.admitOne_only
    | decide
    | intro _ _
    | intro _
    | dsimp only
    | split


theorem State.putCommit_only {M : Nat} {origin : State} (s : State) (values : List OdValue) (cmd : State → OdValue → State)
    (frame : Only M origin s) (inMask : 0x240f0c1f07f41f03a5ff3fde ||| M = M) (h : ∀ a v, Only M a (cmd a v)) : Only M origin (State.putCommit s values cmd) := by
  unfold State.putCommit
  dsimp only
  refine Only.foldl ?_ h
  refine Only.step frame (G := 0x240f0c1f07f41f03a5ff3fde) ?_ inMask
  repeat' first
    | with_reducible exact Only.refl _ _
    | with_reducible assumption
    | with_reducible apply Only.ite
    | with_reducible apply Only.foldl
    | with_reducible apply Only.fst_ite
    | with_reducible apply Only.snd_ite
    | with_reducible apply State.candidate_only
    | with_reducible (refine Only.of_fst (by assumption) ?_; apply State.candidate_only)
    | with_reducible apply State.admitChanged_only
    | with_reducible (refine Only.of_fst (by assumption) ?_; apply State.admitChanged_only)
    | with_reducible apply State.readmitChanged_only
    | with_reducible apply State.tableEffects_only
    | with_reducible apply State.dropLearns_only
    | with_reducible apply State.laneEffects_only
    | with_reducible apply State.portEffects_only
    | with_reducible apply State.associationEffects_only
    | with_reducible apply State.bufferEffects_only
    | with_reducible apply State.fireflyEffects_only
    | with_reducible apply State.slotEffects_only
    | with_reducible apply State.clockEffects_only
    | with_reducible apply State.standbyEffects_only
    | with_reducible apply State.hubEffects_only
    | with_reducible apply State.credentialEffects_only
    | with_reducible apply State.armEffects_only
    | with_reducible apply State.testEffects_only
    | decide
    | intro _ _
    | intro _
    | dsimp only
    | split


theorem State.mirrorCommit_only {M : Nat} {origin : State} (s was : State) (w : Writer) (l : List OdValue) (frame : Only M origin s) (inMask : 0x20000000000000002 ||| M = M) : Only M origin (State.mirrorCommit s was w l) := by
  refine Only.step frame (G := 0x20000000000000002) ?_ inMask
  unfold State.mirrorCommit
  repeat' first
    | with_reducible exact Only.refl _ _
    | with_reducible assumption
    | with_reducible apply Only.ite
    | with_reducible apply Only.foldl
    | with_reducible apply Only.fst_ite
    | with_reducible apply Only.snd_ite
    | with_reducible apply State.setNat_only
    | with_reducible apply State.startResync_only
    | decide
    | intro _ _
    | intro _
    | dsimp only
    | split
    | with_reducible apply Only.upd_twin

theorem State.commitNotices_only {M : Nat} {origin : State} (s was : State) (w : Writer) (l : List OdValue) (frame : Only M origin s) (inMask : 0x100000000000000000042 ||| M = M) : Only M origin (State.commitNotices s was w l) := by
  refine Only.step frame (G := 0x100000000000000000042) ?_ inMask
  unfold State.commitNotices
  repeat' first
    | with_reducible exact Only.refl _ _
    | with_reducible assumption
    | with_reducible apply Only.ite
    | with_reducible apply Only.foldl
    | with_reducible apply Only.fst_ite
    | with_reducible apply Only.snd_ite
    | with_reducible apply State.noticeTo_only
    | decide
    | intro _ _
    | intro _
    | dsimp only
    | split

theorem State.recordCommit_only {M : Nat} {origin : State} (s was : State) (w : Writer) (values : List OdValue) (frame : Only M origin s) (inMask : 0x100020000000000000042 ||| M = M) : Only M origin (State.recordCommit s was w values) := by
  refine Only.step frame (G := 0x100020000000000000042) ?_ inMask
  unfold State.recordCommit
  repeat' first
    | with_reducible exact Only.refl _ _
    | with_reducible assumption
    | with_reducible apply Only.ite
    | with_reducible apply Only.foldl
    | with_reducible apply Only.fst_ite
    | with_reducible apply Only.snd_ite
    | with_reducible apply State.setNat_only
    | with_reducible apply State.mirrorCommit_only
    | with_reducible apply State.commitNotices_only
    | decide
    | intro _ _
    | intro _
    | dsimp only
    | split

theorem State.commitNow_only {M : Nat} {origin : State} (s : State) (w : Writer) (values : List OdValue) (cmd : State → OdValue → State)
    (frame : Only M origin s) (inMask : 0x240f0c1f07f5df03a5ff3fde ||| M = M) (h : ∀ a v, Only M a (cmd a v)) : Only M origin (State.commitNow s w values cmd) := by
  unfold State.commitNow
  refine State.recordCommit_only _ _ _ _ (State.putCommit_only _ _ _ (State.fireDue_only _ _ frame ?_) ?_ h) ?_
  · rw [← inMask, ← Nat.or_assoc]; rfl
  · rw [← inMask, ← Nat.or_assoc]; rfl
  · rw [← inMask, ← Nat.or_assoc]; rfl


theorem noCommand_only {M : Nat} {origin : State} (s : State) (v : OdValue)
    (frame : Only M origin s) (inMask : 0x0 ||| M = M) : Only M origin (noCommand s v) := frame


end Sys2Proof.Machine
end

