-- ==== Sys2Proof/Laws/Frames/Collector.lean ====
section
/-! SUPPORT. What each operation of Machine/Collector.lean leaves as it was: the frame of every one. -/

set_option linter.unusedTactic false
set_option linter.unreachableTactic false

namespace Sys2Proof.Machine

open Host (Outcome)

theorem State.logRecord_only {M : Nat} {origin : State} (s : State) (r : Record) (frame : Only M origin s) (inMask : 0x600000000000000002 ||| M = M) : Only M origin (State.logRecord s r) := by
  refine Only.step frame (G := 0x600000000000000002) ?_ inMask
  unfold State.logRecord
  repeat' first
    | with_reducible exact Only.refl _ _
    | with_reducible assumption
    | with_reducible apply Only.ite
    | with_reducible apply Only.foldl
    | with_reducible apply Only.fst_ite
    | with_reducible apply Only.snd_ite
    | with_reducible apply State.inc32_only
    | with_reducible apply State.putBit_only
    | decide
    | intro _ _
    | intro _
    | dsimp only
    | split
    | with_reducible apply Only.upd_log
    | with_reducible apply Only.upd_log_logRead

theorem State.judgeErrN_only {M : Nat} {origin : State} (s : State) (frame : Only M origin s) (inMask : 0x50000000000000000000 ||| M = M) : Only M origin (State.judgeErrN s) := by
  refine Only.step frame (G := 0x50000000000000000000) ?_ inMask
  unfold State.judgeErrN
  repeat' first
    | with_reducible exact Only.refl _ _
    | with_reducible assumption
    | with_reducible apply Only.ite
    | with_reducible apply Only.foldl
    | with_reducible apply Only.fst_ite
    | with_reducible apply Only.snd_ite
    | decide
    | intro _ _
    | intro _
    | dsimp only
    | split
    | with_reducible apply Only.upd_errN
    | with_reducible apply Only.upd_errN_errNHold

theorem State.parkFireflies_only {M : Nat} {origin : State} (s : State) (frame : Only M origin s) (inMask : 0x100000000002 ||| M = M) : Only M origin (State.parkFireflies s) := by
  refine Only.step frame (G := 0x100000000002) ?_ inMask
  unfold State.parkFireflies
  repeat' first
    | with_reducible exact Only.refl _ _
    | with_reducible assumption
    | with_reducible apply Only.ite
    | with_reducible apply Only.foldl
    | with_reducible apply Only.fst_ite
    | with_reducible apply Only.snd_ite
    | with_reducible apply State.endPulses_only
    | with_reducible apply State.setNat_only
    | decide
    | intro _ _
    | intro _
    | dsimp only
    | split

theorem State.cancelCompares_only {M : Nat} {origin : State} (s : State) (frame : Only M origin s) (inMask : 0x80000000000 ||| M = M) : Only M origin (State.cancelCompares s) := by
  refine Only.step frame (G := 0x80000000000) ?_ inMask
  unfold State.cancelCompares
  repeat' first
    | with_reducible exact Only.refl _ _
    | with_reducible assumption
    | with_reducible apply Only.ite
    | with_reducible apply Only.foldl
    | with_reducible apply Only.fst_ite
    | with_reducible apply Only.snd_ite
    | with_reducible apply State.setCompare_only
    | decide
    | intro _ _
    | intro _
    | dsimp only
    | split

theorem State.idleLanes_only {M : Nat} {origin : State} (s : State) (frame : Only M origin s) (inMask : 0x5001707f4140000003fc2 ||| M = M) : Only M origin (State.idleLanes s) := by
  refine Only.step frame (G := 0x5001707f4140000003fc2) ?_ inMask
  unfold State.idleLanes
  repeat' first
    | with_reducible exact Only.refl _ _
    | with_reducible assumption
    | with_reducible apply Only.ite
    | with_reducible apply Only.foldl
    | with_reducible apply Only.fst_ite
    | with_reducible apply Only.snd_ite
    | with_reducible apply State.stopPort_only
    | with_reducible apply State.setNat_only
    | with_reducible apply State.laneOff_only
    | decide
    | intro _ _
    | intro _
    | dsimp only
    | split

theorem State.stopEngines_only {M : Nat} {origin : State} (s : State) (frame : Only M origin s) (inMask : 0x400000000000000000002 ||| M = M) : Only M origin (State.stopEngines s) := by
  refine Only.step frame (G := 0x400000000000000000002) ?_ inMask
  unfold State.stopEngines
  repeat' first
    | with_reducible exact Only.refl _ _
    | with_reducible assumption
    | with_reducible apply Only.ite
    | with_reducible apply Only.foldl
    | with_reducible apply Only.fst_ite
    | with_reducible apply Only.snd_ite
    | with_reducible apply State.setEngine_only
    | with_reducible apply State.setNat_only
    | decide
    | intro _ _
    | intro _
    | dsimp only
    | split

theorem State.leaveService_only {M : Nat} {origin : State} (s : State) (frame : Only M origin s) (inMask : 0x500020000000000000042 ||| M = M) : Only M origin (State.leaveService s) := by
  refine Only.step frame (G := 0x500020000000000000042) ?_ inMask
  unfold State.leaveService
  repeat' first
    | with_reducible exact Only.refl _ _
    | with_reducible assumption
    | with_reducible apply Only.ite
    | with_reducible apply Only.foldl
    | with_reducible apply Only.fst_ite
    | with_reducible apply Only.snd_ite
    | with_reducible apply State.yieldLead_only
    | decide
    | intro _ _
    | intro _
    | dsimp only
    | split
    | with_reducible apply Only.upd_twin

theorem State.regionsOff_only {M : Nat} {origin : State} (s : State) (frame : Only M origin s) (inMask : 0x80000000003800003800 ||| M = M) : Only M origin (State.regionsOff s) := by
  refine Only.step frame (G := 0x80000000003800003800) ?_ inMask
  unfold State.regionsOff
  repeat' first
    | with_reducible exact Only.refl _ _
    | with_reducible assumption
    | with_reducible apply Only.ite
    | with_reducible apply Only.foldl
    | with_reducible apply Only.fst_ite
    | with_reducible apply Only.snd_ite
    | decide
    | intro _ _
    | intro _
    | dsimp only
    | split
    | with_reducible apply Only.upd_domains_regions_and5

theorem State.settleSafe_only {M : Nat} {origin : State} (s : State) (frame : Only M origin s) (inMask : 0x4005001700041000000000c2 ||| M = M) : Only M origin (State.settleSafe s) := by
  refine Only.step frame (G := 0x4005001700041000000000c2) ?_ inMask
  unfold State.settleSafe
  repeat' first
    | with_reducible exact Only.refl _ _
    | with_reducible assumption
    | with_reducible apply Only.ite
    | with_reducible apply Only.foldl
    | with_reducible apply Only.fst_ite
    | with_reducible apply Only.snd_ite
    | with_reducible apply State.laneOff_only
    | decide
    | intro _ _
    | intro _
    | dsimp only
    | split
    | with_reducible apply Only.upd_start

theorem State.enterSafe_only {M : Nat} {origin : State} (s : State) (r : Option Record) (why : Option Nat) (frame : Only M origin s) (inMask : 0x6005fd1707f41e3800003fc2 ||| M = M) : Only M origin (State.enterSafe s r why) := by
  refine Only.step frame (G := 0x6005fd1707f41e3800003fc2) ?_ inMask
  unfold State.enterSafe
  repeat' first
    | with_reducible exact Only.refl _ _
    | with_reducible assumption
    | with_reducible apply Only.ite
    | with_reducible apply Only.foldl
    | with_reducible apply Only.fst_ite
    | with_reducible apply Only.snd_ite
    | with_reducible apply State.leaveService_only
    | with_reducible apply State.setRunState_only
    | with_reducible apply State.parkFireflies_only
    | with_reducible apply State.cancelCompares_only
    | with_reducible apply State.stopTimeBases_only
    | with_reducible apply State.judgeClocks_only
    | with_reducible apply State.idleLanes_only
    | with_reducible apply State.stopEngines_only
    | with_reducible apply State.regionsOff_only
    | with_reducible apply State.endGrant_only
    | with_reducible apply State.setNat_only
    | decide
    | intro _ _
    | intro _
    | dsimp only
    | split
    | with_reducible apply Only.upd_errN_errNHold_and4
    | with_reducible apply Only.upd_safeRecord
    | with_reducible apply Only.upd_start

theorem State.takeOne_only {M : Nat} {origin : State} (s : State) (m : Message) (frame : Only M origin s) (inMask : 0x2 ||| M = M) : Only M origin (State.takeOne s m).1 := by
  refine Only.step frame (G := 0x2) ?_ inMask
  unfold State.takeOne
  repeat' first
    | with_reducible exact Only.refl _ _
    | with_reducible assumption
    | with_reducible apply Only.ite
    | with_reducible apply Only.foldl
    | with_reducible apply Only.fst_ite
    | with_reducible apply Only.snd_ite
    | with_reducible apply State.inc64_only
    | with_reducible apply State.putBit_only
    | decide
    | intro _ _
    | intro _
    | dsimp only
    | split

theorem State.takeAll_only {M : Nat} {origin : State} (s : State) (l : List Message)
    (frame : Only M origin s) (inMask : 0x2 ||| M = M) : Only M origin (State.takeAll s l).1 := by
  refine Only.step frame (G := 0x2) ?_ inMask
  clear frame inMask
  induction l generalizing s with
  | nil => exact Only.refl _ _
  | cons m l ih =>
    have ih' : ∀ {M : Nat} {origin s : State}, Only M origin s → 0x2 ||| M = M →
        Only M origin (State.takeAll s l).1 := fun a b => a.step (ih _) b
    unfold State.takeAll
    repeat' first
      | with_reducible exact Only.refl _ _
      | with_reducible assumption
      | with_reducible apply Only.ite
      | with_reducible apply Only.foldl
      | with_reducible apply Only.fst_ite
      | with_reducible apply Only.snd_ite
      | with_reducible apply State.takeOne_only
      | with_reducible (refine Only.of_fst (by assumption) ?_; apply State.takeOne_only)
      | with_reducible apply ih'
      | with_reducible (refine Only.of_fst (by assumption) ?_; apply ih')
      | decide
      | intro _ _
      | intro _
      | dsimp only
      | split


theorem State.judgeCycle_only {M : Nat} {origin : State} (s : State) (l : List Taken)
    (frame : Only M origin s) (inMask : 0x2 ||| M = M) : Only M origin (State.judgeCycle s l).1 := by
  refine Only.step frame (G := 0x2) ?_ inMask
  unfold State.judgeCycle
  dsimp only
  refine List.foldlRecOn (motive := fun (a : State × List Taken × List Act) => Only 0x2 s a.1) l _ (Only.refl _ _) ?_
  intro a h t _
  split
  · exact State.putBit_only _ _ _ _ _ (State.inc64_only _ _ _ h (by decide)) (by decide)
  · exact h


theorem State.interrupt_only {M : Nat} {origin : State} (s : State) (t : Taken) (frame : Only M origin s) (inMask : 0x500000000000000000042 ||| M = M) : Only M origin (State.interrupt s t) := by
  refine Only.step frame (G := 0x500000000000000000042) ?_ inMask
  unfold State.interrupt
  repeat' first
    | with_reducible exact Only.refl _ _
    | with_reducible assumption
    | with_reducible apply Only.ite
    | with_reducible apply Only.foldl
    | with_reducible apply Only.fst_ite
    | with_reducible apply Only.snd_ite
    | with_reducible apply State.sendEvent_only
    | with_reducible apply State.notice_only
    | decide
    | intro _ _
    | intro _
    | dsimp only
    | split

theorem State.trapThread_only {M : Nat} {origin : State} (s : State) (t : Taken) (frame : Only M origin s) (inMask : 0x400000000000000000000 ||| M = M) : Only M origin (State.trapThread s t) := by
  refine Only.step frame (G := 0x400000000000000000000) ?_ inMask
  unfold State.trapThread
  repeat' first
    | with_reducible exact Only.refl _ _
    | with_reducible assumption
    | with_reducible apply Only.ite
    | with_reducible apply Only.foldl
    | with_reducible apply Only.fst_ite
    | with_reducible apply Only.snd_ite
    | with_reducible apply State.setEngine_only
    | decide
    | intro _ _
    | intro _
    | dsimp only
    | split

theorem State.reactions_only {M : Nat} {origin : State} (s : State) (l : List Taken) (starting : Bool) (frame : Only M origin s) (inMask : 0x800d8e1707f6143702813fc2 ||| M = M) : Only M origin (State.reactions s l starting).1 := by
  refine Only.step frame (G := 0x800d8e1707f6143702813fc2) ?_ inMask
  unfold State.reactions
  repeat' first
    | with_reducible exact Only.refl _ _
    | with_reducible assumption
    | with_reducible apply Only.ite
    | with_reducible apply Only.foldl
    | with_reducible apply Only.fst_ite
    | with_reducible apply Only.snd_ite
    | with_reducible apply State.fenceItem_only
    | with_reducible apply State.blockReset_only
    | with_reducible apply State.trapThread_only
    | with_reducible apply State.interrupt_only
    | decide
    | intro _ _
    | intro _
    | dsimp only
    | split

theorem State.writeRecords_only {M : Nat} {origin : State} (s : State) (l : List Taken) (first : Option Nat) (frame : Only M origin s) (inMask : 0xe00000000000000002 ||| M = M) : Only M origin (State.writeRecords s l first) := by
  refine Only.step frame (G := 0xe00000000000000002) ?_ inMask
  unfold State.writeRecords
  repeat' first
    | with_reducible exact Only.refl _ _
    | with_reducible assumption
    | with_reducible apply Only.ite
    | with_reducible apply Only.foldl
    | with_reducible apply Only.fst_ite
    | with_reducible apply Only.snd_ite
    | with_reducible apply State.logRecord_only
    | decide
    | intro _ _
    | intro _
    | dsimp only
    | split
    | with_reducible apply Only.upd_firstFault

theorem State.collect_only {M : Nat} {origin : State} (s : State) (host : List Taken) (frame : Only M origin s) (inMask : 0xe00dfff707f61e3f02813fc2 ||| M = M) : Only M origin (State.collect s host).1 := by
  refine Only.step frame (G := 0xe00dfff707f61e3f02813fc2) ?_ inMask
  unfold State.collect
  repeat' first
    | with_reducible exact Only.refl _ _
    | with_reducible assumption
    | with_reducible apply Only.ite
    | with_reducible apply Only.foldl
    | with_reducible apply Only.fst_ite
    | with_reducible apply Only.snd_ite
    | with_reducible apply State.takeAll_only
    | with_reducible (refine Only.of_fst (by assumption) ?_; apply State.takeAll_only)
    | with_reducible apply State.judgeCycle_only
    | with_reducible (refine Only.of_fst (by assumption) ?_; apply State.judgeCycle_only)
    | with_reducible apply State.writeRecords_only
    | with_reducible apply State.enterSafe_only
    | with_reducible apply State.reactions_only
    | with_reducible (refine Only.of_fst (by assumption) ?_; apply State.reactions_only)
    | with_reducible apply State.judgeErrN_only
    | decide
    | intro _ _
    | intro _
    | dsimp only
    | split
    | with_reducible apply Only.upd_messages

theorem State.raiseAll_only {M : Nat} {origin : State} (s : State) (l : List Detection) (frame : Only M origin s) (inMask : 0x140000000000000000 ||| M = M) : Only M origin (State.raiseAll s l) := by
  refine Only.step frame (G := 0x140000000000000000) ?_ inMask
  unfold State.raiseAll
  repeat' first
    | with_reducible exact Only.refl _ _
    | with_reducible assumption
    | with_reducible apply Only.ite
    | with_reducible apply Only.foldl
    | with_reducible apply Only.fst_ite
    | with_reducible apply Only.snd_ite
    | with_reducible apply State.raise_only
    | decide
    | intro _ _
    | intro _
    | dsimp only
    | split

end Sys2Proof.Machine
end

