-- ==== Sys2Proof/Laws/Frames/Startup.lean ====
section
/-! SUPPORT. What each operation of Machine/Startup.lean leaves as it was: the frame of every one. -/

set_option linter.unusedTactic false
set_option linter.unreachableTactic false

namespace Sys2Proof.Machine

open Host (Outcome)

theorem State.showFuses_only {M : Nat} {origin : State} (s : State) (frame : Only M origin s) (inMask : 0x2 ||| M = M) : Only M origin (State.showFuses s) := by
  refine Only.step frame (G := 0x2) ?_ inMask
  unfold State.showFuses
  repeat' first
    | with_reducible exact Only.refl _ _
    | with_reducible assumption
    | with_reducible apply Only.ite
    | with_reducible apply Only.foldl
    | with_reducible apply Only.fst_ite
    | with_reducible apply Only.snd_ite
    | with_reducible apply State.setNat_only
    | decide
    | intro _ _
    | intro _
    | dsimp only
    | split

theorem State.newChallenge_only {M : Nat} {origin : State} (s : State) (frame : Only M origin s) (inMask : 0x200000000000000000000002 ||| M = M) : Only M origin (State.newChallenge s) := by
  refine Only.step frame (G := 0x200000000000000000000002) ?_ inMask
  unfold State.newChallenge
  repeat' first
    | with_reducible exact Only.refl _ _
    | with_reducible assumption
    | with_reducible apply Only.ite
    | with_reducible apply Only.foldl
    | with_reducible apply Only.fst_ite
    | with_reducible apply Only.snd_ite
    | with_reducible apply State.setNat_only
    | decide
    | intro _ _
    | intro _
    | dsimp only
    | split
    | with_reducible apply Only.upd_security

theorem State.authenticate_only {M : Nat} {origin : State} (s : State) (run : StartRun) (frame : Only M origin s) (inMask : 0x6 ||| M = M) : Only M origin (State.authenticate s run) := by
  refine Only.step frame (G := 0x6) ?_ inMask
  unfold State.authenticate
  repeat' first
    | with_reducible exact Only.refl _ _
    | with_reducible assumption
    | with_reducible apply Only.ite
    | with_reducible apply Only.foldl
    | with_reducible apply Only.fst_ite
    | with_reducible apply Only.snd_ite
    | with_reducible apply State.setBlob_only
    | with_reducible apply State.addSat_only
    | with_reducible apply State.setNat_only
    | decide
    | intro _ _
    | intro _
    | dsimp only
    | split

theorem State.countFailure_only {M : Nat} {origin : State} (s : State) (step cause source ms : Nat) (frame : Only M origin s) (inMask : 0x6 ||| M = M) : Only M origin (State.countFailure s step cause source ms) := by
  refine Only.step frame (G := 0x6) ?_ inMask
  unfold State.countFailure
  repeat' first
    | with_reducible exact Only.refl _ _
    | with_reducible assumption
    | with_reducible apply Only.ite
    | with_reducible apply Only.foldl
    | with_reducible apply Only.fst_ite
    | with_reducible apply Only.snd_ite
    | with_reducible apply State.setBlob_only
    | with_reducible apply State.setNat_only
    | decide
    | intro _ _
    | intro _
    | dsimp only
    | split

theorem State.failStart_only {M : Nat} {origin : State} (s : State) (cause source : Nat) (frame : Only M origin s) (inMask : 0x400000000000000000000006 ||| M = M) : Only M origin (State.failStart s cause source) := by
  refine Only.step frame (G := 0x400000000000000000000006) ?_ inMask
  unfold State.failStart
  repeat' first
    | with_reducible exact Only.refl _ _
    | with_reducible assumption
    | with_reducible apply Only.ite
    | with_reducible apply Only.foldl
    | with_reducible apply Only.fst_ite
    | with_reducible apply Only.snd_ite
    | with_reducible apply State.countFailure_only
    | with_reducible apply State.setNat_only
    | decide
    | intro _ _
    | intro _
    | dsimp only
    | split
    | with_reducible apply Only.upd_start

theorem imageCommand_only {M : Nat} {origin : State} (s : State) (v : OdValue) (frame : Only M origin s) (inMask : 0x5001707f4140000003fc6 ||| M = M) : Only M origin (imageCommand s v) := by
  refine Only.step frame (G := 0x5001707f4140000003fc6) ?_ inMask
  unfold imageCommand
  repeat' first
    | with_reducible exact Only.refl _ _
    | with_reducible assumption
    | with_reducible apply Only.ite
    | with_reducible apply Only.foldl
    | with_reducible apply Only.fst_ite
    | with_reducible apply Only.snd_ite
    | with_reducible apply State.quietTransmit_only
    | with_reducible apply State.quietReceive_only
    | with_reducible apply State.setBlob_only
    | with_reducible apply State.setReg_only
    | with_reducible apply State.applySteering_only
    | decide
    | intro _ _
    | intro _
    | dsimp only
    | split

theorem State.restoreImage_only {M : Nat} {origin : State} (s : State) (run : StartRun) (frame : Only M origin s) (inMask : 0x240f0c1f07f5df03a5ff3fde ||| M = M) : Only M origin (State.restoreImage s run) := by
  refine Only.step frame (G := 0x240f0c1f07f5df03a5ff3fde) ?_ inMask
  unfold State.restoreImage
  repeat' first
    | with_reducible exact Only.refl _ _
    | with_reducible assumption
    | with_reducible apply Only.ite
    | with_reducible apply Only.foldl
    | with_reducible apply Only.fst_ite
    | with_reducible apply Only.snd_ite
    | with_reducible apply State.setNat_only
    | with_reducible apply State.commitNow_only
    | with_reducible apply imageCommand_only
    | decide
    | intro _ _
    | intro _
    | dsimp only
    | split

theorem State.coldBase_only {M : Nat} {origin : State} (s : State)
    (frame : Only M origin s) (inMask : 0x17ffffe1ffffffffffffffffe ||| M = M) : Only M origin (State.coldBase s) := by
  refine Only.step frame (G := 0x17ffffe1ffffffffffffffffe) ?_ inMask
  unfold State.coldBase
  dsimp only
  refine Only.foldl (Only.foldl ?_ (fun _ _ => State.setReg_only _ _ _ _ (Only.refl _ _) (by decide)))
    (fun _ _ => State.setBlob_only _ _ _ _ (Only.refl _ _) (by decide))
  exact ⟨fun _ => rfl, fun h => absurd h (by decide), fun h => absurd h (by decide), fun h => absurd h (by decide), fun h => absurd h (by decide), fun h => absurd h (by decide), fun h => absurd h (by decide), fun h => absurd h (by decide), fun h => absurd h (by decide), fun h => absurd h (by decide), fun h => absurd h (by decide), fun h => absurd h (by decide), fun h => absurd h (by decide), fun h => absurd h (by decide), fun h => absurd h (by decide), fun h => absurd h (by decide), fun h => absurd h (by decide), fun h => absurd h (by decide), fun h => absurd h (by decide), fun h => absurd h (by decide), fun h => absurd h (by decide), fun h => absurd h (by decide), fun h => absurd h (by decide), fun h => absurd h (by decide), fun h => absurd h (by decide), fun h => absurd h (by decide), fun h => absurd h (by decide), fun h => absurd h (by decide), fun h => absurd h (by decide), fun h => absurd h (by decide), fun h => absurd h (by decide), fun h => absurd h (by decide), fun h => absurd h (by decide), fun h => absurd h (by decide), fun h => absurd h (by decide), fun h => absurd h (by decide), fun h => absurd h (by decide), fun h => absurd h (by decide), fun h => absurd h (by decide), fun h => absurd h (by decide), fun h => absurd h (by decide), fun h => absurd h (by decide), fun h => absurd h (by decide), fun h => absurd h (by decide), fun h => absurd h (by decide), fun h => absurd h (by decide), fun h => absurd h (by decide), fun h => absurd h (by decide), fun h => absurd h (by decide), fun h => absurd h (by decide), fun h => absurd h (by decide), fun h => absurd h (by decide), fun h => absurd h (by decide), fun h => absurd h (by decide), fun h => absurd h (by decide), fun h => absurd h (by decide), fun h => absurd h (by decide), fun h => absurd h (by decide), fun h => absurd h (by decide), fun h => absurd h (by decide), fun h => absurd h (by decide), fun h => absurd h (by decide), fun h => absurd h (by decide), fun h => absurd h (by decide), fun h => absurd h (by decide), fun h => absurd h (by decide), fun h => absurd h (by decide), fun h => absurd h (by decide), fun h => absurd h (by decide), fun _ => rfl, fun _ => rfl, fun _ => rfl, fun _ => rfl, fun h => absurd h (by decide), fun h => absurd h (by decide), fun h => absurd h (by decide), fun h => absurd h (by decide), fun h => absurd h (by decide), fun h => absurd h (by decide), fun h => absurd h (by decide), fun h => absurd h (by decide), fun h => absurd h (by decide), fun h => absurd h (by decide), fun h => absurd h (by decide), fun h => absurd h (by decide), fun h => absurd h (by decide), fun h => absurd h (by decide), fun h => absurd h (by decide), fun h => absurd h (by decide), fun h => absurd h (by decide), fun h => absurd h (by decide), fun h => absurd h (by decide), fun h => absurd h (by decide), fun h => absurd h (by decide), fun h => absurd h (by decide), fun _ => rfl, fun h => absurd h (by decide), fun _ => rfl⟩


theorem State.coldFuses_only {M : Nat} {origin : State} (s : State) (run : StartRun) (frame : Only M origin s) (inMask : 0x200000000000000000000002 ||| M = M) : Only M origin (State.coldFuses s run) := by
  refine Only.step frame (G := 0x200000000000000000000002) ?_ inMask
  unfold State.coldFuses
  repeat' first
    | with_reducible exact Only.refl _ _
    | with_reducible assumption
    | with_reducible apply Only.ite
    | with_reducible apply Only.foldl
    | with_reducible apply Only.fst_ite
    | with_reducible apply Only.snd_ite
    | with_reducible apply State.showFuses_only
    | with_reducible apply State.setNat_only
    | with_reducible apply State.newChallenge_only
    | decide
    | intro _ _
    | intro _
    | dsimp only
    | split
    | with_reducible apply Only.upd_security

theorem State.coldSynthesis_only {M : Nat} {origin : State} (s : State) (run : StartRun) (frame : Only M origin s) (inMask : 0x141000020000000002 ||| M = M) : Only M origin (State.coldSynthesis s run) := by
  refine Only.step frame (G := 0x141000020000000002) ?_ inMask
  unfold State.coldSynthesis
  repeat' first
    | with_reducible exact Only.refl _ _
    | with_reducible assumption
    | with_reducible apply Only.ite
    | with_reducible apply Only.foldl
    | with_reducible apply Only.fst_ite
    | with_reducible apply Only.snd_ite
    | with_reducible apply State.measureResistor_only
    | with_reducible apply State.putBit_only
    | with_reducible apply State.startClocks_only
    | decide
    | intro _ _
    | intro _
    | dsimp only
    | split
    | with_reducible apply Only.upd_analog

theorem State.coldTrims_only {M : Nat} {origin : State} (s : State) (frame : Only M origin s) (inMask : 0x1000000000000006 ||| M = M) : Only M origin (State.coldTrims s) := by
  refine Only.step frame (G := 0x1000000000000006) ?_ inMask
  unfold State.coldTrims
  repeat' first
    | with_reducible exact Only.refl _ _
    | with_reducible assumption
    | with_reducible apply Only.ite
    | with_reducible apply Only.foldl
    | with_reducible apply Only.fst_ite
    | with_reducible apply Only.snd_ite
    | with_reducible apply State.setNat_only
    | with_reducible apply State.setBlob_only
    | decide
    | intro _ _
    | intro _
    | dsimp only
    | split
    | with_reducible apply Only.upd_analog

theorem State.coldRegions_only {M : Nat} {origin : State} (s : State) (run : StartRun) (frame : Only M origin s) (inMask : 0xe00dfff717f61e3f02813fc6 ||| M = M) : Only M origin (State.coldRegions s run).1 := by
  refine Only.step frame (G := 0xe00dfff717f61e3f02813fc6) ?_ inMask
  unfold State.coldRegions
  repeat' first
    | with_reducible exact Only.refl _ _
    | with_reducible assumption
    | with_reducible apply Only.ite
    | with_reducible apply Only.foldl
    | with_reducible apply Only.fst_ite
    | with_reducible apply Only.snd_ite
    | with_reducible apply State.raise_only
    | with_reducible apply State.collect_only
    | with_reducible (refine Only.of_fst (by assumption) ?_; apply State.collect_only)
    | with_reducible apply State.fenceItem_only
    | with_reducible apply State.coldTrims_only
    | decide
    | intro _ _
    | intro _
    | dsimp only
    | split
    | with_reducible apply Only.upd_domains

theorem State.startServer_only {M : Nat} {origin : State} (s : State) (frame : Only M origin s) (inMask : 0x400400000000000000000002 ||| M = M) : Only M origin (State.startServer s) := by
  refine Only.step frame (G := 0x400400000000000000000002) ?_ inMask
  unfold State.startServer
  repeat' first
    | with_reducible exact Only.refl _ _
    | with_reducible assumption
    | with_reducible apply Only.ite
    | with_reducible apply Only.foldl
    | with_reducible apply Only.fst_ite
    | with_reducible apply Only.snd_ite
    | with_reducible apply State.setEngine_only
    | with_reducible apply State.setNat_only
    | decide
    | intro _ _
    | intro _
    | dsimp only
    | split
    | with_reducible apply Only.upd_start

theorem State.coldStep_only {M : Nat} {origin : State} (s : State) (run : StartRun) (n : Nat) (frame : Only M origin s) (inMask : 0xe60fffff17f7df3fa7ff3fde ||| M = M) : Only M origin (State.coldStep s run n).1 := by
  refine Only.step frame (G := 0xe60fffff17f7df3fa7ff3fde) ?_ inMask
  unfold State.coldStep
  repeat' first
    | with_reducible exact Only.refl _ _
    | with_reducible assumption
    | with_reducible apply Only.ite
    | with_reducible apply Only.foldl
    | with_reducible apply Only.fst_ite
    | with_reducible apply Only.snd_ite
    | with_reducible apply State.coldFuses_only
    | with_reducible apply State.authenticate_only
    | with_reducible apply State.coldSynthesis_only
    | with_reducible apply State.coldRegions_only
    | with_reducible (refine Only.of_fst (by assumption) ?_; apply State.coldRegions_only)
    | with_reducible apply State.startServer_only
    | with_reducible apply State.restoreImage_only
    | decide
    | intro _ _
    | intro _
    | dsimp only
    | split
    | with_reducible apply Only.upd_domains_epochAt_start

theorem State.warmEntries_only {M : Nat} {origin : State} (s : State) (frame : Only M origin s) (inMask : 0x6 ||| M = M) : Only M origin (State.warmEntries s) := by
  refine Only.step frame (G := 0x6) ?_ inMask
  unfold State.warmEntries
  repeat' first
    | with_reducible exact Only.refl _ _
    | with_reducible assumption
    | with_reducible apply Only.ite
    | with_reducible apply Only.foldl
    | with_reducible apply Only.fst_ite
    | with_reducible apply Only.snd_ite
    | decide
    | intro _ _
    | intro _
    | dsimp only
    | split
    | with_reducible apply Only.upd_regs_blobs

theorem State.warmBegin_only {M : Nat} {origin : State} (s : State) (type : Nat) (run : StartRun) (frame : Only M origin s) (inMask : 0x600700020460040000000046 ||| M = M) : Only M origin (State.warmBegin s type run) := by
  refine Only.step frame (G := 0x600700020460040000000046) ?_ inMask
  unfold State.warmBegin
  repeat' first
    | with_reducible exact Only.refl _ _
    | with_reducible assumption
    | with_reducible apply Only.ite
    | with_reducible apply Only.foldl
    | with_reducible apply Only.fst_ite
    | with_reducible apply Only.snd_ite
    | with_reducible apply State.setRunState_only
    | with_reducible apply State.closeSession_only
    | with_reducible apply State.leaveService_only
    | with_reducible apply State.endGrant_only
    | with_reducible apply State.timeHoldover_only
    | with_reducible apply State.setFrequency_only
    | with_reducible apply State.setNat_only
    | with_reducible apply State.newChallenge_only
    | decide
    | intro _ _
    | intro _
    | dsimp only
    | split
    | with_reducible apply Only.upd_commits
    | with_reducible apply Only.upd_freqSwitching_freqLog
    | with_reducible apply Only.upd_security
    | with_reducible apply Only.upd_start

theorem State.warmGates_only {M : Nat} {origin : State} (s : State) (frame : Only M origin s) (inMask : 0x80000402 ||| M = M) : Only M origin (State.warmGates s) := by
  refine Only.step frame (G := 0x80000402) ?_ inMask
  unfold State.warmGates
  repeat' first
    | with_reducible exact Only.refl _ _
    | with_reducible assumption
    | with_reducible apply Only.ite
    | with_reducible apply Only.foldl
    | with_reducible apply Only.fst_ite
    | with_reducible apply Only.snd_ite
    | with_reducible apply State.setEg_only
    | with_reducible apply State.setNat_only
    | decide
    | intro _ _
    | intro _
    | dsimp only
    | split
    | with_reducible apply Only.upd_egress_gates

theorem State.warmIslands_only {M : Nat} {origin : State} (s : State) (frame : Only M origin s) (inMask : 0x1ff80c17e017723ffe4aff86 ||| M = M) : Only M origin (State.warmIslands s) := by
  refine Only.step frame (G := 0x1ff80c17e017723ffe4aff86) ?_ inMask
  unfold State.warmIslands
  repeat' first
    | with_reducible exact Only.refl _ _
    | with_reducible assumption
    | with_reducible apply Only.ite
    | with_reducible apply Only.foldl
    | with_reducible apply Only.fst_ite
    | with_reducible apply Only.snd_ite
    | with_reducible apply State.holdBuffer_only
    | with_reducible apply State.warmEntries_only
    | with_reducible apply State.setNat_only
    | with_reducible apply State.judgePool_only
    | with_reducible apply State.setCrossing_only
    | with_reducible apply State.moveRings_only
    | with_reducible apply State.warmGates_only
    | with_reducible apply State.overwriteRing_only
    | with_reducible apply State.judgeClocks_only
    | decide
    | intro _ _
    | intro _
    | dsimp only
    | split
    | with_reducible apply Only.upd_lanes_timing_and42

theorem State.warmEngines_only {M : Nat} {origin : State} (s : State) (frame : Only M origin s) (inMask : 0xc04000000000000000002 ||| M = M) : Only M origin (State.warmEngines s) := by
  refine Only.step frame (G := 0xc04000000000000000002) ?_ inMask
  unfold State.warmEngines
  repeat' first
    | with_reducible exact Only.refl _ _
    | with_reducible assumption
    | with_reducible apply Only.ite
    | with_reducible apply Only.foldl
    | with_reducible apply Only.fst_ite
    | with_reducible apply Only.snd_ite
    | with_reducible apply State.mask_only
    | with_reducible apply State.resetEngine_only
    | with_reducible apply State.judgeSubstitutes_only
    | decide
    | intro _ _
    | intro _
    | dsimp only
    | split
    | with_reducible apply Only.upd_rings

theorem State.rebuildCalendars_only {M : Nat} {origin : State} (s : State)
    (frame : Only M origin s) (inMask : 0x200800002 ||| M = M) : Only M origin (State.rebuildCalendars s) := by
  refine Only.step frame (G := 0x200800002) ?_ inMask
  unfold State.rebuildCalendars
  have all : ∀ (f : State × List Nat → Nat → State × List Nat) (h : ∀ a i, Only 0x200800002 a.1 (f a i).1) (l : List Nat)
      (a : State × List Nat), Only 0x200800002 a.1 (l.foldl f a).1 := by
    intro f h l
    induction l with
    | nil => exact fun a => Only.refl _ _
    | cons i l ih => exact fun a => (h a i).step (ih _) (by decide)
  refine all _ ?_ _ (s, [])
  intro a i
  dsimp only
  split
  · exact Only.refl _ _
  · exact State.setNat_only _ _ _ _ (State.setNat_only _ _ _ _ (State.setContractAt_only _ _ _ (State.putContractState_only _ _ _
      (Only.refl _ _) (by decide)) (by decide)) (by decide)) (by decide)


theorem State.warmStep_only {M : Nat} {origin : State} (s : State) (run : StartRun) (n : Nat) (frame : Only M origin s) (inMask : 0x5ffc0c17e017723ffecaff86 ||| M = M) : Only M origin (State.warmStep s run n).1 := by
  refine Only.step frame (G := 0x5ffc0c17e017723ffecaff86) ?_ inMask
  unfold State.warmStep
  repeat' first
    | with_reducible exact Only.refl _ _
    | with_reducible assumption
    | with_reducible apply Only.ite
    | with_reducible apply Only.foldl
    | with_reducible apply Only.fst_ite
    | with_reducible apply Only.snd_ite
    | with_reducible apply State.warmIslands_only
    | with_reducible apply State.warmEngines_only
    | with_reducible apply State.authenticate_only
    | with_reducible apply State.startServer_only
    | with_reducible apply State.rebuildCalendars_only
    | decide
    | intro _ _
    | intro _
    | dsimp only
    | split

theorem State.startTimeBases_only {M : Nat} {origin : State} (s : State) (frame : Only M origin s) (inMask : 0x40000000000 ||| M = M) : Only M origin (State.startTimeBases s) := by
  refine Only.step frame (G := 0x40000000000) ?_ inMask
  unfold State.startTimeBases
  repeat' first
    | with_reducible exact Only.refl _ _
    | with_reducible assumption
    | with_reducible apply Only.ite
    | with_reducible apply Only.foldl
    | with_reducible apply Only.fst_ite
    | with_reducible apply Only.snd_ite
    | with_reducible apply State.setTb_only
    | decide
    | intro _ _
    | intro _
    | dsimp only
    | split

theorem State.completeCold_only {M : Nat} {origin : State} (s : State) (frame : Only M origin s) (inMask : 0x40000050000 ||| M = M) : Only M origin (State.completeCold s) := by
  refine Only.step frame (G := 0x40000050000) ?_ inMask
  unfold State.completeCold
  repeat' first
    | with_reducible exact Only.refl _ _
    | with_reducible assumption
    | with_reducible apply Only.ite
    | with_reducible apply Only.foldl
    | with_reducible apply Only.fst_ite
    | with_reducible apply Only.snd_ite
    | with_reducible apply State.judgeModReset_only
    | with_reducible apply State.startTimeBases_only
    | decide
    | intro _ _
    | intro _
    | dsimp only
    | split
    | with_reducible apply Only.upd_modResetWait

theorem State.readModules_only {M : Nat} {origin : State} (s : State) (frame : Only M origin s) (inMask : 0x20002 ||| M = M) : Only M origin (State.readModules s) := by
  refine Only.step frame (G := 0x20002) ?_ inMask
  unfold State.readModules
  repeat' first
    | with_reducible exact Only.refl _ _
    | with_reducible assumption
    | with_reducible apply Only.ite
    | with_reducible apply Only.foldl
    | with_reducible apply Only.fst_ite
    | with_reducible apply Only.snd_ite
    | with_reducible apply State.startRead_only
    | decide
    | intro _ _
    | intro _
    | dsimp only
    | split

theorem State.completeStart_only {M : Nat} {origin : State} (s : State) (run : StartRun) (frame : Only M origin s) (inMask : 0x40015015c7f63600000702c2 ||| M = M) : Only M origin (State.completeStart s run) := by
  refine Only.step frame (G := 0x40015015c7f63600000702c2) ?_ inMask
  unfold State.completeStart
  repeat' first
    | with_reducible exact Only.refl _ _
    | with_reducible assumption
    | with_reducible apply Only.ite
    | with_reducible apply Only.foldl
    | with_reducible apply Only.fst_ite
    | with_reducible apply Only.snd_ite
    | with_reducible apply State.completeCold_only
    | with_reducible apply State.setNat_only
    | with_reducible apply State.setRunState_only
    | with_reducible apply State.judgeErrN_only
    | with_reducible apply State.laneStart_only
    | with_reducible apply State.readModules_only
    | with_reducible apply State.refsUpdate_only
    | with_reducible apply State.judgeClocks_only
    | with_reducible apply State.startRound_only
    | decide
    | intro _ _
    | intro _
    | dsimp only
    | split
    | with_reducible apply Only.upd_start

theorem State.runSteps_only {M : Nat} {origin : State} (s : State) (run : StartRun) (upTo last : Nat) (l : List Nat)
    (frame : Only M origin s) (inMask : 0xfffffffff7f7ff3fffffffde ||| M = M) : Only M origin (State.runSteps s run upTo last l) := by
  refine Only.step frame (G := 0xfffffffff7f7ff3fffffffde) ?_ inMask
  clear frame inMask
  induction l generalizing s with
  | nil => exact Only.refl _ _
  | cons n l ih =>
    have ih' : ∀ {M : Nat} {origin s : State}, Only M origin s → 0xfffffffff7f7ff3fffffffde ||| M = M →
        Only M origin (State.runSteps s run upTo last l) := fun a b => a.step (ih _) b
    have one : ∀ {M : Nat} {origin s : State}, Only M origin s → 0xfffffffff7f7ff3fffffffde ||| M = M →
        Only M origin (if last = 6 then s.warmStep run n else s.coldStep run n).1 := by
      intro M origin s a b
      refine a.step (G := 0xfffffffff7f7ff3fffffffde) ?_ b
      split
      · exact State.warmStep_only _ _ _ (Only.refl _ _) (by decide)
      · exact State.coldStep_only _ _ _ (Only.refl _ _) (by decide)
    unfold State.runSteps
    dsimp only
    have now : Only 0xfffffffff7f7ff3fffffffde s (s.setNat 0xD000 0x0A n) := State.setNat_only _ _ _ _ (Only.refl _ _) (by decide)
    have two := one now (by decide)
    generalize (if last = 6 then (s.setNat 0xD000 0x0A n).warmStep run n else (s.setNat 0xD000 0x0A n).coldStep run n) = x at two ⊢
    obtain ⟨x, f⟩ := x
    dsimp only at two ⊢
    repeat' first
      | with_reducible exact Only.refl _ _
      | with_reducible assumption
      | with_reducible apply Only.ite
      | with_reducible apply Only.foldl
      | with_reducible apply Only.fst_ite
      | with_reducible apply Only.snd_ite
      | with_reducible apply State.setNat_only
      | with_reducible apply State.completeStart_only
      | with_reducible apply State.warmStep_only
      | with_reducible (refine Only.of_fst (by assumption) ?_; apply State.warmStep_only)
      | with_reducible apply State.coldStep_only
      | with_reducible (refine Only.of_fst (by assumption) ?_; apply State.coldStep_only)
      | with_reducible apply State.failStart_only
      | with_reducible apply ih'
      | decide
      | intro _ _
      | intro _
      | dsimp only
      | split
      | with_reducible apply Only.upd_start


theorem State.beginCold_only {M : Nat} {origin : State} (s : State) (type : Nat) (run : StartRun) (frame : Only M origin s) (inMask : 0x1fffffffffffffffffffffffe ||| M = M) : Only M origin (State.beginCold s type run) := by
  refine Only.step frame (G := 0x1fffffffffffffffffffffffe) ?_ inMask
  unfold State.beginCold
  repeat' first
    | with_reducible exact Only.refl _ _
    | with_reducible assumption
    | with_reducible apply Only.ite
    | with_reducible apply Only.foldl
    | with_reducible apply Only.fst_ite
    | with_reducible apply Only.snd_ite
    | with_reducible apply State.leaveService_only
    | with_reducible apply State.coldBase_only
    | with_reducible apply State.setNat_only
    | with_reducible apply State.runSteps_only
    | decide
    | intro _ _
    | intro _
    | dsimp only
    | split
    | with_reducible apply Only.upd_start

theorem State.beginWarm_only {M : Nat} {origin : State} (s : State) (type : Nat) (run : StartRun) (frame : Only M origin s) (inMask : 0xfffffffff7f7ff3fffffffde ||| M = M) : Only M origin (State.beginWarm s type run) := by
  refine Only.step frame (G := 0xfffffffff7f7ff3fffffffde) ?_ inMask
  unfold State.beginWarm
  repeat' first
    | with_reducible exact Only.refl _ _
    | with_reducible assumption
    | with_reducible apply Only.ite
    | with_reducible apply Only.foldl
    | with_reducible apply Only.fst_ite
    | with_reducible apply Only.snd_ite
    | with_reducible apply State.warmBegin_only
    | with_reducible apply State.judgeErrN_only
    | with_reducible apply State.runSteps_only
    | decide
    | intro _ _
    | intro _
    | dsimp only
    | split

theorem State.warmStart_only {M : Nat} {origin : State} (s : State) (type : Nat) (run : StartRun) (frame : Only M origin s) (inMask : 0x1fffffffffffffffffffffffe ||| M = M) : Only M origin (State.warmStart s type run) := by
  refine Only.step frame (G := 0x1fffffffffffffffffffffffe) ?_ inMask
  unfold State.warmStart
  repeat' first
    | with_reducible exact Only.refl _ _
    | with_reducible assumption
    | with_reducible apply Only.ite
    | with_reducible apply Only.foldl
    | with_reducible apply Only.fst_ite
    | with_reducible apply Only.snd_ite
    | with_reducible apply State.beginWarm_only
    | with_reducible apply State.countFailure_only
    | with_reducible apply State.setNat_only
    | with_reducible apply State.beginCold_only
    | with_reducible apply State.enterSafe_only
    | decide
    | intro _ _
    | intro _
    | dsimp only
    | split

theorem State.continueStart_only {M : Nat} {origin : State} (s : State) (frame : Only M origin s) (inMask : 0xfffffffff7f7ff3fffffffde ||| M = M) : Only M origin (State.continueStart s) := by
  refine Only.step frame (G := 0xfffffffff7f7ff3fffffffde) ?_ inMask
  unfold State.continueStart
  repeat' first
    | with_reducible exact Only.refl _ _
    | with_reducible assumption
    | with_reducible apply Only.ite
    | with_reducible apply Only.foldl
    | with_reducible apply Only.fst_ite
    | with_reducible apply Only.snd_ite
    | with_reducible apply State.runSteps_only
    | decide
    | intro _ _
    | intro _
    | dsimp only
    | split

theorem State.endHold_only {M : Nat} {origin : State} (s : State) (frame : Only M origin s) (inMask : 0xfffffffff7f7ff3fffffffde ||| M = M) : Only M origin (State.endHold s) := by
  refine Only.step frame (G := 0xfffffffff7f7ff3fffffffde) ?_ inMask
  unfold State.endHold
  repeat' first
    | with_reducible exact Only.refl _ _
    | with_reducible assumption
    | with_reducible apply Only.ite
    | with_reducible apply Only.foldl
    | with_reducible apply Only.fst_ite
    | with_reducible apply Only.snd_ite
    | with_reducible apply State.runSteps_only
    | decide
    | intro _ _
    | intro _
    | dsimp only
    | split
    | with_reducible apply Only.upd_start

theorem State.retryOne_only {M : Nat} {origin : State} (s : State) (values : List OdValue) (frame : Only M origin s) (inMask : 0x240f0c1f07f5df03a5ff3fde ||| M = M) : Only M origin (State.retryOne s values) := by
  refine Only.step frame (G := 0x240f0c1f07f5df03a5ff3fde) ?_ inMask
  unfold State.retryOne
  repeat' first
    | with_reducible exact Only.refl _ _
    | with_reducible assumption
    | with_reducible apply Only.ite
    | with_reducible apply Only.foldl
    | with_reducible apply Only.fst_ite
    | with_reducible apply Only.snd_ite
    | with_reducible apply State.commitNow_only
    | with_reducible apply State.sendControl_only
    | with_reducible apply State.setMirror_only
    | with_reducible apply imageCommand_only
    | decide
    | intro _ _
    | intro _
    | dsimp only
    | split
    | with_reducible apply Only.upd_twin

theorem State.retryMirror_only {M : Nat} {origin : State} (s : State) (frame : Only M origin s) (inMask : 0x240f0c1f07f5df03a5ff3fde ||| M = M) : Only M origin (State.retryMirror s) := by
  refine Only.step frame (G := 0x240f0c1f07f5df03a5ff3fde) ?_ inMask
  unfold State.retryMirror
  repeat' first
    | with_reducible exact Only.refl _ _
    | with_reducible assumption
    | with_reducible apply Only.ite
    | with_reducible apply Only.foldl
    | with_reducible apply Only.fst_ite
    | with_reducible apply Only.snd_ite
    | with_reducible apply State.retryOne_only
    | decide
    | intro _ _
    | intro _
    | dsimp only
    | split
    | with_reducible apply Only.upd_commits

theorem State.collectorCycle_only {M : Nat} {origin : State} (s : State) (host : List Taken) (run : StartRun) (frame : Only M origin s) (inMask : 0x1fffffffffffffffffffffffe ||| M = M) : Only M origin (State.collectorCycle s host run) := by
  refine Only.step frame (G := 0x1fffffffffffffffffffffffe) ?_ inMask
  unfold State.collectorCycle
  repeat' first
    | with_reducible exact Only.refl _ _
    | with_reducible assumption
    | with_reducible apply Only.ite
    | with_reducible apply Only.foldl
    | with_reducible apply Only.fst_ite
    | with_reducible apply Only.snd_ite
    | with_reducible apply State.collect_only
    | with_reducible (refine Only.of_fst (by assumption) ?_; apply State.collect_only)
    | with_reducible apply State.retryMirror_only
    | with_reducible apply State.warmStart_only
    | with_reducible apply State.failStart_only
    | decide
    | intro _ _
    | intro _
    | dsimp only
    | split

theorem execPowerUp_only {M : Nat} {origin : State} (run : StartRun) (s : State) (frame : Only M origin s) (inMask : 0x1fffffffffffffffffffffffe ||| M = M) : Ends M origin (execPowerUp run s) := by
  refine Ends.step frame (G := 0x1fffffffffffffffffffffffe) ?_ inMask
  unfold execPowerUp
  repeat' first
    | with_reducible exact Only.refl _ _
    | with_reducible assumption
    | with_reducible apply Only.ite
    | with_reducible apply Only.foldl
    | with_reducible apply Only.fst_ite
    | with_reducible apply Only.snd_ite
    | with_reducible apply State.retry_only
    | with_reducible apply State.setNat_only
    | with_reducible apply State.beginCold_only
    | with_reducible apply Ends.next
    | with_reducible apply Ends.ite
    | decide
    | intro _ _
    | intro _
    | dsimp only
    | split
    | with_reducible apply Only.upd_start

theorem execResetNAssert_only {M : Nat} {origin : State} (s : State) (frame : Only M origin s) (inMask : 0x17ffffe1ffffffffffffffffe ||| M = M) : Ends M origin (execResetNAssert s) := by
  refine Ends.step frame (G := 0x17ffffe1ffffffffffffffffe) ?_ inMask
  unfold execResetNAssert
  repeat' first
    | with_reducible exact Only.refl _ _
    | with_reducible assumption
    | with_reducible apply Only.ite
    | with_reducible apply Only.foldl
    | with_reducible apply Only.fst_ite
    | with_reducible apply Only.snd_ite
    | with_reducible apply State.coldBase_only
    | with_reducible apply Ends.next
    | with_reducible apply Ends.ite
    | decide
    | intro _ _
    | intro _
    | dsimp only
    | split
    | with_reducible apply Only.upd_start

theorem execResetNRelease_only {M : Nat} {origin : State} (run : StartRun) (s : State) (frame : Only M origin s) (inMask : 0x1fffffffffffffffffffffffe ||| M = M) : Ends M origin (execResetNRelease run s) := by
  refine Ends.step frame (G := 0x1fffffffffffffffffffffffe) ?_ inMask
  unfold execResetNRelease
  repeat' first
    | with_reducible exact Only.refl _ _
    | with_reducible assumption
    | with_reducible apply Only.ite
    | with_reducible apply Only.foldl
    | with_reducible apply Only.fst_ite
    | with_reducible apply Only.snd_ite
    | with_reducible apply State.setNat_only
    | with_reducible apply State.beginCold_only
    | with_reducible apply Ends.next
    | with_reducible apply Ends.ite
    | decide
    | intro _ _
    | intro _
    | dsimp only
    | split

theorem execRegionSupplyTimeout_only {M : Nat} {origin : State} (g : RegionId) (run : StartRun) (s : State) (frame : Only M origin s) (inMask : 0x1fffffffffffffffffffffffe ||| M = M) : Ends M origin (execRegionSupplyTimeout g run s) := by
  refine Ends.step frame (G := 0x1fffffffffffffffffffffffe) ?_ inMask
  unfold execRegionSupplyTimeout
  repeat' first
    | with_reducible exact Only.refl _ _
    | with_reducible assumption
    | with_reducible apply Only.ite
    | with_reducible apply Only.foldl
    | with_reducible apply Only.fst_ite
    | with_reducible apply Only.snd_ite
    | with_reducible apply State.raise_only
    | with_reducible apply State.collectorCycle_only
    | with_reducible apply State.fenceItem_only
    | with_reducible apply Ends.next
    | with_reducible apply Ends.ite
    | decide
    | intro _ _
    | intro _
    | dsimp only
    | split

theorem execStartCommand_only {M : Nat} {origin : State} (role : Role) (run : StartRun) (s : State) (frame : Only M origin s) (inMask : 0x1fffffffffffffffffffffffe ||| M = M) : Ends M origin (execStartCommand role run s) := by
  refine Ends.step frame (G := 0x1fffffffffffffffffffffffe) ?_ inMask
  unfold execStartCommand
  repeat' first
    | with_reducible exact Only.refl _ _
    | with_reducible assumption
    | with_reducible apply Only.ite
    | with_reducible apply Only.foldl
    | with_reducible apply Only.fst_ite
    | with_reducible apply Only.snd_ite
    | with_reducible apply State.hostWrite_only
    | with_reducible apply State.done_only
    | with_reducible apply State.warmStart_only
    | with_reducible apply State.answer_only
    | with_reducible apply Ends.next
    | with_reducible apply Ends.ite
    | decide
    | intro _ _
    | intro _
    | dsimp only
    | split

theorem execStartStepTimeout_only {M : Nat} {origin : State} (s : State) (frame : Only M origin s) (inMask : 0x400000000000000000000006 ||| M = M) : Ends M origin (execStartStepTimeout s) := by
  refine Ends.step frame (G := 0x400000000000000000000006) ?_ inMask
  unfold execStartStepTimeout
  repeat' first
    | with_reducible exact Only.refl _ _
    | with_reducible assumption
    | with_reducible apply Only.ite
    | with_reducible apply Only.foldl
    | with_reducible apply Only.fst_ite
    | with_reducible apply Only.snd_ite
    | with_reducible apply State.failStart_only
    | with_reducible apply Ends.next
    | with_reducible apply Ends.ite
    | decide
    | intro _ _
    | intro _
    | dsimp only
    | split

theorem execStartRetry_only {M : Nat} {origin : State} (run : StartRun) (s : State) (frame : Only M origin s) (inMask : 0x1fffffffffffffffffffffffe ||| M = M) : Ends M origin (execStartRetry run s) := by
  refine Ends.step frame (G := 0x1fffffffffffffffffffffffe) ?_ inMask
  unfold execStartRetry
  repeat' first
    | with_reducible exact Only.refl _ _
    | with_reducible assumption
    | with_reducible apply Only.ite
    | with_reducible apply Only.foldl
    | with_reducible apply Only.fst_ite
    | with_reducible apply Only.snd_ite
    | with_reducible apply State.retry_only
    | with_reducible apply State.beginWarm_only
    | with_reducible apply State.setNat_only
    | with_reducible apply State.beginCold_only
    | with_reducible apply State.enterSafe_only
    | with_reducible apply Ends.next
    | with_reducible apply Ends.ite
    | decide
    | intro _ _
    | intro _
    | dsimp only
    | split

theorem execSettleTimeExpiry_only {M : Nat} {origin : State} (s : State) (frame : Only M origin s) (inMask : 0x400000000000000000000002 ||| M = M) : Ends M origin (execSettleTimeExpiry s) := by
  refine Ends.step frame (G := 0x400000000000000000000002) ?_ inMask
  unfold execSettleTimeExpiry
  repeat' first
    | with_reducible exact Only.refl _ _
    | with_reducible assumption
    | with_reducible apply Only.ite
    | with_reducible apply Only.foldl
    | with_reducible apply Only.fst_ite
    | with_reducible apply Only.snd_ite
    | with_reducible apply State.setNat_only
    | with_reducible apply Ends.next
    | with_reducible apply Ends.ite
    | decide
    | intro _ _
    | intro _
    | dsimp only
    | split
    | with_reducible apply Only.upd_start

theorem execReleaseHold_only {M : Nat} {origin : State} (role : Role) (s : State) (frame : Only M origin s) (inMask : 0xfffffffff7f7ff3fffffffde ||| M = M) : Ends M origin (execReleaseHold role s) := by
  refine Ends.step frame (G := 0xfffffffff7f7ff3fffffffde) ?_ inMask
  unfold execReleaseHold
  repeat' first
    | with_reducible exact Only.refl _ _
    | with_reducible assumption
    | with_reducible apply Only.ite
    | with_reducible apply Only.foldl
    | with_reducible apply Only.fst_ite
    | with_reducible apply Only.snd_ite
    | with_reducible apply State.hostWrite_only
    | with_reducible apply State.done_only
    | with_reducible apply State.endHold_only
    | with_reducible apply Ends.next
    | with_reducible apply Ends.ite
    | decide
    | intro _ _
    | intro _
    | dsimp only
    | split

theorem execHoldLimitExpiry_only {M : Nat} {origin : State} (s : State) (frame : Only M origin s) (inMask : 0xfffffffff7f7ff3fffffffde ||| M = M) : Ends M origin (execHoldLimitExpiry s) := by
  refine Ends.step frame (G := 0xfffffffff7f7ff3fffffffde) ?_ inMask
  unfold execHoldLimitExpiry
  repeat' first
    | with_reducible exact Only.refl _ _
    | with_reducible assumption
    | with_reducible apply Only.ite
    | with_reducible apply Only.foldl
    | with_reducible apply Only.fst_ite
    | with_reducible apply Only.snd_ite
    | with_reducible apply State.endHold_only
    | with_reducible apply Ends.next
    | with_reducible apply Ends.ite
    | decide
    | intro _ _
    | intro _
    | dsimp only
    | split
    | with_reducible apply Only.upd_start

theorem execImageSave_only {M : Nat} {origin : State} (role : Role) (readBackOk : Bool) (s : State) (frame : Only M origin s) (inMask : 0x40000000000000000000001a ||| M = M) : Ends M origin (execImageSave role readBackOk s) := by
  refine Ends.step frame (G := 0x40000000000000000000001a) ?_ inMask
  unfold execImageSave
  repeat' first
    | with_reducible exact Only.refl _ _
    | with_reducible assumption
    | with_reducible apply Only.ite
    | with_reducible apply Only.foldl
    | with_reducible apply Only.fst_ite
    | with_reducible apply Only.snd_ite
    | with_reducible apply State.hostWrite_only
    | with_reducible apply State.setNat_only
    | with_reducible apply State.done_only
    | with_reducible apply Ends.next
    | with_reducible apply Ends.ite
    | decide
    | intro _ _
    | intro _
    | dsimp only
    | split
    | with_reducible apply Only.upd_start

theorem execImageErase_only {M : Nat} {origin : State} (role : Role) (s : State) (frame : Only M origin s) (inMask : 0x40000000000000000000001a ||| M = M) : Ends M origin (execImageErase role s) := by
  refine Ends.step frame (G := 0x40000000000000000000001a) ?_ inMask
  unfold execImageErase
  repeat' first
    | with_reducible exact Only.refl _ _
    | with_reducible assumption
    | with_reducible apply Only.ite
    | with_reducible apply Only.foldl
    | with_reducible apply Only.fst_ite
    | with_reducible apply Only.snd_ite
    | with_reducible apply State.hostWrite_only
    | with_reducible apply State.setNat_only
    | with_reducible apply State.done_only
    | with_reducible apply Ends.next
    | with_reducible apply Ends.ite
    | decide
    | intro _ _
    | intro _
    | dsimp only
    | split
    | with_reducible apply Only.upd_start

theorem execPowerRemoval_only {M : Nat} {origin : State} (s : State)
    (frame : Only M origin s) (inMask : 0x17ffffffffffffffffffffffe ||| M = M) : Ends M origin (execPowerRemoval s) := by
  refine Ends.step frame (G := 0x17ffffffffffffffffffffffe) ?_ inMask
  have base : Only 0x17ffffffffffffffffffffffe s s.coldBase := State.coldBase_only _ (Only.refl _ _) (by decide)
  unfold execPowerRemoval
  generalize s.coldBase = b at base ⊢
  refine Ends.next (Only.upd_start _ (State.setBlob_only _ _ _ _ (State.setNat_only _ _ _ _ (State.setNat_only _ _ _ _
    (State.setNat_only _ _ _ _ (Only.upd_log_logRead_and4 _ _ _ _ _ _ base (by decide)) (by decide)) (by decide)) (by decide))
    (by decide)) (by decide))


end Sys2Proof.Machine
end

