-- ==== Sys2Proof/Laws/Frames/Faults.lean ====
section
/-! SUPPORT. What each operation of Machine/Faults.lean leaves as it was: the frame of every one. -/

set_option linter.unusedTactic false
set_option linter.unreachableTactic false

namespace Sys2Proof.Machine

open Host (Outcome)

theorem execFaultDetection_only {M : Nat} {origin : State} (detections : List Detection) (run : StartRun) (s : State) (frame : Only M origin s) (inMask : 0x1fffffffffffffffffffffffe ||| M = M) : Ends M origin (execFaultDetection detections run s) := by
  refine Ends.step frame (G := 0x1fffffffffffffffffffffffe) ?_ inMask
  unfold execFaultDetection
  repeat' first
    | with_reducible exact Only.refl _ _
    | with_reducible assumption
    | with_reducible apply Only.ite
    | with_reducible apply Only.foldl
    | with_reducible apply Only.fst_ite
    | with_reducible apply Only.snd_ite
    | with_reducible apply State.raiseAll_only
    | with_reducible apply State.collectorCycle_only
    | with_reducible apply Ends.next
    | with_reducible apply Ends.ite
    | decide
    | intro _ _
    | intro _
    | dsimp only
    | split

theorem State.selfFault_only {M : Nat} {origin : State} (s : State) (source : Nat) (frame : Only M origin s) (inMask : 0x6005fd1707f41e3800003fc2 ||| M = M) : Only M origin (State.selfFault s source) := by
  refine Only.step frame (G := 0x6005fd1707f41e3800003fc2) ?_ inMask
  unfold State.selfFault
  repeat' first
    | with_reducible exact Only.refl _ _
    | with_reducible assumption
    | with_reducible apply Only.ite
    | with_reducible apply Only.foldl
    | with_reducible apply Only.fst_ite
    | with_reducible apply Only.snd_ite
    | with_reducible apply State.enterSafe_only
    | decide
    | intro _ _
    | intro _
    | dsimp only
    | split

theorem execSelfFault_only {M : Nat} {origin : State} (source : Fin 8) (s : State) (frame : Only M origin s) (inMask : 0x6005fd1707f41e3800003fc2 ||| M = M) : Ends M origin (execSelfFault source s) := by
  refine Ends.step frame (G := 0x6005fd1707f41e3800003fc2) ?_ inMask
  unfold execSelfFault
  repeat' first
    | with_reducible exact Only.refl _ _
    | with_reducible assumption
    | with_reducible apply Only.ite
    | with_reducible apply Only.foldl
    | with_reducible apply Only.fst_ite
    | with_reducible apply Only.snd_ite
    | with_reducible apply State.selfFault_only
    | with_reducible apply Ends.next
    | with_reducible apply Ends.ite
    | decide
    | intro _ _
    | intro _
    | dsimp only
    | split

theorem execMaskEnd_only {M : Nat} {origin : State} (level : FenceLevel) (item : Nat) (s : State) (frame : Only M origin s) (inMask : 0x4000000000000000000 ||| M = M) : Ends M origin (execMaskEnd level item s) := by
  refine Ends.step frame (G := 0x4000000000000000000) ?_ inMask
  unfold execMaskEnd
  repeat' first
    | with_reducible exact Only.refl _ _
    | with_reducible assumption
    | with_reducible apply Only.ite
    | with_reducible apply Only.foldl
    | with_reducible apply Only.fst_ite
    | with_reducible apply Only.snd_ite
    | with_reducible apply Ends.next
    | with_reducible apply Ends.ite
    | decide
    | intro _ _
    | intro _
    | dsimp only
    | split
    | with_reducible apply Only.upd_masks

theorem execConsequenceWindowClose_only {M : Nat} {origin : State} (s : State) (frame : Only M origin s) (inMask : 0x8000000000000000000 ||| M = M) : Ends M origin (execConsequenceWindowClose s) := by
  refine Ends.step frame (G := 0x8000000000000000000) ?_ inMask
  unfold execConsequenceWindowClose
  repeat' first
    | with_reducible exact Only.refl _ _
    | with_reducible assumption
    | with_reducible apply Only.ite
    | with_reducible apply Only.foldl
    | with_reducible apply Only.fst_ite
    | with_reducible apply Only.snd_ite
    | with_reducible apply Ends.next
    | with_reducible apply Ends.ite
    | decide
    | intro _ _
    | intro _
    | dsimp only
    | split
    | with_reducible apply Only.upd_windows

theorem execClearFirstFault_only {M : Nat} {origin : State} (role : Role) (s : State) (frame : Only M origin s) (inMask : 0x800000000000000018 ||| M = M) : Ends M origin (execClearFirstFault role s) := by
  refine Ends.step frame (G := 0x800000000000000018) ?_ inMask
  unfold execClearFirstFault
  repeat' first
    | with_reducible exact Only.refl _ _
    | with_reducible assumption
    | with_reducible apply Only.ite
    | with_reducible apply Only.foldl
    | with_reducible apply Only.fst_ite
    | with_reducible apply Only.snd_ite
    | with_reducible apply State.hostWrite_only
    | with_reducible apply State.done_only
    | with_reducible apply Ends.next
    | with_reducible apply Ends.ite
    | decide
    | intro _ _
    | intro _
    | dsimp only
    | split
    | with_reducible apply Only.upd_firstFault

theorem execAcknowledge_only {M : Nat} {origin : State} (role : Role) (s : State) (frame : Only M origin s) (inMask : 0x50200000000000000018 ||| M = M) : Ends M origin (execAcknowledge role s) := by
  refine Ends.step frame (G := 0x50200000000000000018) ?_ inMask
  unfold execAcknowledge
  repeat' first
    | with_reducible exact Only.refl _ _
    | with_reducible assumption
    | with_reducible apply Only.ite
    | with_reducible apply Only.foldl
    | with_reducible apply Only.fst_ite
    | with_reducible apply Only.snd_ite
    | with_reducible apply State.hostWrite_only
    | with_reducible apply State.judgeErrN_only
    | with_reducible apply State.done_only
    | with_reducible apply Ends.next
    | with_reducible apply Ends.ite
    | decide
    | intro _ _
    | intro _
    | dsimp only
    | split
    | with_reducible apply Only.upd_log

theorem execErrNMinimumExpiry_only {M : Nat} {origin : State} (s : State) (frame : Only M origin s) (inMask : 0x50000000000000000000 ||| M = M) : Ends M origin (execErrNMinimumExpiry s) := by
  refine Ends.step frame (G := 0x50000000000000000000) ?_ inMask
  unfold execErrNMinimumExpiry
  repeat' first
    | with_reducible exact Only.refl _ _
    | with_reducible assumption
    | with_reducible apply Only.ite
    | with_reducible apply Only.foldl
    | with_reducible apply Only.fst_ite
    | with_reducible apply Only.snd_ite
    | with_reducible apply State.judgeErrN_only
    | with_reducible apply Ends.next
    | with_reducible apply Ends.ite
    | decide
    | intro _ _
    | intro _
    | dsimp only
    | split
    | with_reducible apply Only.upd_errNHold

theorem execHostFence_only {M : Nat} {origin : State} (role : Role) (level : FenceLevel) (item : Nat) (s : State) (frame : Only M origin s) (inMask : 0xe40fffff07f7df3fa7ff3fde ||| M = M) : Ends M origin (execHostFence role level item s) := by
  refine Ends.step frame (G := 0xe40fffff07f7df3fa7ff3fde) ?_ inMask
  unfold execHostFence
  repeat' first
    | with_reducible exact Only.refl _ _
    | with_reducible assumption
    | with_reducible apply Only.ite
    | with_reducible apply Only.foldl
    | with_reducible apply Only.fst_ite
    | with_reducible apply Only.snd_ite
    | with_reducible apply State.hostWrite_only
    | with_reducible apply State.outOfRange_only
    | with_reducible apply State.done_only
    | with_reducible apply State.collect_only
    | with_reducible (refine Only.of_fst (by assumption) ?_; apply State.collect_only)
    | with_reducible apply State.fenceItem_only
    | with_reducible apply State.retryMirror_only
    | with_reducible apply Ends.next
    | with_reducible apply Ends.ite
    | decide
    | intro _ _
    | intro _
    | dsimp only
    | split
    | with_reducible apply Only.upd_messages

theorem execFenceRelease_only {M : Nat} {origin : State} (role : Role) (level : FenceLevel) (item : Nat) (supplyUp : Bool) (s : State) (frame : Only M origin s) (inMask : 0x240f8e1f07f5df37a5ff3fde ||| M = M) : Ends M origin (execFenceRelease role level item supplyUp s) := by
  refine Ends.step frame (G := 0x240f8e1f07f5df37a5ff3fde) ?_ inMask
  unfold execFenceRelease
  repeat' first
    | with_reducible exact Only.refl _ _
    | with_reducible assumption
    | with_reducible apply Only.ite
    | with_reducible apply Only.foldl
    | with_reducible apply Only.fst_ite
    | with_reducible apply Only.snd_ite
    | with_reducible apply State.setNat_only
    | with_reducible apply State.answer_only
    | with_reducible apply State.outOfRange_only
    | with_reducible apply State.ruleRefused_only
    | with_reducible apply State.raise_only
    | with_reducible apply State.done_only
    | with_reducible apply State.releaseItem_only
    | with_reducible apply State.retryMirror_only
    | with_reducible apply Ends.next
    | with_reducible apply Ends.ite
    | decide
    | intro _ _
    | intro _
    | dsimp only
    | split

theorem State.regionSupply_only {M : Nat} {origin : State} (s : State) (g : Nat) (frame : Only M origin s) (inMask : 0x140000000000000000 ||| M = M) : Only M origin (State.regionSupply s g) := by
  refine Only.step frame (G := 0x140000000000000000) ?_ inMask
  unfold State.regionSupply
  repeat' first
    | with_reducible exact Only.refl _ _
    | with_reducible assumption
    | with_reducible apply Only.ite
    | with_reducible apply Only.foldl
    | with_reducible apply Only.fst_ite
    | with_reducible apply Only.snd_ite
    | with_reducible apply State.raise_only
    | decide
    | intro _ _
    | intro _
    | dsimp only
    | split

theorem execSupplyOutOfRange_only {M : Nat} {origin : State} (rail : SupplyRail) (s : State) (frame : Only M origin s) (inMask : 0x6005fd1707f41e3800003fc2 ||| M = M) : Ends M origin (execSupplyOutOfRange rail s) := by
  refine Ends.step frame (G := 0x6005fd1707f41e3800003fc2) ?_ inMask
  unfold execSupplyOutOfRange
  repeat' first
    | with_reducible exact Only.refl _ _
    | with_reducible assumption
    | with_reducible apply Only.ite
    | with_reducible apply Only.foldl
    | with_reducible apply Only.fst_ite
    | with_reducible apply Only.snd_ite
    | with_reducible apply State.regionSupply_only
    | with_reducible apply State.raise_only
    | with_reducible apply State.selfFault_only
    | with_reducible apply Ends.next
    | with_reducible apply Ends.ite
    | decide
    | intro _ _
    | intro _
    | dsimp only
    | split

theorem execTemperatureThreshold_only {M : Nat} {origin : State} (d : BankId) (critical : Bool) (s : State) (frame : Only M origin s) (inMask : 0x140000000000000000 ||| M = M) : Ends M origin (execTemperatureThreshold d critical s) := by
  refine Ends.step frame (G := 0x140000000000000000) ?_ inMask
  unfold execTemperatureThreshold
  repeat' first
    | with_reducible exact Only.refl _ _
    | with_reducible assumption
    | with_reducible apply Only.ite
    | with_reducible apply Only.foldl
    | with_reducible apply Only.fst_ite
    | with_reducible apply Only.snd_ite
    | with_reducible apply State.raise_only
    | with_reducible apply Ends.next
    | with_reducible apply Ends.ite
    | decide
    | intro _ _
    | intro _
    | dsimp only
    | split

theorem execTimingBankSupplyLoss_only {M : Nat} {origin : State} (lost : Bool) (s : State) (frame : Only M origin s) (inMask : 0x400000000000000000000000 ||| M = M) : Ends M origin (execTimingBankSupplyLoss lost s) := by
  refine Ends.step frame (G := 0x400000000000000000000000) ?_ inMask
  unfold execTimingBankSupplyLoss
  repeat' first
    | with_reducible exact Only.refl _ _
    | with_reducible assumption
    | with_reducible apply Only.ite
    | with_reducible apply Only.foldl
    | with_reducible apply Only.fst_ite
    | with_reducible apply Only.snd_ite
    | with_reducible apply Ends.next
    | with_reducible apply Ends.ite
    | decide
    | intro _ _
    | intro _
    | dsimp only
    | split
    | with_reducible apply Only.upd_start

theorem execStallLimitExpiry_only {M : Nat} {origin : State} (crossing : Fin 33) (s : State) (frame : Only M origin s) (inMask : 0x140000002000000002 ||| M = M) : Ends M origin (execStallLimitExpiry crossing s) := by
  refine Ends.step frame (G := 0x140000002000000002) ?_ inMask
  unfold execStallLimitExpiry
  repeat' first
    | with_reducible exact Only.refl _ _
    | with_reducible assumption
    | with_reducible apply Only.ite
    | with_reducible apply Only.foldl
    | with_reducible apply Only.fst_ite
    | with_reducible apply Only.snd_ite
    | with_reducible apply State.setCrossing_only
    | with_reducible apply State.setNat_only
    | with_reducible apply State.raise_only
    | with_reducible apply Ends.next
    | with_reducible apply Ends.ite
    | decide
    | intro _ _
    | intro _
    | dsimp only
    | split

theorem State.handBack_only {M : Nat} {origin : State} (s : State) (c j : Nat) (frame : Only M origin s) (inMask : 0x1001507f4040000000242 ||| M = M) : Only M origin (State.handBack s c j) := by
  refine Only.step frame (G := 0x1001507f4040000000242) ?_ inMask
  unfold State.handBack
  repeat' first
    | with_reducible exact Only.refl _ _
    | with_reducible assumption
    | with_reducible apply Only.ite
    | with_reducible apply Only.foldl
    | with_reducible apply Only.fst_ite
    | with_reducible apply Only.snd_ite
    | with_reducible apply State.applyTiming_only
    | with_reducible apply State.setDetector_only
    | with_reducible apply State.setNat_only
    | with_reducible apply State.assignSpare_only
    | with_reducible apply State.judgeDetectors_only
    | with_reducible apply State.refsUpdate_only
    | with_reducible apply State.calibrateNext_only
    | decide
    | intro _ _
    | intro _
    | dsimp only
    | split

theorem execDetectorHandback_only {M : Nat} {origin : State} (c : ClusterId) (j : Fin 4) (own spare : List Nat) (s : State) (frame : Only M origin s) (inMask : 0xa40f8e1f07f7df37a7ff3fde ||| M = M) : Ends M origin (execDetectorHandback c j own spare s) := by
  refine Ends.step frame (G := 0xa40f8e1f07f7df37a7ff3fde) ?_ inMask
  unfold execDetectorHandback
  repeat' first
    | with_reducible exact Only.refl _ _
    | with_reducible assumption
    | with_reducible apply Only.ite
    | with_reducible apply Only.foldl
    | with_reducible apply Only.fst_ite
    | with_reducible apply Only.snd_ite
    | with_reducible apply State.repeatMeasure_only
    | with_reducible apply State.handBack_only
    | with_reducible apply State.setDetector_only
    | with_reducible apply State.fenceItem_only
    | with_reducible apply State.retryMirror_only
    | with_reducible apply Ends.next
    | with_reducible apply Ends.ite
    | decide
    | intro _ _
    | intro _
    | dsimp only
    | split

end Sys2Proof.Machine
end

