-- ==== Sys2Proof/Laws/Frames/Synthesis.lean ====
section
/-! SUPPORT. What each operation of Machine/Synthesis.lean leaves as it was: the frame of every one. -/

set_option linter.unusedTactic false
set_option linter.unreachableTactic false

namespace Sys2Proof.Machine

open Host (Outcome)

theorem State.afterLock_only {M : Nat} {origin : State} (s : State) (n : Nat) (frame : Only M origin s) (inMask : 0x60000000082 ||| M = M) : Only M origin (State.afterLock s n) := by
  refine Only.step frame (G := 0x60000000082) ?_ inMask
  unfold State.afterLock
  repeat' first
    | with_reducible exact Only.refl _ _
    | with_reducible assumption
    | with_reducible apply Only.ite
    | with_reducible apply Only.foldl
    | with_reducible apply Only.fst_ite
    | with_reducible apply Only.snd_ite
    | with_reducible apply State.twinLanesRetry_only
    | with_reducible apply State.measureSyntony_only
    | with_reducible apply State.judgeClocks_only
    | decide
    | intro _ _
    | intro _
    | dsimp only
    | split

theorem State.showError_only {M : Nat} {origin : State} (s : State) (k : Nat) (ps : Int) (frame : Only M origin s) (inMask : 0x2 ||| M = M) : Only M origin (State.showError s k ps) := by
  refine Only.step frame (G := 0x2) ?_ inMask
  unfold State.showError
  repeat' first
    | with_reducible exact Only.refl _ _
    | with_reducible assumption
    | with_reducible apply Only.ite
    | with_reducible apply Only.foldl
    | with_reducible apply Only.fst_ite
    | with_reducible apply Only.snd_ite
    | with_reducible apply State.setReg_only
    | decide
    | intro _ _
    | intro _
    | dsimp only
    | split

theorem execSynthLock_only {M : Nat} {origin : State} (k : SynthId) (cycles peak : Nat) (last : Int) (s : State) (frame : Only M origin s) (inMask : 0x60000000082 ||| M = M) : Ends M origin (execSynthLock k cycles peak last s) := by
  refine Ends.step frame (G := 0x60000000082) ?_ inMask
  unfold execSynthLock
  repeat' first
    | with_reducible exact Only.refl _ _
    | with_reducible assumption
    | with_reducible apply Only.ite
    | with_reducible apply Only.foldl
    | with_reducible apply Only.fst_ite
    | with_reducible apply Only.snd_ite
    | with_reducible apply State.showError_only
    | with_reducible apply State.judgeClocks_only
    | with_reducible apply State.putBit_only
    | with_reducible apply State.afterLock_only
    | with_reducible apply Ends.next
    | with_reducible apply Ends.ite
    | decide
    | intro _ _
    | intro _
    | dsimp only
    | split

theorem State.losePair_only {M : Nat} {origin : State} (s : State) (n cause : Nat) (frame : Only M origin s) (inMask : 0xa40f8e1f07f7df37a7ff3fde ||| M = M) : Only M origin (State.losePair s n cause) := by
  refine Only.step frame (G := 0xa40f8e1f07f7df37a7ff3fde) ?_ inMask
  unfold State.losePair
  repeat' first
    | with_reducible exact Only.refl _ _
    | with_reducible assumption
    | with_reducible apply Only.ite
    | with_reducible apply Only.foldl
    | with_reducible apply Only.fst_ite
    | with_reducible apply Only.snd_ite
    | with_reducible apply State.twinLanesRateMatched_only
    | with_reducible apply State.measureSyntony_only
    | with_reducible apply State.fenceItem_only
    | with_reducible apply State.retryMirror_only
    | decide
    | intro _ _
    | intro _
    | dsimp only
    | split

theorem execSynthLockLoss_only {M : Nat} {origin : State} (k : SynthId) (errors : List Int) (s : State) (frame : Only M origin s) (inMask : 0xa43f8e1f07f7df37a7ff3fde ||| M = M) : Ends M origin (execSynthLockLoss k errors s) := by
  refine Ends.step frame (G := 0xa43f8e1f07f7df37a7ff3fde) ?_ inMask
  unfold execSynthLockLoss
  repeat' first
    | with_reducible exact Only.refl _ _
    | with_reducible assumption
    | with_reducible apply Only.ite
    | with_reducible apply Only.foldl
    | with_reducible apply Only.fst_ite
    | with_reducible apply Only.snd_ite
    | with_reducible apply State.showError_only
    | with_reducible apply State.putBit_only
    | with_reducible apply State.inc32_only
    | with_reducible apply State.raise_only
    | with_reducible apply State.swapWasLoss_only
    | with_reducible apply State.judgeClocks_only
    | with_reducible apply State.changeOver_only
    | with_reducible apply State.losePair_only
    | with_reducible apply Ends.next
    | with_reducible apply Ends.ite
    | decide
    | intro _ _
    | intro _
    | dsimp only
    | split

theorem execBackupReady_only {M : Nat} {origin : State} (n : PairId) (cycles peak : Nat) (s : State) (frame : Only M origin s) (inMask : 0x3408010006060000000082 ||| M = M) : Ends M origin (execBackupReady n cycles peak s) := by
  refine Ends.step frame (G := 0x3408010006060000000082) ?_ inMask
  unfold execBackupReady
  repeat' first
    | with_reducible exact Only.refl _ _
    | with_reducible assumption
    | with_reducible apply Only.ite
    | with_reducible apply Only.foldl
    | with_reducible apply Only.fst_ite
    | with_reducible apply Only.snd_ite
    | with_reducible apply State.putBit_only
    | with_reducible apply State.changeOver_only
    | with_reducible apply State.afterLock_only
    | with_reducible apply Ends.next
    | with_reducible apply Ends.ite
    | decide
    | intro _ _
    | intro _
    | dsimp only
    | split

theorem execBackupAlignmentLoss_only {M : Nat} {origin : State} (n : PairId) (phase : Int) (s : State) (frame : Only M origin s) (inMask : 0x140000000000000002 ||| M = M) : Ends M origin (execBackupAlignmentLoss n phase s) := by
  refine Ends.step frame (G := 0x140000000000000002) ?_ inMask
  unfold execBackupAlignmentLoss
  repeat' first
    | with_reducible exact Only.refl _ _
    | with_reducible assumption
    | with_reducible apply Only.ite
    | with_reducible apply Only.foldl
    | with_reducible apply Only.fst_ite
    | with_reducible apply Only.snd_ite
    | with_reducible apply State.putBit_only
    | with_reducible apply State.raise_only
    | with_reducible apply Ends.next
    | with_reducible apply Ends.ite
    | decide
    | intro _ _
    | intro _
    | dsimp only
    | split

theorem execSwap_only {M : Nat} {origin : State} (role : Role) (n : PairId) (s : State) (frame : Only M origin s) (inMask : 0x340801000606000000009a ||| M = M) : Ends M origin (execSwap role n s) := by
  refine Ends.step frame (G := 0x340801000606000000009a) ?_ inMask
  unfold execSwap
  repeat' first
    | with_reducible exact Only.refl _ _
    | with_reducible assumption
    | with_reducible apply Only.ite
    | with_reducible apply Only.foldl
    | with_reducible apply Only.fst_ite
    | with_reducible apply Only.snd_ite
    | with_reducible apply State.hostWrite_only
    | with_reducible apply State.changeOver_only
    | with_reducible apply State.done_only
    | with_reducible apply State.ruleRefused_only
    | with_reducible apply Ends.next
    | with_reducible apply Ends.ite
    | decide
    | intro _ _
    | intro _
    | dsimp only
    | split

theorem execSyncInEdge_only {M : Nat} {origin : State} (period : Fin 5) (s : State) (frame : Only M origin s) (inMask : 0x38000000002 ||| M = M) : Ends M origin (execSyncInEdge period s) := by
  refine Ends.step frame (G := 0x38000000002) ?_ inMask
  unfold execSyncInEdge
  repeat' first
    | with_reducible exact Only.refl _ _
    | with_reducible assumption
    | with_reducible apply Only.ite
    | with_reducible apply Only.foldl
    | with_reducible apply Only.fst_ite
    | with_reducible apply Only.snd_ite
    | with_reducible apply State.inc32_only
    | with_reducible apply State.setNat_only
    | with_reducible apply State.syncOutputs_only
    | with_reducible apply Ends.next
    | with_reducible apply Ends.ite
    | decide
    | intro _ _
    | intro _
    | dsimp only
    | split
    | with_reducible apply Only.upd_syncEdge

end Sys2Proof.Machine
end

