-- ==== Sys2Proof/Laws/Frames/Twin.lean ====
section
/-! SUPPORT. What each operation of Machine/Twin.lean leaves as it was: the frame of every one. -/

set_option linter.unusedTactic false
set_option linter.unreachableTactic false

namespace Sys2Proof.Machine

open Host (Outcome)

theorem State.takeFrame_only {M : Nat} {origin s : State} {cls : Nat} {p : List Byte} {u : State}
    (frame : Only M origin s) (inMask : 0x20000000000000002 ||| M = M) (h : State.takeFrame s cls = some (p, u)) : Only M origin u := by
  refine Only.step (G := 0x20000000000000002) frame ?_ inMask
  unfold State.takeFrame at h
  split at h <;> split at h <;> cases h
  all_goals
  repeat' first
    | with_reducible exact Only.refl _ _
    | with_reducible assumption
    | with_reducible apply Only.ite
    | with_reducible apply Only.foldl
    | with_reducible apply Only.fst_ite
    | with_reducible apply Only.snd_ite
    | with_reducible apply State.inc64_only
    | decide
    | intro _ _
    | intro _
    | dsimp only
    | split
    | with_reducible apply Only.upd_twin


theorem State.putOnLane_only {M : Nat} {origin : State} (s : State) (k cls sequence : Nat) (payload : List Byte) (frame : Only M origin s) (inMask : 0x20000000000000000 ||| M = M) : Only M origin (State.putOnLane s k cls sequence payload) := by
  refine Only.step frame (G := 0x20000000000000000) ?_ inMask
  unfold State.putOnLane
  repeat' first
    | with_reducible exact Only.refl _ _
    | with_reducible assumption
    | with_reducible apply Only.ite
    | with_reducible apply Only.foldl
    | with_reducible apply Only.fst_ite
    | with_reducible apply Only.snd_ite
    | decide
    | intro _ _
    | intro _
    | dsimp only
    | split
    | with_reducible apply Only.upd_twin

theorem State.sendKeacon_only {M : Nat} {origin : State} (s : State) (k cls : Nat) (payload : List Byte) (frame : Only M origin s) (inMask : 0x20000000000000000 ||| M = M) : Only M origin (State.sendKeacon s k cls payload) := by
  refine Only.step frame (G := 0x20000000000000000) ?_ inMask
  unfold State.sendKeacon
  repeat' first
    | with_reducible exact Only.refl _ _
    | with_reducible assumption
    | with_reducible apply Only.ite
    | with_reducible apply Only.foldl
    | with_reducible apply Only.fst_ite
    | with_reducible apply Only.snd_ite
    | with_reducible apply State.nextKeacon_only
    | with_reducible (refine Only.of_snd (by assumption) ?_; apply State.nextKeacon_only)
    | with_reducible apply State.putOnLane_only
    | decide
    | intro _ _
    | intro _
    | dsimp only
    | split
    | with_reducible apply Only.upd_twin

theorem State.serveRobin_only {M : Nat} {origin s : State} {k n : Nat} {u : State}
    (frame : Only M origin s) (inMask : 0x20000000000000002 ||| M = M) (h : State.serveRobin k n s = some u) : Only M origin u := by
  refine Only.step (G := 0x20000000000000002) frame ?_ inMask
  clear frame inMask
  induction n generalizing s with
  | zero => exact nomatch h
  | succ n ih =>
    unfold State.serveRobin at h
    dsimp only at h
    split at h
    · exact (Only.upd_twin _ (Only.refl _ _) (by decide)).step (ih h) (Nat.or_self _)
    · next e =>
      split at h
      · injection h with h; subst h
        exact State.sendKeacon_only _ _ _ _ (Only.upd_twin _ (State.takeFrame_only (Only.refl _ _) (by decide) e) (by decide)) (by decide)
      · exact (Only.upd_twin _ (Only.refl _ _) (by decide)).step (ih h) (Nat.or_self _)


theorem State.serveLane_only {M : Nat} {origin s : State} {k : Nat} {u : State}
    (frame : Only M origin s) (inMask : 0x20000000000000002 ||| M = M) (h : State.serveLane s k = some u) : Only M origin u := by
  refine Only.step (G := 0x20000000000000002) frame ?_ inMask
  unfold State.serveLane at h
  split at h
  · next e => injection h with h; subst h; exact State.sendKeacon_only _ _ _ _ (State.takeFrame_only (Only.refl _ _) (by decide) e) (by decide)
  · exact State.serveRobin_only (Only.refl _ _) (by decide) h


theorem State.serveLanes_only {M : Nat} {origin : State} (n : Nat) (l : List Nat) (s : State)
    (frame : Only M origin s) (inMask : 0x20000000000000002 ||| M = M) : Only M origin (State.serveLanes n l s) := by
  refine Only.step (G := 0x20000000000000002) frame ?_ inMask
  clear frame inMask
  induction n generalizing l s with
  | zero => exact Only.refl _ _
  | succ n ih =>
    cases l with
    | nil => exact Only.refl _ _
    | cons k l =>
      unfold State.serveLanes
      split
      · exact ih _ _
      · split
        · exact Only.refl _ _
        · next e => exact (State.serveLane_only (Only.refl _ _) (by decide) e).step (ih _ _) (Nat.or_self _)


theorem State.serveClasses_only {M : Nat} {origin : State} (s : State) (frame : Only M origin s) (inMask : 0x20000000000000002 ||| M = M) : Only M origin (State.serveClasses s) := by
  refine Only.step frame (G := 0x20000000000000002) ?_ inMask
  unfold State.serveClasses
  repeat' first
    | with_reducible exact Only.refl _ _
    | with_reducible assumption
    | with_reducible apply Only.ite
    | with_reducible apply Only.foldl
    | with_reducible apply Only.fst_ite
    | with_reducible apply Only.snd_ite
    | with_reducible apply State.serveLanes_only
    | decide
    | intro _ _
    | intro _
    | dsimp only
    | split
    | with_reducible apply Only.upd_twin

theorem execCricketSend_only {M : Nat} {origin : State} (s : State) (frame : Only M origin s) (inMask : 0x20000000000000002 ||| M = M) : Ends M origin (execCricketSend s) := by
  refine Ends.step frame (G := 0x20000000000000002) ?_ inMask
  unfold execCricketSend
  repeat' first
    | with_reducible exact Only.refl _ _
    | with_reducible assumption
    | with_reducible apply Only.ite
    | with_reducible apply Only.foldl
    | with_reducible apply Only.fst_ite
    | with_reducible apply Only.snd_ite
    | with_reducible apply State.putCricket_only
    | with_reducible apply State.serveClasses_only
    | with_reducible apply Ends.next
    | with_reducible apply Ends.ite
    | decide
    | intro _ _
    | intro _
    | dsimp only
    | split

theorem State.compareTwin_only {M : Nat} {origin : State} (s : State) (frame : Only M origin s) (inMask : 0x160000000000000002 ||| M = M) : Only M origin (State.compareTwin s) := by
  refine Only.step frame (G := 0x160000000000000002) ?_ inMask
  unfold State.compareTwin
  repeat' first
    | with_reducible exact Only.refl _ _
    | with_reducible assumption
    | with_reducible apply Only.ite
    | with_reducible apply Only.foldl
    | with_reducible apply Only.fst_ite
    | with_reducible apply Only.snd_ite
    | with_reducible apply State.setReg_only
    | with_reducible apply State.judgeLimit_only
    | decide
    | intro _ _
    | intro _
    | dsimp only
    | split
    | with_reducible apply Only.upd_twin

theorem State.takeYield_only {M : Nat} {origin : State} (s : State) (frame : Only M origin s) (inMask : 0x500020000100000000042 ||| M = M) : Only M origin (State.takeYield s) := by
  refine Only.step frame (G := 0x500020000100000000042) ?_ inMask
  unfold State.takeYield
  repeat' first
    | with_reducible exact Only.refl _ _
    | with_reducible assumption
    | with_reducible apply Only.ite
    | with_reducible apply Only.foldl
    | with_reducible apply Only.fst_ite
    | with_reducible apply Only.snd_ite
    | with_reducible apply State.takeLead_only
    | decide
    | intro _ _
    | intro _
    | dsimp only
    | split

theorem State.cricketGap_only {M : Nat} {origin : State} (s : State) (k number : Nat) (frame : Only M origin s) (inMask : 0x20000000000000002 ||| M = M) : Only M origin (State.cricketGap s k number) := by
  refine Only.step frame (G := 0x20000000000000002) ?_ inMask
  unfold State.cricketGap
  repeat' first
    | with_reducible exact Only.refl _ _
    | with_reducible assumption
    | with_reducible apply Only.ite
    | with_reducible apply Only.foldl
    | with_reducible apply Only.fst_ite
    | with_reducible apply Only.snd_ite
    | with_reducible apply State.countMissed_only
    | decide
    | intro _ _
    | intro _
    | dsimp only
    | split
    | with_reducible apply Only.upd_twin

theorem State.dropCovers_only {M : Nat} {origin : State} (s : State) (frame : Only M origin s) (inMask : 0x2 ||| M = M) : Only M origin (State.dropCovers s) := by
  refine Only.step frame (G := 0x2) ?_ inMask
  unfold State.dropCovers
  repeat' first
    | with_reducible exact Only.refl _ _
    | with_reducible assumption
    | with_reducible apply Only.ite
    | with_reducible apply Only.foldl
    | with_reducible apply Only.fst_ite
    | with_reducible apply Only.snd_ite
    | with_reducible apply State.setNat_only
    | decide
    | intro _ _
    | intro _
    | dsimp only
    | split

theorem execCricketReceive_only {M : Nat} {origin : State} (k : Fin 4) (head : KeaconHead) (payload : List Byte) (received : List Int) (s : State) (frame : Only M origin s) (inMask : 0x240f0c1f07f5df03a5ff3fde ||| M = M) : Ends M origin (execCricketReceive k head payload received s) := by
  refine Ends.step frame (G := 0x240f0c1f07f5df03a5ff3fde) ?_ inMask
  unfold execCricketReceive
  repeat' first
    | with_reducible exact Only.refl _ _
    | with_reducible assumption
    | with_reducible apply Only.ite
    | with_reducible apply Only.foldl
    | with_reducible apply Only.fst_ite
    | with_reducible apply Only.snd_ite
    | with_reducible apply State.countMissed_only
    | with_reducible apply State.cricketGap_only
    | with_reducible apply State.setNat_only
    | with_reducible apply State.compareTwin_only
    | with_reducible apply State.dropCovers_only
    | with_reducible apply State.retryMirror_only
    | with_reducible apply State.takeYield_only
    | with_reducible apply Ends.next
    | with_reducible apply Ends.ite
    | decide
    | intro _ _
    | intro _
    | dsimp only
    | split
    | with_reducible apply Only.upd_twin

theorem State.missAll_only {M : Nat} {origin : State} (s : State) (frame : Only M origin s) (inMask : 0x20000000000000002 ||| M = M) : Only M origin (State.missAll s) := by
  refine Only.step frame (G := 0x20000000000000002) ?_ inMask
  unfold State.missAll
  repeat' first
    | with_reducible exact Only.refl _ _
    | with_reducible assumption
    | with_reducible apply Only.ite
    | with_reducible apply Only.foldl
    | with_reducible apply Only.fst_ite
    | with_reducible apply Only.snd_ite
    | with_reducible apply State.countMissed_only
    | decide
    | intro _ _
    | intro _
    | dsimp only
    | split

theorem execCricketTimeout_only {M : Nat} {origin : State} (s : State) (frame : Only M origin s) (inMask : 0x500160000100000000042 ||| M = M) : Ends M origin (execCricketTimeout s) := by
  refine Ends.step frame (G := 0x500160000100000000042) ?_ inMask
  unfold execCricketTimeout
  repeat' first
    | with_reducible exact Only.refl _ _
    | with_reducible assumption
    | with_reducible apply Only.ite
    | with_reducible apply Only.foldl
    | with_reducible apply Only.fst_ite
    | with_reducible apply Only.snd_ite
    | with_reducible apply State.missAll_only
    | with_reducible apply State.putBit_only
    | with_reducible apply State.raise_only
    | with_reducible apply State.holdTable_only
    | with_reducible apply Ends.next
    | with_reducible apply Ends.ite
    | decide
    | intro _ _
    | intro _
    | dsimp only
    | split
    | with_reducible apply Only.upd_twin

theorem execTwinWaitExpiry_only {M : Nat} {origin : State} (s : State) (frame : Only M origin s) (inMask : 0x500160000000000000042 ||| M = M) : Ends M origin (execTwinWaitExpiry s) := by
  refine Ends.step frame (G := 0x500160000000000000042) ?_ inMask
  unfold execTwinWaitExpiry
  repeat' first
    | with_reducible exact Only.refl _ _
    | with_reducible assumption
    | with_reducible apply Only.ite
    | with_reducible apply Only.foldl
    | with_reducible apply Only.fst_ite
    | with_reducible apply Only.snd_ite
    | with_reducible apply State.setRole_only
    | with_reducible apply State.raise_only
    | with_reducible apply Ends.next
    | with_reducible apply Ends.ite
    | decide
    | intro _ _
    | intro _
    | dsimp only
    | split

theorem execHandover_only {M : Nat} {origin : State} (role : Role) (s : State) (frame : Only M origin s) (inMask : 0x50002000000000000005a ||| M = M) : Ends M origin (execHandover role s) := by
  refine Ends.step frame (G := 0x50002000000000000005a) ?_ inMask
  unfold execHandover
  repeat' first
    | with_reducible exact Only.refl _ _
    | with_reducible assumption
    | with_reducible apply Only.ite
    | with_reducible apply Only.foldl
    | with_reducible apply Only.fst_ite
    | with_reducible apply Only.snd_ite
    | with_reducible apply State.hostWrite_only
    | with_reducible apply State.yieldLead_only
    | with_reducible apply State.done_only
    | with_reducible apply State.ruleRefused_only
    | with_reducible apply Ends.next
    | with_reducible apply Ends.ite
    | decide
    | intro _ _
    | intro _
    | dsimp only
    | split

theorem execHoldoverTakeover_only {M : Nat} {origin : State} (s : State) (frame : Only M origin s) (inMask : 0x500020000000000000042 ||| M = M) : Ends M origin (execHoldoverTakeover s) := by
  refine Ends.step frame (G := 0x500020000000000000042) ?_ inMask
  unfold execHoldoverTakeover
  repeat' first
    | with_reducible exact Only.refl _ _
    | with_reducible assumption
    | with_reducible apply Only.ite
    | with_reducible apply Only.foldl
    | with_reducible apply Only.fst_ite
    | with_reducible apply Only.snd_ite
    | with_reducible apply State.yieldLead_only
    | with_reducible apply Ends.next
    | with_reducible apply Ends.ite
    | decide
    | intro _ _
    | intro _
    | dsimp only
    | split

theorem execYieldReceive_only {M : Nat} {origin : State} (s : State) (frame : Only M origin s) (inMask : 0x500020000100000000042 ||| M = M) : Ends M origin (execYieldReceive s) := by
  refine Ends.step frame (G := 0x500020000100000000042) ?_ inMask
  unfold execYieldReceive
  repeat' first
    | with_reducible exact Only.refl _ _
    | with_reducible assumption
    | with_reducible apply Only.ite
    | with_reducible apply Only.foldl
    | with_reducible apply Only.fst_ite
    | with_reducible apply Only.snd_ite
    | with_reducible apply State.takeYield_only
    | with_reducible apply Ends.next
    | with_reducible apply Ends.ite
    | decide
    | intro _ _
    | intro _
    | dsimp only
    | split

theorem State.startShared_only {M : Nat} {origin : State} (was s : State) (frame : Only M origin s) (inMask : 0x120000000000 ||| M = M) : Only M origin (State.startShared was s) := by
  refine Only.step frame (G := 0x120000000000) ?_ inMask
  unfold State.startShared
  repeat' first
    | with_reducible exact Only.refl _ _
    | with_reducible assumption
    | with_reducible apply Only.ite
    | with_reducible apply Only.foldl
    | with_reducible apply Only.fst_ite
    | with_reducible apply Only.snd_ite
    | with_reducible apply State.settlePulses_only
    | with_reducible apply State.setFirefly_only
    | with_reducible apply State.setClock_only
    | decide
    | intro _ _
    | intro _
    | dsimp only
    | split

theorem execTwinHoldInChange_only {M : Nat} {origin : State} (asserted : Bool) (s : State) (frame : Only M origin s) (inMask : 0x500020000120000000042 ||| M = M) : Ends M origin (execTwinHoldInChange asserted s) := by
  refine Ends.step frame (G := 0x500020000120000000042) ?_ inMask
  unfold execTwinHoldInChange
  repeat' first
    | with_reducible exact Only.refl _ _
    | with_reducible assumption
    | with_reducible apply Only.ite
    | with_reducible apply Only.foldl
    | with_reducible apply Only.fst_ite
    | with_reducible apply Only.snd_ite
    | with_reducible apply State.startShared_only
    | with_reducible apply State.holdTable_only
    | with_reducible apply Ends.next
    | with_reducible apply Ends.ite
    | decide
    | intro _ _
    | intro _
    | dsimp only
    | split
    | with_reducible apply Only.upd_twin

theorem execSharedOutputEnable_only {M : Nat} {origin : State} (s : State) (frame : Only M origin s) (inMask : 0x20000120000000000 ||| M = M) : Ends M origin (execSharedOutputEnable s) := by
  refine Ends.step frame (G := 0x20000120000000000) ?_ inMask
  unfold execSharedOutputEnable
  repeat' first
    | with_reducible exact Only.refl _ _
    | with_reducible assumption
    | with_reducible apply Only.ite
    | with_reducible apply Only.foldl
    | with_reducible apply Only.fst_ite
    | with_reducible apply Only.snd_ite
    | with_reducible apply State.startShared_only
    | with_reducible apply Ends.next
    | with_reducible apply Ends.ite
    | decide
    | intro _ _
    | intro _
    | dsimp only
    | split
    | with_reducible apply Only.upd_twin

theorem execHoldMismatch_only {M : Nat} {origin : State} (s : State) (frame : Only M origin s) (inMask : 0x140000000000000002 ||| M = M) : Ends M origin (execHoldMismatch s) := by
  refine Ends.step frame (G := 0x140000000000000002) ?_ inMask
  unfold execHoldMismatch
  repeat' first
    | with_reducible exact Only.refl _ _
    | with_reducible assumption
    | with_reducible apply Only.ite
    | with_reducible apply Only.foldl
    | with_reducible apply Only.fst_ite
    | with_reducible apply Only.snd_ite
    | with_reducible apply State.putBit_only
    | with_reducible apply State.raise_only
    | with_reducible apply Ends.next
    | with_reducible apply Ends.ite
    | decide
    | intro _ _
    | intro _
    | dsimp only
    | split

theorem State.takeMirror_only {M : Nat} {origin : State} (s : State) (epoch : Nat) (values : List OdValue) (frame : Only M origin s) (inMask : 0x240f0c1f07f5df03a5ff3fde ||| M = M) : Only M origin (State.takeMirror s epoch values) := by
  refine Only.step frame (G := 0x240f0c1f07f5df03a5ff3fde) ?_ inMask
  unfold State.takeMirror
  repeat' first
    | with_reducible exact Only.refl _ _
    | with_reducible assumption
    | with_reducible apply Only.ite
    | with_reducible apply Only.foldl
    | with_reducible apply Only.fst_ite
    | with_reducible apply Only.snd_ite
    | with_reducible apply State.commitNow_only
    | with_reducible apply State.setNat_only
    | with_reducible apply State.sendControl_only
    | with_reducible apply State.setMirror_only
    | with_reducible apply State.addSat_only
    | with_reducible apply State.putBit_only
    | with_reducible apply State.raise_only
    | with_reducible apply imageCommand_only
    | decide
    | intro _ _
    | intro _
    | dsimp only
    | split
    | with_reducible apply Only.upd_twin

theorem State.queueMirror_only {M : Nat} {origin : State} (s : State) (epoch : Nat) (values : List OdValue) (frame : Only M origin s) (inMask : 0x240f0c1f07f5df03a5ff3fde ||| M = M) : Only M origin (State.queueMirror s epoch values) := by
  refine Only.step frame (G := 0x240f0c1f07f5df03a5ff3fde) ?_ inMask
  unfold State.queueMirror
  repeat' first
    | with_reducible exact Only.refl _ _
    | with_reducible assumption
    | with_reducible apply Only.ite
    | with_reducible apply Only.foldl
    | with_reducible apply Only.fst_ite
    | with_reducible apply Only.snd_ite
    | with_reducible apply State.takeMirror_only
    | decide
    | intro _ _
    | intro _
    | dsimp only
    | split
    | with_reducible apply Only.upd_commits

theorem State.takeImage_only {M : Nat} {origin : State} (s : State) (epoch : Nat) (values : List OdValue) (frame : Only M origin s) (inMask : 0x240f0c1f07f5df03a5ff3fde ||| M = M) : Only M origin (State.takeImage s epoch values) := by
  refine Only.step frame (G := 0x240f0c1f07f5df03a5ff3fde) ?_ inMask
  unfold State.takeImage
  repeat' first
    | with_reducible exact Only.refl _ _
    | with_reducible assumption
    | with_reducible apply Only.ite
    | with_reducible apply Only.foldl
    | with_reducible apply Only.fst_ite
    | with_reducible apply Only.snd_ite
    | with_reducible apply State.setNat_only
    | with_reducible apply State.sendControl_only
    | with_reducible apply State.queueMirror_only
    | decide
    | intro _ _
    | intro _
    | dsimp only
    | split

theorem State.mirrorArrives_only {M : Nat} {origin : State} (s : State) (image : Bool) (epoch : Nat) (values : List (Nat × Nat × List Byte)) (frame : Only M origin s) (inMask : 0x240f0c1f07f5df03a5ff3fde ||| M = M) : Only M origin (State.mirrorArrives s image epoch values) := by
  refine Only.step frame (G := 0x240f0c1f07f5df03a5ff3fde) ?_ inMask
  unfold State.mirrorArrives
  repeat' first
    | with_reducible exact Only.refl _ _
    | with_reducible assumption
    | with_reducible apply Only.ite
    | with_reducible apply Only.foldl
    | with_reducible apply Only.fst_ite
    | with_reducible apply Only.snd_ite
    | with_reducible apply State.takeImage_only
    | with_reducible apply State.queueMirror_only
    | decide
    | intro _ _
    | intro _
    | dsimp only
    | split

theorem State.mirrorAnswered_only {M : Nat} {origin : State} (s : State) (epoch : Nat) (refused : Bool) (frame : Only M origin s) (inMask : 0x20000000000000002 ||| M = M) : Only M origin (State.mirrorAnswered s epoch refused) := by
  refine Only.step frame (G := 0x20000000000000002) ?_ inMask
  unfold State.mirrorAnswered
  repeat' first
    | with_reducible exact Only.refl _ _
    | with_reducible assumption
    | with_reducible apply Only.ite
    | with_reducible apply Only.foldl
    | with_reducible apply Only.fst_ite
    | with_reducible apply Only.snd_ite
    | with_reducible apply State.setMirror_only
    | decide
    | intro _ _
    | intro _
    | dsimp only
    | split
    | with_reducible apply Only.upd_twin

theorem State.takeMirrorMessage_only {M : Nat} {origin : State} (s : State) (message : MirrorMessage)
    (frame : Only M origin s) (inMask : 0x240f0c1f07f5df03a5ff3fde ||| M = M) : Only M origin (State.takeMirrorMessage s message) := by
  refine Only.step frame (G := 0x240f0c1f07f5df03a5ff3fde) ?_ inMask
  unfold State.takeMirrorMessage
  repeat' first
    | with_reducible exact Only.refl _ _
    | with_reducible assumption
    | with_reducible apply Only.ite
    | with_reducible apply Only.foldl
    | with_reducible apply Only.fst_ite
    | with_reducible apply Only.snd_ite
    | with_reducible apply State.mirrorArrives_only
    | with_reducible apply State.mirrorAnswered_only
    | with_reducible apply State.startResync_only
    | decide
    | intro _ _
    | intro _
    | dsimp only
    | split


theorem execResync_only {M : Nat} {origin : State} (role : Role) (s : State) (frame : Only M origin s) (inMask : 0x2000000000000001a ||| M = M) : Ends M origin (execResync role s) := by
  refine Ends.step frame (G := 0x2000000000000001a) ?_ inMask
  unfold execResync
  repeat' first
    | with_reducible exact Only.refl _ _
    | with_reducible assumption
    | with_reducible apply Only.ite
    | with_reducible apply Only.foldl
    | with_reducible apply Only.fst_ite
    | with_reducible apply Only.snd_ite
    | with_reducible apply State.hostWrite_only
    | with_reducible apply State.startResync_only
    | with_reducible apply State.done_only
    | with_reducible apply Ends.next
    | with_reducible apply Ends.ite
    | decide
    | intro _ _
    | intro _
    | dsimp only
    | split

theorem execResyncComplete_only {M : Nat} {origin : State} (s : State) (frame : Only M origin s) (inMask : 0x2 ||| M = M) : Ends M origin (execResyncComplete s) := by
  refine Ends.step frame (G := 0x2) ?_ inMask
  unfold execResyncComplete
  repeat' first
    | with_reducible exact Only.refl _ _
    | with_reducible assumption
    | with_reducible apply Only.ite
    | with_reducible apply Only.foldl
    | with_reducible apply Only.fst_ite
    | with_reducible apply Only.snd_ite
    | with_reducible apply State.setMirror_only
    | with_reducible apply Ends.next
    | with_reducible apply Ends.ite
    | decide
    | intro _ _
    | intro _
    | dsimp only
    | split

theorem State.coverArrives_only {M : Nat} {origin : State} (s : State) (p : Nat) (frame : Only M origin s) (inMask : 0x2 ||| M = M) : Only M origin (State.coverArrives s p) := by
  refine Only.step frame (G := 0x2) ?_ inMask
  unfold State.coverArrives
  repeat' first
    | with_reducible exact Only.refl _ _
    | with_reducible assumption
    | with_reducible apply Only.ite
    | with_reducible apply Only.foldl
    | with_reducible apply Only.fst_ite
    | with_reducible apply Only.snd_ite
    | with_reducible apply State.setNat_only
    | decide
    | intro _ _
    | intro _
    | dsimp only
    | split

theorem State.coverFrameArrives_only {M : Nat} {origin : State} (s : State) (ports vid priority untag : Nat) (payload : List Byte) (frame : Only M origin s) (inMask : 0x140000000000005002 ||| M = M) : Only M origin (State.coverFrameArrives s ports vid priority untag payload) := by
  refine Only.step frame (G := 0x140000000000005002) ?_ inMask
  unfold State.coverFrameArrives
  repeat' first
    | with_reducible exact Only.refl _ _
    | with_reducible assumption
    | with_reducible apply Only.ite
    | with_reducible apply Only.foldl
    | with_reducible apply Only.fst_ite
    | with_reducible apply Only.snd_ite
    | with_reducible apply State.inc64_only
    | with_reducible apply State.hubFrame_only
    | decide
    | intro _ _
    | intro _
    | dsimp only
    | split

theorem execCoverFrameTimeout_only {M : Nat} {origin : State} (s : State) (frame : Only M origin s) (inMask : 0x20000000000000002 ||| M = M) : Ends M origin (execCoverFrameTimeout s) := by
  refine Ends.step frame (G := 0x20000000000000002) ?_ inMask
  unfold execCoverFrameTimeout
  repeat' first
    | with_reducible exact Only.refl _ _
    | with_reducible assumption
    | with_reducible apply Only.ite
    | with_reducible apply Only.foldl
    | with_reducible apply Only.fst_ite
    | with_reducible apply Only.snd_ite
    | with_reducible apply State.inc64_only
    | with_reducible apply Ends.next
    | with_reducible apply Ends.ite
    | decide
    | intro _ _
    | intro _
    | dsimp only
    | split
    | with_reducible apply Only.upd_twin

theorem State.uncoverArrives_only {M : Nat} {origin : State} (s : State) (p : Nat) (frame : Only M origin s) (inMask : 0x20000000000000002 ||| M = M) : Only M origin (State.uncoverArrives s p) := by
  refine Only.step frame (G := 0x20000000000000002) ?_ inMask
  unfold State.uncoverArrives
  repeat' first
    | with_reducible exact Only.refl _ _
    | with_reducible assumption
    | with_reducible apply Only.ite
    | with_reducible apply Only.foldl
    | with_reducible apply Only.fst_ite
    | with_reducible apply Only.snd_ite
    | with_reducible apply State.setNat_only
    | with_reducible apply State.sendControl_only
    | decide
    | intro _ _
    | intro _
    | dsimp only
    | split

theorem State.uncover_only {M : Nat} {origin : State} (s : State) (p : Nat) (frame : Only M origin s) (inMask : 0x9001407f4040000800342 ||| M = M) : Only M origin (State.uncover s p) := by
  refine Only.step frame (G := 0x9001407f4040000800342) ?_ inMask
  unfold State.uncover
  repeat' first
    | with_reducible exact Only.refl _ _
    | with_reducible assumption
    | with_reducible apply Only.ite
    | with_reducible apply Only.foldl
    | with_reducible apply Only.fst_ite
    | with_reducible apply Only.snd_ite
    | with_reducible apply State.setNat_only
    | with_reducible apply State.judgePort_only
    | with_reducible apply State.regionBack_only
    | decide
    | intro _ _
    | intro _
    | dsimp only
    | split

theorem execReleaseCover_only {M : Nat} {origin : State} (role : Role) (p : PortId) (s : State) (frame : Only M origin s) (inMask : 0x9001407f404000080035a ||| M = M) : Ends M origin (execReleaseCover role p s) := by
  refine Ends.step frame (G := 0x9001407f404000080035a) ?_ inMask
  unfold execReleaseCover
  repeat' first
    | with_reducible exact Only.refl _ _
    | with_reducible assumption
    | with_reducible apply Only.ite
    | with_reducible apply Only.foldl
    | with_reducible apply Only.fst_ite
    | with_reducible apply Only.snd_ite
    | with_reducible apply State.hostWrite_only
    | with_reducible apply State.uncover_only
    | with_reducible apply State.done_only
    | with_reducible apply Ends.next
    | with_reducible apply Ends.ite
    | decide
    | intro _ _
    | intro _
    | dsimp only
    | split

theorem State.arbitrate_only {M : Nat} {origin : State} (s : State) (twinLead : Bool) (twinFenced twinTb0 : Nat) (frame : Only M origin s) (inMask : 0x500020000000000000042 ||| M = M) : Only M origin (State.arbitrate s twinLead twinFenced twinTb0) := by
  refine Only.step frame (G := 0x500020000000000000042) ?_ inMask
  unfold State.arbitrate
  repeat' first
    | with_reducible exact Only.refl _ _
    | with_reducible assumption
    | with_reducible apply Only.ite
    | with_reducible apply Only.foldl
    | with_reducible apply Only.fst_ite
    | with_reducible apply Only.snd_ite
    | with_reducible apply State.setRole_only
    | decide
    | intro _ _
    | intro _
    | dsimp only
    | split

theorem State.countOverwritten_only {M : Nat} {origin : State} (s : State) (frame : Only M origin s) (inMask : 0x20000000000000002 ||| M = M) : Only M origin (State.countOverwritten s) := by
  refine Only.step frame (G := 0x20000000000000002) ?_ inMask
  unfold State.countOverwritten
  repeat' first
    | with_reducible exact Only.refl _ _
    | with_reducible assumption
    | with_reducible apply Only.ite
    | with_reducible apply Only.foldl
    | with_reducible apply Only.fst_ite
    | with_reducible apply Only.snd_ite
    | with_reducible apply State.addSat_only
    | decide
    | intro _ _
    | intro _
    | dsimp only
    | split
    | with_reducible apply Only.upd_twin

theorem State.completeUncover_only {M : Nat} {origin : State} (s : State) (covers : List Nat) (frame : Only M origin s) (inMask : 0x9001607f4040000800342 ||| M = M) : Only M origin (State.completeUncover s covers) := by
  refine Only.step frame (G := 0x9001607f4040000800342) ?_ inMask
  unfold State.completeUncover
  repeat' first
    | with_reducible exact Only.refl _ _
    | with_reducible assumption
    | with_reducible apply Only.ite
    | with_reducible apply Only.foldl
    | with_reducible apply Only.fst_ite
    | with_reducible apply Only.snd_ite
    | with_reducible apply State.uncoverArrives_only
    | with_reducible apply State.setNat_only
    | with_reducible apply State.sendControl_only
    | with_reducible apply State.uncover_only
    | decide
    | intro _ _
    | intro _
    | dsimp only
    | split

theorem State.bringUp_only {M : Nat} {origin : State} (s : State) (twinId layout : Nat) (twinLead : Bool) (twinFenced twinTb0 : Nat) (covers : List Nat) (frame : Only M origin s) (inMask : 0xd001607f4040000800342 ||| M = M) : Only M origin (State.bringUp s twinId layout twinLead twinFenced twinTb0 covers) := by
  refine Only.step frame (G := 0xd001607f4040000800342) ?_ inMask
  unfold State.bringUp
  repeat' first
    | with_reducible exact Only.refl _ _
    | with_reducible assumption
    | with_reducible apply Only.ite
    | with_reducible apply Only.foldl
    | with_reducible apply Only.fst_ite
    | with_reducible apply Only.snd_ite
    | with_reducible apply State.putBit_only
    | with_reducible apply State.raise_only
    | with_reducible apply State.setMirror_only
    | with_reducible apply State.arbitrate_only
    | with_reducible apply State.countOverwritten_only
    | with_reducible apply State.startResync_only
    | with_reducible apply State.sendControl_only
    | with_reducible apply State.completeUncover_only
    | decide
    | intro _ _
    | intro _
    | dsimp only
    | split
    | with_reducible apply Only.upd_twin

theorem execKeaconHandshake_only {M : Nat} {origin : State} (k : Fin 4) (serial : BitVec 64) (twinId : Nat) (fwVersion layout : Nat) (twinLead : Bool) (twinFenced : Nat) (twinTb0 : Nat) (covers : List Nat) (s : State) (frame : Only M origin s) (inMask : 0xd001607f4040000800346 ||| M = M) : Ends M origin (execKeaconHandshake k serial twinId fwVersion layout twinLead twinFenced twinTb0 covers s) := by
  refine Ends.step frame (G := 0xd001607f4040000800346) ?_ inMask
  unfold execKeaconHandshake
  repeat' first
    | with_reducible exact Only.refl _ _
    | with_reducible assumption
    | with_reducible apply Only.ite
    | with_reducible apply Only.foldl
    | with_reducible apply Only.fst_ite
    | with_reducible apply Only.snd_ite
    | with_reducible apply State.putBit_only
    | with_reducible apply State.putOnLane_only
    | with_reducible apply State.setBlob_only
    | with_reducible apply State.bringUp_only
    | with_reducible apply Ends.next
    | with_reducible apply Ends.ite
    | decide
    | intro _ _
    | intro _
    | dsimp only
    | split
    | with_reducible apply Only.upd_twin

theorem State.deliver_only {M : Nat} {origin : State} (s : State) (content : KeaconContent)
    (frame : Only M origin s) (inMask : 0x240f0c1f07f5df03a5ff7fde ||| M = M) : Only M origin (State.deliver s content) := by
  refine Only.step frame (G := 0x240f0c1f07f5df03a5ff7fde) ?_ inMask
  unfold State.deliver
  repeat' first
    | with_reducible exact Only.refl _ _
    | with_reducible assumption
    | with_reducible apply Only.ite
    | with_reducible apply Only.foldl
    | with_reducible apply Only.fst_ite
    | with_reducible apply Only.snd_ite
    | with_reducible apply State.takeMirrorMessage_only
    | with_reducible apply State.coverFrameArrives_only
    | with_reducible apply State.coverArrives_only
    | with_reducible apply State.uncoverArrives_only
    | with_reducible apply State.uncover_only
    | decide
    | intro _ _
    | intro _
    | dsimp only
    | split


theorem State.deliverHeld_only {M : Nat} {origin : State} (cls n : Nat) (s : State)
    (frame : Only M origin s) (inMask : 0x240f0c1f07f5df03a5ff7fde ||| M = M) : Only M origin (State.deliverHeld cls n s) := by
  refine Only.step frame (G := 0x240f0c1f07f5df03a5ff7fde) ?_ inMask
  clear frame inMask
  induction n generalizing s with
  | zero => exact Only.refl _ _
  | succ n ih =>
    have ih' : ∀ {M : Nat} {origin s : State}, Only M origin s → 0x240f0c1f07f5df03a5ff7fde ||| M = M →
        Only M origin (State.deliverHeld cls n s) := fun a b => a.step (ih _) b
    unfold State.deliverHeld
    repeat' first
      | with_reducible exact Only.refl _ _
      | with_reducible assumption
      | with_reducible apply Only.ite
      | with_reducible apply Only.foldl
      | with_reducible apply Only.fst_ite
      | with_reducible apply Only.snd_ite
      | with_reducible apply State.keaconPast_only
      | with_reducible apply State.deliver_only
      | with_reducible apply ih'
      | decide
      | intro _ _
      | intro _
      | dsimp only
      | split
      | with_reducible apply Only.upd_twin


theorem State.keaconArrives_only {M : Nat} {origin : State} (s : State) (cls : Nat) (head : KeaconHead) (content : KeaconContent) (frame : Only M origin s) (inMask : 0x240f0c1f07f5df03a5ff7fde ||| M = M) : Only M origin (State.keaconArrives s cls head content) := by
  refine Only.step frame (G := 0x240f0c1f07f5df03a5ff7fde) ?_ inMask
  unfold State.keaconArrives
  repeat' first
    | with_reducible exact Only.refl _ _
    | with_reducible assumption
    | with_reducible apply Only.ite
    | with_reducible apply Only.foldl
    | with_reducible apply Only.fst_ite
    | with_reducible apply Only.snd_ite
    | with_reducible apply State.deliverHeld_only
    | with_reducible apply State.keaconPast_only
    | with_reducible apply State.deliver_only
    | with_reducible apply State.holdKeacon_only
    | decide
    | intro _ _
    | intro _
    | dsimp only
    | split

theorem execMirrorFrameReceive_only {M : Nat} {origin : State} (head : KeaconHead) (message : MirrorMessage) (s : State) (frame : Only M origin s) (inMask : 0x240f0c1f07f5df03a5ff7fde ||| M = M) : Ends M origin (execMirrorFrameReceive head message s) := by
  refine Ends.step frame (G := 0x240f0c1f07f5df03a5ff7fde) ?_ inMask
  unfold execMirrorFrameReceive
  repeat' first
    | with_reducible exact Only.refl _ _
    | with_reducible assumption
    | with_reducible apply Only.ite
    | with_reducible apply Only.foldl
    | with_reducible apply Only.fst_ite
    | with_reducible apply Only.snd_ite
    | with_reducible apply State.keaconArrives_only
    | with_reducible apply Ends.next
    | with_reducible apply Ends.ite
    | decide
    | intro _ _
    | intro _
    | dsimp only
    | split

theorem execCoverNoticeReceive_only {M : Nat} {origin : State} (head : KeaconHead) (p : PortId) (s : State) (frame : Only M origin s) (inMask : 0x240f0c1f07f5df03a5ff7fde ||| M = M) : Ends M origin (execCoverNoticeReceive head p s) := by
  refine Ends.step frame (G := 0x240f0c1f07f5df03a5ff7fde) ?_ inMask
  unfold execCoverNoticeReceive
  repeat' first
    | with_reducible exact Only.refl _ _
    | with_reducible assumption
    | with_reducible apply Only.ite
    | with_reducible apply Only.foldl
    | with_reducible apply Only.fst_ite
    | with_reducible apply Only.snd_ite
    | with_reducible apply State.keaconArrives_only
    | with_reducible apply Ends.next
    | with_reducible apply Ends.ite
    | decide
    | intro _ _
    | intro _
    | dsimp only
    | split

theorem execCoverFrameReceive_only {M : Nat} {origin : State} (head : KeaconHead) (ports : BitVec 96) (vid priority untag : Nat) (payload : List Byte) (s : State) (frame : Only M origin s) (inMask : 0x240f0c1f07f5df03a5ff7fde ||| M = M) : Ends M origin (execCoverFrameReceive head ports vid priority untag payload s) := by
  refine Ends.step frame (G := 0x240f0c1f07f5df03a5ff7fde) ?_ inMask
  unfold execCoverFrameReceive
  repeat' first
    | with_reducible exact Only.refl _ _
    | with_reducible assumption
    | with_reducible apply Only.ite
    | with_reducible apply Only.foldl
    | with_reducible apply Only.fst_ite
    | with_reducible apply Only.snd_ite
    | with_reducible apply State.keaconArrives_only
    | with_reducible apply Ends.next
    | with_reducible apply Ends.ite
    | decide
    | intro _ _
    | intro _
    | dsimp only
    | split

theorem execUncoverNoticeReceive_only {M : Nat} {origin : State} (head : KeaconHead) (p : PortId) (s : State) (frame : Only M origin s) (inMask : 0x240f0c1f07f5df03a5ff7fde ||| M = M) : Ends M origin (execUncoverNoticeReceive head p s) := by
  refine Ends.step frame (G := 0x240f0c1f07f5df03a5ff7fde) ?_ inMask
  unfold execUncoverNoticeReceive
  repeat' first
    | with_reducible exact Only.refl _ _
    | with_reducible assumption
    | with_reducible apply Only.ite
    | with_reducible apply Only.foldl
    | with_reducible apply Only.fst_ite
    | with_reducible apply Only.snd_ite
    | with_reducible apply State.keaconArrives_only
    | with_reducible apply Ends.next
    | with_reducible apply Ends.ite
    | decide
    | intro _ _
    | intro _
    | dsimp only
    | split

theorem execUncoverAckReceive_only {M : Nat} {origin : State} (head : KeaconHead) (p : PortId) (s : State) (frame : Only M origin s) (inMask : 0x240f0c1f07f5df03a5ff7fde ||| M = M) : Ends M origin (execUncoverAckReceive head p s) := by
  refine Ends.step frame (G := 0x240f0c1f07f5df03a5ff7fde) ?_ inMask
  unfold execUncoverAckReceive
  repeat' first
    | with_reducible exact Only.refl _ _
    | with_reducible assumption
    | with_reducible apply Only.ite
    | with_reducible apply Only.foldl
    | with_reducible apply Only.fst_ite
    | with_reducible apply Only.snd_ite
    | with_reducible apply State.keaconArrives_only
    | with_reducible apply Ends.next
    | with_reducible apply Ends.ite
    | decide
    | intro _ _
    | intro _
    | dsimp only
    | split

theorem State.keaconLost_only {M : Nat} {origin : State} (s : State) (cls : Nat) (frame : Only M origin s) (inMask : 0x20000000000000002 ||| M = M) : Only M origin (State.keaconLost s cls) := by
  refine Only.step frame (G := 0x20000000000000002) ?_ inMask
  unfold State.keaconLost
  repeat' first
    | with_reducible exact Only.refl _ _
    | with_reducible assumption
    | with_reducible apply Only.ite
    | with_reducible apply Only.foldl
    | with_reducible apply Only.fst_ite
    | with_reducible apply Only.snd_ite
    | with_reducible apply State.startResync_only
    | with_reducible apply State.sendControl_only
    | with_reducible apply State.inc64_only
    | decide
    | intro _ _
    | intro _
    | dsimp only
    | split

theorem execKeaconReorderTimeout_only {M : Nat} {origin : State} (cls : Fin 6) (s : State) (frame : Only M origin s) (inMask : 0x240f0c1f07f5df03a5ff7fde ||| M = M) : Ends M origin (execKeaconReorderTimeout cls s) := by
  refine Ends.step frame (G := 0x240f0c1f07f5df03a5ff7fde) ?_ inMask
  unfold execKeaconReorderTimeout
  repeat' first
    | with_reducible exact Only.refl _ _
    | with_reducible assumption
    | with_reducible apply Only.ite
    | with_reducible apply Only.foldl
    | with_reducible apply Only.fst_ite
    | with_reducible apply Only.snd_ite
    | with_reducible apply State.deliverHeld_only
    | with_reducible apply State.keaconPast_only
    | with_reducible apply State.keaconLost_only
    | with_reducible apply Ends.next
    | with_reducible apply Ends.ite
    | decide
    | intro _ _
    | intro _
    | dsimp only
    | split

end Sys2Proof.Machine
end

