-- ==== Sys2Proof/Laws/Frames/Engines.lean ====
section
/-! SUPPORT. What each operation of Machine/Engines.lean leaves as it was: the frame of every one. -/

set_option linter.unusedTactic false
set_option linter.unreachableTactic false

namespace Sys2Proof.Machine

open Host (Outcome)

theorem execWatchdogRestart_only {M : Nat} {origin : State} (e : EngineId) (s : State) (frame : Only M origin s) (inMask : 0x400000000000000000000 ||| M = M) : Ends M origin (execWatchdogRestart e s) := by
  refine Ends.step frame (G := 0x400000000000000000000) ?_ inMask
  unfold execWatchdogRestart
  repeat' first
    | with_reducible exact Only.refl _ _
    | with_reducible assumption
    | with_reducible apply Only.ite
    | with_reducible apply Only.foldl
    | with_reducible apply Only.fst_ite
    | with_reducible apply Only.snd_ite
    | with_reducible apply State.setEngine_only
    | with_reducible apply Ends.next
    | with_reducible apply Ends.ite
    | decide
    | intro _ _
    | intro _
    | dsimp only
    | split

theorem execWatchdogExpiry_only {M : Nat} {origin : State} (e : EngineId) (s : State) (frame : Only M origin s) (inMask : 0x400140000000000000000 ||| M = M) : Ends M origin (execWatchdogExpiry e s) := by
  refine Ends.step frame (G := 0x400140000000000000000) ?_ inMask
  unfold execWatchdogExpiry
  repeat' first
    | with_reducible exact Only.refl _ _
    | with_reducible assumption
    | with_reducible apply Only.ite
    | with_reducible apply Only.foldl
    | with_reducible apply Only.fst_ite
    | with_reducible apply Only.snd_ite
    | with_reducible apply State.setEngine_only
    | with_reducible apply State.raise_only
    | with_reducible apply Ends.next
    | with_reducible apply Ends.ite
    | decide
    | intro _ _
    | intro _
    | dsimp only
    | split

theorem State.trap_only {M : Nat} {origin : State} (s : State) (e thread : Nat) (cause address : BitVec 32) (frame : Only M origin s) (inMask : 0x140000000000000004 ||| M = M) : Only M origin (State.trap s e thread cause address) := by
  refine Only.step frame (G := 0x140000000000000004) ?_ inMask
  unfold State.trap
  repeat' first
    | with_reducible exact Only.refl _ _
    | with_reducible assumption
    | with_reducible apply Only.ite
    | with_reducible apply Only.foldl
    | with_reducible apply Only.fst_ite
    | with_reducible apply Only.snd_ite
    | with_reducible apply State.setBlob_only
    | with_reducible apply State.raise_only
    | decide
    | intro _ _
    | intro _
    | dsimp only
    | split

theorem execEngineTrap_only {M : Nat} {origin : State} (e : EngineId) (thread : Fin 4) (cause address : BitVec 32) (s : State) (frame : Only M origin s) (inMask : 0x140000000000000004 ||| M = M) : Ends M origin (execEngineTrap e thread cause address s) := by
  refine Ends.step frame (G := 0x140000000000000004) ?_ inMask
  unfold execEngineTrap
  repeat' first
    | with_reducible exact Only.refl _ _
    | with_reducible assumption
    | with_reducible apply Only.ite
    | with_reducible apply Only.foldl
    | with_reducible apply Only.fst_ite
    | with_reducible apply Only.snd_ite
    | with_reducible apply State.trap_only
    | with_reducible apply Ends.next
    | with_reducible apply Ends.ite
    | decide
    | intro _ _
    | intro _
    | dsimp only
    | split

theorem execThreadTimerExpiry_only {M : Nat} {origin : State} (e : EngineId) (thread : Fin 4) (s : State) (frame : Only M origin s) (inMask : 0x400000000000000000002 ||| M = M) : Ends M origin (execThreadTimerExpiry e thread s) := by
  refine Ends.step frame (G := 0x400000000000000000002) ?_ inMask
  unfold execThreadTimerExpiry
  repeat' first
    | with_reducible exact Only.refl _ _
    | with_reducible assumption
    | with_reducible apply Only.ite
    | with_reducible apply Only.foldl
    | with_reducible apply Only.fst_ite
    | with_reducible apply Only.snd_ite
    | with_reducible apply State.sendEvent_only
    | with_reducible apply Ends.next
    | with_reducible apply Ends.ite
    | decide
    | intro _ _
    | intro _
    | dsimp only
    | split

theorem execImageLoadComplete_only {M : Nat} {origin : State} (e : EngineId) (digestOk : Bool) (s : State) (frame : Only M origin s) (inMask : 0x400000000000000000002 ||| M = M) : Ends M origin (execImageLoadComplete e digestOk s) := by
  refine Ends.step frame (G := 0x400000000000000000002) ?_ inMask
  unfold execImageLoadComplete
  repeat' first
    | with_reducible exact Only.refl _ _
    | with_reducible assumption
    | with_reducible apply Only.ite
    | with_reducible apply Only.foldl
    | with_reducible apply Only.fst_ite
    | with_reducible apply Only.snd_ite
    | with_reducible apply State.setEngine_only
    | with_reducible apply State.setNat_only
    | with_reducible apply State.judgeSubstitutes_only
    | with_reducible apply Ends.next
    | with_reducible apply Ends.ite
    | decide
    | intro _ _
    | intro _
    | dsimp only
    | split

theorem State.countSlots_only {M : Nat} {origin : State} (s : State) (e : Nat × Nat) (frame : Only M origin s) (inMask : 0x3400000000000000000002 ||| M = M) : Only M origin (State.countSlots s e) := by
  refine Only.step frame (G := 0x3400000000000000000002) ?_ inMask
  unfold State.countSlots
  repeat' first
    | with_reducible exact Only.refl _ _
    | with_reducible assumption
    | with_reducible apply Only.ite
    | with_reducible apply Only.foldl
    | with_reducible apply Only.fst_ite
    | with_reducible apply Only.snd_ite
    | with_reducible apply State.perfAdd_only
    | decide
    | intro _ _
    | intro _
    | dsimp only
    | split

theorem State.sampleCounters_only {M : Nat} {origin : State} (s : State) (frame : Only M origin s) (inMask : 0x2 ||| M = M) : Only M origin (State.sampleCounters s) := by
  refine Only.step frame (G := 0x2) ?_ inMask
  unfold State.sampleCounters
  repeat' first
    | with_reducible exact Only.refl _ _
    | with_reducible assumption
    | with_reducible apply Only.ite
    | with_reducible apply Only.foldl
    | with_reducible apply Only.fst_ite
    | with_reducible apply Only.snd_ite
    | with_reducible apply State.setNat_only
    | decide
    | intro _ _
    | intro _
    | dsimp only
    | split

theorem State.programMonitor_only {M : Nat} {origin : State} (s : State) (m : Nat) (frame : Only M origin s) (inMask : 0x180000000000000000000000 ||| M = M) : Only M origin (State.programMonitor s m) := by
  refine Only.step frame (G := 0x180000000000000000000000) ?_ inMask
  unfold State.programMonitor
  repeat' first
    | with_reducible exact Only.refl _ _
    | with_reducible assumption
    | with_reducible apply Only.ite
    | with_reducible apply Only.foldl
    | with_reducible apply Only.fst_ite
    | with_reducible apply Only.snd_ite
    | decide
    | intro _ _
    | intro _
    | dsimp only
    | split
    | with_reducible apply Only.upd_monitors_monitorFirst

theorem State.clearPerf_only {M : Nat} {origin : State} (s : State) (frame : Only M origin s) (inMask : 0x1000000000000000000000 ||| M = M) : Only M origin (State.clearPerf s) := by
  refine Only.step frame (G := 0x1000000000000000000000) ?_ inMask
  unfold State.clearPerf
  repeat' first
    | with_reducible exact Only.refl _ _
    | with_reducible assumption
    | with_reducible apply Only.ite
    | with_reducible apply Only.foldl
    | with_reducible apply Only.fst_ite
    | with_reducible apply Only.snd_ite
    | decide
    | intro _ _
    | intro _
    | dsimp only
    | split
    | with_reducible apply Only.upd_perf

theorem State.applyReprogram_only {M : Nat} {origin : State} (s : State) (frame : Only M origin s) (inMask : 0x1c5000000000000000000002 ||| M = M) : Only M origin (State.applyReprogram s) := by
  refine Only.step frame (G := 0x1c5000000000000000000002) ?_ inMask
  unfold State.applyReprogram
  repeat' first
    | with_reducible exact Only.refl _ _
    | with_reducible assumption
    | with_reducible apply Only.ite
    | with_reducible apply Only.foldl
    | with_reducible apply Only.fst_ite
    | with_reducible apply Only.snd_ite
    | with_reducible apply State.programMonitor_only
    | with_reducible apply State.clearPerf_only
    | with_reducible apply State.setNat_only
    | decide
    | intro _ _
    | intro _
    | dsimp only
    | split
    | with_reducible apply Only.upd_monitorPending_clearPending

theorem State.sampleRegions_only {M : Nat} {origin : State} (s : State) (frame : Only M origin s) (inMask : 0x19000000000000000000002 ||| M = M) : Only M origin (State.sampleRegions s) := by
  refine Only.step frame (G := 0x19000000000000000000002) ?_ inMask
  unfold State.sampleRegions
  repeat' first
    | with_reducible exact Only.refl _ _
    | with_reducible assumption
    | with_reducible apply Only.ite
    | with_reducible apply Only.foldl
    | with_reducible apply Only.fst_ite
    | with_reducible apply Only.snd_ite
    | with_reducible apply State.sampleRegion_only
    | decide
    | intro _ _
    | intro _
    | dsimp only
    | split
    | with_reducible apply Only.upd_regionSample_regionClear

theorem execEpochBoundary_only {M : Nat} {origin : State} (elapsed : List (Nat × Nat)) (s : State) (frame : Only M origin s) (inMask : 0x1ff400000000000000000002 ||| M = M) : Ends M origin (execEpochBoundary elapsed s) := by
  refine Ends.step frame (G := 0x1ff400000000000000000002) ?_ inMask
  unfold execEpochBoundary
  repeat' first
    | with_reducible exact Only.refl _ _
    | with_reducible assumption
    | with_reducible apply Only.ite
    | with_reducible apply Only.foldl
    | with_reducible apply Only.fst_ite
    | with_reducible apply Only.snd_ite
    | with_reducible apply State.countSlots_only
    | with_reducible apply State.sampleCounters_only
    | with_reducible apply State.sampleRegions_only
    | with_reducible apply State.setNat_only
    | with_reducible apply State.applyReprogram_only
    | with_reducible apply Ends.next
    | with_reducible apply Ends.ite
    | decide
    | intro _ _
    | intro _
    | dsimp only
    | split
    | with_reducible apply Only.upd_epochAt

theorem State.counterWraps_only {M : Nat} {origin : State} (s : State) (bit : Nat) (frame : Only M origin s) (inMask : 0x3400000000000000000002 ||| M = M) : Only M origin (State.counterWraps s bit) := by
  refine Only.step frame (G := 0x3400000000000000000002) ?_ inMask
  unfold State.counterWraps
  repeat' first
    | with_reducible exact Only.refl _ _
    | with_reducible assumption
    | with_reducible apply Only.ite
    | with_reducible apply Only.foldl
    | with_reducible apply Only.fst_ite
    | with_reducible apply Only.snd_ite
    | with_reducible apply State.perfAdd_only
    | decide
    | intro _ _
    | intro _
    | dsimp only
    | split

theorem execCounterWrap_only {M : Nat} {origin : State} (bit : Fin 672) (s : State) (frame : Only M origin s) (inMask : 0x3400000000000000000002 ||| M = M) : Ends M origin (execCounterWrap bit s) := by
  refine Ends.step frame (G := 0x3400000000000000000002) ?_ inMask
  unfold execCounterWrap
  repeat' first
    | with_reducible exact Only.refl _ _
    | with_reducible assumption
    | with_reducible apply Only.ite
    | with_reducible apply Only.foldl
    | with_reducible apply Only.fst_ite
    | with_reducible apply Only.snd_ite
    | with_reducible apply State.counterWraps_only
    | with_reducible apply Ends.next
    | with_reducible apply Ends.ite
    | decide
    | intro _ _
    | intro _
    | dsimp only
    | split

theorem execClearCounters_only {M : Nat} {origin : State} (role : Role) (s : State) (frame : Only M origin s) (inMask : 0x400000000000000000001a ||| M = M) : Ends M origin (execClearCounters role s) := by
  refine Ends.step frame (G := 0x400000000000000000001a) ?_ inMask
  unfold execClearCounters
  repeat' first
    | with_reducible exact Only.refl _ _
    | with_reducible assumption
    | with_reducible apply Only.ite
    | with_reducible apply Only.foldl
    | with_reducible apply Only.fst_ite
    | with_reducible apply Only.snd_ite
    | with_reducible apply State.hostWrite_only
    | with_reducible apply State.setNat_only
    | with_reducible apply State.done_only
    | with_reducible apply Ends.next
    | with_reducible apply Ends.ite
    | decide
    | intro _ _
    | intro _
    | dsimp only
    | split
    | with_reducible apply Only.upd_clearPending

theorem execOverflowMapClear_only {M : Nat} {origin : State} (role : Role) (mask : BitVec 768) (wrapping : List (Fin 672)) (s : State) (frame : Only M origin s) (inMask : 0x340000000000000000001a ||| M = M) : Ends M origin (execOverflowMapClear role mask wrapping s) := by
  refine Ends.step frame (G := 0x340000000000000000001a) ?_ inMask
  unfold execOverflowMapClear
  repeat' first
    | with_reducible exact Only.refl _ _
    | with_reducible assumption
    | with_reducible apply Only.ite
    | with_reducible apply Only.foldl
    | with_reducible apply Only.fst_ite
    | with_reducible apply Only.snd_ite
    | with_reducible apply State.hostWrite_only
    | with_reducible apply State.counterWraps_only
    | with_reducible apply State.done_only
    | with_reducible apply Ends.next
    | with_reducible apply Ends.ite
    | decide
    | intro _ _
    | intro _
    | dsimp only
    | split
    | with_reducible apply Only.upd_overflow

theorem execMonitorSample_only {M : Nat} {origin : State} (m : MonitorId) (s : State) (frame : Only M origin s) (inMask : 0x103400000000000000000002 ||| M = M) : Ends M origin (execMonitorSample m s) := by
  refine Ends.step frame (G := 0x103400000000000000000002) ?_ inMask
  unfold execMonitorSample
  repeat' first
    | with_reducible exact Only.refl _ _
    | with_reducible assumption
    | with_reducible apply Only.ite
    | with_reducible apply Only.foldl
    | with_reducible apply Only.fst_ite
    | with_reducible apply Only.snd_ite
    | with_reducible apply State.setNat_only
    | with_reducible apply State.perfAdd_only
    | with_reducible apply State.sendEvent_only
    | with_reducible apply Ends.next
    | with_reducible apply Ends.ite
    | decide
    | intro _ _
    | intro _
    | dsimp only
    | split
    | with_reducible apply Only.upd_monitorFirst

end Sys2Proof.Machine
end

