-- ==== Sys2Proof/Laws/Frames/Security.lean ====
section
/-! SUPPORT. What each operation of Machine/Security.lean leaves as it was: the frame of every one. -/

set_option linter.unusedTactic false
set_option linter.unreachableTactic false

namespace Sys2Proof.Machine

open Host (Outcome)

theorem State.startBurn_only {M : Nat} {origin : State} (s : State) (code : Nat) (digest0 digest1 : List Byte) (frame : Only M origin s) (inMask : 0x20000000000000000000001a ||| M = M) : Only M origin (State.startBurn s code digest0 digest1) := by
  refine Only.step frame (G := 0x20000000000000000000001a) ?_ inMask
  unfold State.startBurn
  repeat' first
    | with_reducible exact Only.refl _ _
    | with_reducible assumption
    | with_reducible apply Only.ite
    | with_reducible apply Only.foldl
    | with_reducible apply Only.fst_ite
    | with_reducible apply Only.snd_ite
    | with_reducible apply State.setNat_only
    | with_reducible apply State.done_only
    | decide
    | intro _ _
    | intro _
    | dsimp only
    | split
    | with_reducible apply Only.upd_security

theorem State.lifecycleCommand_only {M : Nat} {origin : State} (s : State) (n code confirmation : Nat) (digest0 digest1 : List Byte) (frame : Only M origin s) (inMask : 0x20000000000000000000001a ||| M = M) : Only M origin (State.lifecycleCommand s n code confirmation digest0 digest1) := by
  refine Only.step frame (G := 0x20000000000000000000001a) ?_ inMask
  unfold State.lifecycleCommand
  repeat' first
    | with_reducible exact Only.refl _ _
    | with_reducible assumption
    | with_reducible apply Only.ite
    | with_reducible apply Only.foldl
    | with_reducible apply Only.fst_ite
    | with_reducible apply Only.snd_ite
    | with_reducible apply State.answer_only
    | with_reducible apply State.startBurn_only
    | with_reducible apply State.setNat_only
    | with_reducible apply State.done_only
    | with_reducible apply State.ruleRefused_only
    | decide
    | intro _ _
    | intro _
    | dsimp only
    | split
    | with_reducible apply Only.upd_security

theorem execToProvisioned_only {M : Nat} {origin : State} (sn : SessionId) (confirmation : BitVec 32) (digest0 digest1 : List Byte) (s : State) (frame : Only M origin s) (inMask : 0x20000000000000000000001a ||| M = M) : Ends M origin (execToProvisioned sn confirmation digest0 digest1 s) := by
  refine Ends.step frame (G := 0x20000000000000000000001a) ?_ inMask
  unfold execToProvisioned
  repeat' first
    | with_reducible exact Only.refl _ _
    | with_reducible assumption
    | with_reducible apply Only.ite
    | with_reducible apply Only.foldl
    | with_reducible apply Only.fst_ite
    | with_reducible apply Only.snd_ite
    | with_reducible apply State.lifecycleCommand_only
    | with_reducible apply Ends.next
    | with_reducible apply Ends.ite
    | decide
    | intro _ _
    | intro _
    | dsimp only
    | split

theorem execToDeployed_only {M : Nat} {origin : State} (sn : SessionId) (confirmation : BitVec 32) (s : State) (frame : Only M origin s) (inMask : 0x20000000000000000000001a ||| M = M) : Ends M origin (execToDeployed sn confirmation s) := by
  refine Ends.step frame (G := 0x20000000000000000000001a) ?_ inMask
  unfold execToDeployed
  repeat' first
    | with_reducible exact Only.refl _ _
    | with_reducible assumption
    | with_reducible apply Only.ite
    | with_reducible apply Only.foldl
    | with_reducible apply Only.fst_ite
    | with_reducible apply Only.snd_ite
    | with_reducible apply State.lifecycleCommand_only
    | with_reducible apply Ends.next
    | with_reducible apply Ends.ite
    | decide
    | intro _ _
    | intro _
    | dsimp only
    | split

theorem execToDecommissioned_only {M : Nat} {origin : State} (sn : SessionId) (confirmation : BitVec 32) (s : State) (frame : Only M origin s) (inMask : 0x20000000000000000000001a ||| M = M) : Ends M origin (execToDecommissioned sn confirmation s) := by
  refine Ends.step frame (G := 0x20000000000000000000001a) ?_ inMask
  unfold execToDecommissioned
  repeat' first
    | with_reducible exact Only.refl _ _
    | with_reducible assumption
    | with_reducible apply Only.ite
    | with_reducible apply Only.foldl
    | with_reducible apply Only.fst_ite
    | with_reducible apply Only.snd_ite
    | with_reducible apply State.lifecycleCommand_only
    | with_reducible apply Ends.next
    | with_reducible apply Ends.ite
    | decide
    | intro _ _
    | intro _
    | dsimp only
    | split

theorem execRevokeOwnerSlot_only {M : Nat} {origin : State} (sn : SessionId) (confirmation : BitVec 32) (s : State) (frame : Only M origin s) (inMask : 0x20000000000000000000001a ||| M = M) : Ends M origin (execRevokeOwnerSlot sn confirmation s) := by
  refine Ends.step frame (G := 0x20000000000000000000001a) ?_ inMask
  unfold execRevokeOwnerSlot
  repeat' first
    | with_reducible exact Only.refl _ _
    | with_reducible assumption
    | with_reducible apply Only.ite
    | with_reducible apply Only.foldl
    | with_reducible apply Only.fst_ite
    | with_reducible apply Only.snd_ite
    | with_reducible apply State.lifecycleCommand_only
    | with_reducible apply Ends.next
    | with_reducible apply Ends.ite
    | decide
    | intro _ _
    | intro _
    | dsimp only
    | split

theorem execPendingCommandLapse_only {M : Nat} {origin : State} (s : State) (frame : Only M origin s) (inMask : 0x200000000000000000000002 ||| M = M) : Ends M origin (execPendingCommandLapse s) := by
  refine Ends.step frame (G := 0x200000000000000000000002) ?_ inMask
  unfold execPendingCommandLapse
  repeat' first
    | with_reducible exact Only.refl _ _
    | with_reducible assumption
    | with_reducible apply Only.ite
    | with_reducible apply Only.foldl
    | with_reducible apply Only.fst_ite
    | with_reducible apply Only.snd_ite
    | with_reducible apply State.setNat_only
    | with_reducible apply Ends.next
    | with_reducible apply Ends.ite
    | decide
    | intro _ _
    | intro _
    | dsimp only
    | split
    | with_reducible apply Only.upd_security

theorem execFuseBurnComplete_only {M : Nat} {origin : State} (run : StartRun) (s : State) (frame : Only M origin s) (inMask : 0x1fffffffffffffffffffffffe ||| M = M) : Ends M origin (execFuseBurnComplete run s) := by
  refine Ends.step frame (G := 0x1fffffffffffffffffffffffe) ?_ inMask
  unfold execFuseBurnComplete
  repeat' first
    | with_reducible exact Only.refl _ _
    | with_reducible assumption
    | with_reducible apply Only.ite
    | with_reducible apply Only.foldl
    | with_reducible apply Only.fst_ite
    | with_reducible apply Only.snd_ite
    | with_reducible apply State.beginCold_only
    | with_reducible apply Ends.next
    | with_reducible apply Ends.ite
    | decide
    | intro _ _
    | intro _
    | dsimp only
    | split
    | with_reducible apply Only.upd_security

theorem State.raiseFloor_only {M : Nat} {origin : State} (s : State) (sub version : Nat) (frame : Only M origin s) (inMask : 0x2 ||| M = M) : Only M origin (State.raiseFloor s sub version) := by
  refine Only.step frame (G := 0x2) ?_ inMask
  unfold State.raiseFloor
  repeat' first
    | with_reducible exact Only.refl _ _
    | with_reducible assumption
    | with_reducible apply Only.ite
    | with_reducible apply Only.foldl
    | with_reducible apply Only.fst_ite
    | with_reducible apply Only.snd_ite
    | with_reducible apply State.setNat_only
    | decide
    | intro _ _
    | intro _
    | dsimp only
    | split

theorem execRaiseBaseFloor_only {M : Nat} {origin : State} (role : Role) (s : State) (frame : Only M origin s) (inMask : 0x1a ||| M = M) : Ends M origin (execRaiseBaseFloor role s) := by
  refine Ends.step frame (G := 0x1a) ?_ inMask
  unfold execRaiseBaseFloor
  repeat' first
    | with_reducible exact Only.refl _ _
    | with_reducible assumption
    | with_reducible apply Only.ite
    | with_reducible apply Only.foldl
    | with_reducible apply Only.fst_ite
    | with_reducible apply Only.snd_ite
    | with_reducible apply State.hostWrite_only
    | with_reducible apply State.raiseFloor_only
    | with_reducible apply State.done_only
    | with_reducible apply Ends.next
    | with_reducible apply Ends.ite
    | decide
    | intro _ _
    | intro _
    | dsimp only
    | split

theorem execRaiseOwnerFloor_only {M : Nat} {origin : State} (role : Role) (s : State) (frame : Only M origin s) (inMask : 0x1a ||| M = M) : Ends M origin (execRaiseOwnerFloor role s) := by
  refine Ends.step frame (G := 0x1a) ?_ inMask
  unfold execRaiseOwnerFloor
  repeat' first
    | with_reducible exact Only.refl _ _
    | with_reducible assumption
    | with_reducible apply Only.ite
    | with_reducible apply Only.foldl
    | with_reducible apply Only.fst_ite
    | with_reducible apply Only.snd_ite
    | with_reducible apply State.hostWrite_only
    | with_reducible apply State.raiseFloor_only
    | with_reducible apply State.done_only
    | with_reducible apply State.ruleRefused_only
    | with_reducible apply Ends.next
    | with_reducible apply Ends.ite
    | decide
    | intro _ _
    | intro _
    | dsimp only
    | split

theorem State.readChallenge_only {M : Nat} {origin : State} (s : State) (frame : Only M origin s) (inMask : 0x200000000000000000000000 ||| M = M) : Only M origin (State.readChallenge s) := by
  refine Only.step frame (G := 0x200000000000000000000000) ?_ inMask
  unfold State.readChallenge
  repeat' first
    | with_reducible exact Only.refl _ _
    | with_reducible assumption
    | with_reducible apply Only.ite
    | with_reducible apply Only.foldl
    | with_reducible apply Only.fst_ite
    | with_reducible apply Only.snd_ite
    | decide
    | intro _ _
    | intro _
    | dsimp only
    | split
    | with_reducible apply Only.upd_security

theorem execDebugChallengeRead_only {M : Nat} {origin : State} (sn : SessionId) (s : State) (frame : Only M origin s) (inMask : 0x200000000000000000000018 ||| M = M) : Ends M origin (execDebugChallengeRead sn s) := by
  refine Ends.step frame (G := 0x200000000000000000000018) ?_ inMask
  unfold execDebugChallengeRead
  repeat' first
    | with_reducible exact Only.refl _ _
    | with_reducible assumption
    | with_reducible apply Only.ite
    | with_reducible apply Only.foldl
    | with_reducible apply Only.fst_ite
    | with_reducible apply Only.snd_ite
    | with_reducible apply State.answer_only
    | with_reducible apply State.readChallenge_only
    | with_reducible apply State.done_only
    | with_reducible apply Ends.next
    | with_reducible apply Ends.ite
    | decide
    | intro _ _
    | intro _
    | dsimp only
    | split

theorem State.grantDebug_only {M : Nat} {origin : State} (s : State) (by_ : List Nat) (frame : Only M origin s) (inMask : 0x20000000000000000000001a ||| M = M) : Only M origin (State.grantDebug s by_) := by
  refine Only.step frame (G := 0x20000000000000000000001a) ?_ inMask
  unfold State.grantDebug
  repeat' first
    | with_reducible exact Only.refl _ _
    | with_reducible assumption
    | with_reducible apply Only.ite
    | with_reducible apply Only.foldl
    | with_reducible apply Only.fst_ite
    | with_reducible apply Only.snd_ite
    | with_reducible apply State.setNat_only
    | with_reducible apply State.newChallenge_only
    | with_reducible apply State.done_only
    | decide
    | intro _ _
    | intro _
    | dsimp only
    | split
    | with_reducible apply Only.upd_security

theorem State.debugRespond_only {M : Nat} {origin : State} (s : State) (n k : Nat) (verifies : Bool) (frame : Only M origin s) (inMask : 0x20000000000000000000001a ||| M = M) : Only M origin (State.debugRespond s n k verifies) := by
  refine Only.step frame (G := 0x20000000000000000000001a) ?_ inMask
  unfold State.debugRespond
  repeat' first
    | with_reducible exact Only.refl _ _
    | with_reducible assumption
    | with_reducible apply Only.ite
    | with_reducible apply Only.foldl
    | with_reducible apply Only.fst_ite
    | with_reducible apply Only.snd_ite
    | with_reducible apply State.answer_only
    | with_reducible apply State.ruleRefused_only
    | with_reducible apply State.grantDebug_only
    | with_reducible apply State.setNat_only
    | with_reducible apply State.done_only
    | decide
    | intro _ _
    | intro _
    | dsimp only
    | split
    | with_reducible apply Only.upd_security

theorem execDebugResponse_only {M : Nat} {origin : State} (sn : SessionId) (slot : Nat) (verifies : Bool) (s : State) (frame : Only M origin s) (inMask : 0x20000000000000000000001a ||| M = M) : Ends M origin (execDebugResponse sn slot verifies s) := by
  refine Ends.step frame (G := 0x20000000000000000000001a) ?_ inMask
  unfold execDebugResponse
  repeat' first
    | with_reducible exact Only.refl _ _
    | with_reducible assumption
    | with_reducible apply Only.ite
    | with_reducible apply Only.foldl
    | with_reducible apply Only.fst_ite
    | with_reducible apply Only.snd_ite
    | with_reducible apply State.answer_only
    | with_reducible apply State.debugRespond_only
    | with_reducible apply Ends.next
    | with_reducible apply Ends.ite
    | decide
    | intro _ _
    | intro _
    | dsimp only
    | split

theorem execChallengeLapse_only {M : Nat} {origin : State} (s : State) (frame : Only M origin s) (inMask : 0x200000000000000000000002 ||| M = M) : Ends M origin (execChallengeLapse s) := by
  refine Ends.step frame (G := 0x200000000000000000000002) ?_ inMask
  unfold execChallengeLapse
  repeat' first
    | with_reducible exact Only.refl _ _
    | with_reducible assumption
    | with_reducible apply Only.ite
    | with_reducible apply Only.foldl
    | with_reducible apply Only.fst_ite
    | with_reducible apply Only.snd_ite
    | with_reducible apply State.newChallenge_only
    | with_reducible apply Ends.next
    | with_reducible apply Ends.ite
    | decide
    | intro _ _
    | intro _
    | dsimp only
    | split

theorem execGrantExpiry_only {M : Nat} {origin : State} (s : State) (frame : Only M origin s) (inMask : 0x200400000000000000000002 ||| M = M) : Ends M origin (execGrantExpiry s) := by
  refine Ends.step frame (G := 0x200400000000000000000002) ?_ inMask
  unfold execGrantExpiry
  repeat' first
    | with_reducible exact Only.refl _ _
    | with_reducible assumption
    | with_reducible apply Only.ite
    | with_reducible apply Only.foldl
    | with_reducible apply Only.fst_ite
    | with_reducible apply Only.snd_ite
    | with_reducible apply State.endGrant_only
    | with_reducible apply Ends.next
    | with_reducible apply Ends.ite
    | decide
    | intro _ _
    | intro _
    | dsimp only
    | split

theorem State.debugWrite_only {M : Nat} {origin : State} (s : State) (role : Role) (act : State → State)
    (frame : Only M origin s) (inMask : 0x18 ||| M = M) (h : ∀ a, Only M a (act a)) : Only M origin (State.debugWrite s role act) := by
  unfold State.debugWrite
  refine Only.ite (State.answer_only _ _ _ frame inMask) (Only.ite (State.answer_only _ _ _ frame inMask) ?_)
  exact frame.step (h s) (Nat.or_self M)


theorem execEndGrant_only {M : Nat} {origin : State} (role : Role) (s : State) (frame : Only M origin s) (inMask : 0x20040000000000000000001a ||| M = M) : Ends M origin (execEndGrant role s) := by
  refine Ends.step frame (G := 0x20040000000000000000001a) ?_ inMask
  unfold execEndGrant
  repeat' first
    | with_reducible exact Only.refl _ _
    | with_reducible assumption
    | with_reducible apply Only.ite
    | with_reducible apply Only.foldl
    | with_reducible apply Only.fst_ite
    | with_reducible apply Only.snd_ite
    | with_reducible apply State.debugWrite_only
    | with_reducible apply State.endGrant_only
    | with_reducible apply State.done_only
    | with_reducible apply Ends.next
    | with_reducible apply Ends.ite
    | decide
    | intro _ _
    | intro _
    | dsimp only
    | split

theorem execCloseOpen_only {M : Nat} {origin : State} (role : Role) (s : State) (frame : Only M origin s) (inMask : 0x20040000000000000000001a ||| M = M) : Ends M origin (execCloseOpen role s) := by
  refine Ends.step frame (G := 0x20040000000000000000001a) ?_ inMask
  unfold execCloseOpen
  repeat' first
    | with_reducible exact Only.refl _ _
    | with_reducible assumption
    | with_reducible apply Only.ite
    | with_reducible apply Only.foldl
    | with_reducible apply Only.fst_ite
    | with_reducible apply Only.snd_ite
    | with_reducible apply State.debugWrite_only
    | with_reducible apply State.setNat_only
    | with_reducible apply State.resumeThreads_only
    | with_reducible apply State.endGrant_only
    | with_reducible apply State.done_only
    | with_reducible apply Ends.next
    | with_reducible apply Ends.ite
    | decide
    | intro _ _
    | intro _
    | dsimp only
    | split

theorem State.haltThreads_only {M : Nat} {origin : State} (s : State) (e threads : Nat) (frame : Only M origin s) (inMask : 0x400000000000000000002 ||| M = M) : Only M origin (State.haltThreads s e threads) := by
  refine Only.step frame (G := 0x400000000000000000002) ?_ inMask
  unfold State.haltThreads
  repeat' first
    | with_reducible exact Only.refl _ _
    | with_reducible assumption
    | with_reducible apply Only.ite
    | with_reducible apply Only.foldl
    | with_reducible apply Only.fst_ite
    | with_reducible apply Only.snd_ite
    | with_reducible apply State.setEngine_only
    | with_reducible apply State.setNat_only
    | decide
    | intro _ _
    | intro _
    | dsimp only
    | split

theorem execProbeHalt_only {M : Nat} {origin : State} (e : EngineId) (threads : BitVec 4) (halt : Bool) (s : State) (frame : Only M origin s) (inMask : 0x400000000000000000002 ||| M = M) : Ends M origin (execProbeHalt e threads halt s) := by
  refine Ends.step frame (G := 0x400000000000000000002) ?_ inMask
  unfold execProbeHalt
  repeat' first
    | with_reducible exact Only.refl _ _
    | with_reducible assumption
    | with_reducible apply Only.ite
    | with_reducible apply Only.foldl
    | with_reducible apply Only.fst_ite
    | with_reducible apply Only.snd_ite
    | with_reducible apply State.haltThreads_only
    | with_reducible apply Ends.next
    | with_reducible apply Ends.ite
    | decide
    | intro _ _
    | intro _
    | dsimp only
    | split

theorem execProbeIntrusiveAccess_only {M : Nat} {origin : State} (e : EngineId) (address value : BitVec 32) (target : ProbeTarget) (s : State) (frame : Only M origin s) (inMask : 0x1000400000000000000000000 ||| M = M) : Ends M origin (execProbeIntrusiveAccess e address value target s) := by
  refine Ends.step frame (G := 0x1000400000000000000000000) ?_ inMask
  unfold execProbeIntrusiveAccess
  repeat' first
    | with_reducible exact Only.refl _ _
    | with_reducible assumption
    | with_reducible apply Only.ite
    | with_reducible apply Only.foldl
    | with_reducible apply Only.fst_ite
    | with_reducible apply Only.snd_ite
    | with_reducible apply State.setEngine_only
    | with_reducible apply Ends.next
    | with_reducible apply Ends.ite
    | decide
    | intro _ _
    | intro _
    | dsimp only
    | split
    | with_reducible apply Only.upd_shared

end Sys2Proof.Machine
end

