-- ==== Sys2Proof/Laws/Frames/Command.lean ====
section
/-! SUPPORT. What each operation of Machine/Command.lean leaves as it was: the frame of every one. -/

set_option linter.unusedTactic false
set_option linter.unreachableTactic false

namespace Sys2Proof.Machine

open Host (Outcome)

theorem State.clearSticky_only {M : Nat} {origin : State} (s : State) (idx sub v : Nat) (frame : Only M origin s) (inMask : 0x1a ||| M = M) : Only M origin (State.clearSticky s idx sub v) := by
  refine Only.step frame (G := 0x1a) ?_ inMask
  unfold State.clearSticky
  repeat' first
    | with_reducible exact Only.refl _ _
    | with_reducible assumption
    | with_reducible apply Only.ite
    | with_reducible apply Only.foldl
    | with_reducible apply Only.fst_ite
    | with_reducible apply Only.snd_ite
    | with_reducible apply State.setNat_only
    | with_reducible apply State.done_only
    | with_reducible apply Only.after
    | decide
    | intro _ _
    | intro _
    | dsimp only
    | split

theorem linkCommand_only {M : Nat} {origin : State} (s : State) (idx sub v : Nat) (b : List Byte) (role : Role) (draw : Nat) (frame : Only M origin s) (inMask : 0x5001707f4140000023fde ||| M = M) : Only M origin (linkCommand s idx sub v b role draw) := by
  refine Only.step frame (G := 0x5001707f4140000023fde) ?_ inMask
  unfold linkCommand
  repeat' first
    | with_reducible exact Only.refl _ _
    | with_reducible assumption
    | with_reducible apply Only.ite
    | with_reducible apply Only.foldl
    | with_reducible apply Only.fst_ite
    | with_reducible apply Only.snd_ite
    | with_reducible apply State.hostWrite_only
    | with_reducible apply State.answer_only
    | with_reducible apply State.writeRecord_only
    | with_reducible apply execReAdapt_only
    | with_reducible apply execRetryNow_only
    | with_reducible apply execQuietTransmit_only
    | with_reducible apply execQuietReceive_only
    | with_reducible apply execTestModeClear_only
    | with_reducible apply execTestModeSet_only
    | with_reducible apply execRereadModule_only
    | with_reducible apply execStatisticsClear_only
    | with_reducible apply execAcceptPresentDelay_only
    | with_reducible apply execAcceptProposal_only
    | with_reducible apply execCalibrateAsymmetry_only
    | with_reducible apply execAbortCalibration_only
    | with_reducible apply Only.after
    | decide
    | intro _ _
    | intro _
    | dsimp only
    | split

theorem timeCommand_only {M : Nat} {origin : State} (s : State) (idx sub v : Nat) (b : List Byte) (role : Role) (values : List OdValue) (frame : Only M origin s) (inMask : 0x35081507f7560018000ada ||| M = M) : Only M origin (timeCommand s idx sub v b role values) := by
  refine Only.step frame (G := 0x35081507f7560018000ada) ?_ inMask
  unfold timeCommand
  repeat' first
    | with_reducible exact Only.refl _ _
    | with_reducible assumption
    | with_reducible apply Only.ite
    | with_reducible apply Only.foldl
    | with_reducible apply Only.fst_ite
    | with_reducible apply Only.snd_ite
    | with_reducible apply State.setQueue_only
    | with_reducible apply State.done_only
    | with_reducible apply State.hostWrite_only
    | with_reducible apply State.setRequest_only
    | with_reducible apply execDrainTable_only
    | with_reducible apply execStep_only
    | with_reducible apply execSteeringOffsetWrite_only
    | with_reducible apply execMeasuredOffsetWrite_only
    | with_reducible apply execRealignImmediate_only
    | with_reducible apply execRealignSlewed_only
    | with_reducible apply execResetRing_only
    | with_reducible apply execPhaseAccept_only
    | with_reducible apply execSwap_only
    | with_reducible apply Only.after
    | decide
    | intro _ _
    | intro _
    | dsimp only
    | split

theorem fenceCommand_only {M : Nat} {origin : State} (s : State) (b : List Byte) (role : Role) (draw : Nat) (frame : Only M origin s) (inMask : 0xe40fffff07f7df3fa7ff3fde ||| M = M) : Only M origin (fenceCommand s b role draw) := by
  refine Only.step frame (G := 0xe40fffff07f7df3fa7ff3fde) ?_ inMask
  unfold fenceCommand
  repeat' first
    | with_reducible exact Only.refl _ _
    | with_reducible assumption
    | with_reducible apply Only.ite
    | with_reducible apply Only.foldl
    | with_reducible apply Only.fst_ite
    | with_reducible apply Only.snd_ite
    | with_reducible apply State.outOfRange_only
    | with_reducible apply execHostFence_only
    | with_reducible apply execFenceRelease_only
    | with_reducible apply Only.after
    | decide
    | intro _ _
    | intro _
    | dsimp only
    | split

theorem fuseCommand_only {M : Nat} {origin : State} (s : State) (n v : Nat) (values : List OdValue) (frame : Only M origin s) (inMask : 0x20000000000000000000001a ||| M = M) : Only M origin (fuseCommand s n v values) := by
  refine Only.step frame (G := 0x20000000000000000000001a) ?_ inMask
  unfold fuseCommand
  repeat' first
    | with_reducible exact Only.refl _ _
    | with_reducible assumption
    | with_reducible apply Only.ite
    | with_reducible apply Only.foldl
    | with_reducible apply Only.fst_ite
    | with_reducible apply Only.snd_ite
    | with_reducible apply State.lifecycleCommand_only
    | with_reducible apply Only.after
    | decide
    | intro _ _
    | intro _
    | dsimp only
    | split

theorem hubCommand_only {M : Nat} {origin : State} (s : State) (idx sub v : Nat) (b : List Byte) (w : Writer) (values : List OdValue) (draw : Nat) (frame : Only M origin s) (inMask : 0x1fffffffffffffffffffffffe ||| M = M) : Only M origin (hubCommand s idx sub v b w values draw) := by
  refine Only.step frame (G := 0x1fffffffffffffffffffffffe) ?_ inMask
  unfold hubCommand
  repeat' first
    | with_reducible exact Only.refl _ _
    | with_reducible assumption
    | with_reducible apply Only.ite
    | with_reducible apply Only.foldl
    | with_reducible apply Only.fst_ite
    | with_reducible apply Only.snd_ite
    | with_reducible apply State.done_only
    | with_reducible apply State.debugRespond_only
    | with_reducible apply execCalibrateNow_only
    | with_reducible apply execHandover_only
    | with_reducible apply execResync_only
    | with_reducible apply execReleaseCover_only
    | with_reducible apply execClearFirstFault_only
    | with_reducible apply execAcknowledge_only
    | with_reducible apply fenceCommand_only
    | with_reducible apply execOverflowMapClear_only
    | with_reducible apply execClearCounters_only
    | with_reducible apply fuseCommand_only
    | with_reducible apply execRaiseBaseFloor_only
    | with_reducible apply execRaiseOwnerFloor_only
    | with_reducible apply execEndGrant_only
    | with_reducible apply execCloseOpen_only
    | with_reducible apply execStartCommand_only
    | with_reducible apply execReleaseHold_only
    | with_reducible apply execImageSave_only
    | with_reducible apply execImageErase_only
    | with_reducible apply Only.after
    | decide
    | intro _ _
    | intro _
    | dsimp only
    | split

theorem hostCommand_only {M : Nat} {origin : State} (w : Writer) (values : List OdValue) (s : State) (v : OdValue) (frame : Only M origin s) (inMask : 0x1fffffffffffffffffffffffe ||| M = M) : Only M origin (hostCommand w values s v) := by
  refine Only.step frame (G := 0x1fffffffffffffffffffffffe) ?_ inMask
  unfold hostCommand
  repeat' first
    | with_reducible exact Only.refl _ _
    | with_reducible assumption
    | with_reducible apply Only.ite
    | with_reducible apply Only.foldl
    | with_reducible apply Only.fst_ite
    | with_reducible apply Only.snd_ite
    | with_reducible apply State.done_only
    | with_reducible apply State.clearSticky_only
    | with_reducible apply linkCommand_only
    | with_reducible apply timeCommand_only
    | with_reducible apply hubCommand_only
    | with_reducible apply Only.after
    | decide
    | intro _ _
    | intro _
    | dsimp only
    | split

end Sys2Proof.Machine
end

