-- ==== Sys2Proof/Laws/Frames/Views.lean ====
section
/-! SUPPORT. What each operation of Machine/Views.lean leaves as it was: the frame of every one. -/

set_option linter.unusedTactic false
set_option linter.unreachableTactic false

namespace Sys2Proof.Machine

open Host (Outcome)

theorem State.readEffect_only {M : Nat} {origin : State} (s : State) (e : OdEntry) (idx sub : Nat) (frame : Only M origin s) (inMask : 0x200000000000000000000002 ||| M = M) : Only M origin (State.readEffect s e idx sub) := by
  refine Only.step frame (G := 0x200000000000000000000002) ?_ inMask
  unfold State.readEffect
  repeat' first
    | with_reducible exact Only.refl _ _
    | with_reducible assumption
    | with_reducible apply Only.ite
    | with_reducible apply Only.foldl
    | with_reducible apply Only.fst_ite
    | with_reducible apply Only.snd_ite
    | with_reducible apply State.setNat_only
    | with_reducible apply State.setReg_only
    | with_reducible apply State.readChallenge_only
    | decide
    | intro _ _
    | intro _
    | dsimp only
    | split

theorem State.readAll_only {M : Nat} {origin : State} (s : State) (idx : Nat)
    (frame : Only M origin s) (inMask : 0x200000000000000000000002 ||| M = M) : Only M origin (State.readAll s idx).2 := by
  refine Only.step frame (G := 0x200000000000000000000002) ?_ inMask
  unfold State.readAll
  split
  · exact Only.refl _ _
  · dsimp only
    have all : ∀ {α β : Type} (f : α × State → β → α × State) (_ : ∀ a i, Only 0x200000000000000000000002 a.2 (f a i).2) (l : List β) (a : α × State),
        Only 0x200000000000000000000002 a.2 (l.foldl f a).2 := by
      intro α β f h l
      induction l with
      | nil => exact fun a => Only.refl _ _
      | cons i l ih => exact fun a => (h a i).step (ih _) (by decide)
    exact all _ (fun a p => State.readEffect_only _ _ _ _ (Only.refl _ _) (by decide)) _ ([], s)


theorem execProbeNonintrusiveAccess_only {M : Nat} {origin : State} (e : EngineId) (address : BitVec 32) (target : ProbeTarget) (s : State) (frame : Only M origin s) (inMask : 0x18 ||| M = M) : Ends M origin (execProbeNonintrusiveAccess e address target s) := by
  refine Ends.step frame (G := 0x18) ?_ inMask
  unfold execProbeNonintrusiveAccess
  repeat' first
    | with_reducible exact Only.refl _ _
    | with_reducible assumption
    | with_reducible apply Only.ite
    | with_reducible apply Only.foldl
    | with_reducible apply Only.fst_ite
    | with_reducible apply Only.snd_ite
    | with_reducible apply State.answer_only
    | with_reducible apply Ends.next
    | with_reducible apply Ends.ite
    | decide
    | intro _ _
    | intro _
    | dsimp only
    | split

end Sys2Proof.Machine
end

