-- ==== Sys2Proof/Laws/Frames/Requests.lean ====
section
/-! SUPPORT. What each operation of Machine/Requests.lean leaves as it was: the frame of every one. -/

set_option linter.unusedTactic false
set_option linter.unreachableTactic false

namespace Sys2Proof.Machine

open Host (Outcome)

theorem State.respond_only {M : Nat} {origin : State} (s : State) (n rid : Nat) (q : Quest) (r : Reply) (frame : Only M origin s) (inMask : 0x10000000000000000005a ||| M = M) : Only M origin (State.respond s n rid q r) := by
  refine Only.step frame (G := 0x10000000000000000005a) ?_ inMask
  unfold State.respond
  repeat' first
    | with_reducible exact Only.refl _ _
    | with_reducible assumption
    | with_reducible apply Only.ite
    | with_reducible apply Only.foldl
    | with_reducible apply Only.fst_ite
    | with_reducible apply Only.snd_ite
    | with_reducible apply State.sendTo_only
    | with_reducible apply State.setSession_only
    | with_reducible apply State.inc32_only
    | with_reducible apply State.answer_only
    | decide
    | intro _ _
    | intro _
    | dsimp only
    | split

theorem State.reply_only {M : Nat} {origin : State} (s : State) (n rid : Nat) (q : Quest) (r : Reply) (frame : Only M origin s) (inMask : 0x100000000000000000058 ||| M = M) : Only M origin (State.reply s n rid q r) := by
  refine Only.step frame (G := 0x100000000000000000058) ?_ inMask
  unfold State.reply
  repeat' first
    | with_reducible exact Only.refl _ _
    | with_reducible assumption
    | with_reducible apply Only.ite
    | with_reducible apply Only.foldl
    | with_reducible apply Only.fst_ite
    | with_reducible apply Only.snd_ite
    | with_reducible apply State.sendTo_only
    | with_reducible apply State.answer_only
    | decide
    | intro _ _
    | intro _
    | dsimp only
    | split

theorem State.turnAway_only {M : Nat} {origin : State} (s : State) (n rid : Nat) (q : Quest) (status detail : Nat) (frame : Only M origin s) (inMask : 0x100000000000000000058 ||| M = M) : Only M origin (State.turnAway s n rid q status detail) := by
  refine Only.step frame (G := 0x100000000000000000058) ?_ inMask
  unfold State.turnAway
  repeat' first
    | with_reducible exact Only.refl _ _
    | with_reducible assumption
    | with_reducible apply Only.ite
    | with_reducible apply Only.foldl
    | with_reducible apply Only.fst_ite
    | with_reducible apply Only.snd_ite
    | with_reducible apply State.reply_only
    | decide
    | intro _ _
    | intro _
    | dsimp only
    | split

theorem State.serve_only {M : Nat} {origin : State} (s : State) (rq : Request) (q : Quest) (last : Nat)
    (act : Route → State → State × Option Reply) (frame : Only M origin s) (inMask : 0x10000000000000000005a ||| M = M) (h : ∀ r a, Only M a (act r a).1) :
    Only M origin (State.serve s rq q last act) := by
  refine Only.step (G := M) frame ?_ (Nat.or_self M)
  have up : ∀ {s t : State}, Only 0x10000000000000000005a s t → Only M s t := fun a => a.mono inMask
  unfold State.serve
  dsimp only
  refine Only.ite (Only.refl _ _) (Only.ite (up (State.turnAway_only _ _ _ _ _ _ (Only.refl _ _) (by decide))) (Only.ite
    (up (State.inc32_only _ _ _ (State.turnAway_only _ _ _ _ _ _ (Only.refl _ _) (by decide)) (by decide))) ?_))
  split
  · exact up (State.answer_only _ _ _ (State.sendTo_only _ _ _ (State.setSession_only _ _ _ (Only.refl _ _) (by decide)) (by decide)) (by decide))
  · refine Only.ite (up (State.setSession_only _ _ _ (Only.refl _ _) (by decide))) ?_
    generalize h0 : State.inc32 (State.setSession _ _ _) _ _ = a
    have base : Only M s a := h0 ▸ up (State.inc32_only _ _ _ (State.setSession_only _ _ _ (Only.refl _ _) (by decide)) (by decide))
    refine Only.step (G := M) base ?_ (Nat.or_self M)
    refine Only.ite (up (State.respond_only _ _ _ _ _ (Only.refl _ _) (by decide))) ?_
    split
    · next e => exact (Only.of_fst e (h _ _)).step (up (State.respond_only _ _ _ _ _ (Only.refl _ _) (by decide))) (Nat.or_self M)
    · next e => exact Only.of_fst e (h _ _)


theorem State.readStart_only {M : Nat} {origin : State} (s : State) (n idx sub : Nat) (value : List Byte) (frame : Only M origin s) (inMask : 0x100000000000000000000 ||| M = M) : Only M origin (State.readStart s n idx sub value).1 := by
  refine Only.step frame (G := 0x100000000000000000000) ?_ inMask
  unfold State.readStart
  repeat' first
    | with_reducible exact Only.refl _ _
    | with_reducible assumption
    | with_reducible apply Only.ite
    | with_reducible apply Only.foldl
    | with_reducible apply Only.fst_ite
    | with_reducible apply Only.snd_ite
    | with_reducible apply State.setSession_only
    | decide
    | intro _ _
    | intro _
    | dsimp only
    | split

theorem State.readOn_only {M : Nat} {origin : State} (s : State) (n idx sub offset : Nat) (frame : Only M origin s) (inMask : 0x100000001c00000000002 ||| M = M) : Only M origin (State.readOn s n idx sub offset).1 := by
  refine Only.step frame (G := 0x100000001c00000000002) ?_ inMask
  unfold State.readOn
  repeat' first
    | with_reducible exact Only.refl _ _
    | with_reducible assumption
    | with_reducible apply Only.ite
    | with_reducible apply Only.foldl
    | with_reducible apply Only.fst_ite
    | with_reducible apply Only.snd_ite
    | with_reducible apply State.snapshot_only
    | with_reducible apply State.setSession_only
    | decide
    | intro _ _
    | intro _
    | dsimp only
    | split

theorem State.readRecords_only {M : Nat} {origin : State} (s : State) (n idx : Nat) (frame : Only M origin s) (inMask : 0x400001400000000002 ||| M = M) : Only M origin (State.readRecords s n idx).1 := by
  refine Only.step frame (G := 0x400001400000000002) ?_ inMask
  unfold State.readRecords
  repeat' first
    | with_reducible exact Only.refl _ _
    | with_reducible assumption
    | with_reducible apply Only.ite
    | with_reducible apply Only.foldl
    | with_reducible apply Only.fst_ite
    | with_reducible apply Only.snd_ite
    | with_reducible apply State.readRing_only
    | with_reducible (refine Only.of_snd (by assumption) ?_; apply State.readRing_only)
    | decide
    | intro _ _
    | intro _
    | dsimp only
    | split
    | with_reducible apply Only.upd_logRead

theorem State.readEntry_only {M : Nat} {origin : State} (s : State) (n idx sub offset : Nat) (frame : Only M origin s) (inMask : 0x200100400001c00000000002 ||| M = M) : Only M origin (State.readEntry s n idx sub offset).1 := by
  refine Only.step frame (G := 0x200100400001c00000000002) ?_ inMask
  unfold State.readEntry
  repeat' first
    | with_reducible exact Only.refl _ _
    | with_reducible assumption
    | with_reducible apply Only.ite
    | with_reducible apply Only.foldl
    | with_reducible apply Only.fst_ite
    | with_reducible apply Only.snd_ite
    | with_reducible apply State.readAll_only
    | with_reducible (refine Only.of_snd (by assumption) ?_; apply State.readAll_only)
    | with_reducible apply State.readEffect_only
    | with_reducible apply State.readRecords_only
    | with_reducible (refine Only.of_fst (by assumption) ?_; apply State.readRecords_only)
    | with_reducible apply State.readStart_only
    | with_reducible (refine Only.of_fst (by assumption) ?_; apply State.readStart_only)
    | with_reducible apply State.readOn_only
    | with_reducible (refine Only.of_fst (by assumption) ?_; apply State.readOn_only)
    | decide
    | intro _ _
    | intro _
    | dsimp only
    | split

theorem State.refusedWrite_only {M : Nat} {origin : State} (s : State) (idx sub : Nat) (bytes : List Byte) (r : Reply) (frame : Only M origin s) (inMask : 0x2 ||| M = M) : Only M origin (State.refusedWrite s idx sub bytes r).1 := by
  refine Only.step frame (G := 0x2) ?_ inMask
  unfold State.refusedWrite
  repeat' first
    | with_reducible exact Only.refl _ _
    | with_reducible assumption
    | with_reducible apply Only.ite
    | with_reducible apply Only.foldl
    | with_reducible apply Only.fst_ite
    | with_reducible apply Only.snd_ite
    | with_reducible apply State.setNat_only
    | decide
    | intro _ _
    | intro _
    | dsimp only
    | split

theorem State.takeSegment_only {M : Nat} {origin : State} (s : State) (n g idx sub offset : Nat) (first last : Bool) (bytes : List Byte) (frame : Only M origin s) (inMask : 0x100000000000000000000 ||| M = M) : Only M origin (State.takeSegment s n g idx sub offset first last bytes).1 := by
  refine Only.step frame (G := 0x100000000000000000000) ?_ inMask
  unfold State.takeSegment
  repeat' first
    | with_reducible exact Only.refl _ _
    | with_reducible assumption
    | with_reducible apply Only.ite
    | with_reducible apply Only.foldl
    | with_reducible apply Only.fst_ite
    | with_reducible apply Only.snd_ite
    | with_reducible apply State.setSession_only
    | decide
    | intro _ _
    | intro _
    | dsimp only
    | split

theorem State.takeValue_only {M : Nat} {origin : State} (s : State) (n g idx sub offset : Nat) (first last : Bool) (bytes : List Byte)
    (unwrapOk : Bool) (frame : Only M origin s) (inMask : 0x100000000000000000000 ||| M = M) :
    Only M origin (State.takeValue s n g idx sub offset first last bytes unwrapOk).1 := by
  refine Only.step frame (G := 0x100000000000000000000) ?_ inMask
  unfold State.takeValue
  split
  · exact Only.refl _ _
  · next e _ =>
    dsimp only
    have r : Only 0x100000000000000000000 s (if e.ty == .domain then s.takeSegment n g idx sub offset first last bytes else (s, .ok (some bytes))).1 :=
      Only.fst_ite (State.takeSegment_only _ _ _ _ _ _ _ _ _ (Only.refl _ _) (by decide)) (Only.refl _ _)
    generalize (if e.ty == .domain then s.takeSegment n g idx sub offset first last bytes else (s, .ok (some bytes))) = x at r ⊢
    split
    · split
      · exact r
      · exact Only.fst_ite r (Only.fst_ite r r)
    · exact r


theorem State.hold_only {M : Nat} {origin : State} (s : State) (n g idx sub offset : Nat) (first last : Bool) (bytes : List Byte) (unwrapOk : Bool) (frame : Only M origin s) (inMask : 0x100000000000000000002 ||| M = M) : Only M origin (State.hold s n g idx sub offset first last bytes unwrapOk).1 := by
  refine Only.step frame (G := 0x100000000000000000002) ?_ inMask
  unfold State.hold
  repeat' first
    | with_reducible exact Only.refl _ _
    | with_reducible assumption
    | with_reducible apply Only.ite
    | with_reducible apply Only.foldl
    | with_reducible apply Only.fst_ite
    | with_reducible apply Only.snd_ite
    | with_reducible apply State.refusedWrite_only
    | with_reducible (refine Only.of_fst (by assumption) ?_; apply State.refusedWrite_only)
    | with_reducible apply State.takeValue_only
    | with_reducible (refine Only.of_fst (by assumption) ?_; apply State.takeValue_only)
    | with_reducible apply State.setSession_only
    | decide
    | intro _ _
    | intro _
    | dsimp only
    | split

theorem State.claim_only {M : Nat} {origin : State} (s : State) (n first last : Nat) (frame : Only M origin s) (inMask : 0x100000000000000000000 ||| M = M) : Only M origin (State.claim s n first last).1 := by
  refine Only.step frame (G := 0x100000000000000000000) ?_ inMask
  unfold State.claim
  repeat' first
    | with_reducible exact Only.refl _ _
    | with_reducible assumption
    | with_reducible apply Only.ite
    | with_reducible apply Only.foldl
    | with_reducible apply Only.fst_ite
    | with_reducible apply Only.snd_ite
    | with_reducible apply State.setSession_only
    | decide
    | intro _ _
    | intro _
    | dsimp only
    | split

theorem State.release_only {M : Nat} {origin : State} (s : State) (n first last : Nat) (frame : Only M origin s) (inMask : 0x100000000000000000000 ||| M = M) : Only M origin (State.release s n first last).1 := by
  refine Only.step frame (G := 0x100000000000000000000) ?_ inMask
  unfold State.release
  repeat' first
    | with_reducible exact Only.refl _ _
    | with_reducible assumption
    | with_reducible apply Only.ite
    | with_reducible apply Only.foldl
    | with_reducible apply Only.fst_ite
    | with_reducible apply Only.snd_ite
    | with_reducible apply State.setSession_only
    | decide
    | intro _ _
    | intro _
    | dsimp only
    | split

theorem State.abort_only {M : Nat} {origin : State} (s : State) (n g : Nat) (frame : Only M origin s) (inMask : 0x100000000000000000000 ||| M = M) : Only M origin (State.abort s n g).1 := by
  refine Only.step frame (G := 0x100000000000000000000) ?_ inMask
  unfold State.abort
  repeat' first
    | with_reducible exact Only.refl _ _
    | with_reducible assumption
    | with_reducible apply Only.ite
    | with_reducible apply Only.foldl
    | with_reducible apply Only.fst_ite
    | with_reducible apply Only.snd_ite
    | with_reducible apply State.setSession_only
    | decide
    | intro _ _
    | intro _
    | dsimp only
    | split

theorem firmwareCommand_only {M : Nat} {origin : State} (w : Writer) (values : List OdValue) (issued : Nat) (s : State) (v : OdValue) (frame : Only M origin s) (inMask : 0x1fffffffffffffffffffffffe ||| M = M) : Only M origin (firmwareCommand w values issued s v) := by
  refine Only.step frame (G := 0x1fffffffffffffffffffffffe) ?_ inMask
  unfold firmwareCommand
  repeat' first
    | with_reducible exact Only.refl _ _
    | with_reducible assumption
    | with_reducible apply Only.ite
    | with_reducible apply Only.foldl
    | with_reducible apply Only.fst_ite
    | with_reducible apply Only.snd_ite
    | with_reducible apply State.answer_only
    | with_reducible apply State.setRequest_only
    | with_reducible apply execSteeringOffsetWrite_only
    | with_reducible apply hostCommand_only
    | with_reducible apply Only.after
    | decide
    | intro _ _
    | intro _
    | dsimp only
    | split

theorem State.firmwareOffset_only {M : Nat} {origin : State} (s : State) (v : OdValue) (frame : Only M origin s) (inMask : 0x1001407f0040000000242 ||| M = M) : Only M origin (State.firmwareOffset s v) := by
  refine Only.step frame (G := 0x1001407f0040000000242) ?_ inMask
  unfold State.firmwareOffset
  repeat' first
    | with_reducible exact Only.refl _ _
    | with_reducible assumption
    | with_reducible apply Only.ite
    | with_reducible apply Only.foldl
    | with_reducible apply Only.fst_ite
    | with_reducible apply Only.snd_ite
    | with_reducible apply State.slotOffsetSeen_only
    | with_reducible apply State.setNat_only
    | with_reducible apply State.refsUpdate_only
    | decide
    | intro _ _
    | intro _
    | dsimp only
    | split

theorem State.firmwareNow_only {M : Nat} {origin : State} (s : State) (values : List OdValue) (issued : Nat) (frame : Only M origin s) (inMask : 0x1fffffffffffffffffffffffe ||| M = M) : Only M origin (State.firmwareNow s values issued) := by
  refine Only.step frame (G := 0x1fffffffffffffffffffffffe) ?_ inMask
  unfold State.firmwareNow
  repeat' first
    | with_reducible exact Only.refl _ _
    | with_reducible assumption
    | with_reducible apply Only.ite
    | with_reducible apply Only.foldl
    | with_reducible apply Only.fst_ite
    | with_reducible apply Only.snd_ite
    | with_reducible apply State.firmwareOffset_only
    | with_reducible apply State.recordCommit_only
    | with_reducible apply State.refuseCommit_only
    | with_reducible apply State.answer_only
    | with_reducible apply State.commitNow_only
    | with_reducible apply firmwareCommand_only
    | decide
    | intro _ _
    | intro _
    | dsimp only
    | split

theorem State.firmwareWrite_only {M : Nat} {origin : State} (s : State) (values : List OdValue) (frame : Only M origin s) (inMask : 0x1fffffffffffffffffffffffe ||| M = M) : Only M origin (State.firmwareWrite s values) := by
  refine Only.step frame (G := 0x1fffffffffffffffffffffffe) ?_ inMask
  unfold State.firmwareWrite
  repeat' first
    | with_reducible exact Only.refl _ _
    | with_reducible assumption
    | with_reducible apply Only.ite
    | with_reducible apply Only.foldl
    | with_reducible apply Only.fst_ite
    | with_reducible apply Only.snd_ite
    | with_reducible apply State.firmwareNow_only
    | decide
    | intro _ _
    | intro _
    | dsimp only
    | split
    | with_reducible apply Only.upd_commits

theorem State.respondCommit_only {M : Nat} {origin : State} (s : State) (c : PendingCommit) (r : Reply) (frame : Only M origin s) (inMask : 0x10000000000000000005a ||| M = M) : Only M origin (State.respondCommit s c r) := by
  refine Only.step frame (G := 0x10000000000000000005a) ?_ inMask
  unfold State.respondCommit
  repeat' first
    | with_reducible exact Only.refl _ _
    | with_reducible assumption
    | with_reducible apply Only.ite
    | with_reducible apply Only.foldl
    | with_reducible apply Only.fst_ite
    | with_reducible apply Only.snd_ite
    | with_reducible apply State.setSession_only
    | with_reducible apply State.respond_only
    | decide
    | intro _ _
    | intro _
    | dsimp only
    | split

theorem State.tornWrite_only {M : Nat} {origin : State} (s : State) (v : OdValue) (f : Verdict) (frame : Only M origin s) (inMask : 0x104 ||| M = M) : Only M origin (State.tornWrite s v f) := by
  refine Only.step frame (G := 0x104) ?_ inMask
  unfold State.tornWrite
  repeat' first
    | with_reducible exact Only.refl _ _
    | with_reducible assumption
    | with_reducible apply Only.ite
    | with_reducible apply Only.foldl
    | with_reducible apply Only.fst_ite
    | with_reducible apply Only.snd_ite
    | with_reducible apply State.tearRecord_only
    | decide
    | intro _ _
    | intro _
    | dsimp only
    | split

theorem State.refuse_only {M : Nat} {origin : State} (s : State) (c : PendingCommit) (f : Verdict) (frame : Only M origin s) (inMask : 0x1fffffffffffffffffffffffe ||| M = M) : Only M origin (State.refuse s c f) := by
  refine Only.step frame (G := 0x1fffffffffffffffffffffffe) ?_ inMask
  unfold State.refuse
  repeat' first
    | with_reducible exact Only.refl _ _
    | with_reducible assumption
    | with_reducible apply Only.ite
    | with_reducible apply Only.foldl
    | with_reducible apply Only.fst_ite
    | with_reducible apply Only.snd_ite
    | with_reducible apply State.tornWrite_only
    | with_reducible apply State.refuseCommit_only
    | with_reducible apply State.setNat_only
    | with_reducible apply State.respondCommit_only
    | with_reducible apply hostCommand_only
    | decide
    | intro _ _
    | intro _
    | dsimp only
    | split

theorem State.internalNow_only {M : Nat} {origin : State} (s : State) (c : PendingCommit) (frame : Only M origin s) (inMask : 0x1fffffffffffffffffffffffe ||| M = M) : Only M origin (State.internalNow s c) := by
  refine Only.step frame (G := 0x1fffffffffffffffffffffffe) ?_ inMask
  unfold State.internalNow
  repeat' first
    | with_reducible exact Only.refl _ _
    | with_reducible assumption
    | with_reducible apply Only.ite
    | with_reducible apply Only.foldl
    | with_reducible apply Only.fst_ite
    | with_reducible apply Only.snd_ite
    | with_reducible apply State.firmwareNow_only
    | with_reducible apply State.takeMirror_only
    | with_reducible apply State.retryOne_only
    | decide
    | intro _ _
    | intro _
    | dsimp only
    | split

theorem State.takeTurns_only {M : Nat} {origin : State} (n : Nat) (s : State)
    (frame : Only M origin s) (inMask : 0x1fffffffffffffffffffffffe ||| M = M) : Only M origin (State.takeTurns n s) := by
  refine Only.step frame (G := 0x1fffffffffffffffffffffffe) ?_ inMask
  clear frame inMask
  induction n generalizing s with
  | zero => exact Only.refl _ _
  | succ n ih =>
    have ih' : ∀ {M : Nat} {origin s : State}, Only M origin s → 0x1fffffffffffffffffffffffe ||| M = M →
        Only M origin (State.takeTurns n s) := fun a b => a.step (ih _) b
    unfold State.takeTurns
    repeat' first
      | with_reducible exact Only.refl _ _
      | with_reducible assumption
      | with_reducible apply Only.ite
      | with_reducible apply Only.foldl
      | with_reducible apply Only.fst_ite
      | with_reducible apply Only.snd_ite
      | with_reducible apply State.internalNow_only
      | with_reducible apply State.refuse_only
      | with_reducible apply hostCommand_only
      | with_reducible apply ih'
      | decide
      | intro _ _
      | intro _
      | dsimp only
      | split
      | with_reducible apply Only.upd_commits


theorem State.enqueueCommit_only {M : Nat} {origin : State} (s : State) (c : PendingCommit) (frame : Only M origin s) (inMask : 0x1fffffffffffffffffffffffe ||| M = M) : Only M origin (State.enqueueCommit s c) := by
  refine Only.step frame (G := 0x1fffffffffffffffffffffffe) ?_ inMask
  unfold State.enqueueCommit
  repeat' first
    | with_reducible exact Only.refl _ _
    | with_reducible assumption
    | with_reducible apply Only.ite
    | with_reducible apply Only.foldl
    | with_reducible apply Only.fst_ite
    | with_reducible apply Only.snd_ite
    | with_reducible apply State.takeTurns_only
    | decide
    | intro _ _
    | intro _
    | dsimp only
    | split
    | with_reducible apply Only.upd_commits

theorem State.commitGroup_only {M : Nat} {origin : State} (s : State) (n rid g : Nat) (route : Route) (frame : Only M origin s) (inMask : 0x1fffffffffffffffffffffffe ||| M = M) : Only M origin (State.commitGroup s n rid g route).1 := by
  refine Only.step frame (G := 0x1fffffffffffffffffffffffe) ?_ inMask
  unfold State.commitGroup
  repeat' first
    | with_reducible exact Only.refl _ _
    | with_reducible assumption
    | with_reducible apply Only.ite
    | with_reducible apply Only.foldl
    | with_reducible apply Only.fst_ite
    | with_reducible apply Only.snd_ite
    | with_reducible apply State.setSession_only
    | with_reducible apply State.enqueueCommit_only
    | decide
    | intro _ _
    | intro _
    | dsimp only
    | split

theorem State.writeCommit_only {M : Nat} {origin : State} (s : State) (n rid idx sub offset : Nat) (first last : Bool) (bytes : List Byte) (unwrapOk : Bool) (route : Route) (frame : Only M origin s) (inMask : 0x1fffffffffffffffffffffffe ||| M = M) : Only M origin (State.writeCommit s n rid idx sub offset first last bytes unwrapOk route).1 := by
  refine Only.step frame (G := 0x1fffffffffffffffffffffffe) ?_ inMask
  unfold State.writeCommit
  repeat' first
    | with_reducible exact Only.refl _ _
    | with_reducible assumption
    | with_reducible apply Only.ite
    | with_reducible apply Only.foldl
    | with_reducible apply Only.fst_ite
    | with_reducible apply Only.snd_ite
    | with_reducible apply State.refusedWrite_only
    | with_reducible (refine Only.of_fst (by assumption) ?_; apply State.refusedWrite_only)
    | with_reducible apply State.takeValue_only
    | with_reducible (refine Only.of_fst (by assumption) ?_; apply State.takeValue_only)
    | with_reducible apply State.setSession_only
    | with_reducible apply State.enqueueCommit_only
    | decide
    | intro _ _
    | intro _
    | dsimp only
    | split

theorem State.closeTransports_only {M : Nat} {origin : State} (s : State) (l : List Nat) (frame : Only M origin s) (inMask : 0x300000000000000000006 ||| M = M) : Only M origin (State.closeTransports s l) := by
  refine Only.step frame (G := 0x300000000000000000006) ?_ inMask
  unfold State.closeTransports
  repeat' first
    | with_reducible exact Only.refl _ _
    | with_reducible assumption
    | with_reducible apply Only.ite
    | with_reducible apply Only.foldl
    | with_reducible apply Only.fst_ite
    | with_reducible apply Only.snd_ite
    | with_reducible apply State.closeSession_only
    | decide
    | intro _ _
    | intro _
    | dsimp only
    | split

theorem State.commitFront_only {M : Nat} {origin : State} (s : State) (c : PendingCommit) (frame : Only M origin s) (inMask : 0x1fffffffffffffffffffffffe ||| M = M) : Only M origin (State.commitFront s c) := by
  refine Only.step frame (G := 0x1fffffffffffffffffffffffe) ?_ inMask
  unfold State.commitFront
  repeat' first
    | with_reducible exact Only.refl _ _
    | with_reducible assumption
    | with_reducible apply Only.ite
    | with_reducible apply Only.foldl
    | with_reducible apply Only.fst_ite
    | with_reducible apply Only.snd_ite
    | with_reducible apply State.refuse_only
    | with_reducible apply State.commitNow_only
    | with_reducible apply State.setSession_only
    | with_reducible apply State.respondCommit_only
    | with_reducible apply State.closeTransports_only
    | with_reducible apply hostCommand_only
    | decide
    | intro _ _
    | intro _
    | dsimp only
    | split

end Sys2Proof.Machine
end

