-- ==== Sys2Proof/Laws/Frames/Server.lean ====
section
/-! SUPPORT. What each operation of Machine/Server.lean leaves as it was: the frame of every one. -/

set_option linter.unusedTactic false
set_option linter.unreachableTactic false

namespace Sys2Proof.Machine

open Host (Outcome)

theorem State.openAs_only {M : Nat} {origin : State} (s : State) (n state : Nat) (role : Role) (credential : Nat) (keyed : Bool) (route : Route) (frame : Only M origin s) (inMask : 0x100000000000000000006 ||| M = M) : Only M origin (State.openAs s n state role credential keyed route) := by
  refine Only.step frame (G := 0x100000000000000000006) ?_ inMask
  unfold State.openAs
  repeat' first
    | with_reducible exact Only.refl _ _
    | with_reducible assumption
    | with_reducible apply Only.ite
    | with_reducible apply Only.foldl
    | with_reducible apply Only.fst_ite
    | with_reducible apply Only.snd_ite
    | with_reducible apply State.setSession_only
    | with_reducible apply State.setNat_only
    | with_reducible apply State.setBlob_only
    | decide
    | intro _ _
    | intro _
    | dsimp only
    | split

theorem State.openFirst_only {M : Nat} {origin : State} (s : State) (rid : Nat) (role : Role) (credential : Nat) (route : Route) (frame : Only M origin s) (inMask : 0x10000000000000000005e ||| M = M) : Only M origin (State.openFirst s rid role credential route) := by
  refine Only.step frame (G := 0x10000000000000000005e) ?_ inMask
  unfold State.openFirst
  repeat' first
    | with_reducible exact Only.refl _ _
    | with_reducible assumption
    | with_reducible apply Only.ite
    | with_reducible apply Only.foldl
    | with_reducible apply Only.fst_ite
    | with_reducible apply Only.snd_ite
    | with_reducible apply State.turnAway_only
    | with_reducible apply State.answer_only
    | with_reducible apply State.openAs_only
    | with_reducible apply State.reply_only
    | decide
    | intro _ _
    | intro _
    | dsimp only
    | split

theorem State.openSecond_only {M : Nat} {origin : State} (s : State) (rid n : Nat) (signatureOk : Bool) (arrival : Arrival) (frame : Only M origin s) (inMask : 0x10000000000000000005a ||| M = M) : Only M origin (State.openSecond s rid n signatureOk arrival) := by
  refine Only.step frame (G := 0x10000000000000000005a) ?_ inMask
  unfold State.openSecond
  repeat' first
    | with_reducible exact Only.refl _ _
    | with_reducible assumption
    | with_reducible apply Only.ite
    | with_reducible apply Only.foldl
    | with_reducible apply Only.fst_ite
    | with_reducible apply Only.snd_ite
    | with_reducible apply State.turnAway_only
    | with_reducible apply State.setSession_only
    | with_reducible apply State.setNat_only
    | with_reducible apply State.reply_only
    | decide
    | intro _ _
    | intro _
    | dsimp only
    | split

theorem execOpenRequest_only {M : Nat} {origin : State} (transport : Fin 7) (role : Role) (credential : Nat) (peer : List Byte) (arrival : Arrival) (s : State) (frame : Only M origin s) (inMask : 0x10000000000000000005e ||| M = M) : Ends M origin (execOpenRequest transport role credential peer arrival s) := by
  refine Ends.step frame (G := 0x10000000000000000005e) ?_ inMask
  unfold execOpenRequest
  repeat' first
    | with_reducible exact Only.refl _ _
    | with_reducible assumption
    | with_reducible apply Only.ite
    | with_reducible apply Only.foldl
    | with_reducible apply Only.fst_ite
    | with_reducible apply Only.snd_ite
    | with_reducible apply State.openFirst_only
    | with_reducible apply Ends.next
    | with_reducible apply Ends.ite
    | decide
    | intro _ _
    | intro _
    | dsimp only
    | split

theorem execOpenConfirm_only {M : Nat} {origin : State} (sn : SessionId) (signatureOk : Bool) (arrival : Arrival) (s : State) (frame : Only M origin s) (inMask : 0x10000000000000000005a ||| M = M) : Ends M origin (execOpenConfirm sn signatureOk arrival s) := by
  refine Ends.step frame (G := 0x10000000000000000005a) ?_ inMask
  unfold execOpenConfirm
  repeat' first
    | with_reducible exact Only.refl _ _
    | with_reducible assumption
    | with_reducible apply Only.ite
    | with_reducible apply Only.foldl
    | with_reducible apply Only.fst_ite
    | with_reducible apply Only.snd_ite
    | with_reducible apply State.openSecond_only
    | with_reducible apply Ends.next
    | with_reducible apply Ends.ite
    | decide
    | intro _ _
    | intro _
    | dsimp only
    | split

theorem State.requestClose_only {M : Nat} {origin : State} (s : State) (rq : Request) (frame : Only M origin s) (inMask : 0x30000000000000000005e ||| M = M) : Only M origin (State.requestClose s rq) := by
  refine Only.step frame (G := 0x30000000000000000005e) ?_ inMask
  unfold State.requestClose
  repeat' first
    | with_reducible exact Only.refl _ _
    | with_reducible assumption
    | with_reducible apply Only.ite
    | with_reducible apply Only.foldl
    | with_reducible apply Only.fst_ite
    | with_reducible apply Only.snd_ite
    | with_reducible apply State.serve_only
    | with_reducible apply State.setNat_only
    | with_reducible apply State.closeSession_only
    | with_reducible apply State.setSession_only
    | decide
    | intro _ _
    | intro _
    | dsimp only
    | split

theorem execClose_only {M : Nat} {origin : State} (rq : Request) (s : State) (frame : Only M origin s) (inMask : 0x30000000000000000005e ||| M = M) : Ends M origin (execClose rq s) := by
  refine Ends.step frame (G := 0x30000000000000000005e) ?_ inMask
  unfold execClose
  repeat' first
    | with_reducible exact Only.refl _ _
    | with_reducible assumption
    | with_reducible apply Only.ite
    | with_reducible apply Only.foldl
    | with_reducible apply Only.fst_ite
    | with_reducible apply Only.snd_ite
    | with_reducible apply State.requestClose_only
    | with_reducible apply Ends.next
    | with_reducible apply Ends.ite
    | decide
    | intro _ _
    | intro _
    | dsimp only
    | split

theorem State.requestKeepalive_only {M : Nat} {origin : State} (s : State) (rq : Request) (frame : Only M origin s) (inMask : 0x10000000000000000005a ||| M = M) : Only M origin (State.requestKeepalive s rq) := by
  refine Only.step frame (G := 0x10000000000000000005a) ?_ inMask
  unfold State.requestKeepalive
  repeat' first
    | with_reducible exact Only.refl _ _
    | with_reducible assumption
    | with_reducible apply Only.ite
    | with_reducible apply Only.foldl
    | with_reducible apply Only.fst_ite
    | with_reducible apply Only.snd_ite
    | with_reducible apply State.serve_only
    | decide
    | intro _ _
    | intro _
    | dsimp only
    | split

theorem execKeepalive_only {M : Nat} {origin : State} (rq : Request) (s : State) (frame : Only M origin s) (inMask : 0x10000000000000000005a ||| M = M) : Ends M origin (execKeepalive rq s) := by
  refine Ends.step frame (G := 0x10000000000000000005a) ?_ inMask
  unfold execKeepalive
  repeat' first
    | with_reducible exact Only.refl _ _
    | with_reducible assumption
    | with_reducible apply Only.ite
    | with_reducible apply Only.foldl
    | with_reducible apply Only.fst_ite
    | with_reducible apply Only.snd_ite
    | with_reducible apply State.requestKeepalive_only
    | with_reducible apply Ends.next
    | with_reducible apply Ends.ite
    | decide
    | intro _ _
    | intro _
    | dsimp only
    | split

theorem State.requestRead_only {M : Nat} {origin : State} (s : State) (rq : Request) (idx sub offset : Nat) (frame : Only M origin s) (inMask : 0x200100400001c0000000005a ||| M = M) : Only M origin (State.requestRead s rq idx sub offset) := by
  refine Only.step frame (G := 0x200100400001c0000000005a) ?_ inMask
  unfold State.requestRead
  repeat' first
    | with_reducible exact Only.refl _ _
    | with_reducible assumption
    | with_reducible apply Only.ite
    | with_reducible apply Only.foldl
    | with_reducible apply Only.fst_ite
    | with_reducible apply Only.snd_ite
    | with_reducible apply State.serve_only
    | with_reducible apply State.readEntry_only
    | with_reducible (refine Only.of_fst (by assumption) ?_; apply State.readEntry_only)
    | decide
    | intro _ _
    | intro _
    | dsimp only
    | split

theorem execRead_only {M : Nat} {origin : State} (rq : Request) (index : BitVec 16) (sub : BitVec 8) (offset : Nat) (s : State) (frame : Only M origin s) (inMask : 0x200100400001c0000000005a ||| M = M) : Ends M origin (execRead rq index sub offset s) := by
  refine Ends.step frame (G := 0x200100400001c0000000005a) ?_ inMask
  unfold execRead
  repeat' first
    | with_reducible exact Only.refl _ _
    | with_reducible assumption
    | with_reducible apply Only.ite
    | with_reducible apply Only.foldl
    | with_reducible apply Only.fst_ite
    | with_reducible apply Only.snd_ite
    | with_reducible apply State.requestRead_only
    | with_reducible apply Ends.next
    | with_reducible apply Ends.ite
    | decide
    | intro _ _
    | intro _
    | dsimp only
    | split

theorem State.requestHold_only {M : Nat} {origin : State} (s : State) (rq : Request) (g idx sub offset : Nat) (first last : Bool) (bytes : List Byte) (unwrapOk : Bool) (frame : Only M origin s) (inMask : 0x10000000000000000005a ||| M = M) : Only M origin (State.requestHold s rq g idx sub offset first last bytes unwrapOk) := by
  refine Only.step frame (G := 0x10000000000000000005a) ?_ inMask
  unfold State.requestHold
  repeat' first
    | with_reducible exact Only.refl _ _
    | with_reducible assumption
    | with_reducible apply Only.ite
    | with_reducible apply Only.foldl
    | with_reducible apply Only.fst_ite
    | with_reducible apply Only.snd_ite
    | with_reducible apply State.serve_only
    | with_reducible apply State.hold_only
    | with_reducible (refine Only.of_fst (by assumption) ?_; apply State.hold_only)
    | decide
    | intro _ _
    | intro _
    | dsimp only
    | split

theorem execWriteAndHold_only {M : Nat} {origin : State} (rq : Request) (group : Fin 4) (index : BitVec 16) (sub : BitVec 8) (offset : Nat) (first last : Bool) (bytes : List Byte) (unwrapOk : Bool) (s : State) (frame : Only M origin s) (inMask : 0x10000000000000000005a ||| M = M) : Ends M origin (execWriteAndHold rq group index sub offset first last bytes unwrapOk s) := by
  refine Ends.step frame (G := 0x10000000000000000005a) ?_ inMask
  unfold execWriteAndHold
  repeat' first
    | with_reducible exact Only.refl _ _
    | with_reducible assumption
    | with_reducible apply Only.ite
    | with_reducible apply Only.foldl
    | with_reducible apply Only.fst_ite
    | with_reducible apply Only.snd_ite
    | with_reducible apply State.requestHold_only
    | with_reducible apply Ends.next
    | with_reducible apply Ends.ite
    | decide
    | intro _ _
    | intro _
    | dsimp only
    | split

theorem State.requestWrite_only {M : Nat} {origin : State} (s : State) (rq : Request) (idx sub offset : Nat) (first last : Bool) (bytes : List Byte) (unwrapOk : Bool) (frame : Only M origin s) (inMask : 0x1fffffffffffffffffffffffe ||| M = M) : Only M origin (State.requestWrite s rq idx sub offset first last bytes unwrapOk) := by
  refine Only.step frame (G := 0x1fffffffffffffffffffffffe) ?_ inMask
  unfold State.requestWrite
  repeat' first
    | with_reducible exact Only.refl _ _
    | with_reducible assumption
    | with_reducible apply Only.ite
    | with_reducible apply Only.foldl
    | with_reducible apply Only.fst_ite
    | with_reducible apply Only.snd_ite
    | with_reducible apply State.serve_only
    | with_reducible apply State.writeCommit_only
    | with_reducible (refine Only.of_fst (by assumption) ?_; apply State.writeCommit_only)
    | decide
    | intro _ _
    | intro _
    | dsimp only
    | split

theorem execWriteAndCommit_only {M : Nat} {origin : State} (rq : Request) (index : BitVec 16) (sub : BitVec 8) (offset : Nat) (first last : Bool) (bytes : List Byte) (unwrapOk : Bool) (s : State) (frame : Only M origin s) (inMask : 0x1fffffffffffffffffffffffe ||| M = M) : Ends M origin (execWriteAndCommit rq index sub offset first last bytes unwrapOk s) := by
  refine Ends.step frame (G := 0x1fffffffffffffffffffffffe) ?_ inMask
  unfold execWriteAndCommit
  repeat' first
    | with_reducible exact Only.refl _ _
    | with_reducible assumption
    | with_reducible apply Only.ite
    | with_reducible apply Only.foldl
    | with_reducible apply Only.fst_ite
    | with_reducible apply Only.snd_ite
    | with_reducible apply State.requestWrite_only
    | with_reducible apply Ends.next
    | with_reducible apply Ends.ite
    | decide
    | intro _ _
    | intro _
    | dsimp only
    | split

theorem State.requestCommit_only {M : Nat} {origin : State} (s : State) (rq : Request) (g : Nat) (frame : Only M origin s) (inMask : 0x1fffffffffffffffffffffffe ||| M = M) : Only M origin (State.requestCommit s rq g) := by
  refine Only.step frame (G := 0x1fffffffffffffffffffffffe) ?_ inMask
  unfold State.requestCommit
  repeat' first
    | with_reducible exact Only.refl _ _
    | with_reducible assumption
    | with_reducible apply Only.ite
    | with_reducible apply Only.foldl
    | with_reducible apply Only.fst_ite
    | with_reducible apply Only.snd_ite
    | with_reducible apply State.serve_only
    | with_reducible apply State.commitGroup_only
    | with_reducible (refine Only.of_fst (by assumption) ?_; apply State.commitGroup_only)
    | decide
    | intro _ _
    | intro _
    | dsimp only
    | split

theorem execCommit_only {M : Nat} {origin : State} (rq : Request) (group : Fin 4) (s : State) (frame : Only M origin s) (inMask : 0x1fffffffffffffffffffffffe ||| M = M) : Ends M origin (execCommit rq group s) := by
  refine Ends.step frame (G := 0x1fffffffffffffffffffffffe) ?_ inMask
  unfold execCommit
  repeat' first
    | with_reducible exact Only.refl _ _
    | with_reducible assumption
    | with_reducible apply Only.ite
    | with_reducible apply Only.foldl
    | with_reducible apply Only.fst_ite
    | with_reducible apply Only.snd_ite
    | with_reducible apply State.requestCommit_only
    | with_reducible apply Ends.next
    | with_reducible apply Ends.ite
    | decide
    | intro _ _
    | intro _
    | dsimp only
    | split

theorem State.requestAbort_only {M : Nat} {origin : State} (s : State) (rq : Request) (g : Nat) (frame : Only M origin s) (inMask : 0x10000000000000000005a ||| M = M) : Only M origin (State.requestAbort s rq g) := by
  refine Only.step frame (G := 0x10000000000000000005a) ?_ inMask
  unfold State.requestAbort
  repeat' first
    | with_reducible exact Only.refl _ _
    | with_reducible assumption
    | with_reducible apply Only.ite
    | with_reducible apply Only.foldl
    | with_reducible apply Only.fst_ite
    | with_reducible apply Only.snd_ite
    | with_reducible apply State.serve_only
    | with_reducible apply State.abort_only
    | with_reducible (refine Only.of_fst (by assumption) ?_; apply State.abort_only)
    | decide
    | intro _ _
    | intro _
    | dsimp only
    | split

theorem execAbortGroup_only {M : Nat} {origin : State} (rq : Request) (group : Fin 4) (s : State) (frame : Only M origin s) (inMask : 0x10000000000000000005a ||| M = M) : Ends M origin (execAbortGroup rq group s) := by
  refine Ends.step frame (G := 0x10000000000000000005a) ?_ inMask
  unfold execAbortGroup
  repeat' first
    | with_reducible exact Only.refl _ _
    | with_reducible assumption
    | with_reducible apply Only.ite
    | with_reducible apply Only.foldl
    | with_reducible apply Only.fst_ite
    | with_reducible apply Only.snd_ite
    | with_reducible apply State.requestAbort_only
    | with_reducible apply Ends.next
    | with_reducible apply Ends.ite
    | decide
    | intro _ _
    | intro _
    | dsimp only
    | split

theorem State.requestClaim_only {M : Nat} {origin : State} (s : State) (rq : Request) (first last : Nat) (frame : Only M origin s) (inMask : 0x10000000000000000005a ||| M = M) : Only M origin (State.requestClaim s rq first last) := by
  refine Only.step frame (G := 0x10000000000000000005a) ?_ inMask
  unfold State.requestClaim
  repeat' first
    | with_reducible exact Only.refl _ _
    | with_reducible assumption
    | with_reducible apply Only.ite
    | with_reducible apply Only.foldl
    | with_reducible apply Only.fst_ite
    | with_reducible apply Only.snd_ite
    | with_reducible apply State.serve_only
    | with_reducible apply State.claim_only
    | with_reducible (refine Only.of_fst (by assumption) ?_; apply State.claim_only)
    | decide
    | intro _ _
    | intro _
    | dsimp only
    | split

theorem execClaim_only {M : Nat} {origin : State} (rq : Request) (first last : BitVec 16) (s : State) (frame : Only M origin s) (inMask : 0x10000000000000000005a ||| M = M) : Ends M origin (execClaim rq first last s) := by
  refine Ends.step frame (G := 0x10000000000000000005a) ?_ inMask
  unfold execClaim
  repeat' first
    | with_reducible exact Only.refl _ _
    | with_reducible assumption
    | with_reducible apply Only.ite
    | with_reducible apply Only.foldl
    | with_reducible apply Only.fst_ite
    | with_reducible apply Only.snd_ite
    | with_reducible apply State.requestClaim_only
    | with_reducible apply Ends.next
    | with_reducible apply Ends.ite
    | decide
    | intro _ _
    | intro _
    | dsimp only
    | split

theorem State.requestRelease_only {M : Nat} {origin : State} (s : State) (rq : Request) (first last : Nat) (frame : Only M origin s) (inMask : 0x10000000000000000005a ||| M = M) : Only M origin (State.requestRelease s rq first last) := by
  refine Only.step frame (G := 0x10000000000000000005a) ?_ inMask
  unfold State.requestRelease
  repeat' first
    | with_reducible exact Only.refl _ _
    | with_reducible assumption
    | with_reducible apply Only.ite
    | with_reducible apply Only.foldl
    | with_reducible apply Only.fst_ite
    | with_reducible apply Only.snd_ite
    | with_reducible apply State.serve_only
    | with_reducible apply State.release_only
    | with_reducible (refine Only.of_fst (by assumption) ?_; apply State.release_only)
    | decide
    | intro _ _
    | intro _
    | dsimp only
    | split

theorem execRelease_only {M : Nat} {origin : State} (rq : Request) (first last : BitVec 16) (s : State) (frame : Only M origin s) (inMask : 0x10000000000000000005a ||| M = M) : Ends M origin (execRelease rq first last s) := by
  refine Ends.step frame (G := 0x10000000000000000005a) ?_ inMask
  unfold execRelease
  repeat' first
    | with_reducible exact Only.refl _ _
    | with_reducible assumption
    | with_reducible apply Only.ite
    | with_reducible apply Only.foldl
    | with_reducible apply Only.fst_ite
    | with_reducible apply Only.snd_ite
    | with_reducible apply State.requestRelease_only
    | with_reducible apply Ends.next
    | with_reducible apply Ends.ite
    | decide
    | intro _ _
    | intro _
    | dsimp only
    | split

theorem execFaultRecordsRead_only {M : Nat} {origin : State} (rq : Request) (s : State) (frame : Only M origin s) (inMask : 0x200100400001c0000000005a ||| M = M) : Ends M origin (execFaultRecordsRead rq s) := by
  refine Ends.step frame (G := 0x200100400001c0000000005a) ?_ inMask
  unfold execFaultRecordsRead
  repeat' first
    | with_reducible exact Only.refl _ _
    | with_reducible assumption
    | with_reducible apply Only.ite
    | with_reducible apply Only.foldl
    | with_reducible apply Only.fst_ite
    | with_reducible apply Only.snd_ite
    | with_reducible apply State.requestRead_only
    | with_reducible apply Ends.next
    | with_reducible apply Ends.ite
    | decide
    | intro _ _
    | intro _
    | dsimp only
    | split

theorem execCaptureRingRead_only {M : Nat} {origin : State} (rq : Request) (s : State) (frame : Only M origin s) (inMask : 0x200100400001c0000000005a ||| M = M) : Ends M origin (execCaptureRingRead rq s) := by
  refine Ends.step frame (G := 0x200100400001c0000000005a) ?_ inMask
  unfold execCaptureRingRead
  repeat' first
    | with_reducible exact Only.refl _ _
    | with_reducible assumption
    | with_reducible apply Only.ite
    | with_reducible apply Only.foldl
    | with_reducible apply Only.fst_ite
    | with_reducible apply Only.snd_ite
    | with_reducible apply State.requestRead_only
    | with_reducible apply Ends.next
    | with_reducible apply Ends.ite
    | decide
    | intro _ _
    | intro _
    | dsimp only
    | split

theorem execCommitPoint_only {M : Nat} {origin : State} (s : State) (frame : Only M origin s) (inMask : 0x1fffffffffffffffffffffffe ||| M = M) : Ends M origin (execCommitPoint s) := by
  refine Ends.step frame (G := 0x1fffffffffffffffffffffffe) ?_ inMask
  unfold execCommitPoint
  repeat' first
    | with_reducible exact Only.refl _ _
    | with_reducible assumption
    | with_reducible apply Only.ite
    | with_reducible apply Only.foldl
    | with_reducible apply Only.fst_ite
    | with_reducible apply Only.snd_ite
    | with_reducible apply State.commitFront_only
    | with_reducible apply State.takeTurns_only
    | with_reducible apply State.endHold_only
    | with_reducible apply Ends.next
    | with_reducible apply Ends.ite
    | decide
    | intro _ _
    | intro _
    | dsimp only
    | split
    | with_reducible apply Only.upd_commits

theorem execRegisterWrite_only {M : Nat} {origin : State} (index : BitVec 16) (sub : BitVec 8) (bytes : List Byte) (s : State) (frame : Only M origin s) (inMask : 0x240f0c1f07f5df03a5ff3fde ||| M = M) : Ends M origin (execRegisterWrite index sub bytes s) := by
  refine Ends.step frame (G := 0x240f0c1f07f5df03a5ff3fde) ?_ inMask
  unfold execRegisterWrite
  repeat' first
    | with_reducible exact Only.refl _ _
    | with_reducible assumption
    | with_reducible apply Only.ite
    | with_reducible apply Only.foldl
    | with_reducible apply Only.fst_ite
    | with_reducible apply Only.snd_ite
    | with_reducible apply State.answer_only
    | with_reducible apply State.refuseCommit_only
    | with_reducible apply State.commitNow_only
    | with_reducible apply State.done_only
    | with_reducible apply noCommand_only
    | with_reducible apply Ends.next
    | with_reducible apply Ends.ite
    | decide
    | intro _ _
    | intro _
    | dsimp only
    | split
    | with_reducible apply Only.upd_commits

theorem execDictionaryPortWrite_only {M : Nat} {origin : State} (thread : Fin 64) (index : BitVec 16) (sub : BitVec 8) (bytes : List Byte) (s : State) (frame : Only M origin s) (inMask : 0x1fffffffffffffffffffffffe ||| M = M) : Ends M origin (execDictionaryPortWrite thread index sub bytes s) := by
  refine Ends.step frame (G := 0x1fffffffffffffffffffffffe) ?_ inMask
  unfold execDictionaryPortWrite
  repeat' first
    | with_reducible exact Only.refl _ _
    | with_reducible assumption
    | with_reducible apply Only.ite
    | with_reducible apply Only.foldl
    | with_reducible apply Only.fst_ite
    | with_reducible apply Only.snd_ite
    | with_reducible apply State.trap_only
    | with_reducible apply State.firmwareWrite_only
    | with_reducible apply Ends.next
    | with_reducible apply Ends.ite
    | decide
    | intro _ _
    | intro _
    | dsimp only
    | split

theorem execSet_only {M : Nat} {origin : State} (host : Option Role) (tb : TbId) (seconds nanoseconds fraction : Nat) (s : State) (frame : Only M origin s) (inMask : 0x1fffffffffffffffffffffffe ||| M = M) : Ends M origin (execSet host tb seconds nanoseconds fraction s) := by
  refine Ends.step frame (G := 0x1fffffffffffffffffffffffe) ?_ inMask
  unfold execSet
  repeat' first
    | with_reducible exact Only.refl _ _
    | with_reducible assumption
    | with_reducible apply Only.ite
    | with_reducible apply Only.foldl
    | with_reducible apply Only.fst_ite
    | with_reducible apply Only.snd_ite
    | with_reducible apply State.hostWrite_only
    | with_reducible apply State.setRequest_only
    | with_reducible apply State.answer_only
    | with_reducible apply State.outOfRange_only
    | with_reducible apply State.done_only
    | with_reducible apply State.firmwareWrite_only
    | with_reducible apply Ends.next
    | with_reducible apply Ends.ite
    | decide
    | intro _ _
    | intro _
    | dsimp only
    | split

theorem State.setFromCandidate_only {M : Nat} {origin : State} (s : State) (k n : Nat) (frame : Only M origin s) (inMask : 0x1fffffffffffffffffffffffe ||| M = M) : Only M origin (State.setFromCandidate s k n) := by
  refine Only.step frame (G := 0x1fffffffffffffffffffffffe) ?_ inMask
  unfold State.setFromCandidate
  repeat' first
    | with_reducible exact Only.refl _ _
    | with_reducible assumption
    | with_reducible apply Only.ite
    | with_reducible apply Only.foldl
    | with_reducible apply Only.fst_ite
    | with_reducible apply Only.snd_ite
    | with_reducible apply State.firmwareWrite_only
    | decide
    | intro _ _
    | intro _
    | dsimp only
    | split

theorem execCandidateGuardExpiry_only {M : Nat} {origin : State} (n : SlotId) (tb : TbId) (s : State) (frame : Only M origin s) (inMask : 0x1fffffffffffffffffffffffe ||| M = M) : Ends M origin (execCandidateGuardExpiry n tb s) := by
  refine Ends.step frame (G := 0x1fffffffffffffffffffffffe) ?_ inMask
  unfold execCandidateGuardExpiry
  repeat' first
    | with_reducible exact Only.refl _ _
    | with_reducible assumption
    | with_reducible apply Only.ite
    | with_reducible apply Only.foldl
    | with_reducible apply Only.fst_ite
    | with_reducible apply Only.snd_ite
    | with_reducible apply State.guardOver_only
    | with_reducible apply State.setFromCandidate_only
    | with_reducible apply Ends.next
    | with_reducible apply Ends.ite
    | decide
    | intro _ _
    | intro _
    | dsimp only
    | split

theorem execSessionTimeout_only {M : Nat} {origin : State} (sn : SessionId) (s : State) (frame : Only M origin s) (inMask : 0x300000000000000000006 ||| M = M) : Ends M origin (execSessionTimeout sn s) := by
  refine Ends.step frame (G := 0x300000000000000000006) ?_ inMask
  unfold execSessionTimeout
  repeat' first
    | with_reducible exact Only.refl _ _
    | with_reducible assumption
    | with_reducible apply Only.ite
    | with_reducible apply Only.foldl
    | with_reducible apply Only.fst_ite
    | with_reducible apply Only.snd_ite
    | with_reducible apply State.closeSession_only
    | with_reducible apply Ends.next
    | with_reducible apply Ends.ite
    | decide
    | intro _ _
    | intro _
    | dsimp only
    | split

theorem execTransportLost_only {M : Nat} {origin : State} (transport : Fin 7) (s : State) (frame : Only M origin s) (inMask : 0x300000000000000000006 ||| M = M) : Ends M origin (execTransportLost transport s) := by
  refine Ends.step frame (G := 0x300000000000000000006) ?_ inMask
  unfold execTransportLost
  repeat' first
    | with_reducible exact Only.refl _ _
    | with_reducible assumption
    | with_reducible apply Only.ite
    | with_reducible apply Only.foldl
    | with_reducible apply Only.fst_ite
    | with_reducible apply Only.snd_ite
    | with_reducible apply State.closeTransports_only
    | with_reducible apply Ends.next
    | with_reducible apply Ends.ite
    | decide
    | intro _ _
    | intro _
    | dsimp only
    | split

theorem execSnapshotTimeout_only {M : Nat} {origin : State} (sn : SessionId) (s : State) (frame : Only M origin s) (inMask : 0x100000000000000000000 ||| M = M) : Ends M origin (execSnapshotTimeout sn s) := by
  refine Ends.step frame (G := 0x100000000000000000000) ?_ inMask
  unfold execSnapshotTimeout
  repeat' first
    | with_reducible exact Only.refl _ _
    | with_reducible assumption
    | with_reducible apply Only.ite
    | with_reducible apply Only.foldl
    | with_reducible apply Only.fst_ite
    | with_reducible apply Only.snd_ite
    | with_reducible apply State.setSession_only
    | with_reducible apply Ends.next
    | with_reducible apply Ends.ite
    | decide
    | intro _ _
    | intro _
    | dsimp only
    | split

theorem State.relayAnswer_only {M : Nat} {origin : State} (s : State) (route : Route) (m : List Byte) (status detail : Nat) (frame : Only M origin s) (inMask : 0x100000000000000000058 ||| M = M) : Only M origin (State.relayAnswer s route m status detail) := by
  refine Only.step frame (G := 0x100000000000000000058) ?_ inMask
  unfold State.relayAnswer
  repeat' first
    | with_reducible exact Only.refl _ _
    | with_reducible assumption
    | with_reducible apply Only.ite
    | with_reducible apply Only.foldl
    | with_reducible apply Only.fst_ite
    | with_reducible apply Only.snd_ite
    | with_reducible apply State.turnAway_only
    | decide
    | intro _ _
    | intro _
    | dsimp only
    | split

theorem State.relay_only {M : Nat} {origin : State} (s : State) (route : Route) (message : List Byte) (response : Option (List Byte)) (frame : Only M origin s) (inMask : 0x100020000000000000058 ||| M = M) : Only M origin (State.relay s route message response) := by
  refine Only.step frame (G := 0x100020000000000000058) ?_ inMask
  unfold State.relay
  repeat' first
    | with_reducible exact Only.refl _ _
    | with_reducible assumption
    | with_reducible apply Only.ite
    | with_reducible apply Only.foldl
    | with_reducible apply Only.fst_ite
    | with_reducible apply Only.snd_ite
    | with_reducible apply State.relayAnswer_only
    | with_reducible apply State.done_only
    | with_reducible apply State.sendTo_only
    | decide
    | intro _ _
    | intro _
    | dsimp only
    | split
    | with_reducible apply Only.upd_twin

theorem execRelayedRequest_only {M : Nat} {origin : State} (route : Route) (message : List Byte) (response : Option (List Byte)) (s : State) (frame : Only M origin s) (inMask : 0x100020000000000000058 ||| M = M) : Ends M origin (execRelayedRequest route message response s) := by
  refine Ends.step frame (G := 0x100020000000000000058) ?_ inMask
  unfold execRelayedRequest
  repeat' first
    | with_reducible exact Only.refl _ _
    | with_reducible assumption
    | with_reducible apply Only.ite
    | with_reducible apply Only.foldl
    | with_reducible apply Only.fst_ite
    | with_reducible apply Only.snd_ite
    | with_reducible apply State.relay_only
    | with_reducible apply Ends.next
    | with_reducible apply Ends.ite
    | decide
    | intro _ _
    | intro _
    | dsimp only
    | split

theorem State.spiRequest_only {M : Nat} {origin : State} (s : State) (m : List Byte) (macOk unwrapOk : Bool) (response : Option (List Byte)) (frame : Only M origin s) (inMask : 0x1fffffffffffffffffffffffe ||| M = M) : Only M origin (State.spiRequest s m macOk unwrapOk response) := by
  refine Only.step frame (G := 0x1fffffffffffffffffffffffe) ?_ inMask
  unfold State.spiRequest
  repeat' first
    | with_reducible exact Only.refl _ _
    | with_reducible assumption
    | with_reducible apply Only.ite
    | with_reducible apply Only.foldl
    | with_reducible apply Only.fst_ite
    | with_reducible apply Only.snd_ite
    | with_reducible apply State.relay_only
    | with_reducible apply State.openFirst_only
    | with_reducible apply State.turnAway_only
    | with_reducible apply State.openSecond_only
    | with_reducible apply State.requestClose_only
    | with_reducible apply State.requestKeepalive_only
    | with_reducible apply State.requestRead_only
    | with_reducible apply State.requestWrite_only
    | with_reducible apply State.requestClaim_only
    | with_reducible apply State.requestRelease_only
    | with_reducible apply State.serve_only
    | with_reducible apply State.requestHold_only
    | with_reducible apply State.requestCommit_only
    | with_reducible apply State.requestAbort_only
    | decide
    | intro _ _
    | intro _
    | dsimp only
    | split

theorem execSpiSendRequest_only {M : Nat} {origin : State} (message : List Byte) (macOk unwrapOk : Bool) (response : Option (List Byte)) (s : State) (frame : Only M origin s) (inMask : 0x1fffffffffffffffffffffffe ||| M = M) : Ends M origin (execSpiSendRequest message macOk unwrapOk response s) := by
  refine Ends.step frame (G := 0x1fffffffffffffffffffffffe) ?_ inMask
  unfold execSpiSendRequest
  repeat' first
    | with_reducible exact Only.refl _ _
    | with_reducible assumption
    | with_reducible apply Only.ite
    | with_reducible apply Only.foldl
    | with_reducible apply Only.fst_ite
    | with_reducible apply Only.snd_ite
    | with_reducible apply State.spiRequest_only
    | with_reducible apply Ends.next
    | with_reducible apply Ends.ite
    | decide
    | intro _ _
    | intro _
    | dsimp only
    | split

theorem execSpiTakeResponse_only {M : Nat} {origin : State} (s : State) (frame : Only M origin s) (inMask : 0x100000000000000000020 ||| M = M) : Ends M origin (execSpiTakeResponse s) := by
  refine Ends.step frame (G := 0x100000000000000000020) ?_ inMask
  unfold execSpiTakeResponse
  repeat' first
    | with_reducible exact Only.refl _ _
    | with_reducible assumption
    | with_reducible apply Only.ite
    | with_reducible apply Only.foldl
    | with_reducible apply Only.fst_ite
    | with_reducible apply Only.snd_ite
    | with_reducible apply State.setSession_only
    | with_reducible apply Ends.next
    | with_reducible apply Ends.ite
    | decide
    | intro _ _
    | intro _
    | dsimp only
    | split
    | with_reducible apply Only.upd_spiOut

theorem execSpiPoll_only {M : Nat} {origin : State} (s : State) (frame : Only M origin s) (inMask : 0x38 ||| M = M) : Ends M origin (execSpiPoll s) := by
  refine Ends.step frame (G := 0x38) ?_ inMask
  unfold execSpiPoll
  repeat' first
    | with_reducible exact Only.refl _ _
    | with_reducible assumption
    | with_reducible apply Only.ite
    | with_reducible apply Only.foldl
    | with_reducible apply Only.fst_ite
    | with_reducible apply Only.snd_ite
    | with_reducible apply State.answer_only
    | with_reducible apply Ends.next
    | with_reducible apply Ends.ite
    | decide
    | intro _ _
    | intro _
    | dsimp only
    | split
    | with_reducible apply Only.upd_spiOut

theorem State.wordRead_only {M : Nat} {origin : State} (s : State) (idx sub : Nat) (high : Bool) (frame : Only M origin s) (inMask : 0x20010000000000000000001a ||| M = M) : Only M origin (State.wordRead s idx sub high) := by
  refine Only.step frame (G := 0x20010000000000000000001a) ?_ inMask
  unfold State.wordRead
  repeat' first
    | with_reducible exact Only.refl _ _
    | with_reducible assumption
    | with_reducible apply Only.ite
    | with_reducible apply Only.foldl
    | with_reducible apply Only.fst_ite
    | with_reducible apply Only.snd_ite
    | with_reducible apply State.answer_only
    | with_reducible apply State.setSession_only
    | with_reducible apply State.inc32_only
    | with_reducible apply State.readEffect_only
    | decide
    | intro _ _
    | intro _
    | dsimp only
    | split

theorem execSpiWordRead_only {M : Nat} {origin : State} (index : BitVec 16) (sub : BitVec 8) (high : Bool) (s : State) (frame : Only M origin s) (inMask : 0x20010000000000000000003a ||| M = M) : Ends M origin (execSpiWordRead index sub high s) := by
  refine Ends.step frame (G := 0x20010000000000000000003a) ?_ inMask
  unfold execSpiWordRead
  repeat' first
    | with_reducible exact Only.refl _ _
    | with_reducible assumption
    | with_reducible apply Only.ite
    | with_reducible apply Only.foldl
    | with_reducible apply Only.fst_ite
    | with_reducible apply Only.snd_ite
    | with_reducible apply State.wordRead_only
    | with_reducible apply Ends.next
    | with_reducible apply Ends.ite
    | decide
    | intro _ _
    | intro _
    | dsimp only
    | split
    | with_reducible apply Only.upd_spiOut

theorem State.sendFrame_only {M : Nat} {origin : State} (s : State) (f : OutFrame) (frame : Only M origin s) (inMask : 0x160000000000005002 ||| M = M) : Only M origin (State.sendFrame s f) := by
  refine Only.step frame (G := 0x160000000000005002) ?_ inMask
  unfold State.sendFrame
  repeat' first
    | with_reducible exact Only.refl _ _
    | with_reducible assumption
    | with_reducible apply Only.ite
    | with_reducible apply Only.foldl
    | with_reducible apply Only.fst_ite
    | with_reducible apply Only.snd_ite
    | with_reducible apply State.hubFrame_only
    | decide
    | intro _ _
    | intro _
    | dsimp only
    | split
    | with_reducible apply Only.upd_twin

theorem State.sendOutgoing_only {M : Nat} {origin : State} (s : State) (frame : Only M origin s) (inMask : 0x160000000000005042 ||| M = M) : Only M origin (State.sendOutgoing s) := by
  refine Only.step frame (G := 0x160000000000005042) ?_ inMask
  unfold State.sendOutgoing
  repeat' first
    | with_reducible exact Only.refl _ _
    | with_reducible assumption
    | with_reducible apply Only.ite
    | with_reducible apply Only.foldl
    | with_reducible apply Only.fst_ite
    | with_reducible apply Only.snd_ite
    | with_reducible apply State.sendFrame_only
    | decide
    | intro _ _
    | intro _
    | dsimp only
    | split
    | with_reducible apply Only.upd_outgoing

end Sys2Proof.Machine
end

