-- ==== Sys2Proof/Laws/LowEntries.lean ====
section
/-! SUPPORT. What a port that comes up, changes its mode or goes down, and what follows it in timing, queues and references,
leaves of the entries of lanes and ports: those with an index below 2100h, or below 2200h, read as before. -/

set_option linter.unusedTactic false
set_option linter.unreachableTactic false

namespace Sys2Proof.Machine

/-- The entries with an index below `B` read in `t` as in `s`. -/
structure Low (B : Nat) (s t : State) : Prop where
  get : ∀ (d : Int) (k : Nat), k < B * 256 → Sparse.get d t.regs k = Sparse.get d s.regs k

theorem Low.refl {B : Nat} (s : State) : Low B s s := ⟨fun _ _ _ => rfl⟩

theorem Low.trans {B : Nat} {s t u : State} (a : Low B s t) (b : Low B t u) : Low B s u := ⟨fun d k h => (b.get d k h).trans (a.get d k h)⟩

theorem Low.same {B : Nat} {s t u : State} (a : Low B s t) (h : u.regs = t.regs) : Low B s u := ⟨fun d k hk => h ▸ a.get d k hk⟩

theorem Low.ite {B : Nat} {c : Prop} [Decidable c] {s t u : State} (a : Low B s t) (b : Low B s u) : Low B s (if c then t else u) := by
  split <;> assumption

theorem Low.foldl {B : Nat} {α : Type} {f : State → α → State} {s : State} (h : ∀ a x, Low B s a → Low B s (f a x)) :
    ∀ {l : List α} {t : State}, Low B s t → Low B s (l.foldl f t)
  | [], _, a => a
  | _ :: l, _, a => Low.foldl h (l := l) (h _ _ a)

theorem Low.fst_ite {B : Nat} {c : Prop} [Decidable c] {α : Type} {s : State} {x y : State × α} (a : Low B s x.1) (b : Low B s y.1) :
    Low B s (if c then x else y).1 := by
  split <;> assumption

theorem Low.snd_ite {B : Nat} {c : Prop} [Decidable c] {α : Type} {s : State} {x y : α × State} (a : Low B s x.2) (b : Low B s y.2) :
    Low B s (if c then x else y).2 := by
  split <;> assumption

theorem Low.of_fst {B : Nat} {α : Type} {s a : State} {b : α} {x : State × α} (h : x = (a, b)) (l : Low B s x.1) : Low B s a := by
  subst h; exact l

/-- What reads below the bound. -/
theorem Low.reg {B : Nat} {s t : State} (a : Low B s t) (i j : Nat) (hi : i < B) (hj : j < 256) : t.reg i j = s.reg i j := by
  exact a.get _ _ (by unfold key; omega)

theorem Low.nat {B : Nat} {s t : State} (a : Low B s t) (i j : Nat) (hi : i < B) (hj : j < 256) : t.nat i j = s.nat i j := by
  unfold State.nat; rw [a.reg i j hi hj]

theorem Low.bit {B : Nat} {s t : State} (a : Low B s t) (i j b : Nat) (hi : i < B) (hj : j < 256) : t.bit i j b = s.bit i j b := by
  unfold State.bit; rw [a.nat i j hi hj]

theorem Low.flag {B : Nat} {s t : State} (a : Low B s t) (i j : Nat) (hi : i < B) (hj : j < 256) : t.flag i j = s.flag i j := by
  unfold State.flag; rw [a.reg i j hi hj]

theorem Low.upd_freqHeld_freqLog {B : Nat} {s t : State} {v0} {v1} (a : Low B s t) : Low B s { t with freqHeld := v0, freqLog := v1 } := a.same rfl

theorem Low.upd_freqLog {B : Nat} {s t : State} {v0} (a : Low B s t) : Low B s { t with freqLog := v0 } := a.same rfl

theorem Low.upd_freqSwitching {B : Nat} {s t : State} {v0} (a : Low B s t) : Low B s { t with freqSwitching := v0 } := a.same rfl

theorem Low.upd_freqSwitching_freqLog_and2 {B : Nat} {s t : State} {v0} {v1} {v2} {v3} (a : Low B s t) : Low B s { t with freqSwitching := v0, freqLog := v1, freqMovedAt := v2, freqNear := v3 } := a.same rfl

theorem Low.upd_twin {B : Nat} {s t : State} {v0} (a : Low B s t) : Low B s { t with twin := v0 } := a.same rfl

theorem State.setReg_low {B : Nat} {origin : State} (s : State) (idx sub : Nat) (v : Int) (low : Low B origin s) (high : B ≤ idx) : Low B origin (State.setReg s idx sub v) := by
  refine ⟨fun d k hk => ?_⟩
  rw [← low.get d k hk]
  exact Sparse.get_set_ne _ d s.regs v (by unfold key; omega)

theorem State.setNat_low {B : Nat} {origin : State} (s : State) (idx sub v : Nat) (low : Low B origin s) (high : B ≤ idx) : Low B origin (State.setNat s idx sub v) := by
  unfold State.setNat
  repeat' first
    | intro _ _ _
    | intro _ _
    | intro _
    | with_reducible assumption
    | with_reducible apply Low.ite
    | with_reducible apply Low.foldl
    | with_reducible apply Low.fst_ite
    | with_reducible apply Low.snd_ite
    | with_reducible apply State.setReg_low
    | omega
    | omega
    | dsimp only
    | split

theorem State.putBit_low {B : Nat} {origin : State} (s : State) (idx sub b : Nat) (on : Bool) (low : Low B origin s) (high : B ≤ idx) : Low B origin (State.putBit s idx sub b on) := by
  unfold State.putBit
  repeat' first
    | intro _ _ _
    | intro _ _
    | intro _
    | with_reducible assumption
    | with_reducible apply Low.ite
    | with_reducible apply Low.foldl
    | with_reducible apply Low.fst_ite
    | with_reducible apply Low.snd_ite
    | with_reducible apply State.setNat_low
    | omega
    | omega
    | dsimp only
    | split

theorem State.addSat_low {B : Nat} {origin : State} (s : State) (idx sub width n : Nat) (low : Low B origin s) (high : B ≤ idx) : Low B origin (State.addSat s idx sub width n) := by
  unfold State.addSat
  repeat' first
    | intro _ _ _
    | intro _ _
    | intro _
    | with_reducible assumption
    | with_reducible apply Low.ite
    | with_reducible apply Low.foldl
    | with_reducible apply Low.fst_ite
    | with_reducible apply Low.snd_ite
    | with_reducible apply State.setNat_low
    | omega
    | omega
    | dsimp only
    | split

theorem State.inc64_low {B : Nat} {origin : State} (s : State) (idx sub : Nat) (low : Low B origin s) (high : B ≤ idx) : Low B origin (State.inc64 s idx sub) := by
  unfold State.inc64
  repeat' first
    | intro _ _ _
    | intro _ _
    | intro _
    | with_reducible assumption
    | with_reducible apply Low.ite
    | with_reducible apply Low.foldl
    | with_reducible apply Low.fst_ite
    | with_reducible apply Low.snd_ite
    | with_reducible apply State.addSat_low
    | omega
    | omega
    | dsimp only
    | split

theorem State.inc32_low {B : Nat} {origin : State} (s : State) (idx sub : Nat) (low : Low B origin s) (high : B ≤ idx) : Low B origin (State.inc32 s idx sub) := by
  unfold State.inc32
  repeat' first
    | intro _ _ _
    | intro _ _
    | intro _
    | with_reducible assumption
    | with_reducible apply Low.ite
    | with_reducible apply Low.foldl
    | with_reducible apply Low.fst_ite
    | with_reducible apply Low.snd_ite
    | with_reducible apply State.addSat_low
    | omega
    | omega
    | dsimp only
    | split

theorem State.setLane_low {B : Nat} {origin : State} (s : State) (n : Nat) (x : LaneX) (low : Low B origin s) : Low B origin (State.setLane s n x) :=
  low.same ((State.setLane_only (M := 0x80) _ _ _ (Only.refl _ _) rfl).regs rfl)

theorem State.setPort_low {B : Nat} {origin : State} (s : State) (p : Nat) (x : PortX) (low : Low B origin s) : Low B origin (State.setPort s p x) :=
  low.same ((State.setPort_only (M := 0x100) _ _ _ (Only.refl _ _) rfl).regs rfl)

theorem State.setTim_low {B : Nat} {origin : State} (s : State) (p : Nat) (x : TimingX) (low : Low B origin s) : Low B origin (State.setTim s p x) :=
  low.same ((State.setTim_only (M := 0x200) _ _ _ (Only.refl _ _) rfl).regs rfl)

theorem State.setEg_low {B : Nat} {origin : State} (s : State) (p : Nat) (x : EgressX) (low : Low B origin s) : Low B origin (State.setEg s p x) :=
  low.same ((State.setEg_only (M := 0x400) _ _ _ (Only.refl _ _) rfl).regs rfl)

theorem State.setQueue_low {B : Nat} {origin : State} (s : State) (p q : Nat) (x : QueueX) (low : Low B origin s) : Low B origin (State.setQueue s p q x) :=
  low.same ((State.setQueue_only (M := 0x800) _ _ _ _ (Only.refl _ _) rfl).regs rfl)

theorem State.setRegion_low {B : Nat} {origin : State} (s : State) (g : Nat) (x : RegionX) (low : Low B origin s) : Low B origin (State.setRegion s g x) :=
  low.same ((State.setRegion_only (M := 0x1000) _ _ _ (Only.refl _ _) rfl).regs rfl)

theorem State.setRx_low {B : Nat} {origin : State} (s : State) (p : Nat) (x : Option RxFrame) (low : Low B origin s) : Low B origin (State.setRx s p x) :=
  low.same ((State.setRx_only (M := 0x2000) _ _ _ (Only.refl _ _) rfl).regs rfl)

theorem State.setTb_low {B : Nat} {origin : State} (s : State) (k : Nat) (x : TbX) (low : Low B origin s) : Low B origin (State.setTb s k x) :=
  low.same ((State.setTb_only (M := 0x40000000000) _ _ _ (Only.refl _ _) rfl).regs rfl)

theorem State.setFirefly_low {B : Nat} {origin : State} (s : State) (f : Nat) (x : FireflyX) (low : Low B origin s) : Low B origin (State.setFirefly s f x) :=
  low.same ((State.setFirefly_only (M := 0x100000000000) _ _ _ (Only.refl _ _) rfl).regs rfl)

theorem State.setDetector_low {B : Nat} {origin : State} (s : State) (d : Nat) (x : DetectorX) (low : Low B origin s) : Low B origin (State.setDetector s d x) :=
  low.same ((State.setDetector_only (M := 0x4000000000000) _ _ _ (Only.refl _ _) rfl).regs rfl)

theorem State.setSlot_low {B : Nat} {origin : State} (s : State) (n : Nat) (x : SlotX) (low : Low B origin s) : Low B origin (State.setSlot s n x) :=
  low.same ((State.setSlot_only (M := 0x10000000000000) _ _ _ (Only.refl _ _) rfl).regs rfl)

theorem State.setTrim_low {B : Nat} {origin : State} (s : State) (n : Nat) (x : TrimX) (low : Low B origin s) : Low B origin (State.setTrim s n x) :=
  low.same ((State.setTrim_only (M := 0x10000000000000000) _ _ _ (Only.refl _ _) rfl).regs rfl)

theorem State.setEngine_low {B : Nat} {origin : State} (s : State) (e : Nat) (x : EngineX) (low : Low B origin s) : Low B origin (State.setEngine s e x) :=
  low.same ((State.setEngine_only (M := 0x400000000000000000000) _ _ _ (Only.refl _ _) rfl).regs rfl)

theorem State.setSession_low {B : Nat} {origin : State} (s : State) (n : Nat) (x : SessionX) (low : Low B origin s) : Low B origin (State.setSession s n x) :=
  low.same ((State.setSession_only (M := 0x100000000000000000000) _ _ _ (Only.refl _ _) rfl).regs rfl)

theorem State.countSource_low {B : Nat} {origin : State} (s : State) (src : Nat) (low : Low B origin s) : Low B origin (State.countSource s src) :=
  low.same ((State.countSource_only (M := 0x100000000000000000) _ _ (Only.refl _ _) rfl).regs rfl)

theorem State.raise_low {B : Nat} {origin : State} (s : State) (src detail : Nat) (low : Low B origin s) : Low B origin (State.raise s src detail) :=
  low.same ((State.raise_only (M := 0x140000000000000000) _ _ _ (Only.refl _ _) rfl).regs rfl)

theorem State.sendTo_low {B : Nat} {origin : State} (s : State) (route : Route) (message : List Byte) (low : Low B origin s) : Low B origin (State.sendTo s route message) :=
  low.same ((State.sendTo_only (M := 0x100000000000000000040) _ _ _ (Only.refl _ _) rfl).regs rfl)

theorem State.noticeTo_low {B : Nat} {origin : State} (s : State) (n : Nat) (payload : List Byte) (low : Low B origin s) (cap : B ≤ 0x2200) : Low B origin (State.noticeTo s n payload) := by
  unfold State.noticeTo
  repeat' first
    | intro _ _ _
    | intro _ _
    | intro _
    | with_reducible assumption
    | with_reducible apply Low.ite
    | with_reducible apply Low.foldl
    | with_reducible apply Low.fst_ite
    | with_reducible apply Low.snd_ite
    | with_reducible apply State.sendTo_low
    | with_reducible apply State.setSession_low
    | with_reducible apply State.inc32_low
    | omega
    | omega
    | dsimp only
    | split

theorem State.notice_low {B : Nat} {origin : State} (s : State) (cls : Nat) (payload : List Byte) (low : Low B origin s) (cap : B ≤ 0x2200) : Low B origin (State.notice s cls payload) := by
  unfold State.notice
  repeat' first
    | intro _ _ _
    | intro _ _
    | intro _
    | with_reducible assumption
    | with_reducible apply Low.ite
    | with_reducible apply Low.foldl
    | with_reducible apply Low.fst_ite
    | with_reducible apply Low.snd_ite
    | with_reducible apply State.noticeTo_low
    | omega
    | omega
    | dsimp only
    | split

theorem State.stateNotice_low {B : Nat} {origin : State} (s : State) (low : Low B origin s) (cap : B ≤ 0x2200) : Low B origin (State.stateNotice s) := by
  unfold State.stateNotice
  repeat' first
    | intro _ _ _
    | intro _ _
    | intro _
    | with_reducible assumption
    | with_reducible apply Low.ite
    | with_reducible apply Low.foldl
    | with_reducible apply Low.fst_ite
    | with_reducible apply Low.snd_ite
    | with_reducible apply State.notice_low
    | omega
    | omega
    | dsimp only
    | split

theorem State.setServo_low {B : Nat} {origin : State} (s : State) (k v : Nat) (low : Low B origin s) (cap : B ≤ 0x2200) : Low B origin (State.setServo s k v) := by
  unfold State.setServo
  repeat' first
    | intro _ _ _
    | intro _ _
    | intro _
    | with_reducible assumption
    | with_reducible apply Low.ite
    | with_reducible apply Low.foldl
    | with_reducible apply Low.fst_ite
    | with_reducible apply Low.snd_ite
    | with_reducible apply State.setNat_low
    | with_reducible apply State.notice_low
    | omega
    | omega
    | dsimp only
    | split

theorem State.setSteering_low {B : Nat} {origin : State} (s : State) (k : Nat) (ppt : Int) (low : Low B origin s) : Low B origin (State.setSteering s k ppt) :=
  low.same ((State.setSteering_only (M := 0x40000000000) _ _ _ (Only.refl _ _) rfl).regs rfl)

theorem State.settleSlew_low {B : Nat} {origin : State} (s : State) (f : Nat) (goesOn : Bool) (low : Low B origin s) (cap : B ≤ 0x2200) : Low B origin (State.settleSlew s f goesOn) := by
  unfold State.settleSlew
  repeat' first
    | intro _ _ _
    | intro _ _
    | intro _
    | with_reducible assumption
    | with_reducible apply Low.ite
    | with_reducible apply Low.foldl
    | with_reducible apply Low.fst_ite
    | with_reducible apply Low.snd_ite
    | with_reducible apply State.setReg_low
    | with_reducible apply State.setFirefly_low
    | omega
    | omega
    | dsimp only
    | split

theorem State.settlePulses_low {B : Nat} {origin : State} (s : State) (f : Nat) (cut : Bool) (low : Low B origin s) : Low B origin (State.settlePulses s f cut) :=
  low.same ((State.settlePulses_only (M := 0x100000000000) _ _ _ (Only.refl _ _) rfl).regs rfl)

theorem State.putTiming_low {B : Nat} {origin : State} (s : State) (p st causes : Nat) (low : Low B origin s) (cap : B ≤ 0x2200) : Low B origin (State.putTiming s p st causes) := by
  unfold State.putTiming
  repeat' first
    | intro _ _ _
    | intro _ _
    | intro _
    | with_reducible assumption
    | with_reducible apply Low.ite
    | with_reducible apply Low.foldl
    | with_reducible apply Low.fst_ite
    | with_reducible apply Low.snd_ite
    | with_reducible apply State.setNat_low
    | with_reducible apply State.setTim_low
    | omega
    | omega
    | dsimp only
    | split

theorem State.noteUnverified_low {B : Nat} {origin : State} (s : State) (p : Nat) (low : Low B origin s) (cap : B ≤ 0x2200) : Low B origin (State.noteUnverified s p) := by
  unfold State.noteUnverified
  repeat' first
    | intro _ _ _
    | intro _ _
    | intro _
    | with_reducible assumption
    | with_reducible apply Low.ite
    | with_reducible apply Low.foldl
    | with_reducible apply Low.fst_ite
    | with_reducible apply Low.snd_ite
    | with_reducible apply State.putBit_low
    | with_reducible apply State.raise_low
    | omega
    | omega
    | dsimp only
    | split

theorem State.enterUnverified_low {B : Nat} {origin : State} (s : State) (p causes : Nat) (low : Low B origin s) (cap : B ≤ 0x2200) : Low B origin (State.enterUnverified s p causes) := by
  unfold State.enterUnverified
  repeat' first
    | intro _ _ _
    | intro _ _
    | intro _
    | with_reducible assumption
    | with_reducible apply Low.ite
    | with_reducible apply Low.foldl
    | with_reducible apply Low.fst_ite
    | with_reducible apply Low.snd_ite
    | with_reducible apply State.putTiming_low
    | with_reducible apply State.noteUnverified_low
    | omega
    | omega
    | dsimp only
    | split

theorem State.calibratingCauses_low {B : Nat} {origin : State} (s : State) (p causes : Nat) (low : Low B origin s) (cap : B ≤ 0x2200) : Low B origin (State.calibratingCauses s p causes) := by
  unfold State.calibratingCauses
  repeat' first
    | intro _ _ _
    | intro _ _
    | intro _
    | with_reducible assumption
    | with_reducible apply Low.ite
    | with_reducible apply Low.foldl
    | with_reducible apply Low.fst_ite
    | with_reducible apply Low.snd_ite
    | with_reducible apply State.putTiming_low
    | with_reducible apply State.setTim_low
    | with_reducible apply State.noteUnverified_low
    | omega
    | omega
    | dsimp only
    | split

theorem State.setCauses_low {B : Nat} {origin : State} (s : State) (p causes : Nat) (low : Low B origin s) (cap : B ≤ 0x2200) : Low B origin (State.setCauses s p causes) := by
  unfold State.setCauses
  repeat' first
    | intro _ _ _
    | intro _ _
    | intro _
    | with_reducible assumption
    | with_reducible apply Low.ite
    | with_reducible apply Low.foldl
    | with_reducible apply Low.fst_ite
    | with_reducible apply Low.snd_ite
    | with_reducible apply State.putTiming_low
    | with_reducible apply State.calibratingCauses_low
    | with_reducible apply State.enterUnverified_low
    | omega
    | omega
    | dsimp only
    | split

theorem State.putCause_low {B : Nat} {origin : State} (s : State) (p c : Nat) (on : Bool) (low : Low B origin s) (cap : B ≤ 0x2200) : Low B origin (State.putCause s p c on) := by
  unfold State.putCause
  repeat' first
    | intro _ _ _
    | intro _ _
    | intro _
    | with_reducible assumption
    | with_reducible apply Low.ite
    | with_reducible apply Low.foldl
    | with_reducible apply Low.fst_ite
    | with_reducible apply Low.snd_ite
    | with_reducible apply State.setCauses_low
    | omega
    | omega
    | dsimp only
    | split

theorem State.abandonAsymmetry_low {B : Nat} {origin : State} (s : State) (p : Nat) (low : Low B origin s) (cap : B ≤ 0x2200) : Low B origin (State.abandonAsymmetry s p) := by
  unfold State.abandonAsymmetry
  repeat' first
    | intro _ _ _
    | intro _ _
    | intro _
    | with_reducible assumption
    | with_reducible apply Low.ite
    | with_reducible apply Low.foldl
    | with_reducible apply Low.fst_ite
    | with_reducible apply Low.snd_ite
    | with_reducible apply State.setTim_low
    | with_reducible apply State.putBit_low
    | with_reducible apply State.putTiming_low
    | omega
    | omega
    | dsimp only
    | split

theorem State.timingOff_low {B : Nat} {origin : State} (s : State) (p : Nat) (low : Low B origin s) (cap : B ≤ 0x2200) : Low B origin (State.timingOff s p) := by
  unfold State.timingOff
  repeat' first
    | intro _ _ _
    | intro _ _
    | intro _
    | with_reducible assumption
    | with_reducible apply Low.ite
    | with_reducible apply Low.foldl
    | with_reducible apply Low.fst_ite
    | with_reducible apply Low.snd_ite
    | with_reducible apply State.abandonAsymmetry_low
    | with_reducible apply State.setTim_low
    | with_reducible apply State.putTiming_low
    | omega
    | omega
    | dsimp only
    | split

theorem State.timingOn_low {B : Nat} {origin : State} (s : State) (p : Nat) (low : Low B origin s) (cap : B ≤ 0x2200) : Low B origin (State.timingOn s p) := by
  unfold State.timingOn
  repeat' first
    | intro _ _ _
    | intro _ _
    | intro _
    | with_reducible assumption
    | with_reducible apply Low.ite
    | with_reducible apply Low.foldl
    | with_reducible apply Low.fst_ite
    | with_reducible apply Low.snd_ite
    | with_reducible apply State.setTim_low
    | with_reducible apply State.putTiming_low
    | with_reducible apply State.enterUnverified_low
    | omega
    | omega
    | dsimp only
    | split

theorem State.holdBuffer_low {B : Nat} {origin : State} (s : State) (p : Nat) (low : Low B origin s) : Low B origin (State.holdBuffer s p) :=
  low.same ((State.holdBuffer_only (M := 0x200) _ _ (Only.refl _ _) rfl).regs rfl)

theorem State.judgeSlot_low {B : Nat} {origin : State} (s : State) (n : Nat) (low : Low B origin s) (cap : B ≤ 0x2200) : Low B origin (State.judgeSlot s n) := by
  unfold State.judgeSlot
  repeat' first
    | intro _ _ _
    | intro _ _
    | intro _
    | with_reducible assumption
    | with_reducible apply Low.ite
    | with_reducible apply Low.foldl
    | with_reducible apply Low.fst_ite
    | with_reducible apply Low.snd_ite
    | with_reducible apply State.putBit_low
    | with_reducible apply State.setSlot_low
    | with_reducible apply State.setNat_low
    | with_reducible apply State.raise_low
    | omega
    | omega
    | dsimp only
    | split

theorem State.judgeDispute_low {B : Nat} {origin : State} (s : State) (a b : Nat) (low : Low B origin s) (cap : B ≤ 0x2200) : Low B origin (State.judgeDispute s a b) := by
  unfold State.judgeDispute
  repeat' first
    | intro _ _ _
    | intro _ _
    | intro _
    | with_reducible assumption
    | with_reducible apply Low.ite
    | with_reducible apply Low.foldl
    | with_reducible apply Low.fst_ite
    | with_reducible apply Low.snd_ite
    | with_reducible apply State.setSlot_low
    | with_reducible apply State.putBit_low
    | omega
    | omega
    | dsimp only
    | split

theorem State.noteCleared_low {B : Nat} {origin : State} (s : State) (n : Nat) (low : Low B origin s) : Low B origin (State.noteCleared s n) :=
  low.same ((State.noteCleared_only (M := 0x10000000000000) _ _ (Only.refl _ _) rfl).regs rfl)

theorem State.measureSyntony_low {B : Nat} {origin : State} (s : State) (low : Low B origin s) : Low B origin (State.measureSyntony s) :=
  low.same ((State.measureSyntony_only (M := 0x40000000000) _ (Only.refl _ _) rfl).regs rfl)

theorem State.setFrequency_low {B : Nat} {origin : State} (s : State) (ppt : Int) (low : Low B origin s) : Low B origin (State.setFrequency s ppt) :=
  low.same ((State.setFrequency_only (M := 0x40040000000000) _ _ (Only.refl _ _) rfl).regs rfl)

theorem State.freqHoldover_low {B : Nat} {origin : State} (s : State) (low : Low B origin s) (cap : B ≤ 0x2200) : Low B origin (State.freqHoldover s) := by
  unfold State.freqHoldover
  repeat' first
    | intro _ _ _
    | intro _ _
    | intro _
    | with_reducible assumption
    | with_reducible apply Low.ite
    | with_reducible apply Low.foldl
    | with_reducible apply Low.fst_ite
    | with_reducible apply Low.snd_ite
    | with_reducible apply State.setNat_low
    | with_reducible apply State.setReg_low
    | with_reducible apply State.setFrequency_low
    | omega
    | omega
    | dsimp only
    | split
    | with_reducible apply Low.upd_freqHeld_freqLog
    | with_reducible apply Low.upd_freqLog
    | with_reducible apply Low.upd_freqSwitching

theorem State.freqSelect_low {B : Nat} {origin : State} (s : State) (low : Low B origin s) (cap : B ≤ 0x2200) : Low B origin (State.freqSelect s) := by
  unfold State.freqSelect
  repeat' first
    | intro _ _ _
    | intro _ _
    | intro _
    | with_reducible assumption
    | with_reducible apply Low.ite
    | with_reducible apply Low.foldl
    | with_reducible apply Low.fst_ite
    | with_reducible apply Low.snd_ite
    | with_reducible apply State.freqHoldover_low
    | with_reducible apply State.setNat_low
    | with_reducible apply State.inc32_low
    | omega
    | omega
    | dsimp only
    | split
    | with_reducible apply Low.upd_freqSwitching_freqLog_and2

theorem State.showDispute_low {B : Nat} {origin : State} (s : State) (n : Nat) (low : Low B origin s) (cap : B ≤ 0x2200) : Low B origin (State.showDispute s n) := by
  unfold State.showDispute
  repeat' first
    | intro _ _ _
    | intro _ _
    | intro _
    | with_reducible assumption
    | with_reducible apply Low.ite
    | with_reducible apply Low.foldl
    | with_reducible apply Low.fst_ite
    | with_reducible apply Low.snd_ite
    | with_reducible apply State.setNat_low
    | omega
    | omega
    | dsimp only
    | split

theorem State.judgeCandidate_low {B : Nat} {origin : State} (s : State) (k n : Nat) (low : Low B origin s) (cap : B ≤ 0x2200) : Low B origin (State.judgeCandidate s k n) := by
  unfold State.judgeCandidate
  repeat' first
    | intro _ _ _
    | intro _ _
    | intro _
    | with_reducible assumption
    | with_reducible apply Low.ite
    | with_reducible apply Low.foldl
    | with_reducible apply Low.fst_ite
    | with_reducible apply Low.snd_ite
    | with_reducible apply State.setNat_low
    | omega
    | omega
    | dsimp only
    | split

theorem State.applySteering_low {B : Nat} {origin : State} (s : State) (k : Nat) (low : Low B origin s) : Low B origin (State.applySteering s k) :=
  low.same ((State.applySteering_only (M := 0x40000000000) _ _ (Only.refl _ _) rfl).regs rfl)

theorem State.timeHoldover_low {B : Nat} {origin : State} (s : State) (k : Nat) (low : Low B origin s) (cap : B ≤ 0x2200) : Low B origin (State.timeHoldover s k) := by
  unfold State.timeHoldover
  repeat' first
    | intro _ _ _
    | intro _ _
    | intro _
    | with_reducible assumption
    | with_reducible apply Low.ite
    | with_reducible apply Low.foldl
    | with_reducible apply Low.fst_ite
    | with_reducible apply Low.snd_ite
    | with_reducible apply State.setNat_low
    | with_reducible apply State.setReg_low
    | with_reducible apply State.setTb_low
    | with_reducible apply State.setSteering_low
    | with_reducible apply State.setServo_low
    | omega
    | omega
    | dsimp only
    | split

theorem State.chooseTime_low {B : Nat} {origin : State} (s : State) (k n : Nat) (low : Low B origin s) (cap : B ≤ 0x2200) :
    Low B origin (State.chooseTime s k n).1 := by
  induction n generalizing s with
  | zero => exact low
  | succ n ih =>
    unfold State.chooseTime
    split
    · exact low
    · split
      · exact ih _ (State.setNat_low _ _ _ _ low (by omega))
      · exact low

theorem State.timeSelect_low {B : Nat} {origin : State} (s : State) (k : Nat) (low : Low B origin s) (cap : B ≤ 0x2200) : Low B origin (State.timeSelect s k) := by
  unfold State.timeSelect
  repeat' first
    | intro _ _ _
    | intro _ _
    | intro _
    | with_reducible assumption
    | with_reducible apply Low.ite
    | with_reducible apply Low.foldl
    | with_reducible apply Low.fst_ite
    | with_reducible apply Low.snd_ite
    | with_reducible apply State.chooseTime_low
    | with_reducible (refine Low.of_fst (by assumption) ?_; apply State.chooseTime_low)
    | with_reducible apply State.timeHoldover_low
    | with_reducible apply State.setNat_low
    | with_reducible apply State.inc32_low
    | with_reducible apply State.setTb_low
    | with_reducible apply State.setReg_low
    | with_reducible apply State.setServo_low
    | with_reducible apply State.applySteering_low
    | omega
    | omega
    | dsimp only
    | split

theorem State.judgeAsymmetry_low {B : Nat} {origin : State} (s : State) (p : Nat) (low : Low B origin s) (cap : B ≤ 0x2200) : Low B origin (State.judgeAsymmetry s p) := by
  unfold State.judgeAsymmetry
  repeat' first
    | intro _ _ _
    | intro _ _
    | intro _
    | with_reducible assumption
    | with_reducible apply Low.ite
    | with_reducible apply Low.foldl
    | with_reducible apply Low.fst_ite
    | with_reducible apply Low.snd_ite
    | with_reducible apply State.abandonAsymmetry_low
    | omega
    | omega
    | dsimp only
    | split

theorem State.refsUpdate_low {B : Nat} {origin : State} (s : State) (low : Low B origin s) (cap : B ≤ 0x2200) : Low B origin (State.refsUpdate s) := by
  unfold State.refsUpdate
  repeat' first
    | intro _ _ _
    | intro _ _
    | intro _
    | with_reducible assumption
    | with_reducible apply Low.ite
    | with_reducible apply Low.foldl
    | with_reducible apply Low.fst_ite
    | with_reducible apply Low.snd_ite
    | with_reducible apply State.judgeSlot_low
    | with_reducible apply State.judgeDispute_low
    | with_reducible apply State.noteCleared_low
    | with_reducible apply State.freqSelect_low
    | with_reducible apply State.showDispute_low
    | with_reducible apply State.judgeCandidate_low
    | with_reducible apply State.timeSelect_low
    | with_reducible apply State.judgeAsymmetry_low
    | omega
    | omega
    | dsimp only
    | split

theorem State.watermark_low {B : Nat} {origin : State} (s : State) (i st cnt occupancy threshold hysteresis g : Nat) (low : Low B origin s) (high : B ≤ i) : Low B origin (State.watermark s i st cnt occupancy threshold hysteresis g) := by
  unfold State.watermark
  repeat' first
    | intro _ _ _
    | intro _ _
    | intro _
    | with_reducible assumption
    | with_reducible apply Low.ite
    | with_reducible apply Low.foldl
    | with_reducible apply Low.fst_ite
    | with_reducible apply Low.snd_ite
    | with_reducible apply State.putBit_low
    | with_reducible apply State.inc32_low
    | with_reducible apply State.raise_low
    | omega
    | omega
    | dsimp only
    | split

theorem State.judgeQueue_low {B : Nat} {origin : State} (s : State) (p q : Nat) (low : Low B origin s) (cap : B ≤ 0x2200) : Low B origin (State.judgeQueue s p q) := by
  unfold State.judgeQueue
  repeat' first
    | intro _ _ _
    | intro _ _
    | intro _
    | with_reducible assumption
    | with_reducible apply Low.ite
    | with_reducible apply Low.foldl
    | with_reducible apply Low.fst_ite
    | with_reducible apply Low.snd_ite
    | with_reducible apply State.setNat_low
    | with_reducible apply State.watermark_low
    | (unfold queueIndex; omega)
    | omega
    | dsimp only
    | split

theorem State.judgePool_low {B : Nat} {origin : State} (s : State) (g : Nat) (low : Low B origin s) (cap : B ≤ 0x2200) : Low B origin (State.judgePool s g) := by
  unfold State.judgePool
  repeat' first
    | intro _ _ _
    | intro _ _
    | intro _
    | with_reducible assumption
    | with_reducible apply Low.ite
    | with_reducible apply Low.foldl
    | with_reducible apply Low.fst_ite
    | with_reducible apply Low.snd_ite
    | with_reducible apply State.watermark_low
    | omega
    | omega
    | dsimp only
    | split

theorem State.usePool_low {B : Nat} {origin : State} (s : State) (g k n : Nat) (low : Low B origin s) (cap : B ≤ 0x2200) : Low B origin (State.usePool s g k n) := by
  unfold State.usePool
  repeat' first
    | intro _ _ _
    | intro _ _
    | intro _
    | with_reducible assumption
    | with_reducible apply Low.ite
    | with_reducible apply Low.foldl
    | with_reducible apply Low.fst_ite
    | with_reducible apply Low.snd_ite
    | with_reducible apply State.setRegion_low
    | with_reducible apply State.judgePool_low
    | omega
    | omega
    | dsimp only
    | split

theorem State.returnCell_low {B : Nat} {origin : State} (s : State) (g k : Nat) (low : Low B origin s) (cap : B ≤ 0x2200) : Low B origin (State.returnCell s g k) := by
  unfold State.returnCell
  repeat' first
    | intro _ _ _
    | intro _ _
    | intro _
    | with_reducible assumption
    | with_reducible apply Low.ite
    | with_reducible apply Low.foldl
    | with_reducible apply Low.fst_ite
    | with_reducible apply Low.snd_ite
    | with_reducible apply State.usePool_low
    | omega
    | omega
    | dsimp only
    | split

theorem State.releaseCells_low {B : Nat} {origin : State} (s : State) (g : Nat) (c : Copy) (low : Low B origin s) (cap : B ≤ 0x2200) : Low B origin (State.releaseCells s g c) := by
  unfold State.releaseCells
  repeat' first
    | intro _ _ _
    | intro _ _
    | intro _
    | with_reducible assumption
    | with_reducible apply Low.ite
    | with_reducible apply Low.foldl
    | with_reducible apply Low.fst_ite
    | with_reducible apply Low.snd_ite
    | with_reducible apply State.returnCell_low
    | omega
    | omega
    | dsimp only
    | split

theorem State.removeCopies_low {B : Nat} {origin : State} (s : State) (p q : Nat) (f : Copy → Bool) (low : Low B origin s) (cap : B ≤ 0x2200) : Low B origin (State.removeCopies s p q f) := by
  unfold State.removeCopies
  repeat' first
    | intro _ _ _
    | intro _ _
    | intro _
    | with_reducible assumption
    | with_reducible apply Low.ite
    | with_reducible apply Low.foldl
    | with_reducible apply Low.fst_ite
    | with_reducible apply Low.snd_ite
    | with_reducible apply State.setQueue_low
    | with_reducible apply State.releaseCells_low
    | with_reducible apply State.judgeQueue_low
    | omega
    | omega
    | dsimp only
    | split

theorem State.loseSending_low {B : Nat} {origin : State} (s : State) (p : Nat) (low : Low B origin s) (cap : B ≤ 0x2200) : Low B origin (State.loseSending s p) := by
  unfold State.loseSending
  repeat' first
    | intro _ _ _
    | intro _ _
    | intro _
    | with_reducible assumption
    | with_reducible apply Low.ite
    | with_reducible apply Low.foldl
    | with_reducible apply Low.fst_ite
    | with_reducible apply Low.snd_ite
    | with_reducible apply State.setEg_low
    | with_reducible apply State.removeCopies_low
    | with_reducible apply State.inc64_low
    | omega
    | omega
    | dsimp only
    | split

theorem State.flushQueue_low {B : Nat} {origin : State} (s : State) (p q : Nat) (low : Low B origin s) (cap : B ≤ 0x2200) : Low B origin (State.flushQueue s p q) := by
  unfold State.flushQueue
  repeat' first
    | intro _ _ _
    | intro _ _
    | intro _
    | with_reducible assumption
    | with_reducible apply Low.ite
    | with_reducible apply Low.foldl
    | with_reducible apply Low.fst_ite
    | with_reducible apply Low.snd_ite
    | with_reducible apply State.removeCopies_low
    | with_reducible apply State.addSat_low
    | (unfold queueIndex; omega)
    | omega
    | dsimp only
    | split

theorem State.queuesDown_low {B : Nat} {origin : State} (s : State) (p : Nat) (low : Low B origin s) (cap : B ≤ 0x2200) : Low B origin (State.queuesDown s p) := by
  unfold State.queuesDown
  repeat' first
    | intro _ _ _
    | intro _ _
    | intro _
    | with_reducible assumption
    | with_reducible apply Low.ite
    | with_reducible apply Low.foldl
    | with_reducible apply Low.fst_ite
    | with_reducible apply Low.snd_ite
    | with_reducible apply State.loseSending_low
    | with_reducible apply State.flushQueue_low
    | omega
    | omega
    | dsimp only
    | split

theorem State.returnIngress_low {B : Nat} {origin : State} (s : State) (g : Nat) (x : Cell) (low : Low B origin s) (cap : B ≤ 0x2200) : Low B origin (State.returnIngress s g x) := by
  unfold State.returnIngress
  repeat' first
    | intro _ _ _
    | intro _ _
    | intro _
    | with_reducible assumption
    | with_reducible apply Low.ite
    | with_reducible apply Low.foldl
    | with_reducible apply Low.fst_ite
    | with_reducible apply Low.snd_ite
    | with_reducible apply State.returnCell_low
    | omega
    | omega
    | dsimp only
    | split

theorem State.offerCell_low {B : Nat} {origin : State} (s : State) (g : Nat) (x : Cell) (low : Low B origin s) (cap : B ≤ 0x2200) : Low B origin (State.offerCell s g x) := by
  unfold State.offerCell
  repeat' first
    | intro _ _ _
    | intro _ _
    | intro _
    | with_reducible assumption
    | with_reducible apply Low.ite
    | with_reducible apply Low.foldl
    | with_reducible apply Low.fst_ite
    | with_reducible apply Low.snd_ite
    | with_reducible apply State.inc64_low
    | with_reducible apply State.setRegion_low
    | omega
    | omega
    | dsimp only
    | split

theorem State.offerAll_low {B : Nat} {origin : State} (s : State) (g : Nat) (f : RxFrame) (x : Cell) (low : Low B origin s) (cap : B ≤ 0x2200) : Low B origin (State.offerAll s g f x) := by
  unfold State.offerAll
  repeat' first
    | intro _ _ _
    | intro _ _
    | intro _
    | with_reducible assumption
    | with_reducible apply Low.ite
    | with_reducible apply Low.foldl
    | with_reducible apply Low.fst_ite
    | with_reducible apply Low.snd_ite
    | with_reducible apply State.offerCell_low
    | with_reducible apply State.returnIngress_low
    | omega
    | omega
    | dsimp only
    | split

theorem State.closeBad_low {B : Nat} {origin : State} (s : State) (p : Nat) (f : RxFrame) (payload : List Byte) (pool : Nat) (low : Low B origin s) (cap : B ≤ 0x2200) : Low B origin (State.closeBad s p f payload pool).1 := by
  unfold State.closeBad
  repeat' first
    | intro _ _ _
    | intro _ _
    | intro _
    | with_reducible assumption
    | with_reducible apply Low.ite
    | with_reducible apply Low.foldl
    | with_reducible apply Low.fst_ite
    | with_reducible apply Low.snd_ite
    | with_reducible apply State.offerAll_low
    | omega
    | omega
    | dsimp only
    | split

theorem State.abortRx_low {B : Nat} {origin : State} (s : State) (p : Nat) (low : Low B origin s) (cap : B ≤ 0x2200) : Low B origin (State.abortRx s p) := by
  unfold State.abortRx
  repeat' first
    | intro _ _ _
    | intro _ _
    | intro _
    | with_reducible assumption
    | with_reducible apply Low.ite
    | with_reducible apply Low.foldl
    | with_reducible apply Low.fst_ite
    | with_reducible apply Low.snd_ite
    | with_reducible apply State.setRx_low
    | with_reducible apply State.closeBad_low
    | with_reducible (refine Low.of_fst (by assumption) ?_; apply State.closeBad_low)
    | with_reducible apply State.returnCell_low
    | omega
    | omega
    | dsimp only
    | split

theorem State.judgeVernierCause_low {B : Nat} {origin : State} (s : State) (p : Nat) (low : Low B origin s) (cap : B ≤ 0x2200) : Low B origin (State.judgeVernierCause s p) := by
  unfold State.judgeVernierCause
  repeat' first
    | intro _ _ _
    | intro _ _
    | intro _
    | with_reducible assumption
    | with_reducible apply Low.ite
    | with_reducible apply Low.foldl
    | with_reducible apply Low.fst_ite
    | with_reducible apply Low.snd_ite
    | with_reducible apply State.putCause_low
    | omega
    | omega
    | dsimp only
    | split

theorem State.makeStale_low {B : Nat} {origin : State} (s : State) (l : Nat) (low : Low B origin s) (cap : B ≤ 0x2200) : Low B origin (State.makeStale s l) := by
  unfold State.makeStale
  repeat' first
    | intro _ _ _
    | intro _ _
    | intro _
    | with_reducible assumption
    | with_reducible apply Low.ite
    | with_reducible apply Low.foldl
    | with_reducible apply Low.fst_ite
    | with_reducible apply Low.snd_ite
    | with_reducible apply State.judgeVernierCause_low
    | with_reducible apply State.putBit_low
    | omega
    | omega
    | dsimp only
    | split

theorem State.startLane_low {B : Nat} {origin : State} (s : State) (l : Nat) (low : Low B origin s) (cap : B ≤ 0x2200) : Low B origin (State.startLane s l) := by
  unfold State.startLane
  repeat' first
    | intro _ _ _
    | intro _ _
    | intro _
    | with_reducible assumption
    | with_reducible apply Low.ite
    | with_reducible apply Low.foldl
    | with_reducible apply Low.fst_ite
    | with_reducible apply Low.snd_ite
    | with_reducible apply State.setDetector_low
    | with_reducible apply State.putBit_low
    | omega
    | omega
    | dsimp only
    | split

theorem State.calibrateNext_low {B : Nat} {origin : State} (s : State) (c : Nat) (low : Low B origin s) (cap : B ≤ 0x2200) : Low B origin (State.calibrateNext s c) := by
  unfold State.calibrateNext
  repeat' first
    | intro _ _ _
    | intro _ _
    | intro _
    | with_reducible assumption
    | with_reducible apply Low.ite
    | with_reducible apply Low.foldl
    | with_reducible apply Low.fst_ite
    | with_reducible apply Low.snd_ite
    | with_reducible apply State.startLane_low
    | omega
    | omega
    | dsimp only
    | split

theorem State.abandonLane_low {B : Nat} {origin : State} (s : State) (l : Nat) (low : Low B origin s) (cap : B ≤ 0x2200) : Low B origin (State.abandonLane s l) := by
  unfold State.abandonLane
  repeat' first
    | intro _ _ _
    | intro _ _
    | intro _
    | with_reducible assumption
    | with_reducible apply Low.ite
    | with_reducible apply Low.foldl
    | with_reducible apply Low.fst_ite
    | with_reducible apply Low.snd_ite
    | with_reducible apply State.putBit_low
    | with_reducible apply State.setTrim_low
    | with_reducible apply State.setDetector_low
    | with_reducible apply State.setNat_low
    | omega
    | omega
    | dsimp only
    | split

theorem State.resumeThreads_low {B : Nat} {origin : State} (s : State) (low : Low B origin s) (cap : B ≤ 0x2200) : Low B origin (State.resumeThreads s) := by
  unfold State.resumeThreads
  repeat' first
    | intro _ _ _
    | intro _ _
    | intro _
    | with_reducible assumption
    | with_reducible apply Low.ite
    | with_reducible apply Low.foldl
    | with_reducible apply Low.fst_ite
    | with_reducible apply Low.snd_ite
    | with_reducible apply State.setEngine_low
    | with_reducible apply State.setNat_low
    | omega
    | omega
    | dsimp only
    | split

theorem State.endIntrusion_low {B : Nat} {origin : State} (s : State) (low : Low B origin s) (cap : B ≤ 0x2200) : Low B origin (State.endIntrusion s) := by
  unfold State.endIntrusion
  repeat' first
    | intro _ _ _
    | intro _ _
    | intro _
    | with_reducible assumption
    | with_reducible apply Low.ite
    | with_reducible apply Low.foldl
    | with_reducible apply Low.fst_ite
    | with_reducible apply Low.snd_ite
    | with_reducible apply State.setEngine_low
    | with_reducible apply State.resumeThreads_low
    | omega
    | omega
    | dsimp only
    | split

theorem State.setMirror_low {B : Nat} {origin : State} (s : State) (m : Nat) (low : Low B origin s) (cap : B ≤ 0x2200) : Low B origin (State.setMirror s m) := by
  unfold State.setMirror
  repeat' first
    | intro _ _ _
    | intro _ _
    | intro _
    | with_reducible assumption
    | with_reducible apply Low.ite
    | with_reducible apply Low.foldl
    | with_reducible apply Low.fst_ite
    | with_reducible apply Low.snd_ite
    | with_reducible apply State.setNat_low
    | omega
    | omega
    | dsimp only
    | split

theorem State.startResync_low {B : Nat} {origin : State} (s : State) (low : Low B origin s) (cap : B ≤ 0x2200) : Low B origin (State.startResync s) := by
  unfold State.startResync
  repeat' first
    | intro _ _ _
    | intro _ _
    | intro _
    | with_reducible assumption
    | with_reducible apply Low.ite
    | with_reducible apply Low.foldl
    | with_reducible apply Low.fst_ite
    | with_reducible apply Low.snd_ite
    | with_reducible apply State.setMirror_low
    | omega
    | omega
    | dsimp only
    | split
    | with_reducible apply Low.upd_twin

theorem State.setRole_low {B : Nat} {origin : State} (s : State) (r : Nat) (low : Low B origin s) (cap : B ≤ 0x2200) : Low B origin (State.setRole s r) := by
  unfold State.setRole
  repeat' first
    | intro _ _ _
    | intro _ _
    | intro _
    | with_reducible assumption
    | with_reducible apply Low.ite
    | with_reducible apply Low.foldl
    | with_reducible apply Low.fst_ite
    | with_reducible apply Low.snd_ite
    | with_reducible apply State.setNat_low
    | with_reducible apply State.stateNotice_low
    | with_reducible apply State.endIntrusion_low
    | with_reducible apply State.startResync_low
    | omega
    | omega
    | dsimp only
    | split
    | with_reducible apply Low.upd_twin

theorem State.keepCadence_low {B : Nat} {origin : State} (s : State) (low : Low B origin s) (cap : B ≤ 0x2200) : Low B origin (State.keepCadence s) := by
  unfold State.keepCadence
  repeat' first
    | intro _ _ _
    | intro _ _
    | intro _
    | with_reducible assumption
    | with_reducible apply Low.ite
    | with_reducible apply Low.foldl
    | with_reducible apply Low.fst_ite
    | with_reducible apply Low.snd_ite
    | with_reducible apply State.settleSlew_low
    | with_reducible apply State.settlePulses_low
    | with_reducible apply State.setReg_low
    | with_reducible apply State.setNat_low
    | omega
    | omega
    | dsimp only
    | split

theorem State.takeLead_low {B : Nat} {origin : State} (s : State) (r : Nat) (low : Low B origin s) (cap : B ≤ 0x2200) : Low B origin (State.takeLead s r) := by
  unfold State.takeLead
  repeat' first
    | intro _ _ _
    | intro _ _
    | intro _
    | with_reducible assumption
    | with_reducible apply Low.ite
    | with_reducible apply Low.foldl
    | with_reducible apply Low.fst_ite
    | with_reducible apply Low.snd_ite
    | with_reducible apply State.keepCadence_low
    | with_reducible apply State.setRole_low
    | with_reducible apply State.inc32_low
    | with_reducible apply State.putBit_low
    | omega
    | omega
    | dsimp only
    | split

theorem State.holdTable_low {B : Nat} {origin : State} (s : State) (low : Low B origin s) (cap : B ≤ 0x2200) : Low B origin (State.holdTable s) := by
  unfold State.holdTable
  repeat' first
    | intro _ _ _
    | intro _ _
    | intro _
    | with_reducible assumption
    | with_reducible apply Low.ite
    | with_reducible apply Low.foldl
    | with_reducible apply Low.fst_ite
    | with_reducible apply Low.snd_ite
    | with_reducible apply State.setRole_low
    | with_reducible apply State.takeLead_low
    | omega
    | omega
    | dsimp only
    | split

theorem State.twinLinkDown_low {B : Nat} {origin : State} (s : State) (low : Low B origin s) (cap : B ≤ 0x2200) : Low B origin (State.twinLinkDown s) := by
  unfold State.twinLinkDown
  repeat' first
    | intro _ _ _
    | intro _ _
    | intro _
    | with_reducible assumption
    | with_reducible apply Low.ite
    | with_reducible apply Low.foldl
    | with_reducible apply Low.fst_ite
    | with_reducible apply Low.snd_ite
    | with_reducible apply State.addSat_low
    | with_reducible apply State.putBit_low
    | with_reducible apply State.setMirror_low
    | with_reducible apply State.holdTable_low
    | omega
    | omega
    | dsimp only
    | split
    | with_reducible apply Low.upd_twin

theorem State.countMissed_low {B : Nat} {origin : State} (s : State) (k n : Nat) (low : Low B origin s) (cap : B ≤ 0x2200) : Low B origin (State.countMissed s k n) := by
  unfold State.countMissed
  repeat' first
    | intro _ _ _
    | intro _ _
    | intro _
    | with_reducible assumption
    | with_reducible apply Low.ite
    | with_reducible apply Low.foldl
    | with_reducible apply Low.fst_ite
    | with_reducible apply Low.snd_ite
    | with_reducible apply State.addSat_low
    | omega
    | omega
    | dsimp only
    | split
    | with_reducible apply Low.upd_twin

theorem State.loseInFlight_low {B : Nat} {origin : State} (s : State) (k : Nat) (low : Low B origin s) (cap : B ≤ 0x2200) : Low B origin (State.loseInFlight s k) := by
  unfold State.loseInFlight
  repeat' first
    | intro _ _ _
    | intro _ _
    | intro _
    | with_reducible assumption
    | with_reducible apply Low.ite
    | with_reducible apply Low.foldl
    | with_reducible apply Low.fst_ite
    | with_reducible apply Low.snd_ite
    | with_reducible apply State.addSat_low
    | with_reducible apply State.startResync_low
    | omega
    | omega
    | dsimp only
    | split
    | with_reducible apply Low.upd_twin

theorem State.twinLaneDown_low {B : Nat} {origin : State} (s : State) (k : Nat) (low : Low B origin s) (cap : B ≤ 0x2200) : Low B origin (State.twinLaneDown s k) := by
  unfold State.twinLaneDown
  repeat' first
    | intro _ _ _
    | intro _ _
    | intro _
    | with_reducible assumption
    | with_reducible apply Low.ite
    | with_reducible apply Low.foldl
    | with_reducible apply Low.fst_ite
    | with_reducible apply Low.snd_ite
    | with_reducible apply State.countMissed_low
    | with_reducible apply State.putBit_low
    | with_reducible apply State.loseInFlight_low
    | with_reducible apply State.raise_low
    | with_reducible apply State.twinLinkDown_low
    | omega
    | omega
    | dsimp only
    | split
    | with_reducible apply Low.upd_twin

theorem State.fecStop_low {B : Nat} {origin : State} (s : State) (p : Nat) (low : Low B origin s) (cap : B ≤ 0x2100) : Low B origin (State.fecStop s p) := by
  unfold State.fecStop
  repeat' first
    | intro _ _ _
    | intro _ _
    | intro _
    | with_reducible assumption
    | with_reducible apply Low.ite
    | with_reducible apply Low.foldl
    | with_reducible apply Low.fst_ite
    | with_reducible apply Low.snd_ite
    | with_reducible apply State.setNat_low
    | with_reducible apply State.setPort_low
    | omega
    | omega
    | dsimp only
    | split

theorem State.portDown_low {B : Nat} {origin : State} (s : State) (p st : Nat) (low : Low B origin s) (cap : B ≤ 0x2100) : Low B origin (State.portDown s p st) := by
  unfold State.portDown
  repeat' first
    | intro _ _ _
    | intro _ _
    | intro _
    | with_reducible assumption
    | with_reducible apply Low.ite
    | with_reducible apply Low.foldl
    | with_reducible apply Low.fst_ite
    | with_reducible apply Low.snd_ite
    | with_reducible apply State.holdBuffer_low
    | with_reducible apply State.setNat_low
    | with_reducible apply State.setPort_low
    | with_reducible apply State.inc64_low
    | with_reducible apply State.fecStop_low
    | with_reducible apply State.abortRx_low
    | with_reducible apply State.queuesDown_low
    | with_reducible apply State.timingOff_low
    | with_reducible apply State.abandonLane_low
    | with_reducible apply State.refsUpdate_low
    | with_reducible apply State.calibrateNext_low
    | omega
    | omega
    | dsimp only
    | split

theorem State.portUpAs_low {B : Nat} {origin : State} (s : State) (p st : Nat) (low : Low B origin s) (cap : B ≤ 0x2100) : Low B origin (State.portUpAs s p st) := by
  unfold State.portUpAs
  repeat' first
    | intro _ _ _
    | intro _ _
    | intro _
    | with_reducible assumption
    | with_reducible apply Low.ite
    | with_reducible apply Low.foldl
    | with_reducible apply Low.fst_ite
    | with_reducible apply Low.snd_ite
    | with_reducible apply State.setNat_low
    | with_reducible apply State.setPort_low
    | with_reducible apply State.timingOn_low
    | with_reducible apply State.timingOff_low
    | with_reducible apply State.refsUpdate_low
    | with_reducible apply State.calibrateNext_low
    | omega
    | omega
    | dsimp only
    | split

theorem State.portMode_low {B : Nat} {origin : State} (s : State) (p st : Nat) (low : Low B origin s) (cap : B ≤ 0x2100) : Low B origin (State.portMode s p st) := by
  unfold State.portMode
  repeat' first
    | intro _ _ _
    | intro _ _
    | intro _
    | with_reducible assumption
    | with_reducible apply Low.ite
    | with_reducible apply Low.foldl
    | with_reducible apply Low.fst_ite
    | with_reducible apply Low.snd_ite
    | with_reducible apply State.setNat_low
    | with_reducible apply State.timingOn_low
    | with_reducible apply State.timingOff_low
    | with_reducible apply State.refsUpdate_low
    | omega
    | omega
    | dsimp only
    | split

theorem State.judgePort_low {B : Nat} {origin : State} (s : State) (p : Nat) (low : Low B origin s) (cap : B ≤ 0x2100) : Low B origin (State.judgePort s p) := by
  unfold State.judgePort
  repeat' first
    | intro _ _ _
    | intro _ _
    | intro _
    | with_reducible assumption
    | with_reducible apply Low.ite
    | with_reducible apply Low.foldl
    | with_reducible apply Low.fst_ite
    | with_reducible apply Low.snd_ite
    | with_reducible apply State.portMode_low
    | with_reducible apply State.setPort_low
    | with_reducible apply State.portUpAs_low
    | omega
    | omega
    | dsimp only
    | split

theorem State.markBond_low {B : Nat} {origin : State} (s : State) (n : Nat) (low : Low B origin s) : Low B origin (State.markBond s n) :=
  low.same ((State.markBond_only (M := 0x180) _ _ (Only.refl _ _) rfl).regs rfl)

theorem State.lanePortLost_low {B : Nat} {origin : State} (s : State) (n : Nat) (low : Low B origin s) (cap : B ≤ 0x2100) : Low B origin (State.lanePortLost s n) := by
  unfold State.lanePortLost
  repeat' first
    | intro _ _ _
    | intro _ _
    | intro _
    | with_reducible assumption
    | with_reducible apply Low.ite
    | with_reducible apply Low.foldl
    | with_reducible apply Low.fst_ite
    | with_reducible apply Low.snd_ite
    | with_reducible apply State.twinLaneDown_low
    | with_reducible apply State.markBond_low
    | with_reducible apply State.portDown_low
    | with_reducible apply State.raise_low
    | with_reducible apply State.setPort_low
    | omega
    | omega
    | dsimp only
    | split

theorem State.lanePortDown_low {B : Nat} {origin : State} (s : State) (n : Nat) (low : Low B origin s) (cap : B ≤ 0x2100) : Low B origin (State.lanePortDown s n) := by
  unfold State.lanePortDown
  repeat' first
    | intro _ _ _
    | intro _ _
    | intro _
    | with_reducible assumption
    | with_reducible apply Low.ite
    | with_reducible apply Low.foldl
    | with_reducible apply Low.fst_ite
    | with_reducible apply Low.snd_ite
    | with_reducible apply State.twinLaneDown_low
    | with_reducible apply State.portDown_low
    | omega
    | omega
    | dsimp only
    | split

end Sys2Proof.Machine
end

