-- ==== Sys2Proof/Machine/Pins.lean ====
section
/-! DEFINITION. What the block drives on its pins, read from its state (19_start_up.md R483; 20_pins_and_electrical.md R487; 15_faults.md R397,
R398; 04_ports_and_modules.md R102, R104; 14_twin_pair.md R359). Firefly and clock outputs stand with what moves them: `State.fireflyPin`,
`State.clockLevel`. -/

namespace Sys2Proof.Machine

/-- The safety island drives its pins: PD9 is powered and the device is not in reset (R483). -/
def State.safetyDrives (s : State) : Bool := s.start.powered && !s.start.inReset

/-- The hub drives its pins: PD8 is on as well, from step 3 of a cold start (R483; 04 R104). -/
def State.hubDrives (s : State) : Bool := s.safetyDrives && s.domains.testBit 8

/-- A pin that is driven where `on` holds, high where `level` does. -/
def drivenPin (on level : Bool) : PinLevel := if !on then .highImpedance else if level then .high else .low

/-- ERR_N and SAFE_N are low while asserted; TWIN_HOLD_OUT is high (R397, R398; 14 R359). -/
def State.errPin (s : State) : PinLevel := drivenPin s.safetyDrives (!s.errN)
def State.safePin (s : State) : PinLevel := drivenPin s.safetyDrives (!s.safeN)
def State.holdOutPin (s : State) : PinLevel := drivenPin s.safetyDrives s.twin.holdOut

/-- MOD_TXDIS_n is high while TX_DISABLE is asserted; MOD_RESET_N_c and MOD_SEL_n are low while asserted (R483; 04 R102, R104). -/
def State.txDisPin (s : State) (n : Nat) : PinLevel := drivenPin s.hubDrives (s.txDisabled n)
def State.modResetPin (s : State) (c : Nat) : PinLevel := drivenPin s.hubDrives (!s.modReset.testBit c)
def State.modSelPin (s : State) (n : Nat) : PinLevel := drivenPin s.hubDrives (!s.modSelected n)

/-- SPIS_ATTN_N is low while a response or a notice waits (20 R487). -/
def State.attnPin (s : State) : PinLevel := drivenPin s.hubDrives (s.spiStatus == 0)

/-- How a CAN FD transmit pin stands. -/
inductive CanLine where
  | notDriven | recessive | active
deriving DecidableEq, Repr

/-- CAN FD transmits once the server runs, and is recessive until then (R483). -/
def State.canTransmit (s : State) : CanLine := if !s.hubDrives then .notDriven else if s.start.server then .active else .recessive

/-- The SPI target's output drives once the server runs (R483). -/
def State.spiDrives (s : State) : Bool := s.hubDrives && s.start.server

/-- The flash interface drives from step 5 of a cold start and step 4 of a warm one (R483). -/
def State.flashDrives (s : State) : Bool :=
  s.hubDrives && (s.isUp || s.isSafe || decide ((if s.runState = 1 then 4 else 5) ≤ s.nat 0xD000 0x0A))

/-- The I2C masters release their lines until a start completes (R483). -/
def State.i2cReleased (s : State) : Bool := !s.hubDrives || decide (s.runState < 2)

end Sys2Proof.Machine
end

