-- ==== Sys2Proof/WellFormed.lean ====
section
/-! DEFINITION. Which terms of `Instr` are commands: the limits that the spec gives operands whose type is wider. The machine is total; an
ill-formed term stands for no command. -/

namespace Sys2Proof

/-- Ranges of adapted values (03_lanes.md R74, R501). -/
def AdaptRecord.wellFormed (r : AdaptRecord) : Bool :=
  let small := fun (v : Int) => decide (-128 ≤ v ∧ v ≤ 127)
  decide (r.sweep.length ≤ 16) && r.sweep.all (fun v => decide (v < 256)) && decide (r.gain < 256) && decide (r.taps.length ≤ 12) &&
    r.taps.all small && decide (r.tx.length ≤ 5) && r.tx.all small

/-- A held cell lies in a port's slice or the hub's, in one of a frame's three variants (07_buffers_and_queues.md R184; 05_forwarding.md R131). -/
def HeldPlace.wellFormed (h : HeldPlace) : Bool := decide (h.port < 128) && decide (h.variant < 3)

/-- The widths of a mirror message's fields: epoch U32, index U16, subindex U8 (14_twin_pair.md R363, 16_object_dictionary.md R413). -/
def MirrorMessage.wellFormed : MirrorMessage → Bool
  | .commit _ epoch values => decide (epoch < 2 ^ 32) && values.all (fun v => decide (v.1 < 65536) && decide (v.2.1 < 256))
  | .applied epoch | .refused epoch => decide (epoch < 2 ^ 32)
  | .lost => true

/-- The widths of a Keacon header's fields: class 1 to 5, sender 0 or 1, sequence U16, length U16 (14_twin_pair.md R352). -/
def KeaconHead.wellFormed (h : KeaconHead) : Bool := decide (1 ≤ h.cls ∧ h.cls ≤ 5) && decide (h.sender < 2) && decide (h.sequence < 65536) && decide (h.length < 65536) && decide (1 ≤ h.frames)

/-- Widths of what carried a request: the port, VLAN and addresses of a frame, the function code of a CAN identifier (16_object_dictionary.md R410). -/
def Arrival.wellFormed (a : Arrival) : Bool :=
  decide (a.port < 96) && decide (a.vid < 4096) && decide (a.source < 2 ^ 48) && decide (a.destination < 2 ^ 128) && decide (a.function < 16)

/-- Widths of a request's header and trailer fields (16_object_dictionary.md R413). -/
def Request.wellFormed (r : Request) : Bool := decide (r.rid < 65536) && decide (r.seq < 2 ^ 32) && r.arrival.wellFormed

/-- A detection names a source of R380, with a detail byte (15_faults.md R380, R390). -/
def Detection.wellFormed (d : Detection) : Bool := decide (d.source < 1536) && decide (d.detail < 256)

/-- How many items a fence level has (15_faults.md R403). -/
def levelSize : FenceLevel → Nat
  | .port => 96
  | .timestampUnit => 96
  | .detector => 120
  | .bank => 128
  | .engine => 16
  | .cluster => 24
  | .region => 8

/-- Entries of a table, by its code (05_forwarding.md R116, R117, R122, R125, R129; 08_contracted_delivery.md R205). -/
def tablePositions (t : TableId) : Nat := [131072, 4096, 8192, 16384, 16384, 1024].getD t.val 0

/-- The command's operands lie within the limits that the spec gives them. -/
def Instr.wellFormed : Instr → Bool
  | .signalDetected .. | .cdrLock .. | .polarityTryExpiry .. | .blockLock .. => true
  | .adaptComplete _ _ rec => rec.wellFormed
  | .syntonyIntervalEnd .. | .elasticFillLimit .. | .rateMatchSwitch .. | .syntonisedSwitch .. | .trainingTimeout .. | .backoffExpiry ..
  | .retryNow .. | .signalLoss .. | .laneLockLoss .. | .reDeskewComplete .. | .lanePllLockLoss .. | .lanePllRelock .. | .reAdapt ..
  | .fomMeasurement .. | .quietTransmit .. | .quietReceive .. | .testModeSet .. | .testModeClear .. | .errorInjectionOne ..
  | .errorInjectionRate .. | .injectedError .. | .checkerSync .. | .checkerSyncLoss .. | .moduleInsert .. | .moduleRemove ..
  | .rereadModule .. => true
  | .moduleIdentityRead _ page _ record => decide (page.length ≤ 128) && decide (record.length ≤ 64)
  | .moduleReadyTimeout .. => true
  | .linkIdentityRecordWrite _ _ bytes _ => decide (bytes.length ≤ 1028)
  | .diagnosticsPoll _ values => values.length == 5
  | .modResetRelease .. | .statisticsClear .. | .frameArrival .. => true
  | .lookupWindowComplete _ window unreadable => decide (window.length ≤ 128) && unreadable.all (fun e => decide (e.2 < tablePositions e.1))
  | .cellFill _ payload => payload.length == 256
  | .frameTail _ _ payload => decide (payload.length ≤ 256)
  | .learnInsert | .ageingStep | .overlayFold .. | .drainTable .. | .drainComplete .. => true
  | .tableScrub _ t position _ => decide (position < tablePositions t)
  | .scarabRestore .. | .frerResetTimeout .. | .streamGateListActivation .. | .streamGateIntervalEnd .. => true
  | .hubFrameSend _ _ destination untag _ _ payload _ _ _ _ => decide (64 ≤ payload.length) && decide (destination < 2 ^ 96) && decide (untag < 2 ^ 96)
  | .fabricSlot .. | .cellArrival .. | .holeTimeout .. | .alignmentMark .. | .resyncClear .. | .cutThroughHoldRelease .. | .epochClose ..
  | .creditRestore .. | .egressSelection .. | .releaseInstant .. | .egressUnderrun .. | .ageSweep .. | .gateListActivation ..
  | .gateIntervalEnd .. | .queueFlush .. => true
  | .bufferScrub _ _ held _ => held.all HeldPlace.wellFormed
  | .measuredOffsetWrite .. | .steeringOffsetWrite .. | .step .. | .stepEdge .. => true
  | .set _ _ seconds nanoseconds fraction => decide (seconds < 2 ^ 48) && decide (nanoseconds < 2 ^ 32) && decide (fraction < 65536)
  | .setEdge .. | .compareArm .. | .compareDisarm .. | .compareFire .. | .fireflyGridInstant .. | .realignImmediate .. | .realignSlewed ..
  | .slewComplete .. | .captureEdge .. => true
  | .captureRingRead rq => rq.wellFormed
  | .resetRing .. | .timeLineMarker .. | .timeLineMessage .. | .delayResult .. | .acceptPresentDelay .. | .acceptProposal ..
  | .calibrateAsymmetry .. | .abortCalibration .. | .asymmetryCalibrationEnd .. => true
  | .detectorComparison _ _ own spare => (own.length == 1024) && (spare.length == 1024)
  | .detectorCalibrationDone .. => true
  | .laneCalibrationMeasure _ _ _ trims biases => (trims.length == 3) && (biases.length == 3)
  | .detectorHandback _ _ own spare => (own.length == 1024) && (spare.length == 1024)
  | .slotGuardExpiry .. | .disputeEnd .. | .candidateGuardExpiry .. | .phaseAccept .. | .pinInputLoss .. | .esmcReceive ..
  | .esmcTimeout .. | .esmcSend | .frequencyLock | .synthLock .. | .synthLockLoss .. | .backupReady .. | .backupAlignmentLoss .. | .swap ..
  | .syncInEdge .. | .calibrationPeriodExpiry .. | .temperatureTrigger .. | .calibrateNow .. | .calibrationRoundEnd
  | .fireflyVernierApply .. | .sensorChannelCalibration .. => true
  | .keaconHandshake _ _ twinId fwVersion layout _ twinFenced twinTb0 covers => decide (twinId < 2) && decide (fwVersion < 2 ^ 32) && decide (layout < 65536) && decide (twinFenced < 256) && decide (twinTb0 < 5) &&
    decide (covers.length = 96) && covers.all (fun c => decide (c < 5))
  | .cricketSend => true
  | .cricketReceive _ head payload received => head.wellFormed && decide (payload.length ≤ 16480) && (received.length == 8)
  | .cricketTimeout | .twinWaitExpiry | .handover .. | .holdoverTakeover | .yieldReceive | .twinHoldInChange .. | .sharedOutputEnable
  | .holdMismatch | .keaconReorderTimeout .. => true
  | .mirrorFrameReceive head message => head.wellFormed && message.wellFormed
  | .resync .. | .resyncComplete => true
  | .coverNoticeReceive head _ => head.wellFormed
  | .coverFrameReceive head _ vid priority untag _ => head.wellFormed && decide (vid < 4096) && decide (priority < 8) && decide (untag < 2 ^ 96)
  | .coverFrameTimeout => true
  | .uncoverNoticeReceive head _ => head.wellFormed
  | .uncoverAckReceive head _ => head.wellFormed
  | .releaseCover .. => true
  | .faultDetection detections _ => detections.all Detection.wellFormed
  | .selfFault .. => true
  | .maskEnd level item => decide (item < levelSize level)
  | .consequenceWindowClose | .clearFirstFault .. => true
  | .faultRecordsRead rq => rq.wellFormed
  | .acknowledge .. | .errNMinimumExpiry => true
  | .hostFence _ _ item => decide (item < 65536)
  | .fenceRelease _ _ item _ => decide (item < 65536)
  | .supplyOutOfRange .. | .temperatureThreshold .. | .timingBankSupplyLoss .. => true
  | .openRequest transport _ credential _ arrival => decide (1 ≤ transport.val) && decide (credential < 16 ∨ credential = 255) && arrival.wellFormed
  | .openConfirm _ _ arrival => arrival.wellFormed
  | .close rq => rq.wellFormed
  | .keepalive rq => rq.wellFormed
  | .read rq _ _ offset => rq.wellFormed && decide (offset < 2 ^ 32)
  | .writeAndHold rq _ _ _ offset _ _ bytes _ => rq.wellFormed && decide (offset < 2 ^ 32) && decide (bytes.length ≤ 1028)
  | .writeAndCommit rq _ _ offset _ _ bytes _ => rq.wellFormed && decide (offset < 2 ^ 32) && decide (bytes.length ≤ 1028)
  | .commit rq _ => rq.wellFormed
  | .abortGroup rq _ => rq.wellFormed
  | .claim rq _ _ => rq.wellFormed
  | .release rq _ _ => rq.wellFormed
  | .commitPoint | .registerWrite .. | .sessionTimeout .. => true
  | .transportLost transport => decide (1 ≤ transport.val)
  | .snapshotTimeout .. => true
  | .relayedRequest route message reply => decide (1 ≤ route.transport ∧ route.transport < 7) && route.arrival.wellFormed &&
    decide (message.length ≤ 1060) && reply.all (fun m => decide (m.length ≤ 1060))
  | .spiSendRequest message _ _ _ => decide (32 ≤ message.length) && decide (message.length ≤ 1060)
  | .spiTakeResponse | .spiPoll | .spiWordRead .. | .watchdogRestart .. | .watchdogExpiry .. | .engineTrap .. | .threadTimerExpiry ..
  | .imageLoadComplete .. => true
  | .epochBoundary elapsed => elapsed.all (fun x => decide (x.2 < 2 ^ 48))
  | .counterWrap .. | .monitorSample .. | .clearCounters .. | .overflowMapClear .. => true
  | .toProvisioned _ _ digest0 digest1 => decide (digest0.length ≤ 48) && decide (digest1.length ≤ 48)
  | .toDeployed .. | .toDecommissioned .. | .revokeOwnerSlot .. | .pendingCommandLapse | .fuseBurnComplete .. | .raiseBaseFloor ..
  | .raiseOwnerFloor .. | .debugChallengeRead .. => true
  | .debugResponse _ slot _ => decide (slot < 16)
  | .challengeLapse | .grantExpiry | .endGrant .. | .closeOpen .. | .probeHalt .. | .probeIntrusiveAccess .. | .probeNonintrusiveAccess ..
  | .powerUp .. | .resetNAssert | .resetNRelease .. | .regionSupplyTimeout .. | .startCommand .. | .startStepTimeout | .startRetry ..
  | .settleTimeExpiry | .releaseHold .. | .holdLimitExpiry | .imageSave .. | .imageErase .. | .stallLimitExpiry .. => true
  | .frequencyOffsetMeasurement _ phases => phases.length == 1000
  | .referencePinEdge .. | .slotOffsetTimeout .. | .dictionaryPortWrite .. | .hubChannelFrameBoundary .. | .powerRemoval => true

end Sys2Proof
end

