-- ==== Sys2Proof/Tests/Slice0.lean ====
section
/-! SUPPORT. Tests: ill-formed terms, values that the spec works out, limits, and a witness for the hypotheses of every statement. -/

open Sys2Proof Sys2Proof.Machine

set_option linter.unusedVariables false
set_option Elab.async false

namespace Sys2Proof.Tests

/-- A state in RUN, built from reset: the server and the fabric run. -/
def up : State :=
  { State.reset.setNat 0x1000 0x08 2 with start := { State.reset.start with server := true, fabric := true } }

/-- A state with numeric entries set: index, subindex, value. -/
def put (s : State) (l : List (Nat × Nat × Int)) : State := l.foldl (fun a e => a.setReg e.1 e.2.1 e.2.2) s

/-- The state after a command. -/
def after (c : Instr) (s : State) : State :=
  match exec c s with
  | .next t => t
  | _ => s

/-- A copy that may start: complete, of one cell. -/
def readyCopy : Copy := { complete := true, cells := [{ first := true, last := true }] }

/-- The entry of an offset limit. -/
def offsetLimitEntry : OdEntry := (findEntry 0x6000 0x0C).getD ⟨0, 0, .u8, .ro, 0, false, 0, 0, .observe⟩

theorem offsetLimit_found : findEntry 0x6000 0x0C = some offsetLimitEntry := by decide +kernel

/-- A state whose frequency selector is about to lock. -/
def toLock : State :=
  { (put up [(0x7010, 0x02, 3), (0x7010, 0x01, 7), (0x7007, 0x01, 6), (0x7007, 0x05, 2), (0x7007, 0x07, 3), (0x7007, 0x08, 3)]).setSlot 7 { pinPresent := true, measured := true } with
    freqNear := some 5, now := 1000000005 }

/-! ## Ill-formed terms are refused, one for each check -/

theorem smoke_adapt_record :
    (Instr.adaptComplete 0 30 { sweep := List.replicate 17 0 }).wellFormed = false ∧
    (Instr.adaptComplete 0 30 { sweep := [256] }).wellFormed = false ∧ (Instr.adaptComplete 0 30 { gain := 256 }).wellFormed = false ∧
    (Instr.adaptComplete 0 30 { taps := List.replicate 13 0 }).wellFormed = false ∧
    (Instr.adaptComplete 0 30 { taps := [128] }).wellFormed = false ∧  (Instr.adaptComplete 0 30 { tx := List.replicate 6 0 }).wellFormed = false ∧
    (Instr.adaptComplete 0 30 { tx := [-129] }).wellFormed = false := by decide

theorem smoke_request :
    (Instr.keepalive { session := 0, rid := 65536 }).wellFormed = false ∧
    (Instr.captureRingRead { session := 0, seq := 4294967296 }).wellFormed = false ∧
    (Instr.faultRecordsRead { session := 0, rid := 65536 }).wellFormed = false ∧
    (Instr.close { session := 0, rid := 65536 }).wellFormed = false ∧
    (Instr.keepalive { session := 0, arrival := { port := 96 } }).wellFormed = false ∧
    (Instr.keepalive { session := 0, arrival := { vid := 4096 } }).wellFormed = false ∧
    (Instr.keepalive { session := 0, arrival := { source := 2 ^ 48 } }).wellFormed = false ∧
    (Instr.keepalive { session := 0, arrival := { destination := 2 ^ 128 } }).wellFormed = false ∧
    (Instr.keepalive { session := 0, arrival := { function := 16 } }).wellFormed = false ∧
    (Instr.commit { session := 0, rid := 65536 } 0).wellFormed = false ∧
    (Instr.abortGroup { session := 0, rid := 65536 } 0).wellFormed = false ∧
    (Instr.claim { session := 0, rid := 65536 } 0 0).wellFormed = false ∧
    (Instr.release { session := 0, rid := 65536 } 0 0).wellFormed = false := by decide

theorem smoke_read_and_write :
    (Instr.read { session := 0 } 0 0 4294967296).wellFormed = false ∧
    (Instr.writeAndHold { session := 0 } 0 0 0 4294967296 true true [] true).wellFormed = false ∧
    (Instr.writeAndHold { session := 0 } 0 0 0 0 true true (List.replicate 1029 0) true).wellFormed = false ∧
    (Instr.writeAndCommit { session := 0 } 0 0 4294967296 true true [] true).wellFormed = false ∧
    (Instr.writeAndCommit { session := 0 } 0 0 0 true true (List.replicate 1029 0) true).wellFormed = false := by decide +kernel

theorem smoke_messages :
    (Instr.relayedRequest { transport := 0 } [] none).wellFormed = false ∧ (Instr.relayedRequest { transport := 7 } [] none).wellFormed = false ∧
    (Instr.relayedRequest { arrival := { vid := 4096 } } [] none).wellFormed = false ∧
    (Instr.relayedRequest {} (List.replicate 1061 0) none).wellFormed = false ∧
    (Instr.relayedRequest {} [] (some (List.replicate 1061 0))).wellFormed = false ∧
    (Instr.spiSendRequest (List.replicate 31 0) true true none).wellFormed = false ∧
    (Instr.spiSendRequest (List.replicate 1061 0) true true none).wellFormed = false ∧
    (Instr.openRequest 0 .observe 255 [] {}).wellFormed = false ∧ (Instr.openRequest 1 .observe 16 [] {}).wellFormed = false ∧
    (Instr.openRequest 1 .observe 255 [] { port := 96 }).wellFormed = false ∧ (Instr.openConfirm 1 true { port := 96 }).wellFormed = false ∧
    (Instr.transportLost 0).wellFormed = false := by decide +kernel

theorem smoke_modules :
    (Instr.moduleIdentityRead 0 (List.replicate 129 0) 0 []).wellFormed = false ∧
    (Instr.moduleIdentityRead 0 [] 0 (List.replicate 65 0)).wellFormed = false ∧
    (Instr.linkIdentityRecordWrite .service 0 (List.replicate 1029 0) .verified).wellFormed = false ∧
    (Instr.diagnosticsPoll 0 [1, 2, 3, 4]).wellFormed = false := by decide +kernel

theorem smoke_forwarding :
    (Instr.lookupWindowComplete 0 (List.replicate 129 0) []).wellFormed = false ∧
    (Instr.lookupWindowComplete 0 [] [(5, 1024)]).wellFormed = false ∧ (Instr.cellFill 0 []).wellFormed = false ∧
    (Instr.frameTail 0 .good (List.replicate 257 0)).wellFormed = false ∧ (Instr.tableScrub 0 5 1024 .clean).wellFormed = false ∧
    (Instr.tableScrub 0 5 1023 .clean).wellFormed = true ∧
    (Instr.hubFrameSend 0 0 0 0 0 0 (List.replicate 63 0) 0 0 0 none).wellFormed = false ∧
    (Instr.hubFrameSend 0 0 (2 ^ 96) 0 0 0 (List.replicate 64 0) 0 0 0 none).wellFormed = false ∧
    (Instr.hubFrameSend 0 0 0 (2 ^ 96) 0 0 (List.replicate 64 0) 0 0 0 none).wellFormed = false ∧
    (Instr.bufferScrub 0 0 (some ⟨false, 128, 0, 0, 0⟩) .clean).wellFormed = false ∧
    (Instr.bufferScrub 0 0 (some ⟨false, 0, 0, 3, 0⟩) .clean).wellFormed = false := by decide +kernel

theorem smoke_timing :
    (Instr.set none 0 (2 ^ 48) 0 0).wellFormed = false ∧ (Instr.set none 0 0 (2 ^ 32) 0).wellFormed = false ∧
    (Instr.set none 0 0 0 65536).wellFormed = false ∧
    (Instr.laneCalibrationMeasure 0 0 0 [1, 2] [1, 2, 3]).wellFormed = false ∧
    (Instr.laneCalibrationMeasure 0 0 0 [1, 2, 3] [1, 2]).wellFormed = false ∧
    (Instr.epochBoundary [(0, 2 ^ 48)]).wellFormed = false ∧
    (Instr.detectorComparison 0 0 (List.replicate 1023 0) (List.replicate 1024 0)).wellFormed = false ∧
    (Instr.detectorHandback 0 0 (List.replicate 1024 0) (List.replicate 1025 0)).wellFormed = false ∧
    (Instr.frequencyOffsetMeasurement 0 (List.replicate 999 0)).wellFormed = false := by decide +kernel

theorem smoke_twin :
    (Instr.keaconHandshake 0 0 2 0 0 true 0 0 (List.replicate 96 0)).wellFormed = false ∧
    (Instr.keaconHandshake 0 0 0 (2 ^ 32) 0 true 0 0 (List.replicate 96 0)).wellFormed = false ∧
    (Instr.keaconHandshake 0 0 0 0 65536 true 0 0 (List.replicate 96 0)).wellFormed = false ∧
    (Instr.keaconHandshake 0 0 0 0 0 true 256 0 (List.replicate 96 0)).wellFormed = false ∧
    (Instr.keaconHandshake 0 0 0 0 0 true 0 5 (List.replicate 96 0)).wellFormed = false ∧
    (Instr.keaconHandshake 0 0 0 0 0 true 0 0 (List.replicate 95 0)).wellFormed = false ∧
    (Instr.keaconHandshake 0 0 0 0 0 true 0 0 (List.replicate 96 5)).wellFormed = false ∧
    (Instr.cricketReceive 0 { cls := 1, sequence := 65536 } [] (List.replicate 8 0)).wellFormed = false ∧
    (Instr.cricketReceive 0 { cls := 1, sequence := 0 } (List.replicate 16481 0) (List.replicate 8 0)).wellFormed = false ∧
    (Instr.cricketReceive 0 { cls := 1, sequence := 0 } [] (List.replicate 7 0)).wellFormed = false := by decide +kernel

theorem smoke_mirror_and_cover :
    (Instr.mirrorFrameReceive { cls := 3, sequence := 0 } (.commit true (2 ^ 32) [])).wellFormed = false ∧
    (Instr.mirrorFrameReceive { cls := 2, sequence := 0 } (.applied (2 ^ 32))).wellFormed = false ∧
    (Instr.mirrorFrameReceive { cls := 2, sequence := 0 } (.refused (2 ^ 32))).wellFormed = false ∧
    (Instr.mirrorFrameReceive { cls := 6, sequence := 0 } .lost).wellFormed = false ∧
    (Instr.mirrorFrameReceive { cls := 2, sender := 2, sequence := 0 } .lost).wellFormed = false ∧
    (Instr.mirrorFrameReceive { cls := 3, sequence := 0, length := 65536 } (.commit true 0 [])).wellFormed = false ∧
    (Instr.mirrorFrameReceive { cls := 3, sequence := 0, frames := 0 } (.commit true 0 [])).wellFormed = false ∧
    (Instr.mirrorFrameReceive { cls := 3, sequence := 0 } (.commit true 0 [(65536, 0, [])])).wellFormed = false ∧
    (Instr.mirrorFrameReceive { cls := 3, sequence := 0 } (.commit true 0 [(0, 256, [])])).wellFormed = false ∧
    (Instr.coverNoticeReceive { cls := 2, sequence := 65536 } 0).wellFormed = false ∧
    (Instr.uncoverNoticeReceive { cls := 2, sequence := 65536 } 0).wellFormed = false ∧
    (Instr.uncoverAckReceive { cls := 2, sequence := 65536 } 0).wellFormed = false ∧
    (Instr.coverFrameReceive { cls := 4, sequence := 65536 } 0 0 0 0 []).wellFormed = false ∧
    (Instr.coverFrameReceive { cls := 4, sequence := 0 } 0 4096 0 0 []).wellFormed = false ∧
    (Instr.coverFrameReceive { cls := 4, sequence := 0 } 0 0 8 0 []).wellFormed = false ∧
    (Instr.coverFrameReceive { cls := 4, sequence := 0 } 0 0 0 (2 ^ 96) []).wellFormed = false := by
  decide +kernel

theorem smoke_faults_and_security :
    (Instr.faultDetection [⟨1536, 0⟩] {}).wellFormed = false ∧ (Instr.faultDetection [⟨0, 256⟩] {}).wellFormed = false ∧
    (Instr.maskEnd .region 8).wellFormed = false ∧ (Instr.hostFence .own .region 65536).wellFormed = false ∧
    (Instr.fenceRelease .own .region 65536 true).wellFormed = false ∧
    (Instr.toProvisioned 0 0 (List.replicate 49 0) []).wellFormed = false ∧
    (Instr.toProvisioned 0 0 [] (List.replicate 49 0)).wellFormed = false ∧ (Instr.debugResponse 0 16 true).wellFormed = false := by
  decide +kernel

/-! ## Values that the spec works out -/

/-- 08 R212, last column: a 10GBASE-R to 10GBASE-R hop of 2,048 bytes, store-and-forward, MACsec off, has D = 1,823.52 ns. -/
theorem test_delay_table : (put up [(0x2100, 0x01, 2), (0x2101, 0x01, 2)]).delayD 0 1 2048 false = 182352 := by decide +kernel

/-- 08, the worked farm: D of hops A, B and C. -/
theorem test_worked_farm :
    (put up [(0x2105, 0x01, 2), (0x2130, 0x01, 3)]).delayD 5 48 320 false = 40746 ∧
    (put up [(0x213C, 0x01, 3), (0x2148, 0x01, 3)]).delayD 60 72 320 true = 21378 ∧
    (put up [(0x2110, 0x01, 3), (0x211E, 0x01, 2)]).delayD 16 30 320 true = 24744 := by decide +kernel

/-- 10, the re-route, t4: a mean apparent offset of +34,791 ps on α = −180 ps proposes −69,762 ps. -/
theorem test_proposal :
    (after (.asymmetryCalibrationEnd 40) ((put up [(0x2428, 0x03, 1), (0x2428, 0x04, -180), (0x2428, 0x05, -180)]).setTim 40
      { calibrating := true, offsets := List.replicate 16 34791 })).reg (0x2428) 0x13 = -69762 := by decide +kernel

/-- 13, the round in C20, t3: the path measures 3,414.85 ps at code 512 against a target of 3,412.75 ps; the shadow holds 504. -/
theorem test_vernier_shadow :
    ((after (.laneCalibrationMeasure 81 341485 100000 [1, 2, 3] [4, 5, 6]) (((put up [(0x8151, 0x0A, 1)]).setDetector 101
      { phase := 3 }).setTrim 81 { targets := some (341275, 100000) })).trim 81).timing.map (fun x => (x.1, x.2.2.1)) =
      some (504, 10) := by decide +kernel

/-- 15 R380, its examples: the crossing-stall source of region G3 is FS0884, of cluster 0 FS0579. -/
theorem test_stall_source : stallSource 27 = 884 ∧ stallSource 0 = 579 ∧ stallSource 32 = 1190 := by decide

/-- 17, the example of a wrap: 3814h.05 wraps from 2^48 − 1 to 0, and its overflow bit is set. -/
theorem test_counter_wrap :
    counterKey 580 = 0x3814 * 256 + 5 ∧
    Sparse.get 0 (after (.counterWrap 580) { up with domains := 0x1FF, perf := [(0x3814 * 256 + 5, 2 ^ 48 - 1)] }).perf
      (0x3814 * 256 + 5) = 0 := by decide +kernel

/-! ## Limits, on both sides -/

/-- 03 R83: rates from 2^-8 to 2^-40 pass. -/
theorem test_injection_rate :
    (after (.errorInjectionRate .own 0 8) up).lastStatus = 0 ∧ (after (.errorInjectionRate .own 0 40) up).lastStatus = 0 ∧
    (after (.errorInjectionRate .own 0 7) up).lastStatus = 8 ∧ (after (.errorInjectionRate .own 0 41) up).lastStatus = 8 := by
  decide +kernel

/-- 03 R70: absence of signal for 1 s returns k to 0, a shorter one does not. -/
theorem test_absence :
    (after (.signalDetected 0) ({ put up [(0x2000, 0x02, 8), (0x2000, 0x22, 4)] with now := 1000000000 }.setLane 0
      { absentSince := some 0, retryAt := some 5 })).nat 0x2000 0x22 = 0 ∧
    (after (.signalDetected 0) ({ put up [(0x2000, 0x02, 8), (0x2000, 0x22, 4)] with now := 999999999 }.setLane 0
      { absentSince := some 0, retryAt := some 5 })).nat 0x2000 0x22 = 4 := by decide +kernel

/-- 03 R75: a figure of merit at the threshold ends stage 4, one below it does not. -/
theorem test_fom_threshold :
    (after (.adaptComplete 0 31 {}) (put up [(0x2000, 0x02, 4), (0x2000, 0x10, 31)])).stage 0 = 5 ∧
    (after (.adaptComplete 0 30 {}) (put up [(0x2000, 0x02, 4), (0x2000, 0x10, 31)])).stage 0 = 4 := by decide +kernel

/-- 09 R235: a set carries 0 to 999,999,999 ns. -/
theorem test_set_range :
    (after (.set (some .own) 7 5 999999999 0) up).lastStatus = 0 ∧
    (after (.set (some .own) 7 5 1000000000 0) up).lastStatus = 8 := by decide +kernel

/-- 09 R234: a step moves a time base by at most 1,000 s. -/
theorem test_step_range :
    (after (.step .own 0 (1000 * 1000000000 * 65536)) (put up [])).lastStatus = 0 ∧
    (after (.step .own 0 (1000 * 1000000000 * 65536 + 1)) (put up [])).lastStatus = 8 := by decide +kernel

/-- 10 R273: a delay of 0 to 2,000,000,000 ps is a result. -/
theorem test_delay_range :
    (after (.delayResult 95 ⟨false, 0, 0, 0, 262144000132, none⟩) (put up [(0x215F, 0x03, 1)])).nat 0x245F 0x15 = 1 ∧
    (after (.delayResult 95 ⟨false, 0, 0, 0, -132, none⟩) (put up [(0x215F, 0x03, 1)])).nat 0x245F 0x15 = 1 ∧
    (after (.delayResult 95 ⟨false, 0, 0, 0, 262144000000, none⟩) (put up [(0x215F, 0x03, 1)])).nat 0x245F 0x15 = 0 ∧
    (after (.delayResult 95 ⟨true, 0, 7, 7, 0, none⟩) (put up [(0x215F, 0x03, 1)])).nat 0x245F 0x15 = 0 := by decide +kernel

/-- 15 R403: regions 0 to 7 can be fenced. -/
theorem test_fence_item :
    (after (.hostFence .own .region 7) up).fences = [(.region, 7)] ∧ (after (.hostFence .own .region 8) up).lastStatus = 8 ∧
    (after (.hostFence .observe .region 7) up).lastStatus = 4 := by decide +kernel

/-- 10 R265, t4: means of 1,024 measurements within 2 ps hand the lane back, others count a failure. -/
theorem test_handback :
    ((after (.detectorHandback 23 3 (List.replicate 1024 7) (List.replicate 1024 5)) ((up.setDetector 118 { phase := 3 }).setTrim 95
      { timing := some (1, 2, 3, 4) })).detector 118).phase = 0 ∧
    ((after (.detectorHandback 23 3 (8 :: List.replicate 1023 7) (List.replicate 1024 5)) ((up.setDetector 118 { phase := 3 }).setTrim 95
      { timing := some (1, 2, 3, 4) })).detector 118).failures = 1 := by decide +kernel

/-- 18 R459: a floor rises to the running version and never falls. -/
theorem test_floor :
    (after (.raiseBaseFloor .own) (put up [(0xC030, 0x02, 5), (0xC030, 0x03, 3)])).nat 0xC030 0x03 = 5 ∧
    (after (.raiseBaseFloor .own) (put up [(0xC030, 0x02, 3), (0xC030, 0x03, 5)])).nat 0xC030 0x03 = 5 := by decide +kernel

/-- 14 R356 and 15 R388: the state after reset is COLD-START with no fence; a host's fence makes RUN DEGRADED. -/
theorem test_degraded :
    State.reset.runState = 0 ∧ up.runState = 2 ∧ (after (.hostFence .own .port 95) up).runState = 3 := by decide +kernel

/-- The queue is served first in, first out, and no word spells a command (log entry 26). -/
theorem test_queue :
    (match step { up with pending := [.esmcSend, .ageingStep] } with | .next t => t.pending | _ => []) = [.ageingStep] ∧
    Sys2Proof.decodeTableWord 16 5 = none := by decide +kernel

/-! ## Hypotheses that are met: for each statement with hypotheses a state and operands that meet those of each clause -/

theorem witness_LaneLockAdvancesTraining :
    (∃ (l : LaneId) (s : State), s.stage l = 2 ∧ s.flag (laneIndex l) 0x17 = false) ∧
    (∃ (l : LaneId) (s : State), s.stage l = 3 ∧ s.bit (laneIndex l) 0x03 2 = false ∧ s.nat (laneIndex l) 0x0B = 0) ∧
    (∃ (l : LaneId) (order : Fin 4) (deskewPs : Nat) (s : State), s.stage l = 3 ∧ s.bit (laneIndex l) 0x03 1 = true ∧ s.flag (laneIndex l) 0x17 = false) :=
  ⟨⟨99, put up [(0x2063, 0x02, 2)], by decide +kernel⟩,
    ⟨0, put up [(0x2000, 0x02, 3)], by decide +kernel⟩,
    ⟨4, 3, 120, put up [(0x2004, 0x02, 3), (0x2004, 0x03, 2)], by decide +kernel⟩⟩

theorem witness_LaneAttemptBeginsAndAdapts :
    (∃ (l : LaneId) (s : State), s.stage l = 1 ∧ s.flag (laneIndex l) 0x17 = false ∧ s.pllDown l = false) ∧
    (∃ (l : LaneId) (s : State) (since : Nat), (s.lane l).absentSince = some since ∧ s.stage l = 8 ∧ s.flag (laneIndex l) 0x17 = false ∧ s.pllDown l = false) ∧
    (∃ (l : LaneId) (fom : BitVec 8) (rec : AdaptRecord) (s : State), s.stage l = 4 ∧ s.adaptThreshold l ≤ fom.toNat) :=
  ⟨⟨99, put up [(0x2063, 0x02, 1)], by decide +kernel⟩,
    ⟨0, (put up [(0x2000, 0x02, 8)]).setLane 0 { absentSince := some 0 }, 0, by decide +kernel⟩,
    ⟨95, 31, {}, put up [(0x205F, 0x02, 4), (0x205F, 0x10, 31), (0x205F, 0x11, 31)], by decide +kernel⟩⟩

theorem witness_LaneSyntonyFollowsOffset :
    (∃ (l : LaneId) (ppt : Int) (fill : Fin 33) (s : State), s.stage l = 5 ∧ (s.lane l).discardInterval = false ∧ s.rateOnly l = false ∧ ppt.natAbs ≤ s.nat (laneIndex l) 0x08 * 1000 ∧ ppt.natAbs < 2147483648) ∧
    (∃ (l : LaneId) (ppt : Int) (fill : Fin 33) (s : State), s.stage l = 6 ∧ (s.lane l).discardInterval = false ∧ s.nat (laneIndex l) 0x08 * 1000 < ppt.natAbs ∧ (s.lane l).modeChange ≠ 1) ∧
    (∃ (l : LaneId) (ppt : Int) (fill : Fin 33) (s : State), s.stage l = 7 ∧ (s.lane l).retryRuns = true ∧ (s.lane l).discardInterval = false ∧ s.rateOnly l = false) ∧
    (∃ (l : LaneId) (s : State), s.stage l = 6 ∧ (s.lane l).modeChange ≠ 1) ∧
    (∃ (l : LaneId) (s : State), s.stage l = 6 ∧ (s.lane l).modeChange = 1) ∧
    (∃ (l : LaneId) (ppt : Int) (fill : Fin 33) (s : State), s.stage l = 5 ∧ (s.lane l).discardInterval = false ∧ s.rateOnly l = true) ∧
    (∃ (l : LaneId) (s : State), s.stage l = 7 ∧ (s.lane l).modeChange = 2 ∧ s.rateOnly l = false) :=
  ⟨⟨0, -100000, 16, put up [(0x2000, 0x02, 5), (0x2000, 0x08, 100)], by decide +kernel⟩,
    ⟨0, 100001, 16, put up [(0x2000, 0x02, 6), (0x2000, 0x08, 100)], by decide +kernel⟩,
    ⟨0, 100000, 32, (put up [(0x2000, 0x02, 7), (0x2000, 0x08, 100)]).setLane 0 { retryRuns := true }, by decide +kernel⟩,
    ⟨99, put up [(0x2063, 0x02, 6)], by decide +kernel⟩,
    ⟨99, (put up [(0x2063, 0x02, 6)]).setLane 99 { modeChange := 1 }, by decide +kernel⟩,
    ⟨99, 100, 16, put up [(0x2063, 0x02, 5), (0x2063, 0x25, 1)], by decide +kernel⟩,
    ⟨99, (put up [(0x2063, 0x02, 7), (0x2063, 0x25, 0), (0x7050, 0x03, 0), (0x7040, 0x02, 3)]).setLane 99 { modeChange := 2 }, by decide +kernel⟩⟩

theorem witness_LaneTimeoutAndRetry :
    (∃ (l : LaneId) (s : State), (s.lane l).timerRuns = true ∧ (s.training l = true ∨ s.stage l = 1)) ∧
    (∃ (l : LaneId) (s : State), (s.lane l).retryAt.isSome = true) ∧
    (∃ (role : Role) (l : LaneId) (s : State), s.admits role (laneIndex l) 0x24) :=
  ⟨⟨3, (put up [(0x2003, 0x02, 5)]).setLane 3 { timerRuns := true }, by decide +kernel⟩,
    ⟨3, (put up [(0x2003, 0x02, 8)]).setLane 3 { retryAt := some 5 }, by decide +kernel⟩,
    ⟨.own, 99, put up [(0x2063, 0x02, 8)], by unfold State.admits; decide +kernel⟩⟩

theorem witness_LaneLossReturnsStage :
    (∃ (l : LaneId) (s : State), 2 ≤ s.stage l ∧ s.stage l ≤ 7 ∧ s.flag (laneIndex l) 0x17 = false) ∧
    (∃ (l : LaneId) (kind : LockKind) (s : State), 3 ≤ s.stage l ∧ s.stage l ≤ 7 ∧ s.flag (laneIndex l) 0x17 = false) ∧
    (∃ (c : ClusterId) (s : State), s.pllLost.testBit c = false) ∧
    (∃ (c : ClusterId) (signals : BitVec 4) (s : State), s.pllLost.testBit c = true) :=
  ⟨⟨7, put up [(0x2007, 0x02, 7)], by decide +kernel⟩,
    ⟨7, .cdr, put up [(0x2007, 0x02, 3)], by decide +kernel⟩,
    ⟨23, up, by decide +kernel⟩,
    ⟨23, 0b0101, { up with pllLost := 0x800000 }, by decide +kernel⟩⟩

theorem witness_LaneAdaptationIsJudged :
    (∃ (role : Role) (l : LaneId) (s : State), s.admits role (laneIndex l) 0x15) ∧
    (∃ (l : LaneId) (h a : Nat) (s : State), 0 < a ∧ 3 ≤ s.stage l) ∧
    (∃ (p : PortId) (deskewPs : Nat) (s : State) (st : Nat), s.lanesSay p = some st ∧ (s.port p).reDeskew = true ∧ s.portMayRun p = true) :=
  ⟨⟨.own, 0, put up [(0x2000, 0x02, 6)], by unfold State.admits; decide +kernel⟩,
    ⟨0, 40, 100, put up [(0x2000, 0x02, 3)], by decide +kernel⟩,
    ⟨0, 120, (put up [(0x2100, 0x01, 4), (0x2000, 0x02, 6)]).setPort 0 { reDeskew := true }, 1, by decide +kernel⟩⟩

theorem witness_LaneQuietingKeepsOrLeavesStage :
    (∃ (role : Role) (l : LaneId) (mode : Fin 3) (s : State), s.admits role (laneIndex l) 0x16) ∧
    (∃ (role : Role) (l : LaneId) (on : Bool) (s : State), s.admits role (laneIndex l) 0x17) :=
  ⟨⟨.own, 99, 2, put up [(0x2063, 0x02, 6)], by unfold State.admits; decide +kernel⟩,
    ⟨.own, 99, true, put up [(0x2063, 0x02, 6)], by unfold State.admits; decide +kernel⟩⟩

theorem witness_LaneTestFunctions :
    (∃ (role : Role) (l : LaneId) (code : Fin 5) (s : State), s.admits role (laneIndex l) 0x18 ∧ s.testRefused l code = false) ∧
    (∃ (role : Role) (l : LaneId) (code : Fin 5) (s : State), s.admits role (laneIndex l) 0x18 ∧ s.testRefused l code = true) ∧
    (∃ (role : Role) (l : LaneId) (s : State), s.admits role (laneIndex l) 0x18) ∧
    (∃ (role : Role) (l : LaneId) (s : State), s.admits role (laneIndex l) 0x1E) ∧
    (∃ (role : Role) (l : LaneId) (k : Nat) (s : State), s.admits role (laneIndex l) 0x1E) ∧
    (∃ (l : LaneId) (s : State), s.nat (laneIndex l) 0x1E = 1 ∧ (if s.nat (laneIndex l) 0x20 = 1 then s.sendsTraffic l else s.sendsPattern l) = true) ∧
    (∃ (l : LaneId) (bits : List Bool) (s : State), s.stage l = 9 ∧ s.flag (laneIndex l) 0x17 = false ∧ (s.lane l).checkerSync = false ∧ patternFollows (s.nat (laneIndex l) 0x1A) (s.nat (laneIndex l) 0x01 == 4) (s.nat (laneIndex l) 0x1B) 256 bits = true) ∧
    (∃ (l : LaneId) (bits errors : Nat) (s : State), (s.lane l).checkerSync = true) :=
  ⟨⟨.own, 0, 2, up, by unfold State.admits; decide +kernel⟩,
    ⟨.own, 1, 2, put up [(0x2100, 0x01, 5)], by unfold State.admits; decide +kernel⟩,
    ⟨.own, 0, put up [(0x2000, 0x18, 1)], by unfold State.admits; decide +kernel⟩,
    ⟨.own, 99, up, by unfold State.admits; decide +kernel⟩,
    ⟨.own, 99, 40, up, by unfold State.admits; decide +kernel⟩,
    ⟨0, put up [(0x2000, 0x1E, 1), (0x2000, 0x20, 1), (0x2000, 0x02, 6)], by decide +kernel⟩,
    ⟨99, List.replicate 256 false, put up [(0x2063, 0x02, 9), (0x2063, 0x1A, 10), (0x2063, 0x1B, 0)], by decide +kernel⟩,
    ⟨99, 100000, 3, (put up [(0x2063, 0x02, 9)]).setLane 99 { checkerSync := true }, by decide +kernel⟩⟩

theorem witness_ModuleEventsReachCage : ∃ (role : Role) (p : PortId) (s : State), s.admits role (0x2100 + p) 0x13 ∧ (s.port p).modulePresent = true ∧ s.nat (0x2100 + p) 0x08 ≠ 0 :=
  ⟨.own, 95, (put up [(0x215F, 0x08, 1)]).setPort 95 { modulePresent := true }, by unfold State.admits; decide +kernel⟩

theorem witness_ModuleIdentityIsJudged :
    (∃ (p : PortId) (page record : List Byte) (modes : BitVec 7) (s : State), s.nat (0x2100 + p) 0x0E = 1 ∧ (s.busAt (p / 4)).head? = some (.read (s.selectPosition p)) ∧ (s.busAt (p / 4)).any BusAccess.isWrite = false) ∧
    (∃ (p : PortId) (s : State), s.nat (0x2100 + p) 0x0E = 1 ∧ s.nat (0x2100 + p) 0x08 = 3 ∧ (s.busAt (p / 4)).head? = some (.read (s.selectPosition p))) ∧
    (∃ (p : PortId) (values : List Int) (s : State), (s.port p).modulePresent = true) :=
  ⟨⟨4, [], [], 0b1, (put up [(0x2104, 0x0E, 1), (0x2104, 0x08, 1)]).setBus 1 [.read 4], by decide +kernel⟩,
    ⟨4, (put up [(0x2104, 0x0E, 1), (0x2104, 0x08, 3)]).setBus 1 [.read 4], by decide +kernel⟩,
    ⟨4, [20, 3300], up.setPort 4 { modulePresent := true }, by decide +kernel⟩⟩

theorem witness_RecordWriteResetAndStatistics :
    (∃ (role : Role) (p : PortId) (bytes : List Byte) (outcome : RecordWriteEnd) (s : State), s.admits role (0x2100 + p) 0x0F ∧ (s.port p).modulePresent = true ∧ s.busReads (p / 4) = false) ∧
    (∃ (role : Role) (p : PortId) (bytes : List Byte) (outcome : RecordWriteEnd) (s : State), s.admits role (0x2100 + p) 0x0F ∧ (s.port p).modulePresent = true ∧ s.busReads (p / 4) = true ∧ bytes.length = 64) ∧
    (∃ (c : ClusterId) (s : State), s.modResetWait.testBit c = true) ∧
    (∃ (role : Role) (p : PortId) (coincident : List (Fin 16)) (s : State), s.admits role (0x2200 + p) 0x0F) :=
  ⟨⟨.service, 4, List.replicate 64 0, .verified, up.setPort 4 { modulePresent := true }, by unfold State.admits; decide +kernel⟩,
    ⟨.service, 4, List.replicate 64 0, .verified, (up.setPort 4 { modulePresent := true }).setBus 1 [.read 5], by unfold State.admits; decide +kernel⟩,
    ⟨23, { up with modResetWait := 0x800000 }, by decide +kernel⟩,
    ⟨.own, 95, [0, 15], up, by unfold State.admits; decide +kernel⟩⟩

theorem witness_FrameReceptionOpensAndLooksUp :
    (∃ (p : PortId) (edge : StartEdge) (s : State), s.portUp p = true ∧ s.portFenced p = false ∧ s.isSafe = false ∧ s.rxAt p = none) ∧
    (∃ (p : PortId) (window : List Byte) (unreadable : List (TableId × Nat)) (s : State) (f : RxFrame), s.rxAt p = some f ∧ f.desc = none ∧ f.discarded = false ∧ f.cells = 0 ∧ 64 ≤ window.length) :=
  ⟨⟨95, { phases := [400], bit := 3 }, put up [(0x215F, 0x03, 1)], by decide +kernel⟩,
    ⟨95, List.replicate 64 0x55, [(5, 1023)], (put up [(0x215F, 0x03, 1)]).setRx 95 (some { window := [] }), { window := [] }, by decide +kernel⟩⟩

theorem witness_FrameCellsAndTail :
    (∃ (p : PortId) (payload : List Byte) (s : State) (f : RxFrame) (d : _), s.rxAt p = some f ∧ f.desc = some d ∧ f.discarded = false ∧ f.maxSdu = 0 ∧ f.maxLength = 0 ∧ f.bytes + payload.length ≤ s.nat (0x2100 + p) 0x06 ∧ (s.drawCell (p / 12) (ingressPools d.contracted)).isSome = true) ∧
    (∃ (p : PortId) (kind : TailKind) (payload : List Byte) (s : State) (f : RxFrame), s.rxAt p = some f) :=
  ⟨⟨95, List.replicate 64 0, (put up [(0x2100, 0x03, 1)]).setRx 95 (some { desc := some {} }), { desc := some {} }, {}, by decide +kernel⟩,
    ⟨95, .cut, [1], up.setRx 95 (some { desc := some {}, cells := 1 }), { desc := some {}, cells := 1 }, by decide +kernel⟩⟩

theorem witness_LearningAndAgeing : ∃ (s : State) (e : Nat × Nat × Nat) (rest : List (Nat × Nat × Nat)), s.learns = e :: rest ∧ s.commitWritesKey e.1 e.2.1 = false :=
  ⟨{ up with learns := [(1, 2, 95)] }, (1, 2, 95), [], by decide +kernel⟩

theorem witness_TableMaintenance :
    (∃ (role : Role) (tb : TableId) (s : State), s.admits role 0x3001 0x10) ∧
    (∃ (tb : TableId) (s : State) (target : Nat), Sparse.get none s.drains tb = some target) ∧
    (∃ (c : ClusterId) (tb : TableId) (position : Nat) (s : State), s.entryPending tb position = false) :=
  ⟨⟨.own, 5, up, by unfold State.admits; decide +kernel⟩,
    ⟨5, { up with drains := [(5, some 2)] }, 2, by decide +kernel⟩,
    ⟨0, 5, 0, up, by decide +kernel⟩⟩

theorem witness_StreamFunctionsAndHubFrames :
    (∃ (f : Fin 4096) (s : State), (Sparse.get {} s.frer f).kind = 2) ∧
    (∃ (g : Fin 256) (s : State) (l : GateList), (Sparse.get {} s.gates g).pending = some l ∧ (s.tb 0).running = true ∧ l.base ≤ s.tb0Ns) ∧
    (∃ (g : Fin 256) (s : State) (l : GateList), (Sparse.get {} s.gates g).operational = some l) ∧
    (∃ (ring : Fin 64) (destination untag : Nat) (priority : Fin 8) (queue : Fin 32) (payload : List Byte) (tag : BitVec 8) (insert : Fin 4) (passed : Int) (ingress : Option PortId) (s : State), (queue.val < 24 ∨ 30 ≤ queue.val) ∧ s.isUp = true ∧ (∀ i, i < 64 → (s.ringX i).fromHub = [] ∧ (s.ringX i).writing = none) ∧ (s.crossing (24 + s.carrier ring)).discard = false ∧ payload.length ≤ 256 ∧ numAt payload 12 2 ≠ 0x8808 ∧ destination < 96 ∧ s.hubCredit (s.carrier ring) = true ∧ s.regionFenced (destination / 12) = false ∧ (s.drawCell (s.carrier ring) [0]).isSome = true) ∧
    (∃ (ring : Fin 64) (kind : Fin 4) (destination untag : Nat) (priority : Fin 8) (queue : Fin 32) (payload : List Byte) (tag : BitVec 8) (insert : Fin 4) (passed : Int) (ingress : Option PortId) (s : State), 24 ≤ queue.val ∧ queue.val < 30) :=
  ⟨⟨4095, { up with frer := [(4095, { kind := 2 })] }, by decide +kernel⟩,
    ⟨255, ({ up with gates := [(255, { pending := some { base := 10, cycle := 1000, entries := [(0, 1000)] } })] }).setTb 0 { running := true, count := 10 * 2 ^ 64 }, { base := 10, cycle := 1000, entries := [(0, 1000)] }, by decide +kernel⟩,
    ⟨255, { up with gates := [(255, { operational := some { base := 10, cycle := 1000, entries := [(0, 1000)] } })] }, { base := 10, cycle := 1000, entries := [(0, 1000)] }, by decide +kernel⟩,
    ⟨63, 95, 1, 7, 30, List.replicate 256 0, 9, 0, -5, some 95, up, by decide +kernel⟩,
    ⟨63, 3, 95, 1, 7, 24, [], 9, 0, -5, none, up, by decide +kernel⟩⟩

theorem witness_FabricSlotSendsContractedFirst :
    (∃ (slot : Fin 8) (g m : RegionId) (s : State), s.fabricRuns = true ∧ s.regionFenced g = false ∧ m.val = (g.val + slot.val) % 8) ∧
    (∃ (slot : Fin 8) (g : RegionId) (s : State), s.fabricRuns = true ∧ s.regionFenced g = false ∧ slot.val = 7 ∧ (s.region g).adjusts = true) :=
  ⟨⟨7, 7, 6, up.setTb 0 { running := true }, by decide +kernel⟩,
    ⟨7, 7, (up.setTb 0 { running := true }).setRegion 7 { offset := 401 }, by decide +kernel⟩⟩

theorem witness_FabricCellArrives : ∃ (stage2 : Bool) (a b : RegionId) (header : HeaderCheck) (payloadOk : Bool) (s : State) (x : Cell) (rest : List Cell), s.flight (ofBool stage2) a b = x :: rest ∧ (s.crossing (24 + b)).flushing = false :=
  ⟨true, 7, 0, .clean, true, { up with flights := [(128 + 112, [{ source := 7 }])] }, { source := 7 }, [], by decide +kernel⟩

theorem witness_FabricRecovers :
    (∃ (dst src : RegionId) (contracted : Bool) (s : State) (k e : Nat), k = 2 * src.val + ofBool contracted ∧ e = Sparse.get 0 (s.region dst).expected k ∧ Sparse.get [] (s.region dst).window k ≠ []) ∧
    (∃ (g : RegionId) (s : State), s.regionFenced g = false ∧ (s.region g).adjusts = false) :=
  ⟨⟨7, 0, true, up.setRegion 7 { window := [(1, [{ contracted := true }])] }, 1, 0, by decide +kernel⟩,
    ⟨7, up, by decide +kernel⟩⟩

theorem witness_FabricAlignsAndChangesEpoch :
    (∃ (g : RegionId) (offsetPs : Int) (s : State), s.fabricRuns = true ∧ s.regionFenced g = false) ∧
    (∃ (dst : RegionId) (s : State), s.regionFenced dst = false) :=
  ⟨⟨7, 6000, up.setTb 0 { running := true }, by decide +kernel⟩,
    ⟨7, up, by decide +kernel⟩⟩

theorem witness_EgressSendsAndEnds :
    (∃ (p : PortId) (edge : StartEdge) (s : State) (q : Nat), s.strictChoice p = some q ∧ 32 ≤ (s.eg p).sending ∧ s.portUp p = true ∧ s.portFenced p = false ∧ (∀ k, k < 32 → ((s.queue p k).copies.head?.map (s.expired p k)).getD 0 = 0) ∧ ((s.queue p q).copies.head?.map (·.spoiltCells)).getD 1 = 0) ∧
    (∃ (p : PortId) (edge : StartEdge) (s : State) (c : Copy), (s.queue p (s.eg p).sending).copies.find? (·.started) = some c ∧ (s.eg p).sending < 32 ∧ c.bad = false ∧ c.complete = true ∧ c.spoiltCells = 0) ∧
    (∃ (p : PortId) (s : State) (c : Copy), (s.queue p (s.eg p).sending).copies.find? (·.started) = some c ∧ (s.eg p).sending < 32 ∧ c.complete = false) :=
  ⟨⟨95, {}, (put up [(0x215F, 0x03, 1), (0x215F, 0x01, 1)]).setQueue 95 31 { copies := [readyCopy] }, 31, by decide +kernel⟩,
    ⟨95, {}, (up.setQueue 95 31 { copies := [{ readyCopy with started := true }] }).setEg 95 { sending := 31 }, { readyCopy with started := true }, by decide +kernel⟩,
    ⟨95, (up.setQueue 95 0 { copies := [{ readyCopy with started := true, complete := false }] }).setEg 95 { sending := 0 }, { readyCopy with started := true, complete := false }, by decide +kernel⟩⟩

theorem witness_QueuesAreSweptGatedAndFlushed :
    (∃ (g : RegionId) (s : State), s.regionFenced g = false) ∧
    (∃ (p : PortId) (s : State) (l : GateList), (s.eg p).pending = some l ∧ (s.tb 0).running = true ∧ (s.eg p).pendingAt ≤ s.tb0Ns) ∧
    (∃ (p : PortId) (s : State) (l : GateList), (s.eg p).operational = some l) ∧
    (∃ (p : PortId) (q : Fin 32) (s : State), (s.queue p q).flush = true) :=
  ⟨⟨7, up, by decide +kernel⟩,
    ⟨95, (up.setEg 95 { pending := some { base := 10, cycle := 1000, entries := [(0, 1000)] }, pendingAt := 10 }).setTb 0 { running := true, count := 10 * 2 ^ 64 }, { base := 10, cycle := 1000, entries := [(0, 1000)] }, by decide +kernel⟩,
    ⟨95, up.setEg 95 { operational := some { base := 10, cycle := 1000, entries := [(0, 1000)] } }, { base := 10, cycle := 1000, entries := [(0, 1000)] }, by decide +kernel⟩,
    ⟨95, 31, up.setQueue 95 31 { flush := true }, by decide +kernel⟩⟩

theorem witness_BufferScrubCountsAndWithdraws :
    (∃ (g : RegionId) (bank : Fin 16) (held : Option HeldPlace) (s : State) (due : Nat), s.bankFenced (16 * g + bank) = false ∧ Sparse.get none (s.region g).bankReturn bank = some due ∧ due ≤ s.now) ∧
    (∃ (g : RegionId) (bank : Fin 16) (held : Option HeldPlace) (finding : EccFinding) (s : State), s.bankFenced (16 * g + bank) = false ∧ (∀ due, Sparse.get none (s.region g).bankReturn bank = some due → s.now < due)) :=
  ⟨⟨7, 15, none, up.setRegion 7 { bankTaken := [(15, (3072, 0))], bankReturn := [(15, some 0)] }, 0, by decide +kernel⟩,
    ⟨7, 15, none, .single, up, by decide +kernel⟩⟩

theorem witness_OffsetsJudgedAndSteeringApplied :
    (∃ (tb : TbId) (ppt : Int) (s : State), s.served = true ∧ s.flag (0x6000 + tb) 0x03 = false) ∧
    (∃ (tb : TbId) (ppt : Int) (s : State), s.served = true ∧ s.flag (0x6000 + tb) 0x03 = true ∧ ppt.natAbs ≤ 100000000) ∧
    (∃ (tb : TbId) (role : Role) (ppt : Int) (s : State), s.admits role (0x6000 + tb) 0x0F) :=
  ⟨⟨7, 100000000, put up [(0x6007, 0x03, 0)], by decide +kernel⟩,
    ⟨7, 100000000, put up [(0x6007, 0x03, 1)], by decide +kernel⟩,
    ⟨7, .own, -100000001, put up [(0x6007, 0x03, 0)], by unfold State.admits; decide +kernel⟩⟩

theorem witness_StepMovesTheTimeBase :
    (∃ (role : Role) (tb : TbId) (amount : Int) (s : State), s.admits role (0x6000 + tb) 0x0B ∧ (s.tb tb).pendingStep = none) ∧
    (∃ (tb : TbId) (s : State) (d : Int), (s.tb tb).pendingStep = some d ∧ (s.tb tb).running = true ∧ s.edgeAt (s.tb tb).stepNews ≤ s.now) :=
  ⟨⟨.own, 7, -5, up.setTb 7 { running := true }, by unfold State.admits; decide +kernel⟩,
    ⟨7, { up.setTb 7 { running := true, pendingStep := some (-5) } with now := 2000 }, -5, by decide +kernel⟩⟩

theorem witness_SetEstablishesTheTimeBase :
    (∃ (role : Role) (tb : TbId) (sec ns fr : Nat) (s : State), s.admits role (0x6000 + tb) 0x09) ∧
    (∃ (tb : TbId) (sec ns fr : Nat) (s : State), s.served = true ∧ sec < 2 ^ 48 ∧ ns < 1000000000 ∧ fr < 65536) ∧
    (∃ (tb : TbId) (s : State) (v : Nat × Nat), (s.tb tb).pendingSet = some v ∧ (s.tb tb).running = true ∧ s.edgeAt (s.tb tb).setNews ≤ s.now) :=
  ⟨⟨.own, 7, 5, 999999999, 65535, up, by unfold State.admits; decide +kernel⟩,
    ⟨0, 5, 999999999, 65535, up, by decide +kernel⟩,
    ⟨7, { up.setTb 7 { running := true, pendingSet := some (9, 0) } with now := 2000 }, (9, 0), by decide +kernel⟩⟩

theorem witness_CompareArmsAndFires :
    (∃ (role : Role) (c : CompareId) (s : State), s.admits role (0x6100 + c) 0x08) ∧
    (∃ (c : CompareId) (s : State), (s.compare c).state = 1 ∧ (s.tb (s.nat (0x6100 + c) 0x01)).running = true ∧ s.reached (s.nat (0x6100 + c) 0x01) (s.target c (s.compare c).index) = true) :=
  ⟨⟨.own, 31, up, by unfold State.admits; decide +kernel⟩,
    ⟨31, ((put up [(0x611F, 0x01, 7)]).setCompare 31 { state := 1 }).setTb 7 { running := true }, by decide +kernel⟩⟩

theorem witness_FireflyFollowsItsGrid :
    (∃ (f : FireflyId) (s : State) (g : _), gridMode (s.nat (0x6200 + f) 0x01) = true ∧ s.nat (0x6200 + f) 0x11 ≠ 0 ∧ s.isSafe = false ∧ (s.tb (s.nat (0x6200 + f) 0x02)).running = true ∧ (s.firefly f).waitsUnset = false ∧ (s.firefly f).stoppedBySet = false ∧ s.gridInstant f (if (s.firefly f).realignWait = 1 then 0 else s.alignError f) = some g ∧ (if (s.firefly f).realignWait = 0 then (s.firefly f).pulses.all (fun q => q.start != g) else (s.settlePulses f false).halfPeriodOver f) = true) ∧
    (∃ (role : Role) (f : FireflyId) (s : State), s.admits role (0x6200 + f) 0x0F ∧ gridMode (s.nat (0x6200 + f) 0x01) = true ∧ (s.firefly f).waitsUnset = false) ∧
    (∃ (f : FireflyId) (s : State), s.nat (0x6200 + f) 0x11 = 4 ∧ (s.firefly f).realignWait = 0 ∧ s.alignError f = 0) :=
  ⟨⟨15, ((put up [(0x620F, 0x01, 2), (0x620F, 0x02, 7), (0x620F, 0x11, 4)]).setTb 7 { running := true }).setFirefly 15 { realignWait := 2 }, 0, by decide +kernel⟩,
    ⟨.own, 15, put up [(0x620F, 0x01, 5)], by unfold State.admits; decide +kernel⟩,
    ⟨15, put up [(0x620F, 0x11, 4)], by decide +kernel⟩⟩

theorem witness_CapturesFillTheRing :
    (∃ (e : CaptureId) (rising : Bool) (heldNs agePs : Nat) (s : State), s.flag (0x6300 + e) 0x01 = true ∧ s.isSafe = false ∧ (s.tb (s.nat (0x6300 + e) 0x03)).running = true ∧ (s.nat (0x6300 + e) 0x02).testBit (if rising then 0 else 1) = true ∧ s.nat (0x6300 + e) 0x04 ≤ heldNs) ∧
    (∃ (role : Role) (s : State), s.admits role 0x6380 0x05) :=
  ⟨⟨15, true, 100, 7, (put up [(0x630F, 0x01, 1), (0x630F, 0x02, 1), (0x630F, 0x03, 7), (0x630F, 0x04, 100)]).setTb 7 { running := true }, by decide +kernel⟩,
    ⟨.own, up, by unfold State.admits; decide +kernel⟩⟩

theorem witness_ReplicasFollowTheirLines :
    (∃ (line : Fin 32) (a : Int) (s : State), s.lineFenced line = false ∧ s.isSafe = false) ∧
    (∃ (line : Fin 32) (s : State), s.lineFenced line = false ∧ s.isSafe = false) ∧
    (∃ (line : Fin 32) (s : State) (k : _) (d : _), s.lineFenced line = false ∧ s.isSafe = false ∧ (s.replica line).marker = some (k, d)) ∧
    (∃ (line : Fin 32) (s : State), (s.replica line).marker = none) :=
  ⟨⟨31, 5, up, by decide +kernel⟩,
    ⟨31, up, by decide +kernel⟩,
    ⟨24, up.setReplica 24 { marker := some (0, -3) }, 0, -3, by decide +kernel⟩,
    ⟨31, up, by decide +kernel⟩⟩

theorem witness_DelayTrackerJudgesResults :
    (∃ (p : PortId) (x : Exchange) (s : State), (meanPath x < 0 ∨ 2000000000 < meanPath x)) ∧
    (∃ (p : PortId) (x : Exchange) (y : SyncTimes) (s : State) (m : _), meanPath x = m ∧ 0 ≤ m ∧ m ≤ 2000000000 ∧ x.sync = some y ∧ s.portSynt p = true ∧ (s.tim p).count < 7) ∧
    (∃ (p : PortId) (x : Exchange) (s : State) (m : _), meanPath x = m ∧ 0 ≤ m ∧ m ≤ 2000000000 ∧ x.sync = none ∧ s.portSynt p = true) :=
  ⟨⟨95, ⟨false, 0, 0, 0, 262144000132, none⟩, up, by decide +kernel⟩,
    ⟨95, ⟨false, 0, 0, 0, 262144000000, some ⟨7, 0, 5, 3⟩⟩, ⟨7, 0, 5, 3⟩, (put up [(0x215F, 0x03, 1)]).setTim 95 { count := 6 }, 2000000000, by decide +kernel⟩,
    ⟨95, ⟨false, 0, 0, 0, 262144000000, none⟩, put up [(0x215F, 0x03, 1)], 2000000000, by decide +kernel⟩⟩

theorem witness_TimingCommandsActOnThePort :
    (∃ (role : Role) (p : PortId) (s : State), s.admits role (0x2400 + p) 0x10) ∧
    (∃ (p : PortId) (s : State), (s.tim p).calibrating = true) :=
  ⟨⟨.own, 95, up, by unfold State.admits; decide +kernel⟩,
    ⟨95, up.setTim 95 { calibrating := true }, by decide +kernel⟩⟩

theorem witness_LaneCalibrationGoesRound :
    (∃ (c : ClusterId) (j : Fin 4) (own spare : List Nat) (s : State) (sum : _), (s.detector (5 * c.val + j.val)).phase = 1 ∧ (s.detector (5 * c.val + j.val)).spanned = false ∧ sumApart own spare = some sum) ∧
    (∃ (c : ClusterId) (j : Fin 5) (offset gain : BitVec 10) (s : State), (j.val < 4 → (s.detector (5 * c.val + j.val)).phase = 2 ∧ (s.detector (5 * c.val + j.val)).spanned = false) ∧ (j.val = 4 → 4 ≤ s.nat (0x2500 + c) 0x01 ∧ s.clusterBusy c = false ∧ s.detectorFenced (5 * c.val + 4) = false ∧ s.nat 0x8000 0x05 = 0)) ∧
    (∃ (l : LaneId) (rx tx : Nat) (a b c : BitVec 10) (x y z : Byte) (s : State), l.val < 96 ∧ s.bit (0x8100 + l) 0x0A 0 = true ∧ (s.detector (5 * (l.val / 4) + l.val % 4)).phase = 3 ∧ (s.detector (5 * (l.val / 4) + l.val % 4)).spanned = false) ∧
    (∃ (l : LaneId) (rx tx : Nat) (trims : List (BitVec 10)) (biases : List Byte) (s : State), 96 ≤ l.val ∧ (s.bit (0x8100 + l) 0x0A 1 = true ∨ (s.bit (0x8100 + l) 0x0A 3 = true ∧ (s.stage l = 6 ∨ s.stage l = 7))) ∧ s.nat 0x8000 0x05 = 0 ∧ (s.trim l).spanned = false) ∧
    (∃ (c : ClusterId) (j : Fin 5) (offset gain : BitVec 10) (s : State), j.val < 4 ∧ (s.detector (5 * c.val + j.val)).phase = 2 ∧ (s.detector (5 * c.val + j.val)).spanned = true) ∧
    (∃ (c : ClusterId) (j : Fin 4) (own spare : List Nat) (s : State) (sum : _), (s.detector (5 * c.val + j.val)).phase = 3 ∧ (s.detector (5 * c.val + j.val)).spanned = false ∧ (s.trim (4 * c.val + j.val)).timing.isSome = true ∧ sumApart own spare = some sum) :=
  ⟨⟨23, 3, List.replicate 1024 7, List.replicate 1024 5, up.setDetector 118 { phase := 1 }, 2048, by decide +kernel⟩,
    ⟨23, 3, 500, 510, up.setDetector 118 { phase := 2 }, by decide +kernel⟩,
    ⟨95, 5, 6, 1, 2, 3, 4, 5, 6, (put up [(0x815F, 0x0A, 1)]).setDetector 118 { phase := 3 }, by decide +kernel⟩,
    ⟨99, 5, 6, [1, 2, 3], [4, 5, 6], put up [(0x8163, 0x0A, 2)], by decide +kernel⟩,
    ⟨23, 3, 500, 510, up.setDetector 118 { phase := 2, spanned := true }, by decide +kernel⟩,
    ⟨23, 3, List.replicate 1024 7, List.replicate 1024 5, (up.setDetector 118 { phase := 3 }).setTrim 95 { timing := some (1, 2, 3, 4) }, 2048, by decide +kernel⟩⟩

theorem witness_SlotsQualifyForReference :
    (∃ (n : SlotId) (s : State), s.nat (0x7000 + n) 0x07 = 2 ∧ s.slotFit n = true ∧ s.nat (0x7000 + n) 0x01 ≠ 0) ∧
    (∃ (a b : SlotId) (s : State), a ≠ b ∧ (s.slot a).disputes.testBit b = true ∧ s.slotsDiffer a b = false ∧ (s.slot b).disputes.testBit a = true) ∧
    (∃ (n : SlotId) (tb : TbId) (s : State), s.nat (0x7020 + tb) (0x10 + n) = 1 ∧ s.candidateFit tb n = true) ∧
    (∃ (role : Role) (tb : TbId) (n : SlotId) (s : State), s.admits role (0x7020 + tb) 0x0B) ∧
    (∃ (n : SlotId) (s : State), s.slotPin n = true) :=
  ⟨⟨7, (put up [(0x7007, 0x07, 2), (0x7007, 0x01, 1), (0x7007, 0x08, 2), (0x7007, 0x05, 14)]).setSlot 7 { pinPresent := true }, by decide +kernel⟩,
    ⟨0, 7, (up.setSlot 0 { disputes := 128 }).setSlot 7 { disputes := 1 }, by decide +kernel⟩,
    ⟨7, 7, (put up [(0x7007, 0x01, 6), (0x7007, 0x02, 1), (0x7007, 0x0D, 7), (0x7027, 0x17, 1), (0x6007, 0x04, 16), (0x6007, 0x03, 1)]).setSlot 7 { pinPresent := true }, by decide +kernel⟩,
    ⟨.own, 7, 7, put up [(0x7027, 0x17, 3)], by unfold State.admits; decide +kernel⟩,
    ⟨7, put up [(0x7007, 0x01, 6)], by decide +kernel⟩⟩

theorem witness_FrequencyFollowsTheSelectedSlot :
    (∃ (p : PortId) (ssm : BitVec 4) (essm : Option (BitVec 8)) (s : State), s.portUp p = true) ∧
    (∃ (n : SlotId) (s : State), (s.slotPort n).isSome = true) ∧
    (∃ (n : SlotId) (phases : List Int) (s : State) (ppt : _), s.slotInput n = true ∧ phases.length = 1000 ∧ max (-2147483648) (min 2147483647 (slopePpt (phases.mapIdx (fun j x => (1000000 * j, x))))) = ppt) ∧
    (∃ (s u : State) (near : _), s.nat 0x7010 0x02 = 3 ∧ s.nat 0x7010 0x01 < 8 ∧ s.freqNear = some near ∧ near + 1000000000 ≤ s.now ∧ u = ({ s with freqSwitching := false, freqLog := (s.now, some (s.tb 0).syntony) :: s.freqLog }.setNat 0x7010 0x02 2) ∧ u.refsUpdate.nat 0x7010 0x01 = s.nat 0x7010 0x01) ∧
    (∃ (s : State), (∀ near, s.freqNear = some near → s.now < near + 1000000000)) :=
  ⟨⟨95, 2, none, put up [(0x215F, 0x03, 2)], by decide +kernel⟩,
    ⟨7, put up [(0x7007, 0x01, 31), (0x7030, 0x10, 95)], by decide +kernel⟩,
    ⟨7, List.replicate 1000 3, (put up [(0x7007, 0x01, 6)]).setSlot 7 { pinPresent := true }, _, by decide +kernel, List.length_replicate, rfl⟩,
    ⟨toLock, { toLock with freqSwitching := false, freqLog := [(1000000005, some 0)] }.setNat 0x7010 0x02 2, 5, by decide +kernel⟩,
    ⟨up, by decide +kernel⟩⟩

theorem witness_PairsKeepAWorkingMember :
    (∃ (k : SynthId) (cycles peak : Nat) (last : Int) (s : State), s.synthRuns k = true ∧ s.synthLocked k = false) ∧
    (∃ (k : SynthId) (errors : List Int) (s : State), s.synthLocked k = true ∧ s.losesLock k errors = true) ∧
    (∃ (n : PairId) (cycles peak : Nat) (s : State), s.working n / 2 = n.val ∧ s.synthRuns (s.backup n) = true ∧ s.synthLocked (s.backup n) = true ∧ s.synthReady (s.backup n) = false ∧ peak ≤ 2) ∧
    (∃ (n : PairId) (phase : Int) (s : State), s.synthReady (s.backup n) = true ∧ 2 < phase.natAbs) ∧
    (∃ (role : Role) (n : PairId) (s : State), s.admits role (0x7050 + n) 0x02 ∧ s.working n / 2 = n.val) ∧
    (∃ (period : Fin 5) (s : State), s.isSafe = false ∧ s.synthRuns (s.working 0) = true) :=
  ⟨⟨7, 1000, 2, 5, put up [(0x7047, 0x02, 1)], by decide +kernel⟩,
    ⟨7, List.replicate 8 (2 ^ 80), put up [(0x7047, 0x02, 3)], by decide +kernel⟩,
    ⟨3, 1000, 2, put up [(0x7053, 0x03, 6), (0x7047, 0x02, 3)], by decide +kernel⟩,
    ⟨3, -3, put up [(0x7053, 0x03, 6), (0x7047, 0x02, 11)], by decide +kernel⟩,
    ⟨.own, 3, put up [(0x7053, 0x03, 7), (0x7046, 0x02, 11)], by unfold State.admits; decide +kernel⟩,
    ⟨4, put up [(0x7040, 0x02, 3)], by decide +kernel⟩⟩

theorem witness_CalibrationRoundsRun :
    (∃ (d : BankId) (role : Role) (r : Nat) (delays : List Nat) (s : State), s.isUp = true) ∧
    (∃ (s : State), s.roundRuns = true) ∧
    (∃ (f : FireflyId) (s : State) (v : Nat), (s.firefly f).vernierShadow = some v) ∧
    (∃ (d : BankId) (ch : Fin 7) (reading : Int) (s : State), s.isUp = true ∧ s.nat 0x8000 0x05 = 0 ∧ s.nat (0x8200 + d) 0x07 = ch ∧ ch.val < 6) ∧
    (∃ (d : BankId) (reading : Int) (s : State), s.isUp = true ∧ s.nat 0x8000 0x05 = 0 ∧ s.nat (0x8200 + d) 0x07 = 0xFF ∧ s.roundRuns = true) :=
  ⟨⟨4, .own, 8, [1, 2], up, by decide +kernel⟩,
    ⟨{ up with roundRuns := true }, by decide +kernel⟩,
    ⟨15, up.setFirefly 15 { vernierShadow := some 500 }, 500, by decide +kernel⟩,
    ⟨4, 5, 65535, put up [(0x8204, 0x07, 5)], by decide +kernel⟩,
    ⟨4, 65535, { put up [(0x8204, 0x07, 0xFF)] with roundRuns := true }, by decide +kernel⟩⟩

theorem witness_TwinLinkComesUp :
    (∃ (k : Fin 4) (serial : BitVec 64) (twinId fw layout : Nat) (lead : Bool) (fenced tb0 : Nat) (covers : List Nat) (s : State), s.laneCarries k = true ∧ s.isUp = true) ∧
    (∃ (h : KeaconHead) (m : MirrorMessage) (p : PortId) (ports : BitVec 96) (vid priority untag : Nat) (payload : List Byte) (s : State) (x : Instr × Nat × KeaconContent), x ∈ [(Instr.mirrorFrameReceive h m, m.cls, KeaconContent.mirror m), (Instr.coverNoticeReceive h p, 2, KeaconContent.coverNotice p), (Instr.uncoverNoticeReceive h p, 2, KeaconContent.uncoverNotice p), (Instr.uncoverAckReceive h p, 2, KeaconContent.uncoverAck p), (Instr.coverFrameReceive h ports vid priority untag payload, 4, KeaconContent.cover ports.toNat vid priority untag payload)]) ∧
    (∃ (cls : Fin 6) (s : State), s.twin.linkUp = true ∧ s.keaconHole cls = false) ∧
    (∃ (p : PortId) (h : KeaconHead) (s : State), s.twin.linkUp = true ∧ s.twin.held = [⟨2, h, .coverNotice p⟩] ∧ h.sequence % 65536 = (Sparse.get 0 s.twin.classSeq 2 + 1) % 65536 ∧ s.regionFenced (p.val / 12) = false ∧ s.nat (0x9100 + p) 0x01 < 96 ∧ s.nat (0x9100 + p) 0x03 ≤ 1) ∧
    (∃ (cls : Fin 6) (s : State), s.twin.linkUp = true ∧ s.keaconHole cls = true ∧ (s.keaconPast cls 1).dueKeacon cls = none) :=
  ⟨⟨3, 5, 1, 2, 3, true, 0, 4, [], put up [(0x2063, 0x02, 6)], by decide +kernel⟩,
    ⟨{ cls := 2, sequence := 0 }, .lost, 5, 0, 0, 0, 0, [], up, (Instr.uncoverAckReceive { cls := 2, sequence := 0 } 5, 2, .uncoverAck 5), by decide +kernel⟩,
    ⟨5, { up with twin := { linkUp := true } }, by decide +kernel⟩,
    ⟨95, { cls := 2, sequence := 1 }, { put up [(0x915F, 0x01, 95), (0x915F, 0x03, 1)] with twin := { linkUp := true, held := [⟨2, { cls := 2, sequence := 1 }, .coverNotice 95⟩] } }, by decide +kernel⟩,
    ⟨2, { up with twin := { linkUp := true, held := [⟨2, { cls := 2, sequence := 5 }, .coverNotice 95⟩] } }, by decide +kernel⟩⟩

theorem witness_CricketsCarryTheTwinState :
    (∃ (s : State), s.collects = true) ∧
    (∃ (k : Fin 4) (head : KeaconHead) (payload : List Byte) (received : List Int) (s : State), s.twin.linkUp = true ∧ s.bit 0x9000 0x0B k = true ∧ (goodKeacon 1 head = false ∨ payload.length ≠ 112)) ∧
    (∃ (k : Fin 4) (head : KeaconHead) (payload : List Byte) (received : List Int) (s : State), s.twin.linkUp = true ∧ s.bit 0x9000 0x0B k = true ∧ goodKeacon 1 head = true ∧ payload.length = 112) ∧
    (∃ (s : State), s.twin.linkUp = true ∧ s.twin.cricketOk = true) :=
  ⟨⟨up, by decide +kernel⟩,
    ⟨3, { cls := 1, sequence := 0 }, [], [], { put up [(0x9000, 0x0B, 8)] with twin := { linkUp := true } }, by decide +kernel⟩,
    ⟨3, { cls := 1, sequence := 0 }, List.replicate 112 0, [], { put up [(0x9000, 0x0B, 8)] with twin := { linkUp := true } }, by decide +kernel⟩,
    ⟨{ up with twin := { linkUp := true, cricketOk := true } }, by decide +kernel⟩⟩

theorem witness_RolesAreTakenAndYielded :
    (∃ (s : State), s.isUp = true ∧ s.nat 0x9000 0x01 = 3 ∧ s.twin.linkUp = false) ∧
    (∃ (role : Role) (s : State), s.admits role 0x9000 0x03) ∧
    (∃ (s : State), s.isUp = true ∧ s.leads = true ∧ s.twin.linkUp = true ∧ s.flag 0x9000 0x06 = true ∧ s.servo 0 = 4 ∧ s.twin.twinFlags.testBit 1 = true) ∧
    (∃ (s : State), s.isUp = true ∧ s.nat 0x9000 0x01 = 2 ∧ s.twin.linkUp = true) ∧
    (∃ (s : State), s.twin.holdOut = true) ∧
    (∃ (s : State), s.twin.linkUp = true ∧ s.twin.cricketOk = true ∧ s.twin.holdIn ≠ s.twin.twinFlags.testBit 3) :=
  ⟨⟨put up [(0x9000, 0x01, 3)], by decide +kernel⟩,
    ⟨.own, put up [(0x9000, 0x01, 0)], by unfold State.admits; decide +kernel⟩,
    ⟨{ put up [(0x9000, 0x01, 1), (0x9000, 0x06, 1), (0x6000, 0x04, 8)] with twin := { linkUp := true, twinFlags := 2 } }, by decide +kernel⟩,
    ⟨{ put up [(0x9000, 0x01, 2)] with twin := { linkUp := true } }, by decide +kernel⟩,
    ⟨{ up with twin := { holdOut := true } }, by decide +kernel⟩,
    ⟨{ up with twin := { linkUp := true, cricketOk := true, twinFlags := 8 } }, by decide +kernel⟩⟩

theorem witness_TwinMirrorsAndCovers :
    (∃ (h : KeaconHead) (image : Bool) (epoch : Nat) (values : List (Nat × Nat × List Byte)) (s u : State) (l : _), s.isUp = true ∧ s.twin.linkUp = true ∧ s.nat 0x9000 0x01 = 2 ∧ goodKeacon 3 h = true ∧ s.keaconAhead 3 h.sequence = 0 ∧ s.keaconHole 3 = false ∧ u = s.keaconPast 3 (max 1 h.frames) ∧ u.mirroredValues (values.map (fun v => OdValue.mk v.1 v.2.1 v.2.2)) = l ∧ (s.nat 0x9000 0x0C = 1 ∨ (s.nat 0x9000 0x0C = 2 ∨ s.nat 0x9000 0x0C = 3) ∧ 0 < signed 32 ((epoch % 2 ^ 32 + 2 ^ 32 - s.nat 0x9000 0x0D) % 2 ^ 32))) ∧
    (∃ (h : KeaconHead) (epoch : Nat) (m : MirrorMessage) (s : State), s.twin.linkUp = true ∧ s.leads = true ∧ goodKeacon m.cls h = true ∧ s.keaconAhead m.cls h.sequence = 0 ∧ s.keaconHole m.cls = false ∧ (m = .refused epoch ∨ m = .applied epoch) ∧ (s.nat 0x9000 0x0C = 2 ∨ s.nat 0x9000 0x0C = 3)) ∧
    (∃ (role : Role) (s : State), s.admits role 0x9000 0x10) ∧
    (∃ (s : State), s.nat 0x9000 0x0C = 1 ∧ (s.leads = true → s.nat 0x9000 0x0E = s.nat 0x9000 0x0D ∧ s.twin.mirrorOut = [])) ∧
    (∃ (h : KeaconHead) (p : PortId) (s : State), s.twin.linkUp = true ∧ goodKeacon 2 h = true ∧ s.keaconAhead 2 h.sequence = 0 ∧ s.keaconHole 2 = false ∧ s.regionFenced (p.val / 12) = false ∧ s.nat (0x9100 + p) 0x01 < 96 ∧ s.nat (0x9100 + p) 0x03 ≤ 1) ∧
    (∃ (h : KeaconHead) (p : PortId) (s : State), s.twin.linkUp = true ∧ goodKeacon 2 h = true ∧ s.keaconAhead 2 h.sequence = 0 ∧ s.keaconHole 2 = false) ∧
    (∃ (h : KeaconHead) (p : PortId) (role : Role) (s : State), s.nat (0x9100 + p) 0x03 = 4) ∧
    (∃ (s : State) (f : CoverFrame) (rest : List CoverFrame), s.twin.coverBuffer = f :: rest) ∧
    (∃ (h : KeaconHead) (ports : BitVec 96) (vid priority untag : Nat) (payload : List Byte) (s : State), s.coveringPorts ports.toNat ≠ [] ∧ s.twin.linkUp = true ∧ goodKeacon 4 h = true ∧ s.keaconAhead 4 h.sequence = 0 ∧ s.keaconHole 4 = false ∧ s.isUp = true ∧ s.regionFenced 0 = false) :=
  ⟨⟨{ cls := 3, sequence := 0 }, true, 8, [], { put up [(0x9000, 0x01, 2), (0x9000, 0x0C, 2), (0x9000, 0x0D, 7)] with twin := { linkUp := true } }, { put up [(0x9000, 0x01, 2), (0x9000, 0x0C, 2), (0x9000, 0x0D, 7)] with twin := { linkUp := true, classSeq := [(3, 1)] } }, [], by decide +kernel⟩,
    ⟨{ cls := 2, sequence := 0 }, 8, .refused 8, { put up [(0x9000, 0x01, 1), (0x9000, 0x0C, 2)] with twin := { linkUp := true } }, by decide +kernel⟩,
    ⟨.own, { put up [(0x9000, 0x01, 0)] with twin := { linkUp := true } }, by unfold State.admits; decide +kernel⟩,
    ⟨put up [(0x9000, 0x0C, 1)], by decide +kernel⟩,
    ⟨{ cls := 2, sequence := 0 }, 95, { put up [(0x915F, 0x01, 95), (0x915F, 0x03, 1)] with twin := { linkUp := true } }, by decide +kernel⟩,
    ⟨{ cls := 2, sequence := 0 }, 95, { put up [(0x915F, 0x03, 3)] with twin := { linkUp := true } }, by decide +kernel⟩,
    ⟨{ cls := 2, sequence := 0 }, 95, .own, put up [(0x915F, 0x03, 4)], by decide +kernel⟩,
    ⟨{ up with twin := { coverBuffer := [{ ports := 1, vid := 1, priority := 0, untag := 0, payload := [] }] } }, { ports := 1, vid := 1, priority := 0, untag := 0, payload := [] }, [], by decide +kernel⟩,
    ⟨{ cls := 4, sequence := 0 }, 1, 1, 0, 0, [7], { put up [(0x915F, 0x01, 0), (0x915F, 0x03, 3)] with twin := { linkUp := true } }, by decide +kernel⟩⟩

theorem witness_DetectionIsRecordedAndActs : ∃ (src detail : Nat) (run : StartRun) (s : State), s.collects = true ∧ s.messages = [] ∧ src < 1504 ∧ reservedSource src = false :=
  ⟨576, 3, {}, up, by decide +kernel⟩

theorem witness_SafetyLogicAndSupplies :
    (∃ (k : Fin 8) (s : State), s.collects = true) ∧
    (∃ (g : RegionId) (d : Fin 4) (s : State), s.collects = true) ∧
    (∃ (d : BankId) (critical : Bool) (s : State), s.collects = true) ∧
    (∃ (x : Fin 33) (s : State), s.crossingShut x = false ∧ s.isUp = true) :=
  ⟨⟨7, up, by decide +kernel⟩,
    ⟨7, 3, up, by decide +kernel⟩,
    ⟨4, true, up, by decide +kernel⟩,
    ⟨32, up, by decide +kernel⟩⟩

theorem witness_FaultStateIsClearedByName :
    (∃ (s : State) (w : Act), firstToClose s.windows = some w) ∧
    (∃ (role : Role) (s : State), s.admits role 0xA000 0x02) ∧
    (∃ (role : Role) (s : State), s.admits role 0xA000 0x06) :=
  ⟨⟨{ up with windows := [{ cause := 577, closes := 5 }, { cause := 576, closes := 4 }] }, { cause := 576, closes := 4 }, by decide +kernel⟩,
    ⟨.own, up, by unfold State.admits; decide +kernel⟩,
    ⟨.own, up, by unfold State.admits; decide +kernel⟩⟩

theorem witness_HostFencesAndReleases :
    (∃ (role : Role) (l : FenceLevel) (i : Nat) (s : State), s.admits role 0xA010 0x07 ∧ s.isUp = true) ∧
    (∃ (role : Role) (l : FenceLevel) (i : Nat) (s : State), s.writeBar role .own 0xA010 0x07 = none ∧ i < levelItems l ∧ s.isUp = true) :=
  ⟨⟨.own, .bank, 127, up, by unfold State.admits; decide +kernel⟩,
    ⟨.own, .region, 7, { up with fences := [(.region, 7)] }, by decide +kernel⟩⟩

theorem witness_EnginesRunTrapAndLoad :
    (∃ (e : EngineId) (s : State), (s.nat (0xB000 + e) 0x02 = 2 ∨ s.nat (0xB000 + e) 0x02 = 3)) ∧
    (∃ (e : EngineId) (s : State), (s.nat (0xB000 + e) 0x02 = 2 ∨ s.nat (0xB000 + e) 0x02 = 4) ∧ (s.engine e).halted = 0 ∧ s.isSafe = false ∧ s.watchdogDue e = true) ∧
    (∃ (e : EngineId) (thread : Fin 4) (cause address : BitVec 32) (s : State), s.threadRuns e thread = true) ∧
    (∃ (e : EngineId) (thread : Fin 4) (s : State), s.nat (0xB000 + e) 0x02 = 2) ∧
    (∃ (e : EngineId) (digestOk : Bool) (s : State), s.start.server = true ∧ (s.nat (0xB000 + e) 0x02 = 1 ∨ s.nat (0xB000 + e) 0x02 = 4)) :=
  ⟨⟨15, put up [(0xB00F, 0x02, 3)], by decide +kernel⟩,
    ⟨15, { put up [(0xB00F, 0x02, 4)] with now := 10000000000 }, by decide +kernel⟩,
    ⟨15, 3, 6, 0x40, put up [(0xB00F, 0x02, 2)], by decide +kernel⟩,
    ⟨15, 3, put up [(0xB00F, 0x02, 2)], by decide +kernel⟩,
    ⟨15, true, put up [(0xB00F, 0x02, 1)], by decide +kernel⟩⟩

theorem witness_CountersSampleAndWrap :
    (∃ (elapsed : List (Nat × Nat)) (s : State), s.hubCounts = true ∧ (∀ e, e < 16 → s.accounted elapsed e = true)) ∧
    (∃ (bit : Fin 672) (s : State), s.hubCounts = true ∧ counterKeys.contains (counterKey bit) = true ∧ Sparse.get 0 s.perf (counterKey bit) = 2 ^ 48 - 1) ∧
    (∃ (role : Role) (s : State), s.admits role 0xB080 0x07) ∧
    (∃ (role : Role) (mask : BitVec 768) (s : State), s.admits role 0xB080 0x06) ∧
    (∃ (m : MonitorId) (s : State), s.hubCounts = true ∧ (Sparse.get {} s.monitors m).source ≠ 0) :=
  ⟨⟨[], { up with domains := 0x1FF }, by decide +kernel⟩,
    ⟨671, { { up with domains := 0x1FF } with perf := [(counterKey 671, 2 ^ 48 - 1)] }, by decide +kernel⟩,
    ⟨.own, up, by unfold State.admits; decide +kernel⟩,
    ⟨.own, 5, up, by unfold State.admits; decide +kernel⟩,
    ⟨15, { { up with domains := 0x1FF } with monitors := [(15, { source := 1 })] }, by decide +kernel⟩⟩

theorem witness_LifecycleAdvancesByBurning :
    (∃ (sn : SessionId) (conf : BitVec 32) (s : State), s.lifecycleBar sn 4 conf.toNat [] = none ∧ s.lifecycle = 2) ∧
    (∃ (run : StartRun) (s : State) (b : Nat × List Byte × List Byte), s.security.burning = some b ∧ s.security.groups.length = 3 ∧ s.security.groups.all (fun n => decide (n ≤ 8)) = true) ∧
    (∃ (role : Role) (s : State), s.admits role 0xC030 0x05) :=
  ⟨⟨0, 0, { ((put up [(0xC000, 0x01, 2), (0xF000, 0x01, 2), (0xF000, 0x03, 3)]).setSession 0 { credential := 0 }).setBlob 0xC020 1 (List.replicate 97 0 ++ [2, 0, 0]) with security := { slot1State := 1 } }, by decide +kernel⟩,
    ⟨{}, { up with security := { burning := some (1, [], []) } }, (1, [], []), by decide +kernel⟩,
    ⟨.own, up, by unfold State.admits; decide +kernel⟩⟩

theorem witness_DebugGrantsRunAndEnd :
    (∃ (sn : SessionId) (s : State), s.sessionOpen sn = true ∧ s.debugServed sn = true) ∧
    (∃ (sn : SessionId) (slot : Nat) (verifies : Bool) (s : State), s.sessionOpen sn = true ∧ s.debugServed sn = true ∧ roleCovers (s.sessionRole sn) .own = true ∧ s.security.challengeRead = true ∧ s.lifecycle = 1 ∧ s.debugState ≠ 2 ∧ (s.credentialFlags slot).testBit 0 = true) ∧
    (∃ (s : State), s.security.challengeRead = true) ∧
    (∃ (s : State), s.nat 0xC040 0x01 = 1) ∧
    (∃ (role : Role) (s : State), s.debugServed 0 = true ∧ roleCovers role .own = true) ∧
    (∃ (e : EngineId) (threads : BitVec 4) (halt : Bool) (s : State), s.intrusive = true ∧ (s.nat (0xB000 + e) 0x02 = 2 ∨ s.nat (0xB000 + e) 0x02 = 3)) ∧
    (∃ (e : EngineId) (address value : BitVec 32) (s : State), s.intrusive = true) :=
  ⟨⟨7, put up [(0xF007, 0x01, 2)], by decide +kernel⟩,
    ⟨0, 15, true, { (put up [(0xF000, 0x01, 2), (0xF000, 0x03, 3), (0xC000, 0x01, 1), (0xC040, 0x01, 0)]).setBlob 0xC020 16 (List.replicate 97 0 ++ [1, 0, 0]) with security := { challengeRead := true } }, by decide +kernel⟩,
    ⟨{ up with security := { challengeRead := true } }, by decide +kernel⟩,
    ⟨put up [(0xC040, 0x01, 1)], by decide +kernel⟩,
    ⟨.own, up, by decide +kernel⟩,
    ⟨15, 0b1000, true, put up [(0xC040, 0x01, 1), (0x9000, 0x01, 2), (0xB00F, 0x02, 2)], by decide +kernel⟩,
    ⟨15, 64, 5, put up [(0xC040, 0x01, 1), (0x9000, 0x01, 2)], by decide +kernel⟩⟩

theorem witness_StartsBeginByTheirTypes :
    (∃ (run : StartRun) (s : State), s.start.powered = false) ∧
    (∃ (run : StartRun) (s : State), s.start.powered = false ∧ s.nat 0xC030 0x03 ≤ run.baseSecurity ∧ s.start.imageA = none ∧ s.start.imageB = none) ∧
    (∃ (s : State), s.start.powered = true) ∧
    (∃ (run : StartRun) (s : State), s.start.inReset = true) ∧
    (∃ (role : Role) (run : StartRun) (s : State), s.admits role 0xD000 0x01) :=
  ⟨⟨{ reached := 1 }, { up with start := { powered := false } }, by decide +kernel⟩,
    ⟨{}, { up with start := { powered := false } }, by decide +kernel⟩,
    ⟨up, by decide +kernel⟩,
    ⟨{}, { State.reset with start := { inReset := true } }, by decide +kernel⟩,
    ⟨.own, {}, up, by unfold State.admits; decide +kernel⟩⟩

theorem witness_StartsFailRetryAndSettle :
    (∃ (s : State), s.startRuns = true ∧ s.start.holding = false) ∧
    (∃ (run : StartRun) (s : State) (k : Nat), s.start.retry = some k ∧ s.isSafe = false ∧ run.reached < 2) ∧
    (∃ (g : RegionId) (run : StartRun) (s : State) (src : Nat), s.collects = true ∧ src = 768 + 32 * g.val + 27 ∧ s.messages = []) ∧
    (∃ (s : State), s.isUp = true ∧ s.start.settling = true) ∧
    (∃ (role : Role) (s : State), s.start.holding = true ∧ s.start.run.isSome = true) ∧
    (∃ (role : Role) (s : State), s.admits role 0xD000 0x10) :=
  ⟨⟨{ State.reset with start := { run := some {} } }, by decide +kernel⟩,
    ⟨{ reached := 1 }, { put State.reset [(0xD000, 0x03, 3)] with start := { retry := some 2 } }, 2, by decide +kernel⟩,
    ⟨7, {}, up, 1019, by decide +kernel⟩,
    ⟨{ up with start := { up.start with settling := true } }, by decide +kernel⟩,
    ⟨.own, { up with start := { up.start with holding := true, run := some {} } }, by decide +kernel⟩,
    ⟨.own, up, by unfold State.admits; decide +kernel⟩⟩

theorem witness_SessionsOpenAndClose :
    (∃ (transport : Fin 7) (role : Role) (credential : Nat) (peer : List Byte) (arrival : Arrival) (s : State) (n : Nat), s.freeSession transport = some n ∧ s.reaches transport = true ∧ s.arrives { transport := transport, peer := peer, arrival := arrival } = true ∧ s.isSafe = false ∧ (transport.val = 6 → s.twin.linkUp = true)) ∧
    (∃ (sn : SessionId) (signatureOk : Bool) (arrival : Arrival) (s : State), s.start.server = true ∧ s.arrives (s.routeOf sn arrival) = true ∧ s.isSafe = false ∧ s.nat (0xF000 + sn) 0x01 = 1) ∧
    (∃ (rq : Request) (s : State), s.acts rq) ∧
    (∃ (sn : SessionId) (s : State), s.nat (0xF000 + sn) 0x01 ≠ 0 ∧ (s.session sn).lastRequest + s.nat 0xF010 0x01 * 1000000000 ≤ s.now) ∧
    (∃ (route : Route) (message : List Byte) (response : Option (List Byte)) (s : State), s.reaches route.transport = true ∧ s.arrives route = true ∧ s.isSafe = false) :=
  ⟨⟨6, .observe, 255, [], {}, { put up [(0xF010, 0x02, 63)] with twin := { linkUp := true } }, 1, by decide +kernel⟩,
    ⟨7, true, {}, put up [(0xF007, 0x01, 1)], by decide +kernel⟩,
    ⟨{ session := 7, rid := 5 }, put up [(0xF007, 0x01, 2)], by unfold State.acts; decide +kernel⟩,
    ⟨7, { put up [(0xF007, 0x01, 2)] with now := 2 ^ 60 }, by decide +kernel⟩,
    ⟨{ transport := 1 }, [1, 2], none, up, by decide +kernel⟩⟩

theorem witness_RequestsReadHoldAndClaim :
    (∃ (rq : Request) (index : BitVec 16) (sub : BitVec 8) (s : State), s.acts rq ∧ index.toNat < 0xF000 ∧ sub ≠ 0) ∧
    (∃ (rq : Request) (g : Fin 4) (index : BitVec 16) (sub : BitVec 8) (bytes : List Byte) (s : State), s.acts rq ∧ (∀ e, findEntry index.toNat sub.toNat = some e → e.ty ≠ .domain ∧ (lengthFault e index.toNat sub.toNat bytes.length).isNone = true) ∧ (s.session rq.session).waiting = none ∧ s.heldIn rq.session g index.toNat sub.toNat = none ∧ (s.session rq.session).staged + bytes.length ≤ 2097152 ∧ s.stagedAll + bytes.length ≤ 4194304) ∧
    (∃ (rq : Request) (g : Fin 4) (s : State), s.acts rq ∧ (s.session rq.session).waiting ≠ some g.val) ∧
    (∃ (rq : Request) (first last : BitVec 16) (s : State), s.acts rq ∧ roleCovers (s.sessionRole rq.session) .operate = true ∧ first ≤ last) ∧
    (∃ (rq : Request) (first last : BitVec 16) (s : State), s.acts rq ∧ (s.session rq.session).claims.length ≤ 4) ∧
    (∃ (rq : Request) (s : State), s.acts rq ∧ (s.nat (0xF000 + rq.session) 0x02 = 2 ∨ s.nat (0xF000 + rq.session) 0x02 = 3 → False)) :=
  ⟨⟨{ session := 7, rid := 5 }, 0xEFFF, 255, put up [(0xF007, 0x01, 2)], by unfold State.acts; decide +kernel⟩,
    ⟨{ session := 7, rid := 5 }, 3, 0x6000, 0x0C, [0, 0, 0, 9], put up [(0xF007, 0x01, 2)], by unfold State.acts; decide +kernel, by intro e h; rw [← Option.some.inj (offsetLimit_found.symm.trans h)]; decide +kernel, by decide +kernel⟩,
    ⟨{ session := 7, rid := 5 }, 3, put up [(0xF007, 0x01, 2)], by unfold State.acts; decide +kernel⟩,
    ⟨{ session := 7, rid := 5 }, 0x6000, 0x6000, put up [(0xF007, 0x01, 2), (0xF007, 0x03, 3)], by unfold State.acts; decide +kernel⟩,
    ⟨{ session := 7, rid := 5 }, 0x6001, 0x6000, (put up [(0xF007, 0x01, 2)]).setSession 7 { claims := [(0x6000, 0x6007), (1, 2), (5, 6), (9, 9)] }, by unfold State.acts; decide +kernel⟩,
    ⟨{ session := 7, rid := 5 }, put up [(0xF007, 0x01, 2), (0xF007, 0x02, 6)], by unfold State.acts; decide +kernel⟩⟩

theorem witness_CommitsTakeTheirTurn :
    (∃ (rq : Request) (g : Fin 4) (s : State), s.acts rq ∧ (s.session rq.session).waiting = none) ∧
    (∃ (rq : Request) (x y : Byte) (s : State), s.acts rq ∧ rq.rid < 65536 ∧ (s.session rq.session).waiting = none ∧ s.commits = [] ∧ s.heldIn rq.session 4 0x4110 0x05 = none ∧ s.writeFault rq.session 0x4110 0x05 = none) ∧
    (∃ (n : SessionId) (rid : Nat) (s : State), s.start.holdOver = false) ∧
    (∃ (index : BitVec 16) (sub : BitVec 8) (bytes : List Byte) (s : State) (e : OdEntry), findEntry index.toNat sub.toNat = some e ∧ s.served = true ∧ e.acc = .rw ∧ isCommand index.toNat sub.toNat = false ∧ (lengthFault e index.toNat sub.toNat bytes.length).isNone = true) ∧
    (∃ (thread : Fin 64) (tb : TbId) (n : SlotId) (bytes : List Byte) (s : State), s.served = true ∧ s.threadRuns (thread / 4) (thread % 4) = true ∧ (s.engine (thread / 4)).running = 0 ∧ bytes.length = 8) ∧
    (∃ (thread : Fin 64) (index : BitVec 16) (sub : BitVec 8) (bytes : List Byte) (s : State), s.served = true ∧ s.threadRuns (thread / 4) (thread % 4) = true ∧ s.imageWrites (thread / 4) index.toNat sub.toNat = false) ∧
    (∃ (s : State), s.start.server = true) ∧
    (∃ (rid seq : Nat) (macOk unwrapOk : Bool) (response : Option (List Byte)) (s : State), s.acts { session := 0, rid := rid, seq := seq, macOk := macOk } ∧ rid < 65536 ∧ seq < 2 ^ 32) ∧
    (∃ (s : State), s.start.server = true ∧ s.isSafe = false ∧ s.sessionOpen 0 = true) :=
  ⟨⟨{ session := 7, rid := 5 }, 3, put up [(0xF007, 0x01, 2)], by unfold State.acts; decide +kernel⟩,
    ⟨{ session := 7, rid := 5 }, 0, 9, (put up [(0xF007, 0x01, 2), (0xF007, 0x03, 3)]).setSession 7 { claims := [(0x4110, 0x4110)] }, by unfold State.acts; decide +kernel⟩,
    ⟨7, 5, up, by decide +kernel⟩,
    ⟨0x6000, 0x0C, [0, 0, 0, 9], up, offsetLimitEntry, by decide +kernel⟩,
    ⟨63, 7, 7, List.replicate 8 0, put up [(0xB00F, 0x02, 2)], by decide +kernel⟩,
    ⟨63, 0xFFFF, 255, [1], put up [(0xB00F, 0x02, 2)], by decide +kernel⟩,
    ⟨up, by decide +kernel⟩,
    ⟨65535, 2 ^ 32 - 1, true, true, none, put up [(0xF000, 0x01, 2)], by unfold State.acts; decide +kernel⟩,
    ⟨put up [(0xF000, 0x01, 2)], by decide +kernel⟩⟩

theorem witness_HubChannelCarriesTimeFirst : ∃ (g : RegionId) (s : State), s.regionFenced g = false ∧ s.isSafe = false :=
  ⟨7, up, by decide +kernel⟩

theorem witness_StepRunsTheFrontCommand : ∃ (s : State), s.pending = [] ∧ s.start.run = none :=
  ⟨up, by decide +kernel⟩

theorem witness_EveryCommandKeepsToItsParts : ∃ (s : State) (c : Instr) (rest : List Instr), s.pending = c :: rest :=
  ⟨up.withFront (.keaconReorderTimeout 0), .keaconReorderTimeout 0, [], by decide +kernel⟩

theorem witness_FusesAreNeverRestored : ∃ (s t : State), s.fusesHold ∧ step s = .next t :=
  ⟨{ up with pending := [.fuseBurnComplete {}], security := { burning := some (1, [], []) } }, _, by unfold State.fusesHold; decide +kernel, rfl⟩

theorem witness_DegradedWhileAFenceStands : ∃ (s t : State), s.runAgrees ∧ step s = .next t :=
  ⟨up.withFront (.hostFence .own .region 7), _, by unfold State.runAgrees; decide +kernel, rfl⟩


end Sys2Proof.Tests
end

namespace Sys2Proof.Machine

/-! ## DEGRADED while a fence stands (15 R388)

`State.runAgrees` alone is no invariant of the step. It reads the run state from the first item of `regs` with the key of 1000h.08, while a warm start
writes all entries anew, item by item (`State.warmEntries`), so that of two items with one key the last stays. O60 asks only
`runAgrees` of the state before the step, and not that its `regs` is in the canonical form `Sparse.wf`, in which no key stands twice. -/

/-- A state in RUN without a fence whose `regs`, not in canonical form, lists the run state twice: RUN, and behind it DEGRADED. A host's command for a
warm start waits, which carries out step 2 of 19 R476 and then stands in step 3. -/
def runListedTwice : State :=
  { State.reset with
    regs := [(key 0x1000 0x08, 2), (key 0x1000 0x08, 3)]
    start := { State.reset.start with server := true }
    pending := [.startCommand .own { reached := 2 }] }

theorem runListedTwice_runAgrees : runListedTwice.runAgrees := by
  unfold State.runAgrees
  decide +kernel

/-- The warm start puts WARM-START into the first item, and its step 2 brings the second one back. -/
theorem runListedTwice_step : ∃ t, step runListedTwice = .next t ∧ t.runState = 3 ∧ t.fences = [] :=
  ⟨_, rfl, by decide +kernel⟩

/-- Refutes O60: from `runListedTwice`, whose run state agrees with its fences, a warm start leads to DEGRADED with no fence. The state is not in
canonical form, which the statement does not exclude. -/
theorem not_degradedWhileAFenceStands : ¬ Obligations.DegradedWhileAFenceStands := by
  unfold Obligations.DegradedWhileAFenceStands
  intro holds
  obtain ⟨t, hstep, hrun, hfences⟩ := runListedTwice_step
  have agrees : t.runAgrees := holds runListedTwice t runListedTwice_runAgrees hstep
  have up : t.isUp = true := by simp [State.isUp, hrun]
  have run : t.runState = 2 := by simpa [hfences] using agrees up
  omega

end Sys2Proof.Machine

namespace Sys2Proof.Machine

open Host (Outcome)

/-! ## What the fuses of the lifecycle groups can do (18 R451) -/

/-- Three lifecycle groups of at most 8 blown fuses each (18 R451). -/
def GroupsHold (g : List Nat) : Prop := g.length = 3 ∧ g.all (fun n => decide (n ≤ 8)) = true

theorem groupsHold_iff {g : List Nat} : GroupsHold g ↔ ∃ a b c, g = [a, b, c] ∧ a ≤ 8 ∧ b ≤ 8 ∧ c ≤ 8 := by
  constructor
  · rintro ⟨three, most⟩
    obtain ⟨a, b, c, rfl⟩ := List.length_eq_three.1 three
    exact ⟨a, b, c, rfl, by simpa using most⟩
  · rintro ⟨a, b, c, rfl, most⟩
    exact ⟨rfl, by simpa using most⟩

theorem fusesHold_iff {s : State} : s.fusesHold ↔ GroupsHold s.security.groups := Iff.rfl

/-- The fuses burn on from `g` to `h`: from groups in order come groups in order, and none of them has a fuse restored (18 R451). -/
structure GroupsBurn (g h : List Nat) : Prop where
  hold : GroupsHold g → GroupsHold h
  grow : GroupsHold g → ∀ i, i < 3 → g.getD i 0 ≤ h.getD i 0

theorem GroupsBurn.refl (g : List Nat) : GroupsBurn g g := ⟨id, fun _ _ _ => le_rfl⟩

theorem GroupsBurn.trans {g h k : List Nat} (a : GroupsBurn g h) (b : GroupsBurn h k) : GroupsBurn g k :=
  ⟨b.hold ∘ a.hold, fun w i hi => (a.grow w i hi).trans (b.grow (a.hold w) i hi)⟩

/-- Group by group: each of the three burns on, to 8 fuses at most. -/
theorem GroupsBurn.of_three {g h : List Nat}
    (each : ∀ a b c, g = [a, b, c] → a ≤ 8 → b ≤ 8 → c ≤ 8 →
      ∃ x y z, h = [x, y, z] ∧ (a ≤ x ∧ x ≤ 8) ∧ (b ≤ y ∧ y ≤ 8) ∧ c ≤ z ∧ z ≤ 8) : GroupsBurn g h := by
  refine ⟨fun w => ?_, fun w i hi => ?_⟩
  all_goals
    obtain ⟨a, b, c, rfl, ha, hb, hc⟩ := groupsHold_iff.1 w
    obtain ⟨x, y, z, rfl, ⟨hx, hx8⟩, ⟨hy, hy8⟩, hz, hz8⟩ := each a b c rfl ha hb hc
  · exact groupsHold_iff.2 ⟨x, y, z, rfl, hx8, hy8, hz8⟩
  · interval_cases i <;> simpa

/-- The fuse reload of a cold start completes the groups that have been begun, and leaves the others (18 R454; 19 R475). -/
theorem GroupsBurn.reload (g : List Nat) : GroupsBurn g (g.map (fun n => if n = 0 then 0 else 8)) := by
  have whole : ∀ n, n ≤ 8 → n ≤ (if n = 0 then 0 else 8) ∧ (if n = 0 then 0 else 8) ≤ 8 := fun n hn => by split <;> omega
  refine .of_three fun a b c e ha hb hc => ⟨_, _, _, by rw [e]; rfl, whole a ha, whole b hb, whole c hc⟩

@[simp] theorem SecurityX.burnSlots_groups (x : SecurityX) (code : Nat) (d0 d1 : List Byte) : (x.burnSlots code d0 d1).groups = x.groups := by
  unfold SecurityX.burnSlots
  dsimp only
  split_ifs <;> rfl

/-- A burn of a lifecycle command's group, to at most 8 fuses in its last one, restores none (18 R453, R454). -/
theorem SecurityX.burnGroups_burn (x : SecurityX) (code : Nat) {last : Nat} (most : last ≤ 8) :
    GroupsBurn x.groups (x.burnGroups code last).groups := by
  unfold SecurityX.burnGroups
  dsimp only
  split_ifs
  case neg => exact .refl _
  all_goals
    refine .of_three fun a b c e ha hb hc => ⟨_, _, _, rfl, ?_⟩
    simp only [e, List.getD_cons_zero, List.getD_cons_succ]
    omega

/-- A burn cut short has burned on as far as it came (18 R454). -/
theorem SecurityX.cutBurn_burn (x : SecurityX) : GroupsBurn x.groups x.cutBurn.groups := by
  unfold SecurityX.cutBurn
  split
  · exact .refl _
  · next code d0 d1 _ =>
    have whole := ({ x with burning := none }.burnSlots code d0 d1).burnGroups_burn code (last := 1) (by omega)
    rw [burnSlots_groups] at whole
    dsimp only
    split_ifs
    · exact .refl _
    · exact .refl _
    · exact .refl _
    · rw [burnSlots_groups]; exact .refl _
    · exact whole

/-! ## Fuses and the operations of the machine

`Burns o s` is threaded through the operations: of each that writes the security block a lemma of its name says that it keeps `Burns o`, and its proof
follows the operation's definition. What writes no part of the security block is passed by its frame (Sys2Proof/Laws/Frames). -/

/-- The fuses of the lifecycle groups have burned on from `o` to `s`, and none was restored. -/
def Burns (o s : State) : Prop := GroupsBurn o.security.groups s.security.groups

/-- All parts of the state but the security block. -/
abbrev besideSecurity : Nat := allParts - partSecurity

theorem Only.security_kept {s t : State} (frame : Only besideSecurity s t) : t.security = s.security := frame.security rfl

section Operations
variable {o s t : State}

theorem Burns.refl (s : State) : Burns s s := GroupsBurn.refl _

theorem Burns.trans (a : Burns o s) (b : Burns s t) : Burns o t := GroupsBurn.trans a b

/-- What leaves the groups as they are. -/
theorem Burns.same (h : Burns o s) (e : t.security.groups = s.security.groups) : Burns o t := by
  unfold Burns; rw [e]; exact h

/-- What leaves the whole security block as it is. -/
theorem Burns.only (frame : Only besideSecurity s t) (h : Burns o s) : Burns o t := h.same (congrArg SecurityX.groups frame.security_kept)

theorem Burns.ite {c : Prop} [Decidable c] (a : Burns o s) (b : Burns o t) : Burns o (if c then s else t) := by split <;> assumption

theorem Burns.of_fst {α : Type} {x : State × α} {r : α} (e : x = (t, r)) (h : Burns o x.1) : Burns o t := by subst e; exact h

theorem Burns.fst_ite {α : Type} {c : Prop} [Decidable c] {x y : State × α} (a : Burns o x.1) (b : Burns o y.1) :
    Burns o (if c then x else y).1 := by split <;> assumption

theorem Burns.foldl {α : Type} {f : State → α → State} {l : List α} (step : ∀ a x, Burns a (f a x)) (h : Burns o s) : Burns o (l.foldl f s) := by
  induction l generalizing s with
  | nil => exact h
  | cons x l ih => exact ih (h.trans (step s x))

/-! ### Steps that recur -/

theorem Burns.setNat {i j v : Nat} (h : Burns o s) : Burns o (s.setNat i j v) := .only (State.setNat_only _ _ _ _ (.refl _ _) rfl) h

theorem Burns.answer {c d : Nat} (h : Burns o s) : Burns o (s.answer c d) := .only (State.answer_only _ _ _ (.refl _ _) rfl) h

theorem Burns.done (h : Burns o s) : Burns o s.done := .only (State.done_only _ (.refl _ _) rfl) h

theorem Burns.ruleRefused {n : Nat} (h : Burns o s) : Burns o (s.ruleRefused n) := .only (State.ruleRefused_only _ _ (.refl _ _) rfl) h

theorem Burns.raise {n d : Nat} (h : Burns o s) : Burns o (s.raise n d) := .only (State.raise_only _ _ _ (.refl _ _) rfl) h

theorem Burns.fenceItem {l : FenceLevel} {i c : Nat} (h : Burns o s) : Burns o (s.fenceItem l i c) :=
  .only (State.fenceItem_only _ _ _ _ (.refl _ _) rfl) h

theorem Burns.setSession {n : Nat} {x : SessionX} (h : Burns o s) : Burns o (s.setSession n x) :=
  .only (State.setSession_only _ _ _ (.refl _ _) rfl) h

theorem Burns.sendControl {c v : Nat} (h : Burns o s) : Burns o (s.sendControl c v) := .only (State.sendControl_only _ _ _ (.refl _ _) rfl) h

theorem Burns.judgeClocks (h : Burns o s) : Burns o s.judgeClocks := .only (State.judgeClocks_only _ (.refl _ _) rfl) h

theorem Burns.failStart {c n : Nat} (h : Burns o s) : Burns o (s.failStart c n) := .only (State.failStart_only _ _ _ (.refl _ _) rfl) h

theorem Burns.hostWrite {role : Role} {i j : Nat} {act : State → State} (acts : ∀ a, Burns a (act a)) (h : Burns o s) :
    Burns o (s.hostWrite role i j act) := by
  unfold State.hostWrite
  split
  · exact .answer h
  · exact h.trans (acts s)

/-! ### Grants, challenges and SAFE -/

theorem Burns.endGrant (h : Burns o s) : Burns o s.endGrant := by
  unfold State.endGrant
  split
  · exact h
  · exact .only (State.resumeThreads_only _ (.refl _ _) rfl) (.setNat (h.same rfl))

theorem Burns.newChallenge (h : Burns o s) : Burns o s.newChallenge := .setNat (h.same rfl)

theorem Burns.enterSafe {r : Option Record} {why : Option Nat} (h : Burns o s) : Burns o (s.enterSafe r why) := by
  unfold State.enterSafe
  split
  · exact h
  · refine .setNat (.same (.ite (.endGrant (.only ?off h)) (.only ?off h)) rfl)
    exact State.regionsOff_only _ (State.stopEngines_only _ (State.idleLanes_only _ (State.judgeClocks_only _
      (State.stopTimeBases_only _ (State.cancelCompares_only _ (State.parkFireflies_only _ (Only.upd_errN_errNHold_and4 _ _ _ _ _ _
      (State.setRunState_only _ _ (State.leaveService_only _ (Only.upd_safeRecord _ (.refl _ s) rfl) rfl) rfl) rfl) rfl) rfl) rfl) rfl) rfl) rfl) rfl

theorem Burns.collect {host : List Taken} (h : Burns o s) : Burns o (s.collect host).1 := by
  unfold State.collect
  split
  · exact h
  · extract_lets starting
    split
    split
    next u taken took =>
    have hu : Burns o u := .of_fst took (.only (State.takeAll_only _ _ (Only.upd_messages _ (.refl _ _) rfl) rfl) h)
    extract_lets l safe
    split
    next v l judged =>
    have hv : Burns o v := .of_fst judged (.fst_ite hu (.only (State.judgeCycle_only _ _ (.refl _ _) rfl) hu))
    split
    split
    · dsimp only
      exact .enterSafe (.only (State.writeRecords_only _ _ _ (.refl _ _) rfl) hv)
    · split
      next w l reacted =>
      have hw : Burns o w := .of_fst reacted (.only (State.reactions_only _ _ _ (.refl _ _) rfl) hv)
      dsimp only
      exact .only (State.judgeErrN_only _ (State.writeRecords_only _ _ _ (.refl _ _) rfl) rfl) hw

/-! ### Commits -/

theorem Burns.credentialEffects {was : State} (h : Burns o s) : Burns o (State.credentialEffects was s) := by
  unfold State.credentialEffects
  refine .foldl (fun a k => .ite (.refl a) ?_) h
  have closed : ∀ {l : List Nat}, Burns a (l.foldl (fun b n =>
      if b.nat (0xF000 + n) 0x01 ≠ 0 ∧ (b.session n).credential = k then b.closeSession n else b) a) :=
    .foldl (fun b n => .ite (.only (State.closeSession_only _ _ (.refl _ _) rfl) (.refl b)) (.refl b)) (.refl a)
  exact .ite (.endGrant closed) closed

theorem Burns.putCommit {values : List OdValue} {cmd : State → OdValue → State} (acts : ∀ a v, Burns a (cmd a v)) (h : Burns o s) :
    Burns o (s.putCommit values cmd) := by
  unfold State.putCommit
  extract_lets l
  split
  next c0 f candidate =>
  split
  next c1 g admitted =>
  extract_lets c2 c3 c4 c5 c6 c7 c8 c9 c10 c11 c12 c13 c14 c15
  have h1 : Burns o c1 := .of_fst admitted (.only (State.admitChanged_only _ _ (.refl _ _) rfl)
    (.of_fst candidate (.only (State.candidate_only _ _ (.refl _ _) rfl) h)))
  have h12 : Burns o c12 := .only (State.hubEffects_only _ _ _ (State.standbyEffects_only _ _ (State.clockEffects_only _ _ _
    (State.slotEffects_only _ _ _ (State.fireflyEffects_only _ _ _ (State.bufferEffects_only _ _ (State.associationEffects_only _ _
    (State.portEffects_only _ _ _ (State.laneEffects_only _ _ _ (State.dropLearns_only _ _ (State.tableEffects_only _ _ _
    (State.readmitChanged_only _ _ _ (.refl _ _) rfl) rfl) rfl) rfl) rfl) rfl) rfl) rfl) rfl) rfl) rfl) rfl) h1
  exact .foldl acts (.only (State.testEffects_only _ _ (State.armEffects_only _ _ _ (.refl _ _) rfl) rfl) (.credentialEffects h12))

theorem Burns.commitNow {w : Writer} {values : List OdValue} {cmd : State → OdValue → State} (acts : ∀ a v, Burns a (cmd a v)) (h : Burns o s) :
    Burns o (s.commitNow w values cmd) := by
  unfold State.commitNow
  exact .only (State.recordCommit_only _ _ _ _ (.refl _ _) rfl) (.putCommit acts (.only (State.fireDue_only _ _ (.refl _ _) rfl) h))

theorem Burns.imageCommand (a : State) (v : OdValue) : Burns a (imageCommand a v) :=
  .only (imageCommand_only _ _ (.refl _ _) rfl) (.refl a)

theorem Burns.retryOne {values : List OdValue} (h : Burns o s) : Burns o (s.retryOne values) := by
  unfold State.retryOne
  extract_lets w t
  split
  · exact h
  · have ht : Burns o t := .commitNow .imageCommand h
    split
    next passed left _ =>
    extract_lets u
    have hu : Burns o u := .foldl (fun a m => .sendControl (.refl a)) (.same ht rfl)
    exact .ite (.only (State.setMirror_only _ _ (.refl _ _) rfl) hu) hu

theorem Burns.retryMirror (h : Burns o s) : Burns o s.retryMirror := by
  unfold State.retryMirror
  refine .ite h (.foldl (fun a m => ?_) h)
  exact .ite (.refl a) (.ite (.same (.refl a) rfl) (.retryOne (.refl a)))

theorem Burns.restoreImage {run : StartRun} (h : Burns o s) : Burns o (s.restoreImage run) := by
  unfold State.restoreImage
  extract_lets w
  split
  · exact .setNat h
  · dsimp only
    refine .ite (.setNat h) ?_
    split
    · exact .setNat (.setNat (.setNat h))
    · exact .setNat (.commitNow .imageCommand (.setNat h))

/-! ### Starts -/

/-- A cold start keeps the fuses, with those a burn cut short has blown (18 R454). -/
theorem Burns.coldBase (h : Burns o s) : Burns o s.coldBase := by
  unfold State.coldBase
  refine .foldl (fun b k => .only (State.setBlob_only _ _ _ _ (.refl _ _) rfl) (.refl b)) ?_
  refine .foldl (fun b k => .only (State.setReg_only _ _ _ _ (.refl _ _) rfl) (.refl b)) ?_
  exact GroupsBurn.trans h s.security.cutBurn_burn

theorem Burns.coldFuses {run : StartRun} (h : Burns o s) : Burns o (s.coldFuses run) := by
  unfold State.coldFuses
  refine .setNat (.newChallenge (.setNat (.only (State.showFuses_only _ (.refl _ _) rfl) ?_)))
  exact GroupsBurn.trans h (.reload _)

theorem Burns.coldRegions {run : StartRun} (h : Burns o s) : Burns o (s.coldRegions run).1 := by
  unfold State.coldRegions
  extract_lets up u down bist v
  have hu : Burns o u := .foldl (fun a g => .same (.refl a) rfl) h
  have hv : Burns o v := .foldl (fun a n => .raise (.refl a)) hu
  split
  next w bad collected =>
  extract_lets x
  have hx : Burns o x := .foldl (fun a g => .fenceItem (.refl a)) (.of_fst collected (.collect hv))
  split
  · exact hx
  · exact .only (State.coldTrims_only _ (.refl _ _) rfl) hx

theorem Burns.coldStep {run : StartRun} {n : Nat} (h : Burns o s) : Burns o (s.coldStep run n).1 := by
  unfold State.coldStep
  refine .fst_ite (.coldFuses h) (.fst_ite (.same h rfl) (.fst_ite h (.fst_ite ?_ (.fst_ite ?_ (.fst_ite (.coldRegions h)
    (.fst_ite ?_ (.fst_ite (.restoreImage h) h)))))))
  · dsimp only
    exact .only (State.authenticate_only _ _ (.refl _ _) rfl) h
  · dsimp only
    exact .only (State.coldSynthesis_only _ _ (.refl _ _) rfl) h
  · dsimp only
    exact .only (State.startServer_only _ (.refl _ _) rfl) h

theorem Burns.runSteps {run : StartRun} {upTo last : Nat} {l : List Nat} (h : Burns o s) : Burns o (s.runSteps run upTo last l) := by
  induction l generalizing s with
  | nil => exact h
  | cons n l ih =>
    unfold State.runSteps
    extract_lets u
    have hu : Burns o u := .setNat h
    refine .ite hu (.ite (.only (State.completeStart_only _ _ (.refl _ _) rfl) hu) ?_)
    split
    next v bad stepped =>
    have hv : Burns o v := .of_fst stepped (.fst_ite (.only (State.warmStep_only _ _ _ (.refl _ _) rfl) hu) (.coldStep hu))
    split
    · exact .failStart hv
    · exact .ite (.same hv rfl) (ih hv)

theorem Burns.leaveService (h : Burns o s) : Burns o s.leaveService := .only (State.leaveService_only _ (.refl _ _) rfl) h

theorem Burns.beginCold {type : Nat} {run : StartRun} (h : Burns o s) : Burns o (s.beginCold type run) := by
  unfold State.beginCold
  extract_lets u v
  have hu : Burns o u := .ite (.leaveService h) h
  have hv : Burns o v := .setNat (.coldBase hu)
  exact .runSteps (.same hv rfl)

theorem Burns.warmBegin {type : Nat} {run : StartRun} (h : Burns o s) : Burns o (s.warmBegin type run) := by
  unfold State.warmBegin
  extract_lets u v w x y z security c
  have hv : Burns o v := .foldl (fun a n => .only (State.closeSession_only _ _ (.refl _ _) rfl) (.refl a))
    (.only (State.setRunState_only _ _ (.refl _ _) rfl) h)
  have hx : Burns o x := .endGrant (.leaveService (.same hv rfl))
  have hy : Burns o y := .foldl (fun a k => .ite (.only (State.timeHoldover_only _ _ (.refl _ _) rfl) (.refl a)) (.refl a)) hx
  have hz : Burns o z := .only (State.setFrequency_only _ _ (.refl _ _) rfl) (.same hy rfl)
  have hc : Burns o c := .newChallenge (.setNat (.same hz rfl))
  exact .setNat (.same hc rfl)

theorem Burns.beginWarm {type : Nat} {run : StartRun} (h : Burns o s) : Burns o (s.beginWarm type run) := by
  unfold State.beginWarm
  exact .runSteps (.only (State.judgeErrN_only _ (.refl _ _) rfl) (.warmBegin h))

theorem Burns.warmStart {type : Nat} {run : StartRun} (h : Burns o s) : Burns o (s.warmStart type run) := by
  unfold State.warmStart
  refine .ite h (.ite (.beginWarm h) ?_)
  extract_lets t u
  have hu : Burns o u := .only (State.countFailure_only _ _ _ _ _ (.refl _ _) rfl) h
  exact .ite (.beginCold (.setNat hu)) (.ite (.enterSafe hu) (.beginWarm hu))

theorem Burns.continueStart (h : Burns o s) : Burns o s.continueStart := by
  unfold State.continueStart
  split
  · exact h
  · exact .ite h (.runSteps h)

theorem Burns.endHold (h : Burns o s) : Burns o s.endHold := by
  unfold State.endHold
  split
  · exact h
  · exact .ite h (.runSteps (.same h rfl))

theorem Burns.collectorCycle {host : List Taken} {run : StartRun} (h : Burns o s) : Burns o (s.collectorCycle host run) := by
  unfold State.collectorCycle
  extract_lets was
  split
  next u chip collected =>
  have hu : Burns o u := .of_fst collected (.collect h)
  split
  · exact .ite hu (.retryMirror hu)
  · exact .ite (.warmStart hu) (.ite (.failStart hu) hu)

theorem Burns.idle (h : Burns o s) : Burns o s.idle := by
  unfold State.idle
  exact .only (State.settleSafe_only _ (State.sendOutgoing_only _ (State.tick_only _ (.refl _ _) rfl) rfl) rfl) (.continueStart h)

/-! ### Commands that answer an outcome -/

/-- Where a command answers a next state, the fuses have burned on from `s` to it. -/
def BurnsNext (s : State) (r : Outcome State Fault Refusal) : Prop := ∀ t, r = .next t → Burns s t

theorem BurnsNext.next (h : Burns s t) : BurnsNext s (.next t) := by
  rintro _ ⟨⟩
  exact h

/-- A command that writes no part of the security block. -/
theorem BurnsNext.ends {r : Outcome State Fault Refusal} (frame : Ends besideSecurity s r) : BurnsNext s r :=
  fun t e => .only (frame.only t e) (.refl s)

theorem Burns.after {r : Outcome State Fault Refusal} (next : BurnsNext s r) (h : Burns o s) : Burns o (after s r) := by
  unfold Machine.after
  split
  · exact h.trans (next _ rfl)
  · exact h

/-! ### Faults -/

theorem Burns.selfFault {source : Nat} (h : Burns o s) : Burns o (s.selfFault source) := by
  unfold State.selfFault
  exact .ite h (.enterSafe h)

theorem BurnsNext.selfFault {source : Fin 8} : BurnsNext s (execSelfFault source s) := .next (.selfFault (.refl s))

theorem BurnsNext.faultDetection {detections : List Detection} {run : StartRun} : BurnsNext s (execFaultDetection detections run s) :=
  .next (.ite (.collectorCycle (.only (State.raiseAll_only _ _ (.refl _ _) rfl) (.refl s))) (.refl s))

theorem BurnsNext.hostFence {role : Role} {level : FenceLevel} {item : Nat} : BurnsNext s (execHostFence role level item s) := by
  refine .next (.hostWrite (fun a => ?_) (.refl s))
  refine .ite (.only (State.outOfRange_only _ _ (.refl _ _) rfl) (.refl a)) (.ite (.done (.refl a)) ?_)
  extract_lets waiting
  split
  next u chip collected =>
  have hu : Burns a u := .of_fst collected (.collect (.only (Only.upd_messages _ (.refl _ _) rfl) (.refl a)))
  extract_lets v
  exact .done (.retryMirror (.fenceItem (.same hu rfl)))

theorem BurnsNext.fenceRelease {role : Role} {level : FenceLevel} {item : Nat} {supplyUp : Bool} :
    BurnsNext s (execFenceRelease role level item supplyUp s) := by
  refine .next ?_
  split
  · exact .answer (.setNat (.refl s))
  · exact .answer (.refl s)
  · refine .ite (.only (State.outOfRange_only _ _ (.refl _ _) rfl) (.refl s)) ?_
    split
    · exact .ruleRefused (.setNat (.refl s))
    · exact .ite (.done (.raise (.refl s))) (.done (.retryMirror (.only (State.releaseItem_only _ _ _ (.refl _ _) rfl) (.refl s))))

theorem BurnsNext.supplyOutOfRange {rail : SupplyRail} : BurnsNext s (execSupplyOutOfRange rail s) := by
  refine .next (.ite (.refl s) ?_)
  cases rail with
  | portDie d => exact .only (State.regionSupply_only _ _ (State.regionSupply_only _ _ (.refl _ _) rfl) rfl) (.refl s)
  | region g => exact .only (State.regionSupply_only _ _ (.refl _ _) rfl) (.refl s)
  | hub => exact .ite (.raise (.refl s)) (.refl s)
  | safety => exact .selfFault (.refl s)

theorem BurnsNext.detectorHandback {c : ClusterId} {j : Fin 4} {own spare : List Nat} : BurnsNext s (execDetectorHandback c j own spare s) := by
  refine .next (.ite (.refl s) (.ite ?_ (.ite ?_ (.ite ?_ (.retryMirror (.fenceItem (.refl s)))))))
  · exact .only (State.repeatMeasure_only _ _ (.refl _ _) rfl) (.refl s)
  · exact .only (State.handBack_only _ _ _ (.refl _ _) rfl) (.refl s)
  · exact .only (State.setDetector_only _ _ _ (.refl _ _) rfl) (.refl s)

theorem Burns.losePair {n cause : Nat} (h : Burns o s) : Burns o (s.losePair n cause) := by
  unfold State.losePair
  refine .retryMirror (.fenceItem (.fenceItem (.only (State.measureSyntony_only _ (.refl _ _) rfl) ?_)))
  exact .ite (.only (State.twinLanesRateMatched_only _ (.refl _ _) rfl) h) h

theorem BurnsNext.synthLockLoss {k : SynthId} {errors : List Int} : BurnsNext s (execSynthLockLoss k errors s) := by
  refine .next (.ite (.refl s) ?_)
  extract_lets i n source u v
  have hu : Burns s u := by
    unfold u
    split
    · exact .only (State.showError_only _ _ _ (.refl _ _) rfl) (.refl s)
    · exact .refl s
  have hv : Burns s v :=
    .raise (.only (State.inc32_only _ _ _ (State.putBit_only _ _ _ _ _ (State.putBit_only _ _ _ _ _ (.refl _ _) rfl) rfl) rfl) hu)
  refine .ite (.judgeClocks ?_) (.ite ?_ (.judgeClocks (.losePair hv)))
  · exact .only (State.swapWasLoss_only _ _ _ (State.putBit_only _ _ _ _ _ (State.putBit_only _ _ _ _ _ (.refl _ _) rfl) rfl) rfl) hv
  · exact .only (State.changeOver_only _ _ _ (.refl _ _) rfl) hv

/-! ### The twin pair -/

theorem BurnsNext.cricketReceive {k : Fin 4} {head : KeaconHead} {payload : List Byte} {received : List Int} :
    BurnsNext s (execCricketReceive k head payload received s) := by
  refine .next (.ite (.refl s) (.ite (.only (State.countMissed_only _ _ _ (.refl _ _) rfl) (.refl s)) ?_))
  extract_lets was n departed row recent theirs u twin v w x y
  have hu : Burns s u := .only (State.cricketGap_only _ _ _ (.refl _ _) rfl) (.refl s)
  have hw : Burns s w := .ite (.setNat (.same hu rfl)) (.same hu rfl)
  have hx : Burns s x := .only (State.compareTwin_only _ (.refl _ _) rfl) hw
  have hy : Burns s y := .ite (.retryMirror (.only (State.dropCovers_only _ (.refl _ _) rfl) hx)) hx
  exact .ite (.only (State.takeYield_only _ (.refl _ _) rfl) hy) hy

theorem Burns.takeMirror {epoch : Nat} {values : List OdValue} (h : Burns o s) : Burns o (s.takeMirror epoch values) := by
  unfold State.takeMirror
  extract_lets w twin u v
  split
  · exact .sendControl (.setNat (.commitNow .imageCommand h))
  · have hv : Burns o v := .only (State.putBit_only _ _ _ _ _ (State.addSat_only _ _ _ _ _ (State.setMirror_only _ _ (.refl _ _) rfl) rfl) rfl)
      (.same h rfl)
    exact .sendControl (.raise hv)

theorem Burns.queueMirror {epoch : Nat} {values : List OdValue} (h : Burns o s) : Burns o (s.queueMirror epoch values) := by
  unfold State.queueMirror
  exact .ite (.same h rfl) (.takeMirror h)

theorem Burns.takeImage {epoch : Nat} {values : List OdValue} (h : Burns o s) : Burns o (s.takeImage epoch values) := by
  unfold State.takeImage
  split
  · exact .sendControl (.setNat h)
  · exact .foldl (fun a c => .queueMirror (.refl a)) h

theorem Burns.mirrorArrives {image : Bool} {epoch : Nat} {values : List (Nat × Nat × List Byte)} (h : Burns o s) :
    Burns o (s.mirrorArrives image epoch values) := by
  unfold State.mirrorArrives
  exact .ite (.ite (.takeImage h) (.queueMirror h)) h

theorem Burns.takeMirrorMessage {message : MirrorMessage} (h : Burns o s) : Burns o (s.takeMirrorMessage message) := by
  cases message with
  | commit image epoch values => exact .mirrorArrives h
  | applied epoch => exact .only (State.mirrorAnswered_only _ _ _ (.refl _ _) rfl) h
  | refused epoch => exact .only (State.mirrorAnswered_only _ _ _ (.refl _ _) rfl) h
  | lost => exact .ite (.only (State.startResync_only _ (.refl _ _) rfl) h) h

theorem Burns.deliver {content : KeaconContent} (h : Burns o s) : Burns o (s.deliver content) := by
  cases content with
  | mirror message => exact .takeMirrorMessage h
  | cover ports vid priority untag payload => exact .only (State.coverFrameArrives_only _ _ _ _ _ _ (.refl _ _) rfl) h
  | coverNotice p => exact .only (State.coverArrives_only _ _ (.refl _ _) rfl) h
  | uncoverNotice p => exact .only (State.uncoverArrives_only _ _ (.refl _ _) rfl) h
  | uncoverAck p => exact .only (State.uncover_only _ _ (.refl _ _) rfl) h

theorem Burns.keaconPast {cls n : Nat} (h : Burns o s) : Burns o (s.keaconPast cls n) := .only (State.keaconPast_only _ _ _ (.refl _ _) rfl) h

theorem Burns.deliverHeld {cls n : Nat} (h : Burns o s) : Burns o (State.deliverHeld cls n s) := by
  induction n generalizing s with
  | zero => exact h
  | succ n ih =>
    unfold State.deliverHeld
    split
    · exact h
    · exact ih (.deliver (.keaconPast (.same h rfl)))

theorem Burns.keaconArrives {cls : Nat} {head : KeaconHead} {content : KeaconContent} (h : Burns o s) :
    Burns o (s.keaconArrives cls head content) := by
  unfold State.keaconArrives
  refine .ite h (.ite (.deliverHeld (.deliver (.keaconPast h))) (.ite ?_ h))
  exact .only (State.holdKeacon_only _ _ (.refl _ _) rfl) h

theorem BurnsNext.keaconReorderTimeout {cls : Fin 6} : BurnsNext s (execKeaconReorderTimeout cls s) :=
  .next (.ite (.refl s) (.deliverHeld (.only (State.keaconLost_only _ _ (.refl _ _) rfl) (.keaconPast (.refl s)))))

/-! ### Lifecycle commands, debug grants and challenges -/

theorem Burns.startBurn {code : Nat} {digest0 digest1 : List Byte} (h : Burns o s) : Burns o (s.startBurn code digest0 digest1) :=
  .done (.setNat (.same h rfl))

theorem Burns.lifecycleCommand {n code confirmation : Nat} {digest0 digest1 : List Byte} (h : Burns o s) :
    Burns o (s.lifecycleCommand n code confirmation digest0 digest1) := by
  unfold State.lifecycleCommand
  split
  · exact .answer h
  · refine .ite (.startBurn h) ?_
    dsimp only
    split
    · exact .done (.setNat (.same h rfl))
    · exact .ite (.startBurn h) (.ruleRefused h)

theorem BurnsNext.fuseBurnComplete {run : StartRun} : BurnsNext s (execFuseBurnComplete run s) := by
  refine .next ?_
  split
  · exact .refl s
  · next code d0 d1 _ =>
    refine .beginCold ?_
    have burned := ({ s.security with burning := none }.burnSlots code d0 d1).burnGroups_burn code (last := 8) le_rfl
    rw [SecurityX.burnSlots_groups] at burned
    exact burned

theorem Burns.readChallenge (h : Burns o s) : Burns o s.readChallenge := .same h rfl

theorem BurnsNext.debugChallengeRead {sn : SessionId} : BurnsNext s (execDebugChallengeRead sn s) :=
  .next (.ite (.answer (.refl s)) (.ite (.answer (.refl s)) (.done (.readChallenge (.refl s)))))

theorem Burns.grantDebug {by_ : List Nat} (h : Burns o s) : Burns o (s.grantDebug by_) := .done (.newChallenge (.setNat (.same h rfl)))

theorem Burns.debugRespond {n k : Nat} {verifies : Bool} (h : Burns o s) : Burns o (s.debugRespond n k verifies) := by
  unfold State.debugRespond
  refine .ite (.answer h) (.ite (.ruleRefused h) (.ite (.ite (.ruleRefused h) (.ite (.answer h) (.grantDebug h)))
    (.ite (.ruleRefused h) (.ite (.answer h) (.ite (.grantDebug h) ?_)))))
  split
  · exact .done (.setNat (.same h rfl))
  · exact .ite (.ruleRefused h) (.grantDebug h)

theorem BurnsNext.debugResponse {sn : SessionId} {slot : Nat} {verifies : Bool} : BurnsNext s (execDebugResponse sn slot verifies s) :=
  .next (.ite (.answer (.refl s)) (.ite (.answer (.refl s)) (.ite (.answer (.refl s)) (.debugRespond (.refl s)))))

theorem Burns.debugWrite {role : Role} {act : State → State} (acts : ∀ a, Burns a (act a)) (h : Burns o s) : Burns o (s.debugWrite role act) := by
  unfold State.debugWrite
  exact .ite (.answer h) (.ite (.answer h) (h.trans (acts s)))

theorem BurnsNext.endGrant {role : Role} : BurnsNext s (execEndGrant role s) := .next (.debugWrite (fun a => .done (.endGrant (.refl a))) (.refl s))

theorem BurnsNext.closeOpen {role : Role} : BurnsNext s (execCloseOpen role s) := by
  refine .next (.debugWrite (fun a => .done (.ite ?_ (.endGrant (.refl a)))) (.refl s))
  exact .only (State.resumeThreads_only _ (.refl _ _) rfl) (.setNat (.refl a))

/-! ### Starts as commands -/

theorem BurnsNext.powerUp {run : StartRun} : BurnsNext s (execPowerUp run s) :=
  .next (.ite (.refl s) (.beginCold (.setNat (.same (.refl s) rfl))))

theorem BurnsNext.resetNAssert : BurnsNext s (execResetNAssert s) := .next (.ite (.refl s) (.same (.coldBase (.refl s)) rfl))

theorem BurnsNext.resetNRelease {run : StartRun} : BurnsNext s (execResetNRelease run s) :=
  .next (.ite (.beginCold (.setNat (.refl s))) (.refl s))

theorem BurnsNext.regionSupplyTimeout {g : RegionId} {run : StartRun} : BurnsNext s (execRegionSupplyTimeout g run s) := by
  refine .next (.ite (.refl s) ?_)
  extract_lets source u
  have hu : Burns s u := .collectorCycle (.raise (.refl s))
  exact .ite hu (.fenceItem hu)

theorem BurnsNext.startCommand {role : Role} {run : StartRun} : BurnsNext s (execStartCommand role run s) :=
  .next (.hostWrite (fun a => .ite (.warmStart (.done (.refl a))) (.answer (.refl a))) (.refl s))

theorem BurnsNext.startRetry {run : StartRun} : BurnsNext s (execStartRetry run s) := by
  refine .next ?_
  split
  · exact .refl s
  · exact .ite (.refl s) (.ite (.ite (.beginWarm (.refl s)) (.beginCold (.setNat (.refl s))))
      (.ite (.beginCold (.refl s)) (.enterSafe (.refl s))))

theorem BurnsNext.releaseHold {role : Role} : BurnsNext s (execReleaseHold role s) :=
  .next (.hostWrite (fun a => .endHold (.done (.refl a))) (.refl s))

theorem BurnsNext.holdLimitExpiry : BurnsNext s (execHoldLimitExpiry s) :=
  .next (.ite (.refl s) (.ite (.endHold (.refl s)) (.same (.refl s) rfl)))

theorem BurnsNext.powerRemoval : BurnsNext s (execPowerRemoval s) := by
  refine .next ?_
  extract_lets b c d e
  have hb : Burns s b := .coldBase (.refl s)
  have hd : Burns s d := .setNat (.setNat (.setNat (.same hb rfl)))
  have he : Burns s e := .only (State.setBlob_only _ _ _ _ (.refl _ _) rfl) hd
  exact .same he rfl

/-! ### Commands of a commit -/

theorem Burns.outOfRange {n : Nat} (h : Burns o s) : Burns o (s.outOfRange n) := .only (State.outOfRange_only _ _ (.refl _ _) rfl) h

theorem Burns.fenceCommand {b : List Byte} {role : Role} {draw : Nat} (h : Burns o s) : Burns o (fenceCommand s b role draw) := by
  unfold Machine.fenceCommand
  split
  · exact .outOfRange h
  · exact .ite (.after .hostFence h) (.ite (.after .fenceRelease h) (.outOfRange h))

theorem Burns.fuseCommand {n v : Nat} {values : List OdValue} (h : Burns o s) : Burns o (fuseCommand s n v values) := .lifecycleCommand h

theorem Burns.hubCommand {idx sub v : Nat} {b : List Byte} {w : Writer} {values : List OdValue} {draw : Nat} (h : Burns o s) :
    Burns o (hubCommand s idx sub v b w values draw) := by
  unfold Machine.hubCommand
  extract_lets role k
  repeat' with_reducible refine Burns.ite ?_ ?_
  · exact .after (.ends (execCalibrateNow_only _ _ _ _ (.refl _ _) rfl)) h
  · exact .after (.ends (execHandover_only _ _ (.refl _ _) rfl)) h
  · exact .after (.ends (execResync_only _ _ (.refl _ _) rfl)) h
  · exact .after (.ends (execReleaseCover_only _ _ _ (.refl _ _) rfl)) h
  · exact .after (.ends (execClearFirstFault_only _ _ (.refl _ _) rfl)) h
  · exact .after (.ends (execAcknowledge_only _ _ (.refl _ _) rfl)) h
  · exact .fenceCommand h
  · exact .after (.ends (execOverflowMapClear_only _ _ _ _ (.refl _ _) rfl)) h
  · exact .after (.ends (execClearCounters_only _ _ (.refl _ _) rfl)) h
  · exact .fuseCommand h
  · exact .done h
  · exact .after (.ends (execRaiseBaseFloor_only _ _ (.refl _ _) rfl)) h
  · exact .after (.ends (execRaiseOwnerFloor_only _ _ (.refl _ _) rfl)) h
  · exact .debugRespond h
  · exact .after .endGrant h
  · exact .after .closeOpen h
  · exact .after .startCommand h
  · exact .after .releaseHold h
  · exact .after (.ends (execImageSave_only _ _ _ (.refl _ _) rfl)) h
  · exact .after (.ends (execImageErase_only _ _ (.refl _ _) rfl)) h

theorem Burns.hostCommand {w : Writer} {values : List OdValue} (a : State) (v : OdValue) : Burns a (hostCommand w values a v) := by
  unfold Machine.hostCommand
  split
  · exact .done (.refl a)
  · extract_lets n draw
    refine .ite ?_ (.ite (.done (.refl a)) (.ite ?_ (.ite ?_ (.hubCommand (.refl a)))))
    · exact .only (State.clearSticky_only _ _ _ _ (.refl _ _) rfl) (.refl a)
    · exact .only (linkCommand_only _ _ _ _ _ _ _ (.refl _ _) rfl) (.refl a)
    · exact .only (timeCommand_only _ _ _ _ _ _ _ (.refl _ _) rfl) (.refl a)

theorem Burns.firmwareCommand {w : Writer} {values : List OdValue} {issued : Nat} (a : State) (v : OdValue) :
    Burns a (firmwareCommand w values issued a v) := by
  unfold Machine.firmwareCommand
  refine .ite ?_ (.ite (.ite (.answer (.refl a)) ?_) (.hostCommand a v))
  · exact .after (.ends (execSteeringOffsetWrite_only _ _ _ _ (.refl _ _) rfl)) (.refl a)
  · exact .only (State.setRequest_only _ _ _ _ _ _ (.refl _ _) rfl) (.refl a)

theorem Burns.refuseCommit {f : Verdict} (h : Burns o s) : Burns o (s.refuseCommit f) := .only (State.refuseCommit_only _ _ (.refl _ _) rfl) h

theorem Burns.firmwareNow {values : List OdValue} {issued : Nat} (h : Burns o s) : Burns o (s.firmwareNow values issued) := by
  unfold State.firmwareNow
  extract_lets w
  split
  · exact h
  · refine .ite ?_ ?_
    · exact .only (State.recordCommit_only _ _ _ _ (State.firmwareOffset_only _ _ (.refl _ _) rfl) rfl) h
    · split
      · exact .answer (.refuseCommit h)
      · exact .commitNow .firmwareCommand h

theorem Burns.firmwareWrite {values : List OdValue} (h : Burns o s) : Burns o (s.firmwareWrite values) := by
  unfold State.firmwareWrite
  exact .ite (.same h rfl) (.firmwareNow h)

/-! ### The queue of commits -/

theorem Burns.respondCommit {c : PendingCommit} {r : Reply} (h : Burns o s) : Burns o (s.respondCommit c r) :=
  .only (State.respondCommit_only _ _ _ (.refl _ _) rfl) h

theorem Burns.refuse {c : PendingCommit} {f : Verdict} (h : Burns o s) : Burns o (s.refuse c f) := by
  unfold State.refuse
  extract_lets w failing fence u v
  have hu : Burns o u := by
    refine .refuseCommit ?_
    clear_value failing
    split
    · exact .only (State.tornWrite_only _ _ _ (.refl _ _) rfl) h
    · exact h
  exact .respondCommit (.ite (.setNat hu) (.ite (.setNat hu) hu))

theorem Burns.internalNow {c : PendingCommit} (h : Burns o s) : Burns o (s.internalNow c) := by
  unfold State.internalNow
  refine .ite (.firmwareNow h) ?_
  split
  · exact .takeMirror h
  · exact .retryOne h

theorem Burns.takeTurns {k : Nat} (h : Burns o s) : Burns o (s.takeTurns k) := by
  induction k generalizing s with
  | zero => exact h
  | succ k ih =>
    unfold State.takeTurns
    split
    · exact h
    · extract_lets u w
      have hu : Burns o u := .same h rfl
      refine .ite (.ite h (ih (.internalNow hu))) ?_
      split
      · exact h
      · exact ih (.refuse hu)

theorem Burns.enqueueCommit {c : PendingCommit} (h : Burns o s) : Burns o (s.enqueueCommit c) := by
  unfold State.enqueueCommit
  extract_lets d earlier u
  have hu : Burns o u := .same h rfl
  exact .ite (.takeTurns hu) hu

theorem Burns.commitFront {c : PendingCommit} (h : Burns o s) : Burns o (s.commitFront c) := by
  unfold State.commitFront
  extract_lets w u x v z
  have hu : Burns o u := .commitNow .hostCommand h
  refine .ite (.refuse h) (.only (State.closeTransports_only _ _ (.refl _ _) rfl) ?_)
  exact .ite (.respondCommit (.setSession hu)) hu

theorem BurnsNext.commitPoint : BurnsNext s (execCommitPoint s) := by
  refine .next ?_
  split
  · exact .refl s
  · refine .ite (.refl s) ?_
    extract_lets u v
    have hu : Burns s u := .ite (.refl s) (.commitFront (.same (.refl s) rfl))
    have hv : Burns s v := .takeTurns hu
    exact .ite (.endHold hv) hv

/-! ### Reads -/

theorem Burns.readEffect {e : OdEntry} {idx sub : Nat} (h : Burns o s) : Burns o (s.readEffect e idx sub) := by
  unfold State.readEffect
  refine .ite (.setNat h) (.ite ?_ (.ite (.setNat (.setNat h)) (.ite (.readChallenge h) h)))
  exact .only (State.setReg_only _ _ _ _ (.refl _ _) rfl) h

theorem Burns.foldl_snd {α β : Type} {f : β × State → α → β × State} {a : β × State} {l : List α} (step : ∀ a x, Burns a.2 (f a x).2)
    (h : Burns o a.2) : Burns o (l.foldl f a).2 := by
  induction l generalizing a with
  | nil => exact h
  | cons x l ih => exact ih (h.trans (step a x))

theorem Burns.readAll {idx : Nat} (h : Burns o s) : Burns o (s.readAll idx).2 := by
  unfold State.readAll
  split
  · exact h
  · exact .foldl_snd (fun a p => .readEffect (.refl a.2)) h

theorem Burns.readEntry {n idx sub offset : Nat} (h : Burns o s) : Burns o (s.readEntry n idx sub offset).1 := by
  unfold State.readEntry
  refine .fst_ite h (.fst_ite (.readAll h) ?_)
  split
  · exact h
  · refine .fst_ite h (.fst_ite (.readEffect h) (.fst_ite ?_ (.fst_ite ?_ ?_)))
    · exact .only (State.readRecords_only _ _ _ (.refl _ _) rfl) h
    · exact .only (State.readStart_only _ _ _ _ _ (.refl _ _) rfl) (.readEffect h)
    · exact .only (State.readOn_only _ _ _ _ _ (.refl _ _) rfl) h

theorem BurnsNext.spiWordRead {index : BitVec 16} {sub : BitVec 8} {high : Bool} : BurnsNext s (execSpiWordRead index sub high s) := by
  refine .next ?_
  have read : Burns s (s.wordRead index.toNat sub.toNat high) := by
    unfold State.wordRead
    extract_lets session u x
    have hu : Burns s u := .only (State.inc32_only _ _ _ (.refl _ _) rfl) (.setSession (.refl s))
    refine .ite (.refl s) (.ite (.answer (.refl s)) (.ite (.answer hu) (.ite (.answer hu) ?_)))
    split
    · exact .answer hu
    · exact .ite (.answer hu) (.ite (.answer hu) (.answer (.setSession (.readEffect hu))))
  exact .ite read (.same read rfl)

/-! ### The server -/

theorem Burns.serve {rq : Request} {q : Quest} {last : Nat} {act : Route → State → State × Option Reply}
    (acts : ∀ r a, Burns a (act r a).1) (h : Burns o s) : Burns o (s.serve rq q last act) := by
  unfold State.serve
  extract_lets n route q x again kept seen u
  refine .ite h (.ite ?_ (.ite ?_ ?_))
  · exact .only (State.turnAway_only _ _ _ _ _ _ (.refl _ _) rfl) h
  · exact .only (State.inc32_only _ _ _ (State.turnAway_only _ _ _ _ _ _ (.refl _ _) rfl) rfl) h
  · split
    · exact .answer (.only (State.sendTo_only _ _ _ (.refl _ _) rfl) (.setSession h))
    · refine .ite (.setSession h) ?_
      have hu : Burns o u := .only (State.inc32_only _ _ _ (.refl _ _) rfl) (.setSession h)
      refine .ite (.only (State.respond_only _ _ _ _ _ (.refl _ _) rfl) hu) ?_
      have acted : Burns o (act route u).1 := hu.trans (acts route u)
      split
      · next z _ e => exact .only (State.respond_only _ _ _ _ _ (.refl _ _) rfl) (.of_fst e acted)
      · next z e => exact .of_fst e acted

theorem Burns.requestRead {rq : Request} {idx sub offset : Nat} (h : Burns o s) : Burns o (s.requestRead rq idx sub offset) :=
  .serve (fun _ a => .readEntry (.refl a)) h

theorem Burns.commitGroup {n rid g : Nat} {route : Route} (h : Burns o s) : Burns o (s.commitGroup n rid g route).1 := by
  unfold State.commitGroup
  exact .fst_ite h (.fst_ite h (.enqueueCommit (.setSession h)))

theorem Burns.requestCommit {rq : Request} {g : Nat} (h : Burns o s) : Burns o (s.requestCommit rq g) :=
  .serve (fun _ a => .commitGroup (.refl a)) h

theorem Burns.writeCommit {n rid idx sub offset : Nat} {first last : Bool} {bytes : List Byte} {unwrapOk : Bool} {route : Route}
    (h : Burns o s) : Burns o (s.writeCommit n rid idx sub offset first last bytes unwrapOk route).1 := by
  unfold State.writeCommit
  split
  · exact .only (State.refusedWrite_only _ _ _ _ _ (.refl _ _) rfl) h
  · refine .fst_ite h ?_
    split
    · exact h
    · have taken : Burns o (s.takeValue n 4 idx sub offset first last bytes unwrapOk).1 :=
        .only (State.takeValue_only _ _ _ _ _ _ _ _ _ _ (.refl _ _) rfl) h
      split
      · next u _ e => exact .of_fst e taken
      · next u e => exact .of_fst e taken
      · next u _ e =>
        have hu : Burns o u := .of_fst e taken
        exact .enqueueCommit (.setSession hu)

theorem Burns.requestWrite {rq : Request} {idx sub offset : Nat} {first last : Bool} {bytes : List Byte} {unwrapOk : Bool} (h : Burns o s) :
    Burns o (s.requestWrite rq idx sub offset first last bytes unwrapOk) := .serve (fun _ a => .writeCommit (.refl a)) h

theorem Burns.spiRequest {m : List Byte} {macOk unwrapOk : Bool} {response : Option (List Byte)} (h : Burns o s) :
    Burns o (s.spiRequest m macOk unwrapOk response) := by
  unfold State.spiRequest
  extract_lets n type payload flags rid rq idx sub g offset
  repeat' with_reducible refine Burns.ite ?_ ?_
  · exact h
  · exact .only (State.relay_only _ _ _ _ (.refl _ _) rfl) h
  · exact .only (State.openFirst_only _ _ _ _ _ (.refl _ _) rfl) h
  · exact .only (State.turnAway_only _ _ _ _ _ _ (.refl _ _) rfl) h
  · exact .only (State.openSecond_only _ _ _ _ _ (.refl _ _) rfl) h
  · exact .only (State.requestClose_only _ _ (.refl _ _) rfl) h
  · exact .only (State.requestKeepalive_only _ _ (.refl _ _) rfl) h
  · exact .requestRead h
  · exact .requestWrite h
  · exact .only (State.requestClaim_only _ _ _ _ (.refl _ _) rfl) h
  · exact .only (State.requestRelease_only _ _ _ _ (.refl _ _) rfl) h
  · exact .serve (fun _ a => .refl a) h
  · exact .only (State.requestHold_only _ _ _ _ _ _ _ _ _ _ (.refl _ _) rfl) h
  · exact .requestCommit h
  · exact .only (State.requestAbort_only _ _ _ (.refl _ _) rfl) h
  · exact h

/-! ### Writes of engines and firmware -/

theorem BurnsNext.registerWrite {index : BitVec 16} {sub : BitVec 8} {bytes : List Byte} : BurnsNext s (execRegisterWrite index sub bytes s) := by
  refine .next (.ite (.answer (.refl s)) ?_)
  split
  · exact .answer (.refl s)
  · refine .ite (.answer (.refl s)) ?_
    split
    · exact .answer (.refl s)
    · refine .ite (.same (.refl s) rfl) ?_
      split
      · exact .answer (.refuseCommit (.refl s))
      · exact .done (.commitNow (fun a _ => .refl a) (.refl s))

theorem BurnsNext.dictionaryPortWrite {thread : Fin 64} {index : BitVec 16} {sub : BitVec 8} {bytes : List Byte} :
    BurnsNext s (execDictionaryPortWrite thread index sub bytes s) := by
  refine .next (.ite (.refl s) (.ite ?_ (.ite (.refl s) (.firmwareWrite (.refl s)))))
  exact .only (State.trap_only _ _ _ _ _ (.refl _ _) rfl) (.refl s)

theorem BurnsNext.set {host : Option Role} {tb : TbId} {seconds nanoseconds fraction : Nat} :
    BurnsNext s (execSet host tb seconds nanoseconds fraction s) := by
  refine .next ?_
  split
  · exact .hostWrite (fun a => .only (State.setRequest_only _ _ _ _ _ _ (.refl _ _) rfl) (.refl a)) (.refl s)
  · exact .ite (.answer (.refl s)) (.ite (.outOfRange (.refl s)) (.ite (.outOfRange (.refl s)) (.firmwareWrite (.done (.refl s)))))

theorem BurnsNext.candidateGuardExpiry {n : SlotId} {tb : TbId} : BurnsNext s (execCandidateGuardExpiry n tb s) := by
  refine .next (.ite ?_ (.refl s))
  have guarded : Burns s (s.guardOver tb n) := .only (State.guardOver_only _ _ _ (.refl _ _) rfl) (.refl s)
  exact .ite guarded (.firmwareWrite guarded)

end Operations

/-! ### Every command, and the step -/

/-- No command restores a fuse: those that write no part of the security block by their frames, the others by their lemmas above. -/
theorem exec_burns : ∀ (c : Instr) (s : State), BurnsNext s (exec c s)
  | .signalDetected l, s => .ends (execSignalDetected_only l s (.refl _ s) rfl)
  | .cdrLock l, s => .ends (execCdrLock_only l s (.refl _ s) rfl)
  | .polarityTryExpiry l, s => .ends (execPolarityTryExpiry_only l s (.refl _ s) rfl)
  | .blockLock l order deskewPs, s => .ends (execBlockLock_only l order deskewPs s (.refl _ s) rfl)
  | .adaptComplete l fom rec, s => .ends (execAdaptComplete_only l fom rec s (.refl _ s) rfl)
  | .syntonyIntervalEnd l offsetPpt fill, s => .ends (execSyntonyIntervalEnd_only l offsetPpt fill s (.refl _ s) rfl)
  | .elasticFillLimit l, s => .ends (execElasticFillLimit_only l s (.refl _ s) rfl)
  | .rateMatchSwitch l, s => .ends (execRateMatchSwitch_only l s (.refl _ s) rfl)
  | .syntonisedSwitch l, s => .ends (execSyntonisedSwitch_only l s (.refl _ s) rfl)
  | .trainingTimeout l, s => .ends (execTrainingTimeout_only l s (.refl _ s) rfl)
  | .backoffExpiry l, s => .ends (execBackoffExpiry_only l s (.refl _ s) rfl)
  | .retryNow role l, s => .ends (execRetryNow_only role l s (.refl _ s) rfl)
  | .signalLoss l, s => .ends (execSignalLoss_only l s (.refl _ s) rfl)
  | .laneLockLoss l kind, s => .ends (execLaneLockLoss_only l kind s (.refl _ s) rfl)
  | .reDeskewComplete p deskewPs, s => .ends (execReDeskewComplete_only p deskewPs s (.refl _ s) rfl)
  | .lanePllLockLoss c, s => .ends (execLanePllLockLoss_only c s (.refl _ s) rfl)
  | .lanePllRelock c signals, s => .ends (execLanePllRelock_only c signals s (.refl _ s) rfl)
  | .reAdapt role l, s => .ends (execReAdapt_only role l s (.refl _ s) rfl)
  | .fomMeasurement l h a, s => .ends (execFomMeasurement_only l h a s (.refl _ s) rfl)
  | .quietTransmit role l mode, s => .ends (execQuietTransmit_only role l mode s (.refl _ s) rfl)
  | .quietReceive role l on, s => .ends (execQuietReceive_only role l on s (.refl _ s) rfl)
  | .testModeSet role l code, s => .ends (execTestModeSet_only role l code s (.refl _ s) rfl)
  | .testModeClear role l, s => .ends (execTestModeClear_only role l s (.refl _ s) rfl)
  | .errorInjectionOne role l, s => .ends (execErrorInjectionOne_only role l s (.refl _ s) rfl)
  | .errorInjectionRate role l exponent, s => .ends (execErrorInjectionRate_only role l exponent s (.refl _ s) rfl)
  | .injectedError l, s => .ends (execInjectedError_only l s (.refl _ s) rfl)
  | .checkerSync l bits, s => .ends (execCheckerSync_only l bits s (.refl _ s) rfl)
  | .checkerSyncLoss l bits errors, s => .ends (execCheckerSyncLoss_only l bits errors s (.refl _ s) rfl)
  | .moduleInsert p, s => .ends (execModuleInsert_only p s (.refl _ s) rfl)
  | .moduleRemove p, s => .ends (execModuleRemove_only p s (.refl _ s) rfl)
  | .rereadModule role p, s => .ends (execRereadModule_only role p s (.refl _ s) rfl)
  | .moduleIdentityRead p page modes record, s => .ends (execModuleIdentityRead_only p page modes record s (.refl _ s) rfl)
  | .moduleReadyTimeout p, s => .ends (execModuleReadyTimeout_only p s (.refl _ s) rfl)
  | .linkIdentityRecordWrite role p bytes outcome, s => .ends (execLinkIdentityRecordWrite_only role p bytes outcome s (.refl _ s) rfl)
  | .diagnosticsPoll p values, s => .ends (execDiagnosticsPoll_only p values s (.refl _ s) rfl)
  | .modResetRelease c, s => .ends (execModResetRelease_only c s (.refl _ s) rfl)
  | .statisticsClear role p coincident, s => .ends (execStatisticsClear_only role p coincident s (.refl _ s) rfl)
  | .frameArrival p edge, s => .ends (execFrameArrival_only p edge s (.refl _ s) rfl)
  | .lookupWindowComplete p window unreadable, s => .ends (execLookupWindowComplete_only p window unreadable s (.refl _ s) rfl)
  | .cellFill p payload, s => .ends (execCellFill_only p payload s (.refl _ s) rfl)
  | .frameTail p kind payload, s => .ends (execFrameTail_only p kind payload s (.refl _ s) rfl)
  | .learnInsert, s => .ends (execLearnInsert_only s (.refl _ s) rfl)
  | .ageingStep, s => .ends (execAgeingStep_only s (.refl _ s) rfl)
  | .overlayFold t, s => .ends (execOverlayFold_only t s (.refl _ s) rfl)
  | .drainTable role t, s => .ends (execDrainTable_only role t s (.refl _ s) rfl)
  | .drainComplete t, s => .ends (execDrainComplete_only t s (.refl _ s) rfl)
  | .tableScrub c t position finding, s => .ends (execTableScrub_only c t position finding s (.refl _ s) rfl)
  | .scarabRestore c t position, s => .ends (execScarabRestore_only c t position s (.refl _ s) rfl)
  | .frerResetTimeout f, s => .ends (execFrerResetTimeout_only f s (.refl _ s) rfl)
  | .streamGateListActivation g, s => .ends (execStreamGateListActivation_only g s (.refl _ s) rfl)
  | .streamGateIntervalEnd g, s => .ends (execStreamGateIntervalEnd_only g s (.refl _ s) rfl)
  | .hubFrameSend ring kind destination untag priority queue payload tag insert passed ingress, s =>
    .ends (execHubFrameSend_only ring kind destination untag priority queue payload tag insert passed ingress s (.refl _ s) rfl)
  | .fabricSlot slot, s => .ends (execFabricSlot_only slot s (.refl _ s) rfl)
  | .cellArrival stage2 from_ to_ header payloadOk, s => .ends (execCellArrival_only stage2 from_ to_ header payloadOk s (.refl _ s) rfl)
  | .holeTimeout dst src contracted, s => .ends (execHoleTimeout_only dst src contracted s (.refl _ s) rfl)
  | .alignmentMark g offsetPs, s => .ends (execAlignmentMark_only g offsetPs s (.refl _ s) rfl)
  | .resyncClear m src, s => .ends (execResyncClear_only m src s (.refl _ s) rfl)
  | .cutThroughHoldRelease g, s => .ends (execCutThroughHoldRelease_only g s (.refl _ s) rfl)
  | .epochClose dst, s => .ends (execEpochClose_only dst s (.refl _ s) rfl)
  | .creditRestore g, s => .ends (execCreditRestore_only g s (.refl _ s) rfl)
  | .egressSelection p edge, s => .ends (execEgressSelection_only p edge s (.refl _ s) rfl)
  | .releaseInstant p edge, s => .ends (execReleaseInstant_only p edge s (.refl _ s) rfl)
  | .egressUnderrun p, s => .ends (execEgressUnderrun_only p s (.refl _ s) rfl)
  | .ageSweep g, s => .ends (execAgeSweep_only g s (.refl _ s) rfl)
  | .gateListActivation p, s => .ends (execGateListActivation_only p s (.refl _ s) rfl)
  | .gateIntervalEnd p, s => .ends (execGateIntervalEnd_only p s (.refl _ s) rfl)
  | .queueFlush p q, s => .ends (execQueueFlush_only p q s (.refl _ s) rfl)
  | .bufferScrub g bank held finding, s => .ends (execBufferScrub_only g bank held finding s (.refl _ s) rfl)
  | .measuredOffsetWrite tb offset, s => .ends (execMeasuredOffsetWrite_only tb offset s (.refl _ s) rfl)
  | .steeringOffsetWrite tb host ppt, s => .ends (execSteeringOffsetWrite_only tb host ppt s (.refl _ s) rfl)
  | .step role tb amount, s => .ends (execStep_only role tb amount s (.refl _ s) rfl)
  | .stepEdge tb, s => .ends (execStepEdge_only tb s (.refl _ s) rfl)
  | .set _ _ _ _ _, _ => .set
  | .setEdge tb, s => .ends (execSetEdge_only tb s (.refl _ s) rfl)
  | .compareArm role c, s => .ends (execCompareArm_only role c s (.refl _ s) rfl)
  | .compareDisarm role c, s => .ends (execCompareDisarm_only role c s (.refl _ s) rfl)
  | .compareFire c, s => .ends (execCompareFire_only c s (.refl _ s) rfl)
  | .fireflyGridInstant f, s => .ends (execFireflyGridInstant_only f s (.refl _ s) rfl)
  | .realignImmediate role f, s => .ends (execRealignImmediate_only role f s (.refl _ s) rfl)
  | .realignSlewed role f, s => .ends (execRealignSlewed_only role f s (.refl _ s) rfl)
  | .slewComplete f, s => .ends (execSlewComplete_only f s (.refl _ s) rfl)
  | .captureEdge e rising heldNs agePs, s => .ends (execCaptureEdge_only e rising heldNs agePs s (.refl _ s) rfl)
  | .captureRingRead _, s => .next (.requestRead (.refl s))
  | .resetRing role, s => .ends (execResetRing_only role s (.refl _ s) rfl)
  | .timeLineMarker line arrival, s => .ends (execTimeLineMarker_only line arrival s (.refl _ s) rfl)
  | .timeLineMessage line, s => .ends (execTimeLineMessage_only line s (.refl _ s) rfl)
  | .delayResult p exchange, s => .ends (execDelayResult_only p exchange s (.refl _ s) rfl)
  | .acceptPresentDelay role p, s => .ends (execAcceptPresentDelay_only role p s (.refl _ s) rfl)
  | .acceptProposal role p, s => .ends (execAcceptProposal_only role p s (.refl _ s) rfl)
  | .calibrateAsymmetry role p, s => .ends (execCalibrateAsymmetry_only role p s (.refl _ s) rfl)
  | .abortCalibration role p, s => .ends (execAbortCalibration_only role p s (.refl _ s) rfl)
  | .asymmetryCalibrationEnd p, s => .ends (execAsymmetryCalibrationEnd_only p s (.refl _ s) rfl)
  | .detectorComparison c j own spare, s => .ends (execDetectorComparison_only c j own spare s (.refl _ s) rfl)
  | .detectorCalibrationDone c j offset gain, s => .ends (execDetectorCalibrationDone_only c j offset gain s (.refl _ s) rfl)
  | .laneCalibrationMeasure l rxHundredths txHundredths trims biases, s =>
    .ends (execLaneCalibrationMeasure_only l rxHundredths txHundredths trims biases s (.refl _ s) rfl)
  | .detectorHandback _ _ _ _, _ => .detectorHandback
  | .slotGuardExpiry slot, s => .ends (execSlotGuardExpiry_only slot s (.refl _ s) rfl)
  | .disputeEnd a b, s => .ends (execDisputeEnd_only a b s (.refl _ s) rfl)
  | .candidateGuardExpiry _ _, _ => .candidateGuardExpiry
  | .phaseAccept role tb slot, s => .ends (execPhaseAccept_only role tb slot s (.refl _ s) rfl)
  | .pinInputLoss slot, s => .ends (execPinInputLoss_only slot s (.refl _ s) rfl)
  | .esmcReceive p ssm essm, s => .ends (execEsmcReceive_only p ssm essm s (.refl _ s) rfl)
  | .esmcTimeout slot, s => .ends (execEsmcTimeout_only slot s (.refl _ s) rfl)
  | .esmcSend, s => .ends (execEsmcSend_only s (.refl _ s) rfl)
  | .frequencyLock, s => .ends (execFrequencyLock_only s (.refl _ s) rfl)
  | .synthLock k cycles peak last, s => .ends (execSynthLock_only k cycles peak last s (.refl _ s) rfl)
  | .synthLockLoss _ _, _ => .synthLockLoss
  | .backupReady n cycles peak, s => .ends (execBackupReady_only n cycles peak s (.refl _ s) rfl)
  | .backupAlignmentLoss n phase, s => .ends (execBackupAlignmentLoss_only n phase s (.refl _ s) rfl)
  | .swap role n, s => .ends (execSwap_only role n s (.refl _ s) rfl)
  | .syncInEdge period, s => .ends (execSyncInEdge_only period s (.refl _ s) rfl)
  | .calibrationPeriodExpiry resistor lineDelays, s => .ends (execCalibrationPeriodExpiry_only resistor lineDelays s (.refl _ s) rfl)
  | .temperatureTrigger d resistor lineDelays, s => .ends (execTemperatureTrigger_only d resistor lineDelays s (.refl _ s) rfl)
  | .calibrateNow role resistor lineDelays, s => .ends (execCalibrateNow_only role resistor lineDelays s (.refl _ s) rfl)
  | .calibrationRoundEnd, s => .ends (execCalibrationRoundEnd_only s (.refl _ s) rfl)
  | .fireflyVernierApply f, s => .ends (execFireflyVernierApply_only f s (.refl _ s) rfl)
  | .sensorChannelCalibration d channel reading, s => .ends (execSensorChannelCalibration_only d channel reading s (.refl _ s) rfl)
  | .keaconHandshake k serial twinId fwVersion layout twinLead twinFenced twinTb0 covers, s =>
    .ends (execKeaconHandshake_only k serial twinId fwVersion layout twinLead twinFenced twinTb0 covers s (.refl _ s) rfl)
  | .cricketSend, s => .ends (execCricketSend_only s (.refl _ s) rfl)
  | .cricketReceive _ _ _ _, _ => .cricketReceive
  | .cricketTimeout, s => .ends (execCricketTimeout_only s (.refl _ s) rfl)
  | .twinWaitExpiry, s => .ends (execTwinWaitExpiry_only s (.refl _ s) rfl)
  | .handover role, s => .ends (execHandover_only role s (.refl _ s) rfl)
  | .holdoverTakeover, s => .ends (execHoldoverTakeover_only s (.refl _ s) rfl)
  | .yieldReceive, s => .ends (execYieldReceive_only s (.refl _ s) rfl)
  | .twinHoldInChange asserted, s => .ends (execTwinHoldInChange_only asserted s (.refl _ s) rfl)
  | .sharedOutputEnable, s => .ends (execSharedOutputEnable_only s (.refl _ s) rfl)
  | .holdMismatch, s => .ends (execHoldMismatch_only s (.refl _ s) rfl)
  | .keaconReorderTimeout _, _ => .keaconReorderTimeout
  | .mirrorFrameReceive _ _, s => .next (.keaconArrives (.refl s))
  | .resync role, s => .ends (execResync_only role s (.refl _ s) rfl)
  | .resyncComplete, s => .ends (execResyncComplete_only s (.refl _ s) rfl)
  | .coverNoticeReceive _ _, s => .next (.keaconArrives (.refl s))
  | .coverFrameReceive _ _ _ _ _ _, s => .next (.keaconArrives (.refl s))
  | .coverFrameTimeout, s => .ends (execCoverFrameTimeout_only s (.refl _ s) rfl)
  | .uncoverNoticeReceive _ _, s => .next (.keaconArrives (.refl s))
  | .uncoverAckReceive _ _, s => .next (.keaconArrives (.refl s))
  | .releaseCover role p, s => .ends (execReleaseCover_only role p s (.refl _ s) rfl)
  | .faultDetection _ _, _ => .faultDetection
  | .selfFault _, _ => .selfFault
  | .maskEnd level item, s => .ends (execMaskEnd_only level item s (.refl _ s) rfl)
  | .consequenceWindowClose, s => .ends (execConsequenceWindowClose_only s (.refl _ s) rfl)
  | .clearFirstFault role, s => .ends (execClearFirstFault_only role s (.refl _ s) rfl)
  | .faultRecordsRead _, s => .next (.requestRead (.refl s))
  | .acknowledge role, s => .ends (execAcknowledge_only role s (.refl _ s) rfl)
  | .errNMinimumExpiry, s => .ends (execErrNMinimumExpiry_only s (.refl _ s) rfl)
  | .hostFence _ _ _, _ => .hostFence
  | .fenceRelease _ _ _ _, _ => .fenceRelease
  | .supplyOutOfRange _, _ => .supplyOutOfRange
  | .temperatureThreshold d critical, s => .ends (execTemperatureThreshold_only d critical s (.refl _ s) rfl)
  | .timingBankSupplyLoss lost, s => .ends (execTimingBankSupplyLoss_only lost s (.refl _ s) rfl)
  | .openRequest transport role credential peer arrival, s => .ends (execOpenRequest_only transport role credential peer arrival s (.refl _ s) rfl)
  | .openConfirm sn signatureOk arrival, s => .ends (execOpenConfirm_only sn signatureOk arrival s (.refl _ s) rfl)
  | .close rq, s => .ends (execClose_only rq s (.refl _ s) rfl)
  | .keepalive rq, s => .ends (execKeepalive_only rq s (.refl _ s) rfl)
  | .read _ _ _ _, s => .next (.requestRead (.refl s))
  | .writeAndHold rq group index sub offset first last bytes unwrapOk, s =>
    .ends (execWriteAndHold_only rq group index sub offset first last bytes unwrapOk s (.refl _ s) rfl)
  | .writeAndCommit _ _ _ _ _ _ _ _, s => .next (.requestWrite (.refl s))
  | .commit _ _, s => .next (.requestCommit (.refl s))
  | .abortGroup rq group, s => .ends (execAbortGroup_only rq group s (.refl _ s) rfl)
  | .claim rq first last, s => .ends (execClaim_only rq first last s (.refl _ s) rfl)
  | .release rq first last, s => .ends (execRelease_only rq first last s (.refl _ s) rfl)
  | .commitPoint, _ => .commitPoint
  | .registerWrite _ _ _, _ => .registerWrite
  | .sessionTimeout sn, s => .ends (execSessionTimeout_only sn s (.refl _ s) rfl)
  | .transportLost transport, s => .ends (execTransportLost_only transport s (.refl _ s) rfl)
  | .snapshotTimeout sn, s => .ends (execSnapshotTimeout_only sn s (.refl _ s) rfl)
  | .relayedRequest route message reply, s => .ends (execRelayedRequest_only route message reply s (.refl _ s) rfl)
  | .spiSendRequest _ _ _ _, s => .next (.spiRequest (.refl s))
  | .spiTakeResponse, s => .ends (execSpiTakeResponse_only s (.refl _ s) rfl)
  | .spiPoll, s => .ends (execSpiPoll_only s (.refl _ s) rfl)
  | .spiWordRead _ _ _, _ => .spiWordRead
  | .watchdogRestart e, s => .ends (execWatchdogRestart_only e s (.refl _ s) rfl)
  | .watchdogExpiry e, s => .ends (execWatchdogExpiry_only e s (.refl _ s) rfl)
  | .engineTrap e thread cause address, s => .ends (execEngineTrap_only e thread cause address s (.refl _ s) rfl)
  | .threadTimerExpiry e thread, s => .ends (execThreadTimerExpiry_only e thread s (.refl _ s) rfl)
  | .imageLoadComplete e digestOk, s => .ends (execImageLoadComplete_only e digestOk s (.refl _ s) rfl)
  | .epochBoundary elapsed, s => .ends (execEpochBoundary_only elapsed s (.refl _ s) rfl)
  | .counterWrap bit, s => .ends (execCounterWrap_only bit s (.refl _ s) rfl)
  | .monitorSample m, s => .ends (execMonitorSample_only m s (.refl _ s) rfl)
  | .clearCounters role, s => .ends (execClearCounters_only role s (.refl _ s) rfl)
  | .overflowMapClear role mask wrapping, s => .ends (execOverflowMapClear_only role mask wrapping s (.refl _ s) rfl)
  | .toProvisioned _ _ _ _, s => .next (.lifecycleCommand (.refl s))
  | .toDeployed _ _, s => .next (.lifecycleCommand (.refl s))
  | .toDecommissioned _ _, s => .next (.lifecycleCommand (.refl s))
  | .revokeOwnerSlot _ _, s => .next (.lifecycleCommand (.refl s))
  | .pendingCommandLapse, s => .next (.setNat (.same (.refl s) rfl))
  | .fuseBurnComplete _, _ => .fuseBurnComplete
  | .raiseBaseFloor role, s => .ends (execRaiseBaseFloor_only role s (.refl _ s) rfl)
  | .raiseOwnerFloor role, s => .ends (execRaiseOwnerFloor_only role s (.refl _ s) rfl)
  | .debugChallengeRead _, _ => .debugChallengeRead
  | .debugResponse _ _ _, _ => .debugResponse
  | .challengeLapse, s => .next (.ite (.newChallenge (.refl s)) (.refl s))
  | .grantExpiry, s => .next (.endGrant (.refl s))
  | .endGrant _, _ => .endGrant
  | .closeOpen _, _ => .closeOpen
  | .probeHalt e threads halt, s => .ends (execProbeHalt_only e threads halt s (.refl _ s) rfl)
  | .probeIntrusiveAccess e address value target, s => .ends (execProbeIntrusiveAccess_only e address value target s (.refl _ s) rfl)
  | .probeNonintrusiveAccess e address target, s => .ends (execProbeNonintrusiveAccess_only e address target s (.refl _ s) rfl)
  | .powerUp _, _ => .powerUp
  | .resetNAssert, _ => .resetNAssert
  | .resetNRelease _, _ => .resetNRelease
  | .regionSupplyTimeout _ _, _ => .regionSupplyTimeout
  | .startCommand _ _, _ => .startCommand
  | .startStepTimeout, s => .ends (execStartStepTimeout_only s (.refl _ s) rfl)
  | .startRetry _, _ => .startRetry
  | .settleTimeExpiry, s => .ends (execSettleTimeExpiry_only s (.refl _ s) rfl)
  | .releaseHold _, _ => .releaseHold
  | .holdLimitExpiry, _ => .holdLimitExpiry
  | .imageSave role readBackOk, s => .ends (execImageSave_only role readBackOk s (.refl _ s) rfl)
  | .imageErase role, s => .ends (execImageErase_only role s (.refl _ s) rfl)
  | .stallLimitExpiry crossing, s => .ends (execStallLimitExpiry_only crossing s (.refl _ s) rfl)
  | .frequencyOffsetMeasurement slot phases, s => .ends (execFrequencyOffsetMeasurement_only slot phases s (.refl _ s) rfl)
  | .referencePinEdge pin agePs, s => .ends (execReferencePinEdge_only pin agePs s (.refl _ s) rfl)
  | .slotOffsetTimeout slot tb, s => .ends (execSlotOffsetTimeout_only slot tb s (.refl _ s) rfl)
  | .dictionaryPortWrite _ _ _ _, _ => .dictionaryPortWrite
  | .hubChannelFrameBoundary g taken, s => .ends (execHubChannelFrameBoundary_only g taken s (.refl _ s) rfl)
  | .powerRemoval, _ => .powerRemoval

theorem step_burns (s : State) : BurnsNext s (step s) := by
  unfold step
  split
  · exact .next (.idle (.refl s))
  · next c rest _ => exact exec_burns c { s with pending := rest }

/-- The lifecycle state counts the groups blown, over their three places (18 R451). -/
theorem lifecycle_eq_count {x : SecurityX} (three : x.groups.length = 3) :
    x.lifecycle = ((items 3).filter (fun i => decide (5 ≤ x.groups.getD i 0))).length := by
  obtain ⟨a, b, c, e⟩ := List.length_eq_three.1 three
  have places : x.groups = (items 3).map (fun i => x.groups.getD i 0) := by rw [e]; rfl
  unfold SecurityX.lifecycle
  conv_lhs => rw [places]
  rw [List.filter_map, List.length_map]
  rfl

/-- With more fuses blown in every group no fewer groups count as blown (18 R451). -/
theorem blown_count_le {g h : List Nat} (grow : ∀ i, i < 3 → g.getD i 0 ≤ h.getD i 0) :
    ((items 3).filter (fun i => decide (5 ≤ g.getD i 0))).length ≤ ((items 3).filter (fun i => decide (5 ≤ h.getD i 0))).length := by
  simp only [← List.countP_eq_length_filter]
  refine List.countP_mono_left fun i hi blown => ?_
  have place : i < 3 := List.mem_range.1 hi
  have more := grow i place
  simp only [decide_eq_true_eq] at blown ⊢
  omega

/-- Settles O59: the fuses burn on in every step (`step_burns`), and a group that counts as blown goes on to count. -/
theorem fusesAreNeverRestored : Obligations.FusesAreNeverRestored := by
  unfold Obligations.FusesAreNeverRestored
  intro s t hold stepped
  have burns : Burns s t := step_burns s t stepped
  have grown : ∀ i, i < 3 → s.security.groups.getD i 0 ≤ t.security.groups.getD i 0 := burns.grow (fusesHold_iff.1 hold)
  have kept : t.fusesHold := fusesHold_iff.2 (burns.hold (fusesHold_iff.1 hold))
  have before := lifecycle_eq_count hold.1
  have count := lifecycle_eq_count kept.1
  refine ⟨kept, grown, count, ?_, ?_⟩
  · rw [before, count]
    exact blown_count_le grown
  · rw [count]
    exact List.length_filter_le _ (items 3)

end Sys2Proof.Machine

namespace Sys2Proof.Machine

open Host (Outcome)

/-! ## Completions

A clause of a statement speaks of one command: `Runs.of` takes the next state of the command's own effect, and `Ends.of_next` its frame. -/

theorem Runs.of {c : Instr} {s t : State} {P : State → Prop} (run : exec c s = .next t) (holds : P t) : Runs c s P := ⟨t, run, holds⟩

/-- The frame of a command that completes, from its lemma of Sys2Proof/Laws/Frames. -/
theorem Ends.of_next {M : Nat} {s t : State} {o : Outcome State Fault Refusal} (ends : Ends M s o) (run : o = .next t) : Only M s t := ends.only t run

/-- A host's write that is admitted acts. -/
theorem State.hostWrite_admitted {s : State} {role : Role} {idx sub : Nat} (admitted : s.admits role idx sub) (act : State → State) :
    s.hostWrite role idx sub act = act s := by
  unfold State.hostWrite
  rw [show s.writeBar role (needRole idx sub) idx sub = none from admitted]

/-! ## What a numeric entry reads after a write to an entry

A subindex is a byte, so that two entries are the same where index and subindex are. -/

section Reads
variable (s : State) {i j i' j' : Nat} (v : Int)

@[simp] theorem State.reg_setReg_at (hj : j < 256) (hj' : j' < 256) :
    (s.setReg i j v).reg i' j' = if i = i' ∧ j = j' then v else s.reg i' j' := by
  simp only [State.reg_setReg, key_inj hj hj']

@[simp] theorem State.nat_setReg_at (hj : j < 256) (hj' : j' < 256) :
    (s.setReg i j v).nat i' j' = if i = i' ∧ j = j' then v.toNat else s.nat i' j' := by
  simp only [State.nat_setReg, key_inj hj hj']

@[simp] theorem State.bit_setReg_at (hj : j < 256) (hj' : j' < 256) (b : Nat) :
    (s.setReg i j v).bit i' j' b = if i = i' ∧ j = j' then v.toNat.testBit b else s.bit i' j' b := by
  simp only [State.bit_setReg, key_inj hj hj']

@[simp] theorem State.flag_setReg_at (hj : j < 256) (hj' : j' < 256) :
    (s.setReg i j v).flag i' j' = if i = i' ∧ j = j' then decide (v ≠ 0) else s.flag i' j' := by
  simp only [State.flag_setReg, key_inj hj hj']

@[simp] theorem State.stage_setReg_at (hj : j < 256) (n : Nat) :
    (s.setReg i j v).stage n = if i = laneIndex n ∧ j = 0x02 then v.toNat else s.stage n := s.nat_setReg_at v hj (by decide)

@[simp] theorem State.mode_setReg_at (hj : j < 256) (p : Nat) :
    (s.setReg i j v).mode p = if i = 0x2100 + p ∧ j = 0x01 then v.toNat else s.mode p := s.nat_setReg_at v hj (by decide)

/-- A bit of an entry as the entry's number has it. -/
@[simp] theorem State.testBit_nat (b : Nat) : (s.nat i j).testBit b = s.bit i j b := rfl

end Reads

/-- What leaves every numeric entry as it was leaves what is read from the entries. -/
theorem State.nat_of_regs {s t : State} (same : t.regs = s.regs) (i j : Nat) : t.nat i j = s.nat i j := by
  unfold State.nat State.reg; rw [same]

theorem SameEntries.setNat {K : Nat → Nat → Prop} {s t : State} {i j v : Nat} (a : SameEntries K s t) (hj : j < 256) (h : K i j) :
    SameEntries K s (t.setNat i j v) := a.setReg hj h

theorem SameEntries.putBit {K : Nat → Nat → Prop} {s t : State} {i j b : Nat} {on : Bool} (a : SameEntries K s t) (hj : j < 256) (h : K i j) :
    SameEntries K s (t.putBit i j b on) := a.setReg hj h

theorem SameEntries.setStage {K : Nat → Nat → Prop} {s t : State} {n st : Nat} (a : SameEntries K s t) (h : K (laneIndex n) 0x02)
    (h' : K (laneIndex n) 0x03) : SameEntries K s (t.setStage n st) := (a.setNat (by decide) h).setNat (by decide) h'

theorem SameEntries.setLane {K : Nat → Nat → Prop} {s t : State} {n : Nat} {x : LaneX} (a : SameEntries K s t) :
    SameEntries K s (t.setLane n x) := a.of_regs rfl

theorem SameEntries.setBlob {K : Nat → Nat → Prop} {s t : State} {i j : Nat} {v : List Byte} (a : SameEntries K s t) :
    SameEntries K s (t.setBlob i j v) := a.of_regs rfl

section Same
variable {K : Nat → Nat → Prop} {s t : State} (same : SameEntries K s t)
include same

theorem SameEntries.nat {i j : Nat} (hj : j < 256) (apart : ¬K i j) : t.nat i j = s.nat i j := by
  unfold State.nat; rw [same i j hj apart]

theorem SameEntries.bit {i j : Nat} (b : Nat) (hj : j < 256) (apart : ¬K i j) : t.bit i j b = s.bit i j b := by
  unfold State.bit; rw [same.nat hj apart]

theorem SameEntries.flag {i j : Nat} (hj : j < 256) (apart : ¬K i j) : t.flag i j = s.flag i j := by
  unfold State.flag; rw [same i j hj apart]

theorem SameEntries.stage {n : Nat} (apart : ¬K (laneIndex n) 0x02) : t.stage n = s.stage n := same.nat (by decide) apart

theorem SameEntries.mode {p : Nat} (apart : ¬K (0x2100 + p) 0x01) : t.mode p = s.mode p := same.nat (by decide) apart

theorem SameEntries.mono {L : Nat → Nat → Prop} (wide : ∀ i j, K i j → L i j) : SameEntries L s t := fun i j hj apart => same i j hj (fun h => apart (wide i j h))

end Same

/-! ## What a frame leaves of the numbered items -/

section Items
variable {F : Nat} {s t : State} (frame : Only F s t)
include frame

theorem Only.lane_kept (kept : F.testBit 7 = false) (n : Nat) : t.lane n = s.lane n := by
  unfold State.lane; rw [frame.lanes kept]

theorem Only.port_kept (kept : F.testBit 8 = false) (n : Nat) : t.port n = s.port n := by
  unfold State.port; rw [frame.ports kept]

theorem Only.tim_kept (kept : F.testBit 9 = false) (n : Nat) : t.tim n = s.tim n := by
  unfold State.tim; rw [frame.timing kept]

theorem Only.eg_kept (kept : F.testBit 10 = false) (n : Nat) : t.eg n = s.eg n := by
  unfold State.eg; rw [frame.egress kept]

theorem Only.queue_kept (kept : F.testBit 11 = false) (p q : Nat) : t.queue p q = s.queue p q := by
  unfold State.queue; rw [frame.queues kept]

theorem Only.region_kept (kept : F.testBit 12 = false) (n : Nat) : t.region n = s.region n := by
  unfold State.region; rw [frame.regions kept]

theorem Only.rxAt_kept (kept : F.testBit 13 = false) (n : Nat) : t.rxAt n = s.rxAt n := by
  unfold State.rxAt; rw [frame.rx kept]

theorem Only.tb_kept (kept : F.testBit 42 = false) (n : Nat) : t.tb n = s.tb n := by
  unfold State.tb; rw [frame.tbs kept]

theorem Only.compare_kept (kept : F.testBit 43 = false) (n : Nat) : t.compare n = s.compare n := by
  unfold State.compare; rw [frame.compares kept]

theorem Only.clock_kept (kept : F.testBit 41 = false) (n : Nat) : t.clock n = s.clock n := by
  unfold State.clock; rw [frame.clocks kept]

theorem Only.firefly_kept (kept : F.testBit 44 = false) (n : Nat) : t.firefly n = s.firefly n := by
  unfold State.firefly; rw [frame.fireflies kept]

theorem Only.capture_kept (kept : F.testBit 45 = false) (n : Nat) : t.capture n = s.capture n := by
  unfold State.capture; rw [frame.captures kept]

theorem Only.replica_kept (kept : F.testBit 49 = false) (n : Nat) : t.replica n = s.replica n := by
  unfold State.replica; rw [frame.replicas kept]

theorem Only.detector_kept (kept : F.testBit 50 = false) (n : Nat) : t.detector n = s.detector n := by
  unfold State.detector; rw [frame.detectors kept]

theorem Only.slot_kept (kept : F.testBit 52 = false) (n : Nat) : t.slot n = s.slot n := by
  unfold State.slot; rw [frame.slots kept]

theorem Only.trim_kept (kept : F.testBit 64 = false) (n : Nat) : t.trim n = s.trim n := by
  unfold State.trim; rw [frame.trims kept]

theorem Only.engine_kept (kept : F.testBit 82 = false) (n : Nat) : t.engine n = s.engine n := by
  unfold State.engine; rw [frame.engines kept]

theorem Only.ringX_kept (kept : F.testBit 83 = false) (n : Nat) : t.ringX n = s.ringX n := by
  unfold State.ringX; rw [frame.rings kept]

theorem Only.session_kept (kept : F.testBit 80 = false) (n : Nat) : t.session n = s.session n := by
  unfold State.session; rw [frame.sessions kept]

theorem Only.contractAt_kept (kept : F.testBit 33 = false) (n : Nat) : t.contractAt n = s.contractAt n := by
  unfold State.contractAt; rw [frame.contractX kept]

theorem Only.crossing_kept (kept : F.testBit 37 = false) (n : Nat) : t.crossing n = s.crossing n := by
  unfold State.crossing; rw [frame.crossings kept]

theorem Only.blob_kept (kept : F.testBit 2 = false) (p q : Nat) : t.blob p q = s.blob p q := by
  unfold State.blob; rw [frame.blobs kept]

theorem Only.reg_kept (kept : F.testBit 1 = false) (p q : Nat) : t.reg p q = s.reg p q := by
  unfold State.reg; rw [frame.regs kept]

theorem Only.nat_kept (kept : F.testBit 1 = false) (p q : Nat) : t.nat p q = s.nat p q := by
  unfold State.nat State.reg; rw [frame.regs kept]

theorem Only.flag_kept (kept : F.testBit 1 = false) (p q : Nat) : t.flag p q = s.flag p q := by
  unfold State.flag State.reg; rw [frame.regs kept]

end Items

/-! ## Lanes

A lane's port is read from the modes of the ports, which no entry of a lane is. -/

section Lanes
variable (s : State) (n k : Nat) (x : LaneX) (y : PortX) (st i j b v p : Nat)

theorem State.ownPort_congr {s t : State} (n : Nat) (same : ∀ p, t.mode p = s.mode p) : t.ownPort n = s.ownPort n := by
  unfold State.ownPort
  simp only [same]

theorem State.ownPort_lt {s : State} {n p : Nat} (own : s.ownPort n = some p) : p < 96 := by
  unfold State.ownPort at own
  split_ifs at own <;> simp only [Option.some.injEq] at own <;> omega

@[simp] theorem State.mode_setLane : (s.setLane n x).mode p = s.mode p := rfl
@[simp] theorem State.ownPort_setLane : (s.setLane n x).ownPort k = s.ownPort k := rfl
@[simp] theorem State.stage_setLane : (s.setLane n x).stage k = s.stage k := rfl
@[simp] theorem State.bit_setLane : (s.setLane n x).bit i j b = s.bit i j b := rfl
@[simp] theorem State.port_setLane : (s.setLane n x).port k = s.port k := rfl
@[simp] theorem State.bit_setPort : (s.setPort n y).bit i j b = s.bit i j b := rfl
@[simp] theorem State.stage_setPort : (s.setPort n y).stage k = s.stage k := rfl
@[simp] theorem State.lane_setPort : (s.setPort n y).lane k = s.lane k := rfl
@[simp] theorem State.lane_setStage : (s.setStage n st).lane k = s.lane k := rfl
@[simp] theorem State.port_setStage : (s.setStage n st).port k = s.port k := rfl
@[simp] theorem State.blob_setStage : (s.setStage n st).blob i j = s.blob i j := rfl

/-- The stage of a lane after a change of a lane's stage. -/
@[simp] theorem State.stage_setStage_at : (s.setStage n st).stage k = if n = k then st else s.stage k := by
  simp [State.setStage]

/-- A change of a lane's stage leaves what is no stage or status of a lane. -/
@[simp] theorem State.nat_setStage_at (hj : j < 256) (apart : ¬(i = laneIndex n ∧ (j = 0x02 ∨ j = 0x03))) :
    (s.setStage n st).nat i j = s.nat i j := by
  unfold State.nat
  rw [State.reg_setStage]
  · rw [ne_eq, key_inj hj (by decide)]; tauto
  · rw [ne_eq, key_inj hj (by decide)]; tauto

@[simp] theorem State.mode_setStage (hn : n < 256) : (s.setStage n st).mode p = s.mode p := by
  unfold State.mode
  rw [State.nat_setStage_at _ _ _ _ _ (by decide)]
  simp only [laneIndex]
  omega

end Lanes

end Sys2Proof.Machine

namespace Sys2Proof.Machine

/-! ## The parts that a command writes

`partsOf` leaves `roundDue` out for the three commands that ask for a calibration round, while in a round that runs each of them notes there that another is
due (13 R344; `State.startRound`). -/

/-- A state in RUN in which a calibration round runs and none is due after it. -/
def inRound : State := { State.reset.setNat 0x1000 0x08 2 with roundRuns := true }

/-- The period's end has a round follow the one that runs. -/
theorem inRound_calibrationPeriodExpiry :
    ∃ t, exec (.calibrationPeriodExpiry 0 []) inRound = .next t ∧ t.roundDue = some (0, []) ∧ inRound.roundDue = none :=
  ⟨_, rfl, by decide +kernel⟩

/-- Refutes O58: in `inRound` the end of the calibration period writes `roundDue`, which is not among the parts that `partsOf` names for it. -/
theorem not_everyCommandKeepsToItsParts : ¬ Obligations.EveryCommandKeepsToItsParts := by
  unfold Obligations.EveryCommandKeepsToItsParts
  rintro ⟨keeps, -⟩
  obtain ⟨t, run, due, before⟩ := inRound_calibrationPeriodExpiry
  obtain ⟨u, again, frame, -, -⟩ := keeps (.calibrationPeriodExpiry 0 []) inRound
  obtain rfl : t = u := Host.Outcome.next.inj (run.symm.trans again)
  have same : t.roundDue = inRound.roundDue := frame.roundDue (by decide)
  rw [due, before] at same
  exact absurd same (by decide)

end Sys2Proof.Machine

namespace Sys2Proof.Machine

-- The kernel evaluates the runs below one after another: side by side, each holds a thread while it waits for the declarations before it.
set_option Elab.async false

/-! ## The state after reset, and a cycle of the hub clock

The clauses of the reset state are facts about one closed state, and each is computed. A cycle of the hub clock makes the list of the replicas anew, item by
item (`Sparse.remap`), so that of two items of one line the last stays, while a read takes the first; O56 does not ask for the canonical form. -/

theorem reset_fusesHold : State.reset.fusesHold := ⟨rfl, by decide⟩

/-- A cold start is not in service, so that the run state has no fence to agree with. -/
theorem reset_runAgrees : State.reset.runAgrees := fun up => absurd up (by decide +kernel)

/-- Settles O57: clause by clause. -/
theorem resetIsAColdStart : Obligations.ResetIsAColdStart := by
  unfold Obligations.ResetIsAColdStart
  refine ⟨?runState, ?role, rfl, rfl, rfl, rfl, ?generations, ?timeBases, ?pairs, ?sessions, reset_fusesHold, reset_runAgrees⟩
  case runState => decide +kernel
  case role => decide +kernel
  case generations => decide +kernel
  case timeBases => decide +kernel
  case pairs => decide +kernel
  case sessions => decide +kernel

/-- The state after reset, but for the line of region 0 listed twice: with a copy of TB0 at 0, and behind it with one at 1. -/
def lineListedTwice : State :=
  { State.reset with replicas := [(24, { copies := [(0, some {})] }), (24, { copies := [(0, some { count := 1 })] })] }

/-- A cycle of the hub clock, in which TB0 does not run, brings the second one back. -/
theorem lineListedTwice_step :
    ∃ t, step lineListedTwice = .next t ∧ (lineListedTwice.replica 24).copy 0 = some {} ∧ (lineListedTwice.tb 0).running = false ∧
      (t.replica 24).copy 0 = some { count := 1 } :=
  ⟨_, rfl, by decide +kernel⟩

/-- Refutes O56: in `lineListedTwice` TB0 is stopped, and yet the copy of it that reads 0 before a cycle of the hub clock reads 1 after it. The state is
not in canonical form, which the statement does not exclude. -/
theorem not_stepRunsTheFrontCommand : ¬ Obligations.StepRunsTheFrontCommand := by
  unfold Obligations.StepRunsTheFrontCommand
  rintro ⟨-, idle, -⟩
  obtain ⟨t, stepped, before, stopped, after⟩ := lineListedTwice_step
  obtain ⟨u, again, -, -, copies, -⟩ := idle lineListedTwice rfl rfl rfl rfl
  obtain rfl : t = u := Host.Outcome.next.inj (stepped.symm.trans again)
  have kept := copies 24 0 {} before
  rw [stopped, if_neg Bool.false_ne_true, after] at kept
  exact absurd kept (by decide)

end Sys2Proof.Machine

namespace Sys2Proof.Machine

/-! ## Lane bring-up: CDR lock, polarity tries and block lock (03 R64, R66, R67) -/

theorem exec_cdrLock {l : LaneId} {s : State} (stage : s.stage l = 2) (loud : s.flag (laneIndex l) 0x17 = false) :
    exec (.cdrLock l) s = .next ((s.putBit (laneIndex l) 0x03 1 true).setStage l 3) := by
  simp [exec, execCdrLock, stage, loud]

theorem exec_polarityTryExpiry {l : LaneId} {s : State} (stage : s.stage l = 3) (unlocked : s.bit (laneIndex l) 0x03 2 = false)
    (free : s.nat (laneIndex l) 0x0B = 0) :
    exec (.polarityTryExpiry l) s = .next (s.setLane l { s.lane l with tryInverted := !(s.lane l).tryInverted }) := by
  simp [exec, execPolarityTryExpiry, stage, unlocked, free]

/-- The state in which block lock notes the polarity that was tried. -/
def State.notePolarity (s : State) (n : Nat) : State := s.setLane n { s.lane n with polarity := if (s.lane n).tryInverted then 2 else 1 }

/-- The state in which block lock notes the lane order and, but in a re-deskew, the deskew of a bonded port (03 R67, R80). -/
def State.noteBond (s : State) (n : Nat) (order : Fin 4) (deskewPs : Nat) : State :=
  match s.ownPort n with
  | some p =>
    if 5 ≤ s.mode p ∧ order.val < modeLanes (s.mode p) then
      let s := s.setNat (laneIndex p) 0x0E order
      if (s.port p).bondWait then s else s.setPort p { s.port p with deskewPs := deskewPs }
    else s
  | none => s

theorem exec_blockLock {l : LaneId} {order : Fin 4} {deskewPs : Nat} {s : State} (stage : s.stage l = 3)
    (clocked : s.bit (laneIndex l) 0x03 1 = true) (loud : s.flag (laneIndex l) 0x17 = false) :
    exec (.blockLock l order deskewPs) s =
      .next (((((s.notePolarity l).noteBond l order deskewPs).putBit (laneIndex l) 0x03 2 true).setStage l 4).startAdapt l) := by
  simp only [exec, execBlockLock, stage, clocked, loud]
  rfl

/-- What block lock notes of a bonded port: no lane of it, no entry but its lane order. -/
theorem State.noteBond_keeps (s : State) (n : Nat) (order : Fin 4) (deskewPs : Nat) :
    (s.noteBond n order deskewPs).lanes = s.lanes ∧
      SameEntries (fun i j => j = 0x0E ∧ ∃ p, s.ownPort n = some p ∧ i = laneIndex p) s (s.noteBond n order deskewPs) := by
  unfold State.noteBond
  split
  · next p own =>
    have order_kept : SameEntries (fun i j => j = 0x0E ∧ ∃ p, s.ownPort n = some p ∧ i = laneIndex p) s (s.setNat (laneIndex p) 0x0E order) :=
      (SameEntries.refl _ s).setNat (by decide) ⟨rfl, p, own, rfl⟩
    dsimp only
    split_ifs
    · exact ⟨rfl, order_kept⟩
    · exact ⟨rfl, order_kept.of_regs rfl⟩
    · exact ⟨rfl, .refl _ s⟩
  · exact ⟨rfl, .refl _ s⟩

/-- What block lock notes of a bonded port, where the order is one of its lanes. -/
theorem State.noteBond_notes {s : State} {n p : Nat} {order : Fin 4} {deskewPs : Nat} (own : s.ownPort n = some p) (bonded : 5 ≤ s.mode p)
    (lane : order.val < modeLanes (s.mode p)) : (s.noteBond n order deskewPs).nat (laneIndex p) 0x0E = order ∧
      ((s.port p).bondWait = false → ((s.noteBond n order deskewPs).port p).deskewPs = deskewPs) := by
  unfold State.noteBond
  rw [own]
  dsimp only
  rw [if_pos ⟨bonded, lane⟩]
  split_ifs with wait
  · exact ⟨by simp, fun free => by simp [free] at wait⟩
  · exact ⟨by simp, fun _ => by simp⟩

/-- The start of adaptation writes the lane's CTLE setting, and of the lane what adapts. -/
theorem State.startAdapt_keeps (s : State) (n : Nat) :
    (s.startAdapt n).ports = s.ports ∧ ((s.startAdapt n).lane n).polarity = (s.lane n).polarity ∧
      SameEntries (fun i j => i = laneIndex n ∧ j = 0x14) s (s.startAdapt n) := by
  unfold State.startAdapt
  dsimp only
  split_ifs
  · exact ⟨rfl, by simp, ((SameEntries.refl _ s).setNat (by decide) ⟨rfl, rfl⟩).setLane⟩
  · exact ⟨rfl, by simp, ((SameEntries.refl _ s).setNat (by decide) ⟨rfl, rfl⟩).setLane⟩

/-- Settles O1. -/
theorem laneLockAdvancesTraining : Obligations.LaneLockAdvancesTraining := by
  unfold Obligations.LaneLockAdvancesTraining
  refine ⟨fun l s stage loud => ?cdr, fun l s stage unlocked free => ?polarity, fun l order deskewPs s stage clocked loud => ?block⟩
  case cdr =>
    have run := exec_cdrLock stage loud
    refine .of run ⟨by simp, by simp [State.bit_setStage, testBit_setBit], ?_, (execCdrLock_only l s (.refl _ s) rfl).of_next run⟩
    exact ((SameEntries.refl _ s).putBit (by decide) (by simp)).setStage (by simp) (by simp)
  case polarity =>
    have run := exec_polarityTryExpiry stage unlocked free
    refine .of run ⟨by simp, fun m apart => ?_, (execPolarityTryExpiry_only l s (.refl _ s) rfl).of_next run⟩
    rw [State.lane_setLane, if_neg apart.symm]
  case block =>
    have run := exec_blockLock (order := order) (deskewPs := deskewPs) stage clocked loud
    obtain ⟨bondLanes, bondSame⟩ := (s.notePolarity l).noteBond_keeps l order deskewPs
    obtain ⟨adaptPorts, adaptPolarity, adaptSame⟩ :=
      State.startAdapt_keeps ((((s.notePolarity l).noteBond l order deskewPs).putBit (laneIndex l) 0x03 2 true).setStage l 4) l
    refine .of run ⟨?stage, ?locked, ?polarity, fun p own bonded lane => ?bond, ?same, (execBlockLock_only l order deskewPs s (.refl _ s) rfl).of_next run⟩
    case stage => rw [adaptSame.stage (by simp), State.stage_setStage]
    case locked => rw [adaptSame.bit 2 (by decide) (by simp)]; simp [State.bit_setStage, testBit_setBit]
    case polarity =>
      have noted : ((s.notePolarity l).noteBond l order deskewPs).lane l = (s.notePolarity l).lane l := by unfold State.lane; rw [bondLanes]
      rw [adaptPolarity, State.lane_setStage, State.putBit_eq, State.lane_setReg, noted]
      simp [State.notePolarity]
    case bond =>
      obtain ⟨orderNoted, deskewNoted⟩ := State.noteBond_notes (s := s.notePolarity l) (deskewPs := deskewPs) own bonded lane
      refine ⟨?_, fun free => ?_⟩
      · rw [adaptSame.nat (by decide) (by simp), State.nat_setStage_at _ _ _ _ _ (by decide) (by simp)]
        simpa using orderNoted
      · have kept := congrArg (Sparse.get {} · p) adaptPorts
        exact (congrArg PortX.deskewPs kept).trans (deskewNoted free)
    case same =>
      have bond : SameEntries _ s ((s.notePolarity l).noteBond l order deskewPs) := bondSame
      refine ((((bond.mono ?_).putBit (by decide) ?_).setStage ?_ ?_).trans (adaptSame.mono ?_))
      · rintro i j ⟨rfl, p, own, rfl⟩; exact .inr ⟨rfl, p, own, rfl⟩
      · simp
      · simp
      · simp
      · rintro i j ⟨rfl, rfl⟩; simp

end Sys2Proof.Machine

namespace Sys2Proof.Machine

/-! ## A lane that comes up

`State.laneUp` writes stage and status of its lane and, with the retry, 22h of it; what follows at the spare detector and at the port writes entries from
2100h on alone (Sys2Proof/Laws/LowEntries). -/

section Low
variable {B : Nat} {s t : State} (low : Low B s t)
include low

theorem Low.stage {n : Nat} (below : laneIndex n < B) : t.stage n = s.stage n := low.nat _ _ below (by decide)

end Low

theorem State.laneIndex_lt (l : LaneId) : laneIndex l < 0x2100 := by
  have := l.isLt
  simp only [laneIndex]
  omega

theorem State.assignSpare_low {B : Nat} {origin : State} (s : State) (c : Nat) (low : Low B origin s) (cap : B ≤ 0x2500) :
    Low B origin (s.assignSpare c) := by
  unfold State.assignSpare
  dsimp only
  split_ifs
  · exact low
  · split
    · exact State.inc32_low _ _ _ (State.setNat_low _ _ _ _ (low.same rfl) (by omega)) (by omega)
    · exact low

/-- Whether a lane may be syntonised is read from its clocking request, the spreading of the twin lanes and pair 0. -/
theorem State.rateOnly_congr {s t : State} (n : Nat) (request : t.nat (laneIndex n) 0x04 = s.nat (laneIndex n) 0x04)
    (spread : ∀ j < 4, t.flag (laneIndex (96 + j)) 0x25 = s.flag (laneIndex (96 + j)) 0x25) (pair : t.nat 0x7050 0x03 = s.nat 0x7050 0x03)
    (locked : ∀ k, t.bit (0x7040 + k) 0x02 1 = s.bit (0x7040 + k) 0x02 1) : t.rateOnly n = s.rateOnly n := by
  have feed : t.twinPllFeed = s.twinPllFeed := by
    have any : (items 4).any (fun j => t.flag (laneIndex (96 + j)) 0x25) = (items 4).any (fun j => s.flag (laneIndex (96 + j)) 0x25) := by
      rw [Bool.eq_iff_iff, List.any_eq_true, List.any_eq_true]
      exact exists_congr fun j => and_congr_right fun hj => by rw [spread j (List.mem_range.1 hj)]
    unfold State.twinPllFeed
    simp only [any, pair, locked]
  unfold State.rateOnly
  rw [request, feed]

/-- No entry of a lane but its request and its spreading tells whether a lane may be syntonised. -/
theorem SameEntries.rateOnly {K : Nat → Nat → Prop} {s t : State} (same : SameEntries K s t) (n : Nat)
    (lanes : ∀ i j, K i j → i < 0x2100 ∧ j ≠ 0x04 ∧ j ≠ 0x25) : t.rateOnly n = s.rateOnly n :=
  State.rateOnly_congr n (same.nat (by decide) fun h => (lanes _ _ h).2.1 rfl) (fun j _ => same.flag (by decide) fun h => (lanes _ _ h).2.2 rfl)
    (same.nat (by decide) fun h => absurd (lanes _ _ h).1 (by decide)) (fun k => same.bit 1 (by decide) fun h => absurd (lanes _ _ h).1 (by omega))

/-- The lane in its new stage, with its training and its waits over. -/
def State.laneUpStage (s : State) (n st : Nat) : State :=
  (s.setLane n { s.lane n with
    attempt := false, timerRuns := false, retryRuns := false, modeChange := 0, retryAt := none, lone := false, discardInterval := false
    fill := if st = 7 then inBuffer (s.lane n).fill else (s.lane n).fill }).setStage n st

/-- A spare detector may take over the lane that has come up. -/
def State.laneUpSpare (s : State) (n : Nat) : State := if n < 96 then s.assignSpare (n / 4) else s

/-- The lane that has come up counts its retries from 0 again, or has the next one scheduled. -/
def State.laneUpRetry (s : State) (n st : Nat) : State := if st = 6 then s.resetRetry n else if s.rateOnly n then s else s.scheduleRetry n

/-- What a lane that comes up does to itself, before its port follows. -/
def State.laneUpItself (s : State) (n st : Nat) : State := ((s.laneUpStage n st).laneUpSpare n).laneUpRetry n st

theorem State.laneUpSpare_low (s : State) (n : Nat) : Low 0x2100 s (s.laneUpSpare n) := by
  unfold State.laneUpSpare
  split_ifs
  · exact State.assignSpare_low _ _ (.refl _) (by decide)
  · exact .refl _

theorem State.laneUpSpare_lane (s : State) (n k : Nat) : (s.laneUpSpare n).lane k = s.lane k := by
  unfold State.laneUpSpare
  split_ifs
  · exact (State.assignSpare_only s _ (.refl 0x4000000000002 _) rfl).lane_kept (by decide) k
  · rfl

theorem State.laneUpRetry_reg (s : State) (n st : Nat) {i j : Nat} (hj : j < 256) (apart : ¬(i = laneIndex n ∧ j = 0x22)) :
    (s.laneUpRetry n st).reg i j = s.reg i j := by
  have counted : ∀ v : Nat, (s.setNat (laneIndex n) 0x22 v).reg i j = s.reg i j := fun v => by
    rw [State.setNat_eq, State.reg_setReg_at _ _ (by decide) hj, if_neg (fun h => apart ⟨h.1.symm, h.2.symm⟩)]
  unfold State.laneUpRetry
  split_ifs
  · exact counted _
  · rfl
  · exact counted _

theorem State.laneUpRetry_lane (s : State) (n st : Nat) (none : (s.lane n).retryAt = none) :
    ∃ retry, (s.laneUpRetry n st).lane n = { s.lane n with retryAt := retry } ∧ (st = 6 → retry = .none) := by
  unfold State.laneUpRetry
  split_ifs with up
  · exact ⟨.none, by simp [State.resetRetry], fun _ => rfl⟩
  · exact ⟨.none, by rw [← none], fun _ => rfl⟩
  · exact ⟨_, by simp only [State.scheduleRetry, State.lane_setLane_same]; rfl, fun h => absurd h up⟩

/-- What follows at the port of a lane that has come up, or at the twin's crickets. -/
def State.laneUpFollows (s : State) (n : Nat) : State :=
  match s.ownPort n with
  | some p => s.judgePort p
  | none => if 96 ≤ n then { s with twin := { s.twin with crickets := s.twin.crickets.set (n - 96) 0 } } else s

theorem State.laneUp_eq (s : State) (n st : Nat) : s.laneUp n st = (s.laneUpItself n st).laneUpFollows n := rfl

theorem State.laneUpFollows_low (s : State) (n : Nat) : Low 0x2100 s (s.laneUpFollows n) := by
  unfold State.laneUpFollows
  split
  · exact State.judgePort_low _ _ (.refl _) (by decide)
  · split_ifs
    · exact (Low.refl _).same rfl
    · exact .refl _

theorem State.laneUpFollows_lanes (s : State) (n : Nat) : (s.laneUpFollows n).lanes = s.lanes := by
  unfold State.laneUpFollows
  split
  · next p _ => exact (State.judgePort_only s p (.refl 0x1001407f4040000000342 _) rfl).lanes (by decide)
  · split_ifs <;> rfl

theorem State.laneUp_low (s : State) (n st : Nat) : Low 0x2100 (s.laneUpItself n st) (s.laneUp n st) := State.laneUpFollows_low _ n

theorem State.laneUp_lanes (s : State) (n st : Nat) : (s.laneUp n st).lanes = (s.laneUpItself n st).lanes := State.laneUpFollows_lanes _ n

/-- What the steps after the stage may do below 2100h: entry 22h of the lane. -/
theorem State.laneUpItself_reg {s : State} {n st i j : Nat} (hi : i < 0x2100) (hj : j < 256) (apart : ¬(i = laneIndex n ∧ j = 0x22)) :
    (s.laneUpItself n st).reg i j = (s.setStage n st).reg i j :=
  (State.laneUpRetry_reg _ n st hj apart).trans ((State.laneUpSpare_low _ n).reg i j hi hj)

theorem State.laneUp_reg {s : State} {n st i j : Nat} (hi : i < 0x2100) (hj : j < 256) (apart : ¬(i = laneIndex n ∧ j = 0x22)) :
    (s.laneUp n st).reg i j = (s.setStage n st).reg i j :=
  ((s.laneUp_low n st).reg i j hi hj).trans (State.laneUpItself_reg hi hj apart)

section Lane
variable {s : State} {n : Nat} (hn : laneIndex n < 0x2100)
include hn

theorem State.stage_laneUp (st : Nat) : (s.laneUp n st).stage n = st := by
  have same : (s.laneUp n st).stage n = (s.setStage n st).stage n :=
    congrArg Int.toNat (State.laneUp_reg hn (by decide) (by simp))
  rw [same, State.stage_setStage]

/-- The status of a lane that has come up is what its stage makes of it. -/
theorem State.bit_laneUp (st b : Nat) : (s.laneUp n st).bit (laneIndex n) 0x03 b = (s.setStage n st).bit (laneIndex n) 0x03 b := by
  unfold State.bit State.nat
  rw [State.laneUp_reg hn (by decide) (by simp)]

/-- Every entry of a lane but its stage, its status and its retry count stays as the lane comes up. -/
theorem State.reg_laneUp {j : Nat} (st : Nat) (hj : j < 256) (stage : j ≠ 0x02) (status : j ≠ 0x03) (retry : j ≠ 0x22) :
    (s.laneUp n st).reg (laneIndex n) j = s.reg (laneIndex n) j := by
  rw [State.laneUp_reg hn hj (by simp [retry]), State.reg_setStage _ _ _ _ _ (key_ne_sub stage) (key_ne_sub status)]

/-- A lane that comes up syntonised counts its retries from 0 again. -/
theorem State.retries_laneUp_syntonised : (s.laneUp n 6).nat (laneIndex n) 0x22 = 0 := by
  rw [(s.laneUp_low n 6).nat _ _ hn (by decide)]
  simp [State.laneUpItself, State.laneUpRetry, State.resetRetry]

end Lane

/-- What a lane holds once it is up: but for a retry that is scheduled, its training and its waits are over. -/
theorem State.lane_laneUp (s : State) (n st : Nat) : ∃ retry, (s.laneUp n st).lane n = { s.lane n with
    attempt := false, timerRuns := false, retryRuns := false, modeChange := 0, retryAt := retry, lone := false, discardInterval := false
    fill := if st = 7 then inBuffer (s.lane n).fill else (s.lane n).fill } := by
  have up : (s.laneUp n st).lane n = (s.laneUpItself n st).lane n := by unfold State.lane; rw [s.laneUp_lanes]
  have staged : ((s.laneUpStage n st).laneUpSpare n).lane n = (s.laneUpStage n st).lane n := State.laneUpSpare_lane _ n n
  obtain ⟨retry, itself, -⟩ := State.laneUpRetry_lane ((s.laneUpStage n st).laneUpSpare n) n st (by rw [staged]; simp [State.laneUpStage])
  refine ⟨retry, ?_⟩
  rw [up, State.laneUpItself, itself, staged]
  simp [State.laneUpStage]

end Sys2Proof.Machine

namespace Sys2Proof.Machine

/-! ## Lane bring-up: an attempt begins, adaptation ends (03 R64, R65, R69, R70, R73, R75, R501) -/

/-- An attempt begins in stage 2, or goes on there. -/
def State.beginAttempt (s : State) (n : Nat) : State :=
  (s.setStage n 2).setLane n { s.lane n with
    attempt := true, timerRuns := !(s.setStage n 2).flag (laneIndex n) 0x17, pllWait := false, retryAt := none
    tryInverted := if (s.setStage n 2).nat (laneIndex n) 0x0B = 0 then (s.lane n).polarity == 2 else (s.setStage n 2).nat (laneIndex n) 0x0B == 2 }

/-- The analogue trims that wait for stage 2 act. -/
def State.takeTrims (s : State) (n : Nat) : State :=
  let i := 0x8100 + n
  match (s.trim n).signal with
  | some [r, t, w, b0, b1, b2] =>
    let s := ((s.setNat i 0x01 r).setNat i 0x02 t).setNat i 0x03 w
    let s := s.setBlob i 0x04 [BitVec.ofNat 8 b0, BitVec.ofNat 8 b1, BitVec.ofNat 8 b2]
    (s.setTrim n { s.trim n with signal := none }).putBit i 0x0A 2 false
  | _ => s

theorem State.enterStage2_eq (s : State) (n : Nat) : s.enterStage2 n = (s.beginAttempt n).takeTrims n := rfl

theorem State.takeTrims_low (s : State) (n : Nat) : Low 0x8100 s (s.takeTrims n) := by
  unfold State.takeTrims
  dsimp only
  split
  · next r t w _ _ _ _ =>
    have written : Low 0x8100 s (((s.setNat (0x8100 + n) 0x01 r).setNat (0x8100 + n) 0x02 t).setNat (0x8100 + n) 0x03 w) :=
      State.setNat_low _ _ _ _ (State.setNat_low _ _ _ _ (State.setNat_low _ _ _ _ (.refl s) (by omega)) (by omega)) (by omega)
    exact State.putBit_low _ _ _ _ _ (written.same rfl) (by omega)
  · exact .refl s

theorem State.takeTrims_lanes (s : State) (n : Nat) : (s.takeTrims n).lanes = s.lanes := by
  unfold State.takeTrims
  dsimp only
  split <;> rfl

theorem State.enterStage2_reg (s : State) (n : Nat) {i j : Nat} (hi : i < 0x8100) (hj : j < 256) :
    (s.enterStage2 n).reg i j = (s.setStage n 2).reg i j := ((s.beginAttempt n).takeTrims_low n).reg i j hi hj

theorem State.enterStage2_lane (s : State) (n k : Nat) : (s.enterStage2 n).lane k = (s.beginAttempt n).lane k := by
  unfold State.lane
  rw [s.enterStage2_eq, State.takeTrims_lanes]

section Enter
variable (s : State) {n : Nat} (hn : laneIndex n < 0x2100)
include hn

theorem State.stage_enterStage2 : (s.enterStage2 n).stage n = 2 := by
  have same := s.enterStage2_reg n (i := laneIndex n) (j := 0x02) (by omega) (by decide)
  exact (congrArg Int.toNat same).trans (State.stage_setStage s n 2)

theorem State.bit_enterStage2 (b : Nat) : (s.enterStage2 n).bit (laneIndex n) 0x03 b = (s.setStage n 2).bit (laneIndex n) 0x03 b := by
  unfold State.bit State.nat
  rw [s.enterStage2_reg n (by omega) (by decide)]

theorem State.nat_enterStage2 {j : Nat} (hj : j < 256) (stage : j ≠ 0x02) (status : j ≠ 0x03) :
    (s.enterStage2 n).nat (laneIndex n) j = s.nat (laneIndex n) j := by
  unfold State.nat
  rw [s.enterStage2_reg n (by omega) hj, State.reg_setStage _ _ _ _ _ (key_ne_sub stage) (key_ne_sub status)]

end Enter

/-- An attempt begins with stage 2, or goes on there: but for the polarity to be tried. -/
theorem State.lane_enterStage2 (s : State) (n : Nat) : ∃ inverted, (s.enterStage2 n).lane n = { s.lane n with
    attempt := true, timerRuns := !s.flag (laneIndex n) 0x17, pllWait := false, retryAt := none, tryInverted := inverted } := by
  have quiet : (s.setStage n 2).flag (laneIndex n) 0x17 = s.flag (laneIndex n) 0x17 := by
    unfold State.flag
    rw [State.reg_setStage _ _ _ _ _ (key_ne_sub (by decide)) (key_ne_sub (by decide))]
  rw [s.enterStage2_lane, State.beginAttempt, quiet]
  exact ⟨_, State.lane_setLane_same ..⟩

theorem State.enterStage2_other (s : State) {n m : Nat} (apart : n ≠ m) : (s.enterStage2 n).lane m = s.lane m := by
  rw [s.enterStage2_lane, State.beginAttempt, State.lane_setLane, if_neg apart, State.lane_setStage]

/-- The kept adaptation is a record of 24 bytes that begins with the rate. -/
theorem adaptBytes_shape (rate ctle count : Nat) (r : AdaptRecord) :
    (adaptBytes rate ctle count r).length = 24 ∧ (adaptBytes rate ctle count r).take 1 = [BitVec.ofNat 8 rate] := by
  constructor
  · simp [adaptBytes, takePad]
  · rfl

/-- Signal has been absent from the lane for a second (03 R70). -/
def State.longAbsent (s : State) (n : Nat) : Bool :=
  match (s.lane n).absentSince with
  | some t => decide (t + 1000000000 ≤ s.now)
  | none => false

/-- Signal has come: it is noted, and after a second without it the lane counts its retries from 0 again. -/
def State.takeSignal (s : State) (n : Nat) : State :=
  let t := (s.putBit (laneIndex n) 0x03 0 true).setLane n { s.lane n with absentSince := none }
  if s.longAbsent n then t.resetRetry n else t

theorem exec_signalDetected {l : LaneId} {s : State} (on : s.stage l ≠ 0) (loud : s.flag (laneIndex l) 0x17 = false) (locked : s.pllDown l = false) :
    exec (.signalDetected l) s =
      .next (if s.stage l = 1 ∨ (s.stage l = 8 ∧ s.longAbsent l = true) then (s.takeSignal l).enterStage2 l else s.takeSignal l) := by
  have still : (s.takeSignal l).pllDown l = false := by
    rw [← locked]
    unfold State.pllDown State.takeSignal
    dsimp only
    split_ifs <;> rfl
  change Host.Outcome.next (if s.stage l = 0 ∨ s.flag (laneIndex l) 0x17 = true then s else
    if (s.takeSignal l).pllDown l = true then _ else _) = _
  rw [if_neg (by simp [on, loud]), if_neg (by simp [still])]
  rfl

theorem State.takeSignal_lane (s : State) (n : Nat) : ∃ retry, (s.takeSignal n).lane n = { s.lane n with absentSince := none, retryAt := retry } ∧
    (s.longAbsent n = true → retry = none) := by
  unfold State.takeSignal
  dsimp only
  split_ifs with long
  · exact ⟨none, by simp [State.resetRetry], fun _ => rfl⟩
  · exact ⟨_, (State.lane_setLane_same ..).trans rfl, fun h => absurd h long⟩

theorem State.takeSignal_reads (s : State) (n : Nat) :
    (s.takeSignal n).stage n = s.stage n ∧ (s.takeSignal n).flag (laneIndex n) 0x17 = s.flag (laneIndex n) 0x17 ∧
      (s.takeSignal n).bit (laneIndex n) 0x03 0 = true ∧
      (s.takeSignal n).nat (laneIndex n) 0x22 = if s.longAbsent n then 0 else s.nat (laneIndex n) 0x22 := by
  unfold State.takeSignal
  dsimp only
  split_ifs <;> simp [State.resetRetry, testBit_setBit, -Nat.testBit_zero]

/-- A lane whose figure of merit has reached the threshold keeps what it has found (03 R75, R501). -/
def State.keepAdaptation (s : State) (n : Nat) (fom : BitVec 8) (rec : AdaptRecord) : State :=
  let i := laneIndex n
  let ctle := s.adaptedCtle n rec
  let trains := s.trainsLink n
  let mode := ((s.ownPort n).map s.mode).getD 0
  let found : AdaptRecord := { rec with gain := min 255 rec.gain, tx := if trains then clauseCoefficients mode rec.tx else [] }
  let s := (s.setNat i 0x0F fom.toNat).setNat i 0x14 ctle
  let s := s.setBlob i 0x13 (adaptBytes (s.nat i 0x01) ctle (if trains then clauseCount mode else 0) found)
  let s := s.setLane n { s.lane n with
    gain := found.gain, taps := takePad found.taps 12, tx := found.tx, adaptedAt := s.now, discardInterval := false }
  s.putBit i 0x03 3 true

theorem exec_adaptComplete {l : LaneId} {fom : BitVec 8} {rec : AdaptRecord} {s : State} (stage : s.stage l = 4)
    (reached : s.adaptThreshold l ≤ fom.toNat) : exec (.adaptComplete l fom rec) s =
      .next (if (s.keepAdaptation l fom rec).rateOnly l then (s.keepAdaptation l fom rec).laneUp l 7 else (s.keepAdaptation l fom rec).setStage l 5) := by
  change Host.Outcome.next (if _ then _ else _) = _
  rw [if_pos ⟨stage, reached⟩]
  rfl

/-- What a lane keeps of its adaptation. -/
theorem State.keepAdaptation_reads (s : State) (n : Nat) (fom : BitVec 8) (rec : AdaptRecord) :
    let t := s.keepAdaptation n fom rec
    SameEntries (fun i j => i = laneIndex n ∧ (j = 0x03 ∨ j = 0x0F ∨ j = 0x14)) s t ∧ t.nat (laneIndex n) 0x0F = fom.toNat ∧
      t.nat (laneIndex n) 0x14 = s.adaptedCtle n rec ∧ t.bit (laneIndex n) 0x03 3 = true ∧
      (t.blob (laneIndex n) 0x13).length = 24 ∧ (t.blob (laneIndex n) 0x13).take 1 = [BitVec.ofNat 8 (s.nat (laneIndex n) 0x01)] := by
  unfold State.keepAdaptation
  refine ⟨?_, by simp, by simp, by simp [testBit_setBit], ?_, ?_⟩
  · dsimp only
    exact (((SameEntries.refl _ s).setNat (by decide) (by simp)).setNat (by decide) (by simp)).setBlob.setLane.putBit (by decide) (by simp)
  · exact (congrArg List.length (State.blob_setBlob_same ..)).trans (adaptBytes_shape ..).1
  · refine (congrArg (List.take 1) (State.blob_setBlob_same ..)).trans ((adaptBytes_shape ..).2.trans ?_)
    simp

/-- Settles O2. -/
theorem laneAttemptBeginsAndAdapts : Obligations.LaneAttemptBeginsAndAdapts := by
  unfold Obligations.LaneAttemptBeginsAndAdapts
  refine ⟨fun l s stage loud locked => ?starts, fun l s since absent stage loud locked => ?returns, fun l fom rec s stage reached => ?adapted⟩
  case starts =>
    have run := exec_signalDetected (by omega) loud locked
    rw [if_pos (.inl stage)] at run
    obtain ⟨-, quiet, signal, -⟩ := s.takeSignal_reads l
    obtain ⟨retry, taken, -⟩ := s.takeSignal_lane l
    obtain ⟨inverted, entered⟩ := (s.takeSignal l).lane_enterStage2 l
    refine .of run ⟨State.stage_enterStage2 _ (State.laneIndex_lt l), ?_, by rw [entered], by rw [entered, quiet, loud]; rfl, by rw [entered, taken]⟩
    rw [State.bit_enterStage2 _ (State.laneIndex_lt l), State.bit_setStage]
    exact signal
  case returns =>
    have run := exec_signalDetected (by omega) loud locked
    obtain ⟨still, -, -, retries⟩ := s.takeSignal_reads l
    have long : s.longAbsent l = decide (since + 1000000000 ≤ s.now) := by unfold State.longAbsent; rw [absent]
    by_cases second : since + 1000000000 ≤ s.now
    · rw [if_pos (.inr ⟨stage, by rw [long]; exact decide_eq_true second⟩)] at run
      obtain ⟨inverted, entered⟩ := (s.takeSignal l).lane_enterStage2 l
      refine .of run ⟨fun _ => ⟨State.stage_enterStage2 _ (State.laneIndex_lt l), ?_, by rw [entered]⟩, fun soon => by omega⟩
      rw [State.nat_enterStage2 _ (State.laneIndex_lt l) (by decide) (by decide) (by decide), retries, long, decide_eq_true second]
      rfl
    · rw [if_neg (by simp [stage, long, second])] at run
      refine .of run ⟨fun h => absurd h second, fun _ => ⟨still.trans stage, ?_⟩⟩
      rw [retries, long, decide_eq_false second]
      rfl
  case adapted =>
    have run := exec_adaptComplete (rec := rec) stage reached
    obtain ⟨same, merit, ctle, adapted, long, rate⟩ := s.keepAdaptation_reads l fom rec
    have below := State.laneIndex_lt l
    have request : (s.keepAdaptation l fom rec).rateOnly l = s.rateOnly l :=
      same.rateOnly l (by rintro i j ⟨rfl, hj⟩; exact ⟨below, by omega, by omega⟩)
    rw [request] at run
    by_cases only : s.rateOnly l = true
    · rw [if_pos only] at run
      have blobs : ((s.keepAdaptation l fom rec).laneUp l 7).blob (laneIndex l) 0x13 = (s.keepAdaptation l fom rec).blob (laneIndex l) 0x13 :=
        (State.laneUp_only _ l 7 (.refl 0x1001607f40400000003c2 _) rfl).blob_kept (by decide) ..
      refine .of run ⟨by rw [State.stage_laneUp below, if_pos only], ?_, ?_, ?_, by rw [blobs]; exact long, by rw [blobs]; exact rate⟩
      · rw [← merit]; exact congrArg Int.toNat (State.reg_laneUp below 7 (by decide) (by decide) (by decide) (by decide))
      · rw [← ctle]; exact congrArg Int.toNat (State.reg_laneUp below 7 (by decide) (by decide) (by decide) (by decide))
      · rw [State.bit_laneUp below, State.bit_setStage]; exact adapted
    · rw [if_neg only] at run
      refine .of run ⟨by rw [State.stage_setStage, if_neg only], ?_, ?_, ?_, long, rate⟩
      · rw [← merit]; exact State.nat_setStage_at _ _ _ _ _ (by decide) (by simp)
      · rw [← ctle]; exact State.nat_setStage_at _ _ _ _ _ (by decide) (by simp)
      · rw [State.bit_setStage]; exact adapted

end Sys2Proof.Machine

namespace Sys2Proof.Machine

/-! ## Lane clocking: syntonised or rate-matched by the measured offset (03 R64, R69, R71, R72) -/

/-- The lane notes the measured offset of its partner. -/
def State.noteOffset (s : State) (n : Nat) (ppt : Int) : State := s.setReg (laneIndex n) 0x0A (max (-2147483648) (min 2147483647 ppt))

theorem State.noteOffset_same (s : State) (n : Nat) (ppt : Int) : SameEntries (fun i j => i = laneIndex n ∧ j = 0x0A) s (s.noteOffset n ppt) :=
  (SameEntries.refl _ s).setReg (by decide) ⟨rfl, rfl⟩

theorem State.noteOffset_rateOnly (s : State) (l : LaneId) (ppt : Int) : (s.noteOffset l ppt).rateOnly l = s.rateOnly l :=
  (s.noteOffset_same l ppt).rateOnly l (by rintro i j ⟨rfl, rfl⟩; exact ⟨State.laneIndex_lt l, by decide, by decide⟩)

/-- An interval that counts and ends: what the offset, once noted, leads to. -/
theorem exec_syntonyIntervalEnd {l : LaneId} {ppt : Int} {fill : Fin 33} {s : State}
    (measures : s.stage l = 5 ∨ s.stage l = 6 ∨ (s.stage l = 7 ∧ (s.lane l).retryRuns = true)) (counts : (s.lane l).discardInterval = false) :
    exec (.syntonyIntervalEnd l ppt fill) s = .next (
      let t := s.noteOffset l ppt
      if s.stage l ≠ 6 ∧ s.rateOnly l = true then t.rateMatchOnly l
      else if s.stage l = 5 then (if ppt.natAbs ≤ s.nat (laneIndex l) 0x08 * 1000 then (t.setLane l { s.lane l with fill := centred fill }).laneUp l 6 else t)
      else if s.stage l = 6 then (if ppt.natAbs ≤ s.nat (laneIndex l) 0x08 * 1000 then t else t.loseSyntony l)
      else if ppt.natAbs ≤ s.nat (laneIndex l) 0x08 * 1000 then t.setLane l { s.lane l with retryRuns := false, modeChange := 2, fill := inBuffer fill }
      else (t.setLane l { s.lane l with retryRuns := false }).scheduleRetry l) := by
  have window : (s.noteOffset l ppt).nat (laneIndex l) 0x08 = s.nat (laneIndex l) 0x08 := (s.noteOffset_same l ppt).nat (by decide) (by simp)
  have runs : ¬((!(s.stage l == 5 || s.stage l == 6 || (s.stage l == 7 && (s.lane l).retryRuns))) = true) := by
    rcases measures with h | h | ⟨h, retry⟩
    · simp [h]
    · simp [h]
    · simp [h, retry]
  change Host.Outcome.next (if _ then _ else _) = _
  rw [if_neg runs, if_neg (by simp [counts])]
  change Host.Outcome.next (if s.stage l ≠ 6 ∧ (s.noteOffset l ppt).rateOnly l = true then (s.noteOffset l ppt).rateMatchOnly l else _) = _
  simp only [State.noteOffset_rateOnly, ← window, decide_eq_true_eq]
  rfl

/-- A syntonised lane that is not yet to leave is to, and its status says that syntony was lost. -/
theorem State.loseSyntony_effect {s : State} {n : Nat} (hn : laneIndex n < 0x2100) (stays : (s.lane n).modeChange ≠ 1) :
    (s.loseSyntony n).stage n = s.stage n ∧ ((s.loseSyntony n).lane n).modeChange = 1 ∧ (s.loseSyntony n).bit (laneIndex n) 0x03 22 = true := by
  have eq : s.loseSyntony n = ((s.putBit (laneIndex n) 0x03 22 true).setLane n { s.lane n with modeChange := 1 }).refsUpdate := by
    unfold State.loseSyntony State.leaveSyntony
    rw [if_neg stays, if_neg (by simpa using stays)]
    rfl
  rw [eq]
  have low := State.refsUpdate_low ((s.putBit (laneIndex n) 0x03 22 true).setLane n { s.lane n with modeChange := 1 }) (.refl (B := 0x2100) _) (by decide)
  have lane := (State.refsUpdate_only ((s.putBit (laneIndex n) 0x03 22 true).setLane n { s.lane n with modeChange := 1 })
    (.refl 0x1001407f0040000000242 _) rfl).lane_kept (by decide) n
  refine ⟨by rw [low.stage hn]; simp, by rw [lane]; simp, by rw [low.bit _ _ _ hn (by decide)]; simp [testBit_setBit]⟩

/-- What the schedule of a retry makes of its lane. -/
theorem State.scheduleRetry_effect (s : State) (n : Nat) : (s.scheduleRetry n).stage n = s.stage n ∧
    (s.scheduleRetry n).nat (laneIndex n) 0x22 = min 65535 (s.nat (laneIndex n) 0x22 + 1) ∧
    (s.scheduleRetry n).lane n = { s.lane n with retryAt := some (s.now + s.backoff n (min 65535 (s.nat (laneIndex n) 0x22 + 1)) * 1000000) } := by
  unfold State.scheduleRetry
  refine ⟨by simp, by simp; omega, ?_⟩
  exact State.lane_setLane_same ..

theorem State.scheduleRetry_same (s : State) (n : Nat) : SameEntries (fun i j => i = laneIndex n ∧ j = 0x22) s (s.scheduleRetry n) :=
  ((SameEntries.refl _ s).setNat (by decide) ⟨rfl, rfl⟩).setLane

/-- Settles O3. -/
theorem laneSyntonyFollowsOffset : Obligations.LaneSyntonyFollowsOffset := by
  unfold Obligations.LaneSyntonyFollowsOffset
  refine ⟨fun l ppt fill s stage counts free within small => ?syntonised, fun l ppt fill s stage counts beyond stays => ?lost,
    fun l ppt fill s stage retries counts free => ?retried, fun l s stage stays => ?nearEnd, fun l s stage leaves => ?rateMatched,
    fun l ppt fill s stage counts only => ?onlyRate, fun l s stage comes free => ?again⟩
  all_goals have below := State.laneIndex_lt l
  case syntonised =>
    have run := exec_syntonyIntervalEnd (ppt := ppt) (fill := fill) (.inl stage) counts
    rw [if_neg (by simp [free]), if_pos stage, if_pos within] at run
    obtain ⟨retry, up⟩ := ((s.noteOffset l ppt).setLane l { s.lane l with fill := centred fill }).lane_laneUp l 6
    rw [State.lane_setLane_same] at up
    refine .of run ⟨State.stage_laneUp below 6, ?_, State.retries_laneUp_syntonised below, by rw [up]; rfl, by rw [up]⟩
    rw [State.reg_laneUp below 6 (by decide) (by decide) (by decide) (by decide)]
    refine (State.reg_setReg_same ..).trans ?_
    omega
  case lost =>
    have run := exec_syntonyIntervalEnd (ppt := ppt) (fill := fill) (.inr (.inl stage)) counts
    rw [if_neg (by simp [stage]), if_neg (by omega), if_pos stage, if_neg (by omega)] at run
    obtain ⟨still, leaving, shown⟩ := State.loseSyntony_effect (s := s.noteOffset l ppt) below stays
    exact .of run ⟨by rw [still, (s.noteOffset_same l ppt).stage (by simp), stage], leaving, shown⟩
  case retried =>
    have run := exec_syntonyIntervalEnd (ppt := ppt) (fill := fill) (.inr (.inr ⟨stage, retries⟩)) counts
    rw [if_neg (by simp [free]), if_neg (by omega), if_neg (by omega)] at run
    have noted : (s.noteOffset l ppt).stage l = 7 := ((s.noteOffset_same l ppt).stage (by simp)).trans stage
    by_cases within : ppt.natAbs ≤ s.nat (laneIndex l) 0x08 * 1000
    · rw [if_pos within] at run
      exact .of run ⟨noted, by simp, fun _ => ⟨by simp, by simp [inBuffer]⟩, fun h => by omega⟩
    · rw [if_neg within] at run
      obtain ⟨still, -, lane⟩ := ((s.noteOffset l ppt).setLane l { s.lane l with retryRuns := false }).scheduleRetry_effect l
      refine .of run ⟨still.trans noted, by rw [lane]; simp, fun h => absurd h within, fun _ => ?_⟩
      rw [lane]
      simp [State.noteOffset, State.backoff]
  case nearEnd =>
    have run : exec (.elasticFillLimit l) s = .next (s.loseSyntony l) := congrArg _ (if_pos stage)
    obtain ⟨-, leaving, shown⟩ := State.loseSyntony_effect below stays
    exact .of run ⟨leaving, shown⟩
  case rateMatched =>
    have run : exec (.rateMatchSwitch l) s = .next (s.laneUp l 7) := congrArg _ (if_pos ⟨stage, leaves⟩)
    obtain ⟨retry, up⟩ := s.lane_laneUp l 7
    refine .of run ⟨State.stage_laneUp below 7, by rw [up], ?_, ?_⟩
    all_goals rw [State.bit_laneUp below, State.bit_setStage]; rfl
  case onlyRate =>
    have run := exec_syntonyIntervalEnd (ppt := ppt) (fill := fill) (.inl stage) counts
    have noted : (s.noteOffset l ppt).stage l = 5 := ((s.noteOffset_same l ppt).stage (by simp)).trans stage
    have up : (s.noteOffset l ppt).rateMatchOnly l = (s.noteOffset l ppt).laneUp l 7 := by
      unfold State.rateMatchOnly
      rw [noted]
      rfl
    rw [if_pos ⟨by omega, only⟩, up] at run
    obtain ⟨retry, lane⟩ := (s.noteOffset l ppt).lane_laneUp l 7
    exact .of run ⟨State.stage_laneUp below 7, by rw [lane]⟩
  case again =>
    have run : exec (.syntonisedSwitch l) s = .next ((s.setLane l { s.lane l with fill := centred (s.lane l).fill }).laneUp l 6) :=
      congrArg _ (if_pos ⟨stage, comes, by simp [free]⟩)
    obtain ⟨retry, up⟩ := (s.setLane l { s.lane l with fill := centred (s.lane l).fill }).lane_laneUp l 6
    rw [State.lane_setLane_same] at up
    refine .of run ⟨State.stage_laneUp below 6, by rw [up], State.retries_laneUp_syntonised below, by rw [up]; rfl, ?_⟩
    rw [State.bit_laneUp below, State.bit_setStage]
    rfl

end Sys2Proof.Machine

namespace Sys2Proof.Machine

/-! ## Lane training: timeout, backoff and retry (03 R68, R69) -/

/-- The training timeout is shown, and the lane has neither lock. -/
def State.showTimeout (s : State) (n : Nat) : State :=
  ((s.putBit (laneIndex n) 0x03 21 true).putBit (laneIndex n) 0x03 1 false).putBit (laneIndex n) 0x03 2 false

/-- The attempt of a lane without both locks is over. -/
def State.giveUp (s : State) (n : Nat) : State :=
  ((s.showTimeout n).setLane n
    { (s.showTimeout n).lane n with attempt := false, timerRuns := false, retryRuns := false, modeChange := 0 }).setStage n 8

theorem exec_trainingTimeout {l : LaneId} {s : State} (runs : (s.lane l).timerRuns = true) (trains : s.training l = true ∨ s.stage l = 1) :
    exec (.trainingTimeout l) s = .next (if s.bit (laneIndex l) 0x03 1 = true ∧ s.bit (laneIndex l) 0x03 2 = true
      then (s.putBit (laneIndex l) 0x03 21 true).laneUp l 7 else (s.giveUp l).scheduleRetry l) := by
  have one : (s.putBit (laneIndex l) 0x03 21 true).bit (laneIndex l) 0x03 1 = s.bit (laneIndex l) 0x03 1 := by
    rw [State.bit_putBit, if_neg (by omega)]
  have two : (s.putBit (laneIndex l) 0x03 21 true).bit (laneIndex l) 0x03 2 = s.bit (laneIndex l) 0x03 2 := by
    rw [State.bit_putBit, if_neg (by omega)]
  change Host.Outcome.next (if _ then _ else _) = _
  rw [if_pos ⟨runs, trains⟩, ← one, ← two]
  rfl

theorem State.giveUp_effect (s : State) (n : Nat) : (s.giveUp n).stage n = 8 ∧ (s.giveUp n).bit (laneIndex n) 0x03 21 = true ∧
    ((s.giveUp n).lane n).timerRuns = false ∧
    SameEntries (fun i j => i = laneIndex n ∧ (j = 0x02 ∨ j = 0x03)) s (s.giveUp n) := by
  refine ⟨State.stage_setStage .., ?_, by rw [State.giveUp, State.lane_setStage, State.lane_setLane_same], ?_⟩
  · rw [State.giveUp, State.bit_setStage, State.bit_setLane, State.showTimeout]
    simp [State.bit_putBit, -State.putBit_eq]
  · have shown : SameEntries (fun i j => i = laneIndex n ∧ (j = 0x02 ∨ j = 0x03)) s (s.showTimeout n) :=
      (((SameEntries.refl _ s).putBit (by decide) (by simp)).putBit (by decide) (by simp)).putBit (by decide) (by simp)
    exact shown.setLane.setStage (by simp) (by simp)

/-- What the retry of a lane writes of its entries: its stage, and the status that follows it. -/
theorem State.retry_same (s : State) (n : Nat) : SameEntries (fun i j => i = laneIndex n ∧ (j = 0x02 ∨ j = 0x03)) s (s.retry n) := by
  unfold State.retry
  dsimp only
  split_ifs
  · exact (SameEntries.refl _ s).setLane.setStage (by simp) (by simp)
  · exact (SameEntries.refl _ s).setLane.setLane
  · exact (SameEntries.refl _ s).setLane

/-- A retry waits no longer: it leads from RETRY_WAIT to stage 1, and a rate-matched lane measures again. -/
theorem State.retry_effect (s : State) (n : Nat) : ((s.retry n).lane n).retryAt = none ∧ (s.stage n = 8 → (s.retry n).stage n = 1) ∧
    (s.stage n = 7 → s.rateOnly n = false → (s.retry n).stage n = 7 ∧ ((s.retry n).lane n).retryRuns = true) := by
  have free : (s.setLane n { s.lane n with retryAt := none }).rateOnly n = s.rateOnly n := rfl
  unfold State.retry
  dsimp only
  rw [free]
  split_ifs with waits measures
  · exact ⟨by simp, fun _ => State.stage_setStage .., fun h => by omega⟩
  · exact ⟨by simp, fun h => absurd h waits, fun h _ => ⟨by simpa using h, by simp⟩⟩
  · exact ⟨by simp, fun h => absurd h waits, fun h only => absurd ⟨h, by simp [only]⟩ measures⟩

/-- Settles O4. -/
theorem laneTimeoutAndRetry : Obligations.LaneTimeoutAndRetry := by
  unfold Obligations.LaneTimeoutAndRetry
  refine ⟨fun l s runs trains => ?timeout, fun l s waits => ?backoff, fun role l s admitted => ?now⟩
  case timeout =>
    have run := exec_trainingTimeout runs trains
    by_cases locked : s.bit (laneIndex l) 0x03 1 = true ∧ s.bit (laneIndex l) 0x03 2 = true
    · rw [if_pos locked] at run
      have below := State.laneIndex_lt l
      obtain ⟨retry, up⟩ := (s.putBit (laneIndex l) 0x03 21 true).lane_laneUp l 7
      refine .of run ⟨?_, by rw [up], fun _ _ => State.stage_laneUp below 7, fun lost => by simp [locked] at lost⟩
      rw [State.bit_laneUp below, State.bit_setStage]
      exact State.bit_putBit_same ..
    · rw [if_neg locked] at run
      obtain ⟨stage, shown, timer, same⟩ := s.giveUp_effect l
      obtain ⟨still, retries, lane⟩ := (s.giveUp l).scheduleRetry_effect l
      have counted : (s.giveUp l).nat (laneIndex l) 0x22 = s.nat (laneIndex l) 0x22 := same.nat (by decide) (by simp)
      have limit : (s.giveUp l).nat (laneIndex l) 0x07 = s.nat (laneIndex l) 0x07 := same.nat (by decide) (by simp)
      have base : (s.giveUp l).nat (laneIndex l) 0x06 = s.nat (laneIndex l) 0x06 := same.nat (by decide) (by simp)
      refine .of run ⟨?_, by rw [lane]; exact timer, fun one two => absurd ⟨one, two⟩ locked, fun _ => ⟨still.trans stage, ?_, ?_⟩⟩
      · rw [((s.giveUp l).scheduleRetry_same l).bit 21 (by decide) (by simp)]
        exact shown
      · rw [retries, counted]
      · rw [lane, State.backoff, counted, limit, base]
        rfl
  case backoff =>
    have run : exec (.backoffExpiry l) s = .next (s.retry l) := congrArg _ (if_pos waits)
    obtain ⟨ended, again, measures⟩ := s.retry_effect l
    exact .of run ⟨ended, again, measures, s.retry_same l, (execBackoffExpiry_only l s (.refl _ s) rfl).of_next run⟩
  case now =>
    have run : exec (.retryNow role l) s = .next ((s.resetRetry l).retry l).done := congrArg _ (State.hostWrite_admitted admitted _)
    have reset : SameEntries (fun i j => i = laneIndex l ∧ (j = 0x02 ∨ j = 0x03 ∨ j = 0x22)) s (s.resetRetry l) :=
      ((SameEntries.refl _ s).setNat (by decide) (by simp)).setLane
    have same := (s.resetRetry l).retry_same l
    obtain ⟨ended, again, -⟩ := (s.resetRetry l).retry_effect l
    refine .of run ⟨rfl, ?_, ended, fun stage => again ?_, (reset.trans (same.mono ?_)).of_regs rfl⟩
    · refine (same.nat (by decide) (by simp)).trans ?_
      simp [State.resetRetry]
    · rw [← stage]
      simp [State.resetRetry]
    · rintro i j ⟨rfl, hj⟩
      exact ⟨rfl, by omega⟩

end Sys2Proof.Machine

namespace Sys2Proof.Machine

/-! ## What a lane loses (03 R63, R65, R79, R85, R86) -/

/-- An event takes live bits among the three away, and leaves their sticky bits. -/
theorem State.loseConditions_status (s : State) (n : Nat) (signal cdr block : Bool) (b : Nat) :
    (s.loseConditions n signal cdr block).bit (laneIndex n) 0x03 b =
      if b = 20 then s.bit (laneIndex n) 0x03 20 || (block && s.bit (laneIndex n) 0x03 2)
      else if b = 19 then s.bit (laneIndex n) 0x03 19 || (cdr && s.bit (laneIndex n) 0x03 1)
      else if b = 18 then s.bit (laneIndex n) 0x03 18 || (signal && s.bit (laneIndex n) 0x03 0)
      else if b = 2 then s.bit (laneIndex n) 0x03 2 && !(block && s.bit (laneIndex n) 0x03 2)
      else if b = 1 then s.bit (laneIndex n) 0x03 1 && !(cdr && s.bit (laneIndex n) 0x03 1)
      else if b = 0 then s.bit (laneIndex n) 0x03 0 && !(signal && s.bit (laneIndex n) 0x03 0)
      else s.bit (laneIndex n) 0x03 b := by
  have counted : ∀ (t : State) (c : Bool), (if c then t.inc32 (laneIndex n) 0x21 else t).bit (laneIndex n) 0x03 b = t.bit (laneIndex n) 0x03 b := by
    intro t c
    split_ifs
    · exact ((SameEntries.refl (fun i j => i = laneIndex n ∧ j = 0x21) t).setNat (by decide) ⟨rfl, rfl⟩).bit b (by decide) (by simp)
    · rfl
  unfold State.loseConditions
  dsimp only
  rw [counted, State.bit_setNat, if_pos rfl]
  simp only [testBit_setBit]
  rfl

theorem State.loseConditions_same (s : State) (n : Nat) (signal cdr block : Bool) :
    SameEntries (fun i j => i = laneIndex n ∧ (j = 0x03 ∨ j = 0x21)) s (s.loseConditions n signal cdr block) ∧
      (s.loseConditions n signal cdr block).lanes = s.lanes := by
  unfold State.loseConditions
  dsimp only
  split_ifs
  · exact ⟨((SameEntries.refl _ s).setNat (by decide) (by simp)).setNat (by decide) (by simp), rfl⟩
  · exact ⟨(SameEntries.refl _ s).setNat (by decide) (by simp), rfl⟩

/-- The checker falls out of sync: its two counts are written, and of its lane that it is in sync. -/
theorem State.dropSync_same (s : State) (n : Nat) : SameEntries (fun i j => i = laneIndex n ∧ (j = 0x1C ∨ j = 0x1D)) s (s.dropSync n) := by
  unfold State.dropSync
  dsimp only
  split_ifs
  · exact .refl _ s
  · exact (((SameEntries.refl _ s).setNat (by decide) (by simp)).setNat (by decide) (by simp)).setLane

theorem State.dropSync_lane (s : State) (n : Nat) : (s.dropSync n).lane n = { s.lane n with checkerSync := false } := by
  unfold State.dropSync
  dsimp only
  split_ifs with out
  · rw [Bool.not_eq_true'] at out
    rw [← out]
  · rw [State.lane_setLane_same]

theorem State.dropSync_other (s : State) {n m : Nat} (apart : n ≠ m) : (s.dropSync n).lane m = s.lane m := by
  unfold State.dropSync
  dsimp only
  split_ifs
  · rfl
  · rw [State.lane_setLane, if_neg apart, State.addSat_eq, State.lane_setReg, State.addSat_eq, State.lane_setReg]

theorem State.dropAdapted_same (s : State) (n : Nat) : SameEntries (fun i j => i = laneIndex n ∧ j = 0x03) s (s.dropAdapted n) :=
  ((SameEntries.refl _ s).putBit (by decide) ⟨rfl, rfl⟩).putBit (by decide) ⟨rfl, rfl⟩

theorem State.dropAdapted_status (s : State) (n b : Nat) : (s.dropAdapted n).bit (laneIndex n) 0x03 b =
    if b = 6 ∨ b = 3 then false else s.bit (laneIndex n) 0x03 b := by
  unfold State.dropAdapted
  rw [State.bit_putBit, State.bit_putBit]
  by_cases six : b = 6
  · simp [six]
  · simp [six]

@[simp] theorem State.dropAdapted_lane (s : State) (n k : Nat) : (s.dropAdapted n).lane k = s.lane k := rfl

/-- What the loss of its lane does to a port marks the lane alone, where it retrains within a bonded port. -/
theorem State.markBond_lane (s : State) (n : Nat) : ∃ lone, (s.markBond n).lane n = { s.lane n with lone := lone } := by
  unfold State.markBond
  split
  · exact ⟨_, rfl⟩
  · split_ifs
    · exact ⟨true, State.lane_setLane_same ..⟩
    · exact ⟨_, rfl⟩

theorem State.lanePortLost_lane (s : State) (n : Nat) : ∃ lone, (s.lanePortLost n).lane n = { s.lane n with lone := lone } := by
  obtain ⟨lone, marked⟩ := s.markBond_lane n
  unfold State.lanePortLost
  split_ifs
  · exact ⟨_, (State.twinLaneDown_only s _ (.refl 0x500160000100000000042 _) rfl).lane_kept (by decide) n⟩
  · split
    · exact ⟨_, rfl⟩
    · split_ifs
      · refine ⟨lone, ((State.raise_only _ _ _ (.refl 0x140000000000000000 _) rfl).lane_kept (by decide) n).trans ?_⟩
        exact ((State.portDown_only _ _ _ (.refl 0x1001507f4040000003f42 _) rfl).lane_kept (by decide) n).trans marked
      · exact ⟨lone, marked⟩

/-- An up lane that is lost leaves its port: its status loses what adaptation gave, and nothing else below 2100h is written. -/
theorem State.leavePort_status (s : State) {n : Nat} (hn : laneIndex n < 0x2100) (b : Nat) : ((s.dropAdapted n).lanePortLost n).bit (laneIndex n) 0x03 b =
    if b = 6 ∨ b = 3 then false else s.bit (laneIndex n) 0x03 b := by
  rw [(State.lanePortLost_low (s.dropAdapted n) n (.refl (B := 0x2100) _) (by decide)).bit _ _ b hn (by decide), State.dropAdapted_status]

/-- Signal has gone: the conditions that rest on it, since when it is absent, and the checker. -/
def State.noteSignalLoss (s : State) (n : Nat) : State :=
  let s := s.loseConditions n true true true
  let s := if (s.lane n).absentSince.isSome then s else s.setLane n { s.lane n with absentSince := some s.now }
  s.dropSync n

theorem State.noteSignalLoss_effect (s : State) (n : Nat) : ((s.noteSignalLoss n).lane n).absentSince.isSome = true ∧
    SameEntries (fun i j => i = laneIndex n ∧ (j = 0x03 ∨ j = 0x21 ∨ j = 0x1C ∨ j = 0x1D)) s (s.noteSignalLoss n) ∧
    ∀ b, (s.noteSignalLoss n).bit (laneIndex n) 0x03 b = (s.loseConditions n true true true).bit (laneIndex n) 0x03 b := by
  obtain ⟨lost, -⟩ := s.loseConditions_same n true true true
  have lost := lost.mono (L := fun i j => i = laneIndex n ∧ (j = 0x03 ∨ j = 0x21 ∨ j = 0x1C ∨ j = 0x1D)) (fun i j h => ⟨h.1, by omega⟩)
  have checked := fun t : State => (t.dropSync_same n).mono (L := fun i j => i = laneIndex n ∧ (j = 0x03 ∨ j = 0x21 ∨ j = 0x1C ∨ j = 0x1D))
    (fun i j h => ⟨h.1, by omega⟩)
  unfold State.noteSignalLoss
  dsimp only
  split_ifs with known
  · exact ⟨by rw [State.dropSync_lane]; exact known, lost.trans (checked _), fun b => (State.dropSync_same _ n).bit b (by decide) (by simp)⟩
  · exact ⟨by rw [State.dropSync_lane, State.lane_setLane_same]; rfl, lost.setLane.trans (checked _),
      fun b => ((State.dropSync_same _ n).bit b (by decide) (by simp)).trans (State.bit_setLane ..)⟩

/-- A lane that loses signal in service or in training returns to stage 1. -/
theorem State.signalLost_effect {s : State} {n : Nat} (hn : laneIndex n < 0x2100) (low : 2 ≤ s.stage n) (high : s.stage n ≤ 7)
    (loud : s.flag (laneIndex n) 0x17 = false) : (s.signalLost n).stage n = 1 ∧ ((s.signalLost n).lane n).absentSince.isSome = true ∧
      ∀ b, b ≠ 4 → b ≠ 5 → b ≠ 7 → b ≠ 8 → (s.signalLost n).bit (laneIndex n) 0x03 b =
        if b = 6 ∨ b = 3 then false else (s.loseConditions n true true true).bit (laneIndex n) 0x03 b := by
  obtain ⟨absent, same, status⟩ := s.noteSignalLoss_effect n
  have still : (s.noteSignalLoss n).stage n = s.stage n := same.stage (by simp)
  have eq : s.signalLost n = if s.stage n = 6 ∨ s.stage n = 7 then
      ((((s.noteSignalLoss n).dropAdapted n).lanePortLost n).setLane n
        { (((s.noteSignalLoss n).dropAdapted n).lanePortLost n).lane n with retryRuns := false, retryAt := none, modeChange := 0 }).setStage n 1
      else ((s.noteSignalLoss n).dropAdapted n).setStage n 1 := by
    change (if s.stage n = 0 ∨ s.flag (laneIndex n) 0x17 = true then s else if s.stage n = 6 ∨ s.stage n = 7 then _ else
      if (s.noteSignalLoss n).training n = true then _ else _) = _
    have trains : (s.noteSignalLoss n).training n = decide (2 ≤ s.stage n ∧ s.stage n ≤ 5) := by unfold State.training; rw [still]
    rw [if_neg (by simp [loud]; omega), trains]
    by_cases up : s.stage n = 6 ∨ s.stage n = 7
    · rw [if_pos up, if_pos up]
      rfl
    · rw [if_neg up, if_neg up, if_pos (by simp; omega)]
      rfl
  rw [eq]
  split_ifs
  · obtain ⟨lone, lane⟩ := ((s.noteSignalLoss n).dropAdapted n).lanePortLost_lane n
    refine ⟨State.stage_setStage .., by rw [State.lane_setStage, State.lane_setLane_same, lane]; exact absent, fun b h4 h5 h7 h8 => ?_⟩
    rw [State.bit_setStage, if_neg h8, if_neg h7, if_neg h5, if_neg h4, State.bit_setLane, State.leavePort_status _ hn, status]
  · refine ⟨State.stage_setStage .., absent, fun b h4 h5 h7 h8 => ?_⟩
    rw [State.bit_setStage, if_neg h8, if_neg h7, if_neg h5, if_neg h4, State.dropAdapted_status, status]

/-- A lane that loses a lock in service or, from stage 3 on, in training goes to stage 2. -/
theorem State.lockLost_effect {s : State} {n : Nat} (kind : LockKind) (hn : laneIndex n < 0x2100) (low : 3 ≤ s.stage n) (high : s.stage n ≤ 7)
    (loud : s.flag (laneIndex n) 0x17 = false) : (s.lockLost n kind).stage n = 2 ∧
      ∀ b, b ≠ 4 → b ≠ 5 → b ≠ 7 → b ≠ 8 → (s.lockLost n kind).bit (laneIndex n) 0x03 b =
        if b = 6 ∨ b = 3 then false else (s.loseConditions n false (decide (kind = .cdr)) true).bit (laneIndex n) 0x03 b := by
  have status : ∀ b, ((s.loseConditions n false (decide (kind = .cdr)) true).dropSync n).bit (laneIndex n) 0x03 b =
      (s.loseConditions n false (decide (kind = .cdr)) true).bit (laneIndex n) 0x03 b :=
    fun b => (State.dropSync_same _ n).bit b (by decide) (by simp)
  have entered : ∀ t : State, (t.enterStage2 n).stage n = 2 ∧
      ∀ b, b ≠ 4 → b ≠ 5 → b ≠ 7 → b ≠ 8 → (t.enterStage2 n).bit (laneIndex n) 0x03 b = t.bit (laneIndex n) 0x03 b := fun t =>
    ⟨State.stage_enterStage2 t hn, fun b h4 h5 h7 h8 => by
      rw [State.bit_enterStage2 t hn, State.bit_setStage, if_neg h8, if_neg h7, if_neg h5, if_neg h4]⟩
  unfold State.lockLost
  dsimp only
  rw [if_neg (by simp [loud]; omega)]
  split_ifs with up trains
  · refine ⟨(entered _).1, fun b h4 h5 h7 h8 => ?_⟩
    rw [(entered _).2 b h4 h5 h7 h8, State.bit_setLane, State.leavePort_status _ hn, status]
  · refine ⟨(entered _).1, fun b h4 h5 h7 h8 => ?_⟩
    rw [(entered _).2 b h4 h5 h7 h8, State.dropAdapted_status, status]
  · omega

/-! ### A step for each of several items

Where each step leaves what is seen of every other item, an item is seen after all of them as after its own step. -/

theorem foldl_unseen {β : Type} {view : State → Nat → β} {f : State → Nat → State} {m : Nat} {l : List Nat} (out : m ∉ l)
    (keeps : ∀ a, ∀ n ∈ l, n ≠ m → view (f a n) m = view a m) (s : State) : view (l.foldl f s) m = view s m := by
  induction l generalizing s with
  | nil => rfl
  | cons n l ih =>
    rw [List.mem_cons, not_or] at out
    obtain ⟨apart, rest⟩ := out
    exact (ih rest (fun a k hk => keeps a k (List.mem_cons_of_mem _ hk)) (f s n)).trans (keeps s n List.mem_cons_self (Ne.symm apart))

theorem foldl_seen {β : Type} {view : State → Nat → β} {f : State → Nat → State} {m : Nat} {l : List Nat} (once : l.Nodup) (mem : m ∈ l)
    (keeps : ∀ a, ∀ n ∈ l, n ≠ m → view (f a n) m = view a m) (s : State) :
    ∃ a, view a m = view s m ∧ view (l.foldl f s) m = view (f a m) m := by
  induction l generalizing s with
  | nil => exact absurd mem List.not_mem_nil
  | cons n l ih =>
    have rest : ∀ a, ∀ k ∈ l, k ≠ m → view (f a k) m = view a m := fun a k hk => keeps a k (List.mem_cons_of_mem _ hk)
    rw [List.nodup_cons] at once
    by_cases first : n = m
    · exact ⟨s, rfl, by rw [first] at once ⊢; exact foldl_unseen once.1 rest (f s m)⟩
    · obtain ⟨a, before, after⟩ := ih once.2 ((List.mem_cons.1 mem).resolve_left (Ne.symm first)) rest (f s n)
      exact ⟨a, before.trans (keeps s n List.mem_cons_self first), after⟩

/-! ### The lane PLL of a cluster -/

/-- What is seen of a lane in the losses and the return of its lane PLL: its stage, its receiver's quiet, and what it holds beside its entries. -/
def State.laneView (s : State) (n : Nat) : Nat × Bool × LaneX := (s.stage n, s.flag (laneIndex n) 0x17, s.lane n)

section View
variable {s t : State} {n m : Nat} (seen : t.laneView n = s.laneView m)
include seen

theorem State.stage_of_view : t.stage n = s.stage m := congrArg Prod.fst seen

theorem State.quiet_of_view : t.flag (laneIndex n) 0x17 = s.flag (laneIndex m) 0x17 := congrArg (fun v => v.2.1) seen

theorem State.lane_of_view : t.lane n = s.lane m := congrArg (fun v => v.2.2) seen

end View

theorem State.laneView_of_same {K : Nat → Nat → Prop} {s t : State} {n m : Nat} (same : SameEntries K s t) (own : ∀ i j, K i j → i = laneIndex n)
    (apart : n ≠ m) (lane : t.lane m = s.lane m) : t.laneView m = s.laneView m := by
  have other : ∀ j, ¬K (laneIndex m) j := fun j h => apart (by simpa [laneIndex] using (own _ _ h).symm)
  unfold State.laneView
  rw [same.stage (other _), same.flag (by decide) (other _), lane]

/-- What a lane whose lane PLL has lost lock loses with it. -/
def State.pllLoses (s : State) (n : Nat) : State := ((s.loseConditions n true true true).dropAdapted n).dropSync n

theorem State.pllLoses_same (s : State) (n : Nat) :
    SameEntries (fun i j => i = laneIndex n ∧ j ≠ 0x02 ∧ j ≠ 0x17) s (s.pllLoses n) := by
  refine (((s.loseConditions_same n true true true).1.mono ?_).trans ((State.dropAdapted_same _ n).mono ?_)).trans
    ((State.dropSync_same _ n).mono ?_)
  all_goals rintro i j ⟨rfl, hj⟩; exact ⟨rfl, by omega, by omega⟩

theorem State.pllLoses_other (s : State) {n m : Nat} (apart : n ≠ m) : (s.pllLoses n).lane m = s.lane m := by
  unfold State.pllLoses
  rw [State.dropSync_other _ apart, State.dropAdapted_lane]
  unfold State.lane
  rw [(s.loseConditions_same n true true true).2]

/-- A lane waits in stage 1 for its lane PLL. -/
def State.awaitPll (s : State) (n : Nat) : State :=
  ((s.endAttempt n).setLane n { (s.endAttempt n).lane n with pllWait := true }).setStage n 1

theorem State.pllLane_eq (s : State) (n : Nat) :
    s.pllLane n = if 1 ≤ s.stage n ∧ s.stage n ≤ 7 then (s.pllLoses n).awaitPll n else s.pllLoses n := rfl

theorem State.awaitPll_effect (s : State) (n : Nat) : (s.awaitPll n).stage n = 1 ∧ ((s.awaitPll n).lane n).pllWait = true := by
  refine ⟨State.stage_setStage .., ?_⟩
  rw [State.awaitPll, State.lane_setStage, State.lane_setLane_same]

theorem State.awaitPll_other (s : State) {n m : Nat} (apart : n ≠ m) : (s.awaitPll n).laneView m = s.laneView m := by
  refine State.laneView_of_same (n := n) (K := fun i j => i = laneIndex n) ?_ (fun i j h => h) apart ?_
  · exact (SameEntries.refl _ _).setLane.setLane.setStage rfl rfl
  · rw [State.awaitPll, State.lane_setStage, State.lane_setLane, if_neg apart, State.endAttempt, State.lane_setLane, if_neg apart]

theorem State.pllLane_other (s : State) {n m : Nat} (apart : n ≠ m) : (s.pllLane n).laneView m = s.laneView m := by
  have loses : (s.pllLoses n).laneView m = s.laneView m := State.laneView_of_same (s.pllLoses_same n) (fun i j h => h.1) apart (s.pllLoses_other apart)
  rw [s.pllLane_eq]
  split_ifs
  · exact (State.awaitPll_other _ apart).trans loses
  · exact loses

/-- The lane PLL of a cluster is known to have lost lock, and its ports are down. -/
def State.pllPorts (s : State) (c : Nat) (lanes : List Nat) : State :=
  lanes.foldl (fun a p => if a.portUp p then a.portDown p 0 else a) (({ s with pllLost := setBit s.pllLost c true } : State).raise (576 + 8 * c) 0)

theorem State.pllPorts_view (s : State) (c : Nat) (lanes : List Nat) {m : Nat} (hm : laneIndex m < 0x2100) :
    (s.pllPorts c lanes).laneView m = s.laneView m ∧ (s.pllPorts c lanes).pllLost = setBit s.pllLost c true := by
  have low : Low 0x2100 s (s.pllPorts c lanes) := by
    refine Low.foldl (fun a p h => .ite (State.portDown_low a p 0 h (by decide)) h) (State.raise_low _ _ _ ((Low.refl s).same rfl))
  have frame : Only (0x1001507f4040000003f42 ||| 0x140000000000000000) { s with pllLost := setBit s.pllLost c true } (s.pllPorts c lanes) := by
    refine Only.foldl (State.raise_only _ _ _ (.refl _ _) (by decide)) fun a p => .ite (State.portDown_only a p 0 (.refl _ a) (by decide)) (.refl _ a)
  refine ⟨?_, frame.pllLost (by decide)⟩
  unfold State.laneView
  rw [low.stage hm, low.flag _ _ hm (by decide), frame.lane_kept (by decide)]
  rfl

/-- The lanes of a cluster. -/
def laneNumbers (c : Nat) : List Nat := (items 4).map (fun i => 4 * c + i)

theorem mem_laneNumbers {c n : Nat} : n ∈ laneNumbers c ↔ n / 4 = c := by
  unfold laneNumbers
  rw [List.mem_map]
  constructor
  · rintro ⟨i, hi, rfl⟩
    have := List.mem_range.1 hi
    omega
  · intro h
    exact ⟨n % 4, List.mem_range.2 (Nat.mod_lt _ (by decide)), by omega⟩

theorem laneNumbers_nodup (c : Nat) : (laneNumbers c).Nodup :=
  List.Nodup.map (fun a b h => by simpa using h) List.nodup_range

/-- A lane in stages 1 to 7 waits in stage 1 for its lane PLL. -/
theorem State.pllLane_waits {s : State} {n : Nat} (low : 1 ≤ s.stage n) (high : s.stage n ≤ 7) :
    (s.pllLane n).stage n = 1 ∧ ((s.pllLane n).lane n).pllWait = true := by
  rw [s.pllLane_eq, if_pos ⟨low, high⟩]
  exact State.awaitPll_effect _ n

theorem exec_lanePllLockLoss {c : ClusterId} {s : State} (locked : s.pllLost.testBit c = false) :
    exec (.lanePllLockLoss c) s = .next ((laneNumbers c).foldl State.pllLane (s.pllPorts c (laneNumbers c))) := by
  change Host.Outcome.next (if s.pllLost.testBit c = true then s else _) = _
  rw [if_neg (by simp [locked])]
  rfl

/-- A lane that waits for its lane PLL goes on with signal. -/
def State.pllReturns (signals : BitVec 4) (c : Nat) (s : State) (i : Nat) : State :=
  let n := 4 * c + i
  if s.stage n = 1 then
    let a := s.setLane n { s.lane n with pllWait := false }
    if signals.getLsbD i ∧ !a.flag (laneIndex n) 0x17 then (a.putBit (laneIndex n) 0x03 0 true).enterStage2 n else a
  else s

theorem exec_lanePllRelock {c : ClusterId} {signals : BitVec 4} {s : State} (lost : s.pllLost.testBit c = true) :
    exec (.lanePllRelock c signals) s = .next ((items 4).foldl (State.pllReturns signals c) { s with pllLost := setBit s.pllLost c false }) := by
  change Host.Outcome.next (if (!s.pllLost.testBit c) = true then s else _) = _
  rw [if_neg (by simp [lost])]
  rfl

theorem State.pllReturns_effect {signals : BitVec 4} {c i : Nat} {s : State} (below : laneIndex (4 * c + i) < 0x2100) (waits : s.stage (4 * c + i) = 1)
    (loud : s.flag (laneIndex (4 * c + i)) 0x17 = false) : ((s.pllReturns signals c i).lane (4 * c + i)).pllWait = false ∧
      (s.pllReturns signals c i).stage (4 * c + i) = if signals.getLsbD i then 2 else 1 := by
  have quiet : (s.setLane (4 * c + i) { s.lane (4 * c + i) with pllWait := false }).flag (laneIndex (4 * c + i)) 0x17 = false := loud
  unfold State.pllReturns
  dsimp only
  rw [if_pos waits, quiet]
  by_cases signal : signals.getLsbD i = true
  · rw [if_pos ⟨signal, rfl⟩, if_pos signal]
    obtain ⟨inverted, lane⟩ := State.lane_enterStage2
      ((s.setLane (4 * c + i) { s.lane (4 * c + i) with pllWait := false }).putBit (laneIndex (4 * c + i)) 0x03 0 true) (4 * c + i)
    exact ⟨by rw [lane], State.stage_enterStage2 _ below⟩
  · rw [if_neg (fun h => signal h.1), if_neg signal]
    exact ⟨by rw [State.lane_setLane_same], waits⟩

theorem State.enterStage2_view (s : State) {n m : Nat} (apart : n ≠ m) (hm : laneIndex m < 0x2100) : (s.enterStage2 n).laneView m = s.laneView m := by
  have staged : (s.setStage n 2).laneView m = s.laneView m :=
    State.laneView_of_same (n := n) (K := fun i j => i = laneIndex n) ((SameEntries.refl _ s).setStage rfl rfl) (fun i j h => h) apart rfl
  rw [← staged]
  unfold State.laneView State.stage State.nat State.flag
  rw [s.enterStage2_reg n (by omega) (by decide), s.enterStage2_reg n (by omega) (by decide), s.enterStage2_other apart, State.lane_setStage]

theorem State.pllReturns_other (signals : BitVec 4) (c : Nat) (s : State) {i k : Nat} (apart : i ≠ k) (hk : laneIndex (4 * c + k) < 0x2100) :
    (s.pllReturns signals c i).laneView (4 * c + k) = s.laneView (4 * c + k) := by
  have distinct : 4 * c + i ≠ 4 * c + k := by omega
  have freed : (s.setLane (4 * c + i) { s.lane (4 * c + i) with pllWait := false }).laneView (4 * c + k) = s.laneView (4 * c + k) := by
    unfold State.laneView
    rw [State.lane_setLane, if_neg distinct]
    rfl
  unfold State.pllReturns
  dsimp only
  split_ifs
  · rw [State.enterStage2_view _ distinct hk, ← freed]
    exact State.laneView_of_same (n := 4 * c + i) (K := fun i' j => i' = laneIndex (4 * c + i)) ((SameEntries.refl _ _).putBit (by decide) rfl)
      (fun i j h => h) distinct rfl
  · exact freed
  · rfl

theorem State.pllReturns_pllLost (signals : BitVec 4) (c i : Nat) (s : State) : (s.pllReturns signals c i).pllLost = s.pllLost := by
  unfold State.pllReturns
  dsimp only
  split_ifs
  · exact (State.enterStage2_only _ _ (.refl 0x10000000000000086 _) rfl).pllLost (by decide)
  · rfl
  · rfl

/-- A lane of the cluster is seen after the return of its lane PLL as its own step leaves it. -/
theorem State.pllReturns_seen (signals : BitVec 4) (c : Nat) {k : Nat} (hk : k < 4) (below : laneIndex (4 * c + k) < 0x2100) (s : State) :
    ∃ a : State, a.laneView (4 * c + k) = s.laneView (4 * c + k) ∧
      ((items 4).foldl (State.pllReturns signals c) s).laneView (4 * c + k) = (a.pllReturns signals c k).laneView (4 * c + k) :=
  foldl_seen (view := fun t i => t.laneView (4 * c + i)) List.nodup_range (List.mem_range.2 hk)
    (fun a _ _ apart => State.pllReturns_other signals c a apart below) s

theorem State.pllReturns_fold_pllLost (signals : BitVec 4) (c : Nat) (l : List Nat) (s : State) :
    (l.foldl (State.pllReturns signals c) s).pllLost = s.pllLost := by
  induction l generalizing s with
  | nil => rfl
  | cons i l ih => exact (ih _).trans (State.pllReturns_pllLost ..)

/-- Settles O5. -/
theorem laneLossReturnsStage : Obligations.LaneLossReturnsStage := by
  unfold Obligations.LaneLossReturnsStage
  refine ⟨fun l s low high loud => ?signal, fun l kind s low high loud => ?lock, fun c s locked => ?pll, fun c signals s lost => ?relock⟩
  case signal =>
    obtain ⟨stage, absent, status⟩ := State.signalLost_effect (State.laneIndex_lt l) low high loud
    refine .of (rfl : exec (.signalLoss l) s = .next (s.signalLost l)) ⟨stage, absent, fun b hb => ?_, fun b hb set => ?_⟩
    · rw [status b (by omega) (by omega) (by omega) (by omega), State.loseConditions_status]
      interval_cases b <;> simp
    · rw [status (18 + b) (by omega) (by omega) (by omega) (by omega), State.loseConditions_status]
      interval_cases b <;> simp [set]
  case lock =>
    obtain ⟨stage, status⟩ := State.lockLost_effect kind (State.laneIndex_lt l) low high loud
    refine .of (rfl : exec (.laneLockLoss l kind) s = .next (s.lockLost l kind)) ⟨stage, ?_, ?_, ?_, fun cdr => ?_, fun set => ?_⟩
    all_goals rw [status _ (by decide) (by decide) (by decide) (by decide), State.loseConditions_status]
    · simp
    · simp
    · simp
    · simp [cdr]
    · simp [set]
  case pll =>
    have inCluster : ∀ {n : Nat}, n / 4 = c.val → laneIndex n < 0x2100 := fun {n} h => by
      have := c.isLt
      simp only [laneIndex]
      omega
    have other : ∀ (m : Nat) (a : State), ∀ n ∈ laneNumbers c, n ≠ m → (a.pllLane n).laneView m = a.laneView m := fun m a n _ apart => a.pllLane_other apart
    have kept : ∀ t : State, ((laneNumbers c).foldl State.pllLane t).pllLost = t.pllLost := fun t =>
      (Only.foldl (.refl 0x82 t) fun a n => State.pllLane_only a n (.refl _ a) rfl).pllLost (by decide)
    have lostBits : ((laneNumbers c).foldl State.pllLane (s.pllPorts c (laneNumbers c))).pllLost = setBit s.pllLost c true :=
      (kept _).trans (s.pllPorts_view c _ (m := 0) (by decide)).2
    refine .of (exec_lanePllLockLoss locked) ⟨?_, fun d apart => ?_, fun i hi low high => ?_, fun n hn apart => ?_⟩
    · rw [lostBits, testBit_setBit, if_pos rfl]
    · rw [lostBits, testBit_setBit, if_neg apart]
    · have inside : (4 * c.val + i) / 4 = c.val := by omega
      obtain ⟨a, before, after⟩ := foldl_seen (view := State.laneView) (laneNumbers_nodup c) (mem_laneNumbers.2 inside) (other _)
        (s.pllPorts c (laneNumbers c))
      have stage : a.stage (4 * c + i) = s.stage (4 * c + i) :=
        State.stage_of_view (before.trans (s.pllPorts_view c _ (inCluster inside)).1)
      obtain ⟨one, waits⟩ := State.pllLane_waits (s := a) (n := 4 * c + i) (by omega) (by omega)
      exact ⟨(State.stage_of_view after).trans one, (congrArg LaneX.pllWait (State.lane_of_view after)).trans waits⟩
    · have out : n ∉ laneNumbers c := fun h => apart (mem_laneNumbers.1 h)
      have unseen := foldl_unseen (view := State.laneView) out (other n) (s.pllPorts c (laneNumbers c))
      exact State.stage_of_view (unseen.trans (s.pllPorts_view c _ (by simp only [laneIndex]; omega)).1)
  case relock =>
    have below : ∀ {i : Nat}, i < 4 → laneIndex (4 * c.val + i) < 0x2100 := fun {i} h => by
      have := c.isLt
      simp only [laneIndex]
      omega
    refine .of (exec_lanePllRelock lost) ⟨?_, fun i hi waits loud => ?_⟩
    · rw [State.pllReturns_fold_pllLost]
      show (setBit s.pllLost c false).testBit c = false
      rw [testBit_setBit, if_pos rfl]
    · obtain ⟨a, before, after⟩ := State.pllReturns_seen signals c hi (below hi) { s with pllLost := setBit s.pllLost c false }
      obtain ⟨free, stage⟩ := State.pllReturns_effect (signals := signals) (s := a) (below hi) ((State.stage_of_view before).trans waits)
        ((State.quiet_of_view before).trans loud)
      exact ⟨(congrArg LaneX.pllWait (State.lane_of_view after)).trans free, (State.stage_of_view after).trans stage⟩

end Sys2Proof.Machine

namespace Sys2Proof.Machine

/-! ## Lane adaptation: re-adapt, figure of merit, re-deskew (03 R74, R76, R77, R80) -/

theorem State.startAdapt_lane (s : State) (n : Nat) : ((s.startAdapt n).lane n).attempt = (s.lane n).attempt := by
  unfold State.startAdapt
  dsimp only
  split_ifs
  all_goals rw [State.lane_setLane_same]

/-- What a re-adaptation takes from its lane, before adaptation starts anew. -/
def State.dropForReAdapt (s : State) (n : Nat) : State := (((s.lanePortDown n).dropAdapted n).makeStale n).startAdapt n

theorem State.dropForReAdapt_adapted (s : State) {n : Nat} (hn : laneIndex n < 0x2100) : (s.dropForReAdapt n).bit (laneIndex n) 0x03 3 = false := by
  obtain ⟨-, -, adapt⟩ := State.startAdapt_keeps (((s.lanePortDown n).dropAdapted n).makeStale n) n
  unfold State.dropForReAdapt
  rw [adapt.bit 3 (by decide) (by simp), (State.makeStale_low _ n (.refl (B := 0x2100) _) (by decide)).bit _ _ 3 hn (by decide),
    State.dropAdapted_status, if_pos (.inr rfl)]

theorem State.reAdapt_up {s : State} {n : Nat} (hn : laneIndex n < 0x2100) (up : s.stage n = 6 ∨ s.stage n = 7) :
    (s.reAdapt n).stage n = 4 ∧ ((s.reAdapt n).lane n).attempt = true ∧ (s.reAdapt n).bit (laneIndex n) 0x03 3 = false := by
  have eq : s.reAdapt n = (((s.dropForReAdapt n).setLane n { (s.dropForReAdapt n).lane n with
      attempt := true, timerRuns := !(s.dropForReAdapt n).flag (laneIndex n) 0x17, retryRuns := false, retryAt := none, modeChange := 0 }).setStage n 4) := by
    unfold State.reAdapt
    rw [if_pos up]
    rfl
  rw [eq]
  refine ⟨State.stage_setStage .., by rw [State.lane_setStage, State.lane_setLane_same], ?_⟩
  rw [State.bit_setStage, State.bit_setLane]
  exact s.dropForReAdapt_adapted hn

/-- What the figure of merit of an up lane makes of its warning level. -/
def State.judgeMerit (s : State) (n v : Nat) : State :=
  if v + s.nat (laneIndex n) 0x12 < s.adaptThreshold n then (s.putBit (laneIndex n) 0x03 6 true).putBit (laneIndex n) 0x03 23 true
  else if s.adaptThreshold n ≤ v then s.putBit (laneIndex n) 0x03 6 false
  else s

theorem State.adaptLive_same (s : State) (n : Nat) : (s.adaptLive n).regs = s.regs :=
  (State.adaptLive_only s n (.refl partLanes s) rfl).regs rfl

theorem exec_fomMeasurement {l : LaneId} {h a : Nat} {s : State} (measured : 0 < a) (stage : 3 ≤ s.stage l) :
    exec (.fomMeasurement l h a) s = .next (
      let t := s.setNat (laneIndex l) 0x0F (figureOfMerit h a)
      if s.stage l = 6 ∨ s.stage l = 7 then (t.adaptLive l).judgeMerit l (figureOfMerit h a) else t) := by
  have noted : (s.setNat (laneIndex l) 0x0F (figureOfMerit h a)).stage l = s.stage l := by simp
  have live : ((s.setNat (laneIndex l) 0x0F (figureOfMerit h a)).adaptLive l).stage l = s.stage l := by
    unfold State.stage State.nat State.reg at noted ⊢
    rw [State.adaptLive_same, noted]
  have threshold : ((s.setNat (laneIndex l) 0x0F (figureOfMerit h a)).adaptLive l).adaptThreshold l =
      (s.setNat (laneIndex l) 0x0F (figureOfMerit h a)).adaptThreshold l := by
    unfold State.adaptThreshold State.nat State.reg
    rw [State.adaptLive_same]
  change Host.Outcome.next (if a = 0 ∨ s.stage l < 3 then s else _) = _
  rw [if_neg (by omega)]
  by_cases up : s.stage l = 6 ∨ s.stage l = 7
  · dsimp only
    rw [noted, if_pos up, live, if_neg (by rcases up with up | up <;> simp [up]), if_pos up, State.judgeMerit, threshold]
  · dsimp only
    rw [noted, if_neg up, noted, if_pos (by simpa using up), if_neg up]

theorem State.judgeMerit_same (s : State) (n v : Nat) : SameEntries (fun i j => i = laneIndex n ∧ j = 0x03) s (s.judgeMerit n v) := by
  unfold State.judgeMerit
  split_ifs
  · exact ((SameEntries.refl _ s).putBit (by decide) ⟨rfl, rfl⟩).putBit (by decide) ⟨rfl, rfl⟩
  · exact (SameEntries.refl _ s).putBit (by decide) ⟨rfl, rfl⟩
  · exact .refl _ s

theorem State.timingChange_low (s : State) (p : Nat) (on : Prop) [Decidable on] {B : Nat} (cap : B ≤ 0x2200) :
    Low B s (if on then s.timingOn p else s.timingOff p) :=
  .ite (State.timingOn_low s p (.refl s) cap) (State.timingOff_low s p (.refl s) cap)

/-- The port that is up by its lanes, before what rests on it follows. -/
def State.raisePort (s : State) (p st : Nat) : State :=
  (s.setNat (0x2100 + p) 0x03 st).setPort p { (s.setNat (0x2100 + p) 0x03 st).port p with
    bondWait := false
    reDeskew := false
    fecSince := if (s.setNat (0x2100 + p) 0x03 st).runsFec p then some s.now else none
    negotiated := (s.setNat (0x2100 + p) 0x03 st).mode p == 1 && (s.setNat (0x2100 + p) 0x03 st).flag (0x2100 + p) 0x05 }

theorem State.portUpAs_eq (s : State) (p st : Nat) : s.portUpAs p st =
    ((if st = 1 then (s.raisePort p st).timingOn p else (s.raisePort p st).timingOff p).refsUpdate).calibrateNext (p / 4) := rfl

/-- What follows a port that comes up writes no entry below 2200h, and no port. -/
theorem State.portUpAs_follows (s : State) (p st : Nat) : Low 0x2200 (s.raisePort p st) (s.portUpAs p st) := by
  rw [s.portUpAs_eq]
  exact State.calibrateNext_low _ _ (State.refsUpdate_low _ (State.timingChange_low _ p _ (by decide)) (by decide)) (by decide)

theorem State.portUpAs_port (s : State) (p st q : Nat) : (s.portUpAs p st).port q = (s.raisePort p st).port q := by
  have frame : Only 0x1001407f4040000000242 (s.raisePort p st) (s.portUpAs p st) := by
    rw [s.portUpAs_eq]
    exact State.calibrateNext_only _ _ (State.refsUpdate_only _
      (.ite (State.timingOn_only _ p (.refl _ _) rfl) (State.timingOff_only _ p (.refl _ _) rfl)) rfl) rfl
  exact frame.port_kept (by decide) q

theorem State.portUpAs_effect (s : State) {p : Nat} (st : Nat) (hp : p < 96) : (s.portUpAs p st).nat (0x2100 + p) 0x03 = st ∧
    ((s.portUpAs p st).port p).bondWait = false ∧ ((s.portUpAs p st).port p).deskewPs = (s.port p).deskewPs := by
  rw [State.portUpAs_port, (s.portUpAs_follows p st).nat _ _ (by omega) (by decide), State.raisePort, State.port_setPort_same]
  exact ⟨State.nat_setNat_same .., rfl, rfl⟩

/-- Settles O6. -/
theorem laneAdaptationIsJudged : Obligations.LaneAdaptationIsJudged := by
  unfold Obligations.LaneAdaptationIsJudged
  refine ⟨fun role l s admitted => ?reAdapt, fun l h a s measured stage => ?merit, fun p deskewPs s st lanes waits free => ?reDeskew⟩
  case reAdapt =>
    have run : exec (.reAdapt role l) s = .next (s.reAdapt l).done := congrArg _ (State.hostWrite_admitted admitted _)
    by_cases up : s.stage l = 6 ∨ s.stage l = 7
    · obtain ⟨stage, attempt, adapted⟩ := State.reAdapt_up (State.laneIndex_lt l) up
      exact .of run ⟨rfl, by rw [if_pos up]; exact stage, fun _ => ⟨attempt, adapted⟩, fun six seven => by omega⟩
    · have none : s.reAdapt l = s := if_neg up
      rw [none] at run
      exact .of run ⟨rfl, by rw [if_neg up]; rfl, fun h => absurd h up, fun _ _ => State.done_only s (.refl _ s) rfl⟩
  case merit =>
    have run := exec_fomMeasurement (h := h) measured stage
    have frame := (execFomMeasurement_only l h a s (.refl (partRegs ||| partLanes) s) rfl).of_next run
    have noted : SameEntries (fun i j => i = laneIndex l ∧ (j = 0x03 ∨ j = 0x0F)) s (s.setNat (laneIndex l) 0x0F (figureOfMerit h a)) :=
      (SameEntries.refl _ s).setNat (by decide) (by simp)
    have live : SameEntries (fun i j => i = laneIndex l ∧ (j = 0x03 ∨ j = 0x0F)) s ((s.setNat (laneIndex l) 0x0F (figureOfMerit h a)).adaptLive l) :=
      noted.of_regs (State.adaptLive_same ..)
    have merit : ((s.setNat (laneIndex l) 0x0F (figureOfMerit h a)).adaptLive l).nat (laneIndex l) 0x0F = figureOfMerit h a :=
      (State.nat_of_regs (State.adaptLive_same ..) _ _).trans (State.nat_setNat_same ..)
    have margin : ((s.setNat (laneIndex l) 0x0F (figureOfMerit h a)).adaptLive l).nat (laneIndex l) 0x12 = s.nat (laneIndex l) 0x12 :=
      live.nat (by decide) (by simp)
    have threshold : ((s.setNat (laneIndex l) 0x0F (figureOfMerit h a)).adaptLive l).adaptThreshold l = s.adaptThreshold l := by
      unfold State.adaptThreshold
      rw [live.nat (by decide) (by simp), live.nat (by decide) (by simp), live.nat (by decide) (by simp)]
    by_cases up : s.stage l = 6 ∨ s.stage l = 7
    · dsimp only at run
      rw [if_pos up] at run frame
      have judged := ((s.setNat (laneIndex l) 0x0F (figureOfMerit h a)).adaptLive l).judgeMerit_same l (figureOfMerit h a)
      refine .of run ⟨(judged.nat (by decide) (by simp)).trans merit, fun _ low => ?_, fun _ high => ?_, live.trans (judged.mono ?_), frame,
        fun down => absurd up (by omega)⟩
      · have warned : figureOfMerit h a + s.nat (laneIndex l) 0x12 < s.adaptThreshold l := low
        rw [State.judgeMerit, margin, threshold, if_pos warned]
        exact ⟨by rw [State.bit_putBit, if_neg (by omega)]; exact State.bit_putBit_same .., State.bit_putBit_same ..⟩
      · have reached : s.adaptThreshold l ≤ figureOfMerit h a := high
        rw [State.judgeMerit, margin, threshold, if_neg (by omega), if_pos reached]
        exact State.bit_putBit_same ..
      · rintro i j ⟨rfl, rfl⟩; simp
    · dsimp only at run
      rw [if_neg up] at run frame
      exact .of run ⟨State.nat_setNat_same .., fun h => absurd h up, fun h => absurd h up, noted, frame,
        fun _ => State.setNat_only _ _ _ _ (.refl _ s) rfl⟩
  case reDeskew =>
    have run : exec (.reDeskewComplete p deskewPs) s = .next ((s.setPort p { s.port p with deskewPs := deskewPs }).portUpAs p st) := by
      change Host.Outcome.next (if _ then _ else _) = _
      rw [if_pos ⟨waits, free⟩, lanes]
    obtain ⟨state, bond, deskew⟩ := State.portUpAs_effect (s.setPort p { s.port p with deskewPs := deskewPs }) st p.isLt
    exact .of run ⟨by rw [deskew, State.port_setPort_same], bond, state⟩

end Sys2Proof.Machine

namespace Sys2Proof.Machine

/-! ## Lane quieting, transmit and receive (03 R78) -/

/-- What quieting the receiver of a lane in service or in training takes from it. -/
def State.quietLane (s : State) (n : Nat) : State :=
  ((((((s.lanePortDown n).putBit (laneIndex n) 0x03 0 false).putBit (laneIndex n) 0x03 1 false).putBit (laneIndex n) 0x03 2 false).endAttempt
    n).dropAdapted n).setStage n 1

/-- The write of the quieting of a receiver: its checker falls out of sync first. -/
def State.writeQuiet (s : State) (n : Nat) (on : Bool) : State := (if on then s.dropSync n else s).setNat (laneIndex n) 0x17 (ofBool on)

theorem State.quietReceive_eq (s : State) (n : Nat) (on : Bool) : s.quietReceive n on =
    if on = true ∧ 2 ≤ (s.writeQuiet n on).stage n ∧ (s.writeQuiet n on).stage n ≤ 7 then (s.writeQuiet n on).quietLane n
    else s.writeQuiet n on := rfl

theorem State.writeQuiet_effect (s : State) (n : Nat) (on : Bool) : (s.writeQuiet n on).stage n = s.stage n ∧
    (s.writeQuiet n on).flag (laneIndex n) 0x17 = on ∧ (s.writeQuiet n on).nat (laneIndex n) 0x21 = s.nat (laneIndex n) 0x21 := by
  have same : SameEntries (fun i j => i = laneIndex n ∧ (j = 0x1C ∨ j = 0x1D)) s (if on then s.dropSync n else s) := by
    split_ifs
    · exact s.dropSync_same n
    · exact .refl _ s
  unfold State.writeQuiet
  refine ⟨?_, ?_, ?_⟩
  · rw [← same.stage (n := n) (by simp)]
    simp
  · cases on <;> simp [ofBool]
  · rw [← same.nat (i := laneIndex n) (j := 0x21) (by decide) (by simp)]
    simp

/-- Quieting a receiver writes no entry of its lane but its stage and its status. -/
theorem State.quietLane_reg (s : State) {n j : Nat} (hn : laneIndex n < 0x2100) (hj : j < 256) (stage : j ≠ 0x02) (status : j ≠ 0x03) :
    (s.quietLane n).reg (laneIndex n) j = s.reg (laneIndex n) j := by
  have same : SameEntries (fun i j => i = laneIndex n ∧ (j = 0x02 ∨ j = 0x03)) (s.lanePortDown n) (s.quietLane n) :=
    ((((((SameEntries.refl _ _).putBit (by decide) (by simp)).putBit (by decide) (by simp)).putBit (by decide) (by simp)).setLane.trans
      ((State.dropAdapted_same _ n).mono (by rintro i j ⟨rfl, rfl⟩; simp))).setStage (by simp) (by simp))
  rw [same _ _ hj (by simp [stage, status]), (State.lanePortDown_low s n (.refl (B := 0x2100) s) (by decide)).reg _ _ hn hj]

theorem State.stage_quietLane (s : State) (n : Nat) : (s.quietLane n).stage n = 1 := State.stage_setStage ..

theorem SameEntries.done {K : Nat → Nat → Prop} {s t : State} (a : SameEntries K s t) : SameEntries K s t.done := a.of_regs rfl

@[simp] theorem State.reg_done (s : State) (i j : Nat) : s.done.reg i j = s.reg i j := rfl

@[simp] theorem State.nat_done (s : State) (i j : Nat) : s.done.nat i j = s.nat i j := rfl

@[simp] theorem State.flag_done (s : State) (i j : Nat) : s.done.flag i j = s.flag i j := rfl

@[simp] theorem State.bit_done (s : State) (i j k : Nat) : s.done.bit i j k = s.bit i j k := rfl

@[simp] theorem State.stage_done (s : State) (n : Nat) : s.done.stage n = s.stage n := rfl

theorem exec_quietReceive {role : Role} {l : LaneId} {on : Bool} {s : State} (admitted : s.admits role (laneIndex l) 0x17) :
    exec (.quietReceive role l on) s = .next (s.quietReceive l on).done := congrArg _ (State.hostWrite_admitted admitted _)

theorem exec_quietTransmit {role : Role} {l : LaneId} {mode : Fin 3} {s : State} (admitted : s.admits role (laneIndex l) 0x16) :
    exec (.quietTransmit role l mode) s = .next (s.quietTransmit l mode).done := congrArg _ (State.hostWrite_admitted admitted _)

/-- What follows the quieting of a transmitter at its port writes no entry of a lane. -/
theorem State.quietTransmit_low (s : State) (n mode : Nat) : Low 0x2100 (s.setNat (laneIndex n) 0x16 mode) (s.quietTransmit n mode) := by
  unfold State.quietTransmit
  dsimp only
  split_ifs
  · exact State.lanePortDown_low _ _ (.refl _) (by decide)
  · split
    · exact State.judgePort_low _ _ (.refl _) (by decide)
    · exact .refl _

/-- Settles O7. -/
theorem laneQuietingKeepsOrLeavesStage : Obligations.LaneQuietingKeepsOrLeavesStage := by
  unfold Obligations.LaneQuietingKeepsOrLeavesStage
  refine ⟨fun role l mode s admitted => ?transmit, fun role l on s admitted => ?receive⟩
  all_goals have below := State.laneIndex_lt l
  case transmit =>
    have low := s.quietTransmit_low l mode
    refine .of (exec_quietTransmit admitted) ⟨rfl, (low.nat _ _ below (by decide)).trans (State.nat_setNat_same ..), (low.stage below).trans ?_⟩
    simp
  case receive =>
    obtain ⟨stage, quiet, lost⟩ := s.writeQuiet_effect l on
    have run := exec_quietReceive (on := on) admitted
    rw [s.quietReceive_eq, stage] at run
    by_cases leaves : on = true ∧ 2 ≤ s.stage l ∧ s.stage l ≤ 7
    · rw [if_pos leaves] at run
      have kept : ∀ j, j < 256 → j ≠ 0x02 → j ≠ 0x03 → ((s.writeQuiet l on).quietLane l).reg (laneIndex l) j = (s.writeQuiet l on).reg (laneIndex l) j :=
        fun j hj => State.quietLane_reg _ below hj
      have quieted : ((s.writeQuiet l on).quietLane l).flag (laneIndex l) 0x17 = on :=
        (congrArg (fun v : Int => decide (v ≠ 0)) (kept 0x17 (by decide) (by decide) (by decide))).trans quiet
      have counted : ((s.writeQuiet l on).quietLane l).nat (laneIndex l) 0x21 = s.nat (laneIndex l) 0x21 :=
        (congrArg Int.toNat (kept 0x21 (by decide) (by decide) (by decide))).trans lost
      refine .of run ⟨rfl, ?_, ?_, ?_⟩
      · rw [State.flag_done, quieted]
      · rw [State.nat_done, counted]
      · rw [State.stage_done, State.stage_quietLane, if_pos leaves]
    · rw [if_neg leaves] at run
      exact .of run ⟨rfl, quiet, lost, by rw [if_neg leaves]; exact stage⟩

end Sys2Proof.Machine

namespace Sys2Proof.Machine

/-! ## Test functions of a lane (03 R81, R83, R84) -/

theorem State.fecStop_lowMode {B : Nat} {origin : State} (s : State) (p : Nat) (low : Low B origin s) (cap : B ≤ 0x2200) : Low B origin (s.fecStop p) :=
  (State.setNat_low _ _ _ _ (State.setNat_low _ _ _ _ low (by omega)) (by omega)).same rfl

/-- What an up port that goes down ends: its frames, its queues, its timing, its calibrations and what is selected through it. -/
def State.endPort (s : State) (p : Nat) : State :=
  (((s.portLanes p).foldl (fun a l => a.abandonLane l) s).refsUpdate).calibrateNext (p / 4)

theorem State.endPort_low {B : Nat} {origin : State} (s : State) (p : Nat) (low : Low B origin s) (cap : B ≤ 0x2200) : Low B origin (s.endPort p) :=
  State.calibrateNext_low _ _ (State.refsUpdate_low _ (Low.foldl (fun a l h => State.abandonLane_low a l h cap) low) cap) cap

/-- A port in its new state. -/
def State.portOff (s : State) (p st : Nat) : State :=
  ((s.holdBuffer p).setNat (0x2100 + p) 0x03 st).setPort p { ((s.holdBuffer p).setNat (0x2100 + p) 0x03 st).port p with reDeskew := false }

theorem State.portDown_eq (s : State) (p st : Nat) : s.portDown p st = if s.portUp p then
    (((((((s.portOff p st).inc64 (0x2200 + p) 0x10).fecStop p).abortRx p).queuesDown p).timingOff p).endPort p) else s.portOff p st := rfl

/-- A port that goes down keeps its mode, and so do the others. -/
theorem State.mode_portDown (s : State) (p st q : Nat) (hq : q < 0x100) : (s.portDown p st).mode q = s.mode q := by
  have held : (s.holdBuffer p).mode q = s.mode q := (State.holdBuffer_low s p (.refl (B := 0x2200) s)).nat _ _ (by omega) (by decide)
  have off : (s.portOff p st).mode q = s.mode q := by
    rw [← held]
    exact (State.mode_setReg_at _ _ (by decide) q).trans (if_neg (by omega))
  have low : Low 0x2200 (s.portOff p st) (s.portDown p st) := by
    rw [State.portDown_eq]
    refine .ite (State.endPort_low _ _ (State.timingOff_low _ _ (State.queuesDown_low _ _ (State.abortRx_low _ _ (State.fecStop_lowMode _ _
      (State.inc64_low _ _ _ (.refl _) ?_) ?_) ?_) ?_) ?_) ?_) (.refl _)
    all_goals omega
  exact (low.nat _ _ (by omega) (by decide)).trans off

theorem State.sisters_congr {s t : State} (n : Nat) (same : ∀ p < 0x100, t.mode p = s.mode p) : t.sisters n = s.sisters n := by
  have own : t.ownPort n = s.ownPort n := by
    unfold State.ownPort
    by_cases high : 96 ≤ n
    · rw [if_pos high, if_pos high]
    · rw [same n (by omega), same (4 * (n / 4)) (by omega), same (2 * (n / 2)) (by omega)]
  unfold State.sisters
  rw [own]
  split
  · next p found => unfold State.portLanes; rw [same p (by have := State.ownPort_lt found; omega)]
  · rfl

theorem modeLanes_le (m : Nat) : modeLanes m ≤ 4 := by
  unfold modeLanes
  split <;> omega

/-- The lanes of a port are lanes of the device. -/
theorem State.laneIndex_sister {s : State} {n m : Nat} (hn : n < 100) (mem : m ∈ s.sisters n) : laneIndex m < 0x2100 := by
  unfold State.sisters at mem
  simp only [laneIndex]
  split at mem
  · next p found =>
    obtain ⟨k, hk, rfl⟩ := List.mem_map.1 mem
    have := List.mem_range.1 hk
    have := modeLanes_le (s.mode p)
    have := State.ownPort_lt found
    omega
  · rw [List.mem_singleton.1 mem]
    omega

/-- A lane is among the lanes of its port, unless that has none. -/
theorem State.mem_sisters {s : State} {n m : Nat} (mem : m ∈ s.sisters n) : n ∈ s.sisters n := by
  unfold State.sisters at mem ⊢
  split at mem
  · next p found =>
    obtain ⟨k, hk, -⟩ := List.mem_map.1 mem
    have hk := List.mem_range.1 hk
    refine List.mem_map.2 ⟨n - p, List.mem_range.2 ?_, ?_⟩ <;> unfold State.ownPort at found <;>
      split_ifs at found with _ four two <;> simp only [Option.some.injEq] at found <;> subst found
    · rw [four]; simp only [modeLanes]; omega
    · rw [two]; simp only [modeLanes]; omega
    · omega
    · omega
    · omega
    · omega
  · simp

/-- A fold over items reaches what one item's own step brings about, where every other step keeps it. -/
theorem foldl_attains {α β : Type} {f : α → β → α} {Before After : α → Prop} {x : β} {l : List β} (mem : x ∈ l)
    (step : ∀ a, Before a → After (f a x)) (before : ∀ a y, y ∈ l → Before a → Before (f a y)) (after : ∀ a y, y ∈ l → After a → After (f a y))
    {a : α} (start : Before a) : After (l.foldl f a) := by
  obtain ⟨l₁, l₂, rfl⟩ := List.append_of_mem mem
  rw [List.foldl_append, List.foldl_cons]
  refine List.foldlRecOn (motive := After) l₂ f (step _ ?_) fun a kept y hy => after a y (by simp [hy]) kept
  exact List.foldlRecOn (motive := Before) l₁ f start fun a kept y hy => before a y (by simp [hy]) kept

/-! ### Entering and leaving stage 9 -/

/-- What is abandoned as a lane enters stage 9: the link of a twin lane, the calibration of another. -/
def State.endLink (s : State) (n : Nat) : State := if 96 ≤ n then s.twinLaneDown (n - 96) else s.abandonLane n

theorem State.enterTest_eq (s : State) (n : Nat) : s.enterTest n =
    if s.stage n = 0 then s else ((((s.endLink n).endAttempt n).dropAdapted n).makeStale n).setStage n 9 := rfl

theorem State.endLink_low (s : State) (n : Nat) : Low 0x2100 s (s.endLink n) :=
  .ite (State.twinLaneDown_low _ _ (.refl _) (by decide)) (State.abandonLane_low _ _ (.refl _) (by decide))

theorem State.endLink_lane (s : State) (n k : Nat) : (s.endLink n).lane k = s.lane k := by
  unfold State.endLink
  split_ifs
  · exact (State.twinLaneDown_only s _ (.refl 0x500160000100000000042 _) rfl).lane_kept (by decide) k
  · exact (State.abandonLane_only s _ (.refl 0x10004000000000002 _) rfl).lane_kept (by decide) k

/-- A lane that enters stage 9 writes stage and status of its own entries below the ports'. -/
theorem State.enterTest_reg (s : State) (n : Nat) {i j : Nat} (hi : i < 0x2100) (hj : j < 256) (apart : ¬(i = laneIndex n ∧ (j = 0x02 ∨ j = 0x03))) :
    (s.enterTest n).reg i j = s.reg i j := by
  have same : SameEntries (fun i j => i = laneIndex n ∧ (j = 0x02 ∨ j = 0x03)) (s.endLink n) (((s.endLink n).endAttempt n).dropAdapted n) :=
    (SameEntries.refl _ _).setLane.trans ((State.dropAdapted_same _ n).mono fun i j h => ⟨h.1, .inr h.2⟩)
  have staged : ∀ t : State, (t.setStage n 9).reg i j = t.reg i j := fun t => ((SameEntries.refl (fun i j => i = laneIndex n ∧ (j = 0x02 ∨ j = 0x03)) t).setStage ⟨rfl, .inl rfl⟩ ⟨rfl, .inr rfl⟩) _ _ hj apart
  rw [State.enterTest_eq]
  split_ifs
  · rfl
  · rw [staged, (State.makeStale_low _ n (.refl (B := 0x2100) _) (by decide)).reg _ _ hi hj, same _ _ hj apart, (s.endLink_low n).reg _ _ hi hj]

theorem State.enterTest_stage (s : State) {n : Nat} (on : s.stage n ≠ 0) : (s.enterTest n).stage n = 9 := by
  rw [State.enterTest_eq, if_neg on]
  exact State.stage_setStage ..

theorem State.enterTest_stage_other (s : State) {n m : Nat} (hm : laneIndex m < 0x2100) (apart : n ≠ m) : (s.enterTest n).stage m = s.stage m :=
  congrArg Int.toNat (s.enterTest_reg n hm (by decide) (by simp only [laneIndex]; omega))

theorem State.enterTest_sync (s : State) (n k : Nat) : ((s.enterTest n).lane k).checkerSync = (s.lane k).checkerSync := by
  have ended : (((s.endLink n).endAttempt n).lane k).checkerSync = (s.lane k).checkerSync := by
    rw [State.endAttempt, State.lane_setLane]
    split_ifs with same
    · subst same; simp only [State.endLink_lane]
    · rw [State.endLink_lane]
  rw [State.enterTest_eq]
  split_ifs
  · rfl
  · rw [State.lane_setStage, (State.makeStale_only _ n (.refl 0x140000000000000202 _) rfl).lane_kept (by decide), State.dropAdapted_lane, ended]

/-- A lane of a port without a test mode leaves stage 9. -/
def State.leaveTest (s : State) (n : Nat) : State := if s.stage n = 9 then ((s.dropSync n).clearLive n).setStage n 1 else s

theorem State.leaveTest_same (s : State) (n : Nat) :
    SameEntries (fun i j => i = laneIndex n ∧ (j = 0x02 ∨ j = 0x03 ∨ (j = 0x1C ∨ j = 0x1D) ∧ (s.lane n).checkerSync = true)) s (s.leaveTest n) := by
  have dropped : SameEntries (fun i j => i = laneIndex n ∧ (j = 0x1C ∨ j = 0x1D) ∧ (s.lane n).checkerSync = true) s (s.dropSync n) := by
    by_cases sync : (s.lane n).checkerSync = true
    · exact (s.dropSync_same n).mono fun i j h => ⟨h.1, h.2, sync⟩
    · unfold State.dropSync
      simp only [sync]
      exact .refl _ s
  unfold State.leaveTest
  split_ifs
  · exact ((dropped.mono fun i j h => ⟨h.1, .inr (.inr h.2)⟩).setNat (by decide) (by simp)).setStage (by simp) (by simp)
  · exact .refl _ s

theorem State.leaveTest_stage (s : State) {n : Nat} (test : s.stage n = 9) : (s.leaveTest n).stage n = 1 := by
  unfold State.leaveTest
  rw [if_pos test]
  exact State.stage_setStage ..

theorem State.leaveTest_stage_other (s : State) {n m : Nat} (apart : n ≠ m) : (s.leaveTest n).stage m = s.stage m :=
  (s.leaveTest_same n).stage (by simp only [laneIndex]; omega)

theorem State.leaveTest_sync (s : State) (n k : Nat) (out : (s.lane k).checkerSync = false) : ((s.leaveTest n).lane k).checkerSync = false := by
  have kept : ((s.dropSync n).lane k).checkerSync = false := by
    by_cases same : n = k
    · subst same; rw [State.dropSync_lane]
    · rw [State.dropSync_other _ same, out]
  unfold State.leaveTest
  split_ifs
  · exact kept
  · exact out

/-! ### The write of a test mode -/

/-- The test mode of a lane is written: its counts are 0 and its checker is out of sync. -/
structure State.TestCleared (s : State) (n code : Nat) : Prop where
  mode : s.nat (laneIndex n) 0x18 = code
  bits : s.nat (laneIndex n) 0x1C = 0
  errors : s.nat (laneIndex n) 0x1D = 0
  unsynced : (s.lane n).checkerSync = false

theorem State.TestCleared.keeps {s t : State} {n code : Nat} (cleared : s.TestCleared n code)
    (same : ∀ j, j = 0x18 ∨ j = 0x1C ∨ j = 0x1D → t.nat (laneIndex n) j = s.nat (laneIndex n) j)
    (sync : (t.lane n).checkerSync = false) : t.TestCleared n code :=
  ⟨(same _ (by simp)).trans cleared.mode, (same _ (by simp)).trans cleared.bits, (same _ (by simp)).trans cleared.errors, sync⟩

theorem State.TestCleared.keeps_low {s t : State} {n code : Nat} (cleared : s.TestCleared n code) (hn : laneIndex n < 0x2100) (low : Low 0x2100 s t)
    (lane : t.lane n = s.lane n) : t.TestCleared n code :=
  cleared.keeps (fun j hj => low.nat _ _ hn (by omega)) (by rw [lane, cleared.unsynced])

theorem State.TestCleared.enterTest {s : State} {n code : Nat} (cleared : s.TestCleared n code) (hn : laneIndex n < 0x2100) (m : Nat) :
    (s.enterTest m).TestCleared n code :=
  cleared.keeps (fun j hj => congrArg Int.toNat (s.enterTest_reg m hn (by omega) (by omega))) (by rw [State.enterTest_sync, cleared.unsynced])

theorem State.TestCleared.leaveTest {s : State} {n code : Nat} (cleared : s.TestCleared n code) (m : Nat) : (s.leaveTest m).TestCleared n code := by
  refine cleared.keeps (fun j hj => (s.leaveTest_same m).nat (by omega) ?_) (s.leaveTest_sync m n cleared.unsynced)
  rintro ⟨same, hit⟩
  have : n = m := by simpa [laneIndex] using same
  subst this
  simp [cleared.unsynced] at hit
  omega

theorem State.writeTest_same (s : State) (n code : Nat) :
    SameEntries (fun i j => i = laneIndex n ∧ (j = 0x18 ∨ j = 0x1C ∨ j = 0x1D)) s (s.writeTest n code) :=
  (((SameEntries.refl _ s).setNat (by decide) (by simp)).setNat (by decide) (by simp)).setNat (by decide) (by simp) |>.setLane

theorem State.writeTest_cleared (s : State) (n code : Nat) : (s.writeTest n code).TestCleared n code := by
  constructor <;> simp [State.writeTest]

/-- The port of a lane whose first test mode is written goes down. -/
def State.testPortDown (s : State) (n : Nat) : State :=
  match s.ownPort n with
  | some p => if s.portUp p then s.portDown p 0 else s
  | none => s

theorem State.judgeTest_eq (s : State) (was : Bool) (n : Nat) : s.judgeTest was n =
    if s.inTest n = true ∧ (!was) = true then ((s.testPortDown n).sisters n).foldl State.enterTest (s.testPortDown n)
    else if was = true ∧ (!s.inTest n) = true then (s.sisters n).foldl State.leaveTest s else s := rfl

theorem State.testPortDown_low (s : State) (n : Nat) : Low 0x2100 s (s.testPortDown n) := by
  unfold State.testPortDown
  split
  · exact .ite (State.portDown_low _ _ _ (.refl _) (by decide)) (.refl _)
  · exact .refl _

theorem State.testPortDown_lane (s : State) (n k : Nat) : (s.testPortDown n).lane k = s.lane k := by
  unfold State.testPortDown
  split
  · split_ifs
    · exact (State.portDown_only s _ _ (.refl 0x1001507f4040000003f42 _) rfl).lane_kept (by decide) k
    · rfl
  · rfl

theorem State.testPortDown_sisters (s : State) (n : Nat) : (s.testPortDown n).sisters n = s.sisters n := by
  refine State.sisters_congr n fun q hq => ?_
  unfold State.testPortDown
  split
  · split_ifs
    · exact State.mode_portDown _ _ _ _ hq
    · rfl
  · rfl

theorem State.judgeTest_cleared {s : State} {n code : Nat} (cleared : s.TestCleared n code) (hn : laneIndex n < 0x2100) (was : Bool) :
    (s.judgeTest was n).TestCleared n code := by
  rw [State.judgeTest_eq]
  split_ifs
  · exact List.foldlRecOn (motive := fun a : State => a.TestCleared n code) _ _
      (cleared.keeps_low hn (s.testPortDown_low n) (s.testPortDown_lane n n)) fun a kept m _ => kept.enterTest hn m
  · exact List.foldlRecOn (motive := fun a : State => a.TestCleared n code) _ _ cleared fun a kept m _ => kept.leaveTest m
  · exact cleared

theorem State.setTest_cleared (s : State) (n code : Nat) (hn : laneIndex n < 0x2100) : (s.setTest n code).TestCleared n code :=
  State.judgeTest_cleared (s.writeTest_cleared n code) hn _

theorem State.writeTest_sisters (s : State) (n code : Nat) (hn : laneIndex n < 0x2100) : (s.writeTest n code).sisters n = s.sisters n :=
  State.sisters_congr n fun p _ => (s.writeTest_same n code).mode (by omega)

theorem State.inTest_iff {s : State} {n : Nat} : s.inTest n = true ↔ ∃ m ∈ s.sisters n, s.nat (laneIndex m) 0x18 ≠ 0 := by
  simp [State.inTest]

/-- With the first test mode on its port every lane of the port that is not off enters stage 9. -/
theorem State.setTest_enters {s : State} {n code m : Nat} (hn : n < 100) (first : s.inTest n = false) (on : code ≠ 0) (mem : m ∈ s.sisters n)
    (stage : s.stage m ≠ 0) : (s.setTest n code).stage m = 9 := by
  have below := State.laneIndex_sister hn mem
  have sisters := s.writeTest_sisters n code (by simp only [laneIndex]; omega)
  have tests : (s.writeTest n code).inTest n = true :=
    State.inTest_iff.2 ⟨n, by rw [sisters]; exact State.mem_sisters mem, by rw [(s.writeTest_cleared n code).mode]; exact on⟩
  have start : ((s.writeTest n code).testPortDown n).stage m ≠ 0 := by
    rw [(State.testPortDown_low _ n).stage below, (s.writeTest_same n code).stage (by simp)]
    exact stage
  unfold State.setTest
  rw [State.judgeTest_eq, if_pos ⟨tests, by rw [first]; rfl⟩, State.testPortDown_sisters, sisters]
  refine foldl_attains (Before := fun a => a.stage m ≠ 0) (After := fun a => a.stage m = 9) mem (fun a => State.enterTest_stage a) (fun a y _ before => ?_) (fun a y _ after => ?_) start
  · by_cases same : y = m
    · subst same; rw [State.enterTest_stage a before]; decide
    · rw [State.enterTest_stage_other a below same]; exact before
  · by_cases same : y = m
    · subst same; exact State.enterTest_stage a (by rw [after]; decide)
    · rw [State.enterTest_stage_other a below same]; exact after

/-- Without the last test mode on its port every lane of the port in stage 9 returns to stage 1. -/
theorem State.setTest_leaves {s : State} {n m : Nat} (hn : n < 100) (last : s.nat (laneIndex n) 0x18 ≠ 0)
    (others : ∀ k, k ∈ s.sisters n → k ≠ n → s.nat (laneIndex k) 0x18 = 0) (mem : m ∈ s.sisters n) (test : s.stage m = 9) :
    (s.setTest n 0).stage m = 1 := by
  have sisters := s.writeTest_sisters n 0 (by simp only [laneIndex]; omega)
  have was : s.inTest n = true := State.inTest_iff.2 ⟨n, State.mem_sisters mem, last⟩
  have none : (s.writeTest n 0).inTest n = false := by
    rw [Bool.eq_false_iff, ne_eq, State.inTest_iff]
    rintro ⟨k, hk, on⟩
    rw [sisters] at hk
    by_cases same : k = n
    · subst same; exact on (s.writeTest_cleared k 0).mode
    · exact on (((s.writeTest_same n 0).nat (by decide) (by simp only [laneIndex]; omega)).trans (others k hk same))
  have start : (s.writeTest n 0).stage m = 9 := ((s.writeTest_same n 0).stage (by simp)).trans test
  unfold State.setTest
  rw [State.judgeTest_eq, if_neg (by simp [none]), if_pos ⟨was, by rw [none]; rfl⟩, sisters]
  have own : ∀ a : State, a.stage m = 9 ∨ a.stage m = 1 → (a.leaveTest m).stage m = 1 := by
    rintro a (nine | one)
    · exact State.leaveTest_stage a nine
    · unfold State.leaveTest; rw [if_neg (by omega)]; exact one
  have kept : ∀ (a : State) (y : Nat) (st : Nat → Prop), (a.stage m = 9 ∨ a.stage m = 1) → st 1 → st (a.stage m) → st ((a.leaveTest y).stage m) := by
    intro a y st before one here
    by_cases same : y = m
    · subst same; rw [own a before]; exact one
    · rw [State.leaveTest_stage_other a same]; exact here
  exact foldl_attains (Before := fun a => a.stage m = 9 ∨ a.stage m = 1) (After := fun a => a.stage m = 1) mem own
    (fun a y _ before => kept a y (fun st => st = 9 ∨ st = 1) before (.inr rfl) before) (fun a y _ after => kept a y (· = 1) (.inr after) rfl after) (.inl start)

theorem exec_testModeSet {role : Role} {l : LaneId} {code : Fin 5} {s : State} (admitted : s.admits role (laneIndex l) 0x18) :
    exec (.testModeSet role l code) s = .next (if s.testRefused l code = true then s.ruleRefused 0 else (s.setTest l code).done) :=
  congrArg _ (State.hostWrite_admitted admitted _)

theorem exec_testModeClear {role : Role} {l : LaneId} {s : State} (admitted : s.admits role (laneIndex l) 0x18) :
    exec (.testModeClear role l) s = .next (s.setTest l 0).done := congrArg _ (State.hostWrite_admitted admitted _)

theorem exec_errorInjectionOne {role : Role} {l : LaneId} {s : State} (admitted : s.admits role (laneIndex l) 0x1E) :
    exec (.errorInjectionOne role l) s = .next (s.setNat (laneIndex l) 0x1E 1).done := congrArg _ (State.hostWrite_admitted admitted _)

theorem exec_errorInjectionRate {role : Role} {l : LaneId} {k : Nat} {s : State} (admitted : s.admits role (laneIndex l) 0x1E) :
    exec (.errorInjectionRate role l k) s = .next (if k < 8 ∨ 40 < k then s.outOfRange 0x1F
      else ((s.setNat (laneIndex l) 0x1E 2).setNat (laneIndex l) 0x1F k).done) := congrArg _ (State.hostWrite_admitted admitted _)

theorem exec_injectedError {l : LaneId} {s : State} (one : s.nat (laneIndex l) 0x1E = 1)
    (runs : (if s.nat (laneIndex l) 0x20 = 1 then s.sendsTraffic l else s.sendsPattern l) = true) :
    exec (.injectedError l) s = .next (s.setNat (laneIndex l) 0x1E 0) := congrArg _ (if_pos ⟨one, runs⟩)

theorem exec_checkerSync {l : LaneId} {bits : List Bool} {s : State} (test : s.stage l = 9) (loud : s.flag (laneIndex l) 0x17 = false)
    (out : (s.lane l).checkerSync = false)
    (follows : patternFollows (s.nat (laneIndex l) 0x1A) (s.nat (laneIndex l) 0x01 == 4) (s.nat (laneIndex l) 0x1B) 256 bits = true) :
    exec (.checkerSync l bits) s = .next (s.setLane l { s.lane l with checkerSync := true, syncSince := s.now }) :=
  congrArg _ (if_pos ⟨test, by rw [loud]; rfl, by rw [out]; rfl, follows⟩)

theorem exec_checkerSyncLoss {l : LaneId} {bits errors : Nat} {s : State} (sync : (s.lane l).checkerSync = true) :
    exec (.checkerSyncLoss l bits errors) s = .next (((s.addSat (laneIndex l) 0x1C 64 bits).addSat (laneIndex l) 0x1D 64 errors).setLane l
      { s.lane l with checkerSync := false }) := congrArg _ (if_pos sync)

theorem State.nat_addSat_same (s : State) (i j width v : Nat) : (s.addSat i j width v).nat i j = min (s.nat i j + v) (2 ^ width - 1) :=
  State.nat_setNat_same ..

/-- Settles O8. -/
theorem laneTestFunctions : Obligations.LaneTestFunctions := by
  unfold Obligations.LaneTestFunctions
  refine ⟨fun role l code s admitted accepted => ?set, fun role l code s admitted refused => ?refuse, fun role l s admitted => ?clear,
    fun role l s admitted => ?one, fun role l k s admitted => ?rate, fun l s one runs => ?injected,
    fun l bits s test loud out follows => ?sync, fun l bits errors s sync => ?loss⟩
  case set =>
    have run := exec_testModeSet (code := code) admitted
    rw [accepted, if_neg (by decide)] at run
    obtain ⟨mode, bits, errors, unsynced⟩ := s.setTest_cleared l code (State.laneIndex_lt l)
    exact .of run ⟨rfl, mode, bits, errors, unsynced, fun first on m mem stage => State.setTest_enters l.isLt first on mem stage⟩
  case refuse =>
    have run := exec_testModeSet (code := code) admitted
    rw [if_pos refused] at run
    exact .of run ⟨rfl, State.ruleRefused_only s 0 (.refl _ s) rfl⟩
  case clear =>
    obtain ⟨mode, bits, errors, unsynced⟩ := s.setTest_cleared l 0 (State.laneIndex_lt l)
    exact .of (exec_testModeClear admitted) ⟨rfl, mode, bits, errors, fun last others m mem test => State.setTest_leaves l.isLt last others mem test⟩
  case one =>
    exact .of (exec_errorInjectionOne admitted) ⟨rfl, by simp, ((SameEntries.refl _ s).setNat (by decide) ⟨rfl, rfl⟩).of_regs rfl⟩
  case rate =>
    have run := exec_errorInjectionRate (k := k) admitted
    by_cases outside : k < 8 ∨ 40 < k
    · rw [if_pos outside] at run
      exact .of run ⟨fun _ _ => by omega, fun _ => ⟨rfl, State.outOfRange_only s _ (.refl _ s) rfl⟩⟩
    · rw [if_neg outside] at run
      exact .of run ⟨fun _ _ => ⟨rfl, by simp, by simp⟩, fun h => absurd h outside⟩
  case injected =>
    exact .of (exec_injectedError one runs) ⟨by simp, (SameEntries.refl _ s).setNat (by decide) ⟨rfl, rfl⟩⟩
  case sync =>
    refine .of (exec_checkerSync test loud out follows) ⟨?_, ?_, State.setLane_only s _ _ (.refl _ s) rfl⟩
    all_goals rw [State.lane_setLane_same]
  case loss =>
    refine .of (exec_checkerSyncLoss sync) ⟨?_, ?_, ?_, ?_⟩
    · rw [State.lane_setLane_same]
    · rw [State.nat_setLane, State.addSat_eq _ _ 0x1D, State.nat_setReg_at _ _ (by decide) (by decide), if_neg (by simp), State.nat_addSat_same]
    · rw [State.nat_setLane, State.nat_addSat_same, State.addSat_eq, State.nat_setReg_at _ _ (by decide) (by decide), if_neg (by simp)]
    · exact (((SameEntries.refl _ s).setNat (by decide) (by simp)).setNat (by decide) (by simp)).setLane

end Sys2Proof.Machine

namespace Sys2Proof.Machine

/-! ## Modules: insertion, removal and re-read (04 R101, R102) -/

/-- What a port holds of its module: nothing that happens to the port or its lanes changes it. -/
def PortX.module (x : PortX) : Bool × Bool × Nat × List Int × Option (List Int) :=
  (x.modulePresent, x.txDisable, x.moduleModes, x.diagnostics, x.waitingPoll)

/-- What a position shows of its module: what it holds, and the module's state. -/
def State.moduleView (s : State) (p : Nat) : (Bool × Bool × Nat × List Int × Option (List Int)) × Nat := ((s.port p).module, s.nat (0x2100 + p) 0x0E)

theorem State.waitingPoll_of_view {s t : State} {p : Nat} (same : t.moduleView p = s.moduleView p) : (t.port p).waitingPoll = (s.port p).waitingPoll :=
  congrArg (fun v => v.1.2.2.2.2) same

/-- What writes no port and no state of a module leaves what the positions show. -/
theorem State.moduleView_congr {s t : State} {p : Nat} (port : t.port p = s.port p) (shown : t.nat (0x2100 + p) 0x0E = s.nat (0x2100 + p) 0x0E) :
    t.moduleView p = s.moduleView p := by
  unfold State.moduleView; rw [port, shown]

theorem Low.moduleView {s t : State} {p : Nat} (low : Low 0x2200 s t) (hp : p < 0x100) (port : t.port p = s.port p) : t.moduleView p = s.moduleView p :=
  State.moduleView_congr port (low.nat _ _ (by omega) (by decide))

theorem SameEntries.moduleView {K : Nat → Nat → Prop} {s t : State} {p : Nat} (same : SameEntries K s t) (apart : ¬K (0x2100 + p) 0x0E)
    (port : t.port p = s.port p) : t.moduleView p = s.moduleView p :=
  State.moduleView_congr port (same.nat (by decide) apart)

/-- A change of a port that is none of its module's leaves what the positions show. -/
theorem State.moduleView_setPort (s : State) (n : Nat) (x : PortX) (p : Nat) (same : x.module = (s.port n).module) :
    (s.setPort n x).moduleView p = s.moduleView p := by
  unfold State.moduleView
  rw [State.port_setPort, State.nat_setPort]
  split_ifs with here
  · subst here; rw [same]
  · rfl

theorem State.portOff_moduleView (s : State) (n st : Nat) {p : Nat} (hp : p < 0x100) : (s.portOff n st).moduleView p = s.moduleView p := by
  have held : (s.holdBuffer n).moduleView p = s.moduleView p :=
    (State.holdBuffer_low s n (.refl (B := 0x2200) s)).moduleView hp ((State.holdBuffer_only s n (.refl 0x200 _) rfl).port_kept (by decide) p)
  have named : ((s.holdBuffer n).setNat (0x2100 + n) 0x03 st).moduleView p = (s.holdBuffer n).moduleView p :=
    ((SameEntries.refl (fun _ j => j = 0x03) _).setNat (by decide) rfl).moduleView (by decide) rfl
  rw [← held, ← named]
  exact State.moduleView_setPort _ _ _ _ rfl

theorem State.portDown_moduleView (s : State) (n st : Nat) {p : Nat} (hp : p < 0x100) : (s.portDown n st).moduleView p = s.moduleView p := by
  rw [State.portDown_eq]
  split_ifs
  · generalize counted : (s.portOff n st).inc64 (0x2200 + n) 0x10 = a
    have start : a.moduleView p = s.moduleView p := by
      rw [← State.portOff_moduleView s n st hp, ← counted]
      exact ((SameEntries.refl (fun i _ => i = 0x2200 + n) _).setNat (by decide) rfl).moduleView (by omega) rfl
    have fec : (a.fecStop n).moduleView p = a.moduleView p := by
      have same : ((a.setNat (0x2200 + n) 0x0A (a.fecCount n 0x0A)).setNat (0x2200 + n) 0x0B (a.fecCount n 0x0B)).moduleView p = a.moduleView p :=
        (((SameEntries.refl (fun i _ => i = 0x2200 + n) _).setNat (by decide) rfl).setNat (by decide) rfl).moduleView (by omega) rfl
      rw [← same]
      exact State.moduleView_setPort _ _ _ _ rfl
    rw [← start, ← fec]
    refine Low.moduleView ?_ hp ?_
    · exact State.endPort_low _ _ (State.timingOff_low _ _ (State.queuesDown_low _ _ (State.abortRx_low _ _ (.refl _) (by decide)) (by decide))
        (by decide)) (by decide)
    · refine Only.port_kept (F := 0x1001507f4040000003e42) ?_ (by decide) p
      refine State.calibrateNext_only _ _ (State.refsUpdate_only _ (Only.foldl ?_ fun a l => State.abandonLane_only a l (.refl _ a) rfl) rfl) rfl
      exact State.timingOff_only _ _ (State.queuesDown_only _ _ (State.abortRx_only _ _ (.refl _ _) rfl) rfl) rfl
  · exact State.portOff_moduleView s n st hp

theorem State.markBond_moduleView (s : State) (n p : Nat) : (s.markBond n).moduleView p = s.moduleView p := by
  unfold State.markBond
  split
  · rfl
  · split_ifs
    · exact State.moduleView_setPort _ _ _ _ rfl
    · rfl

theorem State.lanePortLost_moduleView (s : State) (n : Nat) {p : Nat} (hp : p < 0x100) : (s.lanePortLost n).moduleView p = s.moduleView p := by
  unfold State.lanePortLost
  split_ifs
  · exact (State.twinLaneDown_low s _ (.refl (B := 0x2200) s) (by decide)).moduleView hp
      ((State.twinLaneDown_only s _ (.refl 0x500160000100000000042 _) rfl).port_kept (by decide) p)
  · split
    · rfl
    · split_ifs
      · exact (Low.moduleView (State.raise_low _ _ _ (.refl (B := 0x2200) _)) hp
          ((State.raise_only _ _ _ (.refl 0x140000000000000000 _) rfl).port_kept (by decide) p)).trans
          ((State.portDown_moduleView _ _ _ hp).trans (State.markBond_moduleView s n p))
      · exact (State.moduleView_setPort _ _ _ _ (by rfl)).trans (State.markBond_moduleView s n p)

/-- What concerns the entries of lanes alone leaves what the positions show. -/
theorem SameEntries.lanes_moduleView {K : Nat → Nat → Prop} {s t : State} (p : Nat) (same : SameEntries K s t) (lanes : ∀ i j, K i j → j ≠ 0x0E)
    (ports : t.ports = s.ports) : t.moduleView p = s.moduleView p :=
  same.moduleView (fun h => lanes _ _ h rfl) (by unfold State.port; rw [ports])

theorem State.noteSignalLoss_ports (s : State) (n : Nat) : (s.noteSignalLoss n).ports = s.ports := by
  have lost : ∀ t : State, (if (t.lane n).absentSince.isSome = true then t else t.setLane n { t.lane n with absentSince := some t.now }).ports = t.ports := by
    intro t
    split_ifs <;> rfl
  unfold State.noteSignalLoss
  dsimp only
  rw [(State.dropSync_only _ n (.refl 0x82 _) rfl).ports (by decide), lost, (State.loseConditions_only s n _ _ _ (.refl 0x2 _) rfl).ports (by decide)]

/-- A lane in service that loses signal leaves its port and waits for signal. -/
def State.signalLostUp (s : State) (n : Nat) : State :=
  (((s.dropAdapted n).lanePortLost n).setLane n
    { ((s.dropAdapted n).lanePortLost n).lane n with retryRuns := false, retryAt := none, modeChange := 0 }).setStage n 1

theorem State.signalLost_eq (s : State) (n : Nat) : s.signalLost n =
    if s.stage n = 0 ∨ s.flag (laneIndex n) 0x17 = true then s
    else if s.stage n = 6 ∨ s.stage n = 7 then (s.noteSignalLoss n).signalLostUp n
    else if (s.noteSignalLoss n).training n = true then ((s.noteSignalLoss n).dropAdapted n).setStage n 1 else s.noteSignalLoss n := rfl

theorem State.signalLost_moduleView (s : State) (n : Nat) {p : Nat} (hp : p < 0x100) : (s.signalLost n).moduleView p = s.moduleView p := by
  have noted : (s.noteSignalLoss n).moduleView p = s.moduleView p :=
    (s.noteSignalLoss_effect n).2.1.lanes_moduleView p (by omega) (s.noteSignalLoss_ports n)
  have dropped : ∀ t : State, (t.dropAdapted n).moduleView p = t.moduleView p := fun t => (t.dropAdapted_same n).lanes_moduleView p (by omega) rfl
  have staged : ∀ t : State, (t.setStage n 1).moduleView p = t.moduleView p := fun t =>
    ((SameEntries.refl (fun _ j => j = 0x02 ∨ j = 0x03) t).setStage (by simp) (by simp)).lanes_moduleView p (by omega) rfl
  rw [State.signalLost_eq]
  split_ifs
  · rfl
  · rw [State.signalLostUp, staged]
    exact (State.lanePortLost_moduleView _ n hp).trans ((dropped _).trans noted)
  · rw [staged, dropped, noted]
  · exact noted

/-! ### What the bus serves -/

theorem State.keepRecord_moduleView (s : State) (n : Nat) (r : List Byte) (p : Nat) : (s.keepRecord n r).moduleView p = s.moduleView p := by
  have status : ∀ v : Nat, ((s.setBlob (0x2100 + n) 0x0F r).setNat (0x2100 + n) 0x10 v).moduleView p = s.moduleView p := fun v =>
    ((SameEntries.refl (fun _ j => j = 0x10) s).setBlob.setNat (by decide) rfl).lanes_moduleView p (by omega) rfl
  unfold State.keepRecord
  dsimp only
  exact (State.moduleView_setPort _ _ _ _ (by rfl)).trans (status _)

theorem State.tearRecord_moduleView (s : State) (n p : Nat) : (s.tearRecord n).moduleView p = s.moduleView p := by
  unfold State.tearRecord State.eachPosition
  refine List.foldlRecOn (motive := fun a : State => a.moduleView p = s.moduleView p) _ _ rfl fun a kept q _ => ?_
  have blob : ∀ v, (a.setBlob (0x2100 + q) 0x0F v).moduleView p = s.moduleView p := fun v => kept
  exact (State.moduleView_setPort _ _ _ _ (by rfl)).trans (blob _)

theorem State.writeRecord_moduleView (s : State) (n : Nat) (r : List Byte) (ends : RecordWriteEnd) (p : Nat) :
    (s.writeRecord n r ends).moduleView p = s.moduleView p := by
  have kept : (s.eachPosition n (fun a q => a.keepRecord q r)).moduleView p = s.moduleView p :=
    List.foldlRecOn (motive := fun a : State => a.moduleView p = s.moduleView p) _ _ rfl
      fun a kept q _ => (a.keepRecord_moduleView q r p).trans kept
  unfold State.writeRecord
  by_cases absent : (!(s.port n).modulePresent) = true
  · rw [if_pos absent]
    rfl
  · rw [if_neg absent]
    cases ends with
    | verified => exact (apply_ite (fun a : State => a.moduleView p) _ _ _).trans (by split_ifs <;> exact kept)
    | mismatch => rfl
    | protectedModule => rfl
    | moduleRemoved => exact s.tearRecord_moduleView n p

/-- Polls that are done leave a position at which none waits. -/
theorem State.servePolls_moduleView (s : State) (c p : Nat) (idle : (s.port p).waitingPoll = none) :
    (s.servePolls c).moduleView p = s.moduleView p := by
  unfold State.servePolls
  refine List.foldlRecOn (motive := fun a : State => a.moduleView p = s.moduleView p) _ _ rfl fun a kept i _ => ?_
  have waits : (a.port p).waitingPoll = none := (State.waitingPoll_of_view kept).trans idle
  dsimp only
  split
  · next v found =>
    have apart : 4 * c + i ≠ p := fun h => by rw [h, waits] at found; cases found
    rw [← kept]
    exact State.moduleView_congr (by rw [State.port_setPort, if_neg apart]) rfl
  · exact kept

theorem State.serveAccesses_moduleView (l : List BusAccess) (s : State) (c p : Nat) (idle : (s.port p).waitingPoll = none) :
    (s.serveAccesses c l).moduleView p = s.moduleView p := by
  induction l generalizing s with
  | nil => exact State.servePolls_moduleView _ c p idle
  | cons x l ih =>
    cases x with
    | read n => rfl
    | write n r ends =>
      have kept := s.writeRecord_moduleView n r ends p
      exact (ih _ ((State.waitingPoll_of_view kept).trans idle)).trans kept

/-! ### Positions of a cage -/

theorem State.cagePorts_nodup (s : State) (p : Nat) : (s.cagePorts p).Nodup := by
  unfold State.cagePorts
  split_ifs
  · exact List.Nodup.map (fun a b h => by simpa using h) List.nodup_range
  · exact List.nodup_singleton p

theorem State.cagePorts_lt {s : State} {p q : Nat} (hp : p < 96) (mem : q ∈ s.cagePorts p) : q < 96 := by
  unfold State.cagePorts at mem
  split_ifs at mem
  · obtain ⟨i, hi, rfl⟩ := List.mem_map.1 mem
    have := List.mem_range.1 hi
    omega
  · rw [List.mem_singleton.1 mem]; exact hp

/-- A step at every position of a cage brings about at each what its own step does and every other keeps. -/
theorem State.eachPosition_attains {s : State} {p q : Nat} {f : State → Nat → State} {After : State → Prop} (mem : q ∈ s.cagePorts p)
    (step : ∀ a, After (f a q)) (after : ∀ a y, y ≠ q → After a → After (f a y)) : After (s.eachPosition p f) :=
  foldl_attains (Before := fun _ => True) mem (fun a _ => step a) (fun _ _ _ _ => trivial)
    (fun a y _ kept => by
      by_cases same : y = q
      · subst same; exact step a
      · exact after a y same kept) trivial

/-- A module comes into a cage. -/
def State.insertModule (s : State) (p : Nat) : State :=
  s.eachPosition p (fun a q => a.setPort q { a.port q with modulePresent := true, txDisable := true })

theorem exec_moduleInsert (p : PortId) (s : State) : exec (.moduleInsert p) s = .next (if (s.insertModule p).nat (0x2100 + p) 0x08 = 0
    then s.insertModule p else (s.insertModule p).startRead p) := rfl

theorem State.insertModule_regs (s : State) (p : Nat) : (s.insertModule p).regs = s.regs :=
  List.foldlRecOn (motive := fun a : State => a.regs = s.regs) _ _ rfl fun _ kept _ _ => kept

theorem State.insertModule_port {s : State} {p q : Nat} (mem : q ∈ s.cagePorts p) :
    ((s.insertModule p).port q).modulePresent = true ∧ ((s.insertModule p).port q).txDisable = true := by
  refine State.eachPosition_attains (After := fun a => (a.port q).modulePresent = true ∧ (a.port q).txDisable = true) mem (fun a => ?_) fun a y apart kept => ?_
  · rw [State.port_setPort, if_pos rfl]; exact ⟨rfl, rfl⟩
  · rw [State.port_setPort, if_neg apart]; exact kept

/-- The read of a module joins the queue of its bus. -/
def State.queueRead (s : State) (p : Nat) : State :=
  if (s.busAt (p / 4)).contains (.read (s.selectPosition p)) then s else s.setBus (p / 4) (s.busAt (p / 4) ++ [.read (s.selectPosition p)])

theorem State.startRead_eq (s : State) (p : Nat) : s.startRead p = (s.queueRead p).eachPosition p (fun a q => a.setNat (0x2100 + q) 0x0E 1) := rfl

theorem State.queueRead_only (s : State) (p : Nat) : Only partBusQueue s (s.queueRead p) := by
  unfold State.queueRead
  split_ifs
  · exact .refl _ s
  · exact State.setBus_only s _ _ (.refl _ s) rfl

theorem State.startRead_same (s : State) (p : Nat) :
    SameEntries (fun i j => j = 0x0E ∧ 0x2100 ≤ i ∧ i - 0x2100 ∈ s.cagePorts p) s (s.startRead p) := by
  have cage : (s.queueRead p).cagePorts p = s.cagePorts p := by
    unfold State.cagePorts; rw [(s.queueRead_only p).nat_kept (by decide)]
  rw [State.startRead_eq, State.eachPosition, cage]
  exact List.foldlRecOn (motive := fun a : State => SameEntries _ s a) _ _ ((SameEntries.refl _ s).of_regs ((s.queueRead_only p).regs (by decide)))
    fun a kept q mem => kept.setNat (by decide) ⟨rfl, by omega, by simpa using mem⟩

theorem State.startRead_shown {s : State} {p q : Nat} (mem : q ∈ s.cagePorts p) : (s.startRead p).nat (0x2100 + q) 0x0E = 1 := by
  have cage : (s.queueRead p).cagePorts p = s.cagePorts p := by
    unfold State.cagePorts; rw [(s.queueRead_only p).nat_kept (by decide)]
  rw [State.startRead_eq]
  refine State.eachPosition_attains (After := fun a => a.nat (0x2100 + q) 0x0E = 1) (cage ▸ mem) (fun a => by simp) fun a y apart kept => ?_
  rw [State.setNat_eq, State.nat_setReg_at _ _ (by decide) (by decide), if_neg (by omega)]
  exact kept

theorem State.startRead_queued (s : State) (p : Nat) : BusAccess.read (s.selectPosition p) ∈ (s.startRead p).busAt (p / 4) := by
  have queued : BusAccess.read (s.selectPosition p) ∈ (s.queueRead p).busAt (p / 4) := by
    unfold State.queueRead
    split_ifs with there
    · simpa using there
    · simp [State.busAt, State.setBus]
  rw [State.startRead_eq, State.eachPosition]
  exact List.foldlRecOn (motive := fun a : State => BusAccess.read (s.selectPosition p) ∈ a.busAt (p / 4)) _ _ queued fun a kept _ _ => kept

/-- The module of a position is gone. -/
def State.removeAt (s : State) (q : Nat) : State :=
  ((s.setPort q { s.port q with modulePresent := false, txDisable := true, moduleModes := 0, diagnostics := [], waitingPoll := none }).setNat
    (0x2100 + q) 0x0E 0).signalLost q

theorem exec_moduleRemove (p : PortId) (s : State) :
    exec (.moduleRemove p) s = .next (((s.eachPosition p State.removeAt).endRead p).serveBus (p / 4)) := rfl

theorem State.removeAt_shown {s : State} {q : Nat} (hq : q < 0x100) : (s.removeAt q).moduleView q = ((false, true, 0, [], none), 0) := by
  rw [State.removeAt, State.signalLost_moduleView _ _ hq]
  unfold State.moduleView
  rw [State.nat_setNat_same]
  simp [PortX.module]

theorem State.removeAt_other {s : State} {q y : Nat} (hq : q < 0x100) (apart : y ≠ q) : (s.removeAt y).moduleView q = s.moduleView q := by
  rw [State.removeAt, State.signalLost_moduleView _ _ hq]
  refine (SameEntries.moduleView ((SameEntries.refl (fun i _ => i = 0x2100 + y) _).setNat (by decide) rfl) (by omega) rfl).trans ?_
  exact State.moduleView_congr (by rw [State.port_setPort, if_neg apart]) rfl

/-- Every position of a cage whose module has gone shows that. -/
theorem State.moduleRemoved_shown {s : State} {p q : Nat} (hp : p < 96) (mem : q ∈ s.cagePorts p) :
    (((s.eachPosition p State.removeAt).endRead p).serveBus (p / 4)).moduleView q = ((false, true, 0, [], none), 0) := by
  have hq : q < 0x100 := by have := State.cagePorts_lt hp mem; omega
  have gone : (s.eachPosition p State.removeAt).moduleView q = ((false, true, 0, [], none), 0) :=
    State.eachPosition_attains (After := fun a => a.moduleView q = ((false, true, 0, [], none), 0)) mem (fun a => State.removeAt_shown hq)
      fun a y apart kept => (State.removeAt_other hq apart).trans kept
  have ended : ((s.eachPosition p State.removeAt).endRead p).moduleView q = ((false, true, 0, [], none), 0) := gone
  rw [← ended]
  exact State.serveAccesses_moduleView _ _ _ _ (congrArg (fun v => v.1.2.2.2.2) gone)

theorem exec_rereadModule {role : Role} {p : PortId} {s : State} (admitted : s.admits role (0x2100 + p) 0x13) (present : (s.port p).modulePresent = true)
    (typed : s.nat (0x2100 + p) 0x08 ≠ 0) : exec (.rereadModule role p) s = .next (s.startRead p).done := by
  refine congrArg Host.Outcome.next ((State.hostWrite_admitted admitted _).trans ?_)
  exact congrArg State.done (if_pos ⟨present, typed⟩)

/-- Settles O9. -/
theorem moduleEventsReachCage : Obligations.ModuleEventsReachCage := by
  unfold Obligations.ModuleEventsReachCage
  refine ⟨fun p s => ?insert, fun p s => ?remove, fun role p s admitted present typed => ?reread⟩
  case insert =>
    have regs := s.insertModule_regs p
    have run := exec_moduleInsert p s
    rw [State.nat_of_regs regs] at run
    have cage : (s.insertModule p).cagePorts p = s.cagePorts p := by unfold State.cagePorts; rw [State.nat_of_regs regs]
    have chosen : (s.insertModule p).selectPosition p = s.selectPosition p := by unfold State.selectPosition; rw [State.nat_of_regs regs]
    by_cases untyped : s.nat (0x2100 + p) 0x08 = 0
    · rw [if_pos untyped] at run
      refine .of run fun q mem => ⟨(State.insertModule_port mem).1, (State.insertModule_port mem).2, ?_, fun typed => absurd untyped typed⟩
      rw [if_pos untyped, State.nat_of_regs regs]
    · rw [if_neg untyped] at run
      have kept : ∀ q, ((s.insertModule p).startRead p).port q = (s.insertModule p).port q := (State.startRead_only _ p (.refl 0x20002 _) rfl).port_kept (by decide)
      refine .of run fun q mem => ⟨?_, ?_, ?_, fun _ => ?_⟩
      · rw [kept]; exact (State.insertModule_port mem).1
      · rw [kept]; exact (State.insertModule_port mem).2
      · rw [if_neg untyped]; exact State.startRead_shown (cage ▸ mem)
      · rw [← chosen]; exact State.startRead_queued _ p
  case remove =>
    refine .of (exec_moduleRemove p s) fun q mem => ?_
    have shown := State.moduleRemoved_shown p.isLt mem
    unfold State.moduleView PortX.module at shown
    simp only [Prod.mk.injEq] at shown
    obtain ⟨⟨present, off, modes, values, -⟩, state⟩ := shown
    exact ⟨present, off, modes, values, state⟩
  case reread =>
    refine .of (exec_rereadModule admitted present typed) ⟨rfl, fun q mem => State.startRead_shown mem, ?_, State.startRead_queued s p, ?_⟩
    · exact (s.startRead_same p).of_regs rfl
    · exact State.done_only _ (State.startRead_only s p (.refl _ s) rfl) rfl

end Sys2Proof.Machine

namespace Sys2Proof.Machine

/-! ## Modules: identity read, time-out and diagnostics (04 R101, R102, R103, R107) -/

theorem State.modeAt_congr {s t : State} (p : Nat) (same : ∀ q, t.mode q = s.mode q) : t.modeAt p = s.modeAt p := by
  unfold State.modeAt
  rw [State.ownPort_congr p same, funext same]

theorem SameEntries.modeAt {K : Nat → Nat → Prop} {s t : State} (same : SameEntries K s t) (apart : ∀ i j, K i j → j ≠ 0x01) (p : Nat) :
    t.modeAt p = s.modeAt p := State.modeAt_congr p fun _ => same.mode fun h => apart _ _ h rfl

/-- What the read of a module's identity is judged by and leaves at a position. -/
def State.recordView (s : State) (p : Nat) : (List Byte × List Byte × Nat × Nat × Nat) × Bool × Option Int × Nat :=
  ((s.blob (0x2100 + p) 0x11, s.blob (0x2100 + p) 0x0F, s.nat (0x2100 + p) 0x10, s.nat (0x2100 + p) 0x0E, s.modeAt p),
    (s.port p).torn, (s.port p).recordAsymmetry, (s.port p).moduleModes)

/-- The page has been read at a position: it is kept with the modes that the module declares. -/
def State.keepPage (s : State) (page : List Byte) (modes : BitVec 7) (q : Nat) : State :=
  (s.setBlob (0x2100 + q) 0x11 page).setPort q { (s.setBlob (0x2100 + q) 0x11 page).port q with moduleModes := modes.toNat }

/-- Page and record have been read at a position. -/
def State.readPosition (page record : List Byte) (modes : BitVec 7) (s : State) (q : Nat) : State :=
  ((s.keepPage page modes q).keepRecord q record).judgeModule q

theorem State.judgeModule_same (s : State) (q : Nat) : SameEntries (fun i j => i = 0x2100 + q ∧ j = 0x0E) s (s.judgeModule q) := by
  have shown : ∀ (v : Nat) (x : PortX), SameEntries (fun i j => i = 0x2100 + q ∧ j = 0x0E) s ((s.setNat (0x2100 + q) 0x0E v).setPort q x) :=
    fun v x => ((SameEntries.refl _ s).setNat (by decide) ⟨rfl, rfl⟩).of_regs rfl
  unfold State.judgeModule
  dsimp only
  split_ifs
  · exact shown _ _
  · exact shown _ _
  · exact (shown _ _).of_regs ((State.raise_only _ _ _ (.refl 0x140000000000000000 _) rfl).regs (by decide))

theorem State.judgeModule_shown (s : State) (q : Nat) : (s.judgeModule q).nat (0x2100 + q) 0x0E =
    if s.modeAt q = 0 ∨ (s.port q).moduleModes.testBit (s.modeAt q) = true then 2 else 3 := by
  have fits : s.moduleFits q = true ↔ s.modeAt q = 0 ∨ (s.port q).moduleModes.testBit (s.modeAt q) = true := by
    simp [State.moduleFits]
  simp only [← fits]
  unfold State.judgeModule
  dsimp only
  split_ifs
  · simp
  · simp
  · rw [State.nat_of_regs ((State.raise_only _ _ _ (.refl 0x140000000000000000 _) rfl).regs (by decide))]
    simp

/-- A judgement of a module writes of its port whether it may transmit. -/
theorem State.judgeModule_port (s : State) (q y : Nat) : ∃ off, (s.judgeModule q).port y = { s.port y with txDisable := off } := by
  have written : ∀ (v : Nat) (off : Bool), ∃ off', ((s.setNat (0x2100 + q) 0x0E v).setPort q { (s.setNat (0x2100 + q) 0x0E v).port q with txDisable := off }).port y =
      { s.port y with txDisable := off' } := by
    intro v off
    rw [State.port_setPort]
    split_ifs with here
    · subst here; exact ⟨off, rfl⟩
    · exact ⟨_, rfl⟩
  unfold State.judgeModule
  dsimp only
  split_ifs
  · exact written 2 false
  · exact written 3 _
  · rw [(State.raise_only _ _ _ (.refl 0x140000000000000000 _) rfl).port_kept (by decide)]
    exact written 3 _

theorem State.judgeModule_blob (s : State) (q i j : Nat) : (s.judgeModule q).blob i j = s.blob i j :=
  (State.judgeModule_only s q (.refl 0x140000000000000102 s) rfl).blob_kept (by decide) i j

theorem State.keepPage_blob (s : State) (page : List Byte) (modes : BitVec 7) (q i j : Nat) (hj : j < 256) :
    (s.keepPage page modes q).blob i j = if 0x2100 + q = i ∧ j = 0x11 then page else s.blob i j := by
  rw [State.keepPage, State.blob_setPort]
  split_ifs with here
  · rw [← here.1, here.2, State.blob_setBlob_same]
  · rw [State.blob_setBlob_ne _ _ (by rw [ne_eq, key_inj (by decide) hj]; omega)]

theorem State.keepRecord_blob (s : State) (record : List Byte) (q i j : Nat) (hj : j < 256) :
    (s.keepRecord q record).blob i j = if 0x2100 + q = i ∧ j = 0x0F then record else s.blob i j := by
  unfold State.keepRecord
  dsimp only
  rw [State.blob_setPort, State.setNat_eq, State.blob_setReg]
  split_ifs with here
  · rw [← here.1, here.2, State.blob_setBlob_same]
  · rw [State.blob_setBlob_ne _ _ (by rw [ne_eq, key_inj (by decide) hj]; omega)]

theorem State.readRecords_same (s : State) (page record : List Byte) (modes : BitVec 7) (q : Nat) :
    SameEntries (fun i j => i = 0x2100 + q ∧ j = 0x10) s ((s.keepPage page modes q).keepRecord q record) := by
  unfold State.keepRecord
  dsimp only
  exact (SameEntries.setNat (s := s) (t := (s.keepPage page modes q).setBlob (0x2100 + q) 0x0F record) (SameEntries.of_regs (.refl _ s) rfl) (by decide)
    ⟨rfl, rfl⟩).of_regs rfl

/-- What the read leaves of a position. -/
theorem State.readPosition_view (s : State) (page record : List Byte) (modes : BitVec 7) (q : Nat) :
    (s.readPosition page record modes q).recordView q =
      ((page, record, if (s.port q).torn = true ∧ recordStatus record ≠ 0 then 2 else recordStatus record,
        if s.modeAt q = 0 ∨ modes.toNat.testBit (s.modeAt q) = true then 2 else 3, s.modeAt q),
        false, if (s.port q).torn = true ∧ recordStatus record ≠ 0 then none else recordSays record, modes.toNat) := by
  generalize kept : (s.keepPage page modes q).keepRecord q record = a
  have same : SameEntries (fun i j => i = 0x2100 + q ∧ j = 0x10) s a := by
    rw [← kept]
    exact s.readRecords_same page record modes q
  have port : (s.keepPage page modes q).port q = { s.port q with moduleModes := modes.toNat } := by
    rw [State.keepPage, State.port_setPort, if_pos rfl]
    rfl
  have held : (a.port q).torn = false ∧
      (a.port q).recordAsymmetry = (if (s.port q).torn = true ∧ recordStatus record ≠ 0 then none else recordSays record) ∧
      (a.port q).moduleModes = modes.toNat := by
    rw [← kept, State.keepRecord, State.port_setPort, if_pos rfl]
    simp [port]
  have status : a.nat (0x2100 + q) 0x10 = if (s.port q).torn = true ∧ recordStatus record ≠ 0 then 2 else recordStatus record := by
    rw [← kept, State.keepRecord, State.nat_setPort, State.nat_setNat_same, port]
    simp
  have blobs : a.blob (0x2100 + q) 0x11 = page ∧ a.blob (0x2100 + q) 0x0F = record := by
    subst kept
    constructor
    · rw [State.keepRecord_blob _ _ _ _ _ (by decide), State.keepPage_blob _ _ _ _ _ _ (by decide)]
      simp
    · rw [State.keepRecord_blob _ _ _ _ _ (by decide), if_pos ⟨rfl, rfl⟩]
  have mode : a.modeAt q = s.modeAt q := same.modeAt (by omega) q
  obtain ⟨torn, asymmetry, declared⟩ := held
  obtain ⟨off, judged⟩ := a.judgeModule_port q q
  have judgedSame := a.judgeModule_same q
  unfold State.readPosition State.recordView
  rw [kept, a.judgeModule_blob, a.judgeModule_blob, blobs.1, blobs.2, judgedSame.nat (by decide) (by simp), status, a.judgeModule_shown,
    judgedSame.modeAt (by omega), mode, declared, judged]
  simp only [torn, asymmetry, declared]

theorem State.readPosition_other (s : State) (page record : List Byte) (modes : BitVec 7) {q y : Nat} (apart : y ≠ q) :
    (s.readPosition page record modes y).recordView q = s.recordView q := by
  generalize kept : (s.keepPage page modes y).keepRecord y record = a
  have same : SameEntries (fun i j => i = 0x2100 + y ∧ j = 0x10) s a := by
    rw [← kept]
    exact s.readRecords_same page record modes y
  have port : a.port q = s.port q := by
    rw [← kept, State.keepRecord, State.port_setPort, if_neg apart]
    exact (State.port_setPort ..).trans (if_neg apart)
  have blob : ∀ j < 256, a.blob (0x2100 + q) j = s.blob (0x2100 + q) j := fun j hj => by
    rw [← kept, State.keepRecord_blob _ _ _ _ _ hj, if_neg (by omega), State.keepPage_blob _ _ _ _ _ _ hj, if_neg (by omega)]
  obtain ⟨off, judged⟩ := a.judgeModule_port y q
  have judgedSame := a.judgeModule_same y
  unfold State.readPosition State.recordView
  rw [kept, a.judgeModule_blob, a.judgeModule_blob, blob _ (by decide), blob _ (by decide), judgedSame.nat (by decide) (by omega),
    judgedSame.nat (by decide) (by omega), judgedSame.modeAt (by omega), same.modeAt (by omega), same.nat (by decide) (by omega),
    same.nat (by decide) (by omega), judged, port]

theorem State.readPositions_view {s : State} {p q : Nat} (page record : List Byte) (modes : BitVec 7) (mem : q ∈ s.cagePorts p) :
    (s.eachPosition p (State.readPosition page record modes)).recordView q = (s.readPosition page record modes q).recordView q := by
  obtain ⟨a, before, after⟩ := foldl_seen (view := State.recordView) (s.cagePorts_nodup p) mem
    (fun a y _ apart => a.readPosition_other page record modes apart) s
  have torn : (a.port q).torn = (s.port q).torn := congrArg (fun v => v.2.1) before
  have mode : a.modeAt q = s.modeAt q := congrArg (fun v => v.1.2.2.2.2) before
  rw [State.eachPosition, after, State.readPosition_view, State.readPosition_view, torn, mode]

/-! ### The bus goes on -/

theorem State.servePolls_port (s : State) (c p : Nat) : ∃ values poll, (s.servePolls c).port p = { s.port p with diagnostics := values, waitingPoll := poll } := by
  unfold State.servePolls
  refine List.foldlRecOn (motive := fun a : State => ∃ values poll, a.port p = { s.port p with diagnostics := values, waitingPoll := poll }) _ _ ⟨_, _, rfl⟩
    fun a kept i _ => ?_
  obtain ⟨values, poll, kept⟩ := kept
  dsimp only
  split
  · rw [State.port_setPort]
    split_ifs with here
    · subst here; exact ⟨_, _, by rw [kept]⟩
    · exact ⟨values, poll, kept⟩
  · exact ⟨values, poll, kept⟩

theorem State.servePolls_view (s : State) (c p : Nat) : (s.servePolls c).recordView p = s.recordView p := by
  have frame := State.servePolls_only s c (.refl partPorts s) rfl
  obtain ⟨values, poll, port⟩ := s.servePolls_port c p
  unfold State.recordView
  rw [State.modeAt_congr p fun q => frame.nat_kept (by decide) _ _, frame.nat_kept (by decide), frame.nat_kept (by decide),
    frame.blob_kept (by decide), frame.blob_kept (by decide), port]

/-- A bus without record writes that goes on leaves what the reads have left. -/
theorem State.serveBus_view {s : State} {c : Nat} (reads : (s.busAt c).any BusAccess.isWrite = false) (p : Nat) :
    (s.serveBus c).recordView p = s.recordView p := by
  unfold State.serveBus
  match listed : s.busAt c with
  | [] => exact (State.servePolls_view _ c p).trans rfl
  | .read n :: l => rfl
  | .write n r ends :: l => rw [listed] at reads; simp [BusAccess.isWrite] at reads

theorem State.keepRecord_same (s : State) (q : Nat) (r : List Byte) : SameEntries (fun _ j => j = 0x10) s (s.keepRecord q r) := by
  unfold State.keepRecord
  dsimp only
  exact ((SameEntries.refl (fun _ j => j = 0x10) s).setBlob.setNat (by decide) rfl).of_regs rfl

theorem State.writeRecord_same (s : State) (n : Nat) (r : List Byte) (ends : RecordWriteEnd) :
    SameEntries (fun _ j => j = 0x10) s (s.writeRecord n r ends) := by
  have kept : SameEntries (fun _ j => j = 0x10) s (s.eachPosition n (fun a q => a.keepRecord q r)) :=
    List.foldlRecOn (motive := fun a : State => SameEntries (fun _ j => j = 0x10) s a) _ _ (.refl _ s) fun a kept q _ => kept.trans (a.keepRecord_same q r)
  have torn : (s.tearRecord n).regs = s.regs := (State.tearRecord_only s n (.refl 0x104 s) rfl).regs (by decide)
  unfold State.writeRecord
  by_cases absent : (!(s.port n).modulePresent) = true
  · rw [if_pos absent]
    exact (SameEntries.refl _ s).of_regs rfl
  · rw [if_neg absent]
    cases ends with
    | verified => exact kept.of_regs ((apply_ite State.regs _ _ _).trans (by split_ifs <;> rfl))
    | mismatch => exact (SameEntries.refl _ s).of_regs rfl
    | protectedModule => exact (SameEntries.refl _ s).of_regs rfl
    | moduleRemoved => exact (SameEntries.refl _ s).of_regs torn

/-- A bus that goes on writes the status of records, and no other entry. -/
theorem State.serveAccesses_same (l : List BusAccess) (s : State) (c : Nat) : SameEntries (fun _ j => j = 0x10) s (s.serveAccesses c l) := by
  induction l generalizing s with
  | nil => exact (SameEntries.refl _ s).of_regs ((State.servePolls_only _ c (.refl partPorts _) rfl).regs (by decide))
  | cons x l ih =>
    cases x with
    | read n => exact (SameEntries.refl _ s).of_regs rfl
    | write n r ends => exact (s.writeRecord_same n r ends).trans (ih _)

theorem State.selectPosition_cluster (s : State) (p : Nat) : s.selectPosition p / 4 = p / 4 := by
  unfold State.selectPosition
  split_ifs <;> omega

/-- The position of a cage whose read its bus runs is selected. -/
theorem State.modSelected_head {s : State} {p : Nat} (head : (s.busAt (p / 4)).head? = some (.read (s.selectPosition p))) :
    s.modSelected (s.selectPosition p) = true := by
  unfold State.modSelected
  rw [s.selectPosition_cluster, head]
  simp [State.accessAt]

theorem exec_moduleIdentityRead {p : PortId} {page record : List Byte} {modes : BitVec 7} {s : State} (reads : s.nat (0x2100 + p) 0x0E = 1)
    (head : (s.busAt (p / 4)).head? = some (.read (s.selectPosition p))) : exec (.moduleIdentityRead p page modes record) s =
    .next (((s.eachPosition p (State.readPosition page record modes)).endRead p).serveBus (p / 4)) :=
  congrArg _ (if_pos ⟨reads, State.modSelected_head head⟩)

/-- A module that has not become ready in time is unreadable at a position. -/
def State.unreadable (s : State) (q : Nat) : State :=
  if (s.setNat (0x2100 + q) 0x0E 4).ownPort q = some q then (s.setNat (0x2100 + q) 0x0E 4).raise (6 * q + 1) 0 else s.setNat (0x2100 + q) 0x0E 4

theorem State.unreadable_reads (s : State) (q : Nat) : (s.unreadable q).regs = (s.setNat (0x2100 + q) 0x0E 4).regs := by
  unfold State.unreadable
  split_ifs
  · exact (State.raise_only _ _ _ (.refl 0x140000000000000000 _) rfl).regs (by decide)
  · rfl

theorem exec_moduleReadyTimeout {p : PortId} {s : State} (reads : s.nat (0x2100 + p) 0x0E = 1) (cmis : s.nat (0x2100 + p) 0x08 = 3)
    (head : (s.busAt (p / 4)).head? = some (.read (s.selectPosition p))) :
    exec (.moduleReadyTimeout p) s = .next (((s.eachPosition p State.unreadable).endRead p).serveBus (p / 4)) :=
  congrArg _ (if_pos ⟨reads, State.modSelected_head head, cmis⟩)

theorem exec_diagnosticsPoll {p : PortId} {values : List Int} {s : State} (present : (s.port p).modulePresent = true) :
    exec (.diagnosticsPoll p values) s = .next (if s.busReads (p / 4) = true then s.setPort p { s.port p with waitingPoll := some values }
      else s.setPort p { s.port p with diagnostics := values }) := congrArg _ (if_neg (by simp [present]))

/-- Settles O10. -/
theorem moduleIdentityIsJudged : Obligations.ModuleIdentityIsJudged := by
  unfold Obligations.ModuleIdentityIsJudged
  refine ⟨fun p page record modes s reads head noWrite => ?read, fun p s reads cmis head => ?timeout, fun p values s present => ?poll⟩
  case read =>
    refine .of (exec_moduleIdentityRead reads head) fun q mem => ?_
    have bus : (s.eachPosition p (State.readPosition page record modes)).busQueue = s.busQueue :=
      List.foldlRecOn (motive := fun a : State => a.busQueue = s.busQueue) _ _ rfl fun a kept y _ =>
        ((State.judgeModule_only _ y (.refl 0x140000000000000102 _) rfl).busQueue (by decide)).trans kept
    have waits : (((s.eachPosition p (State.readPosition page record modes)).endRead p).busAt (p / 4)).any BusAccess.isWrite = false := by
      rw [List.any_eq_false] at noWrite ⊢
      intro x hx
      simp only [State.endRead, State.busAt, State.setBus, Sparse.get_set_same, bus] at hx
      exact noWrite x (List.mem_filter.1 hx).1
    have view := ((State.serveBus_view waits q).trans (State.readPositions_view page record modes mem)).trans (s.readPosition_view ..)
    unfold State.recordView at view
    simp only [Prod.mk.injEq] at view
    obtain ⟨⟨shown, kept, status, state, -⟩, torn, asymmetry, declared⟩ := view
    refine ⟨shown, kept, status, fun whole => ?_, torn, declared, state⟩
    rw [asymmetry, whole, if_neg (by simp)]
  case timeout =>
    refine .of (exec_moduleReadyTimeout reads cmis head) fun q mem => ?_
    have each : (s.eachPosition p State.unreadable).nat (0x2100 + q) 0x0E = 4 := by
      refine State.eachPosition_attains (After := fun a => a.nat (0x2100 + q) 0x0E = 4) mem (fun a => ?_) fun a y apart kept => ?_
      · rw [State.nat_of_regs (a.unreadable_reads q)]
        simp
      · rw [State.nat_of_regs (a.unreadable_reads y), State.setNat_eq, State.nat_setReg_at _ _ (by decide) (by decide), if_neg (by omega)]
        exact kept
    exact ((State.serveAccesses_same _ _ _).nat (by decide) (by decide)).trans each
  case poll =>
    have run := exec_diagnosticsPoll (values := values) present
    cases busy : s.busReads (p / 4)
    · rw [busy, if_neg (by decide)] at run
      exact .of run ⟨State.setPort_only s _ _ (.refl _ s) rfl, fun _ => State.port_setPort_same .., fun h => by cases h⟩
    · rw [busy, if_pos rfl] at run
      exact .of run ⟨State.setPort_only s _ _ (.refl _ s) rfl, fun h => (by cases h), fun _ => State.port_setPort_same ..⟩

end Sys2Proof.Machine

namespace Sys2Proof.Machine

/-! ## Link identity record write, module reset release, statistics clear (04 R100, R104, R108) -/

theorem exec_linkIdentityRecordWrite {role : Role} {p : PortId} {bytes : List Byte} {ends : RecordWriteEnd} {s : State}
    (admitted : s.admits role (0x2100 + p) 0x0F) (present : (s.port p).modulePresent = true) :
    exec (.linkIdentityRecordWrite role p bytes ends) s = .next (if bytes.length ≠ 64 then s.answer 0x07 64
      else if s.busReads (p / 4) = true then s.setBus (p / 4) (s.busAt (p / 4) ++ [.write p bytes ends]) else s.writeRecord p bytes ends) := by
  refine congrArg Host.Outcome.next ((State.hostWrite_admitted admitted _).trans ?_)
  simp only [present, Bool.and_true]

theorem State.keepRecord_torn (s : State) (r : List Byte) (y q : Nat) :
    ((s.keepRecord y r).port q).torn = if y = q then false else (s.port q).torn := by
  rw [State.keepRecord, State.port_setPort]
  split_ifs <;> rfl

theorem State.keepRecord_status (s : State) (r : List Byte) (y q : Nat) (whole : (s.port q).torn = false) :
    (s.keepRecord y r).nat (0x2100 + q) 0x10 = if y = q then recordStatus r else s.nat (0x2100 + q) 0x10 := by
  unfold State.keepRecord
  dsimp only
  rw [State.nat_setPort, State.setNat_eq, State.nat_setReg_at _ _ (by decide) (by decide)]
  by_cases here : y = q
  · subst here
    simp [whole]
  · rw [if_neg (by omega), if_neg here]
    rfl

/-- The record written is kept with its status at every position of the cage. -/
theorem State.keepRecords_kept {s : State} {p q : Nat} (r : List Byte) (mem : q ∈ s.cagePorts p) :
    (s.eachPosition p (fun a y => a.keepRecord y r)).blob (0x2100 + q) 0x0F = r ∧ ((s.port q).torn = false →
      (s.eachPosition p (fun a y => a.keepRecord y r)).nat (0x2100 + q) 0x10 = recordStatus r) := by
  constructor
  · refine State.eachPosition_attains (After := fun a => a.blob (0x2100 + q) 0x0F = r) mem (fun a => ?_) fun a y apart kept => ?_
    · rw [State.keepRecord_blob _ _ _ _ _ (by decide), if_pos ⟨rfl, rfl⟩]
    · rw [State.keepRecord_blob _ _ _ _ _ (by decide), if_neg (by omega)]
      exact kept
  · intro whole
    have torn : ∀ (a : State) (y : Nat), (a.port q).torn = false → ((a.keepRecord y r).port q).torn = false := fun a y whole => by
      rw [State.keepRecord_torn]
      split_ifs
      · rfl
      · exact whole
    have kept := foldl_attains (f := fun (a : State) y => a.keepRecord y r) (Before := fun a => (a.port q).torn = false)
      (After := fun a => (a.port q).torn = false ∧ a.nat (0x2100 + q) 0x10 = recordStatus r) mem
      (fun a whole => ⟨torn a q whole, by rw [a.keepRecord_status r q q whole, if_pos rfl]⟩) (fun a y _ whole => torn a y whole)
      (fun a y _ kept => ⟨torn a y kept.1, by rw [a.keepRecord_status r y q kept.1, kept.2, ite_self]⟩) whole
    exact kept.2

/-- A record that a removal leaves undefined is marked at every position of the cage. -/
theorem State.tearRecord_torn {s : State} {p q : Nat} (mem : q ∈ s.cagePorts p) : ((s.tearRecord p).port q).torn = true := by
  refine State.eachPosition_attains (After := fun a => (a.port q).torn = true) mem (fun a => ?_) fun a y apart kept => ?_
  · rw [State.port_setPort, if_pos rfl]
  · rw [State.port_setPort, if_neg apart]
    exact kept

theorem State.writeRecord_present {s : State} {p : Nat} (bytes : List Byte) (ends : RecordWriteEnd) (present : (s.port p).modulePresent = true) :
    s.writeRecord p bytes ends = match ends with
      | .verified => if crc32 (bytes.take 60) = numAt bytes 60 4 then (s.eachPosition p (fun a q => a.keepRecord q bytes)).done
          else (s.eachPosition p (fun a q => a.keepRecord q bytes)).ruleRefused 0
      | .mismatch => s.ruleRefused 0
      | .protectedModule => s.answer 0x13 0
      | .moduleRemoved => (s.tearRecord p).ruleRefused 0 := if_neg (by simp [present])

theorem State.writeRecord_verified {s : State} {p : Nat} {bytes : List Byte} (present : (s.port p).modulePresent = true) :
    ((s.writeRecord p bytes .verified).lastStatus = 0 ↔ crc32 (bytes.take 60) = numAt bytes 60 4) ∧
      ∀ q, q ∈ s.cagePorts p → (s.writeRecord p bytes .verified).blob (0x2100 + q) 0x0F = bytes ∧
        ((s.port q).torn = false → (s.writeRecord p bytes .verified).nat (0x2100 + q) 0x10 = recordStatus bytes) := by
  rw [State.writeRecord_present bytes .verified present]
  dsimp only
  by_cases whole : crc32 (bytes.take 60) = numAt bytes 60 4
  · rw [if_pos whole]
    exact ⟨iff_of_true rfl whole, fun q mem => State.keepRecords_kept bytes mem⟩
  · rw [if_neg whole]
    exact ⟨iff_of_false (fun h : 9 = 0 => absurd h (by decide)) whole, fun q mem => State.keepRecords_kept bytes mem⟩

/-- The 10 µs of a module reset are over. -/
def State.endResetWait (s : State) (c : Nat) : State := { s with modResetWait := setBit s.modResetWait c false }

theorem exec_modResetRelease {c : ClusterId} {s : State} (waits : s.modResetWait.testBit c = true) : exec (.modResetRelease c) s = .next
    (if s.fourLaneCage c = true ∧ (!s.clusterFenced c) = true ∧ (!s.coldRunning) = true then (s.endResetWait c).putModReset c false
      else s.endResetWait c) := congrArg _ (if_pos waits)

/-- The counters of a port's statistics are zeroed, but for those with an event in the same cycle. -/
def State.zeroStatistics (s : State) (p : Nat) (coincident : List (Fin 16)) : State :=
  ((items 16).map (· + 1)).foldl (fun a k =>
    if k = 0x0F then a else a.setNat (0x2200 + p) k (ofBool (coincident.any (fun i => i.val + 1 == k)))) s

theorem exec_statisticsClear {role : Role} {p : PortId} {coincident : List (Fin 16)} {s : State} (admitted : s.admits role (0x2200 + p) 0x0F) :
    exec (.statisticsClear role p coincident) s = .next ((s.zeroStatistics p coincident).setPort p
      { s.port p with fecSince := (s.port p).fecSince.map (fun _ => s.now) }).done := by
  refine congrArg Host.Outcome.next ((State.hostWrite_admitted admitted _).trans ?_)
  unfold State.zeroStatistics
  with_reducible rfl

theorem State.zeroStatistics_same (s : State) (p : Nat) (coincident : List (Fin 16)) :
    SameEntries (fun i j => i = 0x2200 + p ∧ 1 ≤ j ∧ j ≤ 16 ∧ j ≠ 15) s (s.zeroStatistics p coincident) := by
  refine List.foldlRecOn (motive := fun a : State => SameEntries (fun i j => i = 0x2200 + p ∧ 1 ≤ j ∧ j ≤ 16 ∧ j ≠ 15) s a) _ _ (.refl _ s)
    fun a kept k mem => ?_
  obtain ⟨i, hi, rfl⟩ := List.mem_map.1 mem
  have := List.mem_range.1 hi
  split_ifs
  · exact kept
  · exact kept.setNat (by omega) ⟨rfl, by omega, by omega, by omega⟩

theorem State.zeroStatistics_zero (s : State) (p : Nat) (coincident : List (Fin 16)) (i : Fin 16) (counter : i.val ≠ 14) :
    (s.zeroStatistics p coincident).nat (0x2200 + p) (i + 1) = if i ∈ coincident then 1 else 0 := by
  have mem : i.val + 1 ∈ (items 16).map (· + 1) := List.mem_map.2 ⟨i, List.mem_range.2 i.isLt, rfl⟩
  have value : (if i ∈ coincident then 1 else 0) = ofBool (coincident.any (fun k => k.val + 1 == i.val + 1)) := by
    have any : coincident.any (fun k => k.val + 1 == i.val + 1) = decide (i ∈ coincident) := by
      rw [Bool.eq_iff_iff, List.any_eq_true, decide_eq_true_iff]
      constructor
      · rintro ⟨k, hk, same⟩
        rwa [show k = i from Fin.ext (by simpa using same)] at hk
      · exact fun hi => ⟨i, hi, by simp⟩
    rw [any]
    by_cases hi : i ∈ coincident <;> simp [hi, ofBool]
  have bounded : ∀ k ∈ (items 16).map (· + 1), k < 256 := fun k mem => by
    obtain ⟨n, hn, rfl⟩ := List.mem_map.1 mem
    have := List.mem_range.1 hn
    omega
  rw [value]
  refine foldl_attains (Before := fun _ => True)
    (After := fun a : State => a.nat (0x2200 + p) (i + 1) = ofBool (coincident.any (fun k => k.val + 1 == i.val + 1))) mem
    (fun a _ => ?_) (fun _ _ _ _ => trivial) (fun a k mem' kept => ?_) trivial
  · rw [if_neg (by omega), State.nat_setNat_same]
  · by_cases same : k = i.val + 1
    · subst same; rw [if_neg (by omega), State.nat_setNat_same]
    · split_ifs
      · exact kept
      · rw [State.setNat_eq, State.nat_setReg_at _ _ (bounded k mem') (by omega), if_neg (by omega)]
        exact kept

/-- Settles O11. -/
theorem recordWriteResetAndStatistics : Obligations.RecordWriteResetAndStatistics := by
  unfold Obligations.RecordWriteResetAndStatistics
  refine ⟨fun role p bytes ends s admitted present idle => ?write, fun role p bytes ends s admitted present busy long => ?wait,
    fun c s waits => ?release, fun role p coincident s admitted => ?clear⟩
  case write =>
    have run := exec_linkIdentityRecordWrite (bytes := bytes) (ends := ends) admitted present
    by_cases long : bytes.length = 64
    · rw [if_neg (by omega), idle, if_neg (by decide)] at run
      refine .of run ⟨fun h => absurd long h, ?_, ?_, ?_, ?_⟩
      · rintro - rfl
        rw [State.writeRecord_present bytes _ present]
        exact ⟨rfl, State.ruleRefused_only s 0 (.refl _ s) rfl⟩
      · rintro - rfl
        rw [State.writeRecord_present bytes _ present]
        exact ⟨rfl, State.answer_only s _ _ (.refl _ s) rfl⟩
      · rintro - rfl
        exact State.writeRecord_verified present
      · rintro - rfl
        rw [State.writeRecord_present bytes _ present]
        exact ⟨rfl, fun q mem => State.tearRecord_torn mem⟩
    · rw [if_pos long] at run
      exact .of run ⟨fun _ => rfl, fun h => absurd h long, fun h => absurd h long, fun h => absurd h long, fun h => absurd h long⟩
  case wait =>
    have run := exec_linkIdentityRecordWrite (bytes := bytes) (ends := ends) admitted present
    rw [if_neg (by omega), if_pos busy] at run
    exact .of run ⟨Sparse.get_set_same .., State.setBus_only s _ _ (.refl _ s) rfl⟩
  case release =>
    have run := exec_modResetRelease waits
    have frame := fun t (h : exec (.modResetRelease c) s = .next t) =>
      (execModResetRelease_only c s (.refl (partModReset ||| partModResetWait) s) rfl).of_next h
    have waited : (s.endResetWait c).modResetWait.testBit c = false := (testBit_setBit ..).trans (if_pos rfl)
    by_cases free : s.fourLaneCage c = true ∧ (!s.clusterFenced c) = true ∧ (!s.coldRunning) = true
    · rw [if_pos free] at run
      refine .of run ⟨waited, ?_, frame _ run⟩
      rw [free.1, free.2.1, free.2.2]
      exact ((testBit_setBit ..).trans (if_pos rfl)).trans (by simp)
    · rw [if_neg free] at run
      have held : (s.fourLaneCage c && !s.clusterFenced c && !s.coldRunning) = false := by
        rw [Bool.eq_false_iff]
        simpa [and_assoc] using free
      refine .of run ⟨waited, ?_, frame _ run⟩
      rw [held]
      exact (Bool.and_true _).symm
  case clear =>
    refine .of (exec_statisticsClear admitted) ⟨rfl, fun i counter => ?_, ?_⟩
    · rw [State.nat_done, State.nat_setPort]
      exact s.zeroStatistics_zero p coincident i counter
    · exact (s.zeroStatistics_same p coincident).of_regs rfl

end Sys2Proof.Machine

namespace Sys2Proof.Machine

/-! ## A frame arrives and is looked up once (05 R110, R111) -/

/-- A lookup has come to its end: the window stands in the frame, which is discarded or has its way. -/
structure RxFrame.LookedUp (f : RxFrame) (w : List Byte) : Prop where
  window : f.window = w
  ended : (f.discarded || f.desc.isSome) = true

theorem RxFrame.drop_lookedUp (f : RxFrame) : f.drop.LookedUp f.window := ⟨rfl, rfl⟩

theorem RxFrame.LookedUp.ite {c : Prop} [Decidable c] {x y : State × RxFrame} {w : List Byte} (yes : x.2.LookedUp w) (no : y.2.LookedUp w) :
    (if c then x else y).2.LookedUp w := by
  split <;> assumption

theorem State.finish_lookedUp (s : State) (p vid vlan pcp : Nat) (h : Head) (f : RxFrame) (action hit stream : Option Nat) (ipv : Nat)
    (known : Option Nat) : (s.finish p vid vlan pcp h f action hit stream ipv known).2.LookedUp f.window := by
  unfold State.finish
  extract_lets
  refine .ite f.drop_lookedUp (.ite f.drop_lookedUp (.ite f.drop_lookedUp (.ite f.drop_lookedUp ⟨?_, ?_⟩)))
  · rfl
  · exact Bool.or_true _

theorem State.lookup_lookedUp (s : State) (p : Nat) (f : RxFrame) (w : List Byte) : (s.lookup p f w).2.LookedUp w := by
  unfold State.lookup
  extract_lets
  refine .ite (RxFrame.drop_lookedUp _) ?_
  split
  · exact RxFrame.drop_lookedUp _
  · exact .ite (RxFrame.drop_lookedUp _) (.ite (RxFrame.drop_lookedUp _) (.ite (RxFrame.drop_lookedUp _) (.ite (RxFrame.drop_lookedUp _)
      (State.finish_lookedUp ..))))

theorem State.lookup_control {s : State} {p : Nat} {f : RxFrame} {w : List Byte} (control : numAt w 12 2 = 0x8808) :
    s.lookup p f w = (s.inc64 (0x2200 + p) 0x06, { f with window := w }.drop) := if_pos control

theorem State.lookup_turnedAway {s : State} {p : Nat} {f : RxFrame} {w : List Byte} {k : Nat} (plain : numAt w 12 2 ≠ 0x8808)
    (away : s.vlanStage p (s.assignVid p (parseHead w)) (parseHead w) = some k) :
    s.lookup p f w = (s.countDiscard p k, { f with window := w }.drop) := by
  refine (if_neg plain).trans ?_
  dsimp only
  rw [away]

theorem numAt_take (l : List Byte) {o n m : Nat} (inside : o + n ≤ m) : numAt (l.take m) o n = numAt l o n := by
  unfold numAt slice
  rw [List.drop_take, List.take_take, Nat.min_eq_left (by omega)]

/-- The frame of a port with its cluster's unreadable entries, as a lookup sees it. -/
def State.withUnreadable (s : State) (p : Nat) (unreadable : List (TableId × Nat)) : State :=
  { s with invalid := s.invalid ++ unreadable.map (fun (e : TableId × Nat) => (p / 4, e.1.val, e.2)) }

theorem exec_lookupWindowComplete {p : PortId} {window : List Byte} {unreadable : List (TableId × Nat)} {s : State} {f : RxFrame}
    (receives : s.rxAt p = some f) (new : f.desc = none) (kept : f.discarded = false) (first : f.cells = 0) (long : 64 ≤ window.length) :
    exec (.lookupWindowComplete p window unreadable) s =
      .next (({ ((s.withUnreadable p unreadable).lookup p f (window.take 128)).1 with invalid := s.invalid } : State).setRx p
        (some ((s.withUnreadable p unreadable).lookup p f (window.take 128)).2)) := by
  have goes : ¬(f.desc.isSome || f.discarded || f.cells != 0 || decide (window.length < 64)) = true := by
    simp [new, kept, first]; omega
  change execLookupWindowComplete p window unreadable s = _
  unfold execLookupWindowComplete
  rw [receives]
  exact if_neg goes

/-- The frame whose first bit has crossed the boundary of a port, at its start behind the instant of the hub. -/
def State.newFrame (s : State) (p : Nat) (behind : Int) : RxFrame := {
  stamps := (items 8).map (fun k => s.referReceive p (s.clusterNow (p / 4) k + behind))
  epochs := (items 8).map (s.clusterEpoch (p / 4))
  flags := s.stampFlags p 0 false % 32
  raw := s.clusterNow (p / 4) 0 + behind
  secured := s.flag (0x2100 + p) 0x07
  associated := s.receives p
  number := Sparse.get 0 s.frameCount p % 512
  serial := Sparse.get 0 s.frameCount p }

/-- A reception opens with a frame, the next of its port. -/
def State.openRx (s : State) (p : Nat) (behind : Int) : State :=
  { s with frameCount := Sparse.set 0 s.frameCount p (Sparse.get 0 s.frameCount p + 1) }.setRx p (some (s.newFrame p behind))

theorem exec_frameArrival {p : PortId} {edge : StartEdge} {s : State} (up : s.portUp p = true) (served : s.portFenced p = false) (safe : s.isSafe = false)
    (free : s.rxAt p = none) : exec (.frameArrival p edge) s =
      .next ((s.frameStart p (s.timingLane p) edge).2.openRx p (s.frameStart p (s.timingLane p) edge).1) := by
  change (if _ then _ else _) = _
  rw [if_neg (by simp [up, served, safe, free])]
  rfl

theorem State.clusterNow_congr {s t : State} (c k : Nat) (replicas : t.replicas = s.replicas) (tbs : t.tbs = s.tbs) :
    t.clusterNow c k = s.clusterNow c k := by
  unfold State.clusterNow State.replica State.tbNow State.tb
  rw [replicas, tbs]

/-- Settles O12. -/
theorem frameReceptionOpensAndLooksUp : Obligations.FrameReceptionOpensAndLooksUp := by
  unfold Obligations.FrameReceptionOpensAndLooksUp
  refine ⟨fun p edge s up served safe free => ?arrival, fun p window unreadable s f receives new kept first long => ?lookup⟩
  case arrival =>
    have run := exec_frameArrival (edge := edge) up served safe free
    have frame := (execFrameArrival_only p edge s (.refl (partRx ||| partFrameCount ||| partDetectors) s) rfl).of_next run
    have started := State.frameStart_only s p (s.timingLane p) edge (.refl partDetectors s) rfl
    generalize s.frameStart p (s.timingLane p) edge = start at *
    have count : start.2.frameCount = s.frameCount := started.frameCount (by decide)
    have opened : (start.2.openRx p start.1).rxAt p = some (start.2.newFrame p start.1) := State.rxAt_setRx_same ..
    refine .of run ⟨?_, ?_, ?_, ?_, ?_, fun q apart => ?_, frame⟩
    · rw [opened, ← count]; rfl
    · rw [opened, ← State.clusterNow_congr (p / 4) 0 (started.replicas (by decide)) (started.tbs (by decide))]; rfl
    · rw [opened]; simp [State.newFrame, items]
    · rw [opened]; rfl
    · rw [← count]; exact Sparse.get_set_same 0 start.2.frameCount p.val (Sparse.get 0 start.2.frameCount p + 1)
    · refine (State.rxAt_setRx ..).trans ((if_neg (Ne.symm apart)).trans ?_)
      exact started.rxAt_kept (by decide) q
  case lookup =>
    have run := exec_lookupWindowComplete (unreadable := unreadable) receives new kept first long
    have same : numAt (window.take 128) 12 2 = numAt window 12 2 := numAt_take window (by decide)
    have ends := (s.withUnreadable p unreadable).lookup_lookedUp p f (window.take 128)
    refine .of run ⟨rfl, ?_, ?_, fun k plain away => ?_, fun control => ⟨?_, ?_⟩⟩
    · rw [State.rxAt_setRx_same]; exact congrArg some ends.window
    · rw [State.rxAt_setRx_same]; exact congrArg some ends.ended
    · rw [State.lookup_turnedAway (s := s.withUnreadable p unreadable) (by rw [same]; exact plain) away, State.rxAt_setRx_same]; rfl
    · rw [State.lookup_control (by rw [same]; exact control), State.rxAt_setRx_same]; rfl
    · rw [State.lookup_control (by rw [same]; exact control), State.nat_setRx]
      exact State.nat_addSat_same ..

end Sys2Proof.Machine

namespace Sys2Proof.Machine

/-! ## Cells fill and the tail ends the reception (05 R135, R136; 07 R179) -/

/-- The packet that a cluster's crossing held open ends, and nothing but the crossing changes. -/
theorem State.closePacket_cluster (s : State) {x : Nat} (hx : x < 24) : Only partCrossings s (s.closePacket x) := by
  have flushed : s.completeFlush x = s.setCrossing x {} := by
    unfold State.completeFlush
    rw [if_neg (by omega)]
  unfold State.closePacket
  dsimp only
  rw [flushed]
  split_ifs
  · exact State.setCrossing_only s _ _ (.refl _ s) rfl
  · exact State.setCrossing_only s _ _ (.refl _ s) rfl
  · exact .refl _ s

theorem State.drawCell_congr {s t : State} (g : Nat) (pools : List Nat) (regs : t.regs = s.regs) (used : (t.region g).used = (s.region g).used)
    (withdrawn : (t.region g).withdrawn = (s.region g).withdrawn) : (t.drawCell g pools).isSome = (s.drawCell g pools).isSome := by
  have free : ∀ k, t.poolFree g k = s.poolFree g k := fun k => by
    unfold State.poolFree State.poolSize State.nat State.reg
    rw [regs, used, withdrawn]
  induction pools with
  | nil => rfl
  | cons k pools ih =>
    unfold State.drawCell
    rw [free]
    split_ifs
    · rfl
    · exact ih

/-! ### The length of a frame -/

/-- A frame within every limit of its length goes on. -/
theorem State.judgeLength_within {s : State} {p : Nat} {f : RxFrame} (short : f.bytes ≤ s.nat (0x2100 + p) 0x06) (sdu : f.maxSdu = 0)
    (length : f.maxLength = 0) : s.judgeLength p f = (s, f, false) := by
  have maximum : s.judgeMaximum p f = (s, f, false) := if_neg (by simp; omega)
  have unit : s.judgeSdu p f = (s, f, false) := if_neg (by simp [sdu])
  unfold State.judgeLength
  rw [maximum]
  dsimp only
  rw [unit]
  exact if_neg (by simp [length])

/-- What the limits do to a frame that was discarded: of its length it is told whether it has passed the maximum frame. -/
structure RxFrame.JudgedAs (f g : RxFrame) (oversize : Bool) : Prop where
  discarded : g.discarded = f.discarded
  bytes : g.bytes = f.bytes
  unassociated : g.unassociated = f.unassociated
  oversize : g.oversize = oversize

theorem State.judgeSdu_discarded (s : State) (p : Nat) {f : RxFrame} (gone : f.discarded = true) :
    ∃ t sdu long, s.judgeSdu p f = (t, { f with maxSdu := sdu }, long) ∧ Only partStreams s t := by
  unfold State.judgeSdu
  dsimp only
  by_cases long : f.maxSdu ≠ 0 ∧ f.maxSdu < f.bytes
  · rw [if_pos long, if_pos gone]
    refine ⟨_, 0, true, rfl, ?_⟩
    cases f.stream with
    | none => exact .refl _ s
    | some i => exact State.blockStream_only s i (.refl _ s) rfl
  · exact ⟨s, f.maxSdu, false, if_neg long, .refl _ s⟩

theorem State.judgeLength_discarded (s : State) (p : Nat) {f : RxFrame} (gone : f.discarded = true) (counted : f.oversize = false) :
    ∃ t g close, s.judgeLength p f = (t, g, close) ∧ f.JudgedAs g (decide (s.nat (0x2100 + p) 0x06 < f.bytes)) ∧
      Only partStreams (if s.nat (0x2100 + p) 0x06 < f.bytes then s.inc64 (0x2200 + p) 0x05 else s) t := by
  obtain ⟨t₀, f₀, above, maximum, judged, state⟩ : ∃ t₀ f₀ above, s.judgeMaximum p f = (t₀, f₀, above) ∧
      f.JudgedAs f₀ (decide (s.nat (0x2100 + p) 0x06 < f.bytes)) ∧
      t₀ = if s.nat (0x2100 + p) 0x06 < f.bytes then s.inc64 (0x2200 + p) 0x05 else s := by
    unfold State.judgeMaximum
    rw [counted]
    by_cases long : s.nat (0x2100 + p) 0x06 < f.bytes
    · refine ⟨_, _, _, if_pos (by simp [long]), ?_, by rw [if_pos long]⟩
      split_ifs <;> exact ⟨by simp [RxFrame.drop, gone], rfl, rfl, by simp [long]⟩
    · exact ⟨s, f, false, if_neg (by simp [long]), ⟨rfl, rfl, rfl, by simp [long, counted]⟩, by rw [if_neg long]⟩
  have gone₀ : f₀.discarded = true := judged.discarded.trans gone
  obtain ⟨t, sdu, long, unit, frame⟩ := t₀.judgeSdu_discarded p gone₀
  refine ⟨t, { f₀ with maxSdu := sdu }, above || long, ?_, ⟨judged.discarded, judged.bytes, judged.unassociated, judged.oversize⟩, state ▸ frame⟩
  unfold State.judgeLength
  rw [maximum]
  dsimp only
  rw [unit]
  exact if_neg (by simp [gone₀])

/-! ### Filling cells -/

/-- The frame has one cell more, and as many bytes. -/
structure RxFrame.Filled (f g : RxFrame) : Prop where
  cells : g.cells = f.cells + 1
  bytes : g.bytes = f.bytes

theorem RxFrame.Filled.ite {c : Prop} [Decidable c] {x y : State × RxFrame} {f : RxFrame} (yes : f.Filled x.2) (no : f.Filled y.2) :
    f.Filled (if c then x else y).2 := by
  split <;> assumption

/-- A cell that finds a free place counts in its frame. -/
theorem State.fillCell_filled {s : State} {p : Nat} {f : RxFrame} {d : Descriptor} (payload : List Byte) (way : f.desc = some d)
    (free : (s.drawCell (p / 12) (ingressPools d.contracted)).isSome = true) : f.Filled (s.fillCell p f payload false false).2 := by
  obtain ⟨⟨k, a⟩, drawn⟩ := Option.isSome_iff_exists.1 free
  unfold State.fillCell
  extract_lets g contracted s0
  have pools : contracted = d.contracted := by simp [contracted, way]
  rw [pools, show s.drawCell g (ingressPools d.contracted) = some (k, a) from drawn]
  dsimp -zeta only
  extract_lets h x i
  have filled : f.Filled i := by
    simp only [i, h]
    split_ifs <;> exact ⟨rfl, rfl⟩
  by_cases prp : a.inPair p 0 = true
  · rw [if_pos (by simp [prp])]
    exact ⟨filled.cells, filled.bytes⟩
  · rw [if_neg (by simp [prp]), if_neg prp]
    refine .ite ?_ filled
    split
    · exact .ite ⟨filled.cells, filled.bytes⟩ filled
    · exact filled

/-! ### The commands -/

/-- The frame with the payload of its next cell. -/
def State.extend (s : State) (f : RxFrame) (payload : List Byte) : RxFrame := s.keepEcho { f with bytes := f.bytes + payload.length } payload

theorem State.extend_eq (s : State) (f : RxFrame) (payload : List Byte) :
    s.extend f payload = s.keepEcho { f with bytes := f.bytes + payload.length } payload := by rw [State.extend]

theorem State.extend_desc (s : State) (f : RxFrame) (payload : List Byte) : (s.extend f payload).desc = f.desc ∧
    (s.extend f payload).cells = f.cells ∧ (s.extend f payload).bytes = f.bytes + payload.length ∧
    (s.extend f payload).discarded = f.discarded ∧ (s.extend f payload).oversize = f.oversize ∧ (s.extend f payload).maxSdu = f.maxSdu ∧
    (s.extend f payload).maxLength = f.maxLength ∧ (s.extend f payload).unassociated = f.unassociated := by
  unfold State.extend State.keepEcho
  split_ifs <;> exact ⟨rfl, rfl, rfl, rfl, rfl, rfl, rfl, rfl⟩

theorem exec_cellFill {p : PortId} {payload : List Byte} {s a : State} {f : RxFrame} {d : Descriptor} (boundary : s.closePacket (p / 4) = a)
    (receives : a.rxAt p = some f) (way : f.desc = some d) (kept : f.discarded = false)
    (within : a.judgeLength p (a.extend f payload) = (a, a.extend f payload, false)) :
    exec (.cellFill p payload) s = .next ((a.fillCell p (a.extend f payload) payload false false).1.setRx p
      (some (a.fillCell p (a.extend f payload) payload false false).2)) := by
  obtain ⟨desc, -, -, discarded, -⟩ := a.extend_desc f payload
  change execCellFill p payload s = _
  unfold execCellFill
  rw [boundary]
  dsimp only
  rw [receives]
  dsimp only
  rw [← State.extend_eq, within]
  dsimp only
  rw [if_neg (by simp [desc, discarded, way, kept]), if_neg (by decide)]

/-- What follows a tail at the device: what is learned, and an answer on IPv6. -/
def State.tailFollows (s : State) (p : Nat) (f : RxFrame) (acts : Bool) : State :=
  let s := if acts then
      match f.learn with
      | some (fid, mac) => s.learnMessage fid mac p
      | none => s
    else s
  if acts then s.answerIpv6 p f else s

/-- The frame at its tail is good and acts. -/
def RxFrame.goodTail (f : RxFrame) (kind : TailKind) : Bool :=
  decide (kind = TailKind.good) && decide (64 ≤ f.bytes) && !f.oversize && !f.unassociated

/-- The end of a reception, judged: the frame is counted, acts and closes. -/
def State.tailEnds (s : State) (p : Nat) (kind : TailKind) (payload : List Byte) (room : Nat) (f : RxFrame) (close : Bool) : State :=
  if f.discarded || f.desc.isNone then (s.countTail p f kind).tailFollows p f (f.goodTail kind && !close)
  else (((s.countTail p f kind).tailFollows p f (f.goodTail kind && !close)).fillCell p f (payload.take room) true (!f.goodTail kind || close)).1

theorem exec_frameTail {p : PortId} {kind : TailKind} {payload : List Byte} {s a t : State} {f g : RxFrame} {close : Bool}
    (boundary : s.closePacket (p / 4) = a) (receives : a.rxAt p = some f)
    (judged : (a.setRx p none).judgeLength p (a.extend f payload) = (t, g, close)) :
    exec (.frameTail p kind payload) s = .next (t.tailEnds p kind payload (a.nat (0x2100 + p) 0x06 + 1 - f.bytes) g close) := by
  change execFrameTail p kind payload s = _
  unfold execFrameTail
  rw [boundary]
  dsimp only
  rw [receives]
  dsimp only
  rw [← State.extend_eq, judged]
  exact (apply_ite Host.Outcome.next _ _ _).symm

theorem State.tailFollows_only (s : State) (p : Nat) (f : RxFrame) (acts : Bool) : Only 0x60000042 s (s.tailFollows p f acts) := by
  unfold State.tailFollows
  dsimp only
  have learned : Only 0x60000042 s (if acts = true then (match f.learn with
      | some (fid, mac) => s.learnMessage fid mac p
      | none => s) else s) := by
    split
    · split
      · exact State.learnMessage_only s _ _ p (.refl _ s) rfl
      · exact .refl _ s
    · exact .refl _ s
  exact .ite (State.answerIpv6_only _ p f learned rfl) learned

/-- What follows a tail writes no counter of a port. -/
theorem State.tailFollows_same (s : State) (p : Nat) (f : RxFrame) (acts : Bool) :
    SameEntries (fun i _ => i = 0x3000) s (s.tailFollows p f acts) := by
  have learned : ∀ (fid mac : Nat), SameEntries (fun i _ => i = 0x3000) s (s.learnMessage fid mac p) := fun fid mac => by
    unfold State.learnMessage
    dsimp only
    split_ifs
    all_goals first
      | exact (SameEntries.refl _ s).of_regs rfl
      | exact (SameEntries.refl _ s).setNat (by decide) rfl
  have answered : ∀ t : State, (t.answerIpv6 p f).regs = t.regs := fun t => (State.answerIpv6_only t p f (.refl 0x40 t) rfl).regs (by decide)
  unfold State.tailFollows
  dsimp only
  cases acts
  · exact .refl _ s
  · rw [if_pos rfl, if_pos rfl]
    refine SameEntries.of_regs ?_ (answered _)
    split
    · exact learned _ _
    · exact .refl _ s

theorem State.tailEnds_rx (s : State) (p : Nat) (kind : TailKind) (payload : List Byte) (room : Nat) (f : RxFrame) (close : Bool) :
    (s.tailEnds p kind payload room f close).rx = s.rx := by
  have counted := State.countTail_only s p f kind (.refl 0x140000000660001042 s) rfl
  have follows : Only 0x140000000660001042 s ((s.countTail p f kind).tailFollows p f (f.goodTail kind && !close)) :=
    Only.step counted (State.tailFollows_only _ p f _) rfl
  unfold State.tailEnds
  split_ifs
  · exact follows.rx (by decide)
  · exact (State.fillCell_only _ p f _ _ _ follows rfl).rx (by decide)

theorem State.tailEnds_discarded (s : State) (p : Nat) (kind : TailKind) (payload : List Byte) (room : Nat) {f : RxFrame} (close : Bool)
    (gone : f.discarded = true) : s.tailEnds p kind payload room f close = (s.countTail p f kind).tailFollows p f (f.goodTail kind && !close) :=
  if_pos (by rw [gone]; rfl)

/-- The counters of a port at the tail of a frame that was discarded are those of how it ended. -/
theorem State.tailEnds_counters (s : State) {p : Nat} (hp : p < 96) (kind : TailKind) (payload : List Byte) (room : Nat) {f : RxFrame} (close : Bool)
    (gone : f.discarded = true) : (s.tailEnds p kind payload room f close).regions = s.regions ∧
      (kind = .cut → (s.tailEnds p kind payload room f close).regs = (s.countTail p f kind).regs) ∧
      ∀ j < 256, (s.tailEnds p kind payload room f close).nat (0x2200 + p) j = (s.countTail p f kind).nat (0x2200 + p) j := by
  rw [s.tailEnds_discarded p kind payload room close gone]
  refine ⟨?_, ?_, fun j hj => (State.tailFollows_same _ p f _).nat hj (by omega)⟩
  · rw [(State.tailFollows_only _ p f _).regions (by decide), (State.countTail_only s p f kind (.refl 0x2 s) rfl).regions (by decide)]
  · rintro rfl
    rfl

theorem State.countTail_eq (s : State) (p : Nat) {f : RxFrame} {kind : TailKind} (whole : f.oversize = false) : s.countTail p f kind =
    match kind with
    | .good => if f.bytes < 64 then s.inc64 (0x2200 + p) 0x04 else if f.unassociated then s.inc64 (0x2200 + p) 0x0C else s.countGood p f
    | .fcsError => if f.bytes < 64 then s.inc64 (0x2200 + p) 0x04 else s.inc64 (0x2200 + p) 0x03
    | .oversize => s.inc64 (0x2200 + p) 0x05
    | .macsecFail => s.inc64 (0x2200 + p) 0x0C
    | .cut => s := (if_neg (by rw [whole]; decide)).trans (by cases kind <;> rfl)

/-- A good frame counts among the frames, and its bytes among the bytes. -/
theorem State.countGood_counts (s : State) (p : Nat) (f : RxFrame) :
    (s.countGood p f).nat (0x2200 + p) 0x02 = min (s.nat (0x2200 + p) 0x02 + 1) (2 ^ 64 - 1) ∧
      (s.countGood p f).nat (0x2200 + p) 0x01 = min (s.nat (0x2200 + p) 0x01 + f.bytes) (2 ^ 64 - 1) := by
  have frames : ∀ j < 3, (s.countGood p f).nat (0x2200 + p) j = ((s.addSat (0x2200 + p) 0x01 64 f.bytes).inc64 (0x2200 + p) 0x02).nat (0x2200 + p) j := by
    intro j hj
    unfold State.countGood
    dsimp only
    split_ifs
    · exact ((SameEntries.refl (fun _ j => j = 0x0D) _).setNat (by decide) rfl).nat (by omega) (by omega)
    · rfl
  rw [frames 2 (by decide), frames 1 (by decide)]
  constructor
  · refine (State.nat_addSat_same ..).trans ?_
    rw [State.addSat_eq, State.nat_setReg_at _ _ (by decide) (by decide), if_neg (by simp)]
  · rw [State.inc64_eq, State.addSat_eq _ _ 0x02, State.nat_setReg_at _ _ (by decide) (by decide), if_neg (by simp)]
    exact State.nat_addSat_same ..

/-- Settles O13. -/
theorem frameCellsAndTail : Obligations.FrameCellsAndTail := by
  unfold Obligations.FrameCellsAndTail
  refine ⟨fun p payload s f receives d way kept sdu length short free => ?fill, fun p kind payload s f receives => ?tail⟩
  all_goals
    have boundary := s.closePacket_cluster (x := p / 4) (by omega)
    generalize closed : s.closePacket (p / 4) = a at boundary
    have receives' : a.rxAt p = some f := (boundary.rxAt_kept (by decide) p).trans receives
    have maximum : a.nat (0x2100 + p) 0x06 = s.nat (0x2100 + p) 0x06 := boundary.nat_kept (by decide) _ _
    obtain ⟨desc, cells, bytes, discarded, oversize, sdu', length', unassociated⟩ := a.extend_desc f payload
  case fill =>
    have within : a.judgeLength p (a.extend f payload) = (a, a.extend f payload, false) :=
      State.judgeLength_within (by rw [bytes, maximum]; exact short) (by rw [sdu', sdu]) (by rw [length', length])
    have free' : (a.drawCell (p / 12) (ingressPools d.contracted)).isSome = true := by
      rw [State.drawCell_congr _ _ (boundary.regs (by decide)) (by rw [boundary.region_kept (by decide)])
        (by rw [boundary.region_kept (by decide)]), free]
    have filled := State.fillCell_filled (s := a) (p := p) payload (desc.trans way) free'
    refine .of (exec_cellFill closed receives' way kept within) ⟨?_, ?_⟩
    · rw [State.rxAt_setRx_same, Option.map_some, filled.cells, cells]
    · rw [State.rxAt_setRx_same, Option.map_some, filled.bytes, bytes]
  case tail =>
    have rest : ∀ q, ((a.setRx p none).rxAt q) = if p.val = q then none else s.rxAt q := fun q => by
      rw [State.rxAt_setRx, boundary.rxAt_kept (by decide)]
    match judged : (a.setRx p none).judgeLength p (a.extend f payload) with
    | (t, g, close) =>
    have run := exec_frameTail (kind := kind) closed receives' judged
    have lengths : t.rx = (a.setRx p none).rx := by
      have frame := State.judgeLength_only (a.setRx p none) p (a.extend f payload) (.refl 0x200400002 _) rfl
      rw [judged] at frame
      exact frame.rx (by decide)
    have ends : ∀ q, (t.tailEnds p kind payload (a.nat (0x2100 + p) 0x06 + 1 - f.bytes) g close).rxAt q = if p.val = q then none else s.rxAt q := fun q => by
      rw [← rest]
      unfold State.rxAt
      rw [State.tailEnds_rx, lengths]
    have counters : f.discarded = true → f.oversize = false → ∃ u : State, u.regions = s.regions ∧ u.regs = s.regs ∧ g.discarded = true ∧
        g.bytes = f.bytes + payload.length ∧ g.unassociated = f.unassociated ∧
        g.oversize = decide (s.nat (0x2100 + p) 0x06 < f.bytes + payload.length) ∧ t.regions = u.regions ∧
        t.regs = (if s.nat (0x2100 + p) 0x06 < f.bytes + payload.length then u.inc64 (0x2200 + p) 0x05 else u).regs := by
      intro gone counted
      obtain ⟨t', g', close', judged', as, frame⟩ := (a.setRx p none).judgeLength_discarded p (discarded.trans gone) (oversize.trans counted)
      rw [judged] at judged'
      obtain ⟨rfl, rfl, rfl⟩ : t = t' ∧ g = g' ∧ close = close' := by simpa using judged'
      rw [State.nat_setRx, maximum, bytes] at as frame
      refine ⟨a.setRx p none, boundary.regions (by decide), boundary.regs (by decide), as.discarded.trans (discarded.trans gone),
        as.bytes.trans bytes, as.unassociated.trans unassociated, as.oversize, ?_, frame.regs (by decide)⟩
      rw [frame.regions (by decide)]
      split_ifs <;> rfl
    refine .of run ⟨(ends p).trans (if_pos rfl), fun q apart => (ends q).trans (if_neg (Ne.symm apart)), fun gone counted long => ?long,
      fun gone counted short => ?short⟩
    all_goals
      obtain ⟨u, regions, regs, gone', bytes', unassociated', oversize', regions', regs'⟩ := counters gone counted
      obtain ⟨kept, cut, counts⟩ := t.tailEnds_counters p.isLt kind payload (a.nat (0x2100 + p) 0x06 + 1 - f.bytes) close gone'
      have before : ∀ j, u.nat (0x2200 + p) j = s.nat (0x2200 + p) j := fun j => State.nat_of_regs regs _ _
    case long =>
      have same : t.countTail p g kind = t := if_pos (by rw [oversize']; simpa using long)
      refine ⟨kept.trans (regions'.trans regions), ?_⟩
      rw [counts _ (by decide), same, State.nat_of_regs regs', if_pos long, ← before]
      exact State.nat_addSat_same ..
    case short =>
      have whole : g.oversize = false := by rw [oversize']; simpa using short
      rw [if_neg (by omega)] at regs'
      have after : ∀ j, t.nat (0x2200 + p) j = s.nat (0x2200 + p) j := fun j => (State.nat_of_regs regs' _ _).trans (before j)
      have added : ∀ j v, (t.addSat (0x2200 + p) j 64 v).nat (0x2200 + p) j = min (s.nat (0x2200 + p) j + v) (2 ^ 64 - 1) := fun j v => by
        rw [State.nat_addSat_same, after]
      refine ⟨kept.trans (regions'.trans regions), fun isCut => ?_, fun isShort runt => ?_, fun good long secured => ?_, fun bad long => ?_,
        fun isLong => ?_, fun failed => ?_⟩
      · rw [cut isCut, isCut, t.countTail_eq p whole, regs', regs]
      · rw [counts _ (by decide), t.countTail_eq p whole]
        rcases isShort with rfl | rfl <;> exact (congrArg (fun a : State => a.nat (0x2200 + p) 0x04) (if_pos (by omega))).trans (added 4 1)
      · subst good
        rw [counts _ (by decide), counts _ (by decide), t.countTail_eq p whole]
        dsimp only
        rw [if_neg (by omega), if_neg (by rw [unassociated', secured]; decide), ← bytes']
        exact ⟨(t.countGood_counts p g).1.trans (by rw [after]), (t.countGood_counts p g).2.trans (by rw [after])⟩
      · subst bad
        rw [counts _ (by decide), t.countTail_eq p whole]
        exact (congrArg (fun a : State => a.nat (0x2200 + p) 0x03) (if_neg (by omega))).trans (added 3 1)
      · subst isLong
        rw [counts _ (by decide), t.countTail_eq p whole]
        exact added 5 1
      · subst failed
        rw [counts _ (by decide), t.countTail_eq p whole]
        exact added 0x0C 1

end Sys2Proof.Machine

namespace Sys2Proof.Machine

/-! ## Learning and ageing (05 R127, R128) -/

section Fields
variable (v b n x : Nat)

theorem testBit_field (k : Nat) : (field v b n).testBit k = (decide (k < n) && v.testBit (b + k)) := by
  rw [field, Nat.testBit_mod_two_pow, Nat.testBit_div_two_pow, Nat.add_comm]

/-- The bits above a field, the field written, and the bits below it. -/
theorem putField_eq : putField v b n x = 2 ^ b * (2 ^ n * (v / 2 ^ b / 2 ^ n) + x % 2 ^ n) + v % 2 ^ b := by
  have whole : v = field v b n * 2 ^ b + (2 ^ b * (2 ^ n * (v / 2 ^ b / 2 ^ n)) + v % 2 ^ b) := by
    calc v = 2 ^ b * (v / 2 ^ b) + v % 2 ^ b := (Nat.div_add_mod _ _).symm
      _ = 2 ^ b * (2 ^ n * (v / 2 ^ b / 2 ^ n) + v / 2 ^ b % 2 ^ n) + v % 2 ^ b := by rw [Nat.div_add_mod (v / 2 ^ b)]
      _ = _ := by unfold field; ring
  have rest : v - field v b n * 2 ^ b = 2 ^ b * (2 ^ n * (v / 2 ^ b / 2 ^ n)) + v % 2 ^ b := by omega
  rw [putField, rest]
  ring

/-- A field written takes the bits written, and every other bit stays. -/
theorem testBit_putField (k : Nat) : (putField v b n x).testBit k = if b ≤ k ∧ k < b + n then x.testBit (k - b) else v.testBit k := by
  rw [putField_eq, Nat.testBit_two_pow_mul_add _ (Nat.mod_lt _ (by positivity)), Nat.testBit_two_pow_mul_add _ (Nat.mod_lt _ (by positivity))]
  simp only [Nat.testBit_mod_two_pow, Nat.testBit_div_two_pow]
  split_ifs with h₁ h₂ h₃ h₃ h₃
  all_goals first | omega | skip
  · simp [h₁]
  · simp; omega
  · rw [show k - b - n + n + b = k by omega]

theorem field_putField_same : field (putField v b n x) b n = x % 2 ^ n := by
  refine Nat.eq_of_testBit_eq fun k => ?_
  rw [testBit_field, testBit_putField, Nat.testBit_mod_two_pow]
  by_cases inside : k < n
  · rw [if_pos (by omega), show b + k - b = k by omega]
  · simp [inside]

theorem field_putField_apart {b' n' : Nat} (apart : b + n ≤ b' ∨ b' + n' ≤ b) : field (putField v b n x) b' n' = field v b' n' := by
  refine Nat.eq_of_testBit_eq fun k => ?_
  rw [testBit_field, testBit_field, testBit_putField]
  by_cases inside : k < n'
  · rw [if_neg (by omega)]
  · simp [inside]

end Fields

/-- A dynamic entry as a station move leaves it: of age 0 at the new port. -/
def movedEntry (e p : Nat) : Nat := putField (putField (putField e 91 3 0) 88 2 0) 16 12 p

theorem movedEntry_port (e p : Nat) : field (movedEntry e p) 16 12 = p % 4096 ∧ field (movedEntry e p) 88 2 = 0 ∧ field (movedEntry e p) 91 3 = 0 := by
  unfold movedEntry
  refine ⟨field_putField_same .., ?_, ?_⟩
  · rw [field_putField_apart _ _ _ _ (by decide), field_putField_same, Nat.zero_mod]
  · rw [field_putField_apart _ _ _ _ (by decide), field_putField_apart _ _ _ _ (by decide), field_putField_same, Nat.zero_mod]

/-- The entry that a learn message makes of an address. -/
def learnedEntry (fid mac p : Nat) : Nat := 2 ^ 95 + fid * 2 ^ 76 + mac * 2 ^ 28 + p * 2 ^ 16

theorem learnedEntry_key {fid mac p : Nat} (hf : fid < 4096) (hm : mac < 2 ^ 48) (hp : p < 4096) : fdbEntryKey (learnedEntry fid mac p) = (fid, mac) := by
  unfold fdbEntryKey learnedEntry field
  congr 1
  · omega
  · omega

/-- The messages and the table after a message has been taken. -/
def State.setLearned (s : State) (rest : List (Nat × Nat × Nat)) (fdb : Sparse Nat) : State := { s with learns := rest, fdb := fdb }

theorem State.nat_setLearned (s : State) (rest : List (Nat × Nat × Nat)) (fdb : Sparse Nat) (i j : Nat) :
    (s.setLearned rest fdb).nat i j = s.nat i j := rfl

/-- A station has moved: its entry points to the new port, and the move is counted. -/
def State.moveEntry (s : State) (rest : List (Nat × Nat × Nat)) (i p : Nat) : State :=
  (s.setLearned rest (Sparse.set 0 s.fdb i (movedEntry (Sparse.get 0 s.fdb i) p))).inc64 0x3000 0x03

/-- A count of one event more than another state had counted. -/
theorem State.nat_inc64_of {s t : State} {i j : Nat} (before : t.nat i j = s.nat i j) : (t.inc64 i j).nat i j = min (s.nat i j + 1) (2 ^ 64 - 1) := by
  rw [← before]
  exact State.nat_addSat_same ..

theorem State.moveEntry_counts (s : State) (rest : List (Nat × Nat × Nat)) (i p : Nat) :
    (s.moveEntry rest i p).nat 0x3000 0x03 = min (s.nat 0x3000 0x03 + 1) (2 ^ 64 - 1) := State.nat_inc64_of (State.nat_setLearned ..)

/-- A learn message for an address that is known: the table stays, or the entry moves. -/
theorem exec_learnInsert_known {s : State} {e : Nat × Nat × Nat} {rest : List (Nat × Nat × Nat)} {i : Nat} (learns : s.learns = e :: rest)
    (free : s.commitWritesKey e.1 e.2.1 = false) (known : s.fdbFind e.1 e.2.1 = some i) :
    exec .learnInsert s = .next (if (Sparse.get 0 s.fdb i).testBit 94 = true ∨
        (field (Sparse.get 0 s.fdb i) 88 2 = 0 ∧ field (Sparse.get 0 s.fdb i) 16 12 = e.2.2) then { s with learns := rest }
      else s.moveEntry rest i e.2.2) := by
  change execLearnInsert s = _
  unfold execLearnInsert
  rw [learns]
  dsimp only
  rw [if_neg (by rw [show ({ s with learns := rest } : State).commitWritesKey e.1 e.2.1 = s.commitWritesKey e.1 e.2.1 from rfl, free]; decide),
    show ({ s with learns := rest } : State).fdbFind e.1 e.2.1 = some i from known]
  exact (apply_ite Host.Outcome.next _ _ _).symm

/-- A learn message for an address that is not known: a new entry where there is room, else it is counted. -/
theorem exec_learnInsert_unknown {s : State} {e : Nat × Nat × Nat} {rest : List (Nat × Nat × Nat)} (learns : s.learns = e :: rest)
    (free : s.commitWritesKey e.1 e.2.1 = false) (unknown : s.fdbFind e.1 e.2.1 = none) :
    exec .learnInsert s = .next ((({ s with learns := rest } : State).fdbInsert (learnedEntry e.1 e.2.1 e.2.2)).getD
      (({ s with learns := rest } : State).inc64 0x3000 0x02)) := by
  change execLearnInsert s = _
  unfold execLearnInsert
  rw [learns]
  dsimp only
  rw [if_neg (by rw [show ({ s with learns := rest } : State).commitWritesKey e.1 e.2.1 = s.commitWritesKey e.1 e.2.1 from rfl, free]; decide),
    show ({ s with learns := rest } : State).fdbFind e.1 e.2.1 = none from unknown]
  dsimp only [learnedEntry]
  split <;> simp_all

theorem State.fdbInsert_learns {s t : State} {e : Nat} (done : s.fdbInsert e = some t) : t.learns = s.learns := by
  unfold State.fdbInsert at done
  dsimp only at done
  split at done
  · cases done; rfl
  · obtain ⟨fdb, -, rfl⟩ := Option.map_eq_some_iff.1 done
    rfl

theorem fdbRoom_free {fdb : Sparse Nat} {b : Nat × Nat} {i : Nat} (n e : Nat)
    (way : (waysOf b).find? (fun i => !(Sparse.get 0 fdb i).testBit 95) = some i) : fdbRoom fdb n b e = some (Sparse.set 0 fdb i e) := by
  cases n <;> (unfold fdbRoom; rw [way])

/-- A new entry takes the first free way of its buckets. -/
theorem State.fdbInsert_free {s : State} {fid mac p i : Nat} (key : fdbEntryKey (learnedEntry fid mac p) = (fid, mac)) (unknown : s.fdbFind fid mac = none)
    (way : (waysOf (fdbBuckets fid mac)).find? (fun i => !(Sparse.get 0 s.fdb i).testBit 95) = some i) :
    s.fdbInsert (learnedEntry fid mac p) = some { s with fdb := Sparse.set 0 s.fdb i (learnedEntry fid mac p) } := by
  unfold State.fdbInsert
  rw [key]
  dsimp only
  rw [unknown]
  dsimp only
  rw [fdbRoom_free 16 _ way, Option.map_some]

/-- An entry of the table as an ageing step leaves it, if at all. -/
def agedEntry (e : Nat × Nat) : Option (Nat × Nat) :=
  if e.2.testBit 94 then some e else if 4 ≤ field e.2 91 3 then none else some (e.1, putField e.2 91 3 (field e.2 91 3 + 1))

theorem agedEntry_eq_some {a e : Nat × Nat} : agedEntry a = some e ↔ a.1 = e.1 ∧ ((a.2.testBit 94 = true ∧ e.2 = a.2) ∨
    (a.2.testBit 94 = false ∧ field a.2 91 3 < 4 ∧ e.2 = putField a.2 91 3 (field a.2 91 3 + 1))) := by
  unfold agedEntry
  cases static : a.2.testBit 94
  · by_cases old : 4 ≤ field a.2 91 3
    · simp [old]
    · simp [old, Prod.ext_iff, eq_comm]
      intro _ _
      omega
  · simp [Prod.ext_iff, eq_comm]

theorem exec_ageingStep (s : State) : exec .ageingStep s = .next { s with fdb := s.fdb.filterMap agedEntry } := rfl

/-- Settles O14. -/
theorem learningAndAgeing : Obligations.LearningAndAgeing := by
  unfold Obligations.LearningAndAgeing
  refine ⟨fun s e rest learns free => ?learn, fun s => ?age⟩
  case learn =>
    match known : s.fdbFind e.1 e.2.1 with
    | some i =>
      have run := exec_learnInsert_known learns free known
      by_cases stays : (Sparse.get 0 s.fdb i).testBit 94 = true ∨ (field (Sparse.get 0 s.fdb i) 88 2 = 0 ∧ field (Sparse.get 0 s.fdb i) 16 12 = e.2.2)
      · rw [if_pos stays] at run
        refine .of run ⟨rfl, fun j hj => ?_, fun h => nomatch h⟩
        cases hj
        exact ⟨fun _ => ⟨rfl, rfl⟩, fun dynamic moved => absurd stays (by simp [dynamic]; simpa using moved)⟩
      · rw [if_neg stays] at run
        refine .of run ⟨rfl, fun j hj => ?_, fun h => nomatch h⟩
        cases hj
        refine ⟨fun static => absurd (.inl static) stays, fun dynamic moved => ?_⟩
        have entry := Sparse.get_set_same 0 s.fdb i (movedEntry (Sparse.get 0 s.fdb i) e.2.2)
        obtain ⟨port, kind, age⟩ := movedEntry_port (Sparse.get 0 s.fdb i) e.2.2
        refine ⟨?_, ?_, ?_, s.moveEntry_counts rest i e.2.2, fun k apart => Sparse.get_set_ne _ _ _ _ (Ne.symm apart)⟩
        · exact (congrArg (field · 16 12) entry).trans port
        · exact (congrArg (field · 88 2) entry).trans kind
        · exact (congrArg (field · 91 3) entry).trans age
    | none =>
      have run := exec_learnInsert_unknown learns free known
      refine .of run ⟨?_, fun _ h => (nomatch h), fun _ hf hm hp i way => ?_⟩
      · cases inserted : ({ s with learns := rest } : State).fdbInsert (learnedEntry e.1 e.2.1 e.2.2) with
        | none => rfl
        | some t => exact State.fdbInsert_learns inserted
      · rw [State.fdbInsert_free (s := { s with learns := rest }) (learnedEntry_key hf hm hp) known way]
        exact Sparse.get_set_same ..
  case age =>
    refine .of (exec_ageingStep s) ⟨Only.upd_fdb _ (.refl _ s) rfl, fun e => ?_⟩
    rw [List.mem_filterMap]
    simp only [agedEntry_eq_some]
    constructor
    · rintro ⟨a, mem, same, aged⟩
      exact ⟨a.2, same ▸ mem, aged⟩
    · rintro ⟨v, mem, aged⟩
      exact ⟨(e.1, v), mem, rfl, aged⟩

end Sys2Proof.Machine

namespace Sys2Proof.Machine

/-! ## Tables: fold, drain, scrub and restore (05 R138, R142, R144 to R146) -/

theorem exec_overlayFold (tb : TableId) (s : State) : exec (.overlayFold tb) s = .next { s with folding := setBit s.folding tb false } := rfl

/-- A drain of a table has begun, toward its target. -/
def State.startDrain (s : State) (tb target : Nat) : State := { s with drains := Sparse.set none s.drains tb (some target), lastDrain := some tb }

theorem exec_drainTable {role : Role} {tb : TableId} {s : State} (admitted : s.admits role 0x3001 0x10) : exec (.drainTable role tb) s =
    .next (((s.startDrain tb ((s.generation tb + s.waitingWrites tb) % 65536)).setNat 0x3001 0x11
      ((s.generation tb + s.waitingWrites tb) % 65536)).setNat 0x3001 0x12 1).done := congrArg _ (State.hostWrite_admitted admitted _)

theorem exec_drainComplete {tb : TableId} {s : State} {target : Nat} (drains : Sparse.get none s.drains tb = some target) : exec (.drainComplete tb) s =
    if (s.heldGenerations tb).any (fun g => olderGeneration g target) = true then .next s
    else if (olderGeneration (s.generation tb) target && s.waitingWrites tb != 0) = true then .next s
    else .next (if s.lastDrain = some tb.val then ({ s with drains := Sparse.set none s.drains tb none } : State).setNat 0x3001 0x12 2
      else { s with drains := Sparse.set none s.drains tb none }) := by
  change execDrainComplete tb s = _
  unfold execDrainComplete
  rw [drains]

/-- An entry, or a block, of a cluster's copy of a table is unreadable: it is marked, counted and raised. -/
def State.markUnreadable (s : State) (c tb position : Nat) : State :=
  (({ s with invalid := s.invalid ++ [(c, tb, position)] } : State).inc64 0x3000 0x08).raise (576 + 8 * c + 1) tb

theorem exec_tableScrub (c : ClusterId) (tb : TableId) (position : Nat) (finding : ScrubFinding) (s : State) :
    exec (.tableScrub c tb position finding) s = match finding with
      | .clean => .next s
      | .single => .next (s.inc64 0x3000 0x07)
      | .uncorrectable => .next (s.markUnreadable c tb position)
      | .blockMismatch => .next (s.markUnreadable c tb (2 ^ 20 + position)) := by
  cases finding <;> rfl

/-- A detection out of SAFE leaves a message of its source. -/
theorem State.raise_message {s : State} (src detail : Nat) (awake : s.isSafe = false) :
    (s.raise src detail).messages.any (fun m => m.source == src) = true := by
  have counted : (s.countSource src).messages = s.messages := (State.countSource_only s src (.refl 0x100000000000000000 s) rfl).messages (by decide)
  unfold State.raise
  rw [if_neg (by simp [awake])]
  dsimp only
  split_ifs with pending
  · rw [counted]; exact pending
  · simp

theorem State.markUnreadable_effect (s : State) (c tb position : Nat) :
    (c, tb, position) ∈ (s.markUnreadable c tb position).invalid ∧
      (s.markUnreadable c tb position).nat 0x3000 0x08 = min (s.nat 0x3000 0x08 + 1) (2 ^ 64 - 1) ∧
      (s.isSafe = false → (s.markUnreadable c tb position).messages.any (fun m => m.source == 576 + 8 * c + 1) = true) := by
  generalize marked : s.invalid ++ [(c, tb, position)] = invalid
  have mem : (c, tb, position) ∈ invalid := by simp [← marked]
  have frame := State.raise_only (({ s with invalid := invalid } : State).inc64 0x3000 0x08) (576 + 8 * c + 1) tb (.refl 0x140000000000000000 _) rfl
  unfold State.markUnreadable
  rw [marked]
  refine ⟨?_, ?_, fun awake => State.raise_message _ _ ?_⟩
  · rw [frame.invalid (by decide)]; exact mem
  · rw [frame.nat_kept (by decide)]; exact State.nat_inc64_of rfl
  · rw [State.isSafe, State.runState, State.inc64_eq, State.addSat_eq, State.nat_setReg_at _ _ (by decide) (by decide), if_neg (by decide)]
    exact awake

theorem exec_scarabRestore {c : ClusterId} {tb : TableId} {position : Nat} {s : State} (free : s.entryPending tb position = false) :
    exec (.scarabRestore c tb position) s =
      .next { s with invalid := s.invalid.filter (fun e => !decide (e = (c.val, tb.val, position))) } := if_neg (by simp [free])

/-- Settles O15. -/
theorem tableMaintenance : Obligations.TableMaintenance := by
  unfold Obligations.TableMaintenance
  refine ⟨fun tb s => ?fold, fun role tb s admitted => ?drain, fun tb s target drains => ?complete, fun c tb position finding s => ?scrub,
    fun c tb position s free => ?restore⟩
  case fold =>
    refine .of (exec_overlayFold tb s) ⟨(testBit_setBit ..).trans (if_pos rfl), fun k apart => (testBit_setBit ..).trans (if_neg apart), ?_⟩
    exact Only.upd_folding _ (.refl _ s) rfl
  case drain =>
    refine .of (exec_drainTable admitted) ⟨rfl, ?_, ?_, Sparse.get_set_same none s.drains tb.val (some _), rfl, ?_⟩
    · rw [State.nat_done, State.setNat_eq _ _ 0x12, State.nat_setReg_at _ _ (by decide) (by decide), if_neg (by decide), State.nat_setNat_same]
    · rw [State.nat_done, State.nat_setNat_same]
    · have kept : SameEntries (fun i j => i = 0x3001 ∧ (j = 0x11 ∨ j = 0x12)) s
          (s.startDrain tb ((s.generation tb + s.waitingWrites tb) % 65536)) := (SameEntries.refl _ s).of_regs rfl
      exact ((kept.setNat (by decide) (by simp)).setNat (by decide) (by simp)).done
  case complete =>
    have run := exec_drainComplete drains
    by_cases held : (s.heldGenerations tb).any (fun g => olderGeneration g target) = true
    · rw [if_pos held] at run
      exact .of run ⟨fun free => absurd held (by simp [free]), fun _ => .refl 0 s⟩
    · rw [if_neg held] at run
      by_cases waits : (olderGeneration (s.generation tb) target && s.waitingWrites tb != 0) = true
      · rw [if_pos waits] at run
        exact .of run ⟨fun _ free => absurd waits (by rcases free with free | free <;> simp [free]), fun h => absurd h held⟩
      · rw [if_neg waits] at run
        refine .of run ⟨fun _ _ => ⟨?_, fun last => ?_⟩, fun h => absurd h held⟩
        · split_ifs <;> exact Sparse.get_set_same none s.drains tb.val none
        · rw [if_pos last, State.nat_setNat_same]
  case scrub =>
    have run := exec_tableScrub c tb position finding s
    cases finding with
    | clean => exact .of run ⟨fun _ => .refl 0 s, fun h => (nomatch h), fun h => (nomatch h), fun h => by simp at h⟩
    | single =>
      exact .of run ⟨fun h => (nomatch h), fun _ => ⟨State.nat_inc64_of rfl, State.inc64_only s _ _ (.refl _ s) rfl⟩, fun h => (nomatch h),
        fun h => by simp at h⟩
    | uncorrectable =>
      obtain ⟨mem, counted, raised⟩ := s.markUnreadable_effect c tb position
      refine .of run ⟨fun h => (nomatch h), fun h => (nomatch h), fun _ => .inr ⟨?_, counted⟩, fun _ awake => raised awake⟩
      exact List.any_eq_true.2 ⟨_, mem, by simp⟩
    | blockMismatch =>
      exact .of run ⟨fun h => (nomatch h), fun h => (nomatch h), fun h => (nomatch h), fun _ awake => (s.markUnreadable_effect c tb _).2.2 awake⟩
  case restore =>
    refine .of (exec_scarabRestore free) ⟨?_, fun e apart => ?_, Only.upd_invalid _ (.refl _ s) rfl⟩
    · simp
    · simp [apart]

end Sys2Proof.Machine

namespace Sys2Proof.Machine

/-! ## Stream functions and frames from the hub (05 R123, R124, R133; 02 R52 to R55) -/

theorem exec_frerResetTimeout {f : Fin 4096} {s : State} (recovery : (Sparse.get {} s.frer f).kind = 2) : exec (.frerResetTimeout f) s =
    .next { s with frer := Sparse.set {} s.frer f { Sparse.get {} s.frer f with recent := none, seen := 0 } } := if_pos recovery

theorem exec_streamGateListActivation {g : Fin 256} {s : State} {l : GateList} (pending : (Sparse.get {} s.gates g).pending = some l)
    (running : (s.tb 0).running = true) (reached : l.base ≤ s.tb0Ns) : exec (.streamGateListActivation g) s =
      .next { s with gates := Sparse.set {} s.gates g { pending := none, operational := some l, position := l.positionAt s.tb0Ns } } := by
  change execStreamGateListActivation g s = _
  unfold execStreamGateListActivation
  dsimp only
  rw [pending]
  exact if_pos (by simp [running, reached])

theorem exec_streamGateIntervalEnd {g : Fin 256} {s : State} {l : GateList} (operational : (Sparse.get {} s.gates g).operational = some l) :
    exec (.streamGateIntervalEnd g) s =
      .next { s with gates := Sparse.set {} s.gates g { Sparse.get {} s.gates g with position := l.positionAt s.tb0Ns } } := by
  change execStreamGateIntervalEnd g s = _
  unfold execStreamGateIntervalEnd
  dsimp only
  rw [operational]

/-! ### A frame of at most one cell enters its region -/

/-- What a frame of one cell leaves in the queue of a region: its only cell. -/
def State.lastOffered (s : State) (g d : Nat) : Option (Bool × Bool × Nat × Nat × List Byte) :=
  (Sparse.get [] (s.region g).bestEffort d).getLast?.map fun x => (x.first, x.last, x.port, x.number, x.payload)

/-- A change of a pool leaves what waits in the region. -/
theorem State.usePool_bestEffort (s : State) (g k n h : Nat) : ((s.usePool g k n).region h).bestEffort = (s.region h).bestEffort := by
  have used : ((s.setRegion g { s.region g with used := (s.region g).used.set k n }).region h).bestEffort = (s.region h).bestEffort := by
    rw [State.region_setRegion]
    split_ifs with here
    · rw [← here]
    · rfl
  unfold State.usePool
  dsimp only
  split_ifs
  · rw [(State.judgePool_only _ g (.refl 0x140000000000000002 _) rfl).region_kept (by decide), used]
  · exact used

theorem State.returnIngress_bestEffort (s : State) (g : Nat) (x : Cell) (h : Nat) :
    ((s.returnIngress g x).region h).bestEffort = (s.region h).bestEffort := by
  unfold State.returnIngress State.returnCell
  split_ifs
  · rfl
  · exact State.usePool_bestEffort ..
  · rfl

/-- A cell of a unicast frame joins the queue of its destination, where it holds its place. -/
theorem State.offerAll_unicast {s : State} {g : Nat} {f : RxFrame} {d : Descriptor} (x : Cell) (way : f.desc = some d) (unicast : d.kind = 0)
    (best : d.contracted = false) (alone : f.copyRing = none) (home : f.coverMap = 0) (free : s.regionFenced (d.destination / 12) = false) :
    (s.offerAll g f x).lastOffered g (d.destination / 12) = some (x.first, x.last, x.port, x.number, x.payload) ∧
      (s.offerAll g f x).frameCount = s.frameCount := by
  have copies : s.fabricCopies g f = [(0, d.destination / 12, d)] := by
    unfold State.fabricCopies
    rw [way]
    simp [unicast, alone, home]
  generalize offered : ({ x with
    desc := if x.first then some d else none
    tag := if x.first && d.contracted then x.tag else none
    contracted := d.contracted
    contract := d.contract
    owner := some d
    destination := d.destination / 12
    variant := 0 } : Cell) = y
  have shown : (y.first, y.last, y.port, y.number, y.payload) = (x.first, x.last, x.port, x.number, x.payload) := by rw [← offered]
  have eq : s.offerAll g f x = (s.offerCell g y).returnIngress g x := by
    unfold State.offerAll
    rw [copies, ← offered]
    rfl
  have joined : s.offerCell g y = s.setRegion g { s.region g with
      bestEffort := Sparse.set [] (s.region g).bestEffort (d.destination / 12) (Sparse.get [] (s.region g).bestEffort (d.destination / 12) ++ [y]) } := by
    unfold State.offerCell
    rw [← offered]
    dsimp only
    rw [if_neg (by simp [free]), if_neg (by simp [best])]
  constructor
  · rw [eq, State.lastOffered, State.returnIngress_bestEffort, joined, State.region_setRegion_same]
    simp [shown]
  · exact (State.offerAll_only s g f x (.refl 0x140000000000001002 s) rfl).frameCount (by decide)

/-- A frame of one cell of the hub enters the queue of its port's region, and is numbered. -/
theorem State.hubFrame_single {s : State} {g : Nat} {d : Descriptor} {payload : List Byte} (short : payload.length ≤ 256)
    (sent : numAt payload 12 2 ≠ 0x8808) (unicast : d.kind = 0) (best : d.contracted = false) (free : s.regionFenced (d.destination / 12) = false)
    (room : (s.drawCell g [0]).isSome = true) : Sparse.get 0 (s.hubFrame g d payload).frameCount 127 = Sparse.get 0 s.frameCount 127 + 1 ∧
      (s.hubFrame g d payload).lastOffered g (d.destination / 12) = some (true, true, 127, Sparse.get 0 s.frameCount 127 % 512, payload) := by
  have parts : cellsOf 65 payload = [payload] := if_pos short
  unfold State.hubFrame
  rw [if_neg sent]
  extract_lets n u f parts' count step
  have room' : (u.drawCell g [0]).isSome = true := (State.drawCell_congr (s := s) (t := u) g [0] rfl rfl rfl).trans room
  obtain ⟨⟨k, a⟩, drawn⟩ := Option.isSome_iff_exists.1 room'
  have drawnOnly : Only 0x140000000000001002 u a := State.drawCell_only (.refl _ u) rfl drawn
  have one : parts' = [payload] := parts
  have folded : (items count).foldl step (u, false) = step (u, false) 0 := by
    simp only [count, one]
    rfl
  rw [if_neg (by simp [one]), folded]
  have stepped : (step (u, false) 0).1 = a.offerAll g f {
      first := true, last := true, source := g, port := 127, number := n % 512, serial := n, index := 0, pool := k
      fillCycle := a.cycleNumber % 65536, entry := f.entry, payload := payload } := by
    simp only [step, drawn, count, one]
    rfl
  rw [stepped]
  obtain ⟨offered, frames⟩ := State.offerAll_unicast (s := a) (g := g) (f := f) (d := { d with ingress := 127, gens := u.generations }) {
      first := true, last := true, source := g, port := 127, number := n % 512, serial := n, index := 0, pool := k
      fillCycle := a.cycleNumber % 65536, entry := f.entry, payload := payload } rfl unicast best rfl rfl
      (by unfold State.regionFenced State.hasFence; rw [drawnOnly.fences (by decide)]; exact free)
  refine ⟨?_, offered⟩
  rw [frames, drawnOnly.frameCount (by decide)]
  exact Sparse.get_set_same 0 s.frameCount 127 (n + 1)

/-! ### The channel carries the one frame that waits -/

theorem foldl_add_single {r : Nat} {g : Nat → Nat} (l : List Nat) (one : ∀ i ∈ l, g i = if i = r then 1 else 0) (a : Nat) :
    l.foldl (fun n i => n + g i) a = a + l.count r := by
  induction l generalizing a with
  | nil => rfl
  | cons i l ih =>
    rw [List.foldl_cons, ih (fun k hk => one k (List.mem_cons_of_mem _ hk)), one i List.mem_cons_self, List.count_cons]
    by_cases here : i = r
    · simp [here]; omega
    · simp [here]

/-- A channel whose only frame waits in one ring takes that ring next, in the ring's class. -/
theorem State.nextRingDown_only {s : State} {r : Nat} (hr : r < 64) (waits : (s.ringX r).fromHub.isEmpty = false)
    (alone : ∀ i, i < 64 → i ≠ r → (s.ringX i).fromHub = []) (cls : Nat) :
    s.nextRingDown (s.carrier r) cls = if s.timeRing r = (cls == 1) then some r else none := by
  unfold State.nextRingDown
  extract_lets last
  have below : ∀ i ∈ (items 64).map (fun j => (last + 1 + j) % 64), i < 64 := fun i mem => by
    obtain ⟨j, -, rfl⟩ := List.mem_map.1 mem
    omega
  have listed : r ∈ (items 64).map (fun j => (last + 1 + j) % 64) :=
    List.mem_map.2 ⟨(r + 64 * (last + 1) - (last + 1)) % 64, List.mem_range.2 (by omega), by omega⟩
  split_ifs with cls'
  · cases found : List.find? (fun i => s.carrier i == s.carrier r && s.timeRing i == (cls == 1) && !(s.ringX i).fromHub.isEmpty)
      ((items 64).map (fun j => (last + 1 + j) % 64)) with
    | none => exact absurd (List.find?_eq_none.1 found r listed) (by simp [cls', waits])
    | some i =>
      have hits := List.find?_some found
      have mem := List.mem_of_find?_eq_some found
      by_contra other
      have apart : i ≠ r := fun h => other (by rw [h])
      simp [alone i (below i mem) apart] at hits
  · rw [List.find?_eq_none]
    intro i mem hits
    by_cases same : i = r
    · subst same; simp [cls'] at hits
    · simp [alone i (below i mem) same] at hits

/-- A frame stands alone in the rings, in one of them. -/
structure State.Alone (s : State) (r : Nat) (f : HubFrame) : Prop where
  waits : (s.ringX r).fromHub = [f]
  idle : ∀ i, i < 64 → (s.ringX i).writing = none
  others : ∀ i, i < 64 → i ≠ r → (s.ringX i).fromHub = []

/-- A channel with a credit carries the one frame that waits. -/
theorem State.serveAllDown_alone {s : State} {r : Nat} {f : HubFrame} (alone : s.Alone r f) (hr : r < 64)
    (keeps : (s.crossing (24 + s.carrier r)).discard = false) (credit : s.hubCredit (s.carrier r) = true) :
    ∃ cls, s.serveAllDown (s.carrier r) =
      ((s.takeDown (s.carrier r) cls r).spendHub (s.carrier r) f.beats).hubFrame (s.carrier r) f.desc f.payload := by
  obtain ⟨waits, idle, others⟩ := alone
  have counted : (items 64).foldl (fun n i => n + (s.ringX i).fromHub.length + ofBool (s.ringX i).writing.isSome) 0 = 1 := by
    have one : ∀ i ∈ items 64, (s.ringX i).fromHub.length + ofBool (s.ringX i).writing.isSome = if i = r then 1 else 0 := fun i mem => by
      rw [idle i (List.mem_range.1 mem)]
      split_ifs with here
      · rw [here, waits]; rfl
      · rw [others i (List.mem_range.1 mem) here]; rfl
    have sum := foldl_add_single (items 64) one 0
    rw [show (items 64).count r = 1 from List.count_eq_one_of_mem List.nodup_range (List.mem_range.2 hr)] at sum
    simpa only [Nat.add_assoc] using sum
  have next := State.nextRingDown_only hr (s := s) (by rw [waits]; rfl) others
  have served : ∃ cls, s.serveDown (s.carrier r) =
      ((s.takeDown (s.carrier r) cls r).spendHub (s.carrier r) f.beats).hubFrame (s.carrier r) f.desc f.payload := by
    unfold State.serveDown
    extract_lets pick
    have picked : ∃ cls, pick = some (cls, r) := by
      simp only [pick]
      rw [next, next]
      cases s.timeRing r
      · exact ⟨0, rfl⟩
      · exact ⟨1, rfl⟩
    obtain ⟨cls, picked⟩ := picked
    refine ⟨cls, ?_⟩
    rw [picked]
    dsimp only
    rw [waits]
    dsimp only
    rw [if_neg (by simp [keeps]), if_neg (by simp [credit])]
  obtain ⟨cls, served⟩ := served
  refine ⟨cls, ?_⟩
  rw [← served]
  unfold State.serveAllDown
  rw [counted]
  rfl

/-- The descriptor of a unicast frame that a thread sends. -/
def hubUnicast (destination untag : Nat) (priority : Fin 8) (queue : Fin 32) (tag : BitVec 8) (insert : Fin 4) (passed : Int)
    (ingress : Option PortId) : Descriptor where
  kind := 0
  destination := destination % 96
  untag := untag % 2
  priority := priority
  queue := queue
  queueSet := true
  timing := insert.val != 0
  insert := insert
  passed := passed
  insertPort := (ingress.map (·.val)).getD 127
  stampTag := tag.toNat

theorem exec_hubFrameSend_unicast {ring : Fin 64} {destination untag : Nat} {priority : Fin 8} {queue : Fin 32} {payload : List Byte} {tag : BitVec 8}
    {insert : Fin 4} {passed : Int} {ingress : Option PortId} {s : State} (best : queue.val < 24 ∨ 30 ≤ queue.val) (up : s.isUp = true) :
    exec (.hubFrameSend ring 0 destination untag priority queue payload tag insert passed ingress) s =
      .next ((s.writeRing ring
        ⟨s.ringThreadDown ring, hubUnicast destination untag priority queue tag insert passed ingress, payload⟩).serveAllDown (s.carrier ring)) := by
  change execHubFrameSend ring 0 destination untag priority queue payload tag insert passed ingress s = _
  unfold execHubFrameSend
  dsimp only
  rw [if_neg (by simp [up]; omega)]
  rfl

theorem exec_hubFrameSend_contracted {ring : Fin 64} {kind : Fin 4} {destination untag : Nat} {priority : Fin 8} {queue : Fin 32} {payload : List Byte}
    {tag : BitVec 8} {insert : Fin 4} {passed : Int} {ingress : Option PortId} {s : State} (low : 24 ≤ queue.val) (high : queue.val < 30) :
    exec (.hubFrameSend ring kind destination untag priority queue payload tag insert passed ingress) s = .next s := if_pos (.inl ⟨low, high⟩)

/-- A frame written into rings that hold no other stands alone. -/
theorem State.writeRing_alone {s : State} {r : Nat} (f : HubFrame) (empty : ∀ i, i < 64 → (s.ringX i).fromHub = [] ∧ (s.ringX i).writing = none)
    (hr : r < 64) : (s.writeRing r f).Alone r f ∧ Only partRings s (s.writeRing r f) := by
  have room : s.ringRoomDown r f = true := by simp [State.ringRoomDown, (empty r hr).1]
  have written : s.writeRing r f = s.setRingX r { s.ringX r with fromHub := (s.ringX r).fromHub ++ [f] } := by
    unfold State.writeRing
    dsimp only
    rw [if_neg (by simp [(empty r hr).2]), if_pos room]
  rw [written]
  refine ⟨⟨?_, fun i hi => ?_, fun i hi apart => ?_⟩, State.setRingX_only s _ _ (.refl _ s) rfl⟩
  · simp [(empty r hr).1]
  · rw [State.ringX_setRingX]
    split_ifs with here
    · exact (empty r hr).2
    · exact (empty i hi).2
  · rw [State.ringX_setRingX, if_neg (Ne.symm apart)]
    exact (empty i hi).1

/-- A frame that leaves its ring writes of the region which ring was served last. -/
theorem State.takeDown_region (s : State) (g cls i : Nat) :
    (s.takeDown g cls i).region g = { s.region g with lastRingDown := (s.region g).lastRingDown.set cls i } := by
  unfold State.takeDown
  dsimp only
  rw [(State.resumeWriting_only _ i (.refl partRings _) rfl).region_kept (by decide)]
  exact State.region_setRegion_same ..

/-- Settles O16. -/
theorem streamFunctionsAndHubFrames : Obligations.StreamFunctionsAndHubFrames := by
  unfold Obligations.StreamFunctionsAndHubFrames
  refine ⟨fun f s recovery => ?reset, fun g s l pending running reached => ?activate, fun g s l operational => ?interval,
    fun ring destination untag priority queue payload tag insert passed ingress s best up empty keeps short sent port credit free room => ?frame,
    fun ring kind destination untag priority queue payload tag insert passed ingress s low high =>
      .of (exec_hubFrameSend_contracted low high) rfl⟩
  case reset =>
    have entry := Sparse.get_set_same ({} : FrerX) s.frer f.val { Sparse.get {} s.frer f with recent := none, seen := 0 }
    refine .of (exec_frerResetTimeout recovery) ⟨?_, ?_, fun k apart => Sparse.get_set_ne _ _ _ _ (Ne.symm apart), Only.upd_frer _ (.refl _ s) rfl⟩
    · exact congrArg FrerX.recent entry
    · exact congrArg FrerX.seen entry
  case activate =>
    have entry := Sparse.get_set_same ({} : GateX) s.gates g.val { pending := none, operational := some l, position := l.positionAt s.tb0Ns }
    refine .of (exec_streamGateListActivation pending running reached) ⟨?_, ?_, ?_, Only.upd_gates _ (.refl _ s) rfl⟩
    · exact congrArg GateX.operational entry
    · exact congrArg GateX.pending entry
    · exact congrArg GateX.position entry
  case interval =>
    exact .of (exec_streamGateIntervalEnd operational) ⟨Sparse.get_set_same ({} : GateX) s.gates g.val _, Only.upd_gates _ (.refl _ s) rfl⟩
  case frame =>
    have run := exec_hubFrameSend_unicast (ring := ring) (destination := destination) (untag := untag) (priority := priority) (payload := payload)
      (tag := tag) (insert := insert) (passed := passed) (ingress := ingress) best up
    generalize frame : (⟨s.ringThreadDown ring, hubUnicast destination untag priority queue tag insert passed ingress, payload⟩ : HubFrame) = f at run
    have desc : f.desc = hubUnicast destination untag priority queue tag insert passed ingress := by rw [← frame]
    have body : f.payload = payload := by rw [← frame]
    obtain ⟨alone, written⟩ := State.writeRing_alone f empty ring.isLt
    have carried : (s.writeRing ring f).carrier ring = s.carrier ring := written.nat_kept (by decide) _ _
    have region := written.region_kept (by decide)
    obtain ⟨cls, served⟩ := State.serveAllDown_alone alone ring.isLt
      (by rw [carried, written.crossing_kept (by decide)]; exact keeps)
      (by unfold State.hubCredit; rw [carried, region]; exact credit)
    rw [carried] at served
    rw [served, desc, body] at run
    generalize opened : ((s.writeRing ring f).takeDown (s.carrier ring) cls ring).spendHub (s.carrier ring) f.beats = u at run
    have pools : (u.region (s.carrier ring)).used = (s.region (s.carrier ring)).used ∧
        (u.region (s.carrier ring)).withdrawn = (s.region (s.carrier ring)).withdrawn := by
      rw [← opened, State.spendHub, State.region_setRegion_same]
      dsimp only
      rw [State.takeDown_region, region]
      exact ⟨rfl, rfl⟩
    have frame : Only (partRings ||| partRegions) s u := by
      rw [← opened]
      exact State.spendHub_only _ _ _ (State.takeDown_only _ _ _ _ (Only.step (.refl _ s) written rfl) rfl) rfl
    have target : (hubUnicast destination untag priority queue tag insert passed ingress).destination = destination := Nat.mod_eq_of_lt port
    obtain ⟨number, offered⟩ := State.hubFrame_single (s := u) (g := s.carrier ring)
      (d := hubUnicast destination untag priority queue tag insert passed ingress) short sent rfl rfl
      (by unfold State.regionFenced State.hasFence; rw [target, frame.fences (by decide)]; exact free)
      ((State.drawCell_congr _ _ (frame.regs (by decide)) pools.1 pools.2).trans room)
    rw [frame.frameCount (by decide)] at number offered
    rw [target] at offered
    exact .of run ⟨number, offered⟩

end Sys2Proof.Machine

namespace Sys2Proof.Machine

-- The kernel evaluates the runs below one after another: side by side, each holds a thread while it waits for the declarations before it.
set_option Elab.async false

/-! ## A slot of the fabric (06 R155)

Where a region adjusts its cycle, the marks of what is in flight are made anew region by region (`State.unjudgeFlights`), so that of two items of one
region the last stays, while a read takes the first; O17 does not ask for the canonical form. -/

/-- The fabric runs, and region 0 is listed twice: by 1.6 ns late, and behind it by 5 ns. -/
def regionListedTwice : State :=
  { State.reset with
    start := { State.reset.start with fabric := true }
    tbs := [(0, { running := true })]
    regions := [(0, { offset := 1600 }), (0, { offset := 5000 })] }

/-- The last slot of the cycle brings the second one back. -/
theorem regionListedTwice_slot : ∃ t, exec (.fabricSlot 7) regionListedTwice = .next t ∧ (t.region 0).offset = 5000 :=
  ⟨_, rfl, by decide +kernel⟩

/-- Refutes O17: in `regionListedTwice` region 0 is 1.6 ns late, and after the last slot of the cycle 5 ns where the statement has 0.8. The state is not in
canonical form, which the statement does not exclude. -/
theorem not_fabricSlotSendsContractedFirst : ¬ Obligations.FabricSlotSendsContractedFirst := by
  unfold Obligations.FabricSlotSendsContractedFirst
  rintro ⟨-, adjusts⟩
  obtain ⟨t, run, moved⟩ := regionListedTwice_slot
  obtain ⟨u, again, offset, -⟩ := adjusts 7 0 regionListedTwice (by decide +kernel) (by decide +kernel) rfl (by decide +kernel)
  obtain rfl : t = u := Host.Outcome.next.inj (run.symm.trans again)
  rw [show ((0 : RegionId).val) = 0 from rfl, moved] at offset
  exact absurd offset (by decide +kernel)

end Sys2Proof.Machine

namespace Sys2Proof.Machine

/-! ## A cell arrives (06 R153, R169, R170) -/

/-- A packet boundary of a crossing without a waiting flush writes the crossing alone. -/
theorem State.closePacket_unflushed {s : State} {x : Nat} (calm : (s.crossing x).flushing = false) : Only partCrossings s (s.closePacket x) := by
  unfold State.closePacket
  dsimp only
  rw [if_neg (by simp [calm])]
  split_ifs
  · exact State.setCrossing_only s _ _ (.refl _ s) rfl
  · exact .refl _ s

/-- The oldest cell has left its channel group. -/
def State.takeFlight (s : State) (stage a b : Nat) (rest : List Cell) : State := (s.setFlight stage a b rest).closePacket (24 + b)

/-- A header beyond correction is counted and raised, and its cell is lost. -/
def State.loseHeader (s : State) (b a : Nat) (x : Cell) : State :=
  let s := (s.inc64 0x3800 0x0C).linkError b a
  (match linkSource b a with
    | some src => s.raise src 0
    | none => s).noteLost x

/-- What a header beyond correction does at its end. -/
def State.dropHeader (s : State) (stage2 : Bool) (b a : Nat) (x : Cell) : State :=
  if stage2 then s.loseHeader b a x
  else (s.loseHeader b a x).setRegion b { (s.loseHeader b a x).region b with resyncTo := setBit ((s.loseHeader b a x).region b).resyncTo a true }

/-- A payload that fails its check makes the cell void. -/
def State.checkPayload (s : State) (corrupt : Bool) (b a : Nat) : State := if corrupt then (s.inc64 0x3800 0x07).linkError b a else s

/-- A valid cell goes on, at its intermediate or at its destination. -/
def State.passCell (s : State) (stage2 : Bool) (b : Nat) (x : Cell) : State := if stage2 then s.intoReorder b x else s.intoFabricQueue b x

/-- What a cell with a header as sent does at its end. -/
def State.acceptCell (s : State) (stage2 : Bool) (b a : Nat) (payloadOk : Bool) (x : Cell) : State :=
  if !x.valid then (if stage2 then s else s.takeCredits b a x)
  else ((if stage2 then s else s.takeCredits b a x).checkPayload (!payloadOk && !x.void) b a).passCell stage2 b
    (if !payloadOk && !x.void then { x with void := true } else x)

theorem exec_cellArrival {stage2 : Bool} {a b : RegionId} {header : HeaderCheck} {payloadOk : Bool} {s : State} {x : Cell} {rest : List Cell}
    (oldest : s.flight (ofBool stage2) a b = x :: rest) : exec (.cellArrival stage2 a b header payloadOk) s =
      .next (if (s.takeFlight (ofBool stage2) a b rest).regionFenced b = true then s.takeFlight (ofBool stage2) a b rest
        else if header = .uncorrectable then (s.takeFlight (ofBool stage2) a b rest).dropHeader stage2 b a x
        else (s.takeFlight (ofBool stage2) a b rest).acceptCell stage2 b a payloadOk x) := by
  change execCellArrival stage2 a b header payloadOk s = _
  unfold execCellArrival
  extract_lets st
  rw [show s.flight st a b = x :: rest from oldest]
  dsimp -zeta only
  extract_lets u
  change ite (u.regionFenced b = true) _ _ = Host.Outcome.next (ite (u.regionFenced b = true) u _)
  by_cases shut : u.regionFenced b = true
  · rw [if_pos shut, if_pos shut]
  · rw [if_neg shut, if_neg shut]
    by_cases broken : header = .uncorrectable
    · rw [if_pos broken, if_pos broken]
      rfl
    · rw [if_neg broken, if_neg broken]
      exact (apply_ite Host.Outcome.next _ _ _).symm

/-- Bits of the regions, the counts, and the messages: what an arriving cell may write beside its channel group. -/
theorem State.loseHeader_only (s : State) (b a : Nat) (x : Cell) : Only 0x140000000000001002 s (s.loseHeader b a x) := by
  have linked := State.linkError_only (s.inc64 0x3800 0x0C) b a (State.inc64_only s 0x3800 0x0C (.refl 0x140000000000001002 s) rfl) rfl
  unfold State.loseHeader
  dsimp only
  split
  · exact State.noteLost_only _ x (State.raise_only _ _ 0 linked rfl) rfl
  · exact State.noteLost_only _ x linked rfl

theorem State.dropHeader_only (s : State) (stage2 : Bool) (b a : Nat) (x : Cell) : Only 0x140000000000001002 s (s.dropHeader stage2 b a x) := by
  unfold State.dropHeader
  exact .ite (s.loseHeader_only b a x) (State.setRegion_only _ _ _ (s.loseHeader_only b a x) rfl)

theorem State.acceptCell_only (s : State) (stage2 : Bool) (b a : Nat) (payloadOk : Bool) (x : Cell) :
    Only 0x140000000f00001802 s (s.acceptCell stage2 b a payloadOk x) := by
  have credited : Only 0x140000000f00001802 s (if stage2 = true then s else s.takeCredits b a x) :=
    .ite (.refl _ s) (State.takeCredits_only s b a x (.refl _ s) rfl)
  have checked : Only 0x140000000f00001802 s ((if stage2 = true then s else s.takeCredits b a x).checkPayload (!payloadOk && !x.void) b a) :=
    .ite (State.linkError_only _ b a (State.inc64_only _ _ _ credited rfl) rfl) credited
  exact .ite credited (.ite (State.intoReorder_only _ _ _ checked rfl) (State.intoFabricQueue_only _ _ _ checked rfl))

/-- A header beyond correction is counted, beside what its loss does. -/
theorem State.dropHeader_counts (s : State) (stage2 : Bool) (b a : Nat) (x : Cell) :
    (s.dropHeader stage2 b a x).nat 0x3800 0x0C = min (s.nat 0x3800 0x0C + 1) (2 ^ 64 - 1) := by
  have linked := State.linkError_only (s.inc64 0x3800 0x0C) b a (.refl 0x140000000000001000 _) rfl
  have lost : Only 0x140000000000001000 (s.inc64 0x3800 0x0C) (s.loseHeader b a x) := by
    unfold State.loseHeader
    dsimp only
    split
    · exact State.noteLost_only _ x (State.raise_only _ _ 0 linked rfl) rfl
    · exact State.noteLost_only _ x linked rfl
  have dropped : Only 0x140000000000001000 (s.inc64 0x3800 0x0C) (s.dropHeader stage2 b a x) := by
    unfold State.dropHeader
    exact .ite lost (State.setRegion_only _ _ _ lost rfl)
  rw [dropped.nat_kept (by decide)]
  exact State.nat_inc64_of rfl

/-- A valid best-effort cell of stage one joins the queue of its destination. -/
theorem State.acceptCell_queued {s : State} {b a : Nat} {x : Cell} (valid : x.valid = true) (best : x.contracted = false) :
    Sparse.get [] ((s.acceptCell false b a true x).region b).fabricQ (2 * x.destination) =
      Sparse.get [] (s.region b).fabricQ (2 * x.destination) ++ [x] := by
  have credits : ((s.takeCredits b a x).region b).fabricQ = (s.region b).fabricQ := by
    unfold State.takeCredits
    extract_lets r back r' r''
    rw [State.region_setRegion_same]
    simp only [r'']
    split_ifs <;> rfl
  have joined : s.acceptCell false b a true x = (s.takeCredits b a x).intoFabricQueue b x := by
    unfold State.acceptCell
    rw [if_neg (by simp [valid])]
    rfl
  have key : 2 * x.destination + ofBool x.contracted = 2 * x.destination := by rw [best]; rfl
  rw [joined]
  unfold State.intoFabricQueue
  dsimp only
  rw [if_neg (by simp [best]), State.region_setRegion_same, key, Sparse.get_set_same, credits]

/-- Settles O18. -/
theorem fabricCellArrives : Obligations.FabricCellArrives := by
  unfold Obligations.FabricCellArrives
  intro stage2 a b header payloadOk s x rest oldest calm
  have run := exec_cellArrival (header := header) (payloadOk := payloadOk) oldest
  have taken : Only partCrossings (s.setFlight (ofBool stage2) a b rest) (s.takeFlight (ofBool stage2) a b rest) := State.closePacket_unflushed calm
  have fenced : (s.takeFlight (ofBool stage2) a b rest).regionFenced b = s.regionFenced b := by
    unfold State.regionFenced State.hasFence
    rw [taken.fences (by decide)]
    rfl
  have regions : (s.takeFlight (ofBool stage2) a b rest).regions = s.regions := taken.regions (by decide)
  have regs : (s.takeFlight (ofBool stage2) a b rest).regs = s.regs := taken.regs (by decide)
  have flight : ∀ t : State, t.flights = (s.takeFlight (ofBool stage2) a b rest).flights → t.flight (ofBool stage2) a b = rest := fun t same => by
    unfold State.flight
    rw [same, taken.flights (by decide)]
    exact Sparse.get_set_same ..
  generalize s.takeFlight (ofBool stage2) a b rest = u at *
  rw [fenced] at run
  by_cases shut : s.regionFenced b = true
  · rw [if_pos shut] at run
    exact .of run ⟨flight u rfl, fun _ => ⟨regions, regs⟩, fun h => absurd shut (by simp [h]), fun h => absurd shut (by simp [h])⟩
  · rw [if_neg shut] at run
    by_cases broken : header = .uncorrectable
    · rw [if_pos broken] at run
      refine .of run ⟨flight _ ((u.dropHeader_only stage2 b a x).flights (by decide)), fun h => absurd h shut, fun _ _ => ⟨?_, fun one => ?_⟩,
        fun _ h => absurd broken h⟩
      · rw [u.dropHeader_counts, State.nat_of_regs regs]
      · subst one
        unfold State.dropHeader
        rw [if_neg (by decide), State.region_setRegion_same]
        exact (testBit_setBit ..).trans (if_pos rfl)
    · rw [if_neg broken] at run
      refine .of run ⟨flight _ ((u.acceptCell_only stage2 b a payloadOk x).flights (by decide)), fun h => absurd h shut, fun _ h => absurd h broken,
        fun _ _ one valid whole best => ?_⟩
      subst one whole
      rw [State.acceptCell_queued valid best]
      unfold State.region
      rw [regions]

end Sys2Proof.Machine

namespace Sys2Proof.Machine

/-! ## What frame assembly leaves as it was

The cells that the reorder stage releases, and the copies that end, write the pools, the queues and their counts. They leave the fabric's own state:
its entries, and of every region all but the pools in use, the host queue, the frames opened and the cells noted as lost. -/

/-- The entries that frame assembly and the ends of copies may write. -/
def assemblyEntry (i j : Nat) : Prop :=
  j = 0x0A ∨ (0x4000 ≤ i ∧ j = 0x09) ∨ (0x4010 ≤ i ∧ (j = 0x01 ∨ j = 0x02 ∨ j = 0x06 ∨ j = 0x07 ∨ j = 0x08 ∨ j = 0x0B ∨ j = 0x0F))

/-- A region without what frame assembly writes of it. -/
def RegionX.fabricSide (r : RegionX) : RegionX := { r with used := [], hostQueue := [], opened := [], lost := [] }

/-- The second state is the first but for what frame assembly writes. -/
structure State.Assembles (s t : State) : Prop where
  entries : SameEntries assemblyEntry s t
  fabric : ∀ g, (t.region g).fabricSide = (s.region g).fabricSide

namespace State.Assembles
variable {s t u : State}

theorem refl (s : State) : s.Assembles s := ⟨.refl _ s, fun _ => rfl⟩

theorem trans (a : s.Assembles t) (b : t.Assembles u) : s.Assembles u :=
  ⟨a.entries.trans b.entries, fun g => (b.fabric g).trans (a.fabric g)⟩

theorem setReg {i j : Nat} {v : Int} (a : s.Assembles t) (hj : j < 256) (own : assemblyEntry i j) : s.Assembles (t.setReg i j v) :=
  ⟨a.entries.setReg hj own, a.fabric⟩

theorem setRegion {g : Nat} {r : RegionX} (a : s.Assembles t) (same : r.fabricSide = (t.region g).fabricSide) : s.Assembles (t.setRegion g r) := by
  refine ⟨a.entries.of_regs rfl, fun k => ?_⟩
  rw [State.region_setRegion]
  split_ifs with h
  · rw [same, h]; exact a.fabric k
  · exact a.fabric k

/-- What changes neither entry nor region. -/
theorem of_parts (a : s.Assembles t) (regs : u.regs = t.regs) (regions : u.regions = t.regions) : s.Assembles u :=
  ⟨a.entries.of_regs regs, fun g => by
    rw [show u.region g = t.region g from congrArg (Sparse.get ({} : RegionX) · g) regions]
    exact a.fabric g⟩

theorem of_only {F : Nat} (frame : Only F s t) (regs : F.testBit 1 = false) (regions : F.testBit 12 = false) : s.Assembles t :=
  (refl s).of_parts (frame.regs regs) (frame.regions regions)

theorem foldl {α : Type} {f : State → α → State} (l : List α) (step : ∀ a : State, ∀ x ∈ l, a.Assembles (f a x)) : s.Assembles (l.foldl f s) := by
  induction l generalizing s with
  | nil => exact refl s
  | cons x xs ih => exact (step s x (.head _)).trans (ih fun a y hy => step a y (.tail _ hy))

theorem ite {c : Prop} [Decidable c] (a : s.Assembles t) (b : s.Assembles u) : s.Assembles (if c then t else u) := by
  split_ifs
  · exact a
  · exact b

end State.Assembles

section Ops
variable (s : State) (g p q k n : Nat) (c : Copy) (x : Cell)

theorem State.raise_assembles (src : Nat) (d : Nat) : s.Assembles (s.raise src d) :=
  .of_only (State.raise_only s src d (.refl 0x140000000000000000 s) rfl) rfl rfl

theorem State.setQueue_assembles (y : QueueX) : s.Assembles (s.setQueue p q y) :=
  .of_only (State.setQueue_only s p q y (.refl 0x800 s) rfl) rfl rfl

theorem State.watermark_assembles {i st cnt : Nat} (m l h : Nat) (status : assemblyEntry i st) (count : assemblyEntry i cnt) (hs : st < 256)
    (hc : cnt < 256) : s.Assembles (s.watermark i st cnt m l h g) := by
  have high : s.Assembles ((s.putBit i st 0 true).putBit i st 1 true) := ((State.Assembles.refl s).setReg hs status).setReg hs status
  exact .ite ((high.setReg hc count).trans (State.raise_assembles ..)) (.ite ((State.Assembles.refl s).setReg hs status) (.refl s))

theorem State.judgePool_assembles : s.Assembles (s.judgePool g) :=
  s.watermark_assembles g _ _ _ (.inr (.inl ⟨Nat.le_add_right .., rfl⟩)) (.inl rfl) (by decide) (by decide)

theorem assemblyEntry_queue {j : Nat} (own : j = 0x01 ∨ j = 0x02 ∨ j = 0x06 ∨ j = 0x07 ∨ j = 0x08 ∨ j = 0x0B ∨ j = 0x0F) :
    assemblyEntry (queueIndex p q) j := .inr (.inr ⟨by unfold queueIndex; omega, own⟩)

theorem State.judgeQueue_assembles : s.Assembles (s.judgeQueue p q) := by
  have counted : s.Assembles (((s.setNat (queueIndex p q) 0x01 (s.queue p q).occupancy).setNat (queueIndex p q) 0x02 (s.queue p q).copies.length).setNat
      (queueIndex p q) 0x0F (max (s.nat (queueIndex p q) 0x0F) (s.queue p q).occupancy)) :=
    (((State.Assembles.refl s).setReg (by decide) (assemblyEntry_queue p q (by decide))).setReg (by decide)
      (assemblyEntry_queue p q (by decide))).setReg (by decide) (assemblyEntry_queue p q (by decide))
  exact counted.trans (State.watermark_assembles _ _ _ _ _ (assemblyEntry_queue p q (by decide)) (assemblyEntry_queue p q (by decide)) (by decide)
    (by decide))

theorem State.usePool_assembles : s.Assembles (s.usePool g k n) := by
  have used : s.Assembles (s.setRegion g { s.region g with used := (s.region g).used.set k n }) := (State.Assembles.refl s).setRegion rfl
  exact .ite (used.trans (State.judgePool_assembles ..)) used

theorem State.returnCell_assembles : s.Assembles (s.returnCell g k) := .ite (s.usePool_assembles ..) (.refl s)

theorem State.releaseCells_assembles : s.Assembles (s.releaseCells g c) :=
  .ite (.refl s) (.foldl _ fun a _ _ => a.returnCell_assembles _ _)

theorem State.removeCopies_assembles (f : Copy → Bool) : s.Assembles (s.removeCopies p q f) :=
  .ite (.refl s) (((s.setQueue_assembles p q _).trans (.foldl _ fun a _ _ => a.releaseCells_assembles _ _)).trans (State.judgeQueue_assembles ..))

theorem State.removeHostCopies_assembles (f : Copy → Bool) : s.Assembles (s.removeHostCopies g f) :=
  .ite (.refl s) (((State.Assembles.refl s).setRegion (r := { s.region g with hostQueue := (s.region g).hostQueue.filter (fun c => !f c) }) rfl).trans
    (.foldl _ fun a _ _ => a.releaseCells_assembles _ _))

theorem State.breachRecord_assembles (contract code : Nat) (d : Int) : s.Assembles (s.breachRecord contract code g d) := by
  have counted : s.Assembles (s.inc64 0x5000 0x07) := (State.Assembles.refl s).setReg (by decide) (.inr (.inr (by decide)))
  unfold State.breachRecord
  exact .ite (counted.of_parts rfl rfl) (.setReg (counted.of_parts rfl rfl) (by decide) (.inr (.inr (by decide))))

theorem State.breach_assembles (contract code : Nat) (d : Int) : s.Assembles (s.breach g contract code d) :=
  (State.Assembles.of_parts (u := (s.breachRecord contract code g d).setContractAt contract _) (s.breachRecord_assembles g contract code d) rfl
    rfl).trans (State.raise_assembles ..)

theorem State.copyBreach_assembles (code : Nat) (d : Int) : s.Assembles (s.copyBreach g c code d) := .ite (.refl s) (State.breach_assembles ..)

theorem State.incBad_assembles : s.Assembles (s.inc64 (0x3100 + p) 0x0A) := (State.Assembles.refl s).setReg (by decide) (.inl rfl)

theorem State.badCopy_assembles (lost : Bool) : s.Assembles (s.badCopy p q c lost) :=
  .ite (.ite ((s.setQueue_assembles p q _).trans (State.incBad_assembles ..)) (s.setQueue_assembles p q _))
    ((s.removeCopies_assembles p q _).trans (State.incBad_assembles ..))

theorem State.badCopies_assembles (f : Copy → Bool) (lost : Bool) (code : Copy → Nat) : s.Assembles (s.badCopies g f lost code) := by
  refine (State.Assembles.foldl _ fun a e _ => .ite (.foldl _ fun b c _ => ?_) (.refl a)).trans (State.removeHostCopies_assembles ..)
  exact (State.Assembles.ite (.refl b) (b.copyBreach_assembles g c _ 0)).trans (State.badCopy_assembles ..)

theorem State.enqueue_assembles : s.Assembles (s.enqueue p q c) := (s.setQueue_assembles p q _).trans (State.judgeQueue_assembles ..)

theorem State.admitCopy_assembles : s.Assembles (s.admitCopy p c) := by
  unfold State.admitCopy
  extract_lets q
  split
  · exact s.enqueue_assembles p q c
  · exact (State.Assembles.refl s).setReg (by decide) (.inr (.inr ⟨by omega, by decide⟩))
  · exact (((State.Assembles.refl s).setReg (by decide) (assemblyEntry_queue p q (by decide))).setReg (by decide)
      (assemblyEntry_queue p q (by decide))).trans (State.copyBreach_assembles ..)

theorem State.frerPasses_assembles (d : Descriptor) : s.Assembles (s.frerPasses d x).2 :=
  .of_only (State.frerPasses_only s d x (.refl 0x100000000 s) rfl) rfl rfl

theorem State.loseCopies_assembles (d : Descriptor) (code : Nat) : s.Assembles (s.loseCopies g x d code) :=
  .foldl _ fun a pd _ =>
    (State.Assembles.ite (c := code = 0) (.refl a) (a.copyBreach_assembles g _ code 0)).trans (State.incBad_assembles _ pd.1)

theorem State.firstCell_assembles (d : Descriptor) : s.Assembles (s.firstCell g x d) := by
  unfold State.firstCell
  have passed := s.frerPasses_assembles x d
  generalize s.frerPasses d x = y at *
  obtain ⟨pass, u⟩ := y
  refine passed.trans ?_
  dsimp -zeta only
  extract_lets c spoilt r v
  have offered : u.Assembles v := .foldl _ fun a _ _ => a.admitCopy_assembles _ _
  exact .ite (u.returnCell_assembles g _) (.ite ((State.Assembles.refl u).setRegion rfl) (.ite
    ((u.loseCopies_assembles g x d _).trans (State.returnCell_assembles ..)) (.ite offered (offered.trans (State.returnCell_assembles ..)))))

theorem State.appendCell_assembles : s.Assembles (s.appendCell g x) := by
  unfold State.appendCell
  extract_lets grow u r
  have grown : s.Assembles u := .foldl _ fun a e _ => .ite ((a.setQueue_assembles _ _ _).trans (State.judgeQueue_assembles ..)) (.refl a)
  exact grown.setRegion rfl

theorem State.markOpened_assembles : s.Assembles (s.markOpened g x) := (State.Assembles.refl s).setRegion rfl

theorem State.headless_assembles : s.Assembles (s.headless g x) := by
  refine (s.returnCell_assembles g x.pool).trans (.ite (.refl _) ?_)
  split
  · exact (State.markOpened_assembles ..).trans (State.loseCopies_assembles ..)
  · exact .refl _

theorem State.laterCell_assembles : s.Assembles (s.laterCell g x) := by
  unfold State.laterCell
  split
  · exact s.headless_assembles g x
  · exact .ite ((s.returnCell_assembles g x.pool).trans (State.badCopies_assembles ..)) (s.appendCell_assembles g x)

theorem State.loseCell_assembles : s.Assembles (s.loseCell g x) := s.laterCell_assembles g _

theorem State.assemble_assembles : s.Assembles (s.assemble g x) := by
  refine .ite ?_ (.ite (s.laterCell_assembles g x) (.refl s))
  refine ((s.badCopies_assembles g (Copy.orphanOf x) true (s.copyLossCode g)).trans (State.markOpened_assembles _ g x)).trans ?_
  split
  · exact .ite (State.firstCell_assembles ..) (.refl _)
  · exact .refl _

theorem State.declareLost_assembles (f : Cell → Bool) : s.Assembles (s.declareLost g k f) :=
  State.Assembles.trans (t := s.setRegion g { s.region g with lost := (s.region g).lost.filter fun x =>
      !(2 * x.source + ofBool x.contracted == k && f x) }) ((State.Assembles.refl s).setRegion rfl) (.foldl _ fun a _ _ => a.loseCell_assembles g _)

end Ops

end Sys2Proof.Machine

namespace Sys2Proof.Machine

/-! ## Holes, resync, cut-through hold and credits (06 R165, R167, R170, R174) -/

/-- What is read of the reorder state after frame assembly. -/
theorem State.Assembles.expected {s t : State} (a : s.Assembles t) (g : Nat) : (t.region g).expected = (s.region g).expected :=
  show (t.region g).fabricSide.expected = (s.region g).fabricSide.expected from congrArg RegionX.expected (a.fabric g)

theorem State.Assembles.window {s t : State} (a : s.Assembles t) (g : Nat) : (t.region g).window = (s.region g).window :=
  show (t.region g).fabricSide.window = (s.region g).fabricSide.window from congrArg RegionX.window (a.fabric g)

/-- The expected cell of a stream leaves its window and is assembled. -/
def State.releaseOne (s : State) (g k : Nat) (x : Cell) : State :=
  (s.setRegion g { s.region g with
    expected := Sparse.set 0 (s.region g).expected k ((Sparse.get 0 (s.region g).expected k + 1) % 4096)
    window := Sparse.set [] (s.region g).window k
      ((Sparse.get [] (s.region g).window k).filter fun y => y.sequence != Sparse.get 0 (s.region g).expected k) }).assemble g x

/-- The cell of a stream that is expected, where its window holds it. -/
def RegionX.expectedCell (r : RegionX) (k : Nat) : Option Cell :=
  (Sparse.get [] r.window k).find? fun x => x.sequence == Sparse.get 0 r.expected k

theorem State.releaseRun_some {s : State} {g k n : Nat} {x : Cell} (here : (s.region g).expectedCell k = some x) :
    s.releaseRun g k (n + 1) = (s.releaseOne g k x).releaseRun g k n := by
  unfold RegionX.expectedCell at here
  rw [State.releaseRun]
  dsimp only
  rw [here]
  rfl

/-- Where the expected cell is missing nothing is released. -/
theorem State.releaseRun_none {s : State} {g k n : Nat} (missing : (s.region g).expectedCell k = none) : s.releaseRun g k n = s := by
  cases n with
  | zero => rfl
  | succ n =>
    unfold RegionX.expectedCell at missing
    rw [State.releaseRun]
    dsimp only
    rw [missing]

theorem State.releaseOne_same (s : State) (g k : Nat) (x : Cell) : SameEntries assemblyEntry s (s.releaseOne g k x) :=
  ((SameEntries.refl _ s).of_regs rfl).trans (State.assemble_assembles (s.setRegion g _) g x).entries

theorem State.releaseOne_expected (s : State) (g k : Nat) (x : Cell) :
    Sparse.get 0 ((s.releaseOne g k x).region g).expected k = (Sparse.get 0 (s.region g).expected k + 1) % 4096 := by
  unfold State.releaseOne
  rw [(State.assemble_assembles _ g x).expected g, State.region_setRegion_same]
  exact Sparse.get_set_same ..

/-- The release of the cells of a stream writes no entry but those of frame assembly. -/
theorem State.releaseRun_same (g k n : Nat) (s : State) : SameEntries assemblyEntry s (s.releaseRun g k n) := by
  induction n generalizing s with
  | zero => exact .refl _ s
  | succ n ih =>
    cases here : (s.region g).expectedCell k with
    | none => rw [State.releaseRun_none here]; exact .refl _ s
    | some x => rw [State.releaseRun_some here]; exact (s.releaseOne_same g k x).trans (ih _)

/-- Each cell released moves the expected number of its stream by 1. -/
theorem State.releaseRun_expected (g k n : Nat) (s : State) (v : Nat) (now : Sparse.get 0 (s.region g).expected k = v % 4096) :
    ∃ m, m ≤ n ∧ Sparse.get 0 ((s.releaseRun g k n).region g).expected k = (v + m) % 4096 := by
  induction n generalizing s v with
  | zero => exact ⟨0, Nat.le_refl 0, now⟩
  | succ n ih =>
    cases here : (s.region g).expectedCell k with
    | none => rw [State.releaseRun_none here]; exact ⟨0, Nat.zero_le _, now⟩
    | some x =>
      rw [State.releaseRun_some here]
      obtain ⟨m, le, at_⟩ := ih (s.releaseOne g k x) (v + 1) (by rw [s.releaseOne_expected, now]; exact Nat.mod_add_mod ..)
      exact ⟨m + 1, Nat.succ_le_succ le, at_.trans (congrArg (· % 4096) (by omega))⟩

/-- A hole that is passed over: the expected cell declared lost, and the expected number one further. -/
def State.passHole (s : State) (g k : Nat) (e : Nat) (f : Cell → Bool) : State :=
  ((s.inc64 0x3800 0x08).declareLost g k f).setRegion g
    { ((s.inc64 0x3800 0x08).declareLost g k f).region g with expected := Sparse.set 0 (s.region g).expected k ((e + 1) % 4096) }

theorem holeTimeout_passes (dst src : RegionId) (contracted : Bool) (s : State) (k e : Nat) (stream : k = 2 * src.val + ofBool contracted)
    (now : e = Sparse.get 0 (s.region dst).expected k) (held : Sparse.get [] (s.region dst).window k ≠ []) :
    Runs (.holeTimeout dst src contracted) s fun t => t.nat 0x3800 0x08 = min (s.nat 0x3800 0x08 + 1) (2 ^ 64 - 1) ∧
      (∃ n, n ≤ 64 ∧ Sparse.get 0 (t.region dst).expected k = (e + 1 + n) % 4096) ∧
      ((∀ x ∈ Sparse.get [] (s.region dst).window k, x.sequence ≠ (e + 1) % 4096) →
        Sparse.get 0 (t.region dst).expected k = (e + 1) % 4096 ∧
        Sparse.get [] (t.region dst).window k = Sparse.get [] (s.region dst).window k) := by
  have run : exec (.holeTimeout dst src contracted) s = .next ((s.passHole dst k e (fun x =>
      x.epoch == Sparse.get 0 (s.region dst).inEpoch src && x.sequence == e)).releaseRun dst k 64) := by
    subst stream now
    exact if_neg (by simpa using held)
  refine .of run ?_
  generalize (fun x : Cell => x.epoch == Sparse.get 0 (s.region dst).inEpoch src && x.sequence == e) = f
  have lost := (s.inc64 0x3800 0x08).declareLost_assembles dst k f
  have counted : (s.passHole dst k e f).nat 0x3800 0x08 = min (s.nat 0x3800 0x08 + 1) (2 ^ 64 - 1) :=
    (lost.entries.nat (by decide) (by unfold assemblyEntry; decide)).trans (State.nat_inc64_of rfl)
  have expected : Sparse.get 0 ((s.passHole dst k e f).region dst).expected k = (e + 1) % 4096 := by
    unfold State.passHole
    rw [State.region_setRegion_same, Sparse.get_set_same]
  have window : ((s.passHole dst k e f).region dst).window = (s.region dst).window := by
    unfold State.passHole
    rw [State.region_setRegion_same]
    exact lost.window dst
  generalize s.passHole dst k e f = u at *
  refine ⟨((u.releaseRun_same dst k 64).nat (by decide) (by unfold assemblyEntry; decide)).trans counted,
    u.releaseRun_expected dst k 64 (e + 1) expected, fun missing => ?_⟩
  rw [State.releaseRun_none (by
    unfold RegionX.expectedCell
    rw [window, expected]
    exact List.find?_eq_none.mpr fun x hx => by simpa using missing x hx), window]
  exact ⟨expected, rfl⟩

theorem resyncClear_clears (m src : RegionId) (s : State) :
    Runs (.resyncClear m src) s fun t =>
      ((∀ d, d < 8 → ∀ x ∈ Sparse.get [] (s.region m).fabricQ (2 * d), x.source ≠ src.val) →
        (t.region m).resyncTo.testBit src = false ∧
        (∀ k, k ≠ src.val → (t.region m).resyncTo.testBit k = (s.region m).resyncTo.testBit k)) ∧
      (∀ d, d < 8 → ∀ x ∈ Sparse.get [] (s.region m).fabricQ (2 * d), x.source = src.val → t = s) ∧
      (∀ k, k ≠ m.val → t.region k = s.region k) ∧ Only partRegions s t := by
  have run : exec (.resyncClear m src) s = ite _ _ _ := rfl
  by_cases left : ((items 8).any fun d => (Sparse.get [] (s.region m).fabricQ (2 * d)).any fun x => x.source == src.val) = true
  · rw [if_pos left] at run
    refine .of run ⟨fun none => ?_, fun _ _ _ _ _ => rfl, fun _ _ => rfl, .refl _ s⟩
    simp only [items, List.any_eq_true, List.mem_range, beq_iff_eq] at left
    obtain ⟨d, hd, x, hx, own⟩ := left
    exact absurd own (none d hd x hx)
  · rw [if_neg left] at run
    refine .of run ⟨fun _ => ?_, fun d hd x hx own => absurd ?_ left, fun k hk => ?_, State.setRegion_only s _ _ (.refl _ s) rfl⟩
    · rw [State.region_setRegion_same]
      exact ⟨(testBit_setBit ..).trans (if_pos rfl), fun k hk => (testBit_setBit ..).trans (if_neg hk)⟩
    · simp only [items, List.any_eq_true, List.mem_range, beq_iff_eq]
      exact ⟨d, hd, x, hx, own⟩
    · exact (State.region_setRegion ..).trans (if_neg (Ne.symm hk))

theorem cutThroughHoldRelease_ends (g : RegionId) (s : State) : Runs (.cutThroughHoldRelease g) s fun t =>
    t.region g = { s.region g with ctHold := false } ∧ (∀ k, k ≠ g.val → t.region k = s.region k) ∧ Only partRegions s t :=
  .of rfl ⟨State.region_setRegion_same .., fun _ hk => (State.region_setRegion ..).trans (if_neg (Ne.symm hk)),
    State.setRegion_only s _ _ (.refl _ s) rfl⟩

/-! Credits: every region's pairs with the one just unfenced. -/

/-- The credits of a region's pairs with region `g` are all at hand, and it owes nothing over them. -/
def RegionX.restored (g : Nat) (r : RegionX) : Prop :=
  r.restoreWait.testBit g = false ∧ Sparse.get 0 r.owed g = 0 ∧
    ∀ d, d < 8 → Sparse.get 0 r.spent (8 * g + d) = 0 ∧ Sparse.get 0 r.spent (8 * d + g) = 0

theorem Sparse.get_filter_gone {α : Type} (d : α) (m : Sparse α) (f : Nat × α → Bool) (k : Nat) (gone : ∀ v, f (k, v) = false) :
    Sparse.get d (m.filter f) k = d := by
  induction m with
  | nil => rfl
  | cons e r ih =>
    rw [List.filter_cons]
    split_ifs with kept
    · rw [Sparse.get, if_neg (fun same => by subst same; exact absurd kept (by simp [gone e.2]))]
      exact ih
    · exact ih

theorem State.restorePairs_restored (s : State) {g f : Nat} (hg : g < 8) : ((s.restorePairs g f).region f).restored g := by
  unfold State.restorePairs
  rw [State.region_setRegion_same]
  refine ⟨(testBit_setBit ..).trans (if_pos rfl), ?_, fun d hd => ⟨?_, ?_⟩⟩
  · dsimp only
    split_ifs
    · rfl
    · rw [Sparse.get_drop, if_pos rfl]
  · exact Sparse.get_filter_gone _ _ _ _ fun _ => by simp [show (8 * g + d) / 8 = g by omega]
  · exact Sparse.get_filter_gone _ _ _ _ fun _ => by simp [show (8 * d + g) % 8 = g by omega]

theorem creditRestore_restores (g : RegionId) (s : State) (up : s.regionFenced g = false) (aligned : (s.region g).adjusts = false) :
    Runs (.creditRestore g) s fun t => Only partRegions s t ∧
      ∀ f, f < 8 → (t.region f).restoreWait.testBit g = false ∧ Sparse.get 0 (t.region f).owed g = 0 ∧
        (∀ d, d < 8 → Sparse.get 0 (t.region f).spent (8 * g + d) = 0 ∧ Sparse.get 0 (t.region f).spent (8 * d + g) = 0) := by
  have run : exec (.creditRestore g) s = .next ((items 8).foldl (fun a f => a.restorePairs g f) s) :=
    congrArg _ (if_neg (by simp [up, aligned]))
  refine .of run ⟨.foldl (.refl _ s) fun a f => State.restorePairs_only a g f (.refl _ a) rfl, fun f hf => ?_⟩
  refine foldl_attains (Before := fun _ => True) (After := fun a => (a.region f).restored g) (f := fun a k => State.restorePairs a g k)
    (List.mem_range.mpr hf) (fun a _ => a.restorePairs_restored g.isLt) (fun _ _ _ _ => trivial) (fun a k _ done => ?_) trivial
  by_cases own : k = f
  · subst own
    exact a.restorePairs_restored g.isLt
  · rw [show (a.restorePairs g k).region f = a.region f from (State.region_setRegion ..).trans (if_neg own)]
    exact done

/-- Settles O19. -/
theorem fabricRecovers : Obligations.FabricRecovers := by
  unfold Obligations.FabricRecovers
  exact ⟨holeTimeout_passes, resyncClear_clears, cutThroughHoldRelease_ends, creditRestore_restores⟩

end Sys2Proof.Machine

namespace Sys2Proof.Machine

/-! ## Alignment (06 R155, R156) -/

theorem alignmentMark_shows (g : RegionId) (offsetPs : Int) (s : State) (runs : s.fabricRuns = true) (up : s.regionFenced g = false) :
    Runs (.alignmentMark g offsetPs) s fun t => t.reg 0x3800 0x03 = (t.region g).offset ∧
      -6400 ≤ (t.region g).offset ∧ (t.region g).offset < 6400 ∧ ((t.region g).offset - offsetPs) % 12800 = 0 ∧
      (400 < (t.region g).offset.natAbs → t.alignmentStatus = 2) ∧ (∀ k, k ≠ g.val → t.region k = s.region k) ∧
      SameEntries (fun i j => i = 0x3800 ∧ j = 0x03) s t ∧ Only (partRegs ||| partRegions) s t := by
  have run : exec (.alignmentMark g offsetPs) s = .next (s.takeOffset g offsetPs) := congrArg _ (if_neg (by simp [runs, up]))
  have region : (s.takeOffset g offsetPs).region g = { s.region g with offset := wrapOffset offsetPs } := State.region_setRegion_same ..
  have offset : ((s.takeOffset g offsetPs).region g).offset = wrapOffset offsetPs := by rw [region]
  refine .of run ⟨?_, ?_, ?_, ?_, fun far => ?_, fun k hk => (State.region_setRegion ..).trans (if_neg (Ne.symm hk)),
    ((SameEntries.refl _ s).setReg (by decide) ⟨rfl, rfl⟩).of_regs rfl, State.takeOffset_only s g offsetPs (.refl _ s) rfl⟩
  · rw [offset]
    exact State.reg_setReg_same ..
  · rw [offset]; unfold wrapOffset; omega
  · rw [offset]; unfold wrapOffset; omega
  · rw [offset]; unfold wrapOffset; omega
  · have turning : (s.takeOffset g offsetPs).realigning = true := by
      refine List.any_eq_true.mpr ⟨g, List.mem_range.mpr g.isLt, ?_⟩
      rw [Bool.and_eq_true]
      refine ⟨by rw [show (s.takeOffset g offsetPs).regionFenced g = s.regionFenced g from rfl, up]; rfl, ?_⟩
      exact decide_eq_true (by omega)
    unfold State.alignmentStatus
    rw [turning, show (s.takeOffset g offsetPs).fabricRuns = s.fabricRuns from rfl, runs]
    rfl

/-! ## Epochs (06 R165, R173) -/

/-- The old epoch of a source is still open at the region, and the epoch that is current. -/
def State.epochView (s : State) (g f : Nat) : Bool × Nat := ((s.region g).closing.testBit f, Sparse.get 0 (s.region g).inEpoch f)

theorem State.epochView_of_fabric {s t : State} {g : Nat} (same : (t.region g).fabricSide = (s.region g).fabricSide) (f : Nat) :
    t.epochView g f = s.epochView g f :=
  show ((t.region g).fabricSide.closing.testBit f, Sparse.get 0 (t.region g).fabricSide.inEpoch f) =
    ((s.region g).fabricSide.closing.testBit f, Sparse.get 0 (s.region g).fabricSide.inEpoch f) from by rw [same]

theorem State.epochView_addSat (s : State) (i j bits n g f : Nat) : (s.addSat i j bits n).epochView g f = s.epochView g f := rfl

/-- The release of the cells of a stream leaves the epochs. -/
theorem State.releaseRun_epochView (g k n f : Nat) (s : State) : (s.releaseRun g k n).epochView g f = s.epochView g f := by
  induction n generalizing s with
  | zero => rfl
  | succ n ih =>
    cases here : (s.region g).expectedCell k with
    | none => rw [State.releaseRun_none here]
    | some x =>
      rw [State.releaseRun_some here, ih]
      unfold State.releaseOne
      rw [State.epochView_of_fabric ((State.assemble_assembles _ g x).fabric g)]
      unfold State.epochView
      rw [State.region_setRegion_same]

/-- What the old epoch of a source still holds at the region is released past its holes, and the copies that miss cells have lost them. -/
def State.endEpoch (s : State) (g f : Nat) : State :=
  let r := s.region g
  let held := r.inSequence (2 * f) ++ r.inSequence (2 * f + 1)
  let s := s.setRegion g { r with window := Sparse.set [] (Sparse.set [] r.window (2 * f) []) (2 * f + 1) [] }
  let s := held.foldl (fun a x => a.assemble g x) s
  let old := fun (x : Cell) => x.epoch == Sparse.get 0 r.inEpoch f
  let s := (s.declareLost g (2 * f) old).declareLost g (2 * f + 1) old
  let s := s.badCopies g (fun c => !c.complete && (c.cells.head?.map (·.source)) == some f) true (fun c => s.copyLossCode g c)
  s.addSat 0x3800 0x0D 32 2

/-- The next epoch of a source becomes the current one. -/
def State.nextEpoch (s : State) (g f : Nat) : State :=
  let r := s.region g
  s.setRegion g { r with
    closing := setBit r.closing f false
    inEpoch := Sparse.set 0 r.inEpoch f ((Sparse.get 0 r.inEpoch f + 1) % 4)
    expected := Sparse.set 0 (Sparse.set 0 r.expected (2 * f) 0) (2 * f + 1) 0
    window := Sparse.set [] (Sparse.set [] r.window (2 * f) (Sparse.get [] r.nextWindow (2 * f))) (2 * f + 1)
      (Sparse.get [] r.nextWindow (2 * f + 1))
    nextWindow := Sparse.set [] (Sparse.set [] r.nextWindow (2 * f) []) (2 * f + 1) [] }

theorem State.closeEpoch_eq (s : State) (g f : Nat) : s.closeEpoch g f =
    (((s.endEpoch g f).nextEpoch g f).releaseRun g (2 * f) 64).releaseRun g (2 * f + 1) 64 := rfl

theorem State.endEpoch_epochView (s : State) (g f k : Nat) : (s.endEpoch g f).epochView g k = s.epochView g k := by
  unfold State.endEpoch
  extract_lets r held u v old w x
  have released : u.Assembles v := .foldl _ fun a y _ => a.assemble_assembles g y
  have lost : u.Assembles w := (released.trans (v.declareLost_assembles g (2 * f) old)).trans (State.declareLost_assembles ..)
  have ended : u.Assembles x := lost.trans (State.badCopies_assembles ..)
  rw [State.epochView_addSat, State.epochView_of_fabric (ended.fabric g)]
  unfold State.epochView
  rw [State.region_setRegion_same]

theorem State.nextEpoch_epochView (s : State) (g f k : Nat) : (s.nextEpoch g f).epochView g k =
    if k = f then (false, ((s.epochView g f).2 + 1) % 4) else s.epochView g k := by
  unfold State.nextEpoch State.epochView
  dsimp only
  rw [State.region_setRegion_same]
  dsimp only
  rw [testBit_setBit]
  split_ifs with own
  · rw [own, Sparse.get_set_same]
  · rw [Sparse.get_set_ne 0 0 _ _ (Ne.symm own)]

theorem State.closeEpoch_epochView (s : State) (g f k : Nat) : (s.closeEpoch g f).epochView g k =
    if k = f then (false, ((s.epochView g f).2 + 1) % 4) else s.epochView g k := by
  rw [State.closeEpoch_eq, State.releaseRun_epochView, State.releaseRun_epochView, State.nextEpoch_epochView, State.endEpoch_epochView,
    State.endEpoch_epochView]

theorem epochClose_moves (dst : RegionId) (s : State) (up : s.regionFenced dst = false) :
    Runs (.epochClose dst) s fun t => ∀ f, f < 8 → (t.region dst).closing.testBit f = false ∧
      Sparse.get 0 (t.region dst).inEpoch f =
        (if (s.region dst).closing.testBit f = true then (Sparse.get 0 (s.region dst).inEpoch f + 1) % 4
         else Sparse.get 0 (s.region dst).inEpoch f) := by
  have run : exec (.epochClose dst) s = .next _ := if_neg (by simp [up])
  refine .of run fun f hf => ?_
  obtain ⟨a, before, after⟩ := foldl_seen (view := fun a k => State.epochView a dst k)
    (f := fun a f => if (a.region dst).closing.testBit f then a.closeEpoch dst f else a) List.nodup_range (List.mem_range.mpr hf)
    (fun a n _ apart => by
      split_ifs
      · rw [State.closeEpoch_epochView, if_neg (Ne.symm apart)]
      · rfl) s
  have was : (a.region dst).closing.testBit f = (s.region dst).closing.testBit f := congrArg Prod.fst before
  rw [was] at after
  by_cases open_ : (s.region dst).closing.testBit f = true
  · rw [if_pos open_, State.closeEpoch_epochView, if_pos rfl, before] at after
    rw [if_pos open_]
    exact ⟨congrArg Prod.fst after, congrArg Prod.snd after⟩
  · rw [if_neg open_, before] at after
    rw [if_neg open_]
    exact ⟨(congrArg Prod.fst after).trans (Bool.eq_false_iff.mpr open_), congrArg Prod.snd after⟩

/-- Settles O20. -/
theorem fabricAlignsAndChangesEpoch : Obligations.FabricAlignsAndChangesEpoch := by
  unfold Obligations.FabricAlignsAndChangesEpoch
  exact ⟨alignmentMark_shows, epochClose_moves⟩

end Sys2Proof.Machine

namespace Sys2Proof.Machine

/-! ## Egress (07 R192; 04 R100; 05 R137) -/

theorem SameEntries.ite {K : Nat → Nat → Prop} {s t u : State} {c : Prop} [Decidable c] (a : SameEntries K s t) (b : SameEntries K s u) :
    SameEntries K s (if c then t else u) := by
  split_ifs
  · exact a
  · exact b

theorem SameEntries.foldl {K : Nat → Nat → Prop} {α : Type} {f : State → α → State} {s : State} (l : List α)
    (step : ∀ a : State, ∀ x ∈ l, SameEntries K a (f a x)) : SameEntries K s (l.foldl f s) := by
  induction l generalizing s with
  | nil => exact .refl K s
  | cons x xs ih => exact (step s x (.head _)).trans (ih fun a y hy => step a y (.tail _ hy))

/-! ### Copies that age -/

section Ageing
variable (s : State) (p q : Nat) (c : Copy) (why : Nat)

theorem State.countAged_assembles : s.Assembles (s.countAged p q c why) := by
  have counted : ∀ j, assemblyEntry (queueIndex p q) j → j < 256 → ∀ b, s.Assembles ((s.inc64 (queueIndex p q) j).putBit (queueIndex p q) 0x07 b true) :=
    fun j own hj b => ((State.Assembles.refl s).setReg hj own).setReg (by decide) (assemblyEntry_queue p q (by decide))
  have index : 0x4000 ≤ queueIndex p q := by unfold queueIndex; omega
  unfold State.countAged
  exact .ite (counted 0x09 (.inr (.inl ⟨index, rfl⟩)) (by decide) 2)
    ((counted 0x0A (.inl rfl) (by decide) 4).trans (State.copyBreach_assembles ..))

theorem State.ageOut_assembles : s.Assembles (s.ageOut p q c why) :=
  (s.removeCopies_assembles p q _).trans (State.countAged_assembles ..)

theorem State.expireHeads_assembles (n : Nat) : s.Assembles (s.expireHeads p q n) := by
  induction n generalizing s with
  | zero => exact .refl s
  | succ n ih =>
    rw [State.expireHeads]
    split
    · exact .refl s
    · exact .ite (.refl s) ((s.ageOut_assembles p q _ _).trans (ih _))

theorem State.expireAll_assembles : s.Assembles (s.expireAll p q) :=
  .foldl _ fun a d _ => .ite (.refl a) (a.ageOut_assembles p q d _)

/-- A head within its limits stays, and with it its queue. -/
theorem State.expireHeads_fresh {n : Nat} (fresh : ((s.queue p q).copies.head?.map (s.expired p q)).getD 0 = 0) : s.expireHeads p q n = s := by
  cases n with
  | zero => rfl
  | succ n =>
    rw [State.expireHeads]
    cases held : (s.queue p q).copies with
    | nil => rfl
    | cons d rest =>
      rw [held] at fresh
      exact if_pos fresh

end Ageing

/-! ### The choice of a frame leaves the line and the counts of the port -/

/-- The entries that the choice of a frame may write. -/
def selectionEntry (i j : Nat) : Prop := j = 0x0A ∨ 0x4000 ≤ i

theorem State.Assembles.selection {s t : State} (a : s.Assembles t) : SameEntries selectionEntry s t :=
  a.entries.mono fun i j own => by unfold assemblyEntry at own; unfold selectionEntry; omega

/-- The head of a queue starts: its timestamps are taken, the SecY protects it, and its port sends it. -/
def State.depart (s : State) (p q : Nat) (behind : Int) (c : Copy) (rest : List Copy) : State :=
  let late := c.lateBy.getD 0
  let s := if 0 < late then s.copyBreach (p / 12) c 6 late else s
  let (secy, s) := s.secyTake p
  let x := s.queue p q
  let c := { c with
    started := true
    breached := c.breached || decide (0 < late)
    depart := (items 8).map (fun k => (s.departAt (p / 4) k (behind + s.insertionDelay p)).1)
    departEpochs := (items 8).map (fun k => (s.departAt (p / 4) k (behind + s.insertionDelay p)).2)
    secy := secy
    protect := s.protection p }
  let used := if q < 24 ∧ s.weight p q ≠ 0 then x.deficit - s.fitLength p c else x.deficit
  let s := s.setQueue p q { x with copies := c :: rest, deficit := used }
  (s.setEg p { s.eg p with sending := q, listChanged := false }).stampEvent p c

section Selection
variable (s : State) (p q : Nat) (behind : Int) (c : Copy) (rest : List Copy)

theorem State.startHead_empty (none : (s.queue p q).copies = []) : s.startHead p q behind = s := by
  unfold State.startHead
  rw [none]

theorem State.startHead_spoilt (first : (s.queue p q).copies = c :: rest) (spoilt : c.spoiltCells ≠ 0) :
    s.startHead p q behind = (s.countSpoilt (p / 12) c).badCopies (p / 12) c.sameFrame false (fun _ => 0) := by
  unfold State.startHead
  rw [first]
  exact if_pos spoilt

theorem State.startHead_departs (first : (s.queue p q).copies = c :: rest) (whole : c.spoiltCells = 0) :
    s.startHead p q behind = s.depart p q behind c rest := by
  unfold State.startHead
  rw [first]
  exact if_neg (not_not.mpr whole)

theorem State.queueEvent_selection (e t type data : Nat) : SameEntries selectionEntry s (s.queueEvent e t type data) :=
  .ite ((SameEntries.refl _ s).of_regs rfl) ((SameEntries.refl _ s).setReg (by decide) (.inr (by omega)))

theorem State.sendEvent_selection (thread type data : Nat) : SameEntries selectionEntry s (s.sendEvent thread type data) := by
  have lost : ∀ e, SameEntries selectionEntry s (s.inc32 (0xB000 + e) 0x05) := fun e =>
    (SameEntries.refl _ s).setReg (by decide) (.inr (by omega))
  exact .ite (.refl _ s) (.ite (.ite (s.queueEvent_selection _ _ type data) (lost _)) (.ite (lost _) (s.queueEvent_selection _ _ type data)))

theorem State.stampEvent_selection : SameEntries selectionEntry s (s.stampEvent p c) := .ite (.refl _ s) (s.sendEvent_selection _ 2 _)

theorem State.secyTake_selection : SameEntries selectionEntry s (s.secyTake p).2 := by
  unfold State.secyTake
  split
  · exact .refl _ s
  · extract_lets x n rekey gone u v
    split
    · exact .refl _ s
    · have numbered : SameEntries selectionEntry s v :=
        .ite (((SameEntries.refl _ s).of_regs rfl).trans (u.sendEvent_selection _ 7 p)) (.of_regs (.refl _ s) rfl)
      exact .ite (numbered.trans (v.raise_assembles _ 0).selection) numbered

theorem State.depart_selection : SameEntries selectionEntry s (s.depart p q behind c rest) := by
  unfold State.depart
  extract_lets late u
  have judged : SameEntries selectionEntry s u := .ite (s.copyBreach_assembles _ c 6 late).selection (.refl _ s)
  have taken := u.secyTake_selection p
  generalize u.secyTake p = y at *
  obtain ⟨secy, v⟩ := y
  dsimp -zeta only at *
  extract_lets x d used w
  exact ((judged.trans taken).of_regs rfl).trans ((w.setEg p { w.eg p with sending := q, listChanged := false }).stampEvent_selection p d)

theorem State.countSpoilt_selection (g : Nat) : SameEntries selectionEntry s (s.countSpoilt g c) :=
  .ite (.refl _ s) (((SameEntries.refl _ s).of_regs rfl).setReg (by decide) (.inr (by omega)))

theorem State.startHead_selection : SameEntries selectionEntry s (s.startHead p q behind) := by
  cases first : (s.queue p q).copies with
  | nil => rw [s.startHead_empty p q behind first]; exact .refl _ s
  | cons c rest =>
    by_cases whole : c.spoiltCells = 0
    · rw [s.startHead_departs p q behind c rest first whole]; exact s.depart_selection p q behind c rest
    · rw [s.startHead_spoilt p q behind c rest first whole]
      exact (s.countSpoilt_selection c _).trans (State.badCopies_assembles ..).selection

theorem State.selectNow_selection (edge : StartEdge) : SameEntries selectionEntry s (s.selectNow p edge) := by
  unfold State.selectNow
  refine .ite (.refl _ s) ?_
  have measured := State.frameStart_only s p (s.sendingLane p) edge (.refl partDetectors s) rfl
  generalize s.frameStart p (s.sendingLane p) edge = y at *
  obtain ⟨behind, u⟩ := y
  dsimp -zeta only at *
  extract_lets v
  have aged : SameEntries selectionEntry s v := ((SameEntries.refl _ s).of_regs (measured.regs (by decide))).trans
    (.foldl _ fun a k _ => (a.expireHeads_assembles p k _).selection)
  refine aged.trans ?_
  split
  · exact v.startHead_selection p _ behind
  · refine .ite (.refl _ v) ?_
    split
    next k w chosen =>
      have turned := State.weightedChoice_only (.refl 0xc00 v) rfl chosen
      exact ((SameEntries.refl _ v).of_regs (turned.regs (by decide))).trans (w.startHead_selection p k behind)
    next => exact .refl _ v

end Selection

/-! ### The frame that strict service names -/

theorem State.depart_sending (s : State) (p q : Nat) (behind : Int) (c : Copy) (rest : List Copy) :
    ((s.depart p q behind c rest).eg p).sending = q ∧ ((s.depart p q behind c rest).queue p q).copies.head?.map (·.started) = some true := by
  unfold State.depart
  extract_lets late u
  generalize u.secyTake p = y
  obtain ⟨secy, v⟩ := y
  dsimp -zeta only
  extract_lets x d used w
  have stamped := State.stampEvent_only (w.setEg p { w.eg p with sending := q, listChanged := false }) p d (.refl 0x400000000000000000002 _) rfl
  rw [stamped.eg_kept (by decide), stamped.queue_kept (by decide), State.eg_setEg_same]
  refine ⟨rfl, ?_⟩
  rw [show (w.setEg p { w.eg p with sending := q, listChanged := false }).queue p q = w.queue p q from rfl, State.queue_setQueue_same]
  rfl

/-- What the detectors measure has no part in the choice. -/
theorem State.frameStart_detectors (s : State) (p l : Nat) (edge : StartEdge) : ∃ d, (s.frameStart p l edge).2 = { s with detectors := d } := by
  unfold State.frameStart
  dsimp only
  split
  · exact ⟨_, rfl⟩
  · exact ⟨_, rfl⟩

theorem State.strictChoice_detectors (s : State) (p : Nat) (d : Sparse DetectorX) : ({ s with detectors := d } : State).strictChoice p = s.strictChoice p := rfl

/-- A queue that is named can send its head. -/
theorem State.strictChoice_sendable {s : State} {p q : Nat} (chosen : s.strictChoice p = some q) : s.sendable p q = true := by
  unfold State.strictChoice at chosen
  split at chosen
  next k found => exact Option.some.inj chosen ▸ List.find?_some found
  next =>
    split_ifs at chosen
    exact List.find?_some chosen

theorem State.sendable_head {s : State} {p q : Nat} (ready : s.sendable p q = true) : ∃ c rest, (s.queue p q).copies = c :: rest := by
  unfold State.sendable at ready
  cases held : (s.queue p q).copies with
  | nil => rw [held] at ready; exact Bool.noConfusion ready
  | cons c rest => exact ⟨c, rest, rfl⟩

theorem State.selectNow_strict {s : State} {p q : Nat} (edge : StartEdge) (chosen : s.strictChoice p = some q) (up : s.portUp p = true)
    (whole : s.portFenced p = false) (fresh : ∀ k, k < 32 → ((s.queue p k).copies.head?.map (s.expired p k)).getD 0 = 0)
    (sound : ((s.queue p q).copies.head?.map (·.spoiltCells)).getD 1 = 0) :
    ((s.selectNow p edge).eg p).sending = q ∧ ((s.selectNow p edge).queue p q).copies.head?.map (·.started) = some true := by
  have started : ∃ (behind : Int) (u : State) (c : Copy) (rest : List Copy), s.selectNow p edge = u.depart p q behind c rest := by
    unfold State.selectNow
    rw [if_neg (by simp [up, whole])]
    obtain ⟨d, measured⟩ := s.frameStart_detectors p (s.sendingLane p) edge
    generalize s.frameStart p (s.sendingLane p) edge = y at *
    obtain ⟨behind, u⟩ := y
    dsimp only at measured
    subst measured
    dsimp only
    have kept : (items 32).foldl (fun a q => a.expireHeads p q (a.queue p q).copies.length) { s with detectors := d } = { s with detectors := d } := by
      refine List.foldlRecOn (motive := fun a => a = { s with detectors := d }) _ _ rfl fun a same k hk => ?_
      rw [same]
      exact State.expireHeads_fresh _ p k (fresh k (List.mem_range.mp hk))
    obtain ⟨c, rest, first⟩ := State.sendable_head (State.strictChoice_sendable chosen)
    rw [first] at sound
    rw [kept, State.strictChoice_detectors, chosen]
    exact ⟨behind, _, c, rest, State.startHead_departs _ p q behind c rest first sound⟩
  obtain ⟨behind, u, c, rest, run⟩ := started
  rw [run]
  exact u.depart_sending p q behind c rest

theorem egressSelection_strict (p : PortId) (edge : StartEdge) (s : State) (q : Nat) (chosen : s.strictChoice p = some q) (idle : 32 ≤ (s.eg p).sending)
    (up : s.portUp p = true) (whole : s.portFenced p = false)
    (fresh : ∀ k, k < 32 → ((s.queue p k).copies.head?.map (s.expired p k)).getD 0 = 0)
    (sound : ((s.queue p q).copies.head?.map (·.spoiltCells)).getD 1 = 0) :
    Runs (.egressSelection p edge) s (fun t => (t.eg p).sending = q ∧
      (t.queue p q).copies.head?.map (·.started) = some true) ∧
    Runs (.releaseInstant p edge) s (fun t => (t.eg p).sending = q ∧
      (t.queue p q).copies.head?.map (·.started) = some true) := by
  have selected := State.selectNow_strict edge chosen up whole fresh sound
  exact ⟨.of (if_pos idle) selected, .of (if_neg (by omega)) selected⟩

/-! ### The end of a frame -/

/-- The entries that the end of a frame may write before it is on the line. -/
def endEntry (i j : Nat) : Prop := j = 0x0A ∨ 0x4000 ≤ i ∨ (0x2400 ≤ i ∧ j = 0x16)

/-- The frame in transmission has left its port, which is idle. -/
def State.leavePort (s : State) (p q : Nat) (c : Copy) (refused : Bool) : State :=
  let s := (s.readSent p c).removeCopies p q (·.started)
  let e := s.eg p
  let s := s.setEg p { e with sending := 32, listChanged := false }
  let s := if e.listChanged then s.inc64 (0x4010 + p) 0x06 else s
  if refused then s.inc32 (0x2400 + p) 0x16 else s

/-- What has left is on the line of its port. -/
def State.setWire (s : State) (p : Nat) (x : LineFrame) : State := { s with wire := Sparse.set {} s.wire p x }

/-- What has left is on the line and counted, or was dropped by the SecY and counted there. -/
def State.countSent (s : State) (p : Nat) (c : Copy) (bytes : List Byte) (bad : Bool) : State :=
  if c.secy = 2 then s.inc64 (0x2200 + p) 0x0C
  else
    let s := s.setWire p { bytes := bytes, ends := s.lineEnd p bad }
    let s := (s.addSat (0x2200 + p) 0x07 64 bytes.length).inc64 (0x2200 + p) 0x08
    let s := if bad then s.inc64 (0x2200 + p) 0x09 else s
    if c.secy = 1 then s.inc64 (0x2200 + p) 0x0E else s

/-- A frame ends bad where it is cut short, came in bad or has met an error in its cells. -/
def Copy.endsBad (c : Copy) (cut : Bool) : Bool := cut || c.bad || decide (c.spoiltCells ≠ 0)

theorem State.endFrame_eq (s : State) (p q : Nat) (c : Copy) (cut : Bool) : s.endFrame p q c cut =
    (s.leavePort p q c (s.onLine p c (c.endsBad cut)).2).countSent p c (s.onLine p c (c.endsBad cut)).1 (c.endsBad cut) := rfl

section End
variable (s : State) (p q : Nat) (c : Copy)

theorem State.Assembles.ending {s t : State} (a : s.Assembles t) : SameEntries endEntry s t :=
  a.entries.mono fun i j own => by unfold assemblyEntry at own; unfold endEntry; omega

theorem State.readSent_ending : SameEntries endEntry s (s.readSent p c) := by
  unfold State.readSent
  extract_lets g u
  have counted : SameEntries endEntry s u :=
    ((SameEntries.refl _ s).setReg (by decide) (.inr (.inl (by omega)))).trans (.ite (.refl _ _)
      (((SameEntries.refl _ _).of_regs rfl).setReg (by decide) (.inr (.inl (by omega)))))
  exact .ite counted (counted.trans (u.badCopies_assembles g _ false _).ending)

theorem State.leavePort_ending (refused : Bool) : SameEntries endEntry s (s.leavePort p q c refused) := by
  unfold State.leavePort
  extract_lets u e v w
  have gone : SameEntries endEntry s v := ((s.readSent_ending p c).trans (State.removeCopies_assembles ..).ending).of_regs rfl
  have counted : SameEntries endEntry s w := .ite (gone.setReg (by decide) (.inr (.inl (by omega)))) gone
  exact .ite (counted.setReg (by decide) (.inr (.inr ⟨by omega, rfl⟩))) counted

theorem State.leavePort_idle (refused : Bool) : ((s.leavePort p q c refused).eg p).sending = 32 := by
  unfold State.leavePort
  extract_lets u e v w
  have idle : (v.eg p).sending = 32 := by rw [State.eg_setEg_same]
  have counted : (w.eg p).sending = 32 := by
    simp only [w]
    split_ifs <;> exact idle
  split_ifs <;> exact counted

theorem State.countSent_eg (bytes : List Byte) (bad : Bool) (k : Nat) : (s.countSent p c bytes bad).eg k = s.eg k := by
  unfold State.countSent
  cases bad <;> split_ifs <;> rfl

/-- Sent, not dropped by the SecY: the frame stands on the line and is counted, a bad one as such too. -/
theorem State.countSent_sent (bytes : List Byte) (bad : Bool) (sent : c.secy ≠ 2) :
    Sparse.get {} (s.countSent p c bytes bad).wire p = { bytes := bytes, ends := s.lineEnd p bad } ∧
      (s.countSent p c bytes bad).nat (0x2200 + p) 0x08 = min (s.nat (0x2200 + p) 0x08 + 1) (2 ^ 64 - 1) ∧
      (bad = true → (s.countSent p c bytes bad).nat (0x2200 + p) 0x09 = min (s.nat (0x2200 + p) 0x09 + 1) (2 ^ 64 - 1)) := by
  unfold State.countSent
  rw [if_neg sent]
  extract_lets u v w
  have beside : SameEntries (fun _ j => j = 0x07 ∨ j = 0x08) s v :=
    ((((SameEntries.refl _ s).of_regs (u := u) rfl).setReg (by decide) (.inl rfl)).setReg (by decide) (.inr rfl))
  have eight : v.nat (0x2200 + p) 0x08 = min (s.nat (0x2200 + p) 0x08 + 1) (2 ^ 64 - 1) := by
    refine State.nat_inc64_of ?_
    exact (((SameEntries.refl (fun _ j => j = 0x07) s).of_regs (u := u) rfl).setReg (by decide) rfl).nat (by decide) (by decide)
  have nine : bad = true → w.nat (0x2200 + p) 0x09 = min (s.nat (0x2200 + p) 0x09 + 1) (2 ^ 64 - 1) := fun h => by
    simp only [w, if_pos h]
    exact State.nat_inc64_of (beside.nat (by decide) (by decide))
  have bads : SameEntries (fun _ j => j = 0x09) v w := .ite ((SameEntries.refl _ v).setReg (by decide) rfl) (.refl _ v)
  have last : SameEntries (fun _ j => j = 0x0E) w (if c.secy = 1 then w.inc64 (0x2200 + p) 0x0E else w) :=
    .ite ((SameEntries.refl _ w).setReg (by decide) rfl) (.refl _ w)
  refine ⟨?_, (last.nat (by decide) (by decide)).trans ((bads.nat (by decide) (by decide)).trans eight),
    fun h => (last.nat (by decide) (by decide)).trans (nine h)⟩
  have kept : (if c.secy = 1 then w.inc64 (0x2200 + p) 0x0E else w).wire = u.wire := by
    simp only [w]
    split_ifs <;> rfl
  rw [kept]
  exact Sparse.get_set_same ..

theorem State.countSent_dropped (bytes : List Byte) (bad : Bool) (dropped : c.secy = 2) : s.countSent p c bytes bad = s.inc64 (0x2200 + p) 0x0C :=
  if_pos dropped

theorem State.countSent_same (bytes : List Byte) (bad : Bool) : SameEntries (fun i _ => i = 0x2200 + p) s (s.countSent p c bytes bad) := by
  unfold State.countSent
  extract_lets u v w
  have counted : SameEntries (fun i _ => i = 0x2200 + p) s v :=
    SameEntries.setReg (i := 0x2200 + p) (j := 0x08) (SameEntries.setReg (i := 0x2200 + p) (j := 0x07) ((SameEntries.refl _ s).of_regs (u := u) rfl)
      (by decide) rfl) (by decide) rfl
  have bads : SameEntries (fun i _ => i = 0x2200 + p) s w := .ite (counted.setReg (by decide) rfl) counted
  exact .ite ((SameEntries.refl _ s).setReg (by decide) rfl) (.ite (bads.setReg (by decide) rfl) bads)

theorem State.leavePort_wire (refused : Bool) : (s.leavePort p q c refused).wire = s.wire := by
  have gone : Only 0x140000000600001c02 s (s.leavePort p q c refused) := by
    have read := State.removeCopies_only _ p q (·.started) (State.readSent_only s p c (.refl 0x140000000600001c02 s) rfl) rfl
    have idle := State.setEg_only _ p { ((s.readSent p c).removeCopies p q (·.started)).eg p with sending := 32, listChanged := false } read rfl
    have counted := Only.ite (c := (((s.readSent p c).removeCopies p q (·.started)).eg p).listChanged = true)
      (State.inc64_only _ (0x4010 + p) 0x06 idle rfl) idle
    exact .ite (State.inc32_only _ _ _ counted rfl) counted
  exact gone.wire (by decide)

end End

theorem egressSelection_ends (p : PortId) (edge : StartEdge) (s : State) (c : Copy)
    (sent : (s.queue p (s.eg p).sending).copies.find? (·.started) = some c) (busy : (s.eg p).sending < 32) (sound : c.bad = false)
    (complete : c.complete = true) (read : c.spoiltCells = 0) :
    Runs (.egressSelection p edge) s fun t =>
      (c.secy ≠ 2 → Sparse.get {} t.wire p = { bytes := (s.onLine p c false).1, ends := .plain } ∧
        t.nat (0x2200 + p) 0x08 = min (s.nat (0x2200 + p) 0x08 + 1) (2 ^ 64 - 1)) ∧
      (c.secy = 2 → t.wire = s.wire ∧ t.nat (0x2200 + p) 0x0C = min (s.nat (0x2200 + p) 0x0C + 1) (2 ^ 64 - 1)) := by
  have good : c.endsBad false = false := by simp [Copy.endsBad, sound, read]
  have run : exec (.egressSelection p edge) s = .next ((s.endFrame p (s.eg p).sending c false).selectNow p edge) := by
    change execEgressSelection p edge s = _
    unfold execEgressSelection
    dsimp only
    rw [if_neg (by omega), sent]
    exact if_pos (.inr complete)
  rw [State.endFrame_eq, good] at run
  have left := s.leavePort_ending p (s.eg p).sending c (s.onLine p c false).2
  have line := s.leavePort_wire p (s.eg p).sending c (s.onLine p c false).2
  generalize s.leavePort p (s.eg p).sending c (s.onLine p c false).2 = u at *
  have before : ∀ j, j < 256 → j ≠ 0x0A → j ≠ 0x16 → u.nat (0x2200 + p) j = s.nat (0x2200 + p) j := fun j hj h h' =>
    left.nat hj (by unfold endEntry; omega)
  have chosen := (u.countSent p c (s.onLine p c false).1 false).selectNow_selection p edge
  have after : ∀ j, j < 256 → j ≠ 0x0A → ((u.countSent p c (s.onLine p c false).1 false).selectNow p edge).nat (0x2200 + p) j =
      (u.countSent p c (s.onLine p c false).1 false).nat (0x2200 + p) j := fun j hj h => chosen.nat hj (by unfold selectionEntry; omega)
  have wire := (State.selectNow_only (u.countSent p c (s.onLine p c false).1 false) p edge (.refl 0x400140004000600001d02 _) rfl).wire (by decide)
  refine .of run ⟨fun out => ?_, fun out => ?_⟩
  · obtain ⟨shown, counted, _⟩ := u.countSent_sent p c (s.onLine p c false).1 false out
    rw [wire, shown, after 0x08 (by decide) (by decide), counted, before 0x08 (by decide) (by decide) (by decide)]
    exact ⟨rfl, rfl⟩
  · rw [wire, after 0x0C (by decide) (by decide), u.countSent_dropped p c _ false out]
    exact ⟨line, State.nat_inc64_of (before 0x0C (by decide) (by decide) (by decide))⟩

theorem egressUnderrun_ends (p : PortId) (s : State) (c : Copy) (sent : (s.queue p (s.eg p).sending).copies.find? (·.started) = some c)
    (busy : (s.eg p).sending < 32) (short : c.complete = false) :
    Runs (.egressUnderrun p) s fun t => (t.eg p).sending = 32 ∧
      t.nat (0x3100 + p) 0x09 = min (s.nat (0x3100 + p) 0x09 + 1) (2 ^ 64 - 1) ∧
      (c.secy ≠ 2 → t.nat (0x2200 + p) 0x09 = min (s.nat (0x2200 + p) 0x09 + 1) (2 ^ 64 - 1) ∧
        (Sparse.get {} t.wire p).ends = (if s.mode p = 1 then .errorCharacter else .errorBlock)) := by
  have bad : c.endsBad true = true := rfl
  have run : exec (.egressUnderrun p) s = .next (((s.copyBreach (p / 12) c 11 0).endFrame p (s.eg p).sending c true).inc64 (0x3100 + p) 0x09) := by
    change execEgressUnderrun p s = _
    unfold execEgressUnderrun
    dsimp only
    rw [if_neg (by omega), sent]
    exact if_neg (by simp [short])
  rw [State.endFrame_eq, bad] at run
  have breached := (s.copyBreach_assembles (p / 12) c 11 0).ending
  generalize s.copyBreach (p / 12) c 11 0 = b at *
  have left := breached.trans (b.leavePort_ending p (s.eg p).sending c (b.onLine p c true).2)
  have idle := b.leavePort_idle p (s.eg p).sending c (b.onLine p c true).2
  generalize b.leavePort p (s.eg p).sending c (b.onLine p c true).2 = u at *
  have counts := u.countSent_same p c (b.onLine p c true).1 true
  refine .of run ⟨?_, ?_, fun out => ?_⟩
  · exact (congrArg EgressX.sending (u.countSent_eg p c _ true p)).trans idle
  · refine State.nat_inc64_of ((counts.nat (by decide) (by omega)).trans (left.nat (by decide) ?_))
    unfold endEntry
    omega
  · obtain ⟨shown, _, counted⟩ := u.countSent_sent p c (b.onLine p c true).1 true out
    refine ⟨?_, ?_⟩
    · have underrun : SameEntries (fun i _ => i = 0x3100 + p.val) (u.countSent p c (b.onLine p c true).1 true)
          ((u.countSent p c (b.onLine p c true).1 true).inc64 (0x3100 + p) 0x09) := (SameEntries.refl _ _).setReg (by decide) rfl
      rw [underrun.nat (by decide) (by omega), counted rfl, left.nat (by decide) (by unfold endEntry; omega)]
    · refine (congrArg LineFrame.ends shown).trans ?_
      unfold State.lineEnd
      rw [left.mode (by unfold endEntry; omega)]
      rfl

/-- Settles O21. -/
theorem egressSendsAndEnds : Obligations.EgressSendsAndEnds := by
  unfold Obligations.EgressSendsAndEnds
  exact ⟨egressSelection_strict, egressSelection_ends, egressUnderrun_ends⟩

end Sys2Proof.Machine

namespace Sys2Proof.Machine

-- The kernel evaluates the runs below one after another: side by side, each holds a thread while it waits for the declarations before it.
set_option Elab.async false

/-! ## Queues (07 R201)

A flush that finds no copy counts none and writes no count, while the statement has the count as `addSat` would write it, at most 2^64 - 1; O22 does
not ask that an entry fits its type. -/

/-- A flush waits at queue 0 of port 0, which is empty, and whose count of flushed copies stands beyond its 64 bits. -/
def countBeyondItsType : State := { State.reset with queues := [(0, { flush := true })], regs := [(key (queueIndex 0 0) 0x0C, 2 ^ 64)] }

/-- The flush takes effect and leaves the count. -/
theorem countBeyondItsType_flush :
    ∃ t, exec (.queueFlush 0 0) countBeyondItsType = .next t ∧ t.nat (queueIndex 0 0) 0x0C = 2 ^ 64 :=
  ⟨_, rfl, by decide +kernel⟩

/-- Refutes O22: in `countBeyondItsType` the flush of an empty queue leaves the count of flushed copies at 2^64, where the statement has it 1 less. The
state holds what no entry of 64 bits can, which the statement does not exclude. -/
theorem not_queuesAreSweptGatedAndFlushed : ¬ Obligations.QueuesAreSweptGatedAndFlushed := by
  unfold Obligations.QueuesAreSweptGatedAndFlushed
  rintro ⟨-, -, -, flushes⟩
  obtain ⟨t, run, kept⟩ := countBeyondItsType_flush
  obtain ⟨u, again, -, -, counted⟩ := flushes 0 0 countBeyondItsType (by decide +kernel)
  obtain rfl : t = u := Host.Outcome.next.inj (run.symm.trans again)
  rw [show ((0 : PortId).val) = 0 from rfl, show ((0 : Fin 32).val) = 0 from rfl, kept] at counted
  exact absurd counted (by decide +kernel)

end Sys2Proof.Machine

namespace Sys2Proof.Machine

/-! ## The buffer scarab (07 R182 to R184) -/

/-- What every item made anew has, and the default, every item read has. -/
theorem Sparse.get_remap_of {α : Type} [DecidableEq α] {d : α} {f : Nat → α → α} {k : Nat} (P : α → Prop) (default : P d)
    (made : ∀ v, P (f k v)) (m : Sparse α) : P (Sparse.get d (Sparse.remap d f m) k) := by
  unfold Sparse.remap
  refine List.foldlRecOn (motive := fun a => P (Sparse.get d a k)) m _ default fun a kept e _ => ?_
  rw [Sparse.get_set]
  split_ifs with own
  · exact own ▸ made e.2
  · exact kept

section Scrub
variable (s : State) (g bank : Nat)

/-- The cells that a bank took are back in their pools. -/
def State.giveBack (s : State) (g bank : Nat) : State :=
  let taken := Sparse.get (0, 0) (s.region g).bankTaken bank
  let s := (s.setNat (0x4000 + g) 0x05 (s.nat (0x4000 + g) 0x05 + taken.1)).setNat (0x4000 + g) 0x02 (s.nat (0x4000 + g) 0x02 + taken.2)
  s.setRegion g { s.region g with
    bankTaken := Sparse.set (0, 0) (s.region g).bankTaken bank (0, 0)
    bankReturn := Sparse.set none (s.region g).bankReturn bank none }

theorem State.returnBank_due {due : Nat} (back : Sparse.get none (s.region g).bankReturn bank = some due) (now : due ≤ s.now) :
    s.returnBank g bank = (s.giveBack g bank).judgePool g := by
  unfold State.returnBank
  dsimp only
  rw [back]
  exact if_neg (by omega)

/-- A bank of which the scarab has not read every cell again keeps what it took. -/
theorem State.returnBank_not (early : ∀ due, Sparse.get none (s.region g).bankReturn bank = some due → s.now < due) : s.returnBank g bank = s := by
  unfold State.returnBank
  dsimp only
  cases back : Sparse.get none (s.region g).bankReturn bank with
  | none => rfl
  | some due => exact if_pos (early due back)

/-- An uncorrectable error is noted at its region and may be raised; no cell is withdrawn by that. -/
theorem State.bankError_withdrawn : ((s.bankError g bank).region g).withdrawn = (s.region g).withdrawn := by
  unfold State.bankError
  extract_lets r recent
  split_ifs
  · rw [State.region_setRegion_same]
  · rw [(State.raise_only _ _ _ (.refl 0x140000000000000000 _) rfl).region_kept (by decide), State.region_setRegion_same]

/-- Every cell of a list that lies in the place named is spoilt once the place is marked. -/
theorem mem_spoilt {l : List Cell} {h : HeldPlace} {x : Cell} (mem : x ∈ l.map fun y => if y.inPlace h then { y with spoilt := true } else y)
    (here : x.inPlace h = true) : x.spoilt = true := by
  obtain ⟨y, -, rfl⟩ := List.mem_map.mp mem
  split_ifs at here ⊢ with own
  · rfl
  · exact absurd here own

/-- The same of the cells of the copies in a list. -/
theorem mem_copy_spoilt {l : List Copy} {h : HeldPlace} {c : Copy} {x : Cell}
    (mem : c ∈ l.map fun d => { d with cells := d.cells.map fun y => if y.inPlace h then { y with spoilt := true } else y }) (own : x ∈ c.cells)
    (here : x.inPlace h = true) : x.spoilt = true := by
  obtain ⟨d, -, rfl⟩ := List.mem_map.mp mem
  exact mem_spoilt own here

theorem State.spoil_ingress {h : HeldPlace} (ingress : h.egress = false) {x : Cell} (mem : x ∈ ((s.spoil g h).region g).contracted)
    (here : x.inPlace h = true) : x.spoilt = true := by
  unfold State.spoil at mem
  extract_lets hit copy r u v at mem
  rw [if_neg (by simp [ingress])] at mem
  have region : (v.region g).contracted = r.contracted.map hit := by rw [State.region_setRegion_same]
  refine mem_spoilt (l := r.contracted) ?_ here
  rw [← region]
  split at mem
  · split_ifs at mem <;> exact mem
  · exact mem

theorem State.spoil_hostQueue {h : HeldPlace} (egress : h.egress = true) {c : Copy} (mem : c ∈ ((s.spoil g h).region g).hostQueue) {x : Cell}
    (own : x ∈ c.cells) (here : x.inPlace h = true) : x.spoilt = true := by
  unfold State.spoil at mem
  extract_lets hit copy r u v at mem
  rw [if_pos egress] at mem
  have region : (u.region g).hostQueue = r.hostQueue.map copy := by rw [State.region_setRegion_same]
  exact mem_copy_spoilt (l := r.hostQueue) (region ▸ mem) own here

theorem State.spoil_queues {h : HeldPlace} (egress : h.egress = true) {p q : Nat} (side : p / 12 = g) (small : q < 32) {c : Copy}
    (mem : c ∈ ((s.spoil g h).queue p q).copies) {x : Cell} (own : x ∈ c.cells) (here : x.inPlace h = true) : x.spoilt = true := by
  unfold State.spoil at mem
  extract_lets hit copy r u v at mem
  rw [if_pos egress] at mem
  have marked := Sparse.get_remap_of (d := ({} : QueueX)) (f := fun k e => if k / 384 = g then { e with copies := e.copies.map copy } else e)
    (k := 32 * p + q) (fun e : QueueX => ∀ c ∈ e.copies, ∀ x ∈ c.cells, x.inPlace h = true → x.spoilt = true)
    (fun _ none => nomatch none) (fun e c held x own here => by
      rw [if_pos (by omega)] at held
      exact mem_copy_spoilt held own here) u.queues
  exact marked c mem x own here

end Scrub

theorem bufferScrub_returns (g : RegionId) (bank : Fin 16) (held : Option HeldPlace) (s : State) (due : Nat)
    (whole : s.bankFenced (16 * g + bank) = false) (back : Sparse.get none (s.region g).bankReturn bank = some due) (now : due ≤ s.now) :
    Runs (.bufferScrub g bank held .clean) s fun t =>
      t.nat (0x4000 + g) 0x05 = s.nat (0x4000 + g) 0x05 + (Sparse.get (0, 0) (s.region g).bankTaken bank).1 ∧
      t.nat (0x4000 + g) 0x02 = s.nat (0x4000 + g) 0x02 + (Sparse.get (0, 0) (s.region g).bankTaken bank).2 ∧
      Sparse.get none (t.region g).bankReturn bank = none := by
  have run : exec (.bufferScrub g bank held .clean) s = .next (s.returnBank g bank) := if_neg (by simp [whole])
  rw [s.returnBank_due g bank back now] at run
  have judged := (s.giveBack g bank).judgePool_assembles g
  have region : (((s.giveBack g bank).judgePool g).region g).bankReturn = ((s.giveBack g bank).region g).bankReturn :=
    show ((((s.giveBack g bank).judgePool g).region g).fabricSide).bankReturn = (((s.giveBack g bank).region g).fabricSide).bankReturn from
      congrArg RegionX.bankReturn (judged.fabric g)
  refine .of run ⟨(judged.entries.nat (by decide) (by unfold assemblyEntry; omega)).trans ?_,
    (judged.entries.nat (by decide) (by unfold assemblyEntry; omega)).trans ?_, ?_⟩
  · unfold State.giveBack
    dsimp only
    rw [State.nat_setRegion, State.nat_setNat, if_neg (key_ne_sub (by decide)), State.nat_setNat_same]
  · unfold State.giveBack
    dsimp only
    rw [State.nat_setRegion, State.nat_setNat_same]
  · rw [region]
    unfold State.giveBack
    dsimp only
    rw [State.region_setRegion_same, Sparse.get_set_same]

theorem bufferScrub_finds (g : RegionId) (bank : Fin 16) (held : Option HeldPlace) (finding : EccFinding) (s : State)
    (whole : s.bankFenced (16 * g + bank) = false) (early : ∀ due, Sparse.get none (s.region g).bankReturn bank = some due → s.now < due) :
    Runs (.bufferScrub g bank held finding) s fun t =>
      (finding = .clean → Only 0 s t) ∧
      (finding = .single → t.nat (0x4000 + g) 0x0C = min (s.nat (0x4000 + g) 0x0C + 1) (2 ^ 64 - 1) ∧
        SameEntries (fun i j => i = 0x4000 + g ∧ j = 0x0C) s t ∧ Only partRegs s t) ∧
      (finding = .uncorrectable → held = none →
        (t.region g).withdrawn = listAdd (s.region g).withdrawn 3 1 ∧
        t.nat (0x4000 + g) 0x0D = min (s.nat (0x4000 + g) 0x0D + 1) (2 ^ 64 - 1)) ∧
      (finding = .uncorrectable → ∀ h, held = some h → t.regs = s.regs ∧
        (h.egress = false → ∀ x ∈ (t.region g).contracted, x.inPlace h = true → x.spoilt = true) ∧
        (h.egress = true → ∀ c ∈ (t.region g).hostQueue, ∀ x ∈ c.cells, x.inPlace h = true → x.spoilt = true) ∧
        (h.egress = true → ∀ p q, p / 12 = g.val → q < 32 → ∀ c ∈ (t.queue p q).copies, ∀ x ∈ c.cells, x.inPlace h = true → x.spoilt = true)) := by
  have enters : exec (.bufferScrub g bank held finding) s = _ := if_neg (by simp [whole])
  rw [s.returnBank_not g bank early] at enters
  have noted := State.bankError_only s g bank (.refl 0x140000000000001000 s) rfl
  cases finding with
  | clean => exact .of enters ⟨fun _ => .refl 0 s, fun h => (nomatch h), fun h => (nomatch h), fun h => (nomatch h)⟩
  | single =>
    exact .of enters ⟨fun h => (nomatch h), fun _ => ⟨State.nat_inc64_of rfl, (SameEntries.refl _ s).setReg (by decide) ⟨rfl, rfl⟩,
      State.inc64_only s _ _ (.refl _ s) rfl⟩, fun h => (nomatch h), fun h => (nomatch h)⟩
  | uncorrectable =>
    cases held with
    | none =>
      refine .of enters ⟨fun h => (nomatch h), fun h => (nomatch h), fun _ _ => ⟨?_, State.nat_inc64_of (noted.nat_kept (by decide) _ _)⟩,
        fun _ _ h => (nomatch h)⟩
      refine (congrArg RegionX.withdrawn (State.region_setRegion_same ..)).trans ?_
      exact congrArg (listAdd · 3 1) (s.bankError_withdrawn g bank)
    | some h =>
      have spoilt := State.spoil_only (s.bankError g bank) g h (.refl 0x3800 _) rfl
      refine .of enters ⟨fun h => (nomatch h), fun h => (nomatch h), fun _ h => (nomatch h), fun _ h' same => ?_⟩
      obtain rfl := Option.some.inj same
      exact ⟨(spoilt.regs (by decide)).trans (noted.regs (by decide)), fun ingress _ mem here => State.spoil_ingress _ _ ingress mem here,
        fun egress _ mem _ own here => State.spoil_hostQueue _ _ egress mem own here,
        fun egress _ _ side small _ mem _ own here => State.spoil_queues _ _ egress side small mem own here⟩

/-- Settles O23. -/
theorem bufferScrubCountsAndWithdraws : Obligations.BufferScrubCountsAndWithdraws := by
  unfold Obligations.BufferScrubCountsAndWithdraws
  exact ⟨bufferScrub_returns, bufferScrub_finds⟩

end Sys2Proof.Machine

namespace Sys2Proof.Machine

/-! ## What the choice of references leaves as it was

Whenever something they rest on changes, every slot, dispute and selector is judged anew, and then the calibrations that rest on
a choice (`State.refsUpdate`). The choice writes what the slots and selectors show, the servo states and what steers the time bases; the time bases
count on, the slots keep what came in on them, the timing of ports stays, and no message that waits is lost. -/

/-- The entries that the choice of references may write beside the status of the time bases. -/
def selectorEntry (i j : Nat) : Prop :=
  (0x7000 ≤ i ∧ i < 0x7008 ∧ (j = 0x06 ∨ j = 0x07 ∨ j = 0x08)) ∨
    (i = 0x7010 ∧ (j = 0x01 ∨ j = 0x02 ∨ j = 0x08 ∨ j = 0x09 ∨ j = 0x0B ∨ j = 0x0C)) ∨
    (0x7020 ≤ i ∧ i < 0x7028 ∧ (j = 0x04 ∨ j = 0x08 ∨ j = 0x0A ∨ j = 0x0C ∨ (0x10 ≤ j ∧ j < 0x18))) ∨ (0xF000 ≤ i ∧ j = 0x09)

/-- The status entry of a time base, which shows its servo state. -/
def servoEntry (i j : Nat) : Prop := 0x6000 ≤ i ∧ i < 0x6008 ∧ j = 0x04

/-- A time base without what steers it. -/
def TbX.counting (x : TbX) : TbX := { x with syntony := 0, steering := 0, inside := 0, outside := 0, switching := false, offsets := [], steerLog := [] }

/-- A slot without what is judged of it. -/
def SlotX.received (x : SlotX) : SlotX := { x with disputes := 0, measured := false, cleared := 0 }

/-- The second state is the first but for what the choice of references writes. -/
structure State.Selects (s t : State) : Prop where
  entries : SameEntries (fun i j => selectorEntry i j ∨ servoEntry i j) s t
  status : ∀ k b, k < 8 → b = 0 ∨ 4 ≤ b → t.bit (0x6000 + k) 0x04 b = s.bit (0x6000 + k) 0x04 b
  steered : ∀ k, k < 8 → s.servo k ≠ 0 → t.servo k ≠ 0
  clocks : ∀ k, (t.tb k).counting = (s.tb k).counting
  slots : ∀ n, (t.slot n).received = (s.slot n).received
  messages : ∀ f : Message → Bool, s.messages.any f = true → t.messages.any f = true
  timing : t.timing = s.timing

namespace State.Selects
variable {s t u : State}

theorem refl (s : State) : s.Selects s := ⟨.refl _ s, fun _ _ _ _ => rfl, fun _ _ h => h, fun _ => rfl, fun _ => rfl, fun _ h => h, rfl⟩

theorem trans (a : s.Selects t) (b : t.Selects u) : s.Selects u :=
  ⟨a.entries.trans b.entries, fun k i hk hi => (b.status k i hk hi).trans (a.status k i hk hi), fun k hk h => b.steered k hk (a.steered k hk h),
    fun k => (b.clocks k).trans (a.clocks k), fun n => (b.slots n).trans (a.slots n), fun f h => b.messages f (a.messages f h),
    b.timing.trans a.timing⟩

/-- What leaves the entries, the time bases, the slots and the messages. -/
theorem of_parts (a : s.Selects t) (regs : u.regs = t.regs) (tbs : u.tbs = t.tbs) (slots : u.slots = t.slots) (messages : u.messages = t.messages)
    (timing : u.timing = t.timing) : s.Selects u := by
  have nat : ∀ i j, u.nat i j = t.nat i j := State.nat_of_regs regs
  refine ⟨a.entries.of_regs regs, fun k b hk hb => ?_, fun k hk h => ?_, fun k => ?_, fun n => ?_, fun f h => ?_, timing.trans a.timing⟩
  · exact (congrArg (Nat.testBit · b) (nat _ _)).trans (a.status k b hk hb)
  · rw [State.servo, nat]; exact a.steered k hk h
  · rw [State.tb, tbs]; exact a.clocks k
  · rw [State.slot, slots]; exact a.slots n
  · rw [messages]; exact a.messages f h

theorem of_only {F : Nat} (frame : Only F s t) (regs : F.testBit 1 = false) (tbs : F.testBit 42 = false) (slots : F.testBit 52 = false)
    (messages : F.testBit 66 = false) (timing : F.testBit 9 = false) : s.Selects t :=
  (refl s).of_parts (frame.regs regs) (frame.tbs tbs) (frame.slots slots) (frame.messages messages) (frame.timing timing)

theorem setReg {i j : Nat} {v : Int} (a : s.Selects t) (hj : j < 256) (own : selectorEntry i j) : s.Selects (t.setReg i j v) := by
  have apart : ∀ k, k < 8 → ¬(i = 0x6000 + k ∧ j = 0x04) := fun k hk h => by unfold selectorEntry at own; omega
  refine ⟨a.entries.setReg hj (.inl own), fun k b hk hb => ?_, fun k hk h => ?_, a.clocks, a.slots, a.messages, a.timing⟩
  · rw [State.bit_setReg_at _ _ hj (by decide), if_neg (apart k hk)]; exact a.status k b hk hb
  · rw [State.servo, State.nat_setReg_at _ _ hj (by decide), if_neg (apart k hk)]; exact a.steered k hk h

theorem setTb {k : Nat} {x : TbX} (a : s.Selects t) (same : x.counting = (t.tb k).counting) : s.Selects (t.setTb k x) := by
  refine ⟨a.entries.of_regs rfl, a.status, a.steered, fun j => ?_, a.slots, a.messages, a.timing⟩
  rw [State.tb_setTb]
  split_ifs with own
  · subst own; exact same.trans (a.clocks k)
  · exact a.clocks j

theorem setSlot {n : Nat} {x : SlotX} (a : s.Selects t) (same : x.received = (t.slot n).received) : s.Selects (t.setSlot n x) := by
  refine ⟨a.entries.of_regs rfl, a.status, a.steered, a.clocks, fun j => ?_, a.messages, a.timing⟩
  rw [State.slot_setSlot]
  split_ifs with own
  · subst own; exact same.trans (a.slots n)
  · exact a.slots j

theorem ite {c : Prop} [Decidable c] (a : s.Selects t) (b : s.Selects u) : s.Selects (if c then t else u) := by
  split_ifs
  · exact a
  · exact b

theorem foldl {α : Type} {f : State → α → State} (l : List α) (step : ∀ a : State, ∀ x ∈ l, a.Selects (f a x)) : s.Selects (l.foldl f s) := by
  induction l generalizing s with
  | nil => exact refl s
  | cons x xs ih => exact (step s x (.head _)).trans (ih fun a y hy => step a y (.tail _ hy))

/-- A fold over the first items, each of which is numbered below their count. -/
theorem items {n : Nat} {f : State → Nat → State} (step : ∀ (a : State) (k : Nat), k < n → a.Selects (f a k)) :
    s.Selects ((Sys2Proof.Machine.items n).foldl f s) := foldl _ fun a k hk => step a k (List.mem_range.mp hk)

end State.Selects

section Ops
variable (s : State) (n k p : Nat)

theorem State.raise_selects (src d : Nat) : s.Selects (s.raise src d) := by
  unfold State.raise
  refine .ite (.refl s) (.ite (.of_parts (.refl s) rfl rfl rfl rfl rfl) ?_)
  exact ⟨.of_regs (.refl _ s) rfl, fun _ _ _ _ => rfl, fun _ _ h => h, fun _ => rfl, fun _ => rfl, fun f h => by
    rw [List.any_append, h, Bool.true_or], rfl⟩

theorem State.notice_selects (cls : Nat) (payload : List Byte) : s.Selects (s.notice cls payload) := by
  refine .items fun a m hm => .ite ?_ (.refl a)
  unfold State.noticeTo
  extract_lets x fresh sent msg
  refine .ite ?_ ((State.Selects.refl a).setReg (by decide) (.inr (.inr (.inr ⟨by omega, rfl⟩))))
  have sent : a.Selects (a.sendTo x.route msg) := .of_only (State.sendTo_only a x.route msg (.refl 0x100000000000000000040 a) rfl) rfl rfl rfl rfl rfl
  exact .of_parts (.ite (.refl a) sent) rfl rfl rfl rfl rfl

/-- A servo state other than unset. -/
theorem State.setServo_selects {v : Nat} (hk : k < 8) (set : v % 8 ≠ 0) : s.Selects (s.setServo k v) := by
  refine .ite (.refl s) (State.Selects.trans ?_ (State.notice_selects ..))
  refine ⟨(SameEntries.refl _ s).setNat (by decide) (.inr ⟨by omega, by omega, rfl⟩), fun j b hj hb => ?_, fun j hj h => ?_, fun _ => rfl, fun _ => rfl,
    fun _ h => h, rfl⟩
  · rw [State.bit_setNat]
    split_ifs with own
    · obtain ⟨same, -⟩ := (key_inj (by decide) (by decide)).mp own
      rw [testBit_putField, if_neg (by omega), State.testBit_nat, same]
    · rfl
  · rw [State.servo, State.nat_setNat]
    split_ifs with own
    · rw [field_putField_same]; exact set
    · exact h

theorem State.judgeSlot_selects (hn : n < 8) : s.Selects (s.judgeSlot n) := by
  have shown : ∀ j, j = 0x06 ∨ j = 0x07 ∨ j = 0x08 → selectorEntry (0x7000 + n) j := fun j hj => .inl ⟨by omega, by omega, hj⟩
  unfold State.judgeSlot
  extract_lets i was present a x b ql c d st lost e
  have ha : s.Selects a := (State.Selects.refl s).setReg (by decide) (shown _ (by decide))
  have hb : s.Selects b := .ite (((ha.setReg (by decide) (shown _ (by decide))).setReg (by decide) (shown _ (by decide))).setSlot rfl) ha
  have hc : s.Selects c := .ite (hb.setReg (by decide) (shown _ (by decide))) hb
  have hd : s.Selects d := hc.setReg (by decide) (shown _ (by decide))
  have he : s.Selects e := hd.setReg (by decide) (shown _ (by decide))
  exact .ite (he.trans (e.raise_selects ..)) he

theorem State.judgeDispute_selects (m : Nat) (hn : n < 8) (hm : m < 8) : s.Selects (s.judgeDispute n m) := by
  have shown : ∀ k, k < 8 → selectorEntry (0x7000 + k) 0x08 := fun k hk => .inl ⟨by omega, by omega, .inr (.inr rfl)⟩
  unfold State.judgeDispute
  extract_lets stood may on x a y b
  have ha : s.Selects a := (State.Selects.refl s).setSlot rfl
  have hb : s.Selects b := ha.setSlot rfl
  exact .ite (.refl s) (.ite ((hb.setReg (by decide) (shown n hn)).setReg (by decide) (shown m hm)) hb)

theorem State.noteCleared_selects : s.Selects (s.noteCleared n) := (State.Selects.refl s).setSlot rfl

theorem State.measureSyntony_selects : s.Selects s.measureSyntony := .foldl _ fun a _ _ => (State.Selects.refl a).setTb rfl

/-- The pairs have a frequency. -/
def State.withFrequency (s : State) (ppt : Int) : State := { s with frequency := ppt }

theorem State.setFrequency_selects (ppt : Int) : s.Selects (s.setFrequency ppt) :=
  State.Selects.trans (t := s.withFrequency ppt) (.of_parts (.refl s) rfl rfl rfl rfl rfl) (s.withFrequency ppt).measureSyntony_selects

theorem selectorEntry_frequency {j : Nat} (own : j = 0x01 ∨ j = 0x02 ∨ j = 0x08 ∨ j = 0x09 ∨ j = 0x0B ∨ j = 0x0C) : selectorEntry 0x7010 j :=
  .inr (.inl ⟨rfl, own⟩)

theorem State.freqHoldover_selects : s.Selects s.freqHoldover := by
  unfold State.freqHoldover
  extract_lets avg behind w a b v c d
  have hb : s.Selects b := (State.Selects.of_parts (u := a) (.refl s) rfl rfl rfl rfl rfl).setReg (by decide) (selectorEntry_frequency (by decide)) |>.setReg
    (by decide) (selectorEntry_frequency (by decide))
  have hc : s.Selects c := (hb.setReg (by decide) (selectorEntry_frequency (by decide))).setReg (by decide) (selectorEntry_frequency (by decide))
  have hd : s.Selects d := .of_parts hb rfl rfl rfl rfl rfl
  refine .ite (State.Selects.trans (t := { c with freqHeld := true, freqLog := [] }) (.of_parts hc rfl rfl rfl rfl rfl) (State.setFrequency_selects ..)) (hd.trans (State.setFrequency_selects ..))

theorem State.freqSelect_selects : s.Selects s.freqSelect := by
  unfold State.freqSelect
  extract_lets cur st u
  have hu : s.Selects u := by
    simp only [u]
    split
    · exact .ite s.freqHoldover_selects (.refl s)
    next n _ =>
      have chosen : s.Selects (((s.setNat 0x7010 0x01 n).setNat 0x7010 0x02 3).inc32 0x7010 0x0C) :=
        (((State.Selects.refl s).setReg (by decide) (selectorEntry_frequency (by decide))).setReg (by decide) (selectorEntry_frequency (by decide))).setReg
          (by decide) (selectorEntry_frequency (by decide))
      exact .ite (.refl s) (.of_parts chosen rfl rfl rfl rfl rfl)
  exact hu.setReg (by decide) (selectorEntry_frequency (by decide))

theorem State.showDispute_selects (hn : n < 8) : s.Selects (s.showDispute n) :=
  .ite ((State.Selects.refl s).setReg (by decide) (.inl ⟨by omega, by omega, by decide⟩)) (.refl s)

theorem selectorEntry_time {j : Nat} (hk : k < 8) (own : j = 0x04 ∨ j = 0x08 ∨ j = 0x0A ∨ j = 0x0C ∨ (0x10 ≤ j ∧ j < 0x18)) :
    selectorEntry (0x7020 + k) j := .inr (.inr (.inl ⟨by omega, by omega, own⟩))

theorem selectorEntry_candidacy (hk : k < 8) (hn : n < 8) : selectorEntry (0x7020 + k) (0x10 + n) := selectorEntry_time k hk (by omega)

theorem State.judgeCandidate_selects (hk : k < 8) (hn : n < 8) : s.Selects (s.judgeCandidate k n) := by
  have put : ∀ v, s.Selects (s.setNat (0x7020 + k) (0x10 + n) v) := fun v => (State.Selects.refl s).setReg (by omega) (selectorEntry_candidacy n k hk hn)
  exact .ite (.ite (put 1) (.refl s)) (.ite (.refl s) (put 0))

theorem State.setSteering_selects (ppt : Int) : s.Selects (s.setSteering k ppt) := .ite (.refl s) ((State.Selects.refl s).setTb rfl)

theorem State.applySteering_selects : s.Selects (s.applySteering k) := .ite (s.setSteering_selects ..) (.ite (.refl s) (s.setSteering_selects ..))

theorem State.timeHoldover_selects (hk : k < 8) : s.Selects (s.timeHoldover k) := by
  unfold State.timeHoldover
  extract_lets avg hi v a x b
  have ha : s.Selects a := ((State.Selects.refl s).setReg (by decide) (selectorEntry_time k hk (by decide))).setReg (by decide)
    (selectorEntry_time k hk (by decide))
  have hb : s.Selects b := ha.setTb rfl
  exact (hb.trans (b.setSteering_selects k v)).trans (State.setServo_selects _ k hk (by decide))

/-- What is chosen is among the slots that may be used. -/
theorem bestOf_mem {rank : Nat → Nat} {l : List Nat} {n : Nat} (best : bestOf rank l = some n) : n ∈ l := by
  induction l generalizing n with
  | nil => exact nomatch best
  | cons a r ih =>
    rw [bestOf] at best
    split at best
    · exact Option.some.inj best ▸ .head _
    · split_ifs at best
      · exact Option.some.inj best ▸ .head _
      · exact .tail _ (ih (Option.some.inj best ▸ ‹_›))

theorem chooseSlot_mem {l : List Nat} {rank : Nat → Nat} {cur force n : Nat} {revertive switching : Bool}
    (chosen : chooseSlot l rank cur force revertive switching = some n) : n ∈ l := by
  unfold chooseSlot at chosen
  split_ifs at chosen with _ usable stays
  · exact Option.some.inj chosen ▸ List.contains_iff_mem.mp usable
  · simp only [Bool.and_eq_true] at stays
    exact Option.some.inj chosen ▸ List.contains_iff_mem.mp stays.2
  · exact bestOf_mem chosen

theorem State.timeUsable_lt {n : Nat} (mem : n ∈ s.timeUsable k) : n < 8 := List.mem_range.mp (List.mem_filter.mp mem).1

theorem State.chooseTime_selects (hk : k < 8) (m : Nat) : s.Selects (s.chooseTime k m).1 := by
  induction m generalizing s with
  | zero => exact .refl s
  | succ m ih =>
    rw [State.chooseTime]
    split
    · exact .refl s
    next n chosen =>
      split
      · exact ((State.Selects.refl s).setReg (by have := s.timeUsable_lt k (chooseSlot_mem chosen); omega)
          (selectorEntry_candidacy n k hk (s.timeUsable_lt k (chooseSlot_mem chosen)))).trans (ih _)
      · exact .refl s

theorem State.timeSelect_selects (hk : k < 8) : s.Selects (s.timeSelect k) := by
  unfold State.timeSelect
  extract_lets st cur
  refine .ite (.refl s) ?_
  have judged := s.chooseTime_selects k hk 9
  generalize s.chooseTime k 9 = y at *
  obtain ⟨u, chosen⟩ := y
  refine judged.trans ?_
  dsimp -zeta only
  split
  · exact .ite (u.timeHoldover_selects k hk) (.refl u)
  next n _ =>
    extract_lets a x b
    have ha : u.Selects a := ((State.Selects.refl u).setReg (by decide) (selectorEntry_time k hk (by decide))).setReg (by decide)
      (selectorEntry_time k hk (by decide))
    have hb : u.Selects b := ha.setTb rfl
    have hc : u.Selects (b.setReg (0x7020 + k) 0x08 (b.tb k).steering) := hb.setReg (by decide) (selectorEntry_time k hk (by decide))
    exact .ite (.refl u) ((hc.trans (State.setServo_selects _ k hk (by decide))).trans (State.applySteering_selects ..))

/-- The choice of slots, of the frequency reference and of the time references. -/
def State.chooseRefs (s : State) : State :=
  let s := (items 8).foldl (fun a n => a.judgeSlot n) s
  let s := (items 8).foldl (fun a n => (items n).foldl (fun b m => b.judgeDispute m n) a) s
  let s := ((items 8).foldl State.noteCleared s).freqSelect
  let s := (items 8).foldl (fun a n => a.showDispute n) s
  (items 8).foldl (fun a k => ((items 8).foldl (fun b n => b.judgeCandidate k n) a).timeSelect k) s

theorem State.chooseRefs_selects : s.Selects s.chooseRefs := by
  unfold State.chooseRefs
  extract_lets a b c d
  have ha : s.Selects a := .items fun a n hn => a.judgeSlot_selects n hn
  have hb : a.Selects b := .items fun a n hn => .items fun b m hm => b.judgeDispute_selects m n (by omega) hn
  have hc : b.Selects c := State.Selects.trans (.foldl _ fun a n _ => a.noteCleared_selects n) (State.freqSelect_selects _)
  have hd : c.Selects d := .items fun a n hn => a.showDispute_selects n hn
  have he : d.Selects _ := .items fun a k hk => (State.Selects.items fun b n hn => b.judgeCandidate_selects n k hk hn).trans (State.timeSelect_selects _ k hk)
  exact (((ha.trans hb).trans hc).trans hd).trans he

/-- The calibrations that rest on a choice, judged after it. -/
def State.judgeAsymmetries (s : State) : State := (items 96).foldl (fun a p => a.judgeAsymmetry p) s

theorem State.refsUpdate_eq : s.refsUpdate = s.chooseRefs.judgeAsymmetries := rfl

/-- The entries that a calibration's end writes. -/
def timingEntry (i j : Nat) : Prop := 0x2400 ≤ i ∧ i < 0x2460 ∧ (j = 0x01 ∨ j = 0x02)

theorem State.putTiming_same (st causes : Nat) : SameEntries (fun i j => i = 0x2400 + p ∧ (j = 0x01 ∨ j = 0x02)) s (s.putTiming p st causes) :=
  (((SameEntries.refl _ s).setReg (by decide) ⟨rfl, .inl rfl⟩).setReg (by decide) ⟨rfl, .inr rfl⟩).of_regs rfl

theorem State.abandonAsymmetry_same : SameEntries (fun i j => i = 0x2400 + p ∧ (j = 0x01 ∨ j = 0x02)) s (s.abandonAsymmetry p) := by
  unfold State.abandonAsymmetry
  extract_lets x u v
  have hv : SameEntries (fun i j => i = 0x2400 + p ∧ (j = 0x01 ∨ j = 0x02)) s v :=
    ((SameEntries.refl _ s).of_regs rfl).setReg (by decide) ⟨rfl, .inr rfl⟩
  have put : ∀ st c, SameEntries (fun i j => i = 0x2400 + p ∧ (j = 0x01 ∨ j = 0x02)) s (v.putTiming p st c) := fun st c =>
    hv.trans (v.putTiming_same p st c)
  exact .ite (.refl _ s) (.ite hv (.ite (put _ _) (.ite (put _ _) (put _ _))))

theorem State.judgeAsymmetry_same : SameEntries (fun i j => i = 0x2400 + p ∧ (j = 0x01 ∨ j = 0x02)) s (s.judgeAsymmetry p) :=
  .ite (s.abandonAsymmetry_same p) (.refl _ s)

theorem State.judgeAsymmetries_same : SameEntries timingEntry s s.judgeAsymmetries :=
  .foldl _ fun a p mem => (a.judgeAsymmetry_same p).mono fun i j h => by
    have := List.mem_range.mp mem
    unfold timingEntry; omega

theorem State.judgeAsymmetries_only : Only (partRegs ||| partTiming) s s.judgeAsymmetries :=
  .foldl (.refl _ s) fun a p => State.judgeAsymmetry_only a p (.refl (partRegs ||| partTiming) a) rfl

/-- What `State.refsUpdate` keeps. -/
theorem State.refsUpdate_entries : SameEntries (fun i j => selectorEntry i j ∨ servoEntry i j ∨ timingEntry i j) s s.refsUpdate :=
  (s.chooseRefs_selects.entries.mono fun _ _ h => h.elim .inl (.inr ∘ .inl)).trans (s.chooseRefs.judgeAsymmetries_same.mono fun _ _ h => .inr (.inr h))

theorem State.refsUpdate_status {b : Nat} (hk : k < 8) (hb : b = 0 ∨ 4 ≤ b) : s.refsUpdate.bit (0x6000 + k) 0x04 b = s.bit (0x6000 + k) 0x04 b :=
  (s.chooseRefs.judgeAsymmetries_same.bit b (by decide) (by unfold timingEntry; omega)).trans (s.chooseRefs_selects.status k b hk hb)

theorem State.refsUpdate_steered (hk : k < 8) (h : s.servo k ≠ 0) : s.refsUpdate.servo k ≠ 0 := by
  rw [State.servo, State.refsUpdate_eq, s.chooseRefs.judgeAsymmetries_same.nat (by decide) (by unfold timingEntry; omega)]
  exact s.chooseRefs_selects.steered k hk h

theorem State.refsUpdate_clocks : (s.refsUpdate.tb k).counting = (s.tb k).counting :=
  (congrArg TbX.counting (s.chooseRefs.judgeAsymmetries_only.tb_kept rfl k)).trans (s.chooseRefs_selects.clocks k)

theorem State.refsUpdate_slots : (s.refsUpdate.slot n).received = (s.slot n).received :=
  (congrArg SlotX.received (s.chooseRefs.judgeAsymmetries_only.slot_kept rfl n)).trans (s.chooseRefs_selects.slots n)

theorem State.refsUpdate_messages (f : Message → Bool) (h : s.messages.any f = true) : s.refsUpdate.messages.any f = true := by
  rw [State.refsUpdate_eq, s.chooseRefs.judgeAsymmetries_only.messages rfl]
  exact s.chooseRefs_selects.messages f h

end Ops

end Sys2Proof.Machine

namespace Sys2Proof.Machine

/-! ## Measured offsets and steering (09 R226, R233; 11 R301, R304) -/

/-! ### The threshold -/

/-- The live bit of the threshold follows the offset, and the sticky bit keeps it. -/
def State.showThreshold (s : State) (k : Nat) (beyond : Bool) : State :=
  let s := s.putBit (0x6000 + k) 0x04 6 beyond
  if beyond then s.putBit (0x6000 + k) 0x04 7 true else s

section Threshold
variable (s : State) (k : Nat) (offset : Int) (beyond : Bool)

theorem State.thresholdTest_eq : s.thresholdTest k offset =
    if (decide (s.threshold k < offset.natAbs) && !s.bit (0x6000 + k) 0x04 6) = true
    then (s.showThreshold k (decide (s.threshold k < offset.natAbs))).raise (1176 + k) 0
    else s.showThreshold k (decide (s.threshold k < offset.natAbs)) := rfl

theorem State.showThreshold_bits : (s.showThreshold k beyond).bit (0x6000 + k) 0x04 6 = beyond ∧
    (s.showThreshold k beyond).bit (0x6000 + k) 0x04 7 = (s.bit (0x6000 + k) 0x04 7 || beyond) := by
  unfold State.showThreshold
  cases beyond <;> simp [testBit_setBit]

theorem State.showThreshold_apart {b : Nat} (six : b ≠ 6) (seven : b ≠ 7) :
    (s.showThreshold k beyond).bit (0x6000 + k) 0x04 b = s.bit (0x6000 + k) 0x04 b := by
  unfold State.showThreshold
  cases beyond <;> simp [testBit_setBit, six, seven]

/-- The servo state is bits 1 to 3 of the status. -/
theorem State.servo_of_bits {s t : State} {k : Nat} (same : ∀ b, 1 ≤ b → b < 4 → t.bit (0x6000 + k) 0x04 b = s.bit (0x6000 + k) 0x04 b) :
    t.servo k = s.servo k := by
  refine Nat.eq_of_testBit_eq fun b => ?_
  unfold State.servo
  rw [testBit_field, testBit_field]
  by_cases inside : b < 3
  · rw [State.testBit_nat, State.testBit_nat, same (1 + b) (by omega) (by omega)]
  · rw [decide_eq_false inside, Bool.false_and, Bool.false_and]

theorem State.showThreshold_same : SameEntries (fun i j => i = 0x6000 + k ∧ j = 0x04) s (s.showThreshold k beyond) := by
  have live : SameEntries (fun i j => i = 0x6000 + k ∧ j = 0x04) s (s.putBit (0x6000 + k) 0x04 6 beyond) :=
    (SameEntries.refl _ s).putBit (by decide) ⟨rfl, rfl⟩
  unfold State.showThreshold
  exact .ite (live.putBit (by decide) ⟨rfl, rfl⟩) live

theorem State.thresholdTest_regs : (s.thresholdTest k offset).regs = (s.showThreshold k (decide (s.threshold k < offset.natAbs))).regs := by
  rw [State.thresholdTest_eq]
  split_ifs
  · exact (State.raise_only _ (1176 + k) 0 (.refl 0x140000000000000000 _) rfl).regs (by decide)
  · rfl

/-- An offset beyond the threshold is raised where the live bit rises. -/
theorem State.thresholdTest_raises (far : s.threshold k < offset.natAbs) (was : s.bit (0x6000 + k) 0x04 6 = false) (up : s.isSafe = false) :
    (s.thresholdTest k offset).messages.any (fun m => m.source == 1176 + k) = true := by
  rw [State.thresholdTest_eq, if_pos (by simp [far, was])]
  refine State.raise_message _ 0 ?_
  unfold State.isSafe State.runState
  rw [(s.showThreshold_same k _).nat (by decide) (by omega)]
  exact up

end Threshold

/-! ### An offset of the chosen slot -/

/-- The entries that an offset of slot `n` against time base `k` may write beside its own. -/
def slotJudgedEntry (k n i j : Nat) : Prop := i = 0x7020 + k ∧ (j = 0x08 ∨ j = 0x10 + n)

theorem State.slotOffsetSeen_judged (s : State) (k n : Nat) (offset : Int) (hn : n < 8) :
    SameEntries (slotJudgedEntry k n) (s.setReg (0x7020 + k) (0x18 + n) offset) (s.slotOffsetSeen k n offset) := by
  unfold State.slotOffsetSeen
  extract_lets a x b within c d
  have hb : SameEntries (slotJudgedEntry k n) a b := (SameEntries.refl _ a).of_regs rfl
  have put : ∀ v, SameEntries (slotJudgedEntry k n) a (b.setNat (0x7020 + k) (0x10 + n) v) := fun v =>
    hb.setNat (by omega) ⟨rfl, .inr rfl⟩
  have hd : SameEntries (slotJudgedEntry k n) a d := .ite (put 2) (.ite (put 3) hb)
  refine hd.trans ?_
  unfold State.feedEstimate
  extract_lets lo y e
  have steer : ∀ v : Int, SameEntries (slotJudgedEntry k n) d ((e.setReg (0x7020 + k) 0x08 v).applySteering k) := fun v =>
    (((SameEntries.refl _ d).of_regs (u := e) rfl).setReg (by decide) ⟨rfl, .inl rfl⟩).of_regs
      ((State.applySteering_only _ k (.refl 0x40000000000 _) rfl).regs (by decide))
  exact .ite (.refl _ d) (steer _)

/-- The entries of the slots and the selectors. -/
def slotEntry (i _j : Nat) : Prop := 0x7000 ≤ i

theorem State.slotOffsetSeen_same (s : State) (k n : Nat) (offset : Int) (hn : n < 8) :
    SameEntries slotEntry s (s.slotOffsetSeen k n offset) :=
  ((SameEntries.refl slotEntry s).setReg (by omega) (by unfold slotEntry; omega)).trans
    ((s.slotOffsetSeen_judged k n offset hn).mono fun i j h => by unfold slotJudgedEntry at h; unfold slotEntry; omega)

/-- The lock count moves between locked and pulling alone. -/
theorem State.lockCount_selects (s : State) (k : Nat) (offset : Int) (hk : k < 8) : s.Selects (s.lockCount k offset) := by
  unfold State.lockCount
  extract_lets inside x y hold
  have same : ∀ z : TbX, z.counting = y.counting → s.Selects (s.setTb k z) := fun z h => by
    refine (State.Selects.refl s).setTb (h.trans ?_)
    simp only [y, x]
    split_ifs <;> rfl
  exact .ite ((same { y with inside := 0, outside := 0, switching := false } rfl).trans (State.setServo_selects _ k hk (by decide)))
    (.ite ((same { y with inside := 0, outside := 0 } rfl).trans (State.setServo_selects _ k hk (by decide))) (same y rfl))

/-- What follows where a slot is chosen: its offset is noted, the references are judged anew, and the lock is counted. -/
def State.slotFollows (s : State) (k n : Nat) (offset : Int) : State :=
  let s := (s.slotOffsetSeen k n offset).refsUpdate
  if s.nat (0x7020 + k) 0x04 ≠ n ∨ !s.tbFollows k then s else s.lockCount k offset

/-- The entries of a time base, the bits of its status that show no servo state, and the messages outlast it. -/
theorem State.slotFollows_keeps (s : State) (k n : Nat) (offset : Int) (hk : k < 8) (hn : n < 8) :
    (s.slotFollows k n offset).reg (0x6000 + k) 0x12 = s.reg (0x6000 + k) 0x12 ∧
      (∀ b, 4 ≤ b → (s.slotFollows k n offset).bit (0x6000 + k) 0x04 b = s.bit (0x6000 + k) 0x04 b) ∧
      (∀ f : Message → Bool, s.messages.any f = true → (s.slotFollows k n offset).messages.any f = true) := by
  have seen := s.slotOffsetSeen_same k n offset hn
  have told := (State.slotOffsetSeen_only s k n offset (.refl 0x10040000000002 s) rfl).messages (by decide)
  have locked : (s.slotOffsetSeen k n offset).refsUpdate.Selects (s.slotFollows k n offset) := by
    unfold State.slotFollows
    extract_lets u
    exact .ite (.refl u) (u.lockCount_selects k offset hk)
  refine ⟨?_, fun b hb => ?_, fun f h => locked.messages f (State.refsUpdate_messages _ f (by rw [told]; exact h))⟩
  · exact ((locked.entries (0x6000 + k) 0x12 (by decide) (by unfold selectorEntry servoEntry; omega)).trans
      (State.refsUpdate_entries _ (0x6000 + k) 0x12 (by decide) (by unfold selectorEntry servoEntry timingEntry; omega))).trans
      (seen (0x6000 + k) 0x12 (by decide) (by unfold slotEntry; omega))
  · exact ((locked.status k b hk (.inr hb)).trans (State.refsUpdate_status _ k hk (.inr hb))).trans (seen.bit b (by decide) (by unfold slotEntry; omega))

theorem exec_measuredOffsetWrite (tb : TbId) (offset : Int) (s : State) : exec (.measuredOffsetWrite tb offset) s =
    .next (if 8 ≤ ((s.setReg (0x6000 + tb) 0x12 offset).thresholdTest tb offset).nat (0x7020 + tb) 0x04 ∨
        !((s.setReg (0x6000 + tb) 0x12 offset).thresholdTest tb offset).flag (0x6000 + tb.val) 0x03
      then (s.setReg (0x6000 + tb) 0x12 offset).thresholdTest tb offset
      else ((s.setReg (0x6000 + tb) 0x12 offset).thresholdTest tb offset).slotFollows tb
        (((s.setReg (0x6000 + tb) 0x12 offset).thresholdTest tb offset).nat (0x7020 + tb) 0x04) offset) := rfl

/-- What the offset and the threshold show, before a slot is looked at. -/
theorem State.thresholdTest_measured (s : State) (k : Nat) (offset : Int) :
    SameEntries (fun i j => i = 0x6000 + k ∧ (j = 0x04 ∨ j = 0x12)) s ((s.setReg (0x6000 + k) 0x12 offset).thresholdTest k offset) ∧
      ((s.setReg (0x6000 + k) 0x12 offset).thresholdTest k offset).reg (0x6000 + k) 0x12 = offset := by
  have shown := (State.showThreshold_same (s.setReg (0x6000 + k) 0x12 offset) k
    (decide ((s.setReg (0x6000 + k) 0x12 offset).threshold k < offset.natAbs))).of_regs (State.thresholdTest_regs _ k offset)
  refine ⟨((SameEntries.refl _ s).setReg (by decide) ⟨rfl, .inr rfl⟩).trans (shown.mono fun i j own => ⟨own.1, .inl own.2⟩), ?_⟩
  rw [shown _ _ (by decide) (by omega)]
  exact State.reg_setReg_same ..

theorem measuredOffsetWrite_judges (tb : TbId) (offset : Int) (s : State) :
    Runs (.measuredOffsetWrite tb offset) s fun t => t.reg (0x6000 + tb) 0x12 = offset ∧
      t.bit (0x6000 + tb) 0x04 6 = decide (s.nat (0x6000 + tb) 0x0C * 65536 < offset.natAbs) ∧
      t.bit (0x6000 + tb) 0x04 7 = (s.bit (0x6000 + tb) 0x04 7 || decide (s.nat (0x6000 + tb) 0x0C * 65536 < offset.natAbs)) ∧
      (s.nat (0x6000 + tb) 0x0C * 65536 < offset.natAbs → s.bit (0x6000 + tb) 0x04 6 = false → s.isSafe = false →
        t.messages.any (fun m => m.source == 1176 + tb.val) = true) ∧
      ((8 ≤ s.nat (0x7020 + tb) 0x04 ∨ s.flag (0x6000 + tb) 0x03 = false) → t.tbs = s.tbs ∧ t.servo tb = s.servo tb ∧ t.reg (0x7020 + tb) 0x08 = s.reg (0x7020 + tb) 0x08) := by
  have run := exec_measuredOffsetWrite tb offset s
  obtain ⟨same, measured⟩ := s.thresholdTest_measured tb offset
  have before : SameEntries (fun i j => i = 0x6000 + tb.val ∧ j = 0x12) s (s.setReg (0x6000 + tb) 0x12 offset) :=
    (SameEntries.refl _ s).setReg (by decide) ⟨rfl, rfl⟩
  have limit : (s.setReg (0x6000 + tb) 0x12 offset).threshold tb = s.nat (0x6000 + tb) 0x0C * 65536 :=
    congrArg (· * 65536) (before.nat (by decide) (by omega))
  have live : ∀ b, (s.setReg (0x6000 + tb) 0x12 offset).bit (0x6000 + tb) 0x04 b = s.bit (0x6000 + tb) 0x04 b := fun b =>
    before.bit b (by decide) (by omega)
  obtain ⟨six, seven⟩ : ((s.setReg (0x6000 + tb) 0x12 offset).thresholdTest tb offset).bit (0x6000 + tb) 0x04 6 =
      decide (s.nat (0x6000 + tb) 0x0C * 65536 < offset.natAbs) ∧
      ((s.setReg (0x6000 + tb) 0x12 offset).thresholdTest tb offset).bit (0x6000 + tb) 0x04 7 =
        (s.bit (0x6000 + tb) 0x04 7 || decide (s.nat (0x6000 + tb) 0x0C * 65536 < offset.natAbs)) := by
    obtain ⟨six, seven⟩ := State.showThreshold_bits (s.setReg (0x6000 + tb) 0x12 offset) tb
      (decide ((s.setReg (0x6000 + tb) 0x12 offset).threshold tb < offset.natAbs))
    have regs := State.thresholdTest_regs (s.setReg (0x6000 + tb) 0x12 offset) tb offset
    have bits : ∀ b, _ = _ := fun b => congrArg (Nat.testBit · b) (State.nat_of_regs regs (0x6000 + tb) 0x04)
    rw [live, limit] at seven
    rw [limit] at six bits
    exact ⟨(bits 6).trans six, (bits 7).trans seven⟩
  have raised : s.nat (0x6000 + tb) 0x0C * 65536 < offset.natAbs → s.bit (0x6000 + tb) 0x04 6 = false → s.isSafe = false →
      ((s.setReg (0x6000 + tb) 0x12 offset).thresholdTest tb offset).messages.any (fun m => m.source == 1176 + tb.val) = true := fun far was up =>
    State.thresholdTest_raises _ tb offset (by rw [limit]; exact far) ((live 6).trans was) (by
      unfold State.isSafe State.runState at up ⊢
      rw [before.nat (by decide) (by omega)]
      exact up)
  have tbs : ((s.setReg (0x6000 + tb) 0x12 offset).thresholdTest tb offset).tbs = s.tbs :=
    (State.thresholdTest_only _ tb offset (.refl 0x140000000000000002 _) rfl).tbs (by decide)
  have servo : ((s.setReg (0x6000 + tb) 0x12 offset).thresholdTest tb offset).servo tb = s.servo tb := by
    refine State.servo_of_bits fun b low high => ?_
    have regs := State.thresholdTest_regs (s.setReg (0x6000 + tb) 0x12 offset) tb offset
    exact (congrArg (Nat.testBit · b) (State.nat_of_regs regs (0x6000 + tb) 0x04)).trans ((State.showThreshold_apart _ _ _ (by omega) (by omega)).trans (live b))
  generalize (s.setReg (0x6000 + tb) 0x12 offset).thresholdTest tb offset = u at *
  have slot : u.nat (0x7020 + tb) 0x04 = s.nat (0x7020 + tb) 0x04 := same.nat (by decide) (by omega)
  have bound : u.flag (0x6000 + tb) 0x03 = s.flag (0x6000 + tb) 0x03 := same.flag (by decide) (by omega)
  by_cases alone : 8 ≤ u.nat (0x7020 + tb) 0x04 ∨ (!u.flag (0x6000 + tb) 0x03) = true
  · rw [if_pos alone] at run
    exact .of run ⟨measured, six, seven, raised, fun _ => ⟨tbs, servo, same _ _ (by decide) (by omega)⟩⟩
  · rw [if_neg alone] at run
    rw [slot] at run
    rw [slot, bound] at alone
    push Not at alone
    obtain ⟨shown, bits, told⟩ := u.slotFollows_keeps tb (s.nat (0x7020 + tb) 0x04) offset tb.isLt alone.1
    refine .of run ⟨shown.trans measured, (bits 6 (by decide)).trans six, (bits 7 (by decide)).trans seven, fun far was up => told _ (raised far was up),
      fun none => ?_⟩
    rcases none with high | unbound
    · exact absurd high (by omega)
    · exact absurd unbound (by simpa using alone.2)

/-! ### Steering -/

/-- A steering offset as the firmware or a host writes it. -/
def State.steer (s : State) (k : Nat) (host : Option Role) (ppt : Int) : State :=
  if ppt < -100000000 ∨ 100000000 < ppt then s.outOfRange 0x0F
  else if s.servo k = 4 then
    match host with
    | none => s.done
    | some r =>
      if roleCovers r .own then (((s.setReg (0x6000 + k) 0x0F ppt).setReg (0x7020 + k) 0x0A ppt).setSteering k ppt).done
      else s.answer 0x04 0
  else ((s.setReg (0x6000 + k) 0x0F ppt).applySteering k).done

theorem State.reg_of_regs {s t : State} (same : t.regs = s.regs) (i j : Nat) : t.reg i j = s.reg i j := by unfold State.reg; rw [same]

section Steering
variable (s : State) (k : Nat) (ppt : Int)

theorem State.setSteering_steering : ((s.setSteering k ppt).tb k).steering = ppt := by
  unfold State.setSteering
  split_ifs with same
  · exact same
  · dsimp only
    rw [State.tb_setTb_same]

theorem State.setSteering_apart {j : Nat} (apart : j ≠ k) : (s.setSteering k ppt).tb j = s.tb j := by
  unfold State.setSteering
  split_ifs
  · rfl
  · exact (State.tb_setTb ..).trans (if_neg (Ne.symm apart))

theorem State.setSteering_regs : (s.setSteering k ppt).regs = s.regs := (State.setSteering_only s k ppt (.refl 0x40000000000 s) rfl).regs (by decide)

theorem State.applySteering_follows (follows : s.tbFollows k = true) : s.applySteering k =
    s.setSteering k (clampSteering (s.reg (0x6000 + k) 0x0F) (s.reg (0x7020 + k) 0x08) (s.nat (0x7020 + k) 0x01)) := if_pos follows

theorem State.applySteering_free (free : s.tbFollows k = false) (held : s.servo k ≠ 4) : s.applySteering k = s.setSteering k (s.reg (0x6000 + k) 0x0F) := by
  unfold State.applySteering
  dsimp only
  rw [if_neg (by simp [free]), if_neg held]

/-- An offset written outside holdover is shown and in force, within the slope limit where the time base follows a reference. -/
theorem State.applySteering_written (held : s.servo k ≠ 4) :
    ((s.setReg (0x6000 + k) 0x0F ppt).applySteering k).reg (0x6000 + k) 0x0F = ppt ∧
      (s.tbFollows k = false → (((s.setReg (0x6000 + k) 0x0F ppt).applySteering k).tb k).steering = ppt) ∧
      (s.tbFollows k = true → (((s.setReg (0x6000 + k) 0x0F ppt).applySteering k).tb k).steering =
        clampSteering ppt (s.reg (0x7020 + k) 0x08) (s.nat (0x7020 + k) 0x01)) ∧
      (∀ j, j ≠ k → ((s.setReg (0x6000 + k) 0x0F ppt).applySteering k).tb j = s.tb j) := by
  have same : SameEntries (fun i j => i = 0x6000 + k ∧ j = 0x0F) s (s.setReg (0x6000 + k) 0x0F ppt) := (SameEntries.refl _ s).setReg (by decide) ⟨rfl, rfl⟩
  have written : (s.setReg (0x6000 + k) 0x0F ppt).reg (0x6000 + k) 0x0F = ppt := State.reg_setReg_same ..
  have servo : (s.setReg (0x6000 + k) 0x0F ppt).servo k = s.servo k := congrArg (field · 1 3) (same.nat (by decide) (by omega))
  have follows : (s.setReg (0x6000 + k) 0x0F ppt).tbFollows k = s.tbFollows k := by unfold State.tbFollows; rw [servo]
  have tbs : ∀ j, (s.setReg (0x6000 + k) 0x0F ppt).tb j = s.tb j := fun _ => rfl
  have limit : (s.setReg (0x6000 + k) 0x0F ppt).nat (0x7020 + k) 0x01 = s.nat (0x7020 + k) 0x01 := same.nat (by decide) (by omega)
  have slope : (s.setReg (0x6000 + k) 0x0F ppt).reg (0x7020 + k) 0x08 = s.reg (0x7020 + k) 0x08 := same _ _ (by decide) (by omega)
  generalize s.setReg (0x6000 + k) 0x0F ppt = u at *
  have shown : ∀ v, (u.setSteering k v).reg (0x6000 + k) 0x0F = ppt := fun v => (State.reg_of_regs (u.setSteering_regs k v) _ _).trans written
  by_cases on : s.tbFollows k = true
  · rw [State.applySteering_follows u k (follows.trans on), written, slope, limit]
    exact ⟨shown _, fun off => absurd (on.symm.trans off) (by decide), fun _ => u.setSteering_steering k _,
      fun j apart => (u.setSteering_apart k _ apart).trans (tbs j)⟩
  · rw [State.applySteering_free u k (follows.trans (Bool.eq_false_iff.mpr on)) (by rw [servo]; exact held), written]
    exact ⟨shown _, fun _ => u.setSteering_steering k _, fun h => absurd h on, fun j apart => (u.setSteering_apart k _ apart).trans (tbs j)⟩

theorem State.steer_large (host : Option Role) (large : 100000000 < ppt.natAbs) : s.steer k host ppt = s.outOfRange 0x0F := if_pos (by omega)

theorem State.steer_holdover_firmware (small : ppt.natAbs ≤ 100000000) (held : s.servo k = 4) : s.steer k none ppt = s.done := by
  unfold State.steer
  rw [if_neg (by omega), if_pos held]

theorem State.steer_holdover_host (role : Role) (small : ppt.natAbs ≤ 100000000) (held : s.servo k = 4) : s.steer k (some role) ppt =
    if roleCovers role .own then (((s.setReg (0x6000 + k) 0x0F ppt).setReg (0x7020 + k) 0x0A ppt).setSteering k ppt).done else s.answer 0x04 0 := by
  unfold State.steer
  rw [if_neg (by omega), if_pos held]

theorem State.steer_applies (host : Option Role) (small : ppt.natAbs ≤ 100000000) (held : s.servo k ≠ 4) :
    s.steer k host ppt = ((s.setReg (0x6000 + k) 0x0F ppt).applySteering k).done := by
  unfold State.steer
  rw [if_neg (by omega), if_neg held]

end Steering

theorem steeringOffsetWrite_firmware {tb : TbId} {ppt : Int} {s : State} (up : s.served = true) (bound : s.flag (0x6000 + tb) 0x03 = true) :
    exec (.steeringOffsetWrite tb none ppt) s = .next (s.steer tb none ppt) := by
  change Host.Outcome.next _ = _
  dsimp only
  rw [if_neg (by simp [up]), if_neg (by simp [bound])]
  rfl

theorem steeringOffsetWrite_unbound (tb : TbId) (ppt : Int) (s : State) (up : s.served = true) (unbound : s.flag (0x6000 + tb) 0x03 = false) :
    Runs (.steeringOffsetWrite tb none ppt) s fun t => t.lastStatus = 0x04 ∧ Only (partLastStatus ||| partLastDetail) s t := by
  have run : exec (.steeringOffsetWrite tb none ppt) s = .next (s.answer 0x04 0) := by
    change Host.Outcome.next _ = _
    dsimp only
    rw [if_neg (by simp [up]), if_pos (by simp [unbound])]
  exact .of run ⟨rfl, State.answer_only s 0x04 0 (.refl _ s) rfl⟩

theorem steeringOffsetWrite_steers (tb : TbId) (ppt : Int) (s : State) (up : s.served = true) (bound : s.flag (0x6000 + tb) 0x03 = true)
    (small : ppt.natAbs ≤ 100000000) :
    Runs (.steeringOffsetWrite tb none ppt) s fun t => t.lastStatus = 0 ∧
      (s.servo tb = 4 → Only (partLastStatus ||| partLastDetail) s t) ∧
      (s.servo tb ≠ 4 → t.reg (0x6000 + tb) 0x0F = ppt ∧ (s.tbFollows tb = false → (t.tb tb).steering = ppt) ∧
        (s.tbFollows tb = true → (t.tb tb).steering = clampSteering ppt (s.reg (0x7020 + tb) 0x08) (s.nat (0x7020 + tb) 0x01)) ∧
        (∀ k, k ≠ tb.val → t.tb k = s.tb k)) := by
  have run := steeringOffsetWrite_firmware (ppt := ppt) up bound
  by_cases held : s.servo tb = 4
  · rw [s.steer_holdover_firmware tb ppt small held] at run
    exact .of run ⟨rfl, fun _ => State.done_only s (.refl _ s) rfl, fun h => absurd held h⟩
  · rw [s.steer_applies tb ppt none small held] at run
    exact .of run ⟨rfl, fun h => absurd h held, fun _ => s.applySteering_written tb ppt held⟩

theorem steeringOffsetWrite_host (tb : TbId) (role : Role) (ppt : Int) (s : State) (admitted : s.admits role (0x6000 + tb) 0x0F) :
    Runs (.steeringOffsetWrite tb (some role) ppt) s fun t =>
      (100000000 < ppt.natAbs → t.lastStatus = 0x08 ∧ Only (partLastStatus ||| partLastDetail) s t) ∧
      (ppt.natAbs ≤ 100000000 → s.servo tb = 4 → roleCovers role .own = true →
        t.lastStatus = 0 ∧ (t.tb tb).steering = ppt ∧ t.reg (0x7020 + tb) 0x0A = ppt) ∧
      (ppt.natAbs ≤ 100000000 → s.servo tb = 4 → roleCovers role .own = false →
        t.lastStatus = 0x04 ∧ Only (partLastStatus ||| partLastDetail) s t) := by
  have run : exec (.steeringOffsetWrite tb (some role) ppt) s = .next (s.steer tb (some role) ppt) :=
    congrArg _ (State.hostWrite_admitted admitted _)
  refine .of run ⟨fun large => ?_, fun small held own => ?_, fun small held poor => ?_⟩
  · rw [s.steer_large tb ppt _ large]
    exact ⟨rfl, State.outOfRange_only s _ (.refl _ s) rfl⟩
  · rw [s.steer_holdover_host tb ppt role small held, if_pos own]
    refine ⟨rfl, State.setSteering_steering _ tb ppt, ?_⟩
    have shown : ((s.setReg (0x6000 + tb) 0x0F ppt).setReg (0x7020 + tb) 0x0A ppt).reg (0x7020 + tb) 0x0A = ppt := State.reg_setReg_same ..
    exact (State.reg_of_regs (State.setSteering_regs _ tb ppt) _ _).trans shown
  · rw [s.steer_holdover_host tb ppt role small held, if_neg (by simp [poor])]
    exact ⟨rfl, State.answer_only s 0x04 0 (.refl _ s) rfl⟩

/-- Settles O24. -/
theorem offsetsJudgedAndSteeringApplied : Obligations.OffsetsJudgedAndSteeringApplied := by
  unfold Obligations.OffsetsJudgedAndSteeringApplied
  exact ⟨measuredOffsetWrite_judges, steeringOffsetWrite_unbound, steeringOffsetWrite_steers, steeringOffsetWrite_host⟩

end Sys2Proof.Machine

namespace Sys2Proof.Machine

-- The kernel evaluates the runs below one after another: side by side, each holds a thread while it waits for the declarations before it.
set_option Elab.async false

/-! ## A step (09 R234; 10 R259)

At the edge the replicas told of the step are made anew one by one (`State.jumpReplicas`), so that of two items of one line the last stays, while a read
takes the first; O25 does not ask for the canonical form. -/

/-- A step of TB1 by 0 has waited for its edge, and line 0 is listed twice: with a copy of TB1 at 0, and behind it with one at 1. -/
def stepLineListedTwice : State :=
  { State.reset with
    now := 2000
    tbs := [(1, { running := true, pendingStep := some 0 })]
    replicas := [(0, { copies := [(1, some {})] }), (0, { copies := [(1, some { count := 1 })] })] }

/-- The edge brings the second one back, which was told of nothing. -/
theorem stepLineListedTwice_edge :
    ∃ t, exec (.stepEdge 1) stepLineListedTwice = .next t ∧ (stepLineListedTwice.replica 0).copy 1 = some {} ∧
      (t.replica 0).copy 1 = some { count := 1 } :=
  ⟨_, rfl, by decide +kernel, by decide +kernel⟩

/-- Refutes O25: in `stepLineListedTwice` the copy of TB1 at line 0 reads 0 before the edge and 1 after it, though the line has been told of no step. The
state is not in canonical form, which the statement does not exclude. -/
theorem not_stepMovesTheTimeBase : ¬ Obligations.StepMovesTheTimeBase := by
  unfold Obligations.StepMovesTheTimeBase
  rintro ⟨-, edge⟩
  obtain ⟨t, run, before, after⟩ := stepLineListedTwice_edge
  obtain ⟨u, again, -, -, -, -, copies, -⟩ := edge 1 stepLineListedTwice 0 rfl rfl (by decide +kernel)
  obtain rfl : t = u := Host.Outcome.next.inj (run.symm.trans again)
  have kept := copies 0 (by decide) {} before
  rw [if_neg (by decide +kernel)] at kept
  exact absurd (after.symm.trans kept) (by decide)

end Sys2Proof.Machine

namespace Sys2Proof.Machine

/-! ## Compares (09 R238 to R241) -/

section Rings
variable {s : State} {r : CaptureRecord}

theorem insertRecord_length (r : CaptureRecord) (l : List CaptureRecord) : (insertRecord r l).length = l.length + 1 := by
  induction l with
  | nil => rfl
  | cons q l ih => unfold insertRecord; split <;> simp_all

theorem mem_insertRecord (r : CaptureRecord) (l : List CaptureRecord) : r ∈ insertRecord r l := by
  induction l with
  | nil => exact List.mem_singleton_self r
  | cons q l ih =>
    unfold insertRecord
    split
    · exact List.mem_cons_self
    · exact List.mem_cons_of_mem q ih

/-- A record enters a ring with room. -/
theorem State.ringPush_room (room : s.ring.length < 4096) :
    s.ringPush r = { s with ringSeq := (s.ringSeq + 1) % 256, ring := insertRecord r s.ring } :=
  if_pos (by rw [insertRecord_length]; omega)

/-- A record enters a full ring in the place of the oldest. -/
theorem State.ringPush_full (full : s.ring.length = 4096) : s.ringPush r =
    ({ s with ringSeq := (s.ringSeq + 1) % 256, ring := (insertRecord r s.ring).drop 1, rewind := min (s.rewind + 1) (2 ^ 32 - 1) } : State).inc64
      0x6380 0x04 :=
  if_neg (by rw [insertRecord_length]; omega)

/-- Of the entries a record writes that of the overwrites alone. -/
theorem State.ringPush_same (s : State) (r : CaptureRecord) : SameEntries (fun i _ => i = 0x6380) s (s.ringPush r) :=
  .ite ((SameEntries.refl _ s).of_regs rfl) (((SameEntries.refl _ s).of_regs rfl).setReg (by decide) rfl)

end Rings

/-- Of the entries an event writes those of engines alone. -/
theorem State.sendEvent_engines (s : State) (thread type data : Nat) : SameEntries (fun i _ => 0xB000 ≤ i) s (s.sendEvent thread type data) := by
  have queued : ∀ e t, SameEntries (fun i _ => 0xB000 ≤ i) s (s.queueEvent e t type data) := fun e t =>
    .ite ((SameEntries.refl _ s).of_regs rfl) ((SameEntries.refl _ s).setReg (by decide) (by omega))
  have lost : ∀ e, SameEntries (fun i _ => 0xB000 ≤ i) s (s.inc32 (0xB000 + e) 0x05) := fun e =>
    (SameEntries.refl _ s).setReg (by decide) (by omega)
  exact .ite (.refl _ s) (.ite (.ite (queued _ _) (lost _)) (.ite (lost _) (queued _ _)))

section Instances
variable (s : State) (c : Nat)

/-- The suppressed occurrence: its count, and its record where one is selected. -/
def State.suppressInstance (k t act : Nat) (late : Bool) : State :=
  let s := s.inc64 (0x6100 + c) 0x0C
  if act.testBit 1 then s.takeRecord (16 + c) k t late true else s

/-- The occurrence that fires: its count and event. -/
def State.noteFire (act : Nat) : State :=
  let s := s.inc64 (0x6100 + c) 0x0A
  if act.testBit 0 then s.sendEvent (s.nat (0x6100 + c) 0x0D) 1 c else s

/-- Its records. -/
def State.fireRecords (k t act : Nat) (late : Bool) : State :=
  let s := if act.testBit 1 then s.takeRecord (16 + c) k t late false else s
  if act.testBit 2 then s.snapshot else s

/-- Its pulses. -/
def State.firePulses (k t act : Nat) (late : Bool) : State :=
  (items 16).foldl (fun a f => if act.testBit (16 + f) then a.comparePulse f k (if late then max t (s.tbNow k) else t) else a) s

theorem State.instanceDue_eq (late : Bool) : s.instanceDue c late =
    let k := s.nat (0x6100 + c) 0x01
    let t := s.fullTime k (s.target c (s.compare c).index)
    let act := s.nat (0x6100 + c) 0x06
    if s.flag (0x6100 + c) 0x07 && !s.tbFollows k then s.suppressInstance c k t act late
    else ((s.noteFire c act).fireRecords c k t act late).firePulses k t act late := rfl

theorem State.firePulses_only (k t act : Nat) (late : Bool) : Only partFireflies s (s.firePulses k t act late) :=
  .foldl (.refl _ s) fun u f => .ite (State.comparePulse_only u f k _ (.refl 0x100000000000 u) rfl) (.refl _ u)

theorem State.fireRecords_only (k t act : Nat) (late : Bool) : Only 0x1c00000000002 s (s.fireRecords c k t act late) := by
  unfold State.fireRecords
  extract_lets u
  have taken : Only 0x1c00000000002 s u := .ite (State.takeRecord_only s (16 + c) k t late false (.refl 0x1c00000000002 s) rfl) (.refl _ s)
  exact .ite (taken.step (State.snapshot_only u (.refl 0x1c00000000002 u) rfl) rfl) taken

/-- The entries an occurrence of compare `c` writes. -/
def instanceEntry (c i j : Nat) : Prop := 0xB000 ≤ i ∨ i = 0x6380 ∨ (i = 0x6100 + c ∧ (j = 0x0A ∨ j = 0x0C))

theorem State.takeRecord_same (source k t : Nat) (late suppressed : Bool) :
    SameEntries (fun i _ => i = 0x6380) s (s.takeRecord source k t late suppressed) := s.ringPush_same _

theorem State.snapshot_same : SameEntries (fun i _ => i = 0x6380) s s.snapshot :=
  .foldl _ (fun u k _ => u.takeRecord_same (48 + k) k _ false false)

theorem State.fireRecords_same (k t act : Nat) (late : Bool) : SameEntries (fun i _ => i = 0x6380) s (s.fireRecords c k t act late) := by
  unfold State.fireRecords
  extract_lets u
  have taken : SameEntries (fun i _ => i = 0x6380) s u := .ite (s.takeRecord_same _ _ _ _ _) (.refl _ s)
  exact .ite (taken.trans u.snapshot_same) taken

theorem State.suppressInstance_same (k t act : Nat) (late : Bool) :
    SameEntries (fun i j => i = 0x6380 ∨ (i = 0x6100 + c ∧ j = 0x0C)) s (s.suppressInstance c k t act late) := by
  have counted : SameEntries (fun i j => i = 0x6380 ∨ (i = 0x6100 + c ∧ j = 0x0C)) s (s.inc64 (0x6100 + c) 0x0C) :=
    (SameEntries.refl _ s).setReg (by decide) (.inr ⟨rfl, rfl⟩)
  exact .ite (counted.trans ((State.takeRecord_same _ _ _ _ _ _).mono fun _ _ => .inl)) counted

theorem State.noteFire_same (act : Nat) :
    SameEntries (fun i j => 0xB000 ≤ i ∨ (i = 0x6100 + c ∧ j = 0x0A)) s (s.noteFire c act) := by
  have counted : SameEntries (fun i j => 0xB000 ≤ i ∨ (i = 0x6100 + c ∧ j = 0x0A)) s (s.inc64 (0x6100 + c) 0x0A) :=
    (SameEntries.refl _ s).setReg (by decide) (.inr ⟨rfl, rfl⟩)
  exact .ite (counted.trans ((State.sendEvent_engines _ _ _ _).mono fun _ _ => .inl)) counted

theorem State.instanceDue_same (late : Bool) : SameEntries (instanceEntry c) s (s.instanceDue c late) := by
  rw [State.instanceDue_eq]
  extract_lets k t act
  have suppressed : SameEntries (instanceEntry c) s (s.suppressInstance c k t act late) :=
    (s.suppressInstance_same c k t act late).mono fun i j h => by unfold instanceEntry; omega
  have noted : SameEntries (instanceEntry c) s (s.noteFire c act) := (s.noteFire_same c act).mono fun i j h => by unfold instanceEntry; omega
  have recorded : SameEntries (instanceEntry c) s ((s.noteFire c act).fireRecords c k t act late) :=
    noted.trans ((State.fireRecords_same _ _ _ _ _ _).mono fun i j h => .inr (.inl h))
  exact .ite suppressed (recorded.of_regs ((State.firePulses_only _ k t act late).regs rfl))

/-- The count of a suppressed occurrence. -/
theorem State.suppressInstance_count (hc : c < 32) (k t act : Nat) (late : Bool) :
    (s.suppressInstance c k t act late).nat (0x6100 + c) 0x0C = min (s.nat (0x6100 + c) 0x0C + 1) (2 ^ 64 - 1) := by
  have counted := State.nat_inc64_of (s := s) (i := 0x6100 + c) (j := 0x0C) rfl
  unfold State.suppressInstance
  extract_lets u
  split
  · exact ((u.takeRecord_same (16 + c) k t late true).nat (by decide) (by omega)).trans counted
  · exact counted

/-- The count of an occurrence that fires. -/
theorem State.noteFire_count (hc : c < 32) (act : Nat) :
    (s.noteFire c act).nat (0x6100 + c) 0x0A = min (s.nat (0x6100 + c) 0x0A + 1) (2 ^ 64 - 1) := by
  have counted := State.nat_inc64_of (s := s) (i := 0x6100 + c) (j := 0x0A) rfl
  unfold State.noteFire
  extract_lets u
  split
  · exact ((u.sendEvent_engines _ 1 c).nat (by decide) (by omega)).trans counted
  · exact counted

theorem State.noteFire_only (act : Nat) : Only 0x400000000000000000002 s (s.noteFire c act) := by
  unfold State.noteFire
  extract_lets u
  have counted : Only 0x400000000000000000002 s u := State.inc64_only s _ _ (.refl _ s) rfl
  exact .ite (counted.step (State.sendEvent_only u _ 1 c (.refl 0x400000000000000000002 u) rfl) rfl) counted

/-- A record of the occurrence, taken now, has joined a ring with room. -/
def State.Recorded (s : State) (source time : Nat) (t : State) : Prop :=
  t.ring.length = s.ring.length + 1 ∧ ∃ r ∈ t.ring, r.source = source ∧ r.at_ = s.now ∧ r.time = time

theorem State.takeRecord_recorded {s : State} (room : s.ring.length < 4096) (source k time : Nat) (late suppressed : Bool) :
    s.Recorded source time (s.takeRecord source k time late suppressed) := by
  unfold State.takeRecord
  rw [State.ringPush_room room]
  exact ⟨insertRecord_length .., _, mem_insertRecord .., rfl, rfl, rfl⟩

/-- With records selected and snapshots not, an occurrence that is due has its record. -/
theorem State.instanceDue_recorded (late : Bool) (records : s.bit (0x6100 + c) 0x06 1 = true) (plain : s.bit (0x6100 + c) 0x06 2 = false)
    (room : s.ring.length < 4096) :
    s.Recorded (16 + c) (s.fullTime (s.nat (0x6100 + c) 0x01) (s.target c (s.compare c).index)) (s.instanceDue c late) := by
  rw [State.instanceDue_eq]
  extract_lets k t act
  have records : act.testBit 1 = true := records
  have plain : act.testBit 2 = false := plain
  split
  · unfold State.suppressInstance
    extract_lets u
    rw [if_pos records]
    exact State.takeRecord_recorded (s := u) room (16 + c) k t late true
  · have noted := s.noteFire_only c act
    have pulses := ((s.noteFire c act).fireRecords c k t act late).firePulses_only k t act late
    unfold State.Recorded
    rw [pulses.ring rfl]
    unfold State.fireRecords
    rw [plain, records]
    have taken := State.takeRecord_recorded (s := s.noteFire c act) (by rw [noted.ring rfl]; exact room) (16 + c) k t late false
    unfold State.Recorded at taken
    rwa [noted.ring rfl, noted.now rfl] at taken

end Instances

theorem exec_compareArm {role : Role} {c : CompareId} {s : State} (admitted : s.admits role (0x6100 + c) 0x08) :
    exec (.compareArm role c) s = .next (if s.armOk c then (s.armCompare c).done else s.ruleRefused 0) :=
  congrArg _ (State.hostWrite_admitted admitted _)

theorem exec_compareDisarm {role : Role} {c : CompareId} {s : State} (admitted : s.admits role (0x6100 + c) 0x08) :
    exec (.compareDisarm role c) s = .next (s.setCompare c {}).done := congrArg _ (State.hostWrite_admitted admitted _)

theorem exec_compareFire {c : CompareId} {s : State} (armed : (s.compare c).state = 1) (runs : (s.tb (s.nat (0x6100 + c) 0x01)).running = true)
    (due : s.reached (s.nat (0x6100 + c) 0x01) (s.target c (s.compare c).index) = true) :
    exec (.compareFire c) s = .next ((s.instanceDue c false).nextInstance c ((s.compare c).index + 1)) :=
  congrArg _ (if_pos ⟨armed, runs, due⟩)

/-- Settles O27: the effects of an occurrence are taken in turn (count and event, records, pulses), each with what it leaves. -/
theorem compareArmsAndFires : Obligations.CompareArmsAndFires := by
  unfold Obligations.CompareArmsAndFires
  refine ⟨fun role c s admitted => ⟨.of (exec_compareArm admitted) ?_, .of (exec_compareDisarm admitted) ?_⟩, fun c s armed runs due => ?_⟩
  · have set := State.setCompare_only s c { state := 1, index := 0 } (.refl 0x80000000018 s) rfl
    refine ⟨.ite (State.done_only _ set rfl) (State.ruleRefused_only s 0 (.refl 0x80000000018 s) rfl), fun ok => ?_, fun ok => ?_, fun k apart => ?_⟩
    · rw [if_pos ok]
      exact ⟨rfl, s.compare_setCompare_same c { state := 1, index := 0 }⟩
    · rw [if_neg (by simp [ok])]
      exact ⟨rfl, rfl⟩
    · split
      · exact (s.compare_setCompare c { state := 1, index := 0 } k).trans (if_neg (Ne.symm apart))
      · rfl
  · exact ⟨State.done_only _ (State.setCompare_only s c {} (.refl 0x80000000018 s) rfl) rfl, rfl, s.compare_setCompare_same c {},
      fun k apart => (s.compare_setCompare c {} k).trans (if_neg (Ne.symm apart))⟩
  · have same := s.instanceDue_same c false
    have only := State.instanceDue_only s c false (.refl 0x400000001d00000000002 s) rfl
    have count : (s.instanceDue c false).nat (0x6100 + c) 0x05 = s.nat (0x6100 + c) 0x05 :=
      same.nat (by decide) (by unfold instanceEntry; omega)
    refine .of (exec_compareFire armed runs due) ⟨?_, fun k apart => ?_, fun required free => ?_, fun fires => ?_, fun records plain room => ?_⟩
    · rw [← count]
      exact State.compare_setCompare_same ..
    · exact ((State.compare_setCompare ..).trans (if_neg (Ne.symm apart))).trans (only.compare_kept rfl k)
    · have due : s.instanceDue c false = s.suppressInstance c _ _ _ false := if_pos (by rw [required, free]; rfl)
      change (s.instanceDue c false).nat _ _ = _ ∧ (s.instanceDue c false).fireflies = _
      rw [due]
      have frame : Only 0x1c00000000002 s (s.suppressInstance c (s.nat (0x6100 + c) 0x01)
          (s.fullTime (s.nat (0x6100 + c) 0x01) (s.target c (s.compare c).index)) (s.nat (0x6100 + c) 0x06) false) :=
        .ite ((State.inc64_only s _ _ (.refl 0x1c00000000002 s) rfl).step (State.takeRecord_only _ _ _ _ false true (.refl 0x1c00000000002 _) rfl) rfl)
          (State.inc64_only s _ _ (.refl 0x1c00000000002 s) rfl)
      exact ⟨s.suppressInstance_count c c.isLt _ _ _ false, frame.fireflies rfl⟩
    · have due : s.instanceDue c false = ((s.noteFire c _).fireRecords c _ _ _ false).firePulses _ _ _ false :=
        if_neg (by rcases fires with h | h <;> simp [h])
      change (s.instanceDue c false).nat _ _ = _
      rw [due, (State.firePulses_only ..).nat_kept rfl, (State.fireRecords_same _ _ _ _ _ _).nat (by decide) (by omega)]
      exact s.noteFire_count c c.isLt _
    · exact s.instanceDue_recorded c false records plain room

end Sys2Proof.Machine

namespace Sys2Proof.Machine

/-! ## Firefly outputs (09 R242 to R247)

What an output does moves its own items alone: its alignment error and its state among the entries, and its own pulses. -/

section Outputs
variable {f : Nat} {s t u : State}

/-- The entries an output writes of itself: e and its state. -/
def fireflyEntry (f i j : Nat) : Prop := i = 0x6200 + f ∧ (j = 0x0E ∨ j = 0x11)

/-- From `s` to `t` output `f` alone has moved. -/
structure State.Drives (f : Nat) (s t : State) : Prop where
  frame : Only (partRegs ||| partFireflies) s t
  entries : SameEntries (fireflyEntry f) s t
  others : ∀ k, k ≠ f → t.firefly k = s.firefly k

theorem State.Drives.refl (f : Nat) (s : State) : s.Drives f s := ⟨.refl _ s, .refl _ s, fun _ _ => rfl⟩

theorem State.Drives.trans (a : State.Drives f s t) (b : State.Drives f t u) : State.Drives f s u :=
  ⟨a.frame.step b.frame rfl, a.entries.trans b.entries, fun k apart => (b.others k apart).trans (a.others k apart)⟩

theorem State.Drives.setFirefly (a : State.Drives f s t) (x : FireflyX) : State.Drives f s (t.setFirefly f x) :=
  ⟨State.setFirefly_only t f x a.frame rfl, a.entries.of_regs rfl,
    fun k apart => ((t.firefly_setFirefly f x k).trans (if_neg (Ne.symm apart))).trans (a.others k apart)⟩

theorem State.Drives.setReg (a : State.Drives f s t) {j : Nat} (v : Int) (own : j = 0x0E ∨ j = 0x11) : State.Drives f s (t.setReg (0x6200 + f) j v) :=
  ⟨State.setReg_only t _ j v a.frame rfl, a.entries.setReg (by omega) ⟨rfl, own⟩, a.others⟩

theorem State.Drives.nat (a : State.Drives f s t) {i j : Nat} (hj : j < 256) (apart : ¬fireflyEntry f i j) : t.nat i j = s.nat i j := a.entries.nat hj apart

theorem State.Drives.own (a : State.Drives f s t) {j : Nat} (hj : j < 0x0E) : t.nat (0x6200 + f) j = s.nat (0x6200 + f) j :=
  a.nat (by omega) (by unfold fireflyEntry; omega)

theorem State.Drives.done (a : State.Drives f s t) : Only (partRegs ||| partFireflies ||| partLastStatus ||| partLastDetail) s t.done :=
  State.done_only t (a.frame.mono rfl) rfl

variable (s) (f)

theorem State.settleSlew_drives (goesOn : Bool) : s.Drives f (s.settleSlew f goesOn) := ((State.Drives.refl f s).setReg _ (.inl rfl)).setFirefly _

theorem State.settlePulses_drives (cut : Bool) : s.Drives f (s.settlePulses f cut) := (State.Drives.refl f s).setFirefly _

theorem State.endPulses_drives : s.Drives f (s.endPulses f) :=
  ((s.settleSlew_drives f false).trans (State.settlePulses_drives f _ true)).setFirefly _

theorem State.restartGrid_drives (e : Int) (st : Nat) : s.Drives f (s.restartGrid f e st) :=
  (((s.endPulses_drives f).setReg e (.inl rfl)).setReg st (.inr rfl)).setFirefly _

/-- What is settled of an output's pulses: only the pulses and the note of the last edge. -/
theorem State.settlePulses_own (cut : Bool) : ∃ last, (s.settlePulses f cut).firefly f = { s.firefly f with
    lastEdge := last
    pulses := (s.firefly f).pulses.filter (fun q => decide (s.pulseTime f q < q.stop) && !(cut && decide (s.pulseTime f q < q.start))) } :=
  ⟨_, State.firefly_setFirefly_same ..⟩

theorem State.settleSlew_own (goesOn : Bool) : (s.settleSlew f goesOn).firefly f =
    { s.firefly f with slewSince := if goesOn then (s.firefly f).slewSince.map (fun _ => s.now) else none } := State.firefly_setFirefly_same ..

theorem State.settleSlew_error (goesOn : Bool) : (s.settleSlew f goesOn).reg (0x6200 + f) 0x0E = s.alignError f := by
  unfold State.settleSlew
  simp

theorem State.settleSlew_state (goesOn : Bool) : (s.settleSlew f goesOn).nat (0x6200 + f) 0x11 = s.nat (0x6200 + f) 0x11 := by
  unfold State.settleSlew
  simp

/-- A restarted output has no pulse, the given error and the given state. -/
theorem State.restartGrid_own (e : Int) (st : Nat) : ((s.restartGrid f e st).firefly f).pulses = [] ∧
    (s.restartGrid f e st).reg (0x6200 + f) 0x0E = e ∧ (s.restartGrid f e st).nat (0x6200 + f) 0x11 = st := by
  unfold State.restartGrid
  extract_lets u
  have ended : (u.firefly f).pulses = [] := congrArg FireflyX.pulses (State.firefly_setFirefly_same _ f _)
  refine ⟨?_, by simp, by simp⟩
  rw [State.firefly_setFirefly_same]
  exact ended

/-- The pulses of an active edge: one of the set width, or a frame of the time code. -/
def State.edgePulses (s : State) (f : Nat) (g : Int) : List Pulse :=
  if s.nat (0x6200 + f) 0x01 = 5 then s.irigFrame f g
  else [{ tb := s.nat (0x6200 + f) 0x02, start := g, stop := g + nsUnits (s.nat (0x6200 + f) 0x06), gridded := true }]

/-- An active edge where no pulse starts at the same instant. -/
theorem State.activeEdge_fresh {g : Int} (fresh : ((s.settlePulses f false).firefly f).pulses.any (fun q => q.start == g) = false) :
    s.activeEdge f g = (s.settlePulses f false).setFirefly f { (s.settlePulses f false).firefly f with
      lastEdge := some (s.settlePulses f false).now
      pulses := ((s.settlePulses f false).firefly f).pulses ++ (s.settlePulses f false).edgePulses f g
      realignWait := 0 } :=
  if_neg (by simp [fresh])

/-- A settled output drives no pulse that it did not drive. -/
theorem State.settlePulses_fresh {g : Int} (cut : Bool) (fresh : (s.firefly f).pulses.all (fun q => q.start != g) = true) :
    ((s.settlePulses f cut).firefly f).pulses.any (fun q => q.start == g) = false := by
  obtain ⟨last, own⟩ := s.settlePulses_own f cut
  rw [own]
  simp only [List.all_eq_true, bne_iff_ne, List.any_eq_false, List.mem_filter, beq_iff_eq, and_imp] at fresh ⊢
  exact fun q mem _ => fresh q mem

/-- What an active edge of an output at `g` leaves: the edge noted, its pulse among the output's, and nothing of it waiting. -/
def State.Edged (s : State) (f : Nat) (g : Int) (t : State) : Prop :=
  (t.firefly f).lastEdge = some s.now ∧ (t.firefly f).realignWait = 0 ∧
    (s.nat (0x6200 + f) 0x01 ≠ 5 → { tb := s.nat (0x6200 + f) 0x02, start := g, stop := g + nsUnits (s.nat (0x6200 + f) 0x06),
                                     gridded := true } ∈ (t.firefly f).pulses)

theorem State.activeEdge_edged {g : Int} (fresh : (s.firefly f).pulses.all (fun q => q.start != g) = true) :
    s.Edged f g (s.activeEdge f g) ∧ s.Drives f (s.activeEdge f g) ∧ (s.activeEdge f g).regs = s.regs := by
  rw [s.activeEdge_fresh f (s.settlePulses_fresh f false fresh)]
  refine ⟨?_, (s.settlePulses_drives f false).setFirefly _, rfl⟩
  unfold State.Edged
  rw [State.firefly_setFirefly_same]
  refine ⟨rfl, rfl, fun plain => List.mem_append_right _ ?_⟩
  rw [show (s.settlePulses f false).edgePulses f g = _ from if_neg plain]
  exact List.mem_singleton_self _

theorem State.Edged.of_drives {f : Nat} {s t u : State} {g : Int} (moved : s.Drives f t) (edged : t.Edged f g u) : s.Edged f g u := by
  unfold State.Edged at *
  rwa [moved.own (j := 0x01) (by decide), moved.own (j := 0x02) (by decide), moved.own (j := 0x06) (by decide), moved.frame.now rfl] at edged

/-- The active edge of an output that has been restarted. -/
theorem State.Drives.edged {f : Nat} {s u : State} (moved : s.Drives f u) (quiet : (u.firefly f).pulses = []) (g : Int) :
    s.Edged f g (u.activeEdge f g) ∧ s.Drives f (u.activeEdge f g) ∧ (u.activeEdge f g).regs = u.regs := by
  obtain ⟨edged, drives, regs⟩ := State.activeEdge_edged f u (g := g) (by rw [quiet]; rfl)
  exact ⟨edged.of_drives moved, moved.trans drives, regs⟩

end Outputs

/-- A whole number of ns on a grid is congruent to one of its instants. -/
theorem onGrid_iff {interval k : Nat} {n : Int} (positive : 0 < interval) (grid : onGrid interval k n = true) :
    ∃ j, j < k ∧ n % (interval : Int) = ((j * interval / k : Nat) : Int) := by
  unfold onGrid at grid
  obtain ⟨below, same⟩ := of_decide_eq_true grid
  exact ⟨_, below, by rw [same, Int.toNat_of_nonneg (Int.emod_nonneg _ (by omega))]⟩

/-- A grid instant is a whole number of ns on the grid, moved by the offset. -/
theorem State.gridInstant_onGrid {s : State} {f : Nat} {e g : Int} (at_ : s.gridInstant f e = some g) :
    ∃ n : Int, g = n * 65536 + s.reg (0x6200 + f) 0x05 ∧ onGrid (s.nat (0x6200 + f) 0x03) (s.nat (0x6200 + f) 0x04) n = true := by
  unfold State.gridInstant at at_
  extract_lets i k offset x first at at_
  obtain ⟨n, head, rfl⟩ := Option.map_eq_some_iff.mp at_
  have mem := List.mem_of_mem_head? (Option.mem_def.mpr head)
  obtain ⟨-, both⟩ := List.mem_filter.mp mem
  exact ⟨n, rfl, (Bool.and_eq_true_iff.mp both).2⟩

theorem State.gridInstant_congruent {s : State} {f : Nat} {e g : Int} (at_ : s.gridInstant f e = some g) (positive : 0 < s.nat (0x6200 + f) 0x03) :
    (g - s.reg (0x6200 + f) 0x05) % 65536 = 0 ∧ ∃ j, j < s.nat (0x6200 + f) 0x04 ∧
      ((g - s.reg (0x6200 + f) 0x05) / 65536) % (s.nat (0x6200 + f) 0x03 : Int) = ((j * s.nat (0x6200 + f) 0x03 / s.nat (0x6200 + f) 0x04 : Nat) : Int) := by
  obtain ⟨n, rfl, grid⟩ := State.gridInstant_onGrid at_
  rw [Int.add_sub_cancel, Int.mul_emod_left, Int.mul_ediv_cancel _ (by decide)]
  exact ⟨rfl, onGrid_iff positive grid⟩

/-- The grid instant of an output that is aligned, and of one that restarts. -/
theorem exec_fireflyGridInstant {f : FireflyId} {s : State} {g : Int} (mode : gridMode (s.nat (0x6200 + f) 0x01) = true)
    (on : s.nat (0x6200 + f) 0x11 ≠ 0) (safe : s.isSafe = false) (runs : (s.tb (s.nat (0x6200 + f) 0x02)).running = true)
    (set : (s.firefly f).waitsUnset = false) (free : (s.firefly f).stoppedBySet = false)
    (at_ : s.gridInstant f (if (s.firefly f).realignWait = 1 then 0 else s.alignError f) = some g) :
    exec (.fireflyGridInstant f) s = .next (if (s.firefly f).realignWait = 0 then s.activeEdge f g
      else if !(s.settlePulses f false).halfPeriodOver f then s.settlePulses f false
      else ((s.settlePulses f false).restartGrid f (if (s.firefly f).realignWait = 1 then 0 else s.alignError f)
        (if (if (s.firefly f).realignWait = 1 then 0 else s.alignError f) = 0 then 2 else 4)).activeEdge f g) := by
  change execFireflyGridInstant f s = _
  unfold execFireflyGridInstant State.fireflyState
  dsimp only
  rw [if_neg (by simp [mode, on, safe, runs, set, free]), at_]

theorem exec_realignImmediate {role : Role} {f : FireflyId} {s : State} (admitted : s.admits role (0x6200 + f) 0x0F)
    (mode : gridMode (s.nat (0x6200 + f) 0x01) = true) (set : (s.firefly f).waitsUnset = false) :
    exec (.realignImmediate role f) s = .next (((s.settleSlew f false).settlePulses f true).setFirefly f
      { ((s.settleSlew f false).settlePulses f true).firefly f with stoppedBySet := false, realignWait := 1 }).done := by
  change execRealignImmediate role f s = _
  unfold execRealignImmediate
  rw [State.hostWrite_admitted admitted, if_neg (by simp [mode, set])]

/-- What a slewed realign does. -/
def State.slewBack (s : State) (f : Nat) : State :=
  if (s.firefly f).stoppedBySet then s.setFirefly f { s.firefly f with stoppedBySet := false, realignWait := 2 }
  else if s.alignError f = 0 then s
  else ((s.settleSlew f false).setFirefly f { (s.settleSlew f false).firefly f with realignWait := 0, slewSince := some (s.settleSlew f false).now }).setNat
    (0x6200 + f) 0x11 4

theorem exec_realignSlewed {role : Role} {f : FireflyId} {s : State} (admitted : s.admits role (0x6200 + f) 0x0F)
    (mode : gridMode (s.nat (0x6200 + f) 0x01) = true) (set : (s.firefly f).waitsUnset = false) :
    exec (.realignSlewed role f) s = .next (s.slewBack f).done := by
  change execRealignSlewed role f s = _
  unfold execRealignSlewed State.slewBack
  rw [State.hostWrite_admitted admitted]
  dsimp only
  rw [if_neg (by simp [mode, set])]
  split_ifs <;> rfl

theorem exec_slewComplete {f : FireflyId} {s : State} (slews : s.nat (0x6200 + f) 0x11 = 4) (awake : (s.firefly f).realignWait = 0)
    (over_ : s.alignError f = 0) : exec (.slewComplete f) s = .next ((s.settleSlew f false).setNat (0x6200 + f) 0x11 2) :=
  congrArg _ (if_pos ⟨slews, awake, over_⟩)

/-- The first clause: an active edge of an aligned output, or of one that restarts. -/
theorem fireflyGridInstant_edge (f : FireflyId) (s : State) {g e : Int} (error : e = if (s.firefly f).realignWait = 1 then 0 else s.alignError f)
    (due : (if (s.firefly f).realignWait = 0 then (s.firefly f).pulses.all (fun q => q.start != g)
      else (s.settlePulses f false).halfPeriodOver f) = true) :
    let t := if (s.firefly f).realignWait = 0 then s.activeEdge f g
      else if !(s.settlePulses f false).halfPeriodOver f then s.settlePulses f false
      else ((s.settlePulses f false).restartGrid f e (if e = 0 then 2 else 4)).activeEdge f g
    s.Edged f g t ∧ s.Drives f t ∧ ((s.firefly f).realignWait = 1 → t.nat (0x6200 + f) 0x11 = 2 ∧ t.reg (0x6200 + f) 0x0E = 0) := by
  extract_lets t
  by_cases aligned : (s.firefly f).realignWait = 0
  · rw [if_pos aligned] at due
    have run : t = s.activeEdge f g := if_pos aligned
    obtain ⟨edged, drives, -⟩ := s.activeEdge_edged f due
    rw [run]
    exact ⟨edged, drives, fun waits => absurd (aligned.symm.trans waits) (by decide)⟩
  · rw [if_neg aligned] at due
    have run : t = ((s.settlePulses f false).restartGrid f e (if e = 0 then 2 else 4)).activeEdge f g :=
      (if_neg aligned).trans (if_neg (by simp [due]))
    obtain ⟨quiet, e', st⟩ := State.restartGrid_own f (s.settlePulses f false) e (if e = 0 then 2 else 4)
    have moved := (State.settlePulses_drives f s false).trans (State.restartGrid_drives f _ e (if e = 0 then 2 else 4))
    rw [run]
    generalize (s.settlePulses f false).restartGrid f e (if e = 0 then 2 else 4) = u at *
    obtain ⟨edged, drives, regs⟩ := moved.edged quiet g
    refine ⟨edged, drives, fun waits => ?_⟩
    have zero : e = 0 := by rw [error, if_pos waits]
    rw [State.nat_of_regs regs, State.reg_of_regs regs, st, e', if_pos zero]
    exact ⟨rfl, zero⟩

/-- Settles O28: each of an output's acts moves its own items alone, and its instants are those of the grid. -/
theorem fireflyFollowsItsGrid : Obligations.FireflyFollowsItsGrid := by
  unfold Obligations.FireflyFollowsItsGrid
  refine ⟨fun f s mode on safe runs set free g at_ due => ?_, fun role f s admitted mode set => ⟨?_, ?_⟩, fun f s slews awake over_ => ?_⟩
  · obtain ⟨⟨last, awake, pulse⟩, drives, aligned⟩ := fireflyGridInstant_edge f s rfl due
    exact .of (exec_fireflyGridInstant mode on safe runs set free at_) ⟨last, awake, pulse, State.gridInstant_congruent at_, aligned, drives.others,
      drives.frame, drives.entries⟩
  · have settled := s.settleSlew_drives f false
    have cut := (s.settleSlew f false).settlePulses_drives f true
    obtain ⟨last, own⟩ := (s.settleSlew f false).settlePulses_own f true
    have moved := (settled.trans cut).setFirefly { ((s.settleSlew f false).settlePulses f true).firefly f with stoppedBySet := false, realignWait := 1 }
    have read := State.firefly_setFirefly_same ((s.settleSlew f false).settlePulses f true) f
      { ((s.settleSlew f false).settlePulses f true).firefly f with stoppedBySet := false, realignWait := 1 }
    have slew : (((s.settleSlew f false).settlePulses f true).firefly f).slewSince = none := by rw [own, State.settleSlew_own]; rfl
    refine .of (exec_realignImmediate admitted mode set) ⟨rfl, congrArg _ read, congrArg FireflyX.realignWait read,
      (congrArg FireflyX.slewSince read).trans slew, s.settleSlew_error f false, moved.others, ?_, moved.done⟩
    exact ((SameEntries.refl _ s).setReg (by decide) ⟨rfl, rfl⟩).of_regs rfl
  · refine .of (exec_realignSlewed admitted mode set) ⟨rfl, ?_, fun stopped => ?_, fun going moves => ?_, ?_⟩
    · change ((s.slewBack f).firefly f).stoppedBySet = false
      unfold State.slewBack
      split_ifs with stopped zero
      · rw [State.firefly_setFirefly_same]
      · simpa using stopped
      · have going : (s.firefly f).stoppedBySet = false := by simpa using stopped
        change (((s.settleSlew f false).setFirefly f _).firefly f).stoppedBySet = false
        rw [State.firefly_setFirefly_same, State.settleSlew_own]
        exact going
    · change ((s.slewBack f).firefly f).realignWait = 2
      unfold State.slewBack
      rw [if_pos stopped, State.firefly_setFirefly_same]
    · change (s.slewBack f).nat _ _ = 4 ∧ ((s.slewBack f).firefly f).realignWait = 0 ∧ (s.slewBack f).reg _ _ = _ ∧
        ((s.slewBack f).firefly f).slewSince = some s.now
      have run : s.slewBack f = ((s.settleSlew f false).setFirefly f
          { (s.settleSlew f false).firefly f with realignWait := 0, slewSince := some (s.settleSlew f false).now }).setNat (0x6200 + f) 0x11 4 :=
        (if_neg (by simp [going])).trans (if_neg moves)
      have read := State.firefly_setFirefly_same (s.settleSlew f false) f
        { (s.settleSlew f false).firefly f with realignWait := 0, slewSince := some (s.settleSlew f false).now }
      rw [run]
      refine ⟨by simp, congrArg FireflyX.realignWait read, ?_, congrArg FireflyX.slewSince read⟩
      rw [State.setNat, State.reg_setReg_at _ _ (by decide) (by decide), if_neg (by omega), State.reg_setFirefly, State.settleSlew_error]
    · have slewed : s.Drives f (s.slewBack f) :=
        have set := State.Drives.setFirefly (State.Drives.refl f.val s) { s.firefly f with stoppedBySet := false, realignWait := 2 }
        by
          unfold State.slewBack
          split_ifs
          · exact set
          · exact .refl _ s
          · exact ((s.settleSlew_drives f false).setFirefly _).setReg _ (.inr rfl)
      exact slewed.entries.of_regs rfl
  · have moved := (s.settleSlew_drives f false).setReg 2 (.inr rfl)
    refine .of (exec_slewComplete slews awake over_) ⟨?_, by simp, congrArg FireflyX.slewSince (s.settleSlew_own f false), moved.entries, moved.frame⟩
    rw [State.setNat, State.reg_setReg_at _ _ (by decide) (by decide), if_neg (by omega), State.settleSlew_error, over_]

end Sys2Proof.Machine

namespace Sys2Proof.Machine

/-! ## Captures and their ring (09 R249 to R251) -/

/-- Every record moves the sequence on. -/
theorem State.ringPush_seq (s : State) (r : CaptureRecord) : (s.ringPush r).ringSeq = (s.ringSeq + 1) % 256 := by
  unfold State.ringPush
  extract_lets l u
  split <;> rfl

section Edges
variable (s : State) (e : Nat) (rising : Bool) (agePs : Nat)

/-- The hub ps of an edge so long ago. -/
def State.edgePs : Int := (s.now : Int) * 1000 - agePs

/-- An edge lies within 200 ns of the last captured one. -/
def State.captureClose : Bool :=
  match (s.capture e).last with
  | none => false
  | some t => decide (s.edgePs agePs < t + 200000)

/-- The record of an edge. -/
def State.captureRecord : CaptureRecord :=
  let k := s.nat (0x6300 + e) 0x03
  let (jump, epoch, set_) := s.jumpAfter k (s.edgePs agePs)
  let age := (agePs : Int) * (10 ^ 12 + s.rate k) * 65536 / 10 ^ 15
  let t := (s.tbNow k : Int) - jump - age - s.reg (0x6300 + e) 0x06 * 65536 / 1000
  ⟨(s.edgePs agePs / 1000).toNat, e, s.recordFlags k rising false false (!set_), epoch, t.toNat⟩

/-- The capture noted and counted, its record still to come. -/
def State.noteCapture : State :=
  (s.setCapture e { s.capture e with edges := 0, last := some (s.edgePs agePs) }).inc64 (0x6300 + e) 0x07

/-- The edge that the prescaler lets through: a capture, or an overrun. -/
def State.captureNow : State :=
  if s.captureClose e agePs then (s.setCapture e { s.capture e with edges := 0 }).inc64 (0x6300 + e) 0x08
  else (s.noteCapture e agePs).ringPush (s.captureRecord e rising agePs)

theorem State.noteCapture_own : (s.noteCapture e agePs).capture e = { s.capture e with edges := 0, last := some (s.edgePs agePs) } :=
  ((State.inc64_only _ _ _ (.refl partRegs _) rfl).capture_kept rfl e).trans (s.capture_setCapture_same e _)

theorem State.noteCapture_only : Only (partRegs ||| partCaptures) s (s.noteCapture e agePs) :=
  State.inc64_only _ _ _ (State.setCapture_only s e _ (.refl (partRegs ||| partCaptures) s) rfl) rfl

end Edges

/-- An edge that is enabled, selected and long enough. -/
theorem exec_captureEdge {e : CaptureId} {rising : Bool} {heldNs agePs : Nat} {s : State} (on : s.flag (0x6300 + e) 0x01 = true)
    (safe : s.isSafe = false) (runs : (s.tb (s.nat (0x6300 + e) 0x03)).running = true)
    (selected : (s.nat (0x6300 + e) 0x02).testBit (if rising then 0 else 1) = true) (held : s.nat (0x6300 + e) 0x04 ≤ heldNs) :
    exec (.captureEdge e rising heldNs agePs) s = .next (
      if (s.capture e).edges + 1 < s.nat (0x6300 + e) 0x05 then s.setCapture e { s.capture e with edges := (s.capture e).edges + 1 }
      else s.captureNow e rising agePs) := by
  change execCaptureEdge e rising heldNs agePs s = _
  unfold execCaptureEdge
  dsimp only
  rw [if_neg (by simp [on, safe, runs]), if_neg (by rw [selected]; simpa using held)]
  unfold State.captureNow State.noteCapture State.captureRecord State.captureClose State.edgePs
  rfl

theorem exec_resetRing {role : Role} {s : State} (admitted : s.admits role 0x6380 0x05) :
    exec (.resetRing role) s = .next ({ s with ring := [], rewind := 0 } : State).done := congrArg _ (State.hostWrite_admitted admitted _)

/-- Settles O29: an edge that passes the prescaler is a capture or an overrun, and its record enters a ring with room or a full one. -/
theorem capturesFillTheRing : Obligations.CapturesFillTheRing := by
  unfold Obligations.CapturesFillTheRing
  refine ⟨fun e rising heldNs agePs s on safe runs selected held => .of (exec_captureEdge on safe runs selected held) ⟨fun few => ?_, fun many => ⟨?_, ?_⟩⟩,
    fun role s admitted => .of (exec_resetRing admitted) ⟨rfl, rfl, rfl, rfl, ?_⟩⟩
  · rw [if_pos few]
    exact ⟨rfl, State.capture_setCapture_same .., State.setCapture_only s e _ (.refl partCaptures s) rfl⟩
  · intro first
    have own := s.noteCapture_own e agePs
    have only := s.noteCapture_only e agePs
    have count : (s.noteCapture e agePs).nat (0x6300 + e) 0x07 = min (s.nat (0x6300 + e) 0x07 + 1) (2 ^ 64 - 1) := State.nat_inc64_of rfl
    have lost : (s.noteCapture e agePs).nat 0x6380 0x04 = s.nat 0x6380 0x04 :=
      ((SameEntries.refl (fun i _ => i = 0x6300 + e.val) s).of_regs rfl |>.setReg (by decide) rfl).nat (by decide) (by omega)
    have pushed : s.captureNow e rising agePs = (s.noteCapture e agePs).ringPush (s.captureRecord e rising agePs) :=
      if_neg (by simp [State.captureClose, first])
    rw [if_neg (by omega), pushed]
    have frame := State.ringPush_only (s.noteCapture e agePs) (s.captureRecord e rising agePs) (.refl 0x1c00000000002 _) rfl
    have entries := (s.noteCapture e agePs).ringPush_same (s.captureRecord e rising agePs)
    have ring : (s.noteCapture e agePs).ring = s.ring := only.ring rfl
    refine ⟨?_, ?_, ?_, ?_, fun room => ?_, fun full => ?_⟩
    · rw [frame.capture_kept rfl, own]; rfl
    · rw [frame.capture_kept rfl, own]
    · rw [entries.nat (by decide) (by omega), count]
    · have next : (s.noteCapture e agePs).ringSeq = s.ringSeq := only.ringSeq rfl
      rw [← next]
      exact State.ringPush_seq ..
    · rw [State.ringPush_room (by rw [ring]; exact room)]
      exact ⟨(insertRecord_length ..).trans (congrArg (·.length + 1) ring), only.rewind rfl, _, mem_insertRecord .., rfl, rfl⟩
    · rw [State.ringPush_full (by rw [ring]; exact full)]
      refine ⟨?_, congrArg (fun n => min (n + 1) (2 ^ 32 - 1)) (only.rewind rfl), State.nat_inc64_of lost⟩
      change ((insertRecord _ (s.noteCapture e agePs).ring).drop 1).length = 4096
      rw [List.length_drop, insertRecord_length, ring, full]
  · intro t0 last close
    have run : s.captureNow e rising agePs = (s.setCapture e { s.capture e with edges := 0 }).inc64 (0x6300 + e) 0x08 :=
      if_pos (by unfold State.captureClose; rw [last]; exact decide_eq_true close)
    rw [if_neg (by omega), run]
    exact ⟨rfl, State.nat_inc64_of rfl⟩
  · exact State.done_only _ (Only.upd_ring_rewind [] 0 (.refl _ s) rfl) rfl

end Sys2Proof.Machine

namespace Sys2Proof.Machine

-- The kernel evaluates the runs below one after another: side by side, each holds a thread while it waits for the declarations before it.
set_option Elab.async false

/-! ## Replicas of the time bases (10 R256; 12 R324)

After a change-over a message moves the fine phases of TB0 to TB7, while the statement asks it of the time base that the marker names, whatever its
number. -/

/-- Line 0 follows a change-over, and its marker names a time base 8, of which it holds a copy and from which it was 1 ps off. -/
def markerOfTimeBase8 : State :=
  { State.reset with replicas := [(0, { status := 1, copies := [(8, some {})], marker := some (8, 1), rephase := true })] }

/-- The message leaves the fine phase of that copy. -/
theorem markerOfTimeBase8_message :
    ∃ t, exec (.timeLineMessage 0) markerOfTimeBase8 = .next t ∧ ((t.replica 0).copy 8).map (·.fine) = some 0 :=
  ⟨_, rfl, by decide +kernel⟩

/-- Refutes O30: in `markerOfTimeBase8` the message after a change-over moves the fine phases of TB0 to TB7 and not that of the copy that its marker
names. No line has such a marker, which the statement does not exclude. -/
theorem not_replicasFollowTheirLines : ¬ Obligations.ReplicasFollowTheirLines := by
  unfold Obligations.ReplicasFollowTheirLines
  rintro ⟨-, -, message, -⟩
  obtain ⟨t, run, fine⟩ := markerOfTimeBase8_message
  obtain ⟨u, again, -, -, -, -, phases, -⟩ := message 0 markerOfTimeBase8 (by decide +kernel) (by decide +kernel) 8 1 (by decide +kernel)
  obtain rfl : t = u := Host.Outcome.next.inj (run.symm.trans again)
  obtain ⟨-, -, moved⟩ := phases (by decide +kernel) {} (by decide +kernel) (by decide +kernel)
  obtain ⟨x, copy, values⟩ := Option.map_eq_some_iff.mp moved
  rw [show ((0 : Fin 32).val) = 0 from rfl] at copy
  rw [copy] at fine
  exact absurd ((Option.some.inj fine).symm.trans (congrArg (fun v : Nat × Int × Int => v.2.1) values)) (by decide)

end Sys2Proof.Machine

namespace Sys2Proof.Machine

/-! ## The timing of a port (10 R273 to R279)

Judging a port writes its state, its status and its causes; what the tracker has taken in stays, and a port that does not calibrate is not touched by
the choice of references. -/

section Timing
variable (s : State) (p q : Nat)

/-- What the tracker has taken in: the results, their count and the instant of the last. -/
def TimingX.taken (x : TimingX) : List Int × Nat × Option Nat := (x.results, x.count, x.lastResult)

/-- A write to a port's timing that leaves what its tracker has taken. -/
theorem State.taken_setTim {s : State} {p : Nat} {x : TimingX} (same : x.taken = (s.tim p).taken) (q : Nat) :
    ((s.setTim p x).tim q).taken = (s.tim q).taken := by
  rw [State.tim_setTim]
  split_ifs with own
  · exact own ▸ same
  · rfl

theorem State.putTiming_taken (st causes : Nat) : ((s.putTiming p st causes).tim q).taken = (s.tim q).taken := by
  unfold State.putTiming
  extract_lets w shown w' w'' u
  exact State.taken_setTim (x := { u.tim p with causes := causes }) rfl q

theorem State.putTiming_tim (st causes : Nat) : (s.putTiming p st causes).tim q = if p = q then { s.tim p with causes := causes } else s.tim q :=
  State.tim_setTim ((s.setNat (0x2400 + p) 0x01 st).setNat (0x2400 + p) 0x02 _) p { s.tim p with causes := causes } q

theorem State.putTiming_state (st causes : Nat) : (s.putTiming p st causes).nat (0x2400 + p) 0x01 = st := by
  unfold State.putTiming State.setNat
  simp

/-- The status bits that do not follow the timing state. -/
theorem State.putTiming_bit (st causes : Nat) {b : Nat} (apart : b = 1 ∨ b = 3 ∨ 8 ≤ b) :
    (s.putTiming p st causes).bit (0x2400 + p) 0x02 b = s.bit (0x2400 + p) 0x02 b := by
  unfold State.putTiming
  extract_lets w shown w' w'' u
  change u.bit (0x2400 + p) 0x02 b = _
  rw [State.bit_setNat, if_pos rfl, testBit_setBit, if_neg (by omega), testBit_setBit, if_neg (by omega), testBit_putField, if_neg (by omega)]
  rfl

theorem State.noteUnverified_bit {b : Nat} (apart : b ≠ 10) : (s.noteUnverified p).bit (0x2400 + p) 0x02 b = s.bit (0x2400 + p) 0x02 b := by
  have raised := (State.raise_only (s.putBit (0x2400 + p) 0x02 10 true) (6 * p + 3) 0 (.refl 0x140000000000000000 _) rfl).nat_kept rfl (0x2400 + p) 0x02
  refine (congrArg (Nat.testBit · b) raised).trans ?_
  simp [testBit_setBit, apart]

theorem State.noteUnverified_reg {j : Nat} (hj : j < 256) (apart : j ≠ 0x02) : (s.noteUnverified p).reg (0x2400 + p) j = s.reg (0x2400 + p) j := by
  have raised := (State.raise_only (s.putBit (0x2400 + p) 0x02 10 true) (6 * p + 3) 0 (.refl 0x140000000000000000 _) rfl).reg_kept rfl (0x2400 + p) j
  exact raised.trans ((State.reg_setReg_at _ _ (by decide) hj).trans (if_neg (by omega)))

theorem State.noteUnverified_tim : (s.noteUnverified p).tim q = s.tim q :=
  (State.noteUnverified_only s p (.refl 0x140000000000000002 s) rfl).tim_kept rfl q

theorem State.noteUnverified_same : SameEntries (fun i j => i = 0x2400 + p ∧ (j = 0x01 ∨ j = 0x02)) s (s.noteUnverified p) :=
  ((SameEntries.refl _ s).setReg (by decide) ⟨rfl, .inr rfl⟩).of_regs
    ((State.raise_only _ _ _ (.refl 0x140000000000000000 _) rfl).regs rfl)

theorem State.abandonAsymmetry_taken : ((s.abandonAsymmetry p).tim q).taken = (s.tim q).taken := by
  unfold State.abandonAsymmetry
  extract_lets x u v
  have hv : (v.tim q).taken = (s.tim q).taken := State.taken_setTim (x := { x with calibrating := false, offsets := [] }) rfl q
  have put : ∀ st c, ((v.putTiming p st c).tim q).taken = (s.tim q).taken := fun st c => (v.putTiming_taken p q st c).trans hv
  split_ifs
  · rfl
  · exact hv
  · exact put _ _
  · exact put _ _
  · exact put _ _

/-- The timing of another port is left. -/
theorem State.abandonAsymmetry_others {p q : Nat} (apart : q ≠ p) : (s.abandonAsymmetry p).tim q = s.tim q := by
  unfold State.abandonAsymmetry
  extract_lets x u v
  have hv : v.tim q = s.tim q := (s.tim_setTim p _ q).trans (if_neg (Ne.symm apart))
  have put : ∀ st c, (v.putTiming p st c).tim q = s.tim q := fun st c => ((v.putTiming_tim p q st c).trans (if_neg (Ne.symm apart))).trans hv
  split_ifs
  · rfl
  · exact hv
  · exact put _ _
  · exact put _ _
  · exact put _ _

theorem State.judgeAsymmetry_taken : ((s.judgeAsymmetry p).tim q).taken = (s.tim q).taken := by
  unfold State.judgeAsymmetry
  split_ifs
  · exact s.abandonAsymmetry_taken p q
  · rfl

theorem State.tim_chooseRefs : s.chooseRefs.tim q = s.tim q := by
  unfold State.tim
  rw [s.chooseRefs_selects.timing]

theorem State.refsUpdate_taken : (s.refsUpdate.tim q).taken = (s.tim q).taken := by
  rw [State.refsUpdate_eq, ← s.tim_chooseRefs q]
  exact List.foldlRecOn (motive := fun a : State => (a.tim q).taken = (s.chooseRefs.tim q).taken) _ _ rfl
    fun (a : State) same p _ => (a.judgeAsymmetry_taken p q).trans same

/-- A view of a port's timing that sees neither its causes nor whether it was verified stays as the causes change. -/
theorem State.setCauses_view {α : Type} (view : TimingX → α) (blind : ∀ x c w, view { x with causes := c, wasVerified := w } = view x) (causes : Nat) :
    view ((s.setCauses p causes).tim q) = view (s.tim q) := by
  have put : ∀ st c, view ((s.putTiming p st c).tim q) = view (s.tim q) := fun st c => by
    rw [State.putTiming_tim]
    split_ifs with own
    · exact own ▸ blind (s.tim p) c (s.tim p).wasVerified
    · rfl
  have note : ∀ (u : State) w, view (u.tim q) = view (s.tim q) → view ((u.setTim p { u.tim p with wasVerified := w }).tim q) = view (s.tim q) :=
    fun u w same => by
      rw [State.tim_setTim]
      split_ifs with own
      · exact (blind (u.tim p) (u.tim p).causes w).trans (own ▸ same)
      · exact same
  unfold State.setCauses
  extract_lets st
  split_ifs
  · exact put _ _
  · unfold State.calibratingCauses
    extract_lets u x
    split_ifs
    · rw [State.noteUnverified_tim]; exact note u false (put _ _)
    · exact put _ _
    · exact note u _ (put _ _)
  · unfold State.enterUnverified
    extract_lets was
    split_ifs
    · exact put _ _
    · rw [State.noteUnverified_tim]; exact put _ _
  · exact put _ _
  · exact put _ _
  · exact put _ _

theorem State.putCause_taken (c : Nat) (on : Bool) : ((s.putCause p c on).tim q).taken = (s.tim q).taken :=
  s.setCauses_view p q TimingX.taken (fun _ _ _ => rfl) _

theorem State.setCauses_same (causes : Nat) : SameEntries (fun i j => i = 0x2400 + p ∧ (j = 0x01 ∨ j = 0x02)) s (s.setCauses p causes) := by
  have put : ∀ st c, SameEntries (fun i j => i = 0x2400 + p ∧ (j = 0x01 ∨ j = 0x02)) s (s.putTiming p st c) := s.putTiming_same p
  unfold State.setCauses
  extract_lets st
  refine .ite (put _ _) (.ite ?_ (.ite ?_ (.ite (.ite (put _ _) (put _ _)) (put _ _))))
  · unfold State.calibratingCauses
    extract_lets u
    exact .ite (.ite (((put 4 causes).of_regs rfl).trans (State.noteUnverified_same _ p)) (put _ _)) ((put 4 causes).of_regs rfl)
  · unfold State.enterUnverified
    extract_lets was
    exact .ite (put _ _) ((put 3 causes).trans (State.noteUnverified_same _ p))

/-- A port that does not calibrate keeps its timing through the choice of references. -/
theorem State.refsUpdate_idle {p : Nat} (hp : p < 96) (idle : (s.tim p).calibrating = false) :
    s.refsUpdate.tim p = s.tim p ∧ ∀ j, j < 256 → s.refsUpdate.reg (0x2400 + p) j = s.reg (0x2400 + p) j := by
  have chosen : s.chooseRefs.tim p = s.tim p ∧ ∀ j, j < 256 → s.chooseRefs.reg (0x2400 + p) j = s.reg (0x2400 + p) j :=
    ⟨s.tim_chooseRefs p, fun j hj => s.chooseRefs_selects.entries _ j hj (by unfold selectorEntry servoEntry; omega)⟩
  refine List.foldlRecOn (motive := fun a : State => a.tim p = s.tim p ∧ ∀ j, j < 256 → a.reg (0x2400 + p) j = s.reg (0x2400 + p) j) _ _ chosen
    fun (a : State) kept q _ => ?_
  obtain ⟨tim, entries⟩ := kept
  by_cases own : q = p
  · rw [own, State.judgeAsymmetry, if_neg (by simp [tim, idle])]
    exact ⟨tim, entries⟩
  · refine ⟨Eq.trans ?_ tim, fun j hj => (a.judgeAsymmetry_same q _ j hj (by omega)).trans (entries j hj)⟩
    unfold State.judgeAsymmetry
    split_ifs
    · exact a.abandonAsymmetry_others (Ne.symm own)
    · rfl

end Timing

/-! ## The delay tracker (10 R273) -/

section Tracker
variable (s : State) (p : Nat) (m : Int)

/-- A result within its range is among the last eight. -/
def State.addResult : State :=
  s.setTim p { s.tim p with results := (m :: (s.tim p).results).take 8, count := min 8 ((s.tim p).count + 1), lastResult := some s.now }

theorem State.takeDelay_out {s : State} {p : Nat} {m : Int} (out : m < 0 ∨ 2000000000 < m) :
    s.takeDelay p m = (s.inc32 (0x2400 + p) 0x15).putBit (0x2400 + p) 0x02 9 true := if_pos out

theorem State.takeDelay_in {s : State} {p : Nat} {m : Int} (low : 0 ≤ m) (high : m ≤ 2000000000) (synt : s.portSynt p = true) :
    s.takeDelay p m = if (s.tim p).count < 7 then s.addResult p m
      else (s.addResult p m).track p (median8 ((m :: (s.tim p).results).take 8)) (s.now - (s.tim p).lastResult.getD s.now) := by
  unfold State.takeDelay
  rw [if_neg (by omega), if_neg (by simp [synt])]
  have own : (s.addResult p m).tim p = _ := State.tim_setTim_same ..
  have now : (s.addResult p m).delayS p =
      if min 8 ((s.tim p).count + 1) < 8 then none else some (median8 ((m :: (s.tim p).results).take 8)) := by
    unfold State.delayS
    rw [own]
  change (match (s.addResult p m).delayS p with
    | none => s.addResult p m
    | some v => (s.addResult p m).track p v (s.now - (s.tim p).lastResult.getD s.now)) = _
  rw [now]
  by_cases few : (s.tim p).count < 7
  · rw [if_pos few, if_pos (by omega)]
  · rw [if_neg few, if_neg (by omega)]

theorem exec_delayResult {p : PortId} {x : Exchange} {s : State} : exec (.delayResult p x) s =
    .next (match x.sync with
      | some y => if 0 ≤ meanPath x ∧ meanPath x ≤ 2000000000 then (s.takeDelay p (meanPath x)).takeSync p (meanPath x) y else s.takeDelay p (meanPath x)
      | none => s.takeDelay p (meanPath x)) := rfl

theorem State.addResult_taken (q : Nat) : (q ≠ p → (s.addResult p m).tim q = s.tim q) ∧
    ((s.addResult p m).tim p).taken = ((m :: (s.tim p).results).take 8, min 8 ((s.tim p).count + 1), some s.now) := by
  unfold State.addResult
  exact ⟨fun apart => (s.tim_setTim p _ q).trans (if_neg (Ne.symm apart)), congrArg TimingX.taken (s.tim_setTim_same p _)⟩

theorem State.moveBaseline_same (since : Nat) : SameEntries (fun i j => i = 0x2400 + p ∧ j = 0x0D) s (s.moveBaseline p m since) :=
  (SameEntries.refl _ s).setReg (by decide) ⟨rfl, rfl⟩

theorem State.track_taken (since q : Nat) : ((s.track p m since).tim q).taken = (s.tim q).taken := by
  have stepped : ∀ d, ((s.delayStep p d).tim q).taken = (s.tim q).taken := fun _ => rfl
  unfold State.track
  extract_lets i st threshold d b d'
  split_ifs
  · rw [State.refsUpdate_taken, State.putCause_taken, State.abandonAsymmetry_taken, stepped]
  · rfl
  · rfl
  · rw [State.refsUpdate_taken, State.putCause_taken]
  · rw [State.refsUpdate_taken, State.putCause_taken, stepped]
  · rw [State.refsUpdate_taken, State.putTiming_taken]; rfl
  · rfl

/-- A verified port with a baseline, of which a result is judged. -/
theorem State.track_verified {s : State} {p : Nat} {m : Int} {since : Nat} (verified : s.nat (0x2400 + p) 0x01 = 2)
    (idle : (s.tim p).calibrating = false) (baseline : s.flag (0x2400 + p) 0x0D = true) :
    s.track p m since = if s.nat (0x2400 + p) 0x0E < (m - s.reg (0x2400 + p) 0x0D).natAbs
      then ((s.delayStep p (m - s.reg (0x2400 + p) 0x0D)).putCause p 2 true).refsUpdate else s.moveBaseline p m since := by
  unfold State.track
  extract_lets i st threshold d b d'
  rw [if_neg (by simp [idle]), if_neg (by simp [st, i, verified]), if_neg (by simp [i, baseline])]
  exact if_congr Iff.rfl rfl (if_neg (by simp [st, i, verified]))

/-- A delay step takes a verified port to state 3, is noted and counted, and leaves the baseline. -/
theorem State.delayStep_unverifies {s : State} {p : Nat} (hp : p < 96) (d : Int) (verified : s.nat (0x2400 + p) 0x01 = 2)
    (idle : (s.tim p).calibrating = false) :
    let t := ((s.delayStep p d).putCause p 2 true).refsUpdate
    t.nat (0x2400 + p) 0x01 = 3 ∧ t.bit (0x2400 + p) 0x02 11 = true ∧
      t.nat (0x2400 + p) 0x17 = min (s.nat (0x2400 + p) 0x17 + 1) (2 ^ 32 - 1) ∧ t.reg (0x2400 + p) 0x0D = s.reg (0x2400 + p) 0x0D := by
  extract_lets t
  have stands : setBit (s.tim p).causes 2 true ≠ 0 := fun zero => by
    have bit := testBit_setBit (s.tim p).causes 2 true 2
    rw [zero] at bit
    rw [if_pos rfl] at bit
    exact absurd bit (by decide)
  have verified' : (s.delayStep p d).nat (0x2400 + p) 0x01 = 2 := by
    unfold State.delayStep State.inc32 State.addSat State.putBit State.setNat
    simpa using verified
  obtain ⟨u, hu⟩ : ∃ u, u = (s.delayStep p d).putTiming p 3 (setBit (s.tim p).causes 2 true) := ⟨_, rfl⟩
  have entered : (s.delayStep p d).putCause p 2 true = u.noteUnverified p := by
    unfold State.putCause State.setCauses State.enterUnverified
    rw [hu]
    dsimp only
    rw [if_neg (by simp [verified']), if_neg (by simp [verified']), if_pos (show setBit ((s.delayStep p d).tim p).causes 2 true ≠ 0 from stands),
      if_neg (by simp [verified'])]
    rfl
  have calm : ((u.noteUnverified p).tim p).calibrating = false := by
    rw [State.noteUnverified_tim, hu]
    exact (congrArg TimingX.calibrating (State.tim_setTim_same ..)).trans idle
  obtain ⟨-, kept⟩ := (u.noteUnverified p).refsUpdate_idle hp calm
  have read : ∀ j, j < 256 → t.reg (0x2400 + p) j = (u.noteUnverified p).reg (0x2400 + p) j := fun j hj => by
    rw [← kept j hj]
    exact congrArg (fun v : State => v.refsUpdate.reg (0x2400 + p) j) entered
  have readNat : ∀ j, j < 256 → t.nat (0x2400 + p) j = (u.noteUnverified p).nat (0x2400 + p) j := fun j hj => congrArg Int.toNat (read j hj)
  have put : ∀ j, j < 256 → j ≠ 0x01 → j ≠ 0x02 → u.reg (0x2400 + p) j = (s.delayStep p d).reg (0x2400 + p) j := fun j hj h1 h2 => by
    rw [hu]
    exact State.putTiming_same _ p _ _ _ j hj (by omega)
  refine ⟨?_, ?_, ?_, ?_⟩
  · rw [readNat 0x01 (by decide), State.nat, State.noteUnverified_reg _ p (by decide) (by decide), hu]
    exact State.putTiming_state ..
  · change (t.nat (0x2400 + p) 0x02).testBit 11 = true
    rw [readNat 0x02 (by decide), State.testBit_nat, State.noteUnverified_bit _ p (by decide), hu, State.putTiming_bit _ p _ _ (by decide)]
    simp [State.delayStep, testBit_setBit]
  · rw [readNat 0x17 (by decide), State.nat, State.noteUnverified_reg _ p (by decide) (by decide), put 0x17 (by decide) (by decide) (by decide)]
    unfold State.delayStep State.inc32 State.addSat State.putBit State.setNat
    simp
    omega
  · rw [read 0x0D (by decide), State.noteUnverified_reg _ p (by decide) (by decide), put 0x0D (by decide) (by decide) (by decide)]
    unfold State.delayStep State.inc32 State.addSat State.putBit State.setNat
    simp

/-- The baseline moves no farther than the tracking rate allows. -/
theorem State.moveBaseline_within (since : Nat) : ((s.moveBaseline p m since).reg (0x2400 + p) 0x0D - s.reg (0x2400 + p) 0x0D).natAbs ≤
    s.nat (0x2400 + p) 0x0F * since / 1000000000 := by
  unfold State.moveBaseline
  extract_lets b most
  rw [State.reg_setReg_at _ _ (by decide) (by decide), if_pos ⟨rfl, rfl⟩]
  have bound : most = ((s.nat (0x2400 + p) 0x0F * since / 1000000000 : Nat) : Int) := rfl
  omega

/-! ### The Sync that comes with an exchange (10 R276) -/

variable (y : SyncTimes)

/-- The offset of a Sync is that of every slot that the port carries. -/
def State.feedSlots (p : Nat) (tb : TbId) (offset : Int) (s : State) : State :=
  (items 8).foldl (fun a n => if a.slotPort n = some p then a.slotOffsetSeen tb n offset else a) s

theorem State.takeSync_eq : s.takeSync p m y =
    let offset := s.syncOffset p m y.t1 y.t2 y.correction
    let s := s.recordApparent p y.tb offset
    if s.portVerified p then (s.feedSlots p y.tb offset).refsUpdate else s := rfl

theorem State.slotPort_of_same {s t : State} {K : Nat → Nat → Prop} (same : SameEntries K s t) (n : Nat) (source : ¬K (0x7000 + n) 0x01)
    (ports : ∀ j, ¬K 0x7030 j) : t.slotPort n = s.slotPort n := by
  unfold State.slotPort
  dsimp only
  rw [same.nat (by decide) source]
  by_cases line : 16 ≤ s.nat (0x7000 + n) 0x01 ∧ s.nat (0x7000 + n) 0x01 < 32
  · rw [if_pos line, if_pos line, same.nat (by omega) (ports _)]
  · rw [if_neg line, if_neg line]

theorem State.slotOffsetSeen_reg (tb : TbId) {n : Nat} (offset : Int) (hn : n < 8) : (s.slotOffsetSeen tb n offset).reg (0x7020 + tb) (0x18 + n) = offset ∧
    ∀ j, j < 256 → j ≠ 0x18 + n → j ≠ 0x08 → j ≠ 0x10 + n → (s.slotOffsetSeen tb n offset).reg (0x7020 + tb) j = s.reg (0x7020 + tb) j := by
  have judged := s.slotOffsetSeen_judged tb n offset hn
  refine ⟨?_, fun j hj h1 h2 h3 => ?_⟩
  · rw [judged _ _ (by omega) (by unfold slotJudgedEntry; omega), State.reg_setReg_at _ _ (by omega) (by omega), if_pos ⟨rfl, rfl⟩]
  · rw [judged _ _ hj (by unfold slotJudgedEntry; omega), State.reg_setReg_at _ _ (by omega) hj, if_neg (by omega)]

theorem State.slotOffsetSeen_slotPort (tb : TbId) {n : Nat} (offset : Int) (hn : n < 8) (k : Nat) (hk : k < 8) :
    (s.slotOffsetSeen tb n offset).slotPort k = s.slotPort k := by
  have htb := tb.isLt
  have same : SameEntries (fun i j => i = 0x7020 + tb.val ∧ (j = 0x08 ∨ j = 0x10 + n ∨ j = 0x18 + n)) s (s.slotOffsetSeen tb n offset) :=
    ((SameEntries.refl _ s).setReg (by omega) ⟨rfl, .inr (.inr rfl)⟩).trans
      ((s.slotOffsetSeen_judged tb n offset hn).mono fun i j h => by unfold slotJudgedEntry at h; omega)
  exact State.slotPort_of_same same k (by omega) (by omega)

theorem State.feedSlots_reg {s : State} {p n : Nat} (tb : TbId) (offset : Int) (hn : n < 8) (carried : s.slotPort n = some p) :
    (s.feedSlots p tb offset).reg (0x7020 + tb) (0x18 + n) = offset := by
  refine foldl_attains (Before := fun a : State => a.slotPort n = some p) (After := fun a : State => a.reg (0x7020 + tb.val) (0x18 + n) = offset)
    (List.mem_range.mpr hn) (fun a own => ?_) (fun a k mem own => ?_) (fun a k mem seen => ?_) carried
  · rw [if_pos own]
    exact (a.slotOffsetSeen_reg tb offset hn).1
  · have hk := List.mem_range.mp mem
    split_ifs
    · rw [a.slotOffsetSeen_slotPort tb offset hk n hn]; exact own
    · exact own
  · have hk := List.mem_range.mp mem
    split_ifs
    · by_cases same : k = n
      · rw [same]; exact (a.slotOffsetSeen_reg tb offset hn).1
      · rw [(a.slotOffsetSeen_reg tb offset hk).2 _ (by omega) (by omega) (by omega) (by omega)]; exact seen
    · exact seen

theorem State.recordApparent_taken (k : Nat) (offset : Int) (q : Nat) : ((s.recordApparent p k offset).tim q).taken = (s.tim q).taken := by
  unfold State.recordApparent
  extract_lets x
  split_ifs
  · exact State.taken_setTim (x := { x with offsets := x.offsets ++ [offset * 1000 / 65536] }) rfl q
  · rfl

theorem State.recordApparent_regs (k : Nat) (offset : Int) : (s.recordApparent p k offset).regs = s.regs := by
  unfold State.recordApparent
  extract_lets x
  split_ifs <;> rfl

theorem State.feedSlots_tim (tb : TbId) (offset : Int) (q : Nat) : (s.feedSlots p tb offset).tim q = s.tim q := by
  have frame : Only 0x10040000000002 s (s.feedSlots p tb offset) :=
    .foldl (.refl _ s) fun a n => .ite (State.slotOffsetSeen_only a tb n offset (.refl 0x10040000000002 a) rfl) (.refl _ a)
  exact frame.tim_kept rfl q

theorem State.takeSync_taken (q : Nat) : ((s.takeSync p m y).tim q).taken = (s.tim q).taken := by
  rw [State.takeSync_eq]
  extract_lets offset u
  have recorded : (u.tim q).taken = (s.tim q).taken := s.recordApparent_taken p y.tb offset q
  split_ifs
  · rw [State.refsUpdate_taken, State.feedSlots_tim]; exact recorded
  · exact recorded

/-- What a port's calibration records stands where its verified port would feed the slots. -/
theorem State.takeSync_cases : s.takeSync p m y =
    if s.portVerified p then ((s.recordApparent p y.tb (s.syncOffset p m y.t1 y.t2 y.correction)).feedSlots p y.tb
      (s.syncOffset p m y.t1 y.t2 y.correction)).refsUpdate
    else s.recordApparent p y.tb (s.syncOffset p m y.t1 y.t2 y.correction) := by
  have verified : (s.recordApparent p y.tb (s.syncOffset p m y.t1 y.t2 y.correction)).portVerified p = s.portVerified p :=
    congrArg (· == 2) (State.nat_of_regs (s.recordApparent_regs p y.tb _) _ _)
  rw [← verified]
  exact s.takeSync_eq p m y

theorem State.recordApparent_own {s : State} {p k : Nat} (calibrates : (s.tim p).calibrating = true) (against : s.nat (0x2400 + p) 0x12 = k)
    (offset : Int) : ((s.recordApparent p k offset).tim p).offsets = (s.tim p).offsets ++ [offset * 1000 / 65536] := by
  unfold State.recordApparent
  dsimp only
  rw [if_pos ⟨calibrates, against⟩, State.tim_setTim_same]

end Tracker

/-- Settles O31: a result is out of range or joins the last eight; from the eighth on it is judged, and a Sync that came with it feeds the slots. -/
theorem delayTrackerJudgesResults : Obligations.DelayTrackerJudgesResults := by
  unfold Obligations.DelayTrackerJudgesResults
  refine ⟨fun p x s out => ?_, fun p x y s m mean low high sync synt few => ?_, fun p x s m mean low high none_ synt => ?_⟩
  · have run : exec (.delayResult p x) s = .next ((s.inc32 (0x2400 + p) 0x15).putBit (0x2400 + p) 0x02 9 true) := by
      rw [exec_delayResult, State.takeDelay_out out]
      split
      · rw [if_neg (by omega)]
      · rfl
    refine .of run ⟨?_, by simp [testBit_setBit], ((SameEntries.refl _ s).setReg (by decide) ⟨rfl, .inr rfl⟩).setReg (by decide) ⟨rfl, .inl rfl⟩,
      State.putBit_only _ _ _ _ _ (State.inc32_only s _ _ (.refl partRegs s) rfl) rfl⟩
    unfold State.inc32 State.addSat State.putBit State.setNat
    simp
    omega
  · have run : exec (.delayResult p x) s = .next ((s.addResult p m).takeSync p m y) := by
      rw [exec_delayResult, mean, sync, State.takeDelay_in low high synt, if_pos few]
      dsimp only
      rw [if_pos ⟨low, high⟩]
    have taken := ((s.addResult p m).takeSync_taken p m y p).trans (s.addResult_taken p m p).2
    have own : (s.addResult p m).tim p = _ := State.tim_setTim_same ..
    have verified : (s.addResult p m).portVerified p = s.portVerified p := rfl
    have regs : ∀ offset, ((s.addResult p m).recordApparent p y.tb offset).regs = s.regs := fun offset => State.recordApparent_regs _ p y.tb offset
    refine .of run ⟨congrArg Prod.fst taken, fun calibrates against free => ?_, fun sound n hn carried => ?_, fun free => ?_⟩
    · rw [State.takeSync_cases, if_neg (by rw [verified, free]; decide),
        State.recordApparent_own (s := s.addResult p m) (by rw [own]; exact calibrates) against, own]
      rfl
    · have carried' : ((s.addResult p m).recordApparent p y.tb ((s.addResult p m).syncOffset p m y.t1 y.t2 y.correction)).slotPort n = some p.val := by
        rw [← carried]
        exact State.slotPort_of_same (K := fun _ _ => False) ((SameEntries.refl _ s).of_regs (regs _)) n id (fun _ => id)
      rw [State.takeSync_cases, if_pos (by rw [verified, sound]),
        State.refsUpdate_entries _ _ _ (by omega) (by unfold selectorEntry servoEntry timingEntry; omega), State.feedSlots_reg y.tb _ hn carried']
      rfl
    · rw [State.takeSync_cases, if_neg (by rw [verified, free]; decide)]
      exact regs _
  · have run : exec (.delayResult p x) s = .next (s.takeDelay p m) := by rw [exec_delayResult, mean, none_]
    have own : (s.addResult p m).tim p = _ := State.tim_setTim_same ..
    obtain ⟨t, ht⟩ : ∃ t, t = s.takeDelay p m := ⟨_, rfl⟩
    have judged := ht.trans (State.takeDelay_in low high synt)
    have taken : ∀ q, (t.tim q).taken = ((s.addResult p m).tim q).taken := fun q => by
      rw [judged]
      split_ifs
      · rfl
      · exact State.track_taken ..
    have mine := (taken p).trans (s.addResult_taken p m p).2
    rw [← ht] at run
    refine .of run ⟨congrArg Prod.fst mine, congrArg (·.2.1) mine, congrArg (·.2.2) mine, fun q apart => ?_, fun few => ?_, fun eighth verified idle baseline => ?_⟩
    · exact (congrArg Prod.fst (taken q)).trans (congrArg TimingX.results ((s.addResult_taken p m q).1 apart))
    · rw [judged, if_pos few]; rfl
    · rw [if_neg (by omega), State.track_verified (s := s.addResult p m) verified (by rw [own]; exact idle) baseline] at judged
      refine ⟨fun beyond => ?_, fun within => ?_⟩
      · rw [judged.trans (if_pos beyond)]
        exact State.delayStep_unverifies (s := s.addResult p m) p.isLt _ verified (by rw [own]; exact idle)
      · have same := (s.addResult p m).moveBaseline_same p (median8 ((m :: (s.tim p).results).take 8)) (s.now - (s.tim p).lastResult.getD s.now)
        rw [judged.trans (if_neg (not_lt.mpr within))]
        exact ⟨(same.nat (by decide) (by omega)).trans verified, (s.addResult p m).moveBaseline_within p _ _,
          fun i j hj apart => same i j hj apart⟩

end Sys2Proof.Machine

namespace Sys2Proof.Machine

/-! ## The timing commands (10 R277 to R279) -/

section Commands
variable {s : State} {p : Nat}

/-- A calibration that is abandoned ends: no offset and no proposal of it stays, and the port leaves state 4. -/
theorem State.abandonAsymmetry_ends (calibrates : (s.tim p).calibrating = true) :
    ((s.abandonAsymmetry p).tim p).calibrating = false ∧ ((s.abandonAsymmetry p).tim p).offsets = [] ∧
      (s.abandonAsymmetry p).bit (0x2400 + p) 0x02 1 = false ∧
      (s.nat (0x2400 + p) 0x01 = 4 → (s.abandonAsymmetry p).nat (0x2400 + p) 0x01 ≠ 4) := by
  unfold State.abandonAsymmetry
  extract_lets x u v
  have own : v.tim p = { x with calibrating := false, offsets := [] } := s.tim_setTim_same p _
  have bit : v.bit (0x2400 + p) 0x02 1 = false := by
    refine (State.bit_setNat ..).trans ((if_pos rfl).trans ((testBit_setBit ..).trans (if_pos rfl)))
  have state : v.nat (0x2400 + p) 0x01 = s.nat (0x2400 + p) 0x01 := (State.nat_setReg_at _ _ (by decide) (by decide)).trans (if_neg (by omega))
  have put : ∀ st c, st ≠ 4 → ((v.putTiming p st c).tim p).calibrating = false ∧ ((v.putTiming p st c).tim p).offsets = [] ∧
      (v.putTiming p st c).bit (0x2400 + p) 0x02 1 = false ∧ (s.nat (0x2400 + p) 0x01 = 4 → (v.putTiming p st c).nat (0x2400 + p) 0x01 ≠ 4) :=
    fun st c other => by
      rw [State.putTiming_tim, if_pos rfl, own, State.putTiming_bit _ _ _ _ (by decide), State.putTiming_state]
      exact ⟨rfl, rfl, bit, fun _ => other⟩
  rw [if_neg (by simp [x, calibrates])]
  split_ifs with elsewhere stands was
  · exact ⟨by rw [own], by rw [own], bit, fun four => absurd (state.trans four) elsewhere⟩
  · exact put _ _ (by decide)
  · exact put _ _ (by decide)
  · exact put _ _ (by decide)

theorem State.abandonAsymmetry_idle (idle : (s.tim p).calibrating = false) : s.abandonAsymmetry p = s := if_pos (by simp [idle])

theorem State.abandonAsymmetry_calm (s : State) (p : Nat) : ((s.abandonAsymmetry p).tim p).calibrating = false := by
  cases calibrates : (s.tim p).calibrating with
  | false => rw [State.abandonAsymmetry_idle calibrates]; exact calibrates
  | true => exact (State.abandonAsymmetry_ends calibrates).1

/-- What an idle port's entries read after the choice of references. -/
theorem State.refsUpdate_idle_nat (hp : p < 96) (idle : (s.tim p).calibrating = false) {j : Nat} (hj : j < 256) :
    s.refsUpdate.nat (0x2400 + p) j = s.nat (0x2400 + p) j := congrArg Int.toNat ((s.refsUpdate_idle hp idle).2 j hj)

theorem State.refsUpdate_idle_bit (hp : p < 96) (idle : (s.tim p).calibrating = false) {j : Nat} (hj : j < 256) (b : Nat) :
    s.refsUpdate.bit (0x2400 + p) j b = s.bit (0x2400 + p) j b := congrArg (Nat.testBit · b) (State.refsUpdate_idle_nat hp idle hj)

/-! ### Commands 1 and 2 -/

/-- The causes that stand after a baseline has been accepted. -/
def acceptedCauses (causes : Nat) : Nat := setBit (setBit causes 1 false) 2 false

/-- The timing of a port whose baseline is accepted. -/
def State.judgeAccepted (s : State) (p c : Nat) : State := if c = 0 then s.putTiming p 2 0 else s.setCauses p c

theorem State.acceptBaseline_eq (s : State) (p : Nat) (m : Int) : s.acceptBaseline p m =
    ((s.setReg (0x2400 + p) 0x0D m).judgeAccepted p (acceptedCauses (s.tim p).causes)).refsUpdate := rfl

theorem State.judgeAccepted_same (s : State) (p c : Nat) :
    SameEntries (fun i j => i = 0x2400 + p ∧ (j = 0x01 ∨ j = 0x02)) s (s.judgeAccepted p c) := .ite (s.putTiming_same p 2 0) (s.setCauses_same p c)

theorem State.judgeAccepted_calibrating (s : State) (p c : Nat) : ((s.judgeAccepted p c).tim p).calibrating = (s.tim p).calibrating := by
  unfold State.judgeAccepted
  split_ifs
  · rw [State.putTiming_tim, if_pos rfl]
  · exact s.setCauses_view p p TimingX.calibrating (fun _ _ _ => rfl) c

/-- The causes of a port that change leave the proposal. -/
theorem State.setCauses_proposal (s : State) (p c : Nat) : (s.setCauses p c).bit (0x2400 + p) 0x02 1 = s.bit (0x2400 + p) 0x02 1 := by
  have put : ∀ st c, (s.putTiming p st c).bit (0x2400 + p) 0x02 1 = s.bit (0x2400 + p) 0x02 1 := fun st c => s.putTiming_bit p st c (by decide)
  unfold State.setCauses
  extract_lets st
  split_ifs
  · exact put _ _
  · unfold State.calibratingCauses
    extract_lets u x
    split_ifs
    · exact (State.noteUnverified_bit _ p (by decide)).trans (put 4 c)
    · exact put _ _
    · exact put 4 c
  · unfold State.enterUnverified
    extract_lets was
    split_ifs
    · exact put _ _
    · exact (State.noteUnverified_bit _ p (by decide)).trans (put 3 c)
  · exact put _ _
  · exact put _ _
  · exact put _ _

theorem State.judgeAccepted_proposal (s : State) (p c : Nat) : (s.judgeAccepted p c).bit (0x2400 + p) 0x02 1 = s.bit (0x2400 + p) 0x02 1 := by
  unfold State.judgeAccepted
  split_ifs
  · exact s.putTiming_bit p _ _ (by decide)
  · exact s.setCauses_proposal p c

/-- What an accepted baseline leaves at a port that does not calibrate. -/
theorem State.acceptBaseline_idle (hp : p < 96) (idle : (s.tim p).calibrating = false) (m : Int) :
    (s.acceptBaseline p m).reg (0x2400 + p) 0x0D = m ∧
      (∀ j, j < 256 → j ≠ 0x01 → j ≠ 0x02 → j ≠ 0x0D → (s.acceptBaseline p m).reg (0x2400 + p) j = s.reg (0x2400 + p) j) ∧
      (s.acceptBaseline p m).bit (0x2400 + p) 0x02 1 = s.bit (0x2400 + p) 0x02 1 ∧
      (acceptedCauses (s.tim p).causes = 0 → (s.acceptBaseline p m).nat (0x2400 + p) 0x01 = 2) := by
  have calm : (((s.setReg (0x2400 + p) 0x0D m).judgeAccepted p (acceptedCauses (s.tim p).causes)).tim p).calibrating = false :=
    (State.judgeAccepted_calibrating ..).trans idle
  have same := (s.setReg (0x2400 + p) 0x0D m).judgeAccepted_same p (acceptedCauses (s.tim p).causes)
  obtain ⟨-, kept⟩ := State.refsUpdate_idle _ hp calm
  rw [State.acceptBaseline_eq]
  refine ⟨?_, fun j hj h1 h2 h3 => ?_, ?_, fun none => ?_⟩
  · rw [kept _ (by decide), same _ _ (by decide) (by omega)]
    simp
  · rw [kept j hj, same _ _ hj (by omega), State.reg_setReg_at _ _ (by decide) hj, if_neg (by omega)]
  · rw [State.refsUpdate_idle_bit hp calm (by decide), State.judgeAccepted_proposal]
    simp
  · rw [State.refsUpdate_idle_nat hp calm (by decide), State.judgeAccepted, if_pos none, State.putTiming_state]

theorem acceptedCauses_zero {c : Nat} (h : c = 0 ∨ c = 2 ∨ c = 4) : acceptedCauses c = 0 := by
  rcases h with rfl | rfl | rfl <;> rfl

/-! ### Command 3 -/

/-- The port enters its calibration. -/
def State.enterCalibration (s : State) (p : Nat) (m : Int) : State :=
  let x := s.tim p
  let s := s.setTim p { x with
    calibrating := true, s0 := m, offsets := [], wasVerified := if x.calibrating then x.wasVerified else s.portVerified p }
  (s.putBit (0x2400 + p) 0x02 1 false).putTiming p 4 (s.tim p).causes

/-- A calibration that runs or has just been abandoned, by whether its time base follows a reference. -/
def State.Calibrates (p k : Nat) (m : Int) (s a : State) : Prop :=
  a.nat (0x2400 + p) 0x12 = k ∧ a.tbFollows k = s.tbFollows k ∧ (a.tim p).offsets = [] ∧ a.bit (0x2400 + p) 0x02 1 = false ∧
    (s.tbFollows k = true → (a.tim p).calibrating = true ∧ (a.tim p).s0 = m ∧ a.nat (0x2400 + p) 0x01 = 4)

theorem State.judgeAsymmetry_follows (a : State) {q : Nat} (hq : q < 96) (k : Nat) : (a.judgeAsymmetry q).tbFollows k = a.tbFollows k := by
  have read := (a.judgeAsymmetry_same q).nat (i := 0x6000 + k) (j := 0x04) (by decide) (by omega)
  unfold State.tbFollows State.servo
  rw [read]

theorem State.Calibrates.judge {k : Nat} {m : Int} {a : State} (runs : State.Calibrates p k m s a) {q : Nat} (hq : q < 96) :
    State.Calibrates p k m s (a.judgeAsymmetry q) := by
  obtain ⟨against, follows, offsets, proposal, going⟩ := runs
  have against' : (a.judgeAsymmetry q).nat (0x2400 + p) 0x12 = k := ((a.judgeAsymmetry_same q).nat (by decide) (by omega)).trans against
  have follows' := (a.judgeAsymmetry_follows hq k).trans follows
  by_cases own : q = p
  · subst own
    cases lost : (a.tim q).calibrating && !a.tbFollows k with
    | false =>
      have stays : a.judgeAsymmetry q = a := if_neg (by rw [against, lost]; decide)
      rw [stays]
      exact ⟨against, follows, offsets, proposal, going⟩
    | true =>
      obtain ⟨calibrates, free⟩ := Bool.and_eq_true_iff.mp lost
      have ends : a.judgeAsymmetry q = a.abandonAsymmetry q := if_pos (by rw [against]; exact lost)
      rw [ends] at against' follows' ⊢
      obtain ⟨-, none_, gone, -⟩ := State.abandonAsymmetry_ends calibrates
      exact ⟨against', follows', none_, gone, fun on => absurd (follows.trans on) (by simpa using free)⟩
  · have tim : (a.judgeAsymmetry q).tim p = a.tim p := by
      unfold State.judgeAsymmetry
      split_ifs
      · exact a.abandonAsymmetry_others (Ne.symm own)
      · rfl
    refine ⟨against', follows', by rw [tim]; exact offsets, ?_, fun on => ?_⟩
    · rw [(a.judgeAsymmetry_same q).bit 1 (by decide) (by omega)]; exact proposal
    · rw [tim, (a.judgeAsymmetry_same q).nat (by decide) (by omega)]; exact going on

/-- A calibration that is entered runs on where its time base follows a reference. -/
theorem State.enterCalibration_runs (hp : p < 96) (m : Int) :
    State.Calibrates p (s.nat (0x2400 + p) 0x12) m (s.enterCalibration p m).refsUpdate (s.enterCalibration p m).refsUpdate := by
  obtain ⟨u, hu⟩ : ∃ u, u = (s.enterCalibration p m).chooseRefs := ⟨_, rfl⟩
  have kept : ∀ j, j < 256 → u.reg (0x2400 + p) j = (s.enterCalibration p m).reg (0x2400 + p) j := fun j hj => by
    rw [hu]
    exact (State.chooseRefs_selects _).entries _ j hj (by unfold selectorEntry servoEntry; omega)
  have keptNat : ∀ j, j < 256 → u.nat (0x2400 + p) j = (s.enterCalibration p m).nat (0x2400 + p) j := fun j hj => congrArg Int.toNat (kept j hj)
  have tim : u.tim p = (s.enterCalibration p m).tim p := by rw [hu]; exact State.tim_chooseRefs ..
  have own : ((s.enterCalibration p m).tim p).offsets = [] ∧ ((s.enterCalibration p m).tim p).calibrating = true ∧
      ((s.enterCalibration p m).tim p).s0 = m := by
    unfold State.enterCalibration
    extract_lets x t
    rw [State.putTiming_tim, if_pos rfl]
    exact ⟨congrArg TimingX.offsets (s.tim_setTim_same p _), congrArg TimingX.calibrating (s.tim_setTim_same p _), congrArg TimingX.s0 (s.tim_setTim_same p _)⟩
  obtain ⟨none_, on, s0⟩ := own
  have state : (s.enterCalibration p m).nat (0x2400 + p) 0x01 = 4 := State.putTiming_state ..
  have proposal : (s.enterCalibration p m).bit (0x2400 + p) 0x02 1 = false := by
    unfold State.enterCalibration
    rw [State.putTiming_bit _ _ _ _ (by decide)]
    simp [testBit_setBit]
  have against : (s.enterCalibration p m).nat (0x2400 + p) 0x12 = s.nat (0x2400 + p) 0x12 := by
    unfold State.enterCalibration
    rw [(State.putTiming_same _ p _ _).nat (by decide) (by omega)]
    simp
  have start : State.Calibrates p (s.nat (0x2400 + p) 0x12) m u u :=
    ⟨(keptNat _ (by decide)).trans against, rfl, by rw [tim]; exact none_,
      (congrArg (Nat.testBit · 1) (keptNat 0x02 (by decide))).trans proposal,
      fun _ => ⟨by rw [tim]; exact on, by rw [tim]; exact s0, (keptNat _ (by decide)).trans state⟩⟩
  have ends : State.Calibrates p (s.nat (0x2400 + p) 0x12) m u (s.enterCalibration p m).refsUpdate := by
    rw [State.refsUpdate_eq, ← hu]
    exact List.foldlRecOn (motive := State.Calibrates p (s.nat (0x2400 + p) 0x12) m u) _ _ start fun a runs q mem => runs.judge (List.mem_range.mp mem)
  obtain ⟨against', follows, offsets, gone, going⟩ := ends
  exact ⟨against', rfl, offsets, gone, fun follows' => going (follows ▸ follows')⟩

end Commands

section Runs
variable {role : Role} {p : PortId} {s : State}

theorem exec_acceptPresentDelay (admitted : s.admits role (0x2400 + p) 0x10) : exec (.acceptPresentDelay role p) s = .next (
    match s.presentS p with
    | some m => if (s.tim p).calibrating then s.ruleRefused 0 else (s.acceptBaseline p m).done
    | none => s.ruleRefused 0) := congrArg _ (State.hostWrite_admitted admitted _)

/-- The proposed asymmetry is the host's, and the proposal is gone. -/
def State.takeProposal (s : State) (p : Nat) : State :=
  let s := (s.setReg (0x2400 + p) 0x04 (s.reg (0x2400 + p) 0x13)).setNat (0x2400 + p) 0x03 1
  s.putBit (0x2400 + p) 0x02 1 false

theorem exec_acceptProposal (admitted : s.admits role (0x2400 + p) 0x10) : exec (.acceptProposal role p) s = .next (
    match s.presentS p with
    | some m => if (s.tim p).calibrating || !s.bit (0x2400 + p) 0x02 1 then s.ruleRefused 0 else ((s.takeProposal p).acceptBaseline p m).done
    | none => s.ruleRefused 0) := congrArg _ (State.hostWrite_admitted admitted _)

theorem exec_calibrateAsymmetry (admitted : s.admits role (0x2400 + p) 0x10) : exec (.calibrateAsymmetry role p) s = .next (
    match s.presentS p with
    | some m => if !s.otherReference p then s.ruleRefused 0 else (s.enterCalibration p m).refsUpdate.done
    | none => s.ruleRefused 0) := by
  change execCalibrateAsymmetry role p s = _
  unfold execCalibrateAsymmetry State.enterCalibration
  refine congrArg _ ((State.hostWrite_admitted admitted _).trans ?_)
  cases s.presentS p <;> rfl

theorem exec_abortCalibration (admitted : s.admits role (0x2400 + p) 0x10) :
    exec (.abortCalibration role p) s = .next (s.abandonAsymmetry p).refsUpdate.done := by
  change execAbortCalibration role p s = _
  unfold execAbortCalibration
  rw [State.hostWrite_admitted admitted]

/-- The proposal of a calibration that has ended. -/
def State.propose (s : State) (p : Nat) (alpha : Int) (l : List Int) : State :=
  let s := s.setReg (0x2400 + p) 0x13 (max (-1000000000) (min 1000000000 (alpha - 2 * meanOf l)))
  (s.setNat (0x2400 + p) 0x14 (min (2 ^ 32 - 1) (twiceError l + 16))).putBit (0x2400 + p) 0x02 1 true

theorem exec_asymmetryCalibrationEnd (calibrates : (s.tim p).calibrating = true) : exec (.asymmetryCalibrationEnd p) s = .next (
    if (s.tim p).offsets.length < 16 then (s.abandonAsymmetry p).refsUpdate
    else ((s.abandonAsymmetry p).propose p (s.asymmetry p) (s.tim p).offsets).refsUpdate) := congrArg _ (if_neg (by simp [calibrates]))

theorem State.ruleRefused_frame (s : State) (reason : Nat) : (s.ruleRefused reason).lastStatus = 0x09 ∧
    Only (partLastStatus ||| partLastDetail) s (s.ruleRefused reason) := ⟨rfl, State.ruleRefused_only s reason (.refl (partLastStatus ||| partLastDetail) s) rfl⟩

theorem State.propose_reads (s : State) (p : Nat) (alpha : Int) (l : List Int) : (s.propose p alpha l).bit (0x2400 + p) 0x02 1 = true ∧
    (s.propose p alpha l).reg (0x2400 + p) 0x13 = max (-1000000000) (min 1000000000 (alpha - 2 * meanOf l)) ∧
    (s.propose p alpha l).nat (0x2400 + p) 0x14 = min (2 ^ 32 - 1) (twiceError l + 16) ∧
    (s.propose p alpha l).nat (0x2400 + p) 0x01 = s.nat (0x2400 + p) 0x01 := by
  unfold State.propose State.setNat
  refine ⟨?_, ?_, ?_, ?_⟩ <;> simp [testBit_setBit]
  omega

end Runs

/-- Settles O32: a command is refused where R278 refuses it; else it leaves its port idle, or in a calibration that the choice of references judges. -/
theorem timingCommandsActOnThePort : Obligations.TimingCommandsActOnThePort := by
  unfold Obligations.TimingCommandsActOnThePort
  refine ⟨fun role p s admitted => ⟨?_, ?_, ?_, ?_⟩, fun p s calibrates => ?_⟩
  · refine .of (exec_acceptPresentDelay admitted) ⟨fun refused => ?_, fun m present idle => ?_⟩
    · cases present : s.presentS p with
      | none => exact s.ruleRefused_frame 0
      | some m =>
        dsimp only
        rw [if_pos (refused.resolve_left (by simp [present]))]
        exact s.ruleRefused_frame 0
    · rw [present]
      dsimp only
      rw [if_neg (by simp [idle])]
      obtain ⟨baseline, -, -, verified⟩ := State.acceptBaseline_idle p.isLt idle m
      generalize s.acceptBaseline p m = t at *
      exact ⟨rfl, baseline, fun few => verified (acceptedCauses_zero few)⟩
  · refine .of (exec_acceptProposal admitted) ⟨fun refused => ?_, fun m present idle proposed => ?_⟩
    · cases present : s.presentS p with
      | none => exact s.ruleRefused_frame 0
      | some m =>
        dsimp only
        rw [if_pos (by rcases refused.resolve_left (by simp [present]) with h | h <;> simp [h])]
        exact s.ruleRefused_frame 0
    · rw [present]
      dsimp only
      rw [if_neg (by simp [idle, proposed])]
      obtain ⟨baseline, others, proposal, -⟩ := State.acceptBaseline_idle (s := s.takeProposal p) p.isLt idle m
      generalize (s.takeProposal p).acceptBaseline p m = t at *
      refine ⟨rfl, baseline, (others _ (by decide) (by decide) (by decide) (by decide)).trans ?_,
        (congrArg Int.toNat (others 0x03 (by decide) (by decide) (by decide) (by decide))).trans ?_, proposal.trans ?_⟩
      all_goals unfold State.takeProposal State.putBit State.setNat; simp [testBit_setBit]
  · refine .of (exec_calibrateAsymmetry admitted) ⟨fun refused => ?_, fun m present other => ?_⟩
    · cases present : s.presentS p with
      | none => exact s.ruleRefused_frame 0
      | some m =>
        dsimp only
        rw [if_pos (by simp [refused.resolve_left (by simp [present])])]
        exact s.ruleRefused_frame 0
    · rw [present]
      dsimp only
      rw [if_neg (by simp [other])]
      obtain ⟨-, -, offsets, proposal, going⟩ := State.enterCalibration_runs (s := s) p.isLt m
      generalize (s.enterCalibration p m).refsUpdate = t at *
      exact ⟨rfl, proposal, offsets, going⟩
  · have calm := s.abandonAsymmetry_calm p
    obtain ⟨tim, -⟩ := State.refsUpdate_idle _ p.isLt calm
    have state := State.refsUpdate_idle_nat p.isLt calm (j := 0x01) (by decide)
    have run := exec_abortCalibration admitted
    generalize (s.abandonAsymmetry p).refsUpdate = t at *
    refine .of run ⟨rfl, (congrArg TimingX.calibrating tim).trans calm, fun calibrates four => ?_⟩
    obtain ⟨-, -, -, left⟩ := State.abandonAsymmetry_ends calibrates
    exact state.symm ▸ left four
  · have calm := s.abandonAsymmetry_calm p
    obtain ⟨-, -, gone, left⟩ := State.abandonAsymmetry_ends calibrates
    obtain ⟨bit, proposal, error, state⟩ := (s.abandonAsymmetry p).propose_reads p (s.asymmetry p) (s.tim p).offsets
    have calm' : (((s.abandonAsymmetry p).propose p (s.asymmetry p) (s.tim p).offsets).tim p).calibrating = false := calm
    refine .of (exec_asymmetryCalibrationEnd calibrates) ⟨?_, fun enough => ?_, fun few => ?_, fun four => ?_⟩
    · split_ifs
      · exact (congrArg TimingX.calibrating (State.refsUpdate_idle _ p.isLt calm).1).trans calm
      · exact (congrArg TimingX.calibrating (State.refsUpdate_idle _ p.isLt calm').1).trans calm'
    · rw [if_neg (by omega), State.refsUpdate_idle_bit p.isLt calm' (by decide), (State.refsUpdate_idle _ p.isLt calm').2 _ (by decide),
        State.refsUpdate_idle_nat p.isLt calm' (by decide)]
      exact ⟨bit, proposal, error⟩
    · rw [if_pos few, State.refsUpdate_idle_bit p.isLt calm (by decide), (State.refsUpdate_idle _ p.isLt calm).2 _ (by decide)]
      exact ⟨gone, s.abandonAsymmetry_same p _ _ (by decide) (by omega)⟩
    · split_ifs
      · rw [State.refsUpdate_idle_nat p.isLt calm (by decide)]; exact left four
      · rw [State.refsUpdate_idle_nat p.isLt calm' (by decide), state]; exact left four

end Sys2Proof.Machine

namespace Sys2Proof.Machine

-- The kernel evaluates the runs below one after another: side by side, each holds a thread while it waits for the declarations before it.
set_option Elab.async false

/-! ## The hand-back of a detector (10 R265)

The hand-back frees the spare, which at once takes the lowest lane that is up and whose detector is fenced: where that is the very detector that is
handed back, the spare stays on its lane. -/

/-- Detector 0, which is fenced, is at its hand-back, with its lane up and its codes in the shadow. -/
def handedBackUnderFence : State :=
  { State.reset with
    regs := [(key 0x1000 0x08, 3), (key 0x2000 0x02, 6)]
    detectors := [(0, { phase := 3 })]
    trims := [(0, { timing := some (0, 0, 0, 0) })]
    fences := [(.detector, 0)] }

/-- As many differences of 0 as a comparison takes. -/
def zeroDifferences : List Nat := List.replicate 1024 0

/-- The spare is freed and takes lane 0 again. -/
theorem handedBackUnderFence_handback :
    ∃ t, exec (.detectorHandback 0 0 zeroDifferences zeroDifferences) handedBackUnderFence = .next t ∧ t.nat 0x2500 0x01 = 0 :=
  ⟨_, rfl, by decide +kernel⟩

/-- Refutes O33: in `handedBackUnderFence` the means agree and lane 0 is handed back, and the spare that this frees takes it again, since its detector is
fenced. A fence ends a detector's calibration, so that no run meets the two together, which the statement does not exclude. -/
theorem not_laneCalibrationGoesRound : ¬ Obligations.LaneCalibrationGoesRound := by
  unfold Obligations.LaneCalibrationGoesRound
  rintro ⟨-, -, -, -, -, handback⟩
  obtain ⟨t, run, served⟩ := handedBackUnderFence_handback
  obtain ⟨u, again, within, -, -⟩ := handback 0 0 zeroDifferences zeroDifferences handedBackUnderFence (by decide +kernel) (by decide +kernel)
    (by decide +kernel) 0 (by decide +kernel)
  obtain rfl : t = u := Host.Outcome.next.inj (run.symm.trans again)
  exact (within (by decide)).2 served

end Sys2Proof.Machine

namespace Sys2Proof.Machine

-- The kernel evaluates the runs below one after another: side by side, each holds a thread while it waits for the declarations before it.
set_option Elab.async false

/-! ## Candidates for time (11 R295, R299, R306)

A guard time that ends makes a candidate, and the choice that follows holds one beyond the step threshold; an unset time base chooses nothing, which
the choice reads from its servo state, while the statement reads it from the bit that says that it was set. -/

/-- Slot 0 is about to be a candidate for TB0, 2^24 ns off; TB0 shows free-running without the bit that it was set. -/
def freeRunningUnset : State :=
  { State.reset with
    regs := [(key 0x2100 0x03, 1), (key 0x2400 0x01, 2), (key 0x6000 0x03, 1), (key 0x6000 0x04, 2), (key 0x7000 0x01, 16), (key 0x7020 0x10, 1),
      (key 0x7020 0x18, 2 ^ 40), (key 0x7020 0x20, 0), (key 0x7030 0x01, 0)]
    slots := [(0, { fresh := 1, seen := 1 })] }

/-- The slot is held. -/
theorem freeRunningUnset_guardExpiry :
    ∃ t, exec (.candidateGuardExpiry 0 0) freeRunningUnset = .next t ∧ t.nat 0x7020 0x10 = 3 :=
  ⟨_, rfl, by decide +kernel⟩

/-- Refutes O34: in `freeRunningUnset` the slot becomes a candidate, as the statement has it, and the choice at once holds it. No run shows a servo state
other than unset without the bit that the time base was set, which the statement does not exclude. -/
theorem not_slotsQualifyForReference : ¬ Obligations.SlotsQualifyForReference := by
  unfold Obligations.SlotsQualifyForReference
  rintro ⟨-, -, guard, -⟩
  obtain ⟨t, run, held⟩ := freeRunningUnset_guardExpiry
  obtain ⟨u, again, candidate, -⟩ := guard 0 0 freeRunningUnset (by decide +kernel) (by decide +kernel)
  obtain rfl : t = u := Host.Outcome.next.inj (run.symm.trans again)
  rw [if_neg (by decide +kernel)] at candidate
  exact absurd (held.symm.trans candidate) (by decide)

end Sys2Proof.Machine

namespace Sys2Proof.Machine

/-! ## Quality and frequency (11 R291 to R303)

The choice of references has three parts: slots and disputes are judged, the frequency selector chooses, and what rests on the choice is judged. Only
the second writes the entries of the frequency selector. -/

section Parts
variable (s : State) (n k : Nat)

/-- Every slot and every dispute is judged. -/
def State.judgeRanks (s : State) : State :=
  let s := (items 8).foldl (fun a n => a.judgeSlot n) s
  let s := (items 8).foldl (fun a n => (items n).foldl (fun b m => b.judgeDispute m n) a) s
  (items 8).foldl State.noteCleared s

/-- What rests on the choice of a frequency is judged: what disputes show, and the time references. -/
def State.judgeTimes (s : State) : State :=
  let s := (items 8).foldl (fun a n => a.showDispute n) s
  (items 8).foldl (fun a k => ((items 8).foldl (fun b n => b.judgeCandidate k n) a).timeSelect k) s

theorem State.chooseRefs_eq : s.chooseRefs = s.judgeRanks.freqSelect.judgeTimes := rfl

/-! ### What is judged first -/

/-- The entries that show what is judged of slot `n`. -/
def shownEntry (n i j : Nat) : Prop := i = 0x7000 + n ∧ (j = 0x06 ∨ j = 0x07 ∨ j = 0x08)

theorem State.judgeSlot_same : SameEntries (shownEntry n) s (s.judgeSlot n) := by
  have own : ∀ j, j = 0x06 ∨ j = 0x07 ∨ j = 0x08 → shownEntry n (0x7000 + n) j := fun j hj => ⟨rfl, hj⟩
  unfold State.judgeSlot
  extract_lets i was present a x b ql c d st lost e
  have ha : SameEntries (shownEntry n) s a := (SameEntries.refl _ s).setReg (by decide) (own _ (by decide))
  have hb : SameEntries (shownEntry n) s b := .ite (((ha.setReg (by decide) (own _ (by decide))).setReg (by decide) (own _ (by decide))).of_regs rfl) ha
  have hc : SameEntries (shownEntry n) s c := .ite (hb.setReg (by decide) (own _ (by decide))) hb
  have hd : SameEntries (shownEntry n) s d := hc.setReg (by decide) (own _ (by decide))
  have he : SameEntries (shownEntry n) s e := hd.setReg (by decide) (own _ (by decide))
  exact .ite (he.of_regs ((State.raise_only e _ 0 (.refl 0x140000000000000000 e) rfl).regs rfl)) he

/-- A judged dispute shows only in a sticky bit of its slots. -/
theorem State.judgeDispute_bits (m : Nat) :
    SameEntries (fun i j => j = 0x08 ∧ (i = 0x7000 + n ∨ i = 0x7000 + m)) s (s.judgeDispute n m) ∧
      ∀ i b, b ≠ 5 → (s.judgeDispute n m).bit i 0x08 b = s.bit i 0x08 b := by
  have put : ∀ (u : State) k i b, b ≠ 5 → (u.putBit k 0x08 5 true).bit i 0x08 b = u.bit i 0x08 b := fun u k i b hb => by
    rw [State.putBit, State.bit_setNat]
    split_ifs with same
    · obtain ⟨rfl, -⟩ := (key_inj (by decide) (by decide)).mp same
      rw [testBit_setBit, if_neg hb, State.testBit_nat]
    · rfl
  unfold State.judgeDispute
  extract_lets stood may on x a y b
  have hb : b.regs = s.regs := rfl
  constructor
  · exact .ite (.refl _ s) (.ite ((((SameEntries.refl _ s).of_regs hb).setReg (by decide) ⟨rfl, .inl rfl⟩).setReg (by decide) ⟨rfl, .inr rfl⟩)
      ((SameEntries.refl _ s).of_regs hb))
  · intro i c hc
    split_ifs
    · rfl
    · rw [put _ _ _ _ hc, put _ _ _ _ hc]; rfl
    · rfl

theorem State.judgeSlot_ranks : Only 0x140010000000000002 s (s.judgeSlot n) := State.judgeSlot_only s n (.refl _ s) rfl

theorem State.judgeRanks_only : Only 0x140010000000000002 s s.judgeRanks := by
  unfold State.judgeRanks
  extract_lets a b
  have ha : Only 0x140010000000000002 s a := .foldl (.refl _ s) fun u n => u.judgeSlot_ranks n
  have hb : Only 0x140010000000000002 a b := .foldl (.refl _ a) fun u n => .foldl (.refl _ u) fun v m =>
    State.judgeDispute_only v m n (.refl 0x140010000000000002 v) rfl
  have hc : Only 0x140010000000000002 b ((items 8).foldl State.noteCleared b) := .foldl (.refl _ b) fun u n => State.noteCleared_only u n (.refl 0x140010000000000002 u) rfl
  exact (ha.step hb rfl).step hc rfl

theorem State.noteCleared_regs (l : List Nat) : (l.foldl State.noteCleared s).regs = s.regs :=
  (Only.foldl (.refl 0x10000000000000 s) fun u n => State.noteCleared_only u n (.refl 0x10000000000000 u) rfl).regs rfl

/-- What the judgement of disputes leaves. -/
theorem State.judgeDisputes_bits (s : State) (i b : Nat) (hb : b ≠ 5) :
    ((items 8).foldl (fun a n => (items n).foldl (fun b m => b.judgeDispute m n) a) s).bit i 0x08 b = s.bit i 0x08 b :=
  List.foldlRecOn (motive := fun a : State => a.bit i 0x08 b = s.bit i 0x08 b) _ _ rfl fun _ same n _ =>
    List.foldlRecOn (motive := fun a : State => a.bit i 0x08 b = s.bit i 0x08 b) _ _ same fun c same m _ => ((c.judgeDispute_bits m n).2 i b hb).trans same

theorem State.judgeDisputes_same : SameEntries (fun i j => 0x7000 ≤ i ∧ i < 0x7008 ∧ j = 0x08) s
    ((items 8).foldl (fun a n => (items n).foldl (fun b m => b.judgeDispute m n) a) s) :=
  .foldl _ fun a n hn => .foldl _ fun b m hm => (b.judgeDispute_bits m n).1.mono fun i j h => by
    have := List.mem_range.mp hn
    have := List.mem_range.mp hm
    omega

theorem State.judgeRanks_same : SameEntries (fun i j => 0x7000 ≤ i ∧ i < 0x7008 ∧ (j = 0x06 ∨ j = 0x07 ∨ j = 0x08)) s s.judgeRanks := by
  unfold State.judgeRanks
  extract_lets a b
  have ha : SameEntries (fun i j => 0x7000 ≤ i ∧ i < 0x7008 ∧ (j = 0x06 ∨ j = 0x07 ∨ j = 0x08)) s a := .foldl _ fun u n hn =>
    (u.judgeSlot_same n).mono fun i j h => by
      have := List.mem_range.mp hn
      unfold shownEntry at h
      omega
  exact (ha.trans (a.judgeDisputes_same.mono fun i j h => by omega)).of_regs (b.noteCleared_regs _)

/-! ### What is judged last -/

/-- The entries of what rests on the choice of a frequency. -/
def timesEntry (i j : Nat) : Prop := (0x7000 ≤ i ∧ i < 0x7008 ∧ j = 0x07) ∨ (0x6000 ≤ i ∧ i < 0x6008) ∨ 0x7020 ≤ i

theorem State.notice_same (cls : Nat) (payload : List Byte) : SameEntries timesEntry s (s.notice cls payload) := by
  refine .foldl _ fun a m _ => .ite ?_ (.refl _ a)
  unfold State.noticeTo
  extract_lets x fresh sent msg
  have sent : (if m = 0 then a else a.sendTo x.route msg).regs = a.regs := by
    split_ifs
    · rfl
    · exact (State.sendTo_only a x.route msg (.refl 0x100000000000000000040 a) rfl).regs rfl
  exact .ite ((SameEntries.refl _ a).of_regs sent) ((SameEntries.refl _ a).setReg (by decide) (by unfold timesEntry; omega))

variable {k}

theorem State.setServo_same (hk : k < 8) (v : Nat) : SameEntries timesEntry s (s.setServo k v) :=
  .ite (.refl _ s) (((SameEntries.refl _ s).setReg (by decide) (by unfold timesEntry; omega)).trans (State.notice_same _ 3 _))

theorem State.applySteering_regs (k : Nat) : (s.applySteering k).regs = s.regs := (State.applySteering_only s k (.refl 0x40000000000 s) rfl).regs rfl

theorem timesEntry_time (k j : Nat) : timesEntry (0x7020 + k) j := .inr (.inr (by omega))

theorem State.timeHoldover_same (hk : k < 8) : SameEntries timesEntry s (s.timeHoldover k) := by
  unfold State.timeHoldover
  extract_lets avg hi v a x b
  have hb : SameEntries timesEntry s b :=
    (((SameEntries.refl _ s).setReg (by decide) (timesEntry_time k _)).setReg (by decide) (timesEntry_time k _)).of_regs rfl
  exact (hb.of_regs (u := b.setSteering k v) ((State.setSteering_only b k v (.refl 0x40000000000 b) rfl).regs rfl)).trans (State.setServo_same _ hk 4)

theorem State.chooseTime_same (m : Nat) : SameEntries timesEntry s (s.chooseTime k m).1 := by
  induction m generalizing s with
  | zero => exact .refl _ s
  | succ m ih =>
    rw [State.chooseTime]
    split
    · exact .refl _ s
    next n chosen =>
      have hn := s.timeUsable_lt k (chooseSlot_mem chosen)
      split
      · exact ((SameEntries.refl _ s).setReg (by omega) (timesEntry_time k _)).trans (ih _)
      · exact .refl _ s

theorem State.timeSelect_same (hk : k < 8) : SameEntries timesEntry s (s.timeSelect k) := by
  unfold State.timeSelect
  extract_lets st cur
  refine .ite (.refl _ s) ?_
  have judged := s.chooseTime_same (k := k) 9
  generalize s.chooseTime k 9 = y at *
  obtain ⟨u, chosen⟩ := y
  refine judged.trans ?_
  dsimp -zeta only
  split
  · exact .ite (u.timeHoldover_same hk) (.refl _ u)
  next n _ =>
    extract_lets a x b
    have hb : SameEntries timesEntry u b :=
      (((SameEntries.refl _ u).setReg (by decide) (timesEntry_time k _)).setReg (by decide) (timesEntry_time k _)).of_regs rfl
    have hc := hb.setReg (v := (b.tb k).steering) (j := 0x08) (by decide) (timesEntry_time k _)
    exact .ite (.refl _ u) ((hc.trans (State.setServo_same _ hk 3)).of_regs (State.applySteering_regs _ k))

theorem State.judgeTimes_same : SameEntries timesEntry s s.judgeTimes := by
  unfold State.judgeTimes
  extract_lets a
  have ha : SameEntries timesEntry s a := .foldl _ fun u n hn => .ite ((SameEntries.refl _ u).setReg (by decide) (by
    have := List.mem_range.mp hn
    unfold timesEntry; omega)) (.refl _ u)
  refine ha.trans (.foldl _ fun u k hk => .trans (.foldl _ fun v n hn => ?_) (State.timeSelect_same _ (List.mem_range.mp hk)))
  have small := List.mem_range.mp hn
  have put : ∀ x, SameEntries timesEntry v (v.setNat (0x7020 + k) (0x10 + n) x) := fun x =>
    (SameEntries.refl _ v).setReg (by omega) (timesEntry_time k _)
  exact .ite (.ite (put 1) (.refl _ v)) (.ite (.refl _ v) (put 0))

theorem State.judgeTimes_only : Only 0x100000000040000000042 s s.judgeTimes := by
  unfold State.judgeTimes
  extract_lets a
  have ha : Only 0x100000000040000000042 s a := .foldl (.refl _ s) fun u n => State.showDispute_only u n (.refl 0x100000000040000000042 u) rfl
  have hb : Only 0x100000000040000000042 a ((items 8).foldl (fun a k => ((items 8).foldl (fun b n => b.judgeCandidate k n) a).timeSelect k) a) := .foldl (.refl _ a) fun u k =>
    State.timeSelect_only _ k (.foldl (l := items 8) (f := fun b n => b.judgeCandidate k n) (.refl 0x100000000040000000042 u) fun v n => State.judgeCandidate_only v k n (.refl 0x100000000040000000042 v) rfl) rfl
  exact ha.step hb rfl

end Parts

/-! ### The frequency selector -/

section Frequency
variable (s : State)

theorem State.setFrequency_regs (f : Int) : (s.setFrequency f).regs = s.regs :=
  (State.setFrequency_only s f (.refl 0x40040000000000 s) rfl).regs rfl

/-- Entry to holdover leaves no slot selected. -/
theorem State.freqHoldover_none : s.freqHoldover.nat 0x7010 0x01 = 0xFF := by
  have other : ∀ (u : State) (j : Nat) (v : Int), j < 256 → j ≠ 0x01 → (u.setReg 0x7010 j v).nat 0x7010 0x01 = u.nat 0x7010 0x01 := fun u j v hj ne => by
    rw [State.nat_setReg_at _ _ hj (by decide), if_neg fun h => ne h.2]
  have kept : ∀ (x : State) f, (x.setFrequency f).nat 0x7010 0x01 = x.nat 0x7010 0x01 := fun x f => State.nat_of_regs (x.setFrequency_regs f) _ _
  unfold State.freqHoldover
  extract_lets avg behind w a b v c d
  have hb : b.nat 0x7010 0x01 = 0xFF := (other _ 0x02 _ (by decide) (by decide)).trans (State.nat_setNat_same ..)
  have hc : c.nat 0x7010 0x01 = 0xFF := (other _ 0x09 _ (by decide) (by decide)).trans ((other b 0x08 v (by decide) (by decide)).trans hb)
  clear_value b c
  split
  · exact (kept { c with freqHeld := true, freqLog := [] } v).trans hc
  · exact (kept { b with freqLog := [] } _).trans hb

variable {s}

/-- A choice that leaves the selected slot leaves the selector, but for the quality to be sent. -/
theorem State.freqSelect_stays (below : s.nat 0x7010 0x01 < 8) (stays : s.freqSelect.nat 0x7010 0x01 = s.nat 0x7010 0x01)
    (follows : s.nat 0x7010 0x02 = 2 ∨ s.nat 0x7010 0x02 = 3) : s.freqSelect = s.setNat 0x7010 0x0B s.qlToSend := by
  unfold State.freqSelect at stays ⊢
  extract_lets cur st u at stays
  extract_lets
  have sel : u.nat 0x7010 0x01 = cur := by
    rw [State.setNat, State.nat_setReg_at _ _ (by decide) (by decide), if_neg (by omega)] at stays
    exact stays
  have same : u = s := by
    simp only [u] at sel ⊢
    split at sel
    · rw [if_pos follows, State.freqHoldover_none] at sel
      omega
    next n _ =>
      by_cases same : n = cur
      · rw [if_pos same]
      · rw [if_neg same] at sel
        refine absurd (Eq.trans ?_ sel) same
        have first : ∀ v, ((s.setNat 0x7010 0x01 n).setNat 0x7010 0x02 v).nat 0x7010 0x01 = n := fun v => by
          rw [State.setNat, State.nat_setReg_at _ _ (by decide) (by decide), if_neg (by omega), State.nat_setNat_same]
        refine (first 3).symm.trans ?_
        generalize (s.setNat 0x7010 0x01 n).setNat 0x7010 0x02 3 = w
        refine Eq.symm (State.nat_of_regs (s := w.inc32 0x7010 0x0C) rfl _ _ |>.trans ?_)
        rw [State.inc32_eq, State.addSat, State.nat_setNat, if_neg (key_ne_sub (by decide))]
  rw [same]

variable (s)

/-- The entries of the frequency selector. -/
def frequencyEntry (i _j : Nat) : Prop := i = 0x7010

/-- The choice of a frequency writes the entries of its selector. -/
theorem State.freqSelect_same : SameEntries frequencyEntry s s.freqSelect := by
  unfold State.freqSelect
  extract_lets cur st u
  have selects : ∀ j, frequencyEntry 0x7010 j := fun _ => rfl
  have hold : SameEntries frequencyEntry s s.freqHoldover := by
    unfold State.freqHoldover
    extract_lets avg behind w a b v c d
    have hb : SameEntries frequencyEntry s b :=
      (((SameEntries.refl _ s).of_regs (u := a) rfl).setReg (by decide) (selects _)).setReg (by decide) (selects _)
    have hc : SameEntries frequencyEntry s c := (hb.setReg (by decide) (selects _)).setReg (by decide) (selects _)
    exact .ite (hc.of_regs (State.setFrequency_regs { c with freqHeld := true, freqLog := [] } v)) (hb.of_regs (d.setFrequency_regs _))
  refine SameEntries.setReg ?_ (by decide) (selects _)
  simp only [u]
  split
  · exact .ite hold (.refl _ s)
  next n _ =>
    have chosen : SameEntries frequencyEntry s (((s.setNat 0x7010 0x01 n).setNat 0x7010 0x02 3).inc32 0x7010 0x0C) :=
      (((SameEntries.refl _ s).setReg (by decide) (selects _)).setReg (by decide) (selects _)).setReg (by decide) (selects _)
    exact .ite (.refl _ s) (chosen.of_regs rfl)

end Frequency

/-! ### Slots that are judged -/

/-- The entries that a slot's measurement and its judgement write. -/
def judgedSlotEntry (i j : Nat) : Prop := 0x7000 ≤ i ∧ i < 0x7008 ∧ 6 ≤ j ∧ j ≤ 9

theorem shownEntry.judged {n i j : Nat} (hn : n < 8) (h : shownEntry n i j) : judgedSlotEntry i j := by
  unfold shownEntry at h; unfold judgedSlotEntry; omega

section Slots
variable {s t : State} {n m : Nat}

/-- The input of a slot is present by its source, by what came in on it, and by the port, the fences and the lanes behind it. -/
theorem State.slotInput_of_same (same : SameEntries judgedSlotEntry s t) (pin : (t.slot n).pinPresent = (s.slot n).pinPresent)
    (lanes : t.lanes = s.lanes) (fences : t.fences = s.fences) : t.slotInput n = s.slotInput n := by
  have nat : ∀ i j, j < 6 → t.nat i j = s.nat i j := fun i j hj => same.nat (by omega) (by unfold judgedSlotEntry; omega)
  have low : ∀ i j, i < 0x7000 → j < 256 → t.nat i j = s.nat i j := fun i j hi hj => same.nat hj (by unfold judgedSlotEntry; omega)
  have fenced : ∀ l i, t.hasFence l i = s.hasFence l i := fun l i => by rw [State.hasFence, fences]; rfl
  have cluster : ∀ c, t.clusterFenced c = s.clusterFenced c := fun c => by rw [State.clusterFenced, State.regionFenced, fenced, fenced]; rfl
  have lane : ∀ l, t.lane l = s.lane l := fun l => by rw [State.lane, lanes]; rfl
  have missing : ∀ l, t.detectorMissing l = s.detectorMissing l := fun l => by
    have serving : t.servingDetector l = s.servingDetector l := by unfold State.servingDetector; rw [nat _ 0x01 (by decide)]
    unfold State.detectorMissing State.detectorFenced
    rw [serving, fenced, cluster]
  have port : t.slotPort n = s.slotPort n := State.slotPort_of_same same n (by unfold judgedSlotEntry; omega) (by unfold judgedSlotEntry; omega)
  have isPin : t.slotPin n = s.slotPin n := by unfold State.slotPin; rw [nat _ 0x01 (by decide)]
  unfold State.slotInput
  rw [port, isPin, pin]
  by_cases byPin : s.slotPin n = true
  · rw [if_pos byPin, if_pos byPin]
  rw [if_neg byPin, if_neg byPin]
  split
  next p carried =>
    have hp : p < 96 := by
      unfold State.slotPort at carried
      dsimp only at carried
      split_ifs at carried
      cases carried; assumption
    have mode : t.mode p = s.mode p := low _ _ (by omega) (by decide)
    have timing : t.timingLane p = s.timingLane p := by unfold State.timingLane; rw [mode, low _ _ (by omega) (by decide)]
    have sending : t.sendingLane p = s.sendingLane p := by
      unfold State.sendingLane; rw [mode, same.flag (by decide) (by unfold judgedSlotEntry; omega)]
    unfold State.portSynt State.portFenced State.stampMissing State.stampFenced
    rw [mode, timing, sending, missing, missing, fenced, fenced, cluster, nat _ 0x03 (by decide)]
    simp only [lane]
  · rfl

theorem State.slotQl_of_same (same : SameEntries judgedSlotEntry s t) (esmc : (t.slot n).esmc = (s.slot n).esmc) : t.slotQl n = s.slotQl n := by
  have nat : ∀ j, j < 6 → t.nat (0x7000 + n) j = s.nat (0x7000 + n) j := fun j hj => same.nat (by omega) (by unfold judgedSlotEntry; omega)
  unfold State.slotQl State.slotPin
  rw [nat 0x01 (by decide), nat 0x04 (by decide), nat 0x05 (by decide), esmc]

theorem SlotX.esmc_of_received {a b : SlotX} (same : a.received = b.received) : a.esmc = b.esmc := by
  simpa [SlotX.received] using congrArg SlotX.esmc same

theorem SlotX.pin_of_received {a b : SlotX} (same : a.received = b.received) : a.pinPresent = b.pinPresent := by
  simpa [SlotX.received] using congrArg SlotX.pinPresent same

theorem State.judgeSlot_input (hm : m < 8) : (s.judgeSlot m).slotInput n = s.slotInput n :=
  State.slotInput_of_same ((s.judgeSlot_same m).mono fun _ _ => shownEntry.judged hm) (SlotX.pin_of_received ((s.judgeSlot_selects m hm).slots n))
    ((s.judgeSlot_ranks m).lanes rfl) ((s.judgeSlot_ranks m).fences rfl)

theorem State.judgeSlot_ql (hm : m < 8) : (s.judgeSlot m).slotQl n = s.slotQl n :=
  State.slotQl_of_same ((s.judgeSlot_same m).mono fun _ _ => shownEntry.judged hm) (SlotX.esmc_of_received ((s.judgeSlot_selects m hm).slots n))

/-- A judged slot shows its quality, and whether its offset is within the window as long as its input is there. -/
theorem State.judgeSlot_shows (hn : n < 8) : (s.judgeSlot n).nat (0x7000 + n) 0x06 = s.slotQl n ∧
    (s.slotInput n = true → (s.judgeSlot n).bit (0x7000 + n) 0x08 1 = s.bit (0x7000 + n) 0x08 1) := by
  have own : ∀ j, j = 0x06 ∨ j = 0x07 ∨ j = 0x08 → judgedSlotEntry (0x7000 + n) j := fun j hj => by
    unfold judgedSlotEntry; omega
  have put : ∀ (u : State) b v, b ≠ 1 → (u.putBit (0x7000 + n) 0x08 b v).bit (0x7000 + n) 0x08 1 = u.bit (0x7000 + n) 0x08 1 := fun u b v hb => by
    rw [State.bit_putBit, if_neg fun h => hb h.2.symm]
  have put' : ∀ (u : State) v, (u.setNat (0x7000 + n) 0x06 v).bit (0x7000 + n) 0x08 1 = u.bit (0x7000 + n) 0x08 1 := fun u v => by
    rw [State.setNat, State.bit_setReg_at _ _ (by decide) (by decide), if_neg (by omega)]
  have put'' : ∀ (u : State) v, (u.setNat (0x7000 + n) 0x07 v).bit (0x7000 + n) 0x08 1 = u.bit (0x7000 + n) 0x08 1 := fun u v => by
    rw [State.setNat, State.bit_setReg_at _ _ (by decide) (by decide), if_neg (by omega)]
  unfold State.judgeSlot
  extract_lets i was present a x b ql c d st lost e
  have regs : (if lost then e.raise (1168 + n) 0 else e).regs = e.regs := by
    split
    · exact (State.raise_only e _ 0 (.refl 0x140000000000000000 e) rfl).regs rfl
    · rfl
  have ha : SameEntries judgedSlotEntry s a := (SameEntries.refl _ s).setReg (by decide) (own _ (by decide))
  have hb : SameEntries judgedSlotEntry s b := .ite (((ha.setReg (by decide) (own _ (by decide))).setReg (by decide) (own _ (by decide))).of_regs rfl) ha
  have esmc : (b.slot n).esmc = (s.slot n).esmc := by
    simp only [b]
    split
    · rw [State.slot_setSlot_same]; rfl
    · rfl
  constructor
  · have quality : e.nat (0x7000 + n) 0x06 = ql := by
      simp only [e]
      rw [State.setNat, State.nat_setReg_at _ _ (by decide) (by decide), if_neg (by omega)]
      exact State.nat_setNat_same ..
    rw [State.nat_of_regs regs, quality]
    exact State.slotQl_of_same hb esmc
  · intro there
    have stays : b = a := if_neg (by simp [present, there])
    have hc : c.bit (0x7000 + n) 0x08 1 = b.bit (0x7000 + n) 0x08 1 := by
      simp only [c]
      split
      · exact put _ _ _ (by decide)
      · rfl
    rw [State.bit, State.nat_of_regs regs]
    exact (put'' d _).trans ((put' c ql).trans (hc.trans (stays ▸ put s _ _ (by decide))))

end Slots

/-! ### What the choice shows of slots -/

section Shows
variable {s : State} {n : Nat}

/-- What is judged after the slots writes no quality and not whether an offset is within its window. -/
theorem State.refsUpdate_later (s : State) (hn : n < 8) :
    s.refsUpdate.nat (0x7000 + n) 0x06 = ((items 8).foldl (fun a n => a.judgeSlot n) s).nat (0x7000 + n) 0x06 ∧
      s.refsUpdate.bit (0x7000 + n) 0x08 1 = ((items 8).foldl (fun a n => a.judgeSlot n) s).bit (0x7000 + n) 0x08 1 := by
  generalize judged : (items 8).foldl (fun a n => a.judgeSlot n) s = a
  generalize disputed : (items 8).foldl (fun a n => (items n).foldl (fun b m => b.judgeDispute m n) a) a = b
  have ranks : s.judgeRanks.regs = b.regs := by
    unfold State.judgeRanks
    dsimp only
    rw [judged, disputed]
    exact b.noteCleared_regs _
  have hb : SameEntries (fun i j => 0x7000 ≤ i ∧ i < 0x7008 ∧ j = 0x08) a b := disputed ▸ a.judgeDisputes_same
  have later : SameEntries (fun i j => timesEntry i j ∨ frequencyEntry i j ∨ timingEntry i j) s.judgeRanks s.refsUpdate := by
    rw [State.refsUpdate_eq, State.chooseRefs_eq]
    exact ((s.judgeRanks.freqSelect_same.mono fun _ _ h => .inr (.inl h)).trans ((State.judgeTimes_same _).mono fun _ _ h => .inl h)).trans
      ((State.judgeAsymmetries_same _).mono fun _ _ h => .inr (.inr h))
  have apart : ∀ j, j = 0x06 ∨ j = 0x08 → ¬(timesEntry (0x7000 + n) j ∨ frequencyEntry (0x7000 + n) j ∨ timingEntry (0x7000 + n) j) := fun j hj => by
    unfold timesEntry frequencyEntry timingEntry; omega
  constructor
  · rw [later.nat (by decide) (apart _ (by decide)), State.nat_of_regs ranks, hb.nat (by decide) (by omega)]
  · rw [later.bit 1 (by decide) (apart _ (by decide)), State.bit, State.nat_of_regs ranks, ← disputed]
    exact a.judgeDisputes_bits _ 1 (by decide)

/-- The choice shows the quality of a slot. -/
theorem State.refsUpdate_quality (hn : n < 8) : s.refsUpdate.nat (0x7000 + n) 0x06 = s.slotQl n := by
  rw [(s.refsUpdate_later hn).1]
  refine (foldl_attains (Before := fun a : State => a.slotQl n = s.slotQl n)
    (After := fun a : State => a.slotQl n = s.slotQl n ∧ a.nat (0x7000 + n) 0x06 = s.slotQl n) (List.mem_range.mpr hn)
    (fun a own => ⟨(State.judgeSlot_ql hn).trans own, (State.judgeSlot_shows hn).1.trans own⟩)
    (fun a m mem own => (State.judgeSlot_ql (List.mem_range.mp mem)).trans own) (fun a m mem own => ?_) rfl).2
  have hm := List.mem_range.mp mem
  refine ⟨(State.judgeSlot_ql hm).trans own.1, ?_⟩
  by_cases same : m = n
  · exact same ▸ (State.judgeSlot_shows hm).1.trans (same ▸ own.1)
  · rw [(a.judgeSlot_same m).nat (by decide) (by unfold shownEntry; omega)]; exact own.2

/-- The choice leaves whether the offset of a slot whose input is there is within its window. -/
theorem State.refsUpdate_window (hn : n < 8) (there : s.slotInput n = true) : s.refsUpdate.bit (0x7000 + n) 0x08 1 = s.bit (0x7000 + n) 0x08 1 := by
  rw [(s.refsUpdate_later hn).2]
  refine (List.foldlRecOn (motive := fun a : State => a.slotInput n = true ∧ a.bit (0x7000 + n) 0x08 1 = s.bit (0x7000 + n) 0x08 1) _ _
    ⟨there, rfl⟩ fun a own m mem => ?_).2
  have hm := List.mem_range.mp mem
  refine ⟨State.judgeSlot_input hm |>.trans own.1, ?_⟩
  by_cases same : m = n
  · exact same ▸ ((State.judgeSlot_shows hm).2 (same ▸ own.1)).trans (same ▸ own.2)
  · rw [(a.judgeSlot_same m).bit 1 (by decide) (by unfold shownEntry; omega)]; exact own.2

/-- A choice that leaves the selected slot leaves the selector's state, its frequency and what it has been locked for. -/
theorem State.refsUpdate_stays (below : s.nat 0x7010 0x01 < 8) (stays : s.refsUpdate.nat 0x7010 0x01 = s.nat 0x7010 0x01)
    (follows : s.nat 0x7010 0x02 = 2 ∨ s.nat 0x7010 0x02 = 3) :
    s.refsUpdate.nat 0x7010 0x02 = s.nat 0x7010 0x02 ∧ Only 0x140010000000000002 s s.judgeRanks ∧
      Only 0x100000000040000000242 s.judgeRanks s.refsUpdate := by
  have ranks : ∀ j, j < 256 → s.judgeRanks.nat 0x7010 j = s.nat 0x7010 j := fun j hj => s.judgeRanks_same.nat hj (by omega)
  have later : SameEntries (fun i j => timesEntry i j ∨ timingEntry i j) s.judgeRanks.freqSelect s.refsUpdate := by
    rw [State.refsUpdate_eq, State.chooseRefs_eq]
    exact ((State.judgeTimes_same _).mono fun _ _ h => .inl h).trans ((State.judgeAsymmetries_same _).mono fun _ _ h => .inr h)
  have selected : ∀ j, j < 256 → s.refsUpdate.nat 0x7010 j = s.judgeRanks.freqSelect.nat 0x7010 j := fun j hj =>
    later.nat hj (by unfold timesEntry timingEntry; omega)
  have kept := State.freqSelect_stays (s := s.judgeRanks) (by rw [ranks _ (by decide)]; exact below)
    (by rw [ranks _ (by decide), ← selected _ (by decide)]; exact stays) (by rw [ranks _ (by decide)]; exact follows)
  refine ⟨?_, s.judgeRanks_only, ?_⟩
  · rw [selected _ (by decide), kept, State.setNat, State.nat_setReg_at _ _ (by decide) (by decide), if_neg (by omega), ranks _ (by decide)]
  · have shown : Only 0x100000000040000000242 s.judgeRanks (s.judgeRanks.setNat 0x7010 0x0B s.judgeRanks.qlToSend) :=
      State.setNat_only _ _ _ _ (.refl _ _) rfl
    rw [← kept] at shown
    rw [State.refsUpdate_eq, State.chooseRefs_eq]
    exact (shown.step (State.judgeTimes_only _) rfl).step (State.judgeAsymmetries_only _) rfl

end Shows

/-! ### Received quality -/

section Esmc
variable {s : State} {n p ql : Nat}

/-- A slot whose line carries the port takes the quality that came in on it. -/
def State.takeEsmc (p ql : Nat) (s : State) (n : Nat) : State :=
  if s.slotPort n = some p then s.setSlot n { s.slot n with esmc := ql } else s

theorem State.takeEsmc_slotPort (m : Nat) : (s.takeEsmc p ql m).slotPort n = s.slotPort n := by
  unfold State.takeEsmc
  split <;> rfl

theorem State.takeEsmc_slot (m : Nat) :
    ((s.takeEsmc p ql m).slot n).esmc = if m = n ∧ s.slotPort n = some p then ql else (s.slot n).esmc := by
  unfold State.takeEsmc
  by_cases same : m = n
  · subst same
    by_cases carried : s.slotPort m = some p
    · rw [if_pos carried, if_pos ⟨rfl, carried⟩, State.slot_setSlot_same]
    · rw [if_neg carried, if_neg (not_and_of_not_right _ carried)]
  · rw [if_neg (not_and_of_not_left _ same)]
    by_cases carried : s.slotPort m = some p
    · rw [if_pos carried, State.slot_setSlot, if_neg same]
    · rw [if_neg carried]

theorem State.takeEsmc_slots (l : List Nat) :
    ((l.foldl (State.takeEsmc p ql) s).slot n).esmc = if n ∈ l ∧ s.slotPort n = some p then ql else (s.slot n).esmc := by
  induction l generalizing s with
  | nil => exact (if_neg fun h => nomatch h.1).symm
  | cons m l ih =>
    rw [List.foldl_cons, ih, State.takeEsmc_slotPort, State.takeEsmc_slot]
    by_cases carried : s.slotPort n = some p <;> by_cases inside : n ∈ l <;> by_cases same : m = n <;> simp [carried, inside, same, eq_comm]
    exact fun h => absurd h.symm same

theorem exec_esmcReceive {p : PortId} {ssm : BitVec 4} {essm : Option (BitVec 8)} (up : s.portUp p = true) :
    exec (.esmcReceive p ssm essm) s =
      .next ((items 8).foldl (State.takeEsmc p.val (qualityOf ssm.toNat (essm.map (·.toNat)))) s).refsUpdate := by
  change execEsmcReceive p ssm essm s = _
  unfold execEsmcReceive
  rw [up]
  rfl

/-- Of a slot whose line fell silent, the quality has failed. -/
def State.loseEsmc (s : State) (n : Nat) : State := s.setSlot n { s.slot n with esmc := 0 }

theorem exec_esmcTimeout {n : SlotId} (line : (s.slotPort n).isSome = true) : exec (.esmcTimeout n) s = .next (s.loseEsmc n).refsUpdate := by
  change execEsmcTimeout n s = _
  unfold execEsmcTimeout
  rw [line]
  rfl

/-- A slot with a line takes its quality from it, unless the host gives it. -/
theorem State.slotQl_line (line : (s.slotPort n).isSome = true) (mode : s.nat (0x7000 + n) 0x04 ≠ 1) : s.slotQl n = (s.slot n).esmc := by
  refine if_neg fun h => h.elim (fun pin => ?_) mode
  unfold State.slotPort at line
  dsimp only at line
  by_cases source : 16 ≤ s.nat (0x7000 + n) 0x01 ∧ s.nat (0x7000 + n) 0x01 < 32
  · unfold State.slotPin at pin
    simp at pin
    omega
  · rw [if_neg source] at line
    exact nomatch line

end Esmc

/-! ### The frequency that follows a slot -/

section Follow
variable {s : State} {n : Nat}

/-- The syntony of every time base is measured against the member that it is measured against. -/
theorem State.measureSyntony_syntony {k : Nat} (hk : k < 8) : (s.measureSyntony.tb k).syntony = s.conditioned s.syntonyMember := by
  unfold State.measureSyntony
  exact foldl_attains (Before := fun _ : State => True) (After := fun a : State => (a.tb k).syntony = s.conditioned s.syntonyMember)
    (List.mem_range.mpr hk) (fun a _ => by rw [State.tb_setTb_same]) (fun _ _ _ h => h) (fun a m _ h => by
      rw [State.tb_setTb]
      split
      · rfl
      · exact h) trivial

theorem State.setFrequency_frequency (f : Int) : (s.setFrequency f).frequency = f :=
  (State.measureSyntony_only (s.withFrequency f) (.refl 0x40000000000 _) rfl).frequency rfl

/-- A set frequency is the one that the syntony terms follow. -/
theorem State.setFrequency_syntony (f : Int) {k : Nat} (hk : k < 8) :
    ((s.setFrequency f).tb k).syntony = (s.setFrequency f).conditioned (s.setFrequency f).syntonyMember := by
  have frame : Only 0x40000000000 (s.withFrequency f) (s.setFrequency f) := State.measureSyntony_only (s.withFrequency f) (.refl 0x40000000000 _) rfl
  refine (State.measureSyntony_syntony (s := s.withFrequency f) hk).trans ?_
  generalize s.withFrequency f = u at *
  generalize s.setFrequency f = t at *
  have nat : ∀ i j, t.nat i j = u.nat i j := State.nat_of_regs (frame.regs rfl)
  have member : t.syntonyMember = u.syntonyMember := by unfold State.syntonyMember State.bit; simp only [nat]
  unfold State.conditioned
  rw [member, frame.now rfl, frame.frequency rfl, nat]

theorem State.followSlot_regs (v : Int) : (s.followSlot n v).regs = s.regs := (State.followSlot_only s n v (.refl 0x5c0040000000000 s) rfl).regs rfl

theorem State.followSlot_at_once (v : Int) (selected : s.nat 0x7010 0x01 = n) (locked : s.nat 0x7010 0x02 = 2) :
    ∃ log, s.followSlot n v = { s.setFrequency v with freqLog := log } := by
  unfold State.followSlot
  rw [if_neg (not_not.mpr selected), if_neg (by omega), if_pos locked]
  exact ⟨_, rfl⟩

/-- While locked, the frequency follows the slot at once. -/
theorem State.followSlot_locked (v : Int) (selected : s.nat 0x7010 0x01 = n) (locked : s.nat 0x7010 0x02 = 2) :
    (s.followSlot n v).frequency = v ∧
      ∀ k, k < 8 → ((s.followSlot n v).tb k).syntony = (s.followSlot n v).conditioned (s.followSlot n v).syntonyMember := by
  obtain ⟨log, follows⟩ := State.followSlot_at_once v selected locked
  have frequency := s.setFrequency_frequency v
  have syntony := fun k hk => s.setFrequency_syntony v (k := k) hk
  rw [follows]
  generalize s.setFrequency v = u at *
  exact ⟨frequency, syntony⟩

/-- While pulling, the frequency moves toward the slot's within the slew limit. -/
theorem State.followSlot_pulls (v : Int) (selected : s.nat 0x7010 0x01 = n) (pulls : s.nat 0x7010 0x02 = 3) :
    (s.followSlot n v).frequency = s.frequency + max (-((s.nat 0x7010 0x06 * (s.now - s.freqMovedAt) / 1000000000 : Nat) : Int))
      (min ((s.nat 0x7010 0x06 * (s.now - s.freqMovedAt) / 1000000000 : Nat) : Int) (v - s.frequency)) := by
  unfold State.followSlot
  rw [if_neg (not_not.mpr selected), if_pos pulls]
  unfold State.pull
  extract_lets limit most d far u near
  have moved : u.frequency = s.frequency + max (-most) (min most d) := s.setFrequency_frequency _
  clear_value u
  exact moved

/-- A slot's offset is taken and judged against its window. -/
def State.noteSlope (s : State) (n : Nat) (ppt : Int) : State :=
  ((s.setReg (0x7000 + n) 0x09 ppt).setSlot n { s.slot n with measured := true }).judgeWindow n

theorem exec_frequencyOffsetMeasurement {n : SlotId} {phases : List Int} {ppt : Int} (there : s.slotInput n = true) (whole : phases.length = 1000)
    (slope : max (-2147483648) (min 2147483647 (slopePpt (phases.mapIdx (fun j x => (1000000 * j, x))))) = ppt) :
    exec (.frequencyOffsetMeasurement n phases) s = .next ((s.noteSlope n ppt).refsUpdate.followSlot n ppt) := by
  subst slope
  change execFrequencyOffsetMeasurement n phases s = _
  unfold execFrequencyOffsetMeasurement State.noteSlope
  dsimp only
  rw [if_neg (by simp [there, whole])]

variable (s) (n) in
theorem State.noteSlope_same (ppt : Int) : SameEntries (fun i j => i = 0x7000 + n ∧ (j = 0x08 ∨ j = 0x09)) s (s.noteSlope n ppt) := by
  have taken : SameEntries (fun i j => i = 0x7000 + n ∧ (j = 0x08 ∨ j = 0x09)) s
      ((s.setReg (0x7000 + n) 0x09 ppt).setSlot n { s.slot n with measured := true }) :=
    ((SameEntries.refl _ s).setReg (by decide) ⟨rfl, .inr rfl⟩).of_regs rfl
  unfold State.noteSlope State.judgeWindow
  exact SameEntries.putBit (.ite (taken.putBit (by decide) ⟨rfl, .inl rfl⟩) taken) (by decide) ⟨rfl, .inl rfl⟩

/-- The offset is shown, and whether it lies within the window. -/
theorem State.noteSlope_shows (ppt : Int) : (s.noteSlope n ppt).reg (0x7000 + n) 0x09 = ppt ∧
    (s.noteSlope n ppt).bit (0x7000 + n) 0x08 1 = decide (ppt.natAbs ≤ s.nat (0x7000 + n) 0x0B * 1000) := by
  generalize hu : (s.setReg (0x7000 + n) 0x09 ppt).setSlot n { s.slot n with measured := true } = u
  have note : s.noteSlope n ppt = u.judgeWindow n := by rw [← hu]; rfl
  have shown : u.reg (0x7000 + n) 0x09 = ppt := by
    rw [← hu]
    exact (State.reg_setReg_at _ _ (by decide) (by decide)).trans (if_pos ⟨rfl, rfl⟩)
  have window : u.nat (0x7000 + n) 0x0B = s.nat (0x7000 + n) 0x0B := by
    rw [← hu]
    exact (State.nat_setReg_at _ _ (by decide) (by decide)).trans (if_neg (by omega))
  have measured : (u.slot n).measured = true := by rw [← hu, State.slot_setSlot_same]
  have judged : SameEntries (fun i j => i = 0x7000 + n ∧ j = 0x08) u (u.judgeWindow n) :=
    .putBit (.ite (.putBit (.refl _ u) (by decide) ⟨rfl, rfl⟩) (.refl _ u)) (by decide) ⟨rfl, rfl⟩
  rw [note]
  refine ⟨(judged _ _ (by decide) (by omega)).trans shown, ?_⟩
  unfold State.judgeWindow
  rw [State.bit_putBit_same, shown, window, measured, Bool.true_and]

theorem State.noteSlope_only (ppt : Int) : Only 0x10000000000002 s (s.noteSlope n ppt) :=
  State.judgeWindow_only _ _ (State.setSlot_only _ _ _ (State.setReg_only _ _ _ _ (.refl _ s) rfl) rfl) rfl

theorem State.noteSlope_input (ppt : Int) (hn : n < 8) : (s.noteSlope n ppt).slotInput n = s.slotInput n := by
  have frame : Only 0x10000000000002 s (s.noteSlope n ppt) := State.noteSlope_only ppt
  refine State.slotInput_of_same ((s.noteSlope_same n ppt).mono fun i j h => by unfold judgedSlotEntry; omega) ?_ (frame.lanes rfl) (frame.fences rfl)
  have kept : ∀ u : State, ((u.judgeWindow n).slot n).pinPresent = (u.slot n).pinPresent := fun u => by
    unfold State.judgeWindow
    dsimp only
    split <;> rfl
  exact (kept _).trans (by rw [State.slot_setSlot_same])

end Follow

/-- Settles O35: an up port's quality reaches the slots that its line feeds, a silent line's has failed, and information is sent by port; an offset
is the slope of its phases, and the pairs follow that of the selected slot, at once where the selector is locked and within the slew limit where it
pulls; the selector locks after 1 s within 100 ppt. -/
theorem frequencyFollowsTheSelectedSlot : Obligations.FrequencyFollowsTheSelectedSlot := by
  unfold Obligations.FrequencyFollowsTheSelectedSlot
  refine ⟨fun p ssm essm s up => .of (exec_esmcReceive up) fun n hn => ?_, fun n s line => .of (exec_esmcTimeout line) ⟨?_, fun m ne => ?_, fun mode => ?_⟩,
    fun s => .of rfl ⟨?_, ?_⟩, fun n phases s there whole ppt slope => .of (exec_frequencyOffsetMeasurement there whole slope) ?_,
    fun s u pulls below near since long hu stays => ?_, fun s soon => ?_⟩
  · rw [SlotX.esmc_of_received (State.refsUpdate_slots _ n), State.takeEsmc_slots]
    simp [items, hn]
  · rw [SlotX.esmc_of_received (State.refsUpdate_slots _ n)]
    exact congrArg SlotX.esmc (State.slot_setSlot_same ..)
  · rw [SlotX.esmc_of_received (State.refsUpdate_slots _ m)]
    exact congrArg SlotX.esmc ((State.slot_setSlot ..).trans (if_neg fun h => ne h.symm))
  · rw [State.refsUpdate_quality n.isLt, State.slotQl_line (s := s.loseEsmc n) line mode]
    exact congrArg SlotX.esmc (State.slot_setSlot_same ..)
  · exact .upd_esmcOut _ (.refl _ s) rfl
  · exact (List.map_map ..)
  · have shows := s.noteSlope_shows (n := n) ppt
    have window := State.refsUpdate_window n.isLt ((State.noteSlope_input (s := s) ppt n.isLt).trans there)
    have note : Only 0x10000000000002 s (s.noteSlope n ppt) := State.noteSlope_only ppt
    have before : ∀ j, j < 256 → (s.noteSlope n ppt).nat 0x7010 j = s.nat 0x7010 j := fun j hj => (s.noteSlope_same n ppt).nat hj (by omega)
    generalize s.noteSlope n ppt = w at *
    have regs : (w.refsUpdate.followSlot n ppt).regs = w.refsUpdate.regs := State.followSlot_regs ppt
    refine ⟨?_, ?_, fun selected locked => ?_, fun selected pulls was did => ?_⟩
    · rw [State.reg_of_regs regs, w.refsUpdate_entries _ _ (by decide) (by unfold selectorEntry servoEntry timingEntry; omega)]
      exact shows.1
    · rw [State.bit, State.nat_of_regs regs]
      exact window.trans shows.2
    · rw [State.nat_of_regs regs] at selected locked
      exact State.followSlot_locked ppt selected locked
    · rw [State.nat_of_regs regs] at selected pulls
      have below : w.nat 0x7010 0x01 < 8 := by rw [before _ (by decide), was]; exact n.isLt
      obtain ⟨-, first, second⟩ := State.refsUpdate_stays below (by rw [selected, before _ (by decide), was])
        (.inr (by rw [before _ (by decide), did]))
      rw [State.followSlot_pulls ppt selected pulls, w.refsUpdate_entries.nat (i := 0x7010) (j := 0x06) (by decide)
        (by unfold selectorEntry servoEntry timingEntry; omega), before _ (by decide), second.frequency rfl, first.frequency rfl, note.frequency rfl,
        second.now rfl, first.now rfl, note.now rfl, second.freqMovedAt rfl, first.freqMovedAt rfl, note.freqMovedAt rfl]
  · have run : exec .frequencyLock s = .next u.refsUpdate := by
      change execFrequencyLock s = _
      unfold execFrequencyLock
      dsimp only
      refine congrArg _ ((if_pos ⟨pulls, below, ?_⟩).trans (congrArg _ hu.symm))
      rw [since]
      exact decide_eq_true long
    have locked : u.nat 0x7010 0x02 = 2 := by rw [hu]; exact State.nat_setNat_same ..
    have selected : u.nat 0x7010 0x01 = s.nat 0x7010 0x01 := by
      rw [hu, State.setNat, State.nat_setReg_at _ _ (by decide) (by decide), if_neg (by omega)]; rfl
    have log : u.freqLog = (s.now, some (s.tb 0).syntony) :: s.freqLog := by rw [hu]; rfl
    have switched : u.freqSwitching = false := by rw [hu]; rfl
    obtain ⟨state, first, second⟩ := State.refsUpdate_stays (by omega) (stays.trans selected.symm) (.inl locked)
    refine .of run ⟨rfl, state.trans locked, stays, ?_, ?_⟩
    · rw [second.freqLog rfl, first.freqLog rfl, log]; exact .head _
    · rw [second.freqSwitching rfl, first.freqSwitching rfl, switched]
  · refine .of ?_ rfl
    change execFrequencyLock s = _
    unfold execFrequencyLock
    dsimp only
    refine congrArg _ (if_neg fun h => ?_)
    obtain ⟨-, -, stayed⟩ := h
    split at stayed
    · exact nomatch stayed
    next near since => exact absurd (of_decide_eq_true stayed) (by have := soon near since; omega)

end Sys2Proof.Machine

namespace Sys2Proof.Machine

-- The kernel evaluates the runs below one after another: side by side, each holds a thread while it waits for the declarations before it.
set_option Elab.async false

/-! ## The loss of a pair (12 R321, R326)

A die without a locked member is fenced, and at a change of fences the refused commits of the mirror are tried again. One of them may write the very
count that the statement reads. -/

/-- The working member of pair 2 is about to lose lock with no ready backup; the die is fenced already, and a refused commit of the mirror names the
member's count of losses. Its frequency is beyond what a loop may follow, so that every conditioner stands at its limit. -/
def lossBehindMirror : State :=
  { State.reset with
    frequency := 300000000
    regs := [(key 0x1000 0x08, 3), (key 0x7010 0x02, 4), (key 0x7044 0x02, 3), (key 0x7048 0x04, 10)]
    fences := [(.region, 4), (.region, 5)]
    twin := { refusedMirror := [{ epoch := 1, values := [⟨0x7044, 0x05, [0, 0, 0, 0]⟩] }] } }

/-- The loss is shown, counted and raised. -/
def lossShown : State :=
  { lossBehindMirror with
    regs := [(key 0x1000 0x08, 3), (key 0x7010 0x02, 4), (key 0x7044 0x02, 0x11), (key 0x7044 0x04, 100), (key 0x7044 0x05, 1), (key 0x7048 0x04, 10)]
    messages := [⟨1096, 0⟩]
    sourceCounts := [(1096, 1)] }

/-- What a member's loss shows before its pair reacts. -/
def State.noteLoss (s : State) (k : Nat) (error : Int) : State :=
  ((((s.showError k error).putBit (0x7040 + k) 0x02 1 false).putBit (0x7040 + k) 0x02 4 true).inc32 (0x7040 + k) 0x05).raise (1088 + 2 * k) 0

theorem lossBehindMirror_noteLoss : lossBehindMirror.noteLoss 4 100 = lossShown := by decide +kernel

/-- A conditioner that holds over a frequency beyond its limit stands at the limit. -/
theorem State.conditioned_limit {s : State} (k : Nat) (beyond : 200000010 ≤ s.frequency) (held : s.nat 0x7010 0x02 = 4) : s.conditioned k = 200000000 := by
  unfold State.conditioned
  dsimp only
  rw [if_pos held]
  omega

/-- The syntony terms are measured anew. -/
def lossMeasured : State := { lossShown with tbs := (items 8).map fun k => (k, { syntony := 200000000 }) }

theorem lossShown_measured : lossShown.measureSyntony = lossMeasured := by
  unfold State.measureSyntony
  rw [State.conditioned_limit _ (by decide +kernel) (by decide +kernel)]
  decide +kernel

/-- A die that is fenced already is not fenced anew. -/
theorem lossShown_losePair : lossShown.losePair 2 1096 = lossMeasured.retryMirror := by
  have fenced : ∀ g, lossMeasured.hasFence .region g = true → lossMeasured.fenceItem .region g 1096 = lossMeasured := fun g there => if_pos there
  unfold State.losePair
  rw [if_neg (by decide), lossShown_measured]
  dsimp only
  rw [fenced (2 * 2) (by decide +kernel), fenced (2 * 2 + 1) (by decide +kernel)]

theorem exec_lossBehindMirror :
    exec (.synthLockLoss 4 (List.replicate 8 100)) lossBehindMirror = .next lossMeasured.retryMirror.judgeClocks := by
  have run : exec (.synthLockLoss 4 (List.replicate 8 100)) lossBehindMirror =
      .next (if (lossBehindMirror.noteLoss 4 100).working 2 ≠ 4 then
        (((((lossBehindMirror.noteLoss 4 100).putBit 0x7044 0x02 2 false).putBit 0x7044 0x02 3 false).swapWasLoss 2 1096).judgeClocks)
      else if (lossBehindMirror.noteLoss 4 100).synthReady (otherMember 4) then (lossBehindMirror.noteLoss 4 100).changeOver 2 1096
      else ((lossBehindMirror.noteLoss 4 100).losePair 2 1096).judgeClocks) := by
    have lost : ¬((!lossBehindMirror.synthLocked 4) = true ∨ (!lossBehindMirror.losesLock 4 (List.replicate 8 100)) = true) := by decide +kernel
    change execSynthLockLoss 4 (List.replicate 8 100) lossBehindMirror = _
    unfold execSynthLockLoss
    exact congrArg _ (if_neg lost)
  rw [run, lossBehindMirror_noteLoss, if_neg (by decide +kernel), if_neg (by decide +kernel), lossShown_losePair]

/-- The commit that is tried again puts 0 into the count. -/
theorem lossMeasured_retryMirror : lossMeasured.retryMirror.nat 0x7044 0x05 = 0 := by decide +kernel

/-- What the clock outputs show is no count of a synthesizer. -/
theorem State.judgeClocks_same (s : State) : SameEntries (fun i j => 0x7060 ≤ i ∧ j = 0x07) s s.judgeClocks :=
  .foldl _ fun a c _ => SameEntries.setReg (.ite ((SameEntries.refl _ a).of_regs rfl) (.refl _ a)) (by decide) ⟨by omega, rfl⟩

/-- Refutes O36: from `lossBehindMirror` the count reads 0 where the statement has 1. No run keeps a refused commit that names a count: the lead
mirrors settings only, which the statement does not ask of the state. -/
theorem not_pairsKeepAWorkingMember : ¬ Obligations.PairsKeepAWorkingMember := by
  unfold Obligations.PairsKeepAWorkingMember
  rintro ⟨-, loss, -⟩
  obtain ⟨t, again, -, -, counted, -⟩ := loss 4 (List.replicate 8 100) lossBehindMirror (by decide +kernel) (by decide +kernel)
  obtain rfl : lossMeasured.retryMirror.judgeClocks = t := Host.Outcome.next.inj (exec_lossBehindMirror.symm.trans again)
  have none : lossMeasured.retryMirror.judgeClocks.nat 0x7044 0x05 = 0 :=
    ((State.judgeClocks_same lossMeasured.retryMirror).nat (by decide) (by omega)).trans lossMeasured_retryMirror
  have one : min (lossBehindMirror.nat 0x7044 0x05 + 1) (2 ^ 32 - 1) = 1 := by decide +kernel
  exact absurd (none.symm.trans (counted.trans one)) (by decide)

end Sys2Proof.Machine

namespace Sys2Proof.Machine

/-! ## Calibration rounds (13 R335 to R347) -/

/-- The entries that tell where the calibration of a lane stands: its own status, and the spare of its cluster. -/
def calibrationEntry (i j : Nat) : Prop := (0x8100 ≤ i ∧ i < 0x8164 ∧ j = 0x0A) ∨ (0x2500 ≤ i ∧ i < 0x2518 ∧ j = 0x01)

/-! ### Lanes that are due, start and are given up -/

section Lanes
variable (s : State) (l m c : Nat)

/-- The lane is due or is being calibrated. -/
def State.dueOrRuns (s : State) (l : Nat) : Prop := s.bit (0x8100 + l) 0x0A 1 = true ∨ s.bit (0x8100 + l) 0x0A 0 = true

variable {s l m c}

theorem State.bit_putBit_lane {b b' : Nat} {on : Bool} (apart : m ≠ l ∨ b' ≠ b) :
    (s.putBit (0x8100 + l) 0x0A b on).bit (0x8100 + m) 0x0A b' = s.bit (0x8100 + m) 0x0A b' := by
  rw [State.bit_putBit, if_neg]
  rintro ⟨same, bits⟩
  obtain ⟨index, -⟩ := (key_inj (by decide) (by decide)).mp same
  omega

variable (s l m c)

theorem State.startLane_same : SameEntries (fun i j => i = 0x8100 + l ∧ j = 0x0A) s (s.startLane l) := by
  unfold State.startLane
  extract_lets d spare fenced a x b
  have ha : a.regs = s.regs := by
    simp only [a]
    split <;> rfl
  exact ((SameEntries.of_regs (u := b) (.refl _ s) ha).putBit (by decide) ⟨rfl, rfl⟩).putBit (by decide) ⟨rfl, rfl⟩

/-- A lane that starts is being calibrated. -/
theorem State.startLane_runs : (s.startLane l).bit (0x8100 + l) 0x0A 0 = true := State.bit_putBit_same ..

theorem State.calibrateNext_cases : s.calibrateNext c = s ∨ ∃ l, l < 96 ∧ s.calibrateNext c = s.startLane l := by
  unfold State.calibrateNext
  extract_lets lanes urgent
  split
  next l found =>
    refine .inr ⟨l, ?_, rfl⟩
    have may : s.canCalibrate l = true := by
      rw [← Option.or_eq_orElse] at found
      rcases Option.or_eq_some_iff.mp found with first | ⟨-, second⟩
      · have both : (urgent l && s.canCalibrate l) = true := List.find?_some (p := fun l => urgent l && s.canCalibrate l) first
        exact (Bool.and_eq_true_iff.mp both).2
      · have both : (s.bit (0x8100 + l) 0x0A 1 && s.canCalibrate l) = true :=
          List.find?_some (p := fun l => s.bit (0x8100 + l) 0x0A 1 && s.canCalibrate l) second
        exact (Bool.and_eq_true_iff.mp both).2
    unfold State.canCalibrate at may
    simp only [Bool.and_eq_true, decide_eq_true_eq] at may
    exact may.1.1.1.1.1.1.1.1.1.1.1
  · exact .inl rfl

theorem State.calibrateNext_same : SameEntries calibrationEntry s (s.calibrateNext c) := by
  rcases s.calibrateNext_cases c with idle | ⟨l, hl, starts⟩
  · rw [idle]; exact .refl _ s
  · rw [starts]; exact (s.startLane_same l).mono fun i j h => by unfold calibrationEntry; omega

/-- A lane that is due or being calibrated goes on to be. -/
theorem State.calibrateNext_dueOrRuns (h : s.dueOrRuns m) : (s.calibrateNext c).dueOrRuns m := by
  rcases s.calibrateNext_cases c with idle | ⟨l, -, starts⟩
  · rw [idle]; exact h
  · rw [starts]
    by_cases same : m = l
    · exact same ▸ .inr (s.startLane_runs m)
    · have kept := fun b => (s.startLane_same l).bit (i := 0x8100 + m) b (j := 0x0A) (by decide) (by omega)
      exact h.imp (kept 1).trans (kept 0).trans

/-- What is shown of a calibration that is given up. -/
def State.showGivenUp (s : State) (l : Nat) : State :=
  (((s.putBit (0x8100 + l) 0x0A 0 false).putBit (0x8100 + l) 0x0A 4 true).putBit (0x8100 + l) 0x0A 1 true).putBit (0x8100 + l) 0x0A 2 false

/-- A lane's calibration is given up, the spare aside. -/
def State.giveUpLane (s : State) (l : Nat) : State :=
  let t := ((s.putBit (0x8100 + l) 0x0A 0 false).putBit (0x8100 + l) 0x0A 4 true).putBit (0x8100 + l) 0x0A 1 true
  let t := t.setTrim l { t.trim l with signal := none, timing := none }
  let t := t.putBit (0x8100 + l) 0x0A 2 false
  t.setDetector (5 * (l / 4) + l % 4) (t.detector (5 * (l / 4) + l % 4)).rest

theorem State.giveUpLane_regs : (s.giveUpLane l).regs = (s.showGivenUp l).regs := rfl

theorem State.abandonLane_idle (idle : s.bit (0x8100 + l) 0x0A 0 = false) : s.abandonLane l = s :=
  if_pos (by rw [idle]; rfl)

theorem State.abandonLane_runs (runs : s.bit (0x8100 + l) 0x0A 0 = true) :
    s.abandonLane l = s.giveUpLane l ∨ s.abandonLane l = (s.giveUpLane l).setNat (0x2500 + l / 4) 0x01 0xFF := by
  have eq : s.abandonLane l = if (s.giveUpLane l).nat (0x2500 + l / 4) 0x01 = l % 4 ∧ !(s.giveUpLane l).detectorFenced (5 * (l / 4) + l % 4)
      then (s.giveUpLane l).setNat (0x2500 + l / 4) 0x01 0xFF else s.giveUpLane l := if_neg (by rw [runs]; decide)
  rw [eq]
  exact ite_eq_or_eq _ _ _ |>.symm

theorem State.giveUpLane_same : SameEntries (fun i j => i = 0x8100 + l ∧ j = 0x0A) s (s.giveUpLane l) :=
  SameEntries.of_regs (t := s.showGivenUp l)
    (((((SameEntries.refl _ s).putBit (by decide) ⟨rfl, rfl⟩).putBit (by decide) ⟨rfl, rfl⟩).putBit (by decide) ⟨rfl, rfl⟩).putBit (by decide) ⟨rfl, rfl⟩)
    (s.giveUpLane_regs l)

theorem State.abandonLane_same : SameEntries (fun i j => (i = 0x8100 + l ∧ j = 0x0A) ∨ (i = 0x2500 + l / 4 ∧ j = 0x01)) s (s.abandonLane l) := by
  have gives := (s.giveUpLane_same l).mono (L := fun i j => (i = 0x8100 + l ∧ j = 0x0A) ∨ (i = 0x2500 + l / 4 ∧ j = 0x01)) fun _ _ => .inl
  cases runs : s.bit (0x8100 + l) 0x0A 0 with
  | false => rw [s.abandonLane_idle l runs]; exact .refl _ s
  | true =>
    rcases s.abandonLane_runs l runs with eq | eq <;> rw [eq]
    · exact gives
    · exact gives.setReg (by decide) (.inr ⟨rfl, rfl⟩)

theorem State.abandonLane_trim (apart : m ≠ l) : (s.abandonLane l).trim m = s.trim m := by
  have gives : (s.giveUpLane l).trim m = s.trim m := (State.trim_setTrim ..).trans (if_neg fun h => apart h.symm)
  cases runs : s.bit (0x8100 + l) 0x0A 0 with
  | false => rw [s.abandonLane_idle l runs]
  | true => rcases s.abandonLane_runs l runs with eq | eq <;> rw [eq] <;> exact gives

/-- A calibration that is given up does not run, and shows that it was. -/
theorem State.abandonLane_ends : (s.abandonLane l).bit (0x8100 + l) 0x0A 0 = false ∧
    (s.abandonLane l).bit (0x8100 + l) 0x0A 4 = (s.bit (0x8100 + l) 0x0A 4 || s.bit (0x8100 + l) 0x0A 0) := by
  cases runs : s.bit (0x8100 + l) 0x0A 0 with
  | false => rw [s.abandonLane_idle l runs]; exact ⟨runs, (Bool.or_false _).symm⟩
  | true =>
    have shown : (s.giveUpLane l).bit (0x8100 + l) 0x0A 0 = false ∧ (s.giveUpLane l).bit (0x8100 + l) 0x0A 4 = true := by
      unfold State.bit
      rw [State.nat_of_regs (s.giveUpLane_regs l)]
      unfold State.showGivenUp
      constructor
      · exact (State.bit_putBit_lane (.inr (by decide))).trans ((State.bit_putBit_lane (.inr (by decide))).trans ((State.bit_putBit_lane (.inr (by decide))).trans
          (State.bit_putBit_same ..)))
      · exact (State.bit_putBit_lane (.inr (by decide))).trans ((State.bit_putBit_lane (.inr (by decide))).trans (State.bit_putBit_same ..))
    have spare : ∀ b, ((s.giveUpLane l).setNat (0x2500 + l / 4) 0x01 0xFF).bit (0x8100 + l) 0x0A b = (s.giveUpLane l).bit (0x8100 + l) 0x0A b := fun b => by
      rw [State.setNat, State.bit_setReg_at _ _ (by decide) (by decide), if_neg (by omega)]
    rcases s.abandonLane_runs l runs with eq | eq <;> rw [eq]
    · exact ⟨shown.1, shown.2.trans (Bool.or_true _).symm⟩
    · exact ⟨(spare 0).trans shown.1, ((spare 4).trans shown.2).trans (Bool.or_true _).symm⟩

/-- No codes wait in the shadow of a lane whose calibration is given up. -/
theorem State.abandonLane_timing (none : (s.trim l).timing = none) : ((s.abandonLane l).trim l).timing = .none := by
  have gives : ((s.giveUpLane l).trim l).timing = .none := congrArg TrimX.timing (State.trim_setTrim_same ..)
  cases runs : s.bit (0x8100 + l) 0x0A 0 with
  | false => rw [s.abandonLane_idle l runs]; exact none
  | true => rcases s.abandonLane_runs l runs with eq | eq <;> rw [eq] <;> exact gives

end Lanes

/-! ### The resistor, and the round that runs -/

section Rounds
variable (s : State) (r : Nat)

theorem State.measureResistor_eq : (s.measureResistor r).regs = ((s.setNat 0x8000 0x04 (min r (2 ^ 32 - 1))).setNat 0x8000 0x05 (resistorGrade r)).regs := by
  unfold State.measureResistor
  extract_lets a
  split
  · rfl
  · exact (State.raise_only a 1184 0 (.refl 0x140000000000000000 a) rfl).regs rfl

/-- The reading is shown and graded. -/
theorem State.measureResistor_shows :
    (s.measureResistor r).nat 0x8000 0x04 = min r (2 ^ 32 - 1) ∧ (s.measureResistor r).nat 0x8000 0x05 = resistorGrade r := by
  rw [State.nat_of_regs (s.measureResistor_eq r), State.nat_of_regs (s.measureResistor_eq r)]
  refine ⟨?_, State.nat_setNat_same ..⟩
  rw [State.setNat, State.nat_setReg_at _ _ (by decide) (by decide), if_neg (by omega), State.nat_setNat_same]

theorem State.measureResistor_same : SameEntries (fun i j => i = 0x8000 ∧ (j = 0x04 ∨ j = 0x05)) s (s.measureResistor r) :=
  (((SameEntries.refl _ s).setReg (by decide) ⟨rfl, .inl rfl⟩).setReg (by decide) ⟨rfl, .inr rfl⟩).of_regs (s.measureResistor_eq r)

/-- A bad resistor is raised. -/
theorem State.measureResistor_raises (up : s.isUp = true) (bad : resistorGrade r ≠ 0) :
    (s.measureResistor r).messages.any (fun m => m.source == 1184) = true := by
  unfold State.measureResistor
  rw [if_neg bad]
  refine State.raise_message _ 0 ?_
  unfold State.isUp State.runState at up
  unfold State.isSafe State.runState
  rw [State.setNat, State.nat_setReg_at _ _ (by decide) (by decide), if_neg (by omega), State.setNat, State.nat_setReg_at _ _ (by decide) (by decide),
    if_neg (by omega)]
  simp only [Bool.or_eq_true, beq_iff_eq] at up
  exact beq_false_of_ne (by omega)

/-- A lane's calibration is given up as long as it has no codes in its shadow. -/
def State.abandonUnmeasured (s : State) (l : Nat) : State := if (s.trim l).timing.isNone then s.abandonLane l else s

theorem State.abandonUnmeasured_same (l : Nat) :
    SameEntries (fun i j => (i = 0x8100 + l ∧ j = 0x0A) ∨ (i = 0x2500 + l / 4 ∧ j = 0x01)) s (s.abandonUnmeasured l) :=
  .ite (s.abandonLane_same l) (.refl _ s)

theorem State.abandonUnmeasured_trim {l m : Nat} (apart : m ≠ l) : (s.abandonUnmeasured l).trim m = s.trim m := by
  unfold State.abandonUnmeasured
  split
  · exact s.abandonLane_trim l m apart
  · rfl

theorem State.rereadResistor_eq : s.rereadResistor r =
    if resistorGrade r = 0 then s.measureResistor r else (items 96).foldl State.abandonUnmeasured (s.measureResistor r) := rfl

theorem State.rereadResistor_same : SameEntries (fun i j => calibrationEntry i j) (s.measureResistor r) (s.rereadResistor r) := by
  rw [State.rereadResistor_eq]
  refine .ite (.refl _ _) (.foldl _ fun a l mem => (a.abandonUnmeasured_same l).mono fun i j h => ?_)
  have := List.mem_range.mp mem
  unfold calibrationEntry; omega

theorem State.rereadResistor_grade : (s.rereadResistor r).nat 0x8000 0x05 = resistorGrade r := by
  rw [(s.rereadResistor_same r).nat (by decide) (by unfold calibrationEntry; omega)]
  exact (s.measureResistor_shows r).2

/-- A resistor that reads bad ends the calibrations that have no codes in their shadows. -/
theorem State.rereadResistor_ends {l : Nat} (hl : l < 96) (bad : resistorGrade r ≠ 0) (open_ : (s.trim l).timing = none) :
    (s.rereadResistor r).bit (0x8100 + l) 0x0A 0 = false ∧
      (s.bit (0x8100 + l) 0x0A 0 = true → (s.rereadResistor r).bit (0x8100 + l) 0x0A 4 = true) := by
  rw [State.rereadResistor_eq, if_neg bad]
  have read : SameEntries (fun i j => i = 0x8000 ∧ (j = 0x04 ∨ j = 0x05)) s (s.measureResistor r) := s.measureResistor_same r
  have trims : (s.measureResistor r).trim l = s.trim l :=
    (State.measureResistor_only s r (.refl 0x140000000000000002 s) rfl).trim_kept rfl l
  have lane : ∀ (a : State) m b, m ∈ items 96 → m ≠ l → (a.abandonUnmeasured m).bit (0x8100 + l) 0x0A b = a.bit (0x8100 + l) 0x0A b := fun a m b mem ne =>
    (a.abandonUnmeasured_same m).bit b (by decide) (by have := List.mem_range.mp mem; omega)
  have own : ∀ a : State, (a.trim l).timing = none → a.abandonUnmeasured l = a.abandonLane l := fun a none => if_pos (by rw [none]; rfl)
  refine foldl_attains
    (Before := fun a : State => (a.trim l).timing = none ∧ (s.bit (0x8100 + l) 0x0A 0 = true → (a.bit (0x8100 + l) 0x0A 4 || a.bit (0x8100 + l) 0x0A 0) = true))
    (After := fun a : State => ((a.trim l).timing = none ∧ a.bit (0x8100 + l) 0x0A 0 = false) ∧ (s.bit (0x8100 + l) 0x0A 0 = true → a.bit (0x8100 + l) 0x0A 4 = true))
    (List.mem_range.mpr hl) (fun a h => ?_) (fun a m mem h => ?_) (fun a m mem h => ?_) ?_ |>.imp And.right id
  · obtain ⟨ends, shows⟩ := a.abandonLane_ends l
    rw [own a h.1]
    exact ⟨⟨a.abandonLane_timing l h.1, ends⟩, fun was => shows.trans (h.2 was)⟩
  · by_cases same : m = l
    · subst same
      obtain ⟨ends, shows⟩ := a.abandonLane_ends m
      rw [own a h.1]
      exact ⟨a.abandonLane_timing m h.1, fun was => by rw [shows, h.2 was]; rfl⟩
    · exact ⟨(congrArg TrimX.timing (a.abandonUnmeasured_trim (Ne.symm same))).trans h.1, fun was => by
        rw [lane a m 4 mem same, lane a m 0 mem same]; exact h.2 was⟩
  · by_cases same : m = l
    · subst same
      rw [own a h.1.1, a.abandonLane_idle m h.1.2]
      exact h
    · exact ⟨⟨(congrArg TrimX.timing (a.abandonUnmeasured_trim (Ne.symm same))).trans h.1.1, (lane a m 0 mem same).trans h.1.2⟩, fun was =>
        (lane a m 4 mem same).trans (h.2 was)⟩
  · refine ⟨trims ▸ open_, fun was => ?_⟩
    rw [read.bit 0 (by decide) (by omega), was, Bool.or_true]

end Rounds

/-! ### A round that begins, and one that ends -/

section Begins
variable {s : State} {r : Nat} {delays : List Nat}

/-- The round has begun: lines and pads are measured, and the lanes are due. -/
def State.beginRound (s : State) (delays : List Nat) : State := (({ s with roundRuns := true }.measureLines delays).measurePads.applyCaptures).markDue

/-- The spares of the sensors begin at the first channel. -/
def State.rewindSensors (s : State) : State := (items 5).foldl (fun a d => a.setNat (0x8200 + d) 0x07 0) s

theorem State.startRound_runs (runs : s.roundRuns = true) : s.startRound r delays = { s.rereadResistor r with roundDue := some (r, delays) } := if_pos runs

theorem State.startRound_bad (idle : s.roundRuns = false) (bad : resistorGrade r ≠ 0) : s.startRound r delays = s.measureResistor r :=
  (if_neg (by rw [idle]; decide)).trans (if_pos bad)

theorem State.startRound_good (idle : s.roundRuns = false) (good : resistorGrade r = 0) :
    s.startRound r delays = (items 24).foldl State.calibrateNext ((s.measureResistor r).beginRound delays).rewindSensors :=
  (if_neg (by rw [idle]; decide)).trans (if_neg (not_not.mpr good))

/-- Each lane of an unfenced cluster is due. -/
theorem State.markDue_due {l : Nat} (hl : l < 96) (whole : s.clusterFenced (l / 4) = false) : s.markDue.bit (0x8100 + l) 0x0A 1 = true := by
  unfold State.markDue
  refine foldl_attains (x := l) (Before := fun a : State => a.clusterFenced (l / 4) = false) (After := fun a : State => a.bit (0x8100 + l) 0x0A 1 = true)
    (List.mem_range.mpr (by omega)) (fun a h => ?_) (fun a m _ h => ?_) (fun a m _ h => ?_) whole
  · have served : ¬(l < 96 ∧ a.clusterFenced (l / 4) = true) := fun fenced => absurd (h.symm.trans fenced.2) (by decide)
    rw [if_neg served]
    exact State.bit_putBit_same ..
  · split <;> exact h
  · split
    · exact h
    · by_cases same : l = m
      · exact same ▸ State.bit_putBit_same ..
      · exact (State.bit_putBit_lane (.inl same)).trans h

theorem State.markDue_same : SameEntries calibrationEntry s s.markDue :=
  .foldl _ fun a l mem => .ite (.refl _ a) ((SameEntries.refl _ a).putBit (by decide) (by
    have := List.mem_range.mp mem
    unfold calibrationEntry; omega))

theorem State.rewindSensors_same : SameEntries (fun i j => 0x8200 ≤ i ∧ i < 0x8205 ∧ j = 0x07) s s.rewindSensors :=
  .foldl _ fun a d mem => (SameEntries.refl _ a).setReg (by decide) (by
    have := List.mem_range.mp mem
    omega)

theorem State.beginRound_same : SameEntries calibrationEntry s (s.beginRound delays) := by
  unfold State.beginRound
  generalize begun : ({ s with roundRuns := true } : State) = u
  have lines : Only 0x2300000000000 u (u.measureLines delays).measurePads.applyCaptures := State.applyCaptures_only _
    (State.measurePads_only _ (State.measureLines_only u delays (.refl _ u) rfl) rfl) rfl
  exact ((SameEntries.refl _ s).of_regs (by rw [lines.regs rfl, ← begun])).trans State.markDue_same

theorem State.calibrateAll_same : SameEntries calibrationEntry s ((items 24).foldl State.calibrateNext s) := .foldl _ fun a c _ => a.calibrateNext_same c

theorem State.calibrateAll_dueOrRuns {l : Nat} (h : s.dueOrRuns l) : ((items 24).foldl State.calibrateNext s).dueOrRuns l :=
  List.foldlRecOn (motive := fun a : State => a.dueOrRuns l) _ _ h fun a h c _ => a.calibrateNext_dueOrRuns l c h

theorem State.calibrateAll_only : Only 0x4000000000002 s ((items 24).foldl State.calibrateNext s) :=
  .foldl (.refl _ s) fun a c => State.calibrateNext_only a c (.refl 0x4000000000002 a) rfl

theorem State.rewindSensors_only : Only 0x2 s s.rewindSensors := .foldl (.refl _ s) fun a _ => State.setNat_only a _ _ _ (.refl 0x2 a) rfl

/-- The parts that a round writes as it begins. -/
theorem State.beginRound_only : Only 0x2300000000002 { s with roundRuns := true } (s.beginRound delays) :=
  State.markDue_only _ (State.applyCaptures_only _ (State.measurePads_only _ (State.measureLines_only _ delays (.refl _ _) rfl) rfl) rfl) rfl

/-- A round that begins runs, and no other waits. -/
theorem State.startRound_begins (idle : s.roundRuns = false) (good : resistorGrade r = 0) :
    (s.startRound r delays).roundRuns = true ∧ (s.startRound r delays).messages = s.messages := by
  rw [State.startRound_good idle good]
  have measured : (s.measureResistor r).messages = s.messages := by
    unfold State.measureResistor
    rw [if_pos good]; rfl
  generalize s.measureResistor r = u at *
  have first : Only 0x2300000000002 { u with roundRuns := true } (u.beginRound delays) := State.beginRound_only
  have second : Only 0x2 (u.beginRound delays) (u.beginRound delays).rewindSensors := State.rewindSensors_only
  have third := State.calibrateAll_only (s := (u.beginRound delays).rewindSensors)
  exact ⟨by rw [third.roundRuns rfl, second.roundRuns rfl, first.roundRuns rfl],
    by rw [third.messages rfl, second.messages rfl, first.messages rfl, ← measured]⟩

/-- With a good resistor every lane of an unfenced cluster is due or begins. -/
theorem State.startRound_due (idle : s.roundRuns = false) (good : resistorGrade r = 0) {l : Nat} (hl : l < 96)
    (whole : s.clusterFenced (l / 4) = false) : (s.startRound r delays).dueOrRuns l := by
  rw [State.startRound_good idle good]
  have fences : (s.measureResistor r).fences = s.fences := (State.measureResistor_only s r (.refl 0x140000000000000002 s) rfl).fences rfl
  generalize s.measureResistor r = u at *
  refine State.calibrateAll_dueOrRuns (.inl ?_)
  rw [State.rewindSensors_same.bit 1 (by decide) (by omega)]
  refine State.markDue_due hl ?_
  have lines : Only 0x2300000000000 { u with roundRuns := true } ({ u with roundRuns := true }.measureLines delays).measurePads.applyCaptures :=
    State.applyCaptures_only _ (State.measurePads_only _ (State.measureLines_only _ delays (.refl _ _) rfl) rfl) rfl
  unfold State.clusterFenced State.regionFenced State.hasFence at whole ⊢
  rw [lines.fences rfl]
  exact fences ▸ whole

/-- What the start of a round shows besides where lanes and sensors stand is the resistor. -/
theorem State.startRound_same (s : State) (r : Nat) (delays : List Nat) :
    SameEntries (fun i j => calibrationEntry i j ∨ (0x8200 ≤ i ∧ i < 0x8205 ∧ j = 0x07)) (s.measureResistor r) (s.startRound r delays) := by
  cases idle : s.roundRuns with
  | true =>
    rw [State.startRound_runs idle]
    exact ((s.rereadResistor_same r).mono fun _ _ => .inl).of_regs rfl
  | false =>
    by_cases good : resistorGrade r = 0
    · rw [State.startRound_good idle good]
      exact ((State.beginRound_same.mono fun _ _ => .inl).trans (State.rewindSensors_same.mono fun _ _ => .inr)).trans
        (State.calibrateAll_same.mono fun _ _ => .inl)
    · rw [State.startRound_bad idle good]
      exact .refl _ _

/-- The reading that a trigger brings is shown and graded. -/
theorem State.startRound_grade (s : State) (r : Nat) (delays : List Nat) :
    (s.startRound r delays).nat 0x8000 0x04 = min r (2 ^ 32 - 1) ∧ (s.startRound r delays).nat 0x8000 0x05 = resistorGrade r := by
  have shows := s.measureResistor_shows r
  have same := s.startRound_same r delays
  exact ⟨(same.nat (by decide) (by unfold calibrationEntry; omega)).trans shows.1, (same.nat (by decide) (by unfold calibrationEntry; omega)).trans shows.2⟩

/-- A round that begins leaves what waits. -/
theorem State.startRound_waits (idle : s.roundRuns = false) : (s.startRound r delays).roundDue = s.roundDue := by
  have measured := (State.measureResistor_only s r (.refl 0x140000000000000002 s) rfl).roundDue rfl
  by_cases good : resistorGrade r = 0
  · rw [State.startRound_good idle good]
    generalize s.measureResistor r = u at *
    have first : Only 0x2300000000002 { u with roundRuns := true } (u.beginRound delays) := State.beginRound_only
    have second : Only 0x2 (u.beginRound delays) (u.beginRound delays).rewindSensors := State.rewindSensors_only
    have third := State.calibrateAll_only (s := (u.beginRound delays).rewindSensors)
    rw [third.roundDue rfl, second.roundDue rfl, first.roundDue rfl, ← measured]
  · rw [State.startRound_bad idle good]
    exact measured

/-- Whether a round runs after a trigger in service. -/
theorem State.startRound_roundRuns (idle : s.roundRuns = false) : (s.startRound r delays).roundRuns = decide (resistorGrade r = 0) := by
  by_cases good : resistorGrade r = 0
  · rw [(State.startRound_begins idle good).1, decide_eq_true good]
  · rw [State.startRound_bad idle good, decide_eq_false good]
    exact ((State.measureResistor_only s r (.refl 0x140000000000000002 s) rfl).roundRuns rfl).trans idle

/-- A trigger while a round runs has another follow it. -/
theorem State.startRound_follows (runs : s.roundRuns = true) :
    (s.startRound r delays).roundDue = some (r, delays) ∧ (s.startRound r delays).roundRuns = true := by
  rw [State.startRound_runs runs]
  exact ⟨rfl, ((State.rereadResistor_only s r (.refl 0x150004000000000002 s) rfl).roundRuns rfl).trans runs⟩

end Begins

section Commands
variable {s : State}

theorem exec_calibrationPeriodExpiry {r : Nat} {delays : List Nat} (up : s.isUp = true) :
    exec (.calibrationPeriodExpiry r delays) s = .next (s.startRound r delays) := congrArg _ (if_pos up)

theorem exec_temperatureTrigger {d : BankId} {r : Nat} {delays : List Nat} (up : s.isUp = true) :
    exec (.temperatureTrigger d r delays) s = .next (s.startRound r delays) := congrArg _ (if_pos up)

theorem exec_calibrateNow {role : Role} {r : Nat} {delays : List Nat} (up : s.isUp = true) (admitted : s.admits role 0x8000 0x03) :
    exec (.calibrateNow role r delays) s = .next (s.startRound r delays).done := by
  change execCalibrateNow role r delays s = _
  unfold execCalibrateNow
  rw [State.hostWrite_admitted admitted, if_pos up]

/-- The round is counted and timed. -/
def State.noteRound (s : State) : State := (({ s with roundRuns := false }.inc32 0x8000 0x06).setNat 0x8000 0x07 (time80 (s.tbNow 0)))

theorem exec_calibrationRoundEnd (runs : s.roundRuns = true) :
    exec .calibrationRoundEnd s = .next (match s.roundDue with
      | some (r, d) => { s.noteRound with roundDue := none }.startRound r d
      | none => s.noteRound) := by
  change execCalibrationRoundEnd s = _
  unfold execCalibrationRoundEnd
  rw [runs]
  rfl

theorem State.noteRound_shows : s.noteRound.nat 0x8000 0x06 = min (s.nat 0x8000 0x06 + 1) (2 ^ 32 - 1) ∧ s.noteRound.nat 0x8000 0x07 = time80 (s.tbNow 0) := by
  refine ⟨?_, State.nat_setNat_same ..⟩
  unfold State.noteRound
  rw [State.setNat, State.nat_setReg_at _ _ (by decide) (by decide), if_neg (by omega)]
  exact State.nat_addSat_same ..

theorem State.noteRound_ends : s.noteRound.roundRuns = false ∧ s.noteRound.roundDue = s.roundDue := by
  have frame : Only partRegs { s with roundRuns := false } s.noteRound := State.setNat_only _ _ _ _ (State.inc32_only _ _ _ (.refl _ _) rfl) rfl
  exact ⟨frame.roundRuns rfl, frame.roundDue rfl⟩

/-- A round that begins leaves the count of rounds and the time of the last. -/
theorem State.startRound_leaves (r : Nat) (delays : List Nat) {j : Nat} (hj : j = 0x06 ∨ j = 0x07) :
    (s.startRound r delays).nat 0x8000 j = s.nat 0x8000 j := by
  rw [(s.startRound_same r delays).nat (by omega) (by unfold calibrationEntry; omega), (s.measureResistor_same r).nat (by omega) (by omega)]

/-! ### Sensor channels -/

/-- A trim is measured and made the working one. -/
def State.trimSensor (s : State) (place : Nat) : State := ((s.shadowAnalog place).shadowAnalog (place + 8)).strobeAnalog [place, place + 8]

theorem State.trimSensor_only (place : Nat) : Only (partAnalog ||| partAnalogShadow) s (s.trimSensor place) :=
  State.strobeAnalog_only _ _ (State.shadowAnalog_only _ _ (State.shadowAnalog_only s place (.refl _ s) rfl) rfl) rfl

/-- A strobed trim is the one that was measured. -/
theorem State.trimSensor_analog (place : Nat) :
    Sparse.get 0 (s.trimSensor place).analog place = (Config.analogTrim place (s.nat 0x8000 0x06)).val := by
  simp [State.trimSensor, State.strobeAnalog, State.shadowAnalog, Sparse.get_set, State.nat, State.reg]

/-- The reading of a channel that returns. -/
def channelReading (channel : Fin 7) (reading : Int) : Int :=
  if channel.val < 4 then max (-32768) (min 32767 reading) else max 0 (min 65535 reading)

/-- A channel returns fresh from its calibration. -/
def State.returnChannel (s : State) (d : BankId) (channel : Fin 7) (reading : Int) : State :=
  (((s.trimSensor (64 + 16 * d.val + channel.val)).setReg (0x8200 + d) (channel.val + 1) (channelReading channel reading)).setNat (0x8200 + d) 0x07
    (if channel.val < 5 then channel.val + 1 else 0xFF)).setNat (0x8200 + d) 0x08 (setBit (s.nat (0x8200 + d) 0x08) channel.val false)

theorem exec_sensorChannelCalibration {d : BankId} {channel : Fin 7} {reading : Int} (up : s.isUp = true) (good : s.nat 0x8000 0x05 = 0)
    (turn : s.nat (0x8200 + d) 0x07 = channel) (served : channel.val < 6) :
    exec (.sensorChannelCalibration d channel reading) s = .next (s.returnChannel d channel reading) :=
  congrArg _ ((if_neg (by simp [up, good])).trans ((if_neg (by omega)).trans (if_neg (by simp [turn]))))

theorem exec_spareCalibration {d : BankId} {reading : Int} (up : s.isUp = true) (good : s.nat 0x8000 0x05 = 0) (free : s.nat (0x8200 + d) 0x07 = 0xFF)
    (runs : s.roundRuns = true) : exec (.sensorChannelCalibration d 6 reading) s = .next (s.trimSensor (64 + 16 * d.val + 6)) :=
  congrArg _ ((if_neg (by simp [up, good])).trans ((if_pos rfl).trans (if_pos ⟨free, runs⟩)))

theorem State.returnChannel_shows {d : BankId} {channel : Fin 7} {reading : Int} (served : channel.val < 6) :
    (s.returnChannel d channel reading).nat (0x8200 + d) 0x07 = (if channel.val < 5 then channel.val + 1 else 0xFF) ∧
      (s.returnChannel d channel reading).bit (0x8200 + d) 0x08 channel = false ∧
      (s.returnChannel d channel reading).reg (0x8200 + d) (channel.val + 1) = channelReading channel reading := by
  unfold State.returnChannel
  refine ⟨?_, ?_, ?_⟩
  · rw [State.setNat, State.nat_setReg_at _ _ (by decide) (by decide), if_neg (by omega), State.nat_setNat_same]
  · rw [State.bit_setNat, if_pos rfl, testBit_setBit, if_pos rfl]
  · rw [State.setNat, State.reg_setReg_at _ _ (by decide) (by omega), if_neg (by omega), State.setNat, State.reg_setReg_at _ _ (by decide) (by omega),
      if_neg (by omega), State.reg_setReg_at _ _ (by omega) (by omega), if_pos ⟨rfl, rfl⟩]

theorem State.returnChannel_same (d : BankId) (channel : Fin 7) (reading : Int) :
    SameEntries (fun i j => i = 0x8200 + d.val ∧ (j = 0x07 ∨ j = 0x08 ∨ j = channel.val + 1)) s (s.returnChannel d channel reading) :=
  ((((SameEntries.refl _ s).of_regs ((State.trimSensor_only _).regs rfl)).setReg (by omega) ⟨rfl, .inr (.inr rfl)⟩).setReg (by decide) ⟨rfl, .inl rfl⟩).setReg
    (by decide) ⟨rfl, .inr (.inl rfl)⟩

theorem State.returnChannel_only (d : BankId) (channel : Fin 7) (reading : Int) :
    Only (partRegs ||| partAnalog ||| partAnalogShadow) s (s.returnChannel d channel reading) :=
  State.setNat_only _ _ _ _ (State.setNat_only _ _ _ _ (State.setReg_only _ _ _ _
    (State.strobeAnalog_only _ _ (State.shadowAnalog_only _ _ (State.shadowAnalog_only s _ (.refl _ s) rfl) rfl) rfl) rfl) rfl) rfl

end Commands

/-- Settles O37: a trigger starts a round, or has one follow the round that runs; the resistor is graded, and lanes are due or given up by its grade; a
round's end is counted; a firefly output takes its vernier; a sensor channel returns fresh, and the spare goes on. -/
theorem calibrationRoundsRun : Obligations.CalibrationRoundsRun := by
  unfold Obligations.CalibrationRoundsRun
  refine ⟨fun d role r delays s up => ⟨fun runs => ⟨.of (exec_calibrationPeriodExpiry up) ?_, .of (exec_temperatureTrigger up) ?_⟩,
      fun idle => ⟨.of (exec_calibrationPeriodExpiry up) ?_, .of (exec_temperatureTrigger up) ?_⟩, fun admitted => .of (exec_calibrateNow up admitted) ?_⟩,
    fun s runs => .of (exec_calibrationRoundEnd runs) ?_, fun f s v waits => ?_,
    fun d ch reading s up good turn served => .of (exec_sensorChannelCalibration up good turn served) ?_,
    fun d reading s up good free runs => .of (exec_spareCalibration up good free runs) ?_⟩
  · obtain ⟨due, goes⟩ := State.startRound_follows (r := r) (delays := delays) runs
    refine ⟨due, goes, (s.startRound_grade r delays).2, fun l hl bad open_ => ?_⟩
    have ends := s.rereadResistor_ends r hl bad open_
    rw [State.startRound_runs runs]
    exact ends
  · obtain ⟨due, goes⟩ := State.startRound_follows (r := r) (delays := delays) runs
    exact ⟨due, goes, (s.startRound_grade r delays).2⟩
  · obtain ⟨reading, grade⟩ := s.startRound_grade r delays
    refine ⟨reading, grade, fun bad => ⟨?_, ?_⟩, fun good => ?_⟩
    · rw [State.startRound_roundRuns idle, decide_eq_false bad]
    · rw [State.startRound_bad idle bad]
      exact s.measureResistor_raises r up bad
    · obtain ⟨runs, quiet⟩ := State.startRound_begins (delays := delays) idle good
      exact ⟨runs, quiet, fun l hl whole => State.startRound_due idle good hl whole⟩
  · exact ⟨(s.startRound_grade r delays).2, State.startRound_roundRuns idle⟩
  · have grade := (s.startRound_grade r delays).2
    have follows := fun runs => (State.startRound_follows (s := s) (r := r) (delays := delays) runs).1
    have begins := fun idle => State.startRound_roundRuns (s := s) (r := r) (delays := delays) idle
    generalize s.startRound r delays = t at *
    exact ⟨rfl, follows, fun idle => ⟨grade, begins idle⟩⟩
  · obtain ⟨count, time⟩ := s.noteRound_shows
    obtain ⟨idle, waits⟩ := s.noteRound_ends
    generalize s.noteRound = u at *
    cases due : s.roundDue with
    | none => exact ⟨count, time, waits.trans due, fun _ => idle⟩
    | some x =>
      obtain ⟨r, d⟩ := x
      exact ⟨(State.startRound_leaves r d (.inl rfl)).trans count, (State.startRound_leaves r d (.inr rfl)).trans time, State.startRound_waits idle,
        fun h => nomatch h⟩
  · have run : exec (.fireflyVernierApply f) s = .next (s.setFirefly f { s.firefly f with vernier := v, vernierShadow := none }) := by
      change execFireflyVernierApply f s = _
      unfold execFireflyVernierApply
      rw [waits]
    exact .of run ⟨State.firefly_setFirefly_same .., fun k ne => (State.firefly_setFirefly ..).trans (if_neg fun h => ne h.symm),
      State.setFirefly_only _ _ _ (.refl _ s) rfl⟩
  · obtain ⟨next, fresh, shown⟩ := State.returnChannel_shows (s := s) (d := d) (reading := reading) served
    exact ⟨next, fresh, shown, State.returnChannel_same d ch reading, State.returnChannel_only d ch reading⟩
  · exact ⟨State.trimSensor_only _, (congrArg (Sparse.get 0 _) (by omega)).trans ((State.trimSensor_analog _).trans (by
      rw [show 64 + 16 * d.val + 6 = 70 + 16 * d.val by omega]))⟩

end Sys2Proof.Machine

namespace Sys2Proof.Machine

/-! ## The Keacon link (14 R348 to R352, R356)

What a port does as it comes up leaves the entries of the twin pair, and the link itself. -/

section Ports
variable (s : State) (p c : Nat)

/-- The entries outside those of the twin pair. -/
def untwinnedEntry (i _j : Nat) : Prop := i < 0x9000 ∨ 0x9160 ≤ i

theorem State.notice_untwinned (cls : Nat) (payload : List Byte) : SameEntries untwinnedEntry s (s.notice cls payload) :=
  (s.notice_selects cls payload).entries.mono fun i j h => by
    unfold selectorEntry servoEntry at h; unfold untwinnedEntry; omega

theorem State.refsUpdate_untwinned : SameEntries untwinnedEntry s s.refsUpdate :=
  s.refsUpdate_entries.mono fun i j h => by
    unfold selectorEntry servoEntry timingEntry at h; unfold untwinnedEntry; omega

theorem State.calibrateNext_untwinned : SameEntries untwinnedEntry s (s.calibrateNext c) :=
  (s.calibrateNext_same c).mono fun i j h => by unfold calibrationEntry at h; unfold untwinnedEntry; omega

theorem untwinnedEntry_of {i : Nat} (j : Nat) (h : i < 0x9000) : untwinnedEntry i j := .inl h

variable {p}

theorem State.timing_untwinned {t : State} (hp : p < 96) (same : SameEntries (fun i j => i = 0x2400 + p ∧ (j = 0x01 ∨ j = 0x02)) s t) :
    SameEntries untwinnedEntry s t := same.mono fun i j h => by unfold untwinnedEntry; omega

theorem State.timingOff_untwinned (hp : p < 96) : SameEntries untwinnedEntry s (s.timingOff p) := by
  unfold State.timingOff
  extract_lets a x b
  exact State.timing_untwinned s hp (((s.abandonAsymmetry_same p).of_regs (u := b) rfl).trans (b.putTiming_same p 0 _))

theorem State.timingOn_untwinned (hp : p < 96) : SameEntries untwinnedEntry s (s.timingOn p) := by
  unfold State.timingOn
  extract_lets x a c d e
  have ha : SameEntries (fun i j => i = 0x2400 + p ∧ (j = 0x01 ∨ j = 0x02)) s a := (SameEntries.refl _ s).of_regs rfl
  refine State.timing_untwinned s hp (.ite (ha.trans (a.putTiming_same p 1 0)) ?_)
  unfold State.enterUnverified
  exact .ite (ha.trans (a.putTiming_same p 3 e)) ((ha.trans (a.putTiming_same p 3 e)).trans (State.noteUnverified_same _ p))

theorem State.portUpAs_untwinned (hp : p < 96) (st : Nat) : SameEntries untwinnedEntry s (s.portUpAs p st) := by
  unfold State.portUpAs
  extract_lets a x b d
  have hb : SameEntries untwinnedEntry s b := ((SameEntries.refl _ s).setReg (by decide) (untwinnedEntry_of _ (by omega))).of_regs rfl
  have hd : SameEntries untwinnedEntry s d := .ite (hb.trans (b.timingOn_untwinned hp)) (hb.trans (b.timingOff_untwinned hp))
  exact (hd.trans d.refsUpdate_untwinned).trans (State.calibrateNext_untwinned _ _)

theorem State.portMode_untwinned (hp : p < 96) (st : Nat) : SameEntries untwinnedEntry s (s.portMode p st) := by
  unfold State.portMode
  extract_lets a d
  have ha : SameEntries untwinnedEntry s a := (SameEntries.refl _ s).setReg (by decide) (untwinnedEntry_of _ (by omega))
  have hd : SameEntries untwinnedEntry s d := .ite (ha.trans (a.timingOn_untwinned hp)) (ha.trans (a.timingOff_untwinned hp))
  exact .ite (.refl _ s) (hd.trans d.refsUpdate_untwinned)

theorem State.judgePort_untwinned (hp : p < 96) : SameEntries untwinnedEntry s (s.judgePort p) := by
  unfold State.judgePort
  refine .ite (.refl _ s) ?_
  split
  · exact .refl _ s
  next st _ => exact .ite (s.portMode_untwinned hp st) (.ite ((SameEntries.refl _ s).of_regs rfl) (s.portUpAs_untwinned hp st))

/-- The entries besides those at 9000h. -/
def otherEntry (i _j : Nat) : Prop := i ≠ 0x9000

theorem otherEntry_of {i : Nat} (j : Nat) (h : i ≠ 0x9000) : otherEntry i j := h

variable {s} in
theorem SameEntries.other {t : State} (same : SameEntries untwinnedEntry s t) : SameEntries otherEntry s t :=
  same.mono fun i j h => by unfold untwinnedEntry at h; unfold otherEntry; omega

theorem State.regionBack_regs (g : Nat) : (s.regionBack g).regs = s.regs := (State.regionBack_only s g (.refl 0x800000000000000800000 s) rfl).regs rfl

theorem State.uncover_apart (hp : p < 96) : SameEntries otherEntry s (s.uncover p) :=
  .ite (.refl _ s) (SameEntries.of_regs (t := (s.setNat (0x9100 + p) 0x03 (s.idleCover p)).judgePort p)
    (((SameEntries.refl _ s).setReg (by decide) (otherEntry_of _ (by omega))).trans (State.judgePort_untwinned _ hp).other) (State.regionBack_regs _ _))

theorem State.sendControl_regs (code value : Nat) : (s.sendControl code value).regs = s.regs :=
  (State.sendControl_only s code value (.refl partTwin s) rfl).regs rfl

theorem State.uncoverArrives_apart (hp : p < 96) : SameEntries otherEntry s (s.uncoverArrives p) := by
  unfold State.uncoverArrives
  extract_lets a
  exact SameEntries.of_regs (.ite ((SameEntries.refl _ s).setReg (by decide) (otherEntry_of _ (by omega))) (.refl _ s)) (a.sendControl_regs _ _)

/-- One port's cover state is brought up to date as the link comes up. -/
def State.completeUncoverOf (covers : List Nat) (s : State) (p : Nat) : State :=
  let partner := s.nat (0x9100 + p) 0x01
  let theirs := if partner < 96 then covers.getD partner 0 else 0
  match s.nat (0x9100 + p) 0x03 with
  | 3 => if theirs = 2 then s else if theirs = 4 then s.uncoverArrives p else s.setNat (0x9100 + p) 0x03 (s.idleCover p)
  | 4 => if theirs = 3 then s.sendControl 4 partner else s.uncover p
  | _ => s

theorem State.completeUncover_eq (covers : List Nat) : s.completeUncover covers = (items 96).foldl (State.completeUncoverOf covers) s := rfl

theorem State.completeUncoverOf_apart (covers : List Nat) (hp : p < 96) : SameEntries otherEntry s (s.completeUncoverOf covers p) := by
  unfold State.completeUncoverOf
  extract_lets partner theirs
  split
  · exact .ite (.refl _ s) (.ite (s.uncoverArrives_apart hp) ((SameEntries.refl _ s).setReg (by decide) (otherEntry_of _ (by omega))))
  · exact .ite ((SameEntries.refl _ s).of_regs (s.sendControl_regs _ _)) (s.uncover_apart hp)
  · exact .refl _ s

theorem State.completeUncover_apart (covers : List Nat) : SameEntries otherEntry s (s.completeUncover covers) :=
  .foldl _ fun a _ mem => a.completeUncoverOf_apart covers (List.mem_range.mp mem)

end Ports

/-! ### The link itself -/

/-- What the link is: the frames on its lanes, what is known of the twin, and whether the twin is heard. -/
def TwinX.link (x : TwinX) : Sparse (List KeaconSent) × Bool × Bool × Bool × Bool × Nat :=
  (x.laneOut, x.linkUp, x.cricketOk, x.idConflict, x.incompatible, x.twinFenced)

section Link
variable (s : State)

theorem State.sendControl_link (code value : Nat) : (s.sendControl code value).twin.link = s.twin.link := by
  unfold State.sendControl
  split <;> rfl

theorem State.uncover_twin (p : Nat) : (s.uncover p).twin = s.twin := (State.uncover_only s p (.refl 0x9001407f4040000800342 s) rfl).twin rfl

theorem State.uncoverArrives_link (p : Nat) : (s.uncoverArrives p).twin.link = s.twin.link := by
  unfold State.uncoverArrives
  extract_lets a
  refine (a.sendControl_link _ _).trans ?_
  simp only [a]
  split <;> rfl

theorem State.completeUncover_link (covers : List Nat) : (s.completeUncover covers).twin.link = s.twin.link := by
  rw [State.completeUncover_eq]
  refine List.foldlRecOn (motive := fun a : State => a.twin.link = s.twin.link) _ _ rfl fun a same port _ => Eq.trans ?_ same
  unfold State.completeUncoverOf
  extract_lets partner theirs
  split
  · split_ifs
    · rfl
    · exact a.uncoverArrives_link port
    · rfl
  · split_ifs
    · exact a.sendControl_link _ _
    · rw [a.uncover_twin]
  · rfl

/-- A resync starts only over a link between twins that fit. -/
theorem State.startResync_same : SameEntries (fun i j => i = 0x9000 ∧ j = 0x0C) s s.startResync := by
  unfold State.startResync
  extract_lets image x
  exact .ite (.refl _ s) (((SameEntries.refl _ s).of_regs rfl).setReg (by decide) ⟨rfl, rfl⟩)

theorem State.startResync_link : s.startResync.twin.link = s.twin.link := by
  unfold State.startResync
  split <;> rfl

theorem State.startResync_unfit (unfit : s.twin.incompatible = true) : s.startResync = s := if_pos (by simp [unfit])

theorem State.startResync_begins (up : s.twin.linkUp = true) (fits : s.twin.incompatible = false) (own : s.twin.idConflict = false) :
    s.startResync.nat 0x9000 0x0C = 1 := by
  unfold State.startResync
  rw [if_neg (by simp [up, fits, own])]
  exact State.nat_setNat_same ..

end Link

/-! ### Roles -/

/-- The entries that a change of role leaves: those of the twin pair but for the role and the mirror's state. -/
def roleEntry (i j : Nat) : Prop := i = 0x9000 → j = 0x01 ∨ j = 0x0C

section Roles
variable (s : State) (r : Nat)

theorem otherEntry.role {i j : Nat} (h : otherEntry i j) : roleEntry i j := fun same => absurd same h

/-- The pins that follow a role. -/
def State.holdRole (s : State) (r : Nat) : State :=
  { s with twin := { s.twin with holdOut := decide (r < 2), heldLong := decide (r < 2) && s.leads && s.twin.heldLong } }

/-- A role is shown and told to the hosts, and what debug holds ends at a lead. -/
def State.showRole (s : State) (r : Nat) : State :=
  let t := ((s.holdRole r).setNat 0x9000 0x01 r).stateNotice
  if decide (r < 2) && !s.leads then t.endIntrusion else t

theorem State.setRole_eq : s.setRole r = if s.nat 0x9000 0x01 = r then s else (s.showRole r).startResync := rfl

theorem State.resumeThreads_apart : SameEntries otherEntry s s.resumeThreads :=
  .foldl _ fun a e mem => by
    have := List.mem_range.mp mem
    exact .ite (.refl _ a) (.ite (((SameEntries.refl _ a).of_regs rfl).setReg (by decide) (otherEntry_of _ (by omega))) ((SameEntries.refl _ a).of_regs rfl))

theorem State.endIntrusion_apart : SameEntries otherEntry s s.endIntrusion :=
  s.resumeThreads_apart.trans (.foldl _ fun a _ _ => (SameEntries.refl _ a).of_regs rfl)

/-- What a shown role leaves besides the role's own entry. -/
theorem State.showRole_apart : SameEntries otherEntry ((s.holdRole r).setNat 0x9000 0x01 r) (s.showRole r) :=
  .ite ((State.notice_untwinned _ 2 _).other.trans (State.endIntrusion_apart _)) (State.notice_untwinned _ 2 _).other

theorem State.showRole_role : (s.showRole r).nat 0x9000 0x01 = r :=
  ((s.showRole_apart r).nat (by decide) (not_not.mpr rfl)).trans (State.nat_setNat_same ..)

theorem State.showRole_same {j : Nat} (hj : j < 256) (apart : j ≠ 0x01) : (s.showRole r).nat 0x9000 j = s.nat 0x9000 j := by
  rw [(s.showRole_apart r).nat hj (not_not.mpr rfl), State.setNat, State.nat_setReg_at _ _ (by decide) hj, if_neg fun h => apart h.2.symm]
  rfl

theorem State.showRole_twin : (s.showRole r).twin = (s.holdRole r).twin := by
  unfold State.showRole
  extract_lets t
  have told : t.twin = (s.holdRole r).twin := (State.notice_only _ _ _ (.refl 0x100000000000000000042 _) rfl).twin rfl
  split
  · exact ((State.endIntrusion_only t (.refl 0x400000000000000000002 t) rfl).twin rfl).trans told
  · exact told

theorem State.showRole_link : (s.showRole r).twin.link = s.twin.link :=
  (congrArg TwinX.link (s.showRole_twin r)).trans rfl

/-- A role that is set is the role. -/
theorem State.setRole_role : (s.setRole r).nat 0x9000 0x01 = r := by
  rw [State.setRole_eq]
  split
  · assumption
  · rw [(State.startResync_same _).nat (by decide) (by omega)]
    exact s.showRole_role r

theorem State.setRole_same {j : Nat} (hj : j < 256) (role : j ≠ 0x01) (mirror : j ≠ 0x0C) : (s.setRole r).nat 0x9000 j = s.nat 0x9000 j := by
  rw [State.setRole_eq]
  split
  · rfl
  · rw [(State.startResync_same _).nat hj (by omega)]
    exact s.showRole_same r hj role

theorem State.setRole_link : (s.setRole r).twin.link = s.twin.link := by
  rw [State.setRole_eq]
  split
  · rfl
  · exact (State.startResync_link _).trans (s.showRole_link r)

/-- Between twins that do not fit no change of role starts a resync. -/
theorem State.setRole_unfit (unfit : s.twin.incompatible = true) : (s.setRole r).nat 0x9000 0x0C = s.nat 0x9000 0x0C := by
  rw [State.setRole_eq]
  split
  · rfl
  · rw [State.startResync_unfit _ (by rw [s.showRole_twin r]; exact unfit)]
    exact s.showRole_same r (by decide) (by decide)

end Roles

/-! ### The link comes up -/

section BringUp
variable (s : State) (twinId layout fenced tb0 : Nat) (lead : Bool) (covers : List Nat)

/-- The link is up to a twin that is known. -/
def State.meetTwin (s : State) (twinId layout fenced : Nat) : State :=
  { s with twin := { s.twin with
    linkUp := true, idConflict := twinId == s.twinId, incompatible := layout != s.nat 0x1000 0x05, cricketOk := true, twinFenced := fenced } }

/-- A conflict and a difference of layouts are shown. -/
def State.linkTwin (s : State) (twinId layout fenced : Nat) : State :=
  let t := s.meetTwin twinId layout fenced
  let t := if twinId == s.twinId then (t.putBit 0x9000 0x02 15 true).raise 1202 0 else t
  if layout != s.nat 0x1000 0x05 then t.setMirror 4 else t

/-- The roles are decided. -/
def State.decideRoles (s : State) (twinId layout fenced tb0 : Nat) (lead : Bool) : State :=
  ((s.linkTwin twinId layout fenced).arbitrate lead fenced tb0).countOverwritten

theorem State.bringUp_eq : s.bringUp twinId layout lead fenced tb0 covers =
    let u := s.decideRoles twinId layout fenced tb0 lead
    if twinId == s.twinId then u else ((if layout != s.nat 0x1000 0x05 then u else u.startResync).sendControl 7 u.coverStates).completeUncover covers := rfl

theorem State.linkTwin_link : (s.linkTwin twinId layout fenced).twin.link =
    (s.twin.laneOut, true, true, twinId == s.twinId, layout != s.nat 0x1000 0x05, fenced) := by
  unfold State.linkTwin
  extract_lets t u
  have hu : u.twin = t.twin := by
    simp only [u]
    split
    · exact (State.raise_only _ 1202 0 (.refl 0x140000000000000000 _) rfl).twin rfl
    · rfl
  have link : u.twin.link = (s.twin.laneOut, true, true, twinId == s.twinId, layout != s.nat 0x1000 0x05, fenced) := by rw [hu]; rfl
  split <;> exact link

theorem State.linkTwin_same : SameEntries (fun i j => i = 0x9000 ∧ (j = 0x02 ∨ j = 0x0C)) s (s.linkTwin twinId layout fenced) := by
  unfold State.linkTwin
  extract_lets t u
  have ht : SameEntries (fun i j => i = 0x9000 ∧ (j = 0x02 ∨ j = 0x0C)) s t := (SameEntries.refl _ s).of_regs rfl
  have hu : SameEntries (fun i j => i = 0x9000 ∧ (j = 0x02 ∨ j = 0x0C)) s u :=
    .ite ((ht.putBit (by decide) ⟨rfl, .inl rfl⟩).of_regs ((State.raise_only _ 1202 0 (.refl 0x140000000000000000 _) rfl).regs rfl)) ht
  exact .ite (hu.setReg (by decide) ⟨rfl, .inr rfl⟩) hu

theorem State.linkTwin_unfit (differs : (layout != s.nat 0x1000 0x05) = true) : (s.linkTwin twinId layout fenced).nat 0x9000 0x0C = 4 := by
  unfold State.linkTwin
  extract_lets t u
  rw [if_pos differs]
  exact State.nat_setNat_same ..

theorem State.countOverwritten_same : SameEntries (fun i j => i = 0x9000 ∧ j = 0x0F) s s.countOverwritten := by
  unfold State.countOverwritten
  extract_lets t
  exact SameEntries.of_regs (.ite (.refl _ s) ((SameEntries.refl _ s).setReg (by decide) ⟨rfl, rfl⟩)) rfl

theorem State.countOverwritten_link : s.countOverwritten.twin.link = s.twin.link := by
  unfold State.countOverwritten
  extract_lets t
  have ht : t.twin = s.twin := by
    simp only [t]
    split <;> rfl
  rw [← ht]
  rfl

/-- Whether the device is to lead. -/
def State.isToLead (s : State) (lead : Bool) (fenced tb0 : Nat) : Bool :=
  if s.leads ∧ !lead then true else if !s.leads ∧ lead then false else if s.leads then s.twinId == 0 else s.winsLead fenced tb0

theorem State.arbitrate_eq : s.arbitrate lead fenced tb0 = s.setRole (if s.isToLead lead fenced tb0 then 1 else 2) := rfl

theorem State.decideRoles_link : (s.decideRoles twinId layout fenced tb0 lead).twin.link =
    (s.twin.laneOut, true, true, twinId == s.twinId, layout != s.nat 0x1000 0x05, fenced) := by
  unfold State.decideRoles
  rw [State.countOverwritten_link, State.arbitrate_eq, State.setRole_link, State.linkTwin_link]

theorem State.decideRoles_role : (s.decideRoles twinId layout fenced tb0 lead).nat 0x9000 0x01 =
    if (s.linkTwin twinId layout fenced).isToLead lead fenced tb0 then 1 else 2 := by
  unfold State.decideRoles
  rw [(State.countOverwritten_same _).nat (by decide) (by omega), State.arbitrate_eq, State.setRole_role]

theorem State.decideRoles_lanes : (s.decideRoles twinId layout fenced tb0 lead).nat 0x9000 0x0B = s.nat 0x9000 0x0B := by
  unfold State.decideRoles
  rw [(State.countOverwritten_same _).nat (by decide) (by omega), State.arbitrate_eq, State.setRole_same _ _ (by decide) (by decide) (by decide),
    (s.linkTwin_same twinId layout fenced).nat (by decide) (by omega)]

theorem State.decideRoles_unfit (differs : (layout != s.nat 0x1000 0x05) = true) : (s.decideRoles twinId layout fenced tb0 lead).nat 0x9000 0x0C = 4 := by
  have unfit : (s.linkTwin twinId layout fenced).twin.incompatible = true := by
    have link := congrArg (fun x => x.2.2.2.2.1) (s.linkTwin_link twinId layout fenced)
    exact Eq.trans link differs
  unfold State.decideRoles
  rw [(State.countOverwritten_same _).nat (by decide) (by omega), State.arbitrate_eq, State.setRole_unfit _ _ unfit, s.linkTwin_unfit twinId layout fenced differs]

/-- What follows the choice of roles leaves the link, the role, and which lanes are usable. -/
theorem State.bringUp_same : (s.bringUp twinId layout lead fenced tb0 covers).twin.link = (s.decideRoles twinId layout fenced tb0 lead).twin.link ∧
    ∀ j, j < 256 → j ≠ 0x0C ∨ (layout != s.nat 0x1000 0x05) = true →
      (s.bringUp twinId layout lead fenced tb0 covers).nat 0x9000 j = (s.decideRoles twinId layout fenced tb0 lead).nat 0x9000 j := by
  rw [State.bringUp_eq]
  extract_lets u
  split
  · exact ⟨rfl, fun _ _ _ => rfl⟩
  · constructor
    · rw [State.completeUncover_link, State.sendControl_link]
      split
      · rfl
      · exact u.startResync_link
    · intro j hj apart
      rw [(State.completeUncover_apart _ covers).nat hj (not_not.mpr rfl), State.nat_of_regs (State.sendControl_regs ..)]
      by_cases differs : (layout != s.nat 0x1000 0x05) = true
      · rw [if_pos differs]
      · rw [if_neg differs, u.startResync_same.nat hj (fun h => apart.elim (fun n => n h.2) differs)]

theorem State.isToLead_keeps {s : State} (leads : s.leads = true) (fenced tb0 : Nat) : s.isToLead false fenced tb0 = true := if_pos ⟨leads, rfl⟩

theorem State.isToLead_yields {s : State} (leads : s.leads = false) (fenced tb0 : Nat) : s.isToLead true fenced tb0 = false := by
  unfold State.isToLead
  rw [leads]
  rfl

end BringUp

/-! ### Handshakes -/

section Handshake
variable {s : State} {k : Fin 4}

/-- A lane becomes usable, and the device's own handshake goes out on it. -/
def State.joinLane (s : State) (k : Nat) : State :=
  let t := s.putBit 0x9000 0x0B k true
  let t := { t with twin := { t.twin with crickets := t.twin.crickets.set k 0, lastAt := Sparse.set 0 t.twin.lastAt k t.now } }
  t.putOnLane k 2 0 t.handshakePayload

/-- What the twin says of itself is kept. -/
def State.noteTwin (s : State) (serial : BitVec 64) (twinId fw layout : Nat) : State :=
  s.setBlob 0x9000 0x13 (toBytes 8 serial.toNat ++ toBytes 1 (twinId % 2) ++ toBytes 4 fw ++ toBytes 2 layout)

theorem exec_keaconHandshake {serial : BitVec 64} {twinId fw layout : Nat} {lead : Bool} {fenced tb0 : Nat} {covers : List Nat}
    (carries : s.laneCarries k = true) (up : s.isUp = true) :
    exec (.keaconHandshake k serial twinId fw layout lead fenced tb0 covers) s = .next (if (s.joinLane k).twin.linkUp then s.joinLane k
      else ((s.joinLane k).noteTwin serial twinId fw layout).bringUp (twinId % 2) layout lead (fenced % 256) tb0 covers) := by
  change execKeaconHandshake k serial twinId fw layout lead fenced tb0 covers s = _
  unfold execKeaconHandshake
  have runs : ¬((!s.laneCarries k) = true ∨ (!s.isUp) = true) := by simp [carries, up]
  exact congrArg _ (if_neg runs)

theorem State.joinLane_regs (k : Nat) : (s.joinLane k).regs = (s.putBit 0x9000 0x0B k true).regs := by
  unfold State.joinLane
  extract_lets t x u
  exact (State.putOnLane_only u k 2 0 _ (.refl partTwin u) rfl).regs rfl

theorem State.joinLane_same (k : Nat) : SameEntries (fun i j => i = 0x9000 ∧ j = 0x0B) s (s.joinLane k) :=
  ((SameEntries.refl _ s).putBit (by decide) ⟨rfl, rfl⟩).of_regs (State.joinLane_regs k)

theorem State.joinLane_usable (k : Nat) : (s.joinLane k).bit 0x9000 0x0B k = true := by
  rw [State.bit, State.nat_of_regs (State.joinLane_regs k)]
  exact State.bit_putBit_same ..

theorem State.joinLane_answers (k : Nat) : (Sparse.get [] (s.joinLane k).twin.laneOut k).getLast?.map (·.bytes) =
    some (keaconFrame 2 0 s.twinId s.handshakePayload) := by
  have kept : ∀ i j, i ≠ 0x9000 ∧ j < 256 → (s.putBit 0x9000 0x0B k true).nat i j = s.nat i j := fun i j hi => by
    rw [State.putBit, State.setNat, State.nat_setReg_at _ _ (by decide) hi.2, if_neg fun h => hi.1 h.1.symm]
  have payload : (s.putBit 0x9000 0x0B k true).handshakePayload = s.handshakePayload := by
    unfold State.handshakePayload
    rw [kept _ _ (by decide), kept _ _ (by decide), kept _ _ (by decide), kept _ _ (by decide)]
  have id : (s.putBit 0x9000 0x0B k true).twinId = s.twinId := kept _ _ (by decide)
  rw [← payload, ← id]
  unfold State.joinLane
  extract_lets t x u
  unfold State.putOnLane
  extract_lets frame sent
  rw [Sparse.get_set_same, List.getLast?_append_of_ne_nil _ (by simp)]
  rfl

theorem State.noteTwin_only (s : State) (serial : BitVec 64) (twinId fw layout : Nat) : Only partBlobs s (s.noteTwin serial twinId fw layout) :=
  State.setBlob_only _ _ _ _ (.refl _ s) rfl

theorem State.noteTwin_serial (s : State) (serial : BitVec 64) (twinId fw layout : Nat) :
    ((s.noteTwin serial twinId fw layout).blob 0x9000 0x13).take 8 = toBytes 8 serial.toNat := by
  unfold State.noteTwin
  rw [State.blob_setBlob_same, List.append_assoc, List.append_assoc, List.take_append_of_le_length (by simp [toBytes]), List.take_of_length_le (by simp [toBytes])]

/-- What the link's coming up takes from the state before the handshake. -/
theorem State.noteTwin_joinLane (serial : BitVec 64) (twinId fw layout : Nat) :
    ((s.joinLane k).noteTwin serial twinId fw layout).twinId = s.twinId ∧
      ((s.joinLane k).noteTwin serial twinId fw layout).nat 0x1000 0x05 = s.nat 0x1000 0x05 ∧
      ((s.joinLane k).noteTwin serial twinId fw layout).leads = s.leads ∧
      ((s.joinLane k).noteTwin serial twinId fw layout).bit 0x9000 0x0B k = true ∧
      ((s.joinLane k).noteTwin serial twinId fw layout).twin = (s.joinLane k).twin := by
  have frame := (s.joinLane k).noteTwin_only serial twinId fw layout
  have nat : ∀ i j, j < 256 → ¬(i = 0x9000 ∧ j = 0x0B) → ((s.joinLane k).noteTwin serial twinId fw layout).nat i j = s.nat i j := fun i j hj apart =>
    (State.nat_of_regs (frame.regs rfl) i j).trans ((State.joinLane_same (s := s) k).nat hj apart)
  refine ⟨nat _ _ (by decide) (by decide), nat _ _ (by decide) (by decide), ?_, ?_, frame.twin rfl⟩
  · unfold State.leads
    rw [nat _ _ (by decide) (by decide)]
  · rw [State.bit, State.nat_of_regs (frame.regs rfl)]
    exact State.joinLane_usable (s := s) k

theorem State.leads_of_role {s t : State} (same : t.nat 0x9000 0x01 = s.nat 0x9000 0x01) : t.leads = s.leads := by
  unfold State.leads; rw [same]

end Handshake

/-! ### Frames in the order of their class -/

section Order
variable {s : State} {cls : Nat} {h : KeaconHead} {content : KeaconContent}

theorem State.keaconArrives_bad (bad : s.twin.linkUp = false ∨ h.fcsOk = false ∨ h.cls ≠ cls ∨ 16480 < h.length ∨ 64 ≤ s.keaconAhead cls h.sequence) :
    s.keaconArrives cls h content = s := by
  unfold State.keaconArrives
  by_cases discarded : (!s.twin.linkUp) = true ∨ (!goodKeacon cls h) = true
  · exact if_pos discarded
  · rw [if_neg discarded]
    dsimp only
    have far : 64 ≤ s.keaconAhead cls h.sequence := by
      rcases bad with bad | bad | bad | bad | bad
      · exact absurd (.inl (by rw [bad]; rfl)) discarded
      · exact absurd (.inr (by simp [goodKeacon, bad])) discarded
      · exact absurd (.inr (by simp [goodKeacon, bad])) discarded
      · exact absurd (.inr (by unfold goodKeacon keaconLimit; rw [decide_eq_false (by omega), Bool.and_false]; rfl)) discarded
      · exact bad
    rw [if_neg (by omega), if_neg (by omega)]

theorem State.keaconArrives_ahead (up : s.twin.linkUp = true) (checks : h.fcsOk = true) (own : h.cls = cls) (short : h.length ≤ 16480)
    (later : 0 < s.keaconAhead cls h.sequence) (near : s.keaconAhead cls h.sequence < 64) :
    s.keaconArrives cls h content = s.holdKeacon ⟨cls, h, content⟩ := by
  unfold State.keaconArrives
  rw [if_neg (by simp [goodKeacon, keaconLimit, up, checks, own, short])]
  dsimp only
  rw [if_neg (by omega), if_pos near]

theorem State.holdKeacon_holds (x : KeaconHeld) : s.holdKeacon x = { s with twin := (s.holdKeacon x).twin } ∧
    (s.holdKeacon x).twin.held.any (fun y => y.cls == x.cls && y.head.sequence == x.head.sequence) = true ∧
    (s.holdKeacon x).twin.classSeq = s.twin.classSeq := by
  unfold State.holdKeacon
  split
  · next there => exact ⟨rfl, there, rfl⟩
  · exact ⟨rfl, by simp, rfl⟩

/-- A frame ahead of the one expected is held, and the others that do not check or lie outside the window are discarded. -/
theorem State.keaconArrives_orders :
    ((s.twin.linkUp = false ∨ h.fcsOk = false ∨ h.cls ≠ cls ∨ 16480 < h.length ∨ 64 ≤ s.keaconAhead cls h.sequence) →
      s.keaconArrives cls h content = s) ∧
    (s.twin.linkUp = true → h.fcsOk = true → h.cls = cls → h.length ≤ 16480 → 0 < s.keaconAhead cls h.sequence → s.keaconAhead cls h.sequence < 64 →
      s.keaconArrives cls h content = { s with twin := (s.keaconArrives cls h content).twin } ∧
        (s.keaconArrives cls h content).twin.held.any (fun y => y.cls == cls && y.head.sequence == h.sequence) = true ∧
        Sparse.get 0 (s.keaconArrives cls h content).twin.classSeq cls = Sparse.get 0 s.twin.classSeq cls) := by
  refine ⟨State.keaconArrives_bad, fun up checks own short later near => ?_⟩
  rw [State.keaconArrives_ahead up checks own short later near]
  obtain ⟨kept, held, order⟩ := State.holdKeacon_holds (s := s) ⟨cls, h, content⟩
  exact ⟨kept, held, by rw [order]⟩

theorem State.deliverHeld_none (n : Nat) (none : s.dueKeacon cls = none) : State.deliverHeld cls n s = s := by
  cases n with
  | zero => rfl
  | succ n => rw [State.deliverHeld, none]

/-- A cover notice that was held acts once it is due, and with it nothing is held any more. -/
theorem State.deliverHeld_cover {p : PortId} {n : Nat} (due : s.dueKeacon 2 = some ⟨2, h, .coverNotice p⟩) (held : s.twin.held = [⟨2, h, .coverNotice p⟩])
    (whole : s.regionFenced (p.val / 12) = false) (partner : s.nat (0x9100 + p) 0x01 < 96) (free : s.nat (0x9100 + p) 0x03 ≤ 1) :
    ∃ t, State.deliverHeld 2 (n + 2) s = t ∧ t.twin.held = [] ∧ t.nat (0x9100 + p) 0x03 = 3 ∧
      Sparse.get 0 t.twin.classSeq 2 = (Sparse.get 0 s.twin.classSeq 2 + max 1 h.frames) % 65536 := by
  rw [State.deliverHeld, due]
  dsimp only
  rw [held, List.filter_cons_of_neg (by simp), List.filter_nil]
  generalize taken : ({ s with twin := { s.twin with held := [] } } : State).keaconPast 2 (max 1 h.frames) = u
  have regs : u.regs = s.regs := by rw [← taken]; rfl
  have fences : u.regionFenced (p.val / 12) = s.regionFenced (p.val / 12) := by rw [← taken]; rfl
  have none : u.twin.held = [] := by rw [← taken]; rfl
  have past : Sparse.get 0 u.twin.classSeq 2 = (Sparse.get 0 s.twin.classSeq 2 + max 1 h.frames) % 65536 := by
    rw [← taken]
    exact Sparse.get_set_same ..
  have covers : u.deliver (.coverNotice p) = u.setNat (0x9100 + p) 0x03 3 :=
    if_pos ⟨by rw [fences, whole]; rfl, by rw [State.nat_of_regs regs]; exact partner, by rw [State.nat_of_regs regs]; exact free⟩
  rw [covers]
  refine ⟨_, State.deliverHeld_none _ ?_, none, State.nat_setNat_same .., past⟩
  unfold State.dueKeacon
  rw [show (u.setNat (0x9100 + p) 0x03 3).twin.held = [] from none]
  rfl

theorem exec_keaconReorderTimeout_idle {cls : Fin 6} (whole : s.keaconHole cls = false) : exec (.keaconReorderTimeout cls) s = .next s :=
  congrArg _ (if_pos (.inr (by rw [whole]; rfl)))

theorem exec_keaconReorderTimeout {cls : Fin 6} (up : s.twin.linkUp = true) (hole : s.keaconHole cls = true) :
    exec (.keaconReorderTimeout cls) s = .next (State.deliverHeld cls 64 ((s.keaconPast cls 1).keaconLost cls)) := by
  change execKeaconReorderTimeout cls s = _
  unfold execKeaconReorderTimeout
  rw [up, hole]
  rfl

/-- What the loss of a frame leads to moves no class on. -/
theorem State.keaconLost_order (s : State) (cls : Nat) : (s.keaconLost cls).twin.classSeq = s.twin.classSeq ∧ (s.keaconLost cls).twin.held = s.twin.held := by
  have resync : s.startResync.twin.classSeq = s.twin.classSeq ∧ s.startResync.twin.held = s.twin.held := by
    unfold State.startResync
    split <;> exact ⟨rfl, rfl⟩
  have control : ∀ (u : State) code value, (u.sendControl code value).twin.classSeq = u.twin.classSeq ∧ (u.sendControl code value).twin.held = u.twin.held :=
    fun u code value => by
      unfold State.sendControl
      split <;> exact ⟨rfl, rfl⟩
  unfold State.keaconLost
  split
  · exact ⟨(control _ _ _).1.trans resync.1, (control _ _ _).2.trans resync.2⟩
  · split <;> exact ⟨rfl, rfl⟩

theorem State.dueKeacon_of_order {t : State} (order : t.twin.classSeq = s.twin.classSeq) (held : t.twin.held = s.twin.held) :
    t.dueKeacon cls = s.dueKeacon cls := by
  unfold State.dueKeacon
  rw [order, held]

end Order

section Parts
variable {s : State} {k : Fin 4} {serial : BitVec 64} {twinId fw layout fenced tb0 : Nat} {lead : Bool} {covers : List Nat}

/-- The first handshake brings the link up with what the twin says of itself. -/
theorem State.bringUp_meets {u : State} (lanes : u.bit 0x9000 0x0B k = true) :
    let t := u.bringUp (twinId % 2) layout lead (fenced % 256) tb0 covers
    t.bit 0x9000 0x0B k = true ∧ t.twin.linkUp = true ∧ t.twin.laneOut = u.twin.laneOut ∧ t.twin.cricketOk = true ∧ t.twin.twinFenced = fenced % 256 ∧
      t.twin.idConflict = decide (twinId % 2 = u.twinId) ∧ t.twin.incompatible = decide (layout ≠ u.nat 0x1000 0x05) ∧ t.blob 0x9000 0x13 = u.blob 0x9000 0x13 := by
  intro t
  obtain ⟨link, entries⟩ := u.bringUp_same (twinId % 2) layout (fenced % 256) tb0 lead covers
  have link := link.trans (u.decideRoles_link (twinId % 2) layout (fenced % 256) tb0 lead)
  have frame : Only 0xd001607f4040000800342 u t := State.bringUp_only _ _ _ _ _ _ _ (.refl _ u) rfl
  have blob := frame.blob_kept rfl 0x9000 0x13
  have usable : t.bit 0x9000 0x0B k = u.bit 0x9000 0x0B k := by
    unfold State.bit
    rw [entries _ (by decide) (.inl (by decide)), State.decideRoles_lanes]
  unfold TwinX.link at link
  simp only [Prod.mk.injEq] at link
  obtain ⟨out, up, heard, conflict, unfit, fences⟩ := link
  refine ⟨usable.trans lanes, up, out, heard, fences, conflict.trans ?_, unfit.trans ?_, blob⟩
  · exact beq_eq_decide ..
  · by_cases same : layout = u.nat 0x1000 0x05 <;> simp [same]

/-- The roles that follow a handshake. -/
theorem State.bringUp_roles {u : State} :
    let t := u.bringUp (twinId % 2) layout lead (fenced % 256) tb0 covers
    (u.leads = true → lead = false → t.nat 0x9000 0x01 = 1) ∧ (u.leads = false → lead = true → t.nat 0x9000 0x01 = 2) ∧
      (t.nat 0x9000 0x01 = 1 ∨ t.nat 0x9000 0x01 = 2) ∧ (layout ≠ u.nat 0x1000 0x05 → t.nat 0x9000 0x0C = 4) := by
  intro t
  have entries := (u.bringUp_same (twinId % 2) layout (fenced % 256) tb0 lead covers).2
  have role := (entries 0x01 (by decide) (.inl (by decide))).trans (u.decideRoles_role (twinId % 2) layout (fenced % 256) tb0 lead)
  have leads : (u.linkTwin (twinId % 2) layout (fenced % 256)).leads = u.leads := State.leads_of_role ((u.linkTwin_same (twinId % 2) layout (fenced % 256)).nat (by decide) (by omega))
  refine ⟨fun own theirs => ?_, fun own theirs => ?_, ?_, fun differs => ?_⟩
  · subst theirs
    rw [State.isToLead_keeps (leads.trans own)] at role
    exact role
  · subst theirs
    rw [State.isToLead_yields (leads.trans own)] at role
    exact role
  · rw [show t.nat 0x9000 0x01 = _ from role]
    exact (ite_eq_or_eq _ 1 2)
  · have unfit : (layout != u.nat 0x1000 0x05) = true := bne_iff_ne.mpr differs
    exact (entries 0x0C (by decide) (.inr unfit)).trans (u.decideRoles_unfit _ _ _ _ _ unfit)

end Parts

/-- Settles O38: a handshake makes its lane usable and is answered on it, and the first brings the link up and decides the roles; frames act in the
order of their class, and a lost one is passed over. -/
theorem twinLinkComesUp : Obligations.TwinLinkComesUp := by
  unfold Obligations.TwinLinkComesUp
  refine ⟨fun k serial twinId fw layout lead fenced tb0 covers s carries up => .of (exec_keaconHandshake carries up) ?_,
    fun h m p ports vid priority untag payload s x mem => ?_, fun cls s up whole => .of (exec_keaconReorderTimeout_idle whole) rfl,
    fun p h s up held due whole partner free => ?_, fun cls s up hole none => .of (exec_keaconReorderTimeout up hole) ?_⟩
  · have answers := State.joinLane_answers (s := s) (k : Nat)
    obtain ⟨id, layoutSame, leads, usable, twin⟩ := State.noteTwin_joinLane (s := s) (k := k) serial twinId fw layout
    have blob := (s.joinLane k).noteTwin_serial serial twinId fw layout
    have join : (s.joinLane k).bit 0x9000 0x0B k = true := State.joinLane_usable (s := s) k
    have role : (s.joinLane k).nat 0x9000 0x01 = s.nat 0x9000 0x01 := (State.joinLane_same (s := s) k).nat (by decide) (by omega)
    have link : (s.joinLane k).twin.linkUp = s.twin.linkUp := rfl
    cases linked : s.twin.linkUp with
    | true =>
      rw [if_pos (link.trans linked)]
      exact ⟨join, link.trans linked, answers, fun _ => role, (nomatch ·)⟩
    | false =>
      rw [if_neg (by rw [link, linked]; decide)]
      generalize s.joinLane k = v at *
      generalize v.noteTwin serial twinId fw layout = u at *
      obtain ⟨lane, linkUp, out, heard, fences, conflict, unfit, kept⟩ :=
        State.bringUp_meets (twinId := twinId) (layout := layout) (fenced := fenced) (tb0 := tb0) (lead := lead) (covers := covers) usable
      obtain ⟨keeps, yields, decided, differs⟩ :=
        State.bringUp_roles (twinId := twinId) (layout := layout) (fenced := fenced) (tb0 := tb0) (lead := lead) (covers := covers) (u := u)
      refine ⟨lane, linkUp, ?_, (nomatch ·), fun _ => ⟨heard, fences, ?_, ?_, ?_, ?_, ?_, decided, ?_⟩⟩
      · rw [out, twin]; exact answers
      · rw [conflict, id]
      · rw [unfit, layoutSame]
      · rw [kept]; exact blob
      · rw [← leads]; exact keeps
      · rw [← leads]; exact yields
      · rw [← layoutSame]; exact differs
  · have orders : ∀ (c : Instr) (cls : Nat) (content : KeaconContent), exec c s = .next (s.keaconArrives cls h content) → Runs c s fun t =>
        ((s.twin.linkUp = false ∨ h.fcsOk = false ∨ h.cls ≠ cls ∨ 16480 < h.length ∨ 64 ≤ s.keaconAhead cls h.sequence) → t = s) ∧
        (s.twin.linkUp = true → h.fcsOk = true → h.cls = cls → h.length ≤ 16480 → 0 < s.keaconAhead cls h.sequence → s.keaconAhead cls h.sequence < 64 →
          t = { s with twin := t.twin } ∧ t.twin.held.any (fun y => y.cls == cls && y.head.sequence == h.sequence) = true ∧
          Sparse.get 0 t.twin.classSeq cls = Sparse.get 0 s.twin.classSeq cls) := fun c cls content run => .of run State.keaconArrives_orders
    simp only [List.mem_cons, List.not_mem_nil, or_false] at mem
    rcases mem with rfl | rfl | rfl | rfl | rfl
    · exact orders _ m.cls (.mirror m) rfl
    · exact orders _ 2 (.coverNotice p) rfl
    · exact orders _ 2 (.uncoverNotice p) rfl
    · exact orders _ 2 (.uncoverAck p) rfl
    · exact orders _ 4 (.cover ports.toNat vid priority untag payload) rfl
  · have hole : s.keaconHole 2 = true := by unfold State.keaconHole; rw [held]; rfl
    have order : Sparse.get 0 (s.keaconPast 2 1).twin.classSeq 2 = h.sequence % 65536 := (Sparse.get_set_same ..).trans due.symm
    have found : (s.keaconPast 2 1).dueKeacon 2 = some ⟨2, h, .coverNotice p⟩ := by
      unfold State.dueKeacon
      rw [order, show (s.keaconPast 2 1).twin.held = s.twin.held from rfl, held]
      simp
    have run : exec (.keaconReorderTimeout 2) s = .next (State.deliverHeld 2 64 (s.keaconPast 2 1)) := exec_keaconReorderTimeout (cls := 2) up hole
    have covers := State.deliverHeld_cover found (by rw [show (s.keaconPast 2 1).twin.held = s.twin.held from rfl, held]) whole partner free (n := 62)
    obtain ⟨t, delivers, none, shown, past⟩ := covers
    rw [delivers] at run
    exact .of run ⟨none, shown, by rw [past, order, due, Nat.mod_add_mod]⟩
  · obtain ⟨order, held⟩ := (s.keaconPast cls 1).keaconLost_order cls
    rw [State.deliverHeld_none 64 ((State.dueKeacon_of_order order held).trans none)]
    refine ⟨by rw [order]; exact Sparse.get_set_same .., fun three fits own => ?_, fun four => ?_, fun three four => ?_, ?_⟩
    · unfold State.keaconLost
      rw [if_pos three, State.nat_of_regs (State.sendControl_regs ..)]
      exact State.startResync_begins _ up fits own
    · unfold State.keaconLost
      rw [if_neg (by omega), if_pos four]
      exact State.nat_addSat_same ..
    · unfold State.keaconLost
      rw [if_neg three, if_neg four]
      rfl
    · exact State.keaconLost_only _ _ (State.keaconPast_only s cls 1 (.refl _ s) rfl) rfl

end Sys2Proof.Machine

namespace Sys2Proof.Machine

-- The kernel evaluates the runs below one after another: side by side, each holds a thread while it waits for the declarations before it.
set_option Elab.async false

/-! ## Crickets (14 R353, R354, R366, R368)

A cricket that tells of a change of the twin's fences has the refused commits of the mirror tried again. One of them may write the very role that the
statement reads. -/

/-- What a valid cricket tells is taken. -/
def State.hearCricket (s : State) (k : Nat) (payload : List Byte) (received : List Int) : State :=
  let n := s.twin.crickets.getD k 0
  let row := (items 8).map (fun i => shortDiff (received.getD i 0).toNat (numAt payload (16 + 8 * i) 8))
  let recent := (row :: Sparse.get [] s.twin.recentDiffs k).take 1024
  let theirs := (items 8).map (fun i => signed 32 (numAt payload (80 + 4 * i) 4))
  let s := s.cricketGap k (numAt payload 0 4)
  let s := { s with twin := { s.twin with
    cricketOk := true, twinRole := byteAt payload 4, twinRun := byteAt payload 5, twinFenced := byteAt payload 6, twinFlags := byteAt payload 7
    crickets := s.twin.crickets.set k (if s.nat (0x2060 + k) 0x02 = 6 then min 1024 (n + 1) else 0)
    recentDiffs := Sparse.set [] s.twin.recentDiffs k recent, lastAt := Sparse.set 0 s.twin.lastAt k s.now
    ownDiff := Sparse.set [] s.twin.ownDiff k (meanDiffs recent), twinDiff := Sparse.set [] s.twin.twinDiff k theirs } }
  let s := if s.leads then s.setNat 0x9000 0x0E (numAt payload 8 4) else s
  s.compareTwin

theorem exec_cricketReceive {k : Fin 4} {head : KeaconHead} {payload : List Byte} {received : List Int} {s : State}
    (up : s.twin.linkUp = true) (usable : s.bit 0x9000 0x0B k = true) (checks : goodKeacon 1 head = true) (whole : payload.length = 112) :
    exec (.cricketReceive k head payload received) s = .next (
      let t := s.hearCricket k payload received
      let t := if s.twin.twinFenced ≠ t.twin.twinFenced then t.dropCovers.retryMirror else t
      if (byteAt payload 7).testBit 0 then t.takeYield else t) := by
  have link : ¬((!s.twin.linkUp) = true ∨ (!s.bit 0x9000 0x0B k) = true) := by simp [up, usable]
  have good : ¬((!goodKeacon 1 head) = true ∨ payload.length ≠ 112) := by simp [checks, whole]
  exact congrArg _ ((if_neg link).trans (if_neg good))

/-- A device that waits for its role hears lane 0; a refused commit of the mirror names the role. -/
def hearsBehindMirror : State :=
  { State.reset with
    regs := [(key 0x1000 0x08, 2), (key 0x9000 0x0B, 1)]
    twin := { linkUp := true, refusedMirror := [{ epoch := 1, values := [⟨0x9000, 0x01, [0]⟩] }] } }

/-- A cricket of a twin that has fenced region 0. -/
def cricketOfFence : List Byte := List.replicate 6 0 ++ [1] ++ List.replicate 105 0

/-- The cricket has been heard. -/
def cricketHeard : State := hearsBehindMirror.hearCricket 0 cricketOfFence []

theorem cricketHeard_dropCovers : cricketHeard.dropCovers = cricketHeard := by decide +kernel

/-- The commit that is tried again puts 0 into the role. -/
theorem cricketHeard_retryMirror : cricketHeard.retryMirror.nat 0x9000 0x01 = 0 := by decide +kernel

theorem exec_hearsBehindMirror :
    exec (.cricketReceive 0 { cls := 1, sequence := 0, length := 112 } cricketOfFence []) hearsBehindMirror = .next cricketHeard.retryMirror := by
  rw [exec_cricketReceive rfl (by decide +kernel) rfl rfl]
  change Host.Outcome.next (if (byteAt cricketOfFence 7).testBit 0 = true then _ else
    if hearsBehindMirror.twin.twinFenced ≠ cricketHeard.twin.twinFenced then cricketHeard.dropCovers.retryMirror else _) = _
  rw [if_neg (by decide +kernel), if_pos (by decide +kernel), cricketHeard_dropCovers]

/-- Refutes O39: from `hearsBehindMirror` a cricket that is no yield leaves role 0 where the statement keeps role 3. No run keeps a refused commit that
names the role: the lead mirrors settings only, which the statement does not ask of the state. -/
theorem not_cricketsCarryTheTwinState : ¬ Obligations.CricketsCarryTheTwinState := by
  unfold Obligations.CricketsCarryTheTwinState
  rintro ⟨-, -, hears, -⟩
  obtain ⟨t, again, -, -, -, -, -, -, keeps, -⟩ :=
    hears 0 { cls := 1, sequence := 0, length := 112 } cricketOfFence [] hearsBehindMirror rfl (by decide +kernel) rfl rfl
  obtain rfl : cricketHeard.retryMirror = t := Host.Outcome.next.inj (exec_hearsBehindMirror.symm.trans again)
  obtain ⟨-, -, -, -, role⟩ := keeps (.inl (by decide +kernel))
  have waits : hearsBehindMirror.nat 0x9000 0x01 = 3 := by decide +kernel
  exact absurd (cricketHeard_retryMirror.symm.trans (role.trans waits)) (by decide)

end Sys2Proof.Machine

namespace Sys2Proof.Machine

/-! ## Roles (14 R355 to R362) -/

section Roles
variable (s : State) (r : Nat)

/-- TWIN_HOLD_OUT follows a role that changes. -/
theorem State.setRole_pins (changes : s.nat 0x9000 0x01 ≠ r) : (s.setRole r).twin.holdOut = decide (r < 2) := by
  have resync : ∀ u : State, u.startResync.twin.holdOut = u.twin.holdOut := fun u => by
    unfold State.startResync
    split <;> rfl
  rw [State.setRole_eq, if_neg changes, resync, State.showRole_twin]
  rfl

theorem State.setRole_holdIn : (s.setRole r).twin.holdIn = s.twin.holdIn := by
  have resync : ∀ u : State, u.startResync.twin.holdIn = u.twin.holdIn := fun u => by
    unfold State.startResync
    split <;> rfl
  rw [State.setRole_eq]
  split
  · rfl
  · rw [resync, State.showRole_twin]
    rfl

theorem State.setRole_runState : (s.setRole r).runState = s.runState :=
  (State.setRole_low s r (.refl (B := 0x2200) s) (by decide)).nat 0x1000 0x08 (by decide) (by decide)

theorem State.keepCadence_same : SameEntries (fun i _ => 0x6200 ≤ i ∧ i < 0x6210) s s.keepCadence := by
  unfold State.keepCadence
  refine .ite (.refl _ s) (.foldl _ fun a f mem => .ite ?_ (.refl _ a))
  have hf := List.mem_range.mp mem
  have slew : SameEntries (fun i _ => 0x6200 ≤ i ∧ i < 0x6210) a ((a.settleSlew f false).settlePulses f true) :=
    ((SameEntries.refl _ a).setReg (by decide) ⟨by omega, by omega⟩).of_regs rfl
  exact (slew.setReg (by decide) ⟨by omega, by omega⟩).setReg (by decide) ⟨by omega, by omega⟩

theorem State.keepCadence_twin : s.keepCadence.twin = s.twin := (State.keepCadence_only s (.refl 0x100000000002 s) rfl).twin rfl

/-- The lead is taken: the role, the pin, the count and the sticky bit. -/
theorem State.takeLead_shows (changes : s.nat 0x9000 0x01 ≠ r) (leads : r < 2) : (s.takeLead r).nat 0x9000 0x01 = r ∧ (s.takeLead r).twin.holdOut = true ∧
    (s.takeLead r).bit 0x9000 0x02 11 = true ∧ (s.takeLead r).nat 0x9000 0x11 = min (s.nat 0x9000 0x11 + 1) (2 ^ 32 - 1) := by
  have kept : ∀ j, j < 256 → s.keepCadence.nat 0x9000 j = s.nat 0x9000 j := fun j hj => s.keepCadence_same.nat hj (by omega)
  have role := s.keepCadence.setRole_role r
  have pins := s.keepCadence.setRole_pins r (by rw [kept _ (by decide)]; exact changes)
  have count := (s.keepCadence.setRole_same r (j := 0x11) (by decide) (by decide) (by decide)).trans (kept _ (by decide))
  unfold State.takeLead
  extract_lets u
  refine ⟨?_, pins.trans (decide_eq_true leads), State.bit_putBit_same .., ?_⟩
  · rw [State.putBit, State.setNat, State.nat_setReg_at _ _ (by decide) (by decide), if_neg (by omega), State.inc32_eq, State.addSat, State.setNat,
      State.nat_setReg_at _ _ (by decide) (by decide), if_neg (by omega)]
    exact role
  · rw [State.putBit, State.setNat, State.nat_setReg_at _ _ (by decide) (by decide), if_neg (by omega)]
    exact (State.nat_addSat_same ..).trans (by rw [show u.nat 0x9000 0x11 = s.nat 0x9000 0x11 from count])

theorem State.takeLead_holdIn : (s.takeLead r).twin.holdIn = s.twin.holdIn := by
  have kept : (s.takeLead r).twin = (s.keepCadence.setRole r).twin := rfl
  rw [kept, State.setRole_holdIn, State.keepCadence_twin]

theorem State.takeLead_keeps : (s.takeLead r).isSafe = s.isSafe := by
  unfold State.isSafe State.runState
  rw [(State.takeLead_low s r (.refl (B := 0x2200) s) (by decide)).nat 0x1000 0x08 (by decide) (by decide)]

theorem State.holdTable_holdIn : s.holdTable.twin.holdIn = s.twin.holdIn := by
  unfold State.holdTable
  split_ifs
  · rfl
  · exact s.setRole_holdIn 2
  · rfl
  · rfl
  · exact s.takeLead_holdIn 1
  · rfl

/-- Of the table, a shadow whose twin does not hold takes the lead. -/
theorem State.holdTable_leads (up : s.isUp = true) (shadow : s.nat 0x9000 0x01 = 2) (free : s.twin.holdIn = false) : s.holdTable = s.takeLead 1 := by
  have follows : s.leads = false := by
    unfold State.leads
    rw [shadow]; rfl
  unfold State.holdTable
  rw [if_neg (by simp [up]), if_neg (by simp [follows]), if_pos shadow, if_neg (by simp [free])]

end Roles

/-! ### Handing over, and the shared outputs -/

section Commands
variable {s : State}

theorem exec_twinWaitExpiry (up : s.isUp = true) (waits : s.nat 0x9000 0x01 = 3) (alone : s.twin.linkUp = false) :
    exec .twinWaitExpiry s = .next ((s.setRole 0).raise 1200 0) := congrArg _ (if_pos ⟨up, waits, by rw [alone]; rfl⟩)

theorem exec_handover {role : Role} (admitted : s.admits role 0x9000 0x03) :
    exec (.handover role) s = .next (if s.leads ∧ s.twin.linkUp ∧ s.twin.twinRun = 2 ∧ s.nat 0x9000 0x0C = 2 then s.yieldLead.done else s.ruleRefused 0) :=
  congrArg _ (State.hostWrite_admitted admitted _)

theorem exec_holdoverTakeover (up : s.isUp = true) (leads : s.leads = true) (linked : s.twin.linkUp = true) (follows : s.flag 0x9000 0x06 = true)
    (holds : s.servo 0 = 4) (locked : s.twin.twinFlags.testBit 1 = true) : exec .holdoverTakeover s = .next s.yieldLead :=
  congrArg _ (if_pos ⟨up, leads, linked, follows, holds, locked⟩)

theorem exec_yieldReceive (up : s.isUp = true) (shadow : s.nat 0x9000 0x01 = 2) (linked : s.twin.linkUp = true) :
    exec .yieldReceive s = .next (s.takeLead 1) := congrArg _ (if_pos ⟨up, shadow, linked⟩)

/-- A lead that yields is the shadow, and holds no more. -/
theorem State.yieldLead_shows (leads : s.leads = true) : s.yieldLead.nat 0x9000 0x01 = 2 ∧ s.yieldLead.twin.holdOut = false := by
  have sent : (s.putCricket true).nat 0x9000 0x01 = s.nat 0x9000 0x01 :=
    State.nat_of_regs ((State.putCricket_only s true (.refl partTwin s) rfl).regs rfl) _ _
  have lead := of_decide_eq_true leads
  exact ⟨State.setRole_role _ 2, (State.setRole_pins _ 2 (by omega)).trans (decide_eq_false (by decide))⟩

/-- The twin's pin is seen. -/
def State.seeHold (s : State) (asserted : Bool) : State := { s with twin := { s.twin with holdIn := asserted } }

theorem exec_twinHoldInChange {asserted : Bool} : exec (.twinHoldInChange asserted) s =
    .next (State.startShared s (if (s.seeHold asserted).twinSilent then (s.seeHold asserted).holdTable else s.seeHold asserted)) := rfl

theorem State.startShared_parts (was t : State) : Only (partFireflies ||| partClocks) t (State.startShared was t) :=
  State.startShared_only was t (.refl _ t) rfl

/-- A pulse of an output lies where its time base and its slew have it. -/
theorem State.pulseTime_of {t : State} {f : Nat} (frame : Only (partFireflies ||| partClocks) s t) (slew : (t.firefly f).slewSince = (s.firefly f).slewSince) (q : Pulse) :
    t.pulseTime f q = s.pulseTime f q := by
  have nat : ∀ i j, t.nat i j = s.nat i j := State.nat_of_regs (frame.regs rfl)
  have reg : ∀ i j, t.reg i j = s.reg i j := State.reg_of_regs (frame.regs rfl)
  unfold State.pulseTime State.tbNow State.alignError
  rw [slew, frame.tb_kept rfl, frame.now rfl, reg, nat]

/-- A shared output keeps only the pulses that are still to come. -/
def State.cutShared (s : State) (f : Nat) : State :=
  if !s.sharedFirefly f then s
  else
    let t := s.settlePulses f false
    t.setFirefly f { t.firefly f with pulses := (t.firefly f).pulses.filter (fun q => decide (t.pulseTime f q < q.start)) }

theorem State.cutShared_only (f : Nat) : Only (partFireflies ||| partClocks) s (s.cutShared f) :=
  .ite (.refl _ s) (State.setFirefly_only _ _ _ (State.settlePulses_only s f false (.refl _ s) rfl) rfl)

theorem State.cutShared_apart {f g : Nat} (apart : g ≠ f) : (s.cutShared g).firefly f = s.firefly f := by
  unfold State.cutShared
  split
  · rfl
  · exact (State.firefly_setFirefly ..).trans ((if_neg apart).trans ((State.firefly_setFirefly ..).trans (if_neg apart)))

theorem State.cutShared_shared {f : Nat} (shared : s.sharedFirefly f = true) : ((s.cutShared f).firefly f).slewSince = (s.firefly f).slewSince ∧
    ∀ q ∈ ((s.cutShared f).firefly f).pulses, s.pulseTime f q < q.start := by
  obtain ⟨last, own⟩ := s.settlePulses_own f false
  have frame : Only (partFireflies ||| partClocks) s (s.settlePulses f false) := State.settlePulses_only s f false (.refl _ s) rfl
  have slew : ((s.settlePulses f false).firefly f).slewSince = (s.firefly f).slewSince := by rw [own]
  have eq : (s.cutShared f).firefly f = { (s.settlePulses f false).firefly f with
      pulses := ((s.settlePulses f false).firefly f).pulses.filter (fun q => decide ((s.settlePulses f false).pulseTime f q < q.start)) } := by
    unfold State.cutShared
    rw [if_neg (by simp [shared])]
    exact State.firefly_setFirefly_same ..
  rw [eq]
  refine ⟨slew, fun q mem => ?_⟩
  rw [← State.pulseTime_of frame slew q]
  exact of_decide_eq_true (List.mem_filter.mp mem).2

theorem State.startShared_eq (was : State) (idle : was.drivesShared = false) (drives : s.drivesShared = true) : State.startShared was s =
    (items 16).foldl (fun a c =>
      if a.sharedClock c then a.setClock c { a.clock c with since := max (a.clock c).since ((a.clock c).nextRise (5 * a.now)) } else a)
      ((items 16).foldl State.cutShared s) := if_neg (by simp [idle, drives])

/-- Shared outputs begin without the pulse under way. -/
theorem State.startShared_pulses (was : State) {f : Nat} (hf : f < 16) (idle : was.drivesShared = false) (drives : s.drivesShared = true)
    (shared : s.sharedFirefly f = true) : ∀ q ∈ ((State.startShared was s).firefly f).pulses, (State.startShared was s).pulseTime f q < q.start := by
  have clocks : ∀ u : State, Only partClocks u ((items 16).foldl (fun a c =>
      if a.sharedClock c then a.setClock c { a.clock c with since := max (a.clock c).since ((a.clock c).nextRise (5 * a.now)) } else a) u) := fun u =>
    .foldl (.refl _ u) fun a c => .ite (State.setClock_only _ _ _ (.refl _ a) rfl) (.refl _ a)
  have keeps : ∀ a : State, Only (partFireflies ||| partClocks) s a → a.sharedFirefly f = true := fun a frame => by
    unfold State.sharedFirefly State.bit
    rw [State.nat_of_regs (frame.regs rfl)]
    exact shared
  have cut : Only (partFireflies ||| partClocks) s ((items 16).foldl State.cutShared s) ∧
      (((items 16).foldl State.cutShared s).firefly f).slewSince = (s.firefly f).slewSince ∧
      ∀ q ∈ (((items 16).foldl State.cutShared s).firefly f).pulses, s.pulseTime f q < q.start := by
    refine foldl_attains
      (Before := fun a : State => Only (partFireflies ||| partClocks) s a ∧ (a.firefly f).slewSince = (s.firefly f).slewSince)
      (After := fun a : State => Only (partFireflies ||| partClocks) s a ∧ (a.firefly f).slewSince = (s.firefly f).slewSince ∧
        ∀ q ∈ (a.firefly f).pulses, s.pulseTime f q < q.start)
      (List.mem_range.mpr hf) (fun a h => ?_) (fun a g _ h => ?_) (fun a g _ h => ?_) ⟨.refl _ s, rfl⟩
    · obtain ⟨slew, pulses⟩ := State.cutShared_shared (keeps a h.1)
      exact ⟨h.1.step (State.cutShared_only f) rfl, slew.trans h.2, fun q mem => State.pulseTime_of h.1 h.2 q ▸ pulses q mem⟩
    · refine ⟨h.1.step (State.cutShared_only g) rfl, ?_⟩
      by_cases same : g = f
      · exact same ▸ (State.cutShared_shared (keeps a h.1)).1.trans h.2
      · rw [State.cutShared_apart same]; exact h.2
    · obtain ⟨frame, slew, pulses⟩ := h
      by_cases same : g = f
      · subst same
        obtain ⟨slew', pulses'⟩ := State.cutShared_shared (keeps a frame)
        exact ⟨frame.step (State.cutShared_only g) rfl, slew'.trans slew, fun q mem => State.pulseTime_of frame slew q ▸ pulses' q mem⟩
      · rw [State.cutShared_apart same]
        exact ⟨frame.step (State.cutShared_only g) rfl, slew, pulses⟩
  obtain ⟨frame, slew, pulses⟩ := cut
  rw [State.startShared_eq was idle drives]
  generalize (items 16).foldl State.cutShared s = u at *
  have last := clocks u
  generalize (items 16).foldl _ u = t at *
  intro q mem
  rw [last.firefly_kept rfl] at mem
  have same : t.pulseTime f q = u.pulseTime f q :=
    State.pulseTime_of (last.mono rfl) (by rw [last.firefly_kept rfl]) q
  rw [same, State.pulseTime_of frame slew q]
  exact pulses q mem

end Commands

/-- Settles O40: roles are taken when the device is alone, from a yield and by the table of the pin, and are handed over; the pin is followed, and shared
outputs begin without the pulse under way. -/
theorem rolesAreTakenAndYielded : Obligations.RolesAreTakenAndYielded := by
  unfold Obligations.RolesAreTakenAndYielded
  refine ⟨fun s up waits alone => .of (exec_twinWaitExpiry up waits alone) ?_, fun role s admitted => .of (exec_handover admitted) ⟨?_, ?_⟩,
    fun s up leads linked follows holds locked => .of (exec_holdoverTakeover up leads linked follows holds locked) (State.yieldLead_shows leads),
    fun s up shadow linked => .of (exec_yieldReceive up shadow linked) ?_, fun asserted s => .of exec_twinHoldInChange ?_,
    fun s held => ?_, fun s linked heard differs => ?_⟩
  · have role := s.setRole_role 0
    have pins := s.setRole_pins 0 (by omega)
    have run := s.setRole_runState 0
    have safe : (s.setRole 0).isSafe = false := by
      unfold State.isUp at up
      unfold State.isSafe
      rw [run]
      simp only [Bool.or_eq_true, beq_iff_eq] at up
      exact beq_false_of_ne (by omega)
    generalize s.setRole 0 = t at *
    have frame : Only (partMessages ||| partSourceCounts) t (t.raise 1200 0) := State.raise_only t 1200 0 (.refl _ t) rfl
    exact ⟨(State.nat_of_regs (frame.regs rfl) _ _).trans role, by rw [frame.twin rfl]; exact pins, State.raise_message _ 0 safe⟩
  · intro leads linked runs steps
    rw [if_pos ⟨leads, linked, runs, steps⟩]
    obtain ⟨role, pins⟩ := State.yieldLead_shows leads
    generalize s.yieldLead = t at *
    exact ⟨rfl, role, pins⟩
  · intro refused
    rw [if_neg (by rintro ⟨leads, linked, runs, steps⟩; rcases refused with h | h | h | h <;> simp_all)]
    exact s.ruleRefused_frame 0
  · obtain ⟨role, pins, sticky, count⟩ := s.takeLead_shows 1 (by omega) (by decide)
    exact ⟨role, pins, sticky, count⟩
  · have frame := State.startShared_parts s (if (s.seeHold asserted).twinSilent then (s.seeHold asserted).holdTable else s.seeHold asserted)
    refine ⟨?_, fun heard => ?_, fun free silent up shadow => ?_⟩
    · rw [frame.twin rfl]
      split
      · exact (s.seeHold asserted).holdTable_holdIn
      · rfl
    · rw [State.nat_of_regs (frame.regs rfl), if_neg (by rw [show (s.seeHold asserted).twinSilent = false from heard]; decide)]
      rfl
    · rw [State.nat_of_regs (frame.regs rfl), if_pos (show (s.seeHold asserted).twinSilent = true from silent),
        State.holdTable_leads (s.seeHold asserted) up shadow free]
      exact ((s.seeHold asserted).takeLead_shows 1 (by rw [show (s.seeHold asserted).nat 0x9000 0x01 = 2 from shadow]; decide) (by decide)).1
  · have run : exec .sharedOutputEnable s = .next (State.startShared s { s with twin := { s.twin with heldLong := true } }) := congrArg _ (if_pos held)
    have shared : ∀ f, ({ s with twin := { s.twin with heldLong := true } } : State).sharedFirefly f = s.sharedFirefly f := fun _ => rfl
    have first : Only partTwin s { s with twin := { s.twin with heldLong := true } } := .upd_twin _ (.refl _ s) rfl
    have twin : ({ s with twin := { s.twin with heldLong := true } } : State).twin = { s.twin with heldLong := true } := rfl
    generalize ({ s with twin := { s.twin with heldLong := true } } : State) = u at *
    have frame := State.startShared_parts s u
    refine .of run ⟨(frame.twin rfl).trans twin, ((Only.mono first rfl).step frame rfl), fun drives => ?_, fun idle drives f hf own => ?_⟩
    · have still : State.startShared s u = u := if_pos (by simp [drives])
      rw [still]; exact first
    · have now : u.drivesShared = true := by
        have same : (State.startShared s u).drivesShared = u.drivesShared := by
          unfold State.drivesShared State.twinId
          rw [frame.twin rfl, State.nat_of_regs (frame.regs rfl)]
        exact same.symm.trans drives
      exact State.startShared_pulses s hf idle now ((shared f).trans own)
  · have run : exec .holdMismatch s = .next ((s.putBit 0x9000 0x02 14 true).raise 1203 0) := congrArg _ (if_pos ⟨linked, heard, differs⟩)
    have frame : Only (partMessages ||| partSourceCounts) (s.putBit 0x9000 0x02 14 true) ((s.putBit 0x9000 0x02 14 true).raise 1203 0) :=
      State.raise_only _ 1203 0 (.refl _ _) rfl
    have shown : SameEntries (fun i j => i = 0x9000 ∧ j = 0x02) s (s.putBit 0x9000 0x02 14 true) := (SameEntries.refl _ s).putBit (by decide) ⟨rfl, rfl⟩
    refine .of run ⟨?_, fun up => State.raise_message _ 0 ?_, shown.of_regs (frame.regs rfl)⟩
    · rw [State.bit, State.nat_of_regs (frame.regs rfl)]
      exact State.bit_putBit_same ..
    · unfold State.isSafe State.runState
      rw [shown.nat (by decide) (by decide)]
      exact up

end Sys2Proof.Machine

namespace Sys2Proof.Machine

/-! ## A frame that is expected (14 R350)

While no later frame of the class is held, the expected frame acts alone. -/

section Deliver
variable {s : State} {cls : Nat} {h : KeaconHead} {content : KeaconContent}

theorem State.dueKeacon_whole (whole : s.keaconHole cls = false) : s.dueKeacon cls = none := by
  unfold State.keaconHole at whole
  rw [List.any_eq_false] at whole
  exact List.find?_eq_none.mpr fun x mem both => whole x mem (Bool.and_eq_true _ _ ▸ both).1

theorem State.keaconArrives_delivers (linked : s.twin.linkUp = true) (good : goodKeacon cls h = true) (next : s.keaconAhead cls h.sequence = 0)
    (whole : s.keaconHole cls = false) (held : ((s.keaconPast cls (max 1 h.frames)).deliver content).twin.held = s.twin.held) :
    s.keaconArrives cls h content = (s.keaconPast cls (max 1 h.frames)).deliver content := by
  unfold State.keaconArrives
  rw [if_neg (by simp [linked, good])]
  dsimp only
  rw [if_pos next]
  refine State.deliverHeld_none _ (State.dueKeacon_whole ?_)
  unfold State.keaconHole at whole ⊢
  rw [held, whole]

/-- What a control frame that goes out leaves of the order of frames. -/
def TwinX.order (x : TwinX) : Sparse Nat × List KeaconHeld × Bool := (x.classSeq, x.held, x.linkUp)

theorem State.sendControl_order (s : State) (code value : Nat) : (s.sendControl code value).twin.order = s.twin.order := by
  unfold State.sendControl
  split <;> rfl

theorem State.sendControl_out (code value : Nat) (linked : s.twin.linkUp = true) :
    (s.sendControl code value).twin.controlOut = s.twin.controlOut ++ [(code, value)] := by
  unfold State.sendControl
  rw [if_pos linked]

end Deliver

/-! ## Commits of values from 3000h on

A mirrored entry has an index from 3000h on, so that a mirrored commit changes no lane and no port mode, and leaves the twin link. -/

/-- Every value of a commit belongs to an entry from 3000h on. -/
def HighValues (l : List OdValue) : Prop := ∀ v ∈ l, 0x3000 ≤ v.index

theorem mirrored_high {i j : Nat} (h : mirrored i j = true) : 0x3000 ≤ i := by
  by_contra low
  unfold mirrored at h
  rw [if_neg (by omega), if_neg (by omega), if_neg (by omega), if_neg (by omega), if_neg (by omega), if_neg (by omega), if_neg (by omega), if_neg (by omega),
    if_neg (by omega), if_neg (by omega)] at h
  exact Bool.noConfusion h

theorem mem_insertValue {v w : OdValue} {l : List OdValue} (mem : w ∈ insertValue v l) : w = v ∨ w ∈ l := by
  induction l with
  | nil => exact .inl (List.mem_singleton.mp mem)
  | cons x l ih =>
    unfold insertValue at mem
    split_ifs at mem
    · exact List.mem_cons.mp mem
    · exact (List.mem_cons.mp mem).imp_right (.tail _)
    · rcases List.mem_cons.mp mem with rfl | mem
      · exact .inr (.head _)
      · exact (ih mem).imp_right (.tail _)

theorem mem_inOrder {w : OdValue} {l : List OdValue} (mem : w ∈ inOrder l) : w ∈ l := by
  have all : ∀ w ∈ inOrder l, w ∈ l :=
    List.foldlRecOn (motive := fun a : List OdValue => ∀ w ∈ a, w ∈ l) l _ (fun _ h => nomatch h) fun a before v mem w hw =>
      (mem_insertValue hw).elim (fun eq => eq ▸ mem) (before w)
  exact all w mem

theorem HighValues.ordered {l : List OdValue} (high : HighValues l) : HighValues (inOrder l) := fun v mem => high v (mem_inOrder mem)

section Commit
variable {l : List OdValue} (high : HighValues l)
include high

theorem HighValues.any_low {i : Nat} (low : i < 0x3000) : l.any (fun v => v.index == i) = false :=
  List.any_eq_false.mpr fun v mem => by
    have := high v mem
    simp only [beq_iff_eq]
    omega

theorem HighValues.laneEffects (was s : State) : State.laneEffects was s l = s := by
  have none : (items 100).filter (fun n => l.any (fun v => v.index == laneIndex n)) = [] :=
    List.filter_eq_nil_iff.mpr fun n mem => by
      rw [high.any_low (by have := List.mem_range.mp mem; unfold laneIndex; omega)]
      decide
  unfold State.laneEffects
  rw [none]
  rfl

theorem HighValues.portsChanged (was s : State) : portsChanged was s l = [] :=
  List.filter_eq_nil_iff.mpr fun p mem => by
    rw [high.any_low (by have := List.mem_range.mp mem; omega), Bool.false_and]
    exact Bool.false_ne_true

theorem HighValues.valueOf_low {i : Nat} (low : i < 0x3000) (j : Nat) : valueOf l i j = none :=
  List.find?_eq_none.mpr fun v mem => by
    have := high v mem
    simp only [Bool.and_eq_true, beq_iff_eq]
    omega

theorem HighValues.portEffects_twin (was s : State) : (State.portEffects was s l).twin = s.twin := by
  have judged : (items 96).filter (fun p => ([] : List Nat).any (fun q => q / 4 == p / 4) || (valueOf l (0x2100 + p) 0x14).isSome) = [] :=
    List.filter_eq_nil_iff.mpr fun p mem => by
      rw [high.valueOf_low (by have := List.mem_range.mp mem; omega)]
      exact Bool.false_ne_true
  unfold State.portEffects
  rw [high.portsChanged]
  simp only [judged, List.foldl_nil, List.isEmpty_nil, if_true]
  exact List.foldlRecOn (motive := fun a : State => a.twin = s.twin) _ _ rfl fun a same c _ => by
    split
    · exact ((State.cageChanged_only a c (.refl 0x7011e a) rfl).twin rfl).trans same
    · exact same

theorem HighValues.testEffects (s : State) : s.testEffects l = s := by
  have none : l.filter (fun v => decide (0x2000 ≤ v.index ∧ v.index < 0x2064) && v.sub == 0x18) = [] :=
    List.filter_eq_nil_iff.mpr fun v mem => by
      have := high v mem
      rw [decide_eq_false (by omega), Bool.false_and]
      decide
  unfold State.testEffects
  rw [none]
  rfl

theorem HighValues.imageCommand_twin {v : OdValue} (mem : v ∈ l) (s : State) : (imageCommand s v).twin = s.twin := by
  have := high v mem
  unfold imageCommand
  extract_lets i b
  rw [if_neg (by omega), if_neg (by omega)]
  split
  · exact (State.applySteering_only _ _ (.refl 0x40000000000 _) rfl).twin rfl
  · rfl

theorem HighValues.putCommit_twin (s : State) : (s.putCommit l imageCommand).twin = s.twin := by
  have commands : ∀ (P : OdValue → Bool) (a : State), (((inOrder l).filter P).foldl imageCommand a).twin = a.twin := fun P a =>
    List.foldlRecOn (motive := fun b : State => b.twin = a.twin) _ _ rfl fun b same v mem =>
      (high.imageCommand_twin (mem_inOrder (List.mem_of_mem_filter mem)) b).trans same
  unfold State.putCommit
  dsimp only
  rw [commands, high.ordered.testEffects, high.ordered.laneEffects]
  refine ((State.armEffects_only _ _ _ (State.credentialEffects_only _ _ (State.hubEffects_only _ _ _ (State.standbyEffects_only _ _
    (State.clockEffects_only _ _ _ (State.slotEffects_only _ _ _ (State.fireflyEffects_only _ _ _ (State.bufferEffects_only _ _
    (State.associationEffects_only _ _ (.refl 0x240f0c1d07f41f03a5ff3fde _) rfl) rfl) rfl) rfl) rfl) rfl) rfl) rfl) rfl).twin rfl).trans ?_
  refine (high.ordered.portEffects_twin _ _).trans ?_
  exact (State.dropLearns_only _ _ (State.tableEffects_only _ _ _ (State.readmitChanged_only _ _ _ (State.admitChanged_only _ _
    (State.candidate_only _ _ (.refl 0x240f0c1d07f41f03a5ff3fde _) rfl) rfl) rfl) rfl) rfl).twin rfl

omit high in
theorem State.mirrorCommit_own (s was : State) (w : Writer) (mirror : w.who = 253) (k : List OdValue) : s.mirrorCommit was w k = s := by
  unfold State.mirrorCommit
  extract_lets m
  rw [if_pos (by rw [mirror]; rfl)]

omit high in
theorem State.recordCommit_twin (s was : State) (w : Writer) (mirror : w.who = 253) (values : List OdValue) :
    (s.recordCommit was w values).twin = s.twin := by
  unfold State.recordCommit
  extract_lets o b c
  split
  · rfl
  · have shown : c.twin = s.twin := (State.setNat_only _ _ _ _ (State.setNat_only _ _ _ _ (State.setNat_only _ _ _ _ (.refl partRegs s) rfl) rfl) rfl).twin rfl
    rw [State.mirrorCommit_own c was w mirror]
    exact ((State.commitNotices_only _ _ _ _ (.refl 0x100000000000000000042 c) rfl).twin rfl).trans shown

theorem HighValues.commitNow_twin (s : State) (w : Writer) (mirror : w.who = 253) : (s.commitNow w l imageCommand).twin = s.twin := by
  have due : (s.fireDue l).twin = s.twin := (State.fireDue_only s l (.refl 0x400000001d80000000002 s) rfl).twin rfl
  exact (State.recordCommit_twin _ _ w mirror l).trans ((high.putCommit_twin (s.fireDue l)).trans due)

end Commit

theorem State.mirroredValues_high (s : State) (l : List OdValue) : HighValues (s.mirroredValues l) := fun v mem => by
  obtain ⟨w, named, makes⟩ := List.mem_filterMap.mp mem
  have high := mirrored_high (List.mem_filter.mp named).2
  split at makes
  · split at makes
    · exact nomatch makes
    · exact Option.some.inj makes ▸ high
  · exact Option.some.inj makes ▸ high

theorem State.imageEntries_high {l : List OdValue} (high : HighValues l) (s : State) : HighValues (s.imageEntries l) := fun v mem => by
  unfold State.imageEntries at mem
  dsimp only at mem
  rcases List.mem_append.mp mem with mem | mem
  · rcases List.mem_append.mp mem with mem | mem
    · exact high v (List.mem_of_mem_filter (List.mem_of_mem_filter mem))
    · obtain ⟨k, kept, rfl⟩ := List.mem_map.mp mem
      rcases List.mem_append.mp kept with kept | kept <;> exact mirrored_high (Bool.and_eq_true _ _ ▸ (List.mem_filter.mp kept).2).1
  · split at mem
    · exact nomatch mem
    · rw [List.mem_singleton.mp mem]
      exact (by decide : 0x3000 ≤ 0xA100)

theorem State.imageCommits_high {l c : List OdValue} (high : HighValues l) (s : State) (mem : c ∈ s.imageCommits l) : HighValues c := by
  obtain ⟨j, -, rfl⟩ := List.mem_map.mp mem
  intro v mem
  rcases List.mem_append.mp mem with mem | mem
  · obtain ⟨t, table, makes⟩ := List.mem_filterMap.mp mem
    obtain ⟨i, own, rfl⟩ := List.mem_map.mp table
    obtain ⟨r, -, rfl⟩ := Option.map_eq_some_iff.mp makes
    exact mirrored_high (List.mem_filter.mp own).2
  · split at mem
    · exact s.imageEntries_high high v mem
    · exact nomatch mem

/-! ## The mirror on the shadow (14 R364 to R366) -/

section Mirror
variable (s : State) (e : Nat) (l : List OdValue)

/-- A mirrored commit that the shadow refuses is kept, and the mirror has diverged. -/
def State.keepRefused : State :=
  let t := { s with twin := { s.twin with refusedMirror := s.twin.refusedMirror ++ [({ epoch := e, values := l } : MirrorCommit)] } }
  ((t.setMirror 3).addSat 0x9000 0x0F 32 (valueItems l)).putBit 0x9000 0x02 12 true

theorem State.takeMirror_passes (passes : s.judgeNow { who := 253 } l imageCommand = none) :
    s.takeMirror e l = ((s.commitNow { who := 253 } l imageCommand).setNat 0x9000 0x0D e).sendControl 1 e := by
  unfold State.takeMirror
  dsimp only
  rw [passes]

theorem State.takeMirror_fails (fails : s.judgeNow { who := 253 } l imageCommand ≠ none) :
    s.takeMirror e l = ((s.keepRefused e l).raise 1205 0).sendControl 2 e := by
  obtain ⟨f, fails⟩ := Option.ne_none_iff_exists'.mp fails
  unfold State.takeMirror
  dsimp only
  rw [fails]
  rfl

theorem State.keepRefused_same : SameEntries (fun i j => i = 0x9000 ∧ (j = 0x02 ∨ j = 0x0C ∨ j = 0x0F)) s (s.keepRefused e l) :=
  ((((SameEntries.refl _ s).of_regs rfl).setReg (by decide) ⟨rfl, .inr (.inl rfl)⟩).setReg (by decide) ⟨rfl, .inr (.inr rfl)⟩).putBit (by decide)
    ⟨rfl, .inl rfl⟩

variable {s e l}

theorem State.takeMirror_shows (high : HighValues l) (linked : s.twin.linkUp = true) (passes : s.judgeNow { who := 253 } l imageCommand = none) :
    (s.takeMirror e l).nat 0x9000 0x0D = e ∧ (s.takeMirror e l).twin.controlOut = s.twin.controlOut ++ [(1, e)] := by
  have twin := high.commitNow_twin s { who := 253 } rfl
  rw [s.takeMirror_passes e l passes]
  generalize s.commitNow { who := 253 } l imageCommand = u at *
  have same : (u.setNat 0x9000 0x0D e).twin = s.twin := twin
  exact ⟨(State.nat_of_regs (State.sendControl_regs ..) _ _).trans (State.nat_setNat_same ..),
    (State.sendControl_out _ _ (by rw [same]; exact linked)).trans (by rw [same])⟩

theorem State.takeMirror_diverges (linked : s.twin.linkUp = true) (up : s.isSafe = false) (fails : s.judgeNow { who := 253 } l imageCommand ≠ none) :
    (s.takeMirror e l).nat 0x9000 0x0C = 3 ∧ (s.takeMirror e l).bit 0x9000 0x02 12 = true ∧
      (s.takeMirror e l).messages.any (fun m => m.source == 1205) = true ∧
      (s.takeMirror e l).nat 0x9000 0x0F = min (s.nat 0x9000 0x0F + valueItems l) (2 ^ 32 - 1) ∧
      (s.takeMirror e l).twin.controlOut = s.twin.controlOut ++ [(2, e)] := by
  have mirror : (s.keepRefused e l).nat 0x9000 0x0C = 3 := by
    unfold State.keepRefused State.setMirror State.addSat State.putBit State.setNat
    simp only [State.nat_setReg_at, show (0x0C : Nat) < 256 by decide, show (0x0F : Nat) < 256 by decide, show (0x02 : Nat) < 256 by decide]
    rfl
  have sticky : (s.keepRefused e l).bit 0x9000 0x02 12 = true := State.bit_putBit_same ..
  have count : (s.keepRefused e l).nat 0x9000 0x0F = min (s.nat 0x9000 0x0F + valueItems l) (2 ^ 32 - 1) := by
    unfold State.keepRefused State.setMirror State.addSat State.putBit State.setNat
    simp only [State.nat_setReg_at, show (0x0C : Nat) < 256 by decide, show (0x0F : Nat) < 256 by decide, show (0x02 : Nat) < 256 by decide]
    rfl
  have safe : (s.keepRefused e l).isSafe = false := by
    unfold State.isSafe State.runState
    rw [(s.keepRefused_same e l).nat (by decide) (by decide)]
    exact up
  have twin : (s.keepRefused e l).twin.linkUp = s.twin.linkUp ∧ (s.keepRefused e l).twin.controlOut = s.twin.controlOut := ⟨rfl, rfl⟩
  rw [s.takeMirror_fails e l fails]
  generalize s.keepRefused e l = u at *
  have raised := State.raise_message 1205 0 safe
  have frame : Only 0x140000000000000000 u (u.raise 1205 0) := State.raise_only u 1205 0 (.refl _ u) rfl
  have regs : ((u.raise 1205 0).sendControl 2 e).regs = u.regs := (State.sendControl_regs ..).trans (frame.regs rfl)
  refine ⟨(State.nat_of_regs regs _ _).trans mirror, ?_, ?_, (State.nat_of_regs regs _ _).trans count, ?_⟩
  · rw [State.bit, State.nat_of_regs regs]; exact sticky
  · rw [(State.sendControl_only _ 2 e (.refl partTwin _) rfl).messages rfl]
    exact raised
  · rw [State.sendControl_out _ _ (by rw [frame.twin rfl, twin.1, linked]), frame.twin rfl, twin.2]

theorem State.takeMirror_order (high : HighValues l) : (s.takeMirror e l).twin.order = s.twin.order := by
  by_cases passes : s.judgeNow { who := 253 } l imageCommand = none
  · rw [s.takeMirror_passes e l passes, State.sendControl_order]
    exact congrArg TwinX.order (high.commitNow_twin s { who := 253 } rfl)
  · rw [s.takeMirror_fails e l passes, State.sendControl_order, (State.raise_only _ 1205 0 (.refl 0x140000000000000000 _) rfl).twin rfl]
    rfl

theorem State.queueMirror_order (high : HighValues l) : (s.queueMirror e l).twin.order = s.twin.order := by
  unfold State.queueMirror
  split
  · rfl
  · exact State.takeMirror_order high

theorem State.takeImage_order (high : HighValues l) : (s.takeImage e l).twin.order = s.twin.order := by
  unfold State.takeImage
  split
  · exact State.sendControl_order ..
  · exact List.foldlRecOn (motive := fun a : State => a.twin.order = s.twin.order) _ _ rfl fun a same c mem =>
      (State.queueMirror_order (s.imageCommits_high high mem)).trans same

end Mirror

section Arrival
variable {s u : State} {h : KeaconHead} {image : Bool} {epoch : Nat} {values : List (Nat × Nat × List Byte)} {l : List OdValue}

/-- The next mirrored commit of the lead's stream is taken. -/
theorem State.mirrorArrives_takes (up : u.isUp = true) (shadow : u.nat 0x9000 0x01 = 2)
    (named : u.mirroredValues (values.map (fun v => OdValue.mk v.1 v.2.1 v.2.2)) = l)
    (next : u.nat 0x9000 0x0C = 1 ∨ (u.nat 0x9000 0x0C = 2 ∨ u.nat 0x9000 0x0C = 3) ∧
      0 < signed 32 ((epoch % 2 ^ 32 + 2 ^ 32 - u.nat 0x9000 0x0D) % 2 ^ 32)) :
    u.mirrorArrives image epoch values =
      if image ∧ u.nat 0x9000 0x0C = 1 then u.takeImage (epoch % 2 ^ 32) l else u.queueMirror (epoch % 2 ^ 32) l := by
  subst named
  unfold State.mirrorArrives
  extract_lets e m ahead k
  rw [if_pos ⟨up, shadow, next.imp_right (And.imp_right decide_eq_true)⟩]

theorem State.takeImage_one {e : Nat} {c : List OdValue} (one : u.imageCommits l = [c]) : u.takeImage e l = u.queueMirror e c := by
  unfold State.takeImage
  rw [one]
  rfl

theorem State.takeImage_none {e : Nat} (none : u.imageCommits l = []) : u.takeImage e l = (u.setNat 0x9000 0x0D e).sendControl 1 e := by
  unfold State.takeImage
  rw [none]

theorem State.queueMirror_now {e : Nat} (turn : u.mustWait l = false) : u.queueMirror e l = u.takeMirror e l := if_neg (by rw [turn]; decide)

theorem State.queueMirror_waits {e : Nat} (waits : u.mustWait l = true) :
    u.queueMirror e l = { u with commits := u.commits ++ [{ session := 253, values := l, epoch := some e }] } := if_pos waits

end Arrival

section Clauses
variable {s : State} {p : PortId}

theorem exec_mirrorFrameReceive {h : KeaconHead} {m : MirrorMessage} (linked : s.twin.linkUp = true) (good : goodKeacon m.cls h = true)
    (next : s.keaconAhead m.cls h.sequence = 0) (whole : s.keaconHole m.cls = false)
    (held : ((s.keaconPast m.cls (max 1 h.frames)).takeMirrorMessage m).twin.held = s.twin.held) :
    exec (.mirrorFrameReceive h m) s = .next ((s.keaconPast m.cls (max 1 h.frames)).takeMirrorMessage m) :=
  congrArg _ (State.keaconArrives_delivers (content := .mirror m) linked good next whole held)

/-- The shadow's answer to a commit, on the lead. -/
theorem State.mirrorAnswered_eq (leads : s.leads = true) (e : Nat) (refused : Bool) (streams : s.nat 0x9000 0x0C = 2 ∨ s.nat 0x9000 0x0C = 3) :
    s.mirrorAnswered e refused =
      let l := s.twin.refusedAway.filter (fun x => x != e) ++ if refused then [e] else []
      ({ s with twin := { s.twin with refusedAway := l } } : State).setMirror (if l.isEmpty then 2 else 3) := by
  unfold State.mirrorAnswered
  rw [if_neg (by rw [leads]; decide)]
  dsimp only
  rw [if_pos streams]
  cases refused
  · rw [if_neg Bool.false_ne_true, if_neg Bool.false_ne_true, List.append_nil]
  · rfl

theorem State.mirrorAnswered_shows {r : List Nat} {t : State}
    (eq : t = ({ s with twin := { s.twin with refusedAway := r } } : State).setMirror (if r.isEmpty then 2 else 3)) :
    t.twin.refusedAway = r ∧ t.nat 0x9000 0x0C = (if t.twin.refusedAway.isEmpty then 2 else 3) ∧ SameEntries (fun i j => i = 0x9000 ∧ j = 0x0C) s t ∧
      Only (partRegs ||| partTwin) s t := by
  subst eq
  exact ⟨rfl, State.nat_setNat_same .., ((SameEntries.refl _ s).of_regs rfl).setReg (by decide) ⟨rfl, rfl⟩,
    State.setNat_only _ _ _ _ (.upd_twin _ (.refl _ s) rfl) rfl⟩

theorem State.startResync_image (linked : s.twin.linkUp = true) (fits : s.twin.incompatible = false) (own : s.twin.idConflict = false) :
    s.startResync.twin.refusedMirror = [] ∧ (s.leads = true → s.startResync.twin.mirrorOut.map (·.epoch) = [s.nat 0x9000 0x0D]) := by
  unfold State.startResync
  rw [if_neg (by simp [linked, fits, own])]
  refine ⟨rfl, fun leads => ?_⟩
  dsimp only [State.setMirror, State.setNat, State.setReg]
  rw [if_pos leads]
  rfl

/-- A port that awaited its uncover shows standby, or none. -/
theorem State.uncover_shows (waits : s.nat (0x9100 + p) 0x03 = 4) :
    (s.uncover p).nat (0x9100 + p) 0x03 = if s.flag (0x9100 + p) 0x02 then 1 else 0 := by
  have judged := State.judgePort_untwinned (s.setNat (0x9100 + p) 0x03 (s.idleCover p)) p.isLt
  have eq : s.uncover p = ((s.setNat (0x9100 + p) 0x03 (s.idleCover p)).judgePort p).regionBack (p / 12) := if_neg (not_not.mpr waits)
  rw [eq, State.nat_of_regs (State.regionBack_regs _ _), judged.nat (by decide) (by unfold untwinnedEntry; omega)]
  exact State.nat_setNat_same ..

theorem State.uncoverArrives_shows (linked : s.twin.linkUp = true) : (s.uncoverArrives p).nat (0x9100 + p) 0x03 =
      (if s.nat (0x9100 + p) 0x03 = 3 then (if s.flag (0x9100 + p) 0x02 then 1 else 0) else s.nat (0x9100 + p) 0x03) ∧
    (s.uncoverArrives p).twin.controlOut = s.twin.controlOut ++ [(5, s.nat (0x9100 + p) 0x01)] ∧
    (s.uncoverArrives p).twin.held = s.twin.held ∧ Only (partRegs ||| partTwin) s (s.uncoverArrives p) := by
  have frame : Only (partRegs ||| partTwin) s (s.uncoverArrives p) := State.uncoverArrives_only s p (.refl _ s) rfl
  unfold State.uncoverArrives
  extract_lets a
  have covers : a.nat (0x9100 + p) 0x03 =
      if s.nat (0x9100 + p) 0x03 = 3 then (if s.flag (0x9100 + p) 0x02 then 1 else 0) else s.nat (0x9100 + p) 0x03 := by
    simp only [a]
    split
    · exact State.nat_setNat_same ..
    · rfl
  have partner : a.nat (0x9100 + p) 0x01 = s.nat (0x9100 + p) 0x01 := by
    simp only [a]
    split
    · rw [State.setNat, State.nat_setReg_at _ _ (by decide) (by decide), if_neg (by omega)]
    · rfl
  have twin : a.twin = s.twin := by
    simp only [a]
    split <;> rfl
  refine ⟨(State.nat_of_regs (State.sendControl_regs ..) _ _).trans covers, ?_, ?_, frame⟩
  · rw [State.sendControl_out _ _ (by rw [twin]; exact linked), twin, partner]
  · exact (congrArg (fun x => x.2.1) (a.sendControl_order 5 _)).trans (congrArg TwinX.held twin)

end Clauses

/-! ## Cover frames (14 R372)

The way of a frame into the buffers counts no cover frame. -/

/-- The entries but the counts of received cover frames. -/
def uncoveredEntry (_i j : Nat) : Prop := j ≠ 0x05

theorem assemblyEntry.uncovered {i j : Nat} (h : assemblyEntry i j) : uncoveredEntry i j := by
  unfold assemblyEntry at h; unfold uncoveredEntry; omega

theorem State.Assembles.uncovered {s t : State} (a : s.Assembles t) : SameEntries uncoveredEntry s t := a.entries.mono fun _ _ => assemblyEntry.uncovered

section Cover
variable (s : State) (g : Nat)

theorem State.drawCell_uncovered {pools : List Nat} {k : Nat} {u : State} (drawn : s.drawCell g pools = some (k, u)) : SameEntries uncoveredEntry s u := by
  induction pools with
  | nil => exact nomatch drawn
  | cons x xs ih =>
    unfold State.drawCell at drawn
    split at drawn
    · obtain ⟨rfl, rfl⟩ := Prod.mk.inj (Option.some.inj drawn)
      exact (s.usePool_assembles ..).uncovered
    · exact ih drawn

theorem State.offerCell_uncovered (x : Cell) : SameEntries uncoveredEntry s (s.offerCell g x) :=
  .ite ((SameEntries.refl _ s).setReg (by decide) (by decide : 0x0A ≠ 0x05)) (.ite ((SameEntries.refl _ s).of_regs rfl) ((SameEntries.refl _ s).of_regs rfl))

theorem State.offerAll_uncovered (f : RxFrame) (x : Cell) : SameEntries uncoveredEntry s (s.offerAll g f x) :=
  .ite (.foldl _ fun a _ _ => a.offerCell_uncovered g _)
    ((SameEntries.foldl _ fun a _ _ => a.offerCell_uncovered g _).trans (State.returnCell_assembles _ _ _).uncovered)

theorem State.hubFrame_uncovered (d : Descriptor) (payload : List Byte) : SameEntries uncoveredEntry s (s.hubFrame g d payload) := by
  unfold State.hubFrame
  extract_lets n u f parts count step
  have start : SameEntries uncoveredEntry s u := (SameEntries.refl _ s).of_regs rfl
  refine .ite (.refl _ s) (.ite start (start.trans ?_))
  refine List.foldlRecOn (motive := fun a : State × Bool => SameEntries uncoveredEntry u a.1) _ _ (.refl _ u) fun a same i _ => ?_
  simp only [step]
  split
  · exact same
  · split
    · have counted : SameEntries uncoveredEntry u (a.1.inc64 (0x4000 + g) 0x0B) := same.setReg (by decide) (by decide : 0x0B ≠ 0x05)
      split
      · exact counted
      · exact counted.trans (State.offerAll_uncovered _ _ _ _)
    next drawn => exact (same.trans (a.1.drawCell_uncovered g drawn)).trans (State.offerAll_uncovered _ _ _ _)

/-- Each of some ports counts a cover frame once. -/
theorem State.nat_foldl_coverCount (q : Nat) {l : List Nat} (once : l.Nodup) :
    (l.foldl (fun a p => a.inc64 (0x9100 + p) 0x05) s).nat (0x9100 + q) 0x05 =
      if q ∈ l then min (s.nat (0x9100 + q) 0x05 + 1) (2 ^ 64 - 1) else s.nat (0x9100 + q) 0x05 := by
  induction l generalizing s with
  | nil => rfl
  | cons p l ih =>
    obtain ⟨fresh, once⟩ := List.nodup_cons.mp once
    rw [List.foldl_cons, ih _ once]
    by_cases same : q = p
    · subst same
      rw [if_neg fresh, if_pos (List.mem_cons_self ..)]
      exact State.nat_addSat_same ..
    · have apart : ¬(0x9100 + p = 0x9100 + q ∧ 0x05 = 0x05) := fun h => same (Nat.add_left_cancel h.1).symm
      rw [State.inc64, State.addSat, State.setNat, State.nat_setReg_at _ _ (by decide) (by decide), if_neg apart]
      simp only [List.mem_cons, same, false_or]

theorem State.coverFrameArrives_counts {ports vid priority untag : Nat} {payload : List Byte} (covers : s.coveringPorts ports ≠ []) (up : s.isUp = true)
    (whole : s.regionFenced 0 = false) (p : Nat) :
    (s.coverFrameArrives ports vid priority untag payload).nat (0x9100 + p) 0x05 =
      if p ∈ s.coveringPorts ports then min (s.nat (0x9100 + p) 0x05 + 1) (2 ^ 64 - 1) else s.nat (0x9100 + p) 0x05 := by
  have first : (items 8).find? (fun g => !s.regionFenced g) = some 0 := by
    rw [show items 8 = 0 :: [1, 2, 3, 4, 5, 6, 7] from rfl, List.find?_cons_of_pos (by rw [whole]; rfl)]
  have once : (s.coveringPorts ports).Nodup := (List.nodup_range (n := 96)).filter _
  unfold State.coverFrameArrives
  extract_lets own
  rw [first]
  dsimp only
  rw [if_neg (by rw [up]; simp [own, covers]), State.nat_foldl_coverCount _ p once, (s.hubFrame_uncovered _ _ _).nat (by decide) (not_not.mpr rfl)]

end Cover

/-- Settles O41: a mirrored commit is applied and acknowledged, or kept and refused, in its turn; the lead notes the shadow's answers; a resync begins and
ends; notices, cover frames and acknowledgements act on the ports that they name. -/
theorem twinMirrorsAndCovers : Obligations.TwinMirrorsAndCovers := by
  unfold Obligations.TwinMirrorsAndCovers
  refine ⟨fun h image epoch values s u up linked shadow good ahead whole past l named next => ?_, fun h epoch m s linked leads good ahead whole which streams => ?_,
    fun role s admitted => ?_, fun s begun reached => ?_, fun h p s linked good ahead whole live partner free => ?_,
    fun h p s linked good ahead whole => ?_, fun h p role s waits => ⟨fun linked good ahead whole => ?_, fun admitted => ?_⟩,
    fun s f rest waits => ?_, fun h ports vid priority untag payload s covers linked good ahead whole up live => ?_⟩
  · subst past
    have takes := State.mirrorArrives_takes (u := s.keaconPast 3 (max 1 h.frames)) (image := image) up shadow named next
    have high : HighValues l := by rw [← named]; exact State.mirroredValues_high _ _
    have awake : (s.keaconPast 3 (max 1 h.frames)).isSafe = false := by
      unfold State.isUp at up
      unfold State.isSafe
      rw [show (s.keaconPast 3 (max 1 h.frames)).runState = s.runState from rfl]
      simp only [Bool.or_eq_true, beq_iff_eq] at up
      exact beq_false_of_ne (by omega)
    have order : ((s.keaconPast 3 (max 1 h.frames)).mirrorArrives image epoch values).twin.order = (s.keaconPast 3 (max 1 h.frames)).twin.order := by
      rw [takes]
      split
      · exact State.takeImage_order high
      · exact State.queueMirror_order high
    have run : exec (.mirrorFrameReceive h (.commit image epoch values)) s = .next ((s.keaconPast 3 (max 1 h.frames)).mirrorArrives image epoch values) :=
      exec_mirrorFrameReceive (m := .commit image epoch values) linked good ahead whole (congrArg (fun x => x.2.1) order)
    refine .of run ?_
    have mirror : (s.keaconPast 3 (max 1 h.frames)).nat 0x9000 0x0C = s.nat 0x9000 0x0C := rfl
    have shown : (s.keaconPast 3 (max 1 h.frames)).nat 0x9000 0x0F = s.nat 0x9000 0x0F := rfl
    have out : (s.keaconPast 3 (max 1 h.frames)).twin.controlOut = s.twin.controlOut := rfl
    have link : (s.keaconPast 3 (max 1 h.frames)).twin.linkUp = true := linked
    have regs : (s.keaconPast 3 (max 1 h.frames)).regs = s.regs := rfl
    have commits : (s.keaconPast 3 (max 1 h.frames)).commits = s.commits := rfl
    have past : Sparse.get 0 (s.keaconPast 3 (max 1 h.frames)).twin.classSeq 3 = (Sparse.get 0 s.twin.classSeq 3 + max 1 h.frames) % 65536 :=
      Sparse.get_set_same ..
    generalize s.keaconPast 3 (max 1 h.frames) = u at *
    refine ⟨(congrArg (fun x => Sparse.get 0 x.1 3) order).trans past, fun c one turn => ?_, fun plain waits => ?_, fun im resync none => ?_⟩
    · have now : u.mirrorArrives image epoch values = u.takeMirror (epoch % 2 ^ 32) c := by
        rw [takes, mirror]
        split at one
        next im => rw [if_pos im, State.takeImage_one one, State.queueMirror_now turn]
        next im =>
          obtain rfl := (List.cons.inj one).1
          rw [if_neg im, State.queueMirror_now turn]
      have highC : HighValues c := by
        split at one
        · exact u.imageCommits_high high (by rw [one]; exact .head _)
        · exact (List.cons.inj one).1 ▸ high
      rw [now, ← out, ← shown]
      exact ⟨State.takeMirror_shows highC link, State.takeMirror_diverges link awake⟩
    · have now : u.mirrorArrives image epoch values = u.queueMirror (epoch % 2 ^ 32) l := by
        rw [takes, mirror]
        exact if_neg (by rintro ⟨im, resync⟩; rcases plain with plain | plain <;> simp_all)
      rw [now, State.queueMirror_waits waits]
      refine ⟨regs, out, ?_⟩
      rw [← commits, List.map_append]
      rfl
    · have now : u.mirrorArrives image epoch values = (u.setNat 0x9000 0x0D (epoch % 2 ^ 32)).sendControl 1 (epoch % 2 ^ 32) := by
        rw [takes, mirror, if_pos ⟨im, resync⟩, State.takeImage_none none]
      rw [now]
      refine ⟨(State.nat_of_regs (State.sendControl_regs ..) _ _).trans (State.nat_setNat_same ..), ?_, ?_⟩
      · rw [← out]
        exact State.sendControl_out _ _ link
      · exact (((SameEntries.refl _ s).of_regs regs).setReg (by decide) ⟨rfl, rfl⟩).of_regs (State.sendControl_regs ..)
  · have answer : ∀ refused : Bool, (s.keaconPast m.cls (max 1 h.frames)).takeMirrorMessage m =
        (s.keaconPast m.cls (max 1 h.frames)).mirrorAnswered (epoch % 2 ^ 32) refused → decide (m = .refused epoch) = refused →
        Runs (.mirrorFrameReceive h m) s fun t => t.twin.refusedAway = s.twin.refusedAway.filter (fun e => e != epoch % 2 ^ 32) ++
            (if m = .refused epoch then [epoch % 2 ^ 32] else []) ∧
          t.nat 0x9000 0x0C = (if t.twin.refusedAway.isEmpty then 2 else 3) ∧ SameEntries (fun i j => i = 0x9000 ∧ j = 0x0C) s t ∧
          Only (partRegs ||| partTwin) s t := fun refused takes says_ => by
      have eq := State.mirrorAnswered_eq (s := s.keaconPast m.cls (max 1 h.frames)) leads (epoch % 2 ^ 32) refused streams
      obtain ⟨away, mirror, same, frame⟩ := State.mirrorAnswered_shows eq
      have held : ((s.keaconPast m.cls (max 1 h.frames)).takeMirrorMessage m).twin.held = s.twin.held := by rw [takes, eq]; rfl
      refine .of (exec_mirrorFrameReceive linked good ahead whole held) ?_
      rw [takes]
      refine ⟨away.trans ?_, mirror, ((SameEntries.refl _ s).of_regs rfl).trans same,
        (State.keaconPast_only s _ _ (.refl (partRegs ||| partTwin) s) rfl).step frame rfl⟩
      subst says_
      simp only [decide_eq_true_eq]
      rfl
    rcases which with rfl | rfl
    · exact answer true rfl (decide_eq_true rfl)
    · exact answer false rfl (decide_eq_false fun h => nomatch h)
  · have run : exec (.resync role) s = .next s.startResync.done := congrArg _ (State.hostWrite_admitted admitted _)
    refine .of run ?_
    have same := s.startResync_same
    refine ⟨rfl, fun linked fits own => ⟨s.startResync_begins linked fits own, s.startResync_image linked fits own⟩, ?_⟩
    generalize s.startResync = t at *
    exact same.of_regs rfl
  · have run : exec .resyncComplete s = .next (s.setMirror (if s.twin.refusedMirror.isEmpty ∧ s.twin.refusedAway.isEmpty then 2 else 3)) :=
      congrArg _ (if_neg (by
        rintro (other | ⟨leads, behind⟩)
        · exact other begun
        · obtain ⟨epoch, none⟩ := reached leads
          rw [none] at behind
          exact behind.elim (· epoch) (by decide)))
    exact .of run ⟨State.nat_setNat_same .., State.setNat_only _ _ _ _ (.refl _ s) rfl, (SameEntries.refl _ s).setReg (by decide) ⟨rfl, rfl⟩⟩
  · have covers : (s.keaconPast 2 (max 1 h.frames)).deliver (.coverNotice p) = (s.keaconPast 2 (max 1 h.frames)).setNat (0x9100 + p) 0x03 3 :=
      if_pos ⟨by rw [show (s.keaconPast 2 (max 1 h.frames)).regionFenced (p.val / 12) = s.regionFenced (p.val / 12) from rfl, live]; rfl, partner, free⟩
    have run : exec (.coverNoticeReceive h p) s = .next ((s.keaconPast 2 (max 1 h.frames)).setNat (0x9100 + p) 0x03 3) :=
      congrArg _ ((State.keaconArrives_delivers linked good ahead whole (by rw [covers]; rfl)).trans covers)
    exact .of run ⟨State.nat_setNat_same .., ((SameEntries.refl _ s).of_regs rfl).setReg (by decide) ⟨rfl, rfl⟩, rfl,
      State.setNat_only _ _ _ _ (State.keaconPast_only _ _ _ (.refl _ s) rfl) rfl⟩
  · obtain ⟨cover, out, held, frame⟩ := State.uncoverArrives_shows (s := s.keaconPast 2 (max 1 h.frames)) (p := p) linked
    have run : exec (.uncoverNoticeReceive h p) s = .next ((s.keaconPast 2 (max 1 h.frames)).uncoverArrives p) :=
      congrArg _ (State.keaconArrives_delivers (content := .uncoverNotice p) linked good ahead whole held)
    exact .of run ⟨cover, out, (State.keaconPast_only s 2 _ (.refl (partRegs ||| partTwin) s) rfl).step frame rfl⟩
  · have run : exec (.uncoverAckReceive h p) s = .next ((s.keaconPast 2 (max 1 h.frames)).uncover p) :=
      congrArg _ (State.keaconArrives_delivers (content := .uncoverAck p) linked good ahead whole ((congrArg TwinX.held (State.uncover_twin _ p)).trans rfl))
    exact .of run (State.uncover_shows (s := s.keaconPast 2 (max 1 h.frames)) waits)
  · have run : exec (.releaseCover role p) s = .next (s.uncover p).done := congrArg _ (State.hostWrite_admitted admitted _)
    refine .of run ?_
    have shows_ := State.uncover_shows waits
    generalize s.uncover p = t at *
    exact ⟨rfl, shows_⟩
  · have run : exec .coverFrameTimeout s = .next (({ s with twin := { s.twin with coverBuffer := rest } } : State).inc64 0x9000 0x14) := by
      change execCoverFrameTimeout s = _
      unfold execCoverFrameTimeout
      rw [waits]
    exact .of run ⟨rfl, State.nat_inc64_of rfl, ((SameEntries.refl _ s).of_regs rfl).setReg (by decide) ⟨rfl, rfl⟩⟩
  · have twin : ((s.keaconPast 4 (max 1 h.frames)).coverFrameArrives ports.toNat vid priority untag payload).twin = (s.keaconPast 4 (max 1 h.frames)).twin :=
      (State.coverFrameArrives_only _ _ _ _ _ _ (.refl 0x140000000000005002 _) rfl).twin rfl
    have run : exec (.coverFrameReceive h ports vid priority untag payload) s =
        .next ((s.keaconPast 4 (max 1 h.frames)).coverFrameArrives ports.toNat vid priority untag payload) :=
      congrArg _ (State.keaconArrives_delivers (content := .cover ports.toNat vid priority untag payload) linked good ahead whole ((congrArg TwinX.held twin).trans rfl))
    exact .of run fun p _ => State.coverFrameArrives_counts (s := s.keaconPast 4 (max 1 h.frames)) covers up live p

end Sys2Proof.Machine

namespace Sys2Proof.Machine

-- The kernel evaluates the runs below one after another: side by side, each holds a thread while it waits for the declarations before it.
set_option Elab.async false

/-! ## A detection whose fence detects its own source (15 R381, R386; 10 R276, R277)

The source is FS3, that port 0's timing is not verified, and its setting fences its unit, the timestamp unit of port 0. The port's timing is synchronized, so
that the fence of its timestamp unit makes it unverified: the source is detected once more in the same command, and its count reads 2. -/

/-- A device in RUN with port 0 up and timing, and the fence of its unit as the reaction to FS3. -/
def timingFencesItself : State :=
  { regs := [(key 0x2100 0x03, 1), (key 0x2400 0x01, 1), (key 0x1000 0x08, 2)], settings := [(3, settingOf 1 1 0)], start := { powered := true } }

theorem timingFencesItself_detects : ∃ t, exec (.faultDetection [⟨3, 0⟩] {}) timingFencesItself = .next t ∧ Sparse.get 0 t.sourceCounts 3 = 2 :=
  ⟨_, rfl, by decide +kernel⟩

/-- Refutes O42: from `timingFencesItself` the source is counted twice, at the detection and at its own fence, where the statement has one. -/
theorem not_detectionIsRecordedAndActs : ¬ Obligations.DetectionIsRecordedAndActs := by
  unfold Obligations.DetectionIsRecordedAndActs
  intro all
  obtain ⟨t, run, twice⟩ := timingFencesItself_detects
  obtain ⟨u, again, once, -⟩ := all 3 0 {} timingFencesItself (by decide +kernel) rfl (by decide) (by decide)
  obtain rfl : t = u := Host.Outcome.next.inj (run.symm.trans again)
  exact absurd (twice.symm.trans once) (by decide)

end Sys2Proof.Machine

namespace Sys2Proof.Machine

-- The kernel evaluates the runs below one after another: side by side, each holds a thread while it waits for the declarations before it.
set_option Elab.async false

/-! ## A stall behind another one's message (02 R46; 15 R381)

A detection whose source waits in its crossing already sends no second message, so that the message that waits keeps its own detail. -/

/-- A device in RUN with a message of the stall source of crossing 0 that names crossing 1. -/
def stallBehindStall : State := { regs := [(key 0x1000 0x08, 2)], messages := [⟨stallSource 0, 1⟩] }

theorem stallBehindStall_expires : ∃ t, exec (.stallLimitExpiry 0) stallBehindStall = .next t ∧
    t.messages.any (fun m => m.source == stallSource 0 && m.detail == 0) = false := ⟨_, rfl, by decide +kernel⟩

/-- Refutes O43: from `stallBehindStall` no message with the crossing's own number waits, where the statement has one. -/
theorem not_safetyLogicAndSupplies : ¬ Obligations.SafetyLogicAndSupplies := by
  unfold Obligations.SafetyLogicAndSupplies
  rintro ⟨-, -, -, -, stall⟩
  obtain ⟨t, run, none⟩ := stallBehindStall_expires
  obtain ⟨u, again, -, -, some, -⟩ := stall 0 stallBehindStall (by decide +kernel) (by decide +kernel)
  obtain rfl : t = u := Host.Outcome.next.inj (run.symm.trans again)
  exact Bool.noConfusion (none.symm.trans some)

end Sys2Proof.Machine

namespace Sys2Proof.Machine

/-! ## Masks, windows, the log and ERR_N (15 R389, R392, R393, R397) -/

/-- The window that closes next is one of them, and none closes before it. -/
theorem firstToClose_least {l : List Act} {w : Act} (first : firstToClose l = some w) : w ∈ l ∧ ∀ b ∈ l, w.closes ≤ b.closes := by
  induction l generalizing w with
  | nil => exact nomatch first
  | cons a l ih =>
    unfold firstToClose at first
    cases rest : firstToClose l with
    | none =>
      rw [rest] at first
      obtain rfl := Option.some.inj first
      have empty : l = [] := by
        cases l with
        | nil => rfl
        | cons b l => unfold firstToClose at rest; split at rest <;> exact nomatch rest
      subst empty
      exact ⟨.head _, fun b mem => by rw [List.mem_singleton.mp mem]⟩
    | some v =>
      rw [rest] at first
      obtain ⟨mem, least⟩ := ih rest
      dsimp only at first
      split at first
      next sooner =>
        obtain rfl := Option.some.inj first
        exact ⟨.head _, fun b h => (List.mem_cons.mp h).elim (fun eq => eq ▸ le_rfl) fun h => sooner.trans (least b h)⟩
      next later =>
        obtain rfl := Option.some.inj first
        exact ⟨.tail _ mem, fun b h => (List.mem_cons.mp h).elim (fun eq => eq ▸ (Nat.lt_of_not_le later).le) (least b)⟩

section ErrN
variable (s : State)

/-- ERR_N follows what calls for it, but stays while it is held. -/
theorem State.judgeErrN_errN : s.judgeErrN.errN = if s.errNHold then s.errN || s.errNCalled else s.errNCalled := by
  unfold State.judgeErrN
  cases called : s.errNCalled <;> cases held : s.errNHold <;> cases on : s.errN <;> simp [on]

/-- Every record is acknowledged. -/
def State.acknowledged : State := { s with log := s.log.map (fun (r : Record) => { r with flags := setBit r.flags 6 true }) }

/-- With every record acknowledged, a device in service calls for no ERR_N. -/
theorem State.acknowledged_calls (up : 2 ≤ s.runState) (awake : s.isSafe = false) : s.acknowledged.errNCalled = false := by
  have calm : s.acknowledged.log.any (fun r => r.flags.testBit 5 && !r.flags.testBit 6) = false := by
    refine List.any_eq_false.mpr fun r mem => ?_
    obtain ⟨o, -, rfl⟩ := List.mem_map.mp mem
    simp only [testBit_setBit]
    simp
  unfold State.errNCalled
  rw [calm, show s.acknowledged.runState = s.runState from rfl, show s.acknowledged.isSafe = s.isSafe from rfl, awake, decide_eq_false (by omega)]
  rfl

/-- What is shown of the log once every record is acknowledged. -/
theorem State.acknowledged_log : s.acknowledged.log.all (fun r => r.flags.testBit 6) = true ∧
    s.acknowledged.log.map (fun r => (r.source, r.severity, r.time)) = s.log.map (fun r => (r.source, r.severity, r.time)) := by
  constructor
  · refine List.all_eq_true.mpr fun r mem => ?_
    obtain ⟨o, -, rfl⟩ := List.mem_map.mp mem
    simp [testBit_setBit]
  · exact List.map_map

theorem State.awake_of_admits {s : State} {role : Role} {i j : Nat} (admitted : s.admits role i j) : s.isSafe = false := by
  unfold State.admits State.writeBar State.served at admitted
  split at admitted
  · exact nomatch admitted
  next served =>
    simp only [Bool.not_eq_true', Bool.not_eq_false, Bool.and_eq_true] at served
    exact served.2

end ErrN

/-- Settles O44: a mask ends unless its fence stands, the window of the act that completes first closes, the first-fault register and the log are cleared
by name, and ERR_N follows what calls for it. -/
theorem faultStateIsClearedByName : Obligations.FaultStateIsClearedByName := by
  unfold Obligations.FaultStateIsClearedByName
  refine ⟨fun l i s => ?_, fun s w first => ?_, fun role s admitted => ?_, fun role s admitted => ?_, fun s => ?_⟩
  · cases stands : s.hasFence l i with
    | true =>
      have run : exec (.maskEnd l i) s = .next s := congrArg _ (if_pos stands)
      exact .of run ⟨.refl _ s, rfl, rfl⟩
    | false =>
      have run : exec (.maskEnd l i) s = .next { s with masks := s.masks.filter (fun m => m != (l, i)) } := congrArg _ (if_neg (by rw [stands]; decide))
      refine .of run ⟨.upd_masks _ (.refl _ s) rfl, ?_, ?_⟩
      · simp
      · simp
  · obtain ⟨mem, least⟩ := firstToClose_least first
    have run : exec .consequenceWindowClose s = .next { s with windows := s.windows.erase w } := by
      change execConsequenceWindowClose s = _
      unfold execConsequenceWindowClose
      rw [first]
    exact .of run ⟨mem, least, rfl⟩
  · have run : exec (.clearFirstFault role) s = .next ({ s with firstFault := none } : State).done := congrArg _ (State.hostWrite_admitted admitted _)
    exact .of run ⟨rfl, rfl, rfl, State.done_only _ (.upd_firstFault _ (.refl _ s) rfl) rfl⟩
  · have run : exec (.acknowledge role) s = .next s.acknowledged.judgeErrN.done := congrArg _ (State.hostWrite_admitted admitted _)
    have frame := State.judgeErrN_only s.acknowledged (.refl (partErrN ||| partErrNHold) _) rfl
    obtain ⟨marked, kept⟩ := s.acknowledged_log
    have errN := s.acknowledged.judgeErrN_errN
    refine .of run ⟨rfl, ?_, ?_, ?_, fun free up => ?_, fun held => ?_⟩
    · rw [show s.acknowledged.judgeErrN.done.log = s.acknowledged.log from frame.log rfl]; exact marked
    · rw [show s.acknowledged.judgeErrN.done.log = s.acknowledged.log from frame.log rfl]; exact kept
    · exact frame.firstFault rfl
    · exact errN.trans ((if_neg (by rw [show s.acknowledged.errNHold = s.errNHold from rfl, free]; decide)).trans
        (s.acknowledged_calls up (State.awake_of_admits admitted)))
    · have calls : s.acknowledged.judgeErrN.done.errNCalled = s.acknowledged.errNCalled := by
        have log : s.acknowledged.judgeErrN.done.log = s.acknowledged.log := frame.log rfl
        have regs : s.acknowledged.judgeErrN.done.regs = s.acknowledged.regs := frame.regs rfl
        unfold State.errNCalled State.isSafe State.runState
        rw [log, State.nat_of_regs regs]
      rw [calls]
      exact errN.trans (if_pos held)
  · have run : exec .errNMinimumExpiry s = .next ({ s with errNHold := false } : State).judgeErrN := rfl
    exact .of run ⟨State.judgeErrN_errN ({ s with errNHold := false } : State), State.judgeErrN_only _ (.upd_errNHold _ (.refl _ s) rfl) rfl⟩

end Sys2Proof.Machine

namespace Sys2Proof.Machine

-- The kernel evaluates the runs below one after another: side by side, each holds a thread while it waits for the declarations before it.
set_option Elab.async false

/-! ## A host's fence with a refused mirrored commit behind it (14 R366; 15 R388, R400)

A change of the fences has a refused commit of the mirror tried again, whatever its values name. One that names the run state and puts its default there
passes, so that the run state after the fence is not the one that the fence brought. -/

/-- A device in RUN with a refused mirrored commit that puts 0 into the run state. -/
def fenceBehindMirror : State :=
  { regs := [(key 0x1000 0x08, 2)], start := { server := true },
    twin := { refusedMirror := [{ epoch := 0, values := [⟨0x1000, 0x08, [0]⟩] }] } }

theorem fenceBehindMirror_fences : ∃ t, exec (.hostFence .own .engine 0) fenceBehindMirror = .next t ∧ t.runState = 0 := ⟨_, rfl, by decide +kernel⟩

/-- Refutes O45: from `fenceBehindMirror` the run state reads 0 after the fence of engine 0, where the statement has DEGRADED. No run keeps a refused commit
that names the run state: the lead mirrors settings only, which the statement does not ask of the state. -/
theorem not_hostFencesAndReleases : ¬ Obligations.HostFencesAndReleases := by
  unfold Obligations.HostFencesAndReleases
  rintro ⟨fence, -⟩
  obtain ⟨t, run, zero⟩ := fenceBehindMirror_fences
  obtain ⟨u, again, -, -, cut⟩ := fence .own .engine 0 fenceBehindMirror (show fenceBehindMirror.writeBar .own (needRole 0xA010 0x07) 0xA010 0x07 = none by decide +kernel) (by decide +kernel)
  obtain rfl : t = u := Host.Outcome.next.inj (run.symm.trans again)
  obtain ⟨-, -, degraded, -⟩ := cut (by decide) (by decide +kernel)
  exact absurd (zero.symm.trans degraded) (by decide)

end Sys2Proof.Machine

namespace Sys2Proof.Machine

/-! ## Engines (17 R432 to R437) -/

section Engines
variable {s : State} {e : EngineId}

/-- An event for a thread of a running engine joins the thread's queue. -/
theorem State.sendEvent_running (thread : Fin 4) (type data : Nat) (runs : s.nat (0xB000 + e) 0x02 = 2) :
    s.sendEvent (4 * e.val + thread.val) type data = s.queueEvent e thread type data := by
  have engine : (4 * e.val + thread.val) / 4 = e.val := by omega
  have own : (4 * e.val + thread.val) % 4 = thread.val := by omega
  unfold State.sendEvent
  rw [if_neg (by omega)]
  dsimp only
  rw [engine, own, runs, if_neg (by decide), if_neg (by decide)]

theorem State.queueEvent_room {thread : Nat} (type data : Nat) (room : (Sparse.get [] (s.engine e).events thread).length < 64) :
    Sparse.get [] ((s.queueEvent e thread type data).engine e).events thread = Sparse.get [] (s.engine e).events thread ++ [(type, data)] ∧
      Only partEngines s (s.queueEvent e thread type data) := by
  have eq : s.queueEvent e thread type data =
      s.setEngine e { s.engine e with events := Sparse.set [] (s.engine e).events thread (Sparse.get [] (s.engine e).events thread ++ [(type, data)]) } :=
    if_pos room
  rw [eq]
  exact ⟨by rw [State.engine_setEngine_same]; exact Sparse.get_set_same .., State.setEngine_only _ _ _ (.refl _ s) rfl⟩

theorem State.queueEvent_full {thread : Nat} (type data : Nat) (full : 64 ≤ (Sparse.get [] (s.engine e).events thread).length) :
    s.queueEvent e thread type data = s.inc32 (0xB000 + e) 0x05 := if_neg (Nat.not_lt.mpr full)

/-- The substitutes of the fenced engines are shown in an entry of their own. -/
theorem State.judgeSubstitutes_same (s : State) : SameEntries (fun i j => 0xB000 ≤ i ∧ j = 0x09) s s.judgeSubstitutes :=
  .foldl _ fun a _ _ => (SameEntries.refl _ a).setReg (by decide) ⟨by omega, rfl⟩

theorem State.judgeSubstitutes_engine (s : State) (k : Nat) : s.judgeSubstitutes.engine k = s.engine k :=
  (State.judgeSubstitutes_only s (.refl partRegs s) rfl).engine_kept rfl k

/-- An engine whose load has passed. -/
def EngineX.loaded (x : EngineX) (image now : Nat) : EngineX :=
  if x.atEntry then { x with atEntry := false, running := image, halted := 15 } else { x with running := image, watchdogAt := now }

/-- A load that ends: the engine's threads start, wait at their entry point, or stay stopped. -/
def State.loaded (s : State) (e : EngineId) (digestOk : Bool) : State :=
  if digestOk && s.imagePassed (s.nat (0xB000 + e) 0x01) then
    (s.setEngine e ((s.engine e).loaded (s.nat (0xB000 + e) 0x01) s.now)).setNat (0xB000 + e) 0x02 (if (s.engine e).atEntry then 3 else 2)
  else s.setNat (0xB000 + e) 0x02 0

theorem exec_imageLoadComplete {digestOk : Bool} (serves : s.start.server = true) (loads : s.nat (0xB000 + e) 0x02 = 1 ∨ s.nat (0xB000 + e) 0x02 = 4) :
    exec (.imageLoadComplete e digestOk) s = .next (s.loaded e digestOk).judgeSubstitutes := by
  change execImageLoadComplete e digestOk s = _
  unfold execImageLoadComplete State.loaded EngineX.loaded
  rw [if_pos ⟨serves, loads⟩]
  dsimp only
  cases (s.engine e).atEntry <;> rfl

theorem State.loaded_fails {digestOk : Bool} (fails : digestOk = false ∨ s.imagePassed (s.nat (0xB000 + e) 0x01) = false) :
    s.loaded e digestOk = s.setNat (0xB000 + e) 0x02 0 := if_neg (by rcases fails with h | h <;> simp [h])

theorem State.loaded_starts (passes : s.imagePassed (s.nat (0xB000 + e) 0x01) = true) :
    ((s.loaded e true).engine e).running = s.nat (0xB000 + e) 0x01 ∧ (s.loaded e true).nat (0xB000 + e) 0x02 = (if (s.engine e).atEntry then 3 else 2) ∧
      ((s.engine e).atEntry = true → ((s.loaded e true).engine e).halted = 15) := by
  have engine : (s.loaded e true).engine e = (s.engine e).loaded (s.nat (0xB000 + e) 0x01) s.now := by
    unfold State.loaded
    rw [if_pos (by rw [passes]; rfl)]
    exact State.engine_setEngine_same ..
  have state : (s.loaded e true).nat (0xB000 + e) 0x02 = (if (s.engine e).atEntry then 3 else 2) := by
    unfold State.loaded
    rw [if_pos (by rw [passes]; rfl)]
    exact State.nat_setNat_same ..
  rw [engine]
  refine ⟨?_, state, fun entry => ?_⟩
  · unfold EngineX.loaded
    split <;> rfl
  · unfold EngineX.loaded
    rw [if_pos entry]

theorem State.loaded_apart (digestOk : Bool) {k : Nat} (apart : k ≠ e.val) : (s.loaded e digestOk).engine k = s.engine k := by
  unfold State.loaded
  split
  · exact (State.engine_setEngine ..).trans (if_neg (Ne.symm apart))
  · rfl

end Engines

/-- Settles O46: a restart times the watchdog anew, its expiry and a trap are raised, a timer's event joins its queue, and a load starts the engine or leaves
it stopped. -/
theorem enginesRunTrapAndLoad : Obligations.EnginesRunTrapAndLoad := by
  unfold Obligations.EnginesRunTrapAndLoad
  refine ⟨fun e s runs => ?_, fun e s runs free awake due => ?_, fun e thread cause address s runs => ?_, fun e thread s runs => ?_,
    fun e digestOk s serves loads => .of (exec_imageLoadComplete serves loads) ?_⟩
  · have run : exec (.watchdogRestart e) s = .next (s.setEngine e { s.engine e with watchdogAt := s.now, watchdogRan := 0 }) := congrArg _ (if_pos runs)
    exact .of run ⟨State.engine_setEngine_same .., fun k apart => (State.engine_setEngine ..).trans (if_neg (Ne.symm apart)),
      State.setEngine_only _ _ _ (.refl _ s) rfl⟩
  · have run : exec (.watchdogExpiry e) s = .next ((s.setEngine e { s.engine e with watchdogAt := s.now }).raise (1104 + 4 * e.val + 2) 0) :=
      congrArg _ (if_pos ⟨runs, free, due⟩)
    exact .of run ⟨State.raise_message _ 0 awake, (State.raise_only _ _ _ (.refl 0x140000000000000000 _) rfl).regs rfl⟩
  · have run : exec (.engineTrap e thread cause address) s = .next (s.trap e thread cause address) := congrArg _ (if_pos runs)
    unfold State.trap at run
    refine .of run ⟨?_, fun awake => State.raise_message _ _ awake, State.raise_only _ _ _ (State.setBlob_only _ _ _ _ (.refl _ s) rfl) rfl⟩
    rw [(State.raise_only _ _ _ (.refl 0x140000000000000000 _) rfl).blob_kept rfl]
    exact State.blob_setBlob_same ..
  · have run : exec (.threadTimerExpiry e thread) s = .next (s.queueEvent e thread 6 0) := by
      refine congrArg _ ((if_pos ?_).trans (State.sendEvent_running thread 6 0 runs))
      unfold State.engineState
      omega
    refine .of run ⟨State.queueEvent_room 6 0, fun full => ?_⟩
    rw [State.queueEvent_full 6 0 full]
    exact ⟨rfl, State.nat_addSat_same ..⟩
  · have shown : (s.loaded e digestOk).judgeSubstitutes.nat (0xB000 + e) 0x02 = (s.loaded e digestOk).nat (0xB000 + e) 0x02 :=
      (s.loaded e digestOk).judgeSubstitutes_same.nat (by decide) (by omega)
    rw [shown, State.judgeSubstitutes_engine]
    refine ⟨fun fails => ?_, fun good passes => ?_, fun k apart => ?_⟩
    · rw [State.loaded_fails fails]
      exact State.nat_setNat_same ..
    · subst good
      exact State.loaded_starts passes
    · rw [State.judgeSubstitutes_engine]
      exact State.loaded_apart digestOk apart

end Sys2Proof.Machine

namespace Sys2Proof.Machine

/-! ## Performance counters and monitors (17 R439 to R444, R450) -/

/-- A fold over distinct items reaches what one item's own step brings about, where the steps of the others keep it. -/
theorem foldl_once {α β : Type} {f : α → β → α} {Before After : α → Prop} {x : β} {l : List β} (once : l.Nodup) (mem : x ∈ l)
    (step : ∀ a, Before a → After (f a x)) (before : ∀ a y, y ≠ x → Before a → Before (f a y)) (after : ∀ a y, y ≠ x → After a → After (f a y))
    {a : α} (start : Before a) : After (l.foldl f a) := by
  obtain ⟨l₁, l₂, rfl⟩ := List.append_of_mem mem
  have apart := List.nodup_middle.mp once
  rw [List.nodup_cons, List.mem_append, not_or] at apart
  obtain ⟨⟨first, last⟩, -⟩ := apart
  rw [List.foldl_append, List.foldl_cons]
  refine List.foldlRecOn (motive := After) l₂ f (step _ ?_) fun a kept y hy => after a y (fun h => last (h ▸ hy)) kept
  exact List.foldlRecOn (motive := Before) l₁ f start fun a kept y hy => before a y (fun h => first (h ▸ hy)) kept

/-- A key that a filter keeps reads as before, another one reads the default. -/
theorem Sparse.get_filter {α : Type} (d : α) (P : Nat → Bool) (m : Sparse α) (k : Nat) :
    Sparse.get d (m.filter fun e => P e.1) k = if P k then Sparse.get d m k else d := by
  induction m with
  | nil => cases P k <;> rfl
  | cons e m ih =>
    obtain ⟨n, v⟩ := e
    by_cases same : n = k
    · subst same
      cases kept : P n
      · rw [List.filter_cons_of_neg (by simp [kept]), ih, kept]
        rfl
      · rw [List.filter_cons_of_pos (by simp [kept])]
        simp [Sparse.get]
    · rw [show Sparse.get d ((n, v) :: m) k = Sparse.get d m k from if_neg same, ← ih]
      cases kept : P n
      · rw [List.filter_cons_of_neg (by simp [kept])]
      · rw [List.filter_cons_of_pos (by simp [kept])]
        exact if_neg same

/-! ### A counter's events -/

/-- The entries that a wrapped counter writes: the overflow count, and the lost events of engines. -/
def wrapEntry (i j : Nat) : Prop := (i = 0xB080 ∧ j = 0x08) ∨ (0xB000 ≤ i ∧ i < 0xB010 ∧ j = 0x05)

section Counter
variable (s : State) (idx sub n : Nat)

theorem State.sendEvent_lost (thread type data : Nat) :
    SameEntries (fun i j => 0xB000 ≤ i ∧ i < 0xB010 ∧ j = 0x05) s (s.sendEvent thread type data) := by
  have lost : ∀ e, e < 16 → SameEntries (fun i j => 0xB000 ≤ i ∧ i < 0xB010 ∧ j = 0x05) s (s.inc32 (0xB000 + e) 0x05) := fun e he =>
    (SameEntries.refl _ s).setReg (by decide) ⟨by omega, by omega, rfl⟩
  have queued : ∀ e t, e < 16 → SameEntries (fun i j => 0xB000 ≤ i ∧ i < 0xB010 ∧ j = 0x05) s (s.queueEvent e t type data) := fun e t he =>
    .ite ((SameEntries.refl _ s).of_regs rfl) (lost e he)
  unfold State.sendEvent
  extract_lets e t st sub
  split_ifs with far fenced near resets
  · exact .refl _ s
  · exact queued sub t near
  · exact lost e (by omega)
  · exact lost e (by omega)
  · exact queued e t (by omega)

theorem State.wrapped_same : SameEntries wrapEntry s (s.wrapped n) := by
  unfold State.wrapped
  extract_lets a
  have ha : SameEntries wrapEntry s a := ((SameEntries.refl _ s).of_regs rfl).setReg (by decide) (.inl ⟨rfl, rfl⟩)
  exact ha.trans ((a.sendEvent_lost _ _ _).mono fun i j h => .inr h)

theorem State.perfAdd_same : SameEntries wrapEntry s (s.perfAdd idx sub n) := by
  unfold State.perfAdd
  extract_lets v a
  have ha : SameEntries wrapEntry s a := (SameEntries.refl _ s).of_regs rfl
  exact .ite ha (ha.trans (a.wrapped_same _))

theorem State.perfAdd_perf (k : Nat) : Sparse.get 0 (s.perfAdd idx sub n).perf k =
    if key idx sub = k then (Sparse.get 0 s.perf (key idx sub) + n) % 2 ^ 48 else Sparse.get 0 s.perf k := by
  unfold State.perfAdd
  extract_lets v a
  have perf : (if v < 2 ^ 48 then a else a.wrapped (counterBit (key idx sub))).perf = a.perf := by
    split
    · rfl
    · exact (State.wrapped_only a _ (.refl 0x2400000000000000000002 a) rfl).perf rfl
  rw [perf]
  exact Sparse.get_set ..

end Counter

/-! ### The epoch boundary -/

section Boundary
variable (s : State)

/-- The counters of a region begin above those of the engines' slots. -/
theorem State.countSlots_same (e : Nat × Nat) : SameEntries wrapEntry s (s.countSlots e) := by
  unfold State.countSlots
  extract_lets idx sub
  exact .ite (.refl _ s) (.ite (s.perfAdd_same _ _ _) (.ite (.refl _ s) ((s.perfAdd_same _ _ _).trans (State.perfAdd_same _ _ _ _))))

theorem State.countSlots_region (e : Nat × Nat) {g : Nat} (hg : g < 8) :
    Sparse.get 0 (s.countSlots e).perf (key (0x3810 + g) 1) = Sparse.get 0 s.perf (key (0x3810 + g) 1) := by
  have apart : ∀ idx sub, 0xB010 ≤ idx → key idx sub ≠ key (0x3810 + g) 1 := fun idx sub high => by unfold key; omega
  unfold State.countSlots
  extract_lets idx sub
  have high : 0xB010 ≤ idx := Nat.le_add_right ..
  split_ifs
  · rfl
  · rw [State.perfAdd_perf, if_neg (apart _ _ high)]
  · rfl
  · rw [State.perfAdd_perf, if_neg (apart _ _ high), State.perfAdd_perf, if_neg (apart _ _ high)]

theorem State.countAll_same (l : List (Nat × Nat)) : SameEntries wrapEntry s (l.foldl State.countSlots s) :=
  .foldl l fun a e _ => a.countSlots_same e

theorem State.countAll_region (l : List (Nat × Nat)) {g : Nat} (hg : g < 8) :
    Sparse.get 0 (l.foldl State.countSlots s).perf (key (0x3810 + g) 1) = Sparse.get 0 s.perf (key (0x3810 + g) 1) :=
  List.foldlRecOn (motive := fun a : State => Sparse.get 0 a.perf (key (0x3810 + g) 1) = _) l _ rfl fun a same e _ => (a.countSlots_region e hg).trans same

/-- An entry takes the counter of its key. -/
def State.takeCounter (s : State) (k : Nat) : State := s.setNat (k / 256) (k % 256) (Sparse.get 0 s.perf k)

/-- An entry after some entries have taken the counters of their keys. -/
theorem State.nat_takeCounters (l : List Nat) {i j : Nat} (hj : j < 256) : (l.foldl State.takeCounter s).nat i j =
      if key i j ∈ l then Sparse.get 0 s.perf (key i j) else s.nat i j := by
  induction l generalizing s with
  | nil => rfl
  | cons k l ih =>
    have own : (k / 256 = i ∧ k % 256 = j) ↔ key i j = k := by unfold key; omega
    have head : (s.takeCounter k).nat i j = if key i j = k then Sparse.get 0 s.perf k else s.nat i j := by
      rw [State.takeCounter, State.setNat, State.nat_setReg_at _ _ (Nat.mod_lt _ (by decide)) hj]
      simp only [own, Int.toNat_natCast]
    rw [List.foldl_cons, ih, head]
    by_cases rest : key i j ∈ l
    · rw [if_pos rest, if_pos (List.mem_cons_of_mem _ rest)]
      rfl
    · rw [if_neg rest]
      by_cases first : key i j = k
      · rw [if_pos first, if_pos (first ▸ List.mem_cons_self ..), first]
      · rw [if_neg first, if_neg (by simp [first, rest])]

/-- The key of a counter. -/
theorem mem_counterKeys {k : Nat} : k ∈ counterKeys ↔ (∃ e, e < 16 ∧ ∃ i, i < 18 ∧ k = key (0xB010 + e) (i + 1)) ∨
    (∃ g, g < 8 ∧ ∃ i, i < 13 ∧ k = key (0x3810 + g) (i + 1)) ∨ (∃ m, m < 16 ∧ (k = key (0xE000 + m) 0x05 ∨ k = key (0xE000 + m) 0x06)) := by
  unfold counterKeys
  simp only [List.mem_append, List.mem_flatMap, List.mem_map, List.mem_cons, List.not_mem_nil, or_false, items, List.mem_range, or_assoc, eq_comm (a := k)]

/-- The keys that the boundary samples: those of engines and monitors. -/
theorem mem_sampledKeys {k : Nat} : k ∈ counterKeys.filter (fun k => k / 256 / 4096 != 3) ↔
    (∃ e, e < 16 ∧ ∃ i, i < 18 ∧ k = key (0xB010 + e) (i + 1)) ∨ (∃ m, m < 16 ∧ (k = key (0xE000 + m) 0x05 ∨ k = key (0xE000 + m) 0x06)) := by
  rw [List.mem_filter, mem_counterKeys, bne_iff_ne]
  unfold key
  constructor
  · rintro ⟨h | ⟨g, hg, i, hi, rfl⟩ | h, high⟩
    · exact .inl h
    · omega
    · exact .inr h
  · rintro (⟨e, he, i, hi, rfl⟩ | ⟨m, hm, h⟩)
    · exact ⟨.inl ⟨e, he, i, hi, rfl⟩, by omega⟩
    · exact ⟨.inr (.inr ⟨m, hm, h⟩), by omega⟩

/-- The entries that the boundary's sample writes. -/
def sampleEntry (i j : Nat) : Prop := (0xB010 ≤ i ∧ i < 0xB020) ∨ (0xE000 ≤ i ∧ i < 0xE010 ∧ (j = 0x05 ∨ j = 0x06))

theorem State.sampleCounters_same : SameEntries sampleEntry s s.sampleCounters :=
  .foldl _ fun a k mem => (SameEntries.refl _ a).setReg (Nat.mod_lt _ (by decide)) (by
    rw [mem_sampledKeys] at mem
    unfold sampleEntry
    unfold key at mem
    rcases mem with ⟨e, he, i, hi, rfl⟩ | ⟨m, hm, rfl | rfl⟩ <;> omega)

theorem State.sampleCounters_engine {e k : Nat} (he : e < 16) (low : 1 ≤ k) (high : k ≤ 18) :
    s.sampleCounters.nat (0xB010 + e) k = Sparse.get 0 s.perf (key (0xB010 + e) k) :=
  (s.nat_takeCounters _ (by omega)).trans (if_pos (mem_sampledKeys.mpr (.inl ⟨e, he, k - 1, by omega, by rw [Nat.sub_add_cancel low]⟩)))

/-! ### Regions at the boundary -/

/-- The sample of one region, or none where its cycle is still to start. -/
def State.sampleDue (s : State) (g : Nat) : State := if s.fabricRuns ∧ !s.regionFenced g then s else s.sampleRegion g

/-- Every region's counters are due. -/
def State.regionsDue : State := { s with regionSample := 255, regionClear := if s.clearPending then 255 else s.regionClear }

theorem State.sampleRegions_eq : s.sampleRegions = (items 8).foldl State.sampleDue s.regionsDue := rfl

theorem State.sampleDue_only (g : Nat) : Only 0x19000000000000000000002 s (s.sampleDue g) := .ite (.refl _ s) (State.sampleRegion_only s g (.refl _ s) rfl)

theorem State.sampleDue_same (g : Nat) : SameEntries (fun i j => i = 0x3810 + g ∧ 1 ≤ j ∧ j < 14) s (s.sampleDue g) := by
  have sampled := SameEntries.foldl (s := s) (K := fun i j => i = 0x3810 + g ∧ 1 ≤ j ∧ j < 14)
    (f := fun a k => a.setNat (0x3810 + g) (k + 1) (Sparse.get 0 a.perf (key (0x3810 + g) (k + 1)))) (items 13) fun a k mem => by
      have := List.mem_range.mp mem
      exact (SameEntries.refl _ a).setReg (by omega) ⟨rfl, by omega, by omega⟩
  exact .ite (.refl _ s) (sampled.of_regs rfl)

theorem State.sampleDue_waits {g : Nat} (runs : s.fabricRuns = true) (live : s.regionFenced g = false) : s.sampleDue g = s := if_pos ⟨runs, by rw [live]; rfl⟩

theorem key_parts {i j : Nat} (hj : j < 256) : key i j / 256 = i ∧ key i j % 256 = j := by unfold key; omega

/-- The numeric entries after a region's sample. -/
theorem State.nat_sampleRegion {g k : Nat} (low : 1 ≤ k) (high : k ≤ 13) : (s.sampleRegion g).nat (0x3810 + g) k = Sparse.get 0 s.perf (key (0x3810 + g) k) := by
  have keyed : ∀ (a : State), ∀ j ∈ items 13, a.setNat (0x3810 + g) (j + 1) (Sparse.get 0 a.perf (key (0x3810 + g) (j + 1))) =
      a.takeCounter (key (0x3810 + g) (j + 1)) := fun a j mem => by
    obtain ⟨index, sub⟩ := key_parts (i := 0x3810 + g) (j := j + 1) (by have := List.mem_range.mp mem; omega)
    rw [State.takeCounter, index, sub]
  have keys := List.foldl_map (f := fun j => key (0x3810 + g) (j + 1)) (g := State.takeCounter) (l := items 13) (init := s)
  have sampled : ((items 13).foldl (fun (a : State) j => a.setNat (0x3810 + g) (j + 1) (Sparse.get 0 a.perf (key (0x3810 + g) (j + 1)))) s).nat (0x3810 + g) k =
      Sparse.get 0 s.perf (key (0x3810 + g) k) := by
    rw [List.foldl_ext _ _ _ keyed, ← keys, State.nat_takeCounters s _ (by omega), if_pos]
    exact List.mem_map.mpr ⟨k - 1, List.mem_range.mpr (by omega), congrArg (key (0x3810 + g)) (Nat.sub_add_cancel low)⟩
  unfold State.sampleRegion
  extract_lets u
  exact (State.nat_of_regs (s := u) (by rfl) _ _).trans sampled

/-- What a region's sample does to what is due and to the counters. -/
theorem State.sampleRegion_parts (g : Nat) : (s.sampleRegion g).regionSample = setBit s.regionSample g false ∧
    (s.sampleRegion g).regionClear = setBit s.regionClear g false ∧
    (s.sampleRegion g).perf = if s.regionClear.testBit g then s.perf.filter (fun x => x.1 / 256 != 0x3810 + g) else s.perf := by
  have frame : Only partRegs s ((items 13).foldl (fun (a : State) k => a.setNat (0x3810 + g) (k + 1) (Sparse.get 0 a.perf (key (0x3810 + g) (k + 1)))) s) :=
    .foldl (.refl _ s) fun a k => State.setNat_only _ _ _ _ (.refl _ a) rfl
  unfold State.sampleRegion
  extract_lets u
  dsimp only
  rw [show u.regionSample = s.regionSample from frame.regionSample rfl, show u.regionClear = s.regionClear from frame.regionClear rfl,
    show u.perf = s.perf from frame.perf rfl]
  exact ⟨rfl, rfl, rfl⟩

theorem State.fabricRuns_of {t : State} (start : t.start = s.start) (tbs : t.tbs = s.tbs) : t.fabricRuns = s.fabricRuns := by
  unfold State.fabricRuns State.tb
  rw [start, tbs]

theorem State.sampleDue_runs (y g : Nat) : (s.sampleDue y).fabricRuns = s.fabricRuns ∧ (s.sampleDue y).regionFenced g = s.regionFenced g := by
  have frame := s.sampleDue_only y
  refine ⟨s.fabricRuns_of (frame.start rfl) (frame.tbs rfl), ?_⟩
  unfold State.regionFenced State.hasFence
  rw [frame.fences rfl]

/-- The keys of a region leave the counters with a clear of that region alone. -/
theorem State.sampleDue_perf {y g : Nat} (apart : y ≠ g) : Sparse.get 0 (s.sampleDue y).perf (key (0x3810 + g) 1) = Sparse.get 0 s.perf (key (0x3810 + g) 1) := by
  unfold State.sampleDue
  split
  · rfl
  · have kept : Sparse.get 0 (s.perf.filter fun x => x.1 / 256 != 0x3810 + y) (key (0x3810 + g) 1) = Sparse.get 0 s.perf (key (0x3810 + g) 1) := by
      refine (Sparse.get_filter 0 (fun k => k / 256 != 0x3810 + y) _ _).trans (if_pos ?_)
      rw [(key_parts (by decide)).1]
      simp only [bne_iff_ne, ne_eq, Nat.add_left_cancel_iff]
      exact Ne.symm apart
    rw [(s.sampleRegion_parts y).2.2]
    split
    · exact kept
    · rfl

/-- A region whose cycles do not start is sampled at once. -/
theorem State.sampleRegions_now {g : Nat} (hg : g < 8) (idle : s.fabricRuns = false ∨ s.regionFenced g = true) :
    s.sampleRegions.regionSample.testBit g = false ∧ s.sampleRegions.nat (0x3810 + g) 1 = Sparse.get 0 s.perf (key (0x3810 + g) 1) := by
  rw [State.sampleRegions_eq]
  refine foldl_once (Before := fun a : State => Sparse.get 0 a.perf (key (0x3810 + g) 1) = Sparse.get 0 s.perf (key (0x3810 + g) 1) ∧
      (a.fabricRuns = false ∨ a.regionFenced g = true))
    (After := fun a : State => a.regionSample.testBit g = false ∧ a.nat (0x3810 + g) 1 = Sparse.get 0 s.perf (key (0x3810 + g) 1)) List.nodup_range
    (List.mem_range.mpr hg) ?_ ?_ ?_ ⟨rfl, idle⟩
  · rintro a ⟨perf, idle⟩
    have now : a.sampleDue g = a.sampleRegion g := if_neg (by rintro ⟨runs, live⟩; rcases idle with h | h <;> simp [h] at runs live)
    rw [now, (a.sampleRegion_parts g).1, testBit_setBit, if_pos rfl]
    exact ⟨rfl, (a.nat_sampleRegion (by decide) (by decide)).trans perf⟩
  · rintro a y apart ⟨perf, idle⟩
    obtain ⟨runs, live⟩ := a.sampleDue_runs y g
    exact ⟨(a.sampleDue_perf apart).trans perf, by rw [runs, live]; exact idle⟩
  · rintro a y apart ⟨sample, shown⟩
    refine ⟨?_, ((a.sampleDue_same y).nat (by decide) (by omega)).trans shown⟩
    unfold State.sampleDue
    split
    · exact sample
    · rw [(a.sampleRegion_parts y).1, testBit_setBit, if_neg (Ne.symm apart)]
      exact sample

/-- A region whose cycles start waits for the next one. -/
theorem State.sampleRegions_waits {g : Nat} (hg : g < 8) (runs : s.fabricRuns = true) (live : s.regionFenced g = false) :
    s.sampleRegions.regionSample.testBit g = true ∧ s.sampleRegions.nat (0x3810 + g) 1 = s.nat (0x3810 + g) 1 ∧
      (s.clearPending = true → s.sampleRegions.regionClear.testBit g = true) := by
  have all : (255 : Nat).testBit g = true := by
    rw [show (255 : Nat) = 2 ^ 8 - 1 from rfl, Nat.testBit_two_pow_sub_one]
    exact decide_eq_true hg
  rw [State.sampleRegions_eq]
  suffices every : ∀ a : State, (a.fabricRuns = true ∧ a.regionFenced g = false ∧ a.regionSample.testBit g = true ∧ a.nat (0x3810 + g) 1 = s.nat (0x3810 + g) 1 ∧
      (s.clearPending = true → a.regionClear.testBit g = true)) → ∀ y, ((a.sampleDue y).fabricRuns = true ∧ (a.sampleDue y).regionFenced g = false ∧
      (a.sampleDue y).regionSample.testBit g = true ∧ (a.sampleDue y).nat (0x3810 + g) 1 = s.nat (0x3810 + g) 1 ∧
      (s.clearPending = true → (a.sampleDue y).regionClear.testBit g = true)) by
    obtain ⟨-, -, sample, shown, clear⟩ := List.foldlRecOn (motive := fun a : State => a.fabricRuns = true ∧ a.regionFenced g = false ∧
      a.regionSample.testBit g = true ∧ a.nat (0x3810 + g) 1 = s.nat (0x3810 + g) 1 ∧ (s.clearPending = true → a.regionClear.testBit g = true)) (items 8)
      State.sampleDue (b := s.regionsDue) ⟨runs, live, all, rfl, fun clears => by unfold State.regionsDue; rw [clears]; exact all⟩ fun a h y _ => every a h y
    exact ⟨sample, shown, clear⟩
  rintro a ⟨runs, live, sample, shown, clear⟩ y
  by_cases same : y = g
  · subst same
    rw [a.sampleDue_waits runs live]
    exact ⟨runs, live, sample, shown, clear⟩
  · obtain ⟨runs', live'⟩ := a.sampleDue_runs y g
    refine ⟨runs'.trans runs, live'.trans live, ?_, ((a.sampleDue_same y).nat (by decide) (by omega)).trans shown, fun clears => ?_⟩
    · unfold State.sampleDue
      split
      · exact sample
      · rw [(a.sampleRegion_parts y).1, testBit_setBit, if_neg (Ne.symm same)]
        exact sample
    · unfold State.sampleDue
      split
      · exact clear clears
      · rw [(a.sampleRegion_parts y).2.1, testBit_setBit, if_neg (Ne.symm same)]
        exact clear clears

/-- Without a clear that waits the counters stay. -/
theorem State.sampleRegions_perf (plain : s.clearPending = false) (none : s.regionClear = 0) : s.sampleRegions.perf = s.perf := by
  rw [State.sampleRegions_eq]
  refine (List.foldlRecOn (motive := fun a : State => a.perf = s.perf ∧ a.regionClear = 0) (items 8) State.sampleDue (b := s.regionsDue) ?_ ?_).1
  · refine ⟨rfl, ?_⟩
    unfold State.regionsDue
    rw [plain]
    exact none
  · rintro a ⟨perf, clear⟩ y -
    unfold State.sampleDue
    split
    · exact ⟨perf, clear⟩
    · obtain ⟨-, clears, counters⟩ := a.sampleRegion_parts y
      rw [clears, counters, clear, Nat.zero_testBit, if_neg Bool.false_ne_true]
      exact ⟨perf, Nat.eq_of_testBit_eq fun k => by rw [testBit_setBit]; split <;> simp⟩

theorem State.sampleRegions_same : SameEntries (fun i _ => 0x3810 ≤ i ∧ i < 0x3818) s s.sampleRegions := by
  rw [State.sampleRegions_eq]
  exact ((SameEntries.refl _ s).of_regs (t := s.regionsDue) rfl).trans (.foldl _ fun a y mem => (a.sampleDue_same y).mono fun i j h => by
    have := List.mem_range.mp mem
    omega)

/-! ### What waited for the boundary -/

theorem State.programMonitor_monitorSet (m y : Nat) : (s.programMonitor y).monitorSet m = s.monitorSet m := by
  unfold State.programMonitor
  split <;> rfl

theorem State.programMonitors_pending {m : Nat} (hm : m < 16) (waits : s.monitorPending.testBit m = true) :
    Sparse.get {} ((items 16).foldl State.programMonitor s).monitors m = s.monitorSet m ∧
      ((items 16).foldl State.programMonitor s).monitorFirst.testBit m = true := by
  refine foldl_once (Before := fun a : State => a.monitorPending.testBit m = true ∧ a.monitorSet m = s.monitorSet m)
    (After := fun a : State => Sparse.get {} a.monitors m = s.monitorSet m ∧ a.monitorFirst.testBit m = true) List.nodup_range (List.mem_range.mpr hm)
    ?_ ?_ ?_ ⟨waits, rfl⟩
  · rintro a ⟨waits, same⟩
    unfold State.programMonitor
    rw [if_pos waits]
    exact ⟨(Sparse.get_set_same ..).trans same, by rw [testBit_setBit, if_pos rfl]⟩
  · rintro a y - ⟨waits, same⟩
    refine ⟨?_, (a.programMonitor_monitorSet m y).trans same⟩
    unfold State.programMonitor
    split <;> exact waits
  · rintro a y apart ⟨monitor, first⟩
    unfold State.programMonitor
    split
    · exact ⟨(Sparse.get_set ..).trans ((if_neg apart).trans monitor), by rw [testBit_setBit, if_neg (Ne.symm apart)]; exact first⟩
    · exact ⟨monitor, first⟩

/-- What the boundary applies. -/
theorem State.applyReprogram_parts : s.applyReprogram.nat 0xB080 0x04 = 0 ∧ s.applyReprogram.clearPending = false ∧ s.applyReprogram.monitorPending = 0 ∧
    s.applyReprogram.perf = (if s.clearPending then s.perf.filter (fun x => decide (0x3810 ≤ x.1 / 256 ∧ x.1 / 256 < 0x3818)) else s.perf) ∧
    s.applyReprogram.monitors = ((items 16).foldl State.programMonitor s).monitors ∧
    s.applyReprogram.monitorFirst = ((items 16).foldl State.programMonitor s).monitorFirst ∧
    SameEntries (fun i j => i = 0xB080 ∧ j = 0x04) s s.applyReprogram := by
  have frame : Only 0x180000000000000000000000 s ((items 16).foldl State.programMonitor s) :=
    .foldl (.refl _ s) fun a m => State.programMonitor_only a m (.refl _ a) rfl
  unfold State.applyReprogram
  extract_lets u
  have cleared : Only 0x1000000000000000000000 ((items 16).foldl State.programMonitor s) u := State.clearPerf_only _ (.refl _ _) rfl
  have perf : u.perf = if s.clearPending then s.perf.filter (fun x => decide (0x3810 ≤ x.1 / 256 ∧ x.1 / 256 < 0x3818)) else s.perf := by
    rw [← frame.clearPending rfl, ← frame.perf rfl]
    simp only [u, State.clearPerf]
    split <;> rfl
  have regs : u.regs = s.regs := (cleared.regs rfl).trans (frame.regs rfl)
  have same : SameEntries (fun i j => i = 0xB080 ∧ j = 0x04) s u := (SameEntries.refl _ s).of_regs regs
  exact ⟨State.nat_setNat_same .., rfl, rfl, perf, cleared.monitors rfl, cleared.monitorFirst rfl, (same.of_regs rfl).setReg (by decide) ⟨rfl, rfl⟩⟩

end Boundary

/-! ### The commands -/

section Commands
variable {s : State}

/-- The hub's entries at a boundary: the epoch is counted and timed. -/
def State.countEpoch (s : State) : State :=
  let t := { s with epochAt := s.now }.setNat 0xB080 0x02 ((s.nat 0xB080 0x02 + 1) % 2 ^ 32)
  t.setNat 0xB080 0x03 (if (t.tb 0).running then time80 (t.tbNow 0) else 0)

theorem exec_epochBoundary {elapsed : List (Nat × Nat)} (counts : s.hubCounts = true) (full : ∀ e, e < 16 → s.accounted elapsed e = true) :
    exec (.epochBoundary elapsed) s = .next (elapsed.foldl State.countSlots s).sampleCounters.sampleRegions.countEpoch.applyReprogram := by
  have all : (items 16).any (fun e => !s.accounted elapsed e) = false :=
    List.any_eq_false.mpr fun e mem => by rw [full e (List.mem_range.mp mem)]; decide
  change execEpochBoundary elapsed s = _
  unfold execEpochBoundary
  rw [if_neg (by rw [counts, all]; decide)]
  rfl

theorem State.countEpoch_same (s : State) : SameEntries (fun i j => i = 0xB080 ∧ (j = 0x02 ∨ j = 0x03)) s s.countEpoch :=
  ((((SameEntries.refl _ s).of_regs rfl).setReg (by decide) ⟨rfl, .inl rfl⟩).setReg (by decide) ⟨rfl, .inr rfl⟩)

theorem State.countEpoch_counts (s : State) : s.countEpoch.nat 0xB080 0x02 = (s.nat 0xB080 0x02 + 1) % 2 ^ 32 := by
  unfold State.countEpoch
  extract_lets t
  rw [State.setNat, State.nat_setReg_at _ _ (by decide) (by decide), if_neg (by decide)]
  exact State.nat_setNat_same ..

theorem State.counterWraps_wraps {bit : Nat} (counter : counterKeys.contains (counterKey bit) = true)
    (last : Sparse.get 0 s.perf (counterKey bit) = 2 ^ 48 - 1) : Sparse.get 0 (s.counterWraps bit).perf (counterKey bit) = 0 ∧
      (s.counterWraps bit).overflow.testBit (counterBit (counterKey bit)) = true ∧
      (s.counterWraps bit).nat 0xB080 0x08 = min (s.nat 0xB080 0x08 + 1) (2 ^ 32 - 1) := by
  have own : key (counterKey bit / 256) (counterKey bit % 256) = counterKey bit := by unfold key; omega
  have wraps : s.counterWraps bit = s.perfAdd (counterKey bit / 256) (counterKey bit % 256) 1 := if_pos ⟨counter, last⟩
  rw [wraps]
  refine ⟨?_, ?_⟩
  · rw [State.perfAdd_perf, own, if_pos rfl, last]
    decide
  · unfold State.perfAdd
    rw [own, last]
    extract_lets v a
    rw [if_neg (show ¬v < 2 ^ 48 by decide)]
    unfold State.wrapped
    extract_lets b
    have sent : Only 0x400000000000000000002 b (b.sendEvent (b.nat 0xB080 0x05) 4 (counterBit (counterKey bit))) := State.sendEvent_only _ _ _ _ (.refl _ b) rfl
    refine ⟨?_, ?_⟩
    · rw [sent.overflow rfl]
      exact (testBit_setBit ..).trans (if_pos rfl)
    · rw [(b.sendEvent_lost _ _ _).nat (by decide) (by decide)]
      exact State.nat_addSat_same ..

/-- A monitor's value is shown, and whether it reaches the threshold. -/
def State.showMonitor (s : State) (m : Nat) (x : MonitorSet) : State :=
  (({ s with monitorFirst := setBit s.monitorFirst m false } : State).setNat (0xE000 + m) 0x08 (min (s.monitorValue x) (2 ^ 32 - 1))).setNat (0xE000 + m) 0x07
    (ofBool (decide (x.threshold ≤ s.monitorValue x)))

theorem State.showMonitor_shows (s : State) (m : Nat) (x : MonitorSet) : (s.showMonitor m x).monitorFirst.testBit m = false ∧
    (s.showMonitor m x).nat (0xE000 + m) 0x08 = min (s.monitorValue x) (2 ^ 32 - 1) ∧
    (s.showMonitor m x).flag (0xE000 + m) 0x07 = decide (x.threshold ≤ s.monitorValue x) ∧ (s.showMonitor m x).perf = s.perf := by
  refine ⟨(testBit_setBit ..).trans (if_pos rfl), ?_, ?_, rfl⟩
  · rw [State.showMonitor, State.setNat, State.nat_setReg_at _ _ (by decide) (by decide), if_neg (by omega)]
    exact State.nat_setNat_same ..
  · rw [State.showMonitor, State.setNat, State.flag_setReg_at _ _ (by decide) (by decide), if_pos ⟨rfl, rfl⟩]
    cases decide (x.threshold ≤ s.monitorValue x) <;> rfl

/-- A sample that reaches the threshold counts, and as a crossing the first time. -/
def State.countMonitor (s : State) (m thread : Nat) (again : Bool) : State :=
  let t := s.perfAdd (0xE000 + m) 0x05 1
  if again then t else (t.perfAdd (0xE000 + m) 0x06 1).sendEvent thread 5 m

theorem State.countMonitor_same (s : State) (m thread : Nat) (again : Bool) : SameEntries wrapEntry s (s.countMonitor m thread again) := by
  unfold State.countMonitor
  extract_lets t
  have ht : SameEntries wrapEntry s t := s.perfAdd_same _ _ _
  exact .ite ht ((ht.trans (t.perfAdd_same _ _ _)).trans ((State.sendEvent_lost _ _ _ _).mono fun i j h => .inr h))

theorem State.countMonitor_counts (s : State) (m thread : Nat) (again : Bool) : (s.countMonitor m thread again).monitorFirst = s.monitorFirst ∧
    Sparse.get 0 (s.countMonitor m thread again).perf (key (0xE000 + m) 5) = (Sparse.get 0 s.perf (key (0xE000 + m) 5) + 1) % 2 ^ 48 ∧
    Sparse.get 0 (s.countMonitor m thread again).perf (key (0xE000 + m) 6) = if again then Sparse.get 0 s.perf (key (0xE000 + m) 6)
      else (Sparse.get 0 s.perf (key (0xE000 + m) 6) + 1) % 2 ^ 48 := by
  have apart : key (0xE000 + m) 5 ≠ key (0xE000 + m) 6 := by unfold key; omega
  unfold State.countMonitor
  extract_lets t
  have first : t.monitorFirst = s.monitorFirst := (State.perfAdd_only s _ _ _ (.refl 0x3400000000000000000002 s) rfl).monitorFirst rfl
  have five : Sparse.get 0 t.perf (key (0xE000 + m) 5) = (Sparse.get 0 s.perf (key (0xE000 + m) 5) + 1) % 2 ^ 48 := by rw [State.perfAdd_perf, if_pos rfl]
  have six : Sparse.get 0 t.perf (key (0xE000 + m) 6) = Sparse.get 0 s.perf (key (0xE000 + m) 6) := by rw [State.perfAdd_perf, if_neg apart]
  clear_value t
  cases again
  · have sent : Only 0x400000000000000000002 (t.perfAdd (0xE000 + m) 0x06 1) ((t.perfAdd (0xE000 + m) 0x06 1).sendEvent thread 5 m) :=
      State.sendEvent_only _ _ _ _ (.refl _ _) rfl
    rw [if_neg Bool.false_ne_true, if_neg Bool.false_ne_true, sent.perf rfl, sent.monitorFirst rfl, State.perfAdd_perf,
      if_neg (Ne.symm apart), five, State.perfAdd_perf, if_pos rfl, six]
    exact ⟨((State.perfAdd_only t _ _ _ (.refl 0x3400000000000000000002 t) rfl).monitorFirst rfl).trans first, rfl, rfl⟩
  · exact ⟨first, five, six⟩

/-- A monitor's sample. -/
theorem exec_monitorSample (m : MonitorId) (counts : s.hubCounts = true) (set : (Sparse.get {} s.monitors m).source ≠ 0) :
    exec (.monitorSample m) s = .next (if s.monitorValue (Sparse.get {} s.monitors m) < (Sparse.get {} s.monitors m).threshold
      then s.showMonitor m (Sparse.get {} s.monitors m) else (s.showMonitor m (Sparse.get {} s.monitors m)).countMonitor m (Sparse.get {} s.monitors m).thread
        (s.flag (0xE000 + m) 0x07 || s.monitorFirst.testBit m)) :=
  congrArg _ (if_neg (by rw [counts]; simpa using set))

/-- The bits that the mask names fall. -/
theorem testBit_clearBits (v mask b : Nat) : (clearBits v mask).testBit b = (v.testBit b && !mask.testBit b) := by
  have parts : ∀ v mask : Nat, (v &&& mask) + v.ldiff mask = v := by
    intro v
    induction v using Nat.binaryRec with
    | zero => intro mask; simp [Nat.ldiff]
    | bit a v ih =>
      intro mask
      cases mask using Nat.bitCasesOn with
      | bit c mask =>
        rw [Nat.land_bit, Nat.ldiff_bit]
        have rest := ih mask
        cases a <;> cases c <;> simp [Nat.bit] <;> omega
  rw [clearBits, Nat.sub_eq_of_eq_add' (parts v mask).symm, Nat.testBit_ldiff]

end Commands

/-! ### The boundary as a whole -/

/-- The state after the samples, before the epoch is counted. -/
def State.sampled (s : State) (elapsed : List (Nat × Nat)) : State := (elapsed.foldl State.countSlots s).sampleCounters.sampleRegions

section Whole
variable (s : State) (elapsed : List (Nat × Nat))

theorem State.countAll_only : Only 0x3400000000000000000002 s (elapsed.foldl State.countSlots s) :=
  .foldl (.refl _ s) fun a e => State.countSlots_only a e (.refl _ a) rfl

theorem State.sampleAll_only : Only 0x2 (elapsed.foldl State.countSlots s) (elapsed.foldl State.countSlots s).sampleCounters :=
  State.sampleCounters_only _ (.refl _ _) rfl

theorem State.sampled_only : Only 0x1b400000000000000000002 s (s.sampled elapsed) :=
  (((s.countAll_only elapsed).mono rfl).step (s.sampleAll_only elapsed) rfl).step (State.sampleRegions_only _ (.refl 0x19000000000000000000002 _) rfl) rfl

theorem State.countEpoch_only : Only (partEpochAt ||| partRegs) s s.countEpoch :=
  State.setNat_only _ _ _ _ (State.setNat_only _ _ _ _ (.upd_epochAt _ (.refl _ s) rfl) rfl) rfl

theorem State.countEpoch_at : s.countEpoch.epochAt = s.now := rfl

theorem State.sampled_same : SameEntries (fun i j => wrapEntry i j ∨ sampleEntry i j ∨ (0x3810 ≤ i ∧ i < 0x3818)) s (s.sampled elapsed) :=
  (((s.countAll_same elapsed).mono fun _ _ h => .inl h).trans ((State.sampleCounters_same _).mono fun _ _ h => .inr (.inl h))).trans
    ((State.sampleRegions_same _).mono fun _ _ h => .inr (.inr h))

/-- The entries that the boundary writes. -/
def boundaryEntry (i j : Nat) : Prop := (wrapEntry i j ∨ sampleEntry i j ∨ (0x3810 ≤ i ∧ i < 0x3818)) ∨ i = 0xB080 ∧ (j = 0x02 ∨ j = 0x03)

theorem State.epoch_same : SameEntries boundaryEntry s (s.sampled elapsed).countEpoch :=
  ((s.sampled_same elapsed).mono fun _ _ h => .inl h).trans ((State.countEpoch_same _).mono fun _ _ h => .inr h)

/-- With no slot to count the engines' counters come from the counters as they stand. -/
theorem State.sampled_engine {e k : Nat} (he : e < 16) (low : 1 ≤ k) (high : k ≤ 18) :
    (s.sampled []).nat (0xB010 + e) k = Sparse.get 0 s.perf (key (0xB010 + e) k) :=
  ((State.sampleRegions_same _).nat (by omega) (by omega)).trans (s.sampleCounters_engine he low high)

theorem State.sampleStart_only : Only 0x3400000000000000000002 s (elapsed.foldl State.countSlots s).sampleCounters :=
  (s.countAll_only elapsed).step (s.sampleAll_only elapsed) rfl

/-- Which cycles start stands through the samples. -/
theorem State.sampleStart_runs (g : Nat) : (elapsed.foldl State.countSlots s).sampleCounters.fabricRuns = s.fabricRuns ∧
    (elapsed.foldl State.countSlots s).sampleCounters.regionFenced g = s.regionFenced g := by
  have frame := s.sampleStart_only elapsed
  refine ⟨s.fabricRuns_of (frame.start rfl) (frame.tbs rfl), ?_⟩
  unfold State.regionFenced State.hasFence
  rw [frame.fences rfl]

theorem State.sampled_now {g : Nat} (hg : g < 8) (idle : s.fabricRuns = false ∨ s.regionFenced g = true) :
    (s.sampled elapsed).regionSample.testBit g = false ∧ (s.sampled elapsed).nat (0x3810 + g) 1 = Sparse.get 0 s.perf (key (0x3810 + g) 1) := by
  obtain ⟨runs, fenced⟩ := s.sampleStart_runs elapsed g
  obtain ⟨sample, shown⟩ := State.sampleRegions_now _ hg (by rw [runs, fenced]; exact idle)
  refine ⟨sample, shown.trans ?_⟩
  rw [(State.sampleAll_only s elapsed).perf rfl]
  exact s.countAll_region elapsed hg

theorem State.sampled_waits {g : Nat} (hg : g < 8) (runs : s.fabricRuns = true) (live : s.regionFenced g = false) :
    (s.sampled elapsed).regionSample.testBit g = true ∧ (s.sampled elapsed).nat (0x3810 + g) 1 = s.nat (0x3810 + g) 1 ∧
      (s.clearPending = true → (s.sampled elapsed).regionClear.testBit g = true) := by
  obtain ⟨runs', fenced'⟩ := s.sampleStart_runs elapsed g
  obtain ⟨sample, shown, clear⟩ := State.sampleRegions_waits _ hg (runs'.trans runs) (fenced'.trans live)
  have counted := (s.countAll_same elapsed).nat (i := 0x3810 + g) (j := 1) (by decide) (by unfold wrapEntry; omega)
  have kept := (State.sampleCounters_same (elapsed.foldl State.countSlots s)).nat (i := 0x3810 + g) (j := 1) (by decide) (by unfold sampleEntry; omega)
  exact ⟨sample, shown.trans (kept.trans counted), fun clears => clear (((s.sampleStart_only elapsed).clearPending rfl).trans clears)⟩

theorem State.sampled_perf (plain : s.clearPending = false) (none : s.regionClear = 0) : (s.sampled []).perf = s.perf := by
  have frame := s.sampleAll_only []
  exact (State.sampleRegions_perf _ ((frame.clearPending rfl).trans plain) ((frame.regionClear rfl).trans none)).trans (frame.perf rfl)

/-- The state as the boundary applies what waited for it. -/
def State.epochCounted (s : State) (elapsed : List (Nat × Nat)) : State := (s.sampled elapsed).countEpoch

theorem State.epochCounted_parts : (s.epochCounted elapsed).clearPending = s.clearPending ∧ (s.epochCounted elapsed).monitorPending = s.monitorPending ∧
    (s.epochCounted elapsed).epochAt = s.now ∧ (s.epochCounted elapsed).perf = (s.sampled elapsed).perf ∧
    (s.epochCounted elapsed).regionSample = (s.sampled elapsed).regionSample ∧ (s.epochCounted elapsed).regionClear = (s.sampled elapsed).regionClear := by
  have samples := s.sampled_only elapsed
  have frame := (s.sampled elapsed).countEpoch_only
  exact ⟨(frame.clearPending rfl).trans (samples.clearPending rfl), (frame.monitorPending rfl).trans (samples.monitorPending rfl), (s.sampled elapsed).countEpoch_at.trans (samples.now rfl), frame.perf rfl,
    frame.regionSample rfl, frame.regionClear rfl⟩

theorem State.epochCounted_counts : (s.epochCounted elapsed).nat 0xB080 0x02 = (s.nat 0xB080 0x02 + 1) % 2 ^ 32 := by
  have kept : (s.sampled elapsed).nat 0xB080 0x02 = s.nat 0xB080 0x02 := (s.sampled_same elapsed).nat (by decide) (by unfold wrapEntry sampleEntry; omega)
  exact (State.countEpoch_counts _).trans (by rw [kept])

theorem State.epochCounted_monitorSet {m : Nat} (hm : m < 16) : (s.epochCounted elapsed).monitorSet m = s.monitorSet m := by
  have kept : ∀ j, 1 ≤ j → j ≤ 4 → (s.epochCounted elapsed).nat (0xE000 + m) j = s.nat (0xE000 + m) j := fun j low high =>
    (s.epoch_same elapsed).nat (by omega) (by unfold boundaryEntry wrapEntry sampleEntry; omega)
  unfold State.monitorSet
  rw [kept 1 (by decide) (by decide), kept 2 (by decide) (by decide), kept 3 (by decide) (by decide), kept 4 (by decide) (by decide)]

/-- What the boundary leaves: the sample, the counted epoch, and whatever waited for it in force. -/
theorem State.epochCounted_applied : let t := (s.epochCounted elapsed).applyReprogram
    t.nat 0xB080 0x02 = (s.nat 0xB080 0x02 + 1) % 2 ^ 32 ∧ t.nat 0xB080 0x04 = 0 ∧
      t.clearPending = false ∧ t.monitorPending = 0 ∧ t.epochAt = s.now ∧
      (s.clearPending = true → ∀ e k, e < 16 → 1 ≤ k → k ≤ 18 → Sparse.get 0 t.perf (key (0xB010 + e) k) = 0) ∧
      (s.clearPending = false → elapsed = [] → t.perf = s.perf ∨ s.regionClear ≠ 0) ∧
      (elapsed = [] → ∀ e k, e < 16 → 1 ≤ k → k ≤ 18 → t.nat (0xB010 + e) k = Sparse.get 0 s.perf (key (0xB010 + e) k)) ∧
      (∀ g, g < 8 → ((s.fabricRuns = false ∨ s.regionFenced g = true) → t.regionSample.testBit g = false ∧
          t.nat (0x3810 + g) 1 = Sparse.get 0 s.perf (key (0x3810 + g) 1)) ∧
        (s.fabricRuns = true → s.regionFenced g = false → t.regionSample.testBit g = true ∧
          t.nat (0x3810 + g) 1 = s.nat (0x3810 + g) 1 ∧ (s.clearPending = true → t.regionClear.testBit g = true))) ∧
      (∀ m, m < 16 → s.monitorPending.testBit m = true → Sparse.get {} t.monitors m = s.monitorSet m ∧ t.monitorFirst.testBit m = true) := by
  intro t
  obtain ⟨clears, pending, at', perf, sample, clear⟩ := s.epochCounted_parts elapsed
  obtain ⟨done, noClear, noPending, perf', monitors, first, same⟩ := (s.epochCounted elapsed).applyReprogram_parts
  have frame : Only 0x1c5000000000000000000002 (s.epochCounted elapsed) t := State.applyReprogram_only _ (.refl _ _) rfl
  have counted : ∀ {i j}, j < 256 → i ≠ 0xB080 → t.nat i j = (s.sampled elapsed).nat i j := fun hj hi =>
    (same.nat hj fun h => hi h.1).trans ((State.countEpoch_same _).nat hj fun h => hi h.1)
  refine ⟨(same.nat (by decide) (by decide)).trans (s.epochCounted_counts elapsed), done, noClear, noPending, (frame.epochAt rfl).trans at', fun waits e k he low high => ?_,
    fun plain empty => ?_, fun empty e k he low high => ?_, fun g hg => ⟨fun idle => ?_, fun runs live => ?_⟩, fun m hm waits => ?_⟩
  · have gone := Sparse.get_filter 0 (fun k => decide (0x3810 ≤ k / 256 ∧ k / 256 < 0x3818)) (s.epochCounted elapsed).perf (key (0xB010 + e) k)
    rw [perf', clears, if_pos waits]
    refine gone.trans (if_neg ?_)
    rw [(key_parts (by omega)).1, decide_eq_true_iff]
    omega
  · subst empty
    rw [perf', clears, plain, if_neg Bool.false_ne_true, perf]
    exact (Decidable.em (s.regionClear = 0)).imp (s.sampled_perf plain) id
  · subst empty
    exact (counted (by omega) (by omega)).trans (s.sampled_engine he low high)
  · obtain ⟨now, shown⟩ := s.sampled_now elapsed hg idle
    rw [frame.regionSample rfl, sample]
    exact ⟨now, (counted (by decide) (by omega)).trans shown⟩
  · obtain ⟨waits, shown, cleared⟩ := s.sampled_waits elapsed hg runs live
    rw [frame.regionSample rfl, sample, frame.regionClear rfl, clear]
    exact ⟨waits, (counted (by decide) (by omega)).trans shown, cleared⟩
  · obtain ⟨monitor, begun⟩ := (s.epochCounted elapsed).programMonitors_pending hm (by rw [pending]; exact waits)
    rw [monitors, first]
    exact ⟨monitor.trans (s.epochCounted_monitorSet elapsed hm), begun⟩

end Whole


/-- Settles O47: at an epoch boundary the sample is taken and what waits is applied; a wrap, a clear and a monitor's sample are counted as they come. -/
theorem countersSampleAndWrap : Obligations.CountersSampleAndWrap := by
  unfold Obligations.CountersSampleAndWrap
  refine ⟨fun elapsed s counts full => .of (exec_epochBoundary counts full) (s.epochCounted_applied elapsed), fun bit s counts counter last => ?_, fun role s admitted => ?_,
    fun role mask s admitted => ?_, fun m s counts set => .of (exec_monitorSample m counts set) ?_⟩
  · have run : exec (.counterWrap bit) s = .next (s.counterWraps bit) := congrArg _ (if_pos counts)
    exact .of run (State.counterWraps_wraps counter last)
  · have run : exec (.clearCounters role) s = .next (({ s with clearPending := true } : State).setNat 0xB080 0x04 1).done :=
      congrArg _ (State.hostWrite_admitted admitted _)
    exact .of run ⟨rfl, rfl, State.nat_setNat_same _ 0xB080 0x04 1, rfl⟩
  · have run : exec (.overflowMapClear role mask []) s = .next ({ s with overflow := clearBits s.overflow mask.toNat } : State).done :=
      congrArg _ (State.hostWrite_admitted admitted _)
    exact .of run ⟨rfl, fun b _ => testBit_clearBits .., State.done_only _ (.upd_overflow _ (.refl _ s) rfl) rfl⟩
  · obtain ⟨first, value, above, perf⟩ := s.showMonitor_shows m (Sparse.get {} s.monitors m)
    by_cases below : s.monitorValue (Sparse.get {} s.monitors m) < (Sparse.get {} s.monitors m).threshold
    · rw [if_pos below]
      exact ⟨first, value, fun _ => ⟨above.trans (decide_eq_false (by omega)), perf⟩, fun h => absurd h (by omega)⟩
    · rw [if_neg below]
      have same := (s.showMonitor m (Sparse.get {} s.monitors m)).countMonitor_same m (Sparse.get {} s.monitors m).thread
        (s.flag (0xE000 + m) 0x07 || s.monitorFirst.testBit m)
      obtain ⟨first', five, six⟩ := (s.showMonitor m (Sparse.get {} s.monitors m)).countMonitor_counts m (Sparse.get {} s.monitors m).thread
        (s.flag (0xE000 + m) 0x07 || s.monitorFirst.testBit m)
      have apart : ∀ j, ¬wrapEntry (0xE000 + m) j := fun j h => by unfold wrapEntry at h; omega
      refine ⟨by rw [first']; exact first, (same.nat (by decide) (apart _)).trans value, fun h => absurd h below, fun _ => ⟨?_, ?_, ?_⟩⟩
      · exact (same.flag (by decide) (apart _)).trans (above.trans (decide_eq_true (by omega)))
      · rw [five, perf]
      · rw [six, perf]
        simp only [Bool.or_eq_true]

end Sys2Proof.Machine

namespace Sys2Proof.Machine

/-! ## Debug grants and the probe (18 R465 to R469) -/

section Grant
variable {s : State}

/-- The threads of one engine run again. -/
def State.resumeEngine (s : State) (e : Nat) : State :=
  if (s.engine e).halted = 0 then s
  else
    let t := s.setEngine e { s.engine e with halted := 0, watchdogAt := s.now - (s.engine e).watchdogRan }
    if t.nat (0xB000 + e) 0x02 = 3 then t.setNat (0xB000 + e) 0x02 2 else t

theorem State.resumeThreads_eq (s : State) : s.resumeThreads = (items 16).foldl State.resumeEngine s := rfl

theorem State.resumeEngine_halted (s : State) (e : Nat) : ((s.resumeEngine e).engine e).halted = 0 := by
  unfold State.resumeEngine
  by_cases still : (s.engine e).halted = 0
  · rw [if_pos still]
    exact still
  · rw [if_neg still]
    extract_lets x t
    have own : (t.engine e).halted = 0 := congrArg EngineX.halted (State.engine_setEngine_same ..)
    split
    · exact own
    · exact own

theorem State.resumeEngine_other (s : State) {e k : Nat} (apart : e ≠ k) : (s.resumeEngine e).engine k = s.engine k := by
  unfold State.resumeEngine
  by_cases still : (s.engine e).halted = 0
  · rw [if_pos still]
  · rw [if_neg still]
    extract_lets x t
    have kept : t.engine k = s.engine k := (State.engine_setEngine ..).trans (if_neg apart)
    split
    · exact kept
    · exact kept

theorem State.resumeThreads_same (s : State) : SameEntries (fun i j => 0xB000 ≤ i ∧ i < 0xB010 ∧ j = 0x02) s s.resumeThreads :=
  .foldl _ fun a e mem => by
    have := List.mem_range.mp mem
    exact .ite (.refl _ a) (.ite (((SameEntries.refl _ a).of_regs rfl).setReg (by decide) ⟨by omega, by omega, rfl⟩) ((SameEntries.refl _ a).of_regs rfl))

/-- After a resume no thread stands halted. -/
theorem State.resumeThreads_halted (s : State) {e : Nat} (he : e < 16) : (s.resumeThreads.engine e).halted = 0 := by
  rw [State.resumeThreads_eq]
  exact foldl_once (Before := fun _ : State => True) (After := fun a : State => (a.engine e).halted = 0) List.nodup_range (List.mem_range.mpr he)
    (fun a _ => a.resumeEngine_halted e) (fun _ _ _ h => h) (fun a y apart still => by rw [a.resumeEngine_other apart]; exact still) trivial

/-- The end of a grant. -/
theorem State.endGrant_ends (granted : s.nat 0xC040 0x01 = 1) :
    s.endGrant.nat 0xC040 0x01 = 0 ∧ s.endGrant.security.grantBy = [] ∧ ∀ e, e < 16 → (s.endGrant.engine e).halted = 0 := by
  have ends : s.endGrant = ((({ s with security := { s.security with grantBy := [], grantUntil := 0 } } : State).setNat 0xC040 0x01 0).resumeThreads) :=
    if_neg (not_not_intro granted)
  rw [ends]
  refine ⟨((State.resumeThreads_same _).nat (by decide) (by decide)).trans (State.nat_setNat_same ..), ?_, fun e he => State.resumeThreads_halted _ he⟩
  rw [(State.resumeThreads_only _ (.refl 0x400000000000000000002 _) rfl).security rfl]
  rfl

theorem State.debugServed_server {n : Nat} (served : s.debugServed n = true) : s.start.server = true := by
  unfold State.debugServed at served
  exact (Bool.and_eq_true _ _ ▸ served).1

theorem State.newChallenge_same (s : State) : SameEntries (fun i j => i = 0xC040 ∧ j = 0x09) s s.newChallenge :=
  ((SameEntries.refl _ s).of_regs rfl).setReg (by decide) ⟨rfl, rfl⟩

/-- What a grant brings. -/
theorem State.grantDebug_grants (s : State) (k : Nat) : (s.grantDebug [k]).nat 0xC040 0x01 = 1 ∧ (s.grantDebug [k]).security.grantBy = [k] ∧
    (s.grantDebug [k]).security.grantUntil = s.now + s.nat 0xC040 0x04 * 1000000000 ∧ (s.grantDebug [k]).security.challenge = s.security.challenge + 1 ∧
    (s.grantDebug [k]).security.challengeRead = false := by
  refine ⟨?_, rfl, rfl, rfl, rfl⟩
  unfold State.grantDebug
  extract_lets x t
  change (t.setNat 0xC040 0x01 1).newChallenge.nat 0xC040 0x01 = 1
  exact ((State.newChallenge_same _).nat (by decide) (by decide)).trans (State.nat_setNat_same ..)

/-- OPEN closes, and what was halted runs again. -/
theorem State.closeOpen_closes (s : State) : (s.setNat 0xC040 0x01 0).resumeThreads.nat 0xC040 0x01 = 0 ∧
    ∀ e, e < 16 → ((s.setNat 0xC040 0x01 0).resumeThreads.engine e).halted = 0 :=
  ⟨((State.resumeThreads_same _).nat (by decide) (by decide)).trans (State.nat_setNat_same ..), fun _ he => State.resumeThreads_halted _ he⟩

/-- A closed debug state stands through the answer. -/
theorem State.closed_done {s : State} (shut : s.nat 0xC040 0x01 = 0 ∧ ∀ e, e < 16 → (s.engine e).halted = 0) :
    s.done.nat 0xC040 0x01 = 0 ∧ ∀ e, e < 16 → (s.done.engine e).halted = 0 := shut

/-- A session that is open and served reaches the debug block. -/
theorem exec_debugResponse {sn : SessionId} (slot : Nat) (verifies : Bool) (isOpen : s.sessionOpen sn = true) (served : s.debugServed sn = true)
    (covers : roleCovers (s.sessionRole sn) .own = true) : exec (.debugResponse sn slot verifies) s = .next (s.debugRespond sn slot verifies) := by
  change execDebugResponse sn slot verifies s = _
  unfold execDebugResponse
  rw [if_neg (by rw [isOpen]; simp), served, covers]
  rfl

/-- A response in PROVISIONED from a credential with the debug flag: refused where it does not verify, else the grant. -/
theorem State.debugRespond_provisioned {n k : Nat} (verifies : Bool) (read : s.security.challengeRead = true) (life : s.lifecycle = 1) (closed : s.debugState ≠ 2)
    (flagged : (s.credentialFlags k).testBit 0 = true) : s.debugRespond n k verifies = if verifies then s.grantDebug [k] else s.answer 0x0F 0 := by
  unfold State.debugRespond
  rw [if_neg (by rw [life]; simpa using closed), read, if_neg (by decide), if_neg (by rw [life]; decide), flagged, if_neg (by decide), if_pos life]
  cases verifies <;> rfl

theorem State.debugWrite_served {role : Role} (act : State → State) (served : s.debugServed 0 = true) (covers : roleCovers role .own = true) : s.debugWrite role act = act s := by
  unfold State.debugWrite
  rw [served, covers]
  rfl

end Grant

/-- An address joined once is there. -/
theorem contains_joinOnce (l : List Nat) (a : Nat) : (if l.contains a then l else l ++ [a]).contains a = true := by
  split
  · assumption
  · simp

section Probe
variable {s : State}

/-- Threads of an engine halt or run, and its state follows. -/
theorem State.haltThreads_halts (s : State) (e threads : Nat) : ((s.haltThreads e threads).engine e).halted = threads ∧
    (s.haltThreads e threads).nat (0xB000 + e) 0x02 = (if threads = 0 then 2 else 3) ∧ ∀ k, k ≠ e → (s.haltThreads e threads).engine k = s.engine k := by
  unfold State.haltThreads
  extract_lets x y u
  refine ⟨?_, State.nat_setNat_same .., fun k apart => ?_⟩
  · exact congrArg EngineX.halted (State.engine_setEngine_same s e { y with halted := threads, watchdogAt := if threads = 0 then s.now - y.watchdogRan else y.watchdogAt })
  · exact (State.engine_setEngine s e _ k).trans (if_neg (Ne.symm apart))

/-- A word of a memory that is in order is found. -/
theorem Sparse.get_of_mem {α : Type} (d : α) {m : Sparse α} (ordered : Sparse.rising m = true) {k : Nat} {v : α} (mem : (k, v) ∈ m) : Sparse.get d m k = v := by
  rw [Sparse.rising_iff] at ordered
  induction m with
  | nil => exact nomatch mem
  | cons e m ih =>
    obtain ⟨first, rest⟩ := List.pairwise_cons.mp ordered
    rcases List.mem_cons.mp mem with rfl | later
    · exact if_pos rfl
    · exact (if_neg (Nat.ne_of_lt (first _ later))).trans (ih rest later)

/-- The probe's write with intrusive access. -/
theorem exec_probeIntrusiveAccess (e : EngineId) (address value : BitVec 32) (target : ProbeTarget) (open_ : s.intrusive = true) :
    exec (.probeIntrusiveAccess e address value target) s = .next (match target with
      | .breakpoint => s.setEngine e { s.engine e with
          breakpoints := if (s.engine e).breakpoints.contains address.toNat then (s.engine e).breakpoints else (s.engine e).breakpoints ++ [address.toNat] }
      | .register => s.setEngine e { s.engine e with registers := Sparse.set 0 (s.engine e).registers address.toNat value.toNat }
      | .local_ => if address.toNat < 524288 then s.setEngine e { s.engine e with memory := Sparse.set 0 (s.engine e).memory address.toNat value.toNat } else s
      | .shared => if sharedReached address.toNat then { s with shared := Sparse.set 0 s.shared address.toNat value.toNat } else s
      | .certificate | .fuses => s) :=
  congrArg _ (if_neg (by rw [open_]; decide))

theorem State.setEngine_engines_only (s : State) (e : Nat) (x : EngineX) : Only partEngines s (s.setEngine e x) := State.setEngine_only _ _ _ (.refl _ s) rfl

end Probe

/-- Settles O49: a grant runs from a verified response to its end, and the probe acts only with the access that the debug state gives. -/
theorem debugGrantsRunAndEnd : Obligations.DebugGrantsRunAndEnd := by
  unfold Obligations.DebugGrantsRunAndEnd
  refine ⟨fun sn s isOpen served => ?_, fun sn slot verifies s isOpen served covers read life closed flagged =>
      .of ((exec_debugResponse slot verifies isOpen served covers).trans (congrArg _ (State.debugRespond_provisioned verifies read life closed flagged))) ⟨?_, ?_⟩,
    fun s read => ?_, fun s granted => .of rfl (State.endGrant_ends granted), fun role s served covers => ⟨?_, ?_⟩, fun e threads halt s access state => ?_,
    fun e address value s access => ⟨.of (exec_probeIntrusiveAccess e address value .local_ access) ⟨fun low => ?_, fun high => if_neg (by omega), ?_⟩,
      .of (exec_probeIntrusiveAccess e address value .register access) ⟨?_, ?_, State.setEngine_engines_only ..⟩,
      .of (exec_probeIntrusiveAccess e address value .shared access) ⟨fun reached => ?_, fun barred => if_neg (by rw [barred]; decide), ?_⟩,
      .of (exec_probeIntrusiveAccess e address value .breakpoint access) ⟨?_, State.setEngine_engines_only ..⟩,
      .of (exec_probeIntrusiveAccess e address value .certificate access) rfl, .of (exec_probeIntrusiveAccess e address value .fuses access) rfl⟩,
    fun e address value target s => ⟨fun shut => ?_, fun granted => ?_, fun barred => ?_⟩⟩
  · have run : exec (.debugChallengeRead sn) s = .next s.readChallenge.done := by
      change execDebugChallengeRead sn s = _
      unfold execDebugChallengeRead
      rw [if_neg (by rw [isOpen]; simp), served]
      rfl
    exact .of run ⟨rfl, rfl, State.done_only _ (.upd_security _ (.refl _ s) rfl) rfl⟩
  · intro fails
    subst fails
    exact ⟨rfl, State.answer_only _ _ _ (.refl _ s) rfl⟩
  · intro passes
    subst passes
    exact ⟨rfl, (State.grantDebug_grants s slot).1, (State.grantDebug_grants s slot).2⟩
  · have run : exec .challengeLapse s = .next s.newChallenge := congrArg _ (if_pos read)
    exact .of run ⟨rfl, State.nat_setNat_same .., ((SameEntries.refl _ s).of_regs rfl).setReg (by decide) ⟨rfl, rfl⟩⟩
  · have run : exec (.endGrant role) s = .next s.endGrant.done := congrArg _ (State.debugWrite_served _ served covers)
    exact .of run ⟨rfl, fun granted => (State.endGrant_ends granted).1⟩
  · have run : exec (.closeOpen role) s = .next (if s.debugState = 2 then (s.setNat 0xC040 0x01 0).resumeThreads else s.endGrant).done :=
      congrArg _ (State.debugWrite_served _ served covers)
    refine .of run ⟨rfl, fun granted => State.closed_done ?_⟩
    by_cases free : s.debugState = 2
    · rw [if_pos free]
      exact s.closeOpen_closes
    · rw [if_neg free]
      obtain ⟨closed, -, halted⟩ := State.endGrant_ends (granted.resolve_right free)
      exact ⟨closed, halted⟩
  · have run : exec (.probeHalt e threads halt) s = .next (s.haltThreads e (if halt then (s.engine e).halted ||| threads.toNat
        else clearBits (s.engine e).halted threads.toNat)) := congrArg _ (if_pos ⟨access, state⟩)
    obtain ⟨halted, shown, others⟩ := s.haltThreads_halts e (if halt then (s.engine e).halted ||| threads.toNat else clearBits (s.engine e).halted threads.toNat)
    refine .of run ⟨by rw [halted]; exact shown, fun b _ => ?_, others⟩
    rw [halted]
    cases halt
    · exact (testBit_clearBits ..).trans (by rw [BitVec.testBit_toNat]; rfl)
    · exact (Nat.testBit_or ..).trans (by rw [BitVec.testBit_toNat]; rfl)
  · exact (congrArg (fun t : State => Sparse.get 0 (t.engine e).memory address.toNat) (if_pos low)).trans
      ((congrArg (fun x : EngineX => Sparse.get 0 x.memory address.toNat) (State.engine_setEngine_same ..)).trans (Sparse.get_set_same ..))
  · exact .ite (State.setEngine_engines_only ..) (.refl _ s)
  · exact (congrArg (fun x : EngineX => Sparse.get 0 x.registers address.toNat) (State.engine_setEngine_same ..)).trans (Sparse.get_set_same ..)
  · rw [State.engine_setEngine_same]
  · exact (congrArg (fun t : State => Sparse.get 0 t.shared address.toNat) (if_pos reached)).trans (Sparse.get_set_same ..)
  · exact .ite (.upd_shared _ (.refl _ s) rfl) (.refl _ s)
  · rw [State.engine_setEngine_same]
    exact contains_joinOnce ..
  · have run : exec (.probeNonintrusiveAccess e address target) s = .next s := congrArg _ (if_pos shut)
    exact .of run rfl
  · have run : exec (.probeNonintrusiveAccess e address target) s = .next (s.answer 0 (s.probeWord e address.toNat target)) := congrArg _ (if_neg granted)
    refine .of run ⟨State.answer_only _ _ _ (.refl _ s) rfl, rfl, ?_, ?_, ?_⟩
    · rintro rfl
      rfl
    · rintro rfl halted v mem ordered
      exact (if_pos halted).trans (Sparse.get_of_mem _ ordered mem)
    · rintro rfl
      rfl
  · have run : exec (.probeIntrusiveAccess e address value target) s = .next s := congrArg _ (if_pos (by rw [barred]; decide))
    exact .of run rfl

end Sys2Proof.Machine

namespace Sys2Proof.Machine

-- The kernel evaluates the runs below one after another: side by side, each holds a thread while it waits for the declarations before it.
set_option Elab.async false

/-! ## A host's warm start with an entry held twice (19 R472, R476; 00 R11)

The entries are a list of keys and values. A write changes the first value of its key, and a read takes it; the warm reset puts the list in order anew,
entry by entry, so that the last value of a key stands. Where a key stands twice, the type that the start wrote is lost at step 2. -/

/-- A device in RUN whose entries hold the start type twice. -/
def startTypeTwice : State :=
  { regs := [(key 0x1000 0x08, 2), (key 0xD000 0x02, 0), (key 0xD000 0x02, 5)], start := { server := true } }

theorem startTypeTwice_starts : ∃ t, exec (.startCommand .own { reached := 2 }) startTypeTwice = .next t ∧ t.nat 0xD000 0x02 = 5 := ⟨_, rfl, by decide +kernel⟩

/-- Refutes O50: from `startTypeTwice` a host's warm start that has come to step 2 shows type 5, where the statement has 3. No run holds an entry twice, which
the statement does not ask of the state. -/
theorem not_startsBeginByTheirTypes : ¬ Obligations.StartsBeginByTheirTypes := by
  unfold Obligations.StartsBeginByTheirTypes
  rintro ⟨-, -, -, -, command, -⟩
  obtain ⟨t, run, five⟩ := startTypeTwice_starts
  obtain ⟨u, again, -, up⟩ := command .own { reached := 2 } startTypeTwice
    (show startTypeTwice.writeBar .own (needRole 0xD000 0x01) 0xD000 0x01 = none by decide +kernel)
  obtain rfl : t = u := Host.Outcome.next.inj (run.symm.trans again)
  obtain ⟨three, -⟩ := up (by decide +kernel) rfl
  exact absurd (five.symm.trans three) (by decide)

end Sys2Proof.Machine

namespace Sys2Proof.Machine

-- The kernel evaluates the runs below one after another: side by side, each holds a thread while it waits for the declarations before it.
set_option Elab.async false

/-! ## A region's supply that stays out during a start (19 R473, R474, R479)

Before completion the reaction SAFE does not enter SAFE: a detection with it fails the start (R474). A region whose supply does not come up has its source
raised, and the start goes on with the region fenced, whatever the source's setting says. -/

/-- A device in COLD-START whose source of region 0's supply has the SAFE reaction. -/
def supplyOutAtStart : State := { settings := [(795, 9216)], start := { powered := true } }

theorem supplyOutAtStart_goesOn : ∃ t, exec (.regionSupplyTimeout 0 {}) supplyOutAtStart = .next t ∧ t.isSafe = false := ⟨_, rfl, by decide +kernel⟩

/-- Refutes O51: from `supplyOutAtStart` the device is not in SAFE after the timeout of region 0's supply, where the statement has SAFE by the source's
reaction: the statement does not ask that the device is in service. -/
theorem not_startsFailRetryAndSettle : ¬ Obligations.StartsFailRetryAndSettle := by
  unfold Obligations.StartsFailRetryAndSettle
  rintro ⟨-, -, supply, -⟩
  obtain ⟨t, run, awake⟩ := supplyOutAtStart_goesOn
  obtain ⟨u, again, -, safe, -⟩ := supply 0 {} supplyOutAtStart 795 (by decide +kernel) rfl rfl
  obtain rfl : t = u := Host.Outcome.next.inj (run.symm.trans again)
  exact absurd (awake.symm.trans (safe (by decide +kernel) (by decide +kernel) (by decide +kernel) (by decide +kernel) (by decide +kernel))) (by decide)

end Sys2Proof.Machine

namespace Sys2Proof.Machine

/-! ## Requests of a session (16 R409 to R414) -/

/-- A request is received: it keeps its session alive, its number is taken, and it is counted. -/
def State.received (s : State) (rq : Request) : State :=
  (s.setSession rq.session { s.session rq.session with
    lastRequest := s.now, route := s.routeOf rq.session rq.arrival
    accepted := if (s.session rq.session).keyed then (rq.seq :: (s.session rq.session).accepted).take 16 else (s.session rq.session).accepted }).inc32
    (0xF000 + rq.session) 0x07

/-- A request's answer goes to its session. -/
def State.answerRequest (rq : Request) (q : Quest) (o : State × Option Reply) : State :=
  match o with
  | (t, some r) => t.respond rq.session rq.rid q r
  | (t, none) => t

section Serve
variable {s : State} {rq : Request}

theorem State.received_same (s : State) (rq : Request) : SameEntries (fun i j => i = 0xF000 + rq.session.val ∧ j = 0x07) s (s.received rq) :=
  ((SameEntries.refl _ s).of_regs rfl).setReg (by decide) ⟨rfl, rfl⟩

theorem State.received_only (s : State) (rq : Request) : Only (partRegs ||| partSessions) s (s.received rq) :=
  State.inc32_only _ _ _ (State.setSession_only _ _ _ (.refl _ s) rfl) rfl

theorem State.received_session (s : State) (rq : Request) : (s.received rq).session rq.session = { s.session rq.session with
    lastRequest := s.now, route := s.routeOf rq.session rq.arrival
    accepted := if (s.session rq.session).keyed then (rq.seq :: (s.session rq.session).accepted).take 16 else (s.session rq.session).accepted } :=
  State.session_setSession_same ..

theorem State.received_session_other (s : State) (rq : Request) {n : Nat} (apart : n ≠ rq.session.val) : (s.received rq).session n = s.session n :=
  (State.session_setSession ..).trans (if_neg (Ne.symm apart))

theorem State.received_safe (s : State) (rq : Request) : (s.received rq).isSafe = s.isSafe := by
  unfold State.isSafe State.runState
  rw [(s.received_same rq).nat (by decide) (by omega)]

/-- A request that acts is received, and its act is answered. -/
theorem State.serve_acts (acts : s.acts rq) (q : Quest) (last : Nat) (act : Route → State → State × Option Reply) :
    s.serve rq q last act = State.answerRequest rq { q with route := s.routeOf rq.session rq.arrival } (act (s.routeOf rq.session rq.arrival) (s.received rq)) := by
  obtain ⟨server, arrives, awake, isOpen, fresh, none, keyed⟩ := acts
  have verified : ((s.session rq.session).keyed && (!rq.macOk || (!(s.session rq.session).accepted.contains rq.seq &&
      !((s.session rq.session).accepted.all (fun a => decide (a < rq.seq)))))) = false := by
    cases key : (s.session rq.session).keyed
    · rfl
    · obtain ⟨mac, new⟩ := keyed key
      rw [mac, new]
      simp
  have again : ((s.session rq.session).keyed && (s.session rq.session).accepted.contains rq.seq) = false := by
    cases key : (s.session rq.session).keyed
    · rfl
    · obtain ⟨-, new⟩ := keyed key
      rw [List.all_eq_true] at new
      refine Bool.eq_false_iff.mpr fun has => ?_
      have := new _ (List.contains_iff_mem.mp has)
      simp at this
  have safe : ((s.received rq).isSafe && !(s.received rq).safeServes rq.session { q with route := s.routeOf rq.session rq.arrival } last) = false := by
    rw [State.received_safe, awake]
    rfl
  unfold State.serve
  extract_lets n route q' x again' s1 s2 s3
  rw [if_neg (by rw [server, arrives]; decide), if_neg (by rw [isOpen]; decide), if_neg (by rw [verified]; decide), fresh]
  dsimp only
  rw [if_neg (by rw [Bool.or_eq_true, not_or]; exact ⟨by rw [again]; decide, by rw [none]; decide⟩), if_neg (by intro h; rw [show (s3.isSafe && !s3.safeServes n q' last) = false from safe] at h; exact Bool.false_ne_true h)]
  rfl

end Serve

/-! ### Answers -/

section Answer
variable (s : State) (n rid : Nat) (q : Quest) (r : Reply)

theorem State.sendTo_regs (route : Route) (m : List Byte) : (s.sendTo route m).regs = s.regs :=
  (State.sendTo_only s route m (.refl 0x100000000000000000040 s) rfl).regs rfl

/-- A message that is sent changes a session in nothing but what it holds for the SPI target. -/
theorem State.sendTo_session (route : Route) (m : List Byte) (k : Nat) : ∃ o, (s.sendTo route m).session k = { s.session k with outbox := o } := by
  unfold State.sendTo
  split
  · exact ⟨_, rfl⟩
  · split
    · by_cases spi : 0 = k
      · subst spi
        exact ⟨_, State.session_setSession_same ..⟩
      · exact ⟨_, (State.session_setSession ..).trans (if_neg spi)⟩
    · exact ⟨_, rfl⟩

theorem State.reply_only_answer : Only (partSessions ||| partOutgoing ||| partLastStatus ||| partLastDetail) s (s.reply n rid q r) :=
  State.reply_only _ _ _ _ _ (.refl _ s) rfl

theorem State.reply_regs : (s.reply n rid q r).regs = s.regs := (s.reply_only_answer n rid q r).regs rfl

theorem State.reply_session (k : Nat) : ∃ o, (s.reply n rid q r).session k = { s.session k with outbox := o } := s.sendTo_session ..

theorem State.respond_same : SameEntries (fun i j => i = 0xF000 + n ∧ j = 0x08) s (s.respond n rid q r) := by
  have sent : SameEntries (fun i j => i = 0xF000 + n ∧ j = 0x08) s (s.sendTo q.route (s.responseBytes n rid q r)) := (SameEntries.refl _ s).of_regs (s.sendTo_regs ..)
  unfold State.respond
  extract_lets t x u v
  have kept : SameEntries (fun i j => i = 0xF000 + n ∧ j = 0x08) s u := sent.of_regs rfl
  have counted : SameEntries (fun i j => i = 0xF000 + n ∧ j = 0x08) s v := .ite kept (kept.setReg (by decide) ⟨rfl, rfl⟩)
  exact counted.of_regs rfl

theorem State.respond_regs (success : r.status = 0) : (s.respond n rid q r).regs = s.regs := by
  unfold State.respond
  extract_lets t x u v
  have kept : v = u := if_pos success
  change v.regs = _
  rw [kept]
  exact s.sendTo_regs ..

/-- An answered session keeps the answer. -/
theorem State.respond_session : ∃ o, (s.respond n rid q r).session n =
    { s.session n with outbox := o, responses := ((⟨rid, r.status, r.detail, r.data, r.flags⟩ : Response) :: (s.session n).responses).take 16 } := by
  obtain ⟨o, sent⟩ := s.sendTo_session q.route (s.responseBytes n rid q r) n
  refine ⟨o, ?_⟩
  unfold State.respond
  extract_lets t x u v
  have kept : v.session n = u.session n := by
    unfold v
    split <;> rfl
  change v.session n = _
  rw [kept, show u.session n = { x with responses := ((⟨rid, r.status, r.detail, r.data, r.flags⟩ : Response) :: x.responses).take 16 } from State.session_setSession_same ..,
    show x = _ from sent]

theorem State.respond_only_answer : Only (partRegs ||| partSessions ||| partOutgoing ||| partLastStatus ||| partLastDetail) s (s.respond n rid q r) :=
  State.respond_only _ _ _ _ _ (.refl _ s) rfl

end Answer

/-! ### Sessions -/

section Sessions
variable (s : State)

/-- Entries of a session that close to 0. -/
def State.zeroEntries (s : State) (n : Nat) (l : List Nat) : State := l.foldl (fun a k => a.setNat (0xF000 + n) k 0) s

theorem State.zeroEntries_same (n : Nat) {l : List Nat} (low : ∀ k ∈ l, k < 256) : SameEntries (fun i j => i = 0xF000 + n ∧ j ∈ l) s (s.zeroEntries n l) :=
  .foldl l fun a k mem => (SameEntries.refl _ a).setReg (low k mem) ⟨rfl, mem⟩

theorem State.closeSession_regs (n : Nat) :
    (s.closeSession n).regs = ((((s.setSession n {}).setNat (0xF000 + n) 0x01 0)).zeroEntries n [0x02, 0x03, 0x05, 0x06]).regs := by
  unfold State.closeSession State.zeroEntries
  simp only [List.foldl_cons, List.foldl_nil, State.setBlob_regs]

theorem State.closeSession_sessions (n : Nat) : (s.closeSession n).sessions = (s.setSession n {}).sessions := by
  unfold State.closeSession
  simp only [List.foldl_cons, List.foldl_nil, State.setBlob_sessions, State.setNat, State.setReg_sessions]

theorem State.closeSession_session (n k : Nat) : (s.closeSession n).session k = (s.setSession n {}).session k := by
  unfold State.session
  rw [s.closeSession_sessions n]

/-- What a closed session is. -/
theorem State.closeSession_closes (n : Nat) : (s.closeSession n).nat (0xF000 + n) 0x01 = 0 ∧ (s.closeSession n).session n = {} :=
  ⟨(State.nat_of_regs (s.closeSession_regs n) _ _).trans (((State.zeroEntries_same _ n (by decide)).nat (by decide) (by simp)).trans (State.nat_setNat_same ..)),
    (s.closeSession_session n n).trans (State.session_setSession_same s n {})⟩

theorem State.closeSession_same (n : Nat) : SameEntries (fun i _ => i = 0xF000 + n) s (s.closeSession n) := by
  have first : SameEntries (fun i _ => i = 0xF000 + n) s ((s.setSession n {}).setNat (0xF000 + n) 0x01 0) := ((SameEntries.refl _ s).of_regs rfl).setReg (by decide) rfl
  exact (first.trans ((State.zeroEntries_same _ n (by decide)).mono fun i j h => h.1)).of_regs (s.closeSession_regs n)

theorem State.closeSession_other {n k : Nat} (apart : k ≠ n) : (s.closeSession n).session k = s.session k :=
  (s.closeSession_session n k).trans ((State.session_setSession s n {} k).trans (if_neg (Ne.symm apart)))

/-- A request that is turned away, or an open request that is answered, changes no entry. -/
theorem State.turnAway_regs (n rid : Nat) (q : Quest) (status detail : Nat) : (s.turnAway n rid q status detail).regs = s.regs := State.reply_regs ..

/-- The entries of a session that opens, or begins to. -/
def State.showOpen (s : State) (n state : Nat) (role : Role) (route : Route) : State :=
  (((s.setNat (0xF000 + n) 0x01 state).setNat (0xF000 + n) 0x02 route.transport).setNat (0xF000 + n) 0x03 (if state = 2 then role.code else 0)).setBlob
    (0xF000 + n) 0x0A route.peer

theorem State.showOpen_regs (n state : Nat) (role : Role) (route : Route) : (s.showOpen n state role route).regs =
    (((s.setNat (0xF000 + n) 0x01 state).setNat (0xF000 + n) 0x02 route.transport).setNat (0xF000 + n) 0x03 (if state = 2 then role.code else 0)).regs :=
  State.setBlob_regs ..

theorem State.showOpen_shows (n state : Nat) (role : Role) (route : Route) : (s.showOpen n state role route).nat (0xF000 + n) 0x01 = state ∧
    (s.showOpen n state role route).nat (0xF000 + n) 0x02 = route.transport ∧
    (s.showOpen n state role route).nat (0xF000 + n) 0x03 = if state = 2 then role.code else 0 := by
  have last := State.nat_of_regs (s.showOpen_regs n state role route)
  have transport : SameEntries (fun _ j => j = 0x03) ((s.setNat (0xF000 + n) 0x01 state).setNat (0xF000 + n) 0x02 route.transport)
      (((s.setNat (0xF000 + n) 0x01 state).setNat (0xF000 + n) 0x02 route.transport).setNat (0xF000 + n) 0x03 (if state = 2 then role.code else 0)) :=
    (SameEntries.refl _ _).setNat (by decide) rfl
  have first : SameEntries (fun _ j => j = 0x02 ∨ j = 0x03) (s.setNat (0xF000 + n) 0x01 state)
      (((s.setNat (0xF000 + n) 0x01 state).setNat (0xF000 + n) 0x02 route.transport).setNat (0xF000 + n) 0x03 (if state = 2 then role.code else 0)) :=
    ((SameEntries.refl _ _).setNat (by decide) (.inl rfl)).setNat (by decide) (.inr rfl)
  exact ⟨(last ..).trans ((first.nat (by decide) (by decide)).trans (State.nat_setNat_same ..)),
    (last ..).trans ((transport.nat (by decide) (by decide)).trans (State.nat_setNat_same ..)), (last ..).trans (State.nat_setNat_same ..)⟩

/-- A session's fields as it opens or begins to open. -/
def State.beginOpen (s : State) (n : Nat) (role : Role) (credential : Nat) (keyed : Bool) (route : Route) : State :=
  let x := if s.nat (0xF000 + n) 0x01 == 0 then { outbox := (s.session n).outbox } else s.session n
  let t := s.setSession n { x with
    credential := credential, asked := role.code, keyed := keyed, accepted := [], responses := [], lastRequest := s.now, route := route }
  if s.nat (0xF000 + n) 0x01 == 0 then t.zeroEntries n [0x06, 0x07, 0x08, 0x09] else t

theorem State.openAs_eq (n state : Nat) (role : Role) (credential : Nat) (keyed : Bool) (route : Route) :
    s.openAs n state role credential keyed route = (s.beginOpen n role credential keyed route).showOpen n state role route := rfl

theorem State.beginOpen_credential (n : Nat) (role : Role) (credential : Nat) (keyed : Bool) (route : Route) :
    ((s.beginOpen n role credential keyed route).session n).credential = credential := by
  unfold State.beginOpen
  extract_lets x t
  have own : (t.session n).credential = credential := congrArg SessionX.credential (State.session_setSession_same ..)
  have zeroed : Only partRegs t (t.zeroEntries n [0x06, 0x07, 0x08, 0x09]) := .foldl (.refl _ t) fun a k => State.setNat_only _ _ _ _ (.refl _ a) rfl
  split
  · rw [zeroed.session_kept rfl]
    exact own
  · exact own

theorem State.openAs_credential (n state : Nat) (role : Role) (credential : Nat) (keyed : Bool) (route : Route) :
    ((s.openAs n state role credential keyed route).session n).credential = credential := s.beginOpen_credential n role credential keyed route

theorem State.openFirst_reaches {rid : Nat} {role : Role} {credential n : Nat} {route : Route} (free : s.freeSession route.transport = some n)
    (reaches : s.reaches route.transport = true) (arrives : s.arrives route = true) (awake : s.isSafe = false) (linked : route.transport = 6 → s.twin.linkUp = true) :
    s.openFirst rid role credential route =
      if credential = 255 then
        (if s.anonymousOk n role then
          (s.openAs n 2 role 255 (decide (1 ≤ role.code)) route).reply n rid { type := 1, route := route } { data := toBytes 1 n ++ (items 208).map (Config.handshakeByte n s.now) }
        else s.turnAway n rid { type := 1, route := route } 0x04 0)
      else if 16 ≤ credential ∨ (s.blob 0xC020 (credential + 1)).isEmpty ∨ s.lifecycle = 0 ∨ s.lifecycle = 3 then s.turnAway n rid { type := 1, route := route } 0x0F 0
      else (s.openAs n 1 role credential false route).reply n rid { type := 1, route := route } { data := toBytes 1 n ++ (items 208).map (Config.handshakeByte n s.now) } := by
  unfold State.openFirst
  extract_lets transport q
  rw [if_neg (by rw [reaches, arrives]; decide), if_neg (by rw [awake]; exact fun h => Bool.false_ne_true h.1),
    if_neg (by rintro ⟨twin, down⟩; rw [linked twin] at down; exact absurd down (by decide)), show s.freeSession transport = some n from free]


/-- A session that opens without a credential. -/
theorem State.openAs_anonymous (n rid : Nat) (role : Role) (q : Quest) (r : Reply) (route : Route) (keyed : Bool) (success : r.status = 0) :
    ((s.openAs n 2 role 255 keyed route).reply n rid q r).lastStatus = 0 ∧ ((s.openAs n 2 role 255 keyed route).reply n rid q r).nat (0xF000 + n) 0x01 = 2 ∧
      ((s.openAs n 2 role 255 keyed route).reply n rid q r).nat (0xF000 + n) 0x03 = role.code ∧
      ((s.openAs n 2 role 255 keyed route).reply n rid q r).nat (0xF000 + n) 0x02 = route.transport := by
  obtain ⟨state, transport, shown⟩ := (s.beginOpen n role 255 keyed route).showOpen_shows n 2 role route
  rw [s.openAs_eq]
  generalize (s.beginOpen n role 255 keyed route).showOpen n 2 role route = u at *
  have kept := State.nat_of_regs (u.reply_regs n rid q r)
  exact ⟨success, (kept ..).trans state, (kept ..).trans shown, (kept ..).trans transport⟩

/-- A session that begins to open with a credential. -/
theorem State.openAs_begins (n rid : Nat) (role : Role) (credential : Nat) (q : Quest) (r : Reply) (route : Route) (keyed : Bool) (success : r.status = 0) :
    ((s.openAs n 1 role credential keyed route).reply n rid q r).lastStatus = 0 ∧ ((s.openAs n 1 role credential keyed route).reply n rid q r).nat (0xF000 + n) 0x01 = 1 ∧
      ((s.openAs n 1 role credential keyed route).reply n rid q r).nat (0xF000 + n) 0x03 = 0 ∧
      (((s.openAs n 1 role credential keyed route).reply n rid q r).session n).credential = credential := by
  have named := s.openAs_credential n 1 role credential keyed route
  obtain ⟨state, -, shown⟩ := (s.beginOpen n role credential keyed route).showOpen_shows n 1 role route
  rw [s.openAs_eq] at named ⊢
  generalize (s.beginOpen n role credential keyed route).showOpen n 1 role route = u at *
  have kept := State.nat_of_regs (u.reply_regs n rid q r)
  obtain ⟨o, same⟩ := u.reply_session n rid q r n
  exact ⟨success, (kept ..).trans state, (kept ..).trans shown, by rw [same]; exact named⟩

/-- The second open request of a session that has begun to open. -/
theorem State.openSecond_begun {n : Nat} {arrival : Arrival} (rid : Nat) (signatureOk : Bool) (server : s.start.server = true)
    (arrives : s.arrives (s.routeOf n arrival) = true) (awake : s.isSafe = false) (begun : s.nat (0xF000 + n) 0x01 = 1) :
    s.openSecond rid n signatureOk arrival =
      if !signatureOk then s.turnAway n rid { type := 1, route := s.routeOf n arrival } 0x0F 0
      else if byteAt (s.blob 0xC020 ((s.session n).credential + 1)) 96 < (s.session n).asked ∨
          !(byteAt (s.blob 0xC020 ((s.session n).credential + 1)) 98).testBit (s.nat (0xF000 + n) 0x02 - 1) then
        s.turnAway n rid { type := 1, route := s.routeOf n arrival } 0x04 0
      else (((s.setSession n { s.session n with keyed := true, lastRequest := s.now, route := s.routeOf n arrival }).setNat (0xF000 + n) 0x01 2).setNat (0xF000 + n) 0x03
        (s.session n).asked).reply n rid { type := 1, route := s.routeOf n arrival } { data := toBytes 1 n } := by
  unfold State.openSecond
  extract_lets i route q x record
  rw [if_neg (by rw [server, arrives]; decide), if_neg (by rw [begun]; decide), if_neg (by rw [awake]; exact fun h => Bool.false_ne_true h.1)]

theorem State.confirmed_shows (n asked rid : Nat) (q : Quest) (r : Reply) (success : r.status = 0) (x : SessionX) (keyed : x.keyed = true) :
    let t := (((s.setSession n x).setNat (0xF000 + n) 0x01 2).setNat (0xF000 + n) 0x03 asked).reply n rid q r
    t.lastStatus = 0 ∧ t.nat (0xF000 + n) 0x01 = 2 ∧ t.nat (0xF000 + n) 0x03 = asked ∧ (t.session n).keyed = true := by
  intro t
  have kept := State.nat_of_regs (State.reply_regs (((s.setSession n x).setNat (0xF000 + n) 0x01 2).setNat (0xF000 + n) 0x03 asked) n rid q r)
  obtain ⟨o, same⟩ := State.reply_session (((s.setSession n x).setNat (0xF000 + n) 0x01 2).setNat (0xF000 + n) 0x03 asked) n rid q r n
  have first : SameEntries (fun _ j => j = 0x03) ((s.setSession n x).setNat (0xF000 + n) 0x01 2)
      (((s.setSession n x).setNat (0xF000 + n) 0x01 2).setNat (0xF000 + n) 0x03 asked) := (SameEntries.refl _ _).setNat (by decide) rfl
  refine ⟨success, (kept ..).trans ((first.nat (by decide) (by decide)).trans (State.nat_setNat_same ..)), (kept ..).trans (State.nat_setNat_same ..), ?_⟩
  rw [same]
  exact (congrArg SessionX.keyed (State.session_setSession_same s n x)).trans keyed

end Sessions

/-! ### Keeping and closing a session -/

section Keep
variable {s : State} {rq : Request}

theorem exec_keepalive (acts : s.acts rq) : exec (.keepalive rq) s = .next ((s.received rq).respond rq.session rq.rid
    { type := 3, route := s.routeOf rq.session rq.arrival } {}) := congrArg _ (State.serve_acts acts _ _ _)

theorem State.received_counts (s : State) (rq : Request) : (s.received rq).nat (0xF000 + rq.session) 0x07 = min (s.nat (0xF000 + rq.session) 0x07 + 1) (2 ^ 32 - 1) := by
  unfold State.received
  generalize { s.session rq.session with
    lastRequest := s.now, route := s.routeOf rq.session rq.arrival
    accepted := if (s.session rq.session).keyed then (rq.seq :: (s.session rq.session).accepted).take 16 else (s.session rq.session).accepted } = x
  exact State.nat_addSat_same ..

/-- A session closes, and what it held for the SPI target stays. -/
def State.closeAnswered (s : State) (n : Nat) : State := (s.closeSession n).setSession n { (s.closeSession n).session n with outbox := (s.session n).outbox }

theorem State.closeAnswered_closes (s : State) (n : Nat) : (s.closeAnswered n).nat (0xF000 + n) 0x01 = 0 ∧ ((s.closeAnswered n).session n).claims = [] ∧
    ((s.closeAnswered n).session n).held = [] ∧ (s.closeAnswered n).lastStatus = s.lastStatus := by
  obtain ⟨shut, empty⟩ := s.closeSession_closes n
  have own : (s.closeAnswered n).session n = { outbox := (s.session n).outbox } :=
    (State.session_setSession_same ..).trans (congrArg (fun x : SessionX => { x with outbox := (s.session n).outbox }) empty)
  have regs : (s.closeAnswered n).regs = (s.closeSession n).regs := State.setSession_regs ..
  rw [own]
  have frame : Only 0x300000000000000000006 s (s.closeAnswered n) := State.setSession_only _ _ _ (State.closeSession_only s n (.refl _ s) rfl) rfl
  exact ⟨(State.nat_of_regs regs _ _).trans shut, rfl, rfl, frame.lastStatus rfl⟩

/-- A close request that acts is answered, and its session closes. -/
theorem exec_close (acts : s.acts rq) : exec (.close rq) s = .next ((((s.received rq).setNat (0xF000 + rq.session) 0x01 1).respond rq.session rq.rid
    { type := 2, route := s.routeOf rq.session rq.arrival } {}).closeAnswered rq.session) := by
  have isOpen : s.sessionOpen rq.session = true := acts.2.2.2.1
  have served := State.serve_acts acts { type := 2 } 0 (fun _ t => (t.setNat (0xF000 + rq.session) 0x01 1, some {}))
  have ending : (((s.received rq).setNat (0xF000 + rq.session) 0x01 1).respond rq.session rq.rid { type := 2, route := s.routeOf rq.session rq.arrival } {}).nat
      (0xF000 + rq.session) 0x01 = 1 := (State.nat_of_regs (State.respond_regs _ _ _ _ _ rfl) _ _).trans (State.nat_setNat_same ..)
  change Host.Outcome.next (s.requestClose rq) = _
  unfold State.requestClose
  extract_lets n t out u
  have answered : t = ((s.received rq).setNat (0xF000 + rq.session) 0x01 1).respond rq.session rq.rid { type := 2, route := s.routeOf rq.session rq.arrival } {} := served
  rw [← answered] at ending ⊢
  exact congrArg _ (if_pos ⟨isOpen, ending⟩)

end Keep

/-! ### Lost transports and the relay -/

section Transports
variable (s : State)

/-- A session closes where it stands on one of these transports. -/
def State.closeOn (l : List Nat) (s : State) (n : Nat) : State :=
  if s.nat (0xF000 + n) 0x01 ≠ 0 ∧ l.contains (s.nat (0xF000 + n) 0x02) then s.closeSession n else s

theorem State.closeOn_own (l : List Nat) (n : Nat) :
    (State.closeOn l s n).nat (0xF000 + n) 0x01 = if s.nat (0xF000 + n) 0x02 ∈ l then 0 else s.nat (0xF000 + n) 0x01 := by
  unfold State.closeOn
  by_cases named : s.nat (0xF000 + n) 0x02 ∈ l
  · rw [if_pos named]
    by_cases free : s.nat (0xF000 + n) 0x01 = 0
    · rw [if_neg fun h => h.1 free]
      exact free
    · rw [if_pos ⟨free, List.contains_iff_mem.mpr named⟩]
      exact (s.closeSession_closes n).1
  · rw [if_neg named, if_neg fun h => named (List.contains_iff_mem.mp h.2)]

theorem State.closeOn_same (l : List Nat) (n : Nat) : SameEntries (fun i _ => i = 0xF000 + n) s (State.closeOn l s n) := .ite (s.closeSession_same n) (.refl _ s)

/-- The sessions on these transports close, and no other. -/
theorem State.closeTransports_closes (l : List Nat) {n : Nat} (hn : n < 8) :
    (s.closeTransports l).nat (0xF000 + n) 0x01 = if s.nat (0xF000 + n) 0x02 ∈ l then 0 else s.nat (0xF000 + n) 0x01 := by
  refine foldl_once (f := State.closeOn l)
    (Before := fun a : State => a.nat (0xF000 + n) 0x01 = s.nat (0xF000 + n) 0x01 ∧ a.nat (0xF000 + n) 0x02 = s.nat (0xF000 + n) 0x02)
    (After := fun a : State => a.nat (0xF000 + n) 0x01 = if s.nat (0xF000 + n) 0x02 ∈ l then 0 else s.nat (0xF000 + n) 0x01)
    List.nodup_range (List.mem_range.mpr hn) ?_ ?_ ?_ ⟨rfl, rfl⟩
  · rintro a ⟨state, transport⟩
    rw [a.closeOn_own, state, transport]
  · rintro a y apart ⟨state, transport⟩
    have other := a.closeOn_same l y
    exact ⟨(other.nat (by decide) (by omega)).trans state, (other.nat (by decide) (by omega)).trans transport⟩
  · intro a y apart state
    exact ((a.closeOn_same l y).nat (by decide) (by omega)).trans state

variable {s}

theorem State.reaches_server {transport : Nat} (reaches : s.reaches transport = true) : s.start.server = true := by
  unfold State.reaches at reaches
  simp only [Bool.and_eq_true] at reaches
  exact reaches.1.1.1

/-- A message for the twin waits for the link, with the answer that has come. -/
def State.relayOn (s : State) (route : Route) (message : List Byte) (response : Option (List Byte)) : State :=
  match response with
  | some m => ({ s with twin := { s.twin with relayWaiting := s.twin.relayWaiting ++ [message] } } : State).done.sendTo route m
  | none => ({ s with twin := { s.twin with relayWaiting := s.twin.relayWaiting ++ [message] } } : State).done

theorem State.relay_served {route : Route} (message : List Byte) (response : Option (List Byte)) (server : s.start.server = true)
    (reaches : s.reaches route.transport = true) (arrives : s.arrives route = true) (awake : s.isSafe = false) :
    s.relay route message response = if !s.twin.linkUp then s.relayAnswer route message 0x10 0 else s.relayOn route message response := by
  unfold State.relay
  rw [if_neg (by rw [server, reaches, arrives]; decide), if_neg (by rw [awake]; decide)]
  cases response <;> rfl

theorem State.relayOn_only (s : State) (route : Route) (message : List Byte) (response : Option (List Byte)) :
    Only (partTwin ||| partSessions ||| partOutgoing ||| partLastStatus ||| partLastDetail) s (s.relayOn route message response) := by
  have waits : Only (partTwin ||| partSessions ||| partOutgoing ||| partLastStatus ||| partLastDetail) s
      ({ s with twin := { s.twin with relayWaiting := s.twin.relayWaiting ++ [message] } } : State).done := State.done_only _ (.upd_twin _ (.refl _ s) rfl) rfl
  cases response with
  | none => exact waits
  | some m => exact State.sendTo_only _ _ _ waits rfl

/-- A message for the SPI target waits there, any other goes out. -/
theorem State.sendTo_arrives (s : State) (route : Route) (m : List Byte) :
    (route.transport = 1 → ((s.sendTo route m).session 0).outbox = (s.session 0).outbox ++ [m]) ∧
      (2 ≤ route.transport → (s.sendTo route m).outgoing = s.outgoing ++ [s.carriage route m]) := by
  refine ⟨fun spi => ?_, fun line => ?_⟩
  · have sent : s.sendTo route m = s.setSession 0 { s.session 0 with outbox := (s.session 0).outbox ++ [m] } := (if_neg (by omega)).trans (if_pos spi)
    rw [sent, State.session_setSession_same]
  · have sent : s.sendTo route m = { s with outgoing := s.outgoing ++ [s.carriage route m] } := (if_neg (by omega)).trans (if_neg (by omega))
    rw [sent]

/-- A message for the twin waits, and its answer goes where the request came from. -/
theorem State.relayOn_waits (s : State) (route : Route) (message : List Byte) (response : Option (List Byte)) :
    (s.relayOn route message response).lastStatus = 0 ∧
      (s.relayOn route message response).twin = { s.twin with relayWaiting := s.twin.relayWaiting ++ [message] } ∧
      (response = none → (s.relayOn route message response).sessions = s.sessions ∧ (s.relayOn route message response).outgoing = s.outgoing) ∧
      (∀ m, response = some m → (route.transport = 1 → ((s.relayOn route message response).session 0).outbox = (s.session 0).outbox ++ [m]) ∧
        (2 ≤ route.transport → (s.relayOn route message response).outgoing = s.outgoing ++ [s.carriage route m])) := by
  cases response with
  | none => exact ⟨rfl, rfl, fun _ => ⟨rfl, rfl⟩, fun _ h => nomatch h⟩
  | some m =>
    have frame : Only 0x100000000000000000040 ({ s with twin := { s.twin with relayWaiting := s.twin.relayWaiting ++ [message] } } : State).done
        (s.relayOn route message (some m)) := State.sendTo_only _ _ _ (.refl _ _) rfl
    refine ⟨frame.lastStatus rfl, frame.twin rfl, (nomatch ·), fun k same => ?_⟩
    obtain rfl : m = k := Option.some.inj same
    exact State.sendTo_arrives ({ s with twin := { s.twin with relayWaiting := s.twin.relayWaiting ++ [message] } } : State).done route m

end Transports

/-- Settles O52: sessions open, are kept and close as their requests and transports have it, and a relayed request waits for the twin link. -/
theorem sessionsOpenAndClose : Obligations.SessionsOpenAndClose := by
  unfold Obligations.SessionsOpenAndClose
  refine ⟨?_, ?_, ?_, ?_, ?_, ?_, ?_⟩
  · intro transport role credential peer arrival s n free reaches arrives awake linked
    have run : exec (.openRequest transport role credential peer arrival) s = .next (s.openFirst 0 role credential { transport := transport, peer := peer, arrival := arrival }) := rfl
    rw [s.openFirst_reaches free reaches arrives awake linked] at run
    refine .of run ⟨?_, ?_, ?_⟩
    · intro anonymous ok
      rw [if_pos anonymous, if_pos ok]
      exact s.openAs_anonymous n 0 role _ _ { transport := transport, peer := peer, arrival := arrival } _ rfl
    · intro anonymous barred
      rw [if_pos anonymous, if_neg (by rw [barred]; decide)]
      exact ⟨rfl, State.turnAway_regs ..⟩
    · intro named known life
      rw [if_neg (by omega), if_neg (by rintro (h | h | h | h); exacts [by omega, known (List.isEmpty_iff.mp h), by omega, by omega])]
      exact s.openAs_begins n 0 role credential _ _ _ _ rfl
  · intro sn signatureOk arrival s server arrives awake begun
    have run : exec (.openConfirm sn signatureOk arrival) s = .next (s.openSecond 0 sn signatureOk arrival) := rfl
    rw [s.openSecond_begun 0 signatureOk server arrives awake begun] at run
    refine .of run ⟨?_, ?_⟩
    · rintro rfl
      rw [if_pos (by decide)]
      exact ⟨rfl, (State.nat_of_regs (State.turnAway_regs ..) _ _).trans begun⟩
    · rintro rfl covers carries
      rw [if_neg (by decide), if_neg (by rw [carries, not_or]; exact ⟨by omega, by decide⟩)]
      exact s.confirmed_shows sn _ 0 _ _ rfl _ rfl
  · intro rq s acts
    have kept := State.respond_only_answer (s.received rq) rq.session rq.rid { type := 3, route := s.routeOf rq.session rq.arrival } {}
    have regs := State.respond_regs (s.received rq) rq.session rq.rid { type := 3, route := s.routeOf rq.session rq.arrival } {} rfl
    obtain ⟨o, session⟩ := State.respond_session (s.received rq) rq.session rq.rid { type := 3, route := s.routeOf rq.session rq.arrival } {}
    have isOpen : s.nat (0xF000 + rq.session) 0x01 = 2 := beq_iff_eq.mp acts.2.2.2.1
    refine ⟨.of (exec_keepalive acts) ⟨rfl, ?_, ?_, ?_, (s.received_same rq).of_regs regs, ((s.received_only rq).mono rfl).step kept rfl⟩, .of (exec_close acts) ?_⟩
    · exact (State.nat_of_regs regs _ _).trans (((s.received_same rq).nat (by decide) (by omega)).trans isOpen)
    · rw [session, s.received_session]
    · exact (State.nat_of_regs regs _ _).trans (s.received_counts rq)
    · obtain ⟨shut, claims, held, status⟩ := State.closeAnswered_closes (((s.received rq).setNat (0xF000 + rq.session) 0x01 1).respond rq.session rq.rid
        { type := 2, route := s.routeOf rq.session rq.arrival } {}) rq.session
      exact ⟨status, shut, claims, held⟩
  · intro sn s busy silent
    have run : exec (.sessionTimeout sn) s = .next (s.closeSession sn) :=
      congrArg _ (if_neg (by rw [State.sessionSilent, decide_eq_true silent]; simpa using busy))
    obtain ⟨shut, empty⟩ := s.closeSession_closes sn
    refine .of run ⟨shut, by rw [empty], by rw [empty], fun n hn apart => ⟨(s.closeSession_same sn).nat (by decide) (by omega), s.closeSession_other apart⟩⟩
  · intro transport s
    have named : (transport = 2 ∨ transport = 3 ∨ (transport = 6 ∧ (!s.twin.linkUp) = true)) ↔
        (transport.val = 2 ∨ transport.val = 3 ∨ (transport.val = 6 ∧ s.twin.linkUp = false)) := by
      rw [Fin.ext_iff, Fin.ext_iff, Fin.ext_iff, Bool.not_eq_true']
      rfl
    by_cases lost : transport.val = 2 ∨ transport.val = 3 ∨ (transport.val = 6 ∧ s.twin.linkUp = false)
    · have run : exec (.transportLost transport) s = .next (s.closeTransports [transport.val]) := by
        change execTransportLost transport s = _
        unfold execTransportLost
        rw [if_pos (named.mpr lost)]
      refine .of run fun n hn => ?_
      rw [s.closeTransports_closes _ hn]
      simp only [lost, true_and, List.mem_singleton]
    · have run : exec (.transportLost transport) s = .next s := by
        change execTransportLost transport s = _
        unfold execTransportLost
        rw [if_neg fun h => lost (named.mp h)]
      exact .of run fun n _ => (if_neg fun h => lost h.1).symm
  · intro sn s
    have run : exec (.snapshotTimeout sn) s = .next (s.setSession sn { s.session sn with snapshot := none }) := rfl
    exact .of run ⟨State.session_setSession_same .., fun n apart => (State.session_setSession ..).trans (if_neg (Ne.symm apart)), State.setSession_only _ _ _ (.refl _ s) rfl⟩
  · intro route message response s reaches arrives awake
    have run : exec (.relayedRequest route message response) s = .next (s.relay route message response) := rfl
    rw [State.relay_served message response (State.reaches_server reaches) reaches arrives awake] at run
    refine .of run ⟨fun link => ?_, fun down => ?_, ?_⟩
    · rw [if_neg (by rw [link]; decide)]
      exact s.relayOn_waits route message response
    · rw [if_pos (by rw [down]; rfl)]
      exact ⟨rfl, (State.reply_only_answer ..).twin rfl⟩
    · exact .ite ((State.reply_only_answer ..).mono rfl) (s.relayOn_only route message response)

end Sys2Proof.Machine

namespace Sys2Proof.Machine

/-! ## What a read shows does not depend on how often its session has asked (16 R405, R406, R428)

A request counts in its session's entry before it acts. A read of an entry below F000h sees nothing of that: it reads no session, and no entry 07h of an
object from F000h on. -/

/-- Two states differ in nothing but their sessions and the counts of requests, F000h.07 to F007h.07. -/
structure Unseen (s t : State) : Prop where
  frame : Only (partRegs ||| partSessions) s t
  same : ∀ i j, j < 256 → j ≠ 7 ∨ i < 0xF000 → t.reg i j = s.reg i j

section Unseen
variable {s t : State} (h : Unseen s t)
include h

theorem Unseen.nat {i j : Nat} (hj : j < 256) (apart : j ≠ 7 ∨ i < 0xF000) : t.nat i j = s.nat i j := by
  unfold State.nat
  rw [h.same i j hj apart]

theorem Unseen.nat_low {i : Nat} (low : i < 0xF000) (j : Nat) (hj : j < 256) : t.nat i j = s.nat i j := h.nat hj (.inr low)

theorem Unseen.nat_ne (i : Nat) {j : Nat} (hj : j < 256 ∧ j ≠ 7) : t.nat i j = s.nat i j := h.nat hj.1 (.inl hj.2)

theorem Unseen.bit_ne (i b : Nat) {j : Nat} (hj : j < 256 ∧ j ≠ 7) : t.bit i j b = s.bit i j b := by
  unfold State.bit
  rw [h.nat_ne i hj]

theorem Unseen.flag_ne (i : Nat) {j : Nat} (hj : j < 256 ∧ j ≠ 7) : t.flag i j = s.flag i j := by
  unfold State.flag
  rw [h.same i j hj.1 (.inl hj.2)]

theorem Unseen.flag_low {i : Nat} (low : i < 0xF000) {j : Nat} (hj : j < 256) : t.flag i j = s.flag i j := by
  unfold State.flag
  rw [h.same i j hj (.inr low)]

/-! ### Ports and lanes -/

theorem Unseen.mode (p : Nat) : t.mode p = s.mode p := h.nat_ne _ (by decide)

theorem Unseen.portSynt (p : Nat) : t.portSynt p = s.portSynt p := by
  unfold State.portSynt
  rw [h.nat_ne _ (by decide)]

theorem Unseen.timingLane (p : Nat) : t.timingLane p = s.timingLane p := by
  unfold State.timingLane
  rw [h.mode, h.nat_ne _ (by decide)]

theorem Unseen.sendingLane (p : Nat) : t.sendingLane p = s.sendingLane p := by
  unfold State.sendingLane
  rw [h.mode, h.flag_ne _ (by decide)]

theorem Unseen.rsFec (p : Nat) : t.rsFec p = s.rsFec p := by
  unfold State.rsFec
  rw [h.mode, h.nat_ne _ (by decide)]

theorem Unseen.bufferDelay (p : Nat) : t.bufferDelay p = s.bufferDelay p := by
  unfold State.bufferDelay
  dsimp only
  rw [h.timingLane, h.portSynt, h.mode, h.frame.lane_kept rfl, h.frame.tim_kept rfl, h.bit_ne _ _ (by decide)]

theorem Unseen.fixedDelay {p : Nat} (hp : p < 0xCF00) : t.fixedDelay p = s.fixedDelay p := by
  unfold State.fixedDelay
  rw [h.mode, h.rsFec, h.flag_low (by omega) (by decide)]

theorem Unseen.asymmetry (p : Nat) : t.asymmetry p = s.asymmetry p := by
  unfold State.asymmetry
  rw [h.nat_ne _ (by decide), h.frame.port_kept rfl, h.same _ _ (by decide) (.inl (by decide))]

theorem Unseen.internalRx (p : Nat) : t.internalRx p = s.internalRx p := by
  unfold State.internalRx
  dsimp only
  rw [h.timingLane, h.frame.trim_kept rfl, h.bufferDelay, h.mode, h.frame.port_kept rfl, h.rsFec]

theorem Unseen.internalTx (p : Nat) : t.internalTx p = s.internalTx p := by
  unfold State.internalTx
  rw [h.sendingLane, h.frame.trim_kept rfl, h.rsFec]

theorem Unseen.presentS (p : Nat) : t.presentS p = s.presentS p := by
  unfold State.presentS State.delayS
  rw [h.portSynt, h.frame.tim_kept rfl]

theorem Unseen.splitDelay (p : Nat) (m : Int) : t.splitDelay p m = s.splitDelay p m := by
  unfold State.splitDelay State.delayAsymmetry
  rw [h.asymmetry]

theorem Unseen.servingDetector (l : Nat) : t.servingDetector l = s.servingDetector l := by
  unfold State.servingDetector
  rw [h.nat_ne _ (by decide)]

theorem Unseen.checkerCount {n sub : Nat} (hn : n < 0xD000) (hs : sub < 256) : t.checkerCount n sub = s.checkerCount n sub := by
  unfold State.checkerCount
  rw [h.frame.lane_kept rfl, h.nat_low (by unfold laneIndex; omega) _ hs, h.frame.now rfl]

theorem Unseen.fecCount {p sub : Nat} (hp : p < 0xCE00) (hs : sub < 256) : t.fecCount p sub = s.fecCount p sub := by
  unfold State.fecCount
  rw [h.frame.port_kept rfl, h.nat_low (by omega) _ hs, h.frame.now rfl]

theorem Unseen.viewLink {idx sub : Nat} (low : idx < 0x3000) (hs : sub < 256) : t.viewLink idx sub = s.viewLink idx sub := by
  unfold State.viewLink State.left
  simp only [h.frame.lane_kept rfl, h.frame.replica_kept rfl, h.frame.now rfl, h.nat_ne idx (j := 0x0B) (by decide), h.nat_ne idx (j := 0x02) (by decide),
    h.checkerCount (show idx - 0x2000 < 0xD000 by omega) hs, h.fixedDelay (show idx - 0x2100 < 0xCF00 by omega), h.fecCount (show idx - 0x2200 < 0xCE00 by omega) hs,
    h.servingDetector, h.timingLane, h.asymmetry, h.internalRx, h.internalTx, h.presentS, h.splitDelay]

/-! ### Tables, fabric and buffers -/

theorem Unseen.tbNow (k : Nat) : t.tbNow k = s.tbNow k := by
  unfold State.tbNow
  rw [h.frame.tb_kept rfl]

theorem Unseen.hasFence (l : FenceLevel) (i : Nat) : t.hasFence l i = s.hasFence l i := by
  unfold State.hasFence
  rw [h.frame.fences rfl]

theorem Unseen.alignmentStatus : t.alignmentStatus = s.alignmentStatus := by
  unfold State.alignmentStatus State.fabricRuns State.realigning State.regionFenced
  simp only [h.frame.start rfl, h.frame.tb_kept rfl, h.hasFence, h.frame.region_kept rfl]

theorem Unseen.poolFree (g : Nat) {k : Nat} (hk : k < 4) : t.poolFree g k = s.poolFree g k := by
  unfold State.poolFree State.poolSize
  rw [h.nat_ne _ (by omega), h.frame.region_kept rfl]

theorem Unseen.freeCells (g : Nat) : t.freeCells g = s.freeCells g := by
  unfold State.freeCells
  rw [h.poolFree _ (by decide), h.poolFree _ (by decide), h.poolFree _ (by decide), h.poolFree _ (by decide)]

theorem Unseen.queueStatus {p q : Nat} (low : queueIndex p q < 0xF000) : t.queueStatus p q = s.queueStatus p q := by
  unfold State.queueStatus State.gateOpen State.gateMask
  rw [h.nat_low low _ (by decide), h.nat_ne (0x2100 + p) (by decide), h.frame.eg_kept rfl, h.frame.queue_kept rfl]

theorem Unseen.viewFrames {idx sub : Nat} (low : idx < 0x6000) : t.viewFrames idx sub = s.viewFrames idx sub := by
  have place : queueIndex ((idx - 0x4100) / 32) ((idx - 0x4100) % 32) < 0xF000 := by unfold queueIndex; omega
  unfold State.viewFrames State.cycleInSecond State.cycleNumber State.hostOccupancy State.granule State.contractCycle
  simp only [h.frame.fdb rfl, h.tbNow, h.alignmentStatus, h.freeCells, h.hasFence, h.frame.region_kept rfl, h.queueStatus place, h.frame.contracts rfl,
    h.nat_ne 0x5000 (j := 0x01) (by decide)]

/-! ### Time bases and the hub -/

theorem Unseen.viewTime (idx sub : Nat) : t.viewTime idx sub = s.viewTime idx sub := by
  unfold State.viewTime State.tbStatus State.rate State.target State.alignError
  simp only [h.frame.tb_kept rfl, h.tbNow, h.frame.compare_kept rfl, h.frame.firefly_kept rfl, h.frame.now rfl, h.frame.ring rfl,
    h.same _ 0x0E (by decide) (.inl (by decide)), h.nat_ne _ (j := 0x02) (by decide), h.nat_ne _ (j := 0x03) (by decide), h.nat_ne _ (j := 0x04) (by decide),
    h.nat_ne _ (j := 0x10) (by decide)]

theorem Unseen.fenceMap (l : FenceLevel) : t.fenceMap l = s.fenceMap l := by
  unfold State.fenceMap
  simp only [h.hasFence]

theorem Unseen.clockState (c : Nat) : t.clockState c = s.clockState c := by
  unfold State.clockState State.clockSynth State.clockSource State.working State.isSafe State.runState State.synthRuns State.synthLocked
  simp only [h.frame.clock_kept rfl, h.frame.now rfl, h.frame.clockStarted rfl, h.bit_ne _ _ (j := 0x02) (by decide), h.nat_ne _ (j := 0x01) (by decide),
    h.nat_ne _ (j := 0x02) (by decide), h.nat_ne _ (j := 0x03) (by decide), h.nat_ne _ (j := 0x04) (by decide), h.nat_ne _ (j := 0x08) (by decide)]

theorem Unseen.twinStatus : t.twinStatus = s.twinStatus := by
  unfold State.twinStatus State.coversIn State.coversOut State.compareValid State.usableLanes
  simp only [h.frame.twin rfl, h.bit_ne _ _ (j := 0x0B) (by decide), h.nat_ne _ (j := 0x02) (by decide), h.nat_ne _ (j := 0x03) (by decide),
    h.nat_ne _ (j := 0x0C) (by decide)]

theorem Unseen.collectorStatus : t.collectorStatus = s.collectorStatus := by
  unfold State.collectorStatus
  rw [h.nat_low (by decide) _ (by decide), h.frame.firstFault rfl, h.frame.log rfl, h.frame.errN rfl, h.frame.windows rfl, h.frame.fences rfl]

theorem Unseen.slotPin (n : Nat) : t.slotPin n = s.slotPin n := by
  unfold State.slotPin
  simp only [h.nat_ne _ (j := 0x01) (by decide)]

theorem Unseen.timeQuality (k : Nat) {n : Nat} (hn : n < 0xE0) : t.timeQuality k n = s.timeQuality k n := by
  unfold State.timeQuality
  rw [h.slotPin, h.nat_ne _ (j := 0x0F) (by decide), h.nat_ne _ (j := 0x20 + n) (by omega)]

theorem Unseen.conditioned (k : Nat) : t.conditioned k = s.conditioned k := by
  unfold State.conditioned
  simp only [h.frame.now rfl, h.frame.frequency rfl, h.nat_ne _ (j := 0x02) (by decide)]

theorem Unseen.haltedEngines : t.haltedEngines = s.haltedEngines := by
  unfold State.haltedEngines
  simp only [h.frame.engine_kept rfl]

theorem Unseen.viewHub {idx sub : Nat} (low : idx < 0xF000) (hs : sub < 256) : t.viewHub idx sub = s.viewHub idx sub := by
  have noSession : ¬(0xF000 ≤ idx ∧ idx < 0xF008 ∧ sub = 0x05) := by omega
  unfold State.viewHub State.synthRuns State.debugState State.left
  simp only [h.slotPin, h.timeQuality _ (show sub - 0x20 < 0xE0 by omega), h.bit_ne _ _ (j := 0x02) (by decide), h.conditioned, h.clockState, h.twinStatus,
    h.frame.log rfl, h.frame.logRead rfl, h.collectorStatus, h.fenceMap, h.nat_ne _ (j := 0x01) (by decide), h.frame.security rfl, h.frame.now rfl,
    h.haltedEngines, noSession, if_false]

theorem Unseen.readNum (e : OdEntry) {idx sub : Nat} (low : idx < 0xF000) (hs : sub < 256) : t.readNum e idx sub = s.readNum e idx sub := by
  unfold State.readNum
  dsimp only
  by_cases link : idx < 0x3000
  · simp only [h.frame.now rfl, h.frame.start rfl, h.viewLink link hs, if_pos link, h.same idx sub hs (.inr low)]
  · by_cases frames : idx < 0x6000
    · simp only [h.frame.now rfl, h.frame.start rfl, if_neg link, h.viewFrames frames, if_pos frames, h.same idx sub hs (.inr low)]
    · simp only [h.frame.now rfl, h.frame.start rfl, if_neg link, if_neg frames, h.viewTime, h.viewHub low hs, h.same idx sub hs (.inr low)]

/-! ### Byte strings -/

theorem Unseen.tableBytes (idx : Nat) : t.tableBytes idx = s.tableBytes idx := by
  unfold State.tableBytes State.table
  simp only [h.frame.frer rfl, h.frame.gates rfl, h.frame.fdb rfl, h.frame.vlan rfl, h.frame.classifier rfl, h.frame.streams rfl, h.frame.portSets rfl,
    h.frame.contracts rfl]

theorem Unseen.fuseSummary : t.fuseSummary = s.fuseSummary := by
  unfold State.fuseSummary
  simp only [h.frame.security rfl, h.frame.blob_kept rfl, h.nat_ne _ (j := 0x03) (by decide), h.nat_ne _ (j := 0x04) (by decide)]

theorem Unseen.setting : t.setting = s.setting := by
  funext n
  unfold State.setting
  rw [h.frame.settings rfl]

theorem Unseen.viewBytes {idx : Nat} (low : idx < 0xF000) (sub : Nat) : t.viewBytes idx sub = s.viewBytes idx sub := by
  have noSession : ¬(0xF000 ≤ idx ∧ idx < 0xF008 ∧ sub = 0x04) := by omega
  unfold State.viewBytes State.safeBytes
  simp only [h.tableBytes, h.frame.region_kept rfl, h.frame.breaches rfl, h.frame.contractX rfl, h.frame.contractAt_kept rfl, h.frame.firstFault rfl,
    h.fenceMap, h.frame.safeRecord rfl, h.setting, h.frame.sourceCounts rfl, h.frame.overflow rfl, h.frame.security rfl, h.fuseSummary, noSession, if_false]

theorem Unseen.readBytes (e : OdEntry) {idx sub : Nat} (low : idx < 0xF000) (hs : sub < 256) : t.readBytes e idx sub = s.readBytes e idx sub := by
  unfold State.readBytes
  rw [h.viewBytes low, h.frame.blob_kept rfl, h.readNum e low hs]

end Unseen

theorem State.received_unseen (s : State) (rq : Request) : Unseen s (s.received rq) :=
  ⟨s.received_only rq, fun i j hj apart => s.received_same rq i j hj (by omega)⟩

/-! ## What a session holds stands as its request is received -/

section Held
variable (s : State) (rq : Request)

theorem State.received_held : ((s.received rq).session rq.session).held = (s.session rq.session).held ∧
    ((s.received rq).session rq.session).waiting = (s.session rq.session).waiting ∧ ((s.received rq).session rq.session).transfer = (s.session rq.session).transfer ∧
    ((s.received rq).session rq.session).snapshot = (s.session rq.session).snapshot := by
  rw [s.received_session]
  exact ⟨rfl, rfl, rfl, rfl⟩

theorem State.received_claims (n : Nat) : ((s.received rq).session n).claims = (s.session n).claims := by
  by_cases own : n = rq.session.val
  · rw [own, s.received_session]
  · rw [s.received_session_other rq own]

theorem State.received_staged (n : Nat) : ((s.received rq).session n).staged = (s.session n).staged := by
  by_cases own : n = rq.session.val
  · rw [own, s.received_session]
    rfl
  · rw [s.received_session_other rq own]

theorem State.received_stagedAll : (s.received rq).stagedAll = s.stagedAll := by
  unfold State.stagedAll
  simp only [s.received_staged rq]

theorem State.received_role : (s.received rq).sessionRole rq.session = s.sessionRole rq.session := by
  unfold State.sessionRole
  rw [(s.received_unseen rq).nat_ne _ (by decide)]

theorem State.received_heldIn (g idx sub : Nat) : (s.received rq).heldIn rq.session g idx sub = s.heldIn rq.session g idx sub := by
  unfold State.heldIn
  rw [(s.received_held rq).1]

theorem State.received_writeFault (idx sub : Nat) : (s.received rq).writeFault rq.session idx sub = s.writeFault rq.session idx sub := by
  have seen := s.received_unseen rq
  unfold State.writeFault State.claimed State.shadowInStep
  simp only [s.received_role rq, s.received_claims rq, seen.nat_ne _ (j := 0x01) (by decide), seen.nat_ne _ (j := 0x0C) (by decide)]

theorem State.received_segmentSize : (s.received rq).segmentSize rq.session = s.segmentSize rq.session := by
  unfold State.segmentSize
  rw [(s.received_unseen rq).nat_ne _ (by decide)]

end Held

/-! ## A request and its answer -/

section Answered
variable {s : State} {rq : Request}

/-- An act with an answer: the session has it, and holds what the act has left it. -/
theorem State.serve_answers (acts : s.acts rq) (q : Quest) (last : Nat) (act : Route → State → State × Option Reply) {u : State} {r : Reply}
    (answer : act (s.routeOf rq.session rq.arrival) (s.received rq) = (u, some r)) :
    ∃ o, (s.serve rq q last act).lastStatus = r.status ∧ (s.serve rq q last act).session rq.session =
        { u.session rq.session with outbox := o, responses := ((⟨rq.rid, r.status, r.detail, r.data, r.flags⟩ : Response) :: (u.session rq.session).responses).take 16 } ∧
      Only (partRegs ||| partSessions ||| partOutgoing ||| partLastStatus ||| partLastDetail) u (s.serve rq q last act) := by
  rw [State.serve_acts acts, answer]
  obtain ⟨o, session⟩ := u.respond_session rq.session rq.rid { q with route := s.routeOf rq.session rq.arrival } r
  exact ⟨o, rfl, session, u.respond_only_answer ..⟩

end Answered

/-! ### Reads -/

section Read
variable (s : State) {n idx sub : Nat}

theorem findObject_of_findEntry {e : OdEntry} (found : findEntry idx sub = some e) : (findObject idx).isNone = false := by
  unfold findEntry at found
  cases object : findObject idx with
  | none => rw [object] at found; exact nomatch found
  | some o => rfl

theorem State.readEntry_noObject (none : (findObject idx).isNone = true) : s.readEntry n idx sub 0 = (s, { status := 0x01 }) := if_pos none

theorem State.readEntry_noEntry (some : (findObject idx).isSome = true) (named : sub ≠ 0) (none : (findEntry idx sub).isNone = true) :
    s.readEntry n idx sub 0 = (s, { status := 0x02 }) := by
  unfold State.readEntry
  rw [if_neg (by rw [Option.isNone_eq_false_iff.mpr some]; decide), if_neg named, Option.isNone_iff_eq_none.mp none]

theorem State.readEntry_writeOnly {e : OdEntry} (named : sub ≠ 0) (found : findEntry idx sub = some e) (wo : e.acc = .wo) :
    s.readEntry n idx sub 0 = (s, { status := 0x03 }) := by
  unfold State.readEntry
  rw [if_neg (by rw [findObject_of_findEntry found]; decide), if_neg named, found]
  exact if_pos (by rw [wo]; rfl)

theorem State.readEntry_plain {e : OdEntry} (named : sub ≠ 0) (found : findEntry idx sub = some e) (readable : e.acc ≠ .wo) (plain : e.ty ≠ .domain) :
    s.readEntry n idx sub 0 = (s.readEffect e idx sub, { data := s.readBytes e idx sub }) := by
  unfold State.readEntry
  rw [if_neg (by rw [findObject_of_findEntry found]; decide), if_neg named, found]
  exact (if_neg (by simpa using readable)).trans (if_pos (by simpa using plain))

theorem State.readEntry_records {e : OdEntry} (named : sub ≠ 0) (found : findEntry idx sub = some e) (consumed : e.acc = .rc) (domain : e.ty = .domain) :
    s.readEntry n idx sub 0 = s.readRecords n idx := by
  unfold State.readEntry
  rw [if_neg (by rw [findObject_of_findEntry found]; decide), if_neg named, found]
  exact (if_neg (by rw [consumed]; decide)).trans ((if_neg (by rw [domain]; decide)).trans (if_pos (by rw [consumed]; rfl)))

end Read

section ReadRequest
variable {s : State} {rq : Request}

theorem exec_read (acts : s.acts rq) (index : BitVec 16) (sub : BitVec 8) {u : State} {r : Reply}
    (reads : (s.received rq).readEntry rq.session index.toNat sub.toNat 0 = (u, r)) :
    Runs (.read rq index sub 0) s fun t => ∃ o, t.lastStatus = r.status ∧ t.session rq.session =
        { u.session rq.session with outbox := o, responses := ((⟨rq.rid, r.status, r.detail, r.data, r.flags⟩ : Response) :: (u.session rq.session).responses).take 16 } ∧
      Only (partRegs ||| partSessions ||| partOutgoing ||| partLastStatus ||| partLastDetail) u t :=
  .of rfl (State.serve_answers acts _ _ _ (by rw [reads]))

end ReadRequest

/-! ### Writes into a group -/

section Write
variable (s : State) {n g idx sub : Nat} {bytes : List Byte}

theorem State.takeValue_plain {e : OdEntry} (found : findEntry idx sub = some e) (plain : e.ty ≠ .domain)
    (fits : (lengthFault e idx sub bytes.length).isNone = true) : s.takeValue n g idx sub 0 true true bytes true = (s, .ok (some bytes)) := by
  unfold State.takeValue
  rw [found]
  dsimp only
  rw [if_neg (by simpa using plain)]
  dsimp only
  rw [Option.isNone_iff_eq_none.mp fits]
  dsimp only
  rw [if_neg (by simp), if_neg (by simp)]

theorem State.hold_refused {r : Reply} (fault : s.writeFault n idx sub = some r) :
    ∃ u, s.hold n g idx sub 0 true true bytes true = (u, r) ∧ u.session n = s.session n := by
  refine ⟨(s.refusedWrite idx sub bytes r).1, ?_, ?_⟩
  · unfold State.hold
    rw [fault]
    rfl
  · unfold State.refusedWrite
    dsimp only
    split
    · rfl
    · rfl

/-- A value that passes is held in its group, in the place of an earlier one of its entry. -/
theorem State.hold_holds {e : OdEntry} (found : findEntry idx sub = some e) (plain : e.ty ≠ .domain) (fits : (lengthFault e idx sub bytes.length).isNone = true)
    (passes : s.writeFault n idx sub = none) (free : (s.session n).waiting = none) (only : s.heldIn n g idx sub = none)
    (own : (s.session n).staged + bytes.length ≤ 2097152) (all : s.stagedAll + bytes.length ≤ 4194304) :
    s.hold n g idx sub 0 true true bytes true = (s.setSession n { s.session n with
      held := (s.session n).held.filter (fun h => !(h.1 == g && h.2.index == idx && h.2.sub == sub)) ++ [(g, ⟨idx, sub, bytes⟩)] }, {}) := by
  have room : ∀ was, s.overStaging n (bytes.length - was) = false := fun was => decide_eq_false (by omega)
  unfold State.hold
  rw [passes]
  dsimp only
  rw [if_neg (by rw [free]; exact fun h => nomatch h), only]
  dsimp only
  rw [s.takeValue_plain found plain fits]
  dsimp only
  rw [room]
  rfl

theorem State.findEntry_of_passes (passes : s.writeFault n idx sub = none) : ∃ e, findEntry idx sub = some e := by
  unfold State.writeFault at passes
  cases found : findEntry idx sub with
  | some e => exact ⟨e, rfl⟩
  | none =>
    rw [found] at passes
    split_ifs at passes

end Write

/-! ### Claims -/

section Claims
variable (s : State) {n first last : Nat}

/-- No other session holds a part of the range. -/
theorem State.claim_takes (operates : roleCovers (s.sessionRole n) .operate = true) (rising : first ≤ last)
    (clear : (items 8).all (fun m => m == n || (s.session m).claims.all (fun c => decide (last < c.1 ∨ c.2 < first))) = true)
    (few : (s.session n).claims.length < 8) :
    s.claim n first last = (s.setSession n { s.session n with claims := (s.session n).claims ++ [(first, last)] }, {}) := by
  have none : (items 8).find? (fun m => m != n && (s.session m).claims.any (fun c => decide (c.1 ≤ last ∧ first ≤ c.2))) = none := by
    rw [List.find?_eq_none]
    intro m mem
    have apart := List.all_eq_true.mp clear m mem
    simp only [Bool.or_eq_true, beq_iff_eq, List.all_eq_true, decide_eq_true_eq] at apart
    simp only [Bool.and_eq_true, bne_iff_ne, List.any_eq_true, decide_eq_true_eq, not_and, not_exists]
    intro other c held low
    have := apart.resolve_left other c held
    omega
  unfold State.claim
  dsimp only
  rw [if_neg (by rw [operates]; decide), if_neg (by omega), none]
  exact if_neg (by omega)

theorem State.claim_meets (operates : roleCovers (s.sessionRole n) .operate = true) (rising : first ≤ last)
    (meets : (items 8).all (fun m => m == n || (s.session m).claims.all (fun c => decide (last < c.1 ∨ c.2 < first))) = false) :
    ∃ r, s.claim n first last = (s, r) ∧ r.status = 0x06 := by
  have some : ∃ m, (items 8).find? (fun m => m != n && (s.session m).claims.any (fun c => decide (c.1 ≤ last ∧ first ≤ c.2))) = some m := by
    rw [← Option.isSome_iff_exists, List.find?_isSome]
    obtain ⟨m, mem, held⟩ := List.all_eq_false.mp meets
    refine ⟨m, mem, ?_⟩
    simp only [Bool.or_eq_true, beq_iff_eq, not_or, Bool.not_eq_true, List.all_eq_false, decide_eq_true_eq] at held
    obtain ⟨other, c, held, part⟩ := held
    simp only [Bool.and_eq_true, bne_iff_ne, List.any_eq_true, decide_eq_true_eq]
    exact ⟨other, c, held, by omega⟩
  obtain ⟨m, found⟩ := some
  refine ⟨{ status := 0x06, detail := m }, ?_, rfl⟩
  unfold State.claim
  dsimp only
  rw [if_neg (by rw [operates]; decide), if_neg (by omega), found]

/-- A cut claim is at most two. -/
theorem cutClaim_length (c : Nat × Nat) : (cutClaim first last c).length ≤ 2 := by
  unfold cutClaim
  split_ifs <;> simp

theorem cutClaims_length (l : List (Nat × Nat)) : (l.flatMap (cutClaim first last)).length ≤ 2 * l.length := by
  induction l with
  | nil => simp
  | cons c l ih =>
    have := cutClaim_length (first := first) (last := last) c
    rw [List.flatMap_cons, List.length_append, List.length_cons]
    omega

/-- What is left of a claim lies below the range or above it. -/
theorem cutClaim_outside {c d : Nat × Nat} (mem : d ∈ cutClaim first last c) : d.2 < first ∨ last < d.1 := by
  unfold cutClaim at mem
  by_cases apart : last < c.1 ∨ c.2 < first
  · rw [if_pos apart, List.mem_singleton] at mem
    subst mem
    exact apart.symm
  · rw [if_neg apart, List.mem_append] at mem
    rcases mem with below | above
    · by_cases low : c.1 < first
      · rw [if_pos low, List.mem_singleton] at below
        subst below
        exact .inl (by dsimp only; omega)
      · rw [if_neg low] at below
        exact nomatch below
    · by_cases high : last < c.2
      · rw [if_pos high, List.mem_singleton] at above
        subst above
        exact .inr (by dsimp only; omega)
      · rw [if_neg high] at above
        exact nomatch above

/-- A release succeeds: of no range, or of one outside the claims, it changes nothing; else what is left of each claim is kept. -/
theorem State.release_releases (few : (s.session n).claims.length ≤ 4) : ∃ u, s.release n first last = (u, {}) ∧
    (last < first → u = s) ∧ (first ≤ last → ∀ c, c ∈ (u.session n).claims → c.2 < first ∨ last < c.1) := by
  by_cases none : last < first ∨ !(s.session n).claims.any (fun c => decide (c.1 ≤ last ∧ first ≤ c.2))
  · refine ⟨s, if_pos none, fun _ => rfl, fun rising c mem => ?_⟩
    have apart := none.resolve_left (by omega)
    simp only [Bool.not_eq_true', List.any_eq_false, decide_eq_true_eq] at apart
    have := apart c mem
    omega
  · have short := cutClaims_length (first := first) (last := last) (s.session n).claims
    refine ⟨_, (if_neg none).trans (if_neg (by omega)), fun back => absurd (.inl back) none, fun _ c mem => ?_⟩
    rw [State.session_setSession_same] at mem
    obtain ⟨d, -, part⟩ := List.mem_flatMap.mp mem
    exact cutClaim_outside part

end Claims

/-! ### Records -/

section Records
variable (s : State) (rq : Request)

theorem State.segmentSize_wide {n : Nat} (wide : s.nat (0xF000 + n) 0x02 = 2 ∨ s.nat (0xF000 + n) 0x02 = 3 → False) : s.segmentSize n = 1024 := if_neg wide

/-- As many fault records as a segment takes are read and are read then. -/
theorem State.readRecords_log (wide : s.nat (0xF000 + rq.session) 0x02 = 2 ∨ s.nat (0xF000 + rq.session) 0x02 = 3 → False) :
    ∃ u, (s.received rq).readRecords rq.session 0xA000 = (u, { data := ((s.log.drop s.logRead).take 64).flatMap Record.bytes }) ∧
      u.logRead = s.logRead + min 64 (s.log.length - s.logRead) ∧ u.log = s.log := by
  have frame := s.received_only rq
  refine ⟨{ s.received rq with logRead := s.logRead + ((s.log.drop s.logRead).take 64).length }, ?_, ?_, frame.log rfl⟩
  · unfold State.readRecords
    rw [s.received_segmentSize, s.segmentSize_wide wide, frame.log rfl, frame.logRead rfl]
    rfl
  · change s.logRead + ((s.log.drop s.logRead).take 64).length = _
    rw [List.length_take, List.length_drop]

/-- The capture ring gives its mark where records have been overwritten, and the records that a segment takes. -/
theorem State.readRecords_ring (wide : s.nat (0xF000 + rq.session) 0x02 = 2 ∨ s.nat (0xF000 + rq.session) 0x02 = 3 → False) :
    ∃ u d, (s.received rq).readRecords rq.session 0x6380 = (u, { data := d }) ∧ u.rewind = 0 ∧ u.ring = s.ring.drop (if s.rewind = 0 then 64 else 63) ∧
      (s.rewind = 0 → d = (s.ringBytes.take 64).flatten) := by
  have frame := s.received_only rq
  have reads : (s.received rq).readRecords rq.session 0x6380 = (((s.received rq).readRing 64).2, { data := ((s.received rq).readRing 64).1 }) := by
    unfold State.readRecords
    rw [s.received_segmentSize, s.segmentSize_wide wide]
    rfl
  by_cases whole : s.rewind = 0
  · have ring : (s.received rq).readRing 64 = (((s.received rq).ringBytes.take 64).flatten, { s.received rq with ring := (s.received rq).ring.drop 64 }) :=
      if_pos ((frame.rewind rfl).trans whole)
    have bytes : (s.received rq).ringBytes = s.ringBytes := by
      unfold State.ringBytes State.oldestSequence
      rw [frame.ring rfl, frame.ringSeq rfl]
    rw [reads, ring, bytes, if_pos whole]
    exact ⟨_, _, rfl, (frame.rewind rfl).trans whole, congrArg _ (frame.ring rfl), fun _ => rfl⟩
  · have ring : (s.received rq).readRing 64 = ((s.received rq).rewindMark ++ ((s.received rq).ringBytes.take 63).flatten,
        ({ s.received rq with ring := (s.received rq).ring.drop 63, rewind := 0 } : State).inc32 0x6380 0x03) :=
      if_neg fun h => whole ((frame.rewind rfl).symm.trans h)
    rw [reads, ring, if_neg whole]
    exact ⟨_, _, rfl, rfl, congrArg _ (frame.ring rfl), fun h => absurd h whole⟩

theorem faultRecords_entry : ∃ e, findEntry 0xA000 0x03 = some e ∧ e.acc = .rc ∧ e.ty = .domain := ⟨_, rfl, rfl, rfl⟩

theorem captureRing_entry : ∃ e, findEntry 0x6380 0x01 = some e ∧ e.acc = .rc ∧ e.ty = .domain := ⟨_, rfl, rfl, rfl⟩

end Records

/-- Settles O53: a request that acts has its act's answer, and leaves its session what the act has left it. -/
theorem requestsReadHoldAndClaim : Obligations.RequestsReadHoldAndClaim := by
  unfold Obligations.RequestsReadHoldAndClaim
  refine ⟨?_, ?_, ?_, ?_, ?_, ?_⟩
  · intro rq index sub s acts low named
    have sub0 : sub.toNat ≠ 0 := fun h => named (BitVec.eq_of_toNat_eq h)
    cases object : (findObject index.toNat).isNone with
    | true =>
      obtain ⟨t, run, o, status, -⟩ := exec_read acts index sub ((s.received rq).readEntry_noObject object)
      refine .of run ⟨fun _ => status, fun h => ?_, fun e found => ?_⟩
      · rw [Option.isNone_iff_eq_none.mp object] at h
        exact nomatch h
      · rw [findObject_of_findEntry found] at object
        exact nomatch object
    | false =>
      have some : (findObject index.toNat).isSome = true := Option.isNone_eq_false_iff.mp object
      cases found : findEntry index.toNat sub.toNat with
      | none =>
        obtain ⟨t, run, o, status, -⟩ := exec_read acts index sub ((s.received rq).readEntry_noEntry some sub0 (by rw [found]; rfl))
        exact .of run ⟨(nomatch ·), fun _ _ => status, fun _ h => (nomatch h)⟩
      | some e =>
        by_cases wo : e.acc = .wo
        · obtain ⟨t, run, o, status, -⟩ := exec_read acts index sub ((s.received rq).readEntry_writeOnly sub0 found wo)
          refine .of run ⟨(nomatch ·), fun _ h => (nomatch h), fun x same => ?_⟩
          obtain rfl : e = x := Option.some.inj same
          exact ⟨fun _ => status, fun h => absurd wo h⟩
        · by_cases plain : e.ty = .domain
          · obtain ⟨t, run, -⟩ := exec_read acts index sub (u := ((s.received rq).readEntry rq.session index.toNat sub.toNat 0).1)
              (r := ((s.received rq).readEntry rq.session index.toNat sub.toNat 0).2) rfl
            refine .of run ⟨(nomatch ·), fun _ h => (nomatch h), fun x same => ?_⟩
            obtain rfl : e = x := Option.some.inj same
            exact ⟨fun h => absurd h wo, fun _ h => absurd plain h⟩
          · obtain ⟨t, run, o, status, session, -⟩ := exec_read acts index sub ((s.received rq).readEntry_plain sub0 found wo plain)
            refine .of run ⟨(nomatch ·), fun _ h => (nomatch h), fun x same => ?_⟩
            obtain rfl : e = x := Option.some.inj same
            refine ⟨fun h => absurd h wo, fun _ _ => ⟨status, ?_⟩⟩
            rw [session, ← (s.received_unseen rq).readBytes e low sub.isLt]
            rfl
  · intro rq g index sub bytes s acts fit free only own all
    cases fault : s.writeFault rq.session index.toNat sub.toNat with
    | some r =>
      obtain ⟨u, held, kept⟩ := (s.received rq).hold_refused (g := g) (bytes := bytes) ((s.received_writeFault rq _ _).trans fault)
      obtain ⟨o, status, session, -⟩ := State.serve_answers acts { type := 6, index := index.toNat, sub := sub.toNat, group := g, offset := 0 } 0
        (fun _ t => ((t.hold rq.session g index.toNat sub.toNat 0 true true bytes true).1, some (t.hold rq.session g index.toNat sub.toNat 0 true true bytes true).2))
        (by rw [held])
      refine .of rfl ⟨fun x same => ?_, (nomatch ·)⟩
      obtain rfl : r = x := Option.some.inj same
      exact ⟨status, (congrArg SessionX.held session).trans ((congrArg SessionX.held kept).trans (s.received_held rq).1)⟩
    | none =>
      obtain ⟨e, found⟩ := s.findEntry_of_passes fault
      obtain ⟨plain, fits⟩ := fit e found
      have holds := (s.received rq).hold_holds (g := g) found plain fits ((s.received_writeFault rq _ _).trans fault) ((s.received_held rq).2.1.trans free)
        ((s.received_heldIn rq _ _ _).trans only) (by rw [s.received_staged rq]; exact own) (by rw [s.received_stagedAll rq]; exact all)
      obtain ⟨o, status, session, -⟩ := State.serve_answers acts { type := 6, index := index.toNat, sub := sub.toNat, group := g, offset := 0 } 0
        (fun _ t => ((t.hold rq.session g index.toNat sub.toNat 0 true true bytes true).1, some (t.hold rq.session g index.toNat sub.toNat 0 true true bytes true).2))
        (by rw [holds])
      refine .of rfl ⟨fun _ h => (nomatch h), fun _ => ⟨status, ?_⟩⟩
      refine (congrArg ((g.val, OdValue.mk index.toNat sub.toNat bytes) ∈ ·) (congrArg SessionX.held session)).mpr ?_
      rw [State.session_setSession_same]
      exact List.mem_append_right _ (List.mem_singleton_self _)
  · intro rq g s acts free
    have aborts : (s.received rq).abort rq.session g = ((s.received rq).setSession rq.session { (s.received rq).session rq.session with
        held := ((s.received rq).session rq.session).held.filter (fun h => h.1 != g.val)
        transfer := ((s.received rq).session rq.session).transfer.filter (fun x => x.1 != g.val) }, {}) :=
      if_neg (by rw [(s.received_held rq).2.1]; exact free)
    obtain ⟨o, status, session, -⟩ := State.serve_answers acts { type := 8, group := g } 0
      (fun _ t => ((t.abort rq.session g).1, some (t.abort rq.session g).2)) (by rw [aborts])
    refine .of rfl ⟨status, (congrArg SessionX.held session).trans ?_⟩
    rw [State.session_setSession_same]
    exact congrArg (List.filter _) (s.received_held rq).1
  · intro rq first last s acts operates rising
    have operates' : roleCovers ((s.received rq).sessionRole rq.session) .operate = true := by rw [s.received_role]; exact operates
    refine .of rfl ⟨fun clear few => ?_, fun meets => ?_⟩
    · have takes := (s.received rq).claim_takes operates' rising (by simp only [s.received_claims rq]; exact clear) (by rw [s.received_claims rq]; exact few)
      obtain ⟨o, status, session, -⟩ := State.serve_answers acts { type := 9, index := first.toNat } last.toNat
        (fun _ t => ((t.claim rq.session first.toNat last.toNat).1, some (t.claim rq.session first.toNat last.toNat).2)) (by rw [takes])
      refine ⟨status, (congrArg SessionX.claims session).trans ?_⟩
      rw [State.session_setSession_same]
      exact congrArg (· ++ [(first.toNat, last.toNat)]) (s.received_claims rq _)
    · obtain ⟨r, refused, six⟩ := (s.received rq).claim_meets operates' rising (by simp only [s.received_claims rq]; exact meets)
      obtain ⟨o, status, session, -⟩ := State.serve_answers acts { type := 9, index := first.toNat } last.toNat
        (fun _ t => ((t.claim rq.session first.toNat last.toNat).1, some (t.claim rq.session first.toNat last.toNat).2)) (by rw [refused])
      exact ⟨status.trans six, (congrArg SessionX.claims session).trans (s.received_claims rq _)⟩
  · intro rq first last s acts few
    obtain ⟨u, releases, nothing, outside⟩ := (s.received rq).release_releases (first := first.toNat) (last := last.toNat) (by rw [s.received_claims rq]; exact few)
    obtain ⟨o, status, session, -⟩ := State.serve_answers acts { type := 10, index := first.toNat } last.toNat
      (fun _ t => ((t.release rq.session first.toNat last.toNat).1, some (t.release rq.session first.toNat last.toNat).2)) (by rw [releases])
    have claims := congrArg SessionX.claims session
    refine .of rfl ⟨status, fun back => claims.trans ?_, fun rising c mem => outside rising c (claims ▸ mem)⟩
    rw [nothing back]
    exact s.received_claims rq _
  · intro rq s acts wide
    refine ⟨?_, ?_⟩
    · obtain ⟨e, found, consumed, domain⟩ := faultRecords_entry
      obtain ⟨u, read, count, log⟩ := s.readRecords_log rq wide
      obtain ⟨o, status, session, frame⟩ := State.serve_answers acts { type := 4, index := 0xA000, sub := 0x03 } 0
        (fun _ t => ((t.readEntry rq.session 0xA000 0x03 0).1, some (t.readEntry rq.session 0xA000 0x03 0).2))
        (by rw [(s.received rq).readEntry_records (by decide) found consumed domain, read])
      refine .of rfl ⟨status, (frame.logRead rfl).trans count, (frame.log rfl).trans log, ?_⟩
      exact congrArg (fun x : SessionX => x.responses.head?.map (·.data)) session
    · obtain ⟨e, found, consumed, domain⟩ := captureRing_entry
      obtain ⟨u, d, read, rewind, ring, data⟩ := s.readRecords_ring rq wide
      obtain ⟨o, status, session, frame⟩ := State.serve_answers acts { type := 4, index := 0x6380, sub := 0x01 } 0
        (fun _ t => ((t.readEntry rq.session 0x6380 0x01 0).1, some (t.readEntry rq.session 0x6380 0x01 0).2))
        (by rw [(s.received rq).readEntry_records (by decide) found consumed domain, read])
      refine .of rfl ⟨status, (frame.rewind rfl).trans rewind, (frame.ring rfl).trans ring, fun whole => ?_⟩
      exact (congrArg (fun x : SessionX => x.responses.head?.map (·.data)) session).trans (congrArg some (data whole))

end Sys2Proof.Machine

namespace Sys2Proof.Machine

/-! ## Hub channels at a frame boundary (02 R52 to R55) -/

/-! ### What the channel's other work leaves of the way to the hub

The frames from the hub, and the cells that a frame gives back, write the region's pools and queues and the rings' data areas from the hub. They leave the
entries of the rings, the frame that a channel carries and the rings' side toward the hub. -/

/-- The entries but those of the rings. -/
def unringedEntry (i _j : Nat) : Prop := i < 0xB100 ∨ 0xB140 ≤ i

/-- A ring without its direction from the hub. -/
def RingX.upSide (x : RingX) : RingX := { x with fromHub := [], writing := none, bindWaitDown := none, boundDown := none }

/-- The second state has of the way to the hub what the first has. -/
structure State.KeepsUp (s t : State) : Prop where
  entries : SameEntries unringedEntry s t
  hubUp : ∀ g, (t.region g).hubUp = (s.region g).hubUp
  rings : ∀ i, (t.ringX i).upSide = (s.ringX i).upSide

namespace State.KeepsUp
variable {s t u : State}

theorem refl (s : State) : s.KeepsUp s := ⟨.refl _ s, fun _ => rfl, fun _ => rfl⟩

theorem trans (a : s.KeepsUp t) (b : t.KeepsUp u) : s.KeepsUp u :=
  ⟨a.entries.trans b.entries, fun g => (b.hubUp g).trans (a.hubUp g), fun i => (b.rings i).trans (a.rings i)⟩

theorem ite {c : Prop} [Decidable c] (a : s.KeepsUp t) (b : s.KeepsUp u) : s.KeepsUp (if c then t else u) := by
  split_ifs
  · exact a
  · exact b

theorem foldl {α : Type} {f : State → α → State} (l : List α) (step : ∀ a : State, ∀ x ∈ l, a.KeepsUp (f a x)) : s.KeepsUp (l.foldl f s) :=
  List.foldlRecOn (motive := s.KeepsUp) l f (refl s) fun a kept x mem => kept.trans (step a x mem)

theorem setReg {i j : Nat} {v : Int} (a : s.KeepsUp t) (hj : j < 256) (own : unringedEntry i j) : s.KeepsUp (t.setReg i j v) :=
  ⟨a.entries.setReg hj own, a.hubUp, a.rings⟩

theorem setRegion {g : Nat} {r : RegionX} (a : s.KeepsUp t) (same : r.hubUp = (t.region g).hubUp) : s.KeepsUp (t.setRegion g r) := by
  refine ⟨a.entries.of_regs rfl, fun k => ?_, a.rings⟩
  rw [State.region_setRegion]
  split_ifs with h
  · rw [same, h]; exact a.hubUp k
  · exact a.hubUp k

theorem setRingX {i : Nat} {x : RingX} (a : s.KeepsUp t) (same : x.upSide = (t.ringX i).upSide) : s.KeepsUp (t.setRingX i x) := by
  refine ⟨a.entries.of_regs rfl, a.hubUp, fun k => ?_⟩
  rw [State.ringX_setRingX]
  split_ifs with h
  · rw [same, h]; exact a.rings k
  · exact a.rings k

theorem of_only {F : Nat} (frame : Only F s t) (regs : F.testBit 1 = false) (regions : F.testBit 12 = false) (rings : F.testBit 83 = false) : s.KeepsUp t :=
  ⟨(SameEntries.refl _ s).of_regs (frame.regs regs), fun g => congrArg RegionX.hubUp (frame.region_kept regions g),
    fun i => congrArg RingX.upSide (frame.ringX_kept rings i)⟩

theorem toHub (a : s.KeepsUp t) (i : Nat) : (t.ringX i).toHub = (s.ringX i).toHub :=
  have same := congrArg RingX.toHub (a.rings i)
  same

theorem rebind (a : s.KeepsUp t) (i : Nat) : (t.ringX i).rebind = (s.ringX i).rebind :=
  have same := congrArg RingX.rebind (a.rings i)
  same

theorem bindWait (a : s.KeepsUp t) (i : Nat) : (t.ringX i).bindWait = (s.ringX i).bindWait :=
  have same := congrArg RingX.bindWait (a.rings i)
  same

end State.KeepsUp

section Region
variable (s : State) {g : Nat} (hg : g < 8)
include hg

theorem unringedEntry_region {j : Nat} : unringedEntry (0x4000 + g) j := .inl (by omega)

theorem State.judgePool_keepsUp : s.KeepsUp (s.judgePool g) := by
  have own := fun j => unringedEntry_region (j := j) hg
  have high : s.KeepsUp ((s.putBit (0x4000 + g) 0x09 0 true).putBit (0x4000 + g) 0x09 1 true) :=
    ((State.KeepsUp.refl s).setReg (by decide) (own _)).setReg (by decide) (own _)
  exact .ite ((high.setReg (by decide) (own _)).trans (.of_only (State.raise_only _ _ _ (.refl 0x140000000000000000 _) rfl) rfl rfl rfl))
    (.ite ((State.KeepsUp.refl s).setReg (by decide) (own _)) (.refl s))

theorem State.usePool_keepsUp (k n : Nat) : s.KeepsUp (s.usePool g k n) := by
  have used : s.KeepsUp (s.setRegion g { s.region g with used := (s.region g).used.set k n }) := (State.KeepsUp.refl s).setRegion rfl
  exact .ite (used.trans (State.judgePool_keepsUp _ hg)) used

theorem State.returnCell_keepsUp (k : Nat) : s.KeepsUp (s.returnCell g k) := .ite (s.usePool_keepsUp hg ..) (.refl s)

theorem State.releaseCells_keepsUp (c : Copy) : s.KeepsUp (s.releaseCells g c) :=
  .ite (.refl s) (.foldl _ fun a _ _ => a.returnCell_keepsUp hg _)

theorem State.removeHostCopies_keepsUp (f : Copy → Bool) : s.KeepsUp (s.removeHostCopies g f) :=
  .ite (.refl s) (((State.KeepsUp.refl s).setRegion (r := { s.region g with hostQueue := (s.region g).hostQueue.filter (fun c => !f c) }) rfl).trans
    (.foldl _ fun a _ _ => a.releaseCells_keepsUp hg _))

theorem State.drawCell_keepsUp {pools : List Nat} {k : Nat} {u : State} (drawn : s.drawCell g pools = some (k, u)) : s.KeepsUp u := by
  induction pools with
  | nil => exact nomatch drawn
  | cons x xs ih =>
    unfold State.drawCell at drawn
    split at drawn
    · obtain ⟨rfl, rfl⟩ := Prod.mk.inj (Option.some.inj drawn)
      exact s.usePool_keepsUp hg ..
    · exact ih drawn

theorem State.countSpoilt_keepsUp (c : Copy) : s.KeepsUp (s.countSpoilt g c) := by
  unfold State.countSpoilt
  extract_lets clean r u v
  have cleaned : s.KeepsUp v := ((State.KeepsUp.refl s).setRegion (g := g) (r := { r with hostQueue := r.hostQueue.map clean }) rfl).trans
    ⟨(SameEntries.refl _ u).of_regs rfl, fun _ => rfl, fun _ => rfl⟩
  exact .ite (.refl s) (cleaned.setReg (by decide) (unringedEntry_region hg))

theorem State.readWords_keepsUp (serial : Nat) : s.KeepsUp (s.readWords g serial) := (State.KeepsUp.refl s).setReg (by decide) (unringedEntry_region hg)

omit hg in
theorem State.offerCell_keepsUp (x : Cell) : s.KeepsUp (s.offerCell g x) :=
  .ite ((State.KeepsUp.refl s).setReg (by decide) (.inl (by decide)))
    (.ite ((State.KeepsUp.refl s).setRegion rfl) ((State.KeepsUp.refl s).setRegion rfl))

theorem State.offerAll_keepsUp (f : RxFrame) (x : Cell) : s.KeepsUp (s.offerAll g f x) :=
  .ite (.foldl _ fun a _ _ => a.offerCell_keepsUp _) ((State.KeepsUp.foldl _ fun a _ _ => a.offerCell_keepsUp _).trans (State.returnCell_keepsUp _ hg _))

theorem State.hubFrame_keepsUp (d : Descriptor) (payload : List Byte) : s.KeepsUp (s.hubFrame g d payload) := by
  unfold State.hubFrame
  extract_lets n u f parts count step
  have start : s.KeepsUp u := ⟨(SameEntries.refl _ s).of_regs rfl, fun _ => rfl, fun _ => rfl⟩
  refine .ite (.refl s) (.ite start (start.trans ?_))
  refine List.foldlRecOn (motive := fun a : State × Bool => u.KeepsUp a.1) _ _ (.refl u) fun a same i _ => ?_
  simp only [step]
  split
  · exact same
  · split
    · have counted : u.KeepsUp (a.1.inc64 (0x4000 + g) 0x0B) := same.setReg (by decide) (unringedEntry_region hg)
      split
      · exact counted
      · exact counted.trans (State.offerAll_keepsUp _ hg _ _)
    next drawn => exact (same.trans (a.1.drawCell_keepsUp hg drawn)).trans (State.offerAll_keepsUp _ hg _ _)

omit hg in
theorem State.resumeWriting_keepsUp (i : Nat) : s.KeepsUp (s.resumeWriting i) := by
  unfold State.resumeWriting
  dsimp only
  split
  · exact .refl s
  · exact .ite ((State.KeepsUp.refl s).setRingX rfl) (.refl s)

omit hg in
theorem State.takeDown_keepsUp (cls i : Nat) : s.KeepsUp (s.takeDown g cls i) := by
  unfold State.takeDown
  extract_lets r u x
  have served : s.KeepsUp u := (State.KeepsUp.refl s).setRegion rfl
  have freed : s.KeepsUp (u.setRingX i { x with
      fromHub := x.fromHub.drop 1, boundDown := (x.bindWaitDown).orElse (fun _ => x.boundDown), bindWaitDown := none }) := served.setRingX rfl
  exact freed.trans (State.resumeWriting_keepsUp _ i)

theorem State.serveDown_keepsUp : s.KeepsUp (s.serveDown g) := by
  unfold State.serveDown
  extract_lets pick
  clear_value pick
  split
  · exact .refl s
  · split
    · exact .refl s
    next cls i _ f _ _ =>
      have taken := s.takeDown_keepsUp (g := g) cls i
      have counted : s.KeepsUp ((s.takeDown g cls i).countDiscarded 1) := taken.setReg (by decide) (.inr (by decide))
      have begun : s.KeepsUp ((s.takeDown g cls i).spendHub g f.beats) := taken.setRegion rfl
      exact .ite counted (.ite (.refl s) (begun.trans (State.hubFrame_keepsUp _ hg _ _)))

theorem State.hubBoundaryDown_keepsUp : s.KeepsUp (s.hubBoundaryDown g) :=
  ((State.KeepsUp.refl s).setRegion (g := g) (r := { s.region g with hubDown := 0 }) rfl).trans (.foldl _ fun a _ _ => a.serveDown_keepsUp hg)

omit hg in
/-- Where no frame of the hub waits, the boundary gives the channel's credits back alone. -/
theorem State.hubBoundaryDown_quiet (quiet : ∀ i, i < 64 → (s.ringX i).fromHub = [] ∧ (s.ringX i).writing = none) :
    s.hubBoundaryDown g = s.setRegion g { s.region g with hubDown := 0 } := by
  have idle : (items 64).foldl (fun n i => n + (s.ringX i).fromHub.length + ofBool (s.ringX i).writing.isSome) 0 = 0 :=
    List.foldlRecOn (motive := (· = 0)) _ _ rfl fun n zero i mem => by
      obtain ⟨empty, free⟩ := quiet i (List.mem_range.1 mem)
      rw [zero, empty, free]
      rfl
  have none : (s.setRegion g { s.region g with hubDown := 0 }).serveAllDown g =
      (items ((items 64).foldl (fun n i => n + (s.ringX i).fromHub.length + ofBool (s.ringX i).writing.isSome) 0)).foldl (fun a _ => a.serveDown g)
        (s.setRegion g { s.region g with hubDown := 0 }) := rfl
  rw [State.hubBoundaryDown, none, idle]
  rfl

/-! ### The next frame toward the hub -/

/-- The class and the ring that the channel serves next. -/
def State.hubPick (s : State) (g : Nat) : Option (Nat × Nat) :=
  match s.nextRing g true with
  | some i => some (1, i)
  | none => (s.nextRing g false).map (fun i => (0, i))

/-- The frame of a ring has left the host queue. -/
def State.leaveHost (s : State) (g i : Nat) (c : Copy) : State :=
  ((s.readWords g c.serial).countSpoilt g c).removeHostCopies g (fun d => d.sameFrame c && d.desc.destination == i)

omit hg in
theorem State.takeHub_eq (n : Nat) : s.takeHub g (n + 1) = match s.hubPick g with
    | none => s
    | some (cls, i) => match s.waiting g i with
      | none => s
      | some c => if c.spoiltCells ≠ 0 then (s.leaveHost g i c).takeHub g n else (s.leaveHost g i c).setRegion g { (s.leaveHost g i c).region g with
          lastRing := if i < 64 then ((s.leaveHost g i c).region g).lastRing.set cls i else ((s.leaveHost g i c).region g).lastRing
          hubUp := some c } := rfl

theorem State.leaveHost_keepsUp (i : Nat) (c : Copy) : s.KeepsUp (s.leaveHost g i c) :=
  ((s.readWords_keepsUp hg _).trans (State.countSpoilt_keepsUp _ hg _)).trans (State.removeHostCopies_keepsUp _ hg _)

theorem State.takeHub_entries (n : Nat) : SameEntries unringedEntry s (s.takeHub g n) := by
  induction n generalizing s with
  | zero => exact .refl _ s
  | succ n ih =>
    rw [State.takeHub_eq]
    split
    · exact .refl _ s
    · split
      · exact .refl _ s
      · exact .ite ((s.leaveHost_keepsUp hg _ _).entries.trans (ih _)) ((s.leaveHost_keepsUp hg _ _).entries.of_regs rfl)

omit hg in
theorem State.beginHub_rings (i : Nat) : (s.beginHub g).ringX i = s.ringX i :=
  (State.beginHub_only s g (.refl 0x140000000000001802 s) rfl).ringX_kept rfl i

omit hg in
/-- Without a frame that the channel may take it takes none. -/
theorem State.beginHub_idle (none : s.hubPick g = none) : s.beginHub g = s := by
  unfold State.beginHub
  cases (s.region g).hostQueue.length with
  | zero => rfl
  | succ n => rw [State.takeHub_eq, none]

omit hg in
/-- A channel that may take a sound frame carries it. -/
theorem State.beginHub_takes {cls i : Nat} {c : Copy} (pick : s.hubPick g = some (cls, i)) (waits : s.waiting g i = some c) (sound : c.spoiltCells = 0) :
    ((s.beginHub g).region g).hubUp = some c := by
  unfold State.beginHub
  cases length : (s.region g).hostQueue.length with
  | zero => exact absurd (List.mem_of_find?_eq_some waits) (by rw [List.length_eq_zero_iff.1 length]; exact List.not_mem_nil)
  | succ n =>
    rw [State.takeHub_eq, pick]
    dsimp only
    rw [waits]
    dsimp only
    rw [if_neg (not_not.2 sound), State.region_setRegion_same]

omit hg in
theorem State.waiting_destination {i : Nat} {c : Copy} (waits : s.waiting g i = some c) : c.desc.destination = i := by
  have found := List.find?_some waits
  rw [Bool.and_eq_true, beq_iff_eq] at found
  exact found.1

end Region

/-! ### Which ring is next, from what it depends on -/

section Next
variable {s t : State} {g : Nat}

/-- A ring's first whole frame has room there. -/
def State.servable (s : State) (g i : Nat) : Bool := (s.waiting g i).any (s.ringRoom i)

/-- The destinations of a class in the order of service. -/
def State.hubOrder (s : State) (g : Nat) (time : Bool) : List Nat :=
  let order := ((items 64).map (fun j => ((s.region g).lastRing.getD (if time then 1 else 0) 0 + 1 + j) % 64)).filter (fun i => s.timeRing i == time)
  if time then order else order ++ [127]

theorem State.nextRing_eq (s : State) (g : Nat) (time : Bool) : s.nextRing g time = (s.hubOrder g time).find? (s.servable g) := by
  have same : (fun i => match s.waiting g i with | some c => s.ringRoom i c | none => false) = s.servable g := by
    funext i
    unfold State.servable
    cases s.waiting g i <;> rfl
  rw [← same]
  rfl

theorem State.hubOrder_congr (region : t.region g = s.region g) (class' : ∀ i, t.timeRing i = s.timeRing i) (time : Bool) :
    t.hubOrder g time = s.hubOrder g time := by
  unfold State.hubOrder
  simp only [region, class']

theorem State.nextRing_congr (region : t.region g = s.region g) (class' : ∀ i, t.timeRing i = s.timeRing i) (room : ∀ i, t.ringRoom i = s.ringRoom i)
    (time : Bool) : t.nextRing g time = s.nextRing g time := by
  have serves : t.servable g = s.servable g := by
    funext i
    unfold State.servable State.waiting
    rw [room, region]
  rw [State.nextRing_eq, State.nextRing_eq, State.hubOrder_congr region class', serves]

/-- Less room in the rings, and what had no next ring has none. -/
theorem State.nextRing_none (queue : (t.region g).hostQueue = (s.region g).hostQueue) (last : (t.region g).lastRing = (s.region g).lastRing)
    (class' : ∀ i, t.timeRing i = s.timeRing i) (room : ∀ i c, t.ringRoom i c = true → s.ringRoom i c = true) {time : Bool}
    (without : s.nextRing g time = none) : t.nextRing g time = none := by
  have order : t.hubOrder g time = s.hubOrder g time := by
    unfold State.hubOrder
    simp only [last, class']
  rw [State.nextRing_eq, List.find?_eq_none] at without ⊢
  rw [order]
  intro i mem serves
  refine without i mem ?_
  unfold State.servable State.waiting at serves ⊢
  rw [queue] at serves
  rw [Option.any_eq_true] at serves ⊢
  obtain ⟨c, waits, fits⟩ := serves
  exact ⟨c, waits, room i c fits⟩

/-- The ring of class TIME that is next is one of the 64. -/
theorem State.nextRing_time {i : Nat} (next : s.nextRing g true = some i) : i < 64 := by
  rw [State.nextRing_eq] at next
  have mem := List.mem_of_find?_eq_some next
  unfold State.hubOrder at mem
  rw [if_pos rfl] at mem
  obtain ⟨j, -, rfl⟩ := List.mem_map.1 (List.mem_of_mem_filter mem)
  exact Nat.mod_lt _ (by decide)

end Next

/-! ### The frame that has come through -/

section Place
variable (s : State) {c : Copy} {g : Nat}

/-- A frame as it stands in its ring: without pool, with the thread bound now. -/
def State.placed (s : State) (c : Copy) : Copy :=
  { c with cells := c.cells.map (fun y => { y with pool := 4 }), thread := s.ringThread c.desc.destination }

theorem State.toCoverBuffer_unringed (c : Copy) : SameEntries unringedEntry s (s.toCoverBuffer c) :=
  .ite ((SameEntries.refl _ s).setReg (by decide) (.inl (by decide))) ((SameEntries.refl _ s).of_regs rfl)

theorem State.placeInRing_entries (c : Copy) : SameEntries unringedEntry s (s.placeInRing c) := by
  unfold State.placeInRing
  extract_lets i x d
  exact .ite (s.toCoverBuffer_unringed c) (SameEntries.trans ((SameEntries.refl _ s).of_regs rfl)
    ((State.sendEvent_lost _ d.thread 0 i).mono fun _ _ h => .inl (by omega)))

theorem State.placeInRing_ringX (c : Copy) {k : Nat} (hk : k < 64) : (s.placeInRing c).ringX k =
    if c.desc.destination = k then { s.ringX k with toHub := (s.ringX k).toHub ++ [s.placed c] } else s.ringX k := by
  unfold State.placeInRing
  extract_lets i x d
  split_ifs with twin here here
  · omega
  · exact (State.toCoverBuffer_only s c (.refl 0x20000000000000002 s) rfl).ringX_kept rfl k
  · subst here
    rw [(State.sendEvent_only _ d.thread 0 i (.refl 0x400000000000000000002 _) rfl).ringX_kept rfl, State.ringX_setRingX, if_pos rfl]
    rfl
  · rw [(State.sendEvent_only _ d.thread 0 i (.refl 0x400000000000000000002 _) rfl).ringX_kept rfl, State.ringX_setRingX, if_neg here]

theorem State.completeHub_idle (idle : (s.region g).hubUp = none) : s.completeHub g = s := by
  unfold State.completeHub
  rw [idle]

theorem State.completeHub_carried (carries : (s.region g).hubUp = some c) :
    s.completeHub g = (s.setRegion g { s.region g with hubUp := none }).placeInRing c := by
  unfold State.completeHub
  rw [carries]

theorem State.completeHub_entries (g : Nat) : SameEntries unringedEntry s (s.completeHub g) := by
  cases up : (s.region g).hubUp with
  | none => rw [s.completeHub_idle up]; exact .refl _ s
  | some c =>
    rw [s.completeHub_carried up]
    exact SameEntries.trans ((SameEntries.refl _ s).of_regs rfl) (State.placeInRing_entries _ c)

/-- The ring of the frame that has come through holds one more; of the others, and of the rings' bindings, nothing changes. -/
theorem State.completeHub_ringX (carries : (s.region g).hubUp = some c) {k : Nat} (hk : k < 64) : (s.completeHub g).ringX k =
    if c.desc.destination = k then { s.ringX k with toHub := (s.ringX k).toHub ++ [s.placed c] } else s.ringX k := by
  rw [s.completeHub_carried carries, State.placeInRing_ringX _ c hk]
  rfl

theorem State.completeHub_bindings (g : Nat) {k : Nat} (hk : k < 64) :
    ((s.completeHub g).ringX k).rebind = (s.ringX k).rebind ∧ ((s.completeHub g).ringX k).bindWait = (s.ringX k).bindWait := by
  cases up : (s.region g).hubUp with
  | none => rw [s.completeHub_idle up]; exact ⟨rfl, rfl⟩
  | some c => rw [s.completeHub_ringX up hk]; split_ifs <;> exact ⟨rfl, rfl⟩

theorem State.completeHub_region (carries : (s.region g).hubUp = some c) :
    (s.completeHub g).region g = { s.region g with hubUp := none } := by
  rw [s.completeHub_carried carries, (State.placeInRing_only _ c (.refl 0xc00020000000000000002 _) rfl).region_kept rfl, State.region_setRegion_same]

end Place

/-! ### The bindings at the boundary -/

/-- A ring at its frame boundary: no rebinding waits, and the thread binding that waited is in force. -/
def RingX.atBoundary (x : RingX) : RingX := { x with rebind := none, bound := (x.bindWait).orElse (fun _ => x.bound), bindWait := none }

section Boundary
variable (s : State) (g i : Nat)

theorem State.ringBoundary_ringX (k : Nat) :
    (s.ringBoundary g i).ringX k = if i = k ∧ s.carrier i = g then (s.ringX k).atBoundary else s.ringX k := by
  unfold State.ringBoundary
  extract_lets x u
  have same : u.ringX k = s.ringX k := by
    simp only [u]
    split <;> rfl
  by_cases carried : s.carrier i = g
  · rw [if_neg (not_not.2 carried), State.ringX_setRingX]
    by_cases here : i = k
    · rw [if_pos here, if_pos ⟨here, carried⟩, ← here]
      rfl
    · rw [if_neg here, if_neg (fun h => here h.1), same]
  · rw [if_pos carried, if_neg (fun h => carried h.2)]

theorem State.ringBoundary_entries : SameEntries (fun k j => k = 0xB100 + i ∧ j = 0x06) s (s.ringBoundary g i) := by
  unfold State.ringBoundary
  extract_lets x u
  have moved : SameEntries (fun k j => k = 0xB100 + i ∧ j = 0x06) s u := by
    simp only [u]
    split
    · exact (SameEntries.refl _ s).setNat (by decide) ⟨rfl, rfl⟩
    · exact .refl _ s
  exact .ite (.refl _ s) (moved.of_regs rfl)

theorem State.ringBoundary_carrier (carried : s.carrier i = g) : (s.ringBoundary g i).carrier i = ((s.ringX i).rebind).getD g := by
  unfold State.ringBoundary
  extract_lets x u
  rw [if_neg (not_not.2 carried)]
  have moved : u.carrier i = x.rebind.getD g := by
    simp only [u]
    cases waits : x.rebind with
    | none => exact carried
    | some r =>
      unfold State.carrier
      dsimp only
      rw [State.setNat, State.nat_setReg_at _ _ (by decide) (by decide), if_pos ⟨rfl, rfl⟩]
      rfl
  exact moved

theorem State.ringBoundary_carrier_other {k : Nat} (apart : i ≠ k) : (s.ringBoundary g i).carrier k = s.carrier k :=
  (s.ringBoundary_entries g i).nat (by decide) (by omega)

/-- Every ring that the channel carries is at its frame boundary. -/
def State.ringBoundaries (s : State) (g : Nat) : State := (items 64).foldl (fun a i => a.ringBoundary g i) s

theorem State.ringBoundaries_takes {k : Nat} (hk : k < 64) (carried : s.carrier k = g) : (s.ringBoundaries g).carrier k = ((s.ringX k).rebind).getD g ∧
    ((s.ringBoundaries g).ringX k).rebind = none ∧ ((s.ringBoundaries g).ringX k).bindWait = none := by
  refine foldl_once (Before := fun a : State => a.carrier k = g ∧ a.ringX k = s.ringX k)
    (After := fun a : State => a.carrier k = ((s.ringX k).rebind).getD g ∧ (a.ringX k).rebind = none ∧ (a.ringX k).bindWait = none)
    List.nodup_range (List.mem_range.2 hk) ?_ ?_ ?_ ⟨carried, rfl⟩
  · rintro a ⟨here, same⟩
    rw [a.ringBoundary_carrier g k here, a.ringBoundary_ringX, if_pos ⟨rfl, here⟩, same]
    exact ⟨rfl, rfl, rfl⟩
  · rintro a y apart ⟨here, same⟩
    rw [a.ringBoundary_carrier_other g y apart, a.ringBoundary_ringX, if_neg (fun h => apart h.1)]
    exact ⟨here, same⟩
  · rintro a y apart ⟨here, same⟩
    rw [a.ringBoundary_carrier_other g y apart, a.ringBoundary_ringX, if_neg (fun h => apart h.1)]
    exact ⟨here, same⟩

/-- The boundary leaves the frames of every ring. -/
theorem State.ringBoundaries_frames (k : Nat) : ((s.ringBoundaries g).ringX k).toHub = (s.ringX k).toHub ∧
    ((s.ringBoundaries g).ringX k).fromHub = (s.ringX k).fromHub ∧ ((s.ringBoundaries g).ringX k).writing = (s.ringX k).writing :=
  List.foldlRecOn (motive := fun a : State => (a.ringX k).toHub = (s.ringX k).toHub ∧ (a.ringX k).fromHub = (s.ringX k).fromHub ∧
    (a.ringX k).writing = (s.ringX k).writing) _ _ ⟨rfl, rfl, rfl⟩ fun a kept i _ => by
      rw [a.ringBoundary_ringX]
      split_ifs
      · exact kept
      · exact kept

theorem State.ringBoundaries_entries : SameEntries (fun _ j => j = 0x06) s (s.ringBoundaries g) :=
  .foldl _ fun a i _ => (a.ringBoundary_entries g i).mono fun _ _ h => h.2

theorem State.ringBoundaries_region (k : Nat) : (s.ringBoundaries g).region k = s.region k :=
  (Only.foldl (.refl 0x800000000000000000002 s) fun a i => State.ringBoundary_only a g i (.refl 0x800000000000000000002 a) rfl).region_kept rfl k

theorem State.ringBoundaries_timeRing (k : Nat) : (s.ringBoundaries g).timeRing k = s.timeRing k := by
  unfold State.timeRing
  rw [(s.ringBoundaries_entries g).nat (by decide) (by decide)]

theorem State.ringBoundaries_room (k : Nat) : (s.ringBoundaries g).ringRoom k = s.ringRoom k := by
  funext c
  unfold State.ringRoom RingX.inUse
  rw [(s.ringBoundaries_entries g).nat (by decide) (by decide), (s.ringBoundaries_frames g k).1]

theorem State.ringBoundaries_next (time : Bool) : (s.ringBoundaries g).nextRing g time = s.nextRing g time :=
  State.nextRing_congr (s.ringBoundaries_region g g) (s.ringBoundaries_timeRing g) (s.ringBoundaries_room g) time

end Boundary
/-! ### The channel's turn -/

/-- The channel at its frame boundary: what it carries is in its ring, the bindings are in force, and an idle channel has carried one frame. -/
def State.atBoundary (s : State) (g : Nat) : State :=
  if (s.region g).hubUp.isNone then (((s.completeHub g).ringBoundaries g).beginHub g).completeHub g else (s.completeHub g).ringBoundaries g

/-- The turn of a channel: its boundary, its next frame and the way from the hub. -/
def State.hubTurn (s : State) (g : Nat) : State := ((s.atBoundary g).beginHub g).hubBoundaryDown g

/-- A packet boundary on the hub side's crossing writes the crossings alone. -/
theorem State.closePacket_hub (s : State) : ∃ x, s.closePacket 32 = { s with crossings := x } := by
  unfold State.closePacket State.completeFlush
  dsimp only
  rw [if_neg (by decide : ¬(24 ≤ 32 ∧ 32 < 32))]
  split_ifs
  · exact ⟨_, rfl⟩
  · exact ⟨_, rfl⟩
  · exact ⟨s.crossings, rfl⟩

theorem exec_hubChannelFrameBoundary {g : RegionId} {s : State} (live : s.regionFenced g = false) (awake : s.isSafe = false) :
    ∃ x, exec (.hubChannelFrameBoundary g []) s = .next (({ s with crossings := x } : State).hubTurn g) := by
  obtain ⟨x, closed⟩ := s.closePacket_hub
  refine ⟨x, ?_⟩
  change execHubChannelFrameBoundary g [] s = _
  unfold execHubChannelFrameBoundary
  rw [List.foldl_nil, closed]
  exact if_neg (by
    rintro (fenced | safe)
    · exact absurd (live.symm.trans fenced) (by decide)
    · exact absurd (awake.symm.trans safe) (by decide))

theorem State.ringX_setRegion (s : State) (g : Nat) (r : RegionX) (k : Nat) : (s.setRegion g r).ringX k = s.ringX k := rfl

section Turn
variable (s : State) {g : Nat} (hg : g < 8)

theorem State.atBoundary_idle (idle : (s.region g).hubUp = none) : s.atBoundary g = ((s.ringBoundaries g).beginHub g).completeHub g := by
  rw [State.atBoundary, s.completeHub_idle idle, idle]
  exact if_pos rfl

theorem State.atBoundary_carried {c : Copy} (carries : (s.region g).hubUp = some c) : s.atBoundary g = (s.completeHub g).ringBoundaries g := by
  rw [State.atBoundary, carries]
  exact if_neg Bool.false_ne_true

include hg

theorem State.hubTurn_entries : SameEntries unringedEntry (s.atBoundary g) (s.hubTurn g) :=
  (State.takeHub_entries _ hg _).trans (State.hubBoundaryDown_keepsUp _ hg).entries

theorem State.hubTurn_toHub (k : Nat) : ((s.hubTurn g).ringX k).toHub = ((s.atBoundary g).ringX k).toHub := by
  rw [State.hubTurn, (State.hubBoundaryDown_keepsUp _ hg).toHub, State.beginHub_rings]

/-- The rings of the channel have taken the bindings that waited. -/
theorem State.atBoundary_takes {k : Nat} (hk : k < 64) (carried : s.carrier k = g) : (s.atBoundary g).carrier k = ((s.ringX k).rebind).getD g ∧
    ((s.atBoundary g).ringX k).rebind = none ∧ ((s.atBoundary g).ringX k).bindWait = none := by
  have here : (s.completeHub g).carrier k = g := ((s.completeHub_entries g).nat (by decide) (by unfold unringedEntry; omega)).trans carried
  have takes := State.ringBoundaries_takes _ g hk here
  rw [(s.completeHub_bindings g hk).1] at takes
  obtain ⟨moved, rebound, bound⟩ := takes
  unfold State.atBoundary
  split_ifs
  swap
  · exact ⟨moved, rebound, bound⟩
  have begun := ((State.takeHub_entries _ hg _).trans (State.completeHub_entries (((s.completeHub g).ringBoundaries g).beginHub g) g))
  refine ⟨(begun.nat (by decide) (by unfold unringedEntry; omega)).trans moved, ?_⟩
  rw [(State.completeHub_bindings _ g hk).1, (State.completeHub_bindings _ g hk).2, State.beginHub_rings]
  exact ⟨rebound, bound⟩

theorem State.hubTurn_takes {k : Nat} (hk : k < 64) (carried : s.carrier k = g) : (s.hubTurn g).carrier k = ((s.ringX k).rebind).getD g ∧
    ((s.hubTurn g).ringX k).rebind = none ∧ ((s.hubTurn g).ringX k).bindWait = none := by
  obtain ⟨moved, rebound, bound⟩ := s.atBoundary_takes hg hk carried
  have keeps := State.hubBoundaryDown_keepsUp ((s.atBoundary g).beginHub g) hg
  refine ⟨((s.hubTurn_entries hg).nat (by decide) (by unfold unringedEntry; omega)).trans moved, ?_⟩
  rw [State.hubTurn, keeps.rebind, keeps.bindWait, State.beginHub_rings]
  exact ⟨rebound, bound⟩

/-- The frame that the channel carried is in its ring. -/
theorem State.hubTurn_places {c : Copy} (carries : (s.region g).hubUp = some c) {k : Nat} (hk : k < 64) : ((s.hubTurn g).ringX k).toHub =
    if c.desc.destination = k then (s.ringX k).toHub ++ [s.placed c] else (s.ringX k).toHub := by
  rw [s.hubTurn_toHub hg, s.atBoundary_carried carries, (State.ringBoundaries_frames _ g k).1, s.completeHub_ringX carries hk]
  split_ifs <;> rfl

/-- The frame that an idle channel takes is in its ring. -/
theorem State.hubTurn_serves (idle : (s.region g).hubUp = none) {cls i : Nat} {c : Copy} (pick : s.hubPick g = some (cls, i))
    (waits : s.waiting g i = some c) (sound : c.spoiltCells = 0) {k : Nat} (hk : k < 64) :
    ∃ d, ((s.hubTurn g).ringX k).toHub = if i = k then (s.ringX k).toHub ++ [d] else (s.ringX k).toHub := by
  have picked : (s.ringBoundaries g).hubPick g = some (cls, i) := by
    rw [← pick]
    unfold State.hubPick
    rw [s.ringBoundaries_next, s.ringBoundaries_next]
  have queued : (s.ringBoundaries g).waiting g i = some c := by
    unfold State.waiting
    rw [s.ringBoundaries_region]
    exact waits
  have carries := State.beginHub_takes _ picked queued sound
  refine ⟨((s.ringBoundaries g).beginHub g).placed c, ?_⟩
  rw [s.hubTurn_toHub hg, s.atBoundary_idle idle, State.completeHub_ringX _ carries hk, State.beginHub_rings, s.waiting_destination waits]
  split_ifs
  · rw [← (s.ringBoundaries_frames g k).1]
  · exact (s.ringBoundaries_frames g k).1

omit hg in
/-- A ring takes no more where it holds one more frame. -/
theorem State.completeHub_room {c : Copy} (carries : (s.region g).hubUp = some c) (i : Nat) (d : Copy) (room : (s.completeHub g).ringRoom i d = true) :
    s.ringRoom i d = true := by
  unfold State.ringRoom at room ⊢
  by_cases twin : 64 ≤ i
  · simp [twin]
  · rw [(s.completeHub_entries g).nat (by decide) (by unfold unringedEntry; omega), s.completeHub_ringX carries (Nat.not_le.1 twin)] at room
    simp only [twin, decide_false, Bool.false_or, decide_eq_true_eq] at room ⊢
    refine Nat.le_trans (Nat.add_le_add_right ?_ _) room
    split_ifs
    · unfold RingX.inUse
      rw [List.foldl_append]
      exact Nat.le_add_right _ _
    · exact Nat.le_refl _

/-- With no next frame the channel carries none. -/
theorem State.hubTurn_free {c : Copy} (carries : (s.region g).hubUp = some c) (time : s.nextRing g true = none) (general : s.nextRing g false = none) :
    ((s.hubTurn g).region g).hubUp = none := by
  have region := s.completeHub_region carries
  have next : ∀ class', s.nextRing g class' = none → ((s.completeHub g).ringBoundaries g).nextRing g class' = none := fun class' none => by
    rw [State.ringBoundaries_next]
    refine State.nextRing_none (by rw [region]) (by rw [region]) (fun i => ?_) (fun i d => s.completeHub_room carries i d) none
    unfold State.timeRing
    by_cases ring : i < 64
    · rw [(s.completeHub_entries g).nat (by decide) (by unfold unringedEntry; omega)]
    · rw [decide_eq_false ring, Bool.false_and, Bool.false_and]
  have idle : ((s.completeHub g).ringBoundaries g).hubPick g = none := by
    unfold State.hubPick
    rw [next true time, next false general]
    rfl
  rw [State.hubTurn, (State.hubBoundaryDown_keepsUp _ hg).hubUp, s.atBoundary_carried carries, State.beginHub_idle _ idle, State.ringBoundaries_region, region]

omit hg in
/-- An idle channel with nothing to carry in either direction has its credits back. -/
theorem State.hubTurn_quiet (idle : (s.region g).hubUp = none) (time : s.nextRing g true = none) (general : s.nextRing g false = none)
    (quiet : ∀ i, i < 64 → (s.ringX i).fromHub = [] ∧ (s.ringX i).writing = none) :
    s.hubTurn g = (s.ringBoundaries g).setRegion g { s.region g with hubDown := 0 } := by
  have pick : (s.ringBoundaries g).hubPick g = none := by
    unfold State.hubPick
    rw [s.ringBoundaries_next, s.ringBoundaries_next, time, general]
    rfl
  have same : s.atBoundary g = s.ringBoundaries g := by
    rw [s.atBoundary_idle idle, State.beginHub_idle _ pick, State.completeHub_idle _ (by rw [s.ringBoundaries_region]; exact idle)]
  rw [State.hubTurn, same, State.beginHub_idle _ pick, State.hubBoundaryDown_quiet, s.ringBoundaries_region]
  intro i hi
  obtain ⟨-, fromHub, writing⟩ := s.ringBoundaries_frames g i
  rw [fromHub, writing]
  exact quiet i hi

end Turn

/-- Settles O55: the boundary places the frame that was carried, then has the bindings in force, and an idle channel carries the frame of the ring that is
next, a TIME ring's before any other; where nothing waits the credits alone come back. -/
theorem hubChannelCarriesTimeFirst : Obligations.HubChannelCarriesTimeFirst := by
  unfold Obligations.HubChannelCarriesTimeFirst
  intro g s live awake
  obtain ⟨x, run⟩ := exec_hubChannelFrameBoundary live awake
  refine .of run ?_
  let u : State := { s with crossings := x }
  refine ⟨fun i hi carried => u.hubTurn_takes g.isLt hi carried, fun c carries ring => ⟨?_, fun k hk apart => ?_, fun time general => u.hubTurn_free g.isLt carries time general⟩,
    fun idle i next c waits sound => ?_, fun idle time i next hi c waits sound => ?_, fun idle time general quiet => ?_⟩
  · rw [u.hubTurn_places g.isLt carries ring, if_pos rfl]
    exact List.length_append
  · rw [u.hubTurn_places g.isLt carries hk, if_neg apart.symm]
    rfl
  · have pick : u.hubPick g = some (1, i) := by
      unfold State.hubPick
      rw [show u.nextRing g true = some i from next]
    have serves := fun k hk => u.hubTurn_serves g.isLt idle pick waits sound (k := k) hk
    refine ⟨?_, fun k hk apart => ?_⟩
    · obtain ⟨d, placed⟩ := serves i (State.nextRing_time next)
      rw [placed, if_pos rfl]
      exact List.length_append
    · obtain ⟨d, placed⟩ := serves k hk
      rw [placed, if_neg apart.symm]
      rfl
  · have pick : u.hubPick g = some (0, i) := by
      unfold State.hubPick
      rw [show u.nextRing g true = none from time, show u.nextRing g false = some i from next]
      rfl
    obtain ⟨d, placed⟩ := u.hubTurn_serves g.isLt idle pick waits sound hi
    rw [placed, if_pos rfl]
    exact List.length_append
  · have turn := u.hubTurn_quiet idle time general quiet
    refine ⟨?_, fun k apart => ?_, fun k _ => ?_⟩
    · rw [turn, State.region_setRegion_same]
      rfl
    · rw [turn, State.region_setRegion, if_neg apart.symm, u.ringBoundaries_region]
      rfl
    · rw [turn, State.ringX_setRegion]
      exact (u.ringBoundaries_frames g k).1

end Sys2Proof.Machine

namespace Sys2Proof.Machine

/-! ## Commits that touch nothing but their own entries (16 R418)

Most values of a commit have an effect beyond their entry: a port, a queue, a table, an output. Those of `apartEntry` have none, so that a commit of them
leaves what `State.putAll` makes of it and then acts by its commands alone. -/

/-- Entries whose commit has no effect beyond them: of the time bases but bindings and thresholds, of security beyond the credentials, and of the
starts. -/
def apartEntry (i j : Nat) : Prop := (0x6000 ≤ i ∧ i < 0x6100 ∧ j ≠ 0x03 ∧ j ≠ 0x0C) ∨ (0xC030 ≤ i ∧ i < 0xE000)

/-- Every value of a commit belongs to such an entry. -/
def ApartValues (l : List OdValue) : Prop := ∀ v ∈ l, apartEntry v.index v.sub

theorem apartEntry.high {i j : Nat} (own : apartEntry i j) : 0x6000 ≤ i := by unfold apartEntry at own; omega

theorem ApartValues.high {l : List OdValue} (apart : ApartValues l) : HighValues l := fun v mem => by
  have := (apart v mem).high
  omega

theorem ApartValues.ordered {l : List OdValue} (apart : ApartValues l) : ApartValues (inOrder l) := fun v mem => apart v (mem_inOrder mem)

section Values
variable {l : List OdValue} (apart : ApartValues l)
include apart

/-- No value of the commit lies where a test of the indices and subindices of the others looks. -/
theorem ApartValues.filter_nil {P : OdValue → Bool} (off : ∀ v, P v = true → ¬apartEntry v.index v.sub) : l.filter P = [] :=
  List.filter_eq_nil_iff.mpr fun v mem hit => off v hit (apart v mem)

theorem ApartValues.any_false {P : OdValue → Bool} (off : ∀ v, P v = true → ¬apartEntry v.index v.sub) : l.any P = false :=
  List.any_eq_false.mpr fun v mem hit => off v hit (apart v mem)

theorem ApartValues.any_index {i : Nat} (off : ∀ j, ¬apartEntry i j) : l.any (fun v => v.index == i) = false :=
  apart.any_false fun v hit => by rw [eq_of_beq hit]; exact off _

theorem ApartValues.valueOf_none {i : Nat} (off : ∀ j, ¬apartEntry i j) (j : Nat) : valueOf l i j = none :=
  List.find?_eq_none.mpr fun v mem hit => by
    rw [Bool.and_eq_true] at hit
    exact off v.sub (eq_of_beq hit.1 ▸ apart v mem)

end Values

/-- The second state differs from the first in such entries alone. -/
structure State.ApartFrom (s t : State) : Prop where
  entries : SameEntries apartEntry s t
  frame : Only partRegs s t

namespace State.ApartFrom
variable {s t : State} (d : s.ApartFrom t)
include d

theorem low {i j : Nat} (hj : j < 256) (low : i < 0x6000) : t.nat i j = s.nat i j := d.entries.nat hj fun own => absurd own.high (by omega)

theorem mode {p : Nat} (hp : p < 96) : t.mode p = s.mode p := d.low (by decide) (by omega)

theorem ownPort (p : Nat) : t.ownPort p = s.ownPort p := by
  unfold State.ownPort
  by_cases high : 96 ≤ p
  · rw [if_pos high, if_pos high]
  · rw [d.mode (by omega : 4 * (p / 4) < 96), d.mode (by omega : 2 * (p / 2) < 96), d.mode (Nat.not_le.1 high)]

theorem table (i : Nat) : t.table i = s.table i := by
  unfold State.table
  rw [d.frame.fdb rfl, d.frame.vlan rfl, d.frame.classifier rfl, d.frame.streams rfl, d.frame.portSets rfl, d.frame.contracts rfl]

end State.ApartFrom

/-! ### The effects, one by one -/

section Effects
variable {s t : State} {l : List OdValue} (d : s.ApartFrom t) (apart : ApartValues l)

theorem foldl_fixed {α β : Type} {f : α → β → α} {a : α} (l : List β) (fixed : ∀ x ∈ l, f a x = a) : l.foldl f a = a :=
  List.foldlRecOn (motive := (· = a)) l f rfl fun _ same x mem => by rw [same]; exact fixed x mem

include d in
theorem State.ApartFrom.freePorts (l : List OdValue) : State.freePorts s t l = t :=
  foldl_fixed _ fun p _ => if_neg (by
    dsimp only
    rw [d.ownPort, Bool.and_not_self, Bool.false_and]
    exact Bool.false_ne_true)

include apart in
theorem ApartValues.changedContracts (s t : State) : changedContracts s t l = [] := by
  unfold Machine.changedContracts
  rw [apart.valueOf_none fun j own => by unfold apartEntry at own; omega]

include apart in
theorem ApartValues.armsIn (s : State) : s.armsIn l = [] :=
  List.filter_eq_nil_iff.mpr fun c mem => by
    have := List.mem_range.mp mem
    have off : ∀ j, ¬apartEntry (0x6100 + c) j := fun j own => by unfold apartEntry at own; omega
    rw [apart.valueOf_none off, apart.any_index off, Bool.and_false]
    exact Bool.false_ne_true

include apart in
theorem ApartValues.disarmsIn : disarmsIn l = [] :=
  List.filter_eq_nil_iff.mpr fun c mem => by
    have := List.mem_range.mp mem
    rw [apart.valueOf_none fun j own => by unfold apartEntry at own; omega]
    exact Bool.false_ne_true

include apart in
theorem ApartValues.fireDue (s : State) : s.fireDue l = s := by
  have none : (items 32).filter (fun c => l.any (fun v => v.index == 0x6100 + c)) = [] :=
    List.filter_eq_nil_iff.mpr fun c mem => by
      have := List.mem_range.mp mem
      rw [apart.any_index fun j own => by unfold apartEntry at own; omega]
      exact Bool.false_ne_true
  unfold State.fireDue
  rw [none]
  rfl

include apart in
/-- The commit's candidate is what its values make of the state. -/
theorem ApartValues.candidate (d : s.ApartFrom (s.putAll l).1) : s.candidate l = s.putAll l := by
  unfold State.candidate
  generalize s.putAll l = y at *
  obtain ⟨c, bad⟩ := y
  dsimp only
  rw [d.freePorts, apart.high.portsChanged, apart.changedContracts]
  rfl

include apart in
theorem ApartValues.readmitChanged (s t : State) : State.readmitChanged s t l = t :=
  foldl_fixed _ fun i _ => if_neg (by
    rw [apart.any_false fun v hit own => ?_]
    · exact Bool.false_ne_true
    · have high := own.high
      rw [Bool.and_eq_true] at hit
      unfold State.usesItem at hit
      extract_lets port at hit
      rw [if_neg (by omega), if_neg (by omega), if_neg (by omega), if_neg (by omega), if_neg (by omega), if_neg (by omega)] at hit
      exact Bool.false_ne_true hit.2)

include d in
theorem State.ApartFrom.tableEffects (l : List OdValue) : State.tableEffects s t l = t := foldl_fixed _ fun _ _ => if_pos (d.table _).symm

include d apart in
theorem State.ApartFrom.portEffects : State.portEffects s t l = t := by
  have judged : (items 96).filter (fun p => ([] : List Nat).any (fun q => q / 4 == p / 4) || (valueOf l (0x2100 + p) 0x14).isSome) = [] :=
    List.filter_eq_nil_iff.mpr fun p mem => by
      rw [apart.high.valueOf_low (by have := List.mem_range.mp mem; omega)]
      exact Bool.false_ne_true
  have cages : (items 24).filter (fun c => (items 4).any (fun i => s.nat (0x2100 + (4 * c + i)) 0x08 != t.nat (0x2100 + (4 * c + i)) 0x08)) = [] :=
    List.filter_eq_nil_iff.mpr fun c hc => by
      rw [Bool.not_eq_true, List.any_eq_false]
      intro i hi
      have := List.mem_range.mp hc
      have := List.mem_range.mp hi
      rw [d.low (by decide) (by omega), bne_self_eq_false]
      exact Bool.false_ne_true
  unfold State.portEffects
  rw [apart.high.portsChanged]
  simp only [judged, cages, List.foldl_nil, List.isEmpty_nil, if_true]

include apart in
theorem ApartValues.associationEffects (t : State) : t.associationEffects l = t := by
  unfold State.associationEffects
  rw [apart.filter_nil fun v hit own => by have := own.high; rw [decide_eq_true_eq] at hit; omega]
  rfl

include apart in
theorem ApartValues.bufferEffects (t : State) : t.bufferEffects l = t := by
  unfold State.bufferEffects
  rw [apart.filter_nil fun v hit own => by have := own.high; rw [decide_eq_true_eq] at hit; omega,
    apart.filter_nil fun v hit own => by have := own.high; rw [decide_eq_true_eq] at hit; omega,
    apart.filter_nil fun v hit own => by have := own.high; rw [decide_eq_true_eq] at hit; omega]
  rfl

include apart in
theorem ApartValues.fireflyEffects (s t : State) : State.fireflyEffects s t l = t :=
  foldl_fixed _ fun f mem => by
    have := List.mem_range.mp mem
    dsimp only
    rw [apart.any_index fun j own => by unfold apartEntry at own; omega]
    exact if_pos rfl

include apart in
theorem ApartValues.slotEffects (s t : State) : State.slotEffects s t l = t := by
  unfold State.slotEffects
  rw [apart.any_false fun v hit own => by unfold apartEntry at own; rw [decide_eq_true_eq] at hit; omega]
  exact if_pos rfl

include d apart in
theorem State.ApartFrom.clockEffects : State.clockEffects s t l = t := by
  have still : (items 8).foldl (fun a k => if s.nat (0x7040 + k) 0x03 != a.nat (0x7040 + k) 0x03 then a.relockBackup k else a) t = t :=
    foldl_fixed _ fun k mem => by
      have := List.mem_range.mp mem
      rw [d.entries.nat (by decide) fun own => by unfold apartEntry at own; omega, bne_self_eq_false]
      exact if_neg Bool.false_ne_true
  unfold State.clockEffects
  rw [still, apart.any_false fun v hit own => by unfold apartEntry at own; rw [decide_eq_true_eq] at hit; omega]
  exact if_pos rfl

include apart in
theorem ApartValues.standbyEffects (t : State) : t.standbyEffects l = t := by
  unfold State.standbyEffects
  rw [apart.filter_nil fun v hit own => by unfold apartEntry at own; rw [decide_eq_true_eq] at hit; omega]
  rfl

include d apart in
theorem State.ApartFrom.hubEffects : State.hubEffects s t l = t := by
  have limit : s.nat 0x9000 0x0A = t.nat 0x9000 0x0A := (d.entries.nat (by decide) fun own => by unfold apartEntry at own; omega).symm
  unfold State.hubEffects
  rw [if_pos limit]
  extract_lets u a b
  have ha : a = t := foldl_fixed _ fun e mem => by
    have := List.mem_range.mp mem
    exact if_pos (d.entries.nat (by decide) fun own => by unfold apartEntry at own; omega).symm
  clear_value a
  subst ha
  have hb : b = a := foldl_fixed _ fun i mem => by
    have := List.mem_range.mp mem
    have same : a.nat (0xB100 + i) 0x03 = s.nat (0xB100 + i) 0x03 := d.entries.nat (by decide) fun own => by unfold apartEntry at own; omega
    exact if_pos same.symm
  rw [apart.filter_nil fun v hit own => by unfold apartEntry at own; rw [decide_eq_true_eq] at hit; omega, hb]
  rfl

include d in
theorem State.ApartFrom.credentialEffects : State.credentialEffects s t = t :=
  foldl_fixed _ fun _ _ => if_pos (d.frame.blob_kept rfl _ _).symm

include apart in
theorem ApartValues.armEffects (s t : State) : State.armEffects s t l = t := by
  unfold State.armEffects
  rw [apart.armsIn, apart.disarmsIn]
  rfl

include apart in
theorem ApartValues.dropLearns (t : State) : t.dropLearns l = t := by
  unfold State.dropLearns
  rw [List.filter_eq_self.mpr fun k _ => ?_]
  unfold writesKey
  rw [apart.any_false fun v hit own => by
    have := own.high
    rw [Bool.and_eq_true, beq_iff_eq] at hit
    omega]
  rfl

end Effects

/-- A commit of such values acts by its commands alone. -/
theorem ApartValues.putCommit {s : State} {l : List OdValue} (apart : ApartValues l) (d : s.ApartFrom (s.putAll (inOrder l)).1) (cmd : State → OdValue → State) :
    s.putCommit l cmd = ((inOrder l).filter (fun v => isCommand v.index v.sub && !(decide (0x6100 ≤ v.index ∧ v.index < 0x6120)))).foldl cmd
      (s.putAll (inOrder l)).1 := by
  have ordered := apart.ordered
  unfold State.putCommit
  extract_lets o
  change ApartValues o at ordered
  change s.ApartFrom (s.putAll o).1 at d
  rw [ordered.candidate d]
  generalize s.putAll (inOrder l) = y at *
  obtain ⟨c, bad⟩ := y
  dsimp only at d ⊢
  rw [ordered.changedContracts]
  simp only [State.admitChanged, State.admitAll]
  rw [ordered.readmitChanged, d.tableEffects, ordered.dropLearns, ordered.high.laneEffects, d.portEffects ordered, ordered.associationEffects,
    ordered.bufferEffects, ordered.fireflyEffects, ordered.slotEffects, d.clockEffects ordered, ordered.standbyEffects, d.hubEffects ordered,
    d.credentialEffects, ordered.armEffects, ordered.high.testEffects]

/-- The device's own commit of such values is judged value by value on what they make of the state. -/
theorem ApartValues.judgeCommit {s : State} {l : List OdValue} (apart : ApartValues l) (d : s.ApartFrom (s.putAll (inOrder l)).1) (w : Writer)
    (cmd : State → OdValue → State) :
    s.judgeCommit w l cmd = (inOrder l).findSome? (s.judgeValue (s.putAll (inOrder l)).1 (s.putAll (inOrder l)).2 none w cmd) := by
  have ordered := apart.ordered
  unfold State.judgeCommit State.firstFailing
  extract_lets o
  change ApartValues o at ordered
  change s.ApartFrom (s.putAll o).1 at d
  rw [ordered.candidate d]
  change Option.map _ _ = o.findSome? (s.judgeValue (s.putAll o).1 (s.putAll o).2 none w cmd)
  generalize s.putAll o = y
  obtain ⟨c, bad⟩ := y
  dsimp only
  rw [ordered.changedContracts]
  simp only [State.admitChanged, State.admitAll]
  rw [List.map_findSome?]
  congr 1
  funext v
  exact (Option.map_map ..).trans (Option.map_id' ..)

/-- What such a value is judged by, where it could be put and breaks no rule. -/
theorem State.judgeValue_apart {s c : State} {v : OdValue} (own : apartEntry v.index v.sub) {w : Writer} (inner : w.isHost = false)
    (rule : s.ruleOf c (decide (w.role = .service)) v.index v.sub v.bytes = none) (cmd : State → OdValue → State) :
    s.judgeValue c [] none w cmd v =
      if isStep v.index v.sub then s.stepBar v else if isCommand v.index v.sub then commandBar cmd c v else none := by
  have high := own.high
  have writer : s.writerBar w v.index v.sub = none := by
    unfold State.writerBar
    rw [inner]
    rfl
  have table : s.tableBar c v.index v.sub v.bytes = none := by
    have code : tableCode v.index = 6 := by
      unfold tableCode
      rw [if_neg (by omega), if_neg (by omega), if_neg (by omega), if_neg (by omega), if_neg (by omega), if_neg (by omega)]
    unfold State.tableBar
    exact if_neg (by omega)
  have uses : c.usesItem v.index v.sub = fun _ => false := by
    funext k
    unfold State.usesItem
    extract_lets port
    rw [if_neg (by omega), if_neg (by omega), if_neg (by omega), if_neg (by omega), if_neg (by omega), if_neg (by omega)]
  have readmit : s.readmitBar c v.index v.sub = none := by
    unfold State.readmitBar State.readmit
    rw [uses]
    extract_lets k
    rw [List.find?_eq_none.mpr fun i _ => by rw [Bool.false_and]; exact Bool.false_ne_true]
    exact ite_self _
  unfold State.judgeValue
  rw [writer, table, rule, readmit, if_neg (by omega : v.index ≠ 0x5010)]
  rfl

end Sys2Proof.Machine

namespace Sys2Proof.Machine

/-! ## A set of a time base (09 R235) -/

/-! ### Numbers as bytes -/

theorem toBytes_length (n v : Nat) : (toBytes n v).length = n := by
  induction n with
  | zero => rfl
  | succ n ih => rw [toBytes, List.length_cons, ih]

theorem foldl_toBytes (n v a : Nat) : (toBytes n v).foldl (fun a b => a * 256 + b.toNat) a = a * 256 ^ n + v % 256 ^ n := by
  induction n generalizing a with
  | zero => simp [toBytes, Nat.mod_one]
  | succ n ih =>
    have split : v % 256 ^ (n + 1) = v % 256 ^ n + 256 ^ n * (v / 256 ^ n % 256) := Nat.mod_pow_succ
    rw [toBytes, List.foldl_cons, ih, BitVec.toNat_ofNat, split, pow_succ 256 n, show (2 : Nat) ^ 8 = 256 from rfl]
    ring

theorem ofBytes_toBytes {n v : Nat} (fits : v < 256 ^ n) : ofBytes (toBytes n v) = v := by
  unfold ofBytes
  rw [foldl_toBytes, Nat.mod_eq_of_lt fits, Nat.zero_mul, Nat.zero_add]

theorem numAt_front (a b : List Byte) : numAt (a ++ b) 0 a.length = ofBytes a := by
  unfold numAt slice
  rw [List.drop_zero, List.take_left]

theorem numAt_behind (a b : List Byte) : numAt (a ++ b) a.length b.length = ofBytes b := by
  unfold numAt slice
  rw [List.drop_left, List.take_length]

/-! ### The firmware's set is a commit (16 R417) -/

section Values
variable {tb : TbId} {sec ns fr : Nat}

/-- The two values of a set: the time, and the fraction. -/
def setTimeValue (tb : TbId) (sec ns : Nat) : OdValue := ⟨0x6000 + tb, 0x09, toBytes 6 sec ++ toBytes 4 ns⟩
def setFractionValue (tb : TbId) (fr : Nat) : OdValue := ⟨0x6000 + tb, 0x0A, toBytes 2 fr⟩

@[simp] theorem setTimeValue_index : (setTimeValue tb sec ns).index = 0x6000 + tb := rfl
@[simp] theorem setTimeValue_sub : (setTimeValue tb sec ns).sub = 0x09 := rfl
@[simp] theorem setFractionValue_index : (setFractionValue tb fr).index = 0x6000 + tb := rfl
@[simp] theorem setFractionValue_sub : (setFractionValue tb fr).sub = 0x0A := rfl

theorem setValues_eq (tb : TbId) (sec ns fr : Nat) : setValues tb sec ns fr = [setTimeValue tb sec ns, setFractionValue tb fr] := rfl

theorem setValues_apart (tb : TbId) (sec ns fr : Nat) : ApartValues (setValues tb sec ns fr) := by
  have := tb.isLt
  intro v mem
  rw [setValues_eq, List.mem_pair] at mem
  rcases mem with rfl | rfl
  · exact .inl ⟨by simp, by simp; omega, by simp, by simp⟩
  · exact .inl ⟨by simp, by simp; omega, by simp, by simp⟩

theorem setValues_ordered (tb : TbId) (sec ns fr : Nat) : inOrder (setValues tb sec ns fr) = setValues tb sec ns fr := by
  simp [inOrder, setValues, insertValue, key]

theorem setTime_seconds (hs : sec < 2 ^ 48) : numAt (setTimeValue tb sec ns).bytes 0 6 = sec := by
  have read := numAt_front (toBytes 6 sec) (toBytes 4 ns)
  rw [toBytes_length, ofBytes_toBytes (by omega)] at read
  exact read

theorem setTime_nanoseconds (hn : ns < 1000000000) : numAt (setTimeValue tb sec ns).bytes 6 4 = ns := by
  have read := numAt_behind (toBytes 6 sec) (toBytes 4 ns)
  rw [toBytes_length, toBytes_length, ofBytes_toBytes (by omega)] at read
  exact read

theorem setFraction_number (hf : fr < 65536) : ofBytes (setFractionValue tb fr).bytes = fr := ofBytes_toBytes (by omega)

theorem setTime_entry : ∀ tb : TbId, findEntry (0x6000 + tb) 0x09 = some ⟨0x09, 0x09, .time80, .wo, 0, false, 0, 1208925819614629174706175, .own⟩ := by decide

theorem setFraction_entry : ∀ tb : TbId, findEntry (0x6000 + tb) 0x0A = some ⟨0x0A, 0x0A, .u16, .wo, 0, false, 0, 65535, .observe⟩ := by decide

theorem setTime_command : ∀ tb : TbId, isCommand (0x6000 + tb) 0x09 = true := by decide

theorem setFraction_command : ∀ tb : TbId, isCommand (0x6000 + tb) 0x0A = true := by decide

/-- The values of a set are commands: they put nothing. -/
theorem State.putAll_set (s : State) (hn : ns < 1000000000) (hf : fr < 65536) : s.putAll (setValues tb sec ns fr) = (s, []) := by
  have time : s.putValue (setTimeValue tb sec ns) = (s, none) := by
    unfold State.putValue
    rw [setTimeValue_index, setTimeValue_sub, setTime_entry]
    unfold valueRange
    dsimp only
    rw [if_pos (by rw [setTime_nanoseconds hn]; exact hn)]
    exact if_pos (setTime_command tb)
  have fraction : s.putValue (setFractionValue tb fr) = (s, none) := by
    have number : numOf .u16 (setFractionValue tb fr).bytes = (fr : Int) := congrArg Int.ofNat (setFraction_number hf)
    have any : listed (0x6000 + tb) 0x0A fr = true := by
      have := tb.isLt
      unfold listed
      rw [if_neg (by omega), if_neg (by omega), if_neg (by omega), if_neg (by omega), if_neg (by omega), if_neg (by omega), if_neg (by omega),
        if_neg (by omega), if_neg (by omega), if_neg (by omega), if_neg (by omega), if_neg (by omega), if_neg (by omega), if_neg (by omega)]
    unfold State.putValue
    rw [setFractionValue_index, setFractionValue_sub, setFraction_entry]
    unfold valueRange
    dsimp only
    rw [number, Int.toNat_natCast, any, if_neg (by decide), if_neg (by simp; omega)]
    exact if_pos (setFraction_command tb)
  rw [setValues_eq, State.putAll, time]
  dsimp only
  rw [State.putAll, fraction]
  rfl

/-! ### Its judgement and its commit point -/

/-- What the firmware's command for the time does. -/
theorem firmwareCommand_time (w : Writer) (issued : Nat) (s : State) (hs : sec < 2 ^ 48) (hn : ns < 1000000000) (hf : fr < 65536) :
    firmwareCommand w (setValues tb sec ns fr) issued s (setTimeValue tb sec ns) =
      if s.firmwareMaySet tb = true then s.setRequest tb sec ns fr issued else s.answer 0x04 0 := by
  have := tb.isLt
  have item : 0x6000 + tb.val - 0x6000 = tb := by omega
  have fraction : ((valueOf (setValues tb sec ns fr) (0x6000 + tb) 0x0A).map (fun x => ofBytes x.bytes)).getD 0 = fr := by
    have found : valueOf (setValues tb sec ns fr) (0x6000 + tb) 0x0A = some (setFractionValue tb fr) := by
      simp [valueOf, setValues_eq]
    rw [found, Option.map_some, Option.getD_some, setFraction_number hf]
  unfold firmwareCommand
  dsimp only
  rw [setTimeValue_index, setTimeValue_sub, item, setTime_seconds hs, setTime_nanoseconds hn, fraction, if_neg (by omega), if_pos (by omega)]
  cases s.firmwareMaySet tb <;> rfl

/-- The command for the fraction does nothing of its own. -/
theorem firmwareCommand_fraction (w : Writer) (values : List OdValue) (issued : Nat) (s : State) :
    firmwareCommand w values issued s (setFractionValue tb fr) = s.done := by
  have := tb.isLt
  unfold firmwareCommand
  rw [if_neg (by simp), if_neg (by simp)]
  unfold hostCommand
  rw [setFractionValue_index, setFractionValue_sub, setFraction_entry]
  dsimp only
  rw [if_neg (by decide), if_neg (by simp [show (OdType.u16 == OdType.bool) = false from rfl]), if_neg (by omega), if_pos (by omega)]
  unfold timeCommand
  rw [if_neg (by omega), if_neg (by omega), if_pos (by omega)]
  rfl

theorem setValues_rule (s c : State) (service : Bool) {v : OdValue} (mem : v ∈ setValues tb sec ns fr) : s.ruleOf c service v.index v.sub v.bytes = none := by
  have := tb.isLt
  have place : v.index = 0x6000 + tb ∧ (v.sub = 0x09 ∨ v.sub = 0x0A) := by
    rw [setValues_eq, List.mem_pair] at mem
    rcases mem with rfl | rfl
    · exact ⟨rfl, .inl rfl⟩
    · exact ⟨rfl, .inr rfl⟩
  unfold State.ruleOf State.ruleTime
  rw [if_neg (by omega), if_neg (by omega), if_neg (by omega), if_neg (by omega), if_pos (by omega), if_pos (by omega), if_neg (by omega)]

/-- The set passes where the firmware may set the time base. -/
theorem State.judgeCommit_set (s : State) (issued : Nat) (hs : sec < 2 ^ 48) (hn : ns < 1000000000) (hf : fr < 65536) :
    s.judgeCommit { who := 255 } (setValues tb sec ns fr) (firmwareCommand { who := 255 } (setValues tb sec ns fr) issued) =
      if s.firmwareMaySet tb = true then none else some ⟨0x04, 0, none⟩ := by
  have := tb.isLt
  have apart := setValues_apart tb sec ns fr
  have put : s.putAll (inOrder (setValues tb sec ns fr)) = (s, []) := by rw [setValues_ordered, s.putAll_set hn hf]
  have judged : ∀ v ∈ setValues tb sec ns fr, isStep v.index v.sub = false → isCommand v.index v.sub = true →
      s.judgeValue s [] none { who := 255 } (firmwareCommand { who := 255 } (setValues tb sec ns fr) issued) v =
        commandBar (firmwareCommand { who := 255 } (setValues tb sec ns fr) issued) s v := fun v mem still acts => by
    rw [State.judgeValue_apart (apart v mem) rfl (setValues_rule s s _ mem), still, acts]
    rfl
  have still : ∀ v ∈ setValues tb sec ns fr, isStep v.index v.sub = false := fun v mem => by
    rw [setValues_eq, List.mem_pair] at mem
    rcases mem with rfl | rfl
    · exact Bool.and_false _
    · exact Bool.and_false _
  have time := judged (setTimeValue tb sec ns) (by simp [setValues_eq]) (still _ (by simp [setValues_eq])) (setTime_command tb)
  have fraction := judged (setFractionValue tb fr) (by simp [setValues_eq]) (still _ (by simp [setValues_eq])) (setFraction_command tb)
  have passes : commandBar (firmwareCommand { who := 255 } (setValues tb sec ns fr) issued) s (setFractionValue tb fr) = none := by
    unfold commandBar
    rw [firmwareCommand_fraction]
    rfl
  rw [apart.judgeCommit (by rw [put]; exact ⟨.refl _ s, .refl _ s⟩), put, setValues_ordered]
  conv_lhs => rw [setValues_eq]
  dsimp only
  rw [List.findSome?_cons, ← setValues_eq, time, List.findSome?_cons, fraction, passes]
  unfold commandBar
  rw [firmwareCommand_time _ _ _ hs hn hf, show (s.answer 0 0).firmwareMaySet tb = s.firmwareMaySet tb from rfl]
  cases s.firmwareMaySet tb
  · rfl
  · have ok : (((s.answer 0 0).setRequest tb sec ns fr issued)).lastStatus = 0 := by
      unfold State.setRequest
      rw [if_neg (by omega), if_neg (by omega)]
      rfl
    dsimp only
    rw [if_pos rfl, if_pos rfl, ok]
    rfl

/-- At its commit point the set waits for its edge. -/
theorem State.putCommit_set (s : State) (issued : Nat) (hs : sec < 2 ^ 48) (hn : ns < 1000000000) (hf : fr < 65536) (may : s.firmwareMaySet tb = true) :
    s.putCommit (setValues tb sec ns fr) (firmwareCommand { who := 255 } (setValues tb sec ns fr) issued) = (s.setRequest tb sec ns fr issued).done := by
  have put : s.putAll (inOrder (setValues tb sec ns fr)) = (s, []) := by rw [setValues_ordered, s.putAll_set hn hf]
  have commands : (setValues tb sec ns fr).filter (fun v => isCommand v.index v.sub && !(decide (0x6100 ≤ v.index ∧ v.index < 0x6120))) =
      setValues tb sec ns fr := List.filter_eq_self.mpr fun v mem => by
    have := tb.isLt
    have low := setValues_apart tb sec ns fr v mem
    rw [setValues_eq, List.mem_pair] at mem
    rcases mem with rfl | rfl
    · rw [setTimeValue_index, setTimeValue_sub, setTime_command, decide_eq_false (by omega)]
      rfl
    · rw [setFractionValue_index, setFractionValue_sub, setFraction_command, decide_eq_false (by omega)]
      rfl
  rw [(setValues_apart tb sec ns fr).putCommit (by rw [put]; exact ⟨.refl _ s, .refl _ s⟩), put, setValues_ordered, commands]
  conv_lhs => arg 3; rw [setValues_eq]
  rw [List.foldl_cons, firmwareCommand_time _ _ _ hs hn hf, if_pos may, List.foldl_cons, firmwareCommand_fraction]
  rfl

end Values
/-- The firmware's set, where it need not wait. -/
theorem State.firmwareWrite_set {tb : TbId} {sec ns fr : Nat} (s : State) (hs : sec < 2 ^ 48) (hn : ns < 1000000000) (hf : fr < 65536)
    (turn : s.mustWait (setValues tb sec ns fr) = false) :
    s.firmwareWrite (setValues tb sec ns fr) = if s.firmwareMaySet tb = true then
      (s.setRequest tb sec ns fr s.now).done.recordCommit s { who := 255 } (setValues tb sec ns fr)
    else (s.refuseCommit ⟨0x04, 0, none⟩).answer 0x04 0 := by
  have := tb.isLt
  have now : s.firmwareNow (setValues tb sec ns fr) s.now =
      match s.judgeCommit { who := 255 } (setValues tb sec ns fr) (firmwareCommand { who := 255 } (setValues tb sec ns fr) s.now) with
      | some f => (s.refuseCommit f).answer f.code f.detail
      | none => s.commitNow { who := 255 } (setValues tb sec ns fr) (firmwareCommand { who := 255 } (setValues tb sec ns fr) s.now) :=
    if_neg (show ¬(0x7020 ≤ 0x6000 + tb.val ∧ 0x6000 + tb.val < 0x7028) by omega)
  unfold State.firmwareWrite
  rw [turn, if_neg Bool.false_ne_true, now, s.judgeCommit_set s.now hs hn hf]
  by_cases may : s.firmwareMaySet tb = true
  · rw [if_pos may, if_pos may]
    unfold State.commitNow
    dsimp only
    rw [(setValues_apart tb sec ns fr).fireDue, s.putCommit_set s.now hs hn hf may]
  · rw [if_neg may, if_neg may]

/-! ### The edge, in its stages -/

/-- The fabric follows a jump of TB0. -/
def State.fabricJump (s : State) (tb : TbId) (d : Int) : State := if tb = 0 then s.fabricFollowsStep (d * 1000 / 65536) else s

/-- What the outputs drive is settled. -/
def State.settleOutputs (s : State) : State := (items 16).foldl (fun a f => a.settlePulses f false) s

/-- The jump itself: the replicas told of it, the time base, and the slots, whose offsets are measured anew. -/
def State.jumpAll (s : State) (tb : TbId) (d : Int) : State := ((s.jumpReplicas tb d (s.tb tb).setNews).jumpTb tb d).unseeOffsets tb

/-- The value that a set brings: the one written plus the interval since its reference instant. -/
def State.setValue (s : State) (v : Nat × Nat) : Nat := v.1 + (s.now - v.2) * 65536

/-- By how much it moves its time base. -/
def State.setDistance (s : State) (tb : TbId) (v : Nat × Nat) : Int := (s.setValue v : Int) - s.tbNow tb

/-- The time base has a value, and the set waits no more. -/
def State.putSet (s : State) (tb : TbId) (value : Nat) : State :=
  s.setTb tb { s.tb tb with count := value * 2 ^ 32, pendingSet := none, inside := 0, outside := 0, switching := false }

/-- The time base takes its value. -/
def State.setJump (s : State) (tb : TbId) (v : Nat × Nat) : State :=
  ((s.fabricJump tb (s.setDistance tb v)).settleOutputs.jumpAll tb (s.setDistance tb v)).putSet tb (s.setValue v)

/-- It counts as set, and runs free. -/
def State.setShown (s : State) (tb : TbId) : State :=
  ((((s.epochStep tb).putBit (0x6000 + tb) 0x04 4 true).setNat (0x7020 + tb) 0x04 0xFF).setServo tb 1).applySteering tb

/-- An armed compare of the time base is cancelled. -/
def State.setCancel (s : State) (tb c : Nat) : State :=
  if (s.compare c).state = 1 ∧ s.nat (0x6100 + c) 0x01 = tb then s.setCompare c { s.compare c with state := 3 } else s

def State.setCancels (s : State) (tb : TbId) : State := (items 32).foldl (fun a c => a.setCancel tb c) s

def State.setStops (s : State) (tb : TbId) : State := (items 16).foldl (fun a f => a.setStopsFirefly tb f) s

/-- What rests on the time base follows: calibrations, the gates of TB0, and the references. -/
def State.setFollows (s : State) (tb : TbId) (t0 : Int) : State :=
  (if tb = 0 then ((s.stepAbandons tb).gatesFollowStep t0).reportStepped else s.stepAbandons tb).refsUpdate

theorem exec_setEdge {tb : TbId} {s : State} {v : Nat × Nat} (waits : (s.tb tb).pendingSet = some v) (runs : (s.tb tb).running = true)
    (due : s.edgeAt (s.tb tb).setNews ≤ s.now) :
    exec (.setEdge tb) s = .next (((((s.setJump tb v).setShown tb).setCancels tb).setStops tb).setFollows tb s.tb0Ns) := by
  have falls : (!s.edgeDue tb (s.tb tb).setNews) = false := by
    unfold State.edgeDue
    rw [runs, decide_eq_true due]
    rfl
  change execSetEdge tb s = _
  unfold execSetEdge
  rw [waits]
  dsimp only
  rw [if_neg (by rw [falls]; exact Bool.false_ne_true)]
  rfl

section Edge
variable (s : State) (tb : TbId)

/-! The jump writes the time base, what the outputs have of their pulses, and the offset shown of the fabric. -/

theorem State.unjudgeFlights_regs : s.unjudgeFlights.regs = s.regs := rfl

theorem State.fabricFollowsStep_same (d : Int) : SameEntries (fun i j => i = 0x3800 ∧ j = 0x03) s (s.fabricFollowsStep d) := by
  have shown : SameEntries (fun i j => i = 0x3800 ∧ j = 0x03) s
      ((items 8).foldl (fun a g => if a.regionFenced g then a else a.takeOffset g ((a.region g).offset + d)) s) :=
    .foldl _ fun a g _ => .ite (.refl _ a) (((SameEntries.refl _ a).setReg (by decide) ⟨rfl, rfl⟩).of_regs rfl)
  exact .ite (.refl _ s) (shown.of_regs (State.unjudgeFlights_regs _))

theorem State.fabricJump_same (d : Int) : SameEntries (fun i j => i = 0x3800 ∧ j = 0x03) s (s.fabricJump tb d) := .ite (s.fabricFollowsStep_same _) (.refl _ s)

theorem State.fabricJump_only (d : Int) : Only 0x1000001002 s (s.fabricJump tb d) := by
  unfold State.fabricJump
  split_ifs
  · exact State.fabricFollowsStep_only s _ (.refl _ s) rfl
  · exact .refl _ s

theorem State.settleOutputs_only : Only partFireflies s s.settleOutputs :=
  .foldl (.refl _ s) fun x f => State.settlePulses_only x f false (.refl partFireflies x) rfl

theorem State.jumpAll_only (d : Int) : Only 0x12040000000000 s (s.jumpAll tb d) :=
  have told : Only 0x12040000000000 s (s.jumpReplicas tb d (s.tb tb).setNews) := State.jumpReplicas_only s tb d _ (.refl _ s) rfl
  have moved : Only 0x12040000000000 s ((s.jumpReplicas tb d (s.tb tb).setNews).jumpTb tb d) := State.jumpTb_only _ tb d told rfl
  State.unseeOffsets_only _ tb moved rfl

theorem State.jumpAll_others (d : Int) {k : Nat} (apart : k ≠ tb) : (s.jumpAll tb d).tb k = s.tb k := by
  have slots := (State.unseeOffsets_only ((s.jumpReplicas tb d (s.tb tb).setNews).jumpTb tb d) tb (.refl 0x10000000000000 _) rfl).tb_kept rfl k
  have told := (State.jumpReplicas_only s tb d (s.tb tb).setNews (.refl 0x2000000000000 s) rfl).tb_kept rfl k
  refine slots.trans ?_
  unfold State.jumpTb
  rw [State.tb_setTb, if_neg (Ne.symm apart)]
  exact told

theorem State.putSet_only (value : Nat) : Only partTbs s (s.putSet tb value) := State.setTb_only s tb _ (.refl _ s) rfl

/-- What the jump leaves of a state. -/
theorem State.setJump_only (v : Nat × Nat) : Only 0x12141000001002 s (s.setJump tb v) :=
  have fabric : Only 0x12141000001002 s (s.fabricJump tb (s.setDistance tb v)) := (s.fabricJump_only tb _).mono rfl
  ((fabric.step (State.settleOutputs_only _) rfl).step (State.jumpAll_only _ tb _) rfl).step (State.putSet_only _ tb _) rfl

theorem State.setJump_same (v : Nat × Nat) : SameEntries (fun i j => i = 0x3800 ∧ j = 0x03) s (s.setJump tb v) :=
  (((s.fabricJump_same tb _).of_regs ((State.settleOutputs_only _).regs rfl)).of_regs ((State.jumpAll_only _ tb _).regs rfl)).of_regs
    ((State.putSet_only _ tb _).regs rfl)

theorem State.setJump_value (v : Nat × Nat) : ((s.setJump tb v).tb tb).count = s.setValue v * 2 ^ 32 ∧ ((s.setJump tb v).tb tb).pendingSet = none := by
  unfold State.setJump State.putSet
  rw [State.tb_setTb_same]
  exact ⟨rfl, rfl⟩

theorem State.setJump_others (v : Nat × Nat) {k : Nat} (apart : k ≠ tb) : (s.setJump tb v).tb k = s.tb k := by
  unfold State.setJump State.putSet
  rw [State.tb_setTb, if_neg (Ne.symm apart), State.jumpAll_others _ tb _ apart, (State.settleOutputs_only _).tb_kept rfl,
    (s.fabricJump_only tb _).tb_kept rfl]

theorem State.settleOutputs_waits (f : Nat) : (s.settleOutputs.firefly f).waitsUnset = (s.firefly f).waitsUnset :=
  List.foldlRecOn (motive := fun b : State => (b.firefly f).waitsUnset = (s.firefly f).waitsUnset) _ _ rfl fun b same g _ => by
    by_cases here : f = g
    · subst here
      obtain ⟨last, own⟩ := b.settlePulses_own f false
      rw [own]
      exact same
    · rw [(b.settlePulses_drives g false).others f here]
      exact same

/-- A settled output waits on an unset time base as before. -/
theorem State.setJump_firefly (v : Nat × Nat) (f : Nat) : ((s.setJump tb v).firefly f).waitsUnset = (s.firefly f).waitsUnset := by
  unfold State.setJump
  rw [(State.putSet_only _ tb _).firefly_kept rfl, (State.jumpAll_only _ tb _).firefly_kept rfl, State.settleOutputs_waits,
    (s.fabricJump_only tb _).firefly_kept rfl]

/-! The time base counts as set and runs free. -/

/-- The entries that show the set. -/
def setShownEntry (i j : Nat) : Prop := (0x6000 ≤ i ∧ i < 0x6008 ∧ (j = 0x04 ∨ j = 0x08 ∨ j = 0x13)) ∨ 0x7000 ≤ i

theorem State.setServo_steers {k v : Nat} (hk : k < 8) (set : v % 8 ≠ 0) : (s.setServo k v).servo k ≠ 0 := by
  unfold State.setServo
  split_ifs with now
  · intro zero
    rw [now] at zero
    exact set (by rw [zero])
  · refine (State.notice_selects _ _ _).steered k hk ?_
    rw [State.servo, State.nat_setNat, if_pos rfl, field_putField_same]
    exact set

/-- Its status: jumped and set, in no servo state yet. -/
def State.setStatus (s : State) (tb : TbId) : State := ((s.epochStep tb).putBit (0x6000 + tb) 0x04 4 true).setNat (0x7020 + tb) 0x04 0xFF

theorem State.setShown_eq : s.setShown tb = ((s.setStatus tb).setServo tb 1).applySteering tb := rfl

theorem State.setStatus_same : SameEntries setShownEntry s (s.setStatus tb) := by
  have := tb.isLt
  have own : ∀ j, j = 0x04 ∨ j = 0x08 ∨ j = 0x13 → setShownEntry (0x6000 + tb) j := fun j hj => .inl ⟨by omega, by omega, hj⟩
  exact ((((SameEntries.refl _ s).setReg (by decide) (own _ (by decide))).setReg (by decide) (own _ (by decide))).setReg (by decide)
    (own _ (by decide))).setReg (by decide) (own _ (by decide)) |>.setReg (by decide) (.inr (by omega))

theorem State.setStatus_shows : (s.setStatus tb).nat (0x6000 + tb) 0x08 = (s.nat (0x6000 + tb) 0x08 + 1) % 256 ∧
    (s.setStatus tb).nat (0x6000 + tb) 0x13 = min (s.nat (0x6000 + tb) 0x13 + 1) (2 ^ 32 - 1) ∧
    (s.setStatus tb).bit (0x6000 + tb) 0x04 8 = true ∧ (s.setStatus tb).bit (0x6000 + tb) 0x04 4 = true := by
  have := tb.isLt
  have off : ∀ j, ¬(0x7020 + tb.val = 0x6000 + tb.val ∧ 0x04 = j) := fun j h => by omega
  have selector : ∀ (a : State) (j : Nat), j < 256 → (a.setNat (0x7020 + tb) 0x04 0xFF).nat (0x6000 + tb) j = a.nat (0x6000 + tb) j := fun a j hj => by
    rw [State.setNat, State.nat_setReg_at _ _ (by decide) hj, if_neg (off j)]
  have flag : ∀ (a : State) (b j : Nat), j < 256 → j ≠ 0x04 → (a.putBit (0x6000 + tb) 0x04 b true).nat (0x6000 + tb) j = a.nat (0x6000 + tb) j :=
    fun a b j hj other => by
      rw [State.putBit, State.setNat, State.nat_setReg_at _ _ (by decide) hj, if_neg fun h => other h.2.symm]
  have bits : ∀ (a : State) (b : Nat), (a.setNat (0x7020 + tb) 0x04 0xFF).bit (0x6000 + tb) 0x04 b = a.bit (0x6000 + tb) 0x04 b := fun a b => by
    unfold State.bit
    rw [selector a _ (by decide)]
  unfold State.setStatus State.epochStep
  extract_lets i
  refine ⟨?_, ?_, ?_, ?_⟩
  · rw [selector _ _ (by decide), flag _ _ _ (by decide) (by decide), flag _ _ _ (by decide) (by decide), State.inc32, State.addSat, State.setNat,
      State.nat_setReg_at _ _ (by decide) (by decide), if_neg (fun h => absurd h.2 (by decide)), State.nat_setNat_same]
  · rw [selector _ _ (by decide), flag _ _ _ (by decide) (by decide), flag _ _ _ (by decide) (by decide), State.inc32, State.nat_addSat_same,
      State.setNat, State.nat_setReg_at _ _ (by decide) (by decide), if_neg (fun h => absurd h.2 (by decide))]
  · rw [bits, State.bit_putBit, if_neg (fun h => absurd h.2 (by decide)), State.bit_putBit_same]
  · rw [bits, State.bit_putBit_same]

/-- The servo state and the steering, set and free. -/
theorem State.setShown_selects : (s.setStatus tb).Selects (s.setShown tb) :=
  (State.setServo_selects _ tb tb.isLt (by decide)).trans (State.applySteering_selects _ tb)

theorem State.setShown_steers : (s.setShown tb).servo tb ≠ 0 :=
  (State.applySteering_selects _ tb).steered tb tb.isLt (State.setServo_steers _ tb.isLt (by decide))

theorem State.setShown_same : SameEntries setShownEntry s (s.setShown tb) :=
  (s.setStatus_same tb).trans ((s.setShown_selects tb).entries.mono fun i j h => by
    unfold selectorEntry servoEntry at h
    unfold setShownEntry
    omega)

theorem State.setShown_only : Only 0x100000000040000000042 s (s.setShown tb) :=
  have status : Only 0x100000000040000000042 s (s.setStatus tb) :=
    State.setNat_only _ _ _ _ (State.putBit_only _ _ _ _ _ (State.epochStep_only s tb (.refl _ s) rfl) rfl) rfl
  State.applySteering_only _ tb (State.setServo_only _ tb 1 status rfl) rfl

theorem State.setStatus_tb (k : Nat) : (s.setStatus tb).tb k = s.tb k := rfl

/-! The compares are cancelled, the outputs stop. -/

theorem State.setCancel_only (k c : Nat) : Only partCompares s (s.setCancel k c) := by
  unfold State.setCancel
  split_ifs
  · exact State.setCompare_only s c _ (.refl _ s) rfl
  · exact .refl _ s

theorem State.setCancels_only : Only partCompares s (s.setCancels tb) := .foldl (.refl _ s) fun a c => a.setCancel_only tb c

theorem State.setCancel_other (k : Nat) {c x : Nat} (apart : x ≠ c) : (s.setCancel k x).compare c = s.compare c := by
  unfold State.setCancel
  split_ifs
  · rw [State.compare_setCompare, if_neg apart]
  · rfl

theorem State.setCancels_cancels {c : Nat} (hc : c < 32) (armed : (s.compare c).state = 1) (here : s.nat (0x6100 + c) 0x01 = tb) :
    ((s.setCancels tb).compare c).state = 3 := by
  refine foldl_once (Before := fun a : State => (a.compare c).state = 1 ∧ a.nat (0x6100 + c) 0x01 = tb)
    (After := fun a : State => (a.compare c).state = 3) List.nodup_range (List.mem_range.2 hc) ?_ ?_ ?_ ⟨armed, here⟩
  · intro a before
    unfold State.setCancel
    rw [if_pos before, State.compare_setCompare_same]
  · rintro a x apart ⟨state, entry⟩
    rw [a.setCancel_other tb apart, State.nat_of_regs ((a.setCancel_only tb x).regs rfl)]
    exact ⟨state, entry⟩
  · intro a x apart after
    rw [a.setCancel_other tb apart]
    exact after

theorem State.setStopsFirefly_drives (k f : Nat) : s.Drives f (s.setStopsFirefly k f) := by
  unfold State.setStopsFirefly
  extract_lets i x a
  have ended : s.Drives f a := s.endPulses_drives f
  split_ifs
  · exact .refl f s
  · exact ((State.Drives.refl f s).setFirefly _).setReg 0 (.inl rfl)
  · exact (ended.setFirefly _).setReg 1 (.inr rfl)

/-- An output with a grid on the time base. -/
structure State.GridOn (s : State) (k f : Nat) : Prop where
  grid : gridMode (s.nat (0x6200 + f) 0x01) = true
  on : s.nat (0x6200 + f) 0x02 = k
  awake : s.isSafe = false
  driven : (s.firefly f).waitsUnset = false

/-- An output that a set has stopped. -/
structure State.StoppedAt (s : State) (f : Nat) : Prop where
  stopped : (s.firefly f).stoppedBySet = true
  pulses : (s.firefly f).pulses = []
  shown : s.nat (0x6200 + f) 0x11 = 1

theorem State.stop_stopped (f : Nat) {x : FireflyX} (stopped : x.stoppedBySet = true) (pulses : x.pulses = []) :
    ((s.setFirefly f x).setNat (0x6200 + f) 0x11 1).StoppedAt f := by
  have own : ((s.setFirefly f x).setNat (0x6200 + f) 0x11 1).firefly f = x := State.firefly_setFirefly_same ..
  exact ⟨by rw [own, stopped], by rw [own, pulses], State.nat_setNat_same ..⟩

theorem State.setStopsFirefly_stops {k f : Nat} (grid : s.GridOn k f) : (s.setStopsFirefly k f).StoppedAt f := by
  have skips : ¬((!gridMode (s.nat (0x6200 + f) 0x01)) = true ∨ s.nat (0x6200 + f) 0x02 ≠ k ∨ s.isSafe = true) := by
    rw [grid.grid, grid.on, grid.awake]
    simp
  unfold State.setStopsFirefly
  extract_lets i x a
  rw [if_neg skips, if_neg (by rw [grid.driven]; exact Bool.false_ne_true)]
  have ended : (a.firefly f).pulses = [] := congrArg FireflyX.pulses (State.firefly_setFirefly_same _ f _)
  clear_value a
  exact State.stop_stopped _ f rfl ended

theorem State.Drives.gridOn {s t : State} {k f g : Nat} (a : State.Drives g s t) (apart : g ≠ f) (grid : s.GridOn k f) : t.GridOn k f := by
  have entries : ∀ j, j < 256 → t.nat (0x6200 + f) j = s.nat (0x6200 + f) j := fun j hj => a.nat hj (by unfold fireflyEntry; omega)
  refine ⟨?_, ?_, ?_, ?_⟩
  · rw [entries _ (by decide)]; exact grid.grid
  · rw [entries _ (by decide)]; exact grid.on
  · unfold State.isSafe State.runState
    rw [a.nat (by decide) (by unfold fireflyEntry; omega)]
    exact grid.awake
  · rw [a.others f (Ne.symm apart)]; exact grid.driven

theorem State.Drives.stoppedAt {s t : State} {f g : Nat} (a : State.Drives g s t) (apart : g ≠ f) (stop : s.StoppedAt f) : t.StoppedAt f := by
  have same := a.others f (Ne.symm apart)
  refine ⟨?_, ?_, ?_⟩
  · rw [same]; exact stop.stopped
  · rw [same]; exact stop.pulses
  · rw [a.nat (by decide) (by unfold fireflyEntry; omega)]; exact stop.shown

theorem State.setStops_stops {f : Nat} (hf : f < 16) (grid : s.GridOn tb f) : (s.setStops tb).StoppedAt f :=
  foldl_once (Before := fun a : State => a.GridOn tb f) (After := fun a : State => a.StoppedAt f) List.nodup_range (List.mem_range.2 hf)
    (fun a => a.setStopsFirefly_stops) (fun a x apart => (a.setStopsFirefly_drives tb x).gridOn apart)
    (fun a x apart => (a.setStopsFirefly_drives tb x).stoppedAt apart) grid

theorem State.setStops_only : Only (partRegs ||| partFireflies) s (s.setStops tb) := .foldl (.refl _ s) fun a f => (a.setStopsFirefly_drives tb f).frame

theorem State.setStops_same : SameEntries (fun i _ => 0x6200 ≤ i ∧ i < 0x6210) s (s.setStops tb) :=
  .foldl _ fun a f mem => (a.setStopsFirefly_drives tb f).entries.mono fun i j h => by
    have := List.mem_range.mp mem
    unfold fireflyEntry at h
    omega

/-! What rests on the time base follows it; the time base, its status, the compares and the outputs stay. -/

/-- The entries that follow a set. -/
def setFollowsEntry (i j : Nat) : Prop := i < 0x6000 ∨ 0x7000 ≤ i ∨ servoEntry i j

theorem State.stepAbandons_same (k : Nat) : SameEntries (fun i _ => i < 0x6000) s (s.stepAbandons k) :=
  .foldl _ fun a p mem => by
    have := List.mem_range.mp mem
    exact .ite ((a.abandonAsymmetry_same p).mono fun i j h => by omega) (.refl _ a)

theorem State.breach_low (g contract code : Nat) (d : Int) : SameEntries (fun i _ => i < 0x6000) s (s.breach g contract code d) := by
  have counted : SameEntries (fun i _ => i < 0x6000) s (s.inc64 0x5000 0x07) := (SameEntries.refl _ s).setReg (by decide) (by decide)
  have recorded : SameEntries (fun i _ => i < 0x6000) s (s.breachRecord contract code g d) := by
    unfold State.breachRecord
    exact .ite (counted.of_regs rfl) (.setReg (counted.of_regs rfl) (by decide) (by decide))
  unfold State.breach
  exact recorded.of_regs ((State.raise_only _ _ _ (.refl 0x140000000000000000 _) rfl).regs rfl)

theorem State.reportStepped_same : SameEntries (fun i _ => i < 0x6000) s s.reportStepped := by
  unfold State.reportStepped
  refine .foldl _ fun a e _ => ?_
  extract_lets pq hit n u x
  have told : SameEntries (fun i _ => i < 0x6000) a u := .foldl _ fun b c _ => .ite (.refl _ b) (b.breach_low _ _ _ _)
  clear_value u
  exact .ite (.refl _ a) (told.of_regs rfl)

/-- Calibrations and gates, before the references. -/
def State.setSweeps (s : State) (tb : TbId) (t0 : Int) : State :=
  if tb = 0 then ((s.stepAbandons tb).gatesFollowStep t0).reportStepped else s.stepAbandons tb

theorem State.setFollows_eq (t0 : Int) : s.setFollows tb t0 = (s.setSweeps tb t0).refsUpdate := rfl

theorem State.setSweeps_same (t0 : Int) : SameEntries (fun i _ => i < 0x6000) s (s.setSweeps tb t0) := by
  have gates := ((s.stepAbandons_same tb).of_regs ((State.gatesFollowStep_only (s.stepAbandons tb) t0 (.refl 0xc00 _) rfl).regs rfl))
  unfold State.setSweeps
  exact .ite (gates.trans (State.reportStepped_same _)) (s.stepAbandons_same tb)

theorem State.setSweeps_only (t0 : Int) : Only 0x140000000600000e02 s (s.setSweeps tb t0) := by
  have abandons : Only 0x140000000600000e02 s (s.stepAbandons tb) := State.stepAbandons_only s tb (.refl _ s) rfl
  unfold State.setSweeps
  split_ifs
  · exact State.reportStepped_only _ (State.gatesFollowStep_only _ t0 abandons rfl) rfl
  · exact abandons

theorem State.setFollows_same (t0 : Int) : SameEntries setFollowsEntry s (s.setFollows tb t0) :=
  ((s.setSweeps_same tb t0).mono fun _ _ h => .inl h).trans ((State.refsUpdate_entries _).mono fun i j h => by
    unfold selectorEntry timingEntry at h
    unfold setFollowsEntry
    rcases h with h | h | h
    · exact .inr (.inl (by omega))
    · exact .inr (.inr h)
    · exact .inl (by omega))

theorem State.setFollows_only (t0 : Int) : Only 0x1001407f0040600000e42 s (s.setFollows tb t0) :=
  have sweeps : Only 0x1001407f0040600000e42 s (s.setSweeps tb t0) := (s.setSweeps_only tb t0).mono rfl
  State.refsUpdate_only _ sweeps rfl

theorem State.setFollows_counting (t0 : Int) (k : Nat) : ((s.setFollows tb t0).tb k).counting = (s.tb k).counting :=
  (State.refsUpdate_clocks _ k).trans (congrArg TbX.counting ((s.setSweeps_only tb t0).tb_kept rfl k))

theorem State.setFollows_status (t0 : Int) {k b : Nat} (hk : k < 8) (hb : b = 0 ∨ 4 ≤ b) :
    (s.setFollows tb t0).bit (0x6000 + k) 0x04 b = s.bit (0x6000 + k) 0x04 b :=
  (State.refsUpdate_status _ k hk hb).trans ((s.setSweeps_same tb t0).bit b (by decide) (by omega))

theorem State.setFollows_steered (t0 : Int) {k : Nat} (hk : k < 8) (set : s.servo k ≠ 0) : (s.setFollows tb t0).servo k ≠ 0 := by
  have kept := (s.setSweeps_same tb t0).nat (i := 0x6000 + k) (j := 0x04) (by decide) (by omega)
  rw [s.setFollows_eq]
  refine State.refsUpdate_steered _ k hk ?_
  unfold State.servo at set ⊢
  rw [kept]
  exact set

end Edge

/-! ### The two statements of a set -/

theorem TbX.count_of_counting {x y : TbX} (same : x.counting = y.counting) : x.count = y.count := by
  have := congrArg TbX.count same
  exact this

theorem TbX.pendingSet_of_counting {x y : TbX} (same : x.counting = y.counting) : x.pendingSet = y.pendingSet := by
  have := congrArg TbX.pendingSet same
  exact this

/-- The edge of a set, from the state before it to the one after. -/
def State.setEdged (s : State) (tb : TbId) (v : Nat × Nat) : State :=
  ((((s.setJump tb v).setShown tb).setCancels tb).setStops tb).setFollows tb s.tb0Ns

section Whole
variable (s : State) (tb : TbId) (v : Nat × Nat)

/-- Before the outputs stop. -/
def State.setArmless (s : State) (tb : TbId) (v : Nat × Nat) : State := ((s.setJump tb v).setShown tb).setCancels tb

theorem State.setArmless_entries : SameEntries setShownEntry (s.setJump tb v) (s.setArmless tb v) :=
  ((s.setJump tb v).setShown_same tb).of_regs ((State.setCancels_only _ tb).regs rfl)

theorem State.setArmless_middle {i j : Nat} (hj : j < 256) (low : i < 0x3800 ∨ (0x6100 ≤ i ∧ i < 0x7000)) : (s.setArmless tb v).nat i j = s.nat i j :=
  ((s.setArmless_entries tb v).nat hj (by unfold setShownEntry; omega)).trans ((s.setJump_same tb v).nat hj (by omega))

theorem State.setArmless_gridOn {f : Nat} (hf : f < 16) (grid : s.GridOn tb f) : (s.setArmless tb v).GridOn tb f := by
  have same : (s.setArmless tb v).firefly f = (s.setJump tb v).firefly f :=
    ((State.setCancels_only _ tb).firefly_kept rfl f).trans ((State.setShown_only _ tb).firefly_kept rfl f)
  refine ⟨?_, ?_, ?_, ?_⟩
  · rw [s.setArmless_middle tb v (by decide) (by omega)]; exact grid.grid
  · rw [s.setArmless_middle tb v (by decide) (by omega)]; exact grid.on
  · unfold State.isSafe State.runState
    rw [s.setArmless_middle tb v (by decide) (by decide)]
    exact grid.awake
  · rw [same, s.setJump_firefly]; exact grid.driven

theorem State.setEdged_stops {f : Nat} (hf : f < 16) (grid : s.GridOn tb f) : (s.setEdged tb v).StoppedAt f := by
  obtain ⟨stopped, pulses, shown⟩ := State.setStops_stops (s.setArmless tb v) tb hf (s.setArmless_gridOn tb v hf grid)
  have same : (s.setEdged tb v).firefly f = ((s.setArmless tb v).setStops tb).firefly f := (State.setFollows_only _ tb _).firefly_kept rfl f
  refine ⟨by rw [same, stopped], by rw [same, pulses], ?_⟩
  exact ((State.setFollows_same _ tb _).nat (by decide) (by unfold setFollowsEntry servoEntry; omega)).trans shown

theorem State.setEdged_cancels {c : Nat} (hc : c < 32) (armed : (s.compare c).state = 1) (here : s.nat (0x6100 + c) 0x01 = tb) :
    ((s.setEdged tb v).compare c).state = 3 := by
  have after : (s.setEdged tb v).compare c = (s.setArmless tb v).compare c :=
    ((State.setFollows_only _ tb _).compare_kept rfl c).trans ((State.setStops_only _ tb).compare_kept rfl c)
  have before : ((s.setJump tb v).setShown tb).compare c = s.compare c :=
    ((State.setShown_only _ tb).compare_kept rfl c).trans ((s.setJump_only tb v).compare_kept rfl c)
  have entry : ((s.setJump tb v).setShown tb).nat (0x6100 + c) 0x01 = s.nat (0x6100 + c) 0x01 :=
    (((s.setJump tb v).setShown_same tb).nat (by decide) (by unfold setShownEntry; omega)).trans ((s.setJump_same tb v).nat (by decide) (by omega))
  rw [after]
  exact State.setCancels_cancels _ tb hc (by rw [before, armed]) (by rw [entry, here])

/-- The time bases count on from the jump. -/
theorem State.setEdged_counting (k : Nat) : ((s.setEdged tb v).tb k).counting = ((s.setJump tb v).tb k).counting := by
  have shown : (((s.setJump tb v).setShown tb).tb k).counting = ((s.setJump tb v).tb k).counting :=
    (((s.setJump tb v).setShown_selects tb).clocks k).trans (congrArg TbX.counting ((s.setJump tb v).setStatus_tb tb k))
  have armless : (s.setArmless tb v).tb k = ((s.setJump tb v).setShown tb).tb k := (State.setCancels_only _ tb).tb_kept rfl k
  have stops : ((s.setArmless tb v).setStops tb).tb k = (s.setArmless tb v).tb k := (State.setStops_only _ tb).tb_kept rfl k
  exact (State.setFollows_counting ((s.setArmless tb v).setStops tb) tb s.tb0Ns k).trans (by rw [stops, armless, shown])

/-- Of the status what the set shows stands at the end. -/
theorem State.setEdged_shown {j : Nat} (hj : j < 256) (apart : j ≠ 0x04) :
    (s.setEdged tb v).nat (0x6000 + tb) j = ((s.setJump tb v).setStatus tb).nat (0x6000 + tb) j := by
  have := tb.isLt
  have follows := (State.setFollows_same ((s.setArmless tb v).setStops tb) tb s.tb0Ns).nat (i := 0x6000 + tb) hj (by unfold setFollowsEntry servoEntry; omega)
  have stops := (State.setStops_same (s.setArmless tb v) tb).nat (i := 0x6000 + tb) hj (by omega)
  have armless := State.nat_of_regs ((State.setCancels_only ((s.setJump tb v).setShown tb) tb).regs rfl) (0x6000 + tb) j
  have steered := ((s.setJump tb v).setShown_selects tb).entries.nat (i := 0x6000 + tb) hj (by unfold selectorEntry servoEntry; omega)
  exact follows.trans (stops.trans (armless.trans steered))

theorem State.setEdged_bit {b : Nat} (hb : 4 ≤ b) : (s.setEdged tb v).bit (0x6000 + tb) 0x04 b = ((s.setJump tb v).setStatus tb).bit (0x6000 + tb) 0x04 b := by
  have := tb.isLt
  have follows := State.setFollows_status ((s.setArmless tb v).setStops tb) tb s.tb0Ns tb.isLt (.inr hb)
  have stops := (State.setStops_same (s.setArmless tb v) tb).bit b (i := 0x6000 + tb) (j := 0x04) (by decide) (by omega)
  have armless : (s.setArmless tb v).bit (0x6000 + tb) 0x04 b = ((s.setJump tb v).setShown tb).bit (0x6000 + tb) 0x04 b :=
    congrArg (Nat.testBit · b) (State.nat_of_regs ((State.setCancels_only ((s.setJump tb v).setShown tb) tb).regs rfl) (0x6000 + tb) 0x04)
  exact follows.trans (stops.trans (armless.trans (((s.setJump tb v).setShown_selects tb).status tb b tb.isLt (.inr hb))))

theorem State.setEdged_steers : (s.setEdged tb v).servo tb ≠ 0 := by
  have := tb.isLt
  refine State.setFollows_steered _ tb _ tb.isLt ?_
  have shown := (s.setJump tb v).setShown_steers tb
  unfold State.servo at shown ⊢
  rw [(State.setStops_same _ tb).nat (by decide) (by omega), State.nat_of_regs ((State.setCancels_only _ tb).regs rfl)]
  exact shown

end Whole

/-- Settles O26: a set waits for its edge, the firmware's as a commit of two command values; at the edge the time base has its value, and what counts on it
is cancelled or stopped. -/
theorem setEstablishesTheTimeBase : Obligations.SetEstablishesTheTimeBase := by
  unfold Obligations.SetEstablishesTheTimeBase
  refine ⟨fun role tb sec ns fr s admitted => ?_, fun tb sec ns fr s served hs hn hf => ?_, fun tb s v waits runs due => ?_⟩
  · have run : exec (.set (some role) tb sec ns fr) s = .next (s.setRequest tb sec ns fr s.now) := congrArg _ (State.hostWrite_admitted admitted _)
    refine .of run ⟨State.setRequest_only s tb sec ns fr s.now (.refl _ s) rfl, fun off => ?_, fun hs hn hf => ?_⟩
    · unfold State.setRequest
      by_cases first : 2 ^ 48 ≤ sec ∨ 1000000000 ≤ ns
      · rw [if_pos first]
        exact ⟨rfl, rfl⟩
      · rw [if_neg first, if_pos (by omega)]
        exact ⟨rfl, rfl⟩
    · unfold State.setRequest
      rw [if_neg (by omega), if_neg (by omega)]
      exact ⟨rfl, State.tb_setTb_same .., fun k apart => (State.tb_setTb ..).trans (if_neg (Ne.symm apart))⟩
  · have run : exec (.set none tb sec ns fr) s = .next (s.done.firmwareWrite (setValues tb sec ns fr)) := by
      change execSet none tb sec ns fr s = _
      unfold execSet
      dsimp only
      rw [served, if_neg (by decide), if_neg (by omega), if_neg (by omega)]
    refine .of run ⟨fun behind => ?_, fun turn shut => ?_, fun turn may => ?_⟩
    · unfold State.firmwareWrite
      rw [if_pos (show s.done.mustWait (setValues tb sec ns fr) = true from behind)]
      exact ⟨rfl, rfl⟩
    · rw [s.done.firmwareWrite_set hs hn hf turn, if_neg (show ¬s.done.firmwareMaySet tb = true by rw [show s.done.firmwareMaySet tb = _ from shut]; decide)]
      exact ⟨rfl, rfl⟩
    · rw [s.done.firmwareWrite_set hs hn hf turn, if_pos (show s.done.firmwareMaySet tb = true from may)]
      have frame := State.recordCommit_only ((s.done.setRequest tb sec ns fr s.now).done) s.done { who := 255 } (setValues tb sec ns fr)
        (.refl 0x100020000000000000042 _) rfl
      refine ⟨(frame.lastStatus rfl).trans rfl, ?_⟩
      rw [show (s.done.now) = s.now from rfl, frame.tb_kept rfl]
      unfold State.setRequest
      rw [if_neg (by omega), if_neg (by omega)]
      exact congrArg TbX.pendingSet (State.tb_setTb_same ..)
  · have := tb.isLt
    have run : exec (.setEdge tb) s = .next (s.setEdged tb v) := exec_setEdge waits runs due
    obtain ⟨epoch, count, jumped, set⟩ := (s.setJump tb v).setStatus_shows tb
    obtain ⟨value, pending⟩ := s.setJump_value tb v
    have kept : ∀ j, j < 256 → (s.setJump tb v).nat (0x6000 + tb) j = s.nat (0x6000 + tb) j := fun j hj => (s.setJump_same tb v).nat hj (by omega)
    rw [kept _ (by decide)] at epoch count
    refine .of run ⟨?_, ?_, ?_, s.setEdged_steers tb v, ?_, ?_, ?_, fun k hk apart => ?_, fun c hc armed here => s.setEdged_cancels tb v hc armed here,
      fun f hf grid on awake driven => ?_⟩
    · exact (TbX.count_of_counting (s.setEdged_counting tb v tb)).trans value
    · exact (TbX.pendingSet_of_counting (s.setEdged_counting tb v tb)).trans pending
    · exact (s.setEdged_bit tb v (by decide)).trans set
    · exact (s.setEdged_shown tb v (by decide) (by decide)).trans epoch
    · exact (s.setEdged_shown tb v (by decide) (by decide)).trans count
    · exact (s.setEdged_bit tb v (by decide)).trans jumped
    · rw [TbX.count_of_counting (s.setEdged_counting tb v k), s.setJump_others tb v apart]
    · obtain ⟨stopped, pulses, shown⟩ := s.setEdged_stops tb v hf ⟨grid, on, awake, driven⟩
      exact ⟨stopped, pulses, shown⟩

end Sys2Proof.Machine

namespace Sys2Proof.Machine

-- The kernel evaluates the runs below one after another: side by side, each holds a thread while it waits for the declarations before it.
set_option Elab.async false

/-! ## A fuse burn whose cold start restores an image of the start type (18 R454; 19 R475, R482)

An image is restored as one commit of its values, whatever entries they name. One that names the type of the last start puts its default there, so that the
cold start after a burn does not show its own type. -/

/-- An image that holds 0 for the type of the last start. -/
def startTypeImage : StoredImage := { sequence := 0, layout := 0, values := [⟨0xD000, 0x02, [0]⟩] }

/-- A burn of lifecycle group 1 is under way, and slot A holds the image. -/
def burnBeforeImage : State :=
  { security := { State.reset.security with burning := some (1, [], []), groups := [0, 0, 0] }, start := { imageA := some startTypeImage } }

/-- The cold start after it carries out its steps 2 to 9. -/
def imageRun : StartRun := { reached := 9 }

/-! ### The steps of a cold start, one by one -/

/-- What step `n` of a cold start makes of a state. -/
def State.stepped (s : State) (run : StartRun) (n : Nat) : State := ((s.setNat 0xD000 0x0A n).coldStep run n).1

theorem State.coldStep_regions (s : State) (run : StartRun) : s.coldStep run 7 = s.coldRegions run := rfl

theorem State.coldStep_server (s : State) (run : StartRun) : s.coldStep run 8 = (s.startServer, none) := rfl

/-- A step before the last that finds nothing is followed by the next. -/
theorem State.runSteps_passes {s : State} {run : StartRun} {upTo n : Nat} (l : List Nat) (reached : n ≤ upTo) (early : n < 9)
    (sound : ((s.setNat 0xD000 0x0A n).coldStep run n).2 = none) : s.runSteps run upTo 9 (n :: l) = (s.stepped run n).runSteps run upTo 9 l := by
  rw [State.runSteps]
  dsimp only
  rw [if_neg (by omega), if_neg (by omega), if_neg (by decide)]
  unfold State.stepped
  generalize (s.setNat 0xD000 0x0A n).coldStep run n = y at *
  obtain ⟨t, bad⟩ := y
  subst sound
  exact if_neg (by omega)

/-- A start that stands in the step after the last shows of its type what the restore left. -/
theorem State.runSteps_restores {s : State} {run : StartRun} :
    (s.runSteps run 9 9 [9, 10]).nat 0xD000 0x02 = ((s.setNat 0xD000 0x0A 9).restoreImage run).nat 0xD000 0x02 := by
  have shown : ∀ t : State, (t.setNat 0xD000 0x0A 10).nat 0xD000 0x02 = t.nat 0xD000 0x02 := fun t => by
    rw [State.setNat, State.nat_setReg_at _ _ (by decide) (by decide), if_neg (by decide)]
  have step : (s.setNat 0xD000 0x0A 9).coldStep run 9 = ((s.setNat 0xD000 0x0A 9).restoreImage run, none) := rfl
  rw [State.runSteps]
  dsimp only
  rw [if_neg (by decide), if_neg (by decide), if_neg (by decide), step]
  dsimp only
  generalize (s.setNat 0xD000 0x0A 9).restoreImage run = t
  split_ifs
  · rfl
  · rw [State.runSteps]
    dsimp only
    rw [if_pos (by decide)]
    exact shown t

/-- Before step 2. -/
def burnStarted : State :=
  { ({ burnBeforeImage with security := (({ burnBeforeImage.security with burning := none }).burnSlots 1 [] []).burnGroups 1 8 }.coldBase).setNat 0xD000 0x02 5 with
    start := { ({ burnBeforeImage with security := (({ burnBeforeImage.security with burning := none }).burnSlots 1 [] []).burnGroups 1 8 }.coldBase).start with run := some imageRun } }

/-- Before step 7. -/
def burnSynthesised : State := ((((burnStarted.stepped imageRun 2).stepped imageRun 3).stepped imageRun 4).stepped imageRun 5).stepped imageRun 6

/-- With every region's supply up. -/
def State.poweredAll (s : State) : State := (items 8).foldl (fun a g => { a with domains := setBit a.domains g (imageRun.suppliesUp.testBit g) }) s

/-- In step 7. -/
def burnPowered : State := (burnSynthesised.setNat 0xD000 0x0A 7).poweredAll

theorem burnPowered_sound : (burnPowered.collect []).2 = none := by decide +kernel

theorem burnPowered_keeps : (burnPowered.collect []).1.nat 0x1000 0x05 = 0 ∧ (burnPowered.collect []).1.flag 0xD000 0x14 = true ∧
    (burnPowered.collect []).1.start.imageA = some startTypeImage ∧ (burnPowered.collect []).1.start.imageB = none := by decide +kernel

/-- With every supply up and nothing found, step 7 ends with the trims. -/
theorem State.coldRegions_up {s : State} (sound : (s.poweredAll.collect []).2 = none) : s.coldRegions imageRun = ((s.poweredAll.collect []).1.coldTrims, none) := by
  have down : (items 8).filter (fun g => !imageRun.suppliesUp.testBit g) = [] := by decide
  unfold State.coldRegions
  extract_lets up u below bist v
  have none : below = [] := down
  have powered : u = s.poweredAll := rfl
  have raised : v = u := by
    simp only [v, none]
    rfl
  rw [raised, none, powered]
  generalize s.poweredAll.collect [] = y at *
  obtain ⟨t, bad⟩ := y
  subst sound
  rfl

/-! ### What the trims and the server leave for the restore -/

/-- The entries that they write. -/
def coldEntry (i _j : Nat) : Prop := 0x8000 ≤ i ∧ i < 0xC000

theorem State.coldTrims_same (s : State) : SameEntries coldEntry s s.coldTrims := by
  unfold State.coldTrims
  extract_lets u
  have start : SameEntries coldEntry s u := (SameEntries.refl _ s).of_regs rfl
  refine start.trans (.foldl _ fun a l mem => ?_)
  have := List.mem_range.mp mem
  extract_lets code b
  have numbers : SameEntries coldEntry a b := .foldl _ fun x j hj => (SameEntries.refl _ x).setReg (by have := List.mem_range.mp hj; omega) ⟨by omega, by omega⟩
  exact numbers.of_regs rfl

theorem State.startServer_same (s : State) : SameEntries coldEntry s s.startServer := by
  unfold State.startServer
  extract_lets x u
  have start : SameEntries coldEntry s u := (SameEntries.refl _ s).of_regs rfl
  refine start.trans (.foldl _ fun a e mem => ?_)
  have := List.mem_range.mp mem
  extract_lets hb y b
  have engine : SameEntries coldEntry a b := (SameEntries.refl _ a).of_regs rfl
  exact .ite engine (engine.setReg (by decide) ⟨by omega, by omega⟩)

theorem State.startServer_start (s : State) : s.startServer.start = { s.start with server := true } := by
  unfold State.startServer
  extract_lets x u
  exact List.foldlRecOn (motive := fun a : State => a.start = u.start) _ _ rfl fun a same e _ => by
    extract_lets hb y b
    have engine : b.start = u.start := same
    split_ifs
    · exact engine
    · exact engine

/-- Before step 9. -/
def burnTrimmed : State := (burnPowered.collect []).1.coldTrims
def burnServed : State := ((burnTrimmed.setNat 0xD000 0x0A 8).startServer).setNat 0xD000 0x0A 9

theorem burnSynthesised_regions : (burnSynthesised.setNat 0xD000 0x0A 7).coldRegions imageRun = (burnTrimmed, none) := by
  have sound := burnPowered_sound
  unfold burnPowered at sound
  unfold burnTrimmed burnPowered
  exact State.coldRegions_up sound

/-- The image and what it is judged by. -/
structure State.Restorable (s : State) : Prop where
  layout : s.nat 0x1000 0x05 = 0
  restores : s.flag 0xD000 0x14 = true
  slotA : s.start.imageA = some startTypeImage
  slotB : s.start.imageB = none

theorem State.Restorable.of {s t : State} (r : s.Restorable) (same : SameEntries (fun i j => coldEntry i j ∨ (i = 0xD000 ∧ j = 0x0A)) s t)
    (a : t.start.imageA = s.start.imageA) (b : t.start.imageB = s.start.imageB) : t.Restorable := by
  refine ⟨?_, ?_, a.trans r.slotA, b.trans r.slotB⟩
  · rw [same.nat (by decide) (by unfold coldEntry; omega)]; exact r.layout
  · rw [same.flag (by decide) (by unfold coldEntry; omega)]; exact r.restores

theorem State.Restorable.setStep {s : State} (r : s.Restorable) (n : Nat) : (s.setNat 0xD000 0x0A n).Restorable :=
  r.of ((SameEntries.refl _ s).setNat (by decide) (.inr ⟨rfl, rfl⟩)) rfl rfl

theorem burnServed_restorable : burnServed.Restorable := by
  obtain ⟨layout, restores, slotA, slotB⟩ := burnPowered_keeps
  have powered : (burnPowered.collect []).1.Restorable := ⟨layout, restores, slotA, slotB⟩
  have kept := (State.coldTrims_only (burnPowered.collect []).1 (.refl 0x1000000000000006 _) rfl).start rfl
  have trimmed : burnTrimmed.Restorable := powered.of ((State.coldTrims_same _).mono fun _ _ => .inl) (congrArg StartX.imageA kept) (congrArg StartX.imageB kept)
  have served := State.startServer_start (burnTrimmed.setNat 0xD000 0x0A 8)
  exact ((trimmed.setStep 8).of ((State.startServer_same _).mono fun _ _ => .inl) (by rw [served]) (by rw [served])).setStep 9

/-! ### The restore -/

section Restore
variable (s : State)

theorem startTypeImage_apart : ApartValues startTypeImage.values := fun v mem => by
  obtain rfl := List.mem_singleton.mp mem
  exact .inr ⟨by decide, by decide⟩

theorem startTypeImage_ordered : inOrder startTypeImage.values = startTypeImage.values := rfl

theorem State.putAll_image : s.putAll startTypeImage.values = (s.setReg 0xD000 0x02 0, []) := by
  have put : s.putValue ⟨0xD000, 0x02, [0]⟩ = (s.setReg 0xD000 0x02 0, none) := by
    unfold State.putValue
    dsimp only
    rw [show findEntry 0xD000 0x02 = some ⟨0x02, 0x02, .u8, .ro, 0, true, 0, 0, .observe⟩ by decide]
    dsimp only
    rw [show valueRange 0xD000 0x02 ⟨0x02, 0x02, .u8, .ro, 0, true, 0, 0, .observe⟩ [0] = none by decide]
    dsimp only
    rw [if_neg (by decide), if_neg (by decide), if_neg (by decide), if_neg (by decide), if_neg (by decide)]
    rfl
  unfold startTypeImage
  rw [State.putAll, put]
  rfl

theorem State.image_apartFrom : s.ApartFrom (s.putAll (inOrder startTypeImage.values)).1 := by
  rw [startTypeImage_ordered, s.putAll_image]
  exact ⟨(SameEntries.refl _ s).setReg (by decide) (.inr ⟨by decide, by decide⟩), State.setReg_only s _ _ _ (.refl _ s) rfl⟩

/-- Nothing refuses the image. -/
theorem State.firstFailing_image : s.firstFailing { who := 254 } startTypeImage.values imageCommand = none := by
  have judged : s.judgeCommit { who := 254 } startTypeImage.values imageCommand = none := by
    rw [startTypeImage_apart.judgeCommit s.image_apartFrom, List.findSome?_eq_none_iff]
    intro v mem
    rw [startTypeImage_ordered] at mem
    rw [startTypeImage_ordered, s.putAll_image]
    have own := startTypeImage_apart v mem
    obtain rfl := List.mem_singleton.mp mem
    rw [State.judgeValue_apart own rfl rfl, if_neg (by decide), if_neg (by decide)]
  exact Option.map_eq_none_iff.mp judged

/-- Entries that the record of a commit writes. -/
def commitEntry (i _j : Nat) : Prop := 0xF000 ≤ i

theorem State.commitNotices_same (was : State) (w : Writer) (l : List OdValue) : SameEntries commitEntry s (s.commitNotices was w l) := by
  unfold State.commitNotices
  extract_lets changed first last who
  refine .foldl _ fun a n mem => ?_
  extract_lets x
  refine .ite ?_ (.refl _ a)
  unfold State.noticeTo
  extract_lets fresh sent msg
  have sent : (if n = 0 then a else a.sendTo x.route msg).regs = a.regs := by
    split_ifs
    · rfl
    · exact (State.sendTo_only a x.route msg (.refl 0x100000000000000000040 a) rfl).regs rfl
  exact .ite ((SameEntries.refl _ a).of_regs sent) ((SameEntries.refl _ a).setReg (by decide) (by unfold commitEntry; omega))

/-- The type of the last start is not mirrored. -/
theorem State.mirrorCommit_image (was : State) (w : Writer) : s.mirrorCommit was w startTypeImage.values = s := by
  have none : was.mirroredValues startTypeImage.values = [] := by
    unfold State.mirroredValues
    rw [show startTypeImage.values.filter (fun v => mirrored v.index v.sub) = [] by decide]
    rfl
  unfold State.mirrorCommit
  rw [none]
  exact if_pos (by rw [List.filter_nil, List.isEmpty_nil, Bool.or_true])

theorem State.recordCommit_image (was : State) (w : Writer) : SameEntries commitEntry s (s.recordCommit was w startTypeImage.values) := by
  unfold State.recordCommit
  rw [startTypeImage_ordered]
  extract_lets l a b
  refine .ite (.refl _ s) ?_
  have shown : ∀ j, commitEntry 0xF020 j := fun _ => by unfold commitEntry; omega
  have ha : SameEntries commitEntry s a := ((SameEntries.refl _ s).setReg (by decide) (shown _)).setReg (by decide) (shown _)
  have hb : SameEntries commitEntry s b := ha.setReg (by decide) (shown _)
  change SameEntries commitEntry s ((b.mirrorCommit was w startTypeImage.values).commitNotices was w l)
  rw [State.mirrorCommit_image]
  exact hb.trans (b.commitNotices_same was w l)

/-- The commit of the image puts its value, and nothing acts on it. -/
theorem State.commitNow_image (w : Writer) (cmd : State → OdValue → State) : (s.commitNow w startTypeImage.values cmd).nat 0xD000 0x02 = 0 := by
  have none : (inOrder startTypeImage.values).filter (fun v => isCommand v.index v.sub && !(decide (0x6100 ≤ v.index ∧ v.index < 0x6120))) = [] := by decide
  unfold State.commitNow
  dsimp only
  rw [startTypeImage_apart.fireDue, startTypeImage_apart.putCommit s.image_apartFrom, none, startTypeImage_ordered, s.putAll_image]
  exact ((s.setReg 0xD000 0x02 0).recordCommit_image s w).nat (by decide) (by unfold commitEntry; omega) |>.trans
    ((s.nat_setReg_at 0 (by decide) (by decide)).trans (if_pos ⟨rfl, rfl⟩))

end Restore

theorem State.restoreImage_type {s : State} (r : s.Restorable) : (s.restoreImage imageRun).nat 0xD000 0x02 = 0 := by
  obtain ⟨layout, restores, slotA, slotB⟩ := r
  have newest : s.newestImage imageRun.imageAOk imageRun.imageBOk = some startTypeImage := by
    unfold State.newestImage
    rw [slotA, slotB, layout]
    rfl
  have shown : ∀ (t : State) (j v : Nat), j < 256 → j ≠ 0x02 → (t.setNat 0xD000 j v).nat 0xD000 0x02 = t.nat 0xD000 0x02 := fun t j v hj other =>
    (t.nat_setReg_at _ hj (by decide)).trans (if_neg fun same => other same.2)
  have permitted : (s.setNat 0xD000 0x12 startTypeImage.sequence).flag 0xD000 0x14 = true :=
    (s.flag_setReg_at _ (by decide) (by decide)).trans ((if_neg (by decide)).trans restores)
  unfold State.restoreImage
  rw [newest]
  dsimp only
  rw [permitted, if_neg (by decide), State.firstFailing_image]
  exact (shown _ 0x11 1 (by decide) (by decide)).trans (State.commitNow_image _ _ _)

/-! ### The run -/

theorem burnServed_type : (burnServed.restoreImage imageRun).nat 0xD000 0x02 = 0 := State.restoreImage_type burnServed_restorable

theorem burnStarted_runs : (burnStarted.runSteps imageRun 9 9 [2, 3, 4, 5, 6, 7, 8, 9, 10]).nat 0xD000 0x02 = 0 := by
  have bases : ((((((burnStarted.stepped imageRun 2).stepped imageRun 3).stepped imageRun 4).setNat 0xD000 0x0A 5).coldStep imageRun 5)).2 = none := by
    decide +kernel
  have regions : (burnSynthesised.setNat 0xD000 0x0A 7).coldStep imageRun 7 = (burnTrimmed, none) :=
    (State.coldStep_regions _ _).trans burnSynthesised_regions
  have trimmed : burnSynthesised.stepped imageRun 7 = burnTrimmed := by
    rw [State.stepped, regions]
  have server : burnTrimmed.stepped imageRun 8 = (burnTrimmed.setNat 0xD000 0x0A 8).startServer := by
    rw [State.stepped, State.coldStep_server]
  calc (burnStarted.runSteps imageRun 9 9 [2, 3, 4, 5, 6, 7, 8, 9, 10]).nat 0xD000 0x02
    _ = (burnSynthesised.runSteps imageRun 9 9 [7, 8, 9, 10]).nat 0xD000 0x02 := by
        rw [State.runSteps_passes _ (by decide) (by decide) rfl, State.runSteps_passes _ (by decide) (by decide) rfl,
          State.runSteps_passes _ (by decide) (by decide) rfl, State.runSteps_passes _ (by decide) (by decide) bases,
          State.runSteps_passes _ (by decide) (by decide) rfl, burnSynthesised]
    _ = (((burnTrimmed.setNat 0xD000 0x0A 8).startServer).runSteps imageRun 9 9 [9, 10]).nat 0xD000 0x02 := by
        rw [State.runSteps_passes _ (by decide) (by decide) (congrArg Prod.snd regions), trimmed,
          State.runSteps_passes _ (by decide) (by decide) (congrArg Prod.snd (State.coldStep_server _ _)), server]
    _ = (burnServed.restoreImage imageRun).nat 0xD000 0x02 := State.runSteps_restores
    _ = 0 := burnServed_type

/-- A burn ends with the cold start of the state that it leaves. -/
theorem execFuseBurnComplete_begins : exec (.fuseBurnComplete imageRun) burnBeforeImage =
    .next (burnStarted.runSteps imageRun 9 9 [2, 3, 4, 5, 6, 7, 8, 9, 10]) := by
  have resting : ({ burnBeforeImage with security := (({ burnBeforeImage.security with burning := none }).burnSlots 1 [] []).burnGroups 1 8 } : State).isUp = false := by
    decide
  have run : exec (.fuseBurnComplete imageRun) burnBeforeImage =
    .next ({ burnBeforeImage with security := (({ burnBeforeImage.security with burning := none }).burnSlots 1 [] []).burnGroups 1 8 }.beginCold 5 imageRun) := rfl
  rw [run, State.beginCold]
  dsimp only
  rw [resting, if_neg Bool.false_ne_true]
  rfl

/-- Refutes O48: the cold start after a burn restores the newest image as one commit of its values, whatever entries they name. One that holds 0 for
D000h.02 leaves that as the type of the last start, and not 5. No run saves such an image: it holds settings only, which the statement does not ask of the state. -/
theorem not_lifecycleAdvancesByBurning : ¬Obligations.LifecycleAdvancesByBurning := by
  unfold Obligations.LifecycleAdvancesByBurning
  rintro ⟨-, -, -, burned, -⟩
  obtain ⟨t, run, -, type, -⟩ := burned imageRun burnBeforeImage (1, [], []) rfl rfl rfl
  have shown := burnStarted_runs
  rw [Host.Outcome.next.inj (execFuseBurnComplete_begins.symm.trans run), type] at shown
  exact absurd shown (by decide)

end Sys2Proof.Machine
